-- ==== Sys2Proof/Word.lean ====
section
/-! DEFINITION. The word types of the block: the 32-bit register word (R514), the byte and the
half word of frames, records and images (R7). -/
namespace Sys2Proof

/-- A 32-bit little-endian register word (R514). -/
abbrev Word := BitVec 32

/-- A byte of a frame, record, image or memory (R7). -/
abbrev Byte := BitVec 8

/-- A 16-bit half word, as of a tag or a code. -/
abbrev Half := BitVec 16

end Sys2Proof
end

