-- ==== Sys2Proof/Syntax.lean ====
section
/-! DEFINITION. The commands and events of the block (spec/opcode_table.json) and the types of their
operands. -/
namespace Sys2Proof

/-- The four supplies monitored for start-up (R82). -/
inductive Supply where
  | vcore | vcoreS | vio18 | vio33
  deriving DecidableEq, Repr

/-- The level of a three-level strap (R61). -/
inductive Strap where
  | low | high | openPin
  deriving DecidableEq, Repr

/-- The rights class of a request (R405): control port A or B, the maintenance port, the fabric. -/
inductive Cls where
  | A | B | M | F
  deriving DecidableEq, Repr

/-- An origin (R404): the rights class and the entry device, `none` for this device. -/
structure Origin where
  cls : Cls
  dev : Option (BitVec 6)
  deriving DecidableEq, Repr

/-- What a zero measurement is taken on (R176). -/
inductive ZeroTarget where
  | sdi (c : Fin 32)
  | dcs (n : Fin 6)
  deriving DecidableEq, Repr

/-- A sensor whose fault clears (R190): phase current channels, DC-link return path, position. -/
inductive SensorKind where
  | sdi | dcs | enc
  deriving DecidableEq, Repr

/-- A fault of a link's exchange (R364, R389). -/
inductive ExchangeErr where
  | disconnect | parity | escape | sequence | credit
  deriving DecidableEq, Repr

/-- How a request frame reached this device: at one of its own ports (0 CPA, 1 CPB, 2 maintenance), or
in a fabric JCP packet of an entry device (R399, R403). -/
inductive Via where
  | port (p : Fin 3)
  | fabric (dev : BitVec 6) (cls : Cls)
  deriving DecidableEq, Repr

/-- What is quarantined: an origin (R416) or a CAN controller (R437). -/
inductive QuarTarget where
  | origin (o : Origin)
  | can (n : Fin 2)
  deriving DecidableEq, Repr

/-- A CAN frame as received: identifier, formats, data, and how long ago its start-of-frame edge fell,
in ns (Table 3 of the time-base chapter). `esi` is the sender's error state. -/
structure CanFrame where
  id : BitVec 29
  ide : Bool
  fdf : Bool
  brs : Bool
  esi : Bool
  rtr : Bool
  data : List Byte
  sofAge : Nat
  deriving DecidableEq, Repr

/-- A transmit slot of a CAN controller (R438). -/
inductive TxSlot where
  | safety (c : Fin 16)
  | periodic (k : Fin 8)
  | host (h : Fin 4)
  deriving DecidableEq, Repr

/-- What went wrong with a CAN frame (R439): an error on the bus while receiving, an error while a slot
was being sent, or lost arbitration. `sameId`: the lost or failing frame met a frame of the same
identifier (R441). -/
inductive CanErr where
  | rx
  | tx (slot : TxSlot) (sameId : Bool) (sofAge : Nat)
  | arbLost (slot : TxSlot) (sofAge : Nat)
  deriving DecidableEq, Repr

/-- What a page read gave (R472, R480): the most bits corrected in a chunk, whether a chunk could not be corrected (the
first such chunk), and, where it could, the tag's area and identifier, the offset of the first record header in the
page (0xFFFF for none) and the valid bytes of the main area. -/
structure ReadResult where
  corrected : Nat
  uncorrectable : Option Nat
  area : Nat
  id : Nat
  first : Nat
  data : List Byte
  deriving DecidableEq, Repr

/-- A programmed block that a mount found: its number, the area and identifier of its page-0 tag, the sequences in the tags of
its pages up to the first erased one, first record TIME of page 0, the erase count of its tag, and the capture slots that
pin it. -/
structure MountBlock where
  b : Nat
  area : Nat
  id : Nat
  seqs : List Nat
  time : Nat
  ec : Nat
  pins : BitVec 16
  deriving DecidableEq, Repr

/-- The META entry that a mount goes by (Table 3 of the recorder chapter): written by this device or by another, the format
generation, the checkpoint, the EVENT directory (state, triggers, first and last TIME) and the DUMP directory
(state, length, TIME). -/
structure MountMeta where
  own : Bool
  gen : Nat
  checkpoint : Nat
  event : List (Nat × Nat × Nat × Nat)
  dump : List (Nat × Nat × Nat)
  deriving DecidableEq, Repr

/-- The dump pages that a mount finds above the checkpoint (R506): their slot, the bytes up to the first page that does not
decode, and from the dump's header t_F, cause, source, originating device (64 for none), lateness, and whether the dump
had failed. -/
structure DumpFound where
  slot : Fin 4
  bytes : Nat
  time : Nat
  cause : Nat
  source : Nat
  origin : Nat
  late : Nat
  failed : Bool
  deriving DecidableEq, Repr

/-- What a mount finds on the targets (R483): which answered, whether their geometry is that of the image, the META entry,
whether any page carries a valid tag, the bad blocks, the programmed blocks, the torn pages, the last page sequence and
a dump above the checkpoint. -/
structure MountReport where
  targetsOk : BitVec 4
  geometryOk : Bool
  entry : Option MountMeta
  anyTag : Bool
  bad : List Nat
  blocks : List MountBlock
  torn : Nat
  lastSeq : Nat
  dump : Option DumpFound
  deriving DecidableEq, Repr


/-- The commands and events of the block: one constructor per row of the table of operations and events.
Every command carries `dt`, the number of 2 ns ticks that have passed since the command before it (log 1). Where each safety channel does
a thing by itself, `bronze` says which of the two does it (R319). -/
inductive Instr where
  /-- `RESET_ASSERT` (R84): RESET_N held low for 10 µs or longer takes the device to held COLD from any mode. -/
  | resetAssert (dt : Nat)
  /-- `SUPPLY_LOSS` (R84): A monitored supply that stays below its falling threshold for its filter time takes the device to held COLD. -/
  | supplyLoss (dt : Nat) (sup : Supply)
  /-- `SUPPLIES_GOOD` (R82): The four monitored supplies have stayed above their thresholds for 2 ms, which may fix the release instant. -/
  | suppliesGood (dt : Nat)
  /-- `RESET_RELEASE` (R82): At the later of the RESET_N rise and supplies good, the device samples the straps and starts the PLL. -/
  | resetRelease (dt : Nat) (refsel1 refsel0 : Strap) (cfgselHigh : Bool)
  /-- `PLL_LOCK` (R65): The PLL locks, TB_NOW starts counting from 0 and TB_STAT.LOCK is set. -/
  | pllLock (dt : Nat)
  /-- `PLL_LOCK_TIMEOUT` (R64): A PLL not locked within 200 µs of the release leaves the device in failed COLD with reason REF_LOSS. -/
  | pllLockTimeout (dt : Nat)
  /-- `LOAD_ENTRY` (R88): After the edge placement units are calibrated the device enters LOAD and starts reading the first image copy. -/
  | loadEntry (dt : Nat) (keepOk : Bool)
  /-- `IMAGE_HEADER_READ` (R555): The 64-byte header of a copy has been read and is checked against the header rules. -/
  | imageHeaderRead (dt : Nat) (bytes : List Byte)
  /-- `SECTION_HEADER_READ` (R555): A section header has been read and its ID, COUNT and length are checked. -/
  | sectionHeaderRead (dt : Nat) (bytes : List Byte)
  /-- `IMAGE_ENTRY_READ` (R94): One image entry has been read, checked and placed in the shadow unless an earlier entry of the section failed. -/
  | imageEntryRead (dt : Nat) (addr naddr value nvalue : Word)
  /-- `SECTION_CRC_READ` (R555): The section CRC has been read, deciding the section and, after the last section, the end-of-image checks. -/
  | sectionCrcRead (dt : Nat) (scrc pad : Word)
  /-- `HOLD_ENTRY` (R110): The shadow of a passing copy is applied to all blocks and the device enters HOLD, starting links, CAN, recorder and connections. -/
  | holdEntry (dt : Nat) (freezeLow : Bool)
  /-- `REFCLK_LOSS` (R63): Missing or off-frequency REFCLK puts the PLL in holdover, writes a TIME record and is a device-wide stop cause. -/
  | refclkLoss (dt : Nat) (offFrequency : Bool)
  /-- `REFCLK_BACK` (R64): REFCLK valid for 10 ms ends holdover without stepping the counter and allows HOLD to DRIVE again. -/
  | refclkBack (dt : Nat)
  /-- `EPU_CALIBRATION` (R70): Each edge placement unit recalibrates its delay line against the tick at least every 10 µs. -/
  | epuCalibration (dt : Nat) (u : Fin 11) (spans : Bool)
  /-- `TB_NOW_LO_READ` (R68): A read of TB_NOW_LO latches the upper 32 bits for the next TB_NOW_HI read from the same port. -/
  | tbNowLoRead (dt : Nat) (o : Origin)
  /-- `SAMPLE_INSTANT` (R206): At a carrier extreme the SDI spans open, the position is captured and the inputs of a main-axis update are taken. -/
  | sampleInstant (dt : Nat) (n : Fin 6) (hsUv : BitVec 3)
  /-- `CURRENT_LOOP_UPDATE` (R51): When its inputs are available and the engine is free, the engine runs reconstruction, cross-check, current loop, observer and modulation. -/
  | currentLoopUpdate (dt : Nat) (n : Fin 6) (yU yV yW : Rat)
  /-- `EDGE_SET_POSTED` (R29): The engine posts the edge set of an update to its edge placement unit and the sentinel records the ready instant. -/
  | edgeSetPosted (dt : Nat) (a : Fin 10)
  /-- `EDGE_UPDATE_INSTANT` (R50): The edge placement unit takes the posted set, or repeats the previous one on a miss. -/
  | edgeUpdateInstant (dt : Nat) (a : Fin 10)
  /-- `LATE_RESULT_DISCARDED` (R50): A late result completes and is discarded with all its state changes. -/
  | lateResultDiscarded (dt : Nat) (a : Fin 10)
  /-- `LATE_REACT` (R52): The second consecutive miss selects the axis LATE reaction, halving the PWM or ramp stop. -/
  | lateReact (dt : Nat) (a : Fin 10)
  /-- `LATE_BRIDGE_OFF` (R54): The eighth consecutive miss turns the bridge off and puts the axis in HALT with reason LATE. -/
  | lateBridgeOff (dt : Nat) (a : Fin 10)
  /-- `SLACK_WINDOW_CLOSE` (R49): At the close of a 100 ms window the device writes one SLACK record. -/
  | slackWindowClose (dt : Nat) (a : Fin 10)
  /-- `LATE_CLEAR` (R55): A halved axis that has met the clearance conditions for 1 s sets CLEAR_OK and writes LATE_CLEAR. -/
  | lateClear (dt : Nat) (n : Fin 6)
  /-- `PWM_FREQUENCY_CHANGE` (R205): A committed or halved PWM frequency takes effect at the first carrier valley at or after its boundary. -/
  | pwmFrequencyChange (dt : Nat) (a : Fin 10)
  /-- `OUTER_TICK_BOUNDARY` (R67): At an outer-tick boundary references, mode changes and committed sets take effect and the next tick work starts. -/
  | outerTickBoundary (dt : Nat)
  /-- `OUTER_TICK_WORK` (R43): The supervisor selects sources, runs loops, shares, validates COMMIT and emits records for one tick. -/
  | outerTickWork (dt : Nat) (sensors : List (Rat × Rat)) (vdrv v24s : Rat)
  /-- `TICK_OVERRUN_STOP` (R58): Four consecutive overruns set stop-cause bit 4 and enter BRAKE from DRIVE or LIMP. -/
  | tickOverrunStop (dt : Nat)
  /-- `DOMAIN_SKEW_LIMIT` (R46): A domain pair above a limit on 10 consecutive ticks is a device-wide stop cause. -/
  | domainSkewLimit (dt : Nat) (p : Fin 9)
  /-- `DOMAIN_SKEW_HOLDOFF_END` (R46): A pair below both limits for 1 s ends the skew hold-off on HOLD to DRIVE. -/
  | domainSkewHoldoffEnd (dt : Nat)
  /-- `TICK_CLR` (R57): Writing DEV_TICK_CLR clears the largest tick time and the overrun count. -/
  | tickClr (dt : Nat) (o : Origin) (w : Word)
  /-- `SNT_CLR` (R49): Writing an axis SNT_CLR clears its smallest slack and sentinel counts. -/
  | sntClr (dt : Nat) (o : Origin) (a : Fin 10) (w : Word)
  /-- `REGISTER_WRITE` (R17): A write to a register word without a row of its own is checked for access, pairing and range and then acts by its access code. -/
  | registerWrite (dt : Nat) (o : Origin) (maint : Bool) (addr value : Word)
  /-- `STAGED_WRITE` (R101): A token-holder write to an RS field is range-checked and enters the staging bank. -/
  | stagedWrite (dt : Nat) (o : Origin) (addr value : Word)
  /-- `STG_DISCARD` (R102): Writing DEV_STG_DISCARD.GO empties an unlocked staging bank. -/
  | stgDiscard (dt : Nat) (o : Origin) (w : Word)
  /-- `COMMIT` (R103): Completing the DEV_COMMIT pair is accepted and locks the bank, or is refused by reason. -/
  | commit (dt : Nat) (o : Origin) (tag : BitVec 16)
  /-- `DRIVE_REQUEST` (R113): A drive request from the token holder is tested against the blocking conditions and accepted for the next tick. -/
  | driveRequest (dt : Nat) (o : Origin)
  /-- `HOLD_REQUEST` (R112): A HOLD request in DRIVE or LIMP is a stop cause leading through BRAKE to HOLD. -/
  | holdRequest (dt : Nat) (o : Origin)
  /-- `LIMP_ACKNOWLEDGE` (R115): A LIMP acknowledge with DEV_DEGR zero returns the device to DRIVE at the next boundary. -/
  | limpAcknowledge (dt : Nat) (o : Origin)
  /-- `BRAKE_TMO` (R120): Expiry of the BRAKE timeout puts every moving axis in HALT with its TIMEOUT reaction. -/
  | brakeTmo (dt : Nat)
  /-- `HS_UV_SET` (R143): A high-side under-voltage comparator sets on a switching axis and refresh insertion begins. -/
  | hsUvSet (dt : Nat) (a : Fin 10) (leg : Fin 4) (millivolt : Nat)
  /-- `BST_UV` (R144): Eight consecutive counted refresh periods put the axis in HALT with reason BST_UV. -/
  | bstUv (dt : Nat) (a : Fin 10) (millivolt : Nat)
  /-- `BST_REFRESH_END` (R145): No high-side under-voltage for 1 s of running ends refresh insertion. -/
  | bstRefreshEnd (dt : Nat) (a : Fin 10) (millivolt : Nat)
  /-- `HS_SUPPLY_READY` (R142): A waiting start proceeds once every high-side supply of the axis reads at least 9.0 V. -/
  | hsSupplyReady (dt : Nat) (a : Fin 10)
  /-- `BST_START_TIMEOUT` (R142): High-side supplies not ready within 50 ms put the starting axis in HALT with reason BST_UV. -/
  | bstStartTimeout (dt : Nat) (a : Fin 10) (lowLegs : BitVec 4) (millivolt : Nat)
  /-- `DESAT_TRIP` (R146): A desaturation comparator trips and the axis takes soft turn-off, latch and HALT. -/
  | desatTrip (dt : Nat) (a : Fin 10) (leg : Fin 4) (high : Bool)
  /-- `FAST_COMPARATOR_TRIP` (R147): The DC-link return current exceeds FAST_I and soft turn-off starts. -/
  | fastComparatorTrip (dt : Nat) (n : Fin 6)
  /-- `LINK_FAULT_RETURN` (R132): A filtered low fault return from an external driver trips the axis. -/
  | linkFaultReturn (dt : Nat) (a : Fin 10) (leg : Fin 4) (low : Bool)
  /-- `SOFT_TURN_OFF_END` (R148): After 2.0 to 2.2 µs of soft sink the switches get full sink and the Miller clamp. -/
  | softTurnOffEnd (dt : Nat) (a : Fin 10)
  /-- `SHORT_ASC_ENTRY` (R150): 3.0 µs after a single-leg desaturation trip the axis enters ASC on the tripped side. -/
  | shortAscEntry (dt : Nat) (n : Fin 6)
  /-- `VDRV_UV` (R156): The VDRV under-voltage monitor sets, turning off every half-bridge and halting running axes. -/
  | vdrvUv (dt : Nat) (millivolt : Nat)
  /-- `VDRV_OV` (R156): The VDRV over-voltage monitor sets, turning off every half-bridge and halting running axes. -/
  | vdrvOv (dt : Nat) (millivolt : Nat)
  /-- `VDRV_MONITOR_CLEAR` (R155): A VDRV monitor clears and axes may leave READY again. -/
  | vdrvMonitorClear (dt : Nat) (ov : Bool)
  /-- `ASC_SWITCH_ON` (R157): After the dead-time interval the switches of the chosen side turn on together. -/
  | ascSwitchOn (dt : Nat) (n : Fin 6) (lowestMillivolt : Nat)
  /-- `CHOPPER_FAULT` (R162): A chopper leg detector trips, latching the leg off and writing CHOPPER_FAULT. -/
  | chopperFault (dt : Nat) (c : Fin 4)
  /-- `CHOPPER_CLEAR` (R162): Writing GD_CHP_CLR clears the latches of named legs whose detectors are inactive. -/
  | chopperClear (dt : Nat) (o : Origin) (w : Word)
  /-- `SELFTEST_START` (R164): Completing the GD_ST_CMD pair starts comparator self-tests or is refused. -/
  | selftestStart (dt : Nat) (o : Origin) (mask : Word)
  /-- `SELFTEST_TEST_DONE` (R163): One comparator test ends and the next test of the request starts. -/
  | selftestTestDone (dt : Nat) (pass : Bool)
  /-- `FAST_FILTER_OUTPUT` (R174): A sinc2 fast-filter output is compared with FAST_LIM and the count updated. -/
  | fastFilterOutput (dt : Nat) (c : Fin 32) (y : Rat)
  /-- `PHASE_OC` (R174): FAST_N consecutive outputs above the limit put the axis in HALT with reason PHASE_OC. -/
  | phaseOc (dt : Nat) (c : Fin 32)
  /-- `SDI_STUCK` (R175): 64 identical bits set STUCK, write SDI_STUCK and declare a phase channel faulty. -/
  | sdiStuck (dt : Nat) (c : Fin 32) (level : Bool)
  /-- `SDI_STUCK_CLEAR` (R175): STUCK clears after 1 s without a run of 64. -/
  | sdiStuckClear (dt : Nat) (c : Fin 32)
  /-- `ZERO_MEASUREMENT_END` (R176): A 10 ms zero-offset average ends and replaces or fails the offset. -/
  | zeroMeasurementEnd (dt : Nat) (target : ZeroTarget) (average : Rat)
  /-- `DCS_HOLD` (R178): The DCSn track-and-hold holds at a planned instant and a conversion starts. -/
  | dcsHold (dt : Nat) (n : Fin 6)
  /-- `DCS_CONVERSION_DONE` (R177): A DCSn conversion completes and its value goes to the engine. -/
  | dcsConversionDone (dt : Nat) (n : Fin 6) (code : BitVec 12) (volts : Rat)
  /-- `DCS_CONVERSION_TIMEOUT` (R179): A DCSn conversion not complete 1 µs after its hold is not used. -/
  | dcsConversionTimeout (dt : Nat) (n : Fin 6)
  /-- `SDI_FAULT` (R187): A declared SDI channel fault moves the axis to reconstruction and toward LIMP. -/
  | sdiFault (dt : Nat) (n : Fin 6) (phase : Fin 3) (cause : Fin 4)
  /-- `DCS_FAULT` (R188): A declared DC-link return path fault moves the axis to SDI only and toward LIMP. -/
  | dcsFault (dt : Nat) (n : Fin 6) (cause : Fin 4)
  /-- `SENSE_LOST` (R189): No plausible current measurement puts the axis in HALT with reason SENSE_LOST. -/
  | senseLost (dt : Nat) (n : Fin 6) (cse : Fin 5)
  /-- `PRED_LIMIT` (R183): pred_run exceeding PRED_MAX pauses the comparison and writes PRED_LIMIT. -/
  | predLimit (dt : Nat) (n : Fin 6)
  /-- `SENSOR_BACK` (R190): A faulty sensor agreeing for 1 s clears its degradation bit and writes SENSOR_BACK. -/
  | sensorBack (dt : Nat) (n : Fin 6) (kind : SensorKind)
  /-- `AIN_HOLD` (R193): A scheduled or scan input is held and converted. -/
  | ainHold (dt : Nat) (c : Fin 32)
  /-- `AIN_CONVERSION_DONE` (R192): A general analog conversion completes and its value is scaled and used. -/
  | ainConversionDone (dt : Nat) (c : Fin 32) (volts : Rat)
  /-- `AIN_RANGE` (R194): Four consecutive out-of-range conversions set RANGE and write AIN_RANGE. -/
  | ainRange (dt : Nat) (c : Fin 32)
  /-- `ENC_EDGE` (R197): A filtered A, B or Z edge of an ABZ interface is counted. -/
  | encEdge (dt : Nat) (e : Fin 6) (a b z : Bool)
  /-- `ENC_ILLEGAL_LIMIT` (R198): More than ILL_MAX illegal transitions in 1 s are a position fault. -/
  | encIllegalLimit (dt : Nat) (e : Fin 6)
  /-- `ENC_SPEED_TIMEOUT` (R197): No edge for 10 ms makes the ABZ speed read zero. -/
  | encSpeedTimeout (dt : Nat) (e : Fin 6)
  /-- `SERIAL_TRANSFER_DONE` (R199): A synchronous serial transfer ends and its position is decoded or discarded. -/
  | serialTransferDone (dt : Nat) (e : Fin 6) (lineHigh : Bool) (bits : Word) (parity : Bool)
  /-- `SERIAL_POSITION_FAULT` (R200): Three discarded transfers in a row are a serial position fault. -/
  | serialPositionFault (dt : Nat) (e : Fin 6)
  /-- `ENC_OBSERVER_MISMATCH` (R201): Encoder and observer angles differing by over 30° for 50 ms are a position fault. -/
  | encObserverMismatch (dt : Nat) (n : Fin 6)
  /-- `RCN_CLR` (R180): Writing SNS_AXn_RCN_CLR clears the shift and prediction counters. -/
  | rcnClr (dt : Nat) (o : Origin) (n : Fin 6) (w : Word)
  /-- `CATCH_DONE` (R223): A CATCH measurement gives its result and the axis takes over, reverses or starts from standstill. -/
  | catchDone (dt : Nat) (n : Fin 6) (speed : Rat) (angle : Word)
  /-- `CATCH_FAIL` (R224): A CATCH measurement without result 20 ms after entry turns the bridge off or halts on the second failure. -/
  | catchFail (dt : Nat) (n : Fin 6)
  /-- `CATCH_RETRY` (R224): CATCH repeats 100 ms after a first failure. -/
  | catchRetry (dt : Nat) (n : Fin 6)
  /-- `IF_ALIGN_END` (R220): The I-f alignment ends after IF_ALIGN_T and the frame ramp starts. -/
  | ifAlignEnd (dt : Nat) (n : Fin 6)
  /-- `IF_BLEND_END` (R220): The handover blend ends and the axis runs on the observer in RUN. -/
  | ifBlendEnd (dt : Nat) (n : Fin 6)
  /-- `LOS` (R233): A loss of synchronism is declared and the axis enters ASC or coasts into CATCH. -/
  | los (dt : Nat) (n : Fin 6)
  /-- `REACQUIRED` (R228): Re-acquisition held for LOCK_T ends an ASC of cause 1 or 3 and resumes the axis. -/
  | reacquired (dt : Nat) (n : Fin 6)
  /-- `ASC_REACQ_TIMEOUT` (R228): No re-acquisition within ASC_REACQ_T turns the ASC into cause 2 with reason LOS_REPEAT. -/
  | ascReacqTimeout (dt : Nat) (n : Fin 6)
  /-- `ASC_EXIT` (R229): Speed below 0.8 n_ASC for 10 ms ends a cause-2 ASC into HALT. -/
  | ascExit (dt : Nat) (n : Fin 6)
  /-- `ASC_BLIND_HOLD_END` (R230): The blind ASC hold ends and the axis enters CATCH or HALT. -/
  | ascBlindHoldEnd (dt : Nat) (n : Fin 6)
  /-- `AXIS_CMD_STOP` (R243): Command mode 0 ramps the axis to zero and then READY. -/
  | axisCmdStop (dt : Nat) (o : Origin) (n : Fin 6)
  /-- `AXIS_CMD_SPEED` (R248): Command mode 1 runs the axis on the speed ramp and loop. -/
  | axisCmdSpeed (dt : Nat) (o : Origin) (n : Fin 6) (heave : Bool)
  /-- `AXIS_CMD_TORQUE` (R250): Command mode 2 runs the axis in torque mode with slew and speed limiter. -/
  | axisCmdTorque (dt : Nat) (o : Origin) (n : Fin 6) (heave : Bool)
  /-- `AXIS_CMD_TENSION` (R251): Command mode 3 runs the axis in the tension loop. -/
  | axisCmdTension (dt : Nat) (o : Origin) (n : Fin 6) (heave : Bool)
  /-- `AXIS_SETPOINT_WRITE` (R242): Completing the AXn_CMD_SET pair is range-checked and read by the next tick. -/
  | axisSetpointWrite (dt : Nat) (o : Origin) (n : Fin 6) (value : Word)
  /-- `CAN_LOST` (R240): A CAN binding that times out while it is the source writes CAN_LOST. -/
  | canLost (dt : Nat) (n : Fin 6)
  /-- `STANDSTILL_REACHED` (R243): Speed below SPD_STILL for 100 ms ends a stop with the bridge off. -/
  | standstillReached (dt : Nat) (n : Fin 6)
  /-- `AXIS_CLEAR_COMMAND` (R246): Completing the DEV_AXCLR pair accepts or refuses each named axis for clearing. -/
  | axisClearCommand (dt : Nat) (o : Origin) (ax : BitVec 6) (aux : BitVec 4)
  /-- `RENDER_END` (R252): Tension below the release level for RND_HOLD ends render. -/
  | renderEnd (dt : Nat) (n : Fin 6)
  /-- `HEAVE_REFERENCE_INPUT` (R253): Completing the AXn_HC_IN_A pair takes a heave reference sample. -/
  | heaveReferenceInput (dt : Nat) (o : Origin) (n : Fin 6) (frameAge : Nat) (accel : Word)
  /-- `HEAVE_STALE` (R253): A heave reference older than HC_AGE_MAX fades n_ff to zero. -/
  | heaveStale (dt : Nat) (n : Fin 6)
  /-- `OVERTEMP` (R258): Winding temperature at TH_TTRIP for 1 s halts the axis with reason OVERTEMP. -/
  | overtemp (dt : Nat) (n : Fin 6)
  /-- `IMPACT_HOLD_END` (R260): The boost or yield hold ends after IMP_HOLD. -/
  | impactHoldEnd (dt : Nat) (n : Fin 6)
  /-- `ICE_STALL` (R262): A stall for ICE_STALL_T starts the ice free-up or halts after RETRY_MAX. -/
  | iceStall (dt : Nat) (n : Fin 6)
  /-- `ICE_PAUSE_END` (R262): The ice pause ends and the free-up speed is commanded. -/
  | icePauseEnd (dt : Nat) (n : Fin 6)
  /-- `ICE_BACK_END` (R262): The free-up ends and the axis ramps back to its command. -/
  | iceBackEnd (dt : Nat) (n : Fin 6)
  /-- `STOP_TMO` (R264): A LATE or fault ramp not ended by STOP_TMO turns the bridge off. -/
  | stopTmo (dt : Nat) (n : Fin 6)
  /-- `CRASH_STOP` (R266): Completing the AXn_CRASH pair orders a crash stop from the next boundary. -/
  | crashStop (dt : Nat) (o : Origin) (n : Fin 6) (w : Word)
  /-- `DC_CRIT` (R269): A DC-link critical condition for CRIT_T sets stop-cause bit 0. -/
  | dcCrit (dt : Nat) (n : Fin 6) (high : Bool)
  /-- `DC_LIMIT_END` (R268): A factor at 1 for 100 ms writes the DC_LIMIT end record. -/
  | dcLimitEnd (dt : Nat) (n : Fin 6) (regen : Bool)
  /-- `SHARE_REPORT_RECEIVED` (R277): A REPORT packet from a group device is taken for the next division. -/
  | shareReportReceived (dt : Nat) (sender : BitVec 6) (payload : List Byte)
  /-- `SHARE_RECEIVED` (R278): A SHARE packet sets member references for its apply instant, or is discarded if late. -/
  | shareReceived (dt : Nat) (sender : BitVec 6) (payload : List Byte)
  /-- `MEMBER_LOST` (R290): A member lost at the leader applies the loss policy. -/
  | memberLost (dt : Nat) (g : Fin 16) (slot : Fin 32)
  /-- `DESYNC_GRACE_END` (R292): The desync grace expires and the device members are no longer live. -/
  | desyncGraceEnd (dt : Nat) (g : Fin 16)
  /-- `AUX_UPDATE` (R299): An auxiliary axis samples winding currents at the valley and regulates them. -/
  | auxUpdate (dt : Nat) (x : Fin 4) (vA1 vA2 vB1 vB2 : Rat) (hsUv : BitVec 4)
  /-- `AUX_STALL` (R303): A stall persisting for STALL_T ends motion or serves homing. -/
  | auxStall (dt : Nat) (x : Fin 4)
  /-- `HOLD_CURRENT_DELAY_END` (R301): After HOLD_DLY at zero speed the current falls to I_HOLD. -/
  | holdCurrentDelayEnd (dt : Nat) (x : Fin 4)
  /-- `AUX_CMD_STOP` (R304): Auxiliary mode 0 ramps to zero, settles and enters READY. -/
  | auxCmdStop (dt : Nat) (o : Origin) (x : Fin 4)
  /-- `AUX_CMD_VELOCITY` (R304): Auxiliary mode 1 runs the axis at the signed speed setpoint. -/
  | auxCmdVelocity (dt : Nat) (o : Origin) (x : Fin 4)
  /-- `AUX_CMD_POSITION` (R304): Auxiliary mode 2 moves the axis to the target and holds it. -/
  | auxCmdPosition (dt : Nat) (o : Origin) (x : Fin 4)
  /-- `AUX_CMD_HOME` (R310): Auxiliary mode 3 runs the homing procedure. -/
  | auxCmdHome (dt : Nat) (o : Origin) (x : Fin 4)
  /-- `AUX_SETPOINT_WRITE` (R304): Completing the AUXn_CMD_SET pair is range-checked and read by the next tick. -/
  | auxSetpointWrite (dt : Nat) (o : Origin) (x : Fin 4) (value : Word)
  /-- `AUX_TARGET_WRITE` (R304): Completing the AUXn_CMD_POS pair sets the target read by the next tick. -/
  | auxTargetWrite (dt : Nat) (o : Origin) (x : Fin 4) (value : Word)
  /-- `AUX_MOVE_DONE` (R304): A commanded auxiliary move reaches its target or standstill. -/
  | auxMoveDone (dt : Nat) (x : Fin 4)
  /-- `AUX_STOP_SETTLE_END` (R304): The settle hold of a stop ends and the bridge turns off into READY. -/
  | auxStopSettleEnd (dt : Nat) (x : Fin 4)
  /-- `AUX_STILL_SET` (R313): Energised at zero speed for KEEP_SETTLE sets STILL. -/
  | auxStillSet (dt : Nat) (x : Fin 4)
  /-- `START_CHECK_END` (R315): The start check ends and the command proceeds or the position is lost. -/
  | startCheckEnd (dt : Nat) (x : Fin 4)
  /-- `LIMIT_INPUT_CHANGE` (R307): A limit input changes its filtered state after FILT. -/
  | limitInputChange (dt : Nat) (x : Fin 4) (positive high : Bool)
  /-- `LIM_CHATTER` (R309): More than 8 changes in 100 ms declare chatter and inhibit motion toward the limit. -/
  | limChatter (dt : Nat) (x : Fin 4) (positive : Bool)
  /-- `LIM_CLR` (R309): Writing AUXn_LIM_CLR clears a chatter inhibit. -/
  | limClr (dt : Nat) (o : Origin) (x : Fin 4) (w : Word)
  /-- `COBALT_SAMPLE` (R320): Cobalt samples the safe pins every 50 µs. -/
  | cobaltSample (dt : Nat) (edm : BitVec 4)
  /-- `COBALT_SCAN` (R320): Cobalt runs a scan every 100 µs evaluating inputs, functions and connections. -/
  | cobaltScan (dt : Nat) (sramOk instrOk inTime : Bool)
  /-- `SAFETY_COMPARE` (R321): Every 500 µs Cobalt and Bronze exchange compare sets and check for mismatch. -/
  | safetyCompare (dt : Nat) (differs : Bool)
  /-- `COMPARE_STALE` (R322): No valid compare set for 1.5 ms removes torque and latches a channel fault. -/
  | compareStale (dt : Nat) (atBronze : Bool)
  /-- `VCORE_S_WINDOW` (R323): VCORE_S outside its window for 10 µs makes Bronze remove torque. -/
  | vcoreSWindow (dt : Nat)
  /-- `COBALT_ROM_CHECK` (R324): Every 10 min Cobalt checks its ROM CRC. -/
  | cobaltRomCheck (dt : Nat) (ok : Bool)
  /-- `MIRROR_STALE` (R325): A SAF mirror not updated for 2 ms makes the supervisor enter SAFE. -/
  | mirrorStale (dt : Nat)
  /-- `SAFE_INPUT_EDGE` (R327): A raw edge on a safe input starts its filter and is stamped. -/
  | safeInputEdge (dt : Nat) (p : Fin 9) (chB level : Bool)
  /-- `SAFE_INPUT_FILTERED` (R327): A safe input channel changes its filtered state after FILT. -/
  | safeInputFiltered (dt : Nat) (p : Fin 9) (chB : Bool)
  /-- `DISCREPANCY_FAULT` (R328): Channels of a pair disagreeing longer than DISC latch a discrepancy fault. -/
  | discrepancyFault (dt : Nat) (p : Fin 9) (bronze : Bool := false)
  /-- `TEST_PULSE_START` (R329): A TPO output goes dark for its test pulse. -/
  | testPulseStart (dt : Nat) (tpo1 : Bool)
  /-- `TEST_PULSE_END` (R329): At the end of a pulse and of REC the fed channels are checked. -/
  | testPulseEnd (dt : Nat) (tpo1 afterRec : Bool) (levels : BitVec 8) (bronze : Bool := false)
  /-- `V24S_OUT` (R330): V24S out of window for 5 ms latches a V24S fault and removes torque. -/
  | v24sOut (dt : Nat) (millivolt : Nat) (bronze : Bool := false)
  /-- `V24S_BACK` (R330): V24S in window for 100 ms clears the V24S fault. -/
  | v24sBack (dt : Nat) (millivolt : Nat) (bronze : Bool := false)
  /-- `SS1_STO` (R335): The SS1 time T expires and STO acts. -/
  | ss1Sto (dt : Nat) (bronze : Bool)
  /-- `SS1R_STANDSTILL` (R336): All monitored axes at standstill for 10 ms start the SBC lead. -/
  | ss1rStandstill (dt : Nat) (bronze : Bool := false)
  /-- `AXIS_DATA_STALE` (R336): Axis data older than 2 ms during SS1-r gives STO. -/
  | axisDataStale (dt : Nat)
  /-- `SBC` (R343): An SBC output switches off at its lead instant. -/
  | sbc (dt : Nat) (k : Fin 4) (bronze : Bool := false)
  /-- `PATH_CHECK_TIMEOUT` (R339): Both torque paths not acted within 1 ms of STO is a channel fault. -/
  | pathCheckTimeout (dt : Nat)
  /-- `PATH_TEST_DUE` (R340): SAF_PT_AGE exceeding PT_MAX sets PT_DUE and writes PATH_TEST. -/
  | pathTestDue (dt : Nat)
  /-- `SO_DARK_TEST_START` (R344): A channel switches its output switch off for a dark test. -/
  | soDarkTestStart (dt : Nat) (k : Fin 4) (bronze : Bool)
  /-- `SO_DARK_TEST_END` (R344): At the end of TPW the output voltage is checked. -/
  | soDarkTestEnd (dt : Nat) (k : Fin 4) (bronze : Bool) (millivolt : Nat)
  /-- `SO_OFF_VOLTAGE_FAULT` (R344): An output above 12 V for 1 ms while commanded off has a fault. -/
  | soOffVoltageFault (dt : Nat) (k : Fin 4) (millivolt : Nat) (bronze : Bool := false)
  /-- `EDM_TIMEOUT` (R345): EDM not following a switch within EDM_T is an output fault. -/
  | edmTimeout (dt : Nat) (k : Fin 4) (bronze : Bool := false)
  /-- `SRST_PRESS` (R348): A raw SRST press edge starts its measurement and Bronze timer. -/
  | srstPress (dt : Nat)
  /-- `SRST_BRONZE_TIMER` (R348): Bronze's 70 ms SRST timer expires during the press. -/
  | srstBronzeTimer (dt : Nat)
  /-- `SRST_RELEASE` (R348): The SRST release judges the press as accepted, refused or ignored. -/
  | srstRelease (dt : Nat)
  /-- `SRST_STUCK` (R349): SRST held for 30 s is SRST_STUCK. -/
  | srstStuck (dt : Nat)
  /-- `SRST_LOW_TIMER` (R349): SRST reading low for 1 s lets a press end SRST_STUCK. -/
  | srstLowTimer (dt : Nat)
  /-- `ENVELOPE_RECEIVED` (R356): A consumed safety envelope is checked and accepted or discarded. -/
  | envelopeReceived (dt : Nat) (c : Fin 16) (envelope : List Byte)
  /-- `CONNECTION_LOST` (R356): The consumer watchdog expires, the connection bits read 0 and its cause latches. -/
  | connectionLost (dt : Nat) (c : Fin 16) (bronze : Bool := false)
  /-- `ENVELOPE_SEND` (R355): A producer sends an envelope every PER or on a change of DATA. -/
  | envelopeSend (dt : Nat) (c : Fin 16)
  /-- `LINK_RUN` (R365): A link exchange reaches Run and its transmitter changes to the ring oscillator. -/
  | linkRun (dt : Nat) (k : Fin 6) (rxRate : Nat)
  /-- `EXCHANGE_ERROR` (R389): A link exchange error restarts the link and discards packets in progress. `part`: the
  characters of an urgent packet that had come. -/
  | exchangeError (dt : Nat) (k : Fin 6) (kind : ExchangeErr) (part : List Byte := [])
  /-- `LINK_DOWN` (R389): Repeated errors or flooding take the link DOWN for 1 s. -/
  | linkDown (dt : Nat) (k : Fin 6)
  /-- `LINK_DOWN_END` (R367): After 1 s in DOWN the link restarts. -/
  | linkDownEnd (dt : Nat) (k : Fin 6)
  /-- `HELLO_RECEIVED` (R373): A HELLO from the partner activates, parks or restarts the link. -/
  | helloReceived (dt : Nat) (k : Fin 6) (payload : List Byte)
  /-- `HELLO_SEND` (R368): An ACTIVE or PARKED link sends a HELLO every 10 ms. -/
  | helloSend (dt : Nat) (k : Fin 6)
  /-- `NO_HELLO` (R366): No HELLO within 10 ms of Run parks the link with reason NO_HELLO. -/
  | noHello (dt : Nat) (k : Fin 6)
  /-- `LINK_SILENT` (R368): An ACTIVE link without HELLO for 50 ms is restarted. -/
  | linkSilent (dt : Nat) (k : Fin 6)
  /-- `JOIN_RECEIVED` (R375): A JOIN is relayed to the root, which registers or refuses the device. -/
  | joinReceived (dt : Nat) (k : Fin 6) (payload : List Byte)
  /-- `JOIN_REPEAT` (R375): A device without an address repeats its JOIN every 1 s. -/
  | joinRepeat (dt : Nat)
  /-- `ADMIT_RECEIVED` (R375): An ADMIT grants the device its address. -/
  | admitReceived (dt : Nat) (k : Fin 6) (payload : List Byte)
  /-- `ROUTES_RECEIVED` (R380): A ROUTES packet delivers a new route table version. -/
  | routesReceived (dt : Nat) (payload : List Byte)
  /-- `URGENT_PACKET_RECEIVED` (R372): An urgent packet is delivered locally or forwarded cut-through. `tc`: time-codes among
  its characters (R364); `eep`: it ended with EEP. -/
  | urgentPacketReceived (dt : Nat) (k : Fin 6) (bytes : List Byte) (tc : Nat := 0) (eep : Bool := false)
  /-- `BULK_SEGMENT_RECEIVED` (R371): A bulk segment is joined into its bulk packet, which is stored and forwarded. -/
  | bulkSegmentReceived (dt : Nat) (k : Fin 6) (bytes : List Byte) (eep : Bool)
  /-- `PACKET_WAIT_TIMEOUT` (R382): A packet waiting too long at a link input is discarded. -/
  | packetWaitTimeout (dt : Nat) (k : Fin 6) (bulk : Bool)
  /-- `SYNC_REQ_SEND` (R383): A child starts a synchronisation exchange every 1 ms. -/
  | syncReqSend (dt : Nat)
  /-- `SYNC_REQ_RECEIVED` (R383): A parent stamps a SYNC_REQ and replies with SYNC_RESP. -/
  | syncReqReceived (dt : Nat) (k : Fin 6)
  /-- `SYNC_RESP_RECEIVED` (R383): A child computes delay and offset and loads or trims TB_NOW. -/
  | syncRespReceived (dt : Nat) (k : Fin 6) (payload : List Byte)
  /-- `SYNC_LOST` (R79): No completed exchange for 20 ms or trim at its limit for 100 ms loses synchronisation. -/
  | syncLost (dt : Nat) (trimLimit : Bool)
  /-- `FREEZE_AT` (R386): A FREEZE_AT command schedules a freeze at T subject to local permissions. -/
  | freezeAt (dt : Nat) (origin : BitVec 6) (seq : BitVec 16) (instant : Nat) (cause : BitVec 16)
  /-- `ROUTES_APPLY` (R386): A ROUTES_APPLY command schedules a route table for T. -/
  | routesApply (dt : Nat) (origin : BitVec 6) (seq : BitVec 16) (instant : Nat) (version : BitVec 16)
  /-- `ROUTES` (R386): At T the route table of the named version enters force or is ignored. -/
  | routes (dt : Nat)
  /-- `FABRIC_LOSS` (R390): No working link for FAB_LOSS_T sets the fabric-loss stop cause. -/
  | fabricLoss (dt : Nat)
  /-- `JCP_REQUEST_FRAME` (R400): A JCP request frame is checked, forwarded or executed entry by entry. -/
  | jcpRequestFrame (dt : Nat) (via : Via) (frameAge : Nat) (maint : Bool) (bytes : List Byte)
  /-- `JCP_READ` (R514): A READ entry returns N words. -/
  | jcpRead (dt : Nat) (o : Origin) (addr : Word) (n : Nat)
  /-- `JCP_WRITE` (R398): A WRITE entry writes N words in ascending order. -/
  | jcpWrite (dt : Nat) (o : Origin) (maint : Bool) (addr : Word) (words : List Word)
  /-- `TOKEN_REQUEST` (R407): A token request is stamped and waits for its decision. -/
  | tokenRequest (dt : Nat) (o : Origin) (frameAge : Nat)
  /-- `TOKEN_RELEASE` (R411): The holder releases the token. -/
  | tokenRelease (dt : Nat) (o : Origin)
  /-- `TOKEN_TAKE` (R409): A take is decided as a request that wins with TAKE_EN. -/
  | tokenTake (dt : Nat) (o : Origin) (frameAge : Nat)
  /-- `TOKEN_STATUS` (R406): A TOKEN status entry returns CP_TOK_STAT. -/
  | tokenStatus (dt : Nat) (o : Origin)
  /-- `JCP_NOP` (R398): A NOP entry does nothing and returns ACK. -/
  | jcpNop (dt : Nat) (o : Origin)
  /-- `FETCH` (R466): FETCH returns whole records from the channel fetch buffer. -/
  | fetch (dt : Nat) (o : Origin) (ch : Fin 32) (max : Nat)
  /-- `IMAGE_BEGIN` (R418): IMAGE begin opens a session and erases the copy not in force. -/
  | imageBegin (dt : Nat) (o : Origin) (maint : Bool)
  /-- `IMAGE_DATA` (R418): IMAGE data writes bytes into the open copy. -/
  | imageData (dt : Nat) (o : Origin) (offset : Nat) (bytes : List Byte)
  /-- `IMAGE_END` (R418): IMAGE end checks and writes the header and verifies the copy. -/
  | imageEnd (dt : Nat) (o : Origin) (header : List Byte)
  /-- `IMAGE_ABORT` (R418): IMAGE abort abandons the session. -/
  | imageAbort (dt : Nat) (o : Origin)
  /-- `IMAGE_ERASE_DONE` (R418): The erase of the copy completes and the session is open. -/
  | imageEraseDone (dt : Nat)
  /-- `IMAGE_VERIFY_DONE` (R418): The header write and read-back verification complete with a result. -/
  | imageVerifyDone (dt : Nat) (sectionsOk : Bool)
  /-- `IMAGE_SESSION_TIMEOUT` (R418): 60 s without an IMAGE entry abandons the session. -/
  | imageSessionTimeout (dt : Nat)
  /-- `MAINT_EN_FALL` (R92): A fall of MAINT_EN abandons an open image write. -/
  | maintEnFall (dt : Nat)
  /-- `JCP_FREEZE` (R496): A FREEZE entry is a freeze trigger of this device or the fabric. -/
  | jcpFreeze (dt : Nat) (o : Origin) (fabricScope : Bool) (cause : BitVec 16) (frameAge : Nat)
  /-- `JCP_SAFE` (R419): A SAFE entry carries a safety envelope on a control-port connection. -/
  | jcpSafe (dt : Nat) (o : Origin) (envelope : List Byte)
  /-- `JCP_FORWARD_REPLY` (R403): The reply of a forwarded request returns and leaves on the entry port. -/
  | jcpForwardReply (dt : Nat) (port : Fin 3) (tag : BitVec 16) (bytes : List Byte)
  /-- `JCP_FORWARD_TIMEOUT` (R403): No reply within 20 ms answers the forwarded request with TIMEOUT. -/
  | jcpForwardTimeout (dt : Nat) (port : Fin 3) (tag : BitVec 16)
  /-- `TOKEN_DECISION` (R407): At stamp plus CP_TOK_WIN pending requests are decided. -/
  | tokenDecision (dt : Nat)
  /-- `TOKEN_LEASE_EXPIRY` (R410): The lease runs out and the token is free. -/
  | tokenLeaseExpiry (dt : Nat)
  /-- `QUARANTINE` (R416): 32 violations in 1 s put an origin or controller in quarantine for 10 s. -/
  | quarantine (dt : Nat) (q : QuarTarget)
  /-- `QUARANTINE_END` (R416): A quarantine ends after 10 s. -/
  | quarantineEnd (dt : Nat) (q : QuarTarget)
  /-- `SPI_WRITE_FRAME` (R396): Instruction 0x02 receives one frame on IO0. -/
  | spiWriteFrame (dt : Nat) (p : Fin 2) (frameAge : Nat) (bytes : List Byte)
  /-- `SPI_QUAD_WRITE_FRAME` (R396): Instruction 0x32 receives one frame on IO0–IO3. -/
  | spiQuadWriteFrame (dt : Nat) (p : Fin 2) (frameAge : Nat) (bytes : List Byte)
  /-- `SPI_READ_STATUS` (R396): Instruction 0x05 returns the status byte. -/
  | spiReadStatus (dt : Nat) (p : Fin 2)
  /-- `SPI_READ_FRAME` (R396): Instruction 0x0B returns the oldest queued frame on IO1. -/
  | spiReadFrame (dt : Nat) (p : Fin 2)
  /-- `SPI_QUAD_READ_FRAME` (R396): Instruction 0x6B returns the oldest queued frame on IO0–IO3. -/
  | spiQuadReadFrame (dt : Nat) (p : Fin 2)
  /-- `MNT_FRAME_GAP` (R397): A gap over 10 character times ends a maintenance frame as malformed. `bytes`: what had come of
  it; `gap`: ns since its last character. -/
  | mntFrameGap (dt : Nat) (frameAge : Nat) (bytes : List Byte) (gap : Nat := 0)
  /-- `PORT` (R395): A data-strobe port exchange enters or leaves Run. -/
  | port (dt : Nat) (p : Fin 2) (up : Bool)
  /-- `PORT_ERR_CLR` (R405): Writing CP_Pp_CLR clears the port error counters. -/
  | portErrClr (dt : Nat) (o : Origin) (p : Fin 3) (w : Word)
  /-- `LINK_ERR_CLR` (R405): Writing FAB_Lk_CLR clears the link error and DOWN counters. -/
  | linkErrClr (dt : Nat) (o : Origin) (k : Fin 6) (w : Word)
  /-- `CAN_SETPOINT_MESSAGE` (R435): A setpoint message is checked and makes its binding live, arms it or commands the axis. -/
  | canSetpointMessage (dt : Nat) (n : Fin 2) (f : CanFrame)
  /-- `CAN_HEAVE_MESSAGE` (R435): A heave message is checked and gives the heave reference. -/
  | canHeaveMessage (dt : Nat) (n : Fin 2) (f : CanFrame)
  /-- `CAN_ENVELOPE_FRAME` (R428): A frame with a connection identifier goes unfiltered to Cobalt. -/
  | canEnvelopeFrame (dt : Nat) (n : Fin 2) (f : CanFrame)
  /-- `CAN_RECORD_FRAME` (R428): A frame matching a record-only filter is recorded, and any other frame is discarded. -/
  | canRecordFrame (dt : Nat) (n : Fin 2) (f : CanFrame)
  /-- `ABD_DWELL_END` (R426): The dwell of a candidate ends and the next candidate is tried. -/
  | abdDwellEnd (dt : Nat) (n : Fin 2)
  /-- `CAN_PERIODIC_TX` (R438): A periodic slot queues a status message at its period. -/
  | canPeriodicTx (dt : Nat) (n : Fin 2) (k : Fin 8)
  /-- `CAN_FRAME_SENT` (R439): A pending frame is sent successfully. -/
  | canFrameSent (dt : Nat) (n : Fin 2) (slot : TxSlot) (sofAge : Nat)
  /-- `CAN_ERROR` (R439): A bus error or lost arbitration updates the counters and retries the frame. -/
  | canError (dt : Nat) (n : Fin 2) (kind : CanErr) (tec rec : Nat)
  /-- `CAN_SEND` (R438): SEND requests transmission of a host slot. -/
  | canSend (dt : Nat) (o : Origin) (n : Fin 2) (h : Fin 4)
  /-- `CAN_CANCEL` (R440): CANCEL withdraws a pending host slot or lets the attempt end. -/
  | canCancel (dt : Nat) (o : Origin) (n : Fin 2) (h : Fin 4)
  /-- `CAN_RECOVER` (R442): RECOVER starts bus-off recovery. -/
  | canRecover (dt : Nat) (o : Origin) (n : Fin 2)
  /-- `CAN_RECOVERY_DONE` (R442): After 128 × 11 recessive bits the controller is error active. -/
  | canRecoveryDone (dt : Nat) (n : Fin 2)
  /-- `CAN_CLR` (R442): CANn_CMD.CLR clears the CAN counters. -/
  | canClr (dt : Nat) (o : Origin) (n : Fin 2)
  /-- `CAN_TXD_GUARD` (R425): TXD dominant for 32 bit times is forced recessive. -/
  | canTxdGuard (dt : Nat) (n : Fin 2)
  /-- `RECORD_EMIT` (R449): A record is written whole into its ring. -/
  | recordEmit (dt : Nat)
  /-- `CHANNEL_FLUSH` (R455): The oldest record older than FLUSH makes a device channel pending. -/
  | channelFlush (dt : Nat) (c : Fin 16)
  /-- `DESCRIPTOR_FETCHED` (R457): A descriptor is fetched and checked before it moves data. -/
  | descriptorFetched (dt : Nat)
  /-- `DESCRIPTOR_DONE` (R461): A descriptor completes, writes back and fetches NEXT. -/
  | descriptorDone (dt : Nat) (eccError : Bool)
  /-- `BUS_ERROR` (R463): An unanswered access for 10 µs halts every channel. -/
  | busError (dt : Nat) (addr : Word)
  /-- `SIP_START` (R456): START begins a host channel chain. -/
  | sipStart (dt : Nat) (o : Origin) (c : Fin 32)
  /-- `SIP_STOP` (R456): STOP stops a channel. -/
  | sipStop (dt : Nat) (o : Origin) (c : Fin 32)
  /-- `CHANNEL_RESTART` (R456): RESTART takes a stopped channel to IDLE. -/
  | channelRestart (dt : Nat) (o : Origin) (c : Fin 32)
  /-- `SIP_RESTART` (R464): SIP_CMD RESTART restarts a halted mover. -/
  | sipRestart (dt : Nat) (o : Origin) (w : Word)
  /-- `WORK_SRAM_WRITE` (R447): A write to work SRAM is admitted only to the own window of an idle channel. -/
  | workSramWrite (dt : Nat) (o : Origin) (addr value : Word)
  /-- `STREAM_FLUSH` (R475): A stream page buffer is programmed after FLUSH. -/
  | streamFlush (dt : Nat) (st : Fin 4)
  /-- `NAND_PROGRAM_DONE` (R481): A NAND page program completes and its status is checked. -/
  | nandProgramDone (dt : Nat) (ok : Bool)
  /-- `NAND_ERASE_DONE` (R481): A block erase completes. -/
  | nandEraseDone (dt : Nat) (ok : Bool)
  /-- `NAND_READ_DONE` (R480): A NAND page read completes and is corrected. -/
  | nandReadDone (dt : Nat) (result : ReadResult)
  /-- `NAND_BUSY_TIMEOUT` (R488): NF_RB_N low too long resets the target or takes it offline. `after`: 1 the RESET times out too, 2 READ ID
  differs after it. -/
  | nandBusyTimeout (dt : Nat) (target : Fin 4) (after : Fin 3 := 0)
  /-- `META_CHECKPOINT` (R474): A META entry is written at least every 60 s. -/
  | metaCheckpoint (dt : Nat)
  /-- `CAPTURE_COMMAND` (R477): The capture command opens a capture at its TB_NOW. -/
  | captureCommand (dt : Nat) (o : Origin)
  /-- `CAPTURE_WINDOW_END` (R477): The capture window ends and the slot is held. -/
  | captureWindowEnd (dt : Nat) (k : Fin 16)
  /-- `EVENT_SLOT_RELEASE` (R478): Releasing an EVENT slot frees its pinned blocks. -/
  | eventSlotRelease (dt : Nat) (o : Origin) (k : Fin 16)
  /-- `DUMP_SLOT_RELEASE` (R479): Releasing a DUMP slot erases its blocks. -/
  | dumpSlotRelease (dt : Nat) (o : Origin) (k : Fin 16)
  /-- `REPLAY` (R489): REPLAY starts reading a source into the replay buffer. -/
  | replay (dt : Nat) (o : Origin)
  /-- `REPLAY_STOP` (R490): STOP ends a running replay. -/
  | replayStop (dt : Nat) (o : Origin)
  /-- `FORMAT` (R485): FORMAT erases every good block and writes a new META entry. -/
  | format (dt : Nat) (o : Origin) (maint : Bool)
  /-- `REPLAY_RD_WRITE` (R490): The owner advances CAR_RPL_RD and replay may continue. -/
  | replayRdWrite (dt : Nat) (o : Origin) (value : Word)
  /-- `SCRUB` (R480): Each block is read in full at least once per SCRUB_T. -/
  | scrub (dt : Nat)
  /-- `STATIC_WEAR_LEVEL` (R482): Every 10 s static levelling may move a cold block. -/
  | staticWearLevel (dt : Nat)
  /-- `MAINTENANCE_WAIT_EXPIRY` (R476): A maintenance task waiting 10 s takes its share of target time. -/
  | maintenanceWaitExpiry (dt : Nat) (target : Fin 4)
  /-- `MOUNT` (R483): The mount completes and the recorder becomes ready, read-only or failed. -/
  | mount (dt : Nat) (found : MountReport)
  /-- `FREEZE_PIN` (R495): FREEZE_N low for the filter time is a freeze trigger. -/
  | freezePin (dt : Nat) (maint : Bool)
  /-- `FREEZE_INSTANT` (R498): At t_F the counter stops, Bronze holds the freeze-safe state and the die freezes. -/
  | freezeInstant (dt : Nat)
  /-- `FRZ_STAT` (R501): The FRZ_STAT instruction captures the dump header bytes. -/
  | frzStat (dt : Nat)
  /-- `FRZ_READ` (R502): The FRZ_READ instruction reads dump words by position. -/
  | frzRead (dt : Nat) (ready : Bool)
  /-- `FRZ_DUMP` (R503): The FRZ_DUMP instruction starts the self-dump. -/
  | frzDump (dt : Nat)
  /-- `FRZ_TRIG` (R495): The FRZ_TRIG instruction is a TAP freeze trigger. -/
  | frzTrig (dt : Nat) (cause : BitVec 16)
  /-- `TAP_WAIT_EXPIRY` (R503): FRZ_TAP_WAIT after FROZEN starts the self-dump in DUMP_MODE 2. -/
  | tapWaitExpiry (dt : Nat)
  /-- `SELF_DUMP_DONE` (R504): The self-dump ends and the device restarts as after a reset. -/
  | selfDumpDone (dt : Nat) (ok : Bool)
  /-- `COBALT_SUPPLY_WINDOW` (R324): Cobalt's local supply outside 0.66 V to 1.00 V for 10 µs is a channel fault of subcode 4. -/
  | cobaltSupplyWindow (dt : Nat)
  /-- `SS1R_LEAD_EXPIRY` (R343): Under SS1-r, STO acts when the SBC lead that STANDSTILL started has run out. -/
  | ss1rLeadExpiry (dt : Nat) (bronze : Bool := false)
  /-- `SO_CURRENT_LIMIT_OFF` (R548): A safe output held in current limit for more than 10 ms switches itself off. -/
  | soCurrentLimitOff (dt : Nat) (k : Fin 4)
  /-- `CAN_BUS_INTEGRATION` (R425): A started CAN controller that has seen 11 recessive bits ends integration and takes part in bus traffic. -/
  | canBusIntegration (dt : Nat) (n : Fin 2)
  deriving DecidableEq, Repr

end Sys2Proof
end

