-- ==== Sys2Proof/Config.lean ====
section
/-! DEFINITION. What a device fixes and the spec does not state, and the free values. Every one is an
opaque constant: nothing can evaluate it, so every statement about it holds for every value it may have
(log 3 and log 4). -/
namespace Sys2Proof

/-- `DEV_ID_VER`: die stepping, build and ROM version, fixed per device. -/
opaque Config.version : Word

/-- A byte of the identity region of the keep-store, whose layout the spec does not give. -/
opaque Config.identityByte : Nat → Byte

/-- Where the device identity, which is written at manufacture (R98), begins in that region. -/
opaque Config.identityAt : Nat

/-- The binary32 word that shows a real value which no binary32 word holds exactly. The spec states no
rounding (log 4). -/
opaque Config.f32Inexact : Rat → Word

/-- The ratio of a circle's circumference to its diameter, as the device's arithmetic holds it. -/
opaque Config.pi : Rat

/-- The square root of a number that is not the square of a rational number. -/
opaque Config.sqrtFree : Rat → Rat

/-- The sine of an electrical angle that is no whole number of quarter turns. -/
opaque Config.sinFree : Word → Rat

/-- The angle of a vector (x, y) in turns, where it is no whole number of eighth turns. -/
opaque Config.atanFree : Rat → Rat → Rat

/-- The exponential of a number other than 0. -/
opaque Config.expFree : Rat → Rat

/-- A free real value, by the index of its use (`State.freeIx`). -/
opaque Config.freeReal : Nat → Rat

/-- A free word, by the index of its use. -/
opaque Config.freeWord : Nat → Word

/-- A free choice, by the index of its use. -/
opaque Config.freeBool : Nat → Bool

/-- A register content of a part of the power stage or plant the spec leaves to the implementation,
such as the working bytes of the frozen state capture. -/
opaque Config.freeByte : Nat → Byte

/-- The current that a sample taken at a hold instant becomes when the motor model moves it to the weighted
centre of the SDI values (R182): axis, sample instant, phase, current and the time it is moved. The spec does
not state how the model is integrated. -/
opaque Config.projectFree : Nat → Nat → Nat → Rat → Rat → Rat

/-- The normalised value of a free-running sigma-delta channel whose span ends at an instant (R172): the bits that the modulator sends
between the commands are no part of any command. -/
opaque Config.sdiFree : Nat → Nat → Rat

/-- How far from the exact modulation index the laws of overmodulation are tuned, as a part of M: the model uses it within ±0.2 % (R213). -/
opaque Config.ovmTune : Rat

/-- How far the voltage vector of region II stands from its linear law between two holds, turns, by M and the distance of the demanded angle
from the nearest vertex: the model uses it within ±0.2° (R213). -/
opaque Config.ovmAngle : Rat → Rat → Rat

end Sys2Proof
end

