-- ==== Sys2Proof/Machine/Num.lean ====
section
/-! DEFINITION. Numbers and bytes: binary32 words and the reals they stand for (R8, R9), angles (R11),
little-endian bytes (R7) and the two CRCs. -/
namespace Sys2Proof.Machine

/-! ## Bit fields -/

/-- Bits `lo` to `lo + w - 1` of a word, as a number. -/
def fld (x : Word) (lo w : Nat) : Nat := (x.toNat >>> lo) % 2 ^ w

/-- Bit `i` of a word. -/
def bit (x : Word) (i : Nat) : Bool := x.getLsbD i

/-- A word with the number `v` in bits `lo` upward. -/
def put (v lo : Nat) : Nat := v <<< lo

/-- 1 for true, 0 for false. -/
def b2n (b : Bool) : Nat := if b then 1 else 0

/-- A word of a number, modulo 2³². -/
def w32 (n : Nat) : Word := BitVec.ofNat 32 n

/-- A word of an integer in two's complement. -/
def w32i (z : Int) : Word := BitVec.ofInt 32 z

/-- A counter of `w` bits that saturates. -/
def satInc (w n : Nat) (by' : Nat := 1) : Nat := min (n + by') (2 ^ w - 1)

/-- The low words of a mask given bit by bit. -/
def maskOf (n : Nat) (p : Nat → Bool) : Nat :=
  (List.range n).foldl (fun acc i => acc + b2n (p i) * 2 ^ i) 0

/-! ## binary32 -/

/-- Two to an integer power. -/
def pow2 (z : Int) : Rat :=
  match z with
  | .ofNat n => ((2 ^ n : Nat) : Rat)
  | .negSucc n => mkRat 1 (2 ^ (n + 1))

/-- Is the word NaN or an infinity? -/
def f32Special (w : Word) : Bool := fld w 23 8 == 255

/-- A written binary32 word as the device takes it: a subnormal and −0.0 are +0.0; NaN and the infinities
are refused (R9). -/
def f32Norm (w : Word) : Option Word :=
  if fld w 23 8 = 255 then none else if fld w 23 8 = 0 then some 0 else some w

/-- The real number a binary32 word stands for; NaN and the infinities, which no register holds as a
quantity, count as 0. -/
def f32ToRat (w : Word) : Rat :=
  let e := fld w 23 8
  let m := fld w 0 23
  if e = 255 then 0
  else
    let mag : Rat := if e = 0 then (m : Rat) * pow2 (-149) else ((m + 2 ^ 23 : Nat) : Rat) * pow2 ((e : Int) - 150)
    if bit w 31 then -mag else mag

/-- The binary32 word of a real number that has one, `none` for the others. -/
def f32Exact (q : Rat) : Option Word :=
  if q = 0 then some 0
  else
    let n := q.num.natAbs
    let k := q.den.log2
    if q.den ≠ 2 ^ k then none
    else
      let l := n.log2
      let ex : Int := (l : Int) - (k : Int)
      if ex < -126 ∨ 127 < ex then none
      else
        let m := if l ≤ 23 then n <<< (23 - l) else n >>> (l - 23)
        if 23 < l ∧ m <<< (l - 23) ≠ n then none
        else some (w32 ((if q.num < 0 then 2 ^ 31 else 0) + ((ex + 127).toNat <<< 23) + (m - 2 ^ 23)))

/-- The binary32 word that shows a real number: the exact one, or a free value (log 4). -/
def toF32 (q : Rat) : Word := (f32Exact q).getD (Config.f32Inexact q)

/-- The order of binary32 words as integers: the words of finite numbers are in the order of the numbers. -/
def f32Key (w : Word) : Int := if bit w 31 then -((w.toNat - 2 ^ 31 : Nat) : Int) else (w.toNat : Int)

/-- The quiet NaN that a binary32 register reads when its value is unknown (R230). -/
def quietNaN : Word := 0x7FC00000#32

/-! ## Real functions -/

/-- The magnitude of a rational number. -/
def absR (q : Rat) : Rat := if q < 0 then -q else q

/-- `q` held between `lo` and `hi`. -/
def clampR (lo hi q : Rat) : Rat := if q < lo then lo else if hi < q then hi else q

/-- The sign of a rational number, 0 for 0. -/
def signR (q : Rat) : Rat := if q < 0 then -1 else if q = 0 then 0 else 1

/-- The square root of a number that is not negative: exact on squares of rational numbers, else free. -/
def sqrtR (q : Rat) : Rat :=
  if q ≤ 0 then 0
  else
    let a := Nat.sqrt q.num.natAbs
    let b := Nat.sqrt q.den
    if a * a = q.num.natAbs ∧ b * b = q.den then mkRat a b else Config.sqrtFree q

/-- The length of a vector. -/
def hyp (x y : Rat) : Rat := if y = 0 then absR x else if x = 0 then absR y else sqrtR (x * x + y * y)

/-- The sine of an electrical angle (R11), exact at whole quarter turns. -/
def sinA (a : Word) : Rat :=
  if a.toNat % 2 ^ 30 = 0 then
    (if a.toNat = 2 ^ 30 then 1 else if a.toNat = 3 * 2 ^ 30 then -1 else 0)
  else Config.sinFree a

/-- The cosine of an electrical angle. -/
def cosA (a : Word) : Rat := sinA (a + w32 (2 ^ 30))

/-- An angle of turns as an electrical angle word, modulo one turn (R11). -/
def angleOf (turns : Rat) : Word := w32i ((turns * ((2 ^ 32 : Nat) : Rat)).floor)

/-- An electrical angle word as turns from −1/2 to 1/2. -/
def turnsOf (a : Word) : Rat := mkRat a.toInt (2 ^ 32)

/-- The angle of a vector, in turns: exact on the axes, else free. -/
def atan2R (y x : Rat) : Rat :=
  if y = 0 then (if x < 0 then 1 / 2 else 0)
  else if x = 0 then (if y < 0 then -(1 / 4) else 1 / 4)
  else Config.atanFree y x

/-- The exponential function: exact at 0, else free. -/
def expR (q : Rat) : Rat := if q = 0 then 1 else Config.expFree q

/-- Nanoseconds as seconds. -/
def secOf (ns : Nat) : Rat := mkRat ns 1000000000

/-- Seconds as whole nanoseconds: the nearest place of the 0.25 ns grid, rounded down to a nanosecond (R13, R73). -/
def nsOf (t : Rat) : Nat := (t * 4000000000 + 1 / 2).floor.toNat / 4

/-! ## Bytes -/

/-- The `n` low bytes of a number, lowest first (R7). -/
def leBytes : Nat → Nat → List Byte
  | 0, _ => []
  | n + 1, x => BitVec.ofNat 8 x :: leBytes n (x / 256)

/-- The number of little-endian bytes. -/
def leNat : List Byte → Nat
  | [] => 0
  | b :: t => b.toNat + 256 * leNat t

/-- `n` bytes at offset `o` as a number. -/
def leAt (bs : List Byte) (o n : Nat) : Nat := leNat ((bs.drop o).take n)

/-- The byte at offset `o`, 0 beyond the end. -/
def byteAt (bs : List Byte) (o : Nat) : Nat := ((bs.drop o).headD 0).toNat

/-- `n` zero bytes. -/
def zeros (n : Nat) : List Byte := List.replicate n 0

/-- The bitwise complement of every byte. -/
def complBytes (bs : List Byte) : List Byte := bs.map (fun b => ~~~ b)

/-- A field of a big-endian 16-bit word (R7, heritage profile). -/
def be16At (bs : List Byte) (o : Nat) : Nat := byteAt bs o * 256 + byteAt bs (o + 1)

/-- `n` bytes of a number, highest first. -/
def beBytes (n x : Nat) : List Byte := (leBytes n x).reverse

/-- Words as bytes. -/
def wordsBytes (ws : List Word) : List Byte := ws.flatMap (fun w => leBytes 4 w.toNat)

/-- Bytes as little-endian words; a rest of fewer than 4 bytes is dropped. -/
def bytesWords : List Byte → List Word
  | a :: b :: c :: d :: t => w32 (leNat [a, b, c, d]) :: bytesWords t
  | _ => []

/-! ## CRCs -/

/-- One bit step of a reflected CRC-32 with polynomial `p`. -/
def crcBit (p : Word) (c : Word) : Word := if bit c 0 then (c >>> 1) ^^^ p else c >>> 1

/-- One byte into a reflected CRC-32. -/
def crcByte (p : Word) (c : Word) (b : Byte) : Word :=
  let c0 := c ^^^ (b.setWidth 32)
  crcBit p (crcBit p (crcBit p (crcBit p (crcBit p (crcBit p (crcBit p (crcBit p c0)))))))

/-- The running CRC-32 of IEEE 802.3 (initial value all ones, before the final complement). -/
def crc32Run (c : Word) (bs : List Byte) : Word := bs.foldl (crcByte 0xEDB88320#32) c

/-- CRC-32 (IEEE 802.3). -/
def crc32 (bs : List Byte) : Word := ~~~ (crc32Run 0xFFFFFFFF#32 bs)

/-- The running CRC-32C (Castagnoli, reflected). -/
def crc32cRun (c : Word) (bs : List Byte) : Word := bs.foldl (crcByte 0x82F63B78#32) c

end Sys2Proof.Machine
end

