-- ==== Sys2Proof/Machine/RegTable.lean ====
section
/-! DEFINITION. The register map: one row per register word (or array of register words) of the
field maps of the spec, with its access code (R16), pairing (R20), reset content (R24) and the
stated range of each field (code 0x0118, R96), and the address of every register under its own name. -/
namespace Sys2Proof

/-- Access codes of a register word (R16, Table 4 of the scope chapter). -/
inductive Acc where
  | RO | RW | RS | RI | W1C | WC
  deriving DecidableEq, Repr

/-- The stated range of a field. The bounds of a binary32 range are the binary32 words nearest to the
figures of the field map (DEDUCED, log 12). A value that a block rule names as its own failure is
within range (R96). -/
inductive Rng where
  /-- every content of the field -/
  | any
  /-- at most `hi` -/
  | le (hi : Nat)
  /-- from `lo` to `hi` -/
  | btw (lo hi : Nat)
  /-- 0, or from `lo` to `hi` -/
  | zeroOr (lo hi : Nat)
  /-- at most `hi`, or exactly `x` -/
  | leOr (hi x : Nat)
  /-- every bit of the mask must be 1 -/
  | ones (mask : Nat)
  /-- from `lo` to `hi`, and a multiple of 8 -/
  | mult8 (lo hi : Nat)
  /-- a selector of `SAF_FNk_SEL`: bits 14 to 9 reserved -/
  | sel
  /-- a data length of CAN or CAN FD -/
  | canLen
  /-- binary32, any finite number (R9) -/
  | fAny
  /-- binary32 from `lo` to `hi` -/
  | f (lo hi : Nat)
  /-- binary32, 0 or from `lo` to `hi` -/
  | fz (lo hi : Nat)
  /-- binary32, not positive (named by a block rule, R96) or from `lo` to `hi` -/
  | fnp (lo hi : Nat)
  deriving DecidableEq, Repr

/-- One field: lowest bit, width, range. -/
structure Fld where
  lo : Nat
  width : Nat
  rng : Rng
  deriving DecidableEq, Repr

/-- One row of the register map: `n1` blocks `s1` bytes apart, each with `n2` words `s2` bytes apart,
each of these with `n3` words 4 bytes apart (the data words of a CAN host slot). `pair`: the complement
stands at the next word (R16, PR). -/
structure RegRow where
  base : Nat
  s1 : Nat
  n1 : Nat
  s2 : Nat
  n2 : Nat
  n3 : Nat
  acc : Acc
  pair : Bool
  reset : Nat
  flds : List Fld
  deriving DecidableEq, Repr

/-! ## Addresses by name -/
abbrev Reg.DEV_DOM_VOLT_n (n : Nat) : Nat := 0x400 + 8 * n
abbrev Reg.DEV_DOM_TEMP_n (n : Nat) : Nat := 0x404 + 8 * n
abbrev Reg.DEV_DOM_SKEW : Nat := 0x440
abbrev Reg.DEV_TICK_LAST : Nat := 0x444
abbrev Reg.DEV_TICK_MAX : Nat := 0x448
abbrev Reg.DEV_TICK_STAT : Nat := 0x44C
abbrev Reg.DEV_TICK_CLR : Nat := 0x450
abbrev Reg.AXn_SNT_CFG (n : Nat) : Nat := 0x10100 + 8192 * n
abbrev Reg.AUXn_SNT_CFG (n : Nat) : Nat := 0x20100 + 4096 * n
abbrev Reg.AXn_SNT_STAT (n : Nat) : Nat := 0x10104 + 8192 * n
abbrev Reg.AUXn_SNT_STAT (n : Nat) : Nat := 0x20104 + 4096 * n
abbrev Reg.AXn_SNT_LAST (n : Nat) : Nat := 0x10108 + 8192 * n
abbrev Reg.AUXn_SNT_LAST (n : Nat) : Nat := 0x20108 + 4096 * n
abbrev Reg.AXn_SNT_MIN (n : Nat) : Nat := 0x1010C + 8192 * n
abbrev Reg.AUXn_SNT_MIN (n : Nat) : Nat := 0x2010C + 4096 * n
abbrev Reg.AXn_SNT_CNT (n : Nat) : Nat := 0x10110 + 8192 * n
abbrev Reg.AUXn_SNT_CNT (n : Nat) : Nat := 0x20110 + 4096 * n
abbrev Reg.AXn_SNT_CLR (n : Nat) : Nat := 0x10114 + 8192 * n
abbrev Reg.AUXn_SNT_CLR (n : Nat) : Nat := 0x20114 + 4096 * n
abbrev Reg.TB_NOW_LO : Nat := 0x8000
abbrev Reg.TB_NOW_HI : Nat := 0x8004
abbrev Reg.TB_CFG : Nat := 0x8008
abbrev Reg.TB_REF : Nat := 0x800C
abbrev Reg.TB_STAT : Nat := 0x8010
abbrev Reg.TB_TRIM : Nat := 0x8014
abbrev Reg.TB_OFFSET : Nat := 0x8018
abbrev Reg.TB_MCLK_m (n : Nat) : Nat := 0x8020 + 4 * n
abbrev Reg.TB_EPU_STAT : Nat := 0x8030
abbrev Reg.DEV_LOAD_STAT : Nat := 0x200
abbrev Reg.DEV_LOAD_WHERE : Nat := 0x204
abbrev Reg.DEV_LOAD_ADDR : Nat := 0x208
abbrev Reg.DEV_LOAD_ALT : Nat := 0x20C
abbrev Reg.DEV_IMG_BUILD_LO : Nat := 0x210
abbrev Reg.DEV_IMG_BUILD_HI : Nat := 0x214
abbrev Reg.DEV_IMG_LEN : Nat := 0x218
abbrev Reg.DEV_RST : Nat := 0x21C
abbrev Reg.DEV_RST_DUR : Nat := 0x220
abbrev Reg.DEV_STG_STAT : Nat := 0x240
abbrev Reg.DEV_STG_DISCARD : Nat := 0x244
abbrev Reg.DEV_COMMIT : Nat := 0x248
abbrev Reg.DEV_COMMIT_RES : Nat := 0x250
abbrev Reg.DEV_COMMIT_RULE : Nat := 0x254
abbrev Reg.DEV_COMMIT_ADDR : Nat := 0x258
abbrev Reg.DEV_COMMIT_TIME_LO : Nat := 0x25C
abbrev Reg.DEV_COMMIT_TIME_HI : Nat := 0x260
abbrev Reg.DEV_STG_IDX : Nat := 0x264
abbrev Reg.DEV_STG_RD_ADDR : Nat := 0x268
abbrev Reg.DEV_STG_RD_VAL : Nat := 0x26C
abbrev Reg.DEV_MODE : Nat := 0x280
abbrev Reg.DEV_MODE_TIME_LO : Nat := 0x284
abbrev Reg.DEV_MODE_TIME_HI : Nat := 0x288
abbrev Reg.DEV_MODE_REQ : Nat := 0x28C
abbrev Reg.DEV_MODE_BLOCK : Nat := 0x294
abbrev Reg.DEV_DEGR : Nat := 0x298
abbrev Reg.DEV_STOPCAUSE : Nat := 0x29C
abbrev Reg.DEV_MODE_CFG : Nat := 0x2A0
abbrev Reg.GD_AXn_MAP (n : Nat) : Nat := 0x30000 + 64 * n
abbrev Reg.GD_AXn_DESAT_V (n : Nat) : Nat := 0x30004 + 64 * n
abbrev Reg.GD_AXn_BLANK (n : Nat) : Nat := 0x3000C + 64 * n
abbrev Reg.GD_AXn_FAST_I (n : Nat) : Nat := 0x30010 + 64 * n
abbrev Reg.GD_AXn_DT_RISE (n : Nat) : Nat := 0x30018 + 64 * n
abbrev Reg.GD_AXn_DT_FALL (n : Nat) : Nat := 0x3001C + 64 * n
abbrev Reg.GD_AXn_CFG (n : Nat) : Nat := 0x30020 + 64 * n
abbrev Reg.GD_AXn_STAT (n : Nat) : Nat := 0x30024 + 64 * n
abbrev Reg.GD_AXn_FAULT (n : Nat) : Nat := 0x30028 + 64 * n
abbrev Reg.GD_AUXn_MAP (n : Nat) : Nat := 0x30200 + 32 * n
abbrev Reg.GD_AUXn_DESAT_V (n : Nat) : Nat := 0x30204 + 32 * n
abbrev Reg.GD_AUXn_BLANK (n : Nat) : Nat := 0x3020C + 32 * n
abbrev Reg.GD_AUXn_DT (n : Nat) : Nat := 0x30210 + 32 * n
abbrev Reg.GD_AUXn_CFG (n : Nat) : Nat := 0x30214 + 32 * n
abbrev Reg.GD_AUXn_STAT (n : Nat) : Nat := 0x30218 + 32 * n
abbrev Reg.GD_AUXn_FAULT (n : Nat) : Nat := 0x3021C + 32 * n
abbrev Reg.GD_CHPn_MAP (n : Nat) : Nat := 0x30300 + 16 * n
abbrev Reg.GD_CHPn_ON (n : Nat) : Nat := 0x30304 + 16 * n
abbrev Reg.GD_CHPn_OFF (n : Nat) : Nat := 0x30308 + 16 * n
abbrev Reg.GD_CHPn_STAT (n : Nat) : Nat := 0x3030C + 16 * n
abbrev Reg.GD_CFG : Nat := 0x30400
abbrev Reg.GD_HB_MODE : Nat := 0x30404
abbrev Reg.GD_VDRV : Nat := 0x30408
abbrev Reg.GD_STAT : Nat := 0x3040C
abbrev Reg.GD_CHP_DESAT_V : Nat := 0x30410
abbrev Reg.GD_CHP_BLANK : Nat := 0x30418
abbrev Reg.GD_CHP_CLR : Nat := 0x3041C
abbrev Reg.GD_ST_CMD : Nat := 0x30420
abbrev Reg.GD_ST_STAT : Nat := 0x30428
abbrev Reg.GD_ST_PASS : Nat := 0x3042C
abbrev Reg.GD_ST_FAIL : Nat := 0x30430
abbrev Reg.GD_ST_ABORT : Nat := 0x30434
abbrev Reg.SNS_SDIc_CFG (n : Nat) : Nat := 0x40000 + 32 * n
abbrev Reg.SNS_SDIc_OSR (n : Nat) : Nat := 0x40004 + 32 * n
abbrev Reg.SNS_SDIc_SCALE (n : Nat) : Nat := 0x40008 + 32 * n
abbrev Reg.SNS_SDIc_FAST_LIM (n : Nat) : Nat := 0x40010 + 32 * n
abbrev Reg.SNS_SDIc_VAL (n : Nat) : Nat := 0x40018 + 32 * n
abbrev Reg.SNS_SDIc_STAT (n : Nat) : Nat := 0x4001C + 32 * n
abbrev Reg.SNS_SDIc_ZERO (n : Nat) : Nat := 0x40400 + 4 * n
abbrev Reg.SNS_DCSn_SCALE (n : Nat) : Nat := 0x40800 + 32 * n
abbrev Reg.SNS_DCSn_OFFS (n : Nat) : Nat := 0x40808 + 32 * n
abbrev Reg.SNS_DCSn_TSET (n : Nat) : Nat := 0x4080C + 32 * n
abbrev Reg.SNS_DCSn_VAL (n : Nat) : Nat := 0x40810 + 32 * n
abbrev Reg.SNS_DCSn_ZERO (n : Nat) : Nat := 0x40814 + 32 * n
abbrev Reg.SNS_DCSn_STAT (n : Nat) : Nat := 0x40818 + 32 * n
abbrev Reg.SNS_AXn_SHIFT_MAX (n : Nat) : Nat := 0x40A00 + 64 * n
abbrev Reg.SNS_AXn_PRED_MAX (n : Nat) : Nat := 0x40A04 + 64 * n
abbrev Reg.SNS_AXn_XCHK_I (n : Nat) : Nat := 0x40A08 + 64 * n
abbrev Reg.SNS_AXn_XCHK_REL (n : Nat) : Nat := 0x40A10 + 64 * n
abbrev Reg.SNS_AXn_XCHK_CFG (n : Nat) : Nat := 0x40A14 + 64 * n
abbrev Reg.SNS_AXn_SRC (n : Nat) : Nat := 0x40A18 + 64 * n
abbrev Reg.SNS_AXn_RCN_CNT (n : Nat) : Nat := 0x40A1C + 64 * n
abbrev Reg.SNS_AXn_RCN_CLR (n : Nat) : Nat := 0x40A20 + 64 * n
abbrev Reg.SNS_AXn_VIN (n : Nat) : Nat := 0x40A24 + 64 * n
abbrev Reg.SNS_AXn_VT_PER (n : Nat) : Nat := 0x40A28 + 64 * n
abbrev Reg.SNS_AXn_ENC (n : Nat) : Nat := 0x40A2C + 64 * n
abbrev Reg.SNS_ENCe_CFG (n : Nat) : Nat := 0x40C00 + 64 * n
abbrev Reg.SNS_ENCe_LINES (n : Nat) : Nat := 0x40C04 + 64 * n
abbrev Reg.SNS_ENCe_CLK (n : Nat) : Nat := 0x40C08 + 64 * n
abbrev Reg.SNS_ENCe_TREC (n : Nat) : Nat := 0x40C0C + 64 * n
abbrev Reg.SNS_ENCe_TOL (n : Nat) : Nat := 0x40C10 + 64 * n
abbrev Reg.SNS_ENCe_POS (n : Nat) : Nat := 0x40C14 + 64 * n
abbrev Reg.SNS_ENCe_TURNS (n : Nat) : Nat := 0x40C18 + 64 * n
abbrev Reg.SNS_ENCe_SPEED (n : Nat) : Nat := 0x40C1C + 64 * n
abbrev Reg.SNS_ENCe_STAT (n : Nat) : Nat := 0x40C20 + 64 * n
abbrev Reg.SNS_ENCe_ERRCNT (n : Nat) : Nat := 0x40C24 + 64 * n
abbrev Reg.SNS_AINc_CFG (n : Nat) : Nat := 0x41000 + 32 * n
abbrev Reg.SNS_AINc_SCALE (n : Nat) : Nat := 0x41004 + 32 * n
abbrev Reg.SNS_AINc_OFFS (n : Nat) : Nat := 0x41008 + 32 * n
abbrev Reg.SNS_AINc_MIN (n : Nat) : Nat := 0x4100C + 32 * n
abbrev Reg.SNS_AINc_MAX (n : Nat) : Nat := 0x41010 + 32 * n
abbrev Reg.SNS_AINc_VAL (n : Nat) : Nat := 0x41014 + 32 * n
abbrev Reg.SNS_AINc_STAT (n : Nat) : Nat := 0x41018 + 32 * n
abbrev Reg.SNS_AIN_LOAD_A : Nat := 0x41400
abbrev Reg.SNS_AIN_LOAD_B : Nat := 0x41404
abbrev Reg.AXn_FOC_CFG (n : Nat) : Nat := 0x10200 + 8192 * n
abbrev Reg.AXn_PWM_F (n : Nat) : Nat := 0x10204 + 8192 * n
abbrev Reg.AXn_I_MAX (n : Nat) : Nat := 0x10208 + 8192 * n
abbrev Reg.AXn_MOT_RS (n : Nat) : Nat := 0x10210 + 8192 * n
abbrev Reg.AXn_MOT_LD (n : Nat) : Nat := 0x10214 + 8192 * n
abbrev Reg.AXn_MOT_LQ (n : Nat) : Nat := 0x10218 + 8192 * n
abbrev Reg.AXn_MOT_PSI (n : Nat) : Nat := 0x1021C + 8192 * n
abbrev Reg.AXn_CL_KP_D (n : Nat) : Nat := 0x10220 + 8192 * n
abbrev Reg.AXn_CL_KI_D (n : Nat) : Nat := 0x10224 + 8192 * n
abbrev Reg.AXn_CL_KP_Q (n : Nat) : Nat := 0x10228 + 8192 * n
abbrev Reg.AXn_CL_KI_Q (n : Nat) : Nat := 0x1022C + 8192 * n
abbrev Reg.AXn_MOD_CFG (n : Nat) : Nat := 0x10230 + 8192 * n
abbrev Reg.AXn_MOD_MMAX (n : Nat) : Nat := 0x10234 + 8192 * n
abbrev Reg.AXn_DTC_TD (n : Nat) : Nat := 0x10238 + 8192 * n
abbrev Reg.AXn_DTC_VON (n : Nat) : Nat := 0x1023C + 8192 * n
abbrev Reg.AXn_DTC_BAND (n : Nat) : Nat := 0x10240 + 8192 * n
abbrev Reg.AXn_FW_KV (n : Nat) : Nat := 0x10244 + 8192 * n
abbrev Reg.AXn_FW_KI (n : Nat) : Nat := 0x10248 + 8192 * n
abbrev Reg.AXn_FW_IDMAX (n : Nat) : Nat := 0x1024C + 8192 * n
abbrev Reg.AXn_MTPA_TMAX (n : Nat) : Nat := 0x10250 + 8192 * n
abbrev Reg.AXn_MTPA_ID_k (n k : Nat) : Nat := 0x10300 + 8192 * n + 8 * k
abbrev Reg.AXn_MTPA_IQ_k (n k : Nat) : Nat := 0x10304 + 8192 * n + 8 * k
abbrev Reg.AXn_OBS_BW (n : Nat) : Nat := 0x10500 + 8192 * n
abbrev Reg.AXn_PLL_BW (n : Nat) : Nat := 0x10504 + 8192 * n
abbrev Reg.AXn_OBS_NMIN (n : Nat) : Nat := 0x10508 + 8192 * n
abbrev Reg.AXn_LOS_ERR (n : Nat) : Nat := 0x1050C + 8192 * n
abbrev Reg.AXn_LOS_T (n : Nat) : Nat := 0x10510 + 8192 * n
abbrev Reg.AXn_LOS_FLUX (n : Nat) : Nat := 0x10514 + 8192 * n
abbrev Reg.AXn_INERTIA (n : Nat) : Nat := 0x10518 + 8192 * n
abbrev Reg.AXn_LOS_TEXT (n : Nat) : Nat := 0x1051C + 8192 * n
abbrev Reg.AXn_ASC_FRAC (n : Nat) : Nat := 0x10520 + 8192 * n
abbrev Reg.AXn_LOCK_T (n : Nat) : Nat := 0x10524 + 8192 * n
abbrev Reg.AXn_ASC_REACQ_T (n : Nat) : Nat := 0x10528 + 8192 * n
abbrev Reg.AXn_ASC_BLIND_T (n : Nat) : Nat := 0x1052C + 8192 * n
abbrev Reg.AXn_IF_I (n : Nat) : Nat := 0x10530 + 8192 * n
abbrev Reg.AXn_IF_ACC (n : Nat) : Nat := 0x10534 + 8192 * n
abbrev Reg.AXn_IF_ALIGN_T (n : Nat) : Nat := 0x10538 + 8192 * n
abbrev Reg.AXn_IF_BLEND (n : Nat) : Nat := 0x1053C + 8192 * n
abbrev Reg.AXn_CATCH_VMIN (n : Nat) : Nat := 0x10540 + 8192 * n
abbrev Reg.AXn_CATCH_IMAX (n : Nat) : Nat := 0x10544 + 8192 * n
abbrev Reg.AXn_ENC_OFFS (n : Nat) : Nat := 0x10548 + 8192 * n
abbrev Reg.AXn_FOC_STAT (n : Nat) : Nat := 0x10600 + 8192 * n
abbrev Reg.AXn_HALT (n : Nat) : Nat := 0x10604 + 8192 * n
abbrev Reg.AXn_I_D (n : Nat) : Nat := 0x10608 + 8192 * n
abbrev Reg.AXn_I_Q (n : Nat) : Nat := 0x1060C + 8192 * n
abbrev Reg.AXn_ID_REF (n : Nat) : Nat := 0x10610 + 8192 * n
abbrev Reg.AXn_IQ_REF (n : Nat) : Nat := 0x10614 + 8192 * n
abbrev Reg.AXn_V_D (n : Nat) : Nat := 0x10618 + 8192 * n
abbrev Reg.AXn_V_Q (n : Nat) : Nat := 0x1061C + 8192 * n
abbrev Reg.AXn_MOD_M (n : Nat) : Nat := 0x10620 + 8192 * n
abbrev Reg.AXn_SPEED (n : Nat) : Nat := 0x10624 + 8192 * n
abbrev Reg.AXn_ANGLE (n : Nat) : Nat := 0x10628 + 8192 * n
abbrev Reg.AXn_PSI_EST (n : Nat) : Nat := 0x1062C + 8192 * n
abbrev Reg.AXn_ASC_SPD (n : Nat) : Nat := 0x10630 + 8192 * n
abbrev Reg.AXn_ASC_IPK (n : Nat) : Nat := 0x10634 + 8192 * n
abbrev Reg.AXn_CMD (n : Nat) : Nat := 0x10800 + 8192 * n
abbrev Reg.AXn_CMD_SET (n : Nat) : Nat := 0x10808 + 8192 * n
abbrev Reg.AXn_CMD_CFG (n : Nat) : Nat := 0x10810 + 8192 * n
abbrev Reg.AXn_CMD_STAT (n : Nat) : Nat := 0x10814 + 8192 * n
abbrev Reg.AXn_SPD_REF (n : Nat) : Nat := 0x10818 + 8192 * n
abbrev Reg.AXn_TQ_REF (n : Nat) : Nat := 0x1081C + 8192 * n
abbrev Reg.AXn_SPD_MAX (n : Nat) : Nat := 0x10820 + 8192 * n
abbrev Reg.AXn_ACC (n : Nat) : Nat := 0x10824 + 8192 * n
abbrev Reg.AXn_DEC (n : Nat) : Nat := 0x10828 + 8192 * n
abbrev Reg.AXn_JERK (n : Nat) : Nat := 0x1082C + 8192 * n
abbrev Reg.AXn_SPD_KP (n : Nat) : Nat := 0x10830 + 8192 * n
abbrev Reg.AXn_SPD_KI (n : Nat) : Nat := 0x10834 + 8192 * n
abbrev Reg.AXn_SPD_FILT (n : Nat) : Nat := 0x10838 + 8192 * n
abbrev Reg.AXn_TQ_POS (n : Nat) : Nat := 0x1083C + 8192 * n
abbrev Reg.AXn_TQ_NEG (n : Nat) : Nat := 0x10844 + 8192 * n
abbrev Reg.AXn_TQ_SLEW (n : Nat) : Nat := 0x1084C + 8192 * n
abbrev Reg.AXn_SPD_STILL (n : Nat) : Nat := 0x10850 + 8192 * n
abbrev Reg.AXn_TQ_NLIM (n : Nat) : Nat := 0x10854 + 8192 * n
abbrev Reg.AXn_TQ_NKP (n : Nat) : Nat := 0x10858 + 8192 * n
abbrev Reg.AXn_CRV_CFG (n : Nat) : Nat := 0x10860 + 8192 * n
abbrev Reg.AXn_CRV_ON (n : Nat) : Nat := 0x10864 + 8192 * n
abbrev Reg.AXn_CRV_OFF (n : Nat) : Nat := 0x10868 + 8192 * n
abbrev Reg.AXn_CRV_HYST (n : Nat) : Nat := 0x1086C + 8192 * n
abbrev Reg.AXn_CRV_Y_k (n k : Nat) : Nat := 0x10900 + 8192 * n + 4 * k
abbrev Reg.AXn_WN_CFG (n : Nat) : Nat := 0x10A00 + 8192 * n
abbrev Reg.AXn_WN_G (n : Nat) : Nat := 0x10A04 + 8192 * n
abbrev Reg.AXn_WN_R (n : Nat) : Nat := 0x10A08 + 8192 * n
abbrev Reg.AXn_WN_KP (n : Nat) : Nat := 0x10A0C + 8192 * n
abbrev Reg.AXn_WN_KI (n : Nat) : Nat := 0x10A10 + 8192 * n
abbrev Reg.AXn_WN_RND_F (n : Nat) : Nat := 0x10A14 + 8192 * n
abbrev Reg.AXn_WN_RND_HYST (n : Nat) : Nat := 0x10A1C + 8192 * n
abbrev Reg.AXn_WN_RND_SPD (n : Nat) : Nat := 0x10A20 + 8192 * n
abbrev Reg.AXn_WN_RND_HOLD (n : Nat) : Nat := 0x10A24 + 8192 * n
abbrev Reg.AXn_WN_F (n : Nat) : Nat := 0x10A28 + 8192 * n
abbrev Reg.AXn_WN_PAYOUT (n : Nat) : Nat := 0x10A2C + 8192 * n
abbrev Reg.AXn_HC_IN_V (n : Nat) : Nat := 0x10A40 + 8192 * n
abbrev Reg.AXn_HC_IN_A (n : Nat) : Nat := 0x10A48 + 8192 * n
abbrev Reg.AXn_HC_LAT (n : Nat) : Nat := 0x10A50 + 8192 * n
abbrev Reg.AXn_HC_LEAD (n : Nat) : Nat := 0x10A54 + 8192 * n
abbrev Reg.AXn_HC_K (n : Nat) : Nat := 0x10A58 + 8192 * n
abbrev Reg.AXn_HC_AGE_MAX (n : Nat) : Nat := 0x10A5C + 8192 * n
abbrev Reg.AXn_HC_FADE (n : Nat) : Nat := 0x10A60 + 8192 * n
abbrev Reg.AXn_HC_NFF (n : Nat) : Nat := 0x10A64 + 8192 * n
abbrev Reg.AXn_HC_AGE (n : Nat) : Nat := 0x10A68 + 8192 * n
abbrev Reg.DEV_AXCLR : Nat := 0x300
abbrev Reg.DEV_AXCLR_STAT : Nat := 0x308
abbrev Reg.DEV_AXCLR_STAT2 : Nat := 0x30C
abbrev Reg.AXn_FLT_REACT (n : Nat) : Nat := 0x10C00 + 8192 * n
abbrev Reg.AXn_STOP_DEC (n : Nat) : Nat := 0x10C04 + 8192 * n
abbrev Reg.AXn_STOP_TMO (n : Nat) : Nat := 0x10C08 + 8192 * n
abbrev Reg.AXn_CRASH_SPD (n : Nat) : Nat := 0x10C0C + 8192 * n
abbrev Reg.AXn_CRASH_ACC (n : Nat) : Nat := 0x10C10 + 8192 * n
abbrev Reg.AXn_CRASH (n : Nat) : Nat := 0x10C14 + 8192 * n
abbrev Reg.AXn_TH_ICONT (n : Nat) : Nat := 0x10C20 + 8192 * n
abbrev Reg.AXn_TH_TAU (n : Nat) : Nat := 0x10C24 + 8192 * n
abbrev Reg.AXn_TH_FOLD (n : Nat) : Nat := 0x10C28 + 8192 * n
abbrev Reg.AXn_TH_REL (n : Nat) : Nat := 0x10C2C + 8192 * n
abbrev Reg.AXn_TH_INIT (n : Nat) : Nat := 0x10C30 + 8192 * n
abbrev Reg.AXn_TH_CFG (n : Nat) : Nat := 0x10C34 + 8192 * n
abbrev Reg.AXn_TH_TREF (n : Nat) : Nat := 0x10C38 + 8192 * n
abbrev Reg.AXn_TH_TWMAX (n : Nat) : Nat := 0x10C3C + 8192 * n
abbrev Reg.AXn_TH_TTRIP (n : Nat) : Nat := 0x10C40 + 8192 * n
abbrev Reg.AXn_TH_STATE (n : Nat) : Nat := 0x10C44 + 8192 * n
abbrev Reg.AXn_TQ_CONT (n : Nat) : Nat := 0x10C48 + 8192 * n
abbrev Reg.AXn_IMP_CFG (n : Nat) : Nat := 0x10C60 + 8192 * n
abbrev Reg.AXn_IMP_DT (n : Nat) : Nat := 0x10C64 + 8192 * n
abbrev Reg.AXn_IMP_WIN (n : Nat) : Nat := 0x10C68 + 8192 * n
abbrev Reg.AXn_IMP_FILT (n : Nat) : Nat := 0x10C6C + 8192 * n
abbrev Reg.AXn_IMP_HOLD (n : Nat) : Nat := 0x10C70 + 8192 * n
abbrev Reg.AXn_IMP_YIELD_T (n : Nat) : Nat := 0x10C74 + 8192 * n
abbrev Reg.AXn_TL_EST (n : Nat) : Nat := 0x10C78 + 8192 * n
abbrev Reg.AXn_TD_F (n : Nat) : Nat := 0x10C80 + 8192 * n
abbrev Reg.AXn_TD_Q (n : Nat) : Nat := 0x10C84 + 8192 * n
abbrev Reg.AXn_TD_K (n : Nat) : Nat := 0x10C88 + 8192 * n
abbrev Reg.AXn_ICE_CFG (n : Nat) : Nat := 0x10CA0 + 8192 * n
abbrev Reg.AXn_ICE_KP (n : Nat) : Nat := 0x10CA4 + 8192 * n
abbrev Reg.AXn_ICE_KI (n : Nat) : Nat := 0x10CA8 + 8192 * n
abbrev Reg.AXn_ICE_NSTALL (n : Nat) : Nat := 0x10CAC + 8192 * n
abbrev Reg.AXn_ICE_STALL_T (n : Nat) : Nat := 0x10CB0 + 8192 * n
abbrev Reg.AXn_ICE_PAUSE_T (n : Nat) : Nat := 0x10CB4 + 8192 * n
abbrev Reg.AXn_ICE_BACK_N (n : Nat) : Nat := 0x10CB8 + 8192 * n
abbrev Reg.AXn_ICE_BACK_T (n : Nat) : Nat := 0x10CBC + 8192 * n
abbrev Reg.AXn_VDC_CRIT_LO (n : Nat) : Nat := 0x10CC0 + 8192 * n
abbrev Reg.AXn_VDC_MOT_END (n : Nat) : Nat := 0x10CC4 + 8192 * n
abbrev Reg.AXn_VDC_MOT_LO (n : Nat) : Nat := 0x10CC8 + 8192 * n
abbrev Reg.AXn_VDC_REG (n : Nat) : Nat := 0x10CCC + 8192 * n
abbrev Reg.AXn_VDC_REG_END (n : Nat) : Nat := 0x10CD0 + 8192 * n
abbrev Reg.AXn_VDC_OV (n : Nat) : Nat := 0x10CD4 + 8192 * n
abbrev Reg.AXn_VDC_CRIT_T (n : Nat) : Nat := 0x10CDC + 8192 * n
abbrev Reg.AXn_DC_KREG (n : Nat) : Nat := 0x10CE0 + 8192 * n
abbrev Reg.AXn_DC_KMOT (n : Nat) : Nat := 0x10CE4 + 8192 * n
abbrev Reg.AXn_SHK_STAT (n : Nat) : Nat := 0x10CF0 + 8192 * n
abbrev Reg.AXn_SHK_CNT (n : Nat) : Nat := 0x10CF4 + 8192 * n
abbrev Reg.FAB_SHRg_CFG (n : Nat) : Nat := 0x61000 + 256 * n
abbrev Reg.FAB_SHRg_JOIN_T (n : Nat) : Nat := 0x61004 + 256 * n
abbrev Reg.FAB_SHRg_DESYNC_T (n : Nat) : Nat := 0x61008 + 256 * n
abbrev Reg.FAB_SHRg_MEMs (n k : Nat) : Nat := 0x61040 + 256 * n + 4 * k
abbrev Reg.FAB_SHRg_STAT (n : Nat) : Nat := 0x610C0 + 256 * n
abbrev Reg.FAB_SHRg_LIVE (n : Nat) : Nat := 0x610C4 + 256 * n
abbrev Reg.FAB_SHRg_CARRY (n : Nat) : Nat := 0x610C8 + 256 * n
abbrev Reg.FAB_SHRg_TTOT (n : Nat) : Nat := 0x610CC + 256 * n
abbrev Reg.FAB_SHRg_NREF (n : Nat) : Nat := 0x610D0 + 256 * n
abbrev Reg.FAB_SHRg_SIG (n : Nat) : Nat := 0x610D4 + 256 * n
abbrev Reg.FAB_SHRg_CNT (n : Nat) : Nat := 0x610D8 + 256 * n
abbrev Reg.AXn_SHR_CFG (n : Nat) : Nat := 0x10E00 + 8192 * n
abbrev Reg.AXn_SHR_RATIO (n : Nat) : Nat := 0x10E04 + 8192 * n
abbrev Reg.AXn_SHR_DROOP (n : Nat) : Nat := 0x10E0C + 8192 * n
abbrev Reg.AXn_SHR_STAT (n : Nat) : Nat := 0x10E10 + 8192 * n
abbrev Reg.AXn_SHR_VAL (n : Nat) : Nat := 0x10E14 + 8192 * n
abbrev Reg.AXn_SHR_WEIGHT (n : Nat) : Nat := 0x10E18 + 8192 * n
abbrev Reg.AUXn_CFG (n : Nat) : Nat := 0x20000 + 4096 * n
abbrev Reg.AUXn_PWM_F (n : Nat) : Nat := 0x20004 + 4096 * n
abbrev Reg.AUXn_I_RUN (n : Nat) : Nat := 0x20008 + 4096 * n
abbrev Reg.AUXn_I_HOLD (n : Nat) : Nat := 0x20010 + 4096 * n
abbrev Reg.AUXn_HOLD_DLY (n : Nat) : Nat := 0x20014 + 4096 * n
abbrev Reg.AUXn_RSENSE (n : Nat) : Nat := 0x20018 + 4096 * n
abbrev Reg.AUXn_MOT_R (n : Nat) : Nat := 0x2001C + 4096 * n
abbrev Reg.AUXn_MOT_L (n : Nat) : Nat := 0x20020 + 4096 * n
abbrev Reg.AUXn_MOT_KE (n : Nat) : Nat := 0x20024 + 4096 * n
abbrev Reg.AUXn_Q_KI (n : Nat) : Nat := 0x20028 + 4096 * n
abbrev Reg.AUXn_S_KP (n : Nat) : Nat := 0x2002C + 4096 * n
abbrev Reg.AUXn_S_KI (n : Nat) : Nat := 0x20030 + 4096 * n
abbrev Reg.AUXn_QS_SPD (n : Nat) : Nat := 0x20034 + 4096 * n
abbrev Reg.AUXn_QS_HYST (n : Nat) : Nat := 0x20038 + 4096 * n
abbrev Reg.AUXn_SPD_MAX (n : Nat) : Nat := 0x20040 + 4096 * n
abbrev Reg.AUXn_ACC (n : Nat) : Nat := 0x20044 + 4096 * n
abbrev Reg.AUXn_DEC (n : Nat) : Nat := 0x20048 + 4096 * n
abbrev Reg.AUXn_STOP_DEC (n : Nat) : Nat := 0x2004C + 4096 * n
abbrev Reg.AUXn_STALL_CFG (n : Nat) : Nat := 0x20050 + 4096 * n
abbrev Reg.AUXn_STALL_ANG (n : Nat) : Nat := 0x20054 + 4096 * n
abbrev Reg.AUXn_STALL_T (n : Nat) : Nat := 0x20058 + 4096 * n
abbrev Reg.AUXn_STALL_EFRAC (n : Nat) : Nat := 0x2005C + 4096 * n
abbrev Reg.AUXn_STALL_NMIN (n : Nat) : Nat := 0x20060 + 4096 * n
abbrev Reg.AUXn_HOME_CFG (n : Nat) : Nat := 0x20080 + 4096 * n
abbrev Reg.AUXn_HOME_SPD (n : Nat) : Nat := 0x20084 + 4096 * n
abbrev Reg.AUXn_HOME_BACK (n : Nat) : Nat := 0x20088 + 4096 * n
abbrev Reg.AUXn_HOME_LBACK (n : Nat) : Nat := 0x2008C + 4096 * n
abbrev Reg.AUXn_HOME_OFFS (n : Nat) : Nat := 0x20090 + 4096 * n
abbrev Reg.AUXn_HOME_MAX (n : Nat) : Nat := 0x20094 + 4096 * n
abbrev Reg.AUXn_LIM_CFG (n : Nat) : Nat := 0x200A0 + 4096 * n
abbrev Reg.AUXn_LIM_CLR (n : Nat) : Nat := 0x200A4 + 4096 * n
abbrev Reg.AUXn_KEEP_SETTLE (n : Nat) : Nat := 0x200C0 + 4096 * n
abbrev Reg.AUXn_KEEP_CHK_T (n : Nat) : Nat := 0x200C4 + 4096 * n
abbrev Reg.AUXn_KEEP_EMIN (n : Nat) : Nat := 0x200C8 + 4096 * n
abbrev Reg.AUXn_CMD (n : Nat) : Nat := 0x20200 + 4096 * n
abbrev Reg.AUXn_CMD_SET (n : Nat) : Nat := 0x20208 + 4096 * n
abbrev Reg.AUXn_CMD_POS (n : Nat) : Nat := 0x20210 + 4096 * n
abbrev Reg.AUXn_STAT (n : Nat) : Nat := 0x20220 + 4096 * n
abbrev Reg.AUXn_POS (n : Nat) : Nat := 0x20224 + 4096 * n
abbrev Reg.AUXn_SPEED (n : Nat) : Nat := 0x20228 + 4096 * n
abbrev Reg.AUXn_LOAD_ANG (n : Nat) : Nat := 0x2022C + 4096 * n
abbrev Reg.AUXn_I_A (n : Nat) : Nat := 0x20230 + 4096 * n
abbrev Reg.AUXn_I_B (n : Nat) : Nat := 0x20234 + 4096 * n
abbrev Reg.SAF_STAT : Nat := 0x50000
abbrev Reg.SAF_DEMAND : Nat := 0x50004
abbrev Reg.SAF_LATCH : Nat := 0x50008
abbrev Reg.SAF_IN_STAT : Nat := 0x5000C
abbrev Reg.SAF_SO_STAT : Nat := 0x50010
abbrev Reg.SAF_CONN_OK : Nat := 0x50014
abbrev Reg.SAF_SIG : Nat := 0x50018
abbrev Reg.SAF_PT_AGE : Nat := 0x5001C
abbrev Reg.SAF_SRST : Nat := 0x50020
abbrev Reg.SAF_V24S : Nat := 0x50024
abbrev Reg.SAF_CFG : Nat := 0x50100
abbrev Reg.SAF_TP : Nat := 0x50108
abbrev Reg.SAF_STO_CFG : Nat := 0x50110
abbrev Reg.SAF_SS1R : Nat := 0x50118
abbrev Reg.SAF_INk_CFG (n : Nat) : Nat := 0x50200 + 8 * n
abbrev Reg.SAF_FNk_CFG (n : Nat) : Nat := 0x50300 + 32 * n
abbrev Reg.SAF_FNk_SEL (n : Nat) : Nat := 0x50308 + 32 * n
abbrev Reg.SAF_FNk_T (n : Nat) : Nat := 0x50310 + 32 * n
abbrev Reg.SAF_FNk_LEAD (n : Nat) : Nat := 0x50318 + 32 * n
abbrev Reg.SAF_SOk_CFG (n : Nat) : Nat := 0x50400 + 16 * n
abbrev Reg.SAF_SOk_TIM (n : Nat) : Nat := 0x50408 + 16 * n
abbrev Reg.SAF_AXn_NSTILL (n : Nat) : Nat := 0x50600 + 32 * n
abbrev Reg.SAF_AXn_DECMON (n : Nat) : Nat := 0x50608 + 32 * n
abbrev Reg.SAF_AXn_NTOL (n : Nat) : Nat := 0x50610 + 32 * n
abbrev Reg.SAF_CONc_CFG (n : Nat) : Nat := 0x50800 + 32 * n
abbrev Reg.SAF_CONc_ID (n : Nat) : Nat := 0x50808 + 32 * n
abbrev Reg.SAF_CONc_TIM (n : Nat) : Nat := 0x50810 + 32 * n
abbrev Reg.SAF_CONc_ADDR (n : Nat) : Nat := 0x50818 + 32 * n
abbrev Reg.SAF_CONc_STAT (n : Nat) : Nat := 0x50A00 + 8 * n
abbrev Reg.SAF_CONc_SEQ (n : Nat) : Nat := 0x50A04 + 8 * n
abbrev Reg.FAB_CFG : Nat := 0x60000
abbrev Reg.FAB_STAT : Nat := 0x60004
abbrev Reg.FAB_ID_LO : Nat := 0x60008
abbrev Reg.FAB_ID_HI : Nat := 0x6000C
abbrev Reg.FAB_TBL : Nat := 0x60010
abbrev Reg.FAB_CMD_LEAD : Nat := 0x60014
abbrev Reg.FAB_REC_SEL : Nat := 0x60018
abbrev Reg.FAB_DISC_CNT : Nat := 0x6001C
abbrev Reg.FAB_DISC_CNT2 : Nat := 0x60020
abbrev Reg.FAB_EXCESS_ID_LO : Nat := 0x60024
abbrev Reg.FAB_EXCESS_ID_HI : Nat := 0x60028
abbrev Reg.FAB_ROUTE_d (n : Nat) : Nat := 0x60400 + 4 * n
abbrev Reg.FAB_Lk_STAT (n : Nat) : Nat := 0x60100 + 64 * n
abbrev Reg.FAB_Lk_RATE_TX (n : Nat) : Nat := 0x60104 + 64 * n
abbrev Reg.FAB_Lk_RATE_RX (n : Nat) : Nat := 0x60108 + 64 * n
abbrev Reg.FAB_Lk_ERR (n : Nat) : Nat := 0x6010C + 64 * n
abbrev Reg.FAB_Lk_DOWN (n : Nat) : Nat := 0x60110 + 64 * n
abbrev Reg.FAB_Lk_PID_LO (n : Nat) : Nat := 0x60114 + 64 * n
abbrev Reg.FAB_Lk_PID_HI (n : Nat) : Nat := 0x60118 + 64 * n
abbrev Reg.FAB_Lk_DELAY (n : Nat) : Nat := 0x6011C + 64 * n
abbrev Reg.FAB_Lk_CLR (n : Nat) : Nat := 0x60120 + 64 * n
abbrev Reg.CP_CFG : Nat := 0x70000
abbrev Reg.CP_LEASE : Nat := 0x70004
abbrev Reg.CP_TOK_WIN : Nat := 0x70008
abbrev Reg.CP_MNT_BAUD : Nat := 0x7000C
abbrev Reg.CP_REC_SEL : Nat := 0x70010
abbrev Reg.CP_TOK_STAT : Nat := 0x70020
abbrev Reg.CP_TOK_AGE : Nat := 0x70024
abbrev Reg.CP_TOK_CNT : Nat := 0x70028
abbrev Reg.CP_Pp_STAT (n : Nat) : Nat := 0x70040 + 32 * n
abbrev Reg.CP_Pp_RX (n : Nat) : Nat := 0x70044 + 32 * n
abbrev Reg.CP_Pp_ERR (n : Nat) : Nat := 0x70048 + 32 * n
abbrev Reg.CP_Pp_CLR (n : Nat) : Nat := 0x7004C + 32 * n
abbrev Reg.CP_IMG_STAT : Nat := 0x70100
abbrev Reg.CP_IMG_BYTES : Nat := 0x70104
abbrev Reg.CANn_CFG (n : Nat) : Nat := 0x80000 + 32768 * n
abbrev Reg.CANn_FLT_CNT (n : Nat) : Nat := 0x80004 + 32768 * n
abbrev Reg.CANn_HP_VZ (n : Nat) : Nat := 0x80008 + 32768 * n
abbrev Reg.CANn_HP_AZ (n : Nat) : Nat := 0x8000C + 32768 * n
abbrev Reg.CANn_ABD_DWELL (n : Nat) : Nat := 0x80010 + 32768 * n
abbrev Reg.CANn_NBT_k (n k : Nat) : Nat := 0x80020 + 32768 * n + 8 * k
abbrev Reg.CANn_DBT_k (n k : Nat) : Nat := 0x80024 + 32768 * n + 8 * k
abbrev Reg.CANn_STAT (n : Nat) : Nat := 0x80040 + 32768 * n
abbrev Reg.CANn_CNT (n : Nat) : Nat := 0x80044 + 32768 * n
abbrev Reg.CANn_CNT2 (n : Nat) : Nat := 0x80048 + 32768 * n
abbrev Reg.CANn_CMD (n : Nat) : Nat := 0x8004C + 32768 * n
abbrev Reg.CANn_FLTf_ID (n k : Nat) : Nat := 0x80100 + 32768 * n + 16 * k
abbrev Reg.CANn_FLTf_MASK (n k : Nat) : Nat := 0x80104 + 32768 * n + 16 * k
abbrev Reg.CANn_FLTf_CFG (n k : Nat) : Nat := 0x80108 + 32768 * n + 16 * k
abbrev Reg.CANn_TXPk_ID (n k : Nat) : Nat := 0x80600 + 32768 * n + 16 * k
abbrev Reg.CANn_TXPk_CFG (n k : Nat) : Nat := 0x80604 + 32768 * n + 16 * k
abbrev Reg.CANn_TXPk_PER (n k : Nat) : Nat := 0x80608 + 32768 * n + 16 * k
abbrev Reg.CANn_TXHh_ID (n k : Nat) : Nat := 0x80800 + 32768 * n + 128 * k
abbrev Reg.CANn_TXHh_FMT (n k : Nat) : Nat := 0x80804 + 32768 * n + 128 * k
abbrev Reg.CANn_TXHh_CMD (n k : Nat) : Nat := 0x80808 + 32768 * n + 128 * k
abbrev Reg.CANn_TXHh_STAT (n k : Nat) : Nat := 0x8080C + 32768 * n + 128 * k
abbrev Reg.CANn_TXHh_DATA_i (n k i : Nat) : Nat := 0x80810 + 32768 * n + 128 * k + 4 * i
abbrev Reg.CANn_TXHh_STAMP_LO (n k : Nat) : Nat := 0x80850 + 32768 * n + 128 * k
abbrev Reg.CANn_TXHh_STAMP_HI (n k : Nat) : Nat := 0x80854 + 32768 * n + 128 * k
abbrev Reg.RNG_r_BASE (n : Nat) : Nat := 0x90000 + 32 * n
abbrev Reg.RNG_r_CFG (n : Nat) : Nat := 0x90004 + 32 * n
abbrev Reg.RNG_r_HI (n : Nat) : Nat := 0x90008 + 32 * n
abbrev Reg.RNG_r_LO (n : Nat) : Nat := 0x9000C + 32 * n
abbrev Reg.RNG_r_WR (n : Nat) : Nat := 0x90010 + 32 * n
abbrev Reg.RNG_r_RD (n : Nat) : Nat := 0x90014 + 32 * n
abbrev Reg.RNG_r_TAP (n : Nat) : Nat := 0x90018 + 32 * n
abbrev Reg.RNG_r_LOST (n : Nat) : Nat := 0x9001C + 32 * n
abbrev Reg.SIP_CHc_CFG (n : Nat) : Nat := 0x90800 + 64 * n
abbrev Reg.SIP_CHc_VMAX (n : Nat) : Nat := 0x90804 + 64 * n
abbrev Reg.SIP_CHc_RMASK (n : Nat) : Nat := 0x90808 + 64 * n
abbrev Reg.SIP_CHc_DEST (n : Nat) : Nat := 0x9080C + 64 * n
abbrev Reg.SIP_CHc_FLUSH (n : Nat) : Nat := 0x90810 + 64 * n
abbrev Reg.SIP_CHc_HEAD (n : Nat) : Nat := 0x90814 + 64 * n
abbrev Reg.SIP_CHc_CMD (n : Nat) : Nat := 0x90818 + 64 * n
abbrev Reg.SIP_CHc_STAT (n : Nat) : Nat := 0x90820 + 64 * n
abbrev Reg.SIP_CHc_CUR (n : Nat) : Nat := 0x90824 + 64 * n
abbrev Reg.SIP_CHc_VISIT (n : Nat) : Nat := 0x90828 + 64 * n
abbrev Reg.SIP_CHc_BYTES (n : Nat) : Nat := 0x9082C + 64 * n
abbrev Reg.SIP_CHc_CNT (n : Nat) : Nat := 0x90830 + 64 * n
abbrev Reg.SIP_CHc_FETCH (n : Nat) : Nat := 0x90834 + 64 * n
abbrev Reg.SIP_STAT : Nat := 0x91000
abbrev Reg.SIP_BERR_ADDR : Nat := 0x91004
abbrev Reg.SIP_BERR_CH : Nat := 0x91008
abbrev Reg.SIP_CMD : Nat := 0x9100C
abbrev Reg.SIP_OFF_DROP : Nat := 0x91014
abbrev Reg.CAR_CFG : Nat := 0xA0000
abbrev Reg.CAR_GEOM : Nat := 0xA0004
abbrev Reg.CAR_SPARE : Nat := 0xA0008
abbrev Reg.CAR_AREA : Nat := 0xA000C
abbrev Reg.CAR_RING_MIN : Nat := 0xA0010
abbrev Reg.CAR_ECC_THR : Nat := 0xA0014
abbrev Reg.CAR_WEAR : Nat := 0xA0018
abbrev Reg.CAR_RD_LIMIT : Nat := 0xA001C
abbrev Reg.CAR_SCRUB_T : Nat := 0xA0020
abbrev Reg.CAR_STRs_CFG (n : Nat) : Nat := 0xA0040 + 4 * n
abbrev Reg.CAR_STRs_FLUSH (n : Nat) : Nat := 0xA0050 + 4 * n
abbrev Reg.CAR_TRGk (n : Nat) : Nat := 0xA0060 + 4 * n
abbrev Reg.CAR_EVT_PRE : Nat := 0xA0080
abbrev Reg.CAR_EVT_POST : Nat := 0xA0084
abbrev Reg.CAR_CMD : Nat := 0xA0100
abbrev Reg.CAR_RPL_SRC : Nat := 0xA0110
abbrev Reg.CAR_RPL_FROM_LO : Nat := 0xA0114
abbrev Reg.CAR_RPL_FROM_HI : Nat := 0xA0118
abbrev Reg.CAR_RPL_BUF : Nat := 0xA011C
abbrev Reg.CAR_RPL_LEN : Nat := 0xA0120
abbrev Reg.CAR_RPL_WR : Nat := 0xA0124
abbrev Reg.CAR_RPL_RD : Nat := 0xA0128
abbrev Reg.CAR_RPL_STAT : Nat := 0xA012C
abbrev Reg.CAR_STAT : Nat := 0xA0200
abbrev Reg.CAR_EVT_STAT : Nat := 0xA0204
abbrev Reg.CAR_DUMP_STAT : Nat := 0xA0208
abbrev Reg.CAR_BLK : Nat := 0xA020C
abbrev Reg.CAR_BLK2 : Nat := 0xA0210
abbrev Reg.CAR_EC : Nat := 0xA0214
abbrev Reg.CAR_CNT : Nat := 0xA0218
abbrev Reg.CAR_SEQ : Nat := 0xA021C
abbrev Reg.CAR_RATE : Nat := 0xA0220
abbrev Reg.CAR_EVT_T_LO (n : Nat) : Nat := 0xA0300 + 8 * n
abbrev Reg.CAR_EVT_T_HI (n : Nat) : Nat := 0xA0304 + 8 * n
abbrev Reg.FRZ_CFG : Nat := 0xC0000
abbrev Reg.FRZ_SAFE : Nat := 0xC0008
abbrev Reg.FRZ_PIN_FILT : Nat := 0xC000C
abbrev Reg.FRZ_TAP_WAIT : Nat := 0xC0010
abbrev Reg.FRZ_STAT : Nat := 0xC0020
abbrev Reg.FRZ_CNT : Nat := 0xC0024
abbrev Reg.DEV_ID_PART : Nat := 0x0
abbrev Reg.DEV_ID_VER : Nat := 0x4
abbrev Reg.DEV_ID_LO : Nat := 0x8
abbrev Reg.DEV_ID_HI : Nat := 0xC
abbrev Reg.DEV_REC_FMT : Nat := 0x10
abbrev Reg.DEV_CFG : Nat := 0x40
abbrev Reg.DEV_REC_SEL : Nat := 0x44
abbrev Reg.DEV_SMP_CFG : Nat := 0x48
abbrev Reg.DEV_SUM : Nat := 0x100
abbrev Reg.DEV_SUM_AX : Nat := 0x104
abbrev Reg.DEV_SUM_ERR : Nat := 0x108
abbrev Reg.DEV_SUM_VIOL : Nat := 0x10C
abbrev Reg.DEV_KS_RST : Nat := 0x180
abbrev Reg.DEV_KS_RST_NUM : Nat := 0x184
abbrev Reg.DEV_KS_COLD : Nat := 0x188
abbrev Reg.DEV_KS_COLD_NUM : Nat := 0x18C
abbrev Reg.DEV_KS_LAST : Nat := 0x190
abbrev Reg.DEV_KS_PAIRF : Nat := 0x194

/-! ## The rows, block by block, in pieces -/
/-- Rows of the DEV block, part 1. -/
def regRows_dev1 : List RegRow := [
  ⟨0x400, 8, 7, 0, 1, 1, .RO, false, 0x0, []⟩,
  ⟨0x404, 8, 7, 0, 1, 1, .RO, false, 0x0, []⟩,
  ⟨0x440, 0, 1, 0, 1, 1, .RO, false, 0x0, []⟩,
  ⟨0x444, 0, 1, 0, 1, 1, .RO, false, 0x0, []⟩,
  ⟨0x448, 0, 1, 0, 1, 1, .RO, false, 0x0, []⟩,
  ⟨0x44C, 0, 1, 0, 1, 1, .RO, false, 0x0, []⟩,
  ⟨0x450, 0, 1, 0, 1, 1, .WC, false, 0x0, [⟨0, 1, .any⟩]⟩,
  ⟨0x200, 0, 1, 0, 1, 1, .RO, false, 0x0, []⟩,
  ⟨0x204, 0, 1, 0, 1, 1, .RO, false, 0x0, []⟩,
  ⟨0x208, 0, 1, 0, 1, 1, .RO, false, 0x0, []⟩,
  ⟨0x20C, 0, 1, 0, 1, 1, .RO, false, 0x0, []⟩,
  ⟨0x210, 0, 1, 0, 1, 1, .RO, false, 0x0, []⟩,
  ⟨0x214, 0, 1, 0, 1, 1, .RO, false, 0x0, []⟩,
  ⟨0x218, 0, 1, 0, 1, 1, .RO, false, 0x0, []⟩,
  ⟨0x21C, 0, 1, 0, 1, 1, .RO, false, 0x0, []⟩,
  ⟨0x220, 0, 1, 0, 1, 1, .RO, false, 0x0, []⟩,
  ⟨0x240, 0, 1, 0, 1, 1, .RO, false, 0x0, []⟩,
  ⟨0x244, 0, 1, 0, 1, 1, .WC, false, 0x0, [⟨0, 1, .any⟩]⟩,
  ⟨0x248, 0, 1, 0, 1, 1, .WC, true, 0x0, [⟨0, 16, .any⟩]⟩,
  ⟨0x250, 0, 1, 0, 1, 1, .RO, false, 0x0, []⟩,
  ⟨0x254, 0, 1, 0, 1, 1, .RO, false, 0x0, []⟩,
  ⟨0x258, 0, 1, 0, 1, 1, .RO, false, 0x0, []⟩,
  ⟨0x25C, 0, 1, 0, 1, 1, .RO, false, 0x0, []⟩,
  ⟨0x260, 0, 1, 0, 1, 1, .RO, false, 0x0, []⟩,
  ⟨0x264, 0, 1, 0, 1, 1, .RW, false, 0x0, [⟨0, 10, .any⟩]⟩,
  ⟨0x268, 0, 1, 0, 1, 1, .RO, false, 0x0, []⟩,
  ⟨0x26C, 0, 1, 0, 1, 1, .RO, false, 0x0, []⟩,
  ⟨0x280, 0, 1, 0, 1, 1, .RO, false, 0x0, []⟩,
  ⟨0x284, 0, 1, 0, 1, 1, .RO, false, 0x0, []⟩,
  ⟨0x288, 0, 1, 0, 1, 1, .RO, false, 0x0, []⟩]
/-- Rows of the DEV block, part 2. -/
def regRows_dev2 : List RegRow := [
  ⟨0x28C, 0, 1, 0, 1, 1, .WC, true, 0x0, [⟨0, 2, .btw 1 3⟩]⟩,
  ⟨0x294, 0, 1, 0, 1, 1, .RO, false, 0x0, []⟩,
  ⟨0x298, 0, 1, 0, 1, 1, .RO, false, 0x0, []⟩,
  ⟨0x29C, 0, 1, 0, 1, 1, .RO, false, 0x0, []⟩,
  ⟨0x2A0, 0, 1, 0, 1, 1, .RI, false, 0xA0003C, [⟨0, 10, .btw 1 600⟩, ⟨16, 1, .any⟩, ⟨20, 7, .btw 1 100⟩]⟩,
  ⟨0x300, 0, 1, 0, 1, 1, .WC, true, 0x0, [⟨0, 6, .any⟩, ⟨8, 4, .any⟩]⟩,
  ⟨0x308, 0, 1, 0, 1, 1, .RO, false, 0x0, []⟩,
  ⟨0x30C, 0, 1, 0, 1, 1, .RO, false, 0x0, []⟩,
  ⟨0x0, 0, 1, 0, 1, 1, .RO, false, 0x2464, []⟩,
  ⟨0x4, 0, 1, 0, 1, 1, .RO, false, 0x0, []⟩,
  ⟨0x8, 0, 1, 0, 1, 1, .RO, false, 0x0, []⟩,
  ⟨0xC, 0, 1, 0, 1, 1, .RO, false, 0x0, []⟩,
  ⟨0x10, 0, 1, 0, 1, 1, .RO, false, 0x1, []⟩,
  ⟨0x40, 0, 1, 0, 1, 1, .RI, false, 0x2, [⟨0, 2, .any⟩]⟩,
  ⟨0x44, 0, 1, 0, 1, 1, .RS, false, 0x3FFC, [⟨1, 13, .ones 0x17C0⟩]⟩,
  ⟨0x48, 0, 1, 0, 1, 1, .RS, false, 0x100100, [⟨0, 6, .any⟩, ⟨8, 8, .btw 1 255⟩, ⟨16, 7, .btw 1 64⟩]⟩,
  ⟨0x100, 0, 1, 0, 1, 1, .RO, false, 0x0, []⟩,
  ⟨0x104, 0, 1, 0, 1, 1, .RO, false, 0x0, []⟩,
  ⟨0x108, 0, 1, 0, 1, 1, .RO, false, 0x0, []⟩,
  ⟨0x10C, 0, 1, 0, 1, 1, .RO, false, 0x0, []⟩,
  ⟨0x180, 0, 1, 0, 1, 1, .RO, false, 0x0, []⟩,
  ⟨0x184, 0, 1, 0, 1, 1, .RO, false, 0x0, []⟩,
  ⟨0x188, 0, 1, 0, 1, 1, .RO, false, 0x0, []⟩,
  ⟨0x18C, 0, 1, 0, 1, 1, .RO, false, 0x0, []⟩,
  ⟨0x190, 0, 1, 0, 1, 1, .RO, false, 0x0, []⟩,
  ⟨0x194, 0, 1, 0, 1, 1, .RO, false, 0x0, []⟩]
def regRows_dev : List RegRow := regRows_dev1 ++ regRows_dev2
/-- Rows of the AX block, part 1. -/
def regRows_ax1 : List RegRow := [
  ⟨0x10100, 8192, 6, 0, 1, 1, .RI, false, 0x0, [⟨0, 1, .any⟩]⟩,
  ⟨0x10104, 8192, 6, 0, 1, 1, .RO, false, 0x0, []⟩,
  ⟨0x10108, 8192, 6, 0, 1, 1, .RO, false, 0x0, []⟩,
  ⟨0x1010C, 8192, 6, 0, 1, 1, .RO, false, 0x0, []⟩,
  ⟨0x10110, 8192, 6, 0, 1, 1, .RO, false, 0x0, []⟩,
  ⟨0x10114, 8192, 6, 0, 1, 1, .WC, false, 0x0, [⟨0, 1, .any⟩]⟩,
  ⟨0x10200, 8192, 6, 0, 1, 1, .RI, false, 0x1, [⟨0, 1, .any⟩, ⟨2, 1, .any⟩, ⟨8, 6, .any⟩]⟩,
  ⟨0x10204, 8192, 6, 0, 1, 1, .RS, false, 0x461C4000, [⟨0, 32, .fAny⟩]⟩,
  ⟨0x10208, 8192, 6, 0, 1, 1, .RS, true, 0x0, [⟨0, 32, .f 0x3F800000 0x469C4000⟩]⟩,
  ⟨0x10210, 8192, 6, 0, 1, 1, .RS, false, 0x0, [⟨0, 32, .fnp 0x3727C5AC 0x41200000⟩]⟩,
  ⟨0x10214, 8192, 6, 0, 1, 1, .RS, false, 0x0, [⟨0, 32, .fnp 0x358637BD 0x3F800000⟩]⟩,
  ⟨0x10218, 8192, 6, 0, 1, 1, .RS, false, 0x0, [⟨0, 32, .fnp 0x358637BD 0x3F800000⟩]⟩,
  ⟨0x1021C, 8192, 6, 0, 1, 1, .RS, false, 0x0, [⟨0, 32, .fnp 0x38D1B717 0x41200000⟩]⟩,
  ⟨0x10220, 8192, 6, 0, 1, 1, .RS, false, 0x0, [⟨0, 32, .fAny⟩]⟩,
  ⟨0x10224, 8192, 6, 0, 1, 1, .RS, false, 0x0, [⟨0, 32, .fAny⟩]⟩,
  ⟨0x10228, 8192, 6, 0, 1, 1, .RS, false, 0x0, [⟨0, 32, .fAny⟩]⟩,
  ⟨0x1022C, 8192, 6, 0, 1, 1, .RS, false, 0x0, [⟨0, 32, .fAny⟩]⟩,
  ⟨0x10230, 8192, 6, 0, 1, 1, .RS, false, 0x1, [⟨0, 1, .any⟩, ⟨1, 1, .any⟩]⟩,
  ⟨0x10234, 8192, 6, 0, 1, 1, .RS, false, 0x3F800000, [⟨0, 32, .f 0x3F682A99 0x3F800000⟩]⟩,
  ⟨0x10238, 8192, 6, 0, 1, 1, .RS, false, 0x0, [⟨0, 32, .f 0x0 0x358637BD⟩]⟩,
  ⟨0x1023C, 8192, 6, 0, 1, 1, .RS, false, 0x0, [⟨0, 32, .f 0x0 0x40A00000⟩]⟩,
  ⟨0x10240, 8192, 6, 0, 1, 1, .RS, false, 0x0, [⟨0, 32, .f 0x0 0x447A0000⟩]⟩,
  ⟨0x10244, 8192, 6, 0, 1, 1, .RS, false, 0x3F733333, [⟨0, 32, .f 0x3F4CCCCD 0x3F800000⟩]⟩,
  ⟨0x10248, 8192, 6, 0, 1, 1, .RS, false, 0x0, [⟨0, 32, .f 0x0 0x4B189680⟩]⟩,
  ⟨0x1024C, 8192, 6, 0, 1, 1, .RS, false, 0x0, [⟨0, 32, .fAny⟩]⟩,
  ⟨0x10250, 8192, 6, 0, 1, 1, .RS, false, 0x0, [⟨0, 32, .fAny⟩]⟩,
  ⟨0x10300, 8192, 6, 8, 33, 1, .RS, false, 0x0, [⟨0, 32, .fAny⟩]⟩,
  ⟨0x10304, 8192, 6, 8, 33, 1, .RS, false, 0x0, [⟨0, 32, .fAny⟩]⟩,
  ⟨0x10500, 8192, 6, 0, 1, 1, .RS, false, 0x457A0000, [⟨0, 32, .f 0x42C80000 0x47435000⟩]⟩,
  ⟨0x10504, 8192, 6, 0, 1, 1, .RS, false, 0x42480000, [⟨0, 32, .f 0x3F800000 0x43FA0000⟩]⟩]
/-- Rows of the AX block, part 2. -/
def regRows_ax2 : List RegRow := [
  ⟨0x10508, 8192, 6, 0, 1, 1, .RS, false, 0x0, [⟨0, 32, .f 0x0 0x461C4000⟩]⟩,
  ⟨0x1050C, 8192, 6, 0, 1, 1, .RS, false, 0x3F490FDB, [⟨0, 32, .f 0x3E2E147B 0x3FB33333⟩]⟩,
  ⟨0x10510, 8192, 6, 0, 1, 1, .RS, false, 0x3B03126F, [⟨0, 32, .f 0x3A03126F 0x3DCCCCCD⟩]⟩,
  ⟨0x10514, 8192, 6, 0, 1, 1, .RS, false, 0x3E99999A, [⟨0, 32, .f 0x3D4CCCCD 0x3F666666⟩]⟩,
  ⟨0x10518, 8192, 6, 0, 1, 1, .RS, false, 0x0, [⟨0, 32, .fAny⟩]⟩,
  ⟨0x1051C, 8192, 6, 0, 1, 1, .RS, false, 0x0, [⟨0, 32, .f 0x0 0x49742400⟩]⟩,
  ⟨0x10520, 8192, 6, 0, 1, 1, .RS, false, 0x3F666666, [⟨0, 32, .f 0x3F000000 0x3F800000⟩]⟩,
  ⟨0x10524, 8192, 6, 0, 1, 1, .RS, false, 0x3C23D70A, [⟨0, 32, .f 0x3A83126F 0x3F800000⟩]⟩,
  ⟨0x10528, 8192, 6, 0, 1, 1, .RS, false, 0x3E4CCCCD, [⟨0, 32, .f 0x3C23D70A 0x41200000⟩]⟩,
  ⟨0x1052C, 8192, 6, 0, 1, 1, .RS, false, 0x41F00000, [⟨0, 32, .f 0x3F800000 0x44160000⟩]⟩,
  ⟨0x10530, 8192, 6, 0, 1, 1, .RS, false, 0x0, [⟨0, 32, .fAny⟩]⟩,
  ⟨0x10534, 8192, 6, 0, 1, 1, .RS, false, 0x0, [⟨0, 32, .f 0x0 0x461C4000⟩]⟩,
  ⟨0x10538, 8192, 6, 0, 1, 1, .RS, false, 0x3DCCCCCD, [⟨0, 32, .f 0x0 0x40A00000⟩]⟩,
  ⟨0x1053C, 8192, 6, 0, 1, 1, .RS, false, 0x3D4CCCCD, [⟨0, 32, .f 0x3A83126F 0x3F800000⟩]⟩,
  ⟨0x10540, 8192, 6, 0, 1, 1, .RS, false, 0x3F800000, [⟨0, 32, .f 0x3DCCCCCD 0x42480000⟩]⟩,
  ⟨0x10544, 8192, 6, 0, 1, 1, .RS, false, 0x0, [⟨0, 32, .fAny⟩]⟩,
  ⟨0x10548, 8192, 6, 0, 1, 1, .RI, false, 0x0, [⟨0, 32, .any⟩]⟩,
  ⟨0x10600, 8192, 6, 0, 1, 1, .RO, false, 0x0, []⟩,
  ⟨0x10604, 8192, 6, 0, 1, 1, .RO, false, 0x0, []⟩,
  ⟨0x10608, 8192, 6, 0, 1, 1, .RO, false, 0x0, []⟩,
  ⟨0x1060C, 8192, 6, 0, 1, 1, .RO, false, 0x0, []⟩,
  ⟨0x10610, 8192, 6, 0, 1, 1, .RO, false, 0x0, []⟩,
  ⟨0x10614, 8192, 6, 0, 1, 1, .RO, false, 0x0, []⟩,
  ⟨0x10618, 8192, 6, 0, 1, 1, .RO, false, 0x0, []⟩,
  ⟨0x1061C, 8192, 6, 0, 1, 1, .RO, false, 0x0, []⟩,
  ⟨0x10620, 8192, 6, 0, 1, 1, .RO, false, 0x0, []⟩,
  ⟨0x10624, 8192, 6, 0, 1, 1, .RO, false, 0x0, []⟩,
  ⟨0x10628, 8192, 6, 0, 1, 1, .RO, false, 0x0, []⟩,
  ⟨0x1062C, 8192, 6, 0, 1, 1, .RO, false, 0x0, []⟩,
  ⟨0x10630, 8192, 6, 0, 1, 1, .RO, false, 0x0, []⟩]
/-- Rows of the AX block, part 3. -/
def regRows_ax3 : List RegRow := [
  ⟨0x10634, 8192, 6, 0, 1, 1, .RO, false, 0x0, []⟩,
  ⟨0x10800, 8192, 6, 0, 1, 1, .RW, true, 0x0, [⟨0, 3, .le 3⟩, ⟨4, 1, .any⟩]⟩,
  ⟨0x10808, 8192, 6, 0, 1, 1, .RW, true, 0x0, [⟨0, 32, .fAny⟩]⟩,
  ⟨0x10810, 8192, 6, 0, 1, 1, .RI, false, 0xA00, [⟨0, 2, .le 2⟩, ⟨8, 8, .btw 1 255⟩]⟩,
  ⟨0x10814, 8192, 6, 0, 1, 1, .RO, false, 0x0, []⟩,
  ⟨0x10818, 8192, 6, 0, 1, 1, .RO, false, 0x0, []⟩,
  ⟨0x1081C, 8192, 6, 0, 1, 1, .RO, false, 0x0, []⟩,
  ⟨0x10820, 8192, 6, 0, 1, 1, .RS, false, 0x0, [⟨0, 32, .fz 0x3F800000 0x46EA6000⟩]⟩,
  ⟨0x10824, 8192, 6, 0, 1, 1, .RS, false, 0x0, [⟨0, 32, .f 0x0 0x49742400⟩]⟩,
  ⟨0x10828, 8192, 6, 0, 1, 1, .RS, false, 0x0, [⟨0, 32, .f 0x0 0x49742400⟩]⟩,
  ⟨0x1082C, 8192, 6, 0, 1, 1, .RS, false, 0x0, [⟨0, 32, .fz 0x3F800000 0x4CBEBC20⟩]⟩,
  ⟨0x10830, 8192, 6, 0, 1, 1, .RS, false, 0x0, [⟨0, 32, .fAny⟩]⟩,
  ⟨0x10834, 8192, 6, 0, 1, 1, .RS, false, 0x0, [⟨0, 32, .fAny⟩]⟩,
  ⟨0x10838, 8192, 6, 0, 1, 1, .RS, false, 0x3A83126F, [⟨0, 32, .f 0x0 0x3DCCCCCD⟩]⟩,
  ⟨0x1083C, 8192, 6, 0, 1, 1, .RS, true, 0x0, [⟨0, 32, .fAny⟩]⟩,
  ⟨0x10844, 8192, 6, 0, 1, 1, .RS, true, 0x0, [⟨0, 32, .fAny⟩]⟩,
  ⟨0x1084C, 8192, 6, 0, 1, 1, .RS, false, 0x4B189680, [⟨0, 32, .f 0x3F800000 0x4CBEBC20⟩]⟩,
  ⟨0x10850, 8192, 6, 0, 1, 1, .RS, false, 0x3F800000, [⟨0, 32, .f 0x3DCCCCCD 0x42C80000⟩]⟩,
  ⟨0x10854, 8192, 6, 0, 1, 1, .RS, false, 0x0, [⟨0, 32, .fAny⟩]⟩,
  ⟨0x10858, 8192, 6, 0, 1, 1, .RS, false, 0x0, [⟨0, 32, .fAny⟩]⟩,
  ⟨0x10860, 8192, 6, 0, 1, 1, .RI, false, 0x0, [⟨0, 5, .any⟩, ⟨7, 1, .any⟩, ⟨8, 1, .any⟩]⟩,
  ⟨0x10864, 8192, 6, 0, 1, 1, .RS, false, 0x3DCCCCCD, [⟨0, 32, .f 0x3CA3D70A 0x3F000000⟩]⟩,
  ⟨0x10868, 8192, 6, 0, 1, 1, .RS, false, 0x3D4CCCCD, [⟨0, 32, .f 0x3C23D70A 0x3EE66666⟩]⟩,
  ⟨0x1086C, 8192, 6, 0, 1, 1, .RS, false, 0x3C23D70A, [⟨0, 32, .f 0x0 0x3D4CCCCD⟩]⟩,
  ⟨0x10900, 8192, 6, 4, 33, 1, .RS, false, 0x0, [⟨0, 32, .fAny⟩]⟩,
  ⟨0x10A00, 8192, 6, 0, 1, 1, .RI, false, 0x0, [⟨0, 5, .any⟩, ⟨7, 1, .any⟩, ⟨8, 1, .any⟩]⟩,
  ⟨0x10A04, 8192, 6, 0, 1, 1, .RS, false, 0x3F800000, [⟨0, 32, .fz 0x3F800000 0x461C4000⟩]⟩,
  ⟨0x10A08, 8192, 6, 0, 1, 1, .RS, false, 0x0, [⟨0, 32, .fz 0x3D4CCCCD 0x41200000⟩]⟩,
  ⟨0x10A0C, 8192, 6, 0, 1, 1, .RS, false, 0x0, [⟨0, 32, .fAny⟩]⟩,
  ⟨0x10A10, 8192, 6, 0, 1, 1, .RS, false, 0x0, [⟨0, 32, .fAny⟩]⟩]
/-- Rows of the AX block, part 4. -/
def regRows_ax4 : List RegRow := [
  ⟨0x10A14, 8192, 6, 0, 1, 1, .RS, true, 0x0, [⟨0, 32, .fAny⟩]⟩,
  ⟨0x10A1C, 8192, 6, 0, 1, 1, .RS, false, 0x0, [⟨0, 32, .fAny⟩]⟩,
  ⟨0x10A20, 8192, 6, 0, 1, 1, .RS, false, 0x0, [⟨0, 32, .f 0x0 0x41200000⟩]⟩,
  ⟨0x10A24, 8192, 6, 0, 1, 1, .RS, false, 0x3F800000, [⟨0, 32, .f 0x3DCCCCCD 0x42700000⟩]⟩,
  ⟨0x10A28, 8192, 6, 0, 1, 1, .RO, false, 0x0, []⟩,
  ⟨0x10A2C, 8192, 6, 0, 1, 1, .RO, false, 0x0, []⟩,
  ⟨0x10A40, 8192, 6, 0, 1, 1, .RW, true, 0x0, [⟨0, 32, .fAny⟩]⟩,
  ⟨0x10A48, 8192, 6, 0, 1, 1, .RW, true, 0x0, [⟨0, 32, .fAny⟩]⟩,
  ⟨0x10A50, 8192, 6, 0, 1, 1, .RS, false, 0x0, [⟨0, 32, .f 0x0 0x3F000000⟩]⟩,
  ⟨0x10A54, 8192, 6, 0, 1, 1, .RS, false, 0x0, [⟨0, 32, .f 0x0 0x3F000000⟩]⟩,
  ⟨0x10A58, 8192, 6, 0, 1, 1, .RS, false, 0x3F800000, [⟨0, 32, .f 0x0 0x3F99999A⟩]⟩,
  ⟨0x10A5C, 8192, 6, 0, 1, 1, .RS, false, 0x3D4CCCCD, [⟨0, 32, .f 0x3A83126F 0x3F800000⟩]⟩,
  ⟨0x10A60, 8192, 6, 0, 1, 1, .RS, false, 0x3F000000, [⟨0, 32, .f 0x3C23D70A 0x41200000⟩]⟩,
  ⟨0x10A64, 8192, 6, 0, 1, 1, .RO, false, 0x0, []⟩,
  ⟨0x10A68, 8192, 6, 0, 1, 1, .RO, false, 0x0, []⟩,
  ⟨0x10C00, 8192, 6, 0, 1, 1, .RI, false, 0x8400, [⟨0, 2, .any⟩, ⟨2, 2, .any⟩, ⟨4, 2, .any⟩, ⟨6, 2, .any⟩, ⟨8, 2, .any⟩, ⟨10, 2, .any⟩, ⟨12, 2, .any⟩, ⟨14, 2, .any⟩]⟩,
  ⟨0x10C04, 8192, 6, 0, 1, 1, .RS, false, 0x0, [⟨0, 32, .f 0x0 0x49742400⟩]⟩,
  ⟨0x10C08, 8192, 6, 0, 1, 1, .RS, false, 0x41F00000, [⟨0, 32, .f 0x3DCCCCCD 0x44160000⟩]⟩,
  ⟨0x10C0C, 8192, 6, 0, 1, 1, .RS, false, 0x0, [⟨0, 32, .fAny⟩]⟩,
  ⟨0x10C10, 8192, 6, 0, 1, 1, .RS, false, 0x0, [⟨0, 32, .f 0x0 0x49742400⟩]⟩,
  ⟨0x10C14, 8192, 6, 0, 1, 1, .WC, true, 0x0, [⟨0, 1, .btw 1 1⟩]⟩,
  ⟨0x10C20, 8192, 6, 0, 1, 1, .RS, false, 0x0, [⟨0, 32, .fAny⟩]⟩,
  ⟨0x10C24, 8192, 6, 0, 1, 1, .RS, false, 0x0, [⟨0, 32, .f 0x0 0x47C35000⟩]⟩,
  ⟨0x10C28, 8192, 6, 0, 1, 1, .RS, false, 0x3F800000, [⟨0, 32, .f 0x3F000000 0x3F800000⟩]⟩,
  ⟨0x10C2C, 8192, 6, 0, 1, 1, .RS, false, 0x3F666666, [⟨0, 32, .f 0x3F000000 0x3F7D70A4⟩]⟩,
  ⟨0x10C30, 8192, 6, 0, 1, 1, .RS, false, 0x3F333333, [⟨0, 32, .f 0x0 0x3F800000⟩]⟩,
  ⟨0x10C34, 8192, 6, 0, 1, 1, .RI, false, 0x0, [⟨0, 5, .any⟩, ⟨7, 1, .any⟩]⟩,
  ⟨0x10C38, 8192, 6, 0, 1, 1, .RS, false, 0x0, [⟨0, 32, .fAny⟩]⟩,
  ⟨0x10C3C, 8192, 6, 0, 1, 1, .RS, false, 0x0, [⟨0, 32, .fAny⟩]⟩,
  ⟨0x10C40, 8192, 6, 0, 1, 1, .RS, false, 0x0, [⟨0, 32, .fAny⟩]⟩]
/-- Rows of the AX block, part 5. -/
def regRows_ax5 : List RegRow := [
  ⟨0x10C44, 8192, 6, 0, 1, 1, .RO, false, 0x0, []⟩,
  ⟨0x10C48, 8192, 6, 0, 1, 1, .RO, false, 0x0, []⟩,
  ⟨0x10C60, 8192, 6, 0, 1, 1, .RS, false, 0x0, [⟨0, 2, .any⟩]⟩,
  ⟨0x10C64, 8192, 6, 0, 1, 1, .RS, false, 0x0, [⟨0, 32, .fAny⟩]⟩,
  ⟨0x10C68, 8192, 6, 0, 1, 1, .RS, false, 0x3C23D70A, [⟨0, 32, .f 0x3983126F 0x3F800000⟩]⟩,
  ⟨0x10C6C, 8192, 6, 0, 1, 1, .RS, false, 0x3A83126F, [⟨0, 32, .f 0x0 0x3DCCCCCD⟩]⟩,
  ⟨0x10C70, 8192, 6, 0, 1, 1, .RS, false, 0x3F000000, [⟨0, 32, .f 0x3C23D70A 0x42700000⟩]⟩,
  ⟨0x10C74, 8192, 6, 0, 1, 1, .RS, false, 0x0, [⟨0, 32, .fAny⟩]⟩,
  ⟨0x10C78, 8192, 6, 0, 1, 1, .RO, false, 0x0, []⟩,
  ⟨0x10C80, 8192, 6, 0, 1, 1, .RS, false, 0x0, [⟨0, 32, .f 0x0 0x447A0000⟩]⟩,
  ⟨0x10C84, 8192, 6, 0, 1, 1, .RS, false, 0x3F800000, [⟨0, 32, .f 0x3F000000 0x41200000⟩]⟩,
  ⟨0x10C88, 8192, 6, 0, 1, 1, .RS, false, 0x0, [⟨0, 32, .fAny⟩]⟩,
  ⟨0x10CA0, 8192, 6, 0, 1, 1, .RS, false, 0x300, [⟨0, 1, .any⟩, ⟨8, 4, .any⟩]⟩,
  ⟨0x10CA4, 8192, 6, 0, 1, 1, .RS, false, 0x0, [⟨0, 32, .fAny⟩]⟩,
  ⟨0x10CA8, 8192, 6, 0, 1, 1, .RS, false, 0x0, [⟨0, 32, .fAny⟩]⟩,
  ⟨0x10CAC, 8192, 6, 0, 1, 1, .RS, false, 0x0, [⟨0, 32, .fAny⟩]⟩,
  ⟨0x10CB0, 8192, 6, 0, 1, 1, .RS, false, 0x3F800000, [⟨0, 32, .f 0x3DCCCCCD 0x41200000⟩]⟩,
  ⟨0x10CB4, 8192, 6, 0, 1, 1, .RS, false, 0x40000000, [⟨0, 32, .f 0x0 0x41F00000⟩]⟩,
  ⟨0x10CB8, 8192, 6, 0, 1, 1, .RS, false, 0x0, [⟨0, 32, .fAny⟩]⟩,
  ⟨0x10CBC, 8192, 6, 0, 1, 1, .RS, false, 0x3F800000, [⟨0, 32, .f 0x0 0x41F00000⟩]⟩,
  ⟨0x10CC0, 8192, 6, 0, 1, 1, .RS, false, 0x0, [⟨0, 32, .fAny⟩]⟩,
  ⟨0x10CC4, 8192, 6, 0, 1, 1, .RS, false, 0x0, [⟨0, 32, .fAny⟩]⟩,
  ⟨0x10CC8, 8192, 6, 0, 1, 1, .RS, false, 0x0, [⟨0, 32, .fAny⟩]⟩,
  ⟨0x10CCC, 8192, 6, 0, 1, 1, .RS, false, 0x0, [⟨0, 32, .fAny⟩]⟩,
  ⟨0x10CD0, 8192, 6, 0, 1, 1, .RS, false, 0x0, [⟨0, 32, .fAny⟩]⟩,
  ⟨0x10CD4, 8192, 6, 0, 1, 1, .RS, true, 0x0, [⟨0, 32, .f 0x41200000 0x44FA0000⟩]⟩,
  ⟨0x10CDC, 8192, 6, 0, 1, 1, .RS, false, 0x3C23D70A, [⟨0, 32, .f 0x3A83126F 0x3F800000⟩]⟩,
  ⟨0x10CE0, 8192, 6, 0, 1, 1, .RO, false, 0x0, []⟩,
  ⟨0x10CE4, 8192, 6, 0, 1, 1, .RO, false, 0x0, []⟩,
  ⟨0x10CF0, 8192, 6, 0, 1, 1, .RO, false, 0x0, []⟩]
/-- Rows of the AX block, part 6. -/
def regRows_ax6 : List RegRow := [
  ⟨0x10CF4, 8192, 6, 0, 1, 1, .RO, false, 0x0, []⟩,
  ⟨0x10E00, 8192, 6, 0, 1, 1, .RI, false, 0x1F, [⟨0, 5, .any⟩]⟩,
  ⟨0x10E04, 8192, 6, 0, 1, 1, .RS, true, 0x3F800000, [⟨0, 32, .f 0x3C23D70A 0x42C80000⟩]⟩,
  ⟨0x10E0C, 8192, 6, 0, 1, 1, .RS, false, 0x0, [⟨0, 32, .f 0x0 0x3F800000⟩]⟩,
  ⟨0x10E10, 8192, 6, 0, 1, 1, .RO, false, 0x0, []⟩,
  ⟨0x10E14, 8192, 6, 0, 1, 1, .RO, false, 0x0, []⟩,
  ⟨0x10E18, 8192, 6, 0, 1, 1, .RO, false, 0x0, []⟩]
def regRows_ax : List RegRow := regRows_ax1 ++ regRows_ax2 ++ regRows_ax3 ++ regRows_ax4 ++ regRows_ax5 ++ regRows_ax6
/-- Rows of the AUX block, part 1. -/
def regRows_aux1 : List RegRow := [
  ⟨0x20100, 4096, 4, 0, 1, 1, .RI, false, 0x0, []⟩,
  ⟨0x20104, 4096, 4, 0, 1, 1, .RO, false, 0x0, []⟩,
  ⟨0x20108, 4096, 4, 0, 1, 1, .RO, false, 0x0, []⟩,
  ⟨0x2010C, 4096, 4, 0, 1, 1, .RO, false, 0x0, []⟩,
  ⟨0x20110, 4096, 4, 0, 1, 1, .RO, false, 0x0, []⟩,
  ⟨0x20114, 4096, 4, 0, 1, 1, .WC, false, 0x0, [⟨0, 1, .any⟩]⟩,
  ⟨0x20000, 4096, 4, 0, 1, 1, .RI, false, 0xC8, [⟨0, 10, .any⟩, ⟨16, 1, .any⟩, ⟨17, 1, .any⟩, ⟨24, 5, .any⟩]⟩,
  ⟨0x20004, 4096, 4, 0, 1, 1, .RS, false, 0x469C4000, [⟨0, 32, .fAny⟩]⟩,
  ⟨0x20008, 4096, 4, 0, 1, 1, .RS, true, 0x0, [⟨0, 32, .fz 0x3C23D70A 0x42C80000⟩]⟩,
  ⟨0x20010, 4096, 4, 0, 1, 1, .RS, false, 0x0, [⟨0, 32, .f 0x0 0x42C80000⟩]⟩,
  ⟨0x20014, 4096, 4, 0, 1, 1, .RS, false, 0x3F000000, [⟨0, 32, .f 0x3C23D70A 0x42700000⟩]⟩,
  ⟨0x20018, 4096, 4, 0, 1, 1, .RI, false, 0x0, [⟨0, 32, .f 0x3A83126F 0x3F800000⟩]⟩,
  ⟨0x2001C, 4096, 4, 0, 1, 1, .RS, false, 0x0, [⟨0, 32, .fnp 0x3A83126F 0x42C80000⟩]⟩,
  ⟨0x20020, 4096, 4, 0, 1, 1, .RS, false, 0x0, [⟨0, 32, .fnp 0x3727C5AC 0x3F800000⟩]⟩,
  ⟨0x20024, 4096, 4, 0, 1, 1, .RS, false, 0x0, [⟨0, 32, .fnp 0x3A83126F 0x42C80000⟩]⟩,
  ⟨0x20028, 4096, 4, 0, 1, 1, .RS, false, 0x0, [⟨0, 32, .fAny⟩]⟩,
  ⟨0x2002C, 4096, 4, 0, 1, 1, .RS, false, 0x0, [⟨0, 32, .fAny⟩]⟩,
  ⟨0x20030, 4096, 4, 0, 1, 1, .RS, false, 0x0, [⟨0, 32, .fAny⟩]⟩,
  ⟨0x20034, 4096, 4, 0, 1, 1, .RS, false, 0x0, [⟨0, 32, .f 0x0 0x453B8000⟩]⟩,
  ⟨0x20038, 4096, 4, 0, 1, 1, .RS, false, 0x3DCCCCCD, [⟨0, 32, .f 0x3D4CCCCD 0x3F000000⟩]⟩,
  ⟨0x20040, 4096, 4, 0, 1, 1, .RS, false, 0x0, [⟨0, 32, .fz 0x3F800000 0x453B8000⟩]⟩,
  ⟨0x20044, 4096, 4, 0, 1, 1, .RS, false, 0x0, [⟨0, 32, .f 0x0 0x49742400⟩]⟩,
  ⟨0x20048, 4096, 4, 0, 1, 1, .RS, false, 0x0, [⟨0, 32, .f 0x0 0x49742400⟩]⟩,
  ⟨0x2004C, 4096, 4, 0, 1, 1, .RS, false, 0x0, [⟨0, 32, .f 0x0 0x49742400⟩]⟩,
  ⟨0x20050, 4096, 4, 0, 1, 1, .RS, false, 0x0, [⟨0, 1, .any⟩]⟩,
  ⟨0x20054, 4096, 4, 0, 1, 1, .RS, false, 0x3FB2B8C2, [⟨0, 32, .f 0x3F000000 0x3FC8F5C3⟩]⟩,
  ⟨0x20058, 4096, 4, 0, 1, 1, .RS, false, 0x3CA3D70A, [⟨0, 32, .f 0x3A83126F 0x3F800000⟩]⟩,
  ⟨0x2005C, 4096, 4, 0, 1, 1, .RS, false, 0x3E99999A, [⟨0, 32, .f 0x3D4CCCCD 0x3F666666⟩]⟩,
  ⟨0x20060, 4096, 4, 0, 1, 1, .RS, false, 0x0, [⟨0, 32, .f 0x0 0x453B8000⟩]⟩,
  ⟨0x20080, 4096, 4, 0, 1, 1, .RI, false, 0x0, [⟨0, 1, .any⟩]⟩]
/-- Rows of the AUX block, part 2. -/
def regRows_aux2 : List RegRow := [
  ⟨0x20084, 4096, 4, 0, 1, 1, .RS, false, 0x0, [⟨0, 32, .fAny⟩]⟩,
  ⟨0x20088, 4096, 4, 0, 1, 1, .RS, false, 0x0, [⟨0, 32, .le 16777216⟩]⟩,
  ⟨0x2008C, 4096, 4, 0, 1, 1, .RS, false, 0x0, [⟨0, 32, .le 16777216⟩]⟩,
  ⟨0x20090, 4096, 4, 0, 1, 1, .RS, false, 0x0, [⟨0, 32, .any⟩]⟩,
  ⟨0x20094, 4096, 4, 0, 1, 1, .RS, false, 0xFFFFFFFF, [⟨0, 32, .any⟩]⟩,
  ⟨0x200A0, 4096, 4, 0, 1, 1, .RI, false, 0xA0000, [⟨0, 4, .any⟩, ⟨4, 1, .any⟩, ⟨5, 1, .any⟩, ⟨8, 4, .any⟩, ⟨12, 1, .any⟩, ⟨13, 1, .any⟩, ⟨16, 8, .any⟩]⟩,
  ⟨0x200A4, 4096, 4, 0, 1, 1, .WC, false, 0x0, [⟨0, 1, .any⟩, ⟨1, 1, .any⟩]⟩,
  ⟨0x200C0, 4096, 4, 0, 1, 1, .RS, false, 0x3F000000, [⟨0, 32, .f 0x3C23D70A 0x41200000⟩]⟩,
  ⟨0x200C4, 4096, 4, 0, 1, 1, .RS, false, 0x3D4CCCCD, [⟨0, 32, .f 0x3C23D70A 0x3F800000⟩]⟩,
  ⟨0x200C8, 4096, 4, 0, 1, 1, .RS, false, 0x3DCCCCCD, [⟨0, 32, .f 0x3C23D70A 0x41200000⟩]⟩,
  ⟨0x20200, 4096, 4, 0, 1, 1, .RW, true, 0x0, [⟨0, 3, .any⟩]⟩,
  ⟨0x20208, 4096, 4, 0, 1, 1, .RW, true, 0x0, [⟨0, 32, .fAny⟩]⟩,
  ⟨0x20210, 4096, 4, 0, 1, 1, .RW, true, 0x0, [⟨0, 32, .any⟩]⟩,
  ⟨0x20220, 4096, 4, 0, 1, 1, .RO, false, 0x0, []⟩,
  ⟨0x20224, 4096, 4, 0, 1, 1, .RO, false, 0x0, []⟩,
  ⟨0x20228, 4096, 4, 0, 1, 1, .RO, false, 0x0, []⟩,
  ⟨0x2022C, 4096, 4, 0, 1, 1, .RO, false, 0x0, []⟩,
  ⟨0x20230, 4096, 4, 0, 1, 1, .RO, false, 0x0, []⟩,
  ⟨0x20234, 4096, 4, 0, 1, 1, .RO, false, 0x0, []⟩]
def regRows_aux : List RegRow := regRows_aux1 ++ regRows_aux2
/-- Rows of the TB block, part 1. -/
def regRows_tb1 : List RegRow := [
  ⟨0x8000, 0, 1, 0, 1, 1, .RO, false, 0x0, []⟩,
  ⟨0x8004, 0, 1, 0, 1, 1, .RO, false, 0x0, []⟩,
  ⟨0x8008, 0, 1, 0, 1, 1, .RO, false, 0x0, []⟩,
  ⟨0x800C, 0, 1, 0, 1, 1, .RO, false, 0x0, []⟩,
  ⟨0x8010, 0, 1, 0, 1, 1, .RO, false, 0xF20, []⟩,
  ⟨0x8014, 0, 1, 0, 1, 1, .RO, false, 0x0, []⟩,
  ⟨0x8018, 0, 1, 0, 1, 1, .RO, false, 0x0, []⟩,
  ⟨0x8020, 4, 4, 0, 1, 1, .RI, false, 0x0, [⟨0, 7, .any⟩]⟩,
  ⟨0x8030, 0, 1, 0, 1, 1, .RO, false, 0x0, []⟩]
def regRows_tb : List RegRow := regRows_tb1
/-- Rows of the GD block, part 1. -/
def regRows_gd1 : List RegRow := [
  ⟨0x30000, 64, 6, 0, 1, 1, .RI, false, 0x0, [⟨0, 5, .le 23⟩, ⟨8, 5, .le 23⟩, ⟨16, 5, .le 23⟩, ⟨31, 1, .any⟩]⟩,
  ⟨0x30004, 64, 6, 0, 1, 1, .RI, true, 0x3FC00000, [⟨0, 32, .f 0x3E800000 0x40800000⟩]⟩,
  ⟨0x3000C, 64, 6, 0, 1, 1, .RI, false, 0x358637BD, [⟨0, 32, .f 0x33D6BF95 0x36A7C5AC⟩]⟩,
  ⟨0x30010, 64, 6, 0, 1, 1, .RI, true, 0x0, [⟨0, 32, .f 0x3F800000 0x469C4000⟩]⟩,
  ⟨0x30018, 64, 6, 0, 1, 1, .RS, false, 0x350637BD, [⟨0, 32, .f 0x32ABCC77 0x368637BD⟩]⟩,
  ⟨0x3001C, 64, 6, 0, 1, 1, .RS, false, 0x350637BD, [⟨0, 32, .f 0x32ABCC77 0x368637BD⟩]⟩,
  ⟨0x30020, 64, 6, 0, 1, 1, .RI, false, 0x140E, [⟨0, 1, .any⟩, ⟨1, 1, .any⟩, ⟨2, 2, .any⟩, ⟨8, 8, .btw 10 100⟩]⟩,
  ⟨0x30024, 64, 6, 0, 1, 1, .RO, false, 0x0, []⟩,
  ⟨0x30028, 64, 6, 0, 1, 1, .RO, false, 0x0, []⟩,
  ⟨0x30200, 32, 4, 0, 1, 1, .RI, false, 0x0, [⟨0, 5, .le 23⟩, ⟨8, 5, .le 23⟩, ⟨16, 5, .le 23⟩, ⟨24, 5, .le 23⟩, ⟨31, 1, .any⟩]⟩,
  ⟨0x30204, 32, 4, 0, 1, 1, .RI, true, 0x3FC00000, [⟨0, 32, .f 0x3E800000 0x40800000⟩]⟩,
  ⟨0x3020C, 32, 4, 0, 1, 1, .RI, false, 0x358637BD, [⟨0, 32, .f 0x33D6BF95 0x36A7C5AC⟩]⟩,
  ⟨0x30210, 32, 4, 0, 1, 1, .RS, false, 0x350637BD, [⟨0, 32, .f 0x32ABCC77 0x368637BD⟩]⟩,
  ⟨0x30214, 32, 4, 0, 1, 1, .RI, false, 0x140E, [⟨1, 1, .any⟩, ⟨2, 2, .any⟩, ⟨8, 8, .btw 10 100⟩]⟩,
  ⟨0x30218, 32, 4, 0, 1, 1, .RO, false, 0x0, []⟩,
  ⟨0x3021C, 32, 4, 0, 1, 1, .RO, false, 0x0, []⟩,
  ⟨0x30300, 16, 4, 0, 1, 1, .RI, false, 0x140000, [⟨0, 5, .le 23⟩, ⟨8, 5, .any⟩, ⟨16, 8, .btw 10 100⟩, ⟨31, 1, .any⟩]⟩,
  ⟨0x30304, 16, 4, 0, 1, 1, .RS, false, 0x0, [⟨0, 32, .f 0x41200000 0x44FA0000⟩]⟩,
  ⟨0x30308, 16, 4, 0, 1, 1, .RS, false, 0x0, [⟨0, 32, .f 0x41000000 0x44FA0000⟩]⟩,
  ⟨0x3030C, 16, 4, 0, 1, 1, .RO, false, 0x0, []⟩,
  ⟨0x30400, 0, 1, 0, 1, 1, .RI, false, 0x0, [⟨0, 1, .any⟩]⟩,
  ⟨0x30404, 0, 1, 0, 1, 1, .RI, false, 0x0, [⟨0, 24, .any⟩]⟩,
  ⟨0x30408, 0, 1, 0, 1, 1, .RO, false, 0x0, []⟩,
  ⟨0x3040C, 0, 1, 0, 1, 1, .RO, false, 0x0, []⟩,
  ⟨0x30410, 0, 1, 0, 1, 1, .RI, true, 0x3FC00000, [⟨0, 32, .f 0x3E800000 0x40800000⟩]⟩,
  ⟨0x30418, 0, 1, 0, 1, 1, .RI, false, 0x358637BD, [⟨0, 32, .f 0x33D6BF95 0x36A7C5AC⟩]⟩,
  ⟨0x3041C, 0, 1, 0, 1, 1, .WC, false, 0x0, [⟨0, 4, .any⟩]⟩,
  ⟨0x30420, 0, 1, 0, 1, 1, .WC, true, 0x0, [⟨0, 6, .any⟩, ⟨8, 4, .any⟩, ⟨16, 4, .any⟩]⟩,
  ⟨0x30428, 0, 1, 0, 1, 1, .RO, false, 0x0, []⟩,
  ⟨0x3042C, 0, 1, 0, 1, 1, .RO, false, 0x0, []⟩]
/-- Rows of the GD block, part 2. -/
def regRows_gd2 : List RegRow := [
  ⟨0x30430, 0, 1, 0, 1, 1, .RO, false, 0x0, []⟩,
  ⟨0x30434, 0, 1, 0, 1, 1, .RO, false, 0x0, []⟩]
def regRows_gd : List RegRow := regRows_gd1 ++ regRows_gd2
/-- Rows of the SNS block, part 1. -/
def regRows_sns1 : List RegRow := [
  ⟨0x40000, 32, 32, 0, 1, 1, .RI, false, 0x11000, [⟨0, 1, .any⟩, ⟨1, 1, .any⟩, ⟨2, 3, .le 5⟩, ⟨5, 2, .le 2⟩, ⟨7, 1, .any⟩, ⟨8, 6, .btw 8 32⟩, ⟨16, 2, .any⟩]⟩,
  ⟨0x40004, 32, 32, 0, 1, 1, .RS, false, 0x40, [⟨0, 9, .btw 16 256⟩]⟩,
  ⟨0x40008, 32, 32, 0, 1, 1, .RI, true, 0x0, [⟨0, 32, .fz 0x3F800000 0x47C35000⟩]⟩,
  ⟨0x40010, 32, 32, 0, 1, 1, .RI, true, 0x0, [⟨0, 32, .fAny⟩]⟩,
  ⟨0x40018, 32, 32, 0, 1, 1, .RO, false, 0x0, []⟩,
  ⟨0x4001C, 32, 32, 0, 1, 1, .RO, false, 0x0, []⟩,
  ⟨0x40400, 4, 32, 0, 1, 1, .RO, false, 0x0, []⟩,
  ⟨0x40800, 32, 6, 0, 1, 1, .RI, true, 0x0, [⟨0, 32, .fz 0x3F800000 0x469C4000⟩]⟩,
  ⟨0x40808, 32, 6, 0, 1, 1, .RI, false, 0x3FC00000, [⟨0, 32, .f 0x0 0x40400000⟩]⟩,
  ⟨0x4080C, 32, 6, 0, 1, 1, .RS, false, 0x3556BF95, [⟨0, 32, .f 0x34D6BF95 0x36A7C5AC⟩]⟩,
  ⟨0x40810, 32, 6, 0, 1, 1, .RO, false, 0x0, []⟩,
  ⟨0x40814, 32, 6, 0, 1, 1, .RO, false, 0x0, []⟩,
  ⟨0x40818, 32, 6, 0, 1, 1, .RO, false, 0x0, []⟩,
  ⟨0x40A00, 64, 6, 0, 1, 1, .RS, false, 0x358637BD, [⟨0, 32, .f 0x0 0x36A7C5AC⟩]⟩,
  ⟨0x40A04, 64, 6, 0, 1, 1, .RS, false, 0x8, [⟨0, 7, .btw 1 64⟩]⟩,
  ⟨0x40A08, 64, 6, 0, 1, 1, .RS, true, 0x0, [⟨0, 32, .fz 0x3DCCCCCD 0x469C4000⟩]⟩,
  ⟨0x40A10, 64, 6, 0, 1, 1, .RS, false, 0x3DCCCCCD, [⟨0, 32, .f 0x3C23D70A 0x3F000000⟩]⟩,
  ⟨0x40A14, 64, 6, 0, 1, 1, .RI, false, 0x4B04, [⟨0, 4, .btw 2 15⟩, ⟨8, 7, .btw 25 100⟩]⟩,
  ⟨0x40A18, 64, 6, 0, 1, 1, .RO, false, 0x0, []⟩,
  ⟨0x40A1C, 64, 6, 0, 1, 1, .RO, false, 0x0, []⟩,
  ⟨0x40A20, 64, 6, 0, 1, 1, .WC, false, 0x0, [⟨0, 1, .any⟩]⟩,
  ⟨0x40A24, 64, 6, 0, 1, 1, .RI, false, 0x0, [⟨0, 5, .any⟩, ⟨8, 5, .any⟩, ⟨16, 5, .any⟩, ⟨24, 5, .any⟩, ⟨31, 1, .any⟩]⟩,
  ⟨0x40A28, 64, 6, 0, 1, 1, .RI, false, 0x378637BD, [⟨0, 32, .f 0x368637BD 0x3A83126F⟩]⟩,
  ⟨0x40A2C, 64, 6, 0, 1, 1, .RI, false, 0x0, [⟨0, 3, .le 5⟩, ⟨7, 1, .any⟩]⟩,
  ⟨0x40C00, 64, 6, 0, 1, 1, .RI, false, 0x0, [⟨0, 2, .le 2⟩, ⟨2, 1, .any⟩, ⟨3, 1, .any⟩, ⟨4, 1, .any⟩, ⟨5, 1, .any⟩, ⟨8, 6, .zeroOr 8 32⟩, ⟨16, 6, .le 32⟩, ⟨24, 8, .le 100⟩]⟩,
  ⟨0x40C04, 64, 6, 0, 1, 1, .RI, false, 0x0, [⟨0, 23, .le 4194304⟩]⟩,
  ⟨0x40C08, 64, 6, 0, 1, 1, .RI, false, 0x49742400, [⟨0, 32, .f 0x47C35000 0x4A989680⟩]⟩,
  ⟨0x40C0C, 64, 6, 0, 1, 1, .RI, false, 0x37A7C5AC, [⟨0, 32, .f 0x358637BD 0x388637BD⟩]⟩,
  ⟨0x40C10, 64, 6, 0, 1, 1, .RI, false, 0x100004, [⟨0, 8, .any⟩, ⟨16, 8, .any⟩]⟩,
  ⟨0x40C14, 64, 6, 0, 1, 1, .RO, false, 0x0, []⟩]
/-- Rows of the SNS block, part 2. -/
def regRows_sns2 : List RegRow := [
  ⟨0x40C18, 64, 6, 0, 1, 1, .RO, false, 0x0, []⟩,
  ⟨0x40C1C, 64, 6, 0, 1, 1, .RO, false, 0x0, []⟩,
  ⟨0x40C20, 64, 6, 0, 1, 1, .RO, false, 0x0, []⟩,
  ⟨0x40C24, 64, 6, 0, 1, 1, .RO, false, 0x0, []⟩,
  ⟨0x41000, 32, 32, 0, 1, 1, .RI, false, 0x0, [⟨0, 3, .le 5⟩, ⟨4, 2, .le 2⟩, ⟨8, 3, .le 5⟩, ⟨12, 1, .any⟩]⟩,
  ⟨0x41004, 32, 32, 0, 1, 1, .RS, false, 0x3F800000, [⟨0, 32, .fAny⟩]⟩,
  ⟨0x41008, 32, 32, 0, 1, 1, .RS, false, 0x0, [⟨0, 32, .fAny⟩]⟩,
  ⟨0x4100C, 32, 32, 0, 1, 1, .RS, false, 0x0, [⟨0, 32, .fAny⟩]⟩,
  ⟨0x41010, 32, 32, 0, 1, 1, .RS, false, 0x0, [⟨0, 32, .fAny⟩]⟩,
  ⟨0x41014, 32, 32, 0, 1, 1, .RO, false, 0x0, []⟩,
  ⟨0x41018, 32, 32, 0, 1, 1, .RO, false, 0x0, []⟩,
  ⟨0x41400, 0, 1, 0, 1, 1, .RO, false, 0x0, []⟩,
  ⟨0x41404, 0, 1, 0, 1, 1, .RO, false, 0x0, []⟩]
def regRows_sns : List RegRow := regRows_sns1 ++ regRows_sns2
/-- Rows of the FAB block, part 1. -/
def regRows_fab1 : List RegRow := [
  ⟨0x61000, 256, 16, 0, 1, 1, .RI, false, 0x31010000, [⟨0, 2, .any⟩, ⟨8, 6, .any⟩, ⟨16, 5, .any⟩, ⟨24, 1, .any⟩, ⟨28, 4, .btw 2 15⟩]⟩,
  ⟨0x61004, 256, 16, 0, 1, 1, .RI, false, 0x3F000000, [⟨0, 32, .f 0x0 0x41200000⟩]⟩,
  ⟨0x61008, 256, 16, 0, 1, 1, .RI, false, 0x3F800000, [⟨0, 32, .f 0x3C23D70A 0x41200000⟩]⟩,
  ⟨0x61040, 256, 16, 4, 32, 1, .RI, false, 0x0, [⟨0, 6, .any⟩, ⟨8, 3, .le 5⟩, ⟨12, 4, .any⟩]⟩,
  ⟨0x610C0, 256, 16, 0, 1, 1, .RO, false, 0x0, []⟩,
  ⟨0x610C4, 256, 16, 0, 1, 1, .RO, false, 0x0, []⟩,
  ⟨0x610C8, 256, 16, 0, 1, 1, .RO, false, 0x0, []⟩,
  ⟨0x610CC, 256, 16, 0, 1, 1, .RO, false, 0x0, []⟩,
  ⟨0x610D0, 256, 16, 0, 1, 1, .RO, false, 0x0, []⟩,
  ⟨0x610D4, 256, 16, 0, 1, 1, .RO, false, 0x0, []⟩,
  ⟨0x610D8, 256, 16, 0, 1, 1, .RO, false, 0x0, []⟩,
  ⟨0x60000, 0, 1, 0, 1, 1, .RI, false, 0x0, [⟨0, 1, .any⟩, ⟨1, 1, .any⟩, ⟨8, 6, .any⟩]⟩,
  ⟨0x60004, 0, 1, 0, 1, 1, .RO, false, 0x7000000, []⟩,
  ⟨0x60008, 0, 1, 0, 1, 1, .RO, false, 0x0, []⟩,
  ⟨0x6000C, 0, 1, 0, 1, 1, .RO, false, 0x0, []⟩,
  ⟨0x60010, 0, 1, 0, 1, 1, .RO, false, 0x0, []⟩,
  ⟨0x60014, 0, 1, 0, 1, 1, .RI, false, 0x3A83126F, [⟨0, 32, .f 0x38D1B717 0x3F800000⟩]⟩,
  ⟨0x60018, 0, 1, 0, 1, 1, .RI, false, 0x0, [⟨0, 8, .any⟩]⟩,
  ⟨0x6001C, 0, 1, 0, 1, 1, .RO, false, 0x0, []⟩,
  ⟨0x60020, 0, 1, 0, 1, 1, .RO, false, 0x0, []⟩,
  ⟨0x60024, 0, 1, 0, 1, 1, .RO, false, 0x0, []⟩,
  ⟨0x60028, 0, 1, 0, 1, 1, .RO, false, 0x0, []⟩,
  ⟨0x60400, 4, 64, 0, 1, 1, .RO, false, 0x7, []⟩,
  ⟨0x60100, 64, 6, 0, 1, 1, .RO, false, 0x0, []⟩,
  ⟨0x60104, 64, 6, 0, 1, 1, .RO, false, 0x0, []⟩,
  ⟨0x60108, 64, 6, 0, 1, 1, .RO, false, 0x0, []⟩,
  ⟨0x6010C, 64, 6, 0, 1, 1, .RO, false, 0x0, []⟩,
  ⟨0x60110, 64, 6, 0, 1, 1, .RO, false, 0x0, []⟩,
  ⟨0x60114, 64, 6, 0, 1, 1, .RO, false, 0x0, []⟩,
  ⟨0x60118, 64, 6, 0, 1, 1, .RO, false, 0x0, []⟩]
/-- Rows of the FAB block, part 2. -/
def regRows_fab2 : List RegRow := [
  ⟨0x6011C, 64, 6, 0, 1, 1, .RO, false, 0x0, []⟩,
  ⟨0x60120, 64, 6, 0, 1, 1, .WC, false, 0x0, [⟨0, 1, .any⟩]⟩]
def regRows_fab : List RegRow := regRows_fab1 ++ regRows_fab2
/-- Rows of the SAF block, part 1. -/
def regRows_saf1 : List RegRow := [
  ⟨0x50000, 0, 1, 0, 1, 1, .RO, false, 0x6, []⟩,
  ⟨0x50004, 0, 1, 0, 1, 1, .RO, false, 0x0, []⟩,
  ⟨0x50008, 0, 1, 0, 1, 1, .RO, false, 0x0, []⟩,
  ⟨0x5000C, 0, 1, 0, 1, 1, .RO, false, 0x0, []⟩,
  ⟨0x50010, 0, 1, 0, 1, 1, .RO, false, 0x0, []⟩,
  ⟨0x50014, 0, 1, 0, 1, 1, .RO, false, 0x0, []⟩,
  ⟨0x50018, 0, 1, 0, 1, 1, .RO, false, 0x0, []⟩,
  ⟨0x5001C, 0, 1, 0, 1, 1, .RO, false, 0x0, []⟩,
  ⟨0x50020, 0, 1, 0, 1, 1, .RO, false, 0x0, []⟩,
  ⟨0x50024, 0, 1, 0, 1, 1, .RO, false, 0x0, []⟩,
  ⟨0x50100, 0, 1, 0, 1, 1, .RI, true, 0x2238, [⟨0, 14, .btw 1 8760⟩]⟩,
  ⟨0x50108, 0, 1, 0, 1, 1, .RI, true, 0x641432, [⟨0, 8, .btw 10 100⟩, ⟨8, 8, .le 50⟩, ⟨16, 16, .btw 10 1000⟩]⟩,
  ⟨0x50110, 0, 1, 0, 1, 1, .RI, true, 0x140500, [⟨0, 1, .any⟩, ⟨8, 8, .btw 2 50⟩, ⟨16, 16, .btw 5 2000⟩]⟩,
  ⟨0x50118, 0, 1, 0, 1, 1, .RI, true, 0xC8, [⟨0, 16, .le 5000⟩]⟩,
  ⟨0x50200, 8, 8, 0, 1, 1, .RI, true, 0x321400, [⟨0, 2, .le 2⟩, ⟨4, 1, .any⟩, ⟨8, 8, .btw 2 200⟩, ⟨16, 16, .btw 5 2000⟩]⟩,
  ⟨0x50300, 32, 8, 0, 1, 1, .RI, true, 0x0, [⟨0, 2, .any⟩, ⟨8, 8, .any⟩]⟩,
  ⟨0x50308, 32, 8, 0, 1, 1, .RI, true, 0x0, [⟨0, 16, .sel⟩, ⟨16, 16, .sel⟩]⟩,
  ⟨0x50310, 32, 8, 0, 1, 1, .RI, true, 0x0, [⟨0, 32, .fz 0x3C23D70A 0x44160000⟩]⟩,
  ⟨0x50318, 32, 8, 0, 1, 1, .RI, true, 0x0, [⟨0, 32, .f 0x0 0x40000000⟩]⟩,
  ⟨0x50400, 16, 4, 0, 1, 1, .RI, true, 0x0, [⟨0, 2, .any⟩, ⟨8, 6, .any⟩, ⟨16, 4, .any⟩, ⟨24, 1, .any⟩]⟩,
  ⟨0x50408, 16, 4, 0, 1, 1, .RI, true, 0x640A1E, [⟨0, 8, .btw 10 100⟩, ⟨8, 8, .btw 1 100⟩, ⟨16, 16, .btw 10 1000⟩]⟩,
  ⟨0x50600, 32, 6, 0, 1, 1, .RI, true, 0x0, [⟨0, 32, .fz 0x3DCCCCCD 0x42C80000⟩]⟩,
  ⟨0x50608, 32, 6, 0, 1, 1, .RI, true, 0x0, [⟨0, 32, .fz 0x3F800000 0x49742400⟩]⟩,
  ⟨0x50610, 32, 6, 0, 1, 1, .RI, true, 0x0, [⟨0, 32, .f 0x0 0x447A0000⟩]⟩,
  ⟨0x50800, 32, 16, 0, 1, 1, .RI, true, 0x0, [⟨0, 1, .any⟩, ⟨1, 1, .any⟩, ⟨2, 2, .any⟩, ⟨4, 1, .any⟩, ⟨5, 1, .any⟩]⟩,
  ⟨0x50808, 32, 16, 0, 1, 1, .RI, true, 0x0, [⟨0, 32, .any⟩]⟩,
  ⟨0x50810, 32, 16, 0, 1, 1, .RI, true, 0x1E0064, [⟨0, 16, .btw 10 10000⟩, ⟨16, 16, .btw 2 10000⟩]⟩,
  ⟨0x50818, 32, 16, 0, 1, 1, .RI, true, 0x0, [⟨0, 29, .any⟩]⟩,
  ⟨0x50A00, 8, 16, 0, 1, 1, .RO, false, 0x0, []⟩,
  ⟨0x50A04, 8, 16, 0, 1, 1, .RO, false, 0x0, []⟩]
def regRows_saf : List RegRow := regRows_saf1
/-- Rows of the CP block, part 1. -/
def regRows_cp1 : List RegRow := [
  ⟨0x70000, 0, 1, 0, 1, 1, .RI, false, 0x0, [⟨0, 2, .le 2⟩, ⟨2, 2, .le 2⟩, ⟨4, 1, .any⟩, ⟨5, 1, .any⟩, ⟨8, 4, .any⟩, ⟨12, 1, .any⟩]⟩,
  ⟨0x70004, 0, 1, 0, 1, 1, .RS, false, 0x3F000000, [⟨0, 32, .f 0x3C23D70A 0x42700000⟩]⟩,
  ⟨0x70008, 0, 1, 0, 1, 1, .RI, false, 0x38D1B717, [⟨0, 32, .f 0x37A7C5AC 0x3C23D70A⟩]⟩,
  ⟨0x7000C, 0, 1, 0, 1, 1, .RI, false, 0x47E10000, [⟨0, 32, .f 0x46160000 0x4A371B00⟩]⟩,
  ⟨0x70010, 0, 1, 0, 1, 1, .RI, false, 0x0, [⟨0, 3, .any⟩]⟩,
  ⟨0x70020, 0, 1, 0, 1, 1, .RO, false, 0x0, []⟩,
  ⟨0x70024, 0, 1, 0, 1, 1, .RO, false, 0x0, []⟩,
  ⟨0x70028, 0, 1, 0, 1, 1, .RO, false, 0x0, []⟩,
  ⟨0x70040, 32, 3, 0, 1, 1, .RO, false, 0x0, []⟩,
  ⟨0x70044, 32, 3, 0, 1, 1, .RO, false, 0x0, []⟩,
  ⟨0x70048, 32, 3, 0, 1, 1, .RO, false, 0x0, []⟩,
  ⟨0x7004C, 32, 3, 0, 1, 1, .WC, false, 0x0, [⟨0, 1, .any⟩]⟩,
  ⟨0x70100, 0, 1, 0, 1, 1, .RO, false, 0x0, []⟩,
  ⟨0x70104, 0, 1, 0, 1, 1, .RO, false, 0x0, []⟩]
def regRows_cp : List RegRow := regRows_cp1
/-- Rows of the CAN block, part 1. -/
def regRows_can1 : List RegRow := [
  ⟨0x80000, 32768, 2, 0, 1, 1, .RI, false, 0x100, [⟨0, 2, .any⟩, ⟨2, 1, .any⟩, ⟨3, 1, .any⟩, ⟨4, 1, .any⟩, ⟨5, 1, .any⟩, ⟨6, 1, .any⟩, ⟨7, 1, .any⟩, ⟨8, 3, .le 4⟩]⟩,
  ⟨0x80004, 32768, 2, 0, 1, 1, .RI, false, 0x0, [⟨0, 7, .any⟩]⟩,
  ⟨0x80008, 32768, 2, 0, 1, 1, .RI, false, 0x0, [⟨0, 32, .fz 0x3DCCCCCD 0x41A00000⟩]⟩,
  ⟨0x8000C, 32768, 2, 0, 1, 1, .RI, false, 0x0, [⟨0, 32, .fz 0x3DCCCCCD 0x42480000⟩]⟩,
  ⟨0x80010, 32768, 2, 0, 1, 1, .RI, false, 0x3F000000, [⟨0, 32, .f 0x3D4CCCCD 0x41200000⟩]⟩,
  ⟨0x80020, 32768, 2, 8, 4, 1, .RI, false, 0x0, [⟨0, 8, .any⟩, ⟨8, 8, .any⟩, ⟨16, 7, .any⟩, ⟨24, 7, .any⟩]⟩,
  ⟨0x80024, 32768, 2, 8, 4, 1, .RI, false, 0x0, [⟨0, 5, .any⟩, ⟨8, 5, .any⟩, ⟨16, 4, .any⟩, ⟨24, 4, .any⟩, ⟨28, 1, .any⟩]⟩,
  ⟨0x80040, 32768, 2, 0, 1, 1, .RO, false, 0x3, []⟩,
  ⟨0x80044, 32768, 2, 0, 1, 1, .RO, false, 0x0, []⟩,
  ⟨0x80048, 32768, 2, 0, 1, 1, .RO, false, 0x0, []⟩,
  ⟨0x8004C, 32768, 2, 0, 1, 1, .WC, false, 0x0, [⟨0, 1, .any⟩, ⟨1, 1, .any⟩]⟩,
  ⟨0x80100, 32768, 2, 16, 64, 1, .RI, false, 0x0, [⟨0, 29, .any⟩, ⟨29, 1, .any⟩]⟩,
  ⟨0x80104, 32768, 2, 16, 64, 1, .RI, false, 0x0, [⟨0, 29, .any⟩]⟩,
  ⟨0x80108, 32768, 2, 16, 64, 1, .RI, false, 0x0, [⟨0, 2, .le 2⟩, ⟨2, 1, .any⟩]⟩,
  ⟨0x80600, 32768, 2, 16, 8, 1, .RI, false, 0x0, [⟨0, 29, .any⟩, ⟨29, 1, .any⟩, ⟨30, 1, .any⟩]⟩,
  ⟨0x80604, 32768, 2, 16, 8, 1, .RI, false, 0x0, [⟨0, 3, .any⟩, ⟨3, 1, .any⟩]⟩,
  ⟨0x80608, 32768, 2, 16, 8, 1, .RS, false, 0x3DCCCCCD, [⟨0, 32, .f 0x3A83126F 0x41200000⟩]⟩,
  ⟨0x80800, 32768, 2, 128, 4, 1, .RW, false, 0x0, [⟨0, 29, .any⟩, ⟨29, 1, .any⟩]⟩,
  ⟨0x80804, 32768, 2, 128, 4, 1, .RW, false, 0x0, [⟨0, 7, .canLen⟩, ⟨8, 1, .any⟩, ⟨9, 1, .any⟩]⟩,
  ⟨0x80808, 32768, 2, 128, 4, 1, .WC, false, 0x0, [⟨0, 1, .any⟩, ⟨1, 1, .any⟩]⟩,
  ⟨0x8080C, 32768, 2, 128, 4, 1, .RO, false, 0x0, []⟩,
  ⟨0x80810, 32768, 2, 128, 4, 16, .RW, false, 0x0, [⟨0, 32, .any⟩]⟩,
  ⟨0x80850, 32768, 2, 128, 4, 1, .RO, false, 0x0, []⟩,
  ⟨0x80854, 32768, 2, 128, 4, 1, .RO, false, 0x0, []⟩]
def regRows_can : List RegRow := regRows_can1
/-- Rows of the SIP block, part 1. -/
def regRows_sip1 : List RegRow := [
  ⟨0x90000, 32, 32, 0, 1, 1, .RI, false, 0x0, [⟨0, 32, .any⟩]⟩,
  ⟨0x90004, 32, 32, 0, 1, 1, .RI, false, 0x8, [⟨0, 5, .btw 8 20⟩, ⟨8, 1, .any⟩, ⟨15, 1, .any⟩, ⟨16, 5, .any⟩]⟩,
  ⟨0x90008, 32, 32, 0, 1, 1, .RS, false, 0x0, [⟨0, 21, .any⟩]⟩,
  ⟨0x9000C, 32, 32, 0, 1, 1, .RS, false, 0x0, [⟨0, 21, .any⟩]⟩,
  ⟨0x90010, 32, 32, 0, 1, 1, .RO, false, 0x0, []⟩,
  ⟨0x90014, 32, 32, 0, 1, 1, .RO, false, 0x0, []⟩,
  ⟨0x90018, 32, 32, 0, 1, 1, .RO, false, 0x0, []⟩,
  ⟨0x9001C, 32, 32, 0, 1, 1, .RO, false, 0x0, []⟩,
  ⟨0x90800, 64, 32, 0, 1, 1, .RI, false, 0x4000, [⟨0, 2, .any⟩, ⟨8, 7, .any⟩, ⟨16, 1, .any⟩, ⟨24, 5, .any⟩]⟩,
  ⟨0x90804, 64, 32, 0, 1, 1, .RI, false, 0x400, [⟨0, 16, .btw 1 65535⟩]⟩,
  ⟨0x90808, 64, 32, 0, 1, 1, .RI, false, 0x0, [⟨0, 32, .any⟩]⟩,
  ⟨0x9080C, 64, 32, 0, 1, 1, .RI, false, 0x0, [⟨0, 8, .any⟩]⟩,
  ⟨0x90810, 64, 32, 0, 1, 1, .RI, false, 0x3DCCCCCD, [⟨0, 32, .f 0x3A83126F 0x41200000⟩]⟩,
  ⟨0x90814, 64, 32, 0, 1, 1, .RW, false, 0x0, [⟨0, 32, .any⟩]⟩,
  ⟨0x90818, 64, 32, 0, 1, 1, .WC, true, 0x0, [⟨0, 2, .btw 1 3⟩]⟩,
  ⟨0x90820, 64, 32, 0, 1, 1, .RO, false, 0x0, []⟩,
  ⟨0x90824, 64, 32, 0, 1, 1, .RO, false, 0x0, []⟩,
  ⟨0x90828, 64, 32, 0, 1, 1, .RO, false, 0x0, []⟩,
  ⟨0x9082C, 64, 32, 0, 1, 1, .RO, false, 0x0, []⟩,
  ⟨0x90830, 64, 32, 0, 1, 1, .RO, false, 0x0, []⟩,
  ⟨0x90834, 64, 32, 0, 1, 1, .RO, false, 0x0, []⟩,
  ⟨0x91000, 0, 1, 0, 1, 1, .RO, false, 0x0, []⟩,
  ⟨0x91004, 0, 1, 0, 1, 1, .RO, false, 0x0, []⟩,
  ⟨0x91008, 0, 1, 0, 1, 1, .RO, false, 0x0, []⟩,
  ⟨0x9100C, 0, 1, 0, 1, 1, .WC, true, 0x0, [⟨0, 1, .btw 1 1⟩]⟩,
  ⟨0x91014, 0, 1, 0, 1, 1, .RO, false, 0x0, []⟩]
def regRows_sip : List RegRow := regRows_sip1
/-- Rows of the CAR block, part 1. -/
def regRows_car1 : List RegRow := [
  ⟨0xA0000, 0, 1, 0, 1, 1, .RI, false, 0x50, [⟨0, 1, .any⟩, ⟨1, 2, .any⟩, ⟨4, 3, .le 5⟩, ⟨8, 1, .any⟩]⟩,
  ⟨0xA0004, 0, 1, 0, 1, 1, .RI, false, 0x0, [⟨0, 4, .any⟩, ⟨8, 4, .any⟩, ⟨16, 14, .btw 1 16320⟩]⟩,
  ⟨0xA0008, 0, 1, 0, 1, 1, .RI, false, 0x0, [⟨0, 16, .any⟩]⟩,
  ⟨0xA000C, 0, 1, 0, 1, 1, .RI, false, 0x100804, [⟨0, 4, .btw 2 8⟩, ⟨8, 7, .btw 1 64⟩, ⟨16, 7, .btw 1 64⟩]⟩,
  ⟨0xA0010, 0, 1, 0, 1, 1, .RI, false, 0x200, [⟨0, 16, .btw 16 16000⟩]⟩,
  ⟨0xA0014, 0, 1, 0, 1, 1, .RI, false, 0xA1E02, [⟨0, 5, .le 20⟩, ⟨8, 6, .btw 1 40⟩, ⟨16, 7, .btw 5 30⟩]⟩,
  ⟨0xA0018, 0, 1, 0, 1, 1, .RI, false, 0x1F40BB8, [⟨0, 16, .btw 100 60000⟩, ⟨16, 16, .btw 50 10000⟩]⟩,
  ⟨0xA001C, 0, 1, 0, 1, 1, .RI, false, 0xC350, [⟨0, 32, .btw 1000 10000000⟩]⟩,
  ⟨0xA0020, 0, 1, 0, 1, 1, .RI, false, 0x4A1E3400, [⟨0, 32, .f 0x47A8C000 0x4BF099C0⟩]⟩,
  ⟨0xA0040, 4, 4, 0, 1, 1, .RI, false, 0x0, [⟨0, 1, .any⟩]⟩,
  ⟨0xA0050, 4, 4, 0, 1, 1, .RI, false, 0x3F800000, [⟨0, 32, .f 0x3C23D70A 0x42700000⟩]⟩,
  ⟨0xA0060, 4, 8, 0, 1, 1, .RI, false, 0x0, [⟨0, 8, .any⟩, ⟨15, 1, .any⟩, ⟨16, 16, .any⟩]⟩,
  ⟨0xA0080, 0, 1, 0, 1, 1, .RI, false, 0x41200000, [⟨0, 32, .f 0x0 0x44160000⟩]⟩,
  ⟨0xA0084, 0, 1, 0, 1, 1, .RI, false, 0x41200000, [⟨0, 32, .f 0x0 0x44160000⟩]⟩,
  ⟨0xA0100, 0, 1, 0, 1, 1, .WC, true, 0x0, [⟨0, 4, .btw 1 6⟩, ⟨8, 4, .any⟩]⟩,
  ⟨0xA0110, 0, 1, 0, 1, 1, .RW, false, 0x0, [⟨0, 2, .le 2⟩, ⟨4, 4, .any⟩, ⟨8, 5, .btw 16 31⟩]⟩,
  ⟨0xA0114, 0, 1, 0, 1, 1, .RW, false, 0x0, [⟨0, 32, .any⟩]⟩,
  ⟨0xA0118, 0, 1, 0, 1, 1, .RW, false, 0x0, [⟨0, 32, .any⟩]⟩,
  ⟨0xA011C, 0, 1, 0, 1, 1, .RW, false, 0x0, [⟨3, 12, .any⟩]⟩,
  ⟨0xA0120, 0, 1, 0, 1, 1, .RW, false, 0x1000, [⟨0, 16, .mult8 4096 32768⟩]⟩,
  ⟨0xA0124, 0, 1, 0, 1, 1, .RO, false, 0x0, []⟩,
  ⟨0xA0128, 0, 1, 0, 1, 1, .RW, false, 0x0, [⟨0, 32, .any⟩]⟩,
  ⟨0xA012C, 0, 1, 0, 1, 1, .RO, false, 0x0, []⟩,
  ⟨0xA0200, 0, 1, 0, 1, 1, .RO, false, 0x0, []⟩,
  ⟨0xA0204, 0, 1, 0, 1, 1, .RO, false, 0x0, []⟩,
  ⟨0xA0208, 0, 1, 0, 1, 1, .RO, false, 0x0, []⟩,
  ⟨0xA020C, 0, 1, 0, 1, 1, .RO, false, 0x0, []⟩,
  ⟨0xA0210, 0, 1, 0, 1, 1, .RO, false, 0x0, []⟩,
  ⟨0xA0214, 0, 1, 0, 1, 1, .RO, false, 0x0, []⟩,
  ⟨0xA0218, 0, 1, 0, 1, 1, .RO, false, 0x0, []⟩]
/-- Rows of the CAR block, part 2. -/
def regRows_car2 : List RegRow := [
  ⟨0xA021C, 0, 1, 0, 1, 1, .RO, false, 0x0, []⟩,
  ⟨0xA0220, 0, 1, 0, 1, 1, .RO, false, 0x0, []⟩,
  ⟨0xA0300, 8, 16, 0, 1, 1, .RO, false, 0x0, []⟩,
  ⟨0xA0304, 8, 16, 0, 1, 1, .RO, false, 0x0, []⟩]
def regRows_car : List RegRow := regRows_car1 ++ regRows_car2
/-- Rows of the FRZ block, part 1. -/
def regRows_frz1 : List RegRow := [
  ⟨0xC0000, 0, 1, 0, 1, 1, .RI, true, 0x1F00, [⟨0, 1, .any⟩, ⟨1, 1, .any⟩, ⟨2, 1, .any⟩, ⟨3, 1, .any⟩, ⟨4, 1, .any⟩, ⟨5, 1, .any⟩, ⟨6, 1, .any⟩, ⟨8, 5, .any⟩, ⟨16, 2, .any⟩, ⟨18, 1, .any⟩]⟩,
  ⟨0xC0008, 0, 1, 0, 1, 1, .RI, false, 0x0, [⟨0, 6, .any⟩]⟩,
  ⟨0xC000C, 0, 1, 0, 1, 1, .RI, false, 0x358637BD, [⟨0, 32, .f 0x358637BD 0x3A83126F⟩]⟩,
  ⟨0xC0010, 0, 1, 0, 1, 1, .RI, false, 0x42700000, [⟨0, 32, .f 0x3F800000 0x45610000⟩]⟩,
  ⟨0xC0020, 0, 1, 0, 1, 1, .RO, false, 0x0, []⟩,
  ⟨0xC0024, 0, 1, 0, 1, 1, .RO, false, 0x0, []⟩]
def regRows_frz : List RegRow := regRows_frz1

/-- The rows of the block in which an address lies (R513, Table 1 of the address map). -/
def regRowsAt (a : Nat) : List RegRow :=
  if a < 0x8000 then regRows_dev
  else if a < 0x10000 then regRows_tb
  else if a < 0x1C000 then regRows_ax
  else if a < 0x20000 then []
  else if a < 0x24000 then regRows_aux
  else if a < 0x30000 then []
  else if a < 0x40000 then regRows_gd
  else if a < 0x50000 then regRows_sns
  else if a < 0x60000 then regRows_saf
  else if a < 0x70000 then regRows_fab
  else if a < 0x80000 then regRows_cp
  else if a < 0x90000 then regRows_can
  else if a < 0xA0000 then regRows_sip
  else if a < 0xB0000 then regRows_car
  else if a < 0xC0000 then []
  else if a < 0xD0000 then regRows_frz
  else []

/-- Does one of `n` words, `s` bytes apart from offset 0, stand at offset `d`? The offset inside that
element is answered. -/
def RegRow.split (s n d : Nat) : Option Nat :=
  if n = 1 then some d else if d / s < n then some (d % s) else none

/-- Does the row hold a value word at `a`? -/
def RegRow.has (r : RegRow) (a : Nat) : Bool :=
  if a < r.base then false
  else
    match RegRow.split r.s1 r.n1 (a - r.base) with
    | none => false
    | some d1 =>
      match RegRow.split r.s2 r.n2 d1 with
      | none => false
      | some d2 =>
        match RegRow.split 4 r.n3 d2 with
        | none => false
        | some d3 => d3 == 0

/-- What stands at a word address of a register block. -/
inductive RegCls where
  /-- the value word of a row -/
  | value (r : RegRow)
  /-- the complement word of a paired row, whose value word is the word before -/
  | compl (r : RegRow)
  /-- inside a block, but in no field map (R515) -/
  | reserved
  deriving DecidableEq, Repr

/-- The row whose value word stands at `a`. -/
def regRow? (a : Nat) : Option RegRow := (regRowsAt a).find? (fun r => r.has a)

/-- Classify a word address of a register block (R515, R20). -/
def regClass (a : Nat) : RegCls :=
  match regRow? a with
  | some r => .value r
  | none =>
    if a < 4 then .reserved
    else match regRow? (a - 4) with
      | some r => if r.pair then .compl r else .reserved
      | none => .reserved

/-- The reset content of the register word at `a` (R24); a word that no field map defines reads zero. -/
def regReset (a : Nat) : Word :=
  match regRow? a with
  | some r => BitVec.ofNat 32 r.reset
  | none => 0

end Sys2Proof
end

