-- ==== Sys2Proof/Machine/Regs.lean ====
section
/-! DEFINITION. Sparse stores in one canonical form, the register words of access RI, RS and RW as such a
store (R16, R24), and each field of them by its name in the field maps: a bit is a Bool, a binary32
word the real number it stands for, every other field a number. -/
namespace Sys2Proof.Machine

/-! ## Sparse stores -/

/-- What the store holds at `a`: the listed value, else the default. -/
def cellGet {α : Type} (dflt : Nat → α) : List (Nat × α) → Nat → α
  | [], a => dflt a
  | (b, v) :: t, a => if b = a then v else cellGet dflt t a

/-- Put an entry into a list sorted by key, in place of an entry of the same key; `none` removes it. -/
def cellPut {α : Type} (a : Nat) (v : Option α) : List (Nat × α) → List (Nat × α)
  | [] => (v.map (fun x => (a, x))).toList
  | (b, w) :: t =>
    if a < b then (v.map (fun x => (a, x))).toList ++ (b, w) :: t
    else if a = b then (v.map (fun x => (a, x))).toList ++ t
    else (b, w) :: cellPut a v t

/-- Write a value: an entry equal to the default is not listed. -/
def cellSet {α : Type} [DecidableEq α] (dflt : Nat → α) (a : Nat) (v : α) (l : List (Nat × α)) : List (Nat × α) :=
  cellPut a (if v = dflt a then none else some v) l

/-- The canonical form: keys strictly rising, no entry equal to the default. -/
def cellWf {α : Type} [DecidableEq α] (dflt : Nat → α) : List (Nat × α) → Bool
  | [] => true
  | [(a, v)] => decide (v ≠ dflt a)
  | (a, v) :: (b, w) :: t => decide (v ≠ dflt a) && decide (a < b) && cellWf dflt ((b, w) :: t)

/-! ## The register words -/

/-- The register words of access RI, RS and RW: those that differ from their reset content, and beside them the stored complement words, by
the address of the value word (R20, R23); only those of paired registers can be read. -/
structure Regs where
  cells : List (Nat × Word) := []
  compl : List (Nat × Word) := []
  deriving DecidableEq, Repr

/-- The content of a register word. -/
def Regs.get (r : Regs) (a : Nat) : Word := cellGet regReset r.cells a

/-- The reset content of a complement word. -/
def regResetCompl (a : Nat) : Word := ~~~ regReset a

/-- The stored complement of a register word. -/
def Regs.getCompl (r : Regs) (a : Nat) : Word := cellGet regResetCompl r.compl a

/-- Write a register word, and its complement. -/
def Regs.set (r : Regs) (a : Nat) (v : Word) : Regs :=
  { cells := cellSet regReset a v r.cells, compl := cellSet regResetCompl a (~~~ v) r.compl }

/-- The canonical form of the register words. -/
def Regs.wf (r : Regs) : Bool := cellWf regReset r.cells && cellWf regResetCompl r.compl

/-! ## The fields by name -/

def Regs.AXn_SNT_CFG (r : Regs) (n : Nat) : Bool := bit (r.get (Reg.AXn_SNT_CFG n)) 0
def Regs.AUXn_SNT_CFG (r : Regs) (n : Nat) : Bool := bit (r.get (Reg.AUXn_SNT_CFG n)) 0
def Regs.TB_MCLK_m (r : Regs) (n : Nat) : Nat := fld (r.get (Reg.TB_MCLK_m n)) 0 7
def Regs.DEV_STG_IDX (r : Regs) : Nat := fld (r.get (Reg.DEV_STG_IDX)) 0 10
def Regs.DEV_MODE_CFG_BRAKE_TMO (r : Regs) : Nat := fld (r.get (Reg.DEV_MODE_CFG)) 0 10
def Regs.DEV_MODE_CFG_FAB_LOSS (r : Regs) : Bool := bit (r.get (Reg.DEV_MODE_CFG)) 16
def Regs.DEV_MODE_CFG_FAB_LOSS_T (r : Regs) : Nat := fld (r.get (Reg.DEV_MODE_CFG)) 20 7
def Regs.GD_AXn_MAP_HB_U (r : Regs) (n : Nat) : Nat := fld (r.get (Reg.GD_AXn_MAP n)) 0 5
def Regs.GD_AXn_MAP_HB_V (r : Regs) (n : Nat) : Nat := fld (r.get (Reg.GD_AXn_MAP n)) 8 5
def Regs.GD_AXn_MAP_HB_W (r : Regs) (n : Nat) : Nat := fld (r.get (Reg.GD_AXn_MAP n)) 16 5
def Regs.GD_AXn_MAP_EN (r : Regs) (n : Nat) : Bool := bit (r.get (Reg.GD_AXn_MAP n)) 31
def Regs.GD_AXn_DESAT_V (r : Regs) (n : Nat) : Rat := f32ToRat (r.get (Reg.GD_AXn_DESAT_V n))
def Regs.GD_AXn_BLANK (r : Regs) (n : Nat) : Rat := f32ToRat (r.get (Reg.GD_AXn_BLANK n))
def Regs.GD_AXn_FAST_I (r : Regs) (n : Nat) : Rat := f32ToRat (r.get (Reg.GD_AXn_FAST_I n))
def Regs.GD_AXn_DT_RISE (r : Regs) (n : Nat) : Rat := f32ToRat (r.get (Reg.GD_AXn_DT_RISE n))
def Regs.GD_AXn_DT_FALL (r : Regs) (n : Nat) : Rat := f32ToRat (r.get (Reg.GD_AXn_DT_FALL n))
def Regs.GD_AXn_CFG_ASC_SIDE (r : Regs) (n : Nat) : Bool := bit (r.get (Reg.GD_AXn_CFG n)) 0
def Regs.GD_AXn_CFG_CLAMP_EN (r : Regs) (n : Nat) : Bool := bit (r.get (Reg.GD_AXn_CFG n)) 1
def Regs.GD_AXn_CFG_STRENGTH (r : Regs) (n : Nat) : Nat := fld (r.get (Reg.GD_AXn_CFG n)) 2 2
def Regs.GD_AXn_CFG_LFR_FILT (r : Regs) (n : Nat) : Nat := fld (r.get (Reg.GD_AXn_CFG n)) 8 8
def Regs.GD_AUXn_MAP_HB_A1 (r : Regs) (n : Nat) : Nat := fld (r.get (Reg.GD_AUXn_MAP n)) 0 5
def Regs.GD_AUXn_MAP_HB_A2 (r : Regs) (n : Nat) : Nat := fld (r.get (Reg.GD_AUXn_MAP n)) 8 5
def Regs.GD_AUXn_MAP_HB_B1 (r : Regs) (n : Nat) : Nat := fld (r.get (Reg.GD_AUXn_MAP n)) 16 5
def Regs.GD_AUXn_MAP_HB_B2 (r : Regs) (n : Nat) : Nat := fld (r.get (Reg.GD_AUXn_MAP n)) 24 5
def Regs.GD_AUXn_MAP_EN (r : Regs) (n : Nat) : Bool := bit (r.get (Reg.GD_AUXn_MAP n)) 31
def Regs.GD_AUXn_DESAT_V (r : Regs) (n : Nat) : Rat := f32ToRat (r.get (Reg.GD_AUXn_DESAT_V n))
def Regs.GD_AUXn_BLANK (r : Regs) (n : Nat) : Rat := f32ToRat (r.get (Reg.GD_AUXn_BLANK n))
def Regs.GD_AUXn_DT (r : Regs) (n : Nat) : Rat := f32ToRat (r.get (Reg.GD_AUXn_DT n))
def Regs.GD_AUXn_CFG_CLAMP_EN (r : Regs) (n : Nat) : Bool := bit (r.get (Reg.GD_AUXn_CFG n)) 1
def Regs.GD_AUXn_CFG_STRENGTH (r : Regs) (n : Nat) : Nat := fld (r.get (Reg.GD_AUXn_CFG n)) 2 2
def Regs.GD_AUXn_CFG_LFR_FILT (r : Regs) (n : Nat) : Nat := fld (r.get (Reg.GD_AUXn_CFG n)) 8 8
def Regs.GD_CHPn_MAP_HB (r : Regs) (n : Nat) : Nat := fld (r.get (Reg.GD_CHPn_MAP n)) 0 5
def Regs.GD_CHPn_MAP_AIN (r : Regs) (n : Nat) : Nat := fld (r.get (Reg.GD_CHPn_MAP n)) 8 5
def Regs.GD_CHPn_MAP_LFR_FILT (r : Regs) (n : Nat) : Nat := fld (r.get (Reg.GD_CHPn_MAP n)) 16 8
def Regs.GD_CHPn_MAP_EN (r : Regs) (n : Nat) : Bool := bit (r.get (Reg.GD_CHPn_MAP n)) 31
def Regs.GD_CHPn_ON (r : Regs) (n : Nat) : Rat := f32ToRat (r.get (Reg.GD_CHPn_ON n))
def Regs.GD_CHPn_OFF (r : Regs) (n : Nat) : Rat := f32ToRat (r.get (Reg.GD_CHPn_OFF n))
def Regs.GD_CFG (r : Regs) : Bool := bit (r.get (Reg.GD_CFG)) 0
def Regs.GD_HB_MODE (r : Regs) : Nat := fld (r.get (Reg.GD_HB_MODE)) 0 24
def Regs.GD_CHP_DESAT_V (r : Regs) : Rat := f32ToRat (r.get (Reg.GD_CHP_DESAT_V))
def Regs.GD_CHP_BLANK (r : Regs) : Rat := f32ToRat (r.get (Reg.GD_CHP_BLANK))
def Regs.SNS_SDIc_CFG_EN (r : Regs) (n : Nat) : Bool := bit (r.get (Reg.SNS_SDIc_CFG n)) 0
def Regs.SNS_SDIc_CFG_ROLE (r : Regs) (n : Nat) : Bool := bit (r.get (Reg.SNS_SDIc_CFG n)) 1
def Regs.SNS_SDIc_CFG_AXIS (r : Regs) (n : Nat) : Nat := fld (r.get (Reg.SNS_SDIc_CFG n)) 2 3
def Regs.SNS_SDIc_CFG_PHASE (r : Regs) (n : Nat) : Nat := fld (r.get (Reg.SNS_SDIc_CFG n)) 5 2
def Regs.SNS_SDIc_CFG_EDGE (r : Regs) (n : Nat) : Bool := bit (r.get (Reg.SNS_SDIc_CFG n)) 7
def Regs.SNS_SDIc_CFG_FAST_OSR (r : Regs) (n : Nat) : Nat := fld (r.get (Reg.SNS_SDIc_CFG n)) 8 6
def Regs.SNS_SDIc_CFG_FAST_N (r : Regs) (n : Nat) : Nat := fld (r.get (Reg.SNS_SDIc_CFG n)) 16 2
def Regs.SNS_SDIc_OSR (r : Regs) (n : Nat) : Nat := fld (r.get (Reg.SNS_SDIc_OSR n)) 0 9
def Regs.SNS_SDIc_SCALE (r : Regs) (n : Nat) : Rat := f32ToRat (r.get (Reg.SNS_SDIc_SCALE n))
def Regs.SNS_SDIc_FAST_LIM (r : Regs) (n : Nat) : Rat := f32ToRat (r.get (Reg.SNS_SDIc_FAST_LIM n))
def Regs.SNS_DCSn_SCALE (r : Regs) (n : Nat) : Rat := f32ToRat (r.get (Reg.SNS_DCSn_SCALE n))
def Regs.SNS_DCSn_OFFS (r : Regs) (n : Nat) : Rat := f32ToRat (r.get (Reg.SNS_DCSn_OFFS n))
def Regs.SNS_DCSn_TSET (r : Regs) (n : Nat) : Rat := f32ToRat (r.get (Reg.SNS_DCSn_TSET n))
def Regs.SNS_AXn_SHIFT_MAX (r : Regs) (n : Nat) : Rat := f32ToRat (r.get (Reg.SNS_AXn_SHIFT_MAX n))
def Regs.SNS_AXn_PRED_MAX (r : Regs) (n : Nat) : Nat := fld (r.get (Reg.SNS_AXn_PRED_MAX n)) 0 7
def Regs.SNS_AXn_XCHK_I (r : Regs) (n : Nat) : Rat := f32ToRat (r.get (Reg.SNS_AXn_XCHK_I n))
def Regs.SNS_AXn_XCHK_REL (r : Regs) (n : Nat) : Rat := f32ToRat (r.get (Reg.SNS_AXn_XCHK_REL n))
def Regs.SNS_AXn_XCHK_CFG_N (r : Regs) (n : Nat) : Nat := fld (r.get (Reg.SNS_AXn_XCHK_CFG n)) 0 4
def Regs.SNS_AXn_XCHK_CFG_LIMP_PCT (r : Regs) (n : Nat) : Nat := fld (r.get (Reg.SNS_AXn_XCHK_CFG n)) 8 7
def Regs.SNS_AXn_VIN_VDC (r : Regs) (n : Nat) : Nat := fld (r.get (Reg.SNS_AXn_VIN n)) 0 5
def Regs.SNS_AXn_VIN_VT_U (r : Regs) (n : Nat) : Nat := fld (r.get (Reg.SNS_AXn_VIN n)) 8 5
def Regs.SNS_AXn_VIN_VT_V (r : Regs) (n : Nat) : Nat := fld (r.get (Reg.SNS_AXn_VIN n)) 16 5
def Regs.SNS_AXn_VIN_VT_W (r : Regs) (n : Nat) : Nat := fld (r.get (Reg.SNS_AXn_VIN n)) 24 5
def Regs.SNS_AXn_VIN_VT_EN (r : Regs) (n : Nat) : Bool := bit (r.get (Reg.SNS_AXn_VIN n)) 31
def Regs.SNS_AXn_VT_PER (r : Regs) (n : Nat) : Rat := f32ToRat (r.get (Reg.SNS_AXn_VT_PER n))
def Regs.SNS_AXn_ENC_IDX (r : Regs) (n : Nat) : Nat := fld (r.get (Reg.SNS_AXn_ENC n)) 0 3
def Regs.SNS_AXn_ENC_EN (r : Regs) (n : Nat) : Bool := bit (r.get (Reg.SNS_AXn_ENC n)) 7
def Regs.SNS_ENCe_CFG_TYPE (r : Regs) (n : Nat) : Nat := fld (r.get (Reg.SNS_ENCe_CFG n)) 0 2
def Regs.SNS_ENCe_CFG_CODE (r : Regs) (n : Nat) : Bool := bit (r.get (Reg.SNS_ENCe_CFG n)) 2
def Regs.SNS_ENCe_CFG_PARITY (r : Regs) (n : Nat) : Bool := bit (r.get (Reg.SNS_ENCe_CFG n)) 3
def Regs.SNS_ENCe_CFG_Z_EN (r : Regs) (n : Nat) : Bool := bit (r.get (Reg.SNS_ENCe_CFG n)) 4
def Regs.SNS_ENCe_CFG_DIR (r : Regs) (n : Nat) : Bool := bit (r.get (Reg.SNS_ENCe_CFG n)) 5
def Regs.SNS_ENCe_CFG_BITS (r : Regs) (n : Nat) : Nat := fld (r.get (Reg.SNS_ENCe_CFG n)) 8 6
def Regs.SNS_ENCe_CFG_ST_BITS (r : Regs) (n : Nat) : Nat := fld (r.get (Reg.SNS_ENCe_CFG n)) 16 6
def Regs.SNS_ENCe_CFG_FILT (r : Regs) (n : Nat) : Nat := fld (r.get (Reg.SNS_ENCe_CFG n)) 24 8
def Regs.SNS_ENCe_LINES (r : Regs) (n : Nat) : Nat := fld (r.get (Reg.SNS_ENCe_LINES n)) 0 23
def Regs.SNS_ENCe_CLK (r : Regs) (n : Nat) : Rat := f32ToRat (r.get (Reg.SNS_ENCe_CLK n))
def Regs.SNS_ENCe_TREC (r : Regs) (n : Nat) : Rat := f32ToRat (r.get (Reg.SNS_ENCe_TREC n))
def Regs.SNS_ENCe_TOL_ZTOL (r : Regs) (n : Nat) : Nat := fld (r.get (Reg.SNS_ENCe_TOL n)) 0 8
def Regs.SNS_ENCe_TOL_ILL_MAX (r : Regs) (n : Nat) : Nat := fld (r.get (Reg.SNS_ENCe_TOL n)) 16 8
def Regs.SNS_AINc_CFG_KIND (r : Regs) (n : Nat) : Nat := fld (r.get (Reg.SNS_AINc_CFG n)) 0 3
def Regs.SNS_AINc_CFG_CLASS (r : Regs) (n : Nat) : Nat := fld (r.get (Reg.SNS_AINc_CFG n)) 4 2
def Regs.SNS_AINc_CFG_AXIS (r : Regs) (n : Nat) : Nat := fld (r.get (Reg.SNS_AINc_CFG n)) 8 3
def Regs.SNS_AINc_CFG_RCHK (r : Regs) (n : Nat) : Bool := bit (r.get (Reg.SNS_AINc_CFG n)) 12
def Regs.SNS_AINc_SCALE (r : Regs) (n : Nat) : Rat := f32ToRat (r.get (Reg.SNS_AINc_SCALE n))
def Regs.SNS_AINc_OFFS (r : Regs) (n : Nat) : Rat := f32ToRat (r.get (Reg.SNS_AINc_OFFS n))
def Regs.SNS_AINc_MIN (r : Regs) (n : Nat) : Rat := f32ToRat (r.get (Reg.SNS_AINc_MIN n))
def Regs.SNS_AINc_MAX (r : Regs) (n : Nat) : Rat := f32ToRat (r.get (Reg.SNS_AINc_MAX n))
def Regs.AXn_FOC_CFG_UPD (r : Regs) (n : Nat) : Bool := bit (r.get (Reg.AXn_FOC_CFG n)) 0
def Regs.AXn_FOC_CFG_SENSE (r : Regs) (n : Nat) : Bool := bit (r.get (Reg.AXn_FOC_CFG n)) 2
def Regs.AXn_FOC_CFG_POLES (r : Regs) (n : Nat) : Nat := fld (r.get (Reg.AXn_FOC_CFG n)) 8 6
def Regs.AXn_PWM_F (r : Regs) (n : Nat) : Rat := f32ToRat (r.get (Reg.AXn_PWM_F n))
def Regs.AXn_I_MAX (r : Regs) (n : Nat) : Rat := f32ToRat (r.get (Reg.AXn_I_MAX n))
def Regs.AXn_MOT_RS (r : Regs) (n : Nat) : Rat := f32ToRat (r.get (Reg.AXn_MOT_RS n))
def Regs.AXn_MOT_LD (r : Regs) (n : Nat) : Rat := f32ToRat (r.get (Reg.AXn_MOT_LD n))
def Regs.AXn_MOT_LQ (r : Regs) (n : Nat) : Rat := f32ToRat (r.get (Reg.AXn_MOT_LQ n))
def Regs.AXn_MOT_PSI (r : Regs) (n : Nat) : Rat := f32ToRat (r.get (Reg.AXn_MOT_PSI n))
def Regs.AXn_CL_KP_D (r : Regs) (n : Nat) : Rat := f32ToRat (r.get (Reg.AXn_CL_KP_D n))
def Regs.AXn_CL_KI_D (r : Regs) (n : Nat) : Rat := f32ToRat (r.get (Reg.AXn_CL_KI_D n))
def Regs.AXn_CL_KP_Q (r : Regs) (n : Nat) : Rat := f32ToRat (r.get (Reg.AXn_CL_KP_Q n))
def Regs.AXn_CL_KI_Q (r : Regs) (n : Nat) : Rat := f32ToRat (r.get (Reg.AXn_CL_KI_Q n))
def Regs.AXn_MOD_CFG_DTC_EN (r : Regs) (n : Nat) : Bool := bit (r.get (Reg.AXn_MOD_CFG n)) 0
def Regs.AXn_MOD_CFG_OVM (r : Regs) (n : Nat) : Bool := bit (r.get (Reg.AXn_MOD_CFG n)) 1
def Regs.AXn_MOD_MMAX (r : Regs) (n : Nat) : Rat := f32ToRat (r.get (Reg.AXn_MOD_MMAX n))
def Regs.AXn_DTC_TD (r : Regs) (n : Nat) : Rat := f32ToRat (r.get (Reg.AXn_DTC_TD n))
def Regs.AXn_DTC_VON (r : Regs) (n : Nat) : Rat := f32ToRat (r.get (Reg.AXn_DTC_VON n))
def Regs.AXn_DTC_BAND (r : Regs) (n : Nat) : Rat := f32ToRat (r.get (Reg.AXn_DTC_BAND n))
def Regs.AXn_FW_KV (r : Regs) (n : Nat) : Rat := f32ToRat (r.get (Reg.AXn_FW_KV n))
def Regs.AXn_FW_KI (r : Regs) (n : Nat) : Rat := f32ToRat (r.get (Reg.AXn_FW_KI n))
def Regs.AXn_FW_IDMAX (r : Regs) (n : Nat) : Rat := f32ToRat (r.get (Reg.AXn_FW_IDMAX n))
def Regs.AXn_MTPA_TMAX (r : Regs) (n : Nat) : Rat := f32ToRat (r.get (Reg.AXn_MTPA_TMAX n))
def Regs.AXn_MTPA_ID_k (r : Regs) (n k : Nat) : Rat := f32ToRat (r.get (Reg.AXn_MTPA_ID_k n k))
def Regs.AXn_MTPA_IQ_k (r : Regs) (n k : Nat) : Rat := f32ToRat (r.get (Reg.AXn_MTPA_IQ_k n k))
def Regs.AXn_OBS_BW (r : Regs) (n : Nat) : Rat := f32ToRat (r.get (Reg.AXn_OBS_BW n))
def Regs.AXn_PLL_BW (r : Regs) (n : Nat) : Rat := f32ToRat (r.get (Reg.AXn_PLL_BW n))
def Regs.AXn_OBS_NMIN (r : Regs) (n : Nat) : Rat := f32ToRat (r.get (Reg.AXn_OBS_NMIN n))
def Regs.AXn_LOS_ERR (r : Regs) (n : Nat) : Rat := f32ToRat (r.get (Reg.AXn_LOS_ERR n))
def Regs.AXn_LOS_T (r : Regs) (n : Nat) : Rat := f32ToRat (r.get (Reg.AXn_LOS_T n))
def Regs.AXn_LOS_FLUX (r : Regs) (n : Nat) : Rat := f32ToRat (r.get (Reg.AXn_LOS_FLUX n))
def Regs.AXn_INERTIA (r : Regs) (n : Nat) : Rat := f32ToRat (r.get (Reg.AXn_INERTIA n))
def Regs.AXn_LOS_TEXT (r : Regs) (n : Nat) : Rat := f32ToRat (r.get (Reg.AXn_LOS_TEXT n))
def Regs.AXn_ASC_FRAC (r : Regs) (n : Nat) : Rat := f32ToRat (r.get (Reg.AXn_ASC_FRAC n))
def Regs.AXn_LOCK_T (r : Regs) (n : Nat) : Rat := f32ToRat (r.get (Reg.AXn_LOCK_T n))
def Regs.AXn_ASC_REACQ_T (r : Regs) (n : Nat) : Rat := f32ToRat (r.get (Reg.AXn_ASC_REACQ_T n))
def Regs.AXn_ASC_BLIND_T (r : Regs) (n : Nat) : Rat := f32ToRat (r.get (Reg.AXn_ASC_BLIND_T n))
def Regs.AXn_IF_I (r : Regs) (n : Nat) : Rat := f32ToRat (r.get (Reg.AXn_IF_I n))
def Regs.AXn_IF_ACC (r : Regs) (n : Nat) : Rat := f32ToRat (r.get (Reg.AXn_IF_ACC n))
def Regs.AXn_IF_ALIGN_T (r : Regs) (n : Nat) : Rat := f32ToRat (r.get (Reg.AXn_IF_ALIGN_T n))
def Regs.AXn_IF_BLEND (r : Regs) (n : Nat) : Rat := f32ToRat (r.get (Reg.AXn_IF_BLEND n))
def Regs.AXn_CATCH_VMIN (r : Regs) (n : Nat) : Rat := f32ToRat (r.get (Reg.AXn_CATCH_VMIN n))
def Regs.AXn_CATCH_IMAX (r : Regs) (n : Nat) : Rat := f32ToRat (r.get (Reg.AXn_CATCH_IMAX n))
def Regs.AXn_ENC_OFFS (r : Regs) (n : Nat) : Word := r.get (Reg.AXn_ENC_OFFS n)
def Regs.AXn_CMD_MODE (r : Regs) (n : Nat) : Nat := fld (r.get (Reg.AXn_CMD n)) 0 3
def Regs.AXn_CMD_HEAVE (r : Regs) (n : Nat) : Bool := bit (r.get (Reg.AXn_CMD n)) 4
def Regs.AXn_CMD_SET (r : Regs) (n : Nat) : Rat := f32ToRat (r.get (Reg.AXn_CMD_SET n))
def Regs.AXn_CMD_CFG_CAN (r : Regs) (n : Nat) : Nat := fld (r.get (Reg.AXn_CMD_CFG n)) 0 2
def Regs.AXn_CMD_CFG_CAN_TMO (r : Regs) (n : Nat) : Nat := fld (r.get (Reg.AXn_CMD_CFG n)) 8 8
def Regs.AXn_SPD_MAX (r : Regs) (n : Nat) : Rat := f32ToRat (r.get (Reg.AXn_SPD_MAX n))
def Regs.AXn_ACC (r : Regs) (n : Nat) : Rat := f32ToRat (r.get (Reg.AXn_ACC n))
def Regs.AXn_DEC (r : Regs) (n : Nat) : Rat := f32ToRat (r.get (Reg.AXn_DEC n))
def Regs.AXn_JERK (r : Regs) (n : Nat) : Rat := f32ToRat (r.get (Reg.AXn_JERK n))
def Regs.AXn_SPD_KP (r : Regs) (n : Nat) : Rat := f32ToRat (r.get (Reg.AXn_SPD_KP n))
def Regs.AXn_SPD_KI (r : Regs) (n : Nat) : Rat := f32ToRat (r.get (Reg.AXn_SPD_KI n))
def Regs.AXn_SPD_FILT (r : Regs) (n : Nat) : Rat := f32ToRat (r.get (Reg.AXn_SPD_FILT n))
def Regs.AXn_TQ_POS (r : Regs) (n : Nat) : Rat := f32ToRat (r.get (Reg.AXn_TQ_POS n))
def Regs.AXn_TQ_NEG (r : Regs) (n : Nat) : Rat := f32ToRat (r.get (Reg.AXn_TQ_NEG n))
def Regs.AXn_TQ_SLEW (r : Regs) (n : Nat) : Rat := f32ToRat (r.get (Reg.AXn_TQ_SLEW n))
def Regs.AXn_SPD_STILL (r : Regs) (n : Nat) : Rat := f32ToRat (r.get (Reg.AXn_SPD_STILL n))
def Regs.AXn_TQ_NLIM (r : Regs) (n : Nat) : Rat := f32ToRat (r.get (Reg.AXn_TQ_NLIM n))
def Regs.AXn_TQ_NKP (r : Regs) (n : Nat) : Rat := f32ToRat (r.get (Reg.AXn_TQ_NKP n))
def Regs.AXn_CRV_CFG_AIN (r : Regs) (n : Nat) : Nat := fld (r.get (Reg.AXn_CRV_CFG n)) 0 5
def Regs.AXn_CRV_CFG_EN (r : Regs) (n : Nat) : Bool := bit (r.get (Reg.AXn_CRV_CFG n)) 7
def Regs.AXn_CRV_CFG_MODE (r : Regs) (n : Nat) : Bool := bit (r.get (Reg.AXn_CRV_CFG n)) 8
def Regs.AXn_CRV_ON (r : Regs) (n : Nat) : Rat := f32ToRat (r.get (Reg.AXn_CRV_ON n))
def Regs.AXn_CRV_OFF (r : Regs) (n : Nat) : Rat := f32ToRat (r.get (Reg.AXn_CRV_OFF n))
def Regs.AXn_CRV_HYST (r : Regs) (n : Nat) : Rat := f32ToRat (r.get (Reg.AXn_CRV_HYST n))
def Regs.AXn_CRV_Y_k (r : Regs) (n k : Nat) : Rat := f32ToRat (r.get (Reg.AXn_CRV_Y_k n k))
def Regs.AXn_WN_CFG_LC_AIN (r : Regs) (n : Nat) : Nat := fld (r.get (Reg.AXn_WN_CFG n)) 0 5
def Regs.AXn_WN_CFG_LC_EN (r : Regs) (n : Nat) : Bool := bit (r.get (Reg.AXn_WN_CFG n)) 7
def Regs.AXn_WN_CFG_RND_EN (r : Regs) (n : Nat) : Bool := bit (r.get (Reg.AXn_WN_CFG n)) 8
def Regs.AXn_WN_G (r : Regs) (n : Nat) : Rat := f32ToRat (r.get (Reg.AXn_WN_G n))
def Regs.AXn_WN_R (r : Regs) (n : Nat) : Rat := f32ToRat (r.get (Reg.AXn_WN_R n))
def Regs.AXn_WN_KP (r : Regs) (n : Nat) : Rat := f32ToRat (r.get (Reg.AXn_WN_KP n))
def Regs.AXn_WN_KI (r : Regs) (n : Nat) : Rat := f32ToRat (r.get (Reg.AXn_WN_KI n))
def Regs.AXn_WN_RND_F (r : Regs) (n : Nat) : Rat := f32ToRat (r.get (Reg.AXn_WN_RND_F n))
def Regs.AXn_WN_RND_HYST (r : Regs) (n : Nat) : Rat := f32ToRat (r.get (Reg.AXn_WN_RND_HYST n))
def Regs.AXn_WN_RND_SPD (r : Regs) (n : Nat) : Rat := f32ToRat (r.get (Reg.AXn_WN_RND_SPD n))
def Regs.AXn_WN_RND_HOLD (r : Regs) (n : Nat) : Rat := f32ToRat (r.get (Reg.AXn_WN_RND_HOLD n))
def Regs.AXn_HC_IN_V (r : Regs) (n : Nat) : Rat := f32ToRat (r.get (Reg.AXn_HC_IN_V n))
def Regs.AXn_HC_IN_A (r : Regs) (n : Nat) : Rat := f32ToRat (r.get (Reg.AXn_HC_IN_A n))
def Regs.AXn_HC_LAT (r : Regs) (n : Nat) : Rat := f32ToRat (r.get (Reg.AXn_HC_LAT n))
def Regs.AXn_HC_LEAD (r : Regs) (n : Nat) : Rat := f32ToRat (r.get (Reg.AXn_HC_LEAD n))
def Regs.AXn_HC_K (r : Regs) (n : Nat) : Rat := f32ToRat (r.get (Reg.AXn_HC_K n))
def Regs.AXn_HC_AGE_MAX (r : Regs) (n : Nat) : Rat := f32ToRat (r.get (Reg.AXn_HC_AGE_MAX n))
def Regs.AXn_HC_FADE (r : Regs) (n : Nat) : Rat := f32ToRat (r.get (Reg.AXn_HC_FADE n))
def Regs.AXn_FLT_REACT_SHORT (r : Regs) (n : Nat) : Nat := fld (r.get (Reg.AXn_FLT_REACT n)) 0 2
def Regs.AXn_FLT_REACT_BRIDGE (r : Regs) (n : Nat) : Nat := fld (r.get (Reg.AXn_FLT_REACT n)) 2 2
def Regs.AXn_FLT_REACT_OC (r : Regs) (n : Nat) : Nat := fld (r.get (Reg.AXn_FLT_REACT n)) 4 2
def Regs.AXn_FLT_REACT_SENSOR (r : Regs) (n : Nat) : Nat := fld (r.get (Reg.AXn_FLT_REACT n)) 6 2
def Regs.AXn_FLT_REACT_LOS (r : Regs) (n : Nat) : Nat := fld (r.get (Reg.AXn_FLT_REACT n)) 8 2
def Regs.AXn_FLT_REACT_OV (r : Regs) (n : Nat) : Nat := fld (r.get (Reg.AXn_FLT_REACT n)) 10 2
def Regs.AXn_FLT_REACT_TIMEOUT (r : Regs) (n : Nat) : Nat := fld (r.get (Reg.AXn_FLT_REACT n)) 12 2
def Regs.AXn_FLT_REACT_TEMP (r : Regs) (n : Nat) : Nat := fld (r.get (Reg.AXn_FLT_REACT n)) 14 2
def Regs.AXn_STOP_DEC (r : Regs) (n : Nat) : Rat := f32ToRat (r.get (Reg.AXn_STOP_DEC n))
def Regs.AXn_STOP_TMO (r : Regs) (n : Nat) : Rat := f32ToRat (r.get (Reg.AXn_STOP_TMO n))
def Regs.AXn_CRASH_SPD (r : Regs) (n : Nat) : Rat := f32ToRat (r.get (Reg.AXn_CRASH_SPD n))
def Regs.AXn_CRASH_ACC (r : Regs) (n : Nat) : Rat := f32ToRat (r.get (Reg.AXn_CRASH_ACC n))
def Regs.AXn_TH_ICONT (r : Regs) (n : Nat) : Rat := f32ToRat (r.get (Reg.AXn_TH_ICONT n))
def Regs.AXn_TH_TAU (r : Regs) (n : Nat) : Rat := f32ToRat (r.get (Reg.AXn_TH_TAU n))
def Regs.AXn_TH_FOLD (r : Regs) (n : Nat) : Rat := f32ToRat (r.get (Reg.AXn_TH_FOLD n))
def Regs.AXn_TH_REL (r : Regs) (n : Nat) : Rat := f32ToRat (r.get (Reg.AXn_TH_REL n))
def Regs.AXn_TH_INIT (r : Regs) (n : Nat) : Rat := f32ToRat (r.get (Reg.AXn_TH_INIT n))
def Regs.AXn_TH_CFG_TW_AIN (r : Regs) (n : Nat) : Nat := fld (r.get (Reg.AXn_TH_CFG n)) 0 5
def Regs.AXn_TH_CFG_TW_EN (r : Regs) (n : Nat) : Bool := bit (r.get (Reg.AXn_TH_CFG n)) 7
def Regs.AXn_TH_TREF (r : Regs) (n : Nat) : Rat := f32ToRat (r.get (Reg.AXn_TH_TREF n))
def Regs.AXn_TH_TWMAX (r : Regs) (n : Nat) : Rat := f32ToRat (r.get (Reg.AXn_TH_TWMAX n))
def Regs.AXn_TH_TTRIP (r : Regs) (n : Nat) : Rat := f32ToRat (r.get (Reg.AXn_TH_TTRIP n))
def Regs.AXn_IMP_CFG (r : Regs) (n : Nat) : Nat := fld (r.get (Reg.AXn_IMP_CFG n)) 0 2
def Regs.AXn_IMP_DT (r : Regs) (n : Nat) : Rat := f32ToRat (r.get (Reg.AXn_IMP_DT n))
def Regs.AXn_IMP_WIN (r : Regs) (n : Nat) : Rat := f32ToRat (r.get (Reg.AXn_IMP_WIN n))
def Regs.AXn_IMP_FILT (r : Regs) (n : Nat) : Rat := f32ToRat (r.get (Reg.AXn_IMP_FILT n))
def Regs.AXn_IMP_HOLD (r : Regs) (n : Nat) : Rat := f32ToRat (r.get (Reg.AXn_IMP_HOLD n))
def Regs.AXn_IMP_YIELD_T (r : Regs) (n : Nat) : Rat := f32ToRat (r.get (Reg.AXn_IMP_YIELD_T n))
def Regs.AXn_TD_F (r : Regs) (n : Nat) : Rat := f32ToRat (r.get (Reg.AXn_TD_F n))
def Regs.AXn_TD_Q (r : Regs) (n : Nat) : Rat := f32ToRat (r.get (Reg.AXn_TD_Q n))
def Regs.AXn_TD_K (r : Regs) (n : Nat) : Rat := f32ToRat (r.get (Reg.AXn_TD_K n))
def Regs.AXn_ICE_CFG_EN (r : Regs) (n : Nat) : Bool := bit (r.get (Reg.AXn_ICE_CFG n)) 0
def Regs.AXn_ICE_CFG_RETRY_MAX (r : Regs) (n : Nat) : Nat := fld (r.get (Reg.AXn_ICE_CFG n)) 8 4
def Regs.AXn_ICE_KP (r : Regs) (n : Nat) : Rat := f32ToRat (r.get (Reg.AXn_ICE_KP n))
def Regs.AXn_ICE_KI (r : Regs) (n : Nat) : Rat := f32ToRat (r.get (Reg.AXn_ICE_KI n))
def Regs.AXn_ICE_NSTALL (r : Regs) (n : Nat) : Rat := f32ToRat (r.get (Reg.AXn_ICE_NSTALL n))
def Regs.AXn_ICE_STALL_T (r : Regs) (n : Nat) : Rat := f32ToRat (r.get (Reg.AXn_ICE_STALL_T n))
def Regs.AXn_ICE_PAUSE_T (r : Regs) (n : Nat) : Rat := f32ToRat (r.get (Reg.AXn_ICE_PAUSE_T n))
def Regs.AXn_ICE_BACK_N (r : Regs) (n : Nat) : Rat := f32ToRat (r.get (Reg.AXn_ICE_BACK_N n))
def Regs.AXn_ICE_BACK_T (r : Regs) (n : Nat) : Rat := f32ToRat (r.get (Reg.AXn_ICE_BACK_T n))
def Regs.AXn_VDC_CRIT_LO (r : Regs) (n : Nat) : Rat := f32ToRat (r.get (Reg.AXn_VDC_CRIT_LO n))
def Regs.AXn_VDC_MOT_END (r : Regs) (n : Nat) : Rat := f32ToRat (r.get (Reg.AXn_VDC_MOT_END n))
def Regs.AXn_VDC_MOT_LO (r : Regs) (n : Nat) : Rat := f32ToRat (r.get (Reg.AXn_VDC_MOT_LO n))
def Regs.AXn_VDC_REG (r : Regs) (n : Nat) : Rat := f32ToRat (r.get (Reg.AXn_VDC_REG n))
def Regs.AXn_VDC_REG_END (r : Regs) (n : Nat) : Rat := f32ToRat (r.get (Reg.AXn_VDC_REG_END n))
def Regs.AXn_VDC_OV (r : Regs) (n : Nat) : Rat := f32ToRat (r.get (Reg.AXn_VDC_OV n))
def Regs.AXn_VDC_CRIT_T (r : Regs) (n : Nat) : Rat := f32ToRat (r.get (Reg.AXn_VDC_CRIT_T n))
def Regs.FAB_SHRg_CFG_MODE (r : Regs) (n : Nat) : Nat := fld (r.get (Reg.FAB_SHRg_CFG n)) 0 2
def Regs.FAB_SHRg_CFG_NMEM (r : Regs) (n : Nat) : Nat := fld (r.get (Reg.FAB_SHRg_CFG n)) 8 6
def Regs.FAB_SHRg_CFG_QUORUM (r : Regs) (n : Nat) : Nat := fld (r.get (Reg.FAB_SHRg_CFG n)) 16 5
def Regs.FAB_SHRg_CFG_LOSS_POL (r : Regs) (n : Nat) : Bool := bit (r.get (Reg.FAB_SHRg_CFG n)) 24
def Regs.FAB_SHRg_CFG_MISS (r : Regs) (n : Nat) : Nat := fld (r.get (Reg.FAB_SHRg_CFG n)) 28 4
def Regs.FAB_SHRg_JOIN_T (r : Regs) (n : Nat) : Rat := f32ToRat (r.get (Reg.FAB_SHRg_JOIN_T n))
def Regs.FAB_SHRg_DESYNC_T (r : Regs) (n : Nat) : Rat := f32ToRat (r.get (Reg.FAB_SHRg_DESYNC_T n))
def Regs.FAB_SHRg_MEMs_DEV (r : Regs) (n k : Nat) : Nat := fld (r.get (Reg.FAB_SHRg_MEMs n k)) 0 6
def Regs.FAB_SHRg_MEMs_AXIS (r : Regs) (n k : Nat) : Nat := fld (r.get (Reg.FAB_SHRg_MEMs n k)) 8 3
def Regs.FAB_SHRg_MEMs_PRIO (r : Regs) (n k : Nat) : Nat := fld (r.get (Reg.FAB_SHRg_MEMs n k)) 12 4
def Regs.AXn_SHR_CFG (r : Regs) (n : Nat) : Nat := fld (r.get (Reg.AXn_SHR_CFG n)) 0 5
def Regs.AXn_SHR_RATIO (r : Regs) (n : Nat) : Rat := f32ToRat (r.get (Reg.AXn_SHR_RATIO n))
def Regs.AXn_SHR_DROOP (r : Regs) (n : Nat) : Rat := f32ToRat (r.get (Reg.AXn_SHR_DROOP n))
def Regs.AUXn_CFG_STEPS (r : Regs) (n : Nat) : Nat := fld (r.get (Reg.AUXn_CFG n)) 0 10
def Regs.AUXn_CFG_DIR (r : Regs) (n : Nat) : Bool := bit (r.get (Reg.AUXn_CFG n)) 16
def Regs.AUXn_CFG_KEEP (r : Regs) (n : Nat) : Bool := bit (r.get (Reg.AUXn_CFG n)) 17
def Regs.AUXn_CFG_VDC (r : Regs) (n : Nat) : Nat := fld (r.get (Reg.AUXn_CFG n)) 24 5
def Regs.AUXn_PWM_F (r : Regs) (n : Nat) : Rat := f32ToRat (r.get (Reg.AUXn_PWM_F n))
def Regs.AUXn_I_RUN (r : Regs) (n : Nat) : Rat := f32ToRat (r.get (Reg.AUXn_I_RUN n))
def Regs.AUXn_I_HOLD (r : Regs) (n : Nat) : Rat := f32ToRat (r.get (Reg.AUXn_I_HOLD n))
def Regs.AUXn_HOLD_DLY (r : Regs) (n : Nat) : Rat := f32ToRat (r.get (Reg.AUXn_HOLD_DLY n))
def Regs.AUXn_RSENSE (r : Regs) (n : Nat) : Rat := f32ToRat (r.get (Reg.AUXn_RSENSE n))
def Regs.AUXn_MOT_R (r : Regs) (n : Nat) : Rat := f32ToRat (r.get (Reg.AUXn_MOT_R n))
def Regs.AUXn_MOT_L (r : Regs) (n : Nat) : Rat := f32ToRat (r.get (Reg.AUXn_MOT_L n))
def Regs.AUXn_MOT_KE (r : Regs) (n : Nat) : Rat := f32ToRat (r.get (Reg.AUXn_MOT_KE n))
def Regs.AUXn_Q_KI (r : Regs) (n : Nat) : Rat := f32ToRat (r.get (Reg.AUXn_Q_KI n))
def Regs.AUXn_S_KP (r : Regs) (n : Nat) : Rat := f32ToRat (r.get (Reg.AUXn_S_KP n))
def Regs.AUXn_S_KI (r : Regs) (n : Nat) : Rat := f32ToRat (r.get (Reg.AUXn_S_KI n))
def Regs.AUXn_QS_SPD (r : Regs) (n : Nat) : Rat := f32ToRat (r.get (Reg.AUXn_QS_SPD n))
def Regs.AUXn_QS_HYST (r : Regs) (n : Nat) : Rat := f32ToRat (r.get (Reg.AUXn_QS_HYST n))
def Regs.AUXn_SPD_MAX (r : Regs) (n : Nat) : Rat := f32ToRat (r.get (Reg.AUXn_SPD_MAX n))
def Regs.AUXn_ACC (r : Regs) (n : Nat) : Rat := f32ToRat (r.get (Reg.AUXn_ACC n))
def Regs.AUXn_DEC (r : Regs) (n : Nat) : Rat := f32ToRat (r.get (Reg.AUXn_DEC n))
def Regs.AUXn_STOP_DEC (r : Regs) (n : Nat) : Rat := f32ToRat (r.get (Reg.AUXn_STOP_DEC n))
def Regs.AUXn_STALL_CFG (r : Regs) (n : Nat) : Bool := bit (r.get (Reg.AUXn_STALL_CFG n)) 0
def Regs.AUXn_STALL_ANG (r : Regs) (n : Nat) : Rat := f32ToRat (r.get (Reg.AUXn_STALL_ANG n))
def Regs.AUXn_STALL_T (r : Regs) (n : Nat) : Rat := f32ToRat (r.get (Reg.AUXn_STALL_T n))
def Regs.AUXn_STALL_EFRAC (r : Regs) (n : Nat) : Rat := f32ToRat (r.get (Reg.AUXn_STALL_EFRAC n))
def Regs.AUXn_STALL_NMIN (r : Regs) (n : Nat) : Rat := f32ToRat (r.get (Reg.AUXn_STALL_NMIN n))
def Regs.AUXn_HOME_CFG (r : Regs) (n : Nat) : Bool := bit (r.get (Reg.AUXn_HOME_CFG n)) 0
def Regs.AUXn_HOME_SPD (r : Regs) (n : Nat) : Rat := f32ToRat (r.get (Reg.AUXn_HOME_SPD n))
def Regs.AUXn_HOME_BACK (r : Regs) (n : Nat) : Word := r.get (Reg.AUXn_HOME_BACK n)
def Regs.AUXn_HOME_LBACK (r : Regs) (n : Nat) : Word := r.get (Reg.AUXn_HOME_LBACK n)
def Regs.AUXn_HOME_OFFS (r : Regs) (n : Nat) : Word := r.get (Reg.AUXn_HOME_OFFS n)
def Regs.AUXn_HOME_MAX (r : Regs) (n : Nat) : Word := r.get (Reg.AUXn_HOME_MAX n)
def Regs.AUXn_LIM_CFG_NEG_GPIO (r : Regs) (n : Nat) : Nat := fld (r.get (Reg.AUXn_LIM_CFG n)) 0 4
def Regs.AUXn_LIM_CFG_NEG_EN (r : Regs) (n : Nat) : Bool := bit (r.get (Reg.AUXn_LIM_CFG n)) 4
def Regs.AUXn_LIM_CFG_NEG_POL (r : Regs) (n : Nat) : Bool := bit (r.get (Reg.AUXn_LIM_CFG n)) 5
def Regs.AUXn_LIM_CFG_POS_GPIO (r : Regs) (n : Nat) : Nat := fld (r.get (Reg.AUXn_LIM_CFG n)) 8 4
def Regs.AUXn_LIM_CFG_POS_EN (r : Regs) (n : Nat) : Bool := bit (r.get (Reg.AUXn_LIM_CFG n)) 12
def Regs.AUXn_LIM_CFG_POS_POL (r : Regs) (n : Nat) : Bool := bit (r.get (Reg.AUXn_LIM_CFG n)) 13
def Regs.AUXn_LIM_CFG_FILT (r : Regs) (n : Nat) : Nat := fld (r.get (Reg.AUXn_LIM_CFG n)) 16 8
def Regs.AUXn_KEEP_SETTLE (r : Regs) (n : Nat) : Rat := f32ToRat (r.get (Reg.AUXn_KEEP_SETTLE n))
def Regs.AUXn_KEEP_CHK_T (r : Regs) (n : Nat) : Rat := f32ToRat (r.get (Reg.AUXn_KEEP_CHK_T n))
def Regs.AUXn_KEEP_EMIN (r : Regs) (n : Nat) : Rat := f32ToRat (r.get (Reg.AUXn_KEEP_EMIN n))
def Regs.AUXn_CMD (r : Regs) (n : Nat) : Nat := fld (r.get (Reg.AUXn_CMD n)) 0 3
def Regs.AUXn_CMD_SET (r : Regs) (n : Nat) : Rat := f32ToRat (r.get (Reg.AUXn_CMD_SET n))
def Regs.AUXn_CMD_POS (r : Regs) (n : Nat) : Word := r.get (Reg.AUXn_CMD_POS n)
def Regs.SAF_CFG (r : Regs) : Nat := fld (r.get (Reg.SAF_CFG)) 0 14
def Regs.SAF_TP_W (r : Regs) : Nat := fld (r.get (Reg.SAF_TP)) 0 8
def Regs.SAF_TP_REC (r : Regs) : Nat := fld (r.get (Reg.SAF_TP)) 8 8
def Regs.SAF_TP_PER (r : Regs) : Nat := fld (r.get (Reg.SAF_TP)) 16 16
def Regs.SAF_STO_CFG_EN (r : Regs) : Bool := bit (r.get (Reg.SAF_STO_CFG)) 0
def Regs.SAF_STO_CFG_FILT (r : Regs) : Nat := fld (r.get (Reg.SAF_STO_CFG)) 8 8
def Regs.SAF_STO_CFG_DISC (r : Regs) : Nat := fld (r.get (Reg.SAF_STO_CFG)) 16 16
def Regs.SAF_SS1R (r : Regs) : Nat := fld (r.get (Reg.SAF_SS1R)) 0 16
def Regs.SAF_INk_CFG_MODE (r : Regs) (n : Nat) : Nat := fld (r.get (Reg.SAF_INk_CFG n)) 0 2
def Regs.SAF_INk_CFG_TP (r : Regs) (n : Nat) : Bool := bit (r.get (Reg.SAF_INk_CFG n)) 4
def Regs.SAF_INk_CFG_FILT (r : Regs) (n : Nat) : Nat := fld (r.get (Reg.SAF_INk_CFG n)) 8 8
def Regs.SAF_INk_CFG_DISC (r : Regs) (n : Nat) : Nat := fld (r.get (Reg.SAF_INk_CFG n)) 16 16
def Regs.SAF_FNk_CFG_TYPE (r : Regs) (n : Nat) : Nat := fld (r.get (Reg.SAF_FNk_CFG n)) 0 2
def Regs.SAF_FNk_CFG_IN (r : Regs) (n : Nat) : Nat := fld (r.get (Reg.SAF_FNk_CFG n)) 8 8
def Regs.SAF_FNk_SEL_SEL0 (r : Regs) (n : Nat) : Nat := fld (r.get (Reg.SAF_FNk_SEL n)) 0 16
def Regs.SAF_FNk_SEL_SEL1 (r : Regs) (n : Nat) : Nat := fld (r.get (Reg.SAF_FNk_SEL n)) 16 16
def Regs.SAF_FNk_T (r : Regs) (n : Nat) : Rat := f32ToRat (r.get (Reg.SAF_FNk_T n))
def Regs.SAF_FNk_LEAD (r : Regs) (n : Nat) : Rat := f32ToRat (r.get (Reg.SAF_FNk_LEAD n))
def Regs.SAF_SOk_CFG_MODE (r : Regs) (n : Nat) : Nat := fld (r.get (Reg.SAF_SOk_CFG n)) 0 2
def Regs.SAF_SOk_CFG_AX (r : Regs) (n : Nat) : Nat := fld (r.get (Reg.SAF_SOk_CFG n)) 8 6
def Regs.SAF_SOk_CFG_AUX (r : Regs) (n : Nat) : Nat := fld (r.get (Reg.SAF_SOk_CFG n)) 16 4
def Regs.SAF_SOk_CFG_EDM_EN (r : Regs) (n : Nat) : Bool := bit (r.get (Reg.SAF_SOk_CFG n)) 24
def Regs.SAF_SOk_TIM_TPW (r : Regs) (n : Nat) : Nat := fld (r.get (Reg.SAF_SOk_TIM n)) 0 8
def Regs.SAF_SOk_TIM_TPER (r : Regs) (n : Nat) : Nat := fld (r.get (Reg.SAF_SOk_TIM n)) 8 8
def Regs.SAF_SOk_TIM_EDM_T (r : Regs) (n : Nat) : Nat := fld (r.get (Reg.SAF_SOk_TIM n)) 16 16
def Regs.SAF_AXn_NSTILL (r : Regs) (n : Nat) : Rat := f32ToRat (r.get (Reg.SAF_AXn_NSTILL n))
def Regs.SAF_AXn_DECMON (r : Regs) (n : Nat) : Rat := f32ToRat (r.get (Reg.SAF_AXn_DECMON n))
def Regs.SAF_AXn_NTOL (r : Regs) (n : Nat) : Rat := f32ToRat (r.get (Reg.SAF_AXn_NTOL n))
def Regs.SAF_CONc_CFG_EN (r : Regs) (n : Nat) : Bool := bit (r.get (Reg.SAF_CONc_CFG n)) 0
def Regs.SAF_CONc_CFG_DIR (r : Regs) (n : Nat) : Bool := bit (r.get (Reg.SAF_CONc_CFG n)) 1
def Regs.SAF_CONc_CFG_CH (r : Regs) (n : Nat) : Nat := fld (r.get (Reg.SAF_CONc_CFG n)) 2 2
def Regs.SAF_CONc_CFG_AGE (r : Regs) (n : Nat) : Bool := bit (r.get (Reg.SAF_CONc_CFG n)) 4
def Regs.SAF_CONc_CFG_IDE (r : Regs) (n : Nat) : Bool := bit (r.get (Reg.SAF_CONc_CFG n)) 5
def Regs.SAF_CONc_ID (r : Regs) (n : Nat) : Word := r.get (Reg.SAF_CONc_ID n)
def Regs.SAF_CONc_TIM_PER (r : Regs) (n : Nat) : Nat := fld (r.get (Reg.SAF_CONc_TIM n)) 0 16
def Regs.SAF_CONc_TIM_WDT (r : Regs) (n : Nat) : Nat := fld (r.get (Reg.SAF_CONc_TIM n)) 16 16
def Regs.SAF_CONc_ADDR (r : Regs) (n : Nat) : Nat := fld (r.get (Reg.SAF_CONc_ADDR n)) 0 29
def Regs.FAB_CFG_TOPO (r : Regs) : Bool := bit (r.get (Reg.FAB_CFG)) 0
def Regs.FAB_CFG_ROOT (r : Regs) : Bool := bit (r.get (Reg.FAB_CFG)) 1
def Regs.FAB_CFG_LINK_EN (r : Regs) : Nat := fld (r.get (Reg.FAB_CFG)) 8 6
def Regs.FAB_CMD_LEAD (r : Regs) : Rat := f32ToRat (r.get (Reg.FAB_CMD_LEAD))
def Regs.FAB_REC_SEL (r : Regs) : Nat := fld (r.get (Reg.FAB_REC_SEL)) 0 8
def Regs.CP_CFG_FORM_A (r : Regs) : Nat := fld (r.get (Reg.CP_CFG)) 0 2
def Regs.CP_CFG_FORM_B (r : Regs) : Nat := fld (r.get (Reg.CP_CFG)) 2 2
def Regs.CP_CFG_LEVER_EN (r : Regs) : Bool := bit (r.get (Reg.CP_CFG)) 4
def Regs.CP_CFG_TAKE_EN (r : Regs) : Bool := bit (r.get (Reg.CP_CFG)) 5
def Regs.CP_CFG_IRQ_GPIO (r : Regs) : Nat := fld (r.get (Reg.CP_CFG)) 8 4
def Regs.CP_CFG_IRQ_EN (r : Regs) : Bool := bit (r.get (Reg.CP_CFG)) 12
def Regs.CP_LEASE (r : Regs) : Rat := f32ToRat (r.get (Reg.CP_LEASE))
def Regs.CP_TOK_WIN (r : Regs) : Rat := f32ToRat (r.get (Reg.CP_TOK_WIN))
def Regs.CP_MNT_BAUD (r : Regs) : Rat := f32ToRat (r.get (Reg.CP_MNT_BAUD))
def Regs.CP_REC_SEL (r : Regs) : Nat := fld (r.get (Reg.CP_REC_SEL)) 0 3
def Regs.CANn_CFG_BIND (r : Regs) (n : Nat) : Nat := fld (r.get (Reg.CANn_CFG n)) 0 2
def Regs.CANn_CFG_FD_EN (r : Regs) (n : Nat) : Bool := bit (r.get (Reg.CANn_CFG n)) 2
def Regs.CANn_CFG_PROFILE (r : Regs) (n : Nat) : Bool := bit (r.get (Reg.CANn_CFG n)) 3
def Regs.CANn_CFG_LISTEN (r : Regs) (n : Nat) : Bool := bit (r.get (Reg.CANn_CFG n)) 4
def Regs.CANn_CFG_ABD (r : Regs) (n : Nat) : Bool := bit (r.get (Reg.CANn_CFG n)) 5
def Regs.CANn_CFG_REC_TX (r : Regs) (n : Nat) : Bool := bit (r.get (Reg.CANn_CFG n)) 6
def Regs.CANn_CFG_BRS (r : Regs) (n : Nat) : Bool := bit (r.get (Reg.CANn_CFG n)) 7
def Regs.CANn_CFG_ABD_N (r : Regs) (n : Nat) : Nat := fld (r.get (Reg.CANn_CFG n)) 8 3
def Regs.CANn_FLT_CNT (r : Regs) (n : Nat) : Nat := fld (r.get (Reg.CANn_FLT_CNT n)) 0 7
def Regs.CANn_HP_VZ (r : Regs) (n : Nat) : Rat := f32ToRat (r.get (Reg.CANn_HP_VZ n))
def Regs.CANn_HP_AZ (r : Regs) (n : Nat) : Rat := f32ToRat (r.get (Reg.CANn_HP_AZ n))
def Regs.CANn_ABD_DWELL (r : Regs) (n : Nat) : Rat := f32ToRat (r.get (Reg.CANn_ABD_DWELL n))
def Regs.CANn_NBT_k_BRP (r : Regs) (n k : Nat) : Nat := fld (r.get (Reg.CANn_NBT_k n k)) 0 8
def Regs.CANn_NBT_k_TSEG1 (r : Regs) (n k : Nat) : Nat := fld (r.get (Reg.CANn_NBT_k n k)) 8 8
def Regs.CANn_NBT_k_TSEG2 (r : Regs) (n k : Nat) : Nat := fld (r.get (Reg.CANn_NBT_k n k)) 16 7
def Regs.CANn_NBT_k_SJW (r : Regs) (n k : Nat) : Nat := fld (r.get (Reg.CANn_NBT_k n k)) 24 7
def Regs.CANn_DBT_k_BRP (r : Regs) (n k : Nat) : Nat := fld (r.get (Reg.CANn_DBT_k n k)) 0 5
def Regs.CANn_DBT_k_TSEG1 (r : Regs) (n k : Nat) : Nat := fld (r.get (Reg.CANn_DBT_k n k)) 8 5
def Regs.CANn_DBT_k_TSEG2 (r : Regs) (n k : Nat) : Nat := fld (r.get (Reg.CANn_DBT_k n k)) 16 4
def Regs.CANn_DBT_k_SJW (r : Regs) (n k : Nat) : Nat := fld (r.get (Reg.CANn_DBT_k n k)) 24 4
def Regs.CANn_DBT_k_TDC_EN (r : Regs) (n k : Nat) : Bool := bit (r.get (Reg.CANn_DBT_k n k)) 28
def Regs.CANn_FLTf_ID_ID (r : Regs) (n k : Nat) : Nat := fld (r.get (Reg.CANn_FLTf_ID n k)) 0 29
def Regs.CANn_FLTf_ID_IDE (r : Regs) (n k : Nat) : Bool := bit (r.get (Reg.CANn_FLTf_ID n k)) 29
def Regs.CANn_FLTf_MASK (r : Regs) (n k : Nat) : Nat := fld (r.get (Reg.CANn_FLTf_MASK n k)) 0 29
def Regs.CANn_FLTf_CFG_ROLE (r : Regs) (n k : Nat) : Nat := fld (r.get (Reg.CANn_FLTf_CFG n k)) 0 2
def Regs.CANn_FLTf_CFG_REC (r : Regs) (n k : Nat) : Bool := bit (r.get (Reg.CANn_FLTf_CFG n k)) 2
def Regs.CANn_TXPk_ID_ID (r : Regs) (n k : Nat) : Nat := fld (r.get (Reg.CANn_TXPk_ID n k)) 0 29
def Regs.CANn_TXPk_ID_IDE (r : Regs) (n k : Nat) : Bool := bit (r.get (Reg.CANn_TXPk_ID n k)) 29
def Regs.CANn_TXPk_ID_FDF (r : Regs) (n k : Nat) : Bool := bit (r.get (Reg.CANn_TXPk_ID n k)) 30
def Regs.CANn_TXPk_CFG_AXIS (r : Regs) (n k : Nat) : Nat := fld (r.get (Reg.CANn_TXPk_CFG n k)) 0 3
def Regs.CANn_TXPk_CFG_EN (r : Regs) (n k : Nat) : Bool := bit (r.get (Reg.CANn_TXPk_CFG n k)) 3
def Regs.CANn_TXPk_PER (r : Regs) (n k : Nat) : Rat := f32ToRat (r.get (Reg.CANn_TXPk_PER n k))
def Regs.CANn_TXHh_ID_ID (r : Regs) (n k : Nat) : Nat := fld (r.get (Reg.CANn_TXHh_ID n k)) 0 29
def Regs.CANn_TXHh_ID_IDE (r : Regs) (n k : Nat) : Bool := bit (r.get (Reg.CANn_TXHh_ID n k)) 29
def Regs.CANn_TXHh_FMT_LEN (r : Regs) (n k : Nat) : Nat := fld (r.get (Reg.CANn_TXHh_FMT n k)) 0 7
def Regs.CANn_TXHh_FMT_FDF (r : Regs) (n k : Nat) : Bool := bit (r.get (Reg.CANn_TXHh_FMT n k)) 8
def Regs.CANn_TXHh_FMT_BRS (r : Regs) (n k : Nat) : Bool := bit (r.get (Reg.CANn_TXHh_FMT n k)) 9
def Regs.CANn_TXHh_DATA_i (r : Regs) (n k i : Nat) : Word := r.get (Reg.CANn_TXHh_DATA_i n k i)
def Regs.RNG_r_BASE (r : Regs) (n : Nat) : Word := r.get (Reg.RNG_r_BASE n)
def Regs.RNG_r_CFG_LOG2 (r : Regs) (n : Nat) : Nat := fld (r.get (Reg.RNG_r_CFG n)) 0 5
def Regs.RNG_r_CFG_FULL (r : Regs) (n : Nat) : Bool := bit (r.get (Reg.RNG_r_CFG n)) 8
def Regs.RNG_r_CFG_EN (r : Regs) (n : Nat) : Bool := bit (r.get (Reg.RNG_r_CFG n)) 15
def Regs.RNG_r_CFG_TAP_CH (r : Regs) (n : Nat) : Nat := fld (r.get (Reg.RNG_r_CFG n)) 16 5
def Regs.RNG_r_HI (r : Regs) (n : Nat) : Nat := fld (r.get (Reg.RNG_r_HI n)) 0 21
def Regs.RNG_r_LO (r : Regs) (n : Nat) : Nat := fld (r.get (Reg.RNG_r_LO n)) 0 21
def Regs.SIP_CHc_CFG_OWNER (r : Regs) (n : Nat) : Nat := fld (r.get (Reg.SIP_CHc_CFG n)) 0 2
def Regs.SIP_CHc_CFG_OWNER_DEV (r : Regs) (n : Nat) : Nat := fld (r.get (Reg.SIP_CHc_CFG n)) 8 7
def Regs.SIP_CHc_CFG_TRIG_EN (r : Regs) (n : Nat) : Bool := bit (r.get (Reg.SIP_CHc_CFG n)) 16
def Regs.SIP_CHc_CFG_TRIG_RING (r : Regs) (n : Nat) : Nat := fld (r.get (Reg.SIP_CHc_CFG n)) 24 5
def Regs.SIP_CHc_VMAX (r : Regs) (n : Nat) : Nat := fld (r.get (Reg.SIP_CHc_VMAX n)) 0 16
def Regs.SIP_CHc_RMASK (r : Regs) (n : Nat) : Word := r.get (Reg.SIP_CHc_RMASK n)
def Regs.SIP_CHc_DEST (r : Regs) (n : Nat) : Nat := fld (r.get (Reg.SIP_CHc_DEST n)) 0 8
def Regs.SIP_CHc_FLUSH (r : Regs) (n : Nat) : Rat := f32ToRat (r.get (Reg.SIP_CHc_FLUSH n))
def Regs.SIP_CHc_HEAD (r : Regs) (n : Nat) : Word := r.get (Reg.SIP_CHc_HEAD n)
def Regs.CAR_CFG_EN (r : Regs) : Bool := bit (r.get (Reg.CAR_CFG)) 0
def Regs.CAR_CFG_TARGETS (r : Regs) : Nat := fld (r.get (Reg.CAR_CFG)) 1 2
def Regs.CAR_CFG_TMODE (r : Regs) : Nat := fld (r.get (Reg.CAR_CFG)) 4 3
def Regs.CAR_CFG_FORMAT_EN (r : Regs) : Bool := bit (r.get (Reg.CAR_CFG)) 8
def Regs.CAR_GEOM_PAGE_LOG2 (r : Regs) : Nat := fld (r.get (Reg.CAR_GEOM)) 0 4
def Regs.CAR_GEOM_PPB_LOG2 (r : Regs) : Nat := fld (r.get (Reg.CAR_GEOM)) 8 4
def Regs.CAR_GEOM_BLOCKS (r : Regs) : Nat := fld (r.get (Reg.CAR_GEOM)) 16 14
def Regs.CAR_SPARE (r : Regs) : Nat := fld (r.get (Reg.CAR_SPARE)) 0 16
def Regs.CAR_AREA_META_BLK (r : Regs) : Nat := fld (r.get (Reg.CAR_AREA)) 0 4
def Regs.CAR_AREA_DUMP_BLK (r : Regs) : Nat := fld (r.get (Reg.CAR_AREA)) 8 7
def Regs.CAR_AREA_EVT_MAXBLK (r : Regs) : Nat := fld (r.get (Reg.CAR_AREA)) 16 7
def Regs.CAR_RING_MIN (r : Regs) : Nat := fld (r.get (Reg.CAR_RING_MIN)) 0 16
def Regs.CAR_ECC_THR_BAD_PCT (r : Regs) : Nat := fld (r.get (Reg.CAR_ECC_THR)) 0 5
def Regs.CAR_ECC_THR_REFRESH (r : Regs) : Nat := fld (r.get (Reg.CAR_ECC_THR)) 8 6
def Regs.CAR_ECC_THR_MAINT_PCT (r : Regs) : Nat := fld (r.get (Reg.CAR_ECC_THR)) 16 7
def Regs.CAR_WEAR_EC_RATED (r : Regs) : Nat := fld (r.get (Reg.CAR_WEAR)) 0 16
def Regs.CAR_WEAR_WL_DELTA (r : Regs) : Nat := fld (r.get (Reg.CAR_WEAR)) 16 16
def Regs.CAR_RD_LIMIT (r : Regs) : Word := r.get (Reg.CAR_RD_LIMIT)
def Regs.CAR_SCRUB_T (r : Regs) : Rat := f32ToRat (r.get (Reg.CAR_SCRUB_T))
def Regs.CAR_STRs_CFG (r : Regs) (n : Nat) : Bool := bit (r.get (Reg.CAR_STRs_CFG n)) 0
def Regs.CAR_STRs_FLUSH (r : Regs) (n : Nat) : Rat := f32ToRat (r.get (Reg.CAR_STRs_FLUSH n))
def Regs.CAR_TRGk_TYPE (r : Regs) (n : Nat) : Nat := fld (r.get (Reg.CAR_TRGk n)) 0 8
def Regs.CAR_TRGk_EN (r : Regs) (n : Nat) : Bool := bit (r.get (Reg.CAR_TRGk n)) 15
def Regs.CAR_TRGk_CODE (r : Regs) (n : Nat) : Nat := fld (r.get (Reg.CAR_TRGk n)) 16 16
def Regs.CAR_EVT_PRE (r : Regs) : Rat := f32ToRat (r.get (Reg.CAR_EVT_PRE))
def Regs.CAR_EVT_POST (r : Regs) : Rat := f32ToRat (r.get (Reg.CAR_EVT_POST))
def Regs.CAR_RPL_SRC_AREA (r : Regs) : Nat := fld (r.get (Reg.CAR_RPL_SRC)) 0 2
def Regs.CAR_RPL_SRC_SLOT (r : Regs) : Nat := fld (r.get (Reg.CAR_RPL_SRC)) 4 4
def Regs.CAR_RPL_SRC_CH (r : Regs) : Nat := fld (r.get (Reg.CAR_RPL_SRC)) 8 5
def Regs.CAR_RPL_FROM_LO (r : Regs) : Word := r.get (Reg.CAR_RPL_FROM_LO)
def Regs.CAR_RPL_FROM_HI (r : Regs) : Word := r.get (Reg.CAR_RPL_FROM_HI)
def Regs.CAR_RPL_BUF (r : Regs) : Nat := fld (r.get (Reg.CAR_RPL_BUF)) 3 12
def Regs.CAR_RPL_LEN (r : Regs) : Nat := fld (r.get (Reg.CAR_RPL_LEN)) 0 16
def Regs.CAR_RPL_RD (r : Regs) : Word := r.get (Reg.CAR_RPL_RD)
def Regs.FRZ_CFG_PIN_EN (r : Regs) : Bool := bit (r.get (Reg.FRZ_CFG)) 0
def Regs.FRZ_CFG_PIN_MAINT (r : Regs) : Bool := bit (r.get (Reg.FRZ_CFG)) 1
def Regs.FRZ_CFG_PIN_SCOPE (r : Regs) : Bool := bit (r.get (Reg.FRZ_CFG)) 2
def Regs.FRZ_CFG_JCP_EN (r : Regs) : Bool := bit (r.get (Reg.FRZ_CFG)) 3
def Regs.FRZ_CFG_FAB_ACCEPT (r : Regs) : Bool := bit (r.get (Reg.FRZ_CFG)) 4
def Regs.FRZ_CFG_FAB_ORIG (r : Regs) : Bool := bit (r.get (Reg.FRZ_CFG)) 5
def Regs.FRZ_CFG_TAP_EN (r : Regs) : Bool := bit (r.get (Reg.FRZ_CFG)) 6
def Regs.FRZ_CFG_MODES (r : Regs) : Nat := fld (r.get (Reg.FRZ_CFG)) 8 5
def Regs.FRZ_CFG_DUMP_MODE (r : Regs) : Nat := fld (r.get (Reg.FRZ_CFG)) 16 2
def Regs.FRZ_CFG_FAIL_RESTART (r : Regs) : Bool := bit (r.get (Reg.FRZ_CFG)) 18
def Regs.FRZ_SAFE (r : Regs) : Nat := fld (r.get (Reg.FRZ_SAFE)) 0 6
def Regs.FRZ_PIN_FILT (r : Regs) : Rat := f32ToRat (r.get (Reg.FRZ_PIN_FILT))
def Regs.FRZ_TAP_WAIT (r : Regs) : Rat := f32ToRat (r.get (Reg.FRZ_TAP_WAIT))
def Regs.DEV_CFG (r : Regs) : Nat := fld (r.get (Reg.DEV_CFG)) 0 2
def Regs.DEV_REC_SEL (r : Regs) : Nat := fld (r.get (Reg.DEV_REC_SEL)) 1 13
def Regs.DEV_SMP_CFG_AX (r : Regs) : Nat := fld (r.get (Reg.DEV_SMP_CFG)) 0 6
def Regs.DEV_SMP_CFG_DECIM (r : Regs) : Nat := fld (r.get (Reg.DEV_SMP_CFG)) 8 8
def Regs.DEV_SMP_CFG_COUNT (r : Regs) : Nat := fld (r.get (Reg.DEV_SMP_CFG)) 16 7

end Sys2Proof.Machine
end

