-- ==== Sys2Proof/Machine/State.lean ====
section
/-! DEFINITION. The state of the block as plain data: every register group, queue, buffer, counter, timer,
mode and memory the spec gives the device, with its value at reset (the default of each field), the queue
of commands that wait, and the faults and refusals. Instants are ns since the state of reset (`now`) unless
a comment says TB_NOW. -/
namespace Sys2Proof.Machine

/-! ## Records (chapter 03) -/

/-- A record (R75, Table 4): its time, the source's device address and unit code, the emission count, its
type, flags and payload. -/
structure Record where
  time : Nat
  dev : Nat
  unit : Nat
  seq : Nat
  typ : Nat
  flags : Nat
  payload : List Byte
  deriving DecidableEq, Repr

/-- A record that waits for HOLD entry (R99): it has no SEQ, device address or flags of emission yet. -/
structure HeldRecord where
  time : Nat
  unit : Nat
  typ : Nat
  flags : Nat
  payload : List Byte
  deriving DecidableEq, Repr

/-- Emission of records (R75 to R78, R99). -/
structure RecSt where
  /-- emitted records that no ring has taken yet, oldest first -/
  outbox : List Record := []
  /-- records of a LOAD that wait for HOLD entry, in the order of their events -/
  held : List HeldRecord := []
  /-- emission count of each unit: unit code and next SEQ -/
  seqs : List (Nat × Nat) := []
  /-- VIOLATION records since release (`DEV_SUM_VIOL`) -/
  violations : Nat := 0
  deriving DecidableEq, Repr

/-! ## Supplies, reset, start-up (chapter 04) -/

/-- Where the start-up of the device stands: held COLD, released and waiting for the PLL, PLL locked,
failed COLD, LOAD, and running (HOLD to FREEZE). -/
inductive Phase where
  | held | released | locked | failed | loading | running
  deriving DecidableEq, Repr

/-- Supplies and reset (R82 to R86). -/
structure Power where
  phase : Phase := .held
  /-- RESET_N is low -/
  resetLow : Bool := true
  /-- VCORE, VCORE_S, VIO18, VIO33 have been above their thresholds for 2 ms -/
  supVcore : Bool := false
  supVcoreS : Bool := false
  supVio18 : Bool := false
  supVio33 : Bool := false
  /-- when a supply was last below its threshold (R82) -/
  supAt : Nat := 0
  /-- the instant from which the reset is measured (R85) -/
  rstStart : Nat := 0
  /-- the cause of the reset being held or of the last reset (Table 9): 1 power-up … 5 restart -/
  rstCause : Nat := 1
  /-- VCORE_S itself fell: the duration is unknown (R85) -/
  vcoreSFell : Bool := true
  /-- duration of the last reset in µs (`DEV_RST_DUR`) -/
  rstDur : Nat := 0
  /-- cause of the last completed reset (`DEV_RST.CAUSE`) -/
  lastCause : Nat := 0
  /-- TB_NOW and mode when the reset came (R85, R126) -/
  rstTb : Nat := 0
  rstMode : Nat := 0
  /-- the instant of the release -/
  releasedAt : Nat := 0
  /-- the REFSEL code sampled at the release, `none` before it and where the straps are invalid (R61) -/
  refsel : Option Nat := none
  /-- CFGSEL sampled at the release: the alternate copy is tried first (R86) -/
  altFirst : Bool := false
  deriving DecidableEq, Repr

/-- What of a copy is expected next. -/
inductive LoadStage where
  | header | sect | entry | crc | passed
  deriving DecidableEq, Repr

/-- A failure of a copy (R555, R556): reason, section and entry index, address and value. -/
structure LoadFail where
  code : Nat
  sect : Option Nat
  entry : Option Nat
  addr : Option Nat
  value : Nat
  deriving DecidableEq, Repr

/-- One entry of the shadow: address, value, and the section and entry that set it (R556). -/
structure ShadowWord where
  addr : Nat
  value : Word
  sect : Nat
  entry : Nat
  deriving DecidableEq, Repr

/-- The load of an image copy (R94) and the load status registers (Table 10). -/
structure LoadSt where
  stage : LoadStage := .header
  /-- the copy being read: false primary, true alternate -/
  alt : Bool := false
  /-- the copy being read is the one tried second -/
  second : Bool := false
  imgLen : Nat := 0
  nsect : Nat := 0
  /-- how the rest of the copy is read: RDMODE, RDDIV and RDDUMMY of its header (R90) -/
  rdMode : Nat := 0
  rdDiv : Nat := 50
  rdDummy : Nat := 0
  buildId : Nat := 0
  safSig : Word := 0
  /-- bytes of the copy read so far -/
  pos : Nat := 0
  sectIx : Nat := 0
  sectId : Nat := 0
  count : Nat := 0
  entryIx : Nat := 0
  /-- the running CRC of the section -/
  crc : Word := 0
  /-- a reserved byte of the section is not zero -/
  reservedBad : Bool := false
  /-- the first failing entry of the section -/
  entryFail : Option LoadFail := none
  /-- section identifiers read so far -/
  seen : List Nat := []
  shadow : List ShadowWord := []
  /-- failures of the copy tried first and of the copy tried second -/
  fail1 : Option LoadFail := none
  fail2 : Option LoadFail := none
  /-- LOAD has ended since the release (R556) -/
  ended : Bool := false
  /-- BUILD_ID and IMGLEN of the copy in force -/
  inForceBuild : Nat := 0
  inForceLen : Nat := 0
  /-- the safety signature in force (R359) -/
  inForceSig : Word := 0
  deriving DecidableEq, Repr

/-- The keep-store (R97, R98): its bytes by offset, the unlisted ones 0 (log 6), and the entry counts
since manufacture. -/
structure KeepSt where
  cells : List Host.Cell := []
  rstNum : Nat := 0
  coldNum : Nat := 0
  /-- entries found absent since release (`DEV_KS_PAIRF`) -/
  pairFaults : Nat := 0
  deriving DecidableEq, Repr

/-! ## Time base (chapter 03) -/

/-- The time base (R63 to R80, Table 10). -/
structure TimeBase where
  lock : Bool := false
  holdover : Bool := false
  /-- when the holdover began, and the last loss of REFCLK since -/
  holdSince : Nat := 0
  lossAt : Nat := 0
  /-- TB_NOW has been loaded from the root (R66) -/
  loaded : Bool := false
  synced : Bool := false
  /-- synchronisation has been lost (R79), and since when -/
  syncLost : Bool := false
  lostSince : Nat := 0
  /-- hops to the root, `none` when not synchronised -/
  hops : Option Nat := none
  /-- frequency trim in force, in 0.01 ppm -/
  trim : Int := 0
  /-- last measured offset to the parent, ns -/
  offset : Int := 0
  /-- calibration faults of the eleven edge placement units (R71) -/
  calFail : BitVec 11 := 0
  /-- the modulator clocks run (R72) -/
  mclkRun : Bool := false
  /-- upper words latched by reads of `TB_NOW_LO`, per port (R68) -/
  hiLatch : List (Origin × Word) := []
  deriving DecidableEq, Repr

/-! ## Device mode (chapter 05) -/

/-- The eight device modes (R108). -/
inductive Mode where
  | cold | load | hold | drive | limp | brake | safe | freeze
  deriving DecidableEq, Repr

/-- An accepted drive request that waits for its boundary (R113). -/
structure DrivePending where
  /-- 0 CPA, 1 CPB -/
  port : Nat
  /-- the instant of acceptance -/
  at' : Nat
  /-- the work of its tick has tested the blocking conditions -/
  tested : Bool
  deriving DecidableEq, Repr

/-- The device mode (R108 to R124, Table 10). -/
structure ModeSt where
  mode : Mode := .cold
  prev : Mode := .cold
  cause : Nat := 0
  /-- TB_NOW of the last change -/
  time : Nat := 0
  /-- `DEV_MODE_BLOCK` -/
  block : BitVec 8 := 0
  /-- stop causes that hold, by their bit (Table 5); bits 1 and 2 are kept by the tick's work -/
  stop : BitVec 7 := 0
  /-- the bits of `DEV_STOPCAUSE` and of `DEV_DEGR` that are set, in the order in which they arose -/
  stopSeen : List Nat := []
  degrSeen : List Nat := []
  drivePending : Option DrivePending := none
  /-- a LIMP acknowledge that waits for the next boundary: its port -/
  limpAck : Option Nat := none
  /-- BRAKE has been entered, at this instant (R120) -/
  brakeAt : Nat := 0
  /-- the BRAKE timeout has expired since the entry -/
  brakeTmo : Bool := false
  deriving DecidableEq, Repr

/-! ## Staging bank and COMMIT (chapter 04) -/

/-- An accepted COMMIT (R103): tag, port, TB_NOW of acceptance, and the verdict of its validation. -/
structure CommitPending where
  tag : Half
  port : Nat
  at' : Nat
  /-- `none`: not validated yet; `some none`: passed; `some (code, address)`: failed -/
  verdict : Option (Option (Nat × Nat))
  deriving DecidableEq, Repr

/-- The staging bank and the last concluded COMMIT (R101 to R107, Table 12). -/
structure Staging where
  /-- staged words in the order of their first write -/
  bank : List (Nat × Word) := []
  commit : Option CommitPending := none
  resTag : Half := 0
  result : Nat := 0
  resCode : Nat := 0
  resAddr : Option Nat := some 0
  resTime : Nat := 0
  /-- `DEV_STG_IDX` of each port -/
  index : List (Origin × Nat) := []
  /-- pending values of paired registers, per port: address and value (R20) -/
  pairs : List (Origin × Nat × Word) := []
  /-- paired registers, by the address of their value word, that a read has found not to complement: the pair faults raised on their blocks (R23) -/
  pairFault : List Nat := []
  deriving DecidableEq, Repr

/-! ## Outer tick, domain monitor (chapter 02) -/

/-- The outer tick and the domain monitor (R46, R57, R58, R67, Table 3). -/
structure TickSt where
  /-- ticks since the release: the number of the tick now running -/
  number : Nat := 0
  /-- TB_NOW of the boundary that began the tick now running -/
  began : Nat := 0
  /-- its work is done -/
  workDone : Bool := true
  /-- ticks whose work is overdue, oldest first: the boundary missed, and the count of consecutive overruns (R57) -/
  overdue : List (Nat × Nat) := []
  /-- when the work under way began -/
  workBegan : Nat := 0
  /-- the references of the present tick were withheld (an overrun) -/
  withheld : Bool := false
  last : Rat := 0
  max : Rat := 0
  ovrCnt : Nat := 0
  consec : Nat := 0
  /-- the stop cause of four overruns was set in HOLD (R58) -/
  setInHold : Bool := false
  /-- local supply and temperature of the seven domains -/
  volt : Vector Rat 7 := Vector.replicate 7 0
  temp : Vector Rat 7 := Vector.replicate 7 0
  /-- for each of the nine pairs of domains: above a warning level; warned since it was last below both;
  consecutive ticks above a limit; above a limit now -/
  warn : Vector Bool 9 := Vector.replicate 9 false
  warned : Vector Bool 9 := Vector.replicate 9 false
  limCount : Vector Nat 9 := Vector.replicate 9 0
  limit : Vector Bool 9 := Vector.replicate 9 false
  /-- the boundary of the reading that completed ten ticks above a limit, and that its limit record is written -/
  limAt : Vector Nat 9 := Vector.replicate 9 0
  limNoted : Vector Bool 9 := Vector.replicate 9 false
  /-- the skew hold-off: of each pair whose limit record is written, since when the pair has been below both limits; of the device
  (R46) -/
  held : Vector Bool 9 := Vector.replicate 9 false
  belowSince : Vector (Option Nat) 9 := Vector.replicate 9 none
  holdoff : Bool := false
  deriving DecidableEq, Repr

/-- A main-axis or auxiliary-axis update between its sample instant and its edge-update instant. -/
structure Upd where
  /-- sample instant, TB_NOW -/
  sample : Nat
  /-- edge-update instant, TB_NOW -/
  edge : Nat
  /-- the engine has started it -/
  started : Bool
  /-- TB_NOW at which its edge set was posted -/
  posted : Option Nat
  /-- mechanical angle and speed of the bound position interface at the sample instant; of an auxiliary axis the commanded speed -/
  pos : Word
  spd : Rat
  /-- what is in force at the sample instant (R30, R32, R210, R257): the register words, the references T*, id_sup and n_ref, and
  the limits by foldback and by the fallback factor -/
  regs : Regs := {}
  refT : Rat := 0
  refId : Rat := 0
  refN : Rat := 0
  fold : Bool := false
  limp : Bool := false
  /-- the length of the half-period that ends at the sample instant, s: the samples of the update are taken in it (R178) -/
  half : Rat := 0
  /-- winding voltages A1, A2, B1, B2 of an auxiliary axis at the valley (R297) -/
  wind : Vector Rat 4 := Vector.replicate 4 0
  deriving DecidableEq, Repr

/-- The latency sentinel of an axis (R49 to R56, Table 6). -/
structure Sentinel where
  slack : Bool := false
  hold : Bool := false
  consec : Nat := 0
  halved : Bool := false
  clearOk : Bool := false
  /-- slack of the last update, ns -/
  last : Int := 0
  /-- smallest slack since cleared, ns; `none` reads as the update interval -/
  least : Option Int := none
  slackCnt : Nat := 0
  lateCnt : Nat := 0
  /-- the open SLACK window: TB_NOW of its first SLACK update, count, smallest slack -/
  window : Option (Nat × Nat × Int) := none
  /-- updates in progress, oldest first -/
  upds : List Upd := []
  /-- the missed updates whose late result is still to complete: edge-update instant, consecutive count.
  An update that was never started leaves none (R51) -/
  late : List (Nat × Nat) := []
  /-- the LATE reaction selected and waiting: 1 halved PWM, 2 ramp stop, 3 bridge off -/
  react : Nat := 0
  /-- since when the clearance conditions of R55 have held, and the largest filter delay plus compute, ns -/
  clearSince : Option Nat := none
  clearMax : Nat := 0
  /-- PWM frequency in force, Hz, and the frequency to be taken at the next carrier valley -/
  freq : Rat := 0
  freqNext : Option Rat := none
  deriving DecidableEq, Repr


/-! ## Records in a run (R389) -/

/-- A run of one kind of event: open; when its last record was written and its last event fell, on the clock that no load of TB_NOW moves; the
stamp of the first event after that record and how many there were. -/
structure Run where
  isOpen : Bool := false
  lastRec : Nat := 0
  lastEv : Nat := 0
  first : Option Nat := none
  count : Nat := 0
  deriving DecidableEq, Repr


/-! ## Control ports, entries and the token (chapter 15) -/

/-- The answer to one entry (Table 4 of the control-port chapter): STATUS, DETAIL, INDEX and the data. -/
structure Reply where
  status : Nat
  detail : Nat := 0
  index : Nat := 0
  data : List Byte := []
  deriving DecidableEq, Repr

/-- Where an entry comes from: its origin, operation, TAG, SEQ and instant of origin (TB_NOW), and the
unit that records its violations (R404, R415). -/
structure Ctx where
  o : Origin
  op : Nat
  tag : Nat
  seq : Nat
  stamp : Nat
  unit : Nat
  deriving DecidableEq, Repr

/-- An answer to an entry that came alone, outside a frame. -/
structure Answer where
  o : Origin
  op : Nat
  reply : Reply
  deriving DecidableEq, Repr

/-- Where the answer of a token request goes: an entry alone, or the frame whose execution waits for it. -/
inductive TokenFor where
  | entry
  | frame (id : Nat)
  deriving DecidableEq, Repr

/-- A token request or take that waits for its decision (R407, R409). -/
structure TokenReq where
  ctx : Ctx
  take : Bool
  dest : TokenFor
  deriving DecidableEq, Repr

/-- The control token (R406 to R412). -/
structure Token where
  holder : Option Origin := none
  /-- TB_NOW of the last renewal of the lease -/
  renewed : Nat := 0
  /-- the port named for the next tie: false A, true B -/
  tieB : Bool := false
  waiting : List TokenReq := []
  grants : Nat := 0
  expiries : Nat := 0
  /-- when an origin last lost the token, TB_NOW (R414) -/
  lost : List (Origin × Nat) := []
  deriving DecidableEq, Repr

/-- One entry of a request frame: operation, arguments, and whether its header is well formed. -/
structure Entry where
  op : Nat
  args : List Byte
  deriving DecidableEq, Repr

/-- A frame that is being executed, that waits for a token decision, or that waits behind such a frame of its own origin (R400):
where its reply goes and whether it is still wanted, the level of MAINT_EN when it came, the entries still to be done and the
reply entries so far (operation and reply). -/
structure FrameExec where
  id : Nat
  via : Via
  ctx : Ctx
  rest : List Entry
  done : List (Nat × Reply)
  /-- bytes of the reply body that the entries so far reserve (R399) -/
  used : Nat
  maint : Bool
  wanted : Bool
  /-- it is a command of one entry, whose answer stands among the answers -/
  alone : Bool := false
  deriving DecidableEq, Repr

/-- A frame queued for a port (R396): is it an event, and its bytes. -/
structure OutFrame where
  event : Bool
  bytes : List Byte
  deriving DecidableEq, Repr

/-- A request sent on to another device and not yet answered, with its bytes (R403). -/
structure Forward where
  port : Fin 3
  tag : Nat
  seq : Nat
  dest : Nat
  sentAt : Nat
  frame : List Byte
  deriving DecidableEq, Repr

/-- A frame on the transmit line of the maintenance port: the instant of its first start bit, the rate, and its characters with the two before
the frame (R397). -/
structure MntTx where
  at' : Nat
  baud : Rat
  chars : List Byte
  deriving DecidableEq, Repr

/-- One of the three local ports (R395 to R402, Table 9). -/
structure PortSt where
  /-- the data-strobe exchange is in Run, or the port's form needs none -/
  up : Bool := false
  /-- the SEQ of the last request, `none` where any SEQ is taken (R401) -/
  seqRef : Option Nat := none
  /-- the reply of the last request, `none` while it is outstanding -/
  cached : Option (List Byte) := none
  /-- requests received and not yet answered (R402) -/
  inFlight : Nat := 0
  rx : Nat := 0
  viol : Nat := 0
  malf : Nat := 0
  /-- frames that wait to be read from an SPI-form port, and frames that have left the port, oldest first -/
  queue : List OutFrame := []
  sent : List (List Byte) := []
  /-- what has been put on the line of the maintenance port -/
  line : List MntTx := []
  /-- the device's event count for the port -/
  evSeq : Nat := 0
  deriving DecidableEq, Repr

/-- The image session (R92, R418): state 0 idle, 1 erasing, 2 open, 3 finishing; result as in Table 9. -/
structure ImgSession where
  state : Nat := 0
  result : Nat := 0
  owner : Option Origin := none
  bytes : Nat := 0
  /-- TB_NOW of the last IMAGE entry of the owner -/
  lastAt : Nat := 0
  deriving DecidableEq, Repr

/-- A command by which the device writes the image memory, the only four it uses (R91): write enable (0x06), read status (0x05), erase of
the 4 KiB sector at an address (0x20), program of up to 256 bytes of one page from an address (0x02). -/
inductive FlashCmd where
  | writeEnable
  | readStatus
  | sectorErase (addr : Nat)
  | pageProgram (addr : Nat) (bytes : List Byte)
  deriving DecidableEq, Repr

/-- Control ports and the token. -/
structure CpSt where
  ports : Vector PortSt 3 := Vector.replicate 3 {}
  token : Token := {}
  suspended : List FrameExec := []
  nextId : Nat := 0
  forwards : List Forward := []
  /-- stamps of the violations that count, per origin (R416) -/
  viols : List (Origin × Nat) := []
  /-- origins in quarantine and the instant it ends -/
  quar : List (Origin × Nat) := []
  image : ImgSession := {}
  /-- the commands that have gone to the image memory to write it, oldest first -/
  flash : List FlashCmd := []
  /-- answers to entries that came alone, oldest first -/
  answers : List Answer := []
  deriving DecidableEq, Repr


/-! ## Fabric (chapter 14) -/

/-- The states of a link (Table 2). -/
inductive LinkState where
  | off | start | hello | active | parked | down
  deriving DecidableEq, Repr

/-- What the last HELLO of a partner said (R373). -/
structure Partner where
  id : Nat
  link : Nat
  topo : Nat
  addr : Option Nat
  /-- hops to the root, 15 where it is not synchronised -/
  hops : Nat
  root : Bool
  excess : Bool
  ver : Nat
  deriving DecidableEq, Repr

/-- A packet that waits at a link input for its outgoing link: when it arrived, its bytes from ROUTE to the CRC, the
links it must still leave on, and whether it ended with EEP (R372, R389). -/
structure WaitPkt where
  at' : Nat
  bytes : List Byte
  links : List Nat
  eep : Bool := false
  deriving DecidableEq, Repr

/-- A link (R363 to R372, R389, Table 13). -/
structure LinkSt where
  state : LinkState := .off
  /-- park reason, as the detail of LINK_PARKED; 0 none -/
  park : Nat := 0
  partner : Option Partner := none
  /-- measured rates, bit/s -/
  rateTx : Rat := 0
  rateRx : Rat := 0
  exch : Nat := 0
  bad : Nat := 0
  /-- time-codes received -/
  tc : Nat := 0
  downs : Nat := 0
  /-- instants of exchange errors and of bad packets of the last second: like all that a link measures a time from, on the clock that no load
  of TB_NOW moves -/
  errAt : List Nat := []
  badAt : List Nat := []
  /-- instants of Run, of the last HELLO received and sent, and of the entries into ACTIVE and DOWN -/
  runAt : Nat := 0
  helloRx : Nat := 0
  helloTx : Nat := 0
  upAt : Nat := 0
  downAt : Nat := 0
  /-- instant of the last SYNC_REQ of the partner since the link started -/
  reqAt : Option Nat := none
  /-- the runs of LINK_ERR records by kind 1 to 6 -/
  runs : Vector Run 7 := Vector.replicate 7 {}
  /-- delays of the last 64 exchanges of synchronisation, ns, newest first -/
  delays : List Rat := []
  /-- departure stamp of an exchange that is under way, and the millisecond of the last one started -/
  t1 : Option Nat := none
  reqMs : Option Nat := none
  urgIn : Option WaitPkt := none
  bulkIn : Option WaitPkt := none
  /-- the segments of a bulk packet so far, and the stamp of its first one -/
  bulkRx : Option (List Byte) := none
  bulkAt : Nat := 0
  deriving DecidableEq, Repr

/-- A packet of the standard sent on a link: the link, its lane, its bytes, whether it ends with EEP, and the instants of its first character
and after its last. -/
structure OutPkt where
  link : Nat
  bulk : Bool
  bytes : List Byte
  eep : Bool := false
  at' : Nat := 0
  till : Nat := 0
  deriving DecidableEq, Repr

/-- The fabric (R374 to R393, Table 12). -/
structure FabSt where
  /-- fabric address held (R77) -/
  addr : Option Nat := none
  /-- this device has been refused an address (R378) -/
  excess : Bool := false
  links : Vector LinkSt 6 := Vector.replicate 6 {}
  /-- the root's registry: identity and address -/
  registry : List (Nat × Nat) := []
  /-- the wiring the root knows: identity and the partner identities of its six links, 0 for none -/
  wiring : List (Nat × List Nat) := []
  /-- last refused identity at the root -/
  excessId : Nat := 0
  /-- JOINs relayed and not yet answered: identity and the link it came on -/
  relays : List (Nat × Nat) := []
  /-- instant of the last JOIN sent without an address -/
  joinAt : Option Nat := none
  /-- an addressed device owes the root a JOIN with its changed partners -/
  joinDue : Bool := false
  /-- the identity of the root, once it has been a partner -/
  ownRoot : Option Nat := none
  /-- the route table in force and its version -/
  routes : Vector Nat 64 := Vector.replicate 64 7
  tblVer : Nat := 0
  /-- the route tables that have arrived and are not in force, with their versions -/
  tblNext : List (Nat × List Nat) := []
  /-- the ROUTES_APPLY that wait: instant and version; those ignored -/
  applyAt : List (Nat × Nat) := []
  applyIgnored : Nat := 0
  /-- next SEQ per packet TYPE -/
  seqs : List (Nat × Nat) := []
  /-- broadcasts delivered: source, TYPE and SEQ -/
  seen : List (Nat × Nat × Nat) := []
  discHops : Nat := 0
  discUnreach : Nat := 0
  discWait : Nat := 0
  /-- instant of the last FAB_DISCARD record per cause 1 to 3 -/
  discAt : Vector (Option Nat) 4 := Vector.replicate 4 none
  /-- packets sent, oldest first -/
  out : List OutPkt := []
  /-- since when no enabled link is working -/
  noLink : Option Nat := none
  /-- offsets of the last 16 exchanges with a synchronised parent, newest first -/
  offs : List Rat := []
  /-- instant of the last completed exchange with the parent -/
  lastEx : Nat := 0
  /-- since when the trim stands at a limit -/
  trimLim : Option Nat := none
  /-- the first offset measured after a loss of synchronisation -/
  lossOff : Option Int := none
  deriving DecidableEq, Repr


/-! ## Sensing (chapter 07) -/

/-- One sigma-delta channel (R170 to R176, Table 7). -/
structure SdiSt where
  /-- last control-filter value -/
  val : Rat := 0
  /-- zero offset in force, and the one accepted for the next READY to CATCH -/
  zero : Rat := 0
  zeroNext : Option Rat := none
  stuck : Bool := false
  /-- TB_NOW at which the last run of 64 was completed, its level, and the sample instant of the first span after it whose value shows
  another level in it -/
  stuckAt : Nat := 0
  stuckLevel : Bool := false
  runEnd : Option Nat := none
  zeroFail : Bool := false
  oc : Bool := false
  /-- consecutive fast-filter outputs above the limit, and the last output -/
  fastCnt : Nat := 0
  fastLast : Rat := 0
  /-- the sampling edge of the output that completed the last count (R174) -/
  ocAt : Nat := 0
  deriving DecidableEq, Repr

/-- A usable DC-link return sample of an update: the phase seen, its sign (true for +), the current, and the
hold instant, TB_NOW (R177, R182, Table 2). -/
structure DcsSample where
  phase : Fin 3
  plus : Bool
  amps : Rat
  heldAt : Nat
  deriving DecidableEq, Repr

/-- What a declaration of an SDI channel or DC-link return path fault changed that was made within an update: its sample instant, what was
declared, and what stood before (R187, R191). -/
structure DeclUndo where
  at' : Nat
  sdi : Bool
  fbSdi : BitVec 3
  fbDcs : Bool
  limp : Bool
  limpNext : Bool
  deriving DecidableEq, Repr

/-- What an update found the two measurements to be (R185). -/
inductive Verdict where
  | agree
  | sdi (p : Fin 3)
  | ambig
  | dcs
  deriving DecidableEq, Repr

/-- Reconstruction and cross-check of a main axis (R177 to R191, Tables 8 and 9). -/
structure SnsAx where
  /-- sample instant of the last update posted in time -/
  at' : Nat := 0
  dcsVal : Rat := 0
  dcsZero : Rat := 0
  dcsZeroNext : Option Rat := none
  dcsZeroFail : Bool := false
  dcsConvFail : Bool := false
  /-- the DCS conversion that runs: its hold instant, and the phase and sign of its window -/
  hold : Option (Nat × Fin 3 × Bool) := none
  /-- usable samples since the last update, oldest first -/
  samples : List DcsSample := []
  /-- rejected samples in a row (R186), and the hold instants of those rejected since the last update (R179) -/
  rejects : Nat := 0
  rejectAt : List Nat := []
  /-- declared faults: SDI phases U, V, W; DC-link return path; position -/
  fSdi : BitVec 3 := 0
  /-- TIME of the SDI_FAULT record, which a SENSE_LOST of its own takes over (R202) -/
  sdiAt : Nat := 0
  fDcs : Bool := false
  fEnc : Bool := false
  /-- faults whose fallback is in use; it outlasts the declared fault until the return of R190 -/
  fbSdi : BitVec 3 := 0
  fbDcs : Bool := false
  fbEnc : Bool := false
  /-- the current-limit factor of R187 is in force, and the boundary at which it comes into force waits -/
  limp : Bool := false
  limpNext : Bool := false
  /-- the verdict of the last compared update, and on how many consecutive ones it stands -/
  verdict : Verdict := .agree
  vcnt : Nat := 0
  predRun : Nat := 0
  predNoted : Bool := false
  shiftCnt : Nat := 0
  predCnt : Nat := 0
  /-- consecutive updates with the disagreements of the fallback cases of R189 -/
  fbCnt : Nat := 0
  sumCnt : Nat := 0
  /-- the update whose SENSE_LOST has been recorded, by its sample instant -/
  lostAt : Option Nat := none
  /-- declarations made in updates that are not yet over, the last one first (R191) -/
  undo : List DeclUndo := []
  /-- largest disagreement of the last compared update, A -/
  maxDis : Rat := 0
  /-- source in use by the last update: 0 none, 1 SDI with cross-check, 2 SDI only, 3 reconstruction only -/
  use : Nat := 0
  /-- reconstructed phase currents of the last update -/
  recon : Vector Rat 3 := Vector.replicate 3 0
  /-- for SDI, DCS and position: compared updates that agreed since the fault, and TB_NOW since which the
  checks of R190 have been clean -/
  agree : Vector Nat 3 := Vector.replicate 3 0
  clean : Vector Nat 3 := Vector.replicate 3 0
  /-- TB_NOW since which encoder and observer have differed by more than 30° (R201) -/
  encDiff : Option Nat := none
  deriving DecidableEq, Repr

/-- One general analog input (R192 to R195, Table 11). -/
structure AinSt where
  /-- last value in its unit, and last input voltage -/
  val : Rat := 0
  volts : Rat := 0
  /-- hold instant of the conversion that runs -/
  hold : Option Nat := none
  /-- hold instant of the last conversion -/
  heldAt : Nat := 0
  range : Bool := false
  above : Bool := false
  /-- hold instant and input voltage of the conversion that set RANGE -/
  rangeAt : Nat := 0
  rangeVolts : Rat := 0
  outCnt : Nat := 0
  inCnt : Nat := 0
  /-- it has delivered a valid conversion, and the latest valid value (R226) -/
  valid : Bool := false
  lastValid : Rat := 0
  deriving DecidableEq, Repr

/-- One position interface (R196 to R201, Table 10). -/
structure EncSt where
  pos : Word := 0
  turns : Int := 0
  speed : Rat := 0
  /-- filtered levels -/
  a : Bool := false
  b : Bool := false
  z : Bool := false
  /-- edges counted, and TB_NOW of the last one -/
  count : Int := 0
  edgeAt : Nat := 0
  /-- count and edge stamp seen at the most recent capture -/
  capCount : Int := 0
  capEdge : Nat := 0
  /-- direction of the last count: true up -/
  up : Bool := true
  /-- count and direction at the last rising Z edge, and consecutive turns with a wrong count -/
  zRef : Option (Int × Bool) := none
  zBad : Nat := 0
  /-- TB_NOW of the illegal transitions of the last 1 s -/
  illAt : List Nat := []
  illTotal : Nat := 0
  discTotal : Nat := 0
  /-- discarded transfers in a row -/
  discRow : Nat := 0
  /-- the transfer that runs: its latch edge, and the instant at which its recovery ends -/
  xfer : Option Nat := none
  recovered : Nat := 0
  /-- latch edge of the last good transfer -/
  goodAt : Option Nat := none
  illegal : Bool := false
  index : Bool := false
  serial : Bool := false
  observer : Bool := false
  fault : Bool := false
  deriving DecidableEq, Repr

/-- Sensing. -/
structure SnsSt where
  sdi : Vector SdiSt 32 := Vector.replicate 32 {}
  ax : Vector SnsAx 6 := Vector.replicate 6 {}
  ain : Vector AinSt 32 := Vector.replicate 32 {}
  enc : Vector EncSt 6 := Vector.replicate 6 {}
  /-- the scan input that converters A and B held last (R193) -/
  scanLast : Vector Nat 2 := #v[15, 31]
  deriving DecidableEq, Repr


/-! ## Main axes: engine and field control (chapter 08) -/

/-- Axis states, coded as in the last-state record (R125). -/
inductive AxState where
  | off | ready | catching | run | stop | asc | halt
  deriving DecidableEq, Repr

/-- What the bridge of an axis is commanded to do: every switch off, soft turn-off, modulation, every switch
off before an ASC, all low sides on, all high sides on. -/
inductive Bridge where
  | off | soft | modulate | ascWait | ascLow | ascHigh
  deriving DecidableEq, Repr

/-- The angle source (R217). -/
inductive AngSrc where
  | none | encoder | observer | ifr
  deriving DecidableEq, Repr

/-- The phases of I-f (R220, R221). -/
inductive IfPhase where
  | none | align | ramp | blend
  deriving DecidableEq, Repr

/-- A window of a posted half-period: its hold instant, in s after the start of the set, the phase and the
sign seen; `none` where the sample is skipped (R178, R180). -/
abbrev Window := Option (Rat × Fin 3 × Bool)

/-- An edge set (R180, R205, R212): what it commands, the duties of U, V, W, for each half-period it covers the
command edge of each leg in s from the start of the half, and its windows. -/
structure EdgeSet where
  bridge : Bridge := .off
  duty : Vector Rat 3 := Vector.replicate 3 0
  /-- in its first half the high sides turn on -/
  rising : Bool := true
  edges : List (Vector Rat 3) := []
  windows : List Window := []
  /-- the voltage it applies, stationary frame -/
  vA : Rat := 0
  vB : Rat := 0
  /-- the carrier frequency that it is planned for, Hz (R205), and the correction that its plan has taken out (R181) -/
  freq : Rat := 0
  carry : Vector Rat 3 := Vector.replicate 3 0
  /-- the dead times before the turn-on of a high side and of a low side, s, with which it was computed (R32, R135) -/
  rise : Rat := 0
  fall : Rat := 0
  deriving DecidableEq, Repr

/-- The state an engine commits with a result that is posted in time, and drops with a late one (R50). -/
structure Eng where
  /-- integrators of the current loop, V, and of field weakening, A (R208, R216) -/
  intD : Rat := 0
  intQ : Rat := 0
  idFw : Rat := 0
  /-- magnitude of the previous update's voltage before the limiter -/
  vPrev : Rat := 0
  /-- observer and PLL (R219): extended back-EMF, integrator, speed, rad/s, angle, turns, error -/
  eA : Rat := 0
  eB : Rat := 0
  wI : Rat := 0
  w : Rat := 0
  th : Rat := 0
  eps : Rat := 0
  psiEst : Rat := 0
  /-- currents of the previous update, stationary frame -/
  iA : Rat := 0
  iB : Rat := 0
  /-- outputs of the last update -/
  iD : Rat := 0
  iQ : Rat := 0
  idRef : Rat := 0
  iqRef : Rat := 0
  vD : Rat := 0
  vQ : Rat := 0
  modM : Rat := 0
  fw : Bool := false
  ovm : Bool := false
  vlim : Bool := false
  angSrc : AngSrc := .none
  angle : Word := 0
  speed : Rat := 0
  /-- |n̂| has reached 1.5 NMIN and stayed at or above NMIN since (Table 4) -/
  obsOk : Bool := false
  /-- I-f: its phase, frame speed in rpm, frame angle in turns, start of the phase (TB_NOW), and the angle
  difference in turns at the start of the blend -/
  ifPhase : IfPhase := .none
  ifSpeed : Rat := 0
  ifAngle : Rat := 0
  ifAt : Nat := 0
  ifDiff : Rat := 0
  /-- timers of the loss criteria, s, and the speeds of the last LOS_T with their sample instants (R232) -/
  t1 : Rat := 0
  t2 : Rat := 0
  speeds : List (Nat × Rat) := []
  c3 : Bool := false
  /-- volt-seconds that shifts left to correct, per leg (R181) -/
  carry : Vector Rat 3 := Vector.replicate 3 0
  /-- TB_NOW since which |ε| has been below the bound of zero-current CATCH (R222) -/
  settled : Option Nat := none
  /-- TB_NOW since which the conditions of re-acquisition have held (R228) -/
  locked : Option Nat := none
  deriving DecidableEq, Repr

/-- The result of an update that is not yet posted: the state to commit, its edge set, the sensing state it
would leave, and what it would bring about. -/
structure EngResult where
  sample : Nat
  eng : Eng
  set : EdgeSet
  sns : SnsAx
  /-- squares of the current for the thermal model and the torque of the estimate (R256, R259) -/
  isq : Rat
  torque : Rat
  /-- a change of angle source: 1 to the observer, 2 to I-f, and the angle difference (R220, R221) -/
  handover : Option (Nat × Word)
  /-- the voltage limit was reached above CATCH_IMAX (R225) -/
  zcAsc : Bool
  deriving DecidableEq, Repr

/-- The update that the engine has begun, until its edge-update instant: its filter outputs, and the engine and the sensing state
that it began with. A channel fault that is declared in it runs it again on reconstruction (R187). -/
structure LoopRun where
  upd : Upd
  y : Vector Rat 3
  eng : Eng
  sns : SnsAx
  deriving DecidableEq, Repr

/-- Why an axis is in STOP (R243, R263). -/
inductive StopKind where
  | command | brake | ss1 | fault (reason : Nat) (late : Bool)
  deriving DecidableEq, Repr

/-- An ASC in progress (R157, R226 to R231). -/
structure AscSt where
  cause : Nat := 0
  /-- TB_NOW at which every switch turned off, at which those of one side turn on together, at which they first did, and at which
  the state was entered -/
  offAt : Nat := 0
  onAt : Nat := 0
  first : Option Nat := none
  since : Nat := 0
  high : Bool := false
  /-- it follows a single-leg short (R150) -/
  follow : Bool := false
  /-- the state it came from -/
  from' : AxState := .off
  /-- TB_NOW since which the speed has been below 0.8 n_ASC (R229) -/
  below : Option Nat := none
  /-- end of a blind hold, TB_NOW (R230) -/
  blindEnd : Option Nat := none
  /-- largest current magnitude, `none` when unknown -/
  peak : Option Rat := some 0
  /-- a COAST_ASC record is due at the turn-on: its detail and decision speed (R271, R272) -/
  coast : Option (Nat × Rat) := none
  /-- a change of side waits for its turn-on and its ASC_SIDE record: the lowest high-side supply, mV (R158) -/
  side : Option Nat := none
  /-- re-acquired: every switch is off, and modulation resumes at this instant (R157, R228) -/
  resume : Option Nat := none
  /-- the stop that a CATCH it came from was to take over into (R119, R225) -/
  stop : Option StopKind := none
  deriving DecidableEq, Repr

/-- A CATCH in progress (R222 to R225). -/
structure CatchSt where
  since : Nat := 0
  attempt : Nat := 1
  /-- the measurement is waiting for its repetition since this instant (R224) -/
  retryAt : Option Nat := none
  /-- the decision has been made -/
  decided : Bool := false
  method : Nat := 0
  /-- it follows a blind ASC hold (R230) -/
  blind : Bool := false
  /-- the speed of the PLL has stayed below NMIN in magnitude (R222) -/
  slow : Bool := true
  /-- it follows a coast after a loss of synchronism, which began at this instant (R233) -/
  coast : Option Nat := none
  /-- the axis is to enter STOP when it takes over: a stop was ordered during the measurement, or the state it came
  from was STOP (R119, R233) -/
  stop : Option StopKind := none
  /-- it is to take over into RUN at the next edge-update instant -/
  takeOver : Bool := false
  deriving DecidableEq, Repr

/-- The back-EMF vector that the terminal voltages show while the bridge is off (R222): TB_NOW since which its amplitude has been at
VMIN or more, or below it, the first conversion, and the angles of the last 5 ms, in turns and without wrap, the latest first. -/
structure VtMeas where
  first : Option Nat := none
  hi : Option Nat := none
  lo : Option Nat := none
  pts : List (Nat × Rat) := []
  deriving DecidableEq, Repr

/-- The field control of a main axis. -/
structure AxSt where
  state : AxState := .off
  haltReason : Nat := 0
  bridge : Bridge := .off
  set : EdgeSet := {}
  /-- TB_NOW from which the set is in force -/
  setAt : Nat := 0
  /-- the command of each leg when the set came into force: high side on, and TB_NOW of that turn-on, ns (R135, R146) -/
  was : Vector (Bool × Rat) 3 := Vector.replicate 3 (false, 0)
  /-- the voltage of the set that was in force before it -/
  lastVA : Rat := 0
  lastVB : Rat := 0
  /-- a set that waits for its edge-update instant -/
  posted : Option EdgeSet := none
  eng : Eng := {}
  result : Option EngResult := none
  /-- sample instant of the last update that was posted -/
  updAt : Nat := 0
  run : Option LoopRun := none
  ascSt : AscSt := {}
  ascFault : Bool := false
  blind : Bool := false
  /-- peak of the last ASC: `none` when unknown -/
  ipk : Option Rat := some 0
  cat : CatchSt := {}
  stopKind : StopKind := .command
  /-- TB_NOW of STOP entry, and since which the axis has been below SPD_STILL -/
  stopAt : Nat := 0
  /-- the fault of a stop under BRAKE gives its HALT reason and nothing else: no stop timeout runs for it (R56) -/
  stopFree : Bool := false
  still : Option Nat := none
  /-- TB_NOW of the losses of synchronism of the last 10 s -/
  losAt : List Nat := []
  /-- the carrier: a valley of the period in force (R205) -/
  valley : Nat := 0
  /-- a start waits for the high-side supplies or for the end of a self-test, since this instant -/
  startWait : Option Nat := none
  /-- references handed over by the supervisor (R30): T*, id_sup, n_ref -/
  refT : Rat := 0
  refId : Rat := 0
  refN : Rat := 0
  /-- thermal model and load estimate: sums and count of the updates posted since the work of a tick last began, the count of those
  missed, and the means that this work uses (R256, R259) -/
  sumSq : Rat := 0
  sumTq : Rat := 0
  sumN : Nat := 0
  sumMiss : Nat := 0
  meanSq : Rat := 0
  meanTq : Rat := 0
  /-- TB_NOW since which each terminal voltage has stayed below 1.0 V peak (R164), and the measurement on them (R222, R272) -/
  quietSince : Option Nat := none
  vt : VtMeas := {}
  deriving DecidableEq, Repr

/-- A sample block that is being filled (R522). -/
structure SampleBlock where
  first : Nat
  interval : Nat
  count : Nat
  bytes : List Byte
  deriving DecidableEq, Repr


/-! ## Gate drive (chapter 06) -/

/-- Protection and high-side supply of one axis: 0 to 5 main, 6 to 9 auxiliary (Tables 10 and 11). -/
structure GdAx where
  /-- high-side under-voltage comparators, one bit per leg -/
  hsUv : BitVec 4 := 0
  /-- lowest high-side supply seen, mV -/
  hsMv : Nat := 0
  refresh : Bool := false
  /-- TB_NOW of the first refreshed period -/
  refreshAt : Nat := 0
  /-- consecutive counted periods, and the instant of the last count (R144) -/
  uvCnt : Nat := 0
  uvAt : Nat := 0
  /-- TB_NOW since which no comparator of the axis has set (R145) -/
  uvClear : Nat := 0
  /-- `GD_AXn_FAULT` -/
  desat : BitVec 4 := 0
  side : BitVec 4 := 0
  fast : Bool := false
  link : BitVec 4 := 0
  multi : Bool := false
  ascFailed : Bool := false
  /-- the protection latch is set -/
  latched : Bool := false
  /-- TB_NOW of the first trip since the latch was clear; its BRIDGE_SHORT record is still to be written -/
  tripAt : Nat := 0
  noted : Bool := true
  /-- the soft turn-off that runs began at this instant, with these legs on, the high side of these -/
  softAt : Option Nat := none
  softLegs : BitVec 4 := 0
  softHigh : BitVec 4 := 0
  /-- of those legs the ones whose desaturation comparator was past its blanking then (R146) -/
  softAct : BitVec 4 := 0
  /-- legs whose low side has turned off since the device left its reset state (R137) -/
  lowRan : BitVec 4 := 0
  /-- an ASC may follow at this instant (R150): its side, true for high, and the speed where it replaces a coast -/
  ascDue : Option (Nat × Bool × Option Rat) := none
  /-- detectors that read active: the fast comparator, and link-mode fault returns that read low -/
  fastHigh : Bool := false
  linkLow : BitVec 4 := 0
  /-- a self-test of this axis runs -/
  test : Bool := false
  /-- the last self-test of this axis since its HALT passed (R246) -/
  testPassed : Bool := false
  deriving DecidableEq, Repr

/-- One chopper leg (R160 to R162). -/
structure Chopper where
  on : Bool := false
  fault : Bool := false
  /-- TB_NOW of the last edge -/
  edgeAt : Nat := 0
  /-- TB_NOW of the last soft turn-off, which lasts 2.0 µs (R148, R156, R162) -/
  softAt : Option Nat := none
  deriving DecidableEq, Repr

/-- The comparator self-test (R163 to R167): targets are 0 to 5 AX, 6 to 9 AUX, 10 to 13 chopper legs. -/
structure SelfTest where
  busy : Bool := false
  refuse : Nat := 0
  targets : BitVec 14 := 0
  /-- tests still to run of the target under test, and the target -/
  current : Nat := 0
  left : Nat := 0
  failed : BitVec 14 := 0
  aborted : BitVec 14 := 0
  /-- results of the last request -/
  pass : BitVec 14 := 0
  fail : BitVec 14 := 0
  abort : BitVec 14 := 0
  /-- an automatic test waits for VDRV (R165) -/
  autoDue : Bool := false
  deriving DecidableEq, Repr

/-- Gate drive. -/
structure GdSt where
  ax : Vector GdAx 10 := Vector.replicate 10 {}
  chop : Vector Chopper 4 := Vector.replicate 4 {}
  /-- VDRV at the ball, V, as the tick last read it -/
  vdrv : Rat := 0
  /-- under-voltage and over-voltage monitors -/
  uv : Bool := true
  ov : Bool := false
  /-- the distribution switch is closed -/
  swClosed : Bool := false
  /-- Bronze blocks the gate commands at the driver input stage (R338) -/
  blocked : Bool := true
  test : SelfTest := {}
  deriving DecidableEq, Repr


/-! ## Commands, loops, shock and the DC link (chapters 09 and 10) -/

/-- The CAN binding of an axis: its last valid setpoint message and heave message (R238, R245, R435). -/
structure CanBind where
  /-- stamp of the last valid setpoint message, TB_NOW -/
  lastAt : Option Nat := none
  run : Bool := false
  mode : Nat := 0
  value : Rat := 0
  heave : Bool := false
  armed : Bool := false
  /-- a CAN_LOST event has been written since the last message -/
  lost : Bool := false
  deriving DecidableEq, Repr

/-- The supervisor's state of a main axis: command source and command, ramp and loops, winch functions,
thermal model, impacts, ice mode and DC-link watch (Tables 6 of chapter 09 and 5 of chapter 10). -/
structure CmdAx where
  /-- source: 0 none, 1 token holder, 2 CAN, 3 lever, 4 share group -/
  src : Nat := 0
  srcNext : Nat := 0
  /-- the axis's own selection of the last tick (R238, R281): source, mode, setpoint, heave bit, origin stamp -/
  ownSrc : Nat := 0
  ownMode : Nat := 0
  ownSet : Rat := 0
  ownHeave : Bool := false
  ownStamp : Nat := 0
  /-- stamp of the last command write of the token holder -/
  wroteAt : Nat := 0
  /-- the heave reference as the work of the tick read it (R253), and its mark (R5) -/
  hcRead : Option (Nat × Rat × Rat) := none
  hcReadCan : Bool := false
  /-- the tick that read the command found that it starts the axis from READY -/
  startNext : Bool := false
  /-- the command that acts: mode, setpoint, heave bit, as the last tick read it -/
  mode : Nat := 0
  set : Rat := 0
  heave : Bool := false
  can : CanBind := {}
  /-- lever: run, armed, value in use, and invalid already recorded -/
  levRun : Bool := false
  levArmed : Bool := false
  levXu : Rat := 0
  levBad : Bool := false
  /-- ramp and speed loop (R248, R249) -/
  r : Rat := 0
  a : Rat := 0
  nRef : Rat := 0
  nf : Rat := 0
  nfPrev : Rat := 0
  int : Rat := 0
  tStar : Rat := 0
  idSup : Rat := 0
  nlim : Bool := false
  /-- the reverse case of a CATCH: the reference runs to zero against a rotor that turns the other way (R223) -/
  reverse : Bool := false
  /-- the ramp stands at the result of a CATCH, and the speed loop starts from there (R243) -/
  preset : Bool := false
  /-- the loop in use was the speed loop, or the tension loop; it was that of the share group that the axis leads; the torque it gave
  before damping -/
  speedLoop : Bool := false
  tensLoop : Bool := false
  grp : Bool := false
  tLoop : Rat := 0
  /-- winch (R251, R252) -/
  intF : Rat := 0
  tension : Rat := 0
  fEst : Bool := false
  render : Bool := false
  /-- render starts or ends at the coming boundary: true start -/
  renderNext : Option Bool := none
  /-- TB_NOW since which the tension has been below the release value -/
  renderLow : Option Nat := none
  renderAt : Nat := 0
  payout : Rat := 0
  /-- heave (R253): reference in use (t_m, v_z, a_z), n_ff, n_ff at the start of a fade and its instant -/
  hcRef : Option (Nat × Rat × Rat) := none
  /-- the reference in use came from a CAN binding whose controller uses the heritage profile (R5) -/
  hcCan : Bool := false
  nff : Rat := 0
  nffPrev : Rat := 0
  stale : Bool := false
  fade : Option (Nat × Rat) := none
  hcAge : Rat := 0
  /-- thermal model (R256, R257, R258) -/
  theta : Rat := 0
  /-- the start value of HOLD entry waits for the first conversion of the temperature input -/
  thDue : Bool := false
  fold : Bool := false
  foldNext : Option Bool := none
  twInvalid : Bool := false
  twHot : Option Nat := none
  /-- load torque and impacts (R259, R260): filtered estimate, its history with the newest first, the hold
  in force (response and end), and an impact that acts at the coming boundary -/
  tlf : Rat := 0
  tlHist : List Rat := []
  impact : Option (Nat × Nat) := none
  impactNext : Option Rat := none
  impacts : Nat := 0
  /-- torsional damping: the last two inputs and outputs of the band-pass (R261) -/
  tdX1 : Rat := 0
  tdX2 : Rat := 0
  tdY1 : Rat := 0
  tdY2 : Rat := 0
  /-- damping torque of a member of a share group in the last tick (R286) -/
  shrDamp : Rat := 0
  /-- ice mode (R262): free-up phase (0 none, 1 slewing and pausing, 2 backing), its start, the stall's
  condition since, consecutive stalls, the total, and since when |n| has been above twice ICE_NSTALL -/
  icePhase : Nat := 0
  iceAt : Nat := 0
  iceSince : Option Nat := none
  stalls : Nat := 0
  stallTotal : Nat := 0
  iceFast : Option Nat := none
  /-- crash stop (R266): in force, ordered, read by the tick now running, a command written since, and that read by the tick -/
  crash : Bool := false
  crashOrd : Bool := false
  crashNext : Bool := false
  crashOff : Bool := false
  crashSeen : Bool := false
  /-- the setpoint that the order put into the command -/
  crashSet : Rat := 0
  /-- DC-link watch (R267 to R269) -/
  kreg : Rat := 0
  kmot : Rat := 0
  /-- the factors have been formed since the release -/
  kSeen : Bool := false
  regLim : Bool := false
  motLim : Bool := false
  regOne : Option Nat := none
  motOne : Option Nat := none
  hiSince : Option Nat := none
  loSince : Option Nat := none
  critHi : Bool := false
  critLo : Bool := false
  ovCnt : Nat := 0
  /-- the DC-link input has been out of range and no conversion above MOT_END has come since -/
  vdcBad : Bool := false
  deriving DecidableEq, Repr

/-- An accepted axis clear that waits for its boundary (R246): axis 0 to 9, port, instant of completion, and
whether the tick's work has found its conditions to hold. -/
structure AxClear where
  axis : Fin 10
  port : Nat
  at' : Nat
  ok : Option Bool
  deriving DecidableEq, Repr

/-- Commands of the main axes. -/
structure CmdSt where
  ax : Vector CmdAx 6 := Vector.replicate 6 {}
  clears : List AxClear := []
  /-- `DEV_AXCLR_STAT` and `DEV_AXCLR_STAT2`, one code per axis -/
  clearRef : Vector Nat 10 := Vector.replicate 10 0
  deriving DecidableEq, Repr

/-! ## Auxiliary axes (chapter 12) -/

/-- Auxiliary axis states, coded as in the last-state record (R125). -/
inductive AuxState where
  | off | ready | homing | run | stop | halt
  deriving DecidableEq, Repr

/-- A limit input (R307 to R309). -/
structure LimSt where
  /-- filtered state: tripped -/
  tripped : Bool := false
  /-- TB_NOW of the last change of the filtered state -/
  since : Nat := 0
  /-- motion toward it is inhibited after chatter -/
  inhibit : Bool := false
  /-- raw edges of the changes of the filtered state in the last 100 ms, TB_NOW -/
  changes : List Nat := []
  deriving DecidableEq, Repr

/-- The phases of homing (R310, R311): approach; stop after a limit trip; move away from a limit; move away from
the stop; in link mode, stop and move away after the reference. -/
inductive HomePhase where
  | none | approach | limitStop | awayLimit | awayStall | linkStop | linkAway
  deriving DecidableEq, Repr

/-- What an auxiliary engine commits with a result that is posted in time (R296 to R303). -/
structure AuxEng where
  /-- the commanded position, microsteps, as a 32-bit two's complement number with its fraction (R296), and the commanded travel, not
  wrapped -/
  pos : Rat := 0
  odo : Rat := 0
  /-- the DC-link voltage that the update has used, V (R298), and the dead time with which its set runs, s (R32, R135) -/
  vdc : Rat := 0
  dead : Rat := 0
  /-- amplitude of the current references -/
  amp : Rat := 0
  iRefA : Rat := 0
  iRefB : Rat := 0
  /-- measured winding currents -/
  iA : Rat := 0
  iB : Rat := 0
  uA : Rat := 0
  uB : Rat := 0
  wA : Rat := 0
  wB : Rat := 0
  /-- induced-voltage estimates -/
  eA : Rat := 0
  eB : Rat := 0
  /-- load angle, rad -/
  delta : Rat := 0
  /-- the strong law is in use -/
  strong : Bool := false
  /-- stall timer, s, the position at which it started, and its causes: angle, weak -/
  ts : Rat := 0
  tsPos : Rat := 0
  sAngle : Bool := false
  sWeak : Bool := false
  /-- sample instant of the update -/
  at' : Nat := 0
  /-- an update of the start check whose induced voltage exceeded the threshold: its sample instant -/
  checkBad : Option Nat := none
  deriving DecidableEq, Repr

/-- An auxiliary axis. -/
structure AuxAx where
  state : AuxState := .off
  haltReason : Nat := 0
  /-- the duties of the legs A1, A2, B1, B2 in force since TB_NOW `setAt`, those posted for the next edge-update instant, and the
  command of each leg at `setAt` with TB_NOW of that turn-on (R298, R135) -/
  duty : Vector Rat 4 := Vector.replicate 4 (1 / 2)
  /-- the dead time of the set in force, s (R32, R135) -/
  dead : Rat := 0
  setAt : Nat := 0
  posted : Option (Vector Rat 4) := none
  was : Vector (Bool × Rat) 4 := Vector.replicate 4 (false, 0)
  /-- the bridge is energised, or turns off softly -/
  energised : Bool := false
  soft : Bool := false
  valid : Bool := false
  still : Bool := false
  homed : Bool := false
  eng : AuxEng := {}
  /-- the result of an update that is not yet posted, with its sample instant -/
  result : Option (Nat × AuxEng) := none
  /-- the command the last tick read, taken over at its boundary: mode, speed, target -/
  mode : Nat := 0
  set : Rat := 0
  target : Int := 0
  /-- the command that the tick now running has read -/
  next : Option (Nat × Rat × Int) := none
  /-- commanded speed, rpm, at the start and at the end of the tick now running -/
  n0 : Rat := 0
  n1 : Rat := 0
  /-- the speed planned in the work of the last tick, in force from the coming boundary: the state of the ramp (R57) -/
  nNext : Rat := 0
  /-- TB_NOW since which the commanded speed has been zero, and at which the fall to the hold current began -/
  zeroAt : Option Nat := none
  fallAt : Option Nat := none
  /-- the position target of a move has been reached -/
  arrived : Bool := false
  /-- end of the start check, TB_NOW -/
  check : Option Nat := none
  /-- a start waits for the high-side supplies or the end of a self-test, since this instant -/
  startWait : Option Nat := none
  stopKind : StopKind := .command
  /-- homing: its phase, limit trips, the travel at which the phase began, the speed, the target of a move away -/
  home : HomePhase := .none
  tries : Nat := 0
  homeFrom : Rat := 0
  homeSpd : Rat := 0
  homeTo : Rat := 0
  /-- homing at half speed (R310), and TB_NOW of the event that ended the approach: the raw edge of a trip, or the sample instant of
  the stall -/
  half : Bool := false
  homeAt : Nat := 0
  /-- the commanded speeds, rpm, at the ends of the tick of that stall (R316); P before a reference set it (R317) -/
  stall0 : Rat := 0
  stall1 : Rat := 0
  homeP : Int := 0
  /-- TB_NOW at which STOP was entered -/
  stopAt : Nat := 0
  neg : LimSt := {}
  posi : LimSt := {}
  /-- the carrier: a valley of the period in force -/
  valley : Nat := 0
  deriving DecidableEq, Repr



/-! ## Load sharing (chapter 11) -/

/-- A command of a share group (R281): source class (1 holder, 2 CAN, 3 lever), origin stamp, device address it arose at,
mode, heave bit, setpoint, and the heave reference (t_m, v_z, a_z). -/
structure GroupCmd where
  cls : Nat := 0
  stamp : Nat := 0
  dev : Nat := 0
  mode : Nat := 0
  heave : Bool := false
  set : Rat := 0
  ref : Option (Nat × Rat × Rat) := none
  deriving DecidableEq, Repr

/-- What a member reports (Table 1): state code, live, candidate, priority, speed, T* applied, limits, torque per ampere,
ratio. -/
structure ShareEntry where
  slot : Nat
  state : Nat
  live : Bool
  cand : Bool
  prio : Nat
  speed : Rat
  torque : Rat
  pos : Rat
  neg : Rat
  perAmp : Rat
  ratio : Rat
  deriving DecidableEq, Repr

/-- The last REPORT of another device of a group: its sender, whether it has reached this device since the start of the last
tick's work, consecutive misses, its content, and whether its signature did not match. -/
structure ShareReport where
  dev : Nat
  fresh : Bool
  misses : Nat
  sigBad : Bool
  term : Nat
  synced : Bool
  grace : Bool
  cmd : Option GroupCmd
  entries : List ShareEntry
  deriving DecidableEq, Repr

/-- A SHARE (Table 2). -/
structure ShareMsg where
  leader : Nat
  term : Nat
  applyAt : Nat
  carry : Nat
  live : Nat
  nRef : Rat
  tTot : Rat
  mode : Nat
  heave : Bool
  stop : Bool
  set : Rat
  vals : List Rat
  deriving DecidableEq, Repr

/-- A member as the tick's work sees it, here or elsewhere. -/
structure Mem where
  entry : ShareEntry
  dev : Nat
  axis : Nat
  /-- why it is not live: 1 miss, 2 state, 3 signature, 4 desync; 0 it is live -/
  why : Nat
  /-- it counts as lost (R290): a miss does so only from the MISS-th in a row -/
  gone : Bool
  deriving DecidableEq, Repr

/-- What the work of a tick uses of a group, as it stands when the work begins (R277, R288): the members, the commands and heave
references in the reports and of this device with their marks of R5, the leader and the slots not lost before the election, and the content
of its REPORT. -/
structure ShareWork where
  ms : List Mem := []
  cmds : List GroupCmd := []
  refs : List ((Nat × Rat × Rat) × Bool) := []
  wasLed : Option Nat := none
  was : BitVec 32 := 0
  report : List Byte := []
  deriving DecidableEq, Repr

/-- A share group slot of this device (R275 to R293, Table 8). -/
structure ShareGroup where
  leader : Option Nat := none
  term : Nat := 0
  /-- consecutive ticks without a SHARE of the leader in time; the first of this run has been recorded; how late a SHARE
  since the last boundary came -/
  miss : Nat := 0
  missNoted : Bool := false
  lateBy : Option Nat := none
  reports : List ShareReport := []
  /-- the group command in force; it is valid; commands stamped up to here act as MODE 0 (R244, R290) -/
  cmd : GroupCmd := {}
  cmdValid : Bool := false
  floor : Nat := 0
  /-- the SHARE that waits for its apply instant, and the one in force -/
  next : Option ShareMsg := none
  now : Option ShareMsg := none
  /-- join weights per slot, live slots of the last tick, slots that have been live and are not lost since, and slots found lost: their
  cause, 0 none -/
  weight : Vector Rat 32 := Vector.replicate 32 0
  live : BitVec 32 := 0
  here : BitVec 32 := 0
  lostCause : Vector Nat 32 := Vector.replicate 32 0
  /-- last reported T* of each slot -/
  lastT : Vector Rat 32 := Vector.replicate 32 0
  tTot : Rat := 0
  sat : Bool := false
  quorumOk : Bool := false
  gstop : Bool := false
  cfgBad : Bool := false
  isolated : Bool := false
  /-- isolation acts at the coming boundary: live members counted -/
  isoNext : Option Nat := none
  /-- the desync grace has run out (R292) -/
  graceOver : Bool := false
  lostCnt : Nat := 0
  missCnt : Nat := 0
  work : ShareWork := {}
  deriving DecidableEq, Repr


/-! ## Rings and the data mover (chapter 17) -/

/-- A record in a ring: its position in the stream (modulo 2³²), its padded length, when WR passed it. -/
structure RingRec where
  pos : Nat
  len : Nat
  at' : Nat
  deriving DecidableEq, Repr

/-- A ring (R448 to R451, Table 8). -/
structure RingSt where
  wr : Nat := 0
  rd : Nat := 0
  tap : Nat := 0
  lost : Nat := 0
  tapLost : Nat := 0
  /-- the records from RD to WR, oldest first -/
  recs : List RingRec := []
  /-- the runs of RING_LOSS records by cause 1 to 4 -/
  runs : Vector Run 5 := Vector.replicate 5 {}
  deriving DecidableEq, Repr

/-- The states of a channel (R453). -/
inductive ChState where
  | idle | pending | running | stopped | halted
  deriving DecidableEq, Repr

/-- A channel (R452 to R456, Table 9). -/
structure ChSt where
  state : ChState := .idle
  /-- the state before a bus error -/
  was : ChState := .idle
  code : Nat := 0
  /-- the activation is a flush; a trigger fired while the channel ran, and whether it was a flush -/
  flush : Bool := false
  again : Bool := false
  againFlush : Bool := false
  /-- a START has been given since the last stop (R456); a STOP waits for the descriptor in progress -/
  started : Bool := false
  stopReq : Bool := false
  cur : Nat := 0
  visit : Nat := 0
  bytes : Nat := 0
  acts : Nat := 0
  skips : Nat := 0
  /-- the fetch buffer: records, oldest first (R466) -/
  fetch : List (List Byte) := []
  deriving DecidableEq, Repr

/-- A descriptor (Table 2). -/
structure Desc where
  op : Nat
  flags : Nat
  src : Nat
  dst : Nat
  len : Nat
  next : Nat
  deriving DecidableEq, Repr

/-- Work SRAM, the rings and the mover (R447 to R470). -/
structure SipSt where
  /-- work SRAM by byte address, unlisted bytes 0 (R88) -/
  sram : List Host.Cell := []
  rings : Vector RingSt 32 := Vector.replicate 32 {}
  chs : Vector ChSt 32 := Vector.replicate 32 {}
  /-- the channel that runs, the one that ran last, and its descriptor once it is fetched and checked -/
  run : Option (Fin 32) := none
  last : Nat := 31
  desc : Option Desc := none
  halted : Bool := false
  berrAddr : Nat := 0
  berrCh : Nat := 0
  berrValid : Bool := false
  berrCount : Nat := 0
  offDrop : Nat := 0
  /-- words of work SRAM whose stored bits are in error, by address, with whether they cannot be corrected; the counts of
  `DEV_SUM_ERR` (R520) -/
  ecc : List (Nat × Bool) := []
  corr : Nat := 0
  uncorr : Nat := 0
  deriving DecidableEq, Repr


/-! ## The recorder (chapter 18). The NAND package itself is a partner outside the device. -/

/-- What a block is used for. -/
inductive BlkKind where
  | ring | metaLog | dump (k : Nat) | bad
  deriving DecidableEq, Repr

/-- A block that is not a free good one: its number b (target times blocks per target plus block), its use, whether pages may
still be programmed, the sequences in the tags of its programmed pages, its place in the order of its area (the sequence with
which its content began; a refresh keeps it) and the TIME of its first page, reads since its erase, when it was last read in
full, and the capture slots that pin it. -/
structure Blk where
  b : Nat
  kind : BlkKind
  isOpen : Bool
  seqs : List Nat
  seq : Nat
  time : Nat
  reads : Nat := 0
  scrubAt : Nat := 0
  pins : BitVec 16 := 0
  deriving DecidableEq, Repr

/-- The pages of a block that are programmed. -/
def Blk.pages (x : Blk) : Nat := x.seqs.length

/-- Why a page is read. -/
inductive ReadFor where
  | replay | scrub
  deriving DecidableEq, Repr

/-- An operation on the NAND that waits or is under way (R471, R472, R476, R480): a page program with its 24-byte tag and its
main area, a block erase, a page read, or the move of a block's content with its reason. -/
inductive NandAct where
  | program (b page : Nat) (tag main : List Byte)
  | erase (b : Nat)
  | read (b page : Nat) (why : ReadFor)
  | move (old new reason : Nat)
  deriving DecidableEq, Repr

/-- An operation and since when it waits; it has been repeated after a timeout. -/
structure NandOp where
  act : NandAct
  since : Nat
  again : Bool := false
  deriving DecidableEq, Repr

/-- The page buffer of a stream (R475): its bytes, where the first record starts and its TIME, when its oldest record came, the
greatest TIME delivered. -/
structure StreamSt where
  buf : List Byte := []
  first : Option (Nat × Nat) := none
  since : Option Nat := none
  lastTime : Nat := 0
  deriving DecidableEq, Repr

/-- A capture slot (R477, R478): 0 free, 1 capturing, 2 held; triggers; TIME of the first and the last one. -/
structure EvtSlot where
  state : Nat := 0
  trigs : Nat := 0
  first : Nat := 0
  last : Nat := 0
  deriving DecidableEq, Repr

/-- A dump slot (R479): 0 free, 1 writing, 2 held, 3 unusable; dump length; TIME of the freeze. -/
structure DumpSlot where
  state : Nat := 0
  len : Nat := 0
  time : Nat := 0
  deriving DecidableEq, Repr

/-- A replay (R489, R490): state as in `CAR_RPL_STAT`, source, pages still to be read, records or bytes read and waiting for
room, partial records per stream, and its counters. -/
structure Replay where
  state : Nat := 0
  area : Nat := 0
  slot : Nat := 0
  ch : Nat := 16
  base : Nat := 0
  len : Nat := 4096
  from' : Nat := 0
  pages : List (Nat × Nat) := []
  /-- dump bytes still to be given -/
  left : Nat := 0
  out : List (List Byte) := []
  part : Vector (Option (List Byte)) 4 := Vector.replicate 4 none
  wr : Nat := 0
  records : Nat := 0
  skip : Nat := 0
  deriving DecidableEq, Repr

/-- The recorder (Table 11). -/
structure CarSt where
  /-- 0 off, 1 mounting, 2 ready, 3 read-only, 4 failed -/
  st : Nat := 0
  /-- the level of NF_WP_N: low in COLD and LOAD, high from the start of the mount (R486) -/
  wp : Bool := false
  stage : Nat := 0
  tgtOn : BitVec 4 := 0
  mountErr : Nat := 0
  mountAt : Nat := 0
  foreign : Bool := false
  gen : Nat := 0
  blks : List Blk := []
  ops : List NandOp := []
  /-- the target that takes the next stream page, and the one that takes the next block -/
  nextTgt : Nat := 0
  nextBlk : Nat := 0
  seq : Nat := 0
  metaAt : Nat := 0
  wearAt : Nat := 0
  streams : Vector StreamSt 4 := Vector.replicate 4 {}
  evt : Vector EvtSlot 16 := Vector.replicate 16 {}
  dump : Vector DumpSlot 4 := Vector.replicate 4 {}
  rpl : Replay := {}
  unc : Nat := 0
  refr : Nat := 0
  /-- consecutive timeouts per target -/
  tmo : Vector Nat 4 := Vector.replicate 4 0
  /-- page bytes programmed in the last 10 s: instant and bytes -/
  rate : List (Nat × Nat) := []
  deriving DecidableEq, Repr


/-! ## Safety functions and safe messages (chapter 13) -/

/-- A consumed connection as one channel holds it (R352, R356). -/
structure SafRecv where
  valid : Bool := false
  bits : Word := 0
  /-- SEQ of the last envelope accepted -/
  last : Option Nat := none
  /-- envelopes accepted in sequence, up to 3 -/
  run : Nat := 0
  /-- when the last envelope was accepted; its arrival stamp -/
  at' : Nat := 0
  stamp : Nat := 0
  deriving DecidableEq, Repr

/-- What one channel, Cobalt or Bronze, sees of the nine input pairs: 0 to 7 SI, 8 STO (R319, R326 to R331). -/
structure SafView where
  /-- filtered levels of channels A and B -/
  filtA : Vector Bool 9 := Vector.replicate 9 false
  filtB : Vector Bool 9 := Vector.replicate 9 false
  /-- discrepancy or test-pulse fault latched; since it, both channels have been in their demand state at once -/
  fault : Vector Bool 9 := Vector.replicate 9 false
  both : Vector Bool 9 := Vector.replicate 9 false
  /-- since when the two filtered channels disagree in meaning -/
  since : Vector (Option Nat) 9 := Vector.replicate 9 none
  /-- causes of the demands that stand and on which the channel has acted -/
  acted : List Nat := []
  /-- V24S has left its window (R330) -/
  v24sOut : Bool := false
  /-- since when every axis that SS1-r monitors has been at standstill (R336) -/
  still : Option Nat := none
  /-- the consumed connections as the channel checks them (R352, R356) -/
  conn : Vector SafRecv 16 := Vector.replicate 16 {}
  deriving DecidableEq, Repr

/-- One TPO output (R329, R84): off before HOLD entry, lit, dark in a test pulse, or lit again within REC. -/
inductive TpPhase where
  | off | lit | dark | recover
  deriving DecidableEq, Repr

/-- One TPO output. -/
structure TpoSt where
  phase : TpPhase := .off
  /-- where Bronze stands in its own test of the pulse (R320) -/
  phaseB : TpPhase := .off
  began : Nat := 0
  /-- the fed channels that read high when the pulse began -/
  high : BitVec 8 := 0
  deriving DecidableEq, Repr

/-- One safe output (R342 to R346). -/
structure SafOut where
  /-- Cobalt and Bronze command their switches on, also while a dark test holds one off; in FREEZE Cobalt's as at the trigger (R346) -/
  cmdC : Bool := false
  cmdB : Bool := false
  /-- the switches as Cobalt and Bronze hold them -/
  swC : Bool := false
  swB : Bool := false
  /-- since when it has been commanded off -/
  offAt : Nat := 0
  /-- a dark test of a channel's switch runs since; when the last one began -/
  darkC : Option Nat := none
  darkB : Option Nat := none
  lastC : Option Nat := none
  lastB : Option Nat := none
  /-- an off demand came during the dark test that runs -/
  offInTest : Bool := false
  discarded : Bool := false
  /-- Cobalt and Bronze have found a fault -/
  faultC : Bool := false
  faultB : Bool := false
  /-- EDM is to read this level by this instant, as Cobalt and Bronze watch it -/
  edmC : Option (Bool × Nat) := none
  edmB : Option (Bool × Nat) := none
  /-- the current limit has switched it off (R548) -/
  limited : Bool := false
  /-- the supervisor requests brake release -/
  request : Bool := false
  /-- Cobalt and Bronze hold it off as an SBC output of an SS1 or STO -/
  sbcC : Bool := false
  sbcB : Bool := false
  deriving DecidableEq, Repr

/-- A running SS1 of a function slot: type 2 SS1-t, 3 SS1-r; when each channel saw the demand, with the speeds it saw then; when STANDSTILL came there (R335,
R336). -/
structure Ss1Run where
  slot : Nat
  typ : Nat
  atC : Option Nat
  atB : Option Nat
  /-- speeds at the demand, rpm -/
  n0C : Vector Rat 6
  n0B : Vector Rat 6
  standC : Option Nat := none
  standB : Option Nat := none
  deriving DecidableEq, Repr

/-- One safety connection (R352 to R356): what its registers show, and its producer. -/
structure SafConn where
  lost : Bool := false
  seqShown : Word := 0
  disc : Nat := 0
  /-- discards since the last CONN record -/
  discNew : Nat := 0
  /-- the next SEQ of a producer, and the DATA it sent last -/
  next : Nat := 1
  sent : Option Word := none
  sentAt : Nat := 0
  deriving DecidableEq, Repr

/-- The mirror that Cobalt rewrites on every scan (R325, Table 11). -/
structure SafMirror where
  stat : Word := 6
  demand : Word := 0
  latch : Word := 0
  inStat : Word := 0
  soStat : Word := 0
  connOk : Word := 0
  ptAge : Word := 0
  srst : Word := 0
  v24s : Word := 0
  conStat : Vector Word 16 := Vector.replicate 16 0
  conSeq : Vector Word 16 := Vector.replicate 16 0
  /-- the safe bits of a producer, as at the scan (R355) -/
  data : Word := 0
  deriving DecidableEq, Repr

/-- SRST (R347 to R350). -/
structure SrstSt where
  high : Bool := false
  pressAt : Nat := 0
  /-- Bronze's 70 ms timer has expired during the press -/
  bronze : Bool := false
  stuck : Bool := false
  /-- the press that runs has made SRST stuck -/
  stuckPress : Bool := false
  lowAt : Nat := 0
  /-- SRST has read low for 1 s before the press -/
  lowOk : Bool := false
  ms : Nat := 0
  result : Nat := 0
  /-- an accepted press that waits for its boundary: TB_NOW of its release, ms -/
  accepted : Option (Nat × Nat) := none
  deriving DecidableEq, Repr

/-- Safety. -/
structure SafSt where
  /-- raw levels at the balls, and the last raw edge of each: its instant and TB_NOW -/
  rawA : Vector Bool 9 := Vector.replicate 9 false
  rawB : Vector Bool 9 := Vector.replicate 9 false
  edgeA : Vector (Nat × Nat) 9 := Vector.replicate 9 (0, 0)
  edgeB : Vector (Nat × Nat) 9 := Vector.replicate 9 (0, 0)
  cobalt : SafView := {}
  bronze : SafView := {}
  tpo0 : TpoSt := {}
  tpo1 : TpoSt := {}
  edm : BitVec 4 := 0
  /-- latched causes (Table 1) with the TB_NOW of their demand, in order; the code that began the present SAFE -/
  latched : List (Nat × Nat) := []
  first : Nat := 0
  /-- STO acts; it began at this instant and TB_NOW, for this cause, whose demand came at this TB_NOW -/
  sto : Bool := false
  stoAt : Nat := 0
  stoTb : Nat := 0
  stoCause : Nat := 0
  stoFrom : Nat := 0
  ss1 : List Ss1Run := []
  /-- the supervisor has taken the STO that acts -/
  told : Bool := false
  /-- Bronze has found Cobalt silent (R322); its records that wait meanwhile (R361) -/
  silent : Bool := false
  owed : List HeldRecord := []
  v24s : Rat := 0
  vcoreSOk : Bool := true
  out : Vector SafOut 4 := Vector.replicate 4 {}
  srst : SrstSt := {}
  conn : Vector SafConn 16 := Vector.replicate 16 {}
  mirror : SafMirror := {}
  /-- when the mirror was last rewritten, the last compare set was exchanged, Cobalt's ROM was last checked, the paths were
  last tested -/
  mirrorAt : Nat := 0
  cmpAt : Nat := 0
  romAt : Nat := 0
  ptAt : Nat := 0
  ptDue : Bool := false
  /-- compare sets exchanged; consecutive ones that differ in an item without a filter; since when each pair, slot and connection has differed -/
  cmpCount : Nat := 0
  cmpBad : Nat := 0
  cmpSince : Vector (Option Nat) 9 := Vector.replicate 9 none
  cmpSlot : Vector (Option Nat) 8 := Vector.replicate 8 none
  cmpConn : Vector (Option Nat) 16 := Vector.replicate 16 none
  /-- the path test of the LOAD has failed -/
  pathFail : Bool := false
  deriving DecidableEq, Repr


/-! ## CAN (chapter 16) -/

/-- A frame to be sent (R438), and since when it has been pending. -/
structure TxFrame where
  id : Nat
  ide : Bool
  fdf : Bool
  brs : Bool
  data : List Byte
  since : Nat := 0
  deriving DecidableEq, Repr

/-- A host slot (R438, R440): state and attempts as in `CANn_TXHh_STAT`, the stamp of the last attempt, whether a CANCEL came
during the attempt that runs, and when SEND came. -/
structure HostSlot where
  state : Nat := 0
  attempts : Nat := 0
  stamp : Nat := 0
  cancel : Bool := false
  since : Nat := 0
  deriving DecidableEq, Repr

/-- A SAME_ID run (R441): its slot, the first stamp and the attempts. -/
structure SameId where
  slot : TxSlot
  first : Nat
  count : Nat
  deriving DecidableEq, Repr

/-- Automatic rate detection (R426). -/
structure AbdSt where
  run : Bool := false
  noted : Bool := false
  ok : Nat := 0
  since : Nat := 0
  deriving DecidableEq, Repr

/-- One controller. -/
structure CanCtl where
  /-- started at HOLD entry; it integrates -/
  started : Bool := false
  integrating : Bool := false
  busOff : Bool := false
  recov : Bool := false
  tec : Nat := 0
  rec' : Nat := 0
  cand : Nat := 0
  abd : AbdSt := {}
  overrun : Nat := 0
  unbound : Nat := 0
  sameIds : Nat := 0
  busOffs : Nat := 0
  /-- stamps of violations of the last second; quarantine until this instant (R437) -/
  viols : List Nat := []
  quar : Option Nat := none
  /-- the setpoint and heave buffers of the axes hold a frame that was not read; the last accepted counters (R429, R436) -/
  spNew : Vector Bool 6 := Vector.replicate 6 false
  hvNew : Vector Bool 6 := Vector.replicate 6 false
  spCnt : Vector (Option Nat) 6 := Vector.replicate 6 none
  hvCnt : Vector (Option Nat) 6 := Vector.replicate 6 none
  /-- stamp of the last accepted heave message -/
  hvAt : Vector Nat 6 := Vector.replicate 6 0
  /-- runs of OVERRUN records (R430) -/
  spRun : Vector Run 6 := Vector.replicate 6 {}
  hvRun : Vector Run 6 := Vector.replicate 6 {}
  envRun : Vector Run 16 := Vector.replicate 16 {}
  /-- envelope buffers: data and arrival stamp -/
  env : Vector (Option (List Byte × Nat)) 16 := Vector.replicate 16 none
  /-- pending frames of the safety and periodic slots; the host slots -/
  txSaf : Vector (Option TxFrame) 16 := Vector.replicate 16 none
  txPer : Vector (Option TxFrame) 8 := Vector.replicate 8 none
  host : Vector HostSlot 4 := Vector.replicate 4 {}
  /-- the SAME_ID runs, one a slot -/
  same : List SameId := []
  /-- the guard forces TXD recessive (R425) -/
  guard : Bool := false
  deriving DecidableEq, Repr


/-! ## Freeze (chapter 19) -/

/-- A permitted freeze trigger (Table 1): t_F or T, its stamp, cause, source as in header byte 34, and the originating device. -/
structure FrzTrig where
  at' : Nat
  stamp : Nat
  cause : Nat
  source : Nat
  origin : Nat
  deriving DecidableEq, Repr

/-- A frozen device: the trigger that acted, t_F, lateness, axes held in ASC,
Bronze's view of `SAF_STAT`, and the instant of FROZEN. -/
structure Frozen where
  trig : FrzTrig
  tF : Nat
  late : Nat
  asc : BitVec 6
  safStat : Word
  since : Nat
  /-- the MODEL's own: where the free values of this freeze begin (log 3) -/
  free : Nat
  deriving DecidableEq, Repr

/-- The freeze controller. -/
structure FrzSt where
  pinLow : Bool := false
  lastRefuse : Nat := 0
  refused : Nat := 0
  pending : Option FrzTrig := none
  frozen : Option Frozen := none
  /-- controller state, as in header bytes 44: 0 not frozen -/
  ctl : Nat := 0
  /-- the dump slot of the self-dump -/
  slot : Nat := 0xFF
  /-- an instruction other than FRZ_STAT has been loaded since FROZEN -/
  tapUsed : Bool := false
  /-- the read position of FRZ_READ; what the last Capture-DR loaded -/
  pos : Nat := 0
  capture : List Bool := []
  /-- the targets that the dump engine resets, and the pages that it programs (R504) -/
  dumpRst : BitVec 4 := 0
  dumpBus : List NandAct := []
  deriving DecidableEq, Repr

/-! ## The whole device -/

/-- The clock of the model (R13, R65): `now` counts every ns since the state of reset, `tb` is TB_NOW, which
stands while `counting` is false (held COLD, failed start, FREEZE). -/
structure Clock where
  now : Nat := 0
  tb : Nat := 0
  counting : Bool := false
  deriving DecidableEq, Repr

/-- The whole device, with the queue of commands that wait, first in, first out. -/
structure State where
  /-- the clocks -/
  clk : Clock := {}
  /-- supplies, reset and start-up -/
  pwr : Power := {}
  /-- the load of an image copy -/
  ld : LoadSt := {}
  /-- the keep-store -/
  ks : KeepSt := {}
  /-- the time base -/
  tbs : TimeBase := {}
  /-- the device mode -/
  mode : ModeSt := {}
  /-- the staging bank and COMMIT -/
  stg : Staging := {}
  /-- the outer tick and the domain monitor -/
  tick : TickSt := {}
  /-- the emission of records -/
  recs : RecSt := {}
  /-- the register words of access RI, RS and RW -/
  regs : Regs := {}
  /-- the latency sentinels of AX0 to AX5 and AUX0 to AUX3 -/
  snt : Vector Sentinel 10 := Vector.replicate 10 {}
  /-- the MODEL's own counter of free values (log 3) -/
  freeIx : Nat := 0
  /-- control ports, entries and the token -/
  cp : CpSt := {}
  /-- the fabric -/
  fab : FabSt := {}
  /-- sensing -/
  sns : SnsSt := {}
  /-- engine and field control of the main axes -/
  ax : Vector AxSt 6 := Vector.replicate 6 {}
  /-- sample blocks being filled, per main axis -/
  blk : Vector (Option SampleBlock) 6 := Vector.replicate 6 none
  /-- updates posted in time since the last sample, per main axis -/
  smpCnt : Vector Nat 6 := Vector.replicate 6 0
  /-- gate drive -/
  gd : GdSt := {}
  /-- commands and loops of the main axes -/
  cmd : CmdSt := {}
  /-- the auxiliary axes -/
  aux : Vector AuxAx 4 := Vector.replicate 4 {}
  /-- share groups -/
  shr : Vector ShareGroup 16 := Vector.replicate 16 {}
  /-- work SRAM, rings and the data mover -/
  sip : SipSt := {}
  /-- the recorder -/
  car : CarSt := {}
  /-- safety functions and safe messages -/
  saf : SafSt := {}
  /-- the CAN controllers -/
  can : Vector CanCtl 2 := Vector.replicate 2 {}
  /-- the freeze controller -/
  frz : FrzSt := {}
  /-- the queue of commands that wait, first in, first out -/
  pending : List Instr := []
  deriving DecidableEq, Repr

/-- Faults of the block. No command of the table raises one: the constructor stands for a stop that the
model never takes, because `Host.Outcome` asks for a type of faults. Safe. -/
inductive Fault where
  /-- never raised by this model -/
  | none
  deriving DecidableEq, Repr

/-- Refusals of the block. -/
inductive Refusal where
  /-- a command whose meaning is not modelled; raised only by an arm of `exec`. Safe: the run stops. -/
  | notModelled (mnemonic : String)
  deriving DecidableEq, Repr

/-- The device as the power comes on: held COLD, no supply good yet, RESET_N low, every register at its
reset content, every memory empty, nothing pending (R84, R108, R24). -/
def State.reset : State := {}

end Sys2Proof.Machine
end

