-- ==== Sys2Proof/Machine/Update.lean ====
section
/-! DEFINITION. One update per part of the state: each changes that part and nothing else. -/
namespace Sys2Proof.Machine

/-- Change `clk` alone. -/
def State.onClk (s : State) (f : Clock → Clock) : State := { s with clk := f s.clk }
/-- Change `pwr` alone. -/
def State.onPwr (s : State) (f : Power → Power) : State := { s with pwr := f s.pwr }
/-- Change `ld` alone. -/
def State.onLd (s : State) (f : LoadSt → LoadSt) : State := { s with ld := f s.ld }
/-- Change `ks` alone. -/
def State.onKs (s : State) (f : KeepSt → KeepSt) : State := { s with ks := f s.ks }
/-- Change `tbs` alone. -/
def State.onTbs (s : State) (f : TimeBase → TimeBase) : State := { s with tbs := f s.tbs }
/-- Change `mode` alone. -/
def State.onMode (s : State) (f : ModeSt → ModeSt) : State := { s with mode := f s.mode }
/-- Change `stg` alone. -/
def State.onStg (s : State) (f : Staging → Staging) : State := { s with stg := f s.stg }
/-- Change `tick` alone. -/
def State.onTick (s : State) (f : TickSt → TickSt) : State := { s with tick := f s.tick }
/-- Change `recs` alone. -/
def State.onRecs (s : State) (f : RecSt → RecSt) : State := { s with recs := f s.recs }
/-- Change `regs` alone. -/
def State.onRegs (s : State) (f : Regs → Regs) : State := { s with regs := f s.regs }
/-- Change `snt` alone. -/
def State.onSnt (s : State) (f : (Vector Sentinel 10) → (Vector Sentinel 10)) : State := { s with snt := f s.snt }
/-- Change `freeIx` alone. -/
def State.onFreeIx (s : State) (f : Nat → Nat) : State := { s with freeIx := f s.freeIx }
/-- Change `cp` alone. -/
def State.onCp (s : State) (f : CpSt → CpSt) : State := { s with cp := f s.cp }
/-- Change `fab` alone. -/
def State.onFab (s : State) (f : FabSt → FabSt) : State := { s with fab := f s.fab }
/-- Change `sns` alone. -/
def State.onSns (s : State) (f : SnsSt → SnsSt) : State := { s with sns := f s.sns }
/-- Change `ax` alone. -/
def State.onAx (s : State) (f : (Vector AxSt 6) → (Vector AxSt 6)) : State := { s with ax := f s.ax }
/-- Change `blk` alone. -/
def State.onBlk (s : State) (f : (Vector (Option SampleBlock) 6) → (Vector (Option SampleBlock) 6)) : State := { s with blk := f s.blk }
/-- Change `smpCnt` alone. -/
def State.onSmpCnt (s : State) (f : (Vector Nat 6) → (Vector Nat 6)) : State := { s with smpCnt := f s.smpCnt }
/-- Change `gd` alone. -/
def State.onGd (s : State) (f : GdSt → GdSt) : State := { s with gd := f s.gd }
/-- Change `cmd` alone. -/
def State.onCmd (s : State) (f : CmdSt → CmdSt) : State := { s with cmd := f s.cmd }
/-- Change `aux` alone. -/
def State.onAux (s : State) (f : (Vector AuxAx 4) → (Vector AuxAx 4)) : State := { s with aux := f s.aux }
/-- Change `shr` alone. -/
def State.onShr (s : State) (f : (Vector ShareGroup 16) → (Vector ShareGroup 16)) : State := { s with shr := f s.shr }
/-- Change `sip` alone. -/
def State.onSip (s : State) (f : SipSt → SipSt) : State := { s with sip := f s.sip }
/-- Change `car` alone. -/
def State.onCar (s : State) (f : CarSt → CarSt) : State := { s with car := f s.car }
/-- Change `saf` alone. -/
def State.onSaf (s : State) (f : SafSt → SafSt) : State := { s with saf := f s.saf }
/-- Change `can` alone. -/
def State.onCan (s : State) (f : (Vector CanCtl 2) → (Vector CanCtl 2)) : State := { s with can := f s.can }
/-- Change `frz` alone. -/
def State.onFrz (s : State) (f : FrzSt → FrzSt) : State := { s with frz := f s.frz }
/-- Change `pending` alone. -/
def State.onPending (s : State) (f : (List Instr) → (List Instr)) : State := { s with pending := f s.pending }

end Sys2Proof.Machine
end

