-- ==== Sys2Proof/Machine/Ops.lean ====
section
/-! DEFINITION. Operations over the whole state that every family shares: time, the emission of records,
the keep-store, answers to entries and violations, and the changes of the device mode. -/
namespace Sys2Proof.Machine

/-! ## Time -/

/-- `dt` ticks of 2 ns pass: `now` runs on, TB_NOW advances by 2 on every tick while it counts (R13, R65, R84). -/
def State.advance (s : State) (dt : Nat) : State :=
  s.onClk (fun c => { c with now := c.now + 2 * dt, tb := if c.counting then c.tb + 2 * dt else c.tb })

/-- TB_NOW. -/
def State.tb (s : State) : Nat := s.clk.tb

/-- The instants since the state of reset, ns. -/
def State.now (s : State) : Nat := s.clk.now

/-- The outer-tick period, ns (R67, `DEV_CFG.TICK`). -/
def State.period (s : State) : Nat :=
  match s.regs.DEV_CFG with
  | 0 => 1000000
  | 1 => 500000
  | 2 => 250000
  | _ => 125000

/-- The outer-tick period, s. -/
def State.periodS (s : State) : Rat := secOf s.period

/-- The boundary that ends the tick now running. -/
def State.tickEnd (s : State) : Nat := s.tick.began + s.period

/-- HOLD, DRIVE, LIMP, BRAKE or SAFE: the device runs. -/
def State.running (s : State) : Bool := s.pwr.phase == .running && s.mode.mode != .freeze

/-- The next free value (log 3): its index, and the state in which it is used up. -/
def State.fresh (s : State) : Nat × State := (s.freeIx, s.onFreeIx (· + 1))

/-- A part of a vector, changed at one place. -/
def vset {α : Type} {n : Nat} (v : Vector α n) (i : Fin n) (f : α → α) : Vector α n := v.set i (f v[i])

/-! ## Records (R75 to R79, R99) -/

/-- Unit codes (Table 6 of the time-base chapter). -/
abbrev Unit.dev : Nat := 0
abbrev Unit.ax (n : Nat) : Nat := 0x10 + n
abbrev Unit.aux (n : Nat) : Nat := 0x20 + n
abbrev Unit.gd : Nat := 0x30
abbrev Unit.sns : Nat := 0x40
abbrev Unit.cobalt : Nat := 0x50
abbrev Unit.bronze : Nat := 0x51
abbrev Unit.link (k : Nat) : Nat := 0x60 + k
abbrev Unit.port (p : Nat) : Nat := 0x70 + p
abbrev Unit.can (n : Nat) : Nat := 0x80 + n
abbrev Unit.sip : Nat := 0x90
abbrev Unit.car : Nat := 0xA0
abbrev Unit.tb : Nat := 0xB0
abbrev Unit.frz : Nat := 0xC0

/-- The unit of axis `a`: 0 to 5 main, 6 to 9 auxiliary. -/
def Unit.axis (a : Nat) : Nat := if a < 6 then Unit.ax a else Unit.aux (a - 6)

/-- Does a record emitted now carry FLAGS bit 1 without regard to R74 (R78)? A device that stands alone is
no time root and has loaded nothing, so its records carry it (DEDUCED, log 13). -/
def State.estNow (s : State) : Bool :=
  (!s.regs.FAB_CFG_ROOT && !s.tbs.loaded) || s.tbs.syncLost
    || (match s.tbs.hops with | some h => decide (6 < h) | none => false)
    || (s.tbs.holdover && !s.tbs.synced)

/-- Hops to the root as HELLO and `TB_STAT` show them: 15 where the device is not synchronised, or is more than 14 hops away. -/
def State.hopsShown (s : State) : Nat :=
  if s.tbs.synced then (match s.tbs.hops with | some h => if h ≤ 14 then h else 15 | none => 15) else 15

/-- The types whose payload is paired: SAFETY, CONFIG, COMMIT, FREEZE (R76). -/
def pairedType (t : Nat) : Bool := t == 8 || t == 9 || t == 10 || t == 11

/-- The next SEQ of a source. -/
def seqOf (l : List (Nat × Nat)) (src : Nat) : Nat := cellGet (fun _ => 0) l src

/-- Emit a record now: it takes the device's address, the next SEQ of its source and its flags, and waits
for its ring (R75, R77, R78). A type that `DEV_REC_SEL` does not enable is not emitted and takes no SEQ. -/
def State.emitNow (s : State) (time unit typ flags : Nat) (payload : List Byte) : State :=
  if !bit (s.regs.get Reg.DEV_REC_SEL) typ then s
  else
    let dev := s.fab.addr.getD 0
    let src := dev * 1024 + unit
    let q := seqOf s.recs.seqs src
    let paired := pairedType typ
    let r : Record :=
      { time := time, dev := dev, unit := unit, seq := q, typ := typ
        flags := b2n paired + 2 * b2n (s.estNow || flags % 4 / 2 == 1) + 4 * (flags / 4 % 2)
        payload := if paired then payload ++ complBytes payload else payload }
    s.onRecs (fun x =>
      { x with
        outbox := x.outbox ++ [r]
        seqs := cellSet (fun _ => 0) src ((q + 1) % 65536) x.seqs
        violations := if typ = 7 then satInc 32 x.violations else x.violations })

/-- A record arises. Before HOLD entry it waits (R99); where the start has failed or the device is held in
COLD there is no ring and it is lost. `flags`: bit 1 an inferred instant (R74), bit 2 heritage (R5). -/
def State.emit (s : State) (time unit typ flags : Nat) (payload : List Byte) : State :=
  match s.pwr.phase with
  | .running => s.emitNow time unit typ flags payload
  | .released | .locked | .loading =>
    s.onRecs (fun x => { x with held := x.held ++ [⟨time, unit, typ, flags, payload⟩] })
  | .held | .failed => s

/-- Emit the records that waited for HOLD entry, in the order of their events (R99). -/
def State.releaseHeld (s : State) : State :=
  s.recs.held.foldl (fun s r => s.emitNow r.time r.unit r.typ r.flags r.payload)
    (s.onRecs (fun x => { x with held := [] }))

/-- An EVENT record (R59). -/
def State.event (s : State) (time unit code detail value : Nat) (flags : Nat := 0) : State :=
  s.emit time unit 2 flags (leBytes 2 code ++ leBytes 2 detail ++ leBytes 4 value)

/-- A TIME record of the time base (R79). -/
def State.timeRec (s : State) (time code detail a b : Nat) : State :=
  s.emit time Unit.tb 13 0 (leBytes 2 code ++ leBytes 2 detail ++ leBytes 8 a ++ leBytes 8 b ++ zeros 4)

/-- An integer as an unsigned number of `n` bytes in two's complement. -/
def twos (n : Nat) (z : Int) : Nat := (z % ((256 ^ n : Nat) : Int)).toNat

/-! ## The image memory (R89, R91) -/

/-- Where a copy begins in the image memory, the primary one or the alternate one (R89). -/
def copyBase (alt : Bool) : Nat := if alt then 0x100000 else 0

/-- The erase of a copy, sector by sector (R91, R92). Each operation is a write enable, the operation, and the status read that finds it
done (DESIGN CHOICE, log 116). -/
def flashErase (alt : Bool) : List FlashCmd :=
  (List.range 256).flatMap (fun k => [.writeEnable, .sectorErase (copyBase alt + 4096 * k), .readStatus])

/-- The program of bytes from an address, cut at the ends of the 256-byte pages; `n` bounds the pages. -/
def flashProgram : Nat → Nat → List Byte → List FlashCmd
  | 0, _, _ => []
  | n + 1, a, b =>
    if b.isEmpty then []
    else
      let k := 256 - a % 256
      [.writeEnable, .pageProgram a (b.take k), .readStatus] ++ flashProgram n (a + k) (b.drop k)

/-- Bytes are written at an offset of a copy (R91). -/
def flashWrite (alt : Bool) (offset : Nat) (bytes : List Byte) : List FlashCmd :=
  flashProgram bytes.length (copyBase alt + offset) bytes

/-! ## Keep-store (R97, R98) -/

/-- Store a value at consecutive keys from `o`, without those equal to the default. -/
def cellList {α : Type} [DecidableEq α] (dflt : Nat → α) (o : Nat) : List α → List (Nat × α)
  | [] => []
  | v :: t => if v = dflt o then cellList dflt (o + 1) t else (o, v) :: cellList dflt (o + 1) t

/-- Write consecutive keys from `o`. -/
def cellPutRange {α : Type} [DecidableEq α] (dflt : Nat → α) (o : Nat) (vs : List α) (l : List (Nat × α)) :
    List (Nat × α) :=
  l.filter (fun c => decide (c.1 < o)) ++ cellList dflt o vs ++ l.filter (fun c => decide (o + vs.length ≤ c.1))

/-- Read `n` consecutive keys from `o`. -/
def cellGetRange {α : Type} (dflt : Nat → α) (l : List (Nat × α)) (o n : Nat) : List α :=
  (List.range n).map (fun i => cellGet dflt l (o + i))

/-- What a byte of the keep-store that nothing has written reads as: the identity region of manufacture,
else 0 (DESIGN CHOICE, log 6). -/
def ksDflt (a : Nat) : Byte := if a < 4096 then Config.identityByte a else 0

/-- This device's own identity: 8 bytes of the identity region of the keep-store (R98, R373); where in its 4,096 bytes they stand, the spec does
not state (log 3). -/
def ownId : Nat := leNat ((List.range 8).map (fun i => ksDflt (Config.identityAt % 4089 + i)))

/-- Write bytes at an offset of the keep-store. -/
def State.ksWrite (s : State) (o : Nat) (bs : List Byte) : State :=
  s.onKs (fun k => { k with cells := cellPutRange ksDflt o bs k.cells })

/-- Read bytes of the keep-store. -/
def State.ksRead (s : State) (o n : Nat) : List Byte := cellGetRange ksDflt s.ks.cells o n

/-- Write an entry: its data and, `d` bytes further on, its complement (R97). -/
def State.ksPair (s : State) (o d : Nat) (data : List Byte) : State :=
  (s.ksWrite o data).ksWrite (o + d) (complBytes data)

/-- The data of an entry whose halves complement, `none` for an entry that counts as absent (R97). -/
def State.ksEntry (s : State) (o d n : Nat) : Option (List Byte) :=
  let a := s.ksRead o n
  if s.ksRead (o + d) n = complBytes a then some a else none

/-- A reset-history entry in the slot after the newest one (R85, Table 9). Entries are numbered from 1 and
entry `n` lies in slot `n` mod 64 (DESIGN CHOICE, log 6). -/
def State.resetHistory (s : State) (tb dur cause mode : Nat) : State :=
  let n := s.ks.rstNum + 1
  let data := leBytes 8 tb ++ leBytes 4 dur ++ leBytes 2 cause ++ leBytes 2 mode ++ leBytes 4 n ++ zeros 12
  (s.ksPair (0x1000 + 64 * (n % 64)) 32 data).onKs (fun k => { k with rstNum := n })

/-- A COLD-reason entry (Table 9, R556). -/
def State.coldHistory (s : State) (f : LoadFail) (alt : Bool) : State :=
  let n := s.ks.coldNum + 1
  let data := leBytes 8 s.tb ++ leBytes 4 (f.code + b2n alt * 0x10000) ++ leBytes 2 (f.sect.getD 0xFFFF)
    ++ leBytes 2 (f.entry.getD 0xFFFF) ++ leBytes 4 (f.addr.getD 0xFFFFFFFF) ++ leBytes 4 f.value
    ++ leBytes 4 s.ks.rstNum ++ zeros 4
  (s.ksPair (0x2000 + 64 * (n % 64)) 32 data).onKs (fun k => { k with coldNum := n })

/-! ## Answers and violations (R413 to R416) -/

/-- Reply status codes (Table 4 of the control-port chapter). -/
abbrev St.ack : Nat := 0x00
abbrev St.malformed : Nat := 0x01
abbrev St.sequence : Nat := 0x02
abbrev St.rights : Nat := 0x03
abbrev St.rate : Nat := 0x04
abbrev St.range : Nat := 0x05
abbrev St.state : Nat := 0x06
abbrev St.pair : Nat := 0x07
abbrev St.quarantine : Nat := 0x08
abbrev St.unreach : Nat := 0x09
abbrev St.timeout : Nat := 0x0A
abbrev St.skipped : Nat := 0x0B
abbrev St.busy : Nat := 0x0C

/-- Does a status count as a violation (Table 4)? -/
def isViolation (st : Nat) : Bool := 1 ≤ st && st ≤ 7

/-- The code of a rights class in a fabric header and a VIOLATION record (R415). -/
def clsCode : Cls → Nat
  | .F => 0
  | .A => 1
  | .B => 2
  | .M => 3

/-- The device address of an origin as records show it: of this device where it names none. -/
def State.originDev (s : State) (o : Origin) : Nat :=
  match o.dev with
  | some d => d.toNat
  | none => s.fab.addr.getD 0

/-- The port of this device that a rights class names: 0 CPA, 1 CPB, 2 maintenance. -/
def clsPort : Cls → Fin 3
  | .A => 0
  | .B => 1
  | _ => 2

/-- Stamps of violations of an origin that lie within 1 s before `t`. -/
def State.violsWithin (s : State) (o : Origin) (t : Nat) : Nat :=
  (s.cp.viols.filter (fun v => v.1 == o && decide (v.2 ≤ t) && decide (t < v.2 + 1000000000))).length

/-- Record a violation (R413, R415): it counts for its origin unless it is a RIGHTS refusal with DETAIL 1
(R414), and at a local port it counts in `CP_Pp_ERR`. -/
def State.violation (s : State) (c : Ctx) (addr : Option Nat) (st detail : Nat) : State :=
  let counts := !(st == St.rights && detail == 1)
  let s := s.onCp (fun x =>
    let keep := x.viols.filter (fun v => decide (c.stamp < v.2 + 1000000000))
    { x with
      viols := if counts then keep ++ [(c.o, c.stamp)] else keep
      ports := if c.o.dev.isNone then
          vset x.ports (clsPort c.o.cls) (fun p => { p with
            viol := satInc 16 p.viol
            malf := if st = St.malformed then satInc 16 p.malf else p.malf })
        else x.ports })
  s.emit c.stamp c.unit 7 0
    (leBytes 1 st ++ leBytes 1 c.op ++ leBytes 2 c.tag ++ leBytes 2 c.seq ++ leBytes 1 (clsCode c.o.cls)
      ++ leBytes 1 (s.originDev c.o) ++ leBytes 4 (addr.getD 0xFFFFFFFF) ++ leBytes 2 detail
      ++ leBytes 2 (s.violsWithin c.o c.stamp))

/-- The context of an entry that comes alone: it has no frame, so TAG and SEQ are 0, its instant of origin is
the instant of the command, and its violations come from its local port's unit (DESIGN CHOICE, log 14). -/
def State.ctx (s : State) (o : Origin) (op : Nat) : Ctx :=
  { o := o, op := op, tag := 0, seq := 0, stamp := s.tb, unit := Unit.port (clsPort o.cls).val }

/-- An answer and the violation it may be (R413). `addr`: the address concerned. -/
def State.settleReply (s : State) (c : Ctx) (addr : Option Nat) (r : Reply) : State :=
  if isViolation r.status then s.violation c addr r.status r.detail else s

/-- What a handler of an entry answers. -/
abbrev Res := State × Reply

/-- Done. -/
def ack (s : State) (data : List Byte := []) : Res := (s, { status := St.ack, data := data })

/-- Refused: nothing changes but what the caller states. -/
def nak (s : State) (st : Nat) (detail : Nat := 0) : Res := (s, { status := st, detail := detail })

/-- Is an origin in quarantine (R416)? -/
def State.quarantined (s : State) (o : Origin) : Bool := s.cp.quar.any (fun q => q.1 == o)

/-- How a request of an origin is met before it is looked at: not answered, refused, or served. -/
inductive Gate where
  | silent
  | refuse (st : Nat)
  | serve
  deriving DecidableEq, Repr

/-- Is a request that has been received served (R84, R87, R88, R403, R416, R417)? `op` is its operation, `lo` and `n` the address and the words
of a READ, or 0 and the SUB of a TOKEN entry. -/
def State.gateIn (s : State) (o : Origin) (op lo n : Nat) : Gate :=
  let hi := lo + 4 * n
  match s.pwr.phase with
  | .held | .released | .locked => .silent
  | .failed =>
    if o.cls ≠ .M ∨ o.dev.isSome then .silent
    else if op = 1 ∧ (hi ≤ 0x10000 ∨ (0x100000 ≤ lo ∧ hi ≤ 0x140000)) then .serve
    else .refuse St.state
  | .loading =>
    if o.cls = .M ∧ o.dev.isNone ∧ op = 1 ∧ lo = 0x200 ∧ n = 1 then .serve else .silent
  | .running =>
    if s.mode.mode = .freeze then .silent
    else if o.cls = .F then .refuse St.rights
    else if s.quarantined o ∧ ¬(op = 1 ∧ hi ≤ 0x8000) ∧ ¬(op = 3 ∧ n = 4) then .refuse St.quarantine
    else .serve

/-- Is a request that arrives served? A control port that is not up receives none (R394, R395). -/
def State.gate (s : State) (o : Origin) (op lo n : Nat) : Gate :=
  if s.running && o.cls != .F && o.cls != .M && o.dev.isNone && !s.cp.ports[clsPort o.cls].up then .silent else s.gateIn o op lo n

/-- The pending value of a paired register that an origin has written: address and value (R20). -/
def State.pairOf (s : State) (o : Origin) : Option (Nat × Word) :=
  (s.stg.pairs.find? (fun p => p.1 == o)).map (·.2)

/-- An origin's pending value is given up (R21). -/
def State.pairDrop (s : State) (o : Origin) : State :=
  s.onStg (fun x => { x with pairs := x.pairs.filter (fun p => p.1 != o) })

/-- A frame of the token holder that is answered wholly with ACK renews the lease (R410). -/
def State.renewLease (s : State) (o : Origin) : State :=
  s.onCp (fun x => { x with token := if x.token.holder = some o then { x.token with renewed := s.tb } else x.token })

/-- Frames of an origin are executed one at a time: does a frame or a token request of it wait (R400)? -/
def State.behind (s : State) (o : Origin) : Bool :=
  s.cp.suspended.any (fun f => f.ctx.o == o) || s.cp.token.waiting.any (fun r => r.dest == .entry && r.ctx.o == o)

/-- A command of one entry as the entry of a frame (Table 3). `ws`: the words of a WRITE; `args`: the arguments of an operation that has
neither address nor SUB. -/
def aloneEntry (op : Nat) (addr : Option Nat) (n : Nat) (ws : List Word) (args : List Byte) : Entry :=
  ⟨op, match op with
    | 1 => leBytes 4 (addr.getD 0) ++ leBytes 2 (min n 65535) ++ zeros 2
    | 2 => leBytes 4 (addr.getD 0) ++ leBytes 2 (min ws.length 65535) ++ zeros 2 ++ ws.flatMap (fun w => leBytes 4 w.toNat)
    | 3 => leBytes 1 n ++ zeros 3
    | _ => args⟩

/-- A command that comes behind a frame of its own origin that waits takes its place there (R400). -/
def State.queueAlone (s : State) (c : Ctx) (maint : Bool) (e : Entry) : State :=
  s.onCp (fun x => { x with
    nextId := x.nextId + 1
    suspended := x.suspended ++ [{
      id := x.nextId, via := match c.o.dev with | some d => .fabric d c.o.cls | none => .port (clsPort c.o.cls)
      ctx := c, rest := [e], done := [], used := 0, maint := maint, wanted := true, alone := true }] })

/-- An entry that comes alone is a frame of one entry: it waits behind a frame of its origin that does, and else is done where it is served,
with its violation recorded and its answer kept for its origin. `addr`: the address concerned; `n`: the words of a READ; `raw`: the handler
looks at pending pairs itself. Any other write (operation 2) between the two words of a pair breaks the pair and has no effect (R21).
`ws`, `args`, `maint`: what the entry brings, where it waits; `age`: how long ago the instant of origin of its frame was. -/
def State.entry (s : State) (o : Origin) (op : Nat) (addr : Option Nat) (f : Ctx → State → Res) (n : Nat := 1)
    (raw : Bool := false) (ws : List Word := []) (args : List Byte := []) (maint : Bool := false) (age : Nat := 0) : State :=
  let c := { s.ctx o op with stamp := s.tb - age }
  match s.gate o op (addr.getD 0) n with
  | .silent => s
  | .refuse st =>
    if s.behind o then s.queueAlone c maint (aloneEntry op addr n ws args)
    else (s.settleReply c addr { status := st }).onCp (fun x => { x with answers := x.answers ++ [⟨o, op, { status := st }⟩] })
  | .serve =>
    if s.behind o then s.queueAlone c maint (aloneEntry op addr n ws args)
    else
    let r : Res := if op == 2 && !raw && (s.pairOf o).isSome then nak (s.pairDrop o) St.pair else f c s
    let r : Res := if r.2.status == St.ack && op != 8 then (r.1.renewLease o, r.2) else r
    (r.1.settleReply c (addr.map (fun a => a + 4 * r.2.index)) r.2).onCp (fun x => { x with answers := x.answers ++ [⟨o, op, r.2⟩] })

/-- Is the token holder the origin? -/
def State.holds (s : State) (o : Origin) : Bool := s.cp.token.holder == some o

/-- A rights NAK: DETAIL 1 where the token left that origin within 1 s before the request's instant of origin (R412,
R414). -/
def rightsNak (c : Ctx) (s : State) : Res :=
  nak s St.rights (b2n (s.cp.token.lost.any (fun l => l.1 == c.o && decide (l.2 ≤ c.stamp)
    && decide (c.stamp < l.2 + 1000000000))))

/-- Only the token holder, and where `m` is set class M of this device, may do what follows (R405, R518). -/
def needRights (m : Bool) (c : Ctx) (s : State) (k : State → Res) : Res :=
  if s.holds c.o || (m && c.o.cls == .M) then k s else rightsNak c s

/-! ## The device mode (R108, R109, R124) -/

/-- The code of a mode (Table 1 of the modes chapter). -/
def Mode.code : Mode → Nat
  | .cold => 0
  | .load => 1
  | .hold => 2
  | .drive => 3
  | .limp => 4
  | .brake => 5
  | .safe => 6
  | .freeze => 7

/-- `DEV_MODE` and its time are rewritten. -/
def State.putMode (s : State) (m : Mode) (cause : Nat) : State :=
  s.onMode (fun x => { x with prev := x.mode, mode := m, cause := cause, time := s.clk.tb })

end Sys2Proof.Machine
end

