-- ==== Sys2Proof/Machine/Axis.lean ====
section
/-! DEFINITION. What several families do to a main axis: its state, its bridge, HALT with a fault reaction
(R270 to R272), ASC (R157, R227), STOP (R263), and the reset of its command (R244). -/
namespace Sys2Proof.Machine

/-! ## Parts of the state of one axis -/

def State.modAx (s : State) (n : Fin 6) (f : AxSt → AxSt) : State := s.onAx (fun v => vset v n f)
def State.modEng (s : State) (n : Fin 6) (f : Eng → Eng) : State := s.modAx n (fun x => { x with eng := f x.eng })
def State.modCmd (s : State) (n : Fin 6) (f : CmdAx → CmdAx) : State :=
  s.onCmd (fun c => { c with ax := vset c.ax n f })
def State.modSns (s : State) (n : Fin 6) (f : SnsAx → SnsAx) : State :=
  s.onSns (fun c => { c with ax := vset c.ax n f })
def State.modSdi (s : State) (c : Fin 32) (f : SdiSt → SdiSt) : State :=
  s.onSns (fun x => { x with sdi := vset x.sdi c f })
def State.modAin (s : State) (c : Fin 32) (f : AinSt → AinSt) : State :=
  s.onSns (fun x => { x with ain := vset x.ain c f })
def State.modEnc (s : State) (e : Fin 6) (f : EncSt → EncSt) : State :=
  s.onSns (fun x => { x with enc := vset x.enc e f })
def State.modGd (s : State) (a : Fin 10) (f : GdAx → GdAx) : State :=
  s.onGd (fun g => { g with ax := vset g.ax a f })
def State.modSnt (s : State) (a : Fin 10) (f : Sentinel → Sentinel) : State := s.onSnt (fun v => vset v a f)

/-- A main axis among the ten axes. -/
def axis10 (n : Fin 6) : Fin 10 := ⟨n.val, by omega⟩

/-- An auxiliary axis among the ten axes. -/
def aux10 (x : Fin 4) : Fin 10 := ⟨6 + x.val, by omega⟩

/-- Axis state codes (R125). -/
def AxState.code : AxState → Nat
  | .off => 0
  | .ready => 1
  | .catching => 2
  | .run => 3
  | .stop => 4
  | .asc => 5
  | .halt => 6

/-- The HALT reason that the axis status and the last-state record show: in HALT, and in an ASC in which a reason is recorded (R168, R227,
R272; log 38). -/
def AxSt.haltShown (x : AxSt) : Nat := if x.state = .halt ∨ (x.state = .asc ∧ x.ascFault) then x.haltReason else 0

/-- The states that the sentinel watches: the edge placement unit runs (CATCH, RUN, STOP, ASC). -/
def AxState.watched : AxState → Bool
  | .catching | .run | .stop | .asc => true
  | .off | .ready | .halt => false

/-- OFF, READY or HALT: the axis has stopped (R112, R120). -/
def AxState.quiet : AxState → Bool
  | .off | .ready | .halt => true
  | .catching | .run | .stop | .asc => false

/-- Is the axis allocated (R127)? -/
def State.axAlloc (s : State) (n : Fin 6) : Bool := s.regs.GD_AXn_MAP_EN n
def State.auxAlloc (s : State) (x : Fin 4) : Bool := s.regs.GD_AUXn_MAP_EN x

/-- The half-bridges of a main axis are in link mode (`GD_HB_MODE`). -/
def State.axLink (s : State) (n : Fin 6) : Bool := Nat.testBit s.regs.GD_HB_MODE (s.regs.GD_AXn_MAP_HB_U n)
def State.auxLink (s : State) (x : Fin 4) : Bool := Nat.testBit s.regs.GD_HB_MODE (s.regs.GD_AUXn_MAP_HB_A1 x)

/-- A time in s as whole ns. -/
def nsUp (t : Rat) : Nat := nsOf t

/-- The dead-time interval of R157, ns: the larger of the two dead times. -/
def State.deadNs (s : State) (n : Fin 6) : Nat :=
  max (nsOf (s.regs.GD_AXn_DT_RISE n)) (nsOf (s.regs.GD_AXn_DT_FALL n))

/-- The stop into which an axis takes over: the one it was ordered, or that of a mode which does not permit RUN; a fault keeps its
own (R119, R122, R335). -/
def State.stopInMode (s : State) (k : Option StopKind) : Option StopKind :=
  match k, s.mode.mode with
  | some (.fault r l), _ => some (.fault r l)
  | _, .brake => some .brake
  | _, .safe => some .ss1
  | k, _ => k

/-- The AIN channel of the axis's DC-link voltage. -/
def State.vdcAin (s : State) (n : Fin 6) : Fin 32 := Fin.ofNat 32 (s.regs.SNS_AXn_VIN_VDC n)

/-- The latest valid conversion of the axis's DC-link input, V (R195, R226). -/
def State.vdc (s : State) (n : Fin 6) : Rat := s.sns.ain[s.vdcAin n].lastValid

/-- The ASC speed, rpm (R226); 0 until the DC-link input has delivered a valid conversion. -/
def State.nAsc (s : State) (n : Fin 6) : Rat :=
  let a := s.sns.ain[s.vdcAin n]
  if a.valid then
    s.regs.AXn_ASC_FRAC n * 60 * a.lastValid
      / (2 * Config.pi * (s.regs.AXn_FOC_CFG_POLES n : Rat) * sqrtR 3 * s.regs.AXn_MOT_PSI n)
  else 0

/-- A bound position interface without a declared fault is usable (R217). -/
def State.encUsable (s : State) (n : Fin 6) : Bool := s.regs.SNS_AXn_ENC_EN n && !s.sns.ax[n].fbEnc

/-- The interface bound to an axis. -/
def State.encOf (s : State) (n : Fin 6) : Fin 6 := Fin.ofNat 6 (s.regs.SNS_AXn_ENC_IDX n)

/-- The speed of the angle source, or the last one the engine had, rpm. -/
def State.axSpeed (s : State) (n : Fin 6) : Rat := s.ax[n].eng.speed

/-- A speed for a record, units of 0.1 rpm, two's complement, rounded down (R236; DESIGN CHOICE, log 155). -/
def rpm10 (q : Rat) : Nat := twos 4 ((q * 10).floor)

/-- A quantity in thousandths for a record, two's complement (mA, mV). -/
def milli (q : Rat) : Nat := twos 4 ((q * 1000).floor)

/-! ## Commands -/

/-- The command of an axis is reset to MODE 0 and its CAN and lever arming cleared (R244). -/
def State.resetCommand (s : State) (n : Fin 6) : State :=
  (s.onRegs (fun r => r.set (Reg.AXn_CMD n) (r.get (Reg.AXn_CMD n) &&& 0xFFFFFFF8#32))).modCmd n
    (fun c => { c with
      mode := 0, ownMode := 0, heave := false, levRun := false, levArmed := false, levXu := 0, startNext := false, crashOrd := false, crashNext := false
      can := { c.can with armed := false } })

/-- A crash stop ends with its record (R266). -/
def State.crashEnd (s : State) (n : Fin 6) : State :=
  if s.cmd.ax[n].crash then
    (s.modCmd n (fun c => { c with crash := false, crashOrd := false, crashNext := false, crashOff := false, crashSeen := false })).event s.tb
      (Unit.ax n) 0x0A05 0 (rpm10 s.cmd.ax[n].crashSet)
  else s.modCmd n (fun c => { c with crashOrd := false, crashNext := false, crashOff := false, crashSeen := false })

/-! ## Bridge and state -/

/-- The edge placement unit of an axis stops: updates in progress are given up, and refresh insertion ends without a record (R49,
R145). A late result of a miss still completes and writes its record (R50), and a halving of the carrier that has been selected still takes
effect (R52). -/
def State.epuStop (s : State) (a : Fin 10) : State :=
  (s.modSnt a (fun q => { q with upds := [], react := if q.react = 1 then 1 else 0, clearSince := none, clearMax := 0 })).modGd a
    (fun g => { g with refresh := false, uvCnt := 0 })

/-- The edge placement unit of an axis starts: its count of misses is zero (R52). The engine is busy until a late result of before is
complete (R51). -/
def State.epuStart (s : State) (a : Fin 10) : State :=
  s.modSnt a (fun q => { q with upds := [], consec := 0, react := if q.react = 1 then 1 else 0, clearSince := none, clearMax := 0 })

/-- The edge placement unit of a main axis starts; an angle difference of before counts for nothing (R201). -/
def State.epuFresh (s : State) (n : Fin 6) : State :=
  (s.epuStart (axis10 n)).modSns n (fun q => { q with encDiff := none })

/-- A main axis enters a state in which its bridge is off: OFF, READY or HALT. An ASC that ends so leaves its peak (R230, R231).
What the last update showed stays (R209; DESIGN CHOICE, log 155). -/
def State.axDown (s : State) (n : Fin 6) (st : AxState) : State :=
  ((s.crashEnd n).epuStop (axis10 n)).modAx n (fun x =>
    { x with
      state := st, bridge := if x.bridge = .soft then .soft else .off, set := {}, posted := none, result := none, run := none
      lastVA := 0, lastVB := 0
      ascFault := false, blind := false, startWait := none, still := none
      cat := {}, refT := 0, refId := 0, refN := 0, stopFree := false
      ipk := if x.state = .asc then x.ascSt.peak else x.ipk, ascSt := {}
      eng := { x.eng with ifPhase := .none, angSrc := .none, t1 := 0, t2 := 0, speeds := [] } })

/-- A main axis enters HALT with its bridge off: the reason is kept with it and its command is reset. -/
def State.axHaltOff (s : State) (n : Fin 6) (reason : Nat) : State :=
  ((s.axDown n .halt).modAx n (fun x => { x with haltReason := reason })).modGd (axis10 n)
      (fun g => { g with testPassed := false })
    |>.resetCommand n

/-! ## Active short circuit -/

/-- Every high-side supply of an axis reads at least 9.0 V: no comparator is set (R141, R157). -/
def State.hsReady (s : State) (a : Fin 10) : Bool := s.gd.ax[a].hsUv == 0

/-- The current of an axis is measured by reconstruction alone, so that in ASC it has no current measurement (R184, R230). -/
def State.noCurrent (s : State) (n : Fin 6) : Bool := s.sns.ax[n].fbSdi != 0

/-- Such an axis has no usable encoder either (R230). -/
def State.blindNow (s : State) (n : Fin 6) : Bool := s.noCurrent n && !s.encUsable n

/-- A main axis enters ASC: every switch off, and after the dead-time interval the switches of one side turn
on (R157, R227); refresh insertion ends without a record (R145). `offAt`: the instant at which the switches turn off. -/
def State.ascEnter (s : State) (n : Fin 6) (cause : Nat) (high follow : Bool) (offAt : Nat)
    (coast : Option (Nat × Rat)) : State :=
  let blind := s.blindNow n
  let peak : Option Rat := if s.noCurrent n then none else some 0
  let from' := s.ax[n].state
  let s := if from'.watched then s else s.epuFresh n
  let s := s.modGd (axis10 n) (fun g => { g with refresh := false, uvCnt := 0 })
  (s.crashEnd n).modAx n (fun x =>
    { x with
      state := .asc, bridge := .ascWait, posted := none, run := none, startWait := none, cat := {}
      ascFault := cause == 2, blind := blind, ipk := peak
      ascSt :=
        { cause := cause, onAt := if follow then offAt else offAt + s.deadNs n, offAt := if follow then offAt - 20 else offAt
          since := s.tb, high := high, follow := follow, from' := from', coast := coast, stop := x.cat.stop
          blindEnd := if blind then some (s.tb + nsOf (s.regs.AXn_ASC_BLIND_T n)) else none
          below := if absR x.eng.speed < 4 / 5 * s.nAsc n then some s.tb else none
          peak := peak } })

/-- Why no ASC is taken (R271): the protection latch is set and the axis is not in an ASC that R150 permits, a VDRV monitor is set,
torque is removed by a safety channel, or the device is in FREEZE. -/
def State.ascBarred (s : State) (n : Fin 6) : Bool :=
  (s.gd.ax[axis10 n].latched && !(s.ax[n].state == .asc && s.ax[n].ascSt.follow)) || s.gd.uv || s.gd.ov || !s.gd.swClosed || s.gd.blocked || s.mode.mode == .freeze

/-! ## Fault reactions (R270, R271) -/

/-- Fault classes (Table 2 of the shock chapter). -/
inductive FltClass where
  | none | short | bridge | oc | sensor | los | ov | timeout | temp
  deriving DecidableEq, Repr

/-- The reaction of a class: 0 coast, 1 ASC, 2 ramp stop (`AXn_FLT_REACT`). -/
def State.reaction (s : State) (n : Fin 6) : FltClass → Nat
  | .none => 0
  | .short => s.regs.AXn_FLT_REACT_SHORT n
  | .bridge => s.regs.AXn_FLT_REACT_BRIDGE n
  | .oc => s.regs.AXn_FLT_REACT_OC n
  | .sensor => s.regs.AXn_FLT_REACT_SENSOR n
  | .los => s.regs.AXn_FLT_REACT_LOS n
  | .ov => s.regs.AXn_FLT_REACT_OV n
  | .timeout => s.regs.AXn_FLT_REACT_TIMEOUT n
  | .temp => s.regs.AXn_FLT_REACT_TEMP n

/-- The ASC side of an axis that its image names, true for high (R157). -/
def State.ascSide (s : State) (n : Fin 6) : Bool := s.regs.GD_AXn_CFG_ASC_SIDE n

/-- A ramp stop by LATE on an axis that ramps already under BRAKE: only the final HALT reason changes (R56). -/
def State.lateInBrake (s : State) (n : Fin 6) (k : StopKind) : Bool :=
  s.ax[n].state == .stop && s.mode.mode == .brake && (match k with | .fault _ late => late | _ => false)

/-- A main axis enters STOP for `k` (R119, R243, R263). An axis in CATCH whose measurement has not ended
completes it first and enters STOP when it takes over (R225). In ASC and in the quiet states nothing changes. -/
def State.axStop (s : State) (n : Fin 6) (k : StopKind) : State :=
  let x := s.ax[n]
  let inStop := x.state == .stop
  let enters := x.state == .run || (x.state == .catching && x.cat.decided)
  if x.state = .catching ∧ !x.cat.decided ∧ k ≠ .command then
    s.modAx n (fun x => { x with
      haltReason := match k with | .fault r _ => r | _ => x.haltReason
      cat := { x.cat with stop := match x.cat.stop, k with
        | some (.fault r l), .brake | some (.fault r l), .ss1 => some (.fault r l)
        | _, _ => some k } })
  else if !inStop && !enters then s
  else
    let keep : StopKind :=
      match inStop, x.stopKind, k with
      | true, _, .fault r l => .fault r l
      | true, .fault r l, _ => .fault r l
      | _, _, _ => k
    let c := s.cmd.ax[n]
    let s :=
      if k = .command ∨ (c.speedLoop ∧ !c.grp) then s
      else s.modCmd n (fun c => { c with r := c.nf, a := 0, int := c.tStar, speedLoop := true, grp := false })
    let s := if k = .command then s else s.modCmd n (fun c => { c with icePhase := 0 })
    s.modAx n (fun x =>
      { x with
        state := .stop, stopKind := keep, still := if inStop then x.still else none, cat := {}
        stopAt := match k with
          | .fault _ _ =>
            if s.lateInBrake n k then x.stopAt
            else (match inStop && !x.stopFree, x.stopKind with | true, .fault _ _ => x.stopAt | _, _ => s.tb)
          | _ => if inStop then x.stopAt else s.tb
        stopFree := match k with
          | .fault _ _ => s.lateInBrake n k && (match x.stopKind with | .fault _ _ => x.stopFree | _ => true)
          | _ => inStop && x.stopFree
        haltReason := match k with | .fault r _ => r | _ => x.haltReason })

/-- HALT with the reaction of a fault class (R270, R271). A reaction of coast is replaced by an ASC of
cause 2 at or above n_ASC; in an ASC any other reaction makes it one of cause 2 (R235); no ASC is taken where R271 bars it. An axis that is in HALT already stays as it is. -/
def State.axFault (s : State) (n : Fin 6) (reason : Nat) (cls : FltClass) : State :=
  let code := s.reaction n cls
  let x := s.ax[n]
  if x.state = .halt then s
  else if code = 2 ∧ x.state.watched ∧ x.state ≠ .asc then s.axStop n (.fault reason false)
  else if cls = .none ∨ s.ascBarred n then s.axHaltOff n reason
  else if x.state = .asc then
    let on := x.bridge == .ascLow || x.bridge == .ascHigh
    if code ≠ 0 ∨ s.nAsc n ≤ absR x.eng.speed then
      let s := (s.modAx n (fun x => { x with
        haltReason := reason, ascFault := true
        bridge := if x.ascSt.resume.isSome then .ascWait else x.bridge
        ascSt := { x.ascSt with
          cause := 2, resume := none, onAt := (x.ascSt.resume.getD x.ascSt.onAt)
          coast := if code ≠ 0 ∨ on then x.ascSt.coast else some (1, x.eng.speed) } })).resetCommand n
      if code ≠ 0 ∨ !on then s else s.event x.ascSt.onAt (Unit.ax n) 0x0A09 1 (rpm10 x.eng.speed)
    else s.axHaltOff n reason
  else if code = 1 then
    ((s.ascEnter n 2 (s.ascSide n) false s.tb none).modAx n (fun x => { x with haltReason := reason })).resetCommand n
  else if s.nAsc n ≤ absR x.eng.speed then
    ((s.ascEnter n 2 (s.ascSide n) false s.tb (some (1, x.eng.speed))).modAx n
      (fun x => { x with haltReason := reason })).resetCommand n
  else s.axHaltOff n reason

/-- An axis in HALT with its bridge off is shorted: ASC of cause 2, its HALT reason unchanged (R272). -/
def State.coastAsc (s : State) (n : Fin 6) (speed : Rat) : State :=
  if s.ax[n].state = .halt ∧ s.ax[n].bridge = .off ∧ !s.ascBarred n then s.ascEnter n 2 (s.ascSide n) false s.tb (some (2, speed)) else s

/-- An axis in HALT whose encoder shows at least n_ASC is shorted (R272). -/
def State.encCoast (s : State) (n : Fin 6) : State :=
  let v := s.sns.enc[s.encOf n].speed
  if s.axAlloc n ∧ s.ax[n].state = .halt ∧ s.encUsable n ∧ s.nAsc n ≤ absR v then s.coastAsc n v else s

/-- Torque is removed by a safety channel: every axis is OFF or stays in HALT (R231, R334). -/
def State.axSto (s : State) (n : Fin 6) : State :=
  if !s.axAlloc n || s.ax[n].state == .halt then s else (s.axDown n .off).modAx n (fun x => { x with haltReason := 0 })

/-! ## CATCH entry -/

/-- A main axis enters CATCH (R222, R143): its edge placement unit starts, unless the axis comes from a state in which it runs
(R52), its engine starts afresh, and an accepted zero offset comes into force (R176). -/
def State.catchEnter (s : State) (n : Fin 6) (attempt : Nat) (blind : Bool) (coast : Option Nat)
    (stop : Option StopKind) : State :=
  let s := if s.ax[n].state.watched then s else s.epuFresh n
  let s := s.modSns n (fun q => { q with
    dcsZero := q.dcsZeroNext.getD q.dcsZero, dcsZeroNext := none, samples := [], rejectAt := [], hold := none })
  let s := (List.finRange 32).foldl (fun s c =>
    if s.regs.SNS_SDIc_CFG_EN c && s.regs.SNS_SDIc_CFG_ROLE c && s.regs.SNS_SDIc_CFG_AXIS c == n.val then
      s.modSdi c (fun d => { d with zero := d.zeroNext.getD d.zero, zeroNext := none })
    else s) s
  s.modAx n (fun x =>
    { x with
      state := .catching, bridge := .off, set := {}, posted := none, result := none, run := none, startWait := none, lastVA := 0, lastVB := 0
      haltReason := 0, ascFault := false, blind := false, ascSt := {}
      cat := { since := s.tb, attempt := attempt, blind := blind, coast := coast, stop := stop }
      eng := { x.eng with
        intD := 0, intQ := 0, idFw := 0, vPrev := 0, ifPhase := .none, settled := none, locked := none
        carry := Vector.replicate 3 0, t1 := 0, t2 := 0, speeds := [], obsOk := false } })

/-- The channels of a main axis: the enabled phase-current channel of each phase. -/
def State.sdiOf (s : State) (n : Fin 6) (p : Fin 3) : Option (Fin 32) :=
  (List.finRange 32).find? (fun c => s.regs.SNS_SDIc_CFG_EN c && s.regs.SNS_SDIc_CFG_ROLE c
    && s.regs.SNS_SDIc_CFG_AXIS c == n.val && s.regs.SNS_SDIc_CFG_PHASE c == p.val)

/-- The MCLK period of a channel's modulator clock, ns (R72, R170). -/
def Regs.mclkNs (r : Regs) (c : Nat) : Nat := 2 * r.TB_MCLK_m (c / 8)

/-- The carrier period of an axis at frequency `f`, ns (R205). -/
def periodNs (f : Rat) : Nat := nsOf (1 / f)

/-- TB_NOW of extreme `k` of a carrier of frequency `f` with a valley at `v0`: even numbers are valleys, odd ones peaks (R205). An instant
is kept in whole ns, rounded down (DESIGN CHOICE, log 144). -/
def extremeAt (v0 : Nat) (f : Rat) (k : Nat) : Nat := v0 + ((k : Rat) * (500000000 / f)).floor.toNat

/-- The number of the first extreme of a carrier at or after TB_NOW `t`. -/
def extremeFrom (v0 : Nat) (f : Rat) (t : Nat) : Nat := (-(((v0 : Rat) - (t : Rat)) / (500000000 / f)).floor).toNat

/-- The number of the last extreme of a carrier that lies before TB_NOW `t`; 0 where none does. -/
def extremeBefore (v0 : Nat) (f : Rat) (t : Nat) : Nat := extremeFrom v0 f t - 1

/-- The extreme of a carrier that lies in the tick of 2 ns that begins at TB_NOW `t`: its number and its instant (R13). -/
def extremeIn (v0 : Nat) (f : Rat) (t : Nat) : Option (Nat × Nat) :=
  if f = 0 then none
  else
    let k := extremeBefore v0 f (t + 2)
    let x := extremeAt v0 f k
    if t ≤ x ∧ x < t + 2 then some (k, x) else none

/-- The edge-update instant of an update sampled at extreme `k`: the next extreme where the axis updates twice a period, else the next
valley (R206). -/
def edgeAfter (v0 : Nat) (f : Rat) (twice : Bool) (k : Nat) : Nat := extremeAt v0 f (if twice then k + 1 else k + 2)

/-- The frequency in force of an axis, Hz: its committed frequency until the first change. -/
def State.freqOf (s : State) (a : Fin 10) : Rat := s.snt[a].freq

/-- The update interval of a main axis, ns (R206). -/
def State.tuNs (s : State) (n : Fin 6) : Nat :=
  periodNs (s.freqOf (axis10 n)) / (if s.regs.AXn_FOC_CFG_UPD n then 2 else 1)

/-- The update interval, s. -/
def State.tuS (s : State) (n : Fin 6) : Rat :=
  1 / s.freqOf (axis10 n) / (if s.regs.AXn_FOC_CFG_UPD n then 2 else 1)

/-- The SDI filter delay of an axis, ns: 3 × OSR / f_MCLK of its phase U channel (R172). -/
def State.filterNs (s : State) (n : Fin 6) : Nat :=
  match s.sdiOf n 0 with
  | some c => 3 * s.regs.SNS_SDIc_OSR c * s.regs.mclkNs c
  | none => 0

end Sys2Proof.Machine
end

