-- ==== Sys2Proof/Machine/Flags.lean ====
section
/-! DEFINITION. The status words that are computed from the state: `DEV_DEGR`, `DEV_STOPCAUSE`, the order in which
their bits arose (R116, R117, R118, Table 8 of the modes chapter), the safety demand, and the STATE record of a mode
change (R124). -/
namespace Sys2Proof.Machine

/-- Bit `b` of `DEV_DEGR` (R117, Table 4): 0 to 5 halved PWM after a LATE reaction, from its selection until clearance
is met; 6 a calibration fault; 8 to 13 phase current sensors; 16 to 21 DC-link return paths; 24 to 29 position
sensors. -/
def State.degrBit (s : State) (b : Nat) : Bool :=
  let n : Fin 6 := Fin.ofNat 6 (b % 8)
  if b % 8 < 6 then
    match b / 8 with
    | 0 => (s.snt[axis10 n].react == 1 || s.snt[axis10 n].halved) && !s.snt[axis10 n].clearOk
    | 1 => s.sns.ax[n].fSdi != 0
    | 2 => s.sns.ax[n].fDcs
    | 3 => s.sns.ax[n].fEnc
    | _ => false
  else b == 6 && s.tbs.calFail != 0

/-- `DEV_DEGR`. -/
def State.degr (s : State) : Nat := maskOf 32 s.degrBit

/-- `DEV_STOPCAUSE` (R118, Table 5). -/
def State.stopCause (s : State) : Nat := s.mode.stop.toNat

/-- Set or clear a bit of `DEV_STOPCAUSE`. -/
def State.setStop (s : State) (b : Nat) (v : Bool) : State :=
  s.onMode (fun m => { m with
    stop := if v then m.stop ||| BitVec.ofNat 7 (2 ^ b) else m.stop &&& ~~~ (BitVec.ofNat 7 (2 ^ b)) })

/-- Keep the order of the bits that are set, each once: those cleared leave, those newly set join at the end. -/
def seenNext (seen : List Nat) (n : Nat) (p : Nat → Bool) : List Nat :=
  ((seen ++ List.range n).filter (fun b => decide (b < n) && p b)).eraseDups

/-- After every command: the order in which causes arose is brought up to date. -/
def State.settle (s : State) : State :=
  s.onMode (fun m => { m with
    degrSeen := seenNext m.degrSeen 32 s.degrBit
    stopSeen := seenNext m.stopSeen 7 (fun b => m.stop.getLsbD b) })

/-- The outcome of every command of this model. -/
def done (s : State) : Host.Outcome State Fault Refusal := .next s.settle

/-- An image session that is open is abandoned (R92, R418). -/
def State.imgAbandon (s : State) : State :=
  if s.cp.image.state = 0 then s
  else (s.onCp (fun x => { x with image := { x.image with state := 0, result := 2, owner := none } })).event s.tb (Unit.port 2)
    0x0F03 3 s.cp.image.bytes

/-- A change of the device mode (R109): `DEV_MODE` and its time, and a STATE record for a change into HOLD, DRIVE, LIMP,
BRAKE or SAFE (R124). Leaving HOLD abandons an image session (R92). -/
def State.changeMode (s : State) (m : Mode) (cause detail : Nat) (flags : Nat := 0) : State :=
  let prev := s.mode.mode
  let s := s.putMode m cause
  match m with
  | .cold | .load | .freeze => s
  | .hold | .drive | .limp | .brake | .safe =>
    let s := s.emit s.tb Unit.dev 3 flags
      (leBytes 1 m.code ++ leBytes 1 prev.code ++ leBytes 2 cause ++ leBytes 4 detail ++ leBytes 4 s.degr
        ++ leBytes 4 s.stopCause)
    if m = .hold then s else s.imgAbandon

end Sys2Proof.Machine
end

