-- ==== Sys2Proof/Machine/AuxAxis.lean ====
section
/-! DEFINITION. What several families do to an auxiliary axis: its states, its bridge, HALT, STOP, the loss of its position
(R304 to R306, R313) and the reset of its command. -/
namespace Sys2Proof.Machine

/-- Change one auxiliary axis. -/
def State.modAux (s : State) (x : Fin 4) (f : AuxAx → AuxAx) : State := s.onAux (fun v => vset v x f)

/-- State codes (R125). -/
def AuxState.code : AuxState → Nat
  | .off => 0
  | .ready => 1
  | .homing => 2
  | .run => 3
  | .stop => 4
  | .halt => 5

/-- HOMING, RUN, STOP: the edge placement unit runs. -/
def AuxState.watched : AuxState → Bool
  | .homing | .run | .stop => true
  | .off | .ready | .halt => false

/-- A position in the range of a 32-bit two's complement number (R296). -/
def wrapPos (p : Rat) : Rat := p - 4294967296 * ((p + 2147483648) / 4294967296).floor

/-- The position in microsteps. -/
def AuxAx.p (a : AuxAx) : Int := a.eng.pos.floor

/-- The position for a record, two's complement. -/
def AuxAx.pBits (a : AuxAx) : Nat := twos 4 a.p

/-- The position becomes `p`, also in a result that is not yet posted, which goes on from there (R310, R311). -/
def State.auxSetPos (s : State) (x : Fin 4) (p : Int) : State :=
  s.modAux x (fun a => { a with
    eng := { a.eng with pos := (p : Rat) }
    result := a.result.map (fun q => (q.1, { q.2 with pos := wrapPos ((p : Rat) + (q.2.pos - a.eng.pos)) })) })

/-- The position is lost. -/
def State.auxLost (s : State) (x : Fin 4) : State := s.modAux x (fun a => { a with valid := false, homed := false })

/-- The command of an auxiliary axis is reset to STOP, also where a tick has read another (R305). -/
def State.auxResetCommand (s : State) (x : Fin 4) : State :=
  (s.onRegs (fun r => r.set (Reg.AUXn_CMD x) 0)).modAux x (fun a => { a with mode := 0, next := none })

/-- The bridge of an auxiliary axis turns off and the axis enters OFF, READY or HALT: the position stays valid only with
STILL set, and a homing that was running leaves it lost (R313, R310). -/
def State.auxDown (s : State) (x : Fin 4) (st : AuxState) : State :=
  (s.epuStop (aux10 x)).modAux x (fun a =>
    let keep := (a.still && a.home == .none) || !(a.energised || a.state.watched)
    { a with
      state := st, energised := false, valid := a.valid && keep, homed := a.homed && keep
      result := none, n0 := 0, n1 := 0, nNext := 0, zeroAt := none, fallAt := none, arrived := false, check := none
      startWait := none, home := .none, tries := 0, half := false
      eng := { a.eng with iA := 0, iB := 0, uA := 0, uB := 0, wA := 0, wB := 0, eA := 0, eB := 0, ts := 0, checkBad := none } })

/-- An auxiliary axis enters HALT with its bridge off. -/
def State.auxHalt (s : State) (x : Fin 4) (reason : Nat) : State :=
  (((s.auxDown x .halt).modAux x (fun a => { a with haltReason := reason })).modGd (aux10 x)
    (fun g => { g with testPassed := false })).auxResetCommand x

/-- An auxiliary axis in HOMING or RUN enters STOP; a homing counts as not done (R119, R306). A fault outlasts another
stop; for one in STOP it takes over. -/
def State.auxStop (s : State) (x : Fin 4) (k : StopKind) : State :=
  let a := s.aux[x]
  let keep : StopKind :=
    match a.state == .stop, a.stopKind, k with
    | true, .fault r l, .command | true, .fault r l, .brake | true, .fault r l, .ss1 => .fault r l
    | _, _, _ => k
  let s := if a.home == .none then s else (s.modAux x (fun a => { a with home := .none, tries := 0, half := false })).auxLost x
  match a.state with
  | .homing | .run | .stop =>
    s.modAux x (fun a =>
      { a with
        state := .stop, stopKind := keep, check := none, arrived := false
        stopAt := if a.state == .stop then a.stopAt else s.tb
        haltReason := match k with | .fault r _ => r | _ => a.haltReason })
  | .off | .ready | .halt => s

/-- Is a limit input enabled? -/
def State.limEn (s : State) (x : Fin 4) (positive : Bool) : Bool :=
  if positive then s.regs.AUXn_LIM_CFG_POS_EN x else s.regs.AUXn_LIM_CFG_NEG_EN x

/-- Both enabled limits are tripped (R308). -/
def State.limBoth (s : State) (x : Fin 4) : Bool :=
  s.limEn x false && s.limEn x true && s.aux[x].neg.tripped && s.aux[x].posi.tripped

/-- An auxiliary axis becomes READY; with both limits tripped it enters HALT at once (R308). -/
def State.auxReady (s : State) (x : Fin 4) : State :=
  if s.limBoth x then
    (s.auxHalt x 0x0C06).event (max s.aux[x].neg.since s.aux[x].posi.since) (Unit.aux x) 0x0C06 0 s.aux[x].pBits
  else s.modAux x (fun a => { a with state := .ready, haltReason := 0 })

/-- Torque is removed by a safety channel: the axis is OFF or stays in HALT. -/
def State.auxSto (s : State) (x : Fin 4) : State :=
  if !s.auxAlloc x || s.aux[x].state == .halt then s
  else (s.auxDown x .off).modAux x (fun a => { a with haltReason := 0 })

/-- An auxiliary axis starts into RUN or HOMING: its edge placement unit starts, its engine starts afresh, and a start into
RUN with a valid position begins with the start check (R315). In link mode there is none (R311). Until its first set its legs run at
equal duties, which give no voltage (DESIGN CHOICE, log 119). -/
def State.auxStart (s : State) (x : Fin 4) (st : AuxState) : State :=
  let chk := st == .run && s.aux[x].valid && !s.auxLink x
  (s.epuStart (aux10 x)).modAux x (fun a =>
    { a with
      state := st, energised := true, haltReason := 0, startWait := none, n0 := 0, n1 := 0, nNext := 0
      duty := Vector.replicate 4 (1 / 2), dead := s.regs.GD_AUXn_DT x, setAt := s.tb, posted := none, was := Vector.replicate 4 (false, (s.tb : Rat))
      zeroAt := some s.tb, fallAt := none, arrived := false
      check := if chk then some (s.tb + nsOf (s.regs.AUXn_KEEP_CHK_T x)) else none
      home := if st == .homing then .approach else .none, tries := 0, half := false, homeFrom := a.eng.odo
      homeSpd := s.regs.AUXn_HOME_SPD x
      eng := { a.eng with
        amp := if chk then s.regs.AUXn_I_HOLD x else s.regs.AUXn_I_RUN x
        iRefA := 0, iRefB := 0, uA := 0, uB := 0, wA := 0, wB := 0, eA := 0, eB := 0, ts := 0, checkBad := none
        strong := s.regs.AUXn_QS_SPD x == 0 && !s.auxLink x } })

end Sys2Proof.Machine
end

