-- ==== Sys2Proof/Machine/Legs.lean ====
section
/-! DEFINITION. The legs of a bridge (chapter 06): the grid on which edges are placed (R13, R71), the command of each leg and the
instants of its turn-ons (R135, R205), the duty cap of refresh insertion (R143) and the interlock (R136). -/
namespace Sys2Proof.Machine

/-- A time in a set, s, as the edge placement unit `u` places it: on the nearest place of the 0.25 ns grid (R13; the rounding is a
DESIGN CHOICE, log 115), or after a calibration fault of the unit on the 2 ns tick, rounded down (R71). -/
def State.onGrid (s : State) (u : Nat) (t : Rat) : Rat :=
  let k := (t * 4000000000 + 1 / 2).floor
  ((if s.tbs.calFail.getLsbD u then k / 8 * 8 else k : Int) : Rat) / 4000000000

/-- The largest duty under refresh insertion (R143). -/
def dMax (f : Rat) : Rat := min (98 / 100) (1 - f / 1000000)

/-- The edges of the halves of a set with every on-time cut to the part `dm` of its half (R143); `up`: in the first one the high
sides turn on. -/
def capEdges {k : Nat} (dm half : Rat) : Bool → List (Vector Rat k) → List (Vector Rat k)
  | _, [] => []
  | up, e :: l => (if up then e.map (max ((1 - dm) * half)) else e.map (min (dm * half))) :: capEdges dm half (!up) l

/-- The command of a leg at `x` after the start of a set, and the instant of its turn-on: high side true (R135, R205). `up`: in the
first half the high sides turn on; `l`: the command edge of the leg in each half; `p`: the command at the start and its turn-on.
A switch turns off at the command edge and its partner turns on a dead time later. Times in s from the start of the set. -/
def legCommand (rise fall half : Rat) (up : Bool) (p : Bool × Rat) (x : Rat) : List Rat → Bool × Rat
  | [] => p
  | e :: l =>
    let dead (h : Bool) : Rat := if h then rise else fall
    let first := if 0 < e then !up else up
    let p0 := if p.1 = first then p else (first, dead first)
    let p1 := if 0 < e ∧ e < half then (up, e + dead up) else p0
    if x < half ∨ l = [] then (if x < e then p0 else p1)
    else
      let q := legCommand rise fall half (!up) (p1.1, p1.2 - half) (x - half) l
      (q.1, q.2 + half)

/-- What the interlock of a leg passes of its two commands, as high and low gate (R136): a switch turns on only once the command of
its partner has been off for 20 ns, and never while that is on. `hiOff`, `loOff`: the instants, ns, at which each command last went
off; `t`: now. -/
def interlock (hi lo : Bool) (hiOff loOff t : Rat) : Bool × Bool :=
  (hi && !lo && decide (loOff + 20 ≤ t), lo && !hi && decide (hiOff + 20 ≤ t))

/-- The half that starts at TB_NOW `t` is one in which the high sides turn on: it starts at a carrier valley (R205). -/
def risingAt (valley : Nat) (f : Rat) (t : Nat) : Bool := extremeBefore valley f (t + 1) % 2 == 0

/-- The command edges of a leg, one for each half of a set, as the unit `u` places them now (R13, R71): each from the start of its half,
the first of which begins `o` after the start of the set. -/
def State.legEdges (s : State) (u : Nat) (half : Rat) : Rat → List Rat → List Rat
  | _, [] => []
  | o, e :: l => (s.onGrid u (o + e) - o) :: s.legEdges u half (o + half) l

/-- The command of leg `k` of a main axis that modulates, and TB_NOW, ns, of that turn-on, at TB_NOW `t`: by the edges and the dead times
of the set in force (R32, R135), as its unit places them. -/
def State.legAt (s : State) (n : Fin 6) (k : Fin 3) (t : Nat) : Bool × Rat :=
  let x := s.ax[n]
  let half := 1 / x.set.freq / 2
  let q := legCommand (s.onGrid n x.set.rise) (s.onGrid n x.set.fall) half x.set.rising
    (x.was[k].1, (x.was[k].2 - x.setAt) / 1000000000) (secOf (t - x.setAt)) (s.legEdges n half 0 (x.set.edges.map (fun e => e[k])))
  (q.1, x.setAt + q.2 * 1000000000)

/-- The legs whose low side a set turns on, whose halves' command edges are these; `up`: in the first one the high sides turn on (R137, R205). -/
def lowLegs {k : Nat} (half : Rat) (up : Bool) : List (Vector Rat k) → Fin k → Bool
  | [], _ => false
  | e :: l, i => (if up then decide (0 < e[i]) else decide (e[i] < half)) || lowLegs half (!up) l i

/-- The commands with which the legs of a bridge that was off begin a set that starts at `t`: there every switch may turn on at
once. -/
def State.legsBegin (s : State) (n : Fin 6) (t : Nat) : Vector (Bool × Rat) 3 :=
  let x := s.ax[n].set
  Vector.ofFn (fun k => (match x.edges with | e :: _ => (if 0 < e[k] then !x.rising else x.rising) | [] => false, (t : Rat)))

/-- The command edges of leg `k` of an auxiliary axis in the two halves of a period (R298). -/
def State.auxEdges (s : State) (x : Fin 4) (k : Fin 4) : List Rat :=
  let half := 1 / s.freqOf (aux10 x) / 2
  let d := s.aux[x].duty[k]
  s.legEdges (6 + x.val) half 0 [(1 - d) * half, d * half]

/-- The command of leg `k` of an energised auxiliary axis, and TB_NOW, ns, of that turn-on, at TB_NOW `t` (R135, R298). -/
def State.auxLegAt (s : State) (x : Fin 4) (k : Fin 4) (t : Nat) : Bool × Rat :=
  let a := s.aux[x]
  let dead := s.onGrid (6 + x.val) a.dead
  let q := legCommand dead dead (1 / s.freqOf (aux10 x) / 2) true (a.was[k].1, (a.was[k].2 - a.setAt) / 1000000000) (secOf (t - a.setAt))
    (s.auxEdges x k)
  (q.1, a.setAt + q.2 * 1000000000)

/-- The instant on the clock of the gate-drive die: TB_NOW, and in FREEZE, where TB_NOW stands at t_F and the die runs on, t_F and the time
since (R498, R500). -/
def State.gdTime (s : State) : Nat :=
  match (if s.mode.mode = .freeze then s.frz.frozen else none) with
  | some f => s.tb + (s.now - f.since)
  | none => s.tb

/-- The instant at which the low sides of a freeze-safe ASC turn on: the dead-time interval, which the interlock holds to 20 ns at least,
after the gate commands have gone off (R136, R498; log 150). -/
def State.frzOnAt (s : State) (n : Fin 6) : Nat := s.tb + max 20 (s.deadNs n)

/-- The switch of leg `k` of a main axis that is on, high true, and TB_NOW, ns, of its turn-on: the commands of its set, or the side
of its ASC, through the interlock (R135, R136, R157); in FREEZE the low side from the instant of R498. -/
def State.legOn (s : State) (n : Fin 6) (k : Fin 3) : Option (Bool × Rat) :=
  let x := s.ax[n]
  match x.bridge with
  | .modulate =>
    let p := s.legAt n k s.tb
    let off := p.2 - s.onGrid n (if p.1 then x.set.rise else x.set.fall) * 1000000000
    let g := interlock (p.1 && decide (p.2 ≤ s.tb)) (!p.1 && decide (p.2 ≤ s.tb)) off off s.tb
    if g.1 then some (true, p.2) else if g.2 then some (false, p.2) else none
  | .ascLow =>
    if s.mode.mode = .freeze then (if s.frzOnAt n ≤ s.gdTime then some (false, (s.frzOnAt n : Rat)) else none)
    else some (false, (x.ascSt.onAt : Rat))
  | .ascHigh => some (true, (x.ascSt.onAt : Rat))
  | .off | .soft | .ascWait => none

/-- The switch of leg `k` of an auxiliary axis that is on, and TB_NOW, ns, of its turn-on. -/
def State.auxLegOn (s : State) (x : Fin 4) (k : Fin 4) : Option (Bool × Rat) :=
  if !s.aux[x].energised then none
  else
    let p := s.auxLegAt x k s.tb
    let off := p.2 - s.onGrid (6 + x.val) s.aux[x].dead * 1000000000
    let g := interlock (p.1 && decide (p.2 ≤ s.tb)) (!p.1 && decide (p.2 ≤ s.tb)) off off s.tb
    if g.1 then some (true, p.2) else if g.2 then some (false, p.2) else none

end Sys2Proof.Machine
end

