-- ==== Sys2Proof/Machine/GateDrive.lean ====
section
/-! DEFINITION. Gate drive and protection of the power stage (chapter 06): high-side supplies and refresh insertion, trips and
soft turn-off, the ASC pattern, supply monitors, chopper legs and the comparator self-test. -/
namespace Sys2Proof.Machine

/-! ## The ten axes of the pool: 0 to 5 main, 6 to 9 auxiliary -/

/-- The main axis of a pool number, `none` for an auxiliary axis. -/
def mainOf (a : Fin 10) : Option (Fin 6) := if h : a.val < 6 then some ⟨a.val, h⟩ else none

/-- The auxiliary axis of a pool number from 6 upward. -/
def auxOf (a : Fin 10) : Fin 4 := Fin.ofNat 4 (a.val - 6)

/-- Is the axis allocated, and in link mode? -/
def State.alloc10 (s : State) (a : Fin 10) : Bool :=
  match mainOf a with | some n => s.axAlloc n | none => s.auxAlloc (auxOf a)
def State.link10 (s : State) (a : Fin 10) : Bool :=
  match mainOf a with | some n => s.axLink n | none => s.auxLink (auxOf a)

/-- How many legs the axis has. -/
def legs10 (a : Fin 10) : Nat := if a.val < 6 then 3 else 4

/-- The axis is in CATCH, RUN, STOP, ASC or HOMING. -/
def State.moving10 (s : State) (a : Fin 10) : Bool :=
  match mainOf a with | some n => s.ax[n].state.watched | none => s.aux[auxOf a].state.watched

/-- Its bridge switches, so that refresh insertion can act (R143). -/
def State.switching10 (s : State) (a : Fin 10) : Bool :=
  match mainOf a with
  | some n => s.ax[n].bridge == .modulate
  | none => s.aux[auxOf a].energised

/-- The charge pumps run: in every mode except COLD and LOAD, FREEZE included, with VDRV above its threshold and the distribution
switch closed (R139). -/
def State.pumps (s : State) : Bool := s.pwr.phase == .running && !s.gd.uv && s.gd.swClosed

/-- The switch of a leg that is on, high side true, and TB_NOW, ns, of its turn-on. -/
def State.legOn10 (s : State) (a : Fin 10) (leg : Fin 4) : Option (Bool × Rat) :=
  match mainOf a with
  | some n => if leg.val < 3 then s.legOn n (Fin.ofNat 3 leg.val) else none
  | none => s.auxLegOn (auxOf a) leg

/-- HALT with the bridge off. -/
def State.halt10 (s : State) (a : Fin 10) (reason : Nat) : State :=
  match mainOf a with | some n => s.axHaltOff n reason | none => s.auxHalt (auxOf a) reason

/-- HALT with the bridge off, for an axis that is not in HALT already. -/
def State.haltNew10 (s : State) (a : Fin 10) (reason : Nat) : State :=
  let isHalt := match mainOf a with
    | some n => s.ax[n].state == AxState.halt
    | none => s.aux[auxOf a].state == AuxState.halt
  if isHalt then s else s.halt10 a reason

/-! ## The start of an axis (R142, R166) -/

/-- The self-test that runs names the axis, and its tests have not ended, or one of them failed (R166). -/
def State.testPending (s : State) (a : Fin 10) : Bool :=
  let t := s.gd.test
  t.busy && t.targets.getLsbD a.val && !t.aborted.getLsbD a.val && (decide (t.current ≤ a.val) || t.failed.getLsbD a.val)

/-- May an axis leave READY: no VDRV monitor set, no test of it pending, its high-side supplies ready (R142, R156, R166)? -/
def State.mayStart (s : State) (a : Fin 10) : Bool :=
  !s.gd.uv && !s.gd.ov && !s.testPending a && (s.link10 a || s.hsReady a)

/-- A waiting start takes place. -/
def State.startNow (s : State) (a : Fin 10) : State :=
  match mainOf a with
  | some n => s.catchEnter n 1 false none none
  | none => s.auxStart (auxOf a) (if s.aux[auxOf a].mode = 3 then .homing else .run)

/-- Since when a start waits. -/
def State.startWait10 (s : State) (a : Fin 10) : Option Nat :=
  match mainOf a with | some n => s.ax[n].startWait | none => s.aux[auxOf a].startWait

/-- DRIVE or LIMP: command sources act. -/
def State.driving (s : State) : Bool := s.mode.mode == .drive || s.mode.mode == .limp

/-- A waiting start takes place where nothing holds it any more, in a mode in which axes start (R122). -/
def State.tryStart (s : State) (a : Fin 10) : State :=
  if (s.startWait10 a).isSome && s.driving && s.mayStart a then s.startNow a else s

/-! ## The tests of a self-test (R163) -/

/-- How many comparator tests a target has (Table 7): targets 0 to 5 AX, 6 to 9 AUX, 10 to 13 chopper legs. -/
def State.testCount (s : State) (t : Nat) : Nat :=
  if t < 10 then
    let a : Fin 10 := Fin.ofNat 10 t
    legs10 a * (if s.link10 a then 1 else 3) + (if t < 6 then 1 else 0)
  else 1

/-- A comparator that is tested (Table 7): a high-side under-voltage comparator, a desaturation comparator with the side that is on
alone, the fast comparator, a fault return, the detector of a chopper leg. -/
inductive Comparator where
  | hsUv (leg : Fin 4)
  | desat (leg : Fin 4) (high : Bool)
  | fast
  | link (leg : Fin 4)
  | chop
  deriving DecidableEq, Repr

/-- Test number `i` of a target, in the order of the rows of Table 7 and of the legs (DESIGN CHOICE, log 120). -/
def State.testKind (s : State) (t i : Nat) : Comparator :=
  if 10 ≤ t then .chop
  else
    let a : Fin 10 := Fin.ofNat 10 t
    let l := legs10 a
    let leg : Fin 4 := Fin.ofNat 4 (i % l)
    if s.link10 a then (if i < l then .link leg else .fast)
    else match i / l with
      | 0 => .hsUv leg
      | 1 => .desat leg false
      | 2 => .desat leg true
      | _ => .fast

/-- The test that runs: its target and its comparator. -/
def State.testNow (s : State) : Option (Nat × Comparator) :=
  let t := s.gd.test
  if t.busy then some (t.current, s.testKind t.current (s.testCount t.current - t.left)) else none

/-- The blanking time of an axis, ns (R146, R152). -/
def State.blankNs (s : State) (a : Fin 10) : Nat :=
  nsOf (match mainOf a with | some n => s.regs.GD_AXn_BLANK n | none => s.regs.GD_AUXn_BLANK (auxOf a))

/-- The engine's commands reach the bridge of an axis: it is in CATCH, RUN, STOP, ASC or HOMING, or FREEZE holds its bridge (R499). -/
def State.bridged10 (s : State) (a : Fin 10) : Bool := s.moving10 a || s.mode.mode == .freeze

/-- The desaturation test of an axis that runs: its leg and side. -/
def State.desatTest (s : State) (a : Fin 10) : Option (Fin 4 × Bool) :=
  match s.testNow with
  | some (t, .desat leg high) => if t = a.val then some (leg, high) else none
  | _ => none

/-- The switch of a leg that is on, high side true, and whether its desaturation comparator is past its blanking: by its engine, or by
the test that holds it on alone (Table 7), whose own trip is the expected one. -/
def State.switchOn10 (s : State) (a : Fin 10) (leg : Fin 4) : Option (Bool × Bool) :=
  if s.bridged10 a then (s.legOn10 a leg).map (fun (p : Bool × Rat) => (p.1, decide (p.2 + s.blankNs a ≤ s.gdTime)))
  else match s.desatTest a with
    | some (l, high) => if l = leg then some (high, false) else none
    | none => none

/-- Every switch that is on turns off softly, one that a test holds on among them; in link mode every command pair goes to "off" at
once (R133, R148). -/
def State.softOff (s : State) (a : Fin 10) : State :=
  if !(s.bridged10 a) && (s.desatTest a).isNone then s
  else if s.link10 a then
    match mainOf a with
    | some n => s.modAx n (fun x => { x with bridge := .off })
    | none => s.modAux (auxOf a) (fun x => { x with energised := false, soft := false })
  else
    let at' (i : Nat) : Option (Bool × Bool) := s.switchOn10 a (Fin.ofNat 4 i)
    let on : Nat := maskOf 4 (fun i => (at' i).isSome)
    let high : Nat := maskOf 4 (fun i => match at' i with | some p => p.1 | none => false)
    let act : Nat := maskOf 4 (fun i => match at' i with | some p => p.2 | none => false)
    let s1 := s.modGd a (fun g => { g with
      softAt := some s.gdTime, softLegs := BitVec.ofNat 4 on, softHigh := BitVec.ofNat 4 high, softAct := BitVec.ofNat 4 act
      lowRan := g.lowRan ||| (BitVec.ofNat 4 on &&& ~~~ (BitVec.ofNat 4 high)) })
    if !(s.bridged10 a) then s1
    else match mainOf a with
      | some n => s1.modAx n (fun x => { x with bridge := if x.bridge = .off then .off else .soft })
      | none => s1.modAux (auxOf a) (fun x => { x with soft := x.energised })

/-! ## High-side supplies (R141 to R145) -/

/-- `HS_UV_SET`: the comparator of a leg sets; on a switching axis refresh insertion begins with the next period; a
high-side ASC turns off, and its low sides turn on a dead time later (R141, R143, R158). The setting that a self-test brings about is
none of these (R163). -/
def State.hsUvSet (s : State) (a : Fin 10) (leg : Fin 4) (mv : Nat) : State :=
  let g := s.gd.ax[a]
  if !(s.alloc10 a && !s.link10 a && s.pumps && decide (leg.val < legs10 a) && !g.hsUv.getLsbD leg.val)
      || s.testNow == some (a.val, .hsUv leg) then s
  else
    let s := s.modGd a (fun g => { g with
      hsUv := g.hsUv ||| BitVec.ofNat 4 (2 ^ leg.val), uvClear := s.tb, hsMv := if g.refresh then min g.hsMv mv else mv })
    let s :=
      if s.switching10 a && !g.refresh then
        let valley := match mainOf a with | some n => s.ax[n].valley | none => s.aux[auxOf a].valley
        let f := s.freqOf a
        let first := if f = 0 then s.tb else extremeAt valley f ((extremeFrom valley f s.tb + 1) / 2 * 2)
        (s.modGd a (fun g => { g with refresh := true, refreshAt := first, uvCnt := 0 })).event first (Unit.axis a) 0x0602 1 mv
      else s
    match mainOf a with
    | some n =>
      if s.ax[n].state = .asc ∧ s.ax[n].bridge = .ascHigh then
        s.modAx n (fun x => { x with
          bridge := .ascWait
          ascSt := { x.ascSt with high := false, offAt := s.tb, onAt := s.tb + s.deadNs n, side := some mv } })
      else s
    | none => s

def execHsUvSet (dt : Nat) (a : Fin 10) (leg : Fin 4) (millivolt : Nat) (s : State) : Host.Outcome State Fault Refusal :=
  let s := s.advance dt
  done (if s.running then s.hsUvSet a leg millivolt else s)

/-- `BST_UV`: eight counted periods halt the axis; its bridge reaction is coast or low-side ASC (R144). -/
def State.bstUv (s : State) (a : Fin 10) (mv : Nat) : State :=
  let g := s.gd.ax[a]
  if !(g.refresh && decide (8 ≤ g.uvCnt) && s.moving10 a) then s
  else
    let s := s.event g.uvAt (Unit.axis a) 0x0603 g.hsUv.toNat mv
    match mainOf a with
    | some n =>
      (s.axFault n 0x0603 .bridge).modAx n (fun x =>
        if x.state = .asc then { x with ascSt := { x.ascSt with high := false } } else x)
    | none => s.auxHalt (auxOf a) 0x0603

def execBstUv (dt : Nat) (a : Fin 10) (millivolt : Nat) (s : State) : Host.Outcome State Fault Refusal :=
  let s := s.advance dt
  done (if s.running then s.bstUv a millivolt else s)

/-- `BST_REFRESH_END`: 1 s of running in which no comparator set ends refresh insertion (R145). -/
def State.bstRefreshEnd (s : State) (a : Fin 10) (mv : Nat) : State :=
  let g := s.gd.ax[a]
  if g.refresh && g.hsUv == 0 && decide (g.uvClear + 1000000000 ≤ s.tb) then
    (s.modGd a (fun g => { g with refresh := false, uvCnt := 0 })).event s.tb (Unit.axis a) 0x0602 0 (min g.hsMv mv)
  else s

def execBstRefreshEnd (dt : Nat) (a : Fin 10) (millivolt : Nat) (s : State) : Host.Outcome State Fault Refusal :=
  let s := s.advance dt
  done (if s.running then s.bstRefreshEnd a millivolt else s)

/-- `HS_SUPPLY_READY`: every high-side supply of an axis reads at least 9.0 V: its comparators clear, and a start that waits takes
place (R141, R142). -/
def State.hsSupplyReady (s : State) (a : Fin 10) : State :=
  if s.alloc10 a && s.pumps then (s.modGd a (fun g => { g with hsUv := 0 })).tryStart a else s

def execHsSupplyReady (dt : Nat) (a : Fin 10) (s : State) : Host.Outcome State Fault Refusal :=
  let s := s.advance dt
  done (if s.running then s.hsSupplyReady a else s)

/-- `BST_START_TIMEOUT`: supplies not ready within 50 ms halt the starting axis (R142). -/
def State.bstStartTimeout (s : State) (a : Fin 10) (low : BitVec 4) (mv : Nat) : State :=
  match s.startWait10 a with
  | some t =>
    if t + 50000000 ≤ s.tb ∧ low ≠ 0 ∧ !s.link10 a then
      ((s.modGd a (fun g => { g with hsUv := low, hsMv := mv })).event (t + 50000000) (Unit.axis a) 0x0603 low.toNat mv).halt10
        a 0x0603
    else s
  | none => s

def execBstStartTimeout (dt : Nat) (a : Fin 10) (lowLegs : BitVec 4) (millivolt : Nat) (s : State) :
    Host.Outcome State Fault Refusal :=
  let s := s.advance dt
  done (if s.running then s.bstStartTimeout a lowLegs millivolt else s)

/-- The comparators at the start of the refresh interval of a period, given by `uv`: those that read clear there have cleared;
under refresh insertion the period counts, or resets the count (R144). -/
def State.countRefresh (s : State) (a : Fin 10) (uv : BitVec 4) : State :=
  s.modGd a (fun g =>
    let now := g.hsUv &&& uv
    if !g.refresh then { g with hsUv := now }
    else if now = 0 then { g with hsUv := now, uvCnt := 0 }
    else { g with hsUv := now, uvCnt := g.uvCnt + 1, uvAt := s.tb })

/-! ## Self-test, its end (R163 to R167) -/

/-- Is a self-test target allocated? -/
def State.testAlloc (s : State) (t : Nat) : Bool :=
  if t < 10 then s.alloc10 (Fin.ofNat 10 t) else s.regs.GD_CHPn_MAP_EN (t - 10)

/-- Mark the axis under test. -/
def State.markTest (s : State) (t : Nat) (on : Bool) : State :=
  if t < 10 then s.modGd (Fin.ofNat 10 t) (fun g => { g with test := on }) else s

/-- A request ends (R167): masks, HALT of every failed axis, latches of failed chopper legs, one record. -/
def State.testEnd (s : State) : State :=
  let t := s.gd.test
  let pass := t.targets &&& ~~~ t.failed &&& ~~~ t.aborted
  let s := s.onGd (fun g => { g with
    test := { g.test with busy := false, left := 0, pass := pass, fail := t.failed, abort := t.aborted }
    chop := Vector.ofFn (fun c : Fin 4 =>
      if t.failed.getLsbD (10 + c.val) then { g.chop[c] with fault := true, on := false } else g.chop[c]) })
  let s := (List.finRange 10).foldl (fun s a =>
    let s := s.markTest a.val false
    if t.failed.getLsbD a.val then s.halt10 a 0x0609
    else if pass.getLsbD a.val then s.modGd a (fun g => { g with testPassed := true })
    else s) s
  let s := s.event s.tb Unit.gd 0x0609 t.targets.toNat (t.failed.toNat + t.aborted.toNat * 65536)
  (List.finRange 10).foldl (fun s a => if t.targets.getLsbD a.val then s.tryStart a else s) s

/-- The first target from `t` upward. -/
def nextTarget (m : BitVec 14) (t : Nat) : Option Nat := (List.range 14).find? (fun i => decide (t ≤ i) && m.getLsbD i)

/-- The tests go on with the first target from `t` upward, or the request ends. -/
def State.testFrom (s : State) (t : Nat) : State :=
  match nextTarget s.gd.test.targets t with
  | some i =>
    (s.onGd (fun g => { g with test := { g.test with current := i, left := s.testCount i } })).markTest i true
  | none => s.testEnd

/-- A request of tests starts. -/
def State.testBegin (s : State) (m : BitVec 14) : State :=
  (s.onGd (fun g => { g with
    test := { g.test with busy := true, targets := m, failed := 0, aborted := 0, autoDue := false } })).testFrom 0

/-- A source above the self-test acts on target `t`: a test of it that runs is aborted (R166). -/
def State.testAbort (s : State) (t : Nat) : State :=
  if s.gd.test.busy && s.gd.test.current == t then
    ((s.onGd (fun g => { g with test := { g.test with aborted := g.test.aborted ||| BitVec.ofNat 14 (2 ^ t) } })).markTest
      t false).testFrom (t + 1)
  else s

/-- A source above the self-test acts on every half-bridge: what is not tested yet is aborted (R166). -/
def State.testAbortAll (s : State) : State :=
  if s.gd.test.busy then
    let m : BitVec 14 := BitVec.ofNat 14 (maskOf 14 (fun i => decide (s.gd.test.current ≤ i) && s.gd.test.targets.getLsbD i))
    (s.onGd (fun g => { g with test := { g.test with aborted := g.test.aborted ||| m } })).testEnd
  else s

/-- In FREEZE a test in progress ends at once: what is not tested yet reads aborted, and nothing else comes of the request (R166,
R498). -/
def State.testFreeze (s : State) : State :=
  if s.gd.test.busy then
    let t := s.gd.test
    let m : BitVec 14 := BitVec.ofNat 14 (maskOf 14 (fun i => decide (t.current ≤ i) && t.targets.getLsbD i)) ||| t.aborted
    s.onGd (fun g => { g with
      ax := g.ax.map (fun x => { x with test := false })
      test := { t with
        busy := false, left := 0, aborted := m, pass := t.targets &&& ~~~ t.failed &&& ~~~ m, fail := t.failed, abort := m } })
  else s

/-- An automatic test that waits for VDRV starts once it is good (R165). -/
def State.autoTest (s : State) : State :=
  if s.gd.test.autoDue && !s.gd.uv && !s.gd.ov && s.gd.swClosed && !s.gd.blocked && !s.gd.test.busy then
    s.testBegin (BitVec.ofNat 14 (maskOf 14 s.testAlloc))
  else s

/-- With `GD_CFG.AUTOTEST` set, the targets are tested at HOLD entry and after SAFE→HOLD, once VDRV is good (R165). -/
def State.autoArm (s : State) : State :=
  (s.onGd (fun g => { g with test := { g.test with autoDue := g.test.autoDue || s.regs.GD_CFG } })).autoTest

/-! ## Trips (R146 to R154) -/

/-- Detail of a BRIDGE_SHORT record (Table 8). -/
def shortDetail (g : GdAx) : Nat :=
  g.desat.toNat + g.side.toNat * 16 + b2n g.fast * 256 + b2n g.multi * 512 + b2n (g.link != 0) * 1024

/-- The BRIDGE_SHORT record of an axis is written, where it is due. -/
def State.noteShort (s : State) (a : Fin 10) (value : Nat) : State :=
  let g := s.gd.ax[a]
  if g.noted then s
  else (s.modGd a (fun g => { g with noted := true, ascDue := none })).event g.tripAt (Unit.axis a) 0x0601 (shortDetail g) value

/-- What tripped: a switch by desaturation, the fast comparator, a fault return. -/
inductive TripKind where
  | desat (leg : Fin 4) (high : Bool)
  | fast
  | link (leg : Fin 4)

/-- The fault bits of a trip. -/
def tripBits (k : TripKind) (g : GdAx) : GdAx :=
  match k with
  | .desat l h => { g with
      desat := g.desat ||| BitVec.ofNat 4 (2 ^ l.val)
      side := if h then g.side ||| BitVec.ofNat 4 (2 ^ l.val) else g.side &&& ~~~ (BitVec.ofNat 4 (2 ^ l.val)) }
  | .fast => { g with fast := true }
  | .link l => { g with link := g.link ||| BitVec.ofNat 4 (2 ^ l.val) }

/-- How many legs of a bridge have tripped. -/
def trippedLegs (g : GdAx) : Nat :=
  let m := g.desat ||| g.link
  b2n (m.getLsbD 0) + b2n (m.getLsbD 1) + b2n (m.getLsbD 2) + b2n (m.getLsbD 3)

/-- The ASC that may follow a first trip (R150): 3.0 µs on, on the side of the tripped switch. -/
def State.ascAfter (s : State) (a : Fin 10) (k : TripKind) : Option (Nat × Bool × Option Rat) :=
  match mainOf a, k with
  | some n, .desat _ h =>
    if s.reaction n .short = 1 then some (s.tb + 3000, h, none)
    else if s.nAsc n ≤ absR s.ax[n].eng.speed then some (s.tb + 3000, h, some s.ax[n].eng.speed)
    else none
  | _, _ => none

/-- A detector of an axis trips (R148 to R151). -/
def State.trip (s : State) (a : Fin 10) (k : TripKind) : State :=
  let g := s.gd.ax[a]
  let follow : Bool := match mainOf a with
    | some n => s.ax[n].state == AxState.asc && s.ax[n].ascSt.follow
    | none => false
  let moving := s.moving10 a
  let s := (if g.latched && !follow then s else s.softOff a).testAbort a.val
  if follow then
    let reason := match mainOf a with | some n => s.ax[n].haltReason | none => 0
    let s := s.modGd a (fun g => { tripBits k g with ascFailed := true })
    (s.event s.tb (Unit.axis a) 0x0607 (shortDetail (tripBits k {})) 0).halt10 a reason
  else if g.latched then
    let near := decide (s.tb ≤ g.tripAt + 2200)
    let g1 := tripBits k g
    let multi := g1.multi || (near && decide (2 ≤ trippedLegs g1))
    let cancel := g.ascDue.isSome && decide (s.tb ≤ g.tripAt + 3000)
    let s := s.modGd a (fun g => { tripBits k g with multi := multi, ascDue := if cancel then none else g.ascDue })
    if cancel ∧ g.softAt = none then s.noteShort a 0 else s
  else
    let due := if moving then s.ascAfter a k else none
    let s := s.modGd a (fun g => { tripBits k g with latched := true, tripAt := s.tb, ascDue := due, noted := false })
    let s := s.halt10 a 0x0601
    if s.gd.ax[a].softAt.isSome ∨ due.isSome then s else s.noteShort a 0

/-- The device is in FREEZE with the gate-drive die running (R500). -/
def State.frozenDie (s : State) : Bool := s.pwr.phase == .running && s.mode.mode == .freeze

/-- A detector trips in FREEZE: soft turn-off of a bridge in a freeze-safe ASC, which then stays off, and the latch, which keeps it off;
the control die stands still, so there is neither HALT nor record (R138, R148, R499, R500). -/
def State.freezeTrip (s : State) (a : Fin 10) (k : TripKind) : State :=
  if !s.frozenDie then s
  else
    (if s.gd.ax[a].latched then s else s.softOff a).modGd a (fun g =>
      let g1 := tripBits k g
      { g1 with
        latched := true, tripAt := if g.latched then g.tripAt else s.gdTime
        multi := g.multi || (g.latched && decide (s.gdTime ≤ g.tripAt + 2200) && decide (2 ≤ trippedLegs g1)) })

/-- May the desaturation comparator of a leg trip on a side: that switch conducts, and its blanking has ended (R146)? Under soft turn-off
the comparators act that were past their blanking when it began: one still blanked then finds its switch off (Table 5, step 4). During a
test the switch of a test conducts alone; any other trip of a bridge under test is a real one (R166). -/
def State.desatActs (s : State) (a : Fin 10) (leg : Fin 4) (high : Bool) : Bool :=
  let g := s.gd.ax[a]
  if g.softAt.isSome then g.softAct.getLsbD leg.val && (g.softHigh.getLsbD leg.val == high)
  else match s.legOn10 a leg with
    | some (h, t) => (h == high) && decide (t + s.blankNs a ≤ s.gdTime)
    | none => match s.testNow with
      | some (t, k) => t == a.val && k != .desat leg high
      | none => false

/-- `DESAT_TRIP`: a desaturation comparator of a direct-mode leg trips; it is inactive while neither switch of the leg conducts, and
blanked after a turn-on (R146, R148, R152). -/
def State.desatTrip (s : State) (a : Fin 10) (leg : Fin 4) (high : Bool) : State :=
  if s.alloc10 a && !s.link10 a && decide (leg.val < legs10 a) && s.desatActs a leg high then
    (if s.running then s.trip a (.desat leg high) else s.freezeTrip a (.desat leg high))
  else s

def execDesatTrip (dt : Nat) (a : Fin 10) (leg : Fin 4) (high : Bool) (s : State) : Host.Outcome State Fault Refusal :=
  done ((s.advance dt).desatTrip a leg high)

/-- `FAST_COMPARATOR_TRIP`: the DC-link return current exceeds `GD_AXn_FAST_I` (R147, R148). From then on
its input may lie above the threshold, which nothing says (log 61). The trip that a test of it brings about is no real one (R166). -/
def State.fastTrip (s : State) (n : Fin 6) : State :=
  if s.testNow == some (n.val, .fast) then s
  else if s.running && s.axAlloc n then
    (s.modGd (axis10 n) (fun g => { g with fastHigh := true })).trip (axis10 n) .fast
  else if s.axAlloc n then s.freezeTrip (axis10 n) .fast
  else s

def execFastComparatorTrip (dt : Nat) (n : Fin 6) (s : State) : Host.Outcome State Fault Refusal :=
  done ((s.advance dt).fastTrip n)

/-- `LINK_FAULT_RETURN`: a fault return of a link-mode leg changes its filtered level; low is a trip (R132, R148). Before
HOLD entry the level is kept for the check of R154. -/
def State.linkReturn (s : State) (a : Fin 10) (leg : Fin 4) (low : Bool) : State :=
  let b := BitVec.ofNat 4 (2 ^ leg.val)
  if leg.val < legs10 a then
    let was := s.gd.ax[a].linkLow.getLsbD leg.val
    let s := s.modGd a (fun g => { g with linkLow := if low then g.linkLow ||| b else g.linkLow &&& ~~~ b })
    if low && !was && s.alloc10 a && s.link10 a && s.testNow != some (a.val, .link leg) then
      (if s.running then s.trip a (.link leg) else s.freezeTrip a (.link leg))
    else s
  else s

def execLinkFaultReturn (dt : Nat) (a : Fin 10) (leg : Fin 4) (low : Bool) (s : State) : Host.Outcome State Fault Refusal :=
  done ((s.advance dt).linkReturn a leg low)

/-- `SOFT_TURN_OFF_END`: full sink and the Miller clamp follow the soft sink, in FREEZE too (R148, R500). -/
def State.softEnd (s : State) (a : Fin 10) : State :=
  match s.gd.ax[a].softAt with
  | some t =>
    if t + 2000 ≤ s.gdTime then
      let s := s.modGd a (fun g => { g with softAt := none, softLegs := 0, softHigh := 0, softAct := 0 })
      let s := match mainOf a with
        | some n => s.modAx n (fun x => { x with bridge := if x.bridge = .soft then .off else x.bridge })
        | none => s.modAux (auxOf a) (fun x => { x with soft := false })
      if s.gd.ax[a].ascDue.isSome || s.frozenDie then s else s.noteShort a 0
    else s
  | none => s

def execSoftTurnOffEnd (dt : Nat) (a : Fin 10) (s : State) : Host.Outcome State Fault Refusal :=
  done ((s.advance dt).softEnd a)

/-- `SHORT_ASC_ENTRY`: 3.0 µs after a single-leg desaturation trip the axis enters ASC on the side of the tripped switch,
where R271 does not bar it (R150). -/
def State.shortAsc (s : State) (n : Fin 6) : State :=
  let g := s.gd.ax[axis10 n]
  match g.ascDue with
  | some (t, high, coast) =>
    if s.tb < t then s
    else
      let barred := s.gd.uv || s.gd.ov || !s.gd.swClosed || s.gd.blocked || s.mode.mode == .freeze || s.ax[n].state != .halt
      let s := s.noteShort (axis10 n) (if barred then 0 else if high then 2 else 1)
      if barred then s
      else
        let reason := s.ax[n].haltReason
        (s.ascEnter n 2 high true s.tb (coast.map (fun v => (1, v)))).modAx n (fun x => { x with haltReason := reason })
  | none => s

def execShortAscEntry (dt : Nat) (n : Fin 6) (s : State) : Host.Outcome State Fault Refusal :=
  let s := s.advance dt
  done (if s.running then s.shortAsc n else s)

/-- The check of the link-mode fault returns at HOLD entry and after a latch clear (R154). -/
def State.linkCheck (s : State) (a : Fin 10) : State :=
  let g := s.gd.ax[a]
  if s.alloc10 a && s.link10 a && g.linkLow != 0 then
    ((s.modGd a (fun g => { g with link := g.link ||| g.linkLow, latched := true })).event s.tb (Unit.axis a) 0x060A
      g.linkLow.toNat 0).haltNew10 a 0x060A
  else s

/-- No detector of the bridge reads active (R153). Where the current of the fast comparator has crossed its threshold since the latch last
cleared, nothing says whether it still lies above: that is free (log 61). -/
def State.detectorsQuiet (s : State) (a : Fin 10) : Bool :=
  !(s.gd.ax[a].fastHigh && Config.freeBool (s.freeIx + a.val)) && !(s.link10 a && s.gd.ax[a].linkLow != 0)

/-- The protection latch of an axis clears (R153, R154). -/
def State.clearLatch (s : State) (a : Fin 10) : State :=
  (s.modGd a (fun g => { g with
    desat := 0, side := 0, fast := false, link := 0, multi := false, ascFailed := false, latched := false, ascDue := none
    noted := true, fastHigh := false })).linkCheck a

/-! ## Supply monitors (R155, R156) -/

/-- A chopper leg is in link mode. -/
def State.chopLink (s : State) (c : Fin 4) : Bool := Nat.testBit s.regs.GD_HB_MODE (s.regs.GD_CHPn_MAP_HB c)

/-- A test of a chopper leg holds its low side on (Table 7). -/
def State.chopTested (s : State) (c : Fin 4) : Bool := s.testNow == some (10 + c.val, .chop)

/-- A chopper leg turns off: softly where it was on in direct mode, by its engine or by its test (R148, R156, R162). -/
def State.chopOff (s : State) (c : Fin 4) : State :=
  let tested := s.chopTested c
  s.onGd (fun g => { g with chop := vset g.chop c (fun x =>
    if x.on || tested then { x with on := false, edgeAt := s.tb, softAt := if s.chopLink c then x.softAt else some s.tb } else x) })

/-- A VDRV monitor sets: every half-bridge turns off softly, one that a test holds on too, and stays off, and every axis that runs halts,
without ASC. -/
def State.vdrvFault (s : State) (code mv : Nat) : State :=
  let axes := maskOf 10 (fun i => s.moving10 (Fin.ofNat 10 i))
  let s := (List.finRange 10).foldl (fun s a => s.softOff a) s
  let s := ((List.finRange 4).foldl (fun (s : State) (c : Fin 4) => s.chopOff c) s).testAbortAll
  let s := (List.finRange 10).foldl (fun s a => if s.moving10 a then s.halt10 a code else s) s
  s.event s.tb Unit.gd code (axes % 64 + axes / 64 * 256) mv

def State.vdrvUvSet (s : State) (mv : Nat) : State :=
  if s.gd.uv then s
  else
    let s := s.onGd (fun g => { g with uv := true })
    if s.running then s.vdrvFault 0x0604 mv else s

def State.vdrvOvSet (s : State) (mv : Nat) : State :=
  if s.gd.ov then s
  else
    let s := s.onGd (fun g => { g with ov := true })
    if s.running then s.vdrvFault 0x0605 mv else s

/-- `VDRV_UV` (R155, R156). -/
def execVdrvUv (dt : Nat) (millivolt : Nat) (s : State) : Host.Outcome State Fault Refusal :=
  done ((s.advance dt).vdrvUvSet millivolt)

/-- `VDRV_OV` (R155, R156). -/
def execVdrvOv (dt : Nat) (millivolt : Nat) (s : State) : Host.Outcome State Fault Refusal :=
  done ((s.advance dt).vdrvOvSet millivolt)

/-- `VDRV_MONITOR_CLEAR`: a monitor clears; axes may leave READY again (R155, R165). -/
def State.vdrvClear (s : State) (ov : Bool) : State :=
  let s := s.onGd (fun g => if ov then { g with ov := false } else { g with uv := false })
  if s.running then s.autoTest else s

def execVdrvMonitorClear (dt : Nat) (ov : Bool) (s : State) : Host.Outcome State Fault Refusal :=
  done ((s.advance dt).vdrvClear ov)

/-! ## Active short circuit (R157, R158) -/

/-- `ASC_SWITCH_ON`: after the dead-time interval, which the interlock holds to 20 ns at least, the switches of one side turn on
together; the high side only with every high-side supply at 9.0 V, but for one that follows a short (R136, R157; DEDUCED, log 153). The ASC_ENTER record is written at
the first turn-on (R227), and with it a COAST_ASC record that is due (R271, R272); a change of side has its record here (R158). -/
def State.ascOn (s : State) (n : Fin 6) (lowest : Nat) : State :=
  let x := s.ax[n]
  let pass := interlock x.ascSt.high (!x.ascSt.high) x.ascSt.offAt x.ascSt.offAt s.tb
  if x.state = .asc ∧ x.bridge = .ascWait ∧ x.ascSt.onAt ≤ s.tb ∧ (pass.1 || pass.2) ∧ s.mode.mode ≠ .freeze then
    let refuse := x.ascSt.high && !x.ascSt.follow && !s.axLink n && (decide (lowest < 9000) || !s.hsReady (axis10 n))
    let high := x.ascSt.high && !refuse
    let s := s.modAx n (fun x => { x with
      bridge := if high then .ascHigh else .ascLow
      ascSt := { x.ascSt with high := high, onAt := s.tb, coast := none, side := none, first := some (x.ascSt.first.getD s.tb) } })
    let s := if high then s else s.modGd (axis10 n) (fun g => { g with lowRan := 15 })
    let s := if refuse then s.event s.tb (Unit.ax n) 0x0606 0 lowest else s
    let s := match x.ascSt.side with
      | some mv => s.event s.tb (Unit.ax n) 0x0606 1 mv
      | none => s
    let s := if x.ascSt.first.isSome then s else s.event s.tb (Unit.ax n) 0x0807 x.ascSt.cause (rpm10 (s.nAsc n))
    match x.ascSt.coast with
    | some (d, v) => s.event s.tb (Unit.ax n) 0x0A09 d (rpm10 v)
    | none => s
  else s

def execAscSwitchOn (dt : Nat) (n : Fin 6) (lowestMillivolt : Nat) (s : State) : Host.Outcome State Fault Refusal :=
  let s := s.advance dt
  done (if s.running then s.ascOn n lowestMillivolt else s)

/-! ## Chopper legs (R160 to R162) -/

/-- May a conversion switch a chopper leg (R138, R161)? A leg under test follows the test (row 7 of Table 2). -/
def State.chopMay (s : State) (c : Fin 4) : Bool :=
  s.running && s.regs.GD_CHPn_MAP_EN c && !s.gd.chop[c].fault && !s.gd.uv && !s.gd.ov && s.gd.swClosed && !s.gd.blocked
    && s.testNow != some (10 + c.val, .chop)

/-- The DC-link voltage of a conversion drives the chopper legs that watch its channel (R160). Every interval lasts at least
2 µs, and a request within it is not kept (DESIGN CHOICE, log 153). -/
def State.chopWatch (s : State) (c : Fin 32) (v : Rat) (at' : Nat) : State :=
  (List.finRange 4).foldl (fun s k =>
    let g := s.gd.chop[k]
    if s.chopMay k && s.regs.GD_CHPn_MAP_AIN k == c.val && decide (g.edgeAt + 2000 ≤ at') then
      let on := if s.regs.GD_CHPn_ON k ≤ v then true else if v ≤ s.regs.GD_CHPn_OFF k then false else g.on
      if on == g.on then s
      else s.onGd (fun g => { g with chop := vset g.chop k (fun x => { x with on := on, edgeAt := at', softAt := none }) })
    else s) s

/-- May the detector of a chopper leg trip: in link mode its fault return does at any time, in direct mode its desaturation comparator
acts while the low side conducts, `GD_CHP_BLANK` after its turn-on (R132, R146, R162)? -/
def State.chopActs (s : State) (c : Fin 4) : Bool :=
  s.chopLink c || (s.gd.chop[c].on && decide (s.gd.chop[c].edgeAt + nsOf s.regs.GD_CHP_BLANK ≤ s.tb))

/-- `CHOPPER_FAULT`: the detector of a leg trips; the leg turns off softly and is latched off (R162). The trip that a test of it
brings about is none (R166). -/
def State.chopTrip (s : State) (c : Fin 4) : State :=
  if s.running && s.regs.GD_CHPn_MAP_EN c && s.chopActs c && !s.chopTested c then
    let s := (s.chopOff c).testAbort (10 + c.val)
    let was := s.gd.chop[c].fault
    let s := s.onGd (fun g => { g with chop := vset g.chop c (fun x => { x with fault := true }) })
    if was then s
    else s.event s.tb Unit.gd 0x0608 c.val (milli s.sns.ain[(Fin.ofNat 32 (s.regs.GD_CHPn_MAP_AIN c) : Fin 32)].val)
  else s

def execChopperFault (dt : Nat) (c : Fin 4) (s : State) : Host.Outcome State Fault Refusal :=
  done ((s.advance dt).chopTrip c)

/-- The detector of a chopper leg reads active: in link mode its fault return may read low at that instant, which nothing in
the command says (free, log 3); in direct mode it never does while the leg is off (R153). -/
def State.chopActive (s : State) (c : Fin 4) : Bool := s.chopLink c && Config.freeBool (s.freeIx + c.val)

/-- A write of `GD_CHP_CLR` (R162): each named leg with a quiet detector is cleared; a leg that is not allocated has no latch to clear,
and naming it is answered as one that was not cleared (DESIGN CHOICE, log 121). -/
def doChopClear (c : Ctx) (s : State) (w : Word) : Res :=
  needRights true c s fun s =>
    let named (k : Fin 4) : Bool := bit w k.val
    let kept := (List.finRange 4).any (fun k => named k && (s.chopActive k || !s.regs.GD_CHPn_MAP_EN k))
    let s1 := (s.onGd (fun g => { g with chop := Vector.ofFn (fun k : Fin 4 =>
      if named k && !s.chopActive k then { g.chop[k] with fault := false } else g.chop[k]) })).onFreeIx (· + 4)
    if kept then nak s1 St.state else ack s1

/-- `CHOPPER_CLEAR`. -/
def execChopperClear (dt : Nat) (o : Origin) (w : Word) (s : State) : Host.Outcome State Fault Refusal :=
  done ((s.advance dt).entry o 2 (some Reg.GD_CHP_CLR) (fun c s => doChopClear c s w) (ws := [w]))

/-! ## Self-test, its start (R164) -/

/-- Has an axis target stopped (R164)? Without terminal-voltage inputs the sense lines of the gate-drive die decide, whose
voltages no command carries: free (log 3). -/
def State.testStill (s : State) (t : Nat) : Bool :=
  if t < 6 then
    let n : Fin 6 := Fin.ofNat 6 t
    s.ax[n].state.quiet &&
      (if s.regs.SNS_AXn_VIN_VT_EN n then
        match s.ax[n].quietSince with | some q => decide (q + 10000000 ≤ s.tb) | none => false
      else Config.freeBool (s.freeIx + t))
  else if t < 10 then !s.aux[(Fin.ofNat 4 (t - 6) : Fin 4)].state.watched && Config.freeBool (s.freeIx + t)
  else !s.gd.chop[(Fin.ofNat 4 (t - 10) : Fin 4)].on

/-- Why a self-test request is refused: 0 accepted, else the code of `GD_ST_STAT.REFUSE`. -/
def State.testRefuse (s : State) (m : BitVec 14) : Nat :=
  let named := (List.range 14).filter (fun i => m.getLsbD i)
  if s.mode.mode = .safe then 1
  else if s.gd.uv ∨ s.gd.ov ∨ !s.gd.swClosed ∨ s.gd.blocked then 2
  else if s.gd.test.busy then 3
  else if named.any (fun i => !s.testAlloc i) then 4
  else if named.any (fun i => !s.testStill i) then 5
  else 0

/-- Completion of the pair of `GD_ST_CMD` (R164). -/
def doSelfTest (c : Ctx) (s : State) (w : Word) : Res :=
  needRights true c s fun s =>
    let m : BitVec 14 := BitVec.ofNat 14 (fld w 0 6 + fld w 8 4 * 64 + fld w 16 4 * 1024)
    if m = 0 then nak s St.range
    else
      let r := s.testRefuse m
      let s := s.onFreeIx (· + 14)
      if r = 0 then ack (s.testBegin m)
      else nak (s.onGd (fun g => { g with test := { g.test with refuse := r } })) St.state r

/-- `SELFTEST_START`. -/
def execSelftestStart (dt : Nat) (o : Origin) (mask : Word) (s : State) : Host.Outcome State Fault Refusal :=
  done ((s.advance dt).entry o 2 (some Reg.GD_ST_CMD) (fun c s => doSelfTest c s mask) (ws := [mask]))

/-- A high-side test of a target whose high-side supplies read lower than 9.0 V: it fails (R163). -/
def State.testLow (s : State) : Bool :=
  match s.testNow with
  | some (t, .hsUv _) | some (t, .desat _ true) => !s.hsReady (Fin.ofNat 10 t)
  | _ => false

/-- `SELFTEST_TEST_DONE`: one comparator test ends; the next of its target, or the next target, starts (R163, R167). A start that
waited for the tests of an axis takes place when they have ended and passed (R166). -/
def State.testDone (s : State) (pass : Bool) : State :=
  if s.gd.test.busy && s.running then
    let t := s.gd.test.current
    let s := if pass && !s.testLow then s
      else s.onGd (fun g => { g with test := { g.test with failed := g.test.failed ||| BitVec.ofNat 14 (2 ^ t) } })
    if 1 < s.gd.test.left then s.onGd (fun g => { g with test := { g.test with left := g.test.left - 1 } })
    else
      let s := (s.markTest t false).testFrom (t + 1)
      if t < 10 then s.tryStart (Fin.ofNat 10 t) else s
  else s

def execSelftestTestDone (dt : Nat) (pass : Bool) (s : State) : Host.Outcome State Fault Refusal :=
  done ((s.advance dt).testDone pass)

end Sys2Proof.Machine
end

