-- ==== Sys2Proof/Machine/Staging.lean ====
section
/-! DEFINITION. The staging bank and the conclusion of a COMMIT (R101 to R107). -/
namespace Sys2Proof.Machine

/-- A CONFIG record (Table 13 of the start-up chapter). -/
def State.configRec (s : State) (code copy reason words : Nat) (addr : Option Nat) : State :=
  s.emit s.tb Unit.dev 9 0
    (leBytes 2 code ++ leBytes 1 copy ++ leBytes 1 0 ++ leBytes 2 reason ++ leBytes 2 words
      ++ leBytes 4 (addr.getD 0xFFFFFFFF) ++ leBytes 8 s.ld.inForceBuild ++ leBytes 4 s.ld.inForceLen)

/-- A COMMIT concludes: its result registers and its record (R103 to R105, R107). `result`: 1 applied, 2 refused, 3 aborted. -/
def State.commitEnd (s : State) (tag port accepted result code : Nat) (addr : Option Nat) (words : Nat) : State :=
  (s.onStg (fun x => { x with
      resTag := BitVec.ofNat 16 tag, result := result, resCode := code, resAddr := addr, resTime := s.tb })).emit s.tb Unit.dev 10 0
    (leBytes 2 tag ++ leBytes 1 result ++ leBytes 1 port ++ leBytes 2 code ++ leBytes 2 words
      ++ leBytes 4 (addr.getD 0xFFFFFFFF) ++ leBytes 8 accepted ++ zeros 4)

/-- A pending COMMIT is aborted with reason 0x0402; the bank is kept and unlocked (R105). -/
def State.commitAbort (s : State) : State :=
  match s.stg.commit with
  | some c =>
    (s.onStg (fun x => { x with commit := none })).commitEnd c.tag.toNat c.port c.at' 3 0x0402 none s.stg.bank.length
  | none => s

/-- The bank is emptied, unless an accepted COMMIT locks it (R102). -/
def State.stgEmpty (s : State) : State :=
  if s.stg.commit.isSome then s
  else
    let n := s.stg.bank.length
    (s.onStg (fun x => { x with bank := [] })).configRec 0x0303 (b2n s.ld.alt) 0 n none

end Sys2Proof.Machine
end

