-- ==== Sys2Proof/Machine/SafetyFn.lean ====
section
/-! DEFINITION. Safety functions (chapter 13): the two channels, safe inputs, function slots, the removal of torque, safe outputs,
SRST and the consumed connections. -/
namespace Sys2Proof.Machine

/-! ## Parts -/

def State.modView (s : State) (bronze : Bool) (f : SafView → SafView) : State :=
  s.onSaf (fun x => if bronze then { x with bronze := f x.bronze } else { x with cobalt := f x.cobalt })

def State.view (s : State) (bronze : Bool) : SafView := if bronze then s.saf.bronze else s.saf.cobalt

def State.modOut (s : State) (k : Fin 4) (f : SafOut → SafOut) : State := s.onSaf (fun x => { x with out := vset x.out k f })

def State.modConn (s : State) (c : Fin 16) (f : SafConn → SafConn) : State := s.onSaf (fun x => { x with conn := vset x.conn c f })

def State.modSrst (s : State) (f : SrstSt → SrstSt) : State := s.onSaf (fun x => { x with srst := f x.srst })

/-- The device has entered HOLD since the release: Bronze runs, in FREEZE too. -/
def State.safLive (s : State) : Bool := s.pwr.phase == .running

/-- A SAFETY record (R361); none in FREEZE, where nothing is emitted. Cobalt emits Bronze's records, so while Cobalt is silent they wait
(log 147). -/
def State.safRec (s : State) (bronze : Bool) (time code detail a b : Nat) : State :=
  let p := leBytes 2 code ++ leBytes 2 detail ++ leBytes 4 a ++ leBytes 8 b
  if s.mode.mode = .freeze then s
  else if bronze && s.saf.silent then s.onSaf (fun x => { x with owed := x.owed ++ [⟨time, Unit.bronze, 8, 0, p⟩] })
  else s.emit time (if bronze then Unit.bronze else Unit.cobalt) 8 0 p

/-- Does a channel act at all: Bronze from HOLD entry on, in FREEZE too; Cobalt stands still in FREEZE (R346). -/
def State.chanLive (s : State) (bronze : Bool) : Bool := s.safLive && (bronze || s.running)

/-! ## Input pairs (R326 to R331) -/

/-- Mode of a pair: 0 unused, 1 equivalent, 2 antivalent; the STO pair is equivalent (R331). -/
def State.pairMode (s : State) (p : Fin 9) : Nat :=
  if p.val < 8 then s.regs.SAF_INk_CFG_MODE p else b2n s.regs.SAF_STO_CFG_EN

/-- Test pulses feed the pair (R329). -/
def State.pairTp (s : State) (p : Fin 9) : Bool := decide (p.val < 8) && s.regs.SAF_INk_CFG_TP p && s.pairMode p != 0

/-- Filter time and discrepancy time, ns. -/
def State.pairFilt (s : State) (p : Fin 9) : Nat :=
  100000 * (if p.val < 8 then s.regs.SAF_INk_CFG_FILT p else s.regs.SAF_STO_CFG_FILT)
def State.pairDisc (s : State) (p : Fin 9) : Nat :=
  1000000 * (if p.val < 8 then s.regs.SAF_INk_CFG_DISC p else s.regs.SAF_STO_CFG_DISC)

/-- Channels A and B of a pair are in their run state. -/
def State.runA (_ : State) (v : SafView) (p : Fin 9) : Bool := v.filtA[p]
def State.runB (s : State) (v : SafView) (p : Fin 9) : Bool := if s.pairMode p = 2 then !v.filtB[p] else v.filtB[p]

/-- Does a pair demand (R326, R328, R330)? -/
def State.pairDemand (s : State) (v : SafView) (p : Fin 9) : Bool :=
  s.pairMode p != 0 && (v.fault[p] || v.v24sOut || !(s.runA v p && s.runB v p))

/-- A selector of a slot, 0 or 1. -/
def State.slotSel (s : State) (k j : Nat) : Nat := if j = 0 then s.regs.SAF_FNk_SEL_SEL0 k else s.regs.SAF_FNk_SEL_SEL1 k

/-- A bit of a connection as a channel holds it: 0 unless the connection is valid (R332, R356). -/
def SafView.conBit (v : SafView) (c : Fin 16) (b : Nat) : Bool := v.conn[c].valid && bit v.conn[c].bits b

/-- Does a selector demand in a channel? -/
def State.selDemand (s : State) (v : SafView) (k j : Nat) : Bool :=
  let w := s.slotSel k j
  w.testBit 15 && !v.conBit (Fin.ofNat 16 (w % 16)) (w / 16 % 32)

/-- Does a function slot demand (R332)? -/
def State.slotDemand (s : State) (v : SafView) (k : Nat) : Bool :=
  s.regs.SAF_FNk_CFG_TYPE k != 0 &&
    ((List.finRange 9).any (fun (p : Fin 9) => decide (p.val < 8) && (s.regs.SAF_FNk_CFG_IN k).testBit p.val && s.pairDemand v p)
      || s.selDemand v k 0 || s.selDemand v k 1)

/-- The causes of the demands that a channel sees (Table 1). -/
def State.demands (s : State) (v : SafView) : List Nat :=
  ((List.range 8).filter (s.slotDemand v)).map (0x100 + ·) ++ (if s.pairDemand v 8 then [0x200] else [])

/-- The stamp of a pair's demand: the first raw edge of its channels that demand. -/
def State.pairStamp (s : State) (v : SafView) (p : Fin 9) : Nat :=
  let a := s.saf.edgeA[p].2
  let b := s.saf.edgeB[p].2
  match s.runA v p, s.runB v p with
  | false, false => min a b
  | false, true => a
  | true, false => b
  | true, true => s.tb

/-- The stamp of a demand: the first of its triggers (Table 9). -/
def State.demandStamp (s : State) (v : SafView) (cause : Nat) : Nat :=
  if cause = 0x200 then s.pairStamp v 8
  else
    let k := cause % 256
    let ps := ((List.finRange 9).filter (fun (p : Fin 9) => decide (p.val < 8) && (s.regs.SAF_FNk_CFG_IN k).testBit p.val && s.pairDemand v p)).map
      (s.pairStamp v)
    let cs := ([0, 1].filter (s.selDemand v k)).map (fun j =>
      let c : Fin 16 := Fin.ofNat 16 (s.slotSel k j % 16)
      if v.conn[c].valid then v.conn[c].stamp else s.tb)
    (ps ++ cs).foldl min s.tb

/-- A view after one of its levels has changed: the disagreement that the discrepancy time watches, and the clearance of a fault
(R328). -/
def State.pairWatch (s : State) (bronze : Bool) (p : Fin 9) : State :=
  let v := s.view bronze
  let a := s.runA v p
  let b := s.runB v p
  s.modView bronze (fun v => { v with
    since := vset v.since p (fun t => if a != b && !v.fault[p] && s.pairMode p != 0 then some (t.getD s.now) else none)
    both := vset v.both p (fun x => v.fault[p] && (x || (!a && !b)))
    fault := vset v.fault p (fun x => x && !(v.both[p] && a && b)) })

/-- A channel of a pair changes its filtered state in a view. -/
def State.setFilt (s : State) (bronze : Bool) (p : Fin 9) (chB level : Bool) : State :=
  (s.modView bronze (fun v =>
    if chB then { v with filtB := v.filtB.set p level } else { v with filtA := v.filtA.set p level })).pairWatch bronze p

/-- Is an input fed from a TPO output that is dark or recovering, as a channel times it (R320, R329)? -/
def State.masked (s : State) (bronze : Bool) (p : Fin 9) (chB : Bool) : Bool :=
  let o := if chB then s.saf.tpo1 else s.saf.tpo0
  let t := if bronze then o.phaseB else o.phase
  s.pairTp p && (t == .dark || t == .recover)

/-- A channel whose raw level has held the new value for FILT (R327). -/
def State.filtDue (s : State) (bronze : Bool) (p : Fin 9) (chB : Bool) : Bool :=
  let v := s.view bronze
  let raw := if chB then s.saf.rawB[p] else s.saf.rawA[p]
  let old := if chB then v.filtB[p] else v.filtA[p]
  let edge := if chB then s.saf.edgeB[p].1 else s.saf.edgeA[p].1
  raw != old && !s.masked bronze p chB && decide (edge + s.pairFilt p ≤ s.now)

/-! ## Latched causes -/

/-- `SAF_LATCH` (Table 11). -/
def State.latchWord (s : State) : Nat :=
  maskOf 32 (fun i => s.saf.latched.any (fun l =>
    let c := l.1
    match c / 256 with
    | 3 => if c % 256 = 8 then i == 12 else i == c % 256
    | 5 => i == 8 + c % 256
    | 2 => i == 12
    | 6 => i == 13
    | 7 => i == 14
    | 8 => i == 15
    | 4 => i == 16 + c % 256
    | _ => false))

/-- Is a cause latched? -/
def State.hasLatched (s : State) (cause : Nat) : Bool := s.saf.latched.any (fun l => l.1 == cause)

/-- Is a channel fault latched? -/
def State.chanLatched (s : State) : Bool := s.saf.latched.any (fun l => l.1 / 256 == 7)

/-- An SRST record (R348, Table 9). -/
def State.srstRec (s : State) (time result ms : Nat) : State :=
  (s.modSrst (fun x => { x with result := result, ms := min ms 0xFFFF })).safRec false time 0x0D09 result ms s.latchWord

/-- A cause latches; an accepted press that waits for its boundary is cancelled (R350). -/
def State.latch (s : State) (cause stamp : Nat) : State :=
  let s := if s.hasLatched cause then s else s.onSaf (fun x => { x with latched := x.latched ++ [(cause, stamp)] })
  match s.saf.srst.accepted with
  | some (_, ms) => (s.modSrst (fun x => { x with accepted := none })).srstRec s.tb 8 ms
  | none => s

/-! ## Removal of torque and safe outputs (R334, R338, R341 to R345) -/

/-- The instants of the safe-output timers, ns. -/
def State.soTpw (s : State) (k : Fin 4) : Nat := s.regs.SAF_SOk_TIM_TPW k * 10000
def State.soTper (s : State) (k : Fin 4) : Nat := s.regs.SAF_SOk_TIM_TPER k * 100000000
def State.soEdm (s : State) (k : Fin 4) : Nat := s.regs.SAF_SOk_TIM_EDM_T k * 1000000

/-- Is the output commanded on, by both channels (R342)? -/
def SafOut.cmd (o : SafOut) : Bool := o.cmdC && o.cmdB

/-- Has a channel found a fault of the output? -/
def SafOut.fault (o : SafOut) : Bool := o.faultC || o.faultB

/-- A channel's own path removes torque (R338). -/
def State.pathActs (s : State) (bronze : Bool) : Bool := if bronze then s.gd.blocked else !s.gd.swClosed

/-- Does a channel permit a safe output to be on (R342, R343, R346)? -/
def State.soWant (s : State) (bronze : Bool) (k : Fin 4) : Bool :=
  let o := s.saf.out[k]
  s.safLive && !o.fault && !s.chanLatched && !(s.view bronze).v24sOut &&
    match s.regs.SAF_SOk_CFG_MODE k with
    | 1 => o.request && !(if bronze then o.sbcB else o.sbcC) && !s.pathActs bronze
    | 2 => !s.pathActs bronze
    | 3 => s.mode.mode == .hold || s.mode.mode == .drive || s.mode.mode == .limp || s.mode.mode == .brake || s.mode.mode == .freeze
    | _ => false

/-- A channel switches its switch of an output off; where that takes back the output's command, the test that runs is discarded and each
channel that runs watches EDM (R344 to R346). -/
def State.soDrop (s : State) (bronze : Bool) (k : Fin 4) : State :=
  let wait := if s.regs.SAF_SOk_CFG_EDM_EN k then some (true, s.now + s.soEdm k) else none
  s.modOut k (fun o =>
    let o := if o.cmd then { o with
        offAt := s.now, offInTest := o.darkC.isSome || o.darkB.isSome, edmB := wait, edmC := if s.mode.mode = .freeze then none else wait }
      else o
    if bronze then { o with cmdB := false, swB := false } else { o with cmdC := false, swC := false })

/-- A channel switches off the outputs that it does not permit, and Cobalt those that Bronze has switched off (log 148). -/
def State.soOff (s : State) (bronze : Bool) : State :=
  (List.finRange 4).foldl (fun (s : State) (k : Fin 4) =>
    let o := s.saf.out[k]
    if (if bronze then o.cmdB else o.cmdC && (s.mode.mode != .freeze)) && (!s.soWant bronze k || (!bronze && !o.cmdB)) then s.soDrop bronze k else s) s

/-- A channel switches an SBC output off for an SS1 or an STO, with the record of an output that goes off (R343). -/
def State.sbcOff (s : State) (bronze : Bool) (k : Fin 4) (lead : Nat) : State :=
  let o := s.saf.out[k]
  if s.regs.SAF_SOk_CFG_MODE k = 1 && !(if bronze then o.sbcB else o.sbcC) then
    let s := s.modOut k (fun o => if bronze then { o with sbcB := true } else { o with sbcC := true })
    if o.cmd then (s.soDrop bronze k).safRec bronze s.tb 0x0D0B k lead 0
    else if if bronze then o.cmdB else o.cmdC then s.soDrop bronze k
    else s
  else s

/-- The supervisor takes an STO: every axis is OFF or stays in HALT, and the chopper legs are off (R341). -/
def State.stoTold (s : State) : State :=
  if s.saf.told || s.mode.mode == .freeze then s
  else
    let s := (s.onSaf (fun x => { x with told := true })).testAbortAll
    let s := s.onGd (fun g => { g with chop := g.chop.map (fun c => { c with on := false }) })
    let s := (List.finRange 6).foldl (fun (s : State) (n : Fin 6) => s.axSto n) s
    (List.finRange 4).foldl (fun (s : State) (x : Fin 4) => s.auxSto x) s

/-- STO acts: its instant and cause are kept and any SS1 ends (R337). -/
def State.stoActs (s : State) (cause stamp : Nat) : State :=
  if s.saf.sto then s
  else s.onSaf (fun x => { x with
    sto := true, told := false, stoAt := s.now, stoTb := s.tb, stoCause := cause, stoFrom := stamp, ss1 := []
    cobalt := { x.cobalt with still := none }, bronze := { x.bronze with still := none } })

/-- The outputs of a channel whose path acts (R343). -/
def State.outputsOff (s : State) (bronze : Bool) : State :=
  ((List.finRange 4).foldl (fun (s : State) (k : Fin 4) => s.sbcOff bronze k 0) s).soOff bronze

/-- Does the supervisor learn at once what is done? Bronze's state reaches it through Cobalt (R325). -/
def State.heard (s : State) (c : Bool) : Bool := c || !s.saf.silent

/-- A path acts, or both (R338): SBC outputs and contactors of that channel switch off, and the first time STO acts, with the STO record
of the path that acts first (Table 9, log 60). In FREEZE the axes are held as they were and Cobalt stands still. `obs`: Bronze has observed
the cause; `b`, `c`: the paths that act. -/
def State.pathAct (s : State) (obs b c : Bool) (cause stamp : Nat) : State :=
  let c := c && s.mode.mode != .freeze
  let first := !s.saf.sto
  let s := (s.onGd (fun g => { g with blocked := g.blocked || b, swClosed := g.swClosed && !c })).stoActs cause stamp
  let s := if s.heard c then s.stoTold else s
  let s := if b then s.outputsOff true else s
  let s := if c then s.outputsOff false else s
  if first then s.safRec obs s.saf.stoTb 0x0D02 (b2n b + 2 * b2n c) cause (s.saf.stoTb - stamp) else s

/-! ## Acting (R333, R335, R337) -/

/-- The slots that use a connection. -/
def State.slotsOf (s : State) (c : Nat) : List Nat :=
  (List.range 8).filter (fun k => s.regs.SAF_FNk_CFG_TYPE k != 0 &&
    [0, 1].any (fun j => (s.slotSel k j).testBit 15 && s.slotSel k j % 16 == c))

/-- The slots that a cause concerns. -/
def State.causeSlots (s : State) (cause : Nat) : List Nat :=
  match cause / 256 with
  | 1 => [cause % 256]
  | 4 => s.slotsOf (cause % 256)
  | _ => []

/-- The action of a cause: 1 STO, 2 SS1-t, 3 SS1-r; in HOLD always STO (R333, Table 1). -/
def State.actionOf (s : State) (cause : Nat) : Nat :=
  if s.mode.mode = .hold then 1
  else
    match (s.causeSlots cause).map (fun k => s.regs.SAF_FNk_CFG_TYPE k) with
    | [] => 1
    | t :: ts => if ts.all (· == t) then t else 1

/-- The device enters SAFE (R109, R111, R333); a pending COMMIT is aborted (R105). -/
def State.enterSafe (s : State) (cause action : Nat) (flags : Nat := 0) : State :=
  match s.mode.mode with
  | .hold | .drive | .limp | .brake =>
    ((s.onSaf (fun x => { x with first := cause })).changeMode .safe 0x0507 (cause + action * 0x10000) flags).commitAbort
  | _ => s

/-- The supervisor takes an SS1: what runs stops, and an axis in READY is OFF, since SAFE does not permit READY (R122, R335). -/
def State.ss1Stop (s : State) : State :=
  if s.mode.mode = .freeze then s
  else
    let s := (List.finRange 6).foldl (fun (s : State) (n : Fin 6) =>
      if !s.axAlloc n then s else if s.ax[n].state = .ready then s.axDown n .off else (s.crashEnd n).axStop n .ss1) s
    (List.finRange 4).foldl (fun (s : State) (x : Fin 4) =>
      if !s.auxAlloc x then s else if s.aux[x].state = .ready then s.auxDown x .off else s.auxStop x .ss1) s

/-- An SS1 of a slot starts in a channel, or the second channel joins it, each with the speeds that it sees (R335, R336). -/
def State.ss1Begin (s : State) (bronze : Bool) (k : Nat) : State :=
  let n0 : Vector Rat 6 := Vector.ofFn (fun n : Fin 6 => s.axSpeed n)
  if s.saf.ss1.any (fun r => r.slot == k) then
    s.onSaf (fun x => { x with ss1 := x.ss1.map (fun r =>
      if r.slot = k then
        (if bronze then (if r.atB.isSome then r else { r with atB := some s.now, n0B := n0 })
         else (if r.atC.isSome then r else { r with atC := some s.now, n0C := n0 }))
      else r) })
  else
    let run : Ss1Run :=
      { slot := k, typ := s.regs.SAF_FNk_CFG_TYPE k, atC := if bronze then none else some s.now, atB := if bronze then some s.now else none
        n0C := n0, n0B := n0 }
    let s := s.onSaf (fun x => { x with ss1 := x.ss1 ++ [run] })
    if s.heard (!bronze) then s.ss1Stop else s

/-- A channel acts on a cause. `obs`: Bronze has observed it; `b`, `c`: the channels that act. -/
def State.safAct (s : State) (obs b c : Bool) (cause stamp : Nat) : State :=
  if s.safLive && (b || s.mode.mode != .freeze) then
    let act := s.actionOf cause
    let s := s.latch cause stamp
    let s := if s.heard c then s.enterSafe cause act else s
    if act = 1 || s.saf.sto then s.pathAct obs b c cause stamp
    else (s.causeSlots cause).foldl (fun (s : State) (k : Nat) =>
      let s := if c then s.ss1Begin false k else s
      if b then s.ss1Begin true k else s) s
  else s

/-- A channel evaluates its demands and acts on each new one; the first channel to act writes the DEMAND record (R333, R337). -/
def State.safEval (s : State) (bronze : Bool) : State :=
  let v := s.view bronze
  let ds := s.demands v
  let new := ds.filter (fun c => !v.acted.contains c)
  let s := s.modView bronze (fun x => { x with acted := x.acted.filter ds.contains ++ new })
  new.foldl (fun (s : State) (c : Nat) =>
    let stamp := s.demandStamp v c
    let first := !(s.view (!bronze)).acted.contains c
    let act := s.actionOf c
    let s := if first then s.safRec bronze stamp 0x0D01 c act 0 else s
    s.safAct bronze bronze (!bronze) c stamp) s

/-- A channel fault (R321 to R324, R339): it latches until the next release. `b`, `c`: the channels that act; `bronze`: the
channel that observed it. -/
def State.chanFault (s : State) (sub : Nat) (b c bronze : Bool) : State :=
  if !s.safLive || s.hasLatched (0x700 + sub) then s
  else (s.safRec bronze s.tb 0x0D08 sub s.saf.cmpCount 0).safAct bronze b c (0x700 + sub) s.tb

/-! ## Output faults -/

/-- A channel finds a fault of a safe output (R320, R344, R345): kinds 1 and 2 by its voltage, kinds 3 and 4 by EDM, whose record shows a
voltage that nothing measures (free, log 3). The first channel to find it writes the record. -/
def State.soFault (s : State) (bronze : Bool) (k : Fin 4) (kind mv : Nat) : State :=
  let o := s.saf.out[k]
  if if bronze then o.faultB else o.faultC then s
  else
    let s := (s.modOut k (fun o => if bronze then { o with faultB := true } else { o with faultC := true })).soOff bronze
    let s := if o.fault then s else s.safRec bronze s.tb 0x0D06 (k.val + kind * 256) mv 0
    s.safAct bronze bronze (!bronze) (0x500 + k.val) s.tb

/-- A fault of kinds 3 and 4. -/
def State.edmFault (s : State) (bronze : Bool) (k : Fin 4) (kind : Nat) : State :=
  let i := s.freeIx
  (s.onFreeIx (· + 1)).soFault bronze k kind (Config.freeWord i).toNat

/-- An output is switched on by both channels; its first dark tests begin anew (R342, R345). -/
def State.soOn (s : State) (k : Fin 4) : State :=
  let wait := if s.regs.SAF_SOk_CFG_EDM_EN k then some (false, s.now + s.soEdm k) else none
  s.modOut k (fun o => { o with
    cmdC := true, cmdB := true, swC := true, swB := true, limited := false, darkC := none, darkB := none, lastC := none, lastB := none
    offInTest := false, edmC := wait, edmB := wait })

/-- Every safe output follows what it is to be; an output is switched on only where both channels permit it and EDM reads high, else each
channel finds a fault of kind 4 (R342, R345). -/
def State.soEval (s : State) : State :=
  if s.mode.mode = .freeze then s.soOff true
  else
    (List.finRange 4).foldl (fun (s : State) (k : Fin 4) =>
      let o := s.saf.out[k]
      if !o.cmdC && !o.cmdB && s.soWant false k && s.soWant true k then
        (if s.regs.SAF_SOk_CFG_EDM_EN k && !s.saf.edm.getLsbD k then (s.edmFault false k 4).edmFault true k 4 else s.soOn k)
      else s) ((s.soOff true).soOff false)

/-- The supervisor's requests for brake release (R342). -/
def State.soRequest (s : State) : State :=
  let up (n : Fin 6) : Bool :=
    match s.ax[n].state with
    | .run | .stop | .asc => true
    | .catching => s.ax[n].bridge == .modulate
    | .off | .ready | .halt => false
  let upx (x : Fin 4) : Bool :=
    match s.aux[x].state with
    | .run | .stop => true
    | .off | .ready | .homing | .halt => false
  (List.finRange 4).foldl (fun (s : State) (k : Fin 4) =>
    let r := (List.finRange 6).any (fun n => (s.regs.SAF_SOk_CFG_AX k).testBit n && up n)
      || (List.finRange 4).any (fun x => (s.regs.SAF_SOk_CFG_AUX k).testBit x && upx x)
    s.modOut k (fun o => { o with request := r })) s

/-! ## The scan (R320, R324, R325, R336) -/

/-- A main axis that SS1-r monitors. -/
def State.monitored (s : State) (n : Fin 6) : Bool :=
  s.axAlloc n && match s.ax[n].state with
    | .catching | .run | .stop | .asc => true
    | .off | .ready | .halt => false

/-- The envelope of SS1-r for an axis, rpm; `none` before monitoring starts (R336). `n0`: its speed at the demand; `t`: ns since it. -/
def State.ss1Envelope (s : State) (n0 : Rat) (n : Fin 6) (t : Nat) : Option Rat :=
  let tdly := s.regs.SAF_SS1R * 1000000
  if t ≤ tdly then none
  else some (absR n0 - s.regs.SAF_AXn_DECMON n * secOf (t - tdly) + s.regs.SAF_AXn_NTOL n)

/-- When a channel saw the demand of an SS1. -/
def Ss1Run.since (r : Ss1Run) (bronze : Bool) : Option Nat := if bronze then r.atB else r.atC

/-- The envelope that an axis is above in one SS1-r, as a channel sees it from its own instant of the demand (R336). -/
def State.ss1Above (s : State) (r : Ss1Run) (bronze : Bool) (n : Fin 6) : Option Rat :=
  match r.typ == 3, r.since bronze with
  | true, some t0 => match s.ss1Envelope (if bronze then r.n0B[n] else r.n0C[n]) n (s.now - t0) with
    | some e => if s.monitored n && decide (e < absR (s.axSpeed n)) then some e else none
    | none => none
  | _, _ => none

/-- A ramp violation: its record, whose TIME is the sample instant of the update (DEDUCED, log 134), and STO. -/
def State.ss1Viol (s : State) (bronze : Bool) (n : Fin 6) (e : Rat) (time : Nat) : State :=
  (s.safRec bronze time 0x0D03 n (rpm10 (s.axSpeed n)) (twos 8 ((e * 10).floor))).safAct bronze true (!bronze) (0x800 + n.val) s.tb

/-- The ramp monitor of SS1-r in Cobalt, axis by axis: the first violation gives STO (R336). -/
def State.ss1Monitor (s : State) : State :=
  match s.saf.ss1.findSome? (fun r => (List.finRange 6).findSome? (fun n => (s.ss1Above r false n).map (fun e => (n, e)))) with
  | some (n, e) => s.ss1Viol false n e s.ax[n].updAt
  | none => s

/-- Every monitored axis is at standstill; an auxiliary axis counts by its commanded speed (R336). -/
def State.allStill (s : State) : Bool :=
  (List.finRange 6).all (fun n => !s.monitored n || decide (absR (s.axSpeed n) ≤ s.regs.SAF_AXn_NSTILL n))
    && (List.finRange 4).all (fun x => !s.auxAlloc x || (s.aux[x].n0 == 0 && s.aux[x].n1 == 0))

/-- A channel watches for standstill in an SS1-r that it monitors (R336): Cobalt at each scan, Bronze at each update and scan (log 134). -/
def State.stillWatch (s : State) (bronze : Bool) : State :=
  let on := s.saf.ss1.any (fun r => r.typ == 3 && (r.since bronze).isSome) && s.allStill
  if s.saf.ss1.isEmpty then s
  else s.modView bronze (fun v => { v with still := if on then some (v.still.getD s.now) else none })

/-- The monitor of SS1-r in Bronze, which takes the speed of an axis from each update (R336). -/
def State.ss1Bronze (s : State) (n : Fin 6) (sample : Nat) : State :=
  match s.saf.ss1.findSome? (fun r => s.ss1Above r true n) with
  | some e => s.ss1Viol true n e sample
  | none => s.stillWatch true

/-- The safe bits of a producer (Table 5). -/
def State.safData (s : State) : Word :=
  let v := s.saf.cobalt
  w32 (maskOf 32 (fun i =>
    if i < 8 then let p : Fin 9 := Fin.ofNat 9 i; !s.pairDemand v p && !v.fault[p]
    else if i < 16 then !s.slotDemand v (i - 8)
    else if i = 16 then !s.pairDemand v 8
    else if i = 17 then s.mode.mode != .safe
    else if i = 18 then !s.saf.sto
    else i == 31 && s.tbs.synced))

/-- Is an output on at its ball? -/
def SafOut.isOn (o : SafOut) : Bool := o.cmd && o.swC && o.swB && !o.limited

/-- `SAF_STAT` (Table 11). -/
def State.safStat (s : State) : Word :=
  w32 (maskOf 16 (fun i =>
    match i with
    | 0 => !s.saf.latched.isEmpty
    | 1 => s.gd.blocked
    | 2 => !s.gd.swClosed
    | 3 => !s.saf.ss1.isEmpty
    | 4 => s.saf.srst.stuck
    | 5 => s.chanLatched
    | 6 => !s.saf.cobalt.v24sOut
    | 7 => s.saf.vcoreSOk
    | 8 => s.saf.ptDue
    | _ => false) + s.saf.first * 0x10000)

/-- Cobalt rewrites the mirror (R325, Table 11). -/
def State.mirror (s : State) : State :=
  let v := s.saf.cobalt
  let m : SafMirror :=
    { stat := s.safStat
      demand := w32 (maskOf 9 (fun i => if i < 8 then s.slotDemand v i else s.pairDemand v 8))
      latch := w32 s.latchWord
      inStat := w32 (maskOf 32 (fun i =>
        let p : Fin 9 := Fin.ofNat 9 (i / 4)
        match i % 4 with
        | 0 => s.saf.rawA[p]
        | 1 => s.saf.rawB[p]
        | 2 => s.pairDemand v p
        | _ => v.fault[p]))
      soStat := w32 (maskOf 32 (fun i =>
        let o := s.saf.out[(Fin.ofNat 4 (i / 8) : Fin 4)]
        match i % 8 with
        | 0 => o.isOn
        | 1 => o.swC
        | 2 => o.swB
        | 3 => s.saf.edm.getLsbD (i / 8)
        | 4 => o.fault
        | 5 => o.discarded
        | _ => false))
      connOk := w32 (maskOf 16 (fun c => v.conn[(Fin.ofNat 16 c : Fin 16)].valid))
      ptAge := toF32 (secOf (s.now - s.saf.ptAt))
      srst := w32 (s.saf.srst.ms + s.saf.srst.result * 0x10000)
      v24s := toF32 s.saf.v24s
      conStat := Vector.ofFn (fun c : Fin 16 =>
        let x := s.saf.conn[c]
        w32 (b2n v.conn[c].valid + 2 * b2n x.lost + min x.disc 0xFFFF * 0x10000))
      conSeq := Vector.ofFn (fun c : Fin 16 => s.saf.conn[c].seqShown)
      data := s.safData }
  s.onSaf (fun x => { x with mirror := m, mirrorAt := s.now })

/-! ## Consumed connections (R352 to R356) -/

/-- Is a connection consumed, or produced? -/
def State.consumes (s : State) (c : Fin 16) : Bool := s.regs.SAF_CONc_CFG_EN c && !s.regs.SAF_CONc_CFG_DIR c
def State.produces (s : State) (c : Fin 16) : Bool := s.regs.SAF_CONc_CFG_EN c && s.regs.SAF_CONc_CFG_DIR c

/-- The CHECK of an envelope's first 20 bytes (R354). -/
def envCheck (id : Word) (bs : List Byte) : Word := ~~~ (crc32cRun id (bs.take 20))

/-- Does a channel accept an envelope (R356)? `stamp`: its arrival stamp. -/
def State.envOk (s : State) (bronze : Bool) (c : Fin 16) (b : List Byte) (stamp : Nat) : Bool :=
  let seq := leAt b 0 4
  let time := leAt b 4 8
  let data := w32 (leAt b 12 4)
  decide (b.length = 24)
    && w32 (leAt b 20 4) == envCheck (s.regs.SAF_CONc_ID c) b
    && w32 (leAt b 16 4) == ~~~ data
    && (match (s.view bronze).conn[c].last with
      | some q => let d := (seq + 0x100000000 - q) % 0x100000000; decide (1 ≤ d) && decide (d ≤ 0x7FFFFFFF)
      | none => true)
    && !(s.regs.SAF_CONc_CFG_AGE c && s.tbs.synced && bit data 31
      && (decide (stamp + 1000 < time) || decide (s.regs.SAF_CONc_TIM_WDT c * 1000000 < stamp - time)))

/-- What a channel holds of a connection after an envelope that it accepts: the third in sequence makes it valid (R356). -/
def SafRecv.take (x : SafRecv) (b : List Byte) (now stamp : Nat) : SafRecv :=
  { last := some (leAt b 0 4), run := min 3 (x.run + 1), bits := w32 (leAt b 12 4), at' := now, stamp := stamp
    valid := x.valid || decide (2 ≤ x.run) }

/-- Change a connection as a channel holds it. -/
def State.modRecv (s : State) (bronze : Bool) (c : Fin 16) (f : SafRecv → SafRecv) : State :=
  s.modView bronze (fun v => { v with conn := vset v.conn c f })

/-- An envelope of a consumed connection arrives; Bronze has it from Cobalt and checks it itself (R352, R356). What Cobalt discards is
counted. -/
def State.envelopeIn (s : State) (c : Fin 16) (b : List Byte) (stamp : Nat) : State :=
  if !(s.running && s.consumes c) then s
  else
    let s := if s.envOk true c b stamp then s.modRecv true c (fun x => x.take b s.now stamp) else s
    if !s.envOk false c b stamp then s.modConn c (fun x => { x with disc := satInc 16 x.disc, discNew := x.discNew + 1 })
    else
      let up := decide (2 ≤ s.saf.cobalt.conn[c].run) && !s.saf.cobalt.conn[c].valid
      let seq := leAt b 0 4
      let s := (s.modRecv false c (fun x => x.take b s.now stamp)).modConn c (fun x => { x with seqShown := w32 seq })
      if up then (s.safRec false stamp 0x0D05 c s.saf.conn[c].discNew seq).modConn c (fun x => { x with discNew := 0 }) else s

/-- `CONNECTION_LOST`: the watchdog of a consumed connection expires in a channel (R320, R356); the first channel to lose it writes the
record. In FREEZE Bronze's goes on, since R356 gives its timer no stop (DESIGN CHOICE, log 149). -/
def State.connectionLost (s : State) (c : Fin 16) (bronze : Bool) : State :=
  let x := (s.view bronze).conn[c]
  if s.chanLive bronze && s.consumes c && x.run != 0 && decide (x.at' + s.regs.SAF_CONc_TIM_WDT c * 1000000 ≤ s.now) then
    let s :=
      if (s.view (!bronze)).conn[c].run = 0 then s
      else (s.safRec bronze s.tb 0x0D05 (c.val + 256) s.saf.conn[c].discNew s.saf.conn[c].seqShown.toNat).modConn c (fun x => { x with discNew := 0 })
    let s := (s.modRecv bronze c (fun _ => {})).modConn c (fun x => { x with lost := true })
    if (s.slotsOf c).isEmpty then s
    else (s.safAct bronze bronze (!bronze) (0x400 + c.val) s.tb).safEval bronze
  else s

def execConnectionLost (dt : Nat) (c : Fin 16) (s : State) (bronze : Bool := false) : Host.Outcome State Fault Refusal :=
  done ((s.advance dt).connectionLost c bronze)

/-! ## The rows of the two channels -/

/-- The levels of the EDM balls, which both channels read: a watch that they satisfy ends (R345). -/
def State.edmRead (s : State) (edm : BitVec 4) : State :=
  let keep (o : SafOut) (k : Fin 4) (w : Option (Bool × Nat)) : Option (Bool × Nat) :=
    match w with
    | some (lvl, t) => if edm.getLsbD k == lvl && !o.limited then none else some (lvl, t)
    | none => none
  (List.finRange 4).foldl (fun (s : State) (k : Fin 4) => s.modOut k (fun o => { o with edmC := keep o k o.edmC, edmB := keep o k o.edmB }))
    (s.onSaf (fun x => { x with edm := edm }))

/-- Cobalt takes the levels that have held for FILT (R327). -/
def State.cobaltFilters (s : State) : State :=
  (List.finRange 9).foldl (fun (s : State) (p : Fin 9) =>
    let s := if s.filtDue false p false then s.setFilt false p false s.saf.rawA[p] else s
    if s.filtDue false p true then s.setFilt false p true s.saf.rawB[p] else s) s

/-- `COBALT_SAMPLE`: every 50 µs Cobalt reads the safe pins (R320, R327). No other row tells the levels of the EDM balls, so the row is read
for them also before HOLD entry and, for Bronze, in FREEZE (DEDUCED, log 148). -/
def State.cobaltSample (s : State) (edm : BitVec 4) : State :=
  if s.running then (if s.tb % 50000 = 0 then (s.edmRead edm).cobaltFilters else s)
  else s.edmRead edm

def execCobaltSample (dt : Nat) (edm : BitVec 4) (s : State) : Host.Outcome State Fault Refusal :=
  done ((s.advance dt).cobaltSample edm)

/-- The envelope buffers of CAN are read at a scan (R429). -/
def State.readEnvelopes (s : State) : State :=
  (List.finRange 2).foldl (fun (s : State) (n : Fin 2) => (List.finRange 16).foldl (fun (s : State) (c : Fin 16) =>
    match s.can[n].env[c] with
    | some (b, stamp) =>
      (s.onCan (fun v => vset v n (fun x => { x with env := x.env.set c none }))).envelopeIn c b stamp
    | none => s) s) s

/-- Cobalt answers again after a silence: Bronze's records leave, and the supervisor takes what Bronze has done (R325, R361). -/
def State.cobaltBack (s : State) : State :=
  if !s.saf.silent then s
  else
    let s := s.saf.owed.foldl (fun (s : State) r => s.emit r.time r.unit r.typ r.flags r.payload)
      (s.onSaf (fun x => { x with silent := false, owed := [] }))
    let s := match s.saf.latched with
      | l :: _ => s.enterSafe l.1 (s.actionOf l.1)
      | [] => s
    if s.saf.sto then s.stoTold else if s.saf.ss1.isEmpty then s else s.ss1Stop

/-- `COBALT_SCAN`: every 100 µs Cobalt checks itself, evaluates inputs, functions and connections, and rewrites the mirror
(R320, R324, R325). -/
def State.cobaltScan (s : State) (sramOk instrOk inTime : Bool) : State :=
  if s.running && s.tb % 100000 == 0 then
    let s := s.cobaltBack
    let s := if instrOk then s else s.chanFault 1 true true false
    let s := if sramOk then s else s.chanFault 2 true true false
    let s := if inTime then s else s.chanFault 3 true true false
    let s := s.readEnvelopes
    let s := (s.safEval true).safEval false
    let s := if s.saf.sto then s.pathAct false false true s.saf.stoCause s.saf.stoFrom else s
    let s := (s.ss1Monitor.stillWatch false).stillWatch true
    s.soEval.mirror
  else s

def execCobaltScan (dt : Nat) (sramOk instrOk inTime : Bool) (s : State) : Host.Outcome State Fault Refusal :=
  done ((s.advance dt).cobaltScan sramOk instrOk inTime)

/-- Since when an item of the compare sets has differed. -/
def State.differSince (s : State) (old : Option Nat) (differs : Bool) : Option Nat := if differs then some (old.getD s.now) else none

/-- Has a difference stood for longer than 0.3 of a filter time and 1 ms (R321)? -/
def State.stood (s : State) (filt : Nat) (since : Option Nat) : Bool :=
  match since with
  | some t => decide (3 * filt / 10 + 1000000 < s.now - t)
  | none => false

/-- The longest filter time of the pairs of a slot, ns. -/
def State.slotFilt (s : State) (k : Nat) : Nat :=
  ((List.finRange 9).filter (fun (p : Fin 9) => decide (p.val < 8) && (s.regs.SAF_FNk_CFG_IN k).testBit p.val)).foldl (fun a p => max a (s.pairFilt p)) 0

/-- Do the timers of an SS1 differ in the two sets, beyond what the demand of its slot may (R321, log 148)? -/
def State.timersDiffer (s : State) (r : Ss1Run) : Bool :=
  let slack := 3 * s.slotFilt r.slot / 10 + 1000000
  match r.atC, r.atB with
  | some c, some b => decide (slack < c - b) || decide (slack < b - c)
  | some t, none | none, some t => decide (slack < s.now - t)
  | none, none => false

/-- Do the compare sets differ in an item that is no input, demand or connection state (R321)? -/
def State.setsDiffer (s : State) : Bool :=
  s.saf.ss1.any s.timersDiffer || s.pathActs true != s.pathActs false || (List.finRange 4).any (fun k => s.saf.out[k].cmdC != s.saf.out[k].cmdB)

/-- Bronze takes from Cobalt's set that its path acts or its switch is off, and follows with its own (R339, log 148). -/
def State.bronzeFollows (s : State) : State :=
  let s := if s.saf.sto && !s.gd.blocked then s.pathAct true true false s.saf.stoCause s.saf.stoFrom else s
  (List.finRange 4).foldl (fun (s : State) (k : Fin 4) => if s.saf.out[k].cmdB && !s.saf.out[k].cmdC then s.soDrop true k else s) s

/-- `SAFETY_COMPARE`: every 500 µs the channels compare (R321). What the state holds of each channel is compared here; `differs`: the sets
differ in an item that it holds once: a read-back of the other path, the latch, the count. -/
def State.safetyCompare (s : State) (differs : Bool) : State :=
  if s.running && s.tb % 500000 == 0 then
    let c := s.saf.cobalt
    let b := s.saf.bronze
    let pairs : Vector (Option Nat) 9 := Vector.ofFn (fun p : Fin 9 => s.differSince s.saf.cmpSince[p]
      (s.pairMode p != 0 && (c.filtA[p] != b.filtA[p] || c.filtB[p] != b.filtB[p] || s.pairDemand c p != s.pairDemand b p || c.fault[p] != b.fault[p])))
    let slots : Vector (Option Nat) 8 := Vector.ofFn (fun k : Fin 8 => s.differSince s.saf.cmpSlot[k] (s.slotDemand c k != s.slotDemand b k))
    let conns : Vector (Option Nat) 16 := Vector.ofFn (fun k : Fin 16 => s.differSince s.saf.cmpConn[k] (c.conn[k].valid != b.conn[k].valid))
    let bad := if differs || s.setsDiffer then s.saf.cmpBad + 1 else 0
    let s := s.onSaf (fun x => { x with
      cmpAt := s.now, cmpCount := (x.cmpCount + 1) % 65536, cmpBad := bad, cmpSince := pairs, cmpSlot := slots, cmpConn := conns })
    let stands := (List.finRange 9).any (fun p => s.stood (s.pairFilt p) pairs[p]) || (List.finRange 8).any (fun k => s.stood (s.slotFilt k) slots[k])
      || (List.finRange 16).any (fun k => s.stood 0 conns[k])
    (if stands || decide (2 ≤ bad) then s.chanFault 7 true true false else s).bronzeFollows
  else s

def execSafetyCompare (dt : Nat) (differs : Bool) (s : State) : Host.Outcome State Fault Refusal :=
  done ((s.advance dt).safetyCompare differs)

/-- `COMPARE_STALE`: no compare set for 1.5 ms: Bronze removes torque by its own path, of which the supervisor learns nothing while Cobalt is
silent, or Cobalt by its own (R322, R325). In FREEZE Bronze takes the silence for no fault. -/
def State.compareStale (s : State) (atBronze : Bool) : State :=
  if s.running && decide (s.saf.cmpAt + 1500000 ≤ s.now) then
    (if atBronze then (s.onSaf (fun x => { x with silent := true })).chanFault 8 true false true else s.chanFault 9 false true false)
  else s

def execCompareStale (dt : Nat) (atBronze : Bool) (s : State) : Host.Outcome State Fault Refusal :=
  done ((s.advance dt).compareStale atBronze)

/-- `VCORE_S_WINDOW`: VCORE_S has left its window for 10 µs (R323). -/
def State.vcoreSWindow (s : State) : State :=
  if s.safLive then (s.onSaf (fun x => { x with vcoreSOk := false })).chanFault 5 true true true else s

def execVcoreSWindow (dt : Nat) (s : State) : Host.Outcome State Fault Refusal := done ((s.advance dt).vcoreSWindow)

/-- `COBALT_SUPPLY_WINDOW`: Cobalt's local supply has left its window for 10 µs (R324). -/
def State.cobaltSupply (s : State) : State := if s.running then s.chanFault 4 true true false else s

def execCobaltSupplyWindow (dt : Nat) (s : State) : Host.Outcome State Fault Refusal := done ((s.advance dt).cobaltSupply)

/-- `COBALT_ROM_CHECK`: every 10 min (R324). -/
def State.romCheck (s : State) (ok : Bool) : State :=
  if s.running && decide (s.saf.romAt + 600000000000 ≤ s.now) then
    let s := s.onSaf (fun x => { x with romAt := s.now })
    if ok then s else s.chanFault 1 true true false
  else s

def execCobaltRomCheck (dt : Nat) (ok : Bool) (s : State) : Host.Outcome State Fault Refusal :=
  done ((s.advance dt).romCheck ok)

/-- `MIRROR_STALE`: the mirror has not been rewritten for 2 ms: the supervisor takes the removal of torque as done, and the
device enters SAFE with a STATE record of FLAGS bit 1 (R325); the paths stay as their channels hold them. -/
def State.mirrorStale (s : State) : State :=
  if s.running && decide (s.saf.mirrorAt + 2000000 ≤ s.now) && !s.hasLatched 0x70B then
    (((s.latch 0x70B s.tb).enterSafe 0x70B 1 2).stoActs 0x70B s.tb).stoTold
  else s

def execMirrorStale (dt : Nat) (s : State) : Host.Outcome State Fault Refusal := done ((s.advance dt).mirrorStale)

/-! ## The rows of the inputs -/

/-- `SAFE_INPUT_EDGE`: a raw edge on a safe input (R327). -/
def State.safeEdge (s : State) (p : Fin 9) (chB level : Bool) : State :=
  s.onSaf (fun x =>
    if chB then
      (if x.rawB[p] == level then x else { x with rawB := x.rawB.set p level, edgeB := x.edgeB.set p (s.now, s.tb) })
    else
      (if x.rawA[p] == level then x else { x with rawA := x.rawA.set p level, edgeA := x.edgeA.set p (s.now, s.tb) }))

def execSafeInputEdge (dt : Nat) (p : Fin 9) (chB level : Bool) (s : State) : Host.Outcome State Fault Refusal :=
  done ((s.advance dt).safeEdge p chB level)

/-- `SAFE_INPUT_FILTERED`: Bronze's filter timer of a channel expires; Bronze evaluates and acts at once (R320, R327, R333). -/
def State.safeFiltered (s : State) (p : Fin 9) (chB : Bool) : State :=
  if s.safLive && s.filtDue true p chB then
    (s.setFilt true p chB (if chB then s.saf.rawB[p] else s.saf.rawA[p])).safEval true
  else s

def execSafeInputFiltered (dt : Nat) (p : Fin 9) (chB : Bool) (s : State) : Host.Outcome State Fault Refusal :=
  done ((s.advance dt).safeFiltered p chB)

/-- Levels of a pair at the balls, A in bit 0. -/
def State.pairLevels (s : State) (p : Fin 9) : Nat := b2n s.saf.rawA[p] + 2 * b2n s.saf.rawB[p]

/-- A view takes a fault of a pair (R328, R329). -/
def State.pairFault (s : State) (bronze : Bool) (p : Fin 9) : State :=
  s.modView bronze (fun v => { v with
    fault := v.fault.set p true, both := v.both.set p false, since := v.since.set p none })

/-- A channel's discrepancy time has run out. -/
def State.discDue (s : State) (bronze : Bool) (p : Fin 9) : Bool :=
  match (s.view bronze).since[p] with
  | some t => decide (t + s.pairDisc p ≤ s.now) && s.chanLive bronze
  | none => false

/-- A channel has found a fault of a pair: it latches, the channel acts and evaluates, and the first to find it writes the record (R320,
R328, R329). -/
def State.inFault (s : State) (bronze : Bool) (p : Fin 9) (kind stamp : Nat) : State :=
  let known := (s.view (!bronze)).fault[p]
  let s := s.pairFault bronze p
  let s := if known then s else s.safRec bronze stamp 0x0D04 (p.val + kind * 256) (s.pairLevels p) 0
  (s.safAct bronze bronze (!bronze) (0x300 + p.val) stamp).safEval bronze

/-- `DISCREPANCY_FAULT`, in one channel (R320, R328, R331). -/
def State.discrepancy (s : State) (p : Fin 9) (bronze : Bool) : State :=
  if s.discDue bronze p then s.inFault bronze p 1 (max s.saf.edgeA[p].2 s.saf.edgeB[p].2) else s

def execDiscrepancyFault (dt : Nat) (p : Fin 9) (s : State) (bronze : Bool := false) : Host.Outcome State Fault Refusal :=
  done ((s.advance dt).discrepancy p bronze)

/-- One of the two TPO outputs. -/
def State.tpo (s : State) (one : Bool) : TpoSt := if one then s.saf.tpo1 else s.saf.tpo0
def State.modTpo (s : State) (one : Bool) (f : TpoSt → TpoSt) : State :=
  s.onSaf (fun x => if one then { x with tpo1 := f x.tpo1 } else { x with tpo0 := f x.tpo0 })

/-- `TEST_PULSE_START`: TPO0 goes dark at every multiple of PER, TPO1 half a period later (R329). -/
def State.tpStart (s : State) (one : Bool) : State :=
  let per := s.regs.SAF_TP_PER * 1000000
  if s.running && (s.tpo one).phase == .lit && (s.tb + (if one then per / 2 else 0)) % per == 0 then
    s.modTpo one (fun _ =>
      { phase := .dark, phaseB := .dark, began := s.now
        high := BitVec.ofNat 8 (maskOf 8 (fun i =>
          let p : Fin 9 := Fin.ofNat 9 i
          s.pairTp p && (if one then s.saf.rawB[p] else s.saf.rawA[p]))) })
  else s

def execTestPulseStart (dt : Nat) (tpo1 : Bool) (s : State) : Host.Outcome State Fault Refusal :=
  done ((s.advance dt).tpStart tpo1)

/-- `TEST_PULSE_END`: at the end of the pulse, and of REC, a channel tests the inputs that are fed; `levels`: their levels (R320, R329). The
output itself lights again at the end of the pulse as Cobalt times it. A fault is stamped with the end of the pulse (Table 9). -/
def State.tpEnd (s : State) (one afterRec : Bool) (levels : BitVec 8) (bronze : Bool) : State :=
  let t := s.tpo one
  let w := s.regs.SAF_TP_W * 10000
  let due := if afterRec then w + s.regs.SAF_TP_REC * 10000 else w
  let at' : TpPhase := if afterRec then .recover else .dark
  let next : TpPhase := if afterRec then .lit else .recover
  if s.running && (if bronze then t.phaseB else t.phase) == at' && decide (t.began + due ≤ s.now) then
    let s := s.modTpo one (fun x => if bronze then { x with phaseB := next } else { x with phase := next })
    (List.finRange 8).foldl (fun (s : State) (i : Fin 8) =>
      let p : Fin 9 := ⟨i.val, by omega⟩
      if !s.pairTp p then s
      else
        let s := if afterRec then s.safeEdge p one (levels.getLsbD i) else s
        if t.high.getLsbD i && levels.getLsbD i != afterRec && !(s.view bronze).fault[p] then
          s.inFault bronze p (if one then 3 else 2) (s.tb - (s.now - (t.began + w)))
        else s) s
  else s

def execTestPulseEnd (dt : Nat) (tpo1 afterRec : Bool) (levels : BitVec 8) (s : State) (bronze : Bool := false) : Host.Outcome State Fault Refusal :=
  done ((s.advance dt).tpEnd tpo1 afterRec levels bronze)

/-- V24S in its window, mV (R330). -/
def v24sIn (mv : Nat) : Bool := decide (19200 ≤ mv) && decide (mv ≤ 30000)

/-- `V24S_OUT`, in one channel; the first to find it writes the record (R320, R330). -/
def State.v24sOut (s : State) (mv : Nat) (bronze : Bool) : State :=
  if s.chanLive bronze && !(s.view bronze).v24sOut && !v24sIn mv then
    let known := (s.view (!bronze)).v24sOut
    let s := (s.modView bronze (fun v => { v with v24sOut := true })).onSaf (fun x => { x with v24s := mkRat mv 1000 })
    let s := if known then s else s.safRec bronze s.tb 0x0D07 1 mv 0
    (s.soOff bronze).safAct bronze bronze (!bronze) 0x600 s.tb
  else s

def execV24sOut (dt : Nat) (millivolt : Nat) (s : State) (bronze : Bool := false) : Host.Outcome State Fault Refusal :=
  done ((s.advance dt).v24sOut millivolt bronze)

/-- `V24S_BACK`, in one channel; the first to find it writes the record (R320, R330). -/
def State.v24sBack (s : State) (mv : Nat) (bronze : Bool) : State :=
  if s.chanLive bronze && (s.view bronze).v24sOut && v24sIn mv then
    let known := !(s.view (!bronze)).v24sOut
    let s := (s.modView bronze (fun v => { v with v24sOut := false })).onSaf (fun x => { x with v24s := mkRat mv 1000 })
    if known then s else s.safRec bronze s.tb 0x0D07 0 mv 0
  else s

def execV24sBack (dt : Nat) (millivolt : Nat) (s : State) (bronze : Bool := false) : Host.Outcome State Fault Refusal :=
  done ((s.advance dt).v24sBack millivolt bronze)

/-! ## The rows of SS1 and STO -/

/-- The stamp of the demand of a slot. -/
def State.slotFrom (s : State) (k : Nat) : Nat :=
  match s.saf.latched.find? (fun l => l.1 == 0x100 + k) with
  | some l => l.2
  | none => s.tb

/-- STO ends an SS1 of a slot (R334): both paths act at once, Cobalt's unless it stands still. -/
def State.ss1End (s : State) (bronze : Bool) (slot : Nat) : State :=
  s.pathAct bronze true true (0x100 + slot) (s.slotFrom slot)

/-- `SS1_STO`: the time T of an SS1 runs out on a channel's timer, and STO acts (R335, R336). -/
def State.ss1Sto (s : State) (bronze : Bool) : State :=
  let due (r : Ss1Run) : Bool :=
    match r.since bronze with
    | some t0 => decide (t0 + nsOf (s.regs.SAF_FNk_T r.slot) ≤ s.now)
    | none => false
  if s.chanLive bronze then
    match s.saf.ss1.find? due with
    | some r => s.ss1End bronze r.slot
    | none => s
  else s

def execSs1Sto (dt : Nat) (bronze : Bool) (s : State) : Host.Outcome State Fault Refusal := done ((s.advance dt).ss1Sto bronze)

/-- The lead of a slot, ns (R343). -/
def State.leadNs (s : State) (k : Nat) : Nat := nsOf (s.regs.SAF_FNk_LEAD k)

/-- When a channel found STANDSTILL in an SS1-r. -/
def Ss1Run.stand (r : Ss1Run) (bronze : Bool) : Option Nat := if bronze then r.standB else r.standC

/-- `SS1R_STANDSTILL`: a channel has seen every monitored axis at standstill for 10 ms: it switches the SBC outputs off, and STO acts LEAD
later (R336, R343). -/
def State.ss1Standstill (s : State) (bronze : Bool) : State :=
  match (s.view bronze).still, s.saf.ss1.find? (fun r => r.typ == 3 && (r.since bronze).isSome && (r.stand bronze).isNone) with
  | some t, some r =>
    if s.running && decide (t + 10000000 ≤ s.now) then
      let s := (List.finRange 4).foldl (fun (s : State) (k : Fin 4) => s.sbcOff bronze k (s.leadNs r.slot / 1000)) s
      if s.leadNs r.slot = 0 then s.ss1End bronze r.slot
      else s.onSaf (fun x => { x with ss1 := x.ss1.map (fun q =>
        if q.slot = r.slot then (if bronze then { q with standB := some s.now } else { q with standC := some s.now }) else q) })
    else s
  | _, _ => s

def execSs1rStandstill (dt : Nat) (s : State) (bronze : Bool := false) : Host.Outcome State Fault Refusal := done ((s.advance dt).ss1Standstill bronze)

/-- `SS1R_LEAD_EXPIRY`: the lead that STANDSTILL started in a channel has run out, and STO acts (R343). -/
def State.ss1Lead (s : State) (bronze : Bool) : State :=
  match s.saf.ss1.find? (fun r => match r.stand bronze with
      | some t => decide (t + s.leadNs r.slot ≤ s.now)
      | none => false) with
  | some r => if s.chanLive bronze then s.ss1End bronze r.slot else s
  | none => s

def execSs1rLeadExpiry (dt : Nat) (s : State) (bronze : Bool := false) : Host.Outcome State Fault Refusal := done ((s.advance dt).ss1Lead bronze)

/-- `AXIS_DATA_STALE`: data of a monitored axis older than 2 ms during SS1-r give STO (R336). -/
def State.axisDataStale (s : State) : State :=
  if s.running && s.saf.ss1.any (fun r => r.typ == 3) && (List.finRange 6).any s.monitored then s.chanFault 10 true true false else s

def execAxisDataStale (dt : Nat) (s : State) : Host.Outcome State Fault Refusal := done ((s.advance dt).axisDataStale)

/-- `SBC`: a channel switches an SBC output off at T − LEAD of an SS1-t, or at the demand where LEAD is not below T, on its own timer; in FREEZE
Bronze does (R343, R346). -/
def State.sbc (s : State) (k : Fin 4) (bronze : Bool) : State :=
  let due (r : Ss1Run) : Bool :=
    match r.typ == 2, r.since bronze with
    | true, some t => decide (t + (nsOf (s.regs.SAF_FNk_T r.slot) - s.leadNs r.slot) ≤ s.now)
    | _, _ => false
  match s.saf.ss1.find? due with
  | some r => if s.chanLive bronze then s.sbcOff bronze k (s.leadNs r.slot / 1000) else s
  | none => s

def execSbc (dt : Nat) (k : Fin 4) (s : State) (bronze : Bool := false) : Host.Outcome State Fault Refusal := done ((s.advance dt).sbc k bronze)

/-- The result of a path check, at its end (R339, R340). -/
def State.pathRec (s : State) (ok : Bool) : State :=
  (s.onSaf (fun x => { x with pathFail := x.pathFail || !ok, ptAt := s.now })).safRec false s.tb 0x0D0A (if ok then 1 else 2) 0 0

/-- Both paths are set as the path test has them. -/
def State.pathSet (s : State) (blocked closed : Bool) : State := s.onGd (fun g => { g with blocked := blocked, swClosed := closed })

/-- Both paths read back as the path test has them. -/
def State.pathReads (s : State) (blocked closed : Bool) : Bool :=
  s.gd.blocked == blocked && s.gd.swClosed == closed && !s.saf.pathFail

/-- The path test of a LOAD: each path is released alone and set again while the other holds, and each channel confirms it by read-back
(R339). -/
def State.pathTest (s : State) : State :=
  let a := s.pathSet false false
  let b := a.pathSet true false
  let c := b.pathSet true true
  let d := c.pathSet true false
  d.pathRec (a.pathReads false false && b.pathReads true false && c.pathReads true true && d.pathReads true false)

/-- `PATH_CHECK_TIMEOUT`: a path has not acted within 1 ms of STO, or the path test of a LOAD has failed (R339). -/
def State.pathTimeout (s : State) : State :=
  if s.pwr.phase = .loading then s.pathRec false
  else if s.running && s.saf.sto && !(s.gd.blocked && !s.gd.swClosed) && decide (s.saf.stoAt + 1000000 ≤ s.now) then
    s.chanFault 6 s.gd.blocked (!s.gd.swClosed) s.gd.blocked
  else s

def execPathCheckTimeout (dt : Nat) (s : State) : Host.Outcome State Fault Refusal := done ((s.advance dt).pathTimeout)

/-- `PATH_TEST_DUE`: `SAF_PT_AGE` exceeds `PT_MAX` (R340). -/
def State.pathDue (s : State) : State :=
  if s.running && !s.saf.ptDue && decide (s.saf.ptAt + s.regs.SAF_CFG * 3600000000000 < s.now) then
    (s.onSaf (fun x => { x with ptDue := true })).safRec false s.tb 0x0D0A 3 ((s.now - s.saf.ptAt) / 3600000000000) 0
  else s

def execPathTestDue (dt : Nat) (s : State) : Host.Outcome State Fault Refusal := done ((s.advance dt).pathDue)

/-! ## The rows of the safe outputs -/

/-- A dark test of a channel's switch is due: TPER after its last one, and the first of Bronze TPER/2 after Cobalt's, which in FREEZE
Bronze does not wait for (R344, R346). -/
def State.darkDue (s : State) (k : Fin 4) (bronze : Bool) : Bool :=
  let o := s.saf.out[k]
  match bronze, o.lastB, o.lastC with
  | false, _, some t => decide (t + s.soTper k ≤ s.now)
  | false, _, none => true
  | true, some t, _ => decide (t + s.soTper k ≤ s.now)
  | true, none, some t => decide (t + s.soTper k / 2 ≤ s.now)
  | true, none, none => !s.running

/-- `SO_DARK_TEST_START`: a channel switches its switch of an output off once per TPER (R344); in FREEZE Bronze alone (R346). -/
def State.darkStart (s : State) (k : Fin 4) (bronze : Bool) : State :=
  let o := s.saf.out[k]
  if s.chanLive bronze && o.isOn && o.darkC.isNone && o.darkB.isNone && s.darkDue k bronze then
    s.modOut k (fun o =>
      if bronze then { o with swB := false, darkB := some s.now, lastB := some s.now, offInTest := false }
      else { o with swC := false, darkC := some s.now, lastC := some s.now, offInTest := false })
  else s

def execSoDarkTestStart (dt : Nat) (k : Fin 4) (bronze : Bool) (s : State) : Host.Outcome State Fault Refusal :=
  done ((s.advance dt).darkStart k bronze)

/-- `SO_DARK_TEST_END`: at the end of TPW the output must read below 5 V; where an off demand came meanwhile the result is
discarded and the switch stays off (R344). A Cobalt pulse that runs at a freeze completes, untested, and that switch takes its commanded state
(R346). -/
def State.darkEnd (s : State) (k : Fin 4) (bronze : Bool) (mv : Nat) : State :=
  let o := s.saf.out[k]
  let frozen := s.mode.mode == .freeze
  match if bronze then o.darkB else o.darkC with
  | some t =>
    if s.safLive && decide (t + s.soTpw k ≤ s.now) then
      let s := s.modOut k (fun o =>
        if bronze then { o with darkB := none, swB := o.cmdB && !o.offInTest, discarded := o.offInTest, offInTest := false }
        else { o with darkC := none, swC := o.cmdC && (frozen || !o.offInTest), discarded := o.offInTest, offInTest := false })
      if o.offInTest || decide (mv < 5000) || !s.chanLive bronze then s else s.soFault bronze k 1 mv
    else s
  | none => s

def execSoDarkTestEnd (dt : Nat) (k : Fin 4) (bronze : Bool) (millivolt : Nat) (s : State) : Host.Outcome State Fault Refusal :=
  done ((s.advance dt).darkEnd k bronze millivolt)

/-- `SO_OFF_VOLTAGE_FAULT`: a channel reads an output above 12 V for 1 ms while it is commanded off (R320, R344). -/
def State.soOffVoltage (s : State) (k : Fin 4) (mv : Nat) (bronze : Bool) : State :=
  let o := s.saf.out[k]
  if s.chanLive bronze && !o.cmd && decide (12000 < mv) && decide (o.offAt + 1000000 ≤ s.now) then s.soFault bronze k 2 mv else s

def execSoOffVoltageFault (dt : Nat) (k : Fin 4) (millivolt : Nat) (s : State) (bronze : Bool := false) : Host.Outcome State Fault Refusal :=
  done ((s.advance dt).soOffVoltage k millivolt bronze)

/-- `EDM_TIMEOUT`: EDM has not followed within EDM_T, as a channel times it; in FREEZE Bronze does (R320, R345). -/
def State.edmTimeout (s : State) (k : Fin 4) (bronze : Bool) : State :=
  match if bronze then s.saf.out[k].edmB else s.saf.out[k].edmC with
  | some (lvl, t) =>
    if s.chanLive bronze && decide (t ≤ s.now) && s.saf.edm.getLsbD k != lvl then
      (s.modOut k (fun o => if bronze then { o with edmB := none } else { o with edmC := none })).edmFault bronze k 3
    else s
  | none => s

def execEdmTimeout (dt : Nat) (k : Fin 4) (s : State) (bronze : Bool := false) : Host.Outcome State Fault Refusal := done ((s.advance dt).edmTimeout k bronze)

/-- `SO_CURRENT_LIMIT_OFF`: an output held in current limit for more than 10 ms switches itself off; its EDM is watched anew
(R548). -/
def State.soLimited (s : State) (k : Fin 4) : State :=
  let wait := some (false, s.now + s.soEdm k)
  if s.safLive && s.saf.out[k].isOn then
    s.modOut k (fun o =>
      let o := { o with limited := true }
      if s.regs.SAF_SOk_CFG_EDM_EN k then { o with edmC := wait, edmB := wait } else o)
  else s

def execSoCurrentLimitOff (dt : Nat) (k : Fin 4) (s : State) : Host.Outcome State Fault Refusal :=
  done ((s.advance dt).soLimited k)

/-! ## SRST (R347 to R351) -/

/-- `SRST_PRESS`: a raw press edge. -/
def State.srstPress (s : State) : State :=
  if s.saf.srst.high then s
  else s.modSrst (fun x => { x with
    high := true, pressAt := s.now, bronze := false, stuckPress := false, lowOk := x.lowOk && decide (x.lowAt + 1000000000 ≤ s.now) })

def execSrstPress (dt : Nat) (s : State) : Host.Outcome State Fault Refusal := done ((s.advance dt).srstPress)

/-- `SRST_BRONZE_TIMER`: Bronze's 70 ms timer expires during a press (R348). -/
def State.srstBronze (s : State) : State :=
  if s.saf.srst.high && decide (s.saf.srst.pressAt + 70000000 ≤ s.now) then s.modSrst (fun x => { x with bronze := true }) else s

def execSrstBronzeTimer (dt : Nat) (s : State) : Host.Outcome State Fault Refusal := done ((s.advance dt).srstBronze)

/-- Does a latched cause meet its clearance condition (Table 1, R347)? -/
def State.causeClear (s : State) (cause : Nat) : Bool :=
  let i := cause % 256
  match cause / 256 with
  | 3 => let p : Fin 9 := Fin.ofNat 9 i; !s.saf.cobalt.fault[p] && !s.saf.bronze.fault[p]
  | 4 => let c : Fin 16 := Fin.ofNat 16 i; s.saf.cobalt.conn[c].valid && s.saf.bronze.conn[c].valid
  | 5 => !s.regs.SAF_SOk_CFG_EDM_EN i || s.saf.edm.getLsbD i
  | 6 => !s.saf.cobalt.v24sOut && !s.saf.bronze.v24sOut
  | 7 => false
  | _ => true

/-- May the latch be cleared (R347)? -/
def State.srstMay (s : State) : Bool :=
  (s.demands s.saf.cobalt).isEmpty && (s.demands s.saf.bronze).isEmpty && s.saf.latched.all (fun l => s.causeClear l.1)
    && s.saf.sto && !s.saf.srst.stuck

/-- How a press that lasted `d` ns is judged (R348, R349): the result of its record. -/
def State.srstJudge (s : State) (d : Nat) : Nat :=
  let x := s.saf.srst
  if x.stuckPress then 5
  else if d < 100000000 ∨ !x.bronze then 3
  else if 3000000000 < d then 4
  else if s.mode.mode ≠ .safe then 7
  else if x.stuck then (if x.lowOk then 6 else 5)
  else if s.srstMay then 1
  else 2

/-- The demands that come at this instant come first (R351): a level that has held for its filter time by now, a discrepancy time or a
watchdog that has run out. A timer of Bronze's may expire anywhere from t to 1.3·t; here it does (log 148). -/
def State.demandsFirst (s : State) : State :=
  let s := if s.running && s.tb % 50000 == 0 then s.cobaltFilters else s
  let s := (List.finRange 9).foldl (fun (s : State) (p : Fin 9) =>
    (((s.safeFiltered p false).safeFiltered p true).discrepancy p true).discrepancy p false) s
  let s := (List.finRange 16).foldl (fun (s : State) (c : Fin 16) => (s.connectionLost c true).connectionLost c false) s
  if s.running && s.tb % 100000 == 0 then s.safEval false else s

/-- `SRST_RELEASE`: a raw release edge (R347 to R350). -/
def State.srstRelease (s : State) : State :=
  let x := s.saf.srst
  if !x.high then s
  else if !s.running then s.modSrst (fun x => { x with high := false, lowAt := s.now, lowOk := false, stuckPress := false })
  else
    let d := s.now - x.pressAt
    let ms := d / 1000000
    let s := s.demandsFirst
    let res := s.srstJudge d
    let s := s.modSrst (fun x => { x with
      high := false, lowAt := s.now, lowOk := false, stuckPress := false, stuck := x.stuck && res != 6
      accepted := if res = 1 then some (s.tb, ms) else x.accepted })
    s.srstRec s.tb res (min ms 0xFFFFFFFF)

def execSrstRelease (dt : Nat) (s : State) : Host.Outcome State Fault Refusal := done ((s.advance dt).srstRelease)

/-- `SRST_STUCK`: SRST has been held for 30 s (R349). -/
def State.srstStuck (s : State) : State :=
  if s.running && s.saf.srst.high && decide (s.saf.srst.pressAt + 30000000000 ≤ s.now) then
    s.modSrst (fun x => { x with stuck := true, stuckPress := true })
  else s

def execSrstStuck (dt : Nat) (s : State) : Host.Outcome State Fault Refusal := done ((s.advance dt).srstStuck)

/-- `SRST_LOW_TIMER`: SRST has read low for 1 s (R349). -/
def State.srstLow (s : State) : State :=
  if !s.saf.srst.high && decide (s.saf.srst.lowAt + 1000000000 ≤ s.now) then s.modSrst (fun x => { x with lowOk := true }) else s

def execSrstLowTimer (dt : Nat) (s : State) : Host.Outcome State Fault Refusal := done ((s.advance dt).srstLow)

/-- At a boundary: an accepted press of the tick that ends clears the latch: Bronze lifts its block and Cobalt closes the VDRV
switch (R350). It answers the press duration, ms; the change into HOLD is the boundary's. -/
def State.srstTake (s : State) : Option Nat × State :=
  match s.saf.srst.accepted with
  | some (t, ms) =>
    if s.mode.mode = .safe ∧ t < s.tb then
      let faults := s.saf.latched.filter (fun l => l.1 / 256 == 5)
      let s := s.onSaf (fun x => { x with
        latched := [], first := 0, sto := false, told := false, srst := { x.srst with accepted := none }
        out := Vector.ofFn (fun k : Fin 4 => { x.out[k] with
          faultC := x.out[k].faultC && !faults.any (fun l => l.1 == 0x500 + k.val)
          faultB := x.out[k].faultB && !faults.any (fun l => l.1 == 0x500 + k.val), sbcC := false, sbcB := false })
        conn := x.conn.map (fun c => { c with lost := false }) })
      (some ms, s.onGd (fun g => { g with blocked := false, swClosed := true }))
    else (none, s)
  | none => (none, s)

/-- HOLD entry: both paths let go, the timers of both channels start, the pairs take the levels at the balls, producers start at
SEQ 1 and consumers accept any; a ball without an edge since the release has its last edge now; a demand present takes the device into SAFE at once (R110, R123, R339, R349, R355, R356). -/
def State.safStart (s : State) : State :=
  let v (old : SafView) : SafView := { filtA := s.saf.rawA, filtB := s.saf.rawB, v24sOut := old.v24sOut }
  let edge (e : Nat × Nat) : Nat × Nat := if e = (0, 0) then (s.now, s.tb) else e
  let s := s.onSaf (fun x => { x with
    edgeA := x.edgeA.map edge, edgeB := x.edgeB.map edge, cobalt := v x.cobalt, bronze := v x.bronze
    tpo0 := { phase := .lit, phaseB := .lit }, tpo1 := { phase := .lit, phaseB := .lit }
    latched := [], first := 0, sto := false, ss1 := [], told := false, silent := false, owed := []
    out := Vector.replicate 4 { offAt := s.now }, conn := Vector.replicate 16 {}
    mirrorAt := s.now, cmpAt := s.now, romAt := s.now, ptDue := false, cmpCount := 0, cmpBad := 0
    cmpSince := Vector.replicate 9 none, cmpSlot := Vector.replicate 8 none, cmpConn := Vector.replicate 16 none
    srst := { x.srst with accepted := none, stuck := x.srst.high, stuckPress := x.srst.high, pressAt := s.now, lowAt := s.now
                          lowOk := false } })
  let s := (List.finRange 9).foldl (fun (s : State) (p : Fin 9) => (s.pairWatch true p).pairWatch false p) s
  let s := s.onGd (fun g => { g with blocked := false, swClosed := true })
  let s := if s.saf.pathFail then s.chanFault 6 true true false else s
  ((s.safEval false).safEval true).soEval.mirror

end Sys2Proof.Machine
end

