-- ==== Sys2Proof/Machine/Loop.lean ====
section
/-! DEFINITION. What a main-axis engine computes in one update: reconstruction and cross-check (R180 to R189),
observer and PLL (R219), angle source and I-f (R217 to R221), current references (R215, R216), current loop
(R207 to R209), dead-time compensation, modulation and window planning (R211 to R214, R180), and the criteria
of a loss of synchronism (R232). -/
namespace Sys2Proof.Machine

/-! ## Transforms (R10, R204) -/

/-- Amplitude-invariant Clarke transform. -/
def clarke (i : Vector Rat 3) : Rat × Rat := ((2 * i[0] - i[1] - i[2]) / 3, (i[1] - i[2]) / sqrtR 3)

/-- Inverse Clarke transform. -/
def unclarke (a b : Rat) : Vector Rat 3 :=
  #v[a, -a / 2 + sqrtR 3 / 2 * b, -a / 2 - sqrtR 3 / 2 * b]

/-- Park transform into a frame at `th` turns. -/
def park (th a b : Rat) : Rat × Rat :=
  let c := cosA (angleOf th)
  let q := sinA (angleOf th)
  (a * c + b * q, b * c - a * q)

/-- Inverse Park transform. -/
def unpark (th d q : Rat) : Rat × Rat :=
  let c := cosA (angleOf th)
  let k := sinA (angleOf th)
  (d * c - q * k, d * k + q * c)

/-- The sine of an angle in radians. -/
def sinRad (a : Rat) : Rat := sinA (angleOf (a / (2 * Config.pi)))

/-- An angle difference in turns, brought between −1/2 and 1/2. -/
def wrapTurns (t : Rat) : Rat := turnsOf (angleOf t)

/-- Electrical speed in rad/s of a mechanical speed in rpm (R204). -/
def State.elec (s : State) (n : Fin 6) (rpm : Rat) : Rat :=
  (s.regs.AXn_FOC_CFG_POLES n : Rat) * 2 * Config.pi * rpm / 60

/-! ## Limits -/

/-- The current limit in force (R187, R216, R257). -/
def State.iLimit (s : State) (n : Fin 6) : Rat :=
  let i := s.regs.AXn_I_MAX n
  let i := if s.sns.ax[n].limp then i * (s.regs.SNS_AXn_XCHK_CFG_LIMP_PCT n : Rat) / 100 else i
  if s.cmd.ax[n].fold then min i (s.regs.AXn_TH_FOLD n * s.regs.AXn_TH_ICONT n) else i

/-- A chopper leg on the link of the axis is latched faulty: the first one (R267). -/
def State.chopFault (s : State) (n : Fin 6) : Option (Fin 4) :=
  (List.finRange 4).find? (fun c => s.regs.GD_CHPn_MAP_EN c && s.regs.GD_CHPn_MAP_AIN c == s.regs.SNS_AXn_VIN_VDC n
    && s.gd.chop[c].fault)

/-- Bottom and top of the regeneration band in force (R267). -/
def State.regBand (s : State) (n : Fin 6) : Rat × Rat :=
  match s.chopFault n with
  | some c => (s.regs.GD_CHPn_OFF c, s.regs.AXn_VDC_REG n)
  | none => (s.regs.AXn_VDC_REG n, s.regs.AXn_VDC_REG_END n)

/-- k_reg (R268). -/
def State.kReg (s : State) (n : Fin 6) : Rat :=
  let b := s.regBand n
  clampR 0 1 ((b.2 - s.vdc n) / (b.2 - b.1))

/-- k_mot (R268). -/
def State.kMot (s : State) (n : Fin 6) : Rat :=
  let e := s.regs.AXn_VDC_MOT_END n
  clampR 0 1 ((s.vdc n - e) / (s.regs.AXn_VDC_MOT_LO n - e))

/-- The voltage limit of the axis (R209). -/
def State.vLimit (s : State) (n : Fin 6) : Rat :=
  (if s.regs.AXn_MOD_CFG_OVM n then s.regs.AXn_MOD_MMAX n else 9069 / 10000) * 2 * s.vdc n / Config.pi

/-! ## The two measurements (R171, R177, R182, R185) -/

/-- The current of a phase-current channel from a normalised filter output (R171). -/
def State.sdiAmps (s : State) (c : Fin 32) (y : Rat) : Rat := s.regs.SNS_SDIc_SCALE c * y - s.sns.sdi[c].zero

/-- The current a usable hold measured in a phase, moved to the weighted centre `tc` (R182). -/
def measured (n : Nat) (samples : List DcsSample) (tc : Nat) (p : Fin 3) : Option Rat :=
  match (samples.filter (fun m => m.phase == p)).getLast? with
  | none => none
  | some m =>
    let i := if m.plus then m.amps else -m.amps
    some (if m.heldAt = tc then i else Config.projectFree n m.heldAt p.val i (secOf tc - secOf m.heldAt))

/-- Reconstructed phase currents from those measured: two give the third, one is joined by a prediction, none
leaves three predictions (R182). The prediction's value is free (log 3). -/
def reconstruct (ix : Nat) (m : Vector (Option Rat) 3) : Vector Rat 3 :=
  match m[0], m[1], m[2] with
  | some a, some b, none => #v[a, b, -(a + b)]
  | some a, none, some c => #v[a, -(a + c), c]
  | none, some b, some c => #v[-(b + c), b, c]
  | some a, some b, some c => #v[a, b, c]
  | some a, none, none => #v[a, Config.freeReal ix, -(a + Config.freeReal ix)]
  | none, some b, none => #v[-(b + Config.freeReal ix), b, Config.freeReal ix]
  | none, none, some c => #v[Config.freeReal ix, -(c + Config.freeReal ix), c]
  | none, none, none => #v[Config.freeReal ix, Config.freeReal (ix + 1), Config.freeReal (ix + 2)]

/-- How many phases a usable hold measured. -/
def measuredCount (m : Vector (Option Rat) 3) : Nat :=
  b2n m[0].isSome + b2n m[1].isSome + b2n m[2].isSome

/-- The difference of a phase from what a usable hold measured in it, where one did. -/
def phaseDiff (i : Vector Rat 3) (m : Vector (Option Rat) 3) (p : Fin 3) : Option Rat :=
  m[p].map (fun r => absR (i[p] - r))

/-- Do all compared phases of a set agree within `xc`? -/
def agreeOn (i : Vector Rat 3) (m : Vector (Option Rat) 3) (xc : Rat) (ps : List (Fin 3)) : Bool :=
  ps.all (fun p => match phaseDiff i m p with | some d => decide (d ≤ xc) | none => true)

/-- The verdict of an update (R185): `m` holds the compared phases, all `none` where reconstruction is not
compared. -/
def verdictOf (i : Vector Rat 3) (m : Vector (Option Rat) 3) (xc : Rat) : Verdict :=
  let bad := (List.finRange 3).filter (fun p => match phaseDiff i m p with | some d => decide (xc < d) | none => false)
  if xc < absR (i[0] + i[1] + i[2]) then
    (match bad with | [p] => .sdi p | _ => .ambig)
  else if bad.isEmpty then .agree else .dcs

/-- The normalised value of a span of one level throughout. -/
def levelValue (level : Bool) : Rat := if level then 1 else -1

/-- The span of a channel's value `y` holds a part of its last run of 64 identical bits, so that it is not used (R175). The run goes on
while the spans after it show its level throughout; whether it reaches into the first one that shows another, no command tells: that is free
(log 146). -/
def State.spoilt (s : State) (n : Fin 6) (u : Upd) (p : Fin 3) (y : Rat) : Bool :=
  match s.sdiOf n p with
  | some c =>
    let d := s.sns.sdi[c]
    d.stuck && decide (d.stuckAt ≤ u.sample + s.filterNs n + 63 * s.regs.mclkNs c)
      && (decide (u.sample ≤ d.stuckAt)
        || ((match d.runEnd with | some t => decide (u.sample ≤ t) | none => true)
          && (decide (y = levelValue d.stuckLevel) || Config.freeBool (s.freeIx + p.val))))
  | none => false

/-- The sensing state an update leaves and the currents it controls on (R182 to R190), from the samples held in the half-period that
ends at its sample instant (R178). `switching`: the bridge switches, so the two measurements are compared; else the sum test alone runs (R184, R185; DEDUCED, log 127).
`encOk`: encoder and observer agree, where they are compared; `y`: the normalised filter outputs, of which `i` are the currents. -/
def State.senseUpdate (s : State) (n : Fin 6) (u : Upd) (y i : Vector Rat 3) (switching : Bool) (encOk : Option Bool) :
    SnsAx × Vector Rat 3 :=
  let q := s.sns.ax[n]
  let tc := u.sample + s.filterNs n / 2
  let all := List.finRange 3
  let mine (t : Nat) : Bool := decide (t ≤ u.sample) && decide ((u.sample : Rat) - u.half * 1000000000 < t)
  let held := q.samples.filter (fun m => mine m.heldAt)
  let rejected := switching && q.rejectAt.any mine
  let m : Vector (Option Rat) 3 := Vector.ofFn (fun p => measured n.val held tc p)
  let rec' := reconstruct s.freeIx m
  let faulty := all.filter (fun p => q.fSdi.getLsbD p.val || q.fbSdi.getLsbD p.val)
  let healthy := all.filter (fun p => !(q.fSdi.getLsbD p.val || q.fbSdi.getLsbD p.val || s.spoilt n u p y[p]))
  let iv : Vector Rat 3 :=
    match all.filter (fun p => !healthy.contains p) with
    | [] => i
    | [p] => Vector.ofFn (fun k => if k = p then -((i[0] + i[1] + i[2]) - i[p]) else i[k])
    | _ => rec'
  let ab := clarke iv
  let xc := max (s.regs.SNS_AXn_XCHK_I n) (s.regs.SNS_AXn_XCHK_REL n * hyp ab.1 ab.2)
  let cnt := measuredCount m
  let predRun := if !switching then q.predRun else if cnt = 2 ∨ cnt = 3 then 0 else satInc 7 q.predRun
  let compare := switching && decide (predRun ≤ s.regs.SNS_AXn_PRED_MAX n)
  let mc : Vector (Option Rat) 3 := if compare then m else Vector.replicate 3 none
  let dis := all.foldl (fun d p => match phaseDiff i m p with | some x => max d x | none => d) 0
  let dis := max dis (absR (i[0] + i[1] + i[2]))
  let q0 := { q with at' := u.sample, samples := [], rejectAt := [], recon := rec', maxDis := dis }
  let recheck (k : Fin 3) (a c : Vector Nat 3) (known ok : Bool) : Vector Nat 3 × Vector Nat 3 :=
    if !known then (a, c) else if ok then (vset a k (· + 1), c) else (vset a k (fun _ => 0), vset c k (fun _ => u.sample))
  let ac := recheck 0 q.agree q.clean (compare && faulty.any (fun p => m[p].isSome)) (agreeOn i m xc faulty)
  let ac := recheck 1 ac.1 ac.2 (rejected || (compare && cnt != 0)) (!rejected && agreeOn i m xc healthy)
  let ac := recheck 2 ac.1 ac.2 encOk.isSome (encOk.getD true)
  let q0 := { q0 with agree := ac.1, clean := ac.2 }
  if !switching && q.fbSdi != 0 then ({ q0 with use := 0 }, i)
  else if q.fbSdi != 0 then
    let bad := rejected || !agreeOn i mc xc healthy
    ({ q0 with
      predRun := predRun, predNoted := q.predNoted && predRun != 0
      predCnt := satInc 16 q.predCnt (3 - min 3 (cnt + 1)), use := 3, verdict := .agree, vcnt := 0
      fbCnt := if bad then q.fbCnt + 1 else 0, sumCnt := 0 }, rec')
  else if q.fbDcs then
    let bad := xc < absR (i[0] + i[1] + i[2])
    ({ q0 with use := 2, verdict := if rejected then .dcs else .agree, vcnt := 0, fbCnt := 0, sumCnt := if bad then q.sumCnt + 1 else 0 }, i)
  else
    let v := if rejected ∧ verdictOf i mc xc = .agree then .dcs else verdictOf i mc xc
    let amb := compare && v == .ambig
    let cur := match v with
      | .sdi _ => rec'
      | .ambig => if compare then reconstruct s.freeIx (Vector.replicate 3 none) else i
      | _ => i
    ({ q0 with
      predRun := if amb then satInc 7 q.predRun else predRun
      predNoted := q.predNoted && predRun != 0
      predCnt := if switching then satInc 16 q.predCnt (3 - min 3 (cnt + 1)) else q.predCnt, use := match v with | .sdi _ => 3 | _ => 1
      verdict := v, vcnt := if v = .agree then 0 else if v = q.verdict then satInc 4 q.vcnt else 1
      fbCnt := 0, sumCnt := 0 }, cur)

/-! ## Torque to current (R215, R216, R268) -/

/-- The MTPA currents at a torque (R215). -/
def Regs.mtpa (r : Regs) (n : Nat) (t : Rat) : Rat × Rat :=
  let x := min (absR t / r.AXn_MTPA_TMAX n) 1 * 32
  let k := min x.floor.toNat 31
  let f := x - (k : Rat)
  let id (j : Nat) := r.AXn_MTPA_ID_k n j
  let iq (j : Nat) := r.AXn_MTPA_IQ_k n j
  (id k + f * (id (k + 1) - id k), iq k + f * (iq (k + 1) - iq k))

/-- The field-weakening integrator after an update (R216). -/
def State.idFwNext (s : State) (n : Fin 6) : Rat :=
  let r := s.regs
  clampR (-(r.AXn_FW_IDMAX n)) 0
    (s.ax[n].eng.idFw + r.AXn_FW_KI n * s.tuS n * (r.AXn_FW_KV n * s.vLimit n - s.ax[n].eng.vPrev))

/-- Current references from T*, id_sup and the field-weakening integrator: id_ref and iq_ref (R216). -/
def State.currentRefs (s : State) (n : Fin 6) (t idSup idFw iLim : Rat) : Rat × Rat :=
  let r := s.regs
  let m := r.mtpa n t
  let id := max (min m.1 (min idFw idSup)) (max (-(r.AXn_FW_IDMAX n)) (-iLim))
  let p : Rat := (r.AXn_FOC_CFG_POLES n : Rat)
  let iq := if id = m.1 then m.2
    else absR t / (3 / 2 * p * (r.AXn_MOT_PSI n + (r.AXn_MOT_LD n - r.AXn_MOT_LQ n) * id))
  (id, signR t * min iq (sqrtR (iLim * iLim - id * id)))

/-- A current reference against the limits of the DC link (R268). -/
def State.dcLimited (s : State) (n : Fin 6) (speed iq iLim : Rat) : Rat :=
  let k := (if 0 ≤ iq * speed then s.kMot n else s.kReg n) * iLim
  clampR (-k) k iq

/-! ## Modulation (R205, R211 to R214, R180) -/

/-- Dead-time compensation of a phase whose reference current is `i` (R211). -/
def State.dtc (s : State) (n : Fin 6) (i : Rat) : Rat :=
  let r := s.regs
  if !r.AXn_MOD_CFG_DTC_EN n then 0
  else
    let teff := (r.GD_AXn_DT_RISE n + r.GD_AXn_DT_FALL n) / 2 + r.AXn_DTC_TD n
    let band := r.AXn_DTC_BAND n
    let sg := if band = 0 then signR i else clampR (-1) 1 (i / band)
    sg * (teff * s.freqOf (axis10 n) * s.vdc n + r.AXn_DTC_VON n)

/-- The spread of three phase voltages: the vector lies within the hexagon of a link voltage of at least this. -/
def spreadOf (v : Vector Rat 3) : Rat := max v[0] (max v[1] v[2]) - min v[0] (min v[1] v[2])

/-- Min–max injection (R212): the duties of the phase references `v` on a link of `vdc`. -/
def minMax (v : Vector Rat 3) (vdc : Rat) : Vector Rat 3 :=
  let mid := (max v[0] (max v[1] v[2]) + min v[0] (min v[1] v[2])) / 2
  Vector.ofFn (fun k => 1 / 2 + (v[k] - mid) / vdc)

/-- The distance of an angle, turns, from the nearest vertex of the hexagon, negative before it. -/
def vertexDist (turns : Rat) : Rat := (turns * 6 - (turns * 6 + 1 / 2).floor) / 6

/-- The vertex of the hexagon nearest to the vector of the phase references `v`. -/
def vertexDuty (v : Vector Rat 3) : Vector Rat 3 := v.map (fun x => if 0 < x then 1 else 0)

/-- A function given by its values at equal steps from `lo` on, linear between them and constant outside. -/
def stepwise (lo step : Rat) : List Rat → Rat → Rat
  | [], _ => 0
  | [a], _ => a
  | a :: b :: l, x => if x ≤ lo then a else if x ≤ lo + step then a + (b - a) * (x - lo) / step else stepwise (lo + step) step (b :: l) x

/-- The modulation index for which the laws of overmodulation are taken at `m`: within 0.2 % of it (log 64). -/
def ovmIndex (m : Rat) : Rat := m * (1 + clampR (-1 / 500) (1 / 500) Config.ovmTune)

/-- Region I: the magnitude, as a modulation index, whose circle cut by the hexagon has the fundamental `m` (R213): solved for 0.9069 to
0.9517 in eight steps from (6/π)(R(π/6 − θ) + 0.9069 ln tan(π/4 + θ/2)) = M with cos θ = 0.9069/R. -/
def ovmRadius (m : Rat) : Rat :=
  stepwise (9069 / 10000) (56 / 10000) [9069, 9135, 9214, 9305, 9412, 9540, 9699, 9919, 10472] m / 10000

/-- Region II: the hold angle on either side of a vertex, turns, with which the vector that then runs along the hexagon in proportion has the
fundamental `m` (R213): it grows from 0° at 0.9517 to 30° at 1, solved in eight steps. -/
def ovmHoldAngle (m : Rat) : Rat :=
  min (1 / 12) (stepwise (9517 / 10000) (483 / 80000) [0, 567, 1150, 1782, 2478, 3267, 4201, 5414, 8334] m / 100000)

/-- Duties of the three legs (R212, R213). In region I the vector keeps its angle: raised, and on the hexagon where it would leave it; in
region II it stands at the nearest vertex over a hold angle that grows from 0 to 30°, and on the hexagon between two holds; at M 1 it is
always at a vertex. The fundamental stays within 0.5 % of the demand, at its angle: the law about a vertex is symmetric (log 64). -/
def State.duties (s : State) (n : Fin 6) (v : Vector Rat 3) (m turns : Rat) : Vector Rat 3 :=
  let vdc := s.vdc n
  if !(s.regs.AXn_MOD_CFG_OVM n && decide (9069 / 10000 < m)) then minMax v vdc
  else if m < 9517 / 10000 then
    let w := v.map (· * max 1 (ovmRadius (ovmIndex m) / m))
    if spreadOf w ≤ vdc then minMax w vdc else minMax w (spreadOf w)
  else if 1 ≤ m then vertexDuty v
  else
    let d := vertexDist turns
    let h := ovmHoldAngle (ovmIndex m)
    if absR d ≤ h then vertexDuty v
    else
      let e := clampR 0 (1 / 12) ((absR d - h) / (1 / 12 - h) / 12 + clampR (-1 / 1800) (1 / 1800) (Config.ovmAngle m (absR d)))
      let ab := unpark (turns - d + (if d < 0 then -e else e)) 1 0
      let w := unclarke ab.1 ab.2
      minMax w (spreadOf w)

/-- The device with the carrier of an axis as it is from `t` on: at the valley at which a new frequency takes effect, the new one (R205). -/
def State.carrierAt (s : State) (n : Fin 6) (t : Nat) : State :=
  match s.snt[axis10 n].freqNext with
  | some f =>
    let x := s.ax[n]
    let k := extremeBefore x.valley (s.freqOf (axis10 n)) (t + 1)
    if k % 2 = 0 ∧ extremeAt x.valley (s.freqOf (axis10 n)) k = t then
      (s.modSnt (axis10 n) (fun q => { q with freq := f })).modAx n (fun x => { x with valley := t })
    else s
  | none => s

/-- A duty after the cap of refresh insertion and the removal of short pulses (R214). -/
def State.shapeDuty (s : State) (n : Fin 6) (d : Rat) : Rat :=
  let f := s.freqOf (axis10 n)
  let d := if s.gd.ax[axis10 n].refresh then min d (dMax f) else d
  let least := 2 * max (s.regs.GD_AXn_DT_RISE n) (s.regs.GD_AXn_DT_FALL n) * f
  if d < least ∨ 1 - d < least then (if d < 1 / 2 then 0 else 1) else d

/-- The plan of a half-period: edges of the three legs, what the shifts leave to correct, the windows with their
offset from the start of the half, the shifted and the skipped samples. -/
structure HalfPlan where
  edges : Vector Rat 3
  carry : Vector Rat 3
  windows : List Window
  shifted : Nat
  skipped : Nat

/-- The amplitude of the voltage that command edges give in a half-period. -/
def State.edgeVolts (s : State) (n : Fin 6) (rising : Bool) (half : Rat) (e : Vector Rat 3) : Rat :=
  let v := clarke (e.map (fun x => (if rising then half - x else x) / half * s.vdc n))
  hyp v.1 v.2

/-- Plan a half-period (R178, R180). `rising`: its edges turn high sides on; `t`: command edges of the legs;
`half`: its length, s; `budget`: the shift budget, 0 where reconstruction and its shifts have stopped
(R188). A leg that needs no shift is within its limits; the voltage limit is that of the voltage which the edges give in the half
(DEDUCED, log 124). -/
def State.planHalf (s : State) (n : Fin 6) (rising : Bool) (t : Vector Rat 3) (half : Rat) (budget : Rat) : HalfPlan :=
  let dt := if rising then s.regs.GD_AXn_DT_RISE n else s.regs.GD_AXn_DT_FALL n
  let tset := s.regs.SNS_DCSn_TSET n
  let need := dt + tset + 50 / 1000000000
  let legs : Fin 3 × Fin 3 × Fin 3 :=
    if t[0] ≤ t[1] then
      (if t[1] ≤ t[2] then (0, 1, 2) else if t[0] ≤ t[2] then (0, 2, 1) else (2, 0, 1))
    else
      (if t[0] ≤ t[2] then (1, 0, 2) else if t[1] ≤ t[2] then (1, 2, 0) else (2, 1, 0))
  let a := legs.1
  let b := legs.2.1
  let c := legs.2.2
  let f := s.freqOf (axis10 n)
  let within (e : Vector Rat 3) (k : Fin 3) : Bool :=
    let x := e[k]
    let on := if rising then 2 * (half - x) else 2 * x
    decide (0 ≤ x) && decide (x ≤ half) && decide (2 * dt ≤ on) && decide (2 * dt ≤ 2 * half - on)
      && (!s.gd.ax[axis10 n].refresh || decide (on * f ≤ dMax f)) && decide (s.edgeVolts n rising half e ≤ s.vLimit n)
  let s1 := max 0 (need - (t[b] - t[a]))
  let s2 := max 0 (need - (t[c] - t[b]))
  let e1 := vset t a (fun x => x - s1)
  let ok1 := decide (s1 ≤ budget) && (decide (s1 = 0) || within e1 a)
  let e := if ok1 then e1 else t
  let e2 := vset e c (fun x => x + s2)
  let ok2 := decide (s2 ≤ budget) && (decide (s2 = 0) || within e2 c)
  let e := if ok2 then e2 else e
  let k := if ok1 then vset (Vector.replicate 3 (0 : Rat)) a (fun x => x + s1) else Vector.replicate 3 0
  let k := if ok2 then vset k c (fun x => x - s2) else k
  let w1 : Window := if ok1 then some (t[a] - s1 + dt + tset, a, rising) else none
  let w2 : Window := if ok2 then some (t[b] + dt + tset, c, !rising) else none
  { edges := e, carry := k, windows := [w1, w2]
    shifted := b2n (ok1 && decide (0 < s1)) + b2n (ok2 && decide (0 < s2)), skipped := b2n (!ok1) + b2n (!ok2) }

/-- A half-period as its edge placement unit places it, `o` after the start of the set (R13, R71): its edges from the start of the
half, its hold instants from the start of the set. -/
def State.placeHalf (s : State) (n : Fin 6) (o : Rat) (h : HalfPlan) : HalfPlan :=
  { h with
    edges := h.edges.map (fun t => s.onGrid n (o + t) - o), windows := h.windows.map (·.map (fun w => (s.onGrid n (o + w.1), w.2))) }

/-- The edge set that starts at `edge`: with two updates per period the half that starts there, else a whole period (R180, R181, R206).
Answers the set, the carry and the counts. -/
def State.planSet (s : State) (n : Fin 6) (edge : Nat) (duty : Vector Rat 3) (vA vB : Rat) :
    EdgeSet × Vector Rat 3 × Nat × Nat :=
  let f := s.freqOf (axis10 n)
  let half := 1 / f / 2
  let old := s.ax[n].eng.carry
  let up := Vector.ofFn (fun k : Fin 3 => (1 - duty[k]) * half - old[k])
  let down := Vector.ofFn (fun k : Fin 3 => duty[k] * half - old[k])
  let budget := if s.sns.ax[n].fbDcs then 0
    else s.regs.SNS_AXn_SHIFT_MAX n * (if s.sns.ax[n].fbSdi != 0 then 2 else 1)
  let rising := risingAt s.ax[n].valley f edge
  let blank : EdgeSet := { bridge := .modulate, rise := s.regs.GD_AXn_DT_RISE n, fall := s.regs.GD_AXn_DT_FALL n }
  if s.regs.AXn_FOC_CFG_UPD n then
    let h := s.placeHalf n 0 (s.planHalf n rising (if rising then up else down) half budget)
    ({ blank with duty := duty, rising := rising, edges := [h.edges], windows := h.windows, vA := vA, vB := vB, freq := f, carry := old },
      h.carry, h.shifted, h.skipped)
  else
    let h := s.placeHalf n 0 (s.planHalf n true up half budget)
    let down := Vector.ofFn (fun k : Fin 3 => duty[k] * half - h.carry[k])
    let g := s.placeHalf n half (s.planHalf n false down half budget)
    ({ blank with duty := duty, edges := [h.edges, g.edges], windows := h.windows ++ g.windows, vA := vA, vB := vB, freq := f, carry := old },
      g.carry, h.shifted + g.shifted, h.skipped + g.skipped)

/-- The set of a voltage without windows, for the carrier period that runs: the two halves of the duties (R205, R212). -/
def State.voltSet (s : State) (n : Fin 6) (th vD vQ : Rat) : EdgeSet :=
  let f := s.freqOf (axis10 n)
  let half := 1 / f / 2
  let ab := unpark th vD vQ
  let duty := (s.duties n (unclarke ab.1 ab.2) (hyp vD vQ / (2 * s.vdc n / Config.pi)) (th + atan2R vQ vD)).map (s.shapeDuty n)
  { bridge := .modulate, duty := duty
    edges := [duty.map (fun d => s.onGrid n ((1 - d) * half)), duty.map (fun d => s.onGrid n (d * half))]
    vA := ab.1, vB := ab.2, freq := f, rise := s.regs.GD_AXn_DT_RISE n, fall := s.regs.GD_AXn_DT_FALL n }

/-! ## One update (R51, R204 to R221, R232) -/

/-- What the observer and the PLL make of the currents of an update (R219): the engine state with their new
values, and the angle of the observer in turns. -/
def State.observe (s : State) (n : Fin 6) (iA iB vA vB : Rat) : Eng × Rat × Rat :=
  let r := s.regs
  let e := s.ax[n].eng
  let tu := s.tuS n
  let k := min (r.AXn_OBS_BW n * tu) 1
  let rawA := vA - r.AXn_MOT_RS n * iA - r.AXn_MOT_LQ n * (iA - e.iA) / tu
  let rawB := vB - r.AXn_MOT_RS n * iB - r.AXn_MOT_LQ n * (iB - e.iB) / tu
  let eA := e.eA + k * (rawA - e.eA)
  let eB := e.eB + k * (rawB - e.eB)
  let mag := hyp eA eB
  let sg : Rat := if e.w < 0 then -1 else 1
  let eps := if mag = 0 then Config.freeReal (s.freeIx + 3)
    else -sg * (eA * cosA (angleOf e.th) + eB * sinA (angleOf e.th)) / mag
  let wn := 2 * Config.pi * r.AXn_PLL_BW n
  let wI := e.wI + wn * wn * tu * eps
  let w := wI + 2 * wn * eps
  let th := e.th + w * tu / (2 * Config.pi)
  let nHat := w * 60 / (2 * Config.pi * (r.AXn_FOC_CFG_POLES n : Rat))
  let ok := if 3 / 2 * r.AXn_OBS_NMIN n ≤ absR nHat then true else if absR nHat < r.AXn_OBS_NMIN n then false else e.obsOk
  ({ e with eA := eA, eB := eB, wI := wI, w := w, th := th, eps := eps, iA := iA, iB := iB, obsOk := ok },
    th + atan2R w (r.AXn_OBS_BW n), nHat)

/-- The frame of I-f after one more update: its speed, rpm, and angle, turns (R220, R221). -/
def State.ifStep (s : State) (n : Fin 6) (e : Eng) : Rat × Rat :=
  let r := s.regs
  let tu := s.tuS n
  let d := r.AXn_IF_ACC n * tu
  let v := e.ifSpeed + clampR (-d) d (s.ax[n].refN - e.ifSpeed)
  match e.ifPhase with
  | .align => (0, 0)
  | _ => (v, e.ifAngle + v * (r.AXn_FOC_CFG_POLES n : Rat) / 60 * tu)

/-- The I-f currents on the d-axis and q-axis of the frame, with the sign of the reference or of the frame (R220; DEDUCED,
log 155). -/
def State.ifCurrents (s : State) (n : Fin 6) (e : Eng) : Rat × Rat :=
  let i := s.regs.AXn_IF_I n
  match e.ifPhase with
  | .align => (i, 0)
  | _ => (0, if s.ax[n].refN < 0 ∨ (s.ax[n].refN = 0 ∧ e.ifSpeed < 0) then -i else i)

/-- The angle source of an update and what it gives: the source, the angle at `t_c` in turns, the electrical speed
in rad/s, the speed in rpm, and the engine with its I-f state moved on; a change of source is answered with it
(R217, R218, R220, R221). During an ASC and before the decision of a CATCH nothing is imposed, so the observer runs
without I-f. -/
def State.angleSource (s : State) (n : Fin 6) (u : Upd) (e : Eng) (thObs nHat : Rat) :
    AngSrc × Rat × Rat × Rat × Eng × Option (Nat × Word) :=
  let r := s.regs
  let p : Rat := (r.AXn_FOC_CFG_POLES n : Rat)
  let lag := secOf (s.filterNs n) / 2
  let ifOut (e : Eng) (h : Option (Nat × Word)) (th v : Rat) :=
    (AngSrc.ifr, th + s.elec n v / (2 * Config.pi) * lag, s.elec n v, v, e, h)
  let x := s.ax[n]
  if x.state = .asc ∨ (x.state = .catching ∧ !x.cat.decided) then
    if s.encUsable n then
      let th := turnsOf (w32 (r.AXn_FOC_CFG_POLES n) * u.pos + r.AXn_ENC_OFFS n)
      (.encoder, th + u.spd * p / 60 * lag, s.elec n u.spd, u.spd, { e with ifPhase := .none }, none)
    else (if x.state = .asc then .observer else .none, thObs, e.w, nHat, { e with ifPhase := .none }, none)
  else if s.encUsable n then
    let th := turnsOf (w32 (r.AXn_FOC_CFG_POLES n) * u.pos + r.AXn_ENC_OFFS n)
    (.encoder, th + u.spd * p / 60 * lag, s.elec n u.spd, u.spd, { e with ifPhase := .none }, none)
  else
    match e.ifPhase with
    | .blend =>
      let x := min 1 (secOf (u.sample - e.ifAt) / r.AXn_IF_BLEND n)
      (.ifr, thObs + e.ifDiff * (1 - x), e.w, nHat, e, none)
    | .none =>
      if e.obsOk then (.observer, thObs, e.w, nHat, e, none)
      else
        let e := { e with ifPhase := .ramp, ifSpeed := nHat, ifAngle := thObs, ifAt := u.sample }
        ifOut e (some (2, 0)) thObs nHat
    | .align => ifOut e none 0 0
    | .ramp =>
      let f := s.ifStep n e
      let e := { e with ifSpeed := f.1, ifAngle := f.2 }
      if 3 / 2 * r.AXn_OBS_NMIN n ≤ absR f.1 then
        let d := wrapTurns (f.2 - thObs)
        let e := { e with ifPhase := .blend, ifAt := u.sample, ifDiff := d }
        (.ifr, thObs + d, e.w, nHat, e, some (1, angleOf d))
      else ifOut e none f.2 f.1

/-- The criteria of a loss of synchronism after an update (R232). -/
def State.losUpdate (s : State) (n : Fin 6) (u : Upd) (e : Eng) (src : AngSrc) (nHat : Rat) : Eng :=
  let r := s.regs
  let tu := s.tuS n
  if src = .observer ∧ r.AXn_OBS_NMIN n ≤ absR nHat ∧ s.ax[n].state ≠ .asc then
    let c1 := sinRad (r.AXn_LOS_ERR n) < absR e.eps
    let c2 := r.AXn_LOS_FLUX n * r.AXn_MOT_PSI n < absR (e.psiEst - r.AXn_MOT_PSI n)
    let win := nsOf (r.AXn_LOS_T n)
    let dn := 5 / 4 * (r.AXn_MTPA_TMAX n + r.AXn_LOS_TEXT n) / r.AXn_INERTIA n * r.AXn_LOS_T n * 60 / (2 * Config.pi)
    let c3 := match e.speeds.find? (fun v => decide (v.1 + win ≤ u.sample)) with
      | some v => decide (dn < absR (nHat - v.2))
      | none => false
    let keep := e.speeds.takeWhile (fun v => decide (u.sample < v.1 + win + 2 * nsOf tu))
    { e with
      t1 := if c1 then e.t1 + tu else 0, t2 := if c2 then e.t2 + tu else 0, c3 := c3
      speeds := (u.sample, nHat) :: keep }
  else { e with t1 := 0, t2 := 0, c3 := false, speeds := [] }

/-- The state an axis has in an update: its bridge switches. -/
def State.switching (s : State) (n : Fin 6) : Bool :=
  let x := s.ax[n]
  match x.state with
  | .run | .stop => true
  | .catching => x.cat.decided || (!s.encUsable n && !s.regs.SNS_AXn_VIN_VT_EN n && x.cat.retryAt.isNone)
  | _ => false

/-- The currents an update steers to: zero in a zero-current CATCH, the I-f currents, those of R216, or between
both during a blend; within the limits of the DC link (R268). -/
def State.updateRefs (s : State) (n : Fin 6) (u : Upd) (e : Eng) (src : AngSrc) (speed idFw iLim : Rat) : Rat × Rat :=
  let x := s.ax[n]
  let t := s.currentRefs n x.refT x.refId idFw iLim
  let q :=
    if x.state = .catching ∧ !x.cat.decided then (0, 0)
    else if src = .ifr then
      let f := s.ifCurrents n e
      if e.ifPhase = .blend then
        let k := min 1 (secOf (u.sample - e.ifAt) / s.regs.AXn_IF_BLEND n)
        (f.1 + k * (t.1 - f.1), f.2 + k * (t.2 - f.2))
      else f
    else t
  (q.1, s.dcLimited n speed q.2 iLim)

/-- One update of a main-axis engine: the result to post (R51, R204 to R221, R232). `y`: normalised filter
outputs of phases U, V, W. Its set is planned for the carrier in force at its edge-update instant (R205). -/
def State.engineUpdate (s : State) (n : Fin 6) (u : Upd) (y : Vector Rat 3) : EngResult :=
  let r := s.regs
  let x := s.ax[n]
  let tu := s.tuS n
  let sw := s.switching n
  let asc := x.state == .asc
  let i : Vector Rat 3 := Vector.ofFn (fun p => match s.sdiOf n p with | some c => s.sdiAmps c y[p] | none => 0)
  let encTh := turnsOf (w32 (r.AXn_FOC_CFG_POLES n) * u.pos + r.AXn_ENC_OFFS n)
    + u.spd * (r.AXn_FOC_CFG_POLES n : Rat) / 60 * (secOf (s.filterNs n) / 2)
  let pre := s.senseUpdate n u y i sw none
  let ab := clarke pre.2
  let ob := s.observe n ab.1 ab.2 (if asc || !sw then 0 else x.lastVA) (if asc || !sw then 0 else x.lastVB)
  let thObs := ob.2.1
  let nHat := ob.2.2
  let encOk := if r.SNS_AXn_ENC_EN n then some (decide (absR (wrapTurns (encTh - thObs)) ≤ 1 / 12)) else none
  let sns := (s.senseUpdate n u y i sw encOk).1
  let diff := if encOk = some false ∧ r.AXn_OBS_NMIN n < absR nHat then some (sns.encDiff.getD u.sample) else none
  let sns := { sns with encDiff := diff }
  let src := s.angleSource n u ob.1 thObs nHat
  let th := src.2.1
  let we := src.2.2.1
  let e := src.2.2.2.2.1
  let dq := park th ab.1 ab.2
  let psi := if e.w = 0 then Config.freeReal (s.freeIx + 4)
    else hyp e.eA e.eB / absR e.w - (r.AXn_MOT_LD n - r.AXn_MOT_LQ n) * dq.1
  let e := { e with
    iD := dq.1, iQ := dq.2, psiEst := psi, angSrc := src.1, speed := src.2.2.2.1
    angle := angleOf (th - we / (2 * Config.pi) * secOf (s.filterNs n) / 2) }
  let e := s.losUpdate n u e src.1 nHat
  let half := sinRad (r.AXn_LOS_ERR n) / 2
  let lock := absR e.eps ≤ half ∧ absR (psi - r.AXn_MOT_PSI n) ≤ r.AXn_LOS_FLUX n * r.AXn_MOT_PSI n
  let e := { e with
    settled := if absR e.eps < half then some (e.settled.getD u.sample) else none
    locked := if asc ∧ lock then some (e.locked.getD u.sample) else none }
  let torque := 3 / 2 * (r.AXn_FOC_CFG_POLES n : Rat)
    * (r.AXn_MOT_PSI n * dq.2 + (r.AXn_MOT_LD n - r.AXn_MOT_LQ n) * dq.1 * dq.2)
  let isq := dq.1 * dq.1 + dq.2 * dq.2
  if !sw then
    { sample := u.sample, eng := if asc && x.blind then x.eng else e, set := { bridge := x.bridge }, sns := sns
      isq := isq, torque := torque, handover := none, zcAsc := false }
  else
    let iLim := s.iLimit n
    let idFw := s.idFwNext n
    let ref := s.updateRefs n u e src.1 e.speed idFw iLim
    let vLim := s.vLimit n
    let thV := th + we / (2 * Config.pi) * (secOf (u.edge - u.sample) + tu / 2 - secOf (s.filterNs n) / 2)
    let irefAB := unpark thV ref.1 ref.2
    let car := s.carrierAt n u.edge
    let comp := clarke ((unclarke irefAB.1 irefAB.2).map (car.dtc n))
    let compDq := park thV comp.1 comp.2
    let eD := ref.1 - dq.1
    let eQ := ref.2 - dq.2
    let vD := r.AXn_CL_KP_D n * eD + x.eng.intD - we * r.AXn_MOT_LQ n * ref.2 + compDq.1
    let vQ := r.AXn_CL_KP_Q n * eQ + x.eng.intQ + we * (r.AXn_MOT_LD n * ref.1 + r.AXn_MOT_PSI n) + compDq.2
    let vDl := clampR (-vLim) vLim vD
    let lq := sqrtR (vLim * vLim - vDl * vDl)
    let vQl := clampR (-lq) lq vQ
    let intD := if vDl = vD ∨ signR eD ≠ signR vD then x.eng.intD + r.AXn_CL_KI_D n * tu * eD else x.eng.intD
    let intQ := if vQl = vQ ∨ signR eQ ≠ signR vQ then x.eng.intQ + r.AXn_CL_KI_Q n * tu * eQ else x.eng.intQ
    let mag := hyp vDl vQl
    let m := mag / (2 * s.vdc n / Config.pi)
    let vab := unpark thV vDl vQl
    let duty := (s.duties n (unclarke vab.1 vab.2) m (thV + atan2R vQl vDl)).map (car.shapeDuty n)
    let set := car.planSet n u.edge duty vab.1 vab.2
    let idm := (r.mtpa n x.refT).1
    let e := { e with
      intD := intD, intQ := intQ, idFw := idFw, vPrev := hyp vD vQ, idRef := ref.1, iqRef := ref.2, vD := vDl, vQ := vQl
      modM := m, fw := decide (idFw < idm), ovm := decide (9069 / 10000 < m), vlim := decide (vDl ≠ vD ∨ vQl ≠ vQ)
      carry := set.2.1 }
    let zc := x.state == .catching && !x.cat.decided && decide (vLim ≤ hyp vD vQ)
      && (List.finRange 3).any (fun p => decide (r.AXn_CATCH_IMAX n < absR pre.2[p]))
    { sample := u.sample, eng := e, set := set.1
      sns := { sns with
        shiftCnt := satInc 16 sns.shiftCnt set.2.2.1 }
      isq := isq, torque := torque, handover := src.2.2.2.2.2, zcAsc := zc }

end Sys2Proof.Machine
end

