-- ==== Sys2Proof/Machine/Sensing.lean ====
section
/-! DEFINITION. Current and position sensing (chapter 07): sigma-delta channels, zero offsets, DC-link return samples, declared
faults and their clearance, and the position interfaces. -/
namespace Sys2Proof.Machine

/-! ## Declared faults (R186 to R190) -/

/-- The axis and phase of an enabled phase-current channel. -/
def State.phaseOf (s : State) (c : Fin 32) : Option (Fin 6 × Fin 3) :=
  if s.regs.SNS_SDIc_CFG_EN c && s.regs.SNS_SDIc_CFG_ROLE c then
    some (Fin.ofNat 6 (s.regs.SNS_SDIc_CFG_AXIS c), Fin.ofNat 3 (s.regs.SNS_SDIc_CFG_PHASE c))
  else none

/-- An axis in ASC without a current measurement has an unknown peak from then on; where it loses its last speed estimate the ASC becomes
blind (R230). -/
def State.blindCheck (s : State) (n : Fin 6) : State :=
  let s := if s.ax[n].state = .asc ∧ s.noCurrent n then s.modAx n (fun x => { x with ascSt := { x.ascSt with peak := none } }) else s
  if s.ax[n].state = .asc ∧ !s.ax[n].blind ∧ s.blindNow n then
    s.modAx n (fun x => { x with
      blind := true, ipk := none
      ascSt := { x.ascSt with peak := none, blindEnd := some (x.ascSt.since + nsOf (s.regs.AXn_ASC_BLIND_T n)) } })
  else s

/-- The boundary that ends the tick now running brings the current-limit factor; the checks of R190 start afresh. -/
def SnsAx.faulted (q : SnsAx) (k : Fin 3) (t : Nat) : SnsAx :=
  { q with limpNext := true, agree := vset q.agree k (fun _ => 0), clean := vset q.clean k (fun _ => t), vcnt := 0 }

/-- A faulty sensor fails a check of R190 once more: its second of clean running, and the agreeing updates in it, begin anew. -/
def SnsAx.unclean (q : SnsAx) (k : Fin 3) (t : Nat) : SnsAx :=
  { q with agree := vset q.agree k (fun _ => 0), clean := vset q.clean k (fun _ => t) }

/-- The update to which a declaration made now belongs: the last one whose sample instant has come, while its edge-update instant lies
ahead (R187). -/
def State.updNow (s : State) (n : Fin 6) : Option Upd :=
  (s.snt[axis10 n].upds.filter (fun u => decide (u.sample ≤ s.tb) && decide (s.tb ≤ u.edge))).getLast?

/-- A declaration is noted with the update to which it belongs (R191). -/
def State.noteDecl (s : State) (n : Fin 6) (sdi : Bool) : State :=
  match s.updNow n with
  | some u => s.modSns n (fun q => { q with
      undo := { at' := u.sample, sdi := sdi, fbSdi := q.fbSdi, fbDcs := q.fbDcs, limp := q.limp, limpNext := q.limpNext } :: q.undo })
  | none => s

/-- An update misses: the declarations that belong to it are discarded with it, the last one first (R191). What declared them stands, so
that the next update in time declares them again. -/
def SnsAx.discard (q : SnsAx) (sample : Nat) : SnsAx :=
  let q' := (q.undo.filter (fun d => d.at' == sample)).foldl (fun (q : SnsAx) d =>
    let q := if d.sdi then { q with fSdi := 0, fbSdi := d.fbSdi } else { q with fDcs := false, fbDcs := d.fbDcs }
    { q with limp := q.limp && d.limp, limpNext := d.limpNext }) q
  { q' with undo := q.undo.filter (fun d => decide (sample < d.at')) }

/-- The device as an update of a main axis sees it: with the register words, references and limits of its sample instant (R30, R32,
R210, R257). -/
def State.asOf (s : State) (n : Fin 6) (u : Upd) : State :=
  (((s.onRegs (fun _ => u.regs)).modAx n (fun x => { x with refT := u.refT, refId := u.refId, refN := u.refN })).modCmd n
    (fun c => { c with fold := u.fold })).modSns n (fun q => { q with limp := u.limp })

/-- What the sensing state of an axis becomes when the result of an update is posted: what the update left of counts and
verdicts, and what has been held, rejected or declared since its sample instant. -/
def SnsAx.commit (cur new : SnsAx) : SnsAx :=
  { cur with
    at' := new.at', samples := cur.samples.filter (fun m => decide (new.at' < m.heldAt)), rejectAt := cur.rejectAt.filter (fun t => decide (new.at' < t))
    recon := new.recon, maxDis := new.maxDis, use := new.use, verdict := new.verdict, vcnt := new.vcnt
    undo := cur.undo.filter (fun d => decide (new.at' < d.at'))
    predRun := new.predRun, predNoted := cur.predNoted && new.predRun != 0, shiftCnt := new.shiftCnt, predCnt := new.predCnt
    fbCnt := new.fbCnt, sumCnt := new.sumCnt, encDiff := new.encDiff
    agree := Vector.ofFn (fun k : Fin 3 => if new.clean[k] < cur.clean[k] then cur.agree[k] else new.agree[k])
    clean := Vector.ofFn (fun k : Fin 3 => max cur.clean[k] new.clean[k]) }

/-- The update that an axis has begun, while its edge-update instant lies ahead. -/
def State.runOf (s : State) (n : Fin 6) : Option LoopRun :=
  match s.ax[n].run with
  | some w => if s.tb < w.upd.edge ∧ (s.snt[axis10 n].upds.any (fun u => u.sample == w.upd.sample)) then some w else none
  | none => none

/-- The update that an axis has begun runs again, with the faults declared since (R187): from the engine and the sensing state that it
began with, so that its result, or the set that it has posted, is replaced. -/
def State.runAgain (s : State) (n : Fin 6) : State :=
  match s.runOf n with
  | none => s
  | some w =>
    let q := s.sns.ax[n]
    let base : SnsAx := { w.sns with
      fSdi := q.fSdi, fbSdi := q.fbSdi, fDcs := q.fDcs, fbDcs := q.fbDcs, fEnc := q.fEnc, fbEnc := q.fbEnc, agree := q.agree, clean := q.clean }
    let r := (((s.modAx n (fun x => { x with eng := w.eng })).modSns n (fun _ => base)).asOf n w.upd).engineUpdate n w.upd w.y
    let s := s.onFreeIx (· + 5)
    if s.ax[n].result.isSome then s.modAx n (fun x => { x with result := some r })
    else if s.ax[n].posted.isSome then
      (s.modSns n (fun q => q.commit r.sns)).modAx n (fun x => { x with eng := r.eng, posted := some r.set })
    else s

/-- An SDI channel fault is declared (R187), in the update that is under way; further ones on the axis change nothing more. -/
def State.declareSdi (s : State) (n : Fin 6) (p : Fin 3) (cause at' : Nat) : State :=
  let q := s.sns.ax[n]
  if q.fSdi ≠ 0 then s
  else
    let b : BitVec 3 := BitVec.ofNat 3 (2 ^ p.val)
    ((((s.noteDecl n true).modSns n (fun q => { q.faulted 0 s.tb with fSdi := b, fbSdi := b, fbCnt := 0, sdiAt := at' })).event at' (Unit.ax n) 0x0704
      (p.val + cause * 256) (milli q.maxDis)).runAgain n).blindCheck n

/-- A DC-link return path fault is declared (R188). -/
def State.declareDcs (s : State) (n : Fin 6) (cause at' : Nat) : State :=
  let q := s.sns.ax[n]
  if q.fDcs then s
  else
    ((s.noteDecl n false).modSns n (fun q => { q.faulted 1 s.tb with fDcs := true, fbDcs := true, sumCnt := 0 })).event at' (Unit.ax n) 0x0705
      cause (milli q.maxDis)

/-- `SDI_FAULT`: a verdict that has stood N times, a stuck bitstream or a failed zero declares a channel faulty (R186, R187). -/
def State.sdiFault (s : State) (n : Fin 6) (p : Fin 3) (cause : Fin 4) : State :=
  let q := s.sns.ax[n]
  let ch := s.sdiOf n p
  if !s.running then s
  else match cause.val with
  | 1 => if q.verdict = .sdi p ∧ s.regs.SNS_AXn_XCHK_CFG_N n ≤ q.vcnt then s.declareSdi n p 1 q.at' else s
  | 2 => (match ch with | some c => if s.sns.sdi[c].stuck then s.declareSdi n p 2 s.sns.sdi[c].stuckAt else s | none => s)
  | 3 => (match ch with | some c => if s.sns.sdi[c].zeroFail then s.declareSdi n p 3 s.tb else s | none => s)
  | _ => s

def execSdiFault (dt : Nat) (n : Fin 6) (phase : Fin 3) (cause : Fin 4) (s : State) : Host.Outcome State Fault Refusal :=
  done ((s.advance dt).sdiFault n phase cause)

/-- `DCS_FAULT`: by verdict, by three rejected conversions in a row, or by a failed zero (R186, R188). -/
def State.dcsFault (s : State) (n : Fin 6) (cause : Fin 4) : State :=
  let q := s.sns.ax[n]
  if !s.running then s
  else match cause.val with
  | 1 => if q.verdict = .dcs ∧ s.regs.SNS_AXn_XCHK_CFG_N n ≤ q.vcnt then s.declareDcs n 1 q.at' else s
  | 2 => if 3 ≤ q.rejects then s.declareDcs n 2 (match s.updNow n with | some u => u.sample | none => q.at') else s
  | 3 => if q.dcsZeroFail then s.declareDcs n 3 s.tb else s
  | _ => s

def execDcsFault (dt : Nat) (n : Fin 6) (cause : Fin 4) (s : State) : Host.Outcome State Fault Refusal :=
  done ((s.advance dt).dcsFault n cause)

/-- Does a case of R189 hold? -/
def State.senseCase (s : State) (n : Fin 6) (k : Nat) : Bool :=
  let q := s.sns.ax[n]
  let m := s.regs.SNS_AXn_XCHK_CFG_N n
  match k with
  | 1 => q.verdict == .ambig && decide (m ≤ q.vcnt)
  | 2 => q.fbSdi != 0 && decide (m ≤ q.fbCnt)
  | 3 => q.fbSdi != 0 && decide (s.regs.SNS_AXn_PRED_MAX n < q.predRun)
  | 4 => q.fbDcs && (decide (m ≤ q.sumCnt) || q.fSdi != 0)
  | _ => false

/-- `SENSE_LOST`: no plausible current measurement (R189), once for an update; in DC-link return fallback the declaration of an SDI channel
halts an axis in any state. It has the TIME of an SDI_FAULT: where a channel
declared faulty is the cause, that of its record (R202). An axis that PHASE_OC has halted in the same update writes the record and
stays as it is (R191). -/
def State.senseLost (s : State) (n : Fin 6) (k : Nat) : State :=
  let q := s.sns.ax[n]
  let x := s.ax[n]
  let oc := x.state == .halt && x.haltReason == 0x0703
  if s.running && s.senseCase n k && (x.state.watched || oc || (k == 4 && q.fSdi != 0)) && q.lostAt != some q.at' then
    let at' := if k = 4 ∧ q.fSdi ≠ 0 then q.sdiAt else q.at'
    let s := (s.modSns n (fun q => { q with lostAt := some q.at' })).event at' (Unit.ax n) 0x0706 k (milli q.maxDis)
    if oc then s else s.axFault n 0x0706 .sensor
  else s

def execSenseLost (dt : Nat) (n : Fin 6) (cse : Fin 5) (s : State) : Host.Outcome State Fault Refusal :=
  done ((s.advance dt).senseLost n cse.val)

/-- `PRED_LIMIT`: the run of predictions first exceeds PRED_MAX (R183). -/
def State.predLimit (s : State) (n : Fin 6) : State :=
  let q := s.sns.ax[n]
  let m := s.regs.SNS_AXn_PRED_MAX n
  if s.running ∧ m < q.predRun ∧ !q.predNoted then
    (s.modSns n (fun q => { q with predNoted := true })).event q.at' (Unit.ax n) 0x0707 m 0
  else s

def execPredLimit (dt : Nat) (n : Fin 6) (s : State) : Host.Outcome State Fault Refusal :=
  done ((s.advance dt).predLimit n)

/-- Has a faulty sensor agreed for 1 s and 1,000 compared updates (R190)? -/
def SnsAx.agreed (q : SnsAx) (k : Fin 3) (t : Nat) : Bool := decide (1000 ≤ q.agree[k]) && decide (q.clean[k] + 1000000000 ≤ t)

/-- `SENSOR_BACK`: the degradation bit clears (R190). The return to normal use follows at a boundary. -/
def State.sensorBack (s : State) (n : Fin 6) (k : SensorKind) : State :=
  let q := s.sns.ax[n]
  if !s.running then s
  else match k with
  | .sdi =>
    match (List.finRange 3).find? (fun p => q.fSdi.getLsbD p.val) with
    | some p =>
      let clean := match s.sdiOf n p with | some c => !s.sns.sdi[c].stuck && !s.sns.sdi[c].zeroFail | none => true
      if clean && q.agreed 0 s.tb then
        (s.modSns n (fun q => { q with fSdi := 0 })).event s.tb (Unit.ax n) 0x0709 (1 + p.val * 16) 0
      else s
    | none => s
  | .dcs =>
    if q.fDcs && !q.dcsZeroFail && q.agreed 1 s.tb then
      (s.modSns n (fun q => { q with fDcs := false, rejects := 0 })).event s.tb (Unit.ax n) 0x0709 2 0
    else s
  | .enc =>
    if q.fEnc && q.agreed 2 s.tb then
      ((s.modSns n (fun q => { q with fEnc := false, encDiff := none })).modEnc (s.encOf n) (fun e => { e with
        illegal := false, index := false, serial := false, observer := false, fault := false, illAt := [], zBad := 0
        discRow := 0 })).event s.tb (Unit.ax n) 0x0709 3 0
    else s

def execSensorBack (dt : Nat) (n : Fin 6) (kind : SensorKind) (s : State) : Host.Outcome State Fault Refusal :=
  done ((s.advance dt).sensorBack n kind)

/-- A boundary for the sensing of an axis: the current-limit factor comes into force; outside LIMP what has cleared returns to
normal use (R187, R190). -/
def State.snsBoundary (s : State) (n : Fin 6) : State :=
  s.modSns n (fun q =>
    let q := { q with limp := q.limp || q.limpNext, limpNext := false }
    if s.mode.mode = .limp then q
    else
      let q := { q with
        fbSdi := if q.fSdi = 0 then 0 else q.fbSdi, fbDcs := q.fbDcs && q.fDcs, fbEnc := q.fbEnc && q.fEnc }
      { q with limp := q.limp && (q.fbSdi != 0 || q.fbDcs || q.fbEnc) })

/-! ## Sigma-delta channels (R171, R174 to R176) -/

/-- The sampling edge of a channel within the tick of 2 ns that begins at TB_NOW: a rising edge of its MCLK, at a whole multiple of its
period, or with EDGE set a falling one half a period later (R170). A clock that is held low has none. -/
def State.sdiEdge (s : State) (c : Fin 32) : Option Nat :=
  let p := s.regs.mclkNs c
  let o := if s.regs.SNS_SDIc_CFG_EDGE c then p / 2 else 0
  let past := (s.tb + p - o) % p
  let t := s.tb + (if past = 0 then 0 else p - past)
  if 0 < p ∧ t < s.tb + 2 then some t else none

/-- `FAST_FILTER_OUTPUT`: at a sampling edge the magnitude of an output is compared with the limit (R170, R174). -/
def State.fastOutput (s : State) (c : Fin 32) (y : Rat) : State :=
  match s.sdiEdge c with
  | some t =>
    if !(s.running && s.regs.SNS_SDIc_CFG_EN c) then s
    else
      let i := s.sdiAmps c y
      let high := decide (s.regs.SNS_SDIc_FAST_LIM c < absR i)
      s.modSdi c (fun d =>
        let n := if high then d.fastCnt + 1 else 0
        { d with
          fastLast := i, fastCnt := n, oc := decide (s.regs.SNS_SDIc_CFG_FAST_N c + 1 ≤ n)
          ocAt := if n = s.regs.SNS_SDIc_CFG_FAST_N c + 1 then t else d.ocAt })
  | none => s

def execFastFilterOutput (dt : Nat) (c : Fin 32) (y : Rat) (s : State) : Host.Outcome State Fault Refusal :=
  done ((s.advance dt).fastOutput c y)

/-- `PHASE_OC`: FAST_N consecutive outputs above the limit halt the axis (R174). A channel declared faulty no longer acts
(R187). -/
def State.phaseOc (s : State) (c : Fin 32) : State :=
  match s.phaseOf c with
  | some (n, p) =>
    let q := s.sns.ax[n]
    if s.running && decide (s.regs.SNS_SDIc_CFG_FAST_N c + 1 ≤ s.sns.sdi[c].fastCnt) && !q.fSdi.getLsbD p.val
        && !q.fbSdi.getLsbD p.val && s.axAlloc n then
      ((s.event s.sns.sdi[c].ocAt (Unit.ax n) 0x0703 p.val (milli s.sns.sdi[c].fastLast)).modSdi c (fun d => { d with
        fastCnt := 0 })).axFault n 0x0703 .oc
    else s
  | none => s

def execPhaseOc (dt : Nat) (c : Fin 32) (s : State) : Host.Outcome State Fault Refusal :=
  done ((s.advance dt).phaseOc c)

/-- `SDI_STUCK`: a run of 64 identical bits is complete at a sampling edge; each such run has its record (R175). -/
def State.sdiStuck (s : State) (c : Fin 32) (level : Bool) : State :=
  match s.sdiEdge c with
  | some t =>
    if !(s.running && s.regs.SNS_SDIc_CFG_EN c) then s
    else
      let s := (s.modSdi c (fun d => { d with stuck := true, stuckAt := t, stuckLevel := level, runEnd := none })).event t Unit.sns 0x0701 c.val (b2n level)
      match s.phaseOf c with
      | some (n, p) => (s.modSns n (fun q => q.unclean 0 s.tb)).declareSdi n p 2 t
      | none => s
  | none => s

def execSdiStuck (dt : Nat) (c : Fin 32) (level : Bool) (s : State) : Host.Outcome State Fault Refusal :=
  done ((s.advance dt).sdiStuck c level)

/-- `SDI_STUCK_CLEAR`: 1 s without a run of 64 (R175). -/
def execSdiStuckClear (dt : Nat) (c : Fin 32) (s : State) : Host.Outcome State Fault Refusal :=
  let s := s.advance dt
  done (if s.running ∧ s.sns.sdi[c].stuckAt + 1000000000 ≤ s.tb then s.modSdi c (fun d => { d with stuck := false }) else s)

/-- The terminal-voltage inputs of an axis. -/
def State.vtIn (s : State) (n : Fin 6) : Vector (Fin 32) 3 :=
  #v[Fin.ofNat 32 (s.regs.SNS_AXn_VIN_VT_U n), Fin.ofNat 32 (s.regs.SNS_AXn_VIN_VT_V n),
    Fin.ofNat 32 (s.regs.SNS_AXn_VIN_VT_W n)]

/-- The largest line-to-line voltage at the terminals of an axis. -/
def State.lineMax (s : State) (n : Fin 6) : Rat :=
  let v := (s.vtIn n).map (fun c => s.sns.ain[c].val)
  max (absR (v[0] - v[1])) (max (absR (v[1] - v[2])) (absR (v[2] - v[0])))

/-- No diode of the bridge of an axis conducts, as a zero measurement needs it: the terminals show less than 0.9 of the DC-link
voltage; without terminal inputs the axis stands still in OFF or READY, by the last speed that it knows (R176; DESIGN CHOICE, log 125). -/
def State.noDiode (s : State) (n : Fin 6) : Bool :=
  let x := s.ax[n]
  if s.regs.SNS_AXn_VIN_VT_EN n then decide (s.lineMax n < 9 / 10 * s.vdc n)
  else (x.state == .off || x.state == .ready) &&
    decide (absR (if s.encUsable n then s.sns.enc[s.encOf n].speed else x.eng.speed) < s.regs.AXn_SPD_STILL n)

/-- The bridge of an axis is off, in OFF, READY, HALT or coasting, and no diode conducts, as a zero measurement needs (R176). -/
def State.bridgeOff (s : State) (n : Fin 6) : Bool :=
  (match s.ax[n].state with
  | .off | .ready | .halt | .catching => s.ax[n].bridge == .off
  | .run | .stop | .asc => false) && s.noDiode n

/-- `ZERO_MEASUREMENT_END`: a 10 ms average, in A, is accepted for the next start, or fails (R176). -/
def State.zeroEnd (s : State) (target : ZeroTarget) (avg : Rat) : State :=
  match target with
  | .sdi c =>
    match s.phaseOf c with
    | some (n, p) =>
      if !(s.running && s.bridgeOff n) then s
      else if s.regs.SNS_SDIc_SCALE c / 20 < absR avg then
        (((s.modSdi c (fun d => { d with zeroFail := true })).event s.tb Unit.sns 0x0702 c.val (milli avg)).modSns n (fun q =>
          q.unclean 0 s.tb)).declareSdi n p 3 s.tb
      else s.modSdi c (fun d => { d with zeroFail := false, zeroNext := some avg })
    | none => s
  | .dcs n =>
    if !(s.running && s.axAlloc n && s.bridgeOff n) then s
    else if s.regs.SNS_DCSn_SCALE n * 3 / 2 / 20 < absR avg then
      ((s.modSns n (fun q => { q.unclean 1 s.tb with dcsZeroFail := true })).event s.tb Unit.sns 0x0702 (n.val + 256) (milli avg)).declareDcs
        n 3 s.tb
    else s.modSns n (fun q => { q with dcsZeroFail := false, dcsZeroNext := some avg })

def execZeroMeasurementEnd (dt : Nat) (target : ZeroTarget) (average : Rat) (s : State) :
    Host.Outcome State Fault Refusal :=
  done ((s.advance dt).zeroEnd target average)

/-! ## DC-link return samples (R177 to R179) -/

/-- Whole ns of a time in a set, which lies on the 0.25 ns grid, or after a calibration fault of the unit on the 2 ns tick (R71, R73). -/
def State.placed (s : State) (u : Nat) (t : Rat) : Nat :=
  if s.tbs.calFail.getLsbD u then (t * 1000000000 / 2).floor.toNat * 2 else nsOf t

/-- `DCS_HOLD`: the track-and-hold holds at an instant that the set in force plans, within the tick that begins at TB_NOW (R13,
R178). -/
def State.dcsHold (s : State) (n : Fin 6) : State :=
  let x := s.ax[n]
  if !s.running ∨ x.bridge ≠ .modulate ∨ s.sns.ax[n].hold.isSome then s
  else
    match x.set.windows.find? (fun w => match w with
      | some (t, _, _) => (x.setAt + s.placed n t) / 2 == s.tb / 2
      | none => false) with
    | some (some (t, p, plus)) => s.modSns n (fun q => { q with hold := some (x.setAt + s.placed n t, p, plus) })
    | _ => s

def execDcsHold (dt : Nat) (n : Fin 6) (s : State) : Host.Outcome State Fault Refusal :=
  done ((s.advance dt).dcsHold n)

/-- A conversion that is not used (R179). -/
def SnsAx.reject (q : SnsAx) : SnsAx :=
  { q with
    hold := none, rejects := q.rejects + 1, dcsConvFail := true
    rejectAt := match q.hold with | some (t, _, _) => q.rejectAt ++ [t] | none => q.rejectAt }

/-- `DCS_CONVERSION_DONE`: the value goes to the engine, unless it is late or its code is at an end of the range (R177,
R179). -/
def State.dcsDone (s : State) (n : Fin 6) (code : BitVec 12) (volts : Rat) : State :=
  match s.sns.ax[n].hold with
  | none => s
  | some (t, p, plus) =>
    if !s.running then s
    else if code = 0 ∨ code = 4095 ∨ t + 1000 ≤ s.tb then s.modSns n SnsAx.reject
    else
      let i := s.regs.SNS_DCSn_SCALE n * (volts - s.regs.SNS_DCSn_OFFS n) - s.sns.ax[n].dcsZero
      s.modSns n (fun q => { q with
        hold := none, rejects := 0, dcsConvFail := false, dcsVal := i
        samples := q.samples ++ [{ phase := p, plus := plus, amps := i, heldAt := t }] })

def execDcsConversionDone (dt : Nat) (n : Fin 6) (code : BitVec 12) (volts : Rat) (s : State) :
    Host.Outcome State Fault Refusal :=
  done ((s.advance dt).dcsDone n code volts)

/-- `DCS_CONVERSION_TIMEOUT` (R179). -/
def State.dcsTimeout (s : State) (n : Fin 6) : State :=
  match s.sns.ax[n].hold with
  | some (t, _, _) => if s.running ∧ t + 1000 ≤ s.tb then s.modSns n SnsAx.reject else s
  | none => s

def execDcsConversionTimeout (dt : Nat) (n : Fin 6) (s : State) : Host.Outcome State Fault Refusal :=
  done ((s.advance dt).dcsTimeout n)

/-- A write of `SNS_AXn_RCN_CLR` (R180, R516). -/
def doRcnClr (n : Fin 6) (c : Ctx) (s : State) (w : Word) : Res :=
  needRights true c s fun s =>
    if !s.axAlloc n then nak s St.state
    else ack (if bit w 0 then s.modSns n (fun q => { q with shiftCnt := 0, predCnt := 0 }) else s)

/-- `RCN_CLR`. -/
def execRcnClr (dt : Nat) (o : Origin) (n : Fin 6) (w : Word) (s : State) : Host.Outcome State Fault Refusal :=
  done ((s.advance dt).entry o 2 (some (Reg.SNS_AXn_RCN_CLR n)) (fun c s => doRcnClr n c s w) (ws := [w]))

/-! ## General analog inputs, holds (R192, R193) -/

/-- The converter of an input: A for 0 to 15, B for 16 to 31 (R192). -/
def ainConv (c : Nat) : Fin 2 := Fin.ofNat 2 (c / 16)

/-- The inputs of a converter that are held and wait for their conversion, or are in it. -/
def State.ainHeld (s : State) (k : Fin 2) : List (Fin 32) :=
  (List.finRange 32).filter (fun i => ainConv i == k && s.sns.ain[i].hold.isSome)

/-- Does input `a` come before input `b` on their converter: held earlier, or at the same instant scheduled before scan, and in
ascending order (R193)? -/
def State.ainBefore (s : State) (a b : Fin 32) : Bool :=
  let key (i : Fin 32) : Nat × Nat × Nat :=
    (s.sns.ain[i].hold.getD 0, b2n (s.regs.SNS_AINc_CFG_CLASS i != 2), i.val)
  let x := key a
  let y := key b
  decide (x.1 < y.1) || (x.1 == y.1 && (decide (x.2.1 < y.2.1) || (x.2.1 == y.2.1 && decide (x.2.2 ≤ y.2.2))))

/-- The input that its converter converts: the first of those held (R192, R193). -/
def State.ainTurn (s : State) (c : Fin 32) : Bool := (s.ainHeld (ainConv c)).all (fun i => s.ainBefore c i)

/-- The next scan input of a converter: the rounds go through them in ascending order (R193). -/
def State.ainNext (s : State) (k : Fin 2) : Option (Fin 32) :=
  let scan : List (Fin 32) := (List.finRange 32).filter (fun i => ainConv i.val == k && s.regs.SNS_AINc_CFG_CLASS i == 1)
  (scan.find? (fun i => decide (s.sns.scanLast[k] < i.val))) <|> scan.head?

/-- `AIN_HOLD`: the scan input whose turn it is, in a slot that no held input takes, or a scheduled input at a multiple of its
period, is held (R193). -/
def State.ainHold (s : State) (c : Fin 32) : State :=
  let k := ainConv c
  let scan := s.regs.SNS_AINc_CFG_CLASS c == 1
  let ok := match s.regs.SNS_AINc_CFG_CLASS c with
    | 1 => (s.ainHeld k).isEmpty && s.ainNext k == some c
    | 2 =>
      let per := nsOf (s.regs.SNS_AXn_VT_PER (s.regs.SNS_AINc_CFG_AXIS c))
      decide (0 < per) && decide (s.tb % per = 0)
    | _ => false
  if s.running && ok && s.sns.ain[c].hold.isNone then
    (s.modAin c (fun a => { a with hold := some s.tb })).onSns (fun x => { x with
      scanLast := if scan then x.scanLast.set k c.val else x.scanLast })
  else s

def execAinHold (dt : Nat) (c : Fin 32) (s : State) : Host.Outcome State Fault Refusal :=
  done ((s.advance dt).ainHold c)

/-- A conversion gives its value; four in a row back in range clear RANGE, and the fourth in a row out of range gives no valid
value any more (R194). -/
def State.ainValue (s : State) (c : Fin 32) (volts : Rat) (t : Nat) : State :=
  let r := s.regs
  let v := r.SNS_AINc_SCALE c * volts + r.SNS_AINc_OFFS c
  let chk := r.SNS_AINc_CFG_RCHK c
  let lo := chk && decide (v < r.SNS_AINc_MIN c)
  let hi := chk && decide (r.SNS_AINc_MAX c < v)
  s.modAin c (fun a =>
    let inCnt := if lo || hi then 0 else a.inCnt + 1
    let range := a.range && decide (inCnt < 4)
    let outCnt := if lo || hi then a.outCnt + 1 else 0
    let bad := range || decide (4 ≤ outCnt)
    { a with
      val := v, volts := volts, hold := none, heldAt := t, above := hi, outCnt := outCnt, inCnt := inCnt, range := range
      valid := a.valid || !bad, lastValid := if bad then a.lastValid else v })

/-! ## Position interfaces (R196 to R201) -/

/-- The main axis bound to an interface. -/
def State.boundTo (s : State) (e : Fin 6) : Option (Fin 6) :=
  (List.finRange 6).find? (fun n => s.axAlloc n && s.regs.SNS_AXn_ENC_EN n && s.regs.SNS_AXn_ENC_IDX n == e.val)

/-- Counts per turn of an ABZ interface. -/
def State.encCounts (s : State) (e : Fin 6) : Nat := 4 * s.regs.SNS_ENCe_LINES e

/-- The position and speed that an interface gives for an instant: the capture, or the latest serial position
extrapolated (R197, R199). -/
def State.encAt (s : State) (e : Fin 6) : Word × Rat :=
  let x := s.sns.enc[e]
  match s.regs.SNS_ENCe_CFG_TYPE e, x.goodAt with
  | 2, some t => (x.pos + angleOf (x.speed / 60 * secOf (s.tb - t)), x.speed)
  | _, _ => (x.pos, x.speed)

/-- The angle of an interface now: that of its count, or the serial position extrapolated (R202). -/
def State.encNow (s : State) (e : Fin 6) : Word :=
  let x := s.sns.enc[e]
  let k : Int := (s.encCounts e : Int)
  if s.regs.SNS_ENCe_CFG_TYPE e = 1 ∧ k ≠ 0 then w32i (x.count * (2 ^ 32 : Int) / k) else (s.encAt e).1

/-- A position fault: cause 1 illegal transitions, 2 index, 3 serial, 4 observer (R198, R200, R201). -/
def State.encFault (s : State) (e : Fin 6) (cause : Nat) : State :=
  let was := s.sns.enc[e].fault
  let s := s.modEnc e (fun x => { x with
    fault := true, illegal := x.illegal || cause == 1, index := x.index || cause == 2
    serial := x.serial || cause == 3, observer := x.observer || cause == 4 })
  if was then s
  else
    match s.boundTo e with
    | some n =>
      ((s.modSns n (fun q => { q.faulted 2 s.tb with fEnc := true, fbEnc := true })).event s.tb (Unit.ax n) 0x0708
        (e.val + cause * 256) (s.encNow e).toNat).blindCheck n
    | none => s.event s.tb Unit.sns 0x0708 (e.val + cause * 256) (s.encNow e).toNat

/-- Place of an A and B pair in the count order, A leading B for a rising count (PRESUMED, log 21). -/
def quadrant (a b : Bool) : Nat := if a then (if b then 2 else 1) else (if b then 3 else 0)

/-- `ENC_EDGE`: filtered levels of an ABZ interface. A change of both A and B is illegal; a rising Z edge is checked against
the one before (R197, R198). -/
def State.encEdge (s : State) (e : Fin 6) (a b z : Bool) : State :=
  let x := s.sns.enc[e]
  if !(s.running && s.regs.SNS_ENCe_CFG_TYPE e == 1) then s
  else
    let raw := s.tb - s.regs.SNS_ENCe_CFG_FILT e * 10
    let d := (quadrant a b + 4 - quadrant x.a x.b) % 4
    let bad := d == 2
    let up := (d == 1) != s.regs.SNS_ENCe_CFG_DIR e
    let step : Int := if d = 0 ∨ d = 2 then 0 else if up then 1 else -1
    let cnt := x.count + step
    let dir := if step = 0 then x.up else up
    let zEdge := s.regs.SNS_ENCe_CFG_Z_EN e && z && !x.z
    let wrong := match x.zRef with
      | some (c, u) => zEdge && u == dir
          && decide (s.regs.SNS_ENCe_TOL_ZTOL e < ((cnt - c).natAbs - s.encCounts e) + (s.encCounts e - (cnt - c).natAbs))
      | none => false
    let zBad := if !zEdge then x.zBad else if wrong then x.zBad + 1 else 0
    let s := s.modEnc e (fun x => { x with
      a := a, b := b, z := z, count := cnt, up := dir, edgeAt := if step = 0 then x.edgeAt else raw
      illAt := if bad then x.illAt.filter (fun t => decide (s.tb < t + 1000000000)) ++ [s.tb] else x.illAt
      illTotal := if bad then satInc 16 x.illTotal else x.illTotal
      zRef := if zEdge then some (cnt, dir) else x.zRef, zBad := zBad })
    let s := if 2 ≤ zBad then s.encFault e 2 else s
    match s.boundTo e with
    | some n => s.encCoast n
    | none => s

def execEncEdge (dt : Nat) (e : Fin 6) (a b z : Bool) (s : State) : Host.Outcome State Fault Refusal :=
  done ((s.advance dt).encEdge e a b z)

/-- The count is captured: position, turns and speed, which stays where no edge has come since the capture before
(R197; DEDUCED, log 154). -/
def State.encCapture (s : State) (e : Fin 6) : State :=
  let x := s.sns.enc[e]
  let k : Int := (s.encCounts e : Int)
  if s.regs.SNS_ENCe_CFG_TYPE e ≠ 1 ∨ k = 0 then s
  else
    let v := if x.edgeAt = x.capEdge then x.speed
      else ((x.count - x.capCount : Int) : Rat) / (k : Rat) / secOf (x.edgeAt - x.capEdge) * 60
    s.modEnc e (fun x => { x with
      pos := w32i (x.count * (2 ^ 32 : Int) / k), turns := x.count / k, speed := v, capCount := x.count, capEdge := x.edgeAt })

/-- A synchronous serial transfer starts where the one before and its recovery have ended (R199). -/
def State.encTransfer (s : State) (e : Fin 6) : State :=
  let x := s.sns.enc[e]
  if s.regs.SNS_ENCe_CFG_TYPE e = 2 ∧ x.xfer = none ∧ x.recovered ≤ s.tb then
    s.modEnc e (fun x => { x with xfer := some s.tb })
  else s

/-- `ENC_ILLEGAL_LIMIT`: more than ILL_MAX illegal transitions in 1 s (R198). -/
def execEncIllegalLimit (dt : Nat) (e : Fin 6) (s : State) : Host.Outcome State Fault Refusal :=
  let s := s.advance dt
  let n := (s.sns.enc[e].illAt.filter (fun t => decide (s.tb < t + 1000000000))).length
  done (if s.running ∧ s.regs.SNS_ENCe_TOL_ILL_MAX e < n then s.encFault e 1 else s)

/-- `ENC_SPEED_TIMEOUT`: no edge for 10 ms (R197). -/
def execEncSpeedTimeout (dt : Nat) (e : Fin 6) (s : State) : Host.Outcome State Fault Refusal :=
  let s := s.advance dt
  done (if s.running ∧ s.regs.SNS_ENCe_CFG_TYPE e = 1 ∧ s.sns.enc[e].edgeAt + 10000000 ≤ s.tb then
    s.modEnc e (fun x => { x with speed := 0 }) else s)

/-- A Gray code of up to 32 bits as a number. -/
def ungray (w : Word) : Word :=
  let w := w ^^^ (w >>> 16)
  let w := w ^^^ (w >>> 8)
  let w := w ^^^ (w >>> 4)
  let w := w ^^^ (w >>> 2)
  w ^^^ (w >>> 1)

/-- The number of ones of a word. -/
def onesOf (w : Word) : Nat := (List.range 32).foldl (fun n i => n + b2n (bit w i)) 0

/-- `SERIAL_TRANSFER_DONE`: a transfer ends; it is decoded, or discarded (R199, R200). `lineHigh`: the data line read high before
it; `bits`: the data bits, the last one lowest. -/
def State.serialDone (s : State) (e : Fin 6) (lineHigh : Bool) (bits : Word) (parity : Bool) : State :=
  let x := s.sns.enc[e]
  let r := s.regs
  match x.xfer with
  | none => s
  | some t =>
    if !s.running then s else
    let raw := w32 (fld bits 0 (r.SNS_ENCe_CFG_BITS e))
    let v := if r.SNS_ENCe_CFG_CODE e then ungray raw else raw
    let st := r.SNS_ENCe_CFG_ST_BITS e
    let pos0 := w32 (fld v 0 st <<< (32 - st))
    let turns0 : Int := (v.toNat >>> st : Nat)
    let rev := r.SNS_ENCe_CFG_DIR e
    let pos := if rev then -pos0 else pos0
    let turns := if !rev then turns0 else if pos0 = 0 then -turns0 else -turns0 - 1
    let moved := (pos - x.pos).toInt
    let jump := x.goodAt.isSome && decide (2 ^ 29 < moved.natAbs)
    let odd := r.SNS_ENCe_CFG_PARITY e && decide ((onesOf raw + b2n parity) % 2 = 1)
    let rec' := s.tb + nsOf (r.SNS_ENCe_TREC e)
    if !lineHigh || odd || jump then
      s.modEnc e (fun x => { x with xfer := none, recovered := rec', discTotal := satInc 16 x.discTotal, discRow := x.discRow + 1 })
    else
      let v := match x.goodAt with
        | some g => if g < t then mkRat moved (2 ^ 32) / secOf (t - g) * 60 else x.speed
        | none => 0
      let s := s.modEnc e (fun x => { x with
        xfer := none, recovered := rec', discRow := 0, pos := pos, turns := turns, speed := v, goodAt := some t })
      match s.boundTo e with
      | some n => s.encCoast n
      | none => s

def execSerialTransferDone (dt : Nat) (e : Fin 6) (lineHigh : Bool) (bits : Word) (parity : Bool) (s : State) :
    Host.Outcome State Fault Refusal :=
  done ((s.advance dt).serialDone e lineHigh bits parity)

/-- `SERIAL_POSITION_FAULT`: three discarded transfers in a row (R200). -/
def execSerialPositionFault (dt : Nat) (e : Fin 6) (s : State) : Host.Outcome State Fault Refusal :=
  let s := s.advance dt
  done (if s.running ∧ 3 ≤ s.sns.enc[e].discRow then s.encFault e 3 else s)

/-- `ENC_OBSERVER_MISMATCH`: encoder and observer have differed by more than 30° for 50 ms (R201). -/
def execEncObserverMismatch (dt : Nat) (n : Fin 6) (s : State) : Host.Outcome State Fault Refusal :=
  let s := s.advance dt
  done (match s.sns.ax[n].encDiff with
    | some t => if s.running ∧ s.ax[n].state.watched ∧ t + 50000000 ≤ s.tb ∧ s.regs.SNS_AXn_ENC_EN n then s.encFault (s.encOf n) 4 else s
    | none => s)

end Sys2Proof.Machine
end

