-- ==== Sys2Proof/Machine/Stepper.lean ====
section
/-! DEFINITION. Auxiliary stepper axes (chapter 12): the update of an engine, the speed profile of the supervisor, commands, limit
inputs, homing, and the position through a power-down. -/
namespace Sys2Proof.Machine

/-! ## One update of an engine (R296 to R303) -/

/-- Microsteps per s of a speed in rpm (R296). -/
def State.auxRate (s : State) (x : Fin 4) (n : Rat) : Rat := n * (s.regs.AUXn_CFG_STEPS x : Rat) * 256 / 60

/-- The electrical angle of a position, in turns: that of its whole microsteps P (R296). -/
def State.auxTurns (s : State) (x : Fin 4) (pos : Rat) : Rat :=
  let p : Rat := (pos.floor : Rat)
  if s.regs.AUXn_CFG_DIR x then -p / 1024 else p / 1024

/-- What the die measures of a voltage from HBn_SW to GND: 12 bits over ±1.0 V (R297), rounded down (DESIGN CHOICE, log 145). -/
def senseIn (v : Rat) : Rat := clampR (-2048) 2047 ((v * 2048).floor : Rat) / 2048

/-- The commanded speed at an instant, between those at the ends of the tick (R304). -/
def State.auxSpeedAt (s : State) (x : Fin 4) (t : Nat) : Rat :=
  let a := s.aux[x]
  let k := clampR 0 1 (secOf (t - s.tick.began) / s.periodS)
  a.n0 + (a.n1 - a.n0) * k

/-- Where a move is to end: the target of POSITION, or of a move away in homing. -/
def AuxAx.aim (a : AuxAx) : Option Rat :=
  match a.state, a.home with
  | .homing, .awayLimit | .homing, .awayStall | .homing, .linkAway => some a.homeTo
  | .run, _ => if a.mode = 2 then some (a.target : Rat) else none
  | _, _ => none

/-- What is left of a move to `aim`, microsteps: in homing by the wrapped distance, else between the two numbers (DEDUCED, log 132). -/
def AuxAx.toGo (a : AuxAx) (aim : Rat) : Rat :=
  if a.state == .homing then wrapPos (aim - a.eng.pos) else aim - a.eng.pos

/-- The duty cap of an auxiliary axis (R298), lowered by refresh insertion (R143). -/
def State.auxCap (s : State) (x : Fin 4) : Rat :=
  let f := s.freqOf (aux10 x)
  let d := min (98 / 100) (1 - 2 * f / 1000000)
  if s.gd.ax[aux10 x].refresh then min d (dMax f) else d

/-- One winding: the law's voltage, limited, and its integrator (R298, R299). `preset`: the law has just changed, from the
voltage given (R300). -/
def State.auxWinding (s : State) (x : Fin 4) (strong link : Bool) (i iRef iPrev eHat w : Rat) (lim : Rat)
    (preset : Option Rat) : Rat × Rat :=
  let r := s.regs
  let t := 1 / s.freqOf (aux10 x)
  let er := iRef - i
  let base := if strong then r.AUXn_S_KP x * er + eHat
    else r.AUXn_MOT_R x * iRef + r.AUXn_MOT_L x * (iRef - iPrev) / t + eHat
  let ki := if strong then r.AUXn_S_KI x else if link then 0 else r.AUXn_Q_KI x
  let w := match preset with | some u => u - base | none => w
  let u := base + w
  let dw := ki * t * er
  let w' := if (lim < u ∧ 0 < dw) ∨ (u < -lim ∧ dw < 0) then w else w + dw
  (clampR (-lim) lim u, w')

/-- The result of an update sampled at `at'` at the commanded speed `n`, whose winding voltages at the valley are given (R297 to R303).
The voltage of the update before is the one that it computed (DEDUCED, log 133). -/
def State.auxEngine (s : State) (x : Fin 4) (at' : Nat) (n : Rat) (vA1 vA2 vB1 vB2 : Rat) : AuxEng :=
  let r := s.regs
  let a := s.aux[x]
  let e := a.eng
  let link := s.auxLink x
  let t := 1 / s.freqOf (aux10 x)
  let iA := if link then 0 else (senseIn vA2 - senseIn vA1) / (2 * r.AUXn_RSENSE x)
  let iB := if link then 0 else (senseIn vB2 - senseIn vB1) / (2 * r.AUXn_RSENSE x)
  let k := min (t * 2000) 1
  let emf (eh u i ip : Rat) : Rat :=
    if link then 0 else eh + k * (u - r.AUXn_MOT_R x * i - r.AUXn_MOT_L x * (i - ip) / t - eh)
  let eA := emf e.eA e.uA iA e.iA
  let eB := emf e.eB e.uB iB e.iB
  let n := if a.check.isSome then 0 else n
  let step := s.auxRate x n * t
  let there := match a.aim with
    | some aim => let d := a.toGo aim; decide (0 ≤ step ∧ 0 ≤ d ∧ d ≤ step) || decide (step ≤ 0 ∧ d ≤ 0 ∧ step ≤ d)
    | none => false
  let step := if there then (match a.aim with | some aim => a.toGo aim | none => 0) else step
  let next := e.pos + step
  let pos := wrapPos next
  let run := r.AUXn_I_RUN x
  let amp := if a.check.isSome then r.AUXn_I_HOLD x
    else match a.fallAt with
      | some f => if n = 0 then run + (r.AUXn_I_HOLD x - run) * min 1 (secOf (at' - f) * 100) else run
      | none => run
  let th := angleOf (s.auxTurns x pos)
  let iRefA := amp * cosA th
  let iRefB := amp * sinA th
  let qs := r.AUXn_QS_SPD x
  let want := if qs ≤ absR n then true else if absR n < qs * (1 - r.AUXn_QS_HYST x) then false else e.strong
  let cross := (e.pos / 256).floor ≠ (next / 256).floor
  let strong := if link then false else if want ≠ e.strong ∧ cross then want else e.strong
  let vdc := s.sns.ain[(Fin.ofNat 32 (r.AUXn_CFG_VDC x) : Fin 32)].val
  let lim := (2 * s.auxCap x - 1) * vdc
  let pre (u : Rat) : Option Rat := if strong ≠ e.strong then some u else none
  let wa := s.auxWinding x strong link iA iRefA e.iRefA eA e.wA lim (pre e.uA)
  let wb := s.auxWinding x strong link iB iRefB e.iRefB eB e.wB lim (pre e.uB)
  let delta := 2 * Config.pi * atan2R (eA * iA + eB * iB) (signR n * (eB * iA - eA * iB))
  let eMag := hyp eA eB
  let active := !link && r.AUXn_STALL_CFG x && decide (r.AUXn_STALL_NMIN x ≤ absR n) && decide (run ≤ amp)
  let angle := active && decide (r.AUXn_STALL_ANG x < absR delta)
  let weak := active && decide (eMag < r.AUXn_STALL_EFRAC x * r.AUXn_MOT_KE x * absR n * 2 * Config.pi / 60)
  let ts := if angle || weak then e.ts + t else 0
  { pos := pos, odo := e.odo + step, vdc := vdc, dead := r.GD_AUXn_DT x, amp := amp, iRefA := iRefA, iRefB := iRefB, iA := iA, iB := iB, uA := wa.1, uB := wb.1, wA := wa.2, wB := wb.2
    eA := eA, eB := eB, delta := delta, strong := strong, ts := ts, tsPos := if e.ts = 0 then pos else e.tsPos
    sAngle := angle, sWeak := weak, at' := at'
    checkBad := if a.check.isSome && e.checkBad.isNone && decide (r.AUXn_KEEP_EMIN x < eMag) then some at' else e.checkBad }

/-- The duties of the legs A1, A2, B1, B2 for winding voltages (R298). -/
def AuxEng.duties (e : AuxEng) : Vector Rat 4 :=
  let a := e.uA / (2 * e.vdc)
  let b := e.uB / (2 * e.vdc)
  #v[1 / 2 + a, 1 / 2 - a, 1 / 2 + b, 1 / 2 - b]

/-- The duties of an auxiliary axis come into force at an edge-update instant with their dead time, each cut to the cap in force
(R143, R298); the commands of the legs go on from those before (R135). -/
def State.auxPut (s : State) (x : Fin 4) (edge : Nat) (d : Vector Rat 4) (dead : Rat) : State :=
  let was : Vector (Bool × Rat) 4 := Vector.ofFn (fun k => s.auxLegAt x k edge)
  let old := s.aux[x]
  let low := if old.energised then maskOf 4 (fun k => decide (old.duty[(Fin.ofNat 4 k : Fin 4)] < 1)) else 0
  (s.modAux x (fun a => { a with duty := d.map (min (s.auxCap x)), dead := dead, setAt := edge, was := was })).modGd (aux10 x)
    (fun g => { g with lowRan := g.lowRan ||| BitVec.ofNat 4 low })

/-- The engine of an axis is busy: with a late result, or with an update that is not posted (R51). -/
def Sentinel.busy (q : Sentinel) : Bool := !q.late.isEmpty || q.upds.any (fun u => u.started && u.posted.isNone)

/-- Change the first update of a list that satisfies a condition. -/
def modFirst (p : Upd → Bool) (f : Upd → Upd) : List Upd → List Upd
  | [] => []
  | u :: t => if p u then f u :: t else u :: modFirst p f t

/-- The free engine of an auxiliary axis starts the earliest update whose edge-update instant has not passed, with the parameters of
its sample instant (R51, R32). -/
def State.auxBegin (s : State) (x : Fin 4) : State :=
  let q := s.snt[aux10 x]
  let ready (u : Upd) : Bool := !u.started && decide (s.tb ≤ u.edge)
  match q.upds.find? ready with
  | none => s
  | some u =>
    if q.busy || !s.running then s
    else
      let r := (s.onRegs (fun _ => u.regs)).auxEngine x u.sample u.spd u.wind[0] u.wind[1] u.wind[2] u.wind[3]
      (s.modAux x (fun a => { a with result := some (u.sample, r) })).modSnt (aux10 x) (fun q => { q with
        upds := modFirst ready (fun u => { u with started := true }) q.upds })

/-- `AUX_UPDATE`: at the carrier valley the winding currents are sampled, and the engine, where it is free, regulates them
(R297, R299, R51); a busy engine takes the sample up when it is free. Under refresh insertion the valley counts (R144). -/
def State.auxUpdate (s : State) (x : Fin 4) (vA1 vA2 vB1 vB2 : Rat) (hsUv : BitVec 4) : State :=
  let q := s.snt[aux10 x]
  let a := s.aux[x]
  match extremeIn a.valley q.freq s.tb with
  | none => s
  | some (k, t) =>
    if !(s.running && a.state.watched && k % 2 == 0 && q.upds.all (fun u => decide (u.sample < s.tb))) then s
    else
      let s := s.countRefresh (aux10 x) hsUv
      let s := s.modSnt (aux10 x) (fun q => { q with
        upds := q.upds ++ [{
          sample := t, edge := edgeAfter a.valley q.freq false k, started := false, posted := none, pos := 0, spd := s.auxSpeedAt x s.tb
          regs := s.regs, wind := #v[vA1, vA2, vB1, vB2] }] })
      s.auxBegin x

/-- At a boundary an update sampled at it takes the speed and the register words that come into force there, whichever of the two
commands came first (R30, R32). -/
def State.auxResample (s : State) (x : Fin 4) : State :=
  let late (u : Upd) : Bool := decide (s.tb ≤ u.sample) && u.posted.isNone
  if (s.snt[aux10 x].upds.any late) then
    (s.modSnt (aux10 x) (fun q => { q with
      upds := q.upds.map (fun u => if late u then { u with started := false, spd := s.auxSpeedAt x s.tb, regs := s.regs } else u) })).auxBegin x
  else s

def execAuxUpdate (dt : Nat) (x : Fin 4) (vA1 vA2 vB1 vB2 : Rat) (hsUv : BitVec 4) (s : State) :
    Host.Outcome State Fault Refusal :=
  done ((s.advance dt).auxUpdate x vA1 vA2 vB1 vB2 hsUv)

/-! ## The speed profile (R304, R306, R308, R310) -/

/-- A ramp over a time `t`: away from zero at `up`, toward zero at `down`. -/
def rampTo (v goal up down t : Rat) : Rat :=
  if v * goal < 0 then
    let tz := absR v / down
    if t ≤ tz then v - signR v * down * t else signR goal * min (absR goal) (up * (t - tz))
  else if absR v < absR goal then signR goal * min (absR goal) (absR v + up * t)
  else signR v * max (absR goal) (absR v - down * t)

/-- Is motion in a direction inhibited (R308, R309)? -/
def AuxAx.barred (a : AuxAx) (positive : Bool) : Bool :=
  if positive then a.posi.tripped || a.posi.inhibit else a.neg.tripped || a.neg.inhibit

/-- The speed toward a target position, rpm: it can still stop there at the ramp `dec`. The spec does not state the profile
between the ramps and the exact landing (DESIGN CHOICE, log 20). -/
def State.auxToward (s : State) (x : Fin 4) (aim top dec : Rat) : Rat :=
  let d := s.aux[x].toGo aim / ((s.regs.AUXn_CFG_STEPS x : Rat) * 256)
  signR d * clampR 0 (absR top) (60 * sqrtR (2 * dec * absR d / 60))

/-- The direction of homing as a sign (`AUXn_HOME_CFG.DIR`). -/
def State.homeDir (s : State) (x : Fin 4) : Rat := if s.regs.AUXn_HOME_CFG x then 1 else -1

/-- The speed at the end of the coming tick, from the command that is then in force: that which the tick has read, or the homing that goes
on (R304, R306, R308, R310). A start from READY ramps from its boundary on, but for one with a start check (R315). The ramp goes on from
where the last work left it (R57). -/
def State.auxPlan (s : State) (x : Fin 4) (mode : Nat) (set : Rat) (target : Int) : Rat :=
  let a := s.aux[x]
  let r := s.regs
  let t := s.periodS
  let v := if a.state.watched then a.nNext else 0
  let go (goal up down : Rat) : Rat :=
    if a.barred (decide (0 < goal)) ∧ goal ≠ 0 then rampTo v 0 up (r.AUXn_STOP_DEC x) t
    else if a.barred (decide (0 < v)) ∧ v ≠ 0 then rampTo v goal up (r.AUXn_STOP_DEC x) t
    else rampTo v goal up down t
  let acc := r.AUXn_ACC x
  let follow : Rat := match mode with
    | 0 => go 0 acc (r.AUXn_DEC x)
    | 1 => go set acc (r.AUXn_DEC x)
    | 2 => if a.arrived ∧ a.target = target then 0
        else go (s.auxToward x (target : Rat) set (r.AUXn_DEC x)) acc (r.AUXn_DEC x)
    | _ => go (s.homeDir x * r.AUXn_HOME_SPD x) acc acc
  match a.state with
  | .off | .halt => 0
  | .ready => if mode = 0 ∨ !s.driving ∨ (mode ≠ 3 ∧ a.valid ∧ !s.auxLink x) then 0 else follow
  | .run => if a.check.isSome then 0 else follow
  | .stop => go 0 acc (match a.stopKind with | .command => r.AUXn_DEC x | _ => r.AUXn_STOP_DEC x)
  | .homing =>
    if mode ≠ 3 ∧ a.next.isSome then follow
    else match a.home with
    | .approach => go (s.homeDir x * a.homeSpd) acc acc
    | .awayLimit | .awayStall | .linkAway => go (s.auxToward x a.homeTo a.homeSpd acc) acc acc
    | .limitStop | .linkStop => rampTo v 0 acc (r.AUXn_STOP_DEC x) t
    | .none => 0

/-! ## Homing (R310, R311) -/

/-- fail(c): HALT with reason HOME_FAIL; the position stays lost. -/
def State.homeFail (s : State) (x : Fin 4) (cause at' : Nat) : State :=
  let p := s.aux[x].pBits
  (((s.auxLost x).auxHalt x 0x0C05).auxLost x).event at' (Unit.aux x) 0x0C05 cause p

/-- Move away to `aim`. -/
def State.homeAway (s : State) (x : Fin 4) (ph : HomePhase) (aim : Rat) : State :=
  s.modAux x (fun a => { a with home := ph, homeTo := wrapPos aim, homeFrom := a.eng.odo, arrived := false })

/-- Homing is done: the position is set, the axis holds it in RUN. In link mode the trip has set it (R311), and the record gives what it was
before (R317). -/
def State.homeDone (s : State) (x : Fin 4) (setPos : Bool) : State :=
  let offs : Int := (s.regs.get (Reg.AUXn_HOME_OFFS x)).toInt
  let before := if setPos then s.aux[x].pBits else twos 4 s.aux[x].homeP
  let tries := s.aux[x].tries
  let s := if setPos then s.auxSetPos x offs else s
  let s := s.onRegs (fun r => ((r.set (Reg.AUXn_CMD x) 2).set (Reg.AUXn_CMD_SET x) (r.get (Reg.AUXn_HOME_SPD x))).set
    (Reg.AUXn_CMD_POS x) (r.get (Reg.AUXn_HOME_OFFS x)))
  (s.modAux x (fun a => { a with
    state := .run, home := .none, valid := true, homed := true, tries := 0, half := false, mode := 2, target := offs
    set := s.regs.AUXn_HOME_SPD x, next := none, arrived := setPos, n0 := 0, n1 := 0, nNext := 0, zeroAt := some s.tb })).event
      s.tb (Unit.aux x) 0x0C04 (tries + 1) before

/-- The stall that ended an approach was declared in the last update (R316). -/
def AuxAx.stalled (a : AuxAx) : Bool := a.state == .homing && a.home == .awayStall && a.eng.at' == a.homeAt

/-- A limit trips while homing: `toward`: it lies in the homing direction. A trip in the update that declared the stall counts in place
of the stall, so that the axis stops from the speed of the approach (R316); after the second trip the axis stops before it fails (R310). -/
def State.homeLimit (s : State) (x : Fin 4) (toward : Bool) (raw : Nat) : State :=
  let a := s.aux[x]
  let same := toward && a.stalled
  match (if same then HomePhase.approach else a.home) with
  | .approach =>
    if !toward then s
    else if s.auxLink x then
      let offs : Int := (s.regs.get (Reg.AUXn_HOME_OFFS x)).toInt
      (s.modAux x (fun a => { a with home := .linkStop, homeP := a.p })).auxSetPos x offs
    else s.modAux x (fun a => { a with
      home := .limitStop, tries := a.tries + 1, homeAt := raw
      n0 := if same then a.stall0 else a.n0, n1 := if same then a.stall1 else a.n1, nNext := if same then a.stall1 else a.nNext })
  | .awayLimit | .awayStall | .linkAway => s.homeFail x 4 raw
  | _ => s

/-- Homing starts: where the limit of the homing direction is tripped already, that counts as its trip (DESIGN CHOICE,
log 20). -/
def State.homeBegin (s : State) (x : Fin 4) : State :=
  if s.aux[x].state = .homing ∧ (if s.regs.AUXn_HOME_CFG x then s.aux[x].posi.tripped else s.aux[x].neg.tripped) then
    s.homeLimit x true s.tb
  else s

/-- `AUX_MOVE_DONE`: a move has reached its target or standstill (R304, R310, R311). -/
def State.auxMoveDone (s : State) (x : Fin 4) : State :=
  let a := s.aux[x]
  let away := -(s.homeDir x)
  let still := a.n0 == 0 && a.n1 == 0
  let there := match a.aim with | some t => a.eng.pos == t | none => false
  match a.state, a.home with
  | .homing, .limitStop =>
    if !still then s
    else if a.tries = 2 then s.homeFail x 1 a.homeAt
    else s.homeAway x .awayLimit ((a.p : Rat) + away * ((s.regs.AUXn_HOME_LBACK x).toNat : Rat))
  | .homing, .linkStop =>
    if still then s.homeAway x .linkAway ((a.p : Rat) + away * ((s.regs.AUXn_HOME_LBACK x).toNat : Rat)) else s
  | .homing, .awayLimit =>
    if there then s.modAux x (fun a => { a with
      home := .approach, homeSpd := a.homeSpd / 2, half := true, homeFrom := a.eng.odo, n0 := 0, n1 := 0, nNext := 0 })
    else s
  | .homing, .awayStall => if there then s.homeDone x true else s
  | .homing, .linkAway => if there then s.homeDone x false else s
  | .homing, .approach =>
    if ((s.regs.AUXn_HOME_MAX x).toNat : Rat) ≤ absR (a.eng.odo - a.homeFrom) then s.homeFail x 3 s.tb else s
  | .run, _ =>
    if there && !a.arrived then s.modAux x (fun a => { a with
      arrived := true, n0 := 0, n1 := 0, nNext := 0, zeroAt := some s.tb })
    else s
  | _, _ => s

def execAuxMoveDone (dt : Nat) (x : Fin 4) (s : State) : Host.Outcome State Fault Refusal :=
  let s := s.advance dt
  done (if s.running then s.auxMoveDone x else s)

/-- `AUX_STALL`: a stall has persisted for STALL_T (R303); in an approach it finds the stop: the commanded motion ends
there and the move away begins from rest (R310, Table 3). -/
def State.auxStall (s : State) (x : Fin 4) : State :=
  let a := s.aux[x]
  if !(s.regs.AUXn_STALL_CFG x && !s.auxLink x && a.state.watched && decide (s.regs.AUXn_STALL_T x ≤ a.eng.ts)
      && decide (0 < a.eng.ts)) then s
  else
    let s := s.modAux x (fun a => { a with
      still := false, eng := { a.eng with ts := 0 }, result := a.result.map (fun q => (q.1, { q.2 with ts := 0 })) })
    match a.state, a.home with
    | .homing, .approach =>
      (s.modAux x (fun a => { a with
        homeAt := a.eng.at', stall0 := a.n0, stall1 := a.n1, n0 := 0, n1 := 0, nNext := 0 })).homeAway x .awayStall ((a.eng.tsPos.floor : Rat) - s.homeDir x * ((s.regs.AUXn_HOME_BACK x).toNat : Rat))
    | .homing, .awayLimit | .homing, .awayStall => s.homeFail x 4 a.eng.at'
    | .homing, _ => s
    | _, _ =>
      (((s.auxHalt x 0x0C01).auxLost x).event a.eng.at' (Unit.aux x) 0x0C01
        (b2n a.eng.sAngle + 2 * b2n a.eng.sWeak + a.state.code * 256) a.pBits)

def execAuxStall (dt : Nat) (x : Fin 4) (s : State) : Host.Outcome State Fault Refusal :=
  let s := s.advance dt
  done (if s.running then s.auxStall x else s)

/-- `HOLD_CURRENT_DELAY_END`: after HOLD_DLY at zero speed the current starts to fall (R301). -/
def State.auxHoldCurrent (s : State) (x : Fin 4) : State :=
  let a := s.aux[x]
  match a.zeroAt with
  | some t =>
    if a.energised ∧ a.fallAt = none ∧ t + nsOf (s.regs.AUXn_HOLD_DLY x) ≤ s.tb then
      s.modAux x (fun a => { a with fallAt := some s.tb })
    else s
  | none => s

def execHoldCurrentDelayEnd (dt : Nat) (x : Fin 4) (s : State) : Host.Outcome State Fault Refusal :=
  let s := s.advance dt
  done (if s.running then s.auxHoldCurrent x else s)

/-- The settle time of an axis at zero commanded speed has passed. -/
def State.auxSettled (s : State) (x : Fin 4) : Bool :=
  let a := s.aux[x]
  a.energised && (match a.zeroAt with | some t => decide (t + nsOf (s.regs.AUXn_KEEP_SETTLE x) ≤ s.tb) | none => false)

/-- `AUX_STILL_SET` (R313). -/
def State.auxStillSet (s : State) (x : Fin 4) : State :=
  if s.auxSettled x then s.modAux x (fun a => { a with still := true }) else s

def execAuxStillSet (dt : Nat) (x : Fin 4) (s : State) : Host.Outcome State Fault Refusal :=
  let s := s.advance dt
  done (if s.running then s.auxStillSet x else s)

/-- `AUX_STOP_SETTLE_END`: the settle hold of a stop, which follows its beginning (DEDUCED, log 132), is over; the bridge turns off; READY, or HALT after a fault stop (R304, R306). Under SS1 the axis stays in
STOP until STO acts. -/
def State.auxStopEnd (s : State) (x : Fin 4) : State :=
  let a := s.aux[x]
  if a.state = .stop ∧ s.auxSettled x ∧ a.stopAt + nsOf (s.regs.AUXn_KEEP_SETTLE x) ≤ s.tb then
    let s := s.modAux x (fun a => { a with still := true })
    match a.stopKind with
    | .command | .brake => s.auxDown x .ready
    | .ss1 => s
    | .fault r _ => s.auxHalt x r
  else s

def execAuxStopSettleEnd (dt : Nat) (x : Fin 4) (s : State) : Host.Outcome State Fault Refusal :=
  let s := s.advance dt
  done (if s.running then s.auxStopEnd x else s)

/-- `START_CHECK_END`: the check has lasted KEEP_CHK_T, or an update of it found the rotor moved: then the position is lost and
the command reset (R315). -/
def State.auxCheckEnd (s : State) (x : Fin 4) : State :=
  let a := s.aux[x]
  match a.check, a.eng.checkBad with
  | some _, some t =>
    ((((s.modAux x (fun a => { a with check := none, eng := { a.eng with checkBad := none } })).auxLost x).auxResetCommand
      x).auxStop x .command).event t (Unit.aux x) 0x0C07 5 a.pBits
  | some e, none => if e ≤ s.tb then s.modAux x (fun a => { a with check := none }) else s
  | none, _ => s

def execStartCheckEnd (dt : Nat) (x : Fin 4) (s : State) : Host.Outcome State Fault Refusal :=
  let s := s.advance dt
  done (if s.running then s.auxCheckEnd x else s)

/-! ## Limit inputs (R307 to R309) -/

/-- The state of a limit input. -/
def AuxAx.lim (a : AuxAx) (positive : Bool) : LimSt := if positive then a.posi else a.neg

/-- Change the state of a limit input. -/
def State.modLim (s : State) (x : Fin 4) (positive : Bool) (f : LimSt → LimSt) : State :=
  s.modAux x (fun a => if positive then { a with posi := f a.posi } else { a with neg := f a.neg })

/-- The active level of a limit input (`AUXn_LIM_CFG.POL`): true high. -/
def State.limPol (s : State) (x : Fin 4) (positive : Bool) : Bool :=
  if positive then s.regs.AUXn_LIM_CFG_POS_POL x else s.regs.AUXn_LIM_CFG_NEG_POL x

/-- The changes of a limit input within 100 ms of the last one. -/
def LimSt.count (l : LimSt) : Nat := (l.changes.filter (fun t => decide (l.changes.getLastD 0 < t + 100000000))).length

/-- `LIMIT_INPUT_CHANGE`: the filtered level of a limit input changes; its raw edge lies FILT before (R307, R308). The ninth change in
100 ms on the limit of the homing direction is left to the chatter that it shows (R316). -/
def State.limitChange (s : State) (x : Fin 4) (positive high : Bool) : State :=
  let a := s.aux[x]
  let active := high == s.limPol x positive
  let raw := s.tb - s.regs.AUXn_LIM_CFG_FILT x * 100000
  if !(s.running && s.auxAlloc x && s.limEn x positive && (a.lim positive).tripped != active) then s
  else
    let s := s.modLim x positive (fun l => { l with
      tripped := active, since := s.tb, changes := l.changes.filter (fun t => decide (raw < t + 100000000)) ++ [raw] })
    if !active then s
    else
      let homing := a.state == .homing
      let home := s.regs.AUXn_HOME_CFG x == positive
      let toward := (if positive then decide (0 < a.n1) || decide (0 < a.n0) else decide (a.n1 < 0) || decide (a.n0 < 0))
        || (home && a.stalled)
      let chat := home && !(s.aux[x].lim positive).inhibit && decide (8 < (s.aux[x].lim positive).count)
      let s := if a.state.watched && toward then
          s.event raw (Unit.aux x) 0x0C02 (b2n positive + 256 * b2n homing) a.pBits
        else s
      let s := if homing && !chat then s.homeLimit x home raw else s
      if s.limBoth x then
        let st := s.aux[x].state
        let s := match st with
          | .ready => s.auxHalt x 0x0C06
          | _ => s.auxStop x (.fault 0x0C06 false)
        if st.watched || st == .ready then s.event s.tb (Unit.aux x) 0x0C06 0 s.aux[x].pBits else s
      else s

def execLimitInputChange (dt : Nat) (x : Fin 4) (positive high : Bool) (s : State) : Host.Outcome State Fault Refusal :=
  done ((s.advance dt).limitChange x positive high)

/-- `LIM_CHATTER`: more than 8 changes in 100 ms inhibit motion toward the limit (R309, R310). -/
def State.limChatter (s : State) (x : Fin 4) (positive : Bool) : State :=
  let l := s.aux[x].lim positive
  let last := l.changes.getLastD 0
  let n := l.count
  if s.running && s.auxAlloc x && s.limEn x positive && !l.inhibit && decide (8 < n) then
    let s := (s.modLim x positive (fun l => { l with inhibit := true })).event last (Unit.aux x) 0x0C03 (b2n positive) n
    if s.aux[x].state = .homing ∧ s.regs.AUXn_HOME_CFG x = positive then s.homeFail x 2 last else s
  else s

def execLimChatter (dt : Nat) (x : Fin 4) (positive : Bool) (s : State) : Host.Outcome State Fault Refusal :=
  done ((s.advance dt).limChatter x positive)

/-- A write of `AUXn_LIM_CLR` (R309). A limit that goes on chattering is declared again after new changes. -/
def doLimClr (x : Fin 4) (c : Ctx) (s : State) (w : Word) : Res :=
  needRights true c s fun s =>
    if !s.auxAlloc x then nak s St.state
    else
      let clr (p : Bool) (s : State) : State := s.modLim x p (fun l => { l with inhibit := false, changes := [] })
      let s := if bit w 0 then clr false s else s
      ack (if bit w 1 then clr true s else s)

/-- `LIM_CLR`. -/
def execLimClr (dt : Nat) (o : Origin) (x : Fin 4) (w : Word) (s : State) : Host.Outcome State Fault Refusal :=
  done ((s.advance dt).entry o 2 (some (Reg.AUXn_LIM_CLR x)) (fun c s => doLimClr x c s w) (ws := [w]))

/-! ## Commands (R304, R305) -/

/-- Completion of the pair of `AUXn_CMD`. -/
def doAuxCmd (x : Fin 4) (c : Ctx) (s : State) (w : Word) : Res :=
  needRights false c s fun s =>
    let m := fld w 0 3
    let chat := if s.regs.AUXn_HOME_CFG x then s.aux[x].posi.inhibit else s.aux[x].neg.inhibit
    if 3 < m ∨ (m ≠ 0 ∧ s.regs.AUXn_SPD_MAX x < absR (s.regs.AUXn_CMD_SET x)) then nak s St.range
    else if !s.auxAlloc x || (m != 0 && s.mode.mode == .hold) || (m == 2 && !s.aux[x].valid) || (m == 3 && chat) then
      nak s St.state
    else ack (s.onRegs (fun r => r.set (Reg.AUXn_CMD x) (w32 m)))

/-- A command of an auxiliary axis by its mode. -/
def State.auxCmd (s : State) (o : Origin) (x : Fin 4) (m : Nat) : State :=
  s.entry o 2 (some (Reg.AUXn_CMD x)) (fun c s => doAuxCmd x c s (w32 m)) (ws := [w32 m])

/-- `AUX_CMD_STOP`. -/
def execAuxCmdStop (dt : Nat) (o : Origin) (x : Fin 4) (s : State) : Host.Outcome State Fault Refusal :=
  done ((s.advance dt).auxCmd o x 0)
/-- `AUX_CMD_VELOCITY`. -/
def execAuxCmdVelocity (dt : Nat) (o : Origin) (x : Fin 4) (s : State) : Host.Outcome State Fault Refusal :=
  done ((s.advance dt).auxCmd o x 1)
/-- `AUX_CMD_POSITION`. -/
def execAuxCmdPosition (dt : Nat) (o : Origin) (x : Fin 4) (s : State) : Host.Outcome State Fault Refusal :=
  done ((s.advance dt).auxCmd o x 2)
/-- `AUX_CMD_HOME`. -/
def execAuxCmdHome (dt : Nat) (o : Origin) (x : Fin 4) (s : State) : Host.Outcome State Fault Refusal :=
  done ((s.advance dt).auxCmd o x 3)

/-- Completion of the pair of `AUXn_CMD_SET`: |CMD_SET| at most SPD_MAX (R305). -/
def doAuxSet (x : Fin 4) (c : Ctx) (s : State) (w : Word) : Res :=
  needRights false c s fun s =>
    match f32Norm w with
    | none => nak s St.range
    | some v =>
      if s.regs.AUXn_SPD_MAX x < absR (f32ToRat v) then nak s St.range
      else if !s.auxAlloc x then nak s St.state
      else ack (s.onRegs (fun r => r.set (Reg.AUXn_CMD_SET x) v))

/-- `AUX_SETPOINT_WRITE`. -/
def execAuxSetpointWrite (dt : Nat) (o : Origin) (x : Fin 4) (value : Word) (s : State) :
    Host.Outcome State Fault Refusal :=
  done ((s.advance dt).entry o 2 (some (Reg.AUXn_CMD_SET x)) (fun c s => doAuxSet x c s value) (ws := [value, ~~~value]))

/-- Completion of the pair of `AUXn_CMD_POS`. -/
def doAuxPos (x : Fin 4) (c : Ctx) (s : State) (w : Word) : Res :=
  needRights false c s fun s =>
    if !s.auxAlloc x then nak s St.state else ack (s.onRegs (fun r => r.set (Reg.AUXn_CMD_POS x) w))

/-- `AUX_TARGET_WRITE`. -/
def execAuxTargetWrite (dt : Nat) (o : Origin) (x : Fin 4) (value : Word) (s : State) :
    Host.Outcome State Fault Refusal :=
  done ((s.advance dt).entry o 2 (some (Reg.AUXn_CMD_POS x)) (fun c s => doAuxPos x c s value) (ws := [value, ~~~value]))

/-! ## The outer tick (R304, R312) -/

/-- The position entry of tick `k` (Table 1): 32 data bytes, slots A and B in turn. -/
def State.auxKeep (s : State) (x : Fin 4) (boundary k : Nat) : State :=
  if !(s.auxAlloc x && s.regs.AUXn_CFG_KEEP x) then s
  else
    let a := s.aux[x]
    let data := leBytes 8 boundary ++ leBytes 4 s.ks.rstNum ++ leBytes 4 a.pBits ++ leBytes 8 k
      ++ leBytes 4 (angleOf (s.auxTurns x a.eng.pos)).toNat
      ++ leBytes 1 (b2n a.valid + 2 * b2n a.still + 4 * b2n a.homed) ++ zeros 3
    s.ksPair (0x9000 + 0x100 * x.val + (if k % 2 = 0 then 0 else 0x80)) 32 data

/-- What the work of a tick reads as it begins: the command of an auxiliary axis (R304, R242). -/
def State.auxRead (s : State) (x : Fin 4) : State :=
  let r := s.regs
  s.modAux x (fun a => { a with
    next := if s.driving then some (fld (r.get (Reg.AUXn_CMD x)) 0 3, r.AUXn_CMD_SET x, (r.get (Reg.AUXn_CMD_POS x)).toInt) else none })

/-- What the work of a tick does for an auxiliary axis: it plans the speed of the coming tick. -/
def State.auxTick (s : State) (x : Fin 4) : State :=
  let a := s.aux[x]
  let cmd := a.next.getD (a.mode, a.set, a.target)
  s.modAux x (fun a => { a with nNext := s.auxPlan x cmd.1 cmd.2.1 cmd.2.2 })

/-- The command a tick has read takes effect (R304, R305, R142), in a mode in which axes run (R122). A start check holds a HOME back
(R315). -/
def State.auxTake (s : State) (x : Fin 4) : State :=
  let a := s.aux[x]
  match a.next with
  | none => s
  | some (m, v, t) =>
    if !s.driving then s.modAux x (fun a => { a with next := none })
    else
    let s := s.modAux x (fun a => { a with
      mode := m, set := v, target := t, next := none, arrived := a.arrived && a.mode == m && a.target == t })
    match a.state with
    | .ready =>
      if m = 0 then s.modAux x (fun a => { a with startWait := none })
      else if s.mayStart (aux10 x) then (s.startNow (aux10 x)).homeBegin x
      else s.modAux x (fun a => { a with startWait := some (a.startWait.getD s.tb) })
    | .run =>
      if m = 0 then s.auxStop x .command
      else if m = 3 ∧ a.check = none then
        (s.modAux x (fun a => { a with
          state := .homing, home := .approach, tries := 0, half := false, homeFrom := a.eng.odo, homeSpd := s.regs.AUXn_HOME_SPD x
          })).homeBegin x
      else s
    | .homing =>
      if m = 3 then s
      else if m = 0 then s.auxStop x .command
      else (s.modAux x (fun a => { a with state := .run, home := .none, tries := 0, half := false })).auxLost x
    | .off | .stop | .halt => s

/-- The speed that comes into force at a boundary: the planned one; where a limit has tripped since, motion toward it stops at STOP_DEC
(R308). -/
def State.auxComing (s : State) (x : Fin 4) : Rat :=
  let a := s.aux[x]
  let v := if a.state.watched then a.n1 else 0
  let lim := rampTo v 0 (s.regs.AUXn_ACC x) (s.regs.AUXn_STOP_DEC x) s.periodS
  if a.barred (decide (0 < a.nNext)) ∧ a.nNext ≠ 0 ∧ absR lim < absR a.nNext then lim else a.nNext

/-- The commanded speed goes to `n1` in the tick that begins. -/
def State.auxRamp (s : State) (x : Fin 4) (n1 : Rat) : State :=
  s.modAux x (fun a =>
    let moves := a.n1 != 0 || n1 != 0
    { a with
      n0 := a.n1, n1 := n1, still := a.still && !moves, fallAt := if moves then none else a.fallAt
      zeroAt := if moves || !a.energised then none else some (a.zeroAt.getD s.tb) })

/-- A boundary for an auxiliary axis: the planned speed comes into force, unless its tick was withheld, and the command its
tick has read takes effect; a start without a check moves at once (R304). -/
def State.auxBoundary (s : State) (x : Fin 4) : State :=
  let a := s.aux[x]
  if s.tick.withheld then s.auxRamp x a.n1
  else
    let n := s.auxComing x
    if a.state.watched then ((s.auxRamp x n).modAux x (fun a => { a with nNext := n })).auxTake x
    else
      let s := (s.auxRamp x 0).auxTake x
      let b := s.aux[x]
      if b.state.watched && b.check.isNone && (b.home == .none || b.home == .approach) then
        (s.auxRamp x n).modAux x (fun a => { a with nNext := n })
      else s

/-! ## HOLD entry (R314) -/

/-- The newest valid position entry of an axis: P, its flags. -/
def State.auxEntry (s : State) (x : Fin 4) : Option (Int × Nat) :=
  let at' (o : Nat) := s.ksEntry (0x9000 + 0x100 * x.val + o) 32 32
  let pick (d : List Byte) : Int × Nat := ((w32 (leAt d 12 4)).toInt, byteAt d 28)
  match at' 0, at' 0x80 with
  | none, none => none
  | some d, none | none, some d => some (pick d)
  | some d, some e =>
    let key (b : List Byte) : Nat := leAt b 8 4 * 2 ^ 64 + leAt b 16 8
    some (pick (if key d < key e then e else d))

/-- The position is restored at HOLD entry, or is lost (R314). -/
def State.auxRestore (s : State) (x : Fin 4) : State :=
  if !(s.auxAlloc x && s.regs.AUXn_CFG_KEEP x) then s
  else
    match s.auxEntry x with
    | none => s.event s.tb (Unit.aux x) 0x0C07 2 0
    | some (p, f) =>
      if f % 2 = 1 ∧ f / 2 % 2 = 1 then
        let s := s.modAux x (fun a => { a with
          valid := true, homed := f / 4 % 2 == 1, eng := { a.eng with pos := (p : Rat) } })
        s.event s.tb (Unit.aux x) 0x0C07 1 (twos 4 p)
      else s.event s.tb (Unit.aux x) 0x0C07 3 0

end Sys2Proof.Machine
end

