-- ==== Sys2Proof/Machine/Sentinel.lean ====
section
/-! DEFINITION. Updates of the axes and the latency sentinel (chapter 02): sample instants, the engine's updates, posted edge
sets, misses and the LATE reactions, the carrier, and the clear commands of the sentinel and the outer tick. -/
namespace Sys2Proof.Machine

/-! ## Sample instants and updates (R51, R205, R206) -/

/-- The carrier period in force of an axis, ns; 0 before HOLD entry. -/
def State.perNs (s : State) (a : Fin 10) : Nat := if s.snt[a].freq = 0 then 0 else periodNs s.snt[a].freq

/-- A valley of the carrier of an axis. -/
def State.valley10 (s : State) (a : Fin 10) : Nat :=
  match mainOf a with | some n => s.ax[n].valley | none => s.aux[auxOf a].valley

/-- The extreme of the carrier of an axis in the tick that begins at TB_NOW: its number and its instant. -/
def State.extreme (s : State) (a : Fin 10) : Option (Nat × Nat) := extremeIn (s.valley10 a) s.snt[a].freq s.tb

/-- Does a carrier valley of the axis lie in the tick that begins at TB_NOW? -/
def State.atValley (s : State) (a : Fin 10) : Bool := match s.extreme a with | some (k, _) => k % 2 == 0 | none => false

/-- The update interval of an axis, ns. -/
def State.intervalNs (s : State) (a : Fin 10) : Nat :=
  match mainOf a with | some n => s.tuNs n | none => s.perNs a

/-- What is in force at the sample instant of an update of a main axis is kept with it (R30, R32, R210). -/
def State.sampled (s : State) (n : Fin 6) (u : Upd) : Upd :=
  { u with
    regs := s.regs, refT := s.ax[n].refT, refId := s.ax[n].refId, refN := s.ax[n].refN, fold := s.cmd.ax[n].fold, limp := s.sns.ax[n].limp }

/-- `SAMPLE_INSTANT`: at a carrier extreme the inputs of an update of a main axis are taken; at a valley refresh insertion counts
(R144, R197, R199, R206). While the axis has no update its position is still captured (R197, R272); an
interface that is bound to no axis has no transfer (DEDUCED, log 154). -/
def State.sampleInstant (s : State) (n : Fin 6) (hsUv : BitVec 3) : State :=
  let a := axis10 n
  let twice := s.regs.AXn_FOC_CFG_UPD n
  match s.extreme a with
  | none => s
  | some (k, at') =>
    let valley := k % 2 == 0
    if !(s.running && s.axAlloc n && (valley || twice) && s.snt[a].upds.all (fun u => decide (u.sample < s.tb))) then s
    else
      let s := if valley then s.countRefresh a (hsUv.setWidth 4) else s
      let e := s.encOf n
      let bound := s.regs.SNS_AXn_ENC_EN n
      let s := if bound then s.encCapture e else s
      let p := if bound then s.encAt e else (0, 0)
      let s := if bound then s.encTransfer e else s
      if !s.ax[n].state.watched then s.encCoast n
      else s.modSnt a (fun q => { q with
        upds := q.upds ++ [s.sampled n {
          half := 1 / s.snt[a].freq / 2
          sample := at', edge := edgeAfter s.ax[n].valley s.snt[a].freq twice k, started := false, posted := none, pos := p.1, spd := p.2 }] })

/-- At a boundary an update sampled at it takes the references, limits and register words that come into force there, whichever of the
two commands came first (R30, R32). -/
def State.resample (s : State) (n : Fin 6) : State :=
  s.modSnt (axis10 n) (fun q => { q with
    upds := q.upds.map (fun u => if s.tb ≤ u.sample ∧ u.started = false then s.sampled n u else u) })

def execSampleInstant (dt : Nat) (n : Fin 6) (hsUv : BitVec 3) (s : State) : Host.Outcome State Fault Refusal :=
  done ((s.advance dt).sampleInstant n hsUv)

/-- `CURRENT_LOOP_UPDATE`: the free engine starts the earliest update whose inputs are available and whose edge-update instant has
not passed (R51), with the parameters, references and limits of its sample instant. `y`: the normalised filter outputs of phases
U, V, W. -/
def State.loopUpdate (s : State) (n : Fin 6) (yU yV yW : Rat) : State :=
  let q := s.snt[axis10 n]
  let ready (u : Upd) : Bool := !u.started && decide (u.sample + (s.asOf n u).filterNs n ≤ s.tb) && decide (s.tb ≤ u.edge)
  match q.upds.find? ready with
  | none => s
  | some u =>
    if q.busy || !s.running then s
    else
      let y : Vector Rat 3 := #v[yU, yV, yW]
      let r := (s.asOf n u).engineUpdate n u y
      let s := (List.finRange 3).foldl (fun s p =>
        match s.sdiOf n p with
        | some c => s.modSdi c (fun d => { d with
            val := s.sdiAmps c y[p]
            runEnd := if d.runEnd.isNone && decide (d.stuckAt < u.sample) && decide (y[p] ≠ levelValue d.stuckLevel) then some u.sample
              else d.runEnd })
        | none => s) s
      ((s.modAx n (fun x => { x with result := some r, run := some { upd := u, y := y, eng := x.eng, sns := s.sns.ax[n] } })).modSnt (axis10 n) (fun q => { q with
        upds := modFirst ready (fun u => { u with started := true }) q.upds })).onFreeIx (· + 5)

def execCurrentLoopUpdate (dt : Nat) (n : Fin 6) (yU yV yW : Rat) (s : State) : Host.Outcome State Fault Refusal :=
  done ((s.advance dt).loopUpdate n yU yV yW)

/-! ## Sample blocks (R522) -/

/-- A sample block is emitted. -/
def State.blockEmit (s : State) (n : Fin 6) : State :=
  match s.blk[n] with
  | none => s
  | some b =>
    (s.onBlk (fun v => v.set n none)).emit b.first (Unit.ax n) 1 0
      (leBytes 8 b.first ++ leBytes 4 b.interval ++ leBytes 4 b.count ++ b.bytes)

/-- One sample: i_d, i_q, v_d, v_q, speed, V_dc, the angle and T*. -/
def State.sampleBytes (s : State) (n : Fin 6) : List Byte :=
  let e := s.ax[n].eng
  wordsBytes [toF32 e.iD, toF32 e.iQ, toF32 e.vD, toF32 e.vQ, toF32 e.speed, toF32 s.sns.ain[s.vdcAin n].val, e.angle,
    toF32 s.ax[n].refT]

/-- An update posted in time may give a sample. -/
def State.takeSample (s : State) (n : Fin 6) (sample : Nat) : State :=
  if !Nat.testBit s.regs.DEV_SMP_CFG_AX n.val then s
  else
    let k := s.smpCnt[n] + 1
    if k < s.regs.DEV_SMP_CFG_DECIM then s.onSmpCnt (fun v => v.set n k)
    else
      let b := s.blk[n].getD { first := sample, interval := s.regs.DEV_SMP_CFG_DECIM * s.tuNs n, count := 0, bytes := [] }
      let b := { b with count := b.count + 1, bytes := b.bytes ++ s.sampleBytes n }
      let s := (s.onSmpCnt (fun v => v.set n 0)).onBlk (fun v => v.set n (some b))
      if s.regs.DEV_SMP_CFG_COUNT ≤ b.count then s.blockEmit n else s

/-! ## Posting (R49, R50) -/

/-- The result of a main axis's update is posted: its state is committed and its set waits for the edge-update instant. -/
def State.commitMain (s : State) (n : Fin 6) (r : EngResult) : State :=
  let s := s.modSns n (fun q => q.commit r.sns)
  let s := s.modAx n (fun x =>
    let mag := hyp r.eng.iD r.eng.iQ
    { x with
      eng := r.eng, posted := some r.set, result := none, updAt := r.sample
      ascSt := if x.state = .asc then
          { x.ascSt with
            peak := if s.noCurrent n then none else x.ascSt.peak.map (max mag)
            below := if absR r.eng.speed < 4 / 5 * s.nAsc n then some (x.ascSt.below.getD r.sample) else none }
        else x.ascSt
      cat := { x.cat with
        slow := x.cat.slow
          && decide (absR (r.eng.w * 60 / (2 * Config.pi * (s.regs.AXn_FOC_CFG_POLES n : Rat))) < s.regs.AXn_OBS_NMIN n) }
      still := if x.state = .stop ∧ absR r.eng.speed < s.regs.AXn_SPD_STILL n then some (x.still.getD r.sample) else none
      sumSq := x.sumSq + (if x.bridge = .off then 0 else r.isq), sumTq := x.sumTq + r.torque, sumN := x.sumN + 1 })
  let s := match r.handover with
    | some (d, ang) =>
      let s := s.event r.sample (Unit.ax n) 0x0806 d (ang.toNat / 65536)
      if d = 1 then
        s.modCmd n (fun c => { c with
          r := r.eng.speed, nf := r.eng.speed, a := 0
          int := 3 / 2 * (s.regs.AXn_FOC_CFG_POLES n : Rat) * s.regs.AXn_MOT_PSI n * r.eng.iQ })
      else s
    | none => s
  let s := if r.zcAsc then
      if s.ax[n].cat.blind then
        (s.event s.tb (Unit.ax n) 0x0809 0 (nsOf (s.regs.AXn_ASC_BLIND_T n) / 1000000)).axHaltOff n 0x0809
      else s.ascEnter n 3 (s.ascSide n) false s.tb none
    else s
  s.takeSample n r.sample

/-- `EDGE_SET_POSTED`: the engine posts the edge set of the update it works on; the sentinel takes its slack (R49, R50, R52,
R55), and Bronze takes the speed of the update (R336); in FREEZE the engine stands still (R191, R500). A SLACK window runs from the edge-update instant of its first SLACK update (DESIGN CHOICE, log 107). -/
def State.edgePosted (s : State) (a : Fin 10) : State :=
  let working (u : Upd) : Bool := u.started && u.posted.isNone && decide (s.tb ≤ u.edge)
  match (if s.running then s.snt[a].upds.find? working else none) with
  | none => s
  | some u =>
    let tu := s.intervalNs a
    let slack : Int := (u.edge : Int) - (s.tb : Int)
    let low := decide ((u.edge - s.tb) * 5 < tu)
    let full := match mainOf a with
      | some n => nsOf (1 / s.regs.AXn_PWM_F n / (if s.regs.AXn_FOC_CFG_UPD n then 2 else 1))
      | none => tu
    let used := s.tb - u.sample
    let clean := decide (used * 5 ≤ full * 3)
    let s := s.modSnt a (fun q => { q with
      upds := modFirst working (fun u => { u with posted := some s.tb }) q.upds
      slack := low, hold := false, consec := 0, last := slack
      least := some (match q.least with | some m => min m slack | none => slack)
      slackCnt := if low then satInc 16 q.slackCnt else q.slackCnt
      window := if !low then q.window
        else match q.window with
          | some (t, k, m) => some (t, k + 1, min m slack)
          | none => some (u.edge, 1, slack)
      clearSince := if clean then some (q.clearSince.getD s.tb) else none
      clearMax := if !clean then 0 else if q.clearSince.isNone then used else max q.clearMax used })
    match mainOf a with
    | some n => match s.ax[n].result with | some r => (s.commitMain n r).ss1Bronze n r.sample | none => s
    | none => (s.modAux (auxOf a) (fun x => match x.result with
        | some (_, e) => { x with eng := e, result := none, posted := some e.duties }
        | none => x)).auxBegin (auxOf a)

def execEdgeSetPosted (dt : Nat) (a : Fin 10) (s : State) : Host.Outcome State Fault Refusal :=
  done ((s.advance dt).edgePosted a)

/-! ## Edge-update instants (R50, R52) -/

/-- Modulation resumes after a coast: the REACQUIRED record (R236). -/
def State.coastEnd (s : State) (n : Fin 6) (edge : Nat) : State :=
  let x := s.ax[n]
  match x.state, x.posted, x.cat.takeOver, x.cat.coast with
  | .catching, some _, true, some t => s.event edge (Unit.ax n) 0x0802 2 ((edge - t) / 1000)
  | _, _, _, _ => s

/-- The windows of a half that is repeated in the other half of the carrier period: its edges `t` fall in the other order, so what the
second window saw is now seen in the first, and each is held `wait` after its window opens (R50, R178; DEDUCED, log 118). -/
def mirrorWindows (half wait : Rat) (edges : List (Vector Rat 3)) : List Window → List Window
  | [w1, w2] =>
    match edges with
    | [t] =>
      let last := max t[0] (max t[1] t[2])
      let first := min t[0] (min t[1] t[2])
      let mid := t[0] + t[1] + t[2] - first - last
      [w2.map (fun w => (half - last + wait, w.2)), w1.map (fun w => (half - mid + wait, w.2))]
    | _ => [w1, w2]
  | l => l

/-- A set as the carrier in force from `edge` on places it, and the correction left after it: a set planned for another frequency is
planned afresh from its duties (R205), and one that is repeated in the other half of the carrier period (R50) is mirrored there, so
that the on-time of each leg stays (DEDUCED, log 118). -/
def State.fitSet (s : State) (n : Fin 6) (edge : Nat) (e : EdgeSet) : EdgeSet × Vector Rat 3 :=
  let c := s.carrierAt n edge
  let f := c.freqOf (axis10 n)
  let up := risingAt c.ax[n].valley f edge
  let left := s.ax[n].eng.carry
  if e.bridge ≠ .modulate then (e, left)
  else if e.freq ≠ f then
    let p := (c.modEng n (fun g => { g with carry := e.carry })).planSet n edge (e.duty.map (c.shapeDuty n)) e.vA e.vB
    (p.1, p.2.1)
  else if e.rising = up then (e, left)
  else ({ e with
    rising := up, edges := e.edges.map (·.map (fun t => 1 / f / 2 - t))
    windows := mirrorWindows (1 / f / 2) ((if up then e.rise else e.fall) + s.regs.SNS_DCSn_TSET n) e.edges e.windows }, left)

/-- A set as an axis takes it into force at `edge`: under refresh insertion every on-time is cut to the cap, from the first refreshed
period on (R143). -/
def State.capSet (s : State) (n : Fin 6) (edge : Nat) (e : EdgeSet) : EdgeSet :=
  let g := s.gd.ax[axis10 n]
  if g.refresh && decide (g.refreshAt ≤ edge) then
    { e with duty := e.duty.map (min (dMax e.freq)), edges := capEdges (dMax e.freq) (1 / e.freq / 2) e.rising e.edges }
  else e

/-- A set comes into force at `edge`: the commands of the legs go on from those of the set before it, or begin on a bridge that was off
(R135). -/
def State.putSet (s : State) (n : Fin 6) (edge : Nat) (e : EdgeSet) : State :=
  let on := s.ax[n].bridge == .modulate
  let old := s.ax[n].set
  let was : Vector (Bool × Rat) 3 := Vector.ofFn (fun k => s.legAt n k edge)
  let p := s.fitSet n edge e
  let s := s.modAx n (fun x => { x with set := s.capSet n edge p.1, setAt := edge, eng := { x.eng with carry := p.2 } })
  let was := if on then was else s.legsBegin n edge
  let low := if on then maskOf 3 (fun k => lowLegs (1 / old.freq / 2) old.rising old.edges (Fin.ofNat 3 k)) else 0
  (s.modAx n (fun x => { x with was := was })).modGd (axis10 n) (fun g => { g with lowRan := g.lowRan ||| BitVec.ofNat 4 low })

/-- The set posted for an edge-update instant comes into force; an axis that waits to take over enters RUN or STOP (R119,
R223, R233). -/
def State.takeSet (s : State) (n : Fin 6) (edge : Nat) : State :=
  match s.ax[n].posted with
  | none => s
  | some e =>
    let s := s.coastEnd n edge
    let old := s.ax[n].set
    (s.putSet n edge e).modAx n (fun x =>
      let sw := e.bridge == .modulate
      let x : AxSt := { x with
        posted := none, lastVA := old.vA, lastVB := old.vB
        bridge := if x.state = .asc then (if e.bridge = .ascWait ∧ x.bridge = .modulate then .ascWait else x.bridge)
          else if sw then .modulate else x.bridge }
      if x.state = .catching ∧ x.cat.takeOver then
        match s.stopInMode x.cat.stop with
        | some k => { x with
            state := .stop, stopKind := k, still := none, cat := {}
            stopAt := if x.cat.coast.isSome ∨ x.cat.blind then x.stopAt else edge }
        | none => { x with state := .run, cat := {} }
      else x)

/-- The reaction that the second consecutive miss selects: 1 halved PWM, 2 ramp stop (R52, R53). -/
def State.lateSelect (s : State) (a : Fin 10) : Nat :=
  match mainOf a with
  | some n =>
    if s.regs.AXn_SNT_CFG n || s.snt[a].halved || decide (s.snt[a].freq / 2 < 1000) then 2 else 1
  | none => 2

/-- An update misses its edge-update instant (R50 to R52). Its samples are dropped with it (R51), what its shifts left to correct is
carried no further (R181), and a declaration that belongs to it is discarded (R191). -/
def State.missed (s : State) (a : Fin 10) (u : Upd) : State :=
  let k := s.snt[a].consec + 1
  let asc := match mainOf a with | some n => s.ax[n].state == AxState.asc | none => false
  let s := s.modSnt a (fun q => { q with
    upds := q.upds.drop 1, consec := k, lateCnt := satInc 16 q.lateCnt, hold := true, slack := false
    late := if u.started then q.late ++ [(u.edge, k)] else q.late
    react := if k = 2 ∧ !asc ∧ q.react = 0 then s.lateSelect a else q.react, clearSince := none, clearMax := 0 })
  let s := match mainOf a with
    | some n =>
      let old := s.ax[n].set
      (((s.putSet n u.edge old).modAx n (fun x => { x with
          lastVA := old.vA, lastVB := old.vB, sumMiss := x.sumMiss + 1
          result := if u.started then none else x.result, eng := { x.eng with carry := Vector.replicate 3 0 } })).modSns n (fun q => { q.discard u.sample with
        samples := q.samples.filter (fun m => decide (u.sample < m.heldAt)), rejectAt := q.rejectAt.filter (fun t => decide (u.sample < t)) })).blockEmit n
    | none => (s.auxPut (auxOf a) u.edge s.aux[auxOf a].duty s.aux[auxOf a].dead).modAux (auxOf a) (fun x => { x with
        result := if u.started then none else x.result })
  if u.started then s else s.event u.edge (Unit.axis a) 0x0102 (min k 65535) 0xFFFFFFFF

/-- `EDGE_UPDATE_INSTANT`: the edge placement unit takes the posted set, or repeats the one before (R50); in FREEZE it stands still (R500). -/
def State.edgeUpdate (s : State) (a : Fin 10) : State :=
  match (if s.running then s.snt[a].upds else []) with
  | [] => s
  | u :: _ =>
    if s.tb + 2 ≤ u.edge then s
    else if u.posted.isSome then
      let s := s.modSnt a (fun q => { q with upds := q.upds.drop 1 })
      match mainOf a with
      | some n => s.takeSet n u.edge
      | none => match s.aux[auxOf a].posted with
        | some d => (s.auxPut (auxOf a) u.edge d s.aux[auxOf a].eng.dead).modAux (auxOf a) (fun x => { x with posted := none })
        | none => s
    else s.missed a u

def execEdgeUpdateInstant (dt : Nat) (a : Fin 10) (s : State) : Host.Outcome State Fault Refusal :=
  done ((s.advance dt).edgeUpdate a)

/-- `LATE_RESULT_DISCARDED`: a late result completes and is dropped; its LATE record gives the overrun (R50). The free engine of an
auxiliary axis starts the update that waits (R51); that of a main axis starts one by `CURRENT_LOOP_UPDATE`. -/
def State.lateDiscarded (s : State) (a : Fin 10) : State :=
  match s.snt[a].late with
  | [] => s
  | (edge, k) :: t =>
    let s := (s.modSnt a (fun q => { q with late := t, last := (edge : Int) - (s.tb : Int) })).event edge (Unit.axis a) 0x0102
      (min k 65535) (s.tb - edge)
    match mainOf a with
    | some _ => s
    | none => s.auxBegin (auxOf a)

def execLateResultDiscarded (dt : Nat) (a : Fin 10) (s : State) : Host.Outcome State Fault Refusal :=
  let s := s.advance dt
  done (if s.running then s.lateDiscarded a else s)

/-- `LATE_REACT`: the selected reaction takes effect: the halved frequency is ordered at an outer-tick boundary, or the ramp stop
begins (R52). Where a COMMIT since has left a frequency whose half is below 1 kHz, the ramp stop takes its place (R53). An axis that
has entered ASC since keeps its pattern, and the reaction is void (R56; DEDUCED, log 144). The record gives the new frequency rounded
down to 1 Hz (DESIGN CHOICE, log 108). -/
def State.lateReact (s : State) (a : Fin 10) : State :=
  let asc := match mainOf a with | some n => s.ax[n].state == AxState.asc | none => false
  if asc then s.modSnt a (fun q => { q with react := 0 }) else
  match mainOf a, s.snt[a].react with
  | some n, 1 =>
    if s.tb % s.period = 0 then
      let f := s.regs.AXn_PWM_F n / 2
      if f < 1000 then
        ((s.modSnt a (fun q => { q with react := 0 })).axStop n (.fault 0x0102 true)).event s.tb (Unit.ax n) 0x0103 2 0
      else (s.modSnt a (fun q => { q with
        react := 0, halved := true, clearOk := false, clearSince := none, clearMax := 0, freqNext := some f })).event s.tb
          (Unit.ax n) 0x0103 1 f.floor.toNat
    else s
  | some n, 2 =>
    ((s.modSnt a (fun q => { q with react := 0 })).axStop n (.fault 0x0102 true)).event s.tb (Unit.ax n) 0x0103 2 0
  | none, 2 =>
    ((s.modSnt a (fun q => { q with react := 0 })).auxStop (auxOf a) (.fault 0x0102 true)).event s.tb (Unit.axis a) 0x0103 2 0
  | _, _ => s

def execLateReact (dt : Nat) (a : Fin 10) (s : State) : Host.Outcome State Fault Refusal :=
  let s := s.advance dt
  done (if s.running then s.lateReact a else s)

/-- `LATE_BRIDGE_OFF`: the eighth consecutive miss turns the bridge off softly (R54); an axis in ASC holds it (R56). -/
def State.lateBridgeOff (s : State) (a : Fin 10) : State :=
  let asc := match mainOf a with | some n => s.ax[n].state == AxState.asc | none => false
  if 8 ≤ s.snt[a].consec ∧ s.moving10 a ∧ !asc then
    ((s.softOff a).halt10 a 0x0102).event s.tb (Unit.axis a) 0x0103 3 0
  else s

def execLateBridgeOff (dt : Nat) (a : Fin 10) (s : State) : Host.Outcome State Fault Refusal :=
  let s := s.advance dt
  done (if s.running then s.lateBridgeOff a else s)

/-- `SLACK_WINDOW_CLOSE`: 100 ms after its first SLACK update a window closes with its record (R49). -/
def State.slackClose (s : State) (a : Fin 10) : State :=
  match s.snt[a].window with
  | some (t, k, m) =>
    if t + 100000000 ≤ s.tb then
      (s.modSnt a (fun q => { q with window := none })).event t (Unit.axis a) 0x0101 (min k 65535) (twos 4 m)
    else s
  | none => s

def execSlackWindowClose (dt : Nat) (a : Fin 10) (s : State) : Host.Outcome State Fault Refusal :=
  let s := s.advance dt
  done (if s.running then s.slackClose a else s)

/-- `LATE_CLEAR`: a halved axis has met the clearance conditions for 1 s (R55). -/
def State.lateClear (s : State) (n : Fin 6) : State :=
  let q := s.snt[axis10 n]
  match q.clearSince with
  | some t =>
    if q.halved ∧ !q.clearOk ∧ t + 1000000000 ≤ s.tb then
      (s.modSnt (axis10 n) (fun q => { q with clearOk := true })).event s.tb (Unit.ax n) 0x0104 0 q.clearMax
    else s
  | none => s

def execLateClear (dt : Nat) (n : Fin 6) (s : State) : Host.Outcome State Fault Refusal :=
  let s := s.advance dt
  done (if s.running then s.lateClear n else s)

/-- The committed PWM frequency of an axis. -/
def State.pwmF (s : State) (a : Fin 10) : Rat :=
  match mainOf a with | some n => s.regs.AXn_PWM_F n | none => s.regs.AUXn_PWM_F (auxOf a)

/-- `PWM_FREQUENCY_CHANGE`: a new frequency comes into force at a valley of the old carrier, the first of the new one (R205). -/
def State.pwmChange (s : State) (a : Fin 10) : State :=
  match s.snt[a].freqNext with
  | some f =>
    if s.atValley a then
      let back := f == s.pwmF a
      let v := match s.extreme a with | some (_, t) => t | none => s.tb
      let s := s.modSnt a (fun q => { q with
        freq := f, freqNext := none, halved := q.halved && !back, clearOk := q.clearOk && !back, clearSince := none
        clearMax := 0 })
      match mainOf a with
      | some n => s.modAx n (fun x => { x with valley := v })
      | none => s.modAux (auxOf a) (fun x => { x with valley := v })
    else s
  | none => s

def execPwmFrequencyChange (dt : Nat) (a : Fin 10) (s : State) : Host.Outcome State Fault Refusal :=
  let s := s.advance dt
  done (if s.running then s.pwmChange a else s)

/-- A boundary for the frequency of a halved axis: with clearance met and the device not in LIMP the original frequency returns, also
one committed at this boundary (R55). -/
def State.freqBoundary (s : State) (a : Fin 10) : State :=
  let q := s.snt[a]
  if q.halved ∧ q.clearOk ∧ s.mode.mode ≠ .limp then
    s.modSnt a (fun q => { q with freqNext := some (s.pwmF a) })
  else s

/-- An applied set changes the frequency of an axis: halved where it runs halved (R55, R205). -/
def State.freqCommit (s : State) (a : Fin 10) : State :=
  let q := s.snt[a]
  let f := if q.halved then s.pwmF a / 2 else s.pwmF a
  if f = q.freq ∧ q.freqNext = none then s else s.modSnt a (fun q => { q with freqNext := some f })

/-! ## Clear commands (R49, R57) -/

/-- A write of the SNT_CLR word of an axis. -/
def doSntClr (a : Fin 10) (c : Ctx) (s : State) (w : Word) : Res :=
  needRights true c s fun s =>
    if !s.alloc10 a then nak s St.state
    else ack (if bit w 0 then s.modSnt a (fun q => { q with least := none, slackCnt := 0, lateCnt := 0 }) else s)

/-- The address of the SNT_CLR word of an axis. -/
def sntClrAddr (a : Fin 10) : Nat :=
  match mainOf a with | some n => Reg.AXn_SNT_CLR n | none => Reg.AUXn_SNT_CLR (auxOf a)

/-- `SNT_CLR`. -/
def execSntClr (dt : Nat) (o : Origin) (a : Fin 10) (w : Word) (s : State) : Host.Outcome State Fault Refusal :=
  done ((s.advance dt).entry o 2 (some (sntClrAddr a)) (fun c s => doSntClr a c s w) (ws := [w]))

/-- A write of `DEV_TICK_CLR`. -/
def doTickClr (c : Ctx) (s : State) (w : Word) : Res :=
  needRights true c s fun s => ack (if bit w 0 then s.onTick (fun t => { t with max := 0, ovrCnt := 0 }) else s)

/-- `TICK_CLR`. -/
def execTickClr (dt : Nat) (o : Origin) (w : Word) (s : State) : Host.Outcome State Fault Refusal :=
  done ((s.advance dt).entry o 2 (some Reg.DEV_TICK_CLR) (fun c s => doTickClr c s w) (ws := [w]))

end Sys2Proof.Machine
end

