-- ==== Sys2Proof/Machine/Field.lean ====
section
/-! DEFINITION. CATCH, I-f, loss of synchronism and active short circuit of the main axes (chapter 08): what the end of a
measurement, of a phase or of a hold brings about. -/
namespace Sys2Proof.Machine

/-! ## CATCH (R222 to R225) -/

/-- The method of a CATCH: 1 encoder, 2 terminal voltages, 3 zero-current control (R222). -/
def State.catchMethod (s : State) (n : Fin 6) : Nat :=
  if s.encUsable n then 1 else if s.regs.SNS_AXn_VIN_VT_EN n then 2 else 3

/-- The direction of the command in force: the sign of the speed reference, or of the torque or tension reference (R223). -/
def State.dirCmd (s : State) (n : Fin 6) : Rat :=
  let c := s.cmd.ax[n]
  match c.mode with
  | 0 => 0
  | 1 => signR (c.set + c.nff)
  | _ => signR c.set

/-- The speed below which a rotor counts as standing (R223): the larger of NMIN and the speed at which the back-EMF amplitude is
VMIN. -/
def State.nStand (s : State) (n : Fin 6) : Rat :=
  max (s.regs.AXn_OBS_NMIN n) (s.regs.AXn_CATCH_VMIN n * 60
    / (2 * Config.pi * (s.regs.AXn_FOC_CFG_POLES n : Rat) * s.regs.AXn_MOT_PSI n))

/-- The steady voltage of the motor model at an electrical speed and currents (R204). -/
def State.modelVoltage (s : State) (n : Fin 6) (we iD iQ : Rat) : Rat × Rat :=
  let r := s.regs
  (r.AXn_MOT_RS n * iD - we * r.AXn_MOT_LQ n * iQ, r.AXn_MOT_RS n * iQ + we * (r.AXn_MOT_LD n * iD + r.AXn_MOT_PSI n))

/-- The integrators preset to the model voltage of currents: the voltage less the decoupling terms that the loop of R208 adds to its
integrators, so that the voltage it applies for these currents is the model's and does not step (R223, R228; DEDUCED, log 117). -/
def State.presetInt (s : State) (n : Fin 6) (we iD iQ : Rat) : Rat × Rat :=
  let r := s.regs
  let v := s.modelVoltage n we iD iQ
  (v.1 - (-we * r.AXn_MOT_LQ n * iQ), v.2 - we * (r.AXn_MOT_LD n * iD + r.AXn_MOT_PSI n))

/-- The end of a phase changes the state of an engine, and that which the update under way is to commit with it (R50). -/
def State.modEngAll (s : State) (n : Fin 6) (f : Eng → Eng) : State :=
  s.modAx n (fun x => { x with
    eng := f x.eng, result := x.result.map (fun r => { r with eng := f r.eng }), run := x.run.map (fun w => { w with eng := f w.eng }) })

/-- The measurement on the terminal voltages after a conversion at `t`: amplitude, and angle in turns (R222). -/
def VtMeas.next (m : VtMeas) (vmin amp turns : Rat) (t : Nat) : VtMeas :=
  let first := some (m.first.getD t)
  if amp < vmin then { first := first, lo := some (m.lo.getD t) }
  else
    let a := match m.pts with | p :: _ => p.2 + wrapTurns (turns - p.2) | [] => turns
    { first := first, hi := some (m.hi.getD t), pts := (t, a) :: m.pts.filter (fun p => decide (t ≤ p.1 + 5000000)) }

/-- The electrical speed, turns/s, at which the back-EMF vector has advanced consistently: every angle of the last 5 ms lies within 20°
of the line through the first and the last (R222; the line is a DESIGN CHOICE, log 128). -/
def VtMeas.line (m : VtMeas) : Option Rat :=
  match m.pts, m.pts.getLast? with
  | p :: _, some q =>
    let k := (p.2 - q.2) / secOf (p.1 - q.1)
    if q.1 < p.1 ∧ m.pts.all (fun x => decide (absR (x.2 - q.2 - k * secOf (x.1 - q.1)) < 1 / 18)) then some k else none
  | _, _ => none

/-- The terminal voltages have shown a back-EMF of VMIN or more for 5 ms since `t0` whose angle advances consistently (R222). -/
def State.vtSettled (s : State) (n : Fin 6) (t0 : Nat) : Bool :=
  let m := s.ax[n].vt
  (match m.hi with | some t => decide (max t t0 + 5000000 ≤ s.tb) | none => false) && m.line.isSome

/-- The amplitude has stayed below VMIN for the 20 ms of the CATCH (R222): from its entry on, or from the first conversion of a bridge that
went off with it. -/
def State.vtStill (s : State) (n : Fin 6) : Bool :=
  let x := s.ax[n]
  match x.vt.lo with
  | some t => (decide (t ≤ x.cat.since) || x.vt.first == some t) && decide (x.cat.since + 20000000 ≤ s.tb)
  | none => false

/-- A speed, rpm, and an angle of the rotor now agree with every angle of the last 5 ms within 20°: the back-EMF leads the d-axis by a
quarter turn in the sense of the speed (R204, R222). -/
def State.vtFits (s : State) (n : Fin 6) (speed : Rat) (angle : Word) : Bool :=
  let w := speed * (s.regs.AXn_FOC_CFG_POLES n : Rat) / 60
  s.ax[n].vt.pts.all (fun p => decide (absR (wrapTurns (p.2 - (turnsOf angle + signR speed / 4 - w * secOf (s.tb - p.1)))) < 1 / 18))

/-- A CATCH has its result: the decision of R223, its record, and what follows (R220, R223, R225). -/
def State.catchResult (s : State) (n : Fin 6) (method : Nat) (speed : Rat) (angle : Word) : State :=
  let x := s.ax[n]
  let dir := s.dirCmd n
  let dec := if absR speed < s.nStand n then 0 else if dir = 0 ∨ dir = signR speed then 1 else 2
  let s := s.event s.tb (Unit.ax n) 0x0804 (method + dec * 16) (rpm10 speed)
  let n0 := if dec = 0 then 0 else speed
  let s := s.modCmd n (fun c => { c with
    r := n0, a := 0, nRef := n0, nf := n0, nfPrev := n0, int := 0, intF := 0, tStar := 0, reverse := dec == 2, preset := true
    tlHist := [], tdX1 := 0, tdX2 := 0, tdY1 := 0, tdY2 := 0 })
  let align := dec == 0 && !s.encUsable n && (s.stopInMode x.cat.stop).isNone
  let pre := s.presetInt n (s.elec n speed) 0 0
  (s.modAx n (fun x => { x with
    refT := 0, refId := 0, refN := n0
    cat := { x.cat with decided := true, method := method, takeOver := !align, retryAt := none } })).modEngAll n (fun e => { e with
      intD := pre.1, intQ := pre.2, idFw := 0, vPrev := 0, speed := n0
      wI := s.elec n speed, w := s.elec n speed, th := turnsOf angle
      obsOk := decide (3 / 2 * s.regs.AXn_OBS_NMIN n ≤ absR speed)
      ifPhase := if align then .align else .none, ifSpeed := 0, ifAngle := 0, ifAt := s.tb })

/-- The observer has settled: |ε| below its bound for 5 ms, or at 20 ms a PLL speed that has stayed below NMIN (R222). -/
def State.zeroSettled (s : State) (n : Fin 6) : Bool :=
  let x := s.ax[n]
  (match x.eng.settled with | some t => decide (t + 5000000 ≤ s.tb) | none => false)
    || (decide (x.cat.since + 20000000 ≤ s.tb) && x.cat.slow)

/-- A CATCH whose measurement runs. -/
def State.measuring (s : State) (n : Fin 6) : Bool :=
  let x := s.ax[n]
  x.state == .catching && !x.cat.decided && x.cat.retryAt.isNone

/-- `CATCH_DONE`: the measurement gives its result. `speed` and `angle`: what the terminal voltages show, taken once they fit the
conversions of the last 5 ms; the other methods take the encoder or the observer (R222, R223). -/
def State.catchDone (s : State) (n : Fin 6) (speed : Rat) (angle : Word) : State :=
  if !(s.running && s.measuring n && decide (s.tb ≤ s.ax[n].cat.since + 20000000)) then s
  else
    let x := s.ax[n]
    match s.catchMethod n with
    | 1 =>
      if s.snt[axis10 n].upds.any (fun u => decide (x.cat.since ≤ u.sample)) || decide (x.cat.since ≤ s.sns.ax[n].at') then
        let p := s.encAt (s.encOf n)
        s.catchResult n 1 p.2 (w32 (s.regs.AXn_FOC_CFG_POLES n) * p.1 + s.regs.AXn_ENC_OFFS n)
      else s
    | 2 =>
      if s.vtStill n then s.catchResult n 2 0 angle
      else if s.vtSettled n x.cat.since && s.vtFits n speed angle then s.catchResult n 2 speed angle
      else s
    | _ =>
      if s.zeroSettled n then
        s.catchResult n 3 (x.eng.w * 60 / (2 * Config.pi * (s.regs.AXn_FOC_CFG_POLES n : Rat))) (angleOf x.eng.th)
      else s

def execCatchDone (dt : Nat) (n : Fin 6) (speed : Rat) (angle : Word) (s : State) : Host.Outcome State Fault Refusal :=
  done ((s.advance dt).catchDone n speed angle)

/-- `CATCH_FAIL`: 20 ms after its entry a measurement has given no result: terminal voltages that neither settle nor stand still, or a PLL
that does not settle. The bridge goes off; a second failure halts (R224). -/
def State.catchFail (s : State) (n : Fin 6) : State :=
  let x := s.ax[n]
  let late := decide (x.cat.since + 20000000 ≤ s.tb)
  let method := s.catchMethod n
  if !(s.running && s.measuring n && late
      && ((method == 2 && !s.vtStill n && !s.vtSettled n x.cat.since) || (method == 3 && !s.zeroSettled n))) then s
  else
    let s := s.event (x.cat.since + 20000000) (Unit.ax n) 0x0805 (min x.cat.attempt 2) 0
    if 2 ≤ x.cat.attempt then s.axHaltOff n 0x0805
    else s.modAx n (fun x => { x with
      bridge := .off, set := {}, posted := none, result := none, run := none, cat := { x.cat with retryAt := some (x.cat.since + 20000000) } })

def execCatchFail (dt : Nat) (n : Fin 6) (s : State) : Host.Outcome State Fault Refusal :=
  done ((s.advance dt).catchFail n)

/-- `CATCH_RETRY`: CATCH repeats 100 ms after a first failure (R224). -/
def State.catchRetry (s : State) (n : Fin 6) : State :=
  let x := s.ax[n]
  match x.state, x.cat.retryAt with
  | .catching, some t =>
    if t + 100000000 ≤ s.tb then s.catchEnter n (x.cat.attempt + 1) x.cat.blind x.cat.coast x.cat.stop else s
  | _, _ => s

def execCatchRetry (dt : Nat) (n : Fin 6) (s : State) : Host.Outcome State Fault Refusal :=
  let s := s.advance dt
  done (if s.running then s.catchRetry n else s)

/-! ## I-f (R220) -/

/-- `IF_ALIGN_END`: the ramp of the frame starts. -/
def State.ifAlignEnd (s : State) (n : Fin 6) : State :=
  let e := s.ax[n].eng
  if e.ifPhase = .align ∧ e.ifAt + nsOf (s.regs.AXn_IF_ALIGN_T n) ≤ s.tb then
    s.modEngAll n (fun e => { e with ifPhase := .ramp, ifAt := s.tb })
  else s

def execIfAlignEnd (dt : Nat) (n : Fin 6) (s : State) : Host.Outcome State Fault Refusal :=
  let s := s.advance dt
  done (if s.running then s.ifAlignEnd n else s)

/-- `IF_BLEND_END`: the axis runs on the observer; from a start it enters RUN. -/
def State.ifBlendEnd (s : State) (n : Fin 6) : State :=
  let e := s.ax[n].eng
  if e.ifPhase = .blend ∧ e.ifAt + nsOf (s.regs.AXn_IF_BLEND n) ≤ s.tb then
    (s.modEngAll n (fun e => { e with ifPhase := .none, obsOk := true })).modAx n (fun x =>
      if x.state = .catching then { x with state := .run, cat := {} } else x)
  else s

def execIfBlendEnd (dt : Nat) (n : Fin 6) (s : State) : Host.Outcome State Fault Refusal :=
  let s := s.advance dt
  done (if s.running then s.ifBlendEnd n else s)

/-! ## Loss of synchronism (R232 to R235) -/

/-- The losses of the last 10 s. -/
def State.losCount (s : State) (n : Fin 6) : Nat := (s.ax[n].losAt.filter (fun t => decide (s.tb < t + 10000000000))).length

/-- The criteria that hold: c1, c2, c3. -/
def State.losBits (s : State) (n : Fin 6) : Nat :=
  let e := s.ax[n].eng
  let t := s.regs.AXn_LOS_T n
  b2n (decide (0 < e.t1) && decide (t ≤ e.t1)) + 2 * b2n (decide (0 < e.t2) && decide (t ≤ e.t2)) + 4 * b2n e.c3

/-- The decision speed: the larger of |n̂| now and LOS_T earlier. -/
def State.losSpeed (s : State) (n : Fin 6) : Rat :=
  let e := s.ax[n].eng
  let now := absR e.speed
  match e.speeds.find? (fun v => decide (v.1 + nsOf (s.regs.AXn_LOS_T n) ≤ s.sns.ax[n].at')) with
  | some v => max now (absR v.2)
  | none => now

/-- `LOS`: a loss of synchronism is declared on a posted update (R233, R234). -/
def State.los (s : State) (n : Fin 6) : State :=
  let x := s.ax[n]
  let bits := s.losBits n
  let live := x.state == .run || x.state == .stop || (x.state == .catching && x.cat.decided)
  if !(s.running && live && x.eng.angSrc == .observer && bits != 0) then s
  else
    let v := s.losSpeed n
    let asc := decide (s.nAsc n ≤ v)
    let at' := s.sns.ax[n].at'
    let s := s.event at' (Unit.ax n) 0x0801 (bits + (if asc then 1 else 2) * 256) (rpm10 v)
    let s := s.modAx n (fun x => { x with
      losAt := x.losAt.filter (fun t => decide (s.tb < t + 10000000000)) ++ [s.tb]
      eng := { x.eng with t1 := 0, t2 := 0, c3 := false, speeds := [] } })
    let third := decide (3 ≤ s.losCount n)
    let s := if third then s.event at' (Unit.ax n) 0x0803 (s.losCount n) (rpm10 v) else s
    if asc then
      let s := (s.ascEnter n 1 (s.ascSide n) false (edgeAfter x.valley (s.freqOf (axis10 n)) (s.regs.AXn_FOC_CFG_UPD n) (extremeBefore x.valley (s.freqOf (axis10 n)) (at' + 1))) none).modAx n (fun y => { y with
        bridge := x.bridge, posted := some { bridge := .ascWait } })
      if third then s.modAx n (fun y => { y with ascFault := true, haltReason := 0x0803 }) else s
    else if third then s.axFault n 0x0803 .los
    else s.catchEnter n 1 false (some s.tb) (if x.state = .stop then some x.stopKind else x.cat.stop)

def execLos (dt : Nat) (n : Fin 6) (s : State) : Host.Outcome State Fault Refusal := done ((s.advance dt).los n)

/-! ## The end of an ASC (R228 to R230) -/

/-- The peak of an ASC as its record and `AXn_ASC_IPK` show it. -/
def peakCode : Option Rat → Nat
  | some q => milli q
  | none => 0xFFFFFFFF

/-- An axis that resumes RUN in a mode that does not permit it enters STOP (R119, R122). -/
def State.runAllowed (s : State) (n : Fin 6) : State :=
  match s.mode.mode with
  | .brake => s.axStop n .brake
  | .safe => s.axStop n .ss1
  | _ => s

/-- May the axis leave its ASC by re-acquisition: cause 1 or 3, a switch set on, measured, not handled as cause 2? -/
def State.mayReacquire (s : State) (n : Fin 6) : Bool :=
  let x := s.ax[n]
  x.state == .asc && x.ascSt.cause != 2 && !x.ascFault && !x.blind && (x.bridge == .ascLow || x.bridge == .ascHigh)

/-- The interval of R157 after an ASC has run out: modulation resumes in the state the axis came from, with its record, at the model
voltage of the currents that the last update of the ASC measured (R228). -/
def State.ascResume (s : State) (n : Fin 6) : State :=
  let x := s.ax[n]
  let off := x.ascSt.offAt
  let s := s.event s.tb (Unit.ax n) 0x0802 1 ((off - x.ascSt.first.getD off) / 1000)
  let pre := s.presetInt n x.eng.w x.eng.iD x.eng.iQ
  let v := s.modelVoltage n x.eng.w x.eng.iD x.eng.iQ
  let f := s.freqOf (axis10 n)
  let s := s.putSet n (extremeAt x.valley f (extremeBefore x.valley f (s.tb + 1) / 2 * 2)) (s.voltSet n x.eng.th v.1 v.2)
  let s := s.modAx n (fun x => { x with
    bridge := .modulate, posted := none, result := none, run := none, ascSt := {}, lastVA := 0, lastVB := 0
    eng := { x.eng with intD := pre.1, intQ := pre.2, locked := none } })
  match x.ascSt.from' with
  | .catching =>
    (s.modAx n (fun y => { y with state := .catching, cat := { since := s.tb, stop := x.ascSt.stop } })).catchResult n 3
      (x.eng.w * 60 / (2 * Config.pi * (s.regs.AXn_FOC_CFG_POLES n : Rat))) (angleOf x.eng.th)
  | .stop => (s.modAx n (fun x => { x with state := .stop, still := none })).runAllowed n
  | _ => ((s.modAx n (fun x => { x with state := .run })).modCmd n (fun c => { c with
      tlHist := [], tdX1 := 0, tdX2 := 0, tdY1 := 0, tdY2 := 0 })).runAllowed n

/-- `REACQUIRED`: with the conditions held for LOCK_T every switch turns off, and the ASC has its record; after the interval of R157 the
command comes again, and modulation resumes (R157, R228; DESIGN CHOICE, log 122). -/
def State.reacquired (s : State) (n : Fin 6) : State :=
  let x := s.ax[n]
  let held := match x.eng.locked with
    | some t => decide (t + nsOf (s.regs.AXn_LOCK_T n) ≤ s.tb)
    | none => false
  match x.ascSt.resume with
  | some t => if s.running && x.state == .asc && decide (t ≤ s.tb) then s.ascResume n else s
  | none =>
    if !(s.running && s.mayReacquire n && (held || s.encUsable n)) then s
    else
      (s.event s.tb (Unit.ax n) 0x0808 1 (peakCode x.ascSt.peak)).modAx n (fun x => { x with
        bridge := .off, ipk := x.ascSt.peak, ascSt := { x.ascSt with offAt := s.tb, resume := some (s.tb + s.deadNs n) } })

def execReacquired (dt : Nat) (n : Fin 6) (s : State) : Host.Outcome State Fault Refusal :=
  done ((s.advance dt).reacquired n)

/-- `ASC_REACQ_TIMEOUT`: no re-acquisition within REACQ_T: the ASC goes on as under cause 2 with reason LOS_REPEAT (R228). -/
def State.reacqTimeout (s : State) (n : Fin 6) : State :=
  let x := s.ax[n]
  if x.state = .asc ∧ x.ascSt.cause ≠ 2 ∧ !x.ascFault ∧ !x.blind ∧ x.ascSt.resume = none
      ∧ x.ascSt.since + nsOf (s.regs.AXn_ASC_REACQ_T n) ≤ s.tb then
    s.modAx n (fun x => { x with ascFault := true, haltReason := 0x0803 })
  else s

def execAscReacqTimeout (dt : Nat) (n : Fin 6) (s : State) : Host.Outcome State Fault Refusal :=
  let s := s.advance dt
  done (if s.running then s.reacqTimeout n else s)

/-- An ASC ends with its record, and its peak is kept. -/
def State.ascEnd (s : State) (n : Fin 6) (detail : Nat) : State :=
  let p := s.ax[n].ascSt.peak
  (s.event s.tb (Unit.ax n) 0x0808 detail (peakCode p)).modAx n (fun x => { x with ipk := p })

/-- `ASC_EXIT`: the speed has stayed below 0.8 n_ASC for 10 ms: HALT with the recorded reason (R229). -/
def State.ascExit (s : State) (n : Fin 6) : State :=
  let x := s.ax[n]
  match x.ascSt.below with
  | some t =>
    if x.state = .asc ∧ (x.ascSt.cause = 2 ∨ x.ascFault) ∧ !x.blind ∧ t + 10000000 ≤ s.tb then
      (s.ascEnd n 2).axHaltOff n x.haltReason
    else s
  | none => s

def execAscExit (dt : Nat) (n : Fin 6) (s : State) : Host.Outcome State Fault Refusal :=
  let s := s.advance dt
  done (if s.running then s.ascExit n else s)

/-- `ASC_BLIND_HOLD_END`: a blind hold ends in HALT, or in a CATCH (R230). -/
def State.blindEnd (s : State) (n : Fin 6) : State :=
  let x := s.ax[n]
  match x.ascSt.blindEnd with
  | some t =>
    if x.state = .asc ∧ x.blind ∧ t ≤ s.tb then
      let fault := x.ascSt.cause == 2 || x.ascFault
      let s := s.ascEnd n 3
      if fault then s.axHaltOff n x.haltReason
      else s.catchEnter n 1 true none (if x.ascSt.from' = .stop then some x.stopKind else x.ascSt.stop)
    else s
  | none => s

def execAscBlindHoldEnd (dt : Nat) (n : Fin 6) (s : State) : Host.Outcome State Fault Refusal :=
  let s := s.advance dt
  done (if s.running then s.blindEnd n else s)

end Sys2Proof.Machine
end

