-- ==== Sys2Proof/Machine/Shock.lean ====
section
/-! DEFINITION. Conversions of the general analog inputs and what hangs on them (chapters 07 and 10): range, the DC-link watch,
the winding temperature, coasting axes, and the ends of stops, holds and free-ups. -/
namespace Sys2Proof.Machine

/-! ## The DC-link watch (R267 to R269) -/

/-- `DEV_STOPCAUSE` bit 0 follows the critical conditions of the allocated axes. -/
def State.dcStop (s : State) : State :=
  s.setStop 0 ((List.finRange 6).any (fun n =>
    let c := s.cmd.ax[n]
    s.axAlloc n && (c.critHi || c.critLo || c.vdcBad)))

/-- The limit factors at `t`, and the record of one that first falls below 1 (R268). -/
def State.dcFactors (s : State) (n : Fin 6) (t : Nat) : State :=
  let c := s.cmd.ax[n]
  let kr := s.kReg n
  let km := s.kMot n
  let v := milli (s.vdc n)
  let s := s.modCmd n (fun c => { c with
    kreg := kr, kmot := km, kSeen := true, regLim := c.regLim || decide (kr < 1), motLim := c.motLim || decide (km < 1)
    regOne := if kr < 1 then none else some (c.regOne.getD t), motOne := if km < 1 then none else some (c.motOne.getD t) })
  let s := if kr < 1 ∧ !c.regLim then s.event t (Unit.ax n) 0x0A06 1 v else s
  if km < 1 ∧ !c.motLim then s.event t (Unit.ax n) 0x0A06 3 v else s

/-- An overvoltage acts by the state of the axis (R269). `first`: at its second conversion; a later one acts on an axis that has since
become READY, or has left it. -/
def State.dcOver (s : State) (n : Fin 6) (v : Rat) (t : Nat) (first : Bool) : State :=
  let short (s : State) : State := if s.ax[n].state = .halt then s.coastAsc n s.ax[n].eng.speed else s
  match s.ax[n].state, first with
  | .off, _ | .halt, false | .asc, false => s
  | .halt, true => short s
  | _, _ => short ((s.event t (Unit.ax n) 0x0A08 0 (milli v)).axFault n 0x0A08 .ov)

/-- A valid conversion `v` of the DC-link input of an axis, held at `t`. -/
def State.dcConv (s : State) (n : Fin 6) (v : Rat) (t : Nat) : State :=
  let r := s.regs
  let c := s.cmd.ax[n]
  let s := s.dcFactors n t
  let b := s.regBand n
  let clrHi := c.critHi && decide (v < b.1)
  let clrLo := c.critLo && decide (r.AXn_VDC_MOT_END n < v)
  let ov := if r.AXn_VDC_OV n ≤ v then min 3 (c.ovCnt + 1) else 0
  let s := s.modCmd n (fun c => { c with
    hiSince := if b.2 ≤ v then some (c.hiSince.getD t) else none
    loSince := if v ≤ r.AXn_VDC_CRIT_LO n then some (c.loSince.getD t) else none
    critHi := c.critHi && !clrHi, critLo := c.critLo && !clrLo
    vdcBad := c.vdcBad && !decide (r.AXn_VDC_MOT_END n < v), ovCnt := ov })
  let s := if c.vdcBad ∧ r.AXn_VDC_MOT_END n < v then s.event t (Unit.ax n) 0x0A07 0 (milli v) else s
  let s := if clrHi then s.event t (Unit.ax n) 0x0A07 0 (milli v) else s
  let s := if clrLo then s.event t (Unit.ax n) 0x0A07 0 (milli v) else s
  let s := s.dcStop
  let s := if 2 ≤ ov then s.dcOver n v t (ov == 2) else s
  s.encCoast n

/-- `DC_CRIT`: a critical condition has lasted for CRIT_T (R267, R269). -/
def State.dcCrit (s : State) (n : Fin 6) (high : Bool) : State :=
  let c := s.cmd.ax[n]
  match if high then c.hiSince else c.loSince with
  | some t =>
    if s.running && s.axAlloc n && decide (t + nsOf (s.regs.AXn_VDC_CRIT_T n) ≤ s.tb) && !(if high then c.critHi else c.critLo) then
      ((s.modCmd n (fun c => if high then { c with critHi := true } else { c with critLo := true })).event s.tb (Unit.ax n)
        0x0A07 (if high then 1 else 2) (milli (s.vdc n))).dcStop
    else s
  | none => s

def execDcCrit (dt : Nat) (n : Fin 6) (high : Bool) (s : State) : Host.Outcome State Fault Refusal :=
  done ((s.advance dt).dcCrit n high)

/-- `DC_LIMIT_END`: a factor has been 1 for 100 ms (R268). -/
def State.dcLimitEnd (s : State) (n : Fin 6) (regen : Bool) : State :=
  let c := s.cmd.ax[n]
  match if regen then c.regOne else c.motOne with
  | some t =>
    if (if regen then c.regLim else c.motLim) && decide (t + 100000000 ≤ s.tb) then
      (s.modCmd n (fun c => if regen then { c with regLim := false } else { c with motLim := false })).event s.tb (Unit.ax n)
        0x0A06 (if regen then 0 else 2) (milli (s.vdc n))
    else s
  | none => s

def execDcLimitEnd (dt : Nat) (n : Fin 6) (regen : Bool) (s : State) : Host.Outcome State Fault Refusal :=
  let s := s.advance dt
  done (if s.running then s.dcLimitEnd n regen else s)

/-! ## Conversions of the general analog inputs (R192 to R195) -/

/-- A terminal voltage of an axis has been converted: whether all three are quiet (R164); with all three of an instant converted and the
bridge off, the measurement of R222, and from it the speed of a coasting motor (R272). -/
def State.vtConv (s : State) (n : Fin 6) (t : Nat) : State :=
  let v := (s.vtIn n).map (fun c => s.sns.ain[c].val)
  let quiet := (List.finRange 3).all (fun p => decide (absR v[p] < 1))
  let ab := clarke v
  let all := (List.finRange 3).all (fun p => s.sns.ain[(s.vtIn n)[p]].heldAt == t)
  let s := s.modAx n (fun x => { x with
    quietSince := if quiet then some (x.quietSince.getD t) else none
    vt := if x.bridge ≠ .off then {}
      else if all then x.vt.next (s.regs.AXn_CATCH_VMIN n) (hyp ab.1 ab.2) (atan2R ab.2 ab.1) t else x.vt })
  match s.ax[n].vt.line with
  | some k =>
    let rpm := k * 60 / (s.regs.AXn_FOC_CFG_POLES n : Rat)
    if s.vtSettled n 0 ∧ s.nAsc n ≤ absR rpm then s.coastAsc n rpm else s
  | none => s

/-- The winding temperature of an axis has been converted (R258). -/
def State.twConv (s : State) (n : Fin 6) (v : Rat) (valid : Bool) (t : Nat) : State :=
  s.modCmd n (fun c => { c with
    twHot := if valid ∧ s.regs.AXn_TH_TTRIP n ≤ v then some (c.twHot.getD t) else none })

/-- `AIN_CONVERSION_DONE` of the input whose turn it is on its converter: the value is scaled and goes to every user of the input
(R192, R193). -/
def State.ainDone (s : State) (c : Fin 32) (volts : Rat) : State :=
  match s.sns.ain[c].hold with
  | none => s
  | some t =>
    if !(s.running && s.ainTurn c) then s else
    let s := s.ainValue c volts t
    let a := s.sns.ain[c]
    let valid := !a.range && decide (a.outCnt < 4)
    let s := s.chopWatch c a.val t
    (List.finRange 6).foldl (fun s n =>
      if !s.axAlloc n then s
      else
        let s := if s.vdcAin n = c ∧ valid then s.dcConv n a.val t else s
        let s := if s.regs.SNS_AXn_VIN_VT_EN n && (s.vtIn n).any (fun i => i == c) then s.vtConv n t else s
        if s.regs.AXn_TH_CFG_TW_EN n && s.regs.AXn_TH_CFG_TW_AIN n == c.val then s.twConv n a.val valid t else s) s

def execAinConversionDone (dt : Nat) (c : Fin 32) (volts : Rat) (s : State) : Host.Outcome State Fault Refusal :=
  done ((s.advance dt).ainDone c volts)

/-- The DC-link input of an axis has gone out of range: the stop cause is set as for critical low, with its record (R269). -/
def State.vdcInvalid (s : State) (n : Fin 6) (c : Fin 32) : State :=
  let a := s.sns.ain[c]
  let s := if s.cmd.ax[n].vdcBad then s else s.event a.rangeAt (Unit.ax n) 0x0A07 2 (milli (s.vdc n))
  let s := s.modCmd n (fun c => { c with vdcBad := true, ovCnt := 0, hiSince := none, loSince := none })
  match s.ax[n].state with
  | .off | .halt => s
  | _ => (s.event a.rangeAt (Unit.ax n) 0x0A0C c.val (milli a.rangeVolts)).axFault n 0x0A0C .sensor

/-- `AIN_RANGE`: four conversions in a row were out of range (R194). -/
def State.ainRange (s : State) (c : Fin 32) : State :=
  let a := s.sns.ain[c]
  if !(s.running && decide (4 ≤ a.outCnt) && !a.range) then s
  else
    let s := s.modAin c (fun a => { a with range := true, rangeAt := a.heldAt, rangeVolts := a.volts })
    let s := s.event a.heldAt Unit.sns 0x070A (c.val + 256 * b2n a.above) (milli a.volts)
    let s := (List.finRange 6).foldl (fun s n => if s.axAlloc n ∧ s.vdcAin n = c then s.vdcInvalid n c else s) s
    s.dcStop

def execAinRange (dt : Nat) (c : Fin 32) (s : State) : Host.Outcome State Fault Refusal :=
  done ((s.advance dt).ainRange c)

/-! ## Overtemperature (R258) -/

/-- `OVERTEMP`: the winding has stood at TTRIP for 1 s. -/
def State.overtemp (s : State) (n : Fin 6) : State :=
  match s.cmd.ax[n].twHot with
  | some t =>
    let c : Fin 32 := Fin.ofNat 32 (s.regs.AXn_TH_CFG_TW_AIN n)
    if s.running ∧ s.axAlloc n ∧ t + 1000000000 ≤ s.tb ∧ s.ax[n].state ≠ .halt then
      (s.event (t + 1000000000) (Unit.ax n) 0x0A02 c.val (twos 4 (s.sns.ain[c].val * 10).floor)).axFault n 0x0A02 .temp
    else s
  | none => s

def execOvertemp (dt : Nat) (n : Fin 6) (s : State) : Host.Outcome State Fault Refusal := done ((s.advance dt).overtemp n)

/-! ## The ends of stops (R243, R263, R264) -/

/-- `STANDSTILL_REACHED`: below SPD_STILL for 100 ms a stop ends: READY from a command or BRAKE, HALT from a fault or LATE ramp;
under SS1 the axis holds until STO acts. -/
def State.standstill (s : State) (n : Fin 6) : State :=
  let x := s.ax[n]
  match x.state, x.still with
  | .stop, some t =>
    if t + 100000000 ≤ s.tb then
      match x.stopKind with
      | .command => (s.axDown n .ready).resetCommand n
      | .brake => s.axDown n .ready
      | .ss1 => s
      | .fault r _ => s.axHaltOff n r
    else s
  | _, _ => s

def execStandstillReached (dt : Nat) (n : Fin 6) (s : State) : Host.Outcome State Fault Refusal :=
  let s := s.advance dt
  done (if s.running then s.standstill n else s)

/-- `STOP_TMO`: a LATE or fault ramp has not ended in time: the bridge goes off by the reaction of class TIMEOUT, and the HALT
reason is kept. -/
def State.stopTmo (s : State) (n : Fin 6) : State :=
  let x := s.ax[n]
  match x.state, x.stopKind with
  | .stop, .fault r _ =>
    if !x.stopFree && decide (x.stopAt + nsOf (s.regs.AXn_STOP_TMO n) ≤ s.tb) then
      (s.event s.tb (Unit.ax n) 0x0A0A r (rpm10 x.eng.speed)).axFault n r .timeout
    else s
  | _, _ => s

def execStopTmo (dt : Nat) (n : Fin 6) (s : State) : Host.Outcome State Fault Refusal :=
  let s := s.advance dt
  done (if s.running then s.stopTmo n else s)

/-! ## Impacts and ice (R260, R262) -/

/-- `IMPACT_HOLD_END`: the response of an impact ends; after a yield the ramp runs from the present speed. -/
def State.impactEnd (s : State) (n : Fin 6) : State :=
  match s.cmd.ax[n].impact with
  | some (resp, t) =>
    if t ≤ s.tb then
      s.modCmd n (fun c => if resp = 3 then { c with impact := none, r := s.ax[n].eng.speed, a := 0 } else { c with impact := none })
    else s
  | none => s

def execImpactHoldEnd (dt : Nat) (n : Fin 6) (s : State) : Host.Outcome State Fault Refusal :=
  let s := s.advance dt
  done (if s.running then s.impactEnd n else s)

/-- Is TB_NOW an outer-tick boundary? -/
def State.atBoundary (s : State) : Bool := decide (s.tb % s.period = 0)

/-- `ICE_STALL`: a stall has lasted for STALL_T: the free-up starts, or after RETRY_MAX consecutive stalls the axis halts. -/
def State.iceStall (s : State) (n : Fin 6) : State :=
  let c := s.cmd.ax[n]
  match c.iceSince with
  | some t =>
    if s.regs.AXn_ICE_CFG_EN n && c.icePhase == 0 && s.atBoundary && decide (t + nsOf (s.regs.AXn_ICE_STALL_T n) ≤ s.tb)
        && s.ax[n].state == .run then
      let k := c.stalls + 1
      let s := s.modCmd n (fun c => { c with
        stalls := k, stallTotal := satInc 16 c.stallTotal, iceSince := none, iceFast := none, icePhase := 1, iceAt := s.tb })
      let s := s.event s.tb (Unit.ax n) 0x0A04 k (rpm10 s.ax[n].eng.speed)
      if s.regs.AXn_ICE_CFG_RETRY_MAX n ≤ k then
        (s.modCmd n (fun c => { c with icePhase := 0 })).axFault n 0x0A04 .temp
      else s
    else s
  | none => s

def execIceStall (dt : Nat) (n : Fin 6) (s : State) : Host.Outcome State Fault Refusal :=
  let s := s.advance dt
  done (if s.running then s.iceStall n else s)

/-- `ICE_PAUSE_END`: T* has been held at zero for PAUSE_T: the free-up speed is commanded, from the present speed. -/
def State.icePauseEnd (s : State) (n : Fin 6) : State :=
  let c := s.cmd.ax[n]
  if c.icePhase = 1 ∧ c.tStar = 0 ∧ c.iceAt + nsOf (s.regs.AXn_ICE_PAUSE_T n) ≤ s.tb then
    s.modCmd n (fun c => { c with icePhase := 2, iceAt := s.tb, r := s.ax[n].eng.speed, a := 0, int := 0 })
  else s

def execIcePauseEnd (dt : Nat) (n : Fin 6) (s : State) : Host.Outcome State Fault Refusal :=
  let s := s.advance dt
  done (if s.running then s.icePauseEnd n else s)

/-- `ICE_BACK_END`: the free-up ends; the axis ramps from the present speed back to its command. -/
def State.iceBackEnd (s : State) (n : Fin 6) : State :=
  let c := s.cmd.ax[n]
  if c.icePhase = 2 ∧ c.iceAt + nsOf (s.regs.AXn_ICE_BACK_T n) ≤ s.tb then
    s.modCmd n (fun c => { c with icePhase := 0, r := s.ax[n].eng.speed, a := 0 })
  else s

def execIceBackEnd (dt : Nat) (n : Fin 6) (s : State) : Host.Outcome State Fault Refusal :=
  let s := s.advance dt
  done (if s.running then s.iceBackEnd n else s)

end Sys2Proof.Machine
end

