-- ==== Sys2Proof/Machine/Command.lean ====
section
/-! DEFINITION. The commands of the main axes and what the supervisor makes of them in the work of a tick and at its boundary
(chapters 09 and 10): sources, the lever, ramps and loops, winch functions, thermal model, impacts, ice mode, crash stop, and the
axis clear. -/
namespace Sys2Proof.Machine

/-! ## Command words (R242) -/

/-- The largest magnitude a setpoint may have in a mode; `none` in mode 0. -/
def State.setLimit (s : State) (n : Fin 6) (mode : Nat) : Option Rat :=
  match mode with
  | 1 => some (s.regs.AXn_SPD_MAX n)
  | 2 => some (s.regs.AXn_MTPA_TMAX n)
  | 3 => some (s.regs.AXn_WN_RND_F n)
  | _ => none

/-- Does a setpoint lie within the limit of a mode? -/
def State.setOk (s : State) (n : Fin 6) (mode : Nat) (v : Rat) : Bool :=
  match s.setLimit n mode with
  | some m => decide (absR v ≤ m)
  | none => true

/-- A command word has been written: the holder's command is of the instant of origin, and a crash stop is to end (R266). -/
def State.wrote (s : State) (n : Fin 6) (c : Ctx) : State :=
  s.modCmd n (fun x => { x with wroteAt := c.stamp, crashOff := x.crash })

/-- Completion of the pair of `AXn_CMD`. -/
def doAxisCmd (n : Fin 6) (c : Ctx) (s : State) (w : Word) : Res :=
  needRights false c s fun s =>
    let m := fld w 0 3
    if 3 < m ∨ !s.setOk n m (s.regs.AXn_CMD_SET n) then nak s St.range
    else if !s.axAlloc n ∨ (s.mode.mode = .hold ∧ m ≠ 0) then nak s St.state
    else ack ((s.onRegs (fun r => r.set (Reg.AXn_CMD n) (w &&& 0x17#32))).wrote n c)

/-- Completion of the pair of `AXn_CMD_SET`. -/
def doAxisSet (n : Fin 6) (c : Ctx) (s : State) (w : Word) : Res :=
  needRights false c s fun s =>
    match f32Norm w with
    | none => nak s St.range
    | some v =>
      if !s.setOk n (s.regs.AXn_CMD_MODE n) (f32ToRat v) then nak s St.range
      else if !s.axAlloc n then nak s St.state
      else ack ((s.onRegs (fun r => r.set (Reg.AXn_CMD_SET n) v)).wrote n c)

/-- A command word of a mode. -/
def State.axisCmd (s : State) (o : Origin) (n : Fin 6) (mode : Nat) (heave : Bool) : State :=
  s.entry o 2 (some (Reg.AXn_CMD n)) (fun c s => doAxisCmd n c s (w32 (mode + 16 * b2n heave))) (ws := [w32 (mode + 16 * b2n heave)])

/-- `AXIS_CMD_STOP`. -/
def execAxisCmdStop (dt : Nat) (o : Origin) (n : Fin 6) (s : State) : Host.Outcome State Fault Refusal :=
  done ((s.advance dt).axisCmd o n 0 false)

/-- `AXIS_CMD_SPEED`. -/
def execAxisCmdSpeed (dt : Nat) (o : Origin) (n : Fin 6) (heave : Bool) (s : State) : Host.Outcome State Fault Refusal :=
  done ((s.advance dt).axisCmd o n 1 heave)

/-- `AXIS_CMD_TORQUE`. -/
def execAxisCmdTorque (dt : Nat) (o : Origin) (n : Fin 6) (heave : Bool) (s : State) : Host.Outcome State Fault Refusal :=
  done ((s.advance dt).axisCmd o n 2 heave)

/-- `AXIS_CMD_TENSION`. -/
def execAxisCmdTension (dt : Nat) (o : Origin) (n : Fin 6) (heave : Bool) (s : State) : Host.Outcome State Fault Refusal :=
  done ((s.advance dt).axisCmd o n 3 heave)

/-- `AXIS_SETPOINT_WRITE`. -/
def execAxisSetpointWrite (dt : Nat) (o : Origin) (n : Fin 6) (value : Word) (s : State) :
    Host.Outcome State Fault Refusal :=
  done ((s.advance dt).entry o 2 (some (Reg.AXn_CMD_SET n)) (fun c s => doAxisSet n c s value) (ws := [value, ~~~value]))

/-! ## Heave references (R253) -/

/-- FLAGS bit 2 of a record whose cause is the CAN binding of an axis: set where the controller uses the heritage profile
(R5). -/
def State.bindFlag (s : State) (n : Fin 6) : Nat :=
  let b := s.regs.AXn_CMD_CFG_CAN n
  if b ≠ 0 && s.regs.CANn_CFG_PROFILE (b - 1) then 4 else 0

/-- A heave reference is taken: one that is not later than the one in use is discarded. `can`: it came from a CAN binding whose
controller uses the heritage profile (R5). -/
def State.takeHeave (s : State) (n : Fin 6) (tm : Nat) (v a : Rat) (can : Bool := false) : State :=
  s.modCmd n (fun c =>
    match c.hcRef with
    | some (t, _, _) => if tm ≤ t then c else { c with hcRef := some (tm, v, a), hcCan := can }
    | none => { c with hcRef := some (tm, v, a), hcCan := can })

/-- Completion of the pair of `AXn_HC_IN_A`: the sample is taken. -/
def doHeaveA (n : Fin 6) (c : Ctx) (s : State) (w : Word) : Res :=
  needRights false c s fun s =>
    match f32Norm w with
    | none => nak s St.range
    | some v =>
      if !s.axAlloc n then nak s St.state
      else
        let s := s.onRegs (fun r => r.set (Reg.AXn_HC_IN_A n) v)
        ack (s.takeHeave n (c.stamp - nsOf (s.regs.AXn_HC_LAT n)) (s.regs.AXn_HC_IN_V n) (f32ToRat v))

/-- `HEAVE_REFERENCE_INPUT`: `frameAge`: ns since the stamp of its frame. -/
def execHeaveReferenceInput (dt : Nat) (o : Origin) (n : Fin 6) (frameAge : Nat) (accel : Word) (s : State) :
    Host.Outcome State Fault Refusal :=
  done ((s.advance dt).entry o 2 (some (Reg.AXn_HC_IN_A n)) (fun c s => doHeaveA n c s accel) (ws := [accel, ~~~accel])
    (age := frameAge))

/-- Does the feedforward act: heave in SPEED mode, not from the lever? -/
def State.heaveActs (s : State) (n : Fin 6) : Bool :=
  let c := s.cmd.ax[n]
  c.heave && c.mode == 1 && c.src != 3 && (s.ax[n].state == .run || s.ax[n].state == .catching)

/-- An age in µs for a record, saturating. -/
def ageUs (t : Nat) : Nat := min (t / 1000) 0xFFFFFFFF

/-- `HEAVE_STALE`: at a boundary the reference in use is older than AGE_MAX: n_ff fades. -/
def State.heaveStale (s : State) (n : Fin 6) : State :=
  let c := s.cmd.ax[n]
  match c.hcRead with
  | some (tm, _, _) =>
    if s.running && s.atBoundary && s.heaveActs n && !c.stale && decide (nsOf (s.regs.AXn_HC_AGE_MAX n) < s.tb - tm) then
      (s.modCmd n (fun c => { c with stale := true, fade := some (s.tb, c.nff) })).event s.tb (Unit.ax n) 0x0907 1
        (ageUs (s.tb - tm)) (if c.hcReadCan then 4 else 0)
    else s
  | none => s

def execHeaveStale (dt : Nat) (n : Fin 6) (s : State) : Host.Outcome State Fault Refusal := done ((s.advance dt).heaveStale n)

/-- n_ff of a tick, for its apply boundary `ta`, from the reference that its work has read. -/
def State.heaveTick (s : State) (n : Fin 6) (ta : Nat) : State :=
  let c := s.cmd.ax[n]
  let r := s.regs
  let fresh : Option (Nat × Rat) :=
    match c.hcRead with
    | some (tm, v, a) =>
      if s.heaveActs n ∧ ta - tm ≤ nsOf (r.AXn_HC_AGE_MAX n) then
        let age := secOf (ta - tm) + r.AXn_HC_LEAD n
        some (tm, -(r.AXn_HC_K n) * (v + a * age) * r.AXn_WN_G n * 60 / (2 * Config.pi * r.AXn_WN_R n))
      else none
    | none => none
  let age := match c.hcRead with | some (tm, _, _) => secOf (ta - tm) + r.AXn_HC_LEAD n | none => 0
  match fresh with
  | some (tm, v) =>
    let s := s.modCmd n (fun c => { c with nffPrev := c.nff, nff := v, stale := false, fade := none, hcAge := age })
    if c.stale then s.event ta (Unit.ax n) 0x0907 0 (ageUs (ta - tm)) (if c.hcReadCan then 4 else 0) else s
  | none =>
    s.modCmd n (fun c =>
      let f := c.fade.getD (ta, c.nff)
      let v := f.2 * max 0 (1 - secOf (ta - f.1) / r.AXn_HC_FADE n)
      { c with nffPrev := c.nff, nff := v, fade := if v = 0 then none else some f, hcAge := age
               stale := c.stale && s.heaveActs n })

/-! ## Sources (R238 to R241, R245, R247) -/

/-- A binding is live. -/
def State.canLive (s : State) (n : Fin 6) : Bool :=
  s.regs.AXn_CMD_CFG_CAN n != 0 &&
    match s.cmd.ax[n].can.lastAt with
    | some t => decide (s.tb < t + s.regs.AXn_CMD_CFG_CAN_TMO n * 10000000)
    | none => false

/-- The source of an axis: 0 none, 1 token holder, 2 CAN, 3 lever (R238). -/
def State.source (s : State) (n : Fin 6) : Nat :=
  if s.cp.token.holder.isSome then 1
  else if s.canLive n then 2
  else if s.regs.CP_CFG_LEVER_EN && s.regs.AXn_CRV_CFG_EN n then 3
  else 0

/-- The lever of an axis. -/
def State.leverAin (s : State) (n : Fin 6) : Fin 32 := Fin.ofNat 32 (s.regs.AXn_CRV_CFG_AIN n)

/-- An input that has gone out of range is recorded by every axis that uses it as a lever (R247). -/
def State.leverCheck (s : State) (n : Fin 6) : State :=
  let c := s.leverAin n
  let a := s.sns.ain[c]
  if !s.regs.AXn_CRV_CFG_EN n then s
  else if a.range && !s.cmd.ax[n].levBad then
    (s.modCmd n (fun x => { x with levBad := true })).event a.rangeAt (Unit.ax n) 0x0904 c.val (milli a.rangeVolts)
  else s.modCmd n (fun x => { x with levBad := a.range })

/-- One evaluation of the lever (R247): its mode and setpoint, mode 0 for STOP. `ta`: the boundary that ends the tick. -/
def State.lever (s : State) (n : Fin 6) (ta : Nat) : State × Nat × Rat :=
  let r := s.regs
  let i := s.leverAin n
  let a := s.sns.ain[i]
  let x := clampR (-1) 1 a.val
  let c := s.cmd.ax[n]
  let off := r.AXn_CRV_OFF n
  if a.range then (s.modCmd n (fun c => { c with levArmed := false, levRun := false }), 0, 0)
  else if !c.levArmed ∧ off < absR x then (s, 0, 0)
  else
    let s := if c.levArmed then s
      else (s.modCmd n (fun c => { c with levArmed := true })).event ta (Unit.ax n) 0x0903 i.val (twos 4 (x * 10000).floor)
    let run := c.levRun || (decide (r.AXn_CRV_ON n ≤ absR x) && s.ax[n].state == .ready)
    let run := run && decide (off < absR x)
    if !run then (s.modCmd n (fun c => { c with levRun := false, levXu := 0 }), 0, 0)
    else
      let xu := if r.AXn_CRV_HYST n < absR (x - c.levXu) ∨ signR x ≠ signR c.levXu then x else c.levXu
      let p := (xu + 1) * 16
      let k := min p.floor.toNat 31
      let f := p - (k : Rat)
      let y := r.AXn_CRV_Y_k n k + f * (r.AXn_CRV_Y_k n (k + 1) - r.AXn_CRV_Y_k n k)
      (s.modCmd n (fun c => { c with levRun := true, levXu := xu }), if r.AXn_CRV_CFG_MODE n then 2 else 1, y)

/-- Is the source armed (R245)? -/
def State.armed (s : State) (n : Fin 6) : Bool :=
  match s.cmd.ax[n].srcNext with
  | 1 | 4 => true
  | 2 => s.cmd.ax[n].can.armed
  | 3 => s.cmd.ax[n].levArmed
  | _ => false

/-- The axis's own command of a tick (R238, R241, R245). -/
def State.selectOwn (s : State) (n : Fin 6) (ta : Nat) : State :=
  let s := s.leverCheck n
  let c := s.cmd.ax[n]
  let src := s.source n
  match src with
  | 1 =>
    s.modCmd n (fun x => { x with
      ownSrc := 1, ownMode := s.regs.AXn_CMD_MODE n, ownSet := s.regs.AXn_CMD_SET n, ownHeave := s.regs.AXn_CMD_HEAVE n
      ownStamp := x.wroteAt })
  | 2 =>
    let may := c.can.run && (c.can.armed || s.ax[n].state != .ready)
    s.modCmd n (fun x => { x with
      ownSrc := 2, ownMode := if may then c.can.mode else 0, ownSet := c.can.value, ownHeave := c.can.heave
      ownStamp := c.can.lastAt.getD 0 })
  | 3 =>
    let l := s.lever n ta
    l.1.modCmd n (fun x => { x with
      ownSrc := 3, ownMode := l.2.1, ownSet := l.2.2, ownHeave := false, ownStamp := s.tick.began })
  | _ => s.modCmd n (fun x => { x with ownSrc := 0, ownMode := 0 })

/-- A command acts on the axis in the tick that reads it: its mode and setpoint; in READY a mode other than 0 starts the axis at the
boundary that ends the tick (R243). A mode other than SPEED ends a free-up of ice mode at once (R262). -/
def State.takeCommand (s : State) (n : Fin 6) (src mode : Nat) (set : Rat) (heave : Bool) : State :=
  let mode := if s.driving then mode else 0
  s.modCmd n (fun x => { x with
    srcNext := src, mode := mode, set := set, heave := heave
    startNext := mode != 0 && s.ax[n].state == .ready
    icePhase := if mode = 1 then x.icePhase else 0 })

/-- What the work of a tick reads of an axis when it begins: its own command (R238, R242), a crash stop ordered and the writes that end
one (R266), and the heave reference (R253). -/
def State.readCommand (s : State) (n : Fin 6) (ta : Nat) : State :=
  (s.selectOwn n ta).modCmd n (fun x => { x with
    crashNext := x.crashNext || x.crashOrd, crashOrd := false, crashSeen := x.crashSeen || x.crashOff, crashOff := false
    hcRead := x.hcRef, hcReadCan := x.hcCan })

/-- The means of the tick that has passed, of the updates posted in it, in which the part of the tick without updates counts as one without
current, since the bridge is off there; with none, of the last currents while the bridge is on (R256, R259; DEDUCED, log 69). -/
def State.meanTick (s : State) (n : Fin 6) : State :=
  let r := s.regs
  s.modAx n (fun x =>
    let e := x.eng
    let full : Rat := (s.period : Rat) / (s.intervalNs (axis10 n) : Rat)
    let k : Rat := (x.sumN : Rat)
    let k := if full ≤ k + (x.sumMiss : Rat) + 1 then k else full - (x.sumMiss : Rat)
    let tq := 3 / 2 * (r.AXn_FOC_CFG_POLES n : Rat) * (r.AXn_MOT_PSI n * e.iQ + (r.AXn_MOT_LD n - r.AXn_MOT_LQ n) * e.iD * e.iQ)
    { x with
      meanSq := if x.sumN ≠ 0 then x.sumSq / k else if x.bridge = .off then 0 else e.iD * e.iD + e.iQ * e.iQ
      meanTq := if x.sumN ≠ 0 then x.sumTq / k else tq
      sumSq := 0, sumTq := 0, sumN := 0, sumMiss := 0 })

/-- `CAN_LOST`: a binding that is the source times out (R240). -/
def State.canLost (s : State) (n : Fin 6) : State :=
  let c := s.cmd.ax[n]
  let tmo := s.regs.AXn_CMD_CFG_CAN_TMO n * 10000000
  match c.can.lastAt with
  | some t =>
    if s.running && c.ownSrc == 2 && !c.can.lost && decide (t + tmo ≤ s.tb) then
      (s.modCmd n (fun x => { x with can := { x.can with lost := true } })).event (t + tmo) (Unit.ax n) 0x0902
        (s.regs.AXn_CMD_CFG_CAN n - 1) (ageUs tmo) (s.bindFlag n)
    else s
  | none => s

def execCanLost (dt : Nat) (n : Fin 6) (s : State) : Host.Outcome State Fault Refusal := done ((s.advance dt).canLost n)

/-- The address by which slots name this device: 0 for one without links, which stands alone. -/
def State.shareAddr (s : State) : Option Nat :=
  match s.fab.addr with
  | some a => some a
  | none => if s.regs.FAB_CFG_LINK_EN = 0 then some 0 else none

/-- An axis of a group. -/
def Regs.inGroup (r : Regs) (g : Nat) (n : Fin 6) : Bool := r.GD_AXn_MAP_EN n && r.AXn_SHR_CFG n == g

/-- The slots in use of a group. -/
def Regs.shareSlots (r : Regs) (g : Nat) : List Nat := List.range (min (r.FAB_SHRg_CFG_NMEM g) 32)

/-- The members of a group on the device with an address: slot and axis. -/
def Regs.localSlots (r : Regs) (addr g : Nat) : List (Nat × Fin 6) :=
  (r.shareSlots g).filterMap (fun k =>
    let n := r.FAB_SHRg_MEMs_AXIS g k
    if h : n < 6 then
      if r.FAB_SHRg_MEMs_DEV g k = addr ∧ r.inGroup g ⟨n, h⟩ then some (k, ⟨n, h⟩) else none
    else none)

/-- The members of a group on this device. -/
def State.localMembers (s : State) (g : Fin 16) : List (Nat × Fin 6) :=
  match s.shareAddr with
  | some a => s.regs.localSlots a g
  | none => []

/-- The axis is a member of a group with a slot on this device. -/
def State.memberOf (s : State) (n : Fin 6) : Option (Fin 16 × Nat) :=
  let g := s.regs.AXn_SHR_CFG n
  if h : g < 16 then
    match (s.localMembers ⟨g, h⟩).find? (fun m => m.2 == n) with
    | some m => some (⟨g, h⟩, m.1)
    | none => none
  else none

/-- The source of an axis is its share group: it has a leader, and a group command is valid (R282). -/
def State.shareSrc (s : State) (n : Fin 6) : Bool :=
  match s.memberOf n with
  | some (g, _) => s.shr[g].leader.isSome && s.shr[g].cmdValid
  | none => false

/-- `DEV_STOPCAUSE` bit 1 follows the selection; an axis that its share group commands has a source (R239, R282). -/
def State.sourceStop (s : State) : State :=
  let axes := (List.finRange 6).filter s.axAlloc
  s.setStop 1 (if axes.isEmpty then s.cp.token.holder.isNone else axes.all (fun n => s.cmd.ax[n].ownSrc == 0 && !s.shareSrc n))

/-! ## Crash stop (R266) -/

/-- Completion of the pair of `AXn_CRASH`. -/
def doCrash (n : Fin 6) (c : Ctx) (s : State) (w : Word) : Res :=
  needRights false c s fun s =>
    let x := s.ax[n]
    let live := x.state == .catching || x.state == .run || (x.state == .stop && x.stopKind == .command)
    if bit w 0 = false then nak s St.range
    else if !(s.axAlloc n && s.driving && live) then nak s St.state
    else ack (s.modCmd n (fun x => { x with crashOrd := true }))

/-- `CRASH_STOP`. -/
def execCrashStop (dt : Nat) (o : Origin) (n : Fin 6) (w : Word) (s : State) : Host.Outcome State Fault Refusal :=
  done ((s.advance dt).entry o 2 (some (Reg.AXn_CRASH n)) (fun c s => doCrash n c s w) (ws := [w]))

/-- An axis enters RUN: the load torque estimate and the filter of the damping start afresh (R259, R261). -/
def State.runFresh (s : State) (n : Fin 6) : State :=
  s.modCmd n (fun c => { c with tlHist := [], tdX1 := 0, tdX2 := 0, tdY1 := 0, tdY2 := 0 })

/-- An axis returns from a commanded STOP to RUN (R243, R266). -/
def State.runAgainFromStop (s : State) (n : Fin 6) : State :=
  (s.runFresh n).modAx n (fun x => { x with state := .run, still := none })

/-- A crash stop that the tick has read takes effect at its boundary. -/
def State.crashTake (s : State) (n : Fin 6) : State :=
  let x := s.ax[n]
  let live := x.state == .catching || x.state == .run || (x.state == .stop && x.stopKind == .command)
  if !s.cmd.ax[n].crashNext then s
  else if !(s.driving && live) then s.modCmd n (fun c => { c with crashNext := false })
  else
    let s := s.onRegs (fun r =>
      (r.set (Reg.AXn_CMD n) 1).set (Reg.AXn_CMD_SET n) (r.get (Reg.AXn_CRASH_SPD n)))
    let s := s.modCmd n (fun c => { c with
      crash := true, crashNext := false, crashOff := false, crashSeen := false, crashSet := s.regs.AXn_CRASH_SPD n, mode := 1, set := s.regs.AXn_CRASH_SPD n, heave := false })
    let s := if x.state = .stop then s.runAgainFromStop n else s
    s.event s.tb (Unit.ax n) 0x0A05 1 (rpm10 (s.regs.AXn_CRASH_SPD n))

/-! ## Thermal model (R256 to R258) -/

/-- A first-order gain: the tick over the time constant, at most 1; 1 for a time constant of 0. -/
def gain1 (ts tau : Rat) : Rat := if tau ≤ 0 then 1 else min (ts / tau) 1

/-- The measured thermal state, where the temperature input is in use and valid. -/
def State.thermMeasured (s : State) (n : Fin 6) : Option Rat :=
  let r := s.regs
  let a := s.sns.ain[(Fin.ofNat 32 (r.AXn_TH_CFG_TW_AIN n) : Fin 32)]
  if r.AXn_TH_CFG_TW_EN n && a.valid && !a.range then
    some ((a.lastValid - r.AXn_TH_TREF n) / (r.AXn_TH_TWMAX n - r.AXn_TH_TREF n))
  else none

/-- The thermal state at HOLD entry (R256). Where the temperature input has not been converted yet, the first conversion of HOLD gives the
measured start value (DESIGN CHOICE, log 129). -/
def State.thermInit (s : State) (n : Fin 6) : State :=
  s.modCmd n (fun c => { c with
    theta := (s.thermMeasured n).getD (s.regs.AXn_TH_INIT n), thDue := s.regs.AXn_TH_CFG_TW_EN n && (s.thermMeasured n).isNone })

/-- The thermal state and foldback of a tick. -/
def State.thermTick (s : State) (n : Fin 6) (ta : Nat) : State :=
  let r := s.regs
  let c := s.cmd.ax[n]
  let q := s.ax[n].meanSq / (r.AXn_TH_ICONT n * r.AXn_TH_ICONT n)
  let th0 := if c.thDue then (s.thermMeasured n).getD c.theta else c.theta
  let th := th0 + gain1 s.periodS (r.AXn_TH_TAU n) * (q - th0)
  let th := match s.thermMeasured n with | some m => max th m | none => th
  let bad := r.AXn_TH_CFG_TW_EN n && s.sns.ain[(Fin.ofNat 32 (r.AXn_TH_CFG_TW_AIN n) : Fin 32)].range
  let s := s.modCmd n (fun c => { c with
    theta := th, thDue := c.thDue && (s.thermMeasured n).isNone, twInvalid := bad
    foldNext := if !c.fold ∧ 1 ≤ th then some true else if c.fold ∧ th ≤ r.AXn_TH_REL n then some false else c.foldNext })
  if bad = c.twInvalid then s
  else s.event ta (Unit.ax n) 0x0A01 (if bad then 2 else 3) (twos 4 (th * 1000).floor)

/-- Foldback starts or ends at a boundary. -/
def State.foldTake (s : State) (n : Fin 6) : State :=
  let c := s.cmd.ax[n]
  match c.foldNext with
  | some b =>
    (s.modCmd n (fun c => { c with fold := b, foldNext := none })).event s.tb (Unit.ax n) 0x0A01 (if b then 1 else 0)
      (twos 4 (c.theta * 1000).floor)
  | none => s

/-! ## Load torque and impacts (R259, R260) -/

/-- The filtered speed of a tick (R249). -/
def State.speedTick (s : State) (n : Fin 6) : State :=
  s.modCmd n (fun c => { c with
    nfPrev := c.nf, nf := c.nf + gain1 s.periodS (s.regs.AXn_SPD_FILT n) * (s.ax[n].eng.speed - c.nf) })

/-- The acceleration that the filtered speed of a tick shows, rad/s² (R251, R259). -/
def State.accel (s : State) (n : Fin 6) : Rat :=
  let c := s.cmd.ax[n]
  (c.nf - c.nfPrev) * 2 * Config.pi / 60 / s.periodS

/-- The load torque estimate of a tick, and an impact it shows. -/
def State.loadTick (s : State) (n : Fin 6) : State :=
  let r := s.regs
  let x := s.ax[n]
  let c := s.cmd.ax[n]
  if x.state ≠ .run ∧ x.state ≠ .stop then s.modCmd n (fun c => { c with tlHist := [] })
  else
    let tl := x.meanTq - r.AXn_INERTIA n * s.accel n
    let tlf := if c.tlHist.isEmpty then tl else c.tlf + gain1 s.periodS (r.AXn_IMP_FILT n) * (tl - c.tlf)
    let w := (r.AXn_IMP_WIN n / s.periodS + 1 / 2).floor.toNat
    let step := if w = 0 then 0 else match c.tlHist[w - 1]? with | some v => tlf - v | none => 0
    let hit := r.AXn_IMP_CFG n != 0 && decide (r.AXn_IMP_DT n < absR step) && !c.tlHist.isEmpty
    s.modCmd n (fun c => { c with
      tlf := tlf, tlHist := (tlf :: c.tlHist).take (max w 1), impactNext := if hit then some step else none })

/-- May an impact's response act: not in a STOP under BRAKE, SS1 or a fault reaction? -/
def State.impactActs (s : State) (n : Fin 6) : Bool :=
  !(s.ax[n].state == .stop && s.ax[n].stopKind != .command)

/-- An impact acts at a boundary. -/
def State.impactTake (s : State) (n : Fin 6) : State :=
  let c := s.cmd.ax[n]
  match c.impactNext with
  | none => s
  | some step =>
    let resp := s.regs.AXn_IMP_CFG n
    let s := s.modCmd n (fun c => { c with
      impactNext := none, impacts := satInc 16 c.impacts
      impact := if 2 ≤ resp ∧ s.impactActs n then some (resp, s.tb + nsOf (s.regs.AXn_IMP_HOLD n)) else c.impact })
    if c.impact.isSome then s
    else s.event s.tb (Unit.ax n) 0x0A03 (resp + (if step < 0 then 256 else 0)) (twos 4 step.floor)

/-- The response in force: 2 boost, 3 yield, 0 none. -/
def State.impactResp (s : State) (n : Fin 6) : Nat :=
  match s.cmd.ax[n].impact with
  | some (k, _) => if s.impactActs n then k else 0
  | none => 0

/-! ## Winch (R251, R252) -/

/-- Motor speed of a line speed, rpm. -/
def State.lineRpm (s : State) (n : Fin 6) (v : Rat) : Rat :=
  v * s.regs.AXn_WN_G n * 60 / (2 * Config.pi * s.regs.AXn_WN_R n)

/-- The pay-out speed of render, rpm. -/
def State.renderRpm (s : State) (n : Fin 6) : Rat := -(s.lineRpm n (s.regs.AXn_WN_RND_SPD n))

/-- Tension of a tick, the sensor record, and the start and the release condition of render. `total` and `inertia`: the torque and the
inertia, summed over the group, whose tension is estimated (R251). -/
def State.winchTick (s : State) (n : Fin 6) (total inertia : Rat) (ta : Nat) : State :=
  let r := s.regs
  let c := s.cmd.ax[n]
  let i : Fin 32 := Fin.ofNat 32 (r.AXn_WN_CFG_LC_AIN n)
  let a := s.sns.ain[i]
  let en := r.AXn_WN_CFG_LC_EN n
  let est := !en || a.range
  let f := if est then (total - inertia * s.accel n) * r.AXn_WN_G n / r.AXn_WN_R n else a.val
  let mode := c.mode == 1 || c.mode == 3
  let start := r.AXn_WN_CFG_RND_EN n && mode && !c.render && s.ax[n].state == .run && decide (r.AXn_WN_RND_F n ≤ f)
  let low := decide (f < r.AXn_WN_RND_F n - r.AXn_WN_RND_HYST n)
  let s := s.modCmd n (fun c => { c with
    tension := f, fEst := est, renderNext := if start then some true else none
    renderAt := if start then (if est then ta else a.heldAt) else c.renderAt
    renderLow := if c.render ∧ low then some (c.renderLow.getD s.tick.began) else none
    payout := if c.render then c.payout - s.ax[n].eng.speed * 2 * Config.pi * r.AXn_WN_R n / (60 * r.AXn_WN_G n) * s.periodS
      else c.payout })
  if en ∧ est ≠ c.fEst then s.event ta (Unit.ax n) 0x0908 (b2n est) (twos 4 (f / 100).floor) else s

/-- Render starts at a boundary; under BRAKE and SS1 it ends without a record. -/
def State.renderTake (s : State) (n : Fin 6) : State :=
  let c := s.cmd.ax[n]
  let x := s.ax[n]
  let up := x.state == .run || (x.state == .stop && x.stopKind == .command)
  if c.renderNext = some true ∧ up then
    (s.modCmd n (fun c => { c with render := true, renderNext := none, renderLow := none, payout := 0 })).event c.renderAt
      (Unit.ax n) 0x0906 1 (twos 4 (c.tension / 100).floor)
  else s.modCmd n (fun c => { c with render := c.render && up, renderNext := none })

/-- `RENDER_END`: at the first boundary after the tension has stayed low for RND_HOLD (R252). -/
def State.renderEnd (s : State) (n : Fin 6) : State :=
  let c := s.cmd.ax[n]
  match c.renderLow with
  | some t =>
    if c.render && s.atBoundary && decide (t + nsOf (s.regs.AXn_WN_RND_HOLD n) < s.tb) then
      (s.modCmd n (fun c => { c with render := false, renderLow := none, r := s.ax[n].eng.speed, a := 0 })).event s.tb (Unit.ax n) 0x0906 0
        (twos 4 (c.payout * 1000).floor)
    else s
  | none => s

def execRenderEnd (dt : Nat) (n : Fin 6) (s : State) : Host.Outcome State Fault Refusal :=
  let s := s.advance dt
  done (if s.running then s.renderEnd n else s)

/-! ## Limits (R265, R268) -/

/-- The limits of the axis: TQ_POS_eff and TQ_NEG_eff (R265). R252 permits the speed loop to exceed the render cap; R265, which forms the
limits, does not lift it. -/
def State.tqLimits (s : State) (n : Fin 6) : Rat × Rat :=
  let r := s.regs
  let c := s.cmd.ax[n]
  let tmax := r.AXn_MTPA_TMAX n
  let speed := s.ax[n].eng.speed
  let resp := s.impactResp n
  let wide := r.AXn_ICE_CFG_EN n || c.crash || resp == 2
  let lp := if wide then tmax else r.AXn_TQ_POS n
  let ln := if wide then tmax else r.AXn_TQ_NEG n
  let lp := if c.render then min lp (r.AXn_WN_RND_F n * r.AXn_WN_R n / r.AXn_WN_G n) else lp
  let lp := if resp = 3 then min lp (r.AXn_IMP_YIELD_T n) else lp
  let ln := if resp = 3 then min ln (r.AXn_IMP_YIELD_T n) else ln
  let kr := s.kReg n
  let km := s.kMot n
  let l := if 0 ≤ speed then (lp * km, ln * kr) else (lp * kr, ln * km)
  (min l.1 tmax, min l.2 tmax)

/-! ## Ramp and loops (R248 to R251, R261, R262) -/

/-- One step of the ramp (R248): reference and rate from `r` and `a`. -/
def rampStep (r a nCmd acc dec j ts : Rat) : Rat × Rat :=
  let dn := nCmd - r
  let lim := if r = 0 ∨ signR dn = signR r then acc else dec
  let aw := signR dn * (if j = 0 then lim else min lim (sqrtR (2 * j * absR dn)))
  let a := a + (if j = 0 then aw - a else clampR (-(j * ts)) (j * ts) (aw - a))
  if absR dn ≤ absR a * ts then (nCmd, 0) else (r + a * ts, a)

/-- The loop that acts on an axis: 1 speed, 2 torque, 3 tension; and the speed it is to reach. -/
def State.loopGoal (s : State) (n : Fin 6) : Nat × Rat :=
  let r := s.regs
  let c := s.cmd.ax[n]
  let top := r.AXn_SPD_MAX n
  if s.ax[n].state = .stop then (1, 0)
  else if c.render then (1, clampR (-top) top (s.renderRpm n))
  else if c.icePhase = 2 then (1, clampR (-top) top (-(signR c.set) * r.AXn_ICE_BACK_N n))
  else
    match c.mode with
    | 1 => (1, clampR (-top) top c.set)
    | 2 => (2, 0)
    | 3 => (3, 0)
    | _ => (1, 0)

/-- The group of the axis stops by its loss policy (R290). -/
def State.groupStop (s : State) (n : Fin 6) : Bool :=
  match s.memberOf n with
  | some (g, _) => s.shr[g].gstop
  | none => false

/-- Acceleration, deceleration and jerk in force (R248, R263, R266). A group stop runs like a ramp stop (R290; DEDUCED, log 143). -/
def State.rampRates (s : State) (n : Fin 6) : Rat × Rat × Rat :=
  let r := s.regs
  let x := s.ax[n]
  if (x.state = .stop ∧ x.stopKind ≠ .command) ∨ s.groupStop n then (r.AXn_STOP_DEC n, r.AXn_STOP_DEC n, 0)
  else if s.cmd.ax[n].crash then (r.AXn_CRASH_ACC n, r.AXn_CRASH_ACC n, 0)
  else (r.AXn_ACC n, r.AXn_DEC n, r.AXn_JERK n)

/-- A change to the speed loop starts it from the present speed and torque (R241, R263), and after a CATCH from its result (R243). -/
def State.speedBegin (s : State) (n : Fin 6) : State :=
  s.modCmd n (fun c =>
    if (s.loopGoal n).1 ≠ 1 then { c with preset := false }
    else if c.speedLoop then c
    else if c.preset then { c with speedLoop := true, tensLoop := false, preset := false }
    else { c with r := c.nf, a := 0, int := c.tStar, speedLoop := true, tensLoop := false })

/-- The ramp of a tick. In the reverse case of a CATCH the reference stands at zero until the rotor turns no more against the
command (R223); under yield it follows the speed (R260). -/
def State.rampTick (s : State) (n : Fin 6) (goal : Rat) : State :=
  let q := s.rampRates n
  let top := s.regs.AXn_SPD_MAX n
  let speed := s.ax[n].eng.speed
  s.modCmd n (fun c =>
    let rev := c.reverse && decide (speed * goal < 0)
    let r0 := if s.impactResp n = 3 ∨ (c.reverse && !rev) then c.nf else c.r
    let a0 := if s.impactResp n = 3 ∨ c.reverse then 0 else c.a
    let st := if rev ∨ s.impactResp n = 3 then (if rev then 0 else r0, 0) else rampStep r0 a0 goal q.1 q.2.1 q.2.2 s.periodS
    { c with reverse := rev, r := st.1, a := st.2, nRef := clampR (-top) top (st.1 + c.nff) })

/-- The speed loop (R249) on `nRef`, its gains and inertia times `g`, within the limits `l`: the torque before damping and the
integrator. -/
def State.speedLoop (s : State) (n : Fin 6) (g nRef : Rat) (l : Rat × Rat) : Rat × Rat :=
  let r := s.regs
  let c := s.cmd.ax[n]
  let ts := s.periodS
  let ice := r.AXn_ICE_CFG_EN n && c.mode == 1
  let kp := if ice then r.AXn_ICE_KP n else r.AXn_SPD_KP n
  let ki := if ice then r.AXn_ICE_KI n else r.AXn_SPD_KI n
  let e := nRef - c.nf
  let tff := g * r.AXn_INERTIA n * (c.a + (c.nff - c.nffPrev) / ts) * 2 * Config.pi / 60
  let t := g * kp * e + c.int + tff
  let tc := clampR (-l.2) l.1 t
  (t, if tc = t ∨ signR e ≠ signR (t - tc) then c.int + g * ki * ts * e else c.int)

/-- The speed limiter of R250: the torque it leaves, and whether it acts. -/
def State.speedCap (s : State) (n : Fin 6) (t : Rat) : Rat × Bool :=
  let v := s.ax[n].eng.speed
  let past := absR v - s.regs.AXn_TQ_NLIM n
  let cut := s.regs.AXn_TQ_NKP n * past
  if signR v = signR t ∧ t ≠ 0 ∧ 0 < past ∧ 0 < cut then (signR t * max 0 (absR t - cut), true) else (t, false)

/-- The damping torque and the state of its filter (R261). -/
def State.dampTick (s : State) (n : Fin 6) : Rat × (CmdAx → CmdAx) :=
  let r := s.regs
  let c := s.cmd.ax[n]
  let x := s.ax[n]
  if r.AXn_TD_K n ≤ 0 ∨ (x.state ≠ .run ∧ x.state ≠ .stop) ∨ x.eng.angSrc = .ifr then
    (0, fun c => { c with tdX1 := 0, tdX2 := 0, tdY1 := 0, tdY2 := 0 })
  else
    let w := angleOf (r.AXn_TD_F n * s.periodS / 2)
    let k := sinA w / cosA w
    let q := r.AXn_TD_Q n
    let d := 1 + k / q + k * k
    let v := x.eng.speed
    let y := (k / q / d) * (v - c.tdX2) - (2 * (k * k - 1) / d) * c.tdY1 - ((1 - k / q + k * k) / d) * c.tdY2
    (-(r.AXn_TD_K n) * y, fun c => { c with tdX2 := c.tdX1, tdX1 := v, tdY2 := c.tdY1, tdY1 := y })

/-- Is T* not followed: the engine imposes its currents (R249)? -/
def State.imposed (s : State) (n : Fin 6) : Bool :=
  s.ax[n].eng.ifPhase == .align || s.ax[n].eng.ifPhase == .ramp

/-- The loop of a tick within the limits `l`, gains and inertia times `g` (R249 to R252, R262, R265). `damp`: the damping
torque to add. `pre`: the torque that the loop is to give in this tick, by its integrator (R289). In the pause of a free-up T* slews to
zero and stands there: no damping torque acts, and the ramp stands at the speed. -/
def State.loopTick (s : State) (n : Fin 6) (g : Rat) (l : Rat × Rat) (damp : Rat) (pre : Option Rat := none) : State :=
  let s := s.speedBegin n
  let r := s.regs
  let goal := s.loopGoal n
  let ts := s.periodS
  let out (s : State) (t : Rat) (rebase : Bool) : State :=
    let ts := clampR (-l.2) l.1 (t + damp)
    s.modCmd n (fun c =>
      let c := { c with tStar := ts, tLoop := clampR (-l.2) l.1 t, idSup := 0 }
      if rebase ∧ ts ≠ t + damp ∧ signR (t + damp - ts) = signR c.a then { c with r := c.nf, a := 0 } else c)
  match goal.1 with
  | 1 =>
    let s := (s.rampTick n goal.2).modCmd n (fun c => { c with nlim := false })
    let c := s.cmd.ax[n]
    if s.imposed n then s
    else if c.icePhase = 1 then
      let d := r.AXn_TQ_SLEW n * ts
      let t := c.tStar + clampR (-d) d (-c.tStar)
      s.modCmd n (fun c => { c with tStar := t, tLoop := t, idSup := 0, r := c.nf, a := 0 })
    else
      let s := match pre with
        | some t => s.modCmd n (fun c => { c with int := c.int + t - (s.speedLoop n g c.nRef l).1 })
        | none => s
      let q := s.speedLoop n g c.nRef l
      out (s.modCmd n (fun c => { c with int := q.2 })) q.1 true
  | 2 =>
    let c := s.cmd.ax[n]
    let q := s.speedCap n (clampR (-l.2) l.1 c.set)
    let d := r.AXn_TQ_SLEW n * ts
    let t := match pre with | some t => t | none => c.tLoop + clampR (-d) d (q.1 - c.tLoop)
    let i := 3 / 2 * (r.AXn_FOC_CFG_POLES n : Rat) * r.AXn_MOT_PSI n * r.AXn_IF_I n
    let nref := if absR t < i then 0 else signR t * (3 / 2 * r.AXn_OBS_NMIN n)
    out (s.modCmd n (fun c => { c with speedLoop := false, tensLoop := false, nlim := q.2, nRef := nref })) t false
  | _ =>
    let c := s.cmd.ax[n]
    let base := c.set * r.AXn_WN_R n / r.AXn_WN_G n
    let e := c.set - c.tension
    let i0 := match pre with
      | some t => t - base - g * r.AXn_WN_KP n * e
      | none => if c.tensLoop then c.intF else 0
    let t := base + g * r.AXn_WN_KP n * e + i0
    let tc := clampR (-l.2) l.1 t
    let i1 := if tc = t ∨ signR e ≠ signR (t - tc) then i0 + g * r.AXn_WN_KI n * ts * e else i0
    let q := s.speedCap n tc
    out (s.modCmd n (fun c => { c with speedLoop := false, tensLoop := true, intF := i1, nlim := q.2 })) q.1 false

/-- The stall watch of ice mode (R262). A command of mode 0, BRAKE or SS1 ends a free-up. -/
def State.iceTick (s : State) (n : Fin 6) (l : Rat × Rat) (ta : Nat) : State :=
  let r := s.regs
  let c := s.cmd.ax[n]
  let on := r.AXn_ICE_CFG_EN n && c.mode == 1 && s.ax[n].state == .run
  if !on then s.modCmd n (fun c => { c with icePhase := 0, iceSince := none, iceFast := none })
  else
    let v := absR s.ax[n].eng.speed
    let dir := signR c.set
    let atLim := (dir == 1 && c.tStar == l.1) || (dir == -1 && c.tStar == -l.2)
    let fast := decide (2 * r.AXn_ICE_NSTALL n < v)
    let since := if fast then some (c.iceFast.getD s.tb) else none
    let calm := match since with | some t => decide (t + 5000000000 ≤ s.tb) | none => false
    s.modCmd n (fun c => { c with
      iceSince := if c.icePhase = 0 ∧ v < r.AXn_ICE_NSTALL n ∧ atLim then some (c.iceSince.getD ta) else none
      iceFast := since, stalls := if calm then 0 else c.stalls
      iceAt := if c.icePhase = 1 ∧ c.tStar ≠ 0 then ta else c.iceAt })

/-- Does the axis have a loop in this tick: RUN, STOP, or a start in I-f (R220)? -/
def State.looping (s : State) (n : Fin 6) : Bool :=
  let x := s.ax[n]
  x.state == .run || x.state == .stop || (x.state == .catching && x.cat.decided && x.eng.ifPhase != .none)

/-- The end of a crash stop in the work of a tick: its loop has brought the reference to the setpoint, a command was written, or the source
has changed. -/
def State.crashTick (s : State) (n : Fin 6) (ta : Nat) : State :=
  let c := s.cmd.ax[n]
  if c.crash ∧ (c.crashSeen ∨ c.srcNext ≠ c.src ∨ (s.looping n ∧ c.speedLoop ∧ c.r = clampR (-(s.regs.AXn_SPD_MAX n)) (s.regs.AXn_SPD_MAX n) c.crashSet)) then
    (s.modCmd n (fun c => { c with crash := false, crashOff := false, crashSeen := false })).event ta (Unit.ax n) 0x0A05 0
      (rpm10 c.crashSet)
  else s

/-- What every tick does for a main axis before its loop: watch, filtered speed, thermal model, load torque. -/
def State.axisTick (s : State) (n : Fin 6) : State :=
  let ta := s.tickEnd
  let s := s.dcFactors n s.sns.ain[s.vdcAin n].heldAt
  let s := (s.speedTick n).thermTick n ta
  s.loadTick n

/-- The axis has no loop of a group any more: what it does next starts from its own torque (R263, R286). -/
def State.leaveGroup (s : State) (n : Fin 6) : State :=
  s.modCmd n (fun c => if c.grp then { c with speedLoop := false, tensLoop := false, grp := false } else c)

/-- The loop of an axis that no share group commands. An axis of a group that has no slot with the address of this device is isolated: it
has no command (R558). -/
def State.soloTick (s : State) (n : Fin 6) : State :=
  let ta := s.tickEnd
  let c := s.cmd.ax[n]
  let s := if s.regs.AXn_SHR_CFG n < 16 ∧ (s.memberOf n).isNone then s.takeCommand n c.ownSrc 0 0 false
    else s.takeCommand n c.ownSrc c.ownMode c.ownSet c.ownHeave
  let s := (s.leaveGroup n).heaveTick n ta
  let s := s.winchTick n c.tStar (s.regs.AXn_INERTIA n) ta
  if !s.looping n then
    (s.modCmd n (fun c => { c with tStar := 0, tLoop := 0, speedLoop := false, tensLoop := false, icePhase := 0 })).crashTick n ta
  else
    let l := s.tqLimits n
    let d := s.dampTick n
    let s := s.loopTick n 1 l d.1
    ((s.modCmd n d.2).iceTick n l ta).crashTick n ta

/-- References, source, command and responses of an axis at the boundary that ends a tick (R30, R243). A command of mode 0 waits for the
end of render (R252). A SOURCE record has a binding as its cause where the binding becomes the source, and where it ceases to be it for any
other than the token holder (R5; DESIGN CHOICE, log 144). -/
def State.axisBoundary (s : State) (n : Fin 6) : State :=
  let c := s.cmd.ax[n]
  let s := s.modAx n (fun x => { x with
    refT := c.tStar, refId := c.idSup, refN := c.nRef })
  let s := if c.srcNext = c.src then s
    else (s.modCmd n (fun x => { x with src := x.srcNext })).event s.tb (Unit.ax n) 0x0901 (c.srcNext + 16 * c.src) c.mode
      (if c.srcNext = 2 ∨ (c.src = 2 ∧ c.srcNext ≠ 1) then s.bindFlag n else 0)
  let s := s.foldTake n
  let s := s.impactTake n
  let s := s.crashTake n
  let m := s.cmd.ax[n].mode
  let s :=
    match s.ax[n].state with
    | .ready =>
      if s.driving ∧ c.startNext then
        if s.mayStart (axis10 n) then s.startNow (axis10 n)
        else s.modAx n (fun x => { x with startWait := some (x.startWait.getD s.tb) })
      else if m = 0 then s.modAx n (fun x => { x with startWait := none })
      else s
    | .run => if s.driving ∧ m = 0 ∧ !s.cmd.ax[n].render then s.axStop n StopKind.command else s
    | .stop => if s.driving ∧ m ≠ 0 ∧ s.ax[n].stopKind = StopKind.command then s.runAgainFromStop n else s
    | _ => s
  let s := s.modCmd n (fun c => { c with startNext := false })
  s.renderTake n

/-! ## Axis clear (R246) -/

/-- Why an axis may not be cleared: 0 it may, else the code of `DEV_AXCLR_STAT`. -/
def State.clearCode (s : State) (a : Fin 10) : Nat :=
  let halt : Bool := match mainOf a with | some n => s.ax[n].state == .halt | none => s.aux[auxOf a].state == .halt
  let reason : Nat := match mainOf a with | some n => s.ax[n].haltReason | none => s.aux[auxOf a].haltReason
  let both := match mainOf a with
    | some _ => false
    | none => s.limBoth (auxOf a)
  if !halt then 1
  else if !s.detectorsQuiet a then 2
  else if reason = 0x0609 ∧ !s.gd.ax[a].testPassed then 3
  else if both then 4
  else 0

/-- Completion of the pair of `DEV_AXCLR`. -/
def doAxisClear (c : Ctx) (s : State) (w : Word) : Res :=
  needRights true c s fun s =>
    let named (a : Fin 10) : Bool := if a.val < 6 then bit w a.val else bit w (a.val + 2)
    let any := (List.finRange 10).filter named
    if any.isEmpty then nak s St.range
    else
      let code (a : Fin 10) : Nat := if named a then s.clearCode a else 0
      let fresh := any.filter (fun a => code a == 0 && s.cmd.clears.all (fun k => k.axis != a))
      let s1 := (s.onCmd (fun x => { x with
        clearRef := Vector.ofFn code
        clears := x.clears ++ fresh.map (fun a => { axis := a, port := (clsPort c.o.cls).val, at' := s.tb, ok := none }) })).onFreeIx
          (· + 10)
      if any.any (fun a => code a != 0) then nak s1 St.state else ack s1

/-- `AXIS_CLEAR_COMMAND`. -/
def execAxisClearCommand (dt : Nat) (o : Origin) (ax : BitVec 6) (aux : BitVec 4) (s : State) :
    Host.Outcome State Fault Refusal :=
  done ((s.advance dt).entry o 2 (some Reg.DEV_AXCLR) (fun c s => doAxisClear c s (w32 (ax.toNat + 256 * aux.toNat)))
    (ws := [w32 (ax.toNat + 256 * aux.toNat)]))

/-- The work of the first tick that started after the command tests the conditions again. -/
def State.clearTick (s : State) : State :=
  let due (k : AxClear) : Bool := k.ok.isNone && decide (k.at' < s.tick.workBegan)
  (s.onCmd (fun x => { x with
    clears := x.clears.map (fun k => if due k then { k with ok := some (s.clearCode k.axis == 0) } else k)
    clearRef := x.clears.foldl (fun v k =>
      if due k && s.clearCode k.axis != 0 then vset v k.axis (fun _ => s.clearCode k.axis) else v) x.clearRef })).onFreeIx (· + 10)

/-- One axis is cleared at a boundary. -/
def State.clearOne (s : State) (k : AxClear) : State :=
  let a := k.axis
  let safe := s.mode.mode == .safe
  let reason := match mainOf a with | some n => s.ax[n].haltReason | none => s.aux[auxOf a].haltReason
  let s := match mainOf a with
    | some n => s.modAx n (fun x => { x with state := if safe then .off else .ready, haltReason := 0 })
    | none => if safe then s.modAux (auxOf a) (fun x => { x with state := .off, haltReason := 0 }) else s.auxReady (auxOf a)
  (s.event s.tb (Unit.axis a) 0x0905 reason k.port).clearLatch a

/-- The accepted clears whose tick has passed act at its boundary. -/
def State.clearTake (s : State) : State :=
  let now := s.cmd.clears.filter (fun k => k.ok == some true)
  now.foldl State.clearOne (s.onCmd (fun x => { x with clears := x.clears.filter (fun k => k.ok.isNone) }))

end Sys2Proof.Machine
end

