-- ==== Sys2Proof/Machine/Operands.lean ====
section
/-! DEFINITION. The operand forms of the register words: a word against the ranges of its row (code 0x0118, R9, R96),
the form in which it is stored, and the classes of address a request may name (R513 to R517). -/
namespace Sys2Proof.Machine

/-- Is the field a binary32 quantity? -/
def rngFloat : Rng → Bool
  | .fAny | .f _ _ | .fz _ _ | .fnp _ _ => true
  | _ => false

/-- The data lengths of CAN and CAN FD. -/
def canLens : List Nat := [0, 1, 2, 3, 4, 5, 6, 7, 8, 12, 16, 20, 24, 32, 48, 64]

/-- Does a field's content lie in its stated range (code 0x0118)? -/
def fldWithin (f : Fld) (w : Word) : Bool :=
  let v := fld w f.lo f.width
  let inF (lo hi : Nat) (x : Word) : Bool :=
    decide (f32ToRat (w32 lo) ≤ f32ToRat x) && decide (f32ToRat x ≤ f32ToRat (w32 hi))
  match f.rng with
  | .any => true
  | .le hi => decide (v ≤ hi)
  | .btw lo hi => decide (lo ≤ v) && decide (v ≤ hi)
  | .zeroOr lo hi => v == 0 || (decide (lo ≤ v) && decide (v ≤ hi))
  | .leOr hi x => decide (v ≤ hi) || v == x
  | .ones m => (v &&& m) == m
  | .mult8 lo hi => decide (lo ≤ v) && decide (v ≤ hi) && v % 8 == 0
  | .sel => v / 512 % 64 == 0
  | .canLen => canLens.contains v
  | .fAny => (f32Norm w).isSome
  | .f lo hi => match f32Norm w with | some x => inF lo hi x | none => false
  | .fz lo hi => match f32Norm w with | some x => x == 0 || inF lo hi x | none => false
  | .fnp lo hi => match f32Norm w with | some x => decide (f32ToRat x ≤ 0) || inF lo hi x | none => false

/-- The bits of a word that its fields cover. -/
def rowMask (r : RegRow) : Nat := r.flds.foldl (fun m f => m ||| ((2 ^ f.width - 1) <<< f.lo)) 0

/-- A word that every field of its row admits, with every reserved bit zero (code 0x0118). -/
def rowAdmits (r : RegRow) (w : Word) : Bool :=
  r.flds.all (fun f => fldWithin f w) && (w &&& ~~~ (w32 (rowMask r))) == 0

/-- The word as it is stored: a subnormal and −0.0 are +0.0 (R9). -/
def rowNorm (r : RegRow) (w : Word) : Word :=
  if r.flds.any (fun f => rngFloat f.rng) then (f32Norm w).getD w else w

/-- The areas of the address map (R513, Table 1 of the address map). -/
inductive Area where
  | regs | keep | sram | absent
  deriving DecidableEq, Repr

/-- The area in which an address lies. -/
def areaOf (a : Nat) : Area :=
  if a < 0xD0000 ∧ ¬(0x1C000 ≤ a ∧ a < 0x20000) ∧ ¬(0x24000 ≤ a ∧ a < 0x30000) ∧ ¬(0xB0000 ≤ a ∧ a < 0xC0000) then .regs
  else if 0x100000 ≤ a ∧ a < 0x140000 then .keep
  else if 0x1000000 ≤ a ∧ a < 0x1400000 then .sram
  else .absent

/-- The range of addresses that an image section covers (R513, Table 4 of the start-up chapter): first address and the one
after the last; `none` for an unknown identifier. -/
def sectionRange : Nat → Option (Nat × Nat)
  | 1 => some (0, 0x8000)
  | 2 => some (0x8000, 0x10000)
  | 3 => some (0x10000, 0x1C000)
  | 4 => some (0x20000, 0x24000)
  | 5 => some (0x30000, 0x40000)
  | 6 => some (0x40000, 0x50000)
  | 7 => some (0x50000, 0x60000)
  | 8 => some (0x60000, 0x70000)
  | 9 => some (0x70000, 0x80000)
  | 10 => some (0x80000, 0x88000)
  | 11 => some (0x88000, 0x90000)
  | 12 => some (0x90000, 0xA0000)
  | 13 => some (0xA0000, 0xB0000)
  | 14 => some (0xC0000, 0xD0000)
  | _ => none

end Sys2Proof.Machine
end

