-- ==== Sys2Proof/Machine/Runs.lean ====
section
/-! DEFINITION. Records in a run (R389): the first event of a run writes a record; while events continue a further one is
written at the end of each 100 ms in which an event fell; 100 ms without an event close the run. The 100 ms are measured on the clock that no
load of TB_NOW moves; the TIME of a record is the stamp of its first event. -/
namespace Sys2Proof.Machine

/-- 100 ms. -/
abbrev runNs : Nat := 100000000

/-- What a run that has come to `t` still owes: the record of the 100 ms that have ended (TIME and count), and whether it
has closed. -/
def Run.due (r : Run) (t : Nat) : Run × Option (Nat × Nat) :=
  if !r.isOpen || decide (t < r.lastRec + runNs) then
    (if r.isOpen && decide (r.lastEv + runNs ≤ t) then {} else r, none)
  else if r.count = 0 then ({}, none)
  else
    let r' : Run := if r.lastEv + runNs ≤ t then {} else { r with lastRec := r.lastRec + runNs, first := none, count := 0 }
    (r', some (r.first.getD 0, r.count))

/-- An event of the run's kind at `t`, after `due`, with its stamp: the record of an event that opens a run. -/
def Run.note (r : Run) (t stamp : Nat) : Run × Option (Nat × Nat) :=
  if r.isOpen then ({ r with lastEv := t, first := some (r.first.getD stamp), count := r.count + 1 }, none)
  else ({ isOpen := true, lastRec := t, lastEv := t }, some (stamp, 1))

/-- An event at `t`: the records it brings, oldest first. -/
def Run.event (r : Run) (t stamp : Nat) : Run × List (Nat × Nat) :=
  let a := r.due t
  let b := a.1.note t stamp
  (b.1, a.2.toList ++ b.2.toList)

end Sys2Proof.Machine
end

