-- ==== Sys2Proof/Machine/Can.lean ====
section
/-! DEFINITION. The CAN controllers (chapter 16). -/
namespace Sys2Proof.Machine

def State.modCan (s : State) (n : Fin 2) (f : CanCtl → CanCtl) : State := s.onCan (fun v => vset v n f)

/-- FLAGS bit 2 of a record of a frame on a controller that uses the heritage profile (R5). -/
def State.canFlag (s : State) (n : Fin 2) : Nat := if s.regs.CANn_CFG_PROFILE n then 4 else 0

/-- Class A or B: the controller sends (R427, R438). -/
def State.canSends (s : State) (n : Fin 2) : Bool := s.regs.CANn_CFG_BIND n == 1 || s.regs.CANn_CFG_BIND n == 2

/-- Listen-only is in force (R426). -/
def State.canListen (s : State) (n : Fin 2) : Bool := s.can[n].abd.run || s.regs.CANn_CFG_LISTEN n

/-- HOLD entry: every bound controller starts, with rate detection where ABD is set (R425, R426). -/
def State.canStart (s : State) : State :=
  (List.finRange 2).foldl (fun (s : State) (n : Fin 2) =>
    if s.regs.CANn_CFG_BIND n = 0 then s.modCan n (fun _ => {})
    else
      let abd := s.regs.CANn_CFG_ABD n
      s.modCan n (fun _ => { started := true, integrating := !abd, abd := { run := abd, since := s.tb } })) s

/-- A CAN event (R444). -/
def State.canEvent (s : State) (n : Fin 2) (time code detail value : Nat) (flags : Nat := 0) : State :=
  s.event time (Unit.can n) code detail value flags

/-! ## Bus state (R439 to R442) -/

/-- `CANn_STAT.BUS`: 0 active, 1 passive, 2 bus-off, 3 not running or integrating. -/
def CanCtl.bus (x : CanCtl) : Nat :=
  if x.busOff then 2 else if !x.started || x.integrating || x.abd.run then 3 else if 128 ≤ x.tec ∨ 128 ≤ x.rec' then 1 else 0

/-- Does the controller take part in bus traffic? -/
def State.canOn (s : State) (n : Fin 2) : Bool := s.running && decide (s.can[n].bus ≤ 1)

/-- Identifier of a frame as records show it: IDE in bit 31. -/
def idWord (id : Nat) (ide : Bool) : Nat := id + (if ide then 0x80000000 else 0)

/-- A pending frame of a slot; a base identifier sits in the low 11 bits. A host slot sends what its format says (log 138). -/
def State.txFrame (s : State) (n : Fin 2) : TxSlot → Option TxFrame
  | .safety c => s.can[n].txSaf[c]
  | .periodic k => s.can[n].txPer[k]
  | .host h =>
    if s.can[n].host[h].state = 1 then
      let r := s.regs
      let data := (List.range 16).flatMap (fun i => leBytes 4 (r.CANn_TXHh_DATA_i n h i).toNat)
      some ⟨if r.CANn_TXHh_ID_IDE n h then r.CANn_TXHh_ID_ID n h else r.CANn_TXHh_ID_ID n h % 2048, r.CANn_TXHh_ID_IDE n h, r.CANn_TXHh_FMT_FDF n h, r.CANn_TXHh_FMT_BRS n h,
        data.take (r.CANn_TXHh_FMT_LEN n h), s.can[n].host[h].since⟩
    else none

/-- The slots of a controller in the order between equal identifiers: safety, periodic, host, each by slot number (R438). -/
def txSlots : List TxSlot :=
  (List.finRange 16).map TxSlot.safety ++ (List.finRange 8).map TxSlot.periodic ++ (List.finRange 4).map TxSlot.host

/-- The place of an identifier in the arbitration of the bus, the lowest wins: the first 11 bits, then the base format before the extended
one, then the other 18 bits. -/
def arbKey (id : Nat) (ide : Bool) : Nat := if ide then id / 0x40000 * 0x80000 + 0x40000 + id % 0x40000 else id * 0x80000

/-- The frame of a slot goes first: no frame that was pending before the start of frame, at `sof`, precedes it (R438). -/
def State.canFirst (s : State) (n : Fin 2) (slot : TxSlot) (f : TxFrame) (sof : Nat) : Bool :=
  txSlots.all (fun q => match s.txFrame n q with
    | some g => q == slot || decide (sof ≤ g.since) || decide (arbKey f.id f.ide < arbKey g.id g.ide)
        || (arbKey f.id f.ide == arbKey g.id g.ide && decide (txSlots.idxOf slot ≤ txSlots.idxOf q))
    | none => true)

/-- The SAME_ID run of a slot. -/
def State.sameOf (s : State) (n : Fin 2) (slot : TxSlot) : Option SameId := s.can[n].same.find? (fun r => r.slot == slot)

/-- The SAME_ID run of a slot, if there is one, ends (R441): 1 sent, 2 cancelled, 3 bus-off. -/
def State.sameEnd (s : State) (n : Fin 2) (slot : TxSlot) (how : Nat) : State :=
  match s.sameOf n slot with
  | some r =>
    let id := match s.txFrame n slot with | some f => idWord f.id f.ide | none => 0
    (s.modCan n (fun x => { x with same := x.same.filter (fun q => q.slot != slot), sameIds := satInc 16 x.sameIds })).canEvent n r.first 0x1002
      (min r.count 0xFFF + how * 0x1000) id
  | none => s

/-- The counters change; a change among active, passive and bus-off writes a BUS_STATE record, and bus-off ends every pending
frame (R439, R442). -/
def State.canCount (s : State) (n : Fin 2) (tec rc : Nat) : State :=
  let old := s.can[n].bus
  if s.can[n].tec < 256 && 256 ≤ tec && old ≤ 1 then
    let s := s.can[n].same.foldl (fun (s : State) (r : SameId) => s.sameEnd n r.slot 3) s
    let s := s.modCan n (fun x => { x with
      tec := tec, rec' := rc, busOff := true, busOffs := satInc 16 x.busOffs, recov := false
      spCnt := Vector.replicate 6 none, hvCnt := Vector.replicate 6 none
      txSaf := Vector.replicate 16 none, txPer := Vector.replicate 8 none
      host := x.host.map (fun h => if h.state = 1 then { h with state := 6, cancel := false } else h) })
    s.canEvent n s.tb 0x1001 2 (min tec 255 + min rc 255 * 256)
  else
    let s := s.modCan n (fun x => { x with tec := tec, rec' := rc })
    let new := s.can[n].bus
    if new = old then s else s.canEvent n s.tb 0x1001 new (min tec 255 + min rc 255 * 256)

/-- A frame was received without error: the receive error counter falls; above 127 it is set to a value from 119 to 127 that
the standard leaves open (free, log 3). -/
def State.canGood (s : State) (n : Fin 2) : State :=
  if s.canListen n then s
  else
    let x := s.can[n]
    if x.rec' = 0 then s
    else if x.rec' ≤ 127 then s.canCount n x.tec (x.rec' - 1)
    else
      let f := s.fresh
      f.2.canCount n x.tec (119 + (Config.freeWord f.1).toNat % 9)

/-! ## Rate detection (R426) -/

/-- The nominal bit rate of a candidate, bit/s (R424). -/
def State.canRate (s : State) (n : Fin 2) (k : Nat) : Nat :=
  let r := s.regs
  500000000 / ((r.CANn_NBT_k_BRP n k + 1) * (3 + r.CANn_NBT_k_TSEG1 n k + r.CANn_NBT_k_TSEG2 n k))

/-- The length of a bit and its sample point after the start of the bit, ns, in the nominal and in the data phase of a candidate; with
`TDC_EN` the second one lies as far after the transmitted edge plus the delay measured (R424). The bits themselves are no commands. -/
def Regs.canBit (r : Regs) (n : Fin 2) (k : Nat) : (Nat × Nat) × (Nat × Nat) :=
  let bit (brp seg1 seg2 : Nat) : Nat × Nat := (2 * (brp + 1) * (3 + seg1 + seg2), 2 * (brp + 1) * (2 + seg1))
  (bit (r.CANn_NBT_k_BRP n k) (r.CANn_NBT_k_TSEG1 n k) (r.CANn_NBT_k_TSEG2 n k),
    bit (r.CANn_DBT_k_BRP n k) (r.CANn_DBT_k_TSEG1 n k) (r.CANn_DBT_k_TSEG2 n k))

/-- The next candidate is tried; after a full cycle without one, one record. -/
def State.abdNext (s : State) (n : Fin 2) : State :=
  let x := s.can[n]
  let k := (x.cand + 1) % max 1 (s.regs.CANn_CFG_ABD_N n)
  let note := k == 0 && !x.abd.noted
  let s := s.modCan n (fun x => { x with cand := k, abd := { x.abd with ok := 0, since := s.tb, noted := x.abd.noted || note } })
  if note then s.canEvent n s.tb 0x1004 0 (s.canRate n k) else s

/-- A frame without error during detection: the second one fixes the candidate. -/
def State.abdGood (s : State) (n : Fin 2) : State :=
  let x := s.can[n]
  if x.abd.ok + 1 < 2 then s.modCan n (fun x => { x with abd := { x.abd with ok := x.abd.ok + 1 } })
  else
    (s.modCan n (fun x => { x with integrating := true, abd := { x.abd with run := false, ok := 0 } })).canEvent n s.tb 0x1004
      (1 + x.cand) (s.canRate n x.cand)

/-- `ABD_DWELL_END`. -/
def State.abdDwell (s : State) (n : Fin 2) : State :=
  let a := s.can[n].abd
  if s.running && a.run && decide (a.since + nsOf (s.regs.CANn_ABD_DWELL n) ≤ s.tb) then s.abdNext n else s

def execAbdDwellEnd (dt : Nat) (n : Fin 2) (s : State) : Host.Outcome State Fault Refusal := done ((s.advance dt).abdDwell n)

/-- `CAN_BUS_INTEGRATION`: a started controller has seen 11 recessive bits (R425). -/
def State.canIntegrated (s : State) (n : Fin 2) : State :=
  let x := s.can[n]
  if s.running && x.started && x.integrating then s.modCan n (fun x => { x with integrating := false, guard := false }) else s

def execCanBusIntegration (dt : Nat) (n : Fin 2) (s : State) : Host.Outcome State Fault Refusal :=
  done ((s.advance dt).canIntegrated n)

/-! ## Received frames (R428 to R437) -/

/-- What a received frame is (R428): an envelope of a connection, or its first matching filter. -/
inductive CanRole where
  | envelope (c : Fin 16)
  | filtered (f role : Nat) (record : Bool)
  | unmatched
  deriving DecidableEq, Repr

/-- The role of a received frame. -/
def State.canRole (s : State) (n : Fin 2) (f : CanFrame) : CanRole :=
  let r := s.regs
  match (List.finRange 16).find? (fun (c : Fin 16) => s.consumes c && r.SAF_CONc_CFG_CH c == 2 + n.val
      && r.SAF_CONc_ADDR c == f.id.toNat && r.SAF_CONc_CFG_IDE c == f.ide) with
  | some c => .envelope c
  | none =>
    match (List.range (r.CANn_FLT_CNT n)).find? (fun k => r.CANn_FLTf_ID_IDE n k == f.ide
        && (f.id.toNat ^^^ r.CANn_FLTf_ID_ID n k) &&& r.CANn_FLTf_MASK n k == 0) with
    | some k => .filtered k (r.CANn_FLTf_CFG_ROLE n k) (r.CANn_FLTf_CFG_REC n k)
    | none => .unmatched

/-- The DLC of a data length. -/
def dlcOf (len : Nat) : Nat := (canLens.findIdx? (· == len)).getD 15

/-- A FRAME_CAN record (R445). -/
def State.canRecord (s : State) (n : Fin 2) (sent : Bool) (time id : Nat) (ide fdf brs esi rtr : Bool) (filter dlc : Nat)
    (data : List Byte) : State :=
  s.emit time (Unit.can n) 4 (s.canFlag n)
    (leBytes 1 n ++ leBytes 1 (b2n sent) ++ leBytes 2 (b2n ide + 2 * b2n fdf + 4 * b2n brs + 8 * b2n esi + 16 * b2n rtr)
      ++ leBytes 4 id ++ leBytes 1 dlc ++ leBytes 1 data.length ++ leBytes 1 filter ++ leBytes 1 0 ++ data)

/-- A violation of a received message (R437). -/
def State.canViolation (s : State) (n : Fin 2) (f : CanFrame) (stamp st : Nat) : State :=
  let keep := s.can[n].viols.filter (fun v => decide (stamp < v + 1000000000)) ++ [stamp]
  (s.modCan n (fun x => { x with viols := keep })).emit stamp (Unit.can n) 7 (s.canFlag n)
    (leBytes 1 st ++ leBytes 1 0 ++ leBytes 2 0 ++ leBytes 2 0 ++ leBytes 1 4 ++ leBytes 1 (s.fab.addr.getD 0)
      ++ leBytes 4 (idWord f.id.toNat f.ide) ++ leBytes 2 (s.regs.CANn_CFG_BIND n) ++ leBytes 2 keep.length)

/-- A message as its bytes say it: axis, mode, run and heave bits, counter, and the values (one for a setpoint, two for a heave
message); `none` for a value that R9 or R434 refuses. -/
structure CanMsg where
  axis : Nat
  mode : Nat := 0
  run : Bool := false
  heave : Bool := false
  count : Nat
  size : Nat
  v : Option Rat
  a : Option Rat := some 0

/-- A binary32 quantity of a message. -/
def msgF32 (b : List Byte) (o : Nat) : Option Rat := (f32Norm (w32 (leAt b o 4))).map f32ToRat

/-- A 12-bit field of full scale `fs` (R434). -/
def msg12 (raw : Nat) (fs : Rat) : Option Rat :=
  if raw = 2048 then none
  else some ((((if raw < 2048 then (raw : Int) else (raw : Int) - 4096) : Int) : Rat) * fs / 2047)

/-- Does the data part complement its second half (R432, R433)? -/
def pairOk (prof : Bool) (b : List Byte) : Bool :=
  let h := b.length / 2
  if prof then b.drop 4 == complBytes (b.take 4) else b.drop h == complBytes (b.take h)

/-- The full scale of a heritage setpoint. -/
def State.msgScale (s : State) (axis mode : Nat) : Rat :=
  match mode with
  | 1 => s.regs.AXn_SPD_MAX axis
  | 2 => s.regs.AXn_MTPA_TMAX axis
  | 3 => s.regs.AXn_WN_RND_F axis
  | _ => 0

/-- A setpoint message, `none` where its format is not that of Table 3 or 4. -/
def State.parseSet (s : State) (n : Fin 2) (f : CanFrame) : Option CanMsg :=
  let b := f.data
  if s.regs.CANn_CFG_PROFILE n then
    let w0 := be16At b 0
    let w1 := be16At b 2
    if f.fdf || f.rtr || b.length != 8 || w1 / 256 % 8 != 0 then none
    else
      let m := w1 / 4096 % 8
      some { axis := w0 / 4096, mode := m, run := w1.testBit 15, heave := w1.testBit 11, count := w1 % 256, size := 256
             v := msg12 (w0 % 4096) (s.msgScale (w0 / 4096) m) }
  else
    let x := byteAt b 1
    if !f.fdf || f.rtr || b.length != 16 || x / 32 != 0 || byteAt b 3 != 0 then none
    else some { axis := byteAt b 0, mode := x % 8, run := x.testBit 3, heave := x.testBit 4, count := byteAt b 2, size := 256
                v := msgF32 b 4 }

/-- A heave message. -/
def State.parseHeave (s : State) (n : Fin 2) (f : CanFrame) : Option CanMsg :=
  let b := f.data
  if s.regs.CANn_CFG_PROFILE n then
    let w0 := be16At b 0
    let w1 := be16At b 2
    if f.fdf || f.rtr || b.length != 8 then none
    else some { axis := w0 / 4096, count := w1 / 4096, size := 16, v := msg12 (w0 % 4096) (s.regs.CANn_HP_VZ n)
                a := msg12 (w1 % 4096) (s.regs.CANn_HP_AZ n) }
  else if !f.fdf || f.rtr || b.length != 24 || byteAt b 1 != 0 || byteAt b 3 != 0 then none
  else some { axis := byteAt b 0, count := byteAt b 2, size := 256, v := msgF32 b 4, a := msgF32 b 8 }

/-- OVERRUN records of a buffer (R430): kind 1 setpoint, 2 heave, 3 envelope. -/
def State.overrunRecs (s : State) (n : Fin 2) (kind ix : Nat) (l : List (Nat × Nat)) : State :=
  l.foldl (fun (s : State) (e : Nat × Nat) =>
    s.canEvent n e.1 0x1003 (kind + ix * 256) e.2 (if kind = 3 then 0 else s.canFlag n)) s

/-- A message enters the buffer of its axis; one that was not read is an overrun. -/
def State.msgBuffer (s : State) (n : Fin 2) (heave : Bool) (ax : Fin 6) : State :=
  let x := s.can[n]
  let full := if heave then x.hvNew[ax] else x.spNew[ax]
  let s :=
    if full then
      let r := (if heave then x.hvRun[ax] else x.spRun[ax]).event s.now s.tb
      let s := s.modCan n (fun x => { x with
        overrun := satInc 16 x.overrun
        hvRun := if heave then x.hvRun.set ax r.1 else x.hvRun, spRun := if heave then x.spRun else x.spRun.set ax r.1 })
      s.overrunRecs n (if heave then 2 else 1) ax r.2
    else s
  s.modCan n (fun x => if heave then { x with hvNew := x.hvNew.set ax true } else { x with spNew := x.spNew.set ax true })

/-- The counter that the next message of an axis and kind is held against (R436): none where none was accepted since HOLD entry, a discard, a
bus-off or the lapse of the binding under CAN_TMO. -/
def State.lastCount (s : State) (n : Fin 2) (heave : Bool) (ax : Fin 6) : Option Nat :=
  let x := s.can[n]
  if heave then
    match s.cmd.ax[ax].can.lastAt with
    | some t =>
      let lapse := t + s.regs.AXn_CMD_CFG_CAN_TMO ax * 10000000
      if lapse ≤ s.tb ∧ x.hvAt[ax] < lapse then none else x.hvCnt[ax]
    | none => x.hvCnt[ax]
  else if s.canLive ax then x.spCnt[ax] else none

/-- The last accepted counter of an axis and message kind. -/
def State.setCount (s : State) (n : Fin 2) (heave : Bool) (ax : Fin 6) (v : Option Nat) : State :=
  s.modCan n (fun x => if heave then { x with hvCnt := x.hvCnt.set ax v } else { x with spCnt := x.spCnt.set ax v })

/-- An accepted message acts (R435). -/
def State.msgAct (s : State) (n : Fin 2) (heave : Bool) (ax : Fin 6) (m : CanMsg) (stamp : Nat) : State :=
  if heave then (s.modCan n (fun x => { x with hvAt := x.hvAt.set ax stamp })).takeHeave ax (stamp - nsOf (s.regs.AXn_HC_LAT ax)) (m.v.getD 0) (m.a.getD 0) (s.bindFlag ax != 0)
  else s.modCmd ax (fun c => { c with can := { c.can with
    lastAt := some stamp, run := m.run, mode := m.mode, value := m.v.getD 0, heave := m.heave
    armed := c.can.armed || !m.run, lost := false } })

/-- A setpoint or heave message is checked (Table 5, R436) and acts. -/
def State.message (s : State) (n : Fin 2) (heave : Bool) (f : CanFrame) (stamp : Nat) : State :=
  if s.can[n].quar.isSome then s
  else
    match if heave then s.parseHeave n f else s.parseSet n f with
    | none => s.canViolation n f stamp St.malformed
    | some m =>
      if !pairOk (s.regs.CANn_CFG_PROFILE n) f.data then s.canViolation n f stamp St.pair
      else if h : m.axis < 6 then
        let ax : Fin 6 := ⟨m.axis, h⟩
        if s.regs.AXn_CMD_CFG_CAN ax ≠ n.val + 1 then s.modCan n (fun x => { x with unbound := satInc 16 x.unbound })
        else
          let s := s.msgBuffer n heave ax
          let ok := decide (m.mode ≤ 3) && m.v.isSome && m.a.isSome && (heave || s.setOk ax m.mode (m.v.getD 0))
          if !ok then (s.canViolation n f stamp St.range).setCount n heave ax none
          else
            match s.lastCount n heave ax with
            | none => (s.setCount n heave ax (some m.count)).msgAct n heave ax m stamp
            | some q =>
              let d := (m.count + m.size - q) % m.size
              if d = 0 then s
              else if d ≤ 3 then (s.setCount n heave ax (some m.count)).msgAct n heave ax m stamp
              else (s.canViolation n f stamp St.sequence).setCount n heave ax none
      else s.modCan n (fun x => { x with unbound := satInc 16 x.unbound })

/-- A frame is received without error: during detection it acts on that alone; otherwise it counts, and acts by its role. `act`:
what the row of that role does. -/
def State.canReceive (s : State) (n : Fin 2) (f : CanFrame) (mine : CanRole → Bool) (act : CanRole → Nat → State → State) : State :=
  if s.running && s.can[n].started && s.can[n].abd.run then s.abdGood n
  else if s.canOn n && mine (s.canRole n f) then act (s.canRole n f) (s.tb - f.sofAge) (s.canGood n)
  else s

/-- The record of a frame whose filter has REC set (R445). The row does not bring the DLC of a remote frame, which has no data: it is free
(log 138). -/
def State.recordIn (s : State) (n : Fin 2) (f : CanFrame) (role : CanRole) (stamp : Nat) : State :=
  match role with
  | .filtered k _ true =>
    let put (s : State) (dlc : Nat) : State := s.canRecord n false stamp f.id.toNat f.ide f.fdf f.brs f.esi f.rtr k dlc f.data
    if f.rtr then put (s.onFreeIx (· + 1)) ((Config.freeWord s.freeIx).toNat % 16) else put s (dlcOf f.data.length)
  | _ => s

/-- `CAN_SETPOINT_MESSAGE`. -/
def execCanSetpointMessage (dt : Nat) (n : Fin 2) (f : CanFrame) (s : State) : Host.Outcome State Fault Refusal :=
  done ((s.advance dt).canReceive n f (fun r => match r with | .filtered _ 1 _ => true | _ => false)
    (fun r stamp s => (s.recordIn n f r stamp).message n false f stamp))

/-- `CAN_HEAVE_MESSAGE`. -/
def execCanHeaveMessage (dt : Nat) (n : Fin 2) (f : CanFrame) (s : State) : Host.Outcome State Fault Refusal :=
  done ((s.advance dt).canReceive n f (fun r => match r with | .filtered _ 2 _ => true | _ => false)
    (fun r stamp s => (s.recordIn n f r stamp).message n true f stamp))

/-- `CAN_RECORD_FRAME`: a frame of a record-only filter is recorded, and any other is discarded. -/
def execCanRecordFrame (dt : Nat) (n : Fin 2) (f : CanFrame) (s : State) : Host.Outcome State Fault Refusal :=
  done ((s.advance dt).canReceive n f
    (fun r => match r with | .filtered _ role _ => role != 1 && role != 2 | .unmatched => true | .envelope _ => false)
    (fun r stamp s => s.recordIn n f r stamp))

/-- An envelope enters its buffer; Cobalt reads it at its next scan (R429, R430). -/
def State.canEnvelope (s : State) (n : Fin 2) (c : Fin 16) (b : List Byte) (stamp : Nat) : State :=
  let s :=
    if s.can[n].env[c].isSome then
      let r := s.can[n].envRun[c].event s.now s.tb
      (s.modCan n (fun x => { x with overrun := satInc 16 x.overrun, envRun := x.envRun.set c r.1 })).overrunRecs n 3 c r.2
    else s
  s.modCan n (fun x => { x with env := x.env.set c (some (b, stamp)) })

/-- `CAN_ENVELOPE_FRAME`. -/
def execCanEnvelopeFrame (dt : Nat) (n : Fin 2) (f : CanFrame) (s : State) : Host.Outcome State Fault Refusal :=
  done ((s.advance dt).canReceive n f (fun r => match r with | .envelope _ => true | _ => false)
    (fun r stamp s => match r with
      | .envelope c => s.canEnvelope n c f.data stamp
      | _ => s))

/-- The supervisor reads the setpoint and heave buffers at the start of a tick's work (R429). -/
def State.canRead (s : State) : State :=
  s.onCan (fun v => v.map (fun x => { x with spNew := Vector.replicate 6 false, hvNew := Vector.replicate 6 false }))

/-- At a boundary: the OVERRUN records that runs owe (R430). -/
def State.canBoundary (s : State) : State :=
  (List.finRange 2).foldl (fun (s : State) (n : Fin 2) =>
    let s := (List.finRange 6).foldl (fun (s : State) (ax : Fin 6) =>
      let a := s.can[n].spRun[ax].due s.now
      let b := s.can[n].hvRun[ax].due s.now
      let s := s.modCan n (fun x => { x with spRun := x.spRun.set ax a.1, hvRun := x.hvRun.set ax b.1 })
      (s.overrunRecs n 1 ax a.2.toList).overrunRecs n 2 ax b.2.toList) s
    (List.finRange 16).foldl (fun (s : State) (c : Fin 16) =>
      let a := s.can[n].envRun[c].due s.now
      (s.modCan n (fun x => { x with envRun := x.envRun.set c a.1 })).overrunRecs n 3 c a.2.toList) s) s

/-! ## Transmission (R438 to R442) -/

/-- The status message of an axis (Tables 3 and 4). -/
def State.statusMsg (s : State) (n : Fin 2) (ax : Fin 6) : List Byte :=
  let st := s.ax[ax].state.code
  let src := s.cmd.ax[ax].src
  let v := s.axSpeed ax
  if s.regs.CANn_CFG_PROFILE n then
    let q := clampR (-2047) 2047 ((v * 2047 / s.regs.AXn_SPD_MAX ax + 1 / 2).floor)
    let w0 := beBytes 2 (ax.val * 4096 + twos 2 q.floor % 4096)
    let w1 := beBytes 2 (st * 4096 + s.mode.mode.code * 256 + src * 16)
    w0 ++ w1 ++ complBytes w0 ++ complBytes w1
  else
    let h := leBytes 1 ax ++ leBytes 1 st ++ leBytes 1 s.mode.mode.code ++ leBytes 1 src ++ leBytes 4 (toF32 v).toNat
    h ++ complBytes h

/-- `CAN_PERIODIC_TX`: at a multiple of PER a periodic slot queues its status message; one still pending is replaced (R438). At bus-off it
queues none (R439). -/
def State.canPeriodic (s : State) (n : Fin 2) (k : Fin 8) : State :=
  let r := s.regs
  let per := nsOf (r.CANn_TXPk_PER n k)
  if s.running && s.can[n].started && !s.can[n].busOff && s.canSends n && r.CANn_TXPk_CFG_EN n k && per != 0 && s.tb % per == 0 then
    let ax : Fin 6 := Fin.ofNat 6 (r.CANn_TXPk_CFG_AXIS n k)
    let f : TxFrame := ⟨r.CANn_TXPk_ID_ID n k, r.CANn_TXPk_ID_IDE n k, !r.CANn_CFG_PROFILE n,
      !r.CANn_CFG_PROFILE n && r.CANn_CFG_BRS n, s.statusMsg n ax, s.now⟩
    s.modCan n (fun x => { x with txPer := x.txPer.set k (some f) })
  else s

def execCanPeriodicTx (dt : Nat) (n : Fin 2) (k : Fin 8) (s : State) : Host.Outcome State Fault Refusal :=
  done ((s.advance dt).canPeriodic n k)

/-- An attempt of a slot ended: a host slot counts it and keeps its stamp. `after`: its new state, where it changes. -/
def State.attempt (s : State) (n : Fin 2) (slot : TxSlot) (sof : Nat) (after : HostSlot → Nat) : State :=
  match slot with
  | .host h => s.modCan n (fun x => { x with host := vset x.host h (fun q =>
      { q with attempts := satInc 8 q.attempts, stamp := sof, state := after q, cancel := q.cancel && after q == 1 }) })
  | _ => s

/-- `CAN_FRAME_SENT`: a pending frame is sent (R439, R440, R445). -/
def State.canSent (s : State) (n : Fin 2) (slot : TxSlot) (sofAge : Nat) : State :=
  match s.txFrame n slot with
  | some f =>
    if s.canOn n && !s.canListen n && s.canFirst n slot f (s.now - sofAge) then
      let sof := s.tb - sofAge
      let passive := s.can[n].bus == 1
      let s := s.sameEnd n slot 1
      let s := s.attempt n slot sof (fun q => if q.cancel then 4 else 2)
      let s := match slot with
        | .safety c => s.modCan n (fun x => { x with txSaf := x.txSaf.set c none })
        | .periodic k => s.modCan n (fun x => { x with txPer := x.txPer.set k none })
        | .host _ => s
      let s := if s.regs.CANn_CFG_REC_TX n then s.canRecord n true sof f.id f.ide f.fdf f.brs (passive && f.fdf) false 0xFF
          (dlcOf f.data.length) f.data
        else s
      (s.modCan n (fun x => { x with guard := false })).canCount n (s.can[n].tec - 1) s.can[n].rec'
    else s
  | none => s

def execCanFrameSent (dt : Nat) (n : Fin 2) (slot : TxSlot) (sofAge : Nat) (s : State) : Host.Outcome State Fault Refusal :=
  done ((s.advance dt).canSent n slot sofAge)

/-- A failed attempt: a cancelled host slot is not retried (R440). -/
def State.failed (s : State) (n : Fin 2) (slot : TxSlot) (sof : Nat) : State :=
  s.attempt n slot sof (fun q => if q.cancel then 5 else 1)

/-- The collision of one identifier (R441). -/
def State.collide (s : State) (n : Fin 2) (slot : TxSlot) (sof : Nat) : State :=
  let more (l : List SameId) : List SameId :=
    if l.any (fun r => r.slot == slot) then l.map (fun r => if r.slot = slot then { r with count := r.count + 1 } else r)
    else l ++ [⟨slot, sof, 1⟩]
  s.modCan n (fun x => { x with same := more x.same })

/-- Is a CANCEL waiting for the attempt of a slot? -/
def State.cancelling (s : State) (n : Fin 2) : TxSlot → Bool
  | .host h => s.can[n].host[h].cancel
  | _ => false

/-- Can an attempt of a slot have begun `sofAge` ago? -/
def State.attempting (s : State) (n : Fin 2) (slot : TxSlot) (sofAge : Nat) : Bool :=
  match s.txFrame n slot with
  | some f => s.canFirst n slot f (s.now - sofAge)
  | none => false

/-- `CAN_ERROR`: an error on the bus, or lost arbitration; `tec`, `rc`: the counters after it (R439, R441, R442). -/
def State.canError (s : State) (n : Fin 2) (kind : CanErr) (tec rc : Nat) : State :=
  if s.running && s.can[n].started && s.can[n].abd.run then s.abdNext n
  else if !s.canOn n || s.canListen n then s
  else
    match kind with
    | .rx => s.canCount n tec rc
    | .tx slot sameId sofAge =>
      if !s.attempting n slot sofAge then s
      else
        let sof := s.tb - sofAge
        let stop := s.cancelling n slot
        let s := if sameId then s.collide n slot sof else s
        let s := if stop ∧ tec < 256 then s.sameEnd n slot 2 else s
        if 256 ≤ tec then (s.attempt n slot sof (fun q => q.state)).canCount n tec rc
        else (s.failed n slot sof).canCount n tec rc
    | .arbLost slot sofAge =>
      if !s.attempting n slot sofAge then s
      else
        let s := if s.cancelling n slot then s.sameEnd n slot 2 else s
        s.failed n slot (s.tb - sofAge)

def execCanError (dt : Nat) (n : Fin 2) (kind : CanErr) (tec rec' : Nat) (s : State) : Host.Outcome State Fault Refusal :=
  done ((s.advance dt).canError n kind tec rec')

/-- A write of `CANn_TXHh_CMD` (R438, R440), refused on a controller that is off (R516). Whether an attempt of the slot runs at a CANCEL nothing in the command says (free,
log 3). -/
def doCanHost (n : Fin 2) (h : Fin 4) (c : Ctx) (s : State) (w : Word) : Res :=
  needRights false c s fun s =>
    let q := s.can[n].host[h]
    if s.regs.CANn_CFG_BIND n = 0 ∨ (bit w 0 ∧ (q.state = 1 ∨ !s.canSends n)) then nak s St.state
    else
      let s := if bit w 0 then s.modCan n (fun x => { x with host := x.host.set h { state := 1, since := s.now } }) else s
      if bit w 1 && s.can[n].host[h].state == 1 then
        let f := s.fresh
        if Config.freeBool f.1 && s.canOn n then
          ack (f.2.modCan n (fun x => { x with host := vset x.host h (fun q => { q with cancel := true }) }))
        else
          let s := f.2
          let s := s.sameEnd n (.host h) 2
          ack (s.modCan n (fun x => { x with host := vset x.host h (fun q => { q with state := 3 }) }))
      else ack s

/-- `CAN_SEND`. -/
def execCanSend (dt : Nat) (o : Origin) (n : Fin 2) (h : Fin 4) (s : State) : Host.Outcome State Fault Refusal :=
  done ((s.advance dt).entry o 2 (some (Reg.CANn_TXHh_CMD n h)) (fun c s => doCanHost n h c s 1) (ws := [1]))

/-- `CAN_CANCEL`. -/
def execCanCancel (dt : Nat) (o : Origin) (n : Fin 2) (h : Fin 4) (s : State) : Host.Outcome State Fault Refusal :=
  done ((s.advance dt).entry o 2 (some (Reg.CANn_TXHh_CMD n h)) (fun c s => doCanHost n h c s 2) (ws := [2]))

/-- A write of `CANn_CMD` (R442), refused on a controller that is off (R516). -/
def doCanCmd (n : Fin 2) (c : Ctx) (s : State) (w : Word) : Res :=
  needRights true c s fun s =>
    if s.regs.CANn_CFG_BIND n = 0 ∨ (bit w 0 ∧ !s.can[n].busOff) then nak s St.state
    else
      let s := if bit w 0 then s.modCan n (fun x => { x with recov := true }) else s
      ack (if bit w 1 then s.modCan n (fun x => { x with overrun := 0, unbound := 0, sameIds := 0, busOffs := 0 }) else s)

/-- `CAN_RECOVER`. -/
def execCanRecover (dt : Nat) (o : Origin) (n : Fin 2) (s : State) : Host.Outcome State Fault Refusal :=
  done ((s.advance dt).entry o 2 (some (Reg.CANn_CMD n)) (fun c s => doCanCmd n c s 1) (ws := [1]))

/-- `CAN_CLR`. -/
def execCanClr (dt : Nat) (o : Origin) (n : Fin 2) (s : State) : Host.Outcome State Fault Refusal :=
  done ((s.advance dt).entry o 2 (some (Reg.CANn_CMD n)) (fun c s => doCanCmd n c s 2) (ws := [2]))

/-- `CAN_RECOVERY_DONE`: after 128 × 11 recessive bits the controller is error active with both counters at zero (R442). -/
def State.canRecovered (s : State) (n : Fin 2) : State :=
  if s.running && s.can[n].busOff && s.can[n].recov then
    (s.modCan n (fun x => { x with busOff := false, recov := false, integrating := false, tec := 0, rec' := 0 })).canEvent n s.tb
      0x1001 3 0
  else s

def execCanRecoveryDone (dt : Nat) (n : Fin 2) (s : State) : Host.Outcome State Fault Refusal :=
  done ((s.advance dt).canRecovered n)

/-- `CAN_TXD_GUARD`: TXD dominant for 32 bit times is forced recessive (R425). -/
def State.txdGuard (s : State) (n : Fin 2) : State :=
  if s.running && s.can[n].started then s.modCan n (fun x => { x with guard := true }) else s

def execCanTxdGuard (dt : Nat) (n : Fin 2) (s : State) : Host.Outcome State Fault Refusal := done ((s.advance dt).txdGuard n)

/-- A freeze: the guard forces TXD recessive on both controllers (R425). -/
def State.canFreeze (s : State) : State := s.onCan (fun v => v.map (fun x => { x with guard := true }))

end Sys2Proof.Machine
end

