-- ==== Sys2Proof/Machine/Fabric.lean ====
section
/-! DEFINITION. The fabric (chapter 14): the links and their states, packets and where they go, discovery and addresses,
route tables, time synchronisation, and the commands of the fabric. What arrives as a whole packet is taken apart in
`FabricIn`. -/
namespace Sys2Proof.Machine

/-! ## Links -/

/-- Change one link. -/
def State.modLink (s : State) (k : Fin 6) (f : LinkSt → LinkSt) : State :=
  s.onFab (fun x => { x with links := vset x.links k f })

/-- Link `k` is enabled (`FAB_CFG.LINK_EN`). -/
def State.linkEn (s : State) (k : Nat) : Bool := s.regs.FAB_CFG_LINK_EN.testBit k

/-- Link `k` is ACTIVE. -/
def State.linkActive (s : State) (k : Fin 6) : Bool := s.fab.links[k].state == .active

/-- The six links in order. -/
def linkAll : List (Fin 6) := [0, 1, 2, 3, 4, 5]

/-- The time during which no enabled link is working, after a change of a link (R390): a working link ends it, and with it
the fabric-loss stop cause (Table 5 of the modes chapter). -/
def State.linkWatch (s : State) : State :=
  if linkAll.any (fun k => s.linkActive k) then (s.onFab (fun x => { x with noLink := none })).setStop 2 false
  else s.onFab (fun x => { x with noLink := some (x.noLink.getD s.now) })

/-- The rate at which a link starts, bit/s (R365). -/
def startRate : Rat := 10000000

/-- What a link has handed to its transmitter breaks off: what has not begun never leaves. -/
def State.txBreak (s : State) (k : Fin 6) : State :=
  s.onFab (fun x => { x with
    out := (x.out.filter (fun e => e.link != k.val || decide (e.at' ≤ s.now))).map
      (fun e => if e.link = k.val then { e with till := min e.till s.now } else e) })

/-- A link restarts (R368, R389): START at 10 Mbit/s, the park reason gone, a bulk packet in progress discarded, what it sends broken off. -/
def State.linkRestart (s : State) (k : Fin 6) : State :=
  ((s.txBreak k).modLink k (fun l => { l with
    state := .start, park := 0, rateTx := startRate, bulkRx := none, t1 := none, reqAt := none })).linkWatch

/-- HOLD entry: the enabled links start; the root holds address 0, and its registry holds the root (R367, R374). -/
def State.fabStart (s : State) : State :=
  let s := s.onFab (fun x => { x with
    links := Vector.ofFn (fun k : Fin 6 => if s.linkEn k then { x.links[k] with state := .start, rateTx := startRate } else x.links[k])
    noLink := some s.now })
  if s.regs.FAB_CFG_ROOT then
    (s.onFab (fun x => { x with
      addr := some 0, registry := [(ownId, 0)], wiring := [(ownId, List.replicate 6 0)] })).onTbs
      (fun t => { t with hops := some 0, synced := true })
  else s

/-- FREEZE: every link is OFF (R367). -/
def State.fabStop (s : State) : State :=
  (linkAll.foldl (fun (s : State) k => s.txBreak k) s).onFab (fun x => { x with
    links := x.links.map (fun l => { l with state := .off, bulkRx := none, t1 := none, reqAt := none }) })

/-! ## Packets (R369 to R372) -/

/-- The bit of `FAB_REC_SEL` for a packet TYPE. -/
def fabSelBit (typ : Nat) : Option Nat :=
  if typ = 1 ∨ typ = 2 ∨ typ = 3 then some 0
  else if typ = 4 then some 1
  else if typ = 5 ∨ typ = 6 then some 2
  else if typ = 7 then some 3
  else if typ = 0x10 then some 4
  else if typ = 0x20 ∨ typ = 0x21 then some 5
  else if typ = 0x30 then some 6
  else none

/-- A FRAME_FAB record of a packet sent or received on a link, with its stamp (R392, R73). -/
def State.frameFab (s : State) (time k : Nat) (sent : Bool) (bytes : List Byte) : State :=
  match fabSelBit (byteAt bytes 2) with
  | some b =>
    if s.regs.FAB_REC_SEL.testBit b then
      s.emit time (Unit.link k) 6 0
        (leBytes 1 k ++ leBytes 1 (b2n sent) ++ zeros 2 ++ leBytes 4 bytes.length ++ bytes.take 16 ++ zeros 8)
    else s
  | none => s

/-- The FRAME_FAB record of a packet that a row of the table brings without its header: the rows that name a message carry no SEQ and no
TIME, and those of the fabric-wide messages no link and no HOPS, so what they do not carry is free (log 135). `link`: the link, where
the row names it; `seq`: its SEQ, where it names one; `src`: byte 1, the source address and the rights class. -/
def State.frameRow (s : State) (link seq : Option Nat) (bcast : Bool) (dst src typ len : Nat) : State :=
  match fabSelBit typ with
  | some b =>
    if s.regs.FAB_REC_SEL.testBit b then
      let i := s.freeIx
      let any (j : Nat) : Nat := (Config.freeWord (i + j)).toNat
      let k := link.getD (any 0 % 6)
      let head := leBytes 1 (128 + (if bcast then 64 else 0) + dst % 64) ++ leBytes 1 src ++ leBytes 1 typ
        ++ leBytes 1 (if link.isSome then 0 else any 1 % 15) ++ leBytes 2 len ++ leBytes 2 (seq.getD (any 2) % 65536)
        ++ leBytes 4 (any 3) ++ leBytes 4 (any 4)
      ((s.onFreeIx (· + 5)).frameFab s.tb k false (head ++ zeros (len + 4)))
    else s
  | none => s

/-- The FRAME_FAB record of a hop-by-hop message that a row brings (Table 5); the partner holds address `src`. -/
def State.frameHop (s : State) (k : Fin 6) (src typ len : Nat) : State := s.frameRow (some k.val) none false (s.fab.addr.getD 0) src typ len

/-- A packet's CRC-32: over all before it, with byte 3 taken as zero (R369). -/
def packetCrc (bytes : List Byte) : Word := crc32 (bytes.set 3 0)

/-- A packet: header (Table 4), payload, CRC. -/
def packetOf (bcast : Bool) (dst origin cls typ seq time : Nat) (payload : List Byte) : List Byte :=
  let b := leBytes 1 (128 + (if bcast then 64 else 0) + dst % 64) ++ leBytes 1 (origin % 64 + 64 * cls) ++ leBytes 1 typ
    ++ leBytes 1 0 ++ leBytes 2 payload.length ++ leBytes 2 seq ++ leBytes 8 time ++ payload
  b ++ leBytes 4 (packetCrc b).toNat

/-! ### The transmitter of a link (R371, R372) -/

/-- The time in which a link sends `n` characters and the end of their packet, ns, at 10 bits a character and 4 bits of EOP or EEP. -/
def LinkSt.sendNs (l : LinkSt) (n : Nat) : Nat := (((10 * n + 4 : Nat) : Rat) * 1000000000 / l.rateTx).ceil.toNat

/-- When the transmitter of link `j` has sent what it was handed: the urgent packets of it, or all. -/
def State.txTill (s : State) (j : Nat) (urgent : Bool) : Nat :=
  s.fab.out.foldl (fun m e => if e.link = j ∧ (urgent && e.bulk) = false then max m e.till else m) 0

/-- A segment that an urgent packet, which may leave from `u` on, interrupts: under way at `u`. -/
def OutPkt.underWay (e : OutPkt) (j u : Nat) : Bool := e.link == j && e.bulk && decide (e.at' < u) && decide (u < e.till)

/-- How many characters of a segment have left when the one under way at `u` has. -/
def LinkSt.charsAt (l : LinkSt) (e : OutPkt) (u : Nat) : Nat :=
  max 1 (((u - e.at' : Nat) : Rat) * l.rateTx / 10000000000).ceil.toNat

/-- The first character of an urgent packet that is handed over at `t` leaves after the urgent packets before it, and after the segment
under way is ended with EOP behind the character under way (R371). -/
def State.urgStart (s : State) (k : Fin 6) (t : Nat) : Nat :=
  let l := s.fab.links[k]
  let u := max t (s.txTill k.val true)
  match s.fab.out.find? (fun e => e.underWay k.val u) with
  | some e => if l.charsAt e u < e.bytes.length then e.at' + l.sendNs (l.charsAt e u) else e.till
  | none => u

/-- Segments one after another from `t` on. -/
def OutPkt.queued (l : LinkSt) : Nat → List OutPkt → List OutPkt
  | _, [] => []
  | t, e :: rest => { e with at' := t, till := t + l.sendNs e.bytes.length } :: OutPkt.queued l (t + l.sendNs e.bytes.length) rest

/-- What an urgent packet leaves of a segment that has not all left at `u`: its part that has, and what goes on in a new segment (R371). -/
def LinkSt.cut (l : LinkSt) (u : Nat) (e : OutPkt) : Option OutPkt × Option OutPkt :=
  if e.at' < u then
    let n := l.charsAt e u
    if n < e.bytes.length then
      let head := byteAt e.bytes 0
      (some { e with bytes := (head &&& 0xDF#8) :: (e.bytes.take n).drop 1, till := e.at' + l.sendNs n },
       some { e with bytes := (head &&& 0x20#8) :: e.bytes.drop n })
    else (some e, none)
  else (none, some e)

/-- A packet is handed to the transmitter of a link at `t` and leaves when its turn comes, with its FRAME_FAB record (R371, R372). A bulk
packet that nothing interrupts is one segment, first and last. -/
def State.linkPut (s : State) (k : Fin 6) (bulk eep : Bool) (bytes : List Byte) (t : Nat) : State :=
  let l := s.fab.links[k]
  let start := if bulk then max t (s.txTill k.val false) else s.urgStart k t
  let s := s.frameFab (s.tb + start - s.now) k.val true bytes
  if bulk then
    s.onFab (fun x => { x with out := x.out ++ [⟨k.val, true, 0x60 :: bytes, eep, start, start + l.sendNs (bytes.length + 1)⟩] })
  else
    let u := max t (s.txTill k.val true)
    let isOpen (e : OutPkt) : Bool := e.link == k.val && e.bulk && decide (u < e.till)
    s.onFab (fun x => { x with
      out := x.out.flatMap (fun e => if isOpen e then (l.cut u e).1.toList else [e])
        ++ [⟨k.val, false, bytes, eep, start, start + l.sendNs bytes.length⟩]
        ++ OutPkt.queued l (start + l.sendNs bytes.length) (x.out.filterMap (fun e => if isOpen e then (l.cut u e).2 else none)) })

/-- How long a packet may wait at a link input (R382). -/
def waitLimit (bulk : Bool) : Nat := if bulk then 10000000 else 100000

/-- The instant at which link `k` takes a packet that has waited since `t`: it is ACTIVE and free of urgent traffic, or for a bulk packet of
all (R372). -/
def State.takesAt (s : State) (k : Fin 6) (bulk : Bool) (t : Nat) : Nat := max (max t s.fab.links[k].upAt) (s.txTill k.val (!bulk))

/-- A packet leaves on those of its links that take it by now and within its limit; the links that are left. -/
def State.leaves (s : State) (bulk : Bool) (w : WaitPkt) : List Nat × State :=
  w.links.foldl (fun (acc : List Nat × State) j =>
    let k : Fin 6 := Fin.ofNat 6 j
    let u := acc.2.takesAt k bulk w.at'
    if acc.2.linkActive k && decide (u ≤ acc.2.now) && decide (u < w.at' + waitLimit bulk) then (acc.1, acc.2.linkPut k bulk w.eep w.bytes u)
    else (acc.1 ++ [j], acc.2)) ([], s)

/-- The packet that waits at a link input. -/
def LinkSt.waits (l : LinkSt) (bulk : Bool) : Option WaitPkt := if bulk then l.bulkIn else l.urgIn

/-- Replace it. -/
def State.putWait (s : State) (k : Fin 6) (bulk : Bool) (w : Option WaitPkt) : State :=
  s.modLink k (fun l => if bulk then { l with bulkIn := w } else { l with urgIn := w })

/-- A place in the order of arrival. -/
def waitIns (a : Nat × Fin 6) : List (Nat × Fin 6) → List (Nat × Fin 6)
  | [] => [a]
  | b :: l => if a.1 < b.1 then a :: b :: l else b :: waitIns a l

/-- The link inputs at which a packet of a lane waits, in the order in which its first character arrived (R372). -/
def State.waitOrder (s : State) (bulk : Bool) : List (Fin 6) :=
  (linkAll.foldl (fun acc k => match s.fab.links[k].waits bulk with | some w => waitIns (w.at', k) acc | none => acc) []).map (·.2)

/-- The packets that wait leave where their links take them now, urgent ones first. -/
def State.waitDrain (s : State) : State :=
  ([false, true] : List Bool).foldl (fun (s : State) bulk =>
    (s.waitOrder bulk).foldl (fun (s : State) (k : Fin 6) =>
      match s.fab.links[k].waits bulk with
      | none => s
      | some w =>
        let r := s.leaves bulk w
        r.2.putWait k bulk (if r.1.isEmpty then none else some { w with links := r.1 })) s) s

/-- May a packet of a TYPE leave on a link in its state (Table 2)? -/
def State.linkCarries (s : State) (k : Fin 6) (typ : Nat) : Bool :=
  match s.fab.links[k].state with
  | .active => true
  | .parked => typ == 1 || typ == 2 || typ == 3
  | .hello => typ == 1
  | .off | .start | .down => false

/-- A packet of this device leaves on a link that carries it, behind what has waited for that link (R367, R371, R372). -/
def State.linkSend (s : State) (k : Nat) (bulk : Bool) (bytes : List Byte) : State :=
  let s := s.waitDrain
  if s.linkCarries (Fin.ofNat 6 k) (byteAt bytes 2) then s.linkPut (Fin.ofNat 6 k) bulk false bytes s.now else s

/-- TB_NOW at the first character of a packet of this device that is handed to a link now (R369). -/
def State.leaveTb (s : State) (k : Fin 6) (bulk : Bool) : Nat :=
  s.tb + (if bulk then max s.now (s.txTill k.val false) else s.urgStart k s.now) - s.now

/-- The next SEQ of a packet TYPE of this source (Table 4). -/
def State.fabSeq (s : State) (typ : Nat) : Nat × State :=
  let q := seqOf s.fab.seqs typ
  (q, s.onFab (fun x => { x with seqs := cellSet (fun _ => 0) typ ((q + 1) % 65536) x.seqs }))

/-- A packet of this device to the partner of a link; it is never forwarded, and leaves only where the state of the link carries it (Tables 2
and 5). -/
def State.hopSend (s : State) (k : Fin 6) (typ : Nat) (payload : List Byte) : State :=
  if s.linkCarries k typ then
    let s := s.waitDrain
    let q := s.fabSeq typ
    let dst := match s.fab.links[k].partner with | some p => p.addr.getD 0 | none => 0
    q.2.linkSend k false (packetOf false dst (s.fab.addr.getD 0) 0 typ q.1 (s.leaveTb k false) payload)
  else s

/-! ## Routing (R380 to R382) -/

/-- Where a packet to an address goes. -/
inductive Route where
  | local | link (k : Nat) | unreach
  deriving DecidableEq, Repr

/-- The route to an address (R380). -/
def State.route (s : State) (dst : Nat) : Route :=
  match s.fab.addr with
  | none => .unreach
  | some a =>
    if a = dst % 64 then .local
    else if s.regs.FAB_CFG_TOPO then
      let k := s.fab.routes.getD (dst % 64) 7
      if k < 6 then .link k else .unreach
    else
      match linkAll.find? (fun k => (Nat.xor a (dst % 64)).testBit k.val && s.linkActive k) with
      | some k => .link k
      | none => .unreach

/-- A packet is discarded: 1 hops, 2 unreachable, 3 waited. It is counted, and a FAB_DISCARD record is written at most once
per 100 ms and cause (R382). -/
def State.fabDiscard (s : State) (cause : Fin 4) (dst : Nat) : State :=
  let t := s.now
  let s := s.onFab (fun x => { x with
    discHops := if cause = 1 then satInc 16 x.discHops else x.discHops
    discUnreach := if cause = 2 then satInc 16 x.discUnreach else x.discUnreach
    discWait := if cause = 3 then satInc 16 x.discWait else x.discWait })
  let free : Bool := match s.fab.discAt[cause] with | some u => decide (u + runNs ≤ t) | none => true
  if free == true then
    (s.event s.tb Unit.dev 0x0E06 cause.val dst).onFab (fun x => { x with discAt := x.discAt.set cause (some t) })
  else s

/-- A packet of this device to an address, by its route; where a table names a link that is not ACTIVE it cannot leave, which counts as
no route (DESIGN CHOICE, log 136). `time`: its TIME where it carries a frame that has an instant of its own. `true`: it is for this device
itself. -/
def State.fabSend (s : State) (dst cls typ : Nat) (bulk : Bool) (time : Option Nat) (payload : List Byte) : State × Bool :=
  match s.route dst with
  | .local => (s, true)
  | .unreach => (s.fabDiscard 2 dst, false)
  | .link k =>
    if !s.linkActive (Fin.ofNat 6 k) then (s.fabDiscard 2 dst, false)
    else
      let s := s.waitDrain
      let q := s.fabSeq typ
      let time := time.getD (s.leaveTb (Fin.ofNat 6 k) bulk)
      (q.2.linkSend k bulk (packetOf false dst (s.fab.addr.getD 0) cls typ q.1 time payload), false)

/-- A broadcast of this device: it leaves on every ACTIVE link (R381). It answers its SEQ. -/
def State.fabBroadcast (s : State) (typ : Nat) (payload : List Byte) : State × Nat :=
  let q := s.waitDrain.fabSeq typ
  let me := s.fab.addr.getD 0
  let s := q.2.onFab (fun x => { x with seen := ((me, typ, q.1) :: x.seen).take 1024 })
  (linkAll.foldl (fun s k =>
    if s.linkActive k then s.linkSend k false (packetOf true 0 me 0 typ q.1 (s.leaveTb k false) payload) else s) s, q.1)

/-- A broadcast is delivered once, keyed by source, TYPE and SEQ: has this one been? The last 1,024 are kept (log 24). -/
def State.fabSeen (s : State) (src typ seq : Nat) : Bool × State :=
  (s.fab.seen.contains (src, typ, seq), s.onFab (fun x => { x with seen := ((src, typ, seq) :: x.seen).take 1024 }))

/-! ## HELLO, JOIN, ADMIT (R373 to R379) -/

/-- A HELLO leaves (R373). -/
def State.helloSend (s : State) (k : Fin 6) : State :=
  (s.hopSend k 1
    (leBytes 8 ownId ++ leBytes 1 k.val ++ leBytes 1 (b2n s.regs.FAB_CFG_TOPO) ++ leBytes 1 (s.fab.addr.getD 0x40)
      ++ leBytes 1 s.hopsShown ++ leBytes 1 (b2n s.regs.FAB_CFG_ROOT + 2 * b2n s.fab.excess) ++ leBytes 2 s.fab.tblVer
      ++ zeros 17)).modLink k (fun l => { l with helloTx := s.now })

/-- What a HELLO payload says. -/
def partnerOf (b : List Byte) : Partner :=
  { id := leAt b 0 8, link := byteAt b 8, topo := byteAt b 9
    addr := if byteAt b 10 < 64 then some (byteAt b 10) else none
    hops := byteAt b 11, root := (byteAt b 12).testBit 0, excess := (byteAt b 12).testBit 1, ver := leAt b 13 2 }

/-- The identity of the partner of a link, 0 for none. -/
def State.partnerId (s : State) (k : Fin 6) : Nat := match s.fab.links[k].partner with | some p => p.id | none => 0

/-- A JOIN leaves on a link (R375). -/
def State.joinSend (s : State) (k : Fin 6) (id claim : Nat) (parts : List Nat) : State :=
  s.hopSend k 2 (leBytes 8 id ++ leBytes 1 claim ++ zeros 7 ++ parts.flatMap (leBytes 8))

/-- The partner identities of this device. -/
def State.ownParts (s : State) : List Nat := linkAll.map s.partnerId

/-- The parent to synchronise to (R383), as its link. -/
def State.parent (s : State) : Option (Fin 6) :=
  if s.regs.FAB_CFG_ROOT then none
  else if s.regs.FAB_CFG_TOPO then
    linkAll.foldl (fun best k =>
      match s.fab.links[k].partner with
      | some p =>
        if s.linkActive k && p.hops < 15 then
          (match best with
            | some b =>
              (match s.fab.links[b].partner with
                | some q => if p.hops < q.hops || (p.hops == q.hops && decide (p.addr.getD 64 < q.addr.getD 64)) then some k else best
                | none => some k)
            | none => some k)
        else best
      | none => best) none
  else
    match s.fab.addr with
    | some a => linkAll.find? (fun k => a.testBit k.val && s.linkActive k)
    | none => none

/-- The link toward the root: by the route to address 0, or by the parent where no route is known. -/
def State.rootLink (s : State) : Option (Fin 6) :=
  match s.route 0 with
  | .link k => some (Fin.ofNat 6 k)
  | .local => none
  | .unreach => s.parent

/-- The root's refusal of an identity (R378): an EXCESS record and `FAB_EXCESS_ID`. `k`: link of the relaying partner. -/
def State.refuseJoin (s : State) (id k : Nat) (taken : Bool) : State :=
  (s.event s.tb Unit.dev 0x0E05 (k + (if taken then 256 else 0)) (id % 2 ^ 32)).onFab (fun x => { x with excessId := id })

/-- The link of a known device that leads to an identity. -/
def linkToward (wiring : List (Nat × List Nat)) (id dflt : Nat) : Nat :=
  match wiring.find? (fun w => w.2.contains id) with
  | some w => w.2.idxOf id
  | none => dflt

/-- The lowest address that no identity holds. -/
def lowestFree (reg : List (Nat × Nat)) : Option Nat := (List.range 64).find? (fun a => !reg.any (fun r => r.2 == a))

/-- Breadth-first assignment in table mode (R377): the queue of identities, those seen with their level, the registry,
and the refusals (identity and link of the relaying partner). -/
def assignBfs (wiring : List (Nat × List Nat)) :
    Nat → List Nat → List (Nat × Nat) → List (Nat × Nat) → List (Nat × Nat) →
      List (Nat × Nat) × List (Nat × Nat) × List (Nat × Nat)
  | 0, _, lev, reg, ref => (lev, reg, ref)
  | _, [], lev, reg, ref => (lev, reg, ref)
  | n + 1, d :: q, lev, reg, ref =>
    let parts := match wiring.find? (fun w => w.1 == d) with | some w => w.2 | none => []
    let dl := match lev.find? (fun l => l.1 == d) with | some l => l.2 | none => 0
    let r := (List.range 6).foldl (fun (acc : List Nat × List (Nat × Nat) × List (Nat × Nat) × List (Nat × Nat)) k =>
        let p := parts.getD k 0
        if p = 0 ∨ acc.2.1.any (fun l => l.1 == p) then acc
        else
          let lev' := acc.2.1 ++ [(p, dl + 1)]
          if acc.2.2.1.any (fun r => r.1 == p) then (acc.1 ++ [p], lev', acc.2.2.1, acc.2.2.2)
          else match lowestFree acc.2.2.1 with
            | some a => (acc.1 ++ [p], lev', acc.2.2.1 ++ [(p, a)], acc.2.2.2)
            | none => (acc.1 ++ [p], lev', acc.2.2.1, acc.2.2.2 ++ [(p, k)])) (q, lev, reg, ref)
    assignBfs wiring n r.1 r.2.1 r.2.2.1 r.2.2.2

/-! ### Route tables of the root (R380) -/

/-- A device as the route computation sees it: address, level, and the address across each link. -/
structure Node where
  addr : Nat
  level : Nat
  nbr : List (Option Nat)
  deriving DecidableEq, Repr

/-- The nodes of the known wiring. -/
def nodeList (wiring : List (Nat × List Nat)) (lev reg : List (Nat × Nat)) : List Node :=
  reg.filterMap (fun r =>
    match lev.find? (fun l => l.1 == r.1) with
    | some l =>
      let parts := match wiring.find? (fun w => w.1 == r.1) with | some w => w.2 | none => []
      some ⟨r.2, l.2, (List.range 6).map (fun k =>
        let p := parts.getD k 0
        if p = 0 then none else (reg.find? (fun x => x.1 == p)).map (·.2))⟩
    | none => none)

/-- A link from `a` to `b` is up when `b` has the lower (level, address). -/
def isUp (ns : List Node) (a : Node) (b : Nat) : Bool :=
  match ns.find? (fun n => n.addr == b) with
  | some n => decide (n.level < a.level) || (n.level == a.level && decide (b < a.addr))
  | none => false

/-- Distances by rounds: in round `d` each node without a distance takes `d` where `near` says so. -/
def rounds (ns : List Node) (near : List (Nat × Nat) → Nat → Node → Bool) :
    Nat → Nat → List (Nat × Nat) → List (Nat × Nat)
  | 0, _, ds => ds
  | n + 1, d, ds =>
    let new := ns.filterMap (fun a =>
      if ds.any (fun x => x.1 == a.addr) then none else if near ds d a then some (a.addr, d) else none)
    rounds ns near n (d + 1) (ds ++ new)

/-- The distance listed for an address. -/
def distOf (ds : List (Nat × Nat)) (a : Nat) : Option Nat := (ds.find? (fun x => x.1 == a)).map (·.2)

/-- Distances to `dst` over down links alone. -/
def downDist (ns : List Node) (dst : Nat) : List (Nat × Nat) :=
  rounds ns (fun ds d a => a.nbr.any (fun o =>
    match o with
    | some b => !isUp ns a b && distOf ds b == some (d - 1)
    | none => false)) 64 1 [(dst, 0)]

/-- Distances to `dst` over legal paths: up links, then down links. -/
def legalDist (ns : List Node) (dn : List (Nat × Nat)) : List (Nat × Nat) :=
  rounds ns (fun ds d a => distOf dn a.addr == some d || a.nbr.any (fun o =>
    match o with
    | some b => isUp ns a b && decide (0 < d) && distOf ds b == some (d - 1)
    | none => false)) 130 0 []

/-- The first link of the shortest legal path from a device to `dst`, the lowest among equals; 7 none. -/
def firstLink (ns : List Node) (dn ds : List (Nat × Nat)) (a : Node) (dst : Nat) : Nat :=
  if a.addr = dst then 7
  else
    match distOf ds a.addr with
    | none => 7
    | some d =>
      ((List.range 6).find? (fun k =>
        match a.nbr.getD k none with
        | some b =>
          if isUp ns a b then distOf ds b == some (d - 1) && decide (0 < d)
          else distOf dn b == some (d - 1) && decide (0 < d)
        | none => false)).getD 7

/-- The 64 entries of each device. -/
def routeTables (ns : List Node) : List (Nat × List Nat) :=
  let per := (List.range 64).map (fun dst => let dn := downDist ns dst; (dst, dn, legalDist ns dn))
  ns.map (fun a => (a.addr, per.map (fun p => firstLink ns p.2.1 p.2.2 a p.1)))

/-- A command of the fabric leaves (R385, R386): its code, apply instant and argument, paired. It answers its SEQ. -/
def State.commandSend (s : State) (code t arg : Nat) : State × Nat :=
  let d := leBytes 2 code ++ zeros 2 ++ leBytes 8 t ++ leBytes 8 arg ++ zeros 4
  s.fabBroadcast 7 (d ++ complBytes d)

/-- The instant a command of this device names (R386). -/
def State.leadInstant (s : State) : Nat := s.tb + nsOf s.regs.FAB_CMD_LEAD

/-- A route table that has come, kept by its version until one of that version or above comes into force (R387). -/
def State.tableKeep (s : State) (ver : Nat) (tab : List Nat) : State :=
  s.onFab (fun x => { x with tblNext := x.tblNext.filter (fun t => t.1 != ver) ++ [(ver, tab)] })

/-- The root computes the tables of the present wiring, sends them, and sends ROUTES_APPLY (R380, R386). The ROUTES packets
leave by the new table (log 25). -/
def State.publishRoutes (s : State) (lev : List (Nat × Nat)) : State :=
  let ver := (s.fab.applyAt.foldl (fun m a => max m a.2) s.fab.tblVer) + 1
  let tabs := routeTables (nodeList s.fab.wiring lev s.fab.registry)
  let own := match tabs.find? (fun t => t.1 == 0) with | some t => t.2 | none => List.replicate 64 7
  let s := s.tableKeep (ver % 65536) own
  let s := tabs.foldl (fun s t =>
    if t.1 = 0 then s
    else
      let k := own.getD t.1 7
      if k < 6 ∧ s.linkActive (Fin.ofNat 6 k) = true then
        let q := s.fabSeq 4
        q.2.linkSend k true (packetOf false t.1 0 0 4 q.1 (s.leaveTb (Fin.ofNat 6 k) true) (leBytes 2 (ver % 65536) ++ t.2.flatMap (leBytes 1)))
      else s.fabDiscard 2 t.1) s
  let r := s.commandSend 2 s.leadInstant (ver % 65536)
  r.1.onFab (fun x => { x with applyAt := x.applyAt ++ [(s.leadInstant, ver % 65536)] })

/-- The wiring with one device's partners replaced. -/
def rewire (w : List (Nat × List Nat)) (id : Nat) (parts : List Nat) : List (Nat × List Nat) :=
  if w.any (fun x => x.1 == id) then w.map (fun x => if x.1 == id then (id, parts) else x) else w ++ [(id, parts)]

/-- A JOIN at the root (R376 to R378): what is answered, 64 for refused; `none` where no address can be told yet. -/
def State.rootJoin (s : State) (id claim : Nat) (parts : List Nat) (k : Nat) : State × Option Nat :=
  let old := s.fab.wiring
  let s := s.onFab (fun x => { x with wiring := rewire x.wiring id parts })
  let held := (s.fab.registry.find? (fun r => r.1 == id)).map (·.2)
  if s.regs.FAB_CFG_TOPO then
    if s.fab.wiring = old then
      if held.isNone && decide (64 ≤ s.fab.registry.length) then (s.refuseJoin id (linkToward (s.fab.wiring.filter (fun w => w.1 != id)) id k) false, some 64)
      else (s, held)
    else
      let r := assignBfs s.fab.wiring 4096 [ownId] [(ownId, 0)] s.fab.registry []
      let s := s.onFab (fun x => { x with registry := r.2.1 })
      let s := r.2.2.foldl (fun s q => s.refuseJoin q.1 q.2 false) s
      let s := s.publishRoutes r.1
      if r.1.any (fun l => l.1 == id) then (s, some (((r.2.1.find? (fun x => x.1 == id)).map (·.2)).getD 64))
      else (s, held)
  else if 64 ≤ claim then (s, held)
  else
    let taken := s.fab.registry.any (fun r => r.2 == claim && r.1 != id)
    if taken ∨ (held = none ∧ 64 ≤ s.fab.registry.length) then
      (s.refuseJoin id (linkToward (s.fab.wiring.filter (fun w => w.1 != id)) id k) taken, some 64)
    else
      (s.onFab (fun x => { x with registry := x.registry.filter (fun r => r.1 != id) ++ [(id, claim)] }), some claim)

/-- The root's answer leaves on a link (R375). -/
def State.admitSend (s : State) (k : Fin 6) (id a : Nat) : State :=
  s.hopSend k 3 (leBytes 8 id ++ leBytes 1 a ++ leBytes 2 s.fab.tblVer ++ zeros 5)

/-- A link is parked, with its record (R389). -/
def State.park (s : State) (k : Fin 6) (reason : Nat) : State :=
  ((s.modLink k (fun l => { l with state := .parked, park := reason })).event s.tb (Unit.link k) 0x0E04 reason
    (s.partnerId k % 2 ^ 32)).linkWatch

/-- The address this device claims in a JOIN to the partner of a link (R376): none in table mode. -/
def State.claimOn (s : State) (k : Fin 6) : Nat :=
  if s.regs.FAB_CFG_TOPO then 64
  else match s.fab.links[k].partner with
    | some p => (match p.addr with | some a => Nat.xor a (2 ^ k.val) | none => 64)
    | none => 64

/-- A device without an address sends its JOIN on a link whose partner holds one (R375). -/
def State.joinOwn (s : State) (k : Fin 6) : State :=
  (s.joinSend k ownId (s.claimOn k) s.ownParts).onFab (fun x => { x with joinAt := some s.now })

/-- The JOIN that an addressed device owes the root leaves as soon as a link toward the root is ACTIVE (R375). -/
def State.joinFlush (s : State) : State :=
  match s.fab.addr, s.rootLink with
  | some a, some k =>
    if s.fab.joinDue && s.linkActive k then (s.joinSend k ownId a s.ownParts).onFab (fun x => { x with joinDue := false }) else s
  | _, _ => s

/-- An addressed device tells the root that a partner has changed (R375). -/
def State.joinChanged (s : State) : State :=
  if s.fab.addr.isNone then s
  else if s.regs.FAB_CFG_ROOT then (s.rootJoin ownId 0 s.ownParts 0).1
  else (s.onFab (fun x => { x with joinDue := true })).joinFlush

/-- The root seen by a HELLO differs from this device's own (R379): both are the root, or the partner is a root other than the one that this
device has had as a partner, or a root at an address other than 0, or, in table mode, the partner holds this device's own address
(DEDUCED, log 26). -/
def State.rootConflict (s : State) (p : Partner) : Bool :=
  (p.root && (s.regs.FAB_CFG_ROOT || s.fab.ownRoot.any (fun r => r != p.id) || p.addr.any (fun a => a != 0)))
  || (s.regs.FAB_CFG_TOPO && p.addr.isSome && p.addr == s.fab.addr)

/-- Why a HELLO parks its link (R376, R378, R379, R389); 0 where it does not. -/
def State.parkReason (s : State) (k : Fin 6) (p : Partner) : Nat :=
  if p.topo ≠ b2n s.regs.FAB_CFG_TOPO then 2
  else if s.rootConflict p then 4
  else if !s.regs.FAB_CFG_TOPO && (p.link != k.val ||
      (match s.fab.addr, p.addr with | some a, some b => b != Nat.xor a (2 ^ k.val) | _, _ => false)) then 1
  else if p.excess then 5
  else 0

/-- A device without an address sends its first JOIN where the HELLO of a partner shows one (R375). -/
def State.joinFirst (s : State) (k : Fin 6) (p : Partner) : State :=
  if s.fab.addr = none ∧ !s.fab.excess ∧ p.addr.isSome ∧ s.fab.joinAt = none then s.joinOwn k else s

/-- A HELLO of the partner (R366, R368, R373 to R379): each is checked, not the first alone. -/
def State.helloIn (s : State) (k : Fin 6) (b : List Byte) : State :=
  let l := s.fab.links[k]
  let p := partnerOf b
  let known := l.partner.map (·.id)
  let changed := known != some p.id
  let keep (s : State) : State := s.modLink k (fun l => { l with partner := some p, helloRx := s.now })
  match l.state with
  | .off | .start | .down => s
  | .parked =>
    if changed then ((keep s).linkRestart k).joinChanged else if l.park = 3 then (keep s).linkRestart k else keep s
  | .active =>
    if changed then ((keep s).linkRestart k).joinChanged
    else
      let s := keep s
      let r := s.parkReason k p
      if r ≠ 0 then s.park k r else (s.joinFirst k p).joinFlush
  | .hello =>
    let s := keep s
    if s.fab.excess then (s.modLink k (fun l => { l with state := .parked, park := 5 })).linkWatch
    else
      let r := s.parkReason k p
      let s :=
        if r ≠ 0 then s.park k r
        else (((s.modLink k (fun l => { l with state := .active, upAt := s.now })).onFab (fun x => { x with
          ownRoot := if p.root then some p.id else x.ownRoot })).event s.tb (Unit.link k) 0x0E01 p.link
          (p.id % 2 ^ 32)).linkWatch
      let s := if changed then s.joinChanged else s
      if r = 0 then (s.joinFirst k p).joinFlush else s

/-- Do characters of packets arrive on a link: it is in HELLO, ACTIVE or PARKED (R367)? -/
def State.linkHears (s : State) (k : Fin 6) : Bool :=
  match s.fab.links[k].state with
  | .hello | .active | .parked => s.running
  | .off | .start | .down => false

/-- The FRAME_FAB record of a hop-by-hop message that a row brings from the partner of a link (R392). -/
def State.frameFrom (s : State) (k : Fin 6) (typ len : Nat) : State :=
  if s.linkHears k then
    s.frameHop k (match s.fab.links[k].partner with | some p => p.addr.getD 0 | none => 0) typ len
  else s

/-- `HELLO_RECEIVED`. A payload of another length is no HELLO. -/
def execHelloReceived (dt : Nat) (k : Fin 6) (payload : List Byte) (s : State) : Host.Outcome State Fault Refusal :=
  let s := s.advance dt
  done (if s.running ∧ payload.length = 32 then ((if s.linkHears k then s.frameHop k ((partnerOf payload).addr.getD 0) 1 32 else s).helloIn k payload) else s)

/-- `HELLO_SEND`: every 10 ms on an ACTIVE or PARKED link (R368). -/
def execHelloSend (dt : Nat) (k : Fin 6) (s : State) : Host.Outcome State Fault Refusal :=
  let s := s.advance dt
  let l := s.fab.links[k]
  done (if s.running && (l.state == .active || l.state == .parked) && decide (l.helloTx + 10000000 ≤ s.now) then s.helloSend k
    else s)

/-- `LINK_RUN`: the exchange of a starting link reaches Run; the transmitter changes to its ring oscillator, whose rate is
a free value of 320 Mbit/s or more, and a HELLO leaves (R365, Table 3). -/
def execLinkRun (dt : Nat) (k : Fin 6) (rxRate : Nat) (s : State) : Host.Outcome State Fault Refusal :=
  let s := s.advance dt
  if s.running && s.fab.links[k].state == .start then
    let f := s.fresh
    let tx := Config.freeReal f.1
    done ((f.2.modLink k (fun l => { l with
      state := .hello, runAt := s.now, rateRx := (rxRate : Rat), rateTx := if tx < 320000000 then 320000000 else tx })).helloSend k)
  else done s

/-- `NO_HELLO`: 10 ms after Run without a HELLO park the link (R366). -/
def execNoHello (dt : Nat) (k : Fin 6) (s : State) : Host.Outcome State Fault Refusal :=
  let s := s.advance dt
  let l := s.fab.links[k]
  done (if s.running && l.state == .hello && decide (l.runAt + 10000000 ≤ s.now) then s.park k 3 else s)

/-! ## Link errors (R389) -/

/-- A LINK_ERR event of kinds 1 to 6, in a run per link and kind. -/
def State.linkErr (s : State) (k : Fin 6) (kind : Fin 7) : State :=
  let r := s.fab.links[k].runs[kind].event s.now s.tb
  r.2.foldl (fun s q => s.event q.1 (Unit.link k) 0x0E02 kind.val q.2)
    (s.modLink k (fun l => { l with runs := l.runs.set kind r.1 }))

/-- The records that the runs of a link owe at `s.tb`. -/
def State.linkRunsDue (s : State) (k : Fin 6) : State :=
  ([1, 2, 3, 4, 5, 6] : List (Fin 7)).foldl (fun s kind =>
    let r := s.fab.links[k].runs[kind].due s.now
    r.2.toList.foldl (fun s q => s.event q.1 (Unit.link k) 0x0E02 kind.val q.2)
      (s.modLink k (fun l => { l with runs := l.runs.set kind r.1 }))) s

/-- Instants that lie within the last second before `t`. -/
def lastSecond (t : Nat) (l : List Nat) : List Nat := l.filter (fun u => decide (t < u + 1000000000))

/-- A bad packet on a link: counted, recorded in a run (R389). -/
def State.badPacket (s : State) (k : Fin 6) : State :=
  (s.modLink k (fun l => { l with bad := satInc 8 l.bad, badAt := lastSecond s.now l.badAt ++ [s.now] })).linkErr k 6

/-- The kind of an exchange error in LINK_ERR. -/
def exchKind : ExchangeErr → Fin 7
  | .disconnect => 1
  | .parity => 2
  | .escape => 3
  | .sequence => 4
  | .credit => 5

/-- An exchange error (R389): the link restarts under the standard. -/
def State.exchangeError (s : State) (k : Fin 6) (kind : ExchangeErr) : State :=
  ((s.modLink k (fun l => { l with
    exch := satInc 16 l.exch, errAt := lastSecond s.now l.errAt ++ [s.now] })).linkRestart k).linkErr k (exchKind kind)

/-- `LINK_DOWN`: 8 exchange errors or 32 bad packets within 1 s take the link DOWN (R389). -/
def execLinkDown (dt : Nat) (k : Fin 6) (s : State) : Host.Outcome State Fault Refusal :=
  let s := s.advance dt
  let l := s.fab.links[k]
  let e := (lastSecond s.now l.errAt).length
  let b := (lastSecond s.now l.badAt).length
  if s.running && l.state != .off && l.state != .down && (decide (8 ≤ e) || decide (32 ≤ b)) then
    done ((((s.txBreak k).modLink k (fun l => { l with
      state := .down, park := 0, downAt := s.now, downs := satInc 16 l.downs, errAt := [], badAt := [], bulkRx := none
      t1 := none, reqAt := none })).event s.tb (Unit.link k) 0x0E03 (if 8 ≤ e then 1 else 2) (if 8 ≤ e then e else b)).linkWatch)
  else done s

/-- `LINK_DOWN_END`: after 1 s in DOWN the link starts again (R367). -/
def execLinkDownEnd (dt : Nat) (k : Fin 6) (s : State) : Host.Outcome State Fault Refusal :=
  let s := s.advance dt
  let l := s.fab.links[k]
  done (if s.running && l.state == .down && decide (l.downAt + 1000000000 ≤ s.now) then s.linkRestart k else s)

/-- `LINK_SILENT`: an ACTIVE link without a HELLO for 50 ms restarts, with a LINK_ERR of kind 7 (R368, R389). -/
def execLinkSilent (dt : Nat) (k : Fin 6) (s : State) : Host.Outcome State Fault Refusal :=
  let s := s.advance dt
  let l := s.fab.links[k]
  if s.running && l.state == .active && decide (l.helloRx + 50000000 ≤ s.now) then
    done ((s.linkRestart k).event s.tb (Unit.link k) 0x0E02 7 1)
  else done s

/-- A write of `FAB_Lk_CLR`. -/
def doLinkErrClr (k : Fin 6) (c : Ctx) (s : State) (w : Word) : Res :=
  needRights true c s fun s =>
    ack (if bit w 0 then s.modLink k (fun l => { l with exch := 0, bad := 0, tc := 0, downs := 0 }) else s)

/-- `LINK_ERR_CLR`. -/
def execLinkErrClr (dt : Nat) (o : Origin) (k : Fin 6) (w : Word) (s : State) : Host.Outcome State Fault Refusal :=
  done ((s.advance dt).entry o 2 (some (Reg.FAB_Lk_CLR k)) (fun c s => doLinkErrClr k c s w) (ws := [w]))

/-! ## JOIN and ADMIT on their way -/

/-- A JOIN arrives on a link (R375): the root decides; an addressed device relays it; a refused device answers it with a
refusal (R378). -/
def State.joinIn (s : State) (k : Fin 6) (b : List Byte) : State :=
  let id := leAt b 0 8
  let claim := byteAt b 8
  let parts := (List.range 6).map (fun j => leAt b (16 + 8 * j) 8)
  let st := s.fab.links[k].state
  if st != .active && st != .parked then s
  else if s.regs.FAB_CFG_ROOT then
    let r := s.rootJoin id claim parts k.val
    match r.2 with
    | some a =>
      let s := r.1.admitSend k id a
      if a = 64 ∧ s.partnerId k = id ∧ s.fab.links[k].state ≠ .parked then s.park k 5 else s
    | none => r.1
  else if s.fab.excess then s.admitSend k id 64
  else match s.fab.addr, s.rootLink with
    | some _, some j =>
      (s.joinSend j id claim parts).onFab (fun x => { x with relays := x.relays.filter (fun r => r.1 != id) ++ [(id, k.val)] })
    | _, _ => s

/-- `JOIN_RECEIVED`. -/
def execJoinReceived (dt : Nat) (k : Fin 6) (payload : List Byte) (s : State) : Host.Outcome State Fault Refusal :=
  let s := s.advance dt
  done (if s.running ∧ payload.length = 64 then (s.frameFrom k 2 64).joinIn k payload else s)

/-- `JOIN_REPEAT`: every 1 s while the device holds no address and has not been refused (R375). -/
def execJoinRepeat (dt : Nat) (s : State) : Host.Outcome State Fault Refusal :=
  let s := s.advance dt
  let due := match s.fab.joinAt with | some t => decide (t + 1000000000 ≤ s.now) | none => false
  let on := linkAll.find? (fun k => s.linkActive k &&
    (match s.fab.links[k].partner with | some p => p.addr.isSome | none => false))
  match on with
  | some k => done (if s.running && due && s.fab.addr.isNone && !s.fab.excess then s.joinOwn k else s)
  | none => done s

/-- An ADMIT arrives (R375, R378): the device's own, or one that it relays. What the address means for the share groups is
added in `FabricIn` (R558). -/
def State.admitIn (s : State) (k : Fin 6) (b : List Byte) : State :=
  let id := leAt b 0 8
  let a := byteAt b 8
  let st := s.fab.links[k].state
  if st != .active && st != .parked then s
  else if id = ownId then
    if s.fab.addr.isSome ∨ s.fab.excess then s
    else if a < 64 then (s.onFab (fun x => { x with addr := some a })).timeRec s.tb 0x0207 a s.tb 0
    else
      (s.onFab (fun x => { x with
        excess := true
        links := x.links.map (fun l => if l.state == .active || l.state == .hello then { l with state := .parked, park := 5 }
          else l) })).linkWatch
  else match s.fab.relays.find? (fun r => r.1 == id) with
    | none => s
    | some r =>
      let j : Fin 6 := Fin.ofNat 6 r.2
      let s := (s.onFab (fun x => { x with relays := x.relays.filter (fun q => q.1 != id) })).hopSend j 3 b
      if 64 ≤ a ∧ s.partnerId j = id ∧ s.fab.links[j].state ≠ .parked then s.park j 5 else s

/-! ## Route tables on a device -/

/-- A ROUTES packet's payload (R380). -/
def State.routesIn (s : State) (b : List Byte) : State := s.tableKeep (leAt b 0 2) ((b.drop 2).map (fun y => min y.toNat 7))

/-- `ROUTES_RECEIVED`. -/
def execRoutesReceived (dt : Nat) (payload : List Byte) (s : State) : Host.Outcome State Fault Refusal :=
  let s := s.advance dt
  done (if s.running ∧ payload.length = 66 then (s.frameRow none none false (s.fab.addr.getD 0) 0 4 66).routesIn payload else s)

/-- A ROUTES_APPLY command, taken once (R385, R386). -/
def State.routesApply (s : State) (origin seq instant version : Nat) : State :=
  let q := s.fabSeen origin 7 seq
  if q.1 then q.2 else q.2.onFab (fun x => { x with applyAt := x.applyAt ++ [(instant, version)] })

/-- `ROUTES_APPLY`. -/
def execRoutesApply (dt : Nat) (origin : BitVec 6) (seq : BitVec 16) (instant : Nat) (version : BitVec 16) (s : State) :
    Host.Outcome State Fault Refusal :=
  let s := s.advance dt
  done (if s.running then (s.frameRow none (some seq.toNat) true 0 origin.toNat 7 48).routesApply origin.toNat seq.toNat instant version.toNat else s)

/-- `ROUTES`: at T the table of the named version comes into force, or the command is ignored and counted (R386, R387). -/
def execRoutes (dt : Nat) (s : State) : Host.Outcome State Fault Refusal :=
  let s := s.advance dt
  match s.fab.applyAt.find? (fun a => decide (a.1 ≤ s.tb)) with
  | none => done s
  | some a =>
    if !s.running then done s
    else
      let s := s.onFab (fun x => { x with applyAt := x.applyAt.erase a })
      match s.fab.tblNext.find? (fun t => t.1 == a.2) with
      | some t =>
        if s.fab.tblVer < a.2 then
          done (((s.onFab (fun x => { x with
            tblVer := a.2, tblNext := x.tblNext.filter (fun t => decide (a.2 < t.1)), routes := Vector.ofFn (fun d : Fin 64 => t.2.getD d.val 7) })).event
              a.1 Unit.dev 0x0E07 1 a.2).joinFlush)
        else done ((s.onFab (fun x => { x with applyIgnored := x.applyIgnored + 1 })).event a.1 Unit.dev 0x0E07 2 a.2)
      | none => done ((s.onFab (fun x => { x with applyIgnored := x.applyIgnored + 1 })).event a.1 Unit.dev 0x0E07 2 a.2)

/-! ## Time synchronisation (R66, R79, R383, R384) -/

/-- `SYNC_REQ_SEND`: every 1 ms, at the multiple of 1,000,000 ns plus 10,000 ns times the parent link index, on an even
nanosecond of TB_NOW. The payload is not stated (log 27). -/
def execSyncReqSend (dt : Nat) (s : State) : Host.Outcome State Fault Refusal :=
  let s := s.advance dt
  match s.parent with
  | none => done s
  | some k =>
    let ms := s.tb / 1000000
    if s.running && decide (ms * 1000000 + 10000 * k.val ≤ s.tb) && s.fab.links[k].reqMs != some ms then
      let f := s.waitDrain.fresh
      let q := f.2.hopSend k 5 (leBytes 4 (Config.freeWord f.1).toNat ++ zeros 4)
      done (q.modLink k (fun l => { l with t1 := some (f.2.leaveTb k false), reqMs := some ms }))
    else done s

/-- A SYNC_REQ arrives: its sender has this device as its parent; the reply carries its arrival, its own departure, and this device's hops
(R383). -/
def State.syncReqIn (s : State) (k : Fin 6) : State :=
  if s.linkActive k then
    let s := s.waitDrain
    (s.hopSend k 6 (leBytes 8 s.tb ++ leBytes 8 (s.leaveTb k false) ++ leBytes 1 s.hopsShown ++ zeros 7)).modLink k
      (fun l => { l with reqAt := some s.now })
  else s

/-- `SYNC_REQ_RECEIVED`. -/
def execSyncReqReceived (dt : Nat) (k : Fin 6) (s : State) : Host.Outcome State Fault Refusal :=
  let s := s.advance dt
  done (if s.running then (s.frameFrom k 5 8).syncReqIn k else s)

/-- The least of a list of delays. -/
def minDelay (l : List Rat) : Rat := l.foldl (fun m d => if d < m then d else m) (l.headD 0)

/-- The hop count of this device (R383). -/
def State.hopCount (s : State) (k : Fin 6) : Nat :=
  if s.regs.FAB_CFG_TOPO then (match s.fab.links[k].partner with | some p => p.hops + 1 | none => 15)
  else (match s.fab.addr with | some a => (linkAll.filter (fun j => a.testBit j.val)).length | none => 15)

/-- TB_NOW is loaded from the root (R66): the one step it ever takes; the boundaries fall anew on the multiples of the
period, and the tick under way keeps the time it has used. A holdover, the lease, an image session, a quarantine, the dwell of a bit rate and
the time in BRAKE keep their durations; other stamps taken before the load keep their values (log 82). -/
def State.tbLoad (s : State) (new : Nat) : State :=
  let old := s.tb
  let per := s.period
  let keep (t : Nat) : Nat := t + new - old
  let s := s.onClk (fun c => { c with tb := new })
  let s := (s.onTick (fun t => { t with began := new / per * per, workBegan := keep t.workBegan })).onTbs
    (fun t => { t with loaded := true, holdSince := keep t.holdSince, lossAt := keep t.lossAt })
  let s := s.onCp (fun x => { x with
    token := { x.token with renewed := keep x.token.renewed }, image := { x.image with lastAt := keep x.image.lastAt }
    quar := x.quar.map (fun q => (q.1, keep q.2)) })
  let s := s.onCan (fun v => v.map (fun x => { x with quar := x.quar.map keep, abd := { x.abd with since := keep x.abd.since } }))
  s.onMode (fun m => { m with brakeAt := keep m.brakeAt })

/-- `SYNC_LOST`: no completed exchange for 20 ms, or the trim at its limit for 100 ms (R79). -/
def execSyncLost (dt : Nat) (trimLimit : Bool) (s : State) : Host.Outcome State Fault Refusal :=
  let s := s.advance dt
  let due := if trimLimit then (match s.fab.trimLim with | some t => decide (t + runNs ≤ s.now) | none => false)
    else decide (s.fab.lastEx + 20000000 ≤ s.now)
  if s.running && s.tbs.loaded && !s.tbs.syncLost && due then
    done (((s.onTbs (fun t => { t with syncLost := true, lostSince := s.tb, synced := false })).onFab
      (fun x => { x with lossOff := none })).timeRec s.tb 0x0204 (b2n trimLimit) (twos 8 s.tbs.offset) (twos 8 s.tbs.trim))
  else done s

/-! ## Fabric loss (R390) -/

/-- `FABRIC_LOSS`: no enabled link has worked for FAB_LOSS_T; the stop cause is set (Table 5 of the modes chapter). -/
def execFabricLoss (dt : Nat) (s : State) : Host.Outcome State Fault Refusal :=
  let s := s.advance dt
  let due := match s.fab.noLink with
    | some t => decide (t + 10000000 * s.regs.DEV_MODE_CFG_FAB_LOSS_T ≤ s.now)
    | none => false
  done (if s.running && s.regs.DEV_MODE_CFG_FAB_LOSS && due then s.setStop 2 true else s)

/-- At a boundary: the records that runs owe (R389). -/
def State.fabBoundary (s : State) : State := linkAll.foldl (fun s k => s.linkRunsDue k) s

end Sys2Proof.Machine
end

