-- ==== Sys2Proof/Machine/Siphon.lean ====
section
/-! DEFINITION. Work SRAM, the rings and the Siphon data mover (chapter 17). What a Carafe stream takes is in `Recorder`, which this
file does not see: a stream is asked through `streamRoom` and given through `streamPut`. -/
namespace Sys2Proof.Machine

/-! ## Work SRAM (R447) -/

/-- Change one ring, one channel. -/
def State.modRing (s : State) (r : Fin 32) (f : RingSt → RingSt) : State := s.onSip (fun x => { x with rings := vset x.rings r f })
def State.modCh (s : State) (c : Fin 32) (f : ChSt → ChSt) : State := s.onSip (fun x => { x with chs := vset x.chs c f })

/-- Read bytes of work SRAM. -/
def State.sramRead (s : State) (a n : Nat) : List Byte := cellGetRange (fun _ => 0) s.sip.sram a n

/-- Write bytes of work SRAM. A word that is written whole is in error no more. -/
def State.sramWrite (s : State) (a : Nat) (bs : List Byte) : State :=
  s.onSip (fun x => { x with
    sram := cellPutRange (fun _ => 0) a bs x.sram, ecc := x.ecc.filter (fun q => decide (q.1 < a ∨ a + bs.length < q.1 + 4)) })

/-- A read meets a word of work SRAM: one that is in error counts, corrected or not (R520). -/
def State.sramMeet (s : State) (a : Nat) : State :=
  match s.sip.ecc.find? (fun q => q.1 == a) with
  | some (_, true) => s.onSip (fun x => { x with uncorr := satInc 16 x.uncorr })
  | some (_, false) => s.onSip (fun x => { x with corr := satInc 16 x.corr })
  | none => s

/-- The mover has met a word that cannot be corrected: it stays in error and counts (R465, R520). -/
def State.sramBad (s : State) (a : Nat) : State :=
  s.onSip (fun x => { x with
    uncorr := satInc 16 x.uncorr
    ecc := x.ecc.filter (fun q => decide (q.1 < a)) ++ (a, true) :: x.ecc.filter (fun q => decide (a < q.1)) })

/-- The window of a host channel: its first address. -/
def windowBase (c : Nat) : Nat := 0x1380000 + 0x8000 * (c - 16)

/-- The host channel in whose window an address lies. -/
def windowOf (a : Nat) : Option (Fin 32) :=
  if 0x1380000 ≤ a ∧ a < 0x1400000 then some (Fin.ofNat 32 (16 + (a - 0x1380000) / 0x8000)) else none

/-- Is an origin the owner of a channel (R452)? -/
def State.ownsCh (s : State) (o : Origin) (c : Nat) : Bool :=
  let cls : Bool := match s.regs.SIP_CHc_CFG_OWNER c with
    | 1 => o.cls == .A
    | 2 => o.cls == .B
    | 3 => o.cls == .M
    | _ => false
  let d := s.regs.SIP_CHc_CFG_OWNER_DEV c
  decide (16 ≤ c) && cls && (if d = 0x40 then o.dev.isNone else s.originDev o == d)

/-! ## Rings (R448 to R451) -/

/-- The size of a ring. -/
def State.ringSize (s : State) (r : Nat) : Nat := 2 ^ s.regs.RNG_r_CFG_LOG2 r

/-- The ring that takes a record of a unit and type (Table 1); `none` for a unit that no row names. -/
def ringFor (unit typ : Nat) : Option (Fin 32) :=
  if typ = 8 then some 1
  else if typ = 7 then some 2
  else if unit = 0xB0 then some 3
  else if 0x10 ≤ unit ∧ unit < 0x16 then some (if typ = 1 then Fin.ofNat 32 (10 + (unit - 0x10)) else Fin.ofNat 32 (4 + (unit - 0x10)))
  else if 0x20 ≤ unit ∧ unit < 0x24 then some (Fin.ofNat 32 (16 + (unit - 0x20)))
  else if unit = 0x30 ∨ unit = 0x40 then some 20
  else if unit = 0x80 then some 21
  else if unit = 0x81 then some 22
  else if 0x70 ≤ unit ∧ unit < 0x73 then some 23
  else if 0x60 ≤ unit ∧ unit < 0x66 then some 24
  else if unit = 0x90 ∨ unit = 0xA0 then some 25
  else if unit = 0xC0 then some 26
  else if unit = 0 then some 0
  else none

/-- The bytes of a record: header and padded payload (Table 4 of the time-base chapter, R75). -/
def Record.bytes (r : Record) : List Byte :=
  leBytes 8 r.time ++ leBytes 2 (r.dev * 1024 + r.unit) ++ leBytes 2 r.seq ++ leBytes 1 r.typ ++ leBytes 1 r.flags
    ++ leBytes 2 r.payload.length ++ r.payload ++ zeros ((8 - r.payload.length % 8) % 8)

/-- Pointers count modulo 2³². -/
def ptrAdd (p n : Nat) : Nat := (p + n) % 2 ^ 32

/-- The distance from one pointer to another. -/
def ptrSub (a b : Nat) : Nat := (a + 2 ^ 32 - b) % 2 ^ 32

/-- Write bytes at a place of the ring's stream: they may run across the end of the ring. -/
def State.ringPut (s : State) (r : Fin 32) (pos : Nat) (bs : List Byte) : State :=
  let size := s.ringSize r
  let base := (s.regs.RNG_r_BASE r).toNat
  let o := pos % size
  let n := size - o
  (s.sramWrite (base + o) (bs.take n)).sramWrite base (bs.drop n)

/-- The bytes at a place of the ring's stream. -/
def State.ringGet (s : State) (r : Fin 32) (pos len : Nat) : List Byte :=
  let size := s.ringSize r
  let base := (s.regs.RNG_r_BASE r).toNat
  let o := pos % size
  let n := min len (size - o)
  s.sramRead (base + o) n ++ s.sramRead base (len - n)

/-- One loss at a ring by cause: counted, and recorded in a run, but for RNG25 (R451). -/
def State.ringLoss (s : State) (r : Fin 32) (cause : Fin 5) : State :=
  let s := s.modRing r (fun x =>
    if cause = 4 then { x with tapLost := satInc 16 x.tapLost } else { x with lost := satInc 16 x.lost })
  if r = 25 then s
  else
    let q := s.sip.rings[r].runs[cause].event s.now s.tb
    q.2.foldl (fun s e => s.event e.1 Unit.sip 0x1104 (r.val + 256 * cause.val) e.2)
      (s.modRing r (fun x => { x with runs := x.runs.set cause q.1 }))

/-- The records that the runs of a ring owe. -/
def State.ringRunsDue (s : State) (r : Fin 32) : State :=
  ([1, 2, 3, 4] : List (Fin 5)).foldl (fun (s : State) (cause : Fin 5) =>
    let q := s.sip.rings[r].runs[cause].due s.now
    q.2.toList.foldl (fun s e => s.event e.1 Unit.sip 0x1104 (r.val + 256 * cause.val) e.2)
      (s.modRing r (fun x => { x with runs := x.runs.set cause q.1 }))) s

/-- RD passes the oldest record of a ring. A tap that has not read it loses it (R451). -/
def State.rdPass (s : State) (r : Fin 32) : State :=
  match s.sip.rings[r].recs with
  | [] => s
  | q :: t =>
    let rd := ptrAdd q.pos q.len
    let missed := s.sip.rings[r].tap == q.pos && s.regs.RNG_r_CFG_TAP_CH r != 0
    let s := s.modRing r (fun x => { x with recs := t, rd := rd, tap := if x.tap = q.pos ∨ s.regs.RNG_r_CFG_TAP_CH r = 0 then rd else x.tap })
    if missed then s.ringLoss r 4 else s

/-- The position of the record that the mover is moving out of a ring, while a DRAIN is in progress (R451). -/
def State.moving (s : State) (r : Fin 32) : Option Nat :=
  match s.sip.desc with
  | some d =>
    if d.op = 1 ∧ d.src % 32 = r.val then some (if d.flags.testBit 3 then s.sip.rings[r].tap else s.sip.rings[r].rd) else none
  | none => none

/-- Make room for `len` bytes by passing over the oldest records; `false` where that would pass over a record in motion. -/
def State.makeRoom (s : State) (r : Fin 32) (len : Nat) : Nat → State × Bool
  | 0 => (s, decide (len + ptrSub s.sip.rings[r].wr s.sip.rings[r].rd ≤ s.ringSize r))
  | n + 1 =>
    let x := s.sip.rings[r]
    if len + ptrSub x.wr x.rd ≤ s.ringSize r then (s, true)
    else if s.moving r = some x.rd then (s, false)
    else ((s.rdPass r).ringLoss r 1).makeRoom r len n

/-- Could the records before the one in motion make room? Nothing is passed over where they could not. -/
def State.canRoom (s : State) (r : Fin 32) (len : Nat) : Bool :=
  let x := s.sip.rings[r]
  match s.moving r with
  | none => true
  | some p => decide (len + ptrSub x.wr p ≤ s.ringSize r)

/-- A host channel's own fill of a ring (R456). -/
def State.chFill (s : State) (c : Nat) (r : Fin 32) : Nat :=
  let x := s.sip.rings[r]
  ptrSub x.wr (if s.regs.RNG_r_CFG_TAP_CH r = c then x.tap else x.rd)

/-- A trigger of a channel: an idle one becomes PENDING, a running one again when it completes (R454). The trigger that makes it PENDING says
whether the activation is a flush (log 139). -/
def State.trigger (s : State) (c : Fin 32) (flush : Bool) : State :=
  match s.sip.chs[c].state with
  | .idle => s.modCh c (fun x => { x with state := .pending, flush := flush })
  | .running => s.modCh c (fun x => if x.again then x else { x with again := true, againFlush := flush })
  | .pending | .stopped | .halted => s

/-- The fill of a ring has grown: channels whose mark it reaches are triggered (R455, R456). -/
def State.fillTriggers (s : State) (r : Fin 32) : State :=
  (List.finRange 32).foldl (fun (s : State) (c : Fin 32) =>
    if c.val < 16 then
      if bit (s.regs.SIP_CHc_RMASK c) r.val ∧ s.regs.RNG_r_HI r ≤ ptrSub s.sip.rings[r].wr s.sip.rings[r].rd then s.trigger c false
      else s
    else if s.regs.SIP_CHc_CFG_TRIG_EN c && s.regs.SIP_CHc_CFG_TRIG_RING c == r.val && s.sip.chs[c].started
        && s.regs.SIP_CHc_CFG_OWNER c != 0 && decide (s.regs.RNG_r_HI r ≤ s.chFill c r) then s.trigger c false
    else s) s

/-- A record is written to a ring whole (R450, R451). -/
def State.ringWrite (s : State) (r : Fin 32) (bs : List Byte) : State :=
  if !s.regs.RNG_r_CFG_EN r then s.onSip (fun x => { x with offDrop := satInc 32 x.offDrop })
  else if s.ringSize r < bs.length then s.ringLoss r 3
  else
    let x := s.sip.rings[r]
    let fits := decide (bs.length + ptrSub x.wr x.rd ≤ s.ringSize r)
    if !fits && (s.regs.RNG_r_CFG_FULL r || !s.canRoom r bs.length) then s.ringLoss r 2
    else
      let q := if fits then (s, true) else s.makeRoom r bs.length x.recs.length
      let s := q.1
      let pos := s.sip.rings[r].wr
      ((s.ringPut r pos bs).modRing r (fun x => { x with
        wr := ptrAdd pos bs.length, recs := x.recs ++ [⟨pos, bs.length, s.tb⟩] })).fillTriggers r

/-- `RECORD_EMIT`: the oldest record that waits goes to its ring (R449). -/
def execRecordEmit (dt : Nat) (s : State) : Host.Outcome State Fault Refusal :=
  let s := s.advance dt
  match s.running, s.recs.outbox with
  | true, r :: t =>
    let s := s.onRecs (fun x => { x with outbox := t })
    match ringFor r.unit r.typ with
    | some k => done (s.ringWrite k r.bytes)
    | none => done (s.onSip (fun x => { x with offDrop := satInc 32 x.offDrop }))
  | _, _ => done s

/-! ## Channels (R452 to R456) -/

/-- Where the supervisor keeps the chain of a device channel in the device area (DESIGN CHOICE, log 30). -/
def chainBase (c : Nat) : Nat := 0x1370000 + 0x400 * c

/-- The rings of a mask, ascending. -/
def ringsOf (m : Word) : List Nat := (List.range 32).filter (fun r => bit m r)

/-- The descriptor bytes of a DRAIN that the supervisor builds. -/
def drainBytes (ring dst next : Nat) : List Byte :=
  let h := leBytes 1 1 ++ zeros 3
  h ++ leBytes 4 ring ++ leBytes 4 dst ++ leBytes 4 1048576 ++ leBytes 4 next ++ zeros 8 ++ complBytes h

/-- The chain of a device channel (R452). -/
def State.buildChain (s : State) (c : Nat) : State :=
  let rs := ringsOf (s.regs.SIP_CHc_RMASK c)
  let base := chainBase c
  (List.range rs.length).foldl (fun s i =>
    s.sramWrite (base + 32 * i)
      (drainBytes (rs.getD i 0) (s.regs.SIP_CHc_DEST c) (if i + 1 < rs.length then base + 32 * (i + 1) else 0))) s

/-- HOLD entry: pointers 0, every channel IDLE, every fetch buffer empty, the chains of the device channels built (R448, R453). -/
def State.sipStart (s : State) : State :=
  (List.range 16).foldl State.buildChain
    (s.onSip (fun x => { x with
      rings := Vector.replicate 32 {}, chs := Vector.replicate 32 {}, run := none, last := 31, desc := none, halted := false }))

/-- The first descriptor of a channel. -/
def State.headOf (s : State) (c : Fin 32) : Nat := if c.val < 16 then chainBase c.val else (s.regs.SIP_CHc_HEAD c).toNat

/-- A channel stops with a code, with its record (R457, R462, R456). -/
def State.chStop (s : State) (c : Fin 32) (code : Nat) : State :=
  let s := s.modCh c (fun x => { x with
    state := .stopped, code := code, again := false, stopReq := false, started := false, flush := false })
  let s := if s.sip.run = some c then s.onSip (fun x => { x with run := none, last := c.val, desc := none }) else s
  s.event s.tb Unit.sip 0x1101 (c.val + 256 * code) s.sip.chs[c].cur

/-- A channel completes its chain: IDLE, or PENDING again (R454, R461). -/
def State.chComplete (s : State) (c : Fin 32) : State :=
  let s := s.onSip (fun x => { x with run := none, last := c.val, desc := none })
  s.modCh c (fun x =>
    if x.again then { x with state := .pending, flush := x.againFlush, again := false, againFlush := false }
    else { x with state := .idle, flush := false })

/-- `CHANNEL_FLUSH` (R455): a record that has stood in a ring for FLUSH. -/
def execChannelFlush (dt : Nat) (c : Fin 16) (s : State) : Host.Outcome State Fault Refusal :=
  let s := s.advance dt
  let k : Fin 32 := ⟨c.val, by omega⟩
  let old := (List.finRange 32).any (fun r => bit (s.regs.SIP_CHc_RMASK k) r.val &&
    (match s.sip.rings[r].recs with
      | q :: _ => decide (q.at' + nsOf (s.regs.SIP_CHc_FLUSH k) ≤ s.tb)
      | [] => false))
  done (if s.running && old && !s.sip.halted then s.trigger k true else s)

/-! ## Descriptors (R457 to R462) -/

/-- The descriptor at an address. -/
def State.descAt (s : State) (a : Nat) : Desc × List Byte :=
  let b := s.sramRead a 32
  ({ op := byteAt b 0, flags := byteAt b 1, src := leAt b 4 4, dst := leAt b 8 4, len := leAt b 12 4, next := leAt b 16 4 }, b)

/-- Does `[a, a + n)` lie within `[lo, hi)`? -/
def inRange (a n lo hi : Nat) : Bool := decide (lo ≤ a) && decide (a + n ≤ hi)

/-- The code with which a descriptor fails its checks; 0 where it passes (R457, R459). -/
def State.descCode (s : State) (c : Fin 32) (a : Nat) : Nat :=
  let q := s.descAt a
  let d := q.1
  let b := q.2
  let f (i : Nat) : Bool := d.flags.testBit i
  let host := decide (16 ≤ c.val)
  let unit := if f 1 then 4 else if f 0 then 2 else 1
  let fmt : Bool :=
    a % 32 != 0 || decide (1 < d.op) || decide (64 ≤ d.flags) || leAt b 2 2 != 0 || b.drop 28 != complBytes (b.take 4)
    || (d.op == 1 && (f 0 || f 1 || f 2)) || (d.op == 0 && f 3)
    || (if d.op = 0 then d.len == 0 || decide (32768 < d.len) || d.len % unit != 0
        else d.len == 0 || decide (1048576 < d.len) || decide (32 ≤ d.src) || !s.regs.RNG_r_CFG_EN (d.src % 32))
  let w := windowBase c.val
  let dstOk : Bool :=
    if d.dst = 0x30 then host
    else if 0x10 ≤ d.dst ∧ d.dst < 0x14 then !host
    else decide (0x20 + 27 ≤ d.dst) && decide (d.dst ≤ 0x20 + 31)
  let addr : Bool :=
    (host && (!inRange a 32 w (w + 0x8000) || (d.next != 0 && !inRange d.next 32 w (w + 0x8000))))
    || (if d.op = 0 then
          !(inRange d.src d.len 0x1000000 0x1400000 || inRange d.src d.len 0x100000 0x140000)
            || !(host && inRange d.dst d.len w (w + 0x8000))
        else
          !dstOk || (host &&
            ((!f 3 && (List.range 16).any (fun k => bit (s.regs.SIP_CHc_RMASK k) (d.src % 32)))
              || (f 3 && s.regs.RNG_r_CFG_TAP_CH (d.src % 32) != c.val))))
  let lap : Bool := d.op == 0 && decide (d.src < d.dst + d.len) && decide (d.dst < d.src + d.len)
    && (decide (d.src < d.dst) || !f 2)
  if fmt then 4 else if addr then 3 else if lap then 2 else 0

/-- The next PENDING channel in round-robin order after the one that ran last (R454). -/
def State.nextPending (s : State) : Option (Fin 32) :=
  ((List.range 32).map (fun i => (Fin.ofNat 32 (s.sip.last + 1 + i) : Fin 32))).find?
    (fun c => s.sip.chs[c].state == .pending)

/-- The mover's channel fetches its next descriptor: the visit limit, then the checks (R457, R462). -/
def State.fetchDesc (s : State) (c : Fin 32) : State :=
  let x := s.sip.chs[c]
  if s.regs.SIP_CHc_VMAX c ≤ x.visit then s.chStop c 1
  else
    let s := s.modCh c (fun x => { x with visit := x.visit + 1 })
    let code := s.descCode c x.cur
    if code ≠ 0 then s.chStop c code
    else s.onSip (fun y => { y with desc := some (s.descAt x.cur).1 })

/-- `DESCRIPTOR_FETCHED`: where no channel runs, the next PENDING one starts; the descriptor due is fetched and checked. -/
def execDescriptorFetched (dt : Nat) (s : State) : Host.Outcome State Fault Refusal :=
  let s := s.advance dt
  if !s.running || s.sip.halted || s.sip.desc.isSome then done s
  else
    match s.sip.run with
    | some c => done (s.fetchDesc c)
    | none =>
      match s.nextPending with
      | none => done s
      | some c =>
        let s := (s.onSip (fun x => { x with run := some c })).modCh c (fun x => { x with
          state := .running, visit := 0, acts := satInc 16 x.acts, cur := s.headOf c })
        done (s.fetchDesc c)

/-! ## Moving data (R458 to R461) -/

/-- Exchange the bytes of each half-word. -/
def swap16 : List Byte → List Byte
  | a :: b :: t => b :: a :: swap16 t
  | l => l

/-- Exchange the half-words of each word. -/
def swapH : List Byte → List Byte
  | a :: b :: c :: d :: t => c :: d :: a :: b :: swapH t
  | l => l

/-- Bytes of work SRAM or of the keep-store window. -/
def State.memRead (s : State) (a n : Nat) : List Byte :=
  if a < 0x1000000 then s.ksRead (a - 0x100000) n else s.sramRead a n

/-- A COPY of the first `n` bytes of its length. Its ascending order shows only where the ranges overlap, and there, with
DST at or below SRC, the bytes are those before the copy (R458, R459). -/
def State.copyBytes (s : State) (d : Desc) (n : Nat) : State :=
  let b := s.memRead d.src d.len
  let b := if d.flags.testBit 0 then swap16 b else b
  let b := if d.flags.testBit 1 then swapH b else b
  s.sramWrite d.dst (b.take n)

/-- How a DRAIN asks its Carafe stream for room, and gives it a record. -/
structure StreamPort where
  room : State → Fin 4 → Bool
  put : State → Fin 4 → List Byte → State

/-- The bytes in a fetch buffer. -/
def fetchFill (x : ChSt) : Nat := x.fetch.foldl (fun a r => a + r.length) 0

/-- The oldest record at a DRAIN's pointer. -/
def State.drainNext (s : State) (r : Fin 32) (tap : Bool) : Option RingRec :=
  let x := s.sip.rings[r]
  if tap then x.recs.find? (fun q => decide (ptrSub q.pos x.tap < 2 ^ 31)) else x.recs.head?

/-- The pointer of a DRAIN passes a record. -/
def State.drainPass (s : State) (r : Fin 32) (tap : Bool) (q : RingRec) : State :=
  if tap then s.modRing r (fun x => { x with tap := ptrAdd q.pos q.len }) else s.rdPass r

/-- A DRAIN, at most `n` records more (R460): the bytes moved so far, and the state. -/
def State.drainLoop (p : StreamPort) (c : Fin 32) (d : Desc) (flush : Bool) : Nat → Nat → State → Nat × State
  | 0, moved, s => (moved, s)
  | n + 1, moved, s =>
    let r : Fin 32 := Fin.ofNat 32 d.src
    let tap := d.flags.testBit 3
    let all := d.flags.testBit 5 || flush
    let x := s.sip.rings[r]
    let fill := ptrSub x.wr (if tap then x.tap else x.rd)
    let low := if all then 0 else s.regs.RNG_r_LO r
    match s.drainNext r tap with
    | none => (moved, s)
    | some q =>
      if fill ≤ low then (moved, s)
      else if d.dst = 0x30 ∧ 3968 < q.len then
        let s := (s.drainPass r tap q).modCh c (fun x => { x with skips := satInc 16 x.skips })
        State.drainLoop p c d flush n moved (s.event s.tb Unit.sip 0x1105 c.val q.len)
      else if d.len < moved + q.len then (moved, s)
      else
        let bs := s.ringGet r q.pos q.len
        if d.dst = 0x30 then
          if 4096 < fetchFill s.sip.chs[c] + q.len then (moved, s)
          else
            let s := s.modCh c (fun x => { x with fetch := x.fetch ++ [bs], bytes := (x.bytes + q.len) % 2 ^ 32 })
            State.drainLoop p c d flush n (moved + q.len) (s.drainPass r tap q)
        else if d.dst < 0x20 then
          let k : Fin 4 := Fin.ofNat 4 d.dst
          if !p.room s k then (moved, s)
          else
            let s := (p.put s k bs).modCh c (fun x => { x with bytes := (x.bytes + q.len) % 2 ^ 32 })
            State.drainLoop p c d flush n (moved + q.len) (s.drainPass r tap q)
        else
          let s := (s.drainPass r tap q).modCh c (fun x => { x with bytes := (x.bytes + q.len) % 2 ^ 32 })
          State.drainLoop p c d flush n (moved + q.len) (s.ringWrite (Fin.ofNat 32 (d.dst - 0x20)) bs)

/-- A descriptor is done: data moved, MOVED and RESULT written back, its record, and what follows (R461). -/
def State.descDone (s : State) (p : StreamPort) (c : Fin 32) (d : Desc) : State :=
  let x := s.sip.chs[c]
  let r : Fin 32 := Fin.ofNat 32 d.src
  let m : Nat × State :=
    if d.op = 0 then
      (d.len, (s.copyBytes d d.len).modCh c (fun x => { x with bytes := (x.bytes + d.len) % 2 ^ 32 }))
    else State.drainLoop p c d x.flush s.sip.rings[r].recs.length 0 s
  let s := m.2.sramWrite (x.cur + 20) (leBytes 4 m.1 ++ leBytes 4 0x80000000)
  let s := if d.flags.testBit 4 then s.event s.tb Unit.sip 0x1106 c.val x.cur else s
  let s := s.onSip (fun y => { y with desc := none })
  if s.sip.chs[c].stopReq then s.chStop c 6
  else if d.next = 0 then s.chComplete c
  else s.modCh c (fun x => { x with cur := d.next })

/-- What of a descriptor has been moved when an error ends it: a free part of its bytes or of its records (R463, R465). -/
def State.descPart (s : State) (p : StreamPort) (c : Fin 32) (d : Desc) : State :=
  let f := s.fresh
  let k := (Config.freeWord f.1).toNat
  if d.op = 0 then f.2.copyBytes d (k % d.len)
  else (State.drainLoop p c d s.sip.chs[c].flush (k % (s.sip.rings[(Fin.ofNat 32 d.src : Fin 32)].recs.length + 1)) 0 f.2).2

/-- The word of work SRAM among those a descriptor reads that cannot be corrected, which the event does not name (free); `none` for a COPY
from the keep-store. -/
def State.eccWord (s : State) (d : Desc) (free : Nat) : Option Nat :=
  if d.op = 0 then (if d.src < 0x1000000 then none else some ((d.src + free % d.len) / 4 * 4))
  else
    let r : Fin 32 := Fin.ofNat 32 d.src
    let x := s.sip.rings[r]
    let q := if d.flags.testBit 3 then x.tap else x.rd
    some (((s.regs.RNG_r_BASE r).toNat + (q + free % (max 1 (ptrSub x.wr q))) % s.ringSize r) / 4 * 4)

/-- A descriptor completes, or an uncorrectable error on a read stops its channel (R461, R465). -/
def State.descriptorDone (s : State) (p : StreamPort) (ecc : Bool) : State :=
  match s.running, s.sip.run, s.sip.desc with
  | true, some c, some d =>
    if ecc then
      let f := s.fresh
      let s := (f.2.descPart p c d).chStop c 7
      match f.2.eccWord d (Config.freeWord f.1).toNat with
      | some a => s.sramBad a
      | none => s
    else s.descDone p c d
  | _, _, _ => s

/-! ## Commands (R456, R463, R464) -/

/-- Completion of the pair of `SIP_CHc_CMD`. -/
def doSipCmd (k : Fin 32) (c : Ctx) (s : State) (w : Word) : Res :=
  let cmd := fld w 0 2
  let x := s.sip.chs[k]
  let go : State → Res := fun s =>
    if cmd = 0 then nak s St.range
    else if k.val < 16 then
      (if cmd = 3 ∧ x.state = .stopped then ack (s.modCh k (fun x => { x with state := .idle })) else nak s St.state)
    else if cmd = 1 then
      let h := s.headOf k
      let w := windowBase k.val
      if (x.state = .idle ∨ x.state = .stopped) ∧ h % 32 = 0 ∧ inRange h 32 w (w + 0x8000) then
        ack (s.modCh k (fun x => { x with state := .pending, started := true, stopReq := false, flush := false }))
      else nak s St.state
    else if cmd = 2 then
      match x.state with
      | .running => ack (s.modCh k (fun x => { x with stopReq := true }))
      | .pending | .idle => ack (s.chStop k 6)
      | .stopped => ack s
      | .halted => nak s St.state
    else if x.state = .stopped then ack (s.modCh k (fun x => { x with state := .idle }))
    else nak s St.state
  if k.val < 16 then needRights true c s go
  else if s.ownsCh c.o k.val then go s else rightsNak c s

/-- A command of a channel by its code. -/
def State.sipCmd (s : State) (o : Origin) (k : Fin 32) (cmd : Nat) : State :=
  s.entry o 2 (some (Reg.SIP_CHc_CMD k)) (fun c s => doSipCmd k c s (w32 cmd)) (ws := [w32 cmd])

/-- `SIP_START`. -/
def execSipStart (dt : Nat) (o : Origin) (c : Fin 32) (s : State) : Host.Outcome State Fault Refusal :=
  done ((s.advance dt).sipCmd o c 1)

/-- `SIP_STOP`. -/
def execSipStop (dt : Nat) (o : Origin) (c : Fin 32) (s : State) : Host.Outcome State Fault Refusal :=
  done ((s.advance dt).sipCmd o c 2)

/-- `CHANNEL_RESTART`. -/
def execChannelRestart (dt : Nat) (o : Origin) (c : Fin 32) (s : State) : Host.Outcome State Fault Refusal :=
  done ((s.advance dt).sipCmd o c 3)

/-- A write of `SIP_CHc_HEAD`. -/
def doSipHead (k : Fin 32) (c : Ctx) (s : State) (w : Word) : Res :=
  if !s.ownsCh c.o k.val then rightsNak c s
  else if s.sip.chs[k].state = .idle ∨ s.sip.chs[k].state = .stopped then
    ack (s.onRegs (fun r => r.set (Reg.SIP_CHc_HEAD k) w))
  else nak s St.state

/-- An access of the mover has not been answered: every channel halts; what of the descriptor in progress has been moved whole stays moved, and the
record in flight stays in its ring (R463). -/
def State.busError (s : State) (p : StreamPort) (addr : Word) : State :=
  let busy := s.sip.run.isSome || s.nextPending.isSome
  if !s.running || s.sip.halted || !busy then s
  else
    let run := s.sip.run
    let s := match run, s.sip.desc with
      | some c, some d => s.descPart p c d
      | _, _ => s
    let s := s.onSip (fun x => { x with
      halted := true, run := none, desc := none, last := (run.map (·.val)).getD x.last
      berrAddr := addr.toNat, berrCh := (run.map (·.val)).getD 0, berrValid := run.isSome, berrCount := satInc 16 x.berrCount
      chs := x.chs.map (fun c => { c with state := .halted, was := c.state, stopReq := false, again := false }) })
    s.event s.tb Unit.sip 0x1102 ((run.map (·.val)).getD 0 + 256 * b2n run.isSome) addr.toNat

/-- Completion of the pair of `SIP_CMD` (R464). -/
def doSipRestart (c : Ctx) (s : State) (w : Word) : Res :=
  needRights true c s fun s =>
    if !bit w 0 then nak s St.range
    else if !s.sip.halted then nak s St.state
    else
      let hit (x : ChSt) : Bool := x.was == .running || x.was == .pending
      let mask := maskOf 32 (fun i => hit s.sip.chs[(Fin.ofNat 32 i : Fin 32)])
      let s := s.onSip (fun x => { x with
        halted := false
        chs := x.chs.map (fun c =>
          if hit c then { c with state := .stopped, code := 5, started := false, flush := false }
          else if c.was = .stopped then { c with state := .stopped } else { c with state := .idle }) })
      ack (s.event s.tb Unit.sip 0x1103 (clsPort c.o.cls).val mask)

/-- `SIP_RESTART`. -/
def execSipRestart (dt : Nat) (o : Origin) (w : Word) (s : State) : Host.Outcome State Fault Refusal :=
  done ((s.advance dt).entry o 2 (some Reg.SIP_CMD) (fun c s => doSipRestart c s w) (ws := [w]))

/-- A word is written to work SRAM (R447, R490): only by the owner of a window, while its channel is IDLE or STOPPED and no
replay fills the place. -/
def doSramWrite (a : Nat) (c : Ctx) (s : State) (w : Word) : Res :=
  match windowOf a with
  | none => rightsNak c s
  | some k =>
    let r := s.car.rpl
    if r.state = 1 ∧ windowBase r.ch + r.base ≤ a ∧ a < windowBase r.ch + r.base + r.len then nak s St.state
    else if !s.ownsCh c.o k.val then rightsNak c s
    else if s.sip.chs[k].state = .idle ∨ s.sip.chs[k].state = .stopped then ack (s.sramWrite a (leBytes 4 w.toNat))
    else nak s St.state

/-- `WORK_SRAM_WRITE`: an address that is no multiple of 4, or outside work SRAM, is out of range (R514). -/
def execWorkSramWrite (dt : Nat) (o : Origin) (addr value : Word) (s : State) : Host.Outcome State Fault Refusal :=
  done ((s.advance dt).entry o 2 (some addr.toNat) (fun c s =>
    if addr.toNat % 4 ≠ 0 ∨ areaOf addr.toNat ≠ .sram then nak s St.range else doSramWrite addr.toNat c s value) (ws := [value]))

/-! ## FETCH (R466) -/

/-- As many whole records as fit in `max` bytes. -/
def takeFit : List (List Byte) → Nat → List (List Byte) × List (List Byte)
  | [], _ => ([], [])
  | r :: t, max => if r.length ≤ max then let q := takeFit t (max - r.length); (r :: q.1, q.2) else ([], r :: t)

/-- Does a chain of a host channel hold a fetch-buffer destination? Looked for from HEAD through at most VMAX descriptors. -/
def State.hasFetchDest (s : State) (a : Nat) : Nat → Bool
  | 0 => false
  | n + 1 =>
    let d := (s.descAt a).1
    (d.op == 1 && d.dst == 0x30) || (d.next != 0 && s.hasFetchDest d.next n)

/-- A FETCH entry. -/
def doFetch (k : Fin 32) (max : Nat) (c : Ctx) (s : State) : Res :=
  if k.val < 16 then nak s St.state
  else if !s.ownsCh c.o k.val then rightsNak c s
  else if max < 16 ∨ 3968 < max then nak s St.range
  else if s.sip.chs[k].fetch.isEmpty ∧ !s.hasFetchDest (s.headOf k) (s.regs.SIP_CHc_VMAX k) then nak s St.state
  else
    let q := takeFit s.sip.chs[k].fetch max
    match q.1, q.2 with
    | [], r :: _ => (s, { status := St.ack, detail := r.length })
    | rs, left => ack (s.modCh k (fun x => { x with fetch := left })) rs.flatten

/-- `FETCH`. -/
def execFetch (dt : Nat) (o : Origin) (ch : Fin 32) (max : Nat) (s : State) : Host.Outcome State Fault Refusal :=
  done ((s.advance dt).entry o 5 none (fun c s => doFetch ch max c s) (args := leBytes 1 ch.val ++ leBytes 1 0 ++ leBytes 2 (min max 65535)))

/-- At a boundary: the records that runs owe (R451). -/
def State.sipBoundary (s : State) : State := (List.finRange 32).foldl (fun s r => s.ringRunsDue r) s

end Sys2Proof.Machine
end

