-- ==== Sys2Proof/Machine/Recorder.lean ====
section
/-! DEFINITION. The Carafe recorder (chapter 18): blocks and their choice, streams and pages, captures, maintenance, the mount,
stages, faults of the NAND partner and replay. The flash is a partner outside the device: what a read or a mount finds there
comes with the command. -/
namespace Sys2Proof.Machine

/-! ## Geometry, blocks and erase counts (R472, R473, R482, R494) -/

/-- Bytes of a page, pages of a block, blocks of all targets. -/
def State.carPage (s : State) : Nat := 2 ^ s.regs.CAR_GEOM_PAGE_LOG2
def State.carPpb (s : State) : Nat := 2 ^ s.regs.CAR_GEOM_PPB_LOG2
def State.carTotal (s : State) : Nat := (s.regs.CAR_CFG_TARGETS + 1) * s.regs.CAR_GEOM_BLOCKS

/-- The target of a block. -/
def State.targetOf (s : State) (b : Nat) : Nat := b / s.regs.CAR_GEOM_BLOCKS

/-- A block address as records show it: target in [31:16], block in [15:0] (R492). -/
def State.blkAddr (s : State) (b : Nat) : Nat := s.targetOf b * 65536 + b % s.regs.CAR_GEOM_BLOCKS

/-- A target is online. -/
def State.online (s : State) (t : Nat) : Bool := t < 4 && s.car.tgtOn.getLsbD t

/-- The erase count of a block in the keep-store; an entry that fails its pair check is absent (R494). -/
def State.ecOf (s : State) (b : Nat) : Option Nat :=
  let v := leNat (s.ksRead (0xA100 + 4 * b) 4)
  if v % 65536 + v / 65536 = 65535 then some (v % 65536) else none

/-- Write the erase count of a block. -/
def State.ecSet (s : State) (b n : Nat) : State :=
  let n := min n 65535
  s.ksWrite (0xA100 + 4 * b) (leBytes 2 n ++ leBytes 2 (65535 - n))

/-- A count for choosing: an absent one counts as 0. -/
def State.ec (s : State) (b : Nat) : Nat := (s.ecOf b).getD 0

/-- A block as the recorder knows it; `none` for a free good one. -/
def State.carBlk (s : State) (b : Nat) : Option Blk := s.car.blks.find? (fun x => x.b == b)

/-- Change one block. -/
def State.modBlk (s : State) (b : Nat) (f : Blk → Blk) : State :=
  s.onCar (fun x => { x with blks := x.blks.map (fun y => if y.b = b then f y else y) })

/-- The block numbers that are no bad ones, and those that are free. -/
def State.badCount (s : State) : Nat := (s.car.blks.filter (fun x => x.kind == .bad)).length
def State.goodCount (s : State) : Nat := s.carTotal - s.badCount
def State.freeBlks (s : State) : List Nat := (List.range s.carTotal).filter (fun b => (s.carBlk b).isNone)

/-- The good blocks, the sum of their erase counts, and the mean, which registers and records show rounded down. -/
def State.goodBlks (s : State) : List Nat :=
  (List.range s.carTotal).filter (fun b => match s.carBlk b with | some x => x.kind != .bad | none => true)
def State.ecSum (s : State) : Nat := s.goodBlks.foldl (fun a b => a + s.ec b) 0
def State.ecMean (s : State) : Nat := s.ecSum / s.goodBlks.length

/-- The greatest erase count. -/
def State.ecMax (s : State) : Nat := (List.range s.carTotal).foldl (fun a b => max a (s.ec b)) 0

/-- A RECORDER record (R492). -/
def State.carRec (s : State) (time code detail a b : Nat) : State :=
  s.emit time Unit.car 12 0 (leBytes 2 code ++ leBytes 2 detail ++ leBytes 4 a ++ leBytes 8 b)

/-- The recorder programs and erases: it is ready, and not READ_ONLY. -/
def State.carReady (s : State) : Bool := s.running && s.car.st == 2

/-! ## Stages (R487) -/

/-- The stage of the present counts. -/
def State.stageNow (s : State) : Nat :=
  let r := s.regs
  let g := s.goodCount
  let b := r.CAR_AREA_META_BLK + 4 * r.CAR_AREA_DUMP_BLK + r.CAR_RING_MIN
  let e := 16 * r.CAR_AREA_EVT_MAXBLK
  let bad := (r.CAR_ECC_THR_BAD_PCT * s.carTotal + 99) / 100
  if g < b ∨ s.car.foreign ∨ s.car.tgtOn = 0 then 3
  else if g < b + e then 2
  else if 4 * r.CAR_WEAR_EC_RATED * s.goodBlks.length ≤ 5 * s.ecSum ∨ g < b + e + bad then 1
  else 0

/-- The stage is set; it never falls within a mount, and each change writes a record. -/
def State.stageEval (s : State) : State :=
  let n := max s.car.stage s.stageNow
  if n = s.car.stage then s
  else
    (s.onCar (fun x => { x with stage := n, st := if n = 3 ∧ x.st = 2 then 3 else x.st })).carRec s.tb 0x120A n s.goodCount s.ecMean

/-! ## Operations on the NAND -/

/-- The tag of a page (Table 2): its sequence, area and identifier, valid bytes, offset of the first record header (0xFFFF for
none), the erase count of its block, and the TIME of the first record. -/
def State.pageTag (s : State) (b seq area id valid first time : Nat) : List Byte :=
  leBytes 4 seq ++ leBytes 1 area ++ leBytes 1 id ++ leBytes 2 valid ++ leBytes 2 first ++ leBytes 2 (s.ec b) ++ leBytes 8 time ++ zeros 4

/-- The main area of a page: its valid bytes, padded with 0xFF (R472). -/
def State.pageMain (s : State) (data : List Byte) : List Byte := data ++ List.replicate (s.carPage - data.length) 0xFF

/-- An operation waits. -/
def State.nandPush (s : State) (a : NandAct) : State := s.onCar (fun x => { x with ops := x.ops ++ [⟨a, s.tb, false⟩] })

/-- An operation of maintenance (R476), and whether an operation works on a target. -/
def NandAct.maint : NandAct → Bool
  | .read _ _ .scrub | .move .. => true
  | .read .. | .program .. | .erase _ => false
def State.onTarget (s : State) (o : NandOp) (t : Nat) : Bool :=
  match o.act with
  | .program b _ _ _ | .erase b | .read b _ _ => s.targetOf b == t
  | .move b n _ => s.targetOf b == t || s.targetOf n == t

/-- Where a stream page for block `b` goes among the operations that wait: before the maintenance of its target that has not begun, for that runs only
while no stream page waits for the target (R476), and behind what waits for the block itself. -/
def State.streamPlace (s : State) (b : Nat) : Nat :=
  let l := s.car.ops
  let own := l.length - l.reverse.findIdx (fun o => match o.act with | .program c _ _ _ | .erase c => c == b | .read .. | .move .. => false)
  let mine := (List.range l.length).filter (fun i => match l[i]? with | some o => s.onTarget o (s.targetOf b) | none => false)
  let free := ((mine.drop 1).find? (fun i => match l[i]? with | some o => o.act.maint | none => false)).getD l.length
  max own free
def State.nandPushStream (s : State) (b : Nat) (a : NandAct) : State :=
  s.onCar (fun x => { x with ops := x.ops.take (s.streamPlace b) ++ ⟨a, s.tb, false⟩ :: x.ops.drop (s.streamPlace b) })

/-- An erase: the count in the keep-store is written before the command is issued (R482). -/
def State.nandErase (s : State) (b : Nat) : State := (s.ecSet b (s.ec b + 1)).nandPush (.erase b)

/-- The free good block of a target with the least (erase count, number). -/
def State.leastFree (s : State) (t : Nat) : Option Nat :=
  (s.freeBlks.filter (fun b => s.targetOf b == t)).foldl (fun (m : Option Nat) b =>
    match m with
    | some k => if s.ec b < s.ec k then some b else some k
    | none => some b) none

/-- The oldest block of the trend log that no capture pins. -/
def State.oldestRing (s : State) (t : Option Nat) : Option Blk :=
  (s.car.blks.filter (fun x => x.kind == .ring && !x.isOpen && x.pins == 0 && (match t with | some k => s.targetOf x.b == k | none => true))).foldl
    (fun (m : Option Blk) x => match m with | some y => if x.seq < y.seq then some x else some y | none => some x) none

/-- The online targets, from `t` on, in turn. -/
def State.turns (s : State) (t : Nat) : List Nat := ((List.range 4).map (fun i => (t + i) % 4)).filter s.online

/-- A new block (R482): the least worn free one of the next online target in turn; where none is free, the oldest block of the
trend log. It is erased before use. `on`: a target to take it from. -/
def State.newBlk (s : State) (on : Option Nat) (kind : BlkKind) : State × Option Nat :=
  let ts := match on with | some t => [t] | none => s.turns s.car.nextBlk
  let take (s : State) (b : Nat) : State × Option Nat :=
    let pins := maskOf 16 (fun k =>
      let e := s.car.evt.getD k {}
      kind == .ring && e.state == 1 && decide ((s.car.blks.filter (fun x => x.pins.getLsbD k)).length < s.regs.CAR_AREA_EVT_MAXBLK))
    let s := s.onCar (fun x => { x with
      blks := x.blks.filter (fun y => y.b != b) ++ [{ b := b, kind := kind, isOpen := true, seqs := [], seq := x.seq + 1, time := 0
                                                      scrubAt := s.tb, pins := BitVec.ofNat 16 pins }]
      nextBlk := (s.targetOf b + 1) % 4 })
    (s.nandErase b, some b)
  match (ts.filterMap s.leastFree).head? with
  | some b => take s b
  | none =>
    match s.oldestRing on with
    | some x => take s x.b
    | none => (s, none)

/-! ## The META log (R474) -/

/-- The pinned blocks of a capture slot. -/
def State.pinned (s : State) (k : Nat) : List Nat := (s.car.blks.filter (fun x => x.pins.getLsbD k)).map (·.b)

/-- The data half of a META entry (Table 3). -/
def State.metaBytes (s : State) : List Byte :=
  let lists := (List.range 16).map s.pinned
  let offs (k : Nat) : Nat := (lists.take k).foldl (fun a l => a + l.length) 0
  let pins := (lists.flatten.map (leBytes 2)).flatten
  leBytes 4 0x46434E4A ++ leBytes 2 1 ++ zeros 2 ++ leBytes 8 ownId ++ leBytes 4 s.car.gen ++ leBytes 4 s.car.seq
    ++ leBytes 4 (s.regs.get Reg.CAR_GEOM).toNat ++ leBytes 1 s.car.stage ++ leBytes 1 s.car.tgtOn.toNat ++ zeros 2
    ++ ((List.range 16).map (fun k =>
        let e := s.car.evt.getD k {}
        leBytes 1 e.state ++ leBytes 1 e.trigs ++ zeros 2 ++ leBytes 8 e.first ++ leBytes 8 e.last
          ++ leBytes 2 (lists.getD k []).length ++ leBytes 2 (offs k) ++ zeros 8)).flatten
    ++ ((List.range 4).map (fun k =>
        let d := s.car.dump.getD k {}
        leBytes 1 d.state ++ zeros 3 ++ leBytes 4 d.len ++ leBytes 8 d.time)).flatten
    ++ (List.range 2040).map (fun i => BitVec.ofNat 8 (maskOf 8 (fun j =>
        match s.carBlk (8 * i + j) with | some x => x.kind == .bad | none => false)))
    ++ pins.take 2560 ++ List.replicate (2560 - pins.length) 0xFF

/-- A META entry is written: its pages follow each other in one block of the META log, the oldest of whose blocks is used again
when `META_BLK` are full. -/
def State.metaWrite (s : State) : State :=
  if s.car.st ≠ 2 then s
  else
    let page := s.carPage
    let d := s.metaBytes
    let bytes := d ++ complBytes d
    let n := (bytes.length + page - 1) / page
    let here := s.car.blks.find? (fun x => x.kind == .metaLog && x.isOpen && decide (x.pages + n ≤ s.carPpb))
    let logs := s.car.blks.filter (fun x => x.kind == .metaLog)
    let q : State × Option Nat :=
      match here with
      | some x => (s, some x.b)
      | none =>
        let s := s.onCar (fun x => { x with blks := x.blks.map (fun y => if y.kind = .metaLog then { y with isOpen := false } else y) })
        if logs.length < s.regs.CAR_AREA_META_BLK then s.newBlk none .metaLog
        else match logs.foldl (fun (m : Option Blk) x => match m with | some y => if x.seq < y.seq then some x else some y | none => some x) none with
          | some x =>
            ((s.modBlk x.b (fun y => { y with isOpen := true, seqs := [], seq := s.car.seq + 1 })).nandErase x.b, some x.b)
          | none => (s, none)
    match q.2 with
    | none => q.1
    | some b =>
      let s := (List.range n).foldl (fun (s : State) i =>
        let p := match s.carBlk b with | some x => x.pages | none => 0
        let part := (bytes.drop (i * page)).take page
        ((s.onCar (fun x => { x with seq := x.seq + 1 })).modBlk b (fun x => { x with seqs := x.seqs ++ [s.car.seq + 1] })).nandPush
          (.program b p (s.pageTag b (s.car.seq + 1) 3 0 part.length (if i = 0 then 0 else 0xFFFF) 0) (s.pageMain part))) q.1
      s.onCar (fun x => { x with metaAt := s.tb })

/-- `META_CHECKPOINT`: an entry at least every 60 s. -/
def execMetaCheckpoint (dt : Nat) (s : State) : Host.Outcome State Fault Refusal :=
  let s := s.advance dt
  done (if s.carReady && decide (s.car.metaAt + 60000000000 ≤ s.tb) then s.metaWrite else s)

/-! ## Streams and pages (R475) -/

def State.modStream (s : State) (k : Fin 4) (f : StreamSt → StreamSt) : State :=
  s.onCar (fun x => { x with streams := vset x.streams k f })

/-- A page of a stream goes to the open block of the next online target (R475, R476). `first`: where the first record that starts
in the page begins, and its TIME. -/
def State.programPage (s : State) (k : Fin 4) (data : List Byte) (first : Option (Nat × Nat)) : State :=
  let at' := first.getD (0xFFFF, 0)
  match (s.turns s.car.nextTgt).head? with
  | none => s
  | some t =>
    let isOpen := s.car.blks.find? (fun x => x.kind == .ring && x.isOpen && s.targetOf x.b == t)
    let q : State × Option Nat × Bool := match isOpen with
      | some x => (s, some x.b, false)
      | none => let q := s.newBlk (some t) .ring; (q.1, q.2, true)
    match q.2.1 with
    | none => q.1
    | some b =>
      let s := q.1.onCar (fun x => { x with seq := x.seq + 1, nextTgt := (t + 1) % 4 })
      let p := match s.carBlk b with | some x => x.pages | none => 0
      let full := decide (s.carPpb ≤ p + 1)
      let s := s.modBlk b (fun x => { x with
        seqs := x.seqs ++ [s.car.seq], isOpen := x.isOpen && !full
        seq := if p = 0 then s.car.seq else x.seq, time := if p = 0 ∨ x.time = 0 then at'.2 else x.time })
      let s := s.nandPushStream b (.program b p (s.pageTag b s.car.seq 1 k.val data.length at'.1 at'.2) (s.pageMain data))
      if q.2.2 || full then s.metaWrite else s

/-- Room for a record in a stream's one-page buffer (R475). -/
def State.streamRoom (s : State) (k : Fin 4) : Bool :=
  s.carReady && s.regs.CAR_CFG_EN && s.regs.CAR_STRs_CFG k && decide (s.car.streams[k].buf.length < s.carPage)

/-- The full pages of a stream's buffer are programmed. A record runs across page ends, over three of the smallest pages at
most; none starts in the pages after its first one. -/
def State.streamPages (s : State) (k : Fin 4) : Nat → State
  | 0 => s
  | n + 1 =>
    let x := s.car.streams[k]
    let page := s.carPage
    if page ≤ x.buf.length then
      State.streamPages ((s.programPage k (x.buf.take page) x.first).modStream k (fun y => { y with
        buf := x.buf.drop page, first := none, since := if x.buf.length = page then none else some s.tb })) k n
    else s
def State.streamFull (s : State) (k : Fin 4) : State := s.streamPages k (s.car.streams[k].buf.length / s.carPage)

/-! ## Captures (R477, R478) -/

def State.modEvt (s : State) (k : Fin 16) (f : EvtSlot → EvtSlot) : State := s.onCar (fun x => { x with evt := vset x.evt k f })

/-- Puts a block into a list of blocks in the order of their sequence numbers. -/
def bySeqInsert (x : Blk) : List Blk → List Blk
  | [] => [x]
  | y :: l => if x.seq < y.seq then x :: y :: l else y :: bySeqInsert x l

/-- The blocks of the trend log by the sequence of their first page. -/
def State.ringOrder (s : State) : List Blk :=
  (s.car.blks.filter (fun x => x.kind == .ring)).foldl (fun l x => bySeqInsert x l) []

/-- The blocks that a trigger at `t0` pins: those whose successor starts after T0 − PRE, and the open ones; at most
`EVT_MAXBLK`, the newest. -/
def State.pinsFor (s : State) (t0 : Nat) : List Nat :=
  let pre := nsOf s.regs.CAR_EVT_PRE
  let order := s.ringOrder
  let l := (order.zip (order.drop 1 ++ [⟨0, .ring, true, [], 0, t0 + 1, 0, 0, 0⟩])).filter (fun q => q.1.isOpen || decide (t0 < q.2.time + pre))
  let bs := l.map (fun q => q.1.b)
  bs.drop (bs.length - s.regs.CAR_AREA_EVT_MAXBLK)

/-- A capture trigger (R477, R478). `what`: the trigger's TYPE and CODE as `CAR_TRGk` lays them out. -/
def State.capture (s : State) (t0 what : Nat) : State :=
  let post := nsOf s.regs.CAR_EVT_POST
  let pre := nsOf s.regs.CAR_EVT_PRE
  let running := (List.finRange 16).find? (fun k =>
    let e := s.car.evt[k]
    e.state == 1 && decide (e.first ≤ t0 + pre) && decide (t0 ≤ e.last + post))
  match running with
  | some k =>
    let s := s.modEvt k (fun e => { e with trigs := satInc 8 e.trigs, last := max e.last t0 })
    s.carRec s.tb 0x1207 (k.val + 0x200) (s.pinned k).length t0
  | none =>
    if 2 ≤ s.car.stage ∨ s.car.st ≠ 2 then s.carRec s.tb 0x1208 2 what t0
    else
      match (List.finRange 16).find? (fun k => s.car.evt[k].state == 0) with
      | none => s.carRec s.tb 0x1208 1 what t0
      | some k =>
        let bs := s.pinsFor t0
        let s := s.onCar (fun x => { x with
          blks := x.blks.map (fun y => if bs.contains y.b then { y with pins := y.pins ||| BitVec.ofNat 16 (2 ^ k.val) } else y) })
        let s := s.modEvt k (fun _ => { state := 1, trigs := 1, first := t0, last := t0 })
        (s.metaWrite).carRec s.tb 0x1207 (k.val + 0x100) bs.length t0

/-- A record arrives at a stream: its trigger, if it is one, then the buffer (R475, R477). -/
def State.streamPut (s : State) (k : Fin 4) (bs : List Byte) : State :=
  let time := leAt bs 0 8
  let typ := byteAt bs 12
  let code := leAt bs 16 2
  let hit := (List.range 8).any (fun j =>
    s.regs.CAR_TRGk_EN j && s.regs.CAR_TRGk_TYPE j == typ && (s.regs.CAR_TRGk_CODE j == code || s.regs.CAR_TRGk_CODE j == 0xFFFF))
  let s := s.modStream k (fun x => { x with
    buf := x.buf ++ bs, first := some (x.first.getD (x.buf.length, time)), since := some (x.since.getD s.tb)
    lastTime := max x.lastTime time })
  let s := if hit then s.capture time (typ + 65536 * code) else s
  s.streamFull k

/-- The recorder as a destination of the mover. -/
def carPort : StreamPort := { room := State.streamRoom, put := State.streamPut }

/-- `DESCRIPTOR_DONE`. -/
def execDescriptorDone (dt : Nat) (eccError : Bool) (s : State) : Host.Outcome State Fault Refusal :=
  done ((s.advance dt).descriptorDone carPort eccError)

/-- `BUS_ERROR`. -/
def execBusError (dt : Nat) (addr : Word) (s : State) : Host.Outcome State Fault Refusal :=
  done ((s.advance dt).busError carPort addr)

/-- `STREAM_FLUSH`: a page buffer whose oldest record has waited FLUSH is programmed, padded (R472, R475). -/
def execStreamFlush (dt : Nat) (st : Fin 4) (s : State) : Host.Outcome State Fault Refusal :=
  let s := s.advance dt
  let x := s.car.streams[st]
  match x.since with
  | some t =>
    if s.carReady && decide (t + nsOf (s.regs.CAR_STRs_FLUSH st) ≤ s.tb) && !x.buf.isEmpty then
      done ((s.programPage st x.buf x.first).modStream st (fun y => { y with
        buf := [], first := none, since := none }))
    else done s
  | none => done s

/-- The window of a capture has ended (R477). -/
def State.windowOver (s : State) (k : Fin 16) : Bool :=
  let e := s.car.evt[k]
  let post := nsOf s.regs.CAR_EVT_POST
  let all := (List.finRange 4).all (fun j => !s.regs.CAR_STRs_CFG j || decide (e.last + post ≤ s.car.streams[j].lastTime))
  e.state == 1 && (all || decide (e.last + 2 * post < s.tb) || decide (s.regs.CAR_AREA_EVT_MAXBLK ≤ (s.pinned k).length))

/-- `CAPTURE_WINDOW_END`: the slot's open blocks are closed, and the slot is held. -/
def execCaptureWindowEnd (dt : Nat) (k : Fin 16) (s : State) : Host.Outcome State Fault Refusal :=
  let s := s.advance dt
  if s.running && s.windowOver k then
    let s := s.onCar (fun x => { x with blks := x.blks.map (fun y => if y.pins.getLsbD k.val then { y with isOpen := false } else y) })
    let s := s.modEvt k (fun e => { e with state := 2 })
    done (s.metaWrite.carRec s.tb 0x1207 (k.val + 0x300) (s.pinned k).length s.car.evt[k].first)
  else done s

/-! ## Retiring and moving blocks (R480 to R482) -/

/-- A block becomes bad, with its record (R481): 1 program, 2 erase, 3 uncorrectable. -/
def State.blkBad (s : State) (b why : Nat) : State :=
  let s := s.onCar (fun x => { x with
    blks := x.blks.filter (fun y => y.b != b) ++ [{ b := b, kind := .bad, isOpen := false, seqs := [], seq := 0, time := 0 }] })
  ((s.carRec s.tb 0x1204 why (s.blkAddr b) (s.ec b)).stageEval).metaWrite

/-- The block an operation works on, and its operation code. -/
def NandAct.site : NandAct → Nat × Nat
  | .program b _ _ _ => (b, 0x80)
  | .erase b => (b, 0x60)
  | .read b _ _ => (b, 0x00)
  | .move _ n _ => (n, 0x80)

/-- What waited for a block goes to another one, whose erase count is `ec`, with its pages from `lost` on as the first ones. -/
def NandAct.redirect (a : NandAct) (old new lost ec : Nat) : NandAct :=
  match a with
  | .program b p tag main => if b = old then .program new (p - lost) (tag.take 10 ++ leBytes 2 ec ++ tag.drop 12) main else a
  | .move b n r => .move b (if n = old then new else n) r
  | a => a

/-- A block that failed is bad. Where it was in use, a new one takes its place, erased first, and gets the pages that waited
for it (R481); the `lost` pages before them are lost to the log. `time`: TIME of the first page that the new block gets. -/
def State.blkReplace (s : State) (b why lost : Nat) (time : Option Nat) : State :=
  let was := s.carBlk b
  let s := s.blkBad b why
  match was with
  | none => s
  | some w =>
    if w.kind = .bad then s
    else
      let q := s.newBlk none w.kind
      match q.2 with
      | none =>
        let s := q.1.onCar (fun x => { x with ops := x.ops.filter (fun o => o.act.site.1 != b) })
        match w.kind with
        | .dump k => s.onCar (fun x => { x with dump := vset x.dump (Fin.ofNat 4 k) (fun d => { d with state := 3 }) })
        | _ => s
      | some n =>
        let s := q.1
        let ec := s.ec n
        let s := s.onCar (fun x => { x with ops := x.ops.filter (fun o => o.act == .erase n)
          ++ (x.ops.filter (fun o => o.act != .erase n)).map (fun o => { o with act := o.act.redirect b n lost ec }) })
        (s.modBlk n (fun x => { x with
          seqs := w.seqs.drop lost, isOpen := w.isOpen, pins := w.pins, seq := (w.seqs.drop lost).headD x.seq, time := time.getD w.time })).metaWrite

/-- A block's content is to move into a new one (R480): 1 bit errors, 2 read disturb, 3 scrub, 4 static levelling; plus 16
where the block is then retired. -/
def State.refresh (s : State) (b reason : Nat) (to' : Option Nat) : State :=
  if !s.carReady || s.car.ops.any (fun o => match o.act with | .move c _ _ => c == b | _ => false) then s
  else
    match s.carBlk b with
    | none => s
    | some x =>
      let q : State × Option Nat := match to' with
        | some n =>
          ((s.onCar (fun y => { y with blks := y.blks ++ [{ x with b := n, seq := y.seq + 1 }] })).nandErase n, some n)
        | none => s.newBlk none x.kind
      match q.2 with
      | none => q.1
      | some n =>
        if n = b then s else (q.1.modBlk n (fun y => { y with isOpen := false, seqs := [], pins := 0 })).nandPush (.move b n reason)

/-- A move is complete: the new block takes the old one's place, its pages with new sequences (R480). -/
def State.moved (s : State) (old new reason : Nat) : State :=
  match s.carBlk old with
  | none => s
  | some x =>
    let s := s.onCar (fun c => { c with
      seq := c.seq + x.pages, refr := satInc 16 c.refr
      blks := (c.blks.filter (fun y => y.b != old && y.b != new)) ++ [{ x with
        b := new, seqs := (List.range x.pages).map (c.seq + 1 + ·), reads := 0, scrubAt := s.tb, isOpen := false }] })
    let s := s.carRec s.tb 0x1206 (reason % 16) (s.blkAddr old) (s.blkAddr new)
    if 16 ≤ reason then s.blkBad old 3 else s.metaWrite

/-- The first operation of a kind. -/
def State.firstOp (s : State) (p : NandAct → Bool) : Option NandOp := s.car.ops.find? (fun o => p o.act)

/-- An operation is done: it leaves, and its target's timeouts in a row end. -/
def State.opDone (s : State) (o : NandOp) (b : Nat) : State :=
  s.onCar (fun x => { x with ops := x.ops.erase o, tmo := x.tmo.set! (s.targetOf b) 0 })

/-- Page bytes count in the rate of the last 10 s. -/
def State.rateAdd (s : State) (n : Nat) : State :=
  s.onCar (fun x => { x with rate := x.rate.filter (fun q => decide (s.tb < q.1 + 10000000000)) ++ [(s.tb, n)] })

/-- `NAND_PROGRAM_DONE`: a program, or the move of a block, ends; a failing one is repeated in another block (R481). -/
def execNandProgramDone (dt : Nat) (ok : Bool) (s : State) : Host.Outcome State Fault Refusal :=
  let s := s.advance dt
  match s.running, s.firstOp (fun a => match a with | .program .. | .move .. => true | _ => false) with
  | true, some o =>
    match o.act with
    | .program b p tag _ =>
      if ok then done ((s.opDone o b).rateAdd s.carPage) else done (s.blkReplace b 1 p (some (leAt tag 12 8)))
    | .move old new reason =>
      if ok then done (((s.opDone o new).rateAdd s.carPage).moved old new reason) else done (s.blkReplace new 1 0 none)
    | _ => done s
  | _, _ => done s

/-- `NAND_ERASE_DONE`. -/
def execNandEraseDone (dt : Nat) (ok : Bool) (s : State) : Host.Outcome State Fault Refusal :=
  let s := s.advance dt
  match s.running, s.firstOp (fun a => match a with | .erase _ => true | _ => false) with
  | true, some o =>
    match o.act with
    | .erase b => if ok then done (s.opDone o b) else done ((s.opDone o b).blkReplace b 2 0 none)
    | _ => done s
  | _, _ => done s

/-! ## Reading back (R480, R489, R490) -/

def State.modRpl (s : State) (f : Replay → Replay) : State := s.onCar (fun x => { x with rpl := f x.rpl })

/-- A replay ends: 2 done, 3 stopped, with its record. -/
def State.rplEnd (s : State) (how : Nat) : State :=
  let r := s.car.rpl
  (s.modRpl (fun x => { x with state := how, pages := [], out := [], part := Vector.replicate 4 none })).onCar
      (fun x => { x with ops := x.ops.filter (fun o => match o.act with | .read _ _ .replay => false | _ => true) })
    |>.carRec s.tb 0x120C (how + 256 * r.area) r.records r.skip

/-- Records that wait are written while the buffer has room for the whole of each; of the unframed bytes of a dump, as many as
there is room for (R490). -/
def State.rplWrite (s : State) : Nat → State
  | 0 => s
  | n + 1 =>
    let r := s.car.rpl
    match r.out with
    | [] => s
    | b :: t =>
      let room := r.len - ptrSub r.wr s.regs.CAR_RPL_RD.toNat
      let n' := if r.area = 2 then min room b.length else b.length
      if room < n' ∨ (n' = 0 ∧ !b.isEmpty) then s
      else
        let now := b.take n'
        let o := r.wr % r.len
        let k := r.len - o
        let base := windowBase r.ch + r.base
        let s := (s.sramWrite (base + o) (now.take k)).sramWrite base (now.drop k)
        (s.modRpl (fun x => { x with
          out := (if n' < b.length then [b.drop n'] else []) ++ t
          wr := ptrAdd r.wr n', records := if r.area = 2 then x.records else x.records + 1 })).rplWrite n

/-- Pages of a replay that cannot be read are passed over and counted (R490). The dump bytes they hold are not given. -/
def State.rplPass (s : State) (n : Nat) : State :=
  if n = 0 then s
  else s.modRpl (fun x => { x with skip := min 0xFFFF (x.skip + n), left := x.left - n * s.carPage, part := Vector.replicate 4 none })

/-- The next page of a replay is read, once nothing waits; those of a lost target are passed over. After the last page, and
after the last byte of a dump, the replay is done. -/
def State.rplNext (s : State) : State :=
  let r := s.car.rpl
  let gone (q : Nat × Nat) : Bool := !s.online (s.targetOf q.1)
  let n := (r.pages.takeWhile gone).length
  if r.state ≠ 1 ∨ !r.out.isEmpty then s
  else
    let s := s.rplPass (if r.area = 2 then min n ((r.left + s.carPage - 1) / s.carPage) else n)
    match r.pages.dropWhile gone with
    | [] => s.rplEnd 2
    | q :: t =>
      if r.area = 2 ∧ s.car.rpl.left = 0 then s.rplEnd 2
      else (s.modRpl (fun x => { x with pages := t })).nandPush (.read q.1 q.2 .replay)

/-- A replay goes on. -/
def State.rplRun (s : State) : State := (s.rplWrite (s.car.rpl.out.length)).rplNext

/-- The whole records at the start of a list of bytes, and the rest. -/
def splitRecords : Nat → List Byte → List (List Byte) × List Byte
  | 0, b => ([], b)
  | n + 1, b =>
    if b.length < 16 then ([], b)
    else
      let len := 16 + (leAt b 14 2 + 7) / 8 * 8
      if b.length < len then ([], b)
      else let q := splitRecords n (b.drop len); (b.take len :: q.1, q.2)

/-- A page of a replay has been read. The record that runs on from the page before of its stream is whole where its pieces fit
together. -/
def State.rplPage (s : State) (q : ReadResult) : State :=
  let r := s.car.rpl
  if r.state ≠ 1 then s
  else if q.uncorrectable.isSome then
    (s.rplPass 1).rplRun
  else if r.area = 2 then
    let b := q.data.take r.left
    (s.modRpl (fun x => { x with out := x.out ++ (if b.isEmpty then [] else [b]), left := x.left - b.length })).rplRun
  else
    let k : Fin 4 := Fin.ofNat 4 q.id
    let on := match r.part[k] with
      | some p => p ++ q.data.take q.first
      | none => []
    let w := splitRecords q.data.length (q.data.drop q.first)
    let whole := splitRecords on.length on
    let recs := (if whole.1.length = 1 ∧ whole.2 = [] then whole.1 else []) ++ w.1
    let keep := recs.filter (fun b => r.area != 0 || decide (r.from' ≤ leAt b 0 8))
    let rest := if q.data.length ≤ q.first then (if whole.1 = [] then r.part[k].map (fun _ => on) else some []) else some w.2
    (s.modRpl (fun x => { x with out := x.out ++ keep, part := x.part.set k rest })).rplRun

/-- A page read counts toward read disturb; corrected bits, and a chunk that cannot be corrected, act on its block (R480). -/
def State.readCheck (s : State) (b page : Nat) (why : ReadFor) (q : ReadResult) : State :=
  let s := s.modBlk b (fun x => { x with reads := x.reads + 1, scrubAt := if why = .scrub then s.tb else x.scrubAt })
  let reads := match s.carBlk b with | some x => x.reads | none => 0
  match q.uncorrectable with
  | some chunk =>
    let seq := match s.carBlk b with | some x => x.seqs.getD page 0 | none => 0
    let s := (s.onCar (fun x => { x with unc := satInc 16 x.unc })).carRec s.tb 0x1205 chunk (s.blkAddr b) seq
    let s := s.onCar (fun x => { x with ops := x.ops.map (fun o => match o.act with
      | .move c n r => if c = b then { o with act := .move c n (r % 16 + 16) } else o
      | _ => o) })
    s.refresh b (1 + 16) none
  | none =>
    if s.regs.CAR_ECC_THR_REFRESH ≤ q.corrected then s.refresh b (if why = .scrub then 3 else 1) none
    else if s.regs.CAR_RD_LIMIT.toNat ≤ reads then s.refresh b 2 none
    else s

/-- `NAND_READ_DONE`. -/
def execNandReadDone (dt : Nat) (result : ReadResult) (s : State) : Host.Outcome State Fault Refusal :=
  let s := s.advance dt
  match s.running, s.firstOp (fun a => match a with | .read .. => true | _ => false) with
  | true, some o =>
    match o.act with
    | .read b p why =>
      let s := (s.opDone o b).readCheck b p why result
      done (if why = .replay then s.rplPage result else s)
    | _ => done s
  | _, _ => done s

/-- The block whose scrub is due first. -/
def State.scrubBlk (s : State) : Option Blk :=
  (s.car.blks.filter (fun x => x.kind != .bad && decide (0 < x.pages))).foldl
    (fun (m : Option Blk) x => match m with | some y => if x.scrubAt < y.scrubAt then some x else some y | none => some x) none

/-- `SCRUB`: the block read longest ago is read in full (R480). -/
def execScrub (dt : Nat) (s : State) : Host.Outcome State Fault Refusal :=
  let s := s.advance dt
  match s.scrubBlk with
  | some x =>
    if s.carReady then
      done (((List.range x.pages).foldl (fun (s : State) p => s.nandPush (.read x.b p .scrub)) s).modBlk x.b
        (fun y => { y with scrubAt := s.tb }))
    else done s
  | none => done s

/-- `STATIC_WEAR_LEVEL` (R482). -/
def execStaticWearLevel (dt : Nat) (s : State) : Host.Outcome State Fault Refusal :=
  let s := s.advance dt
  if s.carReady && decide (s.car.wearAt + 10000000000 ≤ s.tb) then
    let s := s.onCar (fun x => { x with wearAt := s.tb })
    let hot := s.freeBlks.foldl (fun (m : Option Nat) b => match m with | some k => if s.ec k < s.ec b then some b else some k | none => some b) none
    let still (x : Blk) : Bool :=
      match x.kind with
      | .ring => x.pins != 0
      | .metaLog => !x.isOpen
      | .dump k => let d := s.car.dump.getD k {}; d.state == 2 || d.state == 0
      | .bad => false
    let cold := (s.car.blks.filter still).foldl
      (fun (m : Option Blk) x => match m with | some y => if s.ec x.b < s.ec y.b then some x else some y | none => some x) none
    match hot, cold with
    | some h, some x =>
      if s.regs.CAR_WEAR_WL_DELTA + s.ec x.b < s.ec h then done (s.refresh x.b 4 (some h)) else done s
    | _, _ => done s
  else done s

/-- `MAINTENANCE_WAIT_EXPIRY`: a maintenance operation that has waited 10 s comes before the stream pages of its target (R476). -/
def execMaintenanceWaitExpiry (dt : Nat) (target : Fin 4) (s : State) : Host.Outcome State Fault Refusal :=
  let s := s.advance dt
  let mine (o : NandOp) : Bool :=
    decide (o.since + 10000000000 ≤ s.tb) &&
      (match o.act with
        | .read b _ .scrub | .move b _ _ => s.targetOf b == target.val
        | _ => false)
  match s.running, s.car.ops.find? mine with
  | true, some o => done (s.onCar (fun x => { x with ops := { o with since := s.tb } :: x.ops.erase o }))
  | _, _ => done s

/-! ## Faults of the partner (R488) -/

/-- A target is offline until the next release: its blocks are unreadable, what waited for it is dropped, the stage is evaluated (R488). -/
def State.targetLost (s : State) (target : Fin 4) (cause op : Nat) : State :=
  let reads := s.car.ops.any (fun p => s.targetOf p.act.site.1 == target.val && (match p.act with | .read _ _ .replay => true | _ => false))
  let s := s.onCar (fun x => { x with
    tgtOn := x.tgtOn &&& ~~~ (BitVec.ofNat 4 (2 ^ target.val))
    ops := x.ops.filter (fun p => s.targetOf p.act.site.1 != target.val) })
  let s := (s.carRec s.tb 0x1203 (target.val + 256 * cause) op 0).stageEval
  if reads then (s.rplPass 1).rplRun else s

/-- `NAND_BUSY_TIMEOUT`: the target is reset and the operation repeated; three in a row take it offline, and so does a RESET that times out
(`after` 1) or after which READ ID differs (`after` 2). -/
def execNandBusyTimeout (dt : Nat) (target : Fin 4) (s : State) (after : Fin 3 := 0) : Host.Outcome State Fault Refusal :=
  let s := s.advance dt
  match s.running && s.online target.val, s.car.ops.find? (fun o => s.targetOf o.act.site.1 == target.val) with
  | true, some o =>
    let n := s.car.tmo[target] + 1
    let s := s.onCar (fun x => { x with tmo := x.tmo.set target n })
    if n < 3 then
      let s := (s.onCar (fun x => { x with ops := x.ops.map (fun p => if p = o then { p with again := true } else p) })).carRec s.tb 0x1203
        target.val o.act.site.2 0
      done (match after with
        | 0 => s
        | 1 => s.targetLost target 1 0xFF
        | _ => s.targetLost target 2 0x90)
    else done (s.targetLost target 1 o.act.site.2)
  | _, _ => done s

/-! ## Mount and format (R483 to R485) -/

/-- HOLD entry: the mount begins where the recorder is on, and NF_WP_N goes high (R483, R486). -/
def State.carStart (s : State) : State :=
  s.onCar (fun _ => if s.regs.CAR_CFG_EN then { st := 1, mountAt := s.tb, wp := true } else {})

/-- The header of the recorder wear region (Table 10). -/
def State.wearHeader (s : State) (gen : Nat) : List Byte :=
  leBytes 4 gen ++ leBytes 4 (s.regs.get Reg.CAR_GEOM).toNat ++ leBytes 8 ownId ++ zeros 112

/-- The blocks of the free dump slots are set aside, erased (R473, R479). -/
def State.allocDump (s : State) : State :=
  (List.range 4).foldl (fun (s : State) k =>
    let d := s.car.dump.getD k {}
    let have' := (s.car.blks.filter (fun x => x.kind == .dump k)).length
    if d.state = 0 then
      (List.range (s.regs.CAR_AREA_DUMP_BLK - have')).foldl (fun (s : State) _ =>
        let q := s.newBlk none (.dump k)
        match q.2 with
        | some b => q.1.modBlk b (fun x => { x with isOpen := false })
        | none => q.1.onCar (fun x => { x with dump := vset x.dump (Fin.ofNat 4 k) (fun d => { d with state := 3 }) })) s
    else s) s

/-- Every good block is erased, and a new META entry with the next generation is written (R485). -/
def State.carFormat (s : State) : State :=
  let gen := s.car.gen + 1
  let s := s.onCar (fun x => { x with
    st := 2, stage := 0, mountErr := 0, foreign := false, gen := gen, ops := []
    blks := x.blks.filter (fun y => y.kind == .bad), evt := Vector.replicate 16 {}, dump := Vector.replicate 4 {} })
  let s := (s.freeBlks).foldl (fun (s : State) b => s.nandErase b) s
  let s := s.ksPair 0xA000 128 (s.wearHeader gen)
  let s := (s.allocDump.metaWrite).onCar (fun x => { x with wearAt := s.tb })
  (s.carRec s.tb 0x1202 gen s.badCount 0).stageEval

/-- A mount ends with a code: 0 ready, else its failure (R483, R492). -/
def State.mountRec (s : State) (code : Nat) : State :=
  s.carRec s.tb 0x1201 code s.goodCount (s.tb - s.car.mountAt)

/-- A FREEZE record (R511). -/
def State.freezeRec (s : State) (time code cause source b5 slot origin t late bytes : Nat) : State :=
  let d := leBytes 2 code ++ leBytes 2 cause ++ leBytes 1 source ++ leBytes 1 b5 ++ leBytes 1 slot ++ leBytes 1 origin ++ leBytes 8 t
    ++ leBytes 4 late ++ leBytes 4 bytes ++ zeros 8
  s.emit time Unit.frz 11 0 d

/-- The dump of a freeze is longer than what a slot is short of. -/
abbrev dumpLen : Nat := 4718592

/-- Blocks, directories and counts as the mount restores them (R483, R506). -/
def State.mountRestore (s : State) (f : MountReport) (m : MountMeta) : State :=
  let ppb := s.carPpb
  let kindOf (x : MountBlock) : BlkKind := if x.area = 1 then .ring else if x.area = 2 then .dump (x.id % 4) else .metaLog
  let fresh := s.ksEntry 0xA000 128 128 == some (s.wearHeader m.gen)
  let kept (b : Nat) : Option Nat := if fresh then s.ecOf b else none
  let top := (List.range s.carTotal).foldl (fun a b => max a ((kept b).getD 0)) (f.blocks.foldl (fun a x => max a x.ec) 0)
  let s := (List.range s.carTotal).foldl (fun (t : State) b =>
    match kept b with
    | some _ => t
    | none => t.ecSet b (match f.blocks.find? (fun x => x.b == b) with | some x => x.ec | none => top)) s
  let s := s.onCar (fun x => { x with
    gen := m.gen, seq := f.lastSeq
    blks := f.blocks.map (fun q => { b := q.b, kind := kindOf q, isOpen := false, seqs := q.seqs.take ppb, seq := q.seqs.headD 0, time := q.time
                                     scrubAt := s.tb, pins := q.pins })
      ++ f.bad.map (fun b => { b := b, kind := .bad, isOpen := false, seqs := [], seq := 0, time := 0 })
    evt := Vector.ofFn (fun k : Fin 16 => match m.event[k.val]? with
      | some (st, n, a, b) => { state := if st = 0 then 0 else 2, trigs := n, first := a, last := b }
      | none => {})
    dump := Vector.ofFn (fun k : Fin 4 => match m.dump[k.val]? with
      | some (st, n, t) => { state := if st = 1 then 0 else st, len := n, time := t }
      | none => {}) })
  match f.dump with
  | some d => s.onCar (fun x => { x with dump := vset x.dump d.slot (fun _ => { state := 2, len := d.bytes, time := d.time }) })
  | none => s

/-- `MOUNT`: what the mount found decides (R483). -/
def State.mountDone (s : State) (f : MountReport) : State :=
  if !s.running || s.car.st != 1 then s
  else
    let n := s.regs.CAR_CFG_TARGETS + 1
    let s := s.onCar (fun x => { x with tgtOn := f.targetsOk &&& BitVec.ofNat 4 (2 ^ n - 1) })
    let s := (List.range n).foldl (fun (s : State) t => if s.online t then s else s.carRec s.tb 0x1203 (t + 0x200) 0x90 0) s
    let fail (s : State) (code : Nat) : State := (s.onCar (fun x => { x with st := 4, mountErr := code })).mountRec code
    if s.car.tgtOn = 0 then fail s 1
    else if !f.geometryOk then fail s 3
    else
      match f.entry with
      | none =>
        let s := s.onCar (fun x => { x with
          blks := f.bad.map (fun b => { b := b, kind := .bad, isOpen := false, seqs := [], seq := 0, time := 0 }) })
        if !f.anyTag && s.regs.CAR_CFG_FORMAT_EN then s.carFormat.mountRec 0 else fail s 4
      | some m =>
        let s := s.mountRestore f m
        let shut := (f.blocks.filter (fun x => decide (x.seqs.length < s.carPpb) || x.seqs.any (fun q => decide (m.checkpoint < q)))).length
        let loss (s : State) : State := if f.torn = 0 then s else s.carRec s.tb 0x120B f.torn shut f.lastSeq
        if !m.own then loss (((s.onCar (fun x => { x with st := 3, foreign := true })).stageEval).mountRec 0)
        else
          let s := s.onCar (fun x => { x with st := 2, wearAt := s.tb })
          let s := s.ksPair 0xA000 128 (s.wearHeader m.gen)
          let s := (s.allocDump.metaWrite).stageEval
          let s := loss (s.mountRec 0)
          match f.dump with
          | some d =>
            s.freezeRec d.time 0x1301 d.cause d.source (if d.failed then 2 else if d.bytes < dumpLen then 1 else 0) d.slot.val d.origin
              d.time d.late d.bytes
          | none => s

def execMount (dt : Nat) (found : MountReport) (s : State) : Host.Outcome State Fault Refusal :=
  done ((s.advance dt).mountDone found)

/-! ## Commands (R478, R479, R485, R489, R490) -/

/-- Is a replay of a slot running? -/
def State.rplHolds (s : State) (area k : Nat) : Bool := s.car.rpl.state == 1 && s.car.rpl.area == area && s.car.rpl.slot == k

/-- The block whose first TIME is the latest at or before an instant; a first page in which no record starts has no TIME. -/
def startBlk (from' : Nat) (l : List Blk) : Option Blk :=
  (l.filter (fun x => decide (0 < x.time ∧ x.time ≤ from'))).foldl
    (fun (m : Option Blk) x => match m with | some y => if y.time < x.time then some x else some y | none => some x) none

/-- Puts a page (its sequence, its block, its number) into a list of pages in page-sequence order. -/
def pageInsert (x : Nat × Nat × Nat) : List (Nat × Nat × Nat) → List (Nat × Nat × Nat)
  | [] => [x]
  | y :: l => if x.1 < y.1 then x :: y :: l else y :: pageInsert x l

/-- The pages of the source of a replay in page-sequence order (R489): of the trend log, those of the block where the replay
starts, of the blocks behind it, and all that were programmed after it began. -/
def State.rplPages (s : State) (area k from' : Nat) : List (Nat × Nat) :=
  let all := s.car.blks.filter (fun x => match area with
    | 0 => x.kind == .ring
    | 1 => x.pins.getLsbD k
    | _ => x.kind == .dump k)
  let start : Nat := if area = 0 then (match startBlk from' all with | some x => x.seq | none => 0) else 0
  let pages := (all.map (fun x =>
    ((x.seqs.zip (List.range x.pages)).filter (fun q => decide (start ≤ x.seq ∨ start ≤ q.1))).map (fun q => (q.1, x.b, q.2)))).flatten
  (pages.foldl (fun l x => pageInsert x l) []).map (·.2)

/-- A REPLAY command. -/
def State.rplStart (s : State) (c : Ctx) : Res :=
  let r := s.regs
  let ch := r.CAR_RPL_SRC_CH
  let k : Fin 32 := Fin.ofNat 32 ch
  let area := r.CAR_RPL_SRC_AREA
  let slot := r.CAR_RPL_SRC_SLOT
  let base := 8 * r.CAR_RPL_BUF
  let held : Bool := match area with
    | 0 => true
    | 1 => (s.car.evt.getD slot {}).state != 0
    | _ => slot < 4 && (s.car.dump.getD slot {}).state == 2
  if !s.ownsCh c.o ch then rightsNak c s
  else if 3 ≤ area ∨ 0x8000 < base + r.CAR_RPL_LEN then nak s St.range
  else if !((s.car.st == 2 || s.car.st == 3) && s.car.rpl.state != 1 && held
      && (s.sip.chs[k].state == .idle || s.sip.chs[k].state == .stopped)) then nak s St.state
  else
    let from' := r.CAR_RPL_FROM_LO.toNat + 2 ^ 32 * r.CAR_RPL_FROM_HI.toNat
    let s := s.onRegs (fun g => g.set Reg.CAR_RPL_RD 0)
    let s := s.modRpl (fun _ => {
      state := 1, area := area, slot := slot, ch := ch, base := base, len := r.CAR_RPL_LEN, from' := from'
      pages := s.rplPages area slot from', left := if area = 2 then (s.car.dump.getD slot {}).len else 0 })
    let s := s.carRec s.tb 0x120C (1 + 256 * area) 0 0
    ack s.rplNext

/-- Release of a capture slot (R478). -/
def State.evtRelease (s : State) (k : Nat) : Res :=
  let e := s.car.evt.getD k {}
  if e.state ≠ 2 ∨ s.rplHolds 1 k then nak s St.state
  else
    let n := (s.pinned k).length
    let s := s.onCar (fun x => { x with
      blks := x.blks.map (fun y => { y with pins := y.pins &&& ~~~ (BitVec.ofNat 16 (2 ^ k)) }) })
    let s := s.modEvt (Fin.ofNat 16 k) (fun _ => {})
    ack ((s.carRec s.tb 0x1209 (1 + 256 * k) n 0).metaWrite)

/-- Release of a dump slot (R479). -/
def State.dumpRelease (s : State) (k : Nat) : Res :=
  let d := s.car.dump.getD k {}
  if 4 ≤ k ∨ d.state ≠ 2 ∨ s.rplHolds 2 k ∨ s.car.st ≠ 2 then nak s St.state
  else
    let bs := (s.car.blks.filter (fun x => x.kind == .dump k)).map (·.b)
    let s := bs.foldl (fun (s : State) b => (s.nandErase b).modBlk b (fun x => { x with seqs := [] })) s
    let s := s.onCar (fun x => { x with dump := vset x.dump (Fin.ofNat 4 k) (fun _ => {}) })
    ack ((s.carRec s.tb 0x1209 (2 + 256 * k) bs.length 0).metaWrite)

/-- Completion of the pair of `CAR_CMD`. -/
def doCarCmd (maint : Bool) (c : Ctx) (s : State) (w : Word) : Res :=
  let cmd := fld w 0 4
  let k := fld w 8 4
  match cmd with
  | 4 => if s.regs.CAR_CFG_EN then s.rplStart c else nak s St.state
  | 5 =>
    if !s.ownsCh c.o s.car.rpl.ch then rightsNak c s
    else if s.car.rpl.state = 1 then ack (s.rplEnd 3) else nak s St.state
  | 6 =>
    if c.o.cls ≠ .M then rightsNak c s
    else if s.mode.mode = .hold ∧ maint ∧ ((s.car.st = 4 ∧ s.car.mountErr = 4) ∨ (s.car.st = 3 ∧ s.car.foreign)) then ack s.carFormat
    else nak s St.state
  | 0 | 7 | 8 | 9 | 10 | 11 | 12 | 13 | 14 | 15 => needRights true c s (fun s => nak s St.range)
  | _ => needRights true c s fun s =>
    if !s.regs.CAR_CFG_EN then nak s St.state
    else if cmd = 1 then
      (if s.car.st = 2 ∨ s.car.st = 3 then ack (s.capture s.tb 0) else nak s St.state)
    else if cmd = 2 then s.evtRelease k
    else s.dumpRelease k

/-- A recorder command by its code and argument. -/
def State.carCmd (s : State) (o : Origin) (maint : Bool) (cmd arg : Nat) : State :=
  s.entry o 2 (some Reg.CAR_CMD) (fun c s => doCarCmd maint c s (w32 (cmd + 256 * arg))) (ws := [w32 (cmd + 256 * arg)]) (maint := maint)

/-- `CAPTURE_COMMAND`. -/
def execCaptureCommand (dt : Nat) (o : Origin) (s : State) : Host.Outcome State Fault Refusal := done ((s.advance dt).carCmd o false 1 0)

/-- `EVENT_SLOT_RELEASE`. -/
def execEventSlotRelease (dt : Nat) (o : Origin) (k : Fin 16) (s : State) : Host.Outcome State Fault Refusal :=
  done ((s.advance dt).carCmd o false 2 k.val)

/-- `DUMP_SLOT_RELEASE`. -/
def execDumpSlotRelease (dt : Nat) (o : Origin) (k : Fin 16) (s : State) : Host.Outcome State Fault Refusal :=
  done ((s.advance dt).carCmd o false 3 k.val)

/-- `REPLAY`. -/
def execReplay (dt : Nat) (o : Origin) (s : State) : Host.Outcome State Fault Refusal := done ((s.advance dt).carCmd o false 4 0)

/-- `REPLAY_STOP`. -/
def execReplayStop (dt : Nat) (o : Origin) (s : State) : Host.Outcome State Fault Refusal := done ((s.advance dt).carCmd o false 5 0)

/-- `FORMAT`. -/
def execFormat (dt : Nat) (o : Origin) (maint : Bool) (s : State) : Host.Outcome State Fault Refusal :=
  done ((s.advance dt).carCmd o maint 6 0)

/-- A write of `CAR_RPL_RD`: the owner reads on; a value behind RD or beyond WR is out of range (R490). With the
recorder off it is refused (R516). -/
def doRplRd (c : Ctx) (s : State) (w : Word) : Res :=
  let r := s.car.rpl
  let rd := s.regs.CAR_RPL_RD.toNat
  if !s.ownsCh c.o (if r.state = 0 then s.regs.CAR_RPL_SRC_CH else r.ch) then rightsNak c s
  else if !s.regs.CAR_CFG_EN then nak s St.state
  else if ptrSub r.wr rd < ptrSub w.toNat rd then nak s St.range
  else ack ((s.onRegs (fun g => g.set Reg.CAR_RPL_RD w)).rplRun)

/-- `REPLAY_RD_WRITE`. -/
def execReplayRdWrite (dt : Nat) (o : Origin) (value : Word) (s : State) : Host.Outcome State Fault Refusal :=
  done ((s.advance dt).entry o 2 (some Reg.CAR_RPL_RD) (fun c s => doRplRd c s value) (ws := [value]))

/-- The dump target of R503: the lowest free dump slot, while the recorder is ready. -/
def State.dumpTarget (s : State) : Option (Fin 4) :=
  if s.car.st = 2 ∧ s.car.wp then (List.finRange 4).find? (fun k => s.car.dump[k].state == 0) else none

end Sys2Proof.Machine
end

