-- ==== Sys2Proof/Machine/Share.lean ====
section
/-! DEFINITION. Load sharing (chapter 11): reports, election, the group command, the division of the torque, the SHARE and what a
member makes of it. -/
namespace Sys2Proof.Machine

/-- Change one group. -/
def State.modShr (s : State) (g : Fin 16) (f : ShareGroup → ShareGroup) : State := s.onShr (fun v => vset v g f)

/-! ## Members (R275, R276, R295, R558) -/

/-- A local axis names the group. -/
def State.usesGroup (s : State) (g : Fin 16) : Bool := (List.finRange 6).any (fun n => s.regs.inGroup g n)

/-- The other devices of a group. -/
def State.shareDevs (s : State) (g : Fin 16) : List Nat :=
  (((s.regs.shareSlots g).map (fun k => s.regs.FAB_SHRg_MEMs_DEV g k)).filter (fun d => s.shareAddr != some d)).eraseDups

/-- The signature of a group (R276). -/
def State.shareSig (s : State) (g : Fin 16) : Word :=
  let r := s.regs
  crc32 (wordsBytes ([r.get (Reg.FAB_SHRg_CFG g), r.get (Reg.FAB_SHRg_JOIN_T g), r.get (Reg.FAB_SHRg_DESYNC_T g)]
    ++ (List.range 32).map (fun k => r.get (Reg.FAB_SHRg_MEMs g k)) ++ [w32 s.period]))

/-- The address tests of a group against an address (R295, R558): codes with the first failing slot. -/
def Regs.shareAddrBad (r : Regs) (addr : Nat) (g : Nat) : Option (Nat × Nat) :=
  let own := (r.shareSlots g).filter (fun k => r.FAB_SHRg_MEMs_DEV g k == addr)
  let axisOf (k : Nat) : Nat := r.FAB_SHRg_MEMs_AXIS g k
  match own.find? (fun k => !(axisOf k < 6 && r.GD_AXn_MAP_EN (axisOf k))) with
  | some k => some (0x020F, k)
  | none =>
    match own.find? (fun k => r.AXn_SHR_CFG (axisOf k) != g) with
    | some k => some (0x3601, k)
    | none =>
      if (List.finRange 6).any (fun n => r.inGroup g n && !own.any (fun k => axisOf k == n.val)) then some (0x3601, 0)
      else none

/-- The address tests when the address is received (R558). -/
def State.shareAddrTest (s : State) (addr : Nat) : State :=
  (List.finRange 16).foldl (fun (s : State) (g : Fin 16) =>
    match s.regs.shareAddrBad addr g.val with
    | some (code, k) =>
      (s.modShr g (fun x => { x with cfgBad := true })).event s.tb Unit.dev 0x0B0A code (k + 256 * g.val)
    | none => s) s

/-! ## What passes each tick -/

/-- Is this device synchronised, as members need it (R280)? A device without links and the root are. -/
def State.shareSync (s : State) : Bool := s.regs.FAB_CFG_LINK_EN == 0 || s.regs.FAB_CFG_ROOT || s.tbs.synced

/-- The desync grace runs (R292). -/
def State.shareGrace (s : State) (g : Fin 16) : Bool := s.tbs.loaded && s.tbs.syncLost && !s.shr[g].graceOver

/-- The limits of a member of its own, without the render of the group. -/
def State.memberLimits (s : State) (n : Fin 6) : Rat × Rat := (s.modCmd n (fun c => { c with render := false })).tqLimits n

/-- A state in which a member may be live: READY, CATCH, RUN, or STOP under the group command (R280). -/
def AxSt.mayLive (x : AxSt) : Bool :=
  match x.state with
  | .ready | .catching | .run => true
  | .stop => x.stopKind == .command
  | .off | .asc | .halt => false

/-- What this device reports of one of its members (Table 1). -/
def State.ownEntry (s : State) (g : Fin 16) (k : Nat) (n : Fin 6) : ShareEntry :=
  let x := s.ax[n]
  let c := s.cmd.ax[n]
  let r := s.regs
  let live := s.driving && x.mayLive && (s.shareSync || s.shareGrace g) && !s.shr[g].cfgBad
  let i := hyp x.eng.iD x.eng.iQ
  let i32 := hyp (r.AXn_MTPA_ID_k n 32) (r.AXn_MTPA_IQ_k n 32)
  let l := s.memberLimits n
  { slot := k, state := x.state.code, live := live
    cand := live && s.shareSync && r.FAB_SHRg_MEMs_PRIO g k != 0
    prio := r.FAB_SHRg_MEMs_PRIO g k, speed := x.eng.speed, torque := x.refT, pos := l.1, neg := l.2
    perAmp := if s.iLimit n / 20 < i then absR c.tStar / i else r.AXn_MTPA_TMAX n / i32
    ratio := r.AXn_SHR_RATIO n }

/-- The members of a group at the start of a tick's work (R277, R280, R290): one whose report was a miss is not live, and is lost at the
MISS-th in a row. -/
def State.members (s : State) (g : Fin 16) : List Mem :=
  let r := s.regs
  let local' := s.localMembers g
  (r.shareSlots g).filterMap (fun k =>
    let dev := r.FAB_SHRg_MEMs_DEV g k
    let axis := r.FAB_SHRg_MEMs_AXIS g k
    match local'.find? (fun m => m.1 == k) with
    | some m =>
      let e := s.ownEntry g k m.2
      some ⟨e, dev, axis, if e.live then 0 else if s.shareSync || s.shareGrace g then 2 else 4, !e.live⟩
    | none =>
      match s.shr[g].reports.find? (fun q => q.dev == dev) with
      | none => none
      | some q =>
        match q.entries.find? (fun e => e.slot == k) with
        | none => none
        | some e =>
          let why := if q.sigBad then 3 else if q.misses ≠ 0 then 1
            else if !q.synced && !q.grace then 4 else if !e.live then 2 else 0
          let gone := why != 0 && (why != 1 || decide (r.FAB_SHRg_CFG_MISS g ≤ q.misses))
          some ⟨{ e with live := why == 0, cand := e.cand && why == 0 && q.synced }, dev, axis, why, gone⟩)

/-- A group command before another: the higher source class, then the later stamp, then the lower device address (R281). -/
def cmdBefore (a b : GroupCmd) : Bool :=
  decide (a.cls < b.cls) || (a.cls == b.cls && (decide (b.stamp < a.stamp) || (a.stamp == b.stamp && decide (a.dev < b.dev))))

/-- The best of a list of commands. -/
def bestCmd (l : List GroupCmd) : Option GroupCmd :=
  l.foldl (fun m c => match m with | some b => if cmdBefore c b then some c else some b | none => some c) none

/-- The later of two heave references with their marks of R5 (R253, R281). -/
def heaveLater (o : Option ((Nat × Rat × Rat) × Bool)) (q : (Nat × Rat × Rat) × Bool) : Option ((Nat × Rat × Rat) × Bool) :=
  match o with
  | some p => if q.1.1 ≤ p.1.1 then some p else some q
  | none => some q

/-- The command of this device for a group. -/
def State.ownCmd (s : State) (g : Fin 16) : Option GroupCmd :=
  bestCmd ((s.localMembers g).filterMap (fun m =>
    let c := s.cmd.ax[m.2]
    if c.ownSrc = 0 then none
    else some { cls := c.ownSrc, stamp := c.ownStamp, dev := s.shareAddr.getD 0, mode := c.ownMode, heave := c.ownHeave
                set := c.ownSet, ref := c.hcRead }))

/-- Padding of a data half to a multiple of 8. -/
def pad8 (b : List Byte) : List Byte := b ++ zeros ((8 - b.length % 8) % 8)

/-- A paired payload: the data half and its complement. -/
def paired (b : List Byte) : List Byte := pad8 b ++ complBytes (pad8 b)

/-- The data half of a paired payload whose halves complement. -/
def unpair (b : List Byte) : Option (List Byte) :=
  let h := b.length / 2
  if b.length % 16 = 0 ∧ b.drop h = complBytes (b.take h) then some (b.take h) else none

/-- A real value as the four bytes of its binary32 word. -/
def f32Bytes (q : Rat) : List Byte := leBytes 4 (toF32 q).toNat

/-- The real value of four bytes. -/
def f32At (b : List Byte) (o : Nat) : Rat := f32ToRat (w32 (leAt b o 4))

/-- The REPORT payload of this device (Table 1). -/
def State.reportBytes (s : State) (g : Fin 16) : List Byte :=
  let es := (s.localMembers g).map (fun m => s.ownEntry g m.1 m.2)
  let c := s.ownCmd g
  let cmd := c.getD {}
  let ref := cmd.ref.getD (0, 0, 0)
  paired (leBytes 1 g.val ++ leBytes 1 es.length ++ leBytes 2 s.shr[g].term ++ leBytes 4 (s.shareSig g).toNat
    ++ leBytes 8 cmd.stamp ++ leBytes 1 (cmd.mode + 16 * b2n cmd.heave + 32 * b2n c.isSome)
    ++ leBytes 1 (b2n s.shareSync + 2 * b2n (s.shareGrace g)) ++ leBytes 1 cmd.cls ++ zeros 1 ++ f32Bytes cmd.set
    ++ leBytes 8 ref.1 ++ f32Bytes ref.2.1 ++ f32Bytes ref.2.2
    ++ es.flatMap (fun e => leBytes 1 e.slot ++ leBytes 1 e.state ++ leBytes 1 (b2n e.live + 2 * b2n e.cand) ++ leBytes 1 e.prio
      ++ f32Bytes e.speed ++ f32Bytes e.torque ++ f32Bytes e.pos ++ f32Bytes e.neg ++ f32Bytes e.perAmp ++ f32Bytes e.ratio))

/-- An entry of a REPORT. -/
def entryOf (b : List Byte) : ShareEntry :=
  { slot := byteAt b 0, state := byteAt b 1, live := (byteAt b 2).testBit 0, cand := (byteAt b 2).testBit 1, prio := byteAt b 3
    speed := f32At b 4, torque := f32At b 8, pos := f32At b 12, neg := f32At b 16, perAmp := f32At b 20, ratio := f32At b 24 }

/-- The content of a REPORT's data half. -/
def reportOf (dev : Nat) (b : List Byte) : ShareReport :=
  let m := byteAt b 16
  let f := byteAt b 17
  { dev := dev, fresh := true, misses := 0, sigBad := false, term := leAt b 2 2
    synced := f.testBit 0, grace := f.testBit 1
    cmd := if m.testBit 5 then
        some { cls := byteAt b 18, stamp := leAt b 8 8, dev := dev, mode := m % 8, heave := m.testBit 4, set := f32At b 20
               ref := if leAt b 24 8 = 0 then none else some (leAt b 24 8, f32At b 32, f32At b 36) }
      else none
    entries := (List.range (min (byteAt b 1) 6)).map (fun j => entryOf (b.drop (40 + 28 * j))) }

/-- The SHARE payload (Table 2). -/
def shareBytes (g : Nat) (m : ShareMsg) : List Byte :=
  paired (leBytes 1 g ++ leBytes 1 m.leader ++ leBytes 2 m.term ++ leBytes 8 m.applyAt ++ leBytes 4 m.carry ++ leBytes 4 m.live
    ++ f32Bytes m.nRef ++ f32Bytes m.tTot ++ leBytes 1 (m.mode + 16 * b2n m.heave + 32 * b2n m.stop) ++ zeros 3
    ++ f32Bytes m.set ++ m.vals.flatMap f32Bytes)

/-- The content of a SHARE's data half with `nmem` values. -/
def shareOf (b : List Byte) (nmem : Nat) : ShareMsg :=
  { leader := byteAt b 1, term := leAt b 2 2, applyAt := leAt b 4 8, carry := leAt b 12 4, live := leAt b 16 4
    nRef := f32At b 20, tTot := f32At b 24, mode := byteAt b 28 % 8, heave := (byteAt b 28).testBit 4
    stop := (byteAt b 28).testBit 5, set := f32At b 32, vals := (List.range nmem).map (fun k => f32At b (36 + 4 * k)) }

/-! ## Packets received (R276, R278, R288) -/

/-- Replace the report of a device. -/
def putReport (l : List ShareReport) (q : ShareReport) : List ShareReport := l.filter (fun x => x.dev != q.dev) ++ [q]

/-- A REPORT arrives (R276, R277). -/
def State.reportIn (s : State) (sender : Nat) (payload : List Byte) : State :=
  match unpair payload with
  | none => s
  | some b =>
    if h : byteAt b 0 < 16 then
      let g : Fin 16 := ⟨byteAt b 0, h⟩
      if !s.usesGroup g then s
      else
        let r := s.regs
        let q := reportOf sender b
        let old := s.shr[g].reports.find? (fun x => x.dev == sender)
        if leAt b 4 4 ≠ (s.shareSig g).toNat then
          let noted : Bool := match old with | some o => o.sigBad | none => false
          let s := s.modShr g (fun x => { x with reports := putReport x.reports { (old.getD q) with sigBad := true } })
          if noted then s else s.event s.tb Unit.dev 0x0B07 sender (leAt b 4 4)
        else
          match q.entries.find? (fun e => !(decide (e.slot < r.FAB_SHRg_CFG_NMEM g) && r.FAB_SHRg_MEMs_DEV g e.slot == sender)) with
          | some e =>
            (s.modShr g (fun x => { x with reports := x.reports.map (fun o => if o.dev == sender then { o with sigBad := false } else o) })).event
              s.tb Unit.dev 0x0B08 sender (r.FAB_SHRg_MEMs_AXIS g (e.slot % 32))
          | none => s.modShr g (fun x => { x with reports := putReport x.reports q })
    else s

/-- The rank of a leader slot: PRIO, device address, axis (R288). -/
def State.slotRank (s : State) (g : Fin 16) (k : Nat) : Nat :=
  s.regs.FAB_SHRg_MEMs_PRIO g k * 4096 + s.regs.FAB_SHRg_MEMs_DEV g k * 8 + s.regs.FAB_SHRg_MEMs_AXIS g k

/-- Must a SHARE of a leader be followed (R288)? Terms are compared as in R81. -/
def State.mustFollow (s : State) (g : Fin 16) (m : ShareMsg) : Bool :=
  let x := s.shr[g]
  match x.leader with
  | none => decide ((m.term + 65536 - x.term) % 65536 < 32768)
  | some l =>
    if m.term = x.term then decide (s.slotRank g m.leader ≤ s.slotRank g l)
    else decide ((m.term + 65536 - x.term) % 65536 < 32768)

/-- A SHARE arrives; one that comes later than 10 µs before its apply instant is discarded (R278, R288). A group that an address test
isolates follows none until the next release (R558). The origin of the command in it is that of the best command which the reports here
show (R281; DEDUCED, log 143). -/
def State.shareIn (s : State) (sender : Nat) (payload : List Byte) : State :=
  match unpair payload with
  | none => s
  | some b =>
    if h : byteAt b 0 < 16 then
      let g : Fin 16 := ⟨byteAt b 0, h⟩
      let nmem := min (s.regs.FAB_SHRg_CFG_NMEM g) 32
      let m := shareOf b nmem
      if (s.localMembers g).isEmpty ∨ nmem ≤ m.leader ∨ s.regs.FAB_SHRg_MEMs_DEV g m.leader ≠ sender ∨ !s.mustFollow g m ∨ s.shr[g].cfgBad then s
      else
        if s.tb + 10000 ≤ m.applyAt then
          s.modShr g (fun x => { x with
            leader := some m.leader, term := m.term, next := some m, cmdValid := m.mode != 0 || !x.work.cmds.isEmpty
            gstop := m.stop
            cmd := { (bestCmd x.work.cmds).getD x.cmd with mode := m.mode, set := m.set, heave := m.heave } })
        else s.modShr g (fun x => { x with lateBy := some (s.tb + 10000 - m.applyAt) })
    else s

/-! ## The division (R284) -/

/-- One share of the division: slot, weight times ratio times torque per ampere, limits. -/
structure Part where
  slot : Nat
  c : Rat
  pos : Rat
  neg : Rat
  deriving DecidableEq, Repr

/-- The division of a total among the free members: values by slot, and what is left. -/
def divide : Nat → List Part → Rat → List (Nat × Rat) × Rat
  | 0, _, rest => ([], rest)
  | _, [], rest => ([], rest)
  | n + 1, free, rest =>
    let w := free.foldl (fun a p => a + p.c) 0
    let v (p : Part) : Rat := rest * p.c / w
    let past (p : Part) : Bool := decide (p.pos < v p) || decide (v p < -p.neg)
    if free.any past then
      let fixed := (free.filter past).map (fun p => (p.slot, clampR (-p.neg) p.pos (v p)))
      let left := fixed.foldl (fun a q => a - q.2) rest
      let r := divide n (free.filter (fun p => !past p)) left
      (fixed ++ r.1, r.2)
    else (free.map (fun p => (p.slot, v p)), 0)

/-! ## The tick (R277 to R293) -/

/-- The reports are a tick older: one that came since counts as of this tick, another as a miss. The mark of a sender outside the slot list
whose signature did not match stays until a matching packet arrives (R276). -/
def State.ageReports (s : State) (g : Fin 16) : State :=
  let devs := s.shareDevs g
  s.modShr g (fun x =>
    { x with reports := x.reports.filter (fun q => q.sigBad && !devs.contains q.dev) ++ devs.map (fun d =>
        match x.reports.find? (fun q => q.dev == d) with
        | some q => if q.fresh then { q with fresh := false, misses := 0 } else { q with misses := satInc 16 q.misses }
        | none => { dev := d, fresh := false, misses := 1, sigBad := false, term := 0, synced := false, grace := false
                    cmd := none, entries := [] }) })

/-- The join weights of a tick (R287): a member in RUN gains, one in STOP under the group command keeps its weight. -/
def State.joinTick (s : State) (g : Fin 16) (ms : List Mem) (led : Bool) : State :=
  let jt := s.regs.FAB_SHRg_JOIN_T g
  let d := if jt ≤ 0 then 1 else s.periodS / jt
  s.modShr g (fun x => { x with
    weight := Vector.ofFn (fun k : Fin 32 =>
      match ms.find? (fun m => m.entry.slot == k.val) with
      | some m =>
        if led ∧ m.why = 0 ∧ m.entry.state = 3 then min 1 (x.weight[k] + d)
        else if led ∧ m.why = 0 ∧ m.entry.state = 4 then x.weight[k] else 0
      | none => 0) })

/-- The group command of a tick at the leader (R281, R244, R290). A new leader keeps the command in force in its first tick (R289), and a
command whose device is silent stays in force until a better one comes (R281; DEDUCED, log 143). -/
def State.groupCmd (s : State) (g : Fin 16) (first : Bool) : State :=
  let x := s.shr[g]
  let silent := s.shareAddr != some x.cmd.dev && x.reports.any (fun q => q.dev == x.cmd.dev && (q.misses != 0 || q.sigBad))
  let old := if x.cmdValid && silent then [x.cmd] else []
  match if first && x.cmdValid then some x.cmd else bestCmd (x.work.cmds ++ old) with
  | none => s.modShr g (fun x => { x with cmdValid := false, cmd := { x.cmd with mode := 0 } })
  | some c =>
    let c := if c.stamp ≤ x.floor then { c with mode := 0 } else c
    s.modShr g (fun x => { x with cmd := c, cmdValid := true, gstop := x.gstop && c.mode == 0 })

/-- The members that carry, as parts of the division. -/
def State.parts (s : State) (g : Fin 16) (ms : List Mem) : List Part :=
  ms.filterMap (fun m =>
    let w := s.shr[g].weight.getD m.entry.slot 0
    if m.why = 0 ∧ 0 < w then
      some ⟨m.entry.slot, w * m.entry.ratio * (if s.regs.FAB_SHRg_CFG_MODE g = 2 then m.entry.perAmp else 1), m.entry.pos, m.entry.neg⟩
    else none)

/-- A new leader takes over without a step (R289): its ramp stands at its speed, and its loop will give `sum`. A command in force that is
MODE 0 stays so for commands of before. -/
def State.takeOver (s : State) (g : Fin 16) (n : Fin 6) (sum : Rat) : State :=
  let x := s.shr[g]
  let s := s.modCmd n (fun c =>
    { c with
      r := s.ax[n].eng.speed, a := 0, speedLoop := x.cmd.mode == 1 || x.cmd.mode == 0, tensLoop := x.cmd.mode == 3, grp := true
      render := false, renderNext := none, renderLow := none, impact := none, impactNext := none, tlHist := [], fade := none })
  (s.modShr g (fun x => { x with
    tTot := sum, floor := if x.cmdValid ∧ x.cmd.mode = 0 then max x.floor s.tick.began else x.floor })).event s.tick.began (Unit.ax n) 0x0B01 (x.leader.getD 0 + 256 * g.val) x.term

/-- An axis takes the command of its group in a tick (R282): while none is valid it has its own source and no command, and it starts
only as a live member of a group that is not isolated here (R282, R291). -/
def State.groupTake (s : State) (g : Fin 16) (n : Fin 6) (mode : Nat) (set : Rat) (heave live : Bool) : State :=
  let s := if s.shr[g].cmdValid then s.takeCommand n 4 mode set heave else s.takeCommand n s.cmd.ax[n].ownSrc 0 0 false
  s.modCmd n (fun c => { c with startNext := c.startNext && live && !s.shr[g].isolated })

/-- A member that does not lead has no loop of its own, but in DROOP mode (R285): what it does next starts from its own torque. -/
def State.followGroup (s : State) (g : Fin 16) (n : Fin 6) : State :=
  if s.regs.FAB_SHRg_CFG_MODE g = 3 then (s.leaveGroup n).speedBegin n
  else s.modCmd n (fun c => { c with speedLoop := false, tensLoop := false, grp := false, preset := false })

/-- The leader's loop and its SHARE (R283 to R285, R287). `pre`: the torque that a new leader takes over (R289). `send`: the work is in
time; if not, its SHARE is withheld (R57). The torque of the leader's own member stays what it applies. -/
def State.leaderTick (s : State) (g : Fin 16) (n : Fin 6) (slot : Nat) (ms : List Mem) (pre : Option Rat) (send : Bool) : State :=
  let r := s.regs
  let ta := s.tickEnd
  let x := s.shr[g]
  let mem := s.cmd.ax[n].tStar
  let s := x.work.refs.foldl (fun s q => s.takeHeave n q.1.1 q.1.2.1 q.1.2.2 q.2) s
  let ref := x.work.refs.foldl heaveLater (s.cmd.ax[n].hcRead.map (fun q => (q, s.cmd.ax[n].hcReadCan)))
  let s := s.modCmd n (fun c => { c with hcRead := ref.map (·.1), hcReadCan := match ref with | some q => q.2 | none => false })
  let s := s.groupTake g n x.cmd.mode x.cmd.set x.cmd.heave (ms.any (fun m => m.entry.slot == slot && m.why == 0))
  let s := s.heaveTick n ta
  let ps := s.parts g ms
  let carry := ms.filter (fun m => ps.any (fun p => p.slot == m.entry.slot))
  let gsum := carry.foldl (fun a m => a + x.weight.getD m.entry.slot 0 * m.entry.ratio) 0 / r.AXn_SHR_RATIO n
  let mode := r.FAB_SHRg_CFG_MODE g
  let s := if mode = 3 then s else s.winchTick n x.tTot (gsum * r.AXn_INERTIA n) ta
  let s :=
    if ps.isEmpty then
      (s.modCmd n (fun c => { c with tStar := 0, tLoop := 0, speedLoop := false, tensLoop := false })).modShr g
        (fun x => { x with tTot := 0 })
    else if mode = 3 then
      let s := s.speedBegin n
      let s := s.rampTick n (s.loopGoal n).2
      s.modShr g (fun x => { x with tTot := 0 })
    else
      let pos := ps.foldl (fun a p => a + p.pos) 0
      let neg := ps.foldl (fun a p => a + p.neg) 0
      let cap := r.AXn_WN_RND_F n * r.AXn_WN_R n / r.AXn_WN_G n
      let pos := if s.cmd.ax[n].render then min pos cap else pos
      let s := s.modCmd n (fun c => { c with tStar := x.tTot })
      let s := s.loopTick n gsum (pos, neg) 0 pre
      s.modShr g (fun x => { x with tTot := s.cmd.ax[n].tStar })
  let s := s.modCmd n (fun c => { c with tStar := mem, grp := mode != 3 })
  let tot := s.shr[g].tTot
  let dv := if mode = 3 then (([] : List (Nat × Rat)), (0 : Rat)) else divide 33 ps tot
  let sat := dv.2 != 0 && !ps.isEmpty
  let mask (p : Nat → Bool) : Nat := maskOf 32 p
  let carryMask := mask (fun k => ps.any (fun p => p.slot == k))
  let before := match x.next, x.now with | some m, _ => m.carry | none, some m => m.carry | none, none => 0
  let m : ShareMsg :=
    { leader := slot, term := s.shr[g].term, applyAt := ta, carry := carryMask
      live := mask (fun k => ms.any (fun m => m.entry.slot == k && m.why == 0))
      nRef := s.cmd.ax[n].nRef, tTot := tot, mode := x.cmd.mode, heave := x.cmd.heave, stop := x.gstop, set := x.cmd.set
      vals := (r.shareSlots g).map (fun k => match dv.1.find? (fun q => q.1 == k) with | some q => q.2 | none => 0) }
  if !send then s
  else
    let s := (r.shareSlots g).foldl (fun s k =>
      if carryMask.testBit k && !before.testBit k then s.event ta (Unit.ax n) 0x0B03 k 0 else s) s
    let s := if sat ≠ x.sat then s.event ta (Unit.ax n) 0x0B09 (b2n sat) (twos 4 dv.2.floor) else s
    let s := s.modShr g (fun x => { x with sat := sat, next := some m })
    (s.shareDevs g).foldl (fun s d => (s.fabSend d 0 0x21 false none (shareBytes g m)).1) s

/-- The election of a tick (R288, R291). A leader counts as live until it is lost (R293), and a tick in which a member is lost tests the
quorum too, as the example of the chapter shows (DEDUCED, log 28). At the end of its desync grace a device is isolated (R292). -/
def State.elect (s : State) (g : Fin 16) (ms : List Mem) : State :=
  let x := s.shr[g]
  let live := ms.filter (fun m => m.why == 0)
  let cand := live.filter (fun m => m.entry.cand && m.entry.prio != 0)
  let quorum := decide (s.regs.FAB_SHRg_CFG_QUORUM g ≤ live.length)
  let here (k : Nat) : Bool := ms.any (fun m => m.entry.slot == k && !m.gone && (m.why == 0 || x.here.getLsbD k))
  let lost := ms.any (fun m => m.gone && x.here.getLsbD m.entry.slot)
  let ok : Bool := match x.leader with
    | some l => here l && decide (x.miss < s.regs.FAB_SHRg_CFG_MISS g)
    | none => false
  let out := x.cfgBad || (s.tbs.loaded && s.tbs.syncLost && x.graceOver)
  let best := cand.foldl (fun b m =>
    match b with
    | some k => if s.slotRank g m.entry.slot < s.slotRank g k then some m.entry.slot else some k
    | none => some m.entry.slot) (none : Option Nat)
  let s := s.modShr g (fun x => { x with
    quorumOk := quorum, here := BitVec.ofNat 32 (maskOf 32 here)
    live := BitVec.ofNat 32 (maskOf 32 (fun k => live.any (fun m => m.entry.slot == k))) })
  if ok && !out && (quorum || !lost) then s.modShr g (fun x => { x with isolated := x.isolated && !quorum, isoNext := none })
  else if !quorum || best.isNone || out then
    s.modShr g (fun x => { x with leader := none, isoNext := some live.length })
  else
    s.modShr g (fun x => { x with
      leader := best, term := (x.term + 1) % 65536, miss := 0, missNoted := false, isolated := false, isoNext := none })

/-- Members found lost in this tick: they had been live and were not lost at the last one (R290). -/
def State.findLost (s : State) (g : Fin 16) (was : BitVec 32) (ms : List Mem) : State :=
  s.modShr g (fun x => { x with
    lastT := Vector.ofFn (fun k : Fin 32 =>
      match ms.find? (fun m => m.entry.slot == k.val) with | some m => m.entry.torque | none => x.lastT[k])
    lostCause := Vector.ofFn (fun k : Fin 32 =>
      match ms.find? (fun m => m.entry.slot == k.val) with
      | some m => if m.why = 0 then 0 else if m.gone && was.getLsbD k then m.why else x.lostCause[k]
      | none => x.lostCause[k]) })

/-- What the work of a tick takes of a group when it begins: the reports received by then, this device's own state, the election, and
the content of its REPORT (R277, R288). -/
def State.shareBegin (s : State) (g : Fin 16) : State :=
  if !s.usesGroup g then s
  else
    let s := s.ageReports g
    let ms := s.members g
    let x := s.shr[g]
    let remote := x.reports.filterMap (fun q =>
      if q.sigBad || q.misses != 0 then none else q.cmd)
    let own := (s.localMembers g).filterMap (fun m => s.cmd.ax[m.2].hcRead.map (fun q => (q, s.cmd.ax[m.2].hcReadCan)))
    let w : ShareWork :=
      { ms := ms, cmds := (s.ownCmd g).toList ++ remote
        refs := x.reports.filterMap (fun q => match q.cmd with | some c => c.ref.map (fun p => (p, false)) | none => none) ++ own
        wasLed := x.leader, was := x.here }
    let s := s.elect g ms
    s.modShr g (fun x => { x with work := { w with report := s.reportBytes g } })

/-- A group's part of the tick's work, on what it took when it began. `send`: it is in time. -/
def State.shareTick (s : State) (g : Fin 16) (send : Bool) : State :=
  if !s.usesGroup g then s
  else
    let x := s.shr[g]
    let ms := x.work.ms
    let was := x.work.was
    let wasLed := x.work.wasLed
    let s := s.joinTick g ms x.leader.isSome
    let mine : Option (Fin 6) := match x.leader with
      | some l => ((s.localMembers g).find? (fun m => m.1 == l)).map (·.2)
      | none => none
    let s := match mine, x.leader with
      | some n, some l =>
        let s := s.findLost g was ms
        let first := wasLed ≠ some l
        let sum := ms.foldl (fun (a : Rat) (m : Mem) =>
          if m.why = 0 ∧ 0 < s.shr[g].weight.getD m.entry.slot 0 then a + m.entry.torque else a) 0
        let s := if first then s.takeOver g n sum else s
        let s := s.groupCmd g first
        let stop := s.regs.FAB_SHRg_CFG_LOSS_POL g
        let lost := ms.any (fun m => m.gone && was.getLsbD m.entry.slot)
        let s := if stop && lost then
            s.modShr g (fun x => { x with gstop := true, floor := s.tb, cmd := { x.cmd with mode := 0 } })
          else s
        s.leaderTick g n l ms (if first then some sum else none) send
      | _, _ => s
    let s := (s.localMembers g).foldl (fun (s : State) (m : Nat × Fin 6) =>
      let n := m.2
      if s.ax[n].state = .stop ∧ s.ax[n].stopKind ≠ StopKind.command then s.soloTick n
      else
        let s := if mine = some n then s else s.followGroup g n
        let s := if x.leader.isSome then s else s.takeCommand n s.cmd.ax[n].ownSrc 0 0 false
        let d := s.dampTick n
        let s := (s.modCmd n d.2).modCmd n (fun c => { c with shrDamp := d.1 })
        (s.iceTick n (s.memberLimits n) s.tickEnd).crashTick n s.tickEnd) s
    if s.shareAddr.isSome && send then
      (s.shareDevs g).foldl (fun s d => (s.fabSend d 0 0x20 false none x.work.report).1) s
    else s

/-- A member takes its part of a SHARE at the apply instant (R278, R282, R285, R286); it starts only while it is live. In I-f it
follows its n_ref directly and its integrator is held (R249). -/
def State.memberApply (s : State) (g : Fin 16) (m : ShareMsg) (slot : Nat) (n : Fin 6) : State :=
  if s.ax[n].state = .stop ∧ s.ax[n].stopKind ≠ StopKind.command then s
  else
    let s := if m.leader = slot then s
      else s.groupTake g n m.mode m.set m.heave ((s.ownEntry g slot n).live && m.live.testBit slot)
    let l := s.memberLimits n
    let c := s.cmd.ax[n]
    let carry := m.carry.testBit slot
    if !s.looping n then s.modCmd n (fun c => { c with tStar := 0, nRef := m.nRef })
    else if s.regs.FAB_SHRg_CFG_MODE g = 3 ∧ carry then
      let nr := m.nRef - s.regs.AXn_SHR_DROOP n * c.tStar
      let s := s.modCmd n (fun c => if m.leader = slot then { c with nRef := nr } else { c with nRef := nr, r := m.nRef, a := 0 })
      if s.imposed n then s
      else
        let q := s.speedLoop n 1 nr l
        s.modCmd n (fun c => { c with int := q.2, tStar := clampR (-l.2) l.1 (q.1 + c.shrDamp) })
    else
      let v := if carry then m.vals.getD slot 0 else 0
      s.modCmd n (fun c => { c with tStar := clampR (-l.2) l.1 (v + c.shrDamp), nRef := m.nRef })

/-- A group at the boundary that ends a tick (R278, R291, R293): the SHARE in force changes, or a miss counts. `ok`: the
device's own tick did not overrun. -/
def State.shareBoundary (s : State) (g : Fin 16) (ok : Bool) : State :=
  if !s.usesGroup g then s
  else
    let x := s.shr[g]
    let loc := s.localMembers g
    let mine : Bool := match x.leader with | some l => loc.any (fun m => m.1 == l) | none => false
    let due : Option ShareMsg := match x.next with | some m => if m.applyAt ≤ s.tb then some m else none | none => none
    let s :=
      match due with
      | some m =>
        let s := s.modShr g (fun y => { y with next := none, miss := 0, missNoted := false, lateBy := none })
        if ok then loc.foldl (fun s q => s.memberApply g m q.1 q.2) (s.modShr g (fun y => { y with now := some m })) else s
      | none =>
        if x.leader.isNone || (mine && ok) then s
        else
          let s := if x.missNoted then s
            else loc.foldl (fun s q => s.event s.tb (Unit.ax q.2.val) 0x0B04 (256 * g.val) (x.lateBy.getD 0xFFFFFFFF)) s
          s.modShr g (fun y => { y with miss := y.miss + 1, missNoted := true, missCnt := satInc 16 y.missCnt, lateBy := none })
    match x.isoNext with
    | none => s
    | some k =>
      let s := s.modShr g (fun y => { y with isolated := true, isoNext := none, next := none, now := none })
      loc.foldl (fun (s : State) (q : Nat × Fin 6) =>
        let a : AxSt := s.ax[q.2]
        if a.state = .run ∨ (a.state = .stop ∧ a.stopKind = StopKind.command) then
          (s.axStop q.2 (.fault 0x0B05 false)).event s.tb (Unit.ax q.2.val) 0x0B05 k (s.regs.FAB_SHRg_CFG_QUORUM g)
        else s) s

/-- The group command is reset where this device leads, when it enters HOLD or BRAKE (R244, R282). -/
def State.shareReset (s : State) : State :=
  (List.finRange 16).foldl (fun s g =>
    match s.shr[g].leader with
    | some l =>
      if (s.localMembers g).any (fun m => m.1 == l) then
        s.modShr g (fun x => { x with floor := s.tb, cmd := { x.cmd with mode := 0 } })
      else s
    | none => s) s

/-- `MEMBER_LOST`: the leader records a member that the tick's work has found lost; under the STOP policy with the group stop
(R290). -/
def execMemberLost (dt : Nat) (g : Fin 16) (slot : Fin 32) (s : State) : Host.Outcome State Fault Refusal :=
  let s := s.advance dt
  let x := s.shr[g]
  let lead : Option (Fin 6) := match x.leader with
    | some l => ((s.localMembers g).find? (fun m => m.1 == l)).map (·.2)
    | none => none
  match lead with
  | none => done s
  | some n =>
    if !s.running || x.lostCause[slot] = 0 then done s
    else
      let s := (s.modShr g (fun y => { y with lostCnt := satInc 16 y.lostCnt, lostCause := y.lostCause.set slot 0 })).event
        s.tick.began (Unit.ax n) 0x0B02 (slot.val + 256 * x.lostCause[slot]) (twos 4 x.lastT[slot].floor)
      if s.regs.FAB_SHRg_CFG_LOSS_POL g then
        done ((s.modShr g (fun y => { y with gstop := true, floor := max y.floor s.tb, cmd := { y.cmd with mode := 0 } })).event
          s.tickEnd (Unit.ax n) 0x0B06 slot.val 0)
      else done s

/-- `DESYNC_GRACE_END` (R292). -/
def execDesyncGraceEnd (dt : Nat) (g : Fin 16) (s : State) : Host.Outcome State Fault Refusal :=
  let s := s.advance dt
  done (if s.running && s.tbs.syncLost && decide (s.tbs.lostSince + nsOf (s.regs.FAB_SHRg_DESYNC_T g) ≤ s.tb) then
    s.modShr g (fun x => { x with graceOver := true }) else s)

end Sys2Proof.Machine
end

