-- ==== Sys2Proof/Machine/Rules.lean ====
section
/-! DEFINITION. The rules an image and a staged set must meet: the consistency rules 0x0201 to 0x020F and the block rules
(R34, R47, R72, R96, R169, R173, R203, R237, R255, R274, R295, R318, R362, R393, R422, R446, R470, R493, R512). A rule answers, for
each instance that breaks it, the register words whose contents that instance rests on. Words that only say which axes, inputs
or rings an instance concerns are not among them (DEDUCED, log 40). -/
namespace Sys2Proof.Machine

/-- One rule: the words of each instance that breaks it. -/
abbrev Rule := Regs → List (List Nat)

/-- An instance: its words where it is broken. -/
def broken (words : List Nat) (bad : Bool) : List (List Nat) := if bad then [words] else []

/-- An instance for each index of a list. -/
def forEach (l : List Nat) (f : Nat → List (List Nat)) : List (List Nat) := l.flatMap f

/-- Every pair of an index and a later one. -/
def pairsOf : List Nat → List (Nat × Nat)
  | [] => []
  | a :: t => t.map (fun b => (a, b)) ++ pairsOf t

/-! ## What several rules ask -/

def Regs.mains (r : Regs) : List Nat := (List.range 6).filter r.GD_AXn_MAP_EN
def Regs.auxes (r : Regs) : List Nat := (List.range 4).filter r.GD_AUXn_MAP_EN
def Regs.chops (r : Regs) : List Nat := (List.range 4).filter r.GD_CHPn_MAP_EN

/-- Is a half-bridge in link mode? -/
def Regs.linkHb (r : Regs) (h : Nat) : Bool := r.GD_HB_MODE.testBit h

/-- The users of the pool: the map register and its half-bridges. -/
def Regs.users (r : Regs) : List (Nat × List Nat) :=
  r.mains.map (fun n => (Reg.GD_AXn_MAP n, [r.GD_AXn_MAP_HB_U n, r.GD_AXn_MAP_HB_V n, r.GD_AXn_MAP_HB_W n]))
    ++ r.auxes.map (fun n =>
      (Reg.GD_AUXn_MAP n, [r.GD_AUXn_MAP_HB_A1 n, r.GD_AUXn_MAP_HB_A2 n, r.GD_AUXn_MAP_HB_B1 n, r.GD_AUXn_MAP_HB_B2 n]))
    ++ r.chops.map (fun n => (Reg.GD_CHPn_MAP n, [r.GD_CHPn_MAP_HB n]))

/-- The enabled phase-current channels of a main axis. -/
def Regs.phaseChs (r : Regs) (n : Nat) : List Nat :=
  (List.range 32).filter (fun c => r.SNS_SDIc_CFG_EN c && r.SNS_SDIc_CFG_ROLE c && r.SNS_SDIc_CFG_AXIS c == n)

/-- A PWM period in places of the 0.25 ns grid (R13, R73). -/
def qPeriod (f : Rat) : Nat := if f ≤ 0 then 0 else (4000000000 / f + 1 / 2).floor.toNat

/-- Updates of a main axis in one PWM period (R206). -/
def Regs.updates (r : Regs) (n : Nat) : Nat := if r.AXn_FOC_CFG_UPD n then 2 else 1

/-- The update interval of a main axis at its committed frequency, s. -/
def Regs.tuOf (r : Regs) (n : Nat) : Rat := 1 / r.AXn_PWM_F n / (r.updates n : Rat)

/-- The outer-tick period, s (R67). -/
def Regs.tickS (r : Regs) : Rat := mkRat 1 (1000 * 2 ^ r.DEV_CFG)

/-- This device knows its address at LOAD and it is 0: the root, or a device without links (R558). -/
def Regs.addrZero (r : Regs) : Bool := r.FAB_CFG_ROOT || r.FAB_CFG_LINK_EN == 0

/-! ## Consistency rules (Table 7 of the start-up chapter) -/

def rule0201 : Rule := fun r =>
  r.users.flatMap (fun u => broken [u.1] ((u.2.map (· / 6)).eraseDups.length > 1))

def rule0202 : Rule := fun r =>
  let us := r.users
  us.flatMap (fun u => broken [u.1] (u.2.eraseDups.length < u.2.length))
    ++ forEach (List.range us.length) (fun i => forEach (List.range i) (fun j =>
      match us[i]?, us[j]? with
      | some a, some b => broken [a.1, b.1] (a.2.any (fun h => b.2.contains h))
      | _, _ => []))

def rule0204 : Rule := fun r =>
  r.users.flatMap (fun u => broken [u.1, Reg.GD_HB_MODE] ((u.2.map r.linkHb).eraseDups.length > 1))

def rule0205 : Rule := fun r =>
  forEach r.mains (fun n =>
    let ch := r.phaseChs n
    broken (ch.map Reg.SNS_SDIc_CFG) ((ch.map (· / 8)).eraseDups.length > 1))

def rule0206 : Rule := fun r =>
  (pairsOf ((List.range 6).filter r.SNS_AXn_ENC_EN)).flatMap (fun p =>
    broken [Reg.SNS_AXn_ENC p.1, Reg.SNS_AXn_ENC p.2] (r.SNS_AXn_ENC_IDX p.1 == r.SNS_AXn_ENC_IDX p.2))

def rule0207 : Rule := fun r =>
  forEach (List.range 4) (fun m =>
    let d := r.TB_MCLK_m m
    let served := ((List.range 8).map (8 * m + ·)).filter r.SNS_SDIc_CFG_EN
    broken (Reg.TB_MCLK_m m :: served.map Reg.SNS_SDIc_CFG)
      (if d = 0 then !served.isEmpty else decide (d < 20 ∨ 100 < d)))

def rule0208 : Rule := fun r =>
  forEach r.mains (fun n => forEach (r.phaseChs n) (fun c =>
    broken [Reg.TB_MCLK_m (c / 8), Reg.AXn_FOC_CFG n, Reg.AXn_PWM_F n, Reg.SNS_SDIc_OSR c]
      (decide (r.AXn_PWM_F n > 0) && decide (secOf (3 * r.SNS_SDIc_OSR c * r.mclkNs c + 3200) > r.tuOf n))))

def rule020B : Rule := fun r =>
  forEach (List.range 6) (fun n => broken [Reg.AXn_SHR_CFG n] (decide (16 ≤ r.AXn_SHR_CFG n ∧ r.AXn_SHR_CFG n ≤ 30)))

def rule020C : Rule := fun r =>
  forEach (List.range 16) (fun g => broken [Reg.FAB_SHRg_CFG g] (decide (32 < r.FAB_SHRg_CFG_NMEM g)))

def rule020D : Rule := fun r =>
  forEach (List.range 2) (fun n => broken [Reg.CANn_FLT_CNT n] (decide (64 < r.CANn_FLT_CNT n)))

/-- The enabled rings. -/
def Regs.ringsOn (r : Regs) : List Nat := (List.range 32).filter r.RNG_r_CFG_EN

def Regs.ringLo (r : Regs) (k : Nat) : Nat := (r.RNG_r_BASE k).toNat
def Regs.ringHi (r : Regs) (k : Nat) : Nat := r.ringLo k + 2 ^ r.RNG_r_CFG_LOG2 k
def ringWords (k : Nat) : List Nat := [Reg.RNG_r_BASE k, Reg.RNG_r_CFG k]

def rule020E : Rule := fun r =>
  forEach r.ringsOn (fun k => broken (ringWords k) (decide (r.ringLo k < 0x1000000 ∨ 0x1400000 < r.ringHi k)))
    ++ (pairsOf r.ringsOn).flatMap (fun p =>
      broken (ringWords p.1 ++ ringWords p.2) (decide (r.ringLo p.1 < r.ringHi p.2 ∧ r.ringLo p.2 < r.ringHi p.1)))

def rule020F : Rule := fun r =>
  forEach ((List.range 6).filter (fun n => !r.GD_AXn_MAP_EN n)) (fun n =>
      broken [Reg.AXn_CMD_CFG n] (r.AXn_CMD_CFG_CAN n != 0) ++ broken [Reg.AXn_CRV_CFG n] (r.AXn_CRV_CFG_EN n)
        ++ broken [Reg.AXn_SHR_CFG n] (r.AXn_SHR_CFG n != 31))
    ++ forEach (List.range 4) (fun k => broken [Reg.SAF_SOk_CFG k]
      ((List.range 6).any (fun n => (r.SAF_SOk_CFG_AX k).testBit n && !r.GD_AXn_MAP_EN n)
        || (List.range 4).any (fun n => (r.SAF_SOk_CFG_AUX k).testBit n && !r.GD_AUXn_MAP_EN n)))
    ++ (if r.addrZero then forEach (List.range 16) (fun g => forEach (r.shareSlots g) (fun k =>
        broken [Reg.FAB_SHRg_MEMs g k] (r.FAB_SHRg_MEMs_DEV g k == 0
          && !(decide (r.FAB_SHRg_MEMs_AXIS g k < 6) && r.GD_AXn_MAP_EN (r.FAB_SHRg_MEMs_AXIS g k))))) else [])

/-! ## Gate drive (R169) -/

def rule3101 : Rule := fun r =>
  forEach r.mains (fun n => broken [Reg.GD_AXn_FAST_I n, Reg.AXn_I_MAX n] (decide (r.GD_AXn_FAST_I n < 5 / 4 * r.AXn_I_MAX n)))

def rule3102 : Rule := fun r =>
  forEach r.mains (fun n => broken [Reg.GD_AXn_DT_RISE n, Reg.GD_AXn_DT_FALL n, Reg.AXn_PWM_F n]
      (decide ((r.GD_AXn_DT_RISE n + r.GD_AXn_DT_FALL n) * r.AXn_PWM_F n > 1 / 10)))
    ++ forEach r.auxes (fun n => broken [Reg.GD_AUXn_DT n, Reg.AUXn_PWM_F n]
      (decide (2 * r.GD_AUXn_DT n * r.AUXn_PWM_F n > 1 / 10)))

def rule3103 : Rule := fun r =>
  forEach r.mains (fun n => broken [Reg.GD_AXn_BLANK n, Reg.AXn_PWM_F n] (decide (r.GD_AXn_BLANK n * r.AXn_PWM_F n > 1 / 4)))
    ++ forEach r.auxes (fun n => broken [Reg.GD_AUXn_BLANK n, Reg.AUXn_PWM_F n]
      (decide (r.GD_AUXn_BLANK n * r.AUXn_PWM_F n > 1 / 4)))

def rule3104 : Rule := fun r =>
  forEach r.chops (fun n => broken [Reg.GD_CHPn_MAP n, Reg.SNS_AINc_CFG (r.GD_CHPn_MAP_AIN n)]
      (r.SNS_AINc_CFG_KIND (r.GD_CHPn_MAP_AIN n) != 1))
    ++ (pairsOf r.chops).flatMap (fun p =>
      broken [Reg.GD_CHPn_MAP p.1, Reg.GD_CHPn_MAP p.2] (r.GD_CHPn_MAP_AIN p.1 == r.GD_CHPn_MAP_AIN p.2))

def rule3105 : Rule := fun r =>
  forEach r.chops (fun n =>
    broken [Reg.GD_CHPn_ON n, Reg.GD_CHPn_OFF n] (decide (r.GD_CHPn_ON n < r.GD_CHPn_OFF n + 2))
      ++ broken [Reg.GD_CHPn_ON n, Reg.GD_HB_MODE] (!r.linkHb (r.GD_CHPn_MAP_HB n) && decide (r.GD_CHPn_ON n > 100)))

/-! ## Sensing (R203) -/

def rule3201 : Rule := fun r =>
  forEach r.mains (fun n => forEach ((r.phaseChs n).map (· / 8)).eraseDups (fun m =>
    let q := qPeriod (r.AXn_PWM_F n)
    let u := r.updates n
    let d := 8 * r.TB_MCLK_m m
    broken [Reg.TB_MCLK_m m, Reg.AXn_FOC_CFG n, Reg.AXn_PWM_F n] (d != 0 && q % (u * d) != 0)))

def rule3202 : Rule := fun r =>
  forEach r.mains (fun n =>
    let ch := r.phaseChs n
    broken (ch.map Reg.SNS_SDIc_OSR) ((ch.map r.SNS_SDIc_OSR).eraseDups.length > 1)
      ++ broken (ch.map Reg.SNS_SDIc_CFG) ((ch.map r.SNS_SDIc_CFG_FAST_OSR).eraseDups.length > 1))

def rule3203 : Rule := fun r =>
  forEach r.mains (fun n =>
      let ch := r.phaseChs n
      broken (Reg.GD_AXn_MAP n :: ch.map Reg.SNS_SDIc_CFG)
        ((List.range 3).any (fun p => (ch.filter (fun c => r.SNS_SDIc_CFG_PHASE c == p)).length != 1)
          || ch.length != 3))
    ++ forEach ((List.range 32).filter r.SNS_SDIc_CFG_EN) (fun c =>
      broken [Reg.SNS_SDIc_CFG c, Reg.SNS_SDIc_SCALE c] (decide (r.SNS_SDIc_SCALE c = 0)))

def rule3204 : Rule := fun r =>
  forEach r.mains (fun n => forEach (r.phaseChs n) (fun c =>
    broken [Reg.SNS_SDIc_FAST_LIM c, Reg.AXn_I_MAX n] (decide (r.SNS_SDIc_FAST_LIM c < 11 / 10 * r.AXn_I_MAX n))
      ++ broken [Reg.SNS_SDIc_FAST_LIM c, Reg.SNS_SDIc_SCALE c] (decide (r.SNS_SDIc_FAST_LIM c > 19 / 20 * r.SNS_SDIc_SCALE c))))

def rule3205 : Rule := fun r =>
  forEach r.mains (fun n => broken [Reg.SNS_AXn_XCHK_I n] (decide (r.SNS_AXn_XCHK_I n = 0)))

def rule3206 : Rule := fun r =>
  forEach r.mains (fun n =>
    broken [Reg.SNS_AXn_VIN n, Reg.SNS_AINc_CFG (r.SNS_AXn_VIN_VDC n)] (r.SNS_AINc_CFG_KIND (r.SNS_AXn_VIN_VDC n) != 1)
      ++ (if r.SNS_AXn_VIN_VT_EN n then
        forEach [r.SNS_AXn_VIN_VT_U n, r.SNS_AXn_VIN_VT_V n, r.SNS_AXn_VIN_VT_W n] (fun c =>
          broken [Reg.SNS_AXn_VIN n, Reg.SNS_AINc_CFG c]
            (!(r.SNS_AINc_CFG_KIND c == 2 && r.SNS_AINc_CFG_CLASS c == 2 && r.SNS_AINc_CFG_AXIS c == n)))
        else []))

def rule3207 : Rule := fun r =>
  forEach [0, 16] (fun b =>
    let ch := ((List.range 16).map (b + ·)).filter (fun c => r.SNS_AINc_CFG_CLASS c == 2)
    let load : Rat := ch.foldl (fun x c =>
      let p := r.SNS_AXn_VT_PER (r.SNS_AINc_CFG_AXIS c)
      x + (if p ≤ 0 then 1 else mkRat 625 1000000000 / p)) 0
    broken (ch.map Reg.SNS_AINc_CFG ++ ch.map (fun c => Reg.SNS_AXn_VT_PER (r.SNS_AINc_CFG_AXIS c))) (decide (load > 1 / 2)))

def rule3208 : Rule := fun r =>
  forEach (List.range 6) (fun e =>
    broken [Reg.SNS_ENCe_CFG e, Reg.SNS_ENCe_LINES e] (r.SNS_ENCe_CFG_TYPE e == 1 && r.SNS_ENCe_LINES e == 0)
      ++ broken [Reg.SNS_ENCe_CFG e] (r.SNS_ENCe_CFG_TYPE e == 2
        && (decide (r.SNS_ENCe_CFG_BITS e < r.SNS_ENCe_CFG_ST_BITS e) || r.SNS_ENCe_CFG_ST_BITS e == 0)))

def rule3209 : Rule := fun r =>
  forEach r.mains (fun n =>
    let dt := if r.GD_AXn_DT_RISE n < r.GD_AXn_DT_FALL n then r.GD_AXn_DT_FALL n else r.GD_AXn_DT_RISE n
    broken [Reg.GD_AXn_DT_RISE n, Reg.GD_AXn_DT_FALL n, Reg.SNS_DCSn_TSET n, Reg.AXn_FOC_CFG n, Reg.AXn_PWM_F n]
      (decide (r.AXn_PWM_F n > 0) && decide (dt + r.SNS_DCSn_TSET n + mkRat 50 1000000000 > 1 / 4 * r.tuOf n)))

/-! ## Field control (R237), for every allocated main axis -/

def rule3301 : Rule := fun r =>
  forEach r.mains (fun n =>
    let ld := r.AXn_MOT_LD n
    let lq := r.AXn_MOT_LQ n
    broken [Reg.AXn_FOC_CFG n] (r.AXn_FOC_CFG_POLES n == 0)
      ++ broken [Reg.AXn_MOT_RS n] (decide (r.AXn_MOT_RS n ≤ 0)) ++ broken [Reg.AXn_MOT_LD n] (decide (ld ≤ 0))
      ++ broken [Reg.AXn_MOT_LQ n] (decide (lq ≤ 0)) ++ broken [Reg.AXn_MOT_PSI n] (decide (r.AXn_MOT_PSI n ≤ 0))
      ++ broken [Reg.AXn_MOT_LD n, Reg.AXn_MOT_LQ n] (decide (0 < ld) && (decide (lq < ld / 2) || decide (lq > 4 * ld))))

def rule3302 : Rule := fun r =>
  forEach r.mains (fun n =>
    let f := r.AXn_PWM_F n
    broken [Reg.AXn_PWM_F n] (decide (f < 1000) || decide (40000 < f) || qPeriod f % 8 != 0))

def rule3303 : Rule := fun r =>
  forEach r.mains (fun n =>
    let ld := r.AXn_MOT_LD n
    let lq := r.AXn_MOT_LQ n
    let t2 := 2 * r.tuOf n
    forEach [Reg.AXn_CL_KP_D n, Reg.AXn_CL_KI_D n, Reg.AXn_CL_KP_Q n, Reg.AXn_CL_KI_Q n]
        (fun a => broken [a] (decide (f32ToRat (r.get a) = 0)))
      ++ broken [Reg.AXn_CL_KP_D n, Reg.AXn_MOT_LD n, Reg.AXn_FOC_CFG n, Reg.AXn_PWM_F n]
        (decide (0 < ld) && decide (r.AXn_CL_KP_D n * t2 / ld > 1 / 2))
      ++ broken [Reg.AXn_CL_KP_Q n, Reg.AXn_MOT_LQ n, Reg.AXn_FOC_CFG n, Reg.AXn_PWM_F n]
        (decide (0 < lq) && decide (r.AXn_CL_KP_Q n * t2 / lq > 1 / 2)))

def rule3304 : Rule := fun r =>
  forEach r.mains (fun n =>
    let d := r.AXn_MTPA_ID_k n
    let q := r.AXn_MTPA_IQ_k n
    broken [Reg.AXn_MTPA_TMAX n] (decide (r.AXn_MTPA_TMAX n ≤ 0))
      ++ broken [Reg.AXn_MTPA_ID_k n 0] (decide (d 0 ≠ 0)) ++ broken [Reg.AXn_MTPA_IQ_k n 0] (decide (q 0 ≠ 0))
      ++ forEach (List.range 33) (fun k => broken [Reg.AXn_MTPA_ID_k n k] (decide (d k > 0)))
      ++ forEach (List.range 32) (fun k =>
        broken [Reg.AXn_MTPA_IQ_k n k, Reg.AXn_MTPA_IQ_k n (k + 1)] (decide (q (k + 1) ≤ q k)))
      ++ broken [Reg.AXn_MTPA_ID_k n 32, Reg.AXn_MTPA_IQ_k n 32, Reg.AXn_I_MAX n]
        (decide (d 32 * d 32 + q 32 * q 32 > r.AXn_I_MAX n * r.AXn_I_MAX n)))

def rule3305 : Rule := fun r =>
  forEach r.mains (fun n =>
    broken [Reg.AXn_FW_IDMAX n, Reg.AXn_I_MAX n] (decide (r.AXn_FW_IDMAX n > r.AXn_I_MAX n))
      ++ broken [Reg.AXn_FW_IDMAX n, Reg.AXn_MTPA_ID_k n 32] (decide (r.AXn_FW_IDMAX n < absR (r.AXn_MTPA_ID_k n 32))))

def rule3306 : Rule := fun r =>
  forEach r.mains (fun n =>
    (if r.SNS_AXn_ENC_EN n then []
     else forEach [Reg.AXn_OBS_NMIN n, Reg.AXn_IF_I n, Reg.AXn_IF_ACC n] (fun a =>
       broken [a, Reg.SNS_AXn_ENC n] (decide (f32ToRat (r.get a) = 0))))
      ++ broken [Reg.AXn_IF_I n, Reg.AXn_I_MAX n] (decide (r.AXn_IF_I n > r.AXn_I_MAX n))
      ++ broken [Reg.AXn_CATCH_IMAX n, Reg.AXn_I_MAX n] (decide (r.AXn_CATCH_IMAX n > r.AXn_I_MAX n)))

def rule3307 : Rule := fun r => forEach r.mains (fun n => broken [Reg.AXn_INERTIA n] (decide (r.AXn_INERTIA n ≤ 0)))

def rule3308 : Rule := fun r =>
  forEach r.mains (fun n => broken [Reg.AXn_CATCH_IMAX n, Reg.SNS_AXn_VIN n]
    (!r.SNS_AXn_VIN_VT_EN n && decide (r.AXn_CATCH_IMAX n = 0)))

/-! ## Commands and loops (R255), for every allocated main axis -/

def rule3401 : Rule := fun r =>
  forEach r.mains (fun n => forEach [Reg.AXn_ACC n, Reg.AXn_DEC n, Reg.AXn_SPD_MAX n] (fun a =>
    broken [a] (decide (f32ToRat (r.get a) = 0))))

def rule3402 : Rule := fun r =>
  forEach r.mains (fun n =>
    let kp := r.AXn_SPD_KP n
    let j := r.AXn_INERTIA n
    broken [Reg.AXn_SPD_KP n] (decide (kp = 0))
      ++ broken [Reg.AXn_SPD_KP n, Reg.AXn_INERTIA n, Reg.DEV_CFG]
        (decide (0 < j) && decide (kp * 60 / (2 * Config.pi * j) * r.tickS > 1 / 5)))

def rule3403 : Rule := fun r =>
  forEach (r.mains.filter r.AXn_CRV_CFG_EN) (fun n =>
    let y := r.AXn_CRV_Y_k n
    let top := if r.AXn_CRV_CFG_MODE n then r.AXn_MTPA_TMAX n else r.AXn_SPD_MAX n
    let topAt := if r.AXn_CRV_CFG_MODE n then Reg.AXn_MTPA_TMAX n else Reg.AXn_SPD_MAX n
    broken [Reg.AXn_CRV_CFG n, Reg.SNS_AINc_CFG (r.AXn_CRV_CFG_AIN n)] (r.SNS_AINc_CFG_KIND (r.AXn_CRV_CFG_AIN n) != 4)
      ++ broken [Reg.AXn_CRV_ON n, Reg.AXn_CRV_OFF n] (decide (r.AXn_CRV_ON n ≤ r.AXn_CRV_OFF n))
      ++ broken [Reg.AXn_CRV_Y_k n 16] (decide (y 16 ≠ 0))
      ++ forEach (List.range 32) (fun k => broken [Reg.AXn_CRV_Y_k n k, Reg.AXn_CRV_Y_k n (k + 1)] (decide (y (k + 1) < y k)))
      ++ forEach (List.range 33) (fun k =>
        broken [Reg.AXn_CRV_CFG n, Reg.AXn_CRV_Y_k n k, topAt] (decide (absR (y k) > top))))

def rule3404 : Rule := fun r =>
  forEach (r.mains.filter (fun n => r.AXn_CMD_CFG_CAN n != 0)) (fun n =>
    let k := r.AXn_CMD_CFG_CAN n - 1
    let b := if k < 2 then r.CANn_CFG_BIND k else 0
    broken (Reg.AXn_CMD_CFG n :: (if k < 2 then [Reg.CANn_CFG k] else [])) (b == 0 || b == 3))

def rule3405 : Rule := fun r =>
  forEach r.mains (fun n =>
    (if r.AXn_WN_CFG_LC_EN n then
       broken [Reg.AXn_WN_CFG n, Reg.SNS_AINc_CFG (r.AXn_WN_CFG_LC_AIN n)] (r.SNS_AINc_CFG_KIND (r.AXn_WN_CFG_LC_AIN n) != 5)
     else [])
      ++ (if r.AXn_WN_CFG_RND_EN n then
        broken [Reg.AXn_WN_CFG n, Reg.AXn_WN_G n] (decide (r.AXn_WN_G n = 0))
          ++ broken [Reg.AXn_WN_CFG n, Reg.AXn_WN_R n] (decide (r.AXn_WN_R n = 0))
          ++ broken [Reg.AXn_WN_CFG n, Reg.AXn_WN_RND_HYST n, Reg.AXn_WN_RND_F n]
            (decide (r.AXn_WN_RND_F n ≤ r.AXn_WN_RND_HYST n))
        else []))

def rule3406 : Rule := fun r =>
  forEach r.mains (fun n =>
    broken [Reg.AXn_TQ_POS n, Reg.AXn_MTPA_TMAX n] (decide (r.AXn_TQ_POS n > r.AXn_MTPA_TMAX n))
      ++ broken [Reg.AXn_TQ_NEG n, Reg.AXn_MTPA_TMAX n] (decide (r.AXn_TQ_NEG n > r.AXn_MTPA_TMAX n)))

/-! ## Shock and stopping (R274), for every allocated main axis -/

def rule3501 : Rule := fun r =>
  forEach r.mains (fun n =>
    let steps := [Reg.AXn_VDC_CRIT_LO n, Reg.AXn_VDC_MOT_END n, Reg.AXn_VDC_MOT_LO n, Reg.AXn_VDC_REG n, Reg.AXn_VDC_REG_END n,
      Reg.AXn_VDC_OV n]
    (steps.zip (steps.drop 1)).flatMap (fun p => broken [p.1, p.2] (decide (f32ToRat (r.get p.2) ≤ f32ToRat (r.get p.1))))
      ++ forEach (r.chops.filter (fun k => r.GD_CHPn_MAP_AIN k == r.SNS_AXn_VIN_VDC n)) (fun k =>
        broken [Reg.GD_CHPn_ON k, Reg.AXn_VDC_REG n] (decide (r.AXn_VDC_REG n ≤ r.GD_CHPn_ON k))))

def rule3502 : Rule := fun r =>
  forEach r.mains (fun n => broken [Reg.AXn_VDC_OV n, Reg.GD_HB_MODE]
    (!r.linkHb (r.GD_AXn_MAP_HB_U n) && decide (r.AXn_VDC_OV n > 105)))

def rule3503 : Rule := fun r =>
  forEach r.mains (fun n =>
    broken [Reg.AXn_TH_ICONT n] (decide (r.AXn_TH_ICONT n ≤ 0))
      ++ broken [Reg.AXn_TH_ICONT n, Reg.AXn_I_MAX n] (decide (r.AXn_TH_ICONT n > r.AXn_I_MAX n))
      ++ broken [Reg.AXn_TH_TAU n] (decide (r.AXn_TH_TAU n = 0))
      ++ (if r.AXn_TH_CFG_TW_EN n then
        broken [Reg.AXn_TH_CFG n, Reg.SNS_AINc_CFG (r.AXn_TH_CFG_TW_AIN n)] (r.SNS_AINc_CFG_KIND (r.AXn_TH_CFG_TW_AIN n) != 3)
          ++ broken [Reg.AXn_TH_CFG n, Reg.AXn_TH_TREF n, Reg.AXn_TH_TWMAX n, Reg.AXn_TH_TTRIP n]
            (!(decide (r.AXn_TH_TREF n < r.AXn_TH_TWMAX n) && decide (r.AXn_TH_TWMAX n ≤ r.AXn_TH_TTRIP n)))
        else []))

def rule3504 : Rule := fun r =>
  forEach r.mains (fun n => broken [Reg.AXn_FLT_REACT n]
    ((List.range 7).any (fun k => decide (1 < fld (r.get (Reg.AXn_FLT_REACT n)) (2 * k) 2)) || r.AXn_FLT_REACT_TEMP n == 3))

def rule3505 : Rule := fun r =>
  forEach (r.mains.filter (fun n => decide (r.AXn_TD_K n > 0))) (fun n =>
    broken [Reg.AXn_TD_K n, Reg.AXn_TD_F n, Reg.DEV_CFG] (decide (r.AXn_TD_F n = 0) || decide (r.AXn_TD_F n * 8 * r.tickS > 1)))

def rule3506 : Rule := fun r =>
  forEach (r.mains.filter r.AXn_ICE_CFG_EN) (fun n =>
    broken [Reg.AXn_ICE_CFG n, Reg.AXn_ICE_NSTALL n] (decide (r.AXn_ICE_NSTALL n = 0))
      ++ broken [Reg.AXn_ICE_CFG n, Reg.AXn_ICE_KP n] (decide (r.AXn_ICE_KP n = 0))
      ++ broken [Reg.AXn_ICE_CFG n] (r.AXn_ICE_CFG_RETRY_MAX n == 0)
      ++ broken [Reg.AXn_ICE_CFG n, Reg.AXn_ICE_BACK_N n, Reg.AXn_SPD_MAX n] (decide (r.AXn_ICE_BACK_N n > r.AXn_SPD_MAX n)))

def rule3507 : Rule := fun r =>
  forEach r.mains (fun n =>
    broken [Reg.AXn_STOP_DEC n] (decide (r.AXn_STOP_DEC n = 0)) ++ broken [Reg.AXn_CRASH_ACC n] (decide (r.AXn_CRASH_ACC n = 0))
      ++ broken [Reg.AXn_CRASH_SPD n, Reg.AXn_SPD_MAX n] (decide (absR (r.AXn_CRASH_SPD n) > r.AXn_SPD_MAX n)))

def rule3508 : Rule := fun r =>
  forEach (r.mains.filter (fun n => r.AXn_IMP_CFG n != 0)) (fun n =>
    broken [Reg.AXn_IMP_CFG n, Reg.AXn_IMP_DT n] (decide (r.AXn_IMP_DT n = 0))
      ++ broken [Reg.AXn_IMP_CFG n, Reg.AXn_IMP_WIN n, Reg.DEV_CFG] (decide (r.AXn_IMP_WIN n < 2 * r.tickS)))

/-! ## Load sharing (R295, R558) -/

/-- The groups in use: those with members. -/
def Regs.groupsOn (r : Regs) : List Nat := (List.range 16).filter (fun g => r.FAB_SHRg_CFG_NMEM g != 0)

/-- The axes of a group on this device. -/
def Regs.groupAxes (r : Regs) (g : Nat) : List Nat := r.mains.filter (fun n => r.AXn_SHR_CFG n == g)

def rule3601 : Rule := fun r =>
  (if r.addrZero then
     forEach (List.range 16) (fun g =>
       let own := (r.shareSlots g).filter (fun k => r.FAB_SHRg_MEMs_DEV g k == 0)
       let ax (k : Nat) : Nat := r.FAB_SHRg_MEMs_AXIS g k
       forEach (own.filter (fun k => decide (ax k < 6))) (fun k =>
           broken [Reg.FAB_SHRg_MEMs g k, Reg.AXn_SHR_CFG (ax k)] (r.AXn_SHR_CFG (ax k) != g))
         ++ forEach (r.groupAxes g) (fun n =>
           broken (Reg.AXn_SHR_CFG n :: Reg.FAB_SHRg_CFG g :: (r.shareSlots g).map (Reg.FAB_SHRg_MEMs g))
             (!own.any (fun k => ax k == n))))
   else [])
    ++ forEach (List.range 16) (fun g => (pairsOf (r.shareSlots g)).flatMap (fun p =>
      broken [Reg.FAB_SHRg_MEMs g p.1, Reg.FAB_SHRg_MEMs g p.2]
        (r.FAB_SHRg_MEMs_DEV g p.1 == r.FAB_SHRg_MEMs_DEV g p.2 && r.FAB_SHRg_MEMs_AXIS g p.1 == r.FAB_SHRg_MEMs_AXIS g p.2)))

def rule3602 : Rule := fun r =>
  forEach r.groupsOn (fun g => broken [Reg.FAB_SHRg_CFG g]
    (r.FAB_SHRg_CFG_QUORUM g == 0 || decide (r.FAB_SHRg_CFG_NMEM g < r.FAB_SHRg_CFG_QUORUM g)))

def rule3603 : Rule := fun r =>
  forEach r.groupsOn (fun g => broken (Reg.FAB_SHRg_CFG g :: (r.shareSlots g).map (Reg.FAB_SHRg_MEMs g))
    ((r.shareSlots g).all (fun k => r.FAB_SHRg_MEMs_PRIO g k == 0)))

def rule3604 : Rule := fun r =>
  forEach (List.range 16) (fun g =>
    forEach (r.groupAxes g) (fun n => broken [Reg.AXn_SHR_CFG n, Reg.FAB_SHRg_CFG g]
        (r.FAB_SHRg_CFG_MODE g == 0 || r.FAB_SHRg_CFG_NMEM g == 0))
      ++ forEach ((List.range 32).filter (fun k => decide (r.FAB_SHRg_CFG_NMEM g ≤ k))) (fun k =>
        broken [Reg.FAB_SHRg_CFG g, Reg.FAB_SHRg_MEMs g k] (r.get (Reg.FAB_SHRg_MEMs g k) != 0)))

def rule3605 : Rule := fun r =>
  forEach (List.range 16) (fun g => forEach (r.groupAxes g) (fun n =>
    broken [Reg.AXn_SHR_CFG n, Reg.AXn_SHR_DROOP n, Reg.FAB_SHRg_CFG g]
      (decide (r.FAB_SHRg_CFG_MODE g = 3) == decide (r.AXn_SHR_DROOP n = 0))))

/-! ## Auxiliary axes (R318), for every allocated auxiliary axis -/

def rule3701 : Rule := fun r =>
  forEach r.auxes (fun n =>
    forEach [Reg.AUXn_MOT_R n, Reg.AUXn_MOT_L n, Reg.AUXn_MOT_KE n] (fun a => broken [a] (decide (f32ToRat (r.get a) ≤ 0)))
      ++ broken [Reg.AUXn_CFG n]
        (decide (r.AUXn_CFG_STEPS n < 4 ∨ 1000 < r.AUXn_CFG_STEPS n) || r.AUXn_CFG_STEPS n % 4 != 0))

def rule3702 : Rule := fun r =>
  forEach r.auxes (fun n =>
    broken [Reg.AUXn_I_RUN n] (decide (r.AUXn_I_RUN n = 0))
      ++ broken [Reg.AUXn_I_HOLD n, Reg.AUXn_I_RUN n] (decide (r.AUXn_I_HOLD n > r.AUXn_I_RUN n))
      ++ broken [Reg.AUXn_I_RUN n, Reg.AUXn_RSENSE n] (decide (r.AUXn_I_RUN n * r.AUXn_RSENSE n > 9 / 10)))

/-- An auxiliary axis in link mode. -/
def Regs.auxLinkMode (r : Regs) (n : Nat) : Bool := r.linkHb (r.GD_AUXn_MAP_HB_A1 n)

def rule3703 : Rule := fun r =>
  forEach (r.auxes.filter r.auxLinkMode) (fun n =>
    broken [Reg.AUXn_STALL_CFG n, Reg.GD_HB_MODE] (r.AUXn_STALL_CFG n) ++ broken [Reg.AUXn_CFG n, Reg.GD_HB_MODE] (r.AUXn_CFG_KEEP n)
      ++ broken [Reg.AUXn_Q_KI n, Reg.GD_HB_MODE] (decide (r.AUXn_Q_KI n ≠ 0))
      ++ broken [Reg.AUXn_LIM_CFG n, Reg.AUXn_HOME_CFG n, Reg.GD_HB_MODE]
        (!(if r.AUXn_HOME_CFG n then r.AUXn_LIM_CFG_POS_EN n else r.AUXn_LIM_CFG_NEG_EN n)))

/-- The enabled limit inputs of the allocated auxiliary axes: register and GPIO. -/
def Regs.limits (r : Regs) : List (Nat × Nat) :=
  r.auxes.flatMap (fun n =>
    (if r.AUXn_LIM_CFG_NEG_EN n then [(Reg.AUXn_LIM_CFG n, r.AUXn_LIM_CFG_NEG_GPIO n)] else [])
      ++ (if r.AUXn_LIM_CFG_POS_EN n then [(Reg.AUXn_LIM_CFG n, r.AUXn_LIM_CFG_POS_GPIO n)] else []))

def rule3704 : Rule := fun r =>
  let l := r.limits
  (pairsOf (List.range l.length)).flatMap (fun p =>
    match l[p.1]?, l[p.2]? with
    | some a, some b => broken [a.1, b.1] (a.2 == b.2)
    | _, _ => [])

def rule3705 : Rule := fun r =>
  forEach r.auxes (fun n =>
    broken [Reg.AUXn_HOME_SPD n] (decide (r.AUXn_HOME_SPD n = 0))
      ++ broken [Reg.AUXn_HOME_SPD n, Reg.AUXn_SPD_MAX n] (decide (r.AUXn_HOME_SPD n > r.AUXn_SPD_MAX n))
      ++ (if r.auxLinkMode n then []
        else broken [Reg.AUXn_STALL_CFG n, Reg.GD_HB_MODE] (!r.AUXn_STALL_CFG n)
          ++ broken [Reg.AUXn_HOME_SPD n, Reg.AUXn_STALL_NMIN n, Reg.GD_HB_MODE]
            (decide (r.AUXn_HOME_SPD n / 2 < r.AUXn_STALL_NMIN n))))

def rule3706 : Rule := fun r =>
  forEach r.auxes (fun n => forEach [Reg.AUXn_ACC n, Reg.AUXn_DEC n, Reg.AUXn_STOP_DEC n, Reg.AUXn_SPD_MAX n] (fun a =>
    broken [a] (decide (f32ToRat (r.get a) = 0))))

def rule3707 : Rule := fun r =>
  forEach r.auxes (fun n => broken [Reg.AUXn_CFG n, Reg.SNS_AINc_CFG (r.AUXn_CFG_VDC n)] (r.SNS_AINc_CFG_KIND (r.AUXn_CFG_VDC n) != 1))

def rule3708 : Rule := fun r =>
  forEach r.auxes (fun n =>
    let f := r.AUXn_PWM_F n
    broken [Reg.AUXn_PWM_F n] (decide (f < 10000) || decide (40000 < f) || qPeriod f % 8 != 0))

/-! ## Safety (R362) -/

/-- The enabled connections. -/
def Regs.conns (r : Regs) : List Nat := (List.range 16).filter r.SAF_CONc_CFG_EN

/-- The selectors of a slot that are enabled: connection and bit. -/
def Regs.sels (r : Regs) (k : Nat) : List (Nat × Nat) :=
  ([r.SAF_FNk_SEL_SEL0 k, r.SAF_FNk_SEL_SEL1 k].filter (fun x => x.testBit 15)).map (fun x => (x % 16, x / 16 % 32))

def rule3801 : Rule := fun r =>
  forEach (List.range 8) (fun k =>
    let t := r.SAF_FNk_CFG_TYPE k
    broken [Reg.SAF_FNk_CFG k, Reg.SAF_FNk_T k] ((t == 2 || t == 3) && decide (r.SAF_FNk_T k = 0))
      ++ broken [Reg.SAF_FNk_CFG k, Reg.SAF_FNk_SEL k] (t != 0 && r.SAF_FNk_CFG_IN k == 0 && (r.sels k).isEmpty)
      ++ broken [Reg.SAF_FNk_CFG k, Reg.SAF_FNk_T k, Reg.SAF_FNk_LEAD k] (t == 2 && decide (r.SAF_FNk_LEAD k > r.SAF_FNk_T k)))

def rule3802 : Rule := fun r =>
  forEach (List.range 8) (fun k =>
      let m := r.SAF_INk_CFG_MODE k
      broken [Reg.SAF_INk_CFG k]
        (decide (r.SAF_INk_CFG_DISC k * 10 < r.SAF_INk_CFG_FILT k) || (r.SAF_INk_CFG_TP k && (m == 2 || m == 0))))
    ++ broken [Reg.SAF_STO_CFG] (decide (r.SAF_STO_CFG_DISC * 10 < r.SAF_STO_CFG_FILT))
    ++ forEach (List.range 8) (fun k => forEach (List.range 8) (fun p =>
      broken [Reg.SAF_FNk_CFG k, Reg.SAF_INk_CFG p] ((r.SAF_FNk_CFG_IN k).testBit p && r.SAF_INk_CFG_MODE p == 0)))

def rule3803 : Rule := fun r =>
  forEach ((List.range 8).filter (fun k => r.SAF_FNk_CFG_TYPE k == 3)) (fun k => forEach r.mains (fun n =>
    broken [Reg.SAF_FNk_CFG k, Reg.SAF_AXn_DECMON n] (decide (r.SAF_AXn_DECMON n = 0))
      ++ broken [Reg.SAF_FNk_CFG k, Reg.SAF_AXn_NSTILL n] (decide (r.SAF_AXn_NSTILL n = 0))))

def rule3804 : Rule := fun r =>
  forEach (List.range 4) (fun k => broken [Reg.SAF_SOk_CFG k]
    ((r.SAF_SOk_CFG_MODE k == 1 && r.SAF_SOk_CFG_AX k == 0 && r.SAF_SOk_CFG_AUX k == 0)
      || (r.SAF_SOk_CFG_EDM_EN k && r.SAF_SOk_CFG_MODE k == 0)))

def rule3805 : Rule := fun r =>
  forEach r.conns (fun c => broken [Reg.SAF_CONc_ID c] (r.SAF_CONc_ID c == 0)
      ++ broken [Reg.SAF_CONc_TIM c] (decide (r.SAF_CONc_TIM_WDT c * 10 < 2 * r.SAF_CONc_TIM_PER c)))
    ++ (pairsOf r.conns).flatMap (fun p =>
      broken [Reg.SAF_CONc_ID p.1, Reg.SAF_CONc_ID p.2] (r.SAF_CONc_ID p.1 == r.SAF_CONc_ID p.2))
    ++ forEach (List.range 8) (fun k => (r.sels k).flatMap (fun x =>
      broken [Reg.SAF_FNk_SEL k, Reg.SAF_CONc_CFG x.1] (!r.SAF_CONc_CFG_EN x.1 || r.SAF_CONc_CFG_DIR x.1 || x.2 == 31)))

def rule3806 : Rule := fun r =>
  forEach r.conns (fun c =>
    match r.SAF_CONc_CFG_CH c with
    | 0 => []
    | 1 =>
      let f := if (r.SAF_CONc_ADDR c).testBit 0 then r.CP_CFG_FORM_B else r.CP_CFG_FORM_A
      broken [Reg.SAF_CONc_CFG c, Reg.SAF_CONc_ADDR c, Reg.CP_CFG] (f == 0)
    | ch => broken [Reg.SAF_CONc_CFG c, Reg.CANn_CFG (ch - 2)] (r.SAF_CONc_CFG_DIR c && r.CANn_CFG_BIND (ch - 2) == 3))

/-! ## Fabric (R393) and control ports (R422) -/

def rule3901 : Rule := fun r =>
  if r.FAB_CFG_LINK_EN ≠ 0 then []
  else broken [Reg.FAB_CFG] r.FAB_CFG_ROOT ++ broken [Reg.DEV_MODE_CFG, Reg.FAB_CFG] r.DEV_MODE_CFG_FAB_LOSS
    ++ forEach r.conns (fun c => broken [Reg.SAF_CONc_CFG c, Reg.FAB_CFG] (r.SAF_CONc_CFG_CH c == 0))
    ++ forEach (List.range 16) (fun g => forEach (r.shareSlots g) (fun k =>
      broken [Reg.FAB_SHRg_MEMs g k, Reg.FAB_CFG] (r.FAB_SHRg_MEMs_DEV g k != 0)))

def rule3902 : Rule := fun r => broken [Reg.FAB_REC_SEL] (r.FAB_REC_SEL.testBit 7)

def rule3A01 : Rule := fun r => broken [Reg.CP_LEASE, Reg.DEV_CFG] (decide (r.CP_LEASE < 4 * r.tickS))

def rule3A02 : Rule := fun r => broken [Reg.CP_TOK_WIN, Reg.CP_LEASE] (decide (r.CP_TOK_WIN > r.CP_LEASE / 4))

def rule3A03 : Rule := fun r =>
  if r.CP_CFG_IRQ_EN then
    broken [Reg.CP_CFG] (r.CP_CFG_FORM_A != 2 && r.CP_CFG_FORM_B != 2)
      ++ r.limits.flatMap (fun l => broken [Reg.CP_CFG, l.1] (l.2 == r.CP_CFG_IRQ_GPIO))
  else []

/-! ## CAN (R446) -/

/-- The candidates of bit timing that a controller uses. -/
def Regs.candidates (r : Regs) (n : Nat) : List Nat :=
  if r.CANn_CFG_ABD n then List.range (min 4 (r.CANn_CFG_ABD_N n)) else [0]

/-- The controllers that start. -/
def Regs.cans (r : Regs) : List Nat := (List.range 2).filter (fun n => r.CANn_CFG_BIND n != 0)

def rule3B01 : Rule := fun r =>
  forEach r.cans (fun n => forEach (r.candidates n) (fun k =>
    let bits1 := r.CANn_NBT_k_TSEG1 n k + r.CANn_NBT_k_TSEG2 n k + 3
    let tq1 := (r.CANn_NBT_k_BRP n k + 1) * bits1
    let tq2 := (r.CANn_DBT_k_BRP n k + 1) * (r.CANn_DBT_k_TSEG1 n k + r.CANn_DBT_k_TSEG2 n k + 3)
    broken [Reg.CANn_NBT_k n k] (r.CANn_NBT_k_TSEG1 n k == 0 || decide (r.CANn_NBT_k_TSEG2 n k < r.CANn_NBT_k_SJW n k)
        || decide (tq1 < 500) || decide (50000 < tq1))
      ++ (if r.CANn_CFG_FD_EN n then
        broken [Reg.CANn_DBT_k n k] (decide (r.CANn_DBT_k_TSEG2 n k < r.CANn_DBT_k_SJW n k) || decide (tq2 < 100))
          ++ broken [Reg.CANn_NBT_k n k, Reg.CANn_DBT_k n k] (decide (tq1 < tq2))
        else [])))

def rule3B02 : Rule := fun r =>
  forEach (r.cans.filter (fun n => !r.CANn_CFG_FD_EN n)) (fun n =>
    broken [Reg.CANn_CFG n] (!r.CANn_CFG_PROFILE n || r.CANn_CFG_BRS n)
      ++ forEach (r.conns.filter (fun c => r.SAF_CONc_CFG_CH c == n + 2)) (fun c =>
        broken [Reg.SAF_CONc_CFG c, Reg.CANn_CFG n] true))

def rule3B03 : Rule := fun r =>
  forEach (List.range 2) (fun n => forEach ((List.range 8).filter (r.CANn_TXPk_CFG_EN n)) (fun k =>
    let a := r.CANn_TXPk_CFG_AXIS n k
    broken [Reg.CANn_CFG n, Reg.CANn_TXPk_CFG n k] (r.CANn_CFG_BIND n == 0 || r.CANn_CFG_BIND n == 3)
      ++ (if a < 6 then broken [Reg.AXn_CMD_CFG a, Reg.CANn_TXPk_CFG n k] (r.AXn_CMD_CFG_CAN a != n + 1)
        else broken [Reg.CANn_TXPk_CFG n k] true)))

def rule3B04 : Rule := fun r =>
  forEach (List.range 2) (fun n =>
    forEach (List.range (min 64 (r.CANn_FLT_CNT n))) (fun f =>
        broken [Reg.CANn_FLTf_ID n f] (!r.CANn_FLTf_ID_IDE n f && decide (0x7FF < r.CANn_FLTf_ID_ID n f)))
      ++ forEach ((List.range 8).filter (r.CANn_TXPk_CFG_EN n)) (fun k =>
        broken [Reg.CANn_TXPk_ID n k] (!r.CANn_TXPk_ID_IDE n k && decide (0x7FF < r.CANn_TXPk_ID_ID n k))))
    ++ forEach (r.conns.filter (fun c => decide (2 ≤ r.SAF_CONc_CFG_CH c))) (fun c =>
      broken [Reg.SAF_CONc_CFG c, Reg.SAF_CONc_ADDR c] (!r.SAF_CONc_CFG_IDE c && decide (0x7FF < r.SAF_CONc_ADDR c)))

def rule3B05 : Rule := fun r =>
  forEach ((List.range 2).filter r.CANn_CFG_PROFILE) (fun n =>
    if r.mains.any (fun a => r.AXn_CMD_CFG_CAN a == n + 1) then
      broken [Reg.CANn_CFG n, Reg.CANn_HP_VZ n] (decide (r.CANn_HP_VZ n = 0))
        ++ broken [Reg.CANn_CFG n, Reg.CANn_HP_AZ n] (decide (r.CANn_HP_AZ n = 0))
    else [])

def rule3B06 : Rule := fun r =>
  forEach (List.range 2) (fun n => broken [Reg.CANn_CFG n] (r.CANn_CFG_ABD n && r.CANn_CFG_ABD_N n == 0))

/-! ## Siphon (R470) -/

def rule3C01 : Rule := fun r =>
  forEach r.ringsOn (fun k => broken (ringWords k)
    (decide (r.ringLo k < 0x1000000 ∨ 0x1370000 < r.ringHi k) || r.ringLo k % 2 ^ r.RNG_r_CFG_LOG2 k != 0))

def rule3C02 : Rule := fun r =>
  forEach r.ringsOn (fun k =>
    broken [Reg.RNG_r_LO k, Reg.RNG_r_HI k] (decide (r.RNG_r_HI k ≤ r.RNG_r_LO k))
      ++ broken [Reg.RNG_r_HI k, Reg.RNG_r_CFG k] (decide (2 ^ r.RNG_r_CFG_LOG2 k < r.RNG_r_HI k)))

def rule3C03 : Rule := fun r =>
  forEach (List.range 32) (fun c => broken [Reg.SIP_CHc_CFG c]
    ((decide (c < 16) && r.SIP_CHc_CFG_OWNER c != 0)
      || (decide (63 < r.SIP_CHc_CFG_OWNER_DEV c) && r.SIP_CHc_CFG_OWNER_DEV c != 0x40)
      || (r.SIP_CHc_CFG_TRIG_EN c && r.SIP_CHc_CFG_OWNER c == 0)))

def rule3C04 : Rule := fun r =>
  (pairsOf (List.range 16)).flatMap (fun p =>
      broken [Reg.SIP_CHc_RMASK p.1, Reg.SIP_CHc_RMASK p.2] (r.SIP_CHc_RMASK p.1 &&& r.SIP_CHc_RMASK p.2 != 0))
    ++ forEach (List.range 16) (fun c =>
      let m := r.SIP_CHc_RMASK c
      let d := r.SIP_CHc_DEST c
      forEach ((List.range 32).filter (bit m)) (fun k =>
          broken [Reg.SIP_CHc_RMASK c, Reg.RNG_r_CFG k] (!r.RNG_r_CFG_EN k))
        ++ broken [Reg.SIP_CHc_RMASK c, Reg.SIP_CHc_DEST c]
          ((m != 0 && d == 0) || (decide (0x20 + 27 ≤ d ∧ d ≤ 0x20 + 31) && bit m (d - 0x20))))

def rule3C05 : Rule := fun r =>
  forEach (List.range 32) (fun k => broken [Reg.RNG_r_CFG k] (r.RNG_r_CFG_TAP_CH k != 0 && decide (r.RNG_r_CFG_TAP_CH k < 16)))
    ++ forEach ((List.range 32).filter r.SIP_CHc_CFG_TRIG_EN) (fun c =>
      broken [Reg.SIP_CHc_CFG c, Reg.RNG_r_CFG (r.SIP_CHc_CFG_TRIG_RING c)] (!r.RNG_r_CFG_EN (r.SIP_CHc_CFG_TRIG_RING c)))

/-! ## Recorder (R493) -/

/-- Blocks of the flash. -/
def Regs.flashBlocks (r : Regs) : Nat := (r.CAR_CFG_TARGETS + 1) * r.CAR_GEOM_BLOCKS

def rule3D01 : Rule := fun r =>
  if r.CAR_CFG_EN then
    broken [Reg.CAR_GEOM] (decide (r.CAR_GEOM_PAGE_LOG2 < 11 ∨ 14 < r.CAR_GEOM_PAGE_LOG2)
        || decide (r.CAR_GEOM_PPB_LOG2 < 5 ∨ 9 < r.CAR_GEOM_PPB_LOG2))
      ++ broken [Reg.CAR_CFG, Reg.CAR_GEOM] (decide (16320 < r.flashBlocks))
      ++ broken [Reg.CAR_GEOM, Reg.CAR_SPARE] (decide (r.CAR_SPARE < 24 + 70 * (2 ^ r.CAR_GEOM_PAGE_LOG2 / 1024)))
  else []

def rule3D02 : Rule := fun r =>
  let total := r.flashBlocks
  if r.CAR_CFG_EN then
    broken [Reg.CAR_CFG, Reg.CAR_GEOM, Reg.CAR_AREA, Reg.CAR_RING_MIN, Reg.CAR_ECC_THR]
      (decide (total < r.CAR_AREA_META_BLK + 4 * r.CAR_AREA_DUMP_BLK + 16 * r.CAR_AREA_EVT_MAXBLK + r.CAR_RING_MIN
        + (r.CAR_ECC_THR_BAD_PCT * total + 99) / 100))
  else []

def rule3D03 : Rule := fun r =>
  forEach (List.range 16) (fun c =>
      let d := r.SIP_CHc_DEST c
      if 0x10 ≤ d ∧ d ≤ 0x13 then broken [Reg.SIP_CHc_DEST c, Reg.CAR_STRs_CFG (d - 0x10)] (!r.CAR_STRs_CFG (d - 0x10)) else [])
    ++ forEach (List.range 4) (fun k => broken [Reg.CAR_CFG, Reg.CAR_STRs_CFG k] (!r.CAR_CFG_EN && r.CAR_STRs_CFG k))

def rule3D04 : Rule := fun r =>
  forEach (List.range 8) (fun k => broken [Reg.CAR_TRGk k]
    (r.CAR_TRGk_EN k && decide (r.CAR_TRGk_TYPE k < 1 ∨ 13 < r.CAR_TRGk_TYPE k)))

def rule3D05 : Rule := fun r =>
  if r.CAR_CFG_EN then
    broken [Reg.CAR_GEOM, Reg.CAR_AREA]
      (decide (r.CAR_AREA_DUMP_BLK * 2 ^ (r.CAR_GEOM_PAGE_LOG2 + r.CAR_GEOM_PPB_LOG2) < 4718592))
  else []

/-! ## Freeze (R512) -/

def rule3E01 : Rule := fun r =>
  broken [Reg.FAB_CFG, Reg.FRZ_CFG] ((r.FRZ_CFG_PIN_SCOPE || r.FRZ_CFG_FAB_ORIG) && r.FAB_CFG_LINK_EN == 0)
    ++ broken [Reg.FRZ_CFG] ((r.FRZ_CFG_PIN_SCOPE && !r.FRZ_CFG_FAB_ORIG) || r.FRZ_CFG_DUMP_MODE == 3)

def rule3E02 : Rule := fun r =>
  broken [Reg.FRZ_SAFE] ((List.range 6).any (fun n => r.FRZ_SAFE.testBit n && !r.GD_AXn_MAP_EN n))

def rule3E03 : Rule := fun r =>
  broken [Reg.CAR_CFG, Reg.FRZ_CFG] (r.FRZ_CFG_DUMP_MODE != 0 && !r.CAR_CFG_EN)

/-! ## The order of the rules (R94) -/

/-- The consistency rules up to the signature. -/
def rulesA : List (Nat × Rule) :=
  [(0x0201, rule0201), (0x0202, rule0202), (0x0204, rule0204), (0x0205, rule0205), (0x0206, rule0206), (0x0207, rule0207),
   (0x0208, rule0208)]

def rulesB : List (Nat × Rule) :=
  [(0x020B, rule020B), (0x020C, rule020C), (0x020D, rule020D), (0x020E, rule020E), (0x020F, rule020F),
   (0x3101, rule3101), (0x3102, rule3102), (0x3103, rule3103), (0x3104, rule3104), (0x3105, rule3105),
   (0x3201, rule3201), (0x3202, rule3202), (0x3203, rule3203), (0x3204, rule3204), (0x3205, rule3205), (0x3206, rule3206),
   (0x3207, rule3207), (0x3208, rule3208), (0x3209, rule3209)]

def rulesC : List (Nat × Rule) :=
  [(0x3301, rule3301), (0x3302, rule3302), (0x3303, rule3303), (0x3304, rule3304), (0x3305, rule3305), (0x3306, rule3306),
   (0x3307, rule3307), (0x3308, rule3308), (0x3401, rule3401), (0x3402, rule3402), (0x3403, rule3403), (0x3404, rule3404),
   (0x3405, rule3405), (0x3406, rule3406), (0x3501, rule3501), (0x3502, rule3502), (0x3503, rule3503), (0x3504, rule3504),
   (0x3505, rule3505), (0x3506, rule3506), (0x3507, rule3507), (0x3508, rule3508)]

def rulesD : List (Nat × Rule) :=
  [(0x3601, rule3601), (0x3602, rule3602), (0x3603, rule3603), (0x3604, rule3604), (0x3605, rule3605), (0x3701, rule3701),
   (0x3702, rule3702), (0x3703, rule3703), (0x3704, rule3704), (0x3705, rule3705), (0x3706, rule3706), (0x3707, rule3707),
   (0x3708, rule3708), (0x3801, rule3801), (0x3802, rule3802), (0x3803, rule3803), (0x3804, rule3804), (0x3805, rule3805),
   (0x3806, rule3806)]

def rulesE : List (Nat × Rule) :=
  [(0x3901, rule3901), (0x3902, rule3902), (0x3A01, rule3A01), (0x3A02, rule3A02), (0x3A03, rule3A03), (0x3B01, rule3B01),
   (0x3B02, rule3B02), (0x3B03, rule3B03), (0x3B04, rule3B04), (0x3B05, rule3B05), (0x3B06, rule3B06), (0x3C01, rule3C01),
   (0x3C02, rule3C02), (0x3C03, rule3C03), (0x3C04, rule3C04), (0x3C05, rule3C05), (0x3D01, rule3D01), (0x3D02, rule3D02),
   (0x3D03, rule3D03), (0x3D04, rule3D04), (0x3D05, rule3D05), (0x3E01, rule3E01), (0x3E02, rule3E02), (0x3E03, rule3E03)]

/-- The lowest of some addresses. -/
def lowestOf : List Nat → Option Nat
  | [] => none
  | a :: t => match lowestOf t with | none => some a | some b => some (min a b)

/-- The first broken rule in a list: its code and every word that its broken instances rest on. -/
def firstBroken (r : Regs) : List (Nat × Rule) → Option (Nat × List Nat)
  | [] => none
  | (code, f) :: t =>
    match f r with
    | [] => firstBroken r t
    | l => some (code, l.flatten)

/-- The first rule of 0x0201 to 0x3EFF that the words break (R94, R96): its code and the words involved. `sigOk`: Cobalt's
signature is that of the image (0x020A, which names no register). -/
def Regs.firstRule (r : Regs) (sigOk : Bool) : Option (Nat × List Nat) :=
  match firstBroken r rulesA with
  | some x => some x
  | none => if !sigOk then some (0x020A, []) else firstBroken r (rulesB ++ rulesC ++ rulesD ++ rulesE)

/-- Every rule that an image or a staged set must meet holds. -/
def Regs.valid (r : Regs) : Bool := (r.firstRule true).isNone

end Sys2Proof.Machine
end

