-- ==== Sys2Proof/Machine/Read.lean ====
section
/-! DEFINITION. What a read of a register word returns (R16 to R24, R515, R516): the stored words, the words in force, and
the words of access RO computed from the state, block by block from the field maps. -/
namespace Sys2Proof.Machine

/-- A word of bits and fields: value and lowest bit. -/
def packW (l : List (Nat × Nat)) : Word := w32 (l.foldl (fun x p => x + p.1 * 2 ^ p.2) 0)

/-- The low or the high half of a 64-bit number. -/
def lo32 (n : Nat) : Word := w32 (n % 2 ^ 32)
def hi32 (n : Nat) : Word := w32 (n / 2 ^ 32)

/-- A time or a difference in ns as a binary32 number of seconds. -/
def secW (n : Int) : Word := toF32 (mkRat n 1000000000)

/-! ## DEV -/

/-- The newest entry of a ring of the keep-store (R523): the slot, and whether it passes its pair check. -/
def State.ksNewest (s : State) (base num : Nat) : Word :=
  if num = 0 then 0
  else packW [(num % 64, 0), (b2n (s.ksEntry (base + 64 * (num % 64)) 32 32).isSome, 8)]

/-- The tick number of a last-state slot that passes its pair check (R125). -/
def State.lastSlot (s : State) (b : Bool) : Option Nat :=
  (s.ksEntry (if b then 0x6000 else 0x3000) 0x1800 576).map (fun d => leAt d 8 8)

/-- The newest last-state slot: true B. -/
def State.lastNewest (s : State) : Option Bool :=
  match s.lastSlot false, s.lastSlot true with
  | some a, some b => some (decide (a < b))
  | some _, none => some false
  | none, some _ => some true
  | none, none => none

/-- The port letter of the token holder: 0 free, 1 A, 2 B. -/
def State.holderCode (s : State) : Nat :=
  match s.cp.token.holder with
  | some o => (match o.cls with | .A => 1 | .B => 2 | .M | .F => 0)
  | none => 0

/-- The load status that `DEV_LOAD_WHERE` and `DEV_LOAD_ADDR` describe, once a LOAD has ended (R556). -/
def State.loadShown (s : State) : Option LoadFail := if s.ld.ended then s.ld.fail1 else none

/-- The nine pairs of domains that a crossing joins, in the order of Table 1 of the self-timed chapter (R46). The lower index comes first:
it is domain a of a DOMAIN_SKEW record (DESIGN CHOICE, log 105). -/
def skewPairs : List (Nat × Nat) := [(0, 2), (1, 2), (2, 4), (2, 3), (3, 4), (2, 5), (5, 6), (0, 6), (1, 6)]

def State.readDev (s : State) (o : Origin) (a : Nat) : Word :=
  if 0x400 ≤ a ∧ a < 0x438 then
    let d : Fin 7 := Fin.ofNat 7 ((a - 0x400) / 8)
    toF32 (if a % 8 = 0 then s.tick.volt[d] else s.tick.temp[d])
  else match a with
  | 0x000 => 0x2464
  | 0x004 => Config.version
  | 0x008 => lo32 ownId
  | 0x00C => hi32 ownId
  | 0x010 => 1
  | 0x100 => packW [(s.mode.mode.code, 0), (s.holderCode, 4), (b2n (bit (s.saf.mirror.stat) 0), 6), (b2n (s.degr != 0), 7),
      (b2n (s.stopCause != 0), 8), (b2n s.stg.commit.isSome, 9), (b2n s.tbs.holdover, 10), (b2n s.tbs.synced, 11),
      (b2n (s.car.st == 2), 12), (b2n s.sip.halted, 13), (b2n s.fab.addr.isSome, 14)]
  | 0x104 =>
    let ax (p : AxState → Bool) : Nat := maskOf 6 (fun n => p s.ax[(Fin.ofNat 6 n : Fin 6)].state)
    let aux (p : AuxState → Bool) : Nat := maskOf 4 (fun n => p s.aux[(Fin.ofNat 4 n : Fin 4)].state)
    packW [(ax (· == .halt), 0), (aux (· == .halt), 8), (ax AxState.watched, 16), (aux AuxState.watched, 24)]
  | 0x108 => packW [(min s.sip.corr 0xFFFF, 0), (min s.sip.uncorr 0xFFFF, 16)]
  | 0x10C => w32 s.recs.violations
  | 0x180 => s.ksNewest 0x1000 s.ks.rstNum
  | 0x184 => w32 s.ks.rstNum
  | 0x188 => s.ksNewest 0x2000 s.ks.coldNum
  | 0x18C => w32 s.ks.coldNum
  | 0x190 => packW [(b2n (s.lastNewest == some true), 0), (b2n s.lastNewest.isSome, 1)]
  | 0x194 => w32 (min s.ks.pairFaults 0xFFFF)
  | 0x200 =>
    let r (f : Option LoadFail) : Nat := match f with | some x => x.code | none => 0
    let loading := s.pwr.phase == .loading
    let inForce := s.pwr.phase == .running
    packW [(if loading then 0 else r s.ld.fail1, 0), (b2n (inForce && s.ld.alt), 16), (b2n (inForce && s.ld.second), 17), (b2n loading, 18)]
  | 0x204 =>
    if s.ld.ended then
      let f := s.loadShown
      packW [(((f.bind (·.sect)).getD 0xFF), 0), (((f.bind (·.entry)).getD 0xFFFF), 8)]
    else 0
  | 0x208 => if s.ld.ended then w32 (((s.loadShown.bind (·.addr)).getD 0xFFFFFFFF)) else 0
  | 0x20C => match s.ld.fail2 with | some x => w32 x.code | none => 0
  | 0x210 => lo32 s.ld.inForceBuild
  | 0x214 => hi32 s.ld.inForceBuild
  | 0x218 => w32 s.ld.inForceLen
  | 0x21C => w32 s.pwr.lastCause
  | 0x220 => w32 s.pwr.rstDur
  | 0x240 => packW [(s.stg.bank.length, 0), (b2n s.stg.commit.isSome, 11)]
  | 0x250 => packW [(s.stg.resTag.toNat, 0), (s.stg.result, 16)]
  | 0x254 => w32 s.stg.resCode
  | 0x258 => w32 (s.stg.resAddr.getD 0xFFFFFFFF)
  | 0x25C => lo32 s.stg.resTime
  | 0x260 => hi32 s.stg.resTime
  | 0x264 => w32 (((s.stg.index.find? (fun x => x.1 == o)).map (·.2)).getD 0)
  | 0x268 =>
    match s.stg.bank[((s.stg.index.find? (fun x => x.1 == o)).map (·.2)).getD 0]? with
    | some x => w32 x.1
    | none => 0xFFFFFFFF
  | 0x26C =>
    match s.stg.bank[((s.stg.index.find? (fun x => x.1 == o)).map (·.2)).getD 0]? with
    | some x => x.2
    | none => 0
  | 0x280 => if s.mode.mode = .cold ∨ s.mode.mode = .load then 0
    else packW [(s.mode.mode.code, 0), (s.mode.prev.code, 4), (s.mode.cause, 16)]
  | 0x284 => if s.mode.mode = .cold ∨ s.mode.mode = .load then 0 else lo32 s.mode.time
  | 0x288 => if s.mode.mode = .cold ∨ s.mode.mode = .load then 0 else hi32 s.mode.time
  | 0x294 => s.mode.block.setWidth 32
  | 0x298 => w32 s.degr
  | 0x29C => w32 s.stopCause
  | 0x308 => packW ((List.finRange 8).map (fun i => (s.cmd.clearRef[(Fin.ofNat 10 i.val : Fin 10)], 4 * i.val)))
  | 0x30C => packW [(s.cmd.clearRef[(8 : Fin 10)], 0), (s.cmd.clearRef[(9 : Fin 10)], 4)]
  | 0x440 =>
    let has (v : Vector Bool 9) (d : Nat) : Bool :=
      (List.finRange 9).any (fun p => v[p] && (match skewPairs[p.val]? with | some q => q.1 == d || q.2 == d | none => false))
    packW [(maskOf 7 (has s.tick.warn), 0), (maskOf 7 (has s.tick.limit), 8)]
  | 0x444 => toF32 s.tick.last
  | 0x448 => toF32 s.tick.max
  | 0x44C => packW [(s.tick.ovrCnt, 0), (min s.tick.consec 15, 16)]
  | _ => s.regs.get a

/-! ## TB -/

/-- The selected REFCLK frequency, Hz (Table 1 of the time-base chapter); 0 where none is selected (R61). -/
def State.refHz (s : State) : Rat :=
  match s.pwr.refsel with
  | none => 0
  | some 0 => 10000000
  | some 1 => 20000000
  | some 2 => 25000000
  | some 3 => 40000000
  | some _ => 50000000

def State.readTb (s : State) (a : Nat) : Word :=
  match a with
  | 0x8000 => lo32 s.tb
  | 0x8004 => hi32 s.tb
  | 0x8008 => w32 (s.pwr.refsel.getD 0)
  | 0x800C => toF32 s.refHz
  | 0x8010 => packW [(b2n s.tbs.lock, 0), (b2n s.tbs.holdover, 1), (b2n s.regs.FAB_CFG_ROOT, 2), (b2n s.tbs.loaded, 3),
      (b2n s.tbs.synced, 4), (b2n s.estNow, 5), (s.hopsShown, 8)]
  | 0x8014 => toF32 (mkRat s.tbs.trim 100)
  | 0x8018 => secW s.tbs.offset
  | 0x8030 => s.tbs.calFail.setWidth 32
  | _ => s.regs.get a

/-! ## Main and auxiliary axes -/

/-- A sentinel word at offset `o` of its axis block (Table 6 of the self-timed chapter). -/
def State.readSnt (s : State) (a : Fin 10) (o : Nat) : Option Word :=
  let q := s.snt[a]
  match o with
  | 0x104 => some (packW [(b2n q.slack, 0), (b2n q.hold, 1), (min q.consec 15, 2), (b2n q.halved, 6), (b2n q.clearOk, 7)])
  | 0x108 => some (secW q.last)
  | 0x10C => some (match q.least with | some t => secW t | none => secW (s.intervalNs a))
  | 0x110 => some (packW [(q.slackCnt, 0), (q.lateCnt, 16)])
  | _ => none

/-- The continuous torque: the MTPA torque at `TH_ICONT` (chapter 10). -/
def Regs.tqCont (r : Regs) (n : Nat) : Rat :=
  let m (k : Nat) : Rat := hyp (r.AXn_MTPA_ID_k n k) (r.AXn_MTPA_IQ_k n k)
  let i := r.AXn_TH_ICONT n
  match (List.range 32).find? (fun k => decide (i < m (k + 1))) with
  | some k => ((k : Rat) + (i - m k) / (m (k + 1) - m k)) / 32 * r.AXn_MTPA_TMAX n
  | none => r.AXn_MTPA_TMAX n

def AngSrc.code : AngSrc → Nat
  | .none => 0
  | .encoder => 1
  | .observer => 2
  | .ifr => 3

/-- The slot of an axis in its share group. -/
def State.readShr (s : State) (n : Fin 6) (o : Nat) : Option Word :=
  let m := s.memberOf n
  match o with
  | 0xE10 =>
    match m with
    | some (g, k) =>
      let q := s.shr[g]
      let carry := match q.now with | some x => x.carry.testBit k | none => false
      some (packW [(k, 0), (1, 5), (b2n (q.leader == some k), 6), (b2n carry, 7), (b2n (q.live.getLsbD k), 8),
        (b2n (s.shareGrace g), 9), (b2n q.isolated, 10)])
    | none => some 0
  | 0xE14 =>
    match m with
    | some (g, k) => some (toF32 (match s.shr[g].now with | some x => x.vals.getD k 0 | none => 0))
    | none => some 0
  | 0xE18 =>
    match m with
    | some (g, k) => some (toF32 (s.shr[g].weight[(Fin.ofNat 32 k : Fin 32)]))
    | none => some 0
  | _ => none

def State.readAx (s : State) (n : Fin 6) (o : Nat) : Option Word :=
  let x := s.ax[n]
  let e := x.eng
  let c := s.cmd.ax[n]
  match o with
  | 0x600 => some (packW [(x.state.code, 0), (e.angSrc.code, 4), (b2n e.fw, 6), (b2n e.ovm, 7), (b2n e.vlim, 8),
      (min (s.losCount n) 7, 9), (b2n x.ascFault, 12), (b2n x.blind, 13)])
  | 0x604 => some (w32 x.haltShown)
  | 0x608 => some (toF32 e.iD)
  | 0x60C => some (toF32 e.iQ)
  | 0x610 => some (toF32 e.idRef)
  | 0x614 => some (toF32 e.iqRef)
  | 0x618 => some (toF32 e.vD)
  | 0x61C => some (toF32 e.vQ)
  | 0x620 => some (toF32 e.modM)
  | 0x624 => some (toF32 e.speed)
  | 0x628 => some e.angle
  | 0x62C => some (toF32 e.psiEst)
  | 0x630 => some (toF32 (s.nAsc n))
  | 0x634 => some (match x.ipk with | some i => toF32 i | none => quietNaN)
  | 0x814 => some (packW [(c.src, 0), (b2n (s.armed n), 3), (c.mode, 4), (b2n c.render, 7), (b2n (c.nff != 0), 8), (b2n c.stale, 9),
      (b2n c.fEst, 10), (b2n c.nlim, 11)])
  | 0x818 => some (toF32 c.nRef)
  | 0x81C => some (toF32 c.tStar)
  | 0xA28 => some (toF32 c.tension)
  | 0xA2C => some (toF32 c.payout)
  | 0xA64 => some (toF32 c.nff)
  | 0xA68 => some (toF32 c.hcAge)
  | 0xC44 => some (toF32 c.theta)
  | 0xC48 => some (toF32 (s.regs.tqCont n))
  | 0xC78 => some (toF32 c.tlf)
  | 0xCE0 => some (toF32 c.kreg)
  | 0xCE4 => some (toF32 c.kmot)
  | 0xCF0 => some (packW [(b2n c.fold, 0), (b2n c.impact.isSome, 1), (b2n (s.regs.AXn_ICE_CFG_EN n), 2), (min c.stalls 15, 4),
      (b2n c.crash, 8), (b2n (c.kSeen && c.kreg < 1), 9), (b2n (c.kSeen && c.kmot < 1), 10), (b2n c.critHi, 11), (b2n c.critLo, 12), (b2n c.twInvalid, 13)])
  | 0xCF4 => some (packW [(min c.impacts 0xFFFF, 0), (min c.stallTotal 0xFFFF, 16)])
  | _ => match s.readSnt (axis10 n) o with | some w => some w | none => s.readShr n o

def State.readAux (s : State) (x : Fin 4) (o : Nat) : Option Word :=
  let a := s.aux[x]
  match o with
  | 0x220 => some (packW [(a.state.code, 0), (b2n a.eng.strong, 4), (b2n a.valid, 5), (b2n a.still, 6), (b2n a.homed, 7),
      (b2n a.neg.tripped, 8), (b2n a.posi.tripped, 9), (b2n a.neg.inhibit, 10), (b2n a.posi.inhibit, 11), (b2n a.check.isSome, 12),
      (b2n (a.state == .homing && a.half), 13), (if a.state = .halt then a.haltReason else 0, 16)])
  | 0x224 => some (w32 a.pBits)
  | 0x228 => some (toF32 (s.auxSpeedAt x s.tb))
  | 0x22C => some (toF32 a.eng.delta)
  | 0x230 => some (toF32 a.eng.iA)
  | 0x234 => some (toF32 a.eng.iB)
  | _ => s.readSnt (aux10 x) o

/-! ## GD and SNS -/

/-- A set of targets as `GD_ST_PASS` shows it. -/
def testWord (m : BitVec 14) : Word := packW [(m.toNat % 64, 0), (m.toNat / 64 % 16, 8), (m.toNat / 1024, 16)]

def State.readGd (s : State) (a : Nat) : Word :=
  if a < 0x30180 then
    let n : Fin 6 := Fin.ofNat 6 ((a - 0x30000) / 64)
    let g := s.gd.ax[axis10 n]
    let b := s.ax[n].bridge
    match (a - 0x30000) % 64 with
    | 0x24 => packW [(g.hsUv.toNat % 8, 0), (b2n g.refresh, 3), (b2n (b == .ascLow || b == .ascHigh), 4), (b2n (b == .ascHigh), 5),
        (b2n g.test, 6)]
    | 0x28 => packW [(g.desat.toNat % 8, 0), (g.side.toNat % 8, 3), (b2n g.fast, 6), (g.link.toNat % 8, 7), (b2n g.multi, 10),
        (b2n g.ascFailed, 11)]
    | _ => s.regs.get a
  else if 0x30200 ≤ a ∧ a < 0x30280 then
    let g := s.gd.ax[aux10 (Fin.ofNat 4 ((a - 0x30200) / 32))]
    match (a - 0x30200) % 32 with
    | 0x18 => packW [(g.hsUv.toNat, 0), (b2n g.refresh, 4), (b2n g.test, 6)]
    | 0x1C => packW [(g.desat.toNat, 0), (g.side.toNat, 4), (g.link.toNat, 8), (b2n g.multi, 12)]
    | _ => s.regs.get a
  else if 0x30300 ≤ a ∧ a < 0x30340 ∧ a % 16 = 12 then
    let c := s.gd.chop[(Fin.ofNat 4 ((a - 0x30300) / 16) : Fin 4)]
    packW [(b2n c.on, 0), (b2n c.fault, 1)]
  else match a with
  | 0x30408 => toF32 s.gd.vdrv
  | 0x3040C => packW [(b2n (!s.gd.uv), 0), (b2n s.gd.ov, 1), (b2n s.gd.swClosed, 2)]
  | 0x30428 => packW [(b2n s.gd.test.busy, 0), (s.gd.test.refuse, 1)]
  | 0x3042C => testWord s.gd.test.pass
  | 0x30430 => testWord s.gd.test.fail
  | 0x30434 => testWord s.gd.test.abort
  | _ => s.regs.get a

/-- The scheduled load of a converter (R193). -/
def Regs.ainLoad (r : Regs) (b : Nat) : Rat :=
  ((List.range 16).filter (fun c => r.SNS_AINc_CFG_CLASS (b + c) == 2)).foldl (fun x c =>
    x + mkRat 625 1000000000 / r.SNS_AXn_VT_PER (r.SNS_AINc_CFG_AXIS (b + c))) 0

/-- The last control-filter value of a channel: of a phase-current channel that of the last update, of a free-running one the decimated
value whose span ended last, at a whole multiple of OSR periods of its clock (R172; its value is free, and where the decimation began
is a DESIGN CHOICE, log 126). -/
def State.sdiVal (s : State) (c : Fin 32) : Rat :=
  let per := s.regs.SNS_SDIc_OSR c * s.regs.mclkNs c
  if s.regs.SNS_SDIc_CFG_EN c && !s.regs.SNS_SDIc_CFG_ROLE c && decide (0 < per) then
    s.sdiAmps c (clampR (-1) 1 (Config.sdiFree c.val (s.tb / per * per)))
  else s.sns.sdi[c].val

def State.readSns (s : State) (a : Nat) : Word :=
  if a < 0x40400 then
    let c : Fin 32 := Fin.ofNat 32 ((a - 0x40000) / 32)
    let q := s.sns.sdi[c]
    match (a - 0x40000) % 32 with
    | 0x18 => toF32 (s.sdiVal c)
    | 0x1C =>
      let f := match s.phaseOf c with | some (n, p) => s.sns.ax[n].fSdi.getLsbD p.val | none => false
      packW [(b2n q.stuck, 0), (b2n q.zeroFail, 1), (b2n q.oc, 2), (b2n f, 3)]
    | _ => s.regs.get a
  else if a < 0x40480 then toF32 s.sns.sdi[(Fin.ofNat 32 ((a - 0x40400) / 4) : Fin 32)].zero
  else if 0x40800 ≤ a ∧ a < 0x408C0 then
    let q := s.sns.ax[(Fin.ofNat 6 ((a - 0x40800) / 32) : Fin 6)]
    match (a - 0x40800) % 32 with
    | 0x10 => toF32 q.dcsVal
    | 0x14 => toF32 q.dcsZero
    | 0x18 => packW [(b2n q.dcsZeroFail, 0), (b2n q.dcsConvFail, 1), (b2n q.fDcs, 2)]
    | _ => s.regs.get a
  else if 0x40A00 ≤ a ∧ a < 0x40B80 then
    let q := s.sns.ax[(Fin.ofNat 6 ((a - 0x40A00) / 64) : Fin 6)]
    match (a - 0x40A00) % 64 with
    | 0x18 => packW [(q.use, 0), (q.fSdi.toNat, 2), (b2n q.fDcs, 5), (b2n q.fEnc, 6), (min q.predRun 127, 8), (q.vcnt, 16)]
    | 0x1C => packW [(q.shiftCnt, 0), (q.predCnt, 16)]
    | _ => s.regs.get a
  else if 0x40C00 ≤ a ∧ a < 0x40D80 then
    let q := s.sns.enc[(Fin.ofNat 6 ((a - 0x40C00) / 64) : Fin 6)]
    match (a - 0x40C00) % 64 with
    | 0x14 => q.pos
    | 0x18 => w32i q.turns
    | 0x1C => toF32 q.speed
    | 0x20 => packW [(b2n q.illegal, 0), (b2n q.index, 1), (b2n q.serial, 2), (b2n q.observer, 3), (b2n q.fault, 4)]
    | 0x24 => packW [(min q.illTotal 0xFFFF, 0), (min q.discTotal 0xFFFF, 16)]
    | _ => s.regs.get a
  else if 0x41000 ≤ a ∧ a < 0x41400 then
    let q := s.sns.ain[(Fin.ofNat 32 ((a - 0x41000) / 32) : Fin 32)]
    match (a - 0x41000) % 32 with
    | 0x14 => toF32 q.val
    | 0x18 => w32 (b2n q.range)
    | _ => s.regs.get a
  else if a = Reg.SNS_AIN_LOAD_A then toF32 (s.regs.ainLoad 0)
  else if a = Reg.SNS_AIN_LOAD_B then toF32 (s.regs.ainLoad 16)
  else s.regs.get a

/-! ## SAF and FAB -/

def State.readSaf (s : State) (a : Nat) : Word :=
  let m := s.saf.mirror
  if 0x50A00 ≤ a ∧ a < 0x50A80 then
    let c : Fin 16 := Fin.ofNat 16 ((a - 0x50A00) / 8)
    if a % 8 = 0 then m.conStat[c] else m.conSeq[c]
  else match a with
  | 0x50000 => m.stat
  | 0x50004 => m.demand
  | 0x50008 => m.latch
  | 0x5000C => m.inStat
  | 0x50010 => m.soStat
  | 0x50014 => m.connOk
  | 0x50018 => s.ld.inForceSig
  | 0x5001C => m.ptAge
  | 0x50020 => m.srst
  | 0x50024 => m.v24s
  | _ => s.regs.get a

def LinkState.code : LinkState → Nat
  | .off => 0
  | .start => 1
  | .hello => 2
  | .active => 3
  | .parked => 4
  | .down => 5

/-- A link leads up: to the endpoint with the lower (level, address), the level being the hops to the root (R380; DEDUCED,
log 41). -/
def State.linkUp (s : State) (k : Fin 6) : Bool :=
  match s.regs.FAB_CFG_TOPO, s.fab.links[k].partner with
  | true, some p =>
    let own := if s.regs.FAB_CFG_ROOT then 0 else s.tbs.hops.getD 15
    decide (p.hops < own) || (p.hops == own && decide (p.addr.getD 64 < s.fab.addr.getD 64))
  | _, _ => false

/-- A word of the group slot `g` (Table 8 of the load-sharing chapter). -/
def State.readGroup (s : State) (g : Fin 16) (o : Nat) : Option Word :=
  let q := s.shr[g]
  match o with
  | 0xC0 => some (packW [(q.leader.getD 0, 0), (b2n q.leader.isSome, 5), (b2n q.sat, 6), (b2n q.quorumOk, 7), (b2n q.gstop, 8),
      (b2n q.cfgBad, 9), (q.term % 65536, 16)])
  | 0xC4 => some q.live
  | 0xC8 => some (match q.now with | some x => w32 x.carry | none => 0)
  | 0xCC => some (toF32 (match q.now with | some x => x.tTot | none => 0))
  | 0xD0 => some (toF32 (match q.now with | some x => x.nRef | none => 0))
  | 0xD4 => some (if s.usesGroup g then s.shareSig g else 0)
  | 0xD8 => some (packW [(min q.lostCnt 0xFFFF, 0), (min q.missCnt 0xFFFF, 16)])
  | _ => none

def State.readLink (s : State) (k : Fin 6) (o : Nat) : Word :=
  let l := s.fab.links[k]
  match o with
  | 0x00 =>
    let p := l.partner
    packW [(l.state.code, 0), ((p.bind (·.addr)).getD 0, 8), ((p.map (·.link)).getD 0, 16), (b2n (s.linkUp k), 19), (l.park, 20)]
  | 0x04 => toF32 l.rateTx
  | 0x08 => toF32 l.rateRx
  | 0x0C => packW [(min l.exch 0xFFFF, 0), (min l.bad 0xFF, 16), (min l.tc 0xFF, 24)]
  | 0x10 => w32 (min l.downs 0xFFFF)
  | 0x14 => lo32 ((l.partner.map (·.id)).getD 0)
  | 0x18 => hi32 ((l.partner.map (·.id)).getD 0)
  | 0x1C => toF32 (minDelay l.delays / 1000000000)
  | _ => 0

def State.readFab (s : State) (a : Nat) : Word :=
  if 0x61000 ≤ a ∧ a < 0x62000 then
    ((s.readGroup (Fin.ofNat 16 ((a - 0x61000) / 256)) ((a - 0x61000) % 256)).getD (s.regs.get a))
  else if 0x60400 ≤ a ∧ a < 0x60500 then w32 (s.fab.routes[(Fin.ofNat 64 ((a - 0x60400) / 4) : Fin 64)])
  else if 0x60100 ≤ a ∧ a < 0x60100 + 6 * 0x40 then s.readLink (Fin.ofNat 6 ((a - 0x60100) / 0x40)) ((a - 0x60100) % 0x40)
  else match a with
  | 0x60004 =>
    let conflict := linkAll.any (fun k => s.fab.links[k].park == 4)
    packW [(s.fab.addr.getD 0, 0), (b2n s.fab.addr.isSome, 6), (b2n s.fab.excess, 7), (b2n conflict, 8),
      (if s.regs.FAB_CFG_ROOT then s.fab.registry.length else 0, 16),
      (match s.parent with | some k => k.val | none => 7, 24)]
  | 0x60008 => lo32 ownId
  | 0x6000C => hi32 ownId
  | 0x60010 => w32 s.fab.tblVer
  | 0x6001C => packW [(min s.fab.discHops 0xFFFF, 0), (min s.fab.discUnreach 0xFFFF, 16)]
  | 0x60020 => w32 (min s.fab.discWait 0xFFFF)
  | 0x60024 => lo32 s.fab.excessId
  | 0x60028 => hi32 s.fab.excessId
  | _ => s.regs.get a

/-! ## CP and CAN -/

/-- The state of a port: 0 off, 1 starting, 2 up, 3 quarantined. -/
def State.portCode (s : State) (p : Fin 3) : Nat :=
  let cls : Cls := match p with | 0 => .A | 1 => .B | 2 => .M
  let form := match p with | 0 => s.regs.CP_CFG_FORM_A | 1 => s.regs.CP_CFG_FORM_B | 2 => 1
  if form = 0 ∨ !s.running then 0
  else if s.quarantined ⟨cls, none⟩ then 3
  else if s.cp.ports[p].up ∨ p = 2 then 2 else 1

def State.readCp (s : State) (a : Nat) : Word :=
  if 0x70040 ≤ a ∧ a < 0x700A0 then
    let p : Fin 3 := Fin.ofNat 3 ((a - 0x70040) / 32)
    let q := s.cp.ports[p]
    let cls : Cls := match p with | 0 => .A | 1 => .B | 2 => .M
    match (a - 0x70040) % 32 with
    | 0x00 => packW [(s.portCode p, 0), (min (s.violsWithin ⟨cls, none⟩ s.tb) 255, 8)]
    | 0x04 => w32 q.rx
    | 0x08 => packW [(min q.viol 0xFFFF, 0), (min q.malf 0xFFFF, 16)]
    | _ => 0
  else match a with
  | 0x70020 =>
    let t := s.cp.token
    packW [(s.holderCode, 0), (match t.holder with | some o => s.originDev o % 64 | none => 0, 8), (b2n t.tieB, 16),
      (b2n (!t.waiting.isEmpty), 17)]
  | 0x70024 => if s.cp.token.holder.isSome then secW (s.tb - s.cp.token.renewed) else 0
  | 0x70028 => packW [(min s.cp.token.grants 0xFFFF, 0), (min s.cp.token.expiries 0xFFFF, 16)]
  | 0x70100 =>
    let i := s.cp.image
    packW [(i.state, 0), (i.result, 8), (match i.owner with | some o => s.originDev o % 64 | none => 0, 16), (b2n i.owner.isSome, 22)]
  | 0x70104 => w32 s.cp.image.bytes
  | _ => s.regs.get a

def State.readCan (s : State) (n : Fin 2) (o : Nat) : Option Word :=
  let x := s.can[n]
  if 0x800 ≤ o ∧ o < 0xA00 then
    let h := x.host[(Fin.ofNat 4 ((o - 0x800) / 0x80) : Fin 4)]
    match (o - 0x800) % 0x80 with
    | 0x0C => some (packW [(h.state, 0), (min h.attempts 255, 8)])
    | 0x50 => some (lo32 h.stamp)
    | 0x54 => some (hi32 h.stamp)
    | _ => none
  else match o with
  | 0x40 => some (packW [(x.bus, 0), (b2n (x.started && s.canListen n), 2), (b2n x.abd.run, 3), (x.cand, 4), (b2n x.quar.isSome, 6),
      (b2n x.recov, 7), (min x.rec' 255, 8), (min x.tec 255, 16)])
  | 0x44 => some (packW [(min x.overrun 0xFFFF, 0), (min x.unbound 0xFFFF, 16)])
  | 0x48 => some (packW [(min x.sameIds 0xFFFF, 0), (min x.busOffs 0xFFFF, 16)])
  | _ => none

/-! ## SIP, CAR and FRZ -/

def ChState.code : ChState → Nat
  | .idle => 0
  | .pending => 1
  | .running => 2
  | .stopped => 3
  | .halted => 4

def State.readSip (s : State) (a : Nat) : Word :=
  if a < 0x90400 then
    let q := s.sip.rings[(Fin.ofNat 32 ((a - 0x90000) / 32) : Fin 32)]
    match (a - 0x90000) % 32 with
    | 0x10 => w32 q.wr
    | 0x14 => w32 q.rd
    | 0x18 => w32 q.tap
    | 0x1C => packW [(min q.lost 0xFFFF, 0), (min q.tapLost 0xFFFF, 16)]
    | _ => s.regs.get a
  else if 0x90800 ≤ a ∧ a < 0x91000 then
    let q := s.sip.chs[(Fin.ofNat 32 ((a - 0x90800) / 64) : Fin 32)]
    match (a - 0x90800) % 64 with
    | 0x20 => packW [(q.state.code, 0), (q.code, 4), (b2n q.flush, 8)]
    | 0x24 => w32 q.cur
    | 0x28 => w32 (q.visit % 65536)
    | 0x2C => w32 q.bytes
    | 0x30 => packW [(min q.acts 0xFFFF, 0), (min q.skips 0xFFFF, 16)]
    | 0x34 => w32 ((q.fetch.map List.length).foldl (· + ·) 0)
    | _ => s.regs.get a
  else match a with
  | 0x91000 => packW [(b2n s.sip.halted, 0), (b2n s.sip.run.isSome, 1), (match s.sip.run with | some c => c.val | none => 0, 8)]
  | 0x91004 => w32 s.sip.berrAddr
  | 0x91008 => packW [(s.sip.berrCh, 0), (b2n s.sip.berrValid, 8), (min s.sip.berrCount 0xFFFF, 16)]
  | 0x91014 => w32 s.sip.offDrop
  | _ => s.regs.get a

def State.readCar (s : State) (a : Nat) : Word :=
  let c := s.car
  if 0xA0300 ≤ a ∧ a < 0xA0380 then
    let t := c.evt[(Fin.ofNat 16 ((a - 0xA0300) / 8) : Fin 16)].first
    if a % 8 = 0 then lo32 t else hi32 t
  else match a with
  | 0xA0124 => w32 c.rpl.wr
  | 0xA012C => packW [(c.rpl.state, 0), (min c.rpl.skip 0xFFFF, 16)]
  | 0xA0200 => packW [(c.st, 0), (c.stage, 4), (c.tgtOn.toNat, 8), (c.mountErr, 16)]
  | 0xA0204 => packW ((List.finRange 16).map (fun k => (c.evt[k].state, 2 * k.val)))
  | 0xA0208 => packW ((List.finRange 4).map (fun k => (c.dump[k].state, 2 * k.val)))
  | 0xA020C => if s.regs.CAR_CFG_EN then packW [(s.goodCount, 0), (s.badCount, 16)] else 0
  | 0xA0210 => if s.regs.CAR_CFG_EN then
      packW [(s.freeBlks.length, 0), ((c.blks.filter (fun b => b.kind == .ring)).length, 16)] else 0
  | 0xA0214 => if s.regs.CAR_CFG_EN then packW [(s.ecMax, 0), (s.ecMean, 16)] else 0
  | 0xA0218 => packW [(min c.unc 0xFFFF, 0), (min c.refr 0xFFFF, 16)]
  | 0xA021C => w32 c.seq
  | 0xA0220 => toF32 (((c.rate.filter (fun q => decide (s.tb < q.1 + 10000000000))).foldl (fun n q => n + q.2) 0 : Nat) / 10)
  | _ => s.regs.get a

def State.readFrz (s : State) (a : Nat) : Word :=
  match a with
  | 0xC0020 => packW [(b2n s.frz.pinLow, 0), (b2n s.dumpTarget.isSome, 1), (s.frz.lastRefuse, 8),
      (match s.dumpTarget with | some k => k.val | none => 0, 16)]
  | 0xC0024 => w32 (min s.frz.refused 0xFFFF)
  | _ => s.regs.get a

/-! ## One word -/

/-- The content of the value word at an address: RO words from the state, the others in force (R18). -/
def State.valueWord (s : State) (o : Origin) (a : Nat) : Word :=
  if a < 0x8000 then s.readDev o a
  else if a < 0x10000 then s.readTb a
  else if a < 0x1C000 then (s.readAx (Fin.ofNat 6 ((a - 0x10000) / 0x2000)) ((a - 0x10000) % 0x2000)).getD (s.regs.get a)
  else if a < 0x24000 then (s.readAux (Fin.ofNat 4 ((a - 0x20000) / 0x1000)) ((a - 0x20000) % 0x1000)).getD (s.regs.get a)
  else if a < 0x40000 then s.readGd a
  else if a < 0x50000 then s.readSns a
  else if a < 0x60000 then s.readSaf a
  else if a < 0x70000 then s.readFab a
  else if a < 0x80000 then s.readCp a
  else if a < 0x90000 then (s.readCan (Fin.ofNat 2 ((a - 0x80000) / 0x8000)) ((a - 0x80000) % 0x8000)).getD (s.regs.get a)
  else if a < 0xA0000 then s.readSip a
  else if a < 0xB0000 then s.readCar a
  else s.readFrz a

/-- A register word as a read finds it (R19, R20, R23, R515): WC and reserved words read zero, a complement word as it is stored, or where the
value word is the device's own the complement of that. -/
def State.regWord (s : State) (o : Origin) (a : Nat) : Word :=
  match regClass a with
  | .value r => if r.acc = .WC then 0 else s.valueWord o a
  | .compl r => match r.acc with
    | .WC => 0
    | .RO => ~~~ (s.valueWord o (a - 4))
    | _ => s.regs.getCompl (a - 4)
  | .reserved => 0

/-- A read of either word of a paired register whose stored words do not complement raises a pair fault on the owning block (R23). No chapter
states a further reaction. -/
def State.pairCheck (s : State) (a : Nat) : State :=
  let test (v : Nat) : State :=
    if s.regs.getCompl v = ~~~ s.regs.get v ∨ s.stg.pairFault.contains v then s
    else s.onStg (fun x => { x with pairFault := x.pairFault ++ [v] })
  match regClass a with
  | .value r => if r.pair then test a else s
  | .compl _ => test (a - 4)
  | .reserved => s

/-- One word read at an address that exists, and what the read leaves: a read of TB_NOW_LO latches the upper word for the
next read of TB_NOW_HI of the same origin (R68). -/
def State.readWord (s : State) (o : Origin) (a : Nat) : Word × State :=
  match areaOf a with
  | .keep => (w32 (leNat (s.ksRead (a - 0x100000) 4)), s)
  | .sram => (w32 (leNat (s.sramRead a 4)), s.sramMeet a)
  | .absent => (0, s)
  | .regs =>
    if a = Reg.TB_NOW_LO then
      (lo32 s.tb, s.onTbs (fun t => { t with hiLatch := (o, hi32 s.tb) :: t.hiLatch.filter (fun x => x.1 != o) }))
    else if a = Reg.TB_NOW_HI then
      match s.tbs.hiLatch.find? (fun x => x.1 == o) with
      | some x => (x.2, s.onTbs (fun t => { t with hiLatch := t.hiLatch.filter (fun x => x.1 != o) }))
      | none => (hi32 s.tb, s)
    else (s.regWord o a, s.pairCheck a)

/-- Consecutive words, until one that is absent: the bytes, and the index of the first absent word. -/
def State.readWords (s : State) (o : Origin) (a i : Nat) : Nat → List Byte → State × List Byte × Option Nat
  | 0, acc => (s, acc, none)
  | n + 1, acc =>
    if areaOf a = .absent then (s, acc, some i)
    else
      let r := s.readWord o a
      r.2.readWords o (a + 4) (i + 1) n (acc ++ leBytes 4 r.1.toNat)

/-- READ (R398, R514): the words, or RANGE naming the word at which it stopped, with the words before it as its data (log 58). Where a word
of work SRAM cannot be corrected, DETAIL says so and INDEX names the first such word (R520). -/
def doRead (addr : Nat) (n : Nat) (c : Ctx) (s : State) : Res :=
  if addr % 4 ≠ 0 then nak s St.range
  else
    let bad := (List.range n).find? (fun i => areaOf (addr + 4 * i) == .sram && s.sip.ecc.contains (addr + 4 * i, true))
    match s.readWords c.o addr 0 n [] with
    | (s, bs, none) => match bad with
      | some i => (s, { status := St.ack, detail := 0x0ECC, index := i, data := bs })
      | none => ack s bs
    | (s, bs, some i) => (s, { status := St.range, index := i, data := bs })

/-- `TB_NOW_LO_READ` (R68). -/
def execTbNowLoRead (dt : Nat) (o : Origin) (s : State) : Host.Outcome State Fault Refusal :=
  done ((s.advance dt).entry o 1 (some Reg.TB_NOW_LO) (doRead Reg.TB_NOW_LO 1))

/-- `JCP_READ`. -/
def execJcpRead (dt : Nat) (o : Origin) (addr : Word) (n : Nat) (s : State) : Host.Outcome State Fault Refusal :=
  done ((s.advance dt).entry o 1 (some addr.toNat) (fun c s =>
    if n = 0 ∨ 256 < n then nak s St.range else doRead addr.toNat n c s) n)

end Sys2Proof.Machine
end

