-- ==== Sys2Proof/Machine/Startup.lean ====
section
/-! DEFINITION. Supplies and reset, the reference clock, the load of an image, and HOLD entry (chapter 04; R61 to R66, R70, R71
of chapter 03; R110, R123 of chapter 05). -/
namespace Sys2Proof.Machine

/-! ## Held COLD (R84, R85) -/

/-- The device falls into held COLD: everything takes its reset content but the keep-store, the clock of the model, the free
values, the queue, and what stands at the balls (supplies, monitors, safe inputs, SRST, fault returns, comparators).
`tb` and `mode` are what the reset-history entry will name. -/
def State.toCold (s : State) (cause start tb mode : Nat) (vcoreS : Bool) : State :=
  { State.reset with
    clk := { now := s.clk.now }
    ks := { s.ks with pairFaults := 0 }
    freeIx := s.freeIx
    pending := s.pending
    pwr := { s.pwr with
      phase := .held, rstStart := start, rstCause := cause, vcoreSFell := vcoreS, rstDur := 0, lastCause := 0, rstTb := tb
      rstMode := mode, releasedAt := 0, refsel := none, altFirst := false }
    gd := { State.reset.gd with
      vdrv := s.gd.vdrv, uv := s.gd.uv, ov := s.gd.ov
      ax := s.gd.ax.map (fun g => { linkLow := g.linkLow, fastHigh := g.fastHigh, hsUv := g.hsUv }) }
    saf := { State.reset.saf with
      rawA := s.saf.rawA, rawB := s.saf.rawB, edm := s.saf.edm, v24s := s.saf.v24s
      cobalt := { v24sOut := s.saf.cobalt.v24sOut }, bronze := { v24sOut := s.saf.bronze.v24sOut }
      vcoreSOk := s.saf.vcoreSOk, srst := { high := s.saf.srst.high } } }

/-- The mode that the newest valid last-state record names, 0 without one (R126). -/
def State.lastMode (s : State) : Nat :=
  match s.lastNewest with
  | some b => ((s.ksEntry (if b then 0x6000 else 0x3000) 0x1800 576).map (fun d => byteAt d 16)).getD 0
  | none => 0

/-- `RESET_ASSERT`: RESET_N has been low for 10 µs (R84). A shorter low pulse is no command, so a pulse between 1 µs and 10 µs is never taken
(DESIGN CHOICE, log 112). -/
def State.resetAssert (s : State) : State :=
  if s.pwr.phase = .held then s.onPwr (fun p => { p with resetLow := true })
  else (s.toCold 2 (s.now - 10000) s.tb s.mode.mode.code false).onPwr (fun p => { p with resetLow := true })

def execResetAssert (dt : Nat) (s : State) : Host.Outcome State Fault Refusal := done (s.advance dt).resetAssert

/-- A monitored supply is good or not. -/
def setSupply (sup : Supply) (v : Bool) (p : Power) : Power :=
  match sup with
  | .vcore => { p with supVcore := v }
  | .vcoreS => { p with supVcoreS := v }
  | .vio18 => { p with supVio18 := v }
  | .vio33 => { p with supVio33 := v }

/-- `SUPPLY_LOSS` (R84, R85): causes 3 VCORE, 4 another supply; where VCORE_S fell the duration is unknown and the cause is 1,
a power-up. -/
def State.supplyLoss (s : State) (sup : Supply) : State :=
  let vs := sup == .vcoreS
  let s1 :=
    if s.pwr.phase = .held then
      (if vs then s.onPwr (fun p => { p with vcoreSFell := true, rstCause := 1, rstTb := 0, rstMode := s.lastMode }) else s)
    else
      match sup with
      | .vcoreS => s.toCold 1 s.now 0 s.lastMode true
      | .vcore => s.toCold 3 s.now s.tb s.mode.mode.code false
      | .vio18 | .vio33 => s.toCold 4 s.now s.tb s.mode.mode.code false
  s1.onPwr (fun p => { setSupply sup false p with supAt := s.now })

def execSupplyLoss (dt : Nat) (sup : Supply) (s : State) : Host.Outcome State Fault Refusal := done ((s.advance dt).supplyLoss sup)

/-- `SUPPLIES_GOOD`: all four have been above their thresholds for 2 ms without interruption (R82). -/
def execSuppliesGood (dt : Nat) (s : State) : Host.Outcome State Fault Refusal :=
  let s := s.advance dt
  done (s.onPwr (fun p =>
    if p.phase = .held ∧ p.supAt + 2000000 ≤ s.now then { p with supVcore := true, supVcoreS := true, supVio18 := true, supVio33 := true } else p))

/-! ## Release and lock (R61, R64, R65, R82 to R88) -/

/-- `TB_CFG.REFSEL` of a strap combination (Table 1 of the time-base chapter); `none` is invalid. -/
def refselOf : Strap → Strap → Option Nat
  | .low, .low => some 0
  | .low, .high => some 1
  | .high, .low => some 2
  | .high, .high => some 3
  | .openPin, .low => some 4
  | .low, .openPin | .high, .openPin | .openPin, .high | .openPin, .openPin => none

/-- A failure without a section, an entry, an address or a value. -/
def plainFail (code : Nat) : LoadFail := { code := code, sect := none, entry := none, addr := none, value := 0 }

/-- The start has failed before a copy was read: failed COLD, with the reason and its entry, which names the primary
copy (R61, R64, R87; DESIGN CHOICE, log 152). -/
def State.startFail (s : State) (code : Nat) : State :=
  ((s.coldHistory (plainFail code) false).onLd (fun l => { l with fail1 := some (plainFail code) })).onPwr
    (fun p => { p with phase := .failed })

/-- `RESET_RELEASE`: the straps are sampled, the reset-history entry is written and the PLL starts (R61, R82, R85, R86). -/
def State.release (s : State) (r1 r0 : Strap) (alt : Bool) : State :=
  let p := s.pwr
  if !(p.phase == .held && p.supVcore && p.supVcoreS && p.supVio18 && p.supVio33) then s
  else
    let cause := if p.vcoreSFell then 1 else p.rstCause
    let dur := if p.vcoreSFell then 0xFFFFFFFF else min ((s.now - p.rstStart) / 1000) 0xFFFFFFFE
    let s := s.resetHistory (if cause = 1 then 0 else p.rstTb) dur cause p.rstMode
    let s := s.onPwr (fun p => { p with
      phase := .released, resetLow := false, vcoreSFell := false, rstDur := dur, lastCause := cause, releasedAt := s.now
      refsel := refselOf r1 r0, altFirst := alt })
    if (refselOf r1 r0).isSome then s else s.startFail 0x0001

def execResetRelease (dt : Nat) (refsel1 refsel0 : Strap) (cfgselHigh : Bool) (s : State) : Host.Outcome State Fault Refusal :=
  done ((s.advance dt).release refsel1 refsel0 cfgselHigh)

/-- `PLL_LOCK`: TB_NOW counts (R65). In failed COLD the time base runs whenever REFCLK allows it, but not where the PLL was never
started (R61, R87). -/
def State.pllLock (s : State) : State :=
  let run (s : State) : State :=
    (s.onClk (fun c => { c with counting := true })).onTbs (fun t => { t with lock := true })
  match s.pwr.phase with
  | .released => (run s).onPwr (fun p => { p with phase := .locked })
  | .failed => if (s.ld.fail1.map (·.code)) = some 0x0001 ∨ s.tbs.lock then s else run s
  | .held | .locked | .loading | .running => s

def execPllLock (dt : Nat) (s : State) : Host.Outcome State Fault Refusal := done (s.advance dt).pllLock

/-- `PLL_LOCK_TIMEOUT`: no lock within 200 µs of the release (R64). -/
def execPllLockTimeout (dt : Nat) (s : State) : Host.Outcome State Fault Refusal :=
  let s := s.advance dt
  done (if s.pwr.phase = .released ∧ s.pwr.releasedAt + 200000 ≤ s.now then s.startFail 0x0002 else s)

/-! ## The configuration memory while a copy is read (R89, R90) -/

/-- A read of the configuration memory: command, address, lines of the address and of the data, dummy clocks, CFG_SCK in Hz. -/
structure CfgRead where
  cmd : Nat
  addr : Nat
  addrLines : Nat
  dataLines : Nat
  dummy : Nat
  sck : Rat
  deriving DecidableEq, Repr

/-- The read that brings the next bytes of the copy being loaded: the header by 0x03 at 10 MHz, the rest as the header sets it
(Table 1). -/
def State.cfgRead (s : State) : Option CfgRead :=
  let l := s.ld
  let base := copyBase l.alt
  let rest (off : Nat) : CfgRead :=
    { cmd := match l.rdMode with | 0 => 0x03 | 1 => 0x0B | 2 => 0x6B | _ => 0xEB
      addr := base + l.pos + off, addrLines := if l.rdMode = 3 then 4 else 1, dataLines := if l.rdMode < 2 then 1 else 4
      dummy := l.rdDummy, sck := 500000000 / (l.rdDiv : Rat) }
  if s.pwr.phase ≠ .loading then none
  else
    match l.stage with
    | .header => some { cmd := 0x03, addr := base, addrLines := 1, dataLines := 1, dummy := 0, sck := 10000000 }
    | .sect => some (rest 0)
    | .entry | .crc => some (rest (16 + 16 * l.entryIx))
    | .passed => none

/-! ## The load of a copy (R94, R555, R556) -/

/-- The LOAD has ended in failed COLD: no ring exists, so the events that waited leave no record (R99). -/
def State.loadOver (s : State) : State :=
  (((s.onLd (fun l => { l with ended := true })).onPwr (fun p => { p with phase := .failed })).putMode .cold 0).onRecs
    (fun r => { r with held := [] })

/-- The copy being read fails: its COLD-reason entry, and the other copy is tried, or the LOAD ends (R94, R555). -/
def State.copyFail (s : State) (f : LoadFail) (last : Bool := false) : State :=
  let s := s.coldHistory f s.ld.alt
  if s.ld.second then (s.onLd (fun l => { l with fail2 := some f })).loadOver
  else if last then (s.onLd (fun l => { l with fail1 := some f })).loadOver
  else s.onLd (fun l => { alt := !l.alt, second := true, fail1 := some f })

/-- `LOAD_ENTRY`: the device enters LOAD, with work SRAM zeroed, or fails where the keep-store does not answer (0x0003). -/
def State.loadEntry (s : State) (keepOk : Bool) : State :=
  if s.pwr.phase ≠ .locked then s
  else if !keepOk then (s.onLd (fun l => { l with fail1 := some (plainFail 0x0003) })).loadOver
  else
    (((s.onPwr (fun p => { p with phase := .loading })).putMode .load 0).onLd (fun _ => { alt := s.pwr.altFirst })).onSip
      (fun x => { x with sram := [], ecc := [] })

def execLoadEntry (dt : Nat) (keepOk : Bool) (s : State) : Host.Outcome State Fault Refusal := done ((s.advance dt).loadEntry keepOk)

/-- The first header rule that 64 bytes break (Table 2, Table 7). -/
def headerRule (b : List Byte) : Option Nat :=
  let imgLen := leAt b 8 4
  let nsect := leAt b 12 2
  let mode := byteAt b 14
  let div := byteAt b 15
  let dummy := byteAt b 16
  if b.take 4 ≠ [0x4A, 0x4E, 0x49, 0x4D] then some 0x0101
  else if (crc32 (b.take 60)).toNat ≠ leAt b 60 4 then some 0x0102
  else if leAt b 4 2 ≠ 1 ∨ leAt b 6 2 ≠ 64 then some 0x0103
  else if leAt b 28 4 ≠ 0x2464 then some 0x0104
  else if imgLen < 64 ∨ 0x100000 < imgLen ∨ imgLen % 8 ≠ 0 ∨ nsect < 4 ∨ 14 < nsect then some 0x0105
  else if 3 < mode ∨ div < 10 ∨ 50 < div ∨ 15 < dummy ∨ (mode = 0 ∧ dummy ≠ 0) then some 0x0106
  else if leAt b 17 3 ≠ 0 ∨ leAt b 36 24 ≠ 0 then some 0x0107
  else none

/-- Is the loader at a stage? -/
def State.loadAt (s : State) (st : LoadStage) : Bool := s.pwr.phase == .loading && s.ld.stage == st

/-- `IMAGE_HEADER_READ`. -/
def State.headerRead (s : State) (b : List Byte) : State :=
  if !(s.loadAt .header && b.length == 64) then s
  else
    match headerRule b with
    | some code => s.copyFail (plainFail code)
    | none =>
      s.onLd (fun l => { l with
        stage := .sect, imgLen := leAt b 8 4, nsect := leAt b 12 2, rdMode := byteAt b 14, rdDiv := byteAt b 15, rdDummy := byteAt b 16, buildId := leAt b 20 8, safSig := w32 (leAt b 32 4), pos := 64
        sectIx := 0, seen := [], shadow := [] })

def execImageHeaderRead (dt : Nat) (bytes : List Byte) (s : State) : Host.Outcome State Fault Refusal :=
  done ((s.advance dt).headerRead bytes)

/-- A failure of the section being read. -/
def State.sectFail (s : State) (code : Nat) : LoadFail := { plainFail code with sect := some s.ld.sectIx }

/-- `SECTION_HEADER_READ`. A section must fit with the 24 + 16 × COUNT bytes of its layout (Table 3); the 8 bytes more of the pseudocode of
R94 would refuse the last section of every copy (DEDUCED, log 113). -/
def State.sectionRead (s : State) (b : List Byte) : State :=
  if !(s.loadAt .sect && b.length == 16) then s
  else
    let id := leAt b 0 2
    let n := leAt b 4 4
    if (sectionRange id).isNone ∨ s.ld.seen.contains id then s.copyFail (s.sectFail 0x0112)
    else if n = 0 ∨ 16384 < n ∨ s.ld.imgLen < s.ld.pos + 24 + 16 * n then s.copyFail (s.sectFail 0x0105)
    else
      s.onLd (fun l => { l with
        stage := .entry, sectId := id, count := n, entryIx := 0, crc := crc32Run 0xFFFFFFFF#32 b
        reservedBad := leAt b 2 2 != 0 || leAt b 8 8 != 0, entryFail := none })

def execSectionHeaderRead (dt : Nat) (bytes : List Byte) (s : State) : Host.Outcome State Fault Refusal :=
  done ((s.advance dt).sectionRead bytes)

/-- The first entry rule that an entry breaks (0x0114 to 0x0118). -/
def entryRule (sect : Nat) (shadow : List ShadowWord) (addr naddr value nvalue : Word) : Option Nat :=
  let a := addr.toNat
  if naddr ≠ ~~~ addr ∨ nvalue ≠ ~~~ value then some 0x0114
  else
    let inside : Bool := match sectionRange sect with
      | some (lo, hi) => decide (lo ≤ a) && decide (a < hi)
      | none => false
    if !inside ∨ a % 4 ≠ 0 then some 0x0115
    else
      match regRow? a with
      | none => some 0x0115
      | some r =>
        if r.acc ≠ .RI ∧ r.acc ≠ .RS then some 0x0116
        else if shadow.any (fun x => x.addr == a) then some 0x0117
        else if !rowAdmits r value then some 0x0118
        else none

/-- `IMAGE_ENTRY_READ`: the entry goes into the shadow unless it, or an earlier entry of the section, fails. -/
def State.entryRead (s : State) (addr naddr value nvalue : Word) : State :=
  if !s.loadAt .entry then s
  else
    let l := s.ld
    let bad : Option LoadFail := match l.entryFail with
      | some f => some f
      | none => (entryRule l.sectId l.shadow addr naddr value nvalue).map (fun code =>
          { code := code, sect := some l.sectIx, entry := some l.entryIx, addr := some addr.toNat, value := value.toNat })
    s.onLd (fun l => { l with
      entryIx := l.entryIx + 1
      stage := if l.entryIx + 1 = l.count then .crc else .entry
      crc := crc32Run l.crc (wordsBytes [addr, naddr, value, nvalue])
      entryFail := bad
      shadow := if bad.isSome then l.shadow
        else l.shadow ++ [{ addr := addr.toNat, value := value, sect := l.sectIx, entry := l.entryIx }] })

def execImageEntryRead (dt : Nat) (addr naddr value nvalue : Word) (s : State) : Host.Outcome State Fault Refusal :=
  done ((s.advance dt).entryRead addr naddr value nvalue)

/-- The register words of a shadow: those it names as stored, every other at its reset content (R93). -/
def shadowRegs (sh : List ShadowWord) : Regs :=
  sh.foldl (fun (g : Regs) x =>
    g.set x.addr (match regRow? x.addr with | some r => rowNorm r x.value | none => x.value)) {}

/-- Cobalt's safety signature: CRC-32C over ADDR then VALUE of each entry of the SAF block, in ascending order (R359). -/
def safSignature (sh : List ShadowWord) : Word :=
  let es := (sh.filter (fun x => decide (0x50000 ≤ x.addr) && decide (x.addr < 0x60000))).foldl
    (fun (l : List (Nat × Word)) x => cellPut x.addr (some x.value) l) []
  ~~~ (crc32cRun 0xFFFFFFFF#32 (es.flatMap (fun e => leBytes 4 e.1 ++ leBytes 4 e.2.toNat)))

/-- The end of a copy: its length, its mandatory sections, the signature and the consistency and block rules (R94); once a copy has passed,
the paths are tested (R339). -/
def State.copyEnd (s : State) : State :=
  let l := s.ld
  if l.pos ≠ l.imgLen then s.copyFail (plainFail 0x0105)
  else if !([1, 2, 5, 7].all (fun i => l.seen.contains i)) then s.copyFail (plainFail 0x0113)
  else
    let g := shadowRegs l.shadow
    match g.firstRule (safSignature l.shadow == l.safSig) with
    | none => (s.onLd (fun l => { l with stage := .passed })).pathTest
    | some (code, words) =>
      match lowestOf words with
      | none => s.copyFail (plainFail code)
      | some a =>
        let e := l.shadow.find? (fun x => x.addr == a)
        s.copyFail { code := code, sect := e.map (·.sect), entry := e.map (·.entry), addr := some a, value := (g.get a).toNat }

/-- `SECTION_CRC_READ`: the section is decided; after the last section the copy. -/
def State.crcRead (s : State) (scrc pad : Word) : State :=
  if !s.loadAt .crc then s
  else
    let l := s.ld
    if ~~~ l.crc ≠ scrc ∨ pad ≠ 0 ∨ l.reservedBad then s.copyFail (s.sectFail 0x0111)
    else
      match l.entryFail with
      | some f => s.copyFail f
      | none =>
        let s := s.onLd (fun l => { l with
          stage := .sect, seen := l.seen ++ [l.sectId], sectIx := l.sectIx + 1, pos := l.pos + 24 + 16 * l.count })
        if s.ld.sectIx = s.ld.nsect then s.copyEnd else s

def execSectionCrcRead (dt : Nat) (scrc pad : Word) (s : State) : Host.Outcome State Fault Refusal :=
  done ((s.advance dt).crcRead scrc pad)

/-! ## HOLD entry (R93, R99, R110, R123) -/

/-- The axes, the carriers and the sentinels start: allocated axes are READY (R122). -/
def State.axesStart (s : State) : State :=
  let s := (List.finRange 10).foldl (fun (s : State) a =>
    if s.alloc10 a then s.modSnt a (fun _ => { freq := s.pwmF a }) else s) s
  let s := (List.finRange 6).foldl (fun (s : State) (n : Fin 6) =>
    if s.axAlloc n then (s.modAx n (fun x => { x with state := .ready })).thermInit n else s) s
  (List.finRange 4).foldl (fun (s : State) (x : Fin 4) =>
    if s.auxAlloc x then (s.modAux x (fun a => { a with state := .ready })).auxRestore x else s) s

/-- The local ports start: an SPI-form port and the maintenance port serve at once; a data-strobe port waits for Run (R395, R396,
R397). -/
def State.portsStart (s : State) : State :=
  s.onCp (fun x => { x with
    ports := Vector.ofFn (fun p : Fin 3 => ({ up := match p with
      | 0 => s.regs.CP_CFG_FORM_A == 2
      | 1 => s.regs.CP_CFG_FORM_B == 2
      | 2 => true } : PortSt)) })

/-- The tick that runs at HOLD entry has no work; the next boundary begins the first tick with work. Ticks are numbered by the
boundaries since TB_NOW was 0 (log 46). -/
def State.ticksStart (s : State) : State :=
  s.onTick (fun t => { t with
    number := (s.tb - 1) / s.period, began := (s.tb - 1) / s.period * s.period, workDone := true, withheld := true })

/-- `HOLD_ENTRY`: the shadow of the copy that has passed is applied and the device enters HOLD. -/
def State.holdEntry (s : State) (freezeLow : Bool) : State :=
  if !s.loadAt .passed then s
  else
    let l := s.ld
    let s := s.onRegs (fun _ => shadowRegs l.shadow)
    let s := s.onLd (fun l => { l with ended := true, shadow := [], inForceBuild := l.buildId, inForceLen := l.imgLen, inForceSig := l.safSig })
    let s := (s.onPwr (fun p => { p with phase := .running })).onTbs (fun t => { t with mclkRun := true })
    let s := s.fabStart.changeMode .hold 0x0501 (b2n l.alt)
    let s := s.configRec 0x0301 (b2n l.alt) 0 0 none
    let s := match l.second, l.fail1 with
      | true, some f => s.configRec 0x0302 (b2n l.alt) f.code 0 f.addr
      | _, _ => s
    let s := s.releaseHeld.ticksStart.axesStart.portsStart.canStart.sipStart.carStart
    let s := (List.finRange 10).foldl (fun (s : State) a => s.linkCheck a) s
    let s := s.onGd (fun g => { g with test := { autoDue := s.regs.GD_CFG } })
    let s := s.onFrz (fun _ => { pinLow := freezeLow })
    s.safStart.autoTest

def execHoldEntry (dt : Nat) (freezeLow : Bool) (s : State) : Host.Outcome State Fault Refusal :=
  done ((s.advance dt).holdEntry freezeLow)

/-! ## REFCLK and the edge placement units (R63, R64, R70, R71) -/

/-- `REFCLK_LOSS`: before LOAD and in LOAD the start fails; afterwards the PLL holds over, which is a stop cause, and a loss in
holdover begins the 10 ms of R64 anew; in failed COLD the time base stands. `TB_STAT.LOCK` stays set in holdover (DESIGN CHOICE,
log 109). -/
def State.refclkLoss (s : State) (offFrequency : Bool) : State :=
  let stand (s : State) : State := (s.onClk (fun c => { c with counting := false })).onTbs (fun t => { t with lock := false })
  match s.pwr.phase with
  | .released | .locked => stand (s.startFail 0x0002)
  | .loading => stand (s.copyFail (plainFail 0x0002) true)
  | .failed => stand s
  | .running =>
    if s.mode.mode = .freeze then s
    else if s.tbs.holdover then s.onTbs (fun t => { t with lossAt := s.tb })
    else
      ((s.onTbs (fun t => { t with holdover := true, holdSince := s.tb, lossAt := s.tb })).timeRec s.tb 0x0201 (b2n offFrequency) s.tb 0).setStop 5 true
  | .held => s

def execRefclkLoss (dt : Nat) (offFrequency : Bool) (s : State) : Host.Outcome State Fault Refusal :=
  done ((s.advance dt).refclkLoss offFrequency)

/-- `REFCLK_BACK`: REFCLK has been valid for 10 ms since its last loss, the holdover ends (R64). -/
def State.refclkBack (s : State) : State :=
  if s.tbs.holdover && s.running && decide (s.tbs.lossAt + 10000000 ≤ s.tb) then
    ((s.onTbs (fun t => { t with holdover := false })).timeRec s.tb 0x0202 0 (s.tb - s.tbs.holdSince) 0).setStop 5 false
  else s

def execRefclkBack (dt : Nat) (s : State) : Host.Outcome State Fault Refusal := done (s.advance dt).refclkBack

/-- `EPU_CALIBRATION`: a calibration that does not span the tick sets the fault bit of its unit, once, until the next release
(R71). -/
def State.epuCal (s : State) (u : Fin 11) (spans : Bool) : State :=
  let runs : Bool := match s.pwr.phase with
    | .locked | .loading => true
    | .running => s.mode.mode != .freeze
    | .held | .released | .failed => false
  if runs && !spans && !s.tbs.calFail.getLsbD u.val then
    (s.onTbs (fun t => { t with calFail := t.calFail ||| BitVec.ofNat 11 (2 ^ u.val) })).timeRec s.tb 0x0206 u.val s.tb 0
  else s

def execEpuCalibration (dt : Nat) (u : Fin 11) (spans : Bool) (s : State) : Host.Outcome State Fault Refusal :=
  done ((s.advance dt).epuCal u spans)

end Sys2Proof.Machine
end

