-- ==== Sys2Proof/Machine/Freeze.lean ====
section
/-! DEFINITION. Freeze and state capture (chapter 19): triggers and permissions, the freeze instant, readout through the TAP, the
self-dump and the restart, and the dump. -/
namespace Sys2Proof.Machine

/-! ## Triggers (R495, R496) -/

/-- This device's address as freeze records and dump headers show it: 0x40 where it holds none. -/
def State.frzAddr (s : State) : Nat := s.fab.addr.getD 0x40

/-- Has a source fabric scope? Sources: 1 pin, 2 JCP scope 0, 3 JCP scope 1, 4 fabric, 5 TAP. -/
def State.frzWide (s : State) (source : Nat) : Bool := source == 3 || (source == 1 && s.regs.FRZ_CFG_PIN_SCOPE)

/-- Why a trigger is not permitted: the first reason of R496 that applies; 0 it is permitted. -/
def State.frzReason (s : State) (source : Nat) (maint : Bool) : Nat :=
  let r := s.regs
  let on : Bool := match source with
    | 1 => r.FRZ_CFG_PIN_EN
    | 2 | 3 => r.FRZ_CFG_JCP_EN
    | 4 => r.FRZ_CFG_FAB_ACCEPT
    | _ => r.FRZ_CFG_TAP_EN
  if !on then 1
  else if !(r.FRZ_CFG_MODES.testBit (s.mode.mode.code - 2)) then 2
  else if source == 1 && r.FRZ_CFG_PIN_MAINT && !maint then 3
  else if s.frzWide source && !r.FRZ_CFG_FAB_ORIG then 4
  else 0

/-- A permitted trigger waits for its instant; of two the earlier acts (R510). -/
def State.frzPend (s : State) (t : FrzTrig) : State :=
  s.onFrz (fun f => { f with
    pending := match f.pending with
      | some p => if t.at' < p.at' then some t else some p
      | none => some t })

/-- A trigger is refused: counted and recorded. A local trigger that is refused has neither t_F nor T: the spec states no value for
that field of the record, so it is free (log 47). -/
def State.frzRefuse (s : State) (source cause stamp reason : Nat) (t : Option Nat) (origin : Nat) : State :=
  let lo := s.fresh
  let hi := lo.2.fresh
  let s1 := if t.isSome then s else hi.2
  (s1.onFrz (fun f => { f with lastRefuse := reason, refused := satInc 16 f.refused })).freezeRec stamp 0x1302 cause source reason 0xFF
    origin (t.getD ((Config.freeWord lo.1).toNat + (Config.freeWord hi.1).toNat * 0x100000000)) 0 0

/-- A trigger of this device: refused, or pending at `t`, or sent to the fabric and pending at T (R495). It answers the reason of
a refusal. -/
def State.frzLocal (s : State) (source cause stamp t : Nat) (maint : Bool) : State × Nat :=
  let why := s.frzReason source maint
  if why ≠ 0 then (s.frzRefuse source cause stamp why none s.frzAddr, why)
  else if s.frzWide source then
    let t := s.leadInstant
    let s := (s.commandSend 1 t cause).1.freezeRec stamp 0x1303 cause source 0 0xFF s.frzAddr t 0 0
    (s.frzPend { at' := t, stamp := stamp, cause := cause, source := source, origin := s.frzAddr }, 0)
  else (s.frzPend { at' := t, stamp := stamp, cause := cause, source := source, origin := s.frzAddr }, 0)

/-- `FREEZE_PIN`: FREEZE_N has been low for `FRZ_PIN_FILT`, after it was high as long; PIN_LOW is over (R495, R497). -/
def State.freezePin (s : State) (maint : Bool) : State :=
  if !s.running then s
  else (((s.onFrz (fun f => { f with pinLow := false })).frzLocal 1 0 (s.tb - nsOf s.regs.FRZ_PIN_FILT) s.tb maint)).1

def execFreezePin (dt : Nat) (maint : Bool) (s : State) : Host.Outcome State Fault Refusal := done ((s.advance dt).freezePin maint)

/-- A FREEZE entry: refused with RIGHTS from classes A and B, with STATE and the reason from class M where it is not permitted
(R496). -/
def doFreeze (wide : Bool) (cause : Nat) (c : Ctx) (s : State) : Res :=
  if c.o.cls ≠ .M then rightsNak c s
  else
    let r := s.frzLocal (if wide then 3 else 2) cause c.stamp (s.tb + 200000) false
    if r.2 = 0 then ack r.1 else nak r.1 St.state r.2

/-- `JCP_FREEZE`. -/
def execJcpFreeze (dt : Nat) (o : Origin) (fabricScope : Bool) (cause : BitVec 16) (frameAge : Nat) (s : State) :
    Host.Outcome State Fault Refusal :=
  done ((s.advance dt).entry o 7 none (fun c s => doFreeze fabricScope cause.toNat c s)
    (args := leBytes 1 (b2n fabricScope) ++ leBytes 1 0 ++ leBytes 2 cause.toNat) (age := frameAge))

/-- A FREEZE_AT, taken once: at T, or on arrival if it is later (R386, R387, R495). -/
def State.freezeAt (s : State) (origin seq instant cause : Nat) : State :=
  let q := s.fabSeen origin 7 seq
  if q.1 then q.2
  else
    let s := q.2
    let why := s.frzReason 4 false
    if why ≠ 0 then s.frzRefuse 4 cause instant why (some instant) origin
    else s.frzPend { at' := max instant s.tb, stamp := instant, cause := cause, source := 4, origin := origin }

/-- `FREEZE_AT`. -/
def execFreezeAt (dt : Nat) (origin : BitVec 6) (seq : BitVec 16) (instant : Nat) (cause : BitVec 16) (s : State) :
    Host.Outcome State Fault Refusal :=
  let s := s.advance dt
  done (if s.running then (s.frameRow none (some seq.toNat) true 0 origin.toNat 7 48).freezeAt origin.toNat seq.toNat instant cause.toNat else s)

/-! ## The dump (R507, R508) -/

/-- Bytes 0 to 63 of the dump header (Table 6); the time to the last handshake withheld is free (log 3). -/
def State.dumpHead (s : State) (f : Frozen) : List Byte :=
  [0x4A, 0x4E, 0x46, 0x44] ++ leBytes 2 1 ++ zeros 2 ++ leBytes 8 ownId ++ leBytes 8 f.tF ++ leBytes 8 f.trig.stamp
    ++ leBytes 2 f.trig.cause ++ leBytes 1 f.trig.source ++ leBytes 1 f.trig.origin ++ leBytes 4 f.late
    ++ leBytes 1 s.mode.mode.code ++ leBytes 1 s.mode.prev.code ++ leBytes 1 s.frzAddr ++ leBytes 1 f.asc.toNat
    ++ leBytes 4 (s.frz.ctl + 256 * s.frz.slot) ++ leBytes 4 (Config.freeWord f.free).toNat ++ leBytes 4 dumpLen
    ++ leBytes 8 s.ld.inForceBuild

/-- The whole header: the data half with its CRC, and its complement. It counts the words of work SRAM that the dump corrects and those it
cannot, and names the first of these. -/
def State.dumpHeader (s : State) (f : Frozen) : List Byte :=
  let bad := (s.sip.ecc.filter (·.2)).map (·.1)
  let d := s.dumpHead f ++ leBytes 4 s.ld.inForceSig.toNat ++ leBytes 4 (s.sip.ecc.filter (fun q => !q.2)).length ++ leBytes 4 bad.length
    ++ (List.range 16).flatMap (fun i => leBytes 4 (bad.getD i 0xFFFFFFFF)) ++ leBytes 4 f.safStat.toNat ++ zeros 1900
  let d := d ++ leBytes 4 (crc32 d).toNat
  d ++ complBytes d

/-- The sections of Table 5 between the header and work SRAM: first byte, byte after the last, and the address ranges of their
register blocks. -/
def dumpSections : List (Nat × Nat × List (Nat × Nat)) :=
  [(0x1000, 0x11000, [(0x10000, 0x16000)]), (0x11000, 0x29000, [(0x16000, 0x1C000), (0x20000, 0x24000)]),
    (0x29000, 0x39000, [(0, 0x10000), (0x30000, 0x50000), (0xC0000, 0xD0000)]), (0x39000, 0x59000, [(0x60000, 0x90000)]),
    (0x59000, 0x79000, [(0x90000, 0xB0000)]), (0x79000, 0x80000, [(0x50000, 0x60000)])]

/-- The register words that the tables of some blocks define, in address order. -/
def dumpRegs (rs : List (Nat × Nat)) : List Nat :=
  rs.flatMap (fun r => ((List.range ((r.2 - r.1) / 4)).map (fun i => r.1 + 4 * i)).filter (fun a => regClass a != .reserved))

/-- The word of the dump at a byte position. The places of buffers and of the pipeline image behind the registers of a section are
not stated word by word, so those words are free (log 48). -/
def State.dumpWord (s : State) (f : Frozen) (pos : Nat) : Word :=
  if pos < 0x1000 then w32 (leAt (s.dumpHeader f) pos 4)
  else if 0x80000 ≤ pos then w32 (leNat (s.sramRead (0x1000000 + pos - 0x80000) 4))
  else
    match dumpSections.find? (fun x => decide (x.1 ≤ pos) && decide (pos < x.2.1)) with
    | some x =>
      let regs := dumpRegs x.2.2
      let i := (pos - x.1) / 4
      if i = 0 then w32 regs.length
      else
        match regs[i - 1]? with
        | some a => s.regWord ⟨.M, none⟩ a
        | none => w32 (leNat ((List.range 4).map (fun j => Config.freeByte (f.free * dumpLen + pos + j))))
    | none => 0

/-- The page programs of a self-dump (R504): the dump bytes in page order into the blocks of the slot, with tags of area 2, the slot
number and continuing page sequences. No record starts in a dump page. -/
def State.dumpPages (s : State) (f : Frozen) : List NandAct :=
  let page := s.carPage
  let blks := (s.car.blks.filter (fun x => x.kind == .dump s.frz.slot)).map (·.b)
  (List.range ((dumpLen + page - 1) / page)).map (fun i =>
    let n := min page (dumpLen - i * page)
    let bytes := ((List.range (n / 4)).map (fun j => leBytes 4 (s.dumpWord f (i * page + 4 * j)).toNat)).flatten
    let b := blks.getD (i / s.carPpb) 0
    .program b (i % s.carPpb) (s.pageTag b (s.car.seq + 1 + i) 2 s.frz.slot n 0xFFFF 0) (s.pageMain bytes))

/-- The self-dump starts: the dump engine resets every online target and programs the dump (R503, R504). -/
def State.dumpStart (s : State) (f : Frozen) : State :=
  let s := s.onFrz (fun x => { x with ctl := 2 })
  s.onFrz (fun x => { x with dumpRst := s.car.tgtOn, dumpBus := s.dumpPages f })

/-! ## The freeze instant (R498 to R500, R505) -/

/-- What the half-bridges do in FREEZE: low-side ASC where `FRZ_SAFE` names the axis, its latch is clear and the VDRV switch is
closed; else all off (R499, Table 2 of the gate-drive chapter). -/
def State.frzBridges (s : State) : State :=
  let asc (n : Fin 6) : Bool :=
    s.regs.FRZ_SAFE.testBit n.val && s.axAlloc n && !s.gd.ax[axis10 n].latched && s.gd.swClosed
  let s := (List.finRange 6).foldl (fun (s : State) (n : Fin 6) =>
    s.modAx n (fun x => { x with bridge := if asc n then .ascLow else .off })) s
  let s := (List.finRange 4).foldl (fun (s : State) (x : Fin 4) => s.modAux x (fun a => { a with energised := false, soft := false })) s
  s.onGd (fun g => { g with chop := g.chop.map (fun c => { c with on := false }) })

/-- `FREEZE_INSTANT`: the counter stops at t_F and the die stands still (Table 2). The controller holds, dumps at once with
DUMP_MODE 1, or has no dump possible. -/
def State.freezeNow (s : State) : State :=
  match s.frz.pending with
  | some t =>
    if !(s.running && decide (t.at' ≤ s.tb)) then s
    else
      let f := s.fresh
      let target := s.dumpTarget
      let s := f.2.testFreeze.frzBridges
      let frozen : Frozen :=
        { trig := t, tF := s.tb, late := if t.source = 4 then s.tb - t.stamp else 0
          asc := BitVec.ofNat 6 (maskOf 6 (fun n => s.ax[(Fin.ofNat 6 n : Fin 6)].bridge == .ascLow))
          safStat := s.safStat, since := s.now, free := f.1 }
      let s := (s.putMode .freeze 0x0509).fabStop.canFreeze
      let s := (s.onClk (fun c => { c with counting := false })).onTbs (fun t => { t with mclkRun := false })
      let s := s.onSaf (fun x => { x with tpo0 := { phase := .lit }, tpo1 := { phase := .lit } })
      let s := s.onFrz (fun x => { x with
        pending := none, frozen := some frozen, tapUsed := false, pos := 0, capture := []
        ctl := if target.isNone then 4 else 1, slot := match target with | some k => k.val | none => 0xFF })
      if target.isSome && s.regs.FRZ_CFG_DUMP_MODE == 1 then s.dumpStart frozen else s
  | none => s

def execFreezeInstant (dt : Nat) (s : State) : Host.Outcome State Fault Refusal := done (s.advance dt).freezeNow

/-! ## The TAP (R501 to R503) -/

/-- Bits of some bytes, the LSB of the first first. -/
def bitsOf (bs : List Byte) : List Bool := bs.flatMap (fun b => (List.range 8).map b.getLsbD)

/-- The frozen state that the TAP reads; none outside FREEZE. -/
def State.frozenNow (s : State) : Option Frozen :=
  if s.pwr.phase == .running && s.mode.mode == .freeze then s.frz.frozen else none

/-- `FRZ_STAT`: Capture-DR loads header bytes 0 to 63; outside FREEZE a 1-bit register that captures 0 (R501). -/
def execFrzStat (dt : Nat) (s : State) : Host.Outcome State Fault Refusal :=
  let s := s.advance dt
  done (s.onFrz (fun x => { x with
    pos := 0
    capture := match s.frozenNow with
      | some f => bitsOf (s.dumpHead f)
      | none => [false] }))

/-- `FRZ_READ`: Capture-DR loads the word at the read position, or bit 0 clear where it is not ready; the other bits are then free.
The position begins at 0 when the instruction is loaded after another one (R502, log 49). -/
def State.frzRead (s : State) (ready : Bool) : State :=
  match s.frozenNow with
  | none => s.onFrz (fun x => { x with pos := 0, capture := [false] })
  | some f =>
    let s := s.onFrz (fun x => { x with tapUsed := true })
    if ready then
      let w := s.dumpWord f s.frz.pos
      s.onFrz (fun x => { x with
        capture := true :: (List.range 32).map w.getLsbD, pos := if dumpLen ≤ x.pos + 4 then 0 else x.pos + 4 })
    else
      let q := s.fresh
      q.2.onFrz (fun x => { x with capture := false :: (List.range 32).map (Config.freeWord q.1).getLsbD })

def execFrzRead (dt : Nat) (ready : Bool) (s : State) : Host.Outcome State Fault Refusal := done ((s.advance dt).frzRead ready)

/-- `FRZ_DUMP`: Update-DR with 1 starts the self-dump, unless one runs, has ended, or none is possible (R503, R505). -/
def execFrzDump (dt : Nat) (s : State) : Host.Outcome State Fault Refusal :=
  let s := s.advance dt
  done (match s.frozenNow with
    | none => s.onFrz (fun x => { x with pos := 0, capture := [false] })
    | some f =>
      let s := s.onFrz (fun x => { x with tapUsed := true, pos := 0 })
      if s.frz.ctl = 1 then s.dumpStart f else s)

/-- `FRZ_TRIG`: Update-DR is a TAP trigger; in FREEZE it is ignored (R495, R501, R510). -/
def State.frzTrig (s : State) (cause : Nat) : State :=
  let s := s.onFrz (fun x => { x with pos := 0, tapUsed := true })
  if s.running then (s.frzLocal 5 cause s.tb s.tb false).1 else s

def execFrzTrig (dt : Nat) (cause : BitVec 16) (s : State) : Host.Outcome State Fault Refusal :=
  done ((s.advance dt).frzTrig cause.toNat)

/-- `TAP_WAIT_EXPIRY`: `FRZ_TAP_WAIT` after FROZEN with DUMP_MODE 2, unless another instruction was loaded (R503). -/
def execTapWaitExpiry (dt : Nat) (s : State) : Host.Outcome State Fault Refusal :=
  let s := s.advance dt
  done (match s.frozenNow with
    | some f =>
      if s.regs.FRZ_CFG_DUMP_MODE = 2 ∧ s.frz.ctl = 1 ∧ !s.frz.tapUsed ∧ f.since + nsOf s.regs.FRZ_TAP_WAIT ≤ s.now then
        s.dumpStart f
      else s
    | none => s)

/-- `SELF_DUMP_DONE`: the device restarts as a held RESET_N of 10 µs would, with cause 5 and mode 7, or stays frozen where the
dump failed and FAIL_RESTART is clear (R504, R505). -/
def State.dumpDone (s : State) (ok : Bool) : State :=
  match s.frozenNow with
  | some f =>
    if s.frz.ctl ≠ 2 then s
    else if ok || s.regs.FRZ_CFG_FAIL_RESTART then s.toCold 5 s.now f.tF 7 false
    else s.onFrz (fun x => { x with ctl := 5 })
  | none => s

def execSelfDumpDone (dt : Nat) (ok : Bool) (s : State) : Host.Outcome State Fault Refusal := done ((s.advance dt).dumpDone ok)

end Sys2Proof.Machine
end

