-- ==== Sys2Proof/Machine/Token.lean ====
section
/-! DEFINITION. The control token and its lease (R406 to R412), and quarantine (R416, R437). -/
namespace Sys2Proof.Machine

/-- The code of a port in a TOKEN event. -/
def holderOf : Option Origin → Nat
  | some o => (match o.cls with | .A => 1 | .B => 2 | .M | .F => 0)
  | none => 0

/-- A TOKEN event (Table 7): 1 granted, 2 expired, 3 released, 4 taken, 5 quarantine. -/
def State.tokenEvent (s : State) (new : Option Origin) (why : Nat) (tie : Bool) (o : Origin) : State :=
  s.event s.tb Unit.dev 0x0F01 (holderOf new + 16 * why + 256 * b2n tie) (s.originDev o)

/-- On a device with no allocated main axis stop cause 1 stands while the token is free (R239). -/
def State.tokenStop (s : State) : State :=
  if (List.finRange 6).any s.axAlloc then s else s.setStop 1 s.cp.token.holder.isNone

/-- The token leaves its holder and is free, or goes to `new`: its record, and the staging bank (R102, R411). The record's value
is the origin that gains the token, or else the one that loses it (log 50). -/
def State.tokenLeave (s : State) (new : Option Origin) (why : Nat) (tie : Bool) : State :=
  match s.cp.token.holder with
  | none => s
  | some old =>
    ((s.onCp (fun x => { x with token := { x.token with
      holder := new, lost := (old, s.tb) :: x.token.lost.filter (fun l => l.1 != old) } })).tokenEvent new why tie
        (new.getD old)).stgEmpty.tokenStop

/-- An origin receives the token: granted where it is free, taken where it is held (R407, R409). -/
def State.tokenGrant (s : State) (o : Origin) (tie : Bool) : State :=
  let s := if s.cp.token.holder.isSome then s.tokenLeave (some o) 4 tie
    else (s.onCp (fun x => { x with token := { x.token with holder := some o } })).tokenEvent (some o) 1 tie o
  s.tokenStop.onCp (fun x => { x with token := { x.token with
    renewed := s.tb, grants := satInc 16 x.token.grants, lost := x.token.lost.filter (fun l => l.1 != o) } })

/-- Is the decision of a request due (R407)? -/
def State.tokenDue (s : State) (r : TokenReq) : Bool := decide (r.ctx.stamp + nsOf s.regs.CP_TOK_WIN ≤ s.tb)

/-- The earliest stamp of some requests. -/
def firstStamp (l : List TokenReq) : Nat := l.foldl (fun m r => min m r.ctx.stamp) ((l.head?.map (·.ctx.stamp)).getD 0)

/-- The winner of a decision among those that contend, whether there was a tie, and the state in which the port that lost it is
named next (R408). -/
def State.tokenPick (s : State) (l : List TokenReq) : Option (TokenReq × Bool) × State :=
  let tied := l.filter (fun r => r.ctx.stamp == firstStamp l)
  let named : Cls := if s.cp.token.tieB then .B else .A
  match tied with
  | [] => (none, s)
  | [r] => (some (r, false), s)
  | r :: _ =>
    let w := (tied.find? (fun q => q.ctx.o.cls == named)).getD r
    if tied.any (fun q => q.ctx.o.cls != w.ctx.o.cls) then
      (some (w, true), s.onCp (fun x => { x with token := { x.token with tieB := w.ctx.o.cls == .A } }))
    else (some (w, false), s)

/-- A decision (R407 to R409): where the token is free, the earliest of all requests pending wins; where it is held, the earliest
take that is due, with TAKE_EN. Every other request that is due is answered with BUSY, or with ACK where its origin now holds
the token. It answers the requests decided and their status. -/
def State.tokenDecide (s : State) : State × List (TokenReq × Nat) :=
  let t := s.cp.token
  let due := t.waiting.filter s.tokenDue
  if due.isEmpty then (s, [])
  else
    let contend := if t.holder.isNone then t.waiting
      else if s.regs.CP_CFG_TAKE_EN then due.filter (fun r => r.take && t.holder != some r.ctx.o) else []
    let p := s.tokenPick contend
    let s := p.2
    match p.1 with
    | some (w, tie) =>
      let s := s.tokenGrant w.ctx.o tie
      let out (r : TokenReq) : Bool := r == w || s.tokenDue r
      let answer (r : TokenReq) : TokenReq × Nat := (r, if r == w || s.holds r.ctx.o then St.ack else St.busy)
      (s.onCp (fun x => { x with token := { x.token with waiting := x.token.waiting.filter (fun r => !out r) } }),
        (t.waiting.filter out).map answer)
    | none =>
      (s.onCp (fun x => { x with token := { x.token with waiting := x.token.waiting.filter (fun r => !s.tokenDue r) } }),
        due.map (fun r => (r, if s.holds r.ctx.o then St.ack else St.busy)))

/-- A release: the token of the holder is free; from another port nothing changes (R405, R411, log 51). -/
def State.tokenRelease (s : State) (o : Origin) : State := if s.holds o then s.tokenLeave none 3 false else s

/-- `TOKEN_LEASE_EXPIRY`: the lease has run out since its last renewal (R410). -/
def State.leaseExpire (s : State) : State :=
  if s.running && s.cp.token.holder.isSome && decide (s.cp.token.renewed + nsOf s.regs.CP_LEASE ≤ s.tb) then
    (s.onCp (fun x => { x with token := { x.token with expiries := satInc 16 x.token.expiries } })).tokenLeave none 2 false
  else s

def execTokenLeaseExpiry (dt : Nat) (s : State) : Host.Outcome State Fault Refusal := done (s.advance dt).leaseExpire

/-! ## Quarantine (R416, R437) -/

/-- The unit of an origin's QUARANTINE record: its local port, or the link on which this device reaches its entry device. -/
def State.quarUnit (s : State) (o : Origin) : Nat :=
  match o.dev with
  | none => Unit.port (clsPort o.cls).val
  | some d => match s.route d.toNat with
    | .link k => Unit.link k
    | .local | .unreach => Unit.dev

/-- 32 stamps of a list lie within 1 s. -/
def burst (l : List Nat) : Bool := l.any (fun t => decide (32 ≤ (l.filter (fun u => decide (u ≤ t) && decide (t < u + 1000000000))).length))

/-- `QUARANTINE`: 32 violations within 1 s put an origin, or a CAN controller, in quarantine for 10 s; a token held is released. -/
def State.quarBegin (s : State) (q : QuarTarget) : State :=
  match q with
  | .origin o =>
    if s.running && !s.quarantined o && burst ((s.cp.viols.filter (fun v => v.1 == o)).map (·.2)) then
      let s := s.onCp (fun x => { x with quar := x.quar ++ [(o, s.tb + 10000000000)] })
      let s := s.event s.tb (s.quarUnit o) 0x0F02 (1 + 256 * clsCode o.cls) (s.originDev o)
      if s.holds o then s.tokenLeave none 5 false else s
    else s
  | .can n =>
    if s.running && s.can[n].quar.isNone && burst s.can[n].viols then
      (s.onCan (fun v => vset v n (fun x => { x with quar := some (s.tb + 10000000000) }))).event s.tb (Unit.can n) 0x0F02 (1 + 256 * 4)
        (s.fab.addr.getD 0)
    else s

def execQuarantine (dt : Nat) (q : QuarTarget) (s : State) : Host.Outcome State Fault Refusal := done ((s.advance dt).quarBegin q)

/-- `QUARANTINE_END`: after 10 s; the next request of a local port takes any SEQ (R401). -/
def State.quarEnd (s : State) (q : QuarTarget) : State :=
  match q with
  | .origin o =>
    if s.running && s.cp.quar.any (fun x => x.1 == o && decide (x.2 ≤ s.tb)) then
      let s := s.onCp (fun x => { x with
        quar := x.quar.filter (fun y => y.1 != o)
        viols := x.viols.filter (fun v => v.1 != o || decide (s.tb < v.2 + 1000000000))
        ports := if o.dev.isNone then vset x.ports (clsPort o.cls) (fun p => { p with seqRef := none }) else x.ports })
      s.event s.tb (s.quarUnit o) 0x0F02 (256 * clsCode o.cls) (s.originDev o)
    else s
  | .can n =>
    if s.running && (match s.can[n].quar with | some t => decide (t ≤ s.tb) | none => false) then
      (s.onCan (fun v => vset v n (fun x => { x with quar := none }))).event s.tb (Unit.can n) 0x0F02 (256 * 4) (s.fab.addr.getD 0)
    else s

def execQuarantineEnd (dt : Nat) (q : QuarTarget) (s : State) : Host.Outcome State Fault Refusal := done ((s.advance dt).quarEnd q)

end Sys2Proof.Machine
end

