-- ==== Sys2Proof/Machine/Write.lean ====
section
/-! DEFINITION. Writes of register words: access codes and rights (R17), reserved bits (R19), pairs (R20 to R22), the staging
bank (R101, R102), the acceptance of a COMMIT (R103), mode requests (R111 to R115), and the WRITE entry (R398). -/
namespace Sys2Proof.Machine

/-! ## Staging and COMMIT -/

/-- A write of an RS word enters the bank (R101). Reserved bits are ignored (R19, log 42). The range is tested before the lock of the
bank (DESIGN CHOICE, log 114). -/
def doStage (a : Nat) (r : RegRow) (c : Ctx) (s : State) (w : Word) : Res :=
  needRights false c s fun s =>
    let w := w &&& w32 (rowMask r)
    if !rowAdmits r w then nak s St.range
    else if s.stg.commit.isSome then nak s St.state
    else
      let v := rowNorm r w
      if s.stg.bank.any (fun b => b.1 == a) then
        ack (s.onStg (fun x => { x with bank := x.bank.map (fun b => if b.1 = a then (a, v) else b) }))
      else if 1024 ≤ s.stg.bank.length then nak s St.state
      else ack (s.onStg (fun x => { x with bank := x.bank ++ [(a, v)] }))

/-- A write of `DEV_STG_DISCARD` (R102). -/
def doStgDiscard (c : Ctx) (s : State) (w : Word) : Res :=
  needRights false c s fun s =>
    if !bit w 0 then ack s
    else if s.stg.commit.isSome then nak s St.state
    else ack s.stgEmpty

/-- A COMMIT refused by reason concludes at once (R103). Its record has a field for an instant of acceptance, which a refused
COMMIT does not have: the spec states no value, so the field is free (log 43). -/
def State.commitRefuse (s : State) (tag port code : Nat) : Res :=
  let lo := s.fresh
  let hi := lo.2.fresh
  nak (hi.2.commitEnd tag port ((Config.freeWord lo.1).toNat + (Config.freeWord hi.1).toNat * 0x100000000) 2 code none
    s.stg.bank.length) St.state code

/-- Completion of the pair of `DEV_COMMIT` (R103). -/
def doCommit (c : Ctx) (s : State) (w : Word) : Res :=
  needRights false c s fun s =>
    let tag := fld w 0 16
    let port := (clsPort c.o.cls).val
    if !(s.mode.mode == .hold || s.mode.mode == .drive || s.mode.mode == .limp) then s.commitRefuse tag port 0x0402
    else if s.stg.bank.isEmpty then s.commitRefuse tag port 0x0401
    else if s.stg.commit.isSome then nak s St.state
    else ack (s.onStg (fun x => { x with commit := some { tag := BitVec.ofNat 16 tag, port := port, at' := s.tb, verdict := none } }))

/-! ## Mode requests -/

/-- The blocking conditions of R113 that hold, coded as `DEV_MODE_BLOCK` [5:0]. -/
def State.blockBits (s : State) : Nat :=
  maskOf 6 (fun b => match b with
    | 0 => s.mode.mode == .safe || !s.saf.latched.isEmpty || !(s.demands s.saf.cobalt).isEmpty || !(s.demands s.saf.bronze).isEmpty
    | 1 => s.mode.stop != 0
    | 2 => s.tbs.holdover
    | 3 => s.tick.holdoff
    | 4 => s.gd.uv
    | _ => s.cp.image.state != 0)

/-- `DEV_MODE_BLOCK` is rewritten (Table 10). -/
def State.putBlock (s : State) (b : Nat) : State := s.onMode (fun m => { m with block := BitVec.ofNat 8 b })

/-- Completion of the pair of `DEV_MODE_REQ` (R111 to R115). A drive request finds stop cause 1 clear (R239). -/
def doModeReq (c : Ctx) (s : State) (w : Word) : Res :=
  needRights false c s fun s =>
    let port := (clsPort c.o.cls).val
    match fld w 0 2 with
    | 0 => nak s St.range
    | 1 =>
      let b := (s.setStop 1 false).blockBits
      if s.mode.mode ≠ .hold then nak (s.putBlock (b + 0x40)) St.state
      else if b ≠ 0 then nak (s.putBlock b) St.state
      else ack ((s.putBlock 0).onMode (fun m => { m with
        drivePending := some (m.drivePending.getD { port := port, at' := s.tb, tested := false }) }))
    | 2 => if s.mode.mode = .drive ∨ s.mode.mode = .limp then ack (s.setStop 6 true) else nak s St.state
    | _ =>
      if s.mode.mode = .limp ∧ s.degr = 0 then ack (s.onMode (fun m => { m with limpAck := some (m.limpAck.getD port) }))
      else nak s St.state

/-! ## RW words without an effect of their own -/

/-- Is there no room to hold a pending pair or a staging index of one more origin (R404)? -/
def State.originFull (s : State) (o : Origin) : Bool :=
  let held := (s.stg.pairs.map (·.1) ++ s.stg.index.map (·.1)).foldl (fun (l : List Origin) x => if l.contains x then l else l ++ [x]) []
  !held.contains o && decide (8 ≤ held.length)

/-- A write of `DEV_STG_IDX`: held per origin (R404). An index of 0 is the reset value and takes no room (log 44). -/
def doStgIdx (c : Ctx) (s : State) (w : Word) : Res :=
  needRights false c s fun s =>
    if s.originFull c.o then nak s St.state
    else
      ack (s.onStg (fun x => { x with
        index := x.index.filter (fun i => i.1 != c.o) ++ (if fld w 0 10 = 0 then [] else [(c.o, fld w 0 10)]) }))

/-- A word that is held as written when its fields are in range and its unit is there. -/
def doHold (there : Bool) (a : Nat) (r : RegRow) (c : Ctx) (s : State) (w : Word) : Res :=
  needRights false c s fun s =>
    if !rowAdmits r w then nak s St.range
    else if !there then nak s St.state
    else ack (s.onRegs (fun g => g.set a (rowNorm r w)))

/-- A write of `CP_Pp_CLR` (R405). -/
def doPortErrClr (p : Fin 3) (c : Ctx) (s : State) (w : Word) : Res :=
  needRights true c s fun s =>
    ack (if bit w 0 then s.onCp (fun x => { x with ports := vset x.ports p (fun q => { q with viol := 0, malf := 0 }) }) else s)

/-! ## The words that act -/

/-- A write of an RW or WC word of the DEV block. -/
def actDev (a : Nat) (c : Ctx) (s : State) (w : Word) : Res :=
  if a = Reg.DEV_STG_DISCARD then doStgDiscard c s w
  else if a = Reg.DEV_COMMIT then doCommit c s w
  else if a = Reg.DEV_STG_IDX then doStgIdx c s w
  else if a = Reg.DEV_MODE_REQ then doModeReq c s w
  else if a = Reg.DEV_AXCLR then doAxisClear c s w
  else doTickClr c s w

/-- Of a main axis. -/
def actAx (n : Fin 6) (a : Nat) (r : RegRow) (c : Ctx) (s : State) (w : Word) : Res :=
  if a = Reg.AXn_SNT_CLR n then doSntClr (axis10 n) c s w
  else if a = Reg.AXn_CMD n then doAxisCmd n c s w
  else if a = Reg.AXn_CMD_SET n then doAxisSet n c s w
  else if a = Reg.AXn_HC_IN_V n then doHold (s.axAlloc n) a r c s w
  else if a = Reg.AXn_HC_IN_A n then doHeaveA n c s w
  else doCrash n c s w

/-- Of an auxiliary axis. -/
def actAux (x : Fin 4) (a : Nat) (c : Ctx) (s : State) (w : Word) : Res :=
  if a = Reg.AUXn_SNT_CLR x then doSntClr (aux10 x) c s w
  else if a = Reg.AUXn_LIM_CLR x then doLimClr x c s w
  else if a = Reg.AUXn_CMD x then doAuxCmd x c s w
  else if a = Reg.AUXn_CMD_SET x then doAuxSet x c s w
  else doAuxPos x c s w

/-- Of a CAN controller: a write to the identifier, format or data of a pending slot is refused (R438). -/
def actCan (n : Fin 2) (a : Nat) (r : RegRow) (c : Ctx) (s : State) (w : Word) : Res :=
  let d := a - Reg.CANn_TXHh_ID n 0
  let h : Fin 4 := Fin.ofNat 4 (d / 0x80)
  if a = Reg.CANn_CMD n then doCanCmd n c s w
  else if d % 0x80 = 8 then doCanHost n h c s w
  else doHold (s.canSends n && s.can[n].host[h].state != 1) a r c s w

/-- Of the recorder. -/
def actCar (maint : Bool) (a : Nat) (r : RegRow) (c : Ctx) (s : State) (w : Word) : Res :=
  if a = Reg.CAR_CMD then doCarCmd maint c s w
  else if a = Reg.CAR_RPL_RD then doRplRd c s w
  else doHold s.regs.CAR_CFG_EN a r c s w

/-- An RW or WC word is written (R16): its effect at once. Bits that are set and reserved are ignored (R19). -/
def actWord (maint : Bool) (a : Nat) (r : RegRow) (c : Ctx) (s : State) (w : Word) : Res :=
  let w := w &&& w32 (rowMask r)
  if a < 0x8000 then actDev a c s w
  else if a < 0x20000 then actAx (Fin.ofNat 6 ((a - 0x10000) / 0x2000)) a r c s w
  else if a < 0x30000 then actAux (Fin.ofNat 4 ((a - 0x20000) / 0x1000)) a c s w
  else if a < 0x40000 then (if a = Reg.GD_CHP_CLR then doChopClear c s w else doSelfTest c s w)
  else if a < 0x50000 then doRcnClr (Fin.ofNat 6 ((a - Reg.SNS_AXn_RCN_CLR 0) / 64)) c s w
  else if a < 0x70000 then doLinkErrClr (Fin.ofNat 6 ((a - Reg.FAB_Lk_CLR 0) / 64)) c s w
  else if a < 0x80000 then doPortErrClr (Fin.ofNat 3 ((a - Reg.CP_Pp_CLR 0) / 32)) c s w
  else if a < 0x90000 then actCan (Fin.ofNat 2 ((a - 0x80000) / 0x8000)) a r c s w
  else if a < 0xA0000 then
    if a = Reg.SIP_CMD then doSipRestart c s w
    else
      let k : Fin 32 := Fin.ofNat 32 ((a - 0x90800) / 64)
      if a = Reg.SIP_CHc_HEAD k then doSipHead k c s w else doSipCmd k c s w
  else actCar maint a r c s w

/-- A word acts with the access code of its row (R16, R20). -/
def actAcc (maint : Bool) (a : Nat) (r : RegRow) (c : Ctx) (s : State) (w : Word) : Res :=
  match r.acc with
  | .RO | .RI => rightsNak c s
  | .RS => doStage a r c s w
  | .W1C => needRights false c s (fun s => ack (s.onRegs (fun g => g.set a (g.get a &&& ~~~ w))))
  | .RW | .WC => actWord maint a r c s w

/-! ## One write -/

/-- May an origin write the value word of a paired row (R17, R101, R405)? Who owns a channel or a replay is decided when the
pair completes. -/
def pairRights (a : Nat) (r : RegRow) (c : Ctx) (s : State) : Bool :=
  match r.acc with
  | .RO | .RI => false
  | .RS | .RW | .W1C => s.holds c.o
  | .WC =>
    if 0x90000 ≤ a then true
    else s.holds c.o || (c.o.cls == .M && (a == Reg.DEV_AXCLR || a == Reg.GD_ST_CMD))

/-- A write of an aligned register word while no pair of its origin is open. -/
def doReg (maint : Bool) (a : Nat) (c : Ctx) (s : State) (w : Word) : Res :=
  match regClass a with
  | .reserved => nak s St.range
  | .compl _ => nak s St.pair
  | .value r =>
    if !r.pair then actAcc maint a r c s w
    else if !pairRights a r c s then rightsNak c s
    else if s.originFull c.o then nak s St.state
    else ack (s.onStg (fun x => { x with pairs := x.pairs ++ [(c.o, a, w)] }))

/-- A write of one word (R17, R19, R20, R21, R514, R515, R517). Any write but the matching complement breaks an open pair of
its origin, whatever its target (log 45). A write whose ADDR is no multiple of 4 is answered with RANGE first and keeps the pair open
(DESIGN CHOICE, log 45). -/
def doWrite (maint : Bool) (a : Nat) (c : Ctx) (s : State) (w : Word) : Res :=
  if a % 4 ≠ 0 then nak s St.range
  else
    match s.pairOf c.o with
    | some (x, v) =>
      let s := s.pairDrop c.o
      if a = x + 4 ∧ w = ~~~ v then
        match regRow? x with
        | some r => actAcc maint x r c s v
        | none => nak s St.pair
      else nak s St.pair
    | none =>
      match areaOf a with
      | .absent => nak s St.range
      | .keep => rightsNak c s
      | .sram => doSramWrite a c s w
      | .regs => doReg maint a c s w

/-- Consecutive words in ascending order, each a write of its own, until one is not done (R398). -/
def writeWords (maint : Bool) (c : Ctx) (a i : Nat) : List Word → State → Res
  | [], s => ack s
  | w :: ws, s =>
    let r := doWrite maint a c s w
    if r.2.status = St.ack then writeWords maint c (a + 4) (i + 1) ws r.1 else (r.1, { r.2 with index := i, data := [] })

/-! ## The rows -/

/-- `REGISTER_WRITE`. -/
def execRegisterWrite (dt : Nat) (o : Origin) (maint : Bool) (addr value : Word) (s : State) : Host.Outcome State Fault Refusal :=
  done ((s.advance dt).entry o 2 (some addr.toNat) (fun c s => doWrite maint addr.toNat c s value) (raw := true)
    (ws := [value]) (maint := maint))

/-- `STAGED_WRITE`: the completed write of an RS word; of any other word, the write of that word. -/
def execStagedWrite (dt : Nat) (o : Origin) (addr value : Word) (s : State) : Host.Outcome State Fault Refusal :=
  match regRow? addr.toNat with
  | some r =>
    if r.acc = .RS then
      done ((s.advance dt).entry o 2 (some addr.toNat) (fun c s => doStage addr.toNat r c s value)
        (ws := [value, ~~~value]))
    else done ((s.advance dt).entry o 2 (some addr.toNat) (fun c s => doWrite false addr.toNat c s value) (raw := true) (ws := [value]))
  | none => done ((s.advance dt).entry o 2 (some addr.toNat) (fun c s => doWrite false addr.toNat c s value) (raw := true) (ws := [value]))

/-- `STG_DISCARD`. -/
def execStgDiscard (dt : Nat) (o : Origin) (w : Word) (s : State) : Host.Outcome State Fault Refusal :=
  done ((s.advance dt).entry o 2 (some Reg.DEV_STG_DISCARD) (fun c s => doStgDiscard c s w) (ws := [w]))

/-- `COMMIT`. -/
def execCommit (dt : Nat) (o : Origin) (tag : BitVec 16) (s : State) : Host.Outcome State Fault Refusal :=
  done ((s.advance dt).entry o 2 (some Reg.DEV_COMMIT) (fun c s => doCommit c s (w32 tag.toNat)) (ws := [w32 tag.toNat]))

/-- `DRIVE_REQUEST`. -/
def execDriveRequest (dt : Nat) (o : Origin) (s : State) : Host.Outcome State Fault Refusal :=
  done ((s.advance dt).entry o 2 (some Reg.DEV_MODE_REQ) (fun c s => doModeReq c s 1) (ws := [1]))

/-- `HOLD_REQUEST`. -/
def execHoldRequest (dt : Nat) (o : Origin) (s : State) : Host.Outcome State Fault Refusal :=
  done ((s.advance dt).entry o 2 (some Reg.DEV_MODE_REQ) (fun c s => doModeReq c s 2) (ws := [2]))

/-- `LIMP_ACKNOWLEDGE`. -/
def execLimpAcknowledge (dt : Nat) (o : Origin) (s : State) : Host.Outcome State Fault Refusal :=
  done ((s.advance dt).entry o 2 (some Reg.DEV_MODE_REQ) (fun c s => doModeReq c s 3) (ws := [3]))

/-- `PORT_ERR_CLR`. -/
def execPortErrClr (dt : Nat) (o : Origin) (p : Fin 3) (w : Word) (s : State) : Host.Outcome State Fault Refusal :=
  done ((s.advance dt).entry o 2 (some (Reg.CP_Pp_CLR p)) (fun c s => doPortErrClr p c s w) (ws := [w]))

/-- `JCP_WRITE`. -/
def execJcpWrite (dt : Nat) (o : Origin) (maint : Bool) (addr : Word) (words : List Word) (s : State) :
    Host.Outcome State Fault Refusal :=
  done ((s.advance dt).entry o 2 (some addr.toNat) (fun c s =>
    if words.isEmpty ∨ 256 < words.length ∨ addr.toNat % 4 ≠ 0 then nak s St.range else writeWords maint c addr.toNat 0 words s) (raw := true)
    (ws := words) (maint := maint))

end Sys2Proof.Machine
end

