-- ==== Sys2Proof/Machine/Port.lean ====
section
/-! DEFINITION. The control ports (chapter 15): JCP frames and their checks, the execution of a frame entry by entry, token
requests that wait for a decision, image writing, safety envelopes over a port, forwarding, and the port forms. -/
namespace Sys2Proof.Machine

/-! ## Frames (Tables 2 and 3) -/

/-- A frame: header, body, CRC-32. `kind`: 1 request, 2 reply, 3 event. -/
def jcpFrame (kind tag seq dest count : Nat) (body : List Byte) : List Byte :=
  let b := leBytes 1 1 ++ leBytes 1 kind ++ leBytes 2 tag ++ leBytes 2 seq ++ leBytes 1 dest ++ leBytes 1 count
    ++ leBytes 2 body.length ++ zeros 2 ++ body
  b ++ leBytes 4 (crc32 b).toNat

/-- Is the frame of a request whole: length, CRC, VER, KIND, DEST, COUNT, LEN and the reserved bytes (Table 4, MALFORMED)? -/
def frameOk (b : List Byte) : Bool :=
  let len := leAt b 8 2
  decide (b.length = 16 + len) && decide (8 ≤ len) && decide (len ≤ 4080) && len % 4 == 0
    && byteAt b 0 == 1 && byteAt b 1 == 1 && decide (byteAt b 6 ≤ 0x40)
    && decide (1 ≤ byteAt b 7) && decide (byteAt b 7 ≤ 32) && leAt b 10 2 == 0
    && leAt b (12 + len) 4 == (crc32 (b.take (12 + len))).toNat

/-- Are the argument bytes of an operation well formed (Table 3)? Their values are judged when the entry is executed. -/
def argsOk (op : Nat) (a : List Byte) : Bool :=
  match op with
  | 1 => a.length == 8 && leAt a 6 2 == 0
  | 2 => a.length == 8 + 4 * leAt a 4 2 && leAt a 6 2 == 0
  | 3 => a.length == 4 && leAt a 1 3 == 0
  | 4 => a.isEmpty
  | 5 => a.length == 4 && byteAt a 1 == 0
  | 6 => decide (4 ≤ a.length) && leAt a 1 3 == 0 &&
    (match byteAt a 0 with
      | 2 => a.length == 12 + leAt a 8 2 && leAt a 10 2 == 0
      | 3 => a.length == 68
      | _ => a.length == 4)
  | 7 => a.length == 4 && byteAt a 1 == 0
  | 8 => a.length == 24
  | _ => false

/-- A length padded to a multiple of 4. -/
def pad4 (n : Nat) : Nat := (n + 3) / 4 * 4

/-- The entries of a body, `none` where one is malformed or they do not fill it. -/
def parseEntries : Nat → List Byte → Option (List Entry)
  | 0, b => if b.isEmpty then some [] else none
  | n + 1, b =>
    let op := byteAt b 0
    let len := leAt b 2 2
    let a := (b.drop 4).take len
    let full := 4 + pad4 len
    if b.length < full ∨ byteAt b 1 ≠ 0 ∨ argsOk op a = false ∨ ((b.take full).drop (4 + len)).any (fun x => x != 0) then none
    else (parseEntries n (b.drop full)).map (fun t => ⟨op, a⟩ :: t)

/-- The entries of a whole frame. -/
def frameEntries (b : List Byte) : Option (List Entry) := parseEntries (byteAt b 7) ((b.drop 12).take (leAt b 8 2))

/-- A reply entry (Table 3). -/
def replyEntry (x : Nat × Reply) : List Byte :=
  leBytes 1 x.2.status ++ leBytes 1 x.1 ++ leBytes 2 x.2.detail ++ leBytes 2 x.2.index ++ leBytes 2 x.2.data.length ++ x.2.data

/-- The DEST of what this device sends: its address, or 0x40 where it holds none. -/
def State.ownDest (s : State) : Nat := s.fab.addr.getD 0x40

/-- The reply frame of some reply entries. -/
def State.replyFrame (s : State) (tag seq : Nat) (l : List (Nat × Reply)) : List Byte :=
  jcpFrame 2 tag seq s.ownDest l.length (l.flatMap replyEntry)

/-- The answers of a whole frame that is refused: the first entry has the status, the later ones are skipped (R398, log 52). -/
def refusal (b : List Byte) (st : Nat) : List (Nat × Reply) :=
  match frameEntries b with
  | some (e :: t) => (e.op, { status := st }) :: t.map (fun x => (x.op, { status := St.skipped }))
  | _ => [(0, { status := st })]

/-- The bytes of the largest reply that an entry can give (R399). -/
def roomOf (e : Entry) : Nat :=
  match e.op with
  | 1 => 8 + 4 * leAt e.args 4 2
  | 5 => 8 + leAt e.args 2 2
  | 3 | 6 => 12
  | _ => 8

/-! ## Ports -/

/-- Change one port. -/
def State.modPort (s : State) (p : Fin 3) (f : PortSt → PortSt) : State := s.onCp (fun x => { x with ports := vset x.ports p f })

/-- The form of a port: 0 off, 1 data-strobe, 2 SPI (R394); the maintenance port is a UART, coded 3. -/
def State.portForm (s : State) (p : Fin 3) : Nat :=
  match p with
  | 0 => s.regs.CP_CFG_FORM_A
  | 1 => s.regs.CP_CFG_FORM_B
  | 2 => 3

/-- The class of what enters at a port (R405). -/
def portCls (p : Fin 3) : Cls :=
  match p with
  | 0 => .A
  | 1 => .B
  | 2 => .M

/-- A FRAME_CP record (R421). -/
def State.frameCp (s : State) (p : Fin 3) (sent : Bool) (time : Nat) (b : List Byte) : State :=
  if s.regs.CP_REC_SEL.testBit p.val then
    s.emit time (Unit.port p.val) 5 0
      (leBytes 1 p.val ++ leBytes 1 (b2n sent) ++ zeros 2 ++ leBytes 4 b.length ++ (b.take 12 ++ zeros (12 - b.length)) ++ zeros 4)
  else s

/-- A queue without its oldest event frame. -/
def dropEvent : List OutFrame → List OutFrame
  | [] => []
  | f :: t => if f.event then t else f :: dropEvent t

/-- Does a port send what it is given: one that is off answers nothing, and a data-strobe port must be up (R394, R395)? -/
def State.portOpen (s : State) (p : Fin 3) : Bool := s.portForm p != 0 && (s.portForm p != 1 || s.cp.ports[p].up)

/-- The rate of the maintenance port: 115,200 baud in COLD and LOAD, and else that of the image (R397). -/
def State.mntBaud (s : State) : Rat := if s.pwr.phase = .running then s.regs.CP_MNT_BAUD else 115200

/-- The bit edge number `i` at a rate, from the edge of the first start bit: on the 2 ns tick nearest to its ideal instant (R397). -/
def bitEdge (baud : Rat) (i : Nat) : Nat := 2 * ((i : Rat) * 500000000 / baud + 1 / 2).floor.toNat

/-- When the line of the maintenance port has sent what it was given. -/
def MntTx.till (x : MntTx) : Nat := x.at' + bitEdge x.baud (10 * x.chars.length)

/-- A frame goes on the line of the maintenance port, behind the bytes 0xA5 and 0x5A (R397). -/
def State.mntPut (s : State) (b : List Byte) : State :=
  s.modPort 2 (fun q => { q with
    line := q.line ++ [⟨q.line.foldl (fun m x => max m x.till) s.now, s.mntBaud, 0xA5 :: 0x5A :: b⟩] })

/-- A frame leaves on a port: at once, or through the queue of an SPI-form port, where the oldest event gives way and replies
are never dropped (R396). -/
def State.portSend (s : State) (p : Fin 3) (event : Bool) (b : List Byte) : State :=
  if !s.portOpen p then s
  else if s.portForm p = 2 then
    s.modPort p (fun q =>
      let all := q.queue ++ [⟨event, b⟩]
      { q with queue := if 16 ≤ q.queue.length then dropEvent all else all })
  else
    let s := (s.frameCp p true s.tb b).modPort p (fun q => { q with sent := q.sent ++ [b] })
    if p = 2 then s.mntPut b else s

/-- An event frame of one SAFE entry leaves on a port, with the port's event count as its SEQ (Table 2, R419). -/
def State.eventSend (s : State) (p : Fin 3) (envelope : List Byte) : State :=
  let n := s.cp.ports[p].evSeq
  if !s.portOpen p then s else (s.portSend p true (jcpFrame 3 0 n s.ownDest 1 (leBytes 1 8 ++ leBytes 1 0 ++ leBytes 2 24 ++ envelope))).modPort p
    (fun q => { q with evSeq := (n + 1) % 65536 })

/-- The level of the GPIO named in `CP_CFG.IRQ_GPIO` where `IRQ_EN` is set: high while an SPI-form port has a frame queued
(R396). -/
def State.irqLevel (s : State) : Bool :=
  s.regs.CP_CFG_IRQ_EN && ([0, 1] : List (Fin 3)).any (fun p => s.portForm p == 2 && !s.cp.ports[p].queue.isEmpty)

/-- The reply of a request leaves on its port; it is kept for a repeat (R401, R402). -/
def State.portReply (s : State) (p : Fin 3) (seq : Nat) (b : List Byte) : State :=
  (s.modPort p (fun q => { q with
    inFlight := q.inFlight - 1, cached := if q.seqRef = some seq then some b else q.cached })).portSend p false b

/-! ## Image writing (R92, R418) -/

/-- `CP_IMG_STAT` as reply data. -/
def State.imgData (s : State) (o : Origin) : List Byte := leBytes 4 (s.valueWord o 0x70100).toNat

/-- Does an entry come from the owner of the session that is in a state? -/
def State.imgOwned (s : State) (o : Origin) (st : Nat) : Bool :=
  s.cp.image.state == st && s.cp.image.owner == some o && s.mode.mode == .hold

/-- Change the image session. -/
def State.modImg (s : State) (f : ImgSession → ImgSession) : State := s.onCp (fun x => { x with image := f x.image })

/-- The copy that is not in force. -/
def State.idleCopy (s : State) : Bool := !s.ld.alt

/-- An IMAGE event (Table 7). -/
def State.imgEvent (s : State) (what : Nat) : State := s.event s.tb (Unit.port 2) 0x0F03 what s.cp.image.bytes

/-- Every IMAGE entry is for class M alone, and one of the owner renews its session's 60 s. -/
def imgEntry (k : Ctx → State → Res) (c : Ctx) (s : State) : Res :=
  if c.o.cls ≠ .M then rightsNak c s
  else k c (if s.cp.image.owner = some c.o then s.modImg (fun i => { i with lastAt := s.tb }) else s)

/-- IMAGE begin: the copy not in force is erased. -/
def doImageBegin (maint : Bool) : Ctx → State → Res :=
  imgEntry fun c s =>
    if s.mode.mode ≠ .hold ∨ maint = false ∨ s.cp.image.state ≠ 0 then nak s St.state
    else
      let s := s.onCp (fun x => { x with
        image := { state := 1, result := 0, owner := some c.o, bytes := 0, lastAt := s.tb }
        flash := x.flash ++ flashErase s.idleCopy })
      let s := s.imgEvent 1
      ack s (s.imgData c.o)

/-- IMAGE data. -/
def doImageData (offset : Nat) (bytes : List Byte) : Ctx → State → Res :=
  imgEntry fun c s =>
    if !s.imgOwned c.o 2 then nak s St.state
    else if offset < 64 ∨ offset % 4 ≠ 0 ∨ bytes.length % 4 ≠ 0 ∨ 2048 < bytes.length ∨ 0x100000 < offset + bytes.length then
      nak s St.range
    else
      let s := s.onCp (fun x => { x with
        image := { x.image with bytes := x.image.bytes + bytes.length }
        flash := x.flash ++ flashWrite s.idleCopy offset bytes })
      ack s (s.imgData c.o)

/-- IMAGE end: HCRC of the header is checked; a good header is written, and the verification starts. -/
def doImageEnd (header : List Byte) : Ctx → State → Res :=
  imgEntry fun c s =>
    if !s.imgOwned c.o 2 then nak s St.state
    else if header.length ≠ 64 then nak s St.range
    else if (crc32 (header.take 60)).toNat ≠ leAt header 60 4 then
      let s := (s.modImg (fun i => { i with state := 0, result := 4, owner := none })).imgEvent 5
      ack s (s.imgData c.o)
    else
      let s := s.onCp (fun x => { x with
        image := { x.image with state := 3 }
        flash := x.flash ++ flashWrite s.idleCopy 0 header })
      ack s (s.imgData c.o)

/-- IMAGE abort. -/
def doImageAbort : Ctx → State → Res :=
  imgEntry fun c s =>
    if s.cp.image.state = 0 ∨ s.cp.image.owner ≠ some c.o then nak s St.state
    else let s := s.imgAbandon; ack s (s.imgData c.o)

/-- `IMAGE_ERASE_DONE`. -/
def State.imgErased (s : State) : State :=
  if s.running && s.cp.image.state == 1 then s.modImg (fun i => { i with state := 2 }) else s

/-- `IMAGE_VERIFY_DONE`. The header counts among the bytes written. -/
def State.imgVerified (s : State) (ok : Bool) : State :=
  if s.running && s.cp.image.state == 3 then
    (s.modImg (fun i => { i with
      state := 0, owner := none, result := if ok then 1 else 3, bytes := i.bytes + 64 })).imgEvent (if ok then 2 else 4)
  else s

/-- `IMAGE_SESSION_TIMEOUT`: 60 s without an IMAGE entry of the owner. -/
def State.imgTimeout (s : State) : State :=
  if s.running && s.cp.image.state != 0 && decide (s.cp.image.lastAt + 60000000000 ≤ s.tb) then s.imgAbandon else s

/-! ## Safe messages (R419) -/

/-- A SAFE entry: an envelope for every consumed connection of this port; it is never forwarded. -/
def doSafe (envelope : List Byte) (c : Ctx) (s : State) : Res :=
  let p := (clsPort c.o.cls).val
  let conns := (List.finRange 16).filter (fun k => s.consumes k && s.regs.SAF_CONc_CFG_CH k == 1 && s.regs.SAF_CONc_ADDR k % 2 == p)
  if c.o.cls = .M ∨ c.o.cls = .F ∨ c.o.dev.isSome ∨ conns.isEmpty then rightsNak c s
  else if envelope.length ≠ 24 then nak s St.malformed
  else ack (conns.foldl (fun (s : State) (k : Fin 16) => s.envelopeIn k envelope c.stamp) s)

/-! ## Entries of a frame -/

/-- `CP_TOK_STAT` as reply data. -/
def State.tokData (s : State) (o : Origin) : List Byte := leBytes 4 (s.valueWord o 0x70020).toNat

/-- TOKEN release and status; a SUB that Table 3 does not name. -/
def doToken (sub : Nat) (c : Ctx) (s : State) : Res :=
  match sub with
  | 4 => ack s (s.tokData c.o)
  | 2 => if c.o.cls = .M then rightsNak c s else let s := s.tokenRelease c.o; ack s (s.tokData c.o)
  | _ => if sub = 1 ∨ sub = 3 then rightsNak c s else nak s St.range

/-- Does an entry ask for the token and wait for its decision (R407)? -/
def isTokenWait (o : Origin) (e : Entry) : Bool :=
  e.op == 3 && (byteAt e.args 0 == 1 || byteAt e.args 0 == 3) && (o.cls == .A || o.cls == .B)

/-- An entry that is served and does not wait (Table 3). -/
def entryDo (maint : Bool) (e : Entry) (c : Ctx) (s : State) : Res :=
  let a := e.args
  match e.op with
  | 1 => if leAt a 4 2 = 0 ∨ 256 < leAt a 4 2 then nak s St.range else doRead (leAt a 0 4) (leAt a 4 2) c s
  | 2 =>
    let ws := bytesWords (a.drop 8)
    if ws.isEmpty ∨ 256 < ws.length ∨ leAt a 0 4 % 4 ≠ 0 then nak s St.range else writeWords maint c (leAt a 0 4) 0 ws s
  | 3 => doToken (byteAt a 0) c s
  | 4 => ack s
  | 5 => if 32 ≤ byteAt a 0 then nak s St.range else doFetch (Fin.ofNat 32 (byteAt a 0)) (leAt a 2 2) c s
  | 6 =>
    match byteAt a 0 with
    | 1 => doImageBegin maint c s
    | 2 => doImageData (leAt a 4 4) (a.drop 12) c s
    | 3 => doImageEnd (a.drop 4) c s
    | 4 => doImageAbort c s
    | _ => nak s St.range
  | 7 => if 1 < byteAt a 0 then nak s St.range else doFreeze (byteAt a 0 == 1) (leAt a 2 2) c s
  | _ => doSafe a c s

/-- The address that an entry concerns. -/
def entryAddr (e : Entry) : Option Nat := if e.op = 1 ∨ e.op = 2 then some (leAt e.args 0 4) else none

/-- What `State.gate` looks at of an entry: address and words of a READ, or 0 and the SUB of a TOKEN entry. -/
def gateArgs (e : Entry) : Nat × Nat :=
  if e.op = 1 then (leAt e.args 0 4, leAt e.args 4 2) else (0, if e.op = 3 then byteAt e.args 0 else 0)

/-- What the execution of the entries of a frame has come to. -/
inductive ExecEnd where
  | finished
  | waiting
  deriving DecidableEq, Repr

/-- Execute the entries that are left, in order (R398, R399): the first that does not return ACK skips the rest; a token request
waits. Where the device no longer answers, the frame is given up. -/
def runEntries : List Entry → FrameExec → State → FrameExec × State × ExecEnd
  | [], f, s => ({ f with rest := [] }, s, .finished)
  | e :: rest, f, s =>
    if f.done.any (fun d => d.2.status != St.ack) then
      runEntries rest { f with done := f.done ++ [(e.op, { status := St.skipped })] } s
    else
      let c := { f.ctx with op := e.op }
      let g := gateArgs e
      match s.gateIn c.o e.op g.1 g.2 with
      | .silent => ({ f with rest := [], wanted := false }, s, .finished)
      | .refuse st =>
        runEntries rest { f with done := f.done ++ [(e.op, { status := st })] } (s.settleReply c (entryAddr e) { status := st })
      | .serve =>
        if 4080 < f.used + roomOf e then
          let r : Reply := { status := St.range, detail := 0x0FFF }
          runEntries rest { f with done := f.done ++ [(e.op, r)] } (s.settleReply c (entryAddr e) r)
        else if isTokenWait c.o e then
          ({ f with rest := rest, used := f.used + roomOf e },
            s.onCp (fun x => { x with token := { x.token with
              waiting := x.token.waiting ++ [⟨c, byteAt e.args 0 == 3, .frame f.id⟩] } }), .waiting)
        else
          let r := entryDo f.maint e c s
          runEntries rest { f with used := f.used + roomOf e, done := f.done ++ [(e.op, r.2)] }
            (r.1.settleReply c ((entryAddr e).map (fun a => a + 4 * r.2.index)) r.2)

/-- A reply goes back to the device where its request entered (R403). It is urgent where the origin holds the token and the frame
has at most 492 bytes (Table 5 of the fabric chapter). -/
def State.fabReply (s : State) (dev : BitVec 6) (cls : Cls) (b : List Byte) : State :=
  (s.fabSend dev.toNat (clsCode cls) 0x10 (!(s.holds ⟨cls, some dev⟩ && decide (b.length ≤ 492))) (some s.tb) b).1

/-- A frame is done: it leaves the list, its reply goes out, and the lease is renewed where every entry was answered with ACK and
not all are SAFE (R410). -/
def State.frameEnd (s : State) (f : FrameExec) : State :=
  let s := s.onCp (fun x => { x with suspended := x.suspended.filter (fun g => g.id != f.id) })
  let good := f.done.all (fun d => d.2.status == St.ack) && f.done.any (fun d => d.1 != 8)
  let s := if good then s.renewLease f.ctx.o else s
  if !f.wanted then s
  else if f.alone then s.onCp (fun x => { x with answers := x.answers ++ f.done.map (fun d => ⟨f.ctx.o, d.1, d.2⟩) })
  else
    let b := s.replyFrame f.ctx.tag f.ctx.seq f.done
    match f.via with
    | .port p => s.portReply p f.ctx.seq b
    | .fabric dev cls => s.fabReply dev cls b

/-- Does a frame wait for a token decision? -/
def State.frameWaits (s : State) (f : FrameExec) : Bool := s.cp.token.waiting.any (fun r => r.dest == .frame f.id)

/-- The first frame that waits for nothing and behind no frame and no token request of its own origin (R400). -/
def State.nextFrame (s : State) : Option FrameExec :=
  s.cp.suspended.find? (fun f => !s.frameWaits f &&
    !(s.cp.token.waiting.any (fun r => r.dest == .entry && r.ctx.o == f.ctx.o)) &&
    !(s.cp.suspended.takeWhile (fun g => g.id != f.id)).any (fun g => g.ctx.o == f.ctx.o))

/-- A frame is put back as it now stands. -/
def State.frameKeep (s : State) (f : FrameExec) : State :=
  s.onCp (fun x => { x with suspended := x.suspended.map (fun g => if g.id = f.id then f else g) })

/-- The decision of a token request reaches the entry or the frame that asked; one that the holder is answered with ACK renews the lease,
whatever the rest of its frame comes to (R407). -/
def State.tokenAnswer (s : State) (q : TokenReq × Nat) : State :=
  let r : Reply := { status := q.2, data := s.tokData q.1.ctx.o }
  let s := if q.2 = St.ack then s.renewLease q.1.ctx.o else s
  match q.1.dest with
  | .entry =>
    s.onCp (fun x => { x with answers := x.answers ++ [⟨q.1.ctx.o, 3, r⟩] })
  | .frame i =>
    s.onCp (fun x => { x with suspended := x.suspended.map (fun f => if f.id = i then { f with done := f.done ++ [(3, r)] } else f) })

/-- Decisions that are due and frames that can run, until neither is left. -/
def State.pumpBy (s : State) : Nat → State
  | 0 => s
  | n + 1 =>
    let d := s.tokenDecide
    if d.2.isEmpty then
      match s.nextFrame with
      | none => s
      | some f =>
        let r := runEntries f.rest f s
        match r.2.2 with
        | .finished => (r.2.1.frameEnd r.1).pumpBy n
        | .waiting => (r.2.1.frameKeep r.1).pumpBy n
    else (d.2.foldl State.tokenAnswer d.1).pumpBy n

/-- As many rounds as the frames and requests at hand can take. -/
def State.pump (s : State) : State :=
  s.pumpBy (s.cp.suspended.foldl (fun n f => n + 2 * f.rest.length + 2) (2 * s.cp.token.waiting.length + 2))

/-- A whole frame begins: it takes its place behind those that came before it. -/
def State.frameStart (s : State) (via : Via) (c : Ctx) (maint : Bool) (es : List Entry) : State :=
  let f : FrameExec := { id := s.cp.nextId, via := via, ctx := c, rest := es, done := [], used := 0, maint := maint, wanted := true }
  (s.onCp (fun x => { x with nextId := x.nextId + 1, suspended := x.suspended ++ [f] })).pump

/-! ## A frame arrives -/

/-- Does a frame name this device as its destination? -/
def State.frameHere (s : State) (b : List Byte) : Bool := byteAt b 6 == 0x40 || s.fab.addr == some (byteAt b 6)

/-- A request to another device (R403). One that is unroutable forms no packet (log 59). -/
def State.forward (s : State) (p : Fin 3) (c : Ctx) (dest : Nat) (b : List Byte) : State :=
  let urgent := s.holds c.o && decide (b.length ≤ 492)
  match s.route dest with
  | .link _ =>
    (s.fabSend dest (clsCode c.o.cls) 0x10 (!urgent) (some c.stamp) b).1.onCp (fun x => { x with
      forwards := x.forwards ++ [⟨p, c.tag, c.seq, dest, s.now, b⟩] })
  | .local | .unreach => s.portReply p c.seq (s.replyFrame c.tag c.seq (refusal b St.unreach))

/-- A refusal of a whole frame at its port. -/
def State.portRefuse (s : State) (p : Fin 3) (c : Ctx) (st : Nat) (l : List (Nat × Reply)) : State :=
  let s := s.settleReply c none { status := st }
  s.portReply p c.seq (s.replyFrame c.tag c.seq l)

/-- A frame that has passed its frame-level checks and its SEQ: on to its device, or executed here. In failed COLD a request for another
device is refused as every request but the reads of R87 is. -/
def State.frameTake (s : State) (p : Fin 3) (c : Ctx) (maint : Bool) (b : List Byte) : State :=
  if !s.frameHere b then
    (if s.pwr.phase = .failed then s.portRefuse p c St.state (refusal b St.state) else s.forward p c (byteAt b 6) b)
  else
    match frameEntries b with
    | some es => s.frameStart (.port p) c maint es
    | none => s.portRefuse p c St.malformed [(0, { status := St.malformed })]

/-- SEQ (R401): the request after a start takes any; a repeat gets the kept reply or is ignored; any other is refused and becomes
the reference. -/
def State.frameSeq (s : State) (p : Fin 3) (c : Ctx) (maint : Bool) (b : List Byte) : State :=
  let q := s.cp.ports[p]
  let accept (s : State) : State := s.modPort p (fun q => { q with seqRef := some c.seq, cached := none, inFlight := q.inFlight + 1 })
  match q.seqRef with
  | none => (accept s).frameTake p c maint b
  | some r =>
    if c.seq = r then
      match q.cached with
      | some x => s.portSend p false x
      | none => s
    else if c.seq = (r + 1) % 65536 then (accept s).frameTake p c maint b
    else (accept s).portRefuse p c St.sequence (refusal b St.sequence)

/-- Does the device look at the frames of a port at all (R84, R87, R88, R417)? In LOAD only a frame for this device of reads of
`DEV_LOAD_STAT` from the maintenance port is answered. -/
def State.portServes (s : State) (p : Fin 3) (b : List Byte) : Bool :=
  match s.pwr.phase with
  | .held | .released | .locked => false
  | .failed => p == 2
  | .loading => p == 2 && frameOk b && s.frameHere b && (match frameEntries b with
    | some es => es.all (fun e => e.op == 1 && leAt e.args 0 4 == 0x200 && leAt e.args 4 2 == 1)
    | none => false)
  | .running => s.mode.mode != .freeze && (p == 2 || s.cp.ports[p].up)

/-- The instant and origin of a frame that arrives at a port (Table 3 of the time-base chapter, R415). -/
def State.portCtx (s : State) (p : Fin 3) (age : Nat) (b : List Byte) : Ctx :=
  { o := ⟨portCls p, none⟩, op := 0, tag := leAt b 2 2, seq := leAt b 4 2, stamp := s.tb - age, unit := Unit.port p.val }

/-- A malformed frame: one answer, the reference unchanged (R397, R401). -/
def State.frameMalformed (s : State) (p : Fin 3) (age : Nat) (b : List Byte) : State :=
  let c := s.portCtx p age b
  let s := s.settleReply c none { status := St.malformed }
  s.portSend p false (s.replyFrame c.tag c.seq [(0, { status := St.malformed })])

/-- A request frame arrives at a port (R400 to R403): its checks in order. A frame for this device is malformed as a whole where
one of its entries is. -/
def State.frameIn (s : State) (p : Fin 3) (age : Nat) (maint : Bool) (b : List Byte) : State :=
  if !s.portServes p b then s
  else
    let c := s.portCtx p age b
    let s := (s.modPort p (fun q => { q with rx := (q.rx + 1) % 2 ^ 32 })).frameCp p false c.stamp b
    if !frameOk b || (s.frameHere b && (frameEntries b).isNone) then s.frameMalformed p age b
    else if 8 ≤ s.cp.ports[p].inFlight then
      let s := s.settleReply c none { status := St.rate }
      s.portSend p false (s.replyFrame c.tag c.seq (refusal b St.rate))
    else s.frameSeq p c maint b

/-- Where the next 0xA5 0x5A stands among characters. -/
def preambleAt : Nat → List Byte → Option Nat
  | i, a :: b :: t => if a = 0xA5 ∧ b = 0x5A then some i else preambleAt (i + 1) (b :: t)
  | _, _ => none

/-- Characters behind a preamble at the maintenance port begin with a frame, as long as its header says, or all that came before the line was
quiet (R397; log 151). -/
def mntFrame (b : List Byte) : List Byte := if 12 ≤ b.length ∧ 16 + leAt b 8 2 ≤ b.length then b.take (16 + leAt b 8 2) else b

/-- The receiver of the maintenance port hunts for the next 0xA5 0x5A in characters of which the first came `age` ns ago, and takes the frame
behind it; behind a malformed frame from the byte after its preamble on (R397). -/
def State.mntHunt (s : State) : Nat → Nat → Bool → List Byte → State
  | 0, _, _, _ => s
  | n + 1, age, maint, b =>
    match preambleAt 0 b with
    | none => s
    | some i =>
      let c := b.drop (i + 2)
      let f := mntFrame c
      let age' := age - bitEdge s.mntBaud (10 * (i + 2))
      let from' := if frameOk f && !(s.frameHere f && (frameEntries f).isNone) then f.length else 0
      (s.frameIn 2 age' maint f).mntHunt n (age' - bitEdge s.mntBaud (10 * from')) maint (c.drop from')

/-- Characters behind a preamble arrive at the maintenance port. -/
def State.mntIn (s : State) (age : Nat) (maint : Bool) (b : List Byte) : State :=
  let f := mntFrame b
  let from' := if frameOk f && !(s.frameHere f && (frameEntries f).isNone) then f.length else 0
  (s.frameIn 2 age maint f).mntHunt b.length (age - bitEdge s.mntBaud (10 * from')) maint (b.drop from')

/-- A request frame arrives in a fabric packet (R403): every check but SEQ and rate runs here, against the class and origin that
the packet carries. `unit`: of the link on which it arrived (R415); `time`: the packet's TIME. -/
def State.fabFrameIn (s : State) (dev : BitVec 6) (cls : Cls) (unit time : Nat) (maint : Bool) (b : List Byte) : State :=
  if !s.running then s
  else
    let c : Ctx := { o := ⟨cls, some dev⟩, op := 0, tag := leAt b 2 2, seq := leAt b 4 2, stamp := time, unit := unit }
    let refuse (s : State) (st : Nat) (l : List (Nat × Reply)) : State :=
      let s := s.settleReply c none { status := st }
      s.fabReply dev cls (s.replyFrame c.tag c.seq l)
    if !frameOk b then refuse s St.malformed [(0, { status := St.malformed })]
    else
      match frameEntries b with
      | none => refuse s St.malformed [(0, { status := St.malformed })]
      | some es =>
        if cls = .F then refuse s St.rights (refusal b St.rights) else s.frameStart (.fabric dev cls) c maint es

/-! ## The rows of the frames -/

/-- A TOKEN request or take that comes alone: it waits for its decision, or is decided at once where that is past (R407). -/
def State.tokenAsk (s : State) (o : Origin) (take : Bool) (age : Nat) : State :=
  let c := { s.ctx o 3 with stamp := s.tb - age }
  if o.cls = .A ∨ o.cls = .B then
    match s.gate o 3 0 (if take then 3 else 1) with
    | .silent => s
    | g =>
    if s.behind o then s.queueAlone c false (aloneEntry 3 none (if take then 3 else 1) [] [])
    else match g with
    | .silent => s
    | .refuse st => (s.settleReply c none { status := st }).onCp (fun x => { x with answers := x.answers ++ [⟨o, 3, { status := st }⟩] })
    | .serve =>
      (s.onCp (fun x => { x with token := { x.token with waiting := x.token.waiting ++ [⟨c, take, .entry⟩] } })).pump
  else s.entry o 3 none (fun c s => doToken (if take then 3 else 1) c s) (if take then 3 else 1) (age := age)

/-- `TOKEN_REQUEST`. -/
def execTokenRequest (dt : Nat) (o : Origin) (frameAge : Nat) (s : State) : Host.Outcome State Fault Refusal :=
  done ((s.advance dt).tokenAsk o false frameAge)

/-- `TOKEN_TAKE`. -/
def execTokenTake (dt : Nat) (o : Origin) (frameAge : Nat) (s : State) : Host.Outcome State Fault Refusal :=
  done ((s.advance dt).tokenAsk o true frameAge)

/-- `TOKEN_DECISION`: what is due is decided, and the frames that waited go on. -/
def execTokenDecision (dt : Nat) (s : State) : Host.Outcome State Fault Refusal :=
  let s := s.advance dt
  done (if s.running then s.pump else s)

/-- `TOKEN_RELEASE`. -/
def execTokenRelease (dt : Nat) (o : Origin) (s : State) : Host.Outcome State Fault Refusal :=
  done ((s.advance dt).entry o 3 none (doToken 2) 2)

/-- `TOKEN_STATUS`. -/
def execTokenStatus (dt : Nat) (o : Origin) (s : State) : Host.Outcome State Fault Refusal :=
  done ((s.advance dt).entry o 3 none (doToken 4) 4)

/-- `JCP_NOP`. -/
def execJcpNop (dt : Nat) (o : Origin) (s : State) : Host.Outcome State Fault Refusal :=
  done ((s.advance dt).entry o 4 none (fun _ s => ack s))

/-- `JCP_SAFE`. -/
def execJcpSafe (dt : Nat) (o : Origin) (envelope : List Byte) (s : State) : Host.Outcome State Fault Refusal :=
  done ((s.advance dt).entry o 8 none (doSafe envelope) (args := envelope))

/-- `IMAGE_BEGIN`. -/
def execImageBegin (dt : Nat) (o : Origin) (maint : Bool) (s : State) : Host.Outcome State Fault Refusal :=
  done ((s.advance dt).entry o 6 none (doImageBegin maint) (args := leBytes 1 1 ++ zeros 3) (maint := maint))

/-- `IMAGE_DATA`. -/
def execImageData (dt : Nat) (o : Origin) (offset : Nat) (bytes : List Byte) (s : State) : Host.Outcome State Fault Refusal :=
  done ((s.advance dt).entry o 6 none (doImageData offset bytes)
    (args := leBytes 1 2 ++ zeros 3 ++ leBytes 4 offset ++ leBytes 2 (min bytes.length 65535) ++ zeros 2 ++ bytes))

/-- `IMAGE_END`. -/
def execImageEnd (dt : Nat) (o : Origin) (header : List Byte) (s : State) : Host.Outcome State Fault Refusal :=
  done ((s.advance dt).entry o 6 none (doImageEnd header) (args := leBytes 1 3 ++ zeros 3 ++ header))

/-- `IMAGE_ABORT`. -/
def execImageAbort (dt : Nat) (o : Origin) (s : State) : Host.Outcome State Fault Refusal :=
  done ((s.advance dt).entry o 6 none doImageAbort (args := leBytes 1 4 ++ zeros 3))

def execImageEraseDone (dt : Nat) (s : State) : Host.Outcome State Fault Refusal := done (s.advance dt).imgErased

def execImageVerifyDone (dt : Nat) (sectionsOk : Bool) (s : State) : Host.Outcome State Fault Refusal :=
  done ((s.advance dt).imgVerified sectionsOk)

def execImageSessionTimeout (dt : Nat) (s : State) : Host.Outcome State Fault Refusal := done (s.advance dt).imgTimeout

/-- `MAINT_EN_FALL` (R92). -/
def execMaintEnFall (dt : Nat) (s : State) : Host.Outcome State Fault Refusal :=
  let s := s.advance dt
  done (if s.running then s.imgAbandon else s)

/-! ## Forwarded requests (R403) -/

/-- The request of a port and TAG that is out, and the state without it. -/
def State.forwardTake (s : State) (p : Fin 3) (tag : Nat) : Option (Forward × State) :=
  (s.cp.forwards.find? (fun f => f.port == p && f.tag == tag)).map (fun f =>
    (f, s.onCp (fun x => { x with forwards := x.forwards.erase f })))

/-- `JCP_FORWARD_REPLY`: the reply leaves on the entry port; one that no request waits for is discarded. -/
def State.forwardReply (s : State) (p : Fin 3) (tag : Nat) (b : List Byte) : State :=
  if !s.running then s
  else
    match s.forwardTake p tag with
    | some (f, s) => s.portReply p f.seq b
    | none => s

/-- `JCP_FORWARD_TIMEOUT`: after 20 ms. -/
def State.forwardTimeout (s : State) (p : Fin 3) (tag : Nat) : State :=
  if !s.running then s
  else
    match s.forwardTake p tag with
    | some (f, t) =>
      if f.sentAt + 20000000 ≤ s.now then t.portReply p f.seq (t.replyFrame f.tag f.seq (refusal f.frame St.timeout)) else s
    | none => s

def execJcpForwardTimeout (dt : Nat) (port : Fin 3) (tag : BitVec 16) (s : State) : Host.Outcome State Fault Refusal :=
  done ((s.advance dt).forwardTimeout port tag.toNat)

/-! ## The forms of the ports (R395 to R397) -/

/-- A control port as one of the three local ports. -/
def cpPort (p : Fin 2) : Fin 3 := Fin.ofNat 3 p.val

/-- Is a control port in SPI form and served? -/
def State.spiOn (s : State) (p : Fin 2) : Bool := s.running && s.portForm (cpPort p) == 2

/-- A frame written to an SPI-form port. -/
def State.spiWrite (s : State) (p : Fin 2) (age : Nat) (b : List Byte) : State :=
  if s.spiOn p then s.frameIn (cpPort p) age false b else s

/-- `SPI_WRITE_FRAME`: instruction 0x02. -/
def execSpiWriteFrame (dt : Nat) (p : Fin 2) (frameAge : Nat) (bytes : List Byte) (s : State) : Host.Outcome State Fault Refusal :=
  done ((s.advance dt).spiWrite p frameAge bytes)

/-- `SPI_QUAD_WRITE_FRAME`: instruction 0x32. -/
def execSpiQuadWriteFrame (dt : Nat) (p : Fin 2) (frameAge : Nat) (bytes : List Byte) (s : State) :
    Host.Outcome State Fault Refusal := done ((s.advance dt).spiWrite p frameAge bytes)

/-- What an SPI instruction returns: it stands among the answers with the instruction and bit 8 as its operation. -/
def State.spiAnswer (s : State) (p : Fin 2) (instr : Nat) (data : List Byte) : State :=
  s.onCp (fun x => { x with answers := x.answers ++ [⟨⟨portCls (cpPort p), none⟩, 0x100 + instr, { status := St.ack, data := data }⟩] })

/-- `SPI_READ_STATUS`: instruction 0x05. -/
def State.spiStatus (s : State) (p : Fin 2) : State :=
  let q := s.cp.ports[cpPort p]
  if s.spiOn p then s.spiAnswer p 0x05 (leBytes 1 (b2n (!q.queue.isEmpty) + 2 * b2n (decide (8 ≤ q.inFlight)))) else s

def execSpiReadStatus (dt : Nat) (p : Fin 2) (s : State) : Host.Outcome State Fault Refusal := done ((s.advance dt).spiStatus p)

/-- A read returns the oldest queued frame behind its length, or a length of 0. -/
def State.spiRead (s : State) (p : Fin 2) (instr : Nat) : State :=
  if !s.spiOn p then s
  else
    match s.cp.ports[cpPort p].queue with
    | [] => s.spiAnswer p instr (leBytes 2 0)
    | f :: t =>
      ((s.modPort (cpPort p) (fun q => { q with queue := t, sent := q.sent ++ [f.bytes] })).frameCp (cpPort p) true s.tb
        f.bytes).spiAnswer p instr (leBytes 2 f.bytes.length ++ f.bytes)

/-- `SPI_READ_FRAME`: instruction 0x0B. -/
def execSpiReadFrame (dt : Nat) (p : Fin 2) (s : State) : Host.Outcome State Fault Refusal := done ((s.advance dt).spiRead p 0x0B)

/-- `SPI_QUAD_READ_FRAME`: instruction 0x6B. -/
def execSpiQuadReadFrame (dt : Nat) (p : Fin 2) (s : State) : Host.Outcome State Fault Refusal :=
  done ((s.advance dt).spiRead p 0x6B)

/-- `MNT_FRAME_GAP`: a gap of more than 10 character times ends a frame of the maintenance port as malformed, and the receiver hunts on in
what it has had of it (R397). A shorter gap ends nothing. -/
def State.mntGap (s : State) (age gap : Nat) (b : List Byte) : State :=
  let serves := match s.pwr.phase with
    | .failed => true
    | .running => s.mode.mode != .freeze
    | .held | .released | .locked | .loading => false
  if serves = false ∨ gap ≤ bitEdge s.mntBaud 100 then s
  else
    let s := ((s.modPort 2 (fun q => { q with rx := (q.rx + 1) % 2 ^ 32 })).frameCp 2 false (s.tb - age) b).frameMalformed 2 age b
    s.mntHunt b.length age false b

def execMntFrameGap (dt : Nat) (frameAge : Nat) (bytes : List Byte) (s : State) (gap : Nat := 0) : Host.Outcome State Fault Refusal :=
  done ((s.advance dt).mntGap frameAge gap bytes)

/-- `PORT`: the exchange of a data-strobe port enters or leaves Run (R395, R401). Leaving it discards the replies that are
pending. -/
def State.portRun (s : State) (p : Fin 2) (up : Bool) : State :=
  let q := cpPort p
  if !(s.running && s.portForm q == 1 && s.cp.ports[q].up != up) then s
  else
    let s := if up then s.modPort q (fun x => { x with up := true, seqRef := none, cached := none })
      else (s.modPort q (fun x => { x with up := false, queue := [], inFlight := 0 })).onCp (fun x => { x with
        forwards := x.forwards.filter (fun f => f.port != q)
        suspended := x.suspended.map (fun f => if f.via = .port q then { f with wanted := false } else f) })
    s.event s.tb (Unit.port q.val) 0x0F04 (b2n up) 0

def execPort (dt : Nat) (p : Fin 2) (up : Bool) (s : State) : Host.Outcome State Fault Refusal := done ((s.advance dt).portRun p up)

/-! ## Envelopes of this device (R355, R419) -/

/-- The envelope of a producer that is made now (Table 4 of the safety chapter). -/
def State.envelopeOf (s : State) (c : Fin 16) : List Byte :=
  let b := leBytes 4 (s.saf.conn[c].next % 2 ^ 32) ++ leBytes 8 s.tb ++ leBytes 4 s.saf.mirror.data.toNat ++ leBytes 4 (~~~ s.saf.mirror.data).toNat
  b ++ leBytes 4 (envCheck (s.regs.SAF_CONc_ID c) b).toNat

/-- Is an envelope due: none sent yet, the period over, or DATA changed at the Cobalt scan of this instant (R355)? -/
def State.envelopeDue (s : State) (c : Fin 16) : Bool :=
  let x := s.saf.conn[c]
  s.running && s.produces c &&
    (x.sent.isNone || decide (x.sentAt + s.regs.SAF_CONc_TIM_PER c * 100000 ≤ s.now)
      || (s.tb % 100000 == 0 && s.saf.mirrorAt == s.now && x.sent != some s.saf.mirror.data))

/-- An envelope leaves on the channel of its connection (R352); a controller that is bus-off queues none (R439). -/
def State.envelopeSend (s : State) (c : Fin 16) : State :=
  if !s.envelopeDue c then s
  else
    let b := s.envelopeOf c
    let n := s.saf.conn[c].next
    let a := s.regs.SAF_CONc_ADDR c
    let can (s : State) (k : Fin 2) : State :=
      if s.can[k].busOff then s
      else s.modCan k (fun x => { x with txSaf := x.txSaf.set c (some ⟨a, s.regs.SAF_CONc_CFG_IDE c, true, s.regs.CANn_CFG_BRS k, b, s.now⟩) })
    let s := s.modConn c (fun x => { x with
      next := (n + 1) % 2 ^ 32, sent := some s.saf.mirror.data, sentAt := s.now, seqShown := w32 n })
    match s.regs.SAF_CONc_CFG_CH c with
    | 0 => (s.fabSend (a % 64) 0 0x30 false none b).1
    | 1 => s.eventSend (if a % 2 = 0 then 0 else 1) b
    | 2 => can s 0
    | _ => can s 1

/-- `ENVELOPE_SEND`. -/
def execEnvelopeSend (dt : Nat) (c : Fin 16) (s : State) : Host.Outcome State Fault Refusal := done ((s.advance dt).envelopeSend c)

end Sys2Proof.Machine
end

