-- ==== Sys2Proof/Machine/FabricIn.lean ====
section
/-! DEFINITION. What arrives on a link of the fabric (chapter 14): packets and segments, their checks, their delivery and their way
on (R369 to R372, R381, R382, R385, R389), and the answer of a synchronisation exchange (R383, R384). -/
namespace Sys2Proof.Machine

/-! ## Synchronisation -/

/-- One offset measured against a parent: it is filtered to the trim, whose law the spec gives by its time constant only, so the trim is
a free value within its limits (log 3). -/
def State.syncTrim (s : State) (off : Rat) (parentSynced : Bool) : State :=
  let f := s.fresh
  let s := f.2
  let z := (Config.freeWord f.1).toInt
  let trim : Int := if z < -20000 then -20000 else if 20000 < z then 20000 else z
  let offs := (off :: s.fab.offs).take 16
  let s := s.onFab (fun x => { x with
    offs := offs, lastEx := s.now
    trimLim := if trim = 20000 ∨ trim = -20000 then some (x.trimLim.getD s.now) else none
    lossOff := if s.tbs.syncLost then some (x.lossOff.getD off.floor) else x.lossOff })
  s.onTbs (fun t => { t with
    trim := trim, offset := off.floor, synced := parentSynced && offs.length == 16 && offs.all (fun o => decide (absR o ≤ 8)) })

/-- SYNC_REGAINED where the device is synchronised again (R79): the loss is over, and with it the grace of the share groups. Its value A is
the first offset measured after the loss, which the trim has removed since (DESIGN CHOICE, log 110). The record itself is still one of the
loss (DEDUCED, log 152). -/
def State.syncBack (s : State) : State :=
  if s.tbs.synced && s.tbs.syncLost then
    let s := s.timeRec s.tb 0x0205 (s.tbs.hops.getD 15) (twos 8 (s.fab.lossOff.getD 0)) (s.tb - s.tbs.lostSince)
    ((s.onTbs (fun t => { t with syncLost := false })).onFab (fun x => { x with lossOff := none })).onShr
      (fun v => v.map (fun g => { g with graceOver := false }))
  else s

/-- The answer of a parent closes the exchange under way: delay, offset, and the load or the trim of TB_NOW (R66, R383). The one load waits
for a parent that is itself synchronised, so that it is the root's time. TB_NOW counts by 2, so the time loaded is rounded down to
2 ns (DESIGN CHOICE, log 111). -/
def State.syncRespIn (s : State) (k : Fin 6) (b : List Byte) : State :=
  match s.fab.links[k].t1 with
  | none => s
  | some t1 =>
    let s := s.modLink k (fun l => { l with t1 := none })
    if !(s.linkActive k && s.parent == some k) then s
    else
      let t2 := leAt b 0 8
      let t3 := leAt b 8 8
      let hops := byteAt b 16
      let t4 := s.tb
      let d : Rat := (((t4 - t1 : Int) - (t3 - t2 : Int) : Int) : Rat) / 2
      let s := s.modLink k (fun l => { l with delays := (d :: l.delays).take 64 })
      let s := s.onTbs (fun t => { t with hops := some (s.hopCount k) })
      let aim : Rat := (t3 : Rat) + minDelay s.fab.links[k].delays
      if s.tbs.loaded then (s.syncTrim ((t4 : Rat) - aim) (decide (hops < 15))).syncBack
      else if 15 ≤ hops then s
      else
        let new := (aim / 2).floor.toNat * 2
        let s := (s.tbLoad new).onFab (fun x => { x with lastEx := s.now, offs := [] })
        s.timeRec new 0x0203 (s.tbs.hops.getD 15) t4 new

/-- `SYNC_RESP_RECEIVED`. -/
def execSyncRespReceived (dt : Nat) (k : Fin 6) (payload : List Byte) (s : State) : Host.Outcome State Fault Refusal :=
  let s := s.advance dt
  done (if s.running ∧ payload.length = 24 then (s.frameFrom k 6 24).syncRespIn k payload else s)

/-! ## Delivery -/

/-- An ADMIT arrives; an address that it brings is tested against the share groups (R558). -/
def State.admitted (s : State) (k : Fin 6) (b : List Byte) : State :=
  let old := s.fab.addr
  let s := s.admitIn k b
  match old, s.fab.addr with
  | none, some a => s.shareAddrTest a
  | _, _ => s

/-- `ADMIT_RECEIVED`. -/
def execAdmitReceived (dt : Nat) (k : Fin 6) (payload : List Byte) (s : State) : Host.Outcome State Fault Refusal :=
  let s := s.advance dt
  done (if s.running ∧ payload.length = 16 then (s.frameFrom k 3 16).admitted k payload else s)

/-- A COMMAND (R385, R386). -/
def State.commandIn (s : State) (src seq : Nat) (payload : List Byte) : State :=
  match unpair payload with
  | none => s
  | some d =>
    match leAt d 0 2 with
    | 1 => s.freezeAt src seq (leAt d 4 8) (leAt d 12 8 % 65536)
    | 2 => s.routesApply src seq (leAt d 4 8) (leAt d 12 8 % 65536)
    | _ => s

/-- A fabric envelope is taken by every consumed fabric connection that names its source (R352). -/
def State.safePacketIn (s : State) (src : Nat) (b : List Byte) : State :=
  (List.finRange 16).foldl (fun (s : State) (c : Fin 16) =>
    if s.consumes c && s.regs.SAF_CONc_CFG_CH c == 0 && s.regs.SAF_CONc_ADDR c % 64 == src then s.envelopeIn c b s.tb else s) s

/-- The class that a header carries (Table 4). -/
def clsOf : Nat → Cls
  | 1 => .A
  | 2 => .B
  | 3 => .M
  | _ => .F

/-- A JCP frame for this device: a request is executed for its origin, a reply leaves on its entry port. MAINT_EN is a pin whose level
the command does not carry, so for a request from the fabric it is a free value (log 56). -/
def State.jcpPacketIn (s : State) (k : Fin 6) (src cls time : Nat) (b : List Byte) : State :=
  if byteAt b 1 = 2 then s.forwardReply (clsPort (clsOf cls)) (leAt b 2 2) b
  else
    let f := s.fresh
    f.2.fabFrameIn (BitVec.ofNat 6 src) (clsOf cls) (Unit.link k.val) time (Config.freeBool f.1) b

/-- A packet for this device is delivered by its TYPE (Table 5). -/
def State.deliver (s : State) (k : Fin 6) (b : List Byte) : State :=
  let src := byteAt b 1 % 64
  let pl := (b.drop 16).take (leAt b 4 2)
  match byteAt b 2 with
  | 0x01 => s.helloIn k pl
  | 0x02 => s.joinIn k pl
  | 0x03 => s.admitted k pl
  | 0x04 => s.routesIn pl
  | 0x05 => s.syncReqIn k
  | 0x06 => s.syncRespIn k pl
  | 0x07 => s.commandIn src (leAt b 6 2) pl
  | 0x10 => s.jcpPacketIn k src (byteAt b 1 / 64) (leAt b 8 8) pl
  | 0x20 => s.reportIn src pl
  | 0x21 => s.shareIn src pl
  | 0x30 => s.safePacketIn src pl
  | _ => s

/-! ## Checks (R389) -/

/-- Is the payload of a TYPE as long as Table 5 has it, and paired where it must be? -/
def payloadOk (typ : Nat) (pl : List Byte) : Bool :=
  match typ with
  | 0x01 => pl.length == 32
  | 0x02 => pl.length == 64
  | 0x03 => pl.length == 16
  | 0x04 => pl.length == 66
  | 0x05 => pl.length == 8
  | 0x06 => pl.length == 24
  | 0x07 => pl.length == 48 && (unpair pl).isSome
  | 0x10 => true
  | 0x20 | 0x21 => (unpair pl).isSome
  | 0x30 => pl.length == 24
  | _ => false

/-- The lane of a TYPE: is it admitted on the one the packet came on (Table 5)? -/
def laneOk (typ : Nat) (bulk : Bool) : Bool := typ == 0x10 || bulk == (typ == 0x04)

/-- Is a packet good: LEN, lane maximum, TYPE, lane, pair and CRC (R369, R370, Table 9)? -/
def packetOk (bulk : Bool) (b : List Byte) : Bool :=
  let len := leAt b 4 2
  let head := b.take (16 + len)
  decide (b.length = 20 + len) && (if bulk then decide (len ≤ 4096) else decide (b.length ≤ 512))
    && (byteAt b 0).testBit 7 && decide (byteAt b 3 < 16) && laneOk (byteAt b 2) bulk
    && payloadOk (byteAt b 2) ((b.drop 16).take len) && leAt b (16 + len) 4 == (packetCrc head).toNat

/-- TYPEs that go from one device to its partner and are never forwarded (Table 5). -/
def isHop (typ : Nat) : Bool := typ == 1 || typ == 2 || typ == 3 || typ == 5 || typ == 6

/-! ## On their way (R372, R381, R382) -/

/-- Is the partner of a link a child of this device in the breadth-first tree: at the root each partner is; else the one that takes this device
as its parent, which its SYNC_REQ of every 1 ms tells (R383). One that has told so within 20 ms is, and while this device is itself not
synchronised each that has since the link started (DEDUCED, log 55). -/
def State.isChild (s : State) (j : Fin 6) : Bool :=
  s.regs.FAB_CFG_ROOT || s.fab.links[j].reqAt.any (fun t => decide (s.now < t + 20000000) || !s.tbs.synced)

/-- The links on which a broadcast that came on link `k` goes on (R381). In table mode: the links of the breadth-first tree but that one, which
are that to the parent and those to the children. -/
def State.castLinks (s : State) (k : Fin 6) : List Nat :=
  (linkAll.filter (fun j => s.linkActive j &&
    if s.regs.FAB_CFG_TOPO then j != k && (s.parent == some j || s.isChild j) else decide (k.val < j.val))).map (·.val)

/-- The packet before one that has arrived whole at the same input has left that input by then (R372): on each link that takes it within its
limit, and else it was discarded at that limit (log 57). -/
def State.waitFlush (s : State) (k : Fin 6) (bulk : Bool) : State :=
  match s.fab.links[k].waits bulk with
  | none => s
  | some w =>
    let r := w.links.foldl (fun (acc : Bool × State) j =>
      let k : Fin 6 := Fin.ofNat 6 j
      let u := acc.2.takesAt k bulk w.at'
      if acc.2.linkActive k && decide (u < w.at' + waitLimit bulk) then (acc.1, acc.2.linkPut k bulk w.eep w.bytes u) else (true, acc.2)) (false, s)
    let s := r.2.putWait k bulk none
    if r.1 then s.fabDiscard 3 (byteAt w.bytes 0 % 64) else s

/-- A packet with HOPS one higher (R369). -/
def hopped (b : List Byte) : List Byte := b.set 3 (BitVec.ofNat 8 (byteAt b 3 + 1))

/-- A packet of another device goes on: HOPS rises by one, and at 15 it is discarded (R369, R382). -/
def State.passOn (s : State) (k : Fin 6) (bulk eep : Bool) (b : List Byte) (links : List Nat) : State :=
  if links.isEmpty then s
  else if 15 ≤ byteAt b 3 + 1 then s.fabDiscard 1 (byteAt b 0 % 64)
  else
    let s := s.waitFlush k bulk
    let w : WaitPkt := ⟨s.now, hopped b, links, eep⟩
    let r := s.leaves bulk w
    if r.1.isEmpty then r.2 else r.2.putWait k bulk (some { w with links := r.1 })

/-- A broadcast is delivered once, keyed by source, TYPE and SEQ (R381). A COMMAND keeps its own key (R385). -/
def State.castIn (s : State) (k : Fin 6) (b : List Byte) : State :=
  if byteAt b 2 = 7 then s.deliver k b
  else
    let q := s.fabSeen (byteAt b 1 % 64) (byteAt b 2) (leAt b 6 2)
    if q.1 then q.2 else q.2.deliver k b

/-- A packet that has arrived on an ACTIVE link, on its way: to this device if it is `good`, and on to others (R372, R381). -/
def State.routed (s : State) (k : Fin 6) (bulk eep good : Bool) (b : List Byte) : State :=
  let dst := byteAt b 0 % 64
  if (byteAt b 0).testBit 6 then
    let links := s.castLinks k
    (if good then s.castIn k b else s).passOn k bulk eep b links
  else
    match s.route dst with
    | .local => if good then s.deliver k b else s
    | .unreach => s.fabDiscard 2 dst
    | .link j => s.passOn k bulk eep b [j]

/-- A packet that has arrived on a link, ended by EOP or EEP; its stamp is that of its first character (R73). A bad packet is counted; EEP ends
what another device has counted (R389). An urgent packet goes on to other devices as its characters come, before its end tells whether it is
good; a bulk packet is stored and goes on only if it is (R372). -/
def State.packetIn (s : State) (k : Fin 6) (bulk eep : Bool) (b : List Byte) : State :=
  let good := packetOk bulk b && !eep
  let s := if good then s.frameFab (if bulk then s.fab.links[k].bulkAt else s.tb) k.val false b else if eep then s else s.badPacket k
  if isHop (byteAt b 2) then (if good then s.deliver k b else s)
  else if s.linkActive k && (byteAt b 0).testBit 7 && (good || !bulk) then s.routed k bulk eep good b
  else s

/-- `URGENT_PACKET_RECEIVED`. The time-codes among its characters are discarded and counted (R364). -/
def execUrgentPacketReceived (dt : Nat) (k : Fin 6) (bytes : List Byte) (s : State) (tc : Nat := 0) (eep : Bool := false) : Host.Outcome State Fault Refusal :=
  let s := s.advance dt
  done (if s.linkHears k then
      (s.waitDrain.modLink k (fun l => { l with tc := min 255 (l.tc + tc) })).packetIn k false eep bytes
    else s)

/-- `EXCHANGE_ERROR` (R389): the link restarts. An urgent packet of which `part` has come is discarded; where it has begun to go on, what has
gone on is ended with EEP. -/
def execExchangeError (dt : Nat) (k : Fin 6) (kind : ExchangeErr) (s : State) (part : List Byte := []) : Host.Outcome State Fault Refusal :=
  let s := s.advance dt
  let st := s.fab.links[k].state
  if s.running && st != .off && st != .down then
    let links := if (byteAt part 0).testBit 6 then s.castLinks k else match s.route (byteAt part 0 % 64) with | .link j => [j] | _ => []
    let s :=
      if s.linkActive k && (byteAt part 0).testBit 7 && !isHop (byteAt part 2) && decide (byteAt part 3 + 1 < 15) && !links.isEmpty then
        ((s.waitDrain.waitFlush k false).leaves false ⟨s.now, hopped part, links, true⟩).2
      else s
    done (s.exchangeError k kind)
  else done s

/-- A segment of a bulk packet (R371): it is joined to those before it; EEP or a broken order discards the packet. -/
def State.segmentIn (s : State) (k : Fin 6) (b : List Byte) (eep : Bool) : State :=
  let head := byteAt b 0
  let first := head.testBit 6
  let last := head.testBit 5
  let drop (s : State) : State := s.modLink k (fun l => { l with bulkRx := none })
  if eep then drop s
  else if b.isEmpty ∨ head % 32 ≠ 0 ∨ head.testBit 7 ∨ s.fab.links[k].bulkRx.isSome = first then (drop s).badPacket k
  else
    let all := (s.fab.links[k].bulkRx.getD []) ++ b.drop 1
    let s := if first then s.modLink k (fun l => { l with bulkAt := s.tb }) else s
    if 4116 < all.length then (drop s).badPacket k
    else if last then (drop s).packetIn k true false all
    else s.modLink k (fun l => { l with bulkRx := some all })

/-- `BULK_SEGMENT_RECEIVED`. -/
def execBulkSegmentReceived (dt : Nat) (k : Fin 6) (bytes : List Byte) (eep : Bool) (s : State) :
    Host.Outcome State Fault Refusal :=
  let s := s.advance dt
  done (if s.running && s.linkActive k then s.waitDrain.segmentIn k bytes eep else s)

/-- `PACKET_WAIT_TIMEOUT`: an urgent packet has waited 100 µs, a bulk packet 10 ms (R382). -/
def State.waitTimeout (s : State) (k : Fin 6) (bulk : Bool) : State :=
  match s.fab.links[k].waits bulk with
  | none => s
  | some w =>
    if s.running && decide (w.at' + waitLimit bulk ≤ s.now) then
      (s.putWait k bulk none).fabDiscard 3 (byteAt w.bytes 0 % 64)
    else s

def execPacketWaitTimeout (dt : Nat) (k : Fin 6) (bulk : Bool) (s : State) : Host.Outcome State Fault Refusal :=
  done ((s.advance dt).waitDrain.waitTimeout k bulk)

/-- `ENVELOPE_RECEIVED`: one of a fabric connection is a SAFE packet of its source (R352, R392). -/
def execEnvelopeReceived (dt : Nat) (c : Fin 16) (envelope : List Byte) (s : State) : Host.Outcome State Fault Refusal :=
  let s := s.advance dt
  let s := if s.running && s.consumes c && s.regs.SAF_CONc_CFG_CH c == 0 then
      s.frameRow none none false (s.fab.addr.getD 0) (s.regs.SAF_CONc_ADDR c % 64) 0x30 24 else s
  done (s.envelopeIn c envelope s.tb)

/-! ## Rows that bring the message of a packet -/

/-- `SHARE_REPORT_RECEIVED`. -/
def execShareReportReceived (dt : Nat) (sender : BitVec 6) (payload : List Byte) (s : State) :
    Host.Outcome State Fault Refusal :=
  let s := s.advance dt
  done (if s.running then (s.frameRow none none true 0 sender.toNat 0x20 payload.length).reportIn sender.toNat payload else s)

/-- `SHARE_RECEIVED`. -/
def execShareReceived (dt : Nat) (sender : BitVec 6) (payload : List Byte) (s : State) : Host.Outcome State Fault Refusal :=
  let s := s.advance dt
  done (if s.running then (s.frameRow none none true 0 sender.toNat 0x21 payload.length).shareIn sender.toNat payload else s)

/-- `JCP_REQUEST_FRAME`. -/
def execJcpRequestFrame (dt : Nat) (via : Via) (frameAge : Nat) (maint : Bool) (bytes : List Byte) (s : State) :
    Host.Outcome State Fault Refusal :=
  let s := s.advance dt
  match via with
  | .port p => done (if p = 2 then s.mntIn frameAge maint bytes else s.frameIn p frameAge maint bytes)
  | .fabric dev cls =>
    let s := if s.running then s.frameRow none none false (s.fab.addr.getD 0) (dev.toNat + 64 * clsCode cls) 0x10 bytes.length else s
    done (s.fabFrameIn dev cls (s.quarUnit ⟨cls, some dev⟩) (s.tb - frameAge) maint bytes)

/-- `JCP_FORWARD_REPLY`: it has come in a packet of the device asked. -/
def execJcpForwardReply (dt : Nat) (port : Fin 3) (tag : BitVec 16) (bytes : List Byte) (s : State) :
    Host.Outcome State Fault Refusal :=
  let s := s.advance dt
  let s := match s.forwardTake port tag.toNat with
    | some (f, _) => if s.running then s.frameRow none none false (s.fab.addr.getD 0) (f.dest % 64 + 64 * clsCode (portCls port)) 0x10 bytes.length else s
    | none => s
  done (s.forwardReply port tag.toNat bytes)

end Sys2Proof.Machine
end

