-- ==== Sys2Proof/Machine/Tick.lean ====
section
/-! DEFINITION. The outer tick: its boundary, where mode changes, committed sets, references and commands take effect (R30, R32, R57,
R67, R109), its work (R43, R46, R58, R104, R113, R115, R125), and the BRAKE timeout (R120). -/
namespace Sys2Proof.Machine

/-! ## The domain monitor (R46) -/

/-- The difference of a pair of domains: supply, V, and temperature, K. -/
def State.skewOf (s : State) (p : Fin 9) : Rat × Rat :=
  match skewPairs[p.val]? with
  | some q =>
    let a : Fin 7 := Fin.ofNat 7 q.1
    let b : Fin 7 := Fin.ofNat 7 q.2
    (absR (s.tick.volt[a] - s.tick.volt[b]), absR (s.tick.temp[a] - s.tick.temp[b]))
  | none => (0, 0)

/-- A DOMAIN_SKEW record (Table 7 of the self-timed chapter). The two differences are rounded half up to 1 mV and 0.1 K
(DESIGN CHOICE, log 106). -/
def State.skewRec (s : State) (p : Fin 9) (lim : Bool) (time : Nat) : State :=
  let q := (skewPairs[p.val]?).getD (0, 0)
  let d := s.skewOf p
  s.event time Unit.dev 0x0106 (q.1 + 16 * q.2 + 256 * b2n lim)
    (min (d.1 * 1000 + 1 / 2).floor.toNat 0xFFFF + 65536 * min (d.2 * 10 + 1 / 2).floor.toNat 0xFFFF)

/-- One pair in a tick's work. `ta`: the boundary that ends that tick, taken as the boundary of its reading (DESIGN CHOICE,
log 98). A warning is armed again once the pair is below both warning levels; it is below its limits once it is below both (R46). -/
def State.skewPair (s : State) (ta : Nat) (p : Fin 9) : State :=
  let d := s.skewOf p
  let w := decide ((80 : Rat) / 1000 < d.1) || decide (28 < d.2)
  let l := decide ((100 : Rat) / 1000 < d.1) || decide (35 < d.2)
  let calm := decide (d.1 < (80 : Rat) / 1000) && decide (d.2 < 28)
  let below := decide (d.1 < (100 : Rat) / 1000) && decide (d.2 < 35)
  let note := w && !s.tick.warned[p]
  let s := s.onTick (fun t => { t with
    warn := t.warn.set p w, limit := t.limit.set p l, warned := t.warned.set p (w || (t.warned[p] && !calm))
    limCount := t.limCount.set p (if l then t.limCount[p] + 1 else 0)
    limAt := t.limAt.set p (if l && t.limCount[p] == 9 then ta else t.limAt[p])
    limNoted := t.limNoted.set p (l && t.limNoted[p])
    belowSince := t.belowSince.set p (if below then some (t.belowSince[p].getD ta) else none) })
  if note then s.skewRec p false ta else s

/-- The fourteen sensors are read and every pair compared. -/
def State.skewTick (s : State) (ta : Nat) (sensors : List (Rat × Rat)) : State :=
  let s := s.onTick (fun t => { t with
    volt := Vector.ofFn (fun d : Fin 7 => match sensors[d.val]? with | some x => x.1 | none => t.volt[d])
    temp := Vector.ofFn (fun d : Fin 7 => match sensors[d.val]? with | some x => x.2 | none => t.temp[d]) })
  (List.finRange 9).foldl (fun (s : State) (p : Fin 9) => s.skewPair ta p) s

/-- `DOMAIN_SKEW_LIMIT`: a pair above a limit on 10 consecutive ticks is a stop cause, with its record, whose TIME is the boundary of
the tenth reading (R46, R59). Each further run of 10 writes its own record. -/
def State.skewLimit (s : State) (p : Fin 9) : State :=
  if s.running && decide (10 ≤ s.tick.limCount[p]) && !s.tick.limNoted[p] then
    ((s.onTick (fun t => { t with
      held := t.held.set p true, limNoted := t.limNoted.set p true, holdoff := true })).setStop 3 true).skewRec p true s.tick.limAt[p]
  else s

def execDomainSkewLimit (dt : Nat) (p : Fin 9) (s : State) : Host.Outcome State Fault Refusal := done ((s.advance dt).skewLimit p)

/-- `DOMAIN_SKEW_HOLDOFF_END`: pairs that have been below both limits for 1 s are released; with none left the stop cause ends. -/
def State.skewFree (s : State) : State :=
  if !(s.running && s.tick.holdoff) then s
  else
    let stays (p : Fin 9) : Bool := s.tick.held[p] &&
      !(match s.tick.belowSince[p] with | some t => decide (t + 1000000000 ≤ s.tb) | none => false)
    let s1 := s.onTick (fun t => { t with held := Vector.ofFn stays })
    if (List.finRange 9).any stays then s1 else (s1.onTick (fun t => { t with holdoff := false })).setStop 3 false

def execDomainSkewHoldoffEnd (dt : Nat) (s : State) : Host.Outcome State Fault Refusal := done (s.advance dt).skewFree

/-! ## The last-state record (R125, Table 9) -/

/-- The 64 bytes of a main axis. -/
def State.lastMain (s : State) (n : Fin 6) : List Byte :=
  let x := s.ax[n]
  let snt := ((s.readSnt (axis10 n) 0x104).getD 0).toNat
  leBytes 1 x.state.code ++ leBytes 1 0 ++ leBytes 2 x.haltShown
    ++ f32Bytes x.eng.speed ++ f32Bytes s.cmd.ax[n].tStar ++ leBytes 4 x.eng.angle.toNat ++ f32Bytes (s.vdc n) ++ leBytes 4 snt
    ++ zeros 40

/-- The 32 bytes of an auxiliary axis. -/
def State.lastAux (s : State) (x : Fin 4) : List Byte :=
  let a := s.aux[x]
  leBytes 1 a.state.code ++ leBytes 1 0 ++ leBytes 2 (if a.state = .halt then a.haltReason else 0)
    ++ f32Bytes (s.auxSpeedAt x s.tb) ++ zeros 24

/-- The 576 data bytes of tick `k`, whose boundary is `ta`. -/
def State.lastState (s : State) (ta k : Nat) : List Byte :=
  let m := s.mode
  leBytes 8 ta ++ leBytes 8 k ++ leBytes 1 m.mode.code ++ leBytes 1 m.prev.code ++ leBytes 2 m.cause ++ leBytes 4 s.degr
    ++ leBytes 4 s.stopCause ++ zeros 36 ++ (List.finRange 6).flatMap s.lastMain ++ (List.finRange 4).flatMap s.lastAux

/-- The record goes to slot A on even ticks and slot B on odd ones. -/
def State.lastWrite (s : State) (ta k : Nat) : State :=
  s.ksPair (if k % 2 = 0 then 0x3000 else 0x6000) 0x1800 (s.lastState ta k)

/-! ## Requests in the work of a tick (R113, R115, R557) -/

/-- A REQ_DROPPED record. -/
def State.dropRec (s : State) (time req bits port : Nat) : State := s.event time Unit.dev 0x0511 (req + 256 * (bits % 64)) port

/-- The drive request accepted before the work of this tick began is tested again; a tick after an overrun starts when the late
one is complete (R57). -/
def State.driveTest (s : State) (ta : Nat) : State :=
  match s.mode.drivePending with
  | none => s
  | some d =>
    if d.tested ∨ s.tick.workBegan ≤ d.at' then s
    else
      let b := s.blockBits
      if b = 0 ∧ s.mode.mode = .hold then s.onMode (fun m => { m with drivePending := some { d with tested := true } })
      else ((s.putBlock (b + 0x80)).onMode (fun m => { m with drivePending := none })).dropRec ta 1 b d.port

/-- A LIMP acknowledge meets a degradation cause that has arisen since, and is dropped. -/
def State.limpTest (s : State) (time : Nat) : State :=
  match s.mode.limpAck with
  | some p => if s.degr = 0 then s else (s.onMode (fun m => { m with limpAck := none })).dropRec time 3 0 p
  | none => s

/-! ## COMMIT (R32, R104, R105) -/

/-- The words in force with the staged words in their place. -/
def State.stagedRegs (s : State) : Regs := s.stg.bank.foldl (fun (r : Regs) b => r.set b.1 b.2) s.regs

/-- The first rule that the staged set breaks and the lowest staged address that it involves; `none` where all hold. -/
def State.commitJudge (s : State) : Option (Nat × Nat) :=
  match s.stagedRegs.firstRule true with
  | none => none
  | some (code, words) =>
    let staged := words.filter (fun a => s.stg.bank.any (fun b => b.1 == a))
    some (code, (lowestOf staged).getD ((lowestOf words).getD 0xFFFFFFFF))

/-- In the work of the first tick that started after its acceptance, a COMMIT is validated. -/
def State.commitTest (s : State) : State :=
  match s.stg.commit with
  | some c =>
    if c.verdict.isSome ∨ s.tick.workBegan ≤ c.at' then s
    else s.onStg (fun x => { x with commit := some { c with verdict := some s.commitJudge } })
  | none => s

/-- At a boundary met in time a validated COMMIT concludes: the whole set is applied and the bank emptied, or nothing is. -/
def State.commitTake (s : State) : State :=
  match s.stg.commit with
  | none => s
  | some c =>
    let n := s.stg.bank.length
    match c.verdict with
    | none => s
    | some (some (code, addr)) =>
      (s.onStg (fun x => { x with commit := none })).commitEnd c.tag.toNat c.port c.at' 2 code (some addr) n
    | some none =>
      let g := s.stagedRegs
      let s := ((s.onRegs (fun _ => g)).onStg (fun x => { x with commit := none, bank := [] })).commitEnd c.tag.toNat c.port c.at' 1 0
        none n
      (List.finRange 10).foldl (fun (s : State) (a : Fin 10) => if s.alloc10 a then s.freqCommit a else s) s

/-! ## Mode changes at a boundary (R109, R111 to R116, R119, R122) -/

/-- Every axis is in OFF, READY or HALT. -/
def State.allQuiet (s : State) : Bool :=
  (List.finRange 6).all (fun n => s.ax[n].state.quiet) &&
    (List.finRange 4).all (fun x => match s.aux[x].state with | .off | .ready | .halt => true | .homing | .run | .stop => false)

/-- The axes in HALT, as the detail of cause 0x0506. -/
def State.haltMask (s : State) : Nat :=
  maskOf 12 (fun i =>
    if i < 6 then s.ax[(Fin.ofNat 6 i : Fin 6)].state == .halt
    else decide (8 ≤ i) && s.aux[(Fin.ofNat 4 (i - 8) : Fin 4)].state == .halt)

/-- Every command is reset (R244). -/
def State.commandsReset (s : State) : State :=
  let s := (List.finRange 6).foldl (fun (s : State) (n : Fin 6) => s.resetCommand n) s
  let s := (List.finRange 4).foldl (fun (s : State) (x : Fin 4) => s.auxResetCommand x) s
  s.shareReset

/-- BRAKE is entered: a pending COMMIT is aborted, crash stops end, every axis that runs stops, and no start waits any more (R105,
R119, R122, R266). -/
def State.enterBrake (s : State) (detail : Nat) : State :=
  let s := (s.changeMode .brake 0x0505 detail).commitAbort
  let s := s.onMode (fun m => { m with brakeAt := s.tb, brakeTmo := false, limpAck := none })
  let s := (List.finRange 6).foldl (fun (s : State) (n : Fin 6) =>
    if s.axAlloc n then ((s.crashEnd n).axStop n .brake).modAx n (fun x => { x with startWait := none }) else s) s
  let s := (List.finRange 4).foldl (fun (s : State) (x : Fin 4) =>
    if s.auxAlloc x then (s.auxStop x .brake).modAux x (fun a => { a with startWait := none }) else s) s
  s.commandsReset

/-- HOLD is returned to: the stop causes that last until then end, axes that were OFF are READY (R118, R122). -/
def State.backToHold (s : State) (cause detail : Nat) : State :=
  let s := ((s.setStop 4 false).setStop 6 false).onTick (fun t => { t with setInHold := false })
  let s := s.changeMode .hold cause detail
  let s := (List.finRange 6).foldl (fun (s : State) (n : Fin 6) =>
    if s.axAlloc n && s.ax[n].state == .off then s.modAx n (fun x => { x with state := .ready }) else s) s
  let s := (List.finRange 4).foldl (fun (s : State) (x : Fin 4) =>
    if s.auxAlloc x && s.aux[x].state == .off then s.auxReady x else s) s
  s.commandsReset

/-- LIMP for the degradation cause that arose first. -/
def State.enterLimp (s : State) : State := s.changeMode .limp 0x0503 (s.mode.degrSeen.headD 0)

/-- Requests of a mode that a safety demand has left: a drive request that waited is dropped (Table 3, R557), an acknowledge is void. -/
def State.requestsLost (s : State) : State :=
  let s := if s.mode.mode = .limp then s else s.onMode (fun m => { m with limpAck := none })
  match s.mode.drivePending with
  | some d =>
    if s.mode.mode = .hold ∨ d.tested = false then s
    else
      let b := s.blockBits
      ((s.putBlock (b + 0x80)).onMode (fun m => { m with drivePending := none })).dropRec s.tb 1 b d.port
  | none => s

/-- The change of mode that a boundary brings, by the priority of R116. -/
def State.modeBoundary (s : State) : State :=
  let s := s.requestsLost.limpTest s.tb
  match s.mode.mode with
  | .hold =>
    match s.mode.drivePending with
    | some d =>
      if d.tested then
        let s := (s.onMode (fun m => { m with drivePending := none })).changeMode .drive 0x0502 d.port
        if s.degr = 0 then s else s.enterLimp
      else s
    | none => s
  | .drive =>
    if s.mode.stop ≠ 0 then s.enterBrake (s.mode.stopSeen.headD 0)
    else if s.degr ≠ 0 then s.enterLimp
    else s
  | .limp =>
    if s.mode.stop ≠ 0 then s.enterBrake (s.mode.stopSeen.headD 0)
    else match s.mode.limpAck with
      | some p => (s.onMode (fun m => { m with limpAck := none })).changeMode .drive 0x0504 p
      | none => s
  | .brake => if s.mode.brakeAt < s.tb && s.allQuiet then s.backToHold 0x0506 s.haltMask else s
  | .safe =>
    let r := s.srstTake
    match r.1 with
    | some ms => (r.2.backToHold 0x0508 ms).autoArm
    | none => r.2
  | .cold | .load | .freeze => s

/-! ## The boundary -/

/-- A boundary at which the work of the tick that ends is not done is an overrun: its references are withheld (R31, R57). -/
def State.tickJudge (s : State) : State :=
  if s.tick.workDone then s
  else
    s.onTick (fun t => { t with
      withheld := true, consec := t.consec + 1, ovrCnt := satInc 16 t.ovrCnt, overdue := t.overdue ++ [(s.tb, t.consec + 1)] })

/-- The next tick begins; its work begins at once where none is overdue. -/
def State.tickNext (s : State) : State :=
  s.onTick (fun t => { t with
    number := t.number + 1, began := s.tb, workDone := false, withheld := false
    workBegan := if t.overdue.isEmpty then s.tb else t.workBegan })

/-- What the references and commands of the tick that ends do at its boundary (R30, R243, R278). -/
def State.handOver (s : State) : State :=
  let ok := !s.tick.withheld
  let s := if ok then s.commitTake else s
  let s := s.clearTake
  let s := (List.finRange 16).foldl (fun (s : State) (g : Fin 16) => s.shareBoundary g ok) s
  let s := if ok then (List.finRange 6).foldl (fun (s : State) (n : Fin 6) => if s.axAlloc n then s.axisBoundary n else s) s else s
  (List.finRange 4).foldl (fun (s : State) (x : Fin 4) => if s.auxAlloc x then s.auxBoundary x else s) s

/-- The parts of the device that follow each boundary; an interface that no axis binds is captured (R197). -/
def State.boundaryRest (s : State) : State :=
  let s := ((List.finRange 6).filter s.axAlloc).foldl (fun (s : State) (n : Fin 6) => s.resample n) s
  let s := ((List.finRange 4).filter s.auxAlloc).foldl (fun (s : State) (x : Fin 4) => s.auxResample x) s
  let s := (List.finRange 6).foldl (fun (s : State) (n : Fin 6) => if s.axAlloc n then s.snsBoundary n else s) s
  let s := (List.finRange 6).foldl (fun (s : State) (e : Fin 6) => if (s.boundTo e).isNone then s.encCapture e else s) s
  let s := (List.finRange 10).foldl (fun (s : State) (a : Fin 10) => if s.alloc10 a then s.freqBoundary a else s) s
  s.soRequest.soEval.waitDrain.fabBoundary.sipBoundary.canBoundary

/-- The work of a tick begins: what it uses is read (R238, R242, R277, R304, R429). It begins at the boundary that begins its tick, or when late
work before it is complete (R57). -/
def State.workStart (s : State) : State :=
  let ta := s.tickEnd
  let s := ((List.finRange 6).filter s.axAlloc).foldl (fun (s : State) (n : Fin 6) => (s.meanTick n).readCommand n ta) s.canRead
  let s := (List.finRange 4).foldl (fun (s : State) (x : Fin 4) => if s.auxAlloc x then s.auxRead x else s) s
  (List.finRange 16).foldl (fun (s : State) (g : Fin 16) => s.shareBegin g) s

/-- A boundary. -/
def State.boundary (s : State) : State :=
  let s := s.tickJudge.modeBoundary.handOver.tickNext.boundaryRest
  if s.tick.overdue.isEmpty then s.workStart else s

/-- `OUTER_TICK_BOUNDARY`: TB_NOW is a multiple of the period (R67). -/
def execOuterTickBoundary (dt : Nat) (s : State) : Host.Outcome State Fault Refusal :=
  let s := s.advance dt
  done (if s.running && s.tb % s.period == 0 && decide (s.tick.began < s.tb) then s.boundary else s)

/-! ## The work -/

/-- The supervisor's part of a tick: loops, sharing, auxiliary axes, requests, COMMIT. `send`: it is in time, so its share
messages leave (R57). -/
def State.supervise (s : State) (send : Bool) : State :=
  let ta := s.tickEnd
  let mains := (List.finRange 6).filter s.axAlloc
  let s := mains.foldl (fun (s : State) (n : Fin 6) => s.axisTick n) s
  let s := s.sourceStop
  let s := (List.finRange 16).foldl (fun (s : State) (g : Fin 16) => s.shareTick g send) s
  let s := mains.foldl (fun (s : State) (n : Fin 6) => if (s.memberOf n).isNone then s.soloTick n else s) s
  let s := (List.finRange 4).foldl (fun (s : State) (x : Fin 4) => if s.auxAlloc x then s.auxTick x else s) s
  ((s.clearTick.driveTest ta).limpTest ta).commitTest

/-- What the work writes to the keep-store (R125, R312). -/
def State.keepTick (s : State) (k : Nat) : State :=
  let ta := s.tickEnd
  (List.finRange 4).foldl (fun (s : State) (x : Fin 4) => s.auxKeep x ta k) (s.lastWrite ta k)

/-- The work of one tick is complete: its time is measured; in time it ends a run of overruns, and with it a stop cause set in HOLD
(R58). -/
def State.workEnd (s : State) (inTime : Bool) : State :=
  let w := secOf (s.tb - s.tick.workBegan)
  let clear := inTime && s.tick.setInHold
  let s := s.onTick (fun t => { t with
    last := w, max := if t.max < w then w else t.max, workBegan := s.tb
    workDone := t.workDone || inTime, consec := if inTime then 0 else t.consec, setInHold := t.setInHold && !inTime })
  if clear then s.setStop 4 false else s

/-- The work of a tick is completed: that of the oldest overdue tick, as of its own boundary, after which that of the next tick begins; or
else that of the tick now running. -/
def State.tickWork (s : State) (sensors : List (Rat × Rat)) (vdrv v24s : Rat) : State :=
  let s := (s.onGd (fun g => { g with vdrv := vdrv })).onSaf (fun x => { x with v24s := v24s })
  match s.tick.overdue with
  | (b, n) :: rest =>
    let began := s.tick.began
    let work := s.tb - s.tick.workBegan
    let k := s.tick.number - (rest.length + 1)
    let s := s.onTick (fun t => { t with overdue := rest, began := b - s.period })
    let s := ((s.skewTick b sensors).supervise false).keepTick k
    let s := (s.workEnd false).event b Unit.dev 0x0105 n work
    let next := match rest with | (d, _) :: _ => d - s.period | [] => began
    ((s.onTick (fun t => { t with began := next })).workStart).onTick (fun t => { t with began := began })
  | [] =>
    if s.tick.workDone then s
    else ((((s.skewTick s.tickEnd sensors).supervise true).keepTick s.tick.number)).workEnd true

/-- `OUTER_TICK_WORK`: the supervisor completes the work under way, with what the fourteen sensors and the two supply inputs read. -/
def execOuterTickWork (dt : Nat) (sensors : List (Rat × Rat)) (vdrv v24s : Rat) (s : State) : Host.Outcome State Fault Refusal :=
  let s := s.advance dt
  done (if s.running then s.tickWork sensors vdrv v24s else s)

/-- `TICK_OVERRUN_STOP`: four consecutive overruns are a stop cause (R58). -/
def State.overrunStop (s : State) : State :=
  if s.running && decide (4 ≤ s.tick.consec) && !s.mode.stop.getLsbD 4 then
    (s.onTick (fun t => { t with setInHold := s.mode.mode == .hold })).setStop 4 true
  else s

def execTickOverrunStop (dt : Nat) (s : State) : Host.Outcome State Fault Refusal := done (s.advance dt).overrunStop

/-! ## The BRAKE timeout (R120) -/

/-- `BRAKE_TMO`: every axis that has not stopped halts by the reaction of class TIMEOUT. -/
def State.brakeTimeout (s : State) : State :=
  if s.running && s.mode.mode == .brake && !s.mode.brakeTmo && decide (s.mode.brakeAt + s.regs.DEV_MODE_CFG_BRAKE_TMO * 1000000000 ≤ s.tb)
  then
    let s := s.onMode (fun m => { m with brakeTmo := true })
    let s := (List.finRange 6).foldl (fun (s : State) (n : Fin 6) =>
      if s.axAlloc n && !s.ax[n].state.quiet then
        (s.event s.tb (Unit.ax n) 0x0A0B 0 (rpm10 (s.axSpeed n))).axFault n 0x0A0B .timeout
      else s) s
    (List.finRange 4).foldl (fun (s : State) (x : Fin 4) =>
      match s.aux[x].state with
      | .off | .ready | .halt => s
      | .homing | .run | .stop => (s.event s.tb (Unit.aux x) 0x0A0B 0 (rpm10 (s.auxSpeedAt x s.tb))).auxHalt x 0x0A0B) s
  else s

def execBrakeTmo (dt : Nat) (s : State) : Host.Outcome State Fault Refusal := done (s.advance dt).brakeTimeout

end Sys2Proof.Machine
end

