-- ==== Sys2Proof/Machine/Dispatch.lean ====
section
/-! DEFINITION. The meaning of every command: one arm per row of the table of operations and events. -/
namespace Sys2Proof.Machine

/-- The effect of a command on everything but the queue. -/
def exec (i : Instr) (s : State) : Host.Outcome State Fault Refusal :=
  match i with
  | .resetAssert dt => Sys2Proof.Machine.execResetAssert dt s
  | .supplyLoss dt sup => Sys2Proof.Machine.execSupplyLoss dt sup s
  | .suppliesGood dt => Sys2Proof.Machine.execSuppliesGood dt s
  | .resetRelease dt refsel1 refsel0 cfgselHigh => Sys2Proof.Machine.execResetRelease dt refsel1 refsel0 cfgselHigh s
  | .pllLock dt => Sys2Proof.Machine.execPllLock dt s
  | .pllLockTimeout dt => Sys2Proof.Machine.execPllLockTimeout dt s
  | .loadEntry dt keepOk => Sys2Proof.Machine.execLoadEntry dt keepOk s
  | .imageHeaderRead dt bytes => Sys2Proof.Machine.execImageHeaderRead dt bytes s
  | .sectionHeaderRead dt bytes => Sys2Proof.Machine.execSectionHeaderRead dt bytes s
  | .imageEntryRead dt addr naddr value nvalue => Sys2Proof.Machine.execImageEntryRead dt addr naddr value nvalue s
  | .sectionCrcRead dt scrc pad => Sys2Proof.Machine.execSectionCrcRead dt scrc pad s
  | .holdEntry dt freezeLow => Sys2Proof.Machine.execHoldEntry dt freezeLow s
  | .refclkLoss dt offFrequency => Sys2Proof.Machine.execRefclkLoss dt offFrequency s
  | .refclkBack dt => Sys2Proof.Machine.execRefclkBack dt s
  | .epuCalibration dt u spans => Sys2Proof.Machine.execEpuCalibration dt u spans s
  | .tbNowLoRead dt o => Sys2Proof.Machine.execTbNowLoRead dt o s
  | .sampleInstant dt n hsUv => Sys2Proof.Machine.execSampleInstant dt n hsUv s
  | .currentLoopUpdate dt n yU yV yW => Sys2Proof.Machine.execCurrentLoopUpdate dt n yU yV yW s
  | .edgeSetPosted dt a => Sys2Proof.Machine.execEdgeSetPosted dt a s
  | .edgeUpdateInstant dt a => Sys2Proof.Machine.execEdgeUpdateInstant dt a s
  | .lateResultDiscarded dt a => Sys2Proof.Machine.execLateResultDiscarded dt a s
  | .lateReact dt a => Sys2Proof.Machine.execLateReact dt a s
  | .lateBridgeOff dt a => Sys2Proof.Machine.execLateBridgeOff dt a s
  | .slackWindowClose dt a => Sys2Proof.Machine.execSlackWindowClose dt a s
  | .lateClear dt n => Sys2Proof.Machine.execLateClear dt n s
  | .pwmFrequencyChange dt a => Sys2Proof.Machine.execPwmFrequencyChange dt a s
  | .outerTickBoundary dt => Sys2Proof.Machine.execOuterTickBoundary dt s
  | .outerTickWork dt sensors vdrv v24s => Sys2Proof.Machine.execOuterTickWork dt sensors vdrv v24s s
  | .tickOverrunStop dt => Sys2Proof.Machine.execTickOverrunStop dt s
  | .domainSkewLimit dt p => Sys2Proof.Machine.execDomainSkewLimit dt p s
  | .domainSkewHoldoffEnd dt => Sys2Proof.Machine.execDomainSkewHoldoffEnd dt s
  | .tickClr dt o w => Sys2Proof.Machine.execTickClr dt o w s
  | .sntClr dt o a w => Sys2Proof.Machine.execSntClr dt o a w s
  | .registerWrite dt o maint addr value => Sys2Proof.Machine.execRegisterWrite dt o maint addr value s
  | .stagedWrite dt o addr value => Sys2Proof.Machine.execStagedWrite dt o addr value s
  | .stgDiscard dt o w => Sys2Proof.Machine.execStgDiscard dt o w s
  | .commit dt o tag => Sys2Proof.Machine.execCommit dt o tag s
  | .driveRequest dt o => Sys2Proof.Machine.execDriveRequest dt o s
  | .holdRequest dt o => Sys2Proof.Machine.execHoldRequest dt o s
  | .limpAcknowledge dt o => Sys2Proof.Machine.execLimpAcknowledge dt o s
  | .brakeTmo dt => Sys2Proof.Machine.execBrakeTmo dt s
  | .hsUvSet dt a leg millivolt => Sys2Proof.Machine.execHsUvSet dt a leg millivolt s
  | .bstUv dt a millivolt => Sys2Proof.Machine.execBstUv dt a millivolt s
  | .bstRefreshEnd dt a millivolt => Sys2Proof.Machine.execBstRefreshEnd dt a millivolt s
  | .hsSupplyReady dt a => Sys2Proof.Machine.execHsSupplyReady dt a s
  | .bstStartTimeout dt a lowLegs millivolt => Sys2Proof.Machine.execBstStartTimeout dt a lowLegs millivolt s
  | .desatTrip dt a leg high => Sys2Proof.Machine.execDesatTrip dt a leg high s
  | .fastComparatorTrip dt n => Sys2Proof.Machine.execFastComparatorTrip dt n s
  | .linkFaultReturn dt a leg low => Sys2Proof.Machine.execLinkFaultReturn dt a leg low s
  | .softTurnOffEnd dt a => Sys2Proof.Machine.execSoftTurnOffEnd dt a s
  | .shortAscEntry dt n => Sys2Proof.Machine.execShortAscEntry dt n s
  | .vdrvUv dt millivolt => Sys2Proof.Machine.execVdrvUv dt millivolt s
  | .vdrvOv dt millivolt => Sys2Proof.Machine.execVdrvOv dt millivolt s
  | .vdrvMonitorClear dt ov => Sys2Proof.Machine.execVdrvMonitorClear dt ov s
  | .ascSwitchOn dt n lowestMillivolt => Sys2Proof.Machine.execAscSwitchOn dt n lowestMillivolt s
  | .chopperFault dt c => Sys2Proof.Machine.execChopperFault dt c s
  | .chopperClear dt o w => Sys2Proof.Machine.execChopperClear dt o w s
  | .selftestStart dt o mask => Sys2Proof.Machine.execSelftestStart dt o mask s
  | .selftestTestDone dt pass => Sys2Proof.Machine.execSelftestTestDone dt pass s
  | .fastFilterOutput dt c y => Sys2Proof.Machine.execFastFilterOutput dt c y s
  | .phaseOc dt c => Sys2Proof.Machine.execPhaseOc dt c s
  | .sdiStuck dt c level => Sys2Proof.Machine.execSdiStuck dt c level s
  | .sdiStuckClear dt c => Sys2Proof.Machine.execSdiStuckClear dt c s
  | .zeroMeasurementEnd dt target average => Sys2Proof.Machine.execZeroMeasurementEnd dt target average s
  | .dcsHold dt n => Sys2Proof.Machine.execDcsHold dt n s
  | .dcsConversionDone dt n code volts => Sys2Proof.Machine.execDcsConversionDone dt n code volts s
  | .dcsConversionTimeout dt n => Sys2Proof.Machine.execDcsConversionTimeout dt n s
  | .sdiFault dt n phase cause => Sys2Proof.Machine.execSdiFault dt n phase cause s
  | .dcsFault dt n cause => Sys2Proof.Machine.execDcsFault dt n cause s
  | .senseLost dt n cse => Sys2Proof.Machine.execSenseLost dt n cse s
  | .predLimit dt n => Sys2Proof.Machine.execPredLimit dt n s
  | .sensorBack dt n kind => Sys2Proof.Machine.execSensorBack dt n kind s
  | .ainHold dt c => Sys2Proof.Machine.execAinHold dt c s
  | .ainConversionDone dt c volts => Sys2Proof.Machine.execAinConversionDone dt c volts s
  | .ainRange dt c => Sys2Proof.Machine.execAinRange dt c s
  | .encEdge dt e a b z => Sys2Proof.Machine.execEncEdge dt e a b z s
  | .encIllegalLimit dt e => Sys2Proof.Machine.execEncIllegalLimit dt e s
  | .encSpeedTimeout dt e => Sys2Proof.Machine.execEncSpeedTimeout dt e s
  | .serialTransferDone dt e lineHigh bits parity => Sys2Proof.Machine.execSerialTransferDone dt e lineHigh bits parity s
  | .serialPositionFault dt e => Sys2Proof.Machine.execSerialPositionFault dt e s
  | .encObserverMismatch dt n => Sys2Proof.Machine.execEncObserverMismatch dt n s
  | .rcnClr dt o n w => Sys2Proof.Machine.execRcnClr dt o n w s
  | .catchDone dt n speed angle => Sys2Proof.Machine.execCatchDone dt n speed angle s
  | .catchFail dt n => Sys2Proof.Machine.execCatchFail dt n s
  | .catchRetry dt n => Sys2Proof.Machine.execCatchRetry dt n s
  | .ifAlignEnd dt n => Sys2Proof.Machine.execIfAlignEnd dt n s
  | .ifBlendEnd dt n => Sys2Proof.Machine.execIfBlendEnd dt n s
  | .los dt n => Sys2Proof.Machine.execLos dt n s
  | .reacquired dt n => Sys2Proof.Machine.execReacquired dt n s
  | .ascReacqTimeout dt n => Sys2Proof.Machine.execAscReacqTimeout dt n s
  | .ascExit dt n => Sys2Proof.Machine.execAscExit dt n s
  | .ascBlindHoldEnd dt n => Sys2Proof.Machine.execAscBlindHoldEnd dt n s
  | .axisCmdStop dt o n => Sys2Proof.Machine.execAxisCmdStop dt o n s
  | .axisCmdSpeed dt o n heave => Sys2Proof.Machine.execAxisCmdSpeed dt o n heave s
  | .axisCmdTorque dt o n heave => Sys2Proof.Machine.execAxisCmdTorque dt o n heave s
  | .axisCmdTension dt o n heave => Sys2Proof.Machine.execAxisCmdTension dt o n heave s
  | .axisSetpointWrite dt o n value => Sys2Proof.Machine.execAxisSetpointWrite dt o n value s
  | .canLost dt n => Sys2Proof.Machine.execCanLost dt n s
  | .standstillReached dt n => Sys2Proof.Machine.execStandstillReached dt n s
  | .axisClearCommand dt o ax aux => Sys2Proof.Machine.execAxisClearCommand dt o ax aux s
  | .renderEnd dt n => Sys2Proof.Machine.execRenderEnd dt n s
  | .heaveReferenceInput dt o n frameAge accel => Sys2Proof.Machine.execHeaveReferenceInput dt o n frameAge accel s
  | .heaveStale dt n => Sys2Proof.Machine.execHeaveStale dt n s
  | .overtemp dt n => Sys2Proof.Machine.execOvertemp dt n s
  | .impactHoldEnd dt n => Sys2Proof.Machine.execImpactHoldEnd dt n s
  | .iceStall dt n => Sys2Proof.Machine.execIceStall dt n s
  | .icePauseEnd dt n => Sys2Proof.Machine.execIcePauseEnd dt n s
  | .iceBackEnd dt n => Sys2Proof.Machine.execIceBackEnd dt n s
  | .stopTmo dt n => Sys2Proof.Machine.execStopTmo dt n s
  | .crashStop dt o n w => Sys2Proof.Machine.execCrashStop dt o n w s
  | .dcCrit dt n high => Sys2Proof.Machine.execDcCrit dt n high s
  | .dcLimitEnd dt n regen => Sys2Proof.Machine.execDcLimitEnd dt n regen s
  | .shareReportReceived dt sender payload => Sys2Proof.Machine.execShareReportReceived dt sender payload s
  | .shareReceived dt sender payload => Sys2Proof.Machine.execShareReceived dt sender payload s
  | .memberLost dt g slot => Sys2Proof.Machine.execMemberLost dt g slot s
  | .desyncGraceEnd dt g => Sys2Proof.Machine.execDesyncGraceEnd dt g s
  | .auxUpdate dt x vA1 vA2 vB1 vB2 hsUv => Sys2Proof.Machine.execAuxUpdate dt x vA1 vA2 vB1 vB2 hsUv s
  | .auxStall dt x => Sys2Proof.Machine.execAuxStall dt x s
  | .holdCurrentDelayEnd dt x => Sys2Proof.Machine.execHoldCurrentDelayEnd dt x s
  | .auxCmdStop dt o x => Sys2Proof.Machine.execAuxCmdStop dt o x s
  | .auxCmdVelocity dt o x => Sys2Proof.Machine.execAuxCmdVelocity dt o x s
  | .auxCmdPosition dt o x => Sys2Proof.Machine.execAuxCmdPosition dt o x s
  | .auxCmdHome dt o x => Sys2Proof.Machine.execAuxCmdHome dt o x s
  | .auxSetpointWrite dt o x value => Sys2Proof.Machine.execAuxSetpointWrite dt o x value s
  | .auxTargetWrite dt o x value => Sys2Proof.Machine.execAuxTargetWrite dt o x value s
  | .auxMoveDone dt x => Sys2Proof.Machine.execAuxMoveDone dt x s
  | .auxStopSettleEnd dt x => Sys2Proof.Machine.execAuxStopSettleEnd dt x s
  | .auxStillSet dt x => Sys2Proof.Machine.execAuxStillSet dt x s
  | .startCheckEnd dt x => Sys2Proof.Machine.execStartCheckEnd dt x s
  | .limitInputChange dt x positive high => Sys2Proof.Machine.execLimitInputChange dt x positive high s
  | .limChatter dt x positive => Sys2Proof.Machine.execLimChatter dt x positive s
  | .limClr dt o x w => Sys2Proof.Machine.execLimClr dt o x w s
  | .cobaltSample dt edm => Sys2Proof.Machine.execCobaltSample dt edm s
  | .cobaltScan dt sramOk instrOk inTime => Sys2Proof.Machine.execCobaltScan dt sramOk instrOk inTime s
  | .safetyCompare dt differs => Sys2Proof.Machine.execSafetyCompare dt differs s
  | .compareStale dt atBronze => Sys2Proof.Machine.execCompareStale dt atBronze s
  | .vcoreSWindow dt => Sys2Proof.Machine.execVcoreSWindow dt s
  | .cobaltRomCheck dt ok => Sys2Proof.Machine.execCobaltRomCheck dt ok s
  | .mirrorStale dt => Sys2Proof.Machine.execMirrorStale dt s
  | .safeInputEdge dt p chB level => Sys2Proof.Machine.execSafeInputEdge dt p chB level s
  | .safeInputFiltered dt p chB => Sys2Proof.Machine.execSafeInputFiltered dt p chB s
  | .discrepancyFault dt p bronze => Sys2Proof.Machine.execDiscrepancyFault dt p s bronze
  | .testPulseStart dt tpo1 => Sys2Proof.Machine.execTestPulseStart dt tpo1 s
  | .testPulseEnd dt tpo1 afterRec levels bronze => Sys2Proof.Machine.execTestPulseEnd dt tpo1 afterRec levels s bronze
  | .v24sOut dt millivolt bronze => Sys2Proof.Machine.execV24sOut dt millivolt s bronze
  | .v24sBack dt millivolt bronze => Sys2Proof.Machine.execV24sBack dt millivolt s bronze
  | .ss1Sto dt bronze => Sys2Proof.Machine.execSs1Sto dt bronze s
  | .ss1rStandstill dt bronze => Sys2Proof.Machine.execSs1rStandstill dt s bronze
  | .axisDataStale dt => Sys2Proof.Machine.execAxisDataStale dt s
  | .sbc dt k bronze => Sys2Proof.Machine.execSbc dt k s bronze
  | .pathCheckTimeout dt => Sys2Proof.Machine.execPathCheckTimeout dt s
  | .pathTestDue dt => Sys2Proof.Machine.execPathTestDue dt s
  | .soDarkTestStart dt k bronze => Sys2Proof.Machine.execSoDarkTestStart dt k bronze s
  | .soDarkTestEnd dt k bronze millivolt => Sys2Proof.Machine.execSoDarkTestEnd dt k bronze millivolt s
  | .soOffVoltageFault dt k millivolt bronze => Sys2Proof.Machine.execSoOffVoltageFault dt k millivolt s bronze
  | .edmTimeout dt k bronze => Sys2Proof.Machine.execEdmTimeout dt k s bronze
  | .srstPress dt => Sys2Proof.Machine.execSrstPress dt s
  | .srstBronzeTimer dt => Sys2Proof.Machine.execSrstBronzeTimer dt s
  | .srstRelease dt => Sys2Proof.Machine.execSrstRelease dt s
  | .srstStuck dt => Sys2Proof.Machine.execSrstStuck dt s
  | .srstLowTimer dt => Sys2Proof.Machine.execSrstLowTimer dt s
  | .envelopeReceived dt c envelope => Sys2Proof.Machine.execEnvelopeReceived dt c envelope s
  | .connectionLost dt c bronze => Sys2Proof.Machine.execConnectionLost dt c s bronze
  | .envelopeSend dt c => Sys2Proof.Machine.execEnvelopeSend dt c s
  | .linkRun dt k rxRate => Sys2Proof.Machine.execLinkRun dt k rxRate s
  | .exchangeError dt k kind part => Sys2Proof.Machine.execExchangeError dt k kind s part
  | .linkDown dt k => Sys2Proof.Machine.execLinkDown dt k s
  | .linkDownEnd dt k => Sys2Proof.Machine.execLinkDownEnd dt k s
  | .helloReceived dt k payload => Sys2Proof.Machine.execHelloReceived dt k payload s
  | .helloSend dt k => Sys2Proof.Machine.execHelloSend dt k s
  | .noHello dt k => Sys2Proof.Machine.execNoHello dt k s
  | .linkSilent dt k => Sys2Proof.Machine.execLinkSilent dt k s
  | .joinReceived dt k payload => Sys2Proof.Machine.execJoinReceived dt k payload s
  | .joinRepeat dt => Sys2Proof.Machine.execJoinRepeat dt s
  | .admitReceived dt k payload => Sys2Proof.Machine.execAdmitReceived dt k payload s
  | .routesReceived dt payload => Sys2Proof.Machine.execRoutesReceived dt payload s
  | .urgentPacketReceived dt k bytes tc eep => Sys2Proof.Machine.execUrgentPacketReceived dt k bytes s tc eep
  | .bulkSegmentReceived dt k bytes eep => Sys2Proof.Machine.execBulkSegmentReceived dt k bytes eep s
  | .packetWaitTimeout dt k bulk => Sys2Proof.Machine.execPacketWaitTimeout dt k bulk s
  | .syncReqSend dt => Sys2Proof.Machine.execSyncReqSend dt s
  | .syncReqReceived dt k => Sys2Proof.Machine.execSyncReqReceived dt k s
  | .syncRespReceived dt k payload => Sys2Proof.Machine.execSyncRespReceived dt k payload s
  | .syncLost dt trimLimit => Sys2Proof.Machine.execSyncLost dt trimLimit s
  | .freezeAt dt origin seq instant cause => Sys2Proof.Machine.execFreezeAt dt origin seq instant cause s
  | .routesApply dt origin seq instant version => Sys2Proof.Machine.execRoutesApply dt origin seq instant version s
  | .routes dt => Sys2Proof.Machine.execRoutes dt s
  | .fabricLoss dt => Sys2Proof.Machine.execFabricLoss dt s
  | .jcpRequestFrame dt via frameAge maint bytes => Sys2Proof.Machine.execJcpRequestFrame dt via frameAge maint bytes s
  | .jcpRead dt o addr n => Sys2Proof.Machine.execJcpRead dt o addr n s
  | .jcpWrite dt o maint addr words => Sys2Proof.Machine.execJcpWrite dt o maint addr words s
  | .tokenRequest dt o frameAge => Sys2Proof.Machine.execTokenRequest dt o frameAge s
  | .tokenRelease dt o => Sys2Proof.Machine.execTokenRelease dt o s
  | .tokenTake dt o frameAge => Sys2Proof.Machine.execTokenTake dt o frameAge s
  | .tokenStatus dt o => Sys2Proof.Machine.execTokenStatus dt o s
  | .jcpNop dt o => Sys2Proof.Machine.execJcpNop dt o s
  | .fetch dt o ch max => Sys2Proof.Machine.execFetch dt o ch max s
  | .imageBegin dt o maint => Sys2Proof.Machine.execImageBegin dt o maint s
  | .imageData dt o offset bytes => Sys2Proof.Machine.execImageData dt o offset bytes s
  | .imageEnd dt o header => Sys2Proof.Machine.execImageEnd dt o header s
  | .imageAbort dt o => Sys2Proof.Machine.execImageAbort dt o s
  | .imageEraseDone dt => Sys2Proof.Machine.execImageEraseDone dt s
  | .imageVerifyDone dt sectionsOk => Sys2Proof.Machine.execImageVerifyDone dt sectionsOk s
  | .imageSessionTimeout dt => Sys2Proof.Machine.execImageSessionTimeout dt s
  | .maintEnFall dt => Sys2Proof.Machine.execMaintEnFall dt s
  | .jcpFreeze dt o fabricScope cause frameAge => Sys2Proof.Machine.execJcpFreeze dt o fabricScope cause frameAge s
  | .jcpSafe dt o envelope => Sys2Proof.Machine.execJcpSafe dt o envelope s
  | .jcpForwardReply dt port tag bytes => Sys2Proof.Machine.execJcpForwardReply dt port tag bytes s
  | .jcpForwardTimeout dt port tag => Sys2Proof.Machine.execJcpForwardTimeout dt port tag s
  | .tokenDecision dt => Sys2Proof.Machine.execTokenDecision dt s
  | .tokenLeaseExpiry dt => Sys2Proof.Machine.execTokenLeaseExpiry dt s
  | .quarantine dt q => Sys2Proof.Machine.execQuarantine dt q s
  | .quarantineEnd dt q => Sys2Proof.Machine.execQuarantineEnd dt q s
  | .spiWriteFrame dt p frameAge bytes => Sys2Proof.Machine.execSpiWriteFrame dt p frameAge bytes s
  | .spiQuadWriteFrame dt p frameAge bytes => Sys2Proof.Machine.execSpiQuadWriteFrame dt p frameAge bytes s
  | .spiReadStatus dt p => Sys2Proof.Machine.execSpiReadStatus dt p s
  | .spiReadFrame dt p => Sys2Proof.Machine.execSpiReadFrame dt p s
  | .spiQuadReadFrame dt p => Sys2Proof.Machine.execSpiQuadReadFrame dt p s
  | .mntFrameGap dt frameAge bytes gap => Sys2Proof.Machine.execMntFrameGap dt frameAge bytes s gap
  | .port dt p up => Sys2Proof.Machine.execPort dt p up s
  | .portErrClr dt o p w => Sys2Proof.Machine.execPortErrClr dt o p w s
  | .linkErrClr dt o k w => Sys2Proof.Machine.execLinkErrClr dt o k w s
  | .canSetpointMessage dt n f => Sys2Proof.Machine.execCanSetpointMessage dt n f s
  | .canHeaveMessage dt n f => Sys2Proof.Machine.execCanHeaveMessage dt n f s
  | .canEnvelopeFrame dt n f => Sys2Proof.Machine.execCanEnvelopeFrame dt n f s
  | .canRecordFrame dt n f => Sys2Proof.Machine.execCanRecordFrame dt n f s
  | .abdDwellEnd dt n => Sys2Proof.Machine.execAbdDwellEnd dt n s
  | .canPeriodicTx dt n k => Sys2Proof.Machine.execCanPeriodicTx dt n k s
  | .canFrameSent dt n slot sofAge => Sys2Proof.Machine.execCanFrameSent dt n slot sofAge s
  | .canError dt n kind tec rec => Sys2Proof.Machine.execCanError dt n kind tec rec s
  | .canSend dt o n h => Sys2Proof.Machine.execCanSend dt o n h s
  | .canCancel dt o n h => Sys2Proof.Machine.execCanCancel dt o n h s
  | .canRecover dt o n => Sys2Proof.Machine.execCanRecover dt o n s
  | .canRecoveryDone dt n => Sys2Proof.Machine.execCanRecoveryDone dt n s
  | .canClr dt o n => Sys2Proof.Machine.execCanClr dt o n s
  | .canTxdGuard dt n => Sys2Proof.Machine.execCanTxdGuard dt n s
  | .recordEmit dt => Sys2Proof.Machine.execRecordEmit dt s
  | .channelFlush dt c => Sys2Proof.Machine.execChannelFlush dt c s
  | .descriptorFetched dt => Sys2Proof.Machine.execDescriptorFetched dt s
  | .descriptorDone dt eccError => Sys2Proof.Machine.execDescriptorDone dt eccError s
  | .busError dt addr => Sys2Proof.Machine.execBusError dt addr s
  | .sipStart dt o c => Sys2Proof.Machine.execSipStart dt o c s
  | .sipStop dt o c => Sys2Proof.Machine.execSipStop dt o c s
  | .channelRestart dt o c => Sys2Proof.Machine.execChannelRestart dt o c s
  | .sipRestart dt o w => Sys2Proof.Machine.execSipRestart dt o w s
  | .workSramWrite dt o addr value => Sys2Proof.Machine.execWorkSramWrite dt o addr value s
  | .streamFlush dt st => Sys2Proof.Machine.execStreamFlush dt st s
  | .nandProgramDone dt ok => Sys2Proof.Machine.execNandProgramDone dt ok s
  | .nandEraseDone dt ok => Sys2Proof.Machine.execNandEraseDone dt ok s
  | .nandReadDone dt result => Sys2Proof.Machine.execNandReadDone dt result s
  | .nandBusyTimeout dt target after => Sys2Proof.Machine.execNandBusyTimeout dt target s after
  | .metaCheckpoint dt => Sys2Proof.Machine.execMetaCheckpoint dt s
  | .captureCommand dt o => Sys2Proof.Machine.execCaptureCommand dt o s
  | .captureWindowEnd dt k => Sys2Proof.Machine.execCaptureWindowEnd dt k s
  | .eventSlotRelease dt o k => Sys2Proof.Machine.execEventSlotRelease dt o k s
  | .dumpSlotRelease dt o k => Sys2Proof.Machine.execDumpSlotRelease dt o k s
  | .replay dt o => Sys2Proof.Machine.execReplay dt o s
  | .replayStop dt o => Sys2Proof.Machine.execReplayStop dt o s
  | .format dt o maint => Sys2Proof.Machine.execFormat dt o maint s
  | .replayRdWrite dt o value => Sys2Proof.Machine.execReplayRdWrite dt o value s
  | .scrub dt => Sys2Proof.Machine.execScrub dt s
  | .staticWearLevel dt => Sys2Proof.Machine.execStaticWearLevel dt s
  | .maintenanceWaitExpiry dt target => Sys2Proof.Machine.execMaintenanceWaitExpiry dt target s
  | .mount dt found => Sys2Proof.Machine.execMount dt found s
  | .freezePin dt maint => Sys2Proof.Machine.execFreezePin dt maint s
  | .freezeInstant dt => Sys2Proof.Machine.execFreezeInstant dt s
  | .frzStat dt => Sys2Proof.Machine.execFrzStat dt s
  | .frzRead dt ready => Sys2Proof.Machine.execFrzRead dt ready s
  | .frzDump dt => Sys2Proof.Machine.execFrzDump dt s
  | .frzTrig dt cause => Sys2Proof.Machine.execFrzTrig dt cause s
  | .tapWaitExpiry dt => Sys2Proof.Machine.execTapWaitExpiry dt s
  | .selfDumpDone dt ok => Sys2Proof.Machine.execSelfDumpDone dt ok s
  | .cobaltSupplyWindow dt => Sys2Proof.Machine.execCobaltSupplyWindow dt s
  | .ss1rLeadExpiry dt bronze => Sys2Proof.Machine.execSs1rLeadExpiry dt s bronze
  | .soCurrentLimitOff dt k => Sys2Proof.Machine.execSoCurrentLimitOff dt k s
  | .canBusIntegration dt n => Sys2Proof.Machine.execCanBusIntegration dt n s

end Sys2Proof.Machine
end

