-- ==== Sys2Proof/Machine/Pins.lean ====
section
/-! DEFINITION. The pins as the state shows them: who takes a half-bridge and what reaches its gates (R127 to R139), the pins of the
memories, of the links and ports, of sensing and of the safe outputs, and their reset states (R84, R87, R121, R486, R527, Tables 4
to 6 of the pins chapter). Nothing here changes the state. -/
namespace Sys2Proof.Machine

/-- What a pin does: driven low or high, or to the idle levels of its standard, left high-impedance, held by a weak pull, a mid-level
divider, an input load to GND or the termination of its pair, or used by an interface whose traffic decides. -/
inductive Pin where
  | low | high | idle | z | pullUp | pullDown | middle | load | term | busy
  deriving DecidableEq, Repr

/-- A level that is driven. -/
def Pin.drive (b : Bool) : Pin := if b then .high else .low

/-- The pins are in their reset state: held COLD, and until LOAD has ended (R84, Tables 1 and 4 to 6). -/
def State.pinsReset (s : State) : Bool := s.pwr.phase != .running

/-! ## Half-bridges (R127 to R139) -/

/-- A user of the pool, with the leg it uses: a phase of a main axis, an end of a winding of an auxiliary axis, a chopper leg. -/
inductive HbUser where
  | ax (n : Fin 6) (leg : Fin 3)
  | aux (x : Fin 4) (leg : Fin 4)
  | chop (c : Fin 4)
  deriving DecidableEq, Repr

/-- The half-bridges of the phases U, V, W (R128). Exchanging those of V and W reverses the axis (R12). -/
def State.axHb (s : State) (n : Fin 6) : Vector Nat 3 :=
  #v[s.regs.GD_AXn_MAP_HB_U n, s.regs.GD_AXn_MAP_HB_V n, s.regs.GD_AXn_MAP_HB_W n]

/-- The half-bridges of A1, A2, B1, B2 (R128). -/
def State.auxHb (s : State) (x : Fin 4) : Vector Nat 4 :=
  #v[s.regs.GD_AUXn_MAP_HB_A1 x, s.regs.GD_AUXn_MAP_HB_A2 x, s.regs.GD_AUXn_MAP_HB_B1 x, s.regs.GD_AUXn_MAP_HB_B2 x]

/-- Who takes half-bridge `h` (R127). -/
def State.hbUser (s : State) (h : Nat) : Option HbUser :=
  let ax := (List.finRange 6).findSome? (fun n =>
    if s.axAlloc n then ((List.finRange 3).find? (fun k => (s.axHb n)[k] == h)).map (HbUser.ax n) else none)
  let aux := (List.finRange 4).findSome? (fun x =>
    if s.auxAlloc x then ((List.finRange 4).find? (fun k => (s.auxHb x)[k] == h)).map (HbUser.aux x) else none)
  let chop := (List.finRange 4).find? (fun (c : Fin 4) => s.regs.GD_CHPn_MAP_EN c && s.regs.GD_CHPn_MAP_HB c == h)
  ax <|> aux <|> chop.map HbUser.chop

/-- The axis of the pool of a user, `none` for a chopper leg, and its number among the self-test targets. -/
def HbUser.axis : HbUser → Option (Fin 10)
  | .ax n _ => some (axis10 n)
  | .aux x _ => some (aux10 x)
  | .chop _ => none

def HbUser.target : HbUser → Nat
  | .ax n _ => n.val
  | .aux x _ => 6 + x.val
  | .chop c => 10 + c.val

def HbUser.leg : HbUser → Nat
  | .ax _ k => k.val
  | .aux _ k => k.val
  | .chop _ => 0

/-- The protection latch of a user holds its bridge off; an ASC that R150 started stands in its place. -/
def State.hbLatched (s : State) (u : HbUser) : Bool :=
  match u with
  | .ax n _ => s.gd.ax[axis10 n].latched && !(s.ax[n].state == .asc && s.ax[n].ascSt.follow)
  | .aux x _ => s.gd.ax[aux10 x].latched
  | .chop c => s.gd.chop[c].fault

/-- The first applicable row of Table 2 (R138), 1 the highest. -/
def State.inputRow (s : State) (u : HbUser) : Nat :=
  if s.pinsReset then 1
  else if s.hbLatched u then 2
  else if !s.gd.swClosed then 3
  else if s.mode.mode = .freeze then 4
  else if s.gd.blocked then 5
  else if s.gd.uv || s.gd.ov then 6
  else match s.testNow with
    | some (t, _) => if t = u.target then 7 else 8
    | none => 8

/-- A leg turns off softly: 2.0 µs from the trip (R148, R156, R162). -/
def State.hbSoft (s : State) (u : HbUser) (high : Bool) : Bool :=
  match u with
  | .ax n k =>
    let g := s.gd.ax[axis10 n]
    g.softAt.isSome && g.softLegs.getLsbD k.val && (g.softHigh.getLsbD k.val == high)
  | .aux x k =>
    let g := s.gd.ax[aux10 x]
    g.softAt.isSome && g.softLegs.getLsbD k.val && (g.softHigh.getLsbD k.val == high)
  | .chop c => !high && (match s.gd.chop[c].softAt with | some t => decide (s.gdTime < t + 2000) | none => false)

/-- The pattern of the test that runs on a user: in a desaturation test that switch alone (Table 7). -/
def State.testPattern (s : State) (u : HbUser) : Bool × Bool :=
  match s.testNow with
  | some (_, .desat l high) => if l.val = u.leg then (high, !high) else (false, false)
  | some (_, .chop) => (false, match u with | .chop c => !s.chopLink c | _ => false)
  | _ => (false, false)

/-- The command of the engine: the switch of the leg that is on; a chopper leg switches its low side alone (R160). -/
def State.engineCmd (s : State) (u : HbUser) : Bool × Bool :=
  match u with
  | .chop c => (false, s.gd.chop[c].on)
  | .ax n k => match s.legOn n k with | some p => (p.1, !p.1) | none => (false, false)
  | .aux x k => match s.auxLegOn x k with | some p => (p.1, !p.1) | none => (false, false)

/-- The commands that reach the gates of half-bridge `h`, high and low side (R36, R138): the bridge of FREEZE is off or in low-side ASC
by its own state. -/
def State.hbCmd (s : State) (h : Nat) : Bool × Bool :=
  match s.hbUser h with
  | none => (false, false)
  | some u =>
    match s.inputRow u with
    | 7 => s.testPattern u
    | 4 | 8 => s.engineCmd u
    | _ => (false, false)

/-- Is a half-bridge in link mode? -/
def State.hbLink (s : State) (h : Nat) : Bool := Nat.testBit s.regs.GD_HB_MODE h

/-- The strength setting and the clamp enable of a user; a chopper leg has no such setting. -/
def State.hbStrength (s : State) : HbUser → Option Nat
  | .ax n _ => some (s.regs.GD_AXn_CFG_STRENGTH n)
  | .aux x _ => some (s.regs.GD_AUXn_CFG_STRENGTH x)
  | .chop _ => none

def State.hbClampEn (s : State) : HbUser → Bool
  | .ax n _ => s.regs.GD_AXn_CFG_CLAMP_EN n
  | .aux x _ => s.regs.GD_AUXn_CFG_CLAMP_EN x
  | .chop _ => false

/-- The peak source and sink currents of a strength setting, mA (R134). -/
def strengthSource (k : Nat) : Nat := 1000 * (k + 1)
def strengthSink (k : Nat) : Nat := 1500 * (k + 1)

/-- What a gate output of half-bridge `h` may draw at most, mA: above zero it sources, below it sinks; 0 the pull-down alone holds it,
and `none` no setting gives a figure. Soft turn-off sinks 0.5 A whatever the setting (R134, R148). -/
def State.gatePeak (s : State) (h : Nat) (high : Bool) : Option Int :=
  match s.hbUser h with
  | none => some 0
  | some u =>
    let row := s.inputRow u
    if row = 1 ∨ row = 3 ∨ s.hbLink h then some 0
    else if s.hbSoft u high then some (-500)
    else
      let on := if high then (s.hbCmd h).1 else (s.hbCmd h).2
      (s.hbStrength u).map (fun k => if on then (strengthSource k : Int) else -(strengthSink k : Int))

/-- The low side of a leg has turned off since the device left its reset state: before the set in force, or in it (R137). -/
def State.lowRan (s : State) (u : HbUser) : Bool :=
  match u with
  | .ax n k =>
    let p := s.legAt n k s.tb
    s.gd.ax[axis10 n].lowRan.getLsbD k.val
      || (s.ax[n].bridge == .modulate && p.1 && decide ((s.ax[n].setAt : Rat) < p.2 - s.onGrid n s.ax[n].set.rise * 1000000000))
  | .aux x k =>
    let p := s.auxLegAt x k s.tb
    s.gd.ax[aux10 x].lowRan.getLsbD k.val
      || (s.aux[x].energised && p.1 && decide ((s.aux[x].setAt : Rat) < p.2 - s.onGrid (6 + x.val) s.aux[x].dead * 1000000000))
  | .chop _ => false

/-- The Miller clamp of the low side of half-bridge `h` is engaged: in direct mode, where it is enabled and the gate has its supply, after a
turn-off, at a soft one after its end, once the gate has fallen below 2.0 V, and to the next turn-on command (R133, R137, R148). No command
carries the voltage of a gate: whether it lies below 2.0 V at an instant is free (log 123). -/
def State.clampOn (s : State) (h : Nat) : Bool :=
  match s.hbUser h with
  | none => false
  | some u => !s.hbLink h && s.hbClampEn u && decide (s.inputRow u ≠ 1) && s.gd.swClosed && !(s.hbCmd h).2 && !s.hbSoft u false
      && s.lowRan u && Config.freeBool (s.freeIx + h)

/-- The pins HO, SW, LO, BST of half-bridge `h` (Table 1, R130): in direct mode the gate outputs, each low where nothing sources it, and
high-impedance sense and supply; in link mode the two command pairs, "off" the negative line high. -/
def State.hbPins (s : State) (h : Nat) : Pin × Pin × Pin × Pin :=
  if s.pinsReset then (.pullDown, .z, .pullDown, .z)
  else
    let c := s.hbCmd h
    if s.hbLink h && (s.hbUser h).isSome then (Pin.drive c.1, Pin.drive (!c.1), Pin.drive c.2, Pin.drive (!c.2))
    else (Pin.drive c.1, .z, Pin.drive c.2, .z)

/-! ## Memories (R84, R87, R90, R486) -/

/-- CFG_SCK, CFG_CS_N, CFG_IO0 and CFG_IO1, CFG_IO2 and CFG_IO3: high-impedance in COLD before a start, at rest in failed COLD and
while no copy is read; during a read IO2 and IO3 are driven high in the single-line modes. -/
def State.cfgPins (s : State) : Pin × Pin × Pin × Pin :=
  match s.pwr.phase with
  | .held | .released | .locked => (.z, .z, .z, .z)
  | .failed => (.low, .high, .z, .z)
  | .loading => match s.cfgRead with
    | some r => (.busy, .low, .busy, if r.dataLines = 1 then .high else .busy)
    | none => (.low, .high, .z, .z)
  | .running => (.low, .high, .z, .z)

/-- The pins of the recorder's memory: NF_CE_N, NF_CLE and NF_ALE, NF_WE_N and NF_RE_N, NF_WP_N. Write protection is lifted by a mount
(R486). -/
def State.nfPins (s : State) : Pin × Pin × Pin × Pin :=
  let wp := if s.car.wp then Pin.high else .pullDown
  if s.pinsReset || s.car.st = 0 then (.pullUp, .pullDown, .pullUp, wp) else (.busy, .busy, .busy, wp)

/-! ## Links and ports (R527) -/

/-- The termination of a link's receiver: from its start at HOLD entry. -/
def State.linkTerm (s : State) (k : Fin 6) : Bool :=
  s.pwr.phase == .running && s.mode.mode != .freeze && s.fab.links[k].state != .off

/-- The outputs of a link: high-impedance until LOAD has ended, then driven, and idle while the link is off (R367). -/
def State.linkPins (s : State) (k : Fin 6) : Pin := if s.pinsReset then .z else if s.linkTerm k then .busy else .idle

/-- The termination of a control port: a data-strobe port that has started. -/
def State.portTerm (s : State) (p : Fin 2) : Bool :=
  s.pwr.phase == .running && s.mode.mode != .freeze
    && (if p = 0 then s.regs.CP_CFG_FORM_A else s.regs.CP_CFG_FORM_B) == 1

/-- The pairs of a control port: DI, SI, DO, SO. -/
inductive PortPair where
  | di | si | do' | so
  deriving DecidableEq, Repr

/-- The balls of a control port: high-impedance until LOAD has ended; then the outputs are driven in its form, and idle while it is off, the
inputs of the data-strobe form terminated, and in SPI form IO0 to IO3 lie on SI and DO, SCK and CS_N on DI, and SO stays high-impedance
(R394, R527). -/
def State.portPins (s : State) (p : Fin 2) (q : PortPair) : Pin :=
  let form := if p = 0 then s.regs.CP_CFG_FORM_A else s.regs.CP_CFG_FORM_B
  if s.pinsReset then .z
  else match form, q with
    | 2, .di => .z
    | 2, .so => .z
    | 2, _ => if s.mode.mode = .freeze then .z else .busy
    | _, .di | _, .si => if s.portTerm p then .term else .z
    | _, _ => if form = 0 ∨ s.mode.mode = .freeze then .idle else .busy

/-! ## Sensing, safe outputs, control (Tables 5 and 6) -/

/-- MCLK0 to MCLK3: low until they run, and in FREEZE. -/
def State.mclkPin (s : State) (m : Nat) : Pin := if s.tbs.mclkRun && s.regs.TB_MCLK_m m != 0 then .busy else .low

/-- ENCe_A: in synchronous serial form the clock output, high from the end of LOAD. -/
def State.encAPin (s : State) (e : Fin 6) : Pin :=
  if s.pinsReset || s.regs.SNS_ENCe_CFG_TYPE e != 2 then .z else if s.sns.enc[e].xfer.isSome then .busy else .high

/-- SO0 to SO3: on while both switches are (R342). -/
def State.soPin (s : State) (k : Fin 4) : Pin := if s.saf.out[k].swC && s.saf.out[k].swB && !s.saf.out[k].limited then .high else .pullDown

/-- TPO0 and TPO1: off in reset, lit but for a test pulse. -/
def State.tpoPin (s : State) (k : Fin 2) : Pin :=
  match (if k = 0 then s.saf.tpo0 else s.saf.tpo1).phase with
  | .off | .dark => .low
  | .lit | .recover => .high

/-- FROZEN: high in FREEZE (R121). -/
def State.frozenPin (s : State) : Pin := Pin.drive (s.mode.mode == .freeze)

/-- The level of MNT_TXD in a frame: each character a start bit, its 8 bits from the least significant on, and a stop bit (R397). -/
def MntTx.level (x : MntTx) (t : Nat) : Bool :=
  match (List.range (10 * x.chars.length)).find? (fun i => decide (t < x.at' + bitEdge x.baud (i + 1))) with
  | some i =>
    let bit := i % 10
    if bit = 0 then false else if bit = 9 then true else (byteAt x.chars (i / 10)).testBit (bit - 1)
  | none => true

/-- MNT_TXD: pulled up until the port is served; then what the frame on the line makes it, and high between frames. -/
def State.mntPin (s : State) : Pin :=
  match s.pwr.phase with
  | .held | .released | .locked => .pullUp
  | .failed | .loading | .running =>
    Pin.drive (match s.cp.ports[(2 : Fin 3)].line.find? (fun x => decide (x.at' ≤ s.now) && decide (s.now < x.till)) with
      | some x => x.level s.now
      | none => true)

/-- GPIO0 to GPIO15: an input, but for the one that shows a queued frame (R396). -/
def State.gpioPin (s : State) (g : Fin 16) : Pin :=
  if !s.pinsReset && s.regs.CP_CFG_IRQ_EN && s.regs.CP_CFG_IRQ_GPIO == g.val then Pin.drive s.irqLevel else .z

/-- CANn_TXD: pulled up until the controllers are served; then recessive in FREEZE, under the guard, on a controller that is off, and while
it integrates, listens or is bus-off (R425, R426, R442). -/
def State.canPin (s : State) (n : Fin 2) : Pin :=
  if s.pinsReset then .pullUp
  else if s.mode.mode == .freeze || s.can[n].guard || s.canListen n || decide (2 ≤ s.can[n].bus) then .high
  else .busy

/-! ## Every signal (Tables 4 to 6) -/

/-- The signals outside the bridge fields. -/
inductive Signal where
  | linkIn (k : Fin 6) | linkOut (k : Fin 6) | port (p : Fin 2) (q : PortPair)
  | nfDq (i : Fin 8) | nfCe (k : Fin 4) | nfCle | nfAle | nfWe | nfRe | nfWp | nfRb
  | cfgSck | cfgCs | cfgIo (i : Fin 4) | mntTxd | mntRxd | tck | tms | tdi | tdo | trst | canTxd (n : Fin 2) | canRxd (n : Fin 2)
  | mclk (m : Fin 4) | sdi (c : Fin 32) | ain (c : Fin 32) | dcs (n : Fin 6) | encA (e : Fin 6) | encB (e : Fin 6) | encZ (e : Fin 6)
  | siA (k : Fin 8) | siB (k : Fin 8) | tpo (k : Fin 2) | so (k : Fin 4) | edm (k : Fin 4) | srst | stoA | stoB
  | refclk | refsel (k : Fin 2) | maintEn | cfgsel | freezeN | frozen | resetN | gpio (g : Fin 16)
  deriving DecidableEq, Repr

/-- The reset state of a signal (R84, Tables 4 to 6). -/
def Signal.resetState : Signal → Pin
  | .nfCe _ | .nfWe | .nfRe | .nfRb | .mntTxd | .mntRxd | .tms | .tdi | .canTxd _ | .canRxd _ | .freezeN => .pullUp
  | .nfCle | .nfAle | .nfWp | .tck | .trst | .sdi _ | .so _ | .maintEn | .cfgsel | .resetN => .pullDown
  | .mclk _ | .tpo _ | .frozen => .low
  | .refsel _ => .middle
  | .siA _ | .siB _ | .edm _ | .srst | .stoA | .stoB => .load
  | .linkIn _ | .linkOut _ | .port _ _ | .nfDq _ | .cfgSck | .cfgCs | .cfgIo _ | .tdo | .ain _ | .dcs _ | .encA _ | .encB _
  | .encZ _ | .refclk | .gpio _ => .z

/-- What a signal does. An input and a pin that only a connected tool drives keep what their reset state says. -/
def State.pinAt (s : State) : Signal → Pin
  | .linkOut k => s.linkPins k
  | .linkIn k => if s.linkTerm k then .term else .z
  | .port p q => s.portPins p q
  | .nfDq _ => if s.pinsReset || s.car.st = 0 then .z else .busy
  | .nfCe _ => s.nfPins.1
  | .nfCle | .nfAle => s.nfPins.2.1
  | .nfWe | .nfRe => s.nfPins.2.2.1
  | .nfWp => s.nfPins.2.2.2
  | .cfgSck => s.cfgPins.1
  | .cfgCs => s.cfgPins.2.1
  | .cfgIo i => if i.val < 2 then s.cfgPins.2.2.1 else s.cfgPins.2.2.2
  | .mntTxd => s.mntPin
  | .canTxd n => s.canPin n
  | .mclk m => s.mclkPin m
  | .encA e => s.encAPin e
  | .tpo k => s.tpoPin k
  | .so k => s.soPin k
  | .frozen => s.frozenPin
  | .gpio g => s.gpioPin g
  | x => x.resetState

end Sys2Proof.Machine
end

