-- ==== Sys2Proof/Safety.lean ====
section
/-! DEFINITION. What claims speak of: the canonical form of what is stored, the order kept of causes, and a device that runs. -/
namespace Sys2Proof.Machine

/-- The keep-store, work SRAM and the register words are in canonical form: addresses strictly rising, and no entry equal to what an
unlisted address reads as. -/
def Memory.wf (s : State) : Bool := cellWf ksDflt s.ks.cells && cellWf (fun _ => 0) s.sip.sram && s.regs.wf

/-- A list keeps the order of the bits that are set: each of them once, and no other (R124). -/
def Seen.ok (seen : List Nat) (n : Nat) (p : Nat → Bool) : Prop := seen.Nodup ∧ ∀ b, b ∈ seen ↔ b < n ∧ p b = true

/-- The causes that `DEV_DEGR` and `DEV_STOPCAUSE` show are those that the device has put in order, so that a mode change can name
the one that arose first (R116 to R118, R124). -/
def State.causesInOrder (s : State) : Prop :=
  Seen.ok s.mode.degrSeen 32 s.degrBit ∧ Seen.ok s.mode.stopSeen 7 (fun b => s.mode.stop.getLsbD b)

/-- The device runs, and an origin's requests are served at once: no quarantine, a control port that is up, and no frame or token request of it that
waits (R400). -/
def State.serves (s : State) (o : Origin) : Bool :=
  s.running && o.cls != .F && (o.dev.isSome || o.cls == .M || s.cp.ports[clsPort o.cls].up) && !s.quarantined o && !s.behind o

/-- An origin's write is served and does not fall between the two words of a pair that it has begun (R20, R21). -/
def State.writes (s : State) (o : Origin) : Bool := s.serves o && (s.pairOf o).isNone

/-- An origin holds the control token or, where `m` is set, is class M of this device (R405). -/
def State.may (s : State) (m : Bool) (o : Origin) : Bool := s.holds o || (m && o.cls == .M)

/-- What a fault of class `cls` of axis `n`, which was not in HALT, leaves (R270, R271): with the reaction coast HALT, while the speed is below
n_ASC; with the reaction ASC an ASC of cause 2 on the side of the image, where nothing bars it; HALT where it is barred; with the reaction ramp stop
an axis in RUN or STOP ramps down. The reason is kept, and the other axes are as they were. -/
def Faulted (s t : State) (n : Fin 6) (reason : Nat) (cls : FltClass) : Prop :=
  t.ax[n].haltReason = reason ∧
  (s.reaction n cls = 0 → absR s.ax[n].eng.speed < s.nAsc n → t.ax[n].state = .halt) ∧
  (s.reaction n cls = 1 → cls ≠ .none → s.ascBarred n = false → t.ax[n].state = .asc ∧ t.ax[n].ascSt.cause = 2 ∧
    (s.ax[n].state ≠ .asc → t.ax[n].bridge = .ascWait ∧ t.ax[n].ascSt.high = s.ascSide n)) ∧
  (s.reaction n cls ≠ 2 → s.ascBarred n = true → t.ax[n].state = .halt) ∧
  (s.reaction n cls = 2 → s.ax[n].state = .run ∨ s.ax[n].state = .stop → t.ax[n].state = .stop ∧ t.ax[n].stopKind = .fault reason false) ∧
  ∀ m, m ≠ n → t.ax[m] = s.ax[m]

/-! ## What a statement compares -/

/-- `t` with the order of causes as it was in `s` (every command may bring that order up to date, R124): what is left to compare. -/
def State.but (t s : State) : State := { t with mode := { t.mode with degrSeen := s.mode.degrSeen, stopSeen := s.mode.stopSeen } }

/-- TB_NOW when a command takes effect that comes `dt` ticks of 2 ns after the one before. -/
def State.tbAt (s : State) (dt : Nat) : Nat := (s.advance dt).clk.tb

/-- What of a record its cause determines: TIME, unit, type and payload (R75). -/
abbrev Shown := Nat × Nat × Nat × List Byte

/-- The part of a record that its cause determines. -/
def Record.shown (r : Record) : Shown := (r.time, r.unit, r.typ, r.payload)

/-- A record of a type, with the complement behind its data where the type has a paired payload (R76). -/
def recOf (time unit typ : Nat) (data : List Byte) : Shown :=
  (time, unit, typ, if pairedType typ then data ++ complBytes data else data)

/-- An EVENT record (R59). -/
def evtOf (time unit code detail value : Nat) : Shown :=
  recOf time unit 2 (leBytes 2 code ++ leBytes 2 detail ++ leBytes 4 value)

/-- A TIME record of the time base (R79). -/
def timeOf (time code detail a b : Nat) : Shown :=
  recOf time Unit.tb 13 (leBytes 2 code ++ leBytes 2 detail ++ leBytes 8 a ++ leBytes 8 b ++ zeros 4)

/-- From `s` to `t` exactly these records have been emitted, in this order, but for those whose type `DEV_REC_SEL` does not enable (R75). -/
def Wrote (s t : State) (l : List Shown) : Prop :=
  t.recs.outbox.map Record.shown = s.recs.outbox.map Record.shown ++ l.filter (fun x => bit (s.regs.get Reg.DEV_REC_SEL) x.2.2.1)

/-- What has been emitted is `l`, but for one FRAME_FAB record (type 6) before it of the message that has come, where bit `b` of `FAB_REC_SEL`
enables it (R392). -/
def WroteAfterFrame (s t : State) (b : Nat) (l : List Shown) : Prop :=
  ∃ f : List Shown, Wrote s t (f ++ l) ∧ f.length ≤ 1 ∧ (∀ x ∈ f, x.2.2.1 = 6) ∧ (s.regs.FAB_REC_SEL.testBit b = false → f = [])

/-- The control ports when an entry of `o` with operation `op` is answered with `r` at the present instant: the answer joins those
given, and an ACK to the token holder renews its lease (R410), but for a SAFE entry (operation 8). -/
def State.cpAfter (u : State) (o : Origin) (op : Nat) (r : Reply) : CpSt :=
  { u.cp with
    token := if r.status = 0 ∧ op ≠ 8 ∧ u.cp.token.holder = some o then { u.cp.token with renewed := u.clk.tb } else u.cp.token
    answers := u.cp.answers ++ [⟨o, op, r⟩] }

/-- The control ports when a write of `o` has been acknowledged at the present instant. -/
def State.cpWrote (u : State) (o : Origin) : CpSt := u.cpAfter o 2 { status := 0 }

/-- An entry of `o` that came alone is refused with a status that is a violation (R413): the refusal is its answer, one VIOLATION record of the
port tells of it, which begins with the status and the operation, and the token is as it was. -/
def Refused (s t : State) (dt : Nat) (o : Origin) (op st detail : Nat) : Prop :=
  t.cp.answers = s.cp.answers ++ [⟨o, op, { status := st, detail := detail }⟩] ∧ t.cp.token = s.cp.token ∧
  ∃ rest, Wrote s t [recOf (s.tbAt dt) (Unit.port (clsPort o.cls).val) 7 (leBytes 1 st ++ leBytes 1 op ++ rest)]

/-- The same of an entry whose frame began `age` ns before it is executed: the record has the instant of origin of the frame (R413). -/
def RefusedOf (s t : State) (dt : Nat) (o : Origin) (op st detail age : Nat) : Prop :=
  t.cp.answers = s.cp.answers ++ [⟨o, op, { status := st, detail := detail }⟩] ∧ t.cp.token = s.cp.token ∧
  ∃ rest, Wrote s t [recOf (s.tbAt dt - age) (Unit.port (clsPort o.cls).val) 7 (leBytes 1 st ++ leBytes 1 op ++ rest)]

/-- The device runs in HOLD, DRIVE, LIMP, BRAKE or SAFE (R334). -/
def State.operates (s : State) : Bool :=
  s.running && (s.mode.mode == .hold || s.mode.mode == .drive || s.mode.mode == .limp || s.mode.mode == .brake || s.mode.mode == .safe)

/-- STO acts: Bronze blocks the bridges where `b` is set and Cobalt has opened the VDRV switch where `c` is, no SS1 runs, and every axis is in
OFF or HALT (R334, R337, R338). -/
def TorqueOff (t : State) (b c : Bool) : Prop :=
  t.saf.sto = true ∧ (b = true → t.gd.blocked = true) ∧ (c = true → t.gd.swClosed = false) ∧ t.saf.ss1 = [] ∧
  (∀ n : Fin 6, t.axAlloc n = true → t.ax[n].state = .off ∨ t.ax[n].state = .halt) ∧
  (∀ x : Fin 4, t.auxAlloc x = true → t.aux[x].state = .off ∨ t.aux[x].state = .halt)

/-- The device is in SAFE with this cause latched (R333). -/
def SafeBy (t : State) (cause : Nat) : Prop := t.mode.mode = .safe ∧ t.hasLatched cause = true

/-- A SAFETY record of a channel, of Cobalt where none is named (R361). -/
def safOf (time code detail a b : Nat) (bronze : Bool := false) : Shown :=
  recOf time (if bronze then Unit.bronze else Unit.cobalt) 8 (leBytes 2 code ++ leBytes 2 detail ++ leBytes 4 a ++ leBytes 8 b)

/-- Link `k` is idle: no packet is under way on it, none waits for it, and no packet waits for another link (R372). -/
def State.linkIdle (s : State) (k : Fin 6) : Prop :=
  (∀ o ∈ s.fab.out, o.link = k.val → o.till ≤ s.now) ∧ ∀ j : Fin 6, s.fab.links[j].urgIn = none ∧ s.fab.links[j].bulkIn = none

/-- Between `s` and `t` one packet of this device to its partner has left on link `k`: its TYPE and payload, ended by EOP, and nothing else (R369, Table 5).
Its TIME is the present instant. -/
def HopSent (s t : State) (dt : Nat) (k : Fin 6) (typ : Nat) (payload : List Byte) : Prop :=
  ∃ till, t.fab.out = s.fab.out ++ [{
    link := k.val, bulk := false, eep := false, at' := (s.advance dt).now, till := till
    bytes := packetOf false (match t.fab.links[k].partner with | some p => p.addr.getD 0 | none => 0) (s.fab.addr.getD 0) 0 typ
      (seqOf s.fab.seqs typ) (s.tbAt dt) payload }]

/-- The HELLO of a device on a link (R373). -/
def State.helloBytes (s : State) (k : Fin 6) : List Byte :=
  leBytes 8 ownId ++ leBytes 1 k.val ++ leBytes 1 (b2n s.regs.FAB_CFG_TOPO) ++ leBytes 1 (s.fab.addr.getD 0x40) ++ leBytes 1 s.hopsShown ++
    leBytes 1 (b2n s.regs.FAB_CFG_ROOT + 2 * b2n s.fab.excess) ++ leBytes 2 s.fab.tblVer ++ zeros 17

/-- The fabric of `t` is that of `s` but for this link, and for what has left. -/
def OnlyLink (s t : State) (k : Fin 6) : Prop := (∀ j, j ≠ k → t.fab.links[j] = s.fab.links[j]) ∧ t.fab.addr = s.fab.addr ∧ t.fab.routes = s.fab.routes

/-- A FRAME_CAN record (R445). -/
def canOf (time n : Nat) (sent : Bool) (fmt id filter dlc : Nat) (data : List Byte) : Shown :=
  recOf time (Unit.can n) 4 (leBytes 1 n ++ leBytes 1 (b2n sent) ++ leBytes 2 fmt ++ leBytes 4 id ++ leBytes 1 dlc ++
    leBytes 1 data.length ++ leBytes 1 filter ++ leBytes 1 0 ++ data)

/-- The FRAME_CAN record of a received frame that filter `k` takes. -/
def canIn (time n k dlc : Nat) (f : CanFrame) : Shown :=
  canOf time n false (b2n f.ide + 2 * b2n f.fdf + 4 * b2n f.brs + 8 * b2n f.esi + 16 * b2n f.rtr) f.id.toNat k dlc f.data

/-- A frame is a setpoint message of the profile in force: native with a binary32 value (Table 3), or heritage with a 12-bit one (Table 4). -/
def State.saysSet (s : State) (n : Fin 2) (f : CanFrame) (ax : Fin 6) (m : Nat) (run heave : Bool) (cnt : Nat) (v : Rat) : Prop :=
  m < 8 ∧ cnt < 256 ∧ f.rtr = false ∧
  ((s.regs.CANn_CFG_PROFILE n = false ∧ f.fdf = true ∧ ∃ w u : Word, f32Norm w = some u ∧ v = f32ToRat u ∧
      let d := leBytes 1 ax ++ leBytes 1 (m + 8 * b2n run + 16 * b2n heave) ++ leBytes 1 cnt ++ leBytes 1 0 ++ leBytes 4 w.toNat
      f.data = d ++ complBytes d) ∨
    (s.regs.CANn_CFG_PROFILE n = true ∧ f.fdf = false ∧ ∃ raw : Int, -2047 ≤ raw ∧ raw ≤ 2047 ∧ v = (raw : Rat) * s.msgScale ax m / 2047 ∧
      let d := beBytes 2 (ax * 4096 + (raw % 4096).toNat) ++ beBytes 2 (32768 * b2n run + 4096 * m + 2048 * b2n heave + cnt)
      f.data = d ++ complBytes d))

/-- A frame is a heave message of the profile in force, whose counter counts modulo `size`. -/
def State.saysHeave (s : State) (n : Fin 2) (f : CanFrame) (ax : Fin 6) (cnt size : Nat) (v a : Rat) : Prop :=
  cnt < size ∧ f.rtr = false ∧
  ((s.regs.CANn_CFG_PROFILE n = false ∧ size = 256 ∧ f.fdf = true ∧ ∃ w u x y : Word, f32Norm w = some u ∧ v = f32ToRat u ∧ f32Norm x = some y ∧ a = f32ToRat y ∧
      let d := leBytes 1 ax ++ leBytes 1 0 ++ leBytes 1 cnt ++ leBytes 1 0 ++ leBytes 4 w.toNat ++ leBytes 4 x.toNat
      f.data = d ++ complBytes d) ∨
    (s.regs.CANn_CFG_PROFILE n = true ∧ size = 16 ∧ f.fdf = false ∧ ∃ p q : Int, -2047 ≤ p ∧ p ≤ 2047 ∧ -2047 ≤ q ∧ q ≤ 2047 ∧
      v = (p : Rat) * s.regs.CANn_HP_VZ n / 2047 ∧ a = (q : Rat) * s.regs.CANn_HP_AZ n / 2047 ∧
      let d := beBytes 2 (ax * 4096 + (p % 4096).toNat) ++ beBytes 2 (cnt * 4096 + (q % 4096).toNat)
      f.data = d ++ complBytes d))

/-- The controller runs on an active or passive bus and detects no rate. -/
def State.canReady (s : State) (n : Fin 2) : Prop := s.running = true ∧ s.can[n].bus ≤ 1 ∧ s.can[n].abd.run = false

/-- Between `s` and `t` the controllers violated nothing, and no OVERRUN, bus state or other record arose but these. -/
def CanWrote (s t : State) (n : Fin 2) (l : List Shown) : Prop := s.canListen n = true ∨ s.can[n].rec' ≤ 127 → Wrote s t l

/-- A message on controller `n` was discarded with this status: one VIOLATION record, which begins with it and names the identifier and the binding
(R437), the violation is kept, and no command or heave sample has changed. -/
def CanDiscarded (s t : State) (n : Fin 2) (f : CanFrame) (stamp st : Nat) (first : List Shown) : Prop :=
  let keep := s.can[n].viols.filter (fun v => decide (stamp < v + 1000000000)) ++ [stamp]
  t.cmd = s.cmd ∧ t.can[n].viols = keep ∧
  CanWrote s t n (first ++ [recOf stamp (Unit.can n) 7 (leBytes 1 st ++ leBytes 1 0 ++ leBytes 2 0 ++ leBytes 2 0 ++ leBytes 1 4 ++
    leBytes 1 (s.fab.addr.getD 0) ++ leBytes 4 (idWord f.id.toNat f.ide) ++ leBytes 2 (s.regs.CANn_CFG_BIND n) ++ leBytes 2 keep.length)])

/-- From `s` to `t` only controller `n` changes, and what is recorded, and the free values used. -/
def OnlyCan (s t : State) (dt : Nat) (n : Fin 2) : Prop :=
  t.but s = { s.advance dt with can := t.can, recs := t.recs, freeIx := t.freeIx } ∧ ∀ m, m ≠ n → t.can[m] = s.can[m]

/-- The byte at an address of work SRAM. -/
def State.sramAt (s : State) (a : Nat) : Byte := cellGet (fun _ => 0) s.sip.sram a

/-- Work SRAM of `t` holds `bs` from address `a` on, and is else that of `s`. -/
def SramPut (s t : State) (a : Nat) (bs : List Byte) : Prop :=
  ∀ i, t.sramAt i = if a ≤ i ∧ i < a + bs.length then bs.getD (i - a) 0 else s.sramAt i

/-- The bytes `bs` lie in ring `k` at place `pos` of its stream, which wraps at its size. -/
def InRing (t : State) (k : Fin 32) (pos : Nat) (bs : List Byte) : Prop :=
  ∀ i, i < bs.length → t.sramAt ((t.regs.RNG_r_BASE k).toNat + (pos + i) % t.ringSize k) = bs.getD i 0

/-- Outside the space of ring `k`, work SRAM of `t` is that of `s`. -/
def RingOnly (s t : State) (k : Fin 32) : Prop :=
  ∀ a, a < (s.regs.RNG_r_BASE k).toNat ∨ (s.regs.RNG_r_BASE k).toNat + s.ringSize k ≤ a → t.sramAt a = s.sramAt a

/-- Between `s` and `t` ring `k` lost one record for this cause: it is counted, and, where no run of such losses is open and the ring is not that of Siphon's
own records, it is recorded (R451). -/
def RingLost (s t : State) (dt : Nat) (k : Fin 32) (cause : Fin 5) : Prop :=
  t.sip.rings[k].lost = satInc 16 s.sip.rings[k].lost ∧ (k.val = 25 → t.recs = s.recs) ∧
  (k.val ≠ 25 → s.sip.rings[k].runs[cause].isOpen = false →
    Wrote s t [evtOf (s.tbAt dt) Unit.sip 0x1104 (k.val + 256 * cause.val) 1])

/-- Ring `k` holds what it held, as do all the other rings, the channels and work SRAM. -/
def RingKept (s t : State) (k : Fin 32) : Prop :=
  t.sip.rings[k].wr = s.sip.rings[k].wr ∧ t.sip.rings[k].rd = s.sip.rings[k].rd ∧ t.sip.rings[k].tap = s.sip.rings[k].tap ∧
  t.sip.rings[k].recs = s.sip.rings[k].recs ∧ (∀ j, j ≠ k → t.sip.rings[j] = s.sip.rings[j]) ∧ t.sip.chs = s.sip.chs ∧ t.sip.sram = s.sip.sram

/-- Channel `c` has stopped with a code, of which a record tells; the mover is free of it, and the other channels are as they were (R453, R469). -/
def ChStopped (s t : State) (dt : Nat) (c : Fin 32) (code addr : Nat) : Prop :=
  t.sip.chs[c].state = .stopped ∧ t.sip.chs[c].code = code ∧ t.sip.run ≠ some c ∧ (∀ j, j ≠ c → t.sip.chs[j] = s.sip.chs[j]) ∧
  t.sip.rings = s.sip.rings ∧ Wrote s t [evtOf (s.tbAt dt) Unit.sip 0x1101 (c.val + 256 * code) addr]

/-- A RECORDER record (R492). -/
def carOf (time code detail a b : Nat) : Shown :=
  recOf time Unit.car 12 (leBytes 2 code ++ leBytes 2 detail ++ leBytes 4 a ++ leBytes 8 b)

/-- Among the operations on the NAND that wait in `s`, `o` is the first one of the kind `p`: `l` stands before it and `r` behind. -/
def FirstOp (s : State) (p : NandAct → Bool) (l : List NandOp) (o : NandOp) (r : List NandOp) : Prop :=
  s.car.ops = l ++ o :: r ∧ p o.act = true ∧ ∀ q ∈ l, p q.act = false

/-- An operation programs a page or moves a block; erases a block; reads a page. -/
def NandAct.isWrite : NandAct → Bool
  | .program .. | .move .. => true
  | .erase _ | .read .. => false
def NandAct.isErase : NandAct → Bool
  | .erase _ => true
  | .program .. | .move .. | .read .. => false
def NandAct.isRead : NandAct → Bool
  | .read .. => true
  | .program .. | .move .. | .erase _ => false

/-- A block whose content static levelling may move: pinned, of a held or free dump slot, or a closed one of the META log (R482). -/
def State.coldBlk (s : State) (x : Blk) : Prop :=
  (x.kind = .ring ∧ x.pins ≠ 0) ∨ (x.kind = .metaLog ∧ x.isOpen = false) ∨
  (∃ k : Nat, x.kind = .dump k ∧ ((s.car.dump.getD k {}).state = 2 ∨ (s.car.dump.getD k {}).state = 0))

/-- A FREEZE record (R511). -/
def frzOf (time code cause source b5 slot origin t late bytes : Nat) : Shown :=
  recOf time Unit.frz 11 (leBytes 2 code ++ leBytes 2 cause ++ leBytes 1 source ++ leBytes 1 b5 ++ leBytes 1 slot ++ leBytes 1 origin ++ leBytes 8 t ++
    leBytes 4 late ++ leBytes 4 bytes ++ zeros 8)

/-- The device is frozen (R111). -/
def State.frozenBy (s : State) (f : Frozen) : Prop := s.pwr.phase = .running ∧ s.mode.mode = .freeze ∧ s.frz.frozen = some f

end Sys2Proof.Machine
end

