-- ==== Sys2Proof/WellFormed.lean ====
section
/-! DEFINITION. Which commands are well formed: those whose operands the spec's formats can carry. What a device answers to a value
outside its range is a matter of its meaning, not of this file. -/
namespace Sys2Proof

/-- Nothing enters at a port of this device with the class of the fabric (R405). -/
def originOk (o : Origin) : Bool := !(o.dev.isNone && o.cls == .F)

/-- The origins that a frame's way gives. -/
def viaOk : Via → Bool
  | .port _ => true
  | .fabric _ _ => true

/-- The origins that can be quarantined. -/
def quarOk : QuarTarget → Bool
  | .origin o => originOk o
  | .can _ => true

/-- A frame that a CAN FD bus can carry (chapter 16): its identifier, its length, and a remote frame in classic form alone. -/
def CanFrame.wellFormed (f : CanFrame) : Bool :=
  (f.ide || decide (f.id.toNat < 2048))
    && (if f.fdf then [0, 1, 2, 3, 4, 5, 6, 7, 8, 12, 16, 20, 24, 32, 48, 64].contains f.data.length && !f.rtr
        else decide (f.data.length ≤ 8) && !f.brs && !f.esi)

/-- A page that a read gave: at most 40 bits corrected in a chunk, one of the sixteen chunks named, a main area of at most 16 KiB
(R469, R472). -/
def ReadResult.wellFormed (r : ReadResult) : Bool :=
  (match r.uncorrectable with | some c => decide (c < 16) | none => true) && decide (r.data.length ≤ 16384)

/-- Is a command well formed? -/
def Instr.wellFormed : Instr → Bool
  | .imageHeaderRead _ bytes => bytes.length == 64
  | .sectionHeaderRead _ bytes => bytes.length == 16
  | .outerTickWork _ sensors _ _ => sensors.length == 7
  | .helloReceived _ _ payload => payload.length == 32
  | .joinReceived _ _ payload => payload.length == 64
  | .admitReceived _ _ payload => payload.length == 16
  | .routesReceived _ payload => payload.length == 66
  | .syncRespReceived _ _ payload => payload.length == 24
  | .freezeAt _ _ _ instant _ => decide (instant < 2 ^ 64)
  | .routesApply _ _ _ instant _ => decide (instant < 2 ^ 64)
  | .jcpRequestFrame _ via _ _ _ => viaOk via
  | .jcpRead _ o _ n => originOk o && decide (n < 65536)
  | .jcpWrite _ o _ _ words => originOk o && decide (words.length < 65536)
  | .fetch _ o _ max => originOk o && decide (max < 65536)
  | .imageData _ o offset bytes => originOk o && decide (offset < 2 ^ 32) && decide (bytes.length < 65536)
  | .imageEnd _ o header => originOk o && header.length == 64
  | .quarantine _ q => quarOk q
  | .quarantineEnd _ q => quarOk q
  | .canSetpointMessage _ _ f => f.wellFormed
  | .canHeaveMessage _ _ f => f.wellFormed
  | .canEnvelopeFrame _ _ f => f.wellFormed
  | .canRecordFrame _ _ f => f.wellFormed
  | .nandReadDone _ result => result.wellFormed
  | .tbNowLoRead _ o | .tickClr _ o _ | .sntClr _ o _ _ | .registerWrite _ o _ _ _ | .stagedWrite _ o _ _ | .stgDiscard _ o _
  | .commit _ o _ | .driveRequest _ o | .holdRequest _ o | .limpAcknowledge _ o | .chopperClear _ o _ | .selftestStart _ o _
  | .rcnClr _ o _ _ | .axisCmdStop _ o _ | .axisCmdSpeed _ o _ _ | .axisCmdTorque _ o _ _ | .axisCmdTension _ o _ _
  | .axisSetpointWrite _ o _ _ | .axisClearCommand _ o _ _ | .heaveReferenceInput _ o _ _ _ | .crashStop _ o _ _ | .auxCmdStop _ o _
  | .auxCmdVelocity _ o _ | .auxCmdPosition _ o _ | .auxCmdHome _ o _ | .auxSetpointWrite _ o _ _ | .auxTargetWrite _ o _ _
  | .limClr _ o _ _ | .tokenRequest _ o _ | .tokenRelease _ o | .tokenTake _ o _ | .tokenStatus _ o | .jcpNop _ o
  | .imageBegin _ o _ | .imageAbort _ o | .jcpFreeze _ o _ _ _ | .jcpSafe _ o _ | .portErrClr _ o _ _ | .linkErrClr _ o _ _
  | .canSend _ o _ _ | .canCancel _ o _ _ | .canRecover _ o _ | .canClr _ o _ | .sipStart _ o _ | .sipStop _ o _
  | .channelRestart _ o _ | .sipRestart _ o _ | .workSramWrite _ o _ _ | .captureCommand _ o | .eventSlotRelease _ o _
  | .dumpSlotRelease _ o _ | .replay _ o | .replayStop _ o | .format _ o _ | .replayRdWrite _ o _ => originOk o
  | .resetAssert .. | .supplyLoss .. | .suppliesGood .. | .resetRelease .. | .pllLock .. | .pllLockTimeout .. | .loadEntry ..
  | .imageEntryRead .. | .sectionCrcRead .. | .holdEntry .. | .refclkLoss .. | .refclkBack .. | .epuCalibration ..
  | .sampleInstant .. | .currentLoopUpdate .. | .edgeSetPosted .. | .edgeUpdateInstant .. | .lateResultDiscarded .. | .lateReact ..
  | .lateBridgeOff .. | .slackWindowClose .. | .lateClear .. | .pwmFrequencyChange .. | .outerTickBoundary .. | .tickOverrunStop ..
  | .domainSkewLimit .. | .domainSkewHoldoffEnd .. | .brakeTmo .. | .hsUvSet .. | .bstUv .. | .bstRefreshEnd .. | .hsSupplyReady ..
  | .bstStartTimeout .. | .desatTrip .. | .fastComparatorTrip .. | .linkFaultReturn .. | .softTurnOffEnd .. | .shortAscEntry ..
  | .vdrvUv .. | .vdrvOv .. | .vdrvMonitorClear .. | .ascSwitchOn .. | .chopperFault .. | .selftestTestDone ..
  | .fastFilterOutput .. | .phaseOc .. | .sdiStuck .. | .sdiStuckClear .. | .zeroMeasurementEnd .. | .dcsHold ..
  | .dcsConversionDone .. | .dcsConversionTimeout .. | .sdiFault .. | .dcsFault .. | .senseLost .. | .predLimit .. | .sensorBack ..
  | .ainHold .. | .ainConversionDone .. | .ainRange .. | .encEdge .. | .encIllegalLimit .. | .encSpeedTimeout ..
  | .serialTransferDone .. | .serialPositionFault .. | .encObserverMismatch .. | .catchDone .. | .catchFail .. | .catchRetry ..
  | .ifAlignEnd .. | .ifBlendEnd .. | .los .. | .reacquired .. | .ascReacqTimeout .. | .ascExit .. | .ascBlindHoldEnd ..
  | .canLost .. | .standstillReached .. | .renderEnd .. | .heaveStale .. | .overtemp .. | .impactHoldEnd .. | .iceStall ..
  | .icePauseEnd .. | .iceBackEnd .. | .stopTmo .. | .dcCrit .. | .dcLimitEnd .. | .shareReportReceived .. | .shareReceived ..
  | .memberLost .. | .desyncGraceEnd .. | .auxUpdate .. | .auxStall .. | .holdCurrentDelayEnd .. | .auxMoveDone ..
  | .auxStopSettleEnd .. | .auxStillSet .. | .startCheckEnd .. | .limitInputChange .. | .limChatter .. | .cobaltSample ..
  | .cobaltScan .. | .safetyCompare .. | .compareStale .. | .vcoreSWindow .. | .cobaltRomCheck .. | .mirrorStale ..
  | .safeInputEdge .. | .safeInputFiltered .. | .discrepancyFault .. | .testPulseStart .. | .testPulseEnd .. | .v24sOut ..
  | .v24sBack .. | .ss1Sto .. | .ss1rStandstill .. | .axisDataStale .. | .sbc .. | .pathCheckTimeout .. | .pathTestDue ..
  | .soDarkTestStart .. | .soDarkTestEnd .. | .soOffVoltageFault .. | .edmTimeout .. | .srstPress .. | .srstBronzeTimer ..
  | .srstRelease .. | .srstStuck .. | .srstLowTimer .. | .envelopeReceived .. | .connectionLost .. | .envelopeSend .. | .linkRun ..
  | .exchangeError .. | .linkDown .. | .linkDownEnd .. | .helloSend .. | .noHello .. | .linkSilent .. | .joinRepeat ..
  | .urgentPacketReceived .. | .bulkSegmentReceived .. | .packetWaitTimeout .. | .syncReqSend .. | .syncReqReceived ..
  | .syncLost .. | .routes .. | .fabricLoss .. | .imageEraseDone .. | .imageVerifyDone .. | .imageSessionTimeout ..
  | .maintEnFall .. | .jcpForwardReply .. | .jcpForwardTimeout .. | .tokenDecision .. | .tokenLeaseExpiry .. | .spiWriteFrame ..
  | .spiQuadWriteFrame .. | .spiReadStatus .. | .spiReadFrame .. | .spiQuadReadFrame .. | .mntFrameGap .. | .port ..
  | .abdDwellEnd .. | .canPeriodicTx .. | .canFrameSent .. | .canError .. | .canRecoveryDone .. | .canTxdGuard .. | .recordEmit ..
  | .channelFlush .. | .descriptorFetched .. | .descriptorDone .. | .busError .. | .streamFlush .. | .nandProgramDone ..
  | .nandEraseDone .. | .nandBusyTimeout .. | .metaCheckpoint .. | .captureWindowEnd .. | .scrub .. | .staticWearLevel ..
  | .maintenanceWaitExpiry .. | .mount .. | .freezePin .. | .freezeInstant .. | .frzStat .. | .frzRead .. | .frzDump ..
  | .frzTrig .. | .tapWaitExpiry .. | .selfDumpDone .. | .cobaltSupplyWindow .. | .ss1rLeadExpiry .. | .soCurrentLimitOff ..
  | .canBusIntegration .. => true

end Sys2Proof
end

