-- ==== Sys2Proof/Certificates/Slice0/Obligations.lean ====
section
/-! DEFINITION. The statements about the model. In all of them `t.but s = { s.advance dt with … }` says that `dt` ticks pass, that the
parts named take the contents named (a part given as `t.x` is what the further clauses say of it), and that every other part of the
state is as it was. -/
open Sys2Proof Sys2Proof.Machine

/-- For every command c and state s, a step of s with c at the front of its queue is what exec answers for c on s with the queue's rest. On an
empty queue a step lets one tick of 2 ns pass and changes nothing else; that is the model's choice (log 2). -/
def Obligations.StepRunsFrontCommand : Prop :=
  (∀ (c : Instr) (s : State), step { s with pending := c :: s.pending } = exec c s) ∧
  (∀ s : State, s.pending = [] → step s = .next (s.advance 1))

/-! ## Supplies, reset and start-up -/

/-- RESET_ASSERT and SUPPLY_LOSS in a device that is not held: the device is held in COLD with every part at its reset content but the keep-store,
the queue, the model's own clock and counter of free values (log 3), and what stands at the balls; the reset cause is 2 for RESET_N, 3 for VCORE, 1 for
VCORE_S and 4 for VIO18 or VIO33; TB_NOW stands at 0. In a device that is held, RESET_ASSERT notes the level of RESET_N alone, and SUPPLY_LOSS the supply lost and the instant, and where
it is VCORE_S that the reset is a power-up. -/
def Obligations.ResetReturnsEverything : Prop :=
  ∀ (s : State) (dt : Nat),
    (s.pwr.phase = .held →
      (∃ t, exec (.resetAssert dt) s = .next t ∧ t.but s = { s.advance dt with pwr := { s.pwr with resetLow := true } }) ∧
      ∀ sup : Supply, ∃ t, exec (.supplyLoss dt sup) s = .next t ∧ t.but s = { s.advance dt with pwr := t.pwr } ∧
        t.pwr.phase = .held ∧ t.pwr.supAt = s.now + 2 * dt ∧ t.pwr.rstCause = (if sup = .vcoreS then 1 else s.pwr.rstCause) ∧
        t.pwr.supVcore = (if sup = .vcore then false else s.pwr.supVcore) ∧ t.pwr.supVcoreS = (if sup = .vcoreS then false else s.pwr.supVcoreS) ∧
        t.pwr.supVio18 = (if sup = .vio18 then false else s.pwr.supVio18) ∧ t.pwr.supVio33 = (if sup = .vio33 then false else s.pwr.supVio33)) ∧
    (s.pwr.phase ≠ .held → ∃ t, exec (.resetAssert dt) s = .next t ∧
      { t with clk := {}, ks := {}, freeIx := 0, pending := [], pwr := {}, gd := {}, saf := {} } = State.reset ∧
      t.clk = { now := s.clk.now + 2 * dt } ∧ t.ks = { s.ks with pairFaults := 0 } ∧ t.freeIx = s.freeIx ∧ t.pending = s.pending ∧
      t.pwr.phase = .held ∧ t.pwr.resetLow = true ∧ t.pwr.rstCause = 2 ∧ t.pwr.rstTb = s.tbAt dt ∧ t.pwr.rstMode = s.mode.mode.code ∧
      t.gd.vdrv = s.gd.vdrv ∧ t.saf.rawA = s.saf.rawA ∧ t.saf.rawB = s.saf.rawB ∧ t.saf.srst.high = s.saf.srst.high ∧ t.saf.latched = []) ∧
    (∀ sup : Supply, s.pwr.phase ≠ .held → ∃ t, exec (.supplyLoss dt sup) s = .next t ∧
      { t with clk := {}, ks := {}, freeIx := 0, pending := [], pwr := {}, gd := {}, saf := {} } = State.reset ∧
      t.clk = { now := s.clk.now + 2 * dt } ∧ t.ks = { s.ks with pairFaults := 0 } ∧ t.freeIx = s.freeIx ∧ t.pending = s.pending ∧
      t.pwr.phase = .held ∧ t.pwr.rstCause = (match sup with | .vcore => 3 | .vcoreS => 1 | .vio18 | .vio33 => 4) ∧
      (match sup with
        | .vcore => t.pwr.supVcore | .vcoreS => t.pwr.supVcoreS | .vio18 => t.pwr.supVio18 | .vio33 => t.pwr.supVio33) = false ∧
      t.saf.rawA = s.saf.rawA ∧ t.saf.rawB = s.saf.rawB ∧ t.saf.latched = [])

/-- SUPPLIES_GOOD in held COLD, 2 ms after the last loss of a supply, shows all four supplies good. RESET_RELEASE with them good and a valid strap combination starts the PLL, keeps the
sampled REFSEL and CFGSEL, and writes the next reset-history entry; an invalid combination ends in failed COLD with reason 0x0001. PLL_LOCK after the
release starts TB_NOW. PLL_LOCK_TIMEOUT, 200 µs after the release, ends in failed COLD with reason 0x0002. LOAD_ENTRY after the lock enters LOAD
with work SRAM zeroed, or failed COLD with reason 0x0003 where the keep-store does not answer. From every state RESET_ASSERT and SUPPLY_LOSS lead to held COLD, where the start begins. -/
def Obligations.StartReachesLoad : Prop :=
  ∀ (s : State) (dt : Nat),
    (∃ t, exec (.resetAssert dt) s = .next t ∧ t.pwr.phase = .held ∧ t.pwr.resetLow = true) ∧
    (∀ sup : Supply, ∃ t, exec (.supplyLoss dt sup) s = .next t ∧ t.pwr.phase = .held ∧ t.pwr.supAt = s.now + 2 * dt) ∧
    (s.pwr.phase = .held → s.pwr.supAt + 2000000 ≤ s.now + 2 * dt → ∃ t, exec (.suppliesGood dt) s = .next t ∧
      t.but s = { s.advance dt with pwr := { s.pwr with supVcore := true, supVcoreS := true, supVio18 := true, supVio33 := true } }) ∧
    (∀ (r1 r0 : Strap) (alt : Bool), s.pwr.phase = .held → s.pwr.supVcore = true → s.pwr.supVcoreS = true → s.pwr.supVio18 = true →
      s.pwr.supVio33 = true →
      (∀ k, refselOf r1 r0 = some k → ∃ t, exec (.resetRelease dt r1 r0 alt) s = .next t ∧
        t.but s = { s.advance dt with pwr := t.pwr, ks := t.ks } ∧ t.pwr.phase = .released ∧ t.pwr.refsel = some k ∧ t.pwr.altFirst = alt ∧
        t.pwr.resetLow = false ∧ t.pwr.releasedAt = s.now + 2 * dt ∧ t.ks.rstNum = s.ks.rstNum + 1 ∧
        (t.ksEntry (0x1000 + 64 * ((s.ks.rstNum + 1) % 64)) 32 32).isSome = true) ∧
      (refselOf r1 r0 = none → ∃ t, exec (.resetRelease dt r1 r0 alt) s = .next t ∧ t.pwr.phase = .failed ∧
        t.ld.fail1.map (·.code) = some 0x0001 ∧ t.but s = { s.advance dt with pwr := t.pwr, ks := t.ks, ld := t.ld })) ∧
    (s.pwr.phase = .released → ∃ t, exec (.pllLock dt) s = .next t ∧
      t.but s = { s.advance dt with
        clk := { (s.advance dt).clk with counting := true }, tbs := { s.tbs with lock := true }, pwr := { s.pwr with phase := .locked } }) ∧
    (s.pwr.phase = .released → s.pwr.releasedAt + 200000 ≤ s.now + 2 * dt → ∃ t, exec (.pllLockTimeout dt) s = .next t ∧
      t.pwr.phase = .failed ∧ t.ld.fail1.map (·.code) = some 0x0002 ∧
      t.but s = { s.advance dt with pwr := t.pwr, ks := t.ks, ld := t.ld }) ∧
    (s.pwr.phase = .locked → (∃ t, exec (.loadEntry dt true) s = .next t ∧
      t.pwr.phase = .loading ∧ t.mode.mode = .load ∧ t.mode.time = s.tbAt dt ∧ t.ld = { alt := s.pwr.altFirst } ∧ t.sip = { s.sip with sram := [], ecc := [] } ∧
      t.but s = { s.advance dt with pwr := t.pwr, mode := (t.but s).mode, ld := t.ld, sip := t.sip }) ∧
      ∃ t, exec (.loadEntry dt false) s = .next t ∧ t.pwr.phase = .failed ∧ t.mode.mode = .cold ∧ t.ld.fail1.map (·.code) = some 0x0003)

/-- IMAGE_HEADER_READ of 64 bytes that break no header rule opens the sections of a copy; of bytes that break one while the copy tried first is
read, the copy fails with that rule's code and the other copy is read from its header. SECTION_HEADER_READ of an identifier of the table that has not come
before, with a count that fits, opens the entries. IMAGE_ENTRY_READ puts an entry that breaks no entry rule at the end of the shadow; the first
that breaks one is kept as the section's failure and leaves the shadow. SECTION_CRC_READ closes a section whose CRC agrees and that is
not the last; where it disagrees the copy fails with code 0x0111 and its section index. -/
def Obligations.CopyIsRead : Prop :=
  ∀ (s : State) (dt : Nat),
    (∀ b : List Byte, s.loadAt .header = true → b.length = 64 →
      (headerRule b = none → ∃ t, exec (.imageHeaderRead dt b) s = .next t ∧
        t.but s = { s.advance dt with ld := { s.ld with
          stage := .sect, imgLen := leAt b 8 4, nsect := leAt b 12 2, rdMode := byteAt b 14, rdDiv := byteAt b 15, rdDummy := byteAt b 16, buildId := leAt b 20 8, safSig := w32 (leAt b 32 4), pos := 64
          sectIx := 0, seen := [], shadow := [] } }) ∧
      (∀ code, headerRule b = some code → s.ld.second = false → ∃ t, exec (.imageHeaderRead dt b) s = .next t ∧
        t.but s = { s.advance dt with ks := t.ks, ld := t.ld } ∧ t.ks.coldNum = s.ks.coldNum + 1 ∧
        t.ld = { alt := !s.ld.alt, second := true, fail1 := some (plainFail code) })) ∧
    (∀ b : List Byte, s.loadAt .sect = true → b.length = 16 → (sectionRange (leAt b 0 2)).isSome = true → leAt b 0 2 ∉ s.ld.seen →
      0 < leAt b 4 4 → leAt b 4 4 ≤ 16384 → s.ld.pos + 24 + 16 * leAt b 4 4 ≤ s.ld.imgLen →
      ∃ t, exec (.sectionHeaderRead dt b) s = .next t ∧
        t.but s = { s.advance dt with ld := { s.ld with
          stage := .entry, sectId := leAt b 0 2, count := leAt b 4 4, entryIx := 0, crc := crc32Run 0xFFFFFFFF#32 b
          reservedBad := leAt b 2 2 != 0 || leAt b 8 8 != 0, entryFail := none } }) ∧
    (∀ a na v nv : Word, s.loadAt .entry = true → s.ld.entryFail = none → ∃ t, exec (.imageEntryRead dt a na v nv) s = .next t ∧
      t.but s = { s.advance dt with ld := t.ld } ∧ t.ld.entryIx = s.ld.entryIx + 1 ∧
      t.ld.stage = (if s.ld.entryIx + 1 = s.ld.count then .crc else .entry) ∧
      (entryRule s.ld.sectId s.ld.shadow a na v nv = none →
        t.ld.shadow = s.ld.shadow ++ [⟨a.toNat, v, s.ld.sectIx, s.ld.entryIx⟩] ∧ t.ld.entryFail = none) ∧
      (∀ code, entryRule s.ld.sectId s.ld.shadow a na v nv = some code →
        t.ld.shadow = s.ld.shadow ∧ t.ld.entryFail = some ⟨code, some s.ld.sectIx, some s.ld.entryIx, some a.toNat, v.toNat⟩)) ∧
    (∀ scrc : Word, s.loadAt .crc = true → s.ld.entryFail = none → s.ld.reservedBad = false →
      (~~~ s.ld.crc = scrc → s.ld.sectIx + 1 ≠ s.ld.nsect → ∃ t, exec (.sectionCrcRead dt scrc 0) s = .next t ∧
        t.but s = { s.advance dt with ld := { s.ld with
          stage := .sect, seen := s.ld.seen ++ [s.ld.sectId], sectIx := s.ld.sectIx + 1, pos := s.ld.pos + 24 + 16 * s.ld.count } }) ∧
      (~~~ s.ld.crc ≠ scrc → s.ld.second = false → ∃ t, exec (.sectionCrcRead dt scrc 0) s = .next t ∧
        t.ld = { alt := !s.ld.alt, second := true, fail1 := some ⟨0x0111, some s.ld.sectIx, none, none, 0⟩ }))

/-- HOLD_ENTRY, where a copy has passed: the device runs, in HOLD, or in SAFE where a demand stands at once; every register outside the blocks
of the axes holds the word of the shadow, or its reset content where the image does not name it; the copy's build, length and signature
are in force and the shadow is given up; the level of FREEZE_N is kept; the modulator clocks run. The clock, the keep-store and the
queue are as they were. -/
def Obligations.HoldEntryAppliesShadow : Prop :=
  ∀ (s : State) (dt : Nat) (freezeLow : Bool), s.loadAt .passed = true → ∃ t, exec (.holdEntry dt freezeLow) s = .next t ∧
    t.pwr = { s.pwr with phase := .running } ∧ (t.mode.mode = .hold ∨ t.mode.mode = .safe) ∧
    (∀ a, ¬(0x10000 ≤ a ∧ a < 0x24000) → t.regs.get a = (shadowRegs s.ld.shadow).get a) ∧
    t.ld = { s.ld with
      ended := true, shadow := [], inForceBuild := s.ld.buildId, inForceLen := s.ld.imgLen, inForceSig := s.ld.safSig } ∧
    t.frz = { pinLow := freezeLow } ∧ t.tbs.mclkRun = true ∧ t.clk = (s.advance dt).clk ∧ t.ks = s.ks ∧ t.pending = s.pending

/-- REFCLK_LOSS in a device that runs starts a holdover, sets stop cause 5 and writes one TIME record 0x0201; between the release and LOAD it ends
the start in failed COLD with reason 0x0002 and TB_NOW stands. REFCLK_BACK, 10 ms after the last loss, ends a holdover, clears stop cause 5 and writes TIME record 0x0202 with the time it
lasted. EPU_CALIBRATION that does not span the tick sets the fault bit of its unit and writes TIME record 0x0206, once; one that
spans changes nothing. -/
def Obligations.ReferenceClockEvents : Prop :=
  ∀ (s : State) (dt : Nat),
    (∀ off : Bool, s.running = true → s.tbs.holdover = false → ∃ t, exec (.refclkLoss dt off) s = .next t ∧
      t.but s = { s.advance dt with
        tbs := { s.tbs with holdover := true, holdSince := s.tbAt dt, lossAt := s.tbAt dt }, recs := t.recs, mode := { s.mode with stop := s.mode.stop ||| 32 } } ∧
      Wrote s t [timeOf (s.tbAt dt) 0x0201 (b2n off) (s.tbAt dt) 0]) ∧
    (∀ off : Bool, s.pwr.phase = .released ∨ s.pwr.phase = .locked → ∃ t, exec (.refclkLoss dt off) s = .next t ∧
      t.pwr.phase = .failed ∧ t.clk.counting = false ∧ t.tbs.lock = false ∧ t.ld.fail1.map (·.code) = some 0x0002) ∧
    (s.running = true → s.tbs.holdover = true → s.tbs.lossAt + 10000000 ≤ s.tbAt dt → ∃ t, exec (.refclkBack dt) s = .next t ∧
      t.but s = { s.advance dt with
        tbs := { s.tbs with holdover := false }, recs := t.recs, mode := { s.mode with stop := s.mode.stop &&& ~~~32 } } ∧
      Wrote s t [timeOf (s.tbAt dt) 0x0202 0 (s.tbAt dt - s.tbs.holdSince) 0]) ∧
    (∀ u : Fin 11, s.running = true →
      (s.tbs.calFail.getLsbD u.val = false → ∃ t, exec (.epuCalibration dt u false) s = .next t ∧
        t.but s = { s.advance dt with tbs := { s.tbs with calFail := s.tbs.calFail ||| BitVec.ofNat 11 (2 ^ u.val) }, recs := t.recs } ∧
        Wrote s t [timeOf (s.tbAt dt) 0x0206 u.val (s.tbAt dt) 0]) ∧
      ∃ t, exec (.epuCalibration dt u true) s = .next t ∧ t.but s = s.advance dt)

/-- TB_NOW_LO_READ of an origin that is served answers the lower word of TB_NOW and latches the upper one for that origin alone. Its next read of
TB_NOW_HI answers the word latched, whenever it comes, and gives it up; a read of TB_NOW_HI without one answers the live upper word. -/
def Obligations.TimeReadsInTwoWords : Prop :=
  ∀ (s : State) (dt : Nat) (o : Origin), s.serves o = true →
    (∃ t, exec (.tbNowLoRead dt o) s = .next t ∧
      t.but s = { s.advance dt with
        tbs := { s.tbs with hiLatch := (o, hi32 (s.tbAt dt)) :: s.tbs.hiLatch.filter (fun x => x.1 != o) }
        cp := (s.advance dt).cpAfter o 1 { status := 0, data := leBytes 4 (lo32 (s.tbAt dt)).toNat } } ∧
      ∀ dt2 : Nat, ∃ u, exec (.jcpRead dt2 o 0x8004 1) t = .next u ∧
        u.cp.answers = t.cp.answers ++ [⟨o, 1, { status := 0, data := leBytes 4 (hi32 (s.tbAt dt)).toNat }⟩] ∧
        u.tbs.hiLatch = s.tbs.hiLatch.filter (fun x => x.1 != o)) ∧
    ((∀ w, (o, w) ∉ s.tbs.hiLatch) → ∃ t, exec (.jcpRead dt o 0x8004 1) s = .next t ∧
      t.but s = { s.advance dt with
        cp := (s.advance dt).cpAfter o 1 { status := 0, data := leBytes 4 (hi32 (s.tbAt dt)).toNat } })

/-- SAMPLE_INSTANT of a main axis that has updates, at a carrier extreme at which updates begin and later than the sample instants
in progress, opens an update whose edge-update instant lies one update interval on, and which keeps the parameters and references then in
force. CURRENT_LOOP_UPDATE on an engine that is free starts the earliest update whose inputs are there and whose instant has not passed, and its
result is what the engine computes with what the update keeps. EDGE_SET_POSTED posts
the set of the update worked on before its instant: its slack is kept, HOLD and the run of misses end, the SLACK bit and count follow the 20 % limit,
and an axis (a main axis whose result opens no zero-current ASC) has the set and the engine's state of its result. EDGE_UPDATE_INSTANT takes the posted set of a main axis that is not in
ASC or CATCH into force, on the carrier in force from there; an update with no set is missed: it counts, the set before stands, what its shifts left to correct and its DC-link samples are dropped, and one that was never started writes its
LATE record at once. LATE_RESULT_DISCARDED drops the late result of one that was, with a LATE record of its overrun, and the free engine of an
auxiliary axis starts the update that waits. -/
def Obligations.UpdateRunsToItsInstant : Prop :=
  ∀ (s : State) (dt : Nat),
    (∀ (n : Fin 6) (uv : BitVec 3) (k x : Nat), s.running = true → s.axAlloc n = true → s.ax[n].state.watched = true →
      (s.advance dt).extreme (axis10 n) = some (k, x) → k % 2 = 0 ∨ s.regs.AXn_FOC_CFG_UPD n = true →
      (∀ u ∈ s.snt[axis10 n].upds, u.sample < s.tbAt dt) → ∃ t u, exec (.sampleInstant dt n uv) s = .next t ∧
        t.but s = { s.advance dt with snt := t.snt, sns := t.sns, gd := t.gd } ∧
        t.snt[axis10 n].upds = s.snt[axis10 n].upds ++ [u] ∧
        u.sample = x ∧ u.edge = extremeAt s.ax[n].valley s.snt[axis10 n].freq (if s.regs.AXn_FOC_CFG_UPD n then k + 1 else k + 2) ∧
        u.half = 1 / s.snt[axis10 n].freq / 2 ∧ u.started = false ∧ u.posted = none ∧
        u.regs = s.regs ∧ u.refT = s.ax[n].refT ∧ u.refId = s.ax[n].refId ∧ u.refN = s.ax[n].refN) ∧
    (∀ (n : Fin 6) (yU yV yW : Rat) (pre rest : List Upd) (u : Upd), s.running = true → s.snt[axis10 n].busy = false →
      s.snt[axis10 n].upds = pre ++ u :: rest → (∀ v ∈ pre, v.started = true) → u.started = false →
      u.sample + (s.asOf n u).filterNs n ≤ s.tbAt dt → s.tbAt dt ≤ u.edge → ∃ t, exec (.currentLoopUpdate dt n yU yV yW) s = .next t ∧
        t.but s = { s.advance dt with snt := t.snt, sns := t.sns, ax := t.ax, freeIx := s.freeIx + 5 } ∧
        t.snt[axis10 n].upds = pre ++ { u with started := true } :: rest ∧
        t.ax[n].result = some (((s.advance dt).asOf n u).engineUpdate n u #v[yU, yV, yW])) ∧
    (∀ (a : Fin 10) (pre rest : List Upd) (u : Upd), s.running = true → s.snt[a].upds = pre ++ u :: rest →
      (∀ v ∈ pre, v.posted.isSome = true) → u.started = true → u.posted = none → s.tbAt dt ≤ u.edge →
      (∀ n r, mainOf a = some n → s.ax[n].result = some r → r.zcAsc = false) → s.saf.ss1 = [] → ∃ t, exec (.edgeSetPosted dt a) s = .next t ∧
        (∃ rest', t.snt[a].upds = pre ++ { u with posted := some (s.tbAt dt) } :: rest' ∧ (∀ n, mainOf a = some n → rest' = rest)) ∧
        t.snt[a].last = (u.edge : Int) - s.tbAt dt ∧
        t.snt[a].hold = false ∧ t.snt[a].consec = 0 ∧ t.snt[a].slack = decide ((u.edge - s.tbAt dt) * 5 < s.intervalNs a) ∧
        t.snt[a].slackCnt = (if (u.edge - s.tbAt dt) * 5 < s.intervalNs a then satInc 16 s.snt[a].slackCnt else s.snt[a].slackCnt) ∧
        (∀ n r, mainOf a = some n → s.ax[n].result = some r → t.ax[n].posted = some r.set ∧ t.ax[n].eng = r.eng) ∧
        (∀ at' e, mainOf a = none → s.aux[auxOf a].result = some (at', e) →
          t.aux[auxOf a].posted = some e.duties ∧ t.aux[auxOf a].eng = e)) ∧
    (∀ (a : Fin 10) (u : Upd) (rest : List Upd), s.running = true → s.snt[a].upds = u :: rest → u.edge < s.tbAt dt + 2 →
      (u.posted.isSome = true → ∃ t, exec (.edgeUpdateInstant dt a) s = .next t ∧
        t.but s = { s.advance dt with snt := t.snt, ax := t.ax, aux := t.aux, gd := t.gd, recs := t.recs } ∧ t.snt[a].upds = rest ∧
        (∀ n, mainOf a = some n → t.aux = s.aux) ∧ (mainOf a = none → t.ax = s.ax) ∧
        (∀ k : Fin 10, t.gd = { s.gd with ax := t.gd.ax } ∧ t.gd.ax[k] = { s.gd.ax[k] with lowRan := t.gd.ax[k].lowRan }) ∧
        ∀ n e, mainOf a = some n → s.ax[n].posted = some e → s.ax[n].state ≠ .asc → s.ax[n].state ≠ .catching →
          t.ax[n] = { s.ax[n] with
            posted := none, lastVA := s.ax[n].set.vA, lastVB := s.ax[n].set.vB, set := s.capSet n u.edge (s.fitSet n u.edge e).1, setAt := u.edge
            eng := { s.ax[n].eng with carry := (s.fitSet n u.edge e).2 }, was := t.ax[n].was, bridge := if e.bridge == .modulate then .modulate else s.ax[n].bridge }) ∧
      (u.posted = none → ∃ t, exec (.edgeUpdateInstant dt a) s = .next t ∧
        t.but s = { s.advance dt with snt := t.snt, sns := t.sns, ax := t.ax, aux := t.aux, gd := t.gd, blk := t.blk, recs := t.recs } ∧
        (∀ k : Fin 10, t.gd = { s.gd with ax := t.gd.ax } ∧ t.gd.ax[k] = { s.gd.ax[k] with lowRan := t.gd.ax[k].lowRan }) ∧
        (∀ n, mainOf a = some n → t.ax[n].lastVA = s.ax[n].set.vA ∧ t.ax[n].lastVB = s.ax[n].set.vB ∧ t.ax[n].sumMiss = s.ax[n].sumMiss + 1) ∧
        (∀ n, mainOf a = some n → t.ax[n].eng.carry = Vector.replicate 3 0 ∧
          t.sns.ax[n].samples = s.sns.ax[n].samples.filter (fun m => decide (u.sample < m.heldAt))) ∧
        t.snt[a].upds = rest ∧ t.snt[a].consec = s.snt[a].consec + 1 ∧ t.snt[a].lateCnt = satInc 16 s.snt[a].lateCnt ∧
        t.snt[a].hold = true ∧ t.snt[a].slack = false ∧
        (u.started = true → t.snt[a].late = s.snt[a].late ++ [(u.edge, s.snt[a].consec + 1)]) ∧
        (u.started = false → t.snt[a].late = s.snt[a].late) ∧
        (u.started = false → (∀ n, mainOf a = some n → s.blk[n] = none) →
          Wrote s t [evtOf u.edge (Unit.axis a) 0x0102 (min (s.snt[a].consec + 1) 65535) 0xFFFFFFFF]))) ∧
    (∀ (a : Fin 10) (edge k : Nat) (rest : List (Nat × Nat)), s.running = true → s.snt[a].late = (edge, k) :: rest →
      ∃ t, exec (.lateResultDiscarded dt a) s = .next t ∧ t.but s = { s.advance dt with snt := t.snt, recs := t.recs, aux := t.aux } ∧
        t.snt[a].late = rest ∧ t.snt[a].last = (edge : Int) - s.tbAt dt ∧
        (∀ n, mainOf a = some n → t.aux = s.aux ∧
          t.snt = vset s.snt a (fun q => { q with late := rest, last := (edge : Int) - s.tbAt dt })) ∧
        (∀ u : Upd, mainOf a = none → rest = [] → s.snt[a].upds = [u] → u.started = false → s.tbAt dt ≤ u.edge →
          t.snt[a].upds = [{ u with started := true }]) ∧
        Wrote s t [evtOf edge (Unit.axis a) 0x0102 (min k 65535) (s.tbAt dt - edge)])

/-- LATE_REACT, where halved PWM is selected and an outer-tick boundary is there, orders half the frequency and writes LATE_REACT with its
whole part in Hz, or where half of it is below 1 kHz begins the ramp stop; where the ramp stop is selected it begins the stop of the axis with
fault reason 0x0102, and on an axis that stops under BRAKE changes its HALT reason and no timer. On an axis in ASC it gives the reaction up, which is the
model's choice (log 144). LATE_BRIDGE_OFF, on the eighth consecutive miss of an axis that
moves current and is not in ASC, halts the axis. SLACK_WINDOW_CLOSE, 100 ms after the first SLACK update of a window, closes it with its one record.
LATE_CLEAR, 1 s after a halved axis first met the conditions, notes it with its record. PWM_FREQUENCY_CHANGE at a valley of the old
carrier puts the frequency ordered in force and takes that valley as the first of the new carrier. -/
def Obligations.LateReactionsAndCarrier : Prop :=
  ∀ (s : State) (dt : Nat),
    (∀ n : Fin 6, s.running = true → s.ax[n].state = .asc → ∃ t, exec (.lateReact dt (axis10 n)) s = .next t ∧
      t.but s = { s.advance dt with snt := vset s.snt (axis10 n) (fun q => { q with react := 0 }) }) ∧
    (∀ n : Fin 6, s.running = true → s.ax[n].state ≠ .asc → s.snt[axis10 n].react = 1 → s.tbAt dt % s.period = 0 →
      1000 ≤ s.regs.AXn_PWM_F n / 2 → ∃ t, exec (.lateReact dt (axis10 n)) s = .next t ∧
      t.but s = { s.advance dt with recs := t.recs, snt := vset s.snt (axis10 n) (fun q => { q with
        react := 0, halved := true, clearOk := false, clearSince := none, clearMax := 0, freqNext := some (s.regs.AXn_PWM_F n / 2) }) } ∧
      Wrote s t [evtOf (s.tbAt dt) (Unit.ax n) 0x0103 1 (s.regs.AXn_PWM_F n / 2).floor.toNat]) ∧
    (∀ n : Fin 6, s.running = true → s.snt[axis10 n].react = 2 → s.ax[n].state = .run → ∃ t, exec (.lateReact dt (axis10 n)) s = .next t ∧
      t.snt = vset s.snt (axis10 n) (fun q => { q with react := 0 }) ∧ t.ax[n].state = .stop ∧ t.ax[n].stopKind = .fault 0x0102 true ∧
      Wrote s t [evtOf (s.tbAt dt) (Unit.ax n) 0x0103 2 0]) ∧
    (∀ n : Fin 6, s.running = true → s.snt[axis10 n].react = 1 → s.tbAt dt % s.period = 0 → s.regs.AXn_PWM_F n / 2 < 1000 →
      s.ax[n].state = .run → ∃ t, exec (.lateReact dt (axis10 n)) s = .next t ∧ t.ax[n].state = .stop ∧
      t.ax[n].stopKind = .fault 0x0102 true ∧ Wrote s t [evtOf (s.tbAt dt) (Unit.ax n) 0x0103 2 0]) ∧
    (∀ n : Fin 6, s.running = true → s.snt[axis10 n].react = 2 → s.ax[n].state = .stop → s.mode.mode = .brake →
      ∃ t, exec (.lateReact dt (axis10 n)) s = .next t ∧ t.ax[n].haltReason = 0x0102 ∧ t.ax[n].stopAt = s.ax[n].stopAt ∧
      t.ax[n].still = s.ax[n].still ∧ (s.ax[n].stopKind = .brake → t.ax[n].stopFree = true)) ∧
    (∀ n : Fin 6, s.running = true → 8 ≤ s.snt[axis10 n].consec → s.moving10 (axis10 n) = true → s.ax[n].state ≠ .asc →
      ∃ t, exec (.lateBridgeOff dt (axis10 n)) s = .next t ∧ t.ax[n].state = .halt ∧ t.ax[n].haltReason = 0x0102) ∧
    (∀ (a : Fin 10) (at' k : Nat) (m : Int), s.running = true → s.snt[a].window = some (at', k, m) → at' + 100000000 ≤ s.tbAt dt →
      ∃ t, exec (.slackWindowClose dt a) s = .next t ∧
        t.but s = { s.advance dt with recs := t.recs, snt := vset s.snt a (fun q => { q with window := none }) } ∧
        Wrote s t [evtOf at' (Unit.axis a) 0x0101 (min k 65535) (twos 4 m)]) ∧
    (∀ (n : Fin 6) (since : Nat), s.running = true → s.snt[axis10 n].clearSince = some since → s.snt[axis10 n].halved = true →
      s.snt[axis10 n].clearOk = false → since + 1000000000 ≤ s.tbAt dt → ∃ t, exec (.lateClear dt n) s = .next t ∧
        t.but s = { s.advance dt with recs := t.recs, snt := vset s.snt (axis10 n) (fun q => { q with clearOk := true }) } ∧
        Wrote s t [evtOf (s.tbAt dt) (Unit.ax n) 0x0104 0 s.snt[axis10 n].clearMax]) ∧
    (∀ (a : Fin 10) (f : Rat) (k x : Nat), s.running = true → s.snt[a].freqNext = some f → (s.advance dt).extreme a = some (k, x) → k % 2 = 0 →
      ∃ t, exec (.pwmFrequencyChange dt a) s = .next t ∧ t.but s = { s.advance dt with snt := t.snt, ax := t.ax, aux := t.aux } ∧
        t.snt[a].freq = f ∧ t.snt[a].freqNext = none ∧ (∀ n, mainOf a = some n → t.ax[n] = { s.ax[n] with valley := x }) ∧
        (mainOf a = none → t.aux[auxOf a] = { s.aux[auxOf a] with valley := x }))

/-- OUTER_TICK_BOUNDARY at a multiple of the period, later than the boundary before, begins the next tick there. Work that is done leaves the
run of overruns as it was; work that is not done makes the tick that ends an overrun: the run and the count rise by one and the tick's
work stays due as of its own boundary. OUTER_TICK_WORK with no tick overdue ends the work of the tick now running: its time since the work began is
TICK_LAST, the run of overruns ends, and the supply inputs read are kept. With a tick overdue it ends that tick's work alone. TICK_OVERRUN_STOP,
after four overruns in a row, sets stop cause 4, once. -/
def Obligations.OuterTickAndItsWork : Prop :=
  ∀ (s : State) (dt : Nat), s.running = true →
    (s.tbAt dt % s.period = 0 → s.tick.began < s.tbAt dt → ∃ t, exec (.outerTickBoundary dt) s = .next t ∧
      t.tick.number = s.tick.number + 1 ∧ t.tick.began = s.tbAt dt ∧ t.tick.workDone = false ∧ t.tick.withheld = false ∧
      t.tick.last = s.tick.last ∧ t.tick.max = s.tick.max ∧
      (s.tick.workDone = true →
        t.tick.consec = s.tick.consec ∧ t.tick.ovrCnt = s.tick.ovrCnt ∧ t.tick.overdue = s.tick.overdue) ∧
      (s.tick.workDone = false →
        t.tick.consec = s.tick.consec + 1 ∧ t.tick.ovrCnt = satInc 16 s.tick.ovrCnt ∧
        t.tick.overdue = s.tick.overdue ++ [(s.tbAt dt, s.tick.consec + 1)]) ∧
      t.clk = (s.advance dt).clk ∧ t.pwr = s.pwr ∧ t.ld = s.ld ∧ t.ks = s.ks ∧ t.tbs = s.tbs ∧ t.blk = s.blk ∧ t.smpCnt = s.smpCnt ∧
      t.car = s.car ∧ t.frz = s.frz ∧ t.pending = s.pending) ∧
    (∀ (sensors : List (Rat × Rat)) (vdrv v24s : Rat), s.tick.overdue = [] → s.tick.workDone = false →
      ∃ t, exec (.outerTickWork dt sensors vdrv v24s) s = .next t ∧
        t.tick.workDone = true ∧ t.tick.consec = 0 ∧ t.tick.workBegan = s.tbAt dt ∧ t.tick.overdue = [] ∧
        t.tick.number = s.tick.number ∧ t.tick.began = s.tick.began ∧ t.tick.last = secOf (s.tbAt dt - s.tick.workBegan) ∧
        t.tick.max = (if s.tick.max < secOf (s.tbAt dt - s.tick.workBegan) then secOf (s.tbAt dt - s.tick.workBegan) else s.tick.max) ∧
        t.gd = { s.gd with vdrv := vdrv } ∧ t.saf = { s.saf with v24s := v24s } ∧
        t.clk = (s.advance dt).clk ∧ t.regs = s.regs ∧ t.snt = s.snt ∧ t.ax = s.ax ∧ t.cp = s.cp ∧ t.pending = s.pending) ∧
    (∀ (sensors : List (Rat × Rat)) (vdrv v24s : Rat) (b n : Nat) (rest : List (Nat × Nat)), s.tick.overdue = (b, n) :: rest →
      ∃ t, exec (.outerTickWork dt sensors vdrv v24s) s = .next t ∧
        t.tick.overdue = rest ∧ t.tick.workDone = s.tick.workDone ∧ t.tick.consec = s.tick.consec ∧ t.tick.workBegan = s.tbAt dt ∧
        t.tick.number = s.tick.number ∧ t.tick.began = s.tick.began) ∧
    (4 ≤ s.tick.consec → s.mode.stop.getLsbD 4 = false → ∃ t, exec (.tickOverrunStop dt) s = .next t ∧
      t.but s = { s.advance dt with
        tick := { s.tick with setInHold := s.mode.mode == .hold }, mode := { s.mode with stop := s.mode.stop ||| 16 } })

/-- DOMAIN_SKEW_LIMIT of a pair that has been above a limit on ten consecutive ticks, and whose run has no record yet, sets stop cause 3, holds the
pair and writes one DOMAIN_SKEW record, whose TIME is the boundary of the tenth reading. DOMAIN_SKEW_HOLDOFF_END frees the pairs that have been below both limits for 1 s; with none left held
the stop cause ends, and while one is held it stays. -/
def Obligations.DomainSkewStops : Prop :=
  ∀ (s : State) (dt : Nat), s.running = true →
    (∀ p : Fin 9, 10 ≤ s.tick.limCount[p] → s.tick.limNoted[p] = false → ∃ t, exec (.domainSkewLimit dt p) s = .next t ∧
      t.but s = { s.advance dt with
        tick := { s.tick with held := s.tick.held.set p true, limNoted := s.tick.limNoted.set p true, holdoff := true }, mode := { s.mode with stop := s.mode.stop ||| 8 }
        recs := t.recs } ∧
      ∃ detail value, Wrote s t [evtOf s.tick.limAt[p] Unit.dev 0x0106 detail value]) ∧
    (s.tick.holdoff = true →
      ((∀ p : Fin 9, s.tick.held[p] = true → ∃ since, s.tick.belowSince[p] = some since ∧ since + 1000000000 ≤ s.tbAt dt) →
        ∃ t, exec (.domainSkewHoldoffEnd dt) s = .next t ∧
          t.but s = { s.advance dt with
            tick := { s.tick with held := Vector.replicate 9 false, holdoff := false }
            mode := { s.mode with stop := s.mode.stop &&& ~~~8 } }) ∧
      (∀ p : Fin 9, s.tick.held[p] = true → s.tick.belowSince[p] = none → ∃ t, exec (.domainSkewHoldoffEnd dt) s = .next t ∧
        t.tick.held[p] = true ∧ t.tick.holdoff = true ∧ t.mode.stop = s.mode.stop))

/-- Of an origin whose write is served and that holds the token or is class M, each clear command that writes 1 is answered with ACK and
clears: TICK_CLR the longest work and the overrun count; SNT_CLR of an axis allocated the smallest slack and the counts of SLACK and
LATE; RCN_CLR of an axis allocated the counts of shifted and predicted reconstructions; LIM_CLR of an auxiliary axis allocated the chatter inhibit of the limits named;
PORT_ERR_CLR the counts of violations and malformed frames of a port; LINK_ERR_CLR the four error counts of a link; CAN_CLR the four
counts of a controller that is on; on one that is off it answers STATE. CHOPPER_CLEAR of mapped legs clears the fault bits of those that are not active (in direct mode all; in link mode what is active is free). Nothing else changes
but the answer kept and the lease renewed. -/
def Obligations.ClearCommandsClear : Prop :=
  ∀ (s : State) (dt : Nat) (o : Origin), s.writes o = true → s.may true o = true →
    (∃ t, exec (.tickClr dt o 1) s = .next t ∧
      t.but s = { s.advance dt with tick := { s.tick with max := 0, ovrCnt := 0 }, cp := (s.advance dt).cpWrote o }) ∧
    (∀ a : Fin 10, s.alloc10 a = true → ∃ t, exec (.sntClr dt o a 1) s = .next t ∧
      t.but s = { s.advance dt with
        snt := vset s.snt a (fun q => { q with least := none, slackCnt := 0, lateCnt := 0 }), cp := (s.advance dt).cpWrote o }) ∧
    (∀ n : Fin 6, s.axAlloc n = true → ∃ t, exec (.rcnClr dt o n 1) s = .next t ∧
      t.but s = { s.advance dt with
        sns := { s.sns with ax := vset s.sns.ax n (fun q => { q with shiftCnt := 0, predCnt := 0 }) }
        cp := (s.advance dt).cpWrote o }) ∧
    (∀ x : Fin 4, s.auxAlloc x = true → ∃ t, exec (.limClr dt o x 3) s = .next t ∧
      t.but s = { s.advance dt with
        aux := vset s.aux x (fun a => { a with
          posi := { a.posi with inhibit := false, changes := [] }, neg := { a.neg with inhibit := false, changes := [] } })
        cp := (s.advance dt).cpWrote o }) ∧
    (∀ p : Fin 3, ∃ t, exec (.portErrClr dt o p 1) s = .next t ∧
      t.but s = { s.advance dt with
        cp := ((s.advance dt).onCp (fun x => { x with ports := vset x.ports p (fun q => { q with viol := 0, malf := 0 }) })).cpWrote o }) ∧
    (∀ k : Fin 6, ∃ t, exec (.linkErrClr dt o k 1) s = .next t ∧
      t.but s = { s.advance dt with
        fab := { s.fab with links := vset s.fab.links k (fun l => { l with exch := 0, bad := 0, tc := 0, downs := 0 }) }
        cp := (s.advance dt).cpWrote o }) ∧
    (∀ n : Fin 2,
      (s.regs.CANn_CFG_BIND n ≠ 0 → ∃ t, exec (.canClr dt o n) s = .next t ∧
        t.but s = { s.advance dt with
          can := vset s.can n (fun x => { x with overrun := 0, unbound := 0, sameIds := 0, busOffs := 0 })
          cp := (s.advance dt).cpWrote o }) ∧
      (s.regs.CANn_CFG_BIND n = 0 → ∃ t, exec (.canClr dt o n) s = .next t ∧
        t.but s = { s.advance dt with cp := t.cp, recs := t.recs } ∧ Refused s t dt o 2 St.state 0)) ∧
    (∀ w : Word, (∀ k : Fin 4, bit w k.val = true → s.regs.GD_CHPn_MAP_EN k = true) →
      (∃ t, exec (.chopperClear dt o w) s = .next t ∧ t.freeIx = s.freeIx + 4 ∧
        t.gd = { s.gd with chop := Vector.ofFn (fun k : Fin 4 =>
          if bit w k.val && !s.chopActive k then { s.gd.chop[k] with fault := false } else s.gd.chop[k]) }) ∧
      ((∀ k : Fin 4, bit w k.val = true → Nat.testBit s.regs.GD_HB_MODE (s.regs.GD_CHPn_MAP_HB k) = false) →
        ∃ t, exec (.chopperClear dt o w) s = .next t ∧
          t.but s = { s.advance dt with
            gd := { s.gd with chop := Vector.ofFn (fun k : Fin 4 => if bit w k.val then { s.gd.chop[k] with fault := false } else s.gd.chop[k]) }
            freeIx := s.freeIx + 4, cp := (s.advance dt).cpWrote o }))

/-- REGISTER_WRITE of the token holder to the value word of a paired register that can be written and that its origin finds room for holds the value as that origin's
pending pair and changes nothing else. The complement to the next word completes the pair, and where the register is staged the value enters
the bank; STAGED_WRITE of the value alone and JCP_WRITE of both words in one entry leave the same bank. Any other write of that origin while
its pair is open gives the pair up, is refused with PAIR and has no effect. A value of a staged register that is in the bank already is replaced there. JCP_READ of the complement word of a register that is not the device's own
answers that word as it is stored, and where the stored words do not complement it raises a pair fault on the register, once. -/
def Obligations.PairedAndStagedWrites : Prop :=
  ∀ (s : State) (dt : Nat) (o : Origin) (m : Bool) (addr : Word) (r : RegRow), s.serves o = true → s.holds o = true →
    areaOf addr.toNat = .regs → addr.toNat % 4 = 0 → regRow? addr.toNat = some r → r.pair = true →
    (∀ v : Word, s.pairOf o = none → r.acc ≠ .RO → r.acc ≠ .RI → s.originFull o = false →
      ∃ t, exec (.registerWrite dt o m addr v) s = .next t ∧
        t.but s = { s.advance dt with
          stg := { s.stg with pairs := s.stg.pairs ++ [(o, addr.toNat, v)] }, cp := (s.advance dt).cpWrote o }) ∧
    (∀ (v a2 : Word), s.pairOf o = some (addr.toNat, v) → r.acc = .RS → a2.toNat = addr.toNat + 4 →
      rowAdmits r (v &&& w32 (rowMask r)) = true → s.stg.commit = none → s.stg.bank.length < 1024 →
      s.stg.bank.all (fun b => b.1 != addr.toNat) = true → ∃ t, exec (.registerWrite dt o m a2 (~~~v)) s = .next t ∧
        t.but s = { s.advance dt with
          stg := { s.stg with
            pairs := s.stg.pairs.filter (fun p => p.1 != o), bank := s.stg.bank ++ [(addr.toNat, rowNorm r (v &&& w32 (rowMask r)))] }
          cp := (s.advance dt).cpWrote o }) ∧
    (∀ (v a2 w : Word), s.pairOf o = some (addr.toNat, v) → a2.toNat % 4 = 0 → ¬(a2.toNat = addr.toNat + 4 ∧ w = ~~~v) →
      ∃ t, exec (.registerWrite dt o m a2 w) s = .next t ∧
        t.but s = { s.advance dt with
          stg := { s.stg with pairs := s.stg.pairs.filter (fun p => p.1 != o) }, cp := t.cp, recs := t.recs } ∧
        Refused s t dt o 2 St.pair 0) ∧
    (∀ v : Word, s.pairOf o = none → r.acc = .RS → rowAdmits r (v &&& w32 (rowMask r)) = true → s.stg.commit = none →
      (s.stg.bank.length < 1024 → s.stg.bank.all (fun b => b.1 != addr.toNat) = true →
        ∃ t, exec (.stagedWrite dt o addr v) s = .next t ∧
          t.but s = { s.advance dt with
            stg := { s.stg with bank := s.stg.bank ++ [(addr.toNat, rowNorm r (v &&& w32 (rowMask r)))] }, cp := (s.advance dt).cpWrote o }) ∧
      (s.stg.bank.any (fun b => b.1 == addr.toNat) = true → ∃ t, exec (.stagedWrite dt o addr v) s = .next t ∧
          t.but s = { s.advance dt with
            stg := { s.stg with
              bank := s.stg.bank.map (fun b => if b.1 = addr.toNat then (addr.toNat, rowNorm r (v &&& w32 (rowMask r))) else b) }
            cp := (s.advance dt).cpWrote o }) ∧
      (s.stg.bank.length < 1024 → s.stg.bank.all (fun b => b.1 != addr.toNat) = true → s.originFull o = false →
        ∃ t, exec (.jcpWrite dt o m addr [v, ~~~v]) s = .next t ∧
          t.stg.bank = s.stg.bank ++ [(addr.toNat, rowNorm r (v &&& w32 (rowMask r)))] ∧ t.regs = s.regs ∧ t.mode.mode = s.mode.mode ∧
          t.cp.answers = s.cp.answers ++ [⟨o, 2, { status := 0 }⟩])) ∧
    (∀ a2 : Word, r.acc ≠ .RO → r.acc ≠ .WC → a2.toNat = addr.toNat + 4 → areaOf a2.toNat = .regs → regRow? a2.toNat = none →
      ∃ t, exec (.jcpRead dt o a2 1) s = .next t ∧
        t.but s = { s.advance dt with
          stg := { s.stg with
            pairFault := if s.regs.getCompl addr.toNat = ~~~ s.regs.get addr.toNat ∨ s.stg.pairFault.contains addr.toNat = true then s.stg.pairFault
              else s.stg.pairFault ++ [addr.toNat] }
          cp := (s.advance dt).cpAfter o 1 { status := 0, data := leBytes 4 (s.regs.getCompl addr.toNat).toNat } })

/-- Of an origin that is served and has no pair open: JCP_READ of one word that no field map of its block defines is answered with ACK and zero, and
changes nothing; REGISTER_WRITE to it is refused with RANGE, which a VIOLATION record tells, and changes nothing else. -/
def Obligations.ReservedWords : Prop :=
  ∀ (s : State) (dt : Nat) (o : Origin) (addr : Word), s.serves o = true → areaOf addr.toNat = .regs → addr.toNat % 4 = 0 →
    regClass addr.toNat = .reserved →
    (∃ t, exec (.jcpRead dt o addr 1) s = .next t ∧
      t.but s = { s.advance dt with cp := (s.advance dt).cpAfter o 1 { status := 0, data := [0, 0, 0, 0] } }) ∧
    (s.pairOf o = none → ∀ (m : Bool) (v : Word), ∃ t, exec (.registerWrite dt o m addr v) s = .next t ∧
      t.but s = { s.advance dt with cp := t.cp, recs := t.recs } ∧ Refused s t dt o 2 St.range 0)

/-- STG_DISCARD of the token holder empties a bank that no COMMIT locks, with a CONFIG record. COMMIT of the token holder in HOLD, DRIVE or LIMP,
with a bank that is neither empty nor locked, is accepted and locks the bank; in another mode, or with the bank empty, it concludes at once as refused, with its reason.
At a boundary in HOLD met in time, a COMMIT that was validated and broke no rule puts every staged word in force, and one that broke a rule changes no
word: outside the blocks of the axes, whose command registers the boundary may reset, the registers are those of the staged set, or
those before. -/
def Obligations.CommitIsWhole : Prop :=
  ∀ (s : State) (dt : Nat),
    (∀ o : Origin, s.writes o = true → s.holds o = true →
      (s.stg.commit = none → ∃ t, exec (.stgDiscard dt o 1) s = .next t ∧
        t.but s = { s.advance dt with stg := { s.stg with bank := [] }, recs := t.recs, cp := (s.advance dt).cpWrote o } ∧
        ∃ p, Wrote s t [recOf (s.tbAt dt) Unit.dev 9 (leBytes 2 0x0303 ++ p)]) ∧
      (∀ tag : BitVec 16, s.mode.mode = .hold ∨ s.mode.mode = .drive ∨ s.mode.mode = .limp → s.stg.bank ≠ [] → s.stg.commit = none →
        ∃ t, exec (.commit dt o tag) s = .next t ∧
          t.but s = { s.advance dt with
            stg := { s.stg with commit := some { tag := tag, port := (clsPort o.cls).val, at' := s.tbAt dt, verdict := none } }
            cp := (s.advance dt).cpWrote o }) ∧
      (∀ (tag : BitVec 16) (code : Nat),
        (code = 0x0402 ∧ s.mode.mode ≠ .hold ∧ s.mode.mode ≠ .drive ∧ s.mode.mode ≠ .limp ∨
          code = 0x0401 ∧ (s.mode.mode = .hold ∨ s.mode.mode = .drive ∨ s.mode.mode = .limp) ∧ s.stg.bank = []) →
        ∃ t, exec (.commit dt o tag) s = .next t ∧
          t.but s = { s.advance dt with
            stg := { s.stg with resTag := tag, result := 2, resCode := code, resAddr := none, resTime := s.tbAt dt }
            freeIx := s.freeIx + 2, cp := t.cp, recs := t.recs } ∧
          t.cp.answers = s.cp.answers ++ [⟨o, 2, { status := St.state, detail := code }⟩])) ∧
    (∀ c, s.running = true → s.regs.wf = true → s.mode.mode = .hold → s.mode.drivePending = none → s.tick.workDone = true →
      s.tick.withheld = false → s.tbAt dt % s.period = 0 → s.tick.began < s.tbAt dt → s.stg.commit = some c →
      (c.verdict = some none → ∃ t, exec (.outerTickBoundary dt) s = .next t ∧
        ∀ a, ¬(0x10000 ≤ a ∧ a < 0x24000) → t.regs.get a = s.stagedRegs.get a) ∧
      (∀ code addr, c.verdict = some (some (code, addr)) → ∃ t, exec (.outerTickBoundary dt) s = .next t ∧
        ∀ a, ¬(0x10000 ≤ a ∧ a < 0x24000) → t.regs.get a = s.regs.get a))

/-- DRIVE_REQUEST of the token holder in HOLD, where no blocking condition holds once stop cause 1 is cleared, waits for a boundary with the port and the
instant of its acceptance, and the register of blocking conditions reads zero; where one holds, and outside HOLD (with bit 6), it
is refused with STATE and that register names them. HOLD_REQUEST in DRIVE or LIMP sets stop cause 6, and elsewhere is refused. LIMP_ACKNOWLEDGE in
LIMP with no degradation cause waits for a boundary, and else is refused. Nothing else changes. -/
def Obligations.ModeRequests : Prop :=
  ∀ (s : State) (dt : Nat) (o : Origin), s.writes o = true → s.holds o = true →
    (s.mode.mode = .hold → (s.setStop 1 false).blockBits = 0 → ∃ t, exec (.driveRequest dt o) s = .next t ∧
      t.but s = { s.advance dt with
        mode := { s.mode with
          block := 0
          drivePending := some (s.mode.drivePending.getD { port := (clsPort o.cls).val, at' := s.tbAt dt, tested := false }) }
        cp := (s.advance dt).cpWrote o }) ∧
    (s.mode.mode ≠ .hold ∨ (s.setStop 1 false).blockBits ≠ 0 → ∃ t, exec (.driveRequest dt o) s = .next t ∧
      t.but s = { s.advance dt with
        mode := { s.mode with
          block := BitVec.ofNat 8 ((s.setStop 1 false).blockBits + if s.mode.mode = .hold then 0 else 0x40) }
        cp := t.cp, recs := t.recs } ∧
      Refused s t dt o 2 St.state 0) ∧
    (s.mode.mode = .drive ∨ s.mode.mode = .limp → ∃ t, exec (.holdRequest dt o) s = .next t ∧
      t.but s = { s.advance dt with mode := { s.mode with stop := s.mode.stop ||| 64 }, cp := (s.advance dt).cpWrote o }) ∧
    (s.mode.mode ≠ .drive → s.mode.mode ≠ .limp → ∃ t, exec (.holdRequest dt o) s = .next t ∧
      t.but s = { s.advance dt with cp := t.cp, recs := t.recs } ∧ Refused s t dt o 2 St.state 0) ∧
    (s.mode.mode = .limp → s.degr = 0 → ∃ t, exec (.limpAcknowledge dt o) s = .next t ∧
      t.but s = { s.advance dt with
        mode := { s.mode with limpAck := some (s.mode.limpAck.getD (clsPort o.cls).val) }, cp := (s.advance dt).cpWrote o }) ∧
    (s.mode.mode ≠ .limp ∨ s.degr ≠ 0 → ∃ t, exec (.limpAcknowledge dt o) s = .next t ∧
      t.but s = { s.advance dt with cp := t.cp, recs := t.recs } ∧ Refused s t dt o 2 St.state 0)

/-- At an outer-tick boundary a device takes this mode, or SAFE where a fault of a safe output demands it there: HOLD with a drive
request that was tested and found nothing against it takes DRIVE, and LIMP where a degradation cause stands; DRIVE or LIMP with a stop
cause takes BRAKE; DRIVE with a degradation cause alone takes LIMP; LIMP with an acknowledge and no cause takes DRIVE; BRAKE whose axes
are all OFF, READY or HALT, entered before, takes HOLD; and in HOLD without a request, and in DRIVE without a cause, the mode stays. BRAKE_TMO at
the end of the BRAKE timeout notes it, halts every auxiliary axis that homes, runs or stops, with reason 0x0A0B, and gives every main axis that is not in OFF, READY or HALT that reason
and its reaction of class TIMEOUT: HALT, or an ASC of cause 2. -/
def Obligations.BoundaryChangesMode : Prop :=
  ∀ (s : State) (dt : Nat), s.running = true →
    (s.tbAt dt % s.period = 0 → s.tick.began < s.tbAt dt → ∃ t, exec (.outerTickBoundary dt) s = .next t ∧
      (∀ d, s.mode.mode = .hold → s.mode.drivePending = some d → d.tested = true →
        t.mode.mode = (if s.degr = 0 then .drive else .limp) ∨ t.mode.mode = .safe) ∧
      (s.mode.mode = .hold → s.mode.drivePending = none → t.mode.mode = .hold ∨ t.mode.mode = .safe) ∧
      (s.mode.mode = .drive → s.mode.stop ≠ 0 → t.mode.mode = .brake ∨ t.mode.mode = .safe) ∧
      (s.mode.mode = .limp → s.mode.stop ≠ 0 → t.mode.mode = .brake ∨ t.mode.mode = .safe) ∧
      (s.mode.mode = .drive → s.mode.stop = 0 → t.mode.mode = (if s.degr = 0 then .drive else .limp) ∨ t.mode.mode = .safe) ∧
      (s.mode.mode = .limp → s.mode.stop = 0 → s.degr = 0 → s.mode.limpAck.isSome = true →
        t.mode.mode = .drive ∨ t.mode.mode = .safe) ∧
      (s.mode.mode = .brake → s.mode.brakeAt < s.tbAt dt → s.allQuiet = true → t.mode.mode = .hold ∨ t.mode.mode = .safe)) ∧
    (s.mode.mode = .brake → s.mode.brakeTmo = false → s.mode.brakeAt + s.regs.DEV_MODE_CFG_BRAKE_TMO * 1000000000 ≤ s.tbAt dt →
      ∃ t, exec (.brakeTmo dt) s = .next t ∧ t.mode.brakeTmo = true ∧ t.mode.mode = .brake ∧
        (∀ x : Fin 4, (s.aux[x].state = .homing ∨ s.aux[x].state = .run ∨ s.aux[x].state = .stop) →
          t.aux[x].state = .halt ∧ t.aux[x].haltReason = 0x0A0B) ∧
        (∀ n : Fin 6, s.regs.wf = true → s.axAlloc n = true → s.ax[n].state.quiet = false → t.ax[n].haltReason = 0x0A0B ∧
          (s.reaction n .timeout = 0 → absR s.ax[n].eng.speed < s.nAsc n → t.ax[n].state = .halt) ∧
          (s.reaction n .timeout ≠ 2 → s.ascBarred n = true → t.ax[n].state = .halt) ∧
          (s.reaction n .timeout = 1 → s.ascBarred n = false → t.ax[n].state = .asc ∧ t.ax[n].ascSt.cause = 2)) ∧
        (∀ n : Fin 6, s.axAlloc n = false ∨ s.ax[n].state.quiet = true → t.ax[n] = s.ax[n]))

/-- HS_UV_SET of a leg in direct mode whose comparator is clear sets it and notes the instant; a switching axis that has no refresh insertion begins it
with a fresh count; a main axis shorted on its high side turns off and goes to the low side a dead time later; a leg that is set already, is in link mode, is
under this very test, or has no pump that runs stays as it is. BST_REFRESH_END, 1 s after a comparator last set
and with none set, ends refresh insertion with its record. BST_UV on eight counted periods halts an axis that moves, with reason 0x0603, or takes a main axis
whose bridge reaction is ASC into ASC on the low side, and stops one in RUN whose reaction is the ramp stop. HS_SUPPLY_READY clears the comparators of an axis; where
a start waits and nothing else holds it a main axis starts with CATCH and an auxiliary axis runs or homes. BST_START_TIMEOUT, 50 ms after the start began to wait, halts the axis with reason 0x0603 and its record. -/
def Obligations.HighSideSupplies : Prop :=
  ∀ (s : State) (dt : Nat) (a : Fin 10),
    (∀ (leg : Fin 4) (mv : Nat), s.alloc10 a = false ∨ s.link10 a = true ∨ s.pumps = false ∨ legs10 a ≤ leg.val ∨
        s.gd.ax[a].hsUv.getLsbD leg.val = true ∨ s.testNow = some (a.val, .hsUv leg) →
      ∃ t, exec (.hsUvSet dt a leg mv) s = .next t ∧ t.but s = s.advance dt) ∧
    (∀ (leg : Fin 4) (mv : Nat), s.running = true → s.alloc10 a = true → s.link10 a = false → s.pumps = true → leg.val < legs10 a →
      s.gd.ax[a].hsUv.getLsbD leg.val = false → s.testNow ≠ some (a.val, .hsUv leg) → ∃ t, exec (.hsUvSet dt a leg mv) s = .next t ∧
        t.but s = { s.advance dt with gd := t.gd, ax := t.ax, recs := t.recs } ∧
        t.gd.ax[a].hsUv = s.gd.ax[a].hsUv ||| BitVec.ofNat 4 (2 ^ leg.val) ∧ t.gd.ax[a].uvClear = s.tbAt dt ∧
        (s.switching10 a = true → s.gd.ax[a].refresh = false → t.gd.ax[a].refresh = true ∧ t.gd.ax[a].uvCnt = 0) ∧
        (s.switching10 a = false → t.gd.ax[a].refresh = s.gd.ax[a].refresh) ∧
        (∀ n, mainOf a = some n → s.ax[n].state = .asc → s.ax[n].bridge = .ascHigh →
          t.ax[n].bridge = .ascWait ∧ t.ax[n].ascSt.high = false ∧ t.ax[n].ascSt.offAt = s.tbAt dt ∧
          t.ax[n].ascSt.onAt = s.tbAt dt + s.deadNs n ∧ t.ax[n].ascSt.side = some mv) ∧
        (∀ n, mainOf a = some n → s.ax[n].state ≠ .asc ∨ s.ax[n].bridge ≠ .ascHigh → t.ax = s.ax)) ∧
    (∀ mv : Nat, s.running = true → s.gd.ax[a].refresh = true → s.gd.ax[a].hsUv = 0 → s.gd.ax[a].uvClear + 1000000000 ≤ s.tbAt dt →
      ∃ t, exec (.bstRefreshEnd dt a mv) s = .next t ∧
        t.but s = { s.advance dt with
          gd := { s.gd with ax := vset s.gd.ax a (fun g => { g with refresh := false, uvCnt := 0 }) }, recs := t.recs } ∧
        Wrote s t [evtOf (s.tbAt dt) (Unit.axis a) 0x0602 0 (min s.gd.ax[a].hsMv mv)]) ∧
    (∀ mv : Nat, s.running = true → s.gd.ax[a].refresh = true → 8 ≤ s.gd.ax[a].uvCnt → s.moving10 a = true → ∃ t, exec (.bstUv dt a mv) s = .next t ∧
      (∀ n, mainOf a = some n → s.reaction n .bridge = 0 → absR s.ax[n].eng.speed < s.nAsc n →
        t.ax[n].state = .halt ∧ t.ax[n].haltReason = 0x0603) ∧
      (∀ n, mainOf a = some n → s.reaction n .bridge ≠ 2 → s.ascBarred n = true → t.ax[n].state = .halt ∧ t.ax[n].haltReason = 0x0603) ∧
      (∀ n, mainOf a = some n → s.reaction n .bridge = 2 → s.ax[n].state = .run →
        t.ax[n].state = .stop ∧ t.ax[n].stopKind = .fault 0x0603 false) ∧
      (∀ n, mainOf a = some n → s.reaction n .bridge = 1 → s.ascBarred n = false → s.ax[n].state ≠ .asc →
        t.ax[n].state = .asc ∧ t.ax[n].ascSt.high = false ∧ t.ax[n].haltReason = 0x0603) ∧
      (mainOf a = none → t.aux[auxOf a].state = .halt ∧ t.aux[auxOf a].haltReason = 0x0603)) ∧
    (s.running = true → s.alloc10 a = true → s.pumps = true →
      (s.startWait10 a = none ∨ s.driving = false ∨ s.testPending a = true ∨ s.gd.ov = true →
        ∃ t, exec (.hsSupplyReady dt a) s = .next t ∧
          t.but s = { s.advance dt with gd := { s.gd with ax := vset s.gd.ax a (fun g => { g with hsUv := 0 }) } }) ∧
      ((s.startWait10 a).isSome = true → s.driving = true → s.testPending a = false → s.gd.ov = false →
        (∀ n, mainOf a = some n → ∃ t, exec (.hsSupplyReady dt a) s = .next t ∧
          t.but s = { s.advance dt with gd := t.gd, snt := t.snt, sns := t.sns, ax := t.ax } ∧
          t.gd.ax[a].hsUv = 0 ∧ t.ax[n].state = .catching ∧ t.ax[n].cat.attempt = 1 ∧ t.ax[n].startWait = none) ∧
        (mainOf a = none → ∃ t, exec (.hsSupplyReady dt a) s = .next t ∧
          t.but s = { s.advance dt with gd := t.gd, snt := t.snt, aux := t.aux } ∧ t.gd.ax[a].hsUv = 0 ∧
          t.aux[auxOf a].state = (if s.aux[auxOf a].mode = 3 then .homing else .run) ∧ t.aux[auxOf a].energised = true ∧
          t.aux[auxOf a].startWait = none))) ∧
    (∀ (low : BitVec 4) (mv since : Nat), s.running = true → s.startWait10 a = some since → since + 50000000 ≤ s.tbAt dt → low ≠ 0 → s.link10 a = false →
      ∃ t, exec (.bstStartTimeout dt a low mv) s = .next t ∧
        (∀ n, mainOf a = some n → t.ax[n].state = .halt ∧ t.ax[n].haltReason = 0x0603) ∧
        (mainOf a = none → t.aux[auxOf a].state = .halt ∧ t.aux[auxOf a].haltReason = 0x0603))

/-- On an axis that is allocated, with its protection latch clear, that no short circuit after a trip holds and with no self-test under way: DESAT_TRIP of a leg in direct mode of a bridge
that conducts on the side named, past its blanking, FAST_COMPARATOR_TRIP, and a LINK_FAULT_RETURN that goes low on a leg in link mode, set the fault bit that tripped, the latch and the instant; a bridge that moves
current begins its soft turn-off, in link mode it is off at once; the axis is in HALT with reason 0x0601. In FREEZE a DESAT_TRIP turns the bridge off softly and sets the latch, and the state of the axis stands. SOFT_TURN_OFF_END, 2.0 µs on, ends the soft sink, in
FREEZE too: the bridge is off, and the input of the fast comparator is as it was. SHORT_ASC_ENTRY at its instant takes an axis in HALT into ASC of cause 2 on the side of the tripped switch, with its reason kept, and
where ASC is barred the axis stays. No half-bridge ever has both switches commanded. ASC_SWITCH_ON after the dead time, and 20 ns after the turn-off (R136), turns one side on: the high side only in
link mode, after a trip, or with its supplies up; the first writes ASC_ENTER, a change of side ASC_SIDE with its cause. -/
def Obligations.ShortCircuitProtection : Prop :=
  ∀ (s : State) (dt : Nat),
    (∀ (a : Fin 10) (c : Instr), s.running = true → s.alloc10 a = true → s.gd.ax[a].latched = false → s.gd.test.busy = false →
      (∀ n, mainOf a = some n → s.ax[n].state = .asc → s.ax[n].ascSt.follow = false) →
      ((∃ leg high, c = .desatTrip dt a leg high ∧ s.link10 a = false ∧ leg.val < legs10 a ∧ (s.advance dt).desatActs a leg high = true) ∨
        (∃ n, a = axis10 n ∧ c = .fastComparatorTrip dt n) ∨
        (∃ leg, c = .linkFaultReturn dt a leg true ∧ leg.val < legs10 a ∧ s.gd.ax[a].linkLow.getLsbD leg.val = false ∧ s.link10 a = true)) →
      ∃ t, exec c s = .next t ∧ t.gd.ax[a].latched = true ∧ t.gd.ax[a].tripAt = s.tbAt dt ∧
        (∀ leg high, c = .desatTrip dt a leg high → t.gd.ax[a].desat = s.gd.ax[a].desat ||| BitVec.ofNat 4 (2 ^ leg.val)) ∧
        (∀ n, c = .fastComparatorTrip dt n → t.gd.ax[a].fast = true) ∧
        (∀ leg, c = .linkFaultReturn dt a leg true → t.gd.ax[a].link = s.gd.ax[a].link ||| BitVec.ofNat 4 (2 ^ leg.val)) ∧
        (s.moving10 a = true → s.link10 a = false → t.gd.ax[a].softAt = some (s.tbAt dt)) ∧
        (∀ n, mainOf a = some n → t.ax[n].state = .halt ∧ t.ax[n].haltReason = 0x0601 ∧
          (s.moving10 a = true → s.link10 a = true → t.ax[n].bridge = .off)) ∧
        (mainOf a = none → t.aux[auxOf a].state = .halt ∧ t.aux[auxOf a].haltReason = 0x0601)) ∧
    (∀ (n : Fin 6) (leg : Fin 4) (high : Bool), s.pwr.phase = .running → s.mode.mode = .freeze → s.axAlloc n = true → s.link10 (axis10 n) = false →
      leg.val < 3 → s.gd.ax[axis10 n].latched = false → (s.advance dt).desatActs (axis10 n) leg high = true →
      ∃ t, exec (.desatTrip dt (axis10 n) leg high) s = .next t ∧ t.but s = { s.advance dt with gd := t.gd, ax := t.ax } ∧
        t.gd.ax[axis10 n].latched = true ∧ t.gd.ax[axis10 n].softAt = some (s.advance dt).gdTime ∧
        t.ax[n] = { s.ax[n] with bridge := if s.ax[n].bridge = .off then .off else .soft }) ∧
    (∀ (a : Fin 10) (since : Nat), s.gd.ax[a].softAt = some since → since + 2000 ≤ (s.advance dt).gdTime → ∃ t, exec (.softTurnOffEnd dt a) s = .next t ∧
      t.but s = { s.advance dt with gd := t.gd, ax := t.ax, aux := t.aux, recs := t.recs } ∧
      t.gd.ax[a].softAt = none ∧ t.gd.ax[a].fastHigh = s.gd.ax[a].fastHigh ∧
      (∀ n, mainOf a = some n → t.ax[n] = { s.ax[n] with bridge := if s.ax[n].bridge = .soft then .off else s.ax[n].bridge }) ∧
      (mainOf a = none → t.aux[auxOf a] = { s.aux[auxOf a] with soft := false })) ∧
    (∀ (n : Fin 6) (at' : Nat) (high : Bool) (coast : Option Rat), s.running = true → s.gd.ax[axis10 n].ascDue = some (at', high, coast) →
      at' ≤ s.tbAt dt →
      ((s.gd.uv || s.gd.ov || !s.gd.swClosed || s.gd.blocked) = false → s.ax[n].state = .halt →
        ∃ t, exec (.shortAscEntry dt n) s = .next t ∧ t.ax[n].state = .asc ∧ t.ax[n].bridge = .ascWait ∧
          t.ax[n].haltReason = s.ax[n].haltReason ∧ t.ax[n].ascSt.cause = 2 ∧ t.ax[n].ascSt.high = high ∧ t.ax[n].ascSt.follow = true) ∧
      ((s.gd.uv || s.gd.ov || !s.gd.swClosed || s.gd.blocked) = true ∨ s.ax[n].state ≠ .halt →
        ∃ t, exec (.shortAscEntry dt n) s = .next t ∧ t.but s = { s.advance dt with gd := t.gd, recs := t.recs })) ∧
    (∀ h : Nat, ((s.hbCmd h).1 && (s.hbCmd h).2) = false) ∧
    (∀ (n : Fin 6) (lowest : Nat), s.running = true → s.ax[n].state = .asc → s.ax[n].bridge = .ascWait → s.ax[n].ascSt.onAt ≤ s.tbAt dt →
      s.ax[n].ascSt.offAt + 20 ≤ s.tbAt dt →
      ∃ t, exec (.ascSwitchOn dt n lowest) s = .next t ∧ t.but s = { s.advance dt with gd := { s.gd with ax := t.gd.ax }, ax := t.ax, recs := t.recs } ∧
        (∀ a : Fin 10, t.gd.ax[a] = { s.gd.ax[a] with lowRan := t.gd.ax[a].lowRan }) ∧
        t.ax[n].ascSt.first = some (s.ax[n].ascSt.first.getD (s.tbAt dt)) ∧
        (s.ax[n].ascSt.high = true → s.axLink n = true ∨ s.ax[n].ascSt.follow = true ∨ (9000 ≤ lowest ∧ s.hsReady (axis10 n) = true) →
          t.ax[n].bridge = .ascHigh) ∧
        (s.ax[n].ascSt.high = true → s.axLink n = false → s.ax[n].ascSt.follow = false → lowest < 9000 ∨ s.hsReady (axis10 n) = false →
          t.ax[n].bridge = .ascLow ∧ t.ax[n].ascSt.high = false) ∧
        (s.ax[n].ascSt.high = false → t.ax[n].bridge = .ascLow ∧
          (s.ax[n].ascSt.first = none → s.ax[n].ascSt.coast = none → s.ax[n].ascSt.side = none →
            Wrote s t [evtOf (s.tbAt dt) (Unit.ax n) 0x0807 s.ax[n].ascSt.cause (rpm10 (s.nAsc n))]) ∧
          (∀ mv, s.ax[n].ascSt.first.isSome = true → s.ax[n].ascSt.coast = none → s.ax[n].ascSt.side = some mv →
            Wrote s t [evtOf (s.tbAt dt) (Unit.ax n) 0x0606 1 mv])))

/-- VDRV_UV and VDRV_OV in a device that runs, with no self-test under way, set their monitor, open every chopper leg and halt every axis that
moves current with the code of the monitor as its reason. VDRV_MONITOR_CLEAR with no automatic self-test due clears the monitor alone. CHOPPER_FAULT of a
mapped leg whose detector acts latches it off and, the first time, writes CHOPPER_FAULT. SELFTEST_START that is not refused opens a request of the targets named; one that is
refused keeps its reason and answers STATE with it. SELFTEST_TEST_DONE counts a test off its target and notes a failure; after the
last test of a target the next target named is under test. The monitors of the high-side supplies of an auxiliary axis in direct mode: HS_UV_SET sets the comparator, BST_UV after eight periods halts the axis,
BST_REFRESH_END after 1 s without one ends the insertion, HS_SUPPLY_READY clears them, and BST_START_TIMEOUT after 50 ms halts the axis. -/
def Obligations.MonitorsChoppersSelfTest : Prop :=
  ∀ (s : State) (dt : Nat),
    (∀ (x : Fin 4) (mv : Nat), s.running = true → s.auxAlloc x = true → s.link10 (aux10 x) = false →
      (∀ leg : Fin 4, s.gd.test.busy = false → s.pumps = true → s.gd.ax[aux10 x].hsUv.getLsbD leg.val = false → ∃ t, exec (.hsUvSet dt (aux10 x) leg mv) s = .next t ∧
        t.gd.ax[aux10 x].hsUv = s.gd.ax[aux10 x].hsUv ||| BitVec.ofNat 4 (2 ^ leg.val) ∧ t.ax = s.ax ∧ t.aux = s.aux) ∧
      (s.gd.ax[aux10 x].refresh = true → 8 ≤ s.gd.ax[aux10 x].uvCnt → s.aux[x].state.watched = true → ∃ t, exec (.bstUv dt (aux10 x) mv) s = .next t ∧
        t.aux[x].state = .halt ∧ t.aux[x].haltReason = 0x0603 ∧ t.ax = s.ax) ∧
      (s.gd.ax[aux10 x].refresh = true → s.gd.ax[aux10 x].hsUv = 0 → s.gd.ax[aux10 x].uvClear + 1000000000 ≤ s.tbAt dt →
        ∃ t, exec (.bstRefreshEnd dt (aux10 x) mv) s = .next t ∧ t.gd.ax[aux10 x].refresh = false ∧ t.gd.ax[aux10 x].uvCnt = 0 ∧ t.ax = s.ax ∧ t.aux = s.aux) ∧
      (s.pumps = true → ∃ t, exec (.hsSupplyReady dt (aux10 x)) s = .next t ∧ t.gd.ax[aux10 x].hsUv = 0 ∧ t.ax = s.ax) ∧
      (∀ (low : BitVec 4) (since : Nat), s.aux[x].startWait = some since → since + 50000000 ≤ s.tbAt dt → low ≠ 0 →
        ∃ t, exec (.bstStartTimeout dt (aux10 x) low mv) s = .next t ∧ t.aux[x].state = .halt ∧ t.aux[x].haltReason = 0x0603 ∧
        t.gd.ax[aux10 x].hsUv = low ∧ t.ax = s.ax)) ∧
    (∀ (ov : Bool) (mv : Nat), s.running = true → s.gd.test.busy = false → (if ov then s.gd.ov else s.gd.uv) = false →
      ∃ t, exec (if ov then .vdrvOv dt mv else .vdrvUv dt mv) s = .next t ∧
        (if ov then t.gd.ov else t.gd.uv) = true ∧ (∀ c : Fin 4, t.gd.chop[c].on = false) ∧
        (∀ n : Fin 6, s.ax[n].state.watched = true → t.ax[n].state = .halt ∧ t.ax[n].haltReason = if ov then 0x0605 else 0x0604) ∧
        (∀ n : Fin 6, s.ax[n].state.watched = false → t.ax[n] = s.ax[n]) ∧
        (∀ x : Fin 4, s.aux[x].state.watched = true → t.aux[x].state = .halt ∧ t.aux[x].haltReason = if ov then 0x0605 else 0x0604) ∧
        (∀ x : Fin 4, s.aux[x].state.watched = false → t.aux[x] = s.aux[x])) ∧
    (∀ mv : Nat, ∃ t, exec (.vdrvUv dt mv) { s with gd := { s.gd with uv := true } } = .next t ∧
      t.but s = { s.advance dt with gd := { s.gd with uv := true } }) ∧
    (∀ mv : Nat, ∃ t, exec (.vdrvOv dt mv) { s with gd := { s.gd with ov := true } } = .next t ∧
      t.but s = { s.advance dt with gd := { s.gd with ov := true } }) ∧
    (∀ ov : Bool, s.gd.test.autoDue = false → ∃ t, exec (.vdrvMonitorClear dt ov) s = .next t ∧
      t.but s = { s.advance dt with gd := if ov then { s.gd with ov := false } else { s.gd with uv := false } }) ∧
    (∀ c : Fin 4, s.running = true → s.regs.GD_CHPn_MAP_EN c = true → s.gd.test.busy = false → (s.advance dt).chopActs c = true → ∃ t, exec (.chopperFault dt c) s = .next t ∧
      t.but s = { s.advance dt with
        gd := { s.gd with chop := vset s.gd.chop c (fun x => { x with
          fault := true, on := false, edgeAt := if x.on then s.tbAt dt else x.edgeAt
          softAt := if x.on && !s.chopLink c then some (s.tbAt dt) else x.softAt }) }, recs := t.recs } ∧
      (s.gd.chop[c].fault = true → Wrote s t []) ∧
      (s.gd.chop[c].fault = false → ∃ v, Wrote s t [evtOf (s.tbAt dt) Unit.gd 0x0608 c v])) ∧
    (∀ (o : Origin) (w : Word) (m : BitVec 14), s.writes o = true → s.may true o = true →
      m = BitVec.ofNat 14 (fld w 0 6 + fld w 8 4 * 64 + fld w 16 4 * 1024) → m ≠ 0 →
      ((s.advance dt).testRefuse m = 0 → ∃ t, exec (.selftestStart dt o w) s = .next t ∧
        t.gd.test.busy = true ∧ t.gd.test.targets = m ∧ t.gd.test.failed = 0 ∧ t.gd.test.aborted = 0 ∧
        t.but s = { s.advance dt with gd := t.gd, freeIx := s.freeIx + 14, cp := (s.advance dt).cpWrote o }) ∧
      (∀ r, (s.advance dt).testRefuse m = r → r ≠ 0 → ∃ t, exec (.selftestStart dt o w) s = .next t ∧
        t.but s = { s.advance dt with
          gd := { s.gd with test := { s.gd.test with refuse := r } }, freeIx := s.freeIx + 14, cp := t.cp, recs := t.recs } ∧
        Refused s t dt o 2 St.state r)) ∧
    (∀ pass : Bool, s.running = true → s.gd.test.busy = true →
      (1 < s.gd.test.left → ∃ t, exec (.selftestTestDone dt pass) s = .next t ∧
        t.but s = { s.advance dt with gd := { s.gd with test := { s.gd.test with
          left := s.gd.test.left - 1
          failed := if pass && !s.testLow then s.gd.test.failed else s.gd.test.failed ||| BitVec.ofNat 14 (2 ^ s.gd.test.current) } } }) ∧
      (∀ i, s.gd.test.left ≤ 1 → nextTarget s.gd.test.targets (s.gd.test.current + 1) = some i →
        ∃ t, exec (.selftestTestDone dt pass) s = .next t ∧
          t.gd.test = { s.gd.test with
            current := i, left := s.testCount i
            failed := if pass && !s.testLow then s.gd.test.failed else s.gd.test.failed ||| BitVec.ofNat 14 (2 ^ s.gd.test.current) }))

/-- FAST_FILTER_OUTPUT and SDI_STUCK act at a sampling edge of the channel, and else not. FAST_FILTER_OUTPUT of an enabled channel scales the output, compares its magnitude with
the limit, and counts it or begins anew. PHASE_OC of FAST_N
counted outputs of a phase channel with no fault faults the axis with code 0x0703, of class OC. SDI_STUCK marks a channel stuck since that edge with its record, and
declares a phase channel of an axis that has none declared; where one is declared already, its second of clean running begins anew. SDI_STUCK_CLEAR, 1 s on, clears the mark and nothing else. ZERO_MEASUREMENT_END with the bridge off and no diode that
conducts accepts an average within
5 % of the scale for the next start, and refuses a larger one with its record; that of a sensor declared faulty then begins its second of clean running anew. SDI_FAULT of each cause declares the channel of an axis that has none declared: the phase's
bit, with the checks of its return begun afresh; with no update begun nothing else changes. -/
def Obligations.SigmaDeltaChannels : Prop :=
  ∀ (s : State) (dt : Nat) (c : Fin 32),
    (∀ (y : Rat) (level : Bool), (s.advance dt).sdiEdge c = none → (∃ t, exec (.fastFilterOutput dt c y) s = .next t ∧ t.but s = s.advance dt) ∧
      ∃ t, exec (.sdiStuck dt c level) s = .next t ∧ t.but s = s.advance dt) ∧
    (∀ (y : Rat) (e : Nat), s.running = true → s.regs.SNS_SDIc_CFG_EN c = true → (s.advance dt).sdiEdge c = some e →
      ∃ t, exec (.fastFilterOutput dt c y) s = .next t ∧
      t.but s = { s.advance dt with sns := { s.sns with sdi := vset s.sns.sdi c (fun d => { d with
        fastLast := s.regs.SNS_SDIc_SCALE c * y - s.sns.sdi[c].zero
        fastCnt := if s.regs.SNS_SDIc_FAST_LIM c < absR (s.regs.SNS_SDIc_SCALE c * y - s.sns.sdi[c].zero) then d.fastCnt + 1 else 0
        oc := decide (s.regs.SNS_SDIc_FAST_LIM c < absR (s.regs.SNS_SDIc_SCALE c * y - s.sns.sdi[c].zero) ∧
          s.regs.SNS_SDIc_CFG_FAST_N c ≤ d.fastCnt)
        ocAt := if s.regs.SNS_SDIc_FAST_LIM c < absR (s.regs.SNS_SDIc_SCALE c * y - s.sns.sdi[c].zero) ∧
          d.fastCnt = s.regs.SNS_SDIc_CFG_FAST_N c then e else d.ocAt }) } }) ∧
    (∀ (n : Fin 6) (p : Fin 3), s.phaseOf c = some (n, p) → s.running = true → s.axAlloc n = true → s.ax[n].state ≠ .halt →
      s.regs.SNS_SDIc_CFG_FAST_N c + 1 ≤ s.sns.sdi[c].fastCnt → s.sns.ax[n].fSdi.getLsbD p.val = false → s.sns.ax[n].fbSdi.getLsbD p.val = false →
      ∃ t, exec (.phaseOc dt c) s = .next t ∧ Faulted s t n 0x0703 .oc ∧ t.sns.sdi[c].fastCnt = 0) ∧
    (∀ (level : Bool) (e : Nat), s.running = true → s.regs.SNS_SDIc_CFG_EN c = true → (s.advance dt).sdiEdge c = some e →
      (∃ t, exec (.sdiStuck dt c level) s = .next t ∧ t.sns.sdi[c].stuck = true ∧ t.sns.sdi[c].stuckAt = e) ∧
      (∀ (n : Fin 6) (p : Fin 3), s.phaseOf c = some (n, p) → s.sns.ax[n].fSdi = 0 → ∃ t, exec (.sdiStuck dt c level) s = .next t ∧
        t.sns.ax[n].fSdi = BitVec.ofNat 3 (2 ^ p.val) ∧ t.sns.ax[n].fbSdi = BitVec.ofNat 3 (2 ^ p.val) ∧
        Wrote s t [evtOf e Unit.sns 0x0701 c (b2n level), evtOf e (Unit.ax n) 0x0704 (p.val + 2 * 256) (milli s.sns.ax[n].maxDis)]) ∧
      (s.phaseOf c = none → ∃ t, exec (.sdiStuck dt c level) s = .next t ∧
        t.but s = { s.advance dt with
          sns := { s.sns with sdi := vset s.sns.sdi c (fun d => { d with stuck := true, stuckAt := e, stuckLevel := level, runEnd := none }) }
          recs := t.recs } ∧
        Wrote s t [evtOf e Unit.sns 0x0701 c (b2n level)]) ∧
      (∀ (n : Fin 6) (p : Fin 3), s.phaseOf c = some (n, p) → s.sns.ax[n].fSdi ≠ 0 → ∃ t, exec (.sdiStuck dt c level) s = .next t ∧
        t.but s = { s.advance dt with
          sns := { s.sns with
            sdi := vset s.sns.sdi c (fun d => { d with stuck := true, stuckAt := e, stuckLevel := level, runEnd := none })
            ax := vset s.sns.ax n (fun q => q.unclean 0 (s.tbAt dt)) }
          recs := t.recs } ∧
        Wrote s t [evtOf e Unit.sns 0x0701 c (b2n level)])) ∧
    (s.running = true → s.sns.sdi[c].stuckAt + 1000000000 ≤ s.tbAt dt → ∃ t, exec (.sdiStuckClear dt c) s = .next t ∧
      t.but s = { s.advance dt with sns := { s.sns with sdi := vset s.sns.sdi c (fun d => { d with stuck := false }) } }) ∧
    (∀ (n : Fin 6) (p : Fin 3) (avg : Rat), s.phaseOf c = some (n, p) → s.running = true → s.bridgeOff n = true →
      (absR avg ≤ s.regs.SNS_SDIc_SCALE c / 20 → ∃ t, exec (.zeroMeasurementEnd dt (.sdi c) avg) s = .next t ∧
        t.but s = { s.advance dt with sns := { s.sns with sdi := vset s.sns.sdi c (fun d => { d with zeroFail := false, zeroNext := some avg }) } }) ∧
      (s.regs.SNS_SDIc_SCALE c / 20 < absR avg → s.sns.ax[n].fSdi ≠ 0 → ∃ t, exec (.zeroMeasurementEnd dt (.sdi c) avg) s = .next t ∧
        t.but s = { s.advance dt with
          sns := { s.sns with
            sdi := vset s.sns.sdi c (fun d => { d with zeroFail := true }), ax := vset s.sns.ax n (fun q => q.unclean 0 (s.tbAt dt)) }
          recs := t.recs } ∧
        Wrote s t [evtOf (s.tbAt dt) Unit.sns 0x0702 c (milli avg)])) ∧
    (∀ (n : Fin 6) (avg : Rat), s.running = true → s.axAlloc n = true → s.bridgeOff n = true →
      (absR avg ≤ s.regs.SNS_DCSn_SCALE n * 3 / 2 / 20 → ∃ t, exec (.zeroMeasurementEnd dt (.dcs n) avg) s = .next t ∧
        t.but s = { s.advance dt with sns := { s.sns with ax := vset s.sns.ax n (fun q => { q with dcsZeroFail := false, dcsZeroNext := some avg }) } }) ∧
      (s.regs.SNS_DCSn_SCALE n * 3 / 2 / 20 < absR avg → s.sns.ax[n].fDcs = true → ∃ t, exec (.zeroMeasurementEnd dt (.dcs n) avg) s = .next t ∧
        t.but s = { s.advance dt with sns := { s.sns with ax := vset s.sns.ax n (fun q => { q.unclean 1 (s.tbAt dt) with dcsZeroFail := true }) }, recs := t.recs } ∧
        Wrote s t [evtOf (s.tbAt dt) Unit.sns 0x0702 (n.val + 256) (milli avg)])) ∧
    (∀ (n : Fin 6) (p : Fin 3) (k : Fin 4), s.running = true → s.sns.ax[n].fSdi = 0 →
      (k = 1 ∧ s.sns.ax[n].verdict = .sdi p ∧ s.regs.SNS_AXn_XCHK_CFG_N n ≤ s.sns.ax[n].vcnt) ∨
        (k = 2 ∧ ∃ ch, s.sdiOf n p = some ch ∧ s.sns.sdi[ch].stuck = true) ∨ (k = 3 ∧ ∃ ch, s.sdiOf n p = some ch ∧ s.sns.sdi[ch].zeroFail = true) →
      (∃ t, exec (.sdiFault dt n p k) s = .next t ∧ t.sns.ax[n].fSdi = BitVec.ofNat 3 (2 ^ p.val) ∧
        t.sns.ax[n].fbSdi = BitVec.ofNat 3 (2 ^ p.val) ∧ t.sns.ax[n].limpNext = true) ∧
      ((s.advance dt).runOf n = none → ∃ t, exec (.sdiFault dt n p k) s = .next t ∧
        t.but s = { s.advance dt with
          sns := { s.sns with ax := vset s.sns.ax n (fun q => { q.faulted 0 (s.tbAt dt) with
            fSdi := BitVec.ofNat 3 (2 ^ p.val), fbSdi := BitVec.ofNat 3 (2 ^ p.val), fbCnt := 0, sdiAt := t.sns.ax[n].sdiAt, undo := t.sns.ax[n].undo }) }
          recs := t.recs, ax := t.ax }))

/-- DCS_HOLD on a window of the set in force holds it. DCS_CONVERSION_DONE of a code inside the range within 1 µs adds the scaled sample to those of the update and clears
the run of rejects; at an end of the range, or late, the conversion is rejected, as DCS_CONVERSION_TIMEOUT does. DCS_FAULT of each cause declares the return path. SENSE_LOST
faults a moving axis with code 0x0706, of class SENSOR, and an axis in any state where an SDI channel is declared in DC-link return fallback; of one that PHASE_OC has halted it is the record alone. PRED_LIMIT past PRED_MAX is recorded once. SENSOR_BACK after 1,000 agreeing
updates and 1 s clears the degradation with its record, and leaves the fallback in use. -/
def Obligations.DcLinkReturnAndItsFaults : Prop :=
  ∀ (s : State) (dt : Nat) (n : Fin 6),
    (∀ (w : Rat) (p : Fin 3) (plus : Bool) (pre post : List Window), s.running = true → s.ax[n].bridge = .modulate → s.sns.ax[n].hold = none →
      s.ax[n].set.windows = pre ++ some (w, p, plus) :: post → (∀ x ∈ pre, ∀ y, x = some y → (s.ax[n].setAt + s.placed n y.1) / 2 ≠ s.tbAt dt / 2) →
      (s.ax[n].setAt + s.placed n w) / 2 = s.tbAt dt / 2 → ∃ t, exec (.dcsHold dt n) s = .next t ∧
        t.but s = { s.advance dt with
          sns := { s.sns with ax := vset s.sns.ax n (fun q => { q with hold := some (s.ax[n].setAt + s.placed n w, p, plus) }) } }) ∧
    (∀ (at' : Nat) (p : Fin 3) (plus : Bool) (code : BitVec 12) (volts : Rat), s.running = true → s.sns.ax[n].hold = some (at', p, plus) →
      (code ≠ 0 → code ≠ 4095 → s.tbAt dt < at' + 1000 → ∃ t, exec (.dcsConversionDone dt n code volts) s = .next t ∧
        t.but s = { s.advance dt with sns := { s.sns with ax := vset s.sns.ax n (fun q => { q with
          hold := none, rejects := 0, dcsConvFail := false
          dcsVal := s.regs.SNS_DCSn_SCALE n * (volts - s.regs.SNS_DCSn_OFFS n) - q.dcsZero
          samples := q.samples ++ [⟨p, plus, s.regs.SNS_DCSn_SCALE n * (volts - s.regs.SNS_DCSn_OFFS n) - q.dcsZero, at'⟩] }) } }) ∧
      (code = 0 ∨ code = 4095 ∨ at' + 1000 ≤ s.tbAt dt → ∃ t, exec (.dcsConversionDone dt n code volts) s = .next t ∧
        t.but s = { s.advance dt with sns := { s.sns with ax := vset s.sns.ax n (fun q => { q with
          hold := none, rejects := q.rejects + 1, rejectAt := q.rejectAt ++ [at'], dcsConvFail := true }) } }) ∧
      (at' + 1000 ≤ s.tbAt dt → ∃ t, exec (.dcsConversionTimeout dt n) s = .next t ∧
        t.but s = { s.advance dt with sns := { s.sns with ax := vset s.sns.ax n (fun q => { q with
          hold := none, rejects := q.rejects + 1, rejectAt := q.rejectAt ++ [at'], dcsConvFail := true }) } })) ∧
    (∀ k : Fin 4, s.running = true → s.sns.ax[n].fDcs = false →
      (k = 1 ∧ s.sns.ax[n].verdict = .dcs ∧ s.regs.SNS_AXn_XCHK_CFG_N n ≤ s.sns.ax[n].vcnt) ∨ (k = 2 ∧ 3 ≤ s.sns.ax[n].rejects) ∨
        (k = 3 ∧ s.sns.ax[n].dcsZeroFail = true) → ∃ t, exec (.dcsFault dt n k) s = .next t ∧
        t.but s = { s.advance dt with
          sns := { s.sns with ax := vset s.sns.ax n (fun q => { q.faulted 1 (s.tbAt dt) with
            fDcs := true, fbDcs := true, sumCnt := 0, undo := t.sns.ax[n].undo }) }
          recs := t.recs } ∧
        Wrote s t [evtOf (if k = 3 then s.tbAt dt else if k = 2 then (match (s.advance dt).updNow n with
          | some u => u.sample
          | none => s.sns.ax[n].at') else s.sns.ax[n].at') (Unit.ax n) 0x0705 k (milli s.sns.ax[n].maxDis)]) ∧
    (∀ k : Fin 5, s.running = true → s.senseCase n k = true → s.sns.ax[n].lostAt ≠ some s.sns.ax[n].at' →
      (s.ax[n].state.watched = true ∨ (k.val = 4 ∧ s.sns.ax[n].fSdi ≠ 0 ∧ s.ax[n].state ≠ .halt) → ∃ t, exec (.senseLost dt n k) s = .next t ∧ Faulted s t n 0x0706 .sensor) ∧
      (s.ax[n].state = .halt → s.ax[n].haltReason = 0x0703 → ∃ t, exec (.senseLost dt n k) s = .next t ∧
        t.but s = { s.advance dt with
          sns := { s.sns with ax := vset s.sns.ax n (fun q => { q with lostAt := some q.at' }) }, recs := t.recs } ∧
        Wrote s t [evtOf (if k.val = 4 ∧ s.sns.ax[n].fSdi ≠ 0 then s.sns.ax[n].sdiAt else s.sns.ax[n].at') (Unit.ax n) 0x0706 k
          (milli s.sns.ax[n].maxDis)])) ∧
    (s.running = true → s.regs.SNS_AXn_PRED_MAX n < s.sns.ax[n].predRun → s.sns.ax[n].predNoted = false → ∃ t, exec (.predLimit dt n) s = .next t ∧
      t.but s = { s.advance dt with sns := { s.sns with ax := vset s.sns.ax n (fun q => { q with predNoted := true }) }, recs := t.recs } ∧
      Wrote s t [evtOf s.sns.ax[n].at' (Unit.ax n) 0x0707 (s.regs.SNS_AXn_PRED_MAX n) 0]) ∧
    (s.running = true → s.sns.ax[n].fDcs = true → s.sns.ax[n].dcsZeroFail = false → 1000 ≤ s.sns.ax[n].agree[1] →
      s.sns.ax[n].clean[1] + 1000000000 ≤ s.tbAt dt → ∃ t, exec (.sensorBack dt n .dcs) s = .next t ∧
      t.but s = { s.advance dt with sns := { s.sns with ax := vset s.sns.ax n (fun q => { q with fDcs := false, rejects := 0 }) }, recs := t.recs } ∧
      Wrote s t [evtOf (s.tbAt dt) (Unit.ax n) 0x0709 2 0]) ∧
    (s.running = true → s.sns.ax[n].fEnc = true → 1000 ≤ s.sns.ax[n].agree[2] → s.sns.ax[n].clean[2] + 1000000000 ≤ s.tbAt dt →
      ∃ t, exec (.sensorBack dt n .enc) s = .next t ∧ t.sns.ax[n].fEnc = false ∧ t.sns.ax[n].fbEnc = s.sns.ax[n].fbEnc ∧
      t.sns.enc[s.encOf n].fault = false ∧ Wrote s t [evtOf (s.tbAt dt) (Unit.ax n) 0x0709 3 0])

/-- AIN_HOLD of the scan input whose turn it is, in a slot that no held input takes, or of a scheduled one at a multiple of its period, holds it. AIN_CONVERSION_DONE of the input whose turn it is gives its
scaled value, changes nothing else where no axis is allocated and no chopper leg may switch, and counts it in or out of range; a value inside the range becomes the latest valid one while RANGE is clear, and the fourth in a row clears RANGE. AIN_RANGE after four out of
range sets RANGE with the instant and the voltage of the fourth, and faults an axis whose DC-link input it is. The inputs of the SDI channels complete as well: FAST_FILTER_OUTPUT
at a sampling edge becomes the latest output, PHASE_OC takes the run of outputs, SDI_STUCK marks and SDI_STUCK_CLEAR unmarks, ZERO_MEASUREMENT_END of an average
within 5 % is kept for the next start, and SDI_FAULT of a verdict that has stood declares. -/
def Obligations.AnalogInputs : Prop :=
  ∀ (s : State) (dt : Nat) (c : Fin 32),
    (s.running = true → s.sns.ain[c].hold = none →
      (s.regs.SNS_AINc_CFG_CLASS c = 1 → s.ainHeld (ainConv c) = [] → s.ainNext (ainConv c) = some c → ∃ t, exec (.ainHold dt c) s = .next t ∧
        t.but s = { s.advance dt with sns := { s.sns with
          ain := vset s.sns.ain c (fun a => { a with hold := some (s.tbAt dt) }), scanLast := s.sns.scanLast.set (ainConv c) c.val } }) ∧
      (s.regs.SNS_AINc_CFG_CLASS c = 2 → 0 < nsOf (s.regs.SNS_AXn_VT_PER (s.regs.SNS_AINc_CFG_AXIS c)) →
        s.tbAt dt % nsOf (s.regs.SNS_AXn_VT_PER (s.regs.SNS_AINc_CFG_AXIS c)) = 0 → ∃ t, exec (.ainHold dt c) s = .next t ∧
        t.but s = { s.advance dt with sns := { s.sns with ain := vset s.sns.ain c (fun a => { a with hold := some (s.tbAt dt) }) } })) ∧
    (∀ (volts : Rat) (at' : Nat), s.running = true → s.sns.ain[c].hold = some at' → s.ainTurn c = true →
      ∃ t, exec (.ainConversionDone dt c volts) s = .next t ∧
        ((∀ n : Fin 6, s.axAlloc n = false) → (∀ k : Fin 4, s.chopMay k = false) → t.but s = { s.advance dt with sns := t.sns }) ∧
        t.sns.ain[c].val = s.regs.SNS_AINc_SCALE c * volts + s.regs.SNS_AINc_OFFS c ∧ t.sns.ain[c].volts = volts ∧
        t.sns.ain[c].hold = none ∧ t.sns.ain[c].heldAt = at' ∧ (∀ d : Fin 32, d ≠ c → t.sns.ain[d] = s.sns.ain[d]) ∧
        (s.regs.SNS_AINc_CFG_RCHK c = true → s.regs.SNS_AINc_MAX c < s.regs.SNS_AINc_SCALE c * volts + s.regs.SNS_AINc_OFFS c ∨
          s.regs.SNS_AINc_SCALE c * volts + s.regs.SNS_AINc_OFFS c < s.regs.SNS_AINc_MIN c →
          t.sns.ain[c].outCnt = s.sns.ain[c].outCnt + 1 ∧ t.sns.ain[c].inCnt = 0 ∧ t.sns.ain[c].range = s.sns.ain[c].range) ∧
        (s.regs.SNS_AINc_CFG_RCHK c = false ∨ (s.regs.SNS_AINc_SCALE c * volts + s.regs.SNS_AINc_OFFS c ≤ s.regs.SNS_AINc_MAX c ∧
          s.regs.SNS_AINc_MIN c ≤ s.regs.SNS_AINc_SCALE c * volts + s.regs.SNS_AINc_OFFS c) →
          t.sns.ain[c].outCnt = 0 ∧ t.sns.ain[c].inCnt = s.sns.ain[c].inCnt + 1 ∧
          (t.sns.ain[c].range = true ↔ s.sns.ain[c].range = true ∧ s.sns.ain[c].inCnt + 1 < 4) ∧
          (s.sns.ain[c].range = false → t.sns.ain[c].valid = true ∧ t.sns.ain[c].lastValid = t.sns.ain[c].val))) ∧
    (s.running = true → 4 ≤ s.sns.ain[c].outCnt → s.sns.ain[c].range = false → (∀ n : Fin 6, s.axAlloc n = true → s.vdcAin n ≠ c) →
      ∃ t, exec (.ainRange dt c) s = .next t ∧
        t.sns = { s.sns with ain := vset s.sns.ain c (fun a => { a with range := true, rangeAt := a.heldAt, rangeVolts := a.volts }) } ∧
        t.ax = s.ax ∧
        Wrote s t [evtOf s.sns.ain[c].heldAt Unit.sns 0x070A (c.val + 256 * b2n s.sns.ain[c].above) (milli s.sns.ain[c].volts)]) ∧
    (∀ n : Fin 6, s.running = true → 4 ≤ s.sns.ain[c].outCnt → s.sns.ain[c].range = false → s.axAlloc n = true → s.vdcAin n = c →
      (∀ m : Fin 6, m ≠ n → s.axAlloc m = true → s.vdcAin m ≠ c) → s.ax[n].state ≠ .off → s.ax[n].state ≠ .halt → s.regs.wf = true →
      ∃ t, exec (.ainRange dt c) s = .next t ∧ t.sns.ain[c].range = true ∧ Faulted s t n 0x0A0C .sensor) ∧
    (∀ (y : Rat) (level : Bool) (e : Nat), s.running = true → s.regs.SNS_SDIc_CFG_EN c = true → (s.advance dt).sdiEdge c = some e →
      (∃ t, exec (.fastFilterOutput dt c y) s = .next t ∧ t.sns.sdi[c].fastLast = s.regs.SNS_SDIc_SCALE c * y - s.sns.sdi[c].zero) ∧
      ∃ t, exec (.sdiStuck dt c level) s = .next t ∧ t.sns.sdi[c].stuck = true) ∧
    (s.running = true → s.sns.sdi[c].stuckAt + 1000000000 ≤ s.tbAt dt → ∃ t, exec (.sdiStuckClear dt c) s = .next t ∧ t.sns.sdi[c].stuck = false) ∧
    (∀ (n : Fin 6) (p : Fin 3), s.phaseOf c = some (n, p) → s.running = true →
      (s.axAlloc n = true → s.sns.ax[n].fSdi = 0 → s.sns.ax[n].fbSdi = 0 → s.regs.SNS_SDIc_CFG_FAST_N c + 1 ≤ s.sns.sdi[c].fastCnt →
        ∃ t, exec (.phaseOc dt c) s = .next t ∧ t.sns.sdi[c].fastCnt = 0) ∧
      (∀ avg : Rat, s.bridgeOff n = true → absR avg ≤ s.regs.SNS_SDIc_SCALE c / 20 → ∃ t, exec (.zeroMeasurementEnd dt (.sdi c) avg) s = .next t ∧
        t.sns.sdi[c].zeroFail = false ∧ t.sns.sdi[c].zeroNext = some avg) ∧
      (s.sns.ax[n].fSdi = 0 → s.sns.ax[n].verdict = .sdi p → s.regs.SNS_AXn_XCHK_CFG_N n ≤ s.sns.ax[n].vcnt →
        ∃ t, exec (.sdiFault dt n p 1) s = .next t ∧ t.sns.ax[n].fSdi.getLsbD p.val = true))

/-- ENC_EDGE of an ABZ interface that no axis has bound, with no index edge: a change of A or of B alone counts one up or down by the quadrant order and the direction setting, with the
instant of the unfiltered edge; a change of both counts nothing and is an illegal transition. ENC_ILLEGAL_LIMIT, SERIAL_POSITION_FAULT and
ENC_OBSERVER_MISMATCH set the fault of their cause. ENC_SPEED_TIMEOUT, 10 ms without an edge, reads speed 0. SERIAL_TRANSFER_DONE of a
transfer whose line was not high is discarded and counted; a first good one gives its position. -/
def Obligations.PositionInterfaces : Prop :=
  ∀ (s : State) (dt : Nat) (e : Fin 6),
    (∀ a b z : Bool, s.running = true → s.regs.SNS_ENCe_CFG_TYPE e = 1 → s.boundTo e = none → (s.regs.SNS_ENCe_CFG_Z_EN e = false ∨ z = false) →
      s.sns.enc[e].zBad < 2 → ∃ t, exec (.encEdge dt e a b z) s = .next t ∧ t.but s = { s.advance dt with sns := t.sns } ∧
        t.sns.enc[e].a = a ∧ t.sns.enc[e].b = b ∧ t.sns.enc[e].z = z ∧
        (a ≠ s.sns.enc[e].a ∧ b = s.sns.enc[e].b ∨ a = s.sns.enc[e].a ∧ b ≠ s.sns.enc[e].b →
          (quadrant a b = (quadrant s.sns.enc[e].a s.sns.enc[e].b + 1) % 4 →
            t.sns.enc[e].count = s.sns.enc[e].count + if s.regs.SNS_ENCe_CFG_DIR e then -1 else 1) ∧
          (quadrant s.sns.enc[e].a s.sns.enc[e].b = (quadrant a b + 1) % 4 →
            t.sns.enc[e].count = s.sns.enc[e].count + if s.regs.SNS_ENCe_CFG_DIR e then 1 else -1) ∧
          t.sns.enc[e].edgeAt = s.tbAt dt - s.regs.SNS_ENCe_CFG_FILT e * 10 ∧ t.sns.enc[e].illTotal = s.sns.enc[e].illTotal) ∧
        (a ≠ s.sns.enc[e].a → b ≠ s.sns.enc[e].b → t.sns.enc[e].count = s.sns.enc[e].count ∧ t.sns.enc[e].edgeAt = s.sns.enc[e].edgeAt ∧
          s.tbAt dt ∈ t.sns.enc[e].illAt ∧ t.sns.enc[e].illTotal = satInc 16 s.sns.enc[e].illTotal)) ∧
    (s.running = true → s.sns.enc[e].fault = false → s.boundTo e = none →
      (s.regs.SNS_ENCe_TOL_ILL_MAX e < (s.sns.enc[e].illAt.filter (fun t => decide (s.tbAt dt < t + 1000000000))).length →
        ∃ t, exec (.encIllegalLimit dt e) s = .next t ∧
          t.but s = { s.advance dt with
            sns := { s.sns with enc := vset s.sns.enc e (fun x => { x with fault := true, illegal := true }) }, recs := t.recs } ∧
          Wrote s t [evtOf (s.tbAt dt) Unit.sns 0x0708 (e.val + 1 * 256) ((s.advance dt).encNow e).toNat]) ∧
      (3 ≤ s.sns.enc[e].discRow → ∃ t, exec (.serialPositionFault dt e) s = .next t ∧
          t.but s = { s.advance dt with
            sns := { s.sns with enc := vset s.sns.enc e (fun x => { x with fault := true, serial := true }) }, recs := t.recs } ∧
          Wrote s t [evtOf (s.tbAt dt) Unit.sns 0x0708 (e.val + 3 * 256) ((s.advance dt).encNow e).toNat])) ∧
    (∀ (n : Fin 6) (since : Nat), s.running = true → s.ax[n].state.watched = true → s.sns.ax[n].encDiff = some since → since + 50000000 ≤ s.tbAt dt → s.regs.SNS_AXn_ENC_EN n = true →
      s.boundTo (s.encOf n) = some n → s.sns.enc[s.encOf n].fault = false → ∃ t, exec (.encObserverMismatch dt n) s = .next t ∧
        t.but s = { s.advance dt with sns := t.sns, recs := t.recs, ax := t.ax } ∧ t.sns.enc[s.encOf n].observer = true ∧
        t.sns.ax[n].fEnc = true ∧ t.sns.ax[n].fbEnc = true ∧ t.sns.ax[n].limpNext = true) ∧
    (s.running = true → s.regs.SNS_ENCe_CFG_TYPE e = 1 → s.sns.enc[e].edgeAt + 10000000 ≤ s.tbAt dt → ∃ t, exec (.encSpeedTimeout dt e) s = .next t ∧
      t.but s = { s.advance dt with sns := { s.sns with enc := vset s.sns.enc e (fun x => { x with speed := 0 }) } }) ∧
    (∀ (since : Nat) (bits : Word) (parity : Bool), s.running = true → s.sns.enc[e].xfer = some since →
      (∃ t, exec (.serialTransferDone dt e false bits parity) s = .next t ∧
        t.but s = { s.advance dt with sns := { s.sns with enc := vset s.sns.enc e (fun x => { x with
          xfer := none, recovered := s.tbAt dt + nsOf (s.regs.SNS_ENCe_TREC e), discTotal := satInc 16 x.discTotal, discRow := x.discRow + 1 }) } }) ∧
      (s.sns.enc[e].goodAt = none → s.boundTo e = none → s.regs.SNS_ENCe_CFG_PARITY e = false → s.regs.SNS_ENCe_CFG_CODE e = false →
        s.regs.SNS_ENCe_CFG_DIR e = false → ∃ t, exec (.serialTransferDone dt e true bits parity) s = .next t ∧
        t.but s = { s.advance dt with sns := { s.sns with enc := vset s.sns.enc e (fun x => { x with
          xfer := none, recovered := s.tbAt dt + nsOf (s.regs.SNS_ENCe_TREC e), discRow := 0, speed := 0, goodAt := some since
          pos := w32 (fld (w32 (fld bits 0 (s.regs.SNS_ENCe_CFG_BITS e))) 0 (s.regs.SNS_ENCe_CFG_ST_BITS e) <<< (32 - s.regs.SNS_ENCe_CFG_ST_BITS e))
          turns := ((w32 (fld bits 0 (s.regs.SNS_ENCe_CFG_BITS e))).toNat >>> s.regs.SNS_ENCe_CFG_ST_BITS e : Nat) }) } }))

/-- CATCH_DONE of a measurement that runs, within 20 ms: from the encoder once an update has been sampled, from terminal voltages that have settled for 5 ms and which the
speed and angle given fit, or at standstill from terminal voltages that have stayed below VMIN for 20 ms, the speed v decides: below the standing speed the axis starts from rest, with I-f where no encoder is usable and no stop is ordered; else it takes over at v, and in the reverse case (the
command points the other way) is marked so; the record tells method and decision. CATCH_FAIL at 20 ms, where neither has come about: the first turns the bridge off and
notes the repetition, the second halts. CATCH_RETRY 100 ms on begins the next attempt. IF_ALIGN_END begins the ramp; IF_BLEND_END runs on
the observer, and takes an axis in CATCH to RUN. -/
def Obligations.CatchAndIf : Prop :=
  ∀ (s : State) (dt : Nat) (n : Fin 6),
    (∀ (speed v : Rat) (angle : Word) (method dec : Nat), s.running = true → s.measuring n = true → s.tbAt dt ≤ s.ax[n].cat.since + 20000000 →
      (method = 1 ∧ s.encUsable n = true ∧ s.ax[n].cat.since ≤ s.sns.ax[n].at' ∧ v = ((s.advance dt).encAt (s.encOf n)).2) ∨
        (method = 2 ∧ s.encUsable n = false ∧ s.regs.SNS_AXn_VIN_VT_EN n = true ∧ (s.advance dt).vtStill n = false ∧
          (s.advance dt).vtSettled n s.ax[n].cat.since = true ∧ (s.advance dt).vtFits n speed angle = true ∧ v = speed) ∨
        (method = 2 ∧ s.encUsable n = false ∧ s.regs.SNS_AXn_VIN_VT_EN n = true ∧ (s.advance dt).vtStill n = true ∧ v = 0) →
      dec = (if absR v < s.nStand n then 0 else if s.dirCmd n = 0 ∨ s.dirCmd n = signR v then 1 else 2) →
      ∃ t, exec (.catchDone dt n speed angle) s = .next t ∧ t.but s = { s.advance dt with ax := t.ax, cmd := t.cmd, recs := t.recs } ∧
        Wrote s t [evtOf (s.tbAt dt) (Unit.ax n) 0x0804 (method + dec * 16) (rpm10 v)] ∧
        t.ax[n].state = .catching ∧ t.ax[n].cat.decided = true ∧ t.ax[n].cat.method = method ∧
        (dec = 0 → t.cmd.ax[n].nRef = 0 ∧ (s.encUsable n = false → s.stopInMode s.ax[n].cat.stop = none → t.ax[n].eng.ifPhase = .align ∧ t.ax[n].cat.takeOver = false)) ∧
        (dec ≠ 0 → t.cmd.ax[n].nRef = v ∧ t.ax[n].eng.speed = v ∧ t.ax[n].cat.takeOver = true ∧ t.cmd.ax[n].reverse = (dec == 2)) ∧
        (∀ m, m ≠ n → t.ax[m] = s.ax[m] ∧ t.cmd.ax[m] = s.cmd.ax[m])) ∧
    (s.running = true → s.measuring n = true → s.ax[n].cat.since + 20000000 ≤ s.tbAt dt →
      (s.catchMethod n = 2 ∧ (s.advance dt).vtStill n = false ∧ (s.advance dt).vtSettled n s.ax[n].cat.since = false) ∨
        (s.catchMethod n = 3 ∧ (s.advance dt).zeroSettled n = false) →
      (s.ax[n].cat.attempt = 1 → ∃ t, exec (.catchFail dt n) s = .next t ∧
        t.but s = { s.advance dt with ax := vset s.ax n (fun x => { x with
          bridge := .off, set := {}, posted := none, result := none, run := none, cat := { x.cat with retryAt := some (x.cat.since + 20000000) } }), recs := t.recs } ∧
        Wrote s t [evtOf (s.ax[n].cat.since + 20000000) (Unit.ax n) 0x0805 1 0]) ∧
      (2 ≤ s.ax[n].cat.attempt → ∃ t, exec (.catchFail dt n) s = .next t ∧ t.ax[n].state = .halt ∧ t.ax[n].haltReason = 0x0805)) ∧
    (∀ since : Nat, s.running = true → s.ax[n].state = .catching → s.ax[n].cat.retryAt = some since → since + 100000000 ≤ s.tbAt dt → ∃ t, exec (.catchRetry dt n) s = .next t ∧
      t.but s = { s.advance dt with ax := t.ax, snt := t.snt, sns := t.sns } ∧ t.ax[n].state = .catching ∧
      t.ax[n].cat = { since := s.tbAt dt, attempt := s.ax[n].cat.attempt + 1, blind := s.ax[n].cat.blind, coast := s.ax[n].cat.coast, stop := s.ax[n].cat.stop } ∧
      (∀ m, m ≠ n → t.ax[m] = s.ax[m])) ∧
    (s.running = true → s.ax[n].eng.ifPhase = .align → s.ax[n].eng.ifAt + nsOf (s.regs.AXn_IF_ALIGN_T n) ≤ s.tbAt dt → ∃ t, exec (.ifAlignEnd dt n) s = .next t ∧
      t.but s = { s.advance dt with ax := t.ax } ∧ t.ax[n].eng = { s.ax[n].eng with ifPhase := .ramp, ifAt := s.tbAt dt } ∧
      t.ax[n].result = s.ax[n].result.map (fun r => { r with eng := { r.eng with ifPhase := .ramp, ifAt := s.tbAt dt } }) ∧
      t.ax[n].state = s.ax[n].state ∧ t.ax[n].bridge = s.ax[n].bridge ∧ (∀ m, m ≠ n → t.ax[m] = s.ax[m])) ∧
    (s.running = true → s.ax[n].eng.ifPhase = .blend → s.ax[n].eng.ifAt + nsOf (s.regs.AXn_IF_BLEND n) ≤ s.tbAt dt → ∃ t, exec (.ifBlendEnd dt n) s = .next t ∧
      t.but s = { s.advance dt with ax := t.ax } ∧ t.ax[n].eng = { s.ax[n].eng with ifPhase := .none, obsOk := true } ∧
      t.ax[n].state = (if s.ax[n].state = .catching then .run else s.ax[n].state) ∧ (∀ m, m ≠ n → t.ax[m] = s.ax[m]))

/-- LOS of an axis that runs on the observer, with a criterion that holds and fewer than three losses in 10 s: at the decision speed of n_ASC or more an ASC of cause 1
waits to be set on, below it the axis goes off and into CATCH; both are recorded. REACQUIRED of an axis that may turns every switch off with the record of the ASC; after the
interval of R157 it comes again (log 122), and an axis from RUN modulates again in RUN, in DRIVE, its load estimate afresh. ASC_REACQ_TIMEOUT marks an ASC of cause 1 or 3
as a fault. ASC_EXIT 10 ms below 0.8 n_ASC halts an ASC of cause 2 with its reason. ASC_BLIND_HOLD_END halts an ASC of cause 2, and takes one of
another cause into CATCH. -/
def Obligations.LossOfSynchronismAndAscEnd : Prop :=
  ∀ (s : State) (dt : Nat) (n : Fin 6),
    (s.running = true → (s.ax[n].state = .run ∨ s.ax[n].state = .stop) → s.ax[n].eng.angSrc = .observer → s.losBits n ≠ 0 →
      (s.ax[n].losAt.filter (fun t => decide (s.tbAt dt < t + 10000000000))).length < 2 →
      (s.nAsc n ≤ s.losSpeed n → ∃ t, exec (.los dt n) s = .next t ∧ t.ax[n].state = .asc ∧ t.ax[n].ascSt.cause = 1 ∧
        t.ax[n].ascSt.high = s.ascSide n ∧ t.ax[n].ascFault = false ∧
        t.ax[n].losAt = s.ax[n].losAt.filter (fun t => decide (s.tbAt dt < t + 10000000000)) ++ [s.tbAt dt] ∧ (∀ m, m ≠ n → t.ax[m] = s.ax[m])) ∧
      (s.losSpeed n < s.nAsc n → ∃ t, exec (.los dt n) s = .next t ∧ t.ax[n].state = .catching ∧ t.ax[n].bridge = .off ∧
        t.ax[n].cat.coast = some (s.tbAt dt) ∧ t.ax[n].cat.stop = (if s.ax[n].state = .stop then some s.ax[n].stopKind else s.ax[n].cat.stop) ∧
        t.ax[n].losAt = s.ax[n].losAt.filter (fun t => decide (s.tbAt dt < t + 10000000000)) ++ [s.tbAt dt] ∧ (∀ m, m ≠ n → t.ax[m] = s.ax[m]) ∧
        Wrote s t [evtOf s.sns.ax[n].at' (Unit.ax n) 0x0801 (s.losBits n + 2 * 256) (rpm10 (s.losSpeed n))])) ∧
    (∀ since : Nat, s.running = true → s.mayReacquire n = true → s.ax[n].ascSt.resume = none →
      s.ax[n].eng.locked = some since → since + nsOf (s.regs.AXn_LOCK_T n) ≤ s.tbAt dt → ∃ t, exec (.reacquired dt n) s = .next t ∧
      t.but s = { s.advance dt with recs := t.recs, ax := vset s.ax n (fun x => { x with
        bridge := .off, ipk := x.ascSt.peak, ascSt := { x.ascSt with offAt := s.tbAt dt, resume := some (s.tbAt dt + s.deadNs n) } }) } ∧
      Wrote s t [evtOf (s.tbAt dt) (Unit.ax n) 0x0808 1 (peakCode s.ax[n].ascSt.peak)]) ∧
    (∀ at' : Nat, s.running = true → s.ax[n].state = .asc → s.ax[n].ascSt.resume = some at' → at' ≤ s.tbAt dt →
      s.ax[n].ascSt.from' = .run → s.mode.mode = .drive → ∃ t, exec (.reacquired dt n) s = .next t ∧
      t.but s = { s.advance dt with ax := t.ax, recs := t.recs, cmd := t.cmd, gd := t.gd } ∧ t.ax[n].state = .run ∧ t.ax[n].bridge = .modulate ∧
      t.ax[n].ascSt = {} ∧ t.cmd.ax[n].tlHist = [] ∧ (∀ m, m ≠ n → t.cmd.ax[m] = s.cmd.ax[m]) ∧ (∀ m, m ≠ n → t.ax[m] = s.ax[m]) ∧
      Wrote s t [evtOf (s.tbAt dt) (Unit.ax n) 0x0802 1
        ((s.ax[n].ascSt.offAt - s.ax[n].ascSt.first.getD s.ax[n].ascSt.offAt) / 1000)]) ∧
    (s.running = true → s.ax[n].state = .asc → s.ax[n].ascSt.cause ≠ 2 → s.ax[n].ascFault = false → s.ax[n].blind = false → s.ax[n].ascSt.resume = none →
      s.ax[n].ascSt.since + nsOf (s.regs.AXn_ASC_REACQ_T n) ≤ s.tbAt dt → ∃ t, exec (.ascReacqTimeout dt n) s = .next t ∧
      t.but s = { s.advance dt with ax := vset s.ax n (fun x => { x with ascFault := true, haltReason := 0x0803 }) }) ∧
    (∀ since : Nat, s.running = true → s.ax[n].state = .asc → s.ax[n].ascSt.cause = 2 ∨ s.ax[n].ascFault = true → s.ax[n].blind = false → s.ax[n].ascSt.below = some since →
      since + 10000000 ≤ s.tbAt dt → ∃ t, exec (.ascExit dt n) s = .next t ∧ t.ax[n].state = .halt ∧
      t.ax[n].haltReason = s.ax[n].haltReason ∧ (s.ax[n].bridge ≠ .soft → t.ax[n].bridge = .off) ∧ (∀ m, m ≠ n → t.ax[m] = s.ax[m])) ∧
    (∀ until' : Nat, s.running = true → s.ax[n].state = .asc → s.ax[n].blind = true → s.ax[n].ascSt.blindEnd = some until' → until' ≤ s.tbAt dt →
      (s.ax[n].ascSt.cause = 2 ∨ s.ax[n].ascFault = true → ∃ t, exec (.ascBlindHoldEnd dt n) s = .next t ∧ t.ax[n].state = .halt ∧
        t.ax[n].haltReason = s.ax[n].haltReason ∧ (∀ m, m ≠ n → t.ax[m] = s.ax[m])) ∧
      (s.ax[n].ascSt.cause ≠ 2 → s.ax[n].ascFault = false → ∃ t, exec (.ascBlindHoldEnd dt n) s = .next t ∧ t.ax[n].state = .catching ∧
        t.ax[n].cat.blind = true ∧ t.ax[n].cat.stop = (if s.ax[n].ascSt.from' = .stop then some s.ax[n].stopKind else s.ax[n].ascSt.stop) ∧
        (∀ m, m ≠ n → t.ax[m] = s.ax[m])))

/-- The token holder's AXIS_CMD_STOP, _SPEED, _TORQUE and _TENSION to an allocated axis whose setpoint lies within the limit of the mode, and outside HOLD unless the mode is STOP,
set the command word and nothing else but the instant it was written and the end of a crash stop; a setpoint outside the limit answers RANGE, an axis that is absent, or a start in
HOLD, answers STATE. AXIS_SETPOINT_WRITE of a number within the limit of the present mode sets the setpoint. HEAVE_REFERENCE_INPUT takes the sample, with its time set back by the
latency, where it is later than the one in use. CRASH_STOP of a moving axis in DRIVE or LIMP orders it. CAN_LOST of a binding that is the source marks
it lost. -/
def Obligations.AxisCommands : Prop :=
  ∀ (s : State) (dt : Nat) (n : Fin 6),
    (∀ o : Origin, s.writes o = true → s.holds o = true →
      (∀ (c : Instr) (m : Nat) (heave : Bool),
        (c = .axisCmdStop dt o n ∧ m = 0 ∧ heave = false) ∨ (c = .axisCmdSpeed dt o n heave ∧ m = 1) ∨
          (c = .axisCmdTorque dt o n heave ∧ m = 2) ∨ (c = .axisCmdTension dt o n heave ∧ m = 3) →
        (s.setOk n m (s.regs.AXn_CMD_SET n) = true → s.axAlloc n = true → s.mode.mode ≠ .hold ∨ m = 0 → ∃ t, exec c s = .next t ∧
          t.but s = { s.advance dt with
            regs := s.regs.set (Reg.AXn_CMD n) (w32 (m + 16 * b2n heave))
            cmd := { s.cmd with ax := vset s.cmd.ax n (fun x => { x with wroteAt := ((s.advance dt).ctx o 2).stamp, crashOff := x.crash }) }
            cp := (s.advance dt).cpWrote o }) ∧
        (s.setOk n m (s.regs.AXn_CMD_SET n) = false → ∃ t, exec c s = .next t ∧
          t.but s = { s.advance dt with cp := t.cp, recs := t.recs } ∧ Refused s t dt o 2 St.range 0) ∧
        (s.setOk n m (s.regs.AXn_CMD_SET n) = true → s.axAlloc n = false ∨ (s.mode.mode = .hold ∧ m ≠ 0) → ∃ t, exec c s = .next t ∧
          t.but s = { s.advance dt with cp := t.cp, recs := t.recs } ∧ Refused s t dt o 2 St.state 0)) ∧
      (∀ v w : Word, f32Norm w = some v → s.axAlloc n = true →
        (s.setOk n (s.regs.AXn_CMD_MODE n) (f32ToRat v) = true → ∃ t, exec (.axisSetpointWrite dt o n w) s = .next t ∧
          t.but s = { s.advance dt with
            regs := s.regs.set (Reg.AXn_CMD_SET n) v
            cmd := { s.cmd with ax := vset s.cmd.ax n (fun x => { x with wroteAt := ((s.advance dt).ctx o 2).stamp, crashOff := x.crash }) }
            cp := (s.advance dt).cpWrote o }) ∧
        (s.setOk n (s.regs.AXn_CMD_MODE n) (f32ToRat v) = false → ∃ t, exec (.axisSetpointWrite dt o n w) s = .next t ∧
          t.but s = { s.advance dt with cp := t.cp, recs := t.recs } ∧ Refused s t dt o 2 St.range 0) ∧
        (∀ age : Nat, s.cmd.ax[n].hcRef = none → s.regs.wf = true → ∃ t, exec (.heaveReferenceInput dt o n age w) s = .next t ∧
          t.but s = { s.advance dt with
            regs := s.regs.set (Reg.AXn_HC_IN_A n) v
            cmd := { s.cmd with ax := vset s.cmd.ax n (fun x => { x with
              hcRef := some (s.tbAt dt - age - nsOf (s.regs.AXn_HC_LAT n), s.regs.AXn_HC_IN_V n, f32ToRat v), hcCan := false }) }
            cp := (s.advance dt).cpWrote o }) ∧
        (∀ (age at' : Nat) (x y : Rat), s.cmd.ax[n].hcRef = some (at', x, y) → s.regs.wf = true → s.tbAt dt - age - nsOf (s.regs.AXn_HC_LAT n) ≤ at' →
          ∃ t, exec (.heaveReferenceInput dt o n age w) s = .next t ∧ t.but s = { s.advance dt with
            regs := s.regs.set (Reg.AXn_HC_IN_A n) v, cp := (s.advance dt).cpWrote o })) ∧
      (∀ w : Word, bit w 0 = true → s.axAlloc n = true → (s.mode.mode = .drive ∨ s.mode.mode = .limp) →
        (s.ax[n].state = .catching ∨ s.ax[n].state = .run ∨ (s.ax[n].state = .stop ∧ s.ax[n].stopKind = .command)) →
        ∃ t, exec (.crashStop dt o n w) s = .next t ∧ t.but s = { s.advance dt with
          cmd := { s.cmd with ax := vset s.cmd.ax n (fun x => { x with crashOrd := true }) }, cp := (s.advance dt).cpWrote o })) ∧
    (∀ last : Nat, s.running = true → s.cmd.ax[n].ownSrc = 2 → s.cmd.ax[n].can.lost = false → s.cmd.ax[n].can.lastAt = some last →
      last + s.regs.AXn_CMD_CFG_CAN_TMO n * 10000000 ≤ s.tbAt dt → ∃ t, exec (.canLost dt n) s = .next t ∧
      t.but s = { s.advance dt with
        cmd := { s.cmd with ax := vset s.cmd.ax n (fun x => { x with can := { x.can with lost := true } }) }, recs := t.recs } ∧
      Wrote s t [evtOf (last + s.regs.AXn_CMD_CFG_CAN_TMO n * 10000000) (Unit.ax n) 0x0902 (s.regs.AXn_CMD_CFG_CAN n - 1)
        (ageUs (s.regs.AXn_CMD_CFG_CAN_TMO n * 10000000))])

/-- AXIS_CLEAR_COMMAND of the token holder, or of class M, that names axes that may all be cleared, none of which has a clear waiting, adds one clear for each to those that wait, with the instant and the
port, and answers ACK; where an axis may not, the answer is STATE, and the code of every axis named is kept; naming no axis answers RANGE. An axis in HALT whose detectors are quiet and
whose reason is no failed self-test may be cleared, when it is a main axis; one that is not in HALT may not (code 1). -/
def Obligations.AxisClears : Prop :=
  ∀ (s : State) (dt : Nat) (o : Origin) (ax : BitVec 6) (aux : BitVec 4) (named : Fin 10 → Bool), s.writes o = true → s.may true o = true →
    (∀ a, named a = bit (w32 (ax.toNat + 256 * aux.toNat)) (if a.val < 6 then a.val else a.val + 2)) →
    ((∃ a, named a = true) → (∀ a, named a = true → s.clearCode a = 0) → (∀ k ∈ s.cmd.clears, named k.axis = false) →
      ∃ t, exec (.axisClearCommand dt o ax aux) s = .next t ∧ t.but s = { s.advance dt with
        cmd := { s.cmd with
          clearRef := Vector.replicate 10 0
          clears := s.cmd.clears ++ ((List.finRange 10).filter named).map (fun a => { axis := a, port := (clsPort o.cls).val, at' := s.tbAt dt, ok := none }) }
        freeIx := s.freeIx + 10, cp := (s.advance dt).cpWrote o }) ∧
    ((∃ a, named a = true ∧ s.clearCode a ≠ 0) → ∃ t, exec (.axisClearCommand dt o ax aux) s = .next t ∧
      t.but s = { s.advance dt with cmd := t.cmd, cp := t.cp, recs := t.recs, freeIx := s.freeIx + 10 } ∧ Refused s t dt o 2 St.state 0 ∧
      (∀ a : Fin 10, t.cmd.clearRef[a] = if named a then s.clearCode a else 0)) ∧
    ((∀ a, named a = false) → ∃ t, exec (.axisClearCommand dt o ax aux) s = .next t ∧
      t.but s = { s.advance dt with cp := t.cp, recs := t.recs } ∧ Refused s t dt o 2 St.range 0) ∧
    (∀ n : Fin 6, (s.ax[n].state ≠ .halt → s.clearCode (axis10 n) = 1) ∧
      (s.ax[n].state = .halt → s.detectorsQuiet (axis10 n) = true → s.ax[n].haltReason ≠ 0x0609 → s.clearCode (axis10 n) = 0))

/-- STANDSTILL_REACHED 100 ms below SPD_STILL ends a commanded stop in READY and a fault stop in HALT. STOP_TMO, OVERTEMP after 1 s at TTRIP, and the last ICE_STALL fault the axis. RENDER_END after RND_HOLD
ends rendering. HEAVE_STALE past AGE_MAX begins the fade. IMPACT_HOLD_END ends the response. ICE_STALL below RETRY_MAX begins the pause of the free-up, ICE_PAUSE_END its
speed, ICE_BACK_END its end. BRAKE_TMO, where one axis alone still moves, faults it. DC_CRIT after CRIT_T sets the critical condition and stop cause 0. DC_LIMIT_END after 100 ms at factor 1 ends the limit. -/
def Obligations.AxisTimers : Prop :=
  ∀ (s : State) (dt : Nat) (n : Fin 6), s.running = true →
    (∀ since : Nat, s.ax[n].state = .stop → s.ax[n].still = some since → since + 100000000 ≤ s.tbAt dt →
      (s.ax[n].stopKind = .command ∨ s.ax[n].stopKind = .brake → ∃ t, exec (.standstillReached dt n) s = .next t ∧ t.ax[n].state = .ready ∧
        (∀ m, m ≠ n → t.ax[m] = s.ax[m])) ∧
      (∀ r l, s.ax[n].stopKind = .fault r l → ∃ t, exec (.standstillReached dt n) s = .next t ∧ t.ax[n].state = .halt ∧ t.ax[n].haltReason = r ∧
        (∀ m, m ≠ n → t.ax[m] = s.ax[m]))) ∧
    (∀ r l, s.ax[n].state = .stop → s.ax[n].stopKind = .fault r l → s.ax[n].stopFree = false → s.ax[n].stopAt + nsOf (s.regs.AXn_STOP_TMO n) ≤ s.tbAt dt →
      ∃ t, exec (.stopTmo dt n) s = .next t ∧ Faulted s t n r .timeout) ∧
    (s.mode.mode = .brake → s.mode.brakeTmo = false → s.mode.brakeAt + s.regs.DEV_MODE_CFG_BRAKE_TMO * 1000000000 ≤ s.tbAt dt →
      s.axAlloc n = true → s.ax[n].state.quiet = false → (∀ m, m ≠ n → s.ax[m].state.quiet = true) →
      ∃ t, exec (.brakeTmo dt) s = .next t ∧ Faulted s t n 0x0A0B .timeout) ∧
    (∀ since : Nat, s.cmd.ax[n].twHot = some since → since + 1000000000 ≤ s.tbAt dt → s.axAlloc n = true → s.ax[n].state ≠ .halt →
      ∃ t, exec (.overtemp dt n) s = .next t ∧ Faulted s t n 0x0A02 .temp) ∧
    (∀ since : Nat, s.cmd.ax[n].render = true → s.cmd.ax[n].renderLow = some since → s.tbAt dt % s.period = 0 →
      since + nsOf (s.regs.AXn_WN_RND_HOLD n) < s.tbAt dt → ∃ t, exec (.renderEnd dt n) s = .next t ∧
      t.but s = { s.advance dt with
        cmd := { s.cmd with ax := vset s.cmd.ax n (fun c => { c with render := false, renderLow := none, r := s.ax[n].eng.speed, a := 0 }) }, recs := t.recs } ∧
      Wrote s t [evtOf (s.tbAt dt) (Unit.ax n) 0x0906 0 (twos 4 (s.cmd.ax[n].payout * 1000).floor)]) ∧
    (∀ (tm : Nat) (v a : Rat), s.cmd.ax[n].hcRead = some (tm, v, a) → s.tbAt dt % s.period = 0 → s.heaveActs n = true → s.cmd.ax[n].stale = false →
      nsOf (s.regs.AXn_HC_AGE_MAX n) < s.tbAt dt - tm → ∃ t, exec (.heaveStale dt n) s = .next t ∧
      t.but s = { s.advance dt with
        cmd := { s.cmd with ax := vset s.cmd.ax n (fun c => { c with stale := true, fade := some (s.tbAt dt, c.nff) }) }, recs := t.recs } ∧
      Wrote s t [evtOf (s.tbAt dt) (Unit.ax n) 0x0907 1 (ageUs (s.tbAt dt - tm))]) ∧
    (∀ resp at' : Nat, s.cmd.ax[n].impact = some (resp, at') → at' ≤ s.tbAt dt → ∃ t, exec (.impactHoldEnd dt n) s = .next t ∧
      t.but s = { s.advance dt with cmd := { s.cmd with ax := vset s.cmd.ax n (fun c => { c with
        impact := none, r := if resp = 3 then s.ax[n].eng.speed else c.r, a := if resp = 3 then 0 else c.a }) } }) ∧
    (∀ since : Nat, s.cmd.ax[n].iceSince = some since → s.regs.AXn_ICE_CFG_EN n = true → s.cmd.ax[n].icePhase = 0 → s.tbAt dt % s.period = 0 →
      since + nsOf (s.regs.AXn_ICE_STALL_T n) ≤ s.tbAt dt → s.ax[n].state = .run →
      (s.cmd.ax[n].stalls + 1 < s.regs.AXn_ICE_CFG_RETRY_MAX n → ∃ t, exec (.iceStall dt n) s = .next t ∧
        t.but s = { s.advance dt with cmd := { s.cmd with ax := vset s.cmd.ax n (fun c => { c with
          stalls := c.stalls + 1, stallTotal := satInc 16 c.stallTotal, iceSince := none, iceFast := none, icePhase := 1, iceAt := s.tbAt dt }) }, recs := t.recs } ∧
        Wrote s t [evtOf (s.tbAt dt) (Unit.ax n) 0x0A04 (s.cmd.ax[n].stalls + 1) (rpm10 s.ax[n].eng.speed)]) ∧
      (s.regs.AXn_ICE_CFG_RETRY_MAX n ≤ s.cmd.ax[n].stalls + 1 → ∃ t, exec (.iceStall dt n) s = .next t ∧ Faulted s t n 0x0A04 .temp)) ∧
    (s.cmd.ax[n].icePhase = 1 → s.cmd.ax[n].tStar = 0 → s.cmd.ax[n].iceAt + nsOf (s.regs.AXn_ICE_PAUSE_T n) ≤ s.tbAt dt →
      ∃ t, exec (.icePauseEnd dt n) s = .next t ∧ t.but s = { s.advance dt with
        cmd := { s.cmd with ax := vset s.cmd.ax n (fun c => { c with icePhase := 2, iceAt := s.tbAt dt, r := s.ax[n].eng.speed, a := 0, int := 0 }) } }) ∧
    (s.cmd.ax[n].icePhase = 2 → s.cmd.ax[n].iceAt + nsOf (s.regs.AXn_ICE_BACK_T n) ≤ s.tbAt dt → ∃ t, exec (.iceBackEnd dt n) s = .next t ∧
      t.but s = { s.advance dt with cmd := { s.cmd with ax := vset s.cmd.ax n (fun c => { c with icePhase := 0, r := s.ax[n].eng.speed, a := 0 }) } }) ∧
    (∀ (high : Bool) (since : Nat), (if high then s.cmd.ax[n].hiSince else s.cmd.ax[n].loSince) = some since → s.axAlloc n = true →
      since + nsOf (s.regs.AXn_VDC_CRIT_T n) ≤ s.tbAt dt → (if high then s.cmd.ax[n].critHi else s.cmd.ax[n].critLo) = false →
      ∃ t, exec (.dcCrit dt n high) s = .next t ∧ t.but s = { s.advance dt with cmd := t.cmd, mode := t.mode, recs := t.recs } ∧
      t.mode.stop.getLsbD 0 = true ∧ (if high then t.cmd.ax[n].critHi else t.cmd.ax[n].critLo) = true ∧
      Wrote s t [evtOf (s.tbAt dt) (Unit.ax n) 0x0A07 (if high then 1 else 2) (milli (s.vdc n))]) ∧
    (∀ (regen : Bool) (since : Nat), (if regen then s.cmd.ax[n].regOne else s.cmd.ax[n].motOne) = some since →
      (if regen then s.cmd.ax[n].regLim else s.cmd.ax[n].motLim) = true → since + 100000000 ≤ s.tbAt dt → ∃ t, exec (.dcLimitEnd dt n regen) s = .next t ∧
      t.but s = { s.advance dt with
        cmd := { s.cmd with ax := vset s.cmd.ax n (fun c => if regen then { c with regLim := false } else { c with motLim := false }) }, recs := t.recs } ∧
      Wrote s t [evtOf (s.tbAt dt) (Unit.ax n) 0x0A06 (if regen then 0 else 2) (milli (s.vdc n))])

/-! ## Auxiliary axes -/

/-- The token holder's AUX_CMD_STOP, _VELOCITY, _POSITION and _HOME to an allocated axis set the command word and nothing else, where |CMD_SET| is at most SPD_MAX (STOP asks no speed), where the
device is not in HOLD (but for STOP), where POSITION finds a valid position, and where HOME finds no chatter on the limit of the homing direction; too high a speed answers RANGE and any other
of these STATE. AUX_SETPOINT_WRITE of a number of size at most SPD_MAX sets the speed, AUX_TARGET_WRITE the target; of a larger one it answers RANGE, and on an axis that is absent STATE. -/
def Obligations.AuxCommands : Prop :=
  ∀ (s : State) (dt : Nat) (x : Fin 4) (o : Origin), s.writes o = true → s.holds o = true →
    (∀ (c : Instr) (m : Nat),
      (c = .auxCmdStop dt o x ∧ m = 0) ∨ (c = .auxCmdVelocity dt o x ∧ m = 1) ∨ (c = .auxCmdPosition dt o x ∧ m = 2) ∨ (c = .auxCmdHome dt o x ∧ m = 3) →
      let fast : Prop := m ≠ 0 ∧ s.regs.AUXn_SPD_MAX x < absR (s.regs.AUXn_CMD_SET x)
      let fit : Prop := s.auxAlloc x = true ∧ (m ≠ 0 → s.mode.mode ≠ .hold) ∧ (m = 2 → s.aux[x].valid = true) ∧
        (m = 3 → (if s.regs.AUXn_HOME_CFG x then s.aux[x].posi.inhibit else s.aux[x].neg.inhibit) = false)
      (¬ fast → fit → ∃ t, exec c s = .next t ∧
        t.but s = { s.advance dt with regs := s.regs.set (Reg.AUXn_CMD x) (w32 m), cp := (s.advance dt).cpWrote o }) ∧
      (fast → ∃ t, exec c s = .next t ∧ t.but s = { s.advance dt with cp := t.cp, recs := t.recs } ∧ Refused s t dt o 2 St.range 0) ∧
      (¬ fast → ¬ fit → ∃ t, exec c s = .next t ∧ t.but s = { s.advance dt with cp := t.cp, recs := t.recs } ∧ Refused s t dt o 2 St.state 0)) ∧
    (∀ v w : Word, f32Norm w = some v →
      (absR (f32ToRat v) ≤ s.regs.AUXn_SPD_MAX x → s.auxAlloc x = true → ∃ t, exec (.auxSetpointWrite dt o x w) s = .next t ∧
        t.but s = { s.advance dt with regs := s.regs.set (Reg.AUXn_CMD_SET x) v, cp := (s.advance dt).cpWrote o }) ∧
      (s.regs.AUXn_SPD_MAX x < absR (f32ToRat v) → ∃ t, exec (.auxSetpointWrite dt o x w) s = .next t ∧
        t.but s = { s.advance dt with cp := t.cp, recs := t.recs } ∧ Refused s t dt o 2 St.range 0)) ∧
    (∀ w : Word,
      (s.auxAlloc x = true → ∃ t, exec (.auxTargetWrite dt o x w) s = .next t ∧
        t.but s = { s.advance dt with regs := s.regs.set (Reg.AUXn_CMD_POS x) w, cp := (s.advance dt).cpWrote o }) ∧
      (s.auxAlloc x = false → ∃ t, exec (.auxTargetWrite dt o x w) s = .next t ∧
        t.but s = { s.advance dt with cp := t.cp, recs := t.recs } ∧ Refused s t dt o 2 St.state 0))

/-- AUX_UPDATE at a valley, with the engine free, measures the winding currents across the sense resistors and moves the position on by the commanded speed; with the engine busy the sample waits. AUX_MOVE_DONE
marks a target that is reached as arrived; in homing it ends the stop at the limit by the move away LBACK, after the second trip by HALT with HOME_FAIL, and the last move away by the home position in RUN, and an approach longer than HOME_MAX by
HALT with HOME_FAIL. AUX_STALL after STALL_T halts the axis with its position lost, and in an approach moves away by HOME_BACK from where the stall began. AUX_STILL_SET after SETTLE marks
standstill; AUX_STOP_SETTLE_END ends a commanded stop in READY and a fault stop in HALT. HOLD_CURRENT_DELAY_END lets the current fall. START_CHECK_END of a check with no sign of motion ends
it, and of one with such a sign loses the position and stops the axis. The other auxiliary axes stay as they were. -/
def Obligations.AuxMotion : Prop :=
  ∀ (s : State) (dt : Nat) (x : Fin 4), s.running = true →
    (∀ (a1 a2 b1 b2 : Rat) (uv : BitVec 4) (k v : Nat), s.aux[x].state.watched = true →
      extremeIn s.aux[x].valley s.snt[aux10 x].freq (s.tbAt dt) = some (k, v) → k % 2 = 0 → (∀ u ∈ s.snt[aux10 x].upds, u.sample < s.tbAt dt) →
      (s.snt[aux10 x].late = [] → (∀ u ∈ s.snt[aux10 x].upds, u.started = true ∧ u.posted.isSome = true) →
        ∃ t e, exec (.auxUpdate dt x a1 a2 b1 b2 uv) s = .next t ∧ t.aux = vset s.aux x (fun a => { a with result := some (v, e) }) ∧
          (s.auxLink x = false → e.iA = (senseIn a2 - senseIn a1) / (2 * s.regs.AUXn_RSENSE x) ∧ e.iB = (senseIn b2 - senseIn b1) / (2 * s.regs.AUXn_RSENSE x)) ∧
          (s.auxLink x = true → e.iA = 0 ∧ e.iB = 0 ∧ e.eA = 0 ∧ e.eB = 0) ∧
          (s.aux[x].check = none → s.aux[x].aim = none →
            e.pos = wrapPos (s.aux[x].eng.pos + s.auxRate x ((s.advance dt).auxSpeedAt x (s.tbAt dt)) * (1 / s.freqOf (aux10 x)))) ∧
          (∀ b, b ≠ aux10 x → t.snt[b] = s.snt[b])) ∧
      ((s.snt[aux10 x].late ≠ [] ∨ ∃ u ∈ s.snt[aux10 x].upds, u.started = true ∧ u.posted = none) →
        ∃ t u, exec (.auxUpdate dt x a1 a2 b1 b2 uv) s = .next t ∧ t.aux = s.aux ∧
          t.snt[aux10 x].upds = s.snt[aux10 x].upds ++ [u] ∧ u.started = false ∧ u.wind = #v[a1, a2, b1, b2])) ∧
    (∀ aim : Rat, s.aux[x].aim = some aim → s.aux[x].eng.pos = aim → s.aux[x].state = .run → s.aux[x].arrived = false →
      ∃ t, exec (.auxMoveDone dt x) s = .next t ∧ t.but s = { s.advance dt with
        aux := vset s.aux x (fun a => { a with arrived := true, n0 := 0, n1 := 0, nNext := 0, zeroAt := some (s.tbAt dt) }) }) ∧
    (s.aux[x].state = .homing → s.aux[x].home = .limitStop → s.aux[x].n0 = 0 → s.aux[x].n1 = 0 → s.aux[x].tries = 2 →
      ∃ t, exec (.auxMoveDone dt x) s = .next t ∧ t.aux[x].state = .halt ∧ t.aux[x].haltReason = 0x0C05 ∧ t.aux[x].valid = false ∧
        Wrote s t [evtOf s.aux[x].homeAt (Unit.aux x) 0x0C05 1 s.aux[x].pBits]) ∧
    (s.aux[x].state = .homing → s.aux[x].home = .limitStop → s.aux[x].n0 = 0 → s.aux[x].n1 = 0 → s.aux[x].tries ≠ 2 → ∃ t, exec (.auxMoveDone dt x) s = .next t ∧
      t.but s = { s.advance dt with aux := vset s.aux x (fun a => { a with
        home := .awayLimit, homeTo := wrapPos ((a.p : Rat) + -(s.homeDir x) * ((s.regs.AUXn_HOME_LBACK x).toNat : Rat)), homeFrom := a.eng.odo, arrived := false }) }) ∧
    (s.aux[x].state = .homing → s.aux[x].home = .awayStall → s.aux[x].eng.pos = s.aux[x].homeTo → ∃ t, exec (.auxMoveDone dt x) s = .next t ∧
      t.aux[x].state = .run ∧ t.aux[x].valid = true ∧ t.aux[x].homed = true ∧
      t.aux[x].eng.pos = ((s.regs.get (Reg.AUXn_HOME_OFFS x)).toInt : Rat) ∧ (∀ y, y ≠ x → t.aux[y] = s.aux[y])) ∧
    (s.aux[x].state = .homing → s.aux[x].home = .approach → ((s.regs.AUXn_HOME_MAX x).toNat : Rat) ≤ absR (s.aux[x].eng.odo - s.aux[x].homeFrom) →
      ∃ t, exec (.auxMoveDone dt x) s = .next t ∧ t.aux[x].state = .halt ∧ t.aux[x].haltReason = 0x0C05 ∧ t.aux[x].valid = false ∧
        (∀ y, y ≠ x → t.aux[y] = s.aux[y])) ∧
    (s.regs.AUXn_STALL_CFG x = true → s.auxLink x = false → s.regs.AUXn_STALL_T x ≤ s.aux[x].eng.ts → 0 < s.aux[x].eng.ts →
      (s.aux[x].state = .run ∨ s.aux[x].state = .stop → ∃ t, exec (.auxStall dt x) s = .next t ∧ t.aux[x].state = .halt ∧
        t.aux[x].haltReason = 0x0C01 ∧ t.aux[x].valid = false ∧ t.aux[x].energised = false ∧ (∀ y, y ≠ x → t.aux[y] = s.aux[y])) ∧
      (s.aux[x].state = .homing → s.aux[x].home = .approach → ∃ t, exec (.auxStall dt x) s = .next t ∧
        t.but s = { s.advance dt with aux := vset s.aux x (fun a => { a with
          still := false, eng := { a.eng with ts := 0 }, result := a.result.map (fun q => (q.1, { q.2 with ts := 0 }))
          home := .awayStall, homeAt := a.eng.at', stall0 := a.n0, stall1 := a.n1, n0 := 0, n1 := 0, nNext := 0
          homeTo := wrapPos ((a.eng.tsPos.floor : Rat) - s.homeDir x * ((s.regs.AUXn_HOME_BACK x).toNat : Rat)), homeFrom := a.eng.odo, arrived := false }) })) ∧
    (∀ since : Nat, s.aux[x].energised = true → s.aux[x].zeroAt = some since →
      (s.aux[x].fallAt = none → since + nsOf (s.regs.AUXn_HOLD_DLY x) ≤ s.tbAt dt → ∃ t, exec (.holdCurrentDelayEnd dt x) s = .next t ∧
        t.but s = { s.advance dt with aux := vset s.aux x (fun a => { a with fallAt := some (s.tbAt dt) }) }) ∧
      (since + nsOf (s.regs.AUXn_KEEP_SETTLE x) ≤ s.tbAt dt →
        (∃ t, exec (.auxStillSet dt x) s = .next t ∧ t.but s = { s.advance dt with aux := vset s.aux x (fun a => { a with still := true }) }) ∧
        (s.aux[x].stopAt + nsOf (s.regs.AUXn_KEEP_SETTLE x) ≤ s.tbAt dt → s.aux[x].state = .stop → s.aux[x].stopKind = .command ∨ s.aux[x].stopKind = .brake → s.aux[x].home = .none →
          ∃ t, exec (.auxStopSettleEnd dt x) s = .next t ∧ t.aux[x].state = .ready ∧ t.aux[x].energised = false ∧ t.aux[x].valid = s.aux[x].valid ∧
            (∀ y, y ≠ x → t.aux[y] = s.aux[y])) ∧
        (∀ r l, s.aux[x].stopAt + nsOf (s.regs.AUXn_KEEP_SETTLE x) ≤ s.tbAt dt → s.aux[x].state = .stop → s.aux[x].stopKind = .fault r l → ∃ t, exec (.auxStopSettleEnd dt x) s = .next t ∧
          t.aux[x].state = .halt ∧ t.aux[x].haltReason = r ∧ t.aux[x].energised = false ∧ (∀ y, y ≠ x → t.aux[y] = s.aux[y])))) ∧
    (∀ until' : Nat, s.aux[x].check = some until' →
      (s.aux[x].eng.checkBad = none → until' ≤ s.tbAt dt → ∃ t, exec (.startCheckEnd dt x) s = .next t ∧
        t.but s = { s.advance dt with aux := vset s.aux x (fun a => { a with check := none }) }) ∧
      (∀ at' : Nat, s.aux[x].eng.checkBad = some at' → s.aux[x].state = .run → s.regs.wf = true → ∃ t, exec (.startCheckEnd dt x) s = .next t ∧
        t.aux[x].state = .stop ∧ t.aux[x].stopKind = .command ∧ t.aux[x].check = none ∧ t.aux[x].valid = false ∧ t.regs.get (Reg.AUXn_CMD x) = 0))

/-- LIMIT_INPUT_CHANGE of an enabled input takes the filtered level, active as its polarity has it, with its raw edge FILT before; a level that becomes inactive changes nothing else. A trip alone is
recorded where the axis moves toward that limit, and nothing else changes; while the other limit is tripped too an axis in RUN stops with reason 0x0C06, and from READY goes to HALT. In an approach a trip of the homing limit begins the stop there, but for the ninth change in 100 ms, which is a chatter (R316). LIM_CHATTER after more than 8
changes within 100 ms inhibits motion toward the limit, with its record. -/
def Obligations.AuxLimits : Prop :=
  ∀ (s : State) (dt : Nat) (x : Fin 4) (p : Bool), s.running = true → s.auxAlloc x = true → s.limEn x p = true →
    let raw := s.tbAt dt - s.regs.AUXn_LIM_CFG_FILT x * 100000
    let put (a : AuxAx) (l : LimSt) : AuxAx := if p then { a with posi := l } else { a with neg := l }
    let edge (l : LimSt) (v : Bool) : LimSt := { l with tripped := v, since := s.tbAt dt, changes := l.changes.filter (fun t => decide (raw < t + 100000000)) ++ [raw] }
    let toward : Prop := if p then 0 < s.aux[x].n1 ∨ 0 < s.aux[x].n0 else s.aux[x].n1 < 0 ∨ s.aux[x].n0 < 0
    ((s.aux[x].lim p).tripped = true → ∃ t, exec (.limitInputChange dt x p (!s.limPol x p)) s = .next t ∧
      t.but s = { s.advance dt with aux := vset s.aux x (fun a => put a (edge (a.lim p) false)) }) ∧
    ((s.aux[x].lim p).tripped = false →
      ((s.aux[x].lim (!p)).tripped = false ∨ s.limEn x (!p) = false → s.aux[x].state ≠ .homing → ∃ t, exec (.limitInputChange dt x p (s.limPol x p)) s = .next t ∧
        t.but s = { s.advance dt with aux := vset s.aux x (fun a => put a (edge (a.lim p) true)), recs := t.recs } ∧
        (s.aux[x].state.watched = true → toward → Wrote s t [evtOf raw (Unit.aux x) 0x0C02 (b2n p) s.aux[x].pBits]) ∧
        (s.aux[x].state.watched = false ∨ ¬ toward → Wrote s t [])) ∧
      ((s.aux[x].lim (!p)).tripped = true → s.limEn x (!p) = true → s.aux[x].home = .none →
        (s.aux[x].state = .run → ∃ t, exec (.limitInputChange dt x p (s.limPol x p)) s = .next t ∧ t.aux[x].state = .stop ∧
          t.aux[x].stopKind = .fault 0x0C06 false ∧ (∀ y, y ≠ x → t.aux[y] = s.aux[y])) ∧
        (s.aux[x].state = .ready → ∃ t, exec (.limitInputChange dt x p (s.limPol x p)) s = .next t ∧ t.aux[x].state = .halt ∧
          t.aux[x].haltReason = 0x0C06 ∧ (∀ y, y ≠ x → t.aux[y] = s.aux[y]))) ∧
      ((s.aux[x].lim (!p)).tripped = false → s.aux[x].state = .homing → s.aux[x].home = .approach → s.auxLink x = false →
        s.regs.AUXn_HOME_CFG x = p → ((s.aux[x].lim p).changes.filter (fun t => decide (raw < t + 100000000))).length < 8 →
        ∃ t, exec (.limitInputChange dt x p (s.limPol x p)) s = .next t ∧
        t.but s = { s.advance dt with aux := vset s.aux x (fun a => { put a (edge (a.lim p) true) with home := .limitStop, tries := a.tries + 1, homeAt := raw }), recs := t.recs })) ∧
    (∀ last : Nat, (s.aux[x].lim p).changes.getLast? = some last → (s.aux[x].lim p).inhibit = false →
      8 < ((s.aux[x].lim p).changes.filter (fun t => decide (last < t + 100000000))).length →
      s.aux[x].state ≠ .homing ∨ s.regs.AUXn_HOME_CFG x ≠ p → ∃ t, exec (.limChatter dt x p) s = .next t ∧
      t.but s = { s.advance dt with aux := vset s.aux x (fun a => put a { a.lim p with inhibit := true }), recs := t.recs } ∧
      Wrote s t [evtOf last (Unit.aux x) 0x0C03 (b2n p) ((s.aux[x].lim p).changes.filter (fun t => decide (last < t + 100000000))).length])

/-! ## Load sharing -/

/-- On a device that runs, SHARE_REPORT_RECEIVED for a group that an axis of this device names keeps the report in place of that sender's last one, where its signature is that of the group and each of its slots belongs to the sender; with
another signature the report is marked and the first of them recorded, and with a foreign slot it is dropped with its record, and a mark of that sender goes. A payload whose halves do not agree, or for another group, changes nothing. Each is also recorded as a fabric frame, where its type is selected. SHARE_RECEIVED from the device of a
leader slot that must be followed makes that slot the leader where at least 10 us are left to its apply instant, and its command and division wait for that instant; else it is discarded, and how late it came is kept; in a group that an address test isolates it changes nothing. MEMBER_LOST on the leader counts the loss, with its record, and under
the policy STOP stops the group. DESYNC_GRACE_END after DESYNC_T ends the grace. -/
def Obligations.ShareGroups : Prop :=
  ∀ (s : State) (dt : Nat), s.running = true →
    (∀ (sender : BitVec 6) (payload b : List Byte) (g : Fin 16), unpair payload = some b → byteAt b 0 = g.val → s.usesGroup g = true →
      let q := reportOf sender.toNat b
      let foreign (e : ShareEntry) : Bool := !(decide (e.slot < s.regs.FAB_SHRg_CFG_NMEM g) && s.regs.FAB_SHRg_MEMs_DEV g e.slot == sender.toNat)
      (leAt b 4 4 = (s.shareSig g).toNat → (∀ e ∈ q.entries, foreign e = false) → ∃ t, exec (.shareReportReceived dt sender payload) s = .next t ∧
        t.but s = { s.advance dt with recs := t.recs, freeIx := t.freeIx, shr := vset s.shr g (fun x => { x with reports := x.reports.filter (fun r => r.dev != sender.toNat) ++ [q] }) } ∧ WroteAfterFrame s t 5 []) ∧
      (leAt b 4 4 ≠ (s.shareSig g).toNat → (∀ r ∈ s.shr[g].reports, r.dev ≠ sender.toNat) → ∃ t, exec (.shareReportReceived dt sender payload) s = .next t ∧
        t.but s = { s.advance dt with
          shr := vset s.shr g (fun x => { x with reports := x.reports.filter (fun r => r.dev != sender.toNat) ++ [{ q with sigBad := true }] }), recs := t.recs, freeIx := t.freeIx } ∧
        WroteAfterFrame s t 5 [evtOf (s.tbAt dt) Unit.dev 0x0B07 sender.toNat (leAt b 4 4)]) ∧
      (∀ e, leAt b 4 4 = (s.shareSig g).toNat → q.entries.find? foreign = some e → ∃ t, exec (.shareReportReceived dt sender payload) s = .next t ∧
        t.but s = { s.advance dt with recs := t.recs, freeIx := t.freeIx, shr := vset s.shr g (fun x => { x with
          reports := x.reports.map (fun o => if o.dev == sender.toNat then { o with sigBad := false } else o) }) } ∧
        WroteAfterFrame s t 5 [evtOf (s.tbAt dt) Unit.dev 0x0B08 sender.toNat (s.regs.FAB_SHRg_MEMs_AXIS g (e.slot % 32))])) ∧
    (∀ (sender : BitVec 6) (payload : List Byte), unpair payload = none →
      (∃ t, exec (.shareReportReceived dt sender payload) s = .next t ∧
        t.but s = { s.advance dt with recs := t.recs, freeIx := t.freeIx } ∧ WroteAfterFrame s t 5 []) ∧
      (∃ t, exec (.shareReceived dt sender payload) s = .next t ∧
        t.but s = { s.advance dt with recs := t.recs, freeIx := t.freeIx } ∧ WroteAfterFrame s t 5 [])) ∧
    (∀ (sender : BitVec 6) (payload b : List Byte) (g : Fin 16), unpair payload = some b → byteAt b 0 = g.val → s.localMembers g ≠ [] →
      let m := shareOf b (min (s.regs.FAB_SHRg_CFG_NMEM g) 32)
      m.leader < min (s.regs.FAB_SHRg_CFG_NMEM g) 32 → s.regs.FAB_SHRg_MEMs_DEV g m.leader = sender.toNat →
      (s.mustFollow g m = true → s.shr[g].cfgBad = false → s.tbAt dt + 10000 ≤ m.applyAt → ∃ t, exec (.shareReceived dt sender payload) s = .next t ∧
        t.but s = { s.advance dt with recs := t.recs, freeIx := t.freeIx, shr := vset s.shr g (fun x => { x with
          leader := some m.leader, term := m.term, next := some m, cmdValid := m.mode != 0 || !x.work.cmds.isEmpty, gstop := m.stop
          cmd := { (bestCmd x.work.cmds).getD x.cmd with mode := m.mode, set := m.set, heave := m.heave } }) } ∧ WroteAfterFrame s t 5 []) ∧
      (s.mustFollow g m = true → s.shr[g].cfgBad = false → m.applyAt < s.tbAt dt + 10000 → ∃ t, exec (.shareReceived dt sender payload) s = .next t ∧
        t.but s = { s.advance dt with recs := t.recs, freeIx := t.freeIx, shr := vset s.shr g (fun x => { x with
          lateBy := some (s.tbAt dt + 10000 - m.applyAt) }) } ∧ WroteAfterFrame s t 5 []) ∧
      (s.mustFollow g m = false ∨ s.shr[g].cfgBad = true → ∃ t, exec (.shareReceived dt sender payload) s = .next t ∧
        t.but s = { s.advance dt with recs := t.recs, freeIx := t.freeIx } ∧ WroteAfterFrame s t 5 [])) ∧
    (∀ (g : Fin 16) (k : Fin 32) (l : Nat) (n : Fin 6), s.shr[g].leader = some l → (s.localMembers g).find? (fun m => m.1 == l) = some (l, n) →
      s.shr[g].lostCause[k] ≠ 0 →
      (s.regs.FAB_SHRg_CFG_LOSS_POL g = false → ∃ t, exec (.memberLost dt g k) s = .next t ∧
        t.but s = { s.advance dt with
          shr := vset s.shr g (fun y => { y with lostCnt := satInc 16 y.lostCnt, lostCause := y.lostCause.set k 0 }), recs := t.recs } ∧
        Wrote s t [evtOf s.tick.began (Unit.ax n) 0x0B02 (k.val + 256 * s.shr[g].lostCause[k]) (twos 4 s.shr[g].lastT[k].floor)]) ∧
      (s.regs.FAB_SHRg_CFG_LOSS_POL g = true → ∃ t, exec (.memberLost dt g k) s = .next t ∧ t.shr[g].gstop = true ∧ t.shr[g].cmd.mode = 0 ∧
        (∀ h, h ≠ g → t.shr[h] = s.shr[h]) ∧
        Wrote s t [evtOf s.tick.began (Unit.ax n) 0x0B02 (k.val + 256 * s.shr[g].lostCause[k]) (twos 4 s.shr[g].lastT[k].floor),
          evtOf s.tickEnd (Unit.ax n) 0x0B06 k.val 0])) ∧
    (∀ g : Fin 16, s.tbs.syncLost = true → s.tbs.lostSince + nsOf (s.regs.FAB_SHRg_DESYNC_T g) ≤ s.tbAt dt → ∃ t, exec (.desyncGraceEnd dt g) s = .next t ∧
      t.but s = { s.advance dt with shr := vset s.shr g (fun x => { x with graceOver := true }) })

/-! ## Safety functions -/

/-- SAFE_INPUT_EDGE takes the raw level with its instant. SAFE_INPUT_FILTERED gives Bronze the level that has held for FILT, and the fall of an enabled STO pair removes torque at once by Bronze's path. COBALT_SAMPLE, every 50 us, reads EDM, which ends a watch that it satisfies, and gives Cobalt each level that has
held for FILT. DISCREPANCY_FAULT after the discrepancy time in a channel makes the pair's fault there, removes torque by the channel's path and latches it. TEST_PULSE_START makes the output dark at its instant and notes which fed channels read high; TEST_PULSE_END at its time ends it in a channel, and after a
pulse in which each such channel read low changes nothing else; one that stayed high makes the pair's fault in that channel. V24S_OUT in a channel removes torque by its path and switches its safe outputs off, V24S_BACK ends the condition there; the record is the first channel's. -/
def Obligations.SafeInputs : Prop :=
  ∀ (s : State) (dt : Nat),
    (∀ (p : Fin 9) (chB v : Bool), ((if chB then s.saf.rawB[p] else s.saf.rawA[p]) ≠ v → ∃ t, exec (.safeInputEdge dt p chB v) s = .next t ∧
        t.but s = { s.advance dt with saf := if chB
          then { s.saf with rawB := s.saf.rawB.set p v, edgeB := s.saf.edgeB.set p ((s.advance dt).now, s.tbAt dt) }
          else { s.saf with rawA := s.saf.rawA.set p v, edgeA := s.saf.edgeA.set p ((s.advance dt).now, s.tbAt dt) } }) ∧
      ((if chB then s.saf.rawB[p] else s.saf.rawA[p]) = v → ∃ t, exec (.safeInputEdge dt p chB v) s = .next t ∧ t.but s = s.advance dt)) ∧
    (∀ (p : Fin 9) (chB : Bool), s.safLive = true → (s.advance dt).filtDue true p chB = true → ∃ t, exec (.safeInputFiltered dt p chB) s = .next t ∧
      (chB = true → t.saf.bronze.filtB[p] = s.saf.rawB[p]) ∧ (chB = false → t.saf.bronze.filtA[p] = s.saf.rawA[p]) ∧
      (p = 8 → s.regs.SAF_STO_CFG_EN = true → (if chB then s.saf.rawB[p] else s.saf.rawA[p]) = false → s.operates = true → s.saf.sto = false →
        s.saf.silent = false → s.saf.bronze.acted.contains 0x200 = false → TorqueOff t true false ∧ SafeBy t 0x200)) ∧
    (∀ edm : BitVec 4, s.running = true → s.tbAt dt % 50000 = 0 → ∃ t, exec (.cobaltSample dt edm) s = .next t ∧
      t.but s = { s.advance dt with saf := t.saf } ∧ t.saf.edm = edm ∧ t.saf.bronze = s.saf.bronze ∧
      (∀ (k : Fin 4) (t0 : Nat), s.saf.out[k].edmC = some (edm.getLsbD k.val, t0) → s.saf.out[k].limited = false → t.saf.out[k].edmC = none) ∧
      (∀ p : Fin 9,
        t.saf.cobalt.filtA[p] = (if (s.advance dt).filtDue false p false then s.saf.rawA[p] else s.saf.cobalt.filtA[p]) ∧
        t.saf.cobalt.filtB[p] = (if (s.advance dt).filtDue false p true then s.saf.rawB[p] else s.saf.cobalt.filtB[p]))) ∧
    (∀ (p : Fin 9) (bronze : Bool), s.operates = true → s.saf.sto = false → s.saf.silent = false → (s.advance dt).discDue bronze p = true →
      ∃ t, exec (.discrepancyFault dt p bronze) s = .next t ∧ TorqueOff t bronze (!bronze) ∧ SafeBy t (0x300 + p.val) ∧ (t.view bronze).fault[p] = true) ∧
    (∀ one : Bool, s.running = true → (s.tpo one).phase = .lit →
      (s.tbAt dt + (if one then s.regs.SAF_TP_PER * 1000000 / 2 else 0)) % (s.regs.SAF_TP_PER * 1000000) = 0 → ∃ t x, exec (.testPulseStart dt one) s = .next t ∧
      t.but s = { s.advance dt with saf := if one then { s.saf with tpo1 := x } else { s.saf with tpo0 := x } } ∧ x.phase = .dark ∧ x.phaseB = .dark ∧
      x.began = (s.advance dt).now ∧
      (∀ i : Fin 8, x.high.getLsbD i.val = (s.pairTp ⟨i.val, by omega⟩ && (if one then s.saf.rawB[i.val]'(by omega) else s.saf.rawA[i.val]'(by omega))))) ∧
    (∀ (one rec bronze : Bool) (levels : BitVec 8), s.running = true →
      (if bronze then (s.tpo one).phaseB else (s.tpo one).phase) = (if rec then .recover else .dark) →
      (s.tpo one).began + s.regs.SAF_TP_W * 10000 + (if rec then s.regs.SAF_TP_REC * 10000 else 0) ≤ (s.advance dt).now →
      ∃ t, exec (.testPulseEnd dt one rec levels bronze) s = .next t ∧
        (if bronze then (t.tpo one).phaseB else (t.tpo one).phase) = (if rec then .lit else .recover) ∧
        (rec = false → (∀ i : Fin 8, s.pairTp ⟨i.val, by omega⟩ = true → (s.tpo one).high.getLsbD i.val = true → levels.getLsbD i.val = false) →
          let on (x : TpoSt) : TpoSt := if bronze then { x with phaseB := .recover } else { x with phase := .recover }
          t.but s = { s.advance dt with saf := if one then { s.saf with tpo1 := on s.saf.tpo1 } else { s.saf with tpo0 := on s.saf.tpo0 } }) ∧
        (∀ i : Fin 8, s.pairTp ⟨i.val, by omega⟩ = true → (s.tpo one).high.getLsbD i.val = true → levels.getLsbD i.val ≠ rec →
          (t.view bronze).fault[i.val]'(by omega) = true)) ∧
    (∀ (mv : Nat) (bronze : Bool), (mv < 19200 ∨ 30000 < mv) → s.operates = true → (s.view bronze).v24sOut = false → s.saf.sto = false → s.saf.silent = false →
      ∃ t, exec (.v24sOut dt mv bronze) s = .next t ∧ (t.view bronze).v24sOut = true ∧ TorqueOff t bronze (!bronze) ∧ SafeBy t 0x600 ∧
        (∀ k : Fin 4, t.saf.out[k].cmd = false)) ∧
    (∀ (mv : Nat) (bronze : Bool), 19200 ≤ mv → mv ≤ 30000 → s.running = true → s.saf.silent = false → (s.view bronze).v24sOut = true →
      ∃ t, exec (.v24sBack dt mv bronze) s = .next t ∧
      t.but s = { s.advance dt with
        saf := { s.saf with
          bronze := if bronze then { s.saf.bronze with v24sOut := false } else s.saf.bronze
          cobalt := if bronze then s.saf.cobalt else { s.saf.cobalt with v24sOut := false }
          v24s := mkRat mv 1000 }
        recs := t.recs } ∧
      Wrote s t (if (s.view (!bronze)).v24sOut then [safOf (s.tbAt dt) 0x0D07 0 mv 0 bronze] else []))

/-- A fault of a channel latches as cause 0x700 with its subcode, takes the device into SAFE and removes torque: a failed check of COBALT_SCAN (1 to 3), COBALT_SUPPLY_WINDOW (4), VCORE_S_WINDOW (5), sets that differ twice running at SAFETY_COMPARE (7), COMPARE_STALE
at Cobalt (9, its own path), AXIS_DATA_STALE in an SS1-r (10), a failed COBALT_ROM_CHECK (1), and MIRROR_STALE (11). COMPARE_STALE at Bronze (8) removes torque by Bronze's path, and the supervisor, which hears Bronze through Cobalt alone, learns nothing of it. Without a fault SAFETY_COMPARE of equal sets counts the set and COBALT_ROM_CHECK notes its instant;
COBALT_SCAN rewrites the mirror. PATH_CHECK_TIMEOUT in LOAD keeps that the path test failed, with its instant, and 1 ms after STO with
a path that has not acted latches subcode 6. PATH_TEST_DUE past PT_MAX is recorded. -/
def Obligations.ChannelChecks : Prop :=
  ∀ (s : State) (dt : Nat), s.operates = true →
    (∀ (c : Instr) (sub : Nat) (b k : Bool), s.saf.sto = false → s.hasLatched (0x700 + sub) = false →
      (c = .cobaltSupplyWindow dt ∧ sub = 4 ∧ b = true ∧ k = true) ∨ (c = .vcoreSWindow dt ∧ sub = 5 ∧ b = true ∧ k = true) ∨
      (c = .safetyCompare dt true ∧ s.tbAt dt % 500000 = 0 ∧ 1 ≤ s.saf.cmpBad ∧ sub = 7 ∧ b = true ∧ k = true) ∨
      (c = .compareStale dt false ∧ s.saf.cmpAt + 1500000 ≤ (s.advance dt).now ∧ sub = 9 ∧ b = false ∧ k = true) ∨
      (c = .axisDataStale dt ∧ (∃ r ∈ s.saf.ss1, r.typ = 3) ∧ (∃ n, s.monitored n = true) ∧ sub = 10 ∧ b = true ∧ k = true) ∨
      (c = .cobaltRomCheck dt false ∧ s.saf.romAt + 600000000000 ≤ (s.advance dt).now ∧ sub = 1 ∧ b = true ∧ k = true) ∨
      (c = .mirrorStale dt ∧ s.saf.mirrorAt + 2000000 ≤ (s.advance dt).now ∧ sub = 11 ∧ b = false ∧ k = false) →
      ∃ t, exec c s = .next t ∧ TorqueOff t b k ∧ SafeBy t (0x700 + sub)) ∧
    (s.saf.sto = false → s.hasLatched 0x708 = false → s.saf.cmpAt + 1500000 ≤ (s.advance dt).now → ∃ t, exec (.compareStale dt true) s = .next t ∧
      t.saf.silent = true ∧ t.saf.sto = true ∧ t.gd.blocked = true ∧ t.hasLatched 0x708 = true ∧ t.mode.mode = s.mode.mode ∧ t.ax = s.ax ∧ t.aux = s.aux) ∧
    (s.saf.sto = false → s.hasLatched 0x704 = false → ∃ t, exec (.cobaltSupplyWindow dt) s = .next t ∧ TorqueOff t true true ∧ SafeBy t 0x704) ∧
    (s.saf.sto = false → s.hasLatched 0x705 = false → ∃ t, exec (.vcoreSWindow dt) s = .next t ∧ TorqueOff t true true ∧ SafeBy t 0x705) ∧
    (s.saf.sto = false → s.hasLatched 0x709 = false → s.saf.cmpAt + 1500000 ≤ (s.advance dt).now → ∃ t, exec (.compareStale dt false) s = .next t ∧
      TorqueOff t false true ∧ SafeBy t 0x709) ∧
    (s.saf.sto = false → s.hasLatched 0x70A = false → (∃ r ∈ s.saf.ss1, r.typ = 3) → (∃ n, s.monitored n = true) → ∃ t, exec (.axisDataStale dt) s = .next t ∧
      TorqueOff t true true ∧ SafeBy t 0x70A) ∧
    (s.saf.sto = false → s.hasLatched 0x70B = false → s.saf.mirrorAt + 2000000 ≤ (s.advance dt).now → ∃ t, exec (.mirrorStale dt) s = .next t ∧
      TorqueOff t false false ∧ SafeBy t 0x70B) ∧
    (∀ sram instr time : Bool, s.tbAt dt % 100000 = 0 → ∃ t, exec (.cobaltScan dt sram instr time) s = .next t ∧
      t.saf.mirrorAt = (s.advance dt).now ∧ t.saf.mirror.latch = w32 t.latchWord ∧
      ((sram && instr && time) = false → s.saf.sto = false → s.hasLatched 0x701 = false → s.hasLatched 0x702 = false → s.hasLatched 0x703 = false →
        t.saf.sto = true ∧ SafeBy t (if instr then (if sram then 0x703 else 0x702) else 0x701))) ∧
    (s.tbAt dt % 500000 = 0 → s.saf.cobalt.filtA = s.saf.bronze.filtA → s.saf.cobalt.filtB = s.saf.bronze.filtB → s.saf.cobalt.fault = s.saf.bronze.fault →
      s.saf.cobalt.v24sOut = s.saf.bronze.v24sOut → s.saf.cobalt.conn = s.saf.bronze.conn → s.saf.ss1 = [] → s.pathActs true = s.pathActs false →
      (s.saf.sto = true → s.gd.blocked = true) → (∀ k : Fin 4, s.saf.out[k].cmdC = s.saf.out[k].cmdB) →
      ∃ t, exec (.safetyCompare dt false) s = .next t ∧ t.but s = { s.advance dt with saf := { s.saf with
        cmpAt := (s.advance dt).now, cmpCount := (s.saf.cmpCount + 1) % 65536, cmpBad := 0
        cmpSince := Vector.replicate 9 none, cmpSlot := Vector.replicate 8 none, cmpConn := Vector.replicate 16 none } }) ∧
    (s.saf.romAt + 600000000000 ≤ (s.advance dt).now → ∃ t, exec (.cobaltRomCheck dt true) s = .next t ∧
      t.but s = { s.advance dt with saf := { s.saf with romAt := (s.advance dt).now } }) ∧
    (∀ u : State, u.pwr.phase = .loading → ∃ t, exec (.pathCheckTimeout dt) u = .next t ∧
      t.but u = { u.advance dt with saf := { u.saf with pathFail := true, ptAt := (u.advance dt).now }, recs := t.recs }) ∧
    (s.saf.sto = true → s.saf.silent = false → s.gd.blocked = false ∨ s.gd.swClosed = true → s.saf.stoAt + 1000000 ≤ (s.advance dt).now → s.hasLatched 0x706 = false →
      ∃ t, exec (.pathCheckTimeout dt) s = .next t ∧ SafeBy t 0x706) ∧
    (s.saf.ptDue = false → s.saf.ptAt + s.regs.SAF_CFG * 3600000000000 < (s.advance dt).now → ∃ t, exec (.pathTestDue dt) s = .next t ∧
      t.but s = { s.advance dt with saf := { s.saf with ptDue := true }, recs := t.recs } ∧
      Wrote s t [safOf (s.tbAt dt) 0x0D0A 3 (((s.advance dt).now - s.saf.ptAt) / 3600000000000) 0])

/-- SS1_STO at the end of T on a channel's timer, and SS1R_LEAD_EXPIRY at the end of its lead, remove torque by both paths. SS1R_STANDSTILL in a channel that has seen 10 ms at standstill switches its SBC outputs off, and removes torque at once where there is no lead, or starts the lead. SBC at T less LEAD switches a channel's switch of an SBC output off. SO_DARK_TEST_START opens one channel's
switch of an output that is on; SO_DARK_TEST_END with the output below 5 V closes it again; one at 5 V or more, SO_OFF_VOLTAGE_FAULT above 12 V for 1 ms while off, and EDM_TIMEOUT make the output's fault in that channel: it is off, its cause latches, and torque is removed by the channel's path. SO_CURRENT_LIMIT_OFF marks the
output as off by itself. -/
def Obligations.StopsAndOutputs : Prop :=
  ∀ (s : State) (dt : Nat) (bronze : Bool), s.operates = true → s.saf.silent = false →
    let flt (u : State) (k : Fin 4) : Bool := if bronze then u.saf.out[k].faultB else u.saf.out[k].faultC
    (∀ (r : Ss1Run) (t0 : Nat), s.saf.sto = false → r ∈ s.saf.ss1 → (if bronze then r.atB else r.atC) = some t0 →
      t0 + nsOf (s.regs.SAF_FNk_T r.slot) ≤ (s.advance dt).now → ∃ t, exec (.ss1Sto dt bronze) s = .next t ∧ TorqueOff t true true ∧ t.mode.mode = s.mode.mode) ∧
    (∀ (r : Ss1Run) (t0 : Nat), s.saf.sto = false → r ∈ s.saf.ss1 → r.stand bronze = some t0 → t0 + s.leadNs r.slot ≤ (s.advance dt).now →
      ∃ t, exec (.ss1rLeadExpiry dt bronze) s = .next t ∧ TorqueOff t true true ∧ t.mode.mode = s.mode.mode) ∧
    (∀ (r : Ss1Run) (t0 : Nat), (s.view bronze).still = some t0 →
      s.saf.ss1.find? (fun r => r.typ == 3 && (r.since bronze).isSome && (r.stand bronze).isNone) = some r → t0 + 10000000 ≤ (s.advance dt).now →
      (s.leadNs r.slot = 0 → s.saf.sto = false → ∃ t, exec (.ss1rStandstill dt bronze) s = .next t ∧ TorqueOff t true true) ∧
      (s.leadNs r.slot ≠ 0 → ∃ t, exec (.ss1rStandstill dt bronze) s = .next t ∧ t.saf.sto = s.saf.sto ∧ t.ax = s.ax ∧ t.aux = s.aux ∧
        t.saf.ss1 = s.saf.ss1.map (fun q => if q.slot = r.slot then
          (if bronze then { q with standB := some (s.advance dt).now } else { q with standC := some (s.advance dt).now }) else q) ∧
        (∀ k : Fin 4, s.regs.SAF_SOk_CFG_MODE k = 1 → (if bronze then s.saf.out[k].sbcB else s.saf.out[k].sbcC) = false → s.saf.out[k].cmd = true →
          t.saf.out[k].cmd = false ∧ (if bronze then t.saf.out[k].sbcB else t.saf.out[k].sbcC) = true))) ∧
    (∀ (k : Fin 4) (r : Ss1Run) (t0 : Nat), r ∈ s.saf.ss1 → r.typ = 2 → r.since bronze = some t0 →
      t0 + (nsOf (s.regs.SAF_FNk_T r.slot) - s.leadNs r.slot) ≤ (s.advance dt).now → s.regs.SAF_SOk_CFG_MODE k = 1 →
      (if bronze then s.saf.out[k].sbcB else s.saf.out[k].sbcC) = false → s.saf.out[k].cmd = true →
      ∃ t, exec (.sbc dt k bronze) s = .next t ∧ t.but s = { s.advance dt with recs := t.recs, saf := { s.saf with out := vset s.saf.out k (fun o =>
        let w := if s.regs.SAF_SOk_CFG_EDM_EN k then some (true, (s.advance dt).now + s.soEdm k) else none
        let o := { o with offAt := (s.advance dt).now, offInTest := o.darkC.isSome || o.darkB.isSome, edmB := w, edmC := w }
        if bronze then { o with sbcB := true, cmdB := false, swB := false } else { o with sbcC := true, cmdC := false, swC := false }) } }) ∧
    (∀ k : Fin 4, s.saf.out[k].isOn = true → s.saf.out[k].darkC = none → s.saf.out[k].darkB = none →
      (∀ t0, (if bronze then s.saf.out[k].lastB else s.saf.out[k].lastC) = some t0 → t0 + s.soTper k ≤ (s.advance dt).now) →
      (bronze = true → s.saf.out[k].lastB = none → ∃ t0, s.saf.out[k].lastC = some t0 ∧ t0 + s.soTper k / 2 ≤ (s.advance dt).now) →
      ∃ t, exec (.soDarkTestStart dt k bronze) s = .next t ∧ t.but s = { s.advance dt with saf := { s.saf with out := vset s.saf.out k (fun o =>
        if bronze then { o with swB := false, darkB := some (s.advance dt).now, lastB := some (s.advance dt).now, offInTest := false }
        else { o with swC := false, darkC := some (s.advance dt).now, lastC := some (s.advance dt).now, offInTest := false }) } }) ∧
    (∀ (k : Fin 4) (t0 mv : Nat), (if bronze then s.saf.out[k].darkB else s.saf.out[k].darkC) = some t0 → t0 + s.soTpw k ≤ (s.advance dt).now →
      s.saf.out[k].offInTest = false →
      (mv < 5000 → ∃ t, exec (.soDarkTestEnd dt k bronze mv) s = .next t ∧ t.but s = { s.advance dt with saf := { s.saf with out := vset s.saf.out k (fun o =>
        if bronze then { o with darkB := none, swB := o.cmdB, discarded := false } else { o with darkC := none, swC := o.cmdC, discarded := false }) } }) ∧
      (5000 ≤ mv → s.saf.sto = false → flt s k = false → ∃ t, exec (.soDarkTestEnd dt k bronze mv) s = .next t ∧
        flt t k = true ∧ t.saf.out[k].cmd = false ∧ TorqueOff t bronze (!bronze) ∧ SafeBy t (0x500 + k.val))) ∧
    (∀ (k : Fin 4) (mv : Nat), s.saf.sto = false → flt s k = false → s.saf.out[k].cmd = false → 12000 < mv →
      s.saf.out[k].offAt + 1000000 ≤ (s.advance dt).now → ∃ t, exec (.soOffVoltageFault dt k mv bronze) s = .next t ∧
      flt t k = true ∧ t.saf.out[k].cmd = false ∧ TorqueOff t bronze (!bronze) ∧ SafeBy t (0x500 + k.val)) ∧
    (∀ (k : Fin 4) (level : Bool) (t0 : Nat), s.saf.sto = false → flt s k = false →
      (if bronze then s.saf.out[k].edmB else s.saf.out[k].edmC) = some (level, t0) → t0 ≤ (s.advance dt).now →
      s.saf.edm.getLsbD k.val ≠ level → ∃ t, exec (.edmTimeout dt k bronze) s = .next t ∧
      flt t k = true ∧ t.saf.out[k].cmd = false ∧ TorqueOff t bronze (!bronze) ∧ SafeBy t (0x500 + k.val)) ∧
    (∀ k : Fin 4, s.saf.out[k].isOn = true → ∃ t, exec (.soCurrentLimitOff dt k) s = .next t ∧ t.but s = { s.advance dt with saf := { s.saf with
      out := vset s.saf.out k (fun o =>
        let w := some (false, (s.advance dt).now + s.soEdm k)
        { o with
          limited := true
          edmC := if s.regs.SAF_SOk_CFG_EDM_EN k then w else o.edmC, edmB := if s.regs.SAF_SOk_CFG_EDM_EN k then w else o.edmB }) } })

/-- SRST_PRESS notes the press; SRST_BRONZE_TIMER 70 ms into it lets Bronze know it; SRST_STUCK at 30 s marks the contact stuck; SRST_LOW_TIMER after 1 s low ends what keeps it stuck. SRST_RELEASE, where no demand comes at its instant (such a demand comes first, R351), of a press from 0.1 s to 3.0 s that Bronze knew, in SAFE, with the contact not stuck and every cause clear and STO acting, is accepted (result 1) and
waits for the boundary; with a cause that is not clear it has result 2, too short 3, too long 4, stuck 5, outside SAFE 7. -/
def Obligations.ResetContact : Prop :=
  ∀ (s : State) (dt : Nat),
    (s.saf.srst.high = false → ∃ t, exec (.srstPress dt) s = .next t ∧ t.but s = { s.advance dt with saf := { s.saf with srst := { s.saf.srst with
      high := true, pressAt := (s.advance dt).now, bronze := false, stuckPress := false
      lowOk := s.saf.srst.lowOk && decide (s.saf.srst.lowAt + 1000000000 ≤ (s.advance dt).now) } } }) ∧
    (s.saf.srst.high = true → s.saf.srst.pressAt + 70000000 ≤ (s.advance dt).now → ∃ t, exec (.srstBronzeTimer dt) s = .next t ∧
      t.but s = { s.advance dt with saf := { s.saf with srst := { s.saf.srst with bronze := true } } }) ∧
    (s.running = true → s.saf.srst.high = true → s.saf.srst.pressAt + 30000000000 ≤ (s.advance dt).now → ∃ t, exec (.srstStuck dt) s = .next t ∧
      t.but s = { s.advance dt with saf := { s.saf with srst := { s.saf.srst with stuck := true, stuckPress := true } } }) ∧
    (s.saf.srst.high = false → s.saf.srst.lowAt + 1000000000 ≤ (s.advance dt).now → ∃ t, exec (.srstLowTimer dt) s = .next t ∧
      t.but s = { s.advance dt with saf := { s.saf with srst := { s.saf.srst with lowOk := true } } }) ∧
    (∀ d result : Nat, s.running = true → s.saf.srst.high = true → (s.advance dt).demandsFirst = s.advance dt → d = (s.advance dt).now - s.saf.srst.pressAt →
      (s.saf.srst.stuckPress = true ∧ result = 5) ∨
      (s.saf.srst.stuckPress = false ∧ (d < 100000000 ∨ s.saf.srst.bronze = false) ∧ result = 3) ∨
      (s.saf.srst.stuckPress = false ∧ s.saf.srst.bronze = true ∧ 3000000000 < d ∧ result = 4) ∨
      (s.saf.srst.stuckPress = false ∧ s.saf.srst.bronze = true ∧ 100000000 ≤ d ∧ d ≤ 3000000000 ∧ s.mode.mode ≠ .safe ∧ result = 7) ∨
      (s.saf.srst.stuckPress = false ∧ s.saf.srst.bronze = true ∧ 100000000 ≤ d ∧ d ≤ 3000000000 ∧ s.mode.mode = .safe ∧ s.saf.srst.stuck = false ∧
        ((s.srstMay = true ∧ result = 1) ∨ (s.srstMay = false ∧ result = 2))) →
      ∃ t, exec (.srstRelease dt) s = .next t ∧ t.but s = { s.advance dt with recs := t.recs, saf := { s.saf with srst := { s.saf.srst with
          high := false, lowAt := (s.advance dt).now, lowOk := false, stuckPress := false
          accepted := if result = 1 then some (s.tbAt dt, d / 1000000) else s.saf.srst.accepted
          result := result, ms := min (min (d / 1000000) 0xFFFFFFFF) 0xFFFF } } } ∧
        Wrote s t [safOf (s.tbAt dt) 0x0D09 result (min (d / 1000000) 0xFFFFFFFF) s.latchWord])

/-- ENVELOPE_RECEIVED for a consumed connection: each channel takes the bits of one that passes every check there (length, CHECK over the connection's identity, complement of DATA, SEQ above the last that channel took, age) and the third makes the connection valid in it, in Cobalt with its record; what Cobalt discards is counted. One of a fabric connection is also recorded as a fabric frame, where its type is selected. CONNECTION_LOST when the
watchdog time has passed in a channel since the last one clears its bits there and marks it lost, and latches where a function slot uses it; the record is the first channel's. ENVELOPE_SEND of a produced connection that is due (none sent yet, the period over, or DATA changed at a Cobalt scan) sends SEQ, the time, DATA with its complement and CHECK on the connection's CAN controller, and counts SEQ on; one that is not due sends nothing. -/
def Obligations.SafeMessages : Prop :=
  ∀ (s : State) (dt : Nat) (c : Fin 16), s.running = true →
    (∀ b : List Byte, s.consumes c = true →
      let pass (bronze : Bool) : Prop := b.length = 24 ∧ w32 (leAt b 20 4) = envCheck (s.regs.SAF_CONc_ID c) b ∧ w32 (leAt b 16 4) = ~~~ w32 (leAt b 12 4) ∧
        (∀ q, (s.view bronze).conn[c].last = some q →
          1 ≤ (leAt b 0 4 + 0x100000000 - q) % 0x100000000 ∧ (leAt b 0 4 + 0x100000000 - q) % 0x100000000 ≤ 0x7FFFFFFF) ∧
        (s.regs.SAF_CONc_CFG_AGE c = true → s.tbs.synced = true → bit (w32 (leAt b 12 4)) 31 = true →
          leAt b 4 8 ≤ s.tbAt dt + 1000 ∧ s.tbAt dt - leAt b 4 8 ≤ s.regs.SAF_CONc_TIM_WDT c * 1000000)
      let took (x : SafRecv) : SafRecv := {
        last := some (leAt b 0 4), run := min 3 (x.run + 1), bits := w32 (leAt b 12 4), at' := (s.advance dt).now, stamp := s.tbAt dt
        valid := x.valid || decide (2 ≤ x.run) }
      let into (v : SafView) : SafView := { v with conn := vset v.conn c took }
      (¬ pass false → ¬ pass true → ∃ t, exec (.envelopeReceived dt c b) s = .next t ∧ t.but s = { s.advance dt with
        recs := t.recs, freeIx := t.freeIx
        saf := { s.saf with conn := vset s.saf.conn c (fun x => { x with disc := satInc 16 x.disc, discNew := x.discNew + 1 }) } } ∧ WroteAfterFrame s t 6 []) ∧
      (¬ pass false → pass true → ∃ t, exec (.envelopeReceived dt c b) s = .next t ∧ t.but s = { s.advance dt with
        recs := t.recs, freeIx := t.freeIx
        saf := { s.saf with
          bronze := into s.saf.bronze, conn := vset s.saf.conn c (fun x => { x with disc := satInc 16 x.disc, discNew := x.discNew + 1 }) } } ∧
        WroteAfterFrame s t 6 []) ∧
      (pass false → pass true → s.saf.cobalt.conn[c].run < 2 ∨ s.saf.cobalt.conn[c].valid = true → ∃ t, exec (.envelopeReceived dt c b) s = .next t ∧
        t.but s = { s.advance dt with
          recs := t.recs, freeIx := t.freeIx
          saf := { s.saf with
            bronze := into s.saf.bronze, cobalt := into s.saf.cobalt, conn := vset s.saf.conn c (fun x => { x with seqShown := w32 (leAt b 0 4) }) } } ∧
        WroteAfterFrame s t 6 []) ∧
      (pass false → pass true → 2 ≤ s.saf.cobalt.conn[c].run → s.saf.cobalt.conn[c].valid = false → ∃ t, exec (.envelopeReceived dt c b) s = .next t ∧
        t.but s = { s.advance dt with
          recs := t.recs, freeIx := t.freeIx
          saf := { s.saf with
            bronze := into s.saf.bronze, cobalt := into s.saf.cobalt
            conn := vset s.saf.conn c (fun x => { x with seqShown := w32 (leAt b 0 4), discNew := 0 }) } } ∧
        WroteAfterFrame s t 6 [safOf (s.tbAt dt) 0x0D05 c.val s.saf.conn[c].discNew (leAt b 0 4)])) ∧
    (∀ bronze : Bool, s.consumes c = true → s.saf.silent = false → (s.view bronze).conn[c].run ≠ 0 →
      (s.view bronze).conn[c].at' + s.regs.SAF_CONc_TIM_WDT c * 1000000 ≤ (s.advance dt).now →
      let first : Bool := (s.view (!bronze)).conn[c].run != 0
      let out (v : SafView) : SafView := { v with conn := vset v.conn c (fun _ => {}) }
      (s.slotsOf c.val = [] → ∃ t, exec (.connectionLost dt c bronze) s = .next t ∧ t.but s = { s.advance dt with recs := t.recs, saf := { s.saf with
        bronze := if bronze then out s.saf.bronze else s.saf.bronze, cobalt := if bronze then s.saf.cobalt else out s.saf.cobalt
        conn := vset s.saf.conn c (fun x => { x with lost := true, discNew := if first then 0 else x.discNew }) } } ∧
        Wrote s t (if first then [safOf (s.tbAt dt) 0x0D05 (c.val + 256) s.saf.conn[c].discNew s.saf.conn[c].seqShown.toNat bronze] else [])) ∧
      (s.slotsOf c.val ≠ [] → s.operates = true → ∃ t, exec (.connectionLost dt c bronze) s = .next t ∧ SafeBy t (0x400 + c.val) ∧
        (t.view bronze).conn[c].valid = false ∧ (t.view bronze).conn[c].bits = 0 ∧ t.saf.conn[c].lost = true)) ∧
    (s.produces c = true →
      let data : Word := s.saf.mirror.data
      let due : Prop := s.saf.conn[c].sent = none ∨ s.saf.conn[c].sentAt + s.regs.SAF_CONc_TIM_PER c * 100000 ≤ (s.advance dt).now ∨
        (s.tbAt dt % 100000 = 0 ∧ s.saf.mirrorAt = (s.advance dt).now ∧ s.saf.conn[c].sent ≠ some data)
      let head : List Byte := leBytes 4 (s.saf.conn[c].next % 2 ^ 32) ++ leBytes 8 (s.tbAt dt) ++ leBytes 4 data.toNat ++ leBytes 4 (~~~ data).toNat
      (due → ∀ k : Fin 2, s.regs.SAF_CONc_CFG_CH c = 2 + k.val → ∃ t, exec (.envelopeSend dt c) s = .next t ∧ t.but s = { s.advance dt with
        saf := { s.saf with conn := vset s.saf.conn c (fun x => { x with
          next := (x.next + 1) % 2 ^ 32, sent := some data, sentAt := (s.advance dt).now, seqShown := w32 x.next }) }
        can := if s.can[k].busOff then s.can else vset s.can k (fun x => { x with txSaf := x.txSaf.set c (some ⟨s.regs.SAF_CONc_ADDR c, s.regs.SAF_CONc_CFG_IDE c, true, s.regs.CANn_CFG_BRS k,
          head ++ leBytes 4 (envCheck (s.regs.SAF_CONc_ID c) head).toNat, (s.advance dt).now⟩) }) }) ∧
      (¬ due → ∃ t, exec (.envelopeSend dt c) s = .next t ∧ t.but s = s.advance dt))

/-! ## The fabric -/

/-- LINK_RUN of a starting link brings it to HELLO with its measured rate, a rate of its own of at least 320 Mbit/s, and a HELLO out. HELLO_SEND on an ACTIVE or PARKED link 10 ms after the last sends the next. NO_HELLO 10 ms after Run parks the link with reason 3. EXCHANGE_ERROR during nothing that goes on to others counts and restarts the link, at 10 Mbit/s again, and what it was sending breaks off; 8 of them, or 32 bad packets, within 1 s let LINK_DOWN take it DOWN, and LINK_DOWN_END 1 s
later starts it again. LINK_SILENT 50 ms after the last HELLO restarts an ACTIVE link, with its record. The other links stay as they were. FABRIC_LOSS after FAB_LOSS_T without a working link sets stop cause 2. -/
def Obligations.LinkStates : Prop :=
  ∀ (s : State) (dt : Nat) (k : Fin 6), s.running = true →
    (∀ rate : Nat, s.fab.links[k].state = .start → s.linkIdle k → ∃ t, exec (.linkRun dt k rate) s = .next t ∧
      t.but s = { s.advance dt with fab := t.fab, recs := t.recs, freeIx := s.freeIx + 1 } ∧ OnlyLink s t k ∧ t.fab.links[k].state = .hello ∧
      t.fab.links[k].runAt = (s.advance dt).now ∧ t.fab.links[k].rateRx = (rate : Rat) ∧ 320000000 ≤ t.fab.links[k].rateTx ∧
      HopSent s t dt k 1 (s.helloBytes k)) ∧
    (s.fab.links[k].state = .active ∨ s.fab.links[k].state = .parked → s.fab.links[k].helloTx + 10000000 ≤ (s.advance dt).now → s.linkIdle k → ∃ t, exec (.helloSend dt k) s = .next t ∧
      t.but s = { s.advance dt with fab := t.fab, recs := t.recs } ∧ OnlyLink s t k ∧ t.fab.links[k] = { s.fab.links[k] with helloTx := (s.advance dt).now } ∧
      HopSent s t dt k 1 (s.helloBytes k)) ∧
    (s.fab.links[k].state = .hello → s.fab.links[k].runAt + 10000000 ≤ (s.advance dt).now → ∃ t, exec (.noHello dt k) s = .next t ∧
      t.but s = { s.advance dt with fab := t.fab, mode := { s.mode with stop := t.mode.stop }, recs := t.recs } ∧ OnlyLink s t k ∧
      t.fab.links[k] = { s.fab.links[k] with state := .parked, park := 3 } ∧
      Wrote s t [evtOf (s.tbAt dt) (Unit.link k.val) 0x0E04 3 (s.partnerId k % 2 ^ 32)]) ∧
    (∀ (e : ExchangeErr) (part : List Byte), s.fab.links[k].state ≠ .off → s.fab.links[k].state ≠ .down →
      s.fab.links[k].state ≠ .active ∨ (byteAt part 0).testBit 7 = false ∨ isHop (byteAt part 2) = true → ∃ t, exec (.exchangeError dt k e part) s = .next t ∧
      (∀ o ∈ t.fab.out, o.link = k.val → o.till ≤ (s.advance dt).now) ∧
      t.but s = { s.advance dt with fab := t.fab, mode := { s.mode with stop := t.mode.stop }, recs := t.recs } ∧ OnlyLink s t k ∧
      t.fab.links[k] = { s.fab.links[k] with
        state := .start, park := 0, rateTx := 10000000, bulkRx := none, t1 := none, reqAt := none
        exch := satInc 16 s.fab.links[k].exch, runs := t.fab.links[k].runs
        errAt := s.fab.links[k].errAt.filter (fun u => decide ((s.advance dt).now < u + 1000000000)) ++ [(s.advance dt).now] }) ∧
    (∀ e b : Nat, s.fab.links[k].state ≠ .off → s.fab.links[k].state ≠ .down →
      e = (s.fab.links[k].errAt.filter (fun u => decide ((s.advance dt).now < u + 1000000000))).length →
      b = (s.fab.links[k].badAt.filter (fun u => decide ((s.advance dt).now < u + 1000000000))).length → 8 ≤ e ∨ 32 ≤ b → ∃ t, exec (.linkDown dt k) s = .next t ∧
      t.but s = { s.advance dt with fab := t.fab, mode := { s.mode with stop := t.mode.stop }, recs := t.recs } ∧ OnlyLink s t k ∧
      t.fab.links[k].state = .down ∧ t.fab.links[k].downAt = (s.advance dt).now ∧ t.fab.links[k].downs = satInc 16 s.fab.links[k].downs ∧
      Wrote s t [evtOf (s.tbAt dt) (Unit.link k.val) 0x0E03 (if 8 ≤ e then 1 else 2) (if 8 ≤ e then e else b)]) ∧
    (s.fab.links[k].state = .down → s.fab.links[k].downAt + 1000000000 ≤ (s.advance dt).now → ∃ t, exec (.linkDownEnd dt k) s = .next t ∧
      t.but s = { s.advance dt with fab := t.fab, mode := { s.mode with stop := t.mode.stop } } ∧ OnlyLink s t k ∧
      t.fab.links[k] = { s.fab.links[k] with state := .start, park := 0, rateTx := 10000000, bulkRx := none, t1 := none, reqAt := none }) ∧
    (s.fab.links[k].state = .active → s.fab.links[k].helloRx + 50000000 ≤ (s.advance dt).now → ∃ t, exec (.linkSilent dt k) s = .next t ∧
      t.but s = { s.advance dt with fab := t.fab, mode := { s.mode with stop := t.mode.stop }, recs := t.recs } ∧ OnlyLink s t k ∧
      t.fab.links[k] = { s.fab.links[k] with state := .start, park := 0, rateTx := 10000000, bulkRx := none, t1 := none, reqAt := none } ∧
      Wrote s t [evtOf (s.tbAt dt) (Unit.link k.val) 0x0E02 7 1]) ∧
    (∀ since : Nat, s.fab.noLink = some since → s.regs.DEV_MODE_CFG_FAB_LOSS = true → since + 10000000 * s.regs.DEV_MODE_CFG_FAB_LOSS_T ≤ (s.advance dt).now →
      ∃ t, exec (.fabricLoss dt) s = .next t ∧ t.but s = { s.advance dt with mode := { s.mode with stop := s.mode.stop ||| 4#7 } })

/-- HELLO_RECEIVED in HELLO notes the partner: with no reason to park the link it is ACTIVE, with its record, and a device without an address and no JOIN out yet sends its JOIN to a partner with one; with a reason it is parked, with its record; from the same partner on an ACTIVE link it is noted, and the same two follow where it shows them the first time. Each message that comes may write its FRAME_FAB record first. JOIN_RECEIVED: a hypercube root that finds the claimed address free registers it and answers ADMIT; a device with an address
relays it toward the root; a refused device answers with a refusal. JOIN_REPEAT 1 s after the last JOIN sends it again. ADMIT_RECEIVED of this device's own gives it the address, or the refusal, which parks its links; one that it relays goes on to where the JOIN came from. -/
def Obligations.JoiningTheFabric : Prop :=
  ∀ (s : State) (dt : Nat) (k : Fin 6), s.running = true →
    (∀ b : List Byte, b.length = 32 →
      (s.fab.links[k].state = .hello → s.fab.excess = false → s.fab.addr = none → s.parkReason k (partnerOf b) = 0 → ∃ t, exec (.helloReceived dt k b) s = .next t ∧
        t.but s = { s.advance dt with fab := t.fab, mode := { s.mode with stop := t.mode.stop }, recs := t.recs, freeIx := t.freeIx } ∧ OnlyLink s t k ∧
        t.fab.links[k] = { s.fab.links[k] with
          state := .active, partner := some (partnerOf b), helloRx := (s.advance dt).now, upAt := (s.advance dt).now } ∧
        ((partnerOf b).root = true → t.fab.ownRoot = some (partnerOf b).id) ∧
        ((partnerOf b).addr = none ∨ s.fab.joinAt ≠ none → t.fab.out = s.fab.out ∧
          WroteAfterFrame s t 0 [evtOf (s.tbAt dt) (Unit.link k.val) 0x0E01 (partnerOf b).link ((partnerOf b).id % 2 ^ 32)]) ∧
        ((partnerOf b).addr ≠ none → s.fab.joinAt = none → s.linkIdle k → t.fab.joinAt = some (s.advance dt).now ∧ ∃ parts, HopSent s t dt k 2
          (leBytes 8 ownId ++ leBytes 1 (if s.regs.FAB_CFG_TOPO then 64 else Nat.xor ((partnerOf b).addr.getD 0) (2 ^ k.val)) ++ zeros 7 ++ parts))) ∧
      (∀ r : Nat, s.fab.links[k].state = .hello → s.fab.excess = false → s.fab.addr = none → s.parkReason k (partnerOf b) = r → r ≠ 0 →
        ∃ t, exec (.helloReceived dt k b) s = .next t ∧
        t.but s = { s.advance dt with fab := t.fab, mode := { s.mode with stop := t.mode.stop }, recs := t.recs, freeIx := t.freeIx } ∧ OnlyLink s t k ∧
        t.fab.links[k] = { s.fab.links[k] with state := .parked, park := r, partner := some (partnerOf b), helloRx := (s.advance dt).now } ∧
        WroteAfterFrame s t 0 [evtOf (s.tbAt dt) (Unit.link k.val) 0x0E04 r ((partnerOf b).id % 2 ^ 32)]) ∧
      (∀ p : Partner, s.fab.links[k].state = .active → s.fab.links[k].partner = some p → p.id = (partnerOf b).id →
        (s.parkReason k (partnerOf b) = 0 → s.fab.joinDue = false → s.fab.addr ≠ none ∨ (partnerOf b).addr = none ∨ s.fab.joinAt ≠ none → ∃ t, exec (.helloReceived dt k b) s = .next t ∧
          t.but s = { s.advance dt with
            fab := { s.fab with links := vset s.fab.links k (fun l => { l with partner := some (partnerOf b), helloRx := (s.advance dt).now }) }
            recs := t.recs, freeIx := t.freeIx } ∧ WroteAfterFrame s t 0 []) ∧
        (s.parkReason k (partnerOf b) = 0 → s.fab.addr = none → s.fab.excess = false → (partnerOf b).addr ≠ none → s.fab.joinAt = none → s.linkIdle k →
          ∃ t, exec (.helloReceived dt k b) s = .next t ∧ OnlyLink s t k ∧ t.fab.joinAt = some (s.advance dt).now ∧
          t.fab.links[k] = { s.fab.links[k] with partner := some (partnerOf b), helloRx := (s.advance dt).now } ∧ ∃ payload, HopSent s t dt k 2 payload) ∧
        (∀ r : Nat, s.parkReason k (partnerOf b) = r → r ≠ 0 → ∃ t, exec (.helloReceived dt k b) s = .next t ∧ OnlyLink s t k ∧
          t.fab.links[k] = { s.fab.links[k] with state := .parked, park := r, partner := some (partnerOf b), helloRx := (s.advance dt).now } ∧ t.fab.out = s.fab.out ∧
          WroteAfterFrame s t 0 [evtOf (s.tbAt dt) (Unit.link k.val) 0x0E04 r ((partnerOf b).id % 2 ^ 32)]))) ∧
    (∀ b : List Byte, b.length = 64 → s.fab.links[k].state = .active → (∀ j : Fin 6, s.linkIdle j) →
      (∀ claim : Nat, s.regs.FAB_CFG_ROOT = true → s.regs.FAB_CFG_TOPO = false → claim = byteAt b 8 → claim < 64 →
        (∀ r ∈ s.fab.registry, r.2 = claim → r.1 = leAt b 0 8) → s.fab.registry.length < 64 → ∃ t, exec (.joinReceived dt k b) s = .next t ∧
        t.but s = { s.advance dt with fab := t.fab, recs := t.recs, freeIx := t.freeIx } ∧ t.fab.links = s.fab.links ∧
        t.fab.registry = s.fab.registry.filter (fun r => r.1 != leAt b 0 8) ++ [(leAt b 0 8, claim)] ∧
        HopSent s t dt k 3 (leBytes 8 (leAt b 0 8) ++ leBytes 1 claim ++ leBytes 2 s.fab.tblVer ++ zeros 5)) ∧
      (∀ (a : Nat) (j : Fin 6), s.regs.FAB_CFG_ROOT = false → s.fab.excess = false → s.fab.addr = some a → s.rootLink = some j → s.linkCarries j 2 = true → ∃ t, exec (.joinReceived dt k b) s = .next t ∧
        t.but s = { s.advance dt with fab := t.fab, recs := t.recs, freeIx := t.freeIx } ∧ t.fab.links = s.fab.links ∧
        t.fab.relays = s.fab.relays.filter (fun r => r.1 != leAt b 0 8) ++ [(leAt b 0 8, k.val)] ∧
        HopSent s t dt j 2 (leBytes 8 (leAt b 0 8) ++ leBytes 1 (byteAt b 8) ++ zeros 7 ++ ((List.range 6).map (fun i => leAt b (16 + 8 * i) 8)).flatMap (leBytes 8))) ∧
      (s.regs.FAB_CFG_ROOT = false → s.fab.excess = true → ∃ t, exec (.joinReceived dt k b) s = .next t ∧
        t.but s = { s.advance dt with fab := t.fab, recs := t.recs, freeIx := t.freeIx } ∧ t.fab.links = s.fab.links ∧
        HopSent s t dt k 3 (leBytes 8 (leAt b 0 8) ++ leBytes 1 64 ++ leBytes 2 s.fab.tblVer ++ zeros 5))) ∧
    (∀ since : Nat, s.fab.joinAt = some since → since + 1000000000 ≤ (s.advance dt).now → (∀ j : Fin 6, s.linkIdle j) → s.fab.addr = none → s.fab.excess = false → s.fab.links[k].state = .active →
      (∃ p, s.fab.links[k].partner = some p ∧ p.addr ≠ none) → ∃ t, exec (.joinRepeat dt) s = .next t ∧
      t.but s = { s.advance dt with fab := t.fab, recs := t.recs } ∧ t.fab.links = s.fab.links ∧ t.fab.joinAt = some (s.advance dt).now ∧
      (∃ (j : Fin 6) (payload : List Byte), s.fab.links[j].state = .active ∧ HopSent s t dt j 2 payload)) ∧
    (∀ b : List Byte, b.length = 16 → s.fab.links[k].state = .active →
      (leAt b 0 8 = ownId → s.fab.addr = none → s.fab.excess = false →
        (byteAt b 8 < 64 → ∃ t, exec (.admitReceived dt k b) s = .next t ∧ t.fab.addr = some (byteAt b 8) ∧ t.fab.links = s.fab.links ∧ t.fab.out = s.fab.out) ∧
        (64 ≤ byteAt b 8 → ∃ t, exec (.admitReceived dt k b) s = .next t ∧ t.fab.addr = none ∧ t.fab.excess = true ∧ t.fab.out = s.fab.out ∧
          (∀ j : Fin 6, s.fab.links[j].state = .active ∨ s.fab.links[j].state = .hello → t.fab.links[j] = { s.fab.links[j] with state := .parked, park := 5 }))) ∧
      (∀ (id : Nat) (j : Fin 6), leAt b 0 8 = id → id ≠ ownId → s.fab.relays.find? (fun r => r.1 == id) = some (id, j.val) → s.linkCarries j 3 = true → s.linkIdle j →
        ∃ t, exec (.admitReceived dt k b) s = .next t ∧ t.fab.addr = s.fab.addr ∧ t.fab.relays = s.fab.relays.filter (fun q => q.1 != id) ∧ HopSent s t dt j 3 b))

/-- ROUTES_RECEIVED keeps the table that has come, beside those of other versions; ROUTES_APPLY, taken once for its source and SEQ, waits for its instant; ROUTES at that instant brings the table of that version into force, or ignores the command and counts it, with a record either way. FREEZE_AT, taken once and permitted, waits as the freeze; one that is not permitted is counted as refused. SYNC_REQ_SEND in its millisecond sends an exchange
to the parent; SYNC_REQ_RECEIVED notes the child and answers with arrival, departure and hops; SYNC_RESP_RECEIVED from the parent loads TB_NOW the first time, and later measures the offset and sets a trim of at most 20,000. SYNC_LOST 20 ms after the last exchange, or after 100 ms at the limit of the trim, marks the loss, with its record. -/
def Obligations.RoutesAndTime : Prop :=
  ∀ (s : State) (dt : Nat), s.running = true →
    (∀ b : List Byte, b.length = 66 → ∃ t, exec (.routesReceived dt b) s = .next t ∧ t.but s = { s.advance dt with
      fab := { s.fab with tblNext := s.fab.tblNext.filter (fun x => x.1 != leAt b 0 2) ++ [(leAt b 0 2, (b.drop 2).map (fun y => min y.toNat 7))] }, recs := t.recs, freeIx := t.freeIx } ∧
      WroteAfterFrame s t 1 []) ∧
    (∀ (src : BitVec 6) (seq : BitVec 16) (at' : Nat) (ver : BitVec 16),
      let seen : List (Nat × Nat × Nat) := ((src.toNat, 7, seq.toNat) :: s.fab.seen).take 1024
      (s.fab.seen.contains (src.toNat, 7, seq.toNat) = false →
        (∃ t, exec (.routesApply dt src seq at' ver) s = .next t ∧ t.but s = { s.advance dt with
          fab := { s.fab with seen := seen, applyAt := s.fab.applyAt ++ [(at', ver.toNat)] }, recs := t.recs, freeIx := t.freeIx } ∧ WroteAfterFrame s t 3 []) ∧
        (s.frzReason 4 false = 0 → s.frz.pending = none → ∃ t, exec (.freezeAt dt src seq at' ver) s = .next t ∧ t.but s = { s.advance dt with
          fab := { s.fab with seen := seen }, recs := t.recs, freeIx := t.freeIx
          frz := { s.frz with pending := some { at' := max at' (s.tbAt dt), stamp := at', cause := ver.toNat, source := 4, origin := src.toNat } } }) ∧
        (s.frzReason 4 false ≠ 0 → ∃ t, exec (.freezeAt dt src seq at' ver) s = .next t ∧ t.but s = { s.advance dt with
          fab := { s.fab with seen := seen }, recs := t.recs, freeIx := t.freeIx
          frz := { s.frz with lastRefuse := s.frzReason 4 false, refused := satInc 16 s.frz.refused } })) ∧
      (s.fab.seen.contains (src.toNat, 7, seq.toNat) = true →
        (∃ t, exec (.routesApply dt src seq at' ver) s = .next t ∧ t.but s = { s.advance dt with fab := { s.fab with seen := seen }, recs := t.recs, freeIx := t.freeIx }) ∧
        (∃ t, exec (.freezeAt dt src seq at' ver) s = .next t ∧ t.but s = { s.advance dt with fab := { s.fab with seen := seen }, recs := t.recs, freeIx := t.freeIx }))) ∧
    (∀ at' ver : Nat, s.fab.applyAt.find? (fun a => decide (a.1 ≤ s.tbAt dt)) = some (at', ver) →
      (∀ tab : List Nat, s.fab.tblNext.find? (fun x => x.1 == ver) = some (ver, tab) → s.fab.tblVer < ver → s.fab.joinDue = false → ∃ t, exec (.routes dt) s = .next t ∧
        t.but s = { s.advance dt with recs := t.recs, fab := { s.fab with
          applyAt := s.fab.applyAt.erase (at', ver), tblVer := ver, tblNext := s.fab.tblNext.filter (fun x => decide (ver < x.1)), routes := Vector.ofFn (fun d : Fin 64 => tab.getD d.val 7) } } ∧
        Wrote s t [evtOf at' Unit.dev 0x0E07 1 ver]) ∧
      (s.fab.tblNext.find? (fun x => x.1 == ver) = none ∨ ver ≤ s.fab.tblVer → ∃ t, exec (.routes dt) s = .next t ∧
        t.but s = { s.advance dt with recs := t.recs, fab := { s.fab with
          applyAt := s.fab.applyAt.erase (at', ver), applyIgnored := s.fab.applyIgnored + 1 } } ∧
        Wrote s t [evtOf at' Unit.dev 0x0E07 2 ver])) ∧
    (∀ k : Fin 6, s.parent = some k →
      (s.tbAt dt / 1000000 * 1000000 + 10000 * k.val ≤ s.tbAt dt → s.fab.links[k].reqMs ≠ some (s.tbAt dt / 1000000) → s.linkIdle k → ∃ t word, exec (.syncReqSend dt) s = .next t ∧
        t.but s = { s.advance dt with fab := t.fab, recs := t.recs, freeIx := s.freeIx + 1 } ∧ OnlyLink s t k ∧
        t.fab.links[k] = { s.fab.links[k] with t1 := some (s.tbAt dt), reqMs := some (s.tbAt dt / 1000000) } ∧ HopSent s t dt k 5 (leBytes 4 word ++ zeros 4)) ∧
      (∀ (b : List Byte) (t1 : Nat) (d aim : Rat), b.length = 24 → s.fab.links[k].state = .active → s.fab.links[k].t1 = some t1 →
        d = ((((s.tbAt dt : Nat) - t1 : Int) - ((leAt b 8 8 : Nat) - (leAt b 0 8 : Nat) : Int) : Int) : Rat) / 2 →
        aim = (leAt b 8 8 : Rat) + minDelay ((d :: s.fab.links[k].delays).take 64) →
        (s.tbs.loaded = false → byteAt b 16 < 15 → ∃ t, exec (.syncRespReceived dt k b) s = .next t ∧ t.clk.tb = (aim / 2).floor.toNat * 2 ∧ t.tbs.loaded = true ∧
          t.fab.lastEx = (s.advance dt).now ∧ t.tbs.hops = some (s.hopCount k) ∧ OnlyLink s t k ∧ t.ax = s.ax ∧ t.regs = s.regs) ∧
        (s.tbs.loaded = false → 15 ≤ byteAt b 16 → ∃ t, exec (.syncRespReceived dt k b) s = .next t ∧ t.clk = (s.advance dt).clk ∧ t.tbs.loaded = false) ∧
        (s.tbs.loaded = true → ∃ t, exec (.syncRespReceived dt k b) s = .next t ∧ t.clk = (s.advance dt).clk ∧ t.tbs.offset = ((s.tbAt dt : Rat) - aim).floor ∧
          -20000 ≤ t.tbs.trim ∧ t.tbs.trim ≤ 20000 ∧ t.fab.lastEx = (s.advance dt).now ∧ OnlyLink s t k ∧ t.ax = s.ax ∧ t.regs = s.regs))) ∧
    (∀ k : Fin 6, s.fab.links[k].state = .active → s.linkIdle k → ∃ t, exec (.syncReqReceived dt k) s = .next t ∧
      t.but s = { s.advance dt with fab := t.fab, recs := t.recs, freeIx := t.freeIx } ∧
      t.fab.links = vset s.fab.links k (fun l => { l with reqAt := some (s.advance dt).now }) ∧
      HopSent s t dt k 6 (leBytes 8 (s.tbAt dt) ++ leBytes 8 (s.tbAt dt) ++ leBytes 1 s.hopsShown ++ zeros 7)) ∧
    (∀ limit : Bool, s.tbs.loaded = true → s.tbs.syncLost = false →
      (if limit then ∃ since, s.fab.trimLim = some since ∧ since + 100000000 ≤ (s.advance dt).now
        else s.fab.lastEx + 20000000 ≤ (s.advance dt).now) →
      ∃ t, exec (.syncLost dt limit) s = .next t ∧ t.but s = { s.advance dt with
        tbs := { s.tbs with syncLost := true, lostSince := s.tbAt dt, synced := false }, fab := { s.fab with lossOff := none }, recs := t.recs } ∧
      Wrote s t [timeOf (s.tbAt dt) 0x0204 (b2n limit) (twos 8 s.tbs.offset) (twos 8 s.tbs.trim)])

/-- Where nothing waits at the inputs and no packet type is recorded: URGENT_PACKET_RECEIVED of a good HELLO, JOIN, ADMIT, SYNC_REQ or SYNC_RESP does what the command of that message does; a packet for another device, by a known route, leaves at once on a link that is ACTIVE and idle, with HOPS one higher, or waits for it, whether its end has shown it good, bad or broken (R372); one whose HOPS comes to 15 or that has no route is discarded and counted; a packet that fails a check
is counted as bad. The time-codes among its characters are counted. BULK_SEGMENT_RECEIVED of a first segment that is not the last begins a packet; EEP ends it; a segment out of order ends it and is counted as bad. PACKET_WAIT_TIMEOUT after 100 us, or 10 ms of a bulk packet, discards the packet that no link has taken and counts it. -/
def Obligations.PacketsOnALink : Prop :=
  ∀ (s : State) (dt : Nat) (k : Fin 6), s.running = true → s.fab.links[k].state = .active →
    ((∀ (j : Fin 6) (bulk : Bool), s.fab.links[j].waits bulk = none) → s.regs.FAB_REC_SEL = 0 → s.fab.links[k].tc ≤ 255 →
      (∀ (b : List Byte) (eep : Bool),
        let now : Nat := (s.advance dt).now
        let payload : List Byte := (b.drop 16).take (leAt b 4 2)
        let sent : List Byte := b.set 3 (BitVec.ofNat 8 (byteAt b 3 + 1))
        let bad (f : FabSt) : Prop := if packetOk false b = false ∧ eep = false
          then f.links[k].bad = satInc 8 s.fab.links[k].bad else f.links[k].bad = s.fab.links[k].bad
        let others : Prop := (byteAt b 0).testBit 7 = true ∧ (byteAt b 0).testBit 6 = false ∧ isHop (byteAt b 2) = false
        (∀ c : Instr, packetOk false b = true → eep = false → (byteAt b 2 = 1 ∧ c = .helloReceived dt k payload) ∨ (byteAt b 2 = 2 ∧ c = .joinReceived dt k payload) ∨
          (byteAt b 2 = 3 ∧ c = .admitReceived dt k payload) ∨ (byteAt b 2 = 5 ∧ c = .syncReqReceived dt k) ∨
          (byteAt b 2 = 6 ∧ c = .syncRespReceived dt k payload) → ∃ t, exec (.urgentPacketReceived dt k b 0 eep) s = .next t ∧ exec c s = .next t) ∧
        (∀ j : Fin 6, others → s.route (byteAt b 0 % 64) = .link j.val → byteAt b 3 < 14 →
          (s.fab.links[j].state = .active → s.fab.links[j].upAt ≤ now → s.linkIdle j → ∃ t, exec (.urgentPacketReceived dt k b 0 eep) s = .next t ∧
            t.but s = { s.advance dt with fab := t.fab, recs := t.recs } ∧ OnlyLink s t k ∧ bad t.fab ∧
            ∃ till, t.fab.out = s.fab.out ++ [{ link := j.val, bulk := false, bytes := sent, eep := eep, at' := now, till := till }]) ∧
          (s.fab.links[j].state ≠ .active ∨ now < s.fab.links[j].upAt → ∃ t, exec (.urgentPacketReceived dt k b 0 eep) s = .next t ∧
            t.but s = { s.advance dt with fab := t.fab, recs := t.recs } ∧ OnlyLink s t k ∧ bad t.fab ∧ t.fab.out = s.fab.out ∧
            t.fab.links[k].urgIn = some { at' := now, bytes := sent, links := [j.val], eep := eep })) ∧
        (∀ j : Fin 6, others → s.route (byteAt b 0 % 64) = .link j.val → 14 ≤ byteAt b 3 → ∃ t, exec (.urgentPacketReceived dt k b 0 eep) s = .next t ∧
          t.fab.discHops = satInc 16 s.fab.discHops ∧ t.fab.out = s.fab.out ∧ OnlyLink s t k ∧ bad t.fab) ∧
        (others → s.route (byteAt b 0 % 64) = .unreach → ∃ t, exec (.urgentPacketReceived dt k b 0 eep) s = .next t ∧
          t.fab.discUnreach = satInc 16 s.fab.discUnreach ∧ t.fab.out = s.fab.out ∧ OnlyLink s t k ∧ bad t.fab) ∧
        (packetOk false b = false → (byteAt b 0).testBit 7 = false ∨ isHop (byteAt b 2) = true → ∀ tc : Nat, ∃ t,
          exec (.urgentPacketReceived dt k b tc eep) s = .next t ∧ t.but s = { s.advance dt with fab := t.fab, recs := t.recs } ∧
          OnlyLink s t k ∧ t.fab.out = s.fab.out ∧ bad t.fab ∧ t.fab.links[k].tc = min 255 (s.fab.links[k].tc + tc) ∧ t.fab.links[k].state = .active)) ∧
      (∀ (b : List Byte) (eep : Bool),
        (eep = true → ∃ t, exec (.bulkSegmentReceived dt k b eep) s = .next t ∧
          t.but s = { s.advance dt with fab := { s.fab with links := vset s.fab.links k (fun l => { l with bulkRx := none }) } }) ∧
        (eep = false → b ≠ [] → byteAt b 0 = 0x40 → s.fab.links[k].bulkRx = none → b.length ≤ 4117 → ∃ t, exec (.bulkSegmentReceived dt k b eep) s = .next t ∧
          t.but s = { s.advance dt with fab := { s.fab with links := vset s.fab.links k (fun l => { l with bulkRx := some (b.drop 1), bulkAt := s.tbAt dt }) } }) ∧
        (eep = false → b ≠ [] → s.fab.links[k].bulkRx.isSome = (byteAt b 0).testBit 6 → ∃ t, exec (.bulkSegmentReceived dt k b eep) s = .next t ∧
          OnlyLink s t k ∧ t.fab.links[k].bulkRx = none ∧ t.fab.links[k].bad = satInc 8 s.fab.links[k].bad ∧ t.fab.out = s.fab.out))) ∧
    (∀ (bulk : Bool) (w : WaitPkt), s.fab.links[k].waits bulk = some w → w.at' + (if bulk then 10000000 else 100000) ≤ (s.advance dt).now →
      (s.advance dt).waitDrain = s.advance dt → ∃ t, exec (.packetWaitTimeout dt k bulk) s = .next t ∧ t.but s = { s.advance dt with fab := t.fab, recs := t.recs } ∧ OnlyLink s t k ∧
      t.fab.links[k].waits bulk = none ∧ t.fab.discWait = satInc 16 s.fab.discWait ∧ t.fab.out = s.fab.out)

/-! ## Control ports, the token and image writing -/

/-- With no frame and no other request waiting: TOKEN_REQUEST and TOKEN_TAKE of a control port before their stamp and the window wait; past it a request gets a free token and a take, with TAKE_EN, one that another holds, with ACK, and a request of a held token is answered BUSY. TOKEN_DECISION decides the one request that waits. TOKEN_RELEASE of the holder and TOKEN_LEASE_EXPIRY free the token; TOKEN_STATUS answers and
changes nothing else. QUARANTINE after 32 violations within 1 s bars the origin, or the CAN controller, for 10 s, and frees a token it holds; QUARANTINE_END lets it in again. -/
def Obligations.ControlToken : Prop :=
  ∀ (s : State) (dt : Nat) (o : Origin), s.running = true →
    (s.serves o = true → s.cp.suspended = [] → s.cp.token.waiting = [] → o.cls = .A ∨ o.cls = .B →
      ∀ (c : Instr) (take : Bool) (age : Nat), (c = .tokenRequest dt o age ∧ take = false) ∨ (c = .tokenTake dt o age ∧ take = true) →
        let r : TokenReq := ⟨{ (s.advance dt).ctx o 3 with stamp := s.tbAt dt - age }, take, .entry⟩
        let win : Nat := s.tbAt dt - age + nsOf s.regs.CP_TOK_WIN
        (s.tbAt dt < win → ∃ t, exec c s = .next t ∧ t.but s = { s.advance dt with cp := { s.cp with token := { s.cp.token with waiting := [r] } } }) ∧
        (win ≤ s.tbAt dt → s.cp.token.holder = none ∨ (take = true ∧ s.regs.CP_CFG_TAKE_EN = true ∧ s.cp.token.holder ≠ some o) →
          ∃ t data, exec c s = .next t ∧ t.cp.token.holder = some o ∧ t.cp.token.waiting = [] ∧ t.cp.token.renewed = s.tbAt dt ∧
          t.cp.answers = s.cp.answers ++ [⟨o, 3, { status := St.ack, data := data }⟩] ∧ t.ax = s.ax ∧ t.regs = s.regs) ∧
        (∀ q, win ≤ s.tbAt dt → take = false → s.cp.token.holder = some q → q ≠ o →
          ∃ t data, exec c s = .next t ∧ t.cp.token.holder = some q ∧ t.cp.token.waiting = [] ∧
          t.cp.answers = s.cp.answers ++ [⟨o, 3, { status := St.busy, data := data }⟩] ∧ t.ax = s.ax ∧ t.regs = s.regs)) ∧
    (∀ r : TokenReq, s.cp.suspended = [] → s.cp.token.waiting = [r] → r.dest = .entry → s.cp.token.holder = none → r.ctx.stamp + nsOf s.regs.CP_TOK_WIN ≤ s.tbAt dt →
      ∃ t data, exec (.tokenDecision dt) s = .next t ∧ t.cp.token.holder = some r.ctx.o ∧ t.cp.token.waiting = [] ∧
      t.cp.answers = s.cp.answers ++ [⟨r.ctx.o, 3, { status := St.ack, data := data }⟩] ∧ t.ax = s.ax ∧ t.regs = s.regs) ∧
    (s.serves o = true → s.holds o = true → o.cls ≠ .M → ∃ t data, exec (.tokenRelease dt o) s = .next t ∧ t.cp.token.holder = none ∧
      t.cp.answers = s.cp.answers ++ [⟨o, 3, { status := St.ack, data := data }⟩] ∧ (s.stg.commit = none → t.stg.bank = []) ∧ t.ax = s.ax ∧ t.regs = s.regs) ∧
    (s.serves o = true → ∃ t data, exec (.tokenStatus dt o) s = .next t ∧
      t.but s = { s.advance dt with cp := (s.advance dt).cpAfter o 3 { status := St.ack, data := data } }) ∧
    (s.cp.token.holder ≠ none → s.cp.token.renewed + nsOf s.regs.CP_LEASE ≤ s.tbAt dt → ∃ t, exec (.tokenLeaseExpiry dt) s = .next t ∧ t.cp.token.holder = none ∧
      t.cp.token.expiries = satInc 16 s.cp.token.expiries ∧ (s.stg.commit = none → t.stg.bank = []) ∧ t.ax = s.ax ∧ t.regs = s.regs) ∧
    (s.quarantined o = false → burst ((s.cp.viols.filter (fun v => v.1 == o)).map (·.2)) = true → ∃ t, exec (.quarantine dt (.origin o)) s = .next t ∧
      t.cp.quar = s.cp.quar ++ [(o, s.tbAt dt + 10000000000)] ∧ (s.holds o = true → t.cp.token.holder = none) ∧ (s.holds o = false → t.cp.token = s.cp.token) ∧
      t.cp.answers = s.cp.answers ∧ t.ax = s.ax ∧ t.regs = s.regs) ∧
    (∀ n : Fin 2, s.can[n].quar = none → burst s.can[n].viols = true → ∃ t, exec (.quarantine dt (.can n)) s = .next t ∧
      t.but s = { s.advance dt with can := vset s.can n (fun x => { x with quar := some (s.tbAt dt + 10000000000) }), recs := t.recs } ∧
      Wrote s t [evtOf (s.tbAt dt) (Unit.can n.val) 0x0F02 1025 (s.fab.addr.getD 0)]) ∧
    (∀ at' : Nat, (o, at') ∈ s.cp.quar → at' ≤ s.tbAt dt → ∃ t, exec (.quarantineEnd dt (.origin o)) s = .next t ∧ t.quarantined o = false ∧
      (o.dev = none → t.cp.ports[clsPort o.cls].seqRef = none) ∧ t.cp.token = s.cp.token ∧ t.ax = s.ax ∧ t.regs = s.regs) ∧
    (∀ (n : Fin 2) (at' : Nat), s.can[n].quar = some at' → at' ≤ s.tbAt dt → ∃ t, exec (.quarantineEnd dt (.can n)) s = .next t ∧
      t.but s = { s.advance dt with can := vset s.can n (fun x => { x with quar := none }), recs := t.recs } ∧
      Wrote s t [evtOf (s.tbAt dt) (Unit.can n.val) 0x0F02 1024 (s.fab.addr.getD 0)])

/-- IMAGE_BEGIN of class M in HOLD with MAINT_EN high and no session erases the copy not in force; IMAGE_ERASE_DONE opens it. IMAGE_DATA of its owner at a good offset, from 64 on and inside the copy, is written; IMAGE_END of a header whose HCRC is right writes the header and begins the verification, and of one whose HCRC is wrong closes the session with result 4. IMAGE_VERIFY_DONE closes it with result 1, or 3. IMAGE_ABORT of the
owner, 60 s without an entry, and a fall of MAINT_EN end it with result 2. Of another class IMAGE_BEGIN answers RIGHTS; without MAINT_EN it answers STATE. -/
def Obligations.ImageSession : Prop :=
  ∀ (s : State) (dt : Nat) (o : Origin), s.running = true →
    (s.serves o = true → o.cls = .M →
      (s.mode.mode = .hold → s.cp.image.state = 0 → s.cp.image.owner = none →
        (∃ t data, exec (.imageBegin dt o true) s = .next t ∧ t.but s = { s.advance dt with
          recs := t.recs
          cp := ({ s.advance dt with cp := { s.cp with
            image := { state := 1, result := 0, owner := some o, bytes := 0, lastAt := s.tbAt dt }
            flash := s.cp.flash ++ flashErase (!s.ld.alt) } } : State).cpAfter o 6 { status := St.ack, data := data } }) ∧
        (∃ t, exec (.imageBegin dt o false) s = .next t ∧ t.but s = { s.advance dt with cp := t.cp, recs := t.recs } ∧ Refused s t dt o 6 St.state 0)) ∧
      (s.cp.image.owner = some o → s.mode.mode = .hold → s.cp.image.state = 2 →
        (∀ (off : Nat) (b : List Byte), 64 ≤ off → off % 4 = 0 → b.length % 4 = 0 → b.length ≤ 2048 → off + b.length ≤ 0x100000 →
          ∃ t data, exec (.imageData dt o off b) s = .next t ∧ t.but s = { s.advance dt with
            cp := ({ s.advance dt with cp := { s.cp with
              image := { s.cp.image with lastAt := s.tbAt dt, bytes := s.cp.image.bytes + b.length }
              flash := s.cp.flash ++ flashWrite (!s.ld.alt) off b } } : State).cpAfter o 6 { status := St.ack, data := data } }) ∧
        (∀ h : List Byte, h.length = 64 →
          ((crc32 (h.take 60)).toNat = leAt h 60 4 → ∃ t data, exec (.imageEnd dt o h) s = .next t ∧ t.but s = { s.advance dt with
            cp := ({ s.advance dt with cp := { s.cp with
              image := { s.cp.image with lastAt := s.tbAt dt, state := 3 }
              flash := s.cp.flash ++ flashWrite (!s.ld.alt) 0 h } } : State).cpAfter o 6 { status := St.ack, data := data } }) ∧
          ((crc32 (h.take 60)).toNat ≠ leAt h 60 4 → ∃ t data, exec (.imageEnd dt o h) s = .next t ∧ t.but s = { s.advance dt with
            recs := t.recs
            cp := ({ s.advance dt with cp := { s.cp with
              image := { s.cp.image with lastAt := s.tbAt dt, state := 0, result := 4, owner := none } } } : State).cpAfter o 6 { status := St.ack, data := data } } ∧
            Wrote s t [evtOf (s.tbAt dt) (Unit.port 2) 0x0F03 5 s.cp.image.bytes])) ∧
        (∃ t data, exec (.imageAbort dt o) s = .next t ∧ t.but s = { s.advance dt with
          recs := t.recs
          cp := ({ s.advance dt with cp := { s.cp with
            image := { s.cp.image with lastAt := s.tbAt dt, state := 0, result := 2, owner := none } } } : State).cpAfter o 6 { status := St.ack, data := data } } ∧
          Wrote s t [evtOf (s.tbAt dt) (Unit.port 2) 0x0F03 3 s.cp.image.bytes]))) ∧
    (s.serves o = true → o.cls = .A ∨ o.cls = .B → ∃ t d, exec (.imageBegin dt o true) s = .next t ∧
      t.but s = { s.advance dt with cp := t.cp, recs := t.recs } ∧ Refused s t dt o 6 St.rights d) ∧
    (s.cp.image.state = 1 → ∃ t, exec (.imageEraseDone dt) s = .next t ∧
      t.but s = { s.advance dt with cp := { s.cp with image := { s.cp.image with state := 2 } } }) ∧
    (∀ ok : Bool, s.cp.image.state = 3 → ∃ t, exec (.imageVerifyDone dt ok) s = .next t ∧ t.but s = { s.advance dt with
      recs := t.recs
      cp := { s.cp with image := { s.cp.image with state := 0, owner := none, result := if ok then 1 else 3, bytes := s.cp.image.bytes + 64 } } } ∧
      Wrote s t [evtOf (s.tbAt dt) (Unit.port 2) 0x0F03 (if ok then 2 else 4) (s.cp.image.bytes + 64)]) ∧
    (∀ c : Instr, s.cp.image.state ≠ 0 →
      (c = .imageSessionTimeout dt ∧ s.cp.image.lastAt + 60000000000 ≤ s.tbAt dt) ∨ c = .maintEnFall dt → ∃ t, exec c s = .next t ∧
      t.but s = { s.advance dt with recs := t.recs, cp := { s.cp with image := { s.cp.image with state := 0, result := 2, owner := none } } } ∧
      Wrote s t [evtOf (s.tbAt dt) (Unit.port 2) 0x0F03 3 s.cp.image.bytes])

/-- With no frame or request waiting, JCP_REQUEST_FRAME at a control port of two NOP entries for this device with the SEQ that is due is answered at that port by one reply with ACK for each, and its SEQ becomes the reference; a repeat of the last SEQ is answered by the kept reply again. SPI_WRITE_FRAME and SPI_QUAD_WRITE_FRAME at a port in SPI form do what that frame does. SPI_READ_STATUS answers whether a frame is
queued and whether 8 requests are in hand; SPI_READ_FRAME and SPI_QUAD_READ_FRAME answer the oldest frame behind its length, or a length of 0. MNT_FRAME_GAP of more than 10 character times answers one MALFORMED reply at the maintenance port; a shorter gap does nothing. JCP_FORWARD_REPLY takes the reply to the port where its request entered, and JCP_FORWARD_TIMEOUT after 20 ms answers it with TIMEOUT. PORT takes
the exchange of a data-strobe port up, which takes any SEQ, or down, with its record. -/
def Obligations.FramesAtPorts : Prop :=
  ∀ (s : State) (dt : Nat), s.running = true →
    (∀ (p : Fin 3) (age : Nat) (maint : Bool) (b : List Byte), s.serves ⟨portCls p, none⟩ = true → s.portOpen p = true → frameOk b = true → byteAt b 6 = 0x40 →
      frameEntries b = some [⟨4, []⟩, ⟨4, []⟩] → s.cp.ports[p].inFlight < 8 → s.cp.suspended = [] → s.cp.token.waiting = [] →
      let one : List Byte := leBytes 1 0 ++ leBytes 1 4 ++ leBytes 2 0 ++ leBytes 2 0 ++ leBytes 2 0
      let reply : List Byte := jcpFrame 2 (leAt b 2 2) (leAt b 4 2) (s.fab.addr.getD 0x40) 2 (one ++ one)
      (s.cp.ports[p].seqRef = none ∨ (∃ r, s.cp.ports[p].seqRef = some r ∧ leAt b 4 2 = (r + 1) % 65536 ∧ leAt b 4 2 ≠ r) →
        ∃ t, exec (.jcpRequestFrame dt (.port p) age maint b) s = .next t ∧ t.but s = { s.advance dt with cp := t.cp, recs := t.recs } ∧
        t.cp.ports[p].seqRef = some (leAt b 4 2) ∧ t.cp.ports[p].cached = some reply ∧ t.cp.ports[p].inFlight = s.cp.ports[p].inFlight ∧ t.cp.suspended = [] ∧
        (s.portForm p ≠ 2 → t.cp.ports[p].sent = s.cp.ports[p].sent ++ [reply]) ∧
        (s.portForm p = 2 → s.cp.ports[p].queue.length < 16 → t.cp.ports[p].queue = s.cp.ports[p].queue ++ [⟨false, reply⟩]) ∧
        t.cp.token.holder = s.cp.token.holder ∧ t.cp.answers = s.cp.answers) ∧
      (∀ kept : List Byte, s.cp.ports[p].seqRef = some (leAt b 4 2) → s.cp.ports[p].cached = some kept → s.portForm p ≠ 2 →
        ∃ t, exec (.jcpRequestFrame dt (.port p) age maint b) s = .next t ∧ t.but s = { s.advance dt with cp := t.cp, recs := t.recs } ∧
        t.cp.ports[p].sent = s.cp.ports[p].sent ++ [kept] ∧ t.cp.ports[p].inFlight = s.cp.ports[p].inFlight)) ∧
    (∀ (p : Fin 2) (age : Nat) (b : List Byte), s.portForm (cpPort p) = 2 →
      (∃ t, exec (.spiWriteFrame dt p age b) s = .next t ∧ exec (.jcpRequestFrame dt (.port (cpPort p)) age false b) s = .next t) ∧
      (∃ t, exec (.spiQuadWriteFrame dt p age b) s = .next t ∧ exec (.jcpRequestFrame dt (.port (cpPort p)) age false b) s = .next t)) ∧
    (∀ p : Fin 2, s.portForm (cpPort p) = 2 →
      let ans (op : Nat) (d : List Byte) : Answer := ⟨⟨portCls (cpPort p), none⟩, 256 + op, { status := St.ack, data := d }⟩
      (∃ t, exec (.spiReadStatus dt p) s = .next t ∧ t.but s = { s.advance dt with cp := { s.cp with answers := s.cp.answers ++ [ans 5
        (leBytes 1 (b2n (!s.cp.ports[cpPort p].queue.isEmpty) + 2 * b2n (decide (8 ≤ s.cp.ports[cpPort p].inFlight))))] } }) ∧
      (∀ (c : Instr) (op : Nat), (c = .spiReadFrame dt p ∧ op = 0x0B) ∨ (c = .spiQuadReadFrame dt p ∧ op = 0x6B) →
        (s.cp.ports[cpPort p].queue = [] → ∃ t, exec c s = .next t ∧ t.but s = { s.advance dt with cp := { s.cp with answers := s.cp.answers ++ [ans op (leBytes 2 0)] } }) ∧
        (∀ (f : OutFrame) (rest : List OutFrame), s.cp.ports[cpPort p].queue = f :: rest → ∃ t, exec c s = .next t ∧ t.but s = { s.advance dt with
          recs := t.recs
          cp := { s.cp with
            ports := vset s.cp.ports (cpPort p) (fun q => { q with queue := rest, sent := q.sent ++ [f.bytes] })
            answers := s.cp.answers ++ [ans op (leBytes 2 f.bytes.length ++ f.bytes)] } }))) ∧
    (∀ (age gap : Nat) (b : List Byte), gap ≤ bitEdge s.mntBaud 100 → ∃ t, exec (.mntFrameGap dt age b gap) s = .next t ∧ t.but s = s.advance dt) ∧
    (∀ (age gap : Nat) (b : List Byte), bitEdge s.mntBaud 100 < gap → preambleAt 0 b = none → ∃ t, exec (.mntFrameGap dt age b gap) s = .next t ∧
      t.but s = { s.advance dt with cp := t.cp, recs := t.recs } ∧
      t.cp.ports[(2 : Fin 3)].sent = s.cp.ports[(2 : Fin 3)].sent ++ [jcpFrame 2 (leAt b 2 2) (leAt b 4 2) (s.fab.addr.getD 0x40) 1
        (leBytes 1 St.malformed ++ leBytes 1 0 ++ leBytes 2 0 ++ leBytes 2 0 ++ leBytes 2 0)] ∧ t.cp.ports[(2 : Fin 3)].seqRef = s.cp.ports[(2 : Fin 3)].seqRef) ∧
    (∀ (p : Fin 3) (tag : BitVec 16) (f : Forward), s.cp.forwards.find? (fun f => f.port == p && f.tag == tag.toNat) = some f → s.portOpen p = true → s.portForm p ≠ 2 →
      (∀ b : List Byte, ∃ t, exec (.jcpForwardReply dt p tag b) s = .next t ∧ t.but s = { s.advance dt with cp := t.cp, recs := t.recs, freeIx := t.freeIx } ∧
        t.cp.forwards = s.cp.forwards.erase f ∧ t.cp.ports[p].sent = s.cp.ports[p].sent ++ [b] ∧ t.cp.ports[p].inFlight = s.cp.ports[p].inFlight - 1) ∧
      (f.sentAt + 20000000 ≤ (s.advance dt).now → ∃ t, exec (.jcpForwardTimeout dt p tag) s = .next t ∧ t.but s = { s.advance dt with cp := t.cp, recs := t.recs } ∧
        t.cp.forwards = s.cp.forwards.erase f ∧ t.cp.ports[p].inFlight = s.cp.ports[p].inFlight - 1 ∧
        t.cp.ports[p].sent = s.cp.ports[p].sent ++ [s.replyFrame f.tag f.seq (refusal f.frame St.timeout)])) ∧
    (∀ (p : Fin 2) (up : Bool), s.portForm (cpPort p) = 1 → s.cp.ports[cpPort p].up = !up → ∃ t, exec (.port dt p up) s = .next t ∧
      t.but s = { s.advance dt with cp := t.cp, recs := t.recs } ∧ Wrote s t [evtOf (s.tbAt dt) (Unit.port (cpPort p).val) 0x0F04 (b2n up) 0] ∧
      t.cp.ports[cpPort p].up = up ∧ (up = true → t.cp.ports[cpPort p].seqRef = none) ∧ (up = false → t.cp.ports[cpPort p].queue = [] ∧ t.cp.ports[cpPort p].inFlight = 0))

/-- JCP_NOP is answered with ACK and changes nothing else. JCP_FREEZE of class M that is permitted, for this device alone, makes the freeze wait for 200 us after it; where it is not permitted it answers STATE with the reason and is counted; of class A or B it answers RIGHTS. JCP_SAFE at a control port with a consumed connection on it gives each such connection its envelope, which each channel accepts or discards by itself; with none it answers RIGHTS. -/
def Obligations.EntriesAlone : Prop :=
  ∀ (s : State) (dt : Nat) (o : Origin), s.serves o = true →
    (∃ t, exec (.jcpNop dt o) s = .next t ∧ t.but s = { s.advance dt with cp := (s.advance dt).cpAfter o 4 { status := St.ack } }) ∧
    (∀ (cause : BitVec 16) (age : Nat),
      (o.cls = .M → s.frzReason 2 false = 0 → s.frz.pending = none → ∃ t, exec (.jcpFreeze dt o false cause age) s = .next t ∧ t.but s = { s.advance dt with
        frz := { s.frz with pending := some { at' := s.tbAt dt + 200000, stamp := s.tbAt dt - age, cause := cause.toNat, source := 2, origin := s.fab.addr.getD 0x40 } }
        cp := (s.advance dt).cpAfter o 7 { status := St.ack } }) ∧
      (o.cls = .M → s.frzReason 2 false ≠ 0 → ∃ t, exec (.jcpFreeze dt o false cause age) s = .next t ∧
        t.but s = { s.advance dt with
          cp := t.cp, recs := t.recs, freeIx := t.freeIx
          frz := { s.frz with lastRefuse := s.frzReason 2 false, refused := satInc 16 s.frz.refused } } ∧
        t.cp.answers = s.cp.answers ++ [⟨o, 7, { status := St.state, detail := s.frzReason 2 false }⟩]) ∧
      (∀ wide : Bool, o.cls = .A ∨ o.cls = .B → ∃ t d, exec (.jcpFreeze dt o wide cause age) s = .next t ∧
        t.but s = { s.advance dt with cp := t.cp, recs := t.recs } ∧ RefusedOf s t dt o 7 St.rights d age)) ∧
    (∀ b : List Byte, o.cls = .A ∨ o.cls = .B → o.dev = none → b.length = 24 →
      let on (k : Fin 16) : Prop := s.consumes k = true ∧ s.regs.SAF_CONc_CFG_CH k = 1 ∧ s.regs.SAF_CONc_ADDR k % 2 = (clsPort o.cls).val
      ((∃ k, on k) → ∃ t, exec (.jcpSafe dt o b) s = .next t ∧
        t.but s = { s.advance dt with saf := t.saf, recs := t.recs, cp := (s.advance dt).cpAfter o 8 { status := St.ack } } ∧
        (∀ k, on k →
          (∀ bronze : Bool, (t.view bronze).conn[k] = if s.envOk bronze k b (s.tbAt dt) then (s.view bronze).conn[k].take b (s.advance dt).now (s.tbAt dt)
            else (s.view bronze).conn[k]) ∧
          t.saf.conn[k].disc = if s.envOk false k b (s.tbAt dt) then s.saf.conn[k].disc else satInc 16 s.saf.conn[k].disc) ∧
        (∀ k, ¬ on k → t.saf.conn[k] = s.saf.conn[k] ∧ ∀ bronze : Bool, (t.view bronze).conn[k] = (s.view bronze).conn[k])) ∧
      ((∀ k, ¬ on k) → ∃ t d, exec (.jcpSafe dt o b) s = .next t ∧ t.but s = { s.advance dt with cp := t.cp, recs := t.recs } ∧ Refused s t dt o 8 St.rights d))

/-! ## CAN controllers -/

/-- On a ready controller without quarantine, CAN_SETPOINT_MESSAGE with a message for an axis that names the controller, of mode 0 to 3, within its limit, and whose counter is the first, or 1 to 3 on, is taken with the stamp of its start of frame; a run bit clear arms the
binding. CAN_HEAVE_MESSAGE takes a sample that is later than the one in use, set back by the latency. An equal counter changes nothing commanded and is no violation; any other is discarded with SEQUENCE, a wrong mode or limit with RANGE, a half that is no complement with PAIR, a
length or format that is not that of Table 3 or 4 with MALFORMED; after a discard any counter is good. An axis that does not name the controller is counted. A frame of a filter with REC is recorded first. In quarantine a message does nothing of this. -/
def Obligations.CanMessages : Prop :=
  ∀ (s : State) (dt : Nat) (n : Fin 2) (f : CanFrame) (k : Nat) (rec' : Bool), s.canReady n →
    let stamp : Nat := s.tbAt dt - f.sofAge
    let whole : Nat := dlcOf f.data.length
    let frameRec (d : Nat) : List Shown := if rec' then [canIn stamp n k d f] else []
    let first : List Shown := frameRec whole
    (s.canRole n f = .filtered k 1 rec' →
      (s.can[n].quar = none → ∀ (ax : Fin 6) (m : Nat) (run heave : Bool) (cnt : Nat) (v : Rat), s.saysSet n f ax m run heave cnt v →
        let last : Option Nat := if (s.advance dt).canLive ax then s.can[n].spCnt[ax] else none
        let bound : Prop := s.regs.AXn_CMD_CFG_CAN ax = n.val + 1
        let good : Prop := m ≤ 3 ∧ s.setOk ax m v = true
        (bound → good → last = none ∨ (∃ q, last = some q ∧ 1 ≤ (cnt + 256 - q) % 256 ∧ (cnt + 256 - q) % 256 ≤ 3) →
          ∃ t, exec (.canSetpointMessage dt n f) s = .next t ∧
          t.but s = { s.advance dt with
            can := t.can, recs := t.recs, freeIx := t.freeIx
            cmd := { s.cmd with ax := vset s.cmd.ax ax (fun c => { c with can := { c.can with
              lastAt := some stamp, run := run, mode := m, value := v, heave := heave, armed := c.can.armed || !run, lost := false } }) } } ∧
          t.can[n].spCnt = s.can[n].spCnt.set ax (some cnt) ∧ t.can[n].spNew = s.can[n].spNew.set ax true ∧ t.can[n].viols = s.can[n].viols ∧
          t.can[n].overrun = (if s.can[n].spNew[ax] then satInc 16 s.can[n].overrun else s.can[n].overrun) ∧
          (s.can[n].spNew[ax] = false → CanWrote s t n first)) ∧
        (bound → good → last = some cnt → cnt < 256 → ∃ t, exec (.canSetpointMessage dt n f) s = .next t ∧ OnlyCan s t dt n ∧
          t.can[n].spCnt = s.can[n].spCnt ∧ t.can[n].viols = s.can[n].viols ∧ (s.can[n].spNew[ax] = false → CanWrote s t n first)) ∧
        (bound → good → ∀ q, last = some q → q < 256 → (cnt + 256 - q) % 256 > 3 → s.can[n].spNew[ax] = false →
          ∃ t, exec (.canSetpointMessage dt n f) s = .next t ∧ OnlyCan s t dt n ∧ CanDiscarded s t n f stamp St.sequence first ∧
          t.can[n].spCnt = s.can[n].spCnt.set ax none) ∧
        (bound → ¬ good → s.can[n].spNew[ax] = false → ∃ t, exec (.canSetpointMessage dt n f) s = .next t ∧ OnlyCan s t dt n ∧
          CanDiscarded s t n f stamp St.range first ∧ t.can[n].spCnt = s.can[n].spCnt.set ax none) ∧
        (¬ bound → ∃ t, exec (.canSetpointMessage dt n f) s = .next t ∧ OnlyCan s t dt n ∧ t.can[n].unbound = satInc 16 s.can[n].unbound ∧
          t.can[n].spNew = s.can[n].spNew ∧ t.can[n].viols = s.can[n].viols ∧ CanWrote s t n first)) ∧
      (s.can[n].quar = none → f.rtr = true ∨ f.fdf = s.regs.CANn_CFG_PROFILE n ∨ f.data.length ≠ (if s.regs.CANn_CFG_PROFILE n then 8 else 16) →
        ∃ t d, exec (.canSetpointMessage dt n f) s = .next t ∧ OnlyCan s t dt n ∧ (f.rtr = false → d = whole) ∧ CanDiscarded s t n f stamp St.malformed (frameRec d)) ∧
      (s.can[n].quar = none → s.parseSet n f ≠ none → f.data.drop (f.data.length / 2) ≠ complBytes (f.data.take (f.data.length / 2)) →
        ∃ t, exec (.canSetpointMessage dt n f) s = .next t ∧ OnlyCan s t dt n ∧ CanDiscarded s t n f stamp St.pair first) ∧
      (s.can[n].quar ≠ none → ∃ t d, exec (.canSetpointMessage dt n f) s = .next t ∧ OnlyCan s t dt n ∧ t.can[n].viols = s.can[n].viols ∧
        t.can[n].spCnt = s.can[n].spCnt ∧ (f.rtr = false → d = whole) ∧ CanWrote s t n (frameRec d))) ∧
    (s.canRole n f = .filtered k 2 rec' →
      (s.can[n].quar = none → ∀ (ax : Fin 6) (cnt size : Nat) (v a : Rat), s.saysHeave n f ax cnt size v a →
        let at' : Nat := stamp - nsOf (s.regs.AXn_HC_LAT ax)
        let lapsed : Nat → Prop := fun since => s.cmd.ax[ax].can.lastAt = some since ∧ since + s.regs.AXn_CMD_CFG_CAN_TMO ax * 10000000 ≤ s.tbAt dt ∧
          s.can[n].hvAt[ax] < since + s.regs.AXn_CMD_CFG_CAN_TMO ax * 10000000
        let last : Option Nat := (s.advance dt).lastCount n true ax
        ((∃ since, lapsed since) → last = none) ∧ ((∀ since, ¬ lapsed since) → last = s.can[n].hvCnt[ax]) ∧ (
        s.regs.AXn_CMD_CFG_CAN ax = n.val + 1 →
        (last = none ∨ (∃ q, last = some q ∧ 1 ≤ (cnt + size - q) % size ∧ (cnt + size - q) % size ≤ 3) →
          ∃ t, exec (.canHeaveMessage dt n f) s = .next t ∧
          t.but s = { s.advance dt with
            can := t.can, recs := t.recs, freeIx := t.freeIx
            cmd := { s.cmd with ax := vset s.cmd.ax ax (fun c =>
              match c.hcRef with
              | some r => if at' ≤ r.1 then c else { c with hcRef := some (at', v, a), hcCan := s.regs.CANn_CFG_PROFILE n }
              | none => { c with hcRef := some (at', v, a), hcCan := s.regs.CANn_CFG_PROFILE n }) } } ∧
          t.can[n].hvCnt = s.can[n].hvCnt.set ax (some cnt) ∧ t.can[n].hvAt = s.can[n].hvAt.set ax stamp ∧ t.can[n].hvNew = s.can[n].hvNew.set ax true ∧ t.can[n].viols = s.can[n].viols ∧
          (s.can[n].hvNew[ax] = false → CanWrote s t n first)) ∧
        (∀ q, last = some q → q < size → (cnt + size - q) % size > 3 → s.can[n].hvNew[ax] = false →
          ∃ t, exec (.canHeaveMessage dt n f) s = .next t ∧ OnlyCan s t dt n ∧ CanDiscarded s t n f stamp St.sequence first ∧
          t.can[n].hvCnt = s.can[n].hvCnt.set ax none))) ∧
      (s.can[n].quar = none → f.rtr = true ∨ f.fdf = s.regs.CANn_CFG_PROFILE n ∨ f.data.length ≠ (if s.regs.CANn_CFG_PROFILE n then 8 else 24) →
        ∃ t d, exec (.canHeaveMessage dt n f) s = .next t ∧ OnlyCan s t dt n ∧ (f.rtr = false → d = whole) ∧ CanDiscarded s t n f stamp St.malformed (frameRec d)) ∧
      (s.can[n].quar ≠ none → ∃ t d, exec (.canHeaveMessage dt n f) s = .next t ∧ OnlyCan s t dt n ∧ t.can[n].viols = s.can[n].viols ∧
        t.can[n].hvCnt = s.can[n].hvCnt ∧ (f.rtr = false → d = whole) ∧ CanWrote s t n (frameRec d)))

/-- CAN_ENVELOPE_FRAME puts an envelope in its buffer, and counts one that it replaces; CAN_RECORD_FRAME records what its filter says, and discards the rest; the first filter that matches decides. In rate detection each frame counts: the second fixes the candidate, and ABD_DWELL_END takes the next. CAN_BUS_INTEGRATION
ends the integration. CAN_PERIODIC_TX at a multiple of PER queues the status of its axis. Of the frames that wait at a start of frame only the one that is first in arbitration, and between equal identifiers by its slot, is sent or fails. CAN_FRAME_SENT ends a pending frame, with 4 where a cancel came too late; CAN_ERROR sets the counters, and leaves the frame pending, or with 5 cancelled; where TEC reaches 256 it is bus-off, which ends host
slots with 6. CAN_SEND of the token holder makes a slot pending; on a pending one, or a controller that does not send, it answers STATE. CAN_CANCEL withdraws a frame whose attempt has not begun, or lets the attempt end; on another slot it changes nothing. CAN_RECOVER at bus-off starts the recovery, which CAN_RECOVERY_DONE ends active. CAN_TXD_GUARD forces TXD. -/
def Obligations.CanTraffic : Prop :=
  ∀ (s : State) (dt : Nat) (n : Fin 2), s.running = true →
    (∀ (f : CanFrame) (k : Nat),
      let hit (j : Nat) : Prop := s.regs.CANn_FLTf_ID_IDE n j = f.ide ∧ (f.id.toNat ^^^ s.regs.CANn_FLTf_ID_ID n j) &&& s.regs.CANn_FLTf_MASK n j = 0
      (∀ c : Fin 16, ¬ (s.consumes c = true ∧ s.regs.SAF_CONc_CFG_CH c = 2 + n.val ∧ s.regs.SAF_CONc_ADDR c = f.id.toNat ∧ s.regs.SAF_CONc_CFG_IDE c = f.ide)) →
      k < s.regs.CANn_FLT_CNT n → hit k → (∀ j, j < k → ¬ hit j) → s.canRole n f = .filtered k (s.regs.CANn_FLTf_CFG_ROLE n k) (s.regs.CANn_FLTf_CFG_REC n k)) ∧
    (∀ f : CanFrame, s.canReady n → let stamp : Nat := s.tbAt dt - f.sofAge
      (∀ c : Fin 16, s.canRole n f = .envelope c → ∃ t, exec (.canEnvelopeFrame dt n f) s = .next t ∧ OnlyCan s t dt n ∧
        t.can[n].env = s.can[n].env.set c (some (f.data, stamp)) ∧
        t.can[n].overrun = (if s.can[n].env[c].isSome then satInc 16 s.can[n].overrun else s.can[n].overrun) ∧
        (s.can[n].env[c] = none → CanWrote s t n [])) ∧
      (∀ (k role : Nat) (rec' : Bool), s.canRole n f = .filtered k role rec' → role ≠ 1 → role ≠ 2 → ∃ t d, exec (.canRecordFrame dt n f) s = .next t ∧
        OnlyCan s t dt n ∧ t.can[n].env = s.can[n].env ∧ (f.rtr = false → d = dlcOf f.data.length) ∧ CanWrote s t n (if rec' then [canIn stamp n k d f] else [])) ∧
      (s.canRole n f = .unmatched → ∃ t, exec (.canRecordFrame dt n f) s = .next t ∧ OnlyCan s t dt n ∧ t.can[n].env = s.can[n].env ∧ CanWrote s t n [])) ∧
    (∀ (f : CanFrame) (c : Instr), s.can[n].started = true → s.can[n].abd.run = true →
      c = .canSetpointMessage dt n f ∨ c = .canHeaveMessage dt n f ∨ c = .canEnvelopeFrame dt n f ∨ c = .canRecordFrame dt n f →
      (s.can[n].abd.ok = 0 → ∃ t, exec c s = .next t ∧
        t.but s = { s.advance dt with can := vset s.can n (fun x => { x with abd := { x.abd with ok := 1 } }) }) ∧
      (1 ≤ s.can[n].abd.ok → ∃ t, exec c s = .next t ∧
        t.but s = { s.advance dt with can := vset s.can n (fun x => { x with integrating := true, abd := { x.abd with run := false, ok := 0 } }), recs := t.recs } ∧
        Wrote s t [evtOf (s.tbAt dt) (Unit.can n) 0x1004 (1 + s.can[n].cand) (s.canRate n s.can[n].cand)])) ∧
    (s.can[n].abd.run = true → s.can[n].abd.since + nsOf (s.regs.CANn_ABD_DWELL n) ≤ s.tbAt dt →
      let k : Nat := (s.can[n].cand + 1) % max 1 (s.regs.CANn_CFG_ABD_N n)
      let note : Prop := k = 0 ∧ s.can[n].abd.noted = false
      ∃ t, exec (.abdDwellEnd dt n) s = .next t ∧ t.can[n].cand = k ∧ t.can[n].abd.ok = 0 ∧ t.can[n].abd.since = s.tbAt dt ∧ t.can[n].abd.run = true ∧
        OnlyCan s t dt n ∧ (note → Wrote s t [evtOf (s.tbAt dt) (Unit.can n) 0x1004 0 (s.canRate n k)]) ∧ (¬ note → t.recs = s.recs)) ∧
    (s.can[n].started = true → s.can[n].integrating = true → ∃ t, exec (.canBusIntegration dt n) s = .next t ∧
      t.but s = { s.advance dt with can := vset s.can n (fun x => { x with integrating := false, guard := false }) }) ∧
    (s.can[n].started = true → ∃ t, exec (.canTxdGuard dt n) s = .next t ∧ t.but s = { s.advance dt with can := vset s.can n (fun x => { x with guard := true }) }) ∧
    (∀ (k : Fin 8) (ax : Fin 6), s.can[n].started = true → s.can[n].busOff = false → s.canSends n = true → s.regs.CANn_TXPk_CFG_EN n k = true → s.regs.CANn_TXPk_CFG_AXIS n k = ax.val →
      let per : Nat := nsOf (s.regs.CANn_TXPk_PER n k)
      let v : Rat := (s.advance dt).axSpeed ax
      (0 < per → s.tbAt dt % per = 0 → ∃ (t : State) (x : TxFrame), exec (.canPeriodicTx dt n k) s = .next t ∧ x.since = (s.advance dt).now ∧
        t.but s = { s.advance dt with can := vset s.can n (fun y => { y with txPer := y.txPer.set k (some x) }) } ∧
        x.id = s.regs.CANn_TXPk_ID_ID n k ∧ x.ide = s.regs.CANn_TXPk_ID_IDE n k ∧ x.fdf = !s.regs.CANn_CFG_PROFILE n ∧
        (s.regs.CANn_CFG_PROFILE n = false → x.brs = s.regs.CANn_CFG_BRS n ∧
          let d := leBytes 1 ax ++ leBytes 1 s.ax[ax].state.code ++ leBytes 1 s.mode.mode.code ++ leBytes 1 s.cmd.ax[ax].src ++ leBytes 4 (toF32 v).toNat
          x.data = d ++ complBytes d) ∧
        (s.regs.CANn_CFG_PROFILE n = true → x.brs = false ∧
          let raw : Rat := clampR (-2047) 2047 ((v * 2047 / s.regs.AXn_SPD_MAX ax + 1 / 2).floor)
          let d := beBytes 2 (ax * 4096 + twos 2 raw.floor % 4096) ++ beBytes 2 (s.ax[ax].state.code * 4096 + s.mode.mode.code * 256 + s.cmd.ax[ax].src * 16)
          x.data = d ++ complBytes d)) ∧
      (s.tbAt dt % per ≠ 0 → ∃ t, exec (.canPeriodicTx dt n k) s = .next t ∧ t.but s = s.advance dt)) ∧
    (∀ (slot : TxSlot) (age : Nat) (f : TxFrame), s.txFrame n slot = some f → s.canReady n → s.canListen n = false → s.can[n].same = [] →
      (s.advance dt).canFirst n slot f ((s.advance dt).now - age) = true →
      (∃ t, exec (.canFrameSent dt n slot age) s = .next t ∧ OnlyCan s t dt n ∧ t.can[n].tec = s.can[n].tec - 1 ∧
        (∀ h, slot = .host h → t.can[n].host[h].state = (if s.can[n].host[h].cancel then 4 else 2) ∧ t.can[n].host[h].stamp = s.tbAt dt - age ∧
          t.can[n].host[h].attempts = satInc 8 s.can[n].host[h].attempts) ∧
        (∀ c, slot = .safety c → t.can[n].txSaf = s.can[n].txSaf.set c none) ∧ (∀ k, slot = .periodic k → t.can[n].txPer = s.can[n].txPer.set k none) ∧
        Wrote s t ((if s.regs.CANn_CFG_REC_TX n then [canOf (s.tbAt dt - age) n true (b2n f.ide + 2 * b2n f.fdf + 4 * b2n f.brs + 8 * b2n (s.can[n].bus == 1 && f.fdf)) f.id
            0xFF (dlcOf f.data.length) f.data] else []) ++
          (if s.can[n].tec = 128 ∧ s.can[n].rec' < 128 then [evtOf (s.tbAt dt) (Unit.can n) 0x1001 0 (127 + s.can[n].rec' * 256)] else []))) ∧
      (∀ tec rc : Nat, tec < 256 → ∀ c, c = .canError dt n (.tx slot false age) tec rc → ∃ t, exec c s = .next t ∧ OnlyCan s t dt n ∧
        t.can[n].tec = tec ∧ t.can[n].rec' = rc ∧ t.txFrame n slot = (if s.cancelling n slot then none else some f) ∧
        (∀ h, slot = .host h → t.can[n].host[h].state = (if s.can[n].host[h].cancel then 5 else 1))) ∧
      (∀ tec rc : Nat, s.can[n].tec < 256 → 256 ≤ tec → ∃ t, exec (.canError dt n (.tx slot false age) tec rc) s = .next t ∧ OnlyCan s t dt n ∧
        t.can[n].busOff = true ∧ t.can[n].bus = 2 ∧ t.can[n].busOffs = satInc 16 s.can[n].busOffs ∧ t.txFrame n slot = none ∧
        (∀ h : Fin 4, s.can[n].host[h].state = 1 → t.can[n].host[h].state = 6) ∧
        Wrote s t [evtOf (s.tbAt dt) (Unit.can n) 0x1001 2 (255 + min rc 255 * 256)]) ∧
      (∀ tec rc : Nat, ∃ t, exec (.canError dt n (.arbLost slot age) tec rc) s = .next t ∧ OnlyCan s t dt n ∧ t.can[n].tec = s.can[n].tec ∧
        t.txFrame n slot = (if s.cancelling n slot then none else some f)) ∧
      (∀ tec rc : Nat, tec < 256 → s.cancelling n slot = false → ∃ t, exec (.canError dt n (.tx slot true age) tec rc) s = .next t ∧ OnlyCan s t dt n ∧
        t.can[n].same = [⟨slot, s.tbAt dt - age, 1⟩])) ∧
    (∀ (slot q : TxSlot) (age : Nat) (f g : TxFrame), s.txFrame n slot = some f → s.txFrame n q = some g → s.can[n].abd.run = false →
      g.since < (s.advance dt).now - age →
      (g.ide = f.ide ∧ g.id < f.id) ∨ (g.ide = false ∧ f.ide = true ∧ g.id ≤ f.id / 0x40000) ∨ (g.ide = true ∧ f.ide = false ∧ g.id / 0x40000 < f.id) ∨
        (g.ide = f.ide ∧ g.id = f.id ∧ ((∃ c d, q = .safety c ∧ slot = .safety d ∧ c < d) ∨ (∃ c k, q = .safety c ∧ slot = .periodic k) ∨
          (∃ k l, q = .periodic k ∧ slot = .periodic l ∧ k < l) ∨ (∃ h, slot = .host h ∧ ∀ l, q = .host l → l < h))) →
      ∀ c, c = .canFrameSent dt n slot age ∨ (∃ b tec rc, c = .canError dt n (.tx slot b age) tec rc) ∨ (∃ tec rc, c = .canError dt n (.arbLost slot age) tec rc) →
      ∃ t, exec c s = .next t ∧ t.but s = s.advance dt) ∧
    (∀ (o : Origin) (h : Fin 4), s.writes o = true → s.holds o = true →
      (s.can[n].host[h].state ≠ 1 → s.canSends n = true → ∃ t, exec (.canSend dt o n h) s = .next t ∧
        t.but s = { s.advance dt with can := vset s.can n (fun x => { x with host := x.host.set h { state := 1, since := (s.advance dt).now } }), cp := (s.advance dt).cpWrote o }) ∧
      (s.can[n].host[h].state = 1 ∨ s.canSends n = false → ∃ t, exec (.canSend dt o n h) s = .next t ∧ t.but s = { s.advance dt with cp := t.cp, recs := t.recs } ∧ Refused s t dt o 2 St.state 0) ∧
      (s.regs.CANn_CFG_BIND n = 0 → ∃ t, exec (.canCancel dt o n h) s = .next t ∧ t.but s = { s.advance dt with cp := t.cp, recs := t.recs } ∧ Refused s t dt o 2 St.state 0) ∧
      (s.regs.CANn_CFG_BIND n ≠ 0 → s.can[n].host[h].state ≠ 1 → ∃ t, exec (.canCancel dt o n h) s = .next t ∧ t.but s = { s.advance dt with cp := (s.advance dt).cpWrote o }) ∧
      (s.regs.CANn_CFG_BIND n ≠ 0 → s.can[n].host[h].state = 1 → s.sameOf n (.host h) = none → ∃ t, exec (.canCancel dt o n h) s = .next t ∧
        (t.but s = { s.advance dt with
            can := vset s.can n (fun x => { x with host := vset x.host h (fun q => { q with state := 3 }) }), cp := (s.advance dt).cpWrote o, freeIx := s.freeIx + 1 } ∨
          (s.can[n].bus ≤ 1 ∧ t.but s = { s.advance dt with
            can := vset s.can n (fun x => { x with host := vset x.host h (fun q => { q with cancel := true }) }), cp := (s.advance dt).cpWrote o, freeIx := s.freeIx + 1 })))) ∧
    (∀ o : Origin, s.writes o = true → s.may true o = true →
      (s.regs.CANn_CFG_BIND n ≠ 0 → s.can[n].busOff = true → ∃ t, exec (.canRecover dt o n) s = .next t ∧
        t.but s = { s.advance dt with can := vset s.can n (fun x => { x with recov := true }), cp := (s.advance dt).cpWrote o }) ∧
      (s.can[n].busOff = false → ∃ t, exec (.canRecover dt o n) s = .next t ∧ t.but s = { s.advance dt with cp := t.cp, recs := t.recs } ∧ Refused s t dt o 2 St.state 0)) ∧
    (s.can[n].busOff = true → s.can[n].recov = true → ∃ t, exec (.canRecoveryDone dt n) s = .next t ∧
      t.but s = { s.advance dt with
        can := vset s.can n (fun x => { x with busOff := false, recov := false, integrating := false, tec := 0, rec' := 0 }), recs := t.recs } ∧
      Wrote s t [evtOf (s.tbAt dt) (Unit.can n) 0x1001 3 0])

/-! ## Rings, work SRAM and the Siphon data mover -/

/-- RECORD_EMIT takes the oldest record that waits to the ring of its source: disabled, the record counts as dropped; longer than the ring, it is lost with cause 3; where it fits, its bytes lie behind WR, WR advances past it, RD stays, and the idle device channels of the ring whose mark is reached become PENDING; where it does not, a ring that
drops new records keeps what it has (cause 2), and one that overwrites passes RD over the oldest (cause 1). No byte outside the ring's space changes. WORK_SRAM_WRITE of the owner of an idle or stopped channel writes four bytes of its window and no other; elsewhere it answers RIGHTS, while the channel runs or a replay fills the place STATE, and at a bad
address RANGE. JCP_READ of a word of work SRAM gives its bytes; one that cannot be corrected is counted and named in the answer, one that is corrected is counted. FETCH of the owner takes as many whole records as fit, oldest first; a record too long for MAX is answered by its length; without a fetch destination, or on a device channel, STATE; of another origin RIGHTS; with a bad MAX RANGE. -/
def Obligations.RecordsInRings : Prop :=
  ∀ (s : State) (dt : Nat), s.running = true →
    (s.recs.outbox = [] → ∃ t, exec (.recordEmit dt) s = .next t ∧ t.but s = s.advance dt) ∧
    (∀ (r : Record) (rest : List Record), s.recs.outbox = r :: rest →
      let u : State := { s with recs := { s.recs with outbox := rest } }
      (ringFor r.unit r.typ = none → ∃ t, exec (.recordEmit dt) s = .next t ∧
        t.but s = { u.advance dt with sip := { s.sip with offDrop := satInc 32 s.sip.offDrop } }) ∧
      (∀ k : Fin 32, ringFor r.unit r.typ = some k →
        let x : RingSt := s.sip.rings[k]
        let len : Nat := r.bytes.length
        let size : Nat := s.ringSize k
        let new : RingRec := ⟨x.wr, len, s.tbAt dt⟩
        (s.regs.RNG_r_CFG_EN k = false → ∃ t, exec (.recordEmit dt) s = .next t ∧
          t.but s = { u.advance dt with sip := { s.sip with offDrop := satInc 32 s.sip.offDrop } }) ∧
        (s.regs.RNG_r_CFG_EN k = true →
          (size < len → ∃ t, exec (.recordEmit dt) s = .next t ∧ RingKept s t k ∧ RingLost u t dt k 3) ∧
          (len ≤ size → size < len + ptrSub x.wr x.rd → s.regs.RNG_r_CFG_FULL k = true → ∃ t, exec (.recordEmit dt) s = .next t ∧
            RingKept s t k ∧ RingLost u t dt k 2) ∧
          (len + ptrSub x.wr x.rd ≤ size → ∃ t, exec (.recordEmit dt) s = .next t ∧ t.recs = u.recs ∧
            t.sip.rings = vset s.sip.rings k (fun x => { x with wr := ptrAdd x.wr len, recs := x.recs ++ [new] }) ∧
            InRing t k x.wr r.bytes ∧ RingOnly s t k ∧
            (∀ c : Fin 32, c.val < 16 →
              (bit (s.regs.SIP_CHc_RMASK c) k.val = true → s.regs.RNG_r_HI k ≤ ptrSub (ptrAdd x.wr len) x.rd → s.sip.chs[c].state = .idle →
                t.sip.chs[c] = { s.sip.chs[c] with state := .pending, flush := false }) ∧
              (bit (s.regs.SIP_CHc_RMASK c) k.val = false ∨ ptrSub (ptrAdd x.wr len) x.rd < s.regs.RNG_r_HI k → t.sip.chs[c] = s.sip.chs[c]))) ∧
          (∀ (q : RingRec) (more : List RingRec), x.recs = q :: more → s.regs.RNG_r_CFG_FULL k = false → s.sip.desc = none → s.regs.RNG_r_CFG_TAP_CH k = 0 →
            len ≤ size → size < len + ptrSub x.wr x.rd → len + ptrSub x.wr (ptrAdd q.pos q.len) ≤ size → ∃ t, exec (.recordEmit dt) s = .next t ∧
            t.sip.rings[k].recs = more ++ [new] ∧ t.sip.rings[k].rd = ptrAdd q.pos q.len ∧ t.sip.rings[k].wr = ptrAdd x.wr len ∧
            (∀ j, j ≠ k → t.sip.rings[j] = s.sip.rings[j]) ∧ InRing t k x.wr r.bytes ∧ RingOnly s t k ∧ RingLost u t dt k 1)))) ∧
    (∀ unit : Nat, ringFor unit 8 = some 1 ∧ ringFor unit 7 = some 2) ∧
    (∀ (n : Fin 6) (typ : Nat), typ ≠ 8 → typ ≠ 7 → ringFor (0x10 + n.val) typ = some (if typ = 1 then Fin.ofNat 32 (10 + n.val) else Fin.ofNat 32 (4 + n.val)) ∧
      ringFor (0x60 + n.val) typ = some 24) ∧
    (∀ (n : Fin 4) (typ : Nat), typ ≠ 8 → typ ≠ 7 → ringFor (0x20 + n.val) typ = some (Fin.ofNat 32 (16 + n.val))) ∧
    (∀ (o : Origin) (addr value : Word), s.writes o = true → let a : Nat := addr.toNat
      (a % 4 ≠ 0 ∨ a < 0x1000000 ∨ 0x1400000 ≤ a → ∃ t, exec (.workSramWrite dt o addr value) s = .next t ∧
        t.but s = { s.advance dt with cp := t.cp, recs := t.recs } ∧ Refused s t dt o 2 St.range 0) ∧
      (a % 4 = 0 → 0x1000000 ≤ a → a < 0x1380000 → ∃ t d, exec (.workSramWrite dt o addr value) s = .next t ∧
        t.but s = { s.advance dt with cp := t.cp, recs := t.recs } ∧ Refused s t dt o 2 St.rights d) ∧
      (∀ k : Fin 32, 16 ≤ k.val → a % 4 = 0 → windowBase k ≤ a → a < windowBase k + 0x8000 →
        let filled : Prop := s.car.rpl.state = 1 ∧ windowBase s.car.rpl.ch + s.car.rpl.base ≤ a ∧ a < windowBase s.car.rpl.ch + s.car.rpl.base + s.car.rpl.len
        (¬ filled → s.ownsCh o k.val = true → s.sip.chs[k].state = .idle ∨ s.sip.chs[k].state = .stopped → ∃ t, exec (.workSramWrite dt o addr value) s = .next t ∧
          t.but s = { s.advance dt with sip := { s.sip with sram := t.sip.sram, ecc := t.sip.ecc }, cp := (s.advance dt).cpWrote o } ∧
          (∀ q, q ∈ t.sip.ecc ↔ q ∈ s.sip.ecc ∧ (q.1 < a ∨ a < q.1)) ∧ SramPut s t a (leBytes 4 value.toNat)) ∧
        (filled ∨ (s.ownsCh o k.val = true ∧ s.sip.chs[k].state ≠ .idle ∧ s.sip.chs[k].state ≠ .stopped) → ∃ t, exec (.workSramWrite dt o addr value) s = .next t ∧
          t.but s = { s.advance dt with cp := t.cp, recs := t.recs } ∧ Refused s t dt o 2 St.state 0) ∧
        (¬ filled → s.ownsCh o k.val = false → ∃ t d, exec (.workSramWrite dt o addr value) s = .next t ∧
          t.but s = { s.advance dt with cp := t.cp, recs := t.recs } ∧ Refused s t dt o 2 St.rights d))) ∧
    (∀ (o : Origin) (addr : Word), s.serves o = true → addr.toNat % 4 = 0 → areaOf addr.toNat = .sram → let a : Nat := addr.toNat
      let read (sip : SipSt) (r : Reply) : Prop := ∃ t, exec (.jcpRead dt o addr 1) s = .next t ∧ t.but s = { s.advance dt with sip := sip, cp := (s.advance dt).cpAfter o 1 r }
      ((∀ q ∈ s.sip.ecc, q.1 ≠ a) → read s.sip { status := St.ack, data := s.sramRead a 4 }) ∧
      (s.sip.ecc.find? (fun q => q.1 == a) = some (a, true) →
        read { s.sip with uncorr := satInc 16 s.sip.uncorr } { status := St.ack, detail := 0x0ECC, index := 0, data := s.sramRead a 4 }) ∧
      (s.sip.ecc.find? (fun q => q.1 == a) = some (a, false) → (a, true) ∉ s.sip.ecc →
        read { s.sip with corr := satInc 16 s.sip.corr } { status := St.ack, data := s.sramRead a 4 })) ∧
    (∀ (o : Origin) (k : Fin 32) (max : Nat), s.serves o = true →
      (k.val < 16 → ∃ t, exec (.fetch dt o k max) s = .next t ∧ t.but s = { s.advance dt with cp := t.cp, recs := t.recs } ∧ Refused s t dt o 5 St.state 0) ∧
      (16 ≤ k.val → s.ownsCh o k.val = false → ∃ t d, exec (.fetch dt o k max) s = .next t ∧
        t.but s = { s.advance dt with cp := t.cp, recs := t.recs } ∧ Refused s t dt o 5 St.rights d) ∧
      (16 ≤ k.val → s.ownsCh o k.val = true →
        (max < 16 ∨ 3968 < max → ∃ t, exec (.fetch dt o k max) s = .next t ∧ t.but s = { s.advance dt with cp := t.cp, recs := t.recs } ∧ Refused s t dt o 5 St.range 0) ∧
        (16 ≤ max → max ≤ 3968 →
          (∀ l m : List (List Byte), s.sip.chs[k].fetch = l ++ m → l ≠ [] → (l.map List.length).sum ≤ max →
            (∀ q, m.head? = some q → max < (l.map List.length).sum + q.length) → ∃ t, exec (.fetch dt o k max) s = .next t ∧
            t.but s = { s.advance dt with
              sip := { s.sip with chs := vset s.sip.chs k (fun x => { x with fetch := m }) }
              cp := (s.advance dt).cpAfter o 5 { status := St.ack, data := l.flatten } }) ∧
          (∀ (q : List Byte) (m : List (List Byte)), s.sip.chs[k].fetch = q :: m → max < q.length → ∃ t, exec (.fetch dt o k max) s = .next t ∧
            t.but s = { s.advance dt with cp := (s.advance dt).cpAfter o 5 { status := St.ack, detail := q.length } }) ∧
          (s.sip.chs[k].fetch = [] → let dest : Bool := s.hasFetchDest (s.headOf k) (s.regs.SIP_CHc_VMAX k)
            (dest = true → ∃ t, exec (.fetch dt o k max) s = .next t ∧ t.but s = { s.advance dt with cp := (s.advance dt).cpAfter o 5 { status := St.ack } }) ∧
            (dest = false → ∃ t, exec (.fetch dt o k max) s = .next t ∧ t.but s = { s.advance dt with cp := t.cp, recs := t.recs } ∧ Refused s t dt o 5 St.state 0)))))

/-- CHANNEL_FLUSH of a record that has stood for FLUSH triggers an idle channel, or one that runs once more. DESCRIPTOR_FETCHED starts the next PENDING channel in turn, or fetches the next descriptor; a checked one is in hand, one that fails stops the channel with its code, and beyond VMAX it is LOOP. DESCRIPTOR_DONE of a COPY leaves at DST the bytes of SRC, of a DRAIN of one record to the fetch buffer
moves it whole, passes over one above 3968 bytes, or leaves it where there is no room; MOVED and RESULT are written back, and the channel goes on, ends, or stops with 6 where a STOP waits; an ECC error stops it with 7, and the word counts as uncorrectable. BUS_ERROR halts every channel and moves no ring pointer; SIP_RESTART of the token holder or class M stops those that ran or waited with 5. SIP_START, SIP_STOP and CHANNEL_RESTART
of the owner act by the state of the channel; on a device channel only CHANNEL_RESTART of the token holder or class M; another origin is answered RIGHTS, a state that does not fit STATE. -/
def Obligations.SiphonMover : Prop :=
  ∀ (s : State) (dt : Nat), s.running = true →
    (∀ c : Fin 16, s.sip.halted = false → let k : Fin 32 := ⟨c.val, by omega⟩
      let old : Prop := ∃ (r : Fin 32) (q : RingRec) (more : List RingRec), bit (s.regs.SIP_CHc_RMASK k) r.val = true ∧ s.sip.rings[r].recs = q :: more ∧
        q.at' + nsOf (s.regs.SIP_CHc_FLUSH k) ≤ s.tbAt dt
      (old → s.sip.chs[k].state = .idle → ∃ t, exec (.channelFlush dt c) s = .next t ∧
        t.but s = { s.advance dt with sip := { s.sip with chs := vset s.sip.chs k (fun x => { x with state := .pending, flush := true }) } }) ∧
      (old → s.sip.chs[k].state = .running → ∃ t, exec (.channelFlush dt c) s = .next t ∧
        t.but s = { s.advance dt with sip := { s.sip with chs := vset s.sip.chs k (fun x => if x.again then x else { x with again := true, againFlush := true }) } }) ∧
      (¬ old ∨ s.sip.chs[k].state = .stopped → ∃ t, exec (.channelFlush dt c) s = .next t ∧ t.but s = s.advance dt)) ∧
    (s.sip.halted = false → s.sip.desc = none →
      (s.sip.run = none → (∀ c : Fin 32, s.sip.chs[c].state ≠ .pending) → ∃ t, exec (.descriptorFetched dt) s = .next t ∧ t.but s = s.advance dt) ∧
      (∀ (c : Fin 32) (i : Nat), s.sip.run = none → i < 32 → c = Fin.ofNat 32 (s.sip.last + 1 + i) → s.sip.chs[c].state = .pending →
        (∀ j, j < i → s.sip.chs[(Fin.ofNat 32 (s.sip.last + 1 + j) : Fin 32)].state ≠ .pending) → 0 < s.regs.SIP_CHc_VMAX c →
        let code : Nat := s.descCode c (s.headOf c)
        (code = 0 → ∃ t, exec (.descriptorFetched dt) s = .next t ∧ t.but s = { s.advance dt with sip := { s.sip with
          run := some c, desc := some (s.descAt (s.headOf c)).1
          chs := vset s.sip.chs c (fun x => { x with state := .running, visit := 1, acts := satInc 16 x.acts, cur := s.headOf c }) } }) ∧
        (code ≠ 0 → ∃ t, exec (.descriptorFetched dt) s = .next t ∧ t.sip.run = none ∧ t.sip.sram = s.sip.sram ∧ ChStopped s t dt c code (s.headOf c))) ∧
      (∀ c : Fin 32, s.sip.run = some c → let x : ChSt := s.sip.chs[c]
        (x.visit < s.regs.SIP_CHc_VMAX c → s.descCode c x.cur = 0 → ∃ t, exec (.descriptorFetched dt) s = .next t ∧
          t.but s = { s.advance dt with sip := { s.sip with
            desc := some (s.descAt x.cur).1, chs := vset s.sip.chs c (fun x => { x with visit := x.visit + 1 }) } }) ∧
        (x.visit < s.regs.SIP_CHc_VMAX c → s.descCode c x.cur ≠ 0 → ∃ t, exec (.descriptorFetched dt) s = .next t ∧ ChStopped s t dt c (s.descCode c x.cur) x.cur) ∧
        (s.regs.SIP_CHc_VMAX c ≤ x.visit → ∃ t, exec (.descriptorFetched dt) s = .next t ∧ ChStopped s t dt c 1 x.cur))) ∧
    (∀ (c : Fin 32) (a : Nat), let d : Desc := (s.descAt a).1
      (s.descCode c a = 0 ∨ s.descCode c a = 2 ∨ s.descCode c a = 3 ∨ s.descCode c a = 4) ∧
      (a % 32 ≠ 0 ∨ 1 < d.op ∨ d.len = 0 ∨ (s.sramRead a 32).drop 28 ≠ complBytes ((s.sramRead a 32).take 4) → s.descCode c a = 4) ∧
      (16 ≤ c.val → (a < windowBase c ∨ windowBase c + 0x8000 < a + 32) → s.descCode c a = 4 ∨ s.descCode c a = 3) ∧
      (d.op = 0 → d.src < d.dst + d.len → d.dst < d.src + d.len → d.src < d.dst ∨ d.flags.testBit 2 = false → s.descCode c a ≠ 0)) ∧
    (∀ (c : Fin 32) (d : Desc), s.sip.run = some c → s.sip.desc = some d → let x : ChSt := s.sip.chs[c]
      let back : Nat := x.cur + 20
      let after (t : State) : Prop := t.sip.desc = none ∧
        (x.stopReq = true → t.sip.chs[c].state = .stopped ∧ t.sip.chs[c].code = 6 ∧ t.sip.run = none) ∧
        (x.stopReq = false → d.next = 0 → t.sip.run = none ∧ t.sip.last = c.val ∧ t.sip.chs[c].state = (if x.again then .pending else .idle)) ∧
        (x.stopReq = false → d.next ≠ 0 → t.sip.run = some c ∧ t.sip.chs[c].state = x.state ∧ t.sip.chs[c].cur = d.next)
      (d.op = 0 → 0x1000000 ≤ d.src → d.flags.testBit 0 = false → d.flags.testBit 1 = false → ∃ t, exec (.descriptorDone dt false) s = .next t ∧ after t ∧
        (∀ a, a < back ∨ back + 8 ≤ a → t.sramAt a = if d.dst ≤ a ∧ a < d.dst + d.len then s.sramAt (d.src + (a - d.dst)) else s.sramAt a) ∧
        t.sramRead back 8 = leBytes 4 d.len ++ leBytes 4 0x80000000 ∧ t.sip.chs[c].bytes = (x.bytes + d.len) % 2 ^ 32 ∧ t.sip.rings = s.sip.rings) ∧
      (∀ (r : Fin 32) (q : RingRec), d.op = 1 → d.src = r.val → d.dst = 0x30 → d.flags.testBit 3 = false → s.regs.RNG_r_CFG_TAP_CH r = 0 → s.sip.rings[r].recs = [q] →
        (q.len ≤ 3968 → q.len ≤ d.len) → q.len ≤ s.ringSize r → (if d.flags.testBit 5 || x.flush then 0 else s.regs.RNG_r_LO r) < ptrSub s.sip.rings[r].wr s.sip.rings[r].rd →
        let passed (t : State) : Prop := t.sip.rings = vset s.sip.rings r (fun x => { x with recs := [], rd := ptrAdd q.pos q.len, tap := ptrAdd q.pos q.len })
        (q.len ≤ 3968 → fetchFill x + q.len ≤ 4096 → ∃ t, exec (.descriptorDone dt false) s = .next t ∧ after t ∧ passed t ∧
          t.sip.chs[c].fetch = x.fetch ++ [(List.range q.len).map (fun i => s.sramAt ((s.regs.RNG_r_BASE r).toNat + (q.pos + i) % s.ringSize r))] ∧
          t.sramRead back 8 = leBytes 4 q.len ++ leBytes 4 0x80000000) ∧
        (3968 < q.len → ∃ t, exec (.descriptorDone dt false) s = .next t ∧ after t ∧ passed t ∧ t.sip.chs[c].fetch = x.fetch ∧
          t.sip.chs[c].skips = satInc 16 x.skips ∧ t.sramRead back 8 = leBytes 4 0 ++ leBytes 4 0x80000000) ∧
        (q.len ≤ 3968 → 4096 < fetchFill x + q.len → ∃ t, exec (.descriptorDone dt false) s = .next t ∧ after t ∧ t.sip.rings = s.sip.rings ∧
          t.sip.chs[c].fetch = x.fetch ∧ t.sramRead back 8 = leBytes 4 0 ++ leBytes 4 0x80000000)) ∧
      (∃ t, exec (.descriptorDone dt true) s = .next t ∧ t.sip.chs[c].state = .stopped ∧ t.sip.chs[c].code = 7 ∧ t.sip.run = none ∧ t.sip.desc = none ∧
        (d.op = 0 → 0x1000000 ≤ d.src → 0 < d.len → t.sip.uncorr = satInc 16 s.sip.uncorr ∧ ∃ a, (a, true) ∈ t.sip.ecc ∧ d.src < a + 4 ∧ a < d.src + d.len))) ∧
    (∀ addr : Word, s.sip.halted = false →
      (s.sip.run ≠ none ∨ (∃ c : Fin 32, s.sip.chs[c].state = .pending) → ∃ t, exec (.busError dt addr) s = .next t ∧ t.sip.halted = true ∧ t.sip.run = none ∧
        (∀ c : Fin 32, t.sip.chs[c].state = .halted ∧ t.sip.chs[c].was = s.sip.chs[c].state) ∧ t.sip.berrAddr = addr.toNat ∧
        t.sip.berrCount = satInc 16 s.sip.berrCount ∧ t.sip.desc = none ∧ ((∀ d : Desc, s.sip.desc = some d → d.op = 0) → t.sip.rings = s.sip.rings ∧
        Wrote s t [evtOf (s.tbAt dt) Unit.sip 0x1102 (match s.sip.run with | some c => c.val + 256 | none => 0) addr.toNat])) ∧
      (s.sip.run = none → (∀ c : Fin 32, s.sip.chs[c].state ≠ .pending) → ∃ t, exec (.busError dt addr) s = .next t ∧ t.but s = s.advance dt)) ∧
    (∀ (o : Origin) (k : Fin 32), s.writes o = true →
      let x : ChSt := s.sip.chs[k]
      let went (t : State) (f : ChSt → ChSt) : Prop := t.but s = { s.advance dt with sip := { s.sip with chs := vset s.sip.chs k f }, cp := (s.advance dt).cpWrote o }
      let refused (c : Instr) : Prop := ∃ t, exec c s = .next t ∧ t.but s = { s.advance dt with cp := t.cp, recs := t.recs } ∧ Refused s t dt o 2 St.state 0
      (16 ≤ k.val → s.ownsCh o k.val = true →
        let fit : Prop := (x.state = .idle ∨ x.state = .stopped) ∧ s.headOf k % 32 = 0 ∧ windowBase k ≤ s.headOf k ∧ s.headOf k + 32 ≤ windowBase k + 0x8000
        (fit → ∃ t, exec (.sipStart dt o k) s = .next t ∧ went t (fun x => { x with state := .pending, started := true, stopReq := false, flush := false })) ∧
        (¬ fit → refused (.sipStart dt o k)) ∧
        (x.state = .running → ∃ t, exec (.sipStop dt o k) s = .next t ∧ went t (fun x => { x with stopReq := true })) ∧
        (x.state = .pending ∨ x.state = .idle → ∃ t, exec (.sipStop dt o k) s = .next t ∧ ChStopped s t dt k 6 x.cur) ∧
        (x.state = .stopped → ∃ t, exec (.sipStop dt o k) s = .next t ∧ t.but s = { s.advance dt with cp := (s.advance dt).cpWrote o }) ∧
        (x.state = .halted → refused (.sipStop dt o k))) ∧
      (16 ≤ k.val → s.ownsCh o k.val = false → ∀ c, c = .sipStart dt o k ∨ c = .sipStop dt o k ∨ c = .channelRestart dt o k → ∃ t d, exec c s = .next t ∧
        t.but s = { s.advance dt with cp := t.cp, recs := t.recs } ∧ Refused s t dt o 2 St.rights d) ∧
      (k.val < 16 → s.may true o = true → refused (.sipStart dt o k) ∧ refused (.sipStop dt o k)) ∧
      ((if 16 ≤ k.val then s.ownsCh o k.val else s.may true o) = true →
        (x.state = .stopped → ∃ t, exec (.channelRestart dt o k) s = .next t ∧ went t (fun x => { x with state := .idle })) ∧
        (x.state ≠ .stopped → refused (.channelRestart dt o k)))) ∧
    (∀ (o : Origin) (w : Word), s.writes o = true → s.may true o = true →
      (bit w 0 = true → s.sip.halted = true → ∃ t, exec (.sipRestart dt o w) s = .next t ∧ t.sip.halted = false ∧
        (∀ c : Fin 32, (s.sip.chs[c].was = .running ∨ s.sip.chs[c].was = .pending → t.sip.chs[c].state = .stopped ∧ t.sip.chs[c].code = 5) ∧
          (s.sip.chs[c].was = .stopped → t.sip.chs[c] = { s.sip.chs[c] with state := .stopped }) ∧
          (s.sip.chs[c].was = .idle → t.sip.chs[c] = { s.sip.chs[c] with state := .idle })) ∧ t.sip.rings = s.sip.rings ∧
        Wrote s t [evtOf (s.tbAt dt) Unit.sip 0x1103 (clsPort o.cls).val (maskOf 32 (fun i =>
          s.sip.chs[(Fin.ofNat 32 i : Fin 32)].was == .running || s.sip.chs[(Fin.ofNat 32 i : Fin 32)].was == .pending))]) ∧
      (bit w 0 = true → s.sip.halted = false → ∃ t, exec (.sipRestart dt o w) s = .next t ∧
        t.but s = { s.advance dt with cp := t.cp, recs := t.recs } ∧ Refused s t dt o 2 St.state 0))

/-! ## The Carafe recorder -/

/-- STREAM_FLUSH of a buffer that has waited FLUSH programs its page, with its tag and padded with 0xFF, on the open block of the next target in turn, before the maintenance that waits for the target; META_CHECKPOINT after 60 s writes the pages of one entry, whose second half is the complement of the first. NAND_PROGRAM_DONE and NAND_ERASE_DONE end the operation; where the NAND failed, the block is bad and recorded. NAND_READ_DONE counts the read; an uncorrectable
one is counted and recorded, and one with many corrected bits has the block moved. NAND_BUSY_TIMEOUT repeats the operation; the third in a row, a RESET that times out too and another READ ID after it take the target offline. SCRUB reads the block that was read longest ago; STATIC_WEAR_LEVEL after 10 s moves the least worn still block to the most worn free one where they differ by more than
WL_DELTA, and MAINTENANCE_WAIT_EXPIRY puts a maintenance operation that waited 10 s first. -/
def Obligations.RecorderOperations : Prop :=
  ∀ (s : State) (dt : Nat), s.running = true →
    (∀ (k : Fin 4) (since : Nat), s.car.streams[k].since = some since →
      (s.car.st = 2 → since + nsOf (s.regs.CAR_STRs_FLUSH k) ≤ s.tbAt dt → s.car.streams[k].buf ≠ [] →
        ∀ (tg : Nat) (x y : Blk), (s.turns s.car.nextTgt).head? = some tg →
          s.car.blks.find? (fun x => x.kind == .ring && x.isOpen && s.targetOf x.b == tg) = some x → s.carBlk x.b = some y → y.pages + 1 < s.carPpb →
          ∃ t, exec (.streamFlush dt k) s = .next t ∧
          (∃ i, t.car.ops = s.car.ops.take i ++ ⟨.program x.b y.pages
            (let at' : Nat × Nat := s.car.streams[k].first.getD (0xFFFF, 0);
              s.pageTag x.b (s.car.seq + 1) 1 k.val s.car.streams[k].buf.length at'.1 at'.2) (s.pageMain s.car.streams[k].buf), s.tbAt dt, false⟩ :: s.car.ops.drop i ∧
            ((∀ m ∈ s.car.ops, m.act.maint = false) → s.car.ops.length ≤ i) ∧
            ((∀ m ∈ s.car.ops, m.act.site.1 ≠ x.b) → ∀ (j j' : Nat) (m m' : NandOp), j' < j → j < i → s.car.ops[j]? = some m → s.car.ops[j']? = some m' → m.act.maint = true →
              s.onTarget m tg = true → s.onTarget m' tg = false)) ∧
          t.car.streams = vset s.car.streams k (fun z => { z with buf := [], first := none, since := none }) ∧
          t.car.seq = s.car.seq + 1 ∧ t.car.nextTgt = (tg + 1) % 4 ∧ t.recs = s.recs ∧ t.sip = s.sip ∧ t.regs = s.regs) ∧
      (s.tbAt dt < since + nsOf (s.regs.CAR_STRs_FLUSH k) → ∃ t, exec (.streamFlush dt k) s = .next t ∧ t.but s = s.advance dt)) ∧
    (s.metaBytes.length = 5208 ∧ s.metaBytes.take 8 = [0x4A, 0x4E, 0x43, 0x46, 1, 0, 0, 0] ∧
      (s.car.st = 2 → s.car.metaAt + 60000000000 ≤ s.tbAt dt → ∀ x : Blk, let n : Nat := (10416 + s.carPage - 1) / s.carPage
        s.car.blks.find? (fun x => x.kind == .metaLog && x.isOpen && decide (x.pages + n ≤ s.carPpb)) = some x →
        ∃ (t : State) (l : List NandOp), exec (.metaCheckpoint dt) s = .next t ∧ t.car.ops = s.car.ops ++ l ∧ l.length = n ∧ t.car.metaAt = s.tbAt dt ∧ t.car.seq = s.car.seq + n ∧
        (∀ i, i < n → let part : List Byte := ((s.metaBytes ++ complBytes s.metaBytes).drop (i * s.carPage)).take s.carPage
          ∃ p, l[i]? = some ⟨.program x.b p (s.pageTag x.b (s.car.seq + 1 + i) 3 0 part.length (if i = 0 then 0 else 0xFFFF) 0) (s.pageMain part), s.tbAt dt, false⟩) ∧ t.car.evt = s.car.evt ∧ t.car.dump = s.car.dump) ∧
      (s.tbAt dt < s.car.metaAt + 60000000000 → ∃ t, exec (.metaCheckpoint dt) s = .next t ∧ t.but s = s.advance dt)) ∧
    (∀ (l r : List NandOp) (o : NandOp) (b p : Nat) (tag main : List Byte), FirstOp s NandAct.isWrite l o r → o.act = .program b p tag main →
      (∃ t, exec (.nandProgramDone dt true) s = .next t ∧ t.but s = { s.advance dt with car := { s.car with
        ops := l ++ r, tmo := s.car.tmo.set! (s.targetOf b) 0
        rate := s.car.rate.filter (fun q => decide (s.tbAt dt < q.1 + 10000000000)) ++ [(s.tbAt dt, s.carPage)] } }) ∧
      (∃ (t : State) (more : List Shown), exec (.nandProgramDone dt false) s = .next t ∧ (t.carBlk b).map (·.kind) = some .bad ∧
        Wrote s t (carOf (s.tbAt dt) 0x1204 1 (s.blkAddr b) (s.ec b) :: more))) ∧
    (∀ (l r : List NandOp) (o : NandOp) (b : Nat), FirstOp s NandAct.isErase l o r → o.act = .erase b →
      (∃ t, exec (.nandEraseDone dt true) s = .next t ∧ t.but s = { s.advance dt with car := { s.car with
        ops := l ++ r, tmo := s.car.tmo.set! (s.targetOf b) 0 } }) ∧
      (∃ (t : State) (more : List Shown), exec (.nandEraseDone dt false) s = .next t ∧ (t.carBlk b).map (·.kind) = some .bad ∧
        Wrote s t (carOf (s.tbAt dt) 0x1204 2 (s.blkAddr b) (s.ec b) :: more))) ∧
    (∀ (l r : List NandOp) (o : NandOp) (b p : Nat) (x : Blk) (q : ReadResult), FirstOp s NandAct.isRead l o r → o.act = .read b p .scrub → s.carBlk b = some x →
      (q.uncorrectable = none → q.corrected < s.regs.CAR_ECC_THR_REFRESH → x.reads + 1 < s.regs.CAR_RD_LIMIT.toNat → ∃ t, exec (.nandReadDone dt q) s = .next t ∧
        t.but s = { s.advance dt with car := { s.car with
          ops := l ++ r, tmo := s.car.tmo.set! (s.targetOf b) 0
          blks := s.car.blks.map (fun y => if y.b = b then { y with reads := y.reads + 1, scrubAt := s.tbAt dt } else y) } }) ∧
      (∀ chunk : Nat, q.uncorrectable = some chunk → ∃ t, exec (.nandReadDone dt q) s = .next t ∧ t.car.unc = satInc 16 s.car.unc ∧
        Wrote s t [carOf (s.tbAt dt) 0x1205 chunk (s.blkAddr b) (x.seqs.getD p 0)]) ∧
      (∀ f : Nat, q.uncorrectable = none → s.regs.CAR_ECC_THR_REFRESH ≤ q.corrected → s.car.st = 2 → (∀ m ∈ s.car.ops, ∀ n w, m.act ≠ .move b n w) →
        ((s.turns s.car.nextBlk).filterMap s.leastFree).head? = some f → ∃ t, exec (.nandReadDone dt q) s = .next t ∧
        t.car.ops = l ++ r ++ [⟨.erase f, s.tbAt dt, false⟩, ⟨.move b f 3, s.tbAt dt, false⟩] ∧ t.recs = s.recs)) ∧
    (∀ (target : Fin 4) (l r : List NandOp) (o : NandOp), s.online target.val = true → FirstOp s (fun a => s.targetOf a.site.1 == target.val) l o r →
      (s.car.tmo[target] + 1 < 3 → ∃ t, exec (.nandBusyTimeout dt target) s = .next t ∧ t.car.tmo = s.car.tmo.set target (s.car.tmo[target] + 1) ∧
        t.car.tgtOn = s.car.tgtOn ∧ t.car.blks = s.car.blks ∧ (∃ m ∈ t.car.ops, m = { o with again := true }) ∧
        Wrote s t [carOf (s.tbAt dt) 0x1203 target.val o.act.site.2 0]) ∧
      (3 ≤ s.car.tmo[target] + 1 → ∃ (t : State) (more : List Shown), exec (.nandBusyTimeout dt target) s = .next t ∧ t.online target.val = false ∧
        (∀ m, m ≠ target → t.online m.val = s.online m.val) ∧ (∀ m ∈ t.car.ops, s.targetOf m.act.site.1 ≠ target.val) ∧
        Wrote s t (carOf (s.tbAt dt) 0x1203 (target.val + 0x100) o.act.site.2 0 :: more)) ∧
      (∀ after : Fin 3, after ≠ 0 → s.car.tmo[target] + 1 < 3 → ∃ (t : State) (more : List Shown), exec (.nandBusyTimeout dt target after) s = .next t ∧ t.online target.val = false ∧
        Wrote s t (carOf (s.tbAt dt) 0x1203 target.val o.act.site.2 0 ::
          carOf (s.tbAt dt) 0x1203 (target.val + 256 * after.val) (if after = 1 then 0xFF else 0x90) 0 :: more))) ∧
    (∀ x : Blk, s.scrubBlk = some x → (x ∈ s.car.blks ∧ x.kind ≠ .bad ∧ 0 < x.pages ∧ ∀ y ∈ s.car.blks, y.kind ≠ .bad → 0 < y.pages → x.scrubAt ≤ y.scrubAt) ∧
      (s.car.st = 2 → ∃ t, exec (.scrub dt) s = .next t ∧ t.but s = { s.advance dt with car := { s.car with
        ops := s.car.ops ++ (List.range x.pages).map (fun p => ⟨.read x.b p .scrub, s.tbAt dt, false⟩)
        blks := s.car.blks.map (fun y => if y.b = x.b then { y with scrubAt := s.tbAt dt } else y) } })) ∧
    (s.car.st = 2 → s.car.wearAt + 10000000000 ≤ s.tbAt dt →
      ((∀ h ∈ s.freeBlks, ∀ x ∈ s.car.blks, s.coldBlk x → s.ec h ≤ s.regs.CAR_WEAR_WL_DELTA + s.ec x.b) → ∃ t, exec (.staticWearLevel dt) s = .next t ∧
        t.but s = { s.advance dt with car := { s.car with wearAt := s.tbAt dt } }) ∧
      ((∀ m ∈ s.car.ops, ∀ o n w, m.act ≠ .move o n w) → (∃ h ∈ s.freeBlks, ∃ x ∈ s.car.blks, s.coldBlk x ∧ s.regs.CAR_WEAR_WL_DELTA + s.ec x.b < s.ec h) →
        ∃ (t : State) (old new : Nat), exec (.staticWearLevel dt) s = .next t ∧
        t.car.ops = s.car.ops ++ [⟨.erase new, s.tbAt dt, false⟩, ⟨.move old new 4, s.tbAt dt, false⟩] ∧ t.car.wearAt = s.tbAt dt ∧
        new ∈ s.freeBlks ∧ (∀ h ∈ s.freeBlks, s.ec h ≤ s.ec new) ∧ (∃ x ∈ s.car.blks, x.b = old ∧ s.coldBlk x) ∧
        (∀ x ∈ s.car.blks, s.coldBlk x → s.ec old ≤ s.ec x.b))) ∧
    (∀ (target : Fin 4) (l r : List NandOp) (o : NandOp),
      let mine (q : NandOp) : Prop := q.since + 10000000000 ≤ s.tbAt dt ∧
        ((∃ b p, q.act = .read b p .scrub ∧ s.targetOf b = target.val) ∨ (∃ b n w, q.act = .move b n w ∧ s.targetOf b = target.val))
      s.car.ops = l ++ o :: r → mine o → (∀ q ∈ l, ¬ mine q) → ∃ t, exec (.maintenanceWaitExpiry dt target) s = .next t ∧
      t.but s = { s.advance dt with car := { s.car with ops := { o with since := s.tbAt dt } :: (l ++ r) } })

/-- CAPTURE_COMMAND of the token holder or class M opens the lowest free slot and pins blocks of the log, extends a capture in whose window it falls, or is refused in a record: with 1 where no slot is free, with 2 at stage LOW or READ_ONLY; with the recorder off it answers STATE. CAPTURE_WINDOW_END past T0 + 2 POST holds the slot; a window that runs stays. EVENT_SLOT_RELEASE and
DUMP_SLOT_RELEASE free a held slot that no replay reads, unpin or erase its blocks, and are recorded; of another slot they answer STATE. FORMAT of class M in HOLD with MAINT_EN of a failed (4) or foreign recorder erases every good block and begins the next generation; else it answers STATE, and to another class RIGHTS. MOUNT fails with 1 without
a target, with 3 for a wrong geometry, with 4 without a META entry that it may not replace; it is read-only for a foreign one, and with its own entry takes over generation and captures. -/
def Obligations.RecorderSlots : Prop :=
  ∀ (s : State) (dt : Nat), s.running = true →
    (∀ o : Origin, s.writes o = true →
      (s.may true o = false → ∀ (c : Instr) (k : Fin 16), c = .captureCommand dt o ∨ c = .eventSlotRelease dt o k ∨ c = .dumpSlotRelease dt o k →
        ∃ t d, exec c s = .next t ∧ t.but s = { s.advance dt with cp := t.cp, recs := t.recs } ∧ Refused s t dt o 2 St.rights d) ∧
      (s.may true o = true → s.regs.CAR_CFG_EN = false ∨ (s.car.st ≠ 2 ∧ s.car.st ≠ 3) → ∃ t, exec (.captureCommand dt o) s = .next t ∧
        t.but s = { s.advance dt with cp := t.cp, recs := t.recs } ∧ Refused s t dt o 2 St.state 0) ∧
      (s.may true o = true → s.regs.CAR_CFG_EN = true →
        let now : Nat := s.tbAt dt
        let within (k : Fin 16) : Prop := s.car.evt[k].state = 1 ∧ s.car.evt[k].first ≤ now + nsOf s.regs.CAR_EVT_PRE ∧ now ≤ s.car.evt[k].last + nsOf s.regs.CAR_EVT_POST
        (∀ k : Fin 16, s.car.st = 2 → s.car.stage < 2 → (∀ j, ¬ within j) → s.car.evt[k].state = 0 → (∀ j, j < k → s.car.evt[j].state ≠ 0) →
          ∃ t, exec (.captureCommand dt o) s = .next t ∧ t.car.evt = s.car.evt.set k { state := 1, trigs := 1, first := now, last := now } ∧
          t.cp = (s.advance dt).cpWrote o ∧ (∀ x ∈ s.car.blks, x.b ∈ s.pinsFor now → ∃ y ∈ t.car.blks, y.b = x.b ∧ y.pins.getLsbD k.val = true) ∧
          (s.pinsFor now).length ≤ s.regs.CAR_AREA_EVT_MAXBLK ∧
          Wrote s t [carOf now 0x1207 (k.val + 0x100) (s.pinsFor now).length now]) ∧
        (∀ k : Fin 16, s.car.st = 2 ∨ s.car.st = 3 → within k → (∀ j, j < k → ¬ within j) → ∃ t, exec (.captureCommand dt o) s = .next t ∧
          t.but s = { s.advance dt with
            car := { s.car with evt := vset s.car.evt k (fun e => { e with trigs := satInc 8 e.trigs, last := max e.last now }) }
            cp := (s.advance dt).cpWrote o, recs := t.recs } ∧
          Wrote s t [carOf now 0x1207 (k.val + 0x200) (s.pinned k).length now]) ∧
        (∀ why : Nat, (∀ j, ¬ within j) →
          (why = 2 ∧ (s.car.st = 3 ∨ (s.car.st = 2 ∧ 2 ≤ s.car.stage))) ∨ (why = 1 ∧ s.car.st = 2 ∧ s.car.stage < 2 ∧ ∀ j : Fin 16, s.car.evt[j].state ≠ 0) →
          ∃ t, exec (.captureCommand dt o) s = .next t ∧ t.but s = { s.advance dt with cp := (s.advance dt).cpWrote o, recs := t.recs } ∧
          Wrote s t [carOf now 0x1208 why 0 now])) ∧
      (s.may true o = true → s.regs.CAR_CFG_EN = true → ∀ k : Fin 16,
        let reads (area : Nat) : Prop := s.car.rpl.state = 1 ∧ s.car.rpl.area = area ∧ s.car.rpl.slot = k.val
        (s.car.evt[k].state = 2 → ¬ reads 1 → ∃ t, exec (.eventSlotRelease dt o k) s = .next t ∧ t.car.evt = s.car.evt.set k {} ∧
          t.cp = (s.advance dt).cpWrote o ∧ t.pinned k = [] ∧ Wrote s t [carOf (s.tbAt dt) 0x1209 (1 + 256 * k.val) (s.pinned k).length 0]) ∧
        (s.car.evt[k].state ≠ 2 ∨ reads 1 → ∃ t, exec (.eventSlotRelease dt o k) s = .next t ∧
          t.but s = { s.advance dt with cp := t.cp, recs := t.recs } ∧ Refused s t dt o 2 St.state 0) ∧
        (∀ j : Fin 4, j.val = k.val → s.car.dump[j].state = 2 → s.car.st = 2 → ¬ reads 2 → ∃ t, exec (.dumpSlotRelease dt o k) s = .next t ∧
          t.car.dump = s.car.dump.set j {} ∧ t.cp = (s.advance dt).cpWrote o ∧
          (∀ x ∈ s.car.blks, x.kind = .dump k.val → ∃ m ∈ t.car.ops, m.act = .erase x.b) ∧
          Wrote s t [carOf (s.tbAt dt) 0x1209 (2 + 256 * k.val) (s.car.blks.filter (fun x => x.kind == .dump k.val)).length 0]) ∧
        (4 ≤ k.val ∨ (∃ j : Fin 4, j.val = k.val ∧ s.car.dump[j].state ≠ 2) ∨ reads 2 ∨ s.car.st ≠ 2 → ∃ t, exec (.dumpSlotRelease dt o k) s = .next t ∧
          t.but s = { s.advance dt with cp := t.cp, recs := t.recs } ∧ Refused s t dt o 2 St.state 0)) ∧
      (∀ maint : Bool, let fit : Prop := s.mode.mode = .hold ∧ maint = true ∧ ((s.car.st = 4 ∧ s.car.mountErr = 4) ∨ (s.car.st = 3 ∧ s.car.foreign = true))
        (o.cls ≠ .M → ∃ t d, exec (.format dt o maint) s = .next t ∧ t.but s = { s.advance dt with cp := t.cp, recs := t.recs } ∧ Refused s t dt o 2 St.rights d) ∧
        (o.cls = .M → ¬ fit → ∃ t, exec (.format dt o maint) s = .next t ∧ t.but s = { s.advance dt with cp := t.cp, recs := t.recs } ∧ Refused s t dt o 2 St.state 0) ∧
        (o.cls = .M → fit → ∃ (t : State) (more : List Shown), exec (.format dt o maint) s = .next t ∧ (t.car.st = 2 ∨ t.car.st = 3) ∧ t.car.gen = s.car.gen + 1 ∧ t.car.foreign = false ∧
          t.car.mountErr = 0 ∧ t.car.evt = Vector.replicate 16 {} ∧ (∀ b, b < s.carTotal → (∀ x ∈ s.car.blks, x.b = b → x.kind ≠ .bad) → ∃ m ∈ t.car.ops, m.act = .erase b) ∧
          Wrote s t (carOf (s.tbAt dt) 0x1202 (s.car.gen + 1) s.badCount 0 :: more)))) ∧
    (∀ (k : Fin 16) (e : EvtSlot), s.car.evt[k] = e → e.state = 1 →
      (e.last + 2 * nsOf s.regs.CAR_EVT_POST < s.tbAt dt → ∃ t, exec (.captureWindowEnd dt k) s = .next t ∧
        t.car.evt = s.car.evt.set k { e with state := 2 } ∧ Wrote s t [carOf (s.tbAt dt) 0x1207 (k.val + 0x300) (s.pinned k).length e.first]) ∧
      (s.tbAt dt ≤ e.last + 2 * nsOf s.regs.CAR_EVT_POST → (∃ j : Fin 4, s.regs.CAR_STRs_CFG j = true ∧ s.car.streams[j].lastTime < e.last + nsOf s.regs.CAR_EVT_POST) →
        (s.pinned k).length < s.regs.CAR_AREA_EVT_MAXBLK → ∃ t, exec (.captureWindowEnd dt k) s = .next t ∧ t.but s = s.advance dt)) ∧
    (∀ f : MountReport, s.car.st = 1 →
      let on : BitVec 4 := f.targetsOk &&& BitVec.ofNat 4 (2 ^ (s.regs.CAR_CFG_TARGETS + 1) - 1)
      let failed (t : State) (code : Nat) : Prop := t.car.st = 4 ∧ t.car.mountErr = code ∧ t.ks = s.ks ∧
        ∃ l good, Wrote s t (l ++ [carOf (s.tbAt dt) 0x1201 code good (s.tbAt dt - s.car.mountAt)])
      (on = 0 → ∃ t, exec (.mount dt f) s = .next t ∧ failed t 1) ∧
      (on ≠ 0 → f.geometryOk = false → ∃ t, exec (.mount dt f) s = .next t ∧ failed t 3) ∧
      (on ≠ 0 → f.geometryOk = true → f.entry = none → f.anyTag = true ∨ s.regs.CAR_CFG_FORMAT_EN = false → ∃ t, exec (.mount dt f) s = .next t ∧ failed t 4) ∧
      (on ≠ 0 → f.geometryOk = true → f.entry = none → f.anyTag = false → s.regs.CAR_CFG_FORMAT_EN = true → ∃ t, exec (.mount dt f) s = .next t ∧
        (t.car.st = 2 ∨ t.car.st = 3) ∧ t.car.gen = s.car.gen + 1) ∧
      (∀ m : MountMeta, on ≠ 0 → f.geometryOk = true → f.entry = some m → ∃ t, exec (.mount dt f) s = .next t ∧ t.car.gen = m.gen ∧
        (m.own = false → t.car.st = 3 ∧ t.car.foreign = true ∧ t.car.stage = max s.car.stage 3) ∧ (m.own = true → t.car.st = 2 ∨ t.car.st = 3) ∧
        (∀ (k : Fin 16) (st n a b : Nat), m.event[k.val]? = some (st, n, a, b) →
          t.car.evt[k] = { state := if st = 0 then 0 else 2, trigs := n, first := a, last := b })))

/-- REPLAY of the owner of an idle or stopped channel, with the recorder ready or read-only, none running and the slot held, is recorded, sets RD to 0 and reads the first page of its source, or is done at once where none is on an online target; a buffer outside the window answers RANGE, another origin RIGHTS, any other state STATE. REPLAY_STOP ends it with its record. REPLAY_RD_WRITE between RD and WR
sets RD, and a record that waited and now fits is written whole behind WR; a value beyond WR answers RANGE. A page of a DUMP replay puts the bytes that are left into the buffer, as many as there is room for, the last of them end the replay, and a page that cannot be corrected is passed over and counted. DESCRIPTOR_DONE of a DRAIN moves a record into a stream with room, and leaves it in the ring where there is none. -/
def Obligations.Replays : Prop :=
  ∀ (s : State) (dt : Nat), s.running = true →
    (∀ o : Origin, s.writes o = true → s.regs.CAR_CFG_EN = true →
      let ch : Nat := s.regs.CAR_RPL_SRC_CH
      let k : Fin 32 := Fin.ofNat 32 ch
      let area : Nat := s.regs.CAR_RPL_SRC_AREA
      let slot : Nat := s.regs.CAR_RPL_SRC_SLOT
      let base : Nat := 8 * s.regs.CAR_RPL_BUF
      let range : Prop := area < 3 ∧ base + s.regs.CAR_RPL_LEN ≤ 0x8000
      let held : Prop := area = 0 ∨ (area = 1 ∧ (s.car.evt.getD slot {}).state ≠ 0) ∨ (area = 2 ∧ slot < 4 ∧ (s.car.dump.getD slot {}).state = 2)
      let fit : Prop := (s.car.st = 2 ∨ s.car.st = 3) ∧ s.car.rpl.state ≠ 1 ∧ held ∧ (s.sip.chs[k].state = .idle ∨ s.sip.chs[k].state = .stopped)
      (s.ownsCh o ch = false → ∃ t d, exec (.replay dt o) s = .next t ∧ t.but s = { s.advance dt with cp := t.cp, recs := t.recs } ∧ Refused s t dt o 2 St.rights d) ∧
      (s.ownsCh o ch = true → ¬ range → ∃ t, exec (.replay dt o) s = .next t ∧ t.but s = { s.advance dt with cp := t.cp, recs := t.recs } ∧ Refused s t dt o 2 St.range 0) ∧
      (s.ownsCh o ch = true → range → ¬ fit → ∃ t, exec (.replay dt o) s = .next t ∧ t.but s = { s.advance dt with cp := t.cp, recs := t.recs } ∧ Refused s t dt o 2 St.state 0) ∧
      (s.ownsCh o ch = true → range → fit → ∃ t, exec (.replay dt o) s = .next t ∧ t.cp = (s.advance dt).cpWrote o ∧ t.regs = s.regs.set Reg.CAR_RPL_RD 0 ∧
        t.car.rpl.area = area ∧ t.car.rpl.slot = slot ∧ t.car.rpl.ch = ch ∧ t.car.rpl.base = base ∧ t.car.rpl.len = s.regs.CAR_RPL_LEN ∧ t.car.rpl.wr = 0 ∧ t.car.rpl.records = 0 ∧
        (∀ (b p : Nat) (rest : List (Nat × Nat)), s.rplPages area slot (s.regs.CAR_RPL_FROM_LO.toNat + 2 ^ 32 * s.regs.CAR_RPL_FROM_HI.toNat) = (b, p) :: rest →
          s.online (s.targetOf b) = true → area ≠ 2 ∨ (s.car.dump.getD slot {}).len ≠ 0 → t.car.rpl.state = 1 ∧ t.car.rpl.pages = rest ∧ t.car.ops = s.car.ops ++ [⟨.read b p .replay, s.tbAt dt, false⟩] ∧
          Wrote s t [carOf (s.tbAt dt) 0x120C (1 + 256 * area) 0 0]) ∧
        (let ps : List (Nat × Nat) := s.rplPages area slot (s.regs.CAR_RPL_FROM_LO.toNat + 2 ^ 32 * s.regs.CAR_RPL_FROM_HI.toNat);
          (∀ q ∈ ps, s.online (s.targetOf q.1) = false) → area ≠ 2 ∨ ps = [] → t.car.rpl.state = 2 ∧
          Wrote s t [carOf (s.tbAt dt) 0x120C (1 + 256 * area) 0 0, carOf (s.tbAt dt) 0x120C (2 + 256 * area) 0 (min 0xFFFF ps.length)]))) ∧
    (∀ o : Origin, s.writes o = true → let r : Replay := s.car.rpl
      (s.ownsCh o r.ch = true → r.state = 1 → ∃ t, exec (.replayStop dt o) s = .next t ∧ t.car.rpl.state = 3 ∧ t.cp = (s.advance dt).cpWrote o ∧
        (∀ m ∈ t.car.ops, ∀ b p, m.act ≠ .read b p .replay) ∧ Wrote s t [carOf (s.tbAt dt) 0x120C (3 + 256 * r.area) r.records r.skip]) ∧
      (s.ownsCh o r.ch = true → r.state ≠ 1 → ∃ t, exec (.replayStop dt o) s = .next t ∧ t.but s = { s.advance dt with cp := t.cp, recs := t.recs } ∧ Refused s t dt o 2 St.state 0) ∧
      (s.ownsCh o r.ch = false → ∃ t d, exec (.replayStop dt o) s = .next t ∧ t.but s = { s.advance dt with cp := t.cp, recs := t.recs } ∧ Refused s t dt o 2 St.rights d) ∧
      (∀ w : Word, let rd : Nat := s.regs.CAR_RPL_RD.toNat
        s.ownsCh o (if r.state = 0 then s.regs.CAR_RPL_SRC_CH else r.ch) = true → s.regs.CAR_CFG_EN = true →
        (ptrSub r.wr rd < ptrSub w.toNat rd → ∃ t, exec (.replayRdWrite dt o w) s = .next t ∧
          t.but s = { s.advance dt with cp := t.cp, recs := t.recs } ∧ Refused s t dt o 2 St.range 0) ∧
        (ptrSub w.toNat rd ≤ ptrSub r.wr rd → r.state ≠ 1 → r.out = [] → ∃ t, exec (.replayRdWrite dt o w) s = .next t ∧
          t.but s = { s.advance dt with regs := s.regs.set Reg.CAR_RPL_RD w, cp := (s.advance dt).cpWrote o }) ∧
        (∀ (b : List Byte) (p : Nat × Nat) (rest : List (Nat × Nat)), ptrSub w.toNat rd ≤ ptrSub r.wr rd → r.state = 1 → r.area ≠ 2 → r.out = [b] → r.pages = p :: rest →
          s.online (s.targetOf p.1) = true → s.regs.wf = true → b.length ≤ r.len → ptrSub r.wr w.toNat + b.length ≤ r.len → ∃ t, exec (.replayRdWrite dt o w) s = .next t ∧
          t.car.rpl.wr = ptrAdd r.wr b.length ∧ t.car.rpl.records = r.records + 1 ∧ t.car.rpl.out = [] ∧ t.car.rpl.pages = rest ∧
          t.car.ops = s.car.ops ++ [⟨.read p.1 p.2 .replay, s.tbAt dt, false⟩] ∧
          (∀ i, i < b.length → t.sramAt (windowBase r.ch + r.base + (r.wr + i) % r.len) = b.getD i 0) ∧
          (∀ a, a < windowBase r.ch + r.base ∨ windowBase r.ch + r.base + r.len ≤ a → t.sramAt a = s.sramAt a)))) ∧
    (∀ (l r : List NandOp) (o : NandOp) (b p : Nat) (x : Blk) (q : ReadResult) (g : Nat × Nat) (rest : List (Nat × Nat)), FirstOp s NandAct.isRead l o r →
      o.act = .read b p .replay → s.carBlk b = some x → s.car.rpl.state = 1 → s.car.rpl.area = 2 → s.car.rpl.out = [] → s.car.rpl.pages = g :: rest →
      (∀ chunk : Nat, q.uncorrectable = some chunk → s.car.st = 3 → s.carPage < s.car.rpl.left → s.online (s.targetOf g.1) = true →
        ∃ t, exec (.nandReadDone dt q) s = .next t ∧ t.car.rpl.skip = min 0xFFFF (s.car.rpl.skip + 1) ∧
        t.car.rpl.wr = s.car.rpl.wr ∧ t.car.rpl.left = s.car.rpl.left - s.carPage ∧ t.car.ops = l ++ r ++ [⟨.read g.1 g.2 .replay, s.tbAt dt, false⟩]) ∧
      (let d : List Byte := q.data.take s.car.rpl.left;
        let room : Nat := s.car.rpl.len - ptrSub s.car.rpl.wr s.regs.CAR_RPL_RD.toNat
        q.uncorrectable = none → q.corrected < s.regs.CAR_ECC_THR_REFRESH → x.reads + 1 < s.regs.CAR_RD_LIMIT.toNat → d ≠ [] → 0 < room →
        ∃ t, exec (.nandReadDone dt q) s = .next t ∧
        t.car.rpl.wr = ptrAdd s.car.rpl.wr (min room d.length) ∧ t.car.rpl.left = s.car.rpl.left - d.length ∧
        (d.length ≤ room → d.length < s.car.rpl.left → s.online (s.targetOf g.1) = true →
          t.car.rpl.pages = rest ∧ t.car.ops = l ++ r ++ [⟨.read g.1 g.2 .replay, s.tbAt dt, false⟩]) ∧
        (d.length ≤ room → d.length = s.car.rpl.left → s.online (s.targetOf g.1) = true → t.car.rpl.state = 2 ∧
          Wrote s t [carOf (s.tbAt dt) 0x120C 0x202 s.car.rpl.records s.car.rpl.skip]) ∧
        (room < d.length → t.car.rpl.pages = g :: rest ∧ t.car.rpl.out = [d.drop room] ∧ t.car.ops = l ++ r) ∧
        (∀ i, i < min room d.length → t.sramAt (windowBase s.car.rpl.ch + s.car.rpl.base + (s.car.rpl.wr + i) % s.car.rpl.len) = d.getD i 0))) ∧
    (∀ (c : Fin 32) (d : Desc) (k : Fin 4) (r : Fin 32) (q : RingRec), s.sip.run = some c → s.sip.desc = some d → d.op = 1 → d.dst = 0x10 + k.val → d.src = r.val →
      d.flags.testBit 3 = false → s.regs.RNG_r_CFG_TAP_CH r = 0 → s.sip.rings[r].recs = [q] → q.len ≤ d.len →
      (if d.flags.testBit 5 || s.sip.chs[c].flush then 0 else s.regs.RNG_r_LO r) < ptrSub s.sip.rings[r].wr s.sip.rings[r].rd →
      let bs : List Byte := s.ringGet r q.pos q.len
      let room : Prop := s.car.st = 2 ∧ s.regs.CAR_CFG_EN = true ∧ s.regs.CAR_STRs_CFG k = true ∧ s.car.streams[k].buf.length < s.carPage
      (¬ room → ∃ t, exec (.descriptorDone dt false) s = .next t ∧ t.sip.rings = s.sip.rings ∧ t.car = s.car) ∧
      (room → s.car.streams[k].buf.length + bs.length < s.carPage →
        (∀ j, j < 8 → s.regs.CAR_TRGk_EN j = false ∨ s.regs.CAR_TRGk_TYPE j ≠ byteAt bs 12 ∨ (s.regs.CAR_TRGk_CODE j ≠ leAt bs 16 2 ∧ s.regs.CAR_TRGk_CODE j ≠ 0xFFFF)) →
        ∃ t, exec (.descriptorDone dt false) s = .next t ∧ t.sip.rings[r].recs = [] ∧ t.sip.rings[r].rd = ptrAdd q.pos q.len ∧
        t.car = { s.car with streams := vset s.car.streams k (fun x => { x with
          buf := x.buf ++ bs, first := some (x.first.getD (x.buf.length, leAt bs 0 8)), since := some (x.since.getD (s.tbAt dt))
          lastTime := max x.lastTime (leAt bs 0 8) }) }))

/-! ## Freeze and state capture -/

/-- A trigger is refused with the first reason that applies: 1 its source is disabled, 2 the mode is not permitted, 3 a pin with PIN_MAINT while MAINT_EN is low, 4 a fabric scope without FAB_ORIG. FREEZE_PIN and FRZ_TRIG that are permitted, of local scope and with no other trigger waiting, make the freeze wait for this instant with the stamp and the cause of Table 1; of two the earlier acts.
A refused one is counted, shown in LAST_REFUSE and recorded, and leaves what waits. A pin of fabric scope waits for T, FAB_CMD_LEAD from now, and is recorded as ORIGINATED. FREEZE_PIN ends PIN_LOW. -/
def Obligations.FreezeTriggers : Prop :=
  ∀ (s : State) (dt : Nat),
    (∀ (src : Nat) (maint : Bool), 1 ≤ src → src ≤ 5 →
      let on : Bool := if src = 1 then s.regs.FRZ_CFG_PIN_EN else if src = 5 then s.regs.FRZ_CFG_TAP_EN else if src = 4 then s.regs.FRZ_CFG_FAB_ACCEPT else s.regs.FRZ_CFG_JCP_EN
      let modeOk : Bool := s.regs.FRZ_CFG_MODES.testBit (s.mode.mode.code - 2)
      let low : Prop := src = 1 ∧ s.regs.FRZ_CFG_PIN_MAINT = true ∧ maint = false
      let wide : Prop := (src = 3 ∨ (src = 1 ∧ s.regs.FRZ_CFG_PIN_SCOPE = true)) ∧ s.regs.FRZ_CFG_FAB_ORIG = false
      (on = false → s.frzReason src maint = 1) ∧ (on = true → modeOk = false → s.frzReason src maint = 2) ∧
      (on = true → modeOk = true → low → s.frzReason src maint = 3) ∧ (on = true → modeOk = true → ¬ low → wide → s.frzReason src maint = 4) ∧
      (on = true → modeOk = true → ¬ low → ¬ wide → s.frzReason src maint = 0)) ∧
    (s.running = true → ∀ (c : Instr) (src cause stamp : Nat) (maint : Bool),
      (c = .freezePin dt maint ∧ src = 1 ∧ cause = 0 ∧ stamp = s.tbAt dt - nsOf s.regs.FRZ_PIN_FILT) ∨
        (∃ w : BitVec 16, c = .frzTrig dt w ∧ src = 5 ∧ cause = w.toNat ∧ stamp = s.tbAt dt) →
      let addr : Nat := s.fab.addr.getD 0x40
      let base (f : FrzSt) : FrzSt := if src = 1 then { f with pinLow := false } else { f with pos := 0, tapUsed := true }
      let trig : FrzTrig := { at' := s.tbAt dt, stamp := stamp, cause := cause, source := src, origin := addr }
      (s.frzReason src maint = 0 → src = 5 ∨ s.regs.FRZ_CFG_PIN_SCOPE = false → s.frz.pending = none → ∃ t, exec c s = .next t ∧
        t.but s = { s.advance dt with frz := { base s.frz with pending := some trig } }) ∧
      (∀ p : FrzTrig, s.frzReason src maint = 0 → src = 5 ∨ s.regs.FRZ_CFG_PIN_SCOPE = false → s.frz.pending = some p → ∃ t, exec c s = .next t ∧
        t.but s = { s.advance dt with frz := { base s.frz with pending := some (if s.tbAt dt < p.at' then trig else p) } }) ∧
      (s.frzReason src maint ≠ 0 → ∃ (t : State) (v : Nat), exec c s = .next t ∧
        t.but s = { s.advance dt with
          frz := { base s.frz with lastRefuse := s.frzReason src maint, refused := satInc 16 s.frz.refused }, recs := t.recs, freeIx := t.freeIx } ∧
        Wrote s t [frzOf stamp 0x1302 cause src (s.frzReason src maint) 0xFF addr v 0 0])) ∧
    (∀ maint : Bool, s.running = true → s.frzReason 1 maint = 0 → s.regs.FRZ_CFG_PIN_SCOPE = true → s.frz.pending = none →
      let at' : Nat := s.tbAt dt + nsOf s.regs.FAB_CMD_LEAD
      ∃ (t : State) (l : List Shown), exec (.freezePin dt maint) s = .next t ∧ t.but s = { s.advance dt with fab := t.fab, frz := t.frz, recs := t.recs } ∧
      t.frz = { s.frz with
        pinLow := false
        pending := some { at' := at', stamp := s.tbAt dt - nsOf s.regs.FRZ_PIN_FILT, cause := 0, source := 1, origin := s.fab.addr.getD 0x40 } } ∧
      Wrote s t (l ++ [frzOf (s.tbAt dt - nsOf s.regs.FRZ_PIN_FILT) 0x1303 0 1 0 0xFF (s.fab.addr.getD 0x40) at' 0 0]))

/-- FREEZE_INSTANT at or after the instant of the waiting trigger stops the counter, puts the device into FREEZE, and holds each bridge in low-side ASC where FRZ_SAFE names it, its latch is clear and the switch closed, else off; choppers and auxiliary axes are off, the links OFF, both CAN guards set, no register changes, and the controller holds, dumps at once with DUMP_MODE 1,
or has no target. Before that instant nothing happens. FRZ_STAT captures header bytes 0 to 63, FRZ_READ the word at the position, which advances and wraps, or a clear bit 0; outside FREEZE both capture one 0. FRZ_DUMP starts a self-dump that has not begun, as TAP_WAIT_EXPIRY does in DUMP_MODE 2 with no other instruction loaded: every online target is reset, and the pages of the dump are programmed in order, each with its tag. SELF_DUMP_DONE restarts the device
with cause 5 and mode 7, the keep-store kept, or, where it failed and FAIL_RESTART is clear, leaves it frozen in state 5. -/
def Obligations.FrozenDevice : Prop :=
  ∀ (s : State) (dt : Nat),
    (∀ g : FrzTrig, s.running = true → s.frz.pending = some g →
      (s.tbAt dt < g.at' → ∃ t, exec (.freezeInstant dt) s = .next t ∧ t.but s = s.advance dt) ∧
      (g.at' ≤ s.tbAt dt → ∃ (t : State) (f : Frozen), exec (.freezeInstant dt) s = .next t ∧
        t.mode.mode = .freeze ∧ t.mode.prev = s.mode.mode ∧ t.clk.counting = false ∧ t.clk.tb = s.tbAt dt ∧ t.regs = s.regs ∧ t.frz.frozen = some f ∧ t.frz.pending = none ∧
        f.trig = g ∧ f.tF = s.tbAt dt ∧ f.late = (if g.source = 4 then s.tbAt dt - g.stamp else 0) ∧
        (∀ n : Fin 6, t.ax[n].bridge = (if s.regs.FRZ_SAFE.testBit n.val && s.axAlloc n && !s.gd.ax[axis10 n].latched && s.gd.swClosed then .ascLow else .off) ∧
          f.asc.getLsbD n.val = (t.ax[n].bridge == .ascLow)) ∧
        (∀ x : Fin 4, t.aux[x].energised = false) ∧ (∀ c ∈ t.gd.chop.toList, c.on = false) ∧ (∀ k : Fin 6, t.fab.links[k].state = .off) ∧
        (∀ m : Fin 2, t.can[m].guard = true) ∧ t.recs = s.recs ∧
        t.frz.ctl = (if s.car.st ≠ 2 ∨ (∀ k : Fin 4, s.car.dump[k].state ≠ 0) then 4 else if s.regs.FRZ_CFG_DUMP_MODE = 1 then 2 else 1) ∧
        (∀ k : Fin 4, s.car.st = 2 → s.car.dump[k].state = 0 → (∀ j, j < k → s.car.dump[j].state ≠ 0) → t.frz.slot = k.val))) ∧
    (∀ f : Frozen, s.frozenBy f →
      ((s.dumpHead f).length = 64 ∧ (s.dumpHead f).take 6 = [0x4A, 0x4E, 0x46, 0x44, 1, 0] ∧ ((s.dumpHead f).drop 16).take 8 = leBytes 8 f.tF ∧
        ((s.dumpHead f).drop 24).take 12 = leBytes 8 f.trig.stamp ++ leBytes 2 f.trig.cause ++ leBytes 1 f.trig.source ++ leBytes 1 f.trig.origin) ∧
      (∃ t, exec (.frzStat dt) s = .next t ∧ t.but s = { s.advance dt with frz := { s.frz with pos := 0, capture := bitsOf (s.dumpHead f) } }) ∧
      (∃ (t : State) (w : Word), exec (.frzRead dt true) s = .next t ∧ t.but s = { s.advance dt with frz := { s.frz with
        tapUsed := true, pos := if s.frz.pos + 4 < 4718592 then s.frz.pos + 4 else 0, capture := true :: (List.range 32).map w.getLsbD } } ∧
        (0x80000 ≤ s.frz.pos → ∀ i, i < 4 → w.extractLsb' (8 * i) 8 = s.sramAt (0x1000000 + s.frz.pos - 0x80000 + i)) ∧
        (s.frz.pos < 0x1000 → w = w32 (leAt (s.dumpHeader f) s.frz.pos 4))) ∧
      (∃ (t : State) (b : List Bool), exec (.frzRead dt false) s = .next t ∧
        t.but s = { s.advance dt with frz := { s.frz with tapUsed := true, capture := false :: b }, freeIx := s.freeIx + 1 }) ∧
      (∀ q : State, (∃ used pos, q = { s.advance dt with frz := { s.frz with tapUsed := used, pos := pos, ctl := 2 } }) →
        (q.dumpPages f).length = (4718592 + s.carPage - 1) / s.carPage ∧
        (∀ i, i < (4718592 + s.carPage - 1) / s.carPage → ∃ (b n : Nat) (bytes : List Byte),
          (q.dumpPages f)[i]? = some (.program b (i % s.carPpb) (s.pageTag b (s.car.seq + 1 + i) 2 s.frz.slot n 0xFFFF 0) (s.pageMain bytes)) ∧
          n = min s.carPage (4718592 - i * s.carPage) ∧
          (∀ j, 4 * j + 4 ≤ n → (bytes.drop (4 * j)).take 4 = leBytes 4 (q.dumpWord f (i * s.carPage + 4 * j)).toNat))) ∧
      (s.frz.ctl ≠ 1 → ∃ t, exec (.frzDump dt) s = .next t ∧ t.but s = { s.advance dt with frz := { s.frz with tapUsed := true, pos := 0 } }) ∧
      (s.frz.ctl = 1 → let q : State := { s.advance dt with frz := { s.frz with tapUsed := true, pos := 0, ctl := 2 } };
        ∃ t, exec (.frzDump dt) s = .next t ∧ t.but s = { q with frz := { q.frz with dumpRst := s.car.tgtOn, dumpBus := q.dumpPages f } }) ∧
      (s.frz.ctl = 1 → (s.regs.FRZ_CFG_DUMP_MODE = 2 → s.frz.tapUsed = false → f.since + nsOf s.regs.FRZ_TAP_WAIT ≤ s.now + 2 * dt → let q : State := { s.advance dt with frz := { s.frz with ctl := 2 } };
          ∃ t, exec (.tapWaitExpiry dt) s = .next t ∧ t.but s = { q with frz := { q.frz with dumpRst := s.car.tgtOn, dumpBus := q.dumpPages f } }) ∧
        (s.regs.FRZ_CFG_DUMP_MODE ≠ 2 ∨ s.frz.tapUsed = true → ∃ t, exec (.tapWaitExpiry dt) s = .next t ∧ t.but s = s.advance dt)) ∧
      (s.frz.ctl = 2 → ∀ ok : Bool,
        (ok = true ∨ s.regs.FRZ_CFG_FAIL_RESTART = true → ∃ t, exec (.selfDumpDone dt ok) s = .next t ∧ t.mode.mode = .cold ∧ t.pwr.phase = .held ∧ t.pwr.rstCause = 5 ∧
          t.pwr.rstMode = 7 ∧ t.pwr.rstTb = f.tF ∧ t.ks = { s.ks with pairFaults := 0 } ∧ t.clk.tb = 0 ∧ t.clk.counting = false) ∧
        (ok = false → s.regs.FRZ_CFG_FAIL_RESTART = false → ∃ t, exec (.selfDumpDone dt ok) s = .next t ∧
          t.but s = { s.advance dt with frz := { s.frz with ctl := 5 } }))) ∧
    (s.mode.mode ≠ .freeze → (∃ t, exec (.frzStat dt) s = .next t ∧ t.but s = { s.advance dt with frz := { s.frz with pos := 0, capture := [false] } }) ∧
      (∀ ready : Bool, ∃ t, exec (.frzRead dt ready) s = .next t ∧ t.but s = { s.advance dt with frz := { s.frz with pos := 0, capture := [false] } }))

/-! ## Invariants, memory and reset -/

/-- The state of reset keeps its stores in canonical form and its causes in order, has no command waiting and no record written, is held in COLD, every axis OFF with its bridge off, no
command source, no token holder, and every link off. (That TB_NOW, the axis registers and the record store are then as given is stated by the spec; the model's own fields are
named in log entries 7 and 9.) -/
def Obligations.ResetIsCanonical : Prop :=
  Memory.wf State.reset = true ∧ State.reset.causesInOrder ∧ State.reset.pending = [] ∧ State.reset.recs.outbox = [] ∧
  State.reset.mode.mode = .cold ∧ State.reset.pwr.phase = .held ∧ State.reset.clk.tb = 0 ∧
  (∀ n : Fin 6, State.reset.ax[n].state = .off ∧ State.reset.ax[n].bridge = .off) ∧
  (∀ x : Fin 4, State.reset.aux[x].state = .off ∧ State.reset.aux[x].energised = false) ∧
  State.reset.cp.token.holder = none ∧ (∀ k : Fin 6, State.reset.fab.links[k].state = .off)

/-- From every state in which the device has its causes in order (each cause that DEV_DEGR or DEV_STOPCAUSE shows is in the order once, and nothing else is), every step, whatever the command, leaves
them in order: a mode change can always name the cause that arose first. (The list that keeps the order is the model's own field, log entry 7.) -/
def Obligations.CausesStayInOrder : Prop :=
  ∀ (s t : State), s.causesInOrder → step s = .next t → t.causesInOrder

/-- From every state whose keep-store, work SRAM and register words are each listed with addresses strictly rising and no entry equal to what an unlisted address reads as, every step of every
command leaves them so: equal memories stay equal data. -/
def Obligations.MemoryStaysCanonical : Prop :=
  ∀ (s t : State), Memory.wf s = true → step s = .next t → Memory.wf t = true

/-- No command ends in a fault or a refusal, whatever the state; and the commands that wait behind it still wait, in the same order. -/
def Obligations.CommandsLeaveTheQueue : Prop :=
  ∀ (c : Instr) (s : State), ∃ t, exec c s = .next t ∧ t.pending = s.pending

/-- An entry of at most `d` bytes reads back as its data, and `d` bytes on as the complement of each byte; it counts as present with that data, and absent as soon as one byte of its data half reads otherwise while
its complement stands. Every byte outside the two halves reads as before, and the stores stay canonical. (Where in its region an entry lies is the model's choice, log entry 6.) -/
def Obligations.KeepStoreEntries : Prop :=
  ∀ (s : State) (o d : Nat) (data : List Byte), data.length ≤ d →
    (∀ i, i < data.length → (s.ksPair o d data).ksRead (o + i) 1 = [data[i]?.getD 0] ∧
      (s.ksPair o d data).ksRead (o + d + i) 1 = [~~~ (data[i]?.getD 0)]) ∧
    (s.ksPair o d data).ksEntry o d data.length = some data ∧
    (∀ a, a < o ∨ (o + data.length ≤ a ∧ a < o + d) ∨ o + d + data.length ≤ a → (s.ksPair o d data).ksRead a 1 = s.ksRead a 1) ∧
    (∀ other : List Byte, other.length = data.length → other ≠ data → ((s.ksPair o d data).ksWrite o other).ksEntry o d data.length = none) ∧
    (Memory.wf s = true → Memory.wf (s.ksPair o d data) = true) ∧
    { s.ksPair o d data with ks := s.ks } = s
end

