-- ==== Sys2Proof/Laws/Memory.lean ====
section
/-! SUPPORT. The sparse stores: what a read finds after a write, and that every operation keeps the canonical form. -/
namespace Sys2Proof.Machine

variable {α : Type} [DecidableEq α]

/-- The canonical form, said of the list as a whole. -/
theorem cellWf_iff (d : Nat → α) (l : List (Nat × α)) :
    cellWf d l = true ↔ l.Pairwise (fun a b => a.1 < b.1) ∧ ∀ c ∈ l, c.2 ≠ d c.1 := by
  induction l with
  | nil => simp [cellWf]
  | cons x t ih =>
    obtain ⟨a, v⟩ := x
    cases t with
    | nil => simp [cellWf]
    | cons y t =>
      obtain ⟨b, w⟩ := y
      simp only [cellWf, Bool.and_eq_true, decide_eq_true_eq, ih, List.pairwise_cons, List.mem_cons]
      constructor
      · rintro ⟨⟨hv, hab⟩, ⟨hb, ht⟩, hd⟩
        refine ⟨⟨?_, hb, ht⟩, ?_⟩
        · rintro c (rfl | hc)
          · exact hab
          · exact Nat.lt_trans hab (hb c hc)
        · rintro c (rfl | hc)
          · exact hv
          · exact hd c hc
      · rintro ⟨⟨ha, hb, ht⟩, hd⟩
        exact ⟨⟨hd _ (Or.inl rfl), ha _ (Or.inl rfl)⟩, ⟨hb, ht⟩, fun c hc => hd c (Or.inr hc)⟩

omit [DecidableEq α] in
theorem cellPut_mem (a : Nat) (v : Option α) (l : List (Nat × α)) (c : Nat × α) (h : c ∈ cellPut a v l) :
    c ∈ l ∨ (c.1 = a ∧ v = some c.2) := by
  induction l with
  | nil => cases v <;> simp [cellPut] at h; subst h; simp
  | cons x t ih =>
    obtain ⟨b, w⟩ := x
    unfold cellPut at h
    split at h
    · cases v <;> simp at h
      · exact Or.inl (by simpa using h)
      · rcases h with rfl | h
        · simp
        · exact Or.inl (by simpa using h)
    · split at h
      · cases v <;> simp at h
        · exact Or.inl (by simp [h])
        · rcases h with rfl | h
          · simp
          · exact Or.inl (by simp [h])
      · simp at h
        rcases h with rfl | h
        · simp
        · rcases ih h with h | h
          · exact Or.inl (by simp [h])
          · exact Or.inr h

omit [DecidableEq α] in
theorem cellPut_pairwise (a : Nat) (v : Option α) (l : List (Nat × α)) (h : l.Pairwise (fun a b => a.1 < b.1)) :
    (cellPut a v l).Pairwise (fun a b => a.1 < b.1) := by
  induction l with
  | nil => cases v <;> simp [cellPut]
  | cons x t ih =>
    obtain ⟨b, w⟩ := x
    have ht := List.pairwise_cons.1 h
    unfold cellPut
    split
    · rename_i hab
      cases v
      · simpa using h
      · simp only [Option.map_some, Option.toList_some, List.singleton_append, List.pairwise_cons]
        refine ⟨?_, ht⟩
        intro c hc
        rcases List.mem_cons.1 hc with rfl | hc
        · exact hab
        · exact Nat.lt_trans hab (ht.1 c hc)
    · split
      · rename_i hab
        subst hab
        cases v
        · simpa using ht.2
        · simpa using ht
      · rename_i h1 h2
        rw [List.pairwise_cons]
        refine ⟨?_, ih ht.2⟩
        intro c hc
        rcases cellPut_mem a v t c hc with hc | ⟨hc, -⟩
        · exact ht.1 c hc
        · simp only [hc]; omega

/-- A write keeps the canonical form. -/
theorem cellSet_wf (d : Nat → α) (a : Nat) (v : α) (l : List (Nat × α)) (h : cellWf d l = true) :
    cellWf d (cellSet d a v l) = true := by
  rw [cellWf_iff] at h ⊢
  refine ⟨cellPut_pairwise _ _ _ h.1, fun c hc => ?_⟩
  rcases cellPut_mem _ _ _ _ hc with hc | ⟨h1, h2⟩
  · exact h.2 c hc
  · split at h2
    · cases h2
    · rename_i hv
      cases h2
      rw [h1]; exact hv

theorem cellList_mem (d : Nat → α) (o : Nat) (vs : List α) (c : Nat × α) (h : c ∈ cellList d o vs) :
    o ≤ c.1 ∧ c.1 < o + vs.length ∧ c.2 ≠ d c.1 := by
  induction vs generalizing o with
  | nil => simp [cellList] at h
  | cons v t ih =>
    unfold cellList at h
    split at h
    · have := ih _ h
      simp only [List.length_cons]
      exact ⟨by omega, by omega, this.2.2⟩
    · rcases List.mem_cons.1 h with rfl | h
      · simp only [List.length_cons]
        exact ⟨Nat.le_refl _, by omega, by assumption⟩
      · have := ih _ h
        simp only [List.length_cons]
        exact ⟨by omega, by omega, this.2.2⟩

theorem cellList_pairwise (d : Nat → α) (o : Nat) (vs : List α) : (cellList d o vs).Pairwise (fun a b => a.1 < b.1) := by
  induction vs generalizing o with
  | nil => simp [cellList]
  | cons v t ih =>
    unfold cellList
    split
    · exact ih _
    · rw [List.pairwise_cons]
      exact ⟨fun c hc => by have := cellList_mem d _ _ c hc; show o < c.1; omega, ih _⟩

/-- A write of consecutive keys keeps the canonical form. -/
theorem cellPutRange_wf (d : Nat → α) (o : Nat) (vs : List α) (l : List (Nat × α)) (h : cellWf d l = true) :
    cellWf d (cellPutRange d o vs l) = true := by
  rw [cellWf_iff] at h ⊢
  unfold cellPutRange
  constructor
  · rw [List.pairwise_append, List.pairwise_append]
    refine ⟨⟨h.1.filter _, cellList_pairwise d o vs, ?_⟩, h.1.filter _, ?_⟩
    · intro a ha b hb
      have h1 := (List.mem_filter.1 ha).2
      have h2 := cellList_mem d o vs b hb
      simp only [decide_eq_true_eq] at h1
      omega
    · intro a ha b hb
      have h2 := (List.mem_filter.1 hb).2
      simp only [decide_eq_true_eq] at h2
      rcases List.mem_append.1 ha with ha | ha
      · have h1 := (List.mem_filter.1 ha).2
        simp only [decide_eq_true_eq] at h1
        omega
      · have h1 := cellList_mem d o vs a ha
        omega
  · intro c hc
    rcases List.mem_append.1 hc with hc | hc
    · rcases List.mem_append.1 hc with hc | hc
      · exact h.2 c (List.mem_of_mem_filter hc)
      · exact (cellList_mem d o vs c hc).2.2
    · exact h.2 c (List.mem_of_mem_filter hc)

omit [DecidableEq α] in
/-- A read after a write finds the value at its key and what was there before elsewhere. -/
theorem cellGet_put (d : Nat → α) (a : Nat) (v : Option α) (l : List (Nat × α)) (b : Nat)
    (h : l.Pairwise (fun a b => a.1 < b.1)) :
    cellGet d (cellPut a v l) b = if a = b then v.getD (d a) else cellGet d l b := by
  induction l with
  | nil => cases v <;> by_cases hab : a = b <;> simp [cellPut, cellGet, hab]
  | cons x t ih =>
    obtain ⟨k, w⟩ := x
    have ht := List.pairwise_cons.1 h
    have none_after (a : Nat) (t : List (Nat × α)) (hall : ∀ c ∈ t, a < c.1) : cellGet d t a = d a := by
      induction t with
      | nil => rfl
      | cons y t ih2 =>
        obtain ⟨j, u⟩ := y
        have hj : a < j := hall (j, u) (by simp)
        have : j ≠ a := by omega
        simp only [cellGet, this, if_false]
        exact ih2 (fun c hc => hall c (by simp [hc]))
    unfold cellPut
    split
    · rename_i hak
      cases v
      · by_cases hab : a = b
        · subst hab
          simp only [Option.map_none, Option.toList_none, List.nil_append, if_true, Option.getD_none]
          exact none_after a _ (fun c hc => by
            rcases List.mem_cons.1 hc with rfl | hc
            · exact hak
            · exact Nat.lt_trans hak (ht.1 c hc))
        · simp [hab]
      · by_cases hab : a = b <;> simp [cellGet, hab]
    · split
      · rename_i hak
        subst hak
        cases v
        · by_cases hab : a = b
          · subst hab
            simp only [Option.map_none, Option.toList_none, List.nil_append, if_true, Option.getD_none]
            exact none_after a _ ht.1
          · simp [cellGet, hab]
        · by_cases hab : a = b <;> simp [cellGet, hab]
      · rename_i h1 h2
        have := ih ht.2
        by_cases hkb : k = b
        · subst hkb; simp [cellGet, h2]
        · simp [cellGet, hkb, this]

theorem cellGet_set (d : Nat → α) (a : Nat) (v : α) (l : List (Nat × α)) (b : Nat) (h : cellWf d l = true) :
    cellGet d (cellSet d a v l) b = if a = b then v else cellGet d l b := by
  unfold cellSet
  rw [cellGet_put d a _ l b ((cellWf_iff d l).1 h).1]
  by_cases hab : a = b
  · simp only [hab, if_true]; split <;> simp_all
  · simp [hab]


omit [DecidableEq α] in
theorem cellGet_append (d : Nat → α) (l r : List (Nat × α)) (a : Nat) :
    cellGet d (l ++ r) a = if l.any (fun c => c.1 == a) then cellGet d l a else cellGet d r a := by
  induction l with
  | nil => simp
  | cons x t ih =>
    obtain ⟨k, w⟩ := x
    by_cases hk : k = a
    · simp [cellGet, hk]
    · have e : (((k, w) :: t).any fun c => c.1 == a) = t.any fun c => c.1 == a := by
        rw [List.any_cons, beq_false_of_ne hk, Bool.false_or]
      rw [e, List.cons_append]
      simp only [cellGet, hk, if_false, ih]

omit [DecidableEq α] in
theorem cellGet_filter (d : Nat → α) (p : Nat → Bool) (l : List (Nat × α)) (a : Nat) :
    cellGet d (l.filter (fun c => p c.1)) a = if p a then cellGet d l a else d a := by
  induction l with
  | nil => simp [cellGet]
  | cons x t ih =>
    obtain ⟨k, w⟩ := x
    by_cases hk : k = a
    · subst hk
      by_cases hp : p k = true
      · simp [cellGet, hp]
      · simp only [List.filter_cons, hp, Bool.false_eq_true, if_false]; rw [ih]; simp [hp]
    · by_cases hp : p k = true
      · simp [cellGet, hk, hp, ih]
      · simp only [List.filter_cons, hp, Bool.false_eq_true, if_false]; rw [ih]; simp [cellGet, hk]

theorem cellGet_list (d : Nat → α) (o : Nat) (vs : List α) (a : Nat) :
    cellGet d (cellList d o vs) a = if o ≤ a then (vs[a - o]?).getD (d a) else d a := by
  induction vs generalizing o with
  | nil => simp [cellList, cellGet]
  | cons v t ih =>
    unfold cellList
    by_cases ha : a = o
    · subst ha
      by_cases hv : v = d a
      · simp only [hv, if_true]; rw [ih]; simp
      · simp [hv, cellGet]
    · have hstep : (if o + 1 ≤ a then (t[a - (o + 1)]?).getD (d a) else d a)
          = if o ≤ a then ((v :: t)[a - o]?).getD (d a) else d a := by
        by_cases h : o ≤ a
        · have h' : o + 1 ≤ a := by omega
          have he : a - o = (a - (o + 1)) + 1 := by omega
          simp only [h, h', if_true, he, List.getElem?_cons_succ]
        · have h' : ¬ o + 1 ≤ a := by omega
          simp only [h, h', if_false]
      split
      · rw [ih, hstep]
      · simp only [cellGet, Ne.symm ha, if_false]; rw [ih, hstep]

omit [DecidableEq α] in
theorem cellGet_missing (d : Nat → α) (l : List (Nat × α)) (a : Nat) (h : l.any (fun c => c.1 == a) = false) : cellGet d l a = d a := by
  induction l with
  | nil => rfl
  | cons x t ih =>
    obtain ⟨k, w⟩ := x
    simp only [List.any_cons, Bool.or_eq_false_iff, beq_eq_false_iff_ne] at h
    simp only [cellGet, h.1, if_false]
    exact ih h.2

/-- A read after a write of consecutive keys finds what was written there, and what was there before elsewhere. -/
theorem cellGet_putRange (d : Nat → α) (o : Nat) (vs : List α) (l : List (Nat × α)) (a : Nat) :
    cellGet d (cellPutRange d o vs l) a
      = if o ≤ a ∧ a < o + vs.length then (vs[a - o]?).getD (d a) else cellGet d l a := by
  unfold cellPutRange
  have drop (l r : List (Nat × α)) (p : Nat → Bool) (hp : p a = false) :
      cellGet d (l.filter (fun c => p c.1) ++ r) a = cellGet d r a := by
    rw [cellGet_append]
    have : (l.filter (fun c => p c.1)).any (fun c => c.1 == a) = false := by
      rw [List.any_eq_false]
      intro c hc
      have := (List.mem_filter.1 hc).2
      intro he
      rw [beq_iff_eq] at he
      rw [he, hp] at this; cases this
    simp [this]
  by_cases h1 : a < o
  · have e : ¬(o ≤ a ∧ a < o + vs.length) := by omega
    simp only [e, if_false]
    rw [List.append_assoc, cellGet_append, cellGet_filter d (fun k => decide (k < o))]
    by_cases hm : (l.filter (fun c => decide (c.1 < o))).any (fun c => c.1 == a) = true
    · simp [hm, h1]
    · have hm' := Bool.eq_false_iff.2 hm
      simp only [hm', Bool.false_eq_true, if_false]
      rw [cellGet_append, cellGet_list, cellGet_filter d (fun k => decide (o + vs.length ≤ k))]
      have g := cellGet_filter d (fun k => decide (k < o)) l a
      rw [cellGet_missing d _ a hm'] at g
      have h2 : ¬ o ≤ a := by omega
      have h3 : ¬ o + vs.length ≤ a := by omega
      simp only [h1, decide_true, if_true] at g
      simp [h2, h3, g]
  · have h1' : o ≤ a := by omega
    rw [List.append_assoc, drop l _ (fun k => decide (k < o)) (by simp [h1])]
    by_cases h2 : a < o + vs.length
    · simp only [h1', h2, and_self, if_true]
      rw [cellGet_append, cellGet_list]
      split
      · simp
      · rename_i hm
        have hm' := Bool.eq_false_iff.2 hm
        have g := cellGet_list d o vs a
        rw [cellGet_missing d _ a hm'] at g
        rw [cellGet_filter d (fun k => decide (o + vs.length ≤ k))]
        have h3 : ¬ o + vs.length ≤ a := by omega
        simp only [h3, decide_false, Bool.false_eq_true, if_false]
        simpa [h1'] using g
    · have e : ¬(o ≤ a ∧ a < o + vs.length) := by omega
      have hm : (cellList d o vs).any (fun c => c.1 == a) = false := by
        rw [List.any_eq_false]
        intro c hc
        have := cellList_mem d o vs c hc
        simp only [beq_iff_eq]; omega
      have h3 : o + vs.length ≤ a := by omega
      rw [cellGet_append, hm, cellGet_filter d (fun k => decide (o + vs.length ≤ k))]
      simp [e, h3]

/-! ## The stores of the device -/

/-- A register word that is written reads back, and no other changes. -/
theorem Regs.get_set (r : Regs) (a b : Nat) (v : Word) (h : r.wf = true) : (r.set a v).get b = if a = b then v else r.get b :=
  cellGet_set regReset a v r.cells b ((Bool.and_eq_true _ _).mp h).1

theorem Regs.set_wf (r : Regs) (a : Nat) (v : Word) (h : r.wf = true) : (r.set a v).wf = true :=
  (Bool.and_eq_true _ _).mpr ⟨cellSet_wf regReset a v r.cells ((Bool.and_eq_true _ _).mp h).1,
    cellSet_wf regResetCompl a (~~~ v) r.compl ((Bool.and_eq_true _ _).mp h).2⟩

/-- A write to the keep-store keeps every store in canonical form. -/
theorem ksWrite_wf (s : State) (o : Nat) (bs : List Byte) (h : Memory.wf s = true) : Memory.wf (s.ksWrite o bs) = true := by
  simp only [Memory.wf, Bool.and_eq_true] at h ⊢
  exact ⟨⟨cellPutRange_wf _ _ _ _ h.1.1, h.1.2⟩, h.2⟩

theorem ksPair_wf (s : State) (o d : Nat) (bs : List Byte) (h : Memory.wf s = true) : Memory.wf (s.ksPair o d bs) = true :=
  ksWrite_wf _ _ _ (ksWrite_wf _ _ _ h)

/-- A write to work SRAM keeps every store in canonical form. -/
theorem sramWrite_wf (s : State) (a : Nat) (bs : List Byte) (h : Memory.wf s = true) : Memory.wf (s.sramWrite a bs) = true := by
  simp only [Memory.wf, Bool.and_eq_true] at h ⊢
  exact ⟨⟨h.1.1, cellPutRange_wf _ _ _ _ h.1.2⟩, h.2⟩

/-- What was written to the keep-store is read back. -/
theorem ksRead_ksWrite (s : State) (o : Nat) (bs : List Byte) : (s.ksWrite o bs).ksRead o bs.length = bs := by
  apply List.ext_getElem
  · simp [State.ksRead, cellGetRange]
  · intro i h1 h2
    simp only [State.ksRead, cellGetRange, List.getElem_map, List.getElem_range, State.ksWrite, State.onKs, cellGet_putRange]
    have : o ≤ o + i ∧ o + i < o + bs.length := ⟨by omega, by omega⟩
    simp [h2]

/-- A write elsewhere leaves what the keep-store reads. -/
theorem ksRead_ksWrite_elsewhere (s : State) (o a n : Nat) (bs : List Byte) (h : a + n ≤ o ∨ o + bs.length ≤ a) :
    (s.ksWrite o bs).ksRead a n = s.ksRead a n := by
  simp only [State.ksRead, cellGetRange, State.ksWrite, State.onKs, cellGet_putRange]
  apply List.map_congr_left
  intro i hi
  have hi := List.mem_range.1 hi
  have : ¬(o ≤ a + i ∧ a + i < o + bs.length) := by omega
  simp only [this, if_false]

/-- An entry that was written is present with its data (R97). -/
theorem ksEntry_ksPair (s : State) (o d : Nat) (bs : List Byte) (h : bs.length ≤ d) :
    (s.ksPair o d bs).ksEntry o d bs.length = some bs := by
  have hc : (complBytes bs).length = bs.length := by simp [complBytes]
  have h1 : ((s.ksWrite o bs).ksWrite (o + d) (complBytes bs)).ksRead o bs.length = bs := by
    rw [ksRead_ksWrite_elsewhere _ _ _ _ _ (by left; omega), ksRead_ksWrite]
  have h2 : ((s.ksWrite o bs).ksWrite (o + d) (complBytes bs)).ksRead (o + d) bs.length = complBytes bs := by
    have := ksRead_ksWrite (s.ksWrite o bs) (o + d) (complBytes bs)
    rwa [hc] at this
  simp only [State.ksEntry, State.ksPair, h1, h2, if_true]

/-- A read of work SRAM after a write: what was written where it was written, and what was there before elsewhere. -/
theorem sramGet_write (s : State) (a : Nat) (bs : List Byte) (b : Nat) :
    cellGet (fun _ => 0) (s.sramWrite a bs).sip.sram b
      = if a ≤ b ∧ b < a + bs.length then (bs[b - a]?).getD 0 else cellGet (fun _ => 0) s.sip.sram b :=
  cellGet_putRange _ a bs _ b

/-- The machine right after reset lists nothing. -/
theorem reset_wf : Memory.wf State.reset = true := by
  simp [Memory.wf, State.reset, cellWf, Regs.wf]

end Sys2Proof.Machine
end

