-- ==== Sys2Proof/Laws/State.lean ====
section
/-! SUPPORT. What each update of the state does to each of its parts, true by `rfl`. -/
namespace Sys2Proof.Machine

@[simp] theorem State.onClk_clk (s : State) (f) : (s.onClk f).clk = f s.clk := rfl
@[simp] theorem State.onClk_pwr (s : State) (f) : (s.onClk f).pwr = s.pwr := rfl
@[simp] theorem State.onClk_ld (s : State) (f) : (s.onClk f).ld = s.ld := rfl
@[simp] theorem State.onClk_ks (s : State) (f) : (s.onClk f).ks = s.ks := rfl
@[simp] theorem State.onClk_tbs (s : State) (f) : (s.onClk f).tbs = s.tbs := rfl
@[simp] theorem State.onClk_mode (s : State) (f) : (s.onClk f).mode = s.mode := rfl
@[simp] theorem State.onClk_stg (s : State) (f) : (s.onClk f).stg = s.stg := rfl
@[simp] theorem State.onClk_tick (s : State) (f) : (s.onClk f).tick = s.tick := rfl
@[simp] theorem State.onClk_recs (s : State) (f) : (s.onClk f).recs = s.recs := rfl
@[simp] theorem State.onClk_regs (s : State) (f) : (s.onClk f).regs = s.regs := rfl
@[simp] theorem State.onClk_snt (s : State) (f) : (s.onClk f).snt = s.snt := rfl
@[simp] theorem State.onClk_freeIx (s : State) (f) : (s.onClk f).freeIx = s.freeIx := rfl
@[simp] theorem State.onClk_cp (s : State) (f) : (s.onClk f).cp = s.cp := rfl
@[simp] theorem State.onClk_fab (s : State) (f) : (s.onClk f).fab = s.fab := rfl
@[simp] theorem State.onClk_sns (s : State) (f) : (s.onClk f).sns = s.sns := rfl
@[simp] theorem State.onClk_ax (s : State) (f) : (s.onClk f).ax = s.ax := rfl
@[simp] theorem State.onClk_blk (s : State) (f) : (s.onClk f).blk = s.blk := rfl
@[simp] theorem State.onClk_smpCnt (s : State) (f) : (s.onClk f).smpCnt = s.smpCnt := rfl
@[simp] theorem State.onClk_gd (s : State) (f) : (s.onClk f).gd = s.gd := rfl
@[simp] theorem State.onClk_cmd (s : State) (f) : (s.onClk f).cmd = s.cmd := rfl
@[simp] theorem State.onClk_aux (s : State) (f) : (s.onClk f).aux = s.aux := rfl
@[simp] theorem State.onClk_shr (s : State) (f) : (s.onClk f).shr = s.shr := rfl
@[simp] theorem State.onClk_sip (s : State) (f) : (s.onClk f).sip = s.sip := rfl
@[simp] theorem State.onClk_car (s : State) (f) : (s.onClk f).car = s.car := rfl
@[simp] theorem State.onClk_saf (s : State) (f) : (s.onClk f).saf = s.saf := rfl
@[simp] theorem State.onClk_can (s : State) (f) : (s.onClk f).can = s.can := rfl
@[simp] theorem State.onClk_frz (s : State) (f) : (s.onClk f).frz = s.frz := rfl
@[simp] theorem State.onClk_pending (s : State) (f) : (s.onClk f).pending = s.pending := rfl
@[simp] theorem State.onPwr_clk (s : State) (f) : (s.onPwr f).clk = s.clk := rfl
@[simp] theorem State.onPwr_pwr (s : State) (f) : (s.onPwr f).pwr = f s.pwr := rfl
@[simp] theorem State.onPwr_ld (s : State) (f) : (s.onPwr f).ld = s.ld := rfl
@[simp] theorem State.onPwr_ks (s : State) (f) : (s.onPwr f).ks = s.ks := rfl
@[simp] theorem State.onPwr_tbs (s : State) (f) : (s.onPwr f).tbs = s.tbs := rfl
@[simp] theorem State.onPwr_mode (s : State) (f) : (s.onPwr f).mode = s.mode := rfl
@[simp] theorem State.onPwr_stg (s : State) (f) : (s.onPwr f).stg = s.stg := rfl
@[simp] theorem State.onPwr_tick (s : State) (f) : (s.onPwr f).tick = s.tick := rfl
@[simp] theorem State.onPwr_recs (s : State) (f) : (s.onPwr f).recs = s.recs := rfl
@[simp] theorem State.onPwr_regs (s : State) (f) : (s.onPwr f).regs = s.regs := rfl
@[simp] theorem State.onPwr_snt (s : State) (f) : (s.onPwr f).snt = s.snt := rfl
@[simp] theorem State.onPwr_freeIx (s : State) (f) : (s.onPwr f).freeIx = s.freeIx := rfl
@[simp] theorem State.onPwr_cp (s : State) (f) : (s.onPwr f).cp = s.cp := rfl
@[simp] theorem State.onPwr_fab (s : State) (f) : (s.onPwr f).fab = s.fab := rfl
@[simp] theorem State.onPwr_sns (s : State) (f) : (s.onPwr f).sns = s.sns := rfl
@[simp] theorem State.onPwr_ax (s : State) (f) : (s.onPwr f).ax = s.ax := rfl
@[simp] theorem State.onPwr_blk (s : State) (f) : (s.onPwr f).blk = s.blk := rfl
@[simp] theorem State.onPwr_smpCnt (s : State) (f) : (s.onPwr f).smpCnt = s.smpCnt := rfl
@[simp] theorem State.onPwr_gd (s : State) (f) : (s.onPwr f).gd = s.gd := rfl
@[simp] theorem State.onPwr_cmd (s : State) (f) : (s.onPwr f).cmd = s.cmd := rfl
@[simp] theorem State.onPwr_aux (s : State) (f) : (s.onPwr f).aux = s.aux := rfl
@[simp] theorem State.onPwr_shr (s : State) (f) : (s.onPwr f).shr = s.shr := rfl
@[simp] theorem State.onPwr_sip (s : State) (f) : (s.onPwr f).sip = s.sip := rfl
@[simp] theorem State.onPwr_car (s : State) (f) : (s.onPwr f).car = s.car := rfl
@[simp] theorem State.onPwr_saf (s : State) (f) : (s.onPwr f).saf = s.saf := rfl
@[simp] theorem State.onPwr_can (s : State) (f) : (s.onPwr f).can = s.can := rfl
@[simp] theorem State.onPwr_frz (s : State) (f) : (s.onPwr f).frz = s.frz := rfl
@[simp] theorem State.onPwr_pending (s : State) (f) : (s.onPwr f).pending = s.pending := rfl
@[simp] theorem State.onLd_clk (s : State) (f) : (s.onLd f).clk = s.clk := rfl
@[simp] theorem State.onLd_pwr (s : State) (f) : (s.onLd f).pwr = s.pwr := rfl
@[simp] theorem State.onLd_ld (s : State) (f) : (s.onLd f).ld = f s.ld := rfl
@[simp] theorem State.onLd_ks (s : State) (f) : (s.onLd f).ks = s.ks := rfl
@[simp] theorem State.onLd_tbs (s : State) (f) : (s.onLd f).tbs = s.tbs := rfl
@[simp] theorem State.onLd_mode (s : State) (f) : (s.onLd f).mode = s.mode := rfl
@[simp] theorem State.onLd_stg (s : State) (f) : (s.onLd f).stg = s.stg := rfl
@[simp] theorem State.onLd_tick (s : State) (f) : (s.onLd f).tick = s.tick := rfl
@[simp] theorem State.onLd_recs (s : State) (f) : (s.onLd f).recs = s.recs := rfl
@[simp] theorem State.onLd_regs (s : State) (f) : (s.onLd f).regs = s.regs := rfl
@[simp] theorem State.onLd_snt (s : State) (f) : (s.onLd f).snt = s.snt := rfl
@[simp] theorem State.onLd_freeIx (s : State) (f) : (s.onLd f).freeIx = s.freeIx := rfl
@[simp] theorem State.onLd_cp (s : State) (f) : (s.onLd f).cp = s.cp := rfl
@[simp] theorem State.onLd_fab (s : State) (f) : (s.onLd f).fab = s.fab := rfl
@[simp] theorem State.onLd_sns (s : State) (f) : (s.onLd f).sns = s.sns := rfl
@[simp] theorem State.onLd_ax (s : State) (f) : (s.onLd f).ax = s.ax := rfl
@[simp] theorem State.onLd_blk (s : State) (f) : (s.onLd f).blk = s.blk := rfl
@[simp] theorem State.onLd_smpCnt (s : State) (f) : (s.onLd f).smpCnt = s.smpCnt := rfl
@[simp] theorem State.onLd_gd (s : State) (f) : (s.onLd f).gd = s.gd := rfl
@[simp] theorem State.onLd_cmd (s : State) (f) : (s.onLd f).cmd = s.cmd := rfl
@[simp] theorem State.onLd_aux (s : State) (f) : (s.onLd f).aux = s.aux := rfl
@[simp] theorem State.onLd_shr (s : State) (f) : (s.onLd f).shr = s.shr := rfl
@[simp] theorem State.onLd_sip (s : State) (f) : (s.onLd f).sip = s.sip := rfl
@[simp] theorem State.onLd_car (s : State) (f) : (s.onLd f).car = s.car := rfl
@[simp] theorem State.onLd_saf (s : State) (f) : (s.onLd f).saf = s.saf := rfl
@[simp] theorem State.onLd_can (s : State) (f) : (s.onLd f).can = s.can := rfl
@[simp] theorem State.onLd_frz (s : State) (f) : (s.onLd f).frz = s.frz := rfl
@[simp] theorem State.onLd_pending (s : State) (f) : (s.onLd f).pending = s.pending := rfl
@[simp] theorem State.onKs_clk (s : State) (f) : (s.onKs f).clk = s.clk := rfl
@[simp] theorem State.onKs_pwr (s : State) (f) : (s.onKs f).pwr = s.pwr := rfl
@[simp] theorem State.onKs_ld (s : State) (f) : (s.onKs f).ld = s.ld := rfl
@[simp] theorem State.onKs_ks (s : State) (f) : (s.onKs f).ks = f s.ks := rfl
@[simp] theorem State.onKs_tbs (s : State) (f) : (s.onKs f).tbs = s.tbs := rfl
@[simp] theorem State.onKs_mode (s : State) (f) : (s.onKs f).mode = s.mode := rfl
@[simp] theorem State.onKs_stg (s : State) (f) : (s.onKs f).stg = s.stg := rfl
@[simp] theorem State.onKs_tick (s : State) (f) : (s.onKs f).tick = s.tick := rfl
@[simp] theorem State.onKs_recs (s : State) (f) : (s.onKs f).recs = s.recs := rfl
@[simp] theorem State.onKs_regs (s : State) (f) : (s.onKs f).regs = s.regs := rfl
@[simp] theorem State.onKs_snt (s : State) (f) : (s.onKs f).snt = s.snt := rfl
@[simp] theorem State.onKs_freeIx (s : State) (f) : (s.onKs f).freeIx = s.freeIx := rfl
@[simp] theorem State.onKs_cp (s : State) (f) : (s.onKs f).cp = s.cp := rfl
@[simp] theorem State.onKs_fab (s : State) (f) : (s.onKs f).fab = s.fab := rfl
@[simp] theorem State.onKs_sns (s : State) (f) : (s.onKs f).sns = s.sns := rfl
@[simp] theorem State.onKs_ax (s : State) (f) : (s.onKs f).ax = s.ax := rfl
@[simp] theorem State.onKs_blk (s : State) (f) : (s.onKs f).blk = s.blk := rfl
@[simp] theorem State.onKs_smpCnt (s : State) (f) : (s.onKs f).smpCnt = s.smpCnt := rfl
@[simp] theorem State.onKs_gd (s : State) (f) : (s.onKs f).gd = s.gd := rfl
@[simp] theorem State.onKs_cmd (s : State) (f) : (s.onKs f).cmd = s.cmd := rfl
@[simp] theorem State.onKs_aux (s : State) (f) : (s.onKs f).aux = s.aux := rfl
@[simp] theorem State.onKs_shr (s : State) (f) : (s.onKs f).shr = s.shr := rfl
@[simp] theorem State.onKs_sip (s : State) (f) : (s.onKs f).sip = s.sip := rfl
@[simp] theorem State.onKs_car (s : State) (f) : (s.onKs f).car = s.car := rfl
@[simp] theorem State.onKs_saf (s : State) (f) : (s.onKs f).saf = s.saf := rfl
@[simp] theorem State.onKs_can (s : State) (f) : (s.onKs f).can = s.can := rfl
@[simp] theorem State.onKs_frz (s : State) (f) : (s.onKs f).frz = s.frz := rfl
@[simp] theorem State.onKs_pending (s : State) (f) : (s.onKs f).pending = s.pending := rfl
@[simp] theorem State.onTbs_clk (s : State) (f) : (s.onTbs f).clk = s.clk := rfl
@[simp] theorem State.onTbs_pwr (s : State) (f) : (s.onTbs f).pwr = s.pwr := rfl
@[simp] theorem State.onTbs_ld (s : State) (f) : (s.onTbs f).ld = s.ld := rfl
@[simp] theorem State.onTbs_ks (s : State) (f) : (s.onTbs f).ks = s.ks := rfl
@[simp] theorem State.onTbs_tbs (s : State) (f) : (s.onTbs f).tbs = f s.tbs := rfl
@[simp] theorem State.onTbs_mode (s : State) (f) : (s.onTbs f).mode = s.mode := rfl
@[simp] theorem State.onTbs_stg (s : State) (f) : (s.onTbs f).stg = s.stg := rfl
@[simp] theorem State.onTbs_tick (s : State) (f) : (s.onTbs f).tick = s.tick := rfl
@[simp] theorem State.onTbs_recs (s : State) (f) : (s.onTbs f).recs = s.recs := rfl
@[simp] theorem State.onTbs_regs (s : State) (f) : (s.onTbs f).regs = s.regs := rfl
@[simp] theorem State.onTbs_snt (s : State) (f) : (s.onTbs f).snt = s.snt := rfl
@[simp] theorem State.onTbs_freeIx (s : State) (f) : (s.onTbs f).freeIx = s.freeIx := rfl
@[simp] theorem State.onTbs_cp (s : State) (f) : (s.onTbs f).cp = s.cp := rfl
@[simp] theorem State.onTbs_fab (s : State) (f) : (s.onTbs f).fab = s.fab := rfl
@[simp] theorem State.onTbs_sns (s : State) (f) : (s.onTbs f).sns = s.sns := rfl
@[simp] theorem State.onTbs_ax (s : State) (f) : (s.onTbs f).ax = s.ax := rfl
@[simp] theorem State.onTbs_blk (s : State) (f) : (s.onTbs f).blk = s.blk := rfl
@[simp] theorem State.onTbs_smpCnt (s : State) (f) : (s.onTbs f).smpCnt = s.smpCnt := rfl
@[simp] theorem State.onTbs_gd (s : State) (f) : (s.onTbs f).gd = s.gd := rfl
@[simp] theorem State.onTbs_cmd (s : State) (f) : (s.onTbs f).cmd = s.cmd := rfl
@[simp] theorem State.onTbs_aux (s : State) (f) : (s.onTbs f).aux = s.aux := rfl
@[simp] theorem State.onTbs_shr (s : State) (f) : (s.onTbs f).shr = s.shr := rfl
@[simp] theorem State.onTbs_sip (s : State) (f) : (s.onTbs f).sip = s.sip := rfl
@[simp] theorem State.onTbs_car (s : State) (f) : (s.onTbs f).car = s.car := rfl
@[simp] theorem State.onTbs_saf (s : State) (f) : (s.onTbs f).saf = s.saf := rfl
@[simp] theorem State.onTbs_can (s : State) (f) : (s.onTbs f).can = s.can := rfl
@[simp] theorem State.onTbs_frz (s : State) (f) : (s.onTbs f).frz = s.frz := rfl
@[simp] theorem State.onTbs_pending (s : State) (f) : (s.onTbs f).pending = s.pending := rfl
@[simp] theorem State.onMode_clk (s : State) (f) : (s.onMode f).clk = s.clk := rfl
@[simp] theorem State.onMode_pwr (s : State) (f) : (s.onMode f).pwr = s.pwr := rfl
@[simp] theorem State.onMode_ld (s : State) (f) : (s.onMode f).ld = s.ld := rfl
@[simp] theorem State.onMode_ks (s : State) (f) : (s.onMode f).ks = s.ks := rfl
@[simp] theorem State.onMode_tbs (s : State) (f) : (s.onMode f).tbs = s.tbs := rfl
@[simp] theorem State.onMode_mode (s : State) (f) : (s.onMode f).mode = f s.mode := rfl
@[simp] theorem State.onMode_stg (s : State) (f) : (s.onMode f).stg = s.stg := rfl
@[simp] theorem State.onMode_tick (s : State) (f) : (s.onMode f).tick = s.tick := rfl
@[simp] theorem State.onMode_recs (s : State) (f) : (s.onMode f).recs = s.recs := rfl
@[simp] theorem State.onMode_regs (s : State) (f) : (s.onMode f).regs = s.regs := rfl
@[simp] theorem State.onMode_snt (s : State) (f) : (s.onMode f).snt = s.snt := rfl
@[simp] theorem State.onMode_freeIx (s : State) (f) : (s.onMode f).freeIx = s.freeIx := rfl
@[simp] theorem State.onMode_cp (s : State) (f) : (s.onMode f).cp = s.cp := rfl
@[simp] theorem State.onMode_fab (s : State) (f) : (s.onMode f).fab = s.fab := rfl
@[simp] theorem State.onMode_sns (s : State) (f) : (s.onMode f).sns = s.sns := rfl
@[simp] theorem State.onMode_ax (s : State) (f) : (s.onMode f).ax = s.ax := rfl
@[simp] theorem State.onMode_blk (s : State) (f) : (s.onMode f).blk = s.blk := rfl
@[simp] theorem State.onMode_smpCnt (s : State) (f) : (s.onMode f).smpCnt = s.smpCnt := rfl
@[simp] theorem State.onMode_gd (s : State) (f) : (s.onMode f).gd = s.gd := rfl
@[simp] theorem State.onMode_cmd (s : State) (f) : (s.onMode f).cmd = s.cmd := rfl
@[simp] theorem State.onMode_aux (s : State) (f) : (s.onMode f).aux = s.aux := rfl
@[simp] theorem State.onMode_shr (s : State) (f) : (s.onMode f).shr = s.shr := rfl
@[simp] theorem State.onMode_sip (s : State) (f) : (s.onMode f).sip = s.sip := rfl
@[simp] theorem State.onMode_car (s : State) (f) : (s.onMode f).car = s.car := rfl
@[simp] theorem State.onMode_saf (s : State) (f) : (s.onMode f).saf = s.saf := rfl
@[simp] theorem State.onMode_can (s : State) (f) : (s.onMode f).can = s.can := rfl
@[simp] theorem State.onMode_frz (s : State) (f) : (s.onMode f).frz = s.frz := rfl
@[simp] theorem State.onMode_pending (s : State) (f) : (s.onMode f).pending = s.pending := rfl
@[simp] theorem State.onStg_clk (s : State) (f) : (s.onStg f).clk = s.clk := rfl
@[simp] theorem State.onStg_pwr (s : State) (f) : (s.onStg f).pwr = s.pwr := rfl
@[simp] theorem State.onStg_ld (s : State) (f) : (s.onStg f).ld = s.ld := rfl
@[simp] theorem State.onStg_ks (s : State) (f) : (s.onStg f).ks = s.ks := rfl
@[simp] theorem State.onStg_tbs (s : State) (f) : (s.onStg f).tbs = s.tbs := rfl
@[simp] theorem State.onStg_mode (s : State) (f) : (s.onStg f).mode = s.mode := rfl
@[simp] theorem State.onStg_stg (s : State) (f) : (s.onStg f).stg = f s.stg := rfl
@[simp] theorem State.onStg_tick (s : State) (f) : (s.onStg f).tick = s.tick := rfl
@[simp] theorem State.onStg_recs (s : State) (f) : (s.onStg f).recs = s.recs := rfl
@[simp] theorem State.onStg_regs (s : State) (f) : (s.onStg f).regs = s.regs := rfl
@[simp] theorem State.onStg_snt (s : State) (f) : (s.onStg f).snt = s.snt := rfl
@[simp] theorem State.onStg_freeIx (s : State) (f) : (s.onStg f).freeIx = s.freeIx := rfl
@[simp] theorem State.onStg_cp (s : State) (f) : (s.onStg f).cp = s.cp := rfl
@[simp] theorem State.onStg_fab (s : State) (f) : (s.onStg f).fab = s.fab := rfl
@[simp] theorem State.onStg_sns (s : State) (f) : (s.onStg f).sns = s.sns := rfl
@[simp] theorem State.onStg_ax (s : State) (f) : (s.onStg f).ax = s.ax := rfl
@[simp] theorem State.onStg_blk (s : State) (f) : (s.onStg f).blk = s.blk := rfl
@[simp] theorem State.onStg_smpCnt (s : State) (f) : (s.onStg f).smpCnt = s.smpCnt := rfl
@[simp] theorem State.onStg_gd (s : State) (f) : (s.onStg f).gd = s.gd := rfl
@[simp] theorem State.onStg_cmd (s : State) (f) : (s.onStg f).cmd = s.cmd := rfl
@[simp] theorem State.onStg_aux (s : State) (f) : (s.onStg f).aux = s.aux := rfl
@[simp] theorem State.onStg_shr (s : State) (f) : (s.onStg f).shr = s.shr := rfl
@[simp] theorem State.onStg_sip (s : State) (f) : (s.onStg f).sip = s.sip := rfl
@[simp] theorem State.onStg_car (s : State) (f) : (s.onStg f).car = s.car := rfl
@[simp] theorem State.onStg_saf (s : State) (f) : (s.onStg f).saf = s.saf := rfl
@[simp] theorem State.onStg_can (s : State) (f) : (s.onStg f).can = s.can := rfl
@[simp] theorem State.onStg_frz (s : State) (f) : (s.onStg f).frz = s.frz := rfl
@[simp] theorem State.onStg_pending (s : State) (f) : (s.onStg f).pending = s.pending := rfl
@[simp] theorem State.onTick_clk (s : State) (f) : (s.onTick f).clk = s.clk := rfl
@[simp] theorem State.onTick_pwr (s : State) (f) : (s.onTick f).pwr = s.pwr := rfl
@[simp] theorem State.onTick_ld (s : State) (f) : (s.onTick f).ld = s.ld := rfl
@[simp] theorem State.onTick_ks (s : State) (f) : (s.onTick f).ks = s.ks := rfl
@[simp] theorem State.onTick_tbs (s : State) (f) : (s.onTick f).tbs = s.tbs := rfl
@[simp] theorem State.onTick_mode (s : State) (f) : (s.onTick f).mode = s.mode := rfl
@[simp] theorem State.onTick_stg (s : State) (f) : (s.onTick f).stg = s.stg := rfl
@[simp] theorem State.onTick_tick (s : State) (f) : (s.onTick f).tick = f s.tick := rfl
@[simp] theorem State.onTick_recs (s : State) (f) : (s.onTick f).recs = s.recs := rfl
@[simp] theorem State.onTick_regs (s : State) (f) : (s.onTick f).regs = s.regs := rfl
@[simp] theorem State.onTick_snt (s : State) (f) : (s.onTick f).snt = s.snt := rfl
@[simp] theorem State.onTick_freeIx (s : State) (f) : (s.onTick f).freeIx = s.freeIx := rfl
@[simp] theorem State.onTick_cp (s : State) (f) : (s.onTick f).cp = s.cp := rfl
@[simp] theorem State.onTick_fab (s : State) (f) : (s.onTick f).fab = s.fab := rfl
@[simp] theorem State.onTick_sns (s : State) (f) : (s.onTick f).sns = s.sns := rfl
@[simp] theorem State.onTick_ax (s : State) (f) : (s.onTick f).ax = s.ax := rfl
@[simp] theorem State.onTick_blk (s : State) (f) : (s.onTick f).blk = s.blk := rfl
@[simp] theorem State.onTick_smpCnt (s : State) (f) : (s.onTick f).smpCnt = s.smpCnt := rfl
@[simp] theorem State.onTick_gd (s : State) (f) : (s.onTick f).gd = s.gd := rfl
@[simp] theorem State.onTick_cmd (s : State) (f) : (s.onTick f).cmd = s.cmd := rfl
@[simp] theorem State.onTick_aux (s : State) (f) : (s.onTick f).aux = s.aux := rfl
@[simp] theorem State.onTick_shr (s : State) (f) : (s.onTick f).shr = s.shr := rfl
@[simp] theorem State.onTick_sip (s : State) (f) : (s.onTick f).sip = s.sip := rfl
@[simp] theorem State.onTick_car (s : State) (f) : (s.onTick f).car = s.car := rfl
@[simp] theorem State.onTick_saf (s : State) (f) : (s.onTick f).saf = s.saf := rfl
@[simp] theorem State.onTick_can (s : State) (f) : (s.onTick f).can = s.can := rfl
@[simp] theorem State.onTick_frz (s : State) (f) : (s.onTick f).frz = s.frz := rfl
@[simp] theorem State.onTick_pending (s : State) (f) : (s.onTick f).pending = s.pending := rfl
@[simp] theorem State.onRecs_clk (s : State) (f) : (s.onRecs f).clk = s.clk := rfl
@[simp] theorem State.onRecs_pwr (s : State) (f) : (s.onRecs f).pwr = s.pwr := rfl
@[simp] theorem State.onRecs_ld (s : State) (f) : (s.onRecs f).ld = s.ld := rfl
@[simp] theorem State.onRecs_ks (s : State) (f) : (s.onRecs f).ks = s.ks := rfl
@[simp] theorem State.onRecs_tbs (s : State) (f) : (s.onRecs f).tbs = s.tbs := rfl
@[simp] theorem State.onRecs_mode (s : State) (f) : (s.onRecs f).mode = s.mode := rfl
@[simp] theorem State.onRecs_stg (s : State) (f) : (s.onRecs f).stg = s.stg := rfl
@[simp] theorem State.onRecs_tick (s : State) (f) : (s.onRecs f).tick = s.tick := rfl
@[simp] theorem State.onRecs_recs (s : State) (f) : (s.onRecs f).recs = f s.recs := rfl
@[simp] theorem State.onRecs_regs (s : State) (f) : (s.onRecs f).regs = s.regs := rfl
@[simp] theorem State.onRecs_snt (s : State) (f) : (s.onRecs f).snt = s.snt := rfl
@[simp] theorem State.onRecs_freeIx (s : State) (f) : (s.onRecs f).freeIx = s.freeIx := rfl
@[simp] theorem State.onRecs_cp (s : State) (f) : (s.onRecs f).cp = s.cp := rfl
@[simp] theorem State.onRecs_fab (s : State) (f) : (s.onRecs f).fab = s.fab := rfl
@[simp] theorem State.onRecs_sns (s : State) (f) : (s.onRecs f).sns = s.sns := rfl
@[simp] theorem State.onRecs_ax (s : State) (f) : (s.onRecs f).ax = s.ax := rfl
@[simp] theorem State.onRecs_blk (s : State) (f) : (s.onRecs f).blk = s.blk := rfl
@[simp] theorem State.onRecs_smpCnt (s : State) (f) : (s.onRecs f).smpCnt = s.smpCnt := rfl
@[simp] theorem State.onRecs_gd (s : State) (f) : (s.onRecs f).gd = s.gd := rfl
@[simp] theorem State.onRecs_cmd (s : State) (f) : (s.onRecs f).cmd = s.cmd := rfl
@[simp] theorem State.onRecs_aux (s : State) (f) : (s.onRecs f).aux = s.aux := rfl
@[simp] theorem State.onRecs_shr (s : State) (f) : (s.onRecs f).shr = s.shr := rfl
@[simp] theorem State.onRecs_sip (s : State) (f) : (s.onRecs f).sip = s.sip := rfl
@[simp] theorem State.onRecs_car (s : State) (f) : (s.onRecs f).car = s.car := rfl
@[simp] theorem State.onRecs_saf (s : State) (f) : (s.onRecs f).saf = s.saf := rfl
@[simp] theorem State.onRecs_can (s : State) (f) : (s.onRecs f).can = s.can := rfl
@[simp] theorem State.onRecs_frz (s : State) (f) : (s.onRecs f).frz = s.frz := rfl
@[simp] theorem State.onRecs_pending (s : State) (f) : (s.onRecs f).pending = s.pending := rfl
@[simp] theorem State.onRegs_clk (s : State) (f) : (s.onRegs f).clk = s.clk := rfl
@[simp] theorem State.onRegs_pwr (s : State) (f) : (s.onRegs f).pwr = s.pwr := rfl
@[simp] theorem State.onRegs_ld (s : State) (f) : (s.onRegs f).ld = s.ld := rfl
@[simp] theorem State.onRegs_ks (s : State) (f) : (s.onRegs f).ks = s.ks := rfl
@[simp] theorem State.onRegs_tbs (s : State) (f) : (s.onRegs f).tbs = s.tbs := rfl
@[simp] theorem State.onRegs_mode (s : State) (f) : (s.onRegs f).mode = s.mode := rfl
@[simp] theorem State.onRegs_stg (s : State) (f) : (s.onRegs f).stg = s.stg := rfl
@[simp] theorem State.onRegs_tick (s : State) (f) : (s.onRegs f).tick = s.tick := rfl
@[simp] theorem State.onRegs_recs (s : State) (f) : (s.onRegs f).recs = s.recs := rfl
@[simp] theorem State.onRegs_regs (s : State) (f) : (s.onRegs f).regs = f s.regs := rfl
@[simp] theorem State.onRegs_snt (s : State) (f) : (s.onRegs f).snt = s.snt := rfl
@[simp] theorem State.onRegs_freeIx (s : State) (f) : (s.onRegs f).freeIx = s.freeIx := rfl
@[simp] theorem State.onRegs_cp (s : State) (f) : (s.onRegs f).cp = s.cp := rfl
@[simp] theorem State.onRegs_fab (s : State) (f) : (s.onRegs f).fab = s.fab := rfl
@[simp] theorem State.onRegs_sns (s : State) (f) : (s.onRegs f).sns = s.sns := rfl
@[simp] theorem State.onRegs_ax (s : State) (f) : (s.onRegs f).ax = s.ax := rfl
@[simp] theorem State.onRegs_blk (s : State) (f) : (s.onRegs f).blk = s.blk := rfl
@[simp] theorem State.onRegs_smpCnt (s : State) (f) : (s.onRegs f).smpCnt = s.smpCnt := rfl
@[simp] theorem State.onRegs_gd (s : State) (f) : (s.onRegs f).gd = s.gd := rfl
@[simp] theorem State.onRegs_cmd (s : State) (f) : (s.onRegs f).cmd = s.cmd := rfl
@[simp] theorem State.onRegs_aux (s : State) (f) : (s.onRegs f).aux = s.aux := rfl
@[simp] theorem State.onRegs_shr (s : State) (f) : (s.onRegs f).shr = s.shr := rfl
@[simp] theorem State.onRegs_sip (s : State) (f) : (s.onRegs f).sip = s.sip := rfl
@[simp] theorem State.onRegs_car (s : State) (f) : (s.onRegs f).car = s.car := rfl
@[simp] theorem State.onRegs_saf (s : State) (f) : (s.onRegs f).saf = s.saf := rfl
@[simp] theorem State.onRegs_can (s : State) (f) : (s.onRegs f).can = s.can := rfl
@[simp] theorem State.onRegs_frz (s : State) (f) : (s.onRegs f).frz = s.frz := rfl
@[simp] theorem State.onRegs_pending (s : State) (f) : (s.onRegs f).pending = s.pending := rfl
@[simp] theorem State.onSnt_clk (s : State) (f) : (s.onSnt f).clk = s.clk := rfl
@[simp] theorem State.onSnt_pwr (s : State) (f) : (s.onSnt f).pwr = s.pwr := rfl
@[simp] theorem State.onSnt_ld (s : State) (f) : (s.onSnt f).ld = s.ld := rfl
@[simp] theorem State.onSnt_ks (s : State) (f) : (s.onSnt f).ks = s.ks := rfl
@[simp] theorem State.onSnt_tbs (s : State) (f) : (s.onSnt f).tbs = s.tbs := rfl
@[simp] theorem State.onSnt_mode (s : State) (f) : (s.onSnt f).mode = s.mode := rfl
@[simp] theorem State.onSnt_stg (s : State) (f) : (s.onSnt f).stg = s.stg := rfl
@[simp] theorem State.onSnt_tick (s : State) (f) : (s.onSnt f).tick = s.tick := rfl
@[simp] theorem State.onSnt_recs (s : State) (f) : (s.onSnt f).recs = s.recs := rfl
@[simp] theorem State.onSnt_regs (s : State) (f) : (s.onSnt f).regs = s.regs := rfl
@[simp] theorem State.onSnt_snt (s : State) (f) : (s.onSnt f).snt = f s.snt := rfl
@[simp] theorem State.onSnt_freeIx (s : State) (f) : (s.onSnt f).freeIx = s.freeIx := rfl
@[simp] theorem State.onSnt_cp (s : State) (f) : (s.onSnt f).cp = s.cp := rfl
@[simp] theorem State.onSnt_fab (s : State) (f) : (s.onSnt f).fab = s.fab := rfl
@[simp] theorem State.onSnt_sns (s : State) (f) : (s.onSnt f).sns = s.sns := rfl
@[simp] theorem State.onSnt_ax (s : State) (f) : (s.onSnt f).ax = s.ax := rfl
@[simp] theorem State.onSnt_blk (s : State) (f) : (s.onSnt f).blk = s.blk := rfl
@[simp] theorem State.onSnt_smpCnt (s : State) (f) : (s.onSnt f).smpCnt = s.smpCnt := rfl
@[simp] theorem State.onSnt_gd (s : State) (f) : (s.onSnt f).gd = s.gd := rfl
@[simp] theorem State.onSnt_cmd (s : State) (f) : (s.onSnt f).cmd = s.cmd := rfl
@[simp] theorem State.onSnt_aux (s : State) (f) : (s.onSnt f).aux = s.aux := rfl
@[simp] theorem State.onSnt_shr (s : State) (f) : (s.onSnt f).shr = s.shr := rfl
@[simp] theorem State.onSnt_sip (s : State) (f) : (s.onSnt f).sip = s.sip := rfl
@[simp] theorem State.onSnt_car (s : State) (f) : (s.onSnt f).car = s.car := rfl
@[simp] theorem State.onSnt_saf (s : State) (f) : (s.onSnt f).saf = s.saf := rfl
@[simp] theorem State.onSnt_can (s : State) (f) : (s.onSnt f).can = s.can := rfl
@[simp] theorem State.onSnt_frz (s : State) (f) : (s.onSnt f).frz = s.frz := rfl
@[simp] theorem State.onSnt_pending (s : State) (f) : (s.onSnt f).pending = s.pending := rfl
@[simp] theorem State.onFreeIx_clk (s : State) (f) : (s.onFreeIx f).clk = s.clk := rfl
@[simp] theorem State.onFreeIx_pwr (s : State) (f) : (s.onFreeIx f).pwr = s.pwr := rfl
@[simp] theorem State.onFreeIx_ld (s : State) (f) : (s.onFreeIx f).ld = s.ld := rfl
@[simp] theorem State.onFreeIx_ks (s : State) (f) : (s.onFreeIx f).ks = s.ks := rfl
@[simp] theorem State.onFreeIx_tbs (s : State) (f) : (s.onFreeIx f).tbs = s.tbs := rfl
@[simp] theorem State.onFreeIx_mode (s : State) (f) : (s.onFreeIx f).mode = s.mode := rfl
@[simp] theorem State.onFreeIx_stg (s : State) (f) : (s.onFreeIx f).stg = s.stg := rfl
@[simp] theorem State.onFreeIx_tick (s : State) (f) : (s.onFreeIx f).tick = s.tick := rfl
@[simp] theorem State.onFreeIx_recs (s : State) (f) : (s.onFreeIx f).recs = s.recs := rfl
@[simp] theorem State.onFreeIx_regs (s : State) (f) : (s.onFreeIx f).regs = s.regs := rfl
@[simp] theorem State.onFreeIx_snt (s : State) (f) : (s.onFreeIx f).snt = s.snt := rfl
@[simp] theorem State.onFreeIx_freeIx (s : State) (f) : (s.onFreeIx f).freeIx = f s.freeIx := rfl
@[simp] theorem State.onFreeIx_cp (s : State) (f) : (s.onFreeIx f).cp = s.cp := rfl
@[simp] theorem State.onFreeIx_fab (s : State) (f) : (s.onFreeIx f).fab = s.fab := rfl
@[simp] theorem State.onFreeIx_sns (s : State) (f) : (s.onFreeIx f).sns = s.sns := rfl
@[simp] theorem State.onFreeIx_ax (s : State) (f) : (s.onFreeIx f).ax = s.ax := rfl
@[simp] theorem State.onFreeIx_blk (s : State) (f) : (s.onFreeIx f).blk = s.blk := rfl
@[simp] theorem State.onFreeIx_smpCnt (s : State) (f) : (s.onFreeIx f).smpCnt = s.smpCnt := rfl
@[simp] theorem State.onFreeIx_gd (s : State) (f) : (s.onFreeIx f).gd = s.gd := rfl
@[simp] theorem State.onFreeIx_cmd (s : State) (f) : (s.onFreeIx f).cmd = s.cmd := rfl
@[simp] theorem State.onFreeIx_aux (s : State) (f) : (s.onFreeIx f).aux = s.aux := rfl
@[simp] theorem State.onFreeIx_shr (s : State) (f) : (s.onFreeIx f).shr = s.shr := rfl
@[simp] theorem State.onFreeIx_sip (s : State) (f) : (s.onFreeIx f).sip = s.sip := rfl
@[simp] theorem State.onFreeIx_car (s : State) (f) : (s.onFreeIx f).car = s.car := rfl
@[simp] theorem State.onFreeIx_saf (s : State) (f) : (s.onFreeIx f).saf = s.saf := rfl
@[simp] theorem State.onFreeIx_can (s : State) (f) : (s.onFreeIx f).can = s.can := rfl
@[simp] theorem State.onFreeIx_frz (s : State) (f) : (s.onFreeIx f).frz = s.frz := rfl
@[simp] theorem State.onFreeIx_pending (s : State) (f) : (s.onFreeIx f).pending = s.pending := rfl
@[simp] theorem State.onCp_clk (s : State) (f) : (s.onCp f).clk = s.clk := rfl
@[simp] theorem State.onCp_pwr (s : State) (f) : (s.onCp f).pwr = s.pwr := rfl
@[simp] theorem State.onCp_ld (s : State) (f) : (s.onCp f).ld = s.ld := rfl
@[simp] theorem State.onCp_ks (s : State) (f) : (s.onCp f).ks = s.ks := rfl
@[simp] theorem State.onCp_tbs (s : State) (f) : (s.onCp f).tbs = s.tbs := rfl
@[simp] theorem State.onCp_mode (s : State) (f) : (s.onCp f).mode = s.mode := rfl
@[simp] theorem State.onCp_stg (s : State) (f) : (s.onCp f).stg = s.stg := rfl
@[simp] theorem State.onCp_tick (s : State) (f) : (s.onCp f).tick = s.tick := rfl
@[simp] theorem State.onCp_recs (s : State) (f) : (s.onCp f).recs = s.recs := rfl
@[simp] theorem State.onCp_regs (s : State) (f) : (s.onCp f).regs = s.regs := rfl
@[simp] theorem State.onCp_snt (s : State) (f) : (s.onCp f).snt = s.snt := rfl
@[simp] theorem State.onCp_freeIx (s : State) (f) : (s.onCp f).freeIx = s.freeIx := rfl
@[simp] theorem State.onCp_cp (s : State) (f) : (s.onCp f).cp = f s.cp := rfl
@[simp] theorem State.onCp_fab (s : State) (f) : (s.onCp f).fab = s.fab := rfl
@[simp] theorem State.onCp_sns (s : State) (f) : (s.onCp f).sns = s.sns := rfl
@[simp] theorem State.onCp_ax (s : State) (f) : (s.onCp f).ax = s.ax := rfl
@[simp] theorem State.onCp_blk (s : State) (f) : (s.onCp f).blk = s.blk := rfl
@[simp] theorem State.onCp_smpCnt (s : State) (f) : (s.onCp f).smpCnt = s.smpCnt := rfl
@[simp] theorem State.onCp_gd (s : State) (f) : (s.onCp f).gd = s.gd := rfl
@[simp] theorem State.onCp_cmd (s : State) (f) : (s.onCp f).cmd = s.cmd := rfl
@[simp] theorem State.onCp_aux (s : State) (f) : (s.onCp f).aux = s.aux := rfl
@[simp] theorem State.onCp_shr (s : State) (f) : (s.onCp f).shr = s.shr := rfl
@[simp] theorem State.onCp_sip (s : State) (f) : (s.onCp f).sip = s.sip := rfl
@[simp] theorem State.onCp_car (s : State) (f) : (s.onCp f).car = s.car := rfl
@[simp] theorem State.onCp_saf (s : State) (f) : (s.onCp f).saf = s.saf := rfl
@[simp] theorem State.onCp_can (s : State) (f) : (s.onCp f).can = s.can := rfl
@[simp] theorem State.onCp_frz (s : State) (f) : (s.onCp f).frz = s.frz := rfl
@[simp] theorem State.onCp_pending (s : State) (f) : (s.onCp f).pending = s.pending := rfl
@[simp] theorem State.onFab_clk (s : State) (f) : (s.onFab f).clk = s.clk := rfl
@[simp] theorem State.onFab_pwr (s : State) (f) : (s.onFab f).pwr = s.pwr := rfl
@[simp] theorem State.onFab_ld (s : State) (f) : (s.onFab f).ld = s.ld := rfl
@[simp] theorem State.onFab_ks (s : State) (f) : (s.onFab f).ks = s.ks := rfl
@[simp] theorem State.onFab_tbs (s : State) (f) : (s.onFab f).tbs = s.tbs := rfl
@[simp] theorem State.onFab_mode (s : State) (f) : (s.onFab f).mode = s.mode := rfl
@[simp] theorem State.onFab_stg (s : State) (f) : (s.onFab f).stg = s.stg := rfl
@[simp] theorem State.onFab_tick (s : State) (f) : (s.onFab f).tick = s.tick := rfl
@[simp] theorem State.onFab_recs (s : State) (f) : (s.onFab f).recs = s.recs := rfl
@[simp] theorem State.onFab_regs (s : State) (f) : (s.onFab f).regs = s.regs := rfl
@[simp] theorem State.onFab_snt (s : State) (f) : (s.onFab f).snt = s.snt := rfl
@[simp] theorem State.onFab_freeIx (s : State) (f) : (s.onFab f).freeIx = s.freeIx := rfl
@[simp] theorem State.onFab_cp (s : State) (f) : (s.onFab f).cp = s.cp := rfl
@[simp] theorem State.onFab_fab (s : State) (f) : (s.onFab f).fab = f s.fab := rfl
@[simp] theorem State.onFab_sns (s : State) (f) : (s.onFab f).sns = s.sns := rfl
@[simp] theorem State.onFab_ax (s : State) (f) : (s.onFab f).ax = s.ax := rfl
@[simp] theorem State.onFab_blk (s : State) (f) : (s.onFab f).blk = s.blk := rfl
@[simp] theorem State.onFab_smpCnt (s : State) (f) : (s.onFab f).smpCnt = s.smpCnt := rfl
@[simp] theorem State.onFab_gd (s : State) (f) : (s.onFab f).gd = s.gd := rfl
@[simp] theorem State.onFab_cmd (s : State) (f) : (s.onFab f).cmd = s.cmd := rfl
@[simp] theorem State.onFab_aux (s : State) (f) : (s.onFab f).aux = s.aux := rfl
@[simp] theorem State.onFab_shr (s : State) (f) : (s.onFab f).shr = s.shr := rfl
@[simp] theorem State.onFab_sip (s : State) (f) : (s.onFab f).sip = s.sip := rfl
@[simp] theorem State.onFab_car (s : State) (f) : (s.onFab f).car = s.car := rfl
@[simp] theorem State.onFab_saf (s : State) (f) : (s.onFab f).saf = s.saf := rfl
@[simp] theorem State.onFab_can (s : State) (f) : (s.onFab f).can = s.can := rfl
@[simp] theorem State.onFab_frz (s : State) (f) : (s.onFab f).frz = s.frz := rfl
@[simp] theorem State.onFab_pending (s : State) (f) : (s.onFab f).pending = s.pending := rfl
@[simp] theorem State.onSns_clk (s : State) (f) : (s.onSns f).clk = s.clk := rfl
@[simp] theorem State.onSns_pwr (s : State) (f) : (s.onSns f).pwr = s.pwr := rfl
@[simp] theorem State.onSns_ld (s : State) (f) : (s.onSns f).ld = s.ld := rfl
@[simp] theorem State.onSns_ks (s : State) (f) : (s.onSns f).ks = s.ks := rfl
@[simp] theorem State.onSns_tbs (s : State) (f) : (s.onSns f).tbs = s.tbs := rfl
@[simp] theorem State.onSns_mode (s : State) (f) : (s.onSns f).mode = s.mode := rfl
@[simp] theorem State.onSns_stg (s : State) (f) : (s.onSns f).stg = s.stg := rfl
@[simp] theorem State.onSns_tick (s : State) (f) : (s.onSns f).tick = s.tick := rfl
@[simp] theorem State.onSns_recs (s : State) (f) : (s.onSns f).recs = s.recs := rfl
@[simp] theorem State.onSns_regs (s : State) (f) : (s.onSns f).regs = s.regs := rfl
@[simp] theorem State.onSns_snt (s : State) (f) : (s.onSns f).snt = s.snt := rfl
@[simp] theorem State.onSns_freeIx (s : State) (f) : (s.onSns f).freeIx = s.freeIx := rfl
@[simp] theorem State.onSns_cp (s : State) (f) : (s.onSns f).cp = s.cp := rfl
@[simp] theorem State.onSns_fab (s : State) (f) : (s.onSns f).fab = s.fab := rfl
@[simp] theorem State.onSns_sns (s : State) (f) : (s.onSns f).sns = f s.sns := rfl
@[simp] theorem State.onSns_ax (s : State) (f) : (s.onSns f).ax = s.ax := rfl
@[simp] theorem State.onSns_blk (s : State) (f) : (s.onSns f).blk = s.blk := rfl
@[simp] theorem State.onSns_smpCnt (s : State) (f) : (s.onSns f).smpCnt = s.smpCnt := rfl
@[simp] theorem State.onSns_gd (s : State) (f) : (s.onSns f).gd = s.gd := rfl
@[simp] theorem State.onSns_cmd (s : State) (f) : (s.onSns f).cmd = s.cmd := rfl
@[simp] theorem State.onSns_aux (s : State) (f) : (s.onSns f).aux = s.aux := rfl
@[simp] theorem State.onSns_shr (s : State) (f) : (s.onSns f).shr = s.shr := rfl
@[simp] theorem State.onSns_sip (s : State) (f) : (s.onSns f).sip = s.sip := rfl
@[simp] theorem State.onSns_car (s : State) (f) : (s.onSns f).car = s.car := rfl
@[simp] theorem State.onSns_saf (s : State) (f) : (s.onSns f).saf = s.saf := rfl
@[simp] theorem State.onSns_can (s : State) (f) : (s.onSns f).can = s.can := rfl
@[simp] theorem State.onSns_frz (s : State) (f) : (s.onSns f).frz = s.frz := rfl
@[simp] theorem State.onSns_pending (s : State) (f) : (s.onSns f).pending = s.pending := rfl
@[simp] theorem State.onAx_clk (s : State) (f) : (s.onAx f).clk = s.clk := rfl
@[simp] theorem State.onAx_pwr (s : State) (f) : (s.onAx f).pwr = s.pwr := rfl
@[simp] theorem State.onAx_ld (s : State) (f) : (s.onAx f).ld = s.ld := rfl
@[simp] theorem State.onAx_ks (s : State) (f) : (s.onAx f).ks = s.ks := rfl
@[simp] theorem State.onAx_tbs (s : State) (f) : (s.onAx f).tbs = s.tbs := rfl
@[simp] theorem State.onAx_mode (s : State) (f) : (s.onAx f).mode = s.mode := rfl
@[simp] theorem State.onAx_stg (s : State) (f) : (s.onAx f).stg = s.stg := rfl
@[simp] theorem State.onAx_tick (s : State) (f) : (s.onAx f).tick = s.tick := rfl
@[simp] theorem State.onAx_recs (s : State) (f) : (s.onAx f).recs = s.recs := rfl
@[simp] theorem State.onAx_regs (s : State) (f) : (s.onAx f).regs = s.regs := rfl
@[simp] theorem State.onAx_snt (s : State) (f) : (s.onAx f).snt = s.snt := rfl
@[simp] theorem State.onAx_freeIx (s : State) (f) : (s.onAx f).freeIx = s.freeIx := rfl
@[simp] theorem State.onAx_cp (s : State) (f) : (s.onAx f).cp = s.cp := rfl
@[simp] theorem State.onAx_fab (s : State) (f) : (s.onAx f).fab = s.fab := rfl
@[simp] theorem State.onAx_sns (s : State) (f) : (s.onAx f).sns = s.sns := rfl
@[simp] theorem State.onAx_ax (s : State) (f) : (s.onAx f).ax = f s.ax := rfl
@[simp] theorem State.onAx_blk (s : State) (f) : (s.onAx f).blk = s.blk := rfl
@[simp] theorem State.onAx_smpCnt (s : State) (f) : (s.onAx f).smpCnt = s.smpCnt := rfl
@[simp] theorem State.onAx_gd (s : State) (f) : (s.onAx f).gd = s.gd := rfl
@[simp] theorem State.onAx_cmd (s : State) (f) : (s.onAx f).cmd = s.cmd := rfl
@[simp] theorem State.onAx_aux (s : State) (f) : (s.onAx f).aux = s.aux := rfl
@[simp] theorem State.onAx_shr (s : State) (f) : (s.onAx f).shr = s.shr := rfl
@[simp] theorem State.onAx_sip (s : State) (f) : (s.onAx f).sip = s.sip := rfl
@[simp] theorem State.onAx_car (s : State) (f) : (s.onAx f).car = s.car := rfl
@[simp] theorem State.onAx_saf (s : State) (f) : (s.onAx f).saf = s.saf := rfl
@[simp] theorem State.onAx_can (s : State) (f) : (s.onAx f).can = s.can := rfl
@[simp] theorem State.onAx_frz (s : State) (f) : (s.onAx f).frz = s.frz := rfl
@[simp] theorem State.onAx_pending (s : State) (f) : (s.onAx f).pending = s.pending := rfl
@[simp] theorem State.onBlk_clk (s : State) (f) : (s.onBlk f).clk = s.clk := rfl
@[simp] theorem State.onBlk_pwr (s : State) (f) : (s.onBlk f).pwr = s.pwr := rfl
@[simp] theorem State.onBlk_ld (s : State) (f) : (s.onBlk f).ld = s.ld := rfl
@[simp] theorem State.onBlk_ks (s : State) (f) : (s.onBlk f).ks = s.ks := rfl
@[simp] theorem State.onBlk_tbs (s : State) (f) : (s.onBlk f).tbs = s.tbs := rfl
@[simp] theorem State.onBlk_mode (s : State) (f) : (s.onBlk f).mode = s.mode := rfl
@[simp] theorem State.onBlk_stg (s : State) (f) : (s.onBlk f).stg = s.stg := rfl
@[simp] theorem State.onBlk_tick (s : State) (f) : (s.onBlk f).tick = s.tick := rfl
@[simp] theorem State.onBlk_recs (s : State) (f) : (s.onBlk f).recs = s.recs := rfl
@[simp] theorem State.onBlk_regs (s : State) (f) : (s.onBlk f).regs = s.regs := rfl
@[simp] theorem State.onBlk_snt (s : State) (f) : (s.onBlk f).snt = s.snt := rfl
@[simp] theorem State.onBlk_freeIx (s : State) (f) : (s.onBlk f).freeIx = s.freeIx := rfl
@[simp] theorem State.onBlk_cp (s : State) (f) : (s.onBlk f).cp = s.cp := rfl
@[simp] theorem State.onBlk_fab (s : State) (f) : (s.onBlk f).fab = s.fab := rfl
@[simp] theorem State.onBlk_sns (s : State) (f) : (s.onBlk f).sns = s.sns := rfl
@[simp] theorem State.onBlk_ax (s : State) (f) : (s.onBlk f).ax = s.ax := rfl
@[simp] theorem State.onBlk_blk (s : State) (f) : (s.onBlk f).blk = f s.blk := rfl
@[simp] theorem State.onBlk_smpCnt (s : State) (f) : (s.onBlk f).smpCnt = s.smpCnt := rfl
@[simp] theorem State.onBlk_gd (s : State) (f) : (s.onBlk f).gd = s.gd := rfl
@[simp] theorem State.onBlk_cmd (s : State) (f) : (s.onBlk f).cmd = s.cmd := rfl
@[simp] theorem State.onBlk_aux (s : State) (f) : (s.onBlk f).aux = s.aux := rfl
@[simp] theorem State.onBlk_shr (s : State) (f) : (s.onBlk f).shr = s.shr := rfl
@[simp] theorem State.onBlk_sip (s : State) (f) : (s.onBlk f).sip = s.sip := rfl
@[simp] theorem State.onBlk_car (s : State) (f) : (s.onBlk f).car = s.car := rfl
@[simp] theorem State.onBlk_saf (s : State) (f) : (s.onBlk f).saf = s.saf := rfl
@[simp] theorem State.onBlk_can (s : State) (f) : (s.onBlk f).can = s.can := rfl
@[simp] theorem State.onBlk_frz (s : State) (f) : (s.onBlk f).frz = s.frz := rfl
@[simp] theorem State.onBlk_pending (s : State) (f) : (s.onBlk f).pending = s.pending := rfl
@[simp] theorem State.onSmpCnt_clk (s : State) (f) : (s.onSmpCnt f).clk = s.clk := rfl
@[simp] theorem State.onSmpCnt_pwr (s : State) (f) : (s.onSmpCnt f).pwr = s.pwr := rfl
@[simp] theorem State.onSmpCnt_ld (s : State) (f) : (s.onSmpCnt f).ld = s.ld := rfl
@[simp] theorem State.onSmpCnt_ks (s : State) (f) : (s.onSmpCnt f).ks = s.ks := rfl
@[simp] theorem State.onSmpCnt_tbs (s : State) (f) : (s.onSmpCnt f).tbs = s.tbs := rfl
@[simp] theorem State.onSmpCnt_mode (s : State) (f) : (s.onSmpCnt f).mode = s.mode := rfl
@[simp] theorem State.onSmpCnt_stg (s : State) (f) : (s.onSmpCnt f).stg = s.stg := rfl
@[simp] theorem State.onSmpCnt_tick (s : State) (f) : (s.onSmpCnt f).tick = s.tick := rfl
@[simp] theorem State.onSmpCnt_recs (s : State) (f) : (s.onSmpCnt f).recs = s.recs := rfl
@[simp] theorem State.onSmpCnt_regs (s : State) (f) : (s.onSmpCnt f).regs = s.regs := rfl
@[simp] theorem State.onSmpCnt_snt (s : State) (f) : (s.onSmpCnt f).snt = s.snt := rfl
@[simp] theorem State.onSmpCnt_freeIx (s : State) (f) : (s.onSmpCnt f).freeIx = s.freeIx := rfl
@[simp] theorem State.onSmpCnt_cp (s : State) (f) : (s.onSmpCnt f).cp = s.cp := rfl
@[simp] theorem State.onSmpCnt_fab (s : State) (f) : (s.onSmpCnt f).fab = s.fab := rfl
@[simp] theorem State.onSmpCnt_sns (s : State) (f) : (s.onSmpCnt f).sns = s.sns := rfl
@[simp] theorem State.onSmpCnt_ax (s : State) (f) : (s.onSmpCnt f).ax = s.ax := rfl
@[simp] theorem State.onSmpCnt_blk (s : State) (f) : (s.onSmpCnt f).blk = s.blk := rfl
@[simp] theorem State.onSmpCnt_smpCnt (s : State) (f) : (s.onSmpCnt f).smpCnt = f s.smpCnt := rfl
@[simp] theorem State.onSmpCnt_gd (s : State) (f) : (s.onSmpCnt f).gd = s.gd := rfl
@[simp] theorem State.onSmpCnt_cmd (s : State) (f) : (s.onSmpCnt f).cmd = s.cmd := rfl
@[simp] theorem State.onSmpCnt_aux (s : State) (f) : (s.onSmpCnt f).aux = s.aux := rfl
@[simp] theorem State.onSmpCnt_shr (s : State) (f) : (s.onSmpCnt f).shr = s.shr := rfl
@[simp] theorem State.onSmpCnt_sip (s : State) (f) : (s.onSmpCnt f).sip = s.sip := rfl
@[simp] theorem State.onSmpCnt_car (s : State) (f) : (s.onSmpCnt f).car = s.car := rfl
@[simp] theorem State.onSmpCnt_saf (s : State) (f) : (s.onSmpCnt f).saf = s.saf := rfl
@[simp] theorem State.onSmpCnt_can (s : State) (f) : (s.onSmpCnt f).can = s.can := rfl
@[simp] theorem State.onSmpCnt_frz (s : State) (f) : (s.onSmpCnt f).frz = s.frz := rfl
@[simp] theorem State.onSmpCnt_pending (s : State) (f) : (s.onSmpCnt f).pending = s.pending := rfl
@[simp] theorem State.onGd_clk (s : State) (f) : (s.onGd f).clk = s.clk := rfl
@[simp] theorem State.onGd_pwr (s : State) (f) : (s.onGd f).pwr = s.pwr := rfl
@[simp] theorem State.onGd_ld (s : State) (f) : (s.onGd f).ld = s.ld := rfl
@[simp] theorem State.onGd_ks (s : State) (f) : (s.onGd f).ks = s.ks := rfl
@[simp] theorem State.onGd_tbs (s : State) (f) : (s.onGd f).tbs = s.tbs := rfl
@[simp] theorem State.onGd_mode (s : State) (f) : (s.onGd f).mode = s.mode := rfl
@[simp] theorem State.onGd_stg (s : State) (f) : (s.onGd f).stg = s.stg := rfl
@[simp] theorem State.onGd_tick (s : State) (f) : (s.onGd f).tick = s.tick := rfl
@[simp] theorem State.onGd_recs (s : State) (f) : (s.onGd f).recs = s.recs := rfl
@[simp] theorem State.onGd_regs (s : State) (f) : (s.onGd f).regs = s.regs := rfl
@[simp] theorem State.onGd_snt (s : State) (f) : (s.onGd f).snt = s.snt := rfl
@[simp] theorem State.onGd_freeIx (s : State) (f) : (s.onGd f).freeIx = s.freeIx := rfl
@[simp] theorem State.onGd_cp (s : State) (f) : (s.onGd f).cp = s.cp := rfl
@[simp] theorem State.onGd_fab (s : State) (f) : (s.onGd f).fab = s.fab := rfl
@[simp] theorem State.onGd_sns (s : State) (f) : (s.onGd f).sns = s.sns := rfl
@[simp] theorem State.onGd_ax (s : State) (f) : (s.onGd f).ax = s.ax := rfl
@[simp] theorem State.onGd_blk (s : State) (f) : (s.onGd f).blk = s.blk := rfl
@[simp] theorem State.onGd_smpCnt (s : State) (f) : (s.onGd f).smpCnt = s.smpCnt := rfl
@[simp] theorem State.onGd_gd (s : State) (f) : (s.onGd f).gd = f s.gd := rfl
@[simp] theorem State.onGd_cmd (s : State) (f) : (s.onGd f).cmd = s.cmd := rfl
@[simp] theorem State.onGd_aux (s : State) (f) : (s.onGd f).aux = s.aux := rfl
@[simp] theorem State.onGd_shr (s : State) (f) : (s.onGd f).shr = s.shr := rfl
@[simp] theorem State.onGd_sip (s : State) (f) : (s.onGd f).sip = s.sip := rfl
@[simp] theorem State.onGd_car (s : State) (f) : (s.onGd f).car = s.car := rfl
@[simp] theorem State.onGd_saf (s : State) (f) : (s.onGd f).saf = s.saf := rfl
@[simp] theorem State.onGd_can (s : State) (f) : (s.onGd f).can = s.can := rfl
@[simp] theorem State.onGd_frz (s : State) (f) : (s.onGd f).frz = s.frz := rfl
@[simp] theorem State.onGd_pending (s : State) (f) : (s.onGd f).pending = s.pending := rfl
@[simp] theorem State.onCmd_clk (s : State) (f) : (s.onCmd f).clk = s.clk := rfl
@[simp] theorem State.onCmd_pwr (s : State) (f) : (s.onCmd f).pwr = s.pwr := rfl
@[simp] theorem State.onCmd_ld (s : State) (f) : (s.onCmd f).ld = s.ld := rfl
@[simp] theorem State.onCmd_ks (s : State) (f) : (s.onCmd f).ks = s.ks := rfl
@[simp] theorem State.onCmd_tbs (s : State) (f) : (s.onCmd f).tbs = s.tbs := rfl
@[simp] theorem State.onCmd_mode (s : State) (f) : (s.onCmd f).mode = s.mode := rfl
@[simp] theorem State.onCmd_stg (s : State) (f) : (s.onCmd f).stg = s.stg := rfl
@[simp] theorem State.onCmd_tick (s : State) (f) : (s.onCmd f).tick = s.tick := rfl
@[simp] theorem State.onCmd_recs (s : State) (f) : (s.onCmd f).recs = s.recs := rfl
@[simp] theorem State.onCmd_regs (s : State) (f) : (s.onCmd f).regs = s.regs := rfl
@[simp] theorem State.onCmd_snt (s : State) (f) : (s.onCmd f).snt = s.snt := rfl
@[simp] theorem State.onCmd_freeIx (s : State) (f) : (s.onCmd f).freeIx = s.freeIx := rfl
@[simp] theorem State.onCmd_cp (s : State) (f) : (s.onCmd f).cp = s.cp := rfl
@[simp] theorem State.onCmd_fab (s : State) (f) : (s.onCmd f).fab = s.fab := rfl
@[simp] theorem State.onCmd_sns (s : State) (f) : (s.onCmd f).sns = s.sns := rfl
@[simp] theorem State.onCmd_ax (s : State) (f) : (s.onCmd f).ax = s.ax := rfl
@[simp] theorem State.onCmd_blk (s : State) (f) : (s.onCmd f).blk = s.blk := rfl
@[simp] theorem State.onCmd_smpCnt (s : State) (f) : (s.onCmd f).smpCnt = s.smpCnt := rfl
@[simp] theorem State.onCmd_gd (s : State) (f) : (s.onCmd f).gd = s.gd := rfl
@[simp] theorem State.onCmd_cmd (s : State) (f) : (s.onCmd f).cmd = f s.cmd := rfl
@[simp] theorem State.onCmd_aux (s : State) (f) : (s.onCmd f).aux = s.aux := rfl
@[simp] theorem State.onCmd_shr (s : State) (f) : (s.onCmd f).shr = s.shr := rfl
@[simp] theorem State.onCmd_sip (s : State) (f) : (s.onCmd f).sip = s.sip := rfl
@[simp] theorem State.onCmd_car (s : State) (f) : (s.onCmd f).car = s.car := rfl
@[simp] theorem State.onCmd_saf (s : State) (f) : (s.onCmd f).saf = s.saf := rfl
@[simp] theorem State.onCmd_can (s : State) (f) : (s.onCmd f).can = s.can := rfl
@[simp] theorem State.onCmd_frz (s : State) (f) : (s.onCmd f).frz = s.frz := rfl
@[simp] theorem State.onCmd_pending (s : State) (f) : (s.onCmd f).pending = s.pending := rfl
@[simp] theorem State.onAux_clk (s : State) (f) : (s.onAux f).clk = s.clk := rfl
@[simp] theorem State.onAux_pwr (s : State) (f) : (s.onAux f).pwr = s.pwr := rfl
@[simp] theorem State.onAux_ld (s : State) (f) : (s.onAux f).ld = s.ld := rfl
@[simp] theorem State.onAux_ks (s : State) (f) : (s.onAux f).ks = s.ks := rfl
@[simp] theorem State.onAux_tbs (s : State) (f) : (s.onAux f).tbs = s.tbs := rfl
@[simp] theorem State.onAux_mode (s : State) (f) : (s.onAux f).mode = s.mode := rfl
@[simp] theorem State.onAux_stg (s : State) (f) : (s.onAux f).stg = s.stg := rfl
@[simp] theorem State.onAux_tick (s : State) (f) : (s.onAux f).tick = s.tick := rfl
@[simp] theorem State.onAux_recs (s : State) (f) : (s.onAux f).recs = s.recs := rfl
@[simp] theorem State.onAux_regs (s : State) (f) : (s.onAux f).regs = s.regs := rfl
@[simp] theorem State.onAux_snt (s : State) (f) : (s.onAux f).snt = s.snt := rfl
@[simp] theorem State.onAux_freeIx (s : State) (f) : (s.onAux f).freeIx = s.freeIx := rfl
@[simp] theorem State.onAux_cp (s : State) (f) : (s.onAux f).cp = s.cp := rfl
@[simp] theorem State.onAux_fab (s : State) (f) : (s.onAux f).fab = s.fab := rfl
@[simp] theorem State.onAux_sns (s : State) (f) : (s.onAux f).sns = s.sns := rfl
@[simp] theorem State.onAux_ax (s : State) (f) : (s.onAux f).ax = s.ax := rfl
@[simp] theorem State.onAux_blk (s : State) (f) : (s.onAux f).blk = s.blk := rfl
@[simp] theorem State.onAux_smpCnt (s : State) (f) : (s.onAux f).smpCnt = s.smpCnt := rfl
@[simp] theorem State.onAux_gd (s : State) (f) : (s.onAux f).gd = s.gd := rfl
@[simp] theorem State.onAux_cmd (s : State) (f) : (s.onAux f).cmd = s.cmd := rfl
@[simp] theorem State.onAux_aux (s : State) (f) : (s.onAux f).aux = f s.aux := rfl
@[simp] theorem State.onAux_shr (s : State) (f) : (s.onAux f).shr = s.shr := rfl
@[simp] theorem State.onAux_sip (s : State) (f) : (s.onAux f).sip = s.sip := rfl
@[simp] theorem State.onAux_car (s : State) (f) : (s.onAux f).car = s.car := rfl
@[simp] theorem State.onAux_saf (s : State) (f) : (s.onAux f).saf = s.saf := rfl
@[simp] theorem State.onAux_can (s : State) (f) : (s.onAux f).can = s.can := rfl
@[simp] theorem State.onAux_frz (s : State) (f) : (s.onAux f).frz = s.frz := rfl
@[simp] theorem State.onAux_pending (s : State) (f) : (s.onAux f).pending = s.pending := rfl
@[simp] theorem State.onShr_clk (s : State) (f) : (s.onShr f).clk = s.clk := rfl
@[simp] theorem State.onShr_pwr (s : State) (f) : (s.onShr f).pwr = s.pwr := rfl
@[simp] theorem State.onShr_ld (s : State) (f) : (s.onShr f).ld = s.ld := rfl
@[simp] theorem State.onShr_ks (s : State) (f) : (s.onShr f).ks = s.ks := rfl
@[simp] theorem State.onShr_tbs (s : State) (f) : (s.onShr f).tbs = s.tbs := rfl
@[simp] theorem State.onShr_mode (s : State) (f) : (s.onShr f).mode = s.mode := rfl
@[simp] theorem State.onShr_stg (s : State) (f) : (s.onShr f).stg = s.stg := rfl
@[simp] theorem State.onShr_tick (s : State) (f) : (s.onShr f).tick = s.tick := rfl
@[simp] theorem State.onShr_recs (s : State) (f) : (s.onShr f).recs = s.recs := rfl
@[simp] theorem State.onShr_regs (s : State) (f) : (s.onShr f).regs = s.regs := rfl
@[simp] theorem State.onShr_snt (s : State) (f) : (s.onShr f).snt = s.snt := rfl
@[simp] theorem State.onShr_freeIx (s : State) (f) : (s.onShr f).freeIx = s.freeIx := rfl
@[simp] theorem State.onShr_cp (s : State) (f) : (s.onShr f).cp = s.cp := rfl
@[simp] theorem State.onShr_fab (s : State) (f) : (s.onShr f).fab = s.fab := rfl
@[simp] theorem State.onShr_sns (s : State) (f) : (s.onShr f).sns = s.sns := rfl
@[simp] theorem State.onShr_ax (s : State) (f) : (s.onShr f).ax = s.ax := rfl
@[simp] theorem State.onShr_blk (s : State) (f) : (s.onShr f).blk = s.blk := rfl
@[simp] theorem State.onShr_smpCnt (s : State) (f) : (s.onShr f).smpCnt = s.smpCnt := rfl
@[simp] theorem State.onShr_gd (s : State) (f) : (s.onShr f).gd = s.gd := rfl
@[simp] theorem State.onShr_cmd (s : State) (f) : (s.onShr f).cmd = s.cmd := rfl
@[simp] theorem State.onShr_aux (s : State) (f) : (s.onShr f).aux = s.aux := rfl
@[simp] theorem State.onShr_shr (s : State) (f) : (s.onShr f).shr = f s.shr := rfl
@[simp] theorem State.onShr_sip (s : State) (f) : (s.onShr f).sip = s.sip := rfl
@[simp] theorem State.onShr_car (s : State) (f) : (s.onShr f).car = s.car := rfl
@[simp] theorem State.onShr_saf (s : State) (f) : (s.onShr f).saf = s.saf := rfl
@[simp] theorem State.onShr_can (s : State) (f) : (s.onShr f).can = s.can := rfl
@[simp] theorem State.onShr_frz (s : State) (f) : (s.onShr f).frz = s.frz := rfl
@[simp] theorem State.onShr_pending (s : State) (f) : (s.onShr f).pending = s.pending := rfl
@[simp] theorem State.onSip_clk (s : State) (f) : (s.onSip f).clk = s.clk := rfl
@[simp] theorem State.onSip_pwr (s : State) (f) : (s.onSip f).pwr = s.pwr := rfl
@[simp] theorem State.onSip_ld (s : State) (f) : (s.onSip f).ld = s.ld := rfl
@[simp] theorem State.onSip_ks (s : State) (f) : (s.onSip f).ks = s.ks := rfl
@[simp] theorem State.onSip_tbs (s : State) (f) : (s.onSip f).tbs = s.tbs := rfl
@[simp] theorem State.onSip_mode (s : State) (f) : (s.onSip f).mode = s.mode := rfl
@[simp] theorem State.onSip_stg (s : State) (f) : (s.onSip f).stg = s.stg := rfl
@[simp] theorem State.onSip_tick (s : State) (f) : (s.onSip f).tick = s.tick := rfl
@[simp] theorem State.onSip_recs (s : State) (f) : (s.onSip f).recs = s.recs := rfl
@[simp] theorem State.onSip_regs (s : State) (f) : (s.onSip f).regs = s.regs := rfl
@[simp] theorem State.onSip_snt (s : State) (f) : (s.onSip f).snt = s.snt := rfl
@[simp] theorem State.onSip_freeIx (s : State) (f) : (s.onSip f).freeIx = s.freeIx := rfl
@[simp] theorem State.onSip_cp (s : State) (f) : (s.onSip f).cp = s.cp := rfl
@[simp] theorem State.onSip_fab (s : State) (f) : (s.onSip f).fab = s.fab := rfl
@[simp] theorem State.onSip_sns (s : State) (f) : (s.onSip f).sns = s.sns := rfl
@[simp] theorem State.onSip_ax (s : State) (f) : (s.onSip f).ax = s.ax := rfl
@[simp] theorem State.onSip_blk (s : State) (f) : (s.onSip f).blk = s.blk := rfl
@[simp] theorem State.onSip_smpCnt (s : State) (f) : (s.onSip f).smpCnt = s.smpCnt := rfl
@[simp] theorem State.onSip_gd (s : State) (f) : (s.onSip f).gd = s.gd := rfl
@[simp] theorem State.onSip_cmd (s : State) (f) : (s.onSip f).cmd = s.cmd := rfl
@[simp] theorem State.onSip_aux (s : State) (f) : (s.onSip f).aux = s.aux := rfl
@[simp] theorem State.onSip_shr (s : State) (f) : (s.onSip f).shr = s.shr := rfl
@[simp] theorem State.onSip_sip (s : State) (f) : (s.onSip f).sip = f s.sip := rfl
@[simp] theorem State.onSip_car (s : State) (f) : (s.onSip f).car = s.car := rfl
@[simp] theorem State.onSip_saf (s : State) (f) : (s.onSip f).saf = s.saf := rfl
@[simp] theorem State.onSip_can (s : State) (f) : (s.onSip f).can = s.can := rfl
@[simp] theorem State.onSip_frz (s : State) (f) : (s.onSip f).frz = s.frz := rfl
@[simp] theorem State.onSip_pending (s : State) (f) : (s.onSip f).pending = s.pending := rfl
@[simp] theorem State.onCar_clk (s : State) (f) : (s.onCar f).clk = s.clk := rfl
@[simp] theorem State.onCar_pwr (s : State) (f) : (s.onCar f).pwr = s.pwr := rfl
@[simp] theorem State.onCar_ld (s : State) (f) : (s.onCar f).ld = s.ld := rfl
@[simp] theorem State.onCar_ks (s : State) (f) : (s.onCar f).ks = s.ks := rfl
@[simp] theorem State.onCar_tbs (s : State) (f) : (s.onCar f).tbs = s.tbs := rfl
@[simp] theorem State.onCar_mode (s : State) (f) : (s.onCar f).mode = s.mode := rfl
@[simp] theorem State.onCar_stg (s : State) (f) : (s.onCar f).stg = s.stg := rfl
@[simp] theorem State.onCar_tick (s : State) (f) : (s.onCar f).tick = s.tick := rfl
@[simp] theorem State.onCar_recs (s : State) (f) : (s.onCar f).recs = s.recs := rfl
@[simp] theorem State.onCar_regs (s : State) (f) : (s.onCar f).regs = s.regs := rfl
@[simp] theorem State.onCar_snt (s : State) (f) : (s.onCar f).snt = s.snt := rfl
@[simp] theorem State.onCar_freeIx (s : State) (f) : (s.onCar f).freeIx = s.freeIx := rfl
@[simp] theorem State.onCar_cp (s : State) (f) : (s.onCar f).cp = s.cp := rfl
@[simp] theorem State.onCar_fab (s : State) (f) : (s.onCar f).fab = s.fab := rfl
@[simp] theorem State.onCar_sns (s : State) (f) : (s.onCar f).sns = s.sns := rfl
@[simp] theorem State.onCar_ax (s : State) (f) : (s.onCar f).ax = s.ax := rfl
@[simp] theorem State.onCar_blk (s : State) (f) : (s.onCar f).blk = s.blk := rfl
@[simp] theorem State.onCar_smpCnt (s : State) (f) : (s.onCar f).smpCnt = s.smpCnt := rfl
@[simp] theorem State.onCar_gd (s : State) (f) : (s.onCar f).gd = s.gd := rfl
@[simp] theorem State.onCar_cmd (s : State) (f) : (s.onCar f).cmd = s.cmd := rfl
@[simp] theorem State.onCar_aux (s : State) (f) : (s.onCar f).aux = s.aux := rfl
@[simp] theorem State.onCar_shr (s : State) (f) : (s.onCar f).shr = s.shr := rfl
@[simp] theorem State.onCar_sip (s : State) (f) : (s.onCar f).sip = s.sip := rfl
@[simp] theorem State.onCar_car (s : State) (f) : (s.onCar f).car = f s.car := rfl
@[simp] theorem State.onCar_saf (s : State) (f) : (s.onCar f).saf = s.saf := rfl
@[simp] theorem State.onCar_can (s : State) (f) : (s.onCar f).can = s.can := rfl
@[simp] theorem State.onCar_frz (s : State) (f) : (s.onCar f).frz = s.frz := rfl
@[simp] theorem State.onCar_pending (s : State) (f) : (s.onCar f).pending = s.pending := rfl
@[simp] theorem State.onSaf_clk (s : State) (f) : (s.onSaf f).clk = s.clk := rfl
@[simp] theorem State.onSaf_pwr (s : State) (f) : (s.onSaf f).pwr = s.pwr := rfl
@[simp] theorem State.onSaf_ld (s : State) (f) : (s.onSaf f).ld = s.ld := rfl
@[simp] theorem State.onSaf_ks (s : State) (f) : (s.onSaf f).ks = s.ks := rfl
@[simp] theorem State.onSaf_tbs (s : State) (f) : (s.onSaf f).tbs = s.tbs := rfl
@[simp] theorem State.onSaf_mode (s : State) (f) : (s.onSaf f).mode = s.mode := rfl
@[simp] theorem State.onSaf_stg (s : State) (f) : (s.onSaf f).stg = s.stg := rfl
@[simp] theorem State.onSaf_tick (s : State) (f) : (s.onSaf f).tick = s.tick := rfl
@[simp] theorem State.onSaf_recs (s : State) (f) : (s.onSaf f).recs = s.recs := rfl
@[simp] theorem State.onSaf_regs (s : State) (f) : (s.onSaf f).regs = s.regs := rfl
@[simp] theorem State.onSaf_snt (s : State) (f) : (s.onSaf f).snt = s.snt := rfl
@[simp] theorem State.onSaf_freeIx (s : State) (f) : (s.onSaf f).freeIx = s.freeIx := rfl
@[simp] theorem State.onSaf_cp (s : State) (f) : (s.onSaf f).cp = s.cp := rfl
@[simp] theorem State.onSaf_fab (s : State) (f) : (s.onSaf f).fab = s.fab := rfl
@[simp] theorem State.onSaf_sns (s : State) (f) : (s.onSaf f).sns = s.sns := rfl
@[simp] theorem State.onSaf_ax (s : State) (f) : (s.onSaf f).ax = s.ax := rfl
@[simp] theorem State.onSaf_blk (s : State) (f) : (s.onSaf f).blk = s.blk := rfl
@[simp] theorem State.onSaf_smpCnt (s : State) (f) : (s.onSaf f).smpCnt = s.smpCnt := rfl
@[simp] theorem State.onSaf_gd (s : State) (f) : (s.onSaf f).gd = s.gd := rfl
@[simp] theorem State.onSaf_cmd (s : State) (f) : (s.onSaf f).cmd = s.cmd := rfl
@[simp] theorem State.onSaf_aux (s : State) (f) : (s.onSaf f).aux = s.aux := rfl
@[simp] theorem State.onSaf_shr (s : State) (f) : (s.onSaf f).shr = s.shr := rfl
@[simp] theorem State.onSaf_sip (s : State) (f) : (s.onSaf f).sip = s.sip := rfl
@[simp] theorem State.onSaf_car (s : State) (f) : (s.onSaf f).car = s.car := rfl
@[simp] theorem State.onSaf_saf (s : State) (f) : (s.onSaf f).saf = f s.saf := rfl
@[simp] theorem State.onSaf_can (s : State) (f) : (s.onSaf f).can = s.can := rfl
@[simp] theorem State.onSaf_frz (s : State) (f) : (s.onSaf f).frz = s.frz := rfl
@[simp] theorem State.onSaf_pending (s : State) (f) : (s.onSaf f).pending = s.pending := rfl
@[simp] theorem State.onCan_clk (s : State) (f) : (s.onCan f).clk = s.clk := rfl
@[simp] theorem State.onCan_pwr (s : State) (f) : (s.onCan f).pwr = s.pwr := rfl
@[simp] theorem State.onCan_ld (s : State) (f) : (s.onCan f).ld = s.ld := rfl
@[simp] theorem State.onCan_ks (s : State) (f) : (s.onCan f).ks = s.ks := rfl
@[simp] theorem State.onCan_tbs (s : State) (f) : (s.onCan f).tbs = s.tbs := rfl
@[simp] theorem State.onCan_mode (s : State) (f) : (s.onCan f).mode = s.mode := rfl
@[simp] theorem State.onCan_stg (s : State) (f) : (s.onCan f).stg = s.stg := rfl
@[simp] theorem State.onCan_tick (s : State) (f) : (s.onCan f).tick = s.tick := rfl
@[simp] theorem State.onCan_recs (s : State) (f) : (s.onCan f).recs = s.recs := rfl
@[simp] theorem State.onCan_regs (s : State) (f) : (s.onCan f).regs = s.regs := rfl
@[simp] theorem State.onCan_snt (s : State) (f) : (s.onCan f).snt = s.snt := rfl
@[simp] theorem State.onCan_freeIx (s : State) (f) : (s.onCan f).freeIx = s.freeIx := rfl
@[simp] theorem State.onCan_cp (s : State) (f) : (s.onCan f).cp = s.cp := rfl
@[simp] theorem State.onCan_fab (s : State) (f) : (s.onCan f).fab = s.fab := rfl
@[simp] theorem State.onCan_sns (s : State) (f) : (s.onCan f).sns = s.sns := rfl
@[simp] theorem State.onCan_ax (s : State) (f) : (s.onCan f).ax = s.ax := rfl
@[simp] theorem State.onCan_blk (s : State) (f) : (s.onCan f).blk = s.blk := rfl
@[simp] theorem State.onCan_smpCnt (s : State) (f) : (s.onCan f).smpCnt = s.smpCnt := rfl
@[simp] theorem State.onCan_gd (s : State) (f) : (s.onCan f).gd = s.gd := rfl
@[simp] theorem State.onCan_cmd (s : State) (f) : (s.onCan f).cmd = s.cmd := rfl
@[simp] theorem State.onCan_aux (s : State) (f) : (s.onCan f).aux = s.aux := rfl
@[simp] theorem State.onCan_shr (s : State) (f) : (s.onCan f).shr = s.shr := rfl
@[simp] theorem State.onCan_sip (s : State) (f) : (s.onCan f).sip = s.sip := rfl
@[simp] theorem State.onCan_car (s : State) (f) : (s.onCan f).car = s.car := rfl
@[simp] theorem State.onCan_saf (s : State) (f) : (s.onCan f).saf = s.saf := rfl
@[simp] theorem State.onCan_can (s : State) (f) : (s.onCan f).can = f s.can := rfl
@[simp] theorem State.onCan_frz (s : State) (f) : (s.onCan f).frz = s.frz := rfl
@[simp] theorem State.onCan_pending (s : State) (f) : (s.onCan f).pending = s.pending := rfl
@[simp] theorem State.onFrz_clk (s : State) (f) : (s.onFrz f).clk = s.clk := rfl
@[simp] theorem State.onFrz_pwr (s : State) (f) : (s.onFrz f).pwr = s.pwr := rfl
@[simp] theorem State.onFrz_ld (s : State) (f) : (s.onFrz f).ld = s.ld := rfl
@[simp] theorem State.onFrz_ks (s : State) (f) : (s.onFrz f).ks = s.ks := rfl
@[simp] theorem State.onFrz_tbs (s : State) (f) : (s.onFrz f).tbs = s.tbs := rfl
@[simp] theorem State.onFrz_mode (s : State) (f) : (s.onFrz f).mode = s.mode := rfl
@[simp] theorem State.onFrz_stg (s : State) (f) : (s.onFrz f).stg = s.stg := rfl
@[simp] theorem State.onFrz_tick (s : State) (f) : (s.onFrz f).tick = s.tick := rfl
@[simp] theorem State.onFrz_recs (s : State) (f) : (s.onFrz f).recs = s.recs := rfl
@[simp] theorem State.onFrz_regs (s : State) (f) : (s.onFrz f).regs = s.regs := rfl
@[simp] theorem State.onFrz_snt (s : State) (f) : (s.onFrz f).snt = s.snt := rfl
@[simp] theorem State.onFrz_freeIx (s : State) (f) : (s.onFrz f).freeIx = s.freeIx := rfl
@[simp] theorem State.onFrz_cp (s : State) (f) : (s.onFrz f).cp = s.cp := rfl
@[simp] theorem State.onFrz_fab (s : State) (f) : (s.onFrz f).fab = s.fab := rfl
@[simp] theorem State.onFrz_sns (s : State) (f) : (s.onFrz f).sns = s.sns := rfl
@[simp] theorem State.onFrz_ax (s : State) (f) : (s.onFrz f).ax = s.ax := rfl
@[simp] theorem State.onFrz_blk (s : State) (f) : (s.onFrz f).blk = s.blk := rfl
@[simp] theorem State.onFrz_smpCnt (s : State) (f) : (s.onFrz f).smpCnt = s.smpCnt := rfl
@[simp] theorem State.onFrz_gd (s : State) (f) : (s.onFrz f).gd = s.gd := rfl
@[simp] theorem State.onFrz_cmd (s : State) (f) : (s.onFrz f).cmd = s.cmd := rfl
@[simp] theorem State.onFrz_aux (s : State) (f) : (s.onFrz f).aux = s.aux := rfl
@[simp] theorem State.onFrz_shr (s : State) (f) : (s.onFrz f).shr = s.shr := rfl
@[simp] theorem State.onFrz_sip (s : State) (f) : (s.onFrz f).sip = s.sip := rfl
@[simp] theorem State.onFrz_car (s : State) (f) : (s.onFrz f).car = s.car := rfl
@[simp] theorem State.onFrz_saf (s : State) (f) : (s.onFrz f).saf = s.saf := rfl
@[simp] theorem State.onFrz_can (s : State) (f) : (s.onFrz f).can = s.can := rfl
@[simp] theorem State.onFrz_frz (s : State) (f) : (s.onFrz f).frz = f s.frz := rfl
@[simp] theorem State.onFrz_pending (s : State) (f) : (s.onFrz f).pending = s.pending := rfl
@[simp] theorem State.onPending_clk (s : State) (f) : (s.onPending f).clk = s.clk := rfl
@[simp] theorem State.onPending_pwr (s : State) (f) : (s.onPending f).pwr = s.pwr := rfl
@[simp] theorem State.onPending_ld (s : State) (f) : (s.onPending f).ld = s.ld := rfl
@[simp] theorem State.onPending_ks (s : State) (f) : (s.onPending f).ks = s.ks := rfl
@[simp] theorem State.onPending_tbs (s : State) (f) : (s.onPending f).tbs = s.tbs := rfl
@[simp] theorem State.onPending_mode (s : State) (f) : (s.onPending f).mode = s.mode := rfl
@[simp] theorem State.onPending_stg (s : State) (f) : (s.onPending f).stg = s.stg := rfl
@[simp] theorem State.onPending_tick (s : State) (f) : (s.onPending f).tick = s.tick := rfl
@[simp] theorem State.onPending_recs (s : State) (f) : (s.onPending f).recs = s.recs := rfl
@[simp] theorem State.onPending_regs (s : State) (f) : (s.onPending f).regs = s.regs := rfl
@[simp] theorem State.onPending_snt (s : State) (f) : (s.onPending f).snt = s.snt := rfl
@[simp] theorem State.onPending_freeIx (s : State) (f) : (s.onPending f).freeIx = s.freeIx := rfl
@[simp] theorem State.onPending_cp (s : State) (f) : (s.onPending f).cp = s.cp := rfl
@[simp] theorem State.onPending_fab (s : State) (f) : (s.onPending f).fab = s.fab := rfl
@[simp] theorem State.onPending_sns (s : State) (f) : (s.onPending f).sns = s.sns := rfl
@[simp] theorem State.onPending_ax (s : State) (f) : (s.onPending f).ax = s.ax := rfl
@[simp] theorem State.onPending_blk (s : State) (f) : (s.onPending f).blk = s.blk := rfl
@[simp] theorem State.onPending_smpCnt (s : State) (f) : (s.onPending f).smpCnt = s.smpCnt := rfl
@[simp] theorem State.onPending_gd (s : State) (f) : (s.onPending f).gd = s.gd := rfl
@[simp] theorem State.onPending_cmd (s : State) (f) : (s.onPending f).cmd = s.cmd := rfl
@[simp] theorem State.onPending_aux (s : State) (f) : (s.onPending f).aux = s.aux := rfl
@[simp] theorem State.onPending_shr (s : State) (f) : (s.onPending f).shr = s.shr := rfl
@[simp] theorem State.onPending_sip (s : State) (f) : (s.onPending f).sip = s.sip := rfl
@[simp] theorem State.onPending_car (s : State) (f) : (s.onPending f).car = s.car := rfl
@[simp] theorem State.onPending_saf (s : State) (f) : (s.onPending f).saf = s.saf := rfl
@[simp] theorem State.onPending_can (s : State) (f) : (s.onPending f).can = s.can := rfl
@[simp] theorem State.onPending_frz (s : State) (f) : (s.onPending f).frz = s.frz := rfl
@[simp] theorem State.onPending_pending (s : State) (f) : (s.onPending f).pending = f s.pending := rfl

end Sys2Proof.Machine
end

