-- ==== Sys2Proof/Laws/Shared.lean ====
section
/-! SUPPORT. The shared operations: what time, the order of causes and the emission of a record leave alone, and what they do. -/
namespace Sys2Proof.Machine

@[simp] theorem State.advance_pwr (s : State) (dt : Nat) : (s.advance dt).pwr = s.pwr := rfl
@[simp] theorem State.advance_ld (s : State) (dt : Nat) : (s.advance dt).ld = s.ld := rfl
@[simp] theorem State.advance_ks (s : State) (dt : Nat) : (s.advance dt).ks = s.ks := rfl
@[simp] theorem State.advance_tbs (s : State) (dt : Nat) : (s.advance dt).tbs = s.tbs := rfl
@[simp] theorem State.advance_mode (s : State) (dt : Nat) : (s.advance dt).mode = s.mode := rfl
@[simp] theorem State.advance_stg (s : State) (dt : Nat) : (s.advance dt).stg = s.stg := rfl
@[simp] theorem State.advance_tick (s : State) (dt : Nat) : (s.advance dt).tick = s.tick := rfl
@[simp] theorem State.advance_recs (s : State) (dt : Nat) : (s.advance dt).recs = s.recs := rfl
@[simp] theorem State.advance_regs (s : State) (dt : Nat) : (s.advance dt).regs = s.regs := rfl
@[simp] theorem State.advance_snt (s : State) (dt : Nat) : (s.advance dt).snt = s.snt := rfl
@[simp] theorem State.advance_freeIx (s : State) (dt : Nat) : (s.advance dt).freeIx = s.freeIx := rfl
@[simp] theorem State.advance_cp (s : State) (dt : Nat) : (s.advance dt).cp = s.cp := rfl
@[simp] theorem State.advance_fab (s : State) (dt : Nat) : (s.advance dt).fab = s.fab := rfl
@[simp] theorem State.advance_sns (s : State) (dt : Nat) : (s.advance dt).sns = s.sns := rfl
@[simp] theorem State.advance_ax (s : State) (dt : Nat) : (s.advance dt).ax = s.ax := rfl
@[simp] theorem State.advance_blk (s : State) (dt : Nat) : (s.advance dt).blk = s.blk := rfl
@[simp] theorem State.advance_smpCnt (s : State) (dt : Nat) : (s.advance dt).smpCnt = s.smpCnt := rfl
@[simp] theorem State.advance_gd (s : State) (dt : Nat) : (s.advance dt).gd = s.gd := rfl
@[simp] theorem State.advance_cmd (s : State) (dt : Nat) : (s.advance dt).cmd = s.cmd := rfl
@[simp] theorem State.advance_aux (s : State) (dt : Nat) : (s.advance dt).aux = s.aux := rfl
@[simp] theorem State.advance_shr (s : State) (dt : Nat) : (s.advance dt).shr = s.shr := rfl
@[simp] theorem State.advance_sip (s : State) (dt : Nat) : (s.advance dt).sip = s.sip := rfl
@[simp] theorem State.advance_car (s : State) (dt : Nat) : (s.advance dt).car = s.car := rfl
@[simp] theorem State.advance_saf (s : State) (dt : Nat) : (s.advance dt).saf = s.saf := rfl
@[simp] theorem State.advance_can (s : State) (dt : Nat) : (s.advance dt).can = s.can := rfl
@[simp] theorem State.advance_frz (s : State) (dt : Nat) : (s.advance dt).frz = s.frz := rfl
@[simp] theorem State.advance_pending (s : State) (dt : Nat) : (s.advance dt).pending = s.pending := rfl
@[simp] theorem State.settle_clk (s : State) : s.settle.clk = s.clk := rfl
@[simp] theorem State.settle_pwr (s : State) : s.settle.pwr = s.pwr := rfl
@[simp] theorem State.settle_ld (s : State) : s.settle.ld = s.ld := rfl
@[simp] theorem State.settle_ks (s : State) : s.settle.ks = s.ks := rfl
@[simp] theorem State.settle_tbs (s : State) : s.settle.tbs = s.tbs := rfl
@[simp] theorem State.settle_stg (s : State) : s.settle.stg = s.stg := rfl
@[simp] theorem State.settle_tick (s : State) : s.settle.tick = s.tick := rfl
@[simp] theorem State.settle_recs (s : State) : s.settle.recs = s.recs := rfl
@[simp] theorem State.settle_regs (s : State) : s.settle.regs = s.regs := rfl
@[simp] theorem State.settle_snt (s : State) : s.settle.snt = s.snt := rfl
@[simp] theorem State.settle_freeIx (s : State) : s.settle.freeIx = s.freeIx := rfl
@[simp] theorem State.settle_cp (s : State) : s.settle.cp = s.cp := rfl
@[simp] theorem State.settle_fab (s : State) : s.settle.fab = s.fab := rfl
@[simp] theorem State.settle_sns (s : State) : s.settle.sns = s.sns := rfl
@[simp] theorem State.settle_ax (s : State) : s.settle.ax = s.ax := rfl
@[simp] theorem State.settle_blk (s : State) : s.settle.blk = s.blk := rfl
@[simp] theorem State.settle_smpCnt (s : State) : s.settle.smpCnt = s.smpCnt := rfl
@[simp] theorem State.settle_gd (s : State) : s.settle.gd = s.gd := rfl
@[simp] theorem State.settle_cmd (s : State) : s.settle.cmd = s.cmd := rfl
@[simp] theorem State.settle_aux (s : State) : s.settle.aux = s.aux := rfl
@[simp] theorem State.settle_shr (s : State) : s.settle.shr = s.shr := rfl
@[simp] theorem State.settle_sip (s : State) : s.settle.sip = s.sip := rfl
@[simp] theorem State.settle_car (s : State) : s.settle.car = s.car := rfl
@[simp] theorem State.settle_saf (s : State) : s.settle.saf = s.saf := rfl
@[simp] theorem State.settle_can (s : State) : s.settle.can = s.can := rfl
@[simp] theorem State.settle_frz (s : State) : s.settle.frz = s.frz := rfl
@[simp] theorem State.settle_pending (s : State) : s.settle.pending = s.pending := rfl
@[simp] theorem State.but_clk (s t : State) : (t.but s).clk = t.clk := rfl
@[simp] theorem State.but_pwr (s t : State) : (t.but s).pwr = t.pwr := rfl
@[simp] theorem State.but_ld (s t : State) : (t.but s).ld = t.ld := rfl
@[simp] theorem State.but_ks (s t : State) : (t.but s).ks = t.ks := rfl
@[simp] theorem State.but_tbs (s t : State) : (t.but s).tbs = t.tbs := rfl
@[simp] theorem State.but_stg (s t : State) : (t.but s).stg = t.stg := rfl
@[simp] theorem State.but_tick (s t : State) : (t.but s).tick = t.tick := rfl
@[simp] theorem State.but_recs (s t : State) : (t.but s).recs = t.recs := rfl
@[simp] theorem State.but_regs (s t : State) : (t.but s).regs = t.regs := rfl
@[simp] theorem State.but_snt (s t : State) : (t.but s).snt = t.snt := rfl
@[simp] theorem State.but_freeIx (s t : State) : (t.but s).freeIx = t.freeIx := rfl
@[simp] theorem State.but_cp (s t : State) : (t.but s).cp = t.cp := rfl
@[simp] theorem State.but_fab (s t : State) : (t.but s).fab = t.fab := rfl
@[simp] theorem State.but_sns (s t : State) : (t.but s).sns = t.sns := rfl
@[simp] theorem State.but_ax (s t : State) : (t.but s).ax = t.ax := rfl
@[simp] theorem State.but_blk (s t : State) : (t.but s).blk = t.blk := rfl
@[simp] theorem State.but_smpCnt (s t : State) : (t.but s).smpCnt = t.smpCnt := rfl
@[simp] theorem State.but_gd (s t : State) : (t.but s).gd = t.gd := rfl
@[simp] theorem State.but_cmd (s t : State) : (t.but s).cmd = t.cmd := rfl
@[simp] theorem State.but_aux (s t : State) : (t.but s).aux = t.aux := rfl
@[simp] theorem State.but_shr (s t : State) : (t.but s).shr = t.shr := rfl
@[simp] theorem State.but_sip (s t : State) : (t.but s).sip = t.sip := rfl
@[simp] theorem State.but_car (s t : State) : (t.but s).car = t.car := rfl
@[simp] theorem State.but_saf (s t : State) : (t.but s).saf = t.saf := rfl
@[simp] theorem State.but_can (s t : State) : (t.but s).can = t.can := rfl
@[simp] theorem State.but_frz (s t : State) : (t.but s).frz = t.frz := rfl
@[simp] theorem State.but_pending (s t : State) : (t.but s).pending = t.pending := rfl
@[simp] theorem State.but_mode (s t : State) :
    (t.but s).mode = { t.mode with degrSeen := s.mode.degrSeen, stopSeen := s.mode.stopSeen } := rfl
@[simp] theorem State.advance_tb (s : State) (dt : Nat) : (s.advance dt).tb = s.tbAt dt := rfl
@[simp] theorem State.advance_clk_tb (s : State) (dt : Nat) : (s.advance dt).clk.tb = s.tbAt dt := rfl
@[simp] theorem State.advance_now (s : State) (dt : Nat) : (s.advance dt).now = s.now + 2 * dt := rfl

/-- Every command of the block takes effect. -/
@[simp] theorem done_eq (s : State) : done s = .next s.settle := rfl

@[simp] theorem State.settle_but (s t : State) : s.settle.but t = s.but t := rfl

/-- With no time between two commands the clock stands; while TB_NOW counts it advances by 2 on every tick (R65). -/
theorem State.tbAt_counting (s : State) (dt : Nat) (h : s.clk.counting = true) : s.tbAt dt = s.tb + 2 * dt := by
  simp [State.tbAt, State.advance, State.onClk, State.tb, h]

/-- The emission of a record changes `recs` alone. -/
theorem State.emitNow_eq (s : State) (a b c d : Nat) (p : List Byte) :
    s.emitNow a b c d p = { s with recs := (s.emitNow a b c d p).recs } := by
  unfold State.emitNow; split <;> rfl

theorem State.emit_eq (s : State) (a b c d : Nat) (p : List Byte) :
    s.emit a b c d p = { s with recs := (s.emit a b c d p).recs } := by
  unfold State.emit; split
  · exact State.emitNow_eq _ _ _ _ _ _
  all_goals rfl

@[simp] theorem State.emitNow_clk (s : State) (a b c d : Nat) (p : List Byte) : (s.emitNow a b c d p).clk = s.clk := by
  rw [State.emitNow_eq]
@[simp] theorem State.emit_clk (s : State) (a b c d : Nat) (p : List Byte) : (s.emit a b c d p).clk = s.clk := by
  rw [State.emit_eq]
@[simp] theorem State.emitNow_pwr (s : State) (a b c d : Nat) (p : List Byte) : (s.emitNow a b c d p).pwr = s.pwr := by
  rw [State.emitNow_eq]
@[simp] theorem State.emit_pwr (s : State) (a b c d : Nat) (p : List Byte) : (s.emit a b c d p).pwr = s.pwr := by
  rw [State.emit_eq]
@[simp] theorem State.emitNow_ld (s : State) (a b c d : Nat) (p : List Byte) : (s.emitNow a b c d p).ld = s.ld := by
  rw [State.emitNow_eq]
@[simp] theorem State.emit_ld (s : State) (a b c d : Nat) (p : List Byte) : (s.emit a b c d p).ld = s.ld := by
  rw [State.emit_eq]
@[simp] theorem State.emitNow_ks (s : State) (a b c d : Nat) (p : List Byte) : (s.emitNow a b c d p).ks = s.ks := by
  rw [State.emitNow_eq]
@[simp] theorem State.emit_ks (s : State) (a b c d : Nat) (p : List Byte) : (s.emit a b c d p).ks = s.ks := by
  rw [State.emit_eq]
@[simp] theorem State.emitNow_tbs (s : State) (a b c d : Nat) (p : List Byte) : (s.emitNow a b c d p).tbs = s.tbs := by
  rw [State.emitNow_eq]
@[simp] theorem State.emit_tbs (s : State) (a b c d : Nat) (p : List Byte) : (s.emit a b c d p).tbs = s.tbs := by
  rw [State.emit_eq]
@[simp] theorem State.emitNow_mode (s : State) (a b c d : Nat) (p : List Byte) : (s.emitNow a b c d p).mode = s.mode := by
  rw [State.emitNow_eq]
@[simp] theorem State.emit_mode (s : State) (a b c d : Nat) (p : List Byte) : (s.emit a b c d p).mode = s.mode := by
  rw [State.emit_eq]
@[simp] theorem State.emitNow_stg (s : State) (a b c d : Nat) (p : List Byte) : (s.emitNow a b c d p).stg = s.stg := by
  rw [State.emitNow_eq]
@[simp] theorem State.emit_stg (s : State) (a b c d : Nat) (p : List Byte) : (s.emit a b c d p).stg = s.stg := by
  rw [State.emit_eq]
@[simp] theorem State.emitNow_tick (s : State) (a b c d : Nat) (p : List Byte) : (s.emitNow a b c d p).tick = s.tick := by
  rw [State.emitNow_eq]
@[simp] theorem State.emit_tick (s : State) (a b c d : Nat) (p : List Byte) : (s.emit a b c d p).tick = s.tick := by
  rw [State.emit_eq]
@[simp] theorem State.emitNow_regs (s : State) (a b c d : Nat) (p : List Byte) : (s.emitNow a b c d p).regs = s.regs := by
  rw [State.emitNow_eq]
@[simp] theorem State.emit_regs (s : State) (a b c d : Nat) (p : List Byte) : (s.emit a b c d p).regs = s.regs := by
  rw [State.emit_eq]
@[simp] theorem State.emitNow_snt (s : State) (a b c d : Nat) (p : List Byte) : (s.emitNow a b c d p).snt = s.snt := by
  rw [State.emitNow_eq]
@[simp] theorem State.emit_snt (s : State) (a b c d : Nat) (p : List Byte) : (s.emit a b c d p).snt = s.snt := by
  rw [State.emit_eq]
@[simp] theorem State.emitNow_freeIx (s : State) (a b c d : Nat) (p : List Byte) : (s.emitNow a b c d p).freeIx = s.freeIx := by
  rw [State.emitNow_eq]
@[simp] theorem State.emit_freeIx (s : State) (a b c d : Nat) (p : List Byte) : (s.emit a b c d p).freeIx = s.freeIx := by
  rw [State.emit_eq]
@[simp] theorem State.emitNow_cp (s : State) (a b c d : Nat) (p : List Byte) : (s.emitNow a b c d p).cp = s.cp := by
  rw [State.emitNow_eq]
@[simp] theorem State.emit_cp (s : State) (a b c d : Nat) (p : List Byte) : (s.emit a b c d p).cp = s.cp := by
  rw [State.emit_eq]
@[simp] theorem State.emitNow_fab (s : State) (a b c d : Nat) (p : List Byte) : (s.emitNow a b c d p).fab = s.fab := by
  rw [State.emitNow_eq]
@[simp] theorem State.emit_fab (s : State) (a b c d : Nat) (p : List Byte) : (s.emit a b c d p).fab = s.fab := by
  rw [State.emit_eq]
@[simp] theorem State.emitNow_sns (s : State) (a b c d : Nat) (p : List Byte) : (s.emitNow a b c d p).sns = s.sns := by
  rw [State.emitNow_eq]
@[simp] theorem State.emit_sns (s : State) (a b c d : Nat) (p : List Byte) : (s.emit a b c d p).sns = s.sns := by
  rw [State.emit_eq]
@[simp] theorem State.emitNow_ax (s : State) (a b c d : Nat) (p : List Byte) : (s.emitNow a b c d p).ax = s.ax := by
  rw [State.emitNow_eq]
@[simp] theorem State.emit_ax (s : State) (a b c d : Nat) (p : List Byte) : (s.emit a b c d p).ax = s.ax := by
  rw [State.emit_eq]
@[simp] theorem State.emitNow_blk (s : State) (a b c d : Nat) (p : List Byte) : (s.emitNow a b c d p).blk = s.blk := by
  rw [State.emitNow_eq]
@[simp] theorem State.emit_blk (s : State) (a b c d : Nat) (p : List Byte) : (s.emit a b c d p).blk = s.blk := by
  rw [State.emit_eq]
@[simp] theorem State.emitNow_smpCnt (s : State) (a b c d : Nat) (p : List Byte) : (s.emitNow a b c d p).smpCnt = s.smpCnt := by
  rw [State.emitNow_eq]
@[simp] theorem State.emit_smpCnt (s : State) (a b c d : Nat) (p : List Byte) : (s.emit a b c d p).smpCnt = s.smpCnt := by
  rw [State.emit_eq]
@[simp] theorem State.emitNow_gd (s : State) (a b c d : Nat) (p : List Byte) : (s.emitNow a b c d p).gd = s.gd := by
  rw [State.emitNow_eq]
@[simp] theorem State.emit_gd (s : State) (a b c d : Nat) (p : List Byte) : (s.emit a b c d p).gd = s.gd := by
  rw [State.emit_eq]
@[simp] theorem State.emitNow_cmd (s : State) (a b c d : Nat) (p : List Byte) : (s.emitNow a b c d p).cmd = s.cmd := by
  rw [State.emitNow_eq]
@[simp] theorem State.emit_cmd (s : State) (a b c d : Nat) (p : List Byte) : (s.emit a b c d p).cmd = s.cmd := by
  rw [State.emit_eq]
@[simp] theorem State.emitNow_aux (s : State) (a b c d : Nat) (p : List Byte) : (s.emitNow a b c d p).aux = s.aux := by
  rw [State.emitNow_eq]
@[simp] theorem State.emit_aux (s : State) (a b c d : Nat) (p : List Byte) : (s.emit a b c d p).aux = s.aux := by
  rw [State.emit_eq]
@[simp] theorem State.emitNow_shr (s : State) (a b c d : Nat) (p : List Byte) : (s.emitNow a b c d p).shr = s.shr := by
  rw [State.emitNow_eq]
@[simp] theorem State.emit_shr (s : State) (a b c d : Nat) (p : List Byte) : (s.emit a b c d p).shr = s.shr := by
  rw [State.emit_eq]
@[simp] theorem State.emitNow_sip (s : State) (a b c d : Nat) (p : List Byte) : (s.emitNow a b c d p).sip = s.sip := by
  rw [State.emitNow_eq]
@[simp] theorem State.emit_sip (s : State) (a b c d : Nat) (p : List Byte) : (s.emit a b c d p).sip = s.sip := by
  rw [State.emit_eq]
@[simp] theorem State.emitNow_car (s : State) (a b c d : Nat) (p : List Byte) : (s.emitNow a b c d p).car = s.car := by
  rw [State.emitNow_eq]
@[simp] theorem State.emit_car (s : State) (a b c d : Nat) (p : List Byte) : (s.emit a b c d p).car = s.car := by
  rw [State.emit_eq]
@[simp] theorem State.emitNow_saf (s : State) (a b c d : Nat) (p : List Byte) : (s.emitNow a b c d p).saf = s.saf := by
  rw [State.emitNow_eq]
@[simp] theorem State.emit_saf (s : State) (a b c d : Nat) (p : List Byte) : (s.emit a b c d p).saf = s.saf := by
  rw [State.emit_eq]
@[simp] theorem State.emitNow_can (s : State) (a b c d : Nat) (p : List Byte) : (s.emitNow a b c d p).can = s.can := by
  rw [State.emitNow_eq]
@[simp] theorem State.emit_can (s : State) (a b c d : Nat) (p : List Byte) : (s.emit a b c d p).can = s.can := by
  rw [State.emit_eq]
@[simp] theorem State.emitNow_frz (s : State) (a b c d : Nat) (p : List Byte) : (s.emitNow a b c d p).frz = s.frz := by
  rw [State.emitNow_eq]
@[simp] theorem State.emit_frz (s : State) (a b c d : Nat) (p : List Byte) : (s.emit a b c d p).frz = s.frz := by
  rw [State.emit_eq]
@[simp] theorem State.emitNow_pending (s : State) (a b c d : Nat) (p : List Byte) : (s.emitNow a b c d p).pending = s.pending := by
  rw [State.emitNow_eq]
@[simp] theorem State.emit_pending (s : State) (a b c d : Nat) (p : List Byte) : (s.emit a b c d p).pending = s.pending := by
  rw [State.emit_eq]
@[simp] theorem State.event_clk (s : State) (a b c d e g : Nat) : (s.event a b c d e g).clk = s.clk := State.emit_clk ..
@[simp] theorem State.timeRec_clk (s : State) (a b c d e : Nat) : (s.timeRec a b c d e).clk = s.clk := State.emit_clk ..
@[simp] theorem State.event_pwr (s : State) (a b c d e g : Nat) : (s.event a b c d e g).pwr = s.pwr := State.emit_pwr ..
@[simp] theorem State.timeRec_pwr (s : State) (a b c d e : Nat) : (s.timeRec a b c d e).pwr = s.pwr := State.emit_pwr ..
@[simp] theorem State.event_ld (s : State) (a b c d e g : Nat) : (s.event a b c d e g).ld = s.ld := State.emit_ld ..
@[simp] theorem State.timeRec_ld (s : State) (a b c d e : Nat) : (s.timeRec a b c d e).ld = s.ld := State.emit_ld ..
@[simp] theorem State.event_ks (s : State) (a b c d e g : Nat) : (s.event a b c d e g).ks = s.ks := State.emit_ks ..
@[simp] theorem State.timeRec_ks (s : State) (a b c d e : Nat) : (s.timeRec a b c d e).ks = s.ks := State.emit_ks ..
@[simp] theorem State.event_tbs (s : State) (a b c d e g : Nat) : (s.event a b c d e g).tbs = s.tbs := State.emit_tbs ..
@[simp] theorem State.timeRec_tbs (s : State) (a b c d e : Nat) : (s.timeRec a b c d e).tbs = s.tbs := State.emit_tbs ..
@[simp] theorem State.event_mode (s : State) (a b c d e g : Nat) : (s.event a b c d e g).mode = s.mode := State.emit_mode ..
@[simp] theorem State.timeRec_mode (s : State) (a b c d e : Nat) : (s.timeRec a b c d e).mode = s.mode := State.emit_mode ..
@[simp] theorem State.event_stg (s : State) (a b c d e g : Nat) : (s.event a b c d e g).stg = s.stg := State.emit_stg ..
@[simp] theorem State.timeRec_stg (s : State) (a b c d e : Nat) : (s.timeRec a b c d e).stg = s.stg := State.emit_stg ..
@[simp] theorem State.event_tick (s : State) (a b c d e g : Nat) : (s.event a b c d e g).tick = s.tick := State.emit_tick ..
@[simp] theorem State.timeRec_tick (s : State) (a b c d e : Nat) : (s.timeRec a b c d e).tick = s.tick := State.emit_tick ..
@[simp] theorem State.event_regs (s : State) (a b c d e g : Nat) : (s.event a b c d e g).regs = s.regs := State.emit_regs ..
@[simp] theorem State.timeRec_regs (s : State) (a b c d e : Nat) : (s.timeRec a b c d e).regs = s.regs := State.emit_regs ..
@[simp] theorem State.event_snt (s : State) (a b c d e g : Nat) : (s.event a b c d e g).snt = s.snt := State.emit_snt ..
@[simp] theorem State.timeRec_snt (s : State) (a b c d e : Nat) : (s.timeRec a b c d e).snt = s.snt := State.emit_snt ..
@[simp] theorem State.event_freeIx (s : State) (a b c d e g : Nat) : (s.event a b c d e g).freeIx = s.freeIx := State.emit_freeIx ..
@[simp] theorem State.timeRec_freeIx (s : State) (a b c d e : Nat) : (s.timeRec a b c d e).freeIx = s.freeIx := State.emit_freeIx ..
@[simp] theorem State.event_cp (s : State) (a b c d e g : Nat) : (s.event a b c d e g).cp = s.cp := State.emit_cp ..
@[simp] theorem State.timeRec_cp (s : State) (a b c d e : Nat) : (s.timeRec a b c d e).cp = s.cp := State.emit_cp ..
@[simp] theorem State.event_fab (s : State) (a b c d e g : Nat) : (s.event a b c d e g).fab = s.fab := State.emit_fab ..
@[simp] theorem State.timeRec_fab (s : State) (a b c d e : Nat) : (s.timeRec a b c d e).fab = s.fab := State.emit_fab ..
@[simp] theorem State.event_sns (s : State) (a b c d e g : Nat) : (s.event a b c d e g).sns = s.sns := State.emit_sns ..
@[simp] theorem State.timeRec_sns (s : State) (a b c d e : Nat) : (s.timeRec a b c d e).sns = s.sns := State.emit_sns ..
@[simp] theorem State.event_ax (s : State) (a b c d e g : Nat) : (s.event a b c d e g).ax = s.ax := State.emit_ax ..
@[simp] theorem State.timeRec_ax (s : State) (a b c d e : Nat) : (s.timeRec a b c d e).ax = s.ax := State.emit_ax ..
@[simp] theorem State.event_blk (s : State) (a b c d e g : Nat) : (s.event a b c d e g).blk = s.blk := State.emit_blk ..
@[simp] theorem State.timeRec_blk (s : State) (a b c d e : Nat) : (s.timeRec a b c d e).blk = s.blk := State.emit_blk ..
@[simp] theorem State.event_smpCnt (s : State) (a b c d e g : Nat) : (s.event a b c d e g).smpCnt = s.smpCnt := State.emit_smpCnt ..
@[simp] theorem State.timeRec_smpCnt (s : State) (a b c d e : Nat) : (s.timeRec a b c d e).smpCnt = s.smpCnt := State.emit_smpCnt ..
@[simp] theorem State.event_gd (s : State) (a b c d e g : Nat) : (s.event a b c d e g).gd = s.gd := State.emit_gd ..
@[simp] theorem State.timeRec_gd (s : State) (a b c d e : Nat) : (s.timeRec a b c d e).gd = s.gd := State.emit_gd ..
@[simp] theorem State.event_cmd (s : State) (a b c d e g : Nat) : (s.event a b c d e g).cmd = s.cmd := State.emit_cmd ..
@[simp] theorem State.timeRec_cmd (s : State) (a b c d e : Nat) : (s.timeRec a b c d e).cmd = s.cmd := State.emit_cmd ..
@[simp] theorem State.event_aux (s : State) (a b c d e g : Nat) : (s.event a b c d e g).aux = s.aux := State.emit_aux ..
@[simp] theorem State.timeRec_aux (s : State) (a b c d e : Nat) : (s.timeRec a b c d e).aux = s.aux := State.emit_aux ..
@[simp] theorem State.event_shr (s : State) (a b c d e g : Nat) : (s.event a b c d e g).shr = s.shr := State.emit_shr ..
@[simp] theorem State.timeRec_shr (s : State) (a b c d e : Nat) : (s.timeRec a b c d e).shr = s.shr := State.emit_shr ..
@[simp] theorem State.event_sip (s : State) (a b c d e g : Nat) : (s.event a b c d e g).sip = s.sip := State.emit_sip ..
@[simp] theorem State.timeRec_sip (s : State) (a b c d e : Nat) : (s.timeRec a b c d e).sip = s.sip := State.emit_sip ..
@[simp] theorem State.event_car (s : State) (a b c d e g : Nat) : (s.event a b c d e g).car = s.car := State.emit_car ..
@[simp] theorem State.timeRec_car (s : State) (a b c d e : Nat) : (s.timeRec a b c d e).car = s.car := State.emit_car ..
@[simp] theorem State.event_saf (s : State) (a b c d e g : Nat) : (s.event a b c d e g).saf = s.saf := State.emit_saf ..
@[simp] theorem State.timeRec_saf (s : State) (a b c d e : Nat) : (s.timeRec a b c d e).saf = s.saf := State.emit_saf ..
@[simp] theorem State.event_can (s : State) (a b c d e g : Nat) : (s.event a b c d e g).can = s.can := State.emit_can ..
@[simp] theorem State.timeRec_can (s : State) (a b c d e : Nat) : (s.timeRec a b c d e).can = s.can := State.emit_can ..
@[simp] theorem State.event_frz (s : State) (a b c d e g : Nat) : (s.event a b c d e g).frz = s.frz := State.emit_frz ..
@[simp] theorem State.timeRec_frz (s : State) (a b c d e : Nat) : (s.timeRec a b c d e).frz = s.frz := State.emit_frz ..
@[simp] theorem State.event_pending (s : State) (a b c d e g : Nat) : (s.event a b c d e g).pending = s.pending := State.emit_pending ..
@[simp] theorem State.timeRec_pending (s : State) (a b c d e : Nat) : (s.timeRec a b c d e).pending = s.pending := State.emit_pending ..

/-- In a device that runs a record is emitted where its type is enabled, and otherwise nothing is (R75 to R78). -/
theorem State.emit_shown (s : State) (time unit typ flags : Nat) (p : List Byte) (h : s.pwr.phase = .running) :
    (s.emit time unit typ flags p).recs.outbox.map Record.shown = s.recs.outbox.map Record.shown
      ++ [recOf time unit typ p].filter (fun x => bit (s.regs.get Reg.DEV_REC_SEL) x.2.2.1) := by
  simp only [State.emit, h, State.emitNow, recOf]
  by_cases hb : bit (s.regs.get Reg.DEV_REC_SEL) typ <;>
    simp [hb, State.onRecs, Record.shown]

theorem Wrote.emit (s t u : State) (l : List Shown) (h : Wrote s t l) (hr : t.pwr.phase = .running) (hg : t.regs = s.regs)
    (time unit typ flags : Nat) (p : List Byte) (hu : u.recs.outbox = (t.emit time unit typ flags p).recs.outbox) :
    Wrote s u (l ++ [recOf time unit typ p]) := by
  unfold Wrote at *
  rw [hu, State.emit_shown _ _ _ _ _ _ hr, h, hg]
  simp only [List.filter_append, List.append_assoc]

/-- An origin whose requests are served is served. -/
theorem State.gate_serves (s : State) (o : Origin) (op lo n : Nat) (h : s.serves o = true) : s.gate o op lo n = .serve := by
  simp only [State.serves, State.running, Bool.and_eq_true, bne_iff_ne, beq_iff_eq, Bool.not_eq_true', Bool.or_eq_true] at h
  obtain ⟨⟨⟨⟨⟨hp, hm⟩, hc⟩, hu⟩, hq⟩, -⟩ := h
  simp only [State.gate, State.gateIn, hp, hm, hc, hq, if_false]
  rcases hu with (hu | hu) | hu
  · obtain ⟨d, hd⟩ := Option.isSome_iff_exists.1 hu
    simp [hd]
  · simp [hu]
  · simp only [Fin.getElem_fin] at hu ⊢
    simp [hu]

/-- Nothing of an origin that is served waits. -/
theorem State.serves_behind (s : State) (o : Origin) (h : s.serves o = true) : s.behind o = false := by
  simp only [State.serves, Bool.and_eq_true, Bool.not_eq_true'] at h
  exact h.2

/-- What an entry that is served leaves where its handler answers ACK. -/
theorem State.entry_ack (s : State) (o : Origin) (op : Nat) (addr : Option Nat) (f : Ctx → State → Res) (n : Nat) (raw : Bool)
    (ws : List Word) (args : List Byte) (maint : Bool) (age : Nat) (u : State)
    (r : Reply) (h : s.serves o = true) (hp : op ≠ 2 ∨ raw = true ∨ s.pairOf o = none)
    (hf : f { s.ctx o op with stamp := s.tb - age } s = (u, r))
    (hr : r.status = 0) : s.entry o op addr f n raw ws args maint age = { u with cp := u.cpAfter o op r } := by
  have hp' : (op == 2 && !raw && (s.pairOf o).isSome) = false := by
    rcases hp with hp | hp | hp <;> simp [hp]
  simp only [State.entry, State.gate_serves s o op _ n h, State.serves_behind s o h, hp', hf, hr, Bool.false_eq_true, if_false]
  by_cases h8 : op = 8
  · subst h8
    simp [State.settleReply, isViolation, hr, State.cpAfter, State.onCp]
  · simp only [show (0 == St.ack && op != 8) = true by simp [h8], if_true]
    simp only [State.settleReply, isViolation, hr, State.cpAfter, State.onCp, State.renewLease, State.tb]
    by_cases hh : u.cp.token.holder = some o <;> simp [hh, h8]

/-- What an entry that is served leaves where its handler refuses it: the state the handler left, with the violation recorded where the
status is one (R413). -/
theorem State.entry_nak (s : State) (o : Origin) (op : Nat) (addr : Option Nat) (f : Ctx → State → Res) (n : Nat) (raw : Bool)
    (ws : List Word) (args : List Byte) (maint : Bool) (age : Nat) (u : State)
    (r : Reply) (h : s.serves o = true) (hp : op ≠ 2 ∨ raw = true ∨ s.pairOf o = none)
    (hf : f { s.ctx o op with stamp := s.tb - age } s = (u, r))
    (hr : r.status ≠ 0) :
    s.entry o op addr f n raw ws args maint age = (u.settleReply { s.ctx o op with stamp := s.tb - age } (addr.map (fun a => a + 4 * r.index)) r).onCp
      (fun x => { x with answers := x.answers ++ [⟨o, op, r⟩] }) := by
  have hp' : (op == 2 && !raw && (s.pairOf o).isSome) = false := by
    rcases hp with hp | hp | hp <;> simp [hp]
  have hr' : (r.status == St.ack) = false := by simpa using hr
  simp only [State.entry, State.gate_serves s o op _ n h, State.serves_behind s o h, hp', hf, hr', Bool.false_eq_true, if_false, Bool.false_and]

theorem Wrote.none (s t : State) (h : t.recs.outbox = s.recs.outbox) : Wrote s t [] := by
  simp [Wrote, h]

end Sys2Proof.Machine
end

