-- ==== Sys2Proof/Laws/Frames.lean ====
section
/-! SUPPORT. Frames: `Frame K s t` says that from `s` to `t` no part of the state changes but those of `K`; each shared operation has one. -/
namespace Sys2Proof.Machine

/-- The parts of the state; `regsOff` is the register words outside the blocks of the axes, where no command register of an axis lies. -/
inductive StPart where
 | clk | pwr | ld | ks | tbs | mode | stg | tick | recs | regs | snt | freeIx | cp | fab | sns | ax | blk | smpCnt | gd | cmd | aux | shr | sip | car | saf | can | frz | pending | regsOff
 deriving DecidableEq, Repr

/-- Two states agree on a part. -/
def StPart.agree : StPart → State → State → Prop
  | .clk, s, t => t.clk = s.clk
  | .pwr, s, t => t.pwr = s.pwr
  | .ld, s, t => t.ld = s.ld
  | .ks, s, t => t.ks = s.ks
  | .tbs, s, t => t.tbs = s.tbs
  | .mode, s, t => t.mode = s.mode
  | .stg, s, t => t.stg = s.stg
  | .tick, s, t => t.tick = s.tick
  | .recs, s, t => t.recs = s.recs
  | .regs, s, t => t.regs = s.regs
  | .snt, s, t => t.snt = s.snt
  | .freeIx, s, t => t.freeIx = s.freeIx
  | .cp, s, t => t.cp = s.cp
  | .fab, s, t => t.fab = s.fab
  | .sns, s, t => t.sns = s.sns
  | .ax, s, t => t.ax = s.ax
  | .blk, s, t => t.blk = s.blk
  | .smpCnt, s, t => t.smpCnt = s.smpCnt
  | .gd, s, t => t.gd = s.gd
  | .cmd, s, t => t.cmd = s.cmd
  | .aux, s, t => t.aux = s.aux
  | .shr, s, t => t.shr = s.shr
  | .sip, s, t => t.sip = s.sip
  | .car, s, t => t.car = s.car
  | .saf, s, t => t.saf = s.saf
  | .can, s, t => t.can = s.can
  | .frz, s, t => t.frz = s.frz
  | .pending, s, t => t.pending = s.pending
  | .regsOff, s, t => s.regs.wf = true →
      t.regs.wf = true ∧ ∀ a, ¬(0x10000 ≤ a ∧ a < 0x24000) → t.regs.get a = s.regs.get a

/-- No part changes from `s` to `t` but those of `K`. -/
structure Frame (K : List StPart) (s t : State) : Prop where
  keep : ∀ p, p ∉ K → p.agree s t

theorem Frame.refl (K : List StPart) (s : State) : Frame K s s := ⟨fun p _ => by cases p <;> first | rfl | exact fun h => ⟨h, fun _ _ => rfl⟩⟩

/-- States that agree on every part are the same. -/
theorem State.eq_of (s t : State) (h : ∀ p : StPart, p ≠ .regsOff → p.agree s t) : t = s := by
  have h1 := fun p hp => h p hp
  cases s; cases t
  simp only [State.mk.injEq]
  exact ⟨h1 .clk (by decide), h1 .pwr (by decide), h1 .ld (by decide), h1 .ks (by decide), h1 .tbs (by decide), h1 .mode (by decide), h1 .stg (by decide), h1 .tick (by decide), h1 .recs (by decide), h1 .regs (by decide), h1 .snt (by decide), h1 .freeIx (by decide), h1 .cp (by decide), h1 .fab (by decide), h1 .sns (by decide), h1 .ax (by decide), h1 .blk (by decide), h1 .smpCnt (by decide), h1 .gd (by decide), h1 .cmd (by decide), h1 .aux (by decide), h1 .shr (by decide), h1 .sip (by decide), h1 .car (by decide), h1 .saf (by decide), h1 .can (by decide), h1 .frz (by decide), h1 .pending (by decide)⟩

theorem StPart.agree_trans {p : StPart} {s t u : State} (h : p.agree s t) (k : p.agree t u) : p.agree s u := by
  cases p <;> first
    | exact Eq.trans k h
    | exact fun w => ⟨(k (h w).1).1, fun a ha => ((k (h w).1).2 a ha).trans ((h w).2 a ha)⟩

theorem Frame.trans {K : List StPart} {s t u : State} (h : Frame K s t) (k : Frame K t u) : Frame K s u :=
  ⟨fun p hp => StPart.agree_trans (h.keep p hp) (k.keep p hp)⟩

/-- One more operation whose frame lies within `K`. -/
theorem Frame.next {K J : List StPart} {s t u : State} (k : Frame J t u) (hs : J ⊆ K) (h : Frame K s t) : Frame K s u :=
  Frame.trans h ⟨fun p hp => k.keep p (fun hj => hp (hs hj))⟩

theorem Frame.foldl {K : List StPart} {β : Type} (l : List β) (g : State → β → State) (h : ∀ s b, Frame K s (g s b)) (s : State) :
    Frame K s (l.foldl g s) := by
  induction l generalizing s with
  | nil => exact Frame.refl K s
  | cons b l ih => exact Frame.trans (h s b) (ih (g s b))

theorem Frame.foldTrans {K : List StPart} {β : Type} {s i : State} {l : List β} {g : State → β → State} (h : Frame K s i)
    (k : ∀ x b, Frame K x (g x b)) : Frame K s (l.foldl g i) := Frame.trans h (Frame.foldl l g k i)

theorem Frame.ite {K : List StPart} {s t u : State} {c : Prop} [Decidable c] (h : Frame K s t) (k : Frame K s u) :
    Frame K s (if c then t else u) := by
  split <;> assumption

/-- An intermediate state whose frame is known. -/
theorem Frame.via {K : List StPart} {s e : State} (x : State) (h : Frame K s x) (k : Frame K s x → Frame K s e) : Frame K s e := k h

/-- Frames are made by their operations in turn. -/
theorem Frame.andThen {K : List StPart} {s v : State} {b : State → State} (h : Frame K s v) (k : ∀ x, Frame K s x → Frame K s (b x)) :
    Frame K s (b v) := k v h

theorem Frame.onClk (s : State) (f) : Frame [.clk] s (s.onClk f) := ⟨fun p hp => by
  cases p <;> first | rfl | exact fun h => ⟨h, fun _ _ => rfl⟩ | exact absurd (by simp) hp⟩
theorem Frame.onPwr (s : State) (f) : Frame [.pwr] s (s.onPwr f) := ⟨fun p hp => by
  cases p <;> first | rfl | exact fun h => ⟨h, fun _ _ => rfl⟩ | exact absurd (by simp) hp⟩
theorem Frame.onLd (s : State) (f) : Frame [.ld] s (s.onLd f) := ⟨fun p hp => by
  cases p <;> first | rfl | exact fun h => ⟨h, fun _ _ => rfl⟩ | exact absurd (by simp) hp⟩
theorem Frame.onKs (s : State) (f) : Frame [.ks] s (s.onKs f) := ⟨fun p hp => by
  cases p <;> first | rfl | exact fun h => ⟨h, fun _ _ => rfl⟩ | exact absurd (by simp) hp⟩
theorem Frame.onTbs (s : State) (f) : Frame [.tbs] s (s.onTbs f) := ⟨fun p hp => by
  cases p <;> first | rfl | exact fun h => ⟨h, fun _ _ => rfl⟩ | exact absurd (by simp) hp⟩
theorem Frame.onMode (s : State) (f) : Frame [.mode] s (s.onMode f) := ⟨fun p hp => by
  cases p <;> first | rfl | exact fun h => ⟨h, fun _ _ => rfl⟩ | exact absurd (by simp) hp⟩
theorem Frame.onStg (s : State) (f) : Frame [.stg] s (s.onStg f) := ⟨fun p hp => by
  cases p <;> first | rfl | exact fun h => ⟨h, fun _ _ => rfl⟩ | exact absurd (by simp) hp⟩
theorem Frame.onTick (s : State) (f) : Frame [.tick] s (s.onTick f) := ⟨fun p hp => by
  cases p <;> first | rfl | exact fun h => ⟨h, fun _ _ => rfl⟩ | exact absurd (by simp) hp⟩
theorem Frame.onRecs (s : State) (f) : Frame [.recs] s (s.onRecs f) := ⟨fun p hp => by
  cases p <;> first | rfl | exact fun h => ⟨h, fun _ _ => rfl⟩ | exact absurd (by simp) hp⟩
theorem Frame.onRegs (s : State) (f) : Frame [.regs, .regsOff] s (s.onRegs f) := ⟨fun p hp => by
  cases p <;> first | rfl | exact fun h => ⟨h, fun _ _ => rfl⟩ | exact absurd (by simp) hp⟩
theorem Frame.onSnt (s : State) (f) : Frame [.snt] s (s.onSnt f) := ⟨fun p hp => by
  cases p <;> first | rfl | exact fun h => ⟨h, fun _ _ => rfl⟩ | exact absurd (by simp) hp⟩
theorem Frame.onFreeIx (s : State) (f) : Frame [.freeIx] s (s.onFreeIx f) := ⟨fun p hp => by
  cases p <;> first | rfl | exact fun h => ⟨h, fun _ _ => rfl⟩ | exact absurd (by simp) hp⟩
theorem Frame.onCp (s : State) (f) : Frame [.cp] s (s.onCp f) := ⟨fun p hp => by
  cases p <;> first | rfl | exact fun h => ⟨h, fun _ _ => rfl⟩ | exact absurd (by simp) hp⟩
theorem Frame.onFab (s : State) (f) : Frame [.fab] s (s.onFab f) := ⟨fun p hp => by
  cases p <;> first | rfl | exact fun h => ⟨h, fun _ _ => rfl⟩ | exact absurd (by simp) hp⟩
theorem Frame.onSns (s : State) (f) : Frame [.sns] s (s.onSns f) := ⟨fun p hp => by
  cases p <;> first | rfl | exact fun h => ⟨h, fun _ _ => rfl⟩ | exact absurd (by simp) hp⟩
theorem Frame.onAx (s : State) (f) : Frame [.ax] s (s.onAx f) := ⟨fun p hp => by
  cases p <;> first | rfl | exact fun h => ⟨h, fun _ _ => rfl⟩ | exact absurd (by simp) hp⟩
theorem Frame.onBlk (s : State) (f) : Frame [.blk] s (s.onBlk f) := ⟨fun p hp => by
  cases p <;> first | rfl | exact fun h => ⟨h, fun _ _ => rfl⟩ | exact absurd (by simp) hp⟩
theorem Frame.onSmpCnt (s : State) (f) : Frame [.smpCnt] s (s.onSmpCnt f) := ⟨fun p hp => by
  cases p <;> first | rfl | exact fun h => ⟨h, fun _ _ => rfl⟩ | exact absurd (by simp) hp⟩
theorem Frame.onGd (s : State) (f) : Frame [.gd] s (s.onGd f) := ⟨fun p hp => by
  cases p <;> first | rfl | exact fun h => ⟨h, fun _ _ => rfl⟩ | exact absurd (by simp) hp⟩
theorem Frame.onCmd (s : State) (f) : Frame [.cmd] s (s.onCmd f) := ⟨fun p hp => by
  cases p <;> first | rfl | exact fun h => ⟨h, fun _ _ => rfl⟩ | exact absurd (by simp) hp⟩
theorem Frame.onAux (s : State) (f) : Frame [.aux] s (s.onAux f) := ⟨fun p hp => by
  cases p <;> first | rfl | exact fun h => ⟨h, fun _ _ => rfl⟩ | exact absurd (by simp) hp⟩
theorem Frame.onShr (s : State) (f) : Frame [.shr] s (s.onShr f) := ⟨fun p hp => by
  cases p <;> first | rfl | exact fun h => ⟨h, fun _ _ => rfl⟩ | exact absurd (by simp) hp⟩
theorem Frame.onSip (s : State) (f) : Frame [.sip] s (s.onSip f) := ⟨fun p hp => by
  cases p <;> first | rfl | exact fun h => ⟨h, fun _ _ => rfl⟩ | exact absurd (by simp) hp⟩
theorem Frame.onCar (s : State) (f) : Frame [.car] s (s.onCar f) := ⟨fun p hp => by
  cases p <;> first | rfl | exact fun h => ⟨h, fun _ _ => rfl⟩ | exact absurd (by simp) hp⟩
theorem Frame.onSaf (s : State) (f) : Frame [.saf] s (s.onSaf f) := ⟨fun p hp => by
  cases p <;> first | rfl | exact fun h => ⟨h, fun _ _ => rfl⟩ | exact absurd (by simp) hp⟩
theorem Frame.onCan (s : State) (f) : Frame [.can] s (s.onCan f) := ⟨fun p hp => by
  cases p <;> first | rfl | exact fun h => ⟨h, fun _ _ => rfl⟩ | exact absurd (by simp) hp⟩
theorem Frame.onFrz (s : State) (f) : Frame [.frz] s (s.onFrz f) := ⟨fun p hp => by
  cases p <;> first | rfl | exact fun h => ⟨h, fun _ _ => rfl⟩ | exact absurd (by simp) hp⟩
theorem Frame.onPending (s : State) (f) : Frame [.pending] s (s.onPending f) := ⟨fun p hp => by
  cases p <;> first | rfl | exact fun h => ⟨h, fun _ _ => rfl⟩ | exact absurd (by simp) hp⟩
theorem Frame.settle (s : State) : Frame [.mode] s s.settle := Frame.onMode s _
theorem Frame.advance (s : State) (dt : Nat) : Frame [.clk] s (s.advance dt) := Frame.onClk s _
theorem Frame.emitNow (s : State) (a b c d : Nat) (p : List Byte) : Frame [.recs] s (s.emitNow a b c d p) := by
  unfold State.emitNow; split
  · exact Frame.refl _ _
  · exact Frame.onRecs _ _
theorem Frame.emit (s : State) (a b c d : Nat) (p : List Byte) : Frame [.recs] s (s.emit a b c d p) := by
  unfold State.emit; split
  · exact Frame.emitNow ..
  all_goals first | exact Frame.onRecs _ _ | exact Frame.refl _ _
theorem Frame.event (s : State) (a b c d e f : Nat) : Frame [.recs] s (s.event a b c d e f) := Frame.emit ..
theorem Frame.timeRec (s : State) (a b c d e : Nat) : Frame [.recs] s (s.timeRec a b c d e) := Frame.emit ..

/-- A write of an axis's command register changes no word outside the blocks of the axes. -/
theorem Frame.setAxisWord (s : State) (a : Nat) (f : Regs → Word) (h : 0x10000 ≤ a ∧ a < 0x24000) :
    Frame [.regs] s (s.onRegs (fun r => r.set a (f r))) := ⟨fun p hp => by
  cases p
  case regsOff => intro w; exact ⟨Regs.set_wf _ _ _ w, fun b hb => by
    simp only [State.onRegs]; rw [Regs.get_set _ _ _ _ w, if_neg (by omega)]⟩
  all_goals first | rfl | exact absurd (by simp) hp⟩

/-- Writes of command registers of an axis change no word outside the blocks of the axes. -/
theorem Frame.setAxisWords (s : State) (f : Regs → Regs)
    (h : ∀ r, r.wf = true → (f r).wf = true ∧ ∀ b, ¬(0x10000 ≤ b ∧ b < 0x24000) → (f r).get b = r.get b) : Frame [.regs] s (s.onRegs f) :=
  ⟨fun p hp => by
    cases p
    case regsOff => intro w; exact h _ w
    all_goals first | rfl | exact absurd (by simp) hp⟩

end Sys2Proof.Machine
end

