-- ==== Sys2Proof/Laws/OpFrames.lean ====
section
/-! SUPPORT. The frame of every operation over the state: the parts that it can change. -/
namespace Sys2Proof.Machine

set_option Elab.async false
set_option linter.all false

theorem Frame.fresh (s : State) : Frame [.freeIx] s (State.fresh s).2 := by
  delta State.fresh
  exact Frame.onFreeIx s _

theorem Frame.releaseHeld (s : State) : Frame [.recs] s (State.releaseHeld s) := by
  delta State.releaseHeld
  refine Frame.foldTrans ?_ ?_
  ·
    refine Frame.next (Frame.onRecs ..) (by decide) ?_
    exact Frame.refl _ _
  · intro x1 b2
    beta_reduce
    refine Frame.next (Frame.emitNow ..) (by decide) ?_
    exact Frame.refl _ _

theorem Frame.ksWrite (s : State) (o : Nat) (bs : List Byte) : Frame [.ks] s (State.ksWrite s o bs) := by
  delta State.ksWrite
  refine Frame.next (Frame.onKs ..) (by decide) ?_
  exact Frame.refl _ _

theorem Frame.ksPair (s : State) (o d : Nat) (data : List Byte) : Frame [.ks] s (State.ksPair s o d data) := by
  delta State.ksPair
  refine Frame.next (Frame.ksWrite ..) (by decide) ?_
  refine Frame.next (Frame.ksWrite ..) (by decide) ?_
  exact Frame.refl _ _

theorem Frame.resetHistory (s : State) (tb dur cause mode : Nat) : Frame [.ks] s (State.resetHistory s tb dur cause mode) := by
  delta State.resetHistory
  extract_lets +onlyGivenNames v1
  extract_lets +onlyGivenNames v2
  refine Frame.next (Frame.onKs ..) (by decide) ?_
  refine Frame.next (Frame.ksPair ..) (by decide) ?_
  exact Frame.refl _ _

theorem Frame.coldHistory (s : State) (f : LoadFail) (alt : Bool) : Frame [.ks] s (State.coldHistory s f alt) := by
  delta State.coldHistory
  extract_lets +onlyGivenNames v1
  extract_lets +onlyGivenNames v2
  refine Frame.next (Frame.onKs ..) (by decide) ?_
  refine Frame.next (Frame.ksPair ..) (by decide) ?_
  exact Frame.refl _ _

theorem Frame.violation (s : State) (c : Ctx) (addr : Option Nat) (st detail : Nat) : Frame [.recs, .cp] s (State.violation s c addr st detail) := by
  delta State.violation
  extract_lets +onlyGivenNames v1
  extract_lets +onlyGivenNames v2
  refine Frame.via v2 ?_ (fun h3 => ?_)
  · unfold v2
    refine Frame.next (Frame.onCp ..) (by decide) ?_
    exact Frame.refl _ _
  · clear_value v2
    refine Frame.next (Frame.emit ..) (by decide) ?_
    assumption

theorem Frame.settleReply (s : State) (c : Ctx) (addr : Option Nat) (r : Reply) : Frame [.recs, .cp] s (State.settleReply s c addr r) := by
  delta State.settleReply
  refine Frame.ite ?_ ?_
  ·
    refine Frame.next (Frame.violation ..) (by decide) ?_
    exact Frame.refl _ _
  ·
    exact Frame.refl _ _

theorem Frame.pairDrop (s : State) (o : Origin) : Frame [.stg] s (State.pairDrop s o) := by
  delta State.pairDrop
  refine Frame.next (Frame.onStg ..) (by decide) ?_
  exact Frame.refl _ _

theorem Frame.renewLease (s : State) (o : Origin) : Frame [.cp] s (State.renewLease s o) := by
  delta State.renewLease
  refine Frame.next (Frame.onCp ..) (by decide) ?_
  exact Frame.refl _ _

theorem Frame.queueAlone (s : State) (c : Ctx) (maint : Bool) (e : Entry) : Frame [.cp] s (State.queueAlone s c maint e) := by
  delta State.queueAlone
  refine Frame.next (Frame.onCp ..) (by decide) ?_
  exact Frame.refl _ _

theorem Frame.putMode (s : State) (m : Mode) (cause : Nat) : Frame [.mode] s (State.putMode s m cause) := by
  delta State.putMode
  refine Frame.next (Frame.onMode ..) (by decide) ?_
  exact Frame.refl _ _

theorem Frame.modAx (s : State) (n : Fin 6) (f : AxSt → AxSt) : Frame [.ax] s (State.modAx s n f) := by
  delta State.modAx
  refine Frame.next (Frame.onAx ..) (by decide) ?_
  exact Frame.refl _ _

theorem Frame.modEng (s : State) (n : Fin 6) (f : Eng → Eng) : Frame [.ax] s (State.modEng s n f) := by
  delta State.modEng
  refine Frame.next (Frame.modAx ..) (by decide) ?_
  exact Frame.refl _ _

theorem Frame.modCmd (s : State) (n : Fin 6) (f : CmdAx → CmdAx) : Frame [.cmd] s (State.modCmd s n f) := by
  delta State.modCmd
  refine Frame.next (Frame.onCmd ..) (by decide) ?_
  exact Frame.refl _ _

theorem Frame.modSns (s : State) (n : Fin 6) (f : SnsAx → SnsAx) : Frame [.sns] s (State.modSns s n f) := by
  delta State.modSns
  refine Frame.next (Frame.onSns ..) (by decide) ?_
  exact Frame.refl _ _

theorem Frame.modSdi (s : State) (c : Fin 32) (f : SdiSt → SdiSt) : Frame [.sns] s (State.modSdi s c f) := by
  delta State.modSdi
  refine Frame.next (Frame.onSns ..) (by decide) ?_
  exact Frame.refl _ _

theorem Frame.modAin (s : State) (c : Fin 32) (f : AinSt → AinSt) : Frame [.sns] s (State.modAin s c f) := by
  delta State.modAin
  refine Frame.next (Frame.onSns ..) (by decide) ?_
  exact Frame.refl _ _

theorem Frame.modEnc (s : State) (e : Fin 6) (f : EncSt → EncSt) : Frame [.sns] s (State.modEnc s e f) := by
  delta State.modEnc
  refine Frame.next (Frame.onSns ..) (by decide) ?_
  exact Frame.refl _ _

theorem Frame.modGd (s : State) (a : Fin 10) (f : GdAx → GdAx) : Frame [.gd] s (State.modGd s a f) := by
  delta State.modGd
  refine Frame.next (Frame.onGd ..) (by decide) ?_
  exact Frame.refl _ _

theorem Frame.modSnt (s : State) (a : Fin 10) (f : Sentinel → Sentinel) : Frame [.snt] s (State.modSnt s a f) := by
  delta State.modSnt
  refine Frame.next (Frame.onSnt ..) (by decide) ?_
  exact Frame.refl _ _

theorem Frame.resetCommand (s : State) (n : Fin 6) : Frame [.regs, .cmd] s (State.resetCommand s n) := by
  delta State.resetCommand
  refine Frame.next (Frame.modCmd ..) (by decide) ?_
  exact Frame.next (Frame.setAxisWord _ _ (fun r => r.get (Reg.AXn_CMD n) &&& 0xFFFFFFF8#32) (by have := n.isLt; simp only [Reg.AXn_CMD]; omega)) (by decide) (Frame.refl _ _)

theorem Frame.crashEnd (s : State) (n : Fin 6) : Frame [.recs, .cmd] s (State.crashEnd s n) := by
  delta State.crashEnd
  refine Frame.ite ?_ ?_
  ·
    refine Frame.next (Frame.event ..) (by decide) ?_
    refine Frame.next (Frame.modCmd ..) (by decide) ?_
    exact Frame.refl _ _
  ·
    refine Frame.next (Frame.modCmd ..) (by decide) ?_
    exact Frame.refl _ _

theorem Frame.epuStop (s : State) (a : Fin 10) : Frame [.snt, .gd] s (State.epuStop s a) := by
  delta State.epuStop
  refine Frame.next (Frame.modGd ..) (by decide) ?_
  refine Frame.next (Frame.modSnt ..) (by decide) ?_
  exact Frame.refl _ _

theorem Frame.epuStart (s : State) (a : Fin 10) : Frame [.snt] s (State.epuStart s a) := by
  delta State.epuStart
  refine Frame.next (Frame.modSnt ..) (by decide) ?_
  exact Frame.refl _ _

theorem Frame.epuFresh (s : State) (n : Fin 6) : Frame [.snt, .sns] s (State.epuFresh s n) := by
  delta State.epuFresh
  refine Frame.next (Frame.modSns ..) (by decide) ?_
  refine Frame.next (Frame.epuStart ..) (by decide) ?_
  exact Frame.refl _ _

theorem Frame.axDown (s : State) (n : Fin 6) (st : AxState) : Frame [.recs, .snt, .ax, .gd, .cmd] s (State.axDown s n st) := by
  delta State.axDown
  refine Frame.next (Frame.modAx ..) (by decide) ?_
  refine Frame.next (Frame.epuStop ..) (by decide) ?_
  refine Frame.next (Frame.crashEnd ..) (by decide) ?_
  exact Frame.refl _ _

theorem Frame.axHaltOff (s : State) (n : Fin 6) (reason : Nat) : Frame [.recs, .regs, .snt, .ax, .gd, .cmd] s (State.axHaltOff s n reason) := by
  delta State.axHaltOff
  refine Frame.next (Frame.resetCommand ..) (by decide) ?_
  refine Frame.next (Frame.modGd ..) (by decide) ?_
  refine Frame.next (Frame.modAx ..) (by decide) ?_
  refine Frame.next (Frame.axDown ..) (by decide) ?_
  exact Frame.refl _ _

theorem Frame.ascEnter (s : State) (n : Fin 6) (cause : Nat) (high follow : Bool) (offAt : Nat) (coast : Option (Nat × Rat)) : Frame [.recs, .snt, .sns, .ax, .gd, .cmd] s (State.ascEnter s n cause high follow offAt coast) := by
  delta State.ascEnter
  extract_lets +onlyGivenNames v1
  extract_lets +onlyGivenNames v2
  extract_lets +onlyGivenNames v3
  extract_lets +onlyGivenNames v4
  refine Frame.via v4 ?_ (fun h5 => ?_)
  · unfold v4
    refine Frame.ite ?_ ?_
    ·
      exact Frame.refl _ _
    ·
      refine Frame.next (Frame.epuFresh ..) (by decide) ?_
      exact Frame.refl _ _
  · clear_value v4
    extract_lets +onlyGivenNames v6
    refine Frame.via v6 ?_ (fun h7 => ?_)
    · unfold v6
      refine Frame.next (Frame.modGd ..) (by decide) ?_
      assumption
    · clear_value v6
      refine Frame.next (Frame.modAx ..) (by decide) ?_
      refine Frame.next (Frame.crashEnd ..) (by decide) ?_
      assumption

theorem Frame.axStop (s : State) (n : Fin 6) (k : StopKind) : Frame [.ax, .cmd] s (State.axStop s n k) := by
  delta State.axStop
  extract_lets +onlyGivenNames v1
  extract_lets +onlyGivenNames v2
  extract_lets +onlyGivenNames v3
  refine Frame.ite ?_ ?_
  ·
    refine Frame.next (Frame.modAx ..) (by decide) ?_
    exact Frame.refl _ _
  ·
    refine Frame.ite ?_ ?_
    ·
      exact Frame.refl _ _
    ·
      extract_lets +onlyGivenNames v4
      extract_lets +onlyGivenNames v5
      extract_lets +onlyGivenNames v6
      refine Frame.via v6 ?_ (fun h7 => ?_)
      · unfold v6
        refine Frame.ite ?_ ?_
        ·
          exact Frame.refl _ _
        ·
          refine Frame.next (Frame.modCmd ..) (by decide) ?_
          exact Frame.refl _ _
      · clear_value v6
        extract_lets +onlyGivenNames v8
        refine Frame.via v8 ?_ (fun h9 => ?_)
        · unfold v8
          refine Frame.ite ?_ ?_
          ·
            assumption
          ·
            refine Frame.next (Frame.modCmd ..) (by decide) ?_
            assumption
        · clear_value v8
          refine Frame.next (Frame.modAx ..) (by decide) ?_
          assumption

theorem Frame.axFault (s : State) (n : Fin 6) (reason : Nat) (cls : FltClass) : Frame [.recs, .regs, .snt, .sns, .ax, .gd, .cmd] s (State.axFault s n reason cls) := by
  delta State.axFault
  extract_lets +onlyGivenNames v1
  extract_lets +onlyGivenNames v2
  refine Frame.ite ?_ ?_
  ·
    exact Frame.refl _ _
  ·
    refine Frame.ite ?_ ?_
    ·
      refine Frame.next (Frame.axStop ..) (by decide) ?_
      exact Frame.refl _ _
    ·
      refine Frame.ite ?_ ?_
      ·
        refine Frame.next (Frame.axHaltOff ..) (by decide) ?_
        exact Frame.refl _ _
      ·
        refine Frame.ite ?_ ?_
        ·
          extract_lets +onlyGivenNames v3
          refine Frame.ite ?_ ?_
          ·
            extract_lets +onlyGivenNames v4
            refine Frame.via v4 ?_ (fun h5 => ?_)
            · unfold v4
              refine Frame.next (Frame.resetCommand ..) (by decide) ?_
              refine Frame.next (Frame.modAx ..) (by decide) ?_
              exact Frame.refl _ _
            · clear_value v4
              refine Frame.ite ?_ ?_
              ·
                assumption
              ·
                refine Frame.next (Frame.event ..) (by decide) ?_
                assumption
          ·
            refine Frame.next (Frame.axHaltOff ..) (by decide) ?_
            exact Frame.refl _ _
        ·
          refine Frame.ite ?_ ?_
          ·
            refine Frame.next (Frame.resetCommand ..) (by decide) ?_
            refine Frame.next (Frame.modAx ..) (by decide) ?_
            refine Frame.next (Frame.ascEnter ..) (by decide) ?_
            exact Frame.refl _ _
          ·
            refine Frame.ite ?_ ?_
            ·
              refine Frame.next (Frame.resetCommand ..) (by decide) ?_
              refine Frame.next (Frame.modAx ..) (by decide) ?_
              refine Frame.next (Frame.ascEnter ..) (by decide) ?_
              exact Frame.refl _ _
            ·
              refine Frame.next (Frame.axHaltOff ..) (by decide) ?_
              exact Frame.refl _ _

theorem Frame.coastAsc (s : State) (n : Fin 6) (speed : Rat) : Frame [.recs, .snt, .sns, .ax, .gd, .cmd] s (State.coastAsc s n speed) := by
  delta State.coastAsc
  refine Frame.ite ?_ ?_
  ·
    refine Frame.next (Frame.ascEnter ..) (by decide) ?_
    exact Frame.refl _ _
  ·
    exact Frame.refl _ _

theorem Frame.encCoast (s : State) (n : Fin 6) : Frame [.recs, .snt, .sns, .ax, .gd, .cmd] s (State.encCoast s n) := by
  delta State.encCoast
  extract_lets +onlyGivenNames v1
  refine Frame.ite ?_ ?_
  ·
    refine Frame.next (Frame.coastAsc ..) (by decide) ?_
    exact Frame.refl _ _
  ·
    exact Frame.refl _ _

theorem Frame.axSto (s : State) (n : Fin 6) : Frame [.recs, .snt, .ax, .gd, .cmd] s (State.axSto s n) := by
  delta State.axSto
  refine Frame.ite ?_ ?_
  ·
    exact Frame.refl _ _
  ·
    refine Frame.next (Frame.modAx ..) (by decide) ?_
    refine Frame.next (Frame.axDown ..) (by decide) ?_
    exact Frame.refl _ _

theorem Frame.catchEnter (s : State) (n : Fin 6) (attempt : Nat) (blind : Bool) (coast : Option Nat) (stop : Option StopKind) : Frame [.snt, .sns, .ax] s (State.catchEnter s n attempt blind coast stop) := by
  delta State.catchEnter
  extract_lets +onlyGivenNames v1
  refine Frame.via v1 ?_ (fun h2 => ?_)
  · unfold v1
    refine Frame.ite ?_ ?_
    ·
      exact Frame.refl _ _
    ·
      refine Frame.next (Frame.epuFresh ..) (by decide) ?_
      exact Frame.refl _ _
  · clear_value v1
    extract_lets +onlyGivenNames v3
    refine Frame.via v3 ?_ (fun h4 => ?_)
    · unfold v3
      refine Frame.next (Frame.modSns ..) (by decide) ?_
      assumption
    · clear_value v3
      extract_lets +onlyGivenNames v5
      refine Frame.via v5 ?_ (fun h6 => ?_)
      · unfold v5
        refine Frame.foldTrans ?_ ?_
        ·
          assumption
        · intro x7 b8
          beta_reduce
          refine Frame.ite ?_ ?_
          ·
            refine Frame.next (Frame.modSdi ..) (by decide) ?_
            exact Frame.refl _ _
          ·
            exact Frame.refl _ _
      · clear_value v5
        refine Frame.next (Frame.modAx ..) (by decide) ?_
        assumption

theorem Frame.setStop (s : State) (b : Nat) (v : Bool) : Frame [.mode] s (State.setStop s b v) := by
  delta State.setStop
  refine Frame.next (Frame.onMode ..) (by decide) ?_
  exact Frame.refl _ _

theorem Frame.imgAbandon (s : State) : Frame [.recs, .cp] s (State.imgAbandon s) := by
  delta State.imgAbandon
  refine Frame.ite ?_ ?_
  ·
    exact Frame.refl _ _
  ·
    refine Frame.next (Frame.event ..) (by decide) ?_
    refine Frame.next (Frame.onCp ..) (by decide) ?_
    exact Frame.refl _ _

theorem Frame.changeMode (s : State) (m : Mode) (cause detail : Nat) (flags : Nat) : Frame [.mode, .recs, .cp] s (State.changeMode s m cause detail flags) := by
  delta State.changeMode
  extract_lets +onlyGivenNames v1
  extract_lets +onlyGivenNames v2
  refine Frame.via v2 ?_ (fun h3 => ?_)
  · unfold v2
    refine Frame.next (Frame.putMode ..) (by decide) ?_
    exact Frame.refl _ _
  · clear_value v2
    split
    ·
      assumption
    ·
      assumption
    ·
      assumption
    ·
      extract_lets +onlyGivenNames v4
      refine Frame.via v4 ?_ (fun h5 => ?_)
      · unfold v4
        refine Frame.next (Frame.emit ..) (by decide) ?_
        assumption
      · clear_value v4
        refine Frame.ite ?_ ?_
        ·
          assumption
        ·
          refine Frame.next (Frame.imgAbandon ..) (by decide) ?_
          assumption
    ·
      extract_lets +onlyGivenNames v6
      refine Frame.via v6 ?_ (fun h7 => ?_)
      · unfold v6
        refine Frame.next (Frame.emit ..) (by decide) ?_
        assumption
      · clear_value v6
        refine Frame.ite ?_ ?_
        ·
          assumption
        ·
          refine Frame.next (Frame.imgAbandon ..) (by decide) ?_
          assumption
    ·
      extract_lets +onlyGivenNames v8
      refine Frame.via v8 ?_ (fun h9 => ?_)
      · unfold v8
        refine Frame.next (Frame.emit ..) (by decide) ?_
        assumption
      · clear_value v8
        refine Frame.ite ?_ ?_
        ·
          assumption
        ·
          refine Frame.next (Frame.imgAbandon ..) (by decide) ?_
          assumption
    ·
      extract_lets +onlyGivenNames v10
      refine Frame.via v10 ?_ (fun h11 => ?_)
      · unfold v10
        refine Frame.next (Frame.emit ..) (by decide) ?_
        assumption
      · clear_value v10
        refine Frame.ite ?_ ?_
        ·
          assumption
        ·
          refine Frame.next (Frame.imgAbandon ..) (by decide) ?_
          assumption
    ·
      extract_lets +onlyGivenNames v12
      refine Frame.via v12 ?_ (fun h13 => ?_)
      · unfold v12
        refine Frame.next (Frame.emit ..) (by decide) ?_
        assumption
      · clear_value v12
        refine Frame.ite ?_ ?_
        ·
          assumption
        ·
          refine Frame.next (Frame.imgAbandon ..) (by decide) ?_
          assumption

theorem Frame.modAux (s : State) (x : Fin 4) (f : AuxAx → AuxAx) : Frame [.aux] s (State.modAux s x f) := by
  delta State.modAux
  refine Frame.next (Frame.onAux ..) (by decide) ?_
  exact Frame.refl _ _

theorem Frame.auxSetPos (s : State) (x : Fin 4) (p : Int) : Frame [.aux] s (State.auxSetPos s x p) := by
  delta State.auxSetPos
  refine Frame.next (Frame.modAux ..) (by decide) ?_
  exact Frame.refl _ _

theorem Frame.auxLost (s : State) (x : Fin 4) : Frame [.aux] s (State.auxLost s x) := by
  delta State.auxLost
  refine Frame.next (Frame.modAux ..) (by decide) ?_
  exact Frame.refl _ _

theorem Frame.auxResetCommand (s : State) (x : Fin 4) : Frame [.regs, .aux] s (State.auxResetCommand s x) := by
  delta State.auxResetCommand
  refine Frame.next (Frame.modAux ..) (by decide) ?_
  exact Frame.next (Frame.setAxisWord _ _ (fun _ => 0) (by have := x.isLt; simp only [Reg.AUXn_CMD]; omega)) (by decide) (Frame.refl _ _)

theorem Frame.auxDown (s : State) (x : Fin 4) (st : AuxState) : Frame [.snt, .gd, .aux] s (State.auxDown s x st) := by
  delta State.auxDown
  refine Frame.next (Frame.modAux ..) (by decide) ?_
  refine Frame.next (Frame.epuStop ..) (by decide) ?_
  exact Frame.refl _ _

theorem Frame.auxHalt (s : State) (x : Fin 4) (reason : Nat) : Frame [.regs, .snt, .gd, .aux] s (State.auxHalt s x reason) := by
  delta State.auxHalt
  refine Frame.next (Frame.auxResetCommand ..) (by decide) ?_
  refine Frame.next (Frame.modGd ..) (by decide) ?_
  refine Frame.next (Frame.modAux ..) (by decide) ?_
  refine Frame.next (Frame.auxDown ..) (by decide) ?_
  exact Frame.refl _ _

theorem Frame.auxStop (s : State) (x : Fin 4) (k : StopKind) : Frame [.aux] s (State.auxStop s x k) := by
  delta State.auxStop
  extract_lets +onlyGivenNames v1
  extract_lets +onlyGivenNames v2
  extract_lets +onlyGivenNames v3
  refine Frame.via v3 ?_ (fun h4 => ?_)
  · unfold v3
    refine Frame.ite ?_ ?_
    ·
      exact Frame.refl _ _
    ·
      refine Frame.next (Frame.auxLost ..) (by decide) ?_
      refine Frame.next (Frame.modAux ..) (by decide) ?_
      exact Frame.refl _ _
  · clear_value v3
    split
    ·
      refine Frame.next (Frame.modAux ..) (by decide) ?_
      assumption
    ·
      refine Frame.next (Frame.modAux ..) (by decide) ?_
      assumption
    ·
      refine Frame.next (Frame.modAux ..) (by decide) ?_
      assumption
    ·
      assumption
    ·
      assumption
    ·
      assumption

theorem Frame.auxReady (s : State) (x : Fin 4) : Frame [.recs, .regs, .snt, .gd, .aux] s (State.auxReady s x) := by
  delta State.auxReady
  refine Frame.ite ?_ ?_
  ·
    refine Frame.next (Frame.event ..) (by decide) ?_
    refine Frame.next (Frame.auxHalt ..) (by decide) ?_
    exact Frame.refl _ _
  ·
    refine Frame.next (Frame.modAux ..) (by decide) ?_
    exact Frame.refl _ _

theorem Frame.auxSto (s : State) (x : Fin 4) : Frame [.snt, .gd, .aux] s (State.auxSto s x) := by
  delta State.auxSto
  refine Frame.ite ?_ ?_
  ·
    exact Frame.refl _ _
  ·
    refine Frame.next (Frame.modAux ..) (by decide) ?_
    refine Frame.next (Frame.auxDown ..) (by decide) ?_
    exact Frame.refl _ _

theorem Frame.auxStart (s : State) (x : Fin 4) (st : AuxState) : Frame [.snt, .aux] s (State.auxStart s x st) := by
  delta State.auxStart
  extract_lets +onlyGivenNames v1
  refine Frame.next (Frame.modAux ..) (by decide) ?_
  refine Frame.next (Frame.epuStart ..) (by decide) ?_
  exact Frame.refl _ _

theorem Frame.halt10 (s : State) (a : Fin 10) (reason : Nat) : Frame [.recs, .regs, .snt, .ax, .gd, .cmd, .aux] s (State.halt10 s a reason) := by
  delta State.halt10
  split
  ·
    refine Frame.next (Frame.axHaltOff ..) (by decide) ?_
    exact Frame.refl _ _
  ·
    refine Frame.next (Frame.auxHalt ..) (by decide) ?_
    exact Frame.refl _ _

theorem Frame.haltNew10 (s : State) (a : Fin 10) (reason : Nat) : Frame [.recs, .regs, .snt, .ax, .gd, .cmd, .aux] s (State.haltNew10 s a reason) := by
  delta State.haltNew10
  extract_lets +onlyGivenNames v1
  refine Frame.ite ?_ ?_
  ·
    exact Frame.refl _ _
  ·
    refine Frame.next (Frame.halt10 ..) (by decide) ?_
    exact Frame.refl _ _

theorem Frame.startNow (s : State) (a : Fin 10) : Frame [.snt, .sns, .ax, .aux] s (State.startNow s a) := by
  delta State.startNow
  split
  ·
    refine Frame.next (Frame.catchEnter ..) (by decide) ?_
    exact Frame.refl _ _
  ·
    refine Frame.next (Frame.auxStart ..) (by decide) ?_
    exact Frame.refl _ _

theorem Frame.tryStart (s : State) (a : Fin 10) : Frame [.snt, .sns, .ax, .aux] s (State.tryStart s a) := by
  delta State.tryStart
  refine Frame.ite ?_ ?_
  ·
    refine Frame.next (Frame.startNow ..) (by decide) ?_
    exact Frame.refl _ _
  ·
    exact Frame.refl _ _

theorem Frame.softOff (s : State) (a : Fin 10) : Frame [.ax, .gd, .aux] s (State.softOff s a) := by
  delta State.softOff
  refine Frame.ite ?_ ?_
  ·
    exact Frame.refl _ _
  ·
    refine Frame.ite ?_ ?_
    ·
      split
      ·
        refine Frame.next (Frame.modAx ..) (by decide) ?_
        exact Frame.refl _ _
      ·
        refine Frame.next (Frame.modAux ..) (by decide) ?_
        exact Frame.refl _ _
    ·
      extract_lets +onlyGivenNames v1
      extract_lets +onlyGivenNames v2
      extract_lets +onlyGivenNames v3
      extract_lets +onlyGivenNames v4
      extract_lets +onlyGivenNames v5
      refine Frame.via v5 ?_ (fun h6 => ?_)
      · unfold v5
        refine Frame.next (Frame.modGd ..) (by decide) ?_
        exact Frame.refl _ _
      · clear_value v5
        refine Frame.ite ?_ ?_
        ·
          assumption
        ·
          split
          ·
            refine Frame.next (Frame.modAx ..) (by decide) ?_
            assumption
          ·
            refine Frame.next (Frame.modAux ..) (by decide) ?_
            assumption

theorem Frame.hsUvSet (s : State) (a : Fin 10) (leg : Fin 4) (mv : Nat) : Frame [.recs, .ax, .gd] s (State.hsUvSet s a leg mv) := by
  delta State.hsUvSet
  extract_lets +onlyGivenNames v1
  refine Frame.ite ?_ ?_
  ·
    exact Frame.refl _ _
  ·
    extract_lets +onlyGivenNames v2
    refine Frame.via v2 ?_ (fun h3 => ?_)
    · unfold v2
      refine Frame.next (Frame.modGd ..) (by decide) ?_
      exact Frame.refl _ _
    · clear_value v2
      extract_lets +onlyGivenNames v4
      extract_lets +onlyGivenNames v5
      extract_lets +onlyGivenNames v6
      extract_lets +onlyGivenNames v7
      refine Frame.via v7 ?_ (fun h8 => ?_)
      · unfold v7
        refine Frame.ite ?_ ?_
        ·
          refine Frame.next (Frame.event ..) (by decide) ?_
          refine Frame.next (Frame.modGd ..) (by decide) ?_
          assumption
        ·
          assumption
      · clear_value v7
        split
        ·
          refine Frame.ite ?_ ?_
          ·
            refine Frame.next (Frame.modAx ..) (by decide) ?_
            assumption
          ·
            assumption
        ·
          assumption

theorem Frame.bstUv (s : State) (a : Fin 10) (mv : Nat) : Frame [.recs, .regs, .snt, .sns, .ax, .gd, .cmd, .aux] s (State.bstUv s a mv) := by
  delta State.bstUv
  extract_lets +onlyGivenNames v1
  refine Frame.ite ?_ ?_
  ·
    exact Frame.refl _ _
  ·
    extract_lets +onlyGivenNames v2
    refine Frame.via v2 ?_ (fun h3 => ?_)
    · unfold v2
      refine Frame.next (Frame.event ..) (by decide) ?_
      exact Frame.refl _ _
    · clear_value v2
      split
      ·
        refine Frame.next (Frame.modAx ..) (by decide) ?_
        refine Frame.next (Frame.axFault ..) (by decide) ?_
        assumption
      ·
        refine Frame.next (Frame.auxHalt ..) (by decide) ?_
        assumption

theorem Frame.bstRefreshEnd (s : State) (a : Fin 10) (mv : Nat) : Frame [.recs, .gd] s (State.bstRefreshEnd s a mv) := by
  delta State.bstRefreshEnd
  extract_lets +onlyGivenNames v1
  refine Frame.ite ?_ ?_
  ·
    refine Frame.next (Frame.event ..) (by decide) ?_
    refine Frame.next (Frame.modGd ..) (by decide) ?_
    exact Frame.refl _ _
  ·
    exact Frame.refl _ _

theorem Frame.hsSupplyReady (s : State) (a : Fin 10) : Frame [.snt, .sns, .ax, .gd, .aux] s (State.hsSupplyReady s a) := by
  delta State.hsSupplyReady
  refine Frame.ite ?_ ?_
  ·
    refine Frame.next (Frame.tryStart ..) (by decide) ?_
    refine Frame.next (Frame.modGd ..) (by decide) ?_
    exact Frame.refl _ _
  ·
    exact Frame.refl _ _

theorem Frame.bstStartTimeout (s : State) (a : Fin 10) (low : BitVec 4) (mv : Nat) : Frame [.recs, .regs, .snt, .ax, .gd, .cmd, .aux] s (State.bstStartTimeout s a low mv) := by
  delta State.bstStartTimeout
  split
  ·
    refine Frame.ite ?_ ?_
    ·
      refine Frame.next (Frame.halt10 ..) (by decide) ?_
      refine Frame.next (Frame.event ..) (by decide) ?_
      refine Frame.next (Frame.modGd ..) (by decide) ?_
      exact Frame.refl _ _
    ·
      exact Frame.refl _ _
  ·
    exact Frame.refl _ _

theorem Frame.countRefresh (s : State) (a : Fin 10) (uv : BitVec 4) : Frame [.gd] s (State.countRefresh s a uv) := by
  delta State.countRefresh
  refine Frame.next (Frame.modGd ..) (by decide) ?_
  exact Frame.refl _ _

theorem Frame.markTest (s : State) (t : Nat) (on : Bool) : Frame [.gd] s (State.markTest s t on) := by
  delta State.markTest
  refine Frame.ite ?_ ?_
  ·
    refine Frame.next (Frame.modGd ..) (by decide) ?_
    exact Frame.refl _ _
  ·
    exact Frame.refl _ _

theorem Frame.testEnd (s : State) : Frame [.recs, .regs, .snt, .sns, .ax, .gd, .cmd, .aux] s (State.testEnd s) := by
  delta State.testEnd
  extract_lets +onlyGivenNames v1
  extract_lets +onlyGivenNames v2
  extract_lets +onlyGivenNames v3
  refine Frame.via v3 ?_ (fun h4 => ?_)
  · unfold v3
    refine Frame.next (Frame.onGd ..) (by decide) ?_
    exact Frame.refl _ _
  · clear_value v3
    extract_lets +onlyGivenNames v5
    refine Frame.via v5 ?_ (fun h6 => ?_)
    · unfold v5
      refine Frame.foldTrans ?_ ?_
      ·
        assumption
      · intro x7 b8
        beta_reduce
        extract_lets +onlyGivenNames v9
        refine Frame.via v9 ?_ (fun h10 => ?_)
        · unfold v9
          refine Frame.next (Frame.markTest ..) (by decide) ?_
          exact Frame.refl _ _
        · clear_value v9
          refine Frame.ite ?_ ?_
          ·
            refine Frame.next (Frame.halt10 ..) (by decide) ?_
            assumption
          ·
            refine Frame.ite ?_ ?_
            ·
              refine Frame.next (Frame.modGd ..) (by decide) ?_
              assumption
            ·
              assumption
    · clear_value v5
      extract_lets +onlyGivenNames v11
      refine Frame.via v11 ?_ (fun h12 => ?_)
      · unfold v11
        refine Frame.next (Frame.event ..) (by decide) ?_
        assumption
      · clear_value v11
        refine Frame.foldTrans ?_ ?_
        ·
          assumption
        · intro x13 b14
          beta_reduce
          refine Frame.ite ?_ ?_
          ·
            refine Frame.next (Frame.tryStart ..) (by decide) ?_
            exact Frame.refl _ _
          ·
            exact Frame.refl _ _

theorem Frame.testFrom (s : State) (t : Nat) : Frame [.recs, .regs, .snt, .sns, .ax, .gd, .cmd, .aux] s (State.testFrom s t) := by
  delta State.testFrom
  split
  ·
    refine Frame.next (Frame.markTest ..) (by decide) ?_
    refine Frame.next (Frame.onGd ..) (by decide) ?_
    exact Frame.refl _ _
  ·
    refine Frame.next (Frame.testEnd ..) (by decide) ?_
    exact Frame.refl _ _

theorem Frame.testBegin (s : State) (m : BitVec 14) : Frame [.recs, .regs, .snt, .sns, .ax, .gd, .cmd, .aux] s (State.testBegin s m) := by
  delta State.testBegin
  refine Frame.next (Frame.testFrom ..) (by decide) ?_
  refine Frame.next (Frame.onGd ..) (by decide) ?_
  exact Frame.refl _ _

theorem Frame.testAbort (s : State) (t : Nat) : Frame [.recs, .regs, .snt, .sns, .ax, .gd, .cmd, .aux] s (State.testAbort s t) := by
  delta State.testAbort
  refine Frame.ite ?_ ?_
  ·
    refine Frame.next (Frame.testFrom ..) (by decide) ?_
    refine Frame.next (Frame.markTest ..) (by decide) ?_
    refine Frame.next (Frame.onGd ..) (by decide) ?_
    exact Frame.refl _ _
  ·
    exact Frame.refl _ _

theorem Frame.testAbortAll (s : State) : Frame [.recs, .regs, .snt, .sns, .ax, .gd, .cmd, .aux] s (State.testAbortAll s) := by
  delta State.testAbortAll
  refine Frame.ite ?_ ?_
  ·
    extract_lets +onlyGivenNames v1
    refine Frame.next (Frame.testEnd ..) (by decide) ?_
    refine Frame.next (Frame.onGd ..) (by decide) ?_
    exact Frame.refl _ _
  ·
    exact Frame.refl _ _

theorem Frame.autoTest (s : State) : Frame [.recs, .regs, .snt, .sns, .ax, .gd, .cmd, .aux] s (State.autoTest s) := by
  delta State.autoTest
  refine Frame.ite ?_ ?_
  ·
    refine Frame.next (Frame.testBegin ..) (by decide) ?_
    exact Frame.refl _ _
  ·
    exact Frame.refl _ _

theorem Frame.noteShort (s : State) (a : Fin 10) (value : Nat) : Frame [.recs, .gd] s (State.noteShort s a value) := by
  delta State.noteShort
  extract_lets +onlyGivenNames v1
  refine Frame.ite ?_ ?_
  ·
    exact Frame.refl _ _
  ·
    refine Frame.next (Frame.event ..) (by decide) ?_
    refine Frame.next (Frame.modGd ..) (by decide) ?_
    exact Frame.refl _ _

theorem Frame.trip (s : State) (a : Fin 10) (k : TripKind) : Frame [.recs, .regs, .snt, .sns, .ax, .gd, .cmd, .aux] s (State.trip s a k) := by
  delta State.trip
  extract_lets +onlyGivenNames v1
  extract_lets +onlyGivenNames v2
  extract_lets +onlyGivenNames v3
  extract_lets +onlyGivenNames v4
  refine Frame.via v4 ?_ (fun h5 => ?_)
  · unfold v4
    refine Frame.next (Frame.testAbort ..) (by decide) ?_
    refine Frame.ite ?_ ?_
    ·
      exact Frame.refl _ _
    ·
      refine Frame.next (Frame.softOff ..) (by decide) ?_
      exact Frame.refl _ _
  · clear_value v4
    refine Frame.ite ?_ ?_
    ·
      extract_lets +onlyGivenNames v6
      extract_lets +onlyGivenNames v7
      refine Frame.via v7 ?_ (fun h8 => ?_)
      · unfold v7
        refine Frame.next (Frame.modGd ..) (by decide) ?_
        assumption
      · clear_value v7
        refine Frame.next (Frame.halt10 ..) (by decide) ?_
        refine Frame.next (Frame.event ..) (by decide) ?_
        assumption
    ·
      refine Frame.ite ?_ ?_
      ·
        extract_lets +onlyGivenNames v9
        extract_lets +onlyGivenNames v10
        extract_lets +onlyGivenNames v11
        extract_lets +onlyGivenNames v12
        extract_lets +onlyGivenNames v13
        refine Frame.via v13 ?_ (fun h14 => ?_)
        · unfold v13
          refine Frame.next (Frame.modGd ..) (by decide) ?_
          assumption
        · clear_value v13
          refine Frame.ite ?_ ?_
          ·
            refine Frame.next (Frame.noteShort ..) (by decide) ?_
            assumption
          ·
            assumption
      ·
        extract_lets +onlyGivenNames v15
        extract_lets +onlyGivenNames v16
        refine Frame.via v16 ?_ (fun h17 => ?_)
        · unfold v16
          refine Frame.next (Frame.modGd ..) (by decide) ?_
          assumption
        · clear_value v16
          extract_lets +onlyGivenNames v18
          refine Frame.via v18 ?_ (fun h19 => ?_)
          · unfold v18
            refine Frame.next (Frame.halt10 ..) (by decide) ?_
            assumption
          · clear_value v18
            refine Frame.ite ?_ ?_
            ·
              assumption
            ·
              refine Frame.next (Frame.noteShort ..) (by decide) ?_
              assumption

theorem Frame.freezeTrip (s : State) (a : Fin 10) (k : TripKind) : Frame [.ax, .gd, .aux] s (State.freezeTrip s a k) := by
  delta State.freezeTrip
  refine Frame.ite ?_ ?_
  ·
    exact Frame.refl _ _
  ·
    refine Frame.next (Frame.modGd ..) (by decide) ?_
    refine Frame.ite ?_ ?_
    ·
      exact Frame.refl _ _
    ·
      refine Frame.next (Frame.softOff ..) (by decide) ?_
      exact Frame.refl _ _

theorem Frame.desatTrip (s : State) (a : Fin 10) (leg : Fin 4) (high : Bool) : Frame [.recs, .regs, .snt, .sns, .ax, .gd, .cmd, .aux] s (State.desatTrip s a leg high) := by
  delta State.desatTrip
  refine Frame.ite ?_ ?_
  ·
    refine Frame.ite ?_ ?_
    ·
      refine Frame.next (Frame.trip ..) (by decide) ?_
      exact Frame.refl _ _
    ·
      refine Frame.next (Frame.freezeTrip ..) (by decide) ?_
      exact Frame.refl _ _
  ·
    exact Frame.refl _ _

theorem Frame.fastTrip (s : State) (n : Fin 6) : Frame [.recs, .regs, .snt, .sns, .ax, .gd, .cmd, .aux] s (State.fastTrip s n) := by
  delta State.fastTrip
  refine Frame.ite ?_ ?_
  ·
    exact Frame.refl _ _
  ·
    refine Frame.ite ?_ ?_
    ·
      refine Frame.next (Frame.trip ..) (by decide) ?_
      refine Frame.next (Frame.modGd ..) (by decide) ?_
      exact Frame.refl _ _
    ·
      refine Frame.ite ?_ ?_
      ·
        refine Frame.next (Frame.freezeTrip ..) (by decide) ?_
        exact Frame.refl _ _
      ·
        exact Frame.refl _ _

theorem Frame.linkReturn (s : State) (a : Fin 10) (leg : Fin 4) (low : Bool) : Frame [.recs, .regs, .snt, .sns, .ax, .gd, .cmd, .aux] s (State.linkReturn s a leg low) := by
  delta State.linkReturn
  extract_lets +onlyGivenNames v1
  refine Frame.ite ?_ ?_
  ·
    extract_lets +onlyGivenNames v2
    extract_lets +onlyGivenNames v3
    refine Frame.via v3 ?_ (fun h4 => ?_)
    · unfold v3
      refine Frame.next (Frame.modGd ..) (by decide) ?_
      exact Frame.refl _ _
    · clear_value v3
      refine Frame.ite ?_ ?_
      ·
        refine Frame.ite ?_ ?_
        ·
          refine Frame.next (Frame.trip ..) (by decide) ?_
          assumption
        ·
          refine Frame.next (Frame.freezeTrip ..) (by decide) ?_
          assumption
      ·
        assumption
  ·
    exact Frame.refl _ _

theorem Frame.softEnd (s : State) (a : Fin 10) : Frame [.recs, .ax, .gd, .aux] s (State.softEnd s a) := by
  delta State.softEnd
  split
  ·
    refine Frame.ite ?_ ?_
    ·
      extract_lets +onlyGivenNames v1
      refine Frame.via v1 ?_ (fun h2 => ?_)
      · unfold v1
        refine Frame.next (Frame.modGd ..) (by decide) ?_
        exact Frame.refl _ _
      · clear_value v1
        extract_lets +onlyGivenNames v3
        refine Frame.via v3 ?_ (fun h4 => ?_)
        · unfold v3
          split
          ·
            refine Frame.next (Frame.modAx ..) (by decide) ?_
            assumption
          ·
            refine Frame.next (Frame.modAux ..) (by decide) ?_
            assumption
        · clear_value v3
          refine Frame.ite ?_ ?_
          ·
            assumption
          ·
            refine Frame.next (Frame.noteShort ..) (by decide) ?_
            assumption
    ·
      exact Frame.refl _ _
  ·
    exact Frame.refl _ _

theorem Frame.shortAsc (s : State) (n : Fin 6) : Frame [.recs, .snt, .sns, .ax, .gd, .cmd] s (State.shortAsc s n) := by
  delta State.shortAsc
  extract_lets +onlyGivenNames v1
  split
  ·
    refine Frame.ite ?_ ?_
    ·
      exact Frame.refl _ _
    ·
      extract_lets +onlyGivenNames v2
      extract_lets +onlyGivenNames v3
      refine Frame.via v3 ?_ (fun h4 => ?_)
      · unfold v3
        refine Frame.next (Frame.noteShort ..) (by decide) ?_
        exact Frame.refl _ _
      · clear_value v3
        refine Frame.ite ?_ ?_
        ·
          assumption
        ·
          extract_lets +onlyGivenNames v5
          refine Frame.next (Frame.modAx ..) (by decide) ?_
          refine Frame.next (Frame.ascEnter ..) (by decide) ?_
          assumption
  ·
    exact Frame.refl _ _

theorem Frame.linkCheck (s : State) (a : Fin 10) : Frame [.recs, .regs, .snt, .ax, .gd, .cmd, .aux] s (State.linkCheck s a) := by
  delta State.linkCheck
  extract_lets +onlyGivenNames v1
  refine Frame.ite ?_ ?_
  ·
    refine Frame.next (Frame.haltNew10 ..) (by decide) ?_
    refine Frame.next (Frame.event ..) (by decide) ?_
    refine Frame.next (Frame.modGd ..) (by decide) ?_
    exact Frame.refl _ _
  ·
    exact Frame.refl _ _

theorem Frame.clearLatch (s : State) (a : Fin 10) : Frame [.recs, .regs, .snt, .ax, .gd, .cmd, .aux] s (State.clearLatch s a) := by
  delta State.clearLatch
  refine Frame.next (Frame.linkCheck ..) (by decide) ?_
  refine Frame.next (Frame.modGd ..) (by decide) ?_
  exact Frame.refl _ _

theorem Frame.chopOff (s : State) (c : Fin 4) : Frame [.gd] s (State.chopOff s c) := by
  delta State.chopOff
  extract_lets +onlyGivenNames v1
  refine Frame.next (Frame.onGd ..) (by decide) ?_
  exact Frame.refl _ _

theorem Frame.vdrvFault (s : State) (code mv : Nat) : Frame [.recs, .regs, .snt, .sns, .ax, .gd, .cmd, .aux] s (State.vdrvFault s code mv) := by
  delta State.vdrvFault
  extract_lets +onlyGivenNames v1
  extract_lets +onlyGivenNames v2
  refine Frame.via v2 ?_ (fun h3 => ?_)
  · unfold v2
    refine Frame.foldTrans ?_ ?_
    ·
      exact Frame.refl _ _
    · intro x4 b5
      beta_reduce
      refine Frame.next (Frame.softOff ..) (by decide) ?_
      exact Frame.refl _ _
  · clear_value v2
    extract_lets +onlyGivenNames v6
    refine Frame.via v6 ?_ (fun h7 => ?_)
    · unfold v6
      refine Frame.next (Frame.testAbortAll ..) (by decide) ?_
      refine Frame.foldTrans ?_ ?_
      ·
        assumption
      · intro x8 b9
        beta_reduce
        refine Frame.next (Frame.chopOff ..) (by decide) ?_
        exact Frame.refl _ _
    · clear_value v6
      extract_lets +onlyGivenNames v10
      refine Frame.via v10 ?_ (fun h11 => ?_)
      · unfold v10
        refine Frame.foldTrans ?_ ?_
        ·
          assumption
        · intro x12 b13
          beta_reduce
          refine Frame.ite ?_ ?_
          ·
            refine Frame.next (Frame.halt10 ..) (by decide) ?_
            exact Frame.refl _ _
          ·
            exact Frame.refl _ _
      · clear_value v10
        refine Frame.next (Frame.event ..) (by decide) ?_
        assumption

theorem Frame.vdrvUvSet (s : State) (mv : Nat) : Frame [.recs, .regs, .snt, .sns, .ax, .gd, .cmd, .aux] s (State.vdrvUvSet s mv) := by
  delta State.vdrvUvSet
  refine Frame.ite ?_ ?_
  ·
    exact Frame.refl _ _
  ·
    extract_lets +onlyGivenNames v1
    refine Frame.via v1 ?_ (fun h2 => ?_)
    · unfold v1
      refine Frame.next (Frame.onGd ..) (by decide) ?_
      exact Frame.refl _ _
    · clear_value v1
      refine Frame.ite ?_ ?_
      ·
        refine Frame.next (Frame.vdrvFault ..) (by decide) ?_
        assumption
      ·
        assumption

theorem Frame.vdrvOvSet (s : State) (mv : Nat) : Frame [.recs, .regs, .snt, .sns, .ax, .gd, .cmd, .aux] s (State.vdrvOvSet s mv) := by
  delta State.vdrvOvSet
  refine Frame.ite ?_ ?_
  ·
    exact Frame.refl _ _
  ·
    extract_lets +onlyGivenNames v1
    refine Frame.via v1 ?_ (fun h2 => ?_)
    · unfold v1
      refine Frame.next (Frame.onGd ..) (by decide) ?_
      exact Frame.refl _ _
    · clear_value v1
      refine Frame.ite ?_ ?_
      ·
        refine Frame.next (Frame.vdrvFault ..) (by decide) ?_
        assumption
      ·
        assumption

theorem Frame.vdrvClear (s : State) (ov : Bool) : Frame [.recs, .regs, .snt, .sns, .ax, .gd, .cmd, .aux] s (State.vdrvClear s ov) := by
  delta State.vdrvClear
  extract_lets +onlyGivenNames v1
  refine Frame.via v1 ?_ (fun h2 => ?_)
  · unfold v1
    refine Frame.next (Frame.onGd ..) (by decide) ?_
    exact Frame.refl _ _
  · clear_value v1
    refine Frame.ite ?_ ?_
    ·
      refine Frame.next (Frame.autoTest ..) (by decide) ?_
      assumption
    ·
      assumption

theorem Frame.ascOn (s : State) (n : Fin 6) (lowest : Nat) : Frame [.recs, .ax, .gd] s (State.ascOn s n lowest) := by
  delta State.ascOn
  extract_lets +onlyGivenNames v1
  extract_lets +onlyGivenNames v2
  refine Frame.ite ?_ ?_
  ·
    extract_lets +onlyGivenNames v3
    extract_lets +onlyGivenNames v4
    extract_lets +onlyGivenNames v5
    refine Frame.via v5 ?_ (fun h6 => ?_)
    · unfold v5
      refine Frame.next (Frame.modAx ..) (by decide) ?_
      exact Frame.refl _ _
    · clear_value v5
      extract_lets +onlyGivenNames v7
      refine Frame.via v7 ?_ (fun h8 => ?_)
      · unfold v7
        refine Frame.ite ?_ ?_
        ·
          assumption
        ·
          refine Frame.next (Frame.modGd ..) (by decide) ?_
          assumption
      · clear_value v7
        extract_lets +onlyGivenNames v9
        refine Frame.via v9 ?_ (fun h10 => ?_)
        · unfold v9
          refine Frame.ite ?_ ?_
          ·
            refine Frame.next (Frame.event ..) (by decide) ?_
            assumption
          ·
            assumption
        · clear_value v9
          extract_lets +onlyGivenNames v11
          refine Frame.via v11 ?_ (fun h12 => ?_)
          · unfold v11
            split
            ·
              refine Frame.next (Frame.event ..) (by decide) ?_
              assumption
            ·
              assumption
          · clear_value v11
            extract_lets +onlyGivenNames v13
            refine Frame.via v13 ?_ (fun h14 => ?_)
            · unfold v13
              refine Frame.ite ?_ ?_
              ·
                assumption
              ·
                refine Frame.next (Frame.event ..) (by decide) ?_
                assumption
            · clear_value v13
              split
              ·
                refine Frame.next (Frame.event ..) (by decide) ?_
                assumption
              ·
                assumption
  ·
    exact Frame.refl _ _

theorem Frame.chopWatch (s : State) (c : Fin 32) (v : Rat) (at' : Nat) : Frame [.gd] s (State.chopWatch s c v at') := by
  delta State.chopWatch
  refine Frame.foldTrans ?_ ?_
  ·
    exact Frame.refl _ _
  · intro x1 b2
    beta_reduce
    extract_lets +onlyGivenNames v3
    refine Frame.ite ?_ ?_
    ·
      extract_lets +onlyGivenNames v4
      refine Frame.ite ?_ ?_
      ·
        exact Frame.refl _ _
      ·
        refine Frame.next (Frame.onGd ..) (by decide) ?_
        exact Frame.refl _ _
    ·
      exact Frame.refl _ _

theorem Frame.testDone (s : State) (pass : Bool) : Frame [.recs, .regs, .snt, .sns, .ax, .gd, .cmd, .aux] s (State.testDone s pass) := by
  delta State.testDone
  refine Frame.ite ?_ ?_
  ·
    extract_lets +onlyGivenNames v1
    extract_lets +onlyGivenNames v2
    refine Frame.via v2 ?_ (fun h3 => ?_)
    · unfold v2
      refine Frame.ite ?_ ?_
      ·
        exact Frame.refl _ _
      ·
        refine Frame.next (Frame.onGd ..) (by decide) ?_
        exact Frame.refl _ _
    · clear_value v2
      refine Frame.ite ?_ ?_
      ·
        refine Frame.next (Frame.onGd ..) (by decide) ?_
        assumption
      ·
        extract_lets +onlyGivenNames v4
        refine Frame.via v4 ?_ (fun h5 => ?_)
        · unfold v4
          refine Frame.next (Frame.testFrom ..) (by decide) ?_
          refine Frame.next (Frame.markTest ..) (by decide) ?_
          assumption
        · clear_value v4
          refine Frame.ite ?_ ?_
          ·
            refine Frame.next (Frame.tryStart ..) (by decide) ?_
            assumption
          ·
            assumption
  ·
    exact Frame.refl _ _

theorem Frame.configRec (s : State) (code copy reason words : Nat) (addr : Option Nat) : Frame [.recs] s (State.configRec s code copy reason words addr) := by
  delta State.configRec
  refine Frame.next (Frame.emit ..) (by decide) ?_
  exact Frame.refl _ _

theorem Frame.commitEnd (s : State) (tag port accepted result code : Nat) (addr : Option Nat) (words : Nat) : Frame [.stg, .recs] s (State.commitEnd s tag port accepted result code addr words) := by
  delta State.commitEnd
  refine Frame.next (Frame.emit ..) (by decide) ?_
  refine Frame.next (Frame.onStg ..) (by decide) ?_
  exact Frame.refl _ _

theorem Frame.commitAbort (s : State) : Frame [.stg, .recs] s (State.commitAbort s) := by
  delta State.commitAbort
  split
  ·
    refine Frame.next (Frame.commitEnd ..) (by decide) ?_
    refine Frame.next (Frame.onStg ..) (by decide) ?_
    exact Frame.refl _ _
  ·
    exact Frame.refl _ _

theorem Frame.stgEmpty (s : State) : Frame [.stg, .recs] s (State.stgEmpty s) := by
  delta State.stgEmpty
  refine Frame.ite ?_ ?_
  ·
    exact Frame.refl _ _
  ·
    extract_lets +onlyGivenNames v1
    refine Frame.next (Frame.configRec ..) (by decide) ?_
    refine Frame.next (Frame.onStg ..) (by decide) ?_
    exact Frame.refl _ _

theorem Frame.modView (s : State) (bronze : Bool) (f : SafView → SafView) : Frame [.saf] s (State.modView s bronze f) := by
  delta State.modView
  refine Frame.next (Frame.onSaf ..) (by decide) ?_
  exact Frame.refl _ _

theorem Frame.modOut (s : State) (k : Fin 4) (f : SafOut → SafOut) : Frame [.saf] s (State.modOut s k f) := by
  delta State.modOut
  refine Frame.next (Frame.onSaf ..) (by decide) ?_
  exact Frame.refl _ _

theorem Frame.modConn (s : State) (c : Fin 16) (f : SafConn → SafConn) : Frame [.saf] s (State.modConn s c f) := by
  delta State.modConn
  refine Frame.next (Frame.onSaf ..) (by decide) ?_
  exact Frame.refl _ _

theorem Frame.modSrst (s : State) (f : SrstSt → SrstSt) : Frame [.saf] s (State.modSrst s f) := by
  delta State.modSrst
  refine Frame.next (Frame.onSaf ..) (by decide) ?_
  exact Frame.refl _ _

theorem Frame.safRec (s : State) (bronze : Bool) (time code detail a b : Nat) : Frame [.recs, .saf] s (State.safRec s bronze time code detail a b) := by
  delta State.safRec
  extract_lets +onlyGivenNames v1
  refine Frame.ite ?_ ?_
  ·
    exact Frame.refl _ _
  ·
    refine Frame.ite ?_ ?_
    ·
      refine Frame.next (Frame.onSaf ..) (by decide) ?_
      exact Frame.refl _ _
    ·
      refine Frame.next (Frame.emit ..) (by decide) ?_
      exact Frame.refl _ _

theorem Frame.pairWatch (s : State) (bronze : Bool) (p : Fin 9) : Frame [.saf] s (State.pairWatch s bronze p) := by
  delta State.pairWatch
  extract_lets +onlyGivenNames v1
  extract_lets +onlyGivenNames v2
  extract_lets +onlyGivenNames v3
  refine Frame.next (Frame.modView ..) (by decide) ?_
  exact Frame.refl _ _

theorem Frame.setFilt (s : State) (bronze : Bool) (p : Fin 9) (chB level : Bool) : Frame [.saf] s (State.setFilt s bronze p chB level) := by
  delta State.setFilt
  refine Frame.next (Frame.pairWatch ..) (by decide) ?_
  refine Frame.next (Frame.modView ..) (by decide) ?_
  exact Frame.refl _ _

theorem Frame.srstRec (s : State) (time result ms : Nat) : Frame [.recs, .saf] s (State.srstRec s time result ms) := by
  delta State.srstRec
  refine Frame.next (Frame.safRec ..) (by decide) ?_
  refine Frame.next (Frame.modSrst ..) (by decide) ?_
  exact Frame.refl _ _

theorem Frame.latch (s : State) (cause stamp : Nat) : Frame [.recs, .saf] s (State.latch s cause stamp) := by
  delta State.latch
  extract_lets +onlyGivenNames v1
  refine Frame.via v1 ?_ (fun h2 => ?_)
  · unfold v1
    refine Frame.ite ?_ ?_
    ·
      exact Frame.refl _ _
    ·
      refine Frame.next (Frame.onSaf ..) (by decide) ?_
      exact Frame.refl _ _
  · clear_value v1
    split
    ·
      refine Frame.next (Frame.srstRec ..) (by decide) ?_
      refine Frame.next (Frame.modSrst ..) (by decide) ?_
      assumption
    ·
      assumption

theorem Frame.soDrop (s : State) (bronze : Bool) (k : Fin 4) : Frame [.saf] s (State.soDrop s bronze k) := by
  delta State.soDrop
  extract_lets +onlyGivenNames v1
  refine Frame.next (Frame.modOut ..) (by decide) ?_
  exact Frame.refl _ _

theorem Frame.soOff (s : State) (bronze : Bool) : Frame [.saf] s (State.soOff s bronze) := by
  delta State.soOff
  refine Frame.foldTrans ?_ ?_
  ·
    exact Frame.refl _ _
  · intro x1 b2
    beta_reduce
    extract_lets +onlyGivenNames v3
    refine Frame.ite ?_ ?_
    ·
      refine Frame.next (Frame.soDrop ..) (by decide) ?_
      exact Frame.refl _ _
    ·
      exact Frame.refl _ _

theorem Frame.sbcOff (s : State) (bronze : Bool) (k : Fin 4) (lead : Nat) : Frame [.recs, .saf] s (State.sbcOff s bronze k lead) := by
  delta State.sbcOff
  extract_lets +onlyGivenNames v1
  refine Frame.ite ?_ ?_
  ·
    extract_lets +onlyGivenNames v2
    refine Frame.via v2 ?_ (fun h3 => ?_)
    · unfold v2
      refine Frame.next (Frame.modOut ..) (by decide) ?_
      exact Frame.refl _ _
    · clear_value v2
      refine Frame.ite ?_ ?_
      ·
        refine Frame.next (Frame.safRec ..) (by decide) ?_
        refine Frame.next (Frame.soDrop ..) (by decide) ?_
        assumption
      ·
        refine Frame.ite ?_ ?_
        ·
          refine Frame.next (Frame.soDrop ..) (by decide) ?_
          assumption
        ·
          assumption
  ·
    exact Frame.refl _ _

theorem Frame.stoTold (s : State) : Frame [.recs, .regs, .snt, .sns, .ax, .gd, .cmd, .aux, .saf] s (State.stoTold s) := by
  delta State.stoTold
  refine Frame.ite ?_ ?_
  ·
    exact Frame.refl _ _
  ·
    extract_lets +onlyGivenNames v1
    refine Frame.via v1 ?_ (fun h2 => ?_)
    · unfold v1
      refine Frame.next (Frame.testAbortAll ..) (by decide) ?_
      refine Frame.next (Frame.onSaf ..) (by decide) ?_
      exact Frame.refl _ _
    · clear_value v1
      extract_lets +onlyGivenNames v3
      refine Frame.via v3 ?_ (fun h4 => ?_)
      · unfold v3
        refine Frame.next (Frame.onGd ..) (by decide) ?_
        assumption
      · clear_value v3
        extract_lets +onlyGivenNames v5
        refine Frame.via v5 ?_ (fun h6 => ?_)
        · unfold v5
          refine Frame.foldTrans ?_ ?_
          ·
            assumption
          · intro x7 b8
            beta_reduce
            refine Frame.next (Frame.axSto ..) (by decide) ?_
            exact Frame.refl _ _
        · clear_value v5
          refine Frame.foldTrans ?_ ?_
          ·
            assumption
          · intro x9 b10
            beta_reduce
            refine Frame.next (Frame.auxSto ..) (by decide) ?_
            exact Frame.refl _ _

theorem Frame.stoActs (s : State) (cause stamp : Nat) : Frame [.saf] s (State.stoActs s cause stamp) := by
  delta State.stoActs
  refine Frame.ite ?_ ?_
  ·
    exact Frame.refl _ _
  ·
    refine Frame.next (Frame.onSaf ..) (by decide) ?_
    exact Frame.refl _ _

theorem Frame.outputsOff (s : State) (bronze : Bool) : Frame [.recs, .saf] s (State.outputsOff s bronze) := by
  delta State.outputsOff
  refine Frame.next (Frame.soOff ..) (by decide) ?_
  refine Frame.foldTrans ?_ ?_
  ·
    exact Frame.refl _ _
  · intro x1 b2
    beta_reduce
    refine Frame.next (Frame.sbcOff ..) (by decide) ?_
    exact Frame.refl _ _

theorem Frame.pathAct (s : State) (obs b c : Bool) (cause stamp : Nat) : Frame [.recs, .regs, .snt, .sns, .ax, .gd, .cmd, .aux, .saf] s (State.pathAct s obs b c cause stamp) := by
  delta State.pathAct
  extract_lets +onlyGivenNames v1
  extract_lets +onlyGivenNames v2
  extract_lets +onlyGivenNames v3
  refine Frame.via v3 ?_ (fun h4 => ?_)
  · unfold v3
    refine Frame.next (Frame.stoActs ..) (by decide) ?_
    refine Frame.next (Frame.onGd ..) (by decide) ?_
    exact Frame.refl _ _
  · clear_value v3
    extract_lets +onlyGivenNames v5
    refine Frame.via v5 ?_ (fun h6 => ?_)
    · unfold v5
      refine Frame.ite ?_ ?_
      ·
        refine Frame.next (Frame.stoTold ..) (by decide) ?_
        assumption
      ·
        assumption
    · clear_value v5
      extract_lets +onlyGivenNames v7
      refine Frame.via v7 ?_ (fun h8 => ?_)
      · unfold v7
        refine Frame.ite ?_ ?_
        ·
          refine Frame.next (Frame.outputsOff ..) (by decide) ?_
          assumption
        ·
          assumption
      · clear_value v7
        extract_lets +onlyGivenNames v9
        refine Frame.via v9 ?_ (fun h10 => ?_)
        · unfold v9
          refine Frame.ite ?_ ?_
          ·
            refine Frame.next (Frame.outputsOff ..) (by decide) ?_
            assumption
          ·
            assumption
        · clear_value v9
          refine Frame.ite ?_ ?_
          ·
            refine Frame.next (Frame.safRec ..) (by decide) ?_
            assumption
          ·
            assumption

theorem Frame.enterSafe (s : State) (cause action : Nat) (flags : Nat) : Frame [.mode, .stg, .recs, .cp, .saf] s (State.enterSafe s cause action flags) := by
  delta State.enterSafe
  split
  ·
    refine Frame.next (Frame.commitAbort ..) (by decide) ?_
    refine Frame.next (Frame.changeMode ..) (by decide) ?_
    refine Frame.next (Frame.onSaf ..) (by decide) ?_
    exact Frame.refl _ _
  ·
    refine Frame.next (Frame.commitAbort ..) (by decide) ?_
    refine Frame.next (Frame.changeMode ..) (by decide) ?_
    refine Frame.next (Frame.onSaf ..) (by decide) ?_
    exact Frame.refl _ _
  ·
    refine Frame.next (Frame.commitAbort ..) (by decide) ?_
    refine Frame.next (Frame.changeMode ..) (by decide) ?_
    refine Frame.next (Frame.onSaf ..) (by decide) ?_
    exact Frame.refl _ _
  ·
    refine Frame.next (Frame.commitAbort ..) (by decide) ?_
    refine Frame.next (Frame.changeMode ..) (by decide) ?_
    refine Frame.next (Frame.onSaf ..) (by decide) ?_
    exact Frame.refl _ _
  ·
    exact Frame.refl _ _

theorem Frame.ss1Stop (s : State) : Frame [.recs, .snt, .ax, .gd, .cmd, .aux] s (State.ss1Stop s) := by
  delta State.ss1Stop
  refine Frame.ite ?_ ?_
  ·
    exact Frame.refl _ _
  ·
    extract_lets +onlyGivenNames v1
    refine Frame.via v1 ?_ (fun h2 => ?_)
    · unfold v1
      refine Frame.foldTrans ?_ ?_
      ·
        exact Frame.refl _ _
      · intro x3 b4
        beta_reduce
        refine Frame.ite ?_ ?_
        ·
          exact Frame.refl _ _
        ·
          refine Frame.ite ?_ ?_
          ·
            refine Frame.next (Frame.axDown ..) (by decide) ?_
            exact Frame.refl _ _
          ·
            refine Frame.next (Frame.axStop ..) (by decide) ?_
            refine Frame.next (Frame.crashEnd ..) (by decide) ?_
            exact Frame.refl _ _
    · clear_value v1
      refine Frame.foldTrans ?_ ?_
      ·
        assumption
      · intro x5 b6
        beta_reduce
        refine Frame.ite ?_ ?_
        ·
          exact Frame.refl _ _
        ·
          refine Frame.ite ?_ ?_
          ·
            refine Frame.next (Frame.auxDown ..) (by decide) ?_
            exact Frame.refl _ _
          ·
            refine Frame.next (Frame.auxStop ..) (by decide) ?_
            exact Frame.refl _ _

theorem Frame.ss1Begin (s : State) (bronze : Bool) (k : Nat) : Frame [.recs, .snt, .ax, .gd, .cmd, .aux, .saf] s (State.ss1Begin s bronze k) := by
  delta State.ss1Begin
  extract_lets +onlyGivenNames v1
  refine Frame.ite ?_ ?_
  ·
    refine Frame.next (Frame.onSaf ..) (by decide) ?_
    exact Frame.refl _ _
  ·
    extract_lets +onlyGivenNames v2
    extract_lets +onlyGivenNames v3
    refine Frame.via v3 ?_ (fun h4 => ?_)
    · unfold v3
      refine Frame.next (Frame.onSaf ..) (by decide) ?_
      exact Frame.refl _ _
    · clear_value v3
      refine Frame.ite ?_ ?_
      ·
        refine Frame.next (Frame.ss1Stop ..) (by decide) ?_
        assumption
      ·
        assumption

theorem Frame.safAct (s : State) (obs b c : Bool) (cause stamp : Nat) : Frame [.mode, .stg, .recs, .regs, .snt, .cp, .sns, .ax, .gd, .cmd, .aux, .saf] s (State.safAct s obs b c cause stamp) := by
  delta State.safAct
  refine Frame.ite ?_ ?_
  ·
    extract_lets +onlyGivenNames v1
    extract_lets +onlyGivenNames v2
    refine Frame.via v2 ?_ (fun h3 => ?_)
    · unfold v2
      refine Frame.next (Frame.latch ..) (by decide) ?_
      exact Frame.refl _ _
    · clear_value v2
      extract_lets +onlyGivenNames v4
      refine Frame.via v4 ?_ (fun h5 => ?_)
      · unfold v4
        refine Frame.ite ?_ ?_
        ·
          refine Frame.next (Frame.enterSafe ..) (by decide) ?_
          assumption
        ·
          assumption
      · clear_value v4
        refine Frame.ite ?_ ?_
        ·
          refine Frame.next (Frame.pathAct ..) (by decide) ?_
          assumption
        ·
          refine Frame.foldTrans ?_ ?_
          ·
            assumption
          · intro x6 b7
            beta_reduce
            extract_lets +onlyGivenNames v8
            refine Frame.via v8 ?_ (fun h9 => ?_)
            · unfold v8
              refine Frame.ite ?_ ?_
              ·
                refine Frame.next (Frame.ss1Begin ..) (by decide) ?_
                exact Frame.refl _ _
              ·
                exact Frame.refl _ _
            · clear_value v8
              refine Frame.ite ?_ ?_
              ·
                refine Frame.next (Frame.ss1Begin ..) (by decide) ?_
                assumption
              ·
                assumption
  ·
    exact Frame.refl _ _

theorem Frame.safEval (s : State) (bronze : Bool) : Frame [.mode, .stg, .recs, .regs, .snt, .cp, .sns, .ax, .gd, .cmd, .aux, .saf] s (State.safEval s bronze) := by
  delta State.safEval
  extract_lets +onlyGivenNames v1
  extract_lets +onlyGivenNames v2
  extract_lets +onlyGivenNames v3
  extract_lets +onlyGivenNames v4
  refine Frame.via v4 ?_ (fun h5 => ?_)
  · unfold v4
    refine Frame.next (Frame.modView ..) (by decide) ?_
    exact Frame.refl _ _
  · clear_value v4
    refine Frame.foldTrans ?_ ?_
    ·
      assumption
    · intro x6 b7
      beta_reduce
      extract_lets +onlyGivenNames v8
      extract_lets +onlyGivenNames v9
      extract_lets +onlyGivenNames v10
      extract_lets +onlyGivenNames v11
      refine Frame.via v11 ?_ (fun h12 => ?_)
      · unfold v11
        refine Frame.ite ?_ ?_
        ·
          refine Frame.next (Frame.safRec ..) (by decide) ?_
          exact Frame.refl _ _
        ·
          exact Frame.refl _ _
      · clear_value v11
        refine Frame.next (Frame.safAct ..) (by decide) ?_
        assumption

theorem Frame.chanFault (s : State) (sub : Nat) (b c bronze : Bool) : Frame [.mode, .stg, .recs, .regs, .snt, .cp, .sns, .ax, .gd, .cmd, .aux, .saf] s (State.chanFault s sub b c bronze) := by
  delta State.chanFault
  refine Frame.ite ?_ ?_
  ·
    exact Frame.refl _ _
  ·
    refine Frame.next (Frame.safAct ..) (by decide) ?_
    refine Frame.next (Frame.safRec ..) (by decide) ?_
    exact Frame.refl _ _

theorem Frame.soFault (s : State) (bronze : Bool) (k : Fin 4) (kind mv : Nat) : Frame [.mode, .stg, .recs, .regs, .snt, .cp, .sns, .ax, .gd, .cmd, .aux, .saf] s (State.soFault s bronze k kind mv) := by
  delta State.soFault
  extract_lets +onlyGivenNames v1
  refine Frame.ite ?_ ?_
  ·
    exact Frame.refl _ _
  ·
    extract_lets +onlyGivenNames v2
    refine Frame.via v2 ?_ (fun h3 => ?_)
    · unfold v2
      refine Frame.next (Frame.soOff ..) (by decide) ?_
      refine Frame.next (Frame.modOut ..) (by decide) ?_
      exact Frame.refl _ _
    · clear_value v2
      extract_lets +onlyGivenNames v4
      refine Frame.via v4 ?_ (fun h5 => ?_)
      · unfold v4
        refine Frame.ite ?_ ?_
        ·
          assumption
        ·
          refine Frame.next (Frame.safRec ..) (by decide) ?_
          assumption
      · clear_value v4
        refine Frame.next (Frame.safAct ..) (by decide) ?_
        assumption

theorem Frame.edmFault (s : State) (bronze : Bool) (k : Fin 4) (kind : Nat) : Frame [.mode, .stg, .recs, .regs, .snt, .freeIx, .cp, .sns, .ax, .gd, .cmd, .aux, .saf] s (State.edmFault s bronze k kind) := by
  delta State.edmFault
  extract_lets +onlyGivenNames v1
  refine Frame.next (Frame.soFault ..) (by decide) ?_
  refine Frame.next (Frame.onFreeIx ..) (by decide) ?_
  exact Frame.refl _ _

theorem Frame.soOn (s : State) (k : Fin 4) : Frame [.saf] s (State.soOn s k) := by
  delta State.soOn
  extract_lets +onlyGivenNames v1
  refine Frame.next (Frame.modOut ..) (by decide) ?_
  exact Frame.refl _ _

theorem Frame.soEval (s : State) : Frame [.mode, .stg, .recs, .regs, .snt, .freeIx, .cp, .sns, .ax, .gd, .cmd, .aux, .saf] s (State.soEval s) := by
  delta State.soEval
  refine Frame.ite ?_ ?_
  ·
    refine Frame.next (Frame.soOff ..) (by decide) ?_
    exact Frame.refl _ _
  ·
    refine Frame.foldTrans ?_ ?_
    ·
      refine Frame.next (Frame.soOff ..) (by decide) ?_
      refine Frame.next (Frame.soOff ..) (by decide) ?_
      exact Frame.refl _ _
    · intro x1 b2
      beta_reduce
      extract_lets +onlyGivenNames v3
      refine Frame.ite ?_ ?_
      ·
        refine Frame.ite ?_ ?_
        ·
          refine Frame.next (Frame.edmFault ..) (by decide) ?_
          refine Frame.next (Frame.edmFault ..) (by decide) ?_
          exact Frame.refl _ _
        ·
          refine Frame.next (Frame.soOn ..) (by decide) ?_
          exact Frame.refl _ _
      ·
        exact Frame.refl _ _

theorem Frame.soRequest (s : State) : Frame [.saf] s (State.soRequest s) := by
  delta State.soRequest
  extract_lets +onlyGivenNames v1
  extract_lets +onlyGivenNames v2
  refine Frame.foldTrans ?_ ?_
  ·
    exact Frame.refl _ _
  · intro x3 b4
    beta_reduce
    extract_lets +onlyGivenNames v5
    refine Frame.next (Frame.modOut ..) (by decide) ?_
    exact Frame.refl _ _

theorem Frame.ss1Viol (s : State) (bronze : Bool) (n : Fin 6) (e : Rat) (time : Nat) : Frame [.mode, .stg, .recs, .regs, .snt, .cp, .sns, .ax, .gd, .cmd, .aux, .saf] s (State.ss1Viol s bronze n e time) := by
  delta State.ss1Viol
  refine Frame.next (Frame.safAct ..) (by decide) ?_
  refine Frame.next (Frame.safRec ..) (by decide) ?_
  exact Frame.refl _ _

theorem Frame.ss1Monitor (s : State) : Frame [.mode, .stg, .recs, .regs, .snt, .cp, .sns, .ax, .gd, .cmd, .aux, .saf] s (State.ss1Monitor s) := by
  delta State.ss1Monitor
  split
  ·
    refine Frame.next (Frame.ss1Viol ..) (by decide) ?_
    exact Frame.refl _ _
  ·
    exact Frame.refl _ _

theorem Frame.stillWatch (s : State) (bronze : Bool) : Frame [.saf] s (State.stillWatch s bronze) := by
  delta State.stillWatch
  extract_lets +onlyGivenNames v1
  refine Frame.ite ?_ ?_
  ·
    exact Frame.refl _ _
  ·
    refine Frame.next (Frame.modView ..) (by decide) ?_
    exact Frame.refl _ _

theorem Frame.ss1Bronze (s : State) (n : Fin 6) (sample : Nat) : Frame [.mode, .stg, .recs, .regs, .snt, .cp, .sns, .ax, .gd, .cmd, .aux, .saf] s (State.ss1Bronze s n sample) := by
  delta State.ss1Bronze
  split
  ·
    refine Frame.next (Frame.ss1Viol ..) (by decide) ?_
    exact Frame.refl _ _
  ·
    refine Frame.next (Frame.stillWatch ..) (by decide) ?_
    exact Frame.refl _ _

theorem Frame.mirror (s : State) : Frame [.saf] s (State.mirror s) := by
  delta State.mirror
  extract_lets +onlyGivenNames v1
  extract_lets +onlyGivenNames v2
  refine Frame.next (Frame.onSaf ..) (by decide) ?_
  exact Frame.refl _ _

theorem Frame.modRecv (s : State) (bronze : Bool) (c : Fin 16) (f : SafRecv → SafRecv) : Frame [.saf] s (State.modRecv s bronze c f) := by
  delta State.modRecv
  refine Frame.next (Frame.modView ..) (by decide) ?_
  exact Frame.refl _ _

theorem Frame.envelopeIn (s : State) (c : Fin 16) (b : List Byte) (stamp : Nat) : Frame [.recs, .saf] s (State.envelopeIn s c b stamp) := by
  delta State.envelopeIn
  refine Frame.ite ?_ ?_
  ·
    exact Frame.refl _ _
  ·
    extract_lets +onlyGivenNames v1
    refine Frame.via v1 ?_ (fun h2 => ?_)
    · unfold v1
      refine Frame.ite ?_ ?_
      ·
        refine Frame.next (Frame.modRecv ..) (by decide) ?_
        exact Frame.refl _ _
      ·
        exact Frame.refl _ _
    · clear_value v1
      refine Frame.ite ?_ ?_
      ·
        refine Frame.next (Frame.modConn ..) (by decide) ?_
        assumption
      ·
        extract_lets +onlyGivenNames v3
        extract_lets +onlyGivenNames v4
        extract_lets +onlyGivenNames v5
        refine Frame.via v5 ?_ (fun h6 => ?_)
        · unfold v5
          refine Frame.next (Frame.modConn ..) (by decide) ?_
          refine Frame.next (Frame.modRecv ..) (by decide) ?_
          assumption
        · clear_value v5
          refine Frame.ite ?_ ?_
          ·
            refine Frame.next (Frame.modConn ..) (by decide) ?_
            refine Frame.next (Frame.safRec ..) (by decide) ?_
            assumption
          ·
            assumption

theorem Frame.connectionLost (s : State) (c : Fin 16) (bronze : Bool) : Frame [.mode, .stg, .recs, .regs, .snt, .cp, .sns, .ax, .gd, .cmd, .aux, .saf] s (State.connectionLost s c bronze) := by
  delta State.connectionLost
  extract_lets +onlyGivenNames v1
  refine Frame.ite ?_ ?_
  ·
    extract_lets +onlyGivenNames v2
    refine Frame.via v2 ?_ (fun h3 => ?_)
    · unfold v2
      refine Frame.ite ?_ ?_
      ·
        exact Frame.refl _ _
      ·
        refine Frame.next (Frame.modConn ..) (by decide) ?_
        refine Frame.next (Frame.safRec ..) (by decide) ?_
        exact Frame.refl _ _
    · clear_value v2
      extract_lets +onlyGivenNames v4
      refine Frame.via v4 ?_ (fun h5 => ?_)
      · unfold v4
        refine Frame.next (Frame.modConn ..) (by decide) ?_
        refine Frame.next (Frame.modRecv ..) (by decide) ?_
        assumption
      · clear_value v4
        refine Frame.ite ?_ ?_
        ·
          assumption
        ·
          refine Frame.next (Frame.safEval ..) (by decide) ?_
          refine Frame.next (Frame.safAct ..) (by decide) ?_
          assumption
  ·
    exact Frame.refl _ _

theorem Frame.edmRead (s : State) (edm : BitVec 4) : Frame [.saf] s (State.edmRead s edm) := by
  delta State.edmRead
  extract_lets +onlyGivenNames v1
  refine Frame.foldTrans ?_ ?_
  ·
    refine Frame.next (Frame.onSaf ..) (by decide) ?_
    exact Frame.refl _ _
  · intro x2 b3
    beta_reduce
    refine Frame.next (Frame.modOut ..) (by decide) ?_
    exact Frame.refl _ _

theorem Frame.cobaltFilters (s : State) : Frame [.saf] s (State.cobaltFilters s) := by
  delta State.cobaltFilters
  refine Frame.foldTrans ?_ ?_
  ·
    exact Frame.refl _ _
  · intro x1 b2
    beta_reduce
    extract_lets +onlyGivenNames v3
    refine Frame.via v3 ?_ (fun h4 => ?_)
    · unfold v3
      refine Frame.ite ?_ ?_
      ·
        refine Frame.next (Frame.setFilt ..) (by decide) ?_
        exact Frame.refl _ _
      ·
        exact Frame.refl _ _
    · clear_value v3
      refine Frame.ite ?_ ?_
      ·
        refine Frame.next (Frame.setFilt ..) (by decide) ?_
        assumption
      ·
        assumption

theorem Frame.cobaltSample (s : State) (edm : BitVec 4) : Frame [.saf] s (State.cobaltSample s edm) := by
  delta State.cobaltSample
  refine Frame.ite ?_ ?_
  ·
    refine Frame.ite ?_ ?_
    ·
      refine Frame.next (Frame.cobaltFilters ..) (by decide) ?_
      refine Frame.next (Frame.edmRead ..) (by decide) ?_
      exact Frame.refl _ _
    ·
      exact Frame.refl _ _
  ·
    refine Frame.next (Frame.edmRead ..) (by decide) ?_
    exact Frame.refl _ _

theorem Frame.readEnvelopes (s : State) : Frame [.recs, .saf, .can] s (State.readEnvelopes s) := by
  delta State.readEnvelopes
  refine Frame.foldTrans ?_ ?_
  ·
    exact Frame.refl _ _
  · intro x1 b2
    beta_reduce
    refine Frame.foldTrans ?_ ?_
    ·
      exact Frame.refl _ _
    · intro x3 b4
      beta_reduce
      split
      ·
        refine Frame.next (Frame.envelopeIn ..) (by decide) ?_
        refine Frame.next (Frame.onCan ..) (by decide) ?_
        exact Frame.refl _ _
      ·
        exact Frame.refl _ _

theorem Frame.cobaltBack (s : State) : Frame [.mode, .stg, .recs, .regs, .snt, .cp, .sns, .ax, .gd, .cmd, .aux, .saf] s (State.cobaltBack s) := by
  delta State.cobaltBack
  refine Frame.ite ?_ ?_
  ·
    exact Frame.refl _ _
  ·
    extract_lets +onlyGivenNames v1
    refine Frame.via v1 ?_ (fun h2 => ?_)
    · unfold v1
      refine Frame.foldTrans ?_ ?_
      ·
        refine Frame.next (Frame.onSaf ..) (by decide) ?_
        exact Frame.refl _ _
      · intro x3 b4
        beta_reduce
        refine Frame.next (Frame.emit ..) (by decide) ?_
        exact Frame.refl _ _
    · clear_value v1
      extract_lets +onlyGivenNames v5
      refine Frame.via v5 ?_ (fun h6 => ?_)
      · unfold v5
        split
        ·
          refine Frame.next (Frame.enterSafe ..) (by decide) ?_
          assumption
        ·
          assumption
      · clear_value v5
        refine Frame.ite ?_ ?_
        ·
          refine Frame.next (Frame.stoTold ..) (by decide) ?_
          assumption
        ·
          refine Frame.ite ?_ ?_
          ·
            assumption
          ·
            refine Frame.next (Frame.ss1Stop ..) (by decide) ?_
            assumption

theorem Frame.cobaltScan (s : State) (sramOk instrOk inTime : Bool) : Frame [.mode, .stg, .recs, .regs, .snt, .freeIx, .cp, .sns, .ax, .gd, .cmd, .aux, .saf, .can] s (State.cobaltScan s sramOk instrOk inTime) := by
  delta State.cobaltScan
  refine Frame.ite ?_ ?_
  ·
    extract_lets +onlyGivenNames v1
    refine Frame.via v1 ?_ (fun h2 => ?_)
    · unfold v1
      refine Frame.next (Frame.cobaltBack ..) (by decide) ?_
      exact Frame.refl _ _
    · clear_value v1
      extract_lets +onlyGivenNames v3
      refine Frame.via v3 ?_ (fun h4 => ?_)
      · unfold v3
        refine Frame.ite ?_ ?_
        ·
          assumption
        ·
          refine Frame.next (Frame.chanFault ..) (by decide) ?_
          assumption
      · clear_value v3
        extract_lets +onlyGivenNames v5
        refine Frame.via v5 ?_ (fun h6 => ?_)
        · unfold v5
          refine Frame.ite ?_ ?_
          ·
            assumption
          ·
            refine Frame.next (Frame.chanFault ..) (by decide) ?_
            assumption
        · clear_value v5
          extract_lets +onlyGivenNames v7
          refine Frame.via v7 ?_ (fun h8 => ?_)
          · unfold v7
            refine Frame.ite ?_ ?_
            ·
              assumption
            ·
              refine Frame.next (Frame.chanFault ..) (by decide) ?_
              assumption
          · clear_value v7
            extract_lets +onlyGivenNames v9
            refine Frame.via v9 ?_ (fun h10 => ?_)
            · unfold v9
              refine Frame.next (Frame.readEnvelopes ..) (by decide) ?_
              assumption
            · clear_value v9
              extract_lets +onlyGivenNames v11
              refine Frame.via v11 ?_ (fun h12 => ?_)
              · unfold v11
                refine Frame.next (Frame.safEval ..) (by decide) ?_
                refine Frame.next (Frame.safEval ..) (by decide) ?_
                assumption
              · clear_value v11
                extract_lets +onlyGivenNames v13
                refine Frame.via v13 ?_ (fun h14 => ?_)
                · unfold v13
                  refine Frame.ite ?_ ?_
                  ·
                    refine Frame.next (Frame.pathAct ..) (by decide) ?_
                    assumption
                  ·
                    assumption
                · clear_value v13
                  extract_lets +onlyGivenNames v15
                  refine Frame.via v15 ?_ (fun h16 => ?_)
                  · unfold v15
                    refine Frame.next (Frame.stillWatch ..) (by decide) ?_
                    refine Frame.next (Frame.stillWatch ..) (by decide) ?_
                    refine Frame.next (Frame.ss1Monitor ..) (by decide) ?_
                    assumption
                  · clear_value v15
                    refine Frame.next (Frame.mirror ..) (by decide) ?_
                    refine Frame.next (Frame.soEval ..) (by decide) ?_
                    assumption
  ·
    exact Frame.refl _ _

theorem Frame.bronzeFollows (s : State) : Frame [.recs, .regs, .snt, .sns, .ax, .gd, .cmd, .aux, .saf] s (State.bronzeFollows s) := by
  delta State.bronzeFollows
  extract_lets +onlyGivenNames v1
  refine Frame.via v1 ?_ (fun h2 => ?_)
  · unfold v1
    refine Frame.ite ?_ ?_
    ·
      refine Frame.next (Frame.pathAct ..) (by decide) ?_
      exact Frame.refl _ _
    ·
      exact Frame.refl _ _
  · clear_value v1
    refine Frame.foldTrans ?_ ?_
    ·
      assumption
    · intro x3 b4
      beta_reduce
      refine Frame.ite ?_ ?_
      ·
        refine Frame.next (Frame.soDrop ..) (by decide) ?_
        exact Frame.refl _ _
      ·
        exact Frame.refl _ _

theorem Frame.safetyCompare (s : State) (differs : Bool) : Frame [.mode, .stg, .recs, .regs, .snt, .cp, .sns, .ax, .gd, .cmd, .aux, .saf] s (State.safetyCompare s differs) := by
  delta State.safetyCompare
  refine Frame.ite ?_ ?_
  ·
    extract_lets +onlyGivenNames v1
    extract_lets +onlyGivenNames v2
    extract_lets +onlyGivenNames v3
    extract_lets +onlyGivenNames v4
    extract_lets +onlyGivenNames v5
    extract_lets +onlyGivenNames v6
    extract_lets +onlyGivenNames v7
    refine Frame.via v7 ?_ (fun h8 => ?_)
    · unfold v7
      refine Frame.next (Frame.onSaf ..) (by decide) ?_
      exact Frame.refl _ _
    · clear_value v7
      extract_lets +onlyGivenNames v9
      refine Frame.next (Frame.bronzeFollows ..) (by decide) ?_
      refine Frame.ite ?_ ?_
      ·
        refine Frame.next (Frame.chanFault ..) (by decide) ?_
        assumption
      ·
        assumption
  ·
    exact Frame.refl _ _

theorem Frame.compareStale (s : State) (atBronze : Bool) : Frame [.mode, .stg, .recs, .regs, .snt, .cp, .sns, .ax, .gd, .cmd, .aux, .saf] s (State.compareStale s atBronze) := by
  delta State.compareStale
  refine Frame.ite ?_ ?_
  ·
    refine Frame.ite ?_ ?_
    ·
      refine Frame.next (Frame.chanFault ..) (by decide) ?_
      refine Frame.next (Frame.onSaf ..) (by decide) ?_
      exact Frame.refl _ _
    ·
      refine Frame.next (Frame.chanFault ..) (by decide) ?_
      exact Frame.refl _ _
  ·
    exact Frame.refl _ _

theorem Frame.vcoreSWindow (s : State) : Frame [.mode, .stg, .recs, .regs, .snt, .cp, .sns, .ax, .gd, .cmd, .aux, .saf] s (State.vcoreSWindow s) := by
  delta State.vcoreSWindow
  refine Frame.ite ?_ ?_
  ·
    refine Frame.next (Frame.chanFault ..) (by decide) ?_
    refine Frame.next (Frame.onSaf ..) (by decide) ?_
    exact Frame.refl _ _
  ·
    exact Frame.refl _ _

theorem Frame.cobaltSupply (s : State) : Frame [.mode, .stg, .recs, .regs, .snt, .cp, .sns, .ax, .gd, .cmd, .aux, .saf] s (State.cobaltSupply s) := by
  delta State.cobaltSupply
  refine Frame.ite ?_ ?_
  ·
    refine Frame.next (Frame.chanFault ..) (by decide) ?_
    exact Frame.refl _ _
  ·
    exact Frame.refl _ _

theorem Frame.romCheck (s : State) (ok : Bool) : Frame [.mode, .stg, .recs, .regs, .snt, .cp, .sns, .ax, .gd, .cmd, .aux, .saf] s (State.romCheck s ok) := by
  delta State.romCheck
  refine Frame.ite ?_ ?_
  ·
    extract_lets +onlyGivenNames v1
    refine Frame.via v1 ?_ (fun h2 => ?_)
    · unfold v1
      refine Frame.next (Frame.onSaf ..) (by decide) ?_
      exact Frame.refl _ _
    · clear_value v1
      refine Frame.ite ?_ ?_
      ·
        assumption
      ·
        refine Frame.next (Frame.chanFault ..) (by decide) ?_
        assumption
  ·
    exact Frame.refl _ _

theorem Frame.mirrorStale (s : State) : Frame [.mode, .stg, .recs, .regs, .snt, .cp, .sns, .ax, .gd, .cmd, .aux, .saf] s (State.mirrorStale s) := by
  delta State.mirrorStale
  refine Frame.ite ?_ ?_
  ·
    refine Frame.next (Frame.stoTold ..) (by decide) ?_
    refine Frame.next (Frame.stoActs ..) (by decide) ?_
    refine Frame.next (Frame.enterSafe ..) (by decide) ?_
    refine Frame.next (Frame.latch ..) (by decide) ?_
    exact Frame.refl _ _
  ·
    exact Frame.refl _ _

theorem Frame.safeEdge (s : State) (p : Fin 9) (chB level : Bool) : Frame [.saf] s (State.safeEdge s p chB level) := by
  delta State.safeEdge
  refine Frame.next (Frame.onSaf ..) (by decide) ?_
  exact Frame.refl _ _

theorem Frame.safeFiltered (s : State) (p : Fin 9) (chB : Bool) : Frame [.mode, .stg, .recs, .regs, .snt, .cp, .sns, .ax, .gd, .cmd, .aux, .saf] s (State.safeFiltered s p chB) := by
  delta State.safeFiltered
  refine Frame.ite ?_ ?_
  ·
    refine Frame.next (Frame.safEval ..) (by decide) ?_
    refine Frame.next (Frame.setFilt ..) (by decide) ?_
    exact Frame.refl _ _
  ·
    exact Frame.refl _ _

theorem Frame.pairFault (s : State) (bronze : Bool) (p : Fin 9) : Frame [.saf] s (State.pairFault s bronze p) := by
  delta State.pairFault
  refine Frame.next (Frame.modView ..) (by decide) ?_
  exact Frame.refl _ _

theorem Frame.inFault (s : State) (bronze : Bool) (p : Fin 9) (kind stamp : Nat) : Frame [.mode, .stg, .recs, .regs, .snt, .cp, .sns, .ax, .gd, .cmd, .aux, .saf] s (State.inFault s bronze p kind stamp) := by
  delta State.inFault
  extract_lets +onlyGivenNames v1
  extract_lets +onlyGivenNames v2
  refine Frame.via v2 ?_ (fun h3 => ?_)
  · unfold v2
    refine Frame.next (Frame.pairFault ..) (by decide) ?_
    exact Frame.refl _ _
  · clear_value v2
    extract_lets +onlyGivenNames v4
    refine Frame.via v4 ?_ (fun h5 => ?_)
    · unfold v4
      refine Frame.ite ?_ ?_
      ·
        assumption
      ·
        refine Frame.next (Frame.safRec ..) (by decide) ?_
        assumption
    · clear_value v4
      refine Frame.next (Frame.safEval ..) (by decide) ?_
      refine Frame.next (Frame.safAct ..) (by decide) ?_
      assumption

theorem Frame.discrepancy (s : State) (p : Fin 9) (bronze : Bool) : Frame [.mode, .stg, .recs, .regs, .snt, .cp, .sns, .ax, .gd, .cmd, .aux, .saf] s (State.discrepancy s p bronze) := by
  delta State.discrepancy
  refine Frame.ite ?_ ?_
  ·
    refine Frame.next (Frame.inFault ..) (by decide) ?_
    exact Frame.refl _ _
  ·
    exact Frame.refl _ _

theorem Frame.modTpo (s : State) (one : Bool) (f : TpoSt → TpoSt) : Frame [.saf] s (State.modTpo s one f) := by
  delta State.modTpo
  refine Frame.next (Frame.onSaf ..) (by decide) ?_
  exact Frame.refl _ _

theorem Frame.tpStart (s : State) (one : Bool) : Frame [.saf] s (State.tpStart s one) := by
  delta State.tpStart
  extract_lets +onlyGivenNames v1
  refine Frame.ite ?_ ?_
  ·
    refine Frame.next (Frame.modTpo ..) (by decide) ?_
    exact Frame.refl _ _
  ·
    exact Frame.refl _ _

theorem Frame.tpEnd (s : State) (one afterRec : Bool) (levels : BitVec 8) (bronze : Bool) : Frame [.mode, .stg, .recs, .regs, .snt, .cp, .sns, .ax, .gd, .cmd, .aux, .saf] s (State.tpEnd s one afterRec levels bronze) := by
  delta State.tpEnd
  extract_lets +onlyGivenNames v1
  extract_lets +onlyGivenNames v2
  extract_lets +onlyGivenNames v3
  extract_lets +onlyGivenNames v4
  extract_lets +onlyGivenNames v5
  refine Frame.ite ?_ ?_
  ·
    extract_lets +onlyGivenNames v6
    refine Frame.via v6 ?_ (fun h7 => ?_)
    · unfold v6
      refine Frame.next (Frame.modTpo ..) (by decide) ?_
      exact Frame.refl _ _
    · clear_value v6
      refine Frame.foldTrans ?_ ?_
      ·
        assumption
      · intro x8 b9
        beta_reduce
        extract_lets +onlyGivenNames v10
        refine Frame.ite ?_ ?_
        ·
          exact Frame.refl _ _
        ·
          extract_lets +onlyGivenNames v11
          refine Frame.via v11 ?_ (fun h12 => ?_)
          · unfold v11
            refine Frame.ite ?_ ?_
            ·
              refine Frame.next (Frame.safeEdge ..) (by decide) ?_
              exact Frame.refl _ _
            ·
              exact Frame.refl _ _
          · clear_value v11
            refine Frame.ite ?_ ?_
            ·
              refine Frame.next (Frame.inFault ..) (by decide) ?_
              assumption
            ·
              assumption
  ·
    exact Frame.refl _ _

theorem Frame.v24sOut (s : State) (mv : Nat) (bronze : Bool) : Frame [.mode, .stg, .recs, .regs, .snt, .cp, .sns, .ax, .gd, .cmd, .aux, .saf] s (State.v24sOut s mv bronze) := by
  delta State.v24sOut
  refine Frame.ite ?_ ?_
  ·
    extract_lets +onlyGivenNames v1
    extract_lets +onlyGivenNames v2
    refine Frame.via v2 ?_ (fun h3 => ?_)
    · unfold v2
      refine Frame.next (Frame.onSaf ..) (by decide) ?_
      refine Frame.next (Frame.modView ..) (by decide) ?_
      exact Frame.refl _ _
    · clear_value v2
      extract_lets +onlyGivenNames v4
      refine Frame.via v4 ?_ (fun h5 => ?_)
      · unfold v4
        refine Frame.ite ?_ ?_
        ·
          assumption
        ·
          refine Frame.next (Frame.safRec ..) (by decide) ?_
          assumption
      · clear_value v4
        refine Frame.next (Frame.safAct ..) (by decide) ?_
        refine Frame.next (Frame.soOff ..) (by decide) ?_
        assumption
  ·
    exact Frame.refl _ _

theorem Frame.v24sBack (s : State) (mv : Nat) (bronze : Bool) : Frame [.recs, .saf] s (State.v24sBack s mv bronze) := by
  delta State.v24sBack
  refine Frame.ite ?_ ?_
  ·
    extract_lets +onlyGivenNames v1
    extract_lets +onlyGivenNames v2
    refine Frame.via v2 ?_ (fun h3 => ?_)
    · unfold v2
      refine Frame.next (Frame.onSaf ..) (by decide) ?_
      refine Frame.next (Frame.modView ..) (by decide) ?_
      exact Frame.refl _ _
    · clear_value v2
      refine Frame.ite ?_ ?_
      ·
        assumption
      ·
        refine Frame.next (Frame.safRec ..) (by decide) ?_
        assumption
  ·
    exact Frame.refl _ _

theorem Frame.ss1End (s : State) (bronze : Bool) (slot : Nat) : Frame [.recs, .regs, .snt, .sns, .ax, .gd, .cmd, .aux, .saf] s (State.ss1End s bronze slot) := by
  delta State.ss1End
  refine Frame.next (Frame.pathAct ..) (by decide) ?_
  exact Frame.refl _ _

theorem Frame.ss1Sto (s : State) (bronze : Bool) : Frame [.recs, .regs, .snt, .sns, .ax, .gd, .cmd, .aux, .saf] s (State.ss1Sto s bronze) := by
  delta State.ss1Sto
  extract_lets +onlyGivenNames v1
  refine Frame.ite ?_ ?_
  ·
    split
    ·
      refine Frame.next (Frame.ss1End ..) (by decide) ?_
      exact Frame.refl _ _
    ·
      exact Frame.refl _ _
  ·
    exact Frame.refl _ _

theorem Frame.ss1Standstill (s : State) (bronze : Bool) : Frame [.recs, .regs, .snt, .sns, .ax, .gd, .cmd, .aux, .saf] s (State.ss1Standstill s bronze) := by
  delta State.ss1Standstill
  split
  ·
    refine Frame.ite ?_ ?_
    ·
      extract_lets +onlyGivenNames v1
      refine Frame.via v1 ?_ (fun h2 => ?_)
      · unfold v1
        refine Frame.foldTrans ?_ ?_
        ·
          exact Frame.refl _ _
        · intro x3 b4
          beta_reduce
          refine Frame.next (Frame.sbcOff ..) (by decide) ?_
          exact Frame.refl _ _
      · clear_value v1
        refine Frame.ite ?_ ?_
        ·
          refine Frame.next (Frame.ss1End ..) (by decide) ?_
          assumption
        ·
          refine Frame.next (Frame.onSaf ..) (by decide) ?_
          assumption
    ·
      exact Frame.refl _ _
  ·
    exact Frame.refl _ _

theorem Frame.ss1Lead (s : State) (bronze : Bool) : Frame [.recs, .regs, .snt, .sns, .ax, .gd, .cmd, .aux, .saf] s (State.ss1Lead s bronze) := by
  delta State.ss1Lead
  split
  ·
    refine Frame.ite ?_ ?_
    ·
      refine Frame.next (Frame.ss1End ..) (by decide) ?_
      exact Frame.refl _ _
    ·
      exact Frame.refl _ _
  ·
    exact Frame.refl _ _

theorem Frame.axisDataStale (s : State) : Frame [.mode, .stg, .recs, .regs, .snt, .cp, .sns, .ax, .gd, .cmd, .aux, .saf] s (State.axisDataStale s) := by
  delta State.axisDataStale
  refine Frame.ite ?_ ?_
  ·
    refine Frame.next (Frame.chanFault ..) (by decide) ?_
    exact Frame.refl _ _
  ·
    exact Frame.refl _ _

theorem Frame.sbc (s : State) (k : Fin 4) (bronze : Bool) : Frame [.recs, .saf] s (State.sbc s k bronze) := by
  delta State.sbc
  extract_lets +onlyGivenNames v1
  split
  ·
    refine Frame.ite ?_ ?_
    ·
      refine Frame.next (Frame.sbcOff ..) (by decide) ?_
      exact Frame.refl _ _
    ·
      exact Frame.refl _ _
  ·
    exact Frame.refl _ _

theorem Frame.pathRec (s : State) (ok : Bool) : Frame [.recs, .saf] s (State.pathRec s ok) := by
  delta State.pathRec
  refine Frame.next (Frame.safRec ..) (by decide) ?_
  refine Frame.next (Frame.onSaf ..) (by decide) ?_
  exact Frame.refl _ _

theorem Frame.pathSet (s : State) (blocked closed : Bool) : Frame [.gd] s (State.pathSet s blocked closed) := by
  delta State.pathSet
  refine Frame.next (Frame.onGd ..) (by decide) ?_
  exact Frame.refl _ _

theorem Frame.pathTest (s : State) : Frame [.recs, .gd, .saf] s (State.pathTest s) := by
  delta State.pathTest
  extract_lets +onlyGivenNames v1
  refine Frame.via v1 ?_ (fun h2 => ?_)
  · unfold v1
    refine Frame.next (Frame.pathSet ..) (by decide) ?_
    exact Frame.refl _ _
  · clear_value v1
    extract_lets +onlyGivenNames v3
    refine Frame.via v3 ?_ (fun h4 => ?_)
    · unfold v3
      refine Frame.next (Frame.pathSet ..) (by decide) ?_
      assumption
    · clear_value v3
      extract_lets +onlyGivenNames v5
      refine Frame.via v5 ?_ (fun h6 => ?_)
      · unfold v5
        refine Frame.next (Frame.pathSet ..) (by decide) ?_
        assumption
      · clear_value v5
        extract_lets +onlyGivenNames v7
        refine Frame.via v7 ?_ (fun h8 => ?_)
        · unfold v7
          refine Frame.next (Frame.pathSet ..) (by decide) ?_
          assumption
        · clear_value v7
          refine Frame.next (Frame.pathRec ..) (by decide) ?_
          assumption

theorem Frame.pathTimeout (s : State) : Frame [.mode, .stg, .recs, .regs, .snt, .cp, .sns, .ax, .gd, .cmd, .aux, .saf] s (State.pathTimeout s) := by
  delta State.pathTimeout
  refine Frame.ite ?_ ?_
  ·
    refine Frame.next (Frame.pathRec ..) (by decide) ?_
    exact Frame.refl _ _
  ·
    refine Frame.ite ?_ ?_
    ·
      refine Frame.next (Frame.chanFault ..) (by decide) ?_
      exact Frame.refl _ _
    ·
      exact Frame.refl _ _

theorem Frame.pathDue (s : State) : Frame [.recs, .saf] s (State.pathDue s) := by
  delta State.pathDue
  refine Frame.ite ?_ ?_
  ·
    refine Frame.next (Frame.safRec ..) (by decide) ?_
    refine Frame.next (Frame.onSaf ..) (by decide) ?_
    exact Frame.refl _ _
  ·
    exact Frame.refl _ _

theorem Frame.darkStart (s : State) (k : Fin 4) (bronze : Bool) : Frame [.saf] s (State.darkStart s k bronze) := by
  delta State.darkStart
  extract_lets +onlyGivenNames v1
  refine Frame.ite ?_ ?_
  ·
    refine Frame.next (Frame.modOut ..) (by decide) ?_
    exact Frame.refl _ _
  ·
    exact Frame.refl _ _

theorem Frame.darkEnd (s : State) (k : Fin 4) (bronze : Bool) (mv : Nat) : Frame [.mode, .stg, .recs, .regs, .snt, .cp, .sns, .ax, .gd, .cmd, .aux, .saf] s (State.darkEnd s k bronze mv) := by
  delta State.darkEnd
  extract_lets +onlyGivenNames v1
  extract_lets +onlyGivenNames v2
  split
  ·
    refine Frame.ite ?_ ?_
    ·
      extract_lets +onlyGivenNames v3
      refine Frame.via v3 ?_ (fun h4 => ?_)
      · unfold v3
        refine Frame.next (Frame.modOut ..) (by decide) ?_
        exact Frame.refl _ _
      · clear_value v3
        refine Frame.ite ?_ ?_
        ·
          assumption
        ·
          refine Frame.next (Frame.soFault ..) (by decide) ?_
          assumption
    ·
      exact Frame.refl _ _
  ·
    exact Frame.refl _ _

theorem Frame.soOffVoltage (s : State) (k : Fin 4) (mv : Nat) (bronze : Bool) : Frame [.mode, .stg, .recs, .regs, .snt, .cp, .sns, .ax, .gd, .cmd, .aux, .saf] s (State.soOffVoltage s k mv bronze) := by
  delta State.soOffVoltage
  extract_lets +onlyGivenNames v1
  refine Frame.ite ?_ ?_
  ·
    refine Frame.next (Frame.soFault ..) (by decide) ?_
    exact Frame.refl _ _
  ·
    exact Frame.refl _ _

theorem Frame.edmTimeout (s : State) (k : Fin 4) (bronze : Bool) : Frame [.mode, .stg, .recs, .regs, .snt, .freeIx, .cp, .sns, .ax, .gd, .cmd, .aux, .saf] s (State.edmTimeout s k bronze) := by
  delta State.edmTimeout
  split
  ·
    refine Frame.ite ?_ ?_
    ·
      refine Frame.next (Frame.edmFault ..) (by decide) ?_
      refine Frame.next (Frame.modOut ..) (by decide) ?_
      exact Frame.refl _ _
    ·
      exact Frame.refl _ _
  ·
    exact Frame.refl _ _

theorem Frame.soLimited (s : State) (k : Fin 4) : Frame [.saf] s (State.soLimited s k) := by
  delta State.soLimited
  extract_lets +onlyGivenNames v1
  refine Frame.ite ?_ ?_
  ·
    refine Frame.next (Frame.modOut ..) (by decide) ?_
    exact Frame.refl _ _
  ·
    exact Frame.refl _ _

theorem Frame.srstPress (s : State) : Frame [.saf] s (State.srstPress s) := by
  delta State.srstPress
  refine Frame.ite ?_ ?_
  ·
    exact Frame.refl _ _
  ·
    refine Frame.next (Frame.modSrst ..) (by decide) ?_
    exact Frame.refl _ _

theorem Frame.srstBronze (s : State) : Frame [.saf] s (State.srstBronze s) := by
  delta State.srstBronze
  refine Frame.ite ?_ ?_
  ·
    refine Frame.next (Frame.modSrst ..) (by decide) ?_
    exact Frame.refl _ _
  ·
    exact Frame.refl _ _

theorem Frame.demandsFirst (s : State) : Frame [.mode, .stg, .recs, .regs, .snt, .cp, .sns, .ax, .gd, .cmd, .aux, .saf] s (State.demandsFirst s) := by
  delta State.demandsFirst
  extract_lets +onlyGivenNames v1
  refine Frame.via v1 ?_ (fun h2 => ?_)
  · unfold v1
    refine Frame.ite ?_ ?_
    ·
      refine Frame.next (Frame.cobaltFilters ..) (by decide) ?_
      exact Frame.refl _ _
    ·
      exact Frame.refl _ _
  · clear_value v1
    extract_lets +onlyGivenNames v3
    refine Frame.via v3 ?_ (fun h4 => ?_)
    · unfold v3
      refine Frame.foldTrans ?_ ?_
      ·
        assumption
      · intro x5 b6
        beta_reduce
        refine Frame.next (Frame.discrepancy ..) (by decide) ?_
        refine Frame.next (Frame.discrepancy ..) (by decide) ?_
        refine Frame.next (Frame.safeFiltered ..) (by decide) ?_
        refine Frame.next (Frame.safeFiltered ..) (by decide) ?_
        exact Frame.refl _ _
    · clear_value v3
      extract_lets +onlyGivenNames v7
      refine Frame.via v7 ?_ (fun h8 => ?_)
      · unfold v7
        refine Frame.foldTrans ?_ ?_
        ·
          assumption
        · intro x9 b10
          beta_reduce
          refine Frame.next (Frame.connectionLost ..) (by decide) ?_
          refine Frame.next (Frame.connectionLost ..) (by decide) ?_
          exact Frame.refl _ _
      · clear_value v7
        refine Frame.ite ?_ ?_
        ·
          refine Frame.next (Frame.safEval ..) (by decide) ?_
          assumption
        ·
          assumption

theorem Frame.srstRelease (s : State) : Frame [.mode, .stg, .recs, .regs, .snt, .cp, .sns, .ax, .gd, .cmd, .aux, .saf] s (State.srstRelease s) := by
  delta State.srstRelease
  extract_lets +onlyGivenNames v1
  refine Frame.ite ?_ ?_
  ·
    exact Frame.refl _ _
  ·
    refine Frame.ite ?_ ?_
    ·
      refine Frame.next (Frame.modSrst ..) (by decide) ?_
      exact Frame.refl _ _
    ·
      extract_lets +onlyGivenNames v2
      extract_lets +onlyGivenNames v3
      extract_lets +onlyGivenNames v4
      refine Frame.via v4 ?_ (fun h5 => ?_)
      · unfold v4
        refine Frame.next (Frame.demandsFirst ..) (by decide) ?_
        exact Frame.refl _ _
      · clear_value v4
        extract_lets +onlyGivenNames v6
        extract_lets +onlyGivenNames v7
        refine Frame.via v7 ?_ (fun h8 => ?_)
        · unfold v7
          refine Frame.next (Frame.modSrst ..) (by decide) ?_
          assumption
        · clear_value v7
          refine Frame.next (Frame.srstRec ..) (by decide) ?_
          assumption

theorem Frame.srstStuck (s : State) : Frame [.saf] s (State.srstStuck s) := by
  delta State.srstStuck
  refine Frame.ite ?_ ?_
  ·
    refine Frame.next (Frame.modSrst ..) (by decide) ?_
    exact Frame.refl _ _
  ·
    exact Frame.refl _ _

theorem Frame.srstLow (s : State) : Frame [.saf] s (State.srstLow s) := by
  delta State.srstLow
  refine Frame.ite ?_ ?_
  ·
    refine Frame.next (Frame.modSrst ..) (by decide) ?_
    exact Frame.refl _ _
  ·
    exact Frame.refl _ _

theorem Frame.safStart (s : State) : Frame [.mode, .stg, .recs, .regs, .snt, .freeIx, .cp, .sns, .ax, .gd, .cmd, .aux, .saf] s (State.safStart s) := by
  delta State.safStart
  extract_lets +onlyGivenNames v1
  extract_lets +onlyGivenNames v2
  extract_lets +onlyGivenNames v3
  refine Frame.via v3 ?_ (fun h4 => ?_)
  · unfold v3
    refine Frame.next (Frame.onSaf ..) (by decide) ?_
    exact Frame.refl _ _
  · clear_value v3
    extract_lets +onlyGivenNames v5
    refine Frame.via v5 ?_ (fun h6 => ?_)
    · unfold v5
      refine Frame.foldTrans ?_ ?_
      ·
        assumption
      · intro x7 b8
        beta_reduce
        refine Frame.next (Frame.pairWatch ..) (by decide) ?_
        refine Frame.next (Frame.pairWatch ..) (by decide) ?_
        exact Frame.refl _ _
    · clear_value v5
      extract_lets +onlyGivenNames v9
      refine Frame.via v9 ?_ (fun h10 => ?_)
      · unfold v9
        refine Frame.next (Frame.onGd ..) (by decide) ?_
        assumption
      · clear_value v9
        extract_lets +onlyGivenNames v11
        refine Frame.via v11 ?_ (fun h12 => ?_)
        · unfold v11
          refine Frame.ite ?_ ?_
          ·
            refine Frame.next (Frame.chanFault ..) (by decide) ?_
            assumption
          ·
            assumption
        · clear_value v11
          refine Frame.next (Frame.mirror ..) (by decide) ?_
          refine Frame.next (Frame.soEval ..) (by decide) ?_
          refine Frame.next (Frame.safEval ..) (by decide) ?_
          refine Frame.next (Frame.safEval ..) (by decide) ?_
          assumption

theorem Frame.blindCheck (s : State) (n : Fin 6) : Frame [.ax] s (State.blindCheck s n) := by
  delta State.blindCheck
  extract_lets +onlyGivenNames v1
  refine Frame.via v1 ?_ (fun h2 => ?_)
  · unfold v1
    refine Frame.ite ?_ ?_
    ·
      refine Frame.next (Frame.modAx ..) (by decide) ?_
      exact Frame.refl _ _
    ·
      exact Frame.refl _ _
  · clear_value v1
    refine Frame.ite ?_ ?_
    ·
      refine Frame.next (Frame.modAx ..) (by decide) ?_
      assumption
    ·
      assumption

theorem Frame.noteDecl (s : State) (n : Fin 6) (sdi : Bool) : Frame [.sns] s (State.noteDecl s n sdi) := by
  delta State.noteDecl
  split
  ·
    refine Frame.next (Frame.modSns ..) (by decide) ?_
    exact Frame.refl _ _
  ·
    exact Frame.refl _ _

theorem Frame.runAgain (s : State) (n : Fin 6) : Frame [.freeIx, .sns, .ax] s (State.runAgain s n) := by
  delta State.runAgain
  split
  ·
    exact Frame.refl _ _
  ·
    extract_lets +onlyGivenNames v1
    extract_lets +onlyGivenNames v2
    extract_lets +onlyGivenNames v3
    extract_lets +onlyGivenNames v4
    extract_lets +onlyGivenNames v5
    refine Frame.via v5 ?_ (fun h6 => ?_)
    · unfold v5
      refine Frame.next (Frame.onFreeIx ..) (by decide) ?_
      exact Frame.refl _ _
    · clear_value v5
      refine Frame.ite ?_ ?_
      ·
        refine Frame.next (Frame.modAx ..) (by decide) ?_
        assumption
      ·
        refine Frame.ite ?_ ?_
        ·
          refine Frame.next (Frame.modAx ..) (by decide) ?_
          refine Frame.next (Frame.modSns ..) (by decide) ?_
          assumption
        ·
          assumption

theorem Frame.declareSdi (s : State) (n : Fin 6) (p : Fin 3) (cause at' : Nat) : Frame [.recs, .freeIx, .sns, .ax] s (State.declareSdi s n p cause at') := by
  delta State.declareSdi
  extract_lets +onlyGivenNames v1
  refine Frame.ite ?_ ?_
  ·
    exact Frame.refl _ _
  ·
    extract_lets +onlyGivenNames v2
    refine Frame.next (Frame.blindCheck ..) (by decide) ?_
    refine Frame.next (Frame.runAgain ..) (by decide) ?_
    refine Frame.next (Frame.event ..) (by decide) ?_
    refine Frame.next (Frame.modSns ..) (by decide) ?_
    refine Frame.next (Frame.noteDecl ..) (by decide) ?_
    exact Frame.refl _ _

theorem Frame.declareDcs (s : State) (n : Fin 6) (cause at' : Nat) : Frame [.recs, .sns] s (State.declareDcs s n cause at') := by
  delta State.declareDcs
  extract_lets +onlyGivenNames v1
  refine Frame.ite ?_ ?_
  ·
    exact Frame.refl _ _
  ·
    refine Frame.next (Frame.event ..) (by decide) ?_
    refine Frame.next (Frame.modSns ..) (by decide) ?_
    refine Frame.next (Frame.noteDecl ..) (by decide) ?_
    exact Frame.refl _ _

theorem Frame.sdiFault (s : State) (n : Fin 6) (p : Fin 3) (cause : Fin 4) : Frame [.recs, .freeIx, .sns, .ax] s (State.sdiFault s n p cause) := by
  delta State.sdiFault
  extract_lets +onlyGivenNames v1
  extract_lets +onlyGivenNames v2
  refine Frame.ite ?_ ?_
  ·
    exact Frame.refl _ _
  ·
    split
    ·
      refine Frame.ite ?_ ?_
      ·
        refine Frame.next (Frame.declareSdi ..) (by decide) ?_
        exact Frame.refl _ _
      ·
        exact Frame.refl _ _
    ·
      clear_value v2
      split
      ·
        refine Frame.ite ?_ ?_
        ·
          refine Frame.next (Frame.declareSdi ..) (by decide) ?_
          exact Frame.refl _ _
        ·
          exact Frame.refl _ _
      ·
        exact Frame.refl _ _
    ·
      clear_value v2
      split
      ·
        refine Frame.ite ?_ ?_
        ·
          refine Frame.next (Frame.declareSdi ..) (by decide) ?_
          exact Frame.refl _ _
        ·
          exact Frame.refl _ _
      ·
        exact Frame.refl _ _
    ·
      exact Frame.refl _ _

theorem Frame.dcsFault (s : State) (n : Fin 6) (cause : Fin 4) : Frame [.recs, .sns] s (State.dcsFault s n cause) := by
  delta State.dcsFault
  extract_lets +onlyGivenNames v1
  refine Frame.ite ?_ ?_
  ·
    exact Frame.refl _ _
  ·
    split
    ·
      refine Frame.ite ?_ ?_
      ·
        refine Frame.next (Frame.declareDcs ..) (by decide) ?_
        exact Frame.refl _ _
      ·
        exact Frame.refl _ _
    ·
      refine Frame.ite ?_ ?_
      ·
        refine Frame.next (Frame.declareDcs ..) (by decide) ?_
        exact Frame.refl _ _
      ·
        exact Frame.refl _ _
    ·
      refine Frame.ite ?_ ?_
      ·
        refine Frame.next (Frame.declareDcs ..) (by decide) ?_
        exact Frame.refl _ _
      ·
        exact Frame.refl _ _
    ·
      exact Frame.refl _ _

theorem Frame.senseLost (s : State) (n : Fin 6) (k : Nat) : Frame [.recs, .regs, .snt, .sns, .ax, .gd, .cmd] s (State.senseLost s n k) := by
  delta State.senseLost
  extract_lets +onlyGivenNames v1
  extract_lets +onlyGivenNames v2
  extract_lets +onlyGivenNames v3
  refine Frame.ite ?_ ?_
  ·
    extract_lets +onlyGivenNames v4
    extract_lets +onlyGivenNames v5
    refine Frame.via v5 ?_ (fun h6 => ?_)
    · unfold v5
      refine Frame.next (Frame.event ..) (by decide) ?_
      refine Frame.next (Frame.modSns ..) (by decide) ?_
      exact Frame.refl _ _
    · clear_value v5
      refine Frame.ite ?_ ?_
      ·
        assumption
      ·
        refine Frame.next (Frame.axFault ..) (by decide) ?_
        assumption
  ·
    exact Frame.refl _ _

theorem Frame.predLimit (s : State) (n : Fin 6) : Frame [.recs, .sns] s (State.predLimit s n) := by
  delta State.predLimit
  extract_lets +onlyGivenNames v1
  extract_lets +onlyGivenNames v2
  refine Frame.ite ?_ ?_
  ·
    refine Frame.next (Frame.event ..) (by decide) ?_
    refine Frame.next (Frame.modSns ..) (by decide) ?_
    exact Frame.refl _ _
  ·
    exact Frame.refl _ _

theorem Frame.sensorBack (s : State) (n : Fin 6) (k : SensorKind) : Frame [.recs, .sns] s (State.sensorBack s n k) := by
  delta State.sensorBack
  extract_lets +onlyGivenNames v1
  refine Frame.ite ?_ ?_
  ·
    exact Frame.refl _ _
  ·
    split
    ·
      split
      ·
        extract_lets +onlyGivenNames v2
        refine Frame.ite ?_ ?_
        ·
          refine Frame.next (Frame.event ..) (by decide) ?_
          refine Frame.next (Frame.modSns ..) (by decide) ?_
          exact Frame.refl _ _
        ·
          exact Frame.refl _ _
      ·
        exact Frame.refl _ _
    ·
      refine Frame.ite ?_ ?_
      ·
        refine Frame.next (Frame.event ..) (by decide) ?_
        refine Frame.next (Frame.modSns ..) (by decide) ?_
        exact Frame.refl _ _
      ·
        exact Frame.refl _ _
    ·
      refine Frame.ite ?_ ?_
      ·
        refine Frame.next (Frame.event ..) (by decide) ?_
        refine Frame.next (Frame.modEnc ..) (by decide) ?_
        refine Frame.next (Frame.modSns ..) (by decide) ?_
        exact Frame.refl _ _
      ·
        exact Frame.refl _ _

theorem Frame.snsBoundary (s : State) (n : Fin 6) : Frame [.sns] s (State.snsBoundary s n) := by
  delta State.snsBoundary
  refine Frame.next (Frame.modSns ..) (by decide) ?_
  exact Frame.refl _ _

theorem Frame.fastOutput (s : State) (c : Fin 32) (y : Rat) : Frame [.sns] s (State.fastOutput s c y) := by
  delta State.fastOutput
  split
  ·
    refine Frame.ite ?_ ?_
    ·
      exact Frame.refl _ _
    ·
      extract_lets +onlyGivenNames v1
      extract_lets +onlyGivenNames v2
      refine Frame.next (Frame.modSdi ..) (by decide) ?_
      exact Frame.refl _ _
  ·
    exact Frame.refl _ _

theorem Frame.phaseOc (s : State) (c : Fin 32) : Frame [.recs, .regs, .snt, .sns, .ax, .gd, .cmd] s (State.phaseOc s c) := by
  delta State.phaseOc
  split
  ·
    extract_lets +onlyGivenNames v1
    refine Frame.ite ?_ ?_
    ·
      refine Frame.next (Frame.axFault ..) (by decide) ?_
      refine Frame.next (Frame.modSdi ..) (by decide) ?_
      refine Frame.next (Frame.event ..) (by decide) ?_
      exact Frame.refl _ _
    ·
      exact Frame.refl _ _
  ·
    exact Frame.refl _ _

theorem Frame.sdiStuck (s : State) (c : Fin 32) (level : Bool) : Frame [.recs, .freeIx, .sns, .ax] s (State.sdiStuck s c level) := by
  delta State.sdiStuck
  split
  ·
    refine Frame.ite ?_ ?_
    ·
      exact Frame.refl _ _
    ·
      extract_lets +onlyGivenNames v1
      refine Frame.via v1 ?_ (fun h2 => ?_)
      · unfold v1
        refine Frame.next (Frame.event ..) (by decide) ?_
        refine Frame.next (Frame.modSdi ..) (by decide) ?_
        exact Frame.refl _ _
      · clear_value v1
        split
        ·
          refine Frame.next (Frame.declareSdi ..) (by decide) ?_
          refine Frame.next (Frame.modSns ..) (by decide) ?_
          assumption
        ·
          assumption
  ·
    exact Frame.refl _ _

theorem Frame.zeroEnd (s : State) (target : ZeroTarget) (avg : Rat) : Frame [.recs, .freeIx, .sns, .ax] s (State.zeroEnd s target avg) := by
  delta State.zeroEnd
  split
  ·
    split
    ·
      refine Frame.ite ?_ ?_
      ·
        exact Frame.refl _ _
      ·
        refine Frame.ite ?_ ?_
        ·
          refine Frame.next (Frame.declareSdi ..) (by decide) ?_
          refine Frame.next (Frame.modSns ..) (by decide) ?_
          refine Frame.next (Frame.event ..) (by decide) ?_
          refine Frame.next (Frame.modSdi ..) (by decide) ?_
          exact Frame.refl _ _
        ·
          refine Frame.next (Frame.modSdi ..) (by decide) ?_
          exact Frame.refl _ _
    ·
      exact Frame.refl _ _
  ·
    refine Frame.ite ?_ ?_
    ·
      exact Frame.refl _ _
    ·
      refine Frame.ite ?_ ?_
      ·
        refine Frame.next (Frame.declareDcs ..) (by decide) ?_
        refine Frame.next (Frame.event ..) (by decide) ?_
        refine Frame.next (Frame.modSns ..) (by decide) ?_
        exact Frame.refl _ _
      ·
        refine Frame.next (Frame.modSns ..) (by decide) ?_
        exact Frame.refl _ _

theorem Frame.dcsHold (s : State) (n : Fin 6) : Frame [.sns] s (State.dcsHold s n) := by
  delta State.dcsHold
  extract_lets +onlyGivenNames v1
  refine Frame.ite ?_ ?_
  ·
    exact Frame.refl _ _
  ·
    split
    ·
      refine Frame.next (Frame.modSns ..) (by decide) ?_
      exact Frame.refl _ _
    ·
      exact Frame.refl _ _

theorem Frame.dcsDone (s : State) (n : Fin 6) (code : BitVec 12) (volts : Rat) : Frame [.sns] s (State.dcsDone s n code volts) := by
  delta State.dcsDone
  split
  ·
    exact Frame.refl _ _
  ·
    refine Frame.ite ?_ ?_
    ·
      exact Frame.refl _ _
    ·
      refine Frame.ite ?_ ?_
      ·
        refine Frame.next (Frame.modSns ..) (by decide) ?_
        exact Frame.refl _ _
      ·
        extract_lets +onlyGivenNames v1
        refine Frame.next (Frame.modSns ..) (by decide) ?_
        exact Frame.refl _ _

theorem Frame.dcsTimeout (s : State) (n : Fin 6) : Frame [.sns] s (State.dcsTimeout s n) := by
  delta State.dcsTimeout
  split
  ·
    refine Frame.ite ?_ ?_
    ·
      refine Frame.next (Frame.modSns ..) (by decide) ?_
      exact Frame.refl _ _
    ·
      exact Frame.refl _ _
  ·
    exact Frame.refl _ _

theorem Frame.ainHold (s : State) (c : Fin 32) : Frame [.sns] s (State.ainHold s c) := by
  delta State.ainHold
  extract_lets +onlyGivenNames v1
  extract_lets +onlyGivenNames v2
  extract_lets +onlyGivenNames v3
  extract_lets +onlyGivenNames v4
  refine Frame.ite ?_ ?_
  ·
    refine Frame.next (Frame.onSns ..) (by decide) ?_
    refine Frame.next (Frame.modAin ..) (by decide) ?_
    exact Frame.refl _ _
  ·
    exact Frame.refl _ _

theorem Frame.ainValue (s : State) (c : Fin 32) (volts : Rat) (t : Nat) : Frame [.sns] s (State.ainValue s c volts t) := by
  delta State.ainValue
  extract_lets +onlyGivenNames v1
  extract_lets +onlyGivenNames v2
  extract_lets +onlyGivenNames v3
  extract_lets +onlyGivenNames v4
  extract_lets +onlyGivenNames v5
  refine Frame.next (Frame.modAin ..) (by decide) ?_
  exact Frame.refl _ _

theorem Frame.encFault (s : State) (e : Fin 6) (cause : Nat) : Frame [.recs, .sns, .ax] s (State.encFault s e cause) := by
  delta State.encFault
  extract_lets +onlyGivenNames v1
  extract_lets +onlyGivenNames v2
  refine Frame.via v2 ?_ (fun h3 => ?_)
  · unfold v2
    refine Frame.next (Frame.modEnc ..) (by decide) ?_
    exact Frame.refl _ _
  · clear_value v2
    refine Frame.ite ?_ ?_
    ·
      assumption
    ·
      split
      ·
        refine Frame.next (Frame.blindCheck ..) (by decide) ?_
        refine Frame.next (Frame.event ..) (by decide) ?_
        refine Frame.next (Frame.modSns ..) (by decide) ?_
        assumption
      ·
        refine Frame.next (Frame.event ..) (by decide) ?_
        assumption

theorem Frame.encEdge (s : State) (e : Fin 6) (a b z : Bool) : Frame [.recs, .snt, .sns, .ax, .gd, .cmd] s (State.encEdge s e a b z) := by
  delta State.encEdge
  extract_lets +onlyGivenNames v1
  refine Frame.ite ?_ ?_
  ·
    exact Frame.refl _ _
  ·
    extract_lets +onlyGivenNames v2
    extract_lets +onlyGivenNames v3
    extract_lets +onlyGivenNames v4
    extract_lets +onlyGivenNames v5
    extract_lets +onlyGivenNames v6
    extract_lets +onlyGivenNames v7
    extract_lets +onlyGivenNames v8
    extract_lets +onlyGivenNames v9
    extract_lets +onlyGivenNames v10
    extract_lets +onlyGivenNames v11
    extract_lets +onlyGivenNames v12
    refine Frame.via v12 ?_ (fun h13 => ?_)
    · unfold v12
      refine Frame.next (Frame.modEnc ..) (by decide) ?_
      exact Frame.refl _ _
    · clear_value v12
      extract_lets +onlyGivenNames v14
      refine Frame.via v14 ?_ (fun h15 => ?_)
      · unfold v14
        refine Frame.ite ?_ ?_
        ·
          refine Frame.next (Frame.encFault ..) (by decide) ?_
          assumption
        ·
          assumption
      · clear_value v14
        split
        ·
          refine Frame.next (Frame.encCoast ..) (by decide) ?_
          assumption
        ·
          assumption

theorem Frame.encCapture (s : State) (e : Fin 6) : Frame [.sns] s (State.encCapture s e) := by
  delta State.encCapture
  extract_lets +onlyGivenNames v1
  extract_lets +onlyGivenNames v2
  refine Frame.ite ?_ ?_
  ·
    exact Frame.refl _ _
  ·
    extract_lets +onlyGivenNames v3
    refine Frame.next (Frame.modEnc ..) (by decide) ?_
    exact Frame.refl _ _

theorem Frame.encTransfer (s : State) (e : Fin 6) : Frame [.sns] s (State.encTransfer s e) := by
  delta State.encTransfer
  extract_lets +onlyGivenNames v1
  refine Frame.ite ?_ ?_
  ·
    refine Frame.next (Frame.modEnc ..) (by decide) ?_
    exact Frame.refl _ _
  ·
    exact Frame.refl _ _

theorem Frame.serialDone (s : State) (e : Fin 6) (lineHigh : Bool) (bits : Word) (parity : Bool) : Frame [.recs, .snt, .sns, .ax, .gd, .cmd] s (State.serialDone s e lineHigh bits parity) := by
  delta State.serialDone
  extract_lets +onlyGivenNames v1
  extract_lets +onlyGivenNames v2
  split
  ·
    exact Frame.refl _ _
  ·
    refine Frame.ite ?_ ?_
    ·
      exact Frame.refl _ _
    ·
      extract_lets +onlyGivenNames v3
      extract_lets +onlyGivenNames v4
      extract_lets +onlyGivenNames v5
      extract_lets +onlyGivenNames v6
      extract_lets +onlyGivenNames v7
      extract_lets +onlyGivenNames v8
      extract_lets +onlyGivenNames v9
      extract_lets +onlyGivenNames v10
      extract_lets +onlyGivenNames v11
      extract_lets +onlyGivenNames v12
      extract_lets +onlyGivenNames v13
      extract_lets +onlyGivenNames v14
      refine Frame.ite ?_ ?_
      ·
        refine Frame.next (Frame.modEnc ..) (by decide) ?_
        exact Frame.refl _ _
      ·
        extract_lets +onlyGivenNames v15
        extract_lets +onlyGivenNames v16
        refine Frame.via v16 ?_ (fun h17 => ?_)
        · unfold v16
          refine Frame.next (Frame.modEnc ..) (by decide) ?_
          exact Frame.refl _ _
        · clear_value v16
          split
          ·
            refine Frame.next (Frame.encCoast ..) (by decide) ?_
            assumption
          ·
            assumption

theorem Frame.auxPut (s : State) (x : Fin 4) (edge : Nat) (d : Vector Rat 4) (dead : Rat) : Frame [.gd, .aux] s (State.auxPut s x edge d dead) := by
  delta State.auxPut
  extract_lets +onlyGivenNames v1
  extract_lets +onlyGivenNames v2
  extract_lets +onlyGivenNames v3
  refine Frame.next (Frame.modGd ..) (by decide) ?_
  refine Frame.next (Frame.modAux ..) (by decide) ?_
  exact Frame.refl _ _

theorem Frame.auxBegin (s : State) (x : Fin 4) : Frame [.snt, .aux] s (State.auxBegin s x) := by
  delta State.auxBegin
  extract_lets +onlyGivenNames v1
  extract_lets +onlyGivenNames v2
  split
  ·
    exact Frame.refl _ _
  ·
    refine Frame.ite ?_ ?_
    ·
      exact Frame.refl _ _
    ·
      extract_lets +onlyGivenNames v3
      refine Frame.next (Frame.modSnt ..) (by decide) ?_
      refine Frame.next (Frame.modAux ..) (by decide) ?_
      exact Frame.refl _ _

theorem Frame.auxUpdate (s : State) (x : Fin 4) (vA1 vA2 vB1 vB2 : Rat) (hsUv : BitVec 4) : Frame [.snt, .gd, .aux] s (State.auxUpdate s x vA1 vA2 vB1 vB2 hsUv) := by
  delta State.auxUpdate
  extract_lets +onlyGivenNames v1
  extract_lets +onlyGivenNames v2
  split
  ·
    exact Frame.refl _ _
  ·
    refine Frame.ite ?_ ?_
    ·
      exact Frame.refl _ _
    ·
      extract_lets +onlyGivenNames v3
      refine Frame.via v3 ?_ (fun h4 => ?_)
      · unfold v3
        refine Frame.next (Frame.countRefresh ..) (by decide) ?_
        exact Frame.refl _ _
      · clear_value v3
        extract_lets +onlyGivenNames v5
        refine Frame.via v5 ?_ (fun h6 => ?_)
        · unfold v5
          refine Frame.next (Frame.modSnt ..) (by decide) ?_
          assumption
        · clear_value v5
          refine Frame.next (Frame.auxBegin ..) (by decide) ?_
          assumption

theorem Frame.auxResample (s : State) (x : Fin 4) : Frame [.snt, .aux] s (State.auxResample s x) := by
  delta State.auxResample
  extract_lets +onlyGivenNames v1
  refine Frame.ite ?_ ?_
  ·
    refine Frame.next (Frame.auxBegin ..) (by decide) ?_
    refine Frame.next (Frame.modSnt ..) (by decide) ?_
    exact Frame.refl _ _
  ·
    exact Frame.refl _ _

theorem Frame.homeFail (s : State) (x : Fin 4) (cause at' : Nat) : Frame [.recs, .regs, .snt, .gd, .aux] s (State.homeFail s x cause at') := by
  delta State.homeFail
  extract_lets +onlyGivenNames v1
  refine Frame.next (Frame.event ..) (by decide) ?_
  refine Frame.next (Frame.auxLost ..) (by decide) ?_
  refine Frame.next (Frame.auxHalt ..) (by decide) ?_
  refine Frame.next (Frame.auxLost ..) (by decide) ?_
  exact Frame.refl _ _

theorem Frame.homeAway (s : State) (x : Fin 4) (ph : HomePhase) (aim : Rat) : Frame [.aux] s (State.homeAway s x ph aim) := by
  delta State.homeAway
  refine Frame.next (Frame.modAux ..) (by decide) ?_
  exact Frame.refl _ _

theorem Frame.homeDone (s : State) (x : Fin 4) (setPos : Bool) : Frame [.recs, .regs, .aux, .regsOff] s (State.homeDone s x setPos) := by
  delta State.homeDone
  extract_lets +onlyGivenNames v1
  extract_lets +onlyGivenNames v2
  extract_lets +onlyGivenNames v3
  extract_lets +onlyGivenNames v4
  refine Frame.via v4 ?_ (fun h5 => ?_)
  · unfold v4
    refine Frame.ite ?_ ?_
    ·
      refine Frame.next (Frame.auxSetPos ..) (by decide) ?_
      exact Frame.refl _ _
    ·
      exact Frame.refl _ _
  · clear_value v4
    extract_lets +onlyGivenNames v6
    refine Frame.via v6 ?_ (fun h7 => ?_)
    · unfold v6
      refine Frame.next (Frame.onRegs ..) (by decide) ?_
      assumption
    · clear_value v6
      refine Frame.next (Frame.event ..) (by decide) ?_
      refine Frame.next (Frame.modAux ..) (by decide) ?_
      assumption

theorem Frame.homeLimit (s : State) (x : Fin 4) (toward : Bool) (raw : Nat) : Frame [.recs, .regs, .snt, .gd, .aux] s (State.homeLimit s x toward raw) := by
  delta State.homeLimit
  extract_lets +onlyGivenNames v1
  extract_lets +onlyGivenNames v2
  split
  ·
    refine Frame.ite ?_ ?_
    ·
      exact Frame.refl _ _
    ·
      refine Frame.ite ?_ ?_
      ·
        extract_lets +onlyGivenNames v3
        refine Frame.next (Frame.auxSetPos ..) (by decide) ?_
        refine Frame.next (Frame.modAux ..) (by decide) ?_
        exact Frame.refl _ _
      ·
        refine Frame.next (Frame.modAux ..) (by decide) ?_
        exact Frame.refl _ _
  ·
    refine Frame.next (Frame.homeFail ..) (by decide) ?_
    exact Frame.refl _ _
  ·
    refine Frame.next (Frame.homeFail ..) (by decide) ?_
    exact Frame.refl _ _
  ·
    refine Frame.next (Frame.homeFail ..) (by decide) ?_
    exact Frame.refl _ _
  ·
    exact Frame.refl _ _

theorem Frame.homeBegin (s : State) (x : Fin 4) : Frame [.recs, .regs, .snt, .gd, .aux] s (State.homeBegin s x) := by
  delta State.homeBegin
  refine Frame.ite ?_ ?_
  ·
    refine Frame.next (Frame.homeLimit ..) (by decide) ?_
    exact Frame.refl _ _
  ·
    exact Frame.refl _ _

theorem Frame.auxMoveDone (s : State) (x : Fin 4) : Frame [.recs, .regs, .snt, .gd, .aux, .regsOff] s (State.auxMoveDone s x) := by
  delta State.auxMoveDone
  extract_lets +onlyGivenNames v1
  extract_lets +onlyGivenNames v2
  extract_lets +onlyGivenNames v3
  extract_lets +onlyGivenNames v4
  split
  ·
    refine Frame.ite ?_ ?_
    ·
      exact Frame.refl _ _
    ·
      refine Frame.ite ?_ ?_
      ·
        refine Frame.next (Frame.homeFail ..) (by decide) ?_
        exact Frame.refl _ _
      ·
        refine Frame.next (Frame.homeAway ..) (by decide) ?_
        exact Frame.refl _ _
  ·
    refine Frame.ite ?_ ?_
    ·
      refine Frame.next (Frame.homeAway ..) (by decide) ?_
      exact Frame.refl _ _
    ·
      exact Frame.refl _ _
  ·
    refine Frame.ite ?_ ?_
    ·
      refine Frame.next (Frame.modAux ..) (by decide) ?_
      exact Frame.refl _ _
    ·
      exact Frame.refl _ _
  ·
    refine Frame.ite ?_ ?_
    ·
      refine Frame.next (Frame.homeDone ..) (by decide) ?_
      exact Frame.refl _ _
    ·
      exact Frame.refl _ _
  ·
    refine Frame.ite ?_ ?_
    ·
      refine Frame.next (Frame.homeDone ..) (by decide) ?_
      exact Frame.refl _ _
    ·
      exact Frame.refl _ _
  ·
    refine Frame.ite ?_ ?_
    ·
      refine Frame.next (Frame.homeFail ..) (by decide) ?_
      exact Frame.refl _ _
    ·
      exact Frame.refl _ _
  ·
    refine Frame.ite ?_ ?_
    ·
      refine Frame.next (Frame.modAux ..) (by decide) ?_
      exact Frame.refl _ _
    ·
      exact Frame.refl _ _
  ·
    exact Frame.refl _ _

theorem Frame.auxStall (s : State) (x : Fin 4) : Frame [.recs, .regs, .snt, .gd, .aux] s (State.auxStall s x) := by
  delta State.auxStall
  extract_lets +onlyGivenNames v1
  refine Frame.ite ?_ ?_
  ·
    exact Frame.refl _ _
  ·
    extract_lets +onlyGivenNames v2
    refine Frame.via v2 ?_ (fun h3 => ?_)
    · unfold v2
      refine Frame.next (Frame.modAux ..) (by decide) ?_
      exact Frame.refl _ _
    · clear_value v2
      split
      ·
        refine Frame.next (Frame.homeAway ..) (by decide) ?_
        refine Frame.next (Frame.modAux ..) (by decide) ?_
        assumption
      ·
        refine Frame.next (Frame.homeFail ..) (by decide) ?_
        assumption
      ·
        refine Frame.next (Frame.homeFail ..) (by decide) ?_
        assumption
      ·
        assumption
      ·
        refine Frame.next (Frame.event ..) (by decide) ?_
        refine Frame.next (Frame.auxLost ..) (by decide) ?_
        refine Frame.next (Frame.auxHalt ..) (by decide) ?_
        assumption

theorem Frame.auxHoldCurrent (s : State) (x : Fin 4) : Frame [.aux] s (State.auxHoldCurrent s x) := by
  delta State.auxHoldCurrent
  extract_lets +onlyGivenNames v1
  split
  ·
    refine Frame.ite ?_ ?_
    ·
      refine Frame.next (Frame.modAux ..) (by decide) ?_
      exact Frame.refl _ _
    ·
      exact Frame.refl _ _
  ·
    exact Frame.refl _ _

theorem Frame.auxStillSet (s : State) (x : Fin 4) : Frame [.aux] s (State.auxStillSet s x) := by
  delta State.auxStillSet
  refine Frame.ite ?_ ?_
  ·
    refine Frame.next (Frame.modAux ..) (by decide) ?_
    exact Frame.refl _ _
  ·
    exact Frame.refl _ _

theorem Frame.auxStopEnd (s : State) (x : Fin 4) : Frame [.regs, .snt, .gd, .aux] s (State.auxStopEnd s x) := by
  delta State.auxStopEnd
  extract_lets +onlyGivenNames v1
  refine Frame.ite ?_ ?_
  ·
    extract_lets +onlyGivenNames v2
    refine Frame.via v2 ?_ (fun h3 => ?_)
    · unfold v2
      refine Frame.next (Frame.modAux ..) (by decide) ?_
      exact Frame.refl _ _
    · clear_value v2
      split
      ·
        refine Frame.next (Frame.auxDown ..) (by decide) ?_
        assumption
      ·
        refine Frame.next (Frame.auxDown ..) (by decide) ?_
        assumption
      ·
        assumption
      ·
        refine Frame.next (Frame.auxHalt ..) (by decide) ?_
        assumption
  ·
    exact Frame.refl _ _

theorem Frame.auxCheckEnd (s : State) (x : Fin 4) : Frame [.recs, .regs, .aux] s (State.auxCheckEnd s x) := by
  delta State.auxCheckEnd
  extract_lets +onlyGivenNames v1
  split
  ·
    refine Frame.next (Frame.event ..) (by decide) ?_
    refine Frame.next (Frame.auxStop ..) (by decide) ?_
    refine Frame.next (Frame.auxResetCommand ..) (by decide) ?_
    refine Frame.next (Frame.auxLost ..) (by decide) ?_
    refine Frame.next (Frame.modAux ..) (by decide) ?_
    exact Frame.refl _ _
  ·
    refine Frame.ite ?_ ?_
    ·
      refine Frame.next (Frame.modAux ..) (by decide) ?_
      exact Frame.refl _ _
    ·
      exact Frame.refl _ _
  ·
    exact Frame.refl _ _

theorem Frame.modLim (s : State) (x : Fin 4) (positive : Bool) (f : LimSt → LimSt) : Frame [.aux] s (State.modLim s x positive f) := by
  delta State.modLim
  refine Frame.next (Frame.modAux ..) (by decide) ?_
  exact Frame.refl _ _

theorem Frame.limitChange (s : State) (x : Fin 4) (positive high : Bool) : Frame [.recs, .regs, .snt, .gd, .aux] s (State.limitChange s x positive high) := by
  delta State.limitChange
  extract_lets +onlyGivenNames v1
  extract_lets +onlyGivenNames v2
  extract_lets +onlyGivenNames v3
  refine Frame.ite ?_ ?_
  ·
    exact Frame.refl _ _
  ·
    extract_lets +onlyGivenNames v4
    refine Frame.via v4 ?_ (fun h5 => ?_)
    · unfold v4
      refine Frame.next (Frame.modLim ..) (by decide) ?_
      exact Frame.refl _ _
    · clear_value v4
      refine Frame.ite ?_ ?_
      ·
        assumption
      ·
        extract_lets +onlyGivenNames v6
        extract_lets +onlyGivenNames v7
        extract_lets +onlyGivenNames v8
        extract_lets +onlyGivenNames v9
        extract_lets +onlyGivenNames v10
        refine Frame.via v10 ?_ (fun h11 => ?_)
        · unfold v10
          refine Frame.ite ?_ ?_
          ·
            refine Frame.next (Frame.event ..) (by decide) ?_
            assumption
          ·
            assumption
        · clear_value v10
          extract_lets +onlyGivenNames v12
          refine Frame.via v12 ?_ (fun h13 => ?_)
          · unfold v12
            refine Frame.ite ?_ ?_
            ·
              refine Frame.next (Frame.homeLimit ..) (by decide) ?_
              assumption
            ·
              assumption
          · clear_value v12
            refine Frame.ite ?_ ?_
            ·
              extract_lets +onlyGivenNames v14
              extract_lets +onlyGivenNames v15
              refine Frame.via v15 ?_ (fun h16 => ?_)
              · unfold v15
                clear_value v14
                split
                ·
                  refine Frame.next (Frame.auxHalt ..) (by decide) ?_
                  assumption
                ·
                  refine Frame.next (Frame.auxStop ..) (by decide) ?_
                  assumption
              · clear_value v15
                refine Frame.ite ?_ ?_
                ·
                  refine Frame.next (Frame.event ..) (by decide) ?_
                  assumption
                ·
                  assumption
            ·
              assumption

theorem Frame.limChatter (s : State) (x : Fin 4) (positive : Bool) : Frame [.recs, .regs, .snt, .gd, .aux] s (State.limChatter s x positive) := by
  delta State.limChatter
  extract_lets +onlyGivenNames v1
  extract_lets +onlyGivenNames v2
  extract_lets +onlyGivenNames v3
  refine Frame.ite ?_ ?_
  ·
    extract_lets +onlyGivenNames v4
    refine Frame.via v4 ?_ (fun h5 => ?_)
    · unfold v4
      refine Frame.next (Frame.event ..) (by decide) ?_
      refine Frame.next (Frame.modLim ..) (by decide) ?_
      exact Frame.refl _ _
    · clear_value v4
      refine Frame.ite ?_ ?_
      ·
        refine Frame.next (Frame.homeFail ..) (by decide) ?_
        assumption
      ·
        assumption
  ·
    exact Frame.refl _ _

theorem Frame.auxKeep (s : State) (x : Fin 4) (boundary k : Nat) : Frame [.ks] s (State.auxKeep s x boundary k) := by
  delta State.auxKeep
  refine Frame.ite ?_ ?_
  ·
    exact Frame.refl _ _
  ·
    extract_lets +onlyGivenNames v1
    extract_lets +onlyGivenNames v2
    refine Frame.next (Frame.ksPair ..) (by decide) ?_
    exact Frame.refl _ _

theorem Frame.auxRead (s : State) (x : Fin 4) : Frame [.aux] s (State.auxRead s x) := by
  delta State.auxRead
  extract_lets +onlyGivenNames v1
  refine Frame.next (Frame.modAux ..) (by decide) ?_
  exact Frame.refl _ _

theorem Frame.auxTick (s : State) (x : Fin 4) : Frame [.aux] s (State.auxTick s x) := by
  delta State.auxTick
  extract_lets +onlyGivenNames v1
  extract_lets +onlyGivenNames v2
  refine Frame.next (Frame.modAux ..) (by decide) ?_
  exact Frame.refl _ _

theorem Frame.auxTake (s : State) (x : Fin 4) : Frame [.recs, .regs, .snt, .sns, .ax, .gd, .aux] s (State.auxTake s x) := by
  delta State.auxTake
  extract_lets +onlyGivenNames v1
  split
  ·
    exact Frame.refl _ _
  ·
    refine Frame.ite ?_ ?_
    ·
      refine Frame.next (Frame.modAux ..) (by decide) ?_
      exact Frame.refl _ _
    ·
      extract_lets +onlyGivenNames v2
      refine Frame.via v2 ?_ (fun h3 => ?_)
      · unfold v2
        refine Frame.next (Frame.modAux ..) (by decide) ?_
        exact Frame.refl _ _
      · clear_value v2
        split
        ·
          refine Frame.ite ?_ ?_
          ·
            refine Frame.next (Frame.modAux ..) (by decide) ?_
            assumption
          ·
            refine Frame.ite ?_ ?_
            ·
              refine Frame.next (Frame.homeBegin ..) (by decide) ?_
              refine Frame.next (Frame.startNow ..) (by decide) ?_
              assumption
            ·
              refine Frame.next (Frame.modAux ..) (by decide) ?_
              assumption
        ·
          refine Frame.ite ?_ ?_
          ·
            refine Frame.next (Frame.auxStop ..) (by decide) ?_
            assumption
          ·
            refine Frame.ite ?_ ?_
            ·
              refine Frame.next (Frame.homeBegin ..) (by decide) ?_
              refine Frame.next (Frame.modAux ..) (by decide) ?_
              assumption
            ·
              assumption
        ·
          refine Frame.ite ?_ ?_
          ·
            assumption
          ·
            refine Frame.ite ?_ ?_
            ·
              refine Frame.next (Frame.auxStop ..) (by decide) ?_
              assumption
            ·
              refine Frame.next (Frame.auxLost ..) (by decide) ?_
              refine Frame.next (Frame.modAux ..) (by decide) ?_
              assumption
        ·
          assumption
        ·
          assumption
        ·
          assumption

theorem Frame.auxRamp (s : State) (x : Fin 4) (n1 : Rat) : Frame [.aux] s (State.auxRamp s x n1) := by
  delta State.auxRamp
  refine Frame.next (Frame.modAux ..) (by decide) ?_
  exact Frame.refl _ _

theorem Frame.auxBoundary (s : State) (x : Fin 4) : Frame [.recs, .regs, .snt, .sns, .ax, .gd, .aux] s (State.auxBoundary s x) := by
  delta State.auxBoundary
  extract_lets +onlyGivenNames v1
  refine Frame.ite ?_ ?_
  ·
    refine Frame.next (Frame.auxRamp ..) (by decide) ?_
    exact Frame.refl _ _
  ·
    extract_lets +onlyGivenNames v2
    refine Frame.ite ?_ ?_
    ·
      refine Frame.next (Frame.auxTake ..) (by decide) ?_
      refine Frame.next (Frame.modAux ..) (by decide) ?_
      refine Frame.next (Frame.auxRamp ..) (by decide) ?_
      exact Frame.refl _ _
    ·
      extract_lets +onlyGivenNames v3
      refine Frame.via v3 ?_ (fun h4 => ?_)
      · unfold v3
        refine Frame.next (Frame.auxTake ..) (by decide) ?_
        refine Frame.next (Frame.auxRamp ..) (by decide) ?_
        exact Frame.refl _ _
      · clear_value v3
        extract_lets +onlyGivenNames v5
        refine Frame.ite ?_ ?_
        ·
          refine Frame.next (Frame.modAux ..) (by decide) ?_
          refine Frame.next (Frame.auxRamp ..) (by decide) ?_
          assumption
        ·
          assumption

theorem Frame.auxRestore (s : State) (x : Fin 4) : Frame [.recs, .aux] s (State.auxRestore s x) := by
  delta State.auxRestore
  refine Frame.ite ?_ ?_
  ·
    exact Frame.refl _ _
  ·
    split
    ·
      refine Frame.next (Frame.event ..) (by decide) ?_
      exact Frame.refl _ _
    ·
      refine Frame.ite ?_ ?_
      ·
        extract_lets +onlyGivenNames v1
        refine Frame.via v1 ?_ (fun h2 => ?_)
        · unfold v1
          refine Frame.next (Frame.modAux ..) (by decide) ?_
          exact Frame.refl _ _
        · clear_value v1
          refine Frame.next (Frame.event ..) (by decide) ?_
          assumption
      ·
        refine Frame.next (Frame.event ..) (by decide) ?_
        exact Frame.refl _ _

theorem Frame.sampleInstant (s : State) (n : Fin 6) (hsUv : BitVec 3) : Frame [.recs, .snt, .sns, .ax, .gd, .cmd] s (State.sampleInstant s n hsUv) := by
  delta State.sampleInstant
  extract_lets +onlyGivenNames v1
  extract_lets +onlyGivenNames v2
  split
  ·
    exact Frame.refl _ _
  ·
    extract_lets +onlyGivenNames v3
    refine Frame.ite ?_ ?_
    ·
      exact Frame.refl _ _
    ·
      extract_lets +onlyGivenNames v4
      refine Frame.via v4 ?_ (fun h5 => ?_)
      · unfold v4
        refine Frame.ite ?_ ?_
        ·
          refine Frame.next (Frame.countRefresh ..) (by decide) ?_
          exact Frame.refl _ _
        ·
          exact Frame.refl _ _
      · clear_value v4
        extract_lets +onlyGivenNames v6
        extract_lets +onlyGivenNames v7
        extract_lets +onlyGivenNames v8
        refine Frame.via v8 ?_ (fun h9 => ?_)
        · unfold v8
          refine Frame.ite ?_ ?_
          ·
            refine Frame.next (Frame.encCapture ..) (by decide) ?_
            assumption
          ·
            assumption
        · clear_value v8
          extract_lets +onlyGivenNames v10
          extract_lets +onlyGivenNames v11
          refine Frame.via v11 ?_ (fun h12 => ?_)
          · unfold v11
            refine Frame.ite ?_ ?_
            ·
              refine Frame.next (Frame.encTransfer ..) (by decide) ?_
              assumption
            ·
              assumption
          · clear_value v11
            refine Frame.ite ?_ ?_
            ·
              refine Frame.next (Frame.encCoast ..) (by decide) ?_
              assumption
            ·
              refine Frame.next (Frame.modSnt ..) (by decide) ?_
              assumption

theorem Frame.resample (s : State) (n : Fin 6) : Frame [.snt] s (State.resample s n) := by
  delta State.resample
  refine Frame.next (Frame.modSnt ..) (by decide) ?_
  exact Frame.refl _ _

theorem Frame.loopUpdate (s : State) (n : Fin 6) (yU yV yW : Rat) : Frame [.snt, .freeIx, .sns, .ax] s (State.loopUpdate s n yU yV yW) := by
  delta State.loopUpdate
  extract_lets +onlyGivenNames v1
  extract_lets +onlyGivenNames v2
  split
  ·
    exact Frame.refl _ _
  ·
    refine Frame.ite ?_ ?_
    ·
      exact Frame.refl _ _
    ·
      extract_lets +onlyGivenNames v3
      extract_lets +onlyGivenNames v4
      extract_lets +onlyGivenNames v5
      refine Frame.via v5 ?_ (fun h6 => ?_)
      · unfold v5
        refine Frame.foldTrans ?_ ?_
        ·
          exact Frame.refl _ _
        · intro x7 b8
          beta_reduce
          split
          ·
            refine Frame.next (Frame.modSdi ..) (by decide) ?_
            exact Frame.refl _ _
          ·
            exact Frame.refl _ _
      · clear_value v5
        refine Frame.next (Frame.onFreeIx ..) (by decide) ?_
        refine Frame.next (Frame.modSnt ..) (by decide) ?_
        refine Frame.next (Frame.modAx ..) (by decide) ?_
        assumption

theorem Frame.blockEmit (s : State) (n : Fin 6) : Frame [.recs, .blk] s (State.blockEmit s n) := by
  delta State.blockEmit
  split
  ·
    exact Frame.refl _ _
  ·
    refine Frame.next (Frame.emit ..) (by decide) ?_
    refine Frame.next (Frame.onBlk ..) (by decide) ?_
    exact Frame.refl _ _

theorem Frame.takeSample (s : State) (n : Fin 6) (sample : Nat) : Frame [.recs, .blk, .smpCnt] s (State.takeSample s n sample) := by
  delta State.takeSample
  refine Frame.ite ?_ ?_
  ·
    exact Frame.refl _ _
  ·
    extract_lets +onlyGivenNames v1
    refine Frame.ite ?_ ?_
    ·
      refine Frame.next (Frame.onSmpCnt ..) (by decide) ?_
      exact Frame.refl _ _
    ·
      extract_lets +onlyGivenNames v2
      extract_lets +onlyGivenNames v3
      extract_lets +onlyGivenNames v4
      refine Frame.via v4 ?_ (fun h5 => ?_)
      · unfold v4
        refine Frame.next (Frame.onBlk ..) (by decide) ?_
        refine Frame.next (Frame.onSmpCnt ..) (by decide) ?_
        exact Frame.refl _ _
      · clear_value v4
        refine Frame.ite ?_ ?_
        ·
          refine Frame.next (Frame.blockEmit ..) (by decide) ?_
          assumption
        ·
          assumption

theorem Frame.commitMain (s : State) (n : Fin 6) (r : EngResult) : Frame [.recs, .regs, .snt, .sns, .ax, .blk, .smpCnt, .gd, .cmd] s (State.commitMain s n r) := by
  delta State.commitMain
  extract_lets +onlyGivenNames v1
  refine Frame.via v1 ?_ (fun h2 => ?_)
  · unfold v1
    refine Frame.next (Frame.modSns ..) (by decide) ?_
    exact Frame.refl _ _
  · clear_value v1
    extract_lets +onlyGivenNames v3
    extract_lets +onlyGivenNames v4
    refine Frame.via v4 ?_ (fun h5 => ?_)
    · unfold v4
      refine Frame.next (Frame.modAx ..) (by decide) ?_
      assumption
    · clear_value v4
      extract_lets +onlyGivenNames v6
      refine Frame.via v6 ?_ (fun h7 => ?_)
      · unfold v6
        split
        ·
          extract_lets +onlyGivenNames v8
          refine Frame.via v8 ?_ (fun h9 => ?_)
          · unfold v8
            refine Frame.next (Frame.event ..) (by decide) ?_
            assumption
          · clear_value v8
            refine Frame.ite ?_ ?_
            ·
              refine Frame.next (Frame.modCmd ..) (by decide) ?_
              assumption
            ·
              assumption
        ·
          assumption
      · clear_value v6
        extract_lets +onlyGivenNames v10
        refine Frame.via v10 ?_ (fun h11 => ?_)
        · unfold v10
          refine Frame.ite ?_ ?_
          ·
            refine Frame.ite ?_ ?_
            ·
              refine Frame.next (Frame.axHaltOff ..) (by decide) ?_
              refine Frame.next (Frame.event ..) (by decide) ?_
              assumption
            ·
              refine Frame.next (Frame.ascEnter ..) (by decide) ?_
              assumption
          ·
            assumption
        · clear_value v10
          refine Frame.next (Frame.takeSample ..) (by decide) ?_
          assumption

theorem Frame.edgePosted (s : State) (a : Fin 10) : Frame [.mode, .stg, .recs, .regs, .snt, .cp, .sns, .ax, .blk, .smpCnt, .gd, .cmd, .aux, .saf] s (State.edgePosted s a) := by
  delta State.edgePosted
  extract_lets +onlyGivenNames v1
  split
  ·
    exact Frame.refl _ _
  ·
    extract_lets +onlyGivenNames v2
    extract_lets +onlyGivenNames v3
    extract_lets +onlyGivenNames v4
    extract_lets +onlyGivenNames v5
    extract_lets +onlyGivenNames v6
    extract_lets +onlyGivenNames v7
    extract_lets +onlyGivenNames v8
    refine Frame.via v8 ?_ (fun h9 => ?_)
    · unfold v8
      refine Frame.next (Frame.modSnt ..) (by decide) ?_
      exact Frame.refl _ _
    · clear_value v8
      split
      ·
        split
        ·
          refine Frame.next (Frame.ss1Bronze ..) (by decide) ?_
          refine Frame.next (Frame.commitMain ..) (by decide) ?_
          assumption
        ·
          assumption
      ·
        refine Frame.next (Frame.auxBegin ..) (by decide) ?_
        refine Frame.next (Frame.modAux ..) (by decide) ?_
        assumption

theorem Frame.coastEnd (s : State) (n : Fin 6) (edge : Nat) : Frame [.recs] s (State.coastEnd s n edge) := by
  delta State.coastEnd
  extract_lets +onlyGivenNames v1
  split
  ·
    refine Frame.next (Frame.event ..) (by decide) ?_
    exact Frame.refl _ _
  ·
    exact Frame.refl _ _

theorem Frame.putSet (s : State) (n : Fin 6) (edge : Nat) (e : EdgeSet) : Frame [.ax, .gd] s (State.putSet s n edge e) := by
  delta State.putSet
  extract_lets +onlyGivenNames v1
  extract_lets +onlyGivenNames v2
  extract_lets +onlyGivenNames v3
  extract_lets +onlyGivenNames v4
  extract_lets +onlyGivenNames v5
  refine Frame.via v5 ?_ (fun h6 => ?_)
  · unfold v5
    refine Frame.next (Frame.modAx ..) (by decide) ?_
    exact Frame.refl _ _
  · clear_value v5
    extract_lets +onlyGivenNames v7
    extract_lets +onlyGivenNames v8
    refine Frame.next (Frame.modGd ..) (by decide) ?_
    refine Frame.next (Frame.modAx ..) (by decide) ?_
    assumption

theorem Frame.takeSet (s : State) (n : Fin 6) (edge : Nat) : Frame [.recs, .ax, .gd] s (State.takeSet s n edge) := by
  delta State.takeSet
  split
  ·
    exact Frame.refl _ _
  ·
    extract_lets +onlyGivenNames v1
    refine Frame.via v1 ?_ (fun h2 => ?_)
    · unfold v1
      refine Frame.next (Frame.coastEnd ..) (by decide) ?_
      exact Frame.refl _ _
    · clear_value v1
      extract_lets +onlyGivenNames v3
      refine Frame.next (Frame.modAx ..) (by decide) ?_
      refine Frame.next (Frame.putSet ..) (by decide) ?_
      assumption

theorem Frame.missed (s : State) (a : Fin 10) (u : Upd) : Frame [.recs, .snt, .sns, .ax, .blk, .gd, .aux] s (State.missed s a u) := by
  delta State.missed
  extract_lets +onlyGivenNames v1
  extract_lets +onlyGivenNames v2
  extract_lets +onlyGivenNames v3
  refine Frame.via v3 ?_ (fun h4 => ?_)
  · unfold v3
    refine Frame.next (Frame.modSnt ..) (by decide) ?_
    exact Frame.refl _ _
  · clear_value v3
    extract_lets +onlyGivenNames v5
    refine Frame.via v5 ?_ (fun h6 => ?_)
    · unfold v5
      split
      ·
        extract_lets +onlyGivenNames v7
        refine Frame.next (Frame.blockEmit ..) (by decide) ?_
        refine Frame.next (Frame.modSns ..) (by decide) ?_
        refine Frame.next (Frame.modAx ..) (by decide) ?_
        refine Frame.next (Frame.putSet ..) (by decide) ?_
        assumption
      ·
        refine Frame.next (Frame.modAux ..) (by decide) ?_
        refine Frame.next (Frame.auxPut ..) (by decide) ?_
        assumption
    · clear_value v5
      refine Frame.ite ?_ ?_
      ·
        assumption
      ·
        refine Frame.next (Frame.event ..) (by decide) ?_
        assumption

theorem Frame.edgeUpdate (s : State) (a : Fin 10) : Frame [.recs, .snt, .sns, .ax, .blk, .gd, .aux] s (State.edgeUpdate s a) := by
  delta State.edgeUpdate
  split
  ·
    exact Frame.refl _ _
  ·
    refine Frame.ite ?_ ?_
    ·
      exact Frame.refl _ _
    ·
      refine Frame.ite ?_ ?_
      ·
        extract_lets +onlyGivenNames v1
        refine Frame.via v1 ?_ (fun h2 => ?_)
        · unfold v1
          refine Frame.next (Frame.modSnt ..) (by decide) ?_
          exact Frame.refl _ _
        · clear_value v1
          split
          ·
            refine Frame.next (Frame.takeSet ..) (by decide) ?_
            assumption
          ·
            split
            ·
              refine Frame.next (Frame.modAux ..) (by decide) ?_
              refine Frame.next (Frame.auxPut ..) (by decide) ?_
              assumption
            ·
              assumption
      ·
        refine Frame.next (Frame.missed ..) (by decide) ?_
        exact Frame.refl _ _

theorem Frame.lateDiscarded (s : State) (a : Fin 10) : Frame [.recs, .snt, .aux] s (State.lateDiscarded s a) := by
  delta State.lateDiscarded
  split
  ·
    exact Frame.refl _ _
  ·
    extract_lets +onlyGivenNames v1
    refine Frame.via v1 ?_ (fun h2 => ?_)
    · unfold v1
      refine Frame.next (Frame.event ..) (by decide) ?_
      refine Frame.next (Frame.modSnt ..) (by decide) ?_
      exact Frame.refl _ _
    · clear_value v1
      split
      ·
        assumption
      ·
        refine Frame.next (Frame.auxBegin ..) (by decide) ?_
        assumption

theorem Frame.lateReact (s : State) (a : Fin 10) : Frame [.recs, .snt, .ax, .cmd, .aux] s (State.lateReact s a) := by
  delta State.lateReact
  extract_lets +onlyGivenNames v1
  refine Frame.ite ?_ ?_
  ·
    refine Frame.next (Frame.modSnt ..) (by decide) ?_
    exact Frame.refl _ _
  ·
    split
    ·
      refine Frame.ite ?_ ?_
      ·
        extract_lets +onlyGivenNames v2
        refine Frame.ite ?_ ?_
        ·
          refine Frame.next (Frame.event ..) (by decide) ?_
          refine Frame.next (Frame.axStop ..) (by decide) ?_
          refine Frame.next (Frame.modSnt ..) (by decide) ?_
          exact Frame.refl _ _
        ·
          refine Frame.next (Frame.event ..) (by decide) ?_
          refine Frame.next (Frame.modSnt ..) (by decide) ?_
          exact Frame.refl _ _
      ·
        exact Frame.refl _ _
    ·
      refine Frame.next (Frame.event ..) (by decide) ?_
      refine Frame.next (Frame.axStop ..) (by decide) ?_
      refine Frame.next (Frame.modSnt ..) (by decide) ?_
      exact Frame.refl _ _
    ·
      refine Frame.next (Frame.event ..) (by decide) ?_
      refine Frame.next (Frame.auxStop ..) (by decide) ?_
      refine Frame.next (Frame.modSnt ..) (by decide) ?_
      exact Frame.refl _ _
    ·
      exact Frame.refl _ _

theorem Frame.lateBridgeOff (s : State) (a : Fin 10) : Frame [.recs, .regs, .snt, .ax, .gd, .cmd, .aux] s (State.lateBridgeOff s a) := by
  delta State.lateBridgeOff
  extract_lets +onlyGivenNames v1
  refine Frame.ite ?_ ?_
  ·
    refine Frame.next (Frame.event ..) (by decide) ?_
    refine Frame.next (Frame.halt10 ..) (by decide) ?_
    refine Frame.next (Frame.softOff ..) (by decide) ?_
    exact Frame.refl _ _
  ·
    exact Frame.refl _ _

theorem Frame.slackClose (s : State) (a : Fin 10) : Frame [.recs, .snt] s (State.slackClose s a) := by
  delta State.slackClose
  split
  ·
    refine Frame.ite ?_ ?_
    ·
      refine Frame.next (Frame.event ..) (by decide) ?_
      refine Frame.next (Frame.modSnt ..) (by decide) ?_
      exact Frame.refl _ _
    ·
      exact Frame.refl _ _
  ·
    exact Frame.refl _ _

theorem Frame.lateClear (s : State) (n : Fin 6) : Frame [.recs, .snt] s (State.lateClear s n) := by
  delta State.lateClear
  extract_lets +onlyGivenNames v1
  split
  ·
    refine Frame.ite ?_ ?_
    ·
      refine Frame.next (Frame.event ..) (by decide) ?_
      refine Frame.next (Frame.modSnt ..) (by decide) ?_
      exact Frame.refl _ _
    ·
      exact Frame.refl _ _
  ·
    exact Frame.refl _ _

theorem Frame.pwmChange (s : State) (a : Fin 10) : Frame [.snt, .ax, .aux] s (State.pwmChange s a) := by
  delta State.pwmChange
  split
  ·
    refine Frame.ite ?_ ?_
    ·
      extract_lets +onlyGivenNames v1
      extract_lets +onlyGivenNames v2
      extract_lets +onlyGivenNames v3
      refine Frame.via v3 ?_ (fun h4 => ?_)
      · unfold v3
        refine Frame.next (Frame.modSnt ..) (by decide) ?_
        exact Frame.refl _ _
      · clear_value v3
        split
        ·
          refine Frame.next (Frame.modAx ..) (by decide) ?_
          assumption
        ·
          refine Frame.next (Frame.modAux ..) (by decide) ?_
          assumption
    ·
      exact Frame.refl _ _
  ·
    exact Frame.refl _ _

theorem Frame.freqBoundary (s : State) (a : Fin 10) : Frame [.snt] s (State.freqBoundary s a) := by
  delta State.freqBoundary
  extract_lets +onlyGivenNames v1
  refine Frame.ite ?_ ?_
  ·
    refine Frame.next (Frame.modSnt ..) (by decide) ?_
    exact Frame.refl _ _
  ·
    exact Frame.refl _ _

theorem Frame.freqCommit (s : State) (a : Fin 10) : Frame [.snt] s (State.freqCommit s a) := by
  delta State.freqCommit
  extract_lets +onlyGivenNames v1
  extract_lets +onlyGivenNames v2
  refine Frame.ite ?_ ?_
  ·
    exact Frame.refl _ _
  ·
    refine Frame.next (Frame.modSnt ..) (by decide) ?_
    exact Frame.refl _ _

theorem Frame.modEngAll (s : State) (n : Fin 6) (f : Eng → Eng) : Frame [.ax] s (State.modEngAll s n f) := by
  delta State.modEngAll
  refine Frame.next (Frame.modAx ..) (by decide) ?_
  exact Frame.refl _ _

theorem Frame.catchResult (s : State) (n : Fin 6) (method : Nat) (speed : Rat) (angle : Word) : Frame [.recs, .ax, .cmd] s (State.catchResult s n method speed angle) := by
  delta State.catchResult
  extract_lets +onlyGivenNames v1
  extract_lets +onlyGivenNames v2
  extract_lets +onlyGivenNames v3
  extract_lets +onlyGivenNames v4
  refine Frame.via v4 ?_ (fun h5 => ?_)
  · unfold v4
    refine Frame.next (Frame.event ..) (by decide) ?_
    exact Frame.refl _ _
  · clear_value v4
    extract_lets +onlyGivenNames v6
    extract_lets +onlyGivenNames v7
    refine Frame.via v7 ?_ (fun h8 => ?_)
    · unfold v7
      refine Frame.next (Frame.modCmd ..) (by decide) ?_
      assumption
    · clear_value v7
      extract_lets +onlyGivenNames v9
      extract_lets +onlyGivenNames v10
      refine Frame.next (Frame.modEngAll ..) (by decide) ?_
      refine Frame.next (Frame.modAx ..) (by decide) ?_
      assumption

theorem Frame.catchDone (s : State) (n : Fin 6) (speed : Rat) (angle : Word) : Frame [.recs, .ax, .cmd] s (State.catchDone s n speed angle) := by
  delta State.catchDone
  refine Frame.ite ?_ ?_
  ·
    exact Frame.refl _ _
  ·
    extract_lets +onlyGivenNames v1
    split
    ·
      refine Frame.ite ?_ ?_
      ·
        extract_lets +onlyGivenNames v2
        refine Frame.next (Frame.catchResult ..) (by decide) ?_
        exact Frame.refl _ _
      ·
        exact Frame.refl _ _
    ·
      refine Frame.ite ?_ ?_
      ·
        refine Frame.next (Frame.catchResult ..) (by decide) ?_
        exact Frame.refl _ _
      ·
        refine Frame.ite ?_ ?_
        ·
          refine Frame.next (Frame.catchResult ..) (by decide) ?_
          exact Frame.refl _ _
        ·
          exact Frame.refl _ _
    ·
      refine Frame.ite ?_ ?_
      ·
        refine Frame.next (Frame.catchResult ..) (by decide) ?_
        exact Frame.refl _ _
      ·
        exact Frame.refl _ _

theorem Frame.catchFail (s : State) (n : Fin 6) : Frame [.recs, .regs, .snt, .ax, .gd, .cmd] s (State.catchFail s n) := by
  delta State.catchFail
  extract_lets +onlyGivenNames v1
  extract_lets +onlyGivenNames v2
  extract_lets +onlyGivenNames v3
  refine Frame.ite ?_ ?_
  ·
    exact Frame.refl _ _
  ·
    extract_lets +onlyGivenNames v4
    refine Frame.via v4 ?_ (fun h5 => ?_)
    · unfold v4
      refine Frame.next (Frame.event ..) (by decide) ?_
      exact Frame.refl _ _
    · clear_value v4
      refine Frame.ite ?_ ?_
      ·
        refine Frame.next (Frame.axHaltOff ..) (by decide) ?_
        assumption
      ·
        refine Frame.next (Frame.modAx ..) (by decide) ?_
        assumption

theorem Frame.catchRetry (s : State) (n : Fin 6) : Frame [.snt, .sns, .ax] s (State.catchRetry s n) := by
  delta State.catchRetry
  extract_lets +onlyGivenNames v1
  split
  ·
    refine Frame.ite ?_ ?_
    ·
      refine Frame.next (Frame.catchEnter ..) (by decide) ?_
      exact Frame.refl _ _
    ·
      exact Frame.refl _ _
  ·
    exact Frame.refl _ _

theorem Frame.ifAlignEnd (s : State) (n : Fin 6) : Frame [.ax] s (State.ifAlignEnd s n) := by
  delta State.ifAlignEnd
  extract_lets +onlyGivenNames v1
  refine Frame.ite ?_ ?_
  ·
    refine Frame.next (Frame.modEngAll ..) (by decide) ?_
    exact Frame.refl _ _
  ·
    exact Frame.refl _ _

theorem Frame.ifBlendEnd (s : State) (n : Fin 6) : Frame [.ax] s (State.ifBlendEnd s n) := by
  delta State.ifBlendEnd
  extract_lets +onlyGivenNames v1
  refine Frame.ite ?_ ?_
  ·
    refine Frame.next (Frame.modAx ..) (by decide) ?_
    refine Frame.next (Frame.modEngAll ..) (by decide) ?_
    exact Frame.refl _ _
  ·
    exact Frame.refl _ _

theorem Frame.los (s : State) (n : Fin 6) : Frame [.recs, .regs, .snt, .sns, .ax, .gd, .cmd] s (State.los s n) := by
  delta State.los
  extract_lets +onlyGivenNames v1
  extract_lets +onlyGivenNames v2
  extract_lets +onlyGivenNames v3
  refine Frame.ite ?_ ?_
  ·
    exact Frame.refl _ _
  ·
    extract_lets +onlyGivenNames v4
    extract_lets +onlyGivenNames v5
    extract_lets +onlyGivenNames v6
    extract_lets +onlyGivenNames v7
    refine Frame.via v7 ?_ (fun h8 => ?_)
    · unfold v7
      refine Frame.next (Frame.event ..) (by decide) ?_
      exact Frame.refl _ _
    · clear_value v7
      extract_lets +onlyGivenNames v9
      refine Frame.via v9 ?_ (fun h10 => ?_)
      · unfold v9
        refine Frame.next (Frame.modAx ..) (by decide) ?_
        assumption
      · clear_value v9
        extract_lets +onlyGivenNames v11
        extract_lets +onlyGivenNames v12
        refine Frame.via v12 ?_ (fun h13 => ?_)
        · unfold v12
          refine Frame.ite ?_ ?_
          ·
            refine Frame.next (Frame.event ..) (by decide) ?_
            assumption
          ·
            assumption
        · clear_value v12
          refine Frame.ite ?_ ?_
          ·
            extract_lets +onlyGivenNames v14
            refine Frame.via v14 ?_ (fun h15 => ?_)
            · unfold v14
              refine Frame.next (Frame.modAx ..) (by decide) ?_
              refine Frame.next (Frame.ascEnter ..) (by decide) ?_
              assumption
            · clear_value v14
              refine Frame.ite ?_ ?_
              ·
                refine Frame.next (Frame.modAx ..) (by decide) ?_
                assumption
              ·
                assumption
          ·
            refine Frame.ite ?_ ?_
            ·
              refine Frame.next (Frame.axFault ..) (by decide) ?_
              assumption
            ·
              refine Frame.next (Frame.catchEnter ..) (by decide) ?_
              assumption

theorem Frame.runAllowed (s : State) (n : Fin 6) : Frame [.ax, .cmd] s (State.runAllowed s n) := by
  delta State.runAllowed
  split
  ·
    refine Frame.next (Frame.axStop ..) (by decide) ?_
    exact Frame.refl _ _
  ·
    refine Frame.next (Frame.axStop ..) (by decide) ?_
    exact Frame.refl _ _
  ·
    exact Frame.refl _ _

theorem Frame.ascResume (s : State) (n : Fin 6) : Frame [.recs, .ax, .gd, .cmd] s (State.ascResume s n) := by
  delta State.ascResume
  extract_lets +onlyGivenNames v1
  extract_lets +onlyGivenNames v2
  extract_lets +onlyGivenNames v3
  refine Frame.via v3 ?_ (fun h4 => ?_)
  · unfold v3
    refine Frame.next (Frame.event ..) (by decide) ?_
    exact Frame.refl _ _
  · clear_value v3
    extract_lets +onlyGivenNames v5
    extract_lets +onlyGivenNames v6
    extract_lets +onlyGivenNames v7
    extract_lets +onlyGivenNames v8
    refine Frame.via v8 ?_ (fun h9 => ?_)
    · unfold v8
      refine Frame.next (Frame.putSet ..) (by decide) ?_
      assumption
    · clear_value v8
      extract_lets +onlyGivenNames v10
      refine Frame.via v10 ?_ (fun h11 => ?_)
      · unfold v10
        refine Frame.next (Frame.modAx ..) (by decide) ?_
        assumption
      · clear_value v10
        split
        ·
          refine Frame.next (Frame.catchResult ..) (by decide) ?_
          refine Frame.next (Frame.modAx ..) (by decide) ?_
          assumption
        ·
          refine Frame.next (Frame.runAllowed ..) (by decide) ?_
          refine Frame.next (Frame.modAx ..) (by decide) ?_
          assumption
        ·
          refine Frame.next (Frame.runAllowed ..) (by decide) ?_
          refine Frame.next (Frame.modCmd ..) (by decide) ?_
          refine Frame.next (Frame.modAx ..) (by decide) ?_
          assumption

theorem Frame.reacquired (s : State) (n : Fin 6) : Frame [.recs, .ax, .gd, .cmd] s (State.reacquired s n) := by
  delta State.reacquired
  extract_lets +onlyGivenNames v1
  extract_lets +onlyGivenNames v2
  split
  ·
    refine Frame.ite ?_ ?_
    ·
      refine Frame.next (Frame.ascResume ..) (by decide) ?_
      exact Frame.refl _ _
    ·
      exact Frame.refl _ _
  ·
    refine Frame.ite ?_ ?_
    ·
      exact Frame.refl _ _
    ·
      refine Frame.next (Frame.modAx ..) (by decide) ?_
      refine Frame.next (Frame.event ..) (by decide) ?_
      exact Frame.refl _ _

theorem Frame.reacqTimeout (s : State) (n : Fin 6) : Frame [.ax] s (State.reacqTimeout s n) := by
  delta State.reacqTimeout
  extract_lets +onlyGivenNames v1
  refine Frame.ite ?_ ?_
  ·
    refine Frame.next (Frame.modAx ..) (by decide) ?_
    exact Frame.refl _ _
  ·
    exact Frame.refl _ _

theorem Frame.ascEnd (s : State) (n : Fin 6) (detail : Nat) : Frame [.recs, .ax] s (State.ascEnd s n detail) := by
  delta State.ascEnd
  extract_lets +onlyGivenNames v1
  refine Frame.next (Frame.modAx ..) (by decide) ?_
  refine Frame.next (Frame.event ..) (by decide) ?_
  exact Frame.refl _ _

theorem Frame.ascExit (s : State) (n : Fin 6) : Frame [.recs, .regs, .snt, .ax, .gd, .cmd] s (State.ascExit s n) := by
  delta State.ascExit
  extract_lets +onlyGivenNames v1
  split
  ·
    refine Frame.ite ?_ ?_
    ·
      refine Frame.next (Frame.axHaltOff ..) (by decide) ?_
      refine Frame.next (Frame.ascEnd ..) (by decide) ?_
      exact Frame.refl _ _
    ·
      exact Frame.refl _ _
  ·
    exact Frame.refl _ _

theorem Frame.blindEnd (s : State) (n : Fin 6) : Frame [.recs, .regs, .snt, .sns, .ax, .gd, .cmd] s (State.blindEnd s n) := by
  delta State.blindEnd
  extract_lets +onlyGivenNames v1
  split
  ·
    refine Frame.ite ?_ ?_
    ·
      extract_lets +onlyGivenNames v2
      extract_lets +onlyGivenNames v3
      refine Frame.via v3 ?_ (fun h4 => ?_)
      · unfold v3
        refine Frame.next (Frame.ascEnd ..) (by decide) ?_
        exact Frame.refl _ _
      · clear_value v3
        refine Frame.ite ?_ ?_
        ·
          refine Frame.next (Frame.axHaltOff ..) (by decide) ?_
          assumption
        ·
          refine Frame.next (Frame.catchEnter ..) (by decide) ?_
          assumption
    ·
      exact Frame.refl _ _
  ·
    exact Frame.refl _ _

theorem Frame.dcStop (s : State) : Frame [.mode] s (State.dcStop s) := by
  delta State.dcStop
  refine Frame.next (Frame.setStop ..) (by decide) ?_
  exact Frame.refl _ _

theorem Frame.dcFactors (s : State) (n : Fin 6) (t : Nat) : Frame [.recs, .cmd] s (State.dcFactors s n t) := by
  delta State.dcFactors
  extract_lets +onlyGivenNames v1
  extract_lets +onlyGivenNames v2
  extract_lets +onlyGivenNames v3
  extract_lets +onlyGivenNames v4
  extract_lets +onlyGivenNames v5
  refine Frame.via v5 ?_ (fun h6 => ?_)
  · unfold v5
    refine Frame.next (Frame.modCmd ..) (by decide) ?_
    exact Frame.refl _ _
  · clear_value v5
    extract_lets +onlyGivenNames v7
    refine Frame.via v7 ?_ (fun h8 => ?_)
    · unfold v7
      refine Frame.ite ?_ ?_
      ·
        refine Frame.next (Frame.event ..) (by decide) ?_
        assumption
      ·
        assumption
    · clear_value v7
      refine Frame.ite ?_ ?_
      ·
        refine Frame.next (Frame.event ..) (by decide) ?_
        assumption
      ·
        assumption

theorem Frame.dcOver (s : State) (n : Fin 6) (v : Rat) (t : Nat) (first : Bool) : Frame [.recs, .regs, .snt, .sns, .ax, .gd, .cmd] s (State.dcOver s n v t first) := by
  delta State.dcOver
  extract_lets +onlyGivenNames v1
  split
  ·
    exact Frame.refl _ _
  ·
    exact Frame.refl _ _
  ·
    exact Frame.refl _ _
  ·
    unfold v1
    refine Frame.ite ?_ ?_
    ·
      refine Frame.next (Frame.coastAsc ..) (by decide) ?_
      exact Frame.refl _ _
    ·
      exact Frame.refl _ _
  ·
    unfold v1
    refine Frame.ite ?_ ?_
    ·
      refine Frame.next (Frame.coastAsc ..) (by decide) ?_
      refine Frame.next (Frame.axFault ..) (by decide) ?_
      refine Frame.next (Frame.event ..) (by decide) ?_
      exact Frame.refl _ _
    ·
      refine Frame.next (Frame.axFault ..) (by decide) ?_
      refine Frame.next (Frame.event ..) (by decide) ?_
      exact Frame.refl _ _

theorem Frame.dcConv (s : State) (n : Fin 6) (v : Rat) (t : Nat) : Frame [.mode, .recs, .regs, .snt, .sns, .ax, .gd, .cmd] s (State.dcConv s n v t) := by
  delta State.dcConv
  extract_lets +onlyGivenNames v1
  extract_lets +onlyGivenNames v2
  extract_lets +onlyGivenNames v3
  refine Frame.via v3 ?_ (fun h4 => ?_)
  · unfold v3
    refine Frame.next (Frame.dcFactors ..) (by decide) ?_
    exact Frame.refl _ _
  · clear_value v3
    extract_lets +onlyGivenNames v5
    extract_lets +onlyGivenNames v6
    extract_lets +onlyGivenNames v7
    extract_lets +onlyGivenNames v8
    extract_lets +onlyGivenNames v9
    refine Frame.via v9 ?_ (fun h10 => ?_)
    · unfold v9
      refine Frame.next (Frame.modCmd ..) (by decide) ?_
      assumption
    · clear_value v9
      extract_lets +onlyGivenNames v11
      refine Frame.via v11 ?_ (fun h12 => ?_)
      · unfold v11
        refine Frame.ite ?_ ?_
        ·
          refine Frame.next (Frame.event ..) (by decide) ?_
          assumption
        ·
          assumption
      · clear_value v11
        extract_lets +onlyGivenNames v13
        refine Frame.via v13 ?_ (fun h14 => ?_)
        · unfold v13
          refine Frame.ite ?_ ?_
          ·
            refine Frame.next (Frame.event ..) (by decide) ?_
            assumption
          ·
            assumption
        · clear_value v13
          extract_lets +onlyGivenNames v15
          refine Frame.via v15 ?_ (fun h16 => ?_)
          · unfold v15
            refine Frame.ite ?_ ?_
            ·
              refine Frame.next (Frame.event ..) (by decide) ?_
              assumption
            ·
              assumption
          · clear_value v15
            extract_lets +onlyGivenNames v17
            refine Frame.via v17 ?_ (fun h18 => ?_)
            · unfold v17
              refine Frame.next (Frame.dcStop ..) (by decide) ?_
              assumption
            · clear_value v17
              extract_lets +onlyGivenNames v19
              refine Frame.via v19 ?_ (fun h20 => ?_)
              · unfold v19
                refine Frame.ite ?_ ?_
                ·
                  refine Frame.next (Frame.dcOver ..) (by decide) ?_
                  assumption
                ·
                  assumption
              · clear_value v19
                refine Frame.next (Frame.encCoast ..) (by decide) ?_
                assumption

theorem Frame.dcCrit (s : State) (n : Fin 6) (high : Bool) : Frame [.mode, .recs, .cmd] s (State.dcCrit s n high) := by
  delta State.dcCrit
  extract_lets +onlyGivenNames v1
  split
  ·
    refine Frame.ite ?_ ?_
    ·
      refine Frame.next (Frame.dcStop ..) (by decide) ?_
      refine Frame.next (Frame.event ..) (by decide) ?_
      refine Frame.next (Frame.modCmd ..) (by decide) ?_
      exact Frame.refl _ _
    ·
      exact Frame.refl _ _
  ·
    exact Frame.refl _ _

theorem Frame.dcLimitEnd (s : State) (n : Fin 6) (regen : Bool) : Frame [.recs, .cmd] s (State.dcLimitEnd s n regen) := by
  delta State.dcLimitEnd
  extract_lets +onlyGivenNames v1
  split
  ·
    refine Frame.ite ?_ ?_
    ·
      refine Frame.next (Frame.event ..) (by decide) ?_
      refine Frame.next (Frame.modCmd ..) (by decide) ?_
      exact Frame.refl _ _
    ·
      exact Frame.refl _ _
  ·
    exact Frame.refl _ _

theorem Frame.vtConv (s : State) (n : Fin 6) (t : Nat) : Frame [.recs, .snt, .sns, .ax, .gd, .cmd] s (State.vtConv s n t) := by
  delta State.vtConv
  extract_lets +onlyGivenNames v1
  extract_lets +onlyGivenNames v2
  extract_lets +onlyGivenNames v3
  extract_lets +onlyGivenNames v4
  extract_lets +onlyGivenNames v5
  refine Frame.via v5 ?_ (fun h6 => ?_)
  · unfold v5
    refine Frame.next (Frame.modAx ..) (by decide) ?_
    exact Frame.refl _ _
  · clear_value v5
    split
    ·
      extract_lets +onlyGivenNames v7
      refine Frame.ite ?_ ?_
      ·
        refine Frame.next (Frame.coastAsc ..) (by decide) ?_
        assumption
      ·
        assumption
    ·
      assumption

theorem Frame.twConv (s : State) (n : Fin 6) (v : Rat) (valid : Bool) (t : Nat) : Frame [.cmd] s (State.twConv s n v valid t) := by
  delta State.twConv
  refine Frame.next (Frame.modCmd ..) (by decide) ?_
  exact Frame.refl _ _

theorem Frame.ainDone (s : State) (c : Fin 32) (volts : Rat) : Frame [.mode, .recs, .regs, .snt, .sns, .ax, .gd, .cmd] s (State.ainDone s c volts) := by
  delta State.ainDone
  split
  ·
    exact Frame.refl _ _
  ·
    refine Frame.ite ?_ ?_
    ·
      exact Frame.refl _ _
    ·
      extract_lets +onlyGivenNames v1
      refine Frame.via v1 ?_ (fun h2 => ?_)
      · unfold v1
        refine Frame.next (Frame.ainValue ..) (by decide) ?_
        exact Frame.refl _ _
      · clear_value v1
        extract_lets +onlyGivenNames v3
        extract_lets +onlyGivenNames v4
        extract_lets +onlyGivenNames v5
        refine Frame.via v5 ?_ (fun h6 => ?_)
        · unfold v5
          refine Frame.next (Frame.chopWatch ..) (by decide) ?_
          assumption
        · clear_value v5
          refine Frame.foldTrans ?_ ?_
          ·
            assumption
          · intro x7 b8
            beta_reduce
            refine Frame.ite ?_ ?_
            ·
              exact Frame.refl _ _
            ·
              extract_lets +onlyGivenNames v9
              refine Frame.via v9 ?_ (fun h10 => ?_)
              · unfold v9
                refine Frame.ite ?_ ?_
                ·
                  refine Frame.next (Frame.dcConv ..) (by decide) ?_
                  exact Frame.refl _ _
                ·
                  exact Frame.refl _ _
              · clear_value v9
                extract_lets +onlyGivenNames v11
                refine Frame.via v11 ?_ (fun h12 => ?_)
                · unfold v11
                  refine Frame.ite ?_ ?_
                  ·
                    refine Frame.next (Frame.vtConv ..) (by decide) ?_
                    assumption
                  ·
                    assumption
                · clear_value v11
                  refine Frame.ite ?_ ?_
                  ·
                    refine Frame.next (Frame.twConv ..) (by decide) ?_
                    assumption
                  ·
                    assumption

theorem Frame.vdcInvalid (s : State) (n : Fin 6) (c : Fin 32) : Frame [.recs, .regs, .snt, .sns, .ax, .gd, .cmd] s (State.vdcInvalid s n c) := by
  delta State.vdcInvalid
  extract_lets +onlyGivenNames v1
  extract_lets +onlyGivenNames v2
  refine Frame.via v2 ?_ (fun h3 => ?_)
  · unfold v2
    refine Frame.ite ?_ ?_
    ·
      exact Frame.refl _ _
    ·
      refine Frame.next (Frame.event ..) (by decide) ?_
      exact Frame.refl _ _
  · clear_value v2
    extract_lets +onlyGivenNames v4
    refine Frame.via v4 ?_ (fun h5 => ?_)
    · unfold v4
      refine Frame.next (Frame.modCmd ..) (by decide) ?_
      assumption
    · clear_value v4
      split
      ·
        assumption
      ·
        assumption
      ·
        refine Frame.next (Frame.axFault ..) (by decide) ?_
        refine Frame.next (Frame.event ..) (by decide) ?_
        assumption

theorem Frame.ainRange (s : State) (c : Fin 32) : Frame [.mode, .recs, .regs, .snt, .sns, .ax, .gd, .cmd] s (State.ainRange s c) := by
  delta State.ainRange
  extract_lets +onlyGivenNames v1
  refine Frame.ite ?_ ?_
  ·
    exact Frame.refl _ _
  ·
    extract_lets +onlyGivenNames v2
    refine Frame.via v2 ?_ (fun h3 => ?_)
    · unfold v2
      refine Frame.next (Frame.modAin ..) (by decide) ?_
      exact Frame.refl _ _
    · clear_value v2
      extract_lets +onlyGivenNames v4
      refine Frame.via v4 ?_ (fun h5 => ?_)
      · unfold v4
        refine Frame.next (Frame.event ..) (by decide) ?_
        assumption
      · clear_value v4
        extract_lets +onlyGivenNames v6
        refine Frame.via v6 ?_ (fun h7 => ?_)
        · unfold v6
          refine Frame.foldTrans ?_ ?_
          ·
            assumption
          · intro x8 b9
            beta_reduce
            refine Frame.ite ?_ ?_
            ·
              refine Frame.next (Frame.vdcInvalid ..) (by decide) ?_
              exact Frame.refl _ _
            ·
              exact Frame.refl _ _
        · clear_value v6
          refine Frame.next (Frame.dcStop ..) (by decide) ?_
          assumption

theorem Frame.overtemp (s : State) (n : Fin 6) : Frame [.recs, .regs, .snt, .sns, .ax, .gd, .cmd] s (State.overtemp s n) := by
  delta State.overtemp
  split
  ·
    extract_lets +onlyGivenNames v1
    refine Frame.ite ?_ ?_
    ·
      refine Frame.next (Frame.axFault ..) (by decide) ?_
      refine Frame.next (Frame.event ..) (by decide) ?_
      exact Frame.refl _ _
    ·
      exact Frame.refl _ _
  ·
    exact Frame.refl _ _

theorem Frame.standstill (s : State) (n : Fin 6) : Frame [.recs, .regs, .snt, .ax, .gd, .cmd] s (State.standstill s n) := by
  delta State.standstill
  extract_lets +onlyGivenNames v1
  split
  ·
    refine Frame.ite ?_ ?_
    ·
      split
      ·
        refine Frame.next (Frame.resetCommand ..) (by decide) ?_
        refine Frame.next (Frame.axDown ..) (by decide) ?_
        exact Frame.refl _ _
      ·
        refine Frame.next (Frame.axDown ..) (by decide) ?_
        exact Frame.refl _ _
      ·
        exact Frame.refl _ _
      ·
        refine Frame.next (Frame.axHaltOff ..) (by decide) ?_
        exact Frame.refl _ _
    ·
      exact Frame.refl _ _
  ·
    exact Frame.refl _ _

theorem Frame.stopTmo (s : State) (n : Fin 6) : Frame [.recs, .regs, .snt, .sns, .ax, .gd, .cmd] s (State.stopTmo s n) := by
  delta State.stopTmo
  extract_lets +onlyGivenNames v1
  split
  ·
    refine Frame.ite ?_ ?_
    ·
      refine Frame.next (Frame.axFault ..) (by decide) ?_
      refine Frame.next (Frame.event ..) (by decide) ?_
      exact Frame.refl _ _
    ·
      exact Frame.refl _ _
  ·
    exact Frame.refl _ _

theorem Frame.impactEnd (s : State) (n : Fin 6) : Frame [.cmd] s (State.impactEnd s n) := by
  delta State.impactEnd
  split
  ·
    refine Frame.ite ?_ ?_
    ·
      refine Frame.next (Frame.modCmd ..) (by decide) ?_
      exact Frame.refl _ _
    ·
      exact Frame.refl _ _
  ·
    exact Frame.refl _ _

theorem Frame.iceStall (s : State) (n : Fin 6) : Frame [.recs, .regs, .snt, .sns, .ax, .gd, .cmd] s (State.iceStall s n) := by
  delta State.iceStall
  extract_lets +onlyGivenNames v1
  split
  ·
    refine Frame.ite ?_ ?_
    ·
      extract_lets +onlyGivenNames v2
      extract_lets +onlyGivenNames v3
      refine Frame.via v3 ?_ (fun h4 => ?_)
      · unfold v3
        refine Frame.next (Frame.modCmd ..) (by decide) ?_
        exact Frame.refl _ _
      · clear_value v3
        extract_lets +onlyGivenNames v5
        refine Frame.via v5 ?_ (fun h6 => ?_)
        · unfold v5
          refine Frame.next (Frame.event ..) (by decide) ?_
          assumption
        · clear_value v5
          refine Frame.ite ?_ ?_
          ·
            refine Frame.next (Frame.axFault ..) (by decide) ?_
            refine Frame.next (Frame.modCmd ..) (by decide) ?_
            assumption
          ·
            assumption
    ·
      exact Frame.refl _ _
  ·
    exact Frame.refl _ _

theorem Frame.icePauseEnd (s : State) (n : Fin 6) : Frame [.cmd] s (State.icePauseEnd s n) := by
  delta State.icePauseEnd
  extract_lets +onlyGivenNames v1
  refine Frame.ite ?_ ?_
  ·
    refine Frame.next (Frame.modCmd ..) (by decide) ?_
    exact Frame.refl _ _
  ·
    exact Frame.refl _ _

theorem Frame.iceBackEnd (s : State) (n : Fin 6) : Frame [.cmd] s (State.iceBackEnd s n) := by
  delta State.iceBackEnd
  extract_lets +onlyGivenNames v1
  refine Frame.ite ?_ ?_
  ·
    refine Frame.next (Frame.modCmd ..) (by decide) ?_
    exact Frame.refl _ _
  ·
    exact Frame.refl _ _

theorem Frame.wrote (s : State) (n : Fin 6) (c : Ctx) : Frame [.cmd] s (State.wrote s n c) := by
  delta State.wrote
  refine Frame.next (Frame.modCmd ..) (by decide) ?_
  exact Frame.refl _ _

theorem Frame.takeHeave (s : State) (n : Fin 6) (tm : Nat) (v a : Rat) (can : Bool) : Frame [.cmd] s (State.takeHeave s n tm v a can) := by
  delta State.takeHeave
  refine Frame.next (Frame.modCmd ..) (by decide) ?_
  exact Frame.refl _ _

theorem Frame.heaveStale (s : State) (n : Fin 6) : Frame [.recs, .cmd] s (State.heaveStale s n) := by
  delta State.heaveStale
  extract_lets +onlyGivenNames v1
  split
  ·
    refine Frame.ite ?_ ?_
    ·
      refine Frame.next (Frame.event ..) (by decide) ?_
      refine Frame.next (Frame.modCmd ..) (by decide) ?_
      exact Frame.refl _ _
    ·
      exact Frame.refl _ _
  ·
    exact Frame.refl _ _

theorem Frame.heaveTick (s : State) (n : Fin 6) (ta : Nat) : Frame [.recs, .cmd] s (State.heaveTick s n ta) := by
  delta State.heaveTick
  extract_lets +onlyGivenNames v1
  extract_lets +onlyGivenNames v2
  extract_lets +onlyGivenNames v3
  extract_lets +onlyGivenNames v4
  clear_value v3
  split
  ·
    extract_lets +onlyGivenNames v5
    refine Frame.via v5 ?_ (fun h6 => ?_)
    · unfold v5
      refine Frame.next (Frame.modCmd ..) (by decide) ?_
      exact Frame.refl _ _
    · clear_value v5
      refine Frame.ite ?_ ?_
      ·
        refine Frame.next (Frame.event ..) (by decide) ?_
        assumption
      ·
        assumption
  ·
    refine Frame.next (Frame.modCmd ..) (by decide) ?_
    exact Frame.refl _ _

theorem Frame.leverCheck (s : State) (n : Fin 6) : Frame [.recs, .cmd] s (State.leverCheck s n) := by
  delta State.leverCheck
  extract_lets +onlyGivenNames v1
  extract_lets +onlyGivenNames v2
  refine Frame.ite ?_ ?_
  ·
    exact Frame.refl _ _
  ·
    refine Frame.ite ?_ ?_
    ·
      refine Frame.next (Frame.event ..) (by decide) ?_
      refine Frame.next (Frame.modCmd ..) (by decide) ?_
      exact Frame.refl _ _
    ·
      refine Frame.next (Frame.modCmd ..) (by decide) ?_
      exact Frame.refl _ _

theorem Frame.takeCommand (s : State) (n : Fin 6) (src mode : Nat) (set : Rat) (heave : Bool) : Frame [.cmd] s (State.takeCommand s n src mode set heave) := by
  delta State.takeCommand
  extract_lets +onlyGivenNames v1
  refine Frame.next (Frame.modCmd ..) (by decide) ?_
  exact Frame.refl _ _

theorem Frame.canLost (s : State) (n : Fin 6) : Frame [.recs, .cmd] s (State.canLost s n) := by
  delta State.canLost
  extract_lets +onlyGivenNames v1
  extract_lets +onlyGivenNames v2
  split
  ·
    refine Frame.ite ?_ ?_
    ·
      refine Frame.next (Frame.event ..) (by decide) ?_
      refine Frame.next (Frame.modCmd ..) (by decide) ?_
      exact Frame.refl _ _
    ·
      exact Frame.refl _ _
  ·
    exact Frame.refl _ _

theorem Frame.sourceStop (s : State) : Frame [.mode] s (State.sourceStop s) := by
  delta State.sourceStop
  extract_lets +onlyGivenNames v1
  refine Frame.next (Frame.setStop ..) (by decide) ?_
  exact Frame.refl _ _

theorem Frame.runFresh (s : State) (n : Fin 6) : Frame [.cmd] s (State.runFresh s n) := by
  delta State.runFresh
  refine Frame.next (Frame.modCmd ..) (by decide) ?_
  exact Frame.refl _ _

theorem Frame.runAgainFromStop (s : State) (n : Fin 6) : Frame [.ax, .cmd] s (State.runAgainFromStop s n) := by
  delta State.runAgainFromStop
  refine Frame.next (Frame.modAx ..) (by decide) ?_
  refine Frame.next (Frame.runFresh ..) (by decide) ?_
  exact Frame.refl _ _

theorem Frame.crashTake (s : State) (n : Fin 6) : Frame [.recs, .regs, .ax, .cmd] s (State.crashTake s n) := by
  delta State.crashTake
  extract_lets +onlyGivenNames v1
  extract_lets +onlyGivenNames v2
  refine Frame.ite ?_ ?_
  ·
    exact Frame.refl _ _
  ·
    refine Frame.ite ?_ ?_
    ·
      refine Frame.next (Frame.modCmd ..) (by decide) ?_
      exact Frame.refl _ _
    ·
      extract_lets +onlyGivenNames v3
      refine Frame.via v3 ?_ (fun h4 => ?_)
      · unfold v3
        refine Frame.next (Frame.setAxisWords _ _ (fun r hr => ⟨Regs.set_wf _ _ _ (Regs.set_wf _ _ _ hr), fun b hb => by
          have h6 := n.isLt
          rw [Regs.get_set _ _ _ _ (Regs.set_wf _ _ _ hr), Regs.get_set _ _ _ _ hr, if_neg (by simp only [Reg.AXn_CMD_SET]; omega), if_neg (by simp only [Reg.AXn_CMD]; omega)]⟩)) (by decide) ?_
        exact Frame.refl _ _
      · clear_value v3
        extract_lets +onlyGivenNames v5
        refine Frame.via v5 ?_ (fun h6 => ?_)
        · unfold v5
          refine Frame.next (Frame.modCmd ..) (by decide) ?_
          assumption
        · clear_value v5
          extract_lets +onlyGivenNames v7
          refine Frame.via v7 ?_ (fun h8 => ?_)
          · unfold v7
            refine Frame.ite ?_ ?_
            · refine Frame.next (Frame.runAgainFromStop ..) (by decide) ?_
              assumption
            · assumption
          · clear_value v7
            refine Frame.next (Frame.event ..) (by decide) ?_
            assumption

theorem Frame.thermInit (s : State) (n : Fin 6) : Frame [.cmd] s (State.thermInit s n) := by
  delta State.thermInit
  refine Frame.next (Frame.modCmd ..) (by decide) ?_
  exact Frame.refl _ _

theorem Frame.thermTick (s : State) (n : Fin 6) (ta : Nat) : Frame [.recs, .cmd] s (State.thermTick s n ta) := by
  delta State.thermTick
  extract_lets +onlyGivenNames v1
  extract_lets +onlyGivenNames v2
  extract_lets +onlyGivenNames v3
  extract_lets +onlyGivenNames v4
  extract_lets +onlyGivenNames v5
  extract_lets +onlyGivenNames v6
  extract_lets +onlyGivenNames v7
  extract_lets +onlyGivenNames v8
  refine Frame.via v8 ?_ (fun h9 => ?_)
  · unfold v8
    refine Frame.next (Frame.modCmd ..) (by decide) ?_
    exact Frame.refl _ _
  · clear_value v8
    refine Frame.ite ?_ ?_
    ·
      assumption
    ·
      refine Frame.next (Frame.event ..) (by decide) ?_
      assumption

theorem Frame.foldTake (s : State) (n : Fin 6) : Frame [.recs, .cmd] s (State.foldTake s n) := by
  delta State.foldTake
  extract_lets +onlyGivenNames v1
  split
  ·
    refine Frame.next (Frame.event ..) (by decide) ?_
    refine Frame.next (Frame.modCmd ..) (by decide) ?_
    exact Frame.refl _ _
  ·
    exact Frame.refl _ _

theorem Frame.loadTick (s : State) (n : Fin 6) : Frame [.cmd] s (State.loadTick s n) := by
  delta State.loadTick
  extract_lets +onlyGivenNames v1
  extract_lets +onlyGivenNames v2
  extract_lets +onlyGivenNames v3
  refine Frame.ite ?_ ?_
  ·
    refine Frame.next (Frame.modCmd ..) (by decide) ?_
    exact Frame.refl _ _
  ·
    extract_lets +onlyGivenNames v4
    extract_lets +onlyGivenNames v5
    extract_lets +onlyGivenNames v6
    extract_lets +onlyGivenNames v7
    extract_lets +onlyGivenNames v8
    refine Frame.next (Frame.modCmd ..) (by decide) ?_
    exact Frame.refl _ _

theorem Frame.impactTake (s : State) (n : Fin 6) : Frame [.recs, .cmd] s (State.impactTake s n) := by
  delta State.impactTake
  extract_lets +onlyGivenNames v1
  split
  ·
    exact Frame.refl _ _
  ·
    extract_lets +onlyGivenNames v2
    extract_lets +onlyGivenNames v3
    refine Frame.via v3 ?_ (fun h4 => ?_)
    · unfold v3
      refine Frame.next (Frame.modCmd ..) (by decide) ?_
      exact Frame.refl _ _
    · clear_value v3
      refine Frame.ite ?_ ?_
      ·
        assumption
      ·
        refine Frame.next (Frame.event ..) (by decide) ?_
        assumption

theorem Frame.winchTick (s : State) (n : Fin 6) (total inertia : Rat) (ta : Nat) : Frame [.recs, .cmd] s (State.winchTick s n total inertia ta) := by
  delta State.winchTick
  extract_lets +onlyGivenNames v1
  extract_lets +onlyGivenNames v2
  extract_lets +onlyGivenNames v3
  extract_lets +onlyGivenNames v4
  extract_lets +onlyGivenNames v5
  extract_lets +onlyGivenNames v6
  extract_lets +onlyGivenNames v7
  extract_lets +onlyGivenNames v8
  extract_lets +onlyGivenNames v9
  extract_lets +onlyGivenNames v10
  extract_lets +onlyGivenNames v11
  refine Frame.via v11 ?_ (fun h12 => ?_)
  · unfold v11
    refine Frame.next (Frame.modCmd ..) (by decide) ?_
    exact Frame.refl _ _
  · clear_value v11
    refine Frame.ite ?_ ?_
    ·
      refine Frame.next (Frame.event ..) (by decide) ?_
      assumption
    ·
      assumption

theorem Frame.renderTake (s : State) (n : Fin 6) : Frame [.recs, .cmd] s (State.renderTake s n) := by
  delta State.renderTake
  extract_lets +onlyGivenNames v1
  extract_lets +onlyGivenNames v2
  extract_lets +onlyGivenNames v3
  refine Frame.ite ?_ ?_
  ·
    refine Frame.next (Frame.event ..) (by decide) ?_
    refine Frame.next (Frame.modCmd ..) (by decide) ?_
    exact Frame.refl _ _
  ·
    refine Frame.next (Frame.modCmd ..) (by decide) ?_
    exact Frame.refl _ _

theorem Frame.renderEnd (s : State) (n : Fin 6) : Frame [.recs, .cmd] s (State.renderEnd s n) := by
  delta State.renderEnd
  extract_lets +onlyGivenNames v1
  split
  ·
    refine Frame.ite ?_ ?_
    ·
      refine Frame.next (Frame.event ..) (by decide) ?_
      refine Frame.next (Frame.modCmd ..) (by decide) ?_
      exact Frame.refl _ _
    ·
      exact Frame.refl _ _
  ·
    exact Frame.refl _ _

theorem Frame.speedBegin (s : State) (n : Fin 6) : Frame [.cmd] s (State.speedBegin s n) := by
  delta State.speedBegin
  refine Frame.next (Frame.modCmd ..) (by decide) ?_
  exact Frame.refl _ _

theorem Frame.rampTick (s : State) (n : Fin 6) (goal : Rat) : Frame [.cmd] s (State.rampTick s n goal) := by
  delta State.rampTick
  extract_lets +onlyGivenNames v1
  extract_lets +onlyGivenNames v2
  extract_lets +onlyGivenNames v3
  refine Frame.next (Frame.modCmd ..) (by decide) ?_
  exact Frame.refl _ _

theorem Frame.loopTick (s : State) (n : Fin 6) (g : Rat) (l : Rat × Rat) (damp : Rat) (pre : Option Rat) : Frame [.cmd] s (State.loopTick s n g l damp pre) := by
  delta State.loopTick
  extract_lets +onlyGivenNames v1
  refine Frame.via v1 ?_ (fun h2 => ?_)
  · unfold v1
    refine Frame.next (Frame.speedBegin ..) (by decide) ?_
    exact Frame.refl _ _
  · clear_value v1
    extract_lets +onlyGivenNames v3
    extract_lets +onlyGivenNames v4
    extract_lets +onlyGivenNames v5
    extract_lets +onlyGivenNames v6
    split
    ·
      extract_lets +onlyGivenNames v7
      refine Frame.via v7 ?_ (fun h8 => ?_)
      · unfold v7
        refine Frame.next (Frame.modCmd ..) (by decide) ?_
        refine Frame.next (Frame.rampTick ..) (by decide) ?_
        assumption
      · clear_value v7
        extract_lets +onlyGivenNames v9
        refine Frame.ite ?_ ?_
        ·
          assumption
        ·
          refine Frame.ite ?_ ?_
          ·
            extract_lets +onlyGivenNames v10
            extract_lets +onlyGivenNames v11
            refine Frame.next (Frame.modCmd ..) (by decide) ?_
            assumption
          ·
            extract_lets +onlyGivenNames v12
            refine Frame.via v12 ?_ (fun h13 => ?_)
            · unfold v12
              split
              ·
                refine Frame.next (Frame.modCmd ..) (by decide) ?_
                assumption
              ·
                assumption
            · clear_value v12
              extract_lets +onlyGivenNames v14
              unfold v6
              extract_lets +onlyGivenNames v15
              refine Frame.next (Frame.modCmd ..) (by decide) ?_
              refine Frame.next (Frame.modCmd ..) (by decide) ?_
              assumption
    ·
      extract_lets +onlyGivenNames v16
      extract_lets +onlyGivenNames v17
      extract_lets +onlyGivenNames v18
      extract_lets +onlyGivenNames v19
      extract_lets +onlyGivenNames v20
      extract_lets +onlyGivenNames v21
      unfold v6
      extract_lets +onlyGivenNames v22
      refine Frame.next (Frame.modCmd ..) (by decide) ?_
      refine Frame.next (Frame.modCmd ..) (by decide) ?_
      assumption
    ·
      extract_lets +onlyGivenNames v23
      extract_lets +onlyGivenNames v24
      extract_lets +onlyGivenNames v25
      extract_lets +onlyGivenNames v26
      extract_lets +onlyGivenNames v27
      extract_lets +onlyGivenNames v28
      extract_lets +onlyGivenNames v29
      extract_lets +onlyGivenNames v30
      unfold v6
      extract_lets +onlyGivenNames v31
      refine Frame.next (Frame.modCmd ..) (by decide) ?_
      refine Frame.next (Frame.modCmd ..) (by decide) ?_
      assumption

theorem Frame.iceTick (s : State) (n : Fin 6) (l : Rat × Rat) (ta : Nat) : Frame [.cmd] s (State.iceTick s n l ta) := by
  delta State.iceTick
  extract_lets +onlyGivenNames v1
  extract_lets +onlyGivenNames v2
  extract_lets +onlyGivenNames v3
  refine Frame.ite ?_ ?_
  ·
    refine Frame.next (Frame.modCmd ..) (by decide) ?_
    exact Frame.refl _ _
  ·
    extract_lets +onlyGivenNames v4
    extract_lets +onlyGivenNames v5
    extract_lets +onlyGivenNames v6
    extract_lets +onlyGivenNames v7
    extract_lets +onlyGivenNames v8
    extract_lets +onlyGivenNames v9
    refine Frame.next (Frame.modCmd ..) (by decide) ?_
    exact Frame.refl _ _

theorem Frame.crashTick (s : State) (n : Fin 6) (ta : Nat) : Frame [.recs, .cmd] s (State.crashTick s n ta) := by
  delta State.crashTick
  extract_lets +onlyGivenNames v1
  refine Frame.ite ?_ ?_
  ·
    refine Frame.next (Frame.event ..) (by decide) ?_
    refine Frame.next (Frame.modCmd ..) (by decide) ?_
    exact Frame.refl _ _
  ·
    exact Frame.refl _ _

theorem Frame.leaveGroup (s : State) (n : Fin 6) : Frame [.cmd] s (State.leaveGroup s n) := by
  delta State.leaveGroup
  refine Frame.next (Frame.modCmd ..) (by decide) ?_
  exact Frame.refl _ _

theorem Frame.soloTick (s : State) (n : Fin 6) : Frame [.recs, .cmd] s (State.soloTick s n) := by
  delta State.soloTick
  extract_lets +onlyGivenNames v1
  extract_lets +onlyGivenNames v2
  extract_lets +onlyGivenNames v3
  refine Frame.via v3 ?_ (fun h4 => ?_)
  · unfold v3
    refine Frame.ite ?_ ?_
    ·
      refine Frame.next (Frame.takeCommand ..) (by decide) ?_
      exact Frame.refl _ _
    ·
      refine Frame.next (Frame.takeCommand ..) (by decide) ?_
      exact Frame.refl _ _
  · clear_value v3
    extract_lets +onlyGivenNames v5
    refine Frame.via v5 ?_ (fun h6 => ?_)
    · unfold v5
      refine Frame.next (Frame.heaveTick ..) (by decide) ?_
      refine Frame.next (Frame.leaveGroup ..) (by decide) ?_
      assumption
    · clear_value v5
      extract_lets +onlyGivenNames v7
      refine Frame.via v7 ?_ (fun h8 => ?_)
      · unfold v7
        refine Frame.next (Frame.winchTick ..) (by decide) ?_
        assumption
      · clear_value v7
        refine Frame.ite ?_ ?_
        ·
          refine Frame.next (Frame.crashTick ..) (by decide) ?_
          refine Frame.next (Frame.modCmd ..) (by decide) ?_
          assumption
        ·
          extract_lets +onlyGivenNames v9
          extract_lets +onlyGivenNames v10
          extract_lets +onlyGivenNames v11
          refine Frame.via v11 ?_ (fun h12 => ?_)
          · unfold v11
            refine Frame.next (Frame.loopTick ..) (by decide) ?_
            assumption
          · clear_value v11
            refine Frame.next (Frame.crashTick ..) (by decide) ?_
            refine Frame.next (Frame.iceTick ..) (by decide) ?_
            refine Frame.next (Frame.modCmd ..) (by decide) ?_
            assumption

theorem Frame.axisBoundary (s : State) (n : Fin 6) : Frame [.recs, .regs, .snt, .sns, .ax, .cmd, .aux] s (State.axisBoundary s n) := by
  delta State.axisBoundary
  extract_lets +onlyGivenNames v1
  extract_lets +onlyGivenNames v2
  refine Frame.via v2 ?_ (fun h3 => ?_)
  · unfold v2
    refine Frame.next (Frame.modAx ..) (by decide) ?_
    exact Frame.refl _ _
  · clear_value v2
    extract_lets +onlyGivenNames v4
    refine Frame.via v4 ?_ (fun h5 => ?_)
    · unfold v4
      refine Frame.ite ?_ ?_
      ·
        assumption
      ·
        refine Frame.next (Frame.event ..) (by decide) ?_
        refine Frame.next (Frame.modCmd ..) (by decide) ?_
        assumption
    · clear_value v4
      extract_lets +onlyGivenNames v6
      refine Frame.via v6 ?_ (fun h7 => ?_)
      · unfold v6
        refine Frame.next (Frame.foldTake ..) (by decide) ?_
        assumption
      · clear_value v6
        extract_lets +onlyGivenNames v8
        refine Frame.via v8 ?_ (fun h9 => ?_)
        · unfold v8
          refine Frame.next (Frame.impactTake ..) (by decide) ?_
          assumption
        · clear_value v8
          extract_lets +onlyGivenNames v10
          refine Frame.via v10 ?_ (fun h11 => ?_)
          · unfold v10
            refine Frame.next (Frame.crashTake ..) (by decide) ?_
            assumption
          · clear_value v10
            extract_lets +onlyGivenNames v12
            extract_lets +onlyGivenNames v13
            refine Frame.via v13 ?_ (fun h14 => ?_)
            · unfold v13
              split
              ·
                refine Frame.ite ?_ ?_
                ·
                  refine Frame.ite ?_ ?_
                  ·
                    refine Frame.next (Frame.startNow ..) (by decide) ?_
                    assumption
                  ·
                    refine Frame.next (Frame.modAx ..) (by decide) ?_
                    assumption
                ·
                  refine Frame.ite ?_ ?_
                  ·
                    refine Frame.next (Frame.modAx ..) (by decide) ?_
                    assumption
                  ·
                    assumption
              ·
                refine Frame.ite ?_ ?_
                ·
                  refine Frame.next (Frame.axStop ..) (by decide) ?_
                  assumption
                ·
                  assumption
              ·
                refine Frame.ite ?_ ?_
                ·
                  refine Frame.next (Frame.runAgainFromStop ..) (by decide) ?_
                  assumption
                ·
                  assumption
              ·
                assumption
            · clear_value v13
              extract_lets +onlyGivenNames v15
              refine Frame.via v15 ?_ (fun h16 => ?_)
              · unfold v15
                refine Frame.next (Frame.modCmd ..) (by decide) ?_
                assumption
              · clear_value v15
                refine Frame.next (Frame.renderTake ..) (by decide) ?_
                assumption

theorem Frame.clearTick (s : State) : Frame [.freeIx, .cmd] s (State.clearTick s) := by
  delta State.clearTick
  extract_lets +onlyGivenNames v1
  refine Frame.next (Frame.onFreeIx ..) (by decide) ?_
  refine Frame.next (Frame.onCmd ..) (by decide) ?_
  exact Frame.refl _ _

theorem Frame.clearOne (s : State) (k : AxClear) : Frame [.recs, .regs, .snt, .ax, .gd, .cmd, .aux] s (State.clearOne s k) := by
  delta State.clearOne
  extract_lets +onlyGivenNames v1
  extract_lets +onlyGivenNames v2
  extract_lets +onlyGivenNames v3
  extract_lets +onlyGivenNames v4
  refine Frame.via v4 ?_ (fun h5 => ?_)
  · unfold v4
    split
    ·
      refine Frame.next (Frame.modAx ..) (by decide) ?_
      exact Frame.refl _ _
    ·
      refine Frame.ite ?_ ?_
      ·
        refine Frame.next (Frame.modAux ..) (by decide) ?_
        exact Frame.refl _ _
      ·
        refine Frame.next (Frame.auxReady ..) (by decide) ?_
        exact Frame.refl _ _
  · clear_value v4
    refine Frame.next (Frame.clearLatch ..) (by decide) ?_
    refine Frame.next (Frame.event ..) (by decide) ?_
    assumption

theorem Frame.clearTake (s : State) : Frame [.recs, .regs, .snt, .ax, .gd, .cmd, .aux] s (State.clearTake s) := by
  delta State.clearTake
  extract_lets +onlyGivenNames v1
  refine Frame.foldTrans ?_ ?_
  ·
    refine Frame.next (Frame.onCmd ..) (by decide) ?_
    exact Frame.refl _ _
  · intro x2 b3
    beta_reduce
    refine Frame.next (Frame.clearOne ..) (by decide) ?_
    exact Frame.refl _ _

theorem Frame.modCan (s : State) (n : Fin 2) (f : CanCtl → CanCtl) : Frame [.can] s (State.modCan s n f) := by
  delta State.modCan
  refine Frame.next (Frame.onCan ..) (by decide) ?_
  exact Frame.refl _ _

theorem Frame.canStart (s : State) : Frame [.can] s (State.canStart s) := by
  delta State.canStart
  refine Frame.foldTrans ?_ ?_
  ·
    exact Frame.refl _ _
  · intro x1 b2
    beta_reduce
    refine Frame.ite ?_ ?_
    ·
      refine Frame.next (Frame.modCan ..) (by decide) ?_
      exact Frame.refl _ _
    ·
      extract_lets +onlyGivenNames v3
      refine Frame.next (Frame.modCan ..) (by decide) ?_
      exact Frame.refl _ _

theorem Frame.canEvent (s : State) (n : Fin 2) (time code detail value : Nat) (flags : Nat) : Frame [.recs] s (State.canEvent s n time code detail value flags) := by
  delta State.canEvent
  refine Frame.next (Frame.event ..) (by decide) ?_
  exact Frame.refl _ _

theorem Frame.sameEnd (s : State) (n : Fin 2) (slot : TxSlot) (how : Nat) : Frame [.recs, .can] s (State.sameEnd s n slot how) := by
  delta State.sameEnd
  split
  ·
    extract_lets +onlyGivenNames v1
    refine Frame.next (Frame.canEvent ..) (by decide) ?_
    refine Frame.next (Frame.modCan ..) (by decide) ?_
    exact Frame.refl _ _
  ·
    exact Frame.refl _ _

theorem Frame.canCount (s : State) (n : Fin 2) (tec rc : Nat) : Frame [.recs, .can] s (State.canCount s n tec rc) := by
  delta State.canCount
  extract_lets +onlyGivenNames v1
  refine Frame.ite ?_ ?_
  ·
    extract_lets +onlyGivenNames v2
    refine Frame.via v2 ?_ (fun h3 => ?_)
    · unfold v2
      refine Frame.foldTrans ?_ ?_
      ·
        exact Frame.refl _ _
      · intro x4 b5
        beta_reduce
        refine Frame.next (Frame.sameEnd ..) (by decide) ?_
        exact Frame.refl _ _
    · clear_value v2
      extract_lets +onlyGivenNames v6
      refine Frame.via v6 ?_ (fun h7 => ?_)
      · unfold v6
        refine Frame.next (Frame.modCan ..) (by decide) ?_
        assumption
      · clear_value v6
        refine Frame.next (Frame.canEvent ..) (by decide) ?_
        assumption
  ·
    extract_lets +onlyGivenNames v8
    refine Frame.via v8 ?_ (fun h9 => ?_)
    · unfold v8
      refine Frame.next (Frame.modCan ..) (by decide) ?_
      exact Frame.refl _ _
    · clear_value v8
      extract_lets +onlyGivenNames v10
      refine Frame.ite ?_ ?_
      ·
        assumption
      ·
        refine Frame.next (Frame.canEvent ..) (by decide) ?_
        assumption

theorem Frame.abdNext (s : State) (n : Fin 2) : Frame [.recs, .can] s (State.abdNext s n) := by
  delta State.abdNext
  extract_lets +onlyGivenNames v1
  extract_lets +onlyGivenNames v2
  extract_lets +onlyGivenNames v3
  extract_lets +onlyGivenNames v4
  refine Frame.via v4 ?_ (fun h5 => ?_)
  · unfold v4
    refine Frame.next (Frame.modCan ..) (by decide) ?_
    exact Frame.refl _ _
  · clear_value v4
    refine Frame.ite ?_ ?_
    ·
      refine Frame.next (Frame.canEvent ..) (by decide) ?_
      assumption
    ·
      assumption

theorem Frame.abdGood (s : State) (n : Fin 2) : Frame [.recs, .can] s (State.abdGood s n) := by
  delta State.abdGood
  extract_lets +onlyGivenNames v1
  refine Frame.ite ?_ ?_
  ·
    refine Frame.next (Frame.modCan ..) (by decide) ?_
    exact Frame.refl _ _
  ·
    refine Frame.next (Frame.canEvent ..) (by decide) ?_
    refine Frame.next (Frame.modCan ..) (by decide) ?_
    exact Frame.refl _ _

theorem Frame.abdDwell (s : State) (n : Fin 2) : Frame [.recs, .can] s (State.abdDwell s n) := by
  delta State.abdDwell
  extract_lets +onlyGivenNames v1
  refine Frame.ite ?_ ?_
  ·
    refine Frame.next (Frame.abdNext ..) (by decide) ?_
    exact Frame.refl _ _
  ·
    exact Frame.refl _ _

theorem Frame.canIntegrated (s : State) (n : Fin 2) : Frame [.can] s (State.canIntegrated s n) := by
  delta State.canIntegrated
  extract_lets +onlyGivenNames v1
  refine Frame.ite ?_ ?_
  ·
    refine Frame.next (Frame.modCan ..) (by decide) ?_
    exact Frame.refl _ _
  ·
    exact Frame.refl _ _

theorem Frame.canRecord (s : State) (n : Fin 2) (sent : Bool) (time id : Nat) (ide fdf brs esi rtr : Bool) (filter dlc : Nat) (data : List Byte) : Frame [.recs] s (State.canRecord s n sent time id ide fdf brs esi rtr filter dlc data) := by
  delta State.canRecord
  refine Frame.next (Frame.emit ..) (by decide) ?_
  exact Frame.refl _ _

theorem Frame.canViolation (s : State) (n : Fin 2) (f : CanFrame) (stamp st : Nat) : Frame [.recs, .can] s (State.canViolation s n f stamp st) := by
  delta State.canViolation
  extract_lets +onlyGivenNames v1
  refine Frame.next (Frame.emit ..) (by decide) ?_
  refine Frame.next (Frame.modCan ..) (by decide) ?_
  exact Frame.refl _ _

theorem Frame.overrunRecs (s : State) (n : Fin 2) (kind ix : Nat) (l : List (Nat × Nat)) : Frame [.recs] s (State.overrunRecs s n kind ix l) := by
  delta State.overrunRecs
  refine Frame.foldTrans ?_ ?_
  ·
    exact Frame.refl _ _
  · intro x1 b2
    beta_reduce
    refine Frame.next (Frame.canEvent ..) (by decide) ?_
    exact Frame.refl _ _

theorem Frame.msgBuffer (s : State) (n : Fin 2) (heave : Bool) (ax : Fin 6) : Frame [.recs, .can] s (State.msgBuffer s n heave ax) := by
  delta State.msgBuffer
  extract_lets +onlyGivenNames v1
  extract_lets +onlyGivenNames v2
  extract_lets +onlyGivenNames v3
  extract_lets +onlyGivenNames v4
  refine Frame.via v4 ?_ (fun h5 => ?_)
  · unfold v4
    refine Frame.next (Frame.modCan ..) (by decide) ?_
    exact Frame.refl _ _
  · clear_value v4
    extract_lets +onlyGivenNames v6
    refine Frame.via v6 ?_ (fun h7 => ?_)
    · unfold v6
      refine Frame.ite ?_ ?_
      ·
        refine Frame.next (Frame.overrunRecs ..) (by decide) ?_
        assumption
      ·
        exact Frame.refl _ _
    · clear_value v6
      refine Frame.next (Frame.modCan ..) (by decide) ?_
      assumption

theorem Frame.setCount (s : State) (n : Fin 2) (heave : Bool) (ax : Fin 6) (v : Option Nat) : Frame [.can] s (State.setCount s n heave ax v) := by
  delta State.setCount
  refine Frame.next (Frame.modCan ..) (by decide) ?_
  exact Frame.refl _ _

theorem Frame.msgAct (s : State) (n : Fin 2) (heave : Bool) (ax : Fin 6) (m : CanMsg) (stamp : Nat) : Frame [.cmd, .can] s (State.msgAct s n heave ax m stamp) := by
  delta State.msgAct
  refine Frame.ite ?_ ?_
  ·
    refine Frame.next (Frame.takeHeave ..) (by decide) ?_
    refine Frame.next (Frame.modCan ..) (by decide) ?_
    exact Frame.refl _ _
  ·
    refine Frame.next (Frame.modCmd ..) (by decide) ?_
    exact Frame.refl _ _

theorem Frame.message (s : State) (n : Fin 2) (heave : Bool) (f : CanFrame) (stamp : Nat) : Frame [.recs, .cmd, .can] s (State.message s n heave f stamp) := by
  delta State.message
  refine Frame.ite ?_ ?_
  ·
    exact Frame.refl _ _
  ·
    split
    ·
      refine Frame.next (Frame.canViolation ..) (by decide) ?_
      exact Frame.refl _ _
    ·
      refine Frame.ite ?_ ?_
      ·
        refine Frame.next (Frame.canViolation ..) (by decide) ?_
        exact Frame.refl _ _
      ·
        split
        ·
          extract_lets +onlyGivenNames v1
          refine Frame.ite ?_ ?_
          ·
            refine Frame.next (Frame.modCan ..) (by decide) ?_
            exact Frame.refl _ _
          ·
            extract_lets +onlyGivenNames v2
            refine Frame.via v2 ?_ (fun h3 => ?_)
            · unfold v2
              refine Frame.next (Frame.msgBuffer ..) (by decide) ?_
              exact Frame.refl _ _
            · clear_value v2
              extract_lets +onlyGivenNames v4
              refine Frame.ite ?_ ?_
              ·
                refine Frame.next (Frame.setCount ..) (by decide) ?_
                refine Frame.next (Frame.canViolation ..) (by decide) ?_
                assumption
              ·
                split
                ·
                  refine Frame.next (Frame.msgAct ..) (by decide) ?_
                  refine Frame.next (Frame.setCount ..) (by decide) ?_
                  assumption
                ·
                  extract_lets +onlyGivenNames v5
                  refine Frame.ite ?_ ?_
                  ·
                    assumption
                  ·
                    refine Frame.ite ?_ ?_
                    ·
                      refine Frame.next (Frame.msgAct ..) (by decide) ?_
                      refine Frame.next (Frame.setCount ..) (by decide) ?_
                      assumption
                    ·
                      refine Frame.next (Frame.setCount ..) (by decide) ?_
                      refine Frame.next (Frame.canViolation ..) (by decide) ?_
                      assumption
        ·
          refine Frame.next (Frame.modCan ..) (by decide) ?_
          exact Frame.refl _ _

theorem Frame.recordIn (s : State) (n : Fin 2) (f : CanFrame) (role : CanRole) (stamp : Nat) : Frame [.recs, .freeIx] s (State.recordIn s n f role stamp) := by
  delta State.recordIn
  split
  ·
    extract_lets +onlyGivenNames v1
    refine Frame.ite ?_ ?_
    ·
      unfold v1
      refine Frame.next (Frame.canRecord ..) (by decide) ?_
      refine Frame.next (Frame.onFreeIx ..) (by decide) ?_
      exact Frame.refl _ _
    ·
      unfold v1
      refine Frame.next (Frame.canRecord ..) (by decide) ?_
      exact Frame.refl _ _
  ·
    exact Frame.refl _ _

theorem Frame.canEnvelope (s : State) (n : Fin 2) (c : Fin 16) (b : List Byte) (stamp : Nat) : Frame [.recs, .can] s (State.canEnvelope s n c b stamp) := by
  delta State.canEnvelope
  extract_lets +onlyGivenNames v1
  extract_lets +onlyGivenNames v2
  refine Frame.via v2 ?_ (fun h3 => ?_)
  · unfold v2
    refine Frame.ite ?_ ?_
    ·
      refine Frame.next (Frame.overrunRecs ..) (by decide) ?_
      refine Frame.next (Frame.modCan ..) (by decide) ?_
      exact Frame.refl _ _
    ·
      exact Frame.refl _ _
  · clear_value v2
    refine Frame.next (Frame.modCan ..) (by decide) ?_
    assumption

theorem Frame.canRead (s : State) : Frame [.can] s (State.canRead s) := by
  delta State.canRead
  refine Frame.next (Frame.onCan ..) (by decide) ?_
  exact Frame.refl _ _

theorem Frame.canBoundary (s : State) : Frame [.recs, .can] s (State.canBoundary s) := by
  delta State.canBoundary
  refine Frame.foldTrans ?_ ?_
  ·
    exact Frame.refl _ _
  · intro x1 b2
    beta_reduce
    extract_lets +onlyGivenNames v3
    refine Frame.via v3 ?_ (fun h4 => ?_)
    · unfold v3
      refine Frame.foldTrans ?_ ?_
      ·
        exact Frame.refl _ _
      · intro x5 b6
        beta_reduce
        extract_lets +onlyGivenNames v7
        extract_lets +onlyGivenNames v8
        extract_lets +onlyGivenNames v9
        refine Frame.via v9 ?_ (fun h10 => ?_)
        · unfold v9
          refine Frame.next (Frame.modCan ..) (by decide) ?_
          exact Frame.refl _ _
        · clear_value v9
          refine Frame.next (Frame.overrunRecs ..) (by decide) ?_
          refine Frame.next (Frame.overrunRecs ..) (by decide) ?_
          assumption
    · clear_value v3
      refine Frame.foldTrans ?_ ?_
      ·
        assumption
      · intro x11 b12
        beta_reduce
        extract_lets +onlyGivenNames v13
        refine Frame.next (Frame.overrunRecs ..) (by decide) ?_
        refine Frame.next (Frame.modCan ..) (by decide) ?_
        exact Frame.refl _ _

theorem Frame.canPeriodic (s : State) (n : Fin 2) (k : Fin 8) : Frame [.can] s (State.canPeriodic s n k) := by
  delta State.canPeriodic
  extract_lets +onlyGivenNames v1
  extract_lets +onlyGivenNames v2
  refine Frame.ite ?_ ?_
  ·
    extract_lets +onlyGivenNames v3
    extract_lets +onlyGivenNames v4
    refine Frame.next (Frame.modCan ..) (by decide) ?_
    exact Frame.refl _ _
  ·
    exact Frame.refl _ _

theorem Frame.attempt (s : State) (n : Fin 2) (slot : TxSlot) (sof : Nat) (after : HostSlot → Nat) : Frame [.can] s (State.attempt s n slot sof after) := by
  delta State.attempt
  split
  ·
    refine Frame.next (Frame.modCan ..) (by decide) ?_
    exact Frame.refl _ _
  ·
    exact Frame.refl _ _

theorem Frame.canSent (s : State) (n : Fin 2) (slot : TxSlot) (sofAge : Nat) : Frame [.recs, .can] s (State.canSent s n slot sofAge) := by
  delta State.canSent
  split
  ·
    refine Frame.ite ?_ ?_
    ·
      extract_lets +onlyGivenNames v1
      extract_lets +onlyGivenNames v2
      extract_lets +onlyGivenNames v3
      refine Frame.via v3 ?_ (fun h4 => ?_)
      · unfold v3
        refine Frame.next (Frame.sameEnd ..) (by decide) ?_
        exact Frame.refl _ _
      · clear_value v3
        extract_lets +onlyGivenNames v5
        refine Frame.via v5 ?_ (fun h6 => ?_)
        · unfold v5
          refine Frame.next (Frame.attempt ..) (by decide) ?_
          assumption
        · clear_value v5
          extract_lets +onlyGivenNames v7
          refine Frame.via v7 ?_ (fun h8 => ?_)
          · unfold v7
            split
            ·
              refine Frame.next (Frame.modCan ..) (by decide) ?_
              assumption
            ·
              refine Frame.next (Frame.modCan ..) (by decide) ?_
              assumption
            ·
              assumption
          · clear_value v7
            extract_lets +onlyGivenNames v9
            refine Frame.via v9 ?_ (fun h10 => ?_)
            · unfold v9
              refine Frame.ite ?_ ?_
              ·
                refine Frame.next (Frame.canRecord ..) (by decide) ?_
                assumption
              ·
                assumption
            · clear_value v9
              refine Frame.next (Frame.canCount ..) (by decide) ?_
              refine Frame.next (Frame.modCan ..) (by decide) ?_
              assumption
    ·
      exact Frame.refl _ _
  ·
    exact Frame.refl _ _

theorem Frame.failed (s : State) (n : Fin 2) (slot : TxSlot) (sof : Nat) : Frame [.can] s (State.failed s n slot sof) := by
  delta State.failed
  refine Frame.next (Frame.attempt ..) (by decide) ?_
  exact Frame.refl _ _

theorem Frame.collide (s : State) (n : Fin 2) (slot : TxSlot) (sof : Nat) : Frame [.can] s (State.collide s n slot sof) := by
  delta State.collide
  extract_lets +onlyGivenNames v1
  refine Frame.next (Frame.modCan ..) (by decide) ?_
  exact Frame.refl _ _

theorem Frame.canError (s : State) (n : Fin 2) (kind : CanErr) (tec rc : Nat) : Frame [.recs, .can] s (State.canError s n kind tec rc) := by
  delta State.canError
  refine Frame.ite ?_ ?_
  ·
    refine Frame.next (Frame.abdNext ..) (by decide) ?_
    exact Frame.refl _ _
  ·
    refine Frame.ite ?_ ?_
    ·
      exact Frame.refl _ _
    ·
      split
      ·
        refine Frame.next (Frame.canCount ..) (by decide) ?_
        exact Frame.refl _ _
      ·
        refine Frame.ite ?_ ?_
        ·
          exact Frame.refl _ _
        ·
          extract_lets +onlyGivenNames v1
          extract_lets +onlyGivenNames v2
          extract_lets +onlyGivenNames v3
          refine Frame.via v3 ?_ (fun h4 => ?_)
          · unfold v3
            refine Frame.ite ?_ ?_
            ·
              refine Frame.next (Frame.collide ..) (by decide) ?_
              exact Frame.refl _ _
            ·
              exact Frame.refl _ _
          · clear_value v3
            extract_lets +onlyGivenNames v5
            refine Frame.via v5 ?_ (fun h6 => ?_)
            · unfold v5
              refine Frame.ite ?_ ?_
              ·
                refine Frame.next (Frame.sameEnd ..) (by decide) ?_
                assumption
              ·
                assumption
            · clear_value v5
              refine Frame.ite ?_ ?_
              ·
                refine Frame.next (Frame.canCount ..) (by decide) ?_
                refine Frame.next (Frame.attempt ..) (by decide) ?_
                assumption
              ·
                refine Frame.next (Frame.canCount ..) (by decide) ?_
                refine Frame.next (Frame.failed ..) (by decide) ?_
                assumption
      ·
        refine Frame.ite ?_ ?_
        ·
          exact Frame.refl _ _
        ·
          extract_lets +onlyGivenNames v7
          refine Frame.via v7 ?_ (fun h8 => ?_)
          · unfold v7
            refine Frame.ite ?_ ?_
            ·
              refine Frame.next (Frame.sameEnd ..) (by decide) ?_
              exact Frame.refl _ _
            ·
              exact Frame.refl _ _
          · clear_value v7
            refine Frame.next (Frame.failed ..) (by decide) ?_
            assumption

theorem Frame.canRecovered (s : State) (n : Fin 2) : Frame [.recs, .can] s (State.canRecovered s n) := by
  delta State.canRecovered
  refine Frame.ite ?_ ?_
  ·
    refine Frame.next (Frame.canEvent ..) (by decide) ?_
    refine Frame.next (Frame.modCan ..) (by decide) ?_
    exact Frame.refl _ _
  ·
    exact Frame.refl _ _

theorem Frame.txdGuard (s : State) (n : Fin 2) : Frame [.can] s (State.txdGuard s n) := by
  delta State.txdGuard
  refine Frame.ite ?_ ?_
  ·
    refine Frame.next (Frame.modCan ..) (by decide) ?_
    exact Frame.refl _ _
  ·
    exact Frame.refl _ _

theorem Frame.canFreeze (s : State) : Frame [.can] s (State.canFreeze s) := by
  delta State.canFreeze
  refine Frame.next (Frame.onCan ..) (by decide) ?_
  exact Frame.refl _ _

theorem Frame.modLink (s : State) (k : Fin 6) (f : LinkSt → LinkSt) : Frame [.fab] s (State.modLink s k f) := by
  delta State.modLink
  refine Frame.next (Frame.onFab ..) (by decide) ?_
  exact Frame.refl _ _

theorem Frame.linkWatch (s : State) : Frame [.mode, .fab] s (State.linkWatch s) := by
  delta State.linkWatch
  refine Frame.ite ?_ ?_
  ·
    refine Frame.next (Frame.setStop ..) (by decide) ?_
    refine Frame.next (Frame.onFab ..) (by decide) ?_
    exact Frame.refl _ _
  ·
    refine Frame.next (Frame.onFab ..) (by decide) ?_
    exact Frame.refl _ _

theorem Frame.txBreak (s : State) (k : Fin 6) : Frame [.fab] s (State.txBreak s k) := by
  delta State.txBreak
  refine Frame.next (Frame.onFab ..) (by decide) ?_
  exact Frame.refl _ _

theorem Frame.linkRestart (s : State) (k : Fin 6) : Frame [.mode, .fab] s (State.linkRestart s k) := by
  delta State.linkRestart
  refine Frame.next (Frame.linkWatch ..) (by decide) ?_
  refine Frame.next (Frame.modLink ..) (by decide) ?_
  refine Frame.next (Frame.txBreak ..) (by decide) ?_
  exact Frame.refl _ _

theorem Frame.fabStart (s : State) : Frame [.tbs, .fab] s (State.fabStart s) := by
  delta State.fabStart
  extract_lets +onlyGivenNames v1
  refine Frame.via v1 ?_ (fun h2 => ?_)
  · unfold v1
    refine Frame.next (Frame.onFab ..) (by decide) ?_
    exact Frame.refl _ _
  · clear_value v1
    refine Frame.ite ?_ ?_
    ·
      refine Frame.next (Frame.onTbs ..) (by decide) ?_
      refine Frame.next (Frame.onFab ..) (by decide) ?_
      assumption
    ·
      assumption

theorem Frame.fabStop (s : State) : Frame [.fab] s (State.fabStop s) := by
  delta State.fabStop
  refine Frame.next (Frame.onFab ..) (by decide) ?_
  refine Frame.foldTrans ?_ ?_
  ·
    exact Frame.refl _ _
  · intro x1 b2
    beta_reduce
    refine Frame.next (Frame.txBreak ..) (by decide) ?_
    exact Frame.refl _ _

theorem Frame.frameFab (s : State) (time k : Nat) (sent : Bool) (bytes : List Byte) : Frame [.recs] s (State.frameFab s time k sent bytes) := by
  delta State.frameFab
  split
  ·
    refine Frame.ite ?_ ?_
    ·
      refine Frame.next (Frame.emit ..) (by decide) ?_
      exact Frame.refl _ _
    ·
      exact Frame.refl _ _
  ·
    exact Frame.refl _ _

theorem Frame.frameRow (s : State) (link seq : Option Nat) (bcast : Bool) (dst src typ len : Nat) : Frame [.recs, .freeIx] s (State.frameRow s link seq bcast dst src typ len) := by
  delta State.frameRow
  split
  ·
    refine Frame.ite ?_ ?_
    ·
      extract_lets +onlyGivenNames v1
      extract_lets +onlyGivenNames v2
      extract_lets +onlyGivenNames v3
      extract_lets +onlyGivenNames v4
      refine Frame.next (Frame.frameFab ..) (by decide) ?_
      refine Frame.next (Frame.onFreeIx ..) (by decide) ?_
      exact Frame.refl _ _
    ·
      exact Frame.refl _ _
  ·
    exact Frame.refl _ _

theorem Frame.frameHop (s : State) (k : Fin 6) (src typ len : Nat) : Frame [.recs, .freeIx] s (State.frameHop s k src typ len) := by
  delta State.frameHop
  refine Frame.next (Frame.frameRow ..) (by decide) ?_
  exact Frame.refl _ _

theorem Frame.linkPut (s : State) (k : Fin 6) (bulk eep : Bool) (bytes : List Byte) (t : Nat) : Frame [.recs, .fab] s (State.linkPut s k bulk eep bytes t) := by
  delta State.linkPut
  extract_lets +onlyGivenNames v1
  extract_lets +onlyGivenNames v2
  extract_lets +onlyGivenNames v3
  refine Frame.via v3 ?_ (fun h4 => ?_)
  · unfold v3
    refine Frame.next (Frame.frameFab ..) (by decide) ?_
    exact Frame.refl _ _
  · clear_value v3
    refine Frame.ite ?_ ?_
    ·
      refine Frame.next (Frame.onFab ..) (by decide) ?_
      assumption
    ·
      extract_lets +onlyGivenNames v5
      extract_lets +onlyGivenNames v6
      refine Frame.next (Frame.onFab ..) (by decide) ?_
      assumption

theorem Frame.putWait (s : State) (k : Fin 6) (bulk : Bool) (w : Option WaitPkt) : Frame [.fab] s (State.putWait s k bulk w) := by
  delta State.putWait
  refine Frame.next (Frame.modLink ..) (by decide) ?_
  exact Frame.refl _ _

theorem Frame.fabDiscard (s : State) (cause : Fin 4) (dst : Nat) : Frame [.recs, .fab] s (State.fabDiscard s cause dst) := by
  delta State.fabDiscard
  extract_lets +onlyGivenNames v1
  extract_lets +onlyGivenNames v2
  refine Frame.via v2 ?_ (fun h3 => ?_)
  · unfold v2
    refine Frame.next (Frame.onFab ..) (by decide) ?_
    exact Frame.refl _ _
  · clear_value v2
    extract_lets +onlyGivenNames v4
    refine Frame.ite ?_ ?_
    ·
      refine Frame.next (Frame.onFab ..) (by decide) ?_
      refine Frame.next (Frame.event ..) (by decide) ?_
      assumption
    ·
      assumption

theorem Frame.refuseJoin (s : State) (id k : Nat) (taken : Bool) : Frame [.recs, .fab] s (State.refuseJoin s id k taken) := by
  delta State.refuseJoin
  refine Frame.next (Frame.onFab ..) (by decide) ?_
  refine Frame.next (Frame.event ..) (by decide) ?_
  exact Frame.refl _ _

theorem Frame.tableKeep (s : State) (ver : Nat) (tab : List Nat) : Frame [.fab] s (State.tableKeep s ver tab) := by
  delta State.tableKeep
  refine Frame.next (Frame.onFab ..) (by decide) ?_
  exact Frame.refl _ _

theorem Frame.park (s : State) (k : Fin 6) (reason : Nat) : Frame [.mode, .recs, .fab] s (State.park s k reason) := by
  delta State.park
  refine Frame.next (Frame.linkWatch ..) (by decide) ?_
  refine Frame.next (Frame.event ..) (by decide) ?_
  refine Frame.next (Frame.modLink ..) (by decide) ?_
  exact Frame.refl _ _

theorem Frame.frameFrom (s : State) (k : Fin 6) (typ len : Nat) : Frame [.recs, .freeIx] s (State.frameFrom s k typ len) := by
  delta State.frameFrom
  refine Frame.ite ?_ ?_
  ·
    refine Frame.next (Frame.frameHop ..) (by decide) ?_
    exact Frame.refl _ _
  ·
    exact Frame.refl _ _

theorem Frame.linkErr (s : State) (k : Fin 6) (kind : Fin 7) : Frame [.recs, .fab] s (State.linkErr s k kind) := by
  delta State.linkErr
  extract_lets +onlyGivenNames v1
  refine Frame.foldTrans ?_ ?_
  ·
    refine Frame.next (Frame.modLink ..) (by decide) ?_
    exact Frame.refl _ _
  · intro x2 b3
    beta_reduce
    refine Frame.next (Frame.event ..) (by decide) ?_
    exact Frame.refl _ _

theorem Frame.linkRunsDue (s : State) (k : Fin 6) : Frame [.recs, .fab] s (State.linkRunsDue s k) := by
  delta State.linkRunsDue
  refine Frame.foldTrans ?_ ?_
  ·
    exact Frame.refl _ _
  · intro x1 b2
    beta_reduce
    extract_lets +onlyGivenNames v3
    refine Frame.foldTrans ?_ ?_
    ·
      refine Frame.next (Frame.modLink ..) (by decide) ?_
      exact Frame.refl _ _
    · intro x4 b5
      beta_reduce
      refine Frame.next (Frame.event ..) (by decide) ?_
      exact Frame.refl _ _

theorem Frame.badPacket (s : State) (k : Fin 6) : Frame [.recs, .fab] s (State.badPacket s k) := by
  delta State.badPacket
  refine Frame.next (Frame.linkErr ..) (by decide) ?_
  refine Frame.next (Frame.modLink ..) (by decide) ?_
  exact Frame.refl _ _

theorem Frame.exchangeError (s : State) (k : Fin 6) (kind : ExchangeErr) : Frame [.mode, .recs, .fab] s (State.exchangeError s k kind) := by
  delta State.exchangeError
  refine Frame.next (Frame.linkErr ..) (by decide) ?_
  refine Frame.next (Frame.linkRestart ..) (by decide) ?_
  refine Frame.next (Frame.modLink ..) (by decide) ?_
  exact Frame.refl _ _

theorem Frame.routesIn (s : State) (b : List Byte) : Frame [.fab] s (State.routesIn s b) := by
  delta State.routesIn
  refine Frame.next (Frame.tableKeep ..) (by decide) ?_
  exact Frame.refl _ _

theorem Frame.tbLoad (s : State) (new : Nat) : Frame [.clk, .tbs, .mode, .tick, .cp, .can] s (State.tbLoad s new) := by
  delta State.tbLoad
  extract_lets +onlyGivenNames v1
  extract_lets +onlyGivenNames v2
  extract_lets +onlyGivenNames v3
  extract_lets +onlyGivenNames v4
  refine Frame.via v4 ?_ (fun h5 => ?_)
  · unfold v4
    refine Frame.next (Frame.onClk ..) (by decide) ?_
    exact Frame.refl _ _
  · clear_value v4
    extract_lets +onlyGivenNames v6
    refine Frame.via v6 ?_ (fun h7 => ?_)
    · unfold v6
      refine Frame.next (Frame.onTbs ..) (by decide) ?_
      refine Frame.next (Frame.onTick ..) (by decide) ?_
      assumption
    · clear_value v6
      extract_lets +onlyGivenNames v8
      refine Frame.via v8 ?_ (fun h9 => ?_)
      · unfold v8
        refine Frame.next (Frame.onCp ..) (by decide) ?_
        assumption
      · clear_value v8
        extract_lets +onlyGivenNames v10
        refine Frame.via v10 ?_ (fun h11 => ?_)
        · unfold v10
          refine Frame.next (Frame.onCan ..) (by decide) ?_
          assumption
        · clear_value v10
          refine Frame.next (Frame.onMode ..) (by decide) ?_
          assumption

theorem Frame.fabBoundary (s : State) : Frame [.recs, .fab] s (State.fabBoundary s) := by
  delta State.fabBoundary
  refine Frame.foldTrans ?_ ?_
  ·
    exact Frame.refl _ _
  · intro x1 b2
    beta_reduce
    refine Frame.next (Frame.linkRunsDue ..) (by decide) ?_
    exact Frame.refl _ _

theorem Frame.modShr (s : State) (g : Fin 16) (f : ShareGroup → ShareGroup) : Frame [.shr] s (State.modShr s g f) := by
  delta State.modShr
  refine Frame.next (Frame.onShr ..) (by decide) ?_
  exact Frame.refl _ _

theorem Frame.shareAddrTest (s : State) (addr : Nat) : Frame [.recs, .shr] s (State.shareAddrTest s addr) := by
  delta State.shareAddrTest
  refine Frame.foldTrans ?_ ?_
  ·
    exact Frame.refl _ _
  · intro x1 b2
    beta_reduce
    split
    ·
      refine Frame.next (Frame.event ..) (by decide) ?_
      refine Frame.next (Frame.modShr ..) (by decide) ?_
      exact Frame.refl _ _
    ·
      exact Frame.refl _ _

theorem Frame.reportIn (s : State) (sender : Nat) (payload : List Byte) : Frame [.recs, .shr] s (State.reportIn s sender payload) := by
  delta State.reportIn
  split
  ·
    exact Frame.refl _ _
  ·
    split
    ·
      extract_lets +onlyGivenNames v1
      refine Frame.ite ?_ ?_
      ·
        exact Frame.refl _ _
      ·
        extract_lets +onlyGivenNames v2
        extract_lets +onlyGivenNames v3
        extract_lets +onlyGivenNames v4
        refine Frame.ite ?_ ?_
        ·
          extract_lets +onlyGivenNames v5
          extract_lets +onlyGivenNames v6
          extract_lets +onlyGivenNames v7
          refine Frame.via v7 ?_ (fun h8 => ?_)
          · unfold v7
            refine Frame.next (Frame.modShr ..) (by decide) ?_
            exact Frame.refl _ _
          · clear_value v7
            refine Frame.ite ?_ ?_
            ·
              assumption
            ·
              refine Frame.next (Frame.event ..) (by decide) ?_
              assumption
        ·
          split
          ·
            refine Frame.next (Frame.event ..) (by decide) ?_
            refine Frame.next (Frame.modShr ..) (by decide) ?_
            exact Frame.refl _ _
          ·
            refine Frame.next (Frame.modShr ..) (by decide) ?_
            exact Frame.refl _ _
    ·
      exact Frame.refl _ _

theorem Frame.shareIn (s : State) (sender : Nat) (payload : List Byte) : Frame [.shr] s (State.shareIn s sender payload) := by
  delta State.shareIn
  split
  ·
    exact Frame.refl _ _
  ·
    split
    ·
      extract_lets +onlyGivenNames v1
      extract_lets +onlyGivenNames v2
      extract_lets +onlyGivenNames v3
      refine Frame.ite ?_ ?_
      ·
        exact Frame.refl _ _
      ·
        refine Frame.ite ?_ ?_
        ·
          refine Frame.next (Frame.modShr ..) (by decide) ?_
          exact Frame.refl _ _
        ·
          refine Frame.next (Frame.modShr ..) (by decide) ?_
          exact Frame.refl _ _
    ·
      exact Frame.refl _ _

theorem Frame.ageReports (s : State) (g : Fin 16) : Frame [.shr] s (State.ageReports s g) := by
  delta State.ageReports
  extract_lets +onlyGivenNames v1
  refine Frame.next (Frame.modShr ..) (by decide) ?_
  exact Frame.refl _ _

theorem Frame.joinTick (s : State) (g : Fin 16) (ms : List Mem) (led : Bool) : Frame [.shr] s (State.joinTick s g ms led) := by
  delta State.joinTick
  extract_lets +onlyGivenNames v1
  extract_lets +onlyGivenNames v2
  refine Frame.next (Frame.modShr ..) (by decide) ?_
  exact Frame.refl _ _

theorem Frame.groupCmd (s : State) (g : Fin 16) (first : Bool) : Frame [.shr] s (State.groupCmd s g first) := by
  delta State.groupCmd
  extract_lets +onlyGivenNames v1
  extract_lets +onlyGivenNames v2
  extract_lets +onlyGivenNames v3
  split
  ·
    refine Frame.next (Frame.modShr ..) (by decide) ?_
    exact Frame.refl _ _
  ·
    extract_lets +onlyGivenNames v4
    refine Frame.next (Frame.modShr ..) (by decide) ?_
    exact Frame.refl _ _

theorem Frame.takeOver (s : State) (g : Fin 16) (n : Fin 6) (sum : Rat) : Frame [.recs, .cmd, .shr] s (State.takeOver s g n sum) := by
  delta State.takeOver
  extract_lets +onlyGivenNames v1
  extract_lets +onlyGivenNames v2
  refine Frame.via v2 ?_ (fun h3 => ?_)
  · unfold v2
    refine Frame.next (Frame.modCmd ..) (by decide) ?_
    exact Frame.refl _ _
  · clear_value v2
    refine Frame.next (Frame.event ..) (by decide) ?_
    refine Frame.next (Frame.modShr ..) (by decide) ?_
    assumption

theorem Frame.groupTake (s : State) (g : Fin 16) (n : Fin 6) (mode : Nat) (set : Rat) (heave live : Bool) : Frame [.cmd] s (State.groupTake s g n mode set heave live) := by
  delta State.groupTake
  extract_lets +onlyGivenNames v1
  refine Frame.via v1 ?_ (fun h2 => ?_)
  · unfold v1
    refine Frame.ite ?_ ?_
    ·
      refine Frame.next (Frame.takeCommand ..) (by decide) ?_
      exact Frame.refl _ _
    ·
      refine Frame.next (Frame.takeCommand ..) (by decide) ?_
      exact Frame.refl _ _
  · clear_value v1
    refine Frame.next (Frame.modCmd ..) (by decide) ?_
    assumption

theorem Frame.followGroup (s : State) (g : Fin 16) (n : Fin 6) : Frame [.cmd] s (State.followGroup s g n) := by
  delta State.followGroup
  refine Frame.ite ?_ ?_
  ·
    refine Frame.next (Frame.speedBegin ..) (by decide) ?_
    refine Frame.next (Frame.leaveGroup ..) (by decide) ?_
    exact Frame.refl _ _
  ·
    refine Frame.next (Frame.modCmd ..) (by decide) ?_
    exact Frame.refl _ _

theorem Frame.elect (s : State) (g : Fin 16) (ms : List Mem) : Frame [.shr] s (State.elect s g ms) := by
  delta State.elect
  extract_lets +onlyGivenNames v1
  extract_lets +onlyGivenNames v2
  extract_lets +onlyGivenNames v3
  extract_lets +onlyGivenNames v4
  extract_lets +onlyGivenNames v5
  extract_lets +onlyGivenNames v6
  extract_lets +onlyGivenNames v7
  extract_lets +onlyGivenNames v8
  extract_lets +onlyGivenNames v9
  extract_lets +onlyGivenNames v10
  refine Frame.via v10 ?_ (fun h11 => ?_)
  · unfold v10
    refine Frame.next (Frame.modShr ..) (by decide) ?_
    exact Frame.refl _ _
  · clear_value v10
    refine Frame.ite ?_ ?_
    ·
      refine Frame.next (Frame.modShr ..) (by decide) ?_
      assumption
    ·
      refine Frame.ite ?_ ?_
      ·
        refine Frame.next (Frame.modShr ..) (by decide) ?_
        assumption
      ·
        refine Frame.next (Frame.modShr ..) (by decide) ?_
        assumption

theorem Frame.findLost (s : State) (g : Fin 16) (was : BitVec 32) (ms : List Mem) : Frame [.shr] s (State.findLost s g was ms) := by
  delta State.findLost
  refine Frame.next (Frame.modShr ..) (by decide) ?_
  exact Frame.refl _ _

theorem Frame.memberApply (s : State) (g : Fin 16) (m : ShareMsg) (slot : Nat) (n : Fin 6) : Frame [.cmd] s (State.memberApply s g m slot n) := by
  delta State.memberApply
  refine Frame.ite ?_ ?_
  ·
    exact Frame.refl _ _
  ·
    extract_lets +onlyGivenNames v1
    refine Frame.via v1 ?_ (fun h2 => ?_)
    · unfold v1
      refine Frame.ite ?_ ?_
      ·
        exact Frame.refl _ _
      ·
        refine Frame.next (Frame.groupTake ..) (by decide) ?_
        exact Frame.refl _ _
    · clear_value v1
      extract_lets +onlyGivenNames v3
      extract_lets +onlyGivenNames v4
      extract_lets +onlyGivenNames v5
      refine Frame.ite ?_ ?_
      ·
        refine Frame.next (Frame.modCmd ..) (by decide) ?_
        assumption
      ·
        refine Frame.ite ?_ ?_
        ·
          extract_lets +onlyGivenNames v6
          extract_lets +onlyGivenNames v7
          refine Frame.via v7 ?_ (fun h8 => ?_)
          · unfold v7
            refine Frame.next (Frame.modCmd ..) (by decide) ?_
            assumption
          · clear_value v7
            refine Frame.ite ?_ ?_
            ·
              assumption
            ·
              extract_lets +onlyGivenNames v9
              refine Frame.next (Frame.modCmd ..) (by decide) ?_
              assumption
        ·
          extract_lets +onlyGivenNames v10
          refine Frame.next (Frame.modCmd ..) (by decide) ?_
          assumption

theorem Frame.shareBoundary (s : State) (g : Fin 16) (ok : Bool) : Frame [.recs, .ax, .cmd, .shr] s (State.shareBoundary s g ok) := by
  delta State.shareBoundary
  refine Frame.ite ?_ ?_
  ·
    exact Frame.refl _ _
  ·
    extract_lets +onlyGivenNames v1
    extract_lets +onlyGivenNames v2
    extract_lets +onlyGivenNames v3
    extract_lets +onlyGivenNames v4
    extract_lets +onlyGivenNames v5
    refine Frame.via v5 ?_ (fun h6 => ?_)
    · unfold v5
      refine Frame.next (Frame.modShr ..) (by decide) ?_
      exact Frame.refl _ _
    · clear_value v5
      extract_lets +onlyGivenNames v7
      refine Frame.via v7 ?_ (fun h8 => ?_)
      · unfold v7
        refine Frame.ite ?_ ?_
        ·
          exact Frame.refl _ _
        ·
          refine Frame.foldTrans ?_ ?_
          ·
            exact Frame.refl _ _
          · intro x9 b10
            beta_reduce
            refine Frame.next (Frame.event ..) (by decide) ?_
            exact Frame.refl _ _
      · clear_value v7
        extract_lets +onlyGivenNames v11
        refine Frame.via v11 ?_ (fun h12 => ?_)
        · unfold v11
          clear_value v4
          split
          ·
            refine Frame.ite ?_ ?_
            ·
              refine Frame.foldTrans ?_ ?_
              ·
                refine Frame.next (Frame.modShr ..) (by decide) ?_
                assumption
              · intro x13 b14
                beta_reduce
                refine Frame.next (Frame.memberApply ..) (by decide) ?_
                exact Frame.refl _ _
            ·
              assumption
          ·
            refine Frame.ite ?_ ?_
            ·
              exact Frame.refl _ _
            ·
              refine Frame.next (Frame.modShr ..) (by decide) ?_
              assumption
        · clear_value v11
          split
          ·
            assumption
          ·
            extract_lets +onlyGivenNames v15
            refine Frame.via v15 ?_ (fun h16 => ?_)
            · unfold v15
              refine Frame.next (Frame.modShr ..) (by decide) ?_
              assumption
            · clear_value v15
              refine Frame.foldTrans ?_ ?_
              ·
                assumption
              · intro x17 b18
                beta_reduce
                extract_lets +onlyGivenNames v19
                refine Frame.ite ?_ ?_
                ·
                  refine Frame.next (Frame.event ..) (by decide) ?_
                  refine Frame.next (Frame.axStop ..) (by decide) ?_
                  exact Frame.refl _ _
                ·
                  exact Frame.refl _ _

theorem Frame.shareReset (s : State) : Frame [.shr] s (State.shareReset s) := by
  delta State.shareReset
  refine Frame.foldTrans ?_ ?_
  ·
    exact Frame.refl _ _
  · intro x1 b2
    beta_reduce
    split
    ·
      refine Frame.ite ?_ ?_
      ·
        refine Frame.next (Frame.modShr ..) (by decide) ?_
        exact Frame.refl _ _
      ·
        exact Frame.refl _ _
    ·
      exact Frame.refl _ _

theorem Frame.modRing (s : State) (r : Fin 32) (f : RingSt → RingSt) : Frame [.sip] s (State.modRing s r f) := by
  delta State.modRing
  refine Frame.next (Frame.onSip ..) (by decide) ?_
  exact Frame.refl _ _

theorem Frame.modCh (s : State) (c : Fin 32) (f : ChSt → ChSt) : Frame [.sip] s (State.modCh s c f) := by
  delta State.modCh
  refine Frame.next (Frame.onSip ..) (by decide) ?_
  exact Frame.refl _ _

theorem Frame.sramWrite (s : State) (a : Nat) (bs : List Byte) : Frame [.sip] s (State.sramWrite s a bs) := by
  delta State.sramWrite
  refine Frame.next (Frame.onSip ..) (by decide) ?_
  exact Frame.refl _ _

theorem Frame.sramMeet (s : State) (a : Nat) : Frame [.sip] s (State.sramMeet s a) := by
  delta State.sramMeet
  split
  ·
    refine Frame.next (Frame.onSip ..) (by decide) ?_
    exact Frame.refl _ _
  ·
    refine Frame.next (Frame.onSip ..) (by decide) ?_
    exact Frame.refl _ _
  ·
    exact Frame.refl _ _

theorem Frame.sramBad (s : State) (a : Nat) : Frame [.sip] s (State.sramBad s a) := by
  delta State.sramBad
  refine Frame.next (Frame.onSip ..) (by decide) ?_
  exact Frame.refl _ _

theorem Frame.ringPut (s : State) (r : Fin 32) (pos : Nat) (bs : List Byte) : Frame [.sip] s (State.ringPut s r pos bs) := by
  delta State.ringPut
  extract_lets +onlyGivenNames v1
  extract_lets +onlyGivenNames v2
  extract_lets +onlyGivenNames v3
  extract_lets +onlyGivenNames v4
  refine Frame.next (Frame.sramWrite ..) (by decide) ?_
  refine Frame.next (Frame.sramWrite ..) (by decide) ?_
  exact Frame.refl _ _

theorem Frame.ringLoss (s : State) (r : Fin 32) (cause : Fin 5) : Frame [.recs, .sip] s (State.ringLoss s r cause) := by
  delta State.ringLoss
  extract_lets +onlyGivenNames v1
  refine Frame.via v1 ?_ (fun h2 => ?_)
  · unfold v1
    refine Frame.next (Frame.modRing ..) (by decide) ?_
    exact Frame.refl _ _
  · clear_value v1
    refine Frame.ite ?_ ?_
    ·
      assumption
    ·
      extract_lets +onlyGivenNames v3
      refine Frame.foldTrans ?_ ?_
      ·
        refine Frame.next (Frame.modRing ..) (by decide) ?_
        assumption
      · intro x4 b5
        beta_reduce
        refine Frame.next (Frame.event ..) (by decide) ?_
        exact Frame.refl _ _

theorem Frame.ringRunsDue (s : State) (r : Fin 32) : Frame [.recs, .sip] s (State.ringRunsDue s r) := by
  delta State.ringRunsDue
  refine Frame.foldTrans ?_ ?_
  ·
    exact Frame.refl _ _
  · intro x1 b2
    beta_reduce
    extract_lets +onlyGivenNames v3
    refine Frame.foldTrans ?_ ?_
    ·
      refine Frame.next (Frame.modRing ..) (by decide) ?_
      exact Frame.refl _ _
    · intro x4 b5
      beta_reduce
      refine Frame.next (Frame.event ..) (by decide) ?_
      exact Frame.refl _ _

theorem Frame.rdPass (s : State) (r : Fin 32) : Frame [.recs, .sip] s (State.rdPass s r) := by
  delta State.rdPass
  split
  ·
    exact Frame.refl _ _
  ·
    extract_lets +onlyGivenNames v1
    extract_lets +onlyGivenNames v2
    extract_lets +onlyGivenNames v3
    refine Frame.via v3 ?_ (fun h4 => ?_)
    · unfold v3
      refine Frame.next (Frame.modRing ..) (by decide) ?_
      exact Frame.refl _ _
    · clear_value v3
      refine Frame.ite ?_ ?_
      ·
        refine Frame.next (Frame.ringLoss ..) (by decide) ?_
        assumption
      ·
        assumption

theorem Frame.trigger (s : State) (c : Fin 32) (flush : Bool) : Frame [.sip] s (State.trigger s c flush) := by
  delta State.trigger
  split
  ·
    refine Frame.next (Frame.modCh ..) (by decide) ?_
    exact Frame.refl _ _
  ·
    refine Frame.next (Frame.modCh ..) (by decide) ?_
    exact Frame.refl _ _
  ·
    exact Frame.refl _ _
  ·
    exact Frame.refl _ _
  ·
    exact Frame.refl _ _

theorem Frame.fillTriggers (s : State) (r : Fin 32) : Frame [.sip] s (State.fillTriggers s r) := by
  delta State.fillTriggers
  refine Frame.foldTrans ?_ ?_
  ·
    exact Frame.refl _ _
  · intro x1 b2
    beta_reduce
    refine Frame.ite ?_ ?_
    ·
      refine Frame.ite ?_ ?_
      ·
        refine Frame.next (Frame.trigger ..) (by decide) ?_
        exact Frame.refl _ _
      ·
        exact Frame.refl _ _
    ·
      refine Frame.ite ?_ ?_
      ·
        refine Frame.next (Frame.trigger ..) (by decide) ?_
        exact Frame.refl _ _
      ·
        exact Frame.refl _ _

theorem Frame.buildChain (s : State) (c : Nat) : Frame [.sip] s (State.buildChain s c) := by
  delta State.buildChain
  extract_lets +onlyGivenNames v1
  extract_lets +onlyGivenNames v2
  refine Frame.foldTrans ?_ ?_
  ·
    exact Frame.refl _ _
  · intro x3 b4
    beta_reduce
    refine Frame.next (Frame.sramWrite ..) (by decide) ?_
    exact Frame.refl _ _

theorem Frame.sipStart (s : State) : Frame [.sip] s (State.sipStart s) := by
  delta State.sipStart
  refine Frame.foldTrans ?_ ?_
  ·
    refine Frame.next (Frame.onSip ..) (by decide) ?_
    exact Frame.refl _ _
  · intro x1 b2
    beta_reduce
    refine Frame.next (Frame.buildChain ..) (by decide) ?_
    exact Frame.refl _ _

theorem Frame.chStop (s : State) (c : Fin 32) (code : Nat) : Frame [.recs, .sip] s (State.chStop s c code) := by
  delta State.chStop
  extract_lets +onlyGivenNames v1
  refine Frame.via v1 ?_ (fun h2 => ?_)
  · unfold v1
    refine Frame.next (Frame.modCh ..) (by decide) ?_
    exact Frame.refl _ _
  · clear_value v1
    extract_lets +onlyGivenNames v3
    refine Frame.via v3 ?_ (fun h4 => ?_)
    · unfold v3
      refine Frame.ite ?_ ?_
      ·
        refine Frame.next (Frame.onSip ..) (by decide) ?_
        assumption
      ·
        assumption
    · clear_value v3
      refine Frame.next (Frame.event ..) (by decide) ?_
      assumption

theorem Frame.chComplete (s : State) (c : Fin 32) : Frame [.sip] s (State.chComplete s c) := by
  delta State.chComplete
  extract_lets +onlyGivenNames v1
  refine Frame.via v1 ?_ (fun h2 => ?_)
  · unfold v1
    refine Frame.next (Frame.onSip ..) (by decide) ?_
    exact Frame.refl _ _
  · clear_value v1
    refine Frame.next (Frame.modCh ..) (by decide) ?_
    assumption

theorem Frame.fetchDesc (s : State) (c : Fin 32) : Frame [.recs, .sip] s (State.fetchDesc s c) := by
  delta State.fetchDesc
  extract_lets +onlyGivenNames v1
  refine Frame.ite ?_ ?_
  ·
    refine Frame.next (Frame.chStop ..) (by decide) ?_
    exact Frame.refl _ _
  ·
    extract_lets +onlyGivenNames v2
    refine Frame.via v2 ?_ (fun h3 => ?_)
    · unfold v2
      refine Frame.next (Frame.modCh ..) (by decide) ?_
      exact Frame.refl _ _
    · clear_value v2
      extract_lets +onlyGivenNames v4
      refine Frame.ite ?_ ?_
      ·
        refine Frame.next (Frame.chStop ..) (by decide) ?_
        assumption
      ·
        refine Frame.next (Frame.onSip ..) (by decide) ?_
        assumption

theorem Frame.copyBytes (s : State) (d : Desc) (n : Nat) : Frame [.sip] s (State.copyBytes s d n) := by
  delta State.copyBytes
  extract_lets +onlyGivenNames v1
  extract_lets +onlyGivenNames v2
  extract_lets +onlyGivenNames v3
  refine Frame.next (Frame.sramWrite ..) (by decide) ?_
  exact Frame.refl _ _

theorem Frame.drainPass (s : State) (r : Fin 32) (tap : Bool) (q : RingRec) : Frame [.recs, .sip] s (State.drainPass s r tap q) := by
  delta State.drainPass
  refine Frame.ite ?_ ?_
  ·
    refine Frame.next (Frame.modRing ..) (by decide) ?_
    exact Frame.refl _ _
  ·
    refine Frame.next (Frame.rdPass ..) (by decide) ?_
    exact Frame.refl _ _

theorem Frame.sipBoundary (s : State) : Frame [.recs, .sip] s (State.sipBoundary s) := by
  delta State.sipBoundary
  refine Frame.foldTrans ?_ ?_
  ·
    exact Frame.refl _ _
  · intro x1 b2
    beta_reduce
    refine Frame.next (Frame.ringRunsDue ..) (by decide) ?_
    exact Frame.refl _ _

theorem Frame.ecSet (s : State) (b n : Nat) : Frame [.ks] s (State.ecSet s b n) := by
  delta State.ecSet
  extract_lets +onlyGivenNames v1
  refine Frame.next (Frame.ksWrite ..) (by decide) ?_
  exact Frame.refl _ _

theorem Frame.modBlk (s : State) (b : Nat) (f : Blk → Blk) : Frame [.car] s (State.modBlk s b f) := by
  delta State.modBlk
  refine Frame.next (Frame.onCar ..) (by decide) ?_
  exact Frame.refl _ _

theorem Frame.carRec (s : State) (time code detail a b : Nat) : Frame [.recs] s (State.carRec s time code detail a b) := by
  delta State.carRec
  refine Frame.next (Frame.emit ..) (by decide) ?_
  exact Frame.refl _ _

theorem Frame.stageEval (s : State) : Frame [.recs, .car] s (State.stageEval s) := by
  delta State.stageEval
  extract_lets +onlyGivenNames v1
  refine Frame.ite ?_ ?_
  ·
    exact Frame.refl _ _
  ·
    refine Frame.next (Frame.carRec ..) (by decide) ?_
    refine Frame.next (Frame.onCar ..) (by decide) ?_
    exact Frame.refl _ _

theorem Frame.nandPush (s : State) (a : NandAct) : Frame [.car] s (State.nandPush s a) := by
  delta State.nandPush
  refine Frame.next (Frame.onCar ..) (by decide) ?_
  exact Frame.refl _ _

theorem Frame.nandPushStream (s : State) (b : Nat) (a : NandAct) : Frame [.car] s (State.nandPushStream s b a) := by
  delta State.nandPushStream
  refine Frame.next (Frame.onCar ..) (by decide) ?_
  exact Frame.refl _ _

theorem Frame.nandErase (s : State) (b : Nat) : Frame [.ks, .car] s (State.nandErase s b) := by
  delta State.nandErase
  refine Frame.next (Frame.nandPush ..) (by decide) ?_
  refine Frame.next (Frame.ecSet ..) (by decide) ?_
  exact Frame.refl _ _

theorem Frame.modStream (s : State) (k : Fin 4) (f : StreamSt → StreamSt) : Frame [.car] s (State.modStream s k f) := by
  delta State.modStream
  refine Frame.next (Frame.onCar ..) (by decide) ?_
  exact Frame.refl _ _

theorem Frame.modEvt (s : State) (k : Fin 16) (f : EvtSlot → EvtSlot) : Frame [.car] s (State.modEvt s k f) := by
  delta State.modEvt
  refine Frame.next (Frame.onCar ..) (by decide) ?_
  exact Frame.refl _ _

theorem Frame.opDone (s : State) (o : NandOp) (b : Nat) : Frame [.car] s (State.opDone s o b) := by
  delta State.opDone
  refine Frame.next (Frame.onCar ..) (by decide) ?_
  exact Frame.refl _ _

theorem Frame.rateAdd (s : State) (n : Nat) : Frame [.car] s (State.rateAdd s n) := by
  delta State.rateAdd
  refine Frame.next (Frame.onCar ..) (by decide) ?_
  exact Frame.refl _ _

theorem Frame.modRpl (s : State) (f : Replay → Replay) : Frame [.car] s (State.modRpl s f) := by
  delta State.modRpl
  refine Frame.next (Frame.onCar ..) (by decide) ?_
  exact Frame.refl _ _

theorem Frame.rplEnd (s : State) (how : Nat) : Frame [.recs, .car] s (State.rplEnd s how) := by
  delta State.rplEnd
  extract_lets +onlyGivenNames v1
  refine Frame.next (Frame.carRec ..) (by decide) ?_
  refine Frame.next (Frame.onCar ..) (by decide) ?_
  refine Frame.next (Frame.modRpl ..) (by decide) ?_
  exact Frame.refl _ _

theorem Frame.rplPass (s : State) (n : Nat) : Frame [.car] s (State.rplPass s n) := by
  delta State.rplPass
  refine Frame.ite ?_ ?_
  ·
    exact Frame.refl _ _
  ·
    refine Frame.next (Frame.modRpl ..) (by decide) ?_
    exact Frame.refl _ _

theorem Frame.rplNext (s : State) : Frame [.recs, .car] s (State.rplNext s) := by
  delta State.rplNext
  extract_lets +onlyGivenNames v1
  extract_lets +onlyGivenNames v2
  extract_lets +onlyGivenNames v3
  refine Frame.ite ?_ ?_
  ·
    exact Frame.refl _ _
  ·
    extract_lets +onlyGivenNames v4
    refine Frame.via v4 ?_ (fun h5 => ?_)
    · unfold v4
      refine Frame.next (Frame.rplPass ..) (by decide) ?_
      exact Frame.refl _ _
    · clear_value v4
      split
      ·
        refine Frame.next (Frame.rplEnd ..) (by decide) ?_
        assumption
      ·
        refine Frame.ite ?_ ?_
        ·
          refine Frame.next (Frame.rplEnd ..) (by decide) ?_
          assumption
        ·
          refine Frame.next (Frame.nandPush ..) (by decide) ?_
          refine Frame.next (Frame.modRpl ..) (by decide) ?_
          assumption

theorem Frame.carStart (s : State) : Frame [.car] s (State.carStart s) := by
  delta State.carStart
  refine Frame.next (Frame.onCar ..) (by decide) ?_
  exact Frame.refl _ _

theorem Frame.mountRec (s : State) (code : Nat) : Frame [.recs] s (State.mountRec s code) := by
  delta State.mountRec
  refine Frame.next (Frame.carRec ..) (by decide) ?_
  exact Frame.refl _ _

theorem Frame.freezeRec (s : State) (time code cause source b5 slot origin t late bytes : Nat) : Frame [.recs] s (State.freezeRec s time code cause source b5 slot origin t late bytes) := by
  delta State.freezeRec
  extract_lets +onlyGivenNames v1
  refine Frame.next (Frame.emit ..) (by decide) ?_
  exact Frame.refl _ _

theorem Frame.mountRestore (s : State) (f : MountReport) (m : MountMeta) : Frame [.ks, .car] s (State.mountRestore s f m) := by
  delta State.mountRestore
  extract_lets +onlyGivenNames v1
  extract_lets +onlyGivenNames v2
  extract_lets +onlyGivenNames v3
  extract_lets +onlyGivenNames v4
  extract_lets +onlyGivenNames v5
  extract_lets +onlyGivenNames v6
  refine Frame.via v6 ?_ (fun h7 => ?_)
  · unfold v6
    refine Frame.foldTrans ?_ ?_
    ·
      exact Frame.refl _ _
    · intro x8 b9
      beta_reduce
      split
      ·
        exact Frame.refl _ _
      ·
        refine Frame.next (Frame.ecSet ..) (by decide) ?_
        exact Frame.refl _ _
  · clear_value v6
    extract_lets +onlyGivenNames v10
    refine Frame.via v10 ?_ (fun h11 => ?_)
    · unfold v10
      refine Frame.next (Frame.onCar ..) (by decide) ?_
      assumption
    · clear_value v10
      split
      ·
        refine Frame.next (Frame.onCar ..) (by decide) ?_
        assumption
      ·
        assumption

theorem Frame.putBlock (s : State) (b : Nat) : Frame [.mode] s (State.putBlock s b) := by
  delta State.putBlock
  refine Frame.next (Frame.onMode ..) (by decide) ?_
  exact Frame.refl _ _

theorem Frame.pairCheck (s : State) (a : Nat) : Frame [.stg] s (State.pairCheck s a) := by
  delta State.pairCheck
  extract_lets +onlyGivenNames v1
  split
  ·
    refine Frame.ite ?_ ?_
    ·
      unfold v1
      refine Frame.ite ?_ ?_
      ·
        exact Frame.refl _ _
      ·
        refine Frame.next (Frame.onStg ..) (by decide) ?_
        exact Frame.refl _ _
    ·
      exact Frame.refl _ _
  ·
    unfold v1
    refine Frame.ite ?_ ?_
    ·
      exact Frame.refl _ _
    ·
      refine Frame.next (Frame.onStg ..) (by decide) ?_
      exact Frame.refl _ _
  ·
    exact Frame.refl _ _

theorem Frame.tokenEvent (s : State) (new : Option Origin) (why : Nat) (tie : Bool) (o : Origin) : Frame [.recs] s (State.tokenEvent s new why tie o) := by
  delta State.tokenEvent
  refine Frame.next (Frame.event ..) (by decide) ?_
  exact Frame.refl _ _

theorem Frame.tokenStop (s : State) : Frame [.mode] s (State.tokenStop s) := by
  delta State.tokenStop
  refine Frame.ite ?_ ?_
  ·
    exact Frame.refl _ _
  ·
    refine Frame.next (Frame.setStop ..) (by decide) ?_
    exact Frame.refl _ _

theorem Frame.tokenLeave (s : State) (new : Option Origin) (why : Nat) (tie : Bool) : Frame [.mode, .stg, .recs, .cp] s (State.tokenLeave s new why tie) := by
  delta State.tokenLeave
  split
  ·
    exact Frame.refl _ _
  ·
    refine Frame.next (Frame.tokenStop ..) (by decide) ?_
    refine Frame.next (Frame.stgEmpty ..) (by decide) ?_
    refine Frame.next (Frame.tokenEvent ..) (by decide) ?_
    refine Frame.next (Frame.onCp ..) (by decide) ?_
    exact Frame.refl _ _

theorem Frame.tokenGrant (s : State) (o : Origin) (tie : Bool) : Frame [.mode, .stg, .recs, .cp] s (State.tokenGrant s o tie) := by
  delta State.tokenGrant
  extract_lets +onlyGivenNames v1
  refine Frame.via v1 ?_ (fun h2 => ?_)
  · unfold v1
    refine Frame.ite ?_ ?_
    ·
      refine Frame.next (Frame.tokenLeave ..) (by decide) ?_
      exact Frame.refl _ _
    ·
      refine Frame.next (Frame.tokenEvent ..) (by decide) ?_
      refine Frame.next (Frame.onCp ..) (by decide) ?_
      exact Frame.refl _ _
  · clear_value v1
    refine Frame.next (Frame.onCp ..) (by decide) ?_
    refine Frame.next (Frame.tokenStop ..) (by decide) ?_
    assumption

theorem Frame.tokenRelease (s : State) (o : Origin) : Frame [.mode, .stg, .recs, .cp] s (State.tokenRelease s o) := by
  delta State.tokenRelease
  refine Frame.ite ?_ ?_
  ·
    refine Frame.next (Frame.tokenLeave ..) (by decide) ?_
    exact Frame.refl _ _
  ·
    exact Frame.refl _ _

theorem Frame.leaseExpire (s : State) : Frame [.mode, .stg, .recs, .cp] s (State.leaseExpire s) := by
  delta State.leaseExpire
  refine Frame.ite ?_ ?_
  ·
    refine Frame.next (Frame.tokenLeave ..) (by decide) ?_
    refine Frame.next (Frame.onCp ..) (by decide) ?_
    exact Frame.refl _ _
  ·
    exact Frame.refl _ _

theorem Frame.quarBegin (s : State) (q : QuarTarget) : Frame [.mode, .stg, .recs, .cp, .can] s (State.quarBegin s q) := by
  delta State.quarBegin
  split
  ·
    refine Frame.ite ?_ ?_
    ·
      extract_lets +onlyGivenNames v1
      refine Frame.via v1 ?_ (fun h2 => ?_)
      · unfold v1
        refine Frame.next (Frame.onCp ..) (by decide) ?_
        exact Frame.refl _ _
      · clear_value v1
        extract_lets +onlyGivenNames v3
        refine Frame.via v3 ?_ (fun h4 => ?_)
        · unfold v3
          refine Frame.next (Frame.event ..) (by decide) ?_
          assumption
        · clear_value v3
          refine Frame.ite ?_ ?_
          ·
            refine Frame.next (Frame.tokenLeave ..) (by decide) ?_
            assumption
          ·
            assumption
    ·
      exact Frame.refl _ _
  ·
    refine Frame.ite ?_ ?_
    ·
      refine Frame.next (Frame.event ..) (by decide) ?_
      refine Frame.next (Frame.onCan ..) (by decide) ?_
      exact Frame.refl _ _
    ·
      exact Frame.refl _ _

theorem Frame.quarEnd (s : State) (q : QuarTarget) : Frame [.recs, .cp, .can] s (State.quarEnd s q) := by
  delta State.quarEnd
  split
  ·
    refine Frame.ite ?_ ?_
    ·
      extract_lets +onlyGivenNames v1
      refine Frame.via v1 ?_ (fun h2 => ?_)
      · unfold v1
        refine Frame.next (Frame.onCp ..) (by decide) ?_
        exact Frame.refl _ _
      · clear_value v1
        refine Frame.next (Frame.event ..) (by decide) ?_
        assumption
    ·
      exact Frame.refl _ _
  ·
    refine Frame.ite ?_ ?_
    ·
      refine Frame.next (Frame.event ..) (by decide) ?_
      refine Frame.next (Frame.onCan ..) (by decide) ?_
      exact Frame.refl _ _
    ·
      exact Frame.refl _ _

theorem Frame.startFail (s : State) (code : Nat) : Frame [.pwr, .ld, .ks] s (State.startFail s code) := by
  delta State.startFail
  refine Frame.next (Frame.onPwr ..) (by decide) ?_
  refine Frame.next (Frame.onLd ..) (by decide) ?_
  refine Frame.next (Frame.coldHistory ..) (by decide) ?_
  exact Frame.refl _ _

theorem Frame.release (s : State) (r1 r0 : Strap) (alt : Bool) : Frame [.pwr, .ld, .ks] s (State.release s r1 r0 alt) := by
  delta State.release
  extract_lets +onlyGivenNames v1
  refine Frame.ite ?_ ?_
  ·
    exact Frame.refl _ _
  ·
    extract_lets +onlyGivenNames v2
    extract_lets +onlyGivenNames v3
    extract_lets +onlyGivenNames v4
    refine Frame.via v4 ?_ (fun h5 => ?_)
    · unfold v4
      refine Frame.next (Frame.resetHistory ..) (by decide) ?_
      exact Frame.refl _ _
    · clear_value v4
      extract_lets +onlyGivenNames v6
      refine Frame.via v6 ?_ (fun h7 => ?_)
      · unfold v6
        refine Frame.next (Frame.onPwr ..) (by decide) ?_
        assumption
      · clear_value v6
        refine Frame.ite ?_ ?_
        ·
          assumption
        ·
          refine Frame.next (Frame.startFail ..) (by decide) ?_
          assumption

theorem Frame.pllLock (s : State) : Frame [.clk, .pwr, .tbs] s (State.pllLock s) := by
  delta State.pllLock
  extract_lets +onlyGivenNames v1
  split
  ·
    refine Frame.next (Frame.onPwr ..) (by decide) ?_
    unfold v1
    refine Frame.next (Frame.onTbs ..) (by decide) ?_
    refine Frame.next (Frame.onClk ..) (by decide) ?_
    exact Frame.refl _ _
  ·
    refine Frame.ite ?_ ?_
    ·
      exact Frame.refl _ _
    ·
      unfold v1
      refine Frame.next (Frame.onTbs ..) (by decide) ?_
      refine Frame.next (Frame.onClk ..) (by decide) ?_
      exact Frame.refl _ _
  ·
    exact Frame.refl _ _
  ·
    exact Frame.refl _ _
  ·
    exact Frame.refl _ _
  ·
    exact Frame.refl _ _

theorem Frame.loadOver (s : State) : Frame [.pwr, .ld, .mode, .recs] s (State.loadOver s) := by
  delta State.loadOver
  refine Frame.next (Frame.onRecs ..) (by decide) ?_
  refine Frame.next (Frame.putMode ..) (by decide) ?_
  refine Frame.next (Frame.onPwr ..) (by decide) ?_
  refine Frame.next (Frame.onLd ..) (by decide) ?_
  exact Frame.refl _ _

theorem Frame.copyFail (s : State) (f : LoadFail) (last : Bool) : Frame [.pwr, .ld, .ks, .mode, .recs] s (State.copyFail s f last) := by
  delta State.copyFail
  extract_lets +onlyGivenNames v1
  refine Frame.via v1 ?_ (fun h2 => ?_)
  · unfold v1
    refine Frame.next (Frame.coldHistory ..) (by decide) ?_
    exact Frame.refl _ _
  · clear_value v1
    refine Frame.ite ?_ ?_
    ·
      refine Frame.next (Frame.loadOver ..) (by decide) ?_
      refine Frame.next (Frame.onLd ..) (by decide) ?_
      assumption
    ·
      refine Frame.ite ?_ ?_
      ·
        refine Frame.next (Frame.loadOver ..) (by decide) ?_
        refine Frame.next (Frame.onLd ..) (by decide) ?_
        assumption
      ·
        refine Frame.next (Frame.onLd ..) (by decide) ?_
        assumption

theorem Frame.loadEntry (s : State) (keepOk : Bool) : Frame [.pwr, .ld, .mode, .recs, .sip] s (State.loadEntry s keepOk) := by
  delta State.loadEntry
  refine Frame.ite ?_ ?_
  ·
    exact Frame.refl _ _
  ·
    refine Frame.ite ?_ ?_
    ·
      refine Frame.next (Frame.loadOver ..) (by decide) ?_
      refine Frame.next (Frame.onLd ..) (by decide) ?_
      exact Frame.refl _ _
    ·
      refine Frame.next (Frame.onSip ..) (by decide) ?_
      refine Frame.next (Frame.onLd ..) (by decide) ?_
      refine Frame.next (Frame.putMode ..) (by decide) ?_
      refine Frame.next (Frame.onPwr ..) (by decide) ?_
      exact Frame.refl _ _

theorem Frame.headerRead (s : State) (b : List Byte) : Frame [.pwr, .ld, .ks, .mode, .recs] s (State.headerRead s b) := by
  delta State.headerRead
  refine Frame.ite ?_ ?_
  ·
    exact Frame.refl _ _
  ·
    split
    ·
      refine Frame.next (Frame.copyFail ..) (by decide) ?_
      exact Frame.refl _ _
    ·
      refine Frame.next (Frame.onLd ..) (by decide) ?_
      exact Frame.refl _ _

theorem Frame.sectionRead (s : State) (b : List Byte) : Frame [.pwr, .ld, .ks, .mode, .recs] s (State.sectionRead s b) := by
  delta State.sectionRead
  refine Frame.ite ?_ ?_
  ·
    exact Frame.refl _ _
  ·
    extract_lets +onlyGivenNames v1
    extract_lets +onlyGivenNames v2
    refine Frame.ite ?_ ?_
    ·
      refine Frame.next (Frame.copyFail ..) (by decide) ?_
      exact Frame.refl _ _
    ·
      refine Frame.ite ?_ ?_
      ·
        refine Frame.next (Frame.copyFail ..) (by decide) ?_
        exact Frame.refl _ _
      ·
        refine Frame.next (Frame.onLd ..) (by decide) ?_
        exact Frame.refl _ _

theorem Frame.entryRead (s : State) (addr naddr value nvalue : Word) : Frame [.ld] s (State.entryRead s addr naddr value nvalue) := by
  delta State.entryRead
  refine Frame.ite ?_ ?_
  ·
    exact Frame.refl _ _
  ·
    extract_lets +onlyGivenNames v1
    extract_lets +onlyGivenNames v2
    refine Frame.next (Frame.onLd ..) (by decide) ?_
    exact Frame.refl _ _

theorem Frame.copyEnd (s : State) : Frame [.pwr, .ld, .ks, .mode, .recs, .gd, .saf] s (State.copyEnd s) := by
  delta State.copyEnd
  extract_lets +onlyGivenNames v1
  refine Frame.ite ?_ ?_
  ·
    refine Frame.next (Frame.copyFail ..) (by decide) ?_
    exact Frame.refl _ _
  ·
    refine Frame.ite ?_ ?_
    ·
      refine Frame.next (Frame.copyFail ..) (by decide) ?_
      exact Frame.refl _ _
    ·
      extract_lets +onlyGivenNames v2
      split
      ·
        refine Frame.next (Frame.pathTest ..) (by decide) ?_
        refine Frame.next (Frame.onLd ..) (by decide) ?_
        exact Frame.refl _ _
      ·
        split
        ·
          refine Frame.next (Frame.copyFail ..) (by decide) ?_
          exact Frame.refl _ _
        ·
          extract_lets +onlyGivenNames v3
          refine Frame.next (Frame.copyFail ..) (by decide) ?_
          exact Frame.refl _ _

theorem Frame.crcRead (s : State) (scrc pad : Word) : Frame [.pwr, .ld, .ks, .mode, .recs, .gd, .saf] s (State.crcRead s scrc pad) := by
  delta State.crcRead
  refine Frame.ite ?_ ?_
  ·
    exact Frame.refl _ _
  ·
    extract_lets +onlyGivenNames v1
    refine Frame.ite ?_ ?_
    ·
      refine Frame.next (Frame.copyFail ..) (by decide) ?_
      exact Frame.refl _ _
    ·
      split
      ·
        refine Frame.next (Frame.copyFail ..) (by decide) ?_
        exact Frame.refl _ _
      ·
        extract_lets +onlyGivenNames v2
        refine Frame.via v2 ?_ (fun h3 => ?_)
        · unfold v2
          refine Frame.next (Frame.onLd ..) (by decide) ?_
          exact Frame.refl _ _
        · clear_value v2
          refine Frame.ite ?_ ?_
          ·
            refine Frame.next (Frame.copyEnd ..) (by decide) ?_
            assumption
          ·
            assumption

theorem Frame.axesStart (s : State) : Frame [.recs, .snt, .ax, .cmd, .aux] s (State.axesStart s) := by
  delta State.axesStart
  extract_lets +onlyGivenNames v1
  refine Frame.via v1 ?_ (fun h2 => ?_)
  · unfold v1
    refine Frame.foldTrans ?_ ?_
    ·
      exact Frame.refl _ _
    · intro x3 b4
      beta_reduce
      refine Frame.ite ?_ ?_
      ·
        refine Frame.next (Frame.modSnt ..) (by decide) ?_
        exact Frame.refl _ _
      ·
        exact Frame.refl _ _
  · clear_value v1
    extract_lets +onlyGivenNames v5
    refine Frame.via v5 ?_ (fun h6 => ?_)
    · unfold v5
      refine Frame.foldTrans ?_ ?_
      ·
        assumption
      · intro x7 b8
        beta_reduce
        refine Frame.ite ?_ ?_
        ·
          refine Frame.next (Frame.thermInit ..) (by decide) ?_
          refine Frame.next (Frame.modAx ..) (by decide) ?_
          exact Frame.refl _ _
        ·
          exact Frame.refl _ _
    · clear_value v5
      refine Frame.foldTrans ?_ ?_
      ·
        assumption
      · intro x9 b10
        beta_reduce
        refine Frame.ite ?_ ?_
        ·
          refine Frame.next (Frame.auxRestore ..) (by decide) ?_
          refine Frame.next (Frame.modAux ..) (by decide) ?_
          exact Frame.refl _ _
        ·
          exact Frame.refl _ _

theorem Frame.portsStart (s : State) : Frame [.cp] s (State.portsStart s) := by
  delta State.portsStart
  refine Frame.next (Frame.onCp ..) (by decide) ?_
  exact Frame.refl _ _

theorem Frame.ticksStart (s : State) : Frame [.tick] s (State.ticksStart s) := by
  delta State.ticksStart
  refine Frame.next (Frame.onTick ..) (by decide) ?_
  exact Frame.refl _ _

theorem Frame.holdEntry (s : State) (freezeLow : Bool) : Frame [.pwr, .ld, .tbs, .mode, .stg, .tick, .recs, .regs, .snt, .freeIx, .cp, .fab, .sns, .ax, .gd, .cmd, .aux, .sip, .car, .saf, .can, .frz, .regsOff] s (State.holdEntry s freezeLow) := by
  delta State.holdEntry
  refine Frame.ite ?_ ?_
  ·
    exact Frame.refl _ _
  ·
    extract_lets +onlyGivenNames v1
    extract_lets +onlyGivenNames v2
    refine Frame.via v2 ?_ (fun h3 => ?_)
    · unfold v2
      refine Frame.next (Frame.onRegs ..) (by decide) ?_
      exact Frame.refl _ _
    · clear_value v2
      extract_lets +onlyGivenNames v4
      refine Frame.via v4 ?_ (fun h5 => ?_)
      · unfold v4
        refine Frame.next (Frame.onLd ..) (by decide) ?_
        assumption
      · clear_value v4
        extract_lets +onlyGivenNames v6
        refine Frame.via v6 ?_ (fun h7 => ?_)
        · unfold v6
          refine Frame.next (Frame.onTbs ..) (by decide) ?_
          refine Frame.next (Frame.onPwr ..) (by decide) ?_
          assumption
        · clear_value v6
          extract_lets +onlyGivenNames v8
          refine Frame.via v8 ?_ (fun h9 => ?_)
          · unfold v8
            refine Frame.next (Frame.changeMode ..) (by decide) ?_
            refine Frame.next (Frame.fabStart ..) (by decide) ?_
            assumption
          · clear_value v8
            extract_lets +onlyGivenNames v10
            refine Frame.via v10 ?_ (fun h11 => ?_)
            · unfold v10
              refine Frame.next (Frame.configRec ..) (by decide) ?_
              assumption
            · clear_value v10
              extract_lets +onlyGivenNames v12
              refine Frame.via v12 ?_ (fun h13 => ?_)
              · unfold v12
                split
                ·
                  refine Frame.next (Frame.configRec ..) (by decide) ?_
                  assumption
                ·
                  assumption
              · clear_value v12
                extract_lets +onlyGivenNames v14
                refine Frame.via v14 ?_ (fun h15 => ?_)
                · unfold v14
                  refine Frame.next (Frame.carStart ..) (by decide) ?_
                  refine Frame.next (Frame.sipStart ..) (by decide) ?_
                  refine Frame.next (Frame.canStart ..) (by decide) ?_
                  refine Frame.next (Frame.portsStart ..) (by decide) ?_
                  refine Frame.next (Frame.axesStart ..) (by decide) ?_
                  refine Frame.next (Frame.ticksStart ..) (by decide) ?_
                  refine Frame.next (Frame.releaseHeld ..) (by decide) ?_
                  assumption
                · clear_value v14
                  extract_lets +onlyGivenNames v16
                  refine Frame.via v16 ?_ (fun h17 => ?_)
                  · unfold v16
                    refine Frame.foldTrans ?_ ?_
                    ·
                      assumption
                    · intro x18 b19
                      beta_reduce
                      refine Frame.next (Frame.linkCheck ..) (by decide) ?_
                      exact Frame.refl _ _
                  · clear_value v16
                    extract_lets +onlyGivenNames v20
                    refine Frame.via v20 ?_ (fun h21 => ?_)
                    · unfold v20
                      refine Frame.next (Frame.onGd ..) (by decide) ?_
                      assumption
                    · clear_value v20
                      extract_lets +onlyGivenNames v22
                      refine Frame.via v22 ?_ (fun h23 => ?_)
                      · unfold v22
                        refine Frame.next (Frame.onFrz ..) (by decide) ?_
                        assumption
                      · clear_value v22
                        refine Frame.next (Frame.autoTest ..) (by decide) ?_
                        refine Frame.next (Frame.safStart ..) (by decide) ?_
                        assumption

theorem Frame.refclkLoss (s : State) (offFrequency : Bool) : Frame [.clk, .pwr, .ld, .ks, .tbs, .mode, .recs] s (State.refclkLoss s offFrequency) := by
  delta State.refclkLoss
  extract_lets +onlyGivenNames v1
  split
  ·
    unfold v1
    refine Frame.next (Frame.onTbs ..) (by decide) ?_
    refine Frame.next (Frame.onClk ..) (by decide) ?_
    refine Frame.next (Frame.startFail ..) (by decide) ?_
    exact Frame.refl _ _
  ·
    unfold v1
    refine Frame.next (Frame.onTbs ..) (by decide) ?_
    refine Frame.next (Frame.onClk ..) (by decide) ?_
    refine Frame.next (Frame.startFail ..) (by decide) ?_
    exact Frame.refl _ _
  ·
    unfold v1
    refine Frame.next (Frame.onTbs ..) (by decide) ?_
    refine Frame.next (Frame.onClk ..) (by decide) ?_
    refine Frame.next (Frame.copyFail ..) (by decide) ?_
    exact Frame.refl _ _
  ·
    unfold v1
    refine Frame.next (Frame.onTbs ..) (by decide) ?_
    refine Frame.next (Frame.onClk ..) (by decide) ?_
    exact Frame.refl _ _
  ·
    refine Frame.ite ?_ ?_
    ·
      exact Frame.refl _ _
    ·
      refine Frame.ite ?_ ?_
      ·
        refine Frame.next (Frame.onTbs ..) (by decide) ?_
        exact Frame.refl _ _
      ·
        refine Frame.next (Frame.setStop ..) (by decide) ?_
        refine Frame.next (Frame.timeRec ..) (by decide) ?_
        refine Frame.next (Frame.onTbs ..) (by decide) ?_
        exact Frame.refl _ _
  ·
    exact Frame.refl _ _

theorem Frame.refclkBack (s : State) : Frame [.tbs, .mode, .recs] s (State.refclkBack s) := by
  delta State.refclkBack
  refine Frame.ite ?_ ?_
  ·
    refine Frame.next (Frame.setStop ..) (by decide) ?_
    refine Frame.next (Frame.timeRec ..) (by decide) ?_
    refine Frame.next (Frame.onTbs ..) (by decide) ?_
    exact Frame.refl _ _
  ·
    exact Frame.refl _ _

theorem Frame.epuCal (s : State) (u : Fin 11) (spans : Bool) : Frame [.tbs, .recs] s (State.epuCal s u spans) := by
  delta State.epuCal
  extract_lets +onlyGivenNames v1
  refine Frame.ite ?_ ?_
  ·
    refine Frame.next (Frame.timeRec ..) (by decide) ?_
    refine Frame.next (Frame.onTbs ..) (by decide) ?_
    exact Frame.refl _ _
  ·
    exact Frame.refl _ _

theorem Frame.frzPend (s : State) (t : FrzTrig) : Frame [.frz] s (State.frzPend s t) := by
  delta State.frzPend
  refine Frame.next (Frame.onFrz ..) (by decide) ?_
  exact Frame.refl _ _

theorem Frame.dumpStart (s : State) (f : Frozen) : Frame [.frz] s (State.dumpStart s f) := by
  delta State.dumpStart
  extract_lets +onlyGivenNames v1
  refine Frame.via v1 ?_ (fun h2 => ?_)
  · unfold v1
    refine Frame.next (Frame.onFrz ..) (by decide) ?_
    exact Frame.refl _ _
  · clear_value v1
    refine Frame.next (Frame.onFrz ..) (by decide) ?_
    assumption

theorem Frame.frzBridges (s : State) : Frame [.ax, .gd, .aux] s (State.frzBridges s) := by
  delta State.frzBridges
  extract_lets +onlyGivenNames v1
  extract_lets +onlyGivenNames v2
  refine Frame.via v2 ?_ (fun h3 => ?_)
  · unfold v2
    refine Frame.foldTrans ?_ ?_
    ·
      exact Frame.refl _ _
    · intro x4 b5
      beta_reduce
      refine Frame.next (Frame.modAx ..) (by decide) ?_
      exact Frame.refl _ _
  · clear_value v2
    extract_lets +onlyGivenNames v6
    refine Frame.via v6 ?_ (fun h7 => ?_)
    · unfold v6
      refine Frame.foldTrans ?_ ?_
      ·
        assumption
      · intro x8 b9
        beta_reduce
        refine Frame.next (Frame.modAux ..) (by decide) ?_
        exact Frame.refl _ _
    · clear_value v6
      refine Frame.next (Frame.onGd ..) (by decide) ?_
      assumption

theorem Frame.modPort (s : State) (p : Fin 3) (f : PortSt → PortSt) : Frame [.cp] s (State.modPort s p f) := by
  delta State.modPort
  refine Frame.next (Frame.onCp ..) (by decide) ?_
  exact Frame.refl _ _

theorem Frame.frameCp (s : State) (p : Fin 3) (sent : Bool) (time : Nat) (b : List Byte) : Frame [.recs] s (State.frameCp s p sent time b) := by
  delta State.frameCp
  refine Frame.ite ?_ ?_
  ·
    refine Frame.next (Frame.emit ..) (by decide) ?_
    exact Frame.refl _ _
  ·
    exact Frame.refl _ _

theorem Frame.mntPut (s : State) (b : List Byte) : Frame [.cp] s (State.mntPut s b) := by
  delta State.mntPut
  refine Frame.next (Frame.modPort ..) (by decide) ?_
  exact Frame.refl _ _

theorem Frame.portSend (s : State) (p : Fin 3) (event : Bool) (b : List Byte) : Frame [.recs, .cp] s (State.portSend s p event b) := by
  delta State.portSend
  refine Frame.ite ?_ ?_
  ·
    exact Frame.refl _ _
  ·
    refine Frame.ite ?_ ?_
    ·
      refine Frame.next (Frame.modPort ..) (by decide) ?_
      exact Frame.refl _ _
    ·
      extract_lets +onlyGivenNames v1
      refine Frame.via v1 ?_ (fun h2 => ?_)
      · unfold v1
        refine Frame.next (Frame.modPort ..) (by decide) ?_
        refine Frame.next (Frame.frameCp ..) (by decide) ?_
        exact Frame.refl _ _
      · clear_value v1
        refine Frame.ite ?_ ?_
        ·
          refine Frame.next (Frame.mntPut ..) (by decide) ?_
          assumption
        ·
          assumption

theorem Frame.eventSend (s : State) (p : Fin 3) (envelope : List Byte) : Frame [.recs, .cp] s (State.eventSend s p envelope) := by
  delta State.eventSend
  extract_lets +onlyGivenNames v1
  refine Frame.ite ?_ ?_
  ·
    exact Frame.refl _ _
  ·
    refine Frame.next (Frame.modPort ..) (by decide) ?_
    refine Frame.next (Frame.portSend ..) (by decide) ?_
    exact Frame.refl _ _

theorem Frame.portReply (s : State) (p : Fin 3) (seq : Nat) (b : List Byte) : Frame [.recs, .cp] s (State.portReply s p seq b) := by
  delta State.portReply
  refine Frame.next (Frame.portSend ..) (by decide) ?_
  refine Frame.next (Frame.modPort ..) (by decide) ?_
  exact Frame.refl _ _

theorem Frame.modImg (s : State) (f : ImgSession → ImgSession) : Frame [.cp] s (State.modImg s f) := by
  delta State.modImg
  refine Frame.next (Frame.onCp ..) (by decide) ?_
  exact Frame.refl _ _

theorem Frame.imgEvent (s : State) (what : Nat) : Frame [.recs] s (State.imgEvent s what) := by
  delta State.imgEvent
  refine Frame.next (Frame.event ..) (by decide) ?_
  exact Frame.refl _ _

theorem Frame.imgErased (s : State) : Frame [.cp] s (State.imgErased s) := by
  delta State.imgErased
  refine Frame.ite ?_ ?_
  ·
    refine Frame.next (Frame.modImg ..) (by decide) ?_
    exact Frame.refl _ _
  ·
    exact Frame.refl _ _

theorem Frame.imgVerified (s : State) (ok : Bool) : Frame [.recs, .cp] s (State.imgVerified s ok) := by
  delta State.imgVerified
  refine Frame.ite ?_ ?_
  ·
    refine Frame.next (Frame.imgEvent ..) (by decide) ?_
    refine Frame.next (Frame.modImg ..) (by decide) ?_
    exact Frame.refl _ _
  ·
    exact Frame.refl _ _

theorem Frame.imgTimeout (s : State) : Frame [.recs, .cp] s (State.imgTimeout s) := by
  delta State.imgTimeout
  refine Frame.ite ?_ ?_
  ·
    refine Frame.next (Frame.imgAbandon ..) (by decide) ?_
    exact Frame.refl _ _
  ·
    exact Frame.refl _ _

theorem Frame.frameKeep (s : State) (f : FrameExec) : Frame [.cp] s (State.frameKeep s f) := by
  delta State.frameKeep
  refine Frame.next (Frame.onCp ..) (by decide) ?_
  exact Frame.refl _ _

theorem Frame.tokenAnswer (s : State) (q : TokenReq × Nat) : Frame [.cp] s (State.tokenAnswer s q) := by
  delta State.tokenAnswer
  extract_lets +onlyGivenNames v1
  extract_lets +onlyGivenNames v2
  refine Frame.via v2 ?_ (fun h3 => ?_)
  · unfold v2
    refine Frame.ite ?_ ?_
    ·
      refine Frame.next (Frame.renewLease ..) (by decide) ?_
      exact Frame.refl _ _
    ·
      exact Frame.refl _ _
  · clear_value v2
    split
    ·
      refine Frame.next (Frame.onCp ..) (by decide) ?_
      assumption
    ·
      refine Frame.next (Frame.onCp ..) (by decide) ?_
      assumption

theorem Frame.portRefuse (s : State) (p : Fin 3) (c : Ctx) (st : Nat) (l : List (Nat × Reply)) : Frame [.recs, .cp] s (State.portRefuse s p c st l) := by
  delta State.portRefuse
  extract_lets +onlyGivenNames v1
  refine Frame.via v1 ?_ (fun h2 => ?_)
  · unfold v1
    refine Frame.next (Frame.settleReply ..) (by decide) ?_
    exact Frame.refl _ _
  · clear_value v1
    refine Frame.next (Frame.portReply ..) (by decide) ?_
    assumption

theorem Frame.frameMalformed (s : State) (p : Fin 3) (age : Nat) (b : List Byte) : Frame [.recs, .cp] s (State.frameMalformed s p age b) := by
  delta State.frameMalformed
  extract_lets +onlyGivenNames v1
  extract_lets +onlyGivenNames v2
  refine Frame.via v2 ?_ (fun h3 => ?_)
  · unfold v2
    refine Frame.next (Frame.settleReply ..) (by decide) ?_
    exact Frame.refl _ _
  · clear_value v2
    refine Frame.next (Frame.portSend ..) (by decide) ?_
    assumption

theorem Frame.spiAnswer (s : State) (p : Fin 2) (instr : Nat) (data : List Byte) : Frame [.cp] s (State.spiAnswer s p instr data) := by
  delta State.spiAnswer
  refine Frame.next (Frame.onCp ..) (by decide) ?_
  exact Frame.refl _ _

theorem Frame.spiStatus (s : State) (p : Fin 2) : Frame [.cp] s (State.spiStatus s p) := by
  delta State.spiStatus
  extract_lets +onlyGivenNames v1
  refine Frame.ite ?_ ?_
  ·
    refine Frame.next (Frame.spiAnswer ..) (by decide) ?_
    exact Frame.refl _ _
  ·
    exact Frame.refl _ _

theorem Frame.spiRead (s : State) (p : Fin 2) (instr : Nat) : Frame [.recs, .cp] s (State.spiRead s p instr) := by
  delta State.spiRead
  refine Frame.ite ?_ ?_
  ·
    exact Frame.refl _ _
  ·
    split
    ·
      refine Frame.next (Frame.spiAnswer ..) (by decide) ?_
      exact Frame.refl _ _
    ·
      refine Frame.next (Frame.spiAnswer ..) (by decide) ?_
      refine Frame.next (Frame.frameCp ..) (by decide) ?_
      refine Frame.next (Frame.modPort ..) (by decide) ?_
      exact Frame.refl _ _

theorem Frame.portRun (s : State) (p : Fin 2) (up : Bool) : Frame [.recs, .cp] s (State.portRun s p up) := by
  delta State.portRun
  extract_lets +onlyGivenNames v1
  refine Frame.ite ?_ ?_
  ·
    exact Frame.refl _ _
  ·
    extract_lets +onlyGivenNames v2
    refine Frame.via v2 ?_ (fun h3 => ?_)
    · unfold v2
      refine Frame.ite ?_ ?_
      ·
        refine Frame.next (Frame.modPort ..) (by decide) ?_
        exact Frame.refl _ _
      ·
        refine Frame.next (Frame.onCp ..) (by decide) ?_
        refine Frame.next (Frame.modPort ..) (by decide) ?_
        exact Frame.refl _ _
    · clear_value v2
      refine Frame.next (Frame.event ..) (by decide) ?_
      assumption

theorem Frame.syncBack (s : State) : Frame [.tbs, .recs, .fab, .shr] s (State.syncBack s) := by
  delta State.syncBack
  refine Frame.ite ?_ ?_
  ·
    extract_lets +onlyGivenNames v1
    refine Frame.via v1 ?_ (fun h2 => ?_)
    · unfold v1
      refine Frame.next (Frame.timeRec ..) (by decide) ?_
      exact Frame.refl _ _
    · clear_value v1
      refine Frame.next (Frame.onShr ..) (by decide) ?_
      refine Frame.next (Frame.onFab ..) (by decide) ?_
      refine Frame.next (Frame.onTbs ..) (by decide) ?_
      assumption
  ·
    exact Frame.refl _ _

theorem Frame.safePacketIn (s : State) (src : Nat) (b : List Byte) : Frame [.recs, .saf] s (State.safePacketIn s src b) := by
  delta State.safePacketIn
  refine Frame.foldTrans ?_ ?_
  ·
    exact Frame.refl _ _
  · intro x1 b2
    beta_reduce
    refine Frame.ite ?_ ?_
    ·
      refine Frame.next (Frame.envelopeIn ..) (by decide) ?_
      exact Frame.refl _ _
    ·
      exact Frame.refl _ _

theorem Frame.waitTimeout (s : State) (k : Fin 6) (bulk : Bool) : Frame [.recs, .fab] s (State.waitTimeout s k bulk) := by
  delta State.waitTimeout
  split
  ·
    exact Frame.refl _ _
  ·
    refine Frame.ite ?_ ?_
    ·
      refine Frame.next (Frame.fabDiscard ..) (by decide) ?_
      refine Frame.next (Frame.putWait ..) (by decide) ?_
      exact Frame.refl _ _
    ·
      exact Frame.refl _ _

theorem Frame.skewRec (s : State) (p : Fin 9) (lim : Bool) (time : Nat) : Frame [.recs] s (State.skewRec s p lim time) := by
  delta State.skewRec
  extract_lets +onlyGivenNames v1
  extract_lets +onlyGivenNames v2
  refine Frame.next (Frame.event ..) (by decide) ?_
  exact Frame.refl _ _

theorem Frame.skewPair (s : State) (ta : Nat) (p : Fin 9) : Frame [.tick, .recs] s (State.skewPair s ta p) := by
  delta State.skewPair
  extract_lets +onlyGivenNames v1
  extract_lets +onlyGivenNames v2
  extract_lets +onlyGivenNames v3
  extract_lets +onlyGivenNames v4
  extract_lets +onlyGivenNames v5
  extract_lets +onlyGivenNames v6
  extract_lets +onlyGivenNames v7
  refine Frame.via v7 ?_ (fun h8 => ?_)
  · unfold v7
    refine Frame.next (Frame.onTick ..) (by decide) ?_
    exact Frame.refl _ _
  · clear_value v7
    refine Frame.ite ?_ ?_
    ·
      refine Frame.next (Frame.skewRec ..) (by decide) ?_
      assumption
    ·
      assumption

theorem Frame.skewTick (s : State) (ta : Nat) (sensors : List (Rat × Rat)) : Frame [.tick, .recs] s (State.skewTick s ta sensors) := by
  delta State.skewTick
  extract_lets +onlyGivenNames v1
  refine Frame.via v1 ?_ (fun h2 => ?_)
  · unfold v1
    refine Frame.next (Frame.onTick ..) (by decide) ?_
    exact Frame.refl _ _
  · clear_value v1
    refine Frame.foldTrans ?_ ?_
    ·
      assumption
    · intro x3 b4
      beta_reduce
      refine Frame.next (Frame.skewPair ..) (by decide) ?_
      exact Frame.refl _ _

theorem Frame.skewLimit (s : State) (p : Fin 9) : Frame [.mode, .tick, .recs] s (State.skewLimit s p) := by
  delta State.skewLimit
  refine Frame.ite ?_ ?_
  ·
    refine Frame.next (Frame.skewRec ..) (by decide) ?_
    refine Frame.next (Frame.setStop ..) (by decide) ?_
    refine Frame.next (Frame.onTick ..) (by decide) ?_
    exact Frame.refl _ _
  ·
    exact Frame.refl _ _

theorem Frame.skewFree (s : State) : Frame [.mode, .tick] s (State.skewFree s) := by
  delta State.skewFree
  refine Frame.ite ?_ ?_
  ·
    exact Frame.refl _ _
  ·
    extract_lets +onlyGivenNames v1
    extract_lets +onlyGivenNames v2
    refine Frame.via v2 ?_ (fun h3 => ?_)
    · unfold v2
      refine Frame.next (Frame.onTick ..) (by decide) ?_
      exact Frame.refl _ _
    · clear_value v2
      refine Frame.ite ?_ ?_
      ·
        assumption
      ·
        refine Frame.next (Frame.setStop ..) (by decide) ?_
        refine Frame.next (Frame.onTick ..) (by decide) ?_
        assumption

theorem Frame.lastWrite (s : State) (ta k : Nat) : Frame [.ks] s (State.lastWrite s ta k) := by
  delta State.lastWrite
  refine Frame.next (Frame.ksPair ..) (by decide) ?_
  exact Frame.refl _ _

theorem Frame.dropRec (s : State) (time req bits port : Nat) : Frame [.recs] s (State.dropRec s time req bits port) := by
  delta State.dropRec
  refine Frame.next (Frame.event ..) (by decide) ?_
  exact Frame.refl _ _

theorem Frame.driveTest (s : State) (ta : Nat) : Frame [.mode, .recs] s (State.driveTest s ta) := by
  delta State.driveTest
  split
  ·
    exact Frame.refl _ _
  ·
    refine Frame.ite ?_ ?_
    ·
      exact Frame.refl _ _
    ·
      extract_lets +onlyGivenNames v1
      refine Frame.ite ?_ ?_
      ·
        refine Frame.next (Frame.onMode ..) (by decide) ?_
        exact Frame.refl _ _
      ·
        refine Frame.next (Frame.dropRec ..) (by decide) ?_
        refine Frame.next (Frame.onMode ..) (by decide) ?_
        refine Frame.next (Frame.putBlock ..) (by decide) ?_
        exact Frame.refl _ _

theorem Frame.limpTest (s : State) (time : Nat) : Frame [.mode, .recs] s (State.limpTest s time) := by
  delta State.limpTest
  split
  ·
    refine Frame.ite ?_ ?_
    ·
      exact Frame.refl _ _
    ·
      refine Frame.next (Frame.dropRec ..) (by decide) ?_
      refine Frame.next (Frame.onMode ..) (by decide) ?_
      exact Frame.refl _ _
  ·
    exact Frame.refl _ _

theorem Frame.commitTest (s : State) : Frame [.stg] s (State.commitTest s) := by
  delta State.commitTest
  split
  ·
    refine Frame.ite ?_ ?_
    ·
      exact Frame.refl _ _
    ·
      refine Frame.next (Frame.onStg ..) (by decide) ?_
      exact Frame.refl _ _
  ·
    exact Frame.refl _ _

theorem Frame.commitTake (s : State) : Frame [.stg, .recs, .regs, .snt, .regsOff] s (State.commitTake s) := by
  delta State.commitTake
  split
  ·
    exact Frame.refl _ _
  ·
    extract_lets +onlyGivenNames v1
    split
    ·
      exact Frame.refl _ _
    ·
      refine Frame.next (Frame.commitEnd ..) (by decide) ?_
      refine Frame.next (Frame.onStg ..) (by decide) ?_
      exact Frame.refl _ _
    ·
      extract_lets +onlyGivenNames v2
      extract_lets +onlyGivenNames v3
      refine Frame.via v3 ?_ (fun h4 => ?_)
      · unfold v3
        refine Frame.next (Frame.commitEnd ..) (by decide) ?_
        refine Frame.next (Frame.onStg ..) (by decide) ?_
        refine Frame.next (Frame.onRegs ..) (by decide) ?_
        exact Frame.refl _ _
      · clear_value v3
        refine Frame.foldTrans ?_ ?_
        ·
          assumption
        · intro x5 b6
          beta_reduce
          refine Frame.ite ?_ ?_
          ·
            refine Frame.next (Frame.freqCommit ..) (by decide) ?_
            exact Frame.refl _ _
          ·
            exact Frame.refl _ _

theorem Frame.commandsReset (s : State) : Frame [.regs, .cmd, .aux, .shr] s (State.commandsReset s) := by
  delta State.commandsReset
  extract_lets +onlyGivenNames v1
  refine Frame.via v1 ?_ (fun h2 => ?_)
  · unfold v1
    refine Frame.foldTrans ?_ ?_
    ·
      exact Frame.refl _ _
    · intro x3 b4
      beta_reduce
      refine Frame.next (Frame.resetCommand ..) (by decide) ?_
      exact Frame.refl _ _
  · clear_value v1
    extract_lets +onlyGivenNames v5
    refine Frame.via v5 ?_ (fun h6 => ?_)
    · unfold v5
      refine Frame.foldTrans ?_ ?_
      ·
        assumption
      · intro x7 b8
        beta_reduce
        refine Frame.next (Frame.auxResetCommand ..) (by decide) ?_
        exact Frame.refl _ _
    · clear_value v5
      refine Frame.next (Frame.shareReset ..) (by decide) ?_
      assumption

theorem Frame.enterBrake (s : State) (detail : Nat) : Frame [.mode, .stg, .recs, .regs, .cp, .ax, .cmd, .aux, .shr] s (State.enterBrake s detail) := by
  delta State.enterBrake
  extract_lets +onlyGivenNames v1
  refine Frame.via v1 ?_ (fun h2 => ?_)
  · unfold v1
    refine Frame.next (Frame.commitAbort ..) (by decide) ?_
    refine Frame.next (Frame.changeMode ..) (by decide) ?_
    exact Frame.refl _ _
  · clear_value v1
    extract_lets +onlyGivenNames v3
    refine Frame.via v3 ?_ (fun h4 => ?_)
    · unfold v3
      refine Frame.next (Frame.onMode ..) (by decide) ?_
      assumption
    · clear_value v3
      extract_lets +onlyGivenNames v5
      refine Frame.via v5 ?_ (fun h6 => ?_)
      · unfold v5
        refine Frame.foldTrans ?_ ?_
        ·
          assumption
        · intro x7 b8
          beta_reduce
          refine Frame.ite ?_ ?_
          ·
            refine Frame.next (Frame.modAx ..) (by decide) ?_
            refine Frame.next (Frame.axStop ..) (by decide) ?_
            refine Frame.next (Frame.crashEnd ..) (by decide) ?_
            exact Frame.refl _ _
          ·
            exact Frame.refl _ _
      · clear_value v5
        extract_lets +onlyGivenNames v9
        refine Frame.via v9 ?_ (fun h10 => ?_)
        · unfold v9
          refine Frame.foldTrans ?_ ?_
          ·
            assumption
          · intro x11 b12
            beta_reduce
            refine Frame.ite ?_ ?_
            ·
              refine Frame.next (Frame.modAux ..) (by decide) ?_
              refine Frame.next (Frame.auxStop ..) (by decide) ?_
              exact Frame.refl _ _
            ·
              exact Frame.refl _ _
        · clear_value v9
          refine Frame.next (Frame.commandsReset ..) (by decide) ?_
          assumption

theorem Frame.backToHold (s : State) (cause detail : Nat) : Frame [.mode, .tick, .recs, .regs, .snt, .cp, .ax, .gd, .cmd, .aux, .shr] s (State.backToHold s cause detail) := by
  delta State.backToHold
  extract_lets +onlyGivenNames v1
  refine Frame.via v1 ?_ (fun h2 => ?_)
  · unfold v1
    refine Frame.next (Frame.onTick ..) (by decide) ?_
    refine Frame.next (Frame.setStop ..) (by decide) ?_
    refine Frame.next (Frame.setStop ..) (by decide) ?_
    exact Frame.refl _ _
  · clear_value v1
    extract_lets +onlyGivenNames v3
    refine Frame.via v3 ?_ (fun h4 => ?_)
    · unfold v3
      refine Frame.next (Frame.changeMode ..) (by decide) ?_
      assumption
    · clear_value v3
      extract_lets +onlyGivenNames v5
      refine Frame.via v5 ?_ (fun h6 => ?_)
      · unfold v5
        refine Frame.foldTrans ?_ ?_
        ·
          assumption
        · intro x7 b8
          beta_reduce
          refine Frame.ite ?_ ?_
          ·
            refine Frame.next (Frame.modAx ..) (by decide) ?_
            exact Frame.refl _ _
          ·
            exact Frame.refl _ _
      · clear_value v5
        extract_lets +onlyGivenNames v9
        refine Frame.via v9 ?_ (fun h10 => ?_)
        · unfold v9
          refine Frame.foldTrans ?_ ?_
          ·
            assumption
          · intro x11 b12
            beta_reduce
            refine Frame.ite ?_ ?_
            ·
              refine Frame.next (Frame.auxReady ..) (by decide) ?_
              exact Frame.refl _ _
            ·
              exact Frame.refl _ _
        · clear_value v9
          refine Frame.next (Frame.commandsReset ..) (by decide) ?_
          assumption

theorem Frame.enterLimp (s : State) : Frame [.mode, .recs, .cp] s (State.enterLimp s) := by
  delta State.enterLimp
  refine Frame.next (Frame.changeMode ..) (by decide) ?_
  exact Frame.refl _ _

theorem Frame.requestsLost (s : State) : Frame [.mode, .recs] s (State.requestsLost s) := by
  delta State.requestsLost
  extract_lets +onlyGivenNames v1
  refine Frame.via v1 ?_ (fun h2 => ?_)
  · unfold v1
    refine Frame.ite ?_ ?_
    ·
      exact Frame.refl _ _
    ·
      refine Frame.next (Frame.onMode ..) (by decide) ?_
      exact Frame.refl _ _
  · clear_value v1
    split
    ·
      refine Frame.ite ?_ ?_
      ·
        assumption
      ·
        extract_lets +onlyGivenNames v3
        refine Frame.next (Frame.dropRec ..) (by decide) ?_
        refine Frame.next (Frame.onMode ..) (by decide) ?_
        refine Frame.next (Frame.putBlock ..) (by decide) ?_
        assumption
    ·
      assumption

theorem Frame.tickJudge (s : State) : Frame [.tick] s (State.tickJudge s) := by
  delta State.tickJudge
  refine Frame.ite ?_ ?_
  ·
    exact Frame.refl _ _
  ·
    refine Frame.next (Frame.onTick ..) (by decide) ?_
    exact Frame.refl _ _

theorem Frame.tickNext (s : State) : Frame [.tick] s (State.tickNext s) := by
  delta State.tickNext
  refine Frame.next (Frame.onTick ..) (by decide) ?_
  exact Frame.refl _ _

theorem Frame.handOver (s : State) : Frame [.stg, .recs, .regs, .snt, .sns, .ax, .gd, .cmd, .aux, .shr, .regsOff] s (State.handOver s) := by
  delta State.handOver
  extract_lets +onlyGivenNames v1
  extract_lets +onlyGivenNames v2
  refine Frame.via v2 ?_ (fun h3 => ?_)
  · unfold v2
    refine Frame.ite ?_ ?_
    ·
      refine Frame.next (Frame.commitTake ..) (by decide) ?_
      exact Frame.refl _ _
    ·
      exact Frame.refl _ _
  · clear_value v2
    extract_lets +onlyGivenNames v4
    refine Frame.via v4 ?_ (fun h5 => ?_)
    · unfold v4
      refine Frame.next (Frame.clearTake ..) (by decide) ?_
      assumption
    · clear_value v4
      extract_lets +onlyGivenNames v6
      refine Frame.via v6 ?_ (fun h7 => ?_)
      · unfold v6
        refine Frame.foldTrans ?_ ?_
        ·
          assumption
        · intro x8 b9
          beta_reduce
          refine Frame.next (Frame.shareBoundary ..) (by decide) ?_
          exact Frame.refl _ _
      · clear_value v6
        extract_lets +onlyGivenNames v10
        refine Frame.via v10 ?_ (fun h11 => ?_)
        · unfold v10
          refine Frame.ite ?_ ?_
          ·
            refine Frame.foldTrans ?_ ?_
            ·
              assumption
            · intro x12 b13
              beta_reduce
              refine Frame.ite ?_ ?_
              ·
                refine Frame.next (Frame.axisBoundary ..) (by decide) ?_
                exact Frame.refl _ _
              ·
                exact Frame.refl _ _
          ·
            assumption
        · clear_value v10
          refine Frame.foldTrans ?_ ?_
          ·
            assumption
          · intro x14 b15
            beta_reduce
            refine Frame.ite ?_ ?_
            ·
              refine Frame.next (Frame.auxBoundary ..) (by decide) ?_
              exact Frame.refl _ _
            ·
              exact Frame.refl _ _

theorem Frame.keepTick (s : State) (k : Nat) : Frame [.ks] s (State.keepTick s k) := by
  delta State.keepTick
  extract_lets +onlyGivenNames v1
  refine Frame.foldTrans ?_ ?_
  ·
    refine Frame.next (Frame.lastWrite ..) (by decide) ?_
    exact Frame.refl _ _
  · intro x2 b3
    beta_reduce
    refine Frame.next (Frame.auxKeep ..) (by decide) ?_
    exact Frame.refl _ _

theorem Frame.workEnd (s : State) (inTime : Bool) : Frame [.mode, .tick] s (State.workEnd s inTime) := by
  delta State.workEnd
  extract_lets +onlyGivenNames v1
  extract_lets +onlyGivenNames v2
  extract_lets +onlyGivenNames v3
  refine Frame.via v3 ?_ (fun h4 => ?_)
  · unfold v3
    refine Frame.next (Frame.onTick ..) (by decide) ?_
    exact Frame.refl _ _
  · clear_value v3
    refine Frame.ite ?_ ?_
    ·
      refine Frame.next (Frame.setStop ..) (by decide) ?_
      assumption
    ·
      assumption

theorem Frame.overrunStop (s : State) : Frame [.mode, .tick] s (State.overrunStop s) := by
  delta State.overrunStop
  refine Frame.ite ?_ ?_
  ·
    refine Frame.next (Frame.setStop ..) (by decide) ?_
    refine Frame.next (Frame.onTick ..) (by decide) ?_
    exact Frame.refl _ _
  ·
    exact Frame.refl _ _

theorem Frame.brakeTimeout (s : State) : Frame [.mode, .recs, .regs, .snt, .sns, .ax, .gd, .cmd, .aux] s (State.brakeTimeout s) := by
  delta State.brakeTimeout
  refine Frame.ite ?_ ?_
  ·
    extract_lets +onlyGivenNames v1
    refine Frame.via v1 ?_ (fun h2 => ?_)
    · unfold v1
      refine Frame.next (Frame.onMode ..) (by decide) ?_
      exact Frame.refl _ _
    · clear_value v1
      extract_lets +onlyGivenNames v3
      refine Frame.via v3 ?_ (fun h4 => ?_)
      · unfold v3
        refine Frame.foldTrans ?_ ?_
        ·
          assumption
        · intro x5 b6
          beta_reduce
          refine Frame.ite ?_ ?_
          ·
            refine Frame.next (Frame.axFault ..) (by decide) ?_
            refine Frame.next (Frame.event ..) (by decide) ?_
            exact Frame.refl _ _
          ·
            exact Frame.refl _ _
      · clear_value v3
        refine Frame.foldTrans ?_ ?_
        ·
          assumption
        · intro x7 b8
          beta_reduce
          split
          ·
            exact Frame.refl _ _
          ·
            exact Frame.refl _ _
          ·
            exact Frame.refl _ _
          ·
            refine Frame.next (Frame.auxHalt ..) (by decide) ?_
            refine Frame.next (Frame.event ..) (by decide) ?_
            exact Frame.refl _ _
          ·
            refine Frame.next (Frame.auxHalt ..) (by decide) ?_
            refine Frame.next (Frame.event ..) (by decide) ?_
            exact Frame.refl _ _
          ·
            refine Frame.next (Frame.auxHalt ..) (by decide) ?_
            refine Frame.next (Frame.event ..) (by decide) ?_
            exact Frame.refl _ _
  ·
    exact Frame.refl _ _

end Sys2Proof.Machine
end

