-- ==== Sys2Proof/Laws/Parts.lean ====
section
/-! SUPPORT. One element of a part of the state: what a change of one axis, channel, link, ring or slot leaves of each of them. -/
namespace Sys2Proof.Machine

/-- A vector with one element changed. -/
theorem vset_get {α : Type} {n : Nat} (v : Vector α n) (i j : Fin n) (f : α → α) :
    (vset v i f)[j] = if i = j then f v[j] else v[j] := by
  simp only [vset, Fin.getElem_fin, Vector.getElem_set]
  by_cases h : i = j
  · simp [h]
  · have : i.val ≠ j.val := fun e => h (Fin.ext e)
    simp [h, this]

@[simp] theorem vset_self {α : Type} {n : Nat} (v : Vector α n) (i : Fin n) (f : α → α) : (vset v i f)[i.val] = f v[i.val] := by
  simp [vset]

theorem vset_ne {α : Type} {n : Nat} (v : Vector α n) (i j : Fin n) (f : α → α) (h : i ≠ j) : (vset v i f)[j.val] = v[j.val] := by
  have := vset_get v i j f
  simpa [h] using this

@[simp] theorem mainOf_axis10 (n : Fin 6) : mainOf (axis10 n) = some n := by
  simp [mainOf, axis10]

@[simp] theorem mainOf_aux10 (x : Fin 4) : mainOf (aux10 x) = none := by
  simp [mainOf, aux10]

@[simp] theorem auxOf_aux10 (x : Fin 4) : auxOf (aux10 x) = x := by
  apply Fin.ext; simp [auxOf, aux10, Fin.ofNat]

end Sys2Proof.Machine
end

