-- ==== Sys2Proof/Laws/Axes.lean ====
section
/-! SUPPORT. What the operations on one axis leave of that axis, and of every other axis. -/
namespace Sys2Proof.Machine

theorem mainOf_eq {a : Fin 10} {n : Fin 6} (h : mainOf a = some n) : a = axis10 n := by
  unfold mainOf at h; split at h
  · cases h; rfl
  · cases h

theorem auxOf_eq {a : Fin 10} (h : mainOf a = none) : a = aux10 (auxOf a) := by
  unfold mainOf at h; split at h
  · cases h
  · apply Fin.ext
    have := a.isLt
    simp only [aux10, auxOf, Fin.ofNat]
    omega

theorem State.modAx_self (s : State) (n : Fin 6) (f : AxSt → AxSt) : (s.modAx n f).ax[n] = f s.ax[n] := by
  simp [State.modAx]

theorem State.modAx_other (s : State) (n m : Fin 6) (f : AxSt → AxSt) (h : m ≠ n) : (s.modAx n f).ax[m] = s.ax[m] :=
  vset_ne _ _ _ _ (Ne.symm h)

theorem State.modAux_self (s : State) (n : Fin 4) (f : AuxAx → AuxAx) : (s.modAux n f).aux[n] = f s.aux[n] := by
  simp [State.modAux]

theorem State.modAux_other (s : State) (n m : Fin 4) (f : AuxAx → AuxAx) (h : m ≠ n) : (s.modAux n f).aux[m] = s.aux[m] :=
  vset_ne _ _ _ _ (Ne.symm h)

theorem State.modGd_self (s : State) (n : Fin 10) (f : GdAx → GdAx) : (s.modGd n f).gd.ax[n] = f s.gd.ax[n] := by
  simp [State.modGd]

theorem State.modGd_other (s : State) (n m : Fin 10) (f : GdAx → GdAx) (h : m ≠ n) : (s.modGd n f).gd.ax[m] = s.gd.ax[m] :=
  vset_ne _ _ _ _ (Ne.symm h)

theorem State.modEnc_self (s : State) (n : Fin 6) (f : EncSt → EncSt) : (s.modEnc n f).sns.enc[n] = f s.sns.enc[n] := by
  simp [State.modEnc]

theorem State.modEnc_other (s : State) (n m : Fin 6) (f : EncSt → EncSt) (h : m ≠ n) : (s.modEnc n f).sns.enc[m] = s.sns.enc[m] :=
  vset_ne _ _ _ _ (Ne.symm h)

theorem State.modSns_self (s : State) (n : Fin 6) (f : SnsAx → SnsAx) : (s.modSns n f).sns.ax[n] = f s.sns.ax[n] := by
  simp [State.modSns]

theorem State.modSns_other (s : State) (n m : Fin 6) (f : SnsAx → SnsAx) (h : m ≠ n) : (s.modSns n f).sns.ax[m] = s.sns.ax[m] :=
  vset_ne _ _ _ _ (Ne.symm h)

theorem State.modSdi_self (s : State) (n : Fin 32) (f : SdiSt → SdiSt) : (s.modSdi n f).sns.sdi[n] = f s.sns.sdi[n] := by
  simp [State.modSdi]

theorem State.modSdi_other (s : State) (n m : Fin 32) (f : SdiSt → SdiSt) (h : m ≠ n) : (s.modSdi n f).sns.sdi[m] = s.sns.sdi[m] :=
  vset_ne _ _ _ _ (Ne.symm h)

theorem State.modAin_self (s : State) (n : Fin 32) (f : AinSt → AinSt) : (s.modAin n f).sns.ain[n] = f s.sns.ain[n] := by
  simp [State.modAin]

theorem State.modAin_other (s : State) (n m : Fin 32) (f : AinSt → AinSt) (h : m ≠ n) : (s.modAin n f).sns.ain[m] = s.sns.ain[m] :=
  vset_ne _ _ _ _ (Ne.symm h)

theorem State.modSnt_self (s : State) (n : Fin 10) (f : Sentinel → Sentinel) : (s.modSnt n f).snt[n] = f s.snt[n] := by
  simp [State.modSnt]

theorem State.modSnt_other (s : State) (n m : Fin 10) (f : Sentinel → Sentinel) (h : m ≠ n) : (s.modSnt n f).snt[m] = s.snt[m] :=
  vset_ne _ _ _ _ (Ne.symm h)

theorem State.modCmd_self (s : State) (n : Fin 6) (f : CmdAx → CmdAx) : (s.modCmd n f).cmd.ax[n] = f s.cmd.ax[n] := by
  simp [State.modCmd]

theorem State.modCmd_other (s : State) (n m : Fin 6) (f : CmdAx → CmdAx) (h : m ≠ n) : (s.modCmd n f).cmd.ax[m] = s.cmd.ax[m] :=
  vset_ne _ _ _ _ (Ne.symm h)

/-- An axis that goes down: its state, its bridge, its reason. -/
theorem State.axDown_ax (s : State) (n : Fin 6) (st : AxState) :
    (s.axDown n st).ax[n].state = st ∧ (s.axDown n st).ax[n].bridge = (if s.ax[n].bridge = .soft then .soft else .off) ∧
    (s.axDown n st).ax[n].haltReason = s.ax[n].haltReason ∧ ∀ m, m ≠ n → (s.axDown n st).ax[m] = s.ax[m] := by
  have e : ((s.crashEnd n).epuStop (axis10 n)).ax = s.ax := ((Frame.epuStop ..).keep .ax (by decide)).trans ((Frame.crashEnd ..).keep .ax (by decide))
  unfold State.axDown
  refine ⟨by rw [State.modAx_self], by rw [State.modAx_self, e], by rw [State.modAx_self, e], fun m h => ?_⟩
  rw [State.modAx_other _ _ _ _ h, e]

/-- HALT with the bridge off: state, reason, and the other axes. -/
theorem State.axHaltOff_ax (s : State) (n : Fin 6) (r : Nat) :
    (s.axHaltOff n r).ax[n].state = .halt ∧ (s.axHaltOff n r).ax[n].haltReason = r ∧
    (s.axHaltOff n r).ax[n].bridge = (if s.ax[n].bridge = .soft then .soft else .off) ∧
    ∀ m, m ≠ n → (s.axHaltOff n r).ax[m] = s.ax[m] := by
  have h := State.axDown_ax s n .halt
  unfold State.axHaltOff
  have e (x : State) : (x.resetCommand n).ax = x.ax := (Frame.resetCommand x n).keep .ax (by decide)
  have g (x : State) (f) : (x.modGd (axis10 n) f).ax = x.ax := rfl
  rw [show (State.resetCommand _ n).ax = _ from e _, g]
  refine ⟨by rw [State.modAx_self]; exact h.1, by rw [State.modAx_self], by rw [State.modAx_self]; exact h.2.1, fun m hm => ?_⟩
  rw [State.modAx_other _ _ _ _ hm, h.2.2.2 m hm]

/-- ASC: the axis waits for its dead time on the side named; the other axes are as they were. -/
theorem State.ascEnter_ax (s : State) (n : Fin 6) (c : Nat) (high follow : Bool) (t : Nat) (coast : Option (Nat × Rat)) :
    (s.ascEnter n c high follow t coast).ax[n].state = .asc ∧ (s.ascEnter n c high follow t coast).ax[n].bridge = .ascWait ∧
    (s.ascEnter n c high follow t coast).ax[n].ascSt.cause = c ∧ (s.ascEnter n c high follow t coast).ax[n].ascSt.high = high ∧
    (s.ascEnter n c high follow t coast).ax[n].ascSt.follow = follow ∧ (s.ascEnter n c high follow t coast).ax[n].haltReason = s.ax[n].haltReason ∧
    (s.ascEnter n c high follow t coast).ax[n].ascSt.onAt = (if follow then t else t + s.deadNs n) ∧
    (s.ascEnter n c high follow t coast).ax[n].ascSt.from' = s.ax[n].state ∧
    ∀ m, m ≠ n → (s.ascEnter n c high follow t coast).ax[m] = s.ax[m] := by
  unfold State.ascEnter
  extract_lets b pk fr s0 s1
  have F : Frame [.snt, .sns, .gd] s s1 := by
    refine Frame.next (Frame.modGd ..) (by decide) ?_
    unfold s0; split
    · exact Frame.refl _ _
    · exact Frame.next (Frame.epuFresh ..) (by decide) (Frame.refl _ _)
  have e : (s1.crashEnd n).ax = s.ax := ((Frame.crashEnd ..).keep .ax (by decide)).trans (F.keep .ax (by decide))
  have d : s1.deadNs n = s.deadNs n := by unfold State.deadNs; rw [show s1.regs = s.regs from F.keep .regs (by decide)]
  clear_value s1
  refine ⟨?_, ?_, ?_, ?_, ?_, ?_, ?_, ?_, fun m h => ?_⟩
  all_goals first | rw [State.modAx_self] | rw [State.modAx_other _ _ _ _ h]
  all_goals rw [e]
  rw [← d]

/-- CATCH: the attempt, the instant; the other axes are as they were. -/
theorem State.catchEnter_ax (s : State) (n : Fin 6) (k : Nat) (b : Bool) (co : Option Nat) (st : Option StopKind) :
    (s.catchEnter n k b co st).ax[n].state = .catching ∧ (s.catchEnter n k b co st).ax[n].bridge = .off ∧
    (s.catchEnter n k b co st).ax[n].startWait = none ∧ (s.catchEnter n k b co st).ax[n].haltReason = 0 ∧
    (s.catchEnter n k b co st).ax[n].cat = { since := s.tb, attempt := k, blind := b, coast := co, stop := st } ∧
    ∀ m, m ≠ n → (s.catchEnter n k b co st).ax[m] = s.ax[m] := by
  unfold State.catchEnter
  extract_lets s1 s2 s3
  have F1 : Frame [.sns, .snt] s s1 := Frame.ite (Frame.refl _ _) (Frame.next (Frame.epuFresh ..) (by decide) (Frame.refl _ _))
  have F : Frame [.sns, .snt] s s3 := by
    refine Frame.foldTrans (Frame.next (Frame.modSns ..) (by decide) F1) (fun x b => ?_)
    split
    · exact Frame.next (Frame.modSdi ..) (by decide) (Frame.refl _ _)
    · exact Frame.refl _ _
  have e : s3.ax = s.ax := F.keep .ax (by decide)
  have c : s3.tb = s.tb := by unfold State.tb; rw [show s3.clk = s.clk from F.keep .clk (by decide)]
  clear_value s3
  refine ⟨?_, ?_, ?_, ?_, ?_, fun m h => ?_⟩
  all_goals first | rw [State.modAx_self] | rw [State.modAx_other _ _ _ _ h]
  · simp only [c]
  · rw [e]

/-- HALT of an auxiliary axis: state, reason, and the other axes. -/
theorem State.auxHalt_aux (s : State) (x : Fin 4) (r : Nat) : (s.auxHalt x r).aux[x].state = .halt ∧ (s.auxHalt x r).aux[x].haltReason = r ∧
    ∀ y : Fin 4, y ≠ x → (s.auxHalt x r).aux[y] = s.aux[y] := by
  have e : (s.epuStop (aux10 x)).aux = s.aux := (Frame.epuStop ..).keep .aux (by decide)
  refine ⟨?_, ?_, fun y hy => ?_⟩
  · simp [State.auxHalt, State.auxResetCommand, State.modAux, State.auxDown, State.modGd]
  · simp [State.auxHalt, State.auxResetCommand, State.modAux, State.auxDown, State.modGd]
  · unfold State.auxHalt State.auxResetCommand
    rw [State.modAux_other _ _ _ _ hy]
    show (State.modAux _ x _).aux[y] = _
    rw [State.modAux_other _ _ _ _ hy]
    unfold State.auxDown
    rw [State.modAux_other _ _ _ _ hy, e]

/-- Values that only some parts of the state decide. -/
theorem State.nAsc_congr {s t : State} (h : t.regs = s.regs) (k : t.sns = s.sns) (n : Fin 6) : t.nAsc n = s.nAsc n := by
  simp only [State.nAsc, State.vdcAin, h, k]; rfl
theorem State.reaction_congr {s t : State} (h : t.regs = s.regs) (n : Fin 6) (c : FltClass) : t.reaction n c = s.reaction n c := by
  cases c <;> simp only [State.reaction, h]
theorem State.ascBarred_congr {s t : State} (h : t.gd = s.gd) (k : t.mode = s.mode) (j : t.ax = s.ax) (n : Fin 6) :
    t.ascBarred n = s.ascBarred n := by
  simp only [State.ascBarred, h, k, j]
theorem State.deadNs_congr {s t : State} (h : t.regs = s.regs) (n : Fin 6) : t.deadNs n = s.deadNs n := by
  simp only [State.deadNs, h]
theorem State.tb_congr {s t : State} (h : t.clk = s.clk) : t.tb = s.tb := by
  simp only [State.tb, h]
theorem State.running_congr {s t : State} (h : t.pwr = s.pwr) (k : t.mode = s.mode) : t.running = s.running := by
  simp only [State.running, h, k]
theorem State.degr_congr {s t : State} (h : t.snt = s.snt) (k : t.sns = s.sns) (m : t.tbs = s.tbs) : t.degr = s.degr := by
  unfold State.degr; congr 1; funext b; unfold State.degrBit; rw [h, k, m]

/-- HALT of an axis of the pool. -/
theorem State.halt10_main (s : State) (n : Fin 6) (r : Nat) : s.halt10 (axis10 n) r = s.axHaltOff n r := by simp [State.halt10]
theorem State.halt10_aux (s : State) (x : Fin 4) (r : Nat) : s.halt10 (aux10 x) r = s.auxHalt x r := by simp [State.halt10]

/-- A fault whose reaction is coast, below n_ASC. -/
theorem State.axFault_coast (s : State) (n : Fin 6) (r : Nat) (cls : FltClass) (hx : s.ax[n].state ≠ .halt) (hr : s.reaction n cls = 0)
    (hv : absR s.ax[n].eng.speed < s.nAsc n) : s.axFault n r cls = s.axHaltOff n r := by
  have hv' : ¬ s.nAsc n ≤ absR s.ax[n.val].eng.speed := Rat.not_le.mpr hv
  have hx' : s.ax[n.val].state ≠ .halt := hx
  simp only [State.axFault, hr]
  simp [hx', hv']

/-- A fault whose reaction is ASC, where nothing bars it and the axis is in no ASC yet. -/
theorem State.axFault_asc (s : State) (n : Fin 6) (r : Nat) (cls : FltClass) (hx : s.ax[n].state ≠ .halt) (ha : s.ax[n].state ≠ .asc)
    (hr : s.reaction n cls = 1) (hc : cls ≠ .none) (hb : s.ascBarred n = false) :
    s.axFault n r cls =
      ((s.ascEnter n 2 (s.ascSide n) false s.tb none).modAx n (fun x => { x with haltReason := r })).resetCommand n := by
  have hx' : s.ax[n.val].state ≠ .halt := hx
  have ha' : s.ax[n.val].state ≠ .asc := ha
  simp only [State.axFault, hr]
  simp [hx', ha', hc, hb]

/-- What a fault of an axis does to the others: nothing. -/
theorem State.axStop_other (s : State) (n m : Fin 6) (k : StopKind) (h : m ≠ n) : (s.axStop n k).ax[m] = s.ax[m] := by
  unfold State.axStop
  extract_lets x i e keep c s1 s2
  have a1 : s1.ax = s.ax := by unfold s1; split <;> rfl
  have a2 : s2.ax = s.ax := by unfold s2; split <;> exact a1
  clear_value s2
  split
  · exact State.modAx_other _ _ _ _ h
  · split
    · rfl
    · rw [State.modAx_other _ _ _ _ h, a2]

/-- STOP of an axis in RUN or in STOP for a fault. -/
theorem State.axStop_fault (s : State) (n : Fin 6) (r : Nat) (l : Bool) (h : s.ax[n].state = .run ∨ s.ax[n].state = .stop) :
    (s.axStop n (.fault r l)).ax[n].state = .stop ∧ (s.axStop n (.fault r l)).ax[n].stopKind = .fault r l ∧
    (s.axStop n (.fault r l)).ax[n].haltReason = r := by
  unfold State.axStop
  extract_lets x i e keep c s1 s2
  have hk : keep = .fault r l := by unfold keep; cases i <;> rfl
  clear_value s2
  rw [if_neg (by rintro ⟨h1, _⟩; rcases h with h | h <;> (rw [show x.state = _ from h] at h1; cases h1))]
  rw [if_neg (by rcases h with h | h <;> (simp only [i, e]; rw [show x.state = _ from h]; simp))]
  rw [State.modAx_self, hk]
  exact ⟨rfl, rfl, rfl⟩

/-- STOP for a fault keeps the reason, in CATCH too. -/
theorem State.axStop_reason (s : State) (n : Fin 6) (r : Nat) (l : Bool) (h : s.ax[n].state.watched = true) (h' : s.ax[n].state ≠ .asc) :
    (s.axStop n (.fault r l)).ax[n].haltReason = r := by
  by_cases hr : s.ax[n].state = .run ∨ s.ax[n].state = .stop
  · exact (State.axStop_fault s n r l hr).2.2
  · have hc : s.ax[n].state = .catching := by
      cases e : s.ax[n].state <;> simp_all [AxState.watched]
    unfold State.axStop
    extract_lets x i e keep c s1 s2
    clear_value s2
    split
    · rw [State.modAx_self]
    · rename_i hd
      rw [if_neg (by
        have : x.cat.decided = true := by
          by_cases hx : x.cat.decided = true
          · exact hx
          · exact absurd ⟨hc, by simpa using hx, by simp⟩ hd
        simp only [i, e]; rw [show x.state = _ from hc, this]; decide)]
      rw [State.modAx_self]

/-- What a fault of an axis leaves. -/
theorem State.axFault_faulted (s w : State) (n : Fin 6) (r : Nat) (cls : FltClass) (hx : w.ax = s.ax) (hr : w.regs = s.regs)
    (hn : w.nAsc n = s.nAsc n) (hg : w.gd = s.gd) (hm : w.mode = s.mode) (h : s.ax[n].state ≠ .halt) :
    Faulted s (w.axFault n r cls) n r cls := by
  have e1 : w.reaction n cls = s.reaction n cls := State.reaction_congr hr n cls
  have e2 : w.ascBarred n = s.ascBarred n := State.ascBarred_congr hg hm hx n
  have e3 : w.ascSide n = s.ascSide n := by simp only [State.ascSide, hr]
  have ec (x : State) : (x.resetCommand n).ax = x.ax := (Frame.resetCommand x n).keep .ax (by decide)
  have q := State.axHaltOff_ax w n r
  have sw := State.axStop_other w n
  have sr := State.axStop_reason w n r false
  have sf := State.axStop_fault w n r false
  have mo (u : State) (m : Fin 6) (f) (hm : m ≠ n) := State.modAx_other u n m f hm
  simp only [hx] at q sw sf sr
  have H : (s.reaction n cls = 1 → cls ≠ .none → s.ascBarred n = false → False) →
      (s.reaction n cls = 2 → s.ax[n].state = .run ∨ s.ax[n].state = .stop → False) → Faulted s (w.axHaltOff n r) n r cls := fun h1 h2 =>
    ⟨q.2.1, fun _ _ => q.1, fun a b c => (h1 a b c).elim, fun _ _ => q.1, fun a b => (h2 a b).elim, q.2.2.2⟩
  unfold State.axFault
  extract_lets code x on s1
  have hxx : x = s.ax[n] := by unfold x; simp only [hx]
  clear_value x
  subst hxx
  have hc : code = s.reaction n cls := e1
  clear_value code
  rw [if_neg h, e2, hn, hc]
  have lt : absR s.ax[n].eng.speed < s.nAsc n → ¬ s.nAsc n ≤ absR s.ax[n].eng.speed := fun k => Rat.not_le.mpr k
  split
  · rename_i k
    exact ⟨sr k.2.1 k.2.2, fun a => absurd (a ▸ k.1) (by decide), fun a => absurd (a ▸ k.1) (by decide), fun a => absurd k.1 a,
      fun _ b => ⟨(sf b).1, (sf b).2.1⟩, sw (k := .fault r false)⟩
  · rename_i k
    have n2 : s.reaction n cls = 2 → s.ax[n].state = .run ∨ s.ax[n].state = .stop → False := fun a b =>
      k ⟨a, by rcases b with b | b <;> rw [b] <;> decide, by rcases b with b | b <;> rw [b] <;> decide⟩
    split
    · rename_i k'
      exact H (fun a b c => by rcases k' with k' | k'; exact b k'; rw [c] at k'; cases k') n2
    · rename_i k'
      have nb : s.ascBarred n = true → False := fun a => k' (Or.inr a)
      split
      · rename_i ka
        split
        · rename_i kb
          have ev (p : Prop) [Decidable p] (a b c d e) : (if p then s1 else s1.event a b c d e).ax = s1.ax := by
            split
            · rfl
            · exact (Frame.event ..).keep .ax (by decide)
          refine ⟨?_, ?_, ?_, fun _ a => (nb a).elim, fun a b => (n2 a b).elim, ?_⟩
          · rw [ev]; unfold s1; simp only [ec, State.modAx_self]
          · intro a b
            rcases kb with kb | kb
            · exact absurd a kb
            · exact absurd kb (lt b)
          · intro _ _ _
            rw [ev]; unfold s1
            simp only [ec, State.modAx_self, hx]
            exact ⟨ka, trivial, fun b => absurd ka b⟩
          · intro m hm; rw [ev]; unfold s1; simp only [ec, mo _ _ _ hm, hx]
        · rename_i kb
          exact H (fun a _ _ => kb (Or.inl (by rw [a]; decide))) n2
      · rename_i ka
        split
        · rename_i kb
          have e := State.ascEnter_ax w n 2 (w.ascSide n) false w.tb none
          simp only [hx] at e
          refine ⟨?_, ?_, ?_, fun _ a => (nb a).elim, fun a b => (n2 a b).elim, ?_⟩
          · simp only [ec, State.modAx_self]
          · intro a; rw [a] at kb; cases kb
          · intro _ _ _
            simp only [ec, State.modAx_self, ← e3]
            exact ⟨e.1, e.2.2.1, fun _ => ⟨e.2.1, e.2.2.2.1⟩⟩
          · intro m hm; simp only [ec, mo _ _ _ hm, e.2.2.2.2.2.2.2.2 m hm]
        · rename_i kb
          split
          · rename_i kc
            have e := State.ascEnter_ax w n 2 (w.ascSide n) false w.tb (some (1, s.ax[n].eng.speed))
            simp only [hx] at e
            refine ⟨?_, fun _ b => absurd kc (lt b), fun a => absurd a kb, fun _ a => (nb a).elim, fun a b => (n2 a b).elim, ?_⟩
            · simp only [ec, State.modAx_self]
            · intro m hm; simp only [ec, mo _ _ _ hm, e.2.2.2.2.2.2.2.2 m hm]
          · exact H (fun a _ _ => kb a) n2

end Sys2Proof.Machine
end

