-- ==== Sys2Proof/Laws/Entry.lean ====
section
/-! SUPPORT. A request entry that a holder sends: its effect with the answer beside it, or its refusal with the record of the violation. -/
namespace Sys2Proof.Machine

theorem writes_split {s : State} {o : Origin} (h : s.writes o = true) : s.serves o = true ∧ s.pairOf o = none := by
  simp only [State.writes, Bool.and_eq_true, Option.isNone_iff_eq_none] at h; exact h

theorem serves_phase {s : State} {o : Origin} (h : s.serves o = true) : s.pwr.phase = .running := by
  simp only [State.serves, State.running, Bool.and_eq_true, beq_iff_eq] at h; exact h.1.1.1.1.1

theorem serves_run {s : State} {o : Origin} (h : s.serves o = true) : s.running = true := by
  simp only [State.serves, Bool.and_eq_true] at h; exact h.1.1.1.1

theorem run_phase {s : State} (h : s.running = true) : s.pwr.phase = .running := by
  simp only [State.running, Bool.and_eq_true, beq_iff_eq] at h; exact h.1

theorem may_of_holds {m : Bool} {s : State} {o : Origin} (h : s.holds o = true) : s.may m o = true := by simp [State.may, h]

theorem needRights_may (m : Bool) (s : State) (o : Origin) (op : Nat) (k : State → Res) (h : s.may m o = true) :
    needRights m (s.ctx o op) s k = k s := by
  unfold needRights State.may at *
  rw [if_pos]; exact h

theorem needRights_may' (m : Bool) (c : Ctx) (s : State) (k : State → Res) (h : s.may m c.o = true) :
    needRights m c s k = k s := by
  unfold needRights State.may at *
  rw [if_pos]; exact h

/-- A write that is served and acknowledged. -/
theorem write_ack (s : State) (dt : Nat) (o : Origin) (addr : Option Nat) (f : Ctx → State → Res) (ws : List Word) (u : State)
    (hw : s.writes o = true) (hf : f ((s.advance dt).ctx o 2) (s.advance dt) = (u, { status := 0 })) :
    (s.advance dt).entry o 2 addr f (ws := ws) = { u with cp := u.cpAfter o 2 { status := 0 } } := by
  have h := writes_split hw
  exact State.entry_ack (s.advance dt) o 2 addr f 1 false ws [] false 0 u { status := 0 } h.1 (Or.inr (Or.inr h.2)) hf rfl

/-- A violation leaves the answers, the token, and one record. -/
theorem viol_refused (s u : State) (dt : Nat) (o : Origin) (op st detail : Nat) (addr : Option Nat) (hr : u.pwr.phase = .running)
    (hg : u.regs = s.regs) (ho : u.recs = s.recs) (ha : u.cp.answers = s.cp.answers) (hk : u.cp.token = s.cp.token) (hv : isViolation st = true) :
    Refused s (((u.settleReply ((s.advance dt).ctx o op) addr { status := st, detail := detail }).onCp
      (fun x => { x with answers := x.answers ++ [⟨o, op, { status := st, detail := detail }⟩] })).settle) dt o op st detail := by
  have e : u.settleReply ((s.advance dt).ctx o op) addr { status := st, detail := detail } = u.violation ((s.advance dt).ctx o op) addr st detail := by
    simp only [State.settleReply, hv, if_true]
  rw [e]
  have h1 (f) : (u.onCp f).pwr = u.pwr := rfl
  refine ⟨?_, ?_, ?_⟩
  · simp [State.violation, ha]
  · simp [State.violation, hk]
  · unfold State.violation
    extract_lets counts w
    have W := Wrote.emit s w ((((u.onCp fun x =>
      let keep := x.viols.filter (fun v => decide (((s.advance dt).ctx o op).stamp < v.2 + 1000000000))
      { x with
        viols := if counts then keep ++ [(((s.advance dt).ctx o op).o, ((s.advance dt).ctx o op).stamp)] else keep
        ports := if ((s.advance dt).ctx o op).o.dev.isNone then
            vset x.ports (clsPort ((s.advance dt).ctx o op).o.cls) (fun p => { p with
              viol := satInc 16 p.viol
              malf := if st = St.malformed then satInc 16 p.malf else p.malf })
          else x.ports }).emit ((s.advance dt).ctx o op).stamp ((s.advance dt).ctx o op).unit 7 0 (leBytes 1 st ++ leBytes 1 ((s.advance dt).ctx o op).op ++ (leBytes 2 ((s.advance dt).ctx o op).tag ++ leBytes 2 ((s.advance dt).ctx o op).seq ++ leBytes 1 (clsCode ((s.advance dt).ctx o op).o.cls)
      ++ leBytes 1 (w.originDev ((s.advance dt).ctx o op).o) ++ leBytes 4 (addr.getD 0xFFFFFFFF) ++ leBytes 2 detail
      ++ leBytes 2 (w.violsWithin ((s.advance dt).ctx o op).o ((s.advance dt).ctx o op).stamp)))))) [] (Wrote.none _ _ (by unfold w; simp [ho])) (by unfold w; simpa using hr) (by unfold w; simp [hg]) _ _ _ _ _ rfl
    refine ⟨(leBytes 2 ((s.advance dt).ctx o op).tag ++ leBytes 2 ((s.advance dt).ctx o op).seq ++ leBytes 1 (clsCode ((s.advance dt).ctx o op).o.cls)
      ++ leBytes 1 (w.originDev ((s.advance dt).ctx o op).o) ++ leBytes 4 (addr.getD 0xFFFFFFFF) ++ leBytes 2 detail
      ++ leBytes 2 (w.violsWithin ((s.advance dt).ctx o op).o ((s.advance dt).ctx o op).stamp)), ?_⟩
    unfold Wrote at W ⊢
    simp only [State.settle_recs, State.onCp_recs]
    simp only [List.append_assoc] at W ⊢
    exact W

theorem entry_refused (s : State) (dt : Nat) (o : Origin) (op : Nat) (addr : Option Nat) (f : Ctx → State → Res) (n : Nat) (raw : Bool)
    (ws : List Word) (args : List Byte) (maint : Bool) (u : State) (st detail : Nat) (h : s.serves o = true) (hp : op ≠ 2 ∨ raw = true ∨ s.pairOf o = none) (hf : f ((s.advance dt).ctx o op) (s.advance dt) = (u, { status := st, detail := detail }))
    (hv : isViolation st = true)
    (hu : u.pwr.phase = .running) (hg : u.regs = s.regs) (ho : u.recs = s.recs) (ha : u.cp = s.cp) :
    Frame [.recs, .cp] u ((s.advance dt).entry o op addr f n raw ws args maint) ∧
      Refused s ((s.advance dt).entry o op addr f n raw ws args maint).settle dt o op st detail := by
  have hn : st ≠ 0 := by intro h0; subst h0; simp [isViolation] at hv
  rw [State.entry_nak (s.advance dt) o op addr f n raw ws args maint 0 u { status := st, detail := detail } h hp hf hn]
  refine ⟨?_, viol_refused s u dt o op st detail _ hu hg ho (by rw [ha]) (by rw [ha]) hv⟩
  exact Frame.next (Frame.onCp _ _) (by decide) (Frame.next (Frame.settleReply ..) (by decide) (Frame.refl _ _))

theorem cpAfter_congr {u v : State} (o : Origin) (op : Nat) (r : Reply) (h : u.cp = v.cp) (k : u.clk = v.clk) : u.cpAfter o op r = v.cpAfter o op r := by
  simp only [State.cpAfter, h, k]

theorem cpWrote_congr {u v : State} (o : Origin) (h : u.cp = v.cp) (k : u.clk = v.clk) : u.cpWrote o = v.cpWrote o := cpAfter_congr o 2 _ h k

theorem cpWrote_frame {K : List StPart} {u v : State} (o : Origin) (F : Frame K v u) (h : .cp ∉ K) (k : .clk ∉ K) : u.cpWrote o = v.cpWrote o :=
  cpWrote_congr o (F.keep .cp h) (F.keep .clk k)

/-- A write whose effect is `u`: the parts of `u` and the control ports. -/
theorem write_done (s : State) (dt : Nat) (o : Origin) (addr : Option Nat) (f : Ctx → State → Res) (ws : List Word) (u : State) (hw : s.writes o = true)
    (hf : f ((s.advance dt).ctx o 2) (s.advance dt) = (u, { status := 0 })) (hc : u.cp = (s.advance dt).cp) (hk : u.clk = (s.advance dt).clk) :
    (s.advance dt).entry o 2 addr f (ws := ws) = { u with cp := (s.advance dt).cpWrote o } := by
  rw [write_ack s dt o addr f ws u hw hf]
  congr 1
  exact cpAfter_congr o 2 _ hc hk

theorem settleReply_answers (u : State) (c : Ctx) (a : Option Nat) (r : Reply) : (u.settleReply c a r).cp.answers = u.cp.answers := by
  unfold State.settleReply; split
  · simp [State.violation]
  · rfl

end Sys2Proof.Machine
end

