-- ==== Sys2Proof/Machine/Balls.lean ====
section
/-! DEFINITION. The package (chapter 21): the grid, the positions without a ball, and where every signal and supply lies (R524 to R526, R528).
Nothing here belongs to the state. -/
namespace Sys2Proof.Machine

/-- A position of the grid: row index and column, each from 1 to 41. -/
abbrev Ball : Type := Nat × Nat

/-- The letters of rows 1 to 41 (R524). -/
def rowLetters : List String :=
  ["A", "B", "C", "D", "E", "F", "G", "H", "J", "K", "L", "M", "N", "P", "T", "U", "V", "W", "Y", "AA"] ++
  ["AB", "AC", "AD", "AE", "AF", "AG", "AH", "AJ", "AK", "AL", "AM", "AN", "AP", "AT", "AU", "AV", "AW", "AY", "BA", "BB", "BC"]

/-- The name of a ball: row and column (R524). -/
def ballName (b : Ball) : String := rowLetters.getD (b.1 - 1) "" ++ toString b.2

/-- The positions of a rectangle. -/
def ballRect (r0 r1 c0 c1 : Nat) : List Ball :=
  (List.range (r1 + 1 - r0)).flatMap (fun i => (List.range (c1 + 1 - c0)).map (fun j => (r0 + i, c0 + j)))

def inBallRect (b : Ball) (r0 r1 c0 c1 : Nat) : Bool := Nat.ble r0 b.1 && Nat.ble b.1 r1 && Nat.ble c0 b.2 && Nat.ble b.2 c1

/-- A set of positions as a number: one bit for each. -/
def ballBit (b : Ball) : Nat := 42 * b.1 + b.2
def ballMask (l : List Ball) : Nat := l.foldl (fun m b => m ||| 2 ^ ballBit b) 0

/-- The positions that carry no ball (Table 2): the keep-out bands of the four fields, the corners and the centre. -/
def noBall (b : Ball) : Bool :=
  inBallRect b 11 12 1 12 || inBallRect b 1 10 11 12 || inBallRect b 11 12 30 41 || inBallRect b 1 10 30 31 ||
  inBallRect b 30 31 30 41 || inBallRect b 32 41 30 31 || inBallRect b 30 31 1 12 || inBallRect b 32 41 11 12 ||
  (ballMask [(1, 1), (1, 2), (2, 1), (1, 40), (1, 41), (2, 41), (40, 41), (41, 40), (41, 41), (40, 1), (41, 1), (41, 2)]).testBit (ballBit b) ||
  inBallRect b 17 25 17 25

/-- The positions that carry one. -/
def balls : List Ball := (ballRect 1 41 1 41).filter (fun b => !noBall b)

/-- The regions of the bridge fields F0 to F3 (R525). -/
def inField (f : Fin 4) (b : Ball) : Bool :=
  match f with
  | 0 => inBallRect b 1 10 1 10
  | 1 => inBallRect b 1 10 32 41
  | 2 => inBallRect b 32 41 32 41
  | 3 => inBallRect b 32 41 1 10

/-- The five signals of a half-bridge. -/
inductive HbSignal where
  | vds | bst | ho | sw | lo
  deriving DecidableEq, Repr

def HbSignal.index : HbSignal → Nat
  | .vds => 0
  | .bst => 1
  | .ho => 2
  | .sw => 3
  | .lo => 4

/-- The field of a half-bridge, and the ball of one of its signals (R526, Table 3). -/
def hbField (h : Fin 24) : Fin 4 := Fin.ofNat 4 (h.val / 6)
def hbBall (h : Fin 24) (x : HbSignal) : Ball :=
  let j := h.val % 6
  (if (hbField h).val < 2 then 3 + x.index else 39 - x.index, if h.val / 6 = 0 ∨ h.val / 6 = 3 then 3 + j else 39 - j)

/-- The balls of the links, the control ports, the memories, the maintenance port, the test port and CAN, in the order of Table 4. -/
def linkBalls (k : Fin 6) : List Ball := (List.range 4).flatMap (fun i => [(1 + i, 13 + 2 * k.val), (1 + i, 14 + 2 * k.val)])
def portBalls (p : Fin 2) : List Ball := (List.range 4).flatMap (fun i => [(1 + i, 25 + 2 * p.val), (1 + i, 26 + 2 * p.val)])
def nfBalls : List Ball := ballRect 41 41 13 29 ++ [(40, 13)]
def cfgBalls : List Ball := ballRect 40 40 14 19
def mntBalls : List Ball := ballRect 40 40 20 21
def tapBalls : List Ball := ballRect 40 40 22 26
def canBalls : List Ball := ballRect 39 39 13 16

/-- The sensing balls (Table 5). -/
def mclkBall (m : Fin 4) : Ball := (13, 1 + m.val)
def sdiBall (c : Fin 32) : Ball := (14 + c.val % 8, 1 + c.val / 8)
def ainBall (c : Fin 32) : Ball := (13 + c.val % 8, 5 + c.val / 8)
def dcsBall (n : Fin 6) : Ball := (13 + n.val, 9)
def encBalls (e : Fin 6) : List Ball := [(23, 1 + e.val), (24, 1 + e.val), (25, 1 + e.val)]

/-- The safe inputs and outputs, control and GPIO (Table 6): SIA and SIB, TPO, SO, EDM; SRST, STOA, STOB; REFCLK, the straps, MAINT_EN,
CFGSEL, FREEZE_N, FROZEN, RESET_N. -/
def siBalls (k : Fin 8) : List Ball := [(13 + k.val, 41), (13 + k.val, 40)]
def tpoBall (k : Fin 2) : Ball := (21 + k.val, 41)
def soBall (k : Fin 4) : Ball := (23 + k.val, 41)
def edmBall (k : Fin 4) : Ball := (21 + k.val, 40)
def demandBalls : List Ball := ballRect 25 27 40 40
def controlBalls : List Ball := ballRect 13 20 37 37
def gpioBall (g : Fin 16) : Ball := (13 + g.val % 8, 35 + g.val / 8)

/-- Every signal ball. -/
def signalBalls : List Ball :=
  (List.finRange 24).flatMap (fun h => [hbBall h .vds, hbBall h .bst, hbBall h .ho, hbBall h .sw, hbBall h .lo]) ++
  (List.finRange 6).flatMap linkBalls ++ (List.finRange 2).flatMap portBalls ++ nfBalls ++ cfgBalls ++ mntBalls ++ tapBalls ++ canBalls ++
  (List.finRange 4).map mclkBall ++ (List.finRange 32).map sdiBall ++ (List.finRange 32).map ainBall ++ (List.finRange 6).map dcsBall ++
  (List.finRange 6).flatMap encBalls ++ (List.finRange 8).flatMap siBalls ++ (List.finRange 2).map tpoBall ++ (List.finRange 4).map soBall ++
  (List.finRange 4).map edmBall ++ demandBalls ++ controlBalls ++ (List.finRange 16).map gpioBall

/-- The supplies (Table 7). -/
inductive SupplyNet where
  | vcore | vcoreS | vio18 | vio33 | vdrv | v24s | gnd
  deriving DecidableEq, Repr

/-- The supply that lies on a ball; `none` for a signal and for a position without a ball (R528). -/
def supplyAt (b : Ball) : Option SupplyNet :=
  if noBall b || !inBallRect b 1 41 1 41 || (ballMask signalBalls).testBit (ballBit b) then none
  else if inBallRect b 26 26 18 25 then some .vcoreS
  else if inBallRect b 13 29 13 29 && Nat.beq ((b.1 + b.2) % 2) 0 then some .vcore
  else if inBallRect b 5 5 13 28 then some .vio18
  else if inBallRect b 38 38 13 28 || inBallRect b 13 20 10 10 then some .vio33
  else if inBallRect b 32 32 13 28 || inBallRect b 8 8 3 10 || inBallRect b 8 8 32 39 || inBallRect b 34 34 32 39 || inBallRect b 34 34 3 10 then
    some .vdrv
  else if inBallRect b 13 22 39 39 then some .v24s
  else some .gnd

/-- The balls of a supply. -/
def supplyBalls (n : SupplyNet) : List Ball := balls.filter (fun b => supplyAt b == some n)

end Sys2Proof.Machine
end

