-- ==== Sys2Proof/Tests/Slice0.lean ====
section
/-! SUPPORT. The model's own tests: the well-formedness checks, and for every statement that has hypotheses a witness: a concrete state and operands
for each of its clauses that meet the hypotheses of that clause together, at a boundary value where a clause has a range. The states are the state of
reset with the few parts named changed. -/
set_option Elab.async false

namespace Sys2Proof.Tests
open Sys2Proof Sys2Proof.Machine

/-! ## Well-formedness: each check refuses an ill-formed command -/

/-- A header of 3 bytes is no header. -/
theorem test_wf_header : (Instr.imageHeaderRead 0 [1, 2, 3]).wellFormed = false := by decide
theorem test_wf_section : (Instr.sectionHeaderRead 0 [1]).wellFormed = false := by decide
theorem test_wf_sensors : (Instr.outerTickWork 0 [(0, 0)] 0 0).wellFormed = false := by decide
theorem test_wf_hello : (Instr.helloReceived 0 0 []).wellFormed = false := by decide
theorem test_wf_join : (Instr.joinReceived 0 0 []).wellFormed = false := by decide
theorem test_wf_admit : (Instr.admitReceived 0 0 [0]).wellFormed = false := by decide
theorem test_wf_routes : (Instr.routesReceived 0 []).wellFormed = false := by decide
theorem test_wf_sync : (Instr.syncRespReceived 0 0 []).wellFormed = false := by decide
theorem test_wf_freeze_at : (Instr.freezeAt 0 0 0 (2 ^ 64) 0).wellFormed = false := by decide
theorem test_wf_routes_apply : (Instr.routesApply 0 0 0 (2 ^ 64) 0).wellFormed = false := by decide
/-- Class F stands for another device, so it does not enter at a port of this one. -/
theorem test_wf_origin : (Instr.jcpNop 0 ⟨.F, none⟩).wellFormed = false := by decide
theorem test_wf_quarantine : (Instr.quarantine 0 (.origin ⟨.F, none⟩)).wellFormed = false := by decide
theorem test_wf_read_count : (Instr.jcpRead 0 ⟨.M, none⟩ 0 65536).wellFormed = false := by decide
theorem test_wf_fetch_max : (Instr.fetch 0 ⟨.M, none⟩ 16 65536).wellFormed = false := by decide
theorem test_wf_image_offset : (Instr.imageData 0 ⟨.M, none⟩ (2 ^ 32) []).wellFormed = false := by decide
theorem test_wf_image_end : (Instr.imageEnd 0 ⟨.M, none⟩ []).wellFormed = false := by decide
/-- A base identifier has 11 bits; a classic frame carries 8 bytes; 9 is no FD length; an FD frame is no remote frame. -/
theorem test_wf_can_id : (Instr.canRecordFrame 0 0 ⟨2048, false, false, false, false, false, [], 0⟩).wellFormed = false := by decide
theorem test_wf_can_classic : (Instr.canRecordFrame 0 0 ⟨1, false, false, false, false, false, List.replicate 9 0, 0⟩).wellFormed = false := by decide
theorem test_wf_can_fd : (Instr.canSetpointMessage 0 0 ⟨1, false, true, false, false, false, List.replicate 9 0, 0⟩).wellFormed = false := by decide
theorem test_wf_can_remote : (Instr.canHeaveMessage 0 0 ⟨1, false, true, false, false, true, [], 0⟩).wellFormed = false := by decide
theorem test_wf_can_envelope : (Instr.canEnvelopeFrame 0 0 ⟨2048, false, true, false, false, false, [], 0⟩).wellFormed = false := by decide
theorem test_wf_read_result : (Instr.nandReadDone 0 ⟨0, some 16, 1, 0, 0, []⟩).wellFormed = false := by decide
theorem test_wf_good : (Instr.jcpNop 0 ⟨.M, none⟩).wellFormed = true := by decide

/-! ## The states of the witnesses -/

/-- A device that runs in a mode at TB_NOW = 1 s. -/
def dev (m : Mode) : State :=
  { State.reset with
    pwr := { State.reset.pwr with phase := .running }
    mode := { State.reset.mode with mode := m }
    clk := { now := 1000000000, tb := 1000000000, counting := true } }

/-- Some register words. -/
def reg (l : List (Nat × Nat)) (s : State) : State := { s with regs := l.foldl (fun r x => r.set x.1 (w32 x.2)) s.regs }

/-- The host at CPA, and class M at the maintenance port. -/
def host : Origin := ⟨.A, none⟩
def maint : Origin := ⟨.M, none⟩

/-- Such a device with AX0, AUX0 and a chopper leg in use, the gate-drive supply good, CPA up, and the control token with the host at CPA. -/
def rig (m : Mode) : State :=
  let s := reg [(Reg.GD_AXn_MAP 0, 0x80000000), (Reg.GD_AUXn_MAP 0, 0x80000000), (Reg.GD_CHPn_MAP 0, 0x80000000)] (dev m);
  { s with
    gd := { s.gd with uv := false, swClosed := true, blocked := false }
    cp := { s.cp with ports := vset s.cp.ports 0 (fun p => { p with up := true }), token := { s.cp.token with holder := some host } } }

/-- A main axis in a state. -/
def axIn (n : Fin 6) (st : AxState) (s : State) : State := { s with ax := vset s.ax n (fun x => { x with state := st }) }
/-- An auxiliary axis in a state. -/
def auxIn (n : Fin 4) (st : AuxState) (s : State) : State := { s with aux := vset s.aux n (fun x => { x with state := st }) }
/-- A start-up phase. -/
def phase (p : Phase) (s : State) : State := { s with pwr := { s.pwr with phase := p } }


/-! ## The witnesses -/

theorem witness_StepRunsFrontCommand : State.reset.pending = [] := by decide +kernel

theorem witness_ResetReturnsEverything : (dev .drive).pwr.phase ≠ .held ∧ State.reset.pwr.phase = .held := by decide +kernel

theorem witness_StartReachesLoad :
    (State.reset.pwr.phase = .held ∧ State.reset.pwr.supAt + 2000000 = State.reset.now + 2 * 1000000) ∧
    (let s : State := { State.reset with pwr := { State.reset.pwr with supVcore := true, supVcoreS := true, supVio18 := true, supVio33 := true } };
      s.pwr.phase = .held ∧ s.pwr.supVcore = true ∧ s.pwr.supVcoreS = true ∧ s.pwr.supVio18 = true ∧ s.pwr.supVio33 = true ∧
      refselOf .low .low = some 0 ∧ refselOf .openPin .openPin = none) ∧
    (let s := phase .released State.reset; s.pwr.phase = .released ∧ s.pwr.releasedAt + 200000 ≤ s.now + 2 * 100000) ∧
    ((phase .locked State.reset).pwr.phase = .locked) := by decide +kernel

/-- A loader that stands at a stage. -/
def loader (st : LoadStage) : State := { phase .loading State.reset with ld := { State.reset.ld with stage := st, imgLen := 4096, nsect := 4, count := 2, sectId := 1 } }

/-- A good image header, but for its CRC. -/
def hdr60 : List Byte :=
  [0x4A, 0x4E, 0x49, 0x4D, 1, 0, 64, 0] ++ leBytes 4 4096 ++ leBytes 2 4 ++ [1, 10, 1, 0, 0, 0] ++ leBytes 8 7 ++ leBytes 4 0x2464 ++ zeros 28
def goodHdr : List Byte := hdr60 ++ leBytes 4 (crc32 hdr60).toNat

theorem witness_CopyIsRead :
    ((loader .header).loadAt .header = true ∧ goodHdr.length = 64 ∧ headerRule goodHdr = none) ∧
    ((loader .header).loadAt .header = true ∧ (zeros 64).length = 64 ∧ headerRule (zeros 64) = some 0x0101 ∧ (loader .header).ld.second = false) ∧
    (let b : List Byte := leBytes 4 1 ++ leBytes 4 1 ++ zeros 8;
      let s := loader .sect;
      s.loadAt .sect = true ∧ b.length = 16 ∧ (sectionRange (leAt b 0 2)).isSome = true ∧ leAt b 0 2 ∉ s.ld.seen ∧ 0 < leAt b 4 4 ∧ leAt b 4 4 ≤ 16384 ∧
      s.ld.pos + 24 + 16 * leAt b 4 4 ≤ s.ld.imgLen) ∧
    (let s := loader .entry;
      let a := w32 Reg.DEV_REC_SEL;
      s.loadAt .entry = true ∧ s.ld.entryFail = none ∧ entryRule s.ld.sectId s.ld.shadow a (~~~a) 16380 (~~~16380) = none ∧
      entryRule s.ld.sectId s.ld.shadow a a 16380 4 = some 0x0114) ∧
    (let s := loader .crc;
      s.loadAt .crc = true ∧ s.ld.entryFail = none ∧ s.ld.reservedBad = false ∧ ~~~ s.ld.crc = ~~~ s.ld.crc ∧ s.ld.sectIx + 1 ≠ s.ld.nsect ∧
      ~~~ s.ld.crc ≠ s.ld.crc ∧ s.ld.second = false) := by decide +kernel

theorem witness_HoldEntryAppliesShadow : (loader .passed).loadAt .passed = true := by decide +kernel

theorem witness_ReferenceClockEvents :
    ((dev .drive).running = true ∧ (dev .drive).tbs.holdover = false) ∧ ((phase .locked State.reset).pwr.phase = .locked) ∧
    ((phase .released State.reset).pwr.phase = .released) ∧
    (let s : State := { dev .drive with tbs := { (dev .drive).tbs with holdover := true, lossAt := (dev .drive).tb - 10000000 } };
      s.running = true ∧ s.tbs.holdover = true ∧ s.tbs.lossAt + 10000000 = s.tbAt 0) ∧
    ((dev .drive).tbs.calFail.getLsbD (10 : Fin 11).val = false) := by decide +kernel

theorem witness_TimeReadsInTwoWords : (rig .drive).serves host = true ∧ (rig .drive).tbs.hiLatch = [] := by decide +kernel

/-- AX0 in RUN at a PWM frequency of 10 kHz whose valley was at TB_NOW = 1 s, with some updates. -/
def running (l : List Upd) : State :=
  let s := axIn 0 .run (rig .drive);
  { s with
    snt := vset s.snt (axis10 0) (fun q => { q with freq := 10000, upds := l })
    ax := vset s.ax 0 (fun x => { x with valley := 1000000000 }) }

def upd (started : Bool) (posted : Option Nat) (edge : Nat) : Upd :=
  { sample := 999900000, edge := edge, started := started, posted := posted, pos := 0, spd := 0, regs := (rig .drive).regs }

/-- AUX0 with a result that waits. -/
def auxWithResult (s : State) : State := { s with aux := vset s.aux 0 (fun a => { a with result := some (5, {}) }) }

theorem witness_UpdateRunsToItsInstant :
    (let s := running [upd true (some 5) 1000000000];
      s.running = true ∧ s.axAlloc 0 = true ∧ s.ax[(0 : Fin 6)].state.watched = true ∧ (s.advance 0).extreme (axis10 0) = some (0, 1000000000) ∧ 0 % 2 = 0 ∧
      ∀ u ∈ s.snt[axis10 0].upds, u.sample < s.tbAt 0) ∧
    (let s := running [upd true (some 5) 1000000000, upd false none 1000000000];
      s.running = true ∧ s.snt[axis10 0].busy = false ∧ (upd true (some 5) 1000000000).started = true ∧ (upd false none 1000000000).started = false ∧
      (upd false none 1000000000).sample + (s.asOf 0 (upd false none 1000000000)).filterNs 0 ≤ s.tbAt 0 ∧ s.tbAt 0 ≤ (upd false none 1000000000).edge) ∧
    (let s := running [upd true (some 5) 1000000000, upd true none 1000000000];
      s.snt[axis10 0].upds = [upd true (some 5) 1000000000] ++ upd true none 1000000000 :: [] ∧ (upd true none 1000000000).posted = none ∧
      s.tbAt 0 ≤ (upd true none 1000000000).edge ∧ s.ax[(0 : Fin 6)].result = none ∧ s.saf.ss1 = []) ∧
    (let u := upd true (some 5) 1000000000;
      let s := running [u];
      s.running = true ∧ s.snt[axis10 0].upds = u :: [] ∧ u.edge < s.tbAt 0 + 2 ∧ u.posted.isSome = true ∧ mainOf (axis10 0) = some 0 ∧ s.ax[(0 : Fin 6)].state ≠ .asc ∧
      s.ax[(0 : Fin 6)].state ≠ .catching) ∧
    (let u := upd false none 1000000000;
      let s := running [u];
      s.snt[axis10 0].upds = u :: [] ∧ u.edge < s.tbAt 0 + 2 ∧ u.posted = none ∧ s.running = true ∧ u.started = false ∧ s.blk[(0 : Fin 6)] = none) ∧
    (let s : State := { running [] with snt := vset (running []).snt (axis10 0) (fun q => { q with late := [(999999999, 1)] }) };
      s.running = true ∧ s.snt[axis10 0].late = (999999999, 1) :: []) ∧
    (let u := upd false none 1000000000;
      let s : State := { running [] with snt := vset (running []).snt (aux10 0) (fun q => { q with late := [(999999999, 1)], upds := [u] }) };
      s.running = true ∧ s.snt[aux10 0].late = (999999999, 1) :: [] ∧ mainOf (aux10 0) = none ∧ s.snt[aux10 0].upds = [u] ∧
      u.started = false ∧ s.tbAt 0 ≤ u.edge) ∧
    (let u := upd true none 1000000000;
      let s : State := auxWithResult { running [] with snt := vset (running []).snt (aux10 0) (fun q => { q with upds := [u] }) };
      s.running = true ∧ mainOf (aux10 0) = none ∧ s.snt[aux10 0].upds = [] ++ u :: [] ∧ u.started = true ∧ u.posted = none ∧ s.tbAt 0 ≤ u.edge ∧
      s.aux[auxOf (aux10 0)].result = some (5, {}) ∧ s.saf.ss1 = []) := by decide +kernel

/-- The sentinel of AX0 with some parts changed, in an axis in RUN. -/
def sntWith (f : Sentinel → Sentinel) : State := { running [] with snt := vset (running []).snt (axis10 0) f }

theorem witness_LateReactionsAndCarrier :
    (let s := sntWith (fun q => { q with react := 1 }); s.running = true ∧ s.snt[axis10 0].react = 1 ∧ s.tbAt 0 % s.period = 0 ∧
      1000 ≤ s.regs.AXn_PWM_F 0 / 2) ∧
    (let s := reg [(Reg.AXn_PWM_F 0, 0x44BB8000)] (sntWith (fun q => { q with react := 1 })); s.running = true ∧ s.snt[axis10 0].react = 1 ∧ s.tbAt 0 % s.period = 0 ∧
      s.regs.AXn_PWM_F 0 / 2 < 1000 ∧ s.ax[(0 : Fin 6)].state = .run) ∧
    (let s := axIn 0 .stop { rig .brake with snt := vset (rig .brake).snt (axis10 0) (fun q => { q with react := 2 }) };
      s.snt[axis10 0].react = 2 ∧ s.ax[(0 : Fin 6)].state = .stop ∧ s.mode.mode = .brake) ∧
    (let s := sntWith (fun q => { q with react := 2 }); s.running = true ∧ s.snt[axis10 0].react = 2 ∧ s.ax[(0 : Fin 6)].state = .run) ∧
    (let s := sntWith (fun q => { q with consec := 8 }); 8 ≤ s.snt[axis10 0].consec ∧ s.moving10 (axis10 0) = true ∧ s.ax[(0 : Fin 6)].state ≠ .asc) ∧
    (let s := sntWith (fun q => { q with window := some (900000000, 3, 5) }); s.running = true ∧ s.snt[axis10 0].window = some (900000000, 3, 5) ∧ 900000000 + 100000000 ≤ s.tbAt 0) ∧
    (let s := sntWith (fun q => { q with clearSince := some 0, halved := true }); s.running = true ∧ s.snt[axis10 0].clearSince = some 0 ∧ s.snt[axis10 0].halved = true ∧
      s.snt[axis10 0].clearOk = false ∧ 0 + 1000000000 ≤ s.tbAt 0) ∧
    (let s := sntWith (fun q => { q with freqNext := some 5000 }); s.snt[axis10 0].freqNext = some 5000 ∧ s.running = true ∧
      (s.advance 0).extreme (axis10 0) = some (0, 1000000000) ∧ 0 % 2 = 0) ∧
    (let s := axIn 0 .asc (sntWith (fun q => { q with react := 1 })); s.running = true ∧ s.ax[(0 : Fin 6)].state = .asc ∧ s.snt[axis10 0].react = 1) ∧
    ((sntWith (fun q => { q with react := 1 })).ax[(0 : Fin 6)].state ≠ .asc) ∧
    (axIn 0 .stop { rig .brake with snt := vset (rig .brake).snt (axis10 0) (fun q => { q with react := 2 }) }).running = true ∧
    (sntWith (fun q => { q with consec := 8 })).running = true := by decide +kernel

/-- A tick with some parts changed. -/
def tickWith (f : TickSt → TickSt) : State := { rig .hold with tick := f (rig .hold).tick }

theorem witness_OuterTickAndItsWork :
    (let s := tickWith (fun q => { q with workDone := true, began := 999000000 }); s.running = true ∧ s.tbAt 0 % s.period = 0 ∧ s.tick.began < s.tbAt 0 ∧ s.tick.workDone = true) ∧
    (let s := tickWith (fun q => { q with workDone := false, began := 999999999 }); s.tbAt 0 % s.period = 0 ∧ s.tick.began < s.tbAt 0 ∧ s.tick.workDone = false ∧ s.tick.overdue = []) ∧
    (let s := tickWith (fun q => { q with overdue := [(1, 1)] }); s.tick.overdue = (1, 1) :: []) ∧
    (let s := tickWith (fun q => { q with consec := 4 }); 4 ≤ s.tick.consec ∧ s.mode.stop.getLsbD 4 = false) := by decide +kernel

theorem witness_DomainSkewStops :
    (let s := tickWith (fun q => { q with limCount := q.limCount.set 8 10 }); s.running = true ∧ 10 ≤ s.tick.limCount[(8 : Fin 9)] ∧ s.tick.limNoted[(8 : Fin 9)] = false) ∧
    (let s := tickWith (fun q => { q with held := q.held.set 8 true, holdoff := true, belowSince := q.belowSince.set 8 (some 0) });
      s.tick.holdoff = true ∧ s.tick.held[(8 : Fin 9)] = true ∧ s.tick.belowSince[(8 : Fin 9)] = some 0 ∧ 0 + 1000000000 ≤ s.tbAt 0 ∧
      ∀ p : Fin 9, p ≠ 8 → s.tick.held[p] = false) ∧
    (let s := tickWith (fun q => { q with held := q.held.set 8 true, holdoff := true }); s.tick.holdoff = true ∧ s.tick.held[(8 : Fin 9)] = true ∧
      s.tick.belowSince[(8 : Fin 9)] = none) := by decide +kernel

theorem witness_ClearCommandsClear :
    let s := rig .hold;
    s.writes host = true ∧ s.may true host = true ∧ s.alloc10 0 = true ∧ s.axAlloc 0 = true ∧ s.auxAlloc 0 = true ∧
    s.regs.CANn_CFG_BIND (0 : Fin 2) = 0 ∧ (reg [(Reg.CANn_CFG 0, 1)] s).regs.CANn_CFG_BIND (0 : Fin 2) ≠ 0 ∧
    (∀ k : Fin 4, bit 1 k.val = true → s.regs.GD_CHPn_MAP_EN k = true) ∧
    (∀ k : Fin 4, bit 1 k.val = true → Nat.testBit s.regs.GD_HB_MODE (s.regs.GD_CHPn_MAP_HB k) = false) := by decide +kernel

/-- A paired register of access RS, and staging with some parts changed. -/
def stgWith (f : Staging → Staging) : State := { rig .hold with stg := f (rig .hold).stg }

theorem witness_CommitIsWhole :
    (let s := rig .hold; s.writes host = true ∧ s.holds host = true ∧ s.stg.commit = none) ∧
    (let s := stgWith (fun q => { q with bank := [(0x200, 1)] }); s.mode.mode = .hold ∧ s.stg.bank ≠ [] ∧ s.stg.commit = none) ∧
    (let s := rig .brake; s.writes host = true ∧ s.holds host = true ∧ s.mode.mode ≠ .hold ∧ s.mode.mode ≠ .drive ∧ s.mode.mode ≠ .limp) ∧
    ((rig .limp).mode.mode = .limp ∧ (rig .limp).stg.bank = []) ∧
    (∀ v ∈ ([none, some (0x0301, 4)] : List (Option (Nat × Nat))),
      let s : State := { stgWith (fun q => { q with commit := some { tag := 0, port := 0, at' := 0, verdict := some v } }) with
        tick := { (rig .hold).tick with workDone := true, began := 999000000 } };
      s.running = true ∧ s.regs.wf = true ∧ s.mode.mode = .hold ∧ s.mode.drivePending = none ∧ s.tick.workDone = true ∧ s.tick.withheld = false ∧
      s.tbAt 0 % s.period = 0 ∧ s.tick.began < s.tbAt 0 ∧ s.stg.commit.isSome = true) := by decide +kernel

theorem witness_ModeRequests :
    (let s := rig .hold; s.writes host = true ∧ s.holds host = true) ∧
    ((rig .drive).mode.mode ≠ .hold ∧ (rig .drive).mode.mode = .drive) ∧ ((rig .brake).mode.mode ≠ .drive ∧ (rig .brake).mode.mode ≠ .limp) ∧
    ((rig .limp).mode.mode = .limp ∧ (rig .hold).mode.mode ≠ .limp) := by decide +kernel


theorem witness_PairedAndStagedWrites :
    let v : Word := 0x41200000;
    areaOf 66056 = .regs ∧ 66056 % 4 = 0 ∧ (66056 + 4 : Nat) % 4 = 0 ∧
    (regRow? 66056).any (fun r => r.pair && r.acc == .RS && rowAdmits r (v &&& w32 (rowMask r))) = true ∧
    (let s := rig .hold;
      s.serves host = true ∧ s.holds host = true ∧ s.pairOf host = none ∧ s.originFull host = false ∧ s.stg.commit = none ∧
      s.stg.bank.length < 1024 ∧ s.stg.bank.all (fun b => b.1 != 66056) = true) ∧
    (let s := stgWith (fun q => { q with pairs := [(host, 66056, v)] });
      s.serves host = true ∧ s.holds host = true ∧ s.pairOf host = some (66056, v) ∧ s.stg.commit = none ∧ s.stg.bank.length < 1024 ∧
      s.stg.bank.all (fun b => b.1 != 66056) = true ∧ ¬(66056 = 66056 + 4 ∧ (5 : Word) = ~~~v)) ∧
    (let s := stgWith (fun q => { q with bank := [(66056, 1)] });
      s.serves host = true ∧ s.holds host = true ∧ s.pairOf host = none ∧ s.stg.commit = none ∧ s.stg.bank.any (fun b => b.1 == 66056) = true) ∧
    (let s := rig .hold;
      s.serves host = true ∧ s.holds host = true ∧ (regRow? 66056).any (fun r => r.pair && r.acc != .RO && r.acc != .WC) = true ∧
      areaOf (66056 + 4) = .regs ∧ regRow? (66056 + 4) = none ∧ s.regs.getCompl 66056 = ~~~ s.regs.get 66056) ∧
    (let s : State := { rig .hold with regs := { (rig .hold).regs with compl := [(66056, 5)] } };
      s.serves host = true ∧ s.holds host = true ∧ s.regs.getCompl 66056 = 5 ∧ s.regs.getCompl 66056 ≠ ~~~ s.regs.get 66056 ∧
      s.stg.pairFault.contains 66056 = false) ∧
    (stgWith (fun q => { q with pairFault := [66056] })).stg.pairFault.contains 66056 = true := by decide +kernel

theorem witness_ReservedWords :
    (rig .hold).serves host = true ∧ areaOf 0x7FFC = .regs ∧ 0x7FFC % 4 = 0 ∧ regClass 0x7FFC = .reserved ∧ (rig .hold).pairOf host = none := by decide +kernel

theorem witness_BoundaryChangesMode :
    (∀ m ∈ [Mode.hold, .drive, .limp, .brake],
      let s : State := { rig m with tick := { (rig m).tick with began := 999000000 } };
      s.running = true ∧ s.tbAt 0 % s.period = 0 ∧ s.tick.began < s.tbAt 0) ∧
    (let s : State := { rig .hold with mode := { (rig .hold).mode with drivePending := some { port := 0, at' := 0, tested := true } } };
      s.mode.mode = .hold ∧ s.mode.drivePending = some { port := 0, at' := 0, tested := true }) ∧
    (let s : State := { rig .drive with mode := { (rig .drive).mode with stop := 1 } }; s.mode.mode = .drive ∧ s.mode.stop ≠ 0) ∧
    (let s : State := { rig .limp with mode := { (rig .limp).mode with limpAck := some 0 } }; s.mode.mode = .limp ∧ s.mode.stop = 0 ∧ s.mode.limpAck.isSome = true) ∧
    (let s := rig .brake; s.mode.mode = .brake ∧ s.mode.brakeAt < s.tbAt 0 ∧ s.allQuiet = true ∧ s.mode.brakeTmo = false) ∧
    (let s : State := reg [(Reg.DEV_MODE_CFG, 0)] (rig .brake); s.mode.brakeAt + s.regs.DEV_MODE_CFG_BRAKE_TMO * 1000000000 ≤ s.tbAt 5000000000) ∧
    (∀ r ∈ [0, 0x1000],
      let s := auxIn 0 .stop (axIn 0 .stop (reg [(Reg.AXn_FLT_REACT 0, r)] (rig .brake)));
      s.mode.mode = .brake ∧ s.mode.brakeTmo = false ∧ s.regs.wf = true ∧ s.axAlloc 0 = true ∧ s.ax[(0 : Fin 6)].state.quiet = false ∧
      s.aux[(0 : Fin 4)].state = .stop ∧ s.ascBarred 0 = false ∧ s.reaction 0 .timeout = (if r = 0 then 0 else 1) ∧
      s.mode.brakeAt + s.regs.DEV_MODE_CFG_BRAKE_TMO * 1000000000 ≤ s.tbAt 500000000000) := by decide +kernel

/-- The gate drive of AX0 with some parts changed. -/
def gdWith (f : GdAx → GdAx) (s : State) : State := { s with gd := { s.gd with ax := vset s.gd.ax (axis10 0) f } }
/-- Bridge and short circuit of AX0. -/
def axWith (f : AxSt → AxSt) (s : State) : State := { s with ax := vset s.ax 0 f }

theorem witness_HighSideSupplies :
    (let s := rig .drive;
      s.alloc10 0 = true ∧ s.link10 0 = false ∧ s.pumps = true ∧ 2 < legs10 0 ∧ s.gd.ax[(0 : Fin 10)].hsUv.getLsbD 2 = false ∧ s.testNow ≠ some ((0 : Fin 10).val, .hsUv 2) ∧ s.switching10 0 = false ∧
      s.gd.ax[(0 : Fin 10)].refresh = false) ∧
    (let s := axWith (fun x => { x with state := .asc, bridge := .ascHigh, ascSt := { x.ascSt with high := true, follow := false } }) (rig .drive);
      s.pumps = true ∧ mainOf 0 = some 0 ∧ s.ax[(0 : Fin 6)].state = .asc ∧ s.ax[(0 : Fin 6)].bridge = .ascHigh) ∧
    ((reg [(Reg.GD_HB_MODE, 1)] (rig .drive)).link10 0 = true) ∧
    ((axWith (fun x => { x with bridge := .modulate }) (rig .drive)).switching10 0 = true) ∧
    (let s := gdWith (fun g => { g with refresh := true, uvClear := 0 }) (rig .drive);
      s.running = true ∧ s.gd.ax[(0 : Fin 10)].refresh = true ∧ s.gd.ax[(0 : Fin 10)].hsUv = 0 ∧ s.gd.ax[(0 : Fin 10)].uvClear + 1000000000 ≤ s.tbAt 0) ∧
    (let s := gdWith (fun g => { g with refresh := true, uvCnt := 8 }) (axIn 0 .run (reg [(Reg.AXn_FLT_REACT 0, 4)] (rig .drive)));
      s.gd.ax[(0 : Fin 10)].refresh = true ∧ 8 ≤ s.gd.ax[(0 : Fin 10)].uvCnt ∧ s.moving10 0 = true ∧ s.reaction 0 .bridge = 1 ∧ s.ascBarred 0 = false ∧ s.ax[(0 : Fin 6)].state ≠ .asc) ∧
    ((auxIn 0 .run (rig .drive)).moving10 6 = true ∧ mainOf 6 = none) ∧
    (let s := axWith (fun x => { x with state := .ready, startWait := some 0 }) (rig .drive);
      mainOf 0 = some 0 ∧ s.ax[(0 : Fin 6)].startWait.isSome = true ∧ s.alloc10 0 = true ∧ s.pumps = true ∧ s.gd.ov = false ∧
      (s.startWait10 0).isSome = true ∧ s.driving = true ∧ s.testPending 0 = false ∧ s.startWait10 0 = some 0 ∧ 0 + 50000000 ≤ s.tbAt 0 ∧ (1 : BitVec 4) ≠ 0 ∧ s.link10 0 = false) ∧
    (let s : State := { rig .drive with aux := vset (rig .drive).aux 0 (fun a => { a with state := .ready, startWait := some 0 }) };
      s.alloc10 6 = true ∧ s.pumps = true ∧ mainOf 6 = none ∧ (s.startWait10 6).isSome = true ∧ s.driving = true ∧ s.testPending 6 = false ∧ s.gd.ov = false) ∧
    ((rig .drive).startWait10 0 = none) := by decide +kernel

theorem witness_ShortCircuitProtection :
    (let s := axWith (fun x => { x with state := .run, bridge := .ascLow }) (rig .drive);
      s.running = true ∧ s.alloc10 0 = true ∧ s.gd.ax[(0 : Fin 10)].latched = false ∧ s.gd.test.busy = false ∧ s.ax[(0 : Fin 6)].state ≠ .asc ∧ s.link10 0 = false ∧ 2 < legs10 0 ∧
      (s.advance 0).desatActs 0 2 false = true ∧ s.moving10 0 = true ∧ axis10 0 = 0) ∧
    (let s := reg [(Reg.GD_HB_MODE, 1)] (rig .drive); s.alloc10 0 = true ∧ 2 < legs10 0 ∧ s.gd.ax[(0 : Fin 10)].linkLow.getLsbD 2 = false ∧ s.link10 0 = true) ∧
    (let s := gdWith (fun g => { g with softAt := some 999998000 }) (rig .drive); s.gd.ax[(0 : Fin 10)].softAt = some 999998000 ∧ 999998000 + 2000 ≤ (s.advance 0).gdTime) ∧
    (let s := gdWith (fun g => { g with ascDue := some (1000000000, false, none) }) (axIn 0 .halt (rig .drive));
      s.gd.ax[axis10 0].ascDue = some (1000000000, false, none) ∧ 1000000000 ≤ s.tbAt 0 ∧ s.ax[(0 : Fin 6)].state = .halt ∧
      s.running = true ∧ (s.gd.uv || s.gd.ov || !s.gd.swClosed || s.gd.blocked) = false) ∧
    (let s := axWith (fun x => { x with state := .asc, bridge := .ascWait, ascSt := { x.ascSt with high := true, onAt := 1000000000, first := some 0, side := some 5 } }) (rig .drive);
      s.running = true ∧ s.ax[(0 : Fin 6)].ascSt.first.isSome = true ∧ s.ax[(0 : Fin 6)].ascSt.coast = none ∧ s.ax[(0 : Fin 6)].ascSt.side = some 5 ∧
      s.ax[(0 : Fin 6)].ascSt.offAt + 20 ≤ s.tbAt 0 ∧ s.ax[(0 : Fin 6)].state = .asc ∧ s.ax[(0 : Fin 6)].bridge = .ascWait ∧ s.ax[(0 : Fin 6)].ascSt.onAt ≤ s.tbAt 0 ∧ s.ax[(0 : Fin 6)].ascSt.high = true ∧ s.axLink 0 = false ∧
      s.ax[(0 : Fin 6)].ascSt.follow = false ∧ s.hsReady (axis10 0) = true ∧ 9000 ≤ 9000 ∧ 8999 < 9000) ∧
    (let s : State := { axWith (fun x => { x with state := .run, bridge := .ascLow }) (rig .freeze) with frz := { (rig .freeze).frz with
        frozen := some { trig := ⟨1000000000, 999990000, 7, 5, 0x40⟩, tF := 1000000000, late := 0, asc := 1, safStat := 0, since := 900000000, free := 0 } } };
      s.pwr.phase = .running ∧ s.mode.mode = .freeze ∧ s.axAlloc 0 = true ∧ s.link10 (axis10 0) = false ∧ s.gd.ax[axis10 0].latched = false ∧
      (s.advance 0).desatActs (axis10 0) 2 false = true) := by decide +kernel

theorem witness_MonitorsChoppersSelfTest :
    (let s := auxIn 0 .run (rig .drive);
      s.running = true ∧ s.auxAlloc 0 = true ∧ s.link10 (aux10 0) = false ∧ s.gd.test.busy = false ∧ s.pumps = true ∧
      s.gd.ax[aux10 0].hsUv.getLsbD 3 = false) ∧
    (let s : State := { auxIn 0 .run (rig .drive) with gd := { (rig .drive).gd with ax := vset (rig .drive).gd.ax (aux10 0) (fun g => { g with refresh := true, uvCnt := 8 }) } };
      s.running = true ∧ s.auxAlloc 0 = true ∧ s.link10 (aux10 0) = false ∧ s.gd.ax[aux10 0].refresh = true ∧ 8 ≤ s.gd.ax[aux10 0].uvCnt ∧
      s.aux[(0 : Fin 4)].state.watched = true ∧ s.gd.ax[aux10 0].hsUv = 0 ∧ s.gd.ax[aux10 0].uvClear + 1000000000 ≤ s.tbAt 0) ∧
    (let s : State := { rig .drive with aux := vset (rig .drive).aux 0 (fun a => { a with state := .ready, startWait := some 950000000 }) };
      s.running = true ∧ s.auxAlloc 0 = true ∧ s.link10 (aux10 0) = false ∧ s.aux[(0 : Fin 4)].startWait = some 950000000 ∧
      950000000 + 50000000 ≤ s.tbAt 0 ∧ (8 : BitVec 4) ≠ 0) ∧
    (let s := axIn 0 .run (auxIn 0 .run (rig .drive));
      s.running = true ∧ s.gd.test.busy = false ∧ s.gd.ov = false ∧ s.gd.uv = false ∧ s.gd.test.autoDue = false ∧ s.ax[(0 : Fin 6)].state.watched = true ∧
      s.ax[(1 : Fin 6)].state.watched = false ∧ s.aux[(0 : Fin 4)].state.watched = true ∧ s.regs.GD_CHPn_MAP_EN (0 : Fin 4) = true ∧ s.gd.chop[(0 : Fin 4)].fault = false) ∧
    (let s : State := { rig .drive with gd := { (rig .drive).gd with chop := vset (rig .drive).gd.chop 0 (fun c => { c with on := true }) } };
      s.running = true ∧ s.regs.GD_CHPn_MAP_EN (0 : Fin 4) = true ∧ s.gd.test.busy = false ∧ (s.advance 0).chopActs 0 = true ∧ s.gd.chop[(0 : Fin 4)].fault = false) ∧
    (let m : BitVec 14 := BitVec.ofNat 14 (fld (0x10000 : Word) 0 6 + fld (0x10000 : Word) 8 4 * 64 + fld (0x10000 : Word) 16 4 * 1024);
      let s := rig .hold;
      s.writes host = true ∧ s.may true host = true ∧ m ≠ 0 ∧ (s.advance 0).testRefuse m = 0 ∧ ((rig .safe).advance 0).testRefuse m = 1) ∧
    (∀ k ∈ [1, 2],
      let s : State := { rig .hold with gd := { (rig .hold).gd with test := { (rig .hold).gd.test with busy := true, left := k, current := 0, targets := 3 } } };
      s.running = true ∧ s.gd.test.busy = true ∧ s.gd.test.left = k ∧ nextTarget s.gd.test.targets (s.gd.test.current + 1) = some 1) := by decide +kernel

/-- SDI channel 0 in use for phase U of AX0, and the sensing of AX0 and of that channel with some parts changed. -/
def snsWith (f : SnsAx → SnsAx) (g : SdiSt → SdiSt) (s : State) : State :=
  let s := reg [(Reg.SNS_SDIc_CFG 0, 3), (Reg.SNS_SDIc_CFG 1, 1)] s;
  { s with sns := { s.sns with ax := vset s.sns.ax 0 f, sdi := vset s.sns.sdi 0 g } }

theorem witness_SigmaDeltaChannels :
    ((rig .drive |>.advance 0).sdiEdge 0 = none) ∧
    (let s := snsWith id (fun d => { d with fastCnt := 3, stuckAt := 0 }) (reg [(Reg.TB_MCLK_m 0, 25)] (axIn 0 .run (rig .drive)));
      s.running = true ∧ (s.advance 0).sdiEdge 0 = some 1000000000 ∧ (s.advance 0).sdiEdge 1 = some 1000000000 ∧ s.sns.ax[(0 : Fin 6)].fSdi = 0 ∧ (s.advance 0).runOf 0 = none ∧ s.regs.SNS_SDIc_CFG_EN (0 : Fin 32) = true ∧ s.phaseOf 0 = some (0, 0) ∧ s.axAlloc 0 = true ∧ s.ax[(0 : Fin 6)].state ≠ .halt ∧
      s.regs.SNS_SDIc_CFG_FAST_N (0 : Fin 32) + 1 ≤ s.sns.sdi[(0 : Fin 32)].fastCnt ∧ s.sns.ax[(0 : Fin 6)].fSdi.getLsbD 0 = false ∧ s.sns.ax[(0 : Fin 6)].fbSdi.getLsbD 0 = false ∧
      s.regs.SNS_SDIc_CFG_EN (1 : Fin 32) = true ∧ s.sns.sdi[(1 : Fin 32)].stuck = false ∧ s.phaseOf 1 = none ∧ s.sns.sdi[(0 : Fin 32)].stuckAt + 1000000000 ≤ s.tbAt 0) ∧
    (let s := snsWith (fun q => { q with fDcs := true }) id (reg [(Reg.SNS_DCSn_SCALE 0, 0x42C80000), (Reg.AXn_SPD_STILL 0, 0x41200000)] (rig .drive));
      s.running = true ∧ s.axAlloc 0 = true ∧ s.bridgeOff 0 = true ∧ absR (7 : Rat) ≤ s.regs.SNS_DCSn_SCALE 0 * 3 / 2 / 20 ∧
      s.regs.SNS_DCSn_SCALE 0 * 3 / 2 / 20 < absR (8 : Rat) ∧ s.sns.ax[(0 : Fin 6)].fDcs = true) ∧
    (let s := snsWith (fun q => { q with fSdi := 1 }) id (reg [(Reg.SNS_SDIc_SCALE 0, 0x42C80000), (Reg.AXn_SPD_STILL 0, 0x41200000)] (rig .drive));
      s.phaseOf 0 = some (0, 0) ∧ s.running = true ∧ s.bridgeOff 0 = true ∧ absR (5 : Rat) ≤ s.regs.SNS_SDIc_SCALE (0 : Fin 32) / 20 ∧
      s.regs.SNS_SDIc_SCALE (0 : Fin 32) / 20 < absR (6 : Rat) ∧ s.sns.ax[(0 : Fin 6)].fSdi ≠ 0) ∧
    (let s := snsWith (fun q => { q with verdict := .sdi 0, vcnt := 15 }) (fun d => { d with stuck := true, zeroFail := true }) (rig .drive);
      s.sns.ax[(0 : Fin 6)].fSdi = 0 ∧ s.sns.ax[(0 : Fin 6)].verdict = .sdi 0 ∧ s.regs.SNS_AXn_XCHK_CFG_N 0 ≤ s.sns.ax[(0 : Fin 6)].vcnt ∧ s.sdiOf 0 0 = some 0 ∧
      s.sns.sdi[(0 : Fin 32)].stuck = true ∧ s.sns.sdi[(0 : Fin 32)].zeroFail = true) ∧
    (let s := snsWith (fun q => { q with fSdi := 1 }) id (reg [(Reg.TB_MCLK_m 0, 25)] (rig .drive));
      s.running = true ∧ s.regs.SNS_SDIc_CFG_EN (0 : Fin 32) = true ∧ (s.advance 0).sdiEdge 0 = some 1000000000 ∧ s.phaseOf 0 = some (0, 0) ∧
      s.sns.ax[(0 : Fin 6)].fSdi ≠ 0) := by decide +kernel

theorem witness_DcLinkReturnAndItsFaults :
    (let s := snsWith id id (axWith (fun x => { x with bridge := .modulate, setAt := 1000000000, set := { x.set with windows := [some (0, 1, true)] } }) (rig .drive));
      s.ax[(0 : Fin 6)].bridge = .modulate ∧ s.sns.ax[(0 : Fin 6)].hold = none ∧ s.ax[(0 : Fin 6)].set.windows = [] ++ some (0, 1, true) :: [] ∧
      s.running = true ∧ (s.ax[(0 : Fin 6)].setAt + s.placed 0 0) / 2 = s.tbAt 0 / 2) ∧
    (let s := snsWith (fun q => { q with hold := some (999999500, 1, true) }) id (rig .drive);
      s.sns.ax[(0 : Fin 6)].hold = some (999999500, 1, true) ∧ (1 : BitVec 12) ≠ 0 ∧ (1 : BitVec 12) ≠ 4095 ∧ s.tbAt 0 < 999999500 + 1000 ∧ 999999500 + 1000 ≤ s.tbAt 250) ∧
    (let s := snsWith (fun q => { q with verdict := .dcs, vcnt := 15, rejects := 3, dcsZeroFail := true }) id (rig .drive);
      s.running = true ∧ s.sns.ax[(0 : Fin 6)].fDcs = false ∧ s.sns.ax[(0 : Fin 6)].verdict = .dcs ∧ s.regs.SNS_AXn_XCHK_CFG_N 0 ≤ s.sns.ax[(0 : Fin 6)].vcnt ∧
      3 ≤ s.sns.ax[(0 : Fin 6)].rejects ∧ s.sns.ax[(0 : Fin 6)].dcsZeroFail = true) ∧
    (let s := snsWith (fun q => { q with verdict := .ambig, vcnt := 15, predRun := 127 }) id (axIn 0 .run (rig .drive));
      s.running = true ∧ s.sns.ax[(0 : Fin 6)].lostAt ≠ some s.sns.ax[(0 : Fin 6)].at' ∧ s.senseCase 0 1 = true ∧ s.ax[(0 : Fin 6)].state.watched = true ∧ s.regs.SNS_AXn_PRED_MAX 0 < s.sns.ax[(0 : Fin 6)].predRun ∧ s.sns.ax[(0 : Fin 6)].predNoted = false) ∧
    (let s := snsWith (fun q => { q with verdict := .ambig, vcnt := 15 }) id (axWith (fun x => { x with state := .halt, haltReason := 0x0703 }) (rig .drive));
      s.running = true ∧ s.sns.ax[(0 : Fin 6)].lostAt ≠ some s.sns.ax[(0 : Fin 6)].at' ∧ s.senseCase 0 1 = true ∧ s.ax[(0 : Fin 6)].state = .halt ∧
      s.ax[(0 : Fin 6)].haltReason = 0x0703) ∧
    (let s := snsWith (fun q => { q with fDcs := true, fEnc := true, agree := Vector.replicate _ 1000, clean := Vector.replicate _ 0 }) id (rig .drive);
      s.running = true ∧ s.sns.ax[(0 : Fin 6)].fDcs = true ∧ s.sns.ax[(0 : Fin 6)].dcsZeroFail = false ∧ 1000 ≤ s.sns.ax[(0 : Fin 6)].agree[1] ∧
      s.sns.ax[(0 : Fin 6)].clean[1] + 1000000000 ≤ s.tbAt 0 ∧ s.sns.ax[(0 : Fin 6)].fEnc = true ∧ 1000 ≤ s.sns.ax[(0 : Fin 6)].agree[2] ∧
      s.sns.ax[(0 : Fin 6)].clean[2] + 1000000000 ≤ s.tbAt 0) := by decide +kernel

theorem witness_DcLinkReturnAndItsFaults_states :
    (let s := snsWith (fun q => { q with fSdi := 1, fbDcs := true }) id (axIn 0 .off (rig .drive));
      s.running = true ∧ s.senseCase 0 4 = true ∧ s.sns.ax[(0 : Fin 6)].lostAt ≠ some s.sns.ax[(0 : Fin 6)].at' ∧ s.sns.ax[(0 : Fin 6)].fSdi ≠ 0 ∧
      s.ax[(0 : Fin 6)].state ≠ .halt ∧ s.ax[(0 : Fin 6)].state.watched = false) ∧
    (let s := snsWith (fun q => { q with rejects := 3 }) id (running [upd true none 1000000000]);
      s.running = true ∧ s.sns.ax[(0 : Fin 6)].fDcs = false ∧ 3 ≤ s.sns.ax[(0 : Fin 6)].rejects ∧ ((s.advance 0).updNow 0).map (fun u => u.sample) = some 999900000 ∧
      (((rig .drive).advance 0).updNow 0).isNone = true) := by decide +kernel

/-- Analog input 0 with some parts changed. -/
def ainWith (cfg : Nat) (f : AinSt → AinSt) (s : State) : State :=
  let s := reg [(Reg.SNS_AINc_CFG 0, cfg), (Reg.SNS_AINc_SCALE 0, 0x3F800000), (Reg.SNS_AINc_MAX 0, 0x41200000)] s;
  { s with sns := { s.sns with ain := vset s.sns.ain 0 f } }

theorem witness_AnalogInputs :
    (let s := ainWith 0x10 id (rig .drive); s.running = true ∧ s.sns.ain[(0 : Fin 32)].hold = none ∧ s.regs.SNS_AINc_CFG_CLASS (0 : Fin 32) = 1 ∧
      s.ainHeld (ainConv (0 : Fin 32)) = [] ∧ s.ainNext (ainConv (0 : Fin 32)) = some 0) ∧
    (let s := ainWith 0x20 id (reg [(Reg.SNS_AXn_VT_PER 0, 0x3F800000)] (rig .drive));
      s.regs.SNS_AINc_CFG_CLASS (0 : Fin 32) = 2 ∧ 0 < nsOf (s.regs.SNS_AXn_VT_PER (s.regs.SNS_AINc_CFG_AXIS (0 : Fin 32))) ∧
      s.tbAt 0 % nsOf (s.regs.SNS_AXn_VT_PER (s.regs.SNS_AINc_CFG_AXIS (0 : Fin 32))) = 0) ∧
    (let s := ainWith 0x1010 (fun a => { a with hold := some 1 }) (dev .drive);
      s.running = true ∧ s.sns.ain[(0 : Fin 32)].hold = some 1 ∧ s.ainTurn 0 = true ∧ (∀ n : Fin 6, s.axAlloc n = false) ∧ (∀ k : Fin 4, s.chopMay k = false) ∧ s.regs.SNS_AINc_CFG_RCHK (0 : Fin 32) = true ∧
      s.regs.SNS_AINc_MAX (0 : Fin 32) < s.regs.SNS_AINc_SCALE (0 : Fin 32) * 11 + s.regs.SNS_AINc_OFFS (0 : Fin 32) ∧
      s.regs.SNS_AINc_SCALE (0 : Fin 32) * 10 + s.regs.SNS_AINc_OFFS (0 : Fin 32) ≤ s.regs.SNS_AINc_MAX (0 : Fin 32) ∧
      s.regs.SNS_AINc_MIN (0 : Fin 32) ≤ s.regs.SNS_AINc_SCALE (0 : Fin 32) * 10 + s.regs.SNS_AINc_OFFS (0 : Fin 32)) ∧
    (let s := ainWith 0x1010 (fun a => { a with outCnt := 4 }) (dev .drive);
      s.running = true ∧ 4 ≤ s.sns.ain[(0 : Fin 32)].outCnt ∧ s.sns.ain[(0 : Fin 32)].range = false ∧ ∀ n : Fin 6, s.axAlloc n = true → s.vdcAin n ≠ 0) ∧
    (let s := ainWith 0x1010 (fun a => { a with outCnt := 4 }) (axIn 0 .run (rig .drive));
      s.running = true ∧ 4 ≤ s.sns.ain[(0 : Fin 32)].outCnt ∧ s.sns.ain[(0 : Fin 32)].range = false ∧ s.axAlloc 0 = true ∧ s.vdcAin 0 = 0 ∧
      (∀ m : Fin 6, m ≠ 0 → s.axAlloc m = true → s.vdcAin m ≠ 0) ∧ s.ax[(0 : Fin 6)].state ≠ .off ∧ s.ax[(0 : Fin 6)].state ≠ .halt ∧ s.regs.wf = true) ∧
    (let s := snsWith (fun q => { q with verdict := .sdi 0, vcnt := 15 }) (fun d => { d with fastCnt := 3, stuckAt := 0 })
        (reg [(Reg.TB_MCLK_m 0, 25), (Reg.SNS_SDIc_SCALE 0, 0x42C80000), (Reg.AXn_SPD_STILL 0, 0x41200000)] (rig .drive));
      s.running = true ∧ s.regs.SNS_SDIc_CFG_EN (0 : Fin 32) = true ∧ (s.advance 0).sdiEdge 0 = some 1000000000 ∧
      s.sns.sdi[(0 : Fin 32)].stuckAt + 1000000000 ≤ s.tbAt 0 ∧ s.phaseOf 0 = some (0, 0) ∧ s.axAlloc 0 = true ∧ s.sns.ax[(0 : Fin 6)].fSdi = 0 ∧
      s.sns.ax[(0 : Fin 6)].fbSdi = 0 ∧ s.regs.SNS_SDIc_CFG_FAST_N (0 : Fin 32) + 1 ≤ s.sns.sdi[(0 : Fin 32)].fastCnt ∧ s.bridgeOff 0 = true ∧
      absR (5 : Rat) ≤ s.regs.SNS_SDIc_SCALE (0 : Fin 32) / 20 ∧ s.sns.ax[(0 : Fin 6)].verdict = .sdi 0 ∧
      s.regs.SNS_AXn_XCHK_CFG_N 0 ≤ s.sns.ax[(0 : Fin 6)].vcnt) := by decide +kernel

/-- Position interface 0 with some parts changed. -/
def encWith (cfg : Nat) (f : EncSt → EncSt) (s : State) : State :=
  let s := reg [(Reg.SNS_ENCe_CFG 0, cfg)] s;
  { s with sns := { s.sns with enc := vset s.sns.enc 0 f } }

theorem witness_PositionInterfaces :
    (let s := encWith 1 id (rig .drive);
      s.running = true ∧ s.regs.SNS_ENCe_CFG_TYPE (0 : Fin 6) = 1 ∧ s.boundTo 0 = none ∧ s.regs.SNS_ENCe_CFG_Z_EN (0 : Fin 6) = false ∧ s.sns.enc[(0 : Fin 6)].zBad < 2 ∧
      true ≠ s.sns.enc[(0 : Fin 6)].a ∧ false = s.sns.enc[(0 : Fin 6)].b ∧ quadrant true false = (quadrant s.sns.enc[(0 : Fin 6)].a s.sns.enc[(0 : Fin 6)].b + 1) % 4 ∧
      s.sns.enc[(0 : Fin 6)].edgeAt + 10000000 ≤ s.tbAt 0) ∧
    (let s := encWith 1 (fun x => { x with illAt := List.replicate 256 1000000000, discRow := 3 }) (rig .drive);
      s.running = true ∧ s.sns.enc[(0 : Fin 6)].fault = false ∧ s.boundTo 0 = none ∧
      s.regs.SNS_ENCe_TOL_ILL_MAX (0 : Fin 6) < (s.sns.enc[(0 : Fin 6)].illAt.filter (fun t => decide (s.tbAt 0 < t + 1000000000))).length ∧ 3 ≤ s.sns.enc[(0 : Fin 6)].discRow) ∧
    (let s := snsWith (fun q => { q with encDiff := some 0 }) id (axIn 0 .run (reg [(Reg.SNS_AXn_ENC 0, 0x80)] (rig .drive)));
      s.running = true ∧ s.ax[(0 : Fin 6)].state.watched = true ∧ s.sns.ax[(0 : Fin 6)].encDiff = some 0 ∧ 0 + 50000000 ≤ s.tbAt 0 ∧ s.regs.SNS_AXn_ENC_EN 0 = true ∧ s.boundTo (s.encOf 0) = some 0 ∧ s.sns.enc[s.encOf 0].fault = false) ∧
    (let s := encWith 2 (fun x => { x with xfer := some 1 }) (rig .drive);
      s.running = true ∧ s.sns.enc[(0 : Fin 6)].xfer = some 1 ∧ s.sns.enc[(0 : Fin 6)].goodAt = none ∧ s.boundTo 0 = none ∧ s.regs.SNS_ENCe_CFG_PARITY (0 : Fin 6) = false ∧
      s.regs.SNS_ENCe_CFG_CODE (0 : Fin 6) = false ∧ s.regs.SNS_ENCe_CFG_DIR (0 : Fin 6) = false) := by decide +kernel

/-- The auxiliary axis 0, and the commands of the main axis 0, with some parts changed. -/
def auxWith (f : AuxAx → AuxAx) (s : State) : State := { s with aux := vset s.aux 0 f }
def cmdWith (f : CmdAx → CmdAx) (s : State) : State := { s with cmd := { s.cmd with ax := vset s.cmd.ax 0 f } }

/-- AX0 in CATCH since TB_NOW = 0.99 s, bound to interface 0, which shows 50 rpm, with NMIN = `nmin` and VMIN = 0. -/
def catching (nmin : Nat) (f : AxSt → AxSt) : State :=
  encWith 1 (fun x => { x with speed := 50 })
    (snsWith (fun q => { q with at' := 995000000 }) id
      (axWith f (axWith (fun x => { x with state := .catching, cat := { x.cat with since := 990000000 } })
        (reg [(Reg.SNS_AXn_ENC 0, 0x80), (Reg.AXn_CATCH_VMIN 0, 0), (Reg.AXn_OBS_NMIN 0, nmin)] (rig .drive)))))

/-- The same on the terminal voltages. -/
def onVoltages (f : AxSt → AxSt) : State := reg [(Reg.SNS_AXn_ENC 0, 0), (Reg.SNS_AXn_VIN 0, 0x80000000)] (catching 0x42C80000 f)

/-- A back-EMF of VMIN or more since 10 ms, which stands at a quarter turn in the conversions of the last 5 ms. -/
def emf : VtMeas := { hi := some 990000000, pts := [(1000000000, 1 / 4), (995000000, 1 / 4)] }

theorem witness_CatchAndIf :
    (let s := catching 0x42C80000 id;
      s.running = true ∧ s.measuring 0 = true ∧ s.tbAt 0 ≤ s.ax[(0 : Fin 6)].cat.since + 20000000 ∧ s.encUsable 0 = true ∧
      s.ax[(0 : Fin 6)].cat.since ≤ s.sns.ax[(0 : Fin 6)].at' ∧ ((s.advance 0).encAt (s.encOf 0)).2 = 50 ∧ absR 50 < s.regs.AXn_OBS_NMIN 0) ∧
    (let s := onVoltages (fun x => { x with vt := emf });
      s.running = true ∧ s.measuring 0 = true ∧ s.tbAt 0 ≤ s.ax[(0 : Fin 6)].cat.since + 20000000 ∧ s.encUsable 0 = false ∧
      s.regs.SNS_AXn_VIN_VT_EN 0 = true ∧ (s.advance 0).vtStill 0 = false ∧ (s.advance 0).vtSettled 0 s.ax[(0 : Fin 6)].cat.since = true ∧
      (s.advance 0).vtFits 0 50 0 = true ∧ (s.advance 0).vtFits 0 50 0x80000000 = false ∧ s.ax[(0 : Fin 6)].cat.stop = none ∧ s.stopInMode s.ax[(0 : Fin 6)].cat.stop = none) ∧
    (let s := onVoltages (fun x => { x with vt := { lo := some 990000000 } });
      s.running = true ∧ s.measuring 0 = true ∧ s.tbAt 5000000 ≤ s.ax[(0 : Fin 6)].cat.since + 20000000 ∧ s.encUsable 0 = false ∧
      s.regs.SNS_AXn_VIN_VT_EN 0 = true ∧ (s.advance 5000000).vtStill 0 = true ∧ (s.advance 4999999).vtStill 0 = false) ∧
    (∀ k ∈ [1, 2],
      let s := onVoltages (fun x => { x with cat := { x.cat with attempt := k } });
      s.running = true ∧ s.measuring 0 = true ∧ s.ax[(0 : Fin 6)].cat.since + 20000000 ≤ s.tbAt 5000000 ∧ s.catchMethod 0 = 2 ∧
      (s.advance 5000000).vtStill 0 = false ∧ (s.advance 5000000).vtSettled 0 s.ax[(0 : Fin 6)].cat.since = false ∧
      s.ax[(0 : Fin 6)].cat.attempt = k) ∧
    (let s := catching 0 (fun x => { x with cat := { x.cat with retryAt := some 900000000 } });
      s.running = true ∧ s.ax[(0 : Fin 6)].state = .catching ∧ s.ax[(0 : Fin 6)].cat.retryAt = some 900000000 ∧ 900000000 + 100000000 ≤ s.tbAt 0) ∧
    (let s := catching 0 (fun x => { x with eng := { x.eng with ifPhase := .align, ifAt := 0 } });
      s.running = true ∧ s.ax[(0 : Fin 6)].eng.ifPhase = .align ∧ s.ax[(0 : Fin 6)].eng.ifAt + nsOf (s.regs.AXn_IF_ALIGN_T 0) ≤ s.tbAt 0) ∧
    (let s := catching 0 (fun x => { x with eng := { x.eng with ifPhase := .blend, ifAt := 0 } });
      s.running = true ∧ s.ax[(0 : Fin 6)].eng.ifPhase = .blend ∧ s.ax[(0 : Fin 6)].eng.ifAt + nsOf (s.regs.AXn_IF_BLEND 0) ≤ s.tbAt 0) := by decide +kernel

/-- The standing speed is at least NMIN, and is NMIN where VMIN is 0. -/
theorem nStand_ge (s : State) (n : Fin 6) : s.regs.AXn_OBS_NMIN n ≤ s.nStand n := le_max_left _ _
theorem nStand_eq (s : State) (n : Fin 6) (h : s.regs.AXn_CATCH_VMIN n = 0) (hp : 0 ≤ s.regs.AXn_OBS_NMIN n) : s.nStand n = s.regs.AXn_OBS_NMIN n := by
  simp [State.nStand, h, hp]

/-- A speed of 50 rpm is below the standing speed where NMIN is 100 rpm, and is not where NMIN is 10 rpm: the command in force then points its way, or the
other way. -/
theorem witness_CatchAndIf_decisions :
    absR 50 < (catching 0x42C80000 id).nStand 0 ∧ absR 50 < (onVoltages id).nStand 0 ∧
    (¬ absR 50 < (catching 0x41200000 id).nStand 0 ∧ (catching 0x41200000 id).dirCmd 0 = 0) ∧
    (let s := cmdWith (fun c => { c with mode := 1, set := -5 }) (catching 0x41200000 id);
      s.measuring 0 = true ∧ s.encUsable 0 = true ∧ ¬ absR 50 < s.nStand 0 ∧ s.dirCmd 0 ≠ 0 ∧ s.dirCmd 0 ≠ signR 50) := by
  refine ⟨lt_of_lt_of_le (by decide +kernel) (nStand_ge _ 0), lt_of_lt_of_le (by decide +kernel) (nStand_ge _ 0), ⟨?_, by decide +kernel⟩,
    by decide +kernel, by decide +kernel, ?_, by decide +kernel, by decide +kernel⟩ <;>
  · rw [nStand_eq _ _ (by decide +kernel) (by decide +kernel)]; decide +kernel

/-- AX0 in RUN on the observer, with criterion 3 of a loss of synchronism. -/
def losing (f : AxSt → AxSt) : State :=
  axWith f (axWith (fun x => { x with state := .run, eng := { x.eng with angSrc := .observer, c3 := true } }) (rig .drive))

/-- AX0 in ASC on the low side for a cause. -/
def inAsc (cause : Nat) (f : AxSt → AxSt) : State :=
  axWith f (axWith (fun x => { x with state := .asc, bridge := .ascLow, ascSt := { x.ascSt with cause := cause, from' := .run, since := 0 } }) (rig .drive))

theorem witness_LossOfSynchronismAndAscEnd :
    (let s := losing id;
      s.running = true ∧ s.ax[(0 : Fin 6)].state = .run ∧ s.ax[(0 : Fin 6)].eng.angSrc = .observer ∧ s.losBits 0 ≠ 0 ∧
      (s.ax[(0 : Fin 6)].losAt.filter (fun t => decide (s.tbAt 0 < t + 10000000000))).length < 2 ∧ s.nAsc 0 ≤ s.losSpeed 0) ∧
    (let s := inAsc 1 (fun x => { x with eng := { x.eng with locked := some 0 } });
      s.running = true ∧ s.mayReacquire 0 = true ∧ s.ax[(0 : Fin 6)].ascSt.resume = none ∧
      s.ax[(0 : Fin 6)].eng.locked = some 0 ∧ 0 + nsOf (s.regs.AXn_LOCK_T 0) ≤ s.tbAt 0) ∧
    (let s := inAsc 1 (fun x => { x with ascSt := { x.ascSt with resume := some 5 } });
      s.running = true ∧ s.ax[(0 : Fin 6)].state = .asc ∧ s.ax[(0 : Fin 6)].ascSt.resume = some 5 ∧ 5 ≤ s.tbAt 0 ∧
      s.ax[(0 : Fin 6)].ascSt.from' = .run ∧ s.mode.mode = .drive) ∧
    (let s := inAsc 1 id;
      s.running = true ∧ s.ax[(0 : Fin 6)].state = .asc ∧ s.ax[(0 : Fin 6)].ascSt.cause ≠ 2 ∧ s.ax[(0 : Fin 6)].ascFault = false ∧ s.ax[(0 : Fin 6)].blind = false ∧
      s.ax[(0 : Fin 6)].ascSt.resume = none ∧ s.ax[(0 : Fin 6)].ascSt.since + nsOf (s.regs.AXn_ASC_REACQ_T 0) ≤ s.tbAt 0) ∧
    (let s := inAsc 2 (fun x => { x with ascSt := { x.ascSt with below := some 990000000 } });
      s.running = true ∧ s.ax[(0 : Fin 6)].state = .asc ∧ s.ax[(0 : Fin 6)].ascSt.cause = 2 ∧ s.ax[(0 : Fin 6)].blind = false ∧
      s.ax[(0 : Fin 6)].ascSt.below = some 990000000 ∧ 990000000 + 10000000 ≤ s.tbAt 0) ∧
    (∀ cause ∈ [1, 2, 3],
      let s := inAsc cause (fun x => { x with blind := true, ascSt := { x.ascSt with blindEnd := some 1000000000 } });
      s.running = true ∧ s.ax[(0 : Fin 6)].state = .asc ∧ s.ax[(0 : Fin 6)].blind = true ∧ s.ax[(0 : Fin 6)].ascSt.blindEnd = some 1000000000 ∧ 1000000000 ≤ s.tbAt 0 ∧
      s.ax[(0 : Fin 6)].ascSt.cause = cause ∧ s.ax[(0 : Fin 6)].ascFault = false) := by decide +kernel

/-- Such an axis at rest with an ASC fraction and a flux of 1, one pole pair and 100 V at its DC-link input. -/
def losingSlow : State :=
  let s := reg [(Reg.AXn_ASC_FRAC 0, 0x3F800000), (Reg.AXn_MOT_PSI 0, 0x3F800000), (Reg.AXn_FOC_CFG 0, 0x101)] (losing id);
  { s with sns := { s.sns with ain := vset s.sns.ain 0 (fun a => { a with valid := true, lastValid := 100 }) } }

/-- Its decision speed is below n_ASC on every device whose constants for π and the root of 3, which the model leaves free (log 3), are positive. -/
theorem witness_LossOfSynchronismAndAscEnd_slow (hpi : 0 < Config.pi) (h3 : 0 < Config.sqrtFree 3) :
    losingSlow.running = true ∧ losingSlow.ax[(0 : Fin 6)].state = .run ∧ losingSlow.ax[(0 : Fin 6)].eng.angSrc = .observer ∧ losingSlow.losBits 0 ≠ 0 ∧
    (losingSlow.ax[(0 : Fin 6)].losAt.filter (fun t => decide (losingSlow.tbAt 0 < t + 10000000000))).length < 2 ∧
    losingSlow.losSpeed 0 < losingSlow.nAsc 0 := by
  refine ⟨by decide +kernel, by decide +kernel, by decide +kernel, by decide +kernel, by decide +kernel, ?_⟩
  have h0 : losingSlow.losSpeed 0 = 0 := by decide +kernel
  have hv : losingSlow.sns.ain[losingSlow.vdcAin 0].valid = true := by decide +kernel
  have hl : losingSlow.sns.ain[losingSlow.vdcAin 0].lastValid = 100 := by decide +kernel
  have hf : losingSlow.regs.AXn_ASC_FRAC (0 : Fin 6) = 1 := by decide +kernel
  have hp : losingSlow.regs.AXn_FOC_CFG_POLES (0 : Fin 6) = 1 := by decide +kernel
  have hm : losingSlow.regs.AXn_MOT_PSI (0 : Fin 6) = 1 := by decide +kernel
  have hq : sqrtR 3 = Config.sqrtFree 3 := by
    have : ¬ ((3 : Rat) ≤ 0) := by decide +kernel
    have h2 : ¬ (Nat.sqrt (3 : Rat).num.natAbs * Nat.sqrt (3 : Rat).num.natAbs = (3 : Rat).num.natAbs ∧
      Nat.sqrt (3 : Rat).den * Nat.sqrt (3 : Rat).den = (3 : Rat).den) := by decide +kernel
    simp only [sqrtR, this, h2, if_false]
  rw [h0]
  simp only [State.nAsc, hv, hl, hf, hp, hm, hq, if_true]
  positivity

theorem witness_AxisCommands :
    ((rig .drive).writes host = true ∧ (rig .drive).holds host = true ∧ (rig .drive).axAlloc 0 = true ∧ (rig .drive).mode.mode ≠ .hold ∧
      (∀ m : Fin 4, (rig .drive).setOk 0 m.val ((rig .drive).regs.AXn_CMD_SET 0) = true)) ∧
    (let s := reg [(Reg.AXn_CMD_SET 0, 0x7F000000)] (rig .drive);
      s.writes host = true ∧ s.holds host = true ∧ ∀ m ∈ [1, 2, 3], s.setOk 0 m (s.regs.AXn_CMD_SET 0) = false) ∧
    ((rig .hold).writes host = true ∧ (rig .hold).mode.mode = .hold ∧ (rig .drive).axAlloc 1 = false ∧
      (∀ m : Fin 4, (rig .hold).setOk 0 m.val ((rig .hold).regs.AXn_CMD_SET 0) = true)) ∧
    (let s := reg [(Reg.AXn_CMD 0, 1)] (rig .drive);
      s.axAlloc 0 = true ∧ f32Norm 0 = some 0 ∧ s.setOk 0 (s.regs.AXn_CMD_MODE 0) (f32ToRat 0) = true ∧
      f32Norm 0x7F000000 = some 0x7F000000 ∧ s.setOk 0 (s.regs.AXn_CMD_MODE 0) (f32ToRat 0x7F000000) = false ∧
      s.cmd.ax[(0 : Fin 6)].hcRef = none ∧ s.regs.wf = true) ∧
    (let s := cmdWith (fun c => { c with hcRef := some (1000000000, 1, 2) }) (rig .drive);
      s.cmd.ax[(0 : Fin 6)].hcRef = some (1000000000, 1, 2) ∧ s.regs.wf = true ∧ s.tbAt 0 - 0 - nsOf (s.regs.AXn_HC_LAT 0) ≤ 1000000000) ∧
    (let s := axIn 0 .run (rig .limp);
      bit 1 0 = true ∧ s.writes host = true ∧ s.holds host = true ∧ s.axAlloc 0 = true ∧ s.mode.mode = .limp ∧ s.ax[(0 : Fin 6)].state = .run) ∧
    (let s := cmdWith (fun c => { c with ownSrc := 2, can := { c.can with lastAt := some 0 } }) (reg [(Reg.AXn_CMD_CFG 0, 0x6401)] (rig .drive));
      s.running = true ∧ s.cmd.ax[(0 : Fin 6)].ownSrc = 2 ∧ s.cmd.ax[(0 : Fin 6)].can.lost = false ∧ s.cmd.ax[(0 : Fin 6)].can.lastAt = some 0 ∧
      0 + s.regs.AXn_CMD_CFG_CAN_TMO 0 * 10000000 = s.tbAt 0) := by decide +kernel

theorem witness_AxisClears :
    (rig .drive).writes host = true ∧ (rig .drive).may true host = true ∧
    (let named : Fin 10 → Bool := fun a => bit (w32 ((1 : BitVec 6).toNat + 256 * (0 : BitVec 4).toNat)) (if a.val < 6 then a.val else a.val + 2);
      let s := axIn 0 .halt (rig .drive);
      named 0 = true ∧ (∀ a, named a = true → s.clearCode a = 0) ∧ (∀ k ∈ s.cmd.clears, named k.axis = false) ∧
      s.detectorsQuiet (axis10 0) = true ∧ s.ax[(0 : Fin 6)].haltReason ≠ 0x0609 ∧ (rig .drive).clearCode 0 ≠ 0 ∧
      (rig .drive).ax[(0 : Fin 6)].state ≠ .halt) ∧
    (∀ a : Fin 10, bit (w32 ((0 : BitVec 6).toNat + 256 * (0 : BitVec 4).toNat)) (if a.val < 6 then a.val else a.val + 2) = false) := by decide +kernel

/-- AX0 in RUN at TB_NOW = 1 s, with some parts of its commands changed. -/
def runCmd (f : CmdAx → CmdAx) : State := cmdWith f (axIn 0 .run (reg [(Reg.AXn_ICE_CFG 0, 0x301)] (rig .drive)))

theorem witness_AxisTimers :
    (∀ k ∈ [StopKind.command, .brake, .fault 0x0601 false],
      let s := axWith (fun x => { x with state := .stop, stopKind := k, still := some 900000000 }) (rig .drive);
      s.running = true ∧ s.ax[(0 : Fin 6)].state = .stop ∧ s.ax[(0 : Fin 6)].stopKind = k ∧ s.ax[(0 : Fin 6)].still = some 900000000 ∧ s.ax[(0 : Fin 6)].stopFree = false ∧
      900000000 + 100000000 ≤ s.tbAt 0 ∧ s.ax[(0 : Fin 6)].stopAt + nsOf (s.regs.AXn_STOP_TMO 0) ≤ s.tbAt 1000000000000) ∧
    (let s := runCmd (fun c => { c with twHot := some 0 });
      s.running = true ∧ s.cmd.ax[(0 : Fin 6)].twHot = some 0 ∧ 0 + 1000000000 ≤ s.tbAt 0 ∧ s.axAlloc 0 = true ∧ s.ax[(0 : Fin 6)].state ≠ .halt) ∧
    (let s := runCmd (fun c => { c with render := true, renderLow := some 0 });
      s.cmd.ax[(0 : Fin 6)].render = true ∧ s.cmd.ax[(0 : Fin 6)].renderLow = some 0 ∧ s.tbAt 500000000000 % s.period = 0 ∧
      0 + nsOf (s.regs.AXn_WN_RND_HOLD 0) < s.tbAt 500000000000) ∧
    (let s := runCmd (fun c => { c with hcRead := some (0, 1, 2), heave := true, mode := 1, src := 1 });
      s.cmd.ax[(0 : Fin 6)].hcRead = some (0, 1, 2) ∧ s.tbAt 0 % s.period = 0 ∧ s.heaveActs 0 = true ∧ s.cmd.ax[(0 : Fin 6)].stale = false ∧
      nsOf (s.regs.AXn_HC_AGE_MAX 0) < s.tbAt 0 - 0) ∧
    (let s := runCmd (fun c => { c with impact := some (3, 1000000000) });
      s.cmd.ax[(0 : Fin 6)].impact = some (3, 1000000000) ∧ 1000000000 ≤ s.tbAt 0) ∧
    (∀ k ∈ [0, 2],
      let s := runCmd (fun c => { c with iceSince := some 0, stalls := k });
      s.cmd.ax[(0 : Fin 6)].iceSince = some 0 ∧ s.regs.AXn_ICE_CFG_EN 0 = true ∧ s.cmd.ax[(0 : Fin 6)].icePhase = 0 ∧ s.tbAt 500000000000 % s.period = 0 ∧
      0 + nsOf (s.regs.AXn_ICE_STALL_T 0) ≤ s.tbAt 500000000000 ∧ s.ax[(0 : Fin 6)].state = .run ∧
      (k = 0 → s.cmd.ax[(0 : Fin 6)].stalls + 1 < s.regs.AXn_ICE_CFG_RETRY_MAX 0) ∧ (k = 2 → s.regs.AXn_ICE_CFG_RETRY_MAX 0 ≤ s.cmd.ax[(0 : Fin 6)].stalls + 1)) ∧
    (∀ k ∈ [1, 2],
      let s := runCmd (fun c => { c with icePhase := k });
      s.cmd.ax[(0 : Fin 6)].icePhase = k ∧ s.cmd.ax[(0 : Fin 6)].tStar = 0 ∧
      s.cmd.ax[(0 : Fin 6)].iceAt + nsOf (s.regs.AXn_ICE_PAUSE_T 0) ≤ s.tbAt 500000000000 ∧
      s.cmd.ax[(0 : Fin 6)].iceAt + nsOf (s.regs.AXn_ICE_BACK_T 0) ≤ s.tbAt 500000000000) ∧
    (let s := runCmd (fun c => { c with hiSince := some 0, loSince := some 0, regOne := some 900000000, motOne := some 900000000, regLim := true, motLim := true });
      s.running = true ∧ s.axAlloc 0 = true ∧
      ∀ b : Bool, (if b then s.cmd.ax[(0 : Fin 6)].hiSince else s.cmd.ax[(0 : Fin 6)].loSince) = some 0 ∧
        0 + nsOf (s.regs.AXn_VDC_CRIT_T 0) ≤ s.tbAt 500000000000 ∧ (if b then s.cmd.ax[(0 : Fin 6)].critHi else s.cmd.ax[(0 : Fin 6)].critLo) = false ∧
        (if b then s.cmd.ax[(0 : Fin 6)].regOne else s.cmd.ax[(0 : Fin 6)].motOne) = some 900000000 ∧
        (if b then s.cmd.ax[(0 : Fin 6)].regLim else s.cmd.ax[(0 : Fin 6)].motLim) = true ∧ 900000000 + 100000000 ≤ s.tbAt 0) := by decide +kernel

theorem witness_AxisTimers_brake :
    let s := axIn 0 .stop (rig .brake);
    s.running = true ∧ s.mode.mode = .brake ∧ s.mode.brakeTmo = false ∧ s.axAlloc 0 = true ∧ s.ax[(0 : Fin 6)].state.quiet = false ∧
      (∀ m : Fin 6, m ≠ 0 → s.ax[m].state.quiet = true) ∧ s.mode.brakeAt + s.regs.DEV_MODE_CFG_BRAKE_TMO * 1000000000 ≤ s.tbAt 500000000000 := by
  decide +kernel

theorem witness_AuxCommands :
    (let s := auxWith (fun a => { a with valid := true }) (rig .drive);
      s.writes host = true ∧ s.holds host = true ∧ ¬ s.regs.AUXn_SPD_MAX 0 < absR (s.regs.AUXn_CMD_SET 0) ∧ s.auxAlloc 0 = true ∧ s.mode.mode ≠ .hold ∧
      s.aux[(0 : Fin 4)].valid = true ∧ (if s.regs.AUXn_HOME_CFG 0 then s.aux[(0 : Fin 4)].posi.inhibit else s.aux[(0 : Fin 4)].neg.inhibit) = false) ∧
    (let s := reg [(Reg.AUXn_CMD_SET 0, 0x7F000000)] (rig .drive);
      s.writes host = true ∧ s.holds host = true ∧ s.regs.AUXn_SPD_MAX 0 < absR (s.regs.AUXn_CMD_SET 0)) ∧
    ((rig .hold).writes host = true ∧ (rig .hold).holds host = true ∧ ¬ (rig .hold).regs.AUXn_SPD_MAX 0 < absR ((rig .hold).regs.AUXn_CMD_SET 0) ∧
      (rig .hold).mode.mode = .hold ∧ (rig .hold).auxAlloc 1 = false) ∧
    (f32Norm 0 = some 0 ∧ absR (f32ToRat 0) ≤ (rig .hold).regs.AUXn_SPD_MAX 0 ∧ (rig .hold).auxAlloc 0 = true) ∧
    (f32Norm 0x7F000000 = some 0x7F000000 ∧ (rig .hold).regs.AUXn_SPD_MAX 0 < absR (f32ToRat 0x7F000000)) := by decide +kernel

/-- AUX0 in a state, with some parts changed: PWM at 20 kHz, stall detection on, homing to the positive side over at most 10 microsteps, both
limits in use. -/
def auxRig (st : AuxState) (f : AuxAx → AuxAx) : State :=
  let s := auxWith f (auxWith (fun a => { a with state := st })
    (reg [(Reg.AUXn_STALL_CFG 0, 1), (Reg.AUXn_HOME_CFG 0, 1), (Reg.AUXn_HOME_MAX 0, 10), (Reg.AUXn_LIM_CFG 0, 0x1010)] (rig .drive)));
  { s with snt := vset s.snt (aux10 0) (fun q => { q with freq := 20000 }) }

theorem witness_AuxMotion :
    (let s := auxRig .run id;
      s.running = true ∧ s.aux[(0 : Fin 4)].state.watched = true ∧
      extremeIn s.aux[(0 : Fin 4)].valley s.snt[aux10 0].freq (s.tbAt 0) = some (40000, 1000000000) ∧ 40000 % 2 = 0 ∧ s.snt[aux10 0].upds = [] ∧ s.snt[aux10 0].late = [] ∧
      s.aux[(0 : Fin 4)].check = none ∧ s.aux[(0 : Fin 4)].aim = none) ∧
    (let s : State := { auxRig .run id with snt := vset (auxRig .run id).snt (aux10 0) (fun q => { q with upds := [{ sample := 999950000, edge := 1000000000, started := true, posted := none, pos := 0, spd := 0 }] }) };
      ∃ u ∈ s.snt[aux10 0].upds, u.sample < s.tbAt 0 ∧ u.started = true ∧ u.posted = none) ∧
    (let s := auxRig .run (fun a => { a with mode := 2, target := 5, eng := { a.eng with pos := 5 } });
      s.aux[(0 : Fin 4)].aim = some 5 ∧ s.aux[(0 : Fin 4)].eng.pos = 5 ∧ s.aux[(0 : Fin 4)].state = .run ∧ s.aux[(0 : Fin 4)].arrived = false) ∧
    (let s := auxRig .homing (fun a => { a with home := .limitStop });
      s.aux[(0 : Fin 4)].state = .homing ∧ s.aux[(0 : Fin 4)].home = .limitStop ∧ s.aux[(0 : Fin 4)].n0 = 0 ∧ s.aux[(0 : Fin 4)].n1 = 0 ∧ s.aux[(0 : Fin 4)].tries ≠ 2) ∧
    (auxRig .homing (fun a => { a with home := .limitStop, tries := 2 })).aux[(0 : Fin 4)].tries = 2 ∧
    (let s := auxRig .homing (fun a => { a with home := .awayStall, homeTo := 7, eng := { a.eng with pos := 7 } });
      s.aux[(0 : Fin 4)].state = .homing ∧ s.aux[(0 : Fin 4)].home = .awayStall ∧ s.aux[(0 : Fin 4)].eng.pos = s.aux[(0 : Fin 4)].homeTo) ∧
    (let s := auxRig .homing (fun a => { a with home := .approach, eng := { a.eng with odo := 10 } });
      s.aux[(0 : Fin 4)].home = .approach ∧ ((s.regs.AUXn_HOME_MAX 0).toNat : Rat) ≤ absR (s.aux[(0 : Fin 4)].eng.odo - s.aux[(0 : Fin 4)].homeFrom)) ∧
    (∀ st ∈ [AuxState.run, .stop, .homing],
      let s := auxRig st (fun a => { a with home := if st = .homing then .approach else .none, eng := { a.eng with ts := 1000 } });
      s.regs.AUXn_STALL_CFG 0 = true ∧ s.auxLink 0 = false ∧ s.regs.AUXn_STALL_T 0 ≤ s.aux[(0 : Fin 4)].eng.ts ∧ 0 < s.aux[(0 : Fin 4)].eng.ts ∧
      s.aux[(0 : Fin 4)].state = st ∧ (st = .homing → s.aux[(0 : Fin 4)].home = .approach)) ∧
    (∀ k ∈ [StopKind.command, .fault 0x0C06 false],
      let s := auxRig .stop (fun a => { a with energised := true, zeroAt := some 0, stopKind := k });
      s.aux[(0 : Fin 4)].energised = true ∧ s.aux[(0 : Fin 4)].zeroAt = some 0 ∧ s.aux[(0 : Fin 4)].fallAt = none ∧
      0 + nsOf (s.regs.AUXn_HOLD_DLY 0) ≤ s.tbAt 500000000000 ∧ 0 + nsOf (s.regs.AUXn_KEEP_SETTLE 0) ≤ s.tbAt 500000000000 ∧ s.aux[(0 : Fin 4)].stopAt = 0 ∧
      s.aux[(0 : Fin 4)].state = .stop ∧ s.aux[(0 : Fin 4)].stopKind = k ∧ s.aux[(0 : Fin 4)].home = .none) ∧
    (∀ bad ∈ [none, some 999000000],
      let s := auxRig .run (fun a => { a with check := some 1000000000, eng := { a.eng with checkBad := bad } });
      s.aux[(0 : Fin 4)].check = some 1000000000 ∧ 1000000000 ≤ s.tbAt 0 ∧ s.aux[(0 : Fin 4)].eng.checkBad = bad ∧ s.aux[(0 : Fin 4)].state = .run ∧
      s.regs.wf = true) := by decide +kernel

theorem witness_AuxLimits :
    (let s := auxRig .run (fun a => { a with posi := { a.posi with tripped := true } });
      s.running = true ∧ s.auxAlloc 0 = true ∧ s.limEn 0 true = true ∧ s.limEn 0 false = true ∧ (s.aux[(0 : Fin 4)].lim true).tripped = true) ∧
    (let s := auxRig .run (fun a => { a with n1 := 1 });
      (s.aux[(0 : Fin 4)].lim true).tripped = false ∧ (s.aux[(0 : Fin 4)].lim (!true)).tripped = false ∧ s.aux[(0 : Fin 4)].state ≠ .homing ∧
      s.aux[(0 : Fin 4)].state.watched = true ∧ 0 < s.aux[(0 : Fin 4)].n1) ∧
    (∀ st ∈ [AuxState.run, .ready],
      let s := auxRig st (fun a => { a with neg := { a.neg with tripped := true } });
      (s.aux[(0 : Fin 4)].lim true).tripped = false ∧ (s.aux[(0 : Fin 4)].lim (!true)).tripped = true ∧ s.limEn 0 (!true) = true ∧
      s.aux[(0 : Fin 4)].home = .none ∧ s.aux[(0 : Fin 4)].state = st) ∧
    (let s := auxRig .homing (fun a => { a with home := .approach });
      (s.aux[(0 : Fin 4)].lim true).tripped = false ∧ (s.aux[(0 : Fin 4)].lim (!true)).tripped = false ∧ s.aux[(0 : Fin 4)].state = .homing ∧
      s.aux[(0 : Fin 4)].home = .approach ∧ s.auxLink 0 = false ∧ s.regs.AUXn_HOME_CFG 0 = true ∧
      ((s.aux[(0 : Fin 4)].lim true).changes.filter (fun t => decide (s.tbAt 0 - s.regs.AUXn_LIM_CFG_FILT 0 * 100000 < t + 100000000))).length < 8) ∧
    (let s := auxRig .run (fun a => { a with posi := { a.posi with changes := List.replicate 9 999000000 } });
      (s.aux[(0 : Fin 4)].lim true).changes.getLast? = some 999000000 ∧ (s.aux[(0 : Fin 4)].lim true).inhibit = false ∧
      ((s.aux[(0 : Fin 4)].lim true).changes.filter (fun t => decide (999000000 < t + 100000000))).length = 9 ∧ s.aux[(0 : Fin 4)].state ≠ .homing) := by decide +kernel

/-- A group of two slots: AX0 of this device, whose address is 0, in slot 0, and AX0 of device 3 in slot 1; the device has some parts of the group
changed. -/
def groupWith (cfg : Nat) (f : ShareGroup → ShareGroup) : State :=
  let s := reg [(Reg.AXn_SHR_CFG 0, 0), (Reg.FAB_SHRg_CFG 0, cfg), (Reg.FAB_SHRg_MEMs 0 0, 0), (Reg.FAB_SHRg_MEMs 0 1, 3)] (rig .drive);
  { s with fab := { s.fab with addr := some 0 }, shr := vset s.shr 0 f }

/-- A REPORT of one slot with a signature, and a SHARE of slot 1 with an apply instant; a payload carries the complement behind them. -/
def report (sig slot : Nat) : List Byte := [0, 1, 0, 0] ++ leBytes 4 sig ++ zeros 32 ++ leBytes 1 slot ++ zeros 31
def share (applyAt : Nat) : List Byte := [0, 1, 0, 0] ++ leBytes 8 applyAt ++ zeros 36
def paired (b : List Byte) : List Byte := b ++ complBytes b

/-- The signature of that group (R276), over its 144 bytes in three parts. -/
def groupSig : Nat := 3716060139
def groupBytes : List Byte := [0, 2, 0, 0, 0, 0, 0, 63, 0, 0, 128, 63, 0, 0, 0, 0, 3, 0, 0, 0] ++ zeros 120
theorem groupBytes_eq : wordsBytes ([(groupWith 0x200 id).regs.get (Reg.FAB_SHRg_CFG (0 : Fin 16)), (groupWith 0x200 id).regs.get (Reg.FAB_SHRg_JOIN_T (0 : Fin 16)),
    (groupWith 0x200 id).regs.get (Reg.FAB_SHRg_DESYNC_T (0 : Fin 16))] ++ (List.range 32).map (fun k => (groupWith 0x200 id).regs.get (Reg.FAB_SHRg_MEMs (0 : Fin 16) k)) ++
    [w32 (groupWith 0x200 id).period]) = groupBytes ++ leBytes 4 (groupWith 0x200 id).period := by decide +kernel
theorem crc_part1 : crc32Run 0xFFFFFFFF#32 (groupBytes.take 48) = 3256145494#32 := by decide +kernel
theorem crc_part2 : crc32Run 3256145494#32 (zeros 48) = 2351159709#32 := by decide +kernel
theorem crc_part3 : (~~~ crc32Run 2351159709#32 (zeros 44 ++ leBytes 4 (groupWith 0x200 id).period)).toNat = groupSig := by decide +kernel
theorem groupBytes_split : groupBytes ++ leBytes 4 (groupWith 0x200 id).period =
    groupBytes.take 48 ++ zeros 48 ++ (zeros 44 ++ leBytes 4 (groupWith 0x200 id).period) := by decide +kernel
theorem witness_ShareGroups_signature : ((groupWith 0x200 id).shareSig 0).toNat = groupSig := by
  simp only [State.shareSig, crc32]
  rw [groupBytes_eq, groupBytes_split, ← crc_part3, ← crc_part2, ← crc_part1]
  simp only [crc32Run, List.foldl_append]

theorem witness_ShareGroups :
    (let s := groupWith 0x200 id;
      let foreign : ShareEntry → Bool := fun e => !(decide (e.slot < s.regs.FAB_SHRg_CFG_NMEM (0 : Fin 16)) && s.regs.FAB_SHRg_MEMs_DEV (0 : Fin 16) e.slot == 3);
      s.running = true ∧ s.usesGroup 0 = true ∧
      (∀ k ∈ [0, 1],
        let b := report groupSig k;
        unpair (paired b) = some b ∧ byteAt b 0 = 0 ∧ leAt b 4 4 = groupSig ∧
        (k = 1 → ∀ e ∈ (reportOf 3 b).entries, foreign e = false) ∧ (k = 0 → ((reportOf 3 b).entries.find? foreign).isSome = true)) ∧
      (let b := report 0 1; unpair (paired b) = some b ∧ leAt b 4 4 ≠ groupSig ∧ ∀ r ∈ s.shr[(0 : Fin 16)].reports, r.dev ≠ 3)) ∧
    (unpair (zeros 16) = none) ∧
    (let s := groupWith 0x200 id;
      ∀ at' ∈ [1000010000, 1000009999],
        let b := share at';
        let m := shareOf b (min (s.regs.FAB_SHRg_CFG_NMEM (0 : Fin 16)) 32);
        unpair (paired b) = some b ∧ byteAt b 0 = 0 ∧ s.localMembers 0 ≠ [] ∧ m.leader < min (s.regs.FAB_SHRg_CFG_NMEM (0 : Fin 16)) 32 ∧
        s.regs.FAB_SHRg_MEMs_DEV (0 : Fin 16) m.leader = 3 ∧ s.mustFollow 0 m = true ∧ s.shr[(0 : Fin 16)].cfgBad = false ∧ m.applyAt = at' ∧ s.tbAt 0 + 10000 = 1000010000) ∧
    (let s := groupWith 0x200 (fun g => { g with leader := some 0 });
      let m := shareOf (share 1000010000) (min (s.regs.FAB_SHRg_CFG_NMEM (0 : Fin 16)) 32);
      s.localMembers 0 ≠ [] ∧ m.leader < min (s.regs.FAB_SHRg_CFG_NMEM (0 : Fin 16)) 32 ∧ s.regs.FAB_SHRg_MEMs_DEV (0 : Fin 16) m.leader = 3 ∧
      s.mustFollow 0 m = false) ∧
    (groupWith 0x200 (fun g => { g with cfgBad := true })).shr[(0 : Fin 16)].cfgBad = true ∧
    (∀ cfg ∈ [0x200, 0x1000200],
      let s := groupWith cfg (fun g => { g with leader := some 0, lostCause := g.lostCause.set 1 2 });
      s.running = true ∧ s.shr[(0 : Fin 16)].leader = some 0 ∧ (s.localMembers 0).find? (fun m => m.1 == 0) = some (0, 0) ∧
      s.shr[(0 : Fin 16)].lostCause[(1 : Fin 32)] ≠ 0 ∧ s.regs.FAB_SHRg_CFG_LOSS_POL (0 : Fin 16) = decide (cfg ≠ 0x200)) ∧
    (let s : State := { rig .drive with tbs := { (rig .drive).tbs with syncLost := true } };
      s.tbs.syncLost = true ∧ s.tbs.lostSince + nsOf (s.regs.FAB_SHRg_DESYNC_T (0 : Fin 16)) ≤ s.tbAt 500000000000) := by decide +kernel

/-- A device whose safety has some parts changed. -/
def safWith (f : SafSt → SafSt) (s : State) : State := { s with saf := f s.saf }

/-- The STO pair and SI0 with test pulses every 100 ms in use. -/
def safRig (m : Mode) (f : SafSt → SafSt) : State :=
  safWith (fun q => f { q with tpo0 := { phase := .lit }, tpo1 := { phase := .lit } })
    (reg [(Reg.SAF_STO_CFG, 1), (Reg.SAF_INk_CFG 0, 0x11), (Reg.SAF_TP, 0x640101)] (rig m))

theorem witness_SafeInputs :
    (∀ chB : Bool, (if chB then (safRig .drive id).saf.rawB[(0 : Fin 9)] else (safRig .drive id).saf.rawA[(0 : Fin 9)]) = false) ∧
    (∀ chB : Bool,
      let s := safRig .drive (fun q => { q with bronze := { q.bronze with filtA := q.bronze.filtA.set 8 true, filtB := q.bronze.filtB.set 8 true } });
      s.safLive = true ∧ (s.advance 0).filtDue true 8 chB = true ∧ s.regs.SAF_STO_CFG_EN = true ∧
      (if chB then s.saf.rawB[(8 : Fin 9)] else s.saf.rawA[(8 : Fin 9)]) = false ∧ s.operates = true ∧ s.saf.sto = false ∧ s.saf.silent = false ∧
      s.saf.bronze.acted.contains 0x200 = false) ∧
    ((rig .drive).running = true ∧ (rig .drive).tbAt 0 % 50000 = 0) ∧
    (let s := safRig .drive (fun q => { q with out := vset q.out 0 (fun o => { o with edmC := some (true, 5) }) });
      s.saf.out[(0 : Fin 4)].edmC = some ((1 : BitVec 4).getLsbD (0 : Fin 4).val, 5) ∧ s.saf.out[(0 : Fin 4)].limited = false) ∧
    (let s := safRig .drive (fun q => { q with bronze := { q.bronze with since := q.bronze.since.set 0 (some 0) }, cobalt := { q.cobalt with since := q.cobalt.since.set 8 (some 0) } });
      s.operates = true ∧ s.saf.sto = false ∧ s.saf.silent = false ∧ (s.advance 500000000000).discDue true 0 = true ∧ (s.advance 500000000000).discDue false 0 = false ∧
      (s.advance 500000000000).discDue true 8 = false ∧ (s.advance 500000000000).discDue false 8 = true) ∧
    (∀ one : Bool, let s := safRig .drive id;
      s.running = true ∧ (s.tpo one).phase = .lit ∧
      (s.tbAt (if one then 25000000 else 0) + (if one then s.regs.SAF_TP_PER * 1000000 / 2 else 0)) % (s.regs.SAF_TP_PER * 1000000) = 0) ∧
    (∀ one rec bronze : Bool,
      let p : TpPhase := if rec then .recover else .dark;
      let o : TpoSt := { phase := p, phaseB := p, began := 0, high := 1 };
      let s := safWith (fun q => { q with tpo0 := o, tpo1 := o }) (safRig .drive id);
      s.running = true ∧ (if bronze then (s.tpo one).phaseB else (s.tpo one).phase) = (if rec then .recover else .dark) ∧
      (s.tpo one).began + s.regs.SAF_TP_W * 10000 + (if rec then s.regs.SAF_TP_REC * 10000 else 0) ≤ (s.advance 0).now ∧
      s.pairTp 0 = true ∧ (s.tpo one).high.getLsbD 0 = true ∧ (0 : BitVec 8).getLsbD 0 = false ∧ (1 : BitVec 8).getLsbD 0 = true ∧
      ∀ i : Fin 8, s.pairTp ⟨i.val, by omega⟩ = true → i = 0) ∧
    (∀ bronze : Bool, let s := safRig .drive id;
      (19199 < 19200 ∧ 30000 < 30001) ∧ s.operates = true ∧ (s.view bronze).v24sOut = false ∧ s.saf.sto = false ∧ s.saf.silent = false) ∧
    (∀ bronze : Bool,
      let out (v : SafView) : SafView := { v with v24sOut := true };
      let s := safRig .drive (fun q => { q with bronze := out q.bronze, cobalt := out q.cobalt });
      s.running = true ∧ s.saf.silent = false ∧ (s.view bronze).v24sOut = true) := by
  refine ⟨?_, ?_, ?_, ?_, ?_, ?_, ?_, ?_, ?_⟩ <;> decide +kernel

/-- An SS1 of slot 0 that both channels have seen since the state of reset. -/
def ss1 (typ : Nat) (stand : Option Nat) : Ss1Run :=
  ⟨0, typ, some 0, some 0, Vector.replicate 6 0, Vector.replicate 6 0, stand, stand⟩

theorem witness_ChannelChecks :
    (let s := axIn 0 .run (safRig .drive (fun q => { q with cmpBad := 1, ss1 := [ss1 3 none] }));
      s.operates = true ∧ s.saf.sto = false ∧ (∀ k : Fin 12, s.hasLatched (0x700 + k.val) = false) ∧ s.tbAt 0 % 500000 = 0 ∧ s.tbAt 0 % 100000 = 0 ∧
      1 ≤ s.saf.cmpBad ∧ s.saf.cmpAt + 1500000 ≤ (s.advance 0).now ∧ (∃ r ∈ s.saf.ss1, r.typ = 3) ∧ s.monitored 0 = true ∧
      s.saf.romAt + 600000000000 ≤ (s.advance 300000000000).now ∧ s.saf.mirrorAt + 2000000 ≤ (s.advance 0).now ∧
      (∃ n, s.monitored n = true)) ∧
    (let s := safRig .drive id;
      s.operates = true ∧ s.tbAt 0 % 500000 = 0 ∧ s.saf.cobalt.filtA = s.saf.bronze.filtA ∧ s.saf.cobalt.filtB = s.saf.bronze.filtB ∧
      s.saf.cobalt.fault = s.saf.bronze.fault ∧ s.saf.cobalt.v24sOut = s.saf.bronze.v24sOut ∧ s.saf.cobalt.conn = s.saf.bronze.conn ∧ s.saf.ss1 = [] ∧
      s.pathActs true = s.pathActs false ∧ s.saf.sto = false ∧ ∀ k : Fin 4, s.saf.out[k].cmdC = s.saf.out[k].cmdB) ∧
    ((phase .loading State.reset).pwr.phase = .loading) ∧
    (let s := safRig .safe (fun q => { q with sto := true });
      s.operates = true ∧ s.saf.sto = true ∧ s.saf.silent = false ∧ s.gd.blocked = false ∧ s.saf.stoAt + 1000000 ≤ (s.advance 0).now ∧ s.hasLatched 0x706 = false) ∧
    (let s := safRig .hold id;
      s.operates = true ∧ s.saf.ptDue = false ∧ s.saf.ptAt + s.regs.SAF_CFG * 3600000000000 < (s.advance 1000000000000000000).now) := by decide +kernel

/-- Safe output 0 as an SBC output, with some parts of it and of the SS1 that run changed. -/
def outWith (lead : Nat) (l : List Ss1Run) (f : SafOut → SafOut) : State :=
  reg [(Reg.SAF_FNk_T 0, 0x40000000), (Reg.SAF_FNk_LEAD 0, lead), (Reg.SAF_SOk_CFG 0, 1)]
    (safRig .drive (fun q => { q with ss1 := l, out := vset q.out 0 f, bronze := { q.bronze with still := some 0 }, cobalt := { q.cobalt with still := some 0 } }))

/-- The output is on. -/
def lit (o : SafOut) : SafOut := { o with cmdC := true, cmdB := true, swC := true, swB := true }

theorem witness_StopsAndOutputs :
    (∀ bronze : Bool,
      let r := ss1 2 none;
      let s := outWith 0 [r] id;
      s.operates = true ∧ s.saf.silent = false ∧ s.saf.sto = false ∧ r ∈ s.saf.ss1 ∧ (if bronze then r.atB else r.atC) = some 0 ∧ 0 + nsOf (s.regs.SAF_FNk_T r.slot) = (s.advance 500000000).now) ∧
    (∀ bronze : Bool,
      let r := ss1 3 (some 0);
      let s := outWith 0x3F800000 [r] id;
      s.operates = true ∧ s.saf.sto = false ∧ r ∈ s.saf.ss1 ∧ r.stand bronze = some 0 ∧ 0 + s.leadNs r.slot = (s.advance 0).now) ∧
    (∀ bronze : Bool, ∀ lead ∈ [0, 0x3F800000],
      let r := ss1 3 none;
      let s := outWith lead [r] lit;
      s.operates = true ∧ (s.view bronze).still = some 0 ∧
      s.saf.ss1.find? (fun r => r.typ == 3 && (r.since bronze).isSome && (r.stand bronze).isNone) = some r ∧ 0 + 10000000 ≤ (s.advance 0).now ∧
      s.saf.sto = false ∧ (s.leadNs r.slot = 0 ↔ lead = 0) ∧ s.regs.SAF_SOk_CFG_MODE (0 : Fin 4) = 1 ∧
      (if bronze then s.saf.out[(0 : Fin 4)].sbcB else s.saf.out[(0 : Fin 4)].sbcC) = false ∧ s.saf.out[(0 : Fin 4)].cmd = true) ∧
    (∀ bronze : Bool,
      let r := ss1 2 none;
      let s := outWith 0x3F800000 [r] lit;
      r ∈ s.saf.ss1 ∧ r.typ = 2 ∧ r.since bronze = some 0 ∧ 0 + (nsOf (s.regs.SAF_FNk_T r.slot) - s.leadNs r.slot) = (s.advance 0).now ∧
      s.regs.SAF_SOk_CFG_MODE (0 : Fin 4) = 1 ∧ (if bronze then s.saf.out[(0 : Fin 4)].sbcB else s.saf.out[(0 : Fin 4)].sbcC) = false ∧
      s.saf.out[(0 : Fin 4)].cmd = true) ∧
    (∀ last ∈ ([none, some 0] : List (Option Nat)), ∀ bronze : Bool,
      let s := outWith 0 [] (fun o => { lit o with lastC := if bronze then some 0 else last, lastB := last });
      s.operates = true ∧ s.saf.out[(0 : Fin 4)].isOn = true ∧ s.saf.out[(0 : Fin 4)].darkC = none ∧ s.saf.out[(0 : Fin 4)].darkB = none ∧
      (if bronze then s.saf.out[(0 : Fin 4)].lastB else s.saf.out[(0 : Fin 4)].lastC) = last ∧ 0 + s.soTper 0 ≤ (s.advance 500000000000).now ∧
      (bronze = true → s.saf.out[(0 : Fin 4)].lastC = some 0 ∧ 0 + s.soTper 0 / 2 ≤ (s.advance 500000000000).now)) ∧
    (∀ bronze : Bool,
      let s := outWith 0 [] (fun o => if bronze then { lit o with swB := false, darkB := some 0 } else { lit o with swC := false, darkC := some 0 });
      s.operates = true ∧ (if bronze then s.saf.out[(0 : Fin 4)].darkB else s.saf.out[(0 : Fin 4)].darkC) = some 0 ∧ 0 + s.soTpw 0 ≤ (s.advance 0).now ∧
      s.saf.out[(0 : Fin 4)].offInTest = false ∧ s.saf.sto = false ∧ s.saf.out[(0 : Fin 4)].fault = false ∧ 4999 < 5000) ∧
    (∀ bronze : Bool,
      let s := outWith 0 [] (fun o => { o with edmC := some (true, 0), edmB := some (true, 0) });
      s.operates = true ∧ s.saf.sto = false ∧ s.saf.out[(0 : Fin 4)].fault = false ∧ s.saf.out[(0 : Fin 4)].cmd = false ∧ 12000 < 12001 ∧
      s.saf.out[(0 : Fin 4)].offAt + 1000000 ≤ (s.advance 0).now ∧
      (if bronze then s.saf.out[(0 : Fin 4)].edmB else s.saf.out[(0 : Fin 4)].edmC) = some (true, 0) ∧ 0 ≤ (s.advance 0).now ∧
      s.saf.edm.getLsbD 0 ≠ true) := by refine ⟨?_, ?_, ?_, ?_, ?_, ?_, ?_⟩ <;> decide +kernel

/-- SRST in a device in a mode, both channels without a demand, with some parts of it changed. -/
def srstWith (m : Mode) (sto : Bool) (f : SrstSt → SrstSt) : State :=
  safRig m (fun q =>
    let up (v : SafView) : SafView := { v with filtA := Vector.replicate 9 true, filtB := Vector.replicate 9 true }
    { q with cobalt := up q.cobalt, bronze := up q.bronze, sto := sto, srst := f { q.srst with high := true, bronze := true, pressAt := 0 } })

theorem witness_ResetContact :
    ((rig .drive).saf.srst.high = false ∧ (rig .drive).saf.srst.lowAt + 1000000000 = ((rig .drive).advance 0).now) ∧
    (let s := srstWith .safe true id;
      s.running = true ∧ s.saf.srst.high = true ∧ s.saf.srst.pressAt + 70000000 ≤ (s.advance 0).now ∧ s.saf.srst.pressAt + 30000000000 = (s.advance 14500000000).now) ∧
    (let s := srstWith .safe true (fun x => { x with stuckPress := true }); s.running = true ∧ s.saf.srst.high = true ∧ s.saf.srst.stuckPress = true) ∧
    (let s := srstWith .safe true (fun x => { x with bronze := false }); s.saf.srst.stuckPress = false ∧ s.saf.srst.bronze = false) ∧
    (let s := srstWith .safe true (fun x => { x with pressAt := 900000001 });
      s.saf.srst.stuckPress = false ∧ s.saf.srst.bronze = true ∧ (s.advance 0).now - s.saf.srst.pressAt = 99999999) ∧
    (let s := srstWith .safe true id; s.saf.srst.stuckPress = false ∧ s.saf.srst.bronze = true ∧ 3000000000 < (s.advance 1000000001).now - s.saf.srst.pressAt) ∧
    (let s := srstWith .hold true id;
      s.saf.srst.stuckPress = false ∧ s.saf.srst.bronze = true ∧ 100000000 ≤ (s.advance 0).now - s.saf.srst.pressAt ∧
      (s.advance 1000000000).now - s.saf.srst.pressAt = 3000000000 ∧ s.mode.mode ≠ .safe) ∧
    (∀ sto : Bool,
      let s := srstWith .safe sto (fun x => { x with pressAt := 900000000 });
      s.running = true ∧ s.saf.srst.stuckPress = false ∧ s.saf.srst.bronze = true ∧ (s.advance 0).now - s.saf.srst.pressAt = 100000000 ∧ s.mode.mode = .safe ∧
      s.saf.srst.stuck = false ∧ s.srstMay = sto) := by decide +kernel

/-- No demand comes at the instant of a release. -/
theorem witness_ResetContact_first :
    let s := safWith (fun q => { q with rawA := Vector.replicate 9 true, rawB := Vector.replicate 9 true }) (srstWith .safe true id);
    (s.advance 1).demandsFirst = s.advance 1 := by decide +kernel

/-- Connection 0 with a configuration, and what each channel holds of it and the rest of it changed. -/
def conWith (cfg : Nat) (r : SafRecv → SafRecv) (f : SafConn → SafConn) : State :=
  let s := reg [(Reg.SAF_CONc_CFG 0, cfg), (Reg.SAF_CONc_ID 0, 7), (Reg.SAF_CONc_TIM 0, 0x10001)] (safRig .drive (fun q => { q with
    conn := vset q.conn 0 f, bronze := { q.bronze with conn := vset q.bronze.conn 0 r }, cobalt := { q.cobalt with conn := vset q.cobalt.conn 0 r } }));
  { s with tbs := { s.tbs with synced := true } }

/-- An envelope with SEQ 5 and a time stamp of 1 s, and its first 20 bytes. -/
def envHead : List Byte := leBytes 4 5 ++ leBytes 8 1000000000 ++ leBytes 4 0x80000001 ++ leBytes 4 0x7FFFFFFE
def envelope : List Byte := envHead ++ leBytes 4 (envCheck 7 envHead).toNat

theorem witness_SafeMessages :
    (let b := envelope;
      let s := conWith 0x11 (fun x => { x with last := some 4 }) id;
      s.running = true ∧ s.consumes 0 = true ∧ b.length = 24 ∧ w32 (leAt b 20 4) = envCheck (s.regs.SAF_CONc_ID (0 : Fin 16)) b ∧
      w32 (leAt b 16 4) = ~~~ w32 (leAt b 12 4) ∧ (∀ bronze : Bool, (s.view bronze).conn[(0 : Fin 16)].last = some 4) ∧
      (1 ≤ (leAt b 0 4 + 0x100000000 - 4) % 0x100000000 ∧ (leAt b 0 4 + 0x100000000 - 4) % 0x100000000 ≤ 0x7FFFFFFF) ∧
      s.regs.SAF_CONc_CFG_AGE (0 : Fin 16) = true ∧ s.tbs.synced = true ∧ bit (w32 (leAt b 12 4)) 31 = true ∧
      (leAt b 4 8 ≤ s.tbAt 0 + 1000 ∧ s.tbAt 0 - leAt b 4 8 ≤ s.regs.SAF_CONc_TIM_WDT (0 : Fin 16) * 1000000) ∧
      s.saf.cobalt.conn[(0 : Fin 16)].run < 2 ∧ ¬ (zeros 24).length = 23 ∧ w32 (leAt (zeros 24) 20 4) ≠ envCheck (s.regs.SAF_CONc_ID (0 : Fin 16)) (zeros 24)) ∧
    (let s := conWith 0x11 (fun x => { x with last := some 4, run := 2 }) id;
      s.consumes 0 = true ∧ 2 ≤ s.saf.cobalt.conn[(0 : Fin 16)].run ∧ s.saf.cobalt.conn[(0 : Fin 16)].valid = false) ∧
    (let old : SafRecv := { last := some 5 };
      let s := safWith (fun q => { q with cobalt := { q.cobalt with conn := q.cobalt.conn.set 0 old } }) (conWith 0x11 (fun x => { x with last := some 4 }) id);
      s.saf.cobalt.conn[(0 : Fin 16)].last = some 5 ∧ s.saf.bronze.conn[(0 : Fin 16)].last = some 4 ∧
      ¬ 1 ≤ (leAt envelope 0 4 + 0x100000000 - 5) % 0x100000000) ∧
    (∀ bronze : Bool, ∀ sel ∈ [0, 0x8000],
      let s := reg [(Reg.SAF_FNk_CFG 0, 1), (Reg.SAF_FNk_SEL 0, sel)] (conWith 1 (fun x => { x with run := 1, at' := 0 }) id);
      s.operates = true ∧ s.saf.silent = false ∧ s.consumes 0 = true ∧ (s.view bronze).conn[(0 : Fin 16)].run ≠ 0 ∧
      (s.view bronze).conn[(0 : Fin 16)].at' + s.regs.SAF_CONc_TIM_WDT (0 : Fin 16) * 1000000 ≤ (s.advance 0).now ∧ (s.slotsOf (0 : Fin 16).val = [] ↔ sel = 0)) ∧
    (∀ k : Fin 2, let s := conWith (11 + 4 * k.val) id id;
      s.running = true ∧ s.produces 0 = true ∧ s.saf.conn[(0 : Fin 16)].sent = none ∧ s.regs.SAF_CONc_CFG_CH (0 : Fin 16) = 2 + k.val) ∧
    (let d := (conWith 11 id id).saf.mirror.data;
      let s := conWith 11 id (fun x => { x with sent := some d, sentAt := 1000000000 });
      s.produces 0 = true ∧ s.saf.conn[(0 : Fin 16)].sent ≠ none ∧ ¬ s.saf.conn[(0 : Fin 16)].sentAt + s.regs.SAF_CONc_TIM_PER (0 : Fin 16) * 100000 ≤ (s.advance 0).now ∧
      s.saf.conn[(0 : Fin 16)].sent = some s.saf.mirror.data) := by refine ⟨?_, ?_, ?_, ?_, ?_, ?_⟩ <;> decide +kernel

/-- Link 0 with some parts changed, and the fabric with some parts changed. -/
def linkWith (f : LinkSt → LinkSt) (s : State) : State := { s with fab := { s.fab with links := vset s.fab.links 0 f } }
def fabWith (f : FabSt → FabSt) (s : State) : State := { s with fab := f s.fab }
/-- Link 0 in a state in a device that runs. -/
def linkIn (st : LinkState) : State := linkWith (fun l => { l with state := st }) (rig .drive)

theorem witness_LinkStates :
    ((linkIn .start).running = true ∧ (linkIn .start).fab.links[(0 : Fin 6)].state = .start ∧ (linkIn .start).linkIdle 0) ∧
    (∀ st ∈ [LinkState.active, .parked],
      let s := linkWith (fun l => { l with helloTx := 990000000 }) (linkIn st);
      (s.fab.links[(0 : Fin 6)].state = .active ∨ s.fab.links[(0 : Fin 6)].state = .parked) ∧ s.fab.links[(0 : Fin 6)].helloTx + 10000000 = (s.advance 0).now ∧ s.linkIdle 0) ∧
    (let s := linkWith (fun l => { l with runAt := 990000000 }) (linkIn .hello);
      s.fab.links[(0 : Fin 6)].state = .hello ∧ s.fab.links[(0 : Fin 6)].runAt + 10000000 = (s.advance 0).now) ∧
    (∀ l ∈ [(8, 0), (0, 32)],
      let s := linkWith (fun x => { x with errAt := List.replicate l.1 900000000, badAt := List.replicate l.2 900000000 }) (linkIn .active);
      s.fab.links[(0 : Fin 6)].state ≠ .off ∧ s.fab.links[(0 : Fin 6)].state ≠ .down ∧
      l.1 = (s.fab.links[(0 : Fin 6)].errAt.filter (fun u => decide ((s.advance 0).now < u + 1000000000))).length ∧
      l.2 = (s.fab.links[(0 : Fin 6)].badAt.filter (fun u => decide ((s.advance 0).now < u + 1000000000))).length ∧ (8 ≤ l.1 ∨ 32 ≤ l.2)) ∧
    (let s := linkIn .active; s.fab.links[(0 : Fin 6)].state ≠ .off ∧ (byteAt (zeros 5) 0).testBit 7 = false) ∧
    (let s := linkIn .down; s.fab.links[(0 : Fin 6)].state = .down ∧ s.fab.links[(0 : Fin 6)].downAt + 1000000000 = (s.advance 0).now) ∧
    (let s := linkWith (fun l => { l with helloRx := 950000000 }) (linkIn .active);
      s.fab.links[(0 : Fin 6)].state = .active ∧ s.fab.links[(0 : Fin 6)].helloRx + 50000000 = (s.advance 0).now) ∧
    (let s := fabWith (fun f => { f with noLink := some 950000000 }) (reg [(Reg.DEV_MODE_CFG, 0x510000)] (rig .drive));
      s.fab.noLink = some 950000000 ∧ s.regs.DEV_MODE_CFG_FAB_LOSS = true ∧ 950000000 + 10000000 * s.regs.DEV_MODE_CFG_FAB_LOSS_T = (s.advance 0).now) := by delta State.linkIdle; decide +kernel

/-- A HELLO of device 7 over its link 0. -/
def hello (topo addr : Nat) : List Byte := leBytes 8 7 ++ leBytes 1 0 ++ leBytes 1 topo ++ leBytes 1 addr ++ zeros 21
/-- A JOIN of device 9 with a claim. -/
def join9 (claim : Nat) : List Byte := leBytes 8 9 ++ leBytes 1 claim ++ zeros 55
/-- An ADMIT of an address to an identity. -/
def admitOf (id a : Nat) : List Byte := leBytes 8 id ++ leBytes 1 a ++ zeros 7

theorem witness_JoiningTheFabric :
    (let s := linkIn .hello;
      s.running = true ∧ s.fab.links[(0 : Fin 6)].state = .hello ∧ s.fab.excess = false ∧ s.fab.addr = none ∧ s.fab.joinAt = none ∧ s.fab.joinDue = false ∧ s.linkIdle 0 ∧
      (∀ b ∈ [hello 0 0x40, hello 0 1], b.length = 32 ∧ s.parkReason 0 (partnerOf b) = 0) ∧
      (partnerOf (hello 0 0x40)).addr = none ∧ (partnerOf (hello 0 1)).addr ≠ none ∧
      (hello 1 1).length = 32 ∧ s.parkReason 0 (partnerOf (hello 1 1)) = 2) ∧
    (let s := linkWith (fun l => { l with partner := some (partnerOf (hello 0 0x40)) }) (linkIn .active);
      s.fab.links[(0 : Fin 6)].state = .active ∧ s.fab.links[(0 : Fin 6)].partner = some (partnerOf (hello 0 0x40)) ∧
      (partnerOf (hello 0 0x40)).id = (partnerOf (hello 0 1)).id ∧ s.parkReason 0 (partnerOf (hello 0 0x40)) = 0 ∧ (partnerOf (hello 0 0x40)).addr = none ∧
      s.fab.addr = none ∧ s.fab.excess = false ∧ s.fab.joinAt = none ∧ s.fab.joinDue = false ∧ s.linkIdle 0 ∧ s.parkReason 0 (partnerOf (hello 0 1)) = 0 ∧ (partnerOf (hello 0 1)).addr ≠ none ∧
      (partnerOf (hello 1 1)).id = (partnerOf (hello 0 0x40)).id ∧ s.parkReason 0 (partnerOf (hello 1 1)) = 2) ∧
    (let s := reg [(Reg.FAB_CFG, 2)] (fabWith (fun f => { f with registry := [(9, 63)] }) (linkIn .active));
      (join9 63).length = 64 ∧ s.fab.links[(0 : Fin 6)].state = .active ∧ s.regs.FAB_CFG_ROOT = true ∧ s.regs.FAB_CFG_TOPO = false ∧ 63 = byteAt (join9 63) 8 ∧
      (∀ r ∈ s.fab.registry, r.2 = 63 → r.1 = leAt (join9 63) 0 8) ∧ s.fab.registry.length < 64 ∧ (∀ j : Fin 6, s.linkIdle j)) ∧
    (let s := fabWith (fun f => { f with addr := some 1 }) (linkIn .active);
      s.fab.links[(0 : Fin 6)].state = .active ∧ s.regs.FAB_CFG_ROOT = false ∧ s.fab.excess = false ∧ s.fab.addr = some 1 ∧ s.rootLink = some 0 ∧ s.linkCarries 0 2 = true) ∧
    (let s := fabWith (fun f => { f with excess := true }) (linkIn .active);
      s.fab.links[(0 : Fin 6)].state = .active ∧ s.regs.FAB_CFG_ROOT = false ∧ s.fab.excess = true) ∧
    (let s := fabWith (fun f => { f with joinAt := some 0 }) (linkWith (fun l => { l with partner := some (partnerOf (hello 0 1)) }) (linkIn .active));
      s.fab.joinAt = some 0 ∧ 0 + 1000000000 = (s.advance 0).now ∧ (∀ j : Fin 6, s.linkIdle j) ∧ s.fab.addr = none ∧ s.fab.excess = false ∧ s.fab.links[(0 : Fin 6)].state = .active ∧
      s.fab.links[(0 : Fin 6)].partner = some (partnerOf (hello 0 1)) ∧ (partnerOf (hello 0 1)).addr ≠ none) := by
  delta State.linkIdle; refine ⟨?_, ?_, ?_, ?_, ?_, ?_⟩ <;> decide +kernel

/-- The identity is 8 bytes. -/
theorem ownId_lt : ownId < 2 ^ 64 := by
  unfold ownId
  simp only [List.range, List.range.loop, List.map, leNat]
  omega

theorem admit_fields (id a : Nat) (h : id < 2 ^ 64) (ha : a < 256) :
    (admitOf id a).length = 16 ∧ leAt (admitOf id a) 0 8 = id ∧ byteAt (admitOf id a) 8 = a := by
  refine ⟨by simp [admitOf, leBytes, zeros], ?_, ?_⟩
  · simp only [leAt, admitOf, leBytes, List.cons_append, List.nil_append, List.drop_zero, List.take_succ_cons, List.take_zero, leNat, BitVec.toNat_ofNat]
    omega
  · simp only [byteAt, admitOf, leBytes, List.cons_append, List.nil_append, List.drop_succ_cons, List.drop_zero, List.headD_cons, BitVec.toNat_ofNat]
    omega

theorem witness_JoiningTheFabric_admit :
    (let s := linkIn .active; s.running = true ∧ s.fab.links[(0 : Fin 6)].state = .active ∧ s.fab.addr = none ∧ s.fab.excess = false) ∧
    (∀ a ∈ [63, 64], let b := admitOf ownId a; b.length = 16 ∧ leAt b 0 8 = ownId ∧ byteAt b 8 = a) ∧
    (∃ id ∈ [1, 2],
      let s := fabWith (fun f => { f with relays := [(id, 0)] }) (linkIn .active);
      id ≠ ownId ∧ (admitOf id 5).length = 16 ∧ leAt (admitOf id 5) 0 8 = id ∧ s.fab.links[(0 : Fin 6)].state = .active ∧
      s.fab.relays.find? (fun r => r.1 == id) = some (id, (0 : Fin 6).val) ∧ s.linkCarries 0 3 = true) := by
  refine ⟨by decide +kernel, fun a ha => admit_fields _ a ownId_lt (by simp at ha; omega), ?_⟩
  by_cases h : ownId = 1
  · exact ⟨2, by simp, by simp [h], by decide +kernel, by decide +kernel, by decide +kernel, by decide +kernel, by decide +kernel⟩
  · exact ⟨1, by simp, fun e => h e.symm, by decide +kernel, by decide +kernel, by decide +kernel, by decide +kernel, by decide +kernel⟩

theorem witness_RoutesAndTime :
    ((zeros 66).length = 66 ∧ (rig .drive).running = true) ∧
    (∀ cfg ∈ [0x1F10, 0],
      let s := reg [(Reg.FRZ_CFG, cfg)] (rig .drive);
      s.fab.seen.contains ((1 : BitVec 6).toNat, 7, (5 : BitVec 16).toNat) = false ∧ (s.frzReason 4 false = 0 ↔ cfg ≠ 0) ∧ s.frz.pending = none) ∧
    ((fabWith (fun f => { f with seen := [(1, 7, 5)] }) (rig .drive)).fab.seen.contains ((1 : BitVec 6).toNat, 7, (5 : BitVec 16).toNat) = true) ∧
    (∀ v ∈ [1, 2],
      let s := fabWith (fun f => { f with applyAt := [(1000000000, 2)], tblNext := [(2, (zeros 64).map (·.toNat))], tblVer := v }) (rig .drive);
      s.fab.applyAt.find? (fun a => decide (a.1 ≤ s.tbAt 0)) = some (1000000000, 2) ∧ s.fab.tblNext.find? (fun x => x.1 == 2) = some (2, (zeros 64).map (·.toNat)) ∧ s.fab.joinDue = false ∧
      (s.fab.tblVer < 2 ↔ v = 1)) ∧
    ((fabWith (fun f => { f with applyAt := [(1000000000, 2)] }) (rig .drive)).fab.tblNext.find? (fun x => x.1 == 2) = none) ∧
    (let s := fabWith (fun f => { f with addr := some 1 }) (linkIn .active);
      s.parent = some 0 ∧ s.tbAt 0 / 1000000 * 1000000 + 10000 * (0 : Fin 6).val ≤ s.tbAt 0 ∧ s.fab.links[(0 : Fin 6)].reqMs ≠ some (s.tbAt 0 / 1000000) ∧ s.linkIdle 0) ∧
    (∀ loaded : Bool,
      let s : State := fabWith (fun f => { f with addr := some 1 }) (linkWith (fun l => { l with t1 := some 999999000 }) (linkIn .active));
      let s : State := { s with tbs := { s.tbs with loaded := loaded } };
      s.parent = some 0 ∧ (zeros 24).length = 24 ∧ byteAt (zeros 24) 16 < 15 ∧ (zeros 16 ++ [15] ++ zeros 7).length = 24 ∧ byteAt (zeros 16 ++ [15] ++ zeros 7) 16 = 15 ∧ s.fab.links[(0 : Fin 6)].state = .active ∧ s.fab.links[(0 : Fin 6)].t1 = some 999999000 ∧ s.tbs.loaded = loaded) ∧
    ((linkIn .active).fab.links[(0 : Fin 6)].state = .active ∧ (linkIn .active).linkIdle 0) ∧
    (let s : State := fabWith (fun f => { f with trimLim := some 900000000, lastEx := 980000000 }) (rig .drive);
      let s : State := { s with tbs := { s.tbs with loaded := true } };
      s.tbs.loaded = true ∧ s.tbs.syncLost = false ∧ s.fab.trimLim = some 900000000 ∧ 900000000 + 100000000 = (s.advance 0).now ∧ s.fab.lastEx + 20000000 = (s.advance 0).now) := by delta State.linkIdle; decide +kernel

/-- Link 0 active, nothing recorded, with an address or none. -/
def packetRig (a : Option Nat) : State := reg [(Reg.FAB_REC_SEL, 0)] (fabWith (fun f => { f with addr := a }) (linkIn .active))

theorem witness_PacketsOnALink :
    (let s := packetRig (some 1);
      s.running = true ∧ s.fab.links[(0 : Fin 6)].state = .active ∧ (∀ (j : Fin 6) (bulk : Bool), s.fab.links[j].waits bulk = none) ∧ s.regs.FAB_REC_SEL = 0 ∧
      s.fab.links[(0 : Fin 6)].tc ≤ 255 ∧ s.route 0 = .link 0 ∧ s.fab.links[(0 : Fin 6)].upAt ≤ (s.advance 0).now ∧ s.linkIdle 0) ∧
    (packetOk false (packetOf false 1 0 0 5 0 0 (zeros 8)) = true ∧ byteAt (packetOf false 1 0 0 5 0 0 (zeros 8)) 2 = 5) ∧
    (∀ h ∈ [13, 14],
      let b := (packetOf false 0 2 0 0x10 0 0 []).set 3 (BitVec.ofNat 8 h);
      packetOk false b = true ∧ byteAt b 2 = 0x10 ∧ (byteAt b 0).testBit 7 = true ∧ (byteAt b 0).testBit 6 = false ∧ isHop (byteAt b 2) = false ∧
      byteAt b 0 % 64 = 0 ∧ byteAt b 3 = h) ∧
    (let s := reg [(Reg.FAB_CFG, 1)] (fabWith (fun f => { f with routes := f.routes.set 1 1 }) (packetRig (some 3)));
      s.route 1 = .link 1 ∧ s.fab.links[(1 : Fin 6)].state ≠ .active) ∧
    (let s := linkWith (fun l => { l with upAt := 1000000002 }) (packetRig (some 1)); (s.advance 0).now < s.fab.links[(0 : Fin 6)].upAt) ∧
    ((packetRig none).route 0 = .unreach ∧ (packetRig none).fab.links[(0 : Fin 6)].state = .active) ∧
    (packetOk false (zeros 5) = false ∧ (byteAt (zeros 5) 0).testBit 7 = false) ∧
    (let b : List Byte := [0x40, 1]; b ≠ [] ∧ byteAt b 0 = 0x40 ∧ (packetRig none).fab.links[(0 : Fin 6)].bulkRx = none ∧ b.length ≤ 4117) ∧
    (let s := linkWith (fun l => { l with bulkRx := some [] }) (packetRig none);
      let b : List Byte := [0x40, 1];
      b ≠ [] ∧ s.fab.links[(0 : Fin 6)].bulkRx.isSome = (byteAt b 0).testBit 6) ∧
    (∀ bulk : Bool,
      let w : WaitPkt := { at' := if bulk then 990000000 else 999900000, bytes := [], links := [0] };
      let s := linkWith (fun l => { l with urgIn := some w, bulkIn := some w }) (packetRig none);
      s.fab.links[(0 : Fin 6)].waits bulk = some w ∧ w.at' + (if bulk then 10000000 else 100000) = (s.advance 0).now) := by
  delta State.linkIdle; refine ⟨?_, ?_, ?_, ?_, ?_, ?_, ?_, ?_, ?_, ?_⟩ <;> decide +kernel

/-- A packet that waits for a link that is not ACTIVE still waits: nothing drains. -/
theorem witness_PacketsOnALink_waits :
    let w : WaitPkt := { at' := 999900000, bytes := [], links := [1] };
    let s := linkWith (fun l => { l with urgIn := some w }) (packetRig (some 3));
    s.fab.links[(0 : Fin 6)].waits false = some w ∧ w.at' + 100000 = (s.advance 0).now ∧ (s.advance 0).waitDrain = s.advance 0 := by decide +kernel

/-- A good packet of each of the messages between partners. -/
theorem witness_PacketsOnALink_messages :
    packetOk false (packetOf false 1 0 0 1 0 0 (zeros 32)) = true ∧ packetOk false (packetOf false 1 0 0 3 0 0 (zeros 16)) = true ∧
    packetOk false (packetOf false 1 0 0 6 0 0 (zeros 24)) = true := by decide +kernel

/-- The control ports of a device with some parts changed. -/
def cpWith (f : CpSt → CpSt) (s : State) : State := { s with cp := f s.cp }
def other : Origin := ⟨.B, none⟩

theorem witness_ControlToken :
    (let s := rig .drive; s.running = true ∧ s.serves host = true ∧ s.cp.suspended = [] ∧ s.cp.token.waiting = [] ∧ (host.cls = .A ∨ host.cls = .B)) ∧
    (let s := rig .drive; let w := nsOf s.regs.CP_TOK_WIN; s.tbAt 0 < s.tbAt 0 - 0 + w ∧ s.tbAt 0 = s.tbAt 0 - w + w) ∧
    ((cpWith (fun c => { c with token := { c.token with holder := none } }) (rig .drive)).cp.token.holder = none) ∧
    (let s := reg [(Reg.CP_CFG, 0x20)] (cpWith (fun c => { c with token := { c.token with holder := some other } }) (rig .drive));
      s.serves host = true ∧ s.regs.CP_CFG_TAKE_EN = true ∧ s.cp.token.holder ≠ some host ∧ s.cp.token.holder = some other ∧ other ≠ host) ∧
    (let s0 := rig .drive;
      let r : TokenReq := ⟨{ s0.ctx host 3 with stamp := s0.tbAt 0 - nsOf s0.regs.CP_TOK_WIN }, false, .entry⟩;
      let s := cpWith (fun c => { c with token := { c.token with holder := none, waiting := [r] } }) s0;
      s.cp.suspended = [] ∧ s.cp.token.waiting = [r] ∧ r.dest = .entry ∧ s.cp.token.holder = none ∧ r.ctx.stamp + nsOf s.regs.CP_TOK_WIN = s.tbAt 0) ∧
    ((rig .drive).holds host = true ∧ host.cls ≠ .M ∧ (rig .drive).cp.token.holder ≠ none) ∧
    ((rig .drive).cp.token.renewed + nsOf (rig .drive).regs.CP_LEASE ≤ (rig .drive).tbAt 500000000000) ∧
    (let s := cpWith (fun c => { c with viols := List.replicate 32 (host, 1000000000) }) (rig .drive);
      s.quarantined host = false ∧ burst ((s.cp.viols.filter (fun v => v.1 == host)).map (·.2)) = true ∧ s.holds host = true ∧ s.holds other = false) ∧
    (let s : State := { rig .drive with can := vset (rig .drive).can 0 (fun x => { x with viols := List.replicate 32 1000000000 }) };
      s.can[(0 : Fin 2)].quar = none ∧ burst s.can[(0 : Fin 2)].viols = true) ∧
    (let s := cpWith (fun c => { c with quar := [(host, 1000000000)] }) (rig .drive);
      (host, 1000000000) ∈ s.cp.quar ∧ 1000000000 ≤ s.tbAt 0 ∧ host.dev = none) ∧
    (let s : State := { rig .drive with can := vset (rig .drive).can 0 (fun x => { x with quar := some 1000000000 }) };
      s.can[(0 : Fin 2)].quar = some 1000000000 ∧ 1000000000 ≤ s.tbAt 0) := by decide +kernel

/-- An image session of class M at a state. -/
def session (st : Nat) (s : State) : State :=
  cpWith (fun c => { c with image := { c.image with state := st, owner := if st = 0 then none else some maint } }) s

theorem witness_ImageSession :
    (let s := session 0 (rig .hold);
      s.running = true ∧ s.serves maint = true ∧ maint.cls = .M ∧ s.mode.mode = .hold ∧ s.cp.image.state = 0 ∧ s.cp.image.owner = none) ∧
    (let s := session 2 (rig .hold); s.cp.image.owner = some maint ∧ s.mode.mode = .hold ∧ s.cp.image.state = 2) ∧
    (∀ off ∈ [64, 0x100000 - 4], 64 ≤ off ∧ off % 4 = 0 ∧ (zeros 4).length % 4 = 0 ∧ (zeros 4).length ≤ 2048 ∧ off + (zeros 4).length ≤ 0x100000) ∧
    (goodHdr.length = 64 ∧ (crc32 (goodHdr.take 60)).toNat = leAt goodHdr 60 4) ∧
    ((zeros 64).length = 64 ∧ (crc32 ((zeros 64).take 60)).toNat ≠ leAt (zeros 64) 60 4) ∧
    ((rig .hold).serves host = true ∧ (host.cls = .A ∨ host.cls = .B)) ∧
    ((session 1 (rig .hold)).cp.image.state = 1 ∧ (session 3 (rig .hold)).cp.image.state = 3) ∧
    (let s := session 2 (rig .hold); s.cp.image.state ≠ 0 ∧ s.cp.image.lastAt + 60000000000 ≤ s.tbAt 60000000000) := by decide +kernel

/-- A request frame of two NOP entries with a SEQ. -/
def nopFrame (seq : Nat) : List Byte := jcpFrame 1 7 seq 0x40 2 (leBytes 1 4 ++ zeros 3 ++ leBytes 1 4 ++ zeros 3)

/-- The port of CPA with some parts changed; the form of CPA and of CPB. -/
def portWith (form : Nat) (f : PortSt → PortSt) (s : State) : State :=
  reg [(Reg.CP_CFG, form)] (cpWith (fun c => { c with ports := vset c.ports 0 f }) s)

theorem witness_FramesAtPorts_request :
    (∀ q ∈ ([none, some 4] : List (Option Nat)),
      let s := portWith 1 (fun x => { x with seqRef := q }) (rig .drive);
      let b := nopFrame 5;
      s.running = true ∧ s.serves ⟨portCls 0, none⟩ = true ∧ frameOk b = true ∧ byteAt b 6 = 0x40 ∧ frameEntries b = some [⟨4, []⟩, ⟨4, []⟩] ∧
      s.cp.ports[(0 : Fin 3)].inFlight < 8 ∧ s.cp.suspended = [] ∧ s.cp.token.waiting = [] ∧ s.cp.ports[(0 : Fin 3)].seqRef = q ∧ leAt b 4 2 = (4 + 1) % 65536 ∧
      s.portForm 0 ≠ 2 ∧ s.portOpen 0 = true) ∧
    (let s := portWith 2 id (rig .drive); s.portForm 0 = 2 ∧ s.portOpen 0 = true ∧ s.cp.ports[(0 : Fin 3)].queue.length < 16 ∧ s.serves ⟨portCls 0, none⟩ = true) ∧
    (let s := rig .drive; 1 ≤ bitEdge s.mntBaud 100 ∧ bitEdge s.mntBaud 100 < 10000000 ∧ preambleAt 0 (leBytes 1 0 ++ leBytes 1 0 ++ leBytes 1 7) = none) := by decide +kernel

theorem witness_FramesAtPorts :
    (let s := portWith 1 (fun x => { x with seqRef := some 5, cached := some [1] }) (rig .drive);
      s.cp.ports[(0 : Fin 3)].seqRef = some (leAt (nopFrame 5) 4 2) ∧ s.cp.ports[(0 : Fin 3)].cached = some [1] ∧ s.portForm 0 ≠ 2) ∧
    (let s := rig .drive;
      s.serves ⟨portCls 2, none⟩ = true ∧ s.portOpen 2 = true ∧ preambleAt 0 (nopFrame 5) = none) ∧
    (let s := portWith 2 id (rig .drive); s.portForm (cpPort 0) = 2 ∧ s.cp.ports[cpPort 0].queue = []) ∧
    (let s := portWith 2 (fun x => { x with queue := [⟨false, [1]⟩] }) (rig .drive); s.portForm (cpPort 0) = 2 ∧ s.cp.ports[cpPort 0].queue = ⟨false, [1]⟩ :: []) ∧
    (let f : Forward := ⟨0, 7, 5, 3, 980000000, nopFrame 5⟩;
      let s := portWith 1 id (cpWith (fun c => { c with forwards := [f] }) (rig .drive));
      s.cp.forwards.find? (fun f => f.port == 0 && f.tag == (7 : BitVec 16).toNat) = some f ∧ s.portForm 0 ≠ 2 ∧ s.portOpen 0 = true ∧ f.sentAt + 20000000 = (s.advance 0).now) ∧
    (∀ up : Bool, let s := portWith 1 (fun x => { x with up := !up }) (rig .drive); s.portForm (cpPort 0) = 1 ∧ s.cp.ports[cpPort 0].up = !up) := by decide +kernel

theorem witness_EntriesAlone :
    (∀ cfg ∈ [0x1F08, 0],
      let s := reg [(Reg.FRZ_CFG, cfg)] (rig .drive);
      s.serves maint = true ∧ maint.cls = .M ∧ (s.frzReason 2 false = 0 ↔ cfg ≠ 0) ∧ s.frz.pending = none) ∧
    ((rig .drive).serves host = true ∧ (host.cls = .A ∨ host.cls = .B) ∧ host.dev = none ∧ envelope.length = 24) ∧
    (let s := conWith 5 id id; s.serves host = true ∧ s.consumes 0 = true ∧ s.regs.SAF_CONc_CFG_CH (0 : Fin 16) = 1 ∧
      s.regs.SAF_CONc_ADDR (0 : Fin 16) % 2 = (clsPort host.cls).val) ∧
    (∀ k : Fin 16, ¬ ((rig .drive).consumes k = true ∧ (rig .drive).regs.SAF_CONc_CFG_CH k = 1 ∧
      (rig .drive).regs.SAF_CONc_ADDR k % 2 = (clsPort host.cls).val)) := by decide +kernel

/-- CAN0 runs with a configuration word, one filter for identifier 0x100 of a role whose frames are recorded, and AX0 with a binding word. -/
def canWith (cfg role bind : Nat) (f : CanCtl → CanCtl) : State :=
  let s := reg [(Reg.CANn_CFG 0, cfg), (Reg.CANn_FLT_CNT 0, 1), (Reg.CANn_FLTf_ID 0 0, 0x100), (Reg.CANn_FLTf_MASK 0 0, 0x1FFFFFFF),
    (Reg.CANn_FLTf_CFG 0 0, role + 4), (Reg.AXn_CMD_CFG 0, bind)] (rig .drive);
  { s with can := vset s.can 0 (fun x => f { x with started := true }) }

/-- The command of AX0 over CAN was renewed at TB_NOW = 1 s. -/
def live (s : State) : State := { s with cmd := { s.cmd with ax := vset s.cmd.ax 0 (fun c => { c with can := { c.can with lastAt := some 1000000000 } }) } }

/-- A frame with identifier 0x100. -/
def frame (fdf : Bool) (data : List Byte) : CanFrame := ⟨0x100, false, fdf, false, false, false, data, 0⟩
/-- A setpoint 0 of a mode and a counter for AX0, of the native and of the heritage profile. -/
def setNew (m cnt : Nat) : CanFrame :=
  let d := leBytes 1 0 ++ leBytes 1 (m + 8) ++ leBytes 1 cnt ++ leBytes 5 0
  frame true (d ++ complBytes d)
def setOld (m cnt : Nat) : CanFrame :=
  let d := beBytes 2 0 ++ beBytes 2 (32768 + 4096 * m + cnt)
  frame false (d ++ complBytes d)
/-- A heave sample 0 with a counter for AX0. -/
def heaveNew (cnt : Nat) : CanFrame :=
  let d := leBytes 2 0 ++ leBytes 1 cnt ++ leBytes 9 0
  frame true (d ++ complBytes d)
def heaveOld (cnt : Nat) : CanFrame :=
  let d := beBytes 2 0 ++ beBytes 2 (cnt * 4096)
  frame false (d ++ complBytes d)

/-- Those frames say what they are to say. -/
theorem setNew_says (role bind : Nat) (f : CanCtl → CanCtl) (m cnt : Nat) (h : (canWith 1 role bind f).regs.CANn_CFG_PROFILE (0 : Fin 2) = false) (hm : m < 8)
    (hc : cnt < 256) : (canWith 1 role bind f).saysSet 0 (setNew m cnt) 0 m true false cnt 0 :=
  ⟨hm, hc, rfl, Or.inl ⟨h, rfl, 0, 0, by decide +kernel, by decide +kernel, by simp [setNew, frame, leBytes, b2n]⟩⟩
theorem setOld_says (role bind : Nat) (f : CanCtl → CanCtl) (m cnt : Nat) (h : (canWith 9 role bind f).regs.CANn_CFG_PROFILE (0 : Fin 2) = true) (hm : m < 8)
    (hc : cnt < 256) : (canWith 9 role bind f).saysSet 0 (setOld m cnt) 0 m true false cnt 0 :=
  ⟨hm, hc, rfl, Or.inr ⟨h, rfl, 0, by decide, by decide, by simp, by simp [setOld, frame, b2n]⟩⟩
theorem heaveNew_says (role bind : Nat) (f : CanCtl → CanCtl) (cnt : Nat) (h : (canWith 1 role bind f).regs.CANn_CFG_PROFILE (0 : Fin 2) = false)
    (hc : cnt < 256) : (canWith 1 role bind f).saysHeave 0 (heaveNew cnt) 0 cnt 256 0 0 :=
  ⟨hc, rfl, Or.inl ⟨h, rfl, rfl, 0, 0, 0, 0, by decide +kernel, by decide +kernel, by decide +kernel, by decide +kernel, by simp [heaveNew, frame, leBytes]⟩⟩
theorem heaveOld_says (role bind : Nat) (f : CanCtl → CanCtl) (cnt : Nat) (h : (canWith 9 role bind f).regs.CANn_CFG_PROFILE (0 : Fin 2) = true)
    (hc : cnt < 16) : (canWith 9 role bind f).saysHeave 0 (heaveOld cnt) 0 cnt 16 0 0 :=
  ⟨hc, rfl, Or.inr ⟨h, rfl, rfl, 0, 0, by decide, by decide, by decide, by decide, by simp, by simp, by simp [heaveOld, frame]⟩⟩

/-- The controller is ready, not in quarantine, and takes a frame by filter 0 with a record. -/
def takes (s : State) (role : Nat) (f : CanFrame) : Bool :=
  s.running && decide (s.can[(0 : Fin 2)].bus ≤ 1) && !s.can[(0 : Fin 2)].abd.run && s.can[(0 : Fin 2)].quar.isNone && s.canRole 0 f == .filtered 0 role true

theorem witness_CanMessages_setpoint :
    (∀ cfg ∈ [1, 9],
      let fr (m cnt : Nat) : CanFrame := if cfg = 1 then setNew m cnt else setOld m cnt;
      let s := canWith cfg 1 0x101 id;
      let l := live (canWith cfg 1 0x101 (fun x => { x with spCnt := x.spCnt.set 0 (some 254) }));
      s.regs.CANn_CFG_PROFILE (0 : Fin 2) = decide (cfg = 9) ∧ l.regs.CANn_CFG_PROFILE (0 : Fin 2) = decide (cfg = 9) ∧
      takes s 1 (fr 1 9) = true ∧ s.regs.AXn_CMD_CFG_CAN (0 : Fin 6) = (0 : Fin 2).val + 1 ∧ s.setOk 0 1 0 = true ∧ (s.advance 0).canLive 0 = false ∧
      (∀ c ∈ [255, 1, 254, 2], takes l 1 (fr 1 c) = true ∧ (1 ≤ (c + 256 - 254) % 256 ∧ (c + 256 - 254) % 256 ≤ 3 ↔ c = 255 ∨ c = 1) ∧
        ((c + 256 - 254) % 256 > 3 ↔ c = 2)) ∧
      (l.advance 0).canLive 0 = true ∧ l.can[(0 : Fin 2)].spCnt[(0 : Fin 6)] = some 254 ∧ l.can[(0 : Fin 2)].spNew[(0 : Fin 6)] = false ∧ l.setOk 0 1 0 = true ∧
      takes s 1 (fr 4 9) = true ∧ ¬ 4 ≤ 3 ∧ s.can[(0 : Fin 2)].spNew[(0 : Fin 6)] = false ∧
      takes (canWith cfg 1 0 id) 1 (fr 1 9) = true ∧ (canWith cfg 1 0 id).regs.AXn_CMD_CFG_CAN (0 : Fin 6) ≠ (0 : Fin 2).val + 1) := by decide +kernel

theorem witness_CanMessages_live :
    (live (canWith 1 1 0x101 (fun x => { x with spCnt := x.spCnt.set 0 (some 254) }))).saysSet 0 (setNew 1 255) 0 1 true false 255 0 ∧
    (live (canWith 9 1 0x101 (fun x => { x with spCnt := x.spCnt.set 0 (some 254) }))).saysSet 0 (setOld 1 2) 0 1 true false 2 0 :=
  ⟨setNew_says 1 0x101 (fun x => { x with spCnt := x.spCnt.set 0 (some 254) }) 1 255 (by decide +kernel) (by decide) (by decide),
    setOld_says 1 0x101 (fun x => { x with spCnt := x.spCnt.set 0 (some 254) }) 1 2 (by decide +kernel) (by decide) (by decide)⟩

theorem witness_CanMessages_refused :
    (let s := canWith 1 1 0x101 id;
      takes s 1 (frame true []) = true ∧ ([] : List Byte).length ≠ 16 ∧ s.regs.CANn_CFG_PROFILE (0 : Fin 2) = false ∧
      takes s 1 (frame true (zeros 16)) = true ∧ (s.parseSet 0 (frame true (zeros 16))).isSome = true ∧
      (zeros 16).drop ((zeros 16).length / 2) ≠ complBytes ((zeros 16).take ((zeros 16).length / 2))) ∧
    (let s := canWith 1 1 0x101 (fun x => { x with quar := some 2000000000 });
      s.can[(0 : Fin 2)].quar ≠ none ∧ s.canRole 0 (setNew 1 9) = .filtered 0 1 true ∧ s.can[(0 : Fin 2)].bus ≤ 1) ∧
    (let s := canWith 1 2 0x101 id; takes s 2 (frame true []) = true ∧ ([] : List Byte).length ≠ 24) ∧
    (let s := canWith 1 2 0x101 (fun x => { x with quar := some 2000000000 });
      s.can[(0 : Fin 2)].quar ≠ none ∧ s.canRole 0 (heaveNew 9) = .filtered 0 2 true ∧ s.can[(0 : Fin 2)].bus ≤ 1) := by decide +kernel

theorem witness_CanMessages_heave :
    (∀ cfg ∈ [1, 9],
      let fr (cnt : Nat) : CanFrame := if cfg = 1 then heaveNew cnt else heaveOld cnt;
      let s := canWith cfg 2 0x101 id;
      let l := live (canWith cfg 2 0x101 (fun x => { x with hvCnt := x.hvCnt.set 0 (some 5) }));
      s.regs.CANn_CFG_PROFILE (0 : Fin 2) = decide (cfg = 9) ∧ takes s 2 (fr 9) = true ∧ s.regs.AXn_CMD_CFG_CAN (0 : Fin 6) = (0 : Fin 2).val + 1 ∧
      (s.advance 0).lastCount 0 true 0 = none ∧
      (∀ c ∈ [6, 8, 9], takes l 2 (fr c) = true ∧ ∀ size ∈ [16, 256], ((c + size - 5) % size > 3 ↔ c = 9) ∧ 1 ≤ (c + size - 5) % size) ∧
      (l.advance 0).lastCount 0 true 0 = some 5 ∧ (l.advance 5000000000).lastCount 0 true 0 = none ∧ l.can[(0 : Fin 2)].hvNew[(0 : Fin 6)] = false) := by decide +kernel

/-- A frame without data that has waited from the start. -/
def waiting (id : Nat) (ide : Bool) : TxFrame := ⟨id, ide, false, false, [], 0⟩

/-- CAN0 sends every millisecond from a periodic slot and has a frame pending in a host slot. -/
def canSend (cfg : Nat) (f : CanCtl → CanCtl) : State :=
  reg [(Reg.CANn_TXPk_CFG 0 0, 8), (Reg.CANn_TXPk_PER 0 0, 0x3A83126F), (Reg.CANn_TXHh_FMT 0 0, 8)]
    (canWith cfg 0 0x101 (fun x => f { x with host := x.host.set 0 { state := 1 } }))

theorem witness_CanTraffic :
    (let s := canWith 1 0 0x101 id;
      s.running = true ∧ (∀ c : Fin 16, s.consumes c = false) ∧ 0 < s.regs.CANn_FLT_CNT (0 : Fin 2) ∧ s.regs.CANn_FLTf_ID_IDE (0 : Fin 2) 0 = false ∧
      ((0x100 : BitVec 29).toNat ^^^ s.regs.CANn_FLTf_ID_ID (0 : Fin 2) 0) &&& s.regs.CANn_FLTf_MASK (0 : Fin 2) 0 = 0 ∧
      takes s 0 (frame true []) = true ∧ s.canRole 0 { frame true [] with id := 0x101 } = .unmatched) ∧
    (let s0 := conWith 9 id id;
      let s : State := { s0 with can := vset s0.can 0 (fun x => { x with started := true }) };
      s.can[(0 : Fin 2)].bus ≤ 1 ∧ s.can[(0 : Fin 2)].abd.run = false ∧ s.canRole 0 { frame true envelope with id := 0 } = .envelope 0) ∧
    (∀ ok ∈ [0, 1],
      let s := canWith 0x121 0 0x101 (fun x => { x with abd := { run := true, ok := ok, since := 0 } });
      s.can[(0 : Fin 2)].started = true ∧ s.can[(0 : Fin 2)].abd.run = true ∧ s.can[(0 : Fin 2)].abd.ok = ok ∧
      s.can[(0 : Fin 2)].abd.since + nsOf (s.regs.CANn_ABD_DWELL (0 : Fin 2)) ≤ s.tbAt 500000000000 ∧
      (s.can[(0 : Fin 2)].cand + 1) % max 1 (s.regs.CANn_CFG_ABD_N (0 : Fin 2)) = 0 ∧ s.can[(0 : Fin 2)].abd.noted = false) ∧
    (let s := canWith 1 0 0x101 (fun x => { x with integrating := true }); s.can[(0 : Fin 2)].started = true ∧ s.can[(0 : Fin 2)].integrating = true) ∧
    (∀ cfg ∈ [1, 9],
      let s := canSend cfg id;
      s.can[(0 : Fin 2)].started = true ∧ s.can[(0 : Fin 2)].busOff = false ∧ s.canSends 0 = true ∧ s.regs.CANn_TXPk_CFG_EN (0 : Fin 2) (0 : Fin 8) = true ∧
      s.regs.CANn_TXPk_CFG_AXIS (0 : Fin 2) (0 : Fin 8) = (0 : Fin 6).val ∧ nsOf (s.regs.CANn_TXPk_PER (0 : Fin 2) (0 : Fin 8)) = 1000000 ∧ s.tbAt 0 % 1000000 = 0 ∧
      s.tbAt 250 % 1000000 ≠ 0 ∧ s.regs.CANn_CFG_PROFILE (0 : Fin 2) = decide (cfg = 9)) := by decide +kernel

theorem witness_CanTraffic_transmit :
    (∀ cancel : Bool,
      let s := canSend 1 (fun x => { x with host := vset x.host 0 (fun h => { h with cancel := cancel }), tec := 128 });
      (s.txFrame 0 (.host 0)).isSome = true ∧ s.running = true ∧ s.can[(0 : Fin 2)].bus ≤ 1 ∧ s.can[(0 : Fin 2)].abd.run = false ∧ s.canListen 0 = false ∧
      s.can[(0 : Fin 2)].same = [] ∧ s.can[(0 : Fin 2)].tec < 256 ∧ s.can[(0 : Fin 2)].host[(0 : Fin 4)].state = 1 ∧ s.cancelling 0 (.host 0) = cancel ∧
      ∀ f ∈ (s.txFrame 0 (.host 0)).toList, (s.advance 0).canFirst 0 (.host 0) f ((s.advance 0).now - 1000) = true) ∧
    (∀ q ∈ [waiting 0x101 false, waiting 0x401 true],
      let s := canSend 1 (fun x => { x with txPer := x.txPer.set 0 (some q), host := x.host.set 1 { state := 1 } });
      s.txFrame 0 (.periodic 0) = some q ∧ s.can[(0 : Fin 2)].abd.run = false ∧
      ∀ f ∈ (s.txFrame 0 (.host 0)).toList, ∀ g ∈ (s.txFrame 0 (.host 1)).toList, f.ide = false ∧ g.ide = f.ide ∧ g.id = f.id ∧ (0 : Fin 4) < 1 ∧ f.since < (s.advance 0).now - 1000 ∧
        (q.ide = f.ide → f.id < q.id) ∧ (q.ide = true → f.id ≤ q.id / 0x40000)) ∧
    (let s := canSend 1 id;
      s.writes host = true ∧ s.holds host = true ∧ s.may true host = true ∧ s.can[(0 : Fin 2)].host[(1 : Fin 4)].state ≠ 1 ∧ s.canSends 0 = true ∧
      s.can[(0 : Fin 2)].host[(0 : Fin 4)].state = 1 ∧ s.sameOf 0 (.host 0) = none ∧ s.can[(0 : Fin 2)].busOff = false ∧ (canSend 3 id).canSends 0 = false ∧
      s.regs.CANn_CFG_BIND (0 : Fin 2) ≠ 0 ∧ (canSend 0 id).regs.CANn_CFG_BIND (0 : Fin 2) = 0) ∧
    (let s := canSend 1 (fun x => { x with busOff := true, recov := true });
      s.regs.CANn_CFG_BIND (0 : Fin 2) ≠ 0 ∧       s.writes host = true ∧ s.may true host = true ∧ s.can[(0 : Fin 2)].busOff = true ∧ s.can[(0 : Fin 2)].recov = true) := by decide +kernel

/-- Ring 4, which takes the records of AX0, with a configuration word and its parts, an empty record of AX0 that waits, and channel 0 served by ring 4. -/
def ringWith (cfg : Nat) (f : RingSt → RingSt) : State :=
  let s := reg [(Reg.RNG_r_CFG 4, cfg), (Reg.RNG_r_HI 4, 16), (Reg.SIP_CHc_RMASK 0, 16)] (rig .drive);
  { s with recs := { s.recs with outbox := [⟨5, 0, 0x10, 0, 0, 0, []⟩] }, sip := { s.sip with rings := vset s.sip.rings 4 f } }

/-- Host channel 16, of CPA, with a chain of one descriptor in its window and some parts changed. -/
def chanWith (b : List Byte) (f : ChSt → ChSt) : State :=
  let s := reg [(Reg.SIP_CHc_CFG 16, 0x4001), (Reg.SIP_CHc_HEAD 16, 0x1380000), (Reg.SIP_CHc_VMAX 16, 4), (Reg.RNG_r_CFG 4, 0x800C)] (rig .drive);
  ({ s with sip := { s.sip with chs := vset s.sip.chs 16 f } }).sramWrite 0x1380000 b
/-- A DRAIN of ring 4 into the fetch buffer, and a COPY within the window. -/
def drain4 : List Byte := drainBytes 4 0x30 0
def copyDesc (src dst len : Nat) : List Byte :=
  zeros 4 ++ leBytes 4 src ++ leBytes 4 dst ++ leBytes 4 len ++ zeros 12 ++ complBytes (zeros 4)
/-- A device whose mover has some parts changed. -/
def sipWith (f : SipSt → SipSt) (s : State) : State := { s with sip := f s.sip }

theorem witness_RecordsInRings :
    ((rig .drive).running = true ∧ (rig .drive).recs.outbox = []) ∧
    (ringFor 0xFF 0 = none ∧ (0 : Nat) ≠ 8 ∧ (0 : Nat) ≠ 7) ∧
    (∀ cfg ∈ [0, 0x8003, 0x8004, 0x8104],
      let s := ringWith cfg id;
      ∀ r ∈ s.recs.outbox, ringFor r.unit r.typ = some 4 ∧ r.bytes.length = 16 ∧ s.regs.RNG_r_CFG_EN (4 : Fin 32) = decide (cfg ≠ 0) ∧
        (s.ringSize (4 : Fin 32) < r.bytes.length ↔ cfg = 0 ∨ cfg = 0x8003)) ∧
    (let s := ringWith 0x8104 (fun x => { x with wr := 16 });
      let x := s.sip.rings[(4 : Fin 32)];
      16 ≤ s.ringSize (4 : Fin 32) ∧ s.ringSize (4 : Fin 32) < 16 + ptrSub x.wr x.rd ∧ s.regs.RNG_r_CFG_FULL (4 : Fin 32) = true) ∧
    (let s := ringWith 0x8004 id;
      let x := s.sip.rings[(4 : Fin 32)];
      16 + ptrSub x.wr x.rd ≤ s.ringSize (4 : Fin 32) ∧ bit (s.regs.SIP_CHc_RMASK (0 : Fin 32)) 4 = true ∧
      s.regs.RNG_r_HI (4 : Fin 32) ≤ ptrSub (ptrAdd x.wr 16) x.rd ∧ s.sip.chs[(0 : Fin 32)].state = .idle ∧ bit (s.regs.SIP_CHc_RMASK (1 : Fin 32)) 4 = false) ∧
    (let q : RingRec := ⟨0, 16, 0⟩;
      let s := ringWith 0x8004 (fun x => { x with wr := 16, recs := [q] });
      let x := s.sip.rings[(4 : Fin 32)];
      x.recs = q :: [] ∧ s.regs.RNG_r_CFG_FULL (4 : Fin 32) = false ∧ s.sip.desc = none ∧ s.regs.RNG_r_CFG_TAP_CH (4 : Fin 32) = 0 ∧ 16 ≤ s.ringSize (4 : Fin 32) ∧
      s.ringSize (4 : Fin 32) < 16 + ptrSub x.wr x.rd ∧ 16 + ptrSub x.wr (ptrAdd q.pos q.len) ≤ s.ringSize (4 : Fin 32)) := by decide +kernel

theorem witness_RecordsInRings_commands :
    ((rig .drive).writes host = true ∧ (0x1000002 : Word).toNat % 4 ≠ 0 ∧ 0x1400000 ≤ (0x1400000 : Word).toNat ∧ (0xFFFFFC : Word).toNat < 0x1000000 ∧
      (0x137FFFC : Word).toNat % 4 = 0 ∧ (0x137FFFC : Word).toNat < 0x1380000) ∧
    (∀ st ∈ [ChState.idle, .stopped, .running],
      let s := chanWith [] (fun x => { x with state := st });
      s.writes host = true ∧ windowBase (16 : Fin 32) ≤ (0x1380000 : Word).toNat ∧ (0x1387FFC : Word).toNat + 4 = windowBase (16 : Fin 32) + 0x8000 ∧
      s.car.rpl.state ≠ 1 ∧ s.ownsCh host (16 : Fin 32).val = true ∧ s.ownsCh other (16 : Fin 32).val = false ∧ s.sip.chs[(16 : Fin 32)].state = st) ∧
    (let s0 := chanWith [] id;
      let s : State := { s0 with car := { s0.car with rpl := { s0.car.rpl with state := 1, ch := 16, base := 0, len := 4 } } };
      s.car.rpl.state = 1 ∧ windowBase s.car.rpl.ch + s.car.rpl.base ≤ 0x1380000 ∧ 0x1380000 < windowBase s.car.rpl.ch + s.car.rpl.base + s.car.rpl.len) ∧
    ((chanWith [] id).serves host = true ∧ (chanWith [] id).ownsCh host (17 : Fin 32).val = false) ∧
    (∀ ecc ∈ [[], [(0x1000000, true)], [(0x1000000, false)]],
      let s := sipWith (fun x => { x with ecc := ecc }) (rig .drive);
      s.serves host = true ∧ (0x1000000 : Word).toNat % 4 = 0 ∧ areaOf (0x1000000 : Word).toNat = .sram ∧ areaOf (0x13FFFFC : Word).toNat = .sram ∧ s.sip.ecc = ecc ∧
      ((∀ q ∈ s.sip.ecc, q.1 ≠ 0x1000000) ↔ ecc = []) ∧ (s.sip.ecc.find? (fun q => q.1 == 0x1000000) = some (0x1000000, true) ↔ (0x1000000, true) ∈ s.sip.ecc)) ∧
    (∀ max ∈ [16, 3968],
      let l : List (List Byte) := [zeros 16];
      let m : List (List Byte) := [zeros 3968];
      let s := chanWith [] (fun x => { x with fetch := l ++ m });
      s.ownsCh host (16 : Fin 32).val = true ∧ s.sip.chs[(16 : Fin 32)].fetch = l ++ m ∧ l ≠ [] ∧ (l.map List.length).sum ≤ max ∧
      m.head? = some (zeros 3968) ∧ max < (l.map List.length).sum + (zeros 3968).length) ∧
    (let s := chanWith [] (fun x => { x with fetch := zeros 17 :: [] }); s.sip.chs[(16 : Fin 32)].fetch = zeros 17 :: [] ∧ 16 < (zeros 17).length) ∧
    (∀ b ∈ [drain4, []],
      let s := chanWith b id;
      s.sip.chs[(16 : Fin 32)].fetch = [] ∧ s.hasFetchDest (s.headOf 16) (s.regs.SIP_CHc_VMAX (16 : Fin 32)) = decide (b = drain4)) := by decide +kernel

theorem witness_SiphonMover_channels :
    (∀ st ∈ [ChState.idle, .running, .stopped],
      let q : RingRec := ⟨0, 16, 0⟩;
      let s := sipWith (fun x => { x with chs := vset x.chs 0 (fun c => { c with state := st }) }) (ringWith 0x8004 (fun x => { x with wr := 16, recs := [q] }));
      s.running = true ∧ s.sip.halted = false ∧ bit (s.regs.SIP_CHc_RMASK (0 : Fin 32)) (4 : Fin 32).val = true ∧ s.sip.rings[(4 : Fin 32)].recs = q :: [] ∧
      q.at' + nsOf (s.regs.SIP_CHc_FLUSH (0 : Fin 32)) ≤ s.tbAt 500000000000 ∧ s.sip.chs[(0 : Fin 32)].state = st) ∧
    ((rig .drive).sip.halted = false ∧ (rig .drive).sip.desc = none ∧ (rig .drive).sip.run = none ∧ ∀ c : Fin 32, (rig .drive).sip.chs[c].state ≠ .pending) ∧
    (∀ b ∈ [drain4, []],
      let s := chanWith b (fun x => { x with state := .pending });
      s.sip.run = none ∧ 16 < 32 ∧ (16 : Fin 32) = Fin.ofNat 32 (s.sip.last + 1 + 16) ∧ s.sip.chs[(16 : Fin 32)].state = .pending ∧
      (∀ j ∈ List.range 16, s.sip.chs[(Fin.ofNat 32 (s.sip.last + 1 + j) : Fin 32)].state ≠ .pending) ∧ 0 < s.regs.SIP_CHc_VMAX (16 : Fin 32) ∧
      (s.descCode 16 (s.headOf 16) = 0 ↔ b = drain4)) ∧
    (∀ b ∈ [drain4, []], ∀ visit ∈ [3, 4],
      let s := sipWith (fun y => { y with run := some 16 }) (chanWith b (fun x => { x with state := .running, cur := 0x1380000, visit := visit }));
      s.sip.halted = false ∧ s.sip.desc = none ∧ s.sip.run = some 16 ∧ s.regs.SIP_CHc_VMAX (16 : Fin 32) = 4 ∧ s.sip.chs[(16 : Fin 32)].visit = visit ∧
      (s.descCode 16 s.sip.chs[(16 : Fin 32)].cur = 0 ↔ b = drain4)) ∧
    (let s := chanWith (copyDesc 0x1380100 0x1380110 32) id;
      let d := (s.descAt 0x1380000).1;
      0x137FFE0 < windowBase (16 : Fin 32) ∧ 0x1380001 % 32 ≠ 0 ∧ d.op = 0 ∧ d.src < d.dst + d.len ∧ d.dst < d.src + d.len ∧ d.src < d.dst) := by decide +kernel

theorem witness_SiphonMover_moves :
    (∀ stop again : Bool,
      let d : Desc := ⟨0, 0, 0x1380100, 0x1380200, 32, if again then 0x1380000 else 0⟩;
      let s := sipWith (fun y => { y with run := some 16, desc := some d }) (chanWith [] (fun x => { x with state := .running, cur := 0x1380000, stopReq := stop, again := again }));
      s.running = true ∧ s.sip.run = some 16 ∧ s.sip.desc = some d ∧ d.op = 0 ∧ 0x1000000 ≤ d.src ∧ 0 < d.len ∧ d.flags.testBit 0 = false ∧ d.flags.testBit 1 = false ∧
      s.sip.chs[(16 : Fin 32)].stopReq = stop ∧ (d.next = 0 ↔ again = false)) ∧
    (∀ len ∈ [3968, 3969], ∀ full ∈ [0, 129],
      let d : Desc := ⟨1, 0x20, 4, 0x30, 3968, 0⟩;
      let q : RingRec := ⟨0, len, 0⟩;
      let s := sipWith (fun y => { y with run := some 16, desc := some d, rings := vset y.rings 4 (fun x => { x with wr := len, recs := [q] }) })
        (chanWith [] (fun x => { x with state := .running, cur := 0x1380000, fetch := if full = 0 then [] else [zeros full] }));
      s.sip.run = some 16 ∧ s.sip.desc = some d ∧ d.op = 1 ∧ d.src = (4 : Fin 32).val ∧ d.dst = 0x30 ∧ d.flags.testBit 3 = false ∧ s.regs.RNG_r_CFG_TAP_CH (4 : Fin 32) = 0 ∧
      s.sip.rings[(4 : Fin 32)].recs = [q] ∧ (q.len ≤ 3968 → q.len ≤ d.len) ∧ q.len ≤ s.ringSize (4 : Fin 32) ∧
      (if d.flags.testBit 5 || s.sip.chs[(16 : Fin 32)].flush then 0 else s.regs.RNG_r_LO (4 : Fin 32)) < ptrSub s.sip.rings[(4 : Fin 32)].wr s.sip.rings[(4 : Fin 32)].rd ∧
      (len = 3968 → (fetchFill s.sip.chs[(16 : Fin 32)] + q.len ≤ 4096 ↔ full = 0))) := by decide +kernel

theorem witness_SiphonMover_commands :
    (let s := sipWith (fun y => { y with run := some 16 }) (chanWith [] (fun x => { x with state := .running })); s.sip.halted = false ∧ s.sip.run ≠ none) ∧
    (let s := chanWith [] (fun x => { x with state := .pending }); s.sip.halted = false ∧ s.sip.chs[(16 : Fin 32)].state = .pending) ∧
    (∀ st ∈ [ChState.idle, .stopped, .pending, .running, .halted],
      let s := chanWith drain4 (fun x => { x with state := st });
      s.writes host = true ∧ s.ownsCh host (16 : Fin 32).val = true ∧ s.ownsCh host (17 : Fin 32).val = false ∧ s.sip.chs[(16 : Fin 32)].state = st ∧ s.headOf 16 % 32 = 0 ∧
      windowBase (16 : Fin 32) ≤ s.headOf 16 ∧ s.headOf 16 + 32 ≤ windowBase (16 : Fin 32) + 0x8000 ∧ s.may true host = true) ∧
    (let s := sipWith (fun y => { y with halted := true, chs := y.chs.map (fun c => { c with state := .halted, was := .running }) }) (rig .drive);
      s.writes host = true ∧ s.may true host = true ∧ bit (1 : Word) 0 = true ∧ s.sip.halted = true ∧ ∀ c : Fin 32, s.sip.chs[c].was = .running) ∧
    ((rig .drive).sip.halted = false) := by decide +kernel

/-- The recorder is ready on one target of 8 blocks of 64 pages of 4,096 bytes; some parts of it are changed. -/
def carWith (f : CarSt → CarSt) (s : State) : State :=
  let s := reg [(Reg.CAR_CFG, 1), (Reg.CAR_GEOM, 0x8060C), (Reg.CAR_AREA, 0x40102), (Reg.CAR_ECC_THR, 0x401400), (Reg.CAR_RD_LIMIT, 100000), (Reg.CAR_WEAR, 0x50BB8),
    (Reg.CAR_STRs_CFG 0, 1), (Reg.CAR_STRs_FLUSH 0, 0x3F800000), (Reg.CAR_EVT_PRE, 0x3F800000), (Reg.CAR_EVT_POST, 0x3F800000)] s;
  { s with car := f { s.car with st := 2, tgtOn := 1 } }
/-- A block of a kind, open, with some pages. -/
def blk (b : Nat) (kind : BlkKind) (isOpen : Bool) (pages : Nat) : Blk := ⟨b, kind, isOpen, (List.range pages).map (· + 1), 1, 0, 0, 0, 0⟩

theorem witness_RecorderOperations_pages :
    (∀ since ∈ [0, 1],
      let s := carWith (fun c => { c with blks := [blk 0 .ring true 62], streams := vset c.streams 0 (fun x => { x with buf := [1], since := some since }) }) (rig .drive);
      s.running = true ∧ s.car.streams[(0 : Fin 4)].since = some since ∧ s.car.st = 2 ∧ (since + nsOf (s.regs.CAR_STRs_FLUSH (0 : Fin 4)) ≤ s.tbAt 0 ↔ since = 0) ∧
      s.car.streams[(0 : Fin 4)].buf ≠ [] ∧ (s.turns s.car.nextTgt).head? = some 0 ∧
      s.car.blks.find? (fun x => x.kind == .ring && x.isOpen && s.targetOf x.b == 0) = some (blk 0 .ring true 62) ∧ s.carBlk 0 = some (blk 0 .ring true 62) ∧
      62 + 1 < s.carPpb ∧ (∀ m ∈ s.car.ops, m.act.maint = false)) ∧
    (let scrub : NandOp := ⟨.read 4 0 .scrub, 0, false⟩;
      let s := carWith (fun c => { c with blks := [blk 0 .ring true 62], ops := [scrub] }) (rig .drive);
      (∀ m ∈ s.car.ops, m.act.site.1 ≠ (blk 0 .ring true 62).b) ∧ s.car.ops[0]? = some scrub ∧ scrub.act.maint = true ∧ s.onTarget scrub 0 = true) ∧
    (let s := carWith (fun c => { c with blks := [blk 3 .metaLog true 61] }) (rig .drive);
      s.car.st = 2 ∧ s.car.metaAt + 60000000000 = s.tbAt 29500000000 ∧ (10416 + s.carPage - 1) / s.carPage = 3 ∧
      s.car.blks.find? (fun x => x.kind == .metaLog && x.isOpen && decide (x.pages + 3 ≤ s.carPpb)) = some (blk 3 .metaLog true 61) ∧
      s.tbAt 0 < s.car.metaAt + 60000000000) := by decide +kernel

/-- One operation waits. -/
def opRig (a : NandAct) (since : Nat) (l : List Blk) : State := carWith (fun c => { c with blks := l, ops := [⟨a, since, false⟩] }) (rig .drive)

theorem witness_RecorderOperations_done :
    (let a : NandAct := .program 0 3 (zeros 24) [1];
      (opRig a 0 [blk 0 .ring true 4]).car.ops = [] ++ ⟨a, 0, false⟩ :: [] ∧ a.isWrite = true) ∧
    (let a : NandAct := .erase 2; (opRig a 0 []).car.ops = [] ++ ⟨a, 0, false⟩ :: [] ∧ a.isErase = true) ∧
    (let a : NandAct := .read 0 3 .scrub;
      let s := opRig a 0 [blk 0 .ring false 4];
      s.car.ops = [] ++ ⟨a, 0, false⟩ :: [] ∧ a.isRead = true ∧ s.carBlk 0 = some (blk 0 .ring false 4) ∧ 19 < s.regs.CAR_ECC_THR_REFRESH ∧ s.regs.CAR_ECC_THR_REFRESH ≤ 20 ∧
      (blk 0 .ring false 4).reads + 1 < s.regs.CAR_RD_LIMIT.toNat ∧ s.car.st = 2 ∧ (∀ m ∈ s.car.ops, m.act = a) ∧
      ((s.turns s.car.nextBlk).filterMap s.leastFree).head? = some 1) ∧
    (∀ n ∈ [1, 2],
      let a : NandAct := .erase 2;
      let s0 := opRig a 0 [];
      let s : State := { s0 with car := { s0.car with tmo := s0.car.tmo.set 0 n } };
      s.online (0 : Fin 4).val = true ∧ s.car.ops = [] ++ ⟨a, 0, false⟩ :: [] ∧ (s.targetOf a.site.1 == (0 : Fin 4).val) = true ∧ (s.car.tmo[(0 : Fin 4)] + 1 < 3 ↔ n = 1)) := by
  decide +kernel

theorem witness_RecorderOperations_wear :
    (let x : Blk := blk 4 .ring false 4;
      let s := carWith (fun c => { c with blks := [x] }) (rig .drive); s.scrubBlk = some x ∧ s.car.st = 2) ∧
    (let s := carWith (fun c => { c with blks := [blk 4 .metaLog false 4] }) (rig .drive);
      s.car.st = 2 ∧ s.car.wearAt + 10000000000 = s.tbAt 4500000000 ∧ ∀ h ∈ s.freeBlks, ∀ x ∈ s.car.blks, s.ec h ≤ s.regs.CAR_WEAR_WL_DELTA + s.ec x.b) ∧
    (let x : Blk := blk 4 .metaLog false 4;
      let s := (carWith (fun c => { c with blks := [x] }) (rig .drive)).ecSet 1 6;
      s.car.ops = [] ∧ s.car.st = 2 ∧ s.car.wearAt + 10000000000 = s.tbAt 4500000000 ∧ 1 ∈ s.freeBlks ∧ x ∈ s.car.blks ∧ (x.kind = .metaLog ∧ x.isOpen = false) ∧
      s.regs.CAR_WEAR_WL_DELTA + s.ec x.b < s.ec 1) ∧
    (let a : NandAct := .read 0 3 .scrub;
      let s := opRig a 0 [];
      s.car.ops = [] ++ ⟨a, 0, false⟩ :: [] ∧ 0 + 10000000000 = s.tbAt 4500000000 ∧ s.targetOf 0 = (0 : Fin 4).val) := by decide +kernel

theorem witness_RecorderSlots_commands :
    (let s := cpWith (fun c => { c with token := { c.token with holder := none } }) (rig .drive); s.running = true ∧ s.writes host = true ∧ s.may true host = false) ∧
    ((rig .drive).may true host = true ∧ (rig .drive).writes host = true ∧ (rig .drive).car.st ≠ 2 ∧ (rig .drive).car.st ≠ 3) ∧
    (let s := carWith (fun c => { c with evt := c.evt.set 0 { state := 2 } }) (rig .drive);
      s.may true host = true ∧ s.regs.CAR_CFG_EN = true ∧ s.car.st = 2 ∧ s.car.stage < 2 ∧ (∀ j : Fin 16, s.car.evt[j].state ≠ 1) ∧ s.car.evt[(1 : Fin 16)].state = 0 ∧
      (∀ j : Fin 16, j < 1 → s.car.evt[j].state ≠ 0)) ∧
    (∀ st ∈ [2, 3],
      let s := carWith (fun c => { c with st := st, evt := c.evt.set 1 { state := 1, first := 2000000000, last := 0 } }) (rig .drive);
      (s.car.st = 2 ∨ s.car.st = 3) ∧ s.car.evt[(1 : Fin 16)].state = 1 ∧ s.car.evt[(1 : Fin 16)].first ≤ s.tbAt 0 + nsOf s.regs.CAR_EVT_PRE ∧
      s.tbAt 0 ≤ s.car.evt[(1 : Fin 16)].last + nsOf s.regs.CAR_EVT_POST ∧ (∀ j : Fin 16, j < 1 → s.car.evt[j].state ≠ 1)) ∧
    (let s := carWith (fun c => { c with stage := 2 }) (rig .drive); (∀ j : Fin 16, s.car.evt[j].state ≠ 1) ∧ s.car.st = 2 ∧ 2 ≤ s.car.stage) ∧
    (let s := carWith (fun c => { c with evt := Vector.replicate 16 { state := 2 } }) (rig .drive);
      (∀ j : Fin 16, s.car.evt[j].state ≠ 1) ∧ s.car.st = 2 ∧ s.car.stage < 2 ∧ ∀ j : Fin 16, s.car.evt[j].state ≠ 0) ∧
    (∀ rpl ∈ [0, 1],
      let s := carWith (fun c => { c with evt := c.evt.set 0 { state := 2 }, dump := c.dump.set 0 { state := 2 }, rpl := { c.rpl with state := rpl, area := 1, slot := 0 } }) (rig .drive);
      s.car.evt[(0 : Fin 16)].state = 2 ∧ (s.car.rpl.state = 1 ↔ rpl = 1) ∧ s.car.rpl.area = 1 ∧ s.car.rpl.slot = (0 : Fin 16).val ∧ s.car.evt[(1 : Fin 16)].state ≠ 2 ∧
      s.car.dump[(0 : Fin 4)].state = 2 ∧ s.car.st = 2 ∧ s.car.rpl.area ≠ 2 ∧ s.car.dump[(1 : Fin 4)].state ≠ 2 ∧ 4 ≤ (4 : Fin 16).val) ∧
    ((rig .hold).writes maint = true ∧ maint.cls = .M ∧ host.cls ≠ .M ∧ (rig .hold).writes host = true ∧ (rig .hold).car.st ≠ 4 ∧ (rig .hold).car.st ≠ 3) ∧
    (∀ foreign : Bool,
      let s := carWith (fun c => { c with st := if foreign then 3 else 4, foreign := foreign, mountErr := if foreign then 0 else 4 }) (rig .hold);
      s.mode.mode = .hold ∧ ((s.car.st = 4 ∧ s.car.mountErr = 4) ∨ (s.car.st = 3 ∧ s.car.foreign = true))) := by refine ⟨?_, ?_, ?_, ?_, ?_, ?_, ?_, ?_, ?_⟩ <;> decide +kernel

theorem witness_RecorderSlots :
    (∀ dt ∈ [1000000000, 1000000001],
      let e : EvtSlot := { state := 1, trigs := 1, first := 0, last := 1000000000 };
      let s := carWith (fun c => { c with evt := c.evt.set 0 e }) (rig .drive);
      s.car.evt[(0 : Fin 16)] = e ∧ e.state = 1 ∧ (e.last + 2 * nsOf s.regs.CAR_EVT_POST < s.tbAt dt ↔ dt = 1000000001) ∧
      s.regs.CAR_STRs_CFG (0 : Fin 4) = true ∧ s.car.streams[(0 : Fin 4)].lastTime < e.last + nsOf s.regs.CAR_EVT_POST ∧
      (s.pinned (0 : Fin 16)).length < s.regs.CAR_AREA_EVT_MAXBLK) := by decide +kernel

/-- A mount found some targets and no META entry. -/
def report0 (targets : BitVec 4) (geo : Bool) (m : Option MountMeta) (anyTag : Bool) : MountReport := ⟨targets, geo, m, anyTag, [], [], 0, 0, none⟩

theorem witness_RecorderSlots_mount :
    (∀ fe ∈ [0, 0x100],
      let s := reg [(Reg.CAR_CFG, 1 + fe)] (carWith (fun c => { c with st := 1 }) (rig .drive));
      let on (f : MountReport) : BitVec 4 := f.targetsOk &&& BitVec.ofNat 4 (2 ^ (s.regs.CAR_CFG_TARGETS + 1) - 1);
      s.running = true ∧ s.car.st = 1 ∧ s.regs.CAR_CFG_FORMAT_EN = decide (fe ≠ 0) ∧ on (report0 0xE true none false) = 0 ∧ on (report0 1 true none false) ≠ 0) ∧
    (∀ own : Bool,
      let m : MountMeta := ⟨own, 5, 0, [(1, 2, 3, 4)], []⟩;
      let f := report0 1 true (some m) false;
      f.geometryOk = true ∧ f.entry = some m ∧ m.own = own ∧ m.event[(0 : Fin 16).val]? = some (1, 2, 3, 4)) := by decide +kernel

/-- A replay by CPA from an area of a slot over channel 16, whose buffer is the first 4 KiB of the window. -/
def rplRig (src : Nat) (f : CarSt → CarSt) : State :=
  reg [(Reg.SIP_CHc_CFG 16, 0x4001), (Reg.CAR_RPL_SRC, 0x1000 + src), (Reg.CAR_RPL_LEN, 0x1000)] (carWith f (rig .drive))

theorem witness_Replays_start :
    (∀ src ∈ [0, 1, 2],
      let s := rplRig src (fun c => { c with blks := [blk 0 .ring true 4, blk 1 (.dump 0) true 4], evt := c.evt.set 0 { state := 2 }, dump := c.dump.set 0 { state := 2, len := 8 } });
      s.running = true ∧ s.writes host = true ∧ s.regs.CAR_CFG_EN = true ∧ s.ownsCh host s.regs.CAR_RPL_SRC_CH = true ∧ s.regs.CAR_RPL_SRC_CH = 16 ∧
      s.regs.CAR_RPL_SRC_AREA = src ∧ s.regs.CAR_RPL_SRC_AREA < 3 ∧ 8 * s.regs.CAR_RPL_BUF + s.regs.CAR_RPL_LEN ≤ 0x8000 ∧
      (s.car.evt.getD s.regs.CAR_RPL_SRC_SLOT {}).state ≠ 0 ∧ s.regs.CAR_RPL_SRC_SLOT < 4 ∧ (s.car.dump.getD s.regs.CAR_RPL_SRC_SLOT {}).state = 2 ∧
      s.car.st = 2 ∧ s.car.rpl.state ≠ 1 ∧ s.sip.chs[(16 : Fin 32)].state = .idle ∧ (s.car.dump.getD s.regs.CAR_RPL_SRC_SLOT {}).len ≠ 0 ∧
      s.rplPages src 0 (s.regs.CAR_RPL_FROM_LO.toNat + 2 ^ 32 * s.regs.CAR_RPL_FROM_HI.toNat) =
        (if src = 1 then [] else (List.range 4).map (fun p => (if src = 0 then 0 else 1, p))) ∧
      s.online (s.targetOf 0) = true ∧ s.online (s.targetOf 1) = true) ∧
    (let s := rplRig 0 (fun c => { c with blks := [blk 0 .ring true 4], tgtOn := 0 });
      s.regs.CAR_RPL_SRC_AREA ≠ 2 ∧ s.rplPages 0 0 0 ≠ [] ∧ ∀ q ∈ s.rplPages 0 0 0, s.online (s.targetOf q.1) = false) ∧
    ((rplRig 0 id).ownsCh other (rplRig 0 id).regs.CAR_RPL_SRC_CH = false) ∧
    ((rplRig 3 id).regs.CAR_RPL_SRC_AREA = 3) ∧
    (let s := rplRig 0 (fun c => { c with rpl := { c.rpl with state := 1 } }); s.car.rpl.state = 1 ∧ s.regs.CAR_RPL_SRC_AREA < 3) := by decide +kernel

theorem witness_Replays :
    (∀ st ∈ [1, 3],
      let s := rplRig 0 (fun c => { c with rpl := { c.rpl with state := st, wr := 8 } });
      s.writes host = true ∧ s.regs.CAR_CFG_EN = true ∧ s.ownsCh host s.car.rpl.ch = true ∧ s.ownsCh other s.car.rpl.ch = false ∧ s.car.rpl.state = st ∧
      s.ownsCh host (if s.car.rpl.state = 0 then s.regs.CAR_RPL_SRC_CH else s.car.rpl.ch) = true ∧
      ptrSub s.car.rpl.wr s.regs.CAR_RPL_RD.toNat < ptrSub (9 : Word).toNat s.regs.CAR_RPL_RD.toNat ∧
      ptrSub (8 : Word).toNat s.regs.CAR_RPL_RD.toNat ≤ ptrSub s.car.rpl.wr s.regs.CAR_RPL_RD.toNat ∧ s.car.rpl.out = []) ∧
    (let b : List Byte := zeros 16;
      let s := rplRig 0 (fun c => { c with rpl := { c.rpl with state := 1, wr := 4096, len := 4096, out := [b], pages := [(0, 1)] } });
      ptrSub (16 : Word).toNat s.regs.CAR_RPL_RD.toNat ≤ ptrSub s.car.rpl.wr s.regs.CAR_RPL_RD.toNat ∧ s.car.rpl.state = 1 ∧ s.car.rpl.out = [b] ∧
      s.car.rpl.pages = (0, 1) :: [] ∧ s.car.rpl.area ≠ 2 ∧ s.online (s.targetOf 0) = true ∧ s.regs.wf = true ∧ b.length ≤ s.car.rpl.len ∧ ptrSub s.car.rpl.wr (16 : Word).toNat + b.length = s.car.rpl.len) ∧
    (∀ st ∈ [2, 3], ∀ left ∈ [8, 100, 5000], ∀ wr ∈ [0, 4088],
      let a : NandAct := .read 0 3 .replay;
      let x : Blk := blk 0 (.dump 0) false 4;
      let q : ReadResult := ⟨19, none, 2, 0, 0, zeros 16⟩;
      let s := rplRig 2 (fun c => { c with
        st := st, blks := [x], ops := [⟨a, 0, false⟩], rpl := { c.rpl with state := 1, area := 2, left := left, wr := wr, len := 4096, pages := [(0, 4)] } });
      s.car.ops = [] ++ ⟨a, 0, false⟩ :: [] ∧ a.isRead = true ∧ s.carBlk 0 = some x ∧ s.car.rpl.state = 1 ∧ s.car.rpl.area = 2 ∧ s.car.rpl.out = [] ∧
      s.car.rpl.pages = (0, 4) :: [] ∧ { q with uncorrectable := some 3 }.uncorrectable = some 3 ∧ (s.car.st = 3 ↔ st = 3) ∧ q.uncorrectable = none ∧
      q.corrected < s.regs.CAR_ECC_THR_REFRESH ∧ x.reads + 1 < s.regs.CAR_RD_LIMIT.toNat ∧ q.data.take s.car.rpl.left ≠ [] ∧
      s.online (s.targetOf 0) = true ∧ (s.carPage < s.car.rpl.left ↔ left = 5000) ∧
      0 < s.car.rpl.len - ptrSub s.car.rpl.wr s.regs.CAR_RPL_RD.toNat ∧ ((q.data.take s.car.rpl.left).length = s.car.rpl.left ↔ left = 8) ∧
      ((q.data.take s.car.rpl.left).length ≤ s.car.rpl.len - ptrSub s.car.rpl.wr s.regs.CAR_RPL_RD.toNat ↔ wr = 0 ∨ left = 8)) ∧
    (∀ full : Bool,
      let d : Desc := ⟨1, 0x20, 4, 0x10, 4096, 0⟩;
      let q : RingRec := ⟨0, 16, 0⟩;
      let s := sipWith (fun y => { y with run := some 0, desc := some d, rings := vset y.rings 4 (fun x => { x with wr := 16, recs := [q] }) })
        (reg [(Reg.RNG_r_CFG 4, 0x800C)] (rplRig 0 (fun c => { c with streams := vset c.streams 0 (fun x => { x with buf := if full then zeros 4096 else [] }) })));
      s.sip.run = some 0 ∧ s.sip.desc = some d ∧ d.op = 1 ∧ d.dst = 0x10 + (0 : Fin 4).val ∧ d.src = (4 : Fin 32).val ∧ d.flags.testBit 3 = false ∧
      s.regs.RNG_r_CFG_TAP_CH (4 : Fin 32) = 0 ∧ s.sip.rings[(4 : Fin 32)].recs = [q] ∧ q.len ≤ d.len ∧
      (if d.flags.testBit 5 || s.sip.chs[(0 : Fin 32)].flush then 0 else s.regs.RNG_r_LO (4 : Fin 32)) < ptrSub s.sip.rings[(4 : Fin 32)].wr s.sip.rings[(4 : Fin 32)].rd ∧
      s.car.st = 2 ∧ s.regs.CAR_CFG_EN = true ∧ s.regs.CAR_STRs_CFG (0 : Fin 4) = true ∧ (s.car.streams[(0 : Fin 4)].buf.length < s.carPage ↔ full = false) ∧
      (full = false → s.car.streams[(0 : Fin 4)].buf.length + (s.ringGet 4 q.pos q.len).length < s.carPage) ∧ ∀ j ∈ List.range 8, s.regs.CAR_TRGk_EN j = false) := by refine ⟨?_, ?_, ?_, ?_⟩ <;> decide +kernel

/-- A device with a freeze configuration word and some parts of its freeze controller changed. -/
def frzWith (cfg : Nat) (f : FrzSt → FrzSt) : State :=
  let s := reg [(Reg.FRZ_CFG, cfg)] (rig .drive);
  { s with frz := f s.frz }
def trig (at' : Nat) : FrzTrig := ⟨at', 999990000, 7, 5, 0x40⟩

theorem witness_FreezeTriggers :
    ((frzWith 0 id).regs.FRZ_CFG_PIN_EN = false ∧ (1 ≤ 1 ∧ 5 ≤ 5)) ∧
    (let s := frzWith 0x1F id; s.regs.FRZ_CFG_PIN_EN = true ∧ s.regs.FRZ_CFG_MODES.testBit (s.mode.mode.code - 2) = false) ∧
    (let s := frzWith 0x1F1F id;
      s.regs.FRZ_CFG_PIN_EN = true ∧ s.regs.FRZ_CFG_MODES.testBit (s.mode.mode.code - 2) = true ∧ s.regs.FRZ_CFG_PIN_MAINT = true ∧ s.regs.FRZ_CFG_PIN_SCOPE = true ∧
      s.regs.FRZ_CFG_FAB_ORIG = false ∧ s.regs.FRZ_CFG_JCP_EN = true ∧ s.regs.FRZ_CFG_FAB_ACCEPT = true) ∧
    (∀ cfg ∈ [0x1F41, 0], ∀ src ∈ [1, 5],
      let s := frzWith cfg id;
      s.running = true ∧ (s.frzReason src false = 0 ↔ cfg ≠ 0) ∧ s.regs.FRZ_CFG_PIN_SCOPE = false ∧ s.frz.pending = none) ∧
    (∀ at' ∈ [1000000000, 1000000001], let s := frzWith 0x1F41 (fun q => { q with pending := some (trig at') });
      s.frzReason 5 false = 0 ∧ s.frz.pending = some (trig at') ∧ (s.tbAt 0 < (trig at').at' ↔ at' = 1000000001)) ∧
    (let s := frzWith 0x1F25 id; s.running = true ∧ s.frzReason 1 false = 0 ∧ s.regs.FRZ_CFG_PIN_SCOPE = true ∧ s.frz.pending = none) := by decide +kernel

/-- A frozen device with a freeze configuration word, a controller state and some parts of the controller changed. -/
def frozen : Frozen := ⟨trig 1000000000, 1000000000, 0, 0, 0, 0, 0⟩
def frozenWith (cfg ctl : Nat) (f : FrzSt → FrzSt) : State :=
  let s := reg [(Reg.FRZ_CFG, cfg)] (rig .freeze);
  { s with frz := f { s.frz with frozen := some frozen, ctl := ctl } }

theorem witness_FrozenDevice :
    (∀ at' ∈ [1000000000, 1000000001],
      let s := carWith (fun c => { c with dump := c.dump.set 0 { state := 2 } }) (frzWith 0x1F41 (fun q => { q with pending := some (trig at') }));
      s.running = true ∧ s.frz.pending = some (trig at') ∧ ((trig at').at' ≤ s.tbAt 0 ↔ at' = 1000000000) ∧ s.car.st = 2 ∧ s.car.dump[(1 : Fin 4)].state = 0 ∧
      ∀ j : Fin 4, j < 1 → s.car.dump[j].state ≠ 0) ∧
    (∀ pos ∈ [0xFFC, 0x80000],
      let s := frozenWith 0 1 (fun q => { q with pos := pos });
      s.pwr.phase = .running ∧ s.mode.mode = .freeze ∧ s.frz.frozen = some frozen ∧ s.frz.pos = pos) ∧
    (∀ dump ∈ [0, 0x20000],
      let s := frozenWith dump 1 id;
      s.frz.ctl = 1 ∧ (s.regs.FRZ_CFG_DUMP_MODE = 2 ↔ dump ≠ 0) ∧ s.frz.tapUsed = false ∧ frozen.since + nsOf s.regs.FRZ_TAP_WAIT ≤ s.now + 2 * 500000000000) ∧
    (∀ rest ∈ [0, 0x40000], let s := frozenWith rest 2 id; s.frz.ctl = 2 ∧ s.frz.frozen = some frozen ∧ s.regs.FRZ_CFG_FAIL_RESTART = decide (rest ≠ 0)) ∧
    ((rig .drive).mode.mode ≠ .freeze) := by decide +kernel

theorem seen_ok (seen : List Nat) (n : Nat) (p : Nat → Bool) (h : seen.Nodup) (h1 : ∀ b ∈ seen, b < n ∧ p b = true) (h2 : ∀ b ∈ List.range n, p b = true → b ∈ seen) :
    Seen.ok seen n p := ⟨h, fun b => ⟨h1 b, fun q => h2 b (List.mem_range.2 q.1) q.2⟩⟩
theorem witness_CausesStayInOrder : State.reset.causesInOrder ∧ ∃ t, step State.reset = .next t :=
  ⟨⟨seen_ok _ _ _ (by decide +kernel) (by decide +kernel) (by decide +kernel), seen_ok _ _ _ (by decide +kernel) (by decide +kernel) (by decide +kernel)⟩, _, rfl⟩

theorem witness_MemoryStaysCanonical :
    Memory.wf State.reset = true ∧ ∃ t, step { State.reset with pending := [Instr.resetAssert 0] } = .next t :=
  ⟨by decide +kernel, _, rfl⟩

theorem witness_KeepStoreEntries : ([5] : List Byte).length ≤ 1 ∧ ([6] : List Byte).length = ([5] : List Byte).length ∧ ([6] : List Byte) ≠ [5] ∧
    Memory.wf State.reset = true := by decide +kernel

/-! ## The package: the counts of Tables 1, 2 and 7, and the example of R526 -/

/-- No two signals share a ball: the sum of their bits is the set. -/
theorem test_balls : balls.length = 1412 ∧ signalBalls.length = 364 ∧ signalBalls.all (fun b => !noBall b) = true ∧
    signalBalls.foldl (fun m b => m + 2 ^ ballBit b) 0 = ballMask signalBalls := by decide +kernel
theorem test_supply_balls : (supplyBalls .vcore).length = 100 ∧ (supplyBalls .vcoreS).length = 8 ∧ (supplyBalls .vio18).length = 16 ∧
    (supplyBalls .vio33).length = 24 ∧ (supplyBalls .vdrv).length = 48 ∧ (supplyBalls .v24s).length = 10 ∧ (supplyBalls .gnd).length = 842 := by decide +kernel
theorem test_hb_ball : ballName (hbBall 3 .ho) = "E6" ∧ ballName (hbBall 3 .bst) = "D6" ∧ ballName (hbBall 6 .lo) = "G39" ∧ ballName (hbBall 6 .vds) = "C39" := by
  decide +kernel

end Sys2Proof.Tests
end

section
/-! PROOF. TB_NOW read as two words (R68): the latch of each origin, and the reads that set it, use it up or find none. -/
namespace Sys2Proof.Machine

/-! ## One register word read by an origin that is served -/

/-- READ of one aligned register word is acknowledged with that word and leaves what the read of it leaves. -/
theorem doRead_register (a : Nat) (c : Ctx) (s : State) (w : Word) (u : State) (halign : a % 4 = 0) (harea : areaOf a = .regs)
    (hread : s.readWord c.o a = (w, u)) : doRead a 1 c s = (u, { status := 0, data := leBytes 4 w.toNat }) := by
  simp [doRead, State.readWords, halign, harea, hread, ack]

theorem entry_readRegister (s : State) (o : Origin) (a : Nat) (w : Word) (u : State) (hs : s.serves o = true)
    (halign : a % 4 = 0) (harea : areaOf a = .regs) (hread : s.readWord o a = (w, u)) :
    s.entry o 1 (some a) (doRead a 1) = { u with cp := u.cpAfter o 1 { status := 0, data := leBytes 4 w.toNat } } :=
  State.entry_ack s o 1 (some a) (doRead a 1) 1 false [] [] false 0 u _ hs (Or.inl (by decide))
    (doRead_register a _ s w u halign harea hread) rfl

/-! ## An origin stays served after its answer -/

@[simp] theorem cpAfter_ports (u : State) (o : Origin) (op : Nat) (r : Reply) : (u.cpAfter o op r).ports = u.cp.ports := rfl

@[simp] theorem cpAfter_quar (u : State) (o : Origin) (op : Nat) (r : Reply) : (u.cpAfter o op r).quar = u.cp.quar := rfl

@[simp] theorem cpAfter_suspended (u : State) (o : Origin) (op : Nat) (r : Reply) :
    (u.cpAfter o op r).suspended = u.cp.suspended := rfl

/-- An answer may renew the lease of the token, but leaves the requests that wait for it. -/
@[simp] theorem cpAfter_waiting (u : State) (o : Origin) (op : Nat) (r : Reply) :
    (u.cpAfter o op r).token.waiting = u.cp.token.waiting := by
  unfold State.cpAfter
  split <;> rfl

@[simp] theorem settle_running (s : State) : s.settle.running = s.running := rfl

/-- Whether an origin is served depends on the phase, the mode, the ports, the quarantines and what waits; an answer changes none of these. -/
theorem serves_settle_cpAfter (u : State) (o : Origin) (op : Nat) (r : Reply) :
    ({ u with cp := u.cpAfter o op r } : State).settle.serves o = u.serves o := by
  have hrun : ({ u with cp := u.cpAfter o op r } : State).running = u.running := State.running_congr rfl rfl
  simp [State.serves, State.quarantined, State.behind, hrun]

/-! ## The latches -/

/-- The latches that are not of `o`. -/
def latchesBut (o : Origin) (l : List (Origin × Word)) : List (Origin × Word) := l.filter (fun x => x.1 != o)

/-- A latch that `o` puts first is the only one of `o`: giving it up leaves those of the others. -/
theorem latchesBut_cons (o : Origin) (w : Word) (l : List (Origin × Word)) :
    latchesBut o ((o, w) :: latchesBut o l) = latchesBut o l := by
  simp [latchesBut, List.filter_filter]

/-- `s` with other latches of the upper word of TB_NOW. -/
def State.withLatches (s : State) (l : List (Origin × Word)) : State := { s with tbs := { s.tbs with hiLatch := l } }

theorem areaOf_timeLo : areaOf Reg.TB_NOW_LO = .regs := by decide

theorem areaOf_timeHi : areaOf Reg.TB_NOW_HI = .regs := by decide

theorem readWord_timeLo (s : State) (o : Origin) :
    s.readWord o Reg.TB_NOW_LO = (lo32 s.tb, s.withLatches ((o, hi32 s.tb) :: latchesBut o s.tbs.hiLatch)) := rfl

theorem readWord_timeHi_latched (s : State) (o : Origin) (w : Word) (l : List (Origin × Word))
    (hlatch : s.tbs.hiLatch = (o, w) :: l) :
    s.readWord o Reg.TB_NOW_HI = (w, s.withLatches (latchesBut o s.tbs.hiLatch)) := by
  have hfind : s.tbs.hiLatch.find? (fun x => x.1 == o) = some (o, w) := by simp [hlatch]
  simp only [State.readWord, areaOf_timeHi, hfind]
  rfl

theorem readWord_timeHi_live (s : State) (o : Origin) (hnone : ∀ w, (o, w) ∉ s.tbs.hiLatch) :
    s.readWord o Reg.TB_NOW_HI = (hi32 s.tb, s) := by
  have hfind : s.tbs.hiLatch.find? (fun x => x.1 == o) = none := by
    rw [List.find?_eq_none]
    rintro ⟨p, w⟩ hmem hp
    exact hnone w (beq_iff_eq.1 hp ▸ hmem)
  simp only [State.readWord, areaOf_timeHi, hfind]
  rfl

/-! ## The two commands -/

theorem exec_tbNowLoRead (s : State) (dt : Nat) (o : Origin) (w : Word) (u : State) (hs : s.serves o = true)
    (hread : (s.advance dt).readWord o Reg.TB_NOW_LO = (w, u)) :
    exec (.tbNowLoRead dt o) s =
      .next ({ u with cp := u.cpAfter o 1 { status := 0, data := leBytes 4 w.toNat } } : State).settle := by
  show done ((s.advance dt).entry o 1 (some Reg.TB_NOW_LO) (doRead Reg.TB_NOW_LO 1)) = _
  rw [entry_readRegister (s.advance dt) o Reg.TB_NOW_LO w u hs (by decide) areaOf_timeLo hread, done_eq]

theorem exec_jcpRead_timeHi (s : State) (dt : Nat) (o : Origin) (w : Word) (u : State) (hs : s.serves o = true)
    (hread : (s.advance dt).readWord o Reg.TB_NOW_HI = (w, u)) :
    exec (.jcpRead dt o 0x8004 1) s =
      .next ({ u with cp := u.cpAfter o 1 { status := 0, data := leBytes 4 w.toNat } } : State).settle := by
  show done ((s.advance dt).entry o 1 (some Reg.TB_NOW_HI) (doRead Reg.TB_NOW_HI 1)) = _
  rw [entry_readRegister (s.advance dt) o Reg.TB_NOW_HI w u hs (by decide) areaOf_timeHi hread, done_eq]

/-- Settles O7: the read of TB_NOW_LO puts the latch of its origin first, so that the next read of TB_NOW_HI by that origin finds it, at any
later instant; where the origin has no latch, the read finds the live word. -/
theorem timeReadsInTwoWords : Obligations.TimeReadsInTwoWords := by
  intro s dt o hs
  refine ⟨⟨_, exec_tbNowLoRead s dt o _ _ hs (readWord_timeLo ..), rfl, fun dt2 => ?_⟩, fun hnone => ?_⟩
  · have hserved := (serves_settle_cpAfter ((s.advance dt).withLatches ((o, hi32 (s.tbAt dt)) :: latchesBut o s.tbs.hiLatch)) o 1
      { status := 0, data := leBytes 4 (lo32 (s.tbAt dt)).toNat }).trans hs
    exact ⟨_, exec_jcpRead_timeHi _ dt2 o _ _ hserved (readWord_timeHi_latched _ o _ _ rfl), rfl, latchesBut_cons ..⟩
  · exact ⟨_, exec_jcpRead_timeHi s dt o _ _ hs (readWord_timeHi_live (s.advance dt) o hnone), rfl⟩

end Sys2Proof.Machine
end

section
/-! PROOF. The reserved words of the register blocks (R515): a read finds zero, a write is refused, and neither changes anything else. -/
namespace Sys2Proof.Machine

/-! ## One reserved word -/

theorem timeLo_not_reserved : regClass Reg.TB_NOW_LO ≠ .reserved := by decide

theorem timeHi_not_reserved : regClass Reg.TB_NOW_HI ≠ .reserved := by decide

/-- The two words of TB_NOW, whose read moves a latch, are not reserved: the read of a reserved word is an ordinary one. -/
theorem readWord_reserved (s : State) (o : Origin) (a : Nat) (harea : areaOf a = .regs) (hres : regClass a = .reserved) :
    s.readWord o a = (0, s) := by
  have hlo : a ≠ Reg.TB_NOW_LO := fun h => timeLo_not_reserved (h ▸ hres)
  have hhi : a ≠ Reg.TB_NOW_HI := fun h => timeHi_not_reserved (h ▸ hres)
  simp [State.readWord, State.regWord, State.pairCheck, harea, hres, hlo, hhi]

theorem doWrite_reserved (maint : Bool) (a : Nat) (c : Ctx) (s : State) (w : Word) (halign : a % 4 = 0) (harea : areaOf a = .regs)
    (hres : regClass a = .reserved) (hpair : s.pairOf c.o = none) :
    doWrite maint a c s w = (s, { status := St.range, detail := 0 }) := by
  simp [doWrite, doReg, nak, halign, harea, hres, hpair]

/-! ## The two commands -/

theorem exec_jcpRead_register (s : State) (dt : Nat) (o : Origin) (addr w : Word) (u : State) (hs : s.serves o = true)
    (halign : addr.toNat % 4 = 0) (harea : areaOf addr.toNat = .regs) (hread : (s.advance dt).readWord o addr.toNat = (w, u)) :
    exec (.jcpRead dt o addr 1) s =
      .next ({ u with cp := u.cpAfter o 1 { status := 0, data := leBytes 4 w.toNat } } : State).settle := by
  show done ((s.advance dt).entry o 1 (some addr.toNat) (doRead addr.toNat 1)) = _
  rw [entry_readRegister (s.advance dt) o addr.toNat w u hs halign harea hread, done_eq]

/-- What a frame of the control ports and the records leaves to compare. -/
theorem but_settle_of_frame {s u : State} {dt : Nat} (h : Frame [.recs, .cp] (s.advance dt) u) :
    u.settle.but s = { s.advance dt with cp := u.cp, recs := u.recs } := by
  refine State.eq_of _ _ fun p hp => ?_
  have hkeep := h.keep p
  cases p with
  | cp | recs => rfl
  | regsOff => exact absurd rfl hp
  | mode =>
    have hmode : u.mode = s.mode := hkeep (by decide)
    show { u.mode with degrSeen := s.mode.degrSeen, stopSeen := s.mode.stopSeen } = s.mode
    rw [hmode]
  | _ => exact hkeep (by decide)

theorem exec_registerWrite_reserved (s : State) (dt : Nat) (o : Origin) (maint : Bool) (addr v : Word) (hs : s.serves o = true)
    (halign : addr.toNat % 4 = 0) (harea : areaOf addr.toNat = .regs) (hres : regClass addr.toNat = .reserved) (hpair : s.pairOf o = none) :
    ∃ u, exec (.registerWrite dt o maint addr v) s = .next u.settle ∧
      Frame [.recs, .cp] (s.advance dt) u ∧ Refused s u.settle dt o 2 St.range 0 :=
  ⟨_, rfl, entry_refused s dt o 2 _ _ 1 true [v] [] maint (s.advance dt) St.range 0 hs (.inr (.inl rfl))
    (doWrite_reserved maint addr.toNat _ (s.advance dt) v halign harea hres hpair) rfl (serves_phase hs) rfl rfl rfl⟩

/-- Settles O14: at a reserved word the read finds zero and the write is refused before it reaches the state. -/
theorem reservedWords : Obligations.ReservedWords := by
  intro s dt o addr hs harea halign hres
  refine ⟨⟨_, exec_jcpRead_register s dt o addr 0 _ hs halign harea (readWord_reserved _ o _ harea hres), rfl⟩, fun hpair m v => ?_⟩
  obtain ⟨u, hexec, hframe, hrefused⟩ := exec_registerWrite_reserved s dt o m addr v hs halign harea hres hpair
  exact ⟨_, hexec, but_settle_of_frame hframe, hrefused⟩

end Sys2Proof.Machine
end

section
/-! PROOF. The outcome of every command: a next state whose order of causes has been brought up to date (R124). -/
set_option Elab.async false

namespace Sys2Proof.Machine

theorem nodup_eraseDups {α : Type} [BEq α] [LawfulBEq α] : ∀ l : List α, l.eraseDups.Nodup
  | [] => by simp
  | a :: l => by
    rw [List.eraseDups_cons, List.nodup_cons]
    exact ⟨by simp, nodup_eraseDups _⟩
termination_by l => l.length
decreasing_by exact Nat.lt_succ_of_le (List.length_filter_le _ _)

theorem seenNext_ok (seen : List Nat) (n : Nat) (p : Nat → Bool) : Seen.ok (seenNext seen n p) n p := by
  refine ⟨nodup_eraseDups _, fun b => ?_⟩
  simp only [seenNext, List.mem_eraseDups, List.mem_filter, List.mem_append, List.mem_range, Bool.and_eq_true, decide_eq_true_eq]
  tauto

theorem settle_causesInOrder (s : State) : s.settle.causesInOrder := ⟨seenNext_ok .., seenNext_ok ..⟩

theorem advance_causesInOrder (s : State) (dt : Nat) (h : s.causesInOrder) : (s.advance dt).causesInOrder := h

theorem reset_degrBit (b : Nat) : State.reset.degrBit b = false := by
  unfold State.degrBit State.reset
  simp only [Fin.getElem_fin, Vector.getElem_replicate]
  split
  · split <;> rfl
  · simp

theorem reset_causesInOrder : State.reset.causesInOrder := by
  refine ⟨⟨List.nodup_nil, fun b => ?_⟩, ⟨List.nodup_nil, fun b => ?_⟩⟩
  · simp [reset_degrBit, show State.reset.mode.degrSeen = [] from rfl]
  · simp [State.reset]

/-- Settles O1: the queue is the only part of the state that `step` looks at; what it finds at the front is what `exec` gets. -/
theorem stepRunsFrontCommand : Obligations.StepRunsFrontCommand :=
  ⟨fun _ _ => rfl, fun s h => by rw [step, h]⟩

/-- Settles O56: every part of the state of reset has the content its declaration gives. -/
theorem resetIsCanonical : Obligations.ResetIsCanonical := by
  refine ⟨reset_wf, reset_causesInOrder, rfl, rfl, rfl, rfl, rfl, fun n => ?_, fun x => ?_, rfl, fun k => ?_⟩ <;> simp [State.reset]

end Sys2Proof.Machine
end

section
/-! PROOF. The keep-store (R97): an entry as its data and its complement. -/
set_option Elab.async false

namespace Sys2Proof.Machine

theorem ksRead_one (s : State) (a : Nat) : s.ksRead a 1 = [cellGet ksDflt s.ks.cells a] := by
  simp [State.ksRead, cellGetRange]

theorem ksRead_ksWrite_byte (s : State) (o i : Nat) (bs : List Byte) (h : i < bs.length) :
    (s.ksWrite o bs).ksRead (o + i) 1 = [bs[i]?.getD 0] := by
  rw [ksRead_one]
  simp [State.ksWrite, State.onKs, cellGet_putRange, h]

@[simp] theorem complBytes_length (bs : List Byte) : (complBytes bs).length = bs.length := by simp [complBytes]

theorem complBytes_injective : Function.Injective complBytes :=
  List.map_injective_iff.2 fun a b (h : ~~~a = ~~~b) => by simpa using congrArg (~~~·) h

/-- A byte of either half of an entry that has been written. -/
theorem ksRead_ksPair_byte (s : State) (o d i : Nat) (data : List Byte) (hd : data.length ≤ d) (hi : i < data.length) :
    (s.ksPair o d data).ksRead (o + i) 1 = [data[i]?.getD 0] ∧ (s.ksPair o d data).ksRead (o + d + i) 1 = [~~~ (data[i]?.getD 0)] := by
  constructor
  · unfold State.ksPair
    rw [ksRead_ksWrite_elsewhere _ _ _ _ _ (.inl (by omega)), ksRead_ksWrite_byte _ _ _ _ hi]
  · unfold State.ksPair
    rw [ksRead_ksWrite_byte _ _ _ _ (by simpa using hi)]
    simp [complBytes, hi]

theorem ksRead_ksPair_elsewhere (s : State) (o d a : Nat) (data : List Byte)
    (h : a < o ∨ (o + data.length ≤ a ∧ a < o + d) ∨ o + d + data.length ≤ a) (hd : data.length ≤ d) :
    (s.ksPair o d data).ksRead a 1 = s.ksRead a 1 := by
  unfold State.ksPair
  rw [ksRead_ksWrite_elsewhere _ _ _ _ _ (by rw [complBytes_length]; omega), ksRead_ksWrite_elsewhere _ _ _ _ _ (by omega)]

/-- Data that differ from what was written do not fit the complement that stands. -/
theorem ksEntry_overwritten (s : State) (o d : Nat) (data other : List Byte) (hd : data.length ≤ d) (hlen : other.length = data.length)
    (hne : other ≠ data) : ((s.ksPair o d data).ksWrite o other).ksEntry o d data.length = none := by
  have hdata : ((s.ksPair o d data).ksWrite o other).ksRead o data.length = other := by rw [← hlen, ksRead_ksWrite]
  have hcompl : ((s.ksPair o d data).ksWrite o other).ksRead (o + d) data.length = complBytes data := by
    rw [ksRead_ksWrite_elsewhere _ _ _ _ _ (.inr (by omega)), ← complBytes_length data]
    exact ksRead_ksWrite _ _ _
  simp only [State.ksEntry, hdata, hcompl]
  exact if_neg fun h => hne (complBytes_injective h).symm

/-- Settles O60: the two writes of an entry do not meet, so each half reads back as it was written. -/
theorem keepStoreEntries : Obligations.KeepStoreEntries := by
  intro s o d data hd
  exact ⟨fun i hi => ksRead_ksPair_byte s o d i data hd hi, ksEntry_ksPair s o d data hd,
    fun a ha => ksRead_ksPair_elsewhere s o d a data ha hd, fun other hlen hne => ksEntry_overwritten s o d data other hd hlen hne,
    ksPair_wf s o d data, rfl⟩

end Sys2Proof.Machine
end

section
/-! PROOF. Every command answers a next state, keeps the queue and the canonical form of the stores, and brings the order of the causes up to date:
one lemma for each operation that its frame does not settle, from the small operations to `exec`. -/
namespace Sys2Proof.Machine

/-- From `s` to `t` the queue stands, and the stores stay canonical. -/
structure Kept (s t : State) : Prop where
  queue : t.pending = s.pending
  stores : Memory.wf s = true → Memory.wf t = true

/-- The parts of which `Kept` speaks. -/
def keptParts : List StPart := [.ks, .sip, .regsOff, .pending]

/-- A command answers a next state with its causes in order, and from `s` to it the queue stands and the stores stay canonical. -/
def KeptNext (s : State) (o : Host.Outcome State Fault Refusal) : Prop := ∃ t, o = .next t ∧ Kept s t ∧ t.causesInOrder

/-- A stream keeps them whenever it takes a record. -/
def StreamPort.Keeps (p : StreamPort) : Prop := ∀ {s t : State} {k : Fin 4} {bs : List Byte}, Kept s t → Kept s (p.put t k bs)

set_option Elab.async false

theorem Regs.foldl_set_wf {β : Type} (l : List β) (a : β → Nat) (v : β → Word) {r : Regs} (h : r.wf = true) :
    (l.foldl (fun g b => g.set (a b) (v b)) r).wf = true := by
  induction l generalizing r with
  | nil => exact h
  | cons b l ih => exact ih (Regs.set_wf _ _ _ h)

theorem stagedRegs_wf (s : State) (h : s.regs.wf = true) : s.stagedRegs.wf = true := Regs.foldl_set_wf _ _ _ h

theorem shadowRegs_wf (l : List ShadowWord) : (shadowRegs l).wf = true := Regs.foldl_set_wf _ _ _ (by decide)

namespace Kept
variable {s t u : State}

theorem refl (s : State) : Kept s s := ⟨rfl, id⟩

theorem trans (h : Kept s t) (k : Kept t u) : Kept s u := ⟨k.queue.trans h.queue, k.stores ∘ h.stores⟩

theorem frame {K : List StPart} (h : Kept s t) (f : Frame K t u) (hK : ∀ p ∈ keptParts, p ∉ K := by decide) : Kept s u := by
  refine h.trans ⟨f.keep .pending (hK _ (by decide)), ?_⟩
  have hks : u.ks = t.ks := f.keep .ks (hK _ (by decide))
  have hsip : u.sip = t.sip := f.keep .sip (hK _ (by decide))
  have hregs := f.keep .regsOff (hK _ (by decide))
  simp only [Memory.wf, Bool.and_eq_true, hks, hsip]
  exact fun w => ⟨w.1, (hregs w.2).1⟩

theorem ite {c : Prop} [Decidable c] (h : Kept s t) (k : Kept s u) : Kept s (if c then t else u) := by
  split <;> assumption

theorem foldl {β : Type} {l : List β} {g : State → β → State} (h : Kept s t) (k : ∀ x b, Kept s x → Kept s (g x b)) :
    Kept s (l.foldl g t) := by
  induction l generalizing t with
  | nil => exact h
  | cons b l ih => exact ih (k t b h)

theorem onRegsTo {g : Regs} (h : Kept s t) (hg : t.regs.wf = true → g.wf = true) : Kept s (t.onRegs fun _ => g) := by
  refine h.trans ⟨rfl, fun w => ?_⟩
  simp only [Memory.wf, Bool.and_eq_true] at w ⊢
  exact ⟨w.1, hg w.2⟩

theorem iteFst {α : Type} {c : Prop} [Decidable c] {p q : State × α} (hp : Kept s p.1) (hq : Kept s q.1) :
    Kept s (if c then p else q).1 := by
  split <;> assumption

theorem foldlSnd {α β : Type} {l : List β} {p : α × State} {g : α × State → β → α × State} (h : Kept s p.2)
    (k : ∀ x b, Kept s x.2 → Kept s (g x b).2) : Kept s (l.foldl g p).2 := by
  induction l generalizing p with
  | nil => exact h
  | cons b l ih => exact ih (k p b h)

theorem foldlFst {α β : Type} {l : List β} {p : State × α} {g : State × α → β → State × α} (h : Kept s p.1)
    (k : ∀ x b, Kept s x.1 → Kept s (g x b).1) : Kept s (l.foldl g p).1 := by
  induction l generalizing p with
  | nil => exact h
  | cons b l ih => exact ih (k p b h)

theorem ack (h : Kept s t) : Kept s (Machine.ack t).1 := h

theorem nak {c d : Nat} (h : Kept s t) : Kept s (Machine.nak t c d).1 := h
theorem advance {dt : Nat} (h : Kept s t) : Kept s (t.advance dt) := h.frame (Frame.advance ..)

theorem onSip {f : SipSt → SipSt} (h : Kept s t)
    (hf : ∀ x, cellWf (fun _ => 0) x.sram = true → cellWf (fun _ => 0) (f x).sram = true := by exact fun _ => id) : Kept s (t.onSip f) := by
  refine h.trans ⟨rfl, fun w => ?_⟩
  simp only [Memory.wf, Bool.and_eq_true] at w ⊢
  exact ⟨⟨w.1.1, hf _ w.1.2⟩, w.2⟩

theorem onKs {f : KeepSt → KeepSt} (h : Kept s t)
    (hf : ∀ x, cellWf ksDflt x.cells = true → cellWf ksDflt (f x).cells = true := by exact fun _ => id) : Kept s (t.onKs f) := by
  refine h.trans ⟨rfl, fun w => ?_⟩
  simp only [Memory.wf, Bool.and_eq_true] at w ⊢
  exact ⟨⟨hf _ w.1.1, w.1.2⟩, w.2⟩

theorem onRegs {f : Regs → Regs} (h : Kept s t) (hf : ∀ r, r.wf = true → (f r).wf = true) : Kept s (t.onRegs f) := by
  refine h.trans ⟨rfl, fun w => ?_⟩
  simp only [Memory.wf, Bool.and_eq_true] at w ⊢
  exact ⟨w.1, hf _ w.2⟩

theorem done (h : Kept s t) : KeptNext s (Machine.done t) := ⟨_, rfl, h.frame (Frame.settle ..), settle_causesInOrder t⟩

theorem execFrzDump {dt : Nat} (h : Kept s t) : KeptNext s (Machine.execFrzDump dt t) := by
  unfold Machine.execFrzDump
  extract_lets +onlyGivenNames _
  apply done
  split
  · exact (h.advance).frame (Frame.onFrz ..)
  · extract_lets +onlyGivenNames s1
    have h1 : Kept s s1 := (h.advance).frame (Frame.onFrz ..)
    exact ite (h1.frame (Frame.dumpStart ..)) h1

theorem waitFlush {k : Fin 6} {bulk : Bool} (h : Kept s t) : Kept s (State.waitFlush t k bulk) := by
  unfold State.waitFlush
  split
  · exact h
  · extract_lets +onlyGivenNames s2
    have h2 : Kept s s2.2 := by
      unfold s2
      refine h.foldlSnd fun _ _ hx1 => ?_
      extract_lets +onlyGivenNames _ _
      split
      · dsimp only
        exact hx1.frame (Frame.linkPut ..)
      · exact hx1
    extract_lets +onlyGivenNames _
    exact ite ((h2.frame (Frame.putWait ..)).frame (Frame.fabDiscard ..)) (h2.frame (Frame.putWait ..))

theorem forwardTake {p : Fin 3} {tag : Nat} {f : Forward} (h : Kept s t) (hf : t.forwardTake p tag = some (f, u)) : Kept s u := by
  unfold State.forwardTake at hf
  obtain ⟨g, -, hg⟩ := Option.map_eq_some_iff.1 hf
  obtain ⟨-, rfl⟩ := Prod.mk.injEq .. ▸ hg
  exact h.frame (Frame.onCp ..)

theorem fabSeq {typ : Nat} (h : Kept s t) : Kept s (State.fabSeq t typ).2 := by
  unfold State.fabSeq
  extract_lets +onlyGivenNames _
  dsimp only
  exact h.frame (Frame.onFab ..)

theorem execEncObserverMismatch {dt : Nat} {n : Fin 6} (h : Kept s t) : KeptNext s (Machine.execEncObserverMismatch dt n t) := by
  unfold Machine.execEncObserverMismatch
  extract_lets +onlyGivenNames _
  apply done
  split
  · exact ite ((h.advance).frame (Frame.encFault ..)) (h.advance)
  · exact h.advance

theorem ksWrite {o : Nat} {bs : List Byte} (h : Kept s t) : Kept s (State.ksWrite t o bs) :=
  h.trans ⟨rfl, ksWrite_wf t o bs⟩

theorem fabSeen {src : Nat} {typ : Nat} {seq : Nat} (h : Kept s t) : Kept s (State.fabSeen t src typ seq).2 := by
  unfold State.fabSeen
  dsimp only
  exact h.frame (Frame.onFab ..)

theorem modCh {c : Fin 32} {f : ChSt → ChSt} (h : Kept s t) : Kept s (State.modCh t c f) := by
  unfold State.modCh
  exact h.onSip

theorem shareBegin {g : Fin 16} (h : Kept s t) : Kept s (State.shareBegin t g) := by
  unfold State.shareBegin
  split
  · exact h
  · extract_lets +onlyGivenNames _ _ _ _ _ _ s1
    have h1 : Kept s s1 := (h.frame (Frame.ageReports ..)).frame (Frame.elect ..)
    exact h1.frame (Frame.modShr ..)

theorem trigger {c : Fin 32} {flush : Bool} (h : Kept s t) : Kept s (State.trigger t c flush) := by
  unfold State.trigger
  split
  · exact h.modCh
  · exact h.modCh
  · exact h
  · exact h
  · exact h

theorem tokenPick {l : List TokenReq} (h : Kept s t) : Kept s (State.tokenPick t l).2 := by
  unfold State.tokenPick
  extract_lets +onlyGivenNames tied _
  clear_value tied
  split
  · exact h
  · exact h
  · extract_lets +onlyGivenNames _
    split
    · dsimp only
      exact h.frame (Frame.onCp ..)
    · exact h

theorem rightsNak {c : Ctx} (h : Kept s t) : Kept s (Machine.rightsNak c t).1 := by
  unfold Machine.rightsNak
  exact h

theorem imgEntry {k : Ctx → State → Res} {c : Ctx} (h : Kept s t) (hk : ∀ c x, Kept s x → Kept s (k c x).1) :
    Kept s (imgEntry k c t).1 := by
  unfold Machine.imgEntry
  split
  · exact h.rightsNak
  · exact hk _ _ (ite (h.frame (Frame.modImg ..)) h)

theorem chStop {c : Fin 32} {code : Nat} (h : Kept s t) : Kept s (State.chStop t c code) := by
  unfold State.chStop
  extract_lets +onlyGivenNames _ s1
  have h1 : Kept s s1 := ite h.modCh.onSip h.modCh
  exact h1.frame (Frame.event ..)

theorem syncTrim {off : Rat} {parentSynced : Bool} (h : Kept s t) : Kept s (State.syncTrim t off parentSynced) := by
  unfold State.syncTrim
  extract_lets +onlyGivenNames _ _ _ _ _ s1
  have h1 : Kept s s1 := (h.frame (Frame.fresh ..)).frame (Frame.onFab ..)
  exact h1.frame (Frame.onTbs ..)

theorem execEnvelopeReceived {dt : Nat} {c : Fin 16} {envelope : List Byte} (h : Kept s t) : KeptNext s (Machine.execEnvelopeReceived dt c envelope t) := by
  unfold Machine.execEnvelopeReceived
  extract_lets +onlyGivenNames _ s1
  have h1 : Kept s s1 := ite ((h.advance).frame (Frame.frameRow ..)) (h.advance)
  exact (h1.frame (Frame.envelopeIn ..)).done

theorem execScrub {dt : Nat} (h : Kept s t) : KeptNext s (Machine.execScrub dt t) := by
  unfold Machine.execScrub
  extract_lets +onlyGivenNames _
  split
  · split
    · exact (((h.advance).foldl fun _ _ hx1 => hx1.frame (Frame.nandPush ..)).frame (Frame.modBlk ..)).done
    · exact (h.advance).done
  · exact (h.advance).done

theorem speedTick {n : Fin 6} (h : Kept s t) : Kept s (State.speedTick t n) :=
  h.frame (Frame.modCmd ..)

theorem fillTriggers {r : Fin 32} (h : Kept s t) : Kept s (State.fillTriggers t r) :=
  h.foldl fun _ _ hx1 => ite (ite hx1.trigger hx1) (ite hx1.trigger hx1)

theorem srstTake (h : Kept s t) : Kept s (State.srstTake t).2 := by
  unfold State.srstTake
  split
  · split
    · extract_lets +onlyGivenNames _ _
      dsimp only
      exact (h.frame (Frame.onSaf ..)).frame (Frame.onGd ..)
    · exact h
  · exact h

theorem commitTake (h : Kept s t) : Kept s (State.commitTake t) := by
  unfold State.commitTake
  split
  · exact h
  · extract_lets
    split
    · exact h
    · exact (h.frame (Frame.onStg ..)).frame (Frame.commitEnd ..)
    · have hregs : Kept s (t.onRegs fun _ => t.stagedRegs) := h.onRegsTo (stagedRegs_wf t)
      exact ((hregs.frame (Frame.onStg ..)).frame (Frame.commitEnd ..)).foldl fun _ _ hx => ite (hx.frame (Frame.freqCommit ..)) hx

theorem homeDone {x : Fin 4} {setPos : Bool} (h : Kept s t) : Kept s (State.homeDone t x setPos) := by
  unfold State.homeDone
  extract_lets +onlyGivenNames _ _ _ s1
  have h1 : Kept s s1 := ite (h.frame (Frame.auxSetPos ..)) h
  extract_lets +onlyGivenNames s2
  have h2 : Kept s s2 := h1.onRegs fun _ w => Regs.set_wf _ _ _ (Regs.set_wf _ _ _ (Regs.set_wf _ _ _ w))
  exact (h2.frame (Frame.modAux ..)).frame (Frame.event ..)

theorem meanTick {n : Fin 6} (h : Kept s t) : Kept s (State.meanTick t n) := by
  unfold State.meanTick
  extract_lets +onlyGivenNames _
  exact h.frame (Frame.modAx ..)

theorem execTapWaitExpiry {dt : Nat} (h : Kept s t) : KeptNext s (Machine.execTapWaitExpiry dt t) := by
  unfold Machine.execTapWaitExpiry
  extract_lets +onlyGivenNames _
  apply done
  split
  · exact ite ((h.advance).frame (Frame.dumpStart ..)) (h.advance)
  · exact h.advance

theorem forwardTimeout {p : Fin 3} {tag : Nat} (h : Kept s t) : Kept s (t.forwardTimeout p tag) := by
  unfold State.forwardTimeout
  split
  · exact h
  · split
    · next hf => exact ite ((h.forwardTake hf).frame (Frame.portReply ..)) h
    · exact h

theorem syncRespIn {k : Fin 6} {b : List Byte} (h : Kept s t) : Kept s (State.syncRespIn t k b) := by
  unfold State.syncRespIn
  split
  · exact h
  · extract_lets +onlyGivenNames _
    split
    · exact h.frame (Frame.modLink ..)
    · extract_lets +onlyGivenNames _ _ _ _ _ s1
      have h1 : Kept s s1 := (h.frame (Frame.modLink ..)).frame (Frame.modLink ..)
      extract_lets +onlyGivenNames _ _
      split
      · exact ((h1.frame (Frame.onTbs ..)).syncTrim).frame (Frame.syncBack ..)
      · split
        · exact h1.frame (Frame.onTbs ..)
        · extract_lets +onlyGivenNames _ s2
          have h2 : Kept s s2 := ((h1.frame (Frame.onTbs ..)).frame (Frame.tbLoad ..)).frame (Frame.onFab ..)
          exact h2.frame (Frame.timeRec ..)

theorem needRights {m : Bool} {c : Ctx} {k : State → Res} (h : Kept s t) (hk : ∀ x, Kept s x → Kept s (k x).1) :
    Kept s (needRights m c t k).1 := by
  unfold Machine.needRights
  split
  · exact hk _ h
  · exact h.rightsNak

theorem doTickClr {c : Ctx} {w : Word} (h : Kept s t) : Kept s (Machine.doTickClr c t w).1 := by
  unfold Machine.doTickClr
  exact h.needRights (fun _ hx1 => (ite (hx1.frame (Frame.onTick ..)) hx1).ack)

theorem doRcnClr {n : Fin 6} {c : Ctx} {w : Word} (h : Kept s t) : Kept s (Machine.doRcnClr n c t w).1 := by
  unfold Machine.doRcnClr
  refine h.needRights (fun _ hx1 => ?_)
  split
  · exact hx1
  · exact (ite (hx1.frame (Frame.modSns ..)) hx1).ack

theorem doStgDiscard {c : Ctx} {w : Word} (h : Kept s t) : Kept s (Machine.doStgDiscard c t w).1 := by
  unfold Machine.doStgDiscard
  refine h.needRights (fun _ hx1 => ?_)
  split
  · exact hx1
  · split
    · exact hx1
    · exact (hx1.frame (Frame.stgEmpty ..)).ack

theorem entry {o : Origin} {op : Nat} {addr : Option Nat} {f : Ctx → State → Res} {n : Nat} {raw : Bool} {ws : List Word}
    {args : List Byte} {maint : Bool} {age : Nat} (h : Kept s t) (hf : ∀ c x, Kept s x → Kept s (f c x).1) :
    Kept s (t.entry o op addr f n raw ws args maint age) := by
  unfold State.entry
  extract_lets _ _ r r'
  split
  · exact h
  · exact ite (h.frame (Frame.queueAlone ..)) ((h.frame (Frame.settleReply ..)).frame (Frame.onCp ..))
  · split
    · exact h.frame (Frame.queueAlone ..)
    · have hr : Kept s r.1 := by
        unfold r
        split
        · exact h.frame (Frame.pairDrop ..)
        · exact hf _ _ h
      have hr' : Kept s r'.1 := by
        unfold r'
        split
        · exact hr.frame (Frame.renewLease ..)
        · exact hr
      exact (hr'.frame (Frame.settleReply ..)).frame (Frame.onCp ..)

theorem doAuxPos {x : Fin 4} {c : Ctx} {w : Word} (h : Kept s t) : Kept s (Machine.doAuxPos x c t w).1 := by
  unfold Machine.doAuxPos
  refine h.needRights (fun _ hx1 => ?_)
  split
  · exact hx1
  · exact (hx1.onRegs fun _ w => Regs.set_wf _ _ _ w).ack

theorem axisTick {n : Fin 6} (h : Kept s t) : Kept s (State.axisTick t n) := by
  unfold State.axisTick
  extract_lets +onlyGivenNames _ _ s1
  have h1 : Kept s s1 := ((h.frame (Frame.dcFactors ..)).speedTick).frame (Frame.thermTick ..)
  exact h1.frame (Frame.loadTick ..)

theorem frzRefuse {source : Nat} {cause : Nat} {stamp : Nat} {reason : Nat} {t₀ : Option Nat} {origin : Nat} (h : Kept s t) : Kept s (State.frzRefuse t source cause stamp reason t₀ origin) := by
  unfold State.frzRefuse
  extract_lets +onlyGivenNames _ s1
  have h1 : Kept s s1.2 := (h.frame (Frame.fresh ..)).frame (Frame.fresh ..)
  extract_lets +onlyGivenNames s2
  have h2 : Kept s s2 := ite h h1
  exact (h2.frame (Frame.onFrz ..)).frame (Frame.freezeRec ..)

theorem doImageAbort {c : Ctx} (h : Kept s t) : Kept s (Machine.doImageAbort c t).1 := by
  unfold Machine.doImageAbort
  refine h.imgEntry (fun _ _ hx1 => ?_)
  split
  · exact hx1
  · extract_lets +onlyGivenNames _
    exact (hx1.frame (Frame.imgAbandon ..)).ack

theorem forwardReply {p : Fin 3} {tag : Nat} {b : List Byte} (h : Kept s t) : Kept s (t.forwardReply p tag b) := by
  unfold State.forwardReply
  split
  · exact h
  · split
    · next hf => exact (h.forwardTake hf).frame (Frame.portReply ..)
    · exact h

theorem doAxisSet {n : Fin 6} {c : Ctx} {w : Word} (h : Kept s t) : Kept s (Machine.doAxisSet n c t w).1 := by
  unfold Machine.doAxisSet
  refine h.needRights (fun _ hx1 => ?_)
  split
  · exact hx1
  · split
    · exact hx1
    · split
      · exact hx1
      · exact ((hx1.onRegs fun _ w => Regs.set_wf _ _ _ w).frame (Frame.wrote ..)).ack

theorem ecSet {b : Nat} {n : Nat} (h : Kept s t) : Kept s (State.ecSet t b n) :=
  h.ksWrite

theorem doHold {there : Bool} {a : Nat} {r : RegRow} {c : Ctx} {w : Word} (h : Kept s t) : Kept s (Machine.doHold there a r c t w).1 := by
  unfold Machine.doHold
  refine h.needRights (fun _ hx1 => ?_)
  split
  · exact hx1
  · split
    · exact hx1
    · exact (hx1.onRegs fun _ w => Regs.set_wf _ _ _ w).ack

theorem execLinkSilent {dt : Nat} {k : Fin 6} (h : Kept s t) : KeptNext s (Machine.execLinkSilent dt k t) := by
  unfold Machine.execLinkSilent
  extract_lets +onlyGivenNames _ _
  split
  · exact (((h.advance).frame (Frame.linkRestart ..)).frame (Frame.event ..)).done
  · exact (h.advance).done

theorem lever {n : Fin 6} {ta : Nat} (h : Kept s t) : Kept s (State.lever t n ta).1 := by
  unfold State.lever
  extract_lets +onlyGivenNames _ _ _ _ _ _
  split
  · dsimp only
    exact h.frame (Frame.modCmd ..)
  · split
    · exact h
    · extract_lets +onlyGivenNames s1
      have h1 : Kept s s1 := ite h ((h.frame (Frame.modCmd ..)).frame (Frame.event ..))
      extract_lets +onlyGivenNames _ _
      split
      · dsimp only
        exact h1.frame (Frame.modCmd ..)
      · extract_lets +onlyGivenNames _ _ _ _ _
        dsimp only
        exact h1.frame (Frame.modCmd ..)

theorem selectOwn {n : Fin 6} {ta : Nat} (h : Kept s t) : Kept s (State.selectOwn t n ta) := by
  unfold State.selectOwn
  extract_lets +onlyGivenNames _ _ src
  clear_value src
  split
  · exact (h.frame (Frame.leverCheck ..)).frame (Frame.modCmd ..)
  · extract_lets +onlyGivenNames _
    exact (h.frame (Frame.leverCheck ..)).frame (Frame.modCmd ..)
  · extract_lets +onlyGivenNames _
    exact ((h.frame (Frame.leverCheck ..)).lever).frame (Frame.modCmd ..)
  · exact (h.frame (Frame.leverCheck ..)).frame (Frame.modCmd ..)

theorem canGood {n : Fin 2} (h : Kept s t) : Kept s (State.canGood t n) := by
  unfold State.canGood
  split
  · exact h
  · extract_lets +onlyGivenNames _
    split
    · exact h
    · split
      · exact h.frame (Frame.canCount ..)
      · extract_lets +onlyGivenNames _
        exact (h.frame (Frame.fresh ..)).frame (Frame.canCount ..)

theorem doSntClr {a : Fin 10} {c : Ctx} {w : Word} (h : Kept s t) : Kept s (Machine.doSntClr a c t w).1 := by
  unfold Machine.doSntClr
  refine h.needRights (fun _ hx1 => ?_)
  split
  · exact hx1
  · exact (ite (hx1.frame (Frame.modSnt ..)) hx1).ack

theorem loadEntry {keepOk : Bool} (h : Kept s t) : Kept s (State.loadEntry t keepOk) := by
  unfold State.loadEntry
  split
  · exact h
  · split
    · exact (h.frame (Frame.onLd ..)).frame (Frame.loadOver ..)
    · exact (((h.frame (Frame.onPwr ..)).frame (Frame.putMode ..)).frame (Frame.onLd ..)).onSip fun _ _ => rfl

theorem doAxisClear {c : Ctx} {w : Word} (h : Kept s t) : Kept s (Machine.doAxisClear c t w).1 := by
  unfold Machine.doAxisClear
  refine h.needRights (fun _ hx1 => ?_)
  extract_lets +onlyGivenNames _ _
  split
  · exact hx1
  · extract_lets +onlyGivenNames _ _ s2
    have h2 : Kept s s2 := (hx1.frame (Frame.onCmd ..)).frame (Frame.onFreeIx ..)
    split <;> exact h2

theorem routesApply {origin : Nat} {seq : Nat} {instant : Nat} {version : Nat} (h : Kept s t) : Kept s (State.routesApply t origin seq instant version) := by
  unfold State.routesApply
  extract_lets +onlyGivenNames _
  exact ite h.fabSeen (h.fabSeen.frame (Frame.onFab ..))

theorem doPortErrClr {p : Fin 3} {c : Ctx} {w : Word} (h : Kept s t) : Kept s (Machine.doPortErrClr p c t w).1 := by
  unfold Machine.doPortErrClr
  exact h.needRights (fun _ hx1 => (ite (hx1.frame (Frame.onCp ..)) hx1).ack)

theorem doStage {a : Nat} {r : RegRow} {c : Ctx} {w : Word} (h : Kept s t) : Kept s (Machine.doStage a r c t w).1 := by
  unfold Machine.doStage
  refine h.needRights (fun _ hx1 => ?_)
  extract_lets +onlyGivenNames _
  split
  · exact hx1
  · split
    · exact hx1
    · extract_lets +onlyGivenNames _
      split
      · exact (hx1.frame (Frame.onStg ..)).ack
      · split
        · exact hx1
        · exact (hx1.frame (Frame.onStg ..)).ack

theorem auxMoveDone {x : Fin 4} (h : Kept s t) : Kept s (State.auxMoveDone t x) := by
  unfold State.auxMoveDone
  extract_lets +onlyGivenNames _ _ _ _
  split
  · exact ite h (ite (h.frame (Frame.homeFail ..)) (h.frame (Frame.homeAway ..)))
  · exact ite (h.frame (Frame.homeAway ..)) h
  · exact ite (h.frame (Frame.modAux ..)) h
  · exact ite h.homeDone h
  · exact ite h.homeDone h
  · exact ite (h.frame (Frame.homeFail ..)) h
  · exact ite (h.frame (Frame.modAux ..)) h
  · exact h

theorem chopTrip {c : Fin 4} (h : Kept s t) : Kept s (State.chopTrip t c) := by
  unfold State.chopTrip
  split
  · extract_lets +onlyGivenNames s1
    have h1 : Kept s s1 := (h.frame (Frame.chopOff ..)).frame (Frame.testAbort ..)
    extract_lets +onlyGivenNames _ _
    exact ite (h1.frame (Frame.onGd ..)) ((h1.frame (Frame.onGd ..)).frame (Frame.event ..))
  · exact h

theorem sramMeet {a : Nat} (h : Kept s t) : Kept s (State.sramMeet t a) := by
  unfold State.sramMeet
  split
  · exact h.onSip
  · exact h.onSip
  · exact h

theorem commitRefuse {tag : Nat} {port : Nat} {code : Nat} (h : Kept s t) : Kept s (State.commitRefuse t tag port code).1 := by
  unfold State.commitRefuse
  extract_lets +onlyGivenNames _ s1
  have h1 : Kept s s1.2 := (h.frame (Frame.fresh ..)).frame (Frame.fresh ..)
  exact (h1.frame (Frame.commitEnd ..)).nak

theorem ksPair {o : Nat} {d : Nat} {data : List Byte} (h : Kept s t) : Kept s (State.ksPair t o d data) :=
  h.ksWrite.ksWrite

theorem fetchDesc {c : Fin 32} (h : Kept s t) : Kept s (State.fetchDesc t c) := by
  unfold State.fetchDesc
  extract_lets +onlyGivenNames _
  split
  · exact h.chStop
  · extract_lets +onlyGivenNames _ _
    exact ite h.modCh.chStop h.modCh.onSip

theorem execMaintenanceWaitExpiry {dt : Nat} {target : Fin 4} (h : Kept s t) : KeptNext s (Machine.execMaintenanceWaitExpiry dt target t) := by
  unfold Machine.execMaintenanceWaitExpiry
  extract_lets +onlyGivenNames _ _
  split
  · exact ((h.advance).frame (Frame.onCar ..)).done
  · exact (h.advance).done

theorem tokenDecide (h : Kept s t) : Kept s (State.tokenDecide t).1 := by
  unfold State.tokenDecide
  extract_lets +onlyGivenNames _ _
  split
  · exact h
  · extract_lets +onlyGivenNames _ _ _
    split
    · extract_lets +onlyGivenNames _ _ _
      dsimp only
      exact (h.tokenPick.frame (Frame.tokenGrant ..)).frame (Frame.onCp ..)
    · dsimp only
      exact h.tokenPick.frame (Frame.onCp ..)

theorem doSafe {envelope : List Byte} {c : Ctx} (h : Kept s t) : Kept s (Machine.doSafe envelope c t).1 := by
  unfold Machine.doSafe
  extract_lets +onlyGivenNames _ _
  split
  · exact h.rightsNak
  · split
    · exact h
    · exact (h.foldl fun _ _ hx1 => hx1.frame (Frame.envelopeIn ..)).ack

theorem doCanHost {n : Fin 2} {h₀ : Fin 4} {c : Ctx} {w : Word} (h : Kept s t) : Kept s (Machine.doCanHost n h₀ c t w).1 := by
  unfold Machine.doCanHost
  refine h.needRights (fun _ hx1 => ?_)
  extract_lets +onlyGivenNames _
  split
  · exact hx1
  · extract_lets +onlyGivenNames s2
    have h2 : Kept s s2 := ite (hx1.frame (Frame.modCan ..)) hx1
    split
    · extract_lets +onlyGivenNames _
      split
      · exact ((h2.frame (Frame.fresh ..)).frame (Frame.modCan ..)).ack
      · extract_lets +onlyGivenNames _ s3
        have h3 : Kept s s3 := (h2.frame (Frame.fresh ..)).frame (Frame.sameEnd ..)
        exact (h3.frame (Frame.modCan ..)).ack
    · exact h2

theorem sramWrite {a : Nat} {bs : List Byte} (h : Kept s t) : Kept s (State.sramWrite t a bs) :=
  h.trans ⟨rfl, sramWrite_wf t a bs⟩

theorem autoArm (h : Kept s t) : Kept s (State.autoArm t) :=
  (h.frame (Frame.onGd ..)).frame (Frame.autoTest ..)

theorem doAuxSet {x : Fin 4} {c : Ctx} {w : Word} (h : Kept s t) : Kept s (Machine.doAuxSet x c t w).1 := by
  unfold Machine.doAuxSet
  refine h.needRights (fun _ hx1 => ?_)
  split
  · exact hx1
  · split
    · exact hx1
    · split
      · exact hx1
      · exact (hx1.onRegs fun _ w => Regs.set_wf _ _ _ w).ack

theorem toCold {cause start tb mode : Nat} {vcoreS : Bool} (h : Kept s t) : Kept s (t.toCold cause start tb mode vcoreS) := by
  refine h.trans ⟨rfl, fun w => ?_⟩
  have hks : cellWf ksDflt t.ks.cells = true := by
    simp only [Memory.wf, Bool.and_eq_true] at w
    exact w.1.1
  have hreset := reset_wf
  simp only [Memory.wf, Bool.and_eq_true] at hreset ⊢
  exact ⟨⟨hks, hreset.1.2⟩, hreset.2⟩

theorem frzRead {ready : Bool} (h : Kept s t) : Kept s (State.frzRead t ready) := by
  unfold State.frzRead
  split
  · exact h.frame (Frame.onFrz ..)
  · extract_lets +onlyGivenNames _
    split
    · extract_lets +onlyGivenNames _
      exact (h.frame (Frame.onFrz ..)).frame (Frame.onFrz ..)
    · extract_lets +onlyGivenNames s1
      have h1 : Kept s s1.2 := (h.frame (Frame.onFrz ..)).frame (Frame.fresh ..)
      exact h1.frame (Frame.onFrz ..)

theorem leaves {bulk : Bool} {w : WaitPkt} (h : Kept s t) : Kept s (State.leaves t bulk w).2 := by
  unfold State.leaves
  refine h.foldlSnd fun _ _ hx1 => ?_
  extract_lets +onlyGivenNames _ _
  split
  · dsimp only
    exact hx1.frame (Frame.linkPut ..)
  · exact hx1

theorem readWord {o : Origin} {a : Nat} (h : Kept s t) : Kept s (State.readWord t o a).2 := by
  unfold State.readWord
  split
  · exact h
  · dsimp only
    exact h.sramMeet
  · exact h
  · split
    · dsimp only
      exact h.frame (Frame.onTbs ..)
    · split
      · split
        · dsimp only
          exact h.frame (Frame.onTbs ..)
        · exact h
      · dsimp only
        exact h.frame (Frame.pairCheck ..)

theorem doModeReq {c : Ctx} {w : Word} (h : Kept s t) : Kept s (Machine.doModeReq c t w).1 := by
  unfold Machine.doModeReq
  refine h.needRights (fun _ hx1 => ?_)
  extract_lets +onlyGivenNames _
  split
  · exact hx1
  · extract_lets +onlyGivenNames _
    split
    · exact (hx1.frame (Frame.putBlock ..)).nak
    · split
      · exact (hx1.frame (Frame.putBlock ..)).nak
      · exact ((hx1.frame (Frame.putBlock ..)).frame (Frame.onMode ..)).ack
  · split
    · exact (hx1.frame (Frame.setStop ..)).ack
    · exact hx1
  · split
    · exact (hx1.frame (Frame.onMode ..)).ack
    · exact hx1

theorem testFreeze (h : Kept s t) : Kept s (State.testFreeze t) := by
  unfold State.testFreeze
  split
  · extract_lets +onlyGivenNames _ _
    exact h.frame (Frame.onGd ..)
  · exact h

theorem doFetch {k : Fin 32} {max : Nat} {c : Ctx} (h : Kept s t) : Kept s (Machine.doFetch k max c t).1 := by
  unfold Machine.doFetch
  split
  · exact h
  · split
    · exact h.rightsNak
    · split
      · exact h
      · split
        · exact h
        · extract_lets +onlyGivenNames _
          split
          · exact h
          · exact h.modCh.ack

theorem doStgIdx {c : Ctx} {w : Word} (h : Kept s t) : Kept s (Machine.doStgIdx c t w).1 := by
  unfold Machine.doStgIdx
  refine h.needRights (fun _ hx1 => ?_)
  split
  · exact hx1
  · exact (hx1.frame (Frame.onStg ..)).ack

theorem resetHistory {tb : Nat} {dur : Nat} {cause : Nat} {mode : Nat} (h : Kept s t) : Kept s (State.resetHistory t tb dur cause mode) := by
  unfold State.resetHistory
  exact h.ksPair.onKs

theorem doSipCmd {k : Fin 32} {c : Ctx} {w : Word} (h : Kept s t) : Kept s (Machine.doSipCmd k c t w).1 := by
  unfold Machine.doSipCmd
  extract_lets _ _ _ go
  have hgo : ∀ x, Kept s x → Kept s (go x).1 := by
    intro x hx
    unfold go
    split
    · exact hx
    · split
      · split
        · exact hx.modCh.ack
        · exact hx
      · split
        · extract_lets
          split
          · exact hx.modCh.ack
          · exact hx
        · split
          · split
            · exact hx.modCh.ack
            · exact hx.chStop.ack
            · exact hx.chStop.ack
            · exact hx
            · exact hx
          · split
            · exact hx.modCh.ack
            · exact hx
  split
  · exact h.needRights hgo
  · split
    · exact hgo _ h
    · exact h.rightsNak

theorem execMemberLost {dt : Nat} {g : Fin 16} {slot : Fin 32} (h : Kept s t) : KeptNext s (Machine.execMemberLost dt g slot t) := by
  unfold Machine.execMemberLost
  extract_lets +onlyGivenNames _ _ lead
  clear_value lead
  split
  · exact (h.advance).done
  · split
    · exact (h.advance).done
    · extract_lets +onlyGivenNames s1
      have h1 : Kept s s1 := ((h.advance).frame (Frame.modShr ..)).frame (Frame.event ..)
      split
      · exact ((h1.frame (Frame.modShr ..)).frame (Frame.event ..)).done
      · exact h1.done

theorem supplyLoss {sup : Supply} (h : Kept s t) : Kept s (State.supplyLoss t sup) := by
  unfold State.supplyLoss
  extract_lets +onlyGivenNames _ s1
  have h1 : Kept s s1 := by
    unfold s1
    split
    · exact ite (h.frame (Frame.onPwr ..)) h
    · split <;> exact h.toCold
  exact h1.frame (Frame.onPwr ..)

theorem copyBytes {d : Desc} {n : Nat} (h : Kept s t) : Kept s (State.copyBytes t d n) :=
  h.sramWrite

theorem execSyncLost {dt : Nat} {trimLimit : Bool} (h : Kept s t) : KeptNext s (Machine.execSyncLost dt trimLimit t) := by
  unfold Machine.execSyncLost
  extract_lets +onlyGivenNames _ _
  split
  · exact ((((h.advance).frame (Frame.onTbs ..)).frame (Frame.onFab ..)).frame (Frame.timeRec ..)).done
  · exact (h.advance).done

theorem modRing {r : Fin 32} {f : RingSt → RingSt} (h : Kept s t) : Kept s (State.modRing t r f) := by
  unfold State.modRing
  exact h.onSip

theorem nandErase {b : Nat} (h : Kept s t) : Kept s (State.nandErase t b) :=
  h.ecSet.frame (Frame.nandPush ..)

theorem doSramWrite {a : Nat} {c : Ctx} {w : Word} (h : Kept s t) : Kept s (Machine.doSramWrite a c t w).1 := by
  unfold Machine.doSramWrite
  split
  · exact h.rightsNak
  · extract_lets +onlyGivenNames _
    split
    · exact h
    · split
      · exact h.rightsNak
      · split
        · exact h.sramWrite.ack
        · exact h

theorem rplStart {c : Ctx} (h : Kept s t) : Kept s (State.rplStart t c).1 := by
  unfold State.rplStart
  extract_lets +onlyGivenNames _ _ _ area _ _ _
  split
  · exact h.rightsNak
  · split
    · exact h
    · split
      · exact h
      · extract_lets +onlyGivenNames _ _ s1
        have h1 : Kept s s1 := (h.onRegs fun _ w => Regs.set_wf _ _ _ w).frame (Frame.modRpl ..)
        extract_lets +onlyGivenNames _
        exact ((h1.frame (Frame.carRec ..)).frame (Frame.rplNext ..)).ack

theorem doSipRestart {c : Ctx} {w : Word} (h : Kept s t) : Kept s (Machine.doSipRestart c t w).1 := by
  unfold Machine.doSipRestart
  refine h.needRights (fun _ hx1 => ?_)
  split
  · exact hx1
  · split
    · exact hx1
    · extract_lets +onlyGivenNames _ _ _
      exact (hx1.onSip.frame (Frame.event ..)).ack

theorem sramBad {a : Nat} (h : Kept s t) : Kept s (State.sramBad t a) := by
  unfold State.sramBad
  exact h.onSip

theorem auxKeep {x : Fin 4} {boundary : Nat} {k : Nat} (h : Kept s t) : Kept s (State.auxKeep t x boundary k) :=
  ite h h.ksPair

theorem execJcpForwardReply {dt : Nat} {port : Fin 3} {tag : BitVec 16} {bytes : List Byte} (h : Kept s t) : KeptNext s (Machine.execJcpForwardReply dt port tag bytes t) := by
  unfold Machine.execJcpForwardReply
  extract_lets +onlyGivenNames _ s1
  have h1 : Kept s s1 := by
    unfold s1
    split
    · exact ite ((h.advance).frame (Frame.frameRow ..)) (h.advance)
    · exact h.advance
  exact h1.forwardReply.done

theorem rplWrite {n : Nat} (h : Kept s t) : Kept s (t.rplWrite n) := by
  induction n generalizing t with
  | zero => exact h
  | succ n ih =>
    unfold State.rplWrite
    extract_lets
    split
    · exact h
    · extract_lets
      split
      · exact h
      · exact ih (h.sramWrite.sramWrite.frame (Frame.modRpl ..))

theorem canReceive {n : Fin 2} {f : CanFrame} {mine : CanRole → Bool} {act : CanRole → Nat → State → State} (h : Kept s t)
    (k : ∀ r a x, Kept s x → Kept s (act r a x)) : Kept s (t.canReceive n f mine act) :=
  ite (h.frame (Frame.abdGood ..)) (ite (k _ _ _ h.canGood) h)

theorem execWorkSramWrite {dt : Nat} {o : Origin} {addr : Word} {value : Word} (h : Kept s t) : KeptNext s (Machine.execWorkSramWrite dt o addr value t) := by
  unfold Machine.execWorkSramWrite
  apply done
  refine (h.advance).entry (fun _ _ hx1 => ?_)
  split
  · exact hx1
  · exact hx1.doSramWrite

theorem execDescriptorFetched {dt : Nat} (h : Kept s t) : KeptNext s (Machine.execDescriptorFetched dt t) := by
  unfold Machine.execDescriptorFetched
  extract_lets +onlyGivenNames _
  split
  · exact (h.advance).done
  · split
    · exact ((h.advance).fetchDesc).done
    · split
      · exact (h.advance).done
      · extract_lets +onlyGivenNames s1
        have h1 : Kept s s1 := ((h.advance).onSip).modCh
        exact h1.fetchDesc.done

theorem execLinkDown {dt : Nat} {k : Fin 6} (h : Kept s t) : KeptNext s (Machine.execLinkDown dt k t) := by
  unfold Machine.execLinkDown
  extract_lets +onlyGivenNames _ _ _ _
  split
  · exact (((((h.advance).frame (Frame.txBreak ..)).frame (Frame.modLink ..)).frame (Frame.event ..)).frame (Frame.linkWatch ..)).done
  · exact (h.advance).done

theorem doCanCmd {n : Fin 2} {c : Ctx} {w : Word} (h : Kept s t) : Kept s (Machine.doCanCmd n c t w).1 := by
  unfold Machine.doCanCmd
  refine h.needRights (fun _ hx1 => ?_)
  split
  · exact hx1
  · extract_lets +onlyGivenNames s2
    have h2 : Kept s s2 := ite (hx1.frame (Frame.modCan ..)) hx1
    exact (ite (h2.frame (Frame.modCan ..)) h2).ack

theorem mountRestore {f : MountReport} {m : MountMeta} (h : Kept s t) : Kept s (State.mountRestore t f m) := by
  unfold State.mountRestore
  extract_lets +onlyGivenNames _ _ _ _ _ s2
  have h2 : Kept s s2 := by
    unfold s2
    refine h.foldl fun _ _ hx1 => ?_
    split
    · exact hx1
    · exact hx1.ecSet
  extract_lets +onlyGivenNames _
  split
  · exact (h2.frame (Frame.onCar ..)).frame (Frame.onCar ..)
  · exact h2.frame (Frame.onCar ..)

theorem chComplete {c : Fin 32} (h : Kept s t) : Kept s (State.chComplete t c) := by
  unfold State.chComplete
  exact h.onSip.modCh

theorem doImageData {offset : Nat} {bytes : List Byte} {c : Ctx} (h : Kept s t) : Kept s (Machine.doImageData offset bytes c t).1 := by
  unfold Machine.doImageData
  refine h.imgEntry (fun _ _ hx1 => ?_)
  split
  · exact hx1
  · split
    · exact hx1
    · extract_lets +onlyGivenNames _
      exact (hx1.frame (Frame.onCp ..)).ack

theorem readWords {o : Origin} {a i n : Nat} {acc : List Byte} (h : Kept s t) : Kept s (t.readWords o a i n acc).1 := by
  induction n generalizing t a i acc with
  | zero => exact h
  | succ n ih =>
    unfold State.readWords
    split
    · exact h
    · exact ih h.readWord

theorem execCanEnvelopeFrame {dt : Nat} {n : Fin 2} {f : CanFrame} (h : Kept s t) : KeptNext s (Machine.execCanEnvelopeFrame dt n f t) := by
  unfold Machine.execCanEnvelopeFrame
  apply done
  refine (h.advance).canReceive (fun _ _ _ hx1 => ?_)
  split
  · exact hx1.frame (Frame.canEnvelope ..)
  · exact hx1

theorem doToken {sub : Nat} {c : Ctx} (h : Kept s t) : Kept s (Machine.doToken sub c t).1 := by
  unfold Machine.doToken
  split
  · exact h
  · split
    · exact h.rightsNak
    · extract_lets +onlyGivenNames _
      exact (h.frame (Frame.tokenRelease ..)).ack
  · split
    · exact h.rightsNak
    · exact h

theorem doHeaveA {n : Fin 6} {c : Ctx} {w : Word} (h : Kept s t) : Kept s (Machine.doHeaveA n c t w).1 := by
  unfold Machine.doHeaveA
  refine h.needRights (fun _ hx1 => ?_)
  split
  · exact hx1
  · split
    · exact hx1
    · extract_lets +onlyGivenNames s2
      have h2 : Kept s s2 := hx1.onRegs fun _ w => Regs.set_wf _ _ _ w
      exact (h2.frame (Frame.takeHeave ..)).ack

theorem ringLoss {r : Fin 32} {cause : Fin 5} (h : Kept s t) : Kept s (State.ringLoss t r cause) := by
  unfold State.ringLoss
  extract_lets +onlyGivenNames _
  split
  · exact h.modRing
  · extract_lets +onlyGivenNames _
    exact h.modRing.modRing.foldl fun _ _ hx1 => hx1.frame (Frame.event ..)

theorem doLimClr {x : Fin 4} {c : Ctx} {w : Word} (h : Kept s t) : Kept s (Machine.doLimClr x c t w).1 := by
  unfold Machine.doLimClr
  refine h.needRights (fun _ hx1 => ?_)
  split
  · exact hx1
  · extract_lets +onlyGivenNames clr s2
    have h2 : Kept s s2 := ite (hx1.frame (Frame.modLim ..)) hx1
    exact (ite (h2.frame (Frame.modLim ..)) h2).ack

theorem freezeAt {origin : Nat} {seq : Nat} {instant : Nat} {cause : Nat} (h : Kept s t) : Kept s (State.freezeAt t origin seq instant cause) := by
  unfold State.freezeAt
  extract_lets +onlyGivenNames _
  split
  · exact h.fabSeen
  · extract_lets +onlyGivenNames _ _
    exact ite h.fabSeen.frzRefuse (h.fabSeen.frame (Frame.frzPend ..))

theorem doSipHead {k : Fin 32} {c : Ctx} {w : Word} (h : Kept s t) : Kept s (Machine.doSipHead k c t w).1 := by
  unfold Machine.doSipHead
  split
  · exact h.rightsNak
  · split
    · exact (h.onRegs fun _ w => Regs.set_wf _ _ _ w).ack
    · exact h

theorem handOver (h : Kept s t) : Kept s (State.handOver t) := by
  unfold State.handOver
  extract_lets +onlyGivenNames _ s1
  have h1 : Kept s s1 := ite h.commitTake h
  extract_lets +onlyGivenNames _ s3
  have h3 : Kept s s3 := (h1.frame (Frame.clearTake ..)).foldl fun _ _ hx2 => hx2.frame (Frame.shareBoundary ..)
  extract_lets +onlyGivenNames s5
  have h5 : Kept s s5 := ite (h3.foldl fun _ _ hx4 => ite (hx4.frame (Frame.axisBoundary ..)) hx4) h3
  exact h5.foldl fun _ _ hx6 => ite (hx6.frame (Frame.auxBoundary ..)) hx6

theorem lastWrite {ta : Nat} {k : Nat} (h : Kept s t) : Kept s (State.lastWrite t ta k) :=
  h.ksPair

theorem doChopClear {c : Ctx} {w : Word} (h : Kept s t) : Kept s (Machine.doChopClear c t w).1 := by
  unfold Machine.doChopClear
  refine h.needRights (fun _ hx1 => ?_)
  extract_lets +onlyGivenNames _ _ s2
  have h2 : Kept s s2 := (hx1.frame (Frame.onGd ..)).frame (Frame.onFreeIx ..)
  split <;> exact h2

theorem resetAssert (h : Kept s t) : Kept s (State.resetAssert t) :=
  ite (h.frame (Frame.onPwr ..)) (h.toCold.frame (Frame.onPwr ..))

theorem doImageBegin {maint : Bool} {c : Ctx} (h : Kept s t) : Kept s (Machine.doImageBegin maint c t).1 := by
  unfold Machine.doImageBegin
  refine h.imgEntry (fun _ _ hx1 => ?_)
  split
  · exact hx1
  · extract_lets +onlyGivenNames _ s2
    have h2 : Kept s s2 := (hx1.frame (Frame.onCp ..)).frame (Frame.imgEvent ..)
    exact h2

theorem doCommit {c : Ctx} {w : Word} (h : Kept s t) : Kept s (Machine.doCommit c t w).1 := by
  unfold Machine.doCommit
  refine h.needRights (fun _ hx1 => ?_)
  extract_lets +onlyGivenNames _ _
  split
  · exact hx1.commitRefuse
  · split
    · exact hx1.commitRefuse
    · split
      · exact hx1
      · exact (hx1.frame (Frame.onStg ..)).ack

theorem doCrash {n : Fin 6} {c : Ctx} {w : Word} (h : Kept s t) : Kept s (Machine.doCrash n c t w).1 := by
  unfold Machine.doCrash
  refine h.needRights (fun _ hx1 => ?_)
  extract_lets +onlyGivenNames _ _
  split
  · exact hx1
  · split
    · exact hx1
    · exact (hx1.frame (Frame.modCmd ..)).ack

theorem buildChain {c : Nat} (h : Kept s t) : Kept s (State.buildChain t c) := by
  unfold State.buildChain
  extract_lets +onlyGivenNames _ _
  exact h.foldl fun _ _ hx1 => hx1.sramWrite

theorem doImageEnd {header : List Byte} {c : Ctx} (h : Kept s t) : Kept s (Machine.doImageEnd header c t).1 := by
  unfold Machine.doImageEnd
  refine h.imgEntry (fun _ _ hx1 => ?_)
  split
  · exact hx1
  · split
    · exact hx1
    · split
      · extract_lets +onlyGivenNames s2
        have h2 : Kept s s2 := (hx1.frame (Frame.modImg ..)).frame (Frame.imgEvent ..)
        exact h2
      · extract_lets +onlyGivenNames _
        exact (hx1.frame (Frame.onCp ..)).ack

theorem freezeNow (h : Kept s t) : Kept s (State.freezeNow t) := by
  unfold State.freezeNow
  split
  · split
    · exact h
    · extract_lets +onlyGivenNames _ target s1
      have h1 : Kept s s1 := ((h.frame (Frame.fresh ..)).testFreeze).frame (Frame.frzBridges ..)
      extract_lets +onlyGivenNames _ s2
      have h2 : Kept s s2 := ((h1.frame (Frame.putMode ..)).frame (Frame.fabStop ..)).frame (Frame.canFreeze ..)
      extract_lets +onlyGivenNames s3
      have h3 : Kept s s3 := (h2.frame (Frame.onClk ..)).frame (Frame.onTbs ..)
      extract_lets +onlyGivenNames _ s4
      have h4 : Kept s s4 := (h3.frame (Frame.onSaf ..)).frame (Frame.onFrz ..)
      exact ite (h4.frame (Frame.dumpStart ..)) h4
  · exact h

theorem doSelfTest {c : Ctx} {w : Word} (h : Kept s t) : Kept s (Machine.doSelfTest c t w).1 := by
  unfold Machine.doSelfTest
  refine h.needRights (fun _ hx1 => ?_)
  extract_lets +onlyGivenNames _
  split
  · exact hx1
  · extract_lets +onlyGivenNames _ _
    split
    · exact ((hx1.frame (Frame.onFreeIx ..)).frame (Frame.testBegin ..)).ack
    · exact ((hx1.frame (Frame.onFreeIx ..)).frame (Frame.onGd ..)).nak

theorem readCommand {n : Fin 6} {ta : Nat} (h : Kept s t) : Kept s (State.readCommand t n ta) :=
  h.selectOwn.frame (Frame.modCmd ..)

theorem doAuxCmd {x : Fin 4} {c : Ctx} {w : Word} (h : Kept s t) : Kept s (Machine.doAuxCmd x c t w).1 := by
  unfold Machine.doAuxCmd
  refine h.needRights (fun _ hx1 => ?_)
  extract_lets +onlyGivenNames _ _
  split
  · exact hx1
  · split
    · exact hx1
    · exact (hx1.onRegs fun _ w => Regs.set_wf _ _ _ w).ack

theorem dumpDone {ok : Bool} (h : Kept s t) : Kept s (State.dumpDone t ok) := by
  unfold State.dumpDone
  split
  · exact ite h (ite h.toCold (h.frame (Frame.onFrz ..)))
  · exact h

theorem doLinkErrClr {k : Fin 6} {c : Ctx} {w : Word} (h : Kept s t) : Kept s (Machine.doLinkErrClr k c t w).1 := by
  unfold Machine.doLinkErrClr
  exact h.needRights (fun _ hx1 => (ite (hx1.frame (Frame.modLink ..)) hx1).ack)

theorem doAxisCmd {n : Fin 6} {c : Ctx} {w : Word} (h : Kept s t) : Kept s (Machine.doAxisCmd n c t w).1 := by
  unfold Machine.doAxisCmd
  refine h.needRights (fun _ hx1 => ?_)
  extract_lets +onlyGivenNames _
  split
  · exact hx1
  · split
    · exact hx1
    · exact ((hx1.onRegs fun _ w => Regs.set_wf _ _ _ w).frame (Frame.wrote ..)).ack

theorem coldHistory {f : LoadFail} {alt : Bool} (h : Kept s t) : Kept s (State.coldHistory t f alt) := by
  unfold State.coldHistory
  exact h.ksPair.onKs

theorem actCan {n : Fin 2} {a : Nat} {r : RegRow} {c : Ctx} {w : Word} (h : Kept s t) : Kept s (Machine.actCan n a r c t w).1 := by
  unfold Machine.actCan
  extract_lets +onlyGivenNames _ _
  split
  · exact h.doCanCmd
  · split
    · exact h.doCanHost
    · exact h.doHold

theorem doRead {addr n : Nat} {c : Ctx} (h : Kept s t) : Kept s (Machine.doRead addr n c t).1 := by
  have hread : Kept s (t.readWords c.o addr 0 n []).1 := h.readWords
  unfold Machine.doRead
  split
  · exact h
  · extract_lets bad
    clear_value bad
    split
    · next heq =>
      rw [heq] at hread
      split <;> exact hread
    · next heq =>
      rw [heq] at hread
      exact hread

theorem rplRun (h : Kept s t) : Kept s (State.rplRun t) :=
  h.rplWrite.frame (Frame.rplNext ..)

theorem targetLost {target : Fin 4} {cause : Nat} {op : Nat} (h : Kept s t) : Kept s (State.targetLost t target cause op) := by
  unfold State.targetLost
  extract_lets +onlyGivenNames _ _ s1
  have h1 : Kept s s1 := ((h.frame (Frame.onCar ..)).frame (Frame.carRec ..)).frame (Frame.stageEval ..)
  exact ite ((h1.frame (Frame.rplPass ..)).rplRun) h1

theorem axisCmd {o : Origin} {n : Fin 6} {mode : Nat} {heave : Bool} (h : Kept s t) : Kept s (State.axisCmd t o n mode heave) :=
  h.entry (fun _ _ hx1 => hx1.doAxisCmd)

theorem modeBoundary (h : Kept s t) : Kept s (State.modeBoundary t) := by
  unfold State.modeBoundary
  extract_lets +onlyGivenNames s1
  have h1 : Kept s s1 := (h.frame (Frame.requestsLost ..)).frame (Frame.limpTest ..)
  split
  · split
    · split
      · extract_lets +onlyGivenNames s2
        have h2 : Kept s s2 := (h1.frame (Frame.onMode ..)).frame (Frame.changeMode ..)
        exact ite h2 (h2.frame (Frame.enterLimp ..))
      · exact h1
    · exact h1
  · exact ite (h1.frame (Frame.enterBrake ..)) (ite (h1.frame (Frame.enterLimp ..)) h1)
  · split
    · exact h1.frame (Frame.enterBrake ..)
    · split
      · exact (h1.frame (Frame.onMode ..)).frame (Frame.changeMode ..)
      · exact h1
  · exact ite (h1.frame (Frame.backToHold ..)) h1
  · extract_lets +onlyGivenNames _
    split
    · exact (h1.srstTake.frame (Frame.backToHold ..)).autoArm
    · exact h1.srstTake
  · exact h1
  · exact h1
  · exact h1

theorem workStart (h : Kept s t) : Kept s (State.workStart t) := by
  unfold State.workStart
  extract_lets +onlyGivenNames _ s2
  have h2 : Kept s s2 := (h.frame (Frame.canRead ..)).foldl fun _ _ hx1 => hx1.meanTick.readCommand
  extract_lets +onlyGivenNames s4
  have h4 : Kept s s4 := h2.foldl fun _ _ hx3 => ite (hx3.frame (Frame.auxRead ..)) hx3
  exact h4.foldl fun _ _ hx5 => hx5.shareBegin

theorem ringPut {r : Fin 32} {pos : Nat} {bs : List Byte} (h : Kept s t) : Kept s (State.ringPut t r pos bs) :=
  h.sramWrite.sramWrite

theorem rplPage {q : ReadResult} (h : Kept s t) : Kept s (State.rplPage t q) := by
  unfold State.rplPage
  extract_lets +onlyGivenNames _
  split
  · exact h
  · split
    · exact (h.frame (Frame.rplPass ..)).rplRun
    · split
      · extract_lets +onlyGivenNames _
        exact (h.frame (Frame.modRpl ..)).rplRun
      · extract_lets +onlyGivenNames _ _ _ _ _ _ _
        exact (h.frame (Frame.modRpl ..)).rplRun

theorem doRplRd {c : Ctx} {w : Word} (h : Kept s t) : Kept s (Machine.doRplRd c t w).1 := by
  unfold Machine.doRplRd
  extract_lets
  have hset : Kept s (t.onRegs fun g => g.set Reg.CAR_RPL_RD w) := h.onRegs fun _ w => Regs.set_wf _ _ _ w
  exact h.rightsNak.iteFst (h.nak.iteFst (h.nak.iteFst hset.rplRun.ack))

theorem sipStart (h : Kept s t) : Kept s (State.sipStart t) := by
  unfold State.sipStart
  exact h.onSip.foldl fun _ _ hx => hx.buildChain

theorem passOn {k : Fin 6} {bulk : Bool} {eep : Bool} {b : List Byte} {links : List Nat} (h : Kept s t) : Kept s (State.passOn t k bulk eep b links) := by
  unfold State.passOn
  split
  · exact h
  · split
    · exact h.frame (Frame.fabDiscard ..)
    · extract_lets +onlyGivenNames _ _ _
      exact ite h.waitFlush.leaves (h.waitFlush.leaves.frame (Frame.putWait ..))

theorem waitDrain (h : Kept s t) : Kept s (State.waitDrain t) := by
  unfold State.waitDrain
  refine h.foldl fun _ _ hx1 => ?_
  refine hx1.foldl fun _ _ hx2 => ?_
  split
  · exact hx2
  · extract_lets +onlyGivenNames _
    exact hx2.leaves.frame (Frame.putWait ..)

theorem sipCmd {o : Origin} {k : Fin 32} {cmd : Nat} (h : Kept s t) : Kept s (State.sipCmd t o k cmd) :=
  h.entry (fun _ _ hx1 => hx1.doSipCmd)

theorem ringRunsDue {r : Fin 32} (h : Kept s t) : Kept s (State.ringRunsDue t r) := by
  unfold State.ringRunsDue
  refine h.foldl fun _ _ hx1 => ?_
  extract_lets +onlyGivenNames _
  exact hx1.modRing.foldl fun _ _ hx2 => hx2.frame (Frame.event ..)

theorem auxCmd {o : Origin} {x : Fin 4} {m : Nat} (h : Kept s t) : Kept s (State.auxCmd t o x m) :=
  h.entry (fun _ _ hx1 => hx1.doAuxCmd)

theorem newBlk {on : Option Nat} {kind : BlkKind} (h : Kept s t) : Kept s (State.newBlk t on kind).1 := by
  unfold State.newBlk
  extract_lets +onlyGivenNames _ take
  split
  · unfold take
    extract_lets +onlyGivenNames _ _
    dsimp only
    exact (h.frame (Frame.onCar ..)).nandErase
  · split
    · unfold take
      extract_lets +onlyGivenNames _ _
      dsimp only
      exact (h.frame (Frame.onCar ..)).nandErase
    · exact h

theorem actAux {x : Fin 4} {a : Nat} {c : Ctx} {w : Word} (h : Kept s t) : Kept s (Machine.actAux x a c t w).1 := by
  unfold Machine.actAux
  split
  · exact h.doSntClr
  · split
    · exact h.doLimClr
    · split
      · exact h.doAuxCmd
      · split
        · exact h.doAuxSet
        · exact h.doAuxPos

theorem commandIn {src : Nat} {seq : Nat} {payload : List Byte} (h : Kept s t) : Kept s (State.commandIn t src seq payload) := by
  unfold State.commandIn
  split
  · exact h
  · split
    · exact h.freezeAt
    · exact h.routesApply
    · exact h

theorem holdEntry {freezeLow : Bool} (h : Kept s t) : Kept s (State.holdEntry t freezeLow) := by
  unfold State.holdEntry
  split
  · exact h
  · extract_lets l forced loaded run entered noted failed parts linked tested pin
    have hforced : Kept s forced := h.onRegsTo fun _ => shadowRegs_wf _
    have hloaded : Kept s loaded := hforced.frame (Frame.onLd ..)
    have hrun : Kept s run := (hloaded.frame (Frame.onPwr ..)).frame (Frame.onTbs ..)
    have hentered : Kept s entered := (hrun.frame (Frame.fabStart ..)).frame (Frame.changeMode ..)
    have hnoted : Kept s noted := hentered.frame (Frame.configRec ..)
    have hfailed : Kept s failed := by
      unfold failed
      clear_value noted
      rcases l.second with _ | _ <;> rcases l.fail1 with _ | f
      · exact hnoted
      · exact hnoted
      · exact hnoted
      · exact hnoted.frame (Frame.configRec ..)
    have hparts : Kept s parts :=
      (((((hfailed.frame (Frame.releaseHeld ..)).frame (Frame.ticksStart ..)).frame (Frame.axesStart ..)).frame
        (Frame.portsStart ..)).frame (Frame.canStart ..)).sipStart.frame (Frame.carStart ..)
    have hlinked : Kept s linked := hparts.foldl fun _ _ hx => hx.frame (Frame.linkCheck ..)
    exact (((hlinked.frame (Frame.onGd ..)).frame (Frame.onFrz ..)).frame (Frame.safStart ..)).frame (Frame.autoTest ..)

theorem rdPass {r : Fin 32} (h : Kept s t) : Kept s (State.rdPass t r) := by
  unfold State.rdPass
  split
  · exact h
  · extract_lets +onlyGivenNames _ _ _
    exact ite h.modRing.ringLoss h.modRing

theorem actDev {a : Nat} {c : Ctx} {w : Word} (h : Kept s t) : Kept s (Machine.actDev a c t w).1 := by
  unfold Machine.actDev
  split
  · exact h.doStgDiscard
  · split
    · exact h.doCommit
    · split
      · exact h.doStgIdx
      · split
        · exact h.doModeReq
        · split
          · exact h.doAxisClear
          · exact h.doTickClr

theorem copyFail {f : LoadFail} {last : Bool} (h : Kept s t) : Kept s (State.copyFail t f last) := by
  unfold State.copyFail
  extract_lets +onlyGivenNames _
  split
  · exact (h.coldHistory.frame (Frame.onLd ..)).frame (Frame.loadOver ..)
  · exact ite ((h.coldHistory.frame (Frame.onLd ..)).frame (Frame.loadOver ..)) (h.coldHistory.frame (Frame.onLd ..))

theorem execNandBusyTimeout {dt : Nat} {target : Fin 4} {after : Fin 3} (h : Kept s t) : KeptNext s (Machine.execNandBusyTimeout dt target t after) := by
  unfold Machine.execNandBusyTimeout
  extract_lets +onlyGivenNames _
  split
  · extract_lets +onlyGivenNames _ s1
    have h1 : Kept s s1 := (h.advance).frame (Frame.onCar ..)
    split
    · extract_lets +onlyGivenNames s2
      have h2 : Kept s s2 := (h1.frame (Frame.onCar ..)).frame (Frame.carRec ..)
      apply done
      split
      · exact h2
      · exact h2.targetLost
      · exact h2.targetLost
    · exact h1.targetLost.done
  · exact (h.advance).done

theorem keepTick {k : Nat} (h : Kept s t) : Kept s (State.keepTick t k) := by
  unfold State.keepTick
  extract_lets +onlyGivenNames _
  exact h.lastWrite.foldl fun _ _ hx1 => hx1.auxKeep

theorem actAx {n : Fin 6} {a : Nat} {r : RegRow} {c : Ctx} {w : Word} (h : Kept s t) : Kept s (Machine.actAx n a r c t w).1 := by
  unfold Machine.actAx
  split
  · exact h.doSntClr
  · split
    · exact h.doAxisCmd
    · split
      · exact h.doAxisSet
      · split
        · exact h.doHold
        · split
          · exact h.doHeaveA
          · exact h.doCrash

theorem metaWrite (h : Kept s t) : Kept s (State.metaWrite t) := by
  unfold State.metaWrite
  split
  · exact h
  · extract_lets _ _ _ _ here logs closed q
    have hclosed : Kept s closed := h.frame (Frame.onCar ..)
    have hq : Kept s q.1 := by
      unfold q
      clear_value here
      split
      · exact h
      · split
        · exact hclosed.newBlk
        · split
          · exact (hclosed.frame (Frame.modBlk ..)).nandErase
          · exact hclosed
    split
    · exact hq
    · extract_lets written
      have hwritten : Kept s written :=
        hq.foldl fun _ _ hx => ((hx.frame (Frame.onCar ..)).frame (Frame.modBlk ..)).frame (Frame.nandPush ..)
      exact hwritten.frame (Frame.onCar ..)

theorem programPage {k : Fin 4} {data : List Byte} {first : Option (Nat × Nat)} (h : Kept s t) : Kept s (State.programPage t k data first) := by
  unfold State.programPage
  extract_lets
  split
  · exact h
  · next d _ =>
    extract_lets isOpen fresh q
    have hq : Kept s q.1 := by
      unfold q
      clear_value isOpen
      split
      · exact h
      · exact h.newBlk
    clear_value q
    split
    · exact hq
    · extract_lets _ _ marked pushed
      have hmarked : Kept s marked := (hq.frame (Frame.onCar ..)).frame (Frame.modBlk ..)
      have hpushed : Kept s pushed := hmarked.frame (Frame.nandPushStream ..)
      exact ite hpushed.metaWrite hpushed

theorem blkBad {b : Nat} {why : Nat} (h : Kept s t) : Kept s (State.blkBad t b why) := by
  unfold State.blkBad
  extract_lets +onlyGivenNames _
  exact (((h.frame (Frame.onCar ..)).frame (Frame.carRec ..)).frame (Frame.stageEval ..)).metaWrite

theorem execStreamFlush {dt : Nat} {st : Fin 4} (h : Kept s t) : KeptNext s (Machine.execStreamFlush dt st t) := by
  unfold Machine.execStreamFlush
  extract_lets +onlyGivenNames _ _
  split
  · split
    · exact (((h.advance).programPage).frame (Frame.modStream ..)).done
    · exact (h.advance).done
  · exact (h.advance).done

theorem makeRoom {r : Fin 32} {len n : Nat} (h : Kept s t) : Kept s (t.makeRoom r len n).1 := by
  induction n generalizing t with
  | zero => exact h
  | succ n ih =>
    rw [State.makeRoom]
    split
    · exact h
    · split
      · exact h
      · exact ih h.rdPass.ringLoss

theorem copyEnd (h : Kept s t) : Kept s (State.copyEnd t) := by
  unfold State.copyEnd
  extract_lets +onlyGivenNames _
  split
  · exact h.copyFail
  · split
    · exact h.copyFail
    · extract_lets +onlyGivenNames _
      split
      · exact (h.frame (Frame.onLd ..)).frame (Frame.pathTest ..)
      · split <;> exact h.copyFail

theorem startFail {code : Nat} (h : Kept s t) : Kept s (State.startFail t code) :=
  (h.coldHistory.frame (Frame.onLd ..)).frame (Frame.onPwr ..)

theorem execJcpRead {dt : Nat} {o : Origin} {addr : Word} {n : Nat} (h : Kept s t) : KeptNext s (Machine.execJcpRead dt o addr n t) := by
  unfold Machine.execJcpRead
  apply done
  refine (h.advance).entry (fun _ _ hx1 => ?_)
  split
  · exact hx1
  · exact hx1.doRead

theorem headerRead {b : List Byte} (h : Kept s t) : Kept s (State.headerRead t b) := by
  unfold State.headerRead
  split
  · exact h
  · split
    · exact h.copyFail
    · exact h.frame (Frame.onLd ..)

theorem moved {old : Nat} {new : Nat} {reason : Nat} (h : Kept s t) : Kept s (State.moved t old new reason) := by
  unfold State.moved
  split
  · exact h
  · extract_lets +onlyGivenNames _ s1
    have h1 : Kept s s1 := (h.frame (Frame.onCar ..)).frame (Frame.carRec ..)
    exact ite h1.blkBad h1.metaWrite

theorem linkSend {k : Nat} {bulk : Bool} {bytes : List Byte} (h : Kept s t) : Kept s (State.linkSend t k bulk bytes) := by
  unfold State.linkSend
  extract_lets +onlyGivenNames _
  exact ite (h.waitDrain.frame (Frame.linkPut ..)) h.waitDrain

theorem execExchangeError {dt : Nat} {k : Fin 6} {kind : ExchangeErr} {part : List Byte} (h : Kept s t) : KeptNext s (Machine.execExchangeError dt k kind t part) := by
  unfold Machine.execExchangeError
  extract_lets +onlyGivenNames _ _
  split
  · extract_lets +onlyGivenNames _ s1
    have h1 : Kept s s1 := ite ((((h.advance).waitDrain).waitFlush).leaves) (h.advance)
    exact (h1.frame (Frame.exchangeError ..)).done
  · exact (h.advance).done

theorem sipBoundary (h : Kept s t) : Kept s (State.sipBoundary t) :=
  h.foldl fun _ _ hx1 => hx1.ringRunsDue

theorem dumpRelease {k : Nat} (h : Kept s t) : Kept s (State.dumpRelease t k).1 := by
  unfold State.dumpRelease
  extract_lets +onlyGivenNames _
  split
  · exact h
  · extract_lets +onlyGivenNames _ s2
    have h2 : Kept s s2 := h.foldl fun _ _ hx1 => hx1.nandErase.frame (Frame.modBlk ..)
    extract_lets +onlyGivenNames _
    exact (((h2.frame (Frame.onCar ..)).frame (Frame.carRec ..)).metaWrite).ack

theorem refresh {b : Nat} {reason : Nat} {to' : Option Nat} (h : Kept s t) : Kept s (State.refresh t b reason to') := by
  unfold State.refresh
  split
  · exact h
  · split
    · exact h
    · extract_lets +onlyGivenNames s1
      have h1 : Kept s s1.1 := by
        unfold s1
        split
        · dsimp only
          exact (h.frame (Frame.onCar ..)).nandErase
        · exact h.newBlk
      split
      · exact h1
      · exact ite h ((h1.frame (Frame.modBlk ..)).frame (Frame.nandPush ..))

theorem allocDump (h : Kept s t) : Kept s (State.allocDump t) := by
  unfold State.allocDump
  refine h.foldl fun _ _ hx1 => ?_
  extract_lets +onlyGivenNames _ _
  split
  · refine hx1.foldl fun _ _ hx2 => ?_
    extract_lets +onlyGivenNames _
    split
    · exact hx2.newBlk.frame (Frame.modBlk ..)
    · exact hx2.newBlk.frame (Frame.onCar ..)
  · exact hx1

theorem refclkLoss {offFrequency : Bool} (h : Kept s t) : Kept s (State.refclkLoss t offFrequency) := by
  unfold State.refclkLoss
  extract_lets +onlyGivenNames stand
  split
  · exact (h.startFail.frame (Frame.onClk ..)).frame (Frame.onTbs ..)
  · exact (h.startFail.frame (Frame.onClk ..)).frame (Frame.onTbs ..)
  · exact (h.copyFail.frame (Frame.onClk ..)).frame (Frame.onTbs ..)
  · exact (h.frame (Frame.onClk ..)).frame (Frame.onTbs ..)
  · split
    · exact h
    · exact ite (h.frame (Frame.onTbs ..)) (((h.frame (Frame.onTbs ..)).frame (Frame.timeRec ..)).frame (Frame.setStop ..))
  · exact h

theorem blkReplace {b : Nat} {why : Nat} {lost : Nat} {time : Option Nat} (h : Kept s t) : Kept s (State.blkReplace t b why lost time) := by
  unfold State.blkReplace
  extract_lets +onlyGivenNames was _
  clear_value was
  split
  · exact h.blkBad
  · split
    · exact h.blkBad
    · extract_lets +onlyGivenNames _
      split
      · extract_lets +onlyGivenNames _
        split
        · exact (h.blkBad.newBlk.frame (Frame.onCar ..)).frame (Frame.onCar ..)
        · exact h.blkBad.newBlk.frame (Frame.onCar ..)
      · extract_lets +onlyGivenNames _ _ _
        exact ((h.blkBad.newBlk.frame (Frame.onCar ..)).frame (Frame.modBlk ..)).metaWrite

theorem release {r1 : Strap} {r0 : Strap} {alt : Bool} (h : Kept s t) : Kept s (State.release t r1 r0 alt) := by
  unfold State.release
  extract_lets +onlyGivenNames _
  split
  · exact h
  · extract_lets +onlyGivenNames _ _ _ _
    exact ite (h.resetHistory.frame (Frame.onPwr ..)) ((h.resetHistory.frame (Frame.onPwr ..)).startFail)

theorem capture {t0 : Nat} {what : Nat} (h : Kept s t) : Kept s (State.capture t t0 what) := by
  unfold State.capture
  extract_lets +onlyGivenNames _ _ running
  clear_value running
  split
  · extract_lets +onlyGivenNames _
    exact (h.frame (Frame.modEvt ..)).frame (Frame.carRec ..)
  · split
    · exact h.frame (Frame.carRec ..)
    · split
      · exact h.frame (Frame.carRec ..)
      · extract_lets +onlyGivenNames _ _ s1
        have h1 : Kept s s1 := (h.frame (Frame.onCar ..)).frame (Frame.modEvt ..)
        exact h1.metaWrite.frame (Frame.carRec ..)

theorem sectionRead {b : List Byte} (h : Kept s t) : Kept s (State.sectionRead t b) := by
  unfold State.sectionRead
  split
  · exact h
  · extract_lets +onlyGivenNames _ _
    exact ite h.copyFail (ite h.copyFail (h.frame (Frame.onLd ..)))

theorem drainPass {r : Fin 32} {tap : Bool} {q : RingRec} (h : Kept s t) : Kept s (State.drainPass t r tap q) :=
  ite h.modRing h.rdPass

theorem readCheck {b : Nat} {page : Nat} {why : ReadFor} {q : ReadResult} (h : Kept s t) : Kept s (State.readCheck t b page why q) := by
  unfold State.readCheck
  extract_lets +onlyGivenNames _ _
  split
  · extract_lets +onlyGivenNames _ s1
    have h1 : Kept s s1 := ((h.frame (Frame.modBlk ..)).frame (Frame.onCar ..)).frame (Frame.carRec ..)
    extract_lets +onlyGivenNames _
    exact (h1.frame (Frame.onCar ..)).refresh
  · exact ite ((h.frame (Frame.modBlk ..)).refresh) (ite ((h.frame (Frame.modBlk ..)).refresh) (h.frame (Frame.modBlk ..)))

theorem ringWrite {r : Fin 32} {bs : List Byte} (h : Kept s t) : Kept s (State.ringWrite t r bs) := by
  rw [State.ringWrite]
  exact ite h.onSip (ite h.ringLoss (ite h.ringLoss (h.iteFst h.makeRoom).ringPut.modRing.fillTriggers))

theorem carFormat (h : Kept s t) : Kept s (State.carFormat t) := by
  unfold State.carFormat
  extract_lets +onlyGivenNames _ _ s2
  have h2 : Kept s s2 := (h.frame (Frame.onCar ..)).foldl fun _ _ hx1 => hx1.nandErase
  extract_lets +onlyGivenNames _ s3
  have h3 : Kept s s3 := h2.ksPair.allocDump.metaWrite.frame (Frame.onCar ..)
  exact (h3.frame (Frame.carRec ..)).frame (Frame.stageEval ..)

theorem mountDone {f : MountReport} (h : Kept s t) : Kept s (State.mountDone t f) := by
  unfold State.mountDone
  split
  · exact h
  · extract_lets +onlyGivenNames _ _ s2
    have h2 : Kept s s2 := (h.frame (Frame.onCar ..)).foldl fun _ _ hx1 => ite hx1 (hx1.frame (Frame.carRec ..))
    extract_lets +onlyGivenNames fail
    split
    · exact (h2.frame (Frame.onCar ..)).frame (Frame.mountRec ..)
    · split
      · exact (h2.frame (Frame.onCar ..)).frame (Frame.mountRec ..)
      · split
        · extract_lets +onlyGivenNames _
          split
          · exact ((h2.frame (Frame.onCar ..)).carFormat).frame (Frame.mountRec ..)
          · exact ((h2.frame (Frame.onCar ..)).frame (Frame.onCar ..)).frame (Frame.mountRec ..)
        · extract_lets +onlyGivenNames _ _ loss
          split
          · unfold loss
            split
            · exact ((h2.mountRestore.frame (Frame.onCar ..)).frame (Frame.stageEval ..)).frame (Frame.mountRec ..)
            · exact (((h2.mountRestore.frame (Frame.onCar ..)).frame (Frame.stageEval ..)).frame (Frame.mountRec ..)).frame (Frame.carRec ..)
          · extract_lets +onlyGivenNames _ s3
            have h3 : Kept s s3 := (h2.mountRestore.frame (Frame.onCar ..)).ksPair
            extract_lets +onlyGivenNames s4
            have h4 : Kept s s4 := h3.allocDump.metaWrite.frame (Frame.stageEval ..)
            extract_lets +onlyGivenNames s5
            have h5 : Kept s s5 := ite (h4.frame (Frame.mountRec ..)) ((h4.frame (Frame.mountRec ..)).frame (Frame.carRec ..))
            split
            · exact h5.frame (Frame.freezeRec ..)
            · exact h5

theorem execStaticWearLevel {dt : Nat} (h : Kept s t) : KeptNext s (Machine.execStaticWearLevel dt t) := by
  unfold Machine.execStaticWearLevel
  extract_lets +onlyGivenNames _
  split
  · extract_lets +onlyGivenNames s1
    have h1 : Kept s s1 := (h.advance).frame (Frame.onCar ..)
    extract_lets +onlyGivenNames hot _ cold
    clear_value hot
    clear_value cold
    split
    · split
      · exact h1.refresh.done
      · exact h1.done
    · exact h1.done
  · exact (h.advance).done

theorem execCaptureWindowEnd {dt : Nat} {k : Fin 16} (h : Kept s t) : KeptNext s (Machine.execCaptureWindowEnd dt k t) := by
  unfold Machine.execCaptureWindowEnd
  extract_lets +onlyGivenNames _
  split
  · extract_lets +onlyGivenNames s1
    have h1 : Kept s s1 := (h.advance).frame (Frame.onCar ..)
    exact (((h1.frame (Frame.modEvt ..)).metaWrite).frame (Frame.carRec ..)).done
  · exact (h.advance).done

theorem streamPages {k : Fin 4} {n : Nat} (h : Kept s t) : Kept s (t.streamPages k n) := by
  induction n generalizing t with
  | zero => exact h
  | succ n ih =>
    unfold State.streamPages
    exact ite (ih (h.programPage.frame (Frame.modStream ..))) h

theorem evtRelease {k : Nat} (h : Kept s t) : Kept s (State.evtRelease t k).1 := by
  unfold State.evtRelease
  extract_lets +onlyGivenNames _
  split
  · exact h
  · extract_lets +onlyGivenNames _ _ s1
    have h1 : Kept s s1 := (h.frame (Frame.onCar ..)).frame (Frame.modEvt ..)
    exact ((h1.frame (Frame.carRec ..)).metaWrite).ack

theorem fabBroadcast {typ : Nat} {payload : List Byte} (h : Kept s t) : Kept s (State.fabBroadcast t typ payload).1 := by
  unfold State.fabBroadcast
  extract_lets +onlyGivenNames _ _ s1
  have h1 : Kept s s1 := h.waitDrain.fabSeq.frame (Frame.onFab ..)
  dsimp only
  exact h1.foldl fun _ _ hx2 => ite hx2.linkSend hx2

theorem hopSend {k : Fin 6} {typ : Nat} {payload : List Byte} (h : Kept s t) : Kept s (State.hopSend t k typ payload) :=
  ite h.waitDrain.fabSeq.linkSend h

theorem crcRead {scrc : Word} {pad : Word} (h : Kept s t) : Kept s (State.crcRead t scrc pad) := by
  unfold State.crcRead
  split
  · exact h
  · extract_lets +onlyGivenNames _
    split
    · exact h.copyFail
    · split
      · exact h.copyFail
      · extract_lets +onlyGivenNames _
        exact ite ((h.frame (Frame.onLd ..)).copyEnd) (h.frame (Frame.onLd ..))

theorem doCarCmd {maint : Bool} {c : Ctx} {w : Word} (h : Kept s t) : Kept s (Machine.doCarCmd maint c t w).1 := by
  unfold Machine.doCarCmd
  extract_lets +onlyGivenNames cmd _
  clear_value cmd
  split
  · split
    · exact h.rplStart
    · exact h
  · split
    · exact h.rightsNak
    · split
      · exact (h.frame (Frame.rplEnd ..)).ack
      · exact h
  · split
    · exact h.rightsNak
    · split
      · exact h.carFormat.ack
      · exact h
  · exact h.needRights (fun _ hx1 => hx1)
  · exact h.needRights (fun _ hx2 => hx2)
  · exact h.needRights (fun _ hx3 => hx3)
  · exact h.needRights (fun _ hx4 => hx4)
  · exact h.needRights (fun _ hx5 => hx5)
  · exact h.needRights (fun _ hx6 => hx6)
  · exact h.needRights (fun _ hx7 => hx7)
  · exact h.needRights (fun _ hx8 => hx8)
  · exact h.needRights (fun _ hx9 => hx9)
  · exact h.needRights (fun _ hx10 => hx10)
  · refine h.needRights (fun _ hx11 => ?_)
    split
    · exact hx11
    · split
      · split
        · exact hx11.capture.ack
        · exact hx11
      · split
        · exact hx11.evtRelease
        · exact hx11.dumpRelease

theorem execNandProgramDone {dt : Nat} {ok : Bool} (h : Kept s t) : KeptNext s (Machine.execNandProgramDone dt ok t) := by
  unfold Machine.execNandProgramDone
  extract_lets +onlyGivenNames _
  split
  · split
    · split
      · exact (((h.advance).frame (Frame.opDone ..)).frame (Frame.rateAdd ..)).done
      · exact ((h.advance).blkReplace).done
    · split
      · exact ((((h.advance).frame (Frame.opDone ..)).frame (Frame.rateAdd ..)).moved).done
      · exact ((h.advance).blkReplace).done
    · exact (h.advance).done
  · exact (h.advance).done

theorem fabSend {dst : Nat} {cls : Nat} {typ : Nat} {bulk : Bool} {time : Option Nat} {payload : List Byte} (h : Kept s t) : Kept s (State.fabSend t dst cls typ bulk time payload).1 := by
  unfold State.fabSend
  split
  · exact h
  · dsimp only
    exact h.frame (Frame.fabDiscard ..)
  · split
    · dsimp only
      exact h.frame (Frame.fabDiscard ..)
    · extract_lets +onlyGivenNames _ _ _
      dsimp only
      exact h.waitDrain.fabSeq.linkSend

theorem execNandReadDone {dt : Nat} {result : ReadResult} (h : Kept s t) : KeptNext s (Machine.execNandReadDone dt result t) := by
  unfold Machine.execNandReadDone
  extract_lets +onlyGivenNames _
  split
  · split
    · extract_lets +onlyGivenNames s1
      have h1 : Kept s s1 := ((h.advance).frame (Frame.opDone ..)).readCheck
      exact (ite h1.rplPage h1).done
    · exact (h.advance).done
  · exact (h.advance).done

theorem leaderTick {g : Fin 16} {n : Fin 6} {slot : Nat} {ms : List Mem} {pre : Option Rat} {send : Bool} (h : Kept s t) :
    Kept s (State.leaderTick t g n slot ms pre send) := by
  unfold State.leaderTick
  extract_lets _ _ _ _ heaves _ read taken heave _ _ _ mode winch speed ramp _ _ _ _ torque loop parts told _ _ _ _ _ _ _ carried
    sat sent
  have hheaves : Kept s heaves := h.foldl fun _ _ hx => hx.frame (Frame.takeHeave ..)
  have hread : Kept s read := hheaves.frame (Frame.modCmd ..)
  have htaken : Kept s taken := hread.frame (Frame.groupTake ..)
  have hheave : Kept s heave := htaken.frame (Frame.heaveTick ..)
  have hwinch : Kept s winch := ite hheave (hheave.frame (Frame.winchTick ..))
  have hspeed : Kept s speed := hwinch.frame (Frame.speedBegin ..)
  have hramp : Kept s ramp := hspeed.frame (Frame.rampTick ..)
  have htorque : Kept s torque := hwinch.frame (Frame.modCmd ..)
  have hloop : Kept s loop := htorque.frame (Frame.loopTick ..)
  have hparts : Kept s parts :=
    ite ((hwinch.frame (Frame.modCmd ..)).frame (Frame.modShr ..)) (ite (hramp.frame (Frame.modShr ..)) (hloop.frame (Frame.modShr ..)))
  have htold : Kept s told := hparts.frame (Frame.modCmd ..)
  have hcarried : Kept s carried := htold.foldl fun _ _ hx => ite (hx.frame (Frame.event ..)) hx
  have hsat : Kept s sat := ite (hcarried.frame (Frame.event ..)) hcarried
  have hsent : Kept s sent := hsat.frame (Frame.modShr ..)
  exact ite htold (hsent.foldl fun _ _ hx => hx.fabSend)

theorem execRecordEmit {dt : Nat} (h : Kept s t) : KeptNext s (Machine.execRecordEmit dt t) := by
  unfold Machine.execRecordEmit
  extract_lets +onlyGivenNames _
  split
  · extract_lets +onlyGivenNames s1
    have h1 : Kept s s1 := (h.advance).frame (Frame.onRecs ..)
    split
    · exact h1.ringWrite.done
    · exact h1.onSip.done
  · exact (h.advance).done

theorem forward {p : Fin 3} {c : Ctx} {dest : Nat} {b : List Byte} (h : Kept s t) : Kept s (State.forward t p c dest b) := by
  unfold State.forward
  extract_lets +onlyGivenNames _
  split
  · exact h.fabSend.frame (Frame.onCp ..)
  · exact h.frame (Frame.portReply ..)
  · exact h.frame (Frame.portReply ..)

theorem execSyncReqSend {dt : Nat} (h : Kept s t) : KeptNext s (Machine.execSyncReqSend dt t) := by
  unfold Machine.execSyncReqSend
  extract_lets +onlyGivenNames _
  split
  · exact (h.advance).done
  · extract_lets +onlyGivenNames _
    split
    · extract_lets +onlyGivenNames s1
      have h1 : Kept s s1.2 := ((h.advance).waitDrain).frame (Frame.fresh ..)
      exact (h1.hopSend.frame (Frame.modLink ..)).done
    · exact (h.advance).done

theorem carCmd {o : Origin} {maint : Bool} {cmd : Nat} {arg : Nat} (h : Kept s t) : Kept s (State.carCmd t o maint cmd arg) :=
  h.entry (fun _ _ hx1 => hx1.doCarCmd)

theorem boundaryRest (h : Kept s t) : Kept s (State.boundaryRest t) := by
  unfold State.boundaryRest
  extract_lets +onlyGivenNames s2
  have h2 : Kept s s2 := h.foldl fun _ _ hx1 => hx1.frame (Frame.resample ..)
  extract_lets +onlyGivenNames s4
  have h4 : Kept s s4 := h2.foldl fun _ _ hx3 => hx3.frame (Frame.auxResample ..)
  extract_lets +onlyGivenNames s6
  have h6 : Kept s s6 := h4.foldl fun _ _ hx5 => ite (hx5.frame (Frame.snsBoundary ..)) hx5
  extract_lets +onlyGivenNames s8
  have h8 : Kept s s8 := h6.foldl fun _ _ hx7 => ite (hx7.frame (Frame.encCapture ..)) hx7
  extract_lets +onlyGivenNames s10
  have h10 : Kept s s10 := h8.foldl fun _ _ hx9 => ite (hx9.frame (Frame.freqBoundary ..)) hx9
  exact (((((h10.frame (Frame.soRequest ..)).frame (Frame.soEval ..)).waitDrain).frame (Frame.fabBoundary ..)).sipBoundary).frame (Frame.canBoundary ..)

theorem drainLoop {p : StreamPort} {c : Fin 32} {d : Desc} {flush : Bool} {n moved : Nat} (hp : p.Keeps) (h : Kept s t) :
    Kept s (State.drainLoop p c d flush n moved t).2 := by
  induction n generalizing t moved with
  | zero => exact h
  | succ n ih =>
    unfold State.drainLoop
    extract_lets
    split
    · exact h
    · split
      · exact h
      · split
        · exact ih (h.drainPass.modCh.frame (Frame.event ..))
        · split
          · exact h
          · split
            · split
              · exact h
              · exact ih h.modCh.drainPass
            · split
              · split
                · exact h
                · exact ih (hp h).modCh.drainPass
              · exact ih h.drainPass.modCh.ringWrite

theorem descDone {p : StreamPort} {c : Fin 32} {d : Desc} (hp : p.Keeps) (h : Kept s t) : Kept s (State.descDone t p c d) := by
  unfold State.descDone
  extract_lets _ _ moved written noted freed
  have hmoved : Kept s moved.2 := by
    unfold moved
    split
    · exact h.copyBytes.modCh
    · exact drainLoop hp h
  have hwritten : Kept s written := hmoved.sramWrite
  have hnoted : Kept s noted := ite (hwritten.frame (Frame.event ..)) hwritten
  have hfreed : Kept s freed := hnoted.onSip
  exact ite hfreed.chStop (ite hfreed.chComplete hfreed.modCh)

theorem syncReqIn {k : Fin 6} (h : Kept s t) : Kept s (State.syncReqIn t k) := by
  unfold State.syncReqIn
  split
  · extract_lets +onlyGivenNames _
    exact h.waitDrain.hopSend.frame (Frame.modLink ..)
  · exact h

theorem helloSend {k : Fin 6} (h : Kept s t) : Kept s (State.helloSend t k) :=
  h.hopSend.frame (Frame.modLink ..)

theorem descPart {p : StreamPort} {c : Fin 32} {d : Desc} (hp : p.Keeps) (h : Kept s t) : Kept s (State.descPart t p c d) := by
  unfold State.descPart
  have hf : Kept s t.fresh.2 := h.frame (Frame.fresh ..)
  exact ite hf.copyBytes (drainLoop hp hf)

theorem descriptorDone {p : StreamPort} {ecc : Bool} (hp : p.Keeps) (h : Kept s t) : Kept s (State.descriptorDone t p ecc) := by
  unfold State.descriptorDone
  split
  · split
    · extract_lets _ stopped
      have hstopped : Kept s stopped := ((h.frame (Frame.fresh ..)).descPart hp).chStop
      split
      · exact hstopped.sramBad
      · exact hstopped
    · exact h.descDone hp
  · exact h

theorem joinSend {k : Fin 6} {id : Nat} {claim : Nat} {parts : List Nat} (h : Kept s t) : Kept s (State.joinSend t k id claim parts) :=
  h.hopSend

theorem execNandEraseDone {dt : Nat} {ok : Bool} (h : Kept s t) : KeptNext s (Machine.execNandEraseDone dt ok t) := by
  unfold Machine.execNandEraseDone
  extract_lets +onlyGivenNames _
  split
  · split
    · split
      · exact ((h.advance).frame (Frame.opDone ..)).done
      · exact (((h.advance).frame (Frame.opDone ..)).blkReplace).done
    · exact (h.advance).done
  · exact (h.advance).done

theorem streamFull {k : Fin 4} (h : Kept s t) : Kept s (State.streamFull t k) :=
  h.streamPages

theorem joinFlush (h : Kept s t) : Kept s (State.joinFlush t) := by
  unfold State.joinFlush
  split
  · exact ite (h.joinSend.frame (Frame.onFab ..)) h
  · exact h

theorem commandSend {code : Nat} {t₀ : Nat} {arg : Nat} (h : Kept s t) : Kept s (State.commandSend t code t₀ arg).1 := by
  unfold State.commandSend
  exact h.fabBroadcast

theorem actCar {maint : Bool} {a : Nat} {r : RegRow} {c : Ctx} {w : Word} (h : Kept s t) : Kept s (Machine.actCar maint a r c t w).1 := by
  unfold Machine.actCar
  split
  · exact h.doCarCmd
  · split
    · exact h.doRplRd
    · exact h.doHold

theorem admitIn {k : Fin 6} {b : List Byte} (h : Kept s t) : Kept s (State.admitIn t k b) := by
  unfold State.admitIn
  extract_lets +onlyGivenNames _ _ _
  split
  · exact h
  · split
    · split
      · exact h
      · exact ite ((h.frame (Frame.onFab ..)).frame (Frame.timeRec ..)) ((h.frame (Frame.onFab ..)).frame (Frame.linkWatch ..))
    · split
      · exact h
      · extract_lets +onlyGivenNames _ _
        exact ite (((h.frame (Frame.onFab ..)).hopSend).frame (Frame.park ..)) ((h.frame (Frame.onFab ..)).hopSend)

theorem shareTick {g : Fin 16} {send : Bool} (h : Kept s t) : Kept s (State.shareTick t g send) := by
  unfold State.shareTick
  split
  · exact h
  · extract_lets _ _ _ _ joined mine found _ _ led members
    have hjoined : Kept s joined := h.frame (Frame.joinTick ..)
    have hfound : Kept s found := hjoined.frame (Frame.findLost ..)
    have hled : Kept s led := by
      unfold led
      clear_value mine
      split
      · extract_lets _ took cmd _ stop
        have htook : Kept s took := ite (hfound.frame (Frame.takeOver ..)) hfound
        have hcmd : Kept s cmd := htook.frame (Frame.groupCmd ..)
        have hstop : Kept s stop := ite (hcmd.frame (Frame.modShr ..)) hcmd
        exact hstop.leaderTick
      · exact hjoined
    have hmembers : Kept s members := by
      refine hled.foldl fun x _ hx => ?_
      extract_lets _ group own _ damp
      have hgroup : Kept s group := ite hx (hx.frame (Frame.followGroup ..))
      have hown : Kept s own := ite hgroup (hgroup.frame (Frame.takeCommand ..))
      have hdamp : Kept s damp := (hown.frame (Frame.modCmd ..)).frame (Frame.modCmd ..)
      exact ite (hx.frame (Frame.soloTick ..)) ((hdamp.frame (Frame.iceTick ..)).frame (Frame.crashTick ..))
    exact ite (hmembers.foldl fun _ _ hx => hx.fabSend) hmembers

theorem envelopeSend {c : Fin 16} (h : Kept s t) : Kept s (State.envelopeSend t c) := by
  unfold State.envelopeSend
  split
  · exact h
  · extract_lets +onlyGivenNames _ _ _ can _
    split
    · exact (h.frame (Frame.modConn ..)).fabSend
    · exact (h.frame (Frame.modConn ..)).frame (Frame.eventSend ..)
    · exact ite (h.frame (Frame.modConn ..)) ((h.frame (Frame.modConn ..)).frame (Frame.modCan ..))
    · exact ite (h.frame (Frame.modConn ..)) ((h.frame (Frame.modConn ..)).frame (Frame.modCan ..))

theorem busError {p : StreamPort} {addr : Word} (hp : p.Keeps) (h : Kept s t) : Kept s (State.busError t p addr) := by
  unfold State.busError
  extract_lets _ run part halted
  split
  · exact h
  · have hpart : Kept s part := by
      unfold part
      clear_value run
      split
      · exact h.descPart hp
      · exact h
    have hhalted : Kept s halted := hpart.onSip
    exact hhalted.frame (Frame.event ..)

theorem fabReply {dev : BitVec 6} {cls : Cls} {b : List Byte} (h : Kept s t) : Kept s (State.fabReply t dev cls b) :=
  h.fabSend

theorem admitSend {k : Fin 6} {id : Nat} {a : Nat} (h : Kept s t) : Kept s (State.admitSend t k id a) :=
  h.hopSend

theorem supervise {send : Bool} (h : Kept s t) : Kept s (State.supervise t send) := by
  unfold State.supervise
  extract_lets +onlyGivenNames _ _ _ s2
  have h2 : Kept s s2 := (h.foldl fun _ _ hx1 => hx1.axisTick).frame (Frame.sourceStop ..)
  extract_lets +onlyGivenNames _ s5
  have h5 : Kept s s5 := (h2.foldl fun _ _ hx3 => hx3.shareTick).foldl fun _ _ hx4 => ite (hx4.frame (Frame.soloTick ..)) hx4
  extract_lets +onlyGivenNames s7
  have h7 : Kept s s7 := h5.foldl fun _ _ hx6 => ite (hx6.frame (Frame.auxTick ..)) hx6
  exact (((h7.frame (Frame.clearTick ..)).frame (Frame.driveTest ..)).frame (Frame.limpTest ..)).frame (Frame.commitTest ..)

theorem boundary (h : Kept s t) : Kept s (State.boundary t) := by
  unfold State.boundary
  extract_lets +onlyGivenNames s1
  have h1 : Kept s s1 := ((((h.frame (Frame.tickJudge ..)).modeBoundary).handOver).frame (Frame.tickNext ..)).boundaryRest
  exact ite h1.workStart h1

theorem actWord {maint : Bool} {a : Nat} {r : RegRow} {c : Ctx} {w : Word} (h : Kept s t) : Kept s (Machine.actWord maint a r c t w).1 := by
  unfold Machine.actWord
  extract_lets +onlyGivenNames _
  split
  · exact h.actDev
  · split
    · exact h.actAx
    · split
      · exact h.actAux
      · split
        · split
          · exact h.doChopClear
          · exact h.doSelfTest
        · split
          · exact h.doRcnClr
          · split
            · exact h.doLinkErrClr
            · split
              · exact h.doPortErrClr
              · split
                · exact h.actCan
                · split
                  · split
                    · exact h.doSipRestart
                    · extract_lets +onlyGivenNames _
                      split
                      · exact h.doSipHead
                      · exact h.doSipCmd
                  · exact h.actCar

theorem actAcc {maint : Bool} {a : Nat} {r : RegRow} {c : Ctx} {w : Word} (h : Kept s t) : Kept s (Machine.actAcc maint a r c t w).1 := by
  unfold Machine.actAcc
  split
  · exact h.rightsNak
  · exact h.rightsNak
  · exact h.doStage
  · exact h.needRights (fun _ hx1 => (hx1.onRegs fun _ w => Regs.set_wf _ _ _ w).ack)
  · exact h.actWord
  · exact h.actWord

theorem frameEnd {f : FrameExec} (h : Kept s t) : Kept s (State.frameEnd t f) := by
  unfold State.frameEnd
  extract_lets +onlyGivenNames _ _ s1
  have h1 : Kept s s1 := ite ((h.frame (Frame.onCp ..)).frame (Frame.renewLease ..)) (h.frame (Frame.onCp ..))
  split
  · exact h1
  · split
    · exact h1.frame (Frame.onCp ..)
    · extract_lets +onlyGivenNames _
      split
      · exact h1.frame (Frame.portReply ..)
      · exact h1.fabReply

theorem execRoutes {dt : Nat} (h : Kept s t) : KeptNext s (Machine.execRoutes dt t) := by
  unfold Machine.execRoutes
  extract_lets +onlyGivenNames _
  split
  · exact (h.advance).done
  · split
    · exact (h.advance).done
    · extract_lets +onlyGivenNames s1
      have h1 : Kept s s1 := (h.advance).frame (Frame.onFab ..)
      split
      · split
        · exact (((h1.frame (Frame.onFab ..)).frame (Frame.event ..)).joinFlush).done
        · exact ((h1.frame (Frame.onFab ..)).frame (Frame.event ..)).done
      · exact ((h1.frame (Frame.onFab ..)).frame (Frame.event ..)).done

theorem publishRoutes {lev : List (Nat × Nat)} (h : Kept s t) : Kept s (State.publishRoutes t lev) := by
  unfold State.publishRoutes
  extract_lets +onlyGivenNames _ _ _ _ s2
  have h2 : Kept s s2 := by
    unfold s2
    refine (h.frame (Frame.tableKeep ..)).foldl fun _ _ hx1 => ?_
    split
    · exact hx1
    · extract_lets +onlyGivenNames _
      exact ite hx1.fabSeq.linkSend (hx1.frame (Frame.fabDiscard ..))
  extract_lets +onlyGivenNames _
  exact h2.commandSend.frame (Frame.onFab ..)

theorem execLinkRun {dt : Nat} {k : Fin 6} {rxRate : Nat} (h : Kept s t) : KeptNext s (Machine.execLinkRun dt k rxRate t) := by
  unfold Machine.execLinkRun
  extract_lets +onlyGivenNames _
  split
  · extract_lets +onlyGivenNames s1
    have h1 : Kept s s1.2 := (h.advance).frame (Frame.fresh ..)
    exact ((h1.frame (Frame.modLink ..)).helloSend).done
  · exact (h.advance).done

theorem frzLocal {source : Nat} {cause : Nat} {stamp : Nat} {t₀ : Nat} {maint : Bool} (h : Kept s t) : Kept s (State.frzLocal t source cause stamp t₀ maint).1 := by
  unfold State.frzLocal
  extract_lets +onlyGivenNames _
  split
  · dsimp only
    exact h.frzRefuse
  · split
    · extract_lets +onlyGivenNames _ s1
      have h1 : Kept s s1 := h.commandSend.frame (Frame.freezeRec ..)
      dsimp only
      exact h1.frame (Frame.frzPend ..)
    · dsimp only
      exact h.frame (Frame.frzPend ..)

theorem streamPut {k : Fin 4} {bs : List Byte} (h : Kept s t) : Kept s (State.streamPut t k bs) := by
  unfold State.streamPut
  extract_lets +onlyGivenNames _ _ _ _ _ s1
  have h1 : Kept s s1 := ite ((h.frame (Frame.modStream ..)).capture) (h.frame (Frame.modStream ..))
  exact h1.streamFull

theorem tickWork {sensors : List (Rat × Rat)} {vdrv : Rat} {v24s : Rat} (h : Kept s t) : Kept s (State.tickWork t sensors vdrv v24s) := by
  unfold State.tickWork
  extract_lets +onlyGivenNames s1
  have h1 : Kept s s1 := (h.frame (Frame.onGd ..)).frame (Frame.onSaf ..)
  split
  · extract_lets +onlyGivenNames _ _ _ _ s2
    have h2 : Kept s s2 := (((h1.frame (Frame.onTick ..)).frame (Frame.skewTick ..)).supervise).keepTick
    extract_lets +onlyGivenNames s3
    have h3 : Kept s s3 := (h2.frame (Frame.workEnd ..)).frame (Frame.event ..)
    extract_lets +onlyGivenNames _
    exact ((h3.frame (Frame.onTick ..)).workStart).frame (Frame.onTick ..)
  · exact ite h1 ((((h1.frame (Frame.skewTick ..)).supervise).keepTick).frame (Frame.workEnd ..))

theorem rootJoin {id : Nat} {claim : Nat} {parts : List Nat} {k : Nat} (h : Kept s t) : Kept s (State.rootJoin t id claim parts k).1 := by
  unfold State.rootJoin
  extract_lets +onlyGivenNames _ _ _
  split
  · split
    · split
      · dsimp only
        exact (h.frame (Frame.onFab ..)).frame (Frame.refuseJoin ..)
      · dsimp only
        exact h.frame (Frame.onFab ..)
    · extract_lets +onlyGivenNames _ s1
      have h1 : Kept s s1 := (h.frame (Frame.onFab ..)).frame (Frame.onFab ..)
      extract_lets +onlyGivenNames s3
      have h3 : Kept s s3 := h1.foldl fun _ _ hx2 => hx2.frame (Frame.refuseJoin ..)
      extract_lets +onlyGivenNames _
      split
      · dsimp only
        exact h3.publishRoutes
      · dsimp only
        exact h3.publishRoutes
  · split
    · dsimp only
      exact h.frame (Frame.onFab ..)
    · extract_lets +onlyGivenNames _
      split
      · dsimp only
        exact (h.frame (Frame.onFab ..)).frame (Frame.refuseJoin ..)
      · dsimp only
        exact (h.frame (Frame.onFab ..)).frame (Frame.onFab ..)

theorem admitted {k : Fin 6} {b : List Byte} (h : Kept s t) : Kept s (State.admitted t k b) := by
  unfold State.admitted
  extract_lets +onlyGivenNames old _
  clear_value old
  split
  · exact h.admitIn.frame (Frame.shareAddrTest ..)
  · exact h.admitIn

theorem joinOwn {k : Fin 6} (h : Kept s t) : Kept s (State.joinOwn t k) :=
  h.joinSend.frame (Frame.onFab ..)

theorem doFreeze {wide : Bool} {cause : Nat} {c : Ctx} (h : Kept s t) : Kept s (Machine.doFreeze wide cause c t).1 := by
  unfold Machine.doFreeze
  split
  · exact h.rightsNak
  · extract_lets +onlyGivenNames _
    split
    · exact h.frzLocal.ack
    · exact h.frzLocal.nak

theorem joinIn {k : Fin 6} {b : List Byte} (h : Kept s t) : Kept s (State.joinIn t k b) := by
  unfold State.joinIn
  extract_lets +onlyGivenNames _ _ _ _
  split
  · exact h
  · split
    · extract_lets +onlyGivenNames _
      split
      · extract_lets +onlyGivenNames _
        exact ite (h.rootJoin.admitSend.frame (Frame.park ..)) h.rootJoin.admitSend
      · exact h.rootJoin
    · split
      · exact h.admitSend
      · split
        · exact h.joinSend.frame (Frame.onFab ..)
        · exact h

theorem joinFirst {k : Fin 6} {p : Partner} (h : Kept s t) : Kept s (State.joinFirst t k p) :=
  ite h.joinOwn h

theorem frzTrig {cause : Nat} (h : Kept s t) : Kept s (State.frzTrig t cause) := by
  unfold State.frzTrig
  extract_lets +onlyGivenNames _
  exact ite ((h.frame (Frame.onFrz ..)).frzLocal) (h.frame (Frame.onFrz ..))

theorem doReg {maint : Bool} {a : Nat} {c : Ctx} {w : Word} (h : Kept s t) : Kept s (Machine.doReg maint a c t w).1 := by
  unfold Machine.doReg
  split
  · exact h
  · exact h
  · split
    · exact h.actAcc
    · split
      · exact h.rightsNak
      · split
        · exact h
        · exact (h.frame (Frame.onStg ..)).ack

theorem joinChanged (h : Kept s t) : Kept s (State.joinChanged t) :=
  ite h (ite h.rootJoin ((h.frame (Frame.onFab ..)).joinFlush))

theorem carPort_keeps : carPort.Keeps := fun h => h.streamPut

theorem execDescriptorDone {dt : Nat} {ecc : Bool} (h : Kept s t) : KeptNext s (Machine.execDescriptorDone dt ecc t) :=
  (h.advance.descriptorDone carPort_keeps).done

theorem execJoinRepeat {dt : Nat} (h : Kept s t) : KeptNext s (Machine.execJoinRepeat dt t) := by
  unfold Machine.execJoinRepeat
  extract_lets +onlyGivenNames _ _ on
  clear_value on
  split
  · exact (ite ((h.advance).joinOwn) (h.advance)).done
  · exact (h.advance).done

theorem freezePin {maint : Bool} (h : Kept s t) : Kept s (State.freezePin t maint) :=
  ite h ((h.frame (Frame.onFrz ..)).frzLocal)

theorem helloIn {k : Fin 6} {b : List Byte} (h : Kept s t) : Kept s (State.helloIn t k b) := by
  unfold State.helloIn
  extract_lets +onlyGivenNames _ _ _ _ keep
  split
  · exact h
  · exact h
  · exact h
  · split
    · exact ((h.frame (Frame.modLink ..)).frame (Frame.linkRestart ..)).joinChanged
    · exact ite ((h.frame (Frame.modLink ..)).frame (Frame.linkRestart ..)) (h.frame (Frame.modLink ..))
  · split
    · exact ((h.frame (Frame.modLink ..)).frame (Frame.linkRestart ..)).joinChanged
    · extract_lets +onlyGivenNames _ _
      exact ite ((h.frame (Frame.modLink ..)).frame (Frame.park ..)) (((h.frame (Frame.modLink ..)).joinFirst).joinFlush)
  · extract_lets +onlyGivenNames _
    split
    · exact ((h.frame (Frame.modLink ..)).frame (Frame.modLink ..)).frame (Frame.linkWatch ..)
    · extract_lets +onlyGivenNames _ s1
      have h1 : Kept s s1 := by
        unfold s1
        split
        · exact (h.frame (Frame.modLink ..)).frame (Frame.park ..)
        · exact ((((h.frame (Frame.modLink ..)).frame (Frame.modLink ..)).frame (Frame.onFab ..)).frame (Frame.event ..)).frame (Frame.linkWatch ..)
      extract_lets +onlyGivenNames s2
      have h2 : Kept s s2 := ite h1.joinChanged h1
      exact ite h2.joinFirst.joinFlush h2

theorem doWrite {maint : Bool} {a : Nat} {c : Ctx} {w : Word} (h : Kept s t) : Kept s (Machine.doWrite maint a c t w).1 := by
  unfold Machine.doWrite
  split
  · exact h
  · split
    · extract_lets +onlyGivenNames _
      split
      · split
        · exact (h.frame (Frame.pairDrop ..)).actAcc
        · exact (h.frame (Frame.pairDrop ..)).nak
      · exact (h.frame (Frame.pairDrop ..)).nak
    · split
      · exact h
      · exact h.rightsNak
      · exact h.doSramWrite
      · exact h.doReg

theorem execBusError {dt : Nat} {addr : Word} (h : Kept s t) : KeptNext s (Machine.execBusError dt addr t) :=
  (h.advance.busError carPort_keeps).done

theorem execHelloReceived {dt : Nat} {k : Fin 6} {payload : List Byte} (h : Kept s t) : KeptNext s (Machine.execHelloReceived dt k payload t) := by
  unfold Machine.execHelloReceived
  extract_lets +onlyGivenNames _
  apply done
  split
  · exact (ite ((h.advance).frame (Frame.frameHop ..)) (h.advance)).helloIn
  · exact h.advance

theorem writeWords {maint : Bool} {c : Ctx} {a i : Nat} {ws : List Word} (h : Kept s t) : Kept s (writeWords maint c a i ws t).1 := by
  induction ws generalizing t a i with
  | nil => exact h
  | cons w ws ih =>
    unfold Machine.writeWords
    extract_lets
    split
    · exact ih h.doWrite
    · exact h.doWrite

theorem execStagedWrite {dt : Nat} {o : Origin} {addr : Word} {value : Word} (h : Kept s t) : KeptNext s (Machine.execStagedWrite dt o addr value t) := by
  unfold Machine.execStagedWrite
  split
  · split
    · exact ((h.advance).entry (fun _ _ hx1 => hx1.doStage)).done
    · exact ((h.advance).entry (fun _ _ hx2 => hx2.doWrite)).done
  · exact ((h.advance).entry (fun _ _ hx3 => hx3.doWrite)).done

theorem entryDo {maint : Bool} {e : Entry} {c : Ctx} (h : Kept s t) : Kept s (Machine.entryDo maint e c t).1 := by
  unfold Machine.entryDo
  extract_lets +onlyGivenNames _
  split
  · split
    · exact h
    · exact h.doRead
  · extract_lets +onlyGivenNames _
    split
    · exact h
    · exact h.writeWords
  · exact h.doToken
  · exact h
  · split
    · exact h
    · exact h.doFetch
  · split
    · exact h.doImageBegin
    · exact h.doImageData
    · exact h.doImageEnd
    · exact h.doImageAbort
    · exact h
  · split
    · exact h
    · exact h.doFreeze
  · exact h.doSafe

theorem runEntries {es : List Entry} {f : FrameExec} (h : Kept s t) : Kept s (Machine.runEntries es f t).2.1 := by
  induction es generalizing f t with
  | nil => exact h
  | cons e rest ih =>
    unfold Machine.runEntries
    split
    · exact ih h
    · dsimp only
      split
      · exact h
      · exact ih (h.frame (Frame.settleReply ..))
      · split
        · exact ih (h.frame (Frame.settleReply ..))
        · split
          · dsimp only
            exact h.frame (Frame.onCp ..)
          · exact ih (h.entryDo.frame (Frame.settleReply ..))

theorem execJcpWrite {dt : Nat} {o : Origin} {maint : Bool} {addr : Word} {words : List Word} (h : Kept s t) : KeptNext s (Machine.execJcpWrite dt o maint addr words t) := by
  unfold Machine.execJcpWrite
  apply done
  refine (h.advance).entry (fun _ _ hx1 => ?_)
  split
  · exact hx1
  · exact hx1.writeWords

theorem pumpBy {n : Nat} (h : Kept s t) : Kept s (t.pumpBy n) := by
  induction n generalizing t with
  | zero => exact h
  | succ n ih =>
    unfold State.pumpBy
    extract_lets
    split
    · split
      · exact h
      · extract_lets
        split
        · exact ih h.runEntries.frameEnd
        · exact ih (h.runEntries.frame (Frame.frameKeep ..))
    · exact ih (h.tokenDecide.foldl fun _ _ hx => hx.frame (Frame.tokenAnswer ..))

theorem pump (h : Kept s t) : Kept s (State.pump t) :=
  h.pumpBy

theorem frameStart {via : Via} {c : Ctx} {maint : Bool} {es : List Entry} (h : Kept s t) : Kept s (State.frameStart t via c maint es) := by
  unfold State.frameStart
  extract_lets +onlyGivenNames _
  exact (h.frame (Frame.onCp ..)).pump

theorem tokenAsk {o : Origin} {take : Bool} {age : Nat} (h : Kept s t) : Kept s (State.tokenAsk t o take age) := by
  unfold State.tokenAsk
  extract_lets +onlyGivenNames _
  split
  · split
    · exact h
    · split
      · exact h.frame (Frame.queueAlone ..)
      · split
        · exact h
        · exact (h.frame (Frame.settleReply ..)).frame (Frame.onCp ..)
        · exact (h.frame (Frame.onCp ..)).pump
  · exact h.entry (fun _ _ hx1 => hx1.doToken)

theorem frameTake {p : Fin 3} {c : Ctx} {maint : Bool} {b : List Byte} (h : Kept s t) : Kept s (State.frameTake t p c maint b) := by
  unfold State.frameTake
  split
  · exact ite (h.frame (Frame.portRefuse ..)) h.forward
  · split
    · exact h.frameStart
    · exact h.frame (Frame.portRefuse ..)

theorem fabFrameIn {dev : BitVec 6} {cls : Cls} {unit : Nat} {time : Nat} {maint : Bool} {b : List Byte} (h : Kept s t) : Kept s (State.fabFrameIn t dev cls unit time maint b) := by
  unfold State.fabFrameIn
  split
  · exact h
  · extract_lets +onlyGivenNames _ refuse
    split
    · unfold refuse
      extract_lets +onlyGivenNames _
      exact (h.frame (Frame.settleReply ..)).fabReply
    · split
      · unfold refuse
        extract_lets +onlyGivenNames _
        exact (h.frame (Frame.settleReply ..)).fabReply
      · split
        · unfold refuse
          extract_lets +onlyGivenNames _
          exact (h.frame (Frame.settleReply ..)).fabReply
        · exact h.frameStart

theorem jcpPacketIn {k : Fin 6} {src : Nat} {cls : Nat} {time : Nat} {b : List Byte} (h : Kept s t) : Kept s (State.jcpPacketIn t k src cls time b) := by
  unfold State.jcpPacketIn
  split
  · exact h.forwardReply
  · extract_lets +onlyGivenNames _
    exact (h.frame (Frame.fresh ..)).fabFrameIn

theorem frameSeq {p : Fin 3} {c : Ctx} {maint : Bool} {b : List Byte} (h : Kept s t) : Kept s (State.frameSeq t p c maint b) := by
  unfold State.frameSeq
  extract_lets +onlyGivenNames _ accept
  split
  · exact (h.frame (Frame.modPort ..)).frameTake
  · split
    · split
      · exact h.frame (Frame.portSend ..)
      · exact h
    · exact ite ((h.frame (Frame.modPort ..)).frameTake) ((h.frame (Frame.modPort ..)).frame (Frame.portRefuse ..))

theorem deliver {k : Fin 6} {b : List Byte} (h : Kept s t) : Kept s (State.deliver t k b) := by
  unfold State.deliver
  extract_lets +onlyGivenNames _ _
  split
  · exact h.helloIn
  · exact h.joinIn
  · exact h.admitted
  · exact h.frame (Frame.routesIn ..)
  · exact h.syncReqIn
  · exact h.syncRespIn
  · exact h.commandIn
  · exact h.jcpPacketIn
  · exact h.frame (Frame.reportIn ..)
  · exact h.frame (Frame.shareIn ..)
  · exact h.frame (Frame.safePacketIn ..)
  · exact h

theorem castIn {k : Fin 6} {b : List Byte} (h : Kept s t) : Kept s (State.castIn t k b) := by
  unfold State.castIn
  split
  · exact h.deliver
  · extract_lets +onlyGivenNames _
    exact ite h.fabSeen h.fabSeen.deliver

theorem frameIn {p : Fin 3} {age : Nat} {maint : Bool} {b : List Byte} (h : Kept s t) : Kept s (State.frameIn t p age maint b) := by
  unfold State.frameIn
  split
  · exact h
  · extract_lets +onlyGivenNames _ s1
    have h1 : Kept s s1 := (h.frame (Frame.modPort ..)).frame (Frame.frameCp ..)
    split
    · exact h1.frame (Frame.frameMalformed ..)
    · split
      · extract_lets +onlyGivenNames _
        exact (h1.frame (Frame.settleReply ..)).frame (Frame.portSend ..)
      · exact h1.frameSeq

theorem routed {k : Fin 6} {bulk : Bool} {eep : Bool} {good : Bool} {b : List Byte} (h : Kept s t) : Kept s (State.routed t k bulk eep good b) := by
  unfold State.routed
  extract_lets +onlyGivenNames _
  split
  · extract_lets +onlyGivenNames _
    exact (ite h.castIn h).passOn
  · split
    · exact ite h.deliver h
    · exact h.frame (Frame.fabDiscard ..)
    · exact h.passOn

theorem spiWrite {p : Fin 2} {age : Nat} {b : List Byte} (h : Kept s t) : Kept s (State.spiWrite t p age b) :=
  ite h.frameIn h

theorem mntHunt {n age : Nat} {maint : Bool} {b : List Byte} (h : Kept s t) : Kept s (t.mntHunt n age maint b) := by
  induction n generalizing t age b with
  | zero => exact h
  | succ n ih =>
    unfold State.mntHunt
    split
    · exact h
    · exact ih h.frameIn

theorem packetIn {k : Fin 6} {bulk : Bool} {eep : Bool} {b : List Byte} (h : Kept s t) : Kept s (State.packetIn t k bulk eep b) := by
  unfold State.packetIn
  extract_lets +onlyGivenNames _ s1
  have h1 : Kept s s1 := ite (h.frame (Frame.frameFab ..)) (ite h (h.frame (Frame.badPacket ..)))
  exact ite (ite h1.deliver h1) (ite h1.routed h1)

theorem mntIn {age : Nat} {maint : Bool} {b : List Byte} (h : Kept s t) : Kept s (State.mntIn t age maint b) :=
  h.frameIn.mntHunt

theorem segmentIn {k : Fin 6} {b : List Byte} {eep : Bool} (h : Kept s t) : Kept s (State.segmentIn t k b eep) := by
  unfold State.segmentIn
  extract_lets +onlyGivenNames _ _ _ drop
  split
  · exact h.frame (Frame.modLink ..)
  · split
    · exact (h.frame (Frame.modLink ..)).frame (Frame.badPacket ..)
    · extract_lets +onlyGivenNames _ s1
      have h1 : Kept s s1 := ite (h.frame (Frame.modLink ..)) h
      split
      · exact (h1.frame (Frame.modLink ..)).frame (Frame.badPacket ..)
      · exact ite ((h1.frame (Frame.modLink ..)).packetIn) (h1.frame (Frame.modLink ..))

theorem mntGap {age : Nat} {gap : Nat} {b : List Byte} (h : Kept s t) : Kept s (State.mntGap t age gap b) := by
  unfold State.mntGap
  extract_lets +onlyGivenNames _
  split
  · exact h
  · extract_lets +onlyGivenNames s1
    have h1 : Kept s s1 := ((h.frame (Frame.modPort ..)).frame (Frame.frameCp ..)).frame (Frame.frameMalformed ..)
    exact h1.mntHunt

theorem execJcpRequestFrame {dt : Nat} {via : Via} {frameAge : Nat} {maint : Bool} {bytes : List Byte} (h : Kept s t) : KeptNext s (Machine.execJcpRequestFrame dt via frameAge maint bytes t) := by
  unfold Machine.execJcpRequestFrame
  extract_lets +onlyGivenNames _
  split
  · exact (ite ((h.advance).mntIn) ((h.advance).frameIn)).done
  · extract_lets +onlyGivenNames s1
    have h1 : Kept s s1 := ite ((h.advance).frame (Frame.frameRow ..)) (h.advance)
    exact h1.fabFrameIn.done

/-- Every command keeps the queue and the canonical form of the stores. -/
theorem exec (c : Instr) (h : Kept s t) : KeptNext s (exec c t) := by
  cases c with
  | resetAssert => exact ((h.advance).resetAssert).done
  | supplyLoss => exact ((h.advance).supplyLoss).done
  | suppliesGood => exact ((h.advance).frame (Frame.onPwr ..)).done
  | resetRelease => exact ((h.advance).release).done
  | pllLock => exact ((h.advance).frame (Frame.pllLock ..)).done
  | pllLockTimeout => exact (ite ((h.advance).startFail) (h.advance)).done
  | loadEntry => exact ((h.advance).loadEntry).done
  | imageHeaderRead => exact ((h.advance).headerRead).done
  | sectionHeaderRead => exact ((h.advance).sectionRead).done
  | imageEntryRead => exact ((h.advance).frame (Frame.entryRead ..)).done
  | sectionCrcRead => exact ((h.advance).crcRead).done
  | holdEntry => exact ((h.advance).holdEntry).done
  | refclkLoss => exact ((h.advance).refclkLoss).done
  | refclkBack => exact ((h.advance).frame (Frame.refclkBack ..)).done
  | epuCalibration => exact ((h.advance).frame (Frame.epuCal ..)).done
  | tbNowLoRead => exact ((h.advance).entry (fun _ _ hx1 => hx1.doRead)).done
  | sampleInstant => exact ((h.advance).frame (Frame.sampleInstant ..)).done
  | currentLoopUpdate => exact ((h.advance).frame (Frame.loopUpdate ..)).done
  | edgeSetPosted => exact ((h.advance).frame (Frame.edgePosted ..)).done
  | edgeUpdateInstant => exact ((h.advance).frame (Frame.edgeUpdate ..)).done
  | lateResultDiscarded => exact (ite ((h.advance).frame (Frame.lateDiscarded ..)) (h.advance)).done
  | lateReact => exact (ite ((h.advance).frame (Frame.lateReact ..)) (h.advance)).done
  | lateBridgeOff => exact (ite ((h.advance).frame (Frame.lateBridgeOff ..)) (h.advance)).done
  | slackWindowClose => exact (ite ((h.advance).frame (Frame.slackClose ..)) (h.advance)).done
  | lateClear => exact (ite ((h.advance).frame (Frame.lateClear ..)) (h.advance)).done
  | pwmFrequencyChange => exact (ite ((h.advance).frame (Frame.pwmChange ..)) (h.advance)).done
  | outerTickBoundary => exact (ite ((h.advance).boundary) (h.advance)).done
  | outerTickWork => exact (ite ((h.advance).tickWork) (h.advance)).done
  | tickOverrunStop => exact ((h.advance).frame (Frame.overrunStop ..)).done
  | domainSkewLimit => exact ((h.advance).frame (Frame.skewLimit ..)).done
  | domainSkewHoldoffEnd => exact ((h.advance).frame (Frame.skewFree ..)).done
  | tickClr => exact ((h.advance).entry (fun _ _ hx1 => hx1.doTickClr)).done
  | sntClr => exact ((h.advance).entry (fun _ _ hx1 => hx1.doSntClr)).done
  | registerWrite => exact ((h.advance).entry (fun _ _ hx1 => hx1.doWrite)).done
  | stagedWrite => exact h.execStagedWrite
  | stgDiscard => exact ((h.advance).entry (fun _ _ hx1 => hx1.doStgDiscard)).done
  | commit => exact ((h.advance).entry (fun _ _ hx1 => hx1.doCommit)).done
  | driveRequest => exact ((h.advance).entry (fun _ _ hx1 => hx1.doModeReq)).done
  | holdRequest => exact ((h.advance).entry (fun _ _ hx1 => hx1.doModeReq)).done
  | limpAcknowledge => exact ((h.advance).entry (fun _ _ hx1 => hx1.doModeReq)).done
  | brakeTmo => exact ((h.advance).frame (Frame.brakeTimeout ..)).done
  | hsUvSet => exact (ite ((h.advance).frame (Frame.hsUvSet ..)) (h.advance)).done
  | bstUv => exact (ite ((h.advance).frame (Frame.bstUv ..)) (h.advance)).done
  | bstRefreshEnd => exact (ite ((h.advance).frame (Frame.bstRefreshEnd ..)) (h.advance)).done
  | hsSupplyReady => exact (ite ((h.advance).frame (Frame.hsSupplyReady ..)) (h.advance)).done
  | bstStartTimeout => exact (ite ((h.advance).frame (Frame.bstStartTimeout ..)) (h.advance)).done
  | desatTrip => exact ((h.advance).frame (Frame.desatTrip ..)).done
  | fastComparatorTrip => exact ((h.advance).frame (Frame.fastTrip ..)).done
  | linkFaultReturn => exact ((h.advance).frame (Frame.linkReturn ..)).done
  | softTurnOffEnd => exact ((h.advance).frame (Frame.softEnd ..)).done
  | shortAscEntry => exact (ite ((h.advance).frame (Frame.shortAsc ..)) (h.advance)).done
  | vdrvUv => exact ((h.advance).frame (Frame.vdrvUvSet ..)).done
  | vdrvOv => exact ((h.advance).frame (Frame.vdrvOvSet ..)).done
  | vdrvMonitorClear => exact ((h.advance).frame (Frame.vdrvClear ..)).done
  | ascSwitchOn => exact (ite ((h.advance).frame (Frame.ascOn ..)) (h.advance)).done
  | chopperFault => exact ((h.advance).chopTrip).done
  | chopperClear => exact ((h.advance).entry (fun _ _ hx1 => hx1.doChopClear)).done
  | selftestStart => exact ((h.advance).entry (fun _ _ hx1 => hx1.doSelfTest)).done
  | selftestTestDone => exact ((h.advance).frame (Frame.testDone ..)).done
  | fastFilterOutput => exact ((h.advance).frame (Frame.fastOutput ..)).done
  | phaseOc => exact ((h.advance).frame (Frame.phaseOc ..)).done
  | sdiStuck => exact ((h.advance).frame (Frame.sdiStuck ..)).done
  | sdiStuckClear => exact (ite ((h.advance).frame (Frame.modSdi ..)) (h.advance)).done
  | zeroMeasurementEnd => exact ((h.advance).frame (Frame.zeroEnd ..)).done
  | dcsHold => exact ((h.advance).frame (Frame.dcsHold ..)).done
  | dcsConversionDone => exact ((h.advance).frame (Frame.dcsDone ..)).done
  | dcsConversionTimeout => exact ((h.advance).frame (Frame.dcsTimeout ..)).done
  | sdiFault => exact ((h.advance).frame (Frame.sdiFault ..)).done
  | dcsFault => exact ((h.advance).frame (Frame.dcsFault ..)).done
  | senseLost => exact ((h.advance).frame (Frame.senseLost ..)).done
  | predLimit => exact ((h.advance).frame (Frame.predLimit ..)).done
  | sensorBack => exact ((h.advance).frame (Frame.sensorBack ..)).done
  | ainHold => exact ((h.advance).frame (Frame.ainHold ..)).done
  | ainConversionDone => exact ((h.advance).frame (Frame.ainDone ..)).done
  | ainRange => exact ((h.advance).frame (Frame.ainRange ..)).done
  | encEdge => exact ((h.advance).frame (Frame.encEdge ..)).done
  | encIllegalLimit => exact (ite ((h.advance).frame (Frame.encFault ..)) (h.advance)).done
  | encSpeedTimeout => exact (ite ((h.advance).frame (Frame.modEnc ..)) (h.advance)).done
  | serialTransferDone => exact ((h.advance).frame (Frame.serialDone ..)).done
  | serialPositionFault => exact (ite ((h.advance).frame (Frame.encFault ..)) (h.advance)).done
  | encObserverMismatch => exact h.execEncObserverMismatch
  | rcnClr => exact ((h.advance).entry (fun _ _ hx1 => hx1.doRcnClr)).done
  | catchDone => exact ((h.advance).frame (Frame.catchDone ..)).done
  | catchFail => exact ((h.advance).frame (Frame.catchFail ..)).done
  | catchRetry => exact (ite ((h.advance).frame (Frame.catchRetry ..)) (h.advance)).done
  | ifAlignEnd => exact (ite ((h.advance).frame (Frame.ifAlignEnd ..)) (h.advance)).done
  | ifBlendEnd => exact (ite ((h.advance).frame (Frame.ifBlendEnd ..)) (h.advance)).done
  | los => exact ((h.advance).frame (Frame.los ..)).done
  | reacquired => exact ((h.advance).frame (Frame.reacquired ..)).done
  | ascReacqTimeout => exact (ite ((h.advance).frame (Frame.reacqTimeout ..)) (h.advance)).done
  | ascExit => exact (ite ((h.advance).frame (Frame.ascExit ..)) (h.advance)).done
  | ascBlindHoldEnd => exact (ite ((h.advance).frame (Frame.blindEnd ..)) (h.advance)).done
  | axisCmdStop => exact ((h.advance).axisCmd).done
  | axisCmdSpeed => exact ((h.advance).axisCmd).done
  | axisCmdTorque => exact ((h.advance).axisCmd).done
  | axisCmdTension => exact ((h.advance).axisCmd).done
  | axisSetpointWrite => exact ((h.advance).entry (fun _ _ hx1 => hx1.doAxisSet)).done
  | canLost => exact ((h.advance).frame (Frame.canLost ..)).done
  | standstillReached => exact (ite ((h.advance).frame (Frame.standstill ..)) (h.advance)).done
  | axisClearCommand => exact ((h.advance).entry (fun _ _ hx1 => hx1.doAxisClear)).done
  | renderEnd => exact (ite ((h.advance).frame (Frame.renderEnd ..)) (h.advance)).done
  | heaveReferenceInput => exact ((h.advance).entry (fun _ _ hx1 => hx1.doHeaveA)).done
  | heaveStale => exact ((h.advance).frame (Frame.heaveStale ..)).done
  | overtemp => exact ((h.advance).frame (Frame.overtemp ..)).done
  | impactHoldEnd => exact (ite ((h.advance).frame (Frame.impactEnd ..)) (h.advance)).done
  | iceStall => exact (ite ((h.advance).frame (Frame.iceStall ..)) (h.advance)).done
  | icePauseEnd => exact (ite ((h.advance).frame (Frame.icePauseEnd ..)) (h.advance)).done
  | iceBackEnd => exact (ite ((h.advance).frame (Frame.iceBackEnd ..)) (h.advance)).done
  | stopTmo => exact (ite ((h.advance).frame (Frame.stopTmo ..)) (h.advance)).done
  | crashStop => exact ((h.advance).entry (fun _ _ hx1 => hx1.doCrash)).done
  | dcCrit => exact ((h.advance).frame (Frame.dcCrit ..)).done
  | dcLimitEnd => exact (ite ((h.advance).frame (Frame.dcLimitEnd ..)) (h.advance)).done
  | shareReportReceived => exact (ite (((h.advance).frame (Frame.frameRow ..)).frame (Frame.reportIn ..)) (h.advance)).done
  | shareReceived => exact (ite (((h.advance).frame (Frame.frameRow ..)).frame (Frame.shareIn ..)) (h.advance)).done
  | memberLost => exact h.execMemberLost
  | desyncGraceEnd => exact (ite ((h.advance).frame (Frame.modShr ..)) (h.advance)).done
  | auxUpdate => exact ((h.advance).frame (Frame.auxUpdate ..)).done
  | auxStall => exact (ite ((h.advance).frame (Frame.auxStall ..)) (h.advance)).done
  | holdCurrentDelayEnd => exact (ite ((h.advance).frame (Frame.auxHoldCurrent ..)) (h.advance)).done
  | auxCmdStop => exact ((h.advance).auxCmd).done
  | auxCmdVelocity => exact ((h.advance).auxCmd).done
  | auxCmdPosition => exact ((h.advance).auxCmd).done
  | auxCmdHome => exact ((h.advance).auxCmd).done
  | auxSetpointWrite => exact ((h.advance).entry (fun _ _ hx1 => hx1.doAuxSet)).done
  | auxTargetWrite => exact ((h.advance).entry (fun _ _ hx1 => hx1.doAuxPos)).done
  | auxMoveDone => exact (ite ((h.advance).auxMoveDone) (h.advance)).done
  | auxStopSettleEnd => exact (ite ((h.advance).frame (Frame.auxStopEnd ..)) (h.advance)).done
  | auxStillSet => exact (ite ((h.advance).frame (Frame.auxStillSet ..)) (h.advance)).done
  | startCheckEnd => exact (ite ((h.advance).frame (Frame.auxCheckEnd ..)) (h.advance)).done
  | limitInputChange => exact ((h.advance).frame (Frame.limitChange ..)).done
  | limChatter => exact ((h.advance).frame (Frame.limChatter ..)).done
  | limClr => exact ((h.advance).entry (fun _ _ hx1 => hx1.doLimClr)).done
  | cobaltSample => exact ((h.advance).frame (Frame.cobaltSample ..)).done
  | cobaltScan => exact ((h.advance).frame (Frame.cobaltScan ..)).done
  | safetyCompare => exact ((h.advance).frame (Frame.safetyCompare ..)).done
  | compareStale => exact ((h.advance).frame (Frame.compareStale ..)).done
  | vcoreSWindow => exact ((h.advance).frame (Frame.vcoreSWindow ..)).done
  | cobaltRomCheck => exact ((h.advance).frame (Frame.romCheck ..)).done
  | mirrorStale => exact ((h.advance).frame (Frame.mirrorStale ..)).done
  | safeInputEdge => exact ((h.advance).frame (Frame.safeEdge ..)).done
  | safeInputFiltered => exact ((h.advance).frame (Frame.safeFiltered ..)).done
  | discrepancyFault => exact ((h.advance).frame (Frame.discrepancy ..)).done
  | testPulseStart => exact ((h.advance).frame (Frame.tpStart ..)).done
  | testPulseEnd => exact ((h.advance).frame (Frame.tpEnd ..)).done
  | v24sOut => exact ((h.advance).frame (Frame.v24sOut ..)).done
  | v24sBack => exact ((h.advance).frame (Frame.v24sBack ..)).done
  | ss1Sto => exact ((h.advance).frame (Frame.ss1Sto ..)).done
  | ss1rStandstill => exact ((h.advance).frame (Frame.ss1Standstill ..)).done
  | axisDataStale => exact ((h.advance).frame (Frame.axisDataStale ..)).done
  | sbc => exact ((h.advance).frame (Frame.sbc ..)).done
  | pathCheckTimeout => exact ((h.advance).frame (Frame.pathTimeout ..)).done
  | pathTestDue => exact ((h.advance).frame (Frame.pathDue ..)).done
  | soDarkTestStart => exact ((h.advance).frame (Frame.darkStart ..)).done
  | soDarkTestEnd => exact ((h.advance).frame (Frame.darkEnd ..)).done
  | soOffVoltageFault => exact ((h.advance).frame (Frame.soOffVoltage ..)).done
  | edmTimeout => exact ((h.advance).frame (Frame.edmTimeout ..)).done
  | srstPress => exact ((h.advance).frame (Frame.srstPress ..)).done
  | srstBronzeTimer => exact ((h.advance).frame (Frame.srstBronze ..)).done
  | srstRelease => exact ((h.advance).frame (Frame.srstRelease ..)).done
  | srstStuck => exact ((h.advance).frame (Frame.srstStuck ..)).done
  | srstLowTimer => exact ((h.advance).frame (Frame.srstLow ..)).done
  | envelopeReceived => exact h.execEnvelopeReceived
  | connectionLost => exact ((h.advance).frame (Frame.connectionLost ..)).done
  | envelopeSend => exact ((h.advance).envelopeSend).done
  | linkRun => exact h.execLinkRun
  | exchangeError => exact h.execExchangeError
  | linkDown => exact h.execLinkDown
  | linkDownEnd => exact (ite ((h.advance).frame (Frame.linkRestart ..)) (h.advance)).done
  | helloReceived => exact h.execHelloReceived
  | helloSend => exact (ite ((h.advance).helloSend) (h.advance)).done
  | noHello => exact (ite ((h.advance).frame (Frame.park ..)) (h.advance)).done
  | linkSilent => exact h.execLinkSilent
  | joinReceived => exact (ite (((h.advance).frame (Frame.frameFrom ..)).joinIn) (h.advance)).done
  | joinRepeat => exact h.execJoinRepeat
  | admitReceived => exact (ite (((h.advance).frame (Frame.frameFrom ..)).admitted) (h.advance)).done
  | routesReceived => exact (ite (((h.advance).frame (Frame.frameRow ..)).frame (Frame.routesIn ..)) (h.advance)).done
  | urgentPacketReceived => exact (ite ((((h.advance).waitDrain).frame (Frame.modLink ..)).packetIn) (h.advance)).done
  | bulkSegmentReceived => exact (ite (((h.advance).waitDrain).segmentIn) (h.advance)).done
  | packetWaitTimeout => exact (((h.advance).waitDrain).frame (Frame.waitTimeout ..)).done
  | syncReqSend => exact h.execSyncReqSend
  | syncReqReceived => exact (ite (((h.advance).frame (Frame.frameFrom ..)).syncReqIn) (h.advance)).done
  | syncRespReceived => exact (ite (((h.advance).frame (Frame.frameFrom ..)).syncRespIn) (h.advance)).done
  | syncLost => exact h.execSyncLost
  | freezeAt => exact (ite (((h.advance).frame (Frame.frameRow ..)).freezeAt) (h.advance)).done
  | routesApply => exact (ite (((h.advance).frame (Frame.frameRow ..)).routesApply) (h.advance)).done
  | routes => exact h.execRoutes
  | fabricLoss => exact (ite ((h.advance).frame (Frame.setStop ..)) (h.advance)).done
  | jcpRequestFrame => exact h.execJcpRequestFrame
  | jcpRead => exact h.execJcpRead
  | jcpWrite => exact h.execJcpWrite
  | tokenRequest => exact ((h.advance).tokenAsk).done
  | tokenRelease => exact ((h.advance).entry (fun _ _ hx1 => hx1.doToken)).done
  | tokenTake => exact ((h.advance).tokenAsk).done
  | tokenStatus => exact ((h.advance).entry (fun _ _ hx1 => hx1.doToken)).done
  | jcpNop => exact ((h.advance).entry (fun _ _ hx1 => hx1)).done
  | fetch => exact ((h.advance).entry (fun _ _ hx1 => hx1.doFetch)).done
  | imageBegin => exact ((h.advance).entry (fun _ _ hx1 => hx1.doImageBegin)).done
  | imageData => exact ((h.advance).entry (fun _ _ hx1 => hx1.doImageData)).done
  | imageEnd => exact ((h.advance).entry (fun _ _ hx1 => hx1.doImageEnd)).done
  | imageAbort => exact ((h.advance).entry (fun _ _ hx1 => hx1.doImageAbort)).done
  | imageEraseDone => exact ((h.advance).frame (Frame.imgErased ..)).done
  | imageVerifyDone => exact ((h.advance).frame (Frame.imgVerified ..)).done
  | imageSessionTimeout => exact ((h.advance).frame (Frame.imgTimeout ..)).done
  | maintEnFall => exact (ite ((h.advance).frame (Frame.imgAbandon ..)) (h.advance)).done
  | jcpFreeze => exact ((h.advance).entry (fun _ _ hx1 => hx1.doFreeze)).done
  | jcpSafe => exact ((h.advance).entry (fun _ _ hx1 => hx1.doSafe)).done
  | jcpForwardReply => exact h.execJcpForwardReply
  | jcpForwardTimeout => exact ((h.advance).forwardTimeout).done
  | tokenDecision => exact (ite ((h.advance).pump) (h.advance)).done
  | tokenLeaseExpiry => exact ((h.advance).frame (Frame.leaseExpire ..)).done
  | quarantine => exact ((h.advance).frame (Frame.quarBegin ..)).done
  | quarantineEnd => exact ((h.advance).frame (Frame.quarEnd ..)).done
  | spiWriteFrame => exact ((h.advance).spiWrite).done
  | spiQuadWriteFrame => exact ((h.advance).spiWrite).done
  | spiReadStatus => exact ((h.advance).frame (Frame.spiStatus ..)).done
  | spiReadFrame => exact ((h.advance).frame (Frame.spiRead ..)).done
  | spiQuadReadFrame => exact ((h.advance).frame (Frame.spiRead ..)).done
  | mntFrameGap => exact ((h.advance).mntGap).done
  | port => exact ((h.advance).frame (Frame.portRun ..)).done
  | portErrClr => exact ((h.advance).entry (fun _ _ hx1 => hx1.doPortErrClr)).done
  | linkErrClr => exact ((h.advance).entry (fun _ _ hx1 => hx1.doLinkErrClr)).done
  | canSetpointMessage => exact ((h.advance).canReceive (fun _ _ _ hx1 => (hx1.frame (Frame.recordIn ..)).frame (Frame.message ..))).done
  | canHeaveMessage => exact ((h.advance).canReceive (fun _ _ _ hx1 => (hx1.frame (Frame.recordIn ..)).frame (Frame.message ..))).done
  | canEnvelopeFrame => exact h.execCanEnvelopeFrame
  | canRecordFrame => exact ((h.advance).canReceive (fun _ _ _ hx1 => hx1.frame (Frame.recordIn ..))).done
  | abdDwellEnd => exact ((h.advance).frame (Frame.abdDwell ..)).done
  | canPeriodicTx => exact ((h.advance).frame (Frame.canPeriodic ..)).done
  | canFrameSent => exact ((h.advance).frame (Frame.canSent ..)).done
  | canError => exact ((h.advance).frame (Frame.canError ..)).done
  | canSend => exact ((h.advance).entry (fun _ _ hx1 => hx1.doCanHost)).done
  | canCancel => exact ((h.advance).entry (fun _ _ hx1 => hx1.doCanHost)).done
  | canRecover => exact ((h.advance).entry (fun _ _ hx1 => hx1.doCanCmd)).done
  | canRecoveryDone => exact ((h.advance).frame (Frame.canRecovered ..)).done
  | canClr => exact ((h.advance).entry (fun _ _ hx1 => hx1.doCanCmd)).done
  | canTxdGuard => exact ((h.advance).frame (Frame.txdGuard ..)).done
  | recordEmit => exact h.execRecordEmit
  | channelFlush => exact (ite ((h.advance).trigger) (h.advance)).done
  | descriptorFetched => exact h.execDescriptorFetched
  | descriptorDone => exact h.execDescriptorDone
  | busError => exact h.execBusError
  | sipStart => exact ((h.advance).sipCmd).done
  | sipStop => exact ((h.advance).sipCmd).done
  | channelRestart => exact ((h.advance).sipCmd).done
  | sipRestart => exact ((h.advance).entry (fun _ _ hx1 => hx1.doSipRestart)).done
  | workSramWrite => exact h.execWorkSramWrite
  | streamFlush => exact h.execStreamFlush
  | nandProgramDone => exact h.execNandProgramDone
  | nandEraseDone => exact h.execNandEraseDone
  | nandReadDone => exact h.execNandReadDone
  | nandBusyTimeout => exact h.execNandBusyTimeout
  | metaCheckpoint => exact (ite ((h.advance).metaWrite) (h.advance)).done
  | captureCommand => exact ((h.advance).carCmd).done
  | captureWindowEnd => exact h.execCaptureWindowEnd
  | eventSlotRelease => exact ((h.advance).carCmd).done
  | dumpSlotRelease => exact ((h.advance).carCmd).done
  | replay => exact ((h.advance).carCmd).done
  | replayStop => exact ((h.advance).carCmd).done
  | format => exact ((h.advance).carCmd).done
  | replayRdWrite => exact ((h.advance).entry (fun _ _ hx1 => hx1.doRplRd)).done
  | scrub => exact h.execScrub
  | staticWearLevel => exact h.execStaticWearLevel
  | maintenanceWaitExpiry => exact h.execMaintenanceWaitExpiry
  | mount => exact ((h.advance).mountDone).done
  | freezePin => exact ((h.advance).freezePin).done
  | freezeInstant => exact ((h.advance).freezeNow).done
  | frzStat => exact ((h.advance).frame (Frame.onFrz ..)).done
  | frzRead => exact ((h.advance).frzRead).done
  | frzDump => exact h.execFrzDump
  | frzTrig => exact ((h.advance).frzTrig).done
  | tapWaitExpiry => exact h.execTapWaitExpiry
  | selfDumpDone => exact ((h.advance).dumpDone).done
  | cobaltSupplyWindow => exact ((h.advance).frame (Frame.cobaltSupply ..)).done
  | ss1rLeadExpiry => exact ((h.advance).frame (Frame.ss1Lead ..)).done
  | soCurrentLimitOff => exact ((h.advance).frame (Frame.soLimited ..)).done
  | canBusIntegration => exact ((h.advance).frame (Frame.canIntegrated ..)).done

end Kept

theorem step_cons {c : Instr} {s : State} {rest : List Instr} (h : s.pending = c :: rest) : step s = exec c { s with pending := rest } := by
  rw [step, h]

theorem step_nil {s : State} (h : s.pending = []) : step s = .next (s.advance 1) := by
  rw [step, h]

/-- A step on an empty queue is a tick; on any other it is a command. -/
theorem step_next {s t : State} (h : step s = .next t) :
    t = s.advance 1 ∨ ∃ c rest, s.pending = c :: rest ∧ exec c { s with pending := rest } = .next t := by
  cases hq : s.pending with
  | nil => exact .inl (Host.Outcome.next.inj (h.symm.trans (step_nil hq)))
  | cons c rest => exact .inr ⟨c, rest, rfl, (step_cons hq).symm.trans h⟩

theorem exec_next {c : Instr} {s t : State} (h : exec c s = .next t) : Kept s t ∧ t.causesInOrder := by
  obtain ⟨u, hu, hk⟩ := (Kept.refl s).exec c
  rwa [Host.Outcome.next.inj (h.symm.trans hu)]

/-- Settles O57: every command ends by bringing the order of the causes up to date, and a tick of an empty queue touches no cause. -/
theorem causesStayInOrder : Obligations.CausesStayInOrder := by
  intro s t hs h
  rcases step_next h with rfl | ⟨c, rest, -, hc⟩
  · exact advance_causesInOrder s 1 hs
  · exact (exec_next hc).2

/-- Settles O58: every operation that writes a store writes it by `cellSet`, which keeps the canonical form. -/
theorem memoryStaysCanonical : Obligations.MemoryStaysCanonical := by
  intro s t hs h
  rcases step_next h with rfl | ⟨c, rest, -, hc⟩
  · exact hs
  · exact (exec_next hc).1.stores hs

/-- Settles O59: no operation of a command touches the queue. -/
theorem commandsLeaveTheQueue : Obligations.CommandsLeaveTheQueue := by
  intro c s
  obtain ⟨t, ht, hk, -⟩ := (Kept.refl s).exec c
  exact ⟨t, ht, hk.queue⟩

end Sys2Proof.Machine
end

section
/-! PROOF. What a statement compares: the state after a command is the state before it but for the parts of the command's frame. -/
set_option Elab.async false

namespace Sys2Proof.Machine

/-- `s` with the parts `K` of `t`. -/
def State.merge (K : List StPart) (s t : State) : State where
  clk := if .clk ∈ K then t.clk else s.clk
  pwr := if .pwr ∈ K then t.pwr else s.pwr
  ld := if .ld ∈ K then t.ld else s.ld
  ks := if .ks ∈ K then t.ks else s.ks
  tbs := if .tbs ∈ K then t.tbs else s.tbs
  mode := if .mode ∈ K then t.mode else s.mode
  stg := if .stg ∈ K then t.stg else s.stg
  tick := if .tick ∈ K then t.tick else s.tick
  recs := if .recs ∈ K then t.recs else s.recs
  regs := if .regs ∈ K then t.regs else s.regs
  snt := if .snt ∈ K then t.snt else s.snt
  freeIx := if .freeIx ∈ K then t.freeIx else s.freeIx
  cp := if .cp ∈ K then t.cp else s.cp
  fab := if .fab ∈ K then t.fab else s.fab
  sns := if .sns ∈ K then t.sns else s.sns
  ax := if .ax ∈ K then t.ax else s.ax
  blk := if .blk ∈ K then t.blk else s.blk
  smpCnt := if .smpCnt ∈ K then t.smpCnt else s.smpCnt
  gd := if .gd ∈ K then t.gd else s.gd
  cmd := if .cmd ∈ K then t.cmd else s.cmd
  aux := if .aux ∈ K then t.aux else s.aux
  shr := if .shr ∈ K then t.shr else s.shr
  sip := if .sip ∈ K then t.sip else s.sip
  car := if .car ∈ K then t.car else s.car
  saf := if .saf ∈ K then t.saf else s.saf
  can := if .can ∈ K then t.can else s.can
  frz := if .frz ∈ K then t.frz else s.frz
  pending := if .pending ∈ K then t.pending else s.pending

/-- A frame says that nothing but its parts differs. -/
theorem Frame.eq_merge {K : List StPart} {s t : State} (h : Frame K s t) : t = s.merge K t := by
  refine State.eq_of _ _ fun p hp => ?_
  have hkeep := h.keep p
  cases p with
  | regsOff => exact absurd rfl hp
  | _ =>
    simp only [StPart.agree, State.merge] at hkeep ⊢
    split
    · rfl
    · next hK => exact hkeep hK

/-- What a frame leaves to compare: its parts, and the mode with the order of causes as it was. -/
theorem but_of_frame {K : List StPart} {s u : State} {dt : Nat} (h : Frame K (s.advance dt) u) :
    u.settle.but s = (s.advance dt).merge K (u.but s) := by
  rw [State.settle_but]
  refine State.eq_of _ _ fun p hp => ?_
  have hkeep := h.keep p
  cases p with
  | regsOff => exact absurd rfl hp
  | mode =>
    simp only [StPart.agree, State.merge] at hkeep ⊢
    split
    · rfl
    · next hK => rw [State.but_mode, hkeep hK]; rfl
  | _ =>
    simp only [StPart.agree, State.merge] at hkeep ⊢
    split
    · rfl
    · next hK => exact hkeep hK

/-- Records apart, what follows a state is that state. -/
theorem but_of_recs {s t u : State} (h : Frame [.recs] t u) : u.settle.but s = { t.settle.but s with recs := u.settle.recs } := by
  rw [h.eq_merge]
  rfl

theorem but_event (s t : State) (time unit code detail value flags : Nat) :
    (t.event time unit code detail value flags).settle.but s =
      { t.settle.but s with recs := (t.event time unit code detail value flags).settle.recs } := but_of_recs (Frame.event ..)

/-- A command whose operation leaves `v`. -/
theorem exec_next_of {c : Instr} {s u v : State} (h : exec c s = done u) (huv : u = v) : exec c s = .next v.settle := by
  rw [h, huv, done_eq]

/-! ## Records -/

/-- An EVENT record joins what has been written. -/
theorem Wrote.event {s t : State} {l : List Shown} {time unit code detail value flags : Nat} (h : Wrote s t l) (hr : s.pwr.phase = .running)
    (hp : t.pwr = s.pwr := by rfl) (hg : t.regs = s.regs := by rfl) :
    Wrote s (t.event time unit code detail value flags) (l ++ [evtOf time unit code detail value]) :=
  Wrote.emit s t _ l h (hp ▸ hr) hg _ _ _ _ _ rfl

/-- One EVENT record, where nothing has been written before it. -/
theorem Wrote.event_one {s t : State} {time unit code detail value flags : Nat} (hr : s.pwr.phase = .running)
    (h : t.recs = s.recs := by rfl) (hp : t.pwr = s.pwr := by rfl) (hg : t.regs = s.regs := by rfl) :
    Wrote s (t.event time unit code detail value flags) [evtOf time unit code detail value] :=
  Wrote.event (Wrote.none s t (by rw [h])) hr hp hg

theorem Wrote.timeRec_one {s t : State} {time code detail a b : Nat} (hr : s.pwr.phase = .running)
    (h : t.recs = s.recs := by rfl) (hp : t.pwr = s.pwr := by rfl) (hg : t.regs = s.regs := by rfl) :
    Wrote s (t.timeRec time code detail a b) [timeOf time code detail a b] :=
  Wrote.emit s t _ [] (Wrote.none s t (by rw [h])) (hp ▸ hr) hg _ _ _ _ _ rfl

theorem Wrote.settle {s t : State} {l : List Shown} (h : Wrote s t l) : Wrote s t.settle l := h

/-- What has been written is told by the record store alone. -/
theorem Wrote.next {K : List StPart} {s t u : State} {l : List Shown} (F : Frame K t u) (hK : .recs ∉ K) (h : Wrote s t l) : Wrote s u l := by
  have hrecs : u.recs = t.recs := F.keep .recs hK
  unfold Wrote
  rw [hrecs]
  exact h

end Sys2Proof.Machine
end

section
/-! PROOF. Supplies, reset and start-up (R59 to R66, R82 to R88): the reset that returns everything, and the way from held COLD to LOAD. -/
set_option Elab.async false

namespace Sys2Proof.Machine

/-! ## The state of reset -/

theorem seenNext_none {p : Nat → Bool} (n : Nat) (h : ∀ b, p b = false) : seenNext [] n p = [] := by
  simp [seenNext, h]

/-- Bringing the order of causes of the state of reset up to date changes nothing: there is no cause. -/
theorem reset_mode_settle : ({ State.reset.mode with
    degrSeen := seenNext State.reset.mode.degrSeen 32 State.reset.degrBit
    stopSeen := seenNext State.reset.mode.stopSeen 7 (fun b => State.reset.mode.stop.getLsbD b) } : ModeSt) = State.reset.mode := by
  have hdegr : seenNext State.reset.mode.degrSeen 32 State.reset.degrBit = [] := seenNext_none 32 reset_degrBit
  have hstop : seenNext State.reset.mode.stopSeen 7 (fun b => State.reset.mode.stop.getLsbD b) = [] :=
    seenNext_none 7 fun b => by simp [State.reset]
  rw [hdegr, hstop]
  rfl

/-- What a reset leaves is the state of reset but for the parts of which the statement speaks apart. -/
theorem toCold_settle (s : State) (cause start tb mode : Nat) (vcoreS : Bool) (f : Power → Power) :
    { ((s.toCold cause start tb mode vcoreS).onPwr f).settle with
      clk := {}, ks := {}, freeIx := 0, pending := [], pwr := {}, gd := {}, saf := {} } = State.reset := by
  have hmode : ((s.toCold cause start tb mode vcoreS).onPwr f).settle.mode = State.reset.mode := by
    exact reset_mode_settle
  refine State.eq_of _ _ fun p hp => ?_
  cases p with
  | mode => exact hmode
  | regsOff => exact absurd rfl hp
  | _ => rfl

theorem execResetAssert_held {s : State} {dt : Nat} (h : s.pwr.phase = .held) :
    exec (.resetAssert dt) s = .next ((s.advance dt).onPwr (fun p => { p with resetLow := true })).settle := by
  show done (s.advance dt).resetAssert = _
  rw [State.resetAssert, if_pos (by exact h), done_eq]

theorem execResetAssert_live {s : State} {dt : Nat} (h : s.pwr.phase ≠ .held) :
    exec (.resetAssert dt) s = .next (((s.advance dt).toCold 2 ((s.advance dt).now - 10000) (s.tbAt dt) s.mode.mode.code false).onPwr
      (fun p => { p with resetLow := true })).settle := by
  show done (s.advance dt).resetAssert = _
  rw [State.resetAssert, if_neg (by exact h), done_eq]
  rfl

/-- SUPPLY_LOSS in a device that is held notes the loss, and of VCORE_S that the reset is a power-up. -/
theorem execSupplyLoss_held {s : State} {dt : Nat} (h : s.pwr.phase = .held) (sup : Supply) :
    exec (.supplyLoss dt sup) s = .next (((s.advance dt).onPwr (fun p =>
      if sup = .vcoreS then { p with vcoreSFell := true, rstCause := 1, rstTb := 0, rstMode := (s.advance dt).lastMode } else p)).onPwr
        (fun p => { setSupply sup false p with supAt := (s.advance dt).now })).settle := by
  show done ((s.advance dt).supplyLoss sup) = _
  cases sup <;> simp [State.supplyLoss, h, State.onPwr]

/-- The cause of a reset by the loss of a supply (R62). -/
def lossCause : Supply → Nat
  | .vcore => 3
  | .vcoreS => 1
  | .vio18 | .vio33 => 4

theorem execSupplyLoss_live {s : State} {dt : Nat} (h : s.pwr.phase ≠ .held) (sup : Supply) :
    ∃ tb mode vs, exec (.supplyLoss dt sup) s = .next (((s.advance dt).toCold (lossCause sup) (s.advance dt).now tb mode vs).onPwr
      (fun p => { setSupply sup false p with supAt := (s.advance dt).now })).settle := by
  cases sup
  case vcoreS => exact ⟨0, (s.advance dt).lastMode, true, by
    show done ((s.advance dt).supplyLoss .vcoreS) = _
    simp only [State.supplyLoss]
    rw [if_neg (by exact h)]
    rfl⟩
  all_goals exact ⟨s.tbAt dt, s.mode.mode.code, false, by
    show done ((s.advance dt).supplyLoss _) = _
    simp only [State.supplyLoss]
    rw [if_neg (by exact h)]
    rfl⟩

/-- Settles O2: a reset builds its state from the state of reset, in which there is no cause for the step to bring into order. -/
theorem resetReturnsEverything : Obligations.ResetReturnsEverything := by
  intro s dt
  refine ⟨fun h => ⟨⟨_, execResetAssert_held h, rfl⟩, fun sup => ⟨_, execSupplyLoss_held h sup, rfl, ?_⟩⟩, fun h => ?_, fun sup h => ?_⟩
  · cases sup <;> exact ⟨h, rfl, rfl, rfl, rfl, rfl, rfl⟩
  · exact ⟨_, execResetAssert_live h, toCold_settle .., rfl, rfl, rfl, rfl, rfl, rfl, rfl, rfl, rfl, rfl, rfl, rfl, rfl, rfl⟩
  · obtain ⟨tb, mode, vs, hexec⟩ := execSupplyLoss_live (dt := dt) h sup
    refine ⟨_, hexec, toCold_settle .., rfl, rfl, rfl, rfl, ?_⟩
    cases sup <;> exact ⟨rfl, rfl, rfl, rfl, rfl, rfl⟩

/-! ## From held COLD to LOAD -/

theorem execSuppliesGood_held {s : State} {dt : Nat} (h : s.pwr.phase = .held) (hat : s.pwr.supAt + 2000000 ≤ s.now + 2 * dt) :
    exec (.suppliesGood dt) s = .next ((s.advance dt).onPwr fun p =>
      { p with supVcore := true, supVcoreS := true, supVio18 := true, supVio33 := true }).settle := by
  show done ((s.advance dt).onPwr _) = _
  rw [done_eq]
  simp [State.onPwr, h, hat]

/-- The next entry of the reset history is written (R61). -/
theorem resetHistory_entry (s : State) (tb dur cause mode : Nat) :
    ((s.resetHistory tb dur cause mode).ksEntry (0x1000 + 64 * ((s.ks.rstNum + 1) % 64)) 32 32).isSome = true := by
  have hlen : ∀ x y z a b : Nat, (leBytes 8 x ++ leBytes 4 y ++ leBytes 2 z ++ leBytes 2 a ++ leBytes 4 b ++ zeros 12).length = 32 := by
    intros; simp [leBytes, zeros]
  have hentry := ksEntry_ksPair s (0x1000 + 64 * ((s.ks.rstNum + 1) % 64)) 32
    (leBytes 8 tb ++ leBytes 4 dur ++ leBytes 2 cause ++ leBytes 2 mode ++ leBytes 4 (s.ks.rstNum + 1) ++ zeros 12) (hlen ..).le
  rw [hlen] at hentry
  exact Option.isSome_iff_exists.2 ⟨_, hentry⟩

/-- The release of the device with its supplies good, before the straps are judged. -/
def State.released (s : State) (r1 r0 : Strap) (alt : Bool) : State :=
  let cause := if s.pwr.vcoreSFell then 1 else s.pwr.rstCause
  let dur := if s.pwr.vcoreSFell then 0xFFFFFFFF else min ((s.now - s.pwr.rstStart) / 1000) 0xFFFFFFFE
  (s.resetHistory (if cause = 1 then 0 else s.pwr.rstTb) dur cause s.pwr.rstMode).onPwr (fun p => { p with
    phase := .released, resetLow := false, vcoreSFell := false, rstDur := dur, lastCause := cause, releasedAt := s.now
    refsel := refselOf r1 r0, altFirst := alt })

theorem Frame.released (s : State) (r1 r0 : Strap) (alt : Bool) : Frame [.pwr, .ks] s (s.released r1 r0 alt) := by
  unfold State.released
  exact Frame.next (Frame.onPwr ..) (by decide) <| Frame.next (Frame.resetHistory ..) (by decide) <| Frame.refl ..

theorem release_good {s : State} (r1 r0 : Strap) (alt : Bool) (h : s.pwr.phase = .held) (h1 : s.pwr.supVcore = true)
    (h2 : s.pwr.supVcoreS = true) (h3 : s.pwr.supVio18 = true) (h4 : s.pwr.supVio33 = true) :
    s.release r1 r0 alt = if (refselOf r1 r0).isSome then s.released r1 r0 alt else (s.released r1 r0 alt).startFail 0x0001 := by
  simp only [State.release, h, h1, h2, h3, h4]
  rfl

theorem execPllLock_released {s : State} {dt : Nat} (h : s.pwr.phase = .released) :
    exec (.pllLock dt) s = .next ((((s.advance dt).onClk fun c => { c with counting := true }).onTbs fun t => { t with lock := true }).onPwr
      fun p => { p with phase := .locked }).settle := by
  show done (s.advance dt).pllLock = _
  rw [done_eq, State.pllLock]
  simp [h]

theorem execPllLockTimeout_late {s : State} {dt : Nat} (h : s.pwr.phase = .released) (hat : s.pwr.releasedAt + 200000 ≤ s.now + 2 * dt) :
    exec (.pllLockTimeout dt) s = .next ((s.advance dt).startFail 0x0002).settle := by
  show done (if (s.advance dt).pwr.phase = .released ∧ (s.advance dt).pwr.releasedAt + 200000 ≤ (s.advance dt).now then _ else _) = _
  rw [if_pos ⟨h, hat⟩, done_eq]

theorem execLoadEntry_locked {s : State} {dt : Nat} (h : s.pwr.phase = .locked) (keepOk : Bool) :
    exec (.loadEntry dt keepOk) s = .next (if keepOk then
        ((((s.advance dt).onPwr fun p => { p with phase := .loading }).putMode .load 0).onLd fun _ => { alt := s.pwr.altFirst }).onSip
          fun x => { x with sram := [], ecc := [] }
      else ((s.advance dt).onLd fun l => { l with fail1 := some (plainFail 0x0003) }).loadOver).settle := by
  show done ((s.advance dt).loadEntry keepOk) = _
  rw [done_eq, State.loadEntry, if_neg (by simp [h])]
  cases keepOk <;> rfl

/-- Settles O3: each step of the start acts in the phase that the step before leaves. -/
theorem startReachesLoad : Obligations.StartReachesLoad := by
  intro s dt
  refine ⟨?_, fun sup => ?_, fun h hat => ⟨_, execSuppliesGood_held h hat, rfl⟩, fun r1 r0 alt h h1 h2 h3 h4 => ?_,
    fun h => ⟨_, execPllLock_released h, rfl⟩, fun h hat => ?_, fun h => ⟨?_, ⟨_, execLoadEntry_locked h false, rfl, rfl, rfl⟩⟩⟩
  · by_cases h : s.pwr.phase = .held
    · exact ⟨_, execResetAssert_held h, h, rfl⟩
    · exact ⟨_, execResetAssert_live h, rfl, rfl⟩
  · by_cases h : s.pwr.phase = .held
    · exact ⟨_, execSupplyLoss_held h sup, by cases sup <;> exact h, rfl⟩
    · obtain ⟨tb, mode, vs, hexec⟩ := execSupplyLoss_live (dt := dt) h sup
      exact ⟨_, hexec, by cases sup <;> rfl, rfl⟩
  · have hgood := release_good (s := s.advance dt) r1 r0 alt h h1 h2 h3 h4
    have hexec : exec (.resetRelease dt r1 r0 alt) s = .next ((s.advance dt).release r1 r0 alt).settle := rfl
    refine ⟨fun k hk => ?_, fun hk => ?_⟩
    · rw [hgood, hk] at hexec
      refine ⟨_, hexec, but_of_frame (Frame.released ..), rfl, hk, rfl, rfl, rfl, rfl, ?_⟩
      exact resetHistory_entry ..
    · rw [hgood, hk] at hexec
      exact ⟨_, hexec, rfl, rfl, but_of_frame (K := [.pwr, .ks, .ld]) <|
        Frame.next (Frame.startFail ..) (by decide) <| Frame.next (Frame.released ..) (by decide) <| Frame.refl ..⟩
  · exact ⟨_, execPllLockTimeout_late h hat, rfl, rfl, but_of_frame (Frame.startFail ..)⟩
  · exact ⟨_, execLoadEntry_locked h true, rfl, rfl, rfl, rfl, rfl, rfl⟩

end Sys2Proof.Machine
end

section
/-! PROOF. The copy of the configuration as it is read (R89 to R95): header, sections, entries and CRC, and a copy that fails. -/
set_option Elab.async false

namespace Sys2Proof.Machine

theorem headerRead_good {s : State} {b : List Byte} (hat : s.loadAt .header = true) (hlen : b.length = 64) (hrule : headerRule b = none) :
    s.headerRead b = s.onLd (fun l => { l with
      stage := .sect, imgLen := leAt b 8 4, nsect := leAt b 12 2, rdMode := byteAt b 14, rdDiv := byteAt b 15, rdDummy := byteAt b 16
      buildId := leAt b 20 8, safSig := w32 (leAt b 32 4), pos := 64, sectIx := 0, seen := [], shadow := [] }) := by
  simp [State.headerRead, hat, hlen, hrule]

theorem headerRead_bad {s : State} {b : List Byte} {code : Nat} (hat : s.loadAt .header = true) (hlen : b.length = 64)
    (hrule : headerRule b = some code) : s.headerRead b = s.copyFail (plainFail code) := by
  simp [State.headerRead, hat, hlen, hrule]

/-- A copy that fails while the copy tried first is read gives way to the other. -/
theorem copyFail_first {s : State} (f : LoadFail) (h : s.ld.second = false) :
    s.copyFail f = (s.coldHistory f s.ld.alt).onLd (fun l => { alt := !l.alt, second := true, fail1 := some f }) := by
  have hsecond : (s.coldHistory f s.ld.alt).ld.second = false := h
  simp [State.copyFail, hsecond]

theorem sectionRead_good {s : State} {b : List Byte} (hat : s.loadAt .sect = true) (hlen : b.length = 16)
    (hid : (sectionRange (leAt b 0 2)).isSome = true) (hnew : leAt b 0 2 ∉ s.ld.seen) (hpos : 0 < leAt b 4 4) (hmax : leAt b 4 4 ≤ 16384)
    (hfits : s.ld.pos + 24 + 16 * leAt b 4 4 ≤ s.ld.imgLen) :
    s.sectionRead b = s.onLd (fun l => { l with
      stage := .entry, sectId := leAt b 0 2, count := leAt b 4 4, entryIx := 0, crc := crc32Run 0xFFFFFFFF#32 b
      reservedBad := leAt b 2 2 != 0 || leAt b 8 8 != 0, entryFail := none }) := by
  have hknown : ¬((sectionRange (leAt b 0 2)).isNone = true ∨ s.ld.seen.contains (leAt b 0 2) = true) := by
    rintro (h | h)
    · rw [Option.isNone_iff_eq_none] at h
      rw [h] at hid
      cases hid
    · exact hnew (List.contains_iff_mem.1 h)
  have hcount : ¬(leAt b 4 4 = 0 ∨ 16384 < leAt b 4 4 ∨ s.ld.imgLen < s.ld.pos + 24 + 16 * leAt b 4 4) := by omega
  simp only [State.sectionRead, hat, hlen, if_neg hknown, if_neg hcount]
  rfl

/-- What the first failing entry of a section leaves as its failure. -/
def LoadSt.failOf (l : LoadSt) (a v : Word) (code : Nat) : LoadFail :=
  { code := code, sect := some l.sectIx, entry := some l.entryIx, addr := some a.toNat, value := v.toNat }

theorem entryRead_first {s : State} {a na v nv : Word} (hat : s.loadAt .entry = true) (hfail : s.ld.entryFail = none) :
    s.entryRead a na v nv = s.onLd (fun l => { l with
      entryIx := l.entryIx + 1, stage := if l.entryIx + 1 = l.count then .crc else .entry
      crc := crc32Run l.crc (wordsBytes [a, na, v, nv])
      entryFail := (entryRule s.ld.sectId s.ld.shadow a na v nv).map (s.ld.failOf a v)
      shadow := if ((entryRule s.ld.sectId s.ld.shadow a na v nv).map (s.ld.failOf a v)).isSome then l.shadow
        else l.shadow ++ [{ addr := a.toNat, value := v, sect := l.sectIx, entry := l.entryIx }] }) := by
  simp only [State.entryRead, hat, hfail]
  rfl

theorem crcRead_good {s : State} {scrc : Word} (hat : s.loadAt .crc = true) (hfail : s.ld.entryFail = none) (hres : s.ld.reservedBad = false)
    (hcrc : ~~~ s.ld.crc = scrc) (hlast : s.ld.sectIx + 1 ≠ s.ld.nsect) :
    s.crcRead scrc 0 = s.onLd (fun l => { l with
      stage := .sect, seen := l.seen ++ [l.sectId], sectIx := l.sectIx + 1, pos := l.pos + 24 + 16 * l.count }) := by
  simp [State.crcRead, hat, hfail, hres, hcrc, hlast]

theorem crcRead_bad {s : State} {scrc : Word} (hat : s.loadAt .crc = true) (hcrc : ~~~ s.ld.crc ≠ scrc) :
    s.crcRead scrc 0 = s.copyFail (s.sectFail 0x0111) := by
  simp [State.crcRead, hat, hcrc]

/-- Settles O4: each read acts at its stage of the copy, and the first rule that is broken decides. -/
theorem copyIsRead : Obligations.CopyIsRead := by
  intro s dt
  refine ⟨fun b hat hlen => ⟨fun hrule => ?_, fun code hrule hsecond => ?_⟩, fun b hat hlen hid hnew hpos hmax hfits => ?_,
    fun a na v nv hat hfail => ?_, fun scrc hat hfail hres => ⟨fun hcrc hlast => ?_, fun hcrc hsecond => ?_⟩⟩
  · exact ⟨_, exec_next_of rfl (headerRead_good hat hlen hrule), rfl⟩
  · exact ⟨_, exec_next_of rfl ((headerRead_bad (s := s.advance dt) hat hlen hrule).trans (copyFail_first _ hsecond)), rfl, rfl, rfl⟩
  · exact ⟨_, exec_next_of rfl (sectionRead_good hat hlen hid hnew hpos hmax hfits), rfl⟩
  · refine ⟨_, exec_next_of rfl (entryRead_first hat hfail), rfl, rfl, rfl, fun hrule => ?_, fun code hrule => ?_⟩
    · simp [State.onLd, hrule]
    · simp [State.onLd, hrule, LoadSt.failOf]
  · exact ⟨_, exec_next_of rfl (crcRead_good hat hfail hres hcrc hlast), rfl⟩
  · exact ⟨_, exec_next_of rfl ((crcRead_bad (s := s.advance dt) hat hcrc).trans (copyFail_first _ hsecond)), rfl⟩

end Sys2Proof.Machine
end

section
/-! PROOF. Loss and return of REFCLK, the calibration of the edge placement units (R69 to R71), and the skew of adjacent domains (R46). -/
set_option Elab.async false

namespace Sys2Proof.Machine

theorem running_iff (s : State) : s.running = true ↔ s.pwr.phase = .running ∧ s.mode.mode ≠ .freeze := by
  simp [State.running]

theorem refclkLoss_running {s : State} (off : Bool) (hrun : s.running = true) (hhold : s.tbs.holdover = false) :
    s.refclkLoss off = ((s.onTbs (fun t => { t with holdover := true, holdSince := s.tb, lossAt := s.tb })).timeRec s.tb 0x0201 (b2n off)
      s.tb 0).setStop 5 true := by
  obtain ⟨hphase, hmode⟩ := (running_iff s).1 hrun
  simp only [State.refclkLoss, hphase, if_neg hmode, hhold]
  rfl

theorem refclkLoss_starting {s : State} (off : Bool) (h : s.pwr.phase = .released ∨ s.pwr.phase = .locked) :
    s.refclkLoss off = ((s.startFail 0x0002).onClk (fun c => { c with counting := false })).onTbs (fun t => { t with lock := false }) := by
  rcases h with h | h <;> simp only [State.refclkLoss, h]

theorem refclkBack_holdover {s : State} (hrun : s.running = true) (hhold : s.tbs.holdover = true) (hat : s.tbs.lossAt + 10000000 ≤ s.tb) :
    s.refclkBack = ((s.onTbs (fun t => { t with holdover := false })).timeRec s.tb 0x0202 0 (s.tb - s.tbs.holdSince) 0).setStop 5 false := by
  simp [State.refclkBack, hrun, hhold, hat]

theorem epuCal_short {s : State} {u : Fin 11} (hrun : s.running = true) (hnew : s.tbs.calFail.getLsbD u.val = false) :
    s.epuCal u false = (s.onTbs (fun t => { t with calFail := t.calFail ||| BitVec.ofNat 11 (2 ^ u.val) })).timeRec s.tb 0x0206 u.val s.tb 0 := by
  obtain ⟨hphase, hmode⟩ := (running_iff s).1 hrun
  rw [State.epuCal, hphase, hnew]
  simp [hmode]

theorem epuCal_spans (s : State) (u : Fin 11) : s.epuCal u true = s := by
  simp [State.epuCal]

/-- Settles O6: each event of the reference clock in its phase of the device. -/
theorem referenceClockEvents : Obligations.ReferenceClockEvents := by
  intro s dt
  refine ⟨fun off hrun hhold => ?_, fun off h => ⟨_, exec_next_of rfl (refclkLoss_starting off h), rfl, rfl, rfl, rfl⟩,
    fun hrun hhold hat => ?_, fun u hrun => ⟨fun hnew => ?_, ⟨_, exec_next_of rfl (epuCal_spans ..), rfl⟩⟩⟩
  · refine ⟨_, exec_next_of rfl (refclkLoss_running (s := s.advance dt) off hrun hhold), ?_,
      (Wrote.next (Frame.setStop ..) (by decide) (Wrote.timeRec_one (run_phase hrun))).settle⟩
    rw [but_of_frame (K := [.mode, .recs, .tbs]) <| Frame.next (Frame.setStop ..) (by decide) <| Frame.next (Frame.timeRec ..) (by decide) <|
      Frame.next (Frame.onTbs ..) (by decide) <| Frame.refl ..]
    simp [State.merge, State.setStop]
  · refine ⟨_, exec_next_of rfl (refclkBack_holdover (s := s.advance dt) hrun hhold hat), ?_,
      (Wrote.next (Frame.setStop ..) (by decide) (Wrote.timeRec_one (run_phase hrun))).settle⟩
    rw [but_of_frame (K := [.mode, .recs, .tbs]) <| Frame.next (Frame.setStop ..) (by decide) <| Frame.next (Frame.timeRec ..) (by decide) <|
      Frame.next (Frame.onTbs ..) (by decide) <| Frame.refl ..]
    simp [State.merge, State.setStop]
  · refine ⟨_, exec_next_of rfl (epuCal_short (s := s.advance dt) hrun hnew), ?_, (Wrote.timeRec_one (run_phase hrun)).settle⟩
    rw [but_of_frame (K := [.recs, .tbs]) <| Frame.next (Frame.timeRec ..) (by decide) <| Frame.next (Frame.onTbs ..) (by decide) <| Frame.refl ..]
    simp [State.merge]

theorem skewLimit_tenth {s : State} {p : Fin 9} (hrun : s.running = true) (hten : 10 ≤ s.tick.limCount[p]) (hnew : s.tick.limNoted[p] = false) :
    s.skewLimit p = ((s.onTick (fun t => { t with
      held := t.held.set p true, limNoted := t.limNoted.set p true, holdoff := true })).setStop 3 true).skewRec p true s.tick.limAt[p] := by
  have hcond : (s.running && decide (10 ≤ s.tick.limCount[p]) && !s.tick.limNoted[p]) = true := by rw [hrun, hnew]; simpa using hten
  rw [State.skewLimit, if_pos hcond]

theorem skewRec_event (s : State) (p : Fin 9) (lim : Bool) (time : Nat) :
    ∃ detail value, s.skewRec p lim time = s.event time Unit.dev 0x0106 detail value := by
  unfold State.skewRec
  exact ⟨_, _, rfl⟩

/-- A held pair stays held until it has been below both limits for 1 s. -/
def State.pairStays (s : State) (p : Fin 9) : Bool :=
  s.tick.held[p] && !(match s.tick.belowSince[p] with | some t => decide (t + 1000000000 ≤ s.tb) | none => false)

theorem skewFree_holdoff {s : State} (hrun : s.running = true) (hoff : s.tick.holdoff = true) :
    s.skewFree = if (List.finRange 9).any s.pairStays then s.onTick (fun t => { t with held := Vector.ofFn s.pairStays })
      else ((s.onTick (fun t => { t with held := Vector.ofFn s.pairStays })).onTick (fun t => { t with holdoff := false })).setStop 3 false := by
  unfold State.skewFree
  rw [if_neg (by simp [hrun, hoff])]
  rfl

theorem pairStays_held {s : State} {p : Fin 9} (hheld : s.tick.held[p] = true) (hnone : s.tick.belowSince[p] = none) :
    s.pairStays p = true := by
  rw [State.pairStays, hheld, hnone]
  rfl

theorem pairStays_free {s : State} {p : Fin 9}
    (h : s.tick.held[p] = true → ∃ since, s.tick.belowSince[p] = some since ∧ since + 1000000000 ≤ s.tb) : s.pairStays p = false := by
  cases hp : s.tick.held[p] with
  | false => rw [State.pairStays, hp, Bool.false_and]
  | true =>
    obtain ⟨since, hsince, hle⟩ := h hp
    rw [State.pairStays, hp, hsince]
    simp only [decide_eq_true hle, Bool.not_true, Bool.and_false]

theorem exec_domainSkewLimit {s : State} {dt : Nat} {p : Fin 9} (hrun : s.running = true) (hten : 10 ≤ s.tick.limCount[p])
    (hnew : s.tick.limNoted[p] = false) : ∃ t, exec (.domainSkewLimit dt p) s = .next t ∧
      t.but s = { s.advance dt with
        tick := { s.tick with held := s.tick.held.set p true, limNoted := s.tick.limNoted.set p true, holdoff := true }
        mode := { s.mode with stop := s.mode.stop ||| 8 }, recs := t.recs } ∧
      ∃ detail value, Wrote s t [evtOf s.tick.limAt[p] Unit.dev 0x0106 detail value] := by
  have hlimit := skewLimit_tenth (s := s.advance dt) hrun hten hnew
  obtain ⟨detail, value, hrec⟩ := skewRec_event (((s.advance dt).onTick (fun t => { t with
    held := t.held.set p true, limNoted := t.limNoted.set p true, holdoff := true })).setStop 3 true) p true s.tick.limAt[p]
  refine ⟨_, exec_next_of rfl (hlimit.trans hrec), ?_, detail, value, Wrote.settle (Wrote.event_one (run_phase hrun))⟩
  rw [but_of_frame (K := [.mode, .recs, .tick]) <| Frame.next (Frame.event ..) (by decide) <| Frame.next (Frame.setStop ..) (by decide) <|
    Frame.next (Frame.onTick ..) (by decide) <| Frame.refl ..]
  simp [State.merge, State.setStop]

/-- Settles O11: the tenth reading holds the pair, and the hold-off ends with the last pair that stays. -/
theorem domainSkewStops : Obligations.DomainSkewStops := by
  intro s dt hrun
  refine ⟨fun p hten hnew => exec_domainSkewLimit hrun hten hnew, fun hoff => ⟨fun hall => ?_, fun p hheld hnone => ?_⟩⟩
  · have hnone : ∀ p, (s.advance dt).pairStays p = false := fun p => pairStays_free (hall p)
    have hany : (List.finRange 9).any (s.advance dt).pairStays = false := by simp [hnone]
    have hvec : Vector.ofFn (s.advance dt).pairStays = Vector.replicate 9 false := by
      ext i hi
      simp [hnone]
    have hfree := skewFree_holdoff (s := s.advance dt) hrun hoff
    rw [hany, hvec] at hfree
    exact ⟨_, exec_next_of rfl hfree, rfl⟩
  · have hstays : (s.advance dt).pairStays p = true := pairStays_held hheld hnone
    have hany : (List.finRange 9).any (s.advance dt).pairStays = true := List.any_eq_true.2 ⟨p, List.mem_finRange p, hstays⟩
    have hfree := skewFree_holdoff (s := s.advance dt) hrun hoff
    rw [hany] at hfree
    exact ⟨_, exec_next_of rfl hfree, by simpa [State.onTick] using hstays, hoff, rfl⟩

end Sys2Proof.Machine
end

section
/-! PROOF. Requests that write a register (R404, R405, R410, R413): what an acknowledged write leaves, and what a refused one leaves. -/
set_option Elab.async false

namespace Sys2Proof.Machine

/-- An acknowledged write whose effect is `u`: the parts of `u`, the answer kept and the lease renewed. -/
theorem exec_write_ack {c : Instr} {s u : State} {dt : Nat} {o : Origin} {addr : Option Nat} {f : Ctx → State → Res} {ws : List Word}
    (hexec : exec c s = done ((s.advance dt).entry o 2 addr f (ws := ws))) (hw : s.writes o = true)
    (hf : f ((s.advance dt).ctx o 2) (s.advance dt) = ack u) (hc : u.cp = s.cp := by rfl)
    (hk : u.clk = (s.advance dt).clk := by rfl) :
    exec c s = .next ({ u with cp := (s.advance dt).cpWrote o } : State).settle :=
  exec_next_of hexec (write_done s dt o addr f ws u hw hf hc hk)

/-- A refused write that leaves `u` beside its refusal. -/
theorem exec_write_refused {c : Instr} {s u : State} {dt : Nat} {o : Origin} {addr : Option Nat} {f : Ctx → State → Res} {ws : List Word}
    {st detail : Nat} (hexec : exec c s = done ((s.advance dt).entry o 2 addr f (ws := ws))) (hw : s.writes o = true)
    (hf : f ((s.advance dt).ctx o 2) (s.advance dt) = nak u st detail) (hv : isViolation st = true := by rfl)
    (hu : u.pwr = s.pwr := by rfl) (hg : u.regs = s.regs := by rfl) (hr : u.recs = s.recs := by rfl) (hc : u.cp = s.cp := by rfl) :
    ∃ v, exec c s = .next v.settle ∧ Frame [.recs, .cp] u v ∧ Refused s v.settle dt o 2 st detail := by
  obtain ⟨hserves, hpair⟩ := writes_split hw
  obtain ⟨hframe, hrefused⟩ := entry_refused s dt o 2 addr f 1 false ws [] false u st detail hserves (.inr (.inr hpair)) hf hv
    (by rw [hu]; exact serves_phase hserves) hg hr hc
  exact ⟨_, exec_next_of hexec rfl, hframe, hrefused⟩

/-- A refused write that changes nothing else. -/
theorem exec_write_refused_only {c : Instr} {s : State} {dt : Nat} {o : Origin} {addr : Option Nat} {f : Ctx → State → Res} {ws : List Word}
    {st detail : Nat} (hexec : exec c s = done ((s.advance dt).entry o 2 addr f (ws := ws))) (hw : s.writes o = true)
    (hf : f ((s.advance dt).ctx o 2) (s.advance dt) = nak (s.advance dt) st detail) (hv : isViolation st = true := by rfl) :
    ∃ t, exec c s = .next t ∧ t.but s = { s.advance dt with cp := t.cp, recs := t.recs } ∧ Refused s t dt o 2 st detail := by
  obtain ⟨v, hv, hframe, hrefused⟩ := exec_write_refused hexec hw hf hv
  exact ⟨_, hv, but_settle_of_frame hframe, hrefused⟩

/-- An entry that is served leaves what its handler leaves but for the answer, the lease and a record. -/
theorem entry_frame {s u : State} {o : Origin} {op : Nat} {addr : Option Nat} {f : Ctx → State → Res} {n : Nat} {raw : Bool} {ws : List Word}
    {args : List Byte} {maint : Bool} {age : Nat} {r : Reply} (h : s.serves o = true) (hp : op ≠ 2 ∨ raw = true ∨ s.pairOf o = none)
    (hf : f { s.ctx o op with stamp := s.tb - age } s = (u, r)) : Frame [.recs, .cp] u (s.entry o op addr f n raw ws args maint age) := by
  by_cases hr : r.status = 0
  · rw [State.entry_ack s o op addr f n raw ws args maint age u r h hp hf hr]
    exact Frame.next (Frame.onCp u fun _ => u.cpAfter o op r) (by decide) (Frame.refl ..)
  · rw [State.entry_nak s o op addr f n raw ws args maint age u r h hp hf hr]
    exact Frame.next (Frame.onCp ..) (by decide) (Frame.next (Frame.settleReply ..) (by decide) (Frame.refl ..))

end Sys2Proof.Machine
end

section
/-! PROOF. The clear commands (R48, R58, R167, R201, R315, R391, R415, R434). -/
set_option Elab.async false

namespace Sys2Proof.Machine

section
variable {s : State} {c : Ctx}

theorem doTickClr_one (h : s.may true c.o = true) : doTickClr c s 1 = ack (s.onTick fun t => { t with max := 0, ovrCnt := 0 }) :=
  needRights_may' true c s _ h

theorem doSntClr_one {a : Fin 10} (h : s.may true c.o = true) (ha : s.alloc10 a = true) :
    doSntClr a c s 1 = ack (s.modSnt a fun q => { q with least := none, slackCnt := 0, lateCnt := 0 }) := by
  unfold doSntClr
  rw [needRights_may' true c s _ h, ha]
  rfl

theorem doRcnClr_one {n : Fin 6} (h : s.may true c.o = true) (ha : s.axAlloc n = true) :
    doRcnClr n c s 1 = ack (s.modSns n fun q => { q with shiftCnt := 0, predCnt := 0 }) := by
  unfold doRcnClr
  rw [needRights_may' true c s _ h, ha]
  rfl

theorem doLimClr_both {x : Fin 4} (h : s.may true c.o = true) (ha : s.auxAlloc x = true) :
    doLimClr x c s 3 = ack ((s.modLim x false fun l => { l with inhibit := false, changes := [] }).modLim x true fun l =>
      { l with inhibit := false, changes := [] }) := by
  unfold doLimClr
  rw [needRights_may' true c s _ h, ha]
  rfl

/-- Both limits of an axis cleared at once. -/
theorem modLim_both (s : State) (x : Fin 4) (f : LimSt → LimSt) :
    (s.modLim x false f).modLim x true f = s.modAux x fun a => { a with posi := f a.posi, neg := f a.neg } := by
  simp [State.modLim, State.modAux, State.onAux, vset]

theorem doPortErrClr_one {p : Fin 3} (h : s.may true c.o = true) :
    doPortErrClr p c s 1 = ack (s.onCp fun x => { x with ports := vset x.ports p fun q => { q with viol := 0, malf := 0 } }) :=
  needRights_may' true c s _ h

theorem doLinkErrClr_one {k : Fin 6} (h : s.may true c.o = true) :
    doLinkErrClr k c s 1 = ack (s.modLink k fun l => { l with exch := 0, bad := 0, tc := 0, downs := 0 }) :=
  needRights_may' true c s _ h

theorem doCanCmd_clear {n : Fin 2} (h : s.may true c.o = true) :
    doCanCmd n c s 2 = if s.regs.CANn_CFG_BIND n = 0 then nak s St.state
      else ack (s.modCan n fun x => { x with overrun := 0, unbound := 0, sameIds := 0, busOffs := 0 }) := by
  have h0 : bit (2#32) 0 = false := by decide
  have h1 : bit (2#32) 1 = true := by decide
  unfold doCanCmd
  rw [needRights_may' true c s _ h]
  simp [h0, h1]

/-- CHOPPER_CLEAR: the legs named that are not active. -/
def State.chopCleared (s : State) (w : Word) : State :=
  (s.onGd (fun g => { g with chop := Vector.ofFn (fun k : Fin 4 =>
    if bit w k.val && !s.chopActive k then { g.chop[k] with fault := false } else g.chop[k]) })).onFreeIx (· + 4)

theorem doChopClear_eq {w : Word} (h : s.may true c.o = true) :
    doChopClear c s w = if (List.finRange 4).any (fun k => bit w k.val && (s.chopActive k || !s.regs.GD_CHPn_MAP_EN k))
      then nak (s.chopCleared w) St.state else ack (s.chopCleared w) := by
  unfold doChopClear
  rw [needRights_may' true c s _ h]
  rfl

end

theorem chopActive_direct {s : State} {k : Fin 4} (h : Nat.testBit s.regs.GD_HB_MODE (s.regs.GD_CHPn_MAP_HB k) = false) :
    s.chopActive k = false := by
  simp [State.chopActive, State.chopLink, h]

theorem exec_portErrClr {s : State} {dt : Nat} {o : Origin} {p : Fin 3} (hw : s.writes o = true) (hm : s.may true o = true) :
    exec (.portErrClr dt o p 1) s = .next ({ s.advance dt with
      cp := ((s.advance dt).onCp (fun x => { x with ports := vset x.ports p (fun q => { q with viol := 0, malf := 0 }) })).cpWrote o } : State).settle := by
  have hwrite := write_ack s dt o (some (Reg.CP_Pp_CLR p)) (fun c s => doPortErrClr p c s 1) [1] _ hw
    (doPortErrClr_one (s := s.advance dt) (c := (s.advance dt).ctx o 2) hm)
  exact exec_next_of rfl (hwrite.trans rfl)

theorem exec_canClr {s : State} {dt : Nat} {o : Origin} {n : Fin 2} (hw : s.writes o = true) (hm : s.may true o = true) :
    (s.regs.CANn_CFG_BIND n ≠ 0 → ∃ t, exec (.canClr dt o n) s = .next t ∧
      t.but s = { s.advance dt with
        can := vset s.can n (fun x => { x with overrun := 0, unbound := 0, sameIds := 0, busOffs := 0 }), cp := (s.advance dt).cpWrote o }) ∧
    (s.regs.CANn_CFG_BIND n = 0 → ∃ t, exec (.canClr dt o n) s = .next t ∧
      t.but s = { s.advance dt with cp := t.cp, recs := t.recs } ∧ Refused s t dt o 2 St.state 0) := by
  have hdo := doCanCmd_clear (s := s.advance dt) (c := (s.advance dt).ctx o 2) (n := n) hm
  refine ⟨fun hon => ?_, fun hoff => exec_write_refused_only rfl hw (hdo.trans (if_pos hoff))⟩
  exact ⟨_, exec_write_ack rfl hw (hdo.trans (if_neg hon)), rfl⟩

theorem exec_chopperClear {s : State} {dt : Nat} {o : Origin} {w : Word} (hw : s.writes o = true) (hm : s.may true o = true) :
    ∃ v, exec (.chopperClear dt o w) s = .next v.settle ∧ Frame [.recs, .cp] ((s.advance dt).chopCleared w) v := by
  obtain ⟨hserves, hpair⟩ := writes_split hw
  have hdo := doChopClear_eq (s := s.advance dt) (c := (s.advance dt).ctx o 2) (w := w) hm
  refine ⟨_, exec_next_of rfl rfl, ?_⟩
  split at hdo
  · exact entry_frame hserves (.inr (.inr hpair)) hdo
  · exact entry_frame hserves (.inr (.inr hpair)) hdo

/-- In direct mode no leg is active: every leg named is cleared, and the write is acknowledged. -/
theorem exec_chopperClear_direct {s : State} {dt : Nat} {o : Origin} {w : Word} (hw : s.writes o = true) (hm : s.may true o = true)
    (hmap : ∀ k : Fin 4, bit w k.val = true → s.regs.GD_CHPn_MAP_EN k = true)
    (hdirect : ∀ k : Fin 4, bit w k.val = true → Nat.testBit s.regs.GD_HB_MODE (s.regs.GD_CHPn_MAP_HB k) = false) :
    ∃ t, exec (.chopperClear dt o w) s = .next t ∧
      t.but s = { s.advance dt with
        gd := { s.gd with chop := Vector.ofFn (fun k : Fin 4 => if bit w k.val then { s.gd.chop[k] with fault := false } else s.gd.chop[k]) }
        freeIx := s.freeIx + 4, cp := (s.advance dt).cpWrote o } := by
  have hactive : ∀ k : Fin 4, bit w k.val = true → (s.advance dt).chopActive k = false := fun k hk => chopActive_direct (hdirect k hk)
  have hnone : (List.finRange 4).any (fun k => bit w k.val && ((s.advance dt).chopActive k || !(s.advance dt).regs.GD_CHPn_MAP_EN k)) = false := by
    rw [List.any_eq_false]
    intro k _
    by_cases hk : bit w k.val = true
    · simp [hk, hactive k hk, hmap k hk]
    · simp [hk]
  have hvec : (Vector.ofFn fun k : Fin 4 => if bit w k.val && !(s.advance dt).chopActive k then { s.gd.chop[k] with fault := false } else s.gd.chop[k]) =
      Vector.ofFn fun k : Fin 4 => if bit w k.val then { s.gd.chop[k] with fault := false } else s.gd.chop[k] := by
    congr 1
    funext k
    by_cases hk : bit w k.val = true
    · simp [hk, hactive k hk]
    · simp [hk]
  have hdo := doChopClear_eq (s := s.advance dt) (c := (s.advance dt).ctx o 2) (w := w) hm
  rw [hnone] at hdo
  refine ⟨_, exec_write_ack rfl hw hdo, ?_⟩
  rw [← hvec]
  rfl

/-- Settles O12: each handler clears its own part, and the entry adds the answer and the lease. -/
theorem clearCommandsClear : Obligations.ClearCommandsClear := by
  intro s dt o hw hm
  refine ⟨⟨_, exec_write_ack rfl hw (doTickClr_one (s := s.advance dt) (c := (s.advance dt).ctx o 2) hm), rfl⟩, fun a ha => ⟨_, exec_write_ack rfl hw (doSntClr_one (s := s.advance dt) (c := (s.advance dt).ctx o 2) hm ha), rfl⟩,
    fun n ha => ⟨_, exec_write_ack rfl hw (doRcnClr_one (s := s.advance dt) (c := (s.advance dt).ctx o 2) hm ha), rfl⟩, fun x ha => ?_, fun p => ⟨_, exec_portErrClr hw hm, rfl⟩,
    fun k => ⟨_, exec_write_ack rfl hw (doLinkErrClr_one (s := s.advance dt) (c := (s.advance dt).ctx o 2) hm), rfl⟩, fun n => exec_canClr hw hm, fun w hmap => ⟨?_, fun hdirect => ?_⟩⟩
  · exact ⟨_, exec_write_ack rfl hw ((doLimClr_both (s := s.advance dt) (c := (s.advance dt).ctx o 2) hm ha).trans (congrArg ack (modLim_both (s.advance dt) ..))), rfl⟩
  · obtain ⟨v, hexec, hframe⟩ := exec_chopperClear (dt := dt) (w := w) hw hm
    exact ⟨_, hexec, hframe.keep .freeIx (by decide), hframe.keep .gd (by decide)⟩
  · exact exec_chopperClear_direct hw hm hmap hdirect

end Sys2Proof.Machine
end

section
/-! PROOF. Requests for a mode (R109, R111 to R115). -/
set_option Elab.async false

namespace Sys2Proof.Machine

section
variable {s : State} {c : Ctx}

theorem doModeReq_drive (h : s.holds c.o = true) :
    doModeReq c s 1 =
      if s.mode.mode ≠ .hold then nak (s.putBlock ((s.setStop 1 false).blockBits + 0x40)) St.state
      else if (s.setStop 1 false).blockBits ≠ 0 then nak (s.putBlock (s.setStop 1 false).blockBits) St.state
      else ack ((s.putBlock 0).onMode fun m => { m with
        drivePending := some (m.drivePending.getD { port := (clsPort c.o.cls).val, at' := s.tb, tested := false }) }) :=
  needRights_may' false c s _ (may_of_holds h)

theorem doModeReq_hold (h : s.holds c.o = true) :
    doModeReq c s 2 = if s.mode.mode = .drive ∨ s.mode.mode = .limp then ack (s.setStop 6 true) else nak s St.state :=
  needRights_may' false c s _ (may_of_holds h)

theorem doModeReq_limp (h : s.holds c.o = true) :
    doModeReq c s 3 = if s.mode.mode = .limp ∧ s.degr = 0 then
        ack (s.onMode fun m => { m with limpAck := some (m.limpAck.getD (clsPort c.o.cls).val) })
      else nak s St.state :=
  needRights_may' false c s _ (may_of_holds h)

end

theorem exec_driveRequest_refused {s : State} {dt : Nat} {o : Origin} (hw : s.writes o = true) (ho : s.holds o = true)
    (h : s.mode.mode ≠ .hold ∨ (s.setStop 1 false).blockBits ≠ 0) : ∃ t, exec (.driveRequest dt o) s = .next t ∧
      t.but s = { s.advance dt with
        mode := { s.mode with block := BitVec.ofNat 8 ((s.setStop 1 false).blockBits + if s.mode.mode = .hold then 0 else 0x40) }
        cp := t.cp, recs := t.recs } ∧ Refused s t dt o 2 St.state 0 := by
  have hdo : doModeReq ((s.advance dt).ctx o 2) (s.advance dt) 1 =
      nak ((s.advance dt).putBlock ((s.setStop 1 false).blockBits + if s.mode.mode = .hold then 0 else 0x40)) St.state := by
    rw [doModeReq_drive ho]
    by_cases hhold : s.mode.mode = .hold
    · have hblock := h.resolve_left (not_not_intro hhold)
      rw [if_neg (by exact not_not_intro hhold), if_pos (by exact hblock), if_pos hhold]
      rfl
    · rw [if_pos (by exact hhold), if_neg hhold]
      rfl
  obtain ⟨v, hexec, hframe, hrefused⟩ := exec_write_refused (c := .driveRequest dt o) (f := fun c s => doModeReq c s 1) rfl hw hdo
  refine ⟨_, hexec, ?_, hrefused⟩
  have hmode : v.mode = _ := hframe.keep .mode (by decide)
  rw [but_of_frame (K := [.recs, .cp, .mode]) (Frame.next hframe (by decide) (Frame.next (Frame.putBlock ..) (by decide) (Frame.refl ..)))]
  simp [State.merge, hmode, State.putBlock]

/-- Settles O16: the request register's handler by its three commands. -/
theorem modeRequests : Obligations.ModeRequests := by
  intro s dt o hw ho
  have hhold := doModeReq_hold (s := s.advance dt) (c := (s.advance dt).ctx o 2) ho
  have hlimp := doModeReq_limp (s := s.advance dt) (c := (s.advance dt).ctx o 2) ho
  refine ⟨fun hmode hblock => ?_, fun h => exec_driveRequest_refused hw ho h,
    fun h => ⟨_, exec_write_ack (f := fun c s => doModeReq c s 2) rfl hw (hhold.trans (if_pos h)), rfl⟩,
    fun hd hl => exec_write_refused_only (f := fun c s => doModeReq c s 2) rfl hw (hhold.trans (if_neg (not_or.2 ⟨hd, hl⟩))),
    fun hmode hdegr => ⟨_, exec_write_ack (f := fun c s => doModeReq c s 3) rfl hw (hlimp.trans (if_pos ⟨hmode, hdegr⟩)), rfl⟩,
    fun h => exec_write_refused_only (f := fun c s => doModeReq c s 3) rfl hw (hlimp.trans (if_neg fun k => h.elim (· k.1) (· k.2)))⟩
  have hdrive := doModeReq_drive (s := s.advance dt) (c := (s.advance dt).ctx o 2) ho
  rw [if_neg (by exact not_not_intro hmode), if_neg (by exact not_not_intro hblock)] at hdrive
  exact ⟨_, exec_write_ack (f := fun c s => doModeReq c s 1) rfl hw hdrive, rfl⟩

end Sys2Proof.Machine
end

section
/-! PROOF. The DC_CRIT clause of O29 compares the order of causes of the state after the command on one side alone. -/
set_option Elab.async false

namespace Sys2Proof.Machine

/-- A device in DRIVE whose AX0 has had its DC link above the critical limit since the beginning, with no cause of stopping yet. -/
def dcHighSince0 : State :=
  (Tests.rig .drive).modCmd 0 (fun c => { c with hiSince := some 0 })

/-- The causes of stopping, in their order, after a command. -/
def stopsAfter (c : Instr) (s : State) : List Nat :=
  match exec c s with
  | .next t => t.mode.stopSeen
  | _ => []

theorem stopsAfter_next {c : Instr} {s t : State} (h : exec c s = .next t) : stopsAfter c s = t.mode.stopSeen := by
  rw [stopsAfter, h]

/-- The stop cause that DC_CRIT sets joins the order of the causes (R124). -/
theorem stopsAfter_dcCrit : stopsAfter (.dcCrit 0 0 true) dcHighSince0 = [0] := by decide +kernel

/-- Refutes O29: DC_CRIT sets stop cause 0, and the step brings the order of the causes of stopping up to date with it. The clause asks that the
state after it, with the order of causes as it was before, has the mode of the state after it as it stands: it holds of no state in which
the cause is new. -/
theorem not_axisTimers : ¬ Obligations.AxisTimers := by
  intro h
  obtain ⟨-, -, -, -, -, -, -, -, -, -, hcrit, -⟩ := h dcHighSince0 0 0 (by decide +kernel)
  obtain ⟨t, hexec, hbut, -⟩ := hcrit true 0 (by decide +kernel) (by decide +kernel) (by decide +kernel) (by decide +kernel)
  have horder : dcHighSince0.mode.stopSeen = t.mode.stopSeen := by
    have hmode := congrArg (fun u : State => u.mode.stopSeen) hbut
    exact hmode
  rw [← stopsAfter_next hexec, stopsAfter_dcCrit] at horder
  exact absurd horder (by decide +kernel)

end Sys2Proof.Machine
end

section
/-! PROOF. The mode of a device stands or becomes SAFE: what every operation of the safety channels leaves of it (R333). -/
set_option Elab.async false

namespace Sys2Proof.Machine

/-- The device is in the mode in which it was, or in SAFE. -/
inductive ModeOrSafe (s t : State) : Prop
  | kept (h : t.mode.mode = s.mode.mode)
  | safe (h : t.mode.mode = .safe)

theorem ModeOrSafe.mode_eq {s t : State} (h : ModeOrSafe s t) : t.mode.mode = s.mode.mode ∨ t.mode.mode = .safe := by
  rcases h with hkept | hsafe
  · exact .inl hkept
  · exact .inr hsafe

theorem ModeOrSafe.refl (s : State) : ModeOrSafe s s := .kept rfl

theorem ModeOrSafe.trans {s t u : State} (h : ModeOrSafe s t) (k : ModeOrSafe t u) : ModeOrSafe s u := by
  rcases k with hk | hk
  · rcases h with hh | hh
    · exact .kept (hk.trans hh)
    · exact .safe (hk.trans hh)
  · exact .safe hk

/-- What does not touch the mode leaves it. -/
theorem ModeOrSafe.of_frame {K : List StPart} {s t : State} (F : Frame K s t) (h : .mode ∉ K) : ModeOrSafe s t :=
  .kept (congrArg ModeSt.mode (F.keep .mode h))

theorem ModeOrSafe.next {K : List StPart} {s t u : State} (F : Frame K t u) (hm : .mode ∉ K) (h : ModeOrSafe s t) : ModeOrSafe s u :=
  h.trans (.of_frame F hm)

theorem ModeOrSafe.ite {s t u : State} {c : Prop} [Decidable c] (h : ModeOrSafe s t) (k : ModeOrSafe s u) : ModeOrSafe s (if c then t else u) := by
  split
  · exact h
  · exact k

theorem ModeOrSafe.foldl {β : Type} {g : State → β → State} (h : ∀ s b, ModeOrSafe s (g s b)) (l : List β) (s : State) : ModeOrSafe s (l.foldl g s) := by
  induction l generalizing s with
  | nil => exact .refl s
  | cons b l ih => exact (h s b).trans (ih (g s b))

theorem modeOrSafe_changeMode_safe (s : State) (cause detail flags : Nat) : ModeOrSafe s (s.changeMode .safe cause detail flags) := by
  refine .safe ?_
  simp only [State.changeMode, reduceCtorEq, if_false]
  exact congrArg ModeSt.mode ((Frame.imgAbandon _).keep .mode (by decide) |>.trans ((Frame.emit ..).keep .mode (by decide)))

theorem modeOrSafe_enterSafe (s : State) (cause action flags : Nat) : ModeOrSafe s (s.enterSafe cause action flags) := by
  have hsafe (u : State) : ModeOrSafe s ((s.onSaf (fun x => { x with first := cause })).changeMode .safe 0x0507 (cause + action * 0x10000) flags).commitAbort :=
    .next (Frame.commitAbort _) (by decide) (.trans (.of_frame (Frame.onSaf ..) (by decide)) (modeOrSafe_changeMode_safe ..))
  unfold State.enterSafe
  split
  case h_5 => exact .refl s
  all_goals exact hsafe s

theorem modeOrSafe_safAct (s : State) (obs b c : Bool) (cause stamp : Nat) : ModeOrSafe s (s.safAct obs b c cause stamp) := by
  unfold State.safAct
  refine .ite ?_ (.refl s)
  have hheard : ModeOrSafe s (if (s.latch cause stamp).heard c then (s.latch cause stamp).enterSafe cause (s.actionOf cause) else s.latch cause stamp) :=
    .trans (.of_frame (Frame.latch ..) (by decide)) (.ite (modeOrSafe_enterSafe ..) (.refl _))
  refine .ite (.next (Frame.pathAct ..) (by decide) hheard) (hheard.trans (.of_frame (Frame.foldl _ _ (K := [.recs, .snt, .ax, .gd, .cmd, .aux, .saf]) (fun t k => ?_) _) (by decide)))
  have hcobalt : Frame [.recs, .snt, .ax, .gd, .cmd, .aux, .saf] t (if c then t.ss1Begin false k else t) := .ite (Frame.ss1Begin ..) (.refl ..)
  exact .ite (hcobalt.trans (Frame.ss1Begin ..)) hcobalt

theorem modeOrSafe_safEval (s : State) (bronze : Bool) : ModeOrSafe s (s.safEval bronze) := by
  unfold State.safEval
  refine .trans (.of_frame (Frame.modView s bronze _) (by decide)) (.foldl (fun t c => ?_) _ _)
  exact .trans (.ite (.of_frame (Frame.safRec ..) (by decide)) (.refl t)) (modeOrSafe_safAct ..)

theorem modeOrSafe_chanFault (s : State) (sub : Nat) (b c bronze : Bool) : ModeOrSafe s (s.chanFault sub b c bronze) :=
  .ite (.refl s) (.trans (.of_frame (Frame.safRec ..) (by decide)) (modeOrSafe_safAct ..))

theorem modeOrSafe_soFault (s : State) (bronze : Bool) (k : Fin 4) (kind mv : Nat) : ModeOrSafe s (s.soFault bronze k kind mv) := by
  unfold State.soFault
  refine .ite (.refl s) (.trans ?_ (modeOrSafe_safAct ..))
  have hoff : ModeOrSafe s ((s.modOut k (fun o => if bronze then { o with faultB := true } else { o with faultC := true })).soOff bronze) :=
    .trans (.of_frame (Frame.modOut ..) (by decide)) (.of_frame (Frame.soOff ..) (by decide))
  exact .ite hoff (.next (Frame.safRec ..) (by decide) hoff)

theorem modeOrSafe_edmFault (s : State) (bronze : Bool) (k : Fin 4) (kind : Nat) : ModeOrSafe s (s.edmFault bronze k kind) :=
  .trans (.of_frame (Frame.onFreeIx ..) (by decide)) (modeOrSafe_soFault ..)

theorem modeOrSafe_soEval (s : State) : ModeOrSafe s s.soEval := by
  unfold State.soEval
  refine .ite (.of_frame (Frame.soOff ..) (by decide)) (.trans (.trans (.of_frame (Frame.soOff ..) (by decide)) (.of_frame (Frame.soOff ..) (by decide))) (.foldl (fun t k => ?_) _ _))
  exact .ite (.ite (.trans (modeOrSafe_edmFault ..) (modeOrSafe_edmFault ..)) (.of_frame (Frame.soOn ..) (by decide))) (.refl t)

theorem modeOrSafe_safStart (s : State) : ModeOrSafe s s.safStart := by
  unfold State.safStart
  refine .next (Frame.mirror _) (by decide) (.trans ?_ (modeOrSafe_soEval _))
  refine .trans (.trans ?_ (modeOrSafe_safEval _ false)) (modeOrSafe_safEval _ true)
  refine .trans ?_ (.ite (modeOrSafe_chanFault ..) (.refl _))
  refine .next (Frame.onGd ..) (by decide) (.trans (.of_frame (Frame.onSaf s _) (by decide)) (.foldl (fun t p => ?_) _ _))
  exact .trans (.of_frame (Frame.pairWatch ..) (by decide)) (.of_frame (Frame.pairWatch ..) (by decide))

end Sys2Proof.Machine
end

section
/-! PROOF. HOLD entry (R96, R97, R110). -/
set_option Elab.async false

namespace Sys2Proof.Machine

/-- The shadow in force: the registers, the copy's build, length and signature, the phase and the modulator clocks. -/
def State.inForce (s : State) : State :=
  (((s.onRegs (fun _ => shadowRegs s.ld.shadow)).onLd (fun l => { l with
    ended := true, shadow := [], inForceBuild := l.buildId, inForceLen := l.imgLen, inForceSig := l.safSig })).onPwr
      (fun p => { p with phase := .running })).onTbs (fun t => { t with mclkRun := true })

/-- The records of a load that has ended: the copy in force, and the failure of the copy tried first. -/
def State.loadRecs (s : State) (l : LoadSt) : State :=
  match l.second, l.fail1 with
  | true, some f => (s.configRec 0x0301 (b2n l.alt) 0 0 none).configRec 0x0302 (b2n l.alt) f.code 0 f.addr
  | _, _ => s.configRec 0x0301 (b2n l.alt) 0 0 none

/-- Every unit of the device begun anew. -/
def State.unitsStart (s : State) : State :=
  ((List.finRange 10).foldl State.linkCheck s.releaseHeld.ticksStart.axesStart.portsStart.canStart.sipStart.carStart).onGd
    (fun g => { g with test := { autoDue := ((List.finRange 10).foldl State.linkCheck
      s.releaseHeld.ticksStart.axesStart.portsStart.canStart.sipStart.carStart).regs.GD_CFG } })

/-- The device in HOLD, with every unit begun anew, before the safety channels look at their inputs. -/
def State.held (s : State) (freezeLow : Bool) : State :=
  (((s.inForce.fabStart.changeMode .hold 0x0501 (b2n s.ld.alt)).loadRecs s.ld).unitsStart).onFrz (fun _ => { pinLow := freezeLow })

theorem holdEntry_passed {s : State} {freezeLow : Bool} (h : s.loadAt .passed = true) :
    s.holdEntry freezeLow = (s.held freezeLow).safStart.autoTest := by
  unfold State.holdEntry State.held State.loadRecs State.unitsStart State.inForce
  rw [h]
  simp only [Bool.not_true, Bool.false_eq_true, if_false] <;> cases s.ld.second <;> cases s.ld.fail1 <;> rfl

theorem Frame.loadRecs (s : State) (l : LoadSt) : Frame [.recs] s (s.loadRecs l) := by
  unfold State.loadRecs
  split
  · exact (Frame.configRec ..).trans (Frame.configRec ..)
  · exact Frame.configRec ..

theorem Frame.unitsStart (s : State) : Frame [.tick, .recs, .regs, .snt, .cp, .ax, .gd, .cmd, .aux, .sip, .car, .can] s s.unitsStart := by
  unfold State.unitsStart
  refine Frame.next (Frame.onGd ..) (by decide) (Frame.foldTrans ?_ fun t a => Frame.next (Frame.linkCheck ..) (by decide) (Frame.refl ..))
  exact Frame.next (Frame.carStart _) (by decide) <| Frame.next (Frame.sipStart _) (by decide) <| Frame.next (Frame.canStart _) (by decide) <|
    Frame.next (Frame.portsStart _) (by decide) <| Frame.next (Frame.axesStart _) (by decide) <| Frame.next (Frame.ticksStart _) (by decide) <|
    Frame.next (Frame.releaseHeld _) (by decide) <| Frame.refl ..

theorem fabStart_mclkRun (s : State) : s.fabStart.tbs.mclkRun = s.tbs.mclkRun := by
  unfold State.fabStart
  dsimp only
  split <;> rfl

theorem changeMode_hold_mode (s : State) (cause detail flags : Nat) : (s.changeMode .hold cause detail flags).mode.mode = .hold := by
  simp only [State.changeMode, if_true]
  exact congrArg ModeSt.mode ((Frame.emit ..).keep .mode (by decide))

theorem Frame.held (s : State) (freezeLow : Bool) :
    Frame [.tbs, .mode, .tick, .recs, .regs, .snt, .cp, .fab, .ax, .gd, .cmd, .aux, .sip, .car, .can, .frz] s.inForce (s.held freezeLow) :=
  Frame.next (Frame.onFrz ..) (by decide) <| Frame.next (Frame.unitsStart _) (by decide) <| Frame.next (Frame.loadRecs ..) (by decide) <|
    Frame.next (Frame.changeMode ..) (by decide) <| Frame.next (Frame.fabStart _) (by decide) <| Frame.refl ..

/-- Behind the change to HOLD the mode and the time base stand. -/
theorem Frame.held_of_changeMode (s : State) (freezeLow : Bool) : Frame [.tick, .recs, .regs, .snt, .cp, .ax, .gd, .cmd, .aux, .sip, .car, .can, .frz]
    (s.inForce.fabStart.changeMode .hold 0x0501 (b2n s.ld.alt)) (s.held freezeLow) :=
  Frame.next (Frame.onFrz ..) (by decide) <| Frame.next (Frame.unitsStart _) (by decide) <| Frame.next (Frame.loadRecs ..) (by decide) <| Frame.refl ..

theorem held_mode (s : State) (freezeLow : Bool) : (s.held freezeLow).mode.mode = .hold :=
  (congrArg ModeSt.mode ((Frame.held_of_changeMode s freezeLow).keep .mode (by decide))).trans (changeMode_hold_mode ..)

theorem held_mclkRun (s : State) (freezeLow : Bool) : (s.held freezeLow).tbs.mclkRun = true := by
  have hkept : (s.held freezeLow).tbs = s.inForce.fabStart.tbs :=
    ((Frame.held_of_changeMode s freezeLow).keep .tbs (by decide)).trans ((Frame.changeMode ..).keep .tbs (by decide))
  rw [hkept, fabStart_mclkRun]
  rfl

/-- What HOLD entry leaves of the parts that a statement about it names. -/
theorem holdEntry_leaves {s v : State} {freezeLow : Bool} (hv : v = (s.held freezeLow).safStart.autoTest) :
    (v.mode.mode = .hold ∨ v.mode.mode = .safe) ∧
    (∀ a, ¬(0x10000 ≤ a ∧ a < 0x24000) → v.regs.get a = (shadowRegs s.ld.shadow).get a) ∧ v.frz = { pinLow := freezeLow } ∧ v.tbs.mclkRun = true ∧
    Frame [.tbs, .mode, .stg, .tick, .recs, .regs, .snt, .freeIx, .cp, .fab, .sns, .ax, .gd, .cmd, .aux, .sip, .car, .saf, .can, .frz] s.inForce v := by
  have hstart : Frame [.mode, .stg, .recs, .regs, .snt, .freeIx, .cp, .sns, .ax, .gd, .cmd, .aux, .saf] (s.held freezeLow) v := by
    rw [hv]
    exact Frame.next (Frame.autoTest _) (by decide) (Frame.safStart _)
  have hmode : ModeOrSafe (s.held freezeLow) v := by
    rw [hv]
    exact .next (Frame.autoTest _) (by decide) (modeOrSafe_safStart _)
  have hall := Frame.next hstart (by decide) (Frame.next (Frame.held s freezeLow) (by decide) (Frame.refl
      [.tbs, .mode, .stg, .tick, .recs, .regs, .snt, .freeIx, .cp, .fab, .sns, .ax, .gd, .cmd, .aux, .sip, .car, .saf, .can, .frz] s.inForce))
  refine ⟨?_, fun a ha => ?_, hstart.keep .frz (by decide), ?_, hall⟩
  · have h := hmode.mode_eq
    rwa [held_mode] at h
  · obtain ⟨-, hregs⟩ := hall.keep .regsOff (by decide) (shadowRegs_wf s.ld.shadow)
    exact hregs a ha
  · rw [hstart.keep .tbs (by decide)]
    exact held_mclkRun ..

/-- Settles O5: the operations behind the registers in force leave every register outside the blocks of the axes. -/
theorem holdEntryAppliesShadow : Obligations.HoldEntryAppliesShadow := by
  intro s dt freezeLow h
  obtain ⟨hmode, hregs, hfrz, hmclk, hframe⟩ := holdEntry_leaves (s := s.advance dt) (freezeLow := freezeLow) rfl
  have hexec := exec_next_of (c := .holdEntry dt freezeLow) rfl (holdEntry_passed (s := s.advance dt) (freezeLow := freezeLow) h)
  generalize ((s.advance dt).held freezeLow).safStart.autoTest = v at *
  exact ⟨_, hexec, hframe.keep .pwr (by decide), hmode, hregs, hframe.keep .ld (by decide), hfrz, hmclk, hframe.keep .clk (by decide),
    hframe.keep .ks (by decide), hframe.keep .pending (by decide)⟩

end Sys2Proof.Machine
end

section
/-! PROOF. Frames of the operations that the frozen frames leave out: what each of them leaves as it was. -/
set_option Elab.async false

namespace Sys2Proof.Machine
namespace Frame

variable {K J : List StPart} {s t u : State}

theorem frame (h : Frame K s t) (f : Frame J t u) (hJ : J ⊆ K := by decide) : Frame K s u := Frame.next f hJ h

theorem iteFst {α : Type} {c : Prop} [Decidable c] {p q : State × α} (hp : Frame K s p.1) (hq : Frame K s q.1) : Frame K s (if c then p else q).1 := by
  split <;> assumption

theorem foldlFrom {β : Type} {l : List β} {g : State → β → State} (h : Frame K s t) (k : ∀ x b, Frame K s x → Frame K s (g x b)) :
    Frame K s (l.foldl g t) := by
  induction l generalizing t with
  | nil => exact h
  | cons b l ih => exact ih (k t b h)

theorem foldlSnd {α β : Type} {l : List β} {p : α × State} {g : α × State → β → α × State} (h : Frame K s p.2)
    (k : ∀ x b, Frame K s x.2 → Frame K s (g x b).2) : Frame K s (l.foldl g p).2 := by
  induction l generalizing p with
  | nil => exact h
  | cons b l ih => exact ih (k p b h)

theorem foldlFst {α β : Type} {l : List β} {p : State × α} {g : State × α → β → State × α} (h : Frame K s p.1)
    (k : ∀ x b, Frame K s x.1 → Frame K s (g x b).1) : Frame K s (l.foldl g p).1 := by
  induction l generalizing p with
  | nil => exact h
  | cons b l ih => exact ih (k p b h)

end Frame

theorem Frame.leaves (t : State) (bulk : Bool) (w : WaitPkt) : Frame [.recs, .fab] t (State.leaves t bulk w).2 := by
  have h := Frame.refl [.recs, .fab] t
  unfold State.leaves
  refine h.foldlSnd fun _ _ hx1 => ?_
  extract_lets +onlyGivenNames _ _
  split
  · dsimp only
    exact hx1.frame (Frame.linkPut ..)
  · exact hx1

theorem Frame.waitDrain (t : State) : Frame [.recs, .fab] t (State.waitDrain t) := by
  have h := Frame.refl [.recs, .fab] t
  unfold State.waitDrain
  refine h.foldlFrom fun _ _ hx1 => ?_
  refine hx1.foldlFrom fun _ _ hx2 => ?_
  split
  · exact hx2
  · extract_lets +onlyGivenNames _
    exact (hx2.frame (Frame.leaves ..)).frame (Frame.putWait ..)

theorem Frame.boundaryRest (t : State) : Frame [.mode, .stg, .recs, .regs, .snt, .freeIx, .cp, .fab, .sns, .ax, .gd, .cmd, .aux, .sip, .saf, .can] t (State.boundaryRest t) := by
  have h := Frame.refl [.mode, .stg, .recs, .regs, .snt, .freeIx, .cp, .fab, .sns, .ax, .gd, .cmd, .aux, .sip, .saf, .can] t
  unfold State.boundaryRest
  extract_lets +onlyGivenNames s2
  have h2 : Frame [.mode, .stg, .recs, .regs, .snt, .freeIx, .cp, .fab, .sns, .ax, .gd, .cmd, .aux, .sip, .saf, .can] t s2 := h.foldlFrom fun _ _ hx1 => hx1.frame (Frame.resample ..)
  extract_lets +onlyGivenNames s4
  have h4 : Frame [.mode, .stg, .recs, .regs, .snt, .freeIx, .cp, .fab, .sns, .ax, .gd, .cmd, .aux, .sip, .saf, .can] t s4 := h2.foldlFrom fun _ _ hx3 => hx3.frame (Frame.auxResample ..)
  extract_lets +onlyGivenNames s6
  have h6 : Frame [.mode, .stg, .recs, .regs, .snt, .freeIx, .cp, .fab, .sns, .ax, .gd, .cmd, .aux, .sip, .saf, .can] t s6 := h4.foldlFrom fun _ _ hx5 => Frame.ite (hx5.frame (Frame.snsBoundary ..)) hx5
  extract_lets +onlyGivenNames s8
  have h8 : Frame [.mode, .stg, .recs, .regs, .snt, .freeIx, .cp, .fab, .sns, .ax, .gd, .cmd, .aux, .sip, .saf, .can] t s8 := h6.foldlFrom fun _ _ hx7 => Frame.ite (hx7.frame (Frame.encCapture ..)) hx7
  extract_lets +onlyGivenNames s10
  have h10 : Frame [.mode, .stg, .recs, .regs, .snt, .freeIx, .cp, .fab, .sns, .ax, .gd, .cmd, .aux, .sip, .saf, .can] t s10 := h8.foldlFrom fun _ _ hx9 => Frame.ite (hx9.frame (Frame.freqBoundary ..)) hx9
  exact (((((((h10.frame (Frame.soRequest ..)).frame (Frame.soEval ..)).frame (Frame.waitDrain ..))).frame (Frame.fabBoundary ..)).frame (Frame.sipBoundary ..))).frame (Frame.canBoundary ..)

theorem Frame.shareBegin (t : State) (g : Fin 16) : Frame [.shr] t (State.shareBegin t g) := by
  have h := Frame.refl [.shr] t
  unfold State.shareBegin
  split
  · exact h
  · extract_lets +onlyGivenNames _ _ _ _ _ _ s1
    have h1 : Frame [.shr] t s1 := (h.frame (Frame.ageReports ..)).frame (Frame.elect ..)
    exact h1.frame (Frame.modShr ..)

theorem Frame.lever (t : State) (n : Fin 6) (ta : Nat) : Frame [.recs, .cmd] t (State.lever t n ta).1 := by
  have h := Frame.refl [.recs, .cmd] t
  unfold State.lever
  extract_lets +onlyGivenNames _ _ _ _ _ _
  split
  · dsimp only
    exact h.frame (Frame.modCmd ..)
  · split
    · exact h
    · extract_lets +onlyGivenNames s1
      have h1 : Frame [.recs, .cmd] t s1 := Frame.ite h ((h.frame (Frame.modCmd ..)).frame (Frame.event ..))
      extract_lets +onlyGivenNames _ _
      split
      · dsimp only
        exact h1.frame (Frame.modCmd ..)
      · extract_lets +onlyGivenNames _ _ _ _ _
        dsimp only
        exact h1.frame (Frame.modCmd ..)

theorem Frame.selectOwn (t : State) (n : Fin 6) (ta : Nat) : Frame [.recs, .cmd] t (State.selectOwn t n ta) := by
  have h := Frame.refl [.recs, .cmd] t
  unfold State.selectOwn
  extract_lets +onlyGivenNames _ _ src
  clear_value src
  split
  · exact (h.frame (Frame.leverCheck ..)).frame (Frame.modCmd ..)
  · extract_lets +onlyGivenNames _
    exact (h.frame (Frame.leverCheck ..)).frame (Frame.modCmd ..)
  · extract_lets +onlyGivenNames _
    exact (((h.frame (Frame.leverCheck ..)).frame (Frame.lever ..))).frame (Frame.modCmd ..)
  · exact (h.frame (Frame.leverCheck ..)).frame (Frame.modCmd ..)

theorem Frame.readCommand (t : State) (n : Fin 6) (ta : Nat) : Frame [.recs, .cmd] t (State.readCommand t n ta) := by
  have h := Frame.refl [.recs, .cmd] t
  exact (h.frame (Frame.selectOwn ..)).frame (Frame.modCmd ..)

theorem Frame.meanTick (t : State) (n : Fin 6) : Frame [.ax] t (State.meanTick t n) := by
  have h := Frame.refl [.ax] t
  unfold State.meanTick
  extract_lets +onlyGivenNames _
  exact h.frame (Frame.modAx ..)

theorem Frame.workStart (t : State) : Frame [.recs, .ax, .cmd, .aux, .shr, .can] t (State.workStart t) := by
  have h := Frame.refl [.recs, .ax, .cmd, .aux, .shr, .can] t
  unfold State.workStart
  extract_lets +onlyGivenNames _ s2
  have h2 : Frame [.recs, .ax, .cmd, .aux, .shr, .can] t s2 := (h.frame (Frame.canRead ..)).foldlFrom fun _ _ hx1 => ((hx1.frame (Frame.meanTick ..)).frame (Frame.readCommand ..))
  extract_lets +onlyGivenNames s4
  have h4 : Frame [.recs, .ax, .cmd, .aux, .shr, .can] t s4 := h2.foldlFrom fun _ _ hx3 => Frame.ite (hx3.frame (Frame.auxRead ..)) hx3
  exact h4.foldlFrom fun _ _ hx5 => (hx5.frame (Frame.shareBegin ..))

theorem Frame.speedTick (t : State) (n : Fin 6) : Frame [.cmd] t (State.speedTick t n) := by
  have h := Frame.refl [.cmd] t
  exact h.frame (Frame.modCmd ..)

theorem Frame.axisTick (t : State) (n : Fin 6) : Frame [.recs, .cmd] t (State.axisTick t n) := by
  have h := Frame.refl [.recs, .cmd] t
  unfold State.axisTick
  extract_lets +onlyGivenNames _ _ s1
  have h1 : Frame [.recs, .cmd] t s1 := (((h.frame (Frame.dcFactors ..)).frame (Frame.speedTick ..))).frame (Frame.thermTick ..)
  exact h1.frame (Frame.loadTick ..)

theorem Frame.linkSend (t : State) (k : Nat) (bulk : Bool) (bytes : List Byte) : Frame [.recs, .fab] t (State.linkSend t k bulk bytes) := by
  have h := Frame.refl [.recs, .fab] t
  unfold State.linkSend
  extract_lets +onlyGivenNames _
  exact Frame.ite ((h.frame (Frame.waitDrain ..)).frame (Frame.linkPut ..)) (h.frame (Frame.waitDrain ..))

theorem Frame.fabSeq (t : State) (typ : Nat) : Frame [.fab] t (State.fabSeq t typ).2 := by
  have h := Frame.refl [.fab] t
  unfold State.fabSeq
  extract_lets +onlyGivenNames _
  dsimp only
  exact h.frame (Frame.onFab ..)

theorem Frame.fabSend (t : State) (dst : Nat) (cls : Nat) (typ : Nat) (bulk : Bool) (time : Option Nat) (payload : List Byte) : Frame [.recs, .fab] t (State.fabSend t dst cls typ bulk time payload).1 := by
  have h := Frame.refl [.recs, .fab] t
  unfold State.fabSend
  split
  · exact h
  · dsimp only
    exact h.frame (Frame.fabDiscard ..)
  · split
    · dsimp only
      exact h.frame (Frame.fabDiscard ..)
    · extract_lets +onlyGivenNames _ _ _
      dsimp only
      exact (((h.frame (Frame.waitDrain ..)).frame (Frame.fabSeq ..)).frame (Frame.linkSend ..))

theorem Frame.leaderTick (t : State) (g : Fin 16) (n : Fin 6) (slot : Nat) (ms : List Mem) (pre : Option Rat) (send : Bool) : Frame [.recs, .fab, .cmd, .shr] t (State.leaderTick t g n slot ms pre send) := by
  have h := Frame.refl [.recs, .fab, .cmd, .shr] t
  unfold State.leaderTick
  extract_lets _ _ _ _ heaves _ read taken heave _ _ _ mode winch speed ramp _ _ _ _ torque loop parts told _ _ _ _ _ _ _ carried
    sat sent
  have hheaves : Frame [.recs, .fab, .cmd, .shr] t heaves := h.foldlFrom fun _ _ hx => hx.frame (Frame.takeHeave ..)
  have hread : Frame [.recs, .fab, .cmd, .shr] t read := hheaves.frame (Frame.modCmd ..)
  have htaken : Frame [.recs, .fab, .cmd, .shr] t taken := hread.frame (Frame.groupTake ..)
  have hheave : Frame [.recs, .fab, .cmd, .shr] t heave := htaken.frame (Frame.heaveTick ..)
  have hwinch : Frame [.recs, .fab, .cmd, .shr] t winch := Frame.ite hheave (hheave.frame (Frame.winchTick ..))
  have hspeed : Frame [.recs, .fab, .cmd, .shr] t speed := hwinch.frame (Frame.speedBegin ..)
  have hramp : Frame [.recs, .fab, .cmd, .shr] t ramp := hspeed.frame (Frame.rampTick ..)
  have htorque : Frame [.recs, .fab, .cmd, .shr] t torque := hwinch.frame (Frame.modCmd ..)
  have hloop : Frame [.recs, .fab, .cmd, .shr] t loop := htorque.frame (Frame.loopTick ..)
  have hparts : Frame [.recs, .fab, .cmd, .shr] t parts :=
    Frame.ite ((hwinch.frame (Frame.modCmd ..)).frame (Frame.modShr ..)) (Frame.ite (hramp.frame (Frame.modShr ..)) (hloop.frame (Frame.modShr ..)))
  have htold : Frame [.recs, .fab, .cmd, .shr] t told := hparts.frame (Frame.modCmd ..)
  have hcarried : Frame [.recs, .fab, .cmd, .shr] t carried := htold.foldlFrom fun _ _ hx => Frame.ite (hx.frame (Frame.event ..)) hx
  have hsat : Frame [.recs, .fab, .cmd, .shr] t sat := Frame.ite (hcarried.frame (Frame.event ..)) hcarried
  have hsent : Frame [.recs, .fab, .cmd, .shr] t sent := hsat.frame (Frame.modShr ..)
  exact Frame.ite htold (hsent.foldlFrom fun _ _ hx => (hx.frame (Frame.fabSend ..)))

theorem Frame.shareTick (t : State) (g : Fin 16) (send : Bool) : Frame [.recs, .fab, .cmd, .shr] t (State.shareTick t g send) := by
  have h := Frame.refl [.recs, .fab, .cmd, .shr] t
  unfold State.shareTick
  split
  · exact h
  · extract_lets _ _ _ _ joined mine found _ _ led members
    have hjoined : Frame [.recs, .fab, .cmd, .shr] t joined := h.frame (Frame.joinTick ..)
    have hfound : Frame [.recs, .fab, .cmd, .shr] t found := hjoined.frame (Frame.findLost ..)
    have hled : Frame [.recs, .fab, .cmd, .shr] t led := by
      unfold led
      clear_value mine
      split
      · extract_lets _ took cmd _ stop
        have htook : Frame [.recs, .fab, .cmd, .shr] t took := Frame.ite (hfound.frame (Frame.takeOver ..)) hfound
        have hcmd : Frame [.recs, .fab, .cmd, .shr] t cmd := htook.frame (Frame.groupCmd ..)
        have hstop : Frame [.recs, .fab, .cmd, .shr] t stop := Frame.ite (hcmd.frame (Frame.modShr ..)) hcmd
        exact (hstop.frame (Frame.leaderTick ..))
      · exact hjoined
    have hmembers : Frame [.recs, .fab, .cmd, .shr] t members := by
      refine hled.foldlFrom fun x _ hx => ?_
      extract_lets _ group own _ damp
      have hgroup : Frame [.recs, .fab, .cmd, .shr] t group := Frame.ite hx (hx.frame (Frame.followGroup ..))
      have hown : Frame [.recs, .fab, .cmd, .shr] t own := Frame.ite hgroup (hgroup.frame (Frame.takeCommand ..))
      have hdamp : Frame [.recs, .fab, .cmd, .shr] t damp := (hown.frame (Frame.modCmd ..)).frame (Frame.modCmd ..)
      exact Frame.ite (hx.frame (Frame.soloTick ..)) ((hdamp.frame (Frame.iceTick ..)).frame (Frame.crashTick ..))
    exact Frame.ite (hmembers.foldlFrom fun _ _ hx => (hx.frame (Frame.fabSend ..))) hmembers

theorem Frame.supervise (t : State) (send : Bool) : Frame [.mode, .stg, .recs, .freeIx, .fab, .cmd, .aux, .shr] t (State.supervise t send) := by
  have h := Frame.refl [.mode, .stg, .recs, .freeIx, .fab, .cmd, .aux, .shr] t
  unfold State.supervise
  extract_lets +onlyGivenNames _ _ _ s2
  have h2 : Frame [.mode, .stg, .recs, .freeIx, .fab, .cmd, .aux, .shr] t s2 := (h.foldlFrom fun _ _ hx1 => (hx1.frame (Frame.axisTick ..))).frame (Frame.sourceStop ..)
  extract_lets +onlyGivenNames _ s5
  have h5 : Frame [.mode, .stg, .recs, .freeIx, .fab, .cmd, .aux, .shr] t s5 := (h2.foldlFrom fun _ _ hx3 => (hx3.frame (Frame.shareTick ..))).foldlFrom fun _ _ hx4 => Frame.ite (hx4.frame (Frame.soloTick ..)) hx4
  extract_lets +onlyGivenNames s7
  have h7 : Frame [.mode, .stg, .recs, .freeIx, .fab, .cmd, .aux, .shr] t s7 := h5.foldlFrom fun _ _ hx6 => Frame.ite (hx6.frame (Frame.auxTick ..)) hx6
  exact (((h7.frame (Frame.clearTick ..)).frame (Frame.driveTest ..)).frame (Frame.limpTest ..)).frame (Frame.commitTest ..)

theorem Frame.srstTake (t : State) : Frame [.gd, .saf] t (State.srstTake t).2 := by
  have h := Frame.refl [.gd, .saf] t
  unfold State.srstTake
  split
  · split
    · extract_lets +onlyGivenNames _ _
      dsimp only
      exact (h.frame (Frame.onSaf ..)).frame (Frame.onGd ..)
    · exact h
  · exact h

theorem Frame.autoArm (t : State) : Frame [.recs, .regs, .snt, .sns, .ax, .gd, .cmd, .aux] t (State.autoArm t) := by
  have h := Frame.refl [.recs, .regs, .snt, .sns, .ax, .gd, .cmd, .aux] t
  exact (h.frame (Frame.onGd ..)).frame (Frame.autoTest ..)

theorem Frame.modeBoundary (t : State) : Frame [.mode, .stg, .tick, .recs, .regs, .snt, .cp, .sns, .ax, .gd, .cmd, .aux, .shr, .saf] t (State.modeBoundary t) := by
  have h := Frame.refl [.mode, .stg, .tick, .recs, .regs, .snt, .cp, .sns, .ax, .gd, .cmd, .aux, .shr, .saf] t
  unfold State.modeBoundary
  extract_lets +onlyGivenNames s1
  have h1 : Frame [.mode, .stg, .tick, .recs, .regs, .snt, .cp, .sns, .ax, .gd, .cmd, .aux, .shr, .saf] t s1 := (h.frame (Frame.requestsLost ..)).frame (Frame.limpTest ..)
  split
  · split
    · split
      · extract_lets +onlyGivenNames s2
        have h2 : Frame [.mode, .stg, .tick, .recs, .regs, .snt, .cp, .sns, .ax, .gd, .cmd, .aux, .shr, .saf] t s2 := (h1.frame (Frame.onMode ..)).frame (Frame.changeMode ..)
        exact Frame.ite h2 (h2.frame (Frame.enterLimp ..))
      · exact h1
    · exact h1
  · exact Frame.ite (h1.frame (Frame.enterBrake ..)) (Frame.ite (h1.frame (Frame.enterLimp ..)) h1)
  · split
    · exact h1.frame (Frame.enterBrake ..)
    · split
      · exact (h1.frame (Frame.onMode ..)).frame (Frame.changeMode ..)
      · exact h1
  · exact Frame.ite (h1.frame (Frame.backToHold ..)) h1
  · extract_lets +onlyGivenNames _
    split
    · exact (((h1.frame (Frame.srstTake ..)).frame (Frame.backToHold ..)).frame (Frame.autoArm ..))
    · exact (h1.frame (Frame.srstTake ..))
  · exact h1
  · exact h1
  · exact h1

theorem Frame.boundary (t : State) : Frame [.mode, .stg, .tick, .recs, .regs, .snt, .freeIx, .cp, .fab, .sns, .ax, .gd, .cmd, .aux, .shr, .sip, .saf, .can, .regsOff] t (State.boundary t) := by
  have h := Frame.refl [.mode, .stg, .tick, .recs, .regs, .snt, .freeIx, .cp, .fab, .sns, .ax, .gd, .cmd, .aux, .shr, .sip, .saf, .can, .regsOff] t
  unfold State.boundary
  extract_lets +onlyGivenNames s1
  have h1 : Frame [.mode, .stg, .tick, .recs, .regs, .snt, .freeIx, .cp, .fab, .sns, .ax, .gd, .cmd, .aux, .shr, .sip, .saf, .can, .regsOff] t s1 := (((((((h.frame (Frame.tickJudge ..)).frame (Frame.modeBoundary ..))).frame (Frame.handOver ..))).frame (Frame.tickNext ..)).frame (Frame.boundaryRest ..))
  exact Frame.ite (h1.frame (Frame.workStart ..)) h1

end Sys2Proof.Machine
end

section
/-! PROOF. A boundary and the work of a tick (R57, R58, R104). -/
set_option Elab.async false

namespace Sys2Proof.Machine

/-- Of the tick nothing but the note of stop cause 4 changes. -/
def TickKept (s t : State) : Prop := ∃ b, t.tick = { s.tick with setInHold := b }

theorem TickKept.refl (s : State) : TickKept s s := ⟨s.tick.setInHold, rfl⟩

theorem TickKept.trans {s t u : State} (h : TickKept s t) (k : TickKept t u) : TickKept s u := by
  obtain ⟨b, hb⟩ := h
  obtain ⟨c, hc⟩ := k
  exact ⟨c, by rw [hc, hb]⟩

theorem TickKept.frame {K : List StPart} {s t u : State} (h : TickKept s t) (F : Frame K t u) (hK : .tick ∉ K := by decide) : TickKept s u :=
  h.trans ⟨t.tick.setInHold, F.keep .tick hK⟩

/-- Behind the change of mode a return to HOLD touches no tick and no mode. -/
theorem backToHold_behind (s : State) (cause detail : Nat) :
    Frame [.recs, .regs, .snt, .ax, .gd, .cmd, .aux, .shr]
      ((((s.setStop 4 false).setStop 6 false).onTick (fun t => { t with setInHold := false })).changeMode .hold cause detail) (s.backToHold cause detail) := by
  unfold State.backToHold
  refine Frame.frame (Frame.foldlFrom (Frame.foldlFrom (Frame.refl ..) fun t n h => ?_) fun t x h => ?_) (Frame.commandsReset _)
  · exact .ite (h.frame (Frame.modAx ..)) h
  · exact .ite (h.frame (Frame.auxReady ..)) h

theorem backToHold_mode (s : State) (cause detail : Nat) : (s.backToHold cause detail).mode.mode = .hold :=
  (congrArg ModeSt.mode ((backToHold_behind s cause detail).keep .mode (by decide))).trans (changeMode_hold_mode ..)

theorem backToHold_tickKept (s : State) (cause detail : Nat) : TickKept s (s.backToHold cause detail) :=
  .frame (.frame ⟨false, rfl⟩ (Frame.changeMode ..)) (backToHold_behind s cause detail)

/-- What a boundary makes of the requests before it changes the mode. -/
def State.boundaryRequests (s : State) : State := s.requestsLost.limpTest s.tb

theorem Frame.boundaryRequests (s : State) : Frame [.mode, .recs] s s.boundaryRequests := (Frame.requestsLost s).trans (Frame.limpTest ..)

theorem modeBoundary_tickKept (s : State) : TickKept s s.modeBoundary := by
  have h : TickKept s s.boundaryRequests := .frame (.refl s) (Frame.boundaryRequests s)
  unfold State.modeBoundary
  rw [← State.boundaryRequests]
  generalize s.boundaryRequests = r at h ⊢
  dsimp only
  split
  case h_1 =>
    split
    · have hdrive (d : DrivePending) : TickKept s ((r.onMode (fun m => { m with drivePending := none })).changeMode .drive 0x0502 d.port) :=
        (h.frame (Frame.onMode ..)).frame (Frame.changeMode ..)
      split
      · split
        · exact hdrive _
        · exact (hdrive _).frame (Frame.enterLimp _)
      · exact h
    · exact h
  case h_2 =>
    split
    · exact h.frame (Frame.enterBrake ..)
    · split
      · exact h.frame (Frame.enterLimp _)
      · exact h
  case h_3 =>
    split
    · exact h.frame (Frame.enterBrake ..)
    · split
      · exact (h.frame (Frame.onMode ..)).frame (Frame.changeMode ..)
      · exact h
  case h_4 =>
    split
    · exact h.trans (backToHold_tickKept ..)
    · exact h
  case h_5 =>
    split
    · exact ((h.frame (Frame.srstTake _)).trans (backToHold_tickKept ..)).frame (Frame.autoArm _)
    · exact h.frame (Frame.srstTake _)
  all_goals exact h

/-- The tick that begins at a boundary: counted on, with the work to do, and behind an overrun that tick's work still due. -/
def State.tickBegun (s : State) (b : Bool) : TickSt :=
  { s.tickJudge.tick with
    number := s.tick.number + 1, began := s.tb, workDone := false, withheld := false, setInHold := b
    workBegan := if s.tickJudge.tick.overdue.isEmpty then s.tb else s.tickJudge.tick.workBegan }

theorem settle_tick (s : State) : s.settle.tick = s.tick := rfl

/-- A tick whose work is not done at its boundary is one overrun more, and its work stays due (R57). -/
theorem tickJudge_tick (s : State) :
    (s.tick.workDone = true → s.tickJudge.tick = s.tick) ∧
    (s.tick.workDone = false → s.tickJudge.tick = { s.tick with
      withheld := true, consec := s.tick.consec + 1, ovrCnt := satInc 16 s.tick.ovrCnt, overdue := s.tick.overdue ++ [(s.tb, s.tick.consec + 1)] }) := by
  unfold State.tickJudge
  refine ⟨fun h => ?_, fun h => ?_⟩
  · rw [if_pos h]
  · rw [if_neg (by rw [h]; decide)]
    rfl

theorem tickJudge_last (s : State) : s.tickJudge.tick.last = s.tick.last ∧ s.tickJudge.tick.max = s.tick.max := by
  unfold State.tickJudge
  split
  · exact ⟨rfl, rfl⟩
  · exact ⟨rfl, rfl⟩

theorem tickNext_tick {s u : State} {b : Bool} (htick : u.tick = { s.tickJudge.tick with setInHold := b }) (hclk : u.clk = s.clk) :
    u.tickNext.tick = s.tickBegun b := by
  have hnumber : s.tickJudge.tick.number = s.tick.number := by
    unfold State.tickJudge
    split <;> rfl
  unfold State.tickNext State.tickBegun
  rw [State.onTick_tick, htick, State.tb, hclk, hnumber, State.tb]

/-- The boundary up to the next tick. -/
def State.boundaryFront (s : State) : State := s.tickJudge.modeBoundary.handOver

theorem boundaryFront_tick (s : State) : ∃ b, s.boundaryFront.tick = { s.tickJudge.tick with setInHold := b } := by
  obtain ⟨b, hb⟩ := modeBoundary_tickKept s.tickJudge
  exact ⟨b, ((Frame.handOver _).keep .tick (by decide)).trans hb⟩

theorem boundaryFront_clk (s : State) : s.boundaryFront.clk = s.clk := by
  have F := (Frame.refl [.mode, .stg, .tick, .recs, .regs, .snt, .cp, .sns, .ax, .gd, .cmd, .aux, .shr, .saf, .regsOff] s).frame (Frame.tickJudge _)
    |>.frame (Frame.modeBoundary _) |>.frame (Frame.handOver _)
  exact F.keep .clk (by decide)

/-- The boundary from the next tick on. -/
def State.boundaryBehind (s : State) : State :=
  if s.boundaryRest.tick.overdue.isEmpty then s.boundaryRest.workStart else s.boundaryRest

theorem Frame.boundaryBehind (s : State) :
    Frame [.mode, .stg, .recs, .regs, .snt, .freeIx, .cp, .fab, .sns, .ax, .gd, .cmd, .aux, .shr, .sip, .saf, .can] s s.boundaryBehind := by
  have h := (Frame.refl [.mode, .stg, .recs, .regs, .snt, .freeIx, .cp, .fab, .sns, .ax, .gd, .cmd, .aux, .shr, .sip, .saf, .can] s).frame
    (Frame.boundaryRest _)
  exact Frame.ite (h.frame (Frame.workStart _)) h

theorem boundary_eq (s : State) : s.boundary = s.boundaryFront.tickNext.boundaryBehind := by
  delta State.boundary State.boundaryBehind State.boundaryFront
  dsimp only

theorem boundary_tick (s : State) : ∃ b, s.boundary.tick = s.tickBegun b := by
  obtain ⟨b, hb⟩ := boundaryFront_tick s
  refine ⟨b, ?_⟩
  rw [← tickNext_tick hb (boundaryFront_clk s), boundary_eq]
  exact (Frame.boundaryBehind _).keep .tick (by decide)

/-! ## The work of a tick -/

/-- The measurements that the work of a tick reads. -/
def State.tickRead (s : State) (vdrv v24s : Rat) : State := (s.onGd (fun g => { g with vdrv := vdrv })).onSaf (fun x => { x with v24s := v24s })

theorem Frame.tickRead (s : State) (vdrv v24s : Rat) : Frame [.gd, .saf] s (s.tickRead vdrv v24s) :=
  (Frame.refl [.gd, .saf] s).frame (Frame.onGd ..) |>.frame (Frame.onSaf ..)

theorem tickWork_inTime {s : State} {sensors : List (Rat × Rat)} {vdrv v24s : Rat} (hdue : s.tick.overdue = []) (hwork : s.tick.workDone = false) :
    s.tickWork sensors vdrv v24s =
      (((((s.tickRead vdrv v24s).skewTick s.tickEnd sensors).supervise true).keepTick s.tick.number)).workEnd true := by
  delta State.tickWork State.tickRead
  dsimp only [State.onSaf_tick, State.onGd_tick]
  rw [hdue]
  dsimp only
  simp only [hwork, Bool.false_eq_true, if_false]
  rfl

/-- What the work of a tick takes from it: its number, its boundary, the overdue ticks, and the run of overruns. -/
def CountsKept (s t : State) : Prop :=
  t.tick.number = s.tick.number ∧ t.tick.began = s.tick.began ∧ t.tick.overdue = s.tick.overdue ∧ t.tick.workBegan = s.tick.workBegan ∧
  t.tick.max = s.tick.max ∧ t.tick.workDone = s.tick.workDone ∧ t.tick.consec = s.tick.consec

theorem CountsKept.refl (s : State) : CountsKept s s := ⟨rfl, rfl, rfl, rfl, rfl, rfl, rfl⟩

theorem CountsKept.trans {s t u : State} (h : CountsKept s t) (k : CountsKept t u) : CountsKept s u := by
  obtain ⟨h1, h2, h3, h4, h5, h6, h7⟩ := h
  obtain ⟨k1, k2, k3, k4, k5, k6, k7⟩ := k
  exact ⟨k1.trans h1, k2.trans h2, k3.trans h3, k4.trans h4, k5.trans h5, k6.trans h6, k7.trans h7⟩

theorem CountsKept.of_tick {s t : State} (h : t.tick = s.tick) : CountsKept s t := by
  unfold CountsKept
  rw [h]
  exact ⟨rfl, rfl, rfl, rfl, rfl, rfl, rfl⟩

theorem CountsKept.frame {K : List StPart} {s t u : State} (h : CountsKept s t) (F : Frame K t u) (hK : .tick ∉ K := by decide) : CountsKept s u :=
  h.trans (.of_tick (F.keep .tick hK))

theorem skewPair_counts (s : State) (ta : Nat) (p : Fin 9) : CountsKept s (s.skewPair ta p) := by
  unfold State.skewPair
  extract_lets d w l calm below note u
  have hu : CountsKept s u := ⟨rfl, rfl, rfl, rfl, rfl, rfl, rfl⟩
  split
  · exact hu.trans (.of_tick ((Frame.skewRec ..).keep .tick (by decide)))
  · exact hu

theorem foldl_skewPair_counts (ta : Nat) (l : List (Fin 9)) (s : State) : CountsKept s (l.foldl (fun (s : State) (p : Fin 9) => s.skewPair ta p) s) := by
  induction l generalizing s with
  | nil => exact .refl s
  | cons p l ih => exact (skewPair_counts s ta p).trans (ih _)

theorem skewTick_counts (s : State) (ta : Nat) (sensors : List (Rat × Rat)) : CountsKept s (s.skewTick ta sensors) := by
  unfold State.skewTick
  exact CountsKept.trans ⟨rfl, rfl, rfl, rfl, rfl, rfl, rfl⟩ (foldl_skewPair_counts ..)

/-- What the work of a tick leaves before it is ended. -/
def State.tickWorked (s : State) (sensors : List (Rat × Rat)) (vdrv v24s : Rat) : State :=
  (((s.tickRead vdrv v24s).skewTick s.tickEnd sensors).supervise true).keepTick s.tick.number

theorem tickWorked_counts (s : State) (sensors : List (Rat × Rat)) (vdrv v24s : Rat) : CountsKept s (s.tickWorked sensors vdrv v24s) := by
  unfold State.tickWorked
  exact (((CountsKept.frame (.refl s) (Frame.tickRead s vdrv v24s)).trans (skewTick_counts (s.tickRead vdrv v24s) s.tickEnd sensors)).frame
    (Frame.supervise _ true)).frame (Frame.keepTick ..)

theorem Frame.tickWorked (s : State) (sensors : List (Rat × Rat)) (vdrv v24s : Rat) :
    Frame [.ks, .mode, .stg, .tick, .recs, .freeIx, .fab, .cmd, .aux, .shr] (s.tickRead vdrv v24s) (s.tickWorked sensors vdrv v24s) :=
  by
  unfold State.tickWorked
  exact ((((Frame.refl [.ks, .mode, .stg, .tick, .recs, .freeIx, .fab, .cmd, .aux, .shr] (s.tickRead vdrv v24s)).frame
    (Frame.skewTick ..)).frame (Frame.supervise ..)).frame (Frame.keepTick ..))

/-- The work of a tick done in time: its duration, and the end of the run of overruns. -/
theorem workEnd_inTime_tick (s : State) : (s.workEnd true).tick = { s.tick with
    last := secOf (s.tb - s.tick.workBegan), max := if s.tick.max < secOf (s.tb - s.tick.workBegan) then secOf (s.tb - s.tick.workBegan) else s.tick.max
    workBegan := s.tb, workDone := true, consec := 0, setInHold := false } := by
  have hkeep (u : State) : (u.setStop 4 false).tick = u.tick := (Frame.setStop ..).keep .tick (by decide)
  unfold State.workEnd
  dsimp only
  split
  · rw [hkeep]
    simp
  · simp

/-- The work of a tick that an overrun has made due. -/
def State.overdueWork (s : State) (sensors : List (Rat × Rat)) (b n : Nat) (rest : List (Nat × Nat)) : State :=
  let u := s.onTick (fun t => { t with overdue := rest, began := b - s.period })
  let v := ((((u.skewTick b sensors).supervise false).keepTick (s.tick.number - (rest.length + 1))).workEnd false).event b Unit.dev 0x0105 n
    (s.tb - s.tick.workBegan)
  ((v.onTick (fun t => { t with began := match rest with | (d, _) :: _ => d - v.period | [] => s.tick.began })).workStart).onTick
    (fun t => { t with began := s.tick.began })

theorem tickWork_overdue {s : State} {sensors : List (Rat × Rat)} {vdrv v24s : Rat} {b n : Nat} {rest : List (Nat × Nat)}
    (hdue : s.tick.overdue = (b, n) :: rest) : s.tickWork sensors vdrv v24s = (s.tickRead vdrv v24s).overdueWork sensors b n rest := by
  delta State.tickWork State.tickRead State.overdueWork
  dsimp only [State.onSaf_tick, State.onGd_tick]
  simp only [hdue] <;> rfl

theorem workEnd_late_tick (s : State) : (s.workEnd false).tick = { s.tick with
    last := secOf (s.tb - s.tick.workBegan), max := if s.tick.max < secOf (s.tb - s.tick.workBegan) then secOf (s.tb - s.tick.workBegan) else s.tick.max
    workBegan := s.tb } := by
  unfold State.workEnd
  simp

theorem overdueWork_tick (s : State) (sensors : List (Rat × Rat)) (b n : Nat) (rest : List (Nat × Nat)) :
    (s.overdueWork sensors b n rest).tick.overdue = rest ∧ (s.overdueWork sensors b n rest).tick.workDone = s.tick.workDone ∧
    (s.overdueWork sensors b n rest).tick.consec = s.tick.consec ∧ (s.overdueWork sensors b n rest).tick.workBegan = s.tb ∧
    (s.overdueWork sensors b n rest).tick.number = s.tick.number ∧ (s.overdueWork sensors b n rest).tick.began = s.tick.began := by
  unfold State.overdueWork
  extract_lets u v
  have hwork := ((skewTick_counts u b sensors).frame (Frame.supervise _ false)).frame (Frame.keepTick _ (s.tick.number - (rest.length + 1)))
  obtain ⟨hnumber, -, hoverdue, -, -, hdone, hconsec⟩ := hwork
  have hv : v.tick = ((((u.skewTick b sensors).supervise false).keepTick (s.tick.number - (rest.length + 1))).workEnd false).tick :=
    (Frame.event ..).keep .tick (by decide)
  rw [workEnd_late_tick] at hv
  have hstart (w : State) : w.workStart.tick = w.tick := (Frame.workStart w).keep .tick (by decide)
  have hclk : (((u.skewTick b sensors).supervise false).keepTick (s.tick.number - (rest.length + 1))).clk = s.clk := by
    rw [(Frame.keepTick ..).keep .clk (by decide), (Frame.supervise ..).keep .clk (by decide), (Frame.skewTick ..).keep .clk (by decide)]
    rfl
  rw [State.onTick_tick, hstart, State.onTick_tick, hv]
  exact ⟨hoverdue, hdone, hconsec, congrArg Clock.tb hclk, hnumber, rfl⟩

section
variable {s : State} {dt : Nat}

theorem exec_outerTickBoundary (hrun : s.running = true) (hb : s.tbAt dt % s.period = 0) (hlater : s.tick.began < s.tbAt dt) :
    exec (.outerTickBoundary dt) s = .next (s.advance dt).boundary.settle := by
  have hdue : ((s.advance dt).running && (s.advance dt).tb % (s.advance dt).period == 0 && decide ((s.advance dt).tick.began < (s.advance dt).tb)) = true := by
    simp only [Bool.and_eq_true, beq_iff_eq, decide_eq_true_eq]
    exact ⟨⟨hrun, hb⟩, hlater⟩
  exact exec_next_of rfl (if_pos hdue)

theorem overrunStop_due (hrun : s.running = true) (hfour : 4 ≤ s.tick.consec) (hnew : s.mode.stop.getLsbD 4 = false) :
    s.overrunStop = (s.onTick (fun t => { t with setInHold := s.mode.mode == .hold })).setStop 4 true := by
  have hdue : (s.running && decide (4 ≤ s.tick.consec) && !s.mode.stop.getLsbD 4) = true := by
    simp only [hrun, decide_eq_true hfour, hnew, Bool.not_false, Bool.and_self]
  exact if_pos hdue

end

theorem exec_outerTickWork {s : State} {dt : Nat} (hrun : s.running = true) (sensors : List (Rat × Rat)) (vdrv v24s : Rat) :
    exec (.outerTickWork dt sensors vdrv v24s) s = .next ((s.advance dt).tickWork sensors vdrv v24s).settle :=
  exec_next_of rfl (if_pos (by exact hrun))

section
variable {s : State} {dt : Nat} {sensors : List (Rat × Rat)} {vdrv v24s : Rat}

theorem outerTickBoundary_begins (hrun : s.running = true) (hb : s.tbAt dt % s.period = 0) (hlater : s.tick.began < s.tbAt dt) :
    ∃ t b, exec (.outerTickBoundary dt) s = .next t ∧ t.tick = (s.advance dt).tickBegun b ∧
      Frame [.mode, .stg, .tick, .recs, .regs, .snt, .freeIx, .cp, .fab, .sns, .ax, .gd, .cmd, .aux, .shr, .sip, .saf, .can, .regsOff] (s.advance dt) t := by
  obtain ⟨b, htick⟩ := boundary_tick (s.advance dt)
  exact ⟨_, b, exec_outerTickBoundary hrun hb hlater, (settle_tick _).trans htick, (Frame.boundary (s.advance dt)).frame (Frame.settle _)⟩

theorem outerTickWork_inTime (hrun : s.running = true) (hdue : s.tick.overdue = []) (hwork : s.tick.workDone = false) :
    ∃ t, exec (.outerTickWork dt sensors vdrv v24s) s = .next t ∧
      t.tick.workDone = true ∧ t.tick.consec = 0 ∧ t.tick.workBegan = s.tbAt dt ∧ t.tick.overdue = [] ∧
      t.tick.number = s.tick.number ∧ t.tick.began = s.tick.began ∧ t.tick.last = secOf (s.tbAt dt - s.tick.workBegan) ∧
      t.tick.max = (if s.tick.max < secOf (s.tbAt dt - s.tick.workBegan) then secOf (s.tbAt dt - s.tick.workBegan) else s.tick.max) ∧
      Frame [.ks, .mode, .stg, .tick, .recs, .freeIx, .fab, .cmd, .aux, .shr] ((s.advance dt).tickRead vdrv v24s) t := by
  have hexec := exec_outerTickWork (dt := dt) hrun sensors vdrv v24s
  rw [tickWork_inTime (s := s.advance dt) hdue hwork, ← State.tickWorked] at hexec
  have F := Frame.frame (Frame.frame (Frame.next (Frame.tickWorked (s.advance dt) sensors vdrv v24s) (by decide) (Frame.refl
    [.ks, .mode, .stg, .tick, .recs, .freeIx, .fab, .cmd, .aux, .shr] _)) (Frame.workEnd _ true)) (Frame.settle _)
  have hcounts := tickWorked_counts (s.advance dt) sensors vdrv v24s
  have htick := workEnd_inTime_tick ((s.advance dt).tickWorked sensors vdrv v24s)
  have hclk : ((s.advance dt).tickWorked sensors vdrv v24s).clk = (s.advance dt).clk :=
    ((Frame.tickWorked (s.advance dt) sensors vdrv v24s).keep .clk (by decide)).trans ((Frame.tickRead ..).keep .clk (by decide))
  obtain ⟨hnumber, hbegan, hoverdue, hworkBegan, hmax, -, -⟩ := hcounts
  refine ⟨_, hexec, ?_⟩
  rw [settle_tick, htick, State.tb, hclk]
  exact ⟨rfl, rfl, rfl, hoverdue.trans hdue, hnumber, hbegan, by rw [hworkBegan]; rfl, by rw [hworkBegan, hmax]; rfl, F⟩

end

/-- Settles O10: the boundary judges the tick that ends and begins the next; its work and that of an overdue tick keep the counts. -/
theorem outerTickAndItsWork : Obligations.OuterTickAndItsWork := by
  intro s dt hrun
  refine ⟨fun hb hlater => ?_, fun sensors vdrv v24s hdue hwork => ?_, fun sensors vdrv v24s b n rest hdue => ?_,
    fun hfour hnew => ⟨_, exec_next_of rfl (overrunStop_due (s := s.advance dt) hrun hfour hnew), rfl⟩⟩
  · obtain ⟨t, b, hexec, htick, F⟩ := outerTickBoundary_begins hrun hb hlater
    refine ⟨t, hexec, ?_⟩
    rw [htick]
    obtain ⟨hdone', hjudged⟩ := tickJudge_tick (s.advance dt)
    refine ⟨rfl, rfl, rfl, rfl, ?_, ?_, fun hdone => ?_, fun hdone => ?_, F.keep .clk (by decide), F.keep .pwr (by decide), F.keep .ld (by decide),
      F.keep .ks (by decide), F.keep .tbs (by decide), F.keep .blk (by decide), F.keep .smpCnt (by decide), F.keep .car (by decide),
      F.keep .frz (by decide), F.keep .pending (by decide)⟩
    · exact (tickJudge_last _).1
    · exact (tickJudge_last _).2
    · rw [State.tickBegun, hdone' hdone]
      exact ⟨rfl, rfl, rfl⟩
    · rw [State.tickBegun, hjudged hdone]
      exact ⟨rfl, rfl, rfl⟩
  · obtain ⟨t, hexec, h1, h2, h3, h4, h5, h6, h7, h8, F⟩ := outerTickWork_inTime (dt := dt) (sensors := sensors) (vdrv := vdrv) (v24s := v24s) hrun hdue hwork
    exact ⟨t, hexec, h1, h2, h3, h4, h5, h6, h7, h8, F.keep .gd (by decide), F.keep .saf (by decide), F.keep .clk (by decide), F.keep .regs (by decide),
      F.keep .snt (by decide), F.keep .ax (by decide), F.keep .cp (by decide), F.keep .pending (by decide)⟩
  · have hexec := exec_outerTickWork (dt := dt) hrun sensors vdrv v24s
    rw [tickWork_overdue (s := s.advance dt) hdue] at hexec
    refine ⟨_, hexec, ?_⟩
    rw [settle_tick]
    exact overdueWork_tick ..

end Sys2Proof.Machine
end

section
/-! PROOF. The change of mode at a boundary, and the end of the BRAKE timeout (R109, R112 to R116, R120). -/
set_option Elab.async false

namespace Sys2Proof.Machine

theorem changeMode_mode (s : State) (m : Mode) (cause detail flags : Nat) : (s.changeMode m cause detail flags).mode.mode = m := by
  have hemit (u : State) (a b c d : Nat) (p : List Byte) : (u.emit a b c d p).mode = u.mode := (Frame.emit ..).keep .mode (by decide)
  have hleave (u : State) : u.imgAbandon.mode = u.mode := (Frame.imgAbandon u).keep .mode (by decide)
  cases m with
  | cold | load | freeze => rfl
  | hold =>
    simp only [State.changeMode, if_true]
    rw [hemit]
    rfl
  | drive | limp | brake | safe =>
    simp only [State.changeMode, reduceCtorEq, if_false]
    rw [hleave, hemit]
    rfl

theorem enterLimp_mode (s : State) : s.enterLimp.mode.mode = .limp := changeMode_mode ..

theorem enterBrake_mode (s : State) (detail : Nat) : (s.enterBrake detail).mode.mode = .brake := by
  let entered := ((s.changeMode .brake 0x0505 detail).commitAbort).onMode (fun m => { m with
    brakeAt := ((s.changeMode .brake 0x0505 detail).commitAbort).tb, brakeTmo := false, limpAck := none })
  have hbehind : Frame [.recs, .regs, .ax, .cmd, .aux, .shr] entered (s.enterBrake detail) := by
    unfold State.enterBrake
    refine Frame.frame (Frame.foldlFrom (Frame.foldlFrom (Frame.refl ..) fun t n h => ?_) fun t x h => ?_) (Frame.commandsReset _)
    · exact .ite (((h.frame (Frame.crashEnd ..)).frame (Frame.axStop ..)).frame (Frame.modAx ..)) h
    · exact .ite ((h.frame (Frame.auxStop ..)).frame (Frame.modAux ..)) h
  have hentered : entered.mode.mode = .brake :=
    (congrArg ModeSt.mode ((Frame.commitAbort _).keep .mode (by decide))).trans (changeMode_mode ..)
  exact (congrArg ModeSt.mode (hbehind.keep .mode (by decide))).trans hentered

/-! ## The requests that a boundary finds -/

section
variable {s : State}

theorem dropRec_mode (s : State) (time req bits port : Nat) : (s.dropRec time req bits port).mode = s.mode :=
  (Frame.dropRec ..).keep .mode (by decide)

/-- A boundary's tests of the requests change neither the mode nor the stop causes nor the instant of BRAKE. -/
theorem boundaryRequests_mode (s : State) : s.boundaryRequests.mode.mode = s.mode.mode ∧ s.boundaryRequests.mode.stop = s.mode.stop ∧
    s.boundaryRequests.mode.brakeAt = s.mode.brakeAt := by
  have hlost (s : State) : s.requestsLost.mode.mode = s.mode.mode ∧ s.requestsLost.mode.stop = s.mode.stop ∧
      s.requestsLost.mode.brakeAt = s.mode.brakeAt := by
    unfold State.requestsLost
    extract_lets u
    have hu : u.mode.mode = s.mode.mode ∧ u.mode.stop = s.mode.stop ∧ u.mode.brakeAt = s.mode.brakeAt := by
      unfold u
      split
      · exact ⟨rfl, rfl, rfl⟩
      · exact ⟨rfl, rfl, rfl⟩
    clear_value u
    split
    · split
      · exact hu
      · rw [dropRec_mode]
        exact hu
    · exact hu
  have hlimp (s : State) (time : Nat) : (s.limpTest time).mode.mode = s.mode.mode ∧ (s.limpTest time).mode.stop = s.mode.stop ∧
      (s.limpTest time).mode.brakeAt = s.mode.brakeAt := by
    unfold State.limpTest
    split
    · split
      · exact ⟨rfl, rfl, rfl⟩
      · rw [dropRec_mode]
        exact ⟨rfl, rfl, rfl⟩
    · exact ⟨rfl, rfl, rfl⟩
  obtain ⟨h1, h2, h3⟩ := hlost s
  obtain ⟨k1, k2, k3⟩ := hlimp s.requestsLost s.tb
  exact ⟨k1.trans h1, k2.trans h2, k3.trans h3⟩

theorem requestsLost_hold (h : s.mode.mode = .hold) : s.requestsLost = s.onMode (fun m => { m with limpAck := none }) := by
  unfold State.requestsLost
  rw [if_neg (by rw [h]; decide)]
  dsimp only
  split
  · rw [if_pos (.inl (by exact h))]
  · rfl

/-- In HOLD a drive request stands. -/
theorem boundaryRequests_hold (h : s.mode.mode = .hold) : s.boundaryRequests.mode.drivePending = s.mode.drivePending := by
  unfold State.boundaryRequests
  rw [requestsLost_hold h]
  rfl

/-- In LIMP an acknowledge stands where no degradation cause does. -/
theorem boundaryRequests_limp (h : s.mode.mode = .limp) (hdegr : s.degr = 0) : s.boundaryRequests.mode.limpAck = s.mode.limpAck := by
  have hlost : s.requestsLost.mode.limpAck = s.mode.limpAck := by
    unfold State.requestsLost
    rw [if_pos h]
    dsimp only
    split
    · split
      · rfl
      · rw [dropRec_mode]
        rfl
    · rfl
  have F := Frame.requestsLost s
  have hdegr' : s.requestsLost.degr = 0 :=
    (State.degr_congr (F.keep .snt (by decide)) (F.keep .sns (by decide)) (F.keep .tbs (by decide))).trans hdegr
  unfold State.boundaryRequests State.limpTest
  split
  · rw [if_pos hdegr', hlost]
  · exact hlost

theorem boundaryRequests_degr (s : State) : s.boundaryRequests.degr = s.degr :=
  State.degr_congr ((Frame.boundaryRequests s).keep .snt (by decide)) ((Frame.boundaryRequests s).keep .sns (by decide))
    ((Frame.boundaryRequests s).keep .tbs (by decide))

/-! ## The mode behind a boundary, from each mode before it -/

theorem modeBoundary_hold_tested {d : DrivePending} (h : s.mode.mode = .hold) (hd : s.mode.drivePending = some d) (ht : d.tested = true) :
    s.modeBoundary.mode.mode = if s.degr = 0 then .drive else .limp := by
  obtain ⟨hmode, -, -⟩ := boundaryRequests_mode s
  have hpending := boundaryRequests_hold h
  have hdegr := boundaryRequests_degr s
  unfold State.modeBoundary
  rw [← State.boundaryRequests]
  generalize s.boundaryRequests = r at *
  dsimp only
  rw [hmode, h]
  dsimp only
  rw [hpending, hd]
  dsimp only
  rw [if_pos ht]
  have hkept : ((r.onMode (fun m => { m with drivePending := none })).changeMode .drive 0x0502 d.port).degr = s.degr :=
    (State.degr_congr ((Frame.changeMode ..).keep .snt (by decide)) ((Frame.changeMode ..).keep .sns (by decide))
      ((Frame.changeMode ..).keep .tbs (by decide))).trans hdegr
  simp only [hkept]
  split
  · exact changeMode_mode ..
  · exact enterLimp_mode _

theorem modeBoundary_hold_idle (h : s.mode.mode = .hold) (hd : s.mode.drivePending = none) : s.modeBoundary.mode.mode = .hold := by
  obtain ⟨hmode, -, -⟩ := boundaryRequests_mode s
  have hpending := boundaryRequests_hold h
  unfold State.modeBoundary
  rw [← State.boundaryRequests]
  generalize s.boundaryRequests = r at *
  dsimp only
  rw [hmode, h]
  dsimp only
  rw [hpending, hd]
  exact hmode.trans h

theorem modeBoundary_stop (h : s.mode.mode = .drive ∨ s.mode.mode = .limp) (hstop : s.mode.stop ≠ 0) : s.modeBoundary.mode.mode = .brake := by
  obtain ⟨hmode, hstops, -⟩ := boundaryRequests_mode s
  unfold State.modeBoundary
  rw [← State.boundaryRequests]
  generalize s.boundaryRequests = r at *
  have hbrake : r.mode.stop ≠ 0 := by rwa [hstops]
  dsimp only
  rcases h with h | h
  · rw [hmode, h]
    dsimp only
    rw [if_pos hbrake]
    exact enterBrake_mode ..
  · rw [hmode, h]
    dsimp only
    rw [if_pos hbrake]
    exact enterBrake_mode ..

theorem modeBoundary_drive (h : s.mode.mode = .drive) (hstop : s.mode.stop = 0) :
    s.modeBoundary.mode.mode = if s.degr = 0 then .drive else .limp := by
  obtain ⟨hmode, hstops, -⟩ := boundaryRequests_mode s
  have hdegr := boundaryRequests_degr s
  unfold State.modeBoundary
  rw [← State.boundaryRequests]
  generalize s.boundaryRequests = r at *
  dsimp only
  rw [hmode, h]
  dsimp only
  rw [if_neg (by rw [hstops, hstop]; decide), hdegr]
  by_cases hd : s.degr = 0
  · rw [if_neg (not_not_intro hd), if_pos hd]
    exact hmode.trans h
  · rw [if_pos hd, if_neg hd]
    exact enterLimp_mode _

theorem modeBoundary_limp_acknowledged (h : s.mode.mode = .limp) (hstop : s.mode.stop = 0) (hdegr : s.degr = 0)
    (hack : s.mode.limpAck.isSome = true) : s.modeBoundary.mode.mode = .drive := by
  obtain ⟨hmode, hstops, -⟩ := boundaryRequests_mode s
  obtain ⟨p, hp⟩ := Option.isSome_iff_exists.1 hack
  have hkept := boundaryRequests_limp h hdegr
  unfold State.modeBoundary
  rw [← State.boundaryRequests]
  generalize s.boundaryRequests = r at *
  dsimp only
  rw [hmode, h]
  dsimp only
  rw [if_neg (by rw [hstops, hstop]; decide), hkept, hp]
  exact changeMode_mode ..

theorem modeBoundary_brake_quiet (h : s.mode.mode = .brake) (hentered : s.mode.brakeAt < s.tb) (hquiet : s.allQuiet = true) :
    s.modeBoundary.mode.mode = .hold := by
  obtain ⟨hmode, -, hat⟩ := boundaryRequests_mode s
  have F := Frame.boundaryRequests s
  have hclk : s.boundaryRequests.tb = s.tb := State.tb_congr (F.keep .clk (by decide))
  have hquiet' : s.boundaryRequests.allQuiet = true := by
    unfold State.allQuiet at *
    rw [F.keep .ax (by decide), F.keep .aux (by decide)]
    exact hquiet
  unfold State.modeBoundary
  rw [← State.boundaryRequests]
  generalize s.boundaryRequests = r at *
  dsimp only
  rw [hmode, h]
  dsimp only
  rw [if_pos (by rw [Bool.and_eq_true, decide_eq_true_eq, hat, hclk]; exact ⟨hentered, hquiet'⟩)]
  exact backToHold_mode ..

end

/-! ## From the change of mode to the end of the boundary -/

theorem modeOrSafe_boundaryRest (s : State) : ModeOrSafe s s.boundaryRest := by
  unfold State.boundaryRest
  refine .next (Frame.canBoundary _) (by decide) (.next (Frame.sipBoundary _) (by decide) (.next (Frame.fabBoundary _) (by decide) (.next (Frame.waitDrain _) (by decide) ?_)))
  refine .trans (.next (Frame.soRequest _) (by decide) ?_) (modeOrSafe_soEval _)
  refine .of_frame (K := [.snt, .sns, .aux]) ?_ (by decide)
  refine Frame.foldlFrom (Frame.foldlFrom (Frame.foldlFrom (Frame.foldlFrom (Frame.foldlFrom (Frame.refl ..) ?_) ?_) ?_) ?_) ?_
  · exact fun t n h => h.frame (Frame.resample ..)
  · exact fun t x h => h.frame (Frame.auxResample ..)
  · exact fun t n h => .ite (h.frame (Frame.snsBoundary ..)) h
  · exact fun t e h => .ite (h.frame (Frame.encCapture ..)) h
  · exact fun t a h => .ite (h.frame (Frame.freqBoundary ..)) h

theorem modeOrSafe_boundaryBehind (s : State) : ModeOrSafe s s.boundaryBehind :=
  .ite (.next (Frame.workStart _) (by decide) (modeOrSafe_boundaryRest s)) (modeOrSafe_boundaryRest s)

/-- Behind the judgement of the tick a boundary takes the mode that the change of mode gives, or SAFE. -/
theorem boundary_mode (s : State) {m : Mode} (h : s.tickJudge.modeBoundary.mode.mode = m) : s.boundary.mode.mode = m ∨ s.boundary.mode.mode = .safe := by
  rw [boundary_eq, ← h]
  refine ModeOrSafe.mode_eq (s := s.tickJudge.modeBoundary) ?_
  exact ModeOrSafe.trans (.trans (.of_frame (Frame.handOver _) (by decide)) (.of_frame (Frame.tickNext _) (by decide))) (modeOrSafe_boundaryBehind _)

section
variable {s : State} {dt : Nat}

/-- The tick that a boundary judges decides nothing of the mode. -/
theorem tickJudge_parts (s : State) : s.tickJudge.mode = s.mode ∧ s.tickJudge.degr = s.degr ∧ s.tickJudge.tb = s.tb ∧ s.tickJudge.allQuiet = s.allQuiet := by
  have F := Frame.tickJudge s
  refine ⟨F.keep .mode (by decide), State.degr_congr (F.keep .snt (by decide)) (F.keep .sns (by decide)) (F.keep .tbs (by decide)),
    State.tb_congr (F.keep .clk (by decide)), ?_⟩
  unfold State.allQuiet
  rw [F.keep .ax (by decide), F.keep .aux (by decide)]

/-- Each mode before a boundary, and the mode behind it. -/
theorem boundary_modes (s : State) :
    (∀ d, s.mode.mode = .hold → s.mode.drivePending = some d → d.tested = true →
      s.boundary.mode.mode = (if s.degr = 0 then .drive else .limp) ∨ s.boundary.mode.mode = .safe) ∧
    (s.mode.mode = .hold → s.mode.drivePending = none → s.boundary.mode.mode = .hold ∨ s.boundary.mode.mode = .safe) ∧
    (s.mode.mode = .drive → s.mode.stop ≠ 0 → s.boundary.mode.mode = .brake ∨ s.boundary.mode.mode = .safe) ∧
    (s.mode.mode = .limp → s.mode.stop ≠ 0 → s.boundary.mode.mode = .brake ∨ s.boundary.mode.mode = .safe) ∧
    (s.mode.mode = .drive → s.mode.stop = 0 → s.boundary.mode.mode = (if s.degr = 0 then .drive else .limp) ∨ s.boundary.mode.mode = .safe) ∧
    (s.mode.mode = .limp → s.mode.stop = 0 → s.degr = 0 → s.mode.limpAck.isSome = true →
      s.boundary.mode.mode = .drive ∨ s.boundary.mode.mode = .safe) ∧
    (s.mode.mode = .brake → s.mode.brakeAt < s.tb → s.allQuiet = true → s.boundary.mode.mode = .hold ∨ s.boundary.mode.mode = .safe) := by
  obtain ⟨hmode, hdegr, htb, hquiet⟩ := tickJudge_parts s
  rw [← hmode, ← hdegr, ← htb, ← hquiet]
  exact ⟨fun d h hd ht => boundary_mode s (modeBoundary_hold_tested h hd ht), fun h hd => boundary_mode s (modeBoundary_hold_idle h hd),
    fun h hstop => boundary_mode s (modeBoundary_stop (.inl h) hstop), fun h hstop => boundary_mode s (modeBoundary_stop (.inr h) hstop),
    fun h hstop => boundary_mode s (modeBoundary_drive h hstop),
    fun h hstop hd hack => boundary_mode s (modeBoundary_limp_acknowledged h hstop hd hack),
    fun h hentered hq => boundary_mode s (modeBoundary_brake_quiet h hentered hq)⟩

end

end Sys2Proof.Machine
end

section
/-! PROOF. Faults of main axes: what the fault of one axis leaves of another, and the end of the BRAKE timeout (R120, R270, R271). -/
set_option Elab.async false

namespace Sys2Proof.Machine

/-- A word that is put leaves what is read elsewhere. -/
theorem cellGet_put_ne {α : Type} (d : Nat → α) {a b : Nat} (v : Option α) (l : List (Nat × α)) (h : a ≠ b) :
    cellGet d (cellPut a v l) b = cellGet d l b := by
  induction l with
  | nil =>
    cases v with
    | none => rfl
    | some x => exact if_neg h
  | cons c t ih =>
    obtain ⟨k, w⟩ := c
    have hput (r : List (Nat × α)) : cellGet d ((v.map (fun x => (a, x))).toList ++ r) b = cellGet d r b := by
      cases v with
      | none => rfl
      | some x => exact if_neg h
    unfold cellPut
    split
    · exact hput _
    · split
      · next hk =>
        rw [hput, cellGet, if_neg (hk ▸ h)]
      · rw [cellGet, cellGet, ih]

theorem Regs.get_set_ne {r : Regs} {a b : Nat} {v : Word} (h : a ≠ b) : (r.set a v).get b = r.get b := cellGet_put_ne _ _ _ h

/-- What decides of a fault of axis `n`: the axis, its registers but for command words, the analog inputs, the bars of an ASC and the mode. -/
structure AxisKept (n : Fin 6) (s t : State) : Prop where
  axis : t.ax[n] = s.ax[n]
  regs : ∀ a, (∀ m : Fin 6, Reg.AXn_CMD m ≠ a) → t.regs.get a = s.regs.get a
  ain : t.sns.ain = s.sns.ain
  latched : t.gd.ax[axis10 n].latched = s.gd.ax[axis10 n].latched
  bars : t.gd.uv = s.gd.uv ∧ t.gd.ov = s.gd.ov ∧ t.gd.swClosed = s.gd.swClosed ∧ t.gd.blocked = s.gd.blocked
  mode : t.mode = s.mode

namespace AxisKept

variable {n : Fin 6} {s t u : State}

theorem refl (s : State) : AxisKept n s s := ⟨rfl, fun _ _ => rfl, rfl, rfl, ⟨rfl, rfl, rfl, rfl⟩, rfl⟩

theorem trans (h : AxisKept n s t) (k : AxisKept n t u) : AxisKept n s u := by
  obtain ⟨b1, b2, b3, b4⟩ := h.bars
  obtain ⟨c1, c2, c3, c4⟩ := k.bars
  exact ⟨k.axis.trans h.axis, fun a ha => (k.regs a ha).trans (h.regs a ha), k.ain.trans h.ain, k.latched.trans h.latched,
    ⟨c1.trans b1, c2.trans b2, c3.trans b3, c4.trans b4⟩, k.mode.trans h.mode⟩

theorem frame {K : List StPart} (h : AxisKept n s t) (F : Frame K t u) (hax : .ax ∉ K := by decide) (hregs : .regs ∉ K := by decide)
    (hsns : .sns ∉ K := by decide) (hgd : .gd ∉ K := by decide) (hmode : .mode ∉ K := by decide) : AxisKept n s u := by
  have hr : u.regs = t.regs := F.keep .regs hregs
  have hg : u.gd = t.gd := F.keep .gd hgd
  refine h.trans ⟨congrArg (·[n]) (F.keep .ax hax), fun a _ => by rw [hr], congrArg SnsSt.ain (F.keep .sns hsns), by rw [hg], ?_, F.keep .mode hmode⟩
  rw [hg]
  exact ⟨rfl, rfl, rfl, rfl⟩

theorem ite {c : Prop} [Decidable c] (h : AxisKept n s t) (k : AxisKept n s u) : AxisKept n s (if c then t else u) := by
  split
  · exact h
  · exact k

/-! What concerns another axis keeps all of it. -/

variable {m : Fin 6}

theorem modAx (h : AxisKept n s t) (hm : n ≠ m) (f : AxSt → AxSt) : AxisKept n s (t.modAx m f) :=
  h.trans ⟨State.modAx_other t m n f hm, fun _ _ => rfl, rfl, rfl, ⟨rfl, rfl, rfl, rfl⟩, rfl⟩

theorem axis10_ne (hm : n ≠ m) : axis10 n ≠ axis10 m := by
  revert n m
  decide

theorem modGd (h : AxisKept n s t) (hm : n ≠ m) (f : GdAx → GdAx) : AxisKept n s (t.modGd (axis10 m) f) :=
  h.trans ⟨rfl, fun _ _ => rfl, rfl, congrArg GdAx.latched (State.modGd_other t (axis10 m) (axis10 n) f (axis10_ne hm)),
    ⟨rfl, rfl, rfl, rfl⟩, rfl⟩

theorem modSns (h : AxisKept n s t) (f : SnsAx → SnsAx) : AxisKept n s (t.modSns m f) :=
  h.trans ⟨rfl, fun _ _ => rfl, rfl, rfl, ⟨rfl, rfl, rfl, rfl⟩, rfl⟩

theorem resetCommand (h : AxisKept n s t) : AxisKept n s (t.resetCommand m) := by
  refine h.trans ⟨rfl, fun a ha => ?_, rfl, rfl, ⟨rfl, rfl, rfl, rfl⟩, rfl⟩
  exact Regs.get_set_ne (ha m)

theorem epuStop (h : AxisKept n s t) (hm : n ≠ m) : AxisKept n s (t.epuStop (axis10 m)) := (h.frame (Frame.modSnt ..)).modGd hm _

theorem axDown (h : AxisKept n s t) (hm : n ≠ m) (st : AxState) : AxisKept n s (t.axDown m st) :=
  ((h.frame (Frame.crashEnd ..)).epuStop hm).modAx hm _

theorem axHaltOff (h : AxisKept n s t) (hm : n ≠ m) (r : Nat) : AxisKept n s (t.axHaltOff m r) :=
  (((h.axDown hm .halt).modAx hm _).modGd hm _).resetCommand

theorem axStop (h : AxisKept n s t) (hm : n ≠ m) (k : StopKind) : AxisKept n s (t.axStop m k) := by
  have F := Frame.axStop t m k
  have hr : (t.axStop m k).regs = t.regs := F.keep .regs (by decide)
  have hg : (t.axStop m k).gd = t.gd := F.keep .gd (by decide)
  refine h.trans ⟨State.axStop_other t m n k hm, fun a _ => by rw [hr], congrArg SnsSt.ain (F.keep .sns (by decide)), by rw [hg], ?_,
    F.keep .mode (by decide)⟩
  rw [hg]
  exact ⟨rfl, rfl, rfl, rfl⟩

theorem ascEnter (h : AxisKept n s t) (hm : n ≠ m) (cause : Nat) (high follow : Bool) (at' : Nat) (coast : Option (Nat × Rat)) :
    AxisKept n s (t.ascEnter m cause high follow at' coast) := by
  unfold State.ascEnter
  refine AxisKept.modAx (AxisKept.frame (AxisKept.modGd ?_ hm _) (Frame.crashEnd ..)) hm _
  exact .ite h ((h.frame (Frame.epuStart ..)).modSns _)

theorem axFault (h : AxisKept n s t) (hm : n ≠ m) (r : Nat) (cls : FltClass) : AxisKept n s (t.axFault m r cls) := by
  unfold State.axFault
  extract_lets code x on u
  have hu : AxisKept n s u := (h.modAx hm _).resetCommand
  clear_value u
  split
  · exact h
  split
  · exact h.axStop hm _
  split
  · exact h.axHaltOff hm r
  split
  · exact .ite (.ite hu (hu.frame (Frame.event ..))) (h.axHaltOff hm r)
  split
  · exact ((h.ascEnter hm ..).modAx hm _).resetCommand
  · exact .ite ((h.ascEnter hm ..).modAx hm _).resetCommand (h.axHaltOff hm r)

/-! What it decides. -/

theorem reaction_timeout (h : AxisKept n s t) : t.reaction n .timeout = s.reaction n .timeout := by
  have hne : ∀ n m : Fin 6, Reg.AXn_CMD m ≠ Reg.AXn_FLT_REACT n := by decide
  exact congrArg (fld · 12 2) (h.regs _ (hne n))

theorem ascBarred (h : AxisKept n s t) : t.ascBarred n = s.ascBarred n := by
  obtain ⟨huv, hov, hsw, hblocked⟩ := h.bars
  unfold State.ascBarred
  rw [h.latched, h.axis, huv, hov, hsw, hblocked, h.mode]

theorem nAsc (h : AxisKept n s t) : t.nAsc n = s.nAsc n := by
  have hvin : ∀ n m : Fin 6, Reg.AXn_CMD m ≠ Reg.SNS_AXn_VIN n := by decide
  have hfrac : ∀ n m : Fin 6, Reg.AXn_CMD m ≠ Reg.AXn_ASC_FRAC n := by decide
  have hpoles : ∀ n m : Fin 6, Reg.AXn_CMD m ≠ Reg.AXn_FOC_CFG n := by decide
  have hpsi : ∀ n m : Fin 6, Reg.AXn_CMD m ≠ Reg.AXn_MOT_PSI n := by decide
  unfold State.nAsc State.vdcAin Regs.SNS_AXn_VIN_VDC Regs.AXn_ASC_FRAC Regs.AXn_FOC_CFG_POLES Regs.AXn_MOT_PSI
  simp only [h.regs _ (hvin n), h.regs _ (hfrac n), h.regs _ (hpoles n), h.regs _ (hpsi n), h.ain]
  rfl

theorem axAlloc (h : AxisKept n s t) : t.axAlloc n = s.axAlloc n := by
  have hne : ∀ n m : Fin 6, Reg.AXn_CMD m ≠ Reg.GD_AXn_MAP n := by decide
  unfold State.axAlloc Regs.GD_AXn_MAP_EN
  rw [h.regs _ (hne n)]

end AxisKept

/-! ## The BRAKE timeout -/

/-- What the BRAKE timeout does to a main axis. -/
def State.brakeFault (s : State) (n : Fin 6) : State :=
  if s.axAlloc n && !s.ax[n].state.quiet then (s.event s.tb (Unit.ax n) 0x0A0B 0 (rpm10 (s.axSpeed n))).axFault n 0x0A0B .timeout else s

/-- What it does to an auxiliary axis. -/
def State.brakeHalt (s : State) (x : Fin 4) : State :=
  match s.aux[x].state with
  | .off | .ready | .halt => s
  | .homing | .run | .stop => (s.event s.tb (Unit.aux x) 0x0A0B 0 (rpm10 (s.auxSpeedAt x s.tb))).auxHalt x 0x0A0B

theorem brakeTimeout_due {s : State} (hrun : s.running = true) (hmode : s.mode.mode = .brake) (hnew : s.mode.brakeTmo = false)
    (htime : s.mode.brakeAt + s.regs.DEV_MODE_CFG_BRAKE_TMO * 1000000000 ≤ s.tb) :
    s.brakeTimeout = (List.finRange 4).foldl State.brakeHalt
      ((List.finRange 6).foldl State.brakeFault (s.onMode (fun m => { m with brakeTmo := true }))) := by
  have hdue : (s.running && s.mode.mode == .brake && !s.mode.brakeTmo &&
      decide (s.mode.brakeAt + s.regs.DEV_MODE_CFG_BRAKE_TMO * 1000000000 ≤ s.tb)) = true := by
    simp only [hrun, hmode, hnew, decide_eq_true htime, beq_self_eq_true, Bool.not_false, Bool.and_self]
  rw [State.brakeTimeout, if_pos hdue]
  rfl

theorem Frame.brakeHalt (s : State) (x : Fin 4) : Frame [.recs, .regs, .snt, .gd, .aux] s (s.brakeHalt x) := by
  unfold State.brakeHalt
  split
  case h_1 | h_2 | h_3 => exact Frame.refl ..
  case h_4 | h_5 | h_6 => exact Frame.next (Frame.auxHalt ..) (by decide) (Frame.next (Frame.event ..) (by decide) (Frame.refl ..))

/-- The BRAKE timeout stands for one axis, and for an axis that rests. -/
theorem brakeFault_other {s t : State} {n m : Fin 6} (h : AxisKept n s t) (hm : n ≠ m) : AxisKept n s (t.brakeFault m) :=
  .ite ((h.frame (Frame.event ..)).axFault hm ..) h

theorem foldl_brakeFault_other {s t : State} {n : Fin 6} (l : List (Fin 6)) (hl : n ∉ l) (h : AxisKept n s t) :
    AxisKept n s (l.foldl State.brakeFault t) := by
  induction l generalizing t with
  | nil => exact h
  | cons m l ih =>
    exact ih (fun hm => hl (List.mem_cons_of_mem _ hm)) (brakeFault_other h fun hm => hl (hm ▸ List.mem_cons_self ..))

theorem Frame.brakeFault (s : State) (n : Fin 6) : Frame [.recs, .regs, .snt, .sns, .ax, .gd, .cmd] s (s.brakeFault n) :=
  .ite ((Frame.refl ..).frame (Frame.event ..) |>.frame (Frame.axFault ..)) (.refl ..)

theorem brakeFault_moves {s : State} {n : Fin 6} (halloc : s.axAlloc n = true) (hmoves : s.ax[n].state.quiet = false) :
    Faulted s (s.brakeFault n) n 0x0A0B .timeout := by
  have hnothalt : s.ax[n].state ≠ .halt := by
    intro h
    rw [h] at hmoves
    cases hmoves
  rw [State.brakeFault, if_pos (by rw [Bool.and_eq_true, Bool.not_eq_true']; exact ⟨halloc, hmoves⟩)]
  have F := Frame.event s s.tb (Unit.ax n) 0x0A0B 0 (rpm10 (s.axSpeed n)) 0
  exact State.axFault_faulted s _ n _ _ (F.keep .ax (by decide)) (F.keep .regs (by decide))
    (State.nAsc_congr (F.keep .regs (by decide)) (F.keep .sns (by decide)) n) (F.keep .gd (by decide)) (F.keep .mode (by decide)) hnothalt

/-- What the fold over the main axes leaves of one of them: what its own turn leaves. -/
theorem foldl_brakeFault_axis (s : State) (n : Fin 6) :
    ∃ u, AxisKept n s u ∧ ((List.finRange 6).foldl State.brakeFault s).ax[n] = (u.brakeFault n).ax[n] := by
  obtain ⟨before, behind, hsplit⟩ := List.append_of_mem (List.mem_finRange n)
  have hnodup := List.nodup_finRange 6
  rw [hsplit, List.nodup_append] at hnodup
  obtain ⟨-, hbehind, hbefore⟩ := hnodup
  have hnotBefore : n ∉ before := fun hm => hbefore n hm n (List.mem_cons_self ..) rfl
  have hnotBehind : n ∉ behind := (List.nodup_cons.1 hbehind).1
  refine ⟨_, foldl_brakeFault_other before hnotBefore (AxisKept.refl s), ?_⟩
  rw [hsplit, List.foldl_append, List.foldl_cons]
  exact (foldl_brakeFault_other behind hnotBehind (AxisKept.refl _)).axis

/-- An axis that rests, or is not in use, is left by its own turn too. -/
theorem brakeFault_rests {s : State} {n : Fin 6} (h : s.axAlloc n = false ∨ s.ax[n].state.quiet = true) : s.brakeFault n = s := by
  refine if_neg ?_
  rw [Bool.and_eq_true, Bool.not_eq_true']
  rintro ⟨halloc, hmoves⟩
  rcases h with h | h
  · rw [h] at halloc
    cases halloc
  · rw [h] at hmoves
    cases hmoves

theorem foldl_brakeFault_rests {s : State} {n : Fin 6} (h : s.axAlloc n = false ∨ s.ax[n].state.quiet = true) :
    ((List.finRange 6).foldl State.brakeFault s).ax[n] = s.ax[n] := by
  obtain ⟨u, hkept, hax⟩ := foldl_brakeFault_axis s n
  rw [hax, brakeFault_rests (by rw [hkept.axAlloc, hkept.axis]; exact h)]
  exact hkept.axis

theorem foldl_brakeFault_moves {s : State} {n : Fin 6} (halloc : s.axAlloc n = true) (hmoves : s.ax[n].state.quiet = false) :
    ((List.finRange 6).foldl State.brakeFault s).ax[n].haltReason = 0x0A0B ∧
    (s.reaction n .timeout = 0 → absR s.ax[n].eng.speed < s.nAsc n → ((List.finRange 6).foldl State.brakeFault s).ax[n].state = .halt) ∧
    (s.reaction n .timeout ≠ 2 → s.ascBarred n = true → ((List.finRange 6).foldl State.brakeFault s).ax[n].state = .halt) ∧
    (s.reaction n .timeout = 1 → s.ascBarred n = false → ((List.finRange 6).foldl State.brakeFault s).ax[n].state = .asc ∧
      ((List.finRange 6).foldl State.brakeFault s).ax[n].ascSt.cause = 2) := by
  obtain ⟨u, hkept, hax⟩ := foldl_brakeFault_axis s n
  obtain ⟨hreason, hcoast, hasc, hbarred, -, -⟩ := brakeFault_moves (hkept.axAlloc.trans halloc) (by rw [hkept.axis]; exact hmoves)
  rw [hkept.reaction_timeout] at hcoast hasc hbarred
  rw [hkept.axis, hkept.nAsc] at hcoast
  rw [hkept.ascBarred] at hasc hbarred
  rw [hax]
  refine ⟨hreason, hcoast, hbarred, fun hr hb => ?_⟩
  obtain ⟨hstate, hcause, -⟩ := hasc hr (by decide) hb
  exact ⟨hstate, hcause⟩

/-! ## The auxiliary axes -/

theorem brakeHalt_other (s : State) {x y : Fin 4} (h : y ≠ x) : (s.brakeHalt x).aux[y] = s.aux[y] := by
  unfold State.brakeHalt
  split
  case h_1 | h_2 | h_3 => rfl
  all_goals
    obtain ⟨-, -, hother⟩ := State.auxHalt_aux (s.event s.tb (Unit.aux x) 0x0A0B 0 (rpm10 (s.auxSpeedAt x s.tb))) x 0x0A0B
    rw [hother y h, (Frame.event ..).keep .aux (by decide)]

theorem brakeHalt_moves {s : State} {x : Fin 4} (h : s.aux[x].state = .homing ∨ s.aux[x].state = .run ∨ s.aux[x].state = .stop) :
    (s.brakeHalt x).aux[x].state = .halt ∧ (s.brakeHalt x).aux[x].haltReason = 0x0A0B := by
  obtain ⟨hstate, hreason, -⟩ := State.auxHalt_aux (s.event s.tb (Unit.aux x) 0x0A0B 0 (rpm10 (s.auxSpeedAt x s.tb))) x 0x0A0B
  have hhalt : s.brakeHalt x = (s.event s.tb (Unit.aux x) 0x0A0B 0 (rpm10 (s.auxSpeedAt x s.tb))).auxHalt x 0x0A0B := by
    unfold State.brakeHalt
    rcases h with h | h | h <;> rw [h]
  rw [hhalt]
  exact ⟨hstate, hreason⟩

theorem foldl_brakeHalt_other {s : State} {x : Fin 4} (l : List (Fin 4)) (hl : x ∉ l) : (l.foldl State.brakeHalt s).aux[x] = s.aux[x] := by
  induction l generalizing s with
  | nil => rfl
  | cons y l ih =>
    rw [List.foldl_cons, ih (fun hm => hl (List.mem_cons_of_mem _ hm)), brakeHalt_other s fun h => hl (by rw [h]; exact List.mem_cons_self ..)]

theorem foldl_brakeHalt_moves {s : State} {x : Fin 4} (h : s.aux[x].state = .homing ∨ s.aux[x].state = .run ∨ s.aux[x].state = .stop) :
    ((List.finRange 4).foldl State.brakeHalt s).aux[x].state = .halt ∧ ((List.finRange 4).foldl State.brakeHalt s).aux[x].haltReason = 0x0A0B := by
  obtain ⟨before, behind, hsplit⟩ := List.append_of_mem (List.mem_finRange x)
  have hnodup := List.nodup_finRange 4
  rw [hsplit, List.nodup_append] at hnodup
  obtain ⟨-, hbehind, hbefore⟩ := hnodup
  have hnotBefore : x ∉ before := fun hm => hbefore x hm x (List.mem_cons_self ..) rfl
  have hnotBehind : x ∉ behind := (List.nodup_cons.1 hbehind).1
  rw [hsplit, List.foldl_append, List.foldl_cons, foldl_brakeHalt_other behind hnotBehind]
  exact brakeHalt_moves (by rw [foldl_brakeHalt_other before hnotBefore]; exact h)

end Sys2Proof.Machine
end

section
/-! PROOF. O17. -/
set_option Elab.async false

namespace Sys2Proof.Machine

/-- BRAKE_TMO: the timeout is noted in BRAKE, every auxiliary axis that moves is halted, and every main axis that moves is faulted. -/
theorem exec_brakeTmo {s : State} {dt : Nat} (hrun : s.running = true) (hmode : s.mode.mode = .brake) (hnew : s.mode.brakeTmo = false)
    (htime : s.mode.brakeAt + s.regs.DEV_MODE_CFG_BRAKE_TMO * 1000000000 ≤ s.tbAt dt) :
    ∃ t w : State, exec (.brakeTmo dt) s = .next t ∧ w = (s.advance dt).onMode (fun m => { m with brakeTmo := true }) ∧
      t.mode.brakeTmo = true ∧ t.mode.mode = .brake ∧ t.ax = ((List.finRange 6).foldl State.brakeFault w).ax ∧
      t.aux = ((List.finRange 4).foldl State.brakeHalt ((List.finRange 6).foldl State.brakeFault w)).aux ∧
      ((List.finRange 6).foldl State.brakeFault w).aux = s.aux := by
  have hexec := exec_next_of (c := .brakeTmo dt) rfl (brakeTimeout_due (s := s.advance dt) hrun hmode hnew htime)
  refine ⟨_, _, hexec, rfl, ?_⟩
  have hmains := Frame.foldl (List.finRange 6) State.brakeFault Frame.brakeFault ((s.advance dt).onMode (fun m => { m with brakeTmo := true }))
  generalize (List.finRange 6).foldl State.brakeFault ((s.advance dt).onMode (fun m => { m with brakeTmo := true })) = u at *
  have hauxs := Frame.foldl (List.finRange 4) State.brakeHalt Frame.brakeHalt u
  generalize (List.finRange 4).foldl State.brakeHalt u = v at *
  have hmodes : v.mode = { s.mode with brakeTmo := true } := (hauxs.keep .mode (by decide)).trans (hmains.keep .mode (by decide))
  refine ⟨?_, ?_, hauxs.keep .ax (by decide), rfl, hmains.keep .aux (by decide)⟩
  · exact congrArg ModeSt.brakeTmo hmodes
  · exact (congrArg ModeSt.mode hmodes).trans hmode

/-- Where no time has passed but that of the clock, what a boundary makes of the mode is told by the state before it. -/
theorem boundary_modes_advance (s : State) (dt : Nat) : (s.advance dt).degr = s.degr ∧ (s.advance dt).allQuiet = s.allQuiet := ⟨rfl, rfl⟩

theorem settle_mode_mode (s : State) : s.settle.mode.mode = s.mode.mode := rfl

theorem exec_outerTickBoundary_modes {s : State} {dt : Nat} (hrun : s.running = true) (hb : s.tbAt dt % s.period = 0) (hlater : s.tick.began < s.tbAt dt) :
    ∃ t, exec (.outerTickBoundary dt) s = .next t ∧ t.mode.mode = (s.advance dt).boundary.mode.mode :=
  ⟨_, exec_outerTickBoundary hrun hb hlater, settle_mode_mode _⟩

theorem exec_brakeTmo_axes {s : State} {dt : Nat} (hrun : s.running = true) (hmode : s.mode.mode = .brake) (hnew : s.mode.brakeTmo = false)
    (htime : s.mode.brakeAt + s.regs.DEV_MODE_CFG_BRAKE_TMO * 1000000000 ≤ s.tbAt dt) :
    ∃ t, exec (.brakeTmo dt) s = .next t ∧ t.mode.brakeTmo = true ∧ t.mode.mode = .brake ∧
      (∀ x : Fin 4, (s.aux[x].state = .homing ∨ s.aux[x].state = .run ∨ s.aux[x].state = .stop) →
        t.aux[x].state = .halt ∧ t.aux[x].haltReason = 0x0A0B) ∧
      (∀ n : Fin 6, s.regs.wf = true → s.axAlloc n = true → s.ax[n].state.quiet = false → t.ax[n].haltReason = 0x0A0B ∧
        (s.reaction n .timeout = 0 → absR s.ax[n].eng.speed < s.nAsc n → t.ax[n].state = .halt) ∧
        (s.reaction n .timeout ≠ 2 → s.ascBarred n = true → t.ax[n].state = .halt) ∧
        (s.reaction n .timeout = 1 → s.ascBarred n = false → t.ax[n].state = .asc ∧ t.ax[n].ascSt.cause = 2)) ∧
      (∀ n : Fin 6, s.axAlloc n = false ∨ s.ax[n].state.quiet = true → t.ax[n] = s.ax[n]) := by
  obtain ⟨t, w, hexec, hw, htmo, hbrake, hax, haux, hauxs⟩ := exec_brakeTmo hrun hmode hnew htime
  refine ⟨t, hexec, htmo, hbrake, fun x hx => ?_, fun n _ halloc hmoves => ?_, fun n hn => ?_⟩
  · rw [haux]
    exact foldl_brakeHalt_moves (by rw [hauxs]; exact hx)
  · rw [hax, hw]
    exact foldl_brakeFault_moves (s := (s.advance dt).onMode (fun m => { m with brakeTmo := true })) halloc hmoves
  · rw [hax, hw]
    exact foldl_brakeFault_rests (s := (s.advance dt).onMode (fun m => { m with brakeTmo := true })) hn

/-- Settles O17: the boundary from each mode, and the BRAKE timeout axis by axis. -/
theorem boundaryChangesMode : Obligations.BoundaryChangesMode := by
  intro s dt hrun
  refine ⟨fun hb hlater => ?_, exec_brakeTmo_axes hrun⟩
  obtain ⟨t, hexec, hmode⟩ := exec_outerTickBoundary_modes hrun hb hlater
  obtain ⟨hdegr, hquiet⟩ := boundary_modes_advance s dt
  have hmodes := boundary_modes (s.advance dt)
  rw [hdegr, hquiet, ← hmode] at hmodes
  exact ⟨t, hexec, hmodes⟩

end Sys2Proof.Machine
end

section
/-! PROOF. Commands of main axes (R235 to R238, R255, R275, R404): command words, setpoints, heave samples, crash stops, a lost CAN source. -/
set_option Elab.async false

namespace Sys2Proof.Machine

/-- A write of an entry whose frame began `age` ns before it. -/
theorem exec_write_aged {c : Instr} {s u : State} {dt : Nat} {o : Origin} {addr : Option Nat} {f : Ctx → State → Res} {ws : List Word} {age : Nat}
    (hexec : exec c s = done ((s.advance dt).entry o 2 addr f (ws := ws) (age := age))) (hw : s.writes o = true)
    (hf : f { (s.advance dt).ctx o 2 with stamp := (s.advance dt).tb - age } (s.advance dt) = ack u) (hc : u.cp = s.cp := by rfl)
    (hk : u.clk = (s.advance dt).clk := by rfl) :
    exec c s = .next ({ u with cp := (s.advance dt).cpWrote o } : State).settle := by
  obtain ⟨hserves, hpair⟩ := writes_split hw
  refine exec_next_of hexec ?_
  rw [State.entry_ack (s.advance dt) o 2 addr f 1 false ws [] false age u { status := 0 } hserves (.inr (.inr hpair)) hf rfl]
  congr 1
  exact cpAfter_congr o 2 _ hc hk

section
variable {s : State} {c : Ctx} {n : Fin 6}

/-- The command word of a mode and the HEAVE bit: its MODE field, and no other bit. -/
theorem cmdWord (m : Nat) (heave : Bool) (hm : m < 4) :
    fld (w32 (m + 16 * b2n heave)) 0 3 = m ∧ w32 (m + 16 * b2n heave) &&& 0x17#32 = w32 (m + 16 * b2n heave) := by
  have hall : ∀ m : Fin 4, ∀ heave : Bool, fld (w32 (m.val + 16 * b2n heave)) 0 3 = m.val ∧
      w32 (m.val + 16 * b2n heave) &&& 0x17#32 = w32 (m.val + 16 * b2n heave) := by decide
  exact hall ⟨m, hm⟩ heave

theorem doAxisCmd_eq {m : Nat} {heave : Bool} (hm : m < 4) (h : s.holds c.o = true) :
    doAxisCmd n c s (w32 (m + 16 * b2n heave)) =
      if s.setOk n m (s.regs.AXn_CMD_SET n) = false then nak s St.range
      else if s.axAlloc n = false ∨ (s.mode.mode = .hold ∧ m ≠ 0) then nak s St.state
      else ack ((s.onRegs (fun r => r.set (Reg.AXn_CMD n) (w32 (m + 16 * b2n heave)))).wrote n c) := by
  obtain ⟨hfld, hmask⟩ := cmdWord m heave hm
  unfold doAxisCmd
  rw [needRights_may' false c s _ (may_of_holds h)]
  have hle : ¬ 3 < m := by omega
  simp only [hfld, hmask, hle, false_or, Bool.not_eq_true']

theorem doAxisSet_eq {v w : Word} (hv : f32Norm w = some v) (halloc : s.axAlloc n = true) (h : s.holds c.o = true) :
    doAxisSet n c s w =
      if s.setOk n (s.regs.AXn_CMD_MODE n) (f32ToRat v) = true then ack ((s.onRegs (fun r => r.set (Reg.AXn_CMD_SET n) v)).wrote n c)
      else nak s St.range := by
  unfold doAxisSet
  rw [needRights_may' false c s _ (may_of_holds h), hv]
  cases hok : s.setOk n (s.regs.AXn_CMD_MODE n) (f32ToRat v) <;> simp [hok, halloc]

/-- A sample of the heave reference is later than the one in use, or it changes nothing. -/
theorem takeHeave_first {tm : Nat} {v a : Rat} (h : s.cmd.ax[n].hcRef = none) :
    s.takeHeave n tm v a = s.modCmd n (fun x => { x with hcRef := some (tm, v, a), hcCan := false }) := by
  have h' : s.cmd.ax[n.val].hcRef = none := h
  simp only [State.takeHeave, State.modCmd, State.onCmd, vset, Fin.getElem_fin, h']

theorem takeHeave_old {tm at' : Nat} {v a x y : Rat} (h : s.cmd.ax[n].hcRef = some (at', x, y)) (hold : tm ≤ at') : s.takeHeave n tm v a = s := by
  have h' : s.cmd.ax[n.val].hcRef = some (at', x, y) := h
  simp [State.takeHeave, State.modCmd, State.onCmd, vset, h', hold]

theorem doHeaveA_eq {v w : Word} (hv : f32Norm w = some v) (halloc : s.axAlloc n = true) (h : s.holds c.o = true) :
    doHeaveA n c s w = ack ((s.onRegs (fun r => r.set (Reg.AXn_HC_IN_A n) v)).takeHeave n (c.stamp - nsOf (s.regs.AXn_HC_LAT n))
      (s.regs.AXn_HC_IN_V n) (f32ToRat v)) := by
  have hlat : Reg.AXn_HC_IN_A n ≠ Reg.AXn_HC_LAT n := (by decide : ∀ n : Fin 6, Reg.AXn_HC_IN_A n ≠ Reg.AXn_HC_LAT n) n
  have hspeed : Reg.AXn_HC_IN_A n ≠ Reg.AXn_HC_IN_V n := (by decide : ∀ n : Fin 6, Reg.AXn_HC_IN_A n ≠ Reg.AXn_HC_IN_V n) n
  unfold doHeaveA
  rw [needRights_may' false c s _ (may_of_holds h), hv]
  simp only [halloc, Bool.not_true, Bool.false_eq_true, if_false, State.onRegs_regs, Regs.AXn_HC_LAT, Regs.AXn_HC_IN_V, Regs.get_set_ne hlat,
    Regs.get_set_ne hspeed]

theorem doCrash_eq {w : Word} (hbit : bit w 0 = true) (halloc : s.axAlloc n = true) (hmode : s.mode.mode = .drive ∨ s.mode.mode = .limp)
    (hmoves : s.ax[n].state = .catching ∨ s.ax[n].state = .run ∨ (s.ax[n].state = .stop ∧ s.ax[n].stopKind = .command)) (h : s.holds c.o = true) :
    doCrash n c s w = ack (s.modCmd n (fun x => { x with crashOrd := true })) := by
  have hdriving : s.driving = true := by
    unfold State.driving
    rcases hmode with hm | hm <;> rw [hm] <;> rfl
  have hlive : (s.ax[n].state == .catching || s.ax[n].state == .run || (s.ax[n].state == .stop && s.ax[n].stopKind == .command)) = true := by
    rcases hmoves with hs | hs | ⟨hs, hk⟩
    · rw [hs]; rfl
    · rw [hs]; rfl
    · rw [hs, hk]; rfl
  unfold doCrash
  rw [needRights_may' false c s _ (may_of_holds h)]
  simp only [hbit, halloc, hdriving, hlive, Bool.and_self, Bool.not_true, Bool.false_eq_true, Bool.true_eq_false, if_false]

theorem canLost_due {last : Nat} (hrun : s.running = true) (hsrc : s.cmd.ax[n].ownSrc = 2) (hnew : s.cmd.ax[n].can.lost = false)
    (hlast : s.cmd.ax[n].can.lastAt = some last) (htime : last + s.regs.AXn_CMD_CFG_CAN_TMO n * 10000000 ≤ s.tb) :
    s.canLost n = (s.modCmd n (fun x => { x with can := { x.can with lost := true } })).event (last + s.regs.AXn_CMD_CFG_CAN_TMO n * 10000000) (Unit.ax n)
      0x0902 (s.regs.AXn_CMD_CFG_CAN n - 1) (ageUs (s.regs.AXn_CMD_CFG_CAN_TMO n * 10000000)) (s.bindFlag n) := by
  rw [State.canLost, hlast]
  simp only [hrun, hsrc, hnew, decide_eq_true htime, beq_self_eq_true, Bool.not_false, Bool.and_self, if_true]

end

section
variable {s : State} {dt : Nat} {n : Fin 6} {o : Origin}

/-- The four command words are one entry, by their mode. -/
theorem exec_axisCmd {c : Instr} {m : Nat} {heave : Bool}
    (hc : (c = .axisCmdStop dt o n ∧ m = 0 ∧ heave = false) ∨ (c = .axisCmdSpeed dt o n heave ∧ m = 1) ∨
      (c = .axisCmdTorque dt o n heave ∧ m = 2) ∨ (c = .axisCmdTension dt o n heave ∧ m = 3)) :
    exec c s = done ((s.advance dt).axisCmd o n m heave) ∧ m < 4 := by
  rcases hc with ⟨rfl, rfl, rfl⟩ | ⟨rfl, rfl⟩ | ⟨rfl, rfl⟩ | ⟨rfl, rfl⟩
  all_goals exact ⟨rfl, by decide⟩

end

/-- Settles O27: each handler by its cases, and the entry's answer. -/
theorem axisCommands : Obligations.AxisCommands := by
  intro s dt n
  refine ⟨fun o hw ho => ⟨fun c m heave hc => ?_, fun v w hv halloc => ⟨fun hok => ?_, fun hbad => ?_, fun age href _ => ?_,
    fun age at' x y href _ hold => ?_⟩, fun w hbit halloc hmode hmoves => ?_⟩, fun last hrun hsrc hnew hlast htime => ?_⟩
  · obtain ⟨hexec, hm⟩ := exec_axisCmd (s := s) hc
    have hdo := doAxisCmd_eq (s := s.advance dt) (c := (s.advance dt).ctx o 2) (n := n) (heave := heave) hm ho
    refine ⟨fun hok halloc hmode => ?_, fun hbad => ?_, fun hok hno => ?_⟩
    · rw [if_neg (by rw [Bool.not_eq_false]; exact hok), if_neg (by
        rintro (h | ⟨h, hm0⟩)
        · exact absurd (halloc.symm.trans h) (by decide)
        · exact hmode.elim (fun k => k h) hm0)] at hdo
      exact ⟨_, exec_write_ack hexec hw hdo, rfl⟩
    · exact exec_write_refused_only hexec hw (hdo.trans (if_pos (by exact hbad)))
    · exact exec_write_refused_only hexec hw (hdo.trans ((if_neg (by rw [Bool.not_eq_false]; exact hok)).trans (if_pos (by exact hno))))
  · have hdo := doAxisSet_eq (s := s.advance dt) (c := (s.advance dt).ctx o 2) hv halloc ho
    exact ⟨_, exec_write_ack rfl hw (hdo.trans (if_pos (by exact hok))), rfl⟩
  · have hdo := doAxisSet_eq (s := s.advance dt) (c := (s.advance dt).ctx o 2) hv halloc ho
    exact exec_write_refused_only rfl hw (hdo.trans (if_neg (by rw [Bool.not_eq_true]; exact hbad)))
  · have hdo := doHeaveA_eq (s := s.advance dt) (c := { (s.advance dt).ctx o 2 with stamp := (s.advance dt).tb - age }) hv halloc ho
    exact ⟨_, exec_write_aged rfl hw (hdo.trans (congrArg ack (takeHeave_first (by exact href)))), rfl⟩
  · have hdo := doHeaveA_eq (s := s.advance dt) (c := { (s.advance dt).ctx o 2 with stamp := (s.advance dt).tb - age }) hv halloc ho
    exact ⟨_, exec_write_aged rfl hw (hdo.trans (congrArg ack (takeHeave_old (by exact href) hold))), rfl⟩
  · exact ⟨_, exec_write_ack rfl hw (doCrash_eq (s := s.advance dt) (c := (s.advance dt).ctx o 2) hbit halloc hmode hmoves ho), rfl⟩
  · exact ⟨_, exec_next_of rfl (canLost_due (s := s.advance dt) hrun hsrc hnew hlast htime), (but_event ..).trans rfl,
      (Wrote.event_one (run_phase hrun)).settle⟩

end Sys2Proof.Machine
end

section
/-! PROOF. Commands of auxiliary axes (R304, R305). -/
set_option Elab.async false

namespace Sys2Proof.Machine

section
variable {s : State} {c : Ctx} {x : Fin 4}

theorem auxCmdWord (m : Nat) (hm : m < 4) : fld (w32 m) 0 3 = m := by
  have hall : ∀ m : Fin 4, fld (w32 m.val) 0 3 = m.val := by decide
  exact hall ⟨m, hm⟩

/-- A speed beyond the limit is asked by every command but STOP. -/
def State.auxFast (s : State) (x : Fin 4) (m : Nat) : Prop := m ≠ 0 ∧ s.regs.AUXn_SPD_MAX x < absR (s.regs.AUXn_CMD_SET x)

/-- The command fits the state of the axis (R304, R305). -/
def State.auxFit (s : State) (x : Fin 4) (m : Nat) : Prop :=
  s.auxAlloc x = true ∧ (m ≠ 0 → s.mode.mode ≠ .hold) ∧ (m = 2 → s.aux[x].valid = true) ∧
    (m = 3 → (if s.regs.AUXn_HOME_CFG x then s.aux[x].posi.inhibit else s.aux[x].neg.inhibit) = false)

theorem doAuxCmd_fast {m : Nat} (hm : m < 4) (h : s.holds c.o = true) (hfast : s.auxFast x m) : doAuxCmd x c s (w32 m) = nak s St.range := by
  unfold doAuxCmd
  rw [needRights_may' false c s _ (may_of_holds h)]
  simp only [auxCmdWord m hm]
  exact if_pos (.inr hfast)

theorem auxFit_iff (m : Nat) : s.auxFit x m ↔
    (!s.auxAlloc x || (m != 0 && s.mode.mode == .hold) || (m == 2 && !s.aux[x].valid) ||
      (m == 3 && (if s.regs.AUXn_HOME_CFG x then s.aux[x].posi.inhibit else s.aux[x].neg.inhibit))) = false := by
  simp only [State.auxFit, Bool.or_eq_false_iff, Bool.and_eq_false_imp, Bool.not_eq_false', bne_iff_ne, beq_iff_eq, beq_eq_false_iff_ne, and_assoc]

theorem doAuxCmd_slow {m : Nat} (hm : m < 4) (h : s.holds c.o = true) (hslow : ¬ s.auxFast x m) :
    (s.auxFit x m → doAuxCmd x c s (w32 m) = ack (s.onRegs (fun r => r.set (Reg.AUXn_CMD x) (w32 m)))) ∧
    (¬ s.auxFit x m → doAuxCmd x c s (w32 m) = nak s St.state) := by
  have hrange : ¬ (3 < m ∨ (m ≠ 0 ∧ s.regs.AUXn_SPD_MAX x < absR (s.regs.AUXn_CMD_SET x))) := by
    rintro (h3 | hf)
    · omega
    · exact hslow hf
  unfold doAuxCmd
  rw [needRights_may' false c s _ (may_of_holds h)]
  simp only [auxCmdWord m hm, if_neg hrange]
  refine ⟨fun hfit => if_neg ?_, fun hnot => if_pos ?_⟩
  · rw [Bool.not_eq_true]
    exact (auxFit_iff m).1 hfit
  · rw [← Bool.not_eq_false]
    exact fun hk => hnot ((auxFit_iff m).2 hk)

theorem doAuxSet_eq {v w : Word} (hv : f32Norm w = some v) (h : s.holds c.o = true) :
    doAuxSet x c s w =
      if s.regs.AUXn_SPD_MAX x < absR (f32ToRat v) then nak s St.range
      else if s.auxAlloc x = false then nak s St.state
      else ack (s.onRegs (fun r => r.set (Reg.AUXn_CMD_SET x) v)) := by
  unfold doAuxSet
  rw [needRights_may' false c s _ (may_of_holds h), hv]
  simp only [Bool.not_eq_true']

theorem doAuxPos_eq {w : Word} (h : s.holds c.o = true) :
    doAuxPos x c s w = if s.auxAlloc x = false then nak s St.state else ack (s.onRegs (fun r => r.set (Reg.AUXn_CMD_POS x) w)) := by
  unfold doAuxPos
  rw [needRights_may' false c s _ (may_of_holds h)]
  simp only [Bool.not_eq_true']

/-- The four command words are one entry, by their number. -/
theorem exec_auxCmd {dt : Nat} {o : Origin} {c : Instr} {m : Nat}
    (hc : (c = .auxCmdStop dt o x ∧ m = 0) ∨ (c = .auxCmdVelocity dt o x ∧ m = 1) ∨ (c = .auxCmdPosition dt o x ∧ m = 2) ∨
      (c = .auxCmdHome dt o x ∧ m = 3)) : exec c s = done ((s.advance dt).auxCmd o x m) ∧ m < 4 := by
  rcases hc with ⟨rfl, rfl⟩ | ⟨rfl, rfl⟩ | ⟨rfl, rfl⟩ | ⟨rfl, rfl⟩
  all_goals exact ⟨rfl, by decide⟩

end

/-- Settles O30: each handler by its cases, and the entry's answer. -/
theorem auxCommands : Obligations.AuxCommands := by
  intro s dt x o hw ho
  refine ⟨fun c m hc => ?_, fun v w hv => ⟨fun hslow halloc => ?_, fun hfast => ?_⟩, fun w => ⟨fun halloc => ?_, fun habsent => ?_⟩⟩
  · obtain ⟨hexec, hm⟩ := exec_auxCmd (s := s) hc
    have hslow (h : ¬ s.auxFast x m) := doAuxCmd_slow (s := s.advance dt) (c := (s.advance dt).ctx o 2) hm ho h
    refine ⟨fun h hfit => ⟨_, exec_write_ack hexec hw ((hslow h).1 hfit), rfl⟩, fun hfast => ?_, fun h hnot => ?_⟩
    · exact exec_write_refused_only hexec hw (doAuxCmd_fast (s := s.advance dt) (c := (s.advance dt).ctx o 2) hm ho hfast)
    · exact exec_write_refused_only hexec hw ((hslow h).2 hnot)
  · have hdo := doAuxSet_eq (s := s.advance dt) (c := (s.advance dt).ctx o 2) (x := x) hv ho
    rw [if_neg (by exact Rat.not_lt.2 hslow), if_neg (by rw [Bool.not_eq_false]; exact halloc)] at hdo
    exact ⟨_, exec_write_ack rfl hw hdo, rfl⟩
  · exact exec_write_refused_only rfl hw ((doAuxSet_eq (s := s.advance dt) (c := (s.advance dt).ctx o 2) hv ho).trans (if_pos (by exact hfast)))
  · have hdo := doAuxPos_eq (s := s.advance dt) (c := (s.advance dt).ctx o 2) (x := x) (w := w) ho
    rw [if_neg (by rw [Bool.not_eq_false]; exact halloc)] at hdo
    exact ⟨_, exec_write_ack rfl hw hdo, rfl⟩
  · exact exec_write_refused_only rfl hw ((doAuxPos_eq (s := s.advance dt) (c := (s.advance dt).ctx o 2) ho).trans (if_pos (by exact habsent)))

end Sys2Proof.Machine
end

section
/-! PROOF. The clear of an axis (R242, R405). -/
set_option Elab.async false

namespace Sys2Proof.Machine

section
variable {s : State} {c : Ctx} {w : Word}

/-- The axes that a clear names. -/
def clearNames (w : Word) (a : Fin 10) : Bool := if a.val < 6 then bit w a.val else bit w (a.val + 2)

/-- What a clear leaves that names at least one axis: the code of each axis named, and a clear that waits for each that may be cleared. -/
def State.clearAsked (s : State) (port at' : Nat) (named : Fin 10 → Bool) : State :=
  (s.onCmd (fun x => { x with
    clearRef := Vector.ofFn (fun a => if named a then s.clearCode a else 0)
    clears := x.clears ++ (((List.finRange 10).filter named).filter (fun a =>
      (if named a then s.clearCode a else 0) == 0 && s.cmd.clears.all (fun k => k.axis != a))).map
        (fun a => { axis := a, port := port, at' := at', ok := none }) })).onFreeIx (· + 10)

theorem doAxisClear_named (h : s.may true c.o = true) (hany : ∃ a, clearNames w a = true) :
    doAxisClear c s w =
      if ((List.finRange 10).filter (clearNames w)).any (fun a => (if clearNames w a then s.clearCode a else 0) != 0)
      then nak (s.clearAsked (clsPort c.o.cls).val s.tb (clearNames w)) St.state
      else ack (s.clearAsked (clsPort c.o.cls).val s.tb (clearNames w)) := by
  have hnonempty : ((List.finRange 10).filter (clearNames w)).isEmpty = false := by
    obtain ⟨a, ha⟩ := hany
    rw [List.isEmpty_eq_false_iff_exists_mem]
    exact ⟨a, List.mem_filter.2 ⟨List.mem_finRange a, ha⟩⟩
  unfold doAxisClear
  rw [needRights_may' true c s _ h]
  exact if_neg fun hk => absurd (hnonempty.symm.trans hk) (by decide)

theorem doAxisClear_none (h : s.may true c.o = true) (hnone : ∀ a, clearNames w a = false) : doAxisClear c s w = nak s St.range := by
  have hempty : ((List.finRange 10).filter (clearNames w)).isEmpty = true := by
    rw [List.isEmpty_iff, List.filter_eq_nil_iff]
    exact fun a _ => by rw [hnone a]; decide
  unfold doAxisClear
  rw [needRights_may' true c s _ h]
  exact if_pos hempty

/-- Where every axis named may be cleared and none has a clear waiting, each of them gets one. -/
theorem clearAsked_all {port at' : Nat} {named : Fin 10 → Bool} (hcode : ∀ a, named a = true → s.clearCode a = 0)
    (hfree : ∀ k ∈ s.cmd.clears, named k.axis = false) :
    s.clearAsked port at' named = (s.onCmd (fun x => { x with
      clearRef := Vector.replicate 10 0
      clears := x.clears ++ ((List.finRange 10).filter named).map (fun a => { axis := a, port := port, at' := at', ok := none }) })).onFreeIx (· + 10) := by
  have hzero (a : Fin 10) : (if named a then s.clearCode a else 0) = 0 := by
    split
    · next h => exact hcode a h
    · rfl
  have hcodes : (Vector.ofFn fun a => if named a then s.clearCode a else 0) = Vector.replicate 10 0 := by
    rw [Vector.ext_iff]
    intro i hi
    rw [Vector.getElem_ofFn, Vector.getElem_replicate]
    exact hzero ⟨i, hi⟩
  have hfresh : ((List.finRange 10).filter named).filter (fun a => (if named a then s.clearCode a else 0) == 0 && s.cmd.clears.all (fun k => k.axis != a)) =
      (List.finRange 10).filter named := by
    rw [List.filter_eq_self]
    intro a ha
    have hnamed := (List.mem_filter.1 ha).2
    rw [hzero a, Bool.and_eq_true]
    refine ⟨rfl, List.all_eq_true.2 fun k hk => ?_⟩
    rw [bne_iff_ne]
    intro heq
    rw [← heq, hfree k hk] at hnamed
    cases hnamed
  rw [State.clearAsked, hcodes, hfresh]

theorem clearCode_main (s : State) (n : Fin 6) : (s.ax[n].state ≠ .halt → s.clearCode (axis10 n) = 1) ∧
    (s.ax[n].state = .halt → s.detectorsQuiet (axis10 n) = true → s.ax[n].haltReason ≠ 0x0609 → s.clearCode (axis10 n) = 0) := by
  unfold State.clearCode
  rw [mainOf_axis10]
  refine ⟨fun h => ?_, fun h hquiet hreason => ?_⟩
  · have hno : (s.ax[n].state == .halt) = false := by rw [beq_eq_false_iff_ne]; exact h
    simp only [hno, Bool.not_false, if_true]
  · have hreason' : ¬ (s.ax[n].haltReason = 0x0609 ∧ (!s.gd.ax[axis10 n].testPassed) = true) := fun k => hreason k.1
    simp only [h, hquiet, if_neg hreason', beq_self_eq_true, Bool.not_true, Bool.false_eq_true, if_false]

end

/-- Some axis named may not be cleared. -/
theorem clearCodes_any (s : State) (named : Fin 10 → Bool) :
    ((List.finRange 10).filter named).any (fun a => (if named a then s.clearCode a else 0) != 0) = true ↔ ∃ a, named a = true ∧ s.clearCode a ≠ 0 := by
  rw [List.any_eq_true]
  refine exists_congr fun a => ?_
  rw [List.mem_filter, bne_iff_ne]
  refine ⟨fun ⟨⟨_, hn⟩, hc⟩ => ⟨hn, by rwa [if_pos hn] at hc⟩, fun ⟨hn, hc⟩ => ⟨⟨List.mem_finRange a, hn⟩, by rwa [if_pos hn]⟩⟩

theorem Frame.clearAsked (s : State) (port at' : Nat) (named : Fin 10 → Bool) : Frame [.freeIx, .cmd] s (s.clearAsked port at' named) :=
  (Frame.refl [.freeIx, .cmd] s).frame (Frame.onCmd ..) |>.frame (Frame.onFreeIx ..)

/-- A clear that is refused: the codes are kept, and those that may be cleared wait. -/
theorem exec_axisClear_refused {s : State} {dt : Nat} {o : Origin} {ax : BitVec 6} {aux : BitVec 4} (hw : s.writes o = true) (hm : s.may true o = true)
    (hbad : ∃ a, clearNames (w32 (ax.toNat + 256 * aux.toNat)) a = true ∧ s.clearCode a ≠ 0) :
    ∃ t, exec (.axisClearCommand dt o ax aux) s = .next t ∧
      t.but s = { s.advance dt with cmd := t.cmd, cp := t.cp, recs := t.recs, freeIx := s.freeIx + 10 } ∧ Refused s t dt o 2 St.state 0 ∧
      (∀ a : Fin 10, t.cmd.clearRef[a] = if clearNames (w32 (ax.toNat + 256 * aux.toNat)) a then s.clearCode a else 0) := by
  have hdo := doAxisClear_named (s := s.advance dt) (c := (s.advance dt).ctx o 2) (w := w32 (ax.toNat + 256 * aux.toNat)) hm
    (hbad.imp fun _ h => h.1)
  rw [if_pos ((clearCodes_any (s.advance dt) _).2 hbad)] at hdo
  obtain ⟨v, hexec, hframe, hrefused⟩ := exec_write_refused (c := .axisClearCommand dt o ax aux) rfl hw hdo
  refine ⟨_, hexec, ?_, hrefused, fun a => ?_⟩
  · have hfree : v.freeIx = s.freeIx + 10 := hframe.keep .freeIx (by decide)
    rw [but_of_frame (K := [.recs, .cp, .freeIx, .cmd]) (Frame.next hframe (by decide) (Frame.next (Frame.clearAsked ..) (by decide) (Frame.refl ..)))]
    simp [State.merge, hfree]
  · have hcmd : v.cmd = ((s.advance dt).clearAsked (clsPort o.cls).val (s.tbAt dt) (clearNames (w32 (ax.toNat + 256 * aux.toNat)))).cmd :=
      hframe.keep .cmd (by decide)
    have hset : v.settle.cmd = v.cmd := rfl
    rw [hset, hcmd]
    exact Vector.getElem_ofFn _

/-- Settles O28: the axes named, their codes, and the entry's answer. -/
theorem axisClears : Obligations.AxisClears := by
  intro s dt o ax aux named hw hm hnamed
  have heq : named = clearNames (w32 (ax.toNat + 256 * aux.toNat)) := by
    funext a
    rw [hnamed a, clearNames]
    split <;> rfl
  subst heq
  refine ⟨fun hany hcode hfree => ?_, fun hbad => exec_axisClear_refused hw hm hbad, fun hnone => ?_, fun n => clearCode_main s n⟩
  · have hdo := doAxisClear_named (s := s.advance dt) (c := (s.advance dt).ctx o 2) hm hany
    rw [if_neg (by rw [clearCodes_any]; exact fun ⟨a, hn, hc⟩ => hc (hcode a hn)), clearAsked_all (by exact hcode) (by exact hfree)] at hdo
    exact ⟨_, exec_write_ack rfl hw hdo, rfl⟩
  · exact exec_write_refused_only rfl hw (doAxisClear_none (s := s.advance dt) (c := (s.advance dt).ctx o 2) hm hnone)

end Sys2Proof.Machine
end

section
/-! PROOF. Supply monitors, chopper legs and the self-test (R149 to R151, R155, R164 to R170). -/
set_option Elab.async false

namespace Sys2Proof.Machine

/-! ## The high-side supplies of an auxiliary axis -/

section
variable {s : State} {x : Fin 4}

theorem alloc10_aux : s.alloc10 (aux10 x) = s.auxAlloc x := by simp [State.alloc10]

theorem moving10_aux : s.moving10 (aux10 x) = s.aux[x].state.watched := by simp [State.moving10]

theorem moving10_main {n : Fin 6} : s.moving10 (axis10 n) = s.ax[n].state.watched := by simp [State.moving10]

theorem startWait10_aux : s.startWait10 (aux10 x) = s.aux[x].startWait := by simp [State.startWait10]

theorem legs10_aux : legs10 (aux10 x) = 4 := (by decide : ∀ x : Fin 4, legs10 (aux10 x) = 4) x

theorem testNow_idle (h : s.gd.test.busy = false) : s.testNow = none := by
  simp [State.testNow, h]

/-- A supply that falls below its limit, on an auxiliary axis: the bit, and the insertion of pulses where it does not run yet. -/
theorem hsUvSet_aux {leg : Fin 4} {mv : Nat} (halloc : s.auxAlloc x = true) (hlink : s.link10 (aux10 x) = false) (hbusy : s.gd.test.busy = false)
    (hpumps : s.pumps = true) (hnew : s.gd.ax[aux10 x].hsUv.getLsbD leg.val = false) :
    (s.hsUvSet (aux10 x) leg mv).gd.ax[aux10 x].hsUv = s.gd.ax[aux10 x].hsUv ||| BitVec.ofNat 4 (2 ^ leg.val) ∧
    (s.hsUvSet (aux10 x) leg mv).ax = s.ax ∧ (s.hsUvSet (aux10 x) leg mv).aux = s.aux := by
  have hdue : (!(s.alloc10 (aux10 x) && !s.link10 (aux10 x) && s.pumps && decide (leg.val < legs10 (aux10 x)) && !s.gd.ax[aux10 x].hsUv.getLsbD leg.val) ||
      s.testNow == some ((aux10 x).val, .hsUv leg)) = false := by
    rw [alloc10_aux, halloc, hlink, hpumps, hnew, legs10_aux, decide_eq_true leg.isLt, testNow_idle hbusy]
    rfl
  unfold State.hsUvSet
  extract_lets g u valley f first w
  rw [if_neg (by rw [hdue]; decide), mainOf_aux10]
  have hu : u.gd.ax[aux10 x].hsUv = s.gd.ax[aux10 x].hsUv ||| BitVec.ofNat 4 (2 ^ leg.val) := by rw [State.modGd_self]
  have hw : w.gd.ax[aux10 x].hsUv = u.gd.ax[aux10 x].hsUv ∧ w.ax = s.ax ∧ w.aux = s.aux := by
    unfold w
    split
    · have hevent (t : State) : (t.event first (Unit.axis (aux10 x)) 0x0602 1 mv).gd = t.gd := (Frame.event ..).keep .gd (by decide)
      refine ⟨?_, (Frame.event ..).keep .ax (by decide), (Frame.event ..).keep .aux (by decide)⟩
      exact (congrArg (fun g : GdSt => g.ax[aux10 x].hsUv) (hevent _)).trans (by rw [State.modGd_self])
    · exact ⟨rfl, rfl, rfl⟩
  obtain ⟨hgd, hax, haux⟩ := hw
  exact ⟨hgd.trans hu, hax, haux⟩

theorem bstUv_aux {mv : Nat} (hrefresh : s.gd.ax[aux10 x].refresh = true) (hcnt : 8 ≤ s.gd.ax[aux10 x].uvCnt) (hmoves : s.aux[x].state.watched = true) :
    s.bstUv (aux10 x) mv = (s.event s.gd.ax[aux10 x].uvAt (Unit.axis (aux10 x)) 0x0603 s.gd.ax[aux10 x].hsUv.toNat mv).auxHalt x 0x0603 := by
  unfold State.bstUv
  dsimp only
  rw [if_neg (by rw [hrefresh, decide_eq_true hcnt, moving10_aux, hmoves]; decide), mainOf_aux10, auxOf_aux10]

theorem bstRefreshEnd_due {a : Fin 10} {mv : Nat} (hrefresh : s.gd.ax[a].refresh = true) (hclear : s.gd.ax[a].hsUv = 0)
    (htime : s.gd.ax[a].uvClear + 1000000000 ≤ s.tb) :
    s.bstRefreshEnd a mv = (s.modGd a (fun g => { g with refresh := false, uvCnt := 0 })).event s.tb (Unit.axis a) 0x0602 0 (min s.gd.ax[a].hsMv mv) := by
  unfold State.bstRefreshEnd
  dsimp only
  rw [if_pos (by rw [hrefresh, hclear, decide_eq_true htime]; rfl)]

theorem tryStart_aux (s : State) (x : Fin 4) : (s.tryStart (aux10 x)).ax = s.ax := by
  unfold State.tryStart State.startNow
  rw [mainOf_aux10]
  split
  · exact (Frame.auxStart ..).keep .ax (by decide)
  · rfl

theorem hsSupplyReady_aux (halloc : s.auxAlloc x = true) (hpumps : s.pumps = true) :
    (s.hsSupplyReady (aux10 x)).gd.ax[aux10 x].hsUv = 0 ∧ (s.hsSupplyReady (aux10 x)).ax = s.ax := by
  unfold State.hsSupplyReady
  rw [if_pos (by rw [alloc10_aux, halloc, hpumps]; rfl)]
  refine ⟨?_, tryStart_aux ..⟩
  rw [(Frame.tryStart ..).keep .gd (by decide), State.modGd_self]

theorem bstStartTimeout_aux {low : BitVec 4} {mv since : Nat} (hwait : s.aux[x].startWait = some since) (htime : since + 50000000 ≤ s.tb)
    (hlow : low ≠ 0) (hlink : s.link10 (aux10 x) = false) :
    s.bstStartTimeout (aux10 x) low mv = ((s.modGd (aux10 x) (fun g => { g with hsUv := low, hsMv := mv })).event (since + 50000000)
      (Unit.axis (aux10 x)) 0x0603 low.toNat mv).auxHalt x 0x0603 := by
  unfold State.bstStartTimeout
  rw [startWait10_aux, hwait]
  dsimp only
  rw [if_pos ⟨htime, hlow, by rw [hlink]; rfl⟩, State.halt10_aux]

/-- HALT of an auxiliary axis leaves its supply comparators. -/
theorem auxHalt_hsUv (s : State) (x : Fin 4) (r : Nat) : (s.auxHalt x r).gd.ax[aux10 x].hsUv = s.gd.ax[aux10 x].hsUv := by
  have hreset (u : State) : (u.auxResetCommand x).gd = u.gd := (Frame.auxResetCommand ..).keep .gd (by decide)
  have hstop : (s.epuStop (aux10 x)).gd.ax[aux10 x].hsUv = s.gd.ax[aux10 x].hsUv := by
    unfold State.epuStop
    rw [State.modGd_self]
    rfl
  unfold State.auxHalt
  rw [hreset, State.modGd_self]
  exact hstop

end

/-! ## A supply monitor that acts -/

/-- What a soft turn-off of a bridge leaves of the axes: their states, and every axis that moves no current. -/
structure SoftKept (s t : State) : Prop where
  states : ∀ n : Fin 6, t.ax[n].state = s.ax[n].state
  rests : ∀ n : Fin 6, s.ax[n].state.watched = false → t.ax[n] = s.ax[n]
  auxStates : ∀ x : Fin 4, t.aux[x].state = s.aux[x].state
  auxRests : ∀ x : Fin 4, s.aux[x].state.watched = false → t.aux[x] = s.aux[x]
  mode : t.mode = s.mode
  test : t.gd.test = s.gd.test

theorem SoftKept.refl (s : State) : SoftKept s s := ⟨fun _ => rfl, fun _ _ => rfl, fun _ => rfl, fun _ _ => rfl, rfl, rfl⟩

theorem SoftKept.trans {s t u : State} (h : SoftKept s t) (k : SoftKept t u) : SoftKept s u where
  states n := (k.states n).trans (h.states n)
  rests n hn := (k.rests n (by rw [h.states n]; exact hn)).trans (h.rests n hn)
  auxStates x := (k.auxStates x).trans (h.auxStates x)
  auxRests x hx := (k.auxRests x (by rw [h.auxStates x]; exact hx)).trans (h.auxRests x hx)
  mode := k.mode.trans h.mode
  test := k.test.trans h.test

theorem SoftKept.modAx {s : State} {n : Fin 6} {f : AxSt → AxSt} (hw : s.ax[n].state.watched = true) (hf : ∀ x, (f x).state = x.state) :
    SoftKept s (s.modAx n f) where
  states m := by
    by_cases h : m = n
    · subst h
      rw [State.modAx_self, hf]
    · rw [State.modAx_other _ _ _ _ h]
  rests m hm := State.modAx_other _ _ _ _ fun h => by
    subst h
    rw [hw] at hm
    cases hm
  auxStates _ := rfl
  auxRests _ _ := rfl
  mode := rfl
  test := rfl

theorem SoftKept.modAux {s : State} {n : Fin 4} {f : AuxAx → AuxAx} (hw : s.aux[n].state.watched = true) (hf : ∀ x, (f x).state = x.state) :
    SoftKept s (s.modAux n f) where
  states _ := rfl
  rests _ _ := rfl
  auxStates m := by
    by_cases h : m = n
    · subst h
      rw [State.modAux_self, hf]
    · rw [State.modAux_other _ _ _ _ h]
  auxRests m hm := State.modAux_other _ _ _ _ fun h => by
    subst h
    rw [hw] at hm
    cases hm
  mode := rfl
  test := rfl

theorem softKept_softOff {s : State} {a : Fin 10} (hmode : s.mode.mode ≠ .freeze) (hbusy : s.gd.test.busy = false) : SoftKept s (s.softOff a) := by
  have htest : s.desatTest a = none := by
    unfold State.desatTest
    rw [testNow_idle hbusy]
  have hbridged : s.bridged10 a = s.moving10 a := by
    have hno : (s.mode.mode == .freeze) = false := by rw [beq_eq_false_iff_ne]; exact hmode
    rw [State.bridged10, hno, Bool.or_false]
  unfold State.softOff
  rw [htest, hbridged]
  by_cases hmoves : s.moving10 a = true
  · extract_lets at' on high act u
    have hu : SoftKept s u := ⟨fun _ => rfl, fun _ _ => rfl, fun _ => rfl, fun _ _ => rfl, rfl, rfl⟩
    rw [if_neg (by rw [hmoves]; decide)]
    cases hm : mainOf a with
    | some n =>
      have hw : s.ax[n].state.watched = true := by
        rw [State.moving10, hm] at hmoves
        exact hmoves
      split
      · exact .modAx hw fun _ => rfl
      · rw [if_neg (by rw [hmoves]; decide)]
        exact hu.trans (.modAx hw fun _ => rfl)
    | none =>
      have hw : s.aux[auxOf a].state.watched = true := by
        rw [State.moving10, hm] at hmoves
        exact hmoves
      split
      · exact .modAux hw fun _ => rfl
      · rw [if_neg (by rw [hmoves]; decide)]
        exact hu.trans (.modAux hw fun _ => rfl)
  · rw [if_pos (by rw [Bool.not_eq_true] at hmoves; rw [hmoves]; rfl)]
    exact .refl s

theorem softKept_foldl_softOff (l : List (Fin 10)) {s : State} (hmode : s.mode.mode ≠ .freeze) (hbusy : s.gd.test.busy = false) :
    SoftKept s (l.foldl (fun s a => s.softOff a) s) := by
  induction l generalizing s with
  | nil => exact .refl s
  | cons a l ih =>
    have h := softKept_softOff (a := a) hmode hbusy
    exact h.trans (ih (by rw [h.mode]; exact hmode) (by rw [h.test]; exact hbusy))

/-- Every axis that moved current is in HALT with the reason named; the others are as they were. -/
structure HaltedAll (s t : State) (reason : Nat) : Prop where
  rests : ∀ n : Fin 6, s.ax[n].state.watched = false → t.ax[n] = s.ax[n]
  moved : ∀ n : Fin 6, t.ax[n] = s.ax[n] ∨ (t.ax[n].state = .halt ∧ t.ax[n].haltReason = reason)
  auxRests : ∀ x : Fin 4, s.aux[x].state.watched = false → t.aux[x] = s.aux[x]
  auxMoved : ∀ x : Fin 4, t.aux[x] = s.aux[x] ∨ (t.aux[x].state = .halt ∧ t.aux[x].haltReason = reason)

theorem HaltedAll.refl (s : State) (reason : Nat) : HaltedAll s s reason := ⟨fun _ _ => rfl, fun _ => .inl rfl, fun _ _ => rfl, fun _ => .inl rfl⟩

theorem HaltedAll.trans {s t u : State} {reason : Nat} (h : HaltedAll s t reason) (k : HaltedAll t u reason) : HaltedAll s u reason where
  rests n hn := (k.rests n (by rw [h.rests n hn]; exact hn)).trans (h.rests n hn)
  moved n := by
    rcases k.moved n with hk | hk
    · rw [hk]
      exact h.moved n
    · exact .inr hk
  auxRests x hx := (k.auxRests x (by rw [h.auxRests x hx]; exact hx)).trans (h.auxRests x hx)
  auxMoved x := by
    rcases k.auxMoved x with hk | hk
    · rw [hk]
      exact h.auxMoved x
    · exact .inr hk

theorem haltedAll_halt10 {s : State} {a : Fin 10} {reason : Nat} (hmoves : s.moving10 a = true) :
    HaltedAll s (s.halt10 a reason) reason ∧ (s.halt10 a reason).moving10 a = false := by
  cases hm : mainOf a with
  | some n =>
    obtain rfl := mainOf_eq hm
    obtain ⟨hstate, hreason, -, hother⟩ := State.axHaltOff_ax s n reason
    have haux : (s.axHaltOff n reason).aux = s.aux := (Frame.axHaltOff ..).keep .aux (by decide)
    rw [moving10_main] at hmoves
    rw [State.halt10_main]
    refine ⟨⟨fun m hrest => hother m fun h => ?_, fun m => ?_, fun x _ => by rw [haux], fun x => .inl (by rw [haux])⟩, ?_⟩
    · subst h
      rw [hmoves] at hrest
      cases hrest
    · by_cases h : m = n
      · subst h
        exact .inr ⟨hstate, hreason⟩
      · exact .inl (hother m h)
    · rw [moving10_main, hstate]
      rfl
  | none =>
    obtain ⟨x, rfl⟩ : ∃ x, a = aux10 x := ⟨_, auxOf_eq hm⟩
    obtain ⟨hstate, hreason, hother⟩ := State.auxHalt_aux s x reason
    have hax : (s.auxHalt x reason).ax = s.ax := (Frame.auxHalt ..).keep .ax (by decide)
    rw [moving10_aux] at hmoves
    rw [State.halt10_aux]
    refine ⟨⟨fun m _ => by rw [hax], fun m => .inl (by rw [hax]), fun y hrest => hother y fun h => ?_, fun y => ?_⟩, ?_⟩
    · subst h
      rw [hmoves] at hrest
      cases hrest
    · by_cases h : y = x
      · subst h
        exact .inr ⟨hstate, hreason⟩
      · exact .inl (hother y h)
    · rw [moving10_aux, hstate]
      rfl

/-- HALT of every axis of a list that moves current. -/
def State.haltMoving (s : State) (reason : Nat) (l : List (Fin 10)) : State := l.foldl (fun s a => if s.moving10 a then s.halt10 a reason else s) s

theorem haltMoving_step (s : State) (a : Fin 10) (reason : Nat) :
    HaltedAll s (if s.moving10 a then s.halt10 a reason else s) reason ∧ (if s.moving10 a then s.halt10 a reason else s).moving10 a = false := by
  split
  · next h => exact haltedAll_halt10 h
  · next h => exact ⟨.refl s reason, by rwa [Bool.not_eq_true] at h⟩

/-- An axis that moves no current goes on so. -/
theorem HaltedAll.still {s t : State} {reason : Nat} (h : HaltedAll s t reason) {a : Fin 10} (ha : s.moving10 a = false) : t.moving10 a = false := by
  cases hm : mainOf a with
  | some n =>
    obtain rfl := mainOf_eq hm
    rw [moving10_main] at ha ⊢
    rw [h.rests n ha, ha]
  | none =>
    obtain ⟨x, rfl⟩ : ∃ x, a = aux10 x := ⟨_, auxOf_eq hm⟩
    rw [moving10_aux] at ha ⊢
    rw [h.auxRests x ha, ha]

theorem haltMoving_all (l : List (Fin 10)) (s : State) (reason : Nat) :
    HaltedAll s (s.haltMoving reason l) reason ∧ ∀ a ∈ l, (s.haltMoving reason l).moving10 a = false := by
  induction l generalizing s with
  | nil => exact ⟨.refl s reason, fun a ha => absurd ha (List.not_mem_nil)⟩
  | cons b l ih =>
    obtain ⟨hstep, hb⟩ := haltMoving_step s b reason
    obtain ⟨hrest, hl⟩ := ih (if s.moving10 b then s.halt10 b reason else s)
    refine ⟨hstep.trans hrest, fun a ha => ?_⟩
    rcases List.mem_cons.1 ha with rfl | hmem
    · exact hrest.still hb
    · exact hl a hmem

/-- The chopper legs all open. -/
theorem chopOff_off (s : State) (c : Fin 4) (hbusy : s.gd.test.busy = false) :
    (s.chopOff c).gd.chop[c].on = false ∧ (∀ d : Fin 4, s.gd.chop[d].on = false → (s.chopOff c).gd.chop[d].on = false) ∧
    (s.chopOff c).gd.test = s.gd.test := by
  have htested : s.chopTested c = false := by
    unfold State.chopTested
    rw [testNow_idle hbusy]
    rfl
  have hself : (s.chopOff c).gd.chop[c].on = false := by
    unfold State.chopOff
    rw [htested]
    simp only [State.onGd_gd, Fin.getElem_fin, vset_self, Bool.or_false]
    split
    · rfl
    · next h => exact Bool.eq_false_iff.2 h
  refine ⟨hself, fun d hd => ?_, rfl⟩
  by_cases h : c = d
  · exact h ▸ hself
  · unfold State.chopOff
    simp only [State.onGd_gd, Fin.getElem_fin, vset_ne _ _ _ _ h]
    exact hd

/-- Every chopper leg open. -/
def State.chopsOff (s : State) (l : List (Fin 4)) : State := l.foldl (fun (s : State) (c : Fin 4) => s.chopOff c) s

theorem Frame.chopsOff (s : State) (l : List (Fin 4)) : Frame [.gd] s (s.chopsOff l) := Frame.foldl _ _ (fun _ _ => Frame.chopOff ..) s

theorem chopsOff_off (l : List (Fin 4)) (s : State) (hbusy : s.gd.test.busy = false) :
    (∀ c ∈ l, (s.chopsOff l).gd.chop[c].on = false) ∧ (∀ d : Fin 4, s.gd.chop[d].on = false → (s.chopsOff l).gd.chop[d].on = false) ∧
    (s.chopsOff l).gd.test = s.gd.test := by
  induction l generalizing s with
  | nil => exact ⟨fun c hc => absurd hc (List.not_mem_nil), fun _ h => h, rfl⟩
  | cons b l ih =>
    obtain ⟨hself, hkeep, htest⟩ := chopOff_off s b hbusy
    obtain ⟨hl, hkeep', htest'⟩ := ih (s.chopOff b) (by rw [htest]; exact hbusy)
    refine ⟨fun c hc => ?_, fun d hd => hkeep' d (hkeep d hd), htest'.trans htest⟩
    rcases List.mem_cons.1 hc with rfl | hmem
    · exact hkeep' c hself
    · exact hl c hmem

/-- A soft turn-off of every bridge. -/
def State.softAll (s : State) : State := (List.finRange 10).foldl (fun s a => s.softOff a) s

/-- A supply monitor that acts, with no self-test under way: the bridges softly off, the chopper legs open, every axis that moves current halted. -/
theorem vdrvFault_eq {s : State} {code mv : Nat} (hbusy : ((s.softAll).chopsOff (List.finRange 4)).gd.test.busy = false) :
    ∃ time detail, s.vdrvFault code mv =
      (((s.softAll).chopsOff (List.finRange 4)).haltMoving code (List.finRange 10)).event time Unit.gd code detail mv := by
  have hnone : ((s.softAll).chopsOff (List.finRange 4)).testAbortAll = (s.softAll).chopsOff (List.finRange 4) := if_neg (by rw [hbusy]; decide)
  unfold State.vdrvFault
  dsimp only
  rw [← State.softAll, ← State.chopsOff, hnone, ← State.haltMoving]
  exact ⟨_, _, rfl⟩

/-- Of the gate drive nothing changes but what belongs to the axes. -/
structure GdKept (s t : State) : Prop where
  chop : t.gd.chop = s.gd.chop
  uv : t.gd.uv = s.gd.uv
  ov : t.gd.ov = s.gd.ov

namespace GdKept

variable {s t u : State}

theorem refl (s : State) : GdKept s s := ⟨rfl, rfl, rfl⟩

theorem trans (h : GdKept s t) (k : GdKept t u) : GdKept s u := ⟨k.chop.trans h.chop, k.uv.trans h.uv, k.ov.trans h.ov⟩

theorem frame {K : List StPart} (h : GdKept s t) (F : Frame K t u) (hK : .gd ∉ K := by decide) : GdKept s u := by
  have hgd : u.gd = t.gd := F.keep .gd hK
  exact h.trans ⟨by rw [hgd], by rw [hgd], by rw [hgd]⟩

theorem modGd (h : GdKept s t) (a : Fin 10) (f : GdAx → GdAx) : GdKept s (t.modGd a f) := h.trans ⟨rfl, rfl, rfl⟩

theorem epuStop (h : GdKept s t) (a : Fin 10) : GdKept s (t.epuStop a) := (h.frame (Frame.modSnt ..)).modGd _ _

theorem axHaltOff (h : GdKept s t) (n : Fin 6) (r : Nat) : GdKept s (t.axHaltOff n r) :=
  ((((((h.frame (Frame.crashEnd ..)).epuStop _).frame (Frame.modAx ..)).frame (Frame.modAx ..)).modGd _ _).frame (Frame.resetCommand ..))

theorem auxHalt (h : GdKept s t) (x : Fin 4) (r : Nat) : GdKept s (t.auxHalt x r) :=
  (((((h.epuStop _).frame (Frame.modAux ..)).frame (Frame.modAux ..)).modGd _ _).frame (Frame.auxResetCommand ..))

theorem halt10 (h : GdKept s t) (a : Fin 10) (r : Nat) : GdKept s (t.halt10 a r) := by
  unfold State.halt10
  split
  · exact h.axHaltOff _ r
  · exact h.auxHalt _ r

theorem haltMoving (h : GdKept s t) (r : Nat) (l : List (Fin 10)) : GdKept s (t.haltMoving r l) := by
  induction l generalizing t with
  | nil => exact h
  | cons a l ih =>
    refine ih (t := if t.moving10 a then t.halt10 a r else t) ?_
    split
    · exact h.halt10 a r
    · exact h

theorem softOff (h : GdKept s t) (a : Fin 10) : GdKept s (t.softOff a) := by
  unfold State.softOff
  extract_lets at' on high act u
  have hu : GdKept s u := h.modGd _ _
  clear_value u
  split
  · exact h
  · split
    · split
      · exact h.frame (Frame.modAx ..)
      · exact h.frame (Frame.modAux ..)
    · split
      · exact hu
      · split
        · exact hu.frame (Frame.modAx ..)
        · exact hu.frame (Frame.modAux ..)

theorem softAll (h : GdKept s t) : GdKept s t.softAll := by
  unfold State.softAll
  generalize List.finRange 10 = l
  induction l generalizing t with
  | nil => exact h
  | cons a l ih => exact ih (h.softOff a)

end GdKept

theorem chopsOff_monitors (l : List (Fin 4)) (s : State) : (s.chopsOff l).gd.uv = s.gd.uv ∧ (s.chopsOff l).gd.ov = s.gd.ov := by
  induction l generalizing s with
  | nil => exact ⟨rfl, rfl⟩
  | cons c l ih => exact ih (s.chopOff c)

/-- What a supply monitor that acts leaves of the axes and the chopper legs. -/
theorem vdrvFault_leaves {s : State} {code mv : Nat} (hmode : s.mode.mode ≠ .freeze) (hbusy : s.gd.test.busy = false) :
    ((s.vdrvFault code mv).gd.uv = s.gd.uv ∧ (s.vdrvFault code mv).gd.ov = s.gd.ov) ∧ (∀ c : Fin 4, (s.vdrvFault code mv).gd.chop[c].on = false) ∧
    (∀ n : Fin 6, s.ax[n].state.watched = true → (s.vdrvFault code mv).ax[n].state = .halt ∧ (s.vdrvFault code mv).ax[n].haltReason = code) ∧
    (∀ n : Fin 6, s.ax[n].state.watched = false → (s.vdrvFault code mv).ax[n] = s.ax[n]) ∧
    (∀ x : Fin 4, s.aux[x].state.watched = true → (s.vdrvFault code mv).aux[x].state = .halt ∧ (s.vdrvFault code mv).aux[x].haltReason = code) ∧
    (∀ x : Fin 4, s.aux[x].state.watched = false → (s.vdrvFault code mv).aux[x] = s.aux[x]) := by
  have hsoft : SoftKept s s.softAll := softKept_foldl_softOff _ hmode hbusy
  obtain ⟨hoff, -, htest⟩ := chopsOff_off (List.finRange 4) s.softAll (by rw [hsoft.test]; exact hbusy)
  have hax : (s.softAll.chopsOff (List.finRange 4)).ax = s.softAll.ax := (Frame.chopsOff ..).keep .ax (by decide)
  have haux : (s.softAll.chopsOff (List.finRange 4)).aux = s.softAll.aux := (Frame.chopsOff ..).keep .aux (by decide)
  obtain ⟨time, detail, heq⟩ := vdrvFault_eq (s := s) (code := code) (mv := mv) (by rw [htest, hsoft.test]; exact hbusy)
  obtain ⟨hhalt, hstill⟩ := haltMoving_all (List.finRange 10) (s.softAll.chopsOff (List.finRange 4)) code
  have hkept := (GdKept.refl (s.softAll.chopsOff (List.finRange 4))).haltMoving code (List.finRange 10)
  obtain ⟨huv, hov⟩ := chopsOff_monitors (List.finRange 4) s.softAll
  have hsoftGd := (GdKept.refl s).softAll
  rw [heq, (Frame.event ..).keep .ax (by decide), (Frame.event ..).keep .aux (by decide), (Frame.event ..).keep .gd (by decide)]
  generalize (s.softAll.chopsOff (List.finRange 4)).haltMoving code (List.finRange 10) = v at *
  generalize s.softAll.chopsOff (List.finRange 4) = u at *
  refine ⟨⟨(hkept.uv.trans huv).trans hsoftGd.uv, (hkept.ov.trans hov).trans hsoftGd.ov⟩, fun c => by rw [hkept.chop]; exact hoff c (List.mem_finRange c), fun n hn => ?_, fun n hn => ?_, fun x hx => ?_, fun x hx => ?_⟩
  · have hquiet := hstill (axis10 n) (List.mem_finRange _)
    rw [moving10_main] at hquiet
    refine (hhalt.moved n).resolve_left fun h => ?_
    rw [h, hax, hsoft.states n, hn] at hquiet
    cases hquiet
  · have hu : u.ax[n] = s.ax[n] := by
      rw [hax]
      exact hsoft.rests n hn
    rw [hhalt.rests n (by rw [hu]; exact hn), hu]
  · have hquiet := hstill (aux10 x) (List.mem_finRange _)
    rw [moving10_aux] at hquiet
    refine (hhalt.auxMoved x).resolve_left fun h => ?_
    rw [h, haux, hsoft.auxStates x, hx] at hquiet
    cases hquiet
  · have hu : u.aux[x] = s.aux[x] := by
      rw [haux]
      exact hsoft.auxRests x hx
    rw [hhalt.auxRests x (by rw [hu]; exact hx), hu]

theorem running_mode_ne {s : State} (h : s.running = true) : s.mode.mode ≠ .freeze := by
  intro hmode
  simp [State.running, hmode] at h

/-- What a monitor that acts leaves of the monitor, the chopper legs and the axes. -/
theorem vdrvSet_leaves {s : State} {ov : Bool} {mv : Nat} (hrun : s.running = true) (hbusy : s.gd.test.busy = false)
    (hnew : (if ov then s.gd.ov else s.gd.uv) = false) : ∃ u, (if ov then s.vdrvOvSet mv else s.vdrvUvSet mv) = u ∧
      (if ov then u.gd.ov else u.gd.uv) = true ∧ (∀ c : Fin 4, u.gd.chop[c].on = false) ∧
      (∀ n : Fin 6, s.ax[n].state.watched = true → u.ax[n].state = .halt ∧ u.ax[n].haltReason = if ov then 0x0605 else 0x0604) ∧
      (∀ n : Fin 6, s.ax[n].state.watched = false → u.ax[n] = s.ax[n]) ∧
      (∀ x : Fin 4, s.aux[x].state.watched = true → u.aux[x].state = .halt ∧ u.aux[x].haltReason = if ov then 0x0605 else 0x0604) ∧
      (∀ x : Fin 4, s.aux[x].state.watched = false → u.aux[x] = s.aux[x]) := by
  cases ov
  · have h : s.vdrvUvSet mv = (s.onGd fun g => { g with uv := true }).vdrvFault 0x0604 mv := by
      unfold State.vdrvUvSet
      rw [if_neg (by rw [show s.gd.uv = false from hnew]; decide)]
      exact if_pos (by exact hrun)
    obtain ⟨⟨huv, -⟩, hrest⟩ := vdrvFault_leaves (s := s.onGd fun g => { g with uv := true }) (code := 0x0604) (mv := mv)
      (running_mode_ne hrun) hbusy
    exact ⟨_, h, huv, hrest⟩
  · have h : s.vdrvOvSet mv = (s.onGd fun g => { g with ov := true }).vdrvFault 0x0605 mv := by
      unfold State.vdrvOvSet
      rw [if_neg (by rw [show s.gd.ov = false from hnew]; decide)]
      exact if_pos (by exact hrun)
    obtain ⟨⟨-, hov⟩, hrest⟩ := vdrvFault_leaves (s := s.onGd fun g => { g with ov := true }) (code := 0x0605) (mv := mv)
      (running_mode_ne hrun) hbusy
    exact ⟨_, h, hov, hrest⟩

theorem vdrvClear_only {s : State} {ov : Bool} (hdue : s.gd.test.autoDue = false) :
    s.vdrvClear ov = s.onGd fun g => if ov then { g with ov := false } else { g with uv := false } := by
  have hdue' : (s.onGd fun g => if ov then { g with ov := false } else { g with uv := false }).gd.test.autoDue = false := by
    cases ov <;> exact hdue
  have hauto : (s.onGd fun g => if ov then { g with ov := false } else { g with uv := false }).autoTest =
      s.onGd fun g => if ov then { g with ov := false } else { g with uv := false } := if_neg (by rw [hdue']; simp)
  unfold State.vdrvClear
  dsimp only
  rw [hauto, ite_self]

/-! ## Chopper legs -/

theorem vset_vset {α : Type} {n : Nat} (v : Vector α n) (i : Fin n) (f g : α → α) : vset (vset v i f) i g = vset v i fun x => g (f x) := by
  ext j hj
  by_cases h : i.val = j <;> simp [vset, h]

/-- A leg whose detector acts, latched off. -/
def State.chopLatched (s : State) (c : Fin 4) : State :=
  s.onGd fun g => { g with chop := vset g.chop c fun x => { x with
    fault := true, on := false, edgeAt := if x.on then s.tb else x.edgeAt
    softAt := if x.on && !s.chopLink c then some s.tb else x.softAt } }

theorem chopOff_latched {s : State} {c : Fin 4} (htested : s.chopTested c = false) :
    ((s.chopOff c).onGd fun g => { g with chop := vset g.chop c fun x => { x with fault := true } }) = s.chopLatched c := by
  unfold State.chopLatched State.chopOff
  simp only [State.onGd, htested, vset_vset]
  congr 3
  funext x
  cases hx : x.on
  · simp
    cases x
    simp_all
  · simp
    cases s.chopLink c <;> simp

theorem chopOff_fault (s : State) (c : Fin 4) : (s.chopOff c).gd.chop[c].fault = s.gd.chop[c].fault := by
  unfold State.chopOff
  simp only [State.onGd_gd, Fin.getElem_fin, vset_self]
  split <;> rfl

/-- The fault of a leg that is off, with its record of the value `v` where it is the first. -/
def State.chopFaulted (s : State) (c : Fin 4) (v : Nat) : State :=
  let u := s.onGd (fun g => { g with chop := vset g.chop c (fun x => { x with fault := true }) })
  if s.gd.chop[c].fault then u else u.event u.tb Unit.gd 0x0608 c.val v

theorem chopTrip_due {s : State} {c : Fin 4} (h : (s.running && s.regs.GD_CHPn_MAP_EN c && s.chopActs c && !s.chopTested c) = true) :
    ∃ v, s.chopTrip c = ((s.chopOff c).testAbort (10 + c.val)).chopFaulted c v := ⟨_, if_pos h⟩

theorem chopTrip_acts {s : State} {c : Fin 4} (hrun : s.running = true) (hmap : s.regs.GD_CHPn_MAP_EN c = true) (hbusy : s.gd.test.busy = false)
    (hacts : s.chopActs c = true) :
    (s.gd.chop[c].fault = true → s.chopTrip c = s.chopLatched c) ∧
    (s.gd.chop[c].fault = false → ∃ v, s.chopTrip c = (s.chopLatched c).event s.tb Unit.gd 0x0608 c.val v) := by
  have htested : s.chopTested c = false := by simp [State.chopTested, testNow_idle hbusy]
  have habort : (s.chopOff c).testAbort (10 + c.val) = s.chopOff c := if_neg (by rw [(chopOff_off s c hbusy).2.2, hbusy]; simp)
  obtain ⟨v, hv⟩ := chopTrip_due (s := s) (c := c) (by simp [hrun, hmap, hacts, htested])
  have htb : (s.chopLatched c).tb = s.tb := rfl
  have hend : s.chopTrip c = if s.gd.chop[c].fault then s.chopLatched c else (s.chopLatched c).event s.tb Unit.gd 0x0608 c.val v := by
    rw [hv, habort]
    unfold State.chopFaulted
    rw [chopOff_latched htested, chopOff_fault]
    dsimp only
    rw [htb]
  constructor <;> intro hfault
  · rw [hend, if_pos hfault]
  · exact ⟨v, by rw [hend, if_neg (by rw [hfault]; decide)]⟩

theorem exec_chopperFault {s : State} {dt : Nat} {c : Fin 4} (hrun : s.running = true) (hmap : s.regs.GD_CHPn_MAP_EN c = true)
    (hbusy : s.gd.test.busy = false) (hacts : (s.advance dt).chopActs c = true) : ∃ t, exec (.chopperFault dt c) s = .next t ∧
      t.but s = { s.advance dt with
        gd := { s.gd with chop := vset s.gd.chop c (fun x => { x with
          fault := true, on := false, edgeAt := if x.on then s.tbAt dt else x.edgeAt
          softAt := if x.on && !s.chopLink c then some (s.tbAt dt) else x.softAt }) }, recs := t.recs } ∧
      (s.gd.chop[c].fault = true → Wrote s t []) ∧
      (s.gd.chop[c].fault = false → ∃ v, Wrote s t [evtOf (s.tbAt dt) Unit.gd 0x0608 c v]) := by
  obtain ⟨hagain, hfirst⟩ := chopTrip_acts (s := s.advance dt) (c := c) hrun hmap hbusy hacts
  cases hfault : s.gd.chop[c].fault
  · obtain ⟨v, h⟩ := hfirst hfault
    refine ⟨_, exec_next_of rfl h, (but_event ..).trans rfl, fun h => Bool.noConfusion h, fun _ => ⟨v, ?_⟩⟩
    exact (Wrote.event_one (run_phase hrun)).settle
  · exact ⟨_, exec_next_of rfl (hagain hfault), rfl, fun _ => Wrote.none _ _ rfl, fun h => Bool.noConfusion h⟩

/-! ## The comparator self-test -/

theorem nextTarget_zero {m : BitVec 14} (h : m ≠ 0) : ∃ i, nextTarget m 0 = some i := by
  by_contra hnone
  refine h (BitVec.eq_of_getLsbD_eq fun i hi => ?_)
  have hfind : nextTarget m 0 = none := Option.eq_none_iff_forall_ne_some.2 fun i hi => hnone ⟨i, hi⟩
  have hclear := List.find?_eq_none.1 hfind i (List.mem_range.2 hi)
  simpa using hclear

/-- A request for the targets `m`, its first target `i` under test. -/
def State.testOpened (s : State) (m : BitVec 14) (i : Nat) : State :=
  (s.onGd fun g => { g with test := { g.test with
    busy := true, targets := m, failed := 0, aborted := 0, autoDue := false, current := i, left := s.testCount i } }).markTest i true

theorem testBegin_opens {s : State} {m : BitVec 14} {i : Nat} (h : nextTarget m 0 = some i) : s.testBegin m = s.testOpened m i := by
  have htarget (u : State) (hu : u.gd.test.targets = m) : u.testFrom 0 =
      (u.onGd fun g => { g with test := { g.test with current := i, left := u.testCount i } }).markTest i true := by
    unfold State.testFrom
    rw [hu, h]
  exact htarget _ rfl

theorem markTest_test (s : State) (i : Nat) (on : Bool) : (s.markTest i on).gd.test = s.gd.test := by
  unfold State.markTest
  split <;> rfl

theorem testOpened_test (s : State) (m : BitVec 14) (i : Nat) : (s.testOpened m i).gd.test = { s.gd.test with
    busy := true, targets := m, failed := 0, aborted := 0, autoDue := false, current := i, left := s.testCount i } := markTest_test ..

theorem Frame.testOpened (s : State) (m : BitVec 14) (i : Nat) : Frame [.gd] s (s.testOpened m i) :=
  Frame.next (Frame.markTest ..) (by decide) (Frame.onGd ..)

section
variable {s : State} {c : Ctx} {w : Word} {m : BitVec 14}

theorem doSelfTest_opens (hmay : s.may true c.o = true) (hm : m = BitVec.ofNat 14 (fld w 0 6 + fld w 8 4 * 64 + fld w 16 4 * 1024)) (hne : m ≠ 0)
    (hr : s.testRefuse m = 0) {i : Nat} (hi : nextTarget m 0 = some i) :
    doSelfTest c s w = ack ((s.onFreeIx (· + 14)).testOpened m i) := by
  rw [← testBegin_opens hi]
  refine (needRights_may' true c s _ hmay).trans ?_
  dsimp only
  rw [← hm, if_neg hne, if_pos hr]

theorem doSelfTest_refuses (hmay : s.may true c.o = true) (hm : m = BitVec.ofNat 14 (fld w 0 6 + fld w 8 4 * 64 + fld w 16 4 * 1024)) (hne : m ≠ 0)
    (hr : s.testRefuse m ≠ 0) :
    doSelfTest c s w = nak ((s.onFreeIx (· + 14)).onGd fun g => { g with test := { g.test with refuse := s.testRefuse m } }) St.state (s.testRefuse m) := by
  refine (needRights_may' true c s _ hmay).trans ?_
  dsimp only
  rw [← hm, if_neg hne, if_neg hr]

end

/-- The failed targets once the present test has ended with `pass`. -/
def State.testNotes (s : State) (pass : Bool) : BitVec 14 :=
  if pass && !s.testLow then s.gd.test.failed else s.gd.test.failed ||| BitVec.ofNat 14 (2 ^ s.gd.test.current)

/-- The note of a test that has ended. -/
def State.testNoted (s : State) (pass : Bool) : State :=
  s.onGd fun g => { g with test := { g.test with failed := s.testNotes pass } }

theorem testNoted_eq (s : State) (pass : Bool) :
    (if pass && !s.testLow then s else s.onGd (fun g => { g with
      test := { g.test with failed := g.test.failed ||| BitVec.ofNat 14 (2 ^ s.gd.test.current) } })) = s.testNoted pass := by
  unfold State.testNoted State.testNotes
  split <;> rfl

theorem testDone_busy {s : State} {pass : Bool} (hrun : s.running = true) (hbusy : s.gd.test.busy = true) : s.testDone pass =
    if 1 < s.gd.test.left then (s.testNoted pass).onGd fun g => { g with test := { g.test with left := g.test.left - 1 } }
    else if s.gd.test.current < 10 then
      ((((s.testNoted pass).markTest s.gd.test.current false).testFrom (s.gd.test.current + 1)).tryStart (Fin.ofNat 10 s.gd.test.current))
    else ((s.testNoted pass).markTest s.gd.test.current false).testFrom (s.gd.test.current + 1) := by
  unfold State.testDone
  rw [if_pos (by rw [hrun, hbusy]; rfl)]
  dsimp only
  rw [testNoted_eq]
  rfl

theorem markTest_testCount (s : State) (t i : Nat) (on : Bool) : (s.markTest t on).testCount i = s.testCount i := by
  unfold State.markTest
  split <;> rfl

/-- The next target named comes under test. -/
theorem testDone_next {s : State} {pass : Bool} {i : Nat} (hrun : s.running = true) (hbusy : s.gd.test.busy = true) (hleft : s.gd.test.left ≤ 1)
    (hi : nextTarget s.gd.test.targets (s.gd.test.current + 1) = some i) :
    (s.testDone pass).gd.test = { s.gd.test with current := i, left := s.testCount i, failed := s.testNotes pass } := by
  have hfrom : (((s.testNoted pass).markTest s.gd.test.current false).testFrom (s.gd.test.current + 1)).gd.test =
      { s.gd.test with current := i, left := s.testCount i, failed := s.testNotes pass } := by
    have htest : ((s.testNoted pass).markTest s.gd.test.current false).gd.test = (s.testNoted pass).gd.test := markTest_test ..
    unfold State.testFrom
    rw [htest, show nextTarget (s.testNoted pass).gd.test.targets _ = some i from hi]
    dsimp only
    rw [markTest_test, State.onGd_gd, htest, markTest_testCount]
    rfl
  rw [testDone_busy hrun hbusy, if_neg (by omega)]
  split
  · rw [(Frame.tryStart ..).keep .gd (by decide)]
    exact hfrom
  · exact hfrom

theorem exec_selftestStart_opens {s : State} {dt : Nat} {o : Origin} {w : Word} {m : BitVec 14} (hw : s.writes o = true) (hmay : s.may true o = true)
    (hm : m = BitVec.ofNat 14 (fld w 0 6 + fld w 8 4 * 64 + fld w 16 4 * 1024)) (hne : m ≠ 0) (hr : (s.advance dt).testRefuse m = 0) :
    ∃ t, exec (.selftestStart dt o w) s = .next t ∧
      t.gd.test.busy = true ∧ t.gd.test.targets = m ∧ t.gd.test.failed = 0 ∧ t.gd.test.aborted = 0 ∧
      t.but s = { s.advance dt with gd := t.gd, freeIx := s.freeIx + 14, cp := (s.advance dt).cpWrote o } := by
  obtain ⟨i, hi⟩ := nextTarget_zero hne
  have hdo := doSelfTest_opens (s := s.advance dt) (c := (s.advance dt).ctx o 2) (by exact hmay) hm hne hr hi
  have hframe := Frame.testOpened ((s.advance dt).onFreeIx (· + 14)) m i
  have htest := testOpened_test ((s.advance dt).onFreeIx (· + 14)) m i
  refine ⟨_, exec_write_ack rfl hw hdo (hframe.keep .cp (by decide)) (hframe.keep .clk (by decide)), ?_⟩
  generalize ((s.advance dt).onFreeIx (· + 14)).testOpened m i = u at *
  refine ⟨congrArg (·.busy) htest, congrArg (·.targets) htest, congrArg (·.failed) htest, congrArg (·.aborted) htest, ?_⟩
  rw [hframe.eq_merge]
  rfl

theorem exec_selftestStart_refused {s : State} {dt : Nat} {o : Origin} {w : Word} {m : BitVec 14} (hw : s.writes o = true) (hmay : s.may true o = true)
    (hm : m = BitVec.ofNat 14 (fld w 0 6 + fld w 8 4 * 64 + fld w 16 4 * 1024)) (hne : m ≠ 0) {r : Nat} (hr : (s.advance dt).testRefuse m = r)
    (hr0 : r ≠ 0) : ∃ t, exec (.selftestStart dt o w) s = .next t ∧
      t.but s = { s.advance dt with
        gd := { s.gd with test := { s.gd.test with refuse := r } }, freeIx := s.freeIx + 14, cp := t.cp, recs := t.recs } ∧
      Refused s t dt o 2 St.state r := by
  subst hr
  have hdo := doSelfTest_refuses (s := s.advance dt) (c := (s.advance dt).ctx o 2) (by exact hmay) hm hne hr0
  obtain ⟨v, hexec, hframe, hrefused⟩ := exec_write_refused (c := .selftestStart dt o w) (f := fun c s => doSelfTest c s w) rfl hw hdo
  refine ⟨_, hexec, ?_, hrefused⟩
  rw [hframe.eq_merge]
  rfl

/-- The monitors of the high-side supplies of an auxiliary axis in direct mode. -/
theorem exec_hsSupplies {s : State} {dt : Nat} {x : Fin 4} {mv : Nat} (hrun : s.running = true) (halloc : s.auxAlloc x = true)
    (hlink : s.link10 (aux10 x) = false) :
    (∀ leg : Fin 4, s.gd.test.busy = false → s.pumps = true → s.gd.ax[aux10 x].hsUv.getLsbD leg.val = false → ∃ t,
      exec (.hsUvSet dt (aux10 x) leg mv) s = .next t ∧
      t.gd.ax[aux10 x].hsUv = s.gd.ax[aux10 x].hsUv ||| BitVec.ofNat 4 (2 ^ leg.val) ∧ t.ax = s.ax ∧ t.aux = s.aux) ∧
    (s.gd.ax[aux10 x].refresh = true → 8 ≤ s.gd.ax[aux10 x].uvCnt → s.aux[x].state.watched = true → ∃ t, exec (.bstUv dt (aux10 x) mv) s = .next t ∧
      t.aux[x].state = .halt ∧ t.aux[x].haltReason = 0x0603 ∧ t.ax = s.ax) ∧
    (s.gd.ax[aux10 x].refresh = true → s.gd.ax[aux10 x].hsUv = 0 → s.gd.ax[aux10 x].uvClear + 1000000000 ≤ s.tbAt dt →
      ∃ t, exec (.bstRefreshEnd dt (aux10 x) mv) s = .next t ∧ t.gd.ax[aux10 x].refresh = false ∧ t.gd.ax[aux10 x].uvCnt = 0 ∧ t.ax = s.ax ∧ t.aux = s.aux) ∧
    (s.pumps = true → ∃ t, exec (.hsSupplyReady dt (aux10 x)) s = .next t ∧ t.gd.ax[aux10 x].hsUv = 0 ∧ t.ax = s.ax) ∧
    (∀ (low : BitVec 4) (since : Nat), s.aux[x].startWait = some since → since + 50000000 ≤ s.tbAt dt → low ≠ 0 →
      ∃ t, exec (.bstStartTimeout dt (aux10 x) low mv) s = .next t ∧ t.aux[x].state = .halt ∧ t.aux[x].haltReason = 0x0603 ∧
      t.gd.ax[aux10 x].hsUv = low ∧ t.ax = s.ax) := by
  refine ⟨fun leg hbusy hpumps hnew => ?_, fun hrefresh hcnt hmoves => ?_, fun hrefresh hclear htime => ?_, fun hpumps => ?_, fun low since hwait htime hlow => ?_⟩
  · exact ⟨_, exec_next_of rfl (if_pos (by exact hrun)), hsUvSet_aux (s := s.advance dt) halloc hlink hbusy hpumps hnew⟩
  · refine ⟨_, exec_next_of rfl ((if_pos (by exact hrun)).trans (bstUv_aux (s := s.advance dt) hrefresh hcnt hmoves)), ?_⟩
    have hax := (Frame.event (s.advance dt) (s.advance dt).gd.ax[aux10 x].uvAt (Unit.axis (aux10 x)) 0x0603
      (s.advance dt).gd.ax[aux10 x].hsUv.toNat mv 0).keep .ax (by decide)
    generalize (s.advance dt).event (s.advance dt).gd.ax[aux10 x].uvAt (Unit.axis (aux10 x)) 0x0603 (s.advance dt).gd.ax[aux10 x].hsUv.toNat mv = u at *
    obtain ⟨hstate, hreason, -⟩ := State.auxHalt_aux u x 0x0603
    exact ⟨hstate, hreason, ((Frame.auxHalt u x 0x0603).keep .ax (by decide)).trans hax⟩
  · refine ⟨_, exec_next_of rfl ((if_pos (by exact hrun)).trans (bstRefreshEnd_due (s := s.advance dt) hrefresh hclear htime)), ?_⟩
    have hgd := (Frame.event (((s.advance dt).modGd (aux10 x) (fun g => { g with refresh := false, uvCnt := 0 }))) (s.advance dt).tb
      (Unit.axis (aux10 x)) 0x0602 0 (min (s.advance dt).gd.ax[aux10 x].hsMv mv) 0).keep .gd (by decide)
    refine ⟨(congrArg (fun g : GdSt => g.ax[aux10 x].refresh) hgd).trans (by rw [State.modGd_self]),
      (congrArg (fun g : GdSt => g.ax[aux10 x].uvCnt) hgd).trans (by rw [State.modGd_self]), (Frame.event ..).keep .ax (by decide),
      (Frame.event ..).keep .aux (by decide)⟩
  · exact ⟨_, exec_next_of rfl (if_pos (by exact hrun)), hsSupplyReady_aux (s := s.advance dt) halloc hpumps⟩
  · refine ⟨_, exec_next_of rfl ((if_pos (by exact hrun)).trans (bstStartTimeout_aux (s := s.advance dt) hwait htime hlow hlink)), ?_⟩
    have hgd := (Frame.event ((s.advance dt).modGd (aux10 x) (fun g => { g with hsUv := low, hsMv := mv })) (since + 50000000) (Unit.axis (aux10 x)) 0x0603
      low.toNat mv 0).keep .gd (by decide)
    have hax := (Frame.event ((s.advance dt).modGd (aux10 x) (fun g => { g with hsUv := low, hsMv := mv })) (since + 50000000) (Unit.axis (aux10 x)) 0x0603
      low.toNat mv 0).keep .ax (by decide)
    generalize ((s.advance dt).modGd (aux10 x) (fun g => { g with hsUv := low, hsMv := mv })).event (since + 50000000) (Unit.axis (aux10 x)) 0x0603
      low.toNat mv = u at *
    obtain ⟨hstate, hreason, -⟩ := State.auxHalt_aux u x 0x0603
    refine ⟨hstate, hreason, (auxHalt_hsUv u x 0x0603).trans ?_, ((Frame.auxHalt u x 0x0603).keep .ax (by decide)).trans hax⟩
    exact (congrArg (fun g : GdSt => g.ax[aux10 x].hsUv) hgd).trans (by rw [State.modGd_self])

/-- Settles O20: each comparator by what its operation leaves; a self-test by its target in turn. -/
theorem monitorsChoppersSelfTest : Obligations.MonitorsChoppersSelfTest := by
  unfold Obligations.MonitorsChoppersSelfTest
  intro s dt
  refine ⟨fun x mv hrun halloc hlink => ?_, fun ov mv hrun hbusy hnew => ?_, fun mv => ⟨_, exec_next_of rfl (if_pos rfl), rfl⟩,
    fun mv => ⟨_, exec_next_of rfl (if_pos rfl), rfl⟩, fun ov hdue => ⟨_, exec_next_of rfl (vdrvClear_only hdue), by cases ov <;> rfl⟩,
    fun c hrun hmap hbusy hacts => exec_chopperFault hrun hmap hbusy hacts, fun o w m hw hmay hm hne =>
      ⟨exec_selftestStart_opens hw hmay hm hne, fun r hr hr0 => exec_selftestStart_refused hw hmay hm hne hr hr0⟩, fun pass hrun hbusy => ?_⟩
  · exact exec_hsSupplies hrun halloc hlink
  · obtain ⟨u, hu, hleaves⟩ := vdrvSet_leaves (s := s.advance dt) (ov := ov) (mv := mv) hrun hbusy hnew
    refine ⟨u.settle, ?_, hleaves⟩
    cases ov
    · exact exec_next_of rfl hu
    · exact exec_next_of rfl hu
  · refine ⟨fun hleft => ⟨_, exec_next_of rfl ((testDone_busy (s := s.advance dt) hrun hbusy).trans (if_pos (by exact hleft))), rfl⟩,
      fun i hleft hi => ⟨_, exec_next_of rfl rfl, testDone_next (s := s.advance dt) hrun hbusy hleft hi⟩⟩

end Sys2Proof.Machine
end

section
/-! PROOF. Sigma-delta channels (R185 to R187): the fast comparison, overcurrent, stuck streams, zero offsets and declared faults. -/
set_option Elab.async false

namespace Sys2Proof.Machine

/-! ## A fault of an axis behind what leaves its side of the device as it was -/

theorem nAsc_of_ain {s t : State} (hregs : t.regs = s.regs) (hain : t.sns.ain = s.sns.ain) (n : Fin 6) : t.nAsc n = s.nAsc n := by
  simp only [State.nAsc, State.vdcAin, hregs, hain] <;> rfl

/-- A fault of an axis, behind what leaves the axes, their registers, the analog inputs, the bridges and the mode as they were. -/
theorem faulted_of_ain {s w : State} {dt : Nat} {n : Fin 6} {r : Nat} {cls : FltClass} {K : List StPart} (F : Frame K (s.advance dt) w)
    (h : s.ax[n].state ≠ .halt) (hain : w.sns.ain = s.sns.ain) (hax : .ax ∉ K := by decide) (hregs : .regs ∉ K := by decide)
    (hgd : .gd ∉ K := by decide) (hmode : .mode ∉ K := by decide) : Faulted s (w.axFault n r cls) n r cls :=
  State.axFault_faulted s w n r cls (F.keep .ax hax) (F.keep .regs hregs) (nAsc_of_ain (F.keep .regs hregs) hain n)
    (F.keep .gd hgd) (F.keep .mode hmode) h

/-- A fault shows in the axes alone. -/
theorem Faulted.of_ax {s t u : State} {n : Fin 6} {r : Nat} {cls : FltClass} (h : Faulted s t n r cls) (hax : u.ax = t.ax) : Faulted s u n r cls := by
  unfold Faulted at *
  rw [hax]
  exact h

/-- The sensing inputs themselves: sigma-delta channels, analog inputs and the order of the scan. -/
structure InputsKept (s t : State) : Prop where
  sdi : t.sns.sdi = s.sns.sdi
  ain : t.sns.ain = s.sns.ain
  scan : t.sns.scanLast = s.sns.scanLast

namespace InputsKept

variable {s t u : State}

theorem refl (s : State) : InputsKept s s := ⟨rfl, rfl, rfl⟩

theorem trans (h : InputsKept s t) (k : InputsKept t u) : InputsKept s u := ⟨k.sdi.trans h.sdi, k.ain.trans h.ain, k.scan.trans h.scan⟩

theorem frame {K : List StPart} (h : InputsKept s t) (F : Frame K t u) (hK : .sns ∉ K := by decide) : InputsKept s u := by
  have hsns : u.sns = t.sns := F.keep .sns hK
  exact h.trans ⟨by rw [hsns], by rw [hsns], by rw [hsns]⟩

theorem ite {c : Prop} [Decidable c] (h : InputsKept s t) (k : InputsKept s u) : InputsKept s (if c then t else u) := by
  split
  · exact h
  · exact k

theorem modSns (h : InputsKept s t) (n : Fin 6) (f : SnsAx → SnsAx) : InputsKept s (t.modSns n f) := h.trans ⟨rfl, rfl, rfl⟩

theorem epuFresh (h : InputsKept s t) (n : Fin 6) : InputsKept s (t.epuFresh n) := (h.frame (Frame.epuStart ..)).modSns _ _

theorem ascEnter (h : InputsKept s t) (n : Fin 6) (cause : Nat) (high follow : Bool) (at' : Nat) (coast : Option (Nat × Rat)) :
    InputsKept s (t.ascEnter n cause high follow at' coast) := by
  unfold State.ascEnter
  extract_lets blind peak from' u v
  have hu : InputsKept s u := h.ite (h.epuFresh n)
  exact ((hu.frame (Frame.modGd ..)).frame (Frame.crashEnd ..)).frame (Frame.modAx ..)

theorem axFault (h : InputsKept s t) (n : Fin 6) (r : Nat) (cls : FltClass) : InputsKept s (t.axFault n r cls) := by
  have hoff : InputsKept s (t.axHaltOff n r) := h.frame (Frame.axHaltOff ..)
  have hstop : InputsKept s (t.axStop n (.fault r false)) := h.frame (Frame.axStop ..)
  have hasc (coast : Option (Nat × Rat)) :
      InputsKept s (((t.ascEnter n 2 (t.ascSide n) false t.tb coast).modAx n (fun x => { x with haltReason := r })).resetCommand n) :=
    ((h.ascEnter ..).frame (Frame.modAx ..)).frame (Frame.resetCommand ..)
  unfold State.axFault
  extract_lets code x on u
  have hu : InputsKept s u := (h.frame (Frame.modAx ..)).frame (Frame.resetCommand ..)
  exact h.ite (hstop.ite (hoff.ite (((hu.ite (hu.frame (Frame.event ..))).ite hoff).ite ((hasc _).ite ((hasc _).ite hoff)))))

theorem runAgain (h : InputsKept s t) (n : Fin 6) : InputsKept s (t.runAgain n) := by
  unfold State.runAgain
  split
  · exact h
  · extract_lets q src base res u
    have hu : InputsKept s u := h.frame (Frame.onFreeIx ..)
    exact (hu.frame (Frame.modAx ..)).ite (((hu.modSns n _).frame (Frame.modAx ..)).ite hu)

theorem noteDecl (h : InputsKept s t) (n : Fin 6) (sdi : Bool) : InputsKept s (t.noteDecl n sdi) := by
  unfold State.noteDecl
  split
  · exact h.modSns n _
  · exact h

theorem declareSdi (h : InputsKept s t) (n : Fin 6) (p : Fin 3) (cause at' : Nat) : InputsKept s (t.declareSdi n p cause at') := by
  unfold State.declareSdi
  exact h.ite (((((h.noteDecl n true).modSns n _).frame (Frame.event ..)).runAgain n).frame (Frame.blindCheck ..))

end InputsKept

/-- A state that differs in its records and sensing alone. -/
theorem but_recs_sns {s u : State} {dt : Nat} (F : Frame [.recs, .sns] (s.advance dt) u) :
    u.settle.but s = { s.advance dt with sns := u.sns, recs := u.recs } := by
  rw [F.eq_merge]
  rfl

theorem State.modSns_sns (s : State) (n : Fin 6) (f : SnsAx → SnsAx) : (s.modSns n f).sns = { s.sns with ax := vset s.sns.ax n f } := rfl

/-! ## The declared fault of a channel -/

theorem runOf_congr {s t : State} (hclk : t.clk = s.clk) (hax : t.ax = s.ax) (hsnt : t.snt = s.snt) (n : Fin 6) :
    t.runOf n = s.runOf n := by
  simp only [State.runOf, State.tb, hclk, hax, hsnt] <;> rfl

theorem modSns_congr {s : State} {n : Fin 6} {f g : SnsAx → SnsAx} (h : f s.sns.ax[n] = g s.sns.ax[n]) : s.modSns n f = s.modSns n g := by
  simp only [State.modSns, State.onSns, vset, h]

theorem modSns_same {s : State} {n : Fin 6} {f : SnsAx → SnsAx} (h : f s.sns.ax[n] = s.sns.ax[n]) : s.modSns n f = s := by
  have hset : vset s.sns.ax n f = s.sns.ax := by
    rw [vset, h]
    exact Vector.set_getElem_self ..
  simp only [State.modSns, State.onSns, hset]

theorem noteDecl_eq (s : State) (n : Fin 6) (sdi : Bool) :
    s.noteDecl n sdi = s.modSns n fun q => { q with undo := (s.noteDecl n sdi).sns.ax[n].undo } := by
  unfold State.noteDecl
  split
  · rw [State.modSns_self]
    exact modSns_congr rfl
  · exact (modSns_same rfl).symm

section
variable {s : State} {c : Fin 32} {e : Nat}

theorem fastOutput_edge {y : Rat} (hrun : s.running = true) (hen : s.regs.SNS_SDIc_CFG_EN c = true) (hedge : s.sdiEdge c = some e) :
    s.fastOutput c y = s.modSdi c fun d => { d with
      fastLast := s.regs.SNS_SDIc_SCALE c * y - s.sns.sdi[c].zero
      fastCnt := if s.regs.SNS_SDIc_FAST_LIM c < absR (s.regs.SNS_SDIc_SCALE c * y - s.sns.sdi[c].zero) then d.fastCnt + 1 else 0
      oc := decide (s.regs.SNS_SDIc_FAST_LIM c < absR (s.regs.SNS_SDIc_SCALE c * y - s.sns.sdi[c].zero) ∧ s.regs.SNS_SDIc_CFG_FAST_N c ≤ d.fastCnt)
      ocAt := if s.regs.SNS_SDIc_FAST_LIM c < absR (s.regs.SNS_SDIc_SCALE c * y - s.sns.sdi[c].zero) ∧ d.fastCnt = s.regs.SNS_SDIc_CFG_FAST_N c then e
        else d.ocAt } := by
  unfold State.fastOutput
  simp only [hedge, hrun, hen, Bool.and_self, Bool.not_true, Bool.false_eq_true, if_false]
  rw [State.sdiAmps]
  congr 1
  funext d
  generalize s.regs.SNS_SDIc_SCALE c * y - s.sns.sdi[c].zero = i
  by_cases hhigh : s.regs.SNS_SDIc_FAST_LIM c < absR i
  · simp [hhigh]
  · simp [hhigh]

theorem phaseOc_due {n : Fin 6} {p : Fin 3} (hphase : s.phaseOf c = some (n, p)) (hrun : s.running = true) (halloc : s.axAlloc n = true)
    (hcnt : s.regs.SNS_SDIc_CFG_FAST_N c + 1 ≤ s.sns.sdi[c].fastCnt) (hsdi : s.sns.ax[n].fSdi.getLsbD p.val = false)
    (hfb : s.sns.ax[n].fbSdi.getLsbD p.val = false) :
    s.phaseOc c = ((s.event s.sns.sdi[c].ocAt (Unit.ax n) 0x0703 p.val (milli s.sns.sdi[c].fastLast)).modSdi c (fun d => { d with
        fastCnt := 0 })).axFault n 0x0703 .oc := by
  unfold State.phaseOc
  rw [hphase]
  dsimp only
  rw [if_pos (by rw [hrun, decide_eq_true hcnt, hsdi, hfb, halloc]; rfl)]

theorem phaseOf_congr {s t : State} (h : t.regs = s.regs) (c : Fin 32) : t.phaseOf c = s.phaseOf c := by simp only [State.phaseOf, h]

/-- The mark of a stuck stream with its record. -/
def State.stuckMarked (s : State) (c : Fin 32) (level : Bool) (e : Nat) : State :=
  (s.modSdi c (fun d => { d with stuck := true, stuckAt := e, stuckLevel := level, runEnd := none })).event e Unit.sns 0x0701 c.val (b2n level)

theorem Frame.stuckMarked (s : State) (c : Fin 32) (level : Bool) (e : Nat) : Frame [.recs, .sns] s (s.stuckMarked c level e) :=
  Frame.next (Frame.event ..) (by decide) (Frame.next (Frame.modSdi ..) (by decide) (Frame.refl ..))

theorem stuckMarked_sns (s : State) (c : Fin 32) (level : Bool) (e : Nat) : (s.stuckMarked c level e).sns = { s.sns with
    sdi := vset s.sns.sdi c fun d => { d with stuck := true, stuckAt := e, stuckLevel := level, runEnd := none } } :=
  (Frame.event ..).keep .sns (by decide)

theorem sdiStuck_edge {level : Bool} (hrun : s.running = true) (hen : s.regs.SNS_SDIc_CFG_EN c = true) (hedge : s.sdiEdge c = some e) :
    (s.phaseOf c = none → s.sdiStuck c level = s.stuckMarked c level e) ∧
    ∀ n p, s.phaseOf c = some (n, p) → s.sdiStuck c level =
      ((s.stuckMarked c level e).modSns n (fun q => q.unclean 0 s.tb)).declareSdi n p 2 e := by
  have hregs : (s.stuckMarked c level e).regs = s.regs := (Frame.stuckMarked ..).keep .regs (by decide)
  have hclk : (s.stuckMarked c level e).clk = s.clk := (Frame.stuckMarked ..).keep .clk (by decide)
  have htb : (s.stuckMarked c level e).tb = s.tb := by rw [State.tb, hclk, State.tb]
  have hop : s.sdiStuck c level = match s.phaseOf c with
      | some (n, p) => ((s.stuckMarked c level e).modSns n (fun q => q.unclean 0 s.tb)).declareSdi n p 2 e
      | none => s.stuckMarked c level e := by
    rw [← phaseOf_congr hregs, ← htb]
    unfold State.sdiStuck
    simp only [hedge, hrun, hen, Bool.and_self, Bool.not_true, Bool.false_eq_true, if_false] <;> rfl
  exact ⟨fun h => by rw [hop, h], fun n p h => by rw [hop, h]⟩

/-! ### A declaration -/

/-- The declared phase channel `p` of an axis that has none declared, with its record. -/
def State.sdiDeclared (s : State) (n : Fin 6) (p : Fin 3) (cause at' : Nat) : State :=
  (s.modSns n (fun q => { q.faulted 0 s.tb with
    fSdi := BitVec.ofNat 3 (2 ^ p.val), fbSdi := BitVec.ofNat 3 (2 ^ p.val), fbCnt := 0, sdiAt := at'
    undo := (s.noteDecl n true).sns.ax[n].undo })).event at' (Unit.ax n) 0x0704 (p.val + cause * 256) (milli s.sns.ax[n].maxDis)

variable {n : Fin 6} {p : Fin 3} {cause at' : Nat}

theorem modSns_modSns (s : State) (n : Fin 6) (f g : SnsAx → SnsAx) : (s.modSns n f).modSns n g = s.modSns n fun q => g (f q) := by
  simp only [State.modSns, State.onSns, vset_vset]

theorem declareSdi_first (h : s.sns.ax[n].fSdi = 0) : s.declareSdi n p cause at' = ((s.sdiDeclared n p cause at').runAgain n).blindCheck n := by
  unfold State.declareSdi State.sdiDeclared
  rw [if_neg (not_not_intro h)]
  dsimp only
  refine congrArg (fun u : State => ((u.event at' (Unit.ax n) 0x0704 (p.val + cause * 256) (milli s.sns.ax[n].maxDis)).runAgain n).blindCheck n) ?_
  conv_lhs => rw [noteDecl_eq, modSns_modSns]
  exact modSns_congr rfl

theorem declareSdi_again (h : s.sns.ax[n].fSdi ≠ 0) : s.declareSdi n p cause at' = s := if_pos h

theorem Frame.sdiDeclared (s : State) (n : Fin 6) (p : Fin 3) (cause at' : Nat) : Frame [.recs, .sns] s (s.sdiDeclared n p cause at') :=
  Frame.next (Frame.event ..) (by decide) (Frame.next (Frame.modSns ..) (by decide) (Frame.refl ..))

theorem sdiDeclared_ax (s : State) (n : Fin 6) (p : Fin 3) (cause at' : Nat) : (s.sdiDeclared n p cause at').sns.ax[n] = { s.sns.ax[n].faulted 0 s.tb with
    fSdi := BitVec.ofNat 3 (2 ^ p.val), fbSdi := BitVec.ofNat 3 (2 ^ p.val), fbCnt := 0, sdiAt := at'
    undo := (s.noteDecl n true).sns.ax[n].undo } := by
  have hsns : (s.sdiDeclared n p cause at').sns = _ := (Frame.event ..).keep .sns (by decide)
  rw [hsns, State.modSns_self]

/-- The work begun again leaves the faults of the sensors. -/
theorem runAgain_faults (s : State) (n : Fin 6) : (s.runAgain n).sns.ax[n].fSdi = s.sns.ax[n].fSdi ∧
    (s.runAgain n).sns.ax[n].fbSdi = s.sns.ax[n].fbSdi ∧ (s.runAgain n).sns.ax[n].limpNext = s.sns.ax[n].limpNext := by
  unfold State.runAgain
  split
  · exact ⟨rfl, rfl, rfl⟩
  · extract_lets q src base res u
    split
    · exact ⟨rfl, rfl, rfl⟩
    · split
      · have hsns : ((u.modSns n (fun q => q.commit res.sns)).modAx n (fun x => { x with eng := res.eng, posted := some res.set })).sns.ax[n] =
            u.sns.ax[n].commit res.sns := State.modSns_self ..
        rw [hsns]
        exact ⟨rfl, rfl, rfl⟩
      · exact ⟨rfl, rfl, rfl⟩

theorem declareSdi_faults (h : s.sns.ax[n].fSdi = 0) : (s.declareSdi n p cause at').sns.ax[n].fSdi = BitVec.ofNat 3 (2 ^ p.val) ∧
    (s.declareSdi n p cause at').sns.ax[n].fbSdi = BitVec.ofNat 3 (2 ^ p.val) ∧ (s.declareSdi n p cause at').sns.ax[n].limpNext = true := by
  have hax := sdiDeclared_ax s n p cause at'
  rw [declareSdi_first h, (Frame.blindCheck ..).keep .sns (by decide)]
  obtain ⟨hsdi, hfb, hlimp⟩ := runAgain_faults (s.sdiDeclared n p cause at') n
  rw [hsdi, hfb, hlimp, hax]
  exact ⟨rfl, rfl, rfl⟩

/-- With no update begun a declaration is what it notes, and the check of a blind ASC. -/
theorem declareSdi_idle (h : s.sns.ax[n].fSdi = 0) (hrun : s.runOf n = none) :
    s.declareSdi n p cause at' = (s.sdiDeclared n p cause at').blindCheck n := by
  have F := Frame.sdiDeclared s n p cause at'
  have hrun' : (s.sdiDeclared n p cause at').runOf n = none :=
    (runOf_congr (F.keep .clk (by decide)) (F.keep .ax (by decide)) (F.keep .snt (by decide)) n).trans hrun
  rw [declareSdi_first h]
  unfold State.runAgain
  rw [hrun']

/-- The record of a declaration joins what has been written. -/
theorem declareSdi_eventful {t : State} {l : List Shown} (hw : Wrote s t l) (hphase : s.pwr.phase = .running) (hp : t.pwr = s.pwr) (hg : t.regs = s.regs)
    (h : t.sns.ax[n].fSdi = 0) :
    Wrote s (t.declareSdi n p cause at') (l ++ [evtOf at' (Unit.ax n) 0x0704 (p.val + cause * 256) (milli t.sns.ax[n].maxDis)]) := by
  rw [declareSdi_first h]
  exact ((hw.next (Frame.modSns ..) (by decide)).event hphase hp hg).next (Frame.next (Frame.blindCheck ..) (by decide) (Frame.runAgain ..) : Frame [.freeIx, .sns, .ax] _ _) (by decide)

theorem sdiFault_declares {k : Fin 4} (hrun : s.running = true)
    (h : (k = 1 ∧ s.sns.ax[n].verdict = .sdi p ∧ s.regs.SNS_AXn_XCHK_CFG_N n ≤ s.sns.ax[n].vcnt) ∨
      (k = 2 ∧ ∃ ch, s.sdiOf n p = some ch ∧ s.sns.sdi[ch].stuck = true) ∨ (k = 3 ∧ ∃ ch, s.sdiOf n p = some ch ∧ s.sns.sdi[ch].zeroFail = true)) :
    ∃ at', s.sdiFault n p k = s.declareSdi n p k.val at' := by
  unfold State.sdiFault
  rw [hrun]
  rcases h with ⟨rfl, hverdict, hcnt⟩ | ⟨rfl, ch, hch, hstuck⟩ | ⟨rfl, ch, hch, hfail⟩
  · exact ⟨s.sns.ax[n].at', if_pos (And.intro hverdict hcnt)⟩
  · refine ⟨s.sns.sdi[ch].stuckAt, ?_⟩
    simp only [hch]
    exact if_pos hstuck
  · refine ⟨s.tb, ?_⟩
    simp only [hch]
    exact if_pos hfail

end

/-! ## The commands -/

section
variable {s : State} {dt : Nat} {c : Fin 32}

/-- An average of a phase channel within 5 % of the scale is kept for the next start; a larger one of a sensor declared faulty is noted with its record. -/
theorem zeroEnd_sdi {n : Fin 6} {p : Fin 3} {avg : Rat} (hphase : s.phaseOf c = some (n, p)) (hrun : s.running = true) (hoff : s.bridgeOff n = true) :
    (absR avg ≤ s.regs.SNS_SDIc_SCALE c / 20 → s.zeroEnd (.sdi c) avg = s.modSdi c fun d => { d with zeroFail := false, zeroNext := some avg }) ∧
    (s.regs.SNS_SDIc_SCALE c / 20 < absR avg → s.sns.ax[n].fSdi ≠ 0 → s.zeroEnd (.sdi c) avg =
      ((s.modSdi c (fun d => { d with zeroFail := true })).event s.tb Unit.sns 0x0702 c.val (milli avg)).modSns n fun q => q.unclean 0 s.tb) := by
  unfold State.zeroEnd
  simp only [hphase, hrun, hoff, Bool.and_self, Bool.not_true, Bool.false_eq_true, if_false]
  refine ⟨fun h => if_neg (not_lt.2 h), fun h hfault => (if_pos h).trans ?_⟩
  have hsns := (Frame.event (s.modSdi c (fun d => { d with zeroFail := true })) s.tb Unit.sns 0x0702 c.val (milli avg) 0).keep .sns (by decide)
  generalize (s.modSdi c (fun d => { d with zeroFail := true })).event s.tb Unit.sns 0x0702 c.val (milli avg) = u at *
  refine declareSdi_again ?_
  rw [State.modSns_self, hsns]
  exact hfault

/-- The same for the DC-link return path. -/
theorem zeroEnd_dcs {n : Fin 6} {avg : Rat} (hrun : s.running = true) (halloc : s.axAlloc n = true) (hoff : s.bridgeOff n = true) :
    (absR avg ≤ s.regs.SNS_DCSn_SCALE n * 3 / 2 / 20 → s.zeroEnd (.dcs n) avg =
      s.modSns n fun q => { q with dcsZeroFail := false, dcsZeroNext := some avg }) ∧
    (s.regs.SNS_DCSn_SCALE n * 3 / 2 / 20 < absR avg → s.sns.ax[n].fDcs = true → s.zeroEnd (.dcs n) avg =
      (s.modSns n (fun q => { q.unclean 1 s.tb with dcsZeroFail := true })).event s.tb Unit.sns 0x0702 (n.val + 256) (milli avg)) := by
  unfold State.zeroEnd
  simp only [hrun, halloc, hoff, Bool.and_self, Bool.not_true, Bool.false_eq_true, if_false]
  refine ⟨fun h => if_neg (not_lt.2 h), fun h hfault => (if_pos h).trans ?_⟩
  have hsns := (Frame.event (s.modSns n (fun q => { q.unclean 1 s.tb with dcsZeroFail := true })) s.tb Unit.sns 0x0702 (n.val + 256) (milli avg) 0).keep
    .sns (by decide)
  generalize (s.modSns n (fun q => { q.unclean 1 s.tb with dcsZeroFail := true })).event s.tb Unit.sns 0x0702 (n.val + 256) (milli avg) = u at *
  refine if_pos ?_
  rw [hsns, State.modSns_self]
  exact hfault

theorem exec_phaseOc {n : Fin 6} {p : Fin 3} (hphase : s.phaseOf c = some (n, p)) (hrun : s.running = true) (halloc : s.axAlloc n = true)
    (hcnt : s.regs.SNS_SDIc_CFG_FAST_N c + 1 ≤ s.sns.sdi[c].fastCnt)
    (hsdi : s.sns.ax[n].fSdi.getLsbD p.val = false) (hfb : s.sns.ax[n].fbSdi.getLsbD p.val = false) :
    ∃ t, exec (.phaseOc dt c) s = .next t ∧ (s.ax[n].state ≠ .halt → Faulted s t n 0x0703 .oc) ∧ t.sns.sdi[c].fastCnt = 0 := by
  have hop := phaseOc_due (s := s.advance dt) hphase hrun halloc hcnt hsdi hfb
  have hsns := (Frame.event (s.advance dt) (s.advance dt).sns.sdi[c].ocAt (Unit.ax n) 0x0703 p.val (milli (s.advance dt).sns.sdi[c].fastLast) 0).keep .sns (by decide)
  have F := Frame.event (s.advance dt) (s.advance dt).sns.sdi[c].ocAt (Unit.ax n) 0x0703 p.val (milli (s.advance dt).sns.sdi[c].fastLast) 0
  generalize (s.advance dt).event (s.advance dt).sns.sdi[c].ocAt (Unit.ax n) 0x0703 p.val (milli (s.advance dt).sns.sdi[c].fastLast) = u at *
  have Fw : Frame [.recs, .sns] (s.advance dt) (u.modSdi c fun d => { d with fastCnt := 0 }) :=
    Frame.next (Frame.modSdi ..) (by decide) (Frame.next F (by decide) (Frame.refl ..))
  have hain : (u.modSdi c fun d => { d with fastCnt := 0 }).sns.ain = u.sns.ain := rfl
  refine ⟨_, exec_next_of rfl hop, fun hstate => (faulted_of_ain Fw hstate (hain.trans (congrArg SnsSt.ain hsns))).of_ax rfl, ?_⟩
  have hkept : (((u.modSdi c fun d => { d with fastCnt := 0 }).axFault n 0x0703 .oc).sns.sdi) = _ := ((InputsKept.refl _).axFault n 0x0703 .oc).sdi
  refine (congrArg (fun v : Vector SdiSt 32 => v[c].fastCnt) hkept).trans ?_
  rw [State.modSdi_self]

theorem exec_sdiStuck {level : Bool} {e : Nat} (hrun : s.running = true) (hen : s.regs.SNS_SDIc_CFG_EN c = true) (hedge : (s.advance dt).sdiEdge c = some e) :
    (∃ t, exec (.sdiStuck dt c level) s = .next t ∧ t.sns.sdi[c].stuck = true ∧ t.sns.sdi[c].stuckAt = e) ∧
    (∀ (n : Fin 6) (p : Fin 3), s.phaseOf c = some (n, p) → s.sns.ax[n].fSdi = 0 → ∃ t, exec (.sdiStuck dt c level) s = .next t ∧
      t.sns.ax[n].fSdi = BitVec.ofNat 3 (2 ^ p.val) ∧ t.sns.ax[n].fbSdi = BitVec.ofNat 3 (2 ^ p.val) ∧
      Wrote s t [evtOf e Unit.sns 0x0701 c (b2n level), evtOf e (Unit.ax n) 0x0704 (p.val + 2 * 256) (milli s.sns.ax[n].maxDis)]) ∧
    (s.phaseOf c = none → ∃ t, exec (.sdiStuck dt c level) s = .next t ∧
      t.but s = { s.advance dt with
        sns := { s.sns with sdi := vset s.sns.sdi c (fun d => { d with stuck := true, stuckAt := e, stuckLevel := level, runEnd := none }) }
        recs := t.recs } ∧
      Wrote s t [evtOf e Unit.sns 0x0701 c (b2n level)]) ∧
    (∀ (n : Fin 6) (p : Fin 3), s.phaseOf c = some (n, p) → s.sns.ax[n].fSdi ≠ 0 → ∃ t, exec (.sdiStuck dt c level) s = .next t ∧
      t.but s = { s.advance dt with
        sns := { s.sns with
          sdi := vset s.sns.sdi c (fun d => { d with stuck := true, stuckAt := e, stuckLevel := level, runEnd := none })
          ax := vset s.sns.ax n (fun q => q.unclean 0 (s.tbAt dt)) }
        recs := t.recs } ∧
      Wrote s t [evtOf e Unit.sns 0x0701 c (b2n level)]) := by
  obtain ⟨hnone, hsome⟩ := sdiStuck_edge (s := s.advance dt) (level := level) hrun hen hedge
  have hphase := run_phase hrun
  have hsns := stuckMarked_sns (s.advance dt) c level e
  have F := Frame.stuckMarked (s.advance dt) c level e
  have hwrote : Wrote s ((s.advance dt).stuckMarked c level e) [evtOf e Unit.sns 0x0701 c (b2n level)] := Wrote.event_one hphase
  generalize (s.advance dt).stuckMarked c level e = u at *
  have hself : u.sns.sdi[c].stuck = true ∧ u.sns.sdi[c].stuckAt = e := by
    rw [hsns]
    simp
  have hax : u.sns.ax = s.sns.ax := by rw [hsns]; rfl
  refine ⟨?_, fun n p hp hfirst => ?_, fun hp => ?_, fun n p hp hagain => ?_⟩
  · cases hp : s.phaseOf c with
    | none => exact ⟨_, exec_next_of rfl (hnone hp), hself⟩
    | some np =>
      refine ⟨_, exec_next_of rfl (hsome np.1 np.2 hp), ?_⟩
      have hkept := ((InputsKept.refl u).modSns np.1 (fun q => q.unclean 0 (s.advance dt).tb)).declareSdi np.1 np.2 2 e |>.sdi
      rw [State.settle_sns, hkept]
      exact hself
  · refine ⟨_, exec_next_of rfl (hsome n p hp), ?_⟩
    have hq : (u.modSns n (fun q => q.unclean 0 (s.advance dt).tb)).sns.ax[n] = s.sns.ax[n].unclean 0 (s.advance dt).tb := by
      rw [State.modSns_self, hax]
    have hfirst' : (u.modSns n (fun q => q.unclean 0 (s.advance dt).tb)).sns.ax[n].fSdi = 0 := by
      rw [hq]
      exact hfirst
    have hwrote' := declareSdi_eventful (p := p) (cause := 2) (at' := e) (hwrote.next (Frame.modSns u n (fun q => q.unclean 0 (s.advance dt).tb)) (by decide))
      hphase ((Frame.next (Frame.modSns ..) (by decide) F : Frame [.recs, .sns] _ _).keep .pwr (by decide))
      ((Frame.next (Frame.modSns ..) (by decide) F : Frame [.recs, .sns] _ _).keep .regs (by decide)) hfirst'
    obtain ⟨hsdi, hfb, -⟩ := declareSdi_faults (p := p) (cause := 2) (at' := e) hfirst'
    refine ⟨hsdi, hfb, ?_⟩
    rw [hq] at hwrote'
    exact hwrote'.settle
  · refine ⟨_, exec_next_of rfl (hnone hp), ?_, hwrote.settle⟩
    rw [but_recs_sns F, hsns]
    rfl
  · refine ⟨_, exec_next_of rfl ((hsome n p hp).trans (declareSdi_again ?_)), ?_,
      (hwrote.next (Frame.modSns ..) (by decide)).settle⟩
    · rw [State.modSns_self, hax]
      exact hagain
    · rw [but_recs_sns (Frame.next (Frame.modSns ..) (by decide) F), State.modSns_sns, hsns]
      rfl

theorem exec_sdiFault {n : Fin 6} {p : Fin 3} {k : Fin 4} (hrun : s.running = true) (hfirst : s.sns.ax[n].fSdi = 0)
    (hcause : (k = 1 ∧ s.sns.ax[n].verdict = .sdi p ∧ s.regs.SNS_AXn_XCHK_CFG_N n ≤ s.sns.ax[n].vcnt) ∨
      (k = 2 ∧ ∃ ch, s.sdiOf n p = some ch ∧ s.sns.sdi[ch].stuck = true) ∨ (k = 3 ∧ ∃ ch, s.sdiOf n p = some ch ∧ s.sns.sdi[ch].zeroFail = true)) :
    (∃ t, exec (.sdiFault dt n p k) s = .next t ∧ t.sns.ax[n].fSdi = BitVec.ofNat 3 (2 ^ p.val) ∧
      t.sns.ax[n].fbSdi = BitVec.ofNat 3 (2 ^ p.val) ∧ t.sns.ax[n].limpNext = true) ∧
    ((s.advance dt).runOf n = none → ∃ t, exec (.sdiFault dt n p k) s = .next t ∧
      t.but s = { s.advance dt with
        sns := { s.sns with ax := vset s.sns.ax n (fun q => { q.faulted 0 (s.tbAt dt) with
          fSdi := BitVec.ofNat 3 (2 ^ p.val), fbSdi := BitVec.ofNat 3 (2 ^ p.val), fbCnt := 0, sdiAt := t.sns.ax[n].sdiAt, undo := t.sns.ax[n].undo }) }
        recs := t.recs, ax := t.ax }) := by
  obtain ⟨at', hop⟩ := sdiFault_declares (s := s.advance dt) (n := n) (p := p) (k := k) hrun hcause
  refine ⟨⟨_, exec_next_of rfl hop, declareSdi_faults (s := s.advance dt) hfirst⟩, fun hidle => ⟨_, exec_next_of rfl hop, ?_⟩⟩
  rw [declareSdi_idle (s := s.advance dt) hfirst hidle]
  have F := Frame.sdiDeclared (s.advance dt) n p k.val at'
  have hax := sdiDeclared_ax (s.advance dt) n p k.val at'
  have hsns : ((s.advance dt).sdiDeclared n p k.val at').sns = _ := (Frame.event ..).keep .sns (by decide)
  have G := Frame.blindCheck ((s.advance dt).sdiDeclared n p k.val at') n
  generalize (s.advance dt).sdiDeclared n p k.val at' = u at *
  have Gsns : (u.blindCheck n).sns = u.sns := G.keep .sns (by decide)
  rw [State.settle_sns, Gsns, hax]
  have H : Frame [.recs, .sns, .ax] (s.advance dt) (u.blindCheck n) :=
    Frame.next G (by decide) (Frame.next F (by decide) (Frame.refl ..))
  have hbut : (u.blindCheck n).settle.but s =
      { s.advance dt with sns := (u.blindCheck n).sns, recs := (u.blindCheck n).recs, ax := (u.blindCheck n).ax } := by
    generalize u.blindCheck n = v at *
    rw [H.eq_merge]
    rfl
  rw [hbut, Gsns, hsns]
  rfl

/-- Settles O21: each command by what its operation leaves of the channel; a declaration by the fault that it notes. -/
theorem sigmaDeltaChannels : Obligations.SigmaDeltaChannels := by
  unfold Obligations.SigmaDeltaChannels
  intro s dt c
  refine ⟨fun y level hedge => ?_, fun y e hrun hen hedge => ⟨_, exec_next_of rfl (fastOutput_edge (s := s.advance dt) hrun hen hedge), rfl⟩,
    fun n p hphase hrun halloc hstate hcnt hsdi hfb => by
      obtain ⟨t, ht, hfault, hcleared⟩ := exec_phaseOc (dt := dt) hphase hrun halloc hcnt hsdi hfb
      exact ⟨t, ht, hfault hstate, hcleared⟩,
    fun level e hrun hen hedge => exec_sdiStuck hrun hen hedge,
    fun hrun htime => ⟨_, exec_next_of rfl (if_pos (And.intro hrun htime)), rfl⟩, fun n p avg hphase hrun hoff => ?_, fun n avg hrun halloc hoff => ?_,
    fun n p k hrun hfirst hcause => exec_sdiFault hrun hfirst hcause⟩
  · have hfast : (s.advance dt).fastOutput c y = s.advance dt := by
      unfold State.fastOutput
      rw [hedge]
    have hstuck : (s.advance dt).sdiStuck c level = s.advance dt := by
      unfold State.sdiStuck
      rw [hedge]
    exact ⟨⟨_, exec_next_of rfl hfast, rfl⟩, ⟨_, exec_next_of rfl hstuck, rfl⟩⟩
  · obtain ⟨hsmall, hlarge⟩ := zeroEnd_sdi (s := s.advance dt) (avg := avg) hphase hrun hoff
    refine ⟨fun h => ⟨_, exec_next_of rfl (hsmall h), rfl⟩, fun h hfault => ⟨_, exec_next_of rfl (hlarge h hfault), ?_, ?_⟩⟩
    · rw [but_recs_sns (Frame.next (Frame.modSns ..) (by decide) (Frame.next (Frame.event ..) (by decide)
        (Frame.next (Frame.modSdi ..) (by decide) (Frame.refl ..)))), State.modSns_sns, (Frame.event ..).keep .sns (by decide)]
      rfl
    · exact ((Wrote.event_one (run_phase hrun)).next (Frame.modSns ..) (by decide)).settle
  · obtain ⟨hsmall, hlarge⟩ := zeroEnd_dcs (s := s.advance dt) (avg := avg) hrun halloc hoff
    refine ⟨fun h => ⟨_, exec_next_of rfl (hsmall h), rfl⟩, fun h hfault => ⟨_, exec_next_of rfl (hlarge h hfault), (but_event ..).trans rfl, ?_⟩⟩
    exact (Wrote.event_one (run_phase hrun)).settle

end

end Sys2Proof.Machine
end

section
/-! PROOF. DC-link return sampling and its faults, lost sensing and the return of a sensor (R179, R186 to R191). -/
set_option Elab.async false

namespace Sys2Proof.Machine

section
variable {s : State} {n : Fin 6}

/-- Whether the instant of a window of the set in force is the present tick. -/
def State.windowNow (s : State) (n : Fin 6) : Window → Bool
  | some (t, _, _) => (s.ax[n].setAt + s.placed n t) / 2 == s.tb / 2
  | none => false

/-- The first window of the set whose instant is the present tick is held. -/
theorem dcsHold_window {w : Rat} {p : Fin 3} {plus : Bool} {pre post : List Window} (hrun : s.running = true) (hbridge : s.ax[n].bridge = .modulate)
    (hidle : s.sns.ax[n].hold = none) (hset : s.ax[n].set.windows = pre ++ some (w, p, plus) :: post)
    (hpre : ∀ x ∈ pre, ∀ y, x = some y → (s.ax[n].setAt + s.placed n y.1) / 2 ≠ s.tb / 2)
    (hnow : (s.ax[n].setAt + s.placed n w) / 2 = s.tb / 2) :
    s.dcsHold n = s.modSns n fun q => { q with hold := some (s.ax[n].setAt + s.placed n w, p, plus) } := by
  have hfind : s.ax[n].set.windows.find? (s.windowNow n) = some (some (w, p, plus)) := by
    rw [hset]
    refine List.find?_eq_some_iff_append.2 ⟨beq_iff_eq.2 hnow, pre, post, rfl, fun x hx => ?_⟩
    cases x with
    | none => rfl
    | some y => exact congrArg not (beq_eq_false_iff_ne.2 (hpre _ hx y rfl))
  unfold State.dcsHold
  have hdue : ¬ ((!s.running) = true ∨ s.ax[n].bridge ≠ .modulate ∨ s.sns.ax[n].hold.isSome = true) := by
    rw [hrun, hbridge, hidle]
    decide
  rw [if_neg hdue]
  show (match s.ax[n].set.windows.find? (s.windowNow n) with
    | some (some (t, p, plus)) => s.modSns n (fun q => { q with hold := some (s.ax[n].setAt + s.placed n t, p, plus) })
    | _ => s) = _
  rw [hfind]

theorem dcsDone_held {at' : Nat} {p : Fin 3} {plus : Bool} {code : BitVec 12} {volts : Rat} (hrun : s.running = true)
    (hheld : s.sns.ax[n].hold = some (at', p, plus)) :
    (code ≠ 0 → code ≠ 4095 → s.tb < at' + 1000 → s.dcsDone n code volts = s.modSns n fun q => { q with
      hold := none, rejects := 0, dcsConvFail := false
      dcsVal := s.regs.SNS_DCSn_SCALE n * (volts - s.regs.SNS_DCSn_OFFS n) - s.sns.ax[n].dcsZero
      samples := q.samples ++ [⟨p, plus, s.regs.SNS_DCSn_SCALE n * (volts - s.regs.SNS_DCSn_OFFS n) - s.sns.ax[n].dcsZero, at'⟩] }) ∧
    (code = 0 ∨ code = 4095 ∨ at' + 1000 ≤ s.tb → s.dcsDone n code volts = s.modSns n SnsAx.reject) := by
  unfold State.dcsDone
  simp only [hheld, hrun, Bool.not_true, Bool.false_eq_true, if_false]
  exact ⟨fun h0 h1 htime => if_neg (by rintro (h | h | h); exacts [h0 h, h1 h, absurd htime (not_lt.2 h)]), fun h => if_pos h⟩

theorem reject_held {at' : Nat} {p : Fin 3} {plus : Bool} (hheld : s.sns.ax[n].hold = some (at', p, plus)) :
    s.modSns n SnsAx.reject = s.modSns n fun q => { q with
      hold := none, rejects := q.rejects + 1, rejectAt := q.rejectAt ++ [at'], dcsConvFail := true } :=
  modSns_congr (by simp only [SnsAx.reject, hheld])

theorem dcsTimeout_late {at' : Nat} {p : Fin 3} {plus : Bool} (hrun : s.running = true) (hheld : s.sns.ax[n].hold = some (at', p, plus))
    (htime : at' + 1000 ≤ s.tb) : s.dcsTimeout n = s.modSns n SnsAx.reject := by
  unfold State.dcsTimeout
  simp only [hheld]
  exact if_pos ⟨hrun, htime⟩

/-! ## The declared fault of the return path -/

/-- The instant that the record of a declaration of cause `k` names. -/
def State.dcsFaultAt (s : State) (n : Fin 6) (k : Fin 4) : Nat :=
  if k = 3 then s.tb else if k = 2 then (match s.updNow n with | some u => u.sample | none => s.sns.ax[n].at') else s.sns.ax[n].at'

theorem dcsFault_declares {k : Fin 4} (hrun : s.running = true)
    (hcause : (k = 1 ∧ s.sns.ax[n].verdict = .dcs ∧ s.regs.SNS_AXn_XCHK_CFG_N n ≤ s.sns.ax[n].vcnt) ∨ (k = 2 ∧ 3 ≤ s.sns.ax[n].rejects) ∨
      (k = 3 ∧ s.sns.ax[n].dcsZeroFail = true)) : s.dcsFault n k = s.declareDcs n k.val (s.dcsFaultAt n k) := by
  unfold State.dcsFault
  rw [hrun]
  rcases hcause with ⟨rfl, hverdict, hcnt⟩ | ⟨rfl, hrejects⟩ | ⟨rfl, hfail⟩
  · exact if_pos (And.intro hverdict hcnt)
  · exact if_pos hrejects
  · exact if_pos hfail

/-- The declared return path, with its record. -/
theorem declareDcs_first {cause at' : Nat} (h : s.sns.ax[n].fDcs = false) : s.declareDcs n cause at' =
    (s.modSns n fun q => { q.faulted 1 s.tb with
      fDcs := true, fbDcs := true, sumCnt := 0, undo := (s.noteDecl n false).sns.ax[n].undo }).event at' (Unit.ax n) 0x0705 cause
        (milli s.sns.ax[n].maxDis) := by
  unfold State.declareDcs
  rw [if_neg (by rw [h]; decide)]
  dsimp only
  refine congrArg (fun u : State => u.event at' (Unit.ax n) 0x0705 cause (milli s.sns.ax[n].maxDis)) ?_
  conv_lhs => rw [noteDecl_eq, modSns_modSns]
  exact modSns_congr rfl

theorem exec_dcsFault {dt : Nat} {k : Fin 4} (hrun : s.running = true) (hfirst : s.sns.ax[n].fDcs = false)
    (hcause : (k = 1 ∧ s.sns.ax[n].verdict = .dcs ∧ s.regs.SNS_AXn_XCHK_CFG_N n ≤ s.sns.ax[n].vcnt) ∨ (k = 2 ∧ 3 ≤ s.sns.ax[n].rejects) ∨
      (k = 3 ∧ s.sns.ax[n].dcsZeroFail = true)) : ∃ t, exec (.dcsFault dt n k) s = .next t ∧
      t.but s = { s.advance dt with
        sns := { s.sns with ax := vset s.sns.ax n (fun q => { q.faulted 1 (s.tbAt dt) with
          fDcs := true, fbDcs := true, sumCnt := 0, undo := t.sns.ax[n].undo }) }
        recs := t.recs } ∧
      Wrote s t [evtOf ((s.advance dt).dcsFaultAt n k) (Unit.ax n) 0x0705 k (milli s.sns.ax[n].maxDis)] := by
  have hop := (dcsFault_declares (s := s.advance dt) hrun hcause).trans (declareDcs_first hfirst)
  refine ⟨_, exec_next_of rfl hop, ?_, (Wrote.event_one (run_phase hrun)).settle⟩
  have hsns := (Frame.event ((s.advance dt).modSns n fun q => { q.faulted 1 (s.advance dt).tb with
      fDcs := true, fbDcs := true, sumCnt := 0, undo := ((s.advance dt).noteDecl n false).sns.ax[n].undo }) ((s.advance dt).dcsFaultAt n k) (Unit.ax n)
      0x0705 k (milli (s.advance dt).sns.ax[n].maxDis) 0).keep .sns (by decide)
  have F := Frame.event ((s.advance dt).modSns n fun q => { q.faulted 1 (s.advance dt).tb with
      fDcs := true, fbDcs := true, sumCnt := 0, undo := ((s.advance dt).noteDecl n false).sns.ax[n].undo }) ((s.advance dt).dcsFaultAt n k) (Unit.ax n)
      0x0705 k (milli (s.advance dt).sns.ax[n].maxDis) 0
  rw [State.settle_sns, but_recs_sns (Frame.next F (by decide) (Frame.next (Frame.modSns ..) (by decide) (Frame.refl ..))), hsns, State.modSns_self]
  rfl

/-! ## Lost sensing -/

theorem senseLost_due {k : Nat} (hrun : s.running = true) (hcase : s.senseCase n k = true) (hnew : s.sns.ax[n].lostAt ≠ some s.sns.ax[n].at')
    (hstate : (s.ax[n].state.watched || (s.ax[n].state == .halt && s.ax[n].haltReason == 0x0703) || (k == 4 && s.sns.ax[n].fSdi != 0)) = true) :
    s.senseLost n k =
      let u := (s.modSns n (fun q => { q with lostAt := some q.at' })).event (if k = 4 ∧ s.sns.ax[n].fSdi ≠ 0 then s.sns.ax[n].sdiAt else s.sns.ax[n].at')
        (Unit.ax n) 0x0706 k (milli s.sns.ax[n].maxDis)
      if s.ax[n].state == .halt && s.ax[n].haltReason == 0x0703 then u else u.axFault n 0x0706 .sensor := by
  unfold State.senseLost
  dsimp only
  rw [if_pos (by rw [hrun, hcase, hstate]; simpa using hnew)]

theorem exec_senseLost {dt : Nat} {k : Fin 5} (hrun : s.running = true) (hcase : s.senseCase n k = true)
    (hnew : s.sns.ax[n].lostAt ≠ some s.sns.ax[n].at') :
    (s.ax[n].state.watched = true ∨ (k.val = 4 ∧ s.sns.ax[n].fSdi ≠ 0 ∧ s.ax[n].state ≠ .halt) → ∃ t, exec (.senseLost dt n k) s = .next t ∧
      Faulted s t n 0x0706 .sensor) ∧
    (s.ax[n].state = .halt → s.ax[n].haltReason = 0x0703 → ∃ t, exec (.senseLost dt n k) s = .next t ∧
      t.but s = { s.advance dt with
        sns := { s.sns with ax := vset s.sns.ax n (fun q => { q with lostAt := some q.at' }) }, recs := t.recs } ∧
      Wrote s t [evtOf (if k.val = 4 ∧ s.sns.ax[n].fSdi ≠ 0 then s.sns.ax[n].sdiAt else s.sns.ax[n].at') (Unit.ax n) 0x0706 k
        (milli s.sns.ax[n].maxDis)]) := by
  constructor
  · intro hmoves
    have hstate : s.ax[n].state ≠ .halt := by
      rcases hmoves with h | ⟨-, -, h⟩
      · intro hhalt
        rw [hhalt] at h
        cases h
      · exact h
    have hop := senseLost_due (s := s.advance dt) (k := k.val) hrun hcase hnew (by
      rcases hmoves with h | ⟨h4, hsdi, -⟩
      · rw [show (s.advance dt).ax[n].state.watched = true from h]
        rfl
      · have hsdi' : ((s.advance dt).sns.ax[n].fSdi != 0) = true := by simpa using hsdi
        rw [hsdi', h4]
        simp)
    refine ⟨_, exec_next_of rfl (hop.trans (if_neg ?_)), ?_⟩
    · simpa using fun h => absurd h hstate
    · refine (faulted_of_ain (K := [.recs, .sns]) (Frame.next (Frame.event ..) (by decide) (Frame.next (Frame.modSns ..) (by decide) (Frame.refl ..)))
        hstate ?_).of_ax rfl
      rw [(Frame.event ..).keep .sns (by decide)]
      rfl
  · intro hhalt hreason
    have hoc : ((s.advance dt).ax[n].state == .halt && (s.advance dt).ax[n].haltReason == 0x0703) = true := by
      rw [show (s.advance dt).ax[n].state = .halt from hhalt, show (s.advance dt).ax[n].haltReason = 0x0703 from hreason]
      decide
    have hop := senseLost_due (s := s.advance dt) (k := k.val) hrun hcase hnew (by rw [hoc]; simp)
    exact ⟨_, exec_next_of rfl (hop.trans (if_pos hoc)), (but_event ..).trans rfl, (Wrote.event_one (run_phase hrun)).settle⟩

theorem predLimit_due (hrun : s.running = true) (hover : s.regs.SNS_AXn_PRED_MAX n < s.sns.ax[n].predRun) (hnew : s.sns.ax[n].predNoted = false) :
    s.predLimit n = (s.modSns n (fun q => { q with predNoted := true })).event s.sns.ax[n].at' (Unit.ax n) 0x0707 (s.regs.SNS_AXn_PRED_MAX n) 0 :=
  if_pos ⟨hrun, hover, by rw [hnew]; rfl⟩

/-! ## The return of a sensor -/

theorem agreed_of {q : SnsAx} {k : Fin 3} {t : Nat} (hagree : 1000 ≤ q.agree[k]) (hclean : q.clean[k] + 1000000000 ≤ t) : q.agreed k t = true := by
  rw [SnsAx.agreed, decide_eq_true hagree, decide_eq_true hclean]
  rfl

theorem sensorBack_dcs (hrun : s.running = true) (hfault : s.sns.ax[n].fDcs = true) (hzero : s.sns.ax[n].dcsZeroFail = false)
    (hagree : 1000 ≤ s.sns.ax[n].agree[1]) (hclean : s.sns.ax[n].clean[1] + 1000000000 ≤ s.tb) :
    s.sensorBack n .dcs = (s.modSns n (fun q => { q with fDcs := false, rejects := 0 })).event s.tb (Unit.ax n) 0x0709 2 0 := by
  unfold State.sensorBack
  simp only [hrun, Bool.not_true, Bool.false_eq_true, if_false]
  refine if_pos ?_
  rw [hfault, hzero, agreed_of hagree hclean]
  rfl

/-- The interface of a sensor that is back: no fault of it stands, and its counts begin anew. -/
def EncSt.cleared (e : EncSt) : EncSt :=
  { e with illegal := false, index := false, serial := false, observer := false, fault := false, illAt := [], zBad := 0, discRow := 0 }

theorem sensorBack_enc (hrun : s.running = true) (hfault : s.sns.ax[n].fEnc = true)
    (hagree : 1000 ≤ s.sns.ax[n].agree[2]) (hclean : s.sns.ax[n].clean[2] + 1000000000 ≤ s.tb) :
    s.sensorBack n .enc = ((s.modSns n (fun q => { q with fEnc := false, encDiff := none })).modEnc (s.encOf n) EncSt.cleared).event s.tb (Unit.ax n)
      0x0709 3 0 := by
  unfold State.sensorBack
  simp only [hrun, Bool.not_true, Bool.false_eq_true, if_false]
  refine if_pos ?_
  rw [hfault, agreed_of hagree hclean]
  rfl

/-- Settles O22: each command by what its operation leaves. -/
theorem dcLinkReturnAndItsFaults : Obligations.DcLinkReturnAndItsFaults := by
  unfold Obligations.DcLinkReturnAndItsFaults
  intro s dt n
  refine ⟨fun w p plus pre post hrun hbridge hidle hset hpre hnow =>
      ⟨_, exec_next_of rfl (dcsHold_window (s := s.advance dt) hrun hbridge hidle hset hpre hnow), rfl⟩,
    fun at' p plus code volts hrun hheld => ?_, fun k hrun hfirst hcause => exec_dcsFault hrun hfirst hcause,
    fun k hrun hcase hnew => exec_senseLost hrun hcase hnew,
    fun hrun hover hnew => ⟨_, exec_next_of rfl (predLimit_due (s := s.advance dt) hrun hover hnew), (but_event ..).trans rfl,
      (Wrote.event_one (run_phase hrun)).settle⟩,
    fun hrun hfault hzero hagree hclean => ⟨_, exec_next_of rfl (sensorBack_dcs (s := s.advance dt) hrun hfault hzero hagree hclean),
      (but_event ..).trans rfl, (Wrote.event_one (run_phase hrun)).settle⟩,
    fun hrun hfault hagree hclean => ?_⟩
  · obtain ⟨hgood, hbad⟩ := dcsDone_held (s := s.advance dt) (code := code) (volts := volts) hrun hheld
    exact ⟨fun h0 h1 htime => ⟨_, exec_next_of rfl (hgood h0 h1 htime), rfl⟩,
      fun h => ⟨_, exec_next_of rfl ((hbad h).trans (reject_held hheld)), rfl⟩,
      fun htime => ⟨_, exec_next_of rfl ((dcsTimeout_late (s := s.advance dt) hrun hheld htime).trans (reject_held hheld)), rfl⟩⟩
  · refine ⟨_, exec_next_of rfl (sensorBack_enc (s := s.advance dt) hrun hfault hagree hclean), ?_⟩
    have hsns := (Frame.event (((s.advance dt).modSns n (fun q => { q with fEnc := false, encDiff := none })).modEnc ((s.advance dt).encOf n) EncSt.cleared)
      (s.advance dt).tb (Unit.ax n) 0x0709 3 0 0).keep .sns (by decide)
    rw [State.settle_sns, hsns]
    have hself (u : State) (m : Fin 6) : (u.modEnc m EncSt.cleared).sns.enc[m] = u.sns.enc[m].cleared := State.modEnc_self ..
    have hax (u : State) (m : Fin 6) : (u.modEnc m EncSt.cleared).sns.ax = u.sns.ax := rfl
    rw [hax, State.modSns_self]
    refine ⟨rfl, rfl, ?_, (Wrote.event_one (run_phase hrun)).settle⟩
    exact congrArg EncSt.fault (hself _ _)

end

end Sys2Proof.Machine
end

section
/-! PROOF. General analog inputs (R191 to R194, R267, R269): holds, conversions and the range check. -/
set_option Elab.async false

namespace Sys2Proof.Machine

namespace InputsKept

variable {s t : State}

theorem coastAsc (h : InputsKept s t) (n : Fin 6) (v : Rat) : InputsKept s (t.coastAsc n v) := by
  unfold State.coastAsc
  exact (h.ascEnter ..).ite h

theorem encCoast (h : InputsKept s t) (n : Fin 6) : InputsKept s (t.encCoast n) := by
  unfold State.encCoast
  exact (h.coastAsc ..).ite h

theorem dcOver (h : InputsKept s t) (n : Fin 6) (v : Rat) (at' : Nat) (first : Bool) : InputsKept s (t.dcOver n v at' first) := by
  have hshort {u : State} (hu : InputsKept s u) : InputsKept s (if u.ax[n].state = .halt then u.coastAsc n u.ax[n].eng.speed else u) :=
    (hu.coastAsc ..).ite hu
  unfold State.dcOver
  extract_lets short
  split
  · exact h
  · exact h
  · exact h
  · exact hshort h
  · exact hshort ((h.frame (Frame.event ..)).axFault ..)

theorem dcConv (h : InputsKept s t) (n : Fin 6) (v : Rat) (at' : Nat) : InputsKept s (t.dcConv n v at') := by
  unfold State.dcConv
  extract_lets r c u1 b clrHi clrLo ov u2 u3 u4 u5 u6 u7
  have h2 : InputsKept s u2 := (h.frame (Frame.dcFactors ..)).frame (Frame.modCmd ..)
  have h3 : InputsKept s u3 := (h2.frame (Frame.event ..)).ite h2
  have h4 : InputsKept s u4 := (h3.frame (Frame.event ..)).ite h3
  have h5 : InputsKept s u5 := (h4.frame (Frame.event ..)).ite h4
  have h6 : InputsKept s u6 := h5.frame (Frame.dcStop ..)
  have h7 : InputsKept s u7 := (h6.dcOver ..).ite h6
  exact h7.encCoast n

theorem vtConv (h : InputsKept s t) (n : Fin 6) (at' : Nat) : InputsKept s (t.vtConv n at') := by
  unfold State.vtConv
  extract_lets v quiet ab all u
  have hu : InputsKept s u := h.frame (Frame.modAx ..)
  split
  · exact (hu.coastAsc ..).ite hu
  · exact hu

end InputsKept

section
variable {s : State} {c : Fin 32}

/-! ## Holds -/

theorem ainHold_scan (hrun : s.running = true) (hidle : s.sns.ain[c].hold = none) (hclass : s.regs.SNS_AINc_CFG_CLASS c = 1)
    (hslot : s.ainHeld (ainConv c) = []) (hnext : s.ainNext (ainConv c) = some c) :
    s.ainHold c = (s.modAin c (fun a => { a with hold := some s.tb })).onSns fun x => { x with scanLast := x.scanLast.set (ainConv c) c.val } := by
  unfold State.ainHold
  simp only [hclass, hslot, hnext, hidle, hrun, beq_self_eq_true]
  rfl

theorem ainHold_timed (hrun : s.running = true) (hidle : s.sns.ain[c].hold = none) (hclass : s.regs.SNS_AINc_CFG_CLASS c = 2)
    (hper : 0 < nsOf (s.regs.SNS_AXn_VT_PER (s.regs.SNS_AINc_CFG_AXIS c)))
    (hnow : s.tb % nsOf (s.regs.SNS_AXn_VT_PER (s.regs.SNS_AINc_CFG_AXIS c)) = 0) :
    s.ainHold c = s.modAin c fun a => { a with hold := some s.tb } := by
  unfold State.ainHold
  simp only [hclass, hidle, hrun, decide_eq_true hper, decide_eq_true hnow]
  rfl

/-! ## Conversions -/

/-- What the conversion of input `c` begins for axis `n`. -/
def State.ainFor (s : State) (c : Fin 32) (v : Rat) (valid : Bool) (t : Nat) (n : Fin 6) : State :=
  if !s.axAlloc n then s
  else
    let s := if s.vdcAin n = c ∧ valid then s.dcConv n v t else s
    let s := if s.regs.SNS_AXn_VIN_VT_EN n && (s.vtIn n).any (fun i => i == c) then s.vtConv n t else s
    if s.regs.AXn_TH_CFG_TW_EN n && s.regs.AXn_TH_CFG_TW_AIN n == c.val then s.twConv n v valid t else s

theorem ainFor_inputs {t : State} (h : InputsKept s t) (v : Rat) (valid : Bool) (at' : Nat) (n : Fin 6) : InputsKept s (t.ainFor c v valid at' n) := by
  unfold State.ainFor
  extract_lets u w
  have hu : InputsKept s u := (h.dcConv ..).ite h
  have hw : InputsKept s w := (hu.vtConv ..).ite hu
  exact h.ite ((hw.frame (Frame.twConv ..)).ite hw)

theorem foldl_ainFor_inputs {t : State} (h : InputsKept s t) (v : Rat) (valid : Bool) (at' : Nat) (l : List (Fin 6)) :
    InputsKept s (l.foldl (fun s n => s.ainFor c v valid at' n) t) := by
  induction l generalizing t with
  | nil => exact h
  | cons n l ih => exact ih (ainFor_inputs h ..)

theorem foldl_ainFor_none (h : ∀ n : Fin 6, s.axAlloc n = false) (v : Rat) (valid : Bool) (at' : Nat) (l : List (Fin 6)) :
    l.foldl (fun s n => s.ainFor c v valid at' n) s = s := by
  induction l with
  | nil => rfl
  | cons n l ih =>
    rw [List.foldl_cons, show s.ainFor c v valid at' n = s from if_pos (by rw [h n]; rfl)]
    exact ih

theorem chopWatch_none (h : ∀ k : Fin 4, s.chopMay k = false) (v : Rat) (at' : Nat) : s.chopWatch c v at' = s := by
  unfold State.chopWatch
  generalize List.finRange 4 = l
  induction l with
  | nil => rfl
  | cons k l ih =>
    rw [List.foldl_cons]
    simp only [h k, Bool.false_and, Bool.false_eq_true, if_false]
    exact ih

theorem ainDone_eq {volts : Rat} {at' : Nat} (hrun : s.running = true) (hheld : s.sns.ain[c].hold = some at') (hturn : s.ainTurn c = true) :
    ∃ v valid, s.ainDone c volts =
      (List.finRange 6).foldl (fun s n => s.ainFor c v valid at' n) ((s.ainValue c volts at').chopWatch c v at') := by
  unfold State.ainDone
  simp only [hheld, hrun, hturn, Bool.and_self, Bool.not_true, Bool.false_eq_true, if_false]
  exact ⟨_, _, rfl⟩

theorem ainDone_inputs {volts : Rat} {at' : Nat} (hrun : s.running = true) (hheld : s.sns.ain[c].hold = some at') (hturn : s.ainTurn c = true) :
    (s.ainDone c volts).sns.ain = (s.ainValue c volts at').sns.ain ∧
    ((∀ n : Fin 6, s.axAlloc n = false) → (∀ k : Fin 4, s.chopMay k = false) → s.ainDone c volts = s.ainValue c volts at') := by
  obtain ⟨v, valid, hop⟩ := ainDone_eq (volts := volts) hrun hheld hturn
  rw [hop]
  refine ⟨(foldl_ainFor_inputs ((InputsKept.refl _).frame (Frame.chopWatch ..)) v valid at' (List.finRange 6)).ain, fun halloc hchop => ?_⟩
  rw [chopWatch_none (by exact hchop), foldl_ainFor_none (by exact halloc)]

/-- The scaled value of a conversion. -/
def State.ainScaled (s : State) (c : Fin 32) (volts : Rat) : Rat := s.regs.SNS_AINc_SCALE c * volts + s.regs.SNS_AINc_OFFS c

theorem ainValue_self (volts : Rat) (at' : Nat) : (s.ainValue c volts at').sns.ain[c].val = s.ainScaled c volts ∧
    (s.ainValue c volts at').sns.ain[c].volts = volts ∧ (s.ainValue c volts at').sns.ain[c].hold = none ∧
    (s.ainValue c volts at').sns.ain[c].heldAt = at' := by
  unfold State.ainValue
  rw [State.modAin_self]
  exact ⟨rfl, rfl, rfl, rfl⟩

theorem ainValue_other (volts : Rat) (at' : Nat) {d : Fin 32} (h : d ≠ c) : (s.ainValue c volts at').sns.ain[d] = s.sns.ain[d] :=
  State.modAin_other _ _ _ _ h

theorem ainValue_outside {volts : Rat} {at' : Nat} (hchk : s.regs.SNS_AINc_CFG_RCHK c = true)
    (h : s.regs.SNS_AINc_MAX c < s.ainScaled c volts ∨ s.ainScaled c volts < s.regs.SNS_AINc_MIN c) :
    (s.ainValue c volts at').sns.ain[c].outCnt = s.sns.ain[c].outCnt + 1 ∧ (s.ainValue c volts at').sns.ain[c].inCnt = 0 ∧
    (s.ainValue c volts at').sns.ain[c].range = s.sns.ain[c].range := by
  unfold State.ainScaled at h
  unfold State.ainValue
  rw [State.modAin_self]
  dsimp only
  rw [hchk]
  rcases h with h | h <;> rw [decide_eq_true h] <;> simp

theorem ainValue_inside {volts : Rat} {at' : Nat} (h : s.regs.SNS_AINc_CFG_RCHK c = false ∨
      (s.ainScaled c volts ≤ s.regs.SNS_AINc_MAX c ∧ s.regs.SNS_AINc_MIN c ≤ s.ainScaled c volts)) :
    (s.ainValue c volts at').sns.ain[c].outCnt = 0 ∧ (s.ainValue c volts at').sns.ain[c].inCnt = s.sns.ain[c].inCnt + 1 ∧
    ((s.ainValue c volts at').sns.ain[c].range = true ↔ s.sns.ain[c].range = true ∧ s.sns.ain[c].inCnt + 1 < 4) ∧
    (s.sns.ain[c].range = false → (s.ainValue c volts at').sns.ain[c].valid = true ∧
      (s.ainValue c volts at').sns.ain[c].lastValid = (s.ainValue c volts at').sns.ain[c].val) := by
  have hlo : (s.regs.SNS_AINc_CFG_RCHK c && decide (s.ainScaled c volts < s.regs.SNS_AINc_MIN c)) = false := by
    rcases h with h | ⟨-, h⟩
    · rw [h]
      rfl
    · rw [decide_eq_false (not_lt.2 h), Bool.and_false]
  have hhi : (s.regs.SNS_AINc_CFG_RCHK c && decide (s.regs.SNS_AINc_MAX c < s.ainScaled c volts)) = false := by
    rcases h with h | ⟨h, -⟩
    · rw [h]
      rfl
    · rw [decide_eq_false (not_lt.2 h), Bool.and_false]
  unfold State.ainScaled at hlo hhi
  unfold State.ainValue
  rw [State.modAin_self]
  dsimp only
  rw [hlo, hhi]
  refine ⟨rfl, rfl, ?_, fun hrange => ?_⟩
  · simp
  · rw [hrange]
    exact ⟨Bool.or_true _, rfl⟩

/-! ## The range check -/

/-- RANGE of an input with its record. -/
def State.rangeMarked (s : State) (c : Fin 32) : State :=
  (s.modAin c (fun a => { a with range := true, rangeAt := a.heldAt, rangeVolts := a.volts })).event s.sns.ain[c].heldAt Unit.sns 0x070A
    (c.val + 256 * b2n s.sns.ain[c].above) (milli s.sns.ain[c].volts)

/-- What RANGE of input `c` means for axis `n`. -/
def State.rangeFor (s : State) (c : Fin 32) (n : Fin 6) : State := if s.axAlloc n ∧ s.vdcAin n = c then s.vdcInvalid n c else s

theorem ainRange_due (hrun : s.running = true) (hout : 4 ≤ s.sns.ain[c].outCnt) (hnew : s.sns.ain[c].range = false) :
    s.ainRange c = ((List.finRange 6).foldl (fun s n => s.rangeFor c n) (s.rangeMarked c)).dcStop := by
  unfold State.ainRange
  dsimp only
  rw [if_neg (by rw [hrun, decide_eq_true hout, hnew]; decide)]
  rfl

theorem rangeMarked_sns (s : State) (c : Fin 32) : (s.rangeMarked c).sns = { s.sns with
    ain := vset s.sns.ain c (fun a => { a with range := true, rangeAt := a.heldAt, rangeVolts := a.volts }) } :=
  (Frame.event ..).keep .sns (by decide)

theorem Frame.rangeMarked (s : State) (c : Fin 32) : Frame [.recs, .sns] s (s.rangeMarked c) :=
  Frame.next (Frame.event ..) (by decide) (Frame.next (Frame.modAin ..) (by decide) (Frame.refl ..))

theorem foldl_rangeFor_none (l : List (Fin 6)) (h : ∀ n ∈ l, s.axAlloc n = true → s.vdcAin n ≠ c) : l.foldl (fun s n => s.rangeFor c n) s = s := by
  induction l with
  | nil => rfl
  | cons n l ih =>
    rw [List.foldl_cons, show s.rangeFor c n = s from if_neg fun hn => h n (List.mem_cons_self ..) hn.1 hn.2]
    exact ih fun m hm => h m (List.mem_cons_of_mem _ hm)

/-- The DC-link input of an axis is told by a register that no fault changes. -/
theorem AxisKept.vdcAin {s t : State} {n : Fin 6} (h : AxisKept n s t) : t.vdcAin n = s.vdcAin n := by
  have hvin : ∀ n m : Fin 6, Reg.AXn_CMD m ≠ Reg.SNS_AXn_VIN n := by decide
  unfold State.vdcAin Regs.SNS_AXn_VIN_VDC
  rw [h.regs _ (hvin n)]

/-- A DC-link input that is not to be trusted, with its record where it is the first. -/
def State.vdcDoubted (s : State) (n : Fin 6) (c : Fin 32) : State :=
  ((if s.cmd.ax[n].vdcBad then s else s.event s.sns.ain[c].rangeAt (Unit.ax n) 0x0A07 2 (milli (s.vdc n))).modCmd n
    (fun c => { c with vdcBad := true, ovCnt := 0, hiSince := none, loSince := none })).event s.sns.ain[c].rangeAt (Unit.ax n) 0x0A0C c.val
    (milli s.sns.ain[c].rangeVolts)

theorem Frame.vdcDoubted (s : State) (n : Fin 6) (c : Fin 32) : Frame [.recs, .cmd] s (s.vdcDoubted n c) :=
  Frame.next (Frame.event ..) (by decide) (Frame.next (Frame.modCmd ..) (by decide)
    (Frame.ite (Frame.refl ..) (Frame.next (Frame.event ..) (by decide) (Frame.refl ..))))

theorem vdcInvalid_eq {n : Fin 6} (hoff : s.ax[n].state ≠ .off) (hhalt : s.ax[n].state ≠ .halt) :
    s.vdcInvalid n c = (s.vdcDoubted n c).axFault n 0x0A0C .sensor := by
  have hax (u : State) (f) : (u.modCmd n f).ax = u.ax := rfl
  have hif : (if s.cmd.ax[n].vdcBad then s else s.event s.sns.ain[c].rangeAt (Unit.ax n) 0x0A07 2 (milli (s.vdc n))).ax = s.ax := by
    split
    · rfl
    · exact (Frame.event ..).keep .ax (by decide)
  unfold State.vdcInvalid
  dsimp only
  split
  · next h => exact absurd ((congrArg (fun v : Vector AxSt 6 => v[n].state) ((hax _ _).trans hif)).symm.trans h) hoff
  · next h => exact absurd ((congrArg (fun v : Vector AxSt 6 => v[n].state) ((hax _ _).trans hif)).symm.trans h) hhalt
  · rfl

theorem AxisKept.vdcInvalid {s t : State} {n m : Fin 6} {c : Fin 32} (h : AxisKept n s t) (hm : n ≠ m) (hoff : t.ax[m].state ≠ .off)
    (hhalt : t.ax[m].state ≠ .halt) : AxisKept n s (t.vdcInvalid m c) := by
  rw [vdcInvalid_eq hoff hhalt]
  exact (h.frame (Frame.vdcDoubted ..)).axFault hm _ _

/-- Where the input is the DC-link input of one axis alone, RANGE concerns that axis alone. -/
theorem foldl_rangeFor_one {n : Fin 6} (halloc : s.axAlloc n = true) (hvdc : s.vdcAin n = c)
    (hothers : ∀ m : Fin 6, m ≠ n → s.axAlloc m = true → s.vdcAin m ≠ c) (hoff : s.ax[n].state ≠ .off) (hhalt : s.ax[n].state ≠ .halt) :
    (List.finRange 6).foldl (fun s n => s.rangeFor c n) s = s.vdcInvalid n c := by
  obtain ⟨l₁, l₂, hl⟩ := List.append_of_mem (List.mem_finRange n)
  have hnodup : (l₁ ++ n :: l₂).Nodup := hl ▸ List.nodup_finRange 6
  rw [List.nodup_middle, List.nodup_cons, List.mem_append, not_or] at hnodup
  obtain ⟨⟨h₁, h₂⟩, -⟩ := hnodup
  rw [hl, List.foldl_append, foldl_rangeFor_none l₁ fun m hm => hothers m fun h => h₁ (h ▸ hm), List.foldl_cons,
    show s.rangeFor c n = s.vdcInvalid n c from if_pos ⟨halloc, hvdc⟩]
  refine foldl_rangeFor_none l₂ fun m hm => ?_
  have hne : m ≠ n := fun h => h₂ (h ▸ hm)
  have hkept := (AxisKept.refl (n := m) s).vdcInvalid (c := c) hne hoff hhalt
  rw [hkept.axAlloc, hkept.vdcAin]
  exact hothers m hne

theorem nAsc_rangeMarked (n : Fin 6) : (s.rangeMarked c).nAsc n = s.nAsc n := by
  have hregs : (s.rangeMarked c).regs = s.regs := (Frame.rangeMarked ..).keep .regs (by decide)
  have hain (i : Fin 32) : (s.rangeMarked c).sns.ain[i].valid = s.sns.ain[i].valid ∧ (s.rangeMarked c).sns.ain[i].lastValid = s.sns.ain[i].lastValid := by
    rw [rangeMarked_sns]
    by_cases h : i = c
    · subst h
      simp
    · have hne := vset_ne s.sns.ain c i (fun a => { a with range := true, rangeAt := a.heldAt, rangeVolts := a.volts }) (Ne.symm h)
      exact ⟨congrArg AinSt.valid hne, congrArg AinSt.lastValid hne⟩
  unfold State.nAsc State.vdcAin
  simp only [hregs, hain]
  rfl

end

section
variable {s : State} {dt : Nat} {c : Fin 32}

theorem exec_ainConversionDone {volts : Rat} {at' : Nat} (hrun : s.running = true) (hheld : s.sns.ain[c].hold = some at') (hturn : s.ainTurn c = true) :
    ∃ t, exec (.ainConversionDone dt c volts) s = .next t ∧
      ((∀ n : Fin 6, s.axAlloc n = false) → (∀ k : Fin 4, s.chopMay k = false) → t.but s = { s.advance dt with sns := t.sns }) ∧
      t.sns.ain[c].val = s.ainScaled c volts ∧ t.sns.ain[c].volts = volts ∧
      t.sns.ain[c].hold = none ∧ t.sns.ain[c].heldAt = at' ∧ (∀ d : Fin 32, d ≠ c → t.sns.ain[d] = s.sns.ain[d]) ∧
      (s.regs.SNS_AINc_CFG_RCHK c = true → s.regs.SNS_AINc_MAX c < s.ainScaled c volts ∨ s.ainScaled c volts < s.regs.SNS_AINc_MIN c →
        t.sns.ain[c].outCnt = s.sns.ain[c].outCnt + 1 ∧ t.sns.ain[c].inCnt = 0 ∧ t.sns.ain[c].range = s.sns.ain[c].range) ∧
      (s.regs.SNS_AINc_CFG_RCHK c = false ∨ (s.ainScaled c volts ≤ s.regs.SNS_AINc_MAX c ∧ s.regs.SNS_AINc_MIN c ≤ s.ainScaled c volts) →
        t.sns.ain[c].outCnt = 0 ∧ t.sns.ain[c].inCnt = s.sns.ain[c].inCnt + 1 ∧
        (t.sns.ain[c].range = true ↔ s.sns.ain[c].range = true ∧ s.sns.ain[c].inCnt + 1 < 4) ∧
        (s.sns.ain[c].range = false → t.sns.ain[c].valid = true ∧ t.sns.ain[c].lastValid = t.sns.ain[c].val)) := by
  obtain ⟨hain, halone⟩ := ainDone_inputs (s := s.advance dt) (volts := volts) hrun hheld hturn
  have hself := ainValue_self (s := s.advance dt) (c := c) volts at'
  have hother (d : Fin 32) (hd : d ≠ c) := ainValue_other (s := s.advance dt) (c := c) volts at' hd
  have hout := ainValue_outside (s := s.advance dt) (c := c) (volts := volts) (at' := at')
  have hin := ainValue_inside (s := s.advance dt) (c := c) (volts := volts) (at' := at')
  have hbut : ((s.advance dt).ainValue c volts at').settle.but s = { s.advance dt with sns := ((s.advance dt).ainValue c volts at').sns } := rfl
  refine ⟨((s.advance dt).ainDone c volts).settle, exec_next_of rfl rfl, fun halloc hchop => ?_, ?_⟩
  · rw [halone halloc hchop]
    exact hbut
  · rw [State.settle_sns, hain]
    obtain ⟨hval, hvolts, hhold, hat⟩ := hself
    exact ⟨hval, hvolts, hhold, hat, hother, hout, hin⟩

theorem exec_ainRange_alone (hrun : s.running = true) (hout : 4 ≤ s.sns.ain[c].outCnt) (hnew : s.sns.ain[c].range = false)
    (hnone : ∀ n : Fin 6, s.axAlloc n = true → s.vdcAin n ≠ c) : ∃ t, exec (.ainRange dt c) s = .next t ∧
      t.sns = { s.sns with ain := vset s.sns.ain c (fun a => { a with range := true, rangeAt := a.heldAt, rangeVolts := a.volts }) } ∧
      t.ax = s.ax ∧
      Wrote s t [evtOf s.sns.ain[c].heldAt Unit.sns 0x070A (c.val + 256 * b2n s.sns.ain[c].above) (milli s.sns.ain[c].volts)] := by
  have F := Frame.rangeMarked (s.advance dt) c
  have hregs : ((s.advance dt).rangeMarked c).regs = s.regs := F.keep .regs (by decide)
  have hmapped (n : Fin 6) : ((s.advance dt).rangeMarked c).axAlloc n = s.axAlloc n ∧ ((s.advance dt).rangeMarked c).vdcAin n = s.vdcAin n := by
    simp only [State.axAlloc, State.vdcAin, hregs, and_self]
  have hop : (s.advance dt).ainRange c = ((s.advance dt).rangeMarked c).dcStop := by
    rw [ainRange_due (s := s.advance dt) hrun hout hnew, foldl_rangeFor_none _ fun n _ => by
      rw [(hmapped n).1, (hmapped n).2]
      exact hnone n]
  refine ⟨_, exec_next_of rfl hop, rangeMarked_sns (s.advance dt) c, F.keep .ax (by decide), ?_⟩
  exact ((Wrote.event_one (run_phase hrun)).next (Frame.dcStop _) (by decide)).settle

theorem exec_ainRange_axis {n : Fin 6} (hrun : s.running = true) (hout : 4 ≤ s.sns.ain[c].outCnt) (hnew : s.sns.ain[c].range = false)
    (halloc : s.axAlloc n = true) (hvdc : s.vdcAin n = c) (hothers : ∀ m : Fin 6, m ≠ n → s.axAlloc m = true → s.vdcAin m ≠ c)
    (hoff : s.ax[n].state ≠ .off) (hhalt : s.ax[n].state ≠ .halt) :
    ∃ t, exec (.ainRange dt c) s = .next t ∧ t.sns.ain[c].range = true ∧ Faulted s t n 0x0A0C .sensor := by
  have F := Frame.rangeMarked (s.advance dt) c
  have hregs : ((s.advance dt).rangeMarked c).regs = s.regs := F.keep .regs (by decide)
  have hax : ((s.advance dt).rangeMarked c).ax = s.ax := F.keep .ax (by decide)
  have hnasc : ((s.advance dt).rangeMarked c).nAsc n = s.nAsc n := nAsc_rangeMarked n
  have hgd : ((s.advance dt).rangeMarked c).gd = s.gd := F.keep .gd (by decide)
  have hmode : ((s.advance dt).rangeMarked c).mode = s.mode := F.keep .mode (by decide)
  have hrange : ((s.advance dt).rangeMarked c).sns.ain[c].range = true := by
    rw [rangeMarked_sns]
    simp
  have hop := ainRange_due (s := s.advance dt) hrun hout hnew
  generalize (s.advance dt).rangeMarked c = u at *
  have hmapped (n : Fin 6) : u.axAlloc n = s.axAlloc n ∧ u.vdcAin n = s.vdcAin n := by
    simp only [State.axAlloc, State.vdcAin, hregs, and_self]
  have hoff' : u.ax[n].state ≠ .off := by rwa [hax]
  have hhalt' : u.ax[n].state ≠ .halt := by rwa [hax]
  have hfold := foldl_rangeFor_one (s := u) (n := n) (c := c) (by rw [(hmapped n).1, halloc]) (by rw [(hmapped n).2, hvdc])
    (fun m hm => by
      rw [(hmapped m).1, (hmapped m).2]
      exact hothers m hm) hoff' hhalt'
  rw [hfold, vdcInvalid_eq hoff' hhalt'] at hop
  have G := Frame.vdcDoubted u n c
  have hkept : InputsKept u ((u.vdcDoubted n c).axFault n 0x0A0C .sensor) := ((InputsKept.refl u).frame G).axFault ..
  refine ⟨_, exec_next_of rfl hop, ?_, ?_⟩
  · rw [State.settle_sns, (Frame.dcStop _).keep .sns (by decide), hkept.ain]
    exact hrange
  · refine Faulted.of_ax (State.axFault_faulted s (u.vdcDoubted n c) n 0x0A0C .sensor ((G.keep .ax (by decide)).trans hax)
      ((G.keep .regs (by decide)).trans hregs) ?_ ((G.keep .gd (by decide)).trans hgd) ((G.keep .mode (by decide)).trans hmode) hhalt) rfl
    exact (State.nAsc_congr (G.keep .regs (by decide)) (G.keep .sns (by decide)) n).trans hnasc

/-- Settles O23: each command by what its operation leaves of the input. -/
theorem analogInputs : Obligations.AnalogInputs := by
  unfold Obligations.AnalogInputs
  intro s dt c
  refine ⟨fun hrun hidle => ⟨fun hclass hslot hnext => ⟨_, exec_next_of rfl (ainHold_scan (s := s.advance dt) hrun hidle hclass hslot hnext), rfl⟩,
      fun hclass hper hnow => ⟨_, exec_next_of rfl (ainHold_timed (s := s.advance dt) hrun hidle hclass hper hnow), rfl⟩⟩,
    fun volts at' hrun hheld hturn => exec_ainConversionDone hrun hheld hturn,
    fun hrun hout hnew hnone => exec_ainRange_alone hrun hout hnew hnone,
    fun n hrun hout hnew halloc hvdc hothers hoff hhalt _ => exec_ainRange_axis hrun hout hnew halloc hvdc hothers hoff hhalt,
    fun y level e hrun hen hedge => ?_,
    fun hrun htime => ⟨_, exec_next_of rfl (if_pos (And.intro hrun htime)), ?_⟩, fun n p hphase hrun => ?_⟩
  · obtain ⟨⟨t, ht, hstuck, -⟩, -⟩ := exec_sdiStuck (dt := dt) (level := level) hrun hen hedge
    refine ⟨⟨_, exec_next_of rfl (fastOutput_edge (s := s.advance dt) (y := y) hrun hen hedge), ?_⟩, t, ht, hstuck⟩
    exact congrArg SdiSt.fastLast (State.modSdi_self (s.advance dt) c _)
  · exact congrArg SdiSt.stuck (State.modSdi_self (s.advance dt) c _)
  · refine ⟨fun halloc hsdi hfb hcnt => ?_, fun avg hoff hsmall => ?_, fun hfirst hverdict hcnt => ?_⟩
    · obtain ⟨t, ht, -, hcleared⟩ := exec_phaseOc (dt := dt) hphase hrun halloc hcnt (by rw [hsdi]; simp) (by rw [hfb]; simp)
      exact ⟨t, ht, hcleared⟩
    · refine ⟨_, exec_next_of rfl ((zeroEnd_sdi (s := s.advance dt) hphase hrun hoff).1 hsmall), ?_⟩
      have hself := State.modSdi_self (s.advance dt) c fun d => { d with zeroFail := false, zeroNext := some avg }
      exact ⟨congrArg SdiSt.zeroFail hself, congrArg SdiSt.zeroNext hself⟩
    · obtain ⟨⟨t, ht, hdecl, -⟩, -⟩ := exec_sdiFault (dt := dt) (p := p) (k := 1) hrun hfirst (.inl ⟨rfl, hverdict, hcnt⟩)
      refine ⟨t, ht, ?_⟩
      rw [hdecl]
      exact (by decide : ∀ p : Fin 3, (BitVec.ofNat 3 (2 ^ p.val)).getLsbD p.val = true) p

end

end Sys2Proof.Machine
end

section
/-! PROOF. Position interfaces (R195 to R199): counting, illegal transitions, serial transfers and the faults of each. -/
set_option Elab.async false

namespace Sys2Proof.Machine

section
variable {s : State} {e : Fin 6}

theorem modEnc_congr {f g : EncSt → EncSt} (h : f s.sns.enc[e] = g s.sns.enc[e]) : s.modEnc e f = s.modEnc e g := by
  simp only [State.modEnc, State.onSns, vset, h]

/-! ## Counting -/

/-- The quarter turns from the levels kept to those now read. -/
def State.encTurned (s : State) (e : Fin 6) (a b : Bool) : Nat := (quadrant a b + 4 - quadrant s.sns.enc[e].a s.sns.enc[e].b) % 4

/-- The count that `d` quarter turns add, `rev` the direction setting. -/
def encStep (d : Nat) (rev : Bool) : Int := if d = 0 ∨ d = 2 then 0 else if (d == 1) != rev then 1 else -1

/-- An interface after an edge without an index: the levels, the count and what an illegal transition notes. -/
def EncSt.edged (x : EncSt) (a b z : Bool) (d : Nat) (rev : Bool) (raw now : Nat) (zBad : Nat) : EncSt :=
  { x with
    a := a, b := b, z := z, count := x.count + encStep d rev, up := if encStep d rev = 0 then x.up else (d == 1) != rev
    edgeAt := if encStep d rev = 0 then x.edgeAt else raw
    illAt := if d == 2 then x.illAt.filter (fun t => decide (now < t + 1000000000)) ++ [now] else x.illAt
    illTotal := if d == 2 then satInc 16 x.illTotal else x.illTotal
    zBad := zBad }

theorem encEdge_plain {a b z : Bool} (hrun : s.running = true) (htype : s.regs.SNS_ENCe_CFG_TYPE e = 1) (hbound : s.boundTo e = none)
    (hz : s.regs.SNS_ENCe_CFG_Z_EN e = false ∨ z = false) (hbad : s.sns.enc[e].zBad < 2) :
    s.encEdge e a b z = s.modEnc e fun x => x.edged a b z (s.encTurned e a b) (s.regs.SNS_ENCe_CFG_DIR e) (s.tb - s.regs.SNS_ENCe_CFG_FILT e * 10) s.tb
      s.sns.enc[e].zBad := by
  have hedge : (s.regs.SNS_ENCe_CFG_Z_EN e && z && !s.sns.enc[e].z) = false := by
    rcases hz with h | h <;> rw [h]
    · rfl
    · rw [Bool.and_false]
      rfl
  have hbound' (f : EncSt → EncSt) : (s.modEnc e f).boundTo e = none := hbound
  unfold State.encEdge
  simp only [hrun, htype, hedge, beq_self_eq_true, Bool.and_self, Bool.not_true, Bool.not_false, Bool.false_eq_true, if_false, if_true,
    if_neg (not_le.2 hbad), hbound']
  exact modEnc_congr rfl

theorem quadrant_lt (a b : Bool) : quadrant a b < 4 := by revert a b; decide

/-- One level changes: a quarter turn up or down, in the order of the quadrants. -/
theorem encTurned_one {a b : Bool} (h : a ≠ s.sns.enc[e].a ∧ b = s.sns.enc[e].b ∨ a = s.sns.enc[e].a ∧ b ≠ s.sns.enc[e].b) :
    (quadrant a b = (quadrant s.sns.enc[e].a s.sns.enc[e].b + 1) % 4 → s.encTurned e a b = 1) ∧
    (quadrant s.sns.enc[e].a s.sns.enc[e].b = (quadrant a b + 1) % 4 → s.encTurned e a b = 3) ∧
    (s.encTurned e a b = 1 ∨ s.encTurned e a b = 3) := by
  unfold State.encTurned
  generalize s.sns.enc[e].a = a' at *
  generalize s.sns.enc[e].b = b' at *
  revert a b a' b'
  decide

theorem encTurned_both {a b : Bool} (ha : a ≠ s.sns.enc[e].a) (hb : b ≠ s.sns.enc[e].b) : s.encTurned e a b = 2 := by
  unfold State.encTurned
  generalize s.sns.enc[e].a = a' at *
  generalize s.sns.enc[e].b = b' at *
  revert a b a' b'
  decide

theorem exec_encEdge {dt : Nat} {a b z : Bool} (hrun : s.running = true) (htype : s.regs.SNS_ENCe_CFG_TYPE e = 1) (hbound : s.boundTo e = none)
    (hz : s.regs.SNS_ENCe_CFG_Z_EN e = false ∨ z = false) (hbad : s.sns.enc[e].zBad < 2) :
    ∃ t, exec (.encEdge dt e a b z) s = .next t ∧ t.but s = { s.advance dt with sns := t.sns } ∧
      t.sns.enc[e].a = a ∧ t.sns.enc[e].b = b ∧ t.sns.enc[e].z = z ∧
      (a ≠ s.sns.enc[e].a ∧ b = s.sns.enc[e].b ∨ a = s.sns.enc[e].a ∧ b ≠ s.sns.enc[e].b →
        (quadrant a b = (quadrant s.sns.enc[e].a s.sns.enc[e].b + 1) % 4 →
          t.sns.enc[e].count = s.sns.enc[e].count + if s.regs.SNS_ENCe_CFG_DIR e then -1 else 1) ∧
        (quadrant s.sns.enc[e].a s.sns.enc[e].b = (quadrant a b + 1) % 4 →
          t.sns.enc[e].count = s.sns.enc[e].count + if s.regs.SNS_ENCe_CFG_DIR e then 1 else -1) ∧
        t.sns.enc[e].edgeAt = s.tbAt dt - s.regs.SNS_ENCe_CFG_FILT e * 10 ∧ t.sns.enc[e].illTotal = s.sns.enc[e].illTotal) ∧
      (a ≠ s.sns.enc[e].a → b ≠ s.sns.enc[e].b → t.sns.enc[e].count = s.sns.enc[e].count ∧ t.sns.enc[e].edgeAt = s.sns.enc[e].edgeAt ∧
        s.tbAt dt ∈ t.sns.enc[e].illAt ∧ t.sns.enc[e].illTotal = satInc 16 s.sns.enc[e].illTotal) := by
  have hop := encEdge_plain (s := s.advance dt) (a := a) (b := b) hrun htype hbound hz hbad
  refine ⟨_, exec_next_of rfl hop, rfl, ?_⟩
  have hself := State.modEnc_self (s.advance dt) e fun x => x.edged a b z ((s.advance dt).encTurned e a b) ((s.advance dt).regs.SNS_ENCe_CFG_DIR e)
    ((s.advance dt).tb - (s.advance dt).regs.SNS_ENCe_CFG_FILT e * 10) (s.advance dt).tb (s.advance dt).sns.enc[e].zBad
  rw [State.settle_sns, hself]
  have hdir : (s.advance dt).regs.SNS_ENCe_CFG_DIR e = s.regs.SNS_ENCe_CFG_DIR e := rfl
  rw [hdir]
  refine ⟨rfl, rfl, rfl, fun hone => ?_, fun ha hb => ?_⟩
  · obtain ⟨hup, hdown, hquarter⟩ := encTurned_one (s := s.advance dt) hone
    refine ⟨fun h => ?_, fun h => ?_, ?_⟩
    · rw [hup h]
      cases s.regs.SNS_ENCe_CFG_DIR e <;> rfl
    · rw [hdown h]
      cases s.regs.SNS_ENCe_CFG_DIR e <;> rfl
    · rcases hquarter with h | h <;> rw [h] <;> cases s.regs.SNS_ENCe_CFG_DIR e <;> exact ⟨rfl, rfl⟩
  · rw [encTurned_both (s := s.advance dt) ha hb]
    refine ⟨Int.add_zero _, rfl, ?_, rfl⟩
    exact List.mem_append_right _ (List.mem_singleton.2 rfl)

/-! ## Faults -/

/-- The mark of a fault of cause `cause`. -/
def EncSt.marked (x : EncSt) (cause : Nat) : EncSt :=
  { x with
    fault := true, illegal := x.illegal || cause == 1, index := x.index || cause == 2, serial := x.serial || cause == 3
    observer := x.observer || cause == 4 }

theorem encNow_marked (cause : Nat) (d : Fin 6) : (s.modEnc e (EncSt.marked · cause)).encNow d = s.encNow d := by
  have hd : (s.modEnc e (EncSt.marked · cause)).sns.enc[d].count = s.sns.enc[d].count ∧ (s.modEnc e (EncSt.marked · cause)).encAt d = s.encAt d := by
    unfold State.encAt
    dsimp only
    by_cases h : d = e
    · subst h
      rw [State.modEnc_self]
      exact ⟨rfl, rfl⟩
    · rw [State.modEnc_other _ _ _ _ h]
      exact ⟨rfl, rfl⟩
  unfold State.encNow
  dsimp only
  rw [hd.1, hd.2]
  rfl

/-- The fault of an interface that no axis has bound. -/
theorem encFault_unbound {cause : Nat} (hnew : s.sns.enc[e].fault = false) (hbound : s.boundTo e = none) :
    s.encFault e cause = (s.modEnc e (EncSt.marked · cause)).event s.tb Unit.sns 0x0708 (e.val + cause * 256) (s.encNow e).toNat := by
  have hbound' : (s.modEnc e (EncSt.marked · cause)).boundTo e = none := hbound
  rw [← encNow_marked (e := e) cause]
  unfold State.encFault
  rw [if_neg (by rw [hnew]; decide)]
  show (match (s.modEnc e (EncSt.marked · cause)).boundTo e with | some n => _ | none => _) = _
  rw [hbound']
  rfl

/-- The fault of an interface that axis `n` has bound. -/
theorem encFault_bound {cause : Nat} {n : Fin 6} (hnew : s.sns.enc[e].fault = false) (hbound : s.boundTo e = some n) :
    s.encFault e cause = (((s.modEnc e (EncSt.marked · cause)).modSns n (fun q => { q.faulted 2 s.tb with fEnc := true, fbEnc := true })).event s.tb
      (Unit.ax n) 0x0708 (e.val + cause * 256) (s.encNow e).toNat).blindCheck n := by
  have hbound' : (s.modEnc e (EncSt.marked · cause)).boundTo e = some n := hbound
  rw [← encNow_marked (e := e) cause]
  unfold State.encFault
  rw [if_neg (by rw [hnew]; decide)]
  show (match (s.modEnc e (EncSt.marked · cause)).boundTo e with | some n => _ | none => _) = _
  rw [hbound']
  rfl

theorem exec_encObserverMismatch {dt since : Nat} {n : Fin 6} (hrun : s.running = true) (hmoves : s.ax[n].state.watched = true)
    (hdiff : s.sns.ax[n].encDiff = some since) (htime : since + 50000000 ≤ s.tbAt dt) (hen : s.regs.SNS_AXn_ENC_EN n = true)
    (hbound : s.boundTo (s.encOf n) = some n) (hnew : s.sns.enc[s.encOf n].fault = false) : ∃ t, exec (.encObserverMismatch dt n) s = .next t ∧
      t.but s = { s.advance dt with sns := t.sns, recs := t.recs, ax := t.ax } ∧ t.sns.enc[s.encOf n].observer = true ∧
      t.sns.ax[n].fEnc = true ∧ t.sns.ax[n].fbEnc = true ∧ t.sns.ax[n].limpNext = true := by
  have hop := encFault_bound (s := s.advance dt) (cause := 4) hnew hbound
  have hsns := (Frame.event (((s.advance dt).modEnc (s.encOf n) (EncSt.marked · 4)).modSns n (fun q => { q.faulted 2 (s.advance dt).tb with
    fEnc := true, fbEnc := true })) (s.advance dt).tb (Unit.ax n) 0x0708 ((s.encOf n).val + 4 * 256) ((s.advance dt).encNow (s.encOf n)).toNat 0).keep
      .sns (by decide)
  have F := Frame.event (((s.advance dt).modEnc (s.encOf n) (EncSt.marked · 4)).modSns n (fun q => { q.faulted 2 (s.advance dt).tb with
    fEnc := true, fbEnc := true })) (s.advance dt).tb (Unit.ax n) 0x0708 ((s.encOf n).val + 4 * 256) ((s.advance dt).encNow (s.encOf n)).toNat 0
  have hexec : exec (.encObserverMismatch dt n) s = done ((s.advance dt).encFault (s.encOf n) 4) := by
    refine congrArg done ?_
    rw [show (s.advance dt).sns.ax[n].encDiff = some since from hdiff]
    exact if_pos ⟨hrun, hmoves, htime, hen⟩
  refine ⟨_, exec_next_of hexec hop, ?_⟩
  generalize (((s.advance dt).modEnc (s.encOf n) (EncSt.marked · 4)).modSns n (fun q => { q.faulted 2 (s.advance dt).tb with
    fEnc := true, fbEnc := true })).event (s.advance dt).tb (Unit.ax n) 0x0708 ((s.encOf n).val + 4 * 256) ((s.advance dt).encNow (s.encOf n)).toNat = u at *
  have G : Frame [.recs, .sns, .ax] (s.advance dt) (u.blindCheck n) :=
    Frame.next (Frame.blindCheck ..) (by decide) (Frame.next F (by decide) (Frame.next (Frame.modSns ..) (by decide)
      (Frame.next (Frame.modEnc ..) (by decide) (Frame.refl ..))))
  have hsns' : (u.blindCheck n).sns = u.sns := (Frame.blindCheck ..).keep .sns (by decide)
  refine ⟨?_, ?_⟩
  · generalize u.blindCheck n = v at *
    rw [G.eq_merge]
    rfl
  · rw [State.settle_sns, hsns', hsns]
    refine ⟨congrArg EncSt.observer ((State.modEnc_self (s.advance dt) (s.encOf n) (EncSt.marked · 4)).trans rfl) |>.trans (Bool.or_true _), ?_⟩
    rw [State.modSns_self]
    exact ⟨rfl, rfl, rfl⟩

/-! ## Serial transfers -/

theorem serialDone_bad {since : Nat} {bits : Word} {parity : Bool} (hrun : s.running = true) (hxfer : s.sns.enc[e].xfer = some since) :
    s.serialDone e false bits parity = s.modEnc e fun x => { x with
      xfer := none, recovered := s.tb + nsOf (s.regs.SNS_ENCe_TREC e), discTotal := satInc 16 x.discTotal, discRow := x.discRow + 1 } := by
  unfold State.serialDone
  simp only [hxfer, hrun, Bool.not_true, Bool.false_eq_true, if_false, Bool.not_false, Bool.true_or, if_true]

theorem serialDone_first {since : Nat} {bits : Word} {parity : Bool} (hrun : s.running = true) (hxfer : s.sns.enc[e].xfer = some since)
    (hfirst : s.sns.enc[e].goodAt = none) (hbound : s.boundTo e = none) (hparity : s.regs.SNS_ENCe_CFG_PARITY e = false)
    (hcode : s.regs.SNS_ENCe_CFG_CODE e = false) (hdir : s.regs.SNS_ENCe_CFG_DIR e = false) :
    s.serialDone e true bits parity = s.modEnc e fun x => { x with
      xfer := none, recovered := s.tb + nsOf (s.regs.SNS_ENCe_TREC e), discRow := 0, speed := 0, goodAt := some since
      pos := w32 (fld (w32 (fld bits 0 (s.regs.SNS_ENCe_CFG_BITS e))) 0 (s.regs.SNS_ENCe_CFG_ST_BITS e) <<< (32 - s.regs.SNS_ENCe_CFG_ST_BITS e))
      turns := ((w32 (fld bits 0 (s.regs.SNS_ENCe_CFG_BITS e))).toNat >>> s.regs.SNS_ENCe_CFG_ST_BITS e : Nat) } := by
  have hbound' (f : EncSt → EncSt) : (s.modEnc e f).boundTo e = none := hbound
  unfold State.serialDone
  simp only [hxfer, hrun, hfirst, hparity, hcode, hdir, hbound', Bool.not_true, Bool.not_false, Bool.false_eq_true, if_false, if_true, Bool.false_and,
    Option.isSome_none, Bool.or_self]

/-- Settles O24: each command by what its operation leaves of the interface. -/
theorem positionInterfaces : Obligations.PositionInterfaces := by
  unfold Obligations.PositionInterfaces
  intro s dt e
  refine ⟨fun a b z hrun htype hbound hz hbad => exec_encEdge hrun htype hbound hz hbad, fun hrun hnew hbound => ⟨fun hlimit => ?_, fun hrow => ?_⟩,
    fun n since hrun hmoves hdiff htime hen hbound hnew => exec_encObserverMismatch hrun hmoves hdiff htime hen hbound hnew,
    fun hrun htype htime => ⟨_, exec_next_of rfl (if_pos (And.intro hrun (And.intro htype htime))), rfl⟩,
    fun since bits parity hrun hxfer => ⟨⟨_, exec_next_of rfl (serialDone_bad (s := s.advance dt) hrun hxfer), rfl⟩,
      fun hfirst hbound hparity hcode hdir =>
        ⟨_, exec_next_of rfl (serialDone_first (s := s.advance dt) hrun hxfer hfirst hbound hparity hcode hdir), rfl⟩⟩⟩
  · have hmark : (s.advance dt).modEnc e (EncSt.marked · 1) = (s.advance dt).modEnc e fun x => { x with fault := true, illegal := true } :=
      modEnc_congr (by simp [EncSt.marked])
    have hop := encFault_unbound (s := s.advance dt) (cause := 1) hnew hbound
    rw [hmark] at hop
    exact ⟨_, exec_next_of rfl ((if_pos (And.intro hrun hlimit)).trans hop), (but_event ..).trans rfl, (Wrote.event_one (run_phase hrun)).settle⟩
  · have hmark : (s.advance dt).modEnc e (EncSt.marked · 3) = (s.advance dt).modEnc e fun x => { x with fault := true, serial := true } :=
      modEnc_congr (by simp [EncSt.marked])
    have hop := encFault_unbound (s := s.advance dt) (cause := 3) hnew hbound
    rw [hmark] at hop
    exact ⟨_, exec_next_of rfl ((if_pos (And.intro hrun hrow)).trans hop), (but_event ..).trans rfl, (Wrote.event_one (run_phase hrun)).settle⟩

end

end Sys2Proof.Machine
end

section
/-! PROOF. CATCH (R222 to R228): its result, its failure and repetition; the phases of I-f (R219, R220). -/
set_option Elab.async false

namespace Sys2Proof.Machine

section
variable {s : State} {n : Fin 6}

/-! ## The result of a measurement -/

/-- What a result decides for speed `v`: a start from rest, a takeover, or one in the reverse case. -/
def State.catchDec (s : State) (n : Fin 6) (v : Rat) : Nat :=
  if absR v < s.nStand n then 0 else if s.dirCmd n = 0 ∨ s.dirCmd n = signR v then 1 else 2

/-- The way to a result: the encoder, settled terminal voltages, or terminal voltages at standstill. -/
def State.catchWay (s : State) (n : Fin 6) (speed : Rat) (angle : Word) (method : Nat) (v : Rat) : Prop :=
  (method = 1 ∧ s.encUsable n = true ∧ s.ax[n].cat.since ≤ s.sns.ax[n].at' ∧ v = (s.encAt (s.encOf n)).2) ∨
  (method = 2 ∧ s.encUsable n = false ∧ s.regs.SNS_AXn_VIN_VT_EN n = true ∧ s.vtStill n = false ∧
    s.vtSettled n s.ax[n].cat.since = true ∧ s.vtFits n speed angle = true ∧ v = speed) ∨
  (method = 2 ∧ s.encUsable n = false ∧ s.regs.SNS_AXn_VIN_VT_EN n = true ∧ s.vtStill n = true ∧ v = 0)

theorem catchDone_result {speed v : Rat} {angle : Word} {method : Nat} (hrun : s.running = true) (hmeas : s.measuring n = true)
    (htime : s.tb ≤ s.ax[n].cat.since + 20000000) (hway : s.catchWay n speed angle method v) :
    ∃ th, s.catchDone n speed angle = s.catchResult n method v th := by
  unfold State.catchDone
  rw [if_neg (by rw [hrun, hmeas, decide_eq_true htime]; decide)]
  rcases hway with ⟨rfl, henc, hat, rfl⟩ | ⟨rfl, henc, hvt, hstill, hsettled, hfits, rfl⟩ | ⟨rfl, henc, hvt, hstill, rfl⟩
  · have hmethod : s.catchMethod n = 1 := if_pos henc
    simp only [hmethod, decide_eq_true hat, Bool.or_true, if_true]
    exact ⟨_, rfl⟩
  · have hmethod : s.catchMethod n = 2 := (if_neg (by rw [henc]; decide)).trans (if_pos hvt)
    simp only [hmethod, hstill, hsettled, hfits, Bool.and_self, Bool.false_eq_true, if_false, if_true]
    exact ⟨_, rfl⟩
  · have hmethod : s.catchMethod n = 2 := (if_neg (by rw [henc]; decide)).trans (if_pos hvt)
    simp only [hmethod, hstill, if_true]
    exact ⟨_, rfl⟩

/-- What a result leaves of the axis and its command. -/
theorem catchResult_leaves (s : State) (n : Fin 6) (method : Nat) (v : Rat) (th : Word) :
    (s.catchResult n method v th).ax[n].state = s.ax[n].state ∧ (s.catchResult n method v th).ax[n].cat.decided = true ∧
    (s.catchResult n method v th).ax[n].cat.method = method ∧
    (s.catchResult n method v th).ax[n].cat.takeOver = !(s.catchDec n v == 0 && !s.encUsable n && (s.stopInMode s.ax[n].cat.stop).isNone) ∧
    (s.catchResult n method v th).ax[n].eng.ifPhase =
      (if s.catchDec n v == 0 && !s.encUsable n && (s.stopInMode s.ax[n].cat.stop).isNone then .align else .none) ∧
    (s.catchResult n method v th).ax[n].eng.speed = (if s.catchDec n v = 0 then 0 else v) ∧
    (s.catchResult n method v th).cmd.ax[n].nRef = (if s.catchDec n v = 0 then 0 else v) ∧
    (s.catchResult n method v th).cmd.ax[n].reverse = (s.catchDec n v == 2) ∧
    ∀ m, m ≠ n → (s.catchResult n method v th).ax[m] = s.ax[m] ∧ (s.catchResult n method v th).cmd.ax[m] = s.cmd.ax[m] := by
  unfold State.catchResult
  extract_lets x dir dec u n0 w align pre
  have hax : w.ax = s.ax := (Frame.event ..).keep .ax (by decide)
  have hcmd : u.cmd = s.cmd := (Frame.event ..).keep .cmd (by decide)
  have hregs : w.regs = s.regs := (Frame.event ..).keep .regs (by decide)
  have hsns : w.sns = s.sns := (Frame.event ..).keep .sns (by decide)
  have hmode : w.mode = s.mode := (Frame.event ..).keep .mode (by decide)
  have halign : align = (s.catchDec n v == 0 && !s.encUsable n && (s.stopInMode s.ax[n].cat.stop).isNone) := by
    unfold align State.encUsable State.stopInMode
    rw [hregs, hsns, hmode]
    rfl
  have hself : w.cmd.ax[n].nRef = n0 ∧ w.cmd.ax[n].reverse = (dec == 2) := by
    unfold w
    rw [State.modCmd_self]
    exact ⟨rfl, rfl⟩
  have hother (m : Fin 6) (hm : m ≠ n) : w.cmd.ax[m] = s.cmd.ax[m] := by
    unfold w
    rw [State.modCmd_other _ _ _ _ hm, hcmd]
  rw [← halign]
  clear_value w align pre
  have hcat (f : AxSt → AxSt) (g : Eng → Eng) : ((w.modAx n f).modEngAll n g).ax[n] = { f s.ax[n] with
      eng := g (f s.ax[n]).eng, result := (f s.ax[n]).result.map (fun r => { r with eng := g r.eng })
      run := (f s.ax[n]).run.map (fun w => { w with eng := g w.eng }) } := by
    unfold State.modEngAll
    rw [State.modAx_self, State.modAx_self, hax]
  refine ⟨?_, ?_, ?_, ?_, ?_, ?_, hself.1, hself.2, fun m hm => ⟨?_, hother m hm⟩⟩
  · rw [hcat]
  · rw [hcat]
  · rw [hcat]
  · rw [hcat]
  · rw [hcat]
  · rw [hcat]
    rfl
  · unfold State.modEngAll
    rw [State.modAx_other _ _ _ _ hm, State.modAx_other _ _ _ _ hm, hax]

theorem catchResult_wrote {method : Nat} {v : Rat} {th : Word} (hphase : s.pwr.phase = .running) :
    Wrote s (s.catchResult n method v th) [evtOf s.tb (Unit.ax n) 0x0804 (method + s.catchDec n v * 16) (rpm10 v)] := by
  unfold State.catchResult
  extract_lets x dir dec u n0 w align pre
  have hevent : Wrote s u [evtOf s.tb (Unit.ax n) 0x0804 (method + s.catchDec n v * 16) (rpm10 v)] := Wrote.event_one hphase
  have F : Frame [.ax, .cmd] u w := Frame.next (Frame.modCmd ..) (by decide) (Frame.refl ..)
  exact hevent.next (Frame.next (Frame.modEngAll ..) (by decide) (Frame.next (Frame.modAx ..) (by decide) F)) (by decide)

theorem exec_catchDone {dt : Nat} {speed v : Rat} {angle : Word} {method dec : Nat} (hrun : s.running = true) (hmeas : s.measuring n = true)
    (htime : s.tbAt dt ≤ s.ax[n].cat.since + 20000000) (hway : (s.advance dt).catchWay n speed angle method v)
    (hdec : dec = s.catchDec n v) : ∃ t, exec (.catchDone dt n speed angle) s = .next t ∧
      t.but s = { s.advance dt with ax := t.ax, cmd := t.cmd, recs := t.recs } ∧
      Wrote s t [evtOf (s.tbAt dt) (Unit.ax n) 0x0804 (method + dec * 16) (rpm10 v)] ∧
      t.ax[n].state = .catching ∧ t.ax[n].cat.decided = true ∧ t.ax[n].cat.method = method ∧
      (dec = 0 → t.cmd.ax[n].nRef = 0 ∧
        (s.encUsable n = false → s.stopInMode s.ax[n].cat.stop = none → t.ax[n].eng.ifPhase = .align ∧ t.ax[n].cat.takeOver = false)) ∧
      (dec ≠ 0 → t.cmd.ax[n].nRef = v ∧ t.ax[n].eng.speed = v ∧ t.ax[n].cat.takeOver = true ∧ t.cmd.ax[n].reverse = (dec == 2)) ∧
      (∀ m, m ≠ n → t.ax[m] = s.ax[m] ∧ t.cmd.ax[m] = s.cmd.ax[m]) := by
  subst hdec
  obtain ⟨th, hop⟩ := catchDone_result (s := s.advance dt) hrun hmeas htime hway
  have F := Frame.catchResult (s.advance dt) n method v th
  have hwrote : Wrote s ((s.advance dt).catchResult n method v th) _ := catchResult_wrote (s := s.advance dt) (n := n) (method := method) (v := v) (th := th)
    (run_phase hrun)
  obtain ⟨hstate, hdecided, hmethod, htake, hphase, hspeed, href, hreverse, hothers⟩ := catchResult_leaves (s.advance dt) n method v th
  have hcatching : s.ax[n].state = .catching := by
    have h : (s.ax[n].state == .catching && !s.ax[n].cat.decided && s.ax[n].cat.retryAt.isNone) = true := hmeas
    rw [Bool.and_eq_true, Bool.and_eq_true] at h
    exact beq_iff_eq.1 h.1.1
  have hdec : (s.advance dt).catchDec n v = s.catchDec n v := rfl
  rw [hdec] at htake hphase hspeed href hreverse
  generalize (s.advance dt).catchResult n method v th = u at *
  refine ⟨_, exec_next_of rfl hop, ?_, hwrote.settle, hstate.trans hcatching, hdecided, hmethod, fun h0 => ⟨?_, fun henc hstop => ⟨?_, ?_⟩⟩,
    fun h0 => ⟨?_, ?_, ?_, hreverse⟩, hothers⟩
  · rw [F.eq_merge]
    rfl
  · exact href.trans (if_pos h0)
  · refine hphase.trans (if_pos ?_)
    rw [h0, show (s.advance dt).encUsable n = false from henc, show (s.advance dt).stopInMode (s.advance dt).ax[n].cat.stop = none from hstop]
    rfl
  · refine htake.trans ?_
    rw [h0, show (s.advance dt).encUsable n = false from henc, show (s.advance dt).stopInMode (s.advance dt).ax[n].cat.stop = none from hstop]
    rfl
  · exact href.trans (if_neg h0)
  · exact hspeed.trans (if_neg h0)
  · refine htake.trans ?_
    rw [beq_eq_false_iff_ne.2 h0]
    rfl

/-! ## Its failure and repetition -/

/-- The record of a measurement that has failed. -/
def State.catchFailed (s : State) (n : Fin 6) : State :=
  s.event (s.ax[n].cat.since + 20000000) (Unit.ax n) 0x0805 (min s.ax[n].cat.attempt 2) 0

theorem catchFail_due (hrun : s.running = true) (hmeas : s.measuring n = true) (htime : s.ax[n].cat.since + 20000000 ≤ s.tb)
    (hfail : (s.catchMethod n = 2 ∧ s.vtStill n = false ∧ s.vtSettled n s.ax[n].cat.since = false) ∨ (s.catchMethod n = 3 ∧ s.zeroSettled n = false)) :
    s.catchFail n = if 2 ≤ s.ax[n].cat.attempt then (s.catchFailed n).axHaltOff n 0x0805 else (s.catchFailed n).modAx n fun x => { x with
      bridge := .off, set := {}, posted := none, result := none, run := none, cat := { x.cat with retryAt := some (x.cat.since + 20000000) } } := by
  have hdue : (s.running && s.measuring n && decide (s.ax[n].cat.since + 20000000 ≤ s.tb)
      && ((s.catchMethod n == 2 && !s.vtStill n && !s.vtSettled n s.ax[n].cat.since) || (s.catchMethod n == 3 && !s.zeroSettled n))) = true := by
    rw [hrun, hmeas, decide_eq_true htime]
    rcases hfail with ⟨hmethod, hstill, hsettled⟩ | ⟨hmethod, hzero⟩
    · rw [hmethod, hstill, hsettled]
      rfl
    · rw [hmethod, hzero]
      rfl
  unfold State.catchFail
  dsimp only
  rw [if_neg (by rw [hdue]; decide)]
  rfl

theorem exec_catchFail {dt : Nat} (hrun : s.running = true) (hmeas : s.measuring n = true) (htime : s.ax[n].cat.since + 20000000 ≤ s.tbAt dt)
    (hfail : (s.catchMethod n = 2 ∧ (s.advance dt).vtStill n = false ∧ (s.advance dt).vtSettled n s.ax[n].cat.since = false) ∨
      (s.catchMethod n = 3 ∧ (s.advance dt).zeroSettled n = false)) :
    (s.ax[n].cat.attempt = 1 → ∃ t, exec (.catchFail dt n) s = .next t ∧
      t.but s = { s.advance dt with ax := vset s.ax n (fun x => { x with
        bridge := .off, set := {}, posted := none, result := none, run := none, cat := { x.cat with retryAt := some (x.cat.since + 20000000) } }), recs := t.recs } ∧
      Wrote s t [evtOf (s.ax[n].cat.since + 20000000) (Unit.ax n) 0x0805 1 0]) ∧
    (2 ≤ s.ax[n].cat.attempt → ∃ t, exec (.catchFail dt n) s = .next t ∧ t.ax[n].state = .halt ∧ t.ax[n].haltReason = 0x0805) := by
  have hop := catchFail_due (s := s.advance dt) hrun hmeas htime hfail
  constructor <;> intro hattempt
  · rw [if_neg (by rw [show (s.advance dt).ax[n].cat.attempt = 1 from hattempt]; decide)] at hop
    refine ⟨_, exec_next_of rfl hop, ?_, ?_⟩
    · have F : Frame [.recs] (s.advance dt) ((s.advance dt).catchFailed n) := Frame.event ..
      generalize (s.advance dt).catchFailed n = u at *
      rw [F.eq_merge]
      rfl
    · have hwrote : Wrote s ((s.advance dt).catchFailed n)
          [evtOf (s.ax[n].cat.since + 20000000) (Unit.ax n) 0x0805 (min s.ax[n].cat.attempt 2) 0] := Wrote.event_one (run_phase hrun)
      rw [hattempt] at hwrote
      exact (hwrote.next (Frame.modAx ..) (by decide)).settle
  · rw [if_pos (by exact hattempt)] at hop
    obtain ⟨hstate, hreason, -⟩ := State.axHaltOff_ax ((s.advance dt).catchFailed n) n 0x0805
    exact ⟨_, exec_next_of rfl hop, hstate, hreason⟩

theorem catchRetry_due {since : Nat} (hstate : s.ax[n].state = .catching) (hretry : s.ax[n].cat.retryAt = some since) (htime : since + 100000000 ≤ s.tb) :
    s.catchRetry n = s.catchEnter n (s.ax[n].cat.attempt + 1) s.ax[n].cat.blind s.ax[n].cat.coast s.ax[n].cat.stop := by
  unfold State.catchRetry
  simp only [hstate, hretry, if_pos htime]

/-- An attempt begins in CATCH with its own record of the measurement; the other axes stay as they were. -/
theorem catchEnter_leaves (s : State) (n : Fin 6) (attempt : Nat) (blind : Bool) (coast : Option Nat) (stop : Option StopKind) :
    (s.catchEnter n attempt blind coast stop).ax[n].state = .catching ∧
    (s.catchEnter n attempt blind coast stop).ax[n].cat = { since := s.tb, attempt := attempt, blind := blind, coast := coast, stop := stop } ∧
    ∀ m, m ≠ n → (s.catchEnter n attempt blind coast stop).ax[m] = s.ax[m] := by
  unfold State.catchEnter
  extract_lets u v w
  have hu : u.ax = s.ax ∧ u.clk = s.clk := by
    unfold u
    split
    · exact ⟨rfl, rfl⟩
    · exact ⟨(Frame.epuFresh ..).keep .ax (by decide), (Frame.epuFresh ..).keep .clk (by decide)⟩
  have F : Frame [.sns] v w := Frame.foldl _ _ (fun s c => Frame.ite (Frame.modSdi ..) (Frame.refl ..)) v
  have hax : w.ax = s.ax := (F.keep .ax (by decide)).trans hu.1
  have hclk : w.clk = s.clk := (F.keep .clk (by decide)).trans hu.2
  have htb : w.tb = s.tb := by rw [State.tb, hclk, State.tb]
  clear_value w
  rw [State.modAx_self, htb]
  refine ⟨rfl, rfl, fun m hm => ?_⟩
  rw [State.modAx_other _ _ _ _ hm, hax]

/-! ## I-f -/

theorem ifAlignEnd_due (hphase : s.ax[n].eng.ifPhase = .align) (htime : s.ax[n].eng.ifAt + nsOf (s.regs.AXn_IF_ALIGN_T n) ≤ s.tb) :
    s.ifAlignEnd n = s.modEngAll n fun e => { e with ifPhase := .ramp, ifAt := s.tb } := if_pos ⟨hphase, htime⟩

theorem ifBlendEnd_due (hphase : s.ax[n].eng.ifPhase = .blend) (htime : s.ax[n].eng.ifAt + nsOf (s.regs.AXn_IF_BLEND n) ≤ s.tb) :
    s.ifBlendEnd n = (s.modEngAll n (fun e => { e with ifPhase := .none, obsOk := true })).modAx n fun x =>
      if x.state = .catching then { x with state := .run, cat := {} } else x := if_pos ⟨hphase, htime⟩

/-- Settles O25: each command by what its operation leaves of the axis. -/
theorem catchAndIf : Obligations.CatchAndIf := by
  unfold Obligations.CatchAndIf
  intro s dt n
  refine ⟨fun speed v angle method dec hrun hmeas htime hway hdec => exec_catchDone hrun hmeas htime hway hdec,
    fun hrun hmeas htime hfail => exec_catchFail hrun hmeas htime hfail, fun since hrun hstate hretry htime => ?_,
    fun hrun hphase htime => ?_, fun hrun hphase htime => ?_⟩
  · refine ⟨_, exec_next_of rfl ((if_pos (by exact hrun)).trans (catchRetry_due (s := s.advance dt) hstate hretry htime)), ?_,
      catchEnter_leaves (s.advance dt) n _ _ _ _⟩
    rw [(Frame.catchEnter ..).eq_merge]
    rfl
  · refine ⟨_, exec_next_of rfl ((if_pos (by exact hrun)).trans (ifAlignEnd_due (s := s.advance dt) hphase htime)), rfl, ?_⟩
    unfold State.modEngAll
    rw [State.settle_ax, State.modAx_self]
    exact ⟨rfl, rfl, rfl, rfl, fun m hm => State.modAx_other _ _ _ _ hm⟩
  · refine ⟨_, exec_next_of rfl ((if_pos (by exact hrun)).trans (ifBlendEnd_due (s := s.advance dt) hphase htime)), rfl, ?_⟩
    unfold State.modEngAll
    rw [State.settle_ax, State.modAx_self, State.modAx_self]
    refine ⟨?_, ?_, fun m hm => ?_⟩
    · split <;> rfl
    · split
      · next h => exact (if_pos h).symm
      · next h => exact (if_neg h).symm
    · rw [State.modAx_other _ _ _ _ hm, State.modAx_other _ _ _ _ hm]
      rfl

end

end Sys2Proof.Machine
end

section
/-! PROOF. An auxiliary axis on its way (R296 to R318): updates, arrival, homing, stall, standstill, hold current and the start check. -/
set_option Elab.async false

namespace Sys2Proof.Machine

/-! ## Extremes of a carrier -/

theorem extremeAt_mono {v0 : Nat} {f : Rat} {j k : Nat} (h : j ≤ k) : extremeAt v0 f j ≤ extremeAt v0 f k := by
  refine Nat.add_le_add_left ?_ _
  rcases le_or_gt 0 (500000000 / f) with hf | hf
  · exact Int.toNat_le_toNat (Int.floor_mono (mul_le_mul_of_nonneg_right (Nat.cast_le.2 h) hf))
  · have hneg : ((j : Rat) * (500000000 / f)).floor ≤ 0 :=
      Int.floor_nonpos (mul_nonpos_of_nonneg_of_nonpos (Nat.cast_nonneg j) hf.le)
    rw [Int.toNat_of_nonpos hneg]
    exact Nat.zero_le _

/-- The edge-update instant of an extreme is not before it. -/
theorem edgeAfter_ge {v0 k t v : Nat} {f : Rat} {twice : Bool} (h : extremeIn v0 f t = some (k, v)) : t ≤ edgeAfter v0 f twice k := by
  have hv : t ≤ extremeAt v0 f k := by
    unfold extremeIn at h
    split at h
    · cases h
    · dsimp only at h
      split at h
      · next hw =>
        simp only [Option.some.injEq, Prod.mk.injEq] at h
        obtain ⟨rfl, -⟩ := h
        exact hw.1
      · cases h
  refine hv.trans (extremeAt_mono ?_)
  split <;> omega

section
variable {s : State} {x : Fin 4}

/-! ## An update at a valley -/

/-- The update that a valley `k` at `v` opens. -/
def State.auxUpd (s : State) (x : Fin 4) (k v : Nat) (wind : Vector Rat 4) : Upd :=
  { sample := v, edge := edgeAfter s.aux[x].valley s.snt[aux10 x].freq false k, started := false, posted := none, pos := 0
    spd := s.auxSpeedAt x s.tb, regs := s.regs, wind := wind }

/-- An update at a valley, opened. -/
def State.auxOpened (s : State) (x : Fin 4) (uv : BitVec 4) (u : Upd) : State :=
  (s.countRefresh (aux10 x) uv).modSnt (aux10 x) fun q => { q with upds := q.upds ++ [u] }

theorem auxUpdate_valley {a1 a2 b1 b2 : Rat} {uv : BitVec 4} {k v : Nat} (hrun : s.running = true) (hmoves : s.aux[x].state.watched = true)
    (hvalley : extremeIn s.aux[x].valley s.snt[aux10 x].freq s.tb = some (k, v)) (heven : k % 2 = 0)
    (hlater : ∀ u ∈ s.snt[aux10 x].upds, u.sample < s.tb) :
    s.auxUpdate x a1 a2 b1 b2 uv = (s.auxOpened x uv (s.auxUpd x k v #v[a1, a2, b1, b2])).auxBegin x := by
  have hdue : (s.running && s.aux[x].state.watched && k % 2 == 0 && s.snt[aux10 x].upds.all (fun u => decide (u.sample < s.tb))) = true := by
    rw [hrun, hmoves, heven, List.all_eq_true.2 fun u hu => decide_eq_true (hlater u hu)]
    rfl
  unfold State.auxUpdate
  simp only [hvalley]
  rw [if_neg (by rw [hdue]; decide)]
  rfl

/-- Whether the engine may start the update. -/
def State.updReady (s : State) (u : Upd) : Bool := !u.started && decide (s.tb ≤ u.edge)

/-- A busy engine lets the update wait. -/
theorem auxBegin_busy (h : s.snt[aux10 x].busy = true) : s.auxBegin x = s := by
  unfold State.auxBegin
  dsimp only
  split
  · rfl
  · rw [h]
    rfl

/-- The free engine starts the update whose turn it is. -/
theorem auxBegin_free {u : Upd} (hfind : s.snt[aux10 x].upds.find? s.updReady = some u) (hrun : s.running = true) (hfree : s.snt[aux10 x].busy = false) :
    s.auxBegin x = (s.modAux x fun a => { a with result := some (u.sample,
      (s.onRegs (fun _ => u.regs)).auxEngine x u.sample u.spd u.wind[0] u.wind[1] u.wind[2] u.wind[3]) }).modSnt (aux10 x) fun q =>
        { q with upds := modFirst s.updReady (fun u => { u with started := true }) q.upds } := by
  unfold State.auxBegin
  show (match s.snt[aux10 x].upds.find? s.updReady with | none => _ | some u => _) = _
  rw [hfind]
  dsimp only
  rw [hfree, hrun]
  rfl

theorem auxOpened_snt (uv : BitVec 4) (u : Upd) : (s.auxOpened x uv u).snt[aux10 x] = { s.snt[aux10 x] with upds := s.snt[aux10 x].upds ++ [u] } := by
  unfold State.auxOpened
  rw [State.modSnt_self]
  rfl

theorem auxOpened_other (uv : BitVec 4) (u : Upd) {b : Fin 10} (h : b ≠ aux10 x) : (s.auxOpened x uv u).snt[b] = s.snt[b] :=
  State.modSnt_other _ _ _ _ h

/-- What the engine makes of the winding voltages of an auxiliary axis. -/
theorem auxEngine_measures (s : State) (x : Fin 4) (at' : Nat) (n a1 a2 b1 b2 : Rat) :
    (s.auxLink x = false → (s.auxEngine x at' n a1 a2 b1 b2).iA = (senseIn a2 - senseIn a1) / (2 * s.regs.AUXn_RSENSE x) ∧
      (s.auxEngine x at' n a1 a2 b1 b2).iB = (senseIn b2 - senseIn b1) / (2 * s.regs.AUXn_RSENSE x)) ∧
    (s.auxLink x = true → (s.auxEngine x at' n a1 a2 b1 b2).iA = 0 ∧ (s.auxEngine x at' n a1 a2 b1 b2).iB = 0 ∧
      (s.auxEngine x at' n a1 a2 b1 b2).eA = 0 ∧ (s.auxEngine x at' n a1 a2 b1 b2).eB = 0) ∧
    (s.aux[x].check = none → s.aux[x].aim = none →
      (s.auxEngine x at' n a1 a2 b1 b2).pos = wrapPos (s.aux[x].eng.pos + s.auxRate x n * (1 / s.freqOf (aux10 x)))) := by
  unfold State.auxEngine
  refine ⟨fun h => ?_, fun h => ?_, fun hcheck haim => ?_⟩
  · simp only [h, Bool.false_eq_true, if_false, and_self]
  · simp only [h, if_true, and_self]
  · simp only [hcheck, haim, Option.isSome_none, Bool.false_eq_true, if_false]

theorem exec_auxUpdate {dt : Nat} {a1 a2 b1 b2 : Rat} {uv : BitVec 4} {k v : Nat} (hrun : s.running = true) (hmoves : s.aux[x].state.watched = true)
    (hvalley : extremeIn s.aux[x].valley s.snt[aux10 x].freq (s.tbAt dt) = some (k, v)) (heven : k % 2 = 0)
    (hlater : ∀ u ∈ s.snt[aux10 x].upds, u.sample < s.tbAt dt) :
    (s.snt[aux10 x].late = [] → (∀ u ∈ s.snt[aux10 x].upds, u.started = true ∧ u.posted.isSome = true) →
      ∃ t e, exec (.auxUpdate dt x a1 a2 b1 b2 uv) s = .next t ∧ t.aux = vset s.aux x (fun a => { a with result := some (v, e) }) ∧
        (s.auxLink x = false → e.iA = (senseIn a2 - senseIn a1) / (2 * s.regs.AUXn_RSENSE x) ∧ e.iB = (senseIn b2 - senseIn b1) / (2 * s.regs.AUXn_RSENSE x)) ∧
        (s.auxLink x = true → e.iA = 0 ∧ e.iB = 0 ∧ e.eA = 0 ∧ e.eB = 0) ∧
        (s.aux[x].check = none → s.aux[x].aim = none →
          e.pos = wrapPos (s.aux[x].eng.pos + s.auxRate x ((s.advance dt).auxSpeedAt x (s.tbAt dt)) * (1 / s.freqOf (aux10 x)))) ∧
        (∀ b, b ≠ aux10 x → t.snt[b] = s.snt[b])) ∧
    ((s.snt[aux10 x].late ≠ [] ∨ ∃ u ∈ s.snt[aux10 x].upds, u.started = true ∧ u.posted = none) →
      ∃ t u, exec (.auxUpdate dt x a1 a2 b1 b2 uv) s = .next t ∧ t.aux = s.aux ∧
        t.snt[aux10 x].upds = s.snt[aux10 x].upds ++ [u] ∧ u.started = false ∧ u.wind = #v[a1, a2, b1, b2]) := by
  have hop := auxUpdate_valley (s := s.advance dt) (x := x) (a1 := a1) (a2 := a2) (b1 := b1) (b2 := b2) (uv := uv) hrun hmoves hvalley heven hlater
  have hsnt := auxOpened_snt (s := s.advance dt) (x := x) uv ((s.advance dt).auxUpd x k v #v[a1, a2, b1, b2])
  have hother (b : Fin 10) (hb : b ≠ aux10 x) := auxOpened_other (s := s.advance dt) (x := x) uv ((s.advance dt).auxUpd x k v #v[a1, a2, b1, b2]) hb
  constructor
  · intro hlate hdone
    have hfree : ((s.advance dt).auxOpened x uv ((s.advance dt).auxUpd x k v #v[a1, a2, b1, b2])).snt[aux10 x].busy = false := by
      rw [hsnt, Sentinel.busy, show (s.advance dt).snt[aux10 x].late = [] from hlate]
      refine List.any_eq_false.2 fun u hu => ?_
      rcases List.mem_append.1 hu with hu | hu
      · obtain ⟨-, hposted⟩ := hdone u hu
        simp [Option.isSome_iff_ne_none.1 hposted]
      · rw [List.mem_singleton.1 hu]
        exact Bool.false_ne_true
    have hfind : ((s.advance dt).auxOpened x uv ((s.advance dt).auxUpd x k v #v[a1, a2, b1, b2])).snt[aux10 x].upds.find?
        ((s.advance dt).auxOpened x uv ((s.advance dt).auxUpd x k v #v[a1, a2, b1, b2])).updReady =
          some ((s.advance dt).auxUpd x k v #v[a1, a2, b1, b2]) := by
      rw [hsnt]
      refine List.find?_eq_some_iff_append.2 ⟨?_, (s.advance dt).snt[aux10 x].upds, [], rfl, fun u hu => ?_⟩
      · exact decide_eq_true (edgeAfter_ge hvalley)
      · obtain ⟨hstarted, -⟩ := hdone u hu
        rw [State.updReady, hstarted]
        rfl
    refine ⟨_, _, exec_next_of rfl (hop.trans (auxBegin_free hfind (by exact hrun) hfree)), rfl, ?_⟩
    obtain ⟨hdirect, hlink, hpos⟩ := auxEngine_measures (((s.advance dt).auxOpened x uv ((s.advance dt).auxUpd x k v #v[a1, a2, b1, b2])).onRegs
      (fun _ => ((s.advance dt).auxUpd x k v #v[a1, a2, b1, b2]).regs)) x v ((s.advance dt).auxSpeedAt x (s.tbAt dt)) a1 a2 b1 b2
    refine ⟨hdirect, hlink, fun hcheck haim => (hpos hcheck haim).trans ?_, fun b hb => (State.modSnt_other _ _ _ _ hb).trans (hother b hb)⟩
    unfold State.freqOf
    rw [State.onRegs_snt, hsnt]
    rfl
  · intro hbusy
    have hbusy' : ((s.advance dt).auxOpened x uv ((s.advance dt).auxUpd x k v #v[a1, a2, b1, b2])).snt[aux10 x].busy = true := by
      rw [hsnt]
      rcases hbusy with hlate | ⟨u, hu, hstarted, hposted⟩
      · refine Bool.or_eq_true_iff.2 (.inl ?_)
        simpa using hlate
      · refine Bool.or_eq_true_iff.2 (.inr (List.any_eq_true.2 ⟨u, List.mem_append_left _ hu, ?_⟩))
        rw [hstarted, hposted]
        rfl
    exact ⟨_, _, exec_next_of rfl (hop.trans (auxBegin_busy hbusy')), rfl, congrArg Sentinel.upds hsnt, rfl, rfl⟩

/-! ## Arrival and homing -/

theorem auxMoveDone_arrived {aim : Rat} (haim : s.aux[x].aim = some aim) (hpos : s.aux[x].eng.pos = aim) (hstate : s.aux[x].state = .run)
    (hnew : s.aux[x].arrived = false) : s.auxMoveDone x = s.modAux x fun a => { a with
      arrived := true, n0 := 0, n1 := 0, nNext := 0, zeroAt := some s.tb } := by
  unfold State.auxMoveDone
  simp only [hstate, haim, hpos, hnew, beq_self_eq_true]
  rfl

theorem auxMoveDone_limitStop (hstate : s.aux[x].state = .homing) (hhome : s.aux[x].home = .limitStop) (h0 : s.aux[x].n0 = 0) (h1 : s.aux[x].n1 = 0) :
    s.auxMoveDone x = if s.aux[x].tries = 2 then s.homeFail x 1 s.aux[x].homeAt
      else s.homeAway x .awayLimit ((s.aux[x].p : Rat) + -(s.homeDir x) * ((s.regs.AUXn_HOME_LBACK x).toNat : Rat)) := by
  unfold State.auxMoveDone
  simp only [hstate, hhome, h0, h1, beq_self_eq_true]
  rfl

theorem auxMoveDone_awayStall (hstate : s.aux[x].state = .homing) (hhome : s.aux[x].home = .awayStall) (hpos : s.aux[x].eng.pos = s.aux[x].homeTo) :
    s.auxMoveDone x = s.homeDone x true := by
  have haim : s.aux[x].aim = some s.aux[x].homeTo := by
    unfold AuxAx.aim
    rw [hstate, hhome]
  unfold State.auxMoveDone
  simp only [hstate, hhome, haim, hpos, beq_self_eq_true, if_true]

theorem auxMoveDone_approach (hstate : s.aux[x].state = .homing) (hhome : s.aux[x].home = .approach)
    (hfar : ((s.regs.AUXn_HOME_MAX x).toNat : Rat) ≤ absR (s.aux[x].eng.odo - s.aux[x].homeFrom)) : s.auxMoveDone x = s.homeFail x 3 s.tb := by
  unfold State.auxMoveDone
  simp only [hstate, hhome]
  exact if_pos hfar

/-- A homing that fails: HALT with the position lost, and its record. -/
theorem homeFail_leaves (s : State) (x : Fin 4) (cause at' : Nat) :
    (s.homeFail x cause at').aux[x].state = .halt ∧ (s.homeFail x cause at').aux[x].haltReason = 0x0C05 ∧
    (s.homeFail x cause at').aux[x].valid = false ∧ ∀ y, y ≠ x → (s.homeFail x cause at').aux[y] = s.aux[y] := by
  obtain ⟨hstate, hreason, hothers⟩ := State.auxHalt_aux (s.auxLost x) x 0x0C05
  unfold State.homeFail
  dsimp only
  rw [State.event_aux, State.auxLost, State.modAux_self]
  refine ⟨hstate, hreason, rfl, fun y hy => ?_⟩
  rw [State.modAux_other _ _ _ _ hy, hothers y hy, State.auxLost, State.modAux_other _ _ _ _ hy]

/-- An EVENT record joins what has been written, where the record types enabled are still those. -/
theorem Wrote.event_sel {s t : State} {l : List Shown} {time unit code detail value flags : Nat} (h : Wrote s t l) (hr : t.pwr.phase = .running)
    (hsel : t.regs.get Reg.DEV_REC_SEL = s.regs.get Reg.DEV_REC_SEL) :
    Wrote s (t.event time unit code detail value flags) (l ++ [evtOf time unit code detail value]) := by
  unfold Wrote at *
  unfold State.event
  rw [State.emit_shown _ _ _ _ _ _ hr, h, hsel, List.filter_append, List.append_assoc]
  rfl

/-- HALT of an auxiliary axis writes its command word alone. -/
theorem auxHalt_sel (s : State) (x : Fin 4) (r : Nat) : (s.auxHalt x r).regs.get Reg.DEV_REC_SEL = s.regs.get Reg.DEV_REC_SEL := by
  have hne : ∀ x : Fin 4, Reg.AUXn_CMD x ≠ Reg.DEV_REC_SEL := by decide
  have hcommand (u : State) : (u.auxResetCommand x).regs = u.regs.set (Reg.AUXn_CMD x) 0 := by rw [State.auxResetCommand]; rfl
  have F : Frame [.snt, .gd, .aux] s (((s.auxDown x .halt).modAux x fun a => { a with haltReason := r }).modGd (aux10 x) fun g => { g with testPassed := false }) :=
    Frame.next (Frame.modGd ..) (by decide) (Frame.next (Frame.modAux ..) (by decide) (Frame.next (Frame.auxDown ..) (by decide) (Frame.refl ..)))
  rw [State.auxHalt, hcommand, F.keep .regs (by decide), Regs.get_set_ne (hne x)]

theorem auxHalt_energised (s : State) (x : Fin 4) (r : Nat) : (s.auxHalt x r).aux[x].energised = false := by
  unfold State.auxHalt State.auxResetCommand State.auxDown State.modGd
  simp only [State.modAux_self, State.onRegs_aux, State.onGd_aux]

theorem homeFail_wrote {cause at' : Nat} (hphase : s.pwr.phase = .running) :
    Wrote s (s.homeFail x cause at') [evtOf at' (Unit.aux x) 0x0C05 cause s.aux[x].pBits] := by
  have F : Frame [.regs, .snt, .gd, .aux] s (((s.auxLost x).auxHalt x 0x0C05).auxLost x) :=
    Frame.next (Frame.auxLost ..) (by decide) (Frame.next (Frame.auxHalt ..) (by decide) (Frame.next (Frame.auxLost ..) (by decide) (Frame.refl ..)))
  have hsel : (((s.auxLost x).auxHalt x 0x0C05).auxLost x).regs.get Reg.DEV_REC_SEL = s.regs.get Reg.DEV_REC_SEL := auxHalt_sel (s.auxLost x) x 0x0C05
  exact (Wrote.none s _ (congrArg RecSt.outbox (F.keep .recs (by decide)))).event_sel (by rw [F.keep .pwr (by decide)]; exact hphase) hsel

/-- Homing that is done: RUN at the home position. -/
theorem homeDone_leaves (s : State) (x : Fin 4) : (s.homeDone x true).aux[x].state = .run ∧ (s.homeDone x true).aux[x].valid = true ∧
    (s.homeDone x true).aux[x].homed = true ∧ (s.homeDone x true).aux[x].eng.pos = ((s.regs.get (Reg.AUXn_HOME_OFFS x)).toInt : Rat) ∧
    ∀ y, y ≠ x → (s.homeDone x true).aux[y] = s.aux[y] := by
  unfold State.homeDone
  extract_lets offs before tries u w
  rw [State.event_aux, State.modAux_self]
  have hu : u = s.auxSetPos x offs := rfl
  refine ⟨rfl, rfl, rfl, ?_, fun y hy => ?_⟩
  · show w.aux[x].eng.pos = _
    have hw : w.aux = u.aux := rfl
    rw [hw, hu, State.auxSetPos, State.modAux_self]
  · rw [State.modAux_other _ _ _ _ hy]
    exact State.modAux_other _ _ _ _ hy

/-! ## Stall -/

/-- The note of a stall: its time begins anew. -/
def State.stallNoted (s : State) (x : Fin 4) : State :=
  s.modAux x fun a => { a with still := false, eng := { a.eng with ts := 0 }, result := a.result.map (fun q => (q.1, { q.2 with ts := 0 })) }

theorem modAux_modAux (s : State) (x : Fin 4) (f g : AuxAx → AuxAx) : (s.modAux x f).modAux x g = s.modAux x fun a => g (f a) := by
  simp only [State.modAux, State.onAux, vset_vset]

theorem auxStall_due (hcfg : s.regs.AUXn_STALL_CFG x = true) (hdirect : s.auxLink x = false) (hmoves : s.aux[x].state.watched = true)
    (htime : s.regs.AUXn_STALL_T x ≤ s.aux[x].eng.ts) (hpos : 0 < s.aux[x].eng.ts) :
    (s.aux[x].state ≠ .homing → s.auxStall x = (((s.stallNoted x).auxHalt x 0x0C01).auxLost x).event s.aux[x].eng.at' (Unit.aux x) 0x0C01
      (b2n s.aux[x].eng.sAngle + 2 * b2n s.aux[x].eng.sWeak + s.aux[x].state.code * 256) s.aux[x].pBits) ∧
    (s.aux[x].state = .homing → s.aux[x].home = .approach → s.auxStall x = ((s.stallNoted x).modAux x fun a => { a with
      homeAt := a.eng.at', stall0 := a.n0, stall1 := a.n1, n0 := 0, n1 := 0, nNext := 0 }).homeAway x .awayStall
        ((s.aux[x].eng.tsPos.floor : Rat) - s.homeDir x * ((s.regs.AUXn_HOME_BACK x).toNat : Rat))) := by
  have hdue : (s.regs.AUXn_STALL_CFG x && !s.auxLink x && s.aux[x].state.watched && decide (s.regs.AUXn_STALL_T x ≤ s.aux[x].eng.ts)
      && decide (0 < s.aux[x].eng.ts)) = true := by
    rw [hcfg, hdirect, hmoves, decide_eq_true htime, decide_eq_true hpos]
    rfl
  unfold State.auxStall
  dsimp only
  rw [if_neg (by rw [hdue]; decide)]
  refine ⟨fun hstate => ?_, fun hstate hhome => ?_⟩
  · split
    · exact absurd ‹_› hstate
    · exact absurd ‹_› hstate
    · exact absurd ‹_› hstate
    · exact absurd ‹_› hstate
    · rfl
  · simp only [hstate, hhome]
    rfl

/-- A stall outside homing: HALT, the position lost, no current. -/
theorem stallHalt_leaves (s : State) (x : Fin 4) (r time unit code detail value : Nat) :
    ((((s.stallNoted x).auxHalt x r).auxLost x).event time unit code detail value).aux[x].state = .halt ∧
    ((((s.stallNoted x).auxHalt x r).auxLost x).event time unit code detail value).aux[x].haltReason = r ∧
    ((((s.stallNoted x).auxHalt x r).auxLost x).event time unit code detail value).aux[x].valid = false ∧
    ((((s.stallNoted x).auxHalt x r).auxLost x).event time unit code detail value).aux[x].energised = false ∧
    ∀ y, y ≠ x → ((((s.stallNoted x).auxHalt x r).auxLost x).event time unit code detail value).aux[y] = s.aux[y] := by
  obtain ⟨hstate, hreason, hothers⟩ := State.auxHalt_aux (s.stallNoted x) x r
  have hoff := auxHalt_energised (s.stallNoted x) x r
  rw [State.event_aux, State.auxLost, State.modAux_self]
  refine ⟨hstate, hreason, rfl, hoff, fun y hy => ?_⟩
  rw [State.modAux_other _ _ _ _ hy, hothers y hy, State.stallNoted, State.modAux_other _ _ _ _ hy]

/-! ## Standstill, hold current, the start check -/

theorem auxHoldCurrent_due {since : Nat} (hon : s.aux[x].energised = true) (hzero : s.aux[x].zeroAt = some since) (hfall : s.aux[x].fallAt = none)
    (htime : since + nsOf (s.regs.AUXn_HOLD_DLY x) ≤ s.tb) : s.auxHoldCurrent x = s.modAux x fun a => { a with fallAt := some s.tb } := by
  unfold State.auxHoldCurrent
  simp only [hzero]
  exact if_pos ⟨hon, hfall, htime⟩

theorem auxSettled_due {since : Nat} (hon : s.aux[x].energised = true) (hzero : s.aux[x].zeroAt = some since)
    (htime : since + nsOf (s.regs.AUXn_KEEP_SETTLE x) ≤ s.tb) : s.auxSettled x = true := by
  unfold State.auxSettled
  simp only [hon, hzero, decide_eq_true htime]
  rfl

theorem auxStopEnd_due (hsettled : s.auxSettled x = true) (hstate : s.aux[x].state = .stop)
    (htime : s.aux[x].stopAt + nsOf (s.regs.AUXn_KEEP_SETTLE x) ≤ s.tb) :
    (s.aux[x].stopKind = .command ∨ s.aux[x].stopKind = .brake → s.auxStopEnd x = (s.modAux x fun a => { a with still := true }).auxDown x .ready) ∧
    ∀ r l, s.aux[x].stopKind = .fault r l → s.auxStopEnd x = (s.modAux x fun a => { a with still := true }).auxHalt x r := by
  unfold State.auxStopEnd
  dsimp only
  rw [if_pos ⟨hstate, hsettled, htime⟩]
  refine ⟨fun h => ?_, fun r l h => ?_⟩
  · rcases h with h | h <;> rw [h]
  · rw [h]

/-- A commanded stop that ends: READY without current, and the position as it was. -/
theorem auxDown_ready (s : State) (x : Fin 4) (hhome : s.aux[x].home = .none) :
    ((s.modAux x fun a => { a with still := true }).auxDown x .ready).aux[x].state = .ready ∧
    ((s.modAux x fun a => { a with still := true }).auxDown x .ready).aux[x].energised = false ∧
    ((s.modAux x fun a => { a with still := true }).auxDown x .ready).aux[x].valid = s.aux[x].valid ∧
    ∀ y, y ≠ x → ((s.modAux x fun a => { a with still := true }).auxDown x .ready).aux[y] = s.aux[y] := by
  have haux : ((s.modAux x fun a => { a with still := true }).epuStop (aux10 x)).aux = (s.modAux x fun a => { a with still := true }).aux :=
    (Frame.epuStop ..).keep .aux (by decide)
  unfold State.auxDown
  rw [State.modAux_self, haux, State.modAux_self]
  refine ⟨rfl, rfl, ?_, fun y hy => ?_⟩
  · dsimp only
    rw [hhome]
    exact Bool.and_true _
  · rw [State.modAux_other _ _ _ _ hy, haux, State.modAux_other _ _ _ _ hy]

theorem auxCheckEnd_quiet {until' : Nat} (hcheck : s.aux[x].check = some until') (hquiet : s.aux[x].eng.checkBad = none) (htime : until' ≤ s.tb) :
    s.auxCheckEnd x = s.modAux x fun a => { a with check := none } := by
  unfold State.auxCheckEnd
  simp only [hcheck, hquiet]
  exact if_pos htime

/-- The axis of a start check that has seen motion: no check, no position, no command. -/
def State.checkFailed (s : State) (x : Fin 4) : State :=
  ((s.modAux x fun a => { a with check := none, eng := { a.eng with checkBad := none } }).auxLost x).auxResetCommand x

theorem auxCheckEnd_moved {until' at' : Nat} (hcheck : s.aux[x].check = some until') (hmoved : s.aux[x].eng.checkBad = some at') :
    s.auxCheckEnd x = ((s.checkFailed x).auxStop x .command).event at' (Unit.aux x) 0x0C07 5 s.aux[x].pBits := by
  unfold State.auxCheckEnd
  simp only [hcheck, hmoved]
  rfl

theorem checkFailed_axis (s : State) (x : Fin 4) : (s.checkFailed x).aux[x].state = s.aux[x].state ∧ (s.checkFailed x).aux[x].valid = false ∧
    (s.checkFailed x).aux[x].check = none := by
  unfold State.checkFailed State.auxResetCommand State.auxLost
  rw [State.modAux_self, State.onRegs_aux, State.modAux_self, State.modAux_self]
  exact ⟨rfl, rfl, rfl⟩

/-- A stop that is ordered of an axis in RUN. -/
theorem auxStop_run {k : StopKind} (hstate : s.aux[x].state = .run) :
    (s.auxStop x k).aux[x].state = .stop ∧ (s.auxStop x k).aux[x].stopKind = k ∧ (s.auxStop x k).aux[x].check = none ∧
    (s.aux[x].valid = false → (s.auxStop x k).aux[x].valid = false) ∧ ∀ y, y ≠ x → (s.auxStop x k).aux[y] = s.aux[y] := by
  unfold State.auxStop
  extract_lets a keep u
  have hkeep : keep = k := by
    unfold keep a
    rw [hstate]
    rfl
  have hu : (s.aux[x].valid = false → u.aux[x].valid = false) ∧ ∀ y, y ≠ x → u.aux[y] = s.aux[y] := by
    unfold u
    split
    · exact ⟨id, fun _ _ => rfl⟩
    · unfold State.auxLost
      refine ⟨fun _ => by rw [State.modAux_self], fun y hy => ?_⟩
      rw [State.modAux_other _ _ _ _ hy, State.modAux_other _ _ _ _ hy]
  clear_value u
  rw [show a.state = .run from hstate]
  dsimp only
  rw [State.modAux_self, hkeep]
  refine ⟨rfl, rfl, rfl, hu.1, fun y hy => ?_⟩
  rw [State.modAux_other _ _ _ _ hy, hu.2 y hy]

theorem exec_startCheckEnd_moved {dt until' at' : Nat} (hrun : s.running = true) (hcheck : s.aux[x].check = some until')
    (hmoved : s.aux[x].eng.checkBad = some at') (hstate : s.aux[x].state = .run) (hwf : s.regs.wf = true) :
    ∃ t, exec (.startCheckEnd dt x) s = .next t ∧ t.aux[x].state = .stop ∧ t.aux[x].stopKind = .command ∧ t.aux[x].check = none ∧
      t.aux[x].valid = false ∧ t.regs.get (Reg.AUXn_CMD x) = 0 := by
  obtain ⟨hrunning, hlost, -⟩ := checkFailed_axis (s.advance dt) x
  obtain ⟨hstop, hkind, hnone, hvalid, -⟩ := auxStop_run (s := (s.advance dt).checkFailed x) (k := .command) (hrunning.trans hstate)
  have hcmd : ((s.advance dt).checkFailed x).regs.get (Reg.AUXn_CMD x) = 0 := (Regs.get_set _ _ _ _ hwf).trans (if_pos rfl)
  refine ⟨_, exec_next_of rfl ((if_pos (by exact hrun)).trans (auxCheckEnd_moved (s := s.advance dt) hcheck hmoved)), ?_⟩
  rw [State.settle_aux, State.event_aux, State.settle_regs, State.event_regs, (Frame.auxStop ..).keep .regs (by decide)]
  exact ⟨hstop, hkind, hnone, hvalid hlost, hcmd⟩

/-- Settles O31: each command by what its operation leaves of the axis. -/
theorem auxMotion : Obligations.AuxMotion := by
  unfold Obligations.AuxMotion
  intro s dt x hrun
  have hif {u v : State} : (if (s.advance dt).running = true then u else v) = u := if_pos (by exact hrun)
  refine ⟨fun a1 a2 b1 b2 uv k v hmoves hvalley heven hlater => exec_auxUpdate hrun hmoves hvalley heven hlater,
    fun aim haim hpos hstate hnew => ⟨_, exec_next_of rfl (hif.trans (auxMoveDone_arrived (s := s.advance dt) haim hpos hstate hnew)), rfl⟩,
    fun hstate hhome h0 h1 htries => ?_,
    fun hstate hhome h0 h1 htries => ⟨_, exec_next_of rfl (hif.trans ((auxMoveDone_limitStop (s := s.advance dt) hstate hhome h0 h1).trans
      (if_neg (by exact htries)))), rfl⟩,
    fun hstate hhome hpos => ⟨_, exec_next_of rfl (hif.trans (auxMoveDone_awayStall (s := s.advance dt) hstate hhome hpos)),
      homeDone_leaves (s.advance dt) x⟩,
    fun hstate hhome hfar => ⟨_, exec_next_of rfl (hif.trans (auxMoveDone_approach (s := s.advance dt) hstate hhome hfar)),
      homeFail_leaves (s.advance dt) x 3 _⟩,
    fun hcfg hdirect htime hpos => ⟨fun hmoves => ?_, fun hstate hhome => ?_⟩, fun since hon hzero => ⟨fun hfall htime => ?_, fun htime => ?_⟩,
    fun until' hcheck => ⟨fun hquiet htime => ⟨_, exec_next_of rfl (hif.trans (auxCheckEnd_quiet (s := s.advance dt) hcheck hquiet htime)), rfl⟩,
      fun at' hmoved hstate hwf => exec_startCheckEnd_moved hrun hcheck hmoved hstate hwf⟩⟩
  · obtain ⟨hhalt, hreason, hvalid, -⟩ := homeFail_leaves (s.advance dt) x 1 (s.advance dt).aux[x].homeAt
    refine ⟨_, exec_next_of rfl (hif.trans ((auxMoveDone_limitStop (s := s.advance dt) hstate hhome h0 h1).trans (if_pos (by exact htries)))), hhalt,
      hreason, hvalid, ?_⟩
    have hwrote := homeFail_wrote (s := s.advance dt) (x := x) (cause := 1) (at' := s.aux[x].homeAt) (run_phase hrun)
    exact hwrote
  · have hwatched : s.aux[x].state.watched = true := by rcases hmoves with h | h <;> rw [h] <;> rfl
    have hnot : s.aux[x].state ≠ .homing := by rcases hmoves with h | h <;> rw [h] <;> decide
    obtain ⟨hop, -⟩ := auxStall_due (s := s.advance dt) (x := x) hcfg hdirect hwatched htime hpos
    exact ⟨_, exec_next_of rfl (hif.trans (hop hnot)), stallHalt_leaves (s.advance dt) x 0x0C01 _ _ _ _ _⟩
  · obtain ⟨-, hop⟩ := auxStall_due (s := s.advance dt) (x := x) hcfg hdirect (by rw [show (s.advance dt).aux[x].state = .homing from hstate]; rfl) htime hpos
    refine ⟨_, exec_next_of rfl (hif.trans (hop hstate hhome)), ?_⟩
    unfold State.stallNoted State.homeAway
    rw [modAux_modAux, modAux_modAux]
    rfl
  · exact ⟨_, exec_next_of rfl (hif.trans (auxHoldCurrent_due (s := s.advance dt) hon hzero hfall htime)), rfl⟩
  · have hsettled := auxSettled_due (s := s.advance dt) hon hzero htime
    refine ⟨⟨_, exec_next_of rfl (hif.trans (if_pos hsettled)), rfl⟩, fun hlong hstate hkind hhome => ?_, fun r l hlong hstate hkind => ?_⟩
    · exact ⟨_, exec_next_of rfl (hif.trans ((auxStopEnd_due (s := s.advance dt) hsettled hstate hlong).1 hkind)), auxDown_ready (s.advance dt) x hhome⟩
    · obtain ⟨hhalt, hreason, hothers⟩ := State.auxHalt_aux ((s.advance dt).modAux x fun a => { a with still := true }) x r
      refine ⟨_, exec_next_of rfl (hif.trans ((auxStopEnd_due (s := s.advance dt) hsettled hstate hlong).2 r l hkind)), hhalt, hreason,
        auxHalt_energised _ x r, fun y hy => ?_⟩
      exact (hothers y hy).trans (State.modAux_other _ _ _ _ hy)

end

end Sys2Proof.Machine
end

section
/-! PROOF. Limit inputs of an auxiliary axis (R306 to R316): a trip, both at once, a trip in homing, and chatter. -/
set_option Elab.async false

namespace Sys2Proof.Machine

/-- An axis whose limit input is `l`. -/
def AuxAx.withLim (a : AuxAx) (p : Bool) (l : LimSt) : AuxAx := if p then { a with posi := l } else { a with neg := l }

/-- A limit input after an edge to `v`, `raw` the instant of the unfiltered edge. -/
def LimSt.edged (l : LimSt) (v : Bool) (now raw : Nat) : LimSt :=
  { l with tripped := v, since := now, changes := l.changes.filter (fun t => decide (raw < t + 100000000)) ++ [raw] }

section
variable {s : State} {x : Fin 4} {p : Bool}

theorem modLim_withLim (s : State) (x : Fin 4) (p : Bool) (f : LimSt → LimSt) : s.modLim x p f = s.modAux x fun a => a.withLim p (f (a.lim p)) := by
  cases p <;> rfl

theorem withLim_lim (a : AuxAx) (p : Bool) (l : LimSt) : (a.withLim p l).lim p = l ∧ (a.withLim p l).lim (!p) = a.lim (!p) := by
  cases p <;> exact ⟨rfl, rfl⟩

theorem withLim_rest (a : AuxAx) (p : Bool) (l : LimSt) : (a.withLim p l).state = a.state ∧ (a.withLim p l).home = a.home := by
  cases p <;> exact ⟨rfl, rfl⟩

/-- The instant of the unfiltered edge. -/
def State.limRaw (s : State) (x : Fin 4) : Nat := s.tb - s.regs.AUXn_LIM_CFG_FILT x * 100000

/-- A limit input after an edge. -/
def State.limEdged (s : State) (x : Fin 4) (p v : Bool) : State := s.modAux x fun a => a.withLim p ((a.lim p).edged v s.tb (s.limRaw x))

/-- Whether the axis moves toward the limit, or moves away from a stall there. -/
def State.limToward (s : State) (x : Fin 4) (p : Bool) : Bool :=
  (if p then decide (0 < s.aux[x].n1) || decide (0 < s.aux[x].n0) else decide (s.aux[x].n1 < 0) || decide (s.aux[x].n0 < 0))
    || (s.regs.AUXn_HOME_CFG x == p && s.aux[x].stalled)

/-- The record of a trip, where the axis moves toward the limit. -/
def State.tripNoted (s u : State) (x : Fin 4) (p : Bool) : State :=
  if s.aux[x].state.watched && s.limToward x p then
    u.event (s.limRaw x) (Unit.aux x) 0x0C02 (b2n p + 256 * b2n (s.aux[x].state == .homing)) s.aux[x].pBits
  else u

/-- What a trip means for homing. -/
def State.tripHoming (s u w : State) (x : Fin 4) (p : Bool) : State :=
  if s.aux[x].state == .homing && !(s.regs.AUXn_HOME_CFG x == p && !(u.aux[x].lim p).inhibit && decide (8 < (u.aux[x].lim p).count)) then
    w.homeLimit x (s.regs.AUXn_HOME_CFG x == p) (s.limRaw x)
  else w

/-- Both limits tripped: a stop, or HALT from READY. -/
def State.tripBoth (s : State) (x : Fin 4) : State :=
  if s.limBoth x then
    let st := s.aux[x].state
    let s := match st with
      | .ready => s.auxHalt x 0x0C06
      | _ => s.auxStop x (.fault 0x0C06 false)
    if st.watched || st == .ready then s.event s.tb (Unit.aux x) 0x0C06 0 s.aux[x].pBits else s
  else s

theorem limitChange_inactive (hrun : s.running = true) (halloc : s.auxAlloc x = true) (hen : s.limEn x p = true) (hwas : (s.aux[x].lim p).tripped = true) :
    s.limitChange x p (!s.limPol x p) = s.limEdged x p false := by
  have hlevel : ((!s.limPol x p) == s.limPol x p) = false := by cases s.limPol x p <;> rfl
  unfold State.limitChange
  dsimp only
  rw [hlevel, if_neg (by rw [hrun, halloc, hen, hwas]; decide), if_pos (by rfl), modLim_withLim]
  rfl

theorem limitChange_active (hrun : s.running = true) (halloc : s.auxAlloc x = true) (hen : s.limEn x p = true) (hwas : (s.aux[x].lim p).tripped = false) :
    s.limitChange x p (s.limPol x p) = (s.tripHoming (s.limEdged x p true) (s.tripNoted (s.limEdged x p true) x p) x p).tripBoth x := by
  unfold State.limitChange
  dsimp only
  rw [beq_self_eq_true, if_neg (by rw [hrun, halloc, hen, hwas]; decide), if_neg (by decide), modLim_withLim]
  rfl

/-! ## What becomes of the parts -/

theorem tripNoted_aux (s u : State) (x : Fin 4) (p : Bool) : (s.tripNoted u x p).aux = u.aux := by
  unfold State.tripNoted
  split
  · exact State.event_aux ..
  · rfl

theorem Frame.tripNoted (s u : State) (x : Fin 4) (p : Bool) : Frame [.recs] u (s.tripNoted u x p) := Frame.ite (Frame.event ..) (Frame.refl ..)

theorem limEdged_axis (s : State) (x : Fin 4) (p v : Bool) : (s.limEdged x p v).aux[x] = s.aux[x].withLim p ((s.aux[x].lim p).edged v s.tb (s.limRaw x)) :=
  State.modAux_self ..

theorem limEn_congr {t : State} (h : t.regs = s.regs) (x : Fin 4) (p : Bool) : t.limEn x p = s.limEn x p := by
  unfold State.limEn
  rw [h]

theorem limBoth_iff (s : State) (x : Fin 4) (p : Bool) : s.limBoth x = true ↔
    (s.limEn x p = true ∧ s.limEn x (!p) = true) ∧ (s.aux[x].lim p).tripped = true ∧ (s.aux[x].lim (!p)).tripped = true := by
  unfold State.limBoth AuxAx.lim
  cases p <;> simp <;> tauto

theorem tripHoming_not {u w : State} (h : s.aux[x].state ≠ .homing) : s.tripHoming u w x p = w := by
  unfold State.tripHoming
  rw [if_neg]
  rw [beq_eq_false_iff_ne.2 h]
  exact Bool.false_ne_true

theorem tripBoth_one (h : s.limBoth x = false) : s.tripBoth x = s := if_neg (by rw [h]; decide)

/-- After a trip the two limits are tripped at once where the other one is tripped and enabled too. -/
theorem limBoth_edged {u : State} (haux : u.aux[x].lim p = (s.aux[x].lim p).edged true s.tb (s.limRaw x)) (hother : u.aux[x].lim (!p) = s.aux[x].lim (!p))
    (hregs : u.regs = s.regs) (hen : s.limEn x p = true) : u.limBoth x = ((s.aux[x].lim (!p)).tripped && s.limEn x (!p)) := by
  refine Bool.eq_iff_iff.2 ?_
  rw [limBoth_iff u x p, haux, hother, limEn_congr hregs, limEn_congr hregs, hen, Bool.and_eq_true]
  simp only [LimSt.edged]
  tauto

theorem limBoth_tripNoted (hen : s.limEn x p = true) :
    (s.tripNoted (s.limEdged x p true) x p).limBoth x = ((s.aux[x].lim (!p)).tripped && s.limEn x (!p)) := by
  have hax : (s.tripNoted (s.limEdged x p true) x p).aux[x] = _ := (congrArg (·[x]) (tripNoted_aux ..)).trans (limEdged_axis s x p true)
  have hregs : (s.tripNoted (s.limEdged x p true) x p).regs = s.regs := (Frame.tripNoted s (s.limEdged x p true) x p).keep .regs (by decide)
  exact limBoth_edged (by rw [hax, (withLim_lim ..).1]) (by rw [hax, (withLim_lim ..).2]) hregs hen

theorem limToward_iff (h : s.aux[x].state ≠ .homing) : s.limToward x p = true ↔
    if p then 0 < s.aux[x].n1 ∨ 0 < s.aux[x].n0 else s.aux[x].n1 < 0 ∨ s.aux[x].n0 < 0 := by
  have hstalled : s.aux[x].stalled = false := by
    unfold AuxAx.stalled
    rw [beq_eq_false_iff_ne.2 h]
    rfl
  unfold State.limToward
  rw [hstalled, Bool.and_false, Bool.or_false]
  cases p <;> simp

/-- A trip outside homing that is not the second of two: its mark, and its record. -/
theorem limitChange_alone (hrun : s.running = true) (halloc : s.auxAlloc x = true) (hen : s.limEn x p = true) (hwas : (s.aux[x].lim p).tripped = false)
    (hother : (s.aux[x].lim (!p)).tripped = false ∨ s.limEn x (!p) = false) (hstate : s.aux[x].state ≠ .homing) :
    s.limitChange x p (s.limPol x p) = s.tripNoted (s.limEdged x p true) x p := by
  have hboth : (s.tripNoted (s.limEdged x p true) x p).limBoth x = false := by
    rw [limBoth_tripNoted hen]
    rcases hother with h | h <;> rw [h]
    · rfl
    · exact Bool.and_false _
  rw [limitChange_active hrun halloc hen hwas, tripHoming_not hstate, tripBoth_one hboth]

theorem exec_limitTrip_alone {dt : Nat} (hrun : s.running = true) (halloc : s.auxAlloc x = true) (hen : s.limEn x p = true)
    (hwas : (s.aux[x].lim p).tripped = false) (hother : (s.aux[x].lim (!p)).tripped = false ∨ s.limEn x (!p) = false)
    (hstate : s.aux[x].state ≠ .homing) : ∃ t, exec (.limitInputChange dt x p (s.limPol x p)) s = .next t ∧
      t.but s = { s.advance dt with
        aux := vset s.aux x (fun a => a.withLim p ((a.lim p).edged true (s.tbAt dt) (s.tbAt dt - s.regs.AUXn_LIM_CFG_FILT x * 100000))), recs := t.recs } ∧
      (s.aux[x].state.watched = true → (if p then 0 < s.aux[x].n1 ∨ 0 < s.aux[x].n0 else s.aux[x].n1 < 0 ∨ s.aux[x].n0 < 0) →
        Wrote s t [evtOf (s.tbAt dt - s.regs.AUXn_LIM_CFG_FILT x * 100000) (Unit.aux x) 0x0C02 (b2n p) s.aux[x].pBits]) ∧
      (s.aux[x].state.watched = false ∨ ¬ (if p then 0 < s.aux[x].n1 ∨ 0 < s.aux[x].n0 else s.aux[x].n1 < 0 ∨ s.aux[x].n0 < 0) → Wrote s t []) := by
  have hop := limitChange_alone (s := s.advance dt) hrun halloc hen hwas hother hstate
  have htoward := limToward_iff (s := s.advance dt) (x := x) (p := p) hstate
  refine ⟨_, exec_next_of rfl hop, (but_of_recs (Frame.tripNoted ..)).trans rfl, fun hmoves ht => ?_, fun hnot => ?_⟩
  · have hdue : ((s.advance dt).aux[x].state.watched && (s.advance dt).limToward x p) = true := Bool.and_eq_true_iff.2 ⟨hmoves, htoward.2 ht⟩
    have hplain : b2n p + 256 * b2n ((s.advance dt).aux[x].state == .homing) = b2n p := by
      rw [show ((s.advance dt).aux[x].state == .homing) = false from beq_eq_false_iff_ne.2 hstate]
      rfl
    unfold State.tripNoted
    rw [if_pos hdue, hplain]
    exact (Wrote.event_one (run_phase hrun)).settle
  · have hdue : ¬ ((s.advance dt).aux[x].state.watched && (s.advance dt).limToward x p) = true := by
      rw [Bool.and_eq_true_iff]
      rintro ⟨hmoves, ht⟩
      rcases hnot with h | h
      · exact Bool.false_ne_true (h.symm.trans hmoves)
      · exact h (htoward.1 ht)
    unfold State.tripNoted
    rw [if_neg hdue]
    exact Wrote.none _ _ rfl

/-- The second of two trips, outside homing: a stop, or HALT from READY. -/
theorem exec_limitTrip_both {dt : Nat} (hrun : s.running = true) (halloc : s.auxAlloc x = true) (hen : s.limEn x p = true)
    (hwas : (s.aux[x].lim p).tripped = false) (hother : (s.aux[x].lim (!p)).tripped = true) (hen' : s.limEn x (!p) = true) :
    (s.aux[x].state = .run → ∃ t, exec (.limitInputChange dt x p (s.limPol x p)) s = .next t ∧ t.aux[x].state = .stop ∧
      t.aux[x].stopKind = .fault 0x0C06 false ∧ (∀ y, y ≠ x → t.aux[y] = s.aux[y])) ∧
    (s.aux[x].state = .ready → ∃ t, exec (.limitInputChange dt x p (s.limPol x p)) s = .next t ∧ t.aux[x].state = .halt ∧
      t.aux[x].haltReason = 0x0C06 ∧ (∀ y, y ≠ x → t.aux[y] = s.aux[y])) := by
  have hop := limitChange_active (s := s.advance dt) hrun halloc hen hwas
  have haux := tripNoted_aux (s.advance dt) ((s.advance dt).limEdged x p true) x p
  have hax : ((s.advance dt).tripNoted ((s.advance dt).limEdged x p true) x p).aux[x] = _ :=
    (congrArg (·[x]) haux).trans (limEdged_axis (s.advance dt) x p true)
  have hothers (y : Fin 4) (hy : y ≠ x) : ((s.advance dt).tripNoted ((s.advance dt).limEdged x p true) x p).aux[y] = s.aux[y] :=
    (congrArg (·[y]) haux).trans (State.modAux_other _ _ _ _ hy)
  have hboth : ((s.advance dt).tripNoted ((s.advance dt).limEdged x p true) x p).limBoth x = true := by
    rw [limBoth_tripNoted (by exact hen)]
    exact Bool.and_eq_true_iff.2 ⟨hother, hen'⟩
  have hstate : ((s.advance dt).tripNoted ((s.advance dt).limEdged x p true) x p).aux[x].state = s.aux[x].state := by
    rw [hax, (withLim_rest ..).1]
    rfl
  have hidle (h : s.aux[x].state ≠ .homing) : (s.advance dt).tripHoming ((s.advance dt).limEdged x p true)
      ((s.advance dt).tripNoted ((s.advance dt).limEdged x p true) x p) x p = (s.advance dt).tripNoted ((s.advance dt).limEdged x p true) x p :=
    tripHoming_not h
  generalize (s.advance dt).tripNoted ((s.advance dt).limEdged x p true) x p = u at *
  constructor <;> intro h
  · obtain ⟨hstop, hkind, -, -, hrest⟩ := auxStop_run (s := u) (k := .fault 0x0C06 false) (hstate.trans h)
    have hend : u.tripBoth x = (u.auxStop x (.fault 0x0C06 false)).event (u.auxStop x (.fault 0x0C06 false)).tb (Unit.aux x) 0x0C06 0
        (u.auxStop x (.fault 0x0C06 false)).aux[x].pBits := by
      unfold State.tripBoth
      rw [if_pos hboth, hstate, h]
      rfl
    rw [hidle (by rw [h]; decide), hend] at hop
    refine ⟨_, exec_next_of rfl hop, ?_⟩
    rw [State.settle_aux, State.event_aux]
    exact ⟨hstop, hkind, fun y hy => (hrest y hy).trans (hothers y hy)⟩
  · obtain ⟨hhalt, hreason, hrest⟩ := State.auxHalt_aux u x 0x0C06
    have hend : u.tripBoth x = (u.auxHalt x 0x0C06).event (u.auxHalt x 0x0C06).tb (Unit.aux x) 0x0C06 0 (u.auxHalt x 0x0C06).aux[x].pBits := by
      unfold State.tripBoth
      rw [if_pos hboth, hstate, h]
      rfl
    rw [hidle (by rw [h]; decide), hend] at hop
    refine ⟨_, exec_next_of rfl hop, ?_⟩
    rw [State.settle_aux, State.event_aux]
    exact ⟨hhalt, hreason, fun y hy => (hrest y hy).trans (hothers y hy)⟩

/-! ## A trip in homing, and chatter -/

theorem edged_count (l : LimSt) (v : Bool) (now raw : Nat) :
    (l.edged v now raw).count = (l.changes.filter fun t => decide (raw < t + 100000000)).length + 1 := by
  have hlast : (l.edged v now raw).changes.getLastD 0 = raw := List.getLastD_concat ..
  unfold LimSt.count
  rw [hlast]
  simp [LimSt.edged, List.filter_append, List.filter_filter]

/-- In an approach a trip of the homing limit begins the stop at it. -/
theorem homeLimit_approach {raw : Nat} (hhome : s.aux[x].home = .approach) (hdirect : s.auxLink x = false) :
    s.homeLimit x true raw = s.modAux x fun a => { a with home := .limitStop, tries := a.tries + 1, homeAt := raw } := by
  have hstalled : s.aux[x].stalled = false := by
    unfold AuxAx.stalled
    rw [hhome, show (HomePhase.approach == HomePhase.awayStall) = false from rfl, Bool.and_false]
    rfl
  unfold State.homeLimit
  dsimp only
  rw [hstalled, Bool.and_false, hhome, hdirect]
  rfl

theorem limBoth_modAux {f : AuxAx → AuxAx} (hf : ∀ a, (f a).neg = a.neg ∧ (f a).posi = a.posi) : (s.modAux x f).limBoth x = s.limBoth x := by
  unfold State.limBoth
  rw [State.modAux_self, (hf _).1, (hf _).2]
  rfl

/-- A trip of the homing limit in an approach begins the stop there. -/
theorem exec_limitTrip_approach {dt : Nat} (hrun : s.running = true) (halloc : s.auxAlloc x = true) (hen : s.limEn x p = true)
    (hwas : (s.aux[x].lim p).tripped = false) (hother : (s.aux[x].lim (!p)).tripped = false) (hstate : s.aux[x].state = .homing)
    (hhome : s.aux[x].home = .approach) (hdirect : s.auxLink x = false) (hcfg : s.regs.AUXn_HOME_CFG x = p)
    (hfew : ((s.aux[x].lim p).changes.filter (fun t => decide (s.tbAt dt - s.regs.AUXn_LIM_CFG_FILT x * 100000 < t + 100000000))).length < 8) :
    ∃ t, exec (.limitInputChange dt x p (s.limPol x p)) s = .next t ∧ t.but s = { s.advance dt with
      aux := vset s.aux x (fun a => { a.withLim p ((a.lim p).edged true (s.tbAt dt) (s.tbAt dt - s.regs.AUXn_LIM_CFG_FILT x * 100000)) with
        home := .limitStop, tries := a.tries + 1, homeAt := s.tbAt dt - s.regs.AUXn_LIM_CFG_FILT x * 100000 }), recs := t.recs } := by
  have hop := limitChange_active (s := s.advance dt) hrun halloc hen hwas
  have haux := tripNoted_aux (s.advance dt) ((s.advance dt).limEdged x p true) x p
  have hax : ((s.advance dt).tripNoted ((s.advance dt).limEdged x p true) x p).aux[x] = _ :=
    (congrArg (·[x]) haux).trans (limEdged_axis (s.advance dt) x p true)
  have F := Frame.tripNoted (s.advance dt) ((s.advance dt).limEdged x p true) x p
  have hcount : (((s.advance dt).limEdged x p true).aux[x].lim p).count ≤ 8 := by
    rw [limEdged_axis, (withLim_lim ..).1, edged_count]
    exact hfew
  have hfirst : ((s.advance dt).tripNoted ((s.advance dt).limEdged x p true) x p).aux[x].home = .approach := by
    rw [hax, (withLim_rest ..).2]
    exact hhome
  have hlink : ((s.advance dt).tripNoted ((s.advance dt).limEdged x p true) x p).auxLink x = false := by
    have hregs : ((s.advance dt).tripNoted ((s.advance dt).limEdged x p true) x p).regs = s.regs := F.keep .regs (by decide)
    unfold State.auxLink
    rw [hregs]
    exact hdirect
  have hhoming : (s.advance dt).tripHoming ((s.advance dt).limEdged x p true) ((s.advance dt).tripNoted ((s.advance dt).limEdged x p true) x p) x p =
      ((s.advance dt).tripNoted ((s.advance dt).limEdged x p true) x p).modAux x fun a => { a with
        home := .limitStop, tries := a.tries + 1, homeAt := (s.advance dt).limRaw x } := by
    unfold State.tripHoming
    rw [decide_eq_false (not_lt.2 hcount), Bool.and_false, show (s.advance dt).aux[x].state = .homing from hstate,
      show (s.advance dt).regs.AUXn_HOME_CFG x = p from hcfg, beq_self_eq_true, beq_self_eq_true]
    exact homeLimit_approach hfirst hlink
  have hboth : (((s.advance dt).tripNoted ((s.advance dt).limEdged x p true) x p).modAux x fun a => { a with
      home := .limitStop, tries := a.tries + 1, homeAt := (s.advance dt).limRaw x }).limBoth x = false := by
    have hone := limBoth_tripNoted (s := s.advance dt) (x := x) (p := p) hen
    rw [show ((s.advance dt).aux[x].lim (!p)).tripped = false from hother] at hone
    refine (limBoth_modAux ?_).trans hone
    exact fun _ => ⟨rfl, rfl⟩
  rw [hhoming, tripBoth_one hboth] at hop
  refine ⟨_, exec_next_of rfl hop, ?_⟩
  generalize (s.advance dt).tripNoted ((s.advance dt).limEdged x p true) x p = w at *
  have G : Frame [.recs, .aux] (s.advance dt) (w.modAux x fun a => { a with home := .limitStop, tries := a.tries + 1, homeAt := (s.advance dt).limRaw x }) :=
    Frame.next (Frame.modAux ..) (by decide) (Frame.next F (by decide) (Frame.next (Frame.modAux ..) (by decide) (Frame.refl ..)))
  have hv : (w.modAux x fun a => { a with home := .limitStop, tries := a.tries + 1, homeAt := (s.advance dt).limRaw x }).aux =
      vset s.aux x fun a => { a.withLim p ((a.lim p).edged true (s.tbAt dt) ((s.advance dt).limRaw x)) with
        home := .limitStop, tries := a.tries + 1, homeAt := (s.advance dt).limRaw x } := by
    have haux' : w.aux = vset s.aux x fun a => a.withLim p ((a.lim p).edged true (s.tbAt dt) ((s.advance dt).limRaw x)) := haux
    unfold State.modAux State.onAux
    dsimp only
    rw [haux', vset_vset]
    congr 1
    funext a
    cases p <;> rfl
  have hbut := but_of_frame G
  generalize (w.modAux x fun a => { a with home := .limitStop, tries := a.tries + 1, homeAt := (s.advance dt).limRaw x }) = v at *
  rw [hbut]
  simp only [State.merge, State.but_aux, hv]
  rfl

theorem limChatter_due {last : Nat} (hrun : s.running = true) (halloc : s.auxAlloc x = true) (hen : s.limEn x p = true)
    (hlast : (s.aux[x].lim p).changes.getLast? = some last) (hfree : (s.aux[x].lim p).inhibit = false)
    (hmany : 8 < ((s.aux[x].lim p).changes.filter (fun t => decide (last < t + 100000000))).length)
    (hquiet : s.aux[x].state ≠ .homing ∨ s.regs.AUXn_HOME_CFG x ≠ p) :
    s.limChatter x p = (s.modAux x fun a => a.withLim p { a.lim p with inhibit := true }).event last (Unit.aux x) 0x0C03 (b2n p)
      ((s.aux[x].lim p).changes.filter (fun t => decide (last < t + 100000000))).length := by
  have hlastD : (s.aux[x].lim p).changes.getLastD 0 = last := by rw [List.getLastD_eq_getLast?, hlast]; rfl
  have hcount : (s.aux[x].lim p).count = ((s.aux[x].lim p).changes.filter (fun t => decide (last < t + 100000000))).length := by
    unfold LimSt.count
    rw [hlastD]
  unfold State.limChatter
  dsimp only
  rw [hcount, hlastD, if_pos (by rw [hrun, halloc, hen, hfree, decide_eq_true hmany]; rfl), modLim_withLim]
  refine if_neg ?_
  rw [State.event_aux, State.event_regs, State.modAux_self, (withLim_rest ..).1]
  rintro ⟨hstate, hcfg⟩
  rcases hquiet with h | h
  · exact h hstate
  · exact h hcfg

/-- Settles O32: each command by what its operation leaves of the input. -/
theorem auxLimits : Obligations.AuxLimits := by
  unfold Obligations.AuxLimits
  intro s dt x p hrun halloc hen raw put edge toward
  refine ⟨fun hwas => ⟨_, exec_next_of rfl (limitChange_inactive (s := s.advance dt) hrun halloc hen hwas), rfl⟩,
    fun hwas => ⟨fun hother hstate => exec_limitTrip_alone hrun halloc hen hwas hother hstate,
      fun hother hen' _ => exec_limitTrip_both hrun halloc hen hwas hother hen',
      fun hother hstate hhome hdirect hcfg hfew => exec_limitTrip_approach hrun halloc hen hwas hother hstate hhome hdirect hcfg hfew⟩,
    fun last hlast hfree hmany hquiet => ⟨_, exec_next_of rfl (limChatter_due (s := s.advance dt) hrun halloc hen hlast hfree hmany hquiet),
      (but_event ..).trans rfl, (Wrote.event_one (run_phase hrun)).settle⟩⟩

end

end Sys2Proof.Machine
end

section
/-! PROOF. Load sharing (R275 to R292): reports and shares of a group, a lost member, the end of the grace. -/
set_option Elab.async false

namespace Sys2Proof.Machine

/-! ## The record of a fabric frame -/

section
variable {s t u : State} {b : Nat} {l : List Shown}

theorem frameFab_wrote {time k : Nat} {sent : Bool} {bytes : List Byte} (h : Wrote s t l) (hr : t.pwr.phase = .running) (hg : t.regs = s.regs) :
    ∃ f : List Shown, Wrote s (t.frameFab time k sent bytes) (l ++ f) ∧ f.length ≤ 1 ∧ ∀ x ∈ f, x.2.2.1 = 6 := by
  have hnone : ∃ f : List Shown, Wrote s t (l ++ f) ∧ f.length ≤ 1 ∧ ∀ x ∈ f, x.2.2.1 = 6 := ⟨[], by rwa [List.append_nil], by simp, by simp⟩
  unfold State.frameFab
  split
  · split
    · refine ⟨[_], Wrote.emit s t _ l h hr hg _ _ 6 _ _ rfl, by simp, fun x hx => ?_⟩
      rw [List.mem_singleton.1 hx]
      rfl
    · exact hnone
  · exact hnone

/-- The record of a message that comes, where its type is selected. -/
theorem frameRow_wrote {link seq : Option Nat} {bcast : Bool} {dst src typ len : Nat} (hphase : s.pwr.phase = .running) (hb : fabSelBit typ = some b) :
    WroteAfterFrame s (s.frameRow link seq bcast dst src typ len) b [] := by
  have hnone : Wrote s s [] := Wrote.none _ _ rfl
  unfold State.frameRow
  rw [hb]
  dsimp only
  cases hsel : s.regs.FAB_REC_SEL.testBit b
  · exact ⟨[], hnone, by simp, by simp, fun _ => rfl⟩
  · obtain ⟨f, hf, hlen, htyp⟩ := frameFab_wrote (t := s.onFreeIx (· + 5)) (time := s.tb) (k := link.getD ((Config.freeWord (s.freeIx + 0)).toNat % 6)) (sent := false)
      (bytes := leBytes 1 (128 + (if bcast then 64 else 0) + dst % 64) ++ leBytes 1 src ++ leBytes 1 typ
        ++ leBytes 1 (if link.isSome then 0 else (Config.freeWord (s.freeIx + 1)).toNat % 15) ++ leBytes 2 len
        ++ leBytes 2 (seq.getD ((Config.freeWord (s.freeIx + 2)).toNat) % 65536)
        ++ leBytes 4 (Config.freeWord (s.freeIx + 3)).toNat ++ leBytes 4 (Config.freeWord (s.freeIx + 4)).toNat ++ zeros (len + 4))
      (Wrote.none s (s.onFreeIx (· + 5)) rfl) hphase rfl
    refine ⟨f, ?_, hlen, htyp, fun h => by rw [hsel] at h; cases h⟩
    rw [List.append_nil]
    exact hf

theorem WroteAfterFrame.event {time unit code detail value flags : Nat} (h : WroteAfterFrame s t b l) (hr : t.pwr.phase = .running) (hg : t.regs = s.regs) :
    WroteAfterFrame s (t.event time unit code detail value flags) b (l ++ [evtOf time unit code detail value]) := by
  obtain ⟨f, hf, hlen, htyp, hnone⟩ := h
  refine ⟨f, ?_, hlen, htyp, hnone⟩
  rw [← List.append_assoc]
  exact Wrote.emit s t _ _ hf hr hg _ _ _ _ _ rfl

theorem WroteAfterFrame.next {K : List StPart} (h : WroteAfterFrame s t b l) (F : Frame K t u) (hK : .recs ∉ K) : WroteAfterFrame s u b l := by
  obtain ⟨f, hf, hlen, htyp, hnone⟩ := h
  exact ⟨f, hf.next F hK, hlen, htyp, hnone⟩

theorem WroteAfterFrame.settle (h : WroteAfterFrame s t b l) : WroteAfterFrame s t.settle b l := h

end

/-! ## Reports -/

section
variable {s : State} {g : Fin 16} {sender : Nat} {payload b : List Byte}

/-- An entry of a slot that is no member of the group, or is not the sender's. -/
def Regs.foreignEntry (r : Regs) (g : Fin 16) (sender : Nat) (e : ShareEntry) : Bool :=
  !(decide (e.slot < r.FAB_SHRg_CFG_NMEM g) && r.FAB_SHRg_MEMs_DEV g e.slot == sender)

theorem reportIn_group (hb : unpair payload = some b) (hg : byteAt b 0 = g.val) (huses : s.usesGroup g = true) :
    (leAt b 4 4 ≠ (s.shareSig g).toNat → (∀ r ∈ s.shr[g].reports, r.dev ≠ sender) → s.reportIn sender payload =
      (s.modShr g fun x => { x with reports := putReport x.reports { reportOf sender b with sigBad := true } }).event s.tb Unit.dev 0x0B07 sender (leAt b 4 4)) ∧
    (leAt b 4 4 = (s.shareSig g).toNat → (reportOf sender b).entries.find? (s.regs.foreignEntry g sender) = none →
      s.reportIn sender payload = s.modShr g fun x => { x with reports := putReport x.reports (reportOf sender b) }) ∧
    (∀ e, leAt b 4 4 = (s.shareSig g).toNat → (reportOf sender b).entries.find? (s.regs.foreignEntry g sender) = some e →
      s.reportIn sender payload = (s.modShr g fun x => { x with
        reports := x.reports.map (fun o => if o.dev == sender then { o with sigBad := false } else o) }).event s.tb Unit.dev 0x0B08 sender
          (s.regs.FAB_SHRg_MEMs_AXIS g (e.slot % 32))) := by
  unfold State.reportIn
  simp only [hb, hg, dif_pos g.isLt, Fin.eta, huses, Bool.not_true, Bool.false_eq_true, if_false]
  refine ⟨fun hsig hfirst => ?_, fun hsig hnone => ?_, fun e hsig hfound => ?_⟩
  · have hold : s.shr[g].reports.find? (fun x => x.dev == sender) = none :=
      List.find?_eq_none.2 fun r hr => by simpa using hfirst r hr
    rw [if_pos hsig, hold]
    rfl
  · rw [if_neg (not_not_intro hsig)]
    show (match (reportOf sender b).entries.find? (s.regs.foreignEntry g sender) with | some e => _ | none => _) = _
    rw [hnone]
  · rw [if_neg (not_not_intro hsig)]
    show (match (reportOf sender b).entries.find? (s.regs.foreignEntry g sender) with | some e => _ | none => _) = _
    rw [hfound]

theorem shareIn_group (hb : unpair payload = some b) (hg : byteAt b 0 = g.val) (hlocal : s.localMembers g ≠ [])
    (hleader : (shareOf b (min (s.regs.FAB_SHRg_CFG_NMEM g) 32)).leader < min (s.regs.FAB_SHRg_CFG_NMEM g) 32)
    (hdev : s.regs.FAB_SHRg_MEMs_DEV g (shareOf b (min (s.regs.FAB_SHRg_CFG_NMEM g) 32)).leader = sender) :
    s.shareIn sender payload = if s.mustFollow g (shareOf b (min (s.regs.FAB_SHRg_CFG_NMEM g) 32)) = false ∨ s.shr[g].cfgBad = true then s
      else if s.tb + 10000 ≤ (shareOf b (min (s.regs.FAB_SHRg_CFG_NMEM g) 32)).applyAt then
        s.modShr g fun x => { x with
          leader := some (shareOf b (min (s.regs.FAB_SHRg_CFG_NMEM g) 32)).leader, term := (shareOf b (min (s.regs.FAB_SHRg_CFG_NMEM g) 32)).term
          next := some (shareOf b (min (s.regs.FAB_SHRg_CFG_NMEM g) 32))
          cmdValid := (shareOf b (min (s.regs.FAB_SHRg_CFG_NMEM g) 32)).mode != 0 || !x.work.cmds.isEmpty
          gstop := (shareOf b (min (s.regs.FAB_SHRg_CFG_NMEM g) 32)).stop
          cmd := { (bestCmd x.work.cmds).getD x.cmd with
            mode := (shareOf b (min (s.regs.FAB_SHRg_CFG_NMEM g) 32)).mode, set := (shareOf b (min (s.regs.FAB_SHRg_CFG_NMEM g) 32)).set
            heave := (shareOf b (min (s.regs.FAB_SHRg_CFG_NMEM g) 32)).heave } }
      else s.modShr g fun x => { x with lateBy := some (s.tb + 10000 - (shareOf b (min (s.regs.FAB_SHRg_CFG_NMEM g) 32)).applyAt) } := by
  have hempty : (s.localMembers g).isEmpty = false := by simpa using hlocal
  unfold State.shareIn
  simp only [hb, hg, dif_pos g.isLt, Fin.eta, hempty, not_le.2 hleader, hdev, ne_eq, not_true_eq_false, false_or, Bool.false_eq_true, Bool.not_eq_true']

/-! What a group decides, its members decide. -/

section
variable {t : State}

theorem usesGroup_congr (h : t.regs = s.regs) : t.usesGroup g = s.usesGroup g := by rw [State.usesGroup, State.usesGroup, h]

theorem shareSig_congr (h : t.regs = s.regs) : t.shareSig g = s.shareSig g := by
  unfold State.shareSig State.period
  rw [h]

theorem localMembers_congr (h : t.regs = s.regs) (hfab : t.fab = s.fab) : t.localMembers g = s.localMembers g := by
  unfold State.localMembers State.shareAddr
  rw [h, hfab]

theorem mustFollow_congr (h : t.regs = s.regs) (hshr : t.shr = s.shr) (m : ShareMsg) : t.mustFollow g m = s.mustFollow g m := by
  unfold State.mustFollow State.slotRank
  rw [h, hshr]

end

theorem but_recs_freeIx_shr {s v : State} {dt : Nat} (F : Frame [.recs, .freeIx, .shr] (s.advance dt) v) :
    v.settle.but s = { s.advance dt with recs := v.recs, freeIx := v.freeIx, shr := v.shr } := by
  rw [F.eq_merge]
  rfl

theorem but_recs_freeIx {s v : State} {dt : Nat} (F : Frame [.recs, .freeIx] (s.advance dt) v) :
    v.settle.but s = { s.advance dt with recs := v.recs, freeIx := v.freeIx } := by
  rw [F.eq_merge]
  rfl

/-- The state in which a message of a group is judged: the one before it, but for the record of the frame. -/
def State.shareRow (s : State) (sender typ len : Nat) : State := s.frameRow none none true 0 sender typ len

theorem Frame.shareRow (s : State) (sender typ len : Nat) : Frame [.recs, .freeIx] s (s.shareRow sender typ len) := Frame.frameRow ..

theorem shareRow_wrote {typ len : Nat} (hphase : s.pwr.phase = .running) (h : fabSelBit typ = some 5) :
    WroteAfterFrame s (s.shareRow sender typ len) 5 [] := frameRow_wrote hphase h

theorem Frame.shareRow_modShr {s : State} {typ len : Nat} (f : ShareGroup → ShareGroup) :
    Frame [.recs, .freeIx, .shr] s ((s.shareRow sender typ len).modShr g f) :=
  Frame.next (Frame.modShr ..) (by decide) (Frame.next (Frame.shareRow ..) (by decide) (Frame.refl ..))

theorem shareRow_modShr {s : State} {typ len : Nat} (f : ShareGroup → ShareGroup) :
    ((s.shareRow sender typ len).modShr g f).shr = vset s.shr g f := by
  have h : (s.shareRow sender typ len).shr = s.shr := (Frame.shareRow ..).keep .shr (by decide)
  exact congrArg (fun v => vset v g f) h

theorem exec_shareReport {dt : Nat} {sender : BitVec 6} (hrun : s.running = true) (hb : unpair payload = some b) (hg : byteAt b 0 = g.val)
    (huses : s.usesGroup g = true) :
    (leAt b 4 4 = (s.shareSig g).toNat → (∀ e ∈ (reportOf sender.toNat b).entries, s.regs.foreignEntry g sender.toNat e = false) →
      ∃ t, exec (.shareReportReceived dt sender payload) s = .next t ∧
      t.but s = { s.advance dt with recs := t.recs, freeIx := t.freeIx, shr := vset s.shr g (fun x => { x with
        reports := x.reports.filter (fun r => r.dev != sender.toNat) ++ [reportOf sender.toNat b] }) } ∧ WroteAfterFrame s t 5 []) ∧
    (leAt b 4 4 ≠ (s.shareSig g).toNat → (∀ r ∈ s.shr[g].reports, r.dev ≠ sender.toNat) → ∃ t, exec (.shareReportReceived dt sender payload) s = .next t ∧
      t.but s = { s.advance dt with
        shr := vset s.shr g (fun x => { x with
          reports := x.reports.filter (fun r => r.dev != sender.toNat) ++ [{ reportOf sender.toNat b with sigBad := true }] })
        recs := t.recs, freeIx := t.freeIx } ∧
      WroteAfterFrame s t 5 [evtOf (s.tbAt dt) Unit.dev 0x0B07 sender.toNat (leAt b 4 4)]) ∧
    (∀ e, leAt b 4 4 = (s.shareSig g).toNat → (reportOf sender.toNat b).entries.find? (s.regs.foreignEntry g sender.toNat) = some e →
      ∃ t, exec (.shareReportReceived dt sender payload) s = .next t ∧
      t.but s = { s.advance dt with recs := t.recs, freeIx := t.freeIx, shr := vset s.shr g (fun x => { x with
        reports := x.reports.map (fun o => if o.dev == sender.toNat then { o with sigBad := false } else o) }) } ∧
      WroteAfterFrame s t 5 [evtOf (s.tbAt dt) Unit.dev 0x0B08 sender.toNat (s.regs.FAB_SHRg_MEMs_AXIS g (e.slot % 32))]) := by
  have F := Frame.shareRow (s.advance dt) sender.toNat 0x20 payload.length
  have hregs : ((s.advance dt).shareRow sender.toNat 0x20 payload.length).regs = s.regs := F.keep .regs (by decide)
  have hshr : ((s.advance dt).shareRow sender.toNat 0x20 payload.length).shr = s.shr := F.keep .shr (by decide)
  have hpwr : ((s.advance dt).shareRow sender.toNat 0x20 payload.length).pwr = s.pwr := F.keep .pwr (by decide)
  have htb : ((s.advance dt).shareRow sender.toNat 0x20 payload.length).tb = s.tbAt dt := congrArg Clock.tb (F.keep .clk (by decide))
  have hwrote : WroteAfterFrame s ((s.advance dt).shareRow sender.toNat 0x20 payload.length) 5 [] :=
    shareRow_wrote (s := s.advance dt) (run_phase hrun) rfl
  have hexec : exec (.shareReportReceived dt sender payload) s =
      done (((s.advance dt).shareRow sender.toNat 0x20 payload.length).reportIn sender.toNat payload) := congrArg done (if_pos (by exact hrun))
  obtain ⟨hbad, hgood, hforeign⟩ := reportIn_group (s := (s.advance dt).shareRow sender.toNat 0x20 payload.length) (g := g) (sender := sender.toNat) hb hg
    ((usesGroup_congr hregs).trans huses)
  rw [shareSig_congr hregs] at hbad hgood hforeign
  rw [hregs] at hgood hforeign
  rw [hshr, htb] at hbad
  rw [htb] at hforeign
  refine ⟨fun hsig hnone => ?_, fun hsig hfirst => ?_, fun e hsig hfound => ?_⟩
  · have hfind : (reportOf sender.toNat b).entries.find? (s.regs.foreignEntry g sender.toNat) = none :=
      List.find?_eq_none.2 fun e he => by rw [hnone e he]; decide
    refine ⟨_, exec_next_of hexec (hgood hsig hfind), ?_, (hwrote.next (Frame.modShr ..) (by decide)).settle⟩
    rw [but_recs_freeIx_shr (Frame.shareRow_modShr _), shareRow_modShr]
    rfl
  · refine ⟨_, exec_next_of hexec (hbad hsig hfirst), ?_,
      ((hwrote.next (Frame.modShr ..) (by decide)).event (by exact hpwr ▸ run_phase hrun) (by exact hregs)).settle⟩
    rw [but_recs_freeIx_shr (Frame.next (Frame.event ..) (by decide) (Frame.shareRow_modShr _)), State.event_shr, shareRow_modShr]
    rfl
  · refine ⟨_, exec_next_of hexec (hforeign e hsig hfound), ?_,
      ((hwrote.next (Frame.modShr ..) (by decide)).event (by exact hpwr ▸ run_phase hrun) (by exact hregs)).settle⟩
    rw [but_recs_freeIx_shr (Frame.next (Frame.event ..) (by decide) (Frame.shareRow_modShr _)), State.event_shr, shareRow_modShr]
    rfl

/-- A share taken: its leader, its command and its division from the apply instant on. -/
def ShareGroup.followed (x : ShareGroup) (m : ShareMsg) : ShareGroup :=
  { x with
    leader := some m.leader, term := m.term, next := some m, cmdValid := m.mode != 0 || !x.work.cmds.isEmpty, gstop := m.stop
    cmd := { (bestCmd x.work.cmds).getD x.cmd with mode := m.mode, set := m.set, heave := m.heave } }

theorem exec_shareReceived {dt : Nat} {sender : BitVec 6} {m : ShareMsg} (hrun : s.running = true) (hb : unpair payload = some b) (hg : byteAt b 0 = g.val)
    (hlocal : s.localMembers g ≠ []) (hm : m = shareOf b (min (s.regs.FAB_SHRg_CFG_NMEM g) 32))
    (hleader : m.leader < min (s.regs.FAB_SHRg_CFG_NMEM g) 32) (hdev : s.regs.FAB_SHRg_MEMs_DEV g m.leader = sender.toNat) :
    (s.mustFollow g m = true → s.shr[g].cfgBad = false → s.tbAt dt + 10000 ≤ m.applyAt → ∃ t, exec (.shareReceived dt sender payload) s = .next t ∧
      t.but s = { s.advance dt with recs := t.recs, freeIx := t.freeIx, shr := vset s.shr g (fun x => x.followed m) } ∧ WroteAfterFrame s t 5 []) ∧
    (s.mustFollow g m = true → s.shr[g].cfgBad = false → m.applyAt < s.tbAt dt + 10000 → ∃ t, exec (.shareReceived dt sender payload) s = .next t ∧
      t.but s = { s.advance dt with recs := t.recs, freeIx := t.freeIx, shr := vset s.shr g (fun x => { x with
        lateBy := some (s.tbAt dt + 10000 - m.applyAt) }) } ∧ WroteAfterFrame s t 5 []) ∧
    (s.mustFollow g m = false ∨ s.shr[g].cfgBad = true → ∃ t, exec (.shareReceived dt sender payload) s = .next t ∧
      t.but s = { s.advance dt with recs := t.recs, freeIx := t.freeIx } ∧ WroteAfterFrame s t 5 []) := by
  have F := Frame.shareRow (s.advance dt) sender.toNat 0x21 payload.length
  have hregs : ((s.advance dt).shareRow sender.toNat 0x21 payload.length).regs = s.regs := F.keep .regs (by decide)
  have hshr : ((s.advance dt).shareRow sender.toNat 0x21 payload.length).shr = s.shr := F.keep .shr (by decide)
  have hfab : ((s.advance dt).shareRow sender.toNat 0x21 payload.length).fab = s.fab := F.keep .fab (by decide)
  have htb : ((s.advance dt).shareRow sender.toNat 0x21 payload.length).tb = s.tbAt dt := congrArg Clock.tb (F.keep .clk (by decide))
  have hwrote : WroteAfterFrame s ((s.advance dt).shareRow sender.toNat 0x21 payload.length) 5 [] :=
    shareRow_wrote (s := s.advance dt) (run_phase hrun) rfl
  have hexec : exec (.shareReceived dt sender payload) s =
      done (((s.advance dt).shareRow sender.toNat 0x21 payload.length).shareIn sender.toNat payload) := congrArg done (if_pos (by exact hrun))
  have hop := shareIn_group (s := (s.advance dt).shareRow sender.toNat 0x21 payload.length) (g := g) (sender := sender.toNat) hb hg
    (by rwa [localMembers_congr hregs hfab]) (by rw [hregs, ← hm]; exact hleader) (by rw [hregs, ← hm]; exact hdev)
  rw [hregs, ← hm, mustFollow_congr hregs hshr, hshr, htb] at hop
  refine ⟨fun hfollow hok htime => ?_, fun hfollow hok htime => ?_, fun hnot => ?_⟩
  · rw [if_neg (by rw [hfollow, hok]; decide), if_pos htime] at hop
    refine ⟨_, exec_next_of hexec hop, ?_, (hwrote.next (Frame.modShr ..) (by decide)).settle⟩
    rw [but_recs_freeIx_shr (Frame.shareRow_modShr _), shareRow_modShr]
    rfl
  · rw [if_neg (by rw [hfollow, hok]; decide), if_neg (not_le.2 htime)] at hop
    refine ⟨_, exec_next_of hexec hop, ?_, (hwrote.next (Frame.modShr ..) (by decide)).settle⟩
    rw [but_recs_freeIx_shr (Frame.shareRow_modShr _), shareRow_modShr]
    rfl
  · rw [if_pos hnot] at hop
    exact ⟨_, exec_next_of hexec hop, but_recs_freeIx F, hwrote.settle⟩

/-- A payload whose halves do not agree is recorded as a frame alone. -/
theorem exec_share_unpaired {dt : Nat} {sender : BitVec 6} (hrun : s.running = true) (hb : unpair payload = none) :
    (∃ t, exec (.shareReportReceived dt sender payload) s = .next t ∧
      t.but s = { s.advance dt with recs := t.recs, freeIx := t.freeIx } ∧ WroteAfterFrame s t 5 []) ∧
    (∃ t, exec (.shareReceived dt sender payload) s = .next t ∧
      t.but s = { s.advance dt with recs := t.recs, freeIx := t.freeIx } ∧ WroteAfterFrame s t 5 []) := by
  have hreport (u : State) : u.reportIn sender.toNat payload = u := by
    unfold State.reportIn
    rw [hb]
  have hshare (u : State) : u.shareIn sender.toNat payload = u := by
    unfold State.shareIn
    rw [hb]
  have hwrote (typ : Nat) (h : fabSelBit typ = some 5) : WroteAfterFrame s ((s.advance dt).shareRow sender.toNat typ payload.length) 5 [] :=
    shareRow_wrote (s := s.advance dt) (run_phase hrun) h
  exact ⟨⟨_, exec_next_of rfl ((if_pos (by exact hrun)).trans (hreport ((s.advance dt).shareRow sender.toNat 0x20 payload.length))),
      but_recs_freeIx (Frame.shareRow ..), (hwrote 0x20 rfl).settle⟩,
    ⟨_, exec_next_of rfl ((if_pos (by exact hrun)).trans (hshare ((s.advance dt).shareRow sender.toNat 0x21 payload.length))),
      but_recs_freeIx (Frame.shareRow ..), (hwrote 0x21 rfl).settle⟩⟩

/-! ## A lost member -/

/-- The count of a lost member, with its record on the leader's axis. -/
def State.memberNoted (s : State) (g : Fin 16) (k : Fin 32) (n : Fin 6) : State :=
  (s.modShr g (fun y => { y with lostCnt := satInc 16 y.lostCnt, lostCause := y.lostCause.set k 0 })).event
    s.tick.began (Unit.ax n) 0x0B02 (k.val + 256 * s.shr[g].lostCause[k]) (twos 4 s.shr[g].lastT[k].floor)

theorem exec_memberLost_eq {dt : Nat} {k : Fin 32} {l : Nat} {n : Fin 6} (hrun : s.running = true) (hleader : s.shr[g].leader = some l)
    (hlocal : (s.localMembers g).find? (fun m => m.1 == l) = some (l, n)) (hcause : s.shr[g].lostCause[k] ≠ 0) :
    exec (.memberLost dt g k) s = done (if s.regs.FAB_SHRg_CFG_LOSS_POL g then
      (((s.advance dt).memberNoted g k n).modShr g (fun y => { y with gstop := true, floor := max y.floor (s.tbAt dt), cmd := { y.cmd with mode := 0 } })).event
        s.tickEnd (Unit.ax n) 0x0B06 k.val 0 else (s.advance dt).memberNoted g k n) := by
  have hlead : (s.advance dt).shr[g].leader = some l := hleader
  have hmember : ((s.advance dt).localMembers g).find? (fun m => m.1 == l) = some (l, n) := hlocal
  have hdue : (!(s.advance dt).running || decide ((s.advance dt).shr[g].lostCause[k] = 0)) = false := by
    rw [show (s.advance dt).running = true from hrun, decide_eq_false (by exact hcause)]
    rfl
  have hregs : ((s.advance dt).memberNoted g k n).regs = s.regs := State.event_regs ..
  have htb : ((s.advance dt).memberNoted g k n).tb = s.tbAt dt := congrArg Clock.tb (State.event_clk ..)
  have hend : ((s.advance dt).memberNoted g k n).tickEnd = s.tickEnd := by
    unfold State.tickEnd State.period
    rw [hregs, show ((s.advance dt).memberNoted g k n).tick = s.tick from State.event_tick ..]
  show execMemberLost dt g k s = _
  unfold execMemberLost
  simp only [hlead, hmember, Option.map_some]
  rw [hdue, if_neg (by decide)]
  show (if ((s.advance dt).memberNoted g k n).regs.FAB_SHRg_CFG_LOSS_POL g then
      done ((((s.advance dt).memberNoted g k n).modShr g (fun y => { y with
        gstop := true, floor := max y.floor ((s.advance dt).memberNoted g k n).tb, cmd := { y.cmd with mode := 0 } })).event
          ((s.advance dt).memberNoted g k n).tickEnd (Unit.ax n) 0x0B06 k.val 0)
    else done ((s.advance dt).memberNoted g k n)) = _
  rw [hend, hregs, htb]
  split <;> rfl

/-- Settles O33: a message by the state that its frame record leaves; a lost member by its policy. -/
theorem shareGroups : Obligations.ShareGroups := by
  unfold Obligations.ShareGroups
  intro s dt hrun
  refine ⟨fun sender payload b g hb hg huses => exec_shareReport hrun hb hg huses, fun sender payload hb => exec_share_unpaired hrun hb,
    fun sender payload b g hb hg hlocal hleader hdev => exec_shareReceived hrun hb hg hlocal rfl hleader hdev,
    fun g k l n hleader hlocal hcause => ⟨fun hpol => ?_, fun hpol => ?_⟩, fun g hlost htime => ?_⟩
  · have hexec := exec_memberLost_eq (dt := dt) hrun hleader hlocal hcause
    rw [if_neg (by rw [hpol]; decide)] at hexec
    exact ⟨_, exec_next_of hexec rfl, (but_event ..).trans rfl, (Wrote.event_one (run_phase hrun)).settle⟩
  · have hexec := exec_memberLost_eq (dt := dt) hrun hleader hlocal hcause
    rw [if_pos hpol] at hexec
    refine ⟨_, exec_next_of hexec rfl, ?_⟩
    have hshr : ((s.advance dt).memberNoted g k n).shr = vset s.shr g fun y => { y with
        lostCnt := satInc 16 y.lostCnt, lostCause := y.lostCause.set k 0 } := State.event_shr ..
    have hwrote : Wrote s ((s.advance dt).memberNoted g k n)
        [evtOf s.tick.began (Unit.ax n) 0x0B02 (k.val + 256 * s.shr[g].lostCause[k]) (twos 4 s.shr[g].lastT[k].floor)] :=
      Wrote.event_one (run_phase hrun)
    have hregs : ((s.advance dt).memberNoted g k n).regs = s.regs := State.event_regs ..
    have hpwr : ((s.advance dt).memberNoted g k n).pwr = s.pwr := State.event_pwr ..
    generalize (s.advance dt).memberNoted g k n = u at *
    have hset (f : ShareGroup → ShareGroup) : (u.modShr g f).shr = vset s.shr g fun y => f { y with
        lostCnt := satInc 16 y.lostCnt, lostCause := y.lostCause.set k 0 } := by
      unfold State.modShr State.onShr
      dsimp only
      rw [hshr, vset_vset]
    rw [State.settle_shr, State.event_shr, hset]
    refine ⟨?_, ?_, fun h hh => vset_ne _ _ _ _ (Ne.symm hh), ?_⟩
    · simp only [Fin.getElem_fin, vset_self]
    · simp only [Fin.getElem_fin, vset_self]
    · exact ((hwrote.next (Frame.modShr ..) (by decide)).event (run_phase hrun) (by exact hpwr) (by exact hregs)).settle
  · have hdue : ((s.advance dt).running && (s.advance dt).tbs.syncLost &&
        decide ((s.advance dt).tbs.lostSince + nsOf ((s.advance dt).regs.FAB_SHRg_DESYNC_T g) ≤ (s.advance dt).tb)) = true := by
      rw [show (s.advance dt).running = true from hrun, show (s.advance dt).tbs.syncLost = true from hlost, decide_eq_true (by exact htime)]
      rfl
    exact ⟨_, exec_next_of rfl (if_pos hdue), rfl⟩

end

end Sys2Proof.Machine
end

section
/-! PROOF. What the safety logic keeps as it acts, and how it removes torque (R333 to R338, R341 to R344). -/
set_option Elab.async false

namespace Sys2Proof.Machine

/-! ## What a stop of axes leaves -/

/-- The bars of the two paths and the registers but for command words stand. -/
structure BarsKept (s t : State) : Prop where
  blocked : t.gd.blocked = s.gd.blocked
  swClosed : t.gd.swClosed = s.gd.swClosed
  regs : ∀ a, (∀ m : Fin 6, Reg.AXn_CMD m ≠ a) → (∀ x : Fin 4, Reg.AUXn_CMD x ≠ a) → t.regs.get a = s.regs.get a

namespace BarsKept

variable {s t u : State}

theorem refl (s : State) : BarsKept s s := ⟨rfl, rfl, fun _ _ _ => rfl⟩

theorem trans (h : BarsKept s t) (k : BarsKept t u) : BarsKept s u :=
  ⟨k.blocked.trans h.blocked, k.swClosed.trans h.swClosed, fun a hn hx => (k.regs a hn hx).trans (h.regs a hn hx)⟩

theorem frame {K : List StPart} (h : BarsKept s t) (F : Frame K t u) (hregs : .regs ∉ K := by decide) (hgd : .gd ∉ K := by decide) :
    BarsKept s u := by
  have hg : u.gd = t.gd := F.keep .gd hgd
  have hr : u.regs = t.regs := F.keep .regs hregs
  exact h.trans ⟨by rw [hg], by rw [hg], fun _ _ _ => by rw [hr]⟩

theorem ite {c : Prop} [Decidable c] (h : BarsKept s t) (k : BarsKept s u) : BarsKept s (if c then t else u) := by
  split
  · exact h
  · exact k

theorem foldl {α : Type} {f : State → α → State} (l : List α) (h : BarsKept s t) (hf : ∀ u a, BarsKept u (f u a)) : BarsKept s (l.foldl f t) := by
  induction l generalizing t with
  | nil => exact h
  | cons a l ih => exact ih (h.trans (hf t a))

theorem modGd (h : BarsKept s t) (a : Fin 10) (f : GdAx → GdAx) : BarsKept s (t.modGd a f) := h.trans ⟨rfl, rfl, fun _ _ _ => rfl⟩

theorem resetCommand (h : BarsKept s t) (n : Fin 6) : BarsKept s (t.resetCommand n) :=
  h.trans ⟨rfl, rfl, fun _ hn _ => Regs.get_set_ne (hn n)⟩

theorem auxResetCommand (h : BarsKept s t) (x : Fin 4) : BarsKept s (t.auxResetCommand x) :=
  h.trans ⟨rfl, rfl, fun _ _ hx => Regs.get_set_ne (hx x)⟩

theorem epuStop (h : BarsKept s t) (a : Fin 10) : BarsKept s (t.epuStop a) := (h.frame (Frame.modSnt ..)).modGd a _

theorem axDown (h : BarsKept s t) (n : Fin 6) (st : AxState) : BarsKept s (t.axDown n st) :=
  ((h.frame (Frame.crashEnd ..)).epuStop _).frame (Frame.modAx ..)

theorem auxDown (h : BarsKept s t) (x : Fin 4) (st : AuxState) : BarsKept s (t.auxDown x st) := (h.epuStop _).frame (Frame.modAux ..)

theorem axHaltOff (h : BarsKept s t) (n : Fin 6) (r : Nat) : BarsKept s (t.axHaltOff n r) :=
  (((h.axDown n .halt).frame (Frame.modAx ..)).modGd _ _).resetCommand n

theorem auxHalt (h : BarsKept s t) (x : Fin 4) (r : Nat) : BarsKept s (t.auxHalt x r) :=
  (((h.auxDown x .halt).frame (Frame.modAux ..)).modGd _ _).auxResetCommand x

theorem halt10 (h : BarsKept s t) (a : Fin 10) (r : Nat) : BarsKept s (t.halt10 a r) := by
  unfold State.halt10
  split
  · next n _ => exact h.axHaltOff n r
  · exact h.auxHalt _ r

theorem markTest (h : BarsKept s t) (k : Nat) (on : Bool) : BarsKept s (t.markTest k on) := .ite (h.modGd _ _) h

theorem testEnd (s : State) : BarsKept s s.testEnd := by
  unfold State.testEnd
  extract_lets t pass u v w
  have hu : BarsKept s u := ⟨rfl, rfl, fun _ _ _ => rfl⟩
  have hv : BarsKept s v := foldl _ hu fun x a =>
    .ite (((refl x).markTest _ _).halt10 _ _) (.ite (((refl x).markTest _ _).modGd _ _) ((refl x).markTest _ _))
  have hw : BarsKept s w := hv.frame (Frame.event ..)
  exact foldl _ hw fun x a => .ite ((refl x).frame (Frame.tryStart ..)) (refl x)

theorem testAbortAll (s : State) : BarsKept s s.testAbortAll := by
  unfold State.testAbortAll
  split
  · extract_lets m
    have hu : BarsKept s (s.onGd (fun g => { g with test := { g.test with aborted := g.test.aborted ||| m } })) := ⟨rfl, rfl, fun _ _ _ => rfl⟩
    generalize s.onGd (fun g => { g with test := { g.test with aborted := g.test.aborted ||| m } }) = u at hu ⊢
    exact hu.trans (testEnd u)
  · exact refl s

theorem axSto (s : State) (n : Fin 6) : BarsKept s (s.axSto n) := .ite (refl s) (((refl s).axDown _ _).frame (Frame.modAx ..))

theorem auxSto (s : State) (x : Fin 4) : BarsKept s (s.auxSto x) := .ite (refl s) (((refl s).auxDown _ _).frame (Frame.modAux ..))

theorem stoTold (s : State) : BarsKept s s.stoTold := by
  unfold State.stoTold
  split
  · exact refl s
  · extract_lets u v w
    have hu : BarsKept s u := trans (t := s.onSaf fun x => { x with told := true }) ⟨rfl, rfl, fun _ _ _ => rfl⟩ (testAbortAll _)
    have hv : BarsKept s v := hu.trans ⟨rfl, rfl, fun _ _ _ => rfl⟩
    exact foldl _ (foldl _ hv axSto) auxSto

theorem ss1Stop (s : State) : BarsKept s s.ss1Stop := by
  unfold State.ss1Stop
  split
  · exact refl s
  · refine foldl _ (foldl _ (refl s) fun u n => ?_) fun u x => ?_
    · exact .ite (refl u) (.ite ((refl u).axDown _ _) (((refl u).frame (Frame.crashEnd ..)).frame (Frame.axStop ..)))
    · exact .ite (refl u) (.ite ((refl u).auxDown _ _) ((refl u).frame (Frame.auxStop ..)))

end BarsKept

/-! ## Every axis stopped -/

/-- STO acts, no SS1 runs, and every axis is down. -/
structure State.Stopped (t : State) : Prop where
  sto : t.saf.sto = true
  ss1 : t.saf.ss1 = []
  ax : ∀ n : Fin 6, t.axAlloc n = true → t.ax[n].state = .off ∨ t.ax[n].state = .halt
  aux : ∀ x : Fin 4, t.auxAlloc x = true → t.aux[x].state = .off ∨ t.aux[x].state = .halt

theorem torqueOff_iff {t : State} {b c : Bool} :
    TorqueOff t b c ↔ t.Stopped ∧ (b = true → t.gd.blocked = true) ∧ (c = true → t.gd.swClosed = false) := by
  constructor
  · rintro ⟨hsto, hb, hc, hss1, hax, haux⟩
    exact ⟨⟨hsto, hss1, hax, haux⟩, hb, hc⟩
  · rintro ⟨⟨hsto, hss1, hax, haux⟩, hb, hc⟩
    exact ⟨hsto, hb, hc, hss1, hax, haux⟩

theorem axAlloc_congr {s t : State} (h : t.regs = s.regs) (n : Fin 6) : t.axAlloc n = s.axAlloc n := by rw [State.axAlloc, State.axAlloc, h]
theorem auxAlloc_congr {s t : State} (h : t.regs = s.regs) (x : Fin 4) : t.auxAlloc x = s.auxAlloc x := by rw [State.auxAlloc, State.auxAlloc, h]

/-- The axes stay down where neither they nor the registers change. -/
theorem State.Stopped.congr {s t : State} (h : s.Stopped) (hregs : t.regs = s.regs) (hax : t.ax = s.ax) (haux : t.aux = s.aux)
    (hsto : t.saf.sto = true) (hss1 : t.saf.ss1 = []) : t.Stopped where
  sto := hsto
  ss1 := hss1
  ax n hn := by
    rw [hax]
    exact h.ax n ((axAlloc_congr hregs n).symm.trans hn)
  aux x hx := by
    rw [haux]
    exact h.aux x ((auxAlloc_congr hregs x).symm.trans hx)

section
variable {s : State}

theorem axSto_down (s : State) (n : Fin 6) (halloc : s.axAlloc n = true) : (s.axSto n).ax[n].state = .off ∨ (s.axSto n).ax[n].state = .halt := by
  unfold State.axSto
  by_cases hhalt : s.ax[n].state = .halt
  · rw [if_pos (by rw [hhalt, halloc]; rfl)]
    exact .inr hhalt
  · rw [if_neg (by simpa [halloc] using hhalt), State.modAx_self]
    exact .inl (State.axDown_ax s n .off).1

theorem axSto_other (s : State) {m n : Fin 6} (h : n ≠ m) : (s.axSto m).ax[n] = s.ax[n] := by
  unfold State.axSto
  split
  · rfl
  · rw [State.modAx_other _ _ _ _ h]
    exact (State.axDown_ax s m .off).2.2.2 n h

theorem auxDown_state (s : State) (x : Fin 4) (st : AuxState) :
    (s.auxDown x st).aux[x].state = st ∧ ∀ y, y ≠ x → (s.auxDown x st).aux[y] = s.aux[y] := by
  unfold State.auxDown
  exact ⟨by rw [State.modAux_self], fun y hy => State.modAux_other _ _ _ _ hy⟩

theorem auxSto_down (s : State) (x : Fin 4) (halloc : s.auxAlloc x = true) :
    (s.auxSto x).aux[x].state = .off ∨ (s.auxSto x).aux[x].state = .halt := by
  unfold State.auxSto
  by_cases hhalt : s.aux[x].state = .halt
  · rw [if_pos (by rw [hhalt, halloc]; rfl)]
    exact .inr hhalt
  · rw [if_neg (by simpa [halloc] using hhalt), State.modAux_self]
    exact .inl (auxDown_state s x .off).1

theorem auxSto_other (s : State) {x y : Fin 4} (h : y ≠ x) : (s.auxSto x).aux[y] = s.aux[y] := by
  unfold State.auxSto
  split
  · rfl
  · rw [State.modAux_other _ _ _ _ h]
    exact (auxDown_state s x .off).2 y h

/-- Each axis of a list that is stopped is down behind the list. -/
theorem foldl_axSto_down (l : List (Fin 6)) (n : Fin 6) (hn : n ∈ l) (halloc : s.axAlloc n = true) :
    (l.foldl State.axSto s).ax[n].state = .off ∨ (l.foldl State.axSto s).ax[n].state = .halt := by
  have hstays (l : List (Fin 6)) : ∀ s : State, s.ax[n].state = .off ∨ s.ax[n].state = .halt →
      (l.foldl State.axSto s).ax[n].state = .off ∨ (l.foldl State.axSto s).ax[n].state = .halt := by
    induction l with
    | nil => exact fun _ h => h
    | cons m l ih =>
      intro s h
      refine ih _ ?_
      by_cases hm : n = m
      · subst hm
        by_cases ha : s.axAlloc n = true
        · exact axSto_down s n ha
        · rw [State.axSto, if_pos (by simp [ha])]
          exact h
      · rw [axSto_other s hm]
        exact h
  induction l generalizing s with
  | nil => cases hn
  | cons m l ih =>
    by_cases hm : n = m
    · subst hm
      exact hstays l _ (axSto_down s n halloc)
    · exact ih ((List.mem_cons.1 hn).resolve_left hm) ((axAlloc_congr ((Frame.axSto s m).keep .regs (by decide)) n).trans halloc)

theorem foldl_auxSto_down (l : List (Fin 4)) (x : Fin 4) (hx : x ∈ l) (halloc : s.auxAlloc x = true) :
    (l.foldl State.auxSto s).aux[x].state = .off ∨ (l.foldl State.auxSto s).aux[x].state = .halt := by
  have hstays (l : List (Fin 4)) : ∀ s : State, s.aux[x].state = .off ∨ s.aux[x].state = .halt →
      (l.foldl State.auxSto s).aux[x].state = .off ∨ (l.foldl State.auxSto s).aux[x].state = .halt := by
    induction l with
    | nil => exact fun _ h => h
    | cons y l ih =>
      intro s h
      refine ih _ ?_
      by_cases hy : x = y
      · subst hy
        by_cases ha : s.auxAlloc x = true
        · exact auxSto_down s x ha
        · rw [State.auxSto, if_pos (by simp [ha])]
          exact h
      · rw [auxSto_other s hy]
        exact h
  induction l generalizing s with
  | nil => cases hx
  | cons y l ih =>
    by_cases hy : x = y
    · subst hy
      exact hstays l _ (auxSto_down s x halloc)
    · exact ih ((List.mem_cons.1 hx).resolve_left hy) ((auxAlloc_congr ((Frame.auxSto s y).keep .regs (by decide)) x).trans halloc)

/-- The supervisor's part of an STO: behind it every axis is down. -/
theorem stoTold_down (s : State) (htold : s.saf.told = false) (hfreeze : s.mode.mode ≠ .freeze) :
    (∀ n : Fin 6, s.stoTold.axAlloc n = true → s.stoTold.ax[n].state = .off ∨ s.stoTold.ax[n].state = .halt) ∧
    (∀ x : Fin 4, s.stoTold.auxAlloc x = true → s.stoTold.aux[x].state = .off ∨ s.stoTold.aux[x].state = .halt) := by
  unfold State.stoTold
  rw [if_neg (by simpa [htold] using hfreeze)]
  extract_lets u v w
  show (∀ n : Fin 6, ((List.finRange 4).foldl State.auxSto w).axAlloc n = true → _) ∧ _
  have F : Frame [.snt, .gd, .aux] w ((List.finRange 4).foldl State.auxSto w) := Frame.foldl _ _ Frame.auxSto w
  have G : Frame [.recs, .snt, .ax, .gd, .cmd] v w := Frame.foldl _ _ Frame.axSto v
  have hregs : ((List.finRange 4).foldl State.auxSto w).regs = w.regs := F.keep .regs (by decide)
  refine ⟨fun n hn => ?_, fun x hx => ?_⟩
  · show ((List.finRange 4).foldl State.auxSto w).ax[n].state = _ ∨ ((List.finRange 4).foldl State.auxSto w).ax[n].state = _
    rw [show ((List.finRange 4).foldl State.auxSto w).ax = w.ax from F.keep .ax (by decide)]
    exact foldl_axSto_down _ n (List.mem_finRange n) ((axAlloc_congr (hregs.trans (G.keep .regs (by decide))) n).symm.trans hn)
  · exact foldl_auxSto_down _ x (List.mem_finRange x) ((auxAlloc_congr hregs x).symm.trans hx)

theorem stoTold_saf (s : State) : s.stoTold.saf = { s.saf with told := s.saf.told || s.mode.mode != .freeze } := by
  unfold State.stoTold
  split
  · next h =>
    rcases Bool.or_eq_true _ _ ▸ h with h | h
    · rw [h, Bool.true_or, ← h]
    · rw [show (s.mode.mode != .freeze) = false from by rw [bne, h]; rfl, Bool.or_false]
  · next h =>
    extract_lets u v w
    have F : Frame [.snt, .gd, .aux] w ((List.finRange 4).foldl State.auxSto w) := Frame.foldl _ _ Frame.auxSto w
    have G : Frame [.recs, .snt, .ax, .gd, .cmd] v w := Frame.foldl _ _ Frame.axSto v
    refine (F.keep .saf (by decide)).trans ((G.keep .saf (by decide)).trans (((Frame.testAbortAll _).keep .saf (by decide)).trans ?_))
    rw [Bool.or_eq_true, not_or] at h
    rw [show (s.mode.mode != .freeze) = true from by rw [bne, Bool.not_eq_true']; simpa using h.2, Bool.or_true]
    rfl

theorem stoTold_stopped (hsto : s.saf.sto = true) (hss1 : s.saf.ss1 = []) (htold : s.saf.told = false) (hfreeze : s.mode.mode ≠ .freeze) :
    s.stoTold.Stopped where
  sto := by rw [stoTold_saf]; exact hsto
  ss1 := by rw [stoTold_saf]; exact hss1
  ax := (stoTold_down s htold hfreeze).1
  aux := (stoTold_down s htold hfreeze).2

end

/-! ## What the safety logic keeps -/

/-- Of what a channel sees, the levels, the 24 V supply and the connections stand, and a fault of a pair stays. -/
structure SafView.Kept (v w : SafView) : Prop where
  filtA : w.filtA = v.filtA
  filtB : w.filtB = v.filtB
  v24sOut : w.v24sOut = v.v24sOut
  conn : w.conn = v.conn
  fault : ∀ p : Fin 9, v.fault[p] = true → w.fault[p] = true

/-- No channel switches an output on, and a fault of an output stays. -/
structure SafOut.Kept (o p : SafOut) : Prop where
  cmdC : o.cmdC = false → p.cmdC = false
  cmdB : o.cmdB = false → p.cmdB = false
  faultC : o.faultC = true → p.faultC = true
  faultB : o.faultB = true → p.faultB = true

/-- What the safety logic keeps of its own state: who is silent, the test pulses, the connections, what is latched, an STO, and what its channels see. -/
structure SafSt.Kept (x y : SafSt) : Prop where
  silent : y.silent = x.silent
  pulses : y.tpo0 = x.tpo0 ∧ y.tpo1 = x.tpo1
  conn : y.conn = x.conn
  latched : ∀ l ∈ x.latched, l ∈ y.latched
  sto : x.sto = true → y.sto = true
  ss1 : x.sto = true → x.ss1 = [] → y.ss1 = []
  cobalt : x.cobalt.Kept y.cobalt
  bronze : x.bronze.Kept y.bronze
  out : ∀ k : Fin 4, x.out[k].Kept y.out[k]

theorem SafView.Kept.refl (v : SafView) : v.Kept v := ⟨rfl, rfl, rfl, rfl, fun _ h => h⟩

theorem SafView.Kept.trans {u v w : SafView} (h : u.Kept v) (k : v.Kept w) : u.Kept w :=
  ⟨k.filtA.trans h.filtA, k.filtB.trans h.filtB, k.v24sOut.trans h.v24sOut, k.conn.trans h.conn, fun p hp => k.fault p (h.fault p hp)⟩

theorem SafOut.Kept.refl (o : SafOut) : o.Kept o := ⟨id, id, id, id⟩

theorem SafOut.Kept.trans {o p q : SafOut} (h : o.Kept p) (k : p.Kept q) : o.Kept q :=
  ⟨k.cmdC ∘ h.cmdC, k.cmdB ∘ h.cmdB, k.faultC ∘ h.faultC, k.faultB ∘ h.faultB⟩

namespace SafSt.Kept

theorem refl (x : SafSt) : x.Kept x := ⟨rfl, ⟨rfl, rfl⟩, rfl, fun _ h => h, id, fun _ h => h, .refl _, .refl _, fun _ => .refl _⟩

theorem trans {x y z : SafSt} (h : x.Kept y) (k : y.Kept z) : x.Kept z where
  silent := k.silent.trans h.silent
  pulses := ⟨k.pulses.1.trans h.pulses.1, k.pulses.2.trans h.pulses.2⟩
  conn := k.conn.trans h.conn
  latched l hl := k.latched l (h.latched l hl)
  sto := k.sto ∘ h.sto
  ss1 hs hx := k.ss1 (h.sto hs) (h.ss1 hs hx)
  cobalt := h.cobalt.trans k.cobalt
  bronze := h.bronze.trans k.bronze
  out i := (h.out i).trans (k.out i)

theorem modOut (x : SafSt) (k : Fin 4) {f : SafOut → SafOut} (hf : (x.out[k]).Kept (f x.out[k])) : x.Kept { x with out := vset x.out k f } where
  silent := rfl
  pulses := ⟨rfl, rfl⟩
  conn := rfl
  latched _ h := h
  sto := id
  ss1 _ h := h
  cobalt := .refl _
  bronze := .refl _
  out i := by
    by_cases h : i = k
    · subst h
      exact (vset_self x.out i f) ▸ hf
    · have hi : (vset x.out k f)[i] = x.out[i] := vset_ne _ _ _ _ (Ne.symm h)
      exact hi ▸ .refl _

end SafSt.Kept

/-- What the safety logic keeps as it acts: the supplies, FREEZE and SAFE, the bars of its paths, and axes that are stopped. -/
structure SafKept (s t : State) : Prop where
  pwr : t.pwr = s.pwr
  mode : t.mode.mode = s.mode.mode ∨ (t.mode.mode = .safe ∧ s.mode.mode ≠ .freeze)
  regs : ∀ a, (∀ m : Fin 6, Reg.AXn_CMD m ≠ a) → (∀ x : Fin 4, Reg.AUXn_CMD x ≠ a) → t.regs.get a = s.regs.get a
  blocked : s.gd.blocked = true → t.gd.blocked = true
  swOpen : s.gd.swClosed = false → t.gd.swClosed = false
  saf : s.saf.Kept t.saf
  stopped : s.Stopped → t.Stopped

namespace SafKept

variable {s t u : State}

theorem refl (s : State) : SafKept s s := ⟨rfl, .inl rfl, fun _ _ _ => rfl, id, id, .refl _, id⟩

theorem trans (h : SafKept s t) (k : SafKept t u) : SafKept s u where
  pwr := k.pwr.trans h.pwr
  mode := by
    rcases k.mode with hk | ⟨hk, hne⟩
    · rw [hk]
      exact h.mode
    · refine .inr ⟨hk, ?_⟩
      rcases h.mode with hh | ⟨-, hh⟩
      · rwa [hh] at hne
      · exact hh
  regs a hn hx := (k.regs a hn hx).trans (h.regs a hn hx)
  blocked := k.blocked ∘ h.blocked
  swOpen := k.swOpen ∘ h.swOpen
  saf := h.saf.trans k.saf
  stopped := k.stopped ∘ h.stopped

theorem ite {c : Prop} [Decidable c] (h : SafKept s t) (k : SafKept s u) : SafKept s (if c then t else u) := by
  split
  · exact h
  · exact k

theorem foldl {α : Type} {f : State → α → State} (l : List α) (h : SafKept s t) (hf : ∀ u a, SafKept u (f u a)) : SafKept s (l.foldl f t) := by
  induction l generalizing t with
  | nil => exact h
  | cons a l ih => exact ih (h.trans (hf t a))

/-- What changes the safety state and records alone. -/
theorem safOnly {K : List StPart} (F : Frame K s t) (hsaf : s.saf.Kept t.saf) (hpwr : .pwr ∉ K := by decide) (hmode : .mode ∉ K := by decide)
    (hregs : .regs ∉ K := by decide) (hgd : .gd ∉ K := by decide) (hax : .ax ∉ K := by decide) (haux : .aux ∉ K := by decide) : SafKept s t := by
  have hg : t.gd = s.gd := F.keep .gd hgd
  have hr : t.regs = s.regs := F.keep .regs hregs
  have hm : t.mode = s.mode := F.keep .mode hmode
  refine ⟨F.keep .pwr hpwr, .inl (by rw [hm]), fun _ _ _ => by rw [hr], by rw [hg]; exact id, by rw [hg]; exact id, hsaf, fun h => ?_⟩
  exact h.congr hr (F.keep .ax hax) (F.keep .aux haux) (hsaf.sto h.sto) (hsaf.ss1 h.sto h.ss1)

theorem frame {K : List StPart} (h : SafKept s t) (F : Frame K t u) (hsaf : .saf ∉ K := by decide) (hpwr : .pwr ∉ K := by decide)
    (hmode : .mode ∉ K := by decide) (hregs : .regs ∉ K := by decide) (hgd : .gd ∉ K := by decide) (hax : .ax ∉ K := by decide)
    (haux : .aux ∉ K := by decide) : SafKept s u :=
  h.trans (safOnly F (by rw [show u.saf = t.saf from F.keep .saf hsaf]; exact .refl _) hpwr hmode hregs hgd hax haux)

/-! What it keeps, told of a state. -/

theorem running (h : SafKept s t) (hrun : s.running = true) : t.running = true := by
  have hne := running_mode_ne hrun
  have hmode : t.mode.mode ≠ .freeze := by
    rcases h.mode with hm | ⟨hm, -⟩
    · rwa [hm]
    · rw [hm]
      decide
  simpa [State.running, h.pwr, run_phase hrun] using hmode

theorem hasLatched (h : SafKept s t) {c : Nat} (hc : s.hasLatched c = true) : t.hasLatched c = true := by
  obtain ⟨l, hl, heq⟩ := List.any_eq_true.1 hc
  exact List.any_eq_true.2 ⟨l, h.saf.latched l hl, heq⟩

theorem safe (h : SafKept s t) (hs : s.mode.mode = .safe) : t.mode.mode = .safe := by
  rcases h.mode with hm | ⟨hm, -⟩
  · exact hm.trans hs
  · exact hm

theorem safeBy (h : SafKept s t) {c : Nat} (hs : SafeBy s c) : SafeBy t c := ⟨h.safe hs.1, h.hasLatched hs.2⟩

theorem torqueOff (h : SafKept s t) {b c : Bool} (hs : TorqueOff s b c) : TorqueOff t b c := by
  obtain ⟨hstop, hb, hc⟩ := torqueOff_iff.1 hs
  exact torqueOff_iff.2 ⟨h.stopped hstop, fun hb' => h.blocked (hb hb'), fun hc' => h.swOpen (hc hc')⟩

theorem operates (h : SafKept s t) (hs : s.operates = true) : t.operates = true := by
  obtain ⟨hrun, hmode⟩ := Bool.and_eq_true_iff.1 hs
  refine Bool.and_eq_true_iff.2 ⟨h.running hrun, ?_⟩
  rcases h.mode with hm | ⟨hm, -⟩
  · rwa [hm]
  · rw [hm]
    rfl

theorem view (h : SafKept s t) (bronze : Bool) : (s.view bronze).Kept (t.view bronze) := by
  cases bronze
  · exact h.saf.cobalt
  · exact h.saf.bronze

end SafKept

/-! ## Each operation keeps it -/

section
variable {s : State}

theorem SafKept.onSaf {f : SafSt → SafSt} (h : s.saf.Kept (f s.saf)) : SafKept s (s.onSaf f) := safOnly (Frame.onSaf ..) h

theorem SafKept.safRec (s : State) (bronze : Bool) (time code detail a b : Nat) : SafKept s (s.safRec bronze time code detail a b) := by
  unfold State.safRec
  exact .ite (.refl s) (.ite (onSaf ⟨rfl, ⟨rfl, rfl⟩, rfl, fun _ h => h, id, fun _ h => h, .refl _, .refl _, fun _ => .refl _⟩) ((refl s).frame (Frame.emit ..)))

theorem SafKept.modSrst (s : State) (f : SrstSt → SrstSt) : SafKept s (s.modSrst f) :=
  onSaf ⟨rfl, ⟨rfl, rfl⟩, rfl, fun _ h => h, id, fun _ h => h, .refl _, .refl _, fun _ => .refl _⟩

theorem SafKept.srstRec (s : State) (time result ms : Nat) : SafKept s (s.srstRec time result ms) :=
  (modSrst s fun x => { x with result := result, ms := min ms 0xFFFF }).trans (safRec ..)

theorem SafKept.latch (s : State) (cause stamp : Nat) : SafKept s (s.latch cause stamp) := by
  unfold State.latch
  extract_lets u
  have hu : SafKept s u := .ite (.refl s)
    (onSaf ⟨rfl, ⟨rfl, rfl⟩, rfl, fun _ h => List.mem_append_left _ h, id, fun _ h => h, .refl _, .refl _, fun _ => .refl _⟩)
  clear_value u
  split
  · exact (hu.trans (modSrst ..)).trans (srstRec ..)
  · exact hu

theorem latch_hasLatched (s : State) (cause stamp : Nat) : (s.latch cause stamp).hasLatched cause = true := by
  unfold State.latch
  extract_lets u
  have hu : u.hasLatched cause = true := by
    unfold u
    split
    · assumption
    · exact List.any_eq_true.2 ⟨(cause, stamp), List.mem_append_right _ (List.mem_singleton.2 rfl), beq_self_eq_true _⟩
  clear_value u
  split
  · exact ((SafKept.modSrst ..).trans (SafKept.srstRec ..)).hasLatched hu
  · exact hu

theorem SafKept.enterSafe (s : State) (cause action flags : Nat) : SafKept s (s.enterSafe cause action flags) := by
  have henters (hne : s.mode.mode ≠ .freeze) : SafKept s
      (((s.onSaf (fun x => { x with first := cause })).changeMode .safe 0x0507 (cause + action * 0x10000) flags).commitAbort) := by
    refine trans (onSaf (f := fun x => { x with first := cause }) ⟨rfl, ⟨rfl, rfl⟩, rfl, fun _ h => h, id, fun _ h => h, .refl _, .refl _, fun _ => .refl _⟩) ?_
    refine frame ?_ (Frame.commitAbort _)
    have F := Frame.changeMode (s.onSaf (fun x => { x with first := cause })) .safe 0x0507 (cause + action * 0x10000) flags
    have hg := F.keep .gd (by decide)
    have hr := F.keep .regs (by decide)
    have hsaf := F.keep .saf (by decide)
    refine ⟨F.keep .pwr (by decide), .inr ⟨changeMode_mode .., hne⟩, fun _ _ _ => by rw [hr], by rw [hg]; exact id, by rw [hg]; exact id,
      by rw [hsaf]; exact .refl _, fun h => ?_⟩
    exact h.congr hr (F.keep .ax (by decide)) (F.keep .aux (by decide)) (by rw [hsaf]; exact h.sto) (by rw [hsaf]; exact h.ss1)
  unfold State.enterSafe
  split
  · next hm => exact henters (by rw [hm]; decide)
  · next hm => exact henters (by rw [hm]; decide)
  · next hm => exact henters (by rw [hm]; decide)
  · next hm => exact henters (by rw [hm]; decide)
  · exact refl s

theorem enterSafe_mode (cause action flags : Nat) (h : s.operates = true) : (s.enterSafe cause action flags).mode.mode = .safe := by
  have hcommit (u : State) : u.commitAbort.mode = u.mode := (Frame.commitAbort u).keep .mode (by decide)
  obtain ⟨-, hmode⟩ := Bool.and_eq_true_iff.1 h
  unfold State.enterSafe
  split
  · rw [hcommit]; exact changeMode_mode ..
  · rw [hcommit]; exact changeMode_mode ..
  · rw [hcommit]; exact changeMode_mode ..
  · rw [hcommit]; exact changeMode_mode ..
  · revert hmode
    cases hm : s.mode.mode <;> simp_all

theorem SafKept.modOut (s : State) (k : Fin 4) {f : SafOut → SafOut} (hf : (s.saf.out[k]).Kept (f s.saf.out[k])) : SafKept s (s.modOut k f) :=
  onSaf (.modOut s.saf k hf)

theorem SafKept.soDrop (s : State) (bronze : Bool) (k : Fin 4) : SafKept s (s.soDrop bronze k) := by
  refine modOut s k ?_
  cases bronze
  · by_cases h : s.saf.out[k].cmd = true
    · simp only [h]
      exact ⟨fun _ => rfl, id, id, id⟩
    · simp only [h]
      exact ⟨fun _ => rfl, id, id, id⟩
  · by_cases h : s.saf.out[k].cmd = true
    · simp only [h]
      exact ⟨id, fun _ => rfl, id, id⟩
    · simp only [h]
      exact ⟨id, fun _ => rfl, id, id⟩

theorem SafKept.soOff (s : State) (bronze : Bool) : SafKept s (s.soOff bronze) :=
  foldl _ (refl s) fun u k => .ite (soDrop u bronze k) (refl u)

theorem SafKept.sbcOff (s : State) (bronze : Bool) (k : Fin 4) (lead : Nat) : SafKept s (s.sbcOff bronze k lead) := by
  have hmark : SafKept s (s.modOut k fun o => if bronze then { o with sbcB := true } else { o with sbcC := true }) := by
    refine modOut s k ?_
    cases bronze
    · exact ⟨id, id, id, id⟩
    · exact ⟨id, id, id, id⟩
  unfold State.sbcOff
  exact .ite (.ite ((hmark.trans (soDrop ..)).trans (safRec ..)) (.ite (hmark.trans (soDrop ..)) hmark)) (refl s)

theorem SafKept.outputsOff (s : State) (bronze : Bool) : SafKept s (s.outputsOff bronze) :=
  (foldl _ (refl s) fun u k => sbcOff u bronze k 0).trans (soOff ..)

theorem SafKept.stoActs (s : State) (cause stamp : Nat) : SafKept s (s.stoActs cause stamp) := by
  unfold State.stoActs
  split
  · exact refl s
  · exact onSaf ⟨rfl, ⟨rfl, rfl⟩, rfl, fun _ h => h, fun _ => rfl, fun _ _ => rfl, ⟨rfl, rfl, rfl, rfl, fun _ h => h⟩, ⟨rfl, rfl, rfl, rfl, fun _ h => h⟩, fun _ => .refl _⟩

theorem SafKept.stoTold (s : State) : SafKept s s.stoTold := by
  have B := BarsKept.stoTold s
  have F := Frame.stoTold s
  have hsaf := stoTold_saf s
  have hmode : s.stoTold.mode = s.mode := F.keep .mode (by decide)
  refine ⟨F.keep .pwr (by decide), .inl (by rw [hmode]), B.regs, by rw [B.blocked]; exact id, by rw [B.swClosed]; exact id, ?_, fun h => ?_⟩
  · rw [hsaf]
    exact ⟨rfl, ⟨rfl, rfl⟩, rfl, fun _ h => h, id, fun _ h => h, .refl _, .refl _, fun _ => .refl _⟩
  · by_cases htold : (s.saf.told || s.mode.mode == .freeze) = true
    · rw [State.stoTold, if_pos htold]
      exact h
    · rw [Bool.or_eq_true, not_or] at htold
      exact stoTold_stopped h.sto h.ss1 (by simpa using htold.1) (by simpa using htold.2)

/-- The bars of the paths that act close. -/
theorem SafKept.bars (s : State) (b c : Bool) : SafKept s (s.onGd fun g => { g with blocked := g.blocked || b, swClosed := g.swClosed && !c }) where
  pwr := rfl
  mode := .inl rfl
  regs _ _ _ := rfl
  blocked h := by
    show (s.gd.blocked || b) = true
    rw [h, Bool.true_or]
  swOpen h := by
    show (s.gd.swClosed && !c) = false
    rw [h, Bool.false_and]
  saf := .refl _
  stopped h := h.congr rfl rfl rfl h.sto h.ss1

/-- A path that acts, up to the outputs: the bars close, STO acts, and the supervisor takes it where it hears of it. -/
def State.pathBars (s : State) (b c : Bool) (cause stamp : Nat) : State :=
  (s.onGd (fun g => { g with blocked := g.blocked || b, swClosed := g.swClosed && !c })).stoActs cause stamp

theorem pathAct_eq (s : State) (obs b c : Bool) (cause stamp : Nat) : ∃ k : Bool, k = (c && s.mode.mode != .freeze) ∧
    SafKept (if (s.pathBars b k cause stamp).heard k then (s.pathBars b k cause stamp).stoTold else s.pathBars b k cause stamp)
      (s.pathAct obs b c cause stamp) := by
  refine ⟨_, rfl, ?_⟩
  unfold State.pathAct State.pathBars
  extract_lets k first u v w x
  have hw : SafKept v w := .ite (.outputsOff ..) (.refl _)
  have hx : SafKept v x := hw.trans (.ite (.outputsOff ..) (.refl _))
  exact .ite (hx.trans (.safRec ..)) hx

theorem SafKept.pathBars (s : State) (b c : Bool) (cause stamp : Nat) : SafKept s (s.pathBars b c cause stamp) :=
  (bars s b c).trans (stoActs ..)

theorem SafKept.pathAct (s : State) (obs b c : Bool) (cause stamp : Nat) : SafKept s (s.pathAct obs b c cause stamp) := by
  obtain ⟨k, -, h⟩ := pathAct_eq s obs b c cause stamp
  exact trans (.ite ((pathBars ..).trans (stoTold _)) (pathBars ..)) h

theorem stoActs_gd (s : State) (cause stamp : Nat) : (s.stoActs cause stamp).gd = s.gd := (Frame.stoActs ..).keep .gd (by decide)

theorem stoActs_saf (s : State) (cause stamp : Nat) : (s.stoActs cause stamp).saf.sto = true ∧
    (s.saf.sto = false → (s.stoActs cause stamp).saf.told = false ∧ (s.stoActs cause stamp).saf.ss1 = []) := by
  unfold State.stoActs
  split
  · next h => exact ⟨h, fun hf => absurd h (by rw [hf]; decide)⟩
  · exact ⟨rfl, fun _ => ⟨rfl, rfl⟩⟩

theorem pathBars_gd (s : State) (b c : Bool) (cause stamp : Nat) :
    (b = true → (s.pathBars b c cause stamp).gd.blocked = true) ∧ (c = true → (s.pathBars b c cause stamp).gd.swClosed = false) := by
  unfold State.pathBars
  rw [stoActs_gd]
  refine ⟨fun h => ?_, fun h => ?_⟩
  · show (s.gd.blocked || b) = true
    rw [h, Bool.or_true]
  · show (s.gd.swClosed && !c) = false
    rw [h, Bool.not_true, Bool.and_false]

/-- Every path that acts closes its bar, and STO acts. -/
theorem pathAct_bars (obs b c : Bool) (cause stamp : Nat) (hc : c = true → s.mode.mode ≠ .freeze) :
    (s.pathAct obs b c cause stamp).saf.sto = true ∧ (b = true → (s.pathAct obs b c cause stamp).gd.blocked = true) ∧
    (c = true → (s.pathAct obs b c cause stamp).gd.swClosed = false) := by
  obtain ⟨k, hk, hkept⟩ := pathAct_eq s obs b c cause stamp
  have hall : SafKept (s.pathBars b k cause stamp) (s.pathAct obs b c cause stamp) := .trans (.ite (.stoTold _) (.refl _)) hkept
  obtain ⟨hb, hsw⟩ := pathBars_gd s b k cause stamp
  refine ⟨hall.saf.sto (stoActs_saf _ cause stamp).1, fun h => hall.blocked (hb h), fun h => hall.swOpen (hsw ?_)⟩
  rw [hk, h]
  simpa using hc h

/-- An STO that the supervisor hears of stops every axis. -/
theorem pathAct_stops (obs b c : Bool) (cause stamp : Nat) (hfreeze : s.mode.mode ≠ .freeze) (hheard : s.heard c = true)
    (hsto : s.saf.sto = true → s.Stopped) : (s.pathAct obs b c cause stamp).Stopped := by
  obtain ⟨k, hk, hkept⟩ := pathAct_eq s obs b c cause stamp
  have hkc : k = c := by rw [hk, show (s.mode.mode != .freeze) = true by simpa using hfreeze, Bool.and_true]
  subst hkc
  have hbars := SafKept.pathBars s b k cause stamp
  have hear : (s.pathBars b k cause stamp).heard k = true := by
    unfold State.heard at *
    rw [hbars.saf.silent]
    exact hheard
  rw [if_pos hear] at hkept
  refine hkept.stopped ?_
  cases hs : s.saf.sto
  · obtain ⟨hacts, hnew⟩ := stoActs_saf (s.onGd (fun g => { g with blocked := g.blocked || b, swClosed := g.swClosed && !k })) cause stamp
    obtain ⟨htold, hss1⟩ := hnew hs
    refine stoTold_stopped hacts hss1 htold ?_
    rw [show (s.pathBars b k cause stamp).mode = s.mode from
      ((Frame.stoActs ..).keep .mode (by decide)).trans ((Frame.onGd ..).keep .mode (by decide))]
    exact hfreeze
  · exact (hbars.trans (.stoTold _)).stopped (hsto hs)

theorem pathAct_torqueOff (obs b c : Bool) (cause stamp : Nat) (hfreeze : s.mode.mode ≠ .freeze) (hheard : s.heard c = true)
    (hsto : s.saf.sto = true → s.Stopped) : TorqueOff (s.pathAct obs b c cause stamp) b c := by
  obtain ⟨-, hb, hc⟩ := pathAct_bars (s := s) obs b c cause stamp fun _ => hfreeze
  exact torqueOff_iff.2 ⟨pathAct_stops obs b c cause stamp hfreeze hheard hsto, hb, hc⟩

end

end Sys2Proof.Machine
end

section
/-! PROOF. The causes that remove torque: a channel acts on a cause, evaluates its demands, or finds a fault (R333, R337, R339, R344, R345). -/
set_option Elab.async false

namespace Sys2Proof.Machine

section
variable {s : State}

/-! ## An SS1 that begins -/

/-- What stops axes under an SS1 keeps what the safety logic keeps, while no STO acts. -/
theorem SafKept.ofBars {K : List StPart} {t : State} (F : Frame K s t) (B : BarsKept s t) (hsto : s.saf.sto = false)
    (hsaf : .saf ∉ K := by decide) (hpwr : .pwr ∉ K := by decide) (hmode : .mode ∉ K := by decide) : SafKept s t := by
  have hkept : t.saf = s.saf := F.keep .saf hsaf
  have hm : t.mode = s.mode := F.keep .mode hmode
  refine ⟨F.keep .pwr hpwr, .inl (by rw [hm]), B.regs, by rw [B.blocked]; exact id, by rw [B.swClosed]; exact id, by rw [hkept]; exact .refl _,
    fun h => absurd h.sto (by rw [hsto]; decide)⟩

theorem SafKept.ss1Begin (bronze : Bool) (k : Nat) (hsto : s.saf.sto = false) :
    SafKept s (s.ss1Begin bronze k) ∧ (s.ss1Begin bronze k).saf.sto = false := by
  have hlist (f : List Ss1Run → List Ss1Run) : SafKept s (s.onSaf fun x => { x with ss1 := f x.ss1 }) :=
    onSaf ⟨rfl, ⟨rfl, rfl⟩, rfl, fun _ h => h, id, fun h => absurd h (by rw [hsto]; decide), .refl _, .refl _, fun _ => .refl _⟩
  unfold State.ss1Begin
  extract_lets n0 run u
  split
  · exact ⟨hlist _, hsto⟩
  · have hu : SafKept s u := hlist fun l => l ++ [run]
    have husto : u.saf.sto = false := hsto
    clear_value u
    have F := Frame.ss1Stop u
    split
    · exact ⟨hu.trans (.ofBars F (.ss1Stop u) husto), by rw [F.keep .saf (by decide)]; exact husto⟩
    · exact ⟨hu, husto⟩

theorem SafKept.ss1Begins (slots : List Nat) (b c : Bool) (hsto : s.saf.sto = false) :
    SafKept s (slots.foldl (fun (s : State) (k : Nat) =>
      let s := if c then s.ss1Begin false k else s
      if b then s.ss1Begin true k else s) s) ∧
    (slots.foldl (fun (s : State) (k : Nat) =>
      let s := if c then s.ss1Begin false k else s
      if b then s.ss1Begin true k else s) s).saf.sto = false := by
  induction slots generalizing s with
  | nil => exact ⟨.refl s, hsto⟩
  | cons k slots ih =>
    have hstep (u : State) (a bronze : Bool) (h : u.saf.sto = false) :
        SafKept u (if a then u.ss1Begin bronze k else u) ∧ (if a then u.ss1Begin bronze k else u).saf.sto = false := by
      split
      · exact ss1Begin bronze k h
      · exact ⟨.refl u, h⟩
    obtain ⟨hc, hcsto⟩ := hstep s c false hsto
    obtain ⟨hb, hbsto⟩ := hstep _ b true hcsto
    obtain ⟨hrest, hend⟩ := ih hbsto
    exact ⟨(hc.trans hb).trans hrest, hend⟩

/-! ## A channel acts on a cause -/

/-- A cause latches, and the device enters SAFE where the supervisor hears of it. -/
def State.safEnter (s : State) (c : Bool) (cause stamp : Nat) : State :=
  if (s.latch cause stamp).heard c then (s.latch cause stamp).enterSafe cause (s.actionOf cause) else s.latch cause stamp

theorem safAct_eq (obs b c : Bool) (cause stamp : Nat) (hlive : s.safLive = true) (hfreeze : (b || s.mode.mode != .freeze) = true) :
    s.safAct obs b c cause stamp =
      if s.actionOf cause = 1 ∨ (s.safEnter c cause stamp).saf.sto = true then (s.safEnter c cause stamp).pathAct obs b c cause stamp
      else ((s.safEnter c cause stamp).causeSlots cause).foldl (fun (s : State) (k : Nat) =>
        let s := if c then s.ss1Begin false k else s
        if b then s.ss1Begin true k else s) (s.safEnter c cause stamp) := by
  unfold State.safAct
  rw [if_pos (by rw [hlive, hfreeze]; rfl)]
  show (if (decide (s.actionOf cause = 1) || (s.safEnter c cause stamp).saf.sto) = true then _ else _) = _
  simp only [Bool.or_eq_true, decide_eq_true_eq]
  rfl

theorem SafKept.safEnter (s : State) (c : Bool) (cause stamp : Nat) : SafKept s (s.safEnter c cause stamp) :=
  .ite ((latch ..).trans (enterSafe ..)) (latch ..)

theorem SafKept.safAct (s : State) (obs b c : Bool) (cause stamp : Nat) : SafKept s (s.safAct obs b c cause stamp) := by
  by_cases h : (s.safLive && (b || s.mode.mode != .freeze)) = true
  · obtain ⟨hlive, hfreeze⟩ := Bool.and_eq_true_iff.1 h
    rw [safAct_eq obs b c cause stamp hlive hfreeze]
    split
    · exact (safEnter ..).trans (pathAct ..)
    · next hnot => exact (safEnter ..).trans (ss1Begins _ b c (by simpa using (not_or.1 hnot).2)).1
  · rw [State.safAct, if_neg h]
    exact .refl s

theorem operates_live (h : s.operates = true) : s.safLive = true := by
  have hrun := (Bool.and_eq_true_iff.1 h).1
  rw [State.safLive, run_phase hrun]
  rfl

theorem operates_running (h : s.operates = true) : s.running = true := (Bool.and_eq_true_iff.1 h).1

theorem operates_freeze (h : s.operates = true) : s.mode.mode ≠ .freeze := running_mode_ne (operates_running h)

theorem heard_kept {t : State} (h : SafKept s t) (c : Bool) : t.heard c = s.heard c := by
  unfold State.heard
  rw [h.saf.silent]

theorem heard_of_speaking {c : Bool} (h : s.saf.silent = false) : s.heard c = true := by
  rw [State.heard, h, Bool.not_false, Bool.or_true]

theorem heard_by_cobalt (s : State) : s.heard true = true := by rw [State.heard, Bool.true_or]

theorem safEnter_safeBy {c : Bool} (cause stamp : Nat) (hop : s.operates = true) (hheard : s.heard c = true) :
    SafeBy (s.safEnter c cause stamp) cause := by
  have hlatch := SafKept.latch s cause stamp
  unfold State.safEnter
  rw [if_pos ((heard_kept hlatch c).trans hheard)]
  exact ⟨enterSafe_mode _ _ _ (hlatch.operates hop), (SafKept.enterSafe ..).hasLatched (latch_hasLatched s cause stamp)⟩

/-! Neither the latch nor the entry of SAFE changes whether STO acts. -/

theorem safRec_sto (s : State) (bronze : Bool) (time code detail a b : Nat) : (s.safRec bronze time code detail a b).saf.sto = s.saf.sto := by
  unfold State.safRec
  split
  · rfl
  · split
    · rfl
    · exact congrArg SafSt.sto ((Frame.emit ..).keep .saf (by decide))

theorem latch_sto (s : State) (cause stamp : Nat) : (s.latch cause stamp).saf.sto = s.saf.sto := by
  unfold State.latch
  extract_lets u
  have hu : u.saf.sto = s.saf.sto := by
    unfold u
    split
    · rfl
    · rfl
  clear_value u
  split
  · exact (safRec_sto ..).trans hu
  · exact hu

theorem enterSafe_sto (s : State) (cause action flags : Nat) : (s.enterSafe cause action flags).saf.sto = s.saf.sto := by
  have hin : (((s.onSaf (fun x => { x with first := cause })).changeMode .safe 0x0507 (cause + action * 0x10000) flags).commitAbort).saf.sto = s.saf.sto := by
    rw [(Frame.commitAbort _).keep .saf (by decide), (Frame.changeMode ..).keep .saf (by decide), State.onSaf_saf]
  unfold State.enterSafe
  split
  · exact hin
  · exact hin
  · exact hin
  · exact hin
  · rfl

theorem safEnter_sto (s : State) (c : Bool) (cause stamp : Nat) : (s.safEnter c cause stamp).saf.sto = s.saf.sto := by
  unfold State.safEnter
  split
  · exact (enterSafe_sto ..).trans (latch_sto ..)
  · exact latch_sto ..

/-- A cause of class STO of which the supervisor hears takes the device into SAFE and removes torque. -/
theorem safAct_removes (obs b c : Bool) (cause stamp : Nat) (hop : s.operates = true) (hheard : s.heard c = true) (hact : s.actionOf cause = 1)
    (hsto : s.saf.sto = true → s.Stopped) : TorqueOff (s.safAct obs b c cause stamp) b c ∧ SafeBy (s.safAct obs b c cause stamp) cause := by
  have hfreeze : (b || s.mode.mode != .freeze) = true := by rw [show (s.mode.mode != .freeze) = true by simpa using operates_freeze hop, Bool.or_true]
  have henter := SafKept.safEnter s c cause stamp
  rw [safAct_eq obs b c cause stamp (operates_live hop) hfreeze, if_pos (.inl hact)]
  refine ⟨pathAct_torqueOff obs b c cause stamp (operates_freeze (henter.operates hop)) ((heard_kept henter c).trans hheard) fun h => henter.stopped (hsto ?_),
    (SafKept.pathAct ..).safeBy (safEnter_safeBy cause stamp hop hheard)⟩
  rw [← safEnter_sto s c cause stamp]
  exact h

/-- What an STO of which the supervisor hears leaves: where STO acts at the end, every axis is stopped. -/
theorem safAct_settled (obs b c : Bool) (cause stamp : Nat) (hfreeze : s.mode.mode ≠ .freeze) (hheard : s.heard c = true)
    (hsto : s.saf.sto = true → s.Stopped) (hend : (s.safAct obs b c cause stamp).saf.sto = true) : (s.safAct obs b c cause stamp).Stopped := by
  by_cases hlive : s.safLive = true
  · have henter := SafKept.safEnter s c cause stamp
    have hstops : (s.safEnter c cause stamp).saf.sto = true → (s.safEnter c cause stamp).Stopped := fun h =>
      henter.stopped (hsto ((safEnter_sto s c cause stamp) ▸ h))
    have hthere : (s.safEnter c cause stamp).mode.mode ≠ .freeze := by
      rcases henter.mode with hm | ⟨hm, -⟩
      · rwa [hm]
      · rw [hm]
        decide
    rw [safAct_eq obs b c cause stamp hlive (by rw [show (s.mode.mode != .freeze) = true by simpa using hfreeze, Bool.or_true])] at hend ⊢
    split at hend
    · next h =>
      rw [if_pos h]
      exact pathAct_stops obs b c cause stamp hthere ((heard_kept henter c).trans hheard) hstops
    · next h =>
      have hnot : (s.safEnter c cause stamp).saf.sto = false := by simpa using (not_or.1 h).2
      rw [(SafKept.ss1Begins _ b c hnot).2] at hend
      cases hend
  · rw [State.safAct, if_neg (by simp [hlive])] at hend ⊢
    exact hsto hend


/-! ## Demands and faults -/

/-- A cause that is no demand of a slot and no lost connection is of class STO. -/
theorem actionOf_sto {cause : Nat} (h1 : cause / 256 ≠ 1) (h4 : cause / 256 ≠ 4) : s.actionOf cause = 1 := by
  have hslots : s.causeSlots cause = [] := by
    unfold State.causeSlots
    split
    · contradiction
    · contradiction
    · rfl
  unfold State.actionOf
  rw [hslots]
  split
  · rfl
  · rfl

/-- A view that changes in what has been acted on alone. -/
theorem SafKept.acted (s : State) (bronze : Bool) (f : List Nat → List Nat) : SafKept s (s.modView bronze fun x => { x with acted := f x.acted }) := by
  cases bronze
  · exact onSaf ⟨rfl, ⟨rfl, rfl⟩, rfl, fun _ h => h, id, fun _ h => h, ⟨rfl, rfl, rfl, rfl, fun _ h => h⟩, .refl _, fun _ => .refl _⟩
  · exact onSaf ⟨rfl, ⟨rfl, rfl⟩, rfl, fun _ h => h, id, fun _ h => h, .refl _, ⟨rfl, rfl, rfl, rfl, fun _ h => h⟩, fun _ => .refl _⟩

/-- A channel acts on a new demand of the view `v`, with its record where it is the first channel to do so. -/
def State.demandAct (bronze : Bool) (v : SafView) (s : State) (c : Nat) : State :=
  (if !(s.view (!bronze)).acted.contains c then s.safRec bronze (s.demandStamp v c) 0x0D01 c (s.actionOf c) 0 else s).safAct bronze bronze (!bronze) c
    (s.demandStamp v c)

/-- The demands of a channel on which it has not acted. -/
def State.newDemands (s : State) (bronze : Bool) : List Nat := (s.demands (s.view bronze)).filter fun c => !(s.view bronze).acted.contains c

theorem safEval_eq (s : State) (bronze : Bool) : s.safEval bronze =
    (s.newDemands bronze).foldl (State.demandAct bronze (s.view bronze))
      (s.modView bronze fun x => { x with acted := x.acted.filter (s.demands (s.view bronze)).contains ++ s.newDemands bronze }) := rfl

theorem SafKept.demandAct (bronze : Bool) (v : SafView) (s : State) (c : Nat) : SafKept s (s.demandAct bronze v c) :=
  trans (.ite (safRec ..) (refl s)) (safAct ..)

theorem SafKept.safEval (s : State) (bronze : Bool) : SafKept s (s.safEval bronze) := by
  rw [safEval_eq]
  exact foldl _ (acted s bronze fun l => l.filter (s.demands (s.view bronze)).contains ++ s.newDemands bronze) fun u c => demandAct bronze _ u c

theorem SafKept.chanFault (s : State) (sub : Nat) (b c bronze : Bool) : SafKept s (s.chanFault sub b c bronze) := by
  unfold State.chanFault
  exact .ite (refl s) ((safRec ..).trans (safAct ..))

/-- A new fault of a channel removes torque. -/
theorem chanFault_removes {sub : Nat} (b c bronze : Bool) (hsub : sub < 256) (hop : s.operates = true) (hheard : s.heard c = true)
    (hnew : s.hasLatched (0x700 + sub) = false) (hsto : s.saf.sto = false) :
    TorqueOff (s.chanFault sub b c bronze) b c ∧ SafeBy (s.chanFault sub b c bronze) (0x700 + sub) := by
  have hrec := SafKept.safRec s bronze s.tb 0x0D08 sub s.saf.cmpCount 0
  have hcause : (0x700 + sub) / 256 = 7 := by omega
  unfold State.chanFault
  rw [if_neg (by rw [operates_live hop, hnew]; decide)]
  refine safAct_removes bronze b c _ _ (hrec.operates hop) ((heard_kept hrec c).trans hheard) (actionOf_sto (by omega) (by omega)) fun h => ?_
  rw [safRec_sto, hsto] at h
  cases h

theorem SafKept.soFault (s : State) (bronze : Bool) (k : Fin 4) (kind mv : Nat) : SafKept s (s.soFault bronze k kind mv) := by
  have hmark : SafKept s (s.modOut k (fun o => if bronze then { o with faultB := true } else { o with faultC := true })) := by
    refine modOut s k ?_
    cases bronze
    · exact ⟨id, id, fun _ => rfl, id⟩
    · exact ⟨id, id, id, fun _ => rfl⟩
  unfold State.soFault
  exact .ite (refl s) ((SafKept.ite (hmark.trans (soOff ..)) ((hmark.trans (soOff ..)).trans (safRec ..))).trans (safAct ..))

end

end Sys2Proof.Machine
end

section
/-! PROOF. SS1 comes to STO, and safe outputs: brake control, dark tests, faults and current limit (R335 to R345). -/
set_option Elab.async false

namespace Sys2Proof.Machine

section
variable {s : State} {dt : Nat} {bronze : Bool}

theorem operates_chanLive (hop : s.operates = true) : s.chanLive bronze = true := by
  rw [State.chanLive, operates_live hop, operates_running hop, Bool.or_true]
  rfl

/-! ## SS1 at the end of its time, and at the end of its lead -/

/-- A channel's timer of an SS1 has run out. -/
def State.ss1Over (s : State) (bronze : Bool) (r : Ss1Run) : Bool :=
  match r.since bronze with
  | some t0 => decide (t0 + nsOf (s.regs.SAF_FNk_T r.slot) ≤ s.now)
  | none => false

/-- The lead of an SS1 at standstill has run out in a channel. -/
def State.leadOver (s : State) (bronze : Bool) (r : Ss1Run) : Bool :=
  match r.stand bronze with
  | some t => decide (t + s.leadNs r.slot ≤ s.now)
  | none => false

theorem find?_of_mem {α : Type} {p : α → Bool} {l : List α} {a : α} (h : a ∈ l) (hp : p a = true) : ∃ b, l.find? p = some b :=
  Option.isSome_iff_exists.1 (List.find?_isSome.2 ⟨a, h, hp⟩)

theorem ss1Sto_over {r : Ss1Run} (hop : s.operates = true) (hr : r ∈ s.saf.ss1) (hover : s.ss1Over bronze r = true) :
    ∃ slot, s.ss1Sto bronze = s.ss1End bronze slot := by
  obtain ⟨q, hq⟩ := find?_of_mem hr hover
  refine ⟨q.slot, ?_⟩
  unfold State.ss1Sto
  show (if s.chanLive bronze = true then (match s.saf.ss1.find? (s.ss1Over bronze) with | some r => s.ss1End bronze r.slot | none => s) else s) = _
  rw [if_pos (operates_chanLive hop), hq]

theorem ss1Lead_over {r : Ss1Run} (hop : s.operates = true) (hr : r ∈ s.saf.ss1) (hover : s.leadOver bronze r = true) :
    ∃ slot, s.ss1Lead bronze = s.ss1End bronze slot := by
  obtain ⟨q, hq⟩ := find?_of_mem hr hover
  refine ⟨q.slot, ?_⟩
  unfold State.ss1Lead
  show (match s.saf.ss1.find? (s.leadOver bronze) with | some r => (if s.chanLive bronze = true then s.ss1End bronze r.slot else s) | none => s) = _
  rw [hq]
  exact if_pos (operates_chanLive hop)

/-- The end of an SS1 removes torque by both paths and leaves the mode. -/
theorem ss1End_removes (slot : Nat) (hop : s.operates = true) (hsto : s.saf.sto = false) :
    TorqueOff (s.ss1End bronze slot) true true ∧ (s.ss1End bronze slot).mode.mode = s.mode.mode :=
  ⟨pathAct_torqueOff _ _ _ _ _ (operates_freeze hop) (heard_by_cobalt s) fun h => absurd h (by rw [hsto]; decide),
    congrArg ModeSt.mode ((Frame.pathAct ..).keep .mode (by decide))⟩

theorem exec_ss1Sto {r : Ss1Run} {t0 : Nat} (hop : s.operates = true) (hsto : s.saf.sto = false) (hr : r ∈ s.saf.ss1)
    (hsince : (if bronze then r.atB else r.atC) = some t0) (hlong : t0 + nsOf (s.regs.SAF_FNk_T r.slot) ≤ (s.advance dt).now) :
    ∃ t, exec (.ss1Sto dt bronze) s = .next t ∧ TorqueOff t true true ∧ t.mode.mode = s.mode.mode := by
  have hover : (s.advance dt).ss1Over bronze r = true := by
    unfold State.ss1Over Ss1Run.since
    rw [hsince]
    exact decide_eq_true hlong
  obtain ⟨slot, hslot⟩ := ss1Sto_over (s := s.advance dt) hop hr hover
  exact ⟨_, exec_next_of rfl hslot, ss1End_removes (s := s.advance dt) slot hop hsto⟩

theorem exec_ss1Lead {r : Ss1Run} {t0 : Nat} (hop : s.operates = true) (hsto : s.saf.sto = false) (hr : r ∈ s.saf.ss1)
    (hstand : r.stand bronze = some t0) (hlong : t0 + s.leadNs r.slot ≤ (s.advance dt).now) :
    ∃ t, exec (.ss1rLeadExpiry dt bronze) s = .next t ∧ TorqueOff t true true ∧ t.mode.mode = s.mode.mode := by
  have hover : (s.advance dt).leadOver bronze r = true := by
    unfold State.leadOver
    rw [hstand]
    exact decide_eq_true hlong
  obtain ⟨slot, hslot⟩ := ss1Lead_over (s := s.advance dt) hop hr hover
  exact ⟨_, exec_next_of rfl hslot, ss1End_removes (s := s.advance dt) slot hop hsto⟩

/-! ## Brake outputs: SBC and standstill -/

theorem vset_congr {α : Type} {n : Nat} {v : Vector α n} {i : Fin n} {f g : α → α} (h : f v[i] = g v[i]) : vset v i f = vset v i g := by
  rw [vset, vset, h]

/-- A pass over distinct indices brings about at one of them what its own turn brings about. -/
theorem foldl_reaches {n : Nat} {f : State → Fin n → State} {k : Fin n} {Q R : State → Prop} (hother : ∀ u m, m ≠ k → Q u → Q (f u m))
    (hself : ∀ u, Q u → R (f u k)) (hkeep : ∀ u m, m ≠ k → R u → R (f u m)) {l : List (Fin n)} (hl : l.Nodup) (hk : k ∈ l) {u : State} (hu : Q u) :
    R (l.foldl f u) := by
  induction l generalizing u with
  | nil => cases hk
  | cons m l ih =>
    obtain ⟨hm, hl⟩ := List.nodup_cons.1 hl
    by_cases hmk : m = k
    · subst hmk
      have hrest : ∀ (l : List (Fin n)), m ∉ l → ∀ v, R v → R (l.foldl f v) := by
        intro l
        induction l with
        | nil => exact fun _ _ h => h
        | cons j l ih =>
          intro hj v hv
          obtain ⟨hjm, hjl⟩ := not_or.1 (List.mem_cons.not.1 hj)
          exact ih hjl _ (hkeep v j (Ne.symm hjm) hv)
      exact hrest l hm _ (hself u hu)
    · exact ih hl ((List.mem_cons.1 hk).resolve_left (Ne.symm hmk)) (hother u m hmk hu)

theorem safRec_emit {time code detail a b : Nat} (hfreeze : s.mode.mode ≠ .freeze) (hsilent : s.saf.silent = false) :
    s.safRec bronze time code detail a b = s.emit time (if bronze then Unit.bronze else Unit.cobalt) 8 0
      (leBytes 2 code ++ leBytes 2 detail ++ leBytes 4 a ++ leBytes 8 b) := by
  unfold State.safRec
  dsimp only
  rw [if_neg hfreeze, hsilent, Bool.and_false]
  rfl

/-- A record of the safety logic changes none of its state but what waits while Cobalt is silent. -/
theorem safRec_saf (s : State) (bronze : Bool) (time code detail a b : Nat) :
    ∃ l, (s.safRec bronze time code detail a b).saf = { s.saf with owed := l } := by
  unfold State.safRec
  split
  · exact ⟨_, rfl⟩
  · split
    · exact ⟨_, rfl⟩
    · exact ⟨_, (Frame.emit ..).keep .saf (by decide)⟩

/-- A brake output that a channel takes off for an SS1. -/
def State.sbcDropped (s : State) (bronze : Bool) (k : Fin 4) (o : SafOut) : SafOut :=
  let w := if s.regs.SAF_SOk_CFG_EDM_EN k then some (true, s.now + s.soEdm k) else none
  let o := { o with offAt := s.now, offInTest := o.darkC.isSome || o.darkB.isSome, edmB := w, edmC := w }
  if bronze then { o with sbcB := true, cmdB := false, swB := false } else { o with sbcC := true, cmdC := false, swC := false }

theorem sbcOff_on {k : Fin 4} {lead : Nat} (hfreeze : s.mode.mode ≠ .freeze) (hmode : s.regs.SAF_SOk_CFG_MODE k = 1)
    (hsbc : (if bronze then s.saf.out[k].sbcB else s.saf.out[k].sbcC) = false) (hcmd : s.saf.out[k].cmd = true) :
    s.sbcOff bronze k lead = (s.modOut k (s.sbcDropped bronze k)).safRec bronze s.tb 0x0D0B k lead 0 := by
  unfold State.sbcOff
  dsimp only
  rw [if_pos (by rw [hmode, hsbc]; rfl), if_pos hcmd]
  refine congrArg (fun u : State => u.safRec bronze s.tb 0x0D0B k lead 0) ?_
  unfold State.soDrop State.modOut State.onSaf
  dsimp only
  rw [vset_vset]
  congr 2
  refine vset_congr ?_
  rw [if_neg hfreeze]
  generalize s.saf.out[k] = o at hcmd
  cases bronze
  · exact congrArg (fun o : SafOut => { o with cmdC := false, swC := false }) (if_pos hcmd)
  · exact congrArg (fun o : SafOut => { o with cmdB := false, swB := false }) (if_pos hcmd)

/-- The SS1 whose time for its brake has come in a channel. -/
def State.sbcDue (s : State) (bronze : Bool) (r : Ss1Run) : Bool :=
  match r.typ == 2, r.since bronze with
  | true, some t => decide (t + (nsOf (s.regs.SAF_FNk_T r.slot) - s.leadNs r.slot) ≤ s.now)
  | _, _ => false

theorem sbc_due {k : Fin 4} {r : Ss1Run} (hop : s.operates = true) (hr : r ∈ s.saf.ss1) (hdue : s.sbcDue bronze r = true) :
    ∃ lead, s.sbc k bronze = s.sbcOff bronze k lead := by
  obtain ⟨q, hq⟩ := find?_of_mem hr hdue
  refine ⟨s.leadNs q.slot / 1000, ?_⟩
  unfold State.sbc
  show (match s.saf.ss1.find? (s.sbcDue bronze) with
    | some r => (if s.chanLive bronze = true then s.sbcOff bronze k (s.leadNs r.slot / 1000) else s) | none => s) = _
  rw [hq]
  exact if_pos (operates_chanLive hop)

theorem exec_sbc {k : Fin 4} {r : Ss1Run} {t0 : Nat} (hop : s.operates = true) (hsilent : s.saf.silent = false) (hr : r ∈ s.saf.ss1) (htyp : r.typ = 2)
    (hsince : r.since bronze = some t0) (hlong : t0 + (nsOf (s.regs.SAF_FNk_T r.slot) - s.leadNs r.slot) ≤ (s.advance dt).now)
    (hmode : s.regs.SAF_SOk_CFG_MODE k = 1) (hsbc : (if bronze then s.saf.out[k].sbcB else s.saf.out[k].sbcC) = false) (hcmd : s.saf.out[k].cmd = true) :
    ∃ t, exec (.sbc dt k bronze) s = .next t ∧ t.but s = { s.advance dt with
      recs := t.recs, saf := { s.saf with out := vset s.saf.out k ((s.advance dt).sbcDropped bronze k) } } := by
  have hdue : (s.advance dt).sbcDue bronze r = true := by
    unfold State.sbcDue
    rw [htyp, hsince]
    exact decide_eq_true hlong
  obtain ⟨lead, hlead⟩ := sbc_due (s := s.advance dt) (k := k) hop hr hdue
  have hoff := sbcOff_on (s := s.advance dt) (lead := lead) (operates_freeze hop) hmode hsbc hcmd
  have hemit := safRec_emit (s := (s.advance dt).modOut k ((s.advance dt).sbcDropped bronze k)) (bronze := bronze) (time := s.tbAt dt) (code := 0x0D0B)
    (detail := k) (a := lead) (b := 0) (operates_freeze hop) hsilent
  exact ⟨_, exec_next_of rfl (hlead.trans (hoff.trans hemit)), (but_of_recs (Frame.emit ..)).trans rfl⟩

/-- The outputs of a pass for an SS1: the SBC outputs of the channel go off, and neither the SS1 nor the axes change. -/
def State.sbcPass (s : State) (bronze : Bool) (slot : Nat) : State :=
  (List.finRange 4).foldl (fun (s : State) (k : Fin 4) => s.sbcOff bronze k (s.leadNs slot / 1000)) s

theorem Frame.sbcPass (s : State) (bronze : Bool) (slot : Nat) : Frame [.recs, .saf] s (s.sbcPass bronze slot) :=
  Frame.foldl _ _ (fun u k => Frame.sbcOff u bronze k _) s

theorem SafKept.sbcPass (s : State) (bronze : Bool) (slot : Nat) : SafKept s (s.sbcPass bronze slot) :=
  foldl _ (refl s) fun u k => sbcOff u bronze k _

/-- An operation on output `k` leaves STO, the SS1 that run and the other outputs. -/
structure OutOnly (k : Fin 4) (s t : State) : Prop where
  sto : t.saf.sto = s.saf.sto
  ss1 : t.saf.ss1 = s.saf.ss1
  out : ∀ m, m ≠ k → t.saf.out[m] = s.saf.out[m]

theorem OutOnly.trans {k : Fin 4} {s t u : State} (h : OutOnly k s t) (g : OutOnly k t u) : OutOnly k s u :=
  ⟨g.sto.trans h.sto, g.ss1.trans h.ss1, fun m hm => (g.out m hm).trans (h.out m hm)⟩

theorem OutOnly.ite {k : Fin 4} {s t u : State} {c : Prop} [Decidable c] (h : OutOnly k s t) (g : OutOnly k s u) : OutOnly k s (if c then t else u) := by
  split
  · exact h
  · exact g

theorem OutOnly.modOut (s : State) (k : Fin 4) (f : SafOut → SafOut) : OutOnly k s (s.modOut k f) :=
  ⟨rfl, rfl, fun _ hm => vset_ne _ _ _ _ (Ne.symm hm)⟩

theorem OutOnly.soDrop (s : State) (bronze : Bool) (k : Fin 4) : OutOnly k s (s.soDrop bronze k) := modOut s k _

theorem OutOnly.safRec (s : State) (k : Fin 4) (bronze : Bool) (time code detail a b : Nat) : OutOnly k s (s.safRec bronze time code detail a b) := by
  obtain ⟨l, hl⟩ := safRec_saf s bronze time code detail a b
  exact ⟨by rw [hl], by rw [hl], fun m _ => by rw [hl]⟩

theorem OutOnly.sbcOff (s : State) (bronze : Bool) (k : Fin 4) (lead : Nat) : OutOnly k s (s.sbcOff bronze k lead) := by
  unfold State.sbcOff
  exact .ite (.ite (((modOut ..).trans (soDrop ..)).trans (safRec ..)) (.ite ((modOut ..).trans (soDrop ..)) (modOut ..))) ⟨rfl, rfl, fun _ _ => rfl⟩

theorem leadNs_congr {t : State} (h : t.regs = s.regs) (k : Nat) : t.leadNs k = s.leadNs k := by
  rw [State.leadNs, State.leadNs, h]

theorem sbcPass_ss1 (s : State) (bronze : Bool) (slot : Nat) :
    (s.sbcPass bronze slot).saf.sto = s.saf.sto ∧ (s.sbcPass bronze slot).saf.ss1 = s.saf.ss1 := by
  have h : ∀ (l : List (Fin 4)) (u : State), (l.foldl (fun (s : State) (k : Fin 4) => s.sbcOff bronze k (s.leadNs slot / 1000)) u).saf.sto = u.saf.sto ∧
      (l.foldl (fun (s : State) (k : Fin 4) => s.sbcOff bronze k (s.leadNs slot / 1000)) u).saf.ss1 = u.saf.ss1 := by
    intro l
    induction l with
    | nil => exact fun _ => ⟨rfl, rfl⟩
    | cons k l ih =>
      intro u
      obtain ⟨h1, h2⟩ := ih (u.sbcOff bronze k (u.leadNs slot / 1000))
      exact ⟨h1.trans (OutOnly.sbcOff u bronze k _).sto, h2.trans (OutOnly.sbcOff u bronze k _).ss1⟩
  exact h _ s

theorem sbcPass_off {k : Fin 4} {slot : Nat} (hfreeze : s.mode.mode ≠ .freeze) (hmode : s.regs.SAF_SOk_CFG_MODE k = 1)
    (hsbc : (if bronze then s.saf.out[k].sbcB else s.saf.out[k].sbcC) = false) (hcmd : s.saf.out[k].cmd = true) :
    (s.sbcPass bronze slot).saf.out[k].cmd = false ∧
    (if bronze then (s.sbcPass bronze slot).saf.out[k].sbcB else (s.sbcPass bronze slot).saf.out[k].sbcC) = true := by
  refine foldl_reaches (k := k) (Q := fun u => u.mode = s.mode ∧ u.regs = s.regs ∧ u.saf.out[k] = s.saf.out[k])
    (R := fun u => u.saf.out[k].cmd = false ∧ (if bronze then u.saf.out[k].sbcB else u.saf.out[k].sbcC) = true)
    (fun u m hm h => ?_) (fun u h => ?_) (fun u m hm h => ?_) (List.nodup_finRange 4) (List.mem_finRange k) ⟨rfl, rfl, rfl⟩
  · obtain ⟨h1, h2, h3⟩ := h
    have F := Frame.sbcOff u bronze m (u.leadNs slot / 1000)
    exact ⟨(F.keep .mode (by decide)).trans h1, (F.keep .regs (by decide)).trans h2, ((OutOnly.sbcOff u bronze m _).out k (Ne.symm hm)).trans h3⟩
  · obtain ⟨h1, h2, h3⟩ := h
    rw [sbcOff_on (by rw [h1]; exact hfreeze) (by rw [h2]; exact hmode) (by rw [h3]; exact hsbc) (by rw [h3]; exact hcmd)]
    obtain ⟨l, hl⟩ := safRec_saf (u.modOut k (u.sbcDropped bronze k)) bronze u.tb 0x0D0B k (u.leadNs slot / 1000) 0
    have hout : ((u.modOut k (u.sbcDropped bronze k)).safRec bronze u.tb 0x0D0B k (u.leadNs slot / 1000) 0).saf.out[k] = u.sbcDropped bronze k u.saf.out[k] := by
      rw [hl]
      exact vset_self ..
    rw [hout]
    cases bronze
    · exact ⟨rfl, rfl⟩
    · exact ⟨Bool.and_false _, rfl⟩
  · rw [(OutOnly.sbcOff u bronze m _).out k (Ne.symm hm)]
    exact h

/-- What standstill in a channel makes of an SS1: its end where it has no lead, else its lead begins. -/
def State.standEnd (s : State) (bronze : Bool) (slot : Nat) : State :=
  if s.leadNs slot = 0 then s.ss1End bronze slot
  else s.onSaf (fun x => { x with ss1 := x.ss1.map (fun q =>
    if q.slot = slot then (if bronze then { q with standB := some s.now } else { q with standC := some s.now }) else q) })

theorem ss1Standstill_due {r : Ss1Run} {t0 : Nat} (hop : s.operates = true) (hstill : (s.view bronze).still = some t0)
    (hfind : s.saf.ss1.find? (fun r => r.typ == 3 && (r.since bronze).isSome && (r.stand bronze).isNone) = some r) (hlong : t0 + 10000000 ≤ s.now) :
    s.ss1Standstill bronze =
      if s.leadNs r.slot = 0 then (s.sbcPass bronze r.slot).ss1End bronze r.slot
      else (s.sbcPass bronze r.slot).onSaf (fun x => { x with ss1 := x.ss1.map (fun q =>
        if q.slot = r.slot then (if bronze then { q with standB := some s.now } else { q with standC := some s.now }) else q) }) := by
  have F := Frame.sbcPass s bronze r.slot
  have hlead : (s.sbcPass bronze r.slot).leadNs r.slot = s.leadNs r.slot := leadNs_congr (F.keep .regs (by decide)) _
  have hnow : (s.sbcPass bronze r.slot).now = s.now := congrArg (·.now) (F.keep .clk (by decide))
  have hstep : s.ss1Standstill bronze = (s.sbcPass bronze r.slot).standEnd bronze r.slot := by
    unfold State.ss1Standstill State.standEnd State.sbcPass
    rw [hstill, hfind]
    dsimp only
    rw [if_pos (by rw [operates_running hop, decide_eq_true hlong]; rfl)]
  rw [hstep]
  generalize s.sbcPass bronze r.slot = p at hlead hnow ⊢
  rw [State.standEnd, hlead, hnow]

theorem exec_ss1Standstill {r : Ss1Run} {t0 : Nat} (hop : s.operates = true) (hstill : (s.view bronze).still = some t0)
    (hfind : s.saf.ss1.find? (fun r => r.typ == 3 && (r.since bronze).isSome && (r.stand bronze).isNone) = some r)
    (hlong : t0 + 10000000 ≤ (s.advance dt).now) :
    (s.leadNs r.slot = 0 → s.saf.sto = false → ∃ t, exec (.ss1rStandstill dt bronze) s = .next t ∧ TorqueOff t true true) ∧
    (s.leadNs r.slot ≠ 0 → ∃ t, exec (.ss1rStandstill dt bronze) s = .next t ∧ t.saf.sto = s.saf.sto ∧ t.ax = s.ax ∧ t.aux = s.aux ∧
      t.saf.ss1 = s.saf.ss1.map (fun q => if q.slot = r.slot then
        (if bronze then { q with standB := some (s.advance dt).now } else { q with standC := some (s.advance dt).now }) else q) ∧
      (∀ k : Fin 4, s.regs.SAF_SOk_CFG_MODE k = 1 → (if bronze then s.saf.out[k].sbcB else s.saf.out[k].sbcC) = false → s.saf.out[k].cmd = true →
        t.saf.out[k].cmd = false ∧ (if bronze then t.saf.out[k].sbcB else t.saf.out[k].sbcC) = true)) := by
  have hdue := ss1Standstill_due (s := s.advance dt) (bronze := bronze) hop hstill hfind hlong
  have hoff (k : Fin 4) := sbcPass_off (s := s.advance dt) (bronze := bronze) (k := k) (slot := r.slot) (operates_freeze hop)
  have hop' := (SafKept.sbcPass (s.advance dt) bronze r.slot).operates hop
  have F := Frame.sbcPass (s.advance dt) bronze r.slot
  have hax := F.keep .ax (by decide)
  have haux := F.keep .aux (by decide)
  obtain ⟨hsame, hss1⟩ := sbcPass_ss1 (s.advance dt) bronze r.slot
  generalize (s.advance dt).sbcPass bronze r.slot = p at *
  refine ⟨fun hlead hsto => ?_, fun hlead => ?_⟩
  · rw [if_pos (by exact hlead)] at hdue
    exact ⟨_, exec_next_of rfl hdue, (ss1End_removes r.slot hop' (hsame.trans hsto)).1⟩
  · rw [if_neg (by exact hlead)] at hdue
    exact ⟨_, exec_next_of rfl hdue, hsame, hax, haux, congrArg (List.map _) hss1, hoff⟩

/-! ## Dark tests, faults of an output, and the current limit -/

theorem exec_darkStart {k : Fin 4} (hop : s.operates = true) (hon : s.saf.out[k].isOn = true) (hC : s.saf.out[k].darkC = none)
    (hB : s.saf.out[k].darkB = none)
    (hlast : ∀ t0, (if bronze then s.saf.out[k].lastB else s.saf.out[k].lastC) = some t0 → t0 + s.soTper k ≤ (s.advance dt).now)
    (hfirst : bronze = true → s.saf.out[k].lastB = none → ∃ t0, s.saf.out[k].lastC = some t0 ∧ t0 + s.soTper k / 2 ≤ (s.advance dt).now) :
    ∃ t, exec (.soDarkTestStart dt k bronze) s = .next t ∧ t.but s = { s.advance dt with saf := { s.saf with out := vset s.saf.out k (fun o =>
      if bronze then { o with swB := false, darkB := some (s.advance dt).now, lastB := some (s.advance dt).now, offInTest := false }
      else { o with swC := false, darkC := some (s.advance dt).now, lastC := some (s.advance dt).now, offInTest := false }) } } := by
  have hdue : (s.advance dt).darkDue k bronze = true := by
    have hout : (s.advance dt).saf.out[k] = s.saf.out[k] := rfl
    unfold State.darkDue
    rw [hout]
    generalize s.saf.out[k] = o at hlast hfirst
    dsimp only
    cases bronze with
    | false =>
      cases hl : o.lastC with
      | none => rfl
      | some t0 => exact decide_eq_true (hlast t0 hl)
    | true =>
      cases hl : o.lastB with
      | some t0 => exact decide_eq_true (hlast t0 hl)
      | none =>
        obtain ⟨t0, hc, hlong⟩ := hfirst rfl hl
        rw [hc]
        exact decide_eq_true hlong
  have hall : ((s.advance dt).chanLive bronze && s.saf.out[k].isOn && s.saf.out[k].darkC.isNone && s.saf.out[k].darkB.isNone &&
      (s.advance dt).darkDue k bronze) = true := by
    rw [operates_chanLive (s := s.advance dt) hop, hon, hC, hB, hdue]
    rfl
  exact ⟨_, exec_next_of rfl (if_pos hall), rfl⟩

/-- A channel's switch of an output closes again at the end of a dark test. -/
def SafOut.tested (bronze : Bool) (o : SafOut) : SafOut :=
  if bronze then { o with darkB := none, swB := o.cmdB, discarded := false } else { o with darkC := none, swC := o.cmdC, discarded := false }

theorem darkEnd_due {k : Fin 4} {t0 mv : Nat} (hop : s.operates = true)
    (hdark : (if bronze then s.saf.out[k].darkB else s.saf.out[k].darkC) = some t0) (hlong : t0 + s.soTpw k ≤ s.now)
    (hin : s.saf.out[k].offInTest = false) :
    s.darkEnd k bronze mv = if mv < 5000 then s.modOut k (SafOut.tested bronze) else (s.modOut k (SafOut.tested bronze)).soFault bronze k 1 mv := by
  have hlive : (s.modOut k (SafOut.tested bronze)).chanLive bronze = true := operates_chanLive (s := s.modOut k (SafOut.tested bronze)) hop
  have hmod : (s.modOut k (fun o =>
        if bronze then { o with darkB := none, swB := o.cmdB && !o.offInTest, discarded := o.offInTest, offInTest := false }
        else { o with darkC := none, swC := o.cmdC && (s.mode.mode == .freeze || !o.offInTest), discarded := o.offInTest, offInTest := false })) =
      s.modOut k (SafOut.tested bronze) := by
    unfold State.modOut
    refine congrArg (fun v : Vector SafOut 4 => s.onSaf (fun x => { x with out := v })) (vset_congr ?_)
    unfold SafOut.tested
    generalize s.saf.out[k] = o at hin
    obtain ⟨cmdC, cmdB, swC, swB, offAt, darkC, darkB, lastC, lastB, offInTest⟩ := o
    subst hin
    cases bronze
    · simp
    · simp
  unfold State.darkEnd
  dsimp only
  rw [hdark]
  dsimp only
  rw [if_pos (by rw [operates_live hop, decide_eq_true hlong]; rfl), hmod, hin, hlive]
  simp only [Bool.false_or, Bool.not_true, Bool.or_false, decide_eq_true_eq]

/-- One output in a pass that switches off what a channel does not permit. -/
def State.soTurn (s : State) (bronze : Bool) (k : Fin 4) : State :=
  if (if bronze then s.saf.out[k].cmdB else s.saf.out[k].cmdC && (s.mode.mode != .freeze)) &&
      (!s.soWant bronze k || (!bronze && !s.saf.out[k].cmdB)) then s.soDrop bronze k else s

theorem soTurn_eq (s : State) (bronze : Bool) (k : Fin 4) : s.soTurn bronze k = s.soDrop bronze k ∨ s.soTurn bronze k = s := by
  unfold State.soTurn
  exact ite_eq_or_eq ..

/-- A pass over the outputs changes them alone. -/
theorem soOff_out (s : State) (bronze : Bool) : ∃ v, s.soOff bronze = s.onSaf (fun x => { x with out := v }) := by
  have h : ∀ (l : List (Fin 4)) (u : State), ∃ v, l.foldl (fun u m => u.soTurn bronze m) u = u.onSaf (fun x => { x with out := v }) := by
    intro l
    induction l with
    | nil => exact fun u => ⟨u.saf.out, rfl⟩
    | cons m l ih =>
      intro u
      obtain ⟨v, hv⟩ := ih (u.soTurn bronze m)
      refine ⟨v, hv.trans ?_⟩
      rcases soTurn_eq u bronze m with hm | hm
      · rw [hm]
        rfl
      · rw [hm]
  exact h _ s

/-- Behind a pass over the outputs, an output that a channel does not permit is off in that channel. -/
theorem soOff_unwanted {k : Fin 4} (hfreeze : s.mode.mode ≠ .freeze) (hwant : s.soWant bronze k = false) :
    (if bronze then (s.soOff bronze).saf.out[k].cmdB else (s.soOff bronze).saf.out[k].cmdC) = false := by
  have hsame (u : State) (hu : ∃ v, u = s.onSaf (fun x => { x with out := v })) (hk : u.saf.out[k] = s.saf.out[k]) : u.soWant bronze k = false := by
    obtain ⟨v, rfl⟩ := hu
    rw [← hwant]
    unfold State.soWant
    rw [hk]
    rfl
  have hturn (u : State) (m : Fin 4) (hu : ∃ v, u = s.onSaf (fun x => { x with out := v })) :
      ∃ v, u.soTurn bronze m = s.onSaf (fun x => { x with out := v }) := by
    rcases soTurn_eq u bronze m with h | h
    · obtain ⟨v, rfl⟩ := hu
      exact ⟨_, h⟩
    · rw [h]
      exact hu
  have hother (u : State) (m : Fin 4) (hm : m ≠ k) : (u.soTurn bronze m).saf.out[k] = u.saf.out[k] := by
    rcases soTurn_eq u bronze m with h | h
    · rw [h]
      exact (OutOnly.soDrop u bronze m).out k (Ne.symm hm)
    · rw [h]
  refine foldl_reaches (f := fun u m => u.soTurn bronze m) (k := k) (Q := fun u => (∃ v, u = s.onSaf (fun x => { x with out := v })) ∧ u.saf.out[k] = s.saf.out[k])
    (R := fun u => (if bronze then u.saf.out[k].cmdB else u.saf.out[k].cmdC) = false)
    (fun u m hm h => ⟨hturn u m h.1, (hother u m hm).trans h.2⟩) (fun u h => ?_) (fun u m hm h => by rw [hother u m hm]; exact h)
    (List.nodup_finRange 4) (List.mem_finRange k) ⟨⟨s.saf.out, rfl⟩, rfl⟩
  obtain ⟨hu, hk⟩ := h
  have hmode : u.mode.mode ≠ .freeze := by
    obtain ⟨v, rfl⟩ := hu
    exact hfreeze
  unfold State.soTurn
  rw [hsame u hu hk]
  by_cases hcmd : (if bronze then u.saf.out[k].cmdB else u.saf.out[k].cmdC) = true
  · have hif : ((if bronze = true then u.saf.out[k].cmdB else u.saf.out[k].cmdC && u.mode.mode != .freeze) &&
        (!false || !bronze && !u.saf.out[k].cmdB)) = true := by
      cases bronze
      · simpa using ⟨hcmd, hmode⟩
      · simpa using hcmd
    have hout : (u.soDrop bronze k).saf.out[k] = _ := vset_self ..
    rw [if_pos hif, hout]
    cases bronze
    · rfl
    · rfl
  · have hif : ¬((if bronze = true then u.saf.out[k].cmdB else u.saf.out[k].cmdC && u.mode.mode != .freeze) &&
        (!false || !bronze && !u.saf.out[k].cmdB)) = true := by
      cases bronze
      · simpa using fun h => absurd h hcmd
      · simpa using hcmd
    rw [if_neg hif]
    simpa using hcmd

/-- A fault of an output, new in its channel, switches the output off and removes torque by the channel's path. -/
theorem soFault_removes {k : Fin 4} (kind mv : Nat) (hop : s.operates = true) (hsilent : s.saf.silent = false) (hsto : s.saf.sto = false)
    (hnew : (if bronze then s.saf.out[k].faultB else s.saf.out[k].faultC) = false) :
    (if bronze then (s.soFault bronze k kind mv).saf.out[k].faultB else (s.soFault bronze k kind mv).saf.out[k].faultC) = true ∧
    (s.soFault bronze k kind mv).saf.out[k].cmd = false ∧ TorqueOff (s.soFault bronze k kind mv) bronze (!bronze) ∧
    SafeBy (s.soFault bronze k kind mv) (0x500 + k.val) := by
  have hcause : (0x500 + k.val) / 256 = 5 := by omega
  let u := s.modOut k (fun o => if bronze then { o with faultB := true } else { o with faultC := true })
  have hu : u.saf.out[k] = if bronze then { s.saf.out[k] with faultB := true } else { s.saf.out[k] with faultC := true } := vset_self ..
  have hwant : u.soWant bronze k = false := by
    have hfault : u.saf.out[k].fault = true := by
      rw [hu]
      cases bronze
      · rfl
      · exact Bool.or_true _
    unfold State.soWant
    dsimp only
    rw [hfault]
    simp
  have hoff := soOff_unwanted (s := u) (bronze := bronze) (k := k) (operates_freeze (s := u) hop) hwant
  have hkept := SafKept.soOff u bronze
  have hustate : u.operates = true ∧ u.saf.silent = false ∧ u.saf.sto = false := ⟨hop, hsilent, hsto⟩
  have hflt : (if bronze then u.saf.out[k].faultB else u.saf.out[k].faultC) = true := by
    rw [hu]
    cases bronze
    · rfl
    · rfl
  let w := if s.saf.out[k].fault then u.soOff bronze else (u.soOff bronze).safRec bronze (u.soOff bronze).tb 0x0D06 (k.val + kind * 256) mv 0
  have hw : SafKept u w := .ite hkept (hkept.trans (.safRec ..))
  have hwOff : SafKept (u.soOff bronze) w := .ite (.refl _) (.safRec ..)
  have hstoOff : (u.soOff bronze).saf.sto = false := by
    obtain ⟨v, hv⟩ := soOff_out u bronze
    rw [hv]
    exact hsto
  have hwsto : w.saf.sto = false := by
    unfold w
    split
    · exact hstoOff
    · rw [safRec_sto]
      exact hstoOff
  have hdef : s.soFault bronze k kind mv = w.safAct bronze bronze (!bronze) (0x500 + k.val) w.tb := by
    unfold State.soFault
    dsimp only
    rw [hnew]
    rfl
  have hact := SafKept.safAct w bronze bronze (!bronze) (0x500 + k.val) w.tb
  have hheard : w.heard (!bronze) = true := heard_of_speaking (hw.saf.silent.trans hsilent)
  obtain ⟨htorque, hsafe⟩ := safAct_removes bronze bronze (!bronze) (0x500 + k.val) w.tb (hw.operates hop) hheard
    (actionOf_sto (by omega) (by omega)) fun h => absurd h (by rw [hwsto]; decide)
  have hfaults := (hw.trans hact).saf.out k
  have houts := (hwOff.trans hact).saf.out k
  rw [hdef]
  refine ⟨?_, ?_, htorque, hsafe⟩
  · cases bronze
    · exact hfaults.faultC hflt
    · exact hfaults.faultB hflt
  · cases bronze
    · exact (congrArg (· && _) (houts.cmdC hoff)).trans (Bool.false_and _)
    · exact (congrArg (_ && ·) (houts.cmdB hoff)).trans (Bool.and_false _)

theorem exec_darkEnd {k : Fin 4} {t0 mv : Nat} (hop : s.operates = true) (hsilent : s.saf.silent = false)
    (hdark : (if bronze then s.saf.out[k].darkB else s.saf.out[k].darkC) = some t0) (hlong : t0 + s.soTpw k ≤ (s.advance dt).now)
    (hin : s.saf.out[k].offInTest = false) :
    (mv < 5000 → ∃ t, exec (.soDarkTestEnd dt k bronze mv) s = .next t ∧
      t.but s = { s.advance dt with saf := { s.saf with out := vset s.saf.out k (SafOut.tested bronze) } }) ∧
    (5000 ≤ mv → s.saf.sto = false → (if bronze then s.saf.out[k].faultB else s.saf.out[k].faultC) = false →
      ∃ t, exec (.soDarkTestEnd dt k bronze mv) s = .next t ∧
        (if bronze then t.saf.out[k].faultB else t.saf.out[k].faultC) = true ∧ t.saf.out[k].cmd = false ∧ TorqueOff t bronze (!bronze) ∧
        SafeBy t (0x500 + k.val)) := by
  have hdue := darkEnd_due (s := s.advance dt) (bronze := bronze) (k := k) (mv := mv) hop hdark hlong hin
  refine ⟨fun hlow => ?_, fun hhigh hsto hnew => ?_⟩
  · exact ⟨_, exec_next_of rfl (hdue.trans (if_pos hlow)), rfl⟩
  · refine ⟨_, exec_next_of rfl (hdue.trans (if_neg (not_lt.2 hhigh))), ?_⟩
    refine soFault_removes (s := (s.advance dt).modOut k (SafOut.tested bronze)) 1 mv hop hsilent hsto ?_
    have hout : ((s.advance dt).modOut k (SafOut.tested bronze)).saf.out[k] = SafOut.tested bronze s.saf.out[k] := vset_self ..
    rw [hout]
    cases bronze
    · exact hnew
    · exact hnew

theorem exec_soOffVoltage {k : Fin 4} {mv : Nat} (hop : s.operates = true) (hsilent : s.saf.silent = false) (hsto : s.saf.sto = false)
    (hnew : (if bronze then s.saf.out[k].faultB else s.saf.out[k].faultC) = false) (hoff : s.saf.out[k].cmd = false) (hmv : 12000 < mv)
    (hlong : s.saf.out[k].offAt + 1000000 ≤ (s.advance dt).now) :
    ∃ t, exec (.soOffVoltageFault dt k mv bronze) s = .next t ∧
      (if bronze then t.saf.out[k].faultB else t.saf.out[k].faultC) = true ∧ t.saf.out[k].cmd = false ∧ TorqueOff t bronze (!bronze) ∧
      SafeBy t (0x500 + k.val) := by
  have hdue : ((s.advance dt).chanLive bronze && !s.saf.out[k].cmd && decide (12000 < mv) &&
      decide (s.saf.out[k].offAt + 1000000 ≤ (s.advance dt).now)) = true := by
    rw [operates_chanLive (s := s.advance dt) hop, hoff, decide_eq_true hmv, decide_eq_true hlong]
    rfl
  exact ⟨_, exec_next_of rfl (if_pos hdue), soFault_removes (s := s.advance dt) 2 mv hop hsilent hsto hnew⟩

theorem exec_edmTimeout {k : Fin 4} {level : Bool} {t0 : Nat} (hop : s.operates = true) (hsilent : s.saf.silent = false) (hsto : s.saf.sto = false)
    (hnew : (if bronze then s.saf.out[k].faultB else s.saf.out[k].faultC) = false)
    (hwatch : (if bronze then s.saf.out[k].edmB else s.saf.out[k].edmC) = some (level, t0)) (hlong : t0 ≤ (s.advance dt).now)
    (hedm : s.saf.edm.getLsbD k.val ≠ level) :
    ∃ t, exec (.edmTimeout dt k bronze) s = .next t ∧
      (if bronze then t.saf.out[k].faultB else t.saf.out[k].faultC) = true ∧ t.saf.out[k].cmd = false ∧ TorqueOff t bronze (!bronze) ∧
      SafeBy t (0x500 + k.val) := by
  let f : SafOut → SafOut := fun o => if bronze then { o with edmB := none } else { o with edmC := none }
  have hstep : (s.advance dt).edmTimeout k bronze = ((s.advance dt).modOut k f).edmFault bronze k 3 := by
    unfold State.edmTimeout
    rw [show (s.advance dt).saf = s.saf from rfl, hwatch]
    exact if_pos (by rw [operates_chanLive (s := s.advance dt) hop, decide_eq_true hlong]; simpa using hedm)
  refine ⟨_, exec_next_of rfl hstep, ?_⟩
  refine soFault_removes (s := ((s.advance dt).modOut k f).onFreeIx (· + 1)) 3 _ hop hsilent hsto ?_
  have hout : (((s.advance dt).modOut k f).onFreeIx (· + 1)).saf.out[k] = f s.saf.out[k] := vset_self ..
  rw [hout]
  cases bronze
  · exact hnew
  · exact hnew

theorem exec_soLimited {k : Fin 4} (hop : s.operates = true) (hon : s.saf.out[k].isOn = true) :
    ∃ t, exec (.soCurrentLimitOff dt k) s = .next t ∧ t.but s = { s.advance dt with saf := { s.saf with
      out := vset s.saf.out k (fun o =>
        let w := some (false, (s.advance dt).now + s.soEdm k)
        { o with
          limited := true
          edmC := if s.regs.SAF_SOk_CFG_EDM_EN k then w else o.edmC, edmB := if s.regs.SAF_SOk_CFG_EDM_EN k then w else o.edmB }) } } := by
  have hdue : ((s.advance dt).safLive && s.saf.out[k].isOn) = true := by
    rw [operates_live (s := s.advance dt) hop, hon]
    rfl
  refine ⟨_, exec_next_of rfl (if_pos hdue), ?_⟩
  show ({ s.advance dt with saf := { s.saf with out := vset s.saf.out k _ } } : State) = _
  refine congrArg (fun v : Vector SafOut 4 => ({ s.advance dt with saf := { s.saf with out := v } } : State)) (vset_congr ?_)
  show (if s.regs.SAF_SOk_CFG_EDM_EN k = true then _ else _) = _
  cases s.regs.SAF_SOk_CFG_EDM_EN k
  · rfl
  · rfl

end

/-- Settles O36: an SS1 ends in STO by its time, by standstill and by its lead; an output goes off for the brake, in a dark test, by a fault of
its channel, and by its own current limit. -/
theorem stopsAndOutputs : Obligations.StopsAndOutputs := by
  unfold Obligations.StopsAndOutputs
  intro s dt bronze hop hsilent
  exact ⟨fun r t0 hsto hr hsince hlong => exec_ss1Sto hop hsto hr hsince hlong,
    fun r t0 hsto hr hstand hlong => exec_ss1Lead hop hsto hr hstand hlong,
    fun r t0 hstill hfind hlong => exec_ss1Standstill hop hstill hfind hlong,
    fun k r t0 hr htyp hsince hlong hmode hsbc hcmd => exec_sbc hop hsilent hr htyp hsince hlong hmode hsbc hcmd,
    fun k hon hC hB hlast hfirst => exec_darkStart hop hon hC hB hlast hfirst,
    fun k t0 mv hdark hlong hin => exec_darkEnd hop hsilent hdark hlong hin,
    fun k mv hsto hnew hoff hmv hlong => exec_soOffVoltage hop hsilent hsto hnew hoff hmv hlong,
    fun k level t0 hsto hnew hwatch hlong hedm => exec_edmTimeout hop hsilent hsto hnew hwatch hlong hedm,
    fun k hon => exec_soLimited hop hon⟩

end Sys2Proof.Machine
end

section
/-! PROOF. The self-checks of the two channels: the scan, the compare, supplies, ROM, mirror, paths and axis data (R320 to R325, R339). -/
set_option Elab.async false

namespace Sys2Proof.Machine

section
variable {s t u : State} {dt : Nat}

/-! ## Faults that remove torque -/

theorem TorqueOff.settle {b c : Bool} (h : TorqueOff t b c) : TorqueOff t.settle b c := h

theorem SafeBy.settle {c : Nat} (h : SafeBy t c) : SafeBy t.settle c := h

/-- A new fault of a channel of which the supervisor hears takes the device into SAFE. -/
theorem chanFault_safeBy {sub : Nat} (b c bronze : Bool) (hsub : sub < 256) (hop : s.operates = true) (hheard : s.heard c = true)
    (hnew : s.hasLatched (0x700 + sub) = false) : SafeBy (s.chanFault sub b c bronze) (0x700 + sub) := by
  have hrec := SafKept.safRec s bronze s.tb 0x0D08 sub s.saf.cmpCount 0
  have hcause : (0x700 + sub) / 256 = 7 := by omega
  unfold State.chanFault
  rw [if_neg (by rw [operates_live hop, hnew]; decide)]
  generalize s.safRec bronze s.tb 0x0D08 sub s.saf.cmpCount 0 = u at hrec ⊢
  have hop' := hrec.operates hop
  rw [safAct_eq bronze b c _ _ (operates_live hop') (by rw [show (u.mode.mode != .freeze) = true by simpa using operates_freeze hop', Bool.or_true]),
    if_pos (.inl (actionOf_sto (by omega) (by omega)))]
  exact (SafKept.pathAct ..).safeBy (safEnter_safeBy _ _ hop' ((heard_kept hrec c).trans hheard))

/-- Both operations behind a comparison keep what the safety logic keeps. -/
theorem SafKept.bronzeFollows (s : State) : SafKept s s.bronzeFollows := by
  unfold State.bronzeFollows
  exact foldl _ (.ite (pathAct ..) (refl s)) fun u k => .ite (soDrop ..) (refl u)

theorem hasLatched_congr (h : t.saf.latched = s.saf.latched) (c : Nat) : t.hasLatched c = s.hasLatched c := by
  rw [State.hasLatched, State.hasLatched, h]

/-- A fault of a channel found where the safety state has changed in nothing that decides of it. -/
theorem chanFault_removes_of {sub : Nat} (b c bronze : Bool) (hsub : sub < 256) (hu : ∃ x : SafSt, u = s.onSaf (fun _ => x) ∧ x.silent = s.saf.silent ∧
      x.latched = s.saf.latched ∧ x.sto = s.saf.sto) (hop : s.operates = true) (hheard : s.heard c = true)
    (hnew : s.hasLatched (0x700 + sub) = false) (hsto : s.saf.sto = false) :
    TorqueOff (u.chanFault sub b c bronze) b c ∧ SafeBy (u.chanFault sub b c bronze) (0x700 + sub) := by
  obtain ⟨x, rfl, hsilent, hlatched, hx⟩ := hu
  refine chanFault_removes b c bronze hsub hop ?_ ((hasLatched_congr hlatched _).trans hnew) (hx.trans hsto)
  unfold State.heard
  rw [State.onSaf_saf, hsilent]
  exact hheard

theorem cobaltSupply_removes (hop : s.operates = true) (hsto : s.saf.sto = false) (hnew : s.hasLatched 0x704 = false) :
    ∃ t, exec (.cobaltSupplyWindow dt) s = .next t ∧ TorqueOff t true true ∧ SafeBy t 0x704 :=
  ⟨_, exec_next_of rfl (if_pos (operates_running (s := s.advance dt) hop)),
    chanFault_removes (s := s.advance dt) (sub := 4) true true false (by decide) hop (heard_by_cobalt _) hnew hsto⟩

theorem vcoreSWindow_removes (hop : s.operates = true) (hsto : s.saf.sto = false) (hnew : s.hasLatched 0x705 = false) :
    ∃ t, exec (.vcoreSWindow dt) s = .next t ∧ TorqueOff t true true ∧ SafeBy t 0x705 :=
  ⟨_, exec_next_of rfl (if_pos (operates_live (s := s.advance dt) hop)),
    chanFault_removes_of (s := s.advance dt) (sub := 5) true true true (by decide) ⟨_, rfl, rfl, rfl, rfl⟩ hop (heard_by_cobalt _) hnew hsto⟩

theorem compareStale_due (atBronze : Bool) (hrun : s.running = true) (hlong : s.saf.cmpAt + 1500000 ≤ s.now) :
    s.compareStale atBronze =
      if atBronze then (s.onSaf (fun x => { x with silent := true })).chanFault 8 true false true else s.chanFault 9 false true false := by
  unfold State.compareStale
  rw [if_pos (by rw [hrun, decide_eq_true hlong]; rfl)]

theorem romCheck_due (ok : Bool) (hrun : s.running = true) (hlong : s.saf.romAt + 600000000000 ≤ s.now) :
    s.romCheck ok = if ok then s.onSaf (fun x => { x with romAt := s.now })
      else (s.onSaf (fun x => { x with romAt := s.now })).chanFault 1 true true false := by
  unfold State.romCheck
  rw [if_pos (by rw [hrun, decide_eq_true hlong]; rfl)]

theorem mirrorStale_due (hrun : s.running = true) (hlong : s.saf.mirrorAt + 2000000 ≤ s.now) (hnew : s.hasLatched 0x70B = false) :
    s.mirrorStale = (((s.latch 0x70B s.tb).enterSafe 0x70B 1 2).stoActs 0x70B s.tb).stoTold := by
  unfold State.mirrorStale
  rw [if_pos (by rw [hrun, decide_eq_true hlong, hnew]; rfl)]

theorem compareStale_removes (hop : s.operates = true) (hsto : s.saf.sto = false) (hnew : s.hasLatched 0x709 = false)
    (hlong : s.saf.cmpAt + 1500000 ≤ (s.advance dt).now) :
    ∃ t, exec (.compareStale dt false) s = .next t ∧ TorqueOff t false true ∧ SafeBy t 0x709 := by
  have hstep := (compareStale_due (s := s.advance dt) false (operates_running (s := s.advance dt) hop)) (by rw [State.advance_saf]; exact hlong)
  exact ⟨_, exec_next_of rfl hstep,
    chanFault_removes (s := s.advance dt) (sub := 9) false true false (by decide) hop (heard_by_cobalt _) hnew hsto⟩

theorem axisDataStale_removes (hop : s.operates = true) (hsto : s.saf.sto = false) (hnew : s.hasLatched 0x70A = false)
    (hss1 : ∃ r ∈ s.saf.ss1, r.typ = 3) (hmon : ∃ n, s.monitored n = true) :
    ∃ t, exec (.axisDataStale dt) s = .next t ∧ TorqueOff t true true ∧ SafeBy t 0x70A := by
  obtain ⟨r, hr, htyp⟩ := hss1
  obtain ⟨n, hn⟩ := hmon
  have hany : s.saf.ss1.any (fun r => r.typ == 3) = true := List.any_eq_true.2 ⟨r, hr, by rw [htyp]; rfl⟩
  have hall : (List.finRange 6).any (s.advance dt).monitored = true := List.any_eq_true.2 ⟨n, List.mem_finRange n, hn⟩
  have hdue : ((s.advance dt).running && (s.advance dt).saf.ss1.any (fun r => r.typ == 3) && (List.finRange 6).any (s.advance dt).monitored) = true := by
    rw [operates_running (s := s.advance dt) hop, hall]
    exact (congrArg (· && true) hany)
  exact ⟨_, exec_next_of rfl (if_pos hdue),
    chanFault_removes (s := s.advance dt) (sub := 10) true true false (by decide) hop (heard_by_cobalt _) hnew hsto⟩

theorem romCheck_removes (hop : s.operates = true) (hsto : s.saf.sto = false) (hnew : s.hasLatched 0x701 = false)
    (hlong : s.saf.romAt + 600000000000 ≤ (s.advance dt).now) :
    ∃ t, exec (.cobaltRomCheck dt false) s = .next t ∧ TorqueOff t true true ∧ SafeBy t 0x701 := by
  have hstep := (romCheck_due (s := s.advance dt) false (operates_running (s := s.advance dt) hop)) (by rw [State.advance_saf]; exact hlong)
  exact ⟨_, exec_next_of rfl hstep,
    chanFault_removes_of (s := s.advance dt) (sub := 1) true true false (by decide) ⟨_, rfl, rfl, rfl, rfl⟩ hop (heard_by_cobalt _) hnew hsto⟩

theorem safetyCompare_differs (hrun : s.running = true) (htick : s.tb % 500000 = 0) (hbad : 1 ≤ s.saf.cmpBad) :
    ∃ x : SafSt, s.safetyCompare true = ((s.onSaf fun _ => x).chanFault 7 true true false).bronzeFollows ∧
      x.silent = s.saf.silent ∧ x.latched = s.saf.latched ∧ x.sto = s.saf.sto := by
  unfold State.safetyCompare
  rw [if_pos (by rw [hrun, htick]; rfl)]
  extract_lets c b pairs slots conns bad u stands
  have hrepeat : (stands || decide (2 ≤ bad)) = true := by
    rw [Bool.or_eq_true]
    exact .inr (decide_eq_true (Nat.succ_le_succ hbad))
  rw [if_pos hrepeat]
  exact ⟨u.saf, rfl, rfl, rfl, rfl⟩

/-- Sets that differ for the second time running. -/
theorem safetyCompare_removes (hop : s.operates = true) (hsto : s.saf.sto = false) (hnew : s.hasLatched 0x707 = false)
    (htick : s.tbAt dt % 500000 = 0) (hbad : 1 ≤ s.saf.cmpBad) :
    ∃ t, exec (.safetyCompare dt true) s = .next t ∧ TorqueOff t true true ∧ SafeBy t 0x707 := by
  have hstep := safetyCompare_differs (s := s.advance dt) (operates_running (s := s.advance dt) hop) htick (by rw [State.advance_saf]; exact hbad)
  obtain ⟨x, hx, hkept⟩ := hstep
  obtain ⟨htorque, hsafe⟩ := chanFault_removes_of (s := s.advance dt) (sub := 7) true true false (by decide) ⟨x, rfl, hkept⟩ hop (heard_by_cobalt _) hnew hsto
  exact ⟨_, exec_next_of rfl hx, ((SafKept.bronzeFollows _).torqueOff htorque).settle, ((SafKept.bronzeFollows _).safeBy hsafe).settle⟩

/-- A mirror that stands: the supervisor takes the removal of torque as done. -/
theorem mirrorStale_removes (hop : s.operates = true) (hsto : s.saf.sto = false) (hnew : s.hasLatched 0x70B = false)
    (hlong : s.saf.mirrorAt + 2000000 ≤ (s.advance dt).now) :
    ∃ t, exec (.mirrorStale dt) s = .next t ∧ TorqueOff t false false ∧ SafeBy t 0x70B := by
  have hstep := (mirrorStale_due (s := s.advance dt) (operates_running (s := s.advance dt) hop)) (by rw [State.advance_saf]; exact hlong) hnew
  have hlatch := SafKept.latch (s.advance dt) 0x70B (s.advance dt).tb
  have henter := SafKept.enterSafe ((s.advance dt).latch 0x70B (s.advance dt).tb) 0x70B 1 2
  have hmode := enterSafe_mode 0x70B 1 2 (hlatch.operates hop)
  have hstoNow : (((s.advance dt).latch 0x70B (s.advance dt).tb).enterSafe 0x70B 1 2).saf.sto = false :=
    (enterSafe_sto ..).trans ((latch_sto ..).trans hsto)
  have hlatched := henter.hasLatched (latch_hasLatched (s.advance dt) 0x70B (s.advance dt).tb)
  refine ⟨_, exec_next_of rfl hstep, ?_⟩
  generalize ((s.advance dt).latch 0x70B (s.advance dt).tb).enterSafe 0x70B 1 2 = u at hmode hstoNow hlatched
  obtain ⟨hacts, hbegins⟩ := stoActs_saf u 0x70B (s.advance dt).tb
  obtain ⟨htold, hss1⟩ := hbegins hstoNow
  have hkept := (SafKept.stoActs u 0x70B (s.advance dt).tb).trans (.stoTold _)
  have hthere : (u.stoActs 0x70B (s.advance dt).tb).mode.mode ≠ .freeze := by
    rw [show (u.stoActs 0x70B (s.advance dt).tb).mode = u.mode from (Frame.stoActs ..).keep .mode (by decide), hmode]
    decide
  have hstopped := stoTold_stopped hacts hss1 htold hthere
  exact ⟨torqueOff_iff.2 ⟨⟨hstopped.sto, hstopped.ss1, hstopped.ax, hstopped.aux⟩, fun h => absurd h (by decide), fun h => absurd h (by decide)⟩,
    hkept.safe hmode, hkept.hasLatched hlatched⟩

/-! ## Bronze alone, while Cobalt is silent -/

/-- A path of which the supervisor does not hear changes the outputs and the bars alone. -/
theorem Frame.pathAct_unheard {obs b : Bool} {cause stamp : Nat} (hsilent : s.saf.silent = true) :
    Frame [.recs, .gd, .saf] s (s.pathAct obs b false cause stamp) := by
  unfold State.pathAct
  extract_lets c first u v w x
  have hu : Frame [.recs, .gd, .saf] s u := Frame.next (Frame.stoActs ..) (by decide) (Frame.next (Frame.onGd ..) (by decide) (Frame.refl ..))
  have husilent : u.saf.silent = true :=
    (SafKept.stoActs (s.onGd (fun g => { g with blocked := g.blocked || b, swClosed := g.swClosed && !c })) cause stamp).saf.silent.trans hsilent
  have hv : Frame [.recs, .gd, .saf] s v := by
    unfold v State.heard
    rw [husilent, show c = false from Bool.false_and _]
    exact hu
  have hw : Frame [.recs, .gd, .saf] s w := .ite (Frame.next (Frame.outputsOff ..) (by decide) hv) hv
  have hx : Frame [.recs, .gd, .saf] s x := .ite (Frame.next (Frame.outputsOff ..) (by decide) hw) hw
  exact .ite (Frame.next (Frame.safRec ..) (by decide) hx) hx

theorem compareStale_bronze (hop : s.operates = true) (hnew : s.hasLatched 0x708 = false) (hlong : s.saf.cmpAt + 1500000 ≤ s.now) :
    (s.compareStale true).saf.silent = true ∧ (s.compareStale true).saf.sto = true ∧ (s.compareStale true).gd.blocked = true ∧
    (s.compareStale true).hasLatched 0x708 = true ∧ (s.compareStale true).mode = s.mode ∧ (s.compareStale true).ax = s.ax ∧
    (s.compareStale true).aux = s.aux := by
  let u := s.onSaf (fun x => { x with silent := true })
  let v := u.safRec true u.tb 0x0D08 8 u.saf.cmpCount 0
  have hv : SafKept u v := .safRec ..
  have hvop : v.operates = true := hv.operates (s := u) hop
  have hl : SafKept v (v.latch 0x708 u.tb) := .latch ..
  have hsilent : (v.latch 0x708 u.tb).saf.silent = true := (hv.trans hl).saf.silent
  have henter : v.safEnter false 0x708 u.tb = v.latch 0x708 u.tb := by
    unfold State.safEnter State.heard
    rw [hsilent]
    rfl
  have hstep : s.compareStale true = (v.latch 0x708 u.tb).pathAct true true false 0x708 u.tb := by
    rw [compareStale_due true (operates_running hop) hlong, if_pos rfl]
    show u.chanFault 8 true false true = _
    unfold State.chanFault
    rw [if_neg (by rw [show u.safLive = true from operates_live hop, show u.hasLatched (0x700 + 8) = false from hnew]; decide)]
    show v.safAct true true false 0x708 u.tb = _
    rw [safAct_eq true true false 0x708 u.tb (operates_live hvop) rfl, if_pos (.inl (actionOf_sto (by decide) (by decide))), henter]
  have hact := SafKept.pathAct (v.latch 0x708 u.tb) true true false 0x708 u.tb
  obtain ⟨hsto, hblocked, -⟩ := pathAct_bars (s := v.latch 0x708 u.tb) true true false 0x708 u.tb fun h => absurd h (by decide)
  have F : Frame [.recs, .gd, .saf] s ((v.latch 0x708 u.tb).pathAct true true false 0x708 u.tb) :=
    Frame.next (Frame.pathAct_unheard hsilent) (by decide) (Frame.next (Frame.latch ..) (by decide)
      (Frame.next (Frame.safRec ..) (by decide) (Frame.next (Frame.onSaf ..) (by decide) (Frame.refl ..))))
  rw [hstep]
  exact ⟨hact.saf.silent.trans hsilent, hsto, hblocked rfl, hact.hasLatched (latch_hasLatched ..), F.keep .mode (by decide), F.keep .ax (by decide),
    F.keep .aux (by decide)⟩

theorem exec_compareStale_bronze (hop : s.operates = true) (hnew : s.hasLatched 0x708 = false) (hlong : s.saf.cmpAt + 1500000 ≤ (s.advance dt).now) :
    ∃ t, exec (.compareStale dt true) s = .next t ∧ t.saf.silent = true ∧ t.saf.sto = true ∧ t.gd.blocked = true ∧ t.hasLatched 0x708 = true ∧
      t.mode.mode = s.mode.mode ∧ t.ax = s.ax ∧ t.aux = s.aux := by
  obtain ⟨h1, h2, h3, h4, h5, h6, h7⟩ := compareStale_bronze (s := s.advance dt) hop hnew (by rw [State.advance_saf]; exact hlong)
  refine ⟨_, exec_next_of rfl rfl, ?_⟩
  generalize (s.advance dt).compareStale true = u at *
  exact ⟨h1, h2, h3, h4, (congrArg ModeSt.mode h5 :), h6, h7⟩

/-! ## Checks that find nothing -/

theorem pairDemand_congr {v w : SafView} (hA : v.filtA = w.filtA) (hB : v.filtB = w.filtB) (hfault : v.fault = w.fault) (hv24s : v.v24sOut = w.v24sOut)
    (p : Fin 9) : s.pairDemand v p = s.pairDemand w p := by
  unfold State.pairDemand State.runA State.runB
  rw [hA, hB, hfault, hv24s]

theorem slotDemand_congr {v w : SafView} (hA : v.filtA = w.filtA) (hB : v.filtB = w.filtB) (hfault : v.fault = w.fault) (hv24s : v.v24sOut = w.v24sOut)
    (hconn : v.conn = w.conn) (k : Nat) : s.slotDemand v k = s.slotDemand w k := by
  have hpair : s.pairDemand v = s.pairDemand w := funext (pairDemand_congr hA hB hfault hv24s)
  unfold State.slotDemand State.selDemand SafView.conBit
  rw [hpair, hconn]

theorem foldl_fixed {α β : Type} {f : β → α → β} (l : List α) (b : β) (h : ∀ a ∈ l, f b a = b) : l.foldl f b = b := by
  induction l with
  | nil => rfl
  | cons a l ih =>
    rw [List.foldl_cons, h a (.head _)]
    exact ih fun x hx => h x (.tail _ hx)

/-- What equal sets leave: the set is counted and nothing differs. -/
theorem safetyCompare_equal (hrun : s.running = true) (htick : s.tb % 500000 = 0) (hA : s.saf.cobalt.filtA = s.saf.bronze.filtA)
    (hB : s.saf.cobalt.filtB = s.saf.bronze.filtB) (hfault : s.saf.cobalt.fault = s.saf.bronze.fault)
    (hv24s : s.saf.cobalt.v24sOut = s.saf.bronze.v24sOut) (hconn : s.saf.cobalt.conn = s.saf.bronze.conn) (hss1 : s.saf.ss1 = [])
    (hpaths : s.pathActs true = s.pathActs false) (hbar : s.saf.sto = true → s.gd.blocked = true)
    (hout : ∀ k : Fin 4, s.saf.out[k].cmdC = s.saf.out[k].cmdB) :
    s.safetyCompare false = s.onSaf (fun x => { x with
      cmpAt := s.now, cmpCount := (x.cmpCount + 1) % 65536, cmpBad := 0, cmpSince := Vector.replicate 9 none, cmpSlot := Vector.replicate 8 none
      cmpConn := Vector.replicate 16 none }) := by
  have hdiffer : s.setsDiffer = false := by
    unfold State.setsDiffer
    rw [hss1, hpaths]
    have hcmd : (List.finRange 4).any (fun k => s.saf.out[k].cmdC != s.saf.out[k].cmdB) = false :=
      List.any_eq_false.2 fun k _ => by rw [hout k, bne_self_eq_false]; decide
    rw [hcmd, bne_self_eq_false]
    rfl
  have hnone {n : Nat} (f : Fin n → Option Nat) (h : ∀ i, f i = none) : Vector.ofFn f = Vector.replicate n none := by
    rw [show f = fun _ => none from funext h]
    exact Vector.ext fun i hi => by simp
  have hpair (p : Fin 9) : (s.pairMode p != 0 && (s.saf.cobalt.filtA[p] != s.saf.bronze.filtA[p] || s.saf.cobalt.filtB[p] != s.saf.bronze.filtB[p] ||
      s.pairDemand s.saf.cobalt p != s.pairDemand s.saf.bronze p || s.saf.cobalt.fault[p] != s.saf.bronze.fault[p])) = false := by
    rw [pairDemand_congr hA hB hfault hv24s, hA, hB, hfault]
    simp
  unfold State.safetyCompare
  rw [if_pos (by rw [hrun, htick]; rfl)]
  extract_lets c b pairs slots conns bad u stands
  have hpairs : pairs = Vector.replicate 9 none := hnone _ fun p => by
    unfold c b
    rw [hpair]
    rfl
  have hslots : slots = Vector.replicate 8 none := hnone _ fun k => by
    unfold c b
    rw [slotDemand_congr hA hB hfault hv24s hconn, bne_self_eq_false]
    rfl
  have hconns : conns = Vector.replicate 16 none := hnone _ fun k => by
    unfold c b
    rw [hconn, bne_self_eq_false]
    rfl
  have hbad : bad = 0 := by
    unfold bad
    rw [hdiffer]
    rfl
  have hstands : stands = false := by
    unfold stands
    rw [hpairs, hslots, hconns]
    simp [State.stood]
  have hu : u = s.onSaf (fun x => { x with
      cmpAt := s.now, cmpCount := (x.cmpCount + 1) % 65536, cmpBad := 0, cmpSince := Vector.replicate 9 none, cmpSlot := Vector.replicate 8 none
      cmpConn := Vector.replicate 16 none }) := by
    unfold u
    rw [hbad, hpairs, hslots, hconns]
  rw [hstands, hbad, if_neg (by decide), ← hu]
  unfold State.bronzeFollows
  have hstays : ¬(u.saf.sto && !u.gd.blocked) = true := by
    show ¬(s.saf.sto && !s.gd.blocked) = true
    cases hs : s.saf.sto
    · simp
    · simp [hbar hs]
  rw [if_neg hstays]
  refine foldl_fixed _ _ fun k _ => if_neg ?_
  show ¬(s.saf.out[k].cmdB && !s.saf.out[k].cmdC) = true
  rw [hout k, Bool.and_not_self]
  decide

theorem exec_safetyCompare_equal (hop : s.operates = true) (htick : s.tbAt dt % 500000 = 0) (hA : s.saf.cobalt.filtA = s.saf.bronze.filtA)
    (hB : s.saf.cobalt.filtB = s.saf.bronze.filtB) (hfault : s.saf.cobalt.fault = s.saf.bronze.fault)
    (hv24s : s.saf.cobalt.v24sOut = s.saf.bronze.v24sOut) (hconn : s.saf.cobalt.conn = s.saf.bronze.conn) (hss1 : s.saf.ss1 = [])
    (hpaths : s.pathActs true = s.pathActs false) (hbar : s.saf.sto = true → s.gd.blocked = true)
    (hout : ∀ k : Fin 4, s.saf.out[k].cmdC = s.saf.out[k].cmdB) :
    ∃ t, exec (.safetyCompare dt false) s = .next t ∧ t.but s = { s.advance dt with saf := { s.saf with
      cmpAt := (s.advance dt).now, cmpCount := (s.saf.cmpCount + 1) % 65536, cmpBad := 0
      cmpSince := Vector.replicate 9 none, cmpSlot := Vector.replicate 8 none, cmpConn := Vector.replicate 16 none } } :=
  ⟨_, exec_next_of rfl (safetyCompare_equal (s := s.advance dt) (operates_running (s := s.advance dt) hop) htick hA hB hfault hv24s hconn hss1 hpaths
    hbar hout), rfl⟩

theorem exec_romCheck_ok (hop : s.operates = true) (hlong : s.saf.romAt + 600000000000 ≤ (s.advance dt).now) :
    ∃ t, exec (.cobaltRomCheck dt true) s = .next t ∧ t.but s = { s.advance dt with saf := { s.saf with romAt := (s.advance dt).now } } :=
  ⟨_, exec_next_of rfl ((romCheck_due (s := s.advance dt) true (operates_running (s := s.advance dt) hop)) (by rw [State.advance_saf]; exact hlong)), rfl⟩

/-! ## The paths -/

/-- A record of Cobalt changes records alone. -/
theorem Frame.safRec_cobalt (s : State) (time code detail a b : Nat) : Frame [.recs] s (s.safRec false time code detail a b) := by
  unfold State.safRec
  exact .ite (Frame.refl ..) (Frame.emit ..)

theorem exec_pathTimeout_loading {u : State} (hload : u.pwr.phase = .loading) :
    ∃ t, exec (.pathCheckTimeout dt) u = .next t ∧
      t.but u = { u.advance dt with saf := { u.saf with pathFail := true, ptAt := (u.advance dt).now }, recs := t.recs } := by
  have hstep : (u.advance dt).pathTimeout = (u.advance dt).pathRec false := if_pos hload
  refine ⟨_, exec_next_of rfl hstep, (but_of_recs (Frame.safRec_cobalt ..)).trans ?_⟩
  show ({ u.advance dt with saf := { u.saf with pathFail := u.saf.pathFail || true, ptAt := _ }, recs := _ } : State) = _
  rw [Bool.or_true]
  rfl

theorem pathTimeout_stops (hop : s.operates = true) (hsto : s.saf.sto = true) (hsilent : s.saf.silent = false)
    (hpath : s.gd.blocked = false ∨ s.gd.swClosed = true) (hlong : s.saf.stoAt + 1000000 ≤ s.now) (hnew : s.hasLatched 0x706 = false) :
    SafeBy s.pathTimeout 0x706 := by
  have hload : ¬s.pwr.phase = .loading := by
    rw [run_phase (operates_running hop)]
    decide
  have hslow : (s.running && s.saf.sto && !(s.gd.blocked && !s.gd.swClosed) && decide (s.saf.stoAt + 1000000 ≤ s.now)) = true := by
    rw [operates_running hop, hsto, decide_eq_true hlong]
    rcases hpath with h | h
    · rw [h]
      rfl
    · rw [h, Bool.not_true, Bool.and_false]
      rfl
  unfold State.pathTimeout
  rw [if_neg hload, if_pos hslow]
  exact chanFault_safeBy (sub := 6) _ _ _ (by decide) hop (heard_of_speaking hsilent) hnew

theorem pathDue_records (hrun : s.running = true) (hdue : s.saf.ptDue = false) (hlong : s.saf.ptAt + s.regs.SAF_CFG * 3600000000000 < s.now) :
    s.pathDue = (s.onSaf (fun x => { x with ptDue := true })).emit s.tb Unit.cobalt 8 0
      (leBytes 2 0x0D0A ++ leBytes 2 3 ++ leBytes 4 ((s.now - s.saf.ptAt) / 3600000000000) ++ leBytes 8 0) := by
  unfold State.pathDue
  rw [if_pos (by rw [hrun, hdue, decide_eq_true hlong]; rfl)]
  exact if_neg (running_mode_ne hrun)

theorem exec_pathDue (hop : s.operates = true) (hdue : s.saf.ptDue = false)
    (hlong : s.saf.ptAt + s.regs.SAF_CFG * 3600000000000 < (s.advance dt).now) :
    ∃ t, exec (.pathTestDue dt) s = .next t ∧
      t.but s = { s.advance dt with saf := { s.saf with ptDue := true }, recs := t.recs } ∧
      Wrote s t [safOf (s.tbAt dt) 0x0D0A 3 (((s.advance dt).now - s.saf.ptAt) / 3600000000000) 0] := by
  have hrun := operates_running hop
  refine ⟨_, exec_next_of rfl (pathDue_records (s := s.advance dt) hrun hdue (by rw [State.advance_saf, State.advance_regs]; exact hlong)),
    (but_of_recs (Frame.emit ..)).trans rfl, ?_⟩
  exact (Wrote.emit s _ _ [] (Wrote.none s ((s.advance dt).onSaf (fun x => { x with ptDue := true })) rfl) (run_phase hrun) rfl _ _ _ _ _ rfl).settle

/-! ## The scan -/

/-- An STO stays, and SAFE by a cause. -/
structure SafeStays (s t : State) : Prop where
  sto : s.saf.sto = true → t.saf.sto = true
  safe : ∀ c, SafeBy s c → SafeBy t c

theorem SafKept.stays (h : SafKept s t) : SafeStays s t := ⟨h.saf.sto, fun _ => h.safeBy⟩

namespace SafeStays

theorem refl (s : State) : SafeStays s s := (SafKept.refl s).stays

theorem trans (h : SafeStays s t) (k : SafeStays t u) : SafeStays s u := ⟨k.sto ∘ h.sto, fun c hc => k.safe c (h.safe c hc)⟩

theorem ite {c : Prop} [Decidable c] (h : SafeStays s t) (k : SafeStays s u) : SafeStays s (if c then t else u) := by
  split
  · exact h
  · exact k

theorem foldl {α : Type} {f : State → α → State} (l : List α) (h : SafeStays s t) (hf : ∀ u a, SafeStays u (f u a)) : SafeStays s (l.foldl f t) := by
  induction l generalizing t with
  | nil => exact h
  | cons a l ih => exact ih (h.trans (hf t a))

theorem edmFault (s : State) (bronze : Bool) (k : Fin 4) (kind : Nat) : SafeStays s (s.edmFault bronze k kind) :=
  trans (t := s.onFreeIx (· + 1)) ⟨id, fun _ h => h⟩ (SafKept.soFault ..).stays

theorem soEval (s : State) : SafeStays s s.soEval := by
  unfold State.soEval
  split
  · exact (SafKept.soOff s true).stays
  · refine foldl _ ((SafKept.soOff s true).trans (.soOff _ false)).stays fun u k => ?_
    exact .ite (.ite ((edmFault ..).trans (edmFault ..)) ⟨id, fun _ h => h⟩) (refl u)

end SafeStays

theorem SafeStays.modRecv (s : State) (bronze : Bool) (c : Fin 16) (f : SafRecv → SafRecv) : SafeStays s (s.modRecv bronze c f) := by
  cases bronze
  · exact ⟨id, fun _ h => h⟩
  · exact ⟨id, fun _ h => h⟩

theorem SafeStays.modConn (s : State) (c : Fin 16) (f : SafConn → SafConn) : SafeStays s (s.modConn c f) := ⟨id, fun _ h => h⟩

theorem SafeStays.envelopeIn (s : State) (c : Fin 16) (b : List Byte) (stamp : Nat) : SafeStays s (s.envelopeIn c b stamp) := by
  unfold State.envelopeIn
  extract_lets u up seq v
  have hu : SafeStays s u := .ite (modRecv ..) (refl s)
  have hv : SafeStays s v := hu.trans ((modRecv ..).trans (modConn ..))
  exact .ite (refl s) (.ite (hu.trans (modConn ..)) (.ite (hv.trans ((SafKept.safRec ..).stays.trans (modConn ..))) hv))

theorem SafeStays.readEnvelopes (s : State) : SafeStays s s.readEnvelopes := by
  unfold State.readEnvelopes
  refine foldl _ (refl s) fun u n => foldl _ (refl u) fun v c => ?_
  split
  · exact trans ((SafKept.refl v).frame (Frame.onCan ..)).stays (envelopeIn ..)
  · exact refl v

theorem SafKept.stillWatch (s : State) (bronze : Bool) : SafKept s (s.stillWatch bronze) := by
  unfold State.stillWatch
  refine .ite (refl s) ?_
  cases bronze
  · exact onSaf ⟨rfl, ⟨rfl, rfl⟩, rfl, fun _ h => h, id, fun _ h => h, ⟨rfl, rfl, rfl, rfl, fun _ h => h⟩, .refl _, fun _ => .refl _⟩
  · exact onSaf ⟨rfl, ⟨rfl, rfl⟩, rfl, fun _ h => h, id, fun _ h => h, .refl _, ⟨rfl, rfl, rfl, rfl, fun _ h => h⟩, fun _ => .refl _⟩

theorem SafKept.ss1Monitor (s : State) : SafKept s s.ss1Monitor := by
  unfold State.ss1Monitor
  split
  · exact (safRec ..).trans (safAct ..)
  · exact refl s

theorem enterSafe_saf (s : State) (cause action flags : Nat) : ∃ f, (s.enterSafe cause action flags).saf = { s.saf with first := f } := by
  have hin : (((s.onSaf (fun x => { x with first := cause })).changeMode .safe 0x0507 (cause + action * 0x10000) flags).commitAbort).saf =
      { s.saf with first := cause } := by
    rw [(Frame.commitAbort _).keep .saf (by decide), (Frame.changeMode ..).keep .saf (by decide), State.onSaf_saf]
  unfold State.enterSafe
  split
  · exact ⟨_, hin⟩
  · exact ⟨_, hin⟩
  · exact ⟨_, hin⟩
  · exact ⟨_, hin⟩
  · exact ⟨_, rfl⟩

/-- A device that operates still does, and STO and what is latched are as they were. -/
structure OperatesOn (s t : State) : Prop where
  op : t.operates = true
  sto : t.saf.sto = s.saf.sto
  latched : t.saf.latched = s.saf.latched

theorem OperatesOn.trans (h : OperatesOn s t) (k : OperatesOn t u) : OperatesOn s u := ⟨k.op, k.sto.trans h.sto, k.latched.trans h.latched⟩

theorem OperatesOn.frame {K : List StPart} (hop : s.operates = true) (F : Frame K s t) (hpwr : .pwr ∉ K := by decide) (hmode : .mode ∉ K := by decide)
    (hsaf : .saf ∉ K := by decide) : OperatesOn s t := by
  refine ⟨?_, ?_, ?_⟩
  · unfold State.operates State.running
    rw [F.keep .pwr hpwr, F.keep .mode hmode]
    exact hop
  · rw [F.keep .saf hsaf]
  · rw [F.keep .saf hsaf]

theorem OperatesOn.enterSafe (cause action flags : Nat) (hop : s.operates = true) : OperatesOn s (s.enterSafe cause action flags) := by
  obtain ⟨f, hf⟩ := enterSafe_saf s cause action flags
  exact ⟨(SafKept.enterSafe ..).operates hop, by rw [hf], by rw [hf]⟩

/-- What Bronze has done reaches the supervisor: an STO, or an SS1. -/
def State.backTold (s : State) : State := if s.saf.sto then s.stoTold else if s.saf.ss1.isEmpty then s else s.ss1Stop

theorem OperatesOn.backTold (hop : s.operates = true) : OperatesOn s s.backTold := by
  unfold State.backTold
  split
  · refine ⟨(SafKept.stoTold s).operates hop, ?_, ?_⟩
    · rw [stoTold_saf]
    · rw [stoTold_saf]
  · split
    · exact ⟨hop, rfl, rfl⟩
    · exact .frame hop (Frame.ss1Stop s)

theorem cobaltBack_keeps (hop : s.operates = true) : OperatesOn s s.cobaltBack := by
  unfold State.cobaltBack
  split
  · exact ⟨hop, rfl, rfl⟩
  · extract_lets u v
    have hspeaks : OperatesOn s (s.onSaf (fun x => { x with silent := false, owed := [] })) := ⟨hop, rfl, rfl⟩
    have hu : OperatesOn s u := hspeaks.trans (.frame hspeaks.op (Frame.foldl _ _ (fun v r => Frame.emit ..) _))
    have hv : OperatesOn s v := by
      unfold v
      split
      · exact hu.trans (.enterSafe _ _ _ hu.op)
      · exact hu
    exact hv.trans (.backTold hv.op)

/-- The self-checks of a scan: the state behind those of the program, the memory and the time. -/
def State.scanChecked (s : State) (sram instr time : Bool) : State :=
  let s := s.cobaltBack
  let s := if instr then s else s.chanFault 1 true true false
  let s := if sram then s else s.chanFault 2 true true false
  if time then s else s.chanFault 3 true true false

/-- What a scan does behind its self-checks, up to the mirror. -/
def State.scanActs (s : State) : State :=
  let s := s.readEnvelopes
  let s := (s.safEval true).safEval false
  let s := if s.saf.sto then s.pathAct false false true s.saf.stoCause s.saf.stoFrom else s
  ((s.ss1Monitor.stillWatch false).stillWatch true).soEval

theorem SafeStays.scanActs (s : State) : SafeStays s s.scanActs := by
  unfold State.scanActs
  extract_lets u v w
  have hv : SafKept u v := (SafKept.safEval ..).trans (SafKept.safEval ..)
  have hw : SafKept u w := .ite (hv.trans (.pathAct ..)) hv
  exact ((readEnvelopes s).trans (hw.trans ((SafKept.ss1Monitor w).trans ((SafKept.stillWatch ..).trans (SafKept.stillWatch ..)))).stays).trans (soEval _)

theorem cobaltScan_due (sram instr time : Bool) (hrun : s.running = true) (htick : s.tb % 100000 = 0) :
    s.cobaltScan sram instr time = (s.scanChecked sram instr time).scanActs.mirror := by
  unfold State.cobaltScan
  rw [if_pos (by rw [hrun, htick]; rfl)]
  extract_lets back instrs mems times envelopes demands bars monitors
  have hchecked : s.scanChecked sram instr time = times := rfl
  rw [hchecked]
  clear_value times
  refine congrArg State.mirror ?_
  unfold State.scanActs
  dsimp only [monitors, bars, demands, envelopes]

/-- A failed self-check of the scan removes torque, by the code of the first that failed. -/
theorem scanChecked_fails {sram instr time : Bool} (hop : s.operates = true) (hbad : (sram && instr && time) = false) (hsto : s.saf.sto = false)
    (h1 : s.hasLatched 0x701 = false) (h2 : s.hasLatched 0x702 = false) (h3 : s.hasLatched 0x703 = false) :
    (s.scanChecked sram instr time).saf.sto = true ∧
    SafeBy (s.scanChecked sram instr time) (if instr then (if sram then 0x703 else 0x702) else 0x701) := by
  have hback := cobaltBack_keeps hop
  have hfails (sub : Nat) (hsub : sub < 256) (hnew : s.hasLatched (0x700 + sub) = false) :
      (s.cobaltBack.chanFault sub true true false).saf.sto = true ∧ SafeBy (s.cobaltBack.chanFault sub true true false) (0x700 + sub) := by
    obtain ⟨htorque, hsafe⟩ := chanFault_removes true true false hsub hback.op (heard_by_cobalt _)
      ((hasLatched_congr hback.latched _).trans hnew) (hback.sto.trans hsto)
    exact ⟨htorque.1, hsafe⟩
  have hrest (u : State) (ok : Bool) (sub : Nat) : SafeStays u (if ok then u else u.chanFault sub true true false) :=
    .ite (.refl u) (SafKept.chanFault ..).stays
  unfold State.scanChecked
  cases instr with
  | false =>
    have hstays := (hrest (s.cobaltBack.chanFault 1 true true false) sram 2).trans (hrest _ time 3)
    exact ⟨hstays.sto (hfails 1 (by decide) h1).1, hstays.safe _ (hfails 1 (by decide) h1).2⟩
  | true =>
    cases sram with
    | false =>
      have hstays := hrest (s.cobaltBack.chanFault 2 true true false) time 3
      exact ⟨hstays.sto (hfails 2 (by decide) h2).1, hstays.safe _ (hfails 2 (by decide) h2).2⟩
    | true =>
      cases time with
      | false => exact hfails 3 (by decide) h3
      | true => cases hbad

theorem Frame.scanActs (s : State) : Frame [.mode, .stg, .recs, .regs, .snt, .freeIx, .cp, .sns, .ax, .gd, .cmd, .aux, .saf, .can] s s.scanActs := by
  unfold State.scanActs
  extract_lets u v w
  have hv : Frame [.mode, .stg, .recs, .regs, .snt, .freeIx, .cp, .sns, .ax, .gd, .cmd, .aux, .saf, .can] s v :=
    Frame.next (Frame.safEval ..) (by decide) (Frame.next (Frame.safEval ..) (by decide) (Frame.next (Frame.readEnvelopes ..) (by decide) (Frame.refl ..)))
  have hw : Frame [.mode, .stg, .recs, .regs, .snt, .freeIx, .cp, .sns, .ax, .gd, .cmd, .aux, .saf, .can] s w :=
    .ite (Frame.next (Frame.pathAct ..) (by decide) hv) hv
  exact Frame.next (Frame.soEval ..) (by decide) (Frame.next (Frame.stillWatch ..) (by decide) (Frame.next (Frame.stillWatch ..) (by decide)
    (Frame.next (Frame.ss1Monitor ..) (by decide) hw)))

theorem Frame.scanChecked (s : State) (sram instr time : Bool) :
    Frame [.mode, .stg, .recs, .regs, .snt, .cp, .sns, .ax, .gd, .cmd, .aux, .saf] s (s.scanChecked sram instr time) := by
  unfold State.scanChecked
  extract_lets u v w
  have hu := Frame.cobaltBack s
  have hv : Frame [.mode, .stg, .recs, .regs, .snt, .cp, .sns, .ax, .gd, .cmd, .aux, .saf] s v := .ite hu (Frame.next (Frame.chanFault ..) (by decide) hu)
  have hw : Frame [.mode, .stg, .recs, .regs, .snt, .cp, .sns, .ax, .gd, .cmd, .aux, .saf] s w := .ite hv (Frame.next (Frame.chanFault ..) (by decide) hv)
  exact .ite hw (Frame.next (Frame.chanFault ..) (by decide) hw)

/-- The mirror that Cobalt rewrites shows what is latched. -/
theorem mirror_latch (s : State) : s.mirror.saf.mirrorAt = s.now ∧ s.mirror.saf.mirror.latch = w32 s.mirror.latchWord ∧
    s.mirror.saf.sto = s.saf.sto ∧ s.mirror.mode = s.mode ∧ s.mirror.saf.latched = s.saf.latched := by
  have hlatched : s.mirror.saf.latched = s.saf.latched := rfl
  have hword : s.mirror.latchWord = s.latchWord := by
    unfold State.latchWord
    rw [hlatched]
  exact ⟨rfl, by rw [hword]; rfl, rfl, rfl, hlatched⟩

theorem exec_cobaltScan (sram instr time : Bool) (hop : s.operates = true) (htick : s.tbAt dt % 100000 = 0) :
    ∃ t, exec (.cobaltScan dt sram instr time) s = .next t ∧ t.saf.mirrorAt = (s.advance dt).now ∧ t.saf.mirror.latch = w32 t.latchWord ∧
      ((sram && instr && time) = false → s.saf.sto = false → s.hasLatched 0x701 = false → s.hasLatched 0x702 = false → s.hasLatched 0x703 = false →
        t.saf.sto = true ∧ SafeBy t (if instr then (if sram then 0x703 else 0x702) else 0x701)) := by
  have hstep := cobaltScan_due (s := s.advance dt) sram instr time (operates_running (s := s.advance dt) hop) htick
  have hnow : ((s.advance dt).scanChecked sram instr time).scanActs.now = (s.advance dt).now :=
    congrArg (·.now) (((Frame.scanActs _).keep .clk (by decide)).trans ((Frame.scanChecked ..).keep .clk (by decide)))
  have hstays := SafeStays.scanActs ((s.advance dt).scanChecked sram instr time)
  have hfails := scanChecked_fails (s := s.advance dt) (sram := sram) (instr := instr) (time := time) hop
  refine ⟨_, exec_next_of rfl hstep, ?_⟩
  generalize (s.advance dt).scanChecked sram instr time = u at *
  generalize u.scanActs = v at *
  obtain ⟨hat, hlatch, hsame, hmode, hlatched⟩ := mirror_latch v
  generalize v.mirror = m at *
  refine ⟨hat.trans hnow, hlatch, fun hbad hsto h1 h2 h3 => ?_⟩
  obtain ⟨hacts, hsafe⟩ := hfails hbad hsto h1 h2 h3
  obtain ⟨hsafeMode, hcause⟩ := hstays.safe _ hsafe
  exact ⟨hsame.trans (hstays.sto hacts), (congrArg ModeSt.mode hmode).trans hsafeMode, (hasLatched_congr hlatched _).trans hcause⟩

end

/-- Settles O35: a failed check of a channel removes torque by the paths that act, and a check that finds nothing is counted or noted. -/
theorem channelChecks : Obligations.ChannelChecks := by
  unfold Obligations.ChannelChecks
  intro s dt hop
  refine ⟨fun c sub b k hsto hnew hcase => ?_, fun _ hnew hlong => exec_compareStale_bronze hop hnew hlong,
    fun hsto hnew => cobaltSupply_removes hop hsto hnew, fun hsto hnew => vcoreSWindow_removes hop hsto hnew,
    fun hsto hnew hlong => compareStale_removes hop hsto hnew hlong, fun hsto hnew hss1 hmon => axisDataStale_removes hop hsto hnew hss1 hmon,
    fun hsto hnew hlong => mirrorStale_removes hop hsto hnew hlong, fun sram instr time htick => exec_cobaltScan sram instr time hop htick,
    fun htick hA hB hfault hv24s hconn hss1 hpaths hbar hout =>
      exec_safetyCompare_equal hop htick hA hB hfault hv24s hconn hss1 hpaths hbar hout,
    fun hlong => exec_romCheck_ok hop hlong, fun u hload => exec_pathTimeout_loading hload,
    fun hsto hsilent hpath hlong hnew => ?_, fun hdue hlong => exec_pathDue hop hdue hlong⟩
  · rcases hcase with ⟨rfl, rfl, rfl, rfl⟩ | ⟨rfl, rfl, rfl, rfl⟩ | ⟨rfl, htick, hbad, rfl, rfl, rfl⟩ | ⟨rfl, hlong, rfl, rfl, rfl⟩ |
      ⟨rfl, hss1, hmon, rfl, rfl, rfl⟩ | ⟨rfl, hlong, rfl, rfl, rfl⟩ | ⟨rfl, hlong, rfl, rfl, rfl⟩
    · exact cobaltSupply_removes hop hsto hnew
    · exact vcoreSWindow_removes hop hsto hnew
    · exact safetyCompare_removes hop hsto hnew htick hbad
    · exact compareStale_removes hop hsto hnew hlong
    · exact axisDataStale_removes hop hsto hnew hss1 hmon
    · exact romCheck_removes hop hsto hnew hlong
    · exact mirrorStale_removes hop hsto hnew hlong
  · exact ⟨_, exec_next_of rfl rfl,
      (pathTimeout_stops (s := s.advance dt) hop hsto hsilent hpath (by rw [State.advance_saf]; exact hlong) hnew).settle⟩

end Sys2Proof.Machine
end

section
/-! PROOF. Safe inputs: edges, both filters, discrepancy, test pulses and the 24 V supply (R326 to R331). -/
set_option Elab.async false

namespace Sys2Proof.Machine

section
variable {s t u : State} {dt : Nat} {bronze : Bool}

/-! ## Edges and filters -/

theorem exec_safeEdge (p : Fin 9) (chB v : Bool) :
    ((if chB then s.saf.rawB[p] else s.saf.rawA[p]) ≠ v → ∃ t, exec (.safeInputEdge dt p chB v) s = .next t ∧
        t.but s = { s.advance dt with saf := if chB
          then { s.saf with rawB := s.saf.rawB.set p v, edgeB := s.saf.edgeB.set p ((s.advance dt).now, s.tbAt dt) }
          else { s.saf with rawA := s.saf.rawA.set p v, edgeA := s.saf.edgeA.set p ((s.advance dt).now, s.tbAt dt) } }) ∧
      ((if chB then s.saf.rawB[p] else s.saf.rawA[p]) = v → ∃ t, exec (.safeInputEdge dt p chB v) s = .next t ∧ t.but s = s.advance dt) := by
  cases chB with
  | false =>
    refine ⟨fun hnew => ⟨_, exec_next_of rfl rfl, ?_⟩, fun hsame => ⟨_, exec_next_of rfl rfl, ?_⟩⟩
    · exact congrArg (fun x : SafSt => ({ s.advance dt with saf := x } : State)) (if_neg (by simpa using hnew))
    · exact congrArg (fun x : SafSt => ({ s.advance dt with saf := x } : State)) (if_pos (by simpa using hsame))
  | true =>
    refine ⟨fun hnew => ⟨_, exec_next_of rfl rfl, ?_⟩, fun hsame => ⟨_, exec_next_of rfl rfl, ?_⟩⟩
    · exact congrArg (fun x : SafSt => ({ s.advance dt with saf := x } : State)) (if_neg (by simpa using hnew))
    · exact congrArg (fun x : SafSt => ({ s.advance dt with saf := x } : State)) (if_pos (by simpa using hsame))

/-- What a channel takes of a pair changes its filtered levels there alone. -/
theorem setFilt_view (s : State) (bronze : Bool) (p : Fin 9) (chB level : Bool) :
    ((s.setFilt bronze p chB level).view bronze).filtA = (if chB then (s.view bronze).filtA else (s.view bronze).filtA.set p level) ∧
    ((s.setFilt bronze p chB level).view bronze).filtB = (if chB then (s.view bronze).filtB.set p level else (s.view bronze).filtB) ∧
    (s.setFilt bronze p chB level).view (!bronze) = s.view (!bronze) := by
  cases bronze
  · cases chB
    · exact ⟨rfl, rfl, rfl⟩
    · exact ⟨rfl, rfl, rfl⟩
  · cases chB
    · exact ⟨rfl, rfl, rfl⟩
    · exact ⟨rfl, rfl, rfl⟩

/-- The demand of the STO pair is the last of a channel's demands. -/
theorem newDemands_sto (hdemand : s.pairDemand (s.view bronze) 8 = true) (hnew : (s.view bronze).acted.contains 0x200 = false) :
    ∃ l, s.newDemands bronze = l ++ [0x200] := by
  unfold State.newDemands State.demands
  rw [if_pos hdemand, List.filter_append, List.filter_cons_of_pos (by rw [hnew]; rfl)]
  exact ⟨_, rfl⟩

/-- A demand with its record, where the channel is the first to see it. -/
def State.demandRec (bronze : Bool) (v : SafView) (s : State) (c : Nat) : State :=
  if !(s.view (!bronze)).acted.contains c then s.safRec bronze (s.demandStamp v c) 0x0D01 c (s.actionOf c) 0 else s

theorem SafKept.demandRec (bronze : Bool) (v : SafView) (s : State) (c : Nat) : SafKept s (s.demandRec bronze v c) := .ite (.safRec ..) (.refl s)

theorem demandRec_sto (bronze : Bool) (v : SafView) (s : State) (c : Nat) : (s.demandRec bronze v c).saf.sto = s.saf.sto := by
  unfold State.demandRec
  split
  · exact safRec_sto ..
  · rfl

theorem demandAct_eq (bronze : Bool) (v : SafView) (s : State) (c : Nat) :
    s.demandAct bronze v c = (s.demandRec bronze v c).safAct bronze bronze (!bronze) c (s.demandStamp v c) := rfl

/-- The demands on which a channel acts in turn keep each axis stopped where STO acts. -/
theorem foldl_demandAct_settled {v : SafView} (l : List Nat) (hop : s.operates = true) (hsilent : s.saf.silent = false)
    (hsto : s.saf.sto = true → s.Stopped) : (l.foldl (State.demandAct bronze v) s).saf.sto = true → (l.foldl (State.demandAct bronze v) s).Stopped := by
  induction l generalizing s with
  | nil => exact hsto
  | cons c l ih =>
    have hkept := SafKept.demandAct bronze v s c
    have hrec := SafKept.demandRec bronze v s c
    refine ih (hkept.operates hop) (hkept.saf.silent.trans hsilent) fun hend => ?_
    rw [demandAct_eq] at hend ⊢
    exact safAct_settled _ _ _ _ _ (operates_freeze (hrec.operates hop)) (heard_of_speaking (hrec.saf.silent.trans hsilent))
      (fun h => hrec.stopped (hsto ((demandRec_sto ..) ▸ h))) hend

/-- A new demand of the STO pair removes torque by the channel's path. -/
theorem safEval_sto (hop : s.operates = true) (hsilent : s.saf.silent = false) (hsto : s.saf.sto = false)
    (hdemand : s.pairDemand (s.view bronze) 8 = true) (hnew : (s.view bronze).acted.contains 0x200 = false) :
    TorqueOff (s.safEval bronze) bronze (!bronze) ∧ SafeBy (s.safEval bronze) 0x200 := by
  obtain ⟨l, hl⟩ := newDemands_sto hdemand hnew
  let u := s.modView bronze fun x => { x with acted := x.acted.filter (s.demands (s.view bronze)).contains ++ s.newDemands bronze }
  have hu : SafKept s u := .acted s bronze fun a => a.filter (s.demands (s.view bronze)).contains ++ s.newDemands bronze
  have hustate : u.saf.sto = false := by cases bronze <;> exact hsto
  let w := l.foldl (State.demandAct bronze (s.view bronze)) u
  have hw : SafKept u w := .foldl _ (.refl u) fun x c => .demandAct bronze _ x c
  have hsettled : w.saf.sto = true → w.Stopped := foldl_demandAct_settled l (hu.operates hop) (hu.saf.silent.trans hsilent)
    fun h => absurd h (by rw [hustate]; decide)
  have heval : s.safEval bronze = w.demandAct bronze (s.view bronze) 0x200 := by
    have hfold : s.safEval bronze = (l ++ [0x200]).foldl (State.demandAct bronze (s.view bronze)) u := hl ▸ safEval_eq s bronze
    rw [hfold, List.foldl_append]
    rfl
  have hkept := hu.trans hw
  have hrec := SafKept.demandRec bronze (s.view bronze) w 0x200
  rw [heval, demandAct_eq]
  exact safAct_removes _ _ _ _ _ ((hkept.trans hrec).operates hop) (heard_of_speaking ((hkept.trans hrec).saf.silent.trans hsilent))
    (actionOf_sto (by decide) (by decide)) fun h => hrec.stopped (hsettled ((demandRec_sto ..) ▸ h))

/-- A channel that takes a level it awaits: Bronze evaluates at once. -/
theorem safeFiltered_due {p : Fin 9} {chB : Bool} (hlive : s.safLive = true) (hdue : s.filtDue true p chB = true) :
    s.safeFiltered p chB = (s.setFilt true p chB (if chB then s.saf.rawB[p] else s.saf.rawA[p])).safEval true := by
  unfold State.safeFiltered
  rw [hlive, hdue]
  rfl

theorem setFilt_saf (s : State) (bronze : Bool) (p : Fin 9) (chB level : Bool) : (s.setFilt bronze p chB level).saf =
    if bronze then { s.saf with bronze := (s.setFilt bronze p chB level).saf.bronze } else { s.saf with cobalt := (s.setFilt bronze p chB level).saf.cobalt } := by
  cases bronze
  · rfl
  · rfl

/-- The STO pair demands in a channel in which one of its inputs has fallen. -/
theorem setFilt_sto_demands {chB : Bool} (hen : s.regs.SAF_STO_CFG_EN = true) :
    (s.setFilt bronze 8 chB false).pairDemand ((s.setFilt bronze 8 chB false).view bronze) 8 = true := by
  obtain ⟨hA, hB, -⟩ := setFilt_view s bronze 8 chB false
  have hregs : (s.setFilt bronze 8 chB false).regs = s.regs := (Frame.setFilt ..).keep .regs (by decide)
  have hmode : (s.setFilt bronze 8 chB false).pairMode 8 = 1 := by
    unfold State.pairMode
    rw [if_neg (by decide), hregs, hen]
    rfl
  unfold State.pairDemand State.runA State.runB
  rw [hmode, if_neg (by decide)]
  cases chB with
  | false =>
    have hlow : ((s.setFilt bronze 8 false false).view bronze).filtA[(8 : Fin 9)] = false := by
      rw [hA]
      exact Vector.getElem_set_self ..
    rw [hlow]
    simp
  | true =>
    have hlow : ((s.setFilt bronze 8 true false).view bronze).filtB[(8 : Fin 9)] = false := by
      rw [hB]
      exact Vector.getElem_set_self ..
    rw [hlow]
    simp

theorem exec_safeFiltered {p : Fin 9} {chB : Bool} (hlive : s.safLive = true) (hdue : (s.advance dt).filtDue true p chB = true) :
    ∃ t, exec (.safeInputFiltered dt p chB) s = .next t ∧
      (chB = true → t.saf.bronze.filtB[p] = s.saf.rawB[p]) ∧ (chB = false → t.saf.bronze.filtA[p] = s.saf.rawA[p]) ∧
      (p = 8 → s.regs.SAF_STO_CFG_EN = true → (if chB then s.saf.rawB[p] else s.saf.rawA[p]) = false → s.operates = true → s.saf.sto = false →
        s.saf.silent = false → s.saf.bronze.acted.contains 0x200 = false → TorqueOff t true false ∧ SafeBy t 0x200) := by
  have hstep := safeFiltered_due (s := s.advance dt) hlive hdue
  let level := if chB then (s.advance dt).saf.rawB[p] else (s.advance dt).saf.rawA[p]
  obtain ⟨hA, hB, -⟩ := setFilt_view (s.advance dt) true p chB level
  have hsaf := setFilt_saf (s.advance dt) true p chB level
  have F := Frame.setFilt (s.advance dt) true p chB level
  have hacted : ((s.advance dt).setFilt true p chB level).saf.bronze.acted = s.saf.bronze.acted := by cases chB <;> rfl
  have hkept := (SafKept.safEval ((s.advance dt).setFilt true p chB level) true).saf.bronze
  refine ⟨_, exec_next_of rfl hstep, fun hch => ?_, fun hch => ?_, fun hp hen hlow hop hsto hsilent hnew => ?_⟩
  · subst hch
    refine (congrArg (·[p]) (hkept.filtB.trans hB)).trans ?_
    exact Vector.getElem_set_self ..
  · subst hch
    refine (congrArg (·[p]) (hkept.filtA.trans hA)).trans ?_
    exact Vector.getElem_set_self ..
  · subst hp
    have hlevel : level = false := hlow
    have hdemand := setFilt_sto_demands (s := s.advance dt) (bronze := true) (chB := chB) hen
    rw [← hlevel] at hdemand
    have hop' : ((s.advance dt).setFilt true 8 chB level).operates = true := by
      unfold State.operates State.running
      rw [F.keep .pwr (by decide), F.keep .mode (by decide)]
      exact hop
    have hsto' : ((s.advance dt).setFilt true 8 chB level).saf.sto = false := by
      rw [hsaf]
      exact hsto
    have hsilent' : ((s.advance dt).setFilt true 8 chB level).saf.silent = false := by
      rw [hsaf]
      exact hsilent
    obtain ⟨htorque, hsafe⟩ := safEval_sto hop' hsilent' hsto' hdemand ((congrArg (List.contains · 0x200) hacted).trans hnew)
    exact ⟨htorque.settle, hsafe.settle⟩

/-! ## Cobalt's sample -/

/-- What a channel's watch on EDM becomes of the levels read: one that they satisfy ends. -/
def SafOut.watchRead (edm : BitVec 4) (o : SafOut) (k : Fin 4) (w : Option (Bool × Nat)) : Option (Bool × Nat) :=
  match w with
  | some (lvl, t) => if edm.getLsbD k == lvl && !o.limited then none else some (lvl, t)
  | none => none

/-- One output as Cobalt reads EDM. -/
def State.edmTurn (edm : BitVec 4) (s : State) (k : Fin 4) : State :=
  s.modOut k (fun o => { o with edmC := o.watchRead edm k o.edmC, edmB := o.watchRead edm k o.edmB })

theorem edmRead_eq (s : State) (edm : BitVec 4) :
    s.edmRead edm = (List.finRange 4).foldl (State.edmTurn edm) (s.onSaf (fun x => { x with edm := edm })) := by
  unfold State.edmRead
  rfl

theorem edmRead_out (s : State) (edm : BitVec 4) : ∃ v, s.edmRead edm = s.onSaf (fun x => { x with edm := edm, out := v }) := by
  have h : ∀ (l : List (Fin 4)) (v : Vector SafOut 4), ∃ w, l.foldl (State.edmTurn edm) (s.onSaf (fun x => { x with edm := edm, out := v })) =
      s.onSaf (fun x => { x with edm := edm, out := w }) := by
    intro l
    induction l with
    | nil => exact fun v => ⟨v, rfl⟩
    | cons k l ih => exact fun v => ih _
  rw [edmRead_eq]
  exact h _ s.saf.out

theorem edmRead_ends {edm : BitVec 4} {k : Fin 4} {t0 : Nat} (hwatch : s.saf.out[k].edmC = some (edm.getLsbD k.val, t0))
    (hlim : s.saf.out[k].limited = false) : (s.edmRead edm).saf.out[k].edmC = none := by
  rw [edmRead_eq]
  have hother (u : State) (m : Fin 4) (hm : m ≠ k) : (u.edmTurn edm m).saf.out[k] = u.saf.out[k] := vset_ne _ _ _ _ hm
  refine foldl_reaches (f := State.edmTurn edm) (k := k) (Q := fun u => u.saf.out[k] = s.saf.out[k]) (R := fun u => u.saf.out[k].edmC = none)
    (fun u m hm h => (hother u m hm).trans h) (fun u h => ?_) (fun u m hm h => by rw [hother u m hm]; exact h)
    (List.nodup_finRange 4) (List.mem_finRange k) rfl
  have hself : (u.edmTurn edm k).saf.out[k] = _ := vset_self ..
  rw [hself]
  show SafOut.watchRead edm u.saf.out[k] k u.saf.out[k].edmC = none
  rw [h, hwatch]
  unfold SafOut.watchRead
  dsimp only
  rw [hlim]
  exact if_pos (by simp)

/-- One pair as Cobalt takes its levels. -/
def State.filtTurn (s : State) (p : Fin 9) : State :=
  let s := if s.filtDue false p false then s.setFilt false p false s.saf.rawA[p] else s
  if s.filtDue false p true then s.setFilt false p true s.saf.rawB[p] else s

theorem filtTurn_cobalt (s : State) (p : Fin 9) : ∃ c : SafView, s.filtTurn p = s.onSaf (fun x => { x with cobalt := c }) ∧
    c.filtA = (if s.filtDue false p false then s.saf.cobalt.filtA.set p s.saf.rawA[p] else s.saf.cobalt.filtA) ∧
    c.filtB = (if s.filtDue false p true then s.saf.cobalt.filtB.set p s.saf.rawB[p] else s.saf.cobalt.filtB) := by
  unfold State.filtTurn
  extract_lets u
  obtain ⟨c, hc, hA, hB⟩ : ∃ c : SafView, u = s.onSaf (fun x => { x with cobalt := c }) ∧
      c.filtA = (if s.filtDue false p false then s.saf.cobalt.filtA.set p s.saf.rawA[p] else s.saf.cobalt.filtA) ∧ c.filtB = s.saf.cobalt.filtB := by
    unfold u
    split
    · exact ⟨_, rfl, rfl, rfl⟩
    · exact ⟨s.saf.cobalt, rfl, rfl, rfl⟩
  have hdue : u.filtDue false p true = s.filtDue false p true := by
    rw [hc]
    unfold State.filtDue
    show (s.saf.rawB[p] != c.filtB[p] && !s.masked false p true && _) = _
    rw [hB]
    rfl
  rw [hdue, hc]
  split
  · refine ⟨_, rfl, hA, ?_⟩
    show c.filtB.set p s.saf.rawB[p] = _
    rw [hB]
  · exact ⟨c, rfl, hA, hB⟩

theorem cobaltFilters_eq (s : State) : s.cobaltFilters = (List.finRange 9).foldl State.filtTurn s := by
  unfold State.cobaltFilters
  rfl

theorem cobaltFilters_cobalt (s : State) : ∃ c : SafView, s.cobaltFilters = s.onSaf (fun x => { x with cobalt := c }) := by
  have h : ∀ (l : List (Fin 9)) (c : SafView), ∃ d : SafView, l.foldl State.filtTurn (s.onSaf (fun x => { x with cobalt := c })) =
      s.onSaf (fun x => { x with cobalt := d }) := by
    intro l
    induction l with
    | nil => exact fun c => ⟨c, rfl⟩
    | cons p l ih =>
      intro c
      obtain ⟨d, hd, -⟩ := filtTurn_cobalt (s.onSaf (fun x => { x with cobalt := c })) p
      obtain ⟨e, he⟩ := ih d
      refine ⟨e, ?_⟩
      rw [List.foldl_cons, hd]
      exact he
  exact h _ s.saf.cobalt

theorem cobaltFilters_takes (s : State) (p : Fin 9) :
    s.cobaltFilters.saf.cobalt.filtA[p] = (if s.filtDue false p false then s.saf.rawA[p] else s.saf.cobalt.filtA[p]) ∧
    s.cobaltFilters.saf.cobalt.filtB[p] = (if s.filtDue false p true then s.saf.rawB[p] else s.saf.cobalt.filtB[p]) := by
  have hset {v : Vector Bool 9} {a b : Fin 9} {x : Bool} (h : a ≠ b) : (v.set a x)[b] = v[b] :=
    Vector.getElem_set_ne _ _ fun he => h (Fin.ext he)
  have hself {v : Vector Bool 9} {a : Fin 9} {x : Bool} : (v.set a x)[a] = x := Vector.getElem_set_self ..
  have hother (u : State) (m : Fin 9) (hm : m ≠ p) : (u.filtTurn m).saf.cobalt.filtA[p] = u.saf.cobalt.filtA[p] ∧
      (u.filtTurn m).saf.cobalt.filtB[p] = u.saf.cobalt.filtB[p] := by
    obtain ⟨c, hc, hA, hB⟩ := filtTurn_cobalt u m
    rw [hc]
    show c.filtA[p] = _ ∧ c.filtB[p] = _
    rw [hA, hB]
    constructor
    · split
      · exact hset hm
      · rfl
    · split
      · exact hset hm
      · rfl
  rw [cobaltFilters_eq]
  refine foldl_reaches (f := State.filtTurn) (k := p)
    (Q := fun u => (∃ c : SafView, u = s.onSaf (fun x => { x with cobalt := c })) ∧ u.saf.cobalt.filtA[p] = s.saf.cobalt.filtA[p] ∧
      u.saf.cobalt.filtB[p] = s.saf.cobalt.filtB[p])
    (R := fun u => u.saf.cobalt.filtA[p] = (if s.filtDue false p false then s.saf.rawA[p] else s.saf.cobalt.filtA[p]) ∧
      u.saf.cobalt.filtB[p] = (if s.filtDue false p true then s.saf.rawB[p] else s.saf.cobalt.filtB[p]))
    (fun u m hm h => ?_) (fun u h => ?_) (fun u m hm h => ?_) (List.nodup_finRange 9) (List.mem_finRange p) ⟨⟨s.saf.cobalt, rfl⟩, rfl, rfl⟩
  · obtain ⟨⟨c, rfl⟩, hA, hB⟩ := h
    obtain ⟨d, hd, -⟩ := filtTurn_cobalt (s.onSaf (fun x => { x with cobalt := c })) m
    obtain ⟨h1, h2⟩ := hother (s.onSaf (fun x => { x with cobalt := c })) m hm
    exact ⟨⟨d, hd⟩, h1.trans hA, h2.trans hB⟩
  · obtain ⟨⟨c, rfl⟩, hA, hB⟩ := h
    obtain ⟨d, hd, hdA, hdB⟩ := filtTurn_cobalt (s.onSaf (fun x => { x with cobalt := c })) p
    have hdueA : (s.onSaf (fun x => { x with cobalt := c })).filtDue false p false = s.filtDue false p false := by
      unfold State.filtDue
      show (s.saf.rawA[p] != c.filtA[p] && _ && _) = _
      rw [show c.filtA[p] = s.saf.cobalt.filtA[p] from hA]
      rfl
    have hdueB : (s.onSaf (fun x => { x with cobalt := c })).filtDue false p true = s.filtDue false p true := by
      unfold State.filtDue
      show (s.saf.rawB[p] != c.filtB[p] && _ && _) = _
      rw [show c.filtB[p] = s.saf.cobalt.filtB[p] from hB]
      rfl
    rw [hd]
    show d.filtA[p] = _ ∧ d.filtB[p] = _
    rw [hdA, hdB, hdueA, hdueB]
    constructor
    · split
      · exact hself
      · exact hA
    · split
      · exact hself
      · exact hB
  · obtain ⟨h1, h2⟩ := hother u m hm
    exact ⟨h1.trans h.1, h2.trans h.2⟩

theorem cobaltSample_due (edm : BitVec 4) (hrun : s.running = true) (htick : s.tb % 50000 = 0) :
    s.cobaltSample edm = (s.edmRead edm).cobaltFilters := by
  unfold State.cobaltSample
  rw [if_pos hrun, if_pos htick]

theorem exec_cobaltSample (edm : BitVec 4) (hrun : s.running = true) (htick : s.tbAt dt % 50000 = 0) :
    ∃ t, exec (.cobaltSample dt edm) s = .next t ∧ t.but s = { s.advance dt with saf := t.saf } ∧ t.saf.edm = edm ∧ t.saf.bronze = s.saf.bronze ∧
      (∀ (k : Fin 4) (t0 : Nat), s.saf.out[k].edmC = some (edm.getLsbD k.val, t0) → s.saf.out[k].limited = false → t.saf.out[k].edmC = none) ∧
      (∀ p : Fin 9,
        t.saf.cobalt.filtA[p] = (if (s.advance dt).filtDue false p false then s.saf.rawA[p] else s.saf.cobalt.filtA[p]) ∧
        t.saf.cobalt.filtB[p] = (if (s.advance dt).filtDue false p true then s.saf.rawB[p] else s.saf.cobalt.filtB[p])) := by
  have hstep := cobaltSample_due (s := s.advance dt) edm hrun htick
  obtain ⟨v, hv⟩ := edmRead_out (s.advance dt) edm
  obtain ⟨c, hc⟩ := cobaltFilters_cobalt ((s.advance dt).edmRead edm)
  have htakes := cobaltFilters_takes ((s.advance dt).edmRead edm)
  have hends (k : Fin 4) (t0 : Nat) (hw : s.saf.out[k].edmC = some (edm.getLsbD k.val, t0)) (hl : s.saf.out[k].limited = false) :
      ((s.advance dt).edmRead edm).saf.out[k].edmC = none := edmRead_ends (s := s.advance dt) hw hl
  refine ⟨_, exec_next_of rfl (hstep.trans hc), ?_, ?_, ?_, fun k t0 hw hl => hends k t0 hw hl, fun p => ?_⟩
  · rw [hv]
    rfl
  · rw [hv]
    rfl
  · rw [hv]
    rfl
  · rw [hc] at htakes
    obtain ⟨h1, h2⟩ := htakes p
    rw [hv] at h1 h2 ⊢
    exact ⟨h1, h2⟩

/-! ## Faults of a pair -/

theorem SafKept.pairFault (s : State) (bronze : Bool) (p : Fin 9) : SafKept s (s.pairFault bronze p) := by
  have hfault {v : Vector Bool 9} (q : Fin 9) (h : v[q] = true) : (v.set p true)[q] = true := by
    by_cases hq : p = q
    · subst hq
      exact Vector.getElem_set_self ..
    · exact (Vector.getElem_set_ne _ _ fun he => hq (Fin.ext he)).trans h
  let faulty (v : SafView) : SafView := { v with fault := v.fault.set p true, both := v.both.set p false, since := v.since.set p none }
  cases bronze
  · exact onSaf (f := fun x => { x with cobalt := faulty x.cobalt })
      ⟨rfl, ⟨rfl, rfl⟩, rfl, fun _ h => h, id, fun _ h => h, ⟨rfl, rfl, rfl, rfl, hfault⟩, .refl _, fun _ => .refl _⟩
  · exact onSaf (f := fun x => { x with bronze := faulty x.bronze })
      ⟨rfl, ⟨rfl, rfl⟩, rfl, fun _ h => h, id, fun _ h => h, .refl _, ⟨rfl, rfl, rfl, rfl, hfault⟩, fun _ => .refl _⟩

theorem pairFault_view (s : State) (bronze : Bool) (p : Fin 9) : ((s.pairFault bronze p).view bronze).fault[p] = true := by
  cases bronze
  · exact Vector.getElem_set_self ..
  · exact Vector.getElem_set_self ..

/-- A fault of a pair with its record, where the channel is the first to find it. -/
def State.pairNoted (s : State) (bronze : Bool) (p : Fin 9) (kind stamp : Nat) : State :=
  if (s.view (!bronze)).fault[p] then s.pairFault bronze p
  else (s.pairFault bronze p).safRec bronze stamp 0x0D04 (p.val + kind * 256) ((s.pairFault bronze p).pairLevels p) 0

theorem inFault_eq (s : State) (bronze : Bool) (p : Fin 9) (kind stamp : Nat) : s.inFault bronze p kind stamp =
    ((s.pairNoted bronze p kind stamp).safAct bronze bronze (!bronze) (0x300 + p.val) stamp).safEval bronze := by
  unfold State.inFault State.pairNoted
  rfl

theorem pairNoted_behind (s : State) (bronze : Bool) (p : Fin 9) (kind stamp : Nat) :
    SafKept (s.pairFault bronze p) (s.pairNoted bronze p kind stamp) := .ite (.refl _) (.safRec ..)

theorem SafKept.inFault (s : State) (bronze : Bool) (p : Fin 9) (kind stamp : Nat) : SafKept s (s.inFault bronze p kind stamp) := by
  rw [inFault_eq]
  exact (((pairFault s bronze p).trans (pairNoted_behind ..)).trans (safAct ..)).trans (safEval ..)

theorem inFault_view (s : State) (bronze : Bool) (p : Fin 9) (kind stamp : Nat) : ((s.inFault bronze p kind stamp).view bronze).fault[p] = true := by
  rw [inFault_eq]
  exact ((((pairNoted_behind s bronze p kind stamp).trans (.safAct ..)).trans (.safEval ..)).view bronze).fault p (pairFault_view s bronze p)

/-- A fault of a pair removes torque by the channel's path. -/
theorem inFault_removes (p : Fin 9) (kind stamp : Nat) (hop : s.operates = true) (hsilent : s.saf.silent = false) (hsto : s.saf.sto = false) :
    TorqueOff (s.inFault bronze p kind stamp) bronze (!bronze) ∧ SafeBy (s.inFault bronze p kind stamp) (0x300 + p.val) := by
  have hcause : (0x300 + p.val) / 256 = 3 := by omega
  have hnoted := (SafKept.pairFault s bronze p).trans (pairNoted_behind s bronze p kind stamp)
  have hstoNoted : (s.pairNoted bronze p kind stamp).saf.sto = false := by
    have hfault : (s.pairFault bronze p).saf.sto = false := by cases bronze <;> exact hsto
    unfold State.pairNoted
    split
    · exact hfault
    · rw [safRec_sto]
      exact hfault
  obtain ⟨htorque, hsafe⟩ := safAct_removes bronze bronze (!bronze) (0x300 + p.val) stamp (hnoted.operates hop)
    (heard_of_speaking (hnoted.saf.silent.trans hsilent)) (actionOf_sto (by omega) (by omega)) fun h => absurd h (by rw [hstoNoted]; decide)
  rw [inFault_eq]
  exact ⟨(SafKept.safEval ..).torqueOff htorque, (SafKept.safEval ..).safeBy hsafe⟩

theorem exec_discrepancy (p : Fin 9) (hop : s.operates = true) (hsto : s.saf.sto = false) (hsilent : s.saf.silent = false)
    (hdue : (s.advance dt).discDue bronze p = true) :
    ∃ t, exec (.discrepancyFault dt p bronze) s = .next t ∧ TorqueOff t bronze (!bronze) ∧ SafeBy t (0x300 + p.val) ∧ (t.view bronze).fault[p] = true := by
  have hstep : (s.advance dt).discrepancy p bronze =
      (s.advance dt).inFault bronze p 1 (max (s.advance dt).saf.edgeA[p].2 (s.advance dt).saf.edgeB[p].2) := if_pos hdue
  have hview := inFault_view (s.advance dt) bronze p 1 (max (s.advance dt).saf.edgeA[p].2 (s.advance dt).saf.edgeB[p].2)
  obtain ⟨htorque, hsafe⟩ := inFault_removes (s := s.advance dt) (bronze := bronze) p 1 (max (s.advance dt).saf.edgeA[p].2 (s.advance dt).saf.edgeB[p].2)
    hop hsilent hsto
  refine ⟨_, exec_next_of rfl hstep, htorque.settle, hsafe.settle, ?_⟩
  generalize (s.advance dt).inFault bronze p 1 (max (s.advance dt).saf.edgeA[p].2 (s.advance dt).saf.edgeB[p].2) = u at hview ⊢
  exact hview

/-! ## Test pulses -/

theorem maskOf_succ (n : Nat) (f : Nat → Bool) : maskOf (n + 1) f = 2 ^ n * b2n (f n) + maskOf n f := by
  unfold maskOf
  rw [List.range_succ, List.foldl_append]
  simp only [List.foldl_cons, List.foldl_nil]
  rw [Nat.mul_comm, Nat.add_comm]

theorem maskOf_lt (n : Nat) (f : Nat → Bool) : maskOf n f < 2 ^ n := by
  induction n with
  | zero => exact Nat.one_pos
  | succ n ih =>
    rw [maskOf_succ, Nat.pow_succ]
    cases f n
    · simp only [b2n, Bool.false_eq_true, if_false]
      omega
    · simp only [b2n, if_true]
      omega

theorem testBit_maskOf {n : Nat} {f : Nat → Bool} {i : Nat} (h : i < n) : (maskOf n f).testBit i = f i := by
  induction n with
  | zero => cases h
  | succ n ih =>
    rw [maskOf_succ, Nat.testBit_two_pow_mul_add _ (maskOf_lt n f)]
    by_cases hi : i < n
    · rw [if_pos hi]
      exact ih hi
    · have hn : i = n := by omega
      subst hn
      rw [if_neg hi, Nat.sub_self]
      cases f i
      · rfl
      · rfl

theorem exec_tpStart (one : Bool) (hrun : s.running = true) (hlit : (s.tpo one).phase = .lit)
    (htick : (s.tbAt dt + (if one then s.regs.SAF_TP_PER * 1000000 / 2 else 0)) % (s.regs.SAF_TP_PER * 1000000) = 0) :
    ∃ t x, exec (.testPulseStart dt one) s = .next t ∧
      t.but s = { s.advance dt with saf := if one then { s.saf with tpo1 := x } else { s.saf with tpo0 := x } } ∧ x.phase = .dark ∧ x.phaseB = .dark ∧
      x.began = (s.advance dt).now ∧
      (∀ i : Fin 8, x.high.getLsbD i.val = (s.pairTp ⟨i.val, by omega⟩ && (if one then s.saf.rawB[i.val]'(by omega) else s.saf.rawA[i.val]'(by omega)))) := by
  let x : TpoSt :=
    { phase := .dark, phaseB := .dark, began := (s.advance dt).now
      high := BitVec.ofNat 8 (maskOf 8 (fun i =>
        let p : Fin 9 := Fin.ofNat 9 i
        s.pairTp p && (if one then s.saf.rawB[p] else s.saf.rawA[p]))) }
  have hstep : (s.advance dt).tpStart one = (s.advance dt).modTpo one (fun _ => x) := if_pos (by
    rw [show (s.advance dt).running = true from hrun, show ((s.advance dt).tpo one).phase = .lit from hlit]
    exact beq_iff_eq.2 htick)
  refine ⟨_, x, exec_next_of rfl hstep, ?_, rfl, rfl, rfl, fun i => ?_⟩
  · cases one
    · rfl
    · rfl
  · have hi : Fin.ofNat 9 i.val = (⟨i.val, by omega⟩ : Fin 9) := Fin.ext (Nat.mod_eq_of_lt (by omega))
    show (BitVec.ofNat 8 (maskOf 8 _)).getLsbD i.val = _
    rw [BitVec.getLsbD_ofNat, testBit_maskOf i.isLt, decide_eq_true i.isLt, Bool.true_and]
    have hread (q : Fin 9) (hq : q = ⟨i.val, by omega⟩) : (s.pairTp q && (if one then s.saf.rawB[q] else s.saf.rawA[q])) =
        (s.pairTp ⟨i.val, by omega⟩ && (if one then s.saf.rawB[i.val]'(by omega) else s.saf.rawA[i.val]'(by omega))) := by
      subst hq
      rfl
    exact hread _ hi

/-- One fed pair at the end of a pulse, or of its recovery: its level is read, and one that is not as it should be is a fault. -/
def State.tpTurn (one rec : Bool) (levels : BitVec 8) (bronze : Bool) (x : TpoSt) (w : Nat) (s : State) (i : Fin 8) : State :=
  if !s.pairTp ⟨i.val, by omega⟩ then s
  else
    let s := if rec then s.safeEdge ⟨i.val, by omega⟩ one (levels.getLsbD i) else s
    if x.high.getLsbD i && levels.getLsbD i != rec && !(s.view bronze).fault[(⟨i.val, by omega⟩ : Fin 9)] then
      s.inFault bronze ⟨i.val, by omega⟩ (if one then 3 else 2) (s.tb - (s.now - (x.began + w)))
    else s

/-- A test pulse that goes on to its next phase in a channel. -/
def State.tpOn (s : State) (one rec bronze : Bool) : State :=
  s.modTpo one (fun x => if bronze then { x with phaseB := if rec then .lit else .recover } else { x with phase := if rec then .lit else .recover })

theorem tpEnd_due (one rec bronze : Bool) (levels : BitVec 8) (hrun : s.running = true)
    (hphase : (if bronze then (s.tpo one).phaseB else (s.tpo one).phase) = (if rec then .recover else .dark))
    (hlong : (s.tpo one).began + s.regs.SAF_TP_W * 10000 + (if rec then s.regs.SAF_TP_REC * 10000 else 0) ≤ s.now) :
    s.tpEnd one rec levels bronze =
      (List.finRange 8).foldl (State.tpTurn one rec levels bronze (s.tpo one) (s.regs.SAF_TP_W * 10000)) (s.tpOn one rec bronze) := by
  have hdue : (s.tpo one).began + (if rec then s.regs.SAF_TP_W * 10000 + s.regs.SAF_TP_REC * 10000 else s.regs.SAF_TP_W * 10000) ≤ s.now := by
    cases rec
    · simpa using hlong
    · simpa [Nat.add_assoc] using hlong
  unfold State.tpEnd
  dsimp only
  rw [hphase, if_pos (by rw [hrun, decide_eq_true hdue, beq_self_eq_true]; rfl)]
  rfl

theorem SafKept.safeEdge (s : State) (p : Fin 9) (chB level : Bool) : SafKept s (s.safeEdge p chB level) := by
  refine onSaf ?_
  split
  · split
    · exact .refl _
    · exact ⟨rfl, ⟨rfl, rfl⟩, rfl, fun _ h => h, id, fun _ h => h, .refl _, .refl _, fun _ => .refl _⟩
  · split
    · exact .refl _
    · exact ⟨rfl, ⟨rfl, rfl⟩, rfl, fun _ h => h, id, fun _ h => h, .refl _, .refl _, fun _ => .refl _⟩

theorem SafKept.tpTurn (one rec : Bool) (levels : BitVec 8) (bronze : Bool) (x : TpoSt) (w : Nat) (s : State) (i : Fin 8) :
    SafKept s (s.tpTurn one rec levels bronze x w i) := by
  unfold State.tpTurn
  extract_lets u
  have hu : SafKept s u := .ite (safeEdge ..) (refl s)
  exact .ite (refl s) (.ite (hu.trans (inFault ..)) hu)

/-- The pairs that are fed from a test pulse stay so. -/
theorem SafKept.pairTp (h : SafKept s t) (i : Fin 8) : t.pairTp ⟨i.val, by omega⟩ = s.pairTp ⟨i.val, by omega⟩ := by
  have hax : ∀ (i : Fin 8) (m : Fin 6), Reg.AXn_CMD m ≠ Reg.SAF_INk_CFG i.val := by decide
  have haux : ∀ (i : Fin 8) (x : Fin 4), Reg.AUXn_CMD x ≠ Reg.SAF_INk_CFG i.val := by decide
  have hsto : ∀ m : Fin 6, Reg.AXn_CMD m ≠ Reg.SAF_STO_CFG := by decide
  have hstoAux : ∀ x : Fin 4, Reg.AUXn_CMD x ≠ Reg.SAF_STO_CFG := by decide
  unfold State.pairTp State.pairMode Regs.SAF_INk_CFG_TP Regs.SAF_INk_CFG_MODE Regs.SAF_STO_CFG_EN
  rw [h.regs _ (hax i) (haux i), h.regs _ hsto hstoAux]

theorem tpTurn_quiet {one : Bool} {levels : BitVec 8} {x : TpoSt} {w : Nat} {i : Fin 8}
    (h : s.pairTp ⟨i.val, by omega⟩ = true → x.high.getLsbD i.val = true → levels.getLsbD i.val = false) :
    s.tpTurn one false levels bronze x w i = s := by
  unfold State.tpTurn
  cases hfed : s.pairTp ⟨i.val, by omega⟩ with
  | false => rfl
  | true =>
    simp only [Bool.not_true, Bool.false_eq_true, if_false]
    refine if_neg ?_
    cases hhigh : x.high.getLsbD i.val with
    | false => simp
    | true =>
      rw [h hfed hhigh]
      simp

theorem tpTurn_fault {one rec : Bool} {levels : BitVec 8} {x : TpoSt} {w : Nat} {i : Fin 8} (hfed : s.pairTp ⟨i.val, by omega⟩ = true)
    (hhigh : x.high.getLsbD i.val = true) (hlevel : levels.getLsbD i.val ≠ rec) :
    ((s.tpTurn one rec levels bronze x w i).view bronze).fault[(⟨i.val, by omega⟩ : Fin 9)] = true := by
  unfold State.tpTurn
  extract_lets u
  rw [if_neg (by rw [hfed]; decide)]
  split
  · exact inFault_view ..
  · next h =>
    have hwrong : (x.high.getLsbD i && levels.getLsbD i != rec) = true := by
      rw [show x.high.getLsbD i = true from hhigh, Bool.true_and]
      simpa using hlevel
    rw [hwrong, Bool.true_and, Bool.not_eq_true', Bool.not_eq_false] at h
    exact h

theorem exec_tpEnd (one rec bronze : Bool) (levels : BitVec 8) (hrun : s.running = true)
    (hphase : (if bronze then (s.tpo one).phaseB else (s.tpo one).phase) = (if rec then .recover else .dark))
    (hlong : (s.tpo one).began + s.regs.SAF_TP_W * 10000 + (if rec then s.regs.SAF_TP_REC * 10000 else 0) ≤ (s.advance dt).now) :
    ∃ t, exec (.testPulseEnd dt one rec levels bronze) s = .next t ∧
      (if bronze then (t.tpo one).phaseB else (t.tpo one).phase) = (if rec then .lit else .recover) ∧
      (rec = false → (∀ i : Fin 8, s.pairTp ⟨i.val, by omega⟩ = true → (s.tpo one).high.getLsbD i.val = true → levels.getLsbD i.val = false) →
        let on (x : TpoSt) : TpoSt := if bronze then { x with phaseB := .recover } else { x with phase := .recover }
        t.but s = { s.advance dt with saf := if one then { s.saf with tpo1 := on s.saf.tpo1 } else { s.saf with tpo0 := on s.saf.tpo0 } }) ∧
      (∀ i : Fin 8, s.pairTp ⟨i.val, by omega⟩ = true → (s.tpo one).high.getLsbD i.val = true → levels.getLsbD i.val ≠ rec →
        (t.view bronze).fault[i.val]'(by omega) = true) := by
  have hstep := tpEnd_due (s := s.advance dt) one rec bronze levels hrun hphase (by rw [State.advance_regs]; exact hlong)
  let turn := State.tpTurn one rec levels bronze (s.tpo one) (s.regs.SAF_TP_W * 10000)
  have hturns (l : List (Fin 8)) (u : State) : SafKept u (l.foldl turn u) := .foldl l (.refl u) fun v i => .tpTurn ..
  have hpulse : (if bronze then (((s.advance dt).tpOn one rec bronze).tpo one).phaseB else (((s.advance dt).tpOn one rec bronze).tpo one).phase) =
      (if rec then .lit else .recover) := by
    cases bronze <;> cases one <;> rfl
  have hpulses : ∀ u v : State, SafKept u v → v.tpo one = u.tpo one := by
    intro u v h
    obtain ⟨h0, h1⟩ := h.saf.pulses
    unfold State.tpo
    rw [h0, h1]
  have hfed (i : Fin 8) : ((s.advance dt).tpOn one rec bronze).pairTp ⟨i.val, by omega⟩ = s.pairTp ⟨i.val, by omega⟩ := rfl
  refine ⟨_, exec_next_of rfl hstep, ?_, fun hrec hlow => ?_, fun i hp hh hl => ?_⟩
  · have hlast := hpulses _ _ (hturns (List.finRange 8) ((s.advance dt).tpOn one rec bronze))
    refine Eq.trans ?_ hpulse
    rw [← hlast]
    rfl
  · subst hrec
    have hquiet : (List.finRange 8).foldl turn ((s.advance dt).tpOn one false bronze) = (s.advance dt).tpOn one false bronze :=
      foldl_fixed _ _ fun i _ => tpTurn_quiet fun hp hh => hlow i ((hfed i).symm.trans hp) hh
    show ((List.finRange 8).foldl turn ((s.advance dt).tpOn one false bronze)).settle.but s = _
    rw [hquiet]
    cases one
    · rfl
    · rfl
  · show (((List.finRange 8).foldl turn ((s.advance dt).tpOn one rec bronze)).view bronze).fault[(⟨i.val, by omega⟩ : Fin 9)] = true
    refine foldl_reaches (f := turn) (k := i) (Q := SafKept ((s.advance dt).tpOn one rec bronze))
      (R := fun u => (u.view bronze).fault[(⟨i.val, by omega⟩ : Fin 9)] = true)
      (fun u m _ h => h.trans (.tpTurn ..)) (fun u h => tpTurn_fault ((h.pairTp i).trans ((hfed i).trans hp)) hh hl)
      (fun u m _ h => ((SafKept.tpTurn ..).view bronze).fault _ h) (List.nodup_finRange 8) (List.mem_finRange i) (.refl _)

/-! ## The 24 V supply -/

/-- A channel that finds V24S outside its window. -/
def State.v24sMarked (s : State) (mv : Nat) (bronze : Bool) : State :=
  (s.modView bronze (fun v => { v with v24sOut := true })).onSaf (fun x => { x with v24s := mkRat mv 1000 })

/-- With its record, where the channel is the first to find it. -/
def State.v24sNoted (s : State) (mv : Nat) (bronze : Bool) : State :=
  if (s.view (!bronze)).v24sOut then s.v24sMarked mv bronze else (s.v24sMarked mv bronze).safRec bronze (s.v24sMarked mv bronze).tb 0x0D07 1 mv 0

theorem SafOut.cmd_off {o : SafOut} (h : o.cmdC = false ∨ o.cmdB = false) : o.cmd = false := by
  rcases h with h | h
  · rw [SafOut.cmd, h, Bool.false_and]
  · rw [SafOut.cmd, h, Bool.and_false]

theorem v24sOut_removes {mv : Nat} (hmv : mv < 19200 ∨ 30000 < mv) (hop : s.operates = true) (hin : (s.view bronze).v24sOut = false)
    (hsto : s.saf.sto = false) (hsilent : s.saf.silent = false) :
    ((s.v24sOut mv bronze).view bronze).v24sOut = true ∧ TorqueOff (s.v24sOut mv bronze) bronze (!bronze) ∧ SafeBy (s.v24sOut mv bronze) 0x600 ∧
    (∀ k : Fin 4, (s.v24sOut mv bronze).saf.out[k].cmd = false) := by
  have hrange : v24sIn mv = false := by
    unfold v24sIn
    rcases hmv with h | h
    · rw [decide_eq_false (by omega), Bool.false_and]
    · rw [decide_eq_false (p := mv ≤ 30000) (by omega), Bool.and_false]
  have hstep : s.v24sOut mv bronze =
      ((s.v24sNoted mv bronze).soOff bronze).safAct bronze bronze (!bronze) 0x600 (s.v24sNoted mv bronze).tb := by
    unfold State.v24sOut
    rw [if_pos (by rw [operates_chanLive hop, hin, hrange]; rfl)]
    rfl
  have hmarked : (s.v24sMarked mv bronze).operates = true ∧ (s.v24sMarked mv bronze).saf.sto = false ∧ (s.v24sMarked mv bronze).saf.silent = false ∧
      ((s.v24sMarked mv bronze).view bronze).v24sOut = true := by
    cases bronze
    · exact ⟨hop, hsto, hsilent, rfl⟩
    · exact ⟨hop, hsto, hsilent, rfl⟩
  obtain ⟨hmop, hmsto, hmsilent, hmview⟩ := hmarked
  have hnoted : SafKept (s.v24sMarked mv bronze) (s.v24sNoted mv bronze) := .ite (.refl _) (.safRec ..)
  have hnsto : (s.v24sNoted mv bronze).saf.sto = false := by
    unfold State.v24sNoted
    split
    · exact hmsto
    · rw [safRec_sto]
      exact hmsto
  rw [hstep]
  generalize s.v24sNoted mv bronze = u at hnoted hnsto
  have hview : (u.view bronze).v24sOut = true := (hnoted.view bronze).v24sOut.trans hmview
  have hoff := SafKept.soOff u bronze
  have hact := SafKept.safAct (u.soOff bronze) bronze bronze (!bronze) 0x600 u.tb
  have hosto : (u.soOff bronze).saf.sto = false := by
    obtain ⟨v, hv⟩ := soOff_out u bronze
    rw [hv]
    exact hnsto
  obtain ⟨htorque, hsafe⟩ := safAct_removes bronze bronze (!bronze) 0x600 u.tb ((hnoted.trans hoff).operates hmop)
    (heard_of_speaking ((hnoted.trans hoff).saf.silent.trans hmsilent)) (actionOf_sto (by decide) (by decide)) fun h => absurd h (by rw [hosto]; decide)
  refine ⟨((hoff.trans hact).view bronze).v24sOut.trans hview, htorque, hsafe, fun k => ?_⟩
  have hwant : u.soWant bronze k = false := by
    unfold State.soWant
    dsimp only
    rw [hview]
    simp
  have hdown := soOff_unwanted (k := k) (operates_freeze (hnoted.operates hmop)) hwant
  generalize u.soOff bronze = v at hact hdown ⊢
  generalize v.safAct bronze bronze (!bronze) 0x600 u.tb = w at hact ⊢
  cases bronze
  · exact SafOut.cmd_off (.inl ((hact.saf.out k).cmdC hdown))
  · exact SafOut.cmd_off (.inr ((hact.saf.out k).cmdB hdown))

theorem exec_v24sOut {mv : Nat} (hmv : mv < 19200 ∨ 30000 < mv) (hop : s.operates = true) (hin : (s.view bronze).v24sOut = false)
    (hsto : s.saf.sto = false) (hsilent : s.saf.silent = false) :
    ∃ t, exec (.v24sOut dt mv bronze) s = .next t ∧ (t.view bronze).v24sOut = true ∧ TorqueOff t bronze (!bronze) ∧ SafeBy t 0x600 ∧
      (∀ k : Fin 4, t.saf.out[k].cmd = false) := by
  have h := v24sOut_removes (s := s.advance dt) (bronze := bronze) hmv hop hin hsto hsilent
  refine ⟨_, exec_next_of rfl rfl, ?_⟩
  generalize (s.advance dt).v24sOut mv bronze = u at h ⊢
  exact h

theorem exec_v24sBack {mv : Nat} (hlow : 19200 ≤ mv) (hhigh : mv ≤ 30000) (hrun : s.running = true) (hsilent : s.saf.silent = false)
    (hout : (s.view bronze).v24sOut = true) :
    ∃ t, exec (.v24sBack dt mv bronze) s = .next t ∧
      t.but s = { s.advance dt with
        saf := { s.saf with
          bronze := if bronze then { s.saf.bronze with v24sOut := false } else s.saf.bronze
          cobalt := if bronze then s.saf.cobalt else { s.saf.cobalt with v24sOut := false }
          v24s := mkRat mv 1000 }
        recs := t.recs } ∧
      Wrote s t (if (s.view (!bronze)).v24sOut then [safOf (s.tbAt dt) 0x0D07 0 mv 0 bronze] else []) := by
  have hlive : s.safLive = true := by rw [State.safLive, run_phase hrun]; rfl
  have hrange : v24sIn mv = true := by rw [v24sIn, decide_eq_true hlow, decide_eq_true hhigh]; rfl
  let u := ((s.advance dt).modView bronze (fun v => { v with v24sOut := false })).onSaf (fun x => { x with v24s := mkRat mv 1000 })
  have hu : u.saf.silent = false := by cases bronze <;> exact hsilent
  have hbut : u.settle.but s = { s.advance dt with
      saf := { s.saf with
        bronze := if bronze then { s.saf.bronze with v24sOut := false } else s.saf.bronze
        cobalt := if bronze then s.saf.cobalt else { s.saf.cobalt with v24sOut := false }
        v24s := mkRat mv 1000 } } := by
    cases bronze
    · rfl
    · rfl
  have hwrote : Wrote s u [] := Wrote.none s u rfl
  have hstep : (s.advance dt).v24sBack mv bronze = if (s.view (!bronze)).v24sOut then u.emit (s.tbAt dt) (if bronze then Unit.bronze else Unit.cobalt) 8 0
      (leBytes 2 0x0D07 ++ leBytes 2 0 ++ leBytes 4 mv ++ leBytes 8 0) else u := by
    unfold State.v24sBack
    rw [if_pos (by
      rw [State.chanLive, show (s.advance dt).safLive = true from hlive, show (s.advance dt).running = true from hrun, hrange,
        show ((s.advance dt).view bronze).v24sOut = true from hout, Bool.or_true]
      rfl)]
    have hrec := safRec_emit (s := u) (bronze := bronze) (time := s.tbAt dt) (code := 0x0D07) (detail := 0) (a := mv) (b := 0) (running_mode_ne hrun) hu
    show (if (!((s.advance dt).view (!bronze)).v24sOut) = true then u else u.safRec bronze (s.tbAt dt) 0x0D07 0 mv 0) = _
    rw [hrec, show (s.advance dt).view (!bronze) = s.view (!bronze) from rfl]
    cases (s.view (!bronze)).v24sOut
    · rfl
    · rfl
  cases hother : (s.view (!bronze)).v24sOut with
  | false =>
    rw [hother] at hstep
    exact ⟨_, exec_next_of rfl hstep, hbut, hwrote.settle⟩
  | true =>
    rw [hother] at hstep
    refine ⟨_, exec_next_of rfl hstep, ?_, ?_⟩
    · refine (but_of_recs (Frame.emit ..)).trans ?_
      rw [hbut]
      rfl
    · exact (Wrote.emit s _ _ [] hwrote (run_phase hrun) rfl _ _ _ _ _ rfl).settle

end

/-- Settles O34: each channel takes the levels that have held, tests the pairs that are fed, and finds the faults of pairs and of the 24 V supply. -/
theorem safeInputs : Obligations.SafeInputs := by
  unfold Obligations.SafeInputs
  intro s dt
  exact ⟨fun p chB v => exec_safeEdge p chB v, fun p chB hlive hdue => exec_safeFiltered hlive hdue,
    fun edm hrun htick => exec_cobaltSample edm hrun htick, fun p bronze hop hsto hsilent hdue => exec_discrepancy p hop hsto hsilent hdue,
    fun one hrun hlit htick => exec_tpStart one hrun hlit htick, fun one rec bronze levels hrun hphase hlong => exec_tpEnd one rec bronze levels hrun hphase hlong,
    fun mv bronze hmv hop hin hsto hsilent => exec_v24sOut hmv hop hin hsto hsilent,
    fun mv bronze hlow hhigh hrun hsilent hout => exec_v24sBack hlow hhigh hrun hsilent hout⟩

end Sys2Proof.Machine
end

section
/-! PROOF. The SRST contact: a press, its timers, and what a release is judged to be (R348 to R351). -/
set_option Elab.async false

namespace Sys2Proof.Machine

section
variable {s : State} {dt : Nat}

theorem exec_srstPress (hlow : s.saf.srst.high = false) :
    ∃ t, exec (.srstPress dt) s = .next t ∧ t.but s = { s.advance dt with saf := { s.saf with srst := { s.saf.srst with
      high := true, pressAt := (s.advance dt).now, bronze := false, stuckPress := false
      lowOk := s.saf.srst.lowOk && decide (s.saf.srst.lowAt + 1000000000 ≤ (s.advance dt).now) } } } := by
  have hstep : (s.advance dt).srstPress = (s.advance dt).modSrst (fun x => { x with
      high := true, pressAt := (s.advance dt).now, bronze := false, stuckPress := false
      lowOk := x.lowOk && decide (x.lowAt + 1000000000 ≤ (s.advance dt).now) }) :=
    if_neg (by rw [State.advance_saf, hlow]; decide)
  exact ⟨_, exec_next_of rfl hstep, rfl⟩

theorem srstBronze_due (hhigh : s.saf.srst.high = true) (hlong : s.saf.srst.pressAt + 70000000 ≤ s.now) :
    s.srstBronze = s.modSrst (fun x => { x with bronze := true }) := by
  unfold State.srstBronze
  rw [if_pos (by rw [hhigh, decide_eq_true hlong]; rfl)]

theorem srstStuck_due (hrun : s.running = true) (hhigh : s.saf.srst.high = true) (hlong : s.saf.srst.pressAt + 30000000000 ≤ s.now) :
    s.srstStuck = s.modSrst (fun x => { x with stuck := true, stuckPress := true }) := by
  unfold State.srstStuck
  rw [if_pos (by rw [hrun, hhigh, decide_eq_true hlong]; rfl)]

theorem srstLow_due (hlow : s.saf.srst.high = false) (hlong : s.saf.srst.lowAt + 1000000000 ≤ s.now) :
    s.srstLow = s.modSrst (fun x => { x with lowOk := true }) := by
  unfold State.srstLow
  rw [if_pos (by rw [hlow, decide_eq_true hlong]; rfl)]

/-- What a press and its release are judged to be, in the order of the tests. -/
theorem srstJudge_cases {d result : Nat}
    (h : (s.saf.srst.stuckPress = true ∧ result = 5) ∨
      (s.saf.srst.stuckPress = false ∧ (d < 100000000 ∨ s.saf.srst.bronze = false) ∧ result = 3) ∨
      (s.saf.srst.stuckPress = false ∧ s.saf.srst.bronze = true ∧ 3000000000 < d ∧ result = 4) ∨
      (s.saf.srst.stuckPress = false ∧ s.saf.srst.bronze = true ∧ 100000000 ≤ d ∧ d ≤ 3000000000 ∧ s.mode.mode ≠ .safe ∧ result = 7) ∨
      (s.saf.srst.stuckPress = false ∧ s.saf.srst.bronze = true ∧ 100000000 ≤ d ∧ d ≤ 3000000000 ∧ s.mode.mode = .safe ∧ s.saf.srst.stuck = false ∧
        ((s.srstMay = true ∧ result = 1) ∨ (s.srstMay = false ∧ result = 2)))) : s.srstJudge d = result ∧ result ≠ 6 := by
  unfold State.srstJudge
  dsimp only
  rcases h with ⟨hstuck, rfl⟩ | ⟨hstuck, hshort, rfl⟩ | ⟨hstuck, hknown, hlong, rfl⟩ | ⟨hstuck, hknown, hmin, hmax, hmode, rfl⟩ |
      ⟨hstuck, hknown, hmin, hmax, hmode, hfree, hmay⟩
  · exact ⟨if_pos hstuck, by decide⟩
  · rw [if_neg (by rw [hstuck]; decide), if_pos (by simpa using hshort)]
    exact ⟨rfl, by decide⟩
  · rw [if_neg (by rw [hstuck]; decide), if_neg (by simp [hknown]; omega), if_pos hlong]
    exact ⟨rfl, by decide⟩
  · rw [if_neg (by rw [hstuck]; decide), if_neg (by simp [hknown]; omega), if_neg (by omega), if_pos hmode]
    exact ⟨rfl, by decide⟩
  · rw [if_neg (by rw [hstuck]; decide), if_neg (by simp [hknown]; omega), if_neg (by omega), if_neg (not_not_intro hmode),
      if_neg (by rw [hfree]; decide)]
    rcases hmay with ⟨hmay, rfl⟩ | ⟨hmay, rfl⟩
    · exact ⟨if_pos hmay, by decide⟩
    · exact ⟨if_neg (by rw [hmay]; decide), by decide⟩

/-- A release that is judged, where no demand comes first. -/
theorem srstRelease_judged {d result : Nat} (hrun : s.running = true) (hhigh : s.saf.srst.high = true) (hfirst : s.demandsFirst = s)
    (hd : d = s.now - s.saf.srst.pressAt) (hres : s.srstJudge d = result) (hsix : result ≠ 6) :
    s.srstRelease = (s.modSrst (fun x => { x with
        high := false, lowAt := s.now, lowOk := false, stuckPress := false
        accepted := if result = 1 then some (s.tb, d / 1000000) else x.accepted
        result := result, ms := min (min (d / 1000000) 0xFFFFFFFF) 0xFFFF })).emit s.tb Unit.cobalt 8 0
      (leBytes 2 0x0D09 ++ leBytes 2 result ++ leBytes 4 (min (d / 1000000) 0xFFFFFFFF) ++ leBytes 8 s.latchWord) := by
  have hkeep : (s.saf.srst.stuck && result != 6) = s.saf.srst.stuck := by
    rw [show (result != 6) = true by simpa using hsix, Bool.and_true]
  unfold State.srstRelease
  dsimp only
  rw [if_neg (by rw [hhigh]; decide), if_neg (by rw [hrun]; decide), hfirst, ← hd, hres]
  unfold State.srstRec State.safRec State.modSrst State.onSaf
  dsimp only
  rw [if_neg (running_mode_ne hrun), hkeep]
  rfl

/-- Time alone changes nothing of what a release is judged by. -/
theorem advance_srstMay (s : State) (dt : Nat) : (s.advance dt).srstMay = s.srstMay := rfl

theorem advance_latchWord (s : State) (dt : Nat) : (s.advance dt).latchWord = s.latchWord := rfl

theorem exec_srstRelease {d result : Nat} (hrun : s.running = true) (hhigh : s.saf.srst.high = true) (hfirst : (s.advance dt).demandsFirst = s.advance dt)
    (hd : d = (s.advance dt).now - s.saf.srst.pressAt)
    (h : (s.saf.srst.stuckPress = true ∧ result = 5) ∨
      (s.saf.srst.stuckPress = false ∧ (d < 100000000 ∨ s.saf.srst.bronze = false) ∧ result = 3) ∨
      (s.saf.srst.stuckPress = false ∧ s.saf.srst.bronze = true ∧ 3000000000 < d ∧ result = 4) ∨
      (s.saf.srst.stuckPress = false ∧ s.saf.srst.bronze = true ∧ 100000000 ≤ d ∧ d ≤ 3000000000 ∧ s.mode.mode ≠ .safe ∧ result = 7) ∨
      (s.saf.srst.stuckPress = false ∧ s.saf.srst.bronze = true ∧ 100000000 ≤ d ∧ d ≤ 3000000000 ∧ s.mode.mode = .safe ∧ s.saf.srst.stuck = false ∧
        ((s.srstMay = true ∧ result = 1) ∨ (s.srstMay = false ∧ result = 2)))) :
    ∃ t, exec (.srstRelease dt) s = .next t ∧ t.but s = { s.advance dt with recs := t.recs, saf := { s.saf with srst := { s.saf.srst with
        high := false, lowAt := (s.advance dt).now, lowOk := false, stuckPress := false
        accepted := if result = 1 then some (s.tbAt dt, d / 1000000) else s.saf.srst.accepted
        result := result, ms := min (min (d / 1000000) 0xFFFFFFFF) 0xFFFF } } } ∧
      Wrote s t [safOf (s.tbAt dt) 0x0D09 result (min (d / 1000000) 0xFFFFFFFF) s.latchWord] := by
  rw [← advance_srstMay s dt] at h
  obtain ⟨hres, hsix⟩ := srstJudge_cases (s := s.advance dt) (d := d) (result := result) h
  have hstep := srstRelease_judged (s := s.advance dt) hrun hhigh hfirst hd hres hsix
  rw [advance_latchWord] at hstep
  refine ⟨_, exec_next_of rfl hstep, (but_of_recs (Frame.emit ..)).trans rfl, ?_⟩
  exact (Wrote.emit s _ _ [] (Wrote.none s ((s.advance dt).modSrst _) rfl) (run_phase hrun) rfl _ _ _ _ _ rfl).settle

end

/-- Settles O37: the contact is pressed, found stuck and released, and a release is judged by the stuck press, the length, the mode and the causes. -/
theorem resetContact : Obligations.ResetContact := by
  unfold Obligations.ResetContact
  intro s dt
  refine ⟨fun hlow => exec_srstPress hlow, fun hhigh hlong => ?_, fun hrun hhigh hlong => ?_, fun hlow hlong => ?_,
    fun d result hrun hhigh hfirst hd h => exec_srstRelease hrun hhigh hfirst hd h⟩
  · exact ⟨_, exec_next_of rfl (srstBronze_due (s := s.advance dt) hhigh (by rw [State.advance_saf]; exact hlong)), rfl⟩
  · exact ⟨_, exec_next_of rfl (srstStuck_due (s := s.advance dt) hrun hhigh (by rw [State.advance_saf]; exact hlong)), rfl⟩
  · exact ⟨_, exec_next_of rfl (srstLow_due (s := s.advance dt) hlow (by rw [State.advance_saf]; exact hlong)), rfl⟩

end Sys2Proof.Machine
end

section
/-! PROOF. Safe messages: an envelope that is accepted, discarded or sent, and a connection that is lost (R352 to R356). -/
set_option Elab.async false

namespace Sys2Proof.Machine

section
variable {s u : State} {dt : Nat} {c : Fin 16} {b : List Byte}

/-! ## What a channel accepts -/

/-- The checks of an envelope in a channel, at an arrival stamp. -/
def State.EnvPasses (s : State) (c : Fin 16) (b : List Byte) (stamp : Nat) (bronze : Bool) : Prop :=
  b.length = 24 ∧ w32 (leAt b 20 4) = envCheck (s.regs.SAF_CONc_ID c) b ∧ w32 (leAt b 16 4) = ~~~ w32 (leAt b 12 4) ∧
    (∀ q, (s.view bronze).conn[c].last = some q →
      1 ≤ (leAt b 0 4 + 0x100000000 - q) % 0x100000000 ∧ (leAt b 0 4 + 0x100000000 - q) % 0x100000000 ≤ 0x7FFFFFFF) ∧
    (s.regs.SAF_CONc_CFG_AGE c = true → s.tbs.synced = true → bit (w32 (leAt b 12 4)) 31 = true →
      leAt b 4 8 ≤ stamp + 1000 ∧ stamp - leAt b 4 8 ≤ s.regs.SAF_CONc_TIM_WDT c * 1000000)

theorem envOk_iff (s : State) (bronze : Bool) (c : Fin 16) (b : List Byte) (stamp : Nat) :
    s.envOk bronze c b stamp = true ↔ s.EnvPasses c b stamp bronze := by
  have hseq (o : Option Nat) (x : Nat) : (match o with
      | some q => let d := (x + 0x100000000 - q) % 0x100000000; decide (1 ≤ d) && decide (d ≤ 0x7FFFFFFF)
      | none => true) = true ↔ ∀ q, o = some q → 1 ≤ (x + 0x100000000 - q) % 0x100000000 ∧ (x + 0x100000000 - q) % 0x100000000 ≤ 0x7FFFFFFF := by
    cases o with
    | none => simp
    | some q => simp
  unfold State.envOk State.EnvPasses
  simp only [Bool.and_eq_true, decide_eq_true_eq, beq_iff_eq, Bool.not_eq_true', Bool.and_eq_false_iff, Bool.or_eq_false_iff,
    decide_eq_false_iff_not, not_lt]
  constructor
  · rintro ⟨⟨⟨⟨h1, h2⟩, h3⟩, h4⟩, h5⟩
    refine ⟨h1, h2, h3, (hseq _ _).1 h4, fun ha hs hb => ?_⟩
    rcases h5 with ((h | h) | h) | ⟨h, g⟩
    · rw [ha] at h
      cases h
    · rw [hs] at h
      cases h
    · rw [hb] at h
      cases h
    · exact ⟨h, g⟩
  · rintro ⟨h1, h2, h3, h4, h5⟩
    refine ⟨⟨⟨⟨h1, h2⟩, h3⟩, (hseq _ _).2 h4⟩, ?_⟩
    by_cases ha : s.regs.SAF_CONc_CFG_AGE c = true
    · by_cases hs : s.tbs.synced = true
      · by_cases hb : bit (w32 (leAt b 12 4)) 31 = true
        · exact .inr (h5 ha hs hb)
        · exact .inl (.inr (by simpa using hb))
      · exact .inl (.inl (.inr (by simpa using hs)))
    · exact .inl (.inl (.inl (by simpa using ha)))

/-- A view into which an envelope is taken. -/
def SafView.takes (v : SafView) (c : Fin 16) (b : List Byte) (now stamp : Nat) : SafView := { v with conn := vset v.conn c (fun x => x.take b now stamp) }

/-- Cobalt discards an envelope: it is counted. -/
def SafConn.discarded (x : SafConn) : SafConn := { x with disc := satInc 16 x.disc, discNew := x.discNew + 1 }

/-- What becomes of an envelope that arrives, by the verdicts of the two channels. -/
theorem envelopeIn_cases {stamp : Nat} (hrun : s.running = true) (hcons : s.consumes c = true) :
    (¬ s.EnvPasses c b stamp false → ¬ s.EnvPasses c b stamp true → s.envelopeIn c b stamp = s.modConn c SafConn.discarded) ∧
    (¬ s.EnvPasses c b stamp false → s.EnvPasses c b stamp true →
      s.envelopeIn c b stamp = s.onSaf (fun x => { x with bronze := x.bronze.takes c b s.now stamp, conn := vset x.conn c SafConn.discarded })) ∧
    (s.EnvPasses c b stamp false → s.EnvPasses c b stamp true → s.saf.cobalt.conn[c].run < 2 ∨ s.saf.cobalt.conn[c].valid = true →
      s.envelopeIn c b stamp = s.onSaf (fun x => { x with
        bronze := x.bronze.takes c b s.now stamp, cobalt := x.cobalt.takes c b s.now stamp
        conn := vset x.conn c (fun x => { x with seqShown := w32 (leAt b 0 4) }) })) ∧
    (s.EnvPasses c b stamp false → s.EnvPasses c b stamp true → 2 ≤ s.saf.cobalt.conn[c].run → s.saf.cobalt.conn[c].valid = false →
      s.envelopeIn c b stamp = ((s.onSaf (fun x => { x with
        bronze := x.bronze.takes c b s.now stamp, cobalt := x.cobalt.takes c b s.now stamp
        conn := vset x.conn c (fun x => { x with seqShown := w32 (leAt b 0 4) }) })).safRec false stamp 0x0D05 c s.saf.conn[c].discNew
          (leAt b 0 4)).modConn c (fun x => { x with discNew := 0 })) := by
  have hgate : ¬(!(s.running && s.consumes c)) = true := by rw [hrun, hcons]; decide
  have hsame (v : SafView) : (s.onSaf (fun x => { x with bronze := v })).envOk false c b stamp = s.envOk false c b stamp := rfl
  have hshown (f : SafConn → SafConn) (h : ∀ x, (f x).discNew = x.discNew) : (vset s.saf.conn c f)[c].discNew = s.saf.conn[c].discNew :=
    (congrArg SafConn.discNew (vset_self s.saf.conn c f)).trans (h _)
  refine ⟨fun hC hB => ?_, fun hC hB => ?_, fun hC hB hup => ?_, fun hC hB hrun2 hval => ?_⟩
  · have hC' : s.envOk false c b stamp = false := Bool.eq_false_iff.2 fun h => hC ((envOk_iff ..).1 h)
    have hB' : s.envOk true c b stamp = false := Bool.eq_false_iff.2 fun h => hB ((envOk_iff ..).1 h)
    unfold State.envelopeIn
    rw [if_neg hgate, hB', if_neg Bool.false_ne_true]
    exact if_pos (congrArg (!·) hC')
  · have hC' : s.envOk false c b stamp = false := Bool.eq_false_iff.2 fun h => hC ((envOk_iff ..).1 h)
    have hB' := (envOk_iff s true c b stamp).2 hB
    unfold State.envelopeIn
    rw [if_neg hgate, hB', if_pos rfl]
    refine (if_pos ?_).trans rfl
    exact congrArg (!·) hC'
  · have hC' := (envOk_iff s false c b stamp).2 hC
    have hB' := (envOk_iff s true c b stamp).2 hB
    unfold State.envelopeIn
    rw [if_neg hgate, hB', if_pos rfl]
    refine (if_neg ?_).trans ((if_neg ?_).trans rfl)
    · exact fun h => absurd (h.symm.trans (congrArg (!·) hC')) (by decide)
    · show ¬(decide (2 ≤ s.saf.cobalt.conn[c].run) && !s.saf.cobalt.conn[c].valid) = true
      rcases hup with h | h
      · rw [decide_eq_false (by omega), Bool.false_and]
        decide
      · rw [h, Bool.not_true, Bool.and_false]
        decide
  · have hC' := (envOk_iff s false c b stamp).2 hC
    have hB' := (envOk_iff s true c b stamp).2 hB
    unfold State.envelopeIn
    rw [if_neg hgate, hB', if_pos rfl]
    refine (if_neg ?_).trans ((if_pos ?_).trans ?_)
    · exact fun h => absurd (h.symm.trans (congrArg (!·) hC')) (by decide)
    · show (decide (2 ≤ s.saf.cobalt.conn[c].run) && !s.saf.cobalt.conn[c].valid) = true
      rw [decide_eq_true hrun2, hval]
      rfl
    · refine congrArg (fun n => State.modConn (State.safRec _ false stamp 0x0D05 c n (leAt b 0 4)) c _) ?_
      exact hshown _ fun _ => rfl

/-! ## The row of an envelope -/

/-- The state in which an envelope is judged: the one before it, but for the record of the fabric frame. -/
def State.envRow (s : State) (c : Fin 16) : State :=
  if s.running && s.consumes c && s.regs.SAF_CONc_CFG_CH c == 0 then
    s.frameRow none none false (s.fab.addr.getD 0) (s.regs.SAF_CONc_ADDR c % 64) 0x30 24
  else s

theorem Frame.envRow (s : State) (c : Fin 16) : Frame [.recs, .freeIx] s (s.envRow c) := .ite (Frame.frameRow ..) (Frame.refl ..)

theorem envRow_wrote (s : State) (c : Fin 16) (hphase : s.pwr.phase = .running) : WroteAfterFrame s (s.envRow c) 6 [] := by
  unfold State.envRow
  split
  · exact frameRow_wrote hphase (by decide)
  · exact ⟨[], Wrote.none _ _ rfl, by simp, by simp, fun _ => rfl⟩

theorem EnvPasses_congr {t : State} {stamp : Nat} {bronze : Bool} (hregs : t.regs = s.regs) (hsaf : t.saf = s.saf) (htbs : t.tbs = s.tbs) :
    t.EnvPasses c b stamp bronze ↔ s.EnvPasses c b stamp bronze := by
  unfold State.EnvPasses State.view
  rw [hregs, hsaf, htbs]

theorem WroteAfterFrame.of_outbox {t u : State} {k : Nat} {l : List Shown} (h : WroteAfterFrame s t k l) (ho : u.recs.outbox = t.recs.outbox) :
    WroteAfterFrame s u k l := by
  obtain ⟨f, hf, hlen, htyp, hnone⟩ := h
  refine ⟨f, ?_, hlen, htyp, hnone⟩
  unfold Wrote at hf ⊢
  rw [ho]
  exact hf

theorem WroteAfterFrame.emit {t : State} {k time unit typ flags : Nat} {p : List Byte} {l : List Shown} (h : WroteAfterFrame s t k l)
    (hr : t.pwr.phase = .running) (hg : t.regs = s.regs) : WroteAfterFrame s (t.emit time unit typ flags p) k (l ++ [recOf time unit typ p]) := by
  obtain ⟨f, hf, hlen, htyp, hnone⟩ := h
  refine ⟨f, ?_, hlen, htyp, hnone⟩
  rw [← List.append_assoc]
  exact Wrote.emit s t _ _ hf hr hg _ _ _ _ _ rfl

/-- What follows the record of a frame and a change of the safety state. -/
theorem envRow_onSaf {u : State} (F : Frame [.recs, .freeIx] (s.advance dt) u) (f : SafSt → SafSt) :
    (u.onSaf f).settle.but s = { s.advance dt with recs := u.recs, freeIx := u.freeIx, saf := f s.saf } := by
  rw [F.eq_merge]
  rfl

/-- The same with a record between two changes. -/
theorem envRow_emit_onSaf {u w : State} (F : Frame [.recs, .freeIx] (s.advance dt) u) (f g : SafSt → SafSt) (G : Frame [.recs] (u.onSaf f) w) :
    (w.onSaf g).settle.but s = { s.advance dt with recs := w.recs, freeIx := w.freeIx, saf := g (f s.saf) } := by
  rw [G.eq_merge, F.eq_merge]
  rfl

theorem exec_envelope (hrun : s.running = true) (hcons : s.consumes c = true) :
    (¬ (s.advance dt).EnvPasses c b (s.tbAt dt) false → ¬ (s.advance dt).EnvPasses c b (s.tbAt dt) true →
      ∃ t, exec (.envelopeReceived dt c b) s = .next t ∧ t.but s = { s.advance dt with
        recs := t.recs, freeIx := t.freeIx, saf := { s.saf with conn := vset s.saf.conn c SafConn.discarded } } ∧ WroteAfterFrame s t 6 []) ∧
    (¬ (s.advance dt).EnvPasses c b (s.tbAt dt) false → (s.advance dt).EnvPasses c b (s.tbAt dt) true →
      ∃ t, exec (.envelopeReceived dt c b) s = .next t ∧ t.but s = { s.advance dt with
        recs := t.recs, freeIx := t.freeIx
        saf := { s.saf with
          bronze := s.saf.bronze.takes c b (s.advance dt).now (s.tbAt dt), conn := vset s.saf.conn c SafConn.discarded } } ∧ WroteAfterFrame s t 6 []) ∧
    ((s.advance dt).EnvPasses c b (s.tbAt dt) false → (s.advance dt).EnvPasses c b (s.tbAt dt) true →
      s.saf.cobalt.conn[c].run < 2 ∨ s.saf.cobalt.conn[c].valid = true → ∃ t, exec (.envelopeReceived dt c b) s = .next t ∧
      t.but s = { s.advance dt with
        recs := t.recs, freeIx := t.freeIx
        saf := { s.saf with
          bronze := s.saf.bronze.takes c b (s.advance dt).now (s.tbAt dt), cobalt := s.saf.cobalt.takes c b (s.advance dt).now (s.tbAt dt)
          conn := vset s.saf.conn c (fun x => { x with seqShown := w32 (leAt b 0 4) }) } } ∧ WroteAfterFrame s t 6 []) ∧
    ((s.advance dt).EnvPasses c b (s.tbAt dt) false → (s.advance dt).EnvPasses c b (s.tbAt dt) true →
      2 ≤ s.saf.cobalt.conn[c].run → s.saf.cobalt.conn[c].valid = false → ∃ t, exec (.envelopeReceived dt c b) s = .next t ∧
      t.but s = { s.advance dt with
        recs := t.recs, freeIx := t.freeIx
        saf := { s.saf with
          bronze := s.saf.bronze.takes c b (s.advance dt).now (s.tbAt dt), cobalt := s.saf.cobalt.takes c b (s.advance dt).now (s.tbAt dt)
          conn := vset s.saf.conn c (fun x => { x with seqShown := w32 (leAt b 0 4), discNew := 0 }) } } ∧
      WroteAfterFrame s t 6 [safOf (s.tbAt dt) 0x0D05 c.val s.saf.conn[c].discNew (leAt b 0 4)]) := by
  have hphase := run_phase hrun
  have F := Frame.envRow (s.advance dt) c
  have hwrote := envRow_wrote (s.advance dt) c hphase
  have hregs := F.keep .regs (by decide)
  have hsaf : ((s.advance dt).envRow c).saf = s.saf := F.keep .saf (by decide)
  have hpass (bronze : Bool) : ((s.advance dt).envRow c).EnvPasses c b (s.tbAt dt) bronze ↔ (s.advance dt).EnvPasses c b (s.tbAt dt) bronze :=
    EnvPasses_congr hregs (F.keep .saf (by decide)) (F.keep .tbs (by decide))
  have hnow : ((s.advance dt).envRow c).now = (s.advance dt).now := congrArg (·.now) (F.keep .clk (by decide))
  have htb : ((s.advance dt).envRow c).tb = s.tbAt dt := congrArg (·.tb) (F.keep .clk (by decide))
  have hrun' : ((s.advance dt).envRow c).running = true := by
    unfold State.running
    rw [F.keep .pwr (by decide), F.keep .mode (by decide)]
    exact hrun
  have hcons' : ((s.advance dt).envRow c).consumes c = true := by
    unfold State.consumes
    rw [hregs]
    exact hcons
  have hexec : exec (.envelopeReceived dt c b) s = done (((s.advance dt).envRow c).envelopeIn c b ((s.advance dt).envRow c).tb) := rfl
  rw [htb] at hexec
  obtain ⟨h1, h2, h3, h4⟩ := envelopeIn_cases (c := c) (b := b) (stamp := s.tbAt dt) hrun' hcons'
  rw [hnow] at h2 h3 h4
  rw [hsaf] at h3 h4
  simp only [hpass] at h1 h2 h3 h4
  have hw : WroteAfterFrame s ((s.advance dt).envRow c) 6 [] := hwrote
  have hphase' : ((s.advance dt).envRow c).pwr.phase = .running := run_phase hrun'
  generalize (s.advance dt).envRow c = u at *
  refine ⟨fun hC hB => ?_, fun hC hB => ?_, fun hC hB hup => ?_, fun hC hB hrun2 hval => ?_⟩
  · exact ⟨_, exec_next_of hexec (h1 hC hB), envRow_onSaf F _, hw⟩
  · exact ⟨_, exec_next_of hexec (h2 hC hB), envRow_onSaf F _, hw⟩
  · exact ⟨_, exec_next_of hexec (h3 hC hB hup), envRow_onSaf F _, hw⟩
  · have hstep := h4 hC hB hrun2 hval
    let v := u.onSaf (fun x => { x with
      bronze := x.bronze.takes c b (s.advance dt).now (s.tbAt dt), cobalt := x.cobalt.takes c b (s.advance dt).now (s.tbAt dt)
      conn := vset x.conn c (fun x => { x with seqShown := w32 (leAt b 0 4) }) })
    have hrec : v.safRec false (s.tbAt dt) 0x0D05 c s.saf.conn[c].discNew (leAt b 0 4) = v.emit (s.tbAt dt) Unit.cobalt 8 0
        (leBytes 2 0x0D05 ++ leBytes 2 c ++ leBytes 4 s.saf.conn[c].discNew ++ leBytes 8 (leAt b 0 4)) := if_neg (running_mode_ne (s := v) hrun')
    have hv : WroteAfterFrame s v 6 [] := hw
    refine ⟨_, exec_next_of hexec (hstep.trans (congrArg (fun x => State.modConn x c _) hrec)), ?_, (hv.emit hphase' hregs).of_outbox rfl⟩
    refine (envRow_emit_onSaf F _ _ (Frame.emit ..)).trans ?_
    refine congrArg (fun x : Vector SafConn 16 => ({ s.advance dt with recs := _, freeIx := _, saf := { s.saf with
      bronze := s.saf.bronze.takes c b (s.advance dt).now (s.tbAt dt), cobalt := s.saf.cobalt.takes c b (s.advance dt).now (s.tbAt dt)
      conn := x } } : State)) ?_
    rw [vset_vset]

/-! ## A connection that is lost -/

/-- A view that has lost a connection. -/
def SafView.loses (v : SafView) (c : Fin 16) : SafView := { v with conn := vset v.conn c (fun _ => {}) }

/-- What is known of a lost connection: that it is lost, and, where its record is written, no discards since. -/
def SafConn.gone (first : Bool) (x : SafConn) : SafConn := { x with lost := true, discNew := if first then 0 else x.discNew }

/-- A channel that loses a connection, without the record of it. -/
def State.connGone (s : State) (bronze first : Bool) (c : Fin 16) : State :=
  s.onSaf (fun x => { x with
    bronze := if bronze then x.bronze.loses c else x.bronze, cobalt := if bronze then x.cobalt else x.cobalt.loses c
    conn := vset x.conn c (SafConn.gone first) })

/-- The record of a lost connection. -/
def State.connRec (s : State) (bronze : Bool) (c : Fin 16) : State :=
  s.emit s.tb (if bronze then Unit.bronze else Unit.cobalt) 8 0
    (leBytes 2 0x0D05 ++ leBytes 2 (c.val + 256) ++ leBytes 4 s.saf.conn[c].discNew ++ leBytes 8 s.saf.conn[c].seqShown.toNat)

theorem connGone_eq (bronze : Bool) :
    (s.modRecv bronze c (fun _ => {})).modConn c (fun x => { x with lost := true }) = s.connGone bronze false c ∧
    ((s.modConn c (fun x => { x with discNew := 0 })).modRecv bronze c (fun _ => {})).modConn c (fun x => { x with lost := true }) =
      s.connGone bronze true c := by
  cases bronze
  · exact ⟨rfl, congrArg (fun v : Vector SafConn 16 => ({ s with saf := { s.saf with cobalt := s.saf.cobalt.loses c, conn := v } } : State))
      (vset_vset s.saf.conn c (fun x => { x with discNew := 0 }) (fun x => { x with lost := true }))⟩
  · exact ⟨rfl, congrArg (fun v : Vector SafConn 16 => ({ s with saf := { s.saf with bronze := s.saf.bronze.loses c, conn := v } } : State))
      (vset_vset s.saf.conn c (fun x => { x with discNew := 0 }) (fun x => { x with lost := true }))⟩

/-- A cause of which the supervisor hears takes the device into SAFE, of whatever class it is. -/
theorem safAct_safeBy (obs b c : Bool) (cause stamp : Nat) (hop : s.operates = true) (hheard : s.heard c = true) :
    SafeBy (s.safAct obs b c cause stamp) cause := by
  have hfreeze : (b || s.mode.mode != .freeze) = true := by rw [show (s.mode.mode != .freeze) = true by simpa using operates_freeze hop, Bool.or_true]
  rw [safAct_eq obs b c cause stamp (operates_live hop) hfreeze]
  split
  · exact (SafKept.pathAct ..).safeBy (safEnter_safeBy cause stamp hop hheard)
  · next h => exact (SafKept.ss1Begins _ b c (by simpa using (not_or.1 h).2)).1.safeBy (safEnter_safeBy cause stamp hop hheard)

theorem connectionLost_due {bronze : Bool} (hrun : s.running = true) (hcons : s.consumes c = true) (hsilent : s.saf.silent = false)
    (hcount : (s.view bronze).conn[c].run ≠ 0) (hlong : (s.view bronze).conn[c].at' + s.regs.SAF_CONc_TIM_WDT c * 1000000 ≤ s.now) :
    ∃ u : State, Frame [.recs] s u ∧ (u = if (s.view (!bronze)).conn[c].run != 0 then s.connRec bronze c else s) ∧
      s.connectionLost c bronze = (let v := u.connGone bronze ((s.view (!bronze)).conn[c].run != 0) c
        if (v.slotsOf c).isEmpty then v else (v.safAct bronze bronze (!bronze) (0x400 + c.val) v.tb).safEval bronze) := by
  have hlive : s.chanLive bronze = true := by
    rw [State.chanLive, State.safLive, run_phase hrun, hrun, Bool.or_true]
    rfl
  have hdue : (s.chanLive bronze && s.consumes c && (s.view bronze).conn[c].run != 0 &&
      decide ((s.view bronze).conn[c].at' + s.regs.SAF_CONc_TIM_WDT c * 1000000 ≤ s.now)) = true := by
    rw [hlive, hcons, decide_eq_true hlong]
    simpa using hcount
  have hrec := safRec_emit (s := s) (bronze := bronze) (time := s.tb) (code := 0x0D05) (detail := c.val + 256) (a := s.saf.conn[c].discNew)
    (b := s.saf.conn[c].seqShown.toNat) (running_mode_ne hrun) hsilent
  refine ⟨_, ?_, rfl, ?_⟩
  · exact .ite (Frame.emit ..) (Frame.refl ..)
  · have hgone := connGone_eq (s := s) (c := c) bronze
    have hrecorded := connGone_eq (s := s.connRec bronze c) (c := c) bronze
    have hv : ((if (s.view (!bronze)).conn[c].run = 0 then s else (s.connRec bronze c).modConn c (fun x => { x with discNew := 0 })).modRecv bronze c
          (fun _ => {})).modConn c (fun x => { x with lost := true }) =
        (if (s.view (!bronze)).conn[c].run != 0 then s.connRec bronze c else s).connGone bronze ((s.view (!bronze)).conn[c].run != 0) c := by
      by_cases hother : (s.view (!bronze)).conn[c].run = 0
      · rw [if_pos hother, show ((s.view (!bronze)).conn[c].run != 0) = false by simpa using hother]
        exact hgone.1
      · rw [if_neg hother, show ((s.view (!bronze)).conn[c].run != 0) = true by simpa using hother]
        exact hrecorded.2
    unfold State.connectionLost
    dsimp only
    rw [if_pos hdue, hrec, ← hv]
    rfl

/-- A lost connection of a consumed connection that no function uses, or of one that a function uses. -/
theorem exec_connectionLost {bronze : Bool} (hrun : s.running = true) (hcons : s.consumes c = true) (hsilent : s.saf.silent = false)
    (hcount : (s.view bronze).conn[c].run ≠ 0)
    (hlong : (s.view bronze).conn[c].at' + s.regs.SAF_CONc_TIM_WDT c * 1000000 ≤ (s.advance dt).now) :
    (s.slotsOf c.val = [] → ∃ t, exec (.connectionLost dt c bronze) s = .next t ∧ t.but s = { s.advance dt with recs := t.recs, saf := { s.saf with
      bronze := if bronze then s.saf.bronze.loses c else s.saf.bronze, cobalt := if bronze then s.saf.cobalt else s.saf.cobalt.loses c
      conn := vset s.saf.conn c (SafConn.gone ((s.view (!bronze)).conn[c].run != 0)) } } ∧
      Wrote s t (if (s.view (!bronze)).conn[c].run != 0 then [safOf (s.tbAt dt) 0x0D05 (c.val + 256) s.saf.conn[c].discNew s.saf.conn[c].seqShown.toNat bronze]
        else [])) ∧
    (s.slotsOf c.val ≠ [] → s.operates = true → ∃ t, exec (.connectionLost dt c bronze) s = .next t ∧ SafeBy t (0x400 + c.val) ∧
      (t.view bronze).conn[c].valid = false ∧ (t.view bronze).conn[c].bits = 0 ∧ t.saf.conn[c].lost = true) := by
  obtain ⟨u, F, hu, hstep⟩ := connectionLost_due (s := s.advance dt) (c := c) (bronze := bronze) hrun hcons hsilent hcount
    (by rw [State.advance_regs]; exact hlong)
  have hview : (s.advance dt).view = s.view := rfl
  rw [hview] at hu hstep
  have hslots : (u.connGone bronze ((s.view (!bronze)).conn[c].run != 0) c).slotsOf c.val = s.slotsOf c.val := by
    have hregs : (u.connGone bronze ((s.view (!bronze)).conn[c].run != 0) c).regs = s.regs := F.keep .regs (by decide)
    unfold State.slotsOf State.slotSel
    rw [hregs]
  dsimp only at hstep
  rw [hslots] at hstep
  refine ⟨fun hnone => ?_, fun hsome hop => ?_⟩
  · rw [hnone, List.isEmpty_nil, if_pos rfl] at hstep
    refine ⟨_, exec_next_of rfl hstep, ?_, ?_⟩
    · rw [State.connGone, F.eq_merge]
      rfl
    · have hwrote : Wrote s u (if (s.view (!bronze)).conn[c].run != 0 then
          [safOf (s.tbAt dt) 0x0D05 (c.val + 256) s.saf.conn[c].discNew s.saf.conn[c].seqShown.toNat bronze] else []) := by
        rw [hu]
        split
        · exact Wrote.emit s (s.advance dt) _ [] (Wrote.none s (s.advance dt) rfl) (run_phase hrun) rfl _ _ _ _ _ rfl
        · exact Wrote.none s (s.advance dt) rfl
      exact hwrote
  · have hsaf : u.saf = s.saf := F.keep .saf (by decide)
    have hgone : ((u.connGone bronze ((s.view (!bronze)).conn[c].run != 0) c).view bronze).conn = vset (s.view bronze).conn c (fun _ => {}) ∧
        (u.connGone bronze ((s.view (!bronze)).conn[c].run != 0) c).saf.conn = vset s.saf.conn c (SafConn.gone ((s.view (!bronze)).conn[c].run != 0)) ∧
        (u.connGone bronze ((s.view (!bronze)).conn[c].run != 0) c).saf.silent = false := by
      unfold State.connGone
      rw [State.onSaf, hsaf]
      cases bronze
      · exact ⟨rfl, rfl, hsilent⟩
      · exact ⟨rfl, rfl, hsilent⟩
    have hop' : (u.connGone bronze ((s.view (!bronze)).conn[c].run != 0) c).operates = true := by
      unfold State.operates State.running State.connGone
      rw [State.onSaf_pwr, State.onSaf_mode, F.keep .pwr (by decide), F.keep .mode (by decide)]
      exact hop
    obtain ⟨hconn, hlost, hspeaks⟩ := hgone
    rw [if_neg (by simpa using hsome)] at hstep
    refine ⟨_, exec_next_of rfl hstep, ?_⟩
    generalize u.connGone bronze ((s.view (!bronze)).conn[c].run != 0) c = v at *
    have hact := SafKept.safAct v bronze bronze (!bronze) (0x400 + c.val) v.tb
    have hsafe := safAct_safeBy bronze bronze (!bronze) (0x400 + c.val) v.tb hop' (heard_of_speaking hspeaks)
    have hend := SafKept.safEval (v.safAct bronze bronze (!bronze) (0x400 + c.val) v.tb) bronze
    have hall := hact.trans hend
    have hsafeEnd := hend.safeBy hsafe
    generalize (v.safAct bronze bronze (!bronze) (0x400 + c.val) v.tb).safEval bronze = w at *
    have hself : (w.view bronze).conn[c] = {} := by
      rw [(hall.view bronze).conn, hconn]
      exact vset_self ..
    refine ⟨hsafeEnd, congrArg SafRecv.valid hself, congrArg SafRecv.bits hself, ?_⟩
    show w.saf.conn[c].lost = true
    rw [hall.saf.conn, hlost]
    exact congrArg SafConn.lost (vset_self ..)

/-! ## Envelopes that are sent -/

/-- What a producer keeps of the envelope it sends. -/
def SafConn.sending (data : Word) (now : Nat) (x : SafConn) : SafConn := { x with next := (x.next + 1) % 2 ^ 32, sent := some data, sentAt := now, seqShown := w32 x.next }

/-- The frame of an envelope on a CAN controller. -/
def State.envFrame (s : State) (c : Fin 16) (k : Fin 2) (x : CanCtl) : CanCtl :=
  { x with txSaf := x.txSaf.set c (some ⟨s.regs.SAF_CONc_ADDR c, s.regs.SAF_CONc_CFG_IDE c, true, s.regs.CANn_CFG_BRS k, s.envelopeOf c, s.now⟩) }

theorem envelopeSend_can {k : Fin 2} (hdue : s.envelopeDue c = true) (hch : s.regs.SAF_CONc_CFG_CH c = 2 + k.val) :
    s.envelopeSend c = { s with
      saf := { s.saf with conn := vset s.saf.conn c (SafConn.sending s.saf.mirror.data s.now) }
      can := if s.can[k].busOff then s.can else vset s.can k (s.envFrame c k) } := by
  let u := s.modConn c (fun x => { x with
    next := (s.saf.conn[c].next + 1) % 2 ^ 32, sent := some s.saf.mirror.data, sentAt := s.now, seqShown := w32 s.saf.conn[c].next })
  have hu : u = s.modConn c (SafConn.sending s.saf.mirror.data s.now) := by
    unfold u State.modConn State.onSaf
    refine congrArg (fun v : Vector SafConn 16 => ({ s with saf := { s.saf with conn := v } } : State)) (vset_congr ?_)
    rfl
  have hsend (k : Fin 2) : (if u.can[k].busOff then u else u.modCan k (fun x => { x with txSaf := x.txSaf.set c (some
        ⟨s.regs.SAF_CONc_ADDR c, u.regs.SAF_CONc_CFG_IDE c, true, u.regs.CANn_CFG_BRS k, s.envelopeOf c, u.now⟩) })) = { s with
      saf := { s.saf with conn := vset s.saf.conn c (SafConn.sending s.saf.mirror.data s.now) }
      can := if s.can[k].busOff then s.can else vset s.can k (s.envFrame c k) } := by
    rw [hu]
    by_cases hoff : s.can[k].busOff = true
    · rw [if_pos (by exact hoff), if_pos hoff]
      rfl
    · rw [if_neg (by exact hoff), if_neg hoff]
      rfl
  unfold State.envelopeSend
  rw [if_neg (by rw [hdue]; decide)]
  dsimp only
  have hch' : (s.modConn c (fun x => { x with
    next := (s.saf.conn[c].next + 1) % 2 ^ 32, sent := some s.saf.mirror.data, sentAt := s.now, seqShown := w32 s.saf.conn[c].next })).regs.SAF_CONc_CFG_CH c =
      2 + k.val := hch
  rw [hch']
  obtain ⟨k, hk⟩ := k
  match k, hk with
  | 0, _ => exact hsend 0
  | 1, _ => exact hsend 1

theorem exec_envelopeSend (hrun : s.running = true) (hprod : s.produces c = true) :
    ((s.saf.conn[c].sent = none ∨ s.saf.conn[c].sentAt + s.regs.SAF_CONc_TIM_PER c * 100000 ≤ (s.advance dt).now ∨
        (s.tbAt dt % 100000 = 0 ∧ s.saf.mirrorAt = (s.advance dt).now ∧ s.saf.conn[c].sent ≠ some s.saf.mirror.data)) →
      ∀ k : Fin 2, s.regs.SAF_CONc_CFG_CH c = 2 + k.val → ∃ t, exec (.envelopeSend dt c) s = .next t ∧ t.but s = { s.advance dt with
        saf := { s.saf with conn := vset s.saf.conn c (SafConn.sending s.saf.mirror.data (s.advance dt).now) }
        can := if s.can[k].busOff then s.can else vset s.can k ((s.advance dt).envFrame c k) }) ∧
    (¬ (s.saf.conn[c].sent = none ∨ s.saf.conn[c].sentAt + s.regs.SAF_CONc_TIM_PER c * 100000 ≤ (s.advance dt).now ∨
        (s.tbAt dt % 100000 = 0 ∧ s.saf.mirrorAt = (s.advance dt).now ∧ s.saf.conn[c].sent ≠ some s.saf.mirror.data)) →
      ∃ t, exec (.envelopeSend dt c) s = .next t ∧ t.but s = s.advance dt) := by
  have hdue : (s.advance dt).envelopeDue c = true ↔ (s.saf.conn[c].sent = none ∨
      s.saf.conn[c].sentAt + s.regs.SAF_CONc_TIM_PER c * 100000 ≤ (s.advance dt).now ∨
      (s.tbAt dt % 100000 = 0 ∧ s.saf.mirrorAt = (s.advance dt).now ∧ s.saf.conn[c].sent ≠ some s.saf.mirror.data)) := by
    unfold State.envelopeDue
    rw [show (s.advance dt).running = true from hrun, show (s.advance dt).produces c = true from hprod]
    simp only [Bool.true_and, Bool.or_eq_true, Bool.and_eq_true, decide_eq_true_eq, beq_iff_eq, bne_iff_ne, Option.isNone_iff_eq_none, or_assoc, and_assoc]
    rfl
  refine ⟨fun h k hch => ?_, fun h => ?_⟩
  · exact ⟨_, exec_next_of rfl (envelopeSend_can (s := s.advance dt) (hdue.2 h) hch), rfl⟩
  · have hnot : (s.advance dt).envelopeDue c = false := Bool.eq_false_iff.2 fun hd => h (hdue.1 hd)
    exact ⟨_, exec_next_of rfl (if_pos (by rw [hnot]; rfl)), rfl⟩

end

/-- Settles O38: an envelope is taken by each channel that its checks pass, a connection is lost at the end of its watchdog time, and a producer
sends when it is due. -/
theorem safeMessages : Obligations.SafeMessages := by
  unfold Obligations.SafeMessages
  intro s dt c hrun
  exact ⟨fun b hcons => exec_envelope hrun hcons, fun bronze hcons hsilent hcount hlong => exec_connectionLost hrun hcons hsilent hcount hlong,
    fun hprod => exec_envelopeSend hrun hprod⟩

end Sys2Proof.Machine
end

section
/-! PROOF. Entries alone (R404, R413, R419, R482, R483): NOP, FREEZE and SAFE. -/
set_option Elab.async false

namespace Sys2Proof.Machine

section
variable {s u : State} {dt : Nat} {o : Origin}

/-- A violation writes its one record (R413), stamped with the entry's arrival. -/
theorem violation_wrote {c : Ctx} {addr : Option Nat} {st detail : Nat} (hr : u.pwr.phase = .running) (hg : u.regs = s.regs)
    (ho : u.recs.outbox = s.recs.outbox) :
    ∃ rest, Wrote s (u.violation c addr st detail) [recOf c.stamp c.unit 7 (leBytes 1 st ++ leBytes 1 c.op ++ rest)] := by
  unfold State.violation
  extract_lets counts w
  have hw : Wrote s w [] := Wrote.none s w ho
  have hassoc (l1 l2 l3 l4 l5 l6 l7 l8 l9 : List Byte) :
      l1 ++ l2 ++ l3 ++ l4 ++ l5 ++ l6 ++ l7 ++ l8 ++ l9 = l1 ++ l2 ++ (l3 ++ l4 ++ l5 ++ l6 ++ l7 ++ l8 ++ l9) := by simp only [List.append_assoc]
  rw [hassoc]
  exact ⟨_, Wrote.emit s w _ [] hw hr hg _ _ _ _ _ rfl⟩

/-- An entry that is refused as a violation, of a frame that began `age` ns before it. -/
theorem entry_refusedOf {op st detail age : Nat} {f : Ctx → State → Res} {args : List Byte} (hserves : s.serves o = true) (hop : op ≠ 2)
    (hf : f { (s.advance dt).ctx o op with stamp := (s.advance dt).tb - age } (s.advance dt) = nak (s.advance dt) st detail) (hv : isViolation st = true) :
    Frame [.recs, .cp] (s.advance dt) ((s.advance dt).entry o op none f (args := args) (age := age)) ∧
      RefusedOf s ((s.advance dt).entry o op none f (args := args) (age := age)).settle dt o op st detail age := by
  have hst : st ≠ 0 := by
    rintro rfl
    cases hv
  refine ⟨entry_frame hserves (.inl hop) hf, ?_⟩
  rw [State.entry_nak (s.advance dt) o op none f 1 false [] args false age (s.advance dt) { status := st, detail := detail } hserves (.inl hop) hf hst,
    State.settleReply, if_pos hv]
  obtain ⟨rest, hwrote⟩ := violation_wrote (s := s) (u := s.advance dt) (c := { (s.advance dt).ctx o op with stamp := (s.advance dt).tb - age })
    (addr := none) (st := st) (detail := detail) (serves_phase hserves) rfl rfl
  refine ⟨?_, ?_, rest, hwrote⟩
  · simp [State.violation]
  · simp [State.violation]

/-! ## NOP and FREEZE -/

theorem frzLocal_refused {source cause stamp t : Nat} {maint : Bool} (h : s.frzReason source maint ≠ 0) :
    s.frzLocal source cause stamp t maint = (s.frzRefuse source cause stamp (s.frzReason source maint) none s.frzAddr, s.frzReason source maint) :=
  if_pos h

theorem frzLocal_permitted {source cause stamp t : Nat} {maint : Bool} (h : s.frzReason source maint = 0) (hlocal : s.frzWide source = false) :
    s.frzLocal source cause stamp t maint =
      (s.frzPend { at' := t, stamp := stamp, cause := cause, source := source, origin := s.frzAddr }, 0) :=
  (if_neg (not_not.2 h)).trans (if_neg (by rw [hlocal]; decide))

/-- A refused trigger is counted and shown as the last refusal, and recorded (R483). -/
theorem frzRefuse_frame (s : State) (source cause stamp reason : Nat) (t : Option Nat) (origin : Nat) :
    Frame [.recs, .freeIx] (s.onFrz fun f => { f with lastRefuse := reason, refused := satInc 16 f.refused })
      (s.frzRefuse source cause stamp reason t origin) := by
  unfold State.frzRefuse
  extract_lets lo hi s1
  refine Frame.next (Frame.freezeRec ..) (by decide) ?_
  unfold s1
  split
  · exact Frame.refl ..
  · exact Frame.next (Frame.onFreeIx _ (· + 2)) (by decide) (Frame.refl ..)

theorem doFreeze_M {wide : Bool} {cause : Nat} {c : Ctx} (hM : c.o.cls = .M) :
    doFreeze wide cause c s = (let r := s.frzLocal (if wide then 3 else 2) cause c.stamp (s.tb + 200000) false
      if r.2 = 0 then ack r.1 else nak r.1 St.state r.2) :=
  if_neg (not_not.2 hM)

theorem exec_freeze_permitted {cause : BitVec 16} {age : Nat} (hserves : s.serves o = true) (hM : o.cls = .M) (hreason : s.frzReason 2 false = 0)
    (hnone : s.frz.pending = none) :
    ∃ t, exec (.jcpFreeze dt o false cause age) s = .next t ∧ t.but s = { s.advance dt with
      frz := { s.frz with pending := some { at' := s.tbAt dt + 200000, stamp := s.tbAt dt - age, cause := cause.toNat, source := 2, origin := s.fab.addr.getD 0x40 } }
      cp := (s.advance dt).cpAfter o 7 { status := St.ack } } := by
  let p : FrzTrig := { at' := s.tbAt dt + 200000, stamp := s.tbAt dt - age, cause := cause.toNat, source := 2, origin := s.fab.addr.getD 0x40 }
  have hdo (c : Ctx) (hc : c.o.cls = .M) (hstamp : c.stamp = s.tbAt dt - age) :
      doFreeze false cause.toNat c (s.advance dt) = ack ((s.advance dt).frzPend p) := by
    have hlocal := frzLocal_permitted (s := s.advance dt) (source := 2) (cause := cause.toNat) (stamp := c.stamp) (t := (s.advance dt).tb + 200000)
      (maint := false) hreason rfl
    rw [doFreeze_M hc, if_neg Bool.false_ne_true, hlocal, hstamp]
    rfl
  have hpend : (s.advance dt).frzPend p = (s.advance dt).onFrz fun f => { f with pending := some p } := by
    unfold State.frzPend
    rw [State.onFrz, State.onFrz, show (s.advance dt).frz.pending = none from hnone]
  have hentry := State.entry_ack (s.advance dt) o 7 none (fun c s => doFreeze false cause.toNat c s) 1 false []
    (leBytes 1 (b2n false) ++ leBytes 1 0 ++ leBytes 2 cause.toNat) false age _ { status := 0 } hserves (.inl (by decide)) (hdo _ hM rfl) rfl
  rw [hpend] at hentry
  exact ⟨_, exec_next_of rfl hentry, rfl⟩

theorem exec_freeze_refused {cause : BitVec 16} {age : Nat} (hserves : s.serves o = true) (hM : o.cls = .M) (hreason : s.frzReason 2 false ≠ 0) :
    ∃ t, exec (.jcpFreeze dt o false cause age) s = .next t ∧
      t.but s = { s.advance dt with
        cp := t.cp, recs := t.recs, freeIx := t.freeIx
        frz := { s.frz with lastRefuse := s.frzReason 2 false, refused := satInc 16 s.frz.refused } } ∧
      t.cp.answers = s.cp.answers ++ [⟨o, 7, { status := St.state, detail := s.frzReason 2 false }⟩] := by
  let c : Ctx := { (s.advance dt).ctx o 7 with stamp := (s.advance dt).tb - age }
  let u := (s.advance dt).frzRefuse 2 cause.toNat c.stamp (s.frzReason 2 false) none (s.advance dt).frzAddr
  have hlocal := frzLocal_refused (s := s.advance dt) (source := 2) (cause := cause.toNat) (stamp := c.stamp) (t := (s.advance dt).tb + 200000)
    (maint := false) hreason
  have hdo : doFreeze false cause.toNat c (s.advance dt) = nak u St.state (s.frzReason 2 false) := by
    rw [doFreeze_M (s := s.advance dt) (c := c) hM, if_neg Bool.false_ne_true, hlocal]
    exact if_neg hreason
  have F : Frame [.recs, .freeIx] _ u := frzRefuse_frame ..
  have hcp : u.cp = s.cp := F.keep .cp (by decide)
  have hall : Frame [.recs, .cp] u _ := entry_frame (s := s.advance dt) (o := o) (op := 7) (addr := none) (n := 1) (raw := false) (ws := [])
    (args := leBytes 1 (b2n false) ++ leBytes 1 0 ++ leBytes 2 cause.toNat) (maint := false) (age := age)
    (f := fun c s => doFreeze false cause.toNat c s) hserves (.inl (by decide)) hdo
  refine ⟨_, exec_next_of rfl rfl, ?_, ?_⟩
  · generalize (s.advance dt).entry o 7 none _ _ _ _ _ _ _ = v at hall ⊢
    rw [hall.eq_merge, F.eq_merge]
    rfl
  · show ((s.advance dt).entry o 7 none (fun c s => doFreeze false cause.toNat c s) (args := leBytes 1 (b2n false) ++ leBytes 1 0 ++ leBytes 2 cause.toNat)
      (age := age)).cp.answers = _
    rw [State.entry_nak (s.advance dt) o 7 none _ 1 false [] _ false age u { status := St.state, detail := s.frzReason 2 false } hserves
      (.inl (by decide)) hdo (by exact Nat.noConfusion)]
    show ((u.settleReply _ _ _).cp.answers ++ _) = _
    rw [settleReply_answers, hcp]

theorem exec_freeze_rights {cause : BitVec 16} {age : Nat} {wide : Bool} (hserves : s.serves o = true) (hAB : o.cls = .A ∨ o.cls = .B) :
    ∃ t d, exec (.jcpFreeze dt o wide cause age) s = .next t ∧
      t.but s = { s.advance dt with cp := t.cp, recs := t.recs } ∧ RefusedOf s t dt o 7 St.rights d age := by
  have hM : o.cls ≠ .M := by
    rcases hAB with h | h <;> rw [h] <;> decide
  obtain ⟨hframe, hrefused⟩ := entry_refusedOf (s := s) (dt := dt) (op := 7) (age := age) (f := fun c s => doFreeze wide cause.toNat c s)
    (args := leBytes 1 (b2n wide) ++ leBytes 1 0 ++ leBytes 2 cause.toNat) hserves (by decide) (if_pos hM) rfl
  exact ⟨_, _, exec_next_of rfl rfl, but_settle_of_frame hframe, hrefused⟩

/-! ## SAFE -/

/-- The consumed connections of a control port, to which a SAFE entry gives its envelope (R419). -/
def State.safeConns (s : State) (p : Nat) : List (Fin 16) :=
  (List.finRange 16).filter (fun k => s.consumes k && s.regs.SAF_CONc_CFG_CH k == 1 && s.regs.SAF_CONc_ADDR k % 2 == p)

theorem mem_safeConns {p : Nat} {k : Fin 16} :
    k ∈ s.safeConns p ↔ s.consumes k = true ∧ s.regs.SAF_CONc_CFG_CH k = 1 ∧ s.regs.SAF_CONc_ADDR k % 2 = p := by
  simp [State.safeConns, and_assoc]

theorem doSafe_eq {b : List Byte} {c : Ctx} (hAB : c.o.cls = .A ∨ c.o.cls = .B) (hdev : c.o.dev = none) (hlen : b.length = 24) :
    doSafe b c s = if (s.safeConns (clsPort c.o.cls).val).isEmpty then rightsNak c s
      else ack ((s.safeConns (clsPort c.o.cls).val).foldl (fun (s : State) (k : Fin 16) => s.envelopeIn k b c.stamp) s) := by
  have hM : c.o.cls ≠ .M ∧ c.o.cls ≠ .F := by
    rcases hAB with h | h <;> rw [h] <;> decide
  have hdev' : c.o.dev.isSome ≠ true := by rw [hdev]; decide
  unfold doSafe
  show (if _ ∨ _ ∨ _ ∨ (s.safeConns (clsPort c.o.cls).val).isEmpty = true then _ else _) = _
  simp only [hM.1, hM.2, hdev', hlen, false_or, not_true, ne_eq, if_false, Bool.false_eq_true]
  rfl

/-- What the safety state becomes when an envelope arrives: what each channel makes of it by its own verdict, and no other connection's part. -/
theorem envelopeIn_saf {c : Fin 16} {b : List Byte} {stamp : Nat} (hrun : s.running = true) (hcons : s.consumes c = true) :
    ∃ (l : _) (g : SafConn → SafConn), (s.envelopeIn c b stamp).saf = { s.saf with
      bronze := if s.envOk true c b stamp then s.saf.bronze.takes c b s.now stamp else s.saf.bronze
      cobalt := if s.envOk false c b stamp then s.saf.cobalt.takes c b s.now stamp else s.saf.cobalt
      conn := vset s.saf.conn c g, owed := l } ∧
      ∀ x, (g x).disc = if s.envOk false c b stamp then x.disc else satInc 16 x.disc := by
  have hgate : ¬(!(s.running && s.consumes c)) = true := by rw [hrun, hcons]; decide
  let u := if s.envOk true c b stamp then s.modRecv true c (fun x => x.take b s.now stamp) else s
  have hu : u = s.onSaf (fun x => { x with bronze := if s.envOk true c b stamp then x.bronze.takes c b s.now stamp else x.bronze }) := by
    unfold u
    split
    · rfl
    · rfl
  have hok : u.envOk false c b stamp = s.envOk false c b stamp := by rw [hu]; rfl
  unfold State.envelopeIn
  rw [if_neg hgate]
  show ∃ (l : _) (g : SafConn → SafConn), State.saf (if !u.envOk false c b stamp then u.modConn c SafConn.discarded else _) = _ ∧ _
  rw [hok]
  cases s.envOk false c b stamp
  · refine ⟨s.saf.owed, SafConn.discarded, ?_, fun _ => rfl⟩
    show (u.modConn c _).saf = _
    rw [hu]
    rfl
  · let v := (u.modRecv false c (fun x => x.take b u.now stamp)).modConn c (fun x => { x with seqShown := w32 (leAt b 0 4) })
    have hv : v.saf = { s.saf with
        bronze := if s.envOk true c b stamp then s.saf.bronze.takes c b s.now stamp else s.saf.bronze
        cobalt := s.saf.cobalt.takes c b s.now stamp
        conn := vset s.saf.conn c (fun x => { x with seqShown := w32 (leAt b 0 4) }), owed := s.saf.owed } := by
      unfold v
      rw [hu]
      rfl
    show ∃ (l : _) (g : SafConn → SafConn), State.saf (if decide (2 ≤ u.saf.cobalt.conn[c].run) && !u.saf.cobalt.conn[c].valid then (v.safRec false stamp 0x0D05 c v.saf.conn[c].discNew (leAt b 0 4)).modConn c
      (fun x => { x with discNew := 0 }) else v) = _ ∧ _
    split
    · obtain ⟨l, hl⟩ := safRec_saf v false stamp 0x0D05 c v.saf.conn[c].discNew (leAt b 0 4)
      refine ⟨l, fun x => { x with seqShown := w32 (leAt b 0 4), discNew := 0 }, ?_, fun _ => rfl⟩
      rw [State.modConn, State.onSaf, hl, hv]
      dsimp only
      rw [vset_vset]
      rfl
    · exact ⟨s.saf.owed, fun x => { x with seqShown := w32 (leAt b 0 4) }, hv, fun _ => rfl⟩

/-- An envelope changes nothing of another connection, and of its own what each channel makes of it (R354, R355). -/
theorem envelopeIn_conn {c : Fin 16} {b : List Byte} {stamp : Nat} (hrun : s.running = true) (hcons : s.consumes c = true) :
    (∀ k, k ≠ c → (s.envelopeIn c b stamp).saf.conn[k] = s.saf.conn[k] ∧
      ∀ bronze : Bool, ((s.envelopeIn c b stamp).view bronze).conn[k] = (s.view bronze).conn[k]) ∧
    ((s.envelopeIn c b stamp).saf.conn[c].disc = if s.envOk false c b stamp then s.saf.conn[c].disc else satInc 16 s.saf.conn[c].disc) ∧
    (∀ bronze : Bool, ((s.envelopeIn c b stamp).view bronze).conn[c] =
      if s.envOk bronze c b stamp then (s.view bronze).conn[c].take b s.now stamp else (s.view bronze).conn[c]) := by
  obtain ⟨l, g, hsaf, hdisc⟩ := envelopeIn_saf (s := s) (c := c) (b := b) (stamp := stamp) hrun hcons
  have htaken (v : SafView) (ok : Bool) (k : Fin 16) : (if ok then v.takes c b s.now stamp else v).conn[k] =
      if ok && k == c then v.conn[k].take b s.now stamp else v.conn[k] := by
    cases ok
    · rfl
    · by_cases hk : k = c
      · subst hk
        rw [beq_self_eq_true]
        exact vset_self ..
      · rw [show (true && k == c) = false by simpa using hk]
        exact vset_ne _ _ _ _ (Ne.symm hk)
  unfold State.view
  rw [hsaf]
  refine ⟨fun k hk => ⟨vset_ne _ _ _ _ (Ne.symm hk), fun bronze => ?_⟩, ?_, fun bronze => ?_⟩
  · have hne : (k == c) = false := by simpa using hk
    cases bronze
    · exact (htaken ..).trans (by rw [hne, Bool.and_false]; rfl)
    · exact (htaken ..).trans (by rw [hne, Bool.and_false]; rfl)
  · exact (congrArg SafConn.disc (vset_self ..)).trans (hdisc _)
  · cases bronze
    · exact (htaken ..).trans (by rw [beq_self_eq_true, Bool.and_true]; rfl)
    · exact (htaken ..).trans (by rw [beq_self_eq_true, Bool.and_true]; rfl)

/-- A turn over the connections of a port changes what safe messages change, and judges by what it keeps. -/
theorem envelopeIn_keeps {c k : Fin 16} {b : List Byte} {stamp : Nat} :
    (s.envelopeIn c b stamp).running = s.running ∧ (s.envelopeIn c b stamp).consumes k = s.consumes k ∧ (s.envelopeIn c b stamp).now = s.now := by
  have F := Frame.envelopeIn s c b stamp
  unfold State.running State.consumes State.now
  rw [F.keep .pwr (by decide), F.keep .mode (by decide), F.keep .regs (by decide), F.keep .clk (by decide)]
  exact ⟨rfl, rfl, rfl⟩

/-- A connection of the two channels, with all that its envelopes are judged by. -/
def State.SameConn (s t : State) (k : Fin 16) : Prop :=
  t.running = s.running ∧ t.regs = s.regs ∧ t.tbs = s.tbs ∧ t.now = s.now ∧ t.saf.conn[k] = s.saf.conn[k] ∧
    ∀ bronze : Bool, (t.view bronze).conn[k] = (s.view bronze).conn[k]

theorem State.SameConn.envOk {t : State} {k : Fin 16} {b : List Byte} {stamp : Nat} (h : s.SameConn t k) (bronze : Bool) :
    t.envOk bronze k b stamp = s.envOk bronze k b stamp := by
  obtain ⟨-, hregs, htbs, -, -, hview⟩ := h
  unfold State.envOk
  rw [hregs, htbs, hview]

theorem State.SameConn.envelopeIn {t : State} {k m : Fin 16} {b : List Byte} {stamp : Nat} (h : s.SameConn t k) (hm : m ≠ k) :
    s.SameConn (t.envelopeIn m b stamp) k := by
  by_cases hlive : (t.running && t.consumes m) = true
  · obtain ⟨hrun, hcons⟩ := Bool.and_eq_true_iff.1 hlive
    obtain ⟨h1, h2, h3, h4, h5, h6⟩ := h
    obtain ⟨hother, -, -⟩ := envelopeIn_conn (b := b) (stamp := stamp) hrun hcons
    obtain ⟨hsaf, hview⟩ := hother k (Ne.symm hm)
    have F := Frame.envelopeIn t m b stamp
    obtain ⟨k1, -, k2⟩ := envelopeIn_keeps (s := t) (c := m) (k := k) (b := b) (stamp := stamp)
    exact ⟨k1.trans h1, (F.keep .regs (by decide)).trans h2, (F.keep .tbs (by decide)).trans h3, k2.trans h4, hsaf.trans h5,
      fun bronze => (hview bronze).trans (h6 bronze)⟩
  · have hsame : t.envelopeIn m b stamp = t := if_pos (by rw [Bool.eq_false_iff.2 hlive]; rfl)
    rw [hsame]
    exact h

/-- What the envelopes of a pass make of a connection to which one of them goes. -/
theorem foldl_envelopeIn_of_mem {l : List (Fin 16)} {b : List Byte} {stamp : Nat} {k : Fin 16} (hl : l.Nodup) (hk : k ∈ l) (hrun : s.running = true)
    (hcons : s.consumes k = true) :
    (∀ bronze : Bool, ((l.foldl (fun (s : State) (k : Fin 16) => s.envelopeIn k b stamp) s).view bronze).conn[k] =
      if s.envOk bronze k b stamp then (s.view bronze).conn[k].take b s.now stamp else (s.view bronze).conn[k]) ∧
    (l.foldl (fun (s : State) (k : Fin 16) => s.envelopeIn k b stamp) s).saf.conn[k].disc =
      if s.envOk false k b stamp then s.saf.conn[k].disc else satInc 16 s.saf.conn[k].disc := by
  refine foldl_reaches (f := fun (s : State) (k : Fin 16) => s.envelopeIn k b stamp) (k := k) (Q := fun u => s.SameConn u k)
    (R := fun u => (∀ bronze : Bool, (u.view bronze).conn[k] =
        if s.envOk bronze k b stamp then (s.view bronze).conn[k].take b s.now stamp else (s.view bronze).conn[k]) ∧
      u.saf.conn[k].disc = if s.envOk false k b stamp then s.saf.conn[k].disc else satInc 16 s.saf.conn[k].disc)
    (fun u m hm h => h.envelopeIn hm) (fun u h => ?_) (fun u m hm h => ?_) hl hk ⟨rfl, rfl, rfl, rfl, rfl, fun _ => rfl⟩
  · have hok := h.envOk (b := b) (stamp := stamp)
    obtain ⟨h1, h2, -, h4, h5, h6⟩ := h
    have hcons' : u.consumes k = true := by
      unfold State.consumes at hcons ⊢
      rw [h2]
      exact hcons
    obtain ⟨-, hdisc, hview⟩ := envelopeIn_conn (b := b) (stamp := stamp) (h1.trans hrun) hcons'
    simp only [hok, h4, h5, h6] at hdisc hview
    exact ⟨hview, hdisc⟩
  · have hsame : u.SameConn (u.envelopeIn m b stamp) k := State.SameConn.envelopeIn ⟨rfl, rfl, rfl, rfl, rfl, fun _ => rfl⟩ hm
    obtain ⟨-, -, -, -, h5, h6⟩ := hsame
    simp only [h5, h6]
    exact h

/-- A pass leaves a connection to which no envelope of it goes. -/
theorem foldl_envelopeIn_of_notMem {l : List (Fin 16)} {b : List Byte} {stamp : Nat} {k : Fin 16} (hk : k ∉ l) :
    s.SameConn (l.foldl (fun (s : State) (k : Fin 16) => s.envelopeIn k b stamp) s) k := by
  have hpass : ∀ (l : List (Fin 16)) (u : State), k ∉ l → s.SameConn u k →
      s.SameConn (l.foldl (fun (s : State) (k : Fin 16) => s.envelopeIn k b stamp) u) k := by
    intro l
    induction l with
    | nil => exact fun _ _ h => h
    | cons m l ih =>
      intro u hk h
      obtain ⟨hm, hl⟩ := not_or.1 (List.mem_cons.not.1 hk)
      exact ih _ hl (h.envelopeIn (Ne.symm hm))
  exact hpass l s hk ⟨rfl, rfl, rfl, rfl, rfl, fun _ => rfl⟩

theorem exec_safe_taken {b : List Byte} (hserves : s.serves o = true) (hAB : o.cls = .A ∨ o.cls = .B) (hdev : o.dev = none) (hlen : b.length = 24)
    (hsome : ∃ k, k ∈ s.safeConns (clsPort o.cls).val) :
    ∃ t, exec (.jcpSafe dt o b) s = .next t ∧
      t.but s = { s.advance dt with saf := t.saf, recs := t.recs, cp := (s.advance dt).cpAfter o 8 { status := St.ack } } ∧
      (∀ k ∈ s.safeConns (clsPort o.cls).val,
        (∀ bronze : Bool, (t.view bronze).conn[k] = if s.envOk bronze k b (s.tbAt dt) then (s.view bronze).conn[k].take b (s.advance dt).now (s.tbAt dt)
          else (s.view bronze).conn[k]) ∧
        t.saf.conn[k].disc = if s.envOk false k b (s.tbAt dt) then s.saf.conn[k].disc else satInc 16 s.saf.conn[k].disc) ∧
      (∀ k, k ∉ s.safeConns (clsPort o.cls).val → t.saf.conn[k] = s.saf.conn[k] ∧ ∀ bronze : Bool, (t.view bronze).conn[k] = (s.view bronze).conn[k]) := by
  let c : Ctx := { (s.advance dt).ctx o 8 with stamp := (s.advance dt).tb - 0 }
  let v := (s.safeConns (clsPort o.cls).val).foldl (fun (t : State) (k : Fin 16) => t.envelopeIn k b (s.tbAt dt)) (s.advance dt)
  obtain ⟨k0, hk0⟩ := hsome
  have hfull : ¬((s.advance dt).safeConns (clsPort c.o.cls).val).isEmpty = true := fun h =>
    List.not_mem_nil (List.isEmpty_iff.1 h ▸ show k0 ∈ (s.advance dt).safeConns (clsPort c.o.cls).val from hk0)
  have hdo : doSafe b c (s.advance dt) = ack v := by
    rw [doSafe_eq (s := s.advance dt) (c := c) hAB hdev hlen, if_neg hfull]
    rfl
  have hentry := State.entry_ack (s.advance dt) o 8 none (doSafe b) 1 false [] b false 0 v { status := 0 } hserves (.inl (by decide)) hdo rfl
  have F : Frame [.recs, .saf] (s.advance dt) v := Frame.foldl _ _ (fun u k => Frame.envelopeIn u k b _) _
  have hrun := serves_run hserves
  refine ⟨_, exec_next_of rfl hentry, ?_, fun k hk => ?_, fun k hk => ?_⟩
  · rw [cpAfter_congr o 8 _ (F.keep .cp (by decide)) (F.keep .clk (by decide)), F.eq_merge]
    rfl
  · obtain ⟨hcons, -, -⟩ := mem_safeConns.1 hk
    exact foldl_envelopeIn_of_mem (s := s.advance dt) (b := b) (stamp := s.tbAt dt) ((List.nodup_finRange 16).filter _) hk hrun hcons
  · obtain ⟨-, -, -, -, hconn, hview⟩ := foldl_envelopeIn_of_notMem (s := s.advance dt) (b := b) (stamp := s.tbAt dt) hk
    exact ⟨hconn, hview⟩

theorem exec_safe_rights {b : List Byte} (hserves : s.serves o = true) (hnone : ∀ k, k ∉ s.safeConns (clsPort o.cls).val) :
    ∃ t d, exec (.jcpSafe dt o b) s = .next t ∧ t.but s = { s.advance dt with cp := t.cp, recs := t.recs } ∧ Refused s t dt o 8 St.rights d := by
  have hempty : ((s.advance dt).safeConns (clsPort o.cls).val).isEmpty = true :=
    List.isEmpty_iff.2 (List.eq_nil_iff_forall_not_mem.2 hnone)
  have hdo : doSafe b ((s.advance dt).ctx o 8) (s.advance dt) = rightsNak ((s.advance dt).ctx o 8) (s.advance dt) :=
    if_pos (.inr (.inr (.inr hempty)))
  obtain ⟨hframe, hrefused⟩ := entry_refused s dt o 8 none (doSafe b) 1 false [] b false (s.advance dt) _ _ hserves (.inl (by decide)) hdo rfl
    (serves_phase hserves) rfl rfl rfl
  exact ⟨_, _, exec_next_of rfl rfl, but_settle_of_frame hframe, hrefused⟩

end

/-- Settles O46: NOP, FREEZE and SAFE as an entry alone brings them. -/
theorem entriesAlone : Obligations.EntriesAlone := by
  unfold Obligations.EntriesAlone
  intro s dt o hserves
  refine ⟨?_, fun cause age => ⟨exec_freeze_permitted hserves, exec_freeze_refused hserves, fun wide => exec_freeze_rights hserves⟩, ?_⟩
  · have hentry := State.entry_ack (s.advance dt) o 4 none (fun _ s => ack s) 1 false [] [] false 0 (s.advance dt) { status := 0 } hserves
      (.inl (by decide)) rfl rfl
    exact ⟨_, exec_next_of rfl hentry, rfl⟩
  · intro b hAB hdev hlen
    refine ⟨fun ⟨k, hk⟩ => ?_, fun hnone => exec_safe_rights hserves fun k hk => hnone k (mem_safeConns.1 hk)⟩
    obtain ⟨t, hexec, hbut, hon, hoff⟩ := exec_safe_taken (dt := dt) hserves hAB hdev hlen ⟨k, mem_safeConns.2 hk⟩
    exact ⟨t, hexec, hbut, fun k hk => hon k (mem_safeConns.2 hk), fun k hk => hoff k fun h => hk (mem_safeConns.1 h)⟩

end Sys2Proof.Machine
end

section
/-! PROOF. The fabric's sender (R372, R373): an idle link sends a packet of the hop at once. -/
set_option Elab.async false

namespace Sys2Proof.Machine

theorem Frame.fabBroadcast (t : State) (typ : Nat) (payload : List Byte) : Frame [.recs, .fab] t (State.fabBroadcast t typ payload).1 := by
  have h := Frame.refl [.recs, .fab] t
  unfold State.fabBroadcast
  extract_lets +onlyGivenNames _ _ s1
  have h1 : Frame [.recs, .fab] t s1 := ((h.frame (Frame.waitDrain ..)).frame (Frame.fabSeq ..)).frame (Frame.onFab ..)
  dsimp only
  exact h1.foldlFrom fun _ _ hx2 => Frame.ite (hx2.frame (Frame.linkSend ..)) hx2

theorem Frame.hopSend (t : State) (k : Fin 6) (typ : Nat) (payload : List Byte) : Frame [.recs, .fab] t (State.hopSend t k typ payload) := by
  have h := Frame.refl [.recs, .fab] t
  exact Frame.ite (((h.frame (Frame.waitDrain ..)).frame (Frame.fabSeq ..)).frame (Frame.linkSend ..)) h

theorem Frame.helloSend (t : State) (k : Fin 6) : Frame [.recs, .fab] t (State.helloSend t k) := by
  have h := Frame.refl [.recs, .fab] t
  exact (h.frame (Frame.hopSend ..)).frame (Frame.modLink ..)

theorem Frame.waitFlush (t : State) (k : Fin 6) (bulk : Bool) : Frame [.recs, .fab] t (State.waitFlush t k bulk) := by
  have h := Frame.refl [.recs, .fab] t
  unfold State.waitFlush
  split
  · exact h
  · extract_lets +onlyGivenNames s2
    have h2 : Frame [.recs, .fab] t s2.2 := by
      unfold s2
      refine h.foldlSnd fun _ _ hx1 => ?_
      extract_lets +onlyGivenNames _ _
      split
      · dsimp only
        exact hx1.frame (Frame.linkPut ..)
      · exact hx1
    extract_lets +onlyGivenNames _
    exact Frame.ite ((h2.frame (Frame.putWait ..)).frame (Frame.fabDiscard ..)) (h2.frame (Frame.putWait ..))

section
variable {s : State} {k : Fin 6}

/-! ## A link with nothing to send -/

theorem State.linkIdle.advance (h : s.linkIdle k) (dt : Nat) : (s.advance dt).linkIdle k := by
  refine ⟨fun o ho hk => Nat.le_trans (h.1 o ho hk) ?_, h.2⟩
  exact Nat.le_add_right ..

/-- Nothing waits at the inputs: there is nothing to drain. -/
theorem waitDrain_of_none (h : ∀ (j : Fin 6) (bulk : Bool), s.fab.links[j].waits bulk = none) : s.waitDrain = s := by
  have horder (bulk : Bool) : s.waitOrder bulk = [] := by
    have hfold : ∀ l : List (Fin 6), l.foldl (fun acc k => match s.fab.links[k].waits bulk with
        | some w => waitIns (w.at', k) acc
        | none => acc) ([] : List (Nat × Fin 6)) = [] := by
      intro l
      induction l with
      | nil => rfl
      | cons j l ih =>
        rw [List.foldl_cons, h j bulk]
        exact ih
    exact congrArg (List.map Prod.snd) (hfold linkAll)
  unfold State.waitDrain
  rw [List.foldl_cons, horder false, List.foldl_nil, List.foldl_cons, horder true, List.foldl_nil, List.foldl_nil]

theorem State.linkIdle.waits (h : s.linkIdle k) (j : Fin 6) (bulk : Bool) : s.fab.links[j].waits bulk = none := by
  cases bulk
  · exact (h.2 j).1
  · exact (h.2 j).2

theorem State.linkIdle.waitDrain (h : s.linkIdle k) : s.waitDrain = s := waitDrain_of_none h.waits

theorem State.linkIdle.txTill (h : s.linkIdle k) (urgent : Bool) : s.txTill k.val urgent ≤ s.now := by
  have hfold : ∀ (l : List OutPkt) (m : Nat), (∀ o ∈ l, o.link = k.val → o.till ≤ s.now) → m ≤ s.now →
      l.foldl (fun m e => if e.link = k.val ∧ (urgent && e.bulk) = false then max m e.till else m) m ≤ s.now := by
    intro l
    induction l with
    | nil => exact fun _ _ hm => hm
    | cons e l ih =>
      intro m hl hm
      refine ih _ (fun o ho => hl o (List.mem_cons_of_mem _ ho)) ?_
      dsimp only
      split
      · next hk => exact Nat.max_le.2 ⟨hm, hl e (List.mem_cons_self ..) hk.1⟩
      · exact hm
  exact hfold _ _ h.1 (Nat.zero_le _)

/-- An urgent packet on an idle link starts at once. -/
theorem State.linkIdle.urgStart (h : s.linkIdle k) : s.urgStart k s.now = s.now := by
  have hu : max s.now (s.txTill k.val true) = s.now := Nat.max_eq_left (h.txTill true)
  have hnone : s.fab.out.find? (fun e => e.underWay k.val s.now) = none := by
    refine List.find?_eq_none.2 fun e he => ?_
    unfold OutPkt.underWay
    intro hway
    simp only [Bool.and_eq_true, beq_iff_eq, decide_eq_true_eq] at hway
    obtain ⟨⟨⟨hk, -⟩, -⟩, htill⟩ := hway
    exact absurd (h.1 e he hk) (Nat.not_le.2 htill)
  unfold State.urgStart
  dsimp only
  rw [hu, hnone]

theorem State.linkIdle.leaveTb (h : s.linkIdle k) : s.leaveTb k false = s.tb := by
  unfold State.leaveTb
  rw [if_neg Bool.false_ne_true, h.urgStart]
  exact Nat.add_sub_cancel ..

/-! ## A packet of the hop -/

theorem byteAt_packetOf (bcast : Bool) (dst origin cls typ seq time : Nat) (payload : List Byte) :
    byteAt (packetOf bcast dst origin cls typ seq time payload) 2 = typ % 256 := by
  have hone (x : Nat) : leBytes 1 x = [BitVec.ofNat 8 x] := by simp [leBytes]
  unfold byteAt packetOf
  rw [hone, hone, hone]
  rfl

/-- What is sent on a link from now on. -/
def State.outNow (s : State) (k : Fin 6) (eep : Bool) (bytes : List Byte) : OutPkt :=
  ⟨k.val, false, bytes, eep, s.now, s.now + s.fab.links[k].sendNs bytes.length⟩

/-- No packet of an idle link is broken by another. -/
theorem State.linkIdle.queue {l : LinkSt} {t : Nat} (h : s.linkIdle k) :
    s.fab.out.flatMap (fun e => if e.link == k.val && e.bulk && decide (s.now < e.till) then (l.cut s.now e).1.toList else [e]) = s.fab.out ∧
    OutPkt.queued l t (s.fab.out.filterMap (fun e => if e.link == k.val && e.bulk && decide (s.now < e.till) then (l.cut s.now e).2 else none)) = [] := by
  have hopen (e : OutPkt) (he : e ∈ s.fab.out) : ¬(e.link == k.val && e.bulk && decide (s.now < e.till)) = true := by
    intro hway
    simp only [Bool.and_eq_true, beq_iff_eq, decide_eq_true_eq] at hway
    obtain ⟨⟨hk, -⟩, htill⟩ := hway
    exact absurd (h.1 e he hk) (Nat.not_le.2 htill)
  constructor
  · have hall : ∀ (es : List OutPkt), (∀ e ∈ es, e ∈ s.fab.out) →
        es.flatMap (fun e => if e.link == k.val && e.bulk && decide (s.now < e.till) then (l.cut s.now e).1.toList else [e]) = es := by
      intro es
      induction es with
      | nil => exact fun _ => rfl
      | cons e es ih =>
        intro hes
        rw [List.flatMap_cons, if_neg (hopen e (hes e (List.mem_cons_self ..))), ih fun e he => hes e (List.mem_cons_of_mem _ he)]
        rfl
    exact hall _ fun _ he => he
  · rw [List.filterMap_eq_nil_iff.2 fun e he => if_neg (hopen e he)]
    rfl

theorem linkPut_idle {eep : Bool} {bytes : List Byte} (h : s.linkIdle k) :
    s.linkPut k false eep bytes s.now = (s.frameFab s.tb k.val true bytes).onFab (fun x => { x with out := x.out ++ [s.outNow k eep bytes] }) := by
  have hstart := h.urgStart
  have hu : max s.now (s.txTill k.val true) = s.now := Nat.max_eq_left (h.txTill true)
  have F := Frame.frameFab s s.tb k.val true bytes
  have hout : (s.frameFab s.tb k.val true bytes).fab.out = s.fab.out := by rw [F.keep .fab (by decide)]
  have htill : (s.frameFab s.tb k.val true bytes).txTill k.val true = s.txTill k.val true := by
    unfold State.txTill
    rw [hout]
  unfold State.linkPut
  rw [if_neg Bool.false_ne_true, if_neg Bool.false_ne_true]
  dsimp only
  rw [hstart, Nat.add_sub_cancel, htill, hu]
  generalize s.frameFab s.tb k.val true bytes = v at hout ⊢
  obtain ⟨hkept, hqueue⟩ := h.queue (l := s.fab.links[k]) (t := s.now + s.fab.links[k].sendNs bytes.length)
  refine congrArg (fun l => ({ v with fab := { v.fab with out := l } } : State)) ?_
  rw [hout, hkept, hqueue, List.append_nil]
  rfl

/-- What a packet of the hop becomes on an idle link: its SEQ is counted on, its record may be written, and it is sent at once. -/
def State.hopNow (s : State) (k : Fin 6) (typ : Nat) (payload : List Byte) : OutPkt :=
  s.outNow k false (packetOf false (match s.fab.links[k].partner with | some p => p.addr.getD 0 | none => 0) (s.fab.addr.getD 0) 0 typ
    (seqOf s.fab.seqs typ) s.tb payload)

theorem hopSend_idle {typ : Nat} {payload : List Byte} (h : s.linkIdle k) (hcarries : s.linkCarries k typ = true) (htyp : typ < 256) :
    (s.hopSend k typ payload).fab = { s.fab with
      seqs := cellSet (fun _ => 0) typ ((seqOf s.fab.seqs typ + 1) % 65536) s.fab.seqs, out := s.fab.out ++ [s.hopNow k typ payload] } ∧
    s.hopSend k typ payload = (((s.fabSeq typ).2.frameFab s.tb k.val true (s.hopNow k typ payload).bytes).onFab
      (fun x => { x with out := x.out ++ [s.hopNow k typ payload] })) := by
  have hseq : (s.fabSeq typ).2.linkIdle k := h
  have hlink : Fin.ofNat 6 k.val = k := Fin.ext (Nat.mod_eq_of_lt k.isLt)
  have hcarries' : (s.fabSeq typ).2.linkCarries (Fin.ofNat 6 k.val) (byteAt (s.hopNow k typ payload).bytes 2) = true := by
    have hbyte : byteAt (s.hopNow k typ payload).bytes 2 = typ := (byteAt_packetOf ..).trans (Nat.mod_eq_of_lt htyp)
    rw [hbyte, hlink]
    exact hcarries
  have hsend : s.hopSend k typ payload = ((s.fabSeq typ).2.frameFab s.tb k.val true (s.hopNow k typ payload).bytes).onFab
      (fun x => { x with out := x.out ++ [s.hopNow k typ payload] }) := by
    unfold State.hopSend
    rw [if_pos hcarries, h.waitDrain]
    dsimp only
    rw [h.leaveTb]
    show (s.fabSeq typ).2.linkSend k.val false (s.hopNow k typ payload).bytes = _
    unfold State.linkSend
    rw [hseq.waitDrain]
    dsimp only
    rw [if_pos hcarries', hlink, linkPut_idle hseq]
    rfl
  refine ⟨?_, hsend⟩
  have F := Frame.frameFab (s.fabSeq typ).2 s.tb k.val true (s.hopNow k typ payload).bytes
  rw [hsend, State.onFab, F.keep .fab (by decide)]
  rfl

end

end Sys2Proof.Machine
end

section
/-! PROOF. The states of a link (R366 to R370, R388, R389): HELLO, parking, restart, DOWN, and the loss of the fabric. -/
set_option Elab.async false

namespace Sys2Proof.Machine

section
variable {s t u : State} {k : Fin 6} {dt : Nat}

/-! ## What changes on one link -/

/-- The watch over the working links: since when there is none, and stop cause 2. -/
theorem linkWatch_eq (s : State) : ∃ a b, s.linkWatch = { s with fab := { s.fab with noLink := a }, mode := { s.mode with stop := b } } := by
  unfold State.linkWatch
  split
  · exact ⟨_, _, rfl⟩
  · exact ⟨_, _, rfl⟩

/-- A change of one link leaves the others, the address and the routes. -/
theorem OnlyLink.of_vset {f : LinkSt → LinkSt} (hlinks : t.fab.links = vset s.fab.links k f) (haddr : t.fab.addr = s.fab.addr)
    (hroutes : t.fab.routes = s.fab.routes) : OnlyLink s t k ∧ t.fab.links[k] = f s.fab.links[k] := by
  refine ⟨⟨fun j hj => ?_, haddr, hroutes⟩, ?_⟩
  · rw [hlinks]
    exact vset_ne _ _ _ _ (Ne.symm hj)
  · rw [hlinks]
    exact vset_self ..

theorem State.linkIdle.modLink {f : LinkSt → LinkSt} (h : s.linkIdle k) (j : Fin 6) (hf : ∀ l, (f l).urgIn = l.urgIn ∧ (f l).bulkIn = l.bulkIn) :
    (s.modLink j f).linkIdle k := by
  refine ⟨h.1, fun i => ?_⟩
  show ((vset s.fab.links j f)[i]).urgIn = none ∧ ((vset s.fab.links j f)[i]).bulkIn = none
  by_cases hi : j = i
  · subst hi
    rw [show (vset s.fab.links j f)[j] = f s.fab.links[j] from vset_self .., (hf _).1, (hf _).2]
    exact h.2 j
  · rw [show (vset s.fab.links j f)[i] = s.fab.links[i] from vset_ne _ _ _ _ hi]
    exact h.2 i

/-- What the packet sent last on a link shows. -/
theorem hopSent_of {typ : Nat} {payload : List Byte} (hout : t.fab.out = s.fab.out ++ [u.hopNow k typ payload])
    (hpartner : t.fab.links[k].partner = u.fab.links[k].partner) (haddr : u.fab.addr = s.fab.addr) (hseq : u.fab.seqs = s.fab.seqs)
    (hclk : u.clk = (s.advance dt).clk) : HopSent s t dt k typ payload := by
  refine ⟨u.now + u.fab.links[k].sendNs (u.hopNow k typ payload).bytes.length, ?_⟩
  have hnow : u.now = (s.advance dt).now := congrArg (·.now) hclk
  have htb : u.tb = s.tbAt dt := congrArg (·.tb) hclk
  rw [hout, hpartner, ← haddr, ← hseq, ← hnow, ← htb]
  rfl

/-! ## HELLO -/

theorem helloSend_idle (h : s.linkIdle k) (hcarries : s.linkCarries k 1 = true) :
    (s.helloSend k).fab.links = vset s.fab.links k (fun l => { l with helloTx := s.now }) ∧
    (s.helloSend k).fab.addr = s.fab.addr ∧ (s.helloSend k).fab.routes = s.fab.routes ∧
    (s.helloSend k).fab.out = s.fab.out ++ [s.hopNow k 1 (s.helloBytes k)] := by
  obtain ⟨hfab, -⟩ := hopSend_idle (payload := s.helloBytes k) h hcarries (by decide)
  have hhello : s.helloSend k = (s.hopSend k 1 (s.helloBytes k)).modLink k (fun l => { l with helloTx := s.now }) := rfl
  rw [hhello, State.modLink, State.onFab, hfab]
  exact ⟨rfl, rfl, rfl, rfl⟩

/-- A HELLO that goes out on an idle link: its instant is noted, and it is sent. -/
theorem helloSent (hu : u.linkIdle k) (hcarries : u.linkCarries k 1 = true) (hout : u.fab.out = s.fab.out) (haddr : u.fab.addr = s.fab.addr)
    (hseq : u.fab.seqs = s.fab.seqs) (hclk : u.clk = (s.advance dt).clk) (hbytes : u.helloBytes k = s.helloBytes k) :
    (u.helloSend k).fab.links[k] = { u.fab.links[k] with helloTx := (s.advance dt).now } ∧ HopSent s (u.helloSend k) dt k 1 (s.helloBytes k) := by
  obtain ⟨h1, -, -, h4⟩ := helloSend_idle hu hcarries
  have hlink : (u.helloSend k).fab.links[k] = { u.fab.links[k] with helloTx := (s.advance dt).now } := by
    rw [h1, show u.now = (s.advance dt).now from congrArg (·.now) hclk]
    exact vset_self ..
  refine ⟨hlink, hopSent_of (u := u) ?_ ?_ haddr hseq hclk⟩
  · rw [h4, hout, hbytes]
  · rw [hlink]

/-- A link that comes to Run, with its rates (R367). -/
def LinkSt.ran (now rate : Nat) (tx : Rat) (l : LinkSt) : LinkSt :=
  { l with state := .hello, runAt := now, rateRx := (rate : Rat), rateTx := if tx < 320000000 then 320000000 else tx }

theorem exec_linkRun {rate : Nat} (hrun : s.running = true) (hstart : s.fab.links[k].state = .start) (hidle : s.linkIdle k) :
    ∃ t, exec (.linkRun dt k rate) s = .next t ∧
      t.but s = { s.advance dt with fab := t.fab, recs := t.recs, freeIx := s.freeIx + 1 } ∧ OnlyLink s t k ∧ t.fab.links[k].state = .hello ∧
      t.fab.links[k].runAt = (s.advance dt).now ∧ t.fab.links[k].rateRx = (rate : Rat) ∧ 320000000 ≤ t.fab.links[k].rateTx ∧
      HopSent s t dt k 1 (s.helloBytes k) := by
  let u := (((s.advance dt).fresh.2).modLink k (LinkSt.ran (s.advance dt).now rate (Config.freeReal (s.advance dt).fresh.1)))
  have hgate : ((s.advance dt).running && (s.advance dt).fab.links[k].state == .start) = true := by
    rw [show (s.advance dt).running = true from hrun, show (s.advance dt).fab.links[k].state = .start from hstart]
    rfl
  have hexec : exec (.linkRun dt k rate) s = done (u.helloSend k) := if_pos hgate
  have hfresh : ((s.advance dt).fresh.2).linkIdle k := hidle.advance dt
  have hu : u.linkIdle k := hfresh.modLink k fun _ => ⟨rfl, rfl⟩
  have hlink : u.fab.links[k] = LinkSt.ran (s.advance dt).now rate (Config.freeReal (s.advance dt).fresh.1) s.fab.links[k] := vset_self ..
  have hcarries : u.linkCarries k 1 = true := by
    unfold State.linkCarries
    rw [hlink]
    rfl
  obtain ⟨h1, h2⟩ := helloSent (s := s) (dt := dt) hu hcarries rfl rfl rfl rfl rfl
  obtain ⟨h3, h4, h5, -⟩ := helloSend_idle hu hcarries
  have F := Frame.helloSend u k
  rw [hlink] at h1
  refine ⟨_, exec_next_of hexec rfl, ?_, ⟨fun j hj => ?_, h4, h5⟩, ?_⟩
  · show (u.helloSend k).settle.but s = _
    rw [F.eq_merge]
    rfl
  · show (u.helloSend k).fab.links[j] = _
    rw [h3, show (vset u.fab.links k fun l => { l with helloTx := u.now })[j] = u.fab.links[j] from vset_ne _ _ _ _ (Ne.symm hj)]
    exact vset_ne _ _ _ _ (Ne.symm hj)
  · show (u.helloSend k).fab.links[k].state = _ ∧ (u.helloSend k).fab.links[k].runAt = _ ∧ (u.helloSend k).fab.links[k].rateRx = _ ∧
      320000000 ≤ (u.helloSend k).fab.links[k].rateTx ∧ HopSent s (u.helloSend k) dt k 1 (s.helloBytes k)
    rw [h1]
    refine ⟨rfl, rfl, rfl, ?_, h2⟩
    show 320000000 ≤ if _ < 320000000 then (320000000 : Rat) else _
    split
    · exact le_refl _
    · next hlow => exact not_lt.1 hlow

theorem helloSend_due {t : State} (hrun : s.running = true) (hstate : s.fab.links[k].state = .active ∨ s.fab.links[k].state = .parked)
    (hlong : s.fab.links[k].helloTx + 10000000 ≤ s.now) :
    (if s.running && (s.fab.links[k].state == .active || s.fab.links[k].state == .parked) && decide (s.fab.links[k].helloTx + 10000000 ≤ s.now)
      then s.helloSend k else t) = s.helloSend k := by
  refine if_pos ?_
  rw [hrun, decide_eq_true hlong]
  rcases hstate with h | h
  · rw [h]
    rfl
  · rw [h]
    rfl

theorem exec_helloSend (hrun : s.running = true) (hstate : s.fab.links[k].state = .active ∨ s.fab.links[k].state = .parked)
    (hlong : s.fab.links[k].helloTx + 10000000 ≤ (s.advance dt).now) (hidle : s.linkIdle k) :
    ∃ t, exec (.helloSend dt k) s = .next t ∧
      t.but s = { s.advance dt with fab := t.fab, recs := t.recs } ∧ OnlyLink s t k ∧ t.fab.links[k] = { s.fab.links[k] with helloTx := (s.advance dt).now } ∧
      HopSent s t dt k 1 (s.helloBytes k) := by
  have hu := hidle.advance dt
  have hcarries : (s.advance dt).linkCarries k 1 = true := by
    unfold State.linkCarries
    rw [State.advance_fab]
    rcases hstate with h | h
    · rw [h]
    · rw [h]
      rfl
  obtain ⟨h1, h2⟩ := helloSent (s := s) (dt := dt) hu hcarries rfl rfl rfl rfl rfl
  obtain ⟨h3, h4, h5, -⟩ := helloSend_idle hu hcarries
  have F := Frame.helloSend (s.advance dt) k
  have hstep := helloSend_due (s := s.advance dt) (k := k) (t := s.advance dt) hrun hstate (by rw [State.advance_fab]; exact hlong)
  refine ⟨_, exec_next_of rfl hstep, ?_, (OnlyLink.of_vset h3 h4 h5).1, h1, h2⟩
  rw [F.eq_merge]
  rfl

/-! ## Parking, restart and DOWN -/

/-- What a watch over the links leaves of the link that changed: the others, the address and the routes stand. -/
theorem linkWatch_link : s.linkWatch.fab.links = s.fab.links ∧ s.linkWatch.fab.addr = s.fab.addr ∧ s.linkWatch.fab.routes = s.fab.routes ∧
    s.linkWatch.fab.out = s.fab.out := by
  obtain ⟨a, b, h⟩ := linkWatch_eq s
  rw [h]
  exact ⟨rfl, rfl, rfl, rfl⟩

/-- What a step leaves that touches the fabric, the stop causes and the records. -/
theorem but_fab_stop {t : State} {b : BitVec 7} (F : Frame [.mode, .recs, .fab] (s.advance dt) t) (hmode : t.mode = { s.mode with stop := b }) :
    t.settle.but s = { s.advance dt with fab := t.fab, mode := { s.mode with stop := t.mode.stop }, recs := t.recs } := by
  obtain ⟨f, r, ht⟩ : ∃ f r, t = { s.advance dt with fab := f, mode := { s.mode with stop := b }, recs := r } := by
    refine ⟨t.fab, t.recs, F.eq_merge.trans ?_⟩
    exact congrArg (fun m => ({ s.advance dt with fab := t.fab, mode := m, recs := t.recs } : State)) hmode
  subst ht
  rfl

theorem park_link {r : Nat} (hrun : s.running = true) :
    (s.park k r).fab.links = vset s.fab.links k (fun l => { l with state := .parked, park := r }) ∧ (s.park k r).fab.addr = s.fab.addr ∧
    (s.park k r).fab.routes = s.fab.routes ∧ (s.park k r).fab.out = s.fab.out ∧
    Wrote s (s.park k r) [evtOf s.tb (Unit.link k.val) 0x0E04 r (s.partnerId k % 2 ^ 32)] ∧
    ∃ b, (s.park k r).mode = { s.mode with stop := b } := by
  let u := (s.modLink k (fun l => { l with state := .parked, park := r })).event s.tb (Unit.link k) 0x0E04 r (s.partnerId k % 2 ^ 32)
  obtain ⟨a, b, h⟩ := linkWatch_eq u
  have hpark : s.park k r = u.linkWatch := rfl
  have F : Frame [.recs] _ u := Frame.event ..
  have hwrote : Wrote s u _ := Wrote.event_one (run_phase hrun)
  rw [hpark, h, F.keep .fab (by decide), F.keep .mode (by decide)]
  exact ⟨rfl, rfl, rfl, rfl, hwrote, b, rfl⟩

theorem noHello_due {t : State} (hrun : s.running = true) (hstate : s.fab.links[k].state = .hello) (hlong : s.fab.links[k].runAt + 10000000 ≤ s.now) :
    (if s.running && s.fab.links[k].state == .hello && decide (s.fab.links[k].runAt + 10000000 ≤ s.now) then s.park k 3 else t) = s.park k 3 := by
  refine if_pos ?_
  rw [hrun, hstate, decide_eq_true hlong]
  rfl

theorem exec_noHello (hrun : s.running = true) (hstate : s.fab.links[k].state = .hello) (hlong : s.fab.links[k].runAt + 10000000 ≤ (s.advance dt).now) :
    ∃ t, exec (.noHello dt k) s = .next t ∧
      t.but s = { s.advance dt with fab := t.fab, mode := { s.mode with stop := t.mode.stop }, recs := t.recs } ∧ OnlyLink s t k ∧
      t.fab.links[k] = { s.fab.links[k] with state := .parked, park := 3 } ∧
      Wrote s t [evtOf (s.tbAt dt) (Unit.link k.val) 0x0E04 3 (s.partnerId k % 2 ^ 32)] := by
  have hstep := noHello_due (s := s.advance dt) (k := k) (t := s.advance dt) hrun hstate (by rw [State.advance_fab]; exact hlong)
  obtain ⟨h1, h2, h3, -, h5, b, h6⟩ := park_link (s := s.advance dt) (k := k) (r := 3) hrun
  obtain ⟨honly, hlink⟩ := OnlyLink.of_vset (s := s) h1 h2 h3
  exact ⟨_, exec_next_of rfl hstep, but_fab_stop (Frame.park ..) h6, honly, hlink, h5⟩

/-- A link that starts again (R388). -/
def LinkSt.restarted (l : LinkSt) : LinkSt := { l with state := .start, park := 0, rateTx := 10000000, bulkRx := none, t1 := none, reqAt := none }

theorem txBreak_out {o : OutPkt} (ho : o ∈ (s.txBreak k).fab.out) (hk : o.link = k.val) : o.till ≤ s.now := by
  obtain ⟨e, -, he⟩ := List.mem_map.1 ho
  subst he
  by_cases hlink : e.link = k.val
  · rw [if_pos hlink]
    exact Nat.min_le_right ..
  · rw [if_neg hlink] at hk
    exact absurd hk hlink

theorem linkRestart_link (s : State) (k : Fin 6) :
    (s.linkRestart k).fab.links = vset s.fab.links k LinkSt.restarted ∧ (s.linkRestart k).fab.addr = s.fab.addr ∧
    (s.linkRestart k).fab.routes = s.fab.routes ∧ (∀ o ∈ (s.linkRestart k).fab.out, o.link = k.val → o.till ≤ s.now) ∧
    ∃ b, (s.linkRestart k).mode = { s.mode with stop := b } := by
  obtain ⟨a, b, h⟩ := linkWatch_eq ((s.txBreak k).modLink k LinkSt.restarted)
  have hrestart : s.linkRestart k = ((s.txBreak k).modLink k LinkSt.restarted).linkWatch := rfl
  rw [hrestart, h]
  exact ⟨rfl, rfl, rfl, fun o ho hk => txBreak_out ho hk, b, rfl⟩

/-- The run of records of a link's errors of one kind. -/
def LinkSt.runSet (kind : Fin 7) (r : Run) (l : LinkSt) : LinkSt := { l with runs := l.runs.set kind r }

theorem linkErr_fab (s : State) (k : Fin 6) (kind : Fin 7) :
    ∃ r, (s.linkErr k kind).fab = { s.fab with links := vset s.fab.links k (LinkSt.runSet kind r) } := by
  refine ⟨(s.fab.links[k].runs[kind].event s.now s.tb).1, ?_⟩
  unfold State.linkErr
  have F := Frame.foldl (K := [.recs]) (s.fab.links[k].runs[kind].event s.now s.tb).2 (fun s q => s.event q.1 (Unit.link k) 0x0E02 kind.val q.2)
    (fun _ _ => Frame.event ..) (s.modLink k (LinkSt.runSet kind (s.fab.links[k].runs[kind].event s.now s.tb).1))
  exact F.keep .fab (by decide)

/-- An error of the exchange on a link (R388). -/
def LinkSt.erred (now : Nat) (l : LinkSt) : LinkSt := { l with exch := satInc 16 l.exch, errAt := lastSecond now l.errAt ++ [now] }

theorem exchangeError_link (s : State) (k : Fin 6) (kind : ExchangeErr) :
    (∃ r, (s.exchangeError k kind).fab.links[k] = { LinkSt.restarted (LinkSt.erred s.now s.fab.links[k]) with runs := r }) ∧
    OnlyLink s (s.exchangeError k kind) k ∧ (∀ o ∈ (s.exchangeError k kind).fab.out, o.link = k.val → o.till ≤ s.now) ∧
    ∃ b, (s.exchangeError k kind).mode = { s.mode with stop := b } := by
  let u := s.modLink k (LinkSt.erred s.now)
  obtain ⟨h1, h2, h3, h4, b, h5⟩ := linkRestart_link u k
  obtain ⟨r, hfab⟩ := linkErr_fab (u.linkRestart k) k (exchKind kind)
  have hmode : (s.exchangeError k kind).mode = (u.linkRestart k).mode := (Frame.linkErr (u.linkRestart k) k (exchKind kind)).keep .mode (by decide)
  have herr : s.exchangeError k kind = (u.linkRestart k).linkErr k (exchKind kind) := rfl
  have hk : (u.linkRestart k).fab.links[k] = LinkSt.restarted (LinkSt.erred s.now s.fab.links[k]) := by
    rw [h1]
    exact (vset_self ..).trans (congrArg LinkSt.restarted (vset_self ..))
  rw [herr, hfab]
  refine ⟨⟨_, (vset_self ..).trans (congrArg (LinkSt.runSet (exchKind kind) r) hk)⟩, ⟨fun j hj => ?_, ?_, ?_⟩, ?_, b, ?_⟩
  · rw [hfab]
    refine (vset_ne _ _ _ _ (Ne.symm hj)).trans ?_
    rw [h1]
    exact (vset_ne _ _ _ _ (Ne.symm hj)).trans (vset_ne _ _ _ _ (Ne.symm hj))
  · rw [hfab]
    exact h2
  · rw [hfab]
    exact h3
  · exact h4
  · rw [← herr, hmode]
    exact h5

theorem exec_exchangeError {e : ExchangeErr} {part : List Byte} (hrun : s.running = true) (hoff : s.fab.links[k].state ≠ .off)
    (hdown : s.fab.links[k].state ≠ .down)
    (hhere : s.fab.links[k].state ≠ .active ∨ (byteAt part 0).testBit 7 = false ∨ isHop (byteAt part 2) = true) :
    ∃ t, exec (.exchangeError dt k e part) s = .next t ∧
      (∀ o ∈ t.fab.out, o.link = k.val → o.till ≤ (s.advance dt).now) ∧
      t.but s = { s.advance dt with fab := t.fab, mode := { s.mode with stop := t.mode.stop }, recs := t.recs } ∧ OnlyLink s t k ∧
      t.fab.links[k] = { s.fab.links[k] with
        state := .start, park := 0, rateTx := 10000000, bulkRx := none, t1 := none, reqAt := none
        exch := satInc 16 s.fab.links[k].exch, runs := t.fab.links[k].runs
        errAt := s.fab.links[k].errAt.filter (fun u => decide ((s.advance dt).now < u + 1000000000)) ++ [(s.advance dt).now] } := by
  have hgate : ((s.advance dt).running && (s.advance dt).fab.links[k].state != .off && (s.advance dt).fab.links[k].state != .down) = true := by
    rw [show (s.advance dt).running = true from hrun]
    simpa using ⟨hoff, hdown⟩
  have hnot : ((s.advance dt).linkActive k && (byteAt part 0).testBit 7 && !isHop (byteAt part 2)) = false := by
    refine Bool.eq_false_iff.2 fun h => ?_
    simp only [Bool.and_eq_true, Bool.not_eq_true'] at h
    obtain ⟨⟨hact, hbit⟩, hhop⟩ := h
    rcases hhere with h | h | h
    · exact h (beq_iff_eq.1 hact)
    · rw [h] at hbit
      cases hbit
    · rw [h] at hhop
      cases hhop
  have hexec : exec (.exchangeError dt k e part) s = done ((s.advance dt).exchangeError k e) := by
    refine (if_pos hgate).trans ?_
    rw [hnot, Bool.false_and, Bool.false_and, if_neg Bool.false_ne_true]
  obtain ⟨⟨r, hk⟩, honly, hout, b, hmode⟩ := exchangeError_link (s.advance dt) k e
  have hbut := but_fab_stop (Frame.exchangeError (s.advance dt) k e) hmode
  refine ⟨_, exec_next_of hexec rfl, ?_⟩
  generalize (s.advance dt).exchangeError k e = t at *
  refine ⟨hout, hbut, honly, ?_⟩
  have hruns : t.fab.links[k].runs = r := congrArg LinkSt.runs hk
  show t.fab.links[k] = { s.fab.links[k] with
    state := .start, park := 0, rateTx := 10000000, bulkRx := none, t1 := none, reqAt := none
    exch := satInc 16 s.fab.links[k].exch, runs := t.fab.links[k].runs
    errAt := s.fab.links[k].errAt.filter (fun u => decide ((s.advance dt).now < u + 1000000000)) ++ [(s.advance dt).now] }
  rw [hruns]
  exact hk

/-- A link that goes DOWN (R389). -/
def LinkSt.fallen (now : Nat) (l : LinkSt) : LinkSt :=
  { l with state := .down, park := 0, downAt := now, downs := satInc 16 l.downs, errAt := [], badAt := [], bulkRx := none, t1 := none, reqAt := none }

theorem exec_linkDown {e b : Nat} (hrun : s.running = true) (hoff : s.fab.links[k].state ≠ .off) (hdown : s.fab.links[k].state ≠ .down)
    (he : e = (s.fab.links[k].errAt.filter (fun u => decide ((s.advance dt).now < u + 1000000000))).length)
    (hb : b = (s.fab.links[k].badAt.filter (fun u => decide ((s.advance dt).now < u + 1000000000))).length) (hmany : 8 ≤ e ∨ 32 ≤ b) :
    ∃ t, exec (.linkDown dt k) s = .next t ∧
      t.but s = { s.advance dt with fab := t.fab, mode := { s.mode with stop := t.mode.stop }, recs := t.recs } ∧ OnlyLink s t k ∧
      t.fab.links[k].state = .down ∧ t.fab.links[k].downAt = (s.advance dt).now ∧ t.fab.links[k].downs = satInc 16 s.fab.links[k].downs ∧
      Wrote s t [evtOf (s.tbAt dt) (Unit.link k.val) 0x0E03 (if 8 ≤ e then 1 else 2) (if 8 ≤ e then e else b)] := by
  have hgate : ((s.advance dt).running && (s.advance dt).fab.links[k].state != .off && (s.advance dt).fab.links[k].state != .down &&
      (decide (8 ≤ e) || decide (32 ≤ b))) = true := by
    have hmany' : (decide (8 ≤ e) || decide (32 ≤ b)) = true := by simpa using hmany
    rw [show (s.advance dt).running = true from hrun, hmany']
    simpa using ⟨hoff, hdown⟩
  let v := ((s.advance dt).txBreak k).modLink k (LinkSt.fallen (s.advance dt).now)
  let u := v.event (s.tbAt dt) (Unit.link k) 0x0E03 (if 8 ≤ e then 1 else 2) (if 8 ≤ e then e else b)
  have hexec : exec (.linkDown dt k) s = done u.linkWatch := by
    subst he hb
    exact if_pos hgate
  obtain ⟨x, y, hwatch⟩ := linkWatch_eq u
  have F : Frame [.recs] v u := Frame.event ..
  have hfab : u.fab = v.fab := F.keep .fab (by decide)
  have hmode : u.mode = s.mode := F.keep .mode (by decide)
  have hall : Frame [.mode, .recs, .fab] (s.advance dt) u.linkWatch :=
    Frame.next (Frame.linkWatch ..) (by decide) (Frame.next F (by decide) (Frame.next (Frame.modLink ..) (by decide)
      (Frame.next (Frame.txBreak ..) (by decide) (Frame.refl ..))))
  have hwrote : Wrote s u [evtOf (s.tbAt dt) (Unit.link k.val) 0x0E03 (if 8 ≤ e then 1 else 2) (if 8 ≤ e then e else b)] := Wrote.event_one (run_phase hrun)
  have hlinks : u.linkWatch.fab.links = vset s.fab.links k (LinkSt.fallen (s.advance dt).now) := by
    rw [hwatch, hfab]
    rfl
  have haddr : u.linkWatch.fab.addr = s.fab.addr ∧ u.linkWatch.fab.routes = s.fab.routes := by
    rw [hwatch, hfab]
    exact ⟨rfl, rfl⟩
  obtain ⟨honly, hk⟩ := OnlyLink.of_vset hlinks haddr.1 haddr.2
  refine ⟨_, exec_next_of hexec rfl, but_fab_stop hall (b := y) ?_, honly, ?_⟩
  · rw [hwatch, hmode]
  · refine ⟨congrArg LinkSt.state hk, congrArg LinkSt.downAt hk, congrArg LinkSt.downs hk, ?_⟩
    exact Wrote.settle (Wrote.next (Frame.linkWatch u) (by decide) hwrote)

theorem linkDownEnd_due {t : State} (hrun : s.running = true) (hstate : s.fab.links[k].state = .down) (hlong : s.fab.links[k].downAt + 1000000000 ≤ s.now) :
    (if s.running && s.fab.links[k].state == .down && decide (s.fab.links[k].downAt + 1000000000 ≤ s.now) then s.linkRestart k else t) = s.linkRestart k := by
  refine if_pos ?_
  rw [hrun, hstate, decide_eq_true hlong]
  rfl

theorem exec_linkDownEnd (hrun : s.running = true) (hstate : s.fab.links[k].state = .down)
    (hlong : s.fab.links[k].downAt + 1000000000 ≤ (s.advance dt).now) :
    ∃ t, exec (.linkDownEnd dt k) s = .next t ∧
      t.but s = { s.advance dt with fab := t.fab, mode := { s.mode with stop := t.mode.stop } } ∧ OnlyLink s t k ∧
      t.fab.links[k] = { s.fab.links[k] with state := .start, park := 0, rateTx := 10000000, bulkRx := none, t1 := none, reqAt := none } := by
  have hstep := linkDownEnd_due (s := s.advance dt) (k := k) (t := s.advance dt) hrun hstate (by rw [State.advance_fab]; exact hlong)
  obtain ⟨h1, h2, h3, -, b, h4⟩ := linkRestart_link (s.advance dt) k
  obtain ⟨honly, hk⟩ := OnlyLink.of_vset (s := s) h1 h2 h3
  have F := Frame.linkRestart (s.advance dt) k
  have hrecs : ((s.advance dt).linkRestart k).recs = s.recs := F.keep .recs (by decide)
  refine ⟨_, exec_next_of rfl hstep, ?_, honly, hk⟩
  have hbut := but_fab_stop (t := (s.advance dt).linkRestart k) (Frame.next F (by decide) (Frame.refl ..)) h4
  rw [hrecs] at hbut
  exact hbut

theorem linkSilent_due {f g : State → Host.Outcome State Fault Refusal} (hrun : s.running = true) (hstate : s.fab.links[k].state = .active)
    (hlong : s.fab.links[k].helloRx + 50000000 ≤ s.now) :
    (if s.running && s.fab.links[k].state == .active && decide (s.fab.links[k].helloRx + 50000000 ≤ s.now) then f s else g s) = f s := by
  refine if_pos ?_
  rw [hrun, hstate, decide_eq_true hlong]
  rfl

theorem exec_linkSilent (hrun : s.running = true) (hstate : s.fab.links[k].state = .active)
    (hlong : s.fab.links[k].helloRx + 50000000 ≤ (s.advance dt).now) :
    ∃ t, exec (.linkSilent dt k) s = .next t ∧
      t.but s = { s.advance dt with fab := t.fab, mode := { s.mode with stop := t.mode.stop }, recs := t.recs } ∧ OnlyLink s t k ∧
      t.fab.links[k] = { s.fab.links[k] with state := .start, park := 0, rateTx := 10000000, bulkRx := none, t1 := none, reqAt := none } ∧
      Wrote s t [evtOf (s.tbAt dt) (Unit.link k.val) 0x0E02 7 1] := by
  have hstep := linkSilent_due (s := s.advance dt) (k := k) (g := done)
    (f := fun s => done ((s.linkRestart k).event s.tb (Unit.link k) 0x0E02 7 1)) hrun hstate (by rw [State.advance_fab]; exact hlong)
  obtain ⟨h1, h2, h3, -, b, h4⟩ := linkRestart_link (s.advance dt) k
  have R := Frame.linkRestart (s.advance dt) k
  have htb : ((s.advance dt).linkRestart k).tb = s.tbAt dt := congrArg (·.tb) (R.keep .clk (by decide))
  have hphase : ((s.advance dt).linkRestart k).pwr = s.pwr := R.keep .pwr (by decide)
  have hregs : ((s.advance dt).linkRestart k).regs = s.regs := R.keep .regs (by decide)
  have hrecs : ((s.advance dt).linkRestart k).recs = s.recs := R.keep .recs (by decide)
  have F := Frame.event ((s.advance dt).linkRestart k) (s.tbAt dt) (Unit.link k) 0x0E02 7 1 0
  obtain ⟨honly, hk⟩ := OnlyLink.of_vset (s := s) (t := ((s.advance dt).linkRestart k).event (s.tbAt dt) (Unit.link k) 0x0E02 7 1)
    ((congrArg FabSt.links (F.keep .fab (by decide))).trans h1) ((congrArg FabSt.addr (F.keep .fab (by decide))).trans h2)
    ((congrArg FabSt.routes (F.keep .fab (by decide))).trans h3)
  refine ⟨_, exec_next_of hstep rfl, ?_, honly, hk, ?_⟩
  · exact but_fab_stop (Frame.next F (by decide) (Frame.next R (by decide) (Frame.refl ..))) ((F.keep .mode (by decide)).trans h4)
  · exact Wrote.event_one (run_phase hrun) hrecs hphase hregs

theorem fabricLoss_due {since : Nat} (hrun : s.running = true) (hnone : s.fab.noLink = some since) (hon : s.regs.DEV_MODE_CFG_FAB_LOSS = true)
    (hlong : since + 10000000 * s.regs.DEV_MODE_CFG_FAB_LOSS_T ≤ s.now) :
    (s.running && s.regs.DEV_MODE_CFG_FAB_LOSS && (match s.fab.noLink with
      | some t => decide (t + 10000000 * s.regs.DEV_MODE_CFG_FAB_LOSS_T ≤ s.now)
      | none => false)) = true := by
  rw [hrun, hon, hnone]
  exact decide_eq_true hlong

theorem exec_fabricLoss {since : Nat} (hrun : s.running = true) (hnone : s.fab.noLink = some since) (hon : s.regs.DEV_MODE_CFG_FAB_LOSS = true)
    (hlong : since + 10000000 * s.regs.DEV_MODE_CFG_FAB_LOSS_T ≤ (s.advance dt).now) :
    ∃ t, exec (.fabricLoss dt) s = .next t ∧ t.but s = { s.advance dt with mode := { s.mode with stop := s.mode.stop ||| 4#7 } } := by
  have hdue := fabricLoss_due (s := s.advance dt) hrun hnone hon (by rw [State.advance_regs]; exact hlong)
  have hstep : (if ((s.advance dt).running && (s.advance dt).regs.DEV_MODE_CFG_FAB_LOSS && (match (s.advance dt).fab.noLink with
      | some t => decide (t + 10000000 * (s.advance dt).regs.DEV_MODE_CFG_FAB_LOSS_T ≤ (s.advance dt).now)
      | none => false)) = true then (s.advance dt).setStop 2 true else s.advance dt) = (s.advance dt).setStop 2 true := if_pos hdue
  exact ⟨_, exec_next_of rfl hstep, rfl⟩

end

/-- Settles O39: a link's states, each with what its step leaves, and the loss of the fabric. -/
theorem linkStates : Obligations.LinkStates := by
  unfold Obligations.LinkStates
  intro s dt k hrun
  exact ⟨fun rate hstart hidle => exec_linkRun hrun hstart hidle, fun hstate hlong hidle => exec_helloSend hrun hstate hlong hidle,
    fun hstate hlong => exec_noHello hrun hstate hlong, fun e part hoff hdown hhere => exec_exchangeError hrun hoff hdown hhere,
    fun e b hoff hdown he hb hmany => exec_linkDown hrun hoff hdown he hb hmany, fun hstate hlong => exec_linkDownEnd hrun hstate hlong,
    fun hstate hlong => exec_linkSilent hrun hstate hlong, fun since hnone hon hlong => exec_fabricLoss hrun hnone hon hlong⟩

end Sys2Proof.Machine
end

section
/-! PROOF. What a sender writes: records of frames behind those written before, and nothing else of the records. -/
set_option Elab.async false

namespace Sys2Proof.Machine

/-- A step of the fabric's senders: supplies, registers and the address stand, and what is written comes behind what has been written. -/
structure FabWrote (s t : State) : Prop where
  pwr : t.pwr = s.pwr
  regs : t.regs = s.regs
  addr : t.fab.addr = s.fab.addr
  wrote : s.pwr.phase = .running → ∃ l, Wrote s t l

namespace FabWrote
variable {s t u : State}

theorem refl (s : State) : FabWrote s s := ⟨rfl, rfl, rfl, fun _ => ⟨[], Wrote.none s s rfl⟩⟩

theorem next {K : List StPart} (h : FabWrote s t) (F : Frame K t u) (hrecs : .recs ∉ K := by decide) (hpwr : .pwr ∉ K := by decide)
    (hregs : .regs ∉ K := by decide) (haddr : u.fab.addr = t.fab.addr := by rfl) : FabWrote s u where
  pwr := (F.keep .pwr hpwr).trans h.pwr
  regs := (F.keep .regs hregs).trans h.regs
  addr := haddr.trans h.addr
  wrote hr := let ⟨l, hl⟩ := h.wrote hr
    ⟨l, hl.next F hrecs⟩

theorem ite {c : Prop} [Decidable c] (h : FabWrote s t) (k : FabWrote s u) : FabWrote s (if c then t else u) := by
  split
  · exact h
  · exact k

theorem foldl {β : Type} {l : List β} {g : State → β → State} (h : FabWrote s t) (k : ∀ x b, FabWrote s x → FabWrote s (g x b)) :
    FabWrote s (l.foldl g t) := by
  induction l generalizing t with
  | nil => exact h
  | cons b l ih => exact ih (k t b h)

theorem foldlSnd {α β : Type} {l : List β} {p : α × State} {g : α × State → β → α × State} (h : FabWrote s p.2)
    (k : ∀ x b, FabWrote s x.2 → FabWrote s (g x b).2) : FabWrote s (l.foldl g p).2 := by
  induction l generalizing p with
  | nil => exact h
  | cons b l ih => exact ih (k p b h)

theorem emit (h : FabWrote s t) (time unit typ flags : Nat) (p : List Byte) : FabWrote s (t.emit time unit typ flags p) where
  pwr := ((Frame.emit t time unit typ flags p).keep .pwr (by decide)).trans h.pwr
  regs := ((Frame.emit t time unit typ flags p).keep .regs (by decide)).trans h.regs
  addr := (congrArg FabSt.addr ((Frame.emit t time unit typ flags p).keep .fab (by decide))).trans h.addr
  wrote hr := let ⟨_, hl⟩ := h.wrote hr
    ⟨_, Wrote.emit s t _ _ hl (by rw [h.pwr]; exact hr) h.regs time unit typ flags p rfl⟩

theorem frameFab (h : FabWrote s t) (time k : Nat) (sent : Bool) (bytes : List Byte) : FabWrote s (t.frameFab time k sent bytes) := by
  unfold State.frameFab
  split
  · exact ite (h.emit ..) h
  · exact h

theorem linkPut (h : FabWrote s t) (k : Fin 6) (bulk eep : Bool) (bytes : List Byte) (now : Nat) : FabWrote s (t.linkPut k bulk eep bytes now) := by
  unfold State.linkPut
  dsimp only
  exact ite ((h.frameFab ..).next (Frame.onFab ..)) ((h.frameFab ..).next (Frame.onFab ..))

theorem leaves (h : FabWrote s t) (bulk : Bool) (w : WaitPkt) : FabWrote s (t.leaves bulk w).2 := by
  unfold State.leaves
  refine h.foldlSnd fun _ _ hx => ?_
  extract_lets +onlyGivenNames _ _
  split
  · exact hx.linkPut ..
  · exact hx

theorem waitDrain (h : FabWrote s t) : FabWrote s t.waitDrain := by
  unfold State.waitDrain
  refine h.foldl fun _ _ hx => ?_
  refine hx.foldl fun _ _ hy => ?_
  split
  · exact hy
  · exact (hy.leaves ..).next (Frame.putWait ..)

theorem linkSend (h : FabWrote s t) (k : Nat) (bulk : Bool) (bytes : List Byte) : FabWrote s (t.linkSend k bulk bytes) :=
  ite (h.waitDrain.linkPut ..) h.waitDrain

theorem fabBroadcast (h : FabWrote s t) (typ : Nat) (payload : List Byte) : FabWrote s (t.fabBroadcast typ payload).1 := by
  unfold State.fabBroadcast
  dsimp only
  exact ((h.waitDrain.next (Frame.fabSeq ..)).next (Frame.onFab ..)).foldl fun _ _ hx => ite (hx.linkSend ..) hx

end FabWrote

end Sys2Proof.Machine
end

section
/-! PROOF. Freeze triggers (R479 to R483): the reasons of a refusal in their order, a pin, the TAP, and a trigger of fabric scope. -/
set_option Elab.async false

namespace Sys2Proof.Machine

theorem Frame.commandSend (t : State) (code at' arg : Nat) : Frame [.recs, .fab] t (State.commandSend t code at' arg).1 := Frame.fabBroadcast ..

section
variable {s : State} {dt : Nat}

/-- The reason of a refusal is the first that applies. -/
theorem frzReason_cases {src : Nat} {maint : Bool} (h1 : 1 ≤ src) (h5 : src ≤ 5) :
    let on : Bool := if src = 1 then s.regs.FRZ_CFG_PIN_EN else if src = 5 then s.regs.FRZ_CFG_TAP_EN else if src = 4 then s.regs.FRZ_CFG_FAB_ACCEPT else s.regs.FRZ_CFG_JCP_EN
    s.frzReason src maint = if on = false then 1 else if s.regs.FRZ_CFG_MODES.testBit (s.mode.mode.code - 2) = false then 2
      else if src = 1 ∧ s.regs.FRZ_CFG_PIN_MAINT = true ∧ maint = false then 3
      else if (src = 3 ∨ (src = 1 ∧ s.regs.FRZ_CFG_PIN_SCOPE = true)) ∧ s.regs.FRZ_CFG_FAB_ORIG = false then 4 else 0 := by
  intro on
  obtain rfl | rfl | rfl | rfl | rfl : src = 1 ∨ src = 2 ∨ src = 3 ∨ src = 4 ∨ src = 5 := by omega
  all_goals simp [on, State.frzReason, State.frzWide]

theorem frzPend_eq (s : State) (t : FrzTrig) :
    s.frzPend t = s.onFrz (fun f => { f with pending := some (match f.pending with | some p => if t.at' < p.at' then t else p | none => t) }) := by
  unfold State.frzPend State.onFrz
  dsimp only
  cases s.frz.pending with
  | none => rfl
  | some p => exact congrArg (fun x => ({ s with frz := { s.frz with pending := x } } : State)) (apply_ite some ..).symm

/-- What a pin or the TAP does to the controller, before its trigger is judged. -/
def FrzSt.touched (src : Nat) (f : FrzSt) : FrzSt := if src = 1 then { f with pinLow := false } else { f with pos := 0, tapUsed := true }

/-- A trigger of a pin or of the TAP: the instruction judges it on a controller that the pin or the instruction has touched. -/
theorem exec_trigger {c : Instr} {src cause stamp : Nat} {maint : Bool} (hrun : s.running = true)
    (hc : (c = .freezePin dt maint ∧ src = 1 ∧ cause = 0 ∧ stamp = s.tbAt dt - nsOf s.regs.FRZ_PIN_FILT) ∨
      (∃ w : BitVec 16, c = .frzTrig dt w ∧ src = 5 ∧ cause = w.toNat ∧ stamp = s.tbAt dt)) :
    ∃ maint' : Bool, (src = 1 ∧ maint' = maint ∨ src = 5) ∧
      exec c s = done (((s.advance dt).onFrz (FrzSt.touched src)).frzLocal src cause stamp (s.tbAt dt) maint').1 := by
  rcases hc with ⟨rfl, rfl, rfl, rfl⟩ | ⟨w, rfl, rfl, rfl, rfl⟩
  · refine ⟨maint, .inl ⟨rfl, rfl⟩, ?_⟩
    have hgate : (!(s.advance dt).running) = false := by rw [show (s.advance dt).running = true from hrun]; rfl
    show done ((s.advance dt).freezePin maint) = _
    unfold State.freezePin
    rw [hgate, if_neg Bool.false_ne_true]
    rfl
  · refine ⟨false, .inr rfl, ?_⟩
    have hgate : ((s.advance dt).onFrz (fun x => { x with pos := 0, tapUsed := true })).running = true := hrun
    show done ((s.advance dt).frzTrig w.toNat) = _
    unfold State.frzTrig
    dsimp only
    rw [if_pos hgate]
    rfl

theorem frzReason_tap (a b : Bool) : s.frzReason 5 a = s.frzReason 5 b := rfl

theorem trigger_local {src cause stamp t : Nat} {maint : Bool} (hreason : s.frzReason src maint = 0) (hlocal : s.frzWide src = false) :
    ((s.onFrz (FrzSt.touched src)).frzLocal src cause stamp t maint).1 = s.onFrz (fun f => { FrzSt.touched src f with
      pending := some (match s.frz.pending with
        | some p => if t < p.at' then { at' := t, stamp := stamp, cause := cause, source := src, origin := s.fab.addr.getD 0x40 } else p
        | none => { at' := t, stamp := stamp, cause := cause, source := src, origin := s.fab.addr.getD 0x40 }) }) := by
  have hpend : (FrzSt.touched src s.frz).pending = s.frz.pending := by
    unfold FrzSt.touched
    split
    · rfl
    · rfl
  rw [frzLocal_permitted (s := s.onFrz (FrzSt.touched src)) hreason hlocal, frzPend_eq]
  unfold State.onFrz
  dsimp only
  rw [hpend]
  rfl

/-- A record of the freeze controller comes behind what has been written. -/
theorem Wrote.freezeRec {t : State} {l : List Shown} {time code cause source b5 slot origin at' late bytes : Nat} (h : Wrote s t l)
    (hr : t.pwr.phase = .running) (hg : t.regs = s.regs) :
    Wrote s (t.freezeRec time code cause source b5 slot origin at' late bytes) (l ++ [frzOf time code cause source b5 slot origin at' late bytes]) :=
  Wrote.emit s t _ l h hr hg _ _ _ _ _ rfl

theorem trigger_refused {src cause stamp t : Nat} {maint : Bool} (hrun : s.running = true) (hreason : s.frzReason src maint ≠ 0) :
    let u := ((s.onFrz (FrzSt.touched src)).frzLocal src cause stamp t maint).1
    (Frame [.recs, .freeIx] (s.onFrz fun f => { FrzSt.touched src f with lastRefuse := s.frzReason src maint, refused := satInc 16 f.refused }) u) ∧
    ∃ v, Wrote s u [frzOf stamp 0x1302 cause src (s.frzReason src maint) 0xFF (s.fab.addr.getD 0x40) v 0 0] := by
  intro u
  have hu : u = (s.onFrz (FrzSt.touched src)).frzRefuse src cause stamp (s.frzReason src maint) none (s.fab.addr.getD 0x40) :=
    congrArg Prod.fst (frzLocal_refused (s := s.onFrz (FrzSt.touched src)) hreason)
  have hrefused : (FrzSt.touched src s.frz).refused = s.frz.refused := by
    unfold FrzSt.touched
    split
    · rfl
    · rfl
  refine ⟨?_, ?_⟩
  · have F := frzRefuse_frame (s.onFrz (FrzSt.touched src)) src cause stamp (s.frzReason src maint) none (s.fab.addr.getD 0x40)
    rw [← hu] at F
    have hstart : (s.onFrz (FrzSt.touched src)).onFrz (fun f => { f with lastRefuse := s.frzReason src maint, refused := satInc 16 f.refused }) =
        s.onFrz (fun f => { FrzSt.touched src f with lastRefuse := s.frzReason src maint, refused := satInc 16 f.refused }) := by
      unfold State.onFrz
      dsimp only
      rw [hrefused]
    rw [hstart] at F
    exact F
  · rw [hu]
    unfold State.frzRefuse
    extract_lets lo hi s1
    have hs1 : s1 = hi.2 := if_neg Bool.false_ne_true
    rw [hs1]
    exact ⟨_, Wrote.freezeRec (l := []) (Wrote.none s _ rfl) (run_phase hrun) rfl⟩

theorem exec_triggers {c : Instr} {src cause stamp : Nat} {maint : Bool} (hrun : s.running = true)
    (hc : (c = .freezePin dt maint ∧ src = 1 ∧ cause = 0 ∧ stamp = s.tbAt dt - nsOf s.regs.FRZ_PIN_FILT) ∨
      (∃ w : BitVec 16, c = .frzTrig dt w ∧ src = 5 ∧ cause = w.toNat ∧ stamp = s.tbAt dt)) :
    let trig : FrzTrig := { at' := s.tbAt dt, stamp := stamp, cause := cause, source := src, origin := s.fab.addr.getD 0x40 }
    (s.frzReason src maint = 0 → src = 5 ∨ s.regs.FRZ_CFG_PIN_SCOPE = false → ∃ t, exec c s = .next t ∧
      t.but s = { s.advance dt with frz := { FrzSt.touched src s.frz with pending := some (match s.frz.pending with
        | some p => if s.tbAt dt < p.at' then trig else p
        | none => trig) } }) ∧
    (s.frzReason src maint ≠ 0 → ∃ (t : State) (v : Nat), exec c s = .next t ∧
      t.but s = { s.advance dt with
        frz := { FrzSt.touched src s.frz with lastRefuse := s.frzReason src maint, refused := satInc 16 s.frz.refused }, recs := t.recs, freeIx := t.freeIx } ∧
      Wrote s t [frzOf stamp 0x1302 cause src (s.frzReason src maint) 0xFF (s.fab.addr.getD 0x40) v 0 0]) := by
  intro trig
  obtain ⟨maint', hmaint, hexec⟩ := exec_trigger hrun hc
  have hsame : (s.advance dt).frzReason src maint' = s.frzReason src maint := by
    rcases hmaint with ⟨-, h⟩ | h
    · rw [h]
      rfl
    · rw [h]
      rfl
  refine ⟨fun hreason hscope => ?_, fun hreason => ?_⟩
  · have hlocal : (s.advance dt).frzWide src = false := by
      have hsrc : src = 1 ∨ src = 5 := hmaint.imp And.left id
      unfold State.frzWide
      rw [State.advance_regs]
      rcases hscope with h | h
      · rw [h]
        rfl
      · rw [h]
        rcases hsrc with h | h
        · rw [h]
          rfl
        · rw [h]
          rfl
    have hstep := trigger_local (s := s.advance dt) (cause := cause) (stamp := stamp) (t := s.tbAt dt) (hsame.trans hreason) hlocal
    exact ⟨_, exec_next_of hexec hstep, rfl⟩
  · obtain ⟨F, v, hv⟩ := trigger_refused (s := s.advance dt) (cause := cause) (stamp := stamp) (t := s.tbAt dt) (maint := maint') hrun
      (by rw [hsame]; exact hreason)
    rw [hsame] at F hv
    refine ⟨_, v, exec_next_of hexec rfl, ?_, hv⟩
    generalize (((s.advance dt).onFrz (FrzSt.touched src)).frzLocal src cause stamp (s.tbAt dt) maint').1 = u at F ⊢
    rw [F.eq_merge]
    rfl

/-! ## A trigger of fabric scope -/

/-- The state of a trigger of fabric scope that has been sent and recorded. -/
def State.frzSent (s : State) (src cause stamp : Nat) : State :=
  (s.commandSend 1 s.leadInstant cause).1.freezeRec stamp 0x1303 cause src 0 0xFF s.frzAddr s.leadInstant 0 0

theorem Frame.frzSent (s : State) (src cause stamp : Nat) : Frame [.recs, .fab] s (s.frzSent src cause stamp) :=
  Frame.next (Frame.freezeRec ..) (by decide) (Frame.commandSend ..)

theorem frzSent_wrote {src cause stamp : Nat} (hr : s.pwr.phase = .running) :
    ∃ l, Wrote s (s.frzSent src cause stamp) (l ++ [frzOf stamp 0x1303 cause src 0 0xFF s.frzAddr s.leadInstant 0 0]) := by
  have h : FabWrote s (s.commandSend 1 s.leadInstant cause).1 := (FabWrote.refl s).fabBroadcast ..
  obtain ⟨l, hl⟩ := h.wrote hr
  exact ⟨l, hl.freezeRec (by rw [h.pwr]; exact hr) h.regs⟩

theorem frzLocal_wide {src cause stamp t : Nat} {maint : Bool} (hreason : s.frzReason src maint = 0) (hwide : s.frzWide src = true) :
    s.frzLocal src cause stamp t maint = ((s.frzSent src cause stamp).frzPend
      { at' := s.leadInstant, stamp := stamp, cause := cause, source := src, origin := (s.frzSent src cause stamp).frzAddr }, 0) := by
  unfold State.frzLocal
  dsimp only
  rw [hreason, if_neg (not_not.2 rfl), if_pos hwide]
  rfl

/-- A trigger of fabric scope on a controller on which none waits: it is sent, recorded, and waits for its instant. -/
theorem trigger_wide {src cause stamp t : Nat} {maint : Bool} (hreason : s.frzReason src maint = 0) (hwide : s.frzWide src = true)
    (hnone : s.frz.pending = none) :
    (s.frzLocal src cause stamp t maint).1 = (s.frzSent src cause stamp).onFrz (fun f => { f with
      pending := some { at' := s.leadInstant, stamp := stamp, cause := cause, source := src, origin := s.frzAddr } }) := by
  have F := Frame.frzSent s src cause stamp
  have haddr : (s.frzSent src cause stamp).frzAddr = s.frzAddr := by
    have h : FabWrote s (s.commandSend 1 s.leadInstant cause).1 := (FabWrote.refl s).fabBroadcast ..
    have hfab : (s.frzSent src cause stamp).fab = (s.commandSend 1 s.leadInstant cause).1.fab := (Frame.freezeRec ..).keep .fab (by decide)
    unfold State.frzAddr
    rw [hfab, h.addr]
  have hpend : (s.frzSent src cause stamp).frz.pending = none := by
    rw [F.keep .frz (by decide)]
    exact hnone
  rw [frzLocal_wide hreason hwide, frzPend_eq, haddr]
  generalize s.frzSent src cause stamp = u at hpend ⊢
  unfold State.onFrz
  dsimp only
  rw [hpend]

theorem exec_widePin {maint : Bool} (hrun : s.running = true) (hreason : s.frzReason 1 maint = 0) (hscope : s.regs.FRZ_CFG_PIN_SCOPE = true)
    (hnone : s.frz.pending = none) :
    let at' : Nat := s.tbAt dt + nsOf s.regs.FAB_CMD_LEAD
    ∃ (t : State) (l : List Shown), exec (.freezePin dt maint) s = .next t ∧ t.but s = { s.advance dt with fab := t.fab, frz := t.frz, recs := t.recs } ∧
      t.frz = { s.frz with
        pinLow := false
        pending := some { at' := at', stamp := s.tbAt dt - nsOf s.regs.FRZ_PIN_FILT, cause := 0, source := 1, origin := s.fab.addr.getD 0x40 } } ∧
      Wrote s t (l ++ [frzOf (s.tbAt dt - nsOf s.regs.FRZ_PIN_FILT) 0x1303 0 1 0 0xFF (s.fab.addr.getD 0x40) at' 0 0]) := by
  intro at'
  let stamp := s.tbAt dt - nsOf s.regs.FRZ_PIN_FILT
  let v := (s.advance dt).onFrz (FrzSt.touched 1)
  obtain ⟨maint', hmaint, hexec⟩ := exec_trigger (dt := dt) (c := .freezePin dt maint) (maint := maint) hrun (.inl ⟨rfl, rfl, rfl, rfl⟩)
  have hmaint' : maint' = maint := by
    rcases hmaint with ⟨-, h⟩ | h
    · exact h
    · cases h
  subst hmaint'
  have hwide : v.frzWide 1 = true := by
    unfold State.frzWide
    rw [show v.regs.FRZ_CFG_PIN_SCOPE = true from hscope]
    rfl
  have hnone' : v.frz.pending = none := hnone
  have hstep := trigger_wide (s := v) (src := 1) (cause := 0) (stamp := stamp) (t := s.tbAt dt) (maint := maint') hreason hwide hnone'
  have F := Frame.frzSent v 1 0 stamp
  obtain ⟨l, hl⟩ := frzSent_wrote (s := v) (src := 1) (cause := 0) (stamp := stamp) (run_phase hrun)
  have hfrz : (v.frzSent 1 0 stamp).frz = FrzSt.touched 1 s.frz := F.keep .frz (by decide)
  have hlead : v.leadInstant = at' := rfl
  have haddr : v.frzAddr = s.fab.addr.getD 0x40 := rfl
  rw [hlead, haddr] at hstep hl
  have hnext := exec_next_of hexec hstep
  generalize v.frzSent 1 0 stamp = u at F hfrz hl hnext
  generalize at' = x at hl hnext ⊢
  refine ⟨_, l, hnext, ?_, ?_, hl⟩
  · rw [F.eq_merge]
    rfl
  · show ({ u.frz with pending := _ } : FrzSt) = _
    rw [hfrz]
    rfl

end

/-- Settles O54: a trigger is refused by its first reason, waits where it is permitted, and goes out where its scope is the fabric. -/
theorem freezeTriggers : Obligations.FreezeTriggers := by
  unfold Obligations.FreezeTriggers
  intro s dt
  refine ⟨fun src maint h1 h5 => ?_, fun hrun c src cause stamp maint hc => ?_, fun maint hrun hreason hscope hnone => exec_widePin hrun hreason hscope hnone⟩
  · intro on modeOk low wide
    have hcases := frzReason_cases (s := s) (maint := maint) h1 h5
    refine ⟨fun h => ?_, fun h g => ?_, fun h g k => ?_, fun h g k j => ?_, fun h g k j => ?_⟩
    · exact hcases.trans (if_pos h)
    · exact hcases.trans ((if_neg (ne_false_of_eq_true h)).trans (if_pos g))
    · exact hcases.trans ((if_neg (ne_false_of_eq_true h)).trans ((if_neg (ne_false_of_eq_true g)).trans (if_pos k)))
    · exact hcases.trans ((if_neg (ne_false_of_eq_true h)).trans ((if_neg (ne_false_of_eq_true g)).trans ((if_neg k).trans (if_pos j))))
    · exact hcases.trans ((if_neg (ne_false_of_eq_true h)).trans ((if_neg (ne_false_of_eq_true g)).trans ((if_neg k).trans (if_neg j))))
  · intro addr base trig
    obtain ⟨hpermitted, hrefused⟩ := exec_triggers hrun hc
    refine ⟨fun hreason hscope hnone => ?_, fun p hreason hscope hsome => ?_, hrefused⟩
    · obtain ⟨t, hexec, hbut⟩ := hpermitted hreason hscope
      rw [hnone] at hbut
      exact ⟨t, hexec, hbut⟩
    · obtain ⟨t, hexec, hbut⟩ := hpermitted hreason hscope
      rw [hsome] at hbut
      exact ⟨t, hexec, hbut⟩

end Sys2Proof.Machine
end

section
/-! PROOF. A HELLO on which the device sends its JOIN first lets the packets that wait at its inputs go (R372): the other links do not stand. -/
set_option Elab.async false

namespace Sys2Proof.Machine

/-- A HELLO of a partner with address 1, on its link 0 of a hypercube. -/
def helloOf1 : List Byte := (List.range 32).map (fun i => if i = 10 then 1 else 0)

/-- A device without an address: link 0 is in HELLO, and a packet waits at the input of link 1 with no link left to go to. -/
def waitingAt1 : State :=
  (Tests.rig .drive).onFab (fun x => { x with
    addr := none, excess := false, joinAt := none
    links := vset (vset x.links 0 (fun _ => { state := .hello })) 1 (fun _ => { state := .active, urgIn := some { at' := 0, bytes := [], links := [] } }) })

/-- Whether a packet waits at the input of link 1 after a command. -/
def waitsAt1After (c : Instr) (s : State) : Bool :=
  match exec c s with
  | .next t => t.fab.links[(1 : Fin 6)].urgIn.isSome
  | _ => false

theorem waitsAt1After_next {c : Instr} {s t : State} (h : exec c s = .next t) : waitsAt1After c s = t.fab.links[(1 : Fin 6)].urgIn.isSome := by
  rw [waitsAt1After, h]

theorem waitsAt1After_hello : waitsAt1After (.helloReceived 0 0 helloOf1) waitingAt1 = false := by decide +kernel

/-- Refutes O40: a HELLO whose partner has an address, where no JOIN is out yet, sends the JOIN, and a packet that waits at another link's input
leaves before it. The clause asks of every such state that the other links stand as they were. -/
theorem not_joiningTheFabric : ¬ Obligations.JoiningTheFabric := by
  intro h
  obtain ⟨hhello, -⟩ := h waitingAt1 0 0 (by decide +kernel)
  obtain ⟨hjoined, -⟩ := hhello helloOf1 (by decide +kernel)
  obtain ⟨t, hexec, -, honly, -⟩ := hjoined (by decide +kernel) (by decide +kernel) (by decide +kernel) (by decide +kernel)
  have hwaits := waitsAt1After_next hexec
  rw [waitsAt1After_hello, honly.1 1 (by decide)] at hwaits
  exact absurd hwaits (by decide +kernel)

end Sys2Proof.Machine
end

section
/-! PROOF. Routes and time (R379 to R387): route tables, fabric-wide commands, and the synchronisation of a device. -/
set_option Elab.async false

namespace Sys2Proof.Machine

section
variable {s t u : State} {k : Fin 6} {dt : Nat}

/-! ## A message that comes over the fabric -/

/-- A state in which a message is taken: the records and the free values alone differ from the advanced state. -/
structure Row (s : State) (dt bit : Nat) (u : State) : Prop where
  frame : Frame [.recs, .freeIx] (s.advance dt) u
  wrote : s.pwr.phase = .running → WroteAfterFrame s u bit []

namespace Row
variable {c : Nat}

theorem fab (h : Row s dt c u) : u.fab = s.fab := h.frame.keep .fab (by decide)
theorem regs (h : Row s dt c u) : u.regs = s.regs := h.frame.keep .regs (by decide)
theorem clk (h : Row s dt c u) : u.clk = (s.advance dt).clk := h.frame.keep .clk (by decide)
theorem tb (h : Row s dt c u) : u.tb = s.tbAt dt := congrArg (·.tb) h.clk
theorem now (h : Row s dt c u) : u.now = (s.advance dt).now := congrArg (·.now) h.clk
theorem mode (h : Row s dt c u) : u.mode = s.mode := h.frame.keep .mode (by decide)
theorem pwr (h : Row s dt c u) : u.pwr = s.pwr := h.frame.keep .pwr (by decide)
theorem tbs (h : Row s dt c u) : u.tbs = s.tbs := h.frame.keep .tbs (by decide)

theorem phase (h : Row s dt c u) (hrun : s.running = true) : u.pwr.phase = .running := by
  rw [h.pwr]
  exact run_phase hrun

theorem linkIdle (h : Row s dt c u) {j : Fin 6} (hidle : s.linkIdle j) : u.linkIdle j := by
  have hadv := hidle.advance dt
  unfold State.linkIdle at hadv ⊢
  rw [h.fab, h.now]
  exact hadv

theorem frameRow (s : State) (dt : Nat) {link seq : Option Nat} {bcast : Bool} {dst src typ len : Nat} (hb : fabSelBit typ = some c) :
    Row s dt c ((s.advance dt).frameRow link seq bcast dst src typ len) := ⟨Frame.frameRow .., fun hr => frameRow_wrote (s := s.advance dt) hr hb⟩

theorem same (s : State) (dt : Nat) : Row s dt c (s.advance dt) := ⟨Frame.refl .., fun _ => ⟨[], Wrote.none _ _ rfl, by simp, by simp, fun _ => rfl⟩⟩

theorem ite {a : Prop} [Decidable a] {v : State} (h : Row s dt c u) (k : Row s dt c v) : Row s dt c (if a then u else v) := by
  split
  · exact h
  · exact k

end Row

theorem Row.frameFrom (s : State) (dt : Nat) (k : Fin 6) {typ len c : Nat} (hb : fabSelBit typ = some c) :
    Row s dt c ((s.advance dt).frameFrom k typ len) := .ite (.frameRow s dt hb) (.same s dt)

theorem joinFlush_notDue (h : s.fab.joinDue = false) : s.joinFlush = s := by
  unfold State.joinFlush
  split
  · exact if_neg (by rw [h]; exact Bool.false_ne_true)
  · rfl

/-! ## Route tables and fabric-wide commands -/

theorem Row.broadcast (s : State) (dt src seq : Nat) : Row s dt 3 ((s.advance dt).frameRow none (some seq) true 0 src 7 48) := .frameRow s dt (by decide)

theorem exec_routesReceived {b : List Byte} (hrun : s.running = true) (hlen : b.length = 66) :
    ∃ t, exec (.routesReceived dt b) s = .next t ∧ t.but s = { s.advance dt with
      fab := { s.fab with tblNext := s.fab.tblNext.filter (fun x => x.1 != leAt b 0 2) ++ [(leAt b 0 2, (b.drop 2).map (fun y => min y.toNat 7))] }
      recs := t.recs, freeIx := t.freeIx } ∧
    WroteAfterFrame s t 1 [] := by
  have hrow : Row s dt 1 ((s.advance dt).frameRow none none false ((s.advance dt).fab.addr.getD 0) 0 4 66) := .frameRow s dt (by decide)
  have hexec : exec (.routesReceived dt b) s = done (((s.advance dt).frameRow none none false ((s.advance dt).fab.addr.getD 0) 0 4 66).routesIn b) :=
    congrArg done (if_pos ⟨hrun, hlen⟩)
  generalize (s.advance dt).frameRow none none false ((s.advance dt).fab.addr.getD 0) 0 4 66 = u at hrow hexec
  refine ⟨_, exec_next_of hexec rfl, ?_, ((hrow.wrote (run_phase hrun)).of_outbox rfl)⟩
  show (u.tableKeep _ _).settle.but s = _
  unfold State.tableKeep
  rw [hrow.frame.eq_merge]
  rfl

/-- The broadcasts delivered, with one more. -/
def FabSt.sees (f : FabSt) (src seq : Nat) : FabSt := { f with seen := ((src, 7, seq) :: f.seen).take 1024 }

theorem exec_broadcast {f : State → State} {c : Instr} {src seq : Nat} (hrun : s.running = true)
    (hexec : exec c s = done (if (s.advance dt).running then f ((s.advance dt).frameRow none (some seq) true 0 src 7 48) else s.advance dt)) :
    ∃ u, Row s dt 3 u ∧ exec c s = done (f u) := ⟨_, Row.broadcast s dt src seq, hexec.trans (congrArg done (if_pos hrun))⟩

theorem exec_routesApply {src : BitVec 6} {seq ver : BitVec 16} {at' : Nat} (hrun : s.running = true) :
    (s.fab.seen.contains (src.toNat, 7, seq.toNat) = false → ∃ t, exec (.routesApply dt src seq at' ver) s = .next t ∧ t.but s = { s.advance dt with
      fab := { s.fab.sees src.toNat seq.toNat with applyAt := s.fab.applyAt ++ [(at', ver.toNat)] }, recs := t.recs, freeIx := t.freeIx } ∧
      WroteAfterFrame s t 3 []) ∧
    (s.fab.seen.contains (src.toNat, 7, seq.toNat) = true → ∃ t, exec (.routesApply dt src seq at' ver) s = .next t ∧ t.but s = { s.advance dt with
      fab := s.fab.sees src.toNat seq.toNat, recs := t.recs, freeIx := t.freeIx }) := by
  obtain ⟨u, hrow, hexec⟩ := exec_broadcast (c := .routesApply dt src seq at' ver) (dt := dt) (f := fun u => u.routesApply src.toNat seq.toNat at' ver.toNat)
    (src := src.toNat) (seq := seq.toNat) hrun rfl
  refine ⟨fun hnew => ?_, fun hold => ?_⟩
  · have hstep : u.routesApply src.toNat seq.toNat at' ver.toNat =
        u.onFab (fun x => { x.sees src.toNat seq.toNat with applyAt := x.applyAt ++ [(at', ver.toNat)] }) :=
      if_neg (show ¬u.fab.seen.contains (src.toNat, 7, seq.toNat) = true by rw [hrow.fab, hnew]; exact Bool.false_ne_true)
    refine ⟨_, exec_next_of hexec hstep, ?_, (hrow.wrote (run_phase hrun)).of_outbox rfl⟩
    rw [hrow.frame.eq_merge]
    rfl
  · have hstep : u.routesApply src.toNat seq.toNat at' ver.toNat = u.onFab (fun x => x.sees src.toNat seq.toNat) :=
      if_pos (show u.fab.seen.contains (src.toNat, 7, seq.toNat) = true by rw [hrow.fab, hold])
    refine ⟨_, exec_next_of hexec hstep, ?_⟩
    rw [hrow.frame.eq_merge]
    rfl

theorem frzReason_congr (hregs : t.regs = s.regs) (hmode : t.mode = s.mode) (src : Nat) (maint : Bool) : t.frzReason src maint = s.frzReason src maint := by
  unfold State.frzReason State.frzWide
  rw [hregs, hmode]

theorem freezeAt_cases {src seq at' cause : Nat} :
    (s.fab.seen.contains (src, 7, seq) = true → s.freezeAt src seq at' cause = s.onFab (fun x => x.sees src seq)) ∧
    (s.fab.seen.contains (src, 7, seq) = false → s.frzReason 4 false ≠ 0 → s.freezeAt src seq at' cause =
      (s.onFab (fun x => x.sees src seq)).frzRefuse 4 cause at' (s.frzReason 4 false) (some at') src) ∧
    (s.fab.seen.contains (src, 7, seq) = false → s.frzReason 4 false = 0 → s.freezeAt src seq at' cause =
      (s.onFab (fun x => x.sees src seq)).frzPend { at' := max at' s.tb, stamp := at', cause := cause, source := 4, origin := src }) := by
  refine ⟨fun h => if_pos h, fun h hr => ?_, fun h hr => ?_⟩
  · exact (if_neg (by rw [State.fabSeen, h]; exact Bool.false_ne_true)).trans (if_pos hr)
  · exact (if_neg (by rw [State.fabSeen, h]; exact Bool.false_ne_true)).trans (if_neg (not_not.2 hr))

theorem exec_freezeAt {src : BitVec 6} {seq ver : BitVec 16} {at' : Nat} (hrun : s.running = true) :
    (s.fab.seen.contains (src.toNat, 7, seq.toNat) = false →
      (s.frzReason 4 false = 0 → s.frz.pending = none → ∃ t, exec (.freezeAt dt src seq at' ver) s = .next t ∧ t.but s = { s.advance dt with
        fab := s.fab.sees src.toNat seq.toNat, recs := t.recs, freeIx := t.freeIx
        frz := { s.frz with pending := some { at' := max at' (s.tbAt dt), stamp := at', cause := ver.toNat, source := 4, origin := src.toNat } } }) ∧
      (s.frzReason 4 false ≠ 0 → ∃ t, exec (.freezeAt dt src seq at' ver) s = .next t ∧ t.but s = { s.advance dt with
        fab := s.fab.sees src.toNat seq.toNat, recs := t.recs, freeIx := t.freeIx
        frz := { s.frz with lastRefuse := s.frzReason 4 false, refused := satInc 16 s.frz.refused } })) ∧
    (s.fab.seen.contains (src.toNat, 7, seq.toNat) = true → ∃ t, exec (.freezeAt dt src seq at' ver) s = .next t ∧ t.but s = { s.advance dt with
      fab := s.fab.sees src.toNat seq.toNat, recs := t.recs, freeIx := t.freeIx }) := by
  obtain ⟨u, hrow, hexec⟩ := exec_broadcast (c := .freezeAt dt src seq at' ver) (dt := dt) (f := fun u => u.freezeAt src.toNat seq.toNat at' ver.toNat)
    (src := src.toNat) (seq := seq.toNat) hrun rfl
  obtain ⟨hold, hrefused, hpermitted⟩ := freezeAt_cases (s := u) (src := src.toNat) (seq := seq.toNat) (at' := at') (cause := ver.toNat)
  have hreason := frzReason_congr hrow.regs hrow.mode 4 false
  rw [hrow.fab] at hold
  rw [hrow.fab, hreason] at hrefused hpermitted
  refine ⟨fun hnew => ⟨fun hr hnone => ?_, fun hr => ?_⟩, fun hseen => ?_⟩
  · have hstep := hpermitted hnew hr
    have hfrz : u.frz = s.frz := hrow.frame.keep .frz (by decide)
    have hpend (p : FrzTrig) : (u.onFab (fun x => x.sees src.toNat seq.toNat)).frzPend p =
        (u.onFab (fun x => x.sees src.toNat seq.toNat)).onFrz (fun f => { f with pending := some p }) := by
      rw [frzPend_eq]
      unfold State.onFrz State.onFab
      dsimp only
      rw [hfrz, hnone]
    rw [hpend, hrow.tb] at hstep
    refine ⟨_, exec_next_of hexec hstep, ?_⟩
    rw [hrow.frame.eq_merge]
    rfl
  · have hstep := hrefused hnew hr
    have F := frzRefuse_frame (u.onFab (fun x => x.sees src.toNat seq.toNat)) 4 ver.toNat at' (s.frzReason 4 false) (some at') src.toNat
    refine ⟨_, exec_next_of hexec hstep, ?_⟩
    generalize (u.onFab (fun x => x.sees src.toNat seq.toNat)).frzRefuse 4 ver.toNat at' (s.frzReason 4 false) (some at') src.toNat = v at F ⊢
    rw [F.eq_merge, hrow.frame.eq_merge]
    rfl
  · refine ⟨_, exec_next_of hexec (hold hseen), ?_⟩
    rw [hrow.frame.eq_merge]
    rfl

/-- A route table that comes into force. -/
def FabSt.routed (f : FabSt) (ver : Nat) (tab : List Nat) : FabSt :=
  { f with tblVer := ver, tblNext := f.tblNext.filter (fun t => decide (ver < t.1)), routes := Vector.ofFn (fun d : Fin 64 => tab.getD d.val 7) }

/-- What becomes of a route command whose instant has come. -/
def State.routesTurn (s : State) (at' ver : Nat) : State :=
  match s.fab.tblNext.find? (fun t => t.1 == ver) with
  | some t =>
    if s.fab.tblVer < ver then ((s.onFab (fun x => x.routed ver t.2)).event at' Unit.dev 0x0E07 1 ver).joinFlush
    else (s.onFab (fun x => { x with applyIgnored := x.applyIgnored + 1 })).event at' Unit.dev 0x0E07 2 ver
  | none => (s.onFab (fun x => { x with applyIgnored := x.applyIgnored + 1 })).event at' Unit.dev 0x0E07 2 ver

/-- The fabric's state with a route command taken off those that wait. -/
def FabSt.unqueued (f : FabSt) (at' ver : Nat) : FabSt := { f with applyAt := f.applyAt.erase (at', ver) }

theorem exec_routes_eq {at' ver : Nat} (hrun : s.running = true) (hfirst : s.fab.applyAt.find? (fun a => decide (a.1 ≤ s.tbAt dt)) = some (at', ver)) :
    exec (.routes dt) s = done (((s.advance dt).onFab (fun x => x.unqueued at' ver)).routesTurn at' ver) := by
  have hfirst' : (s.advance dt).fab.applyAt.find? (fun a => decide (a.1 ≤ (s.advance dt).tb)) = some (at', ver) := hfirst
  have hrun' : (!(s.advance dt).running) = false := by rw [show (s.advance dt).running = true from hrun]; rfl
  show execRoutes dt s = _
  unfold execRoutes
  dsimp only
  rw [hfirst']
  dsimp only
  rw [if_neg (by rw [hrun']; exact Bool.false_ne_true)]
  unfold State.routesTurn
  have hsame : (s.advance dt).onFab (fun x => { x with applyAt := x.applyAt.erase (at', ver) }) = (s.advance dt).onFab (fun x => x.unqueued at' ver) := rfl
  rw [hsame]
  generalize (s.advance dt).onFab (fun x => x.unqueued at' ver) = u
  cases u.fab.tblNext.find? (fun t => t.1 == ver) with
  | none => rfl
  | some t => exact (apply_ite done ..).symm

/-- An EVENT record after a change of the fabric's state. -/
theorem event_onFab (hrun : s.running = true) (f : FabSt → FabSt) (time unit code detail value : Nat) :
    (((s.advance dt).onFab f).event time unit code detail value).settle.but s =
      { s.advance dt with recs := (((s.advance dt).onFab f).event time unit code detail value).settle.recs, fab := f s.fab } ∧
    Wrote s (((s.advance dt).onFab f).event time unit code detail value).settle [evtOf time unit code detail value] :=
  ⟨(but_event ..).trans rfl, (Wrote.event_one (run_phase hrun)).settle⟩

theorem routesTurn_force {at' ver : Nat} {tab : List Nat} (htab : s.fab.tblNext.find? (fun x => x.1 == ver) = some (ver, tab))
    (hver : s.fab.tblVer < ver) (hjoin : s.fab.joinDue = false) :
    s.routesTurn at' ver = (s.onFab (fun x => x.routed ver tab)).event at' Unit.dev 0x0E07 1 ver := by
  have hdue : ((s.onFab (fun x => x.routed ver tab)).event at' Unit.dev 0x0E07 1 ver).fab.joinDue = false := by
    have F := Frame.event (s.onFab (fun x => x.routed ver tab)) at' Unit.dev 0x0E07 1 ver 0
    have hfab : ((s.onFab (fun x => x.routed ver tab)).event at' Unit.dev 0x0E07 1 ver).fab = s.fab.routed ver tab := F.keep .fab (by decide)
    rw [hfab]
    unfold FabSt.routed
    exact hjoin
  unfold State.routesTurn
  rw [htab]
  dsimp only
  rw [if_pos hver, joinFlush_notDue hdue]

theorem routesTurn_ignored {at' ver : Nat} (hold : s.fab.tblNext.find? (fun x => x.1 == ver) = none ∨ ver ≤ s.fab.tblVer) :
    s.routesTurn at' ver = (s.onFab (fun x => { x with applyIgnored := x.applyIgnored + 1 })).event at' Unit.dev 0x0E07 2 ver := by
  unfold State.routesTurn
  rcases hold with h | h
  · rw [h]
  · split
    · exact if_neg (Nat.not_lt.2 h)
    · rfl

theorem exec_routes {at' ver : Nat} (hrun : s.running = true) (hfirst : s.fab.applyAt.find? (fun a => decide (a.1 ≤ s.tbAt dt)) = some (at', ver)) :
    (∀ tab : List Nat, s.fab.tblNext.find? (fun x => x.1 == ver) = some (ver, tab) → s.fab.tblVer < ver → s.fab.joinDue = false →
      ∃ t, exec (.routes dt) s = .next t ∧ t.but s = { s.advance dt with recs := t.recs, fab := (s.fab.unqueued at' ver).routed ver tab } ∧
      Wrote s t [evtOf at' Unit.dev 0x0E07 1 ver]) ∧
    (s.fab.tblNext.find? (fun x => x.1 == ver) = none ∨ ver ≤ s.fab.tblVer → ∃ t, exec (.routes dt) s = .next t ∧
      t.but s = { s.advance dt with recs := t.recs, fab := { s.fab.unqueued at' ver with applyIgnored := s.fab.applyIgnored + 1 } } ∧
      Wrote s t [evtOf at' Unit.dev 0x0E07 2 ver]) := by
  have hexec := exec_routes_eq (dt := dt) hrun hfirst
  refine ⟨fun tab htab hver hjoin => ?_, fun hold => ?_⟩
  · have hstep := routesTurn_force (s := (s.advance dt).onFab (fun x => x.unqueued at' ver)) (at' := at') htab hver hjoin
    obtain ⟨hbut, hwrote⟩ := event_onFab (dt := dt) hrun (fun x => (x.unqueued at' ver).routed ver tab) at' Unit.dev 0x0E07 1 ver
    exact ⟨_, exec_next_of hexec hstep, hbut, hwrote⟩
  · have hstep := routesTurn_ignored (s := (s.advance dt).onFab (fun x => x.unqueued at' ver)) (at' := at') (ver := ver) hold
    obtain ⟨hbut, hwrote⟩ := event_onFab (dt := dt) hrun (fun x => { x.unqueued at' ver with applyIgnored := x.applyIgnored + 1 }) at' Unit.dev 0x0E07 2 ver
    exact ⟨_, exec_next_of hexec hstep, hbut, hwrote⟩

/-! ## Synchronisation -/

/-- The parent is reached by a link that is ACTIVE. -/
theorem parent_active (h : s.parent = some k) : s.linkActive k = true := by
  unfold State.parent at h
  split at h
  · cases h
  · split at h
    · have hfold : ∀ (l : List (Fin 6)) (best : Option (Fin 6)), (∀ j, best = some j → s.linkActive j = true) → ∀ j,
          l.foldl (fun best k =>
            match s.fab.links[k].partner with
            | some p =>
              if s.linkActive k && p.hops < 15 then
                (match best with
                  | some b =>
                    (match s.fab.links[b].partner with
                      | some q => if p.hops < q.hops || (p.hops == q.hops && decide (p.addr.getD 64 < q.addr.getD 64)) then some k else best
                      | none => some k)
                  | none => some k)
              else best
            | none => best) best = some j → s.linkActive j = true := by
        intro l
        induction l with
        | nil => exact fun _ hbest j hj => hbest j hj
        | cons i l ih =>
          intro best hbest j hj
          refine ih _ (fun m hm => ?_) j hj
          have hself (hi : s.linkActive i = true) (e : some i = some m) : s.linkActive m = true := (Option.some.inj e) ▸ hi
          dsimp only at hm
          split at hm
          · split at hm
            · next hact =>
              have hi := (Bool.and_eq_true_iff.1 hact).1
              split at hm
              · split at hm
                · split at hm
                  · exact hself hi hm
                  · exact hbest m hm
                · exact hself hi hm
              · exact hself hi hm
            · exact hbest m hm
          · exact hbest m hm
      exact hfold _ _ (fun _ hj => by cases hj) k h
    · split at h
      · have hfound := List.find?_some h
        exact (Bool.and_eq_true_iff.1 hfound).2
      · cases h

theorem parent_congr (hregs : t.regs = s.regs) (haddr : t.fab.addr = s.fab.addr) (hlinks : ∀ j : Fin 6, t.fab.links[j].partner = s.fab.links[j].partner ∧
    t.fab.links[j].state = s.fab.links[j].state) : t.parent = s.parent := by
  have hpartner (j : Fin 6) := (hlinks j).1
  have hstate (j : Fin 6) := (hlinks j).2
  unfold State.parent State.linkActive
  simp only [hregs, haddr, hpartner, hstate]

theorem hopSend_keep {typ : Nat} {payload : List Byte} (h : s.linkIdle k) (hcarries : s.linkCarries k typ = true) (htyp : typ < 256) :
    (s.hopSend k typ payload).fab.links = s.fab.links ∧ (s.hopSend k typ payload).fab.addr = s.fab.addr ∧
    (s.hopSend k typ payload).fab.routes = s.fab.routes ∧ (s.hopSend k typ payload).fab.out = s.fab.out ++ [s.hopNow k typ payload] := by
  obtain ⟨hfab, -⟩ := hopSend_idle (payload := payload) h hcarries htyp
  rw [hfab]
  exact ⟨rfl, rfl, rfl, rfl⟩

theorem linkCarries_active {typ : Nat} (h : s.fab.links[k].state = .active) : s.linkCarries k typ = true := by
  unfold State.linkCarries
  rw [h]

/-- What an exchange sent to the parent leaves on its link. -/
def LinkSt.asked (t ms : Nat) (l : LinkSt) : LinkSt := { l with t1 := some t, reqMs := some ms }

/-- An exchange of synchronisation that goes out on an idle link, with a free value for the model's. -/
def State.syncAsk (s : State) (k : Fin 6) : State :=
  ((s.onFreeIx (· + 1)).hopSend k 5 (leBytes 4 (Config.freeWord s.freeIx).toNat ++ zeros 4)).modLink k (LinkSt.asked s.tb (s.tb / 1000000))

theorem syncReqSend_due (hrun : s.running = true) (hdue : s.tb / 1000000 * 1000000 + 10000 * k.val ≤ s.tb) (hreq : s.fab.links[k].reqMs ≠ some (s.tb / 1000000)) :
    (s.running && decide (s.tb / 1000000 * 1000000 + 10000 * k.val ≤ s.tb) && s.fab.links[k].reqMs != some (s.tb / 1000000)) = true := by
  rw [hrun, decide_eq_true hdue]
  simpa using hreq

theorem exec_syncReqSend_eq (hrun : s.running = true) (hparent : s.parent = some k) (hidle : s.linkIdle k)
    (hdue : (s.advance dt).tb / 1000000 * 1000000 + 10000 * k.val ≤ (s.advance dt).tb)
    (hreq : (s.advance dt).fab.links[k].reqMs ≠ some ((s.advance dt).tb / 1000000)) :
    exec (.syncReqSend dt) s = done ((s.advance dt).syncAsk k) := by
  have hparent' : (s.advance dt).parent = some k := hparent
  have hgate := syncReqSend_due (s := s.advance dt) (k := k) hrun hdue hreq
  have hfree : ((s.advance dt).onFreeIx (· + 1)).linkIdle k := hidle.advance dt
  show execSyncReqSend dt s = _
  unfold execSyncReqSend
  dsimp only
  rw [hparent']
  dsimp only
  rw [if_pos hgate, (hidle.advance dt).waitDrain]
  unfold State.fresh
  dsimp only
  rw [hfree.leaveTb]
  rfl

theorem exec_syncReqSend (hrun : s.running = true) (hparent : s.parent = some k) (hidle : s.linkIdle k)
    (hdue : s.tbAt dt / 1000000 * 1000000 + 10000 * k.val ≤ s.tbAt dt) (hreq : s.fab.links[k].reqMs ≠ some (s.tbAt dt / 1000000)) :
    ∃ t word, exec (.syncReqSend dt) s = .next t ∧
      t.but s = { s.advance dt with fab := t.fab, recs := t.recs, freeIx := s.freeIx + 1 } ∧ OnlyLink s t k ∧
      t.fab.links[k] = { s.fab.links[k] with t1 := some (s.tbAt dt), reqMs := some (s.tbAt dt / 1000000) } ∧ HopSent s t dt k 5 (leBytes 4 word ++ zeros 4) := by
  have htb : (s.advance dt).tb = s.tbAt dt := rfl
  have hexec := exec_syncReqSend_eq (dt := dt) hrun hparent hidle (by rw [htb]; exact hdue) (by rw [htb, State.advance_fab]; exact hreq)
  let v := (s.advance dt).onFreeIx (· + 1)
  let payload := leBytes 4 (Config.freeWord s.freeIx).toNat ++ zeros 4
  have hcarries : v.linkCarries k 5 = true := linkCarries_active (beq_iff_eq.1 (parent_active hparent))
  have hidle' : v.linkIdle k := hidle.advance dt
  obtain ⟨h1, h2, h3, h4⟩ := hopSend_keep (s := v) (payload := payload) hidle' hcarries (by decide)
  have F := Frame.hopSend v k 5 payload
  have hask : (s.advance dt).syncAsk k = (v.hopSend k 5 payload).modLink k (LinkSt.asked (s.tbAt dt) (s.tbAt dt / 1000000)) := rfl
  have hnext := exec_next_of hexec hask
  have hlinks : v.fab = s.fab := rfl
  have hclk : v.clk = (s.advance dt).clk := rfl
  have hmerge (f : FabSt → FabSt) : (((State.merge [.recs, .fab] v (v.hopSend k 5 payload)).onFab f).settle.but s : State) = { s.advance dt with
      fab := f (v.hopSend k 5 payload).fab, recs := (v.hopSend k 5 payload).recs, freeIx := s.freeIx + 1 } := rfl
  rw [← F.eq_merge] at hmerge
  generalize v.hopSend k 5 payload = w at *
  rw [hlinks] at h1 h2 h3 h4
  obtain ⟨honly, hlink⟩ := OnlyLink.of_vset (s := s) (t := w.modLink k (LinkSt.asked (s.tbAt dt) (s.tbAt dt / 1000000))) (k := k)
    (f := LinkSt.asked (s.tbAt dt) (s.tbAt dt / 1000000)) (by rw [← h1]; rfl) h2 h3
  refine ⟨_, (Config.freeWord s.freeIx).toNat, hnext, hmerge _, honly, hlink, ?_⟩
  refine hopSent_of (u := v) h4 ?_ (by rw [hlinks]) (by rw [hlinks]) hclk
  exact (congrArg LinkSt.partner hlink).trans rfl

/-! ## An exchange of the parent's child -/

/-- A link whose partner has asked for the time. -/
def LinkSt.childAsked (now : Nat) (l : LinkSt) : LinkSt := { l with reqAt := some now }

theorem syncReqIn_idle (hstate : s.fab.links[k].state = .active) (hidle : s.linkIdle k) :
    s.syncReqIn k = (s.hopSend k 6 (leBytes 8 s.tb ++ leBytes 8 s.tb ++ leBytes 1 s.hopsShown ++ zeros 7)).modLink k (LinkSt.childAsked s.now) := by
  have hactive : s.linkActive k = true := beq_iff_eq.2 hstate
  unfold State.syncReqIn
  rw [if_pos hactive, hidle.waitDrain]
  dsimp only
  rw [hidle.leaveTb]
  rfl

theorem exec_syncReqReceived (hrun : s.running = true) (hstate : s.fab.links[k].state = .active) (hidle : s.linkIdle k) :
    ∃ t, exec (.syncReqReceived dt k) s = .next t ∧
      t.but s = { s.advance dt with fab := t.fab, recs := t.recs, freeIx := t.freeIx } ∧
      t.fab.links = vset s.fab.links k (fun l => { l with reqAt := some (s.advance dt).now }) ∧
      HopSent s t dt k 6 (leBytes 8 (s.tbAt dt) ++ leBytes 8 (s.tbAt dt) ++ leBytes 1 s.hopsShown ++ zeros 7) := by
  have hrow := Row.frameFrom s dt k (typ := 5) (len := 8) (c := 2) (by decide)
  have hexec : exec (.syncReqReceived dt k) s = done (((s.advance dt).frameFrom k 5 8).syncReqIn k) := congrArg done (if_pos hrun)
  generalize (s.advance dt).frameFrom k 5 8 = u at hrow hexec
  have hidle' := hrow.linkIdle hidle
  have hstate' : u.fab.links[k].state = .active := by rw [hrow.fab]; exact hstate
  have hshown : u.hopsShown = s.hopsShown := by
    unfold State.hopsShown
    rw [hrow.tbs]
  have hstep := syncReqIn_idle hstate' hidle'
  rw [hrow.tb, hshown, hrow.now] at hstep
  obtain ⟨h1, h2, h3, h4⟩ := hopSend_keep (s := u) (typ := 6) (payload := leBytes 8 (s.tbAt dt) ++ leBytes 8 (s.tbAt dt) ++ leBytes 1 s.hopsShown ++ zeros 7)
    hidle' (linkCarries_active hstate') (by decide)
  have F := Frame.hopSend u k 6 (leBytes 8 (s.tbAt dt) ++ leBytes 8 (s.tbAt dt) ++ leBytes 1 s.hopsShown ++ zeros 7)
  have hnext := exec_next_of hexec hstep
  generalize leBytes 8 (s.tbAt dt) ++ leBytes 8 (s.tbAt dt) ++ leBytes 1 s.hopsShown ++ zeros 7 = payload at *
  generalize hv : u.hopSend k 6 payload = v at *
  rw [hrow.fab] at h1 h4
  refine ⟨_, hnext, ?_, ?_, ?_⟩
  · rw [F.eq_merge, hrow.frame.eq_merge]
    rfl
  · show vset v.fab.links k _ = _
    rw [h1]
    rfl
  · refine hopSent_of (u := u) h4 ?_ (by rw [hrow.fab]) (by rw [hrow.fab]) hrow.clk
    show ((vset v.fab.links k (LinkSt.childAsked (s.advance dt).now))[k]).partner = _
    rw [h1, hrow.fab]
    exact (congrArg LinkSt.partner (vset_self ..)).trans rfl

theorem syncLost_due {limit : Bool} (hrun : s.running = true) (hloaded : s.tbs.loaded = true) (hsync : s.tbs.syncLost = false)
    (hlong : if limit then ∃ since, s.fab.trimLim = some since ∧ since + 100000000 ≤ s.now else s.fab.lastEx + 20000000 ≤ s.now) :
    (s.running && s.tbs.loaded && !s.tbs.syncLost &&
      (if limit then (match s.fab.trimLim with | some t => decide (t + runNs ≤ s.now) | none => false)
        else decide (s.fab.lastEx + 20000000 ≤ s.now))) = true := by
  rw [hrun, hloaded, hsync]
  cases limit
  · rw [if_neg Bool.false_ne_true] at hlong
    rw [if_neg Bool.false_ne_true, decide_eq_true hlong]
    rfl
  · rw [if_pos rfl] at hlong
    obtain ⟨since, hsince, hlong⟩ := hlong
    rw [if_pos rfl, hsince]
    dsimp only
    rw [decide_eq_true hlong]
    rfl

theorem exec_syncLost {limit : Bool} (hrun : s.running = true) (hloaded : s.tbs.loaded = true) (hsync : s.tbs.syncLost = false)
    (hlong : if limit then ∃ since, s.fab.trimLim = some since ∧ since + 100000000 ≤ (s.advance dt).now else s.fab.lastEx + 20000000 ≤ (s.advance dt).now) :
    ∃ t, exec (.syncLost dt limit) s = .next t ∧ t.but s = { s.advance dt with
      tbs := { s.tbs with syncLost := true, lostSince := s.tbAt dt, synced := false }, fab := { s.fab with lossOff := none }, recs := t.recs } ∧
    Wrote s t [timeOf (s.tbAt dt) 0x0204 (b2n limit) (twos 8 s.tbs.offset) (twos 8 s.tbs.trim)] := by
  have hdue := syncLost_due (s := s.advance dt) (limit := limit) hrun hloaded hsync (by rw [State.advance_fab]; exact hlong)
  let u := ((s.advance dt).onTbs (fun t => { t with syncLost := true, lostSince := s.tbAt dt, synced := false })).onFab (fun x => { x with lossOff := none })
  have hexec : exec (.syncLost dt limit) s = done (u.timeRec (s.tbAt dt) 0x0204 (b2n limit) (twos 8 s.tbs.offset) (twos 8 s.tbs.trim)) := if_pos hdue
  have F := Frame.timeRec u (s.tbAt dt) 0x0204 (b2n limit) (twos 8 s.tbs.offset) (twos 8 s.tbs.trim)
  refine ⟨_, exec_next_of hexec rfl, (but_of_recs F).trans rfl, (Wrote.timeRec_one (run_phase hrun)).settle⟩

/-! ## The answer of the parent -/

/-- A link on which an exchange has ended, with its delay. -/
def LinkSt.answered (d : Rat) (l : LinkSt) : LinkSt := { l with t1 := none, delays := (d :: l.delays).take 64 }

/-- The delay of an exchange. -/
def syncDelay (b : List Byte) (t1 t4 : Nat) : Rat := (((t4 - t1 : Int) - ((leAt b 8 8 : Nat) - (leAt b 0 8 : Nat) : Int) : Int) : Rat) / 2

/-- The time of the parent, at the end of an exchange. -/
def syncAim (b : List Byte) (delays : List Rat) : Rat := (leAt b 8 8 : Rat) + minDelay delays

/-- A device that has had its parent's answer: the delay is kept with its link, and its hops are known. -/
def State.syncHeard (s : State) (k : Fin 6) (d : Rat) : State :=
  (s.modLink k (LinkSt.answered d)).onTbs (fun t => { t with hops := some (s.hopCount k) })

theorem hopCount_congr (hregs : t.regs = s.regs) (haddr : t.fab.addr = s.fab.addr) (hpartner : t.fab.links[k].partner = s.fab.links[k].partner) :
    t.hopCount k = s.hopCount k := by
  unfold State.hopCount
  rw [hregs, haddr, hpartner]

theorem syncHeard_links (d : Rat) (j : Fin 6) : (s.syncHeard k d).fab.links[j].partner = s.fab.links[j].partner ∧
    (s.syncHeard k d).fab.links[j].state = s.fab.links[j].state := by
  show (vset s.fab.links k (LinkSt.answered d))[j].partner = _ ∧ (vset s.fab.links k (LinkSt.answered d))[j].state = _
  by_cases hj : k = j
  · subst hj
    rw [show (vset s.fab.links k (LinkSt.answered d))[k] = LinkSt.answered d s.fab.links[k] from vset_self ..]
    exact ⟨rfl, rfl⟩
  · rw [show (vset s.fab.links k (LinkSt.answered d))[j] = s.fab.links[j] from vset_ne _ _ _ _ hj]
    exact ⟨rfl, rfl⟩

/-- The time base of a device that loads it from its parent. -/
def State.syncLoad (s : State) (new : Nat) : State :=
  ((s.tbLoad new).onFab (fun x => { x with lastEx := s.now, offs := [] })).timeRec new 0x0203 (s.tbs.hops.getD 15) s.tb new

theorem syncRespIn_eq {b : List Byte} {t1 : Nat} (hstate : s.fab.links[k].state = .active) (hparent : s.parent = some k)
    (ht1 : s.fab.links[k].t1 = some t1) :
    let d := syncDelay b t1 s.tb
    let u := s.syncHeard k d
    let aim := syncAim b ((d :: s.fab.links[k].delays).take 64)
    s.syncRespIn k b = if s.tbs.loaded then (u.syncTrim ((s.tb : Rat) - aim) (decide (byteAt b 16 < 15))).syncBack
      else if 15 ≤ byteAt b 16 then u else u.syncLoad ((aim / 2).floor.toNat * 2) := by
  intro d u aim
  let s1 := s.modLink k (fun l => { l with t1 := none })
  let s2 := s1.modLink k (fun l => { l with delays := (d :: l.delays).take 64 })
  have hs2 : s2 = s.modLink k (LinkSt.answered d) :=
    congrArg (fun v => ({ s with fab := { s.fab with links := v } } : State)) (vset_vset s.fab.links k (fun l => { l with t1 := none }) _)
  have hlinks1 (j : Fin 6) : s1.fab.links[j].partner = s.fab.links[j].partner ∧ s1.fab.links[j].state = s.fab.links[j].state := by
    show (vset s.fab.links k (fun l => { l with t1 := none }))[j].partner = _ ∧ (vset s.fab.links k (fun l => { l with t1 := none }))[j].state = _
    by_cases hj : k = j
    · subst hj
      rw [show (vset s.fab.links k (fun l => { l with t1 := none }))[k] = { s.fab.links[k] with t1 := none } from vset_self ..]
      exact ⟨rfl, rfl⟩
    · rw [show (vset s.fab.links k (fun l => { l with t1 := none }))[j] = s.fab.links[j] from vset_ne _ _ _ _ hj]
      exact ⟨rfl, rfl⟩
  have hgate : (!(s1.linkActive k && s1.parent == some k)) = false := by
    rw [parent_congr (t := s1) (s := s) rfl rfl hlinks1, hparent, State.linkActive, (hlinks1 k).2, hstate]
    simp
  have hhops : s2.hopCount k = s.hopCount k := by
    rw [hs2]
    exact hopCount_congr rfl rfl (syncHeard_links (k := k) d k).1
  have hs3 : s2.onTbs (fun t => { t with hops := some (s2.hopCount k) }) = u := by
    rw [hhops, hs2]
    rfl
  have hdelays : u.fab.links[k].delays = (d :: s.fab.links[k].delays).take 64 := by
    have hk : u.fab.links[k] = LinkSt.answered d s.fab.links[k] := vset_self ..
    rw [hk]
    rfl
  have hbody : s.syncRespIn k b = if !(s1.linkActive k && s1.parent == some k) then s1 else (let v := s2.onTbs (fun t => { t with hops := some (s2.hopCount k) })
      if v.tbs.loaded then (v.syncTrim ((s.tb : Rat) - syncAim b v.fab.links[k].delays) (decide (byteAt b 16 < 15))).syncBack
      else if 15 ≤ byteAt b 16 then v else v.syncLoad ((syncAim b v.fab.links[k].delays / 2).floor.toNat * 2)) := by
    unfold State.syncRespIn
    rw [ht1]
    rfl
  rw [hgate, if_neg Bool.false_ne_true, hs3] at hbody
  dsimp only at hbody
  rw [hdelays] at hbody
  exact hbody

/-- What a trim leaves of the time base. -/
theorem syncTrim_spec (off : Rat) (synced : Bool) : (s.syncTrim off synced).tbs.offset = off.floor ∧ -20000 ≤ (s.syncTrim off synced).tbs.trim ∧
    (s.syncTrim off synced).tbs.trim ≤ 20000 ∧ (s.syncTrim off synced).fab.lastEx = s.now ∧ (s.syncTrim off synced).fab.links = s.fab.links ∧
    (s.syncTrim off synced).fab.addr = s.fab.addr ∧ (s.syncTrim off synced).fab.routes = s.fab.routes ∧ (s.syncTrim off synced).clk = s.clk ∧
    (s.syncTrim off synced).ax = s.ax ∧ (s.syncTrim off synced).regs = s.regs := by
  have hclamp (z : Int) : -20000 ≤ (if z < -20000 then -20000 else if 20000 < z then 20000 else z) ∧
      (if z < -20000 then -20000 else if 20000 < z then 20000 else z) ≤ 20000 := by
    split
    · omega
    · split
      · omega
      · omega
  obtain ⟨hlow, hhigh⟩ := hclamp (Config.freeWord s.freeIx).toInt
  exact ⟨rfl, hlow, hhigh, rfl, rfl, rfl, rfl, rfl, rfl, rfl⟩

/-- What the end of a loss of synchronisation leaves. -/
theorem syncBack_spec : s.syncBack.tbs.offset = s.tbs.offset ∧ s.syncBack.tbs.trim = s.tbs.trim ∧ s.syncBack.fab.lastEx = s.fab.lastEx ∧
    s.syncBack.fab.links = s.fab.links ∧ s.syncBack.fab.addr = s.fab.addr ∧ s.syncBack.fab.routes = s.fab.routes ∧ s.syncBack.clk = s.clk ∧
    s.syncBack.ax = s.ax ∧ s.syncBack.regs = s.regs := by
  unfold State.syncBack
  split
  · let u := s.timeRec s.tb 0x0205 (s.tbs.hops.getD 15) (twos 8 (s.fab.lossOff.getD 0)) (s.tb - s.tbs.lostSince)
    have F : Frame [.recs] s u := Frame.timeRec ..
    show u.tbs.offset = _ ∧ u.tbs.trim = _ ∧ u.fab.lastEx = _ ∧ u.fab.links = _ ∧ u.fab.addr = _ ∧ u.fab.routes = _ ∧ u.clk = _ ∧ u.ax = _ ∧ u.regs = _
    rw [F.keep .tbs (by decide), F.keep .fab (by decide), F.keep .clk (by decide), F.keep .ax (by decide), F.keep .regs (by decide)]
    exact ⟨rfl, rfl, rfl, rfl, rfl, rfl, rfl, rfl, rfl⟩
  · exact ⟨rfl, rfl, rfl, rfl, rfl, rfl, rfl, rfl, rfl⟩

theorem syncLoad_spec (new : Nat) : (s.syncLoad new).clk.tb = new ∧ (s.syncLoad new).tbs.loaded = true ∧ (s.syncLoad new).fab.lastEx = s.now ∧
    (s.syncLoad new).tbs.hops = s.tbs.hops ∧ (s.syncLoad new).fab.links = s.fab.links ∧ (s.syncLoad new).fab.addr = s.fab.addr ∧
    (s.syncLoad new).fab.routes = s.fab.routes ∧ (s.syncLoad new).ax = s.ax ∧ (s.syncLoad new).regs = s.regs := by
  let u := (s.tbLoad new).onFab (fun x => { x with lastEx := s.now, offs := [] })
  have F : Frame [.recs] u (s.syncLoad new) := Frame.timeRec ..
  rw [F.keep .clk (by decide), F.keep .tbs (by decide), F.keep .fab (by decide), F.keep .ax (by decide), F.keep .regs (by decide)]
  exact ⟨rfl, rfl, rfl, rfl, rfl, rfl, rfl, rfl, rfl⟩

/-- What the answer of the parent leaves on the link it came by. -/
theorem onlyLink_heard {d : Rat} (hlinks : t.fab.links = (u.syncHeard k d).fab.links) (haddr : t.fab.addr = s.fab.addr) (hroutes : t.fab.routes = s.fab.routes)
    (hfab : u.fab = s.fab) : OnlyLink s t k :=
  (OnlyLink.of_vset (f := LinkSt.answered d) (hlinks.trans (congrArg (fun x : FabSt => vset x.links k (LinkSt.answered d)) hfab)) haddr hroutes).1

theorem exec_syncResp {b : List Byte} {t1 : Nat} {d aim : Rat} (hrun : s.running = true) (hparent : s.parent = some k) (hlen : b.length = 24)
    (hstate : s.fab.links[k].state = .active) (ht1 : s.fab.links[k].t1 = some t1) (hd : d = syncDelay b t1 (s.tbAt dt))
    (haim : aim = syncAim b ((d :: s.fab.links[k].delays).take 64)) :
    (s.tbs.loaded = false → byteAt b 16 < 15 → ∃ t, exec (.syncRespReceived dt k b) s = .next t ∧ t.clk.tb = (aim / 2).floor.toNat * 2 ∧ t.tbs.loaded = true ∧
      t.fab.lastEx = (s.advance dt).now ∧ t.tbs.hops = some (s.hopCount k) ∧ OnlyLink s t k ∧ t.ax = s.ax ∧ t.regs = s.regs) ∧
    (s.tbs.loaded = false → 15 ≤ byteAt b 16 → ∃ t, exec (.syncRespReceived dt k b) s = .next t ∧ t.clk = (s.advance dt).clk ∧ t.tbs.loaded = false) ∧
    (s.tbs.loaded = true → ∃ t, exec (.syncRespReceived dt k b) s = .next t ∧ t.clk = (s.advance dt).clk ∧ t.tbs.offset = ((s.tbAt dt : Rat) - aim).floor ∧
      -20000 ≤ t.tbs.trim ∧ t.tbs.trim ≤ 20000 ∧ t.fab.lastEx = (s.advance dt).now ∧ OnlyLink s t k ∧ t.ax = s.ax ∧ t.regs = s.regs) := by
  have hrow := Row.frameFrom s dt k (typ := 6) (len := 24) (c := 2) (by decide)
  have hexec : exec (.syncRespReceived dt k b) s = done (((s.advance dt).frameFrom k 6 24).syncRespIn k b) := congrArg done (if_pos ⟨hrun, hlen⟩)
  generalize (s.advance dt).frameFrom k 6 24 = u at hrow hexec
  have hax : u.ax = s.ax := hrow.frame.keep .ax (by decide)
  have hparent' : u.parent = some k := (parent_congr hrow.regs (by rw [hrow.fab]) (fun j => by rw [hrow.fab]; exact ⟨rfl, rfl⟩)).trans hparent
  have heq := syncRespIn_eq (s := u) (b := b) (t1 := t1) (by rw [hrow.fab]; exact hstate) hparent' (by rw [hrow.fab]; exact ht1)
  have hhops : u.hopCount k = s.hopCount k := hopCount_congr hrow.regs (by rw [hrow.fab]) (by rw [hrow.fab])
  have haddr : u.fab.addr = s.fab.addr := by rw [hrow.fab]
  have hroutes : u.fab.routes = s.fab.routes := by rw [hrow.fab]
  dsimp only at heq
  rw [hrow.tb, hrow.fab, ← hd, ← haim, hrow.tbs] at heq
  refine ⟨fun hload hhop => ?_, fun hload hhop => ?_, fun hload => ?_⟩
  · rw [hload, if_neg Bool.false_ne_true, if_neg (Nat.not_le.2 hhop)] at heq
    obtain ⟨h1, h2, h3, h4, h5, h6, h7, h8, h9⟩ := syncLoad_spec (s := u.syncHeard k d) ((aim / 2).floor.toNat * 2)
    refine ⟨_, exec_next_of hexec heq, h1, h2, h3.trans hrow.now, h4.trans ?_, onlyLink_heard h5 (h6.trans ?_) (h7.trans ?_) hrow.fab, h8.trans hax,
      h9.trans hrow.regs⟩
    · exact congrArg some hhops
    · exact haddr
    · exact hroutes
  · rw [hload, if_neg Bool.false_ne_true, if_pos hhop] at heq
    exact ⟨_, exec_next_of hexec heq, hrow.clk, (congrArg TimeBase.loaded hrow.tbs).trans hload⟩
  · rw [hload, if_pos rfl] at heq
    obtain ⟨h1, h2, h3, h4, h5, h6, h7, h8, h9, h10⟩ := syncTrim_spec (s := u.syncHeard k d) ((s.tbAt dt : Rat) - aim) (decide (byteAt b 16 < 15))
    generalize (u.syncHeard k d).syncTrim ((s.tbAt dt : Rat) - aim) (decide (byteAt b 16 < 15)) = v at *
    obtain ⟨j1, j2, j3, j4, j5, j6, j7, j8, j9⟩ := syncBack_spec (s := v)
    refine ⟨_, exec_next_of hexec heq, (j7.trans h8).trans hrow.clk, j1.trans h1, ?_, ?_, (j3.trans h4).trans hrow.now,
      onlyLink_heard (j4.trans h5) ((j5.trans h6).trans ?_) ((j6.trans h7).trans ?_) hrow.fab, (j8.trans h9).trans hax, (j9.trans h10).trans hrow.regs⟩
    · show -20000 ≤ v.syncBack.tbs.trim
      rw [j2]
      exact h2
    · show v.syncBack.tbs.trim ≤ 20000
      rw [j2]
      exact h3
    · exact haddr
    · exact hroutes

end

/-- Settles O41: route tables and fabric-wide commands, and the synchronisation with the parent. -/
theorem routesAndTime : Obligations.RoutesAndTime := by
  unfold Obligations.RoutesAndTime
  intro s dt hrun
  refine ⟨fun b hlen => exec_routesReceived hrun hlen, fun src seq at' ver => ?_, fun at' ver hfirst => ?_, fun k hparent => ⟨?_, ?_⟩,
    fun k hstate hidle => exec_syncReqReceived hrun hstate hidle, fun limit hloaded hsync hlong => exec_syncLost hrun hloaded hsync hlong⟩
  · obtain ⟨hnew, hold⟩ := exec_routesApply (dt := dt) (src := src) (seq := seq) (ver := ver) (at' := at') hrun
    obtain ⟨hfrz, hfrzOld⟩ := exec_freezeAt (dt := dt) (src := src) (seq := seq) (ver := ver) (at' := at') hrun
    exact ⟨fun h => ⟨hnew h, (hfrz h).1, (hfrz h).2⟩, fun h => ⟨hold h, hfrzOld h⟩⟩
  · obtain ⟨hforce, hignored⟩ := exec_routes (dt := dt) hrun hfirst
    exact ⟨fun tab htab hver hjoin => hforce tab htab hver hjoin, hignored⟩
  · exact fun hdue hreq hidle => exec_syncReqSend hrun hparent hidle hdue hreq
  · exact fun b t1 d aim hlen hstate ht1 hd haim => exec_syncResp hrun hparent hlen hstate ht1 hd haim

end Sys2Proof.Machine
end

section
/-! PROOF. Packets and segments that arrive on a link (R371 to R373, R379, R391, R392). -/
set_option Elab.async false

namespace Sys2Proof.Machine

section
variable {s t u v : State} {k j : Fin 6} {dt : Nat} {b : List Byte} {eep : Bool}

/-! ## Where no packet type is recorded -/

theorem frameFab_off (h : s.regs.FAB_REC_SEL = 0) (time l : Nat) (sent : Bool) (bytes : List Byte) : s.frameFab time l sent bytes = s := by
  unfold State.frameFab
  split
  · exact if_neg (by rw [h, Nat.zero_testBit]; exact Bool.false_ne_true)
  · rfl

theorem frameHop_off (h : s.regs.FAB_REC_SEL = 0) (src typ len : Nat) : s.frameHop k src typ len = s := by
  unfold State.frameHop State.frameRow
  split
  · exact if_neg (by rw [h, Nat.zero_testBit]; exact Bool.false_ne_true)
  · rfl

theorem frameFrom_off (h : s.regs.FAB_REC_SEL = 0) (typ len : Nat) : s.frameFrom k typ len = s := by
  unfold State.frameFrom
  rw [frameHop_off h]
  exact ite_self _

/-! ## A packet of the hop does what its message does -/

theorem vset_same {α : Type} {n : Nat} (x : Vector α n) (i : Fin n) {f : α → α} (h : f x[i] = x[i]) : vset x i f = x := by
  refine Vector.ext fun m hm => ?_
  by_cases hi : i = ⟨m, hm⟩
  · subst hi
    exact (vset_self x _ f).trans h
  · exact vset_ne x i ⟨m, hm⟩ f hi

/-- A link that has counted the time-codes among the characters of a packet. -/
def LinkSt.ticked (tc : Nat) (l : LinkSt) : LinkSt := { l with tc := min 255 (l.tc + tc) }

theorem modLink_ticked_zero (h : s.fab.links[k].tc ≤ 255) : s.modLink k (LinkSt.ticked 0) = s := by
  have hsame : vset s.fab.links k (LinkSt.ticked 0) = s.fab.links :=
    vset_same _ _ (congrArg (fun n => { s.fab.links[k] with tc := n }) (Nat.min_eq_right h))
  unfold State.modLink State.onFab
  dsimp only
  rw [hsame]

theorem exec_urgent_eq (hrun : s.running = true) (hstate : s.fab.links[k].state = .active)
    (hnone : ∀ (j : Fin 6) (bulk : Bool), s.fab.links[j].waits bulk = none) (tc : Nat) :
    exec (.urgentPacketReceived dt k b tc eep) s = done (((s.advance dt).modLink k (LinkSt.ticked tc)).packetIn k false eep b) := by
  have hears : (s.advance dt).linkHears k = true := by
    unfold State.linkHears
    rw [show (s.advance dt).fab.links[k].state = .active from hstate]
    exact hrun
  have hdrain : (s.advance dt).waitDrain = s.advance dt := waitDrain_of_none hnone
  have hgate : exec (.urgentPacketReceived dt k b tc eep) s =
      done (((s.advance dt).waitDrain.modLink k (LinkSt.ticked tc)).packetIn k false eep b) := congrArg done (if_pos hears)
  rw [hgate, hdrain]

theorem packetIn_hop (hsel : s.regs.FAB_REC_SEL = 0) (hgood : packetOk false b = true) (hhop : isHop (byteAt b 2) = true) :
    s.packetIn k false false b = s.deliver k b := by
  unfold State.packetIn
  rw [hgood, hhop, frameFab_off hsel]
  rfl

/-- The payload of a packet that passes its checks has the length of its type. -/
theorem payload_of_packetOk (hgood : packetOk false b = true) : payloadOk (byteAt b 2) ((b.drop 16).take (leAt b 4 2)) = true := by
  unfold packetOk at hgood
  simp only [Bool.and_eq_true] at hgood
  exact hgood.1.2

theorem exec_hop_message {c : Instr} (hrun : s.running = true) (hsel : s.regs.FAB_REC_SEL = 0) (hgood : packetOk false b = true)
    (hc : (byteAt b 2 = 1 ∧ c = .helloReceived dt k ((b.drop 16).take (leAt b 4 2))) ∨
      (byteAt b 2 = 2 ∧ c = .joinReceived dt k ((b.drop 16).take (leAt b 4 2))) ∨
      (byteAt b 2 = 3 ∧ c = .admitReceived dt k ((b.drop 16).take (leAt b 4 2))) ∨ (byteAt b 2 = 5 ∧ c = .syncReqReceived dt k) ∨
      (byteAt b 2 = 6 ∧ c = .syncRespReceived dt k ((b.drop 16).take (leAt b 4 2)))) :
    isHop (byteAt b 2) = true ∧ exec c s = done ((s.advance dt).deliver k b) := by
  have hpl := payload_of_packetOk hgood
  have hsel' : (s.advance dt).regs.FAB_REC_SEL = 0 := hsel
  have hrow (typ len : Nat) : (s.advance dt).frameFrom k typ len = s.advance dt := frameFrom_off hsel' typ len
  have hhello (src : Nat) : (if (s.advance dt).linkHears k then (s.advance dt).frameHop k src 1 32 else s.advance dt) = s.advance dt := by
    rw [frameHop_off hsel']
    exact ite_self _
  generalize hp : (b.drop 16).take (leAt b 4 2) = pl at hpl hc
  unfold State.deliver
  dsimp only
  rw [hp]
  rcases hc with ⟨htyp, rfl⟩ | ⟨htyp, rfl⟩ | ⟨htyp, rfl⟩ | ⟨htyp, rfl⟩ | ⟨htyp, rfl⟩
  · rw [htyp] at hpl ⊢
    refine ⟨rfl, congrArg done ((if_pos ⟨hrun, beq_iff_eq.1 hpl⟩).trans ?_)⟩
    rw [hhello]
    rfl
  · rw [htyp] at hpl ⊢
    refine ⟨rfl, congrArg done ((if_pos ⟨hrun, beq_iff_eq.1 hpl⟩).trans ?_)⟩
    rw [hrow]
    rfl
  · rw [htyp] at hpl ⊢
    refine ⟨rfl, congrArg done ((if_pos ⟨hrun, beq_iff_eq.1 hpl⟩).trans ?_)⟩
    rw [hrow]
    rfl
  · rw [htyp]
    refine ⟨rfl, congrArg done ((if_pos hrun).trans ?_)⟩
    rw [hrow]
    rfl
  · rw [htyp] at hpl ⊢
    refine ⟨rfl, congrArg done ((if_pos ⟨hrun, beq_iff_eq.1 hpl⟩).trans ?_)⟩
    rw [hrow]
    rfl

/-! ## What a packet leaves on the link it comes by -/

/-- A change of a link that counts what has come, and nothing of its state or of what waits. -/
structure LinkSt.Counted (f : LinkSt → LinkSt) : Prop where
  state : ∀ l, (f l).state = l.state
  upAt : ∀ l, (f l).upAt = l.upAt
  urgIn : ∀ l, (f l).urgIn = l.urgIn
  bulkIn : ∀ l, (f l).bulkIn = l.bulkIn
  bulkRx : ∀ l, (f l).bulkRx = l.bulkRx

/-- A state of the fabric in which one link alone has counted what has come. -/
structure Counted (s t : State) (k : Fin 6) (f : LinkSt → LinkSt) : Prop where
  frame : Frame [.recs, .fab] s t
  fab : t.fab = { s.fab with links := vset s.fab.links k f }
  counted : LinkSt.Counted f

namespace Counted
variable {f g : LinkSt → LinkSt}

theorem link (h : Counted s t k f) : t.fab.links[k] = f s.fab.links[k] := by
  rw [h.fab]
  exact vset_self ..

theorem other (h : Counted s t k f) (hj : j ≠ k) : t.fab.links[j] = s.fab.links[j] := by
  rw [h.fab]
  exact vset_ne _ _ _ _ (Ne.symm hj)

theorem onlyLink (h : Counted s t k f) : OnlyLink s t k :=
  ⟨fun _ hj => h.other hj, by rw [h.fab], by rw [h.fab]⟩

theorem out (h : Counted s t k f) : t.fab.out = s.fab.out := by rw [h.fab]

theorem state (h : Counted s t k f) (j : Fin 6) : t.fab.links[j].state = s.fab.links[j].state := by
  by_cases hj : j = k
  · subst hj
    rw [h.link, h.counted.state]
  · rw [h.other hj]

theorem upAt (h : Counted s t k f) (j : Fin 6) : t.fab.links[j].upAt = s.fab.links[j].upAt := by
  by_cases hj : j = k
  · subst hj
    rw [h.link, h.counted.upAt]
  · rw [h.other hj]

theorem waits (h : Counted s t k f) (j : Fin 6) (bulk : Bool) : t.fab.links[j].waits bulk = s.fab.links[j].waits bulk := by
  unfold LinkSt.waits
  by_cases hj : j = k
  · subst hj
    rw [h.link, h.counted.urgIn, h.counted.bulkIn]
  · rw [h.other hj]

theorem now (h : Counted s t k f) : t.now = s.now := congrArg (·.now) (h.frame.keep .clk (by decide))

theorem linkActive (h : Counted s t k f) (j : Fin 6) : t.linkActive j = s.linkActive j := by
  unfold State.linkActive
  rw [h.state]

theorem route (h : Counted s t k f) (dst : Nat) : t.route dst = s.route dst := by
  unfold State.route
  have hactive : t.linkActive = s.linkActive := funext h.linkActive
  rw [hactive, h.fab, h.frame.keep .regs (by decide)]

theorem trans (h : Counted s t k f) (h' : Counted t u k g) : Counted s u k (fun l => g (f l)) where
  frame := Frame.trans h.frame h'.frame
  fab := by
    rw [h'.fab, h.fab, vset_vset]
  counted := ⟨fun l => (h'.counted.state _).trans (h.counted.state l), fun l => (h'.counted.upAt _).trans (h.counted.upAt l),
    fun l => (h'.counted.urgIn _).trans (h.counted.urgIn l), fun l => (h'.counted.bulkIn _).trans (h.counted.bulkIn l),
    fun l => (h'.counted.bulkRx _).trans (h.counted.bulkRx l)⟩

theorem linkIdle (h : Counted s t k f) (hidle : s.linkIdle j) : t.linkIdle j := by
  refine ⟨fun o ho hk => ?_, fun i => ?_⟩
  · rw [h.now]
    exact hidle.1 o (by rw [← h.out]; exact ho) hk
  · exact ⟨(h.waits i false).trans (hidle.2 i).1, (h.waits i true).trans (hidle.2 i).2⟩

end Counted

theorem Counted.refl (s : State) (k : Fin 6) : Counted s s k id := by
  refine ⟨Frame.refl .., ?_, fun _ => rfl, fun _ => rfl, fun _ => rfl, fun _ => rfl, fun _ => rfl⟩
  rw [vset_same _ _ rfl]

theorem Counted.ticked (s : State) (k : Fin 6) (tc : Nat) : Counted s (s.modLink k (LinkSt.ticked tc)) k (LinkSt.ticked tc) :=
  ⟨Frame.next (Frame.modLink ..) (by decide) (Frame.refl ..), rfl, fun _ => rfl, fun _ => rfl, fun _ => rfl, fun _ => rfl, fun _ => rfl⟩

/-- A bad packet on a link (R391), without the record of the run it stands in. -/
def LinkSt.badOne (now : Nat) (l : LinkSt) : LinkSt := { l with bad := satInc 8 l.bad, badAt := lastSecond now l.badAt ++ [now] }

theorem Counted.badPacket (s : State) (k : Fin 6) : ∃ r, Counted s (s.badPacket k) k (fun l => LinkSt.runSet 6 r (LinkSt.badOne s.now l)) := by
  obtain ⟨r, hfab⟩ := linkErr_fab (s.modLink k (LinkSt.badOne s.now)) k 6
  refine ⟨r, Frame.badPacket .., ?_, fun _ => rfl, fun _ => rfl, fun _ => rfl, fun _ => rfl, fun _ => rfl⟩
  have hbad : s.badPacket k = (s.modLink k (LinkSt.badOne s.now)).linkErr k 6 := rfl
  rw [hbad, hfab]
  exact congrArg (fun v => { s.fab with links := v }) (vset_vset ..)

/-- What a link counts of a packet by its verdict. -/
def countsBad (b : List Byte) (eep : Bool) (l m : LinkSt) : Prop :=
  if packetOk false b = false ∧ eep = false then m.bad = satInc 8 l.bad else m.bad = l.bad

theorem countsBad_same {l : LinkSt} (h : ¬(packetOk false b = false ∧ eep = false)) : countsBad b eep l l := by
  unfold countsBad
  rw [if_neg h]

/-- A packet that is not handled where it has come: its verdict is counted, and it is routed where it is for others. -/
theorem packetIn_counted (hsel : s.regs.FAB_REC_SEL = 0) (hnot : packetOk false b = false ∨ eep = true ∨ isHop (byteAt b 2) = false) :
    ∃ (u : State) (f : LinkSt → LinkSt), Counted s u k f ∧ (∀ l, (f l).tc = l.tc) ∧ countsBad b eep s.fab.links[k] u.fab.links[k] ∧
      s.packetIn k false eep b = if !isHop (byteAt b 2) && u.linkActive k && (byteAt b 0).testBit 7
        then u.routed k false eep (packetOk false b && !eep) b else u := by
  have hif (u : State) (hu : isHop (byteAt b 2) = false ∨ (packetOk false b && !eep) = false) :
      (if isHop (byteAt b 2) then (if packetOk false b && !eep then u.deliver k b else u)
        else if u.linkActive k && (byteAt b 0).testBit 7 && (packetOk false b && !eep || !false) then u.routed k false eep (packetOk false b && !eep) b else u) =
      if !isHop (byteAt b 2) && u.linkActive k && (byteAt b 0).testBit 7 then u.routed k false eep (packetOk false b && !eep) b else u := by
    cases hh : isHop (byteAt b 2)
    · rw [if_neg Bool.false_ne_true, Bool.not_false, Bool.or_true, Bool.and_true, Bool.true_and]
    · have hg := hu.resolve_left (by rw [hh]; decide)
      rw [if_pos rfl, hg, if_neg Bool.false_ne_true, Bool.not_true, Bool.false_and, Bool.false_and, if_neg Bool.false_ne_true]
  have hhop : isHop (byteAt b 2) = false ∨ (packetOk false b && !eep) = false := by
    rcases hnot with h | h | h
    · exact .inr (by rw [h]; rfl)
    · exact .inr (by rw [h, Bool.not_true, Bool.and_false])
    · exact .inl h
  unfold State.packetIn
  dsimp only
  rw [frameFab_off hsel]
  cases hok : packetOk false b
  · cases eep
    · obtain ⟨r, hcounted⟩ := Counted.badPacket s k
      refine ⟨s.badPacket k, _, hcounted, fun _ => rfl, ?_, ?_⟩
      · unfold countsBad
        rw [if_pos ⟨hok, rfl⟩, hcounted.link]
        rfl
      · have h := hif (s.badPacket k) hhop
        rw [hok] at h
        exact h
    · refine ⟨s, id, .refl s k, fun _ => rfl, countsBad_same (fun h => by cases h.2), ?_⟩
      have h := hif s hhop
      rw [hok] at h
      exact h
  · refine ⟨s, id, .refl s k, fun _ => rfl, countsBad_same (fun h => by rw [hok] at h; cases h.1), ?_⟩
    have h := hif s hhop
    rw [hok] at h
    cases eep
    · exact h
    · exact h

/-! ## A packet for another device -/

/-- A packet for one other device, from the state in which its verdict has been counted. -/
theorem routed_link {good : Bool} {dst : Nat} (hcast : (byteAt b 0).testBit 6 = false) (hroute : s.route (byteAt b 0 % 64) = .link dst) :
    s.routed k false eep good b = s.passOn k false eep b [dst] := by
  unfold State.routed
  rw [hcast, if_neg Bool.false_ne_true, hroute]

/-- A packet that waits for one link leaves where the link takes it now, before the wait is over. -/
theorem leaves_one {w : WaitPkt} (hlinks : w.links = [j.val]) :
    s.leaves false w = if s.linkActive j && decide (s.takesAt j false w.at' ≤ s.now) && decide (s.takesAt j false w.at' < w.at' + 100000)
      then ([], s.linkPut j false w.eep w.bytes (s.takesAt j false w.at')) else ([j.val], s) := by
  have hlink : Fin.ofNat 6 j.val = j := Fin.ext (Nat.mod_eq_of_lt j.isLt)
  unfold State.leaves
  rw [hlinks]
  simp only [List.foldl_cons, List.foldl_nil, hlink]
  rfl

theorem passOn_one (hhops : byteAt b 3 < 14) (hnone : s.fab.links[k].waits false = none) :
    s.passOn k false eep b [j.val] = if s.linkActive j && decide (s.takesAt j false s.now ≤ s.now) && decide (s.takesAt j false s.now < s.now + 100000)
      then s.linkPut j false eep (hopped b) (s.takesAt j false s.now)
      else s.putWait k false (some { at' := s.now, bytes := hopped b, links := [j.val], eep := eep }) := by
  have hflush : s.waitFlush k false = s := by
    unfold State.waitFlush
    rw [hnone]
  have hone := leaves_one (s := s) (w := { at' := s.now, bytes := hopped b, links := [j.val], eep := eep }) rfl
  dsimp only at hone
  unfold State.passOn
  rw [List.isEmpty_cons, if_neg Bool.false_ne_true, if_neg (by omega), hflush]
  dsimp only
  rw [hone]
  split
  · rfl
  · rfl

theorem takesAt_idle (hidle : s.linkIdle j) (hup : s.fab.links[j].upAt ≤ s.now) : s.takesAt j false s.now = s.now := by
  have h := hidle.txTill true
  unfold State.takesAt
  rw [Bool.not_false]
  omega

/-- A packet for others, from the state in which its verdict has been counted. -/
theorem exec_others (hrun : s.running = true) (hstate : s.fab.links[k].state = .active) (htc : s.fab.links[k].tc ≤ 255)
    (hnone : ∀ (j : Fin 6) (bulk : Bool), s.fab.links[j].waits bulk = none) (hsel : s.regs.FAB_REC_SEL = 0)
    (hbit : (byteAt b 0).testBit 7 = true) (hhop : isHop (byteAt b 2) = false) :
    ∃ (u : State) (f : LinkSt → LinkSt), Counted (s.advance dt) u k f ∧ countsBad b eep s.fab.links[k] u.fab.links[k] ∧
      exec (.urgentPacketReceived dt k b 0 eep) s = done (u.routed k false eep (packetOk false b && !eep) b) := by
  have hexec := exec_urgent_eq (b := b) (eep := eep) (dt := dt) hrun hstate hnone 0
  rw [modLink_ticked_zero (s := s.advance dt) htc] at hexec
  obtain ⟨u, f, hcounted, -, hbad, hstep⟩ := packetIn_counted (s := s.advance dt) (k := k) (b := b) (eep := eep) hsel (.inr (.inr hhop))
  have hactive : u.linkActive k = true := by
    rw [hcounted.linkActive]
    exact beq_iff_eq.2 hstate
  rw [hhop, hactive, hbit] at hstep
  exact ⟨u, f, hcounted, hbad, hexec.trans (congrArg done (hstep.trans (if_pos rfl)))⟩

/-- A packet that leaves on another link at once. -/
theorem exec_passed {u : State} {f : LinkSt → LinkSt} (hcounted : Counted (s.advance dt) u k f) (hbad : countsBad b eep s.fab.links[k] u.fab.links[k])
    (hsel : s.regs.FAB_REC_SEL = 0) (hnone : ∀ (j : Fin 6) (bulk : Bool), s.fab.links[j].waits bulk = none)
    (hexec : exec (.urgentPacketReceived dt k b 0 eep) s = done (u.routed k false eep (packetOk false b && !eep) b))
    (hcast : (byteAt b 0).testBit 6 = false) (hroute : s.route (byteAt b 0 % 64) = .link j.val) (hhops : byteAt b 3 < 14)
    (hactive : s.fab.links[j].state = .active) (hup : s.fab.links[j].upAt ≤ (s.advance dt).now) (hidle : s.linkIdle j) :
    ∃ t, exec (.urgentPacketReceived dt k b 0 eep) s = .next t ∧ t.but s = { s.advance dt with fab := t.fab, recs := t.recs } ∧ OnlyLink s t k ∧
      countsBad b eep s.fab.links[k] t.fab.links[k] ∧
      ∃ till, t.fab.out = s.fab.out ++ [{ link := j.val, bulk := false, bytes := hopped b, eep := eep, at' := (s.advance dt).now, till := till }] := by
  have hidle' : u.linkIdle j := hcounted.linkIdle (hidle.advance dt)
  have hnow : u.now = (s.advance dt).now := hcounted.now
  have htakes : u.takesAt j false u.now = u.now := takesAt_idle hidle' (by rw [hcounted.upAt, hnow]; exact hup)
  have hgate : (u.linkActive j && decide (u.takesAt j false u.now ≤ u.now) && decide (u.takesAt j false u.now < u.now + 100000)) = true := by
    rw [htakes, hcounted.linkActive, show (s.advance dt).linkActive j = true from beq_iff_eq.2 hactive, decide_eq_true (Nat.le_refl _),
      decide_eq_true (by omega)]
    rfl
  have hstep : u.routed k false eep (packetOk false b && !eep) b = u.linkPut j false eep (hopped b) u.now := by
    rw [routed_link hcast ((hcounted.route _).trans hroute), passOn_one hhops ((hcounted.waits k false).trans (hnone k false)), if_pos hgate, htakes]
  have hput : u.linkPut j false eep (hopped b) u.now = u.onFab (fun x => { x with out := x.out ++ [u.outNow j eep (hopped b)] }) := by
    rw [linkPut_idle hidle', frameFab_off (by rw [hcounted.frame.keep .regs (by decide)]; exact hsel)]
  have hnext := exec_next_of hexec (hstep.trans hput)
  have honly := hcounted.onlyLink
  refine ⟨_, hnext, ?_, honly, hbad, u.now + u.fab.links[j].sendNs (hopped b).length, ?_⟩
  · rw [hcounted.frame.eq_merge]
    rfl
  · show u.fab.out ++ _ = _
    rw [hcounted.out, ← hnow]
    rfl

/-- A packet whose link does not take it now waits. -/
theorem exec_waiting {u : State} {f : LinkSt → LinkSt} (hcounted : Counted (s.advance dt) u k f) (hbad : countsBad b eep s.fab.links[k] u.fab.links[k])
    (hnone : ∀ (j : Fin 6) (bulk : Bool), s.fab.links[j].waits bulk = none)
    (hexec : exec (.urgentPacketReceived dt k b 0 eep) s = done (u.routed k false eep (packetOk false b && !eep) b))
    (hcast : (byteAt b 0).testBit 6 = false) (hroute : s.route (byteAt b 0 % 64) = .link j.val) (hhops : byteAt b 3 < 14)
    (hbusy : s.fab.links[j].state ≠ .active ∨ (s.advance dt).now < s.fab.links[j].upAt) :
    ∃ t, exec (.urgentPacketReceived dt k b 0 eep) s = .next t ∧ t.but s = { s.advance dt with fab := t.fab, recs := t.recs } ∧ OnlyLink s t k ∧
      countsBad b eep s.fab.links[k] t.fab.links[k] ∧ t.fab.out = s.fab.out ∧
      t.fab.links[k].urgIn = some { at' := (s.advance dt).now, bytes := hopped b, links := [j.val], eep := eep } := by
  have hnow : u.now = (s.advance dt).now := hcounted.now
  have hgate : (u.linkActive j && decide (u.takesAt j false u.now ≤ u.now) && decide (u.takesAt j false u.now < u.now + 100000)) = false := by
    rcases hbusy with h | h
    · rw [hcounted.linkActive, show (s.advance dt).linkActive j = false by simpa [State.linkActive] using h]
      rfl
    · have hup : u.fab.links[j].upAt = s.fab.links[j].upAt := hcounted.upAt j
      rw [decide_eq_false (by unfold State.takesAt; omega), Bool.and_false, Bool.false_and]
  have hstep : u.routed k false eep (packetOk false b && !eep) b =
      u.putWait k false (some { at' := (s.advance dt).now, bytes := hopped b, links := [j.val], eep := eep }) := by
    rw [routed_link hcast ((hcounted.route _).trans hroute), passOn_one hhops ((hcounted.waits k false).trans (hnone k false)), hgate,
      if_neg Bool.false_ne_true, hnow]
  have hnext := exec_next_of hexec hstep
  let w : WaitPkt := { at' := (s.advance dt).now, bytes := hopped b, links := [j.val], eep := eep }
  have hself : (u.putWait k false (some w)).fab.links[k] = { u.fab.links[k] with urgIn := some w } := (vset_self ..).trans (if_neg Bool.false_ne_true)
  refine ⟨_, hnext, ?_, ⟨fun i hi => ?_, by exact hcounted.onlyLink.2.1, by exact hcounted.onlyLink.2.2⟩, ?_, hcounted.out, ?_⟩
  · rw [hcounted.frame.eq_merge]
    rfl
  · exact (vset_ne _ _ _ _ (Ne.symm hi)).trans (hcounted.other hi)
  · show countsBad b eep s.fab.links[k] (u.putWait k false (some w)).fab.links[k]
    rw [hself]
    exact hbad
  · exact congrArg LinkSt.urgIn hself

/-! ## Discards -/

/-- A discarded packet is counted by its cause. -/
theorem fabDiscard_fab (cause : Fin 4) (dst : Nat) : ∃ a, (s.fabDiscard cause dst).fab = { s.fab with
    discHops := if cause = 1 then satInc 16 s.fab.discHops else s.fab.discHops
    discUnreach := if cause = 2 then satInc 16 s.fab.discUnreach else s.fab.discUnreach
    discWait := if cause = 3 then satInc 16 s.fab.discWait else s.fab.discWait, discAt := a } := by
  let u := s.onFab (fun x => { x with
    discHops := if cause = 1 then satInc 16 x.discHops else x.discHops
    discUnreach := if cause = 2 then satInc 16 x.discUnreach else x.discUnreach
    discWait := if cause = 3 then satInc 16 x.discWait else x.discWait })
  have F : Frame [.recs] u (u.event u.tb Unit.dev 0x0E06 cause.val dst) := Frame.event ..
  by_cases hfree : (match s.fab.discAt[cause] with | some t => decide (t + runNs ≤ s.now) | none => true) = true
  · have hdisc : s.fabDiscard cause dst = (u.event u.tb Unit.dev 0x0E06 cause.val dst).onFab (fun x => { x with discAt := x.discAt.set cause (some s.now) }) :=
      if_pos (beq_iff_eq.2 hfree)
    refine ⟨s.fab.discAt.set cause (some s.now), ?_⟩
    rw [hdisc, State.onFab, F.keep .fab (by decide)]
    rfl
  · have hdisc : s.fabDiscard cause dst = u := if_neg fun h => hfree (beq_iff_eq.1 h)
    exact ⟨s.fab.discAt, by rw [hdisc]; rfl⟩

theorem exec_tooFar {u : State} {f : LinkSt → LinkSt} (hcounted : Counted (s.advance dt) u k f) (hbad : countsBad b eep s.fab.links[k] u.fab.links[k])
    (hexec : exec (.urgentPacketReceived dt k b 0 eep) s = done (u.routed k false eep (packetOk false b && !eep) b))
    (hcast : (byteAt b 0).testBit 6 = false) (hroute : s.route (byteAt b 0 % 64) = .link j.val) (hhops : 14 ≤ byteAt b 3) :
    ∃ t, exec (.urgentPacketReceived dt k b 0 eep) s = .next t ∧ t.fab.discHops = satInc 16 s.fab.discHops ∧ t.fab.out = s.fab.out ∧
      OnlyLink s t k ∧ countsBad b eep s.fab.links[k] t.fab.links[k] := by
  have hpass : u.passOn k false eep b [j.val] = u.fabDiscard 1 (byteAt b 0 % 64) := by
    unfold State.passOn
    rw [List.isEmpty_cons, if_neg Bool.false_ne_true, if_pos (by omega)]
  obtain ⟨a, hfab⟩ := fabDiscard_fab (s := u) 1 (byteAt b 0 % 64)
  have honly := hcounted.onlyLink
  have hdisc : u.fab.discHops = s.fab.discHops := by
    rw [hcounted.fab]
    rfl
  refine ⟨_, exec_next_of hexec ((routed_link hcast ((hcounted.route _).trans hroute)).trans hpass), ?_⟩
  show (u.fabDiscard 1 (byteAt b 0 % 64)).fab.discHops = _ ∧ (u.fabDiscard 1 (byteAt b 0 % 64)).fab.out = _ ∧
    OnlyLink s (u.fabDiscard 1 (byteAt b 0 % 64)).settle k ∧ countsBad b eep s.fab.links[k] (u.fabDiscard 1 (byteAt b 0 % 64)).fab.links[k]
  have honly' : OnlyLink s (u.fabDiscard 1 (byteAt b 0 % 64)).settle k := by
    unfold OnlyLink
    rw [State.settle_fab, hfab]
    exact honly
  refine ⟨?_, ?_, honly', ?_⟩
  · rw [hfab, ← hdisc]
    rfl
  · rw [hfab]
    exact hcounted.out
  · rw [hfab]
    exact hbad

theorem exec_unreachable {u : State} {f : LinkSt → LinkSt} (hcounted : Counted (s.advance dt) u k f) (hbad : countsBad b eep s.fab.links[k] u.fab.links[k])
    (hexec : exec (.urgentPacketReceived dt k b 0 eep) s = done (u.routed k false eep (packetOk false b && !eep) b))
    (hcast : (byteAt b 0).testBit 6 = false) (hroute : s.route (byteAt b 0 % 64) = .unreach) :
    ∃ t, exec (.urgentPacketReceived dt k b 0 eep) s = .next t ∧ t.fab.discUnreach = satInc 16 s.fab.discUnreach ∧ t.fab.out = s.fab.out ∧
      OnlyLink s t k ∧ countsBad b eep s.fab.links[k] t.fab.links[k] := by
  have hpass : u.routed k false eep (packetOk false b && !eep) b = u.fabDiscard 2 (byteAt b 0 % 64) := by
    have hroute' := (hcounted.route (byteAt b 0 % 64)).trans hroute
    unfold State.routed
    rw [hcast, if_neg Bool.false_ne_true, hroute']
  obtain ⟨a, hfab⟩ := fabDiscard_fab (s := u) 2 (byteAt b 0 % 64)
  have honly := hcounted.onlyLink
  have hdisc : u.fab.discUnreach = s.fab.discUnreach := by
    rw [hcounted.fab]
    rfl
  refine ⟨_, exec_next_of hexec hpass, ?_⟩
  have honly' : OnlyLink s (u.fabDiscard 2 (byteAt b 0 % 64)).settle k := by
    unfold OnlyLink
    rw [State.settle_fab, hfab]
    exact honly
  show (u.fabDiscard 2 (byteAt b 0 % 64)).fab.discUnreach = _ ∧ (u.fabDiscard 2 (byteAt b 0 % 64)).fab.out = _ ∧
    OnlyLink s (u.fabDiscard 2 (byteAt b 0 % 64)).settle k ∧ countsBad b eep s.fab.links[k] (u.fabDiscard 2 (byteAt b 0 % 64)).fab.links[k]
  refine ⟨?_, ?_, honly', ?_⟩
  · rw [hfab, ← hdisc]
    rfl
  · rw [hfab]
    exact hcounted.out
  · rw [hfab]
    exact hbad

/-- A packet that fails a check and goes nowhere: its verdict and the time-codes among its characters are counted. -/
theorem exec_failed {tc : Nat} (hrun : s.running = true) (hstate : s.fab.links[k].state = .active)
    (hnone : ∀ (j : Fin 6) (bulk : Bool), s.fab.links[j].waits bulk = none) (hsel : s.regs.FAB_REC_SEL = 0) (hok : packetOk false b = false)
    (hhere : (byteAt b 0).testBit 7 = false ∨ isHop (byteAt b 2) = true) :
    ∃ t, exec (.urgentPacketReceived dt k b tc eep) s = .next t ∧ t.but s = { s.advance dt with fab := t.fab, recs := t.recs } ∧
      OnlyLink s t k ∧ t.fab.out = s.fab.out ∧ countsBad b eep s.fab.links[k] t.fab.links[k] ∧
      t.fab.links[k].tc = min 255 (s.fab.links[k].tc + tc) ∧ t.fab.links[k].state = .active := by
  have hexec := exec_urgent_eq (b := b) (eep := eep) (dt := dt) hrun hstate hnone tc
  have hticked := Counted.ticked (s.advance dt) k tc
  obtain ⟨u, f, hcounted, htc, hbad, hstep⟩ := packetIn_counted (s := (s.advance dt).modLink k (LinkSt.ticked tc)) (k := k) (b := b) (eep := eep) hsel
    (.inl hok)
  have hnot : (!isHop (byteAt b 2) && u.linkActive k && (byteAt b 0).testBit 7) = false := by
    rcases hhere with h | h
    · rw [h, Bool.and_false]
    · rw [h]
      rfl
  rw [hnot, if_neg Bool.false_ne_true] at hstep
  have hall := hticked.trans hcounted
  have hk : u.fab.links[k] = f (LinkSt.ticked tc s.fab.links[k]) := hall.link
  rw [hticked.link] at hbad
  refine ⟨_, exec_next_of hexec hstep, ?_, hall.onlyLink, hall.out, hbad, ?_, (hall.state k).trans hstate⟩
  · rw [hall.frame.eq_merge]
    rfl
  · show u.fab.links[k].tc = _
    rw [hk, htc]
    rfl

/-! ## Segments of a bulk packet -/

/-- A link with the segments of a bulk packet so far. -/
def LinkSt.segments (l : LinkSt) (x : Option (List Byte)) : LinkSt := { l with bulkRx := x }

theorem exec_segment_eq (hrun : s.running = true) (hstate : s.fab.links[k].state = .active)
    (hnone : ∀ (j : Fin 6) (bulk : Bool), s.fab.links[j].waits bulk = none) :
    exec (.bulkSegmentReceived dt k b eep) s = done ((s.advance dt).segmentIn k b eep) := by
  have hgate : ((s.advance dt).running && (s.advance dt).linkActive k) = true := Bool.and_eq_true_iff.2 ⟨hrun, beq_iff_eq.2 hstate⟩
  have hdrain : (s.advance dt).waitDrain = s.advance dt := waitDrain_of_none hnone
  have hexec : exec (.bulkSegmentReceived dt k b eep) s = done ((s.advance dt).waitDrain.segmentIn k b eep) := congrArg done (if_pos hgate)
  rw [hexec, hdrain]

theorem exec_segment_broken (hrun : s.running = true) (hstate : s.fab.links[k].state = .active)
    (hnone : ∀ (j : Fin 6) (bulk : Bool), s.fab.links[j].waits bulk = none) :
    ∃ t, exec (.bulkSegmentReceived dt k b true) s = .next t ∧
      t.but s = { s.advance dt with fab := { s.fab with links := vset s.fab.links k (fun l => { l with bulkRx := none }) } } := by
  have hstep : (s.advance dt).segmentIn k b true = (s.advance dt).modLink k (fun l => { l with bulkRx := none }) := by
    unfold State.segmentIn
    exact if_pos rfl
  exact ⟨_, exec_next_of (exec_segment_eq hrun hstate hnone) hstep, rfl⟩

theorem segmentIn_first (hne : b ≠ []) (hhead : byteAt b 0 = 0x40) (hrx : s.fab.links[k].bulkRx = none) (hlen : b.length ≤ 4117) :
    s.segmentIn k b false = s.modLink k (fun l => { l with bulkRx := some (b.drop 1), bulkAt := s.tb }) := by
  have hfits : ¬4116 < ([] ++ b.drop 1).length := by
    rw [List.nil_append, List.length_drop]
    omega
  have hok : ¬(b.isEmpty = true ∨ 0x40 % 32 ≠ 0 ∨ Nat.testBit 0x40 7 = true ∨ (none : Option (List Byte)).isSome = Nat.testBit 0x40 6) := by
    rw [List.isEmpty_iff]
    rintro (h | h | h | h)
    · exact hne h
    · exact h rfl
    · exact absurd h (by decide)
    · exact absurd h (by decide)
  unfold State.segmentIn
  rw [hhead, hrx]
  dsimp only [Option.getD]
  rw [if_neg Bool.false_ne_true, if_neg hok, if_neg hfits, if_neg (show ¬Nat.testBit 0x40 5 = true by decide), if_pos (show Nat.testBit 0x40 6 = true by decide)]
  exact congrArg (fun v => ({ s with fab := { s.fab with links := v } } : State))
    (vset_vset s.fab.links k (fun l => { l with bulkAt := s.tb }) (fun l => { l with bulkRx := some ([] ++ b.drop 1) }))

theorem exec_segment_first (hrun : s.running = true) (hstate : s.fab.links[k].state = .active)
    (hnone : ∀ (j : Fin 6) (bulk : Bool), s.fab.links[j].waits bulk = none) (hne : b ≠ []) (hhead : byteAt b 0 = 0x40)
    (hrx : s.fab.links[k].bulkRx = none) (hlen : b.length ≤ 4117) :
    ∃ t, exec (.bulkSegmentReceived dt k b false) s = .next t ∧
      t.but s = { s.advance dt with fab := { s.fab with links := vset s.fab.links k (fun l => { l with bulkRx := some (b.drop 1), bulkAt := s.tbAt dt }) } } :=
  ⟨_, exec_next_of (exec_segment_eq hrun hstate hnone) (segmentIn_first (s := s.advance dt) hne hhead hrx hlen), rfl⟩

theorem exec_segment_order (hrun : s.running = true) (hstate : s.fab.links[k].state = .active)
    (hnone : ∀ (j : Fin 6) (bulk : Bool), s.fab.links[j].waits bulk = none) (horder : s.fab.links[k].bulkRx.isSome = (byteAt b 0).testBit 6) :
    ∃ t, exec (.bulkSegmentReceived dt k b false) s = .next t ∧
      OnlyLink s t k ∧ t.fab.links[k].bulkRx = none ∧ t.fab.links[k].bad = satInc 8 s.fab.links[k].bad ∧ t.fab.out = s.fab.out := by
  let v := (s.advance dt).modLink k (fun l => { l with bulkRx := none })
  have hstep : (s.advance dt).segmentIn k b false = v.badPacket k := by
    unfold State.segmentIn
    dsimp only
    rw [if_neg Bool.false_ne_true, if_pos (.inr (.inr (.inr horder)))]
  obtain ⟨r, hcounted⟩ := Counted.badPacket v k
  have hself : v.fab.links[k] = { s.fab.links[k] with bulkRx := none } := vset_self ..
  refine ⟨_, exec_next_of (exec_segment_eq hrun hstate hnone) hstep, ⟨fun j hj => ?_, ?_, ?_⟩, ?_, ?_, hcounted.out⟩
  · exact (hcounted.other hj).trans (vset_ne _ _ _ _ (Ne.symm hj))
  · exact hcounted.onlyLink.2.1
  · exact hcounted.onlyLink.2.2
  · show (v.badPacket k).fab.links[k].bulkRx = none
    rw [hcounted.link, hself]
    rfl
  · show (v.badPacket k).fab.links[k].bad = _
    rw [hcounted.link, hself]
    rfl

/-! ## The end of a wait -/

theorem waitTimeout_due {bulk : Bool} {w : WaitPkt} (hrun : s.running = true) (hw : s.fab.links[k].waits bulk = some w)
    (hlong : w.at' + (if bulk then 10000000 else 100000) ≤ s.now) :
    s.waitTimeout k bulk = (s.putWait k bulk none).fabDiscard 3 (byteAt w.bytes 0 % 64) := by
  have hdue : (s.running && decide (w.at' + waitLimit bulk ≤ s.now)) = true := by
    rw [hrun, decide_eq_true (show w.at' + waitLimit bulk ≤ s.now from hlong)]
    rfl
  unfold State.waitTimeout
  rw [hw]
  exact if_pos hdue

theorem exec_waitTimeout {bulk : Bool} {w : WaitPkt} (hrun : s.running = true) (hw : s.fab.links[k].waits bulk = some w)
    (hlong : w.at' + (if bulk then 10000000 else 100000) ≤ (s.advance dt).now) (hdrain : (s.advance dt).waitDrain = s.advance dt) :
    ∃ t, exec (.packetWaitTimeout dt k bulk) s = .next t ∧ t.but s = { s.advance dt with fab := t.fab, recs := t.recs } ∧ OnlyLink s t k ∧
      t.fab.links[k].waits bulk = none ∧ t.fab.discWait = satInc 16 s.fab.discWait ∧ t.fab.out = s.fab.out := by
  have hexec : exec (.packetWaitTimeout dt k bulk) s = done ((s.advance dt).waitTimeout k bulk) := by
    show done ((s.advance dt).waitDrain.waitTimeout k bulk) = _
    rw [hdrain]
  have hstep := waitTimeout_due (s := s.advance dt) (k := k) hrun (by rw [State.advance_fab]; exact hw) hlong
  let u := (s.advance dt).putWait k bulk none
  obtain ⟨a, hfab⟩ := fabDiscard_fab (s := u) 3 (byteAt w.bytes 0 % 64)
  have F := Frame.fabDiscard u 3 (byteAt w.bytes 0 % 64)
  have hlinks : (u.fabDiscard 3 (byteAt w.bytes 0 % 64)).fab.links =
      vset s.fab.links k (fun l => if bulk then { l with bulkIn := none } else { l with urgIn := none }) := by
    rw [hfab]
    rfl
  obtain ⟨honly, hk⟩ := OnlyLink.of_vset (s := s) hlinks (by rw [hfab]; rfl) (by rw [hfab]; rfl)
  refine ⟨_, exec_next_of hexec hstep, ?_, honly, ?_, ?_, ?_⟩
  · rw [F.eq_merge]
    rfl
  · show (u.fabDiscard 3 (byteAt w.bytes 0 % 64)).fab.links[k].waits bulk = none
    rw [hk]
    cases bulk
    · rfl
    · rfl
  · show (u.fabDiscard 3 (byteAt w.bytes 0 % 64)).fab.discWait = _
    rw [hfab]
    rfl
  · show (u.fabDiscard 3 (byteAt w.bytes 0 % 64)).fab.out = _
    rw [hfab]
    rfl

end

/-- Settles O42: what a packet, a segment and the end of a wait leave on the link they come by. -/
theorem packetsOnALink : Obligations.PacketsOnALink := by
  unfold Obligations.PacketsOnALink
  intro s dt k hrun hstate
  refine ⟨fun hnone hsel htc => ⟨fun b eep => ?_, fun b eep => ⟨?_, ?_, ?_⟩⟩, fun bulk w hw hlong hdrain => exec_waitTimeout hrun hw hlong hdrain⟩
  · intro now payload sent bad others
    refine ⟨fun c hgood heep hc => ?_, fun j ⟨hbit, hcast, hhop⟩ hroute hhops => ?_, fun j ⟨hbit, hcast, hhop⟩ hroute hhops => ?_,
      fun ⟨hbit, hcast, hhop⟩ hroute => ?_, fun hok hhere tc => exec_failed hrun hstate hnone hsel hok hhere⟩
    · subst heep
      obtain ⟨hhop, hmessage⟩ := exec_hop_message hrun hsel hgood hc
      have hexec := exec_urgent_eq (b := b) (eep := false) (dt := dt) hrun hstate hnone 0
      rw [modLink_ticked_zero (s := s.advance dt) htc, packetIn_hop (s := s.advance dt) hsel hgood hhop] at hexec
      exact ⟨_, exec_next_of hexec rfl, exec_next_of hmessage rfl⟩
    · obtain ⟨u, f, hcounted, hbad, hexec⟩ := exec_others (b := b) (eep := eep) (dt := dt) hrun hstate htc hnone hsel hbit hhop
      exact ⟨fun hactive hup hidle => exec_passed hcounted hbad hsel hnone hexec hcast hroute hhops hactive hup hidle,
        fun hbusy => exec_waiting hcounted hbad hnone hexec hcast hroute hhops hbusy⟩
    · obtain ⟨u, f, hcounted, hbad, hexec⟩ := exec_others (b := b) (eep := eep) (dt := dt) hrun hstate htc hnone hsel hbit hhop
      exact exec_tooFar hcounted hbad hexec hcast hroute hhops
    · obtain ⟨u, f, hcounted, hbad, hexec⟩ := exec_others (b := b) (eep := eep) (dt := dt) hrun hstate htc hnone hsel hbit hhop
      exact exec_unreachable hcounted hbad hexec hcast hroute
  · rintro rfl
    exact exec_segment_broken hrun hstate hnone
  · rintro rfl hne hhead hrx hlen
    exact exec_segment_first hrun hstate hnone hne hhead hrx hlen
  · rintro rfl _ horder
    exact exec_segment_order hrun hstate hnone horder

end Sys2Proof.Machine
end

section
/-! PROOF. The control token (R406 to R412, R416): requested, decided, released, expired; quarantine and its end. -/
set_option Elab.async false

namespace Sys2Proof.Machine

section
variable {s t u : State} {o : Origin} {dt : Nat}

/-! ## Who holds the token -/

/-- The token where it leaves its holder. -/
def Token.left (x : Token) (old : Origin) (now : Nat) (new : Option Origin) : Token :=
  { x with holder := new, lost := (old, now) :: x.lost.filter (fun l => l.1 != old) }

theorem tokenLeave_cp {old : Origin} {new : Option Origin} {why : Nat} {tie : Bool} (h : s.cp.token.holder = some old) :
    (s.tokenLeave new why tie).cp = { s.cp with token := s.cp.token.left old s.tb new } := by
  let u := s.onCp (fun x => { x with token := x.token.left old s.tb new })
  have hleave : s.tokenLeave new why tie = (u.tokenEvent new why tie (new.getD old)).stgEmpty.tokenStop := by
    unfold State.tokenLeave
    rw [h]
    rfl
  have F : Frame [.recs, .stg, .mode] u (u.tokenEvent new why tie (new.getD old)).stgEmpty.tokenStop :=
    Frame.next (Frame.tokenStop ..) (by decide) (Frame.next (Frame.stgEmpty ..) (by decide) (Frame.next (Frame.tokenEvent ..) (by decide) (Frame.refl ..)))
  rw [hleave]
  exact F.keep .cp (by decide)

theorem stgEmpty_bank (h : s.stg.commit = none) : s.stgEmpty.stg.bank = [] := by
  unfold State.stgEmpty
  rw [h, if_neg (by decide)]
  dsimp only
  have F := Frame.configRec (s.onStg (fun x => { x with bank := [] })) 0x0303 (b2n s.ld.alt) 0 s.stg.bank.length none
  exact congrArg Staging.bank (F.keep .stg (by decide))

theorem tokenLeave_bank {old : Origin} {new : Option Origin} {why : Nat} {tie : Bool} (h : s.cp.token.holder = some old) (hcommit : s.stg.commit = none) :
    (s.tokenLeave new why tie).stg.bank = [] := by
  let u := s.onCp (fun x => { x with token := x.token.left old s.tb new })
  have hleave : s.tokenLeave new why tie = (u.tokenEvent new why tie (new.getD old)).stgEmpty.tokenStop := by
    unfold State.tokenLeave
    rw [h]
    rfl
  have hstg : (u.tokenEvent new why tie (new.getD old)).stg = s.stg := (Frame.tokenEvent u new why tie (new.getD old)).keep .stg (by decide)
  have hstop : (u.tokenEvent new why tie (new.getD old)).stgEmpty.tokenStop.stg = (u.tokenEvent new why tie (new.getD old)).stgEmpty.stg :=
    (Frame.tokenStop ..).keep .stg (by decide)
  rw [hleave, hstop]
  exact stgEmpty_bank (by rw [hstg]; exact hcommit)

/-- A grant leaves the token with its new holder, the lease renewed, and what waits as it was. -/
theorem tokenGrant_cp {tie : Bool} : (s.tokenGrant o tie).cp.token.holder = some o ∧ (s.tokenGrant o tie).cp.token.renewed = s.tb ∧
    (s.tokenGrant o tie).cp.token.waiting = s.cp.token.waiting ∧ (s.tokenGrant o tie).cp.answers = s.cp.answers ∧
    (s.tokenGrant o tie).cp.suspended = s.cp.suspended := by
  obtain ⟨v, hv, hcp⟩ : ∃ v : State, s.tokenGrant o tie = v.tokenStop.onCp (fun x => { x with token := { x.token with
      renewed := v.tb, grants := satInc 16 x.token.grants, lost := x.token.lost.filter (fun l => l.1 != o) } }) ∧
      v.cp.token.holder = some o ∧ v.tb = s.tb ∧ v.cp.token.waiting = s.cp.token.waiting ∧ v.cp.answers = s.cp.answers ∧ v.cp.suspended = s.cp.suspended := by
    refine ⟨_, rfl, ?_⟩
    cases hh : s.cp.token.holder with
    | some old =>
      rw [if_pos (show (some old).isSome = true from rfl)]
      have htb : (s.tokenLeave (some o) 4 tie).tb = s.tb := congrArg (·.tb) ((Frame.tokenLeave ..).keep .clk (by decide))
      rw [tokenLeave_cp hh]
      exact ⟨rfl, htb, rfl, rfl, rfl⟩
    | none =>
      rw [if_neg (by decide)]
      have F := Frame.tokenEvent (s.onCp (fun x => { x with token := { x.token with holder := some o } })) (some o) 1 tie o
      refine ⟨?_, congrArg (·.tb) (F.keep .clk (by decide)), ?_, ?_, ?_⟩
      · rw [F.keep .cp (by decide)]
        rfl
      · rw [F.keep .cp (by decide)]
        rfl
      · rw [F.keep .cp (by decide)]
        rfl
      · rw [F.keep .cp (by decide)]
        rfl
  obtain ⟨h1, h2, h3, h4, h5⟩ := hcp
  have hstop : v.tokenStop.cp = v.cp := (Frame.tokenStop ..).keep .cp (by decide)
  rw [hv]
  show v.tokenStop.cp.token.holder = _ ∧ v.tb = _ ∧ v.tokenStop.cp.token.waiting = _ ∧ v.tokenStop.cp.answers = _ ∧ v.tokenStop.cp.suspended = _
  rw [hstop]
  exact ⟨h1, h2, h3, h4, h5⟩

/-! ## One request that waits -/

theorem tokenPick_one (r : TokenReq) : s.tokenPick [r] = (some (r, false), s) := by
  have htied : [r].filter (fun q => q.ctx.stamp == firstStamp [r]) = [r] := by
    have hfirst : firstStamp [r] = r.ctx.stamp := Nat.min_self _
    rw [List.filter_cons_of_pos (by rw [hfirst]; exact beq_self_eq_true _)]
    rfl
  unfold State.tokenPick
  rw [htied]

theorem tokenDecide_early {r : TokenReq} (hwait : s.cp.token.waiting = [r]) (hearly : s.tb < r.ctx.stamp + nsOf s.regs.CP_TOK_WIN) :
    s.tokenDecide = (s, []) := by
  have hdue : s.tokenDue r = false := decide_eq_false (Nat.not_le.2 hearly)
  unfold State.tokenDecide
  dsimp only
  rw [hwait, List.filter_cons_of_neg (by rw [hdue]; exact Bool.false_ne_true)]
  rfl

/-- What a decision of the one request that waits leaves: nothing that waits, and the answer that is due. -/
structure Decided (s : State) (r : TokenReq) (status : Nat) (v : State) : Prop where
  decide : s.tokenDecide = (v, [(r, status)])
  waiting : v.cp.token.waiting = []
  answers : v.cp.answers = s.cp.answers
  suspended : v.cp.suspended = s.cp.suspended
  frame : Frame [.mode, .stg, .recs, .cp] s v

theorem tokenDecide_grant {r : TokenReq} (hwait : s.cp.token.waiting = [r]) (hdue : r.ctx.stamp + nsOf s.regs.CP_TOK_WIN ≤ s.tb)
    (hfree : s.cp.token.holder = none ∨ (r.take = true ∧ s.regs.CP_CFG_TAKE_EN = true ∧ s.cp.token.holder ≠ some r.ctx.o)) :
    ∃ v, Decided s r St.ack v ∧ v.cp.token.holder = some r.ctx.o ∧ v.cp.token.renewed = s.tb := by
  have hdue' : s.tokenDue r = true := decide_eq_true hdue
  have hcontend : (if s.cp.token.holder.isNone then s.cp.token.waiting
      else if s.regs.CP_CFG_TAKE_EN then [r].filter (fun r => r.take && s.cp.token.holder != some r.ctx.o) else []) = [r] := by
    rcases hfree with h | ⟨htake, hen, hother⟩
    · rw [h]
      exact hwait
    · by_cases hnone : s.cp.token.holder.isNone = true
      · rw [if_pos hnone, hwait]
      · rw [if_neg hnone, hen, if_pos rfl, List.filter_cons_of_pos (by rw [htake]; simpa using hother)]
        rfl
  obtain ⟨h1, h2, h3, h4, h5⟩ := tokenGrant_cp (s := s) (o := r.ctx.o) (tie := false)
  have F := Frame.tokenGrant s r.ctx.o false
  have hself : (r == r) = true := beq_self_eq_true r
  refine ⟨(s.tokenGrant r.ctx.o false).onCp (fun x => { x with token := { x.token with
    waiting := x.token.waiting.filter (fun q => !(q == r || (s.tokenGrant r.ctx.o false).tokenDue q)) } }), ⟨?_, ?_, h4, h5, ?_⟩, h1, h2⟩
  · unfold State.tokenDecide
    dsimp only
    rw [hwait] at hcontend ⊢
    rw [List.filter_cons_of_pos hdue', List.filter_nil, hcontend, tokenPick_one]
    dsimp only
    rw [if_neg (by exact Bool.false_ne_true), List.filter_cons_of_pos (by rw [hself]; rfl), List.filter_nil, List.map_cons, List.map_nil, hself]
    rfl
  · show (s.tokenGrant r.ctx.o false).cp.token.waiting.filter _ = []
    rw [h3, hwait, List.filter_cons_of_neg (by rw [hself, Bool.true_or]; decide)]
    rfl
  · exact Frame.next (Frame.onCp ..) (by decide) F

theorem tokenDecide_busy {r : TokenReq} {q : Origin} (hwait : s.cp.token.waiting = [r]) (hdue : r.ctx.stamp + nsOf s.regs.CP_TOK_WIN ≤ s.tb)
    (htake : r.take = false) (hheld : s.cp.token.holder = some q) (hother : q ≠ r.ctx.o) :
    ∃ v, Decided s r St.busy v ∧ v.cp.token.holder = some q := by
  have hdue' : s.tokenDue r = true := decide_eq_true hdue
  have hcontend : (if s.regs.CP_CFG_TAKE_EN then [r].filter (fun r => r.take && some q != some r.ctx.o) else []) = [] := by
    split
    · rw [List.filter_cons_of_neg (by rw [htake]; exact Bool.false_ne_true)]
      rfl
    · rfl
  have hnot : s.holds r.ctx.o = false := by
    unfold State.holds
    rw [hheld]
    simpa using hother
  refine ⟨s.onCp (fun x => { x with token := { x.token with waiting := x.token.waiting.filter (fun r => !s.tokenDue r) } }), ⟨?_, ?_, rfl, rfl, ?_⟩, hheld⟩
  · unfold State.tokenDecide
    dsimp only
    rw [hwait, List.filter_cons_of_pos hdue', List.filter_nil, hheld]
    rw [if_neg (by exact Bool.false_ne_true), if_neg (by exact Bool.false_ne_true), hcontend]
    show (_, [(r, if s.holds r.ctx.o then St.ack else St.busy)]) = _
    rw [hnot]
    rfl
  · show s.cp.token.waiting.filter _ = []
    rw [hwait, List.filter_cons_of_neg (by rw [hdue']; decide)]
    rfl
  · exact Frame.next (Frame.onCp ..) (by decide) (Frame.refl ..)

theorem pumpBy_idle (hwait : s.cp.token.waiting = []) (hsus : s.cp.suspended = []) (n : Nat) : s.pumpBy n = s := by
  cases n with
  | zero => rfl
  | succ n =>
    have hdecide : s.tokenDecide = (s, []) := by
      unfold State.tokenDecide
      dsimp only
      rw [hwait]
      rfl
    have hnext : s.nextFrame = none := by
      unfold State.nextFrame
      rw [hsus]
      rfl
    unfold State.pumpBy
    rw [hdecide, hnext]
    rfl

theorem pump_early {r : TokenReq} (hwait : s.cp.token.waiting = [r]) (hsus : s.cp.suspended = []) (hearly : s.tb < r.ctx.stamp + nsOf s.regs.CP_TOK_WIN) :
    s.pump = s := by
  have hnext : s.nextFrame = none := by
    unfold State.nextFrame
    rw [hsus]
    rfl
  unfold State.pump
  rw [hsus, hwait]
  show s.pumpBy 4 = s
  unfold State.pumpBy
  rw [tokenDecide_early hwait hearly, hnext]
  rfl

/-- The answer to a request that came alone. -/
theorem tokenAnswer_entry {r : TokenReq} {status : Nat} (hdest : r.dest = .entry) :
    s.tokenAnswer (r, status) = (if status = St.ack then s.renewLease r.ctx.o else s).onCp
      (fun x => { x with answers := x.answers ++ [⟨r.ctx.o, 3, { status := status, data := s.tokData r.ctx.o }⟩] }) := by
  unfold State.tokenAnswer
  dsimp only
  rw [hdest]

theorem pumpBy_decided {r : TokenReq} {status n : Nat} {v : State} (h : Decided s r status v) :
    s.pumpBy (n + 1) = (v.tokenAnswer (r, status)).pumpBy n := by
  rw [State.pumpBy]
  dsimp only
  rw [h.decide]
  dsimp only
  rw [List.isEmpty_cons, if_neg Bool.false_ne_true, List.foldl_cons, List.foldl_nil]

theorem pump_one {r : TokenReq} (hwait : s.cp.token.waiting = [r]) (hsus : s.cp.suspended = []) : s.pump = s.pumpBy (3 + 1) := by
  unfold State.pump
  rw [hsus, hwait]
  rfl

/-- A request that is decided is answered, and nothing waits any more. -/
theorem pump_decided {r : TokenReq} {status : Nat} {v : State} (hwait : s.cp.token.waiting = [r]) (hsus : s.cp.suspended = [])
    (hdest : r.dest = .entry) (h : Decided s r status v) :
    ∃ data, s.pump.cp.answers = s.cp.answers ++ [⟨r.ctx.o, 3, { status := status, data := data }⟩] ∧ s.pump.cp.token.waiting = [] ∧
      s.pump.cp.token.holder = v.cp.token.holder ∧
      (status = St.ack → v.cp.token.holder = some r.ctx.o → s.pump.cp.token.renewed = v.tb) ∧ s.pump.ax = s.ax ∧ s.pump.regs = s.regs := by
  have hstep : s.pump = (v.tokenAnswer (r, status)).pumpBy 3 := (pump_one hwait hsus).trans (pumpBy_decided h)
  let w := if status = St.ack then v.renewLease r.ctx.o else v
  have hanswer : v.tokenAnswer (r, status) = w.onCp (fun x => { x with answers := x.answers ++ [⟨r.ctx.o, 3, { status := status, data := v.tokData r.ctx.o }⟩] }) :=
    tokenAnswer_entry hdest
  have hw : w.cp.token.waiting = [] ∧ w.cp.token.holder = v.cp.token.holder ∧ w.cp.answers = s.cp.answers ∧ w.cp.suspended = [] := by
    unfold w
    split
    · refine ⟨?_, ?_, h.answers, h.suspended.trans hsus⟩
      · show (if v.cp.token.holder = some r.ctx.o then { v.cp.token with renewed := v.tb } else v.cp.token).waiting = []
        split
        · exact h.waiting
        · exact h.waiting
      · show (if v.cp.token.holder = some r.ctx.o then { v.cp.token with renewed := v.tb } else v.cp.token).holder = _
        split
        · rfl
        · rfl
    · exact ⟨h.waiting, rfl, h.answers, h.suspended.trans hsus⟩
  obtain ⟨h1, h2, h3, h4⟩ := hw
  have F : Frame [.mode, .stg, .recs, .cp] s (v.tokenAnswer (r, status)) := Frame.next (Frame.tokenAnswer ..) (by decide) h.frame
  have hpump : s.pump = v.tokenAnswer (r, status) := by
    rw [hstep]
    exact pumpBy_idle (by rw [hanswer]; exact h1) (by rw [hanswer]; exact h4) 3
  rw [hpump]
  refine ⟨v.tokData r.ctx.o, ?_, ?_, ?_, fun hack hhold => ?_, F.keep .ax (by decide), F.keep .regs (by decide)⟩
  · rw [hanswer, ← h3]
    rfl
  · rw [hanswer]
    exact h1
  · rw [hanswer]
    exact h2
  · rw [hanswer]
    show w.cp.token.renewed = _
    unfold w
    rw [if_pos hack]
    show (if v.cp.token.holder = some r.ctx.o then { v.cp.token with renewed := v.tb } else v.cp.token).renewed = _
    rw [if_pos hhold]

/-! ## Requests of a control port -/

/-- The request that a control port's entry becomes. -/
def State.asks (s : State) (dt : Nat) (o : Origin) (take : Bool) (age : Nat) : TokenReq :=
  ⟨{ (s.advance dt).ctx o 3 with stamp := s.tbAt dt - age }, take, .entry⟩

/-- The state with one request that waits. -/
def State.asked (s : State) (dt : Nat) (r : TokenReq) : State :=
  (s.advance dt).onCp (fun x => { x with token := { x.token with waiting := [r] } })

theorem exec_tokenAsk {c : Instr} {take : Bool} {age : Nat} (hserves : s.serves o = true) (hsus : s.cp.suspended = []) (hwait : s.cp.token.waiting = [])
    (hAB : o.cls = .A ∨ o.cls = .B) (hc : (c = .tokenRequest dt o age ∧ take = false) ∨ (c = .tokenTake dt o age ∧ take = true)) :
    exec c s = done ((s.asked dt (s.asks dt o take age)).pump) ∧ (s.asked dt (s.asks dt o take age)).cp.token.waiting = [s.asks dt o take age] ∧
      (s.asked dt (s.asks dt o take age)).cp.suspended = [] := by
  refine ⟨?_, rfl, hsus⟩
  have hexec : exec c s = done ((s.advance dt).tokenAsk o take age) := by
    rcases hc with ⟨rfl, rfl⟩ | ⟨rfl, rfl⟩
    · rfl
    · rfl
  have hbehind : (s.advance dt).behind o = false := State.serves_behind s o hserves
  have hgate : (s.advance dt).gate o 3 0 (if take then 3 else 1) = .serve := State.gate_serves (s.advance dt) o 3 0 _ hserves
  rw [hexec]
  refine congrArg done ?_
  unfold State.tokenAsk
  dsimp only
  rw [if_pos hAB, hgate]
  dsimp only
  rw [hbehind, if_neg Bool.false_ne_true]
  unfold State.asked State.onCp
  dsimp only
  rw [show (s.advance dt).cp.token.waiting = [] from hwait]
  rfl

theorem exec_ask {c : Instr} {take : Bool} {age : Nat} (hserves : s.serves o = true) (hsus : s.cp.suspended = []) (hwait : s.cp.token.waiting = [])
    (hAB : o.cls = .A ∨ o.cls = .B) (hc : (c = .tokenRequest dt o age ∧ take = false) ∨ (c = .tokenTake dt o age ∧ take = true)) :
    let win : Nat := s.tbAt dt - age + nsOf s.regs.CP_TOK_WIN
    (s.tbAt dt < win → ∃ t, exec c s = .next t ∧
      t.but s = { s.advance dt with cp := { s.cp with token := { s.cp.token with waiting := [s.asks dt o take age] } } }) ∧
    (win ≤ s.tbAt dt → s.cp.token.holder = none ∨ (take = true ∧ s.regs.CP_CFG_TAKE_EN = true ∧ s.cp.token.holder ≠ some o) →
      ∃ t data, exec c s = .next t ∧ t.cp.token.holder = some o ∧ t.cp.token.waiting = [] ∧ t.cp.token.renewed = s.tbAt dt ∧
      t.cp.answers = s.cp.answers ++ [⟨o, 3, { status := St.ack, data := data }⟩] ∧ t.ax = s.ax ∧ t.regs = s.regs) ∧
    (∀ q, win ≤ s.tbAt dt → take = false → s.cp.token.holder = some q → q ≠ o →
      ∃ t data, exec c s = .next t ∧ t.cp.token.holder = some q ∧ t.cp.token.waiting = [] ∧
      t.cp.answers = s.cp.answers ++ [⟨o, 3, { status := St.busy, data := data }⟩] ∧ t.ax = s.ax ∧ t.regs = s.regs) := by
  intro win
  obtain ⟨hexec, hone, hnone⟩ := exec_tokenAsk (dt := dt) (age := age) hserves hsus hwait hAB hc
  refine ⟨fun hearly => ?_, fun hdue hfree => ?_, fun q hdue htake hheld hother => ?_⟩
  · exact ⟨_, exec_next_of hexec (pump_early hone hnone hearly), rfl⟩
  · obtain ⟨v, hv, hholder, -⟩ := tokenDecide_grant hone hdue hfree
    obtain ⟨data, h1, h2, h3, h4, h5, h6⟩ := pump_decided hone hnone rfl hv
    have htb : v.tb = s.tbAt dt := congrArg (·.tb) (hv.frame.keep .clk (by decide))
    exact ⟨_, data, exec_next_of hexec rfl, h3.trans hholder, h2, (h4 rfl hholder).trans htb, h1, h5, h6⟩
  · obtain ⟨v, hv, hholder⟩ := tokenDecide_busy hone hdue htake hheld hother
    obtain ⟨data, h1, h2, h3, -, h5, h6⟩ := pump_decided hone hnone rfl hv
    exact ⟨_, data, exec_next_of hexec rfl, h3.trans hholder, h2, h1, h5, h6⟩

theorem exec_tokenDecision {r : TokenReq} (hrun : s.running = true) (hsus : s.cp.suspended = []) (hwait : s.cp.token.waiting = [r])
    (hdest : r.dest = .entry) (hfree : s.cp.token.holder = none) (hdue : r.ctx.stamp + nsOf s.regs.CP_TOK_WIN ≤ s.tbAt dt) :
    ∃ t data, exec (.tokenDecision dt) s = .next t ∧ t.cp.token.holder = some r.ctx.o ∧ t.cp.token.waiting = [] ∧
      t.cp.answers = s.cp.answers ++ [⟨r.ctx.o, 3, { status := St.ack, data := data }⟩] ∧ t.ax = s.ax ∧ t.regs = s.regs := by
  have hexec : exec (.tokenDecision dt) s = done (s.advance dt).pump := congrArg done (if_pos hrun)
  obtain ⟨v, hv, hholder, -⟩ := tokenDecide_grant (s := s.advance dt) hwait hdue (.inl hfree)
  obtain ⟨data, h1, h2, h3, -, h5, h6⟩ := pump_decided (s := s.advance dt) hwait hsus hdest hv
  exact ⟨_, data, exec_next_of hexec rfl, h3.trans hholder, h2, h1, h5, h6⟩

/-! ## Release, status and expiry -/

theorem exec_tokenRelease (hserves : s.serves o = true) (hholds : s.holds o = true) (hM : o.cls ≠ .M) :
    ∃ t data, exec (.tokenRelease dt o) s = .next t ∧ t.cp.token.holder = none ∧
      t.cp.answers = s.cp.answers ++ [⟨o, 3, { status := St.ack, data := data }⟩] ∧ (s.stg.commit = none → t.stg.bank = []) ∧ t.ax = s.ax ∧ t.regs = s.regs := by
  let u := (s.advance dt).tokenLeave none 3 false
  have hholder : (s.advance dt).cp.token.holder = some o := beq_iff_eq.1 hholds
  have hrelease : (s.advance dt).tokenRelease o = u := if_pos hholds
  have hdo : doToken 2 { (s.advance dt).ctx o 3 with stamp := (s.advance dt).tb - 0 } (s.advance dt) = (u, { status := St.ack, data := u.tokData o }) := by
    show (if o.cls = .M then rightsNak _ (s.advance dt) else ack ((s.advance dt).tokenRelease o) (((s.advance dt).tokenRelease o).tokData o)) = _
    rw [if_neg hM, hrelease]
    rfl
  have hentry := State.entry_ack (s.advance dt) o 3 none (doToken 2) 2 false [] [] false 0 u _ hserves (.inl (by decide)) hdo rfl
  have F := Frame.tokenLeave (s.advance dt) none 3 false
  have hcp : u.cp = { s.cp with token := s.cp.token.left o (s.advance dt).tb none } := tokenLeave_cp hholder
  have hbank : s.stg.commit = none → u.stg.bank = [] := fun h => tokenLeave_bank (s := s.advance dt) hholder h
  have hnone : u.cp.token.holder = none := by rw [hcp]; rfl
  have hans : u.cp.answers = s.cp.answers := by rw [hcp]
  refine ⟨_, u.tokData o, exec_next_of rfl hentry, ?_, ?_, hbank, F.keep .ax (by decide), F.keep .regs (by decide)⟩
  · show (u.cpAfter o 3 _).token.holder = none
    unfold State.cpAfter
    rw [if_neg fun h => by rw [hnone] at h; cases h.2.2]
    exact hnone
  · show u.cp.answers ++ _ = _
    rw [hans]

theorem exec_tokenStatus (hserves : s.serves o = true) :
    ∃ t data, exec (.tokenStatus dt o) s = .next t ∧
      t.but s = { s.advance dt with cp := (s.advance dt).cpAfter o 3 { status := St.ack, data := data } } := by
  have hentry := State.entry_ack (s.advance dt) o 3 none (doToken 4) 4 false [] [] false 0 (s.advance dt) _ hserves (.inl (by decide)) rfl rfl
  exact ⟨_, (s.advance dt).tokData o, exec_next_of rfl hentry, rfl⟩

theorem exec_leaseExpiry (hrun : s.running = true) (hheld : s.cp.token.holder ≠ none) (hlate : s.cp.token.renewed + nsOf s.regs.CP_LEASE ≤ s.tbAt dt) :
    ∃ t, exec (.tokenLeaseExpiry dt) s = .next t ∧ t.cp.token.holder = none ∧
      t.cp.token.expiries = satInc 16 s.cp.token.expiries ∧ (s.stg.commit = none → t.stg.bank = []) ∧ t.ax = s.ax ∧ t.regs = s.regs := by
  obtain ⟨old, hold⟩ := Option.ne_none_iff_exists'.1 hheld
  have hgate : ((s.advance dt).running && (s.advance dt).cp.token.holder.isSome &&
      decide ((s.advance dt).cp.token.renewed + nsOf (s.advance dt).regs.CP_LEASE ≤ (s.advance dt).tb)) = true := by
    rw [show (s.advance dt).running = true from hrun, show (s.advance dt).cp.token.holder = some old from hold,
      decide_eq_true (show (s.advance dt).cp.token.renewed + nsOf (s.advance dt).regs.CP_LEASE ≤ (s.advance dt).tb from hlate)]
    rfl
  let v := (s.advance dt).onCp (fun x => { x with token := { x.token with expiries := satInc 16 x.token.expiries } })
  have hexec : exec (.tokenLeaseExpiry dt) s = done (v.tokenLeave none 2 false) := congrArg done (if_pos hgate)
  have hholder : v.cp.token.holder = some old := hold
  have F := Frame.tokenLeave v none 2 false
  have hcp : (v.tokenLeave none 2 false).cp = { v.cp with token := v.cp.token.left old v.tb none } := tokenLeave_cp hholder
  refine ⟨_, exec_next_of hexec rfl, ?_, ?_, fun h => tokenLeave_bank hholder h, F.keep .ax (by decide), F.keep .regs (by decide)⟩
  · show (v.tokenLeave none 2 false).cp.token.holder = none
    rw [hcp]
    rfl
  · show (v.tokenLeave none 2 false).cp.token.expiries = _
    rw [hcp]
    rfl

/-! ## Quarantine -/

theorem exec_quarantine_origin (hrun : s.running = true) (hfree : s.quarantined o = false)
    (hburst : burst ((s.cp.viols.filter (fun v => v.1 == o)).map (·.2)) = true) :
    ∃ t, exec (.quarantine dt (.origin o)) s = .next t ∧
      t.cp.quar = s.cp.quar ++ [(o, s.tbAt dt + 10000000000)] ∧ (s.holds o = true → t.cp.token.holder = none) ∧ (s.holds o = false → t.cp.token = s.cp.token) ∧
      t.cp.answers = s.cp.answers ∧ t.ax = s.ax ∧ t.regs = s.regs := by
  have hgate : ((s.advance dt).running && !(s.advance dt).quarantined o &&
      burst (((s.advance dt).cp.viols.filter (fun v => v.1 == o)).map (·.2))) = true := by
    rw [show (s.advance dt).running = true from hrun, show (s.advance dt).quarantined o = false from hfree, State.advance_cp, hburst]
    rfl
  let v := (s.advance dt).onCp (fun x => { x with quar := x.quar ++ [(o, s.tbAt dt + 10000000000)] })
  let u := v.event v.tb (v.quarUnit o) 0x0F02 (1 + 256 * clsCode o.cls) (v.originDev o)
  have hexec : exec (.quarantine dt (.origin o)) s = done (if u.holds o then u.tokenLeave none 5 false else u) := congrArg done (if_pos hgate)
  have F : Frame [.recs] v u := Frame.event ..
  have hucp : u.cp = v.cp := F.keep .cp (by decide)
  have hholds : u.holds o = s.holds o := by
    unfold State.holds
    rw [hucp]
    rfl
  rw [hholds] at hexec
  cases hh : s.holds o
  · rw [hh, if_neg Bool.false_ne_true] at hexec
    refine ⟨_, exec_next_of hexec rfl, ?_, (fun h => by cases h), fun _ => ?_, ?_, F.keep .ax (by decide), F.keep .regs (by decide)⟩
    · exact (congrArg CpSt.quar hucp).trans rfl
    · exact (congrArg CpSt.token hucp).trans rfl
    · exact (congrArg CpSt.answers hucp).trans rfl
  · rw [hh, if_pos rfl] at hexec
    have hholder : u.cp.token.holder = some o := by
      rw [hucp]
      exact beq_iff_eq.1 hh
    have hcp : (u.tokenLeave none 5 false).cp = { u.cp with token := u.cp.token.left o u.tb none } := tokenLeave_cp hholder
    have G := Frame.next (Frame.tokenLeave u none 5 false) (by decide) (Frame.next F (by decide) (Frame.refl [.mode, .stg, .recs, .cp] v))
    refine ⟨_, exec_next_of hexec rfl, ?_, fun _ => ?_, (fun h => by cases h), ?_, G.keep .ax (by decide), G.keep .regs (by decide)⟩
    · show (u.tokenLeave none 5 false).cp.quar = _
      rw [hcp, hucp]
      rfl
    · show (u.tokenLeave none 5 false).cp.token.holder = none
      rw [hcp]
      rfl
    · show (u.tokenLeave none 5 false).cp.answers = _
      rw [hcp, hucp]
      rfl

theorem exec_quarantine_can {n : Fin 2} (hrun : s.running = true) (hfree : s.can[n].quar = none) (hburst : burst s.can[n].viols = true) :
    ∃ t, exec (.quarantine dt (.can n)) s = .next t ∧
      t.but s = { s.advance dt with can := vset s.can n (fun x => { x with quar := some (s.tbAt dt + 10000000000) }), recs := t.recs } ∧
      Wrote s t [evtOf (s.tbAt dt) (Unit.can n.val) 0x0F02 1025 (s.fab.addr.getD 0)] := by
  have hgate : ((s.advance dt).running && (s.advance dt).can[n].quar.isNone && burst (s.advance dt).can[n].viols) = true := by
    rw [show (s.advance dt).running = true from hrun, State.advance_can, hfree, hburst]
    rfl
  exact ⟨_, exec_next_of (congrArg done (if_pos hgate)) rfl, (but_event ..).trans rfl, (Wrote.event_one (run_phase hrun)).settle⟩

theorem exec_quarantineEnd_origin {at' : Nat} (hrun : s.running = true) (hmem : (o, at') ∈ s.cp.quar) (hover : at' ≤ s.tbAt dt) :
    ∃ t, exec (.quarantineEnd dt (.origin o)) s = .next t ∧ t.quarantined o = false ∧
      (o.dev = none → t.cp.ports[clsPort o.cls].seqRef = none) ∧ t.cp.token = s.cp.token ∧ t.ax = s.ax ∧ t.regs = s.regs := by
  have hgate : ((s.advance dt).running && (s.advance dt).cp.quar.any (fun x => x.1 == o && decide (x.2 ≤ (s.advance dt).tb))) = true := by
    rw [show (s.advance dt).running = true from hrun, Bool.true_and]
    exact List.any_eq_true.2 ⟨_, hmem, by rw [beq_self_eq_true]; exact decide_eq_true hover⟩
  let v := (s.advance dt).onCp (fun x => { x with
    quar := x.quar.filter (fun y => y.1 != o)
    viols := x.viols.filter (fun v => v.1 != o || decide ((s.advance dt).tb < v.2 + 1000000000))
    ports := if o.dev.isNone then vset x.ports (clsPort o.cls) (fun p => { p with seqRef := none }) else x.ports })
  have F : Frame [.recs] v (v.event v.tb (v.quarUnit o) 0x0F02 (256 * clsCode o.cls) (v.originDev o)) := Frame.event ..
  have hexec : exec (.quarantineEnd dt (.origin o)) s = done (v.event v.tb (v.quarUnit o) 0x0F02 (256 * clsCode o.cls) (v.originDev o)) :=
    congrArg done (if_pos hgate)
  generalize v.event v.tb (v.quarUnit o) 0x0F02 (256 * clsCode o.cls) (v.originDev o) = u at F hexec
  have hcp : u.cp = v.cp := F.keep .cp (by decide)
  refine ⟨_, exec_next_of hexec rfl, ?_, fun hdev => ?_, ?_, F.keep .ax (by decide), F.keep .regs (by decide)⟩
  · show u.cp.quar.any (fun q => q.1 == o) = false
    rw [hcp]
    refine List.any_eq_false.2 fun q hq => ?_
    have hne := (List.mem_filter.1 hq).2
    simpa using hne
  · show u.cp.ports[clsPort o.cls].seqRef = none
    rw [hcp]
    show (if o.dev.isNone then vset s.cp.ports (clsPort o.cls) (fun p => { p with seqRef := none }) else s.cp.ports)[clsPort o.cls].seqRef = none
    rw [if_pos (by rw [hdev]; rfl)]
    exact congrArg PortSt.seqRef (vset_self ..)
  · show u.cp.token = s.cp.token
    exact (congrArg CpSt.token hcp).trans rfl

theorem exec_quarantineEnd_can {n : Fin 2} {at' : Nat} (hrun : s.running = true) (hquar : s.can[n].quar = some at') (hover : at' ≤ s.tbAt dt) :
    ∃ t, exec (.quarantineEnd dt (.can n)) s = .next t ∧
      t.but s = { s.advance dt with can := vset s.can n (fun x => { x with quar := none }), recs := t.recs } ∧
      Wrote s t [evtOf (s.tbAt dt) (Unit.can n.val) 0x0F02 1024 (s.fab.addr.getD 0)] := by
  have hgate : ((s.advance dt).running && (match (s.advance dt).can[n].quar with | some t => decide (t ≤ (s.advance dt).tb) | none => false)) = true := by
    rw [show (s.advance dt).running = true from hrun, State.advance_can, hquar]
    exact decide_eq_true hover
  exact ⟨_, exec_next_of (congrArg done (if_pos hgate)) rfl, (but_event ..).trans rfl, (Wrote.event_one (run_phase hrun)).settle⟩

end

/-- Settles O43: the token is asked for, decided, released and expires, and an origin is barred and let in again. -/
theorem controlToken : Obligations.ControlToken := by
  unfold Obligations.ControlToken
  intro s dt o hrun
  exact ⟨fun hserves hsus hwait hAB c take age hc => exec_ask hserves hsus hwait hAB hc,
    fun r hsus hwait hdest hfree hdue => exec_tokenDecision hrun hsus hwait hdest hfree hdue,
    fun hserves hholds hM => exec_tokenRelease hserves hholds hM, fun hserves => exec_tokenStatus hserves,
    fun hheld hlate => exec_leaseExpiry hrun hheld hlate, fun hfree hburst => exec_quarantine_origin hrun hfree hburst,
    fun n hfree hburst => exec_quarantine_can hrun hfree hburst, fun at' hmem hover => exec_quarantineEnd_origin hrun hmem hover,
    fun n at' hquar hover => exec_quarantineEnd_can hrun hquar hover⟩

end Sys2Proof.Machine
end

section
/-! PROOF. An image session (04 Configuration memory interface): its entries, its answers from the flash, and how it ends. -/
set_option Elab.async false

namespace Sys2Proof.Machine

section
variable {s : State} {dt : Nat} {o : Origin}

/-- An entry that is served and answered with ACK, and writes one EVENT record. -/
theorem entry_ack_event {op time unit code detail value : Nat} {data : List Byte} {f : Ctx → State → Res} {args : List Byte} {maint : Bool} {v : State}
    (hserves : s.serves o = true) (hop : op ≠ 2)
    (hf : f ((s.advance dt).ctx o op) (s.advance dt) = (v.event time unit code detail value, { status := St.ack, data := data })) :
    ((s.advance dt).entry o op none f (args := args) (maint := maint)).settle.but s =
        { v.settle.but s with
          recs := ((s.advance dt).entry o op none f (args := args) (maint := maint)).settle.recs
          cp := v.cpAfter o op { status := St.ack, data := data } } ∧
      (v.recs = s.recs → v.pwr = s.pwr → v.regs = s.regs →
        Wrote s ((s.advance dt).entry o op none f (args := args) (maint := maint)).settle [evtOf time unit code detail value]) := by
  have hentry := State.entry_ack (s.advance dt) o op none f 1 false [] args maint 0 _ _ hserves (.inl hop) hf rfl
  rw [hentry]
  have F : Frame [.recs] v (v.event time unit code detail value) := Frame.event ..
  have hcp := cpAfter_congr o op { status := St.ack, data := data } (F.keep .cp (by decide)) (F.keep .clk (by decide))
  refine ⟨?_, fun hrecs hpwr hregs => ?_⟩
  · rw [hcp, F.eq_merge]
    rfl
  · exact Wrote.event_one (serves_phase hserves) hrecs hpwr hregs

/-! ## The session's entries -/

theorem imgEntry_owner {k : Ctx → State → Res} {c : Ctx} (hM : c.o.cls = .M) (howner : s.cp.image.owner = some c.o) :
    imgEntry k c s = k c (s.modImg fun i => { i with lastAt := s.tb }) := by
  unfold imgEntry
  rw [if_neg (not_not.2 hM), if_pos howner]

theorem imgEntry_free {k : Ctx → State → Res} {c : Ctx} (hM : c.o.cls = .M) (hfree : s.cp.image.owner = none) : imgEntry k c s = k c s := by
  unfold imgEntry
  rw [if_neg (not_not.2 hM), if_neg (by rw [hfree]; simp)]

theorem imgOwned_filling (howner : s.cp.image.owner = some o) (hmode : s.mode.mode = .hold) (hopen : s.cp.image.state = 2) : s.imgOwned o 2 = true := by
  simp [State.imgOwned, howner, hmode, hopen]

theorem doImageBegin_fresh {c : Ctx} (hM : c.o.cls = .M) (hmode : s.mode.mode = .hold) (hidle : s.cp.image.state = 0) (hfree : s.cp.image.owner = none) :
    ∃ data, doImageBegin true c s = ((s.onCp fun x => { x with
      image := { state := 1, result := 0, owner := some c.o, bytes := 0, lastAt := s.tb }
      flash := x.flash ++ flashErase s.idleCopy }).imgEvent 1, { status := St.ack, data := data }) := by
  rw [show doImageBegin true c s = _ from imgEntry_free hM hfree]
  rw [if_neg (by simp [hmode, hidle])]
  exact ⟨_, rfl⟩

theorem doImageBegin_noMaint {c : Ctx} (hM : c.o.cls = .M) (hfree : s.cp.image.owner = none) : doImageBegin false c s = nak s St.state := by
  refine (imgEntry_free hM hfree).trans ?_
  rw [if_pos (by simp)]

theorem doImageData_fits {c : Ctx} {off : Nat} {b : List Byte} (hM : c.o.cls = .M) (howner : s.cp.image.owner = some c.o) (hmode : s.mode.mode = .hold)
    (hopen : s.cp.image.state = 2) (hfits : ¬(off < 64 ∨ off % 4 ≠ 0 ∨ b.length % 4 ≠ 0 ∨ 2048 < b.length ∨ 0x100000 < off + b.length)) :
    ∃ data, doImageData off b c s = (s.onCp fun x => { x with
      image := { x.image with lastAt := s.tb, bytes := x.image.bytes + b.length }
      flash := x.flash ++ flashWrite s.idleCopy off b }, { status := St.ack, data := data }) := by
  rw [show doImageData off b c s = _ from imgEntry_owner hM howner]
  have howned : (s.modImg fun i => { i with lastAt := s.tb }).imgOwned c.o 2 = true := imgOwned_filling howner hmode hopen
  rw [howned, if_neg (by decide), if_neg hfits]
  exact ⟨_, rfl⟩

theorem doImageEnd_good {c : Ctx} {h : List Byte} (hM : c.o.cls = .M) (howner : s.cp.image.owner = some c.o) (hmode : s.mode.mode = .hold)
    (hopen : s.cp.image.state = 2) (hlen : h.length = 64) (hcrc : (crc32 (h.take 60)).toNat = leAt h 60 4) :
    ∃ data, doImageEnd h c s = (s.onCp fun x => { x with
      image := { x.image with lastAt := s.tb, state := 3 }
      flash := x.flash ++ flashWrite s.idleCopy 0 h }, { status := St.ack, data := data }) := by
  rw [show doImageEnd h c s = _ from imgEntry_owner hM howner]
  have howned : (s.modImg fun i => { i with lastAt := s.tb }).imgOwned c.o 2 = true := imgOwned_filling howner hmode hopen
  rw [howned, if_neg (by decide), if_neg (not_not.2 hlen), if_neg (not_not.2 hcrc)]
  exact ⟨_, rfl⟩

theorem doImageEnd_bad {c : Ctx} {h : List Byte} (hM : c.o.cls = .M) (howner : s.cp.image.owner = some c.o) (hmode : s.mode.mode = .hold)
    (hopen : s.cp.image.state = 2) (hlen : h.length = 64) (hcrc : (crc32 (h.take 60)).toNat ≠ leAt h 60 4) :
    ∃ data, doImageEnd h c s = ((s.modImg fun i => { i with lastAt := s.tb, state := 0, result := 4, owner := none }).imgEvent 5,
      { status := St.ack, data := data }) := by
  rw [show doImageEnd h c s = _ from imgEntry_owner hM howner]
  have howned : (s.modImg fun i => { i with lastAt := s.tb }).imgOwned c.o 2 = true := imgOwned_filling howner hmode hopen
  rw [howned, if_neg (by decide), if_neg (not_not.2 hlen), if_pos hcrc]
  exact ⟨_, rfl⟩

/-- What an aborted session leaves of itself (R104: result 2). -/
def CpSt.abandoned (x : CpSt) : CpSt := { x with image := { x.image with state := 0, result := 2, owner := none } }

theorem imgAbandon_busy (h : s.cp.image.state ≠ 0) :
    s.imgAbandon = (s.onCp CpSt.abandoned).event s.tb (Unit.port 2) 0x0F03 3 s.cp.image.bytes := if_neg h

theorem doImageAbort_owner {c : Ctx} (hM : c.o.cls = .M) (howner : s.cp.image.owner = some c.o) (hbusy : s.cp.image.state ≠ 0) :
    ∃ data, doImageAbort c s = (((s.modImg fun i => { i with lastAt := s.tb }).onCp CpSt.abandoned).event s.tb (Unit.port 2) 0x0F03 3 s.cp.image.bytes,
      { status := St.ack, data := data }) := by
  rw [show doImageAbort c s = _ from imgEntry_owner hM howner]
  have hgate : ¬((s.modImg fun i => { i with lastAt := s.tb }).cp.image.state = 0 ∨
      (s.modImg fun i => { i with lastAt := s.tb }).cp.image.owner ≠ some c.o) := by
    rintro (h | h)
    · exact hbusy h
    · exact h howner
  rw [if_neg hgate, imgAbandon_busy (s := s.modImg fun i => { i with lastAt := s.tb }) hbusy]
  exact ⟨_, rfl⟩

theorem doImageBegin_rights {c : Ctx} {maint : Bool} (hAB : c.o.cls = .A ∨ c.o.cls = .B) : doImageBegin maint c s = rightsNak c s := by
  have hM : c.o.cls ≠ .M := by
    rcases hAB with h | h <;> rw [h] <;> decide
  exact if_pos hM

/-! ## How it ends -/

theorem exec_imageEraseDone (hrun : s.running = true) (herase : s.cp.image.state = 1) :
    ∃ t, exec (.imageEraseDone dt) s = .next t ∧ t.but s = { s.advance dt with cp := { s.cp with image := { s.cp.image with state := 2 } } } := by
  have hgate : ((s.advance dt).running && (s.advance dt).cp.image.state == 1) = true := by
    rw [show (s.advance dt).running = true from hrun, State.advance_cp, herase]
    rfl
  exact ⟨_, exec_next_of (congrArg done (if_pos hgate)) rfl, rfl⟩

theorem exec_imageVerifyDone {ok : Bool} (hrun : s.running = true) (hverify : s.cp.image.state = 3) :
    ∃ t, exec (.imageVerifyDone dt ok) s = .next t ∧ t.but s = { s.advance dt with
      recs := t.recs
      cp := { s.cp with image := { s.cp.image with state := 0, owner := none, result := if ok then 1 else 3, bytes := s.cp.image.bytes + 64 } } } ∧
      Wrote s t [evtOf (s.tbAt dt) (Unit.port 2) 0x0F03 (if ok then 2 else 4) (s.cp.image.bytes + 64)] := by
  have hgate : ((s.advance dt).running && (s.advance dt).cp.image.state == 3) = true := by
    rw [show (s.advance dt).running = true from hrun, State.advance_cp, hverify]
    rfl
  exact ⟨_, exec_next_of (congrArg done (if_pos hgate)) rfl, (but_event ..).trans rfl, (Wrote.event_one (run_phase hrun)).settle⟩

theorem imgTimeout_due (hrun : s.running = true) (hbusy : s.cp.image.state ≠ 0) (hlate : s.cp.image.lastAt + 60000000000 ≤ s.tb) :
    s.imgTimeout = s.imgAbandon := by
  refine if_pos ?_
  rw [hrun, decide_eq_true hlate, bne_iff_ne.2 hbusy]
  rfl

theorem exec_sessionEnd {c : Instr} (hrun : s.running = true) (hbusy : s.cp.image.state ≠ 0)
    (hc : (c = .imageSessionTimeout dt ∧ s.cp.image.lastAt + 60000000000 ≤ s.tbAt dt) ∨ c = .maintEnFall dt) :
    ∃ t, exec c s = .next t ∧
      t.but s = { s.advance dt with recs := t.recs, cp := { s.cp with image := { s.cp.image with state := 0, result := 2, owner := none } } } ∧
      Wrote s t [evtOf (s.tbAt dt) (Unit.port 2) 0x0F03 3 s.cp.image.bytes] := by
  have hbusy' : (s.advance dt).cp.image.state ≠ 0 := hbusy
  have hexec : exec c s = done (s.advance dt).imgAbandon := by
    rcases hc with ⟨rfl, hlate⟩ | rfl
    · have hlate' : (s.advance dt).cp.image.lastAt + 60000000000 ≤ (s.advance dt).tb := by
        rw [State.advance_cp]
        exact hlate
      exact congrArg done (imgTimeout_due hrun hbusy' hlate')
    · exact congrArg done (if_pos hrun)
  exact ⟨_, exec_next_of hexec (imgAbandon_busy hbusy'), (but_event ..).trans rfl, (Wrote.event_one (run_phase hrun)).settle⟩

end

/-- Settles O44: a session is begun, filled, ended, verified, aborted and given up. -/
theorem imageSession : Obligations.ImageSession := by
  unfold Obligations.ImageSession
  intro s dt o hrun
  refine ⟨fun hserves hM => ⟨fun hmode hidle hfree => ⟨?_, ?_⟩, fun howner hmode hopen => ⟨?_, fun h hlen => ⟨?_, ?_⟩, ?_⟩⟩, fun hserves hAB => ?_,
    exec_imageEraseDone hrun, fun ok => exec_imageVerifyDone hrun, fun c hbusy hc => exec_sessionEnd hrun hbusy hc⟩
  · obtain ⟨data, hdo⟩ := doImageBegin_fresh (s := s.advance dt) (c := (s.advance dt).ctx o 6) hM hmode hidle hfree
    exact ⟨_, data, exec_next_of rfl rfl, (entry_ack_event hserves (by decide) hdo).1⟩
  · have hdo := doImageBegin_noMaint (s := s.advance dt) (c := (s.advance dt).ctx o 6) hM hfree
    obtain ⟨F, hrefused⟩ := entry_refused s dt o 6 none (doImageBegin false) 1 false [] (leBytes 1 1 ++ zeros 3) false (s.advance dt) St.state 0 hserves
      (.inl (by decide)) hdo rfl (serves_phase hserves) rfl rfl rfl
    exact ⟨_, exec_next_of rfl rfl, (but_of_frame F).trans rfl, hrefused⟩
  · intro off b hlo hoff hb hlen hhi
    obtain ⟨data, hdo⟩ := doImageData_fits (s := s.advance dt) (c := (s.advance dt).ctx o 6) (off := off) (b := b) hM howner hmode hopen (by omega)
    exact ⟨_, data, exec_next_of rfl (State.entry_ack (s.advance dt) o 6 none _ 1 false [] _ false 0 _ _ hserves (.inl (by decide)) hdo rfl), rfl⟩
  · intro hcrc
    obtain ⟨data, hdo⟩ := doImageEnd_good (s := s.advance dt) (c := (s.advance dt).ctx o 6) (h := h) hM howner hmode hopen hlen hcrc
    exact ⟨_, data, exec_next_of rfl (State.entry_ack (s.advance dt) o 6 none _ 1 false [] _ false 0 _ _ hserves (.inl (by decide)) hdo rfl), rfl⟩
  · intro hcrc
    obtain ⟨data, hdo⟩ := doImageEnd_bad (s := s.advance dt) (c := (s.advance dt).ctx o 6) (h := h) hM howner hmode hopen hlen hcrc
    obtain ⟨hbut, hwrote⟩ := entry_ack_event (args := leBytes 1 3 ++ zeros 3 ++ h) (maint := false) hserves (by decide) hdo
    exact ⟨_, data, exec_next_of rfl rfl, hbut, hwrote rfl rfl rfl⟩
  · have hbusy : s.cp.image.state ≠ 0 := by
      rw [hopen]
      decide
    obtain ⟨data, hdo⟩ := doImageAbort_owner (s := s.advance dt) (c := (s.advance dt).ctx o 6) hM howner hbusy
    obtain ⟨hbut, hwrote⟩ := entry_ack_event (args := leBytes 1 4 ++ zeros 3) (maint := false) hserves (by decide) hdo
    exact ⟨_, data, exec_next_of rfl rfl, hbut, hwrote rfl rfl rfl⟩
  · have hdo := doImageBegin_rights (s := s.advance dt) (c := (s.advance dt).ctx o 6) (maint := true) hAB
    obtain ⟨F, hrefused⟩ := entry_refused s dt o 6 none (doImageBegin true) 1 false [] (leBytes 1 1 ++ zeros 3) true (s.advance dt) St.rights _ hserves
      (.inl (by decide)) hdo rfl (serves_phase hserves) rfl rfl rfl
    exact ⟨_, _, exec_next_of rfl rfl, (but_of_frame F).trans rfl, hrefused⟩

end Sys2Proof.Machine
end

section
/-! PROOF. Paired and staged writes (R15, R16, R99, R101): the value, its complement, the bank, and what breaks a pair. -/
set_option Elab.async false

namespace Sys2Proof.Machine

/-- Records and ports apart, what follows a state is that state. -/
theorem but_of_recs_cp {s u v : State} (h : Frame [.recs, .cp] u v) : v.settle.but s = { u.settle.but s with cp := v.settle.cp, recs := v.settle.recs } := by
  rw [h.eq_merge]
  rfl

section
variable {s : State} {dt : Nat} {o : Origin} {a : Nat} {r : RegRow} {c : Ctx} {m : Bool} {v w : Word}

theorem regClass_value (hrow : regRow? a = some r) : regClass a = .value r := by
  rw [regClass, hrow]

theorem regClass_complement (hrow : regRow? a = some r) (hpair : r.pair = true) (hnext : regRow? (a + 4) = none) : regClass (a + 4) = .compl r := by
  rw [regClass, hnext]
  show (if a + 4 < 4 then RegCls.reserved else match regRow? (a + 4 - 4) with | some r => if r.pair then .compl r else .reserved | none => .reserved) = _
  rw [if_neg (by omega), Nat.add_sub_cancel, hrow]
  exact if_pos hpair

/-! ## A pair begun -/

theorem pairRights_holder (hholds : s.holds c.o = true) (hro : r.acc ≠ .RO) (hri : r.acc ≠ .RI) : pairRights a r c s = true := by
  unfold pairRights
  rcases hacc : r.acc
  case RO => exact absurd hacc hro
  case RI => exact absurd hacc hri
  case WC => simp [hholds]
  all_goals exact hholds

/-- `s` with a value that waits for its complement. -/
def State.pairBegun (s : State) (o : Origin) (a : Nat) (v : Word) : State := s.onStg fun x => { x with pairs := x.pairs ++ [(o, a, v)] }

theorem doWrite_value (hholds : s.holds c.o = true) (harea : areaOf a = .regs) (halign : a % 4 = 0) (hrow : regRow? a = some r) (hpair : r.pair = true)
    (hnone : s.pairOf c.o = none) (hro : r.acc ≠ .RO) (hri : r.acc ≠ .RI) (hroom : s.originFull c.o = false) :
    doWrite m a c s v = ack (s.pairBegun c.o a v) := by
  unfold doWrite
  rw [if_neg (not_not.2 halign), hnone, harea]
  show doReg m a c s v = _
  unfold doReg
  rw [regClass_value hrow]
  show (if !r.pair then _ else if !pairRights a r c s then _ else if s.originFull c.o then _ else ack (s.pairBegun c.o a v)) = _
  rw [hpair, pairRights_holder hholds hro hri, hroom]
  rfl

/-! ## A pair completed -/

theorem doWrite_complement {x : Nat} {u : Word} (halign : a % 4 = 0) (hopen : s.pairOf c.o = some (x, u)) (ha : a = x + 4) (hw : w = ~~~u)
    (hrow : regRow? x = some r) (hacc : r.acc = .RS) : doWrite m a c s w = doStage x r c (s.pairDrop c.o) u := by
  unfold doWrite
  rw [if_neg (not_not.2 halign), hopen]
  show (if a = x + 4 ∧ w = ~~~u then match regRow? x with | some r => actAcc m x r c (s.pairDrop c.o) u | none => _ else _) = _
  rw [if_pos ⟨ha, hw⟩, hrow]
  show actAcc m x r c (s.pairDrop c.o) u = _
  unfold actAcc
  rw [hacc]

theorem doWrite_broken {x : Nat} {u : Word} (halign : a % 4 = 0) (hopen : s.pairOf c.o = some (x, u)) (hother : ¬(a = x + 4 ∧ w = ~~~u)) :
    doWrite m a c s w = nak (s.pairDrop c.o) St.pair := by
  unfold doWrite
  rw [if_neg (not_not.2 halign), hopen]
  exact if_neg hother

/-! ## The bank -/

/-- `s` with a value entered in the bank. -/
def State.banked (s : State) (a : Nat) (v : Word) : State := s.onStg fun x => { x with bank := x.bank ++ [(a, v)] }

theorem doStage_new (hholds : s.holds c.o = true) (hadmit : rowAdmits r (v &&& w32 (rowMask r)) = true) (hopen : s.stg.commit = none)
    (hroom : s.stg.bank.length < 1024) (hnew : s.stg.bank.all (fun b => b.1 != a) = true) :
    doStage a r c s v = ack (s.banked a (rowNorm r (v &&& w32 (rowMask r)))) := by
  have hany : s.stg.bank.any (fun b => b.1 == a) = false := by
    rw [List.any_eq_false]
    intro b hb
    have hne := List.all_eq_true.1 hnew b hb
    simpa using hne
  have hplace : ¬1024 ≤ s.stg.bank.length := by omega
  simp only [doStage, needRights, hholds, hadmit, hopen, hany, Bool.true_or, Bool.not_true, Bool.false_eq_true, Option.isSome_none, if_true, if_false, hplace,
    State.banked]

theorem doStage_again (hholds : s.holds c.o = true) (hadmit : rowAdmits r (v &&& w32 (rowMask r)) = true) (hopen : s.stg.commit = none)
    (hold : s.stg.bank.any (fun b => b.1 == a) = true) :
    doStage a r c s v = ack (s.onStg fun x => { x with
      bank := x.bank.map fun b => if b.1 = a then (a, rowNorm r (v &&& w32 (rowMask r))) else b }) := by
  simp only [doStage, needRights, hholds, hadmit, hopen, hold, Bool.true_or, Bool.not_true, Bool.false_eq_true, Option.isSome_none, if_true, if_false]

/-! ## Both words in one entry -/

theorem pairOf_pairBegun (hnone : s.pairOf o = none) : (s.pairBegun o a v).pairOf o = some (a, v) := by
  have hfind : s.stg.pairs.find? (fun p => p.1 == o) = none := Option.map_eq_none_iff.1 hnone
  show ((s.stg.pairs ++ [(o, a, v)]).find? (fun p => p.1 == o)).map (·.2) = _
  rw [List.find?_append, hfind, Option.none_or, List.find?_cons_of_pos (by exact beq_self_eq_true o)]
  rfl

theorem writeWords_pair (hholds : s.holds c.o = true) (harea : areaOf a = .regs) (halign : a % 4 = 0) (hrow : regRow? a = some r) (hpair : r.pair = true)
    (hnone : s.pairOf c.o = none) (hacc : r.acc = .RS) (hroom : s.originFull c.o = false) (hadmit : rowAdmits r (v &&& w32 (rowMask r)) = true)
    (hopen : s.stg.commit = none) (hplace : s.stg.bank.length < 1024) (hnew : s.stg.bank.all (fun b => b.1 != a) = true) :
    writeWords m c a 0 [v, ~~~v] s = ack (((s.pairBegun c.o a v).pairDrop c.o).banked a (rowNorm r (v &&& w32 (rowMask r)))) := by
  have hfirst : doWrite m a c s v = ack (s.pairBegun c.o a v) :=
    doWrite_value hholds harea halign hrow hpair hnone (by rw [hacc]; decide) (by rw [hacc]; decide) hroom
  have hsecond : doWrite m (a + 4) c (s.pairBegun c.o a v) (~~~v) = ack (((s.pairBegun c.o a v).pairDrop c.o).banked a (rowNorm r (v &&& w32 (rowMask r)))) :=
    (doWrite_complement (s := s.pairBegun c.o a v) (by omega) (pairOf_pairBegun hnone) rfl rfl hrow hacc).trans
      (doStage_new (s := (s.pairBegun c.o a v).pairDrop c.o) hholds hadmit hopen hplace hnew)
  simp only [writeWords, hfirst, hsecond, ack, if_true]

/-! ## The commands -/

/-- A write of REGISTER_WRITE that is acknowledged. -/
theorem exec_registerWrite_ack {addr : Word} {u : State} (hserves : s.serves o = true)
    (hdo : doWrite m addr.toNat ((s.advance dt).ctx o 2) (s.advance dt) v = ack u) (hcp : u.cp = s.cp) (hclk : u.clk = (s.advance dt).clk) :
    exec (.registerWrite dt o m addr v) s = .next ({ u with cp := (s.advance dt).cpWrote o } : State).settle := by
  refine exec_next_of rfl ?_
  rw [State.entry_ack (s.advance dt) o 2 _ _ 1 true [v] [] m 0 u _ hserves (.inr (.inl rfl)) hdo rfl]
  congr 1
  exact cpAfter_congr o 2 _ hcp hclk

theorem exec_pairBroken {addr a2 : Word} (hserves : s.serves o = true) (hopen : s.pairOf o = some (addr.toNat, v)) (halign : a2.toNat % 4 = 0)
    (hother : ¬(a2.toNat = addr.toNat + 4 ∧ w = ~~~v)) :
    ∃ t, exec (.registerWrite dt o m a2 w) s = .next t ∧
      t.but s = { s.advance dt with stg := { s.stg with pairs := s.stg.pairs.filter (fun p => p.1 != o) }, cp := t.cp, recs := t.recs } ∧
      Refused s t dt o 2 St.pair 0 := by
  obtain ⟨F, hrefused⟩ := entry_refused s dt o 2 (some a2.toNat) (fun c s => doWrite m a2.toNat c s w) 1 true [w] [] m ((s.advance dt).pairDrop o) St.pair 0
    hserves (.inr (.inl rfl)) (doWrite_broken (s := s.advance dt) (c := (s.advance dt).ctx o 2) halign hopen hother) rfl (serves_phase hserves) rfl rfl rfl
  exact ⟨_, exec_next_of rfl rfl, (but_of_recs_cp F).trans rfl, hrefused⟩

theorem exec_stagedWrite_ack {addr : Word} {u : State} (hserves : s.serves o = true) (hnone : s.pairOf o = none) (hrow : regRow? addr.toNat = some r)
    (hacc : r.acc = .RS) (hdo : doStage addr.toNat r ((s.advance dt).ctx o 2) (s.advance dt) v = ack u) (hcp : u.cp = s.cp)
    (hclk : u.clk = (s.advance dt).clk) :
    exec (.stagedWrite dt o addr v) s = .next ({ u with cp := (s.advance dt).cpWrote o } : State).settle := by
  have hexec : exec (.stagedWrite dt o addr v) s =
      done ((s.advance dt).entry o 2 (some addr.toNat) (fun c s => doStage addr.toNat r c s v) (ws := [v, ~~~v])) := by
    show execStagedWrite dt o addr v s = _
    unfold execStagedWrite
    rw [hrow]
    exact if_pos hacc
  refine exec_next_of hexec ?_
  rw [State.entry_ack (s.advance dt) o 2 _ _ 1 false [v, ~~~v] [] false 0 u _ hserves (.inr (.inr hnone)) hdo rfl]
  congr 1
  exact cpAfter_congr o 2 _ hcp hclk

theorem exec_jcpWrite_pair {addr : Word} (hserves : s.serves o = true) (hholds : s.holds o = true) (harea : areaOf addr.toNat = .regs)
    (halign : addr.toNat % 4 = 0) (hrow : regRow? addr.toNat = some r) (hpair : r.pair = true) (hnone : s.pairOf o = none) (hacc : r.acc = .RS)
    (hroom : s.originFull o = false) (hadmit : rowAdmits r (v &&& w32 (rowMask r)) = true) (hopen : s.stg.commit = none)
    (hplace : s.stg.bank.length < 1024) (hnew : s.stg.bank.all (fun b => b.1 != addr.toNat) = true) :
    ∃ t, exec (.jcpWrite dt o m addr [v, ~~~v]) s = .next t ∧
      t.stg.bank = s.stg.bank ++ [(addr.toNat, rowNorm r (v &&& w32 (rowMask r)))] ∧ t.regs = s.regs ∧ t.mode.mode = s.mode.mode ∧
      t.cp.answers = s.cp.answers ++ [⟨o, 2, { status := 0 }⟩] := by
  have hwrite := writeWords_pair (s := s.advance dt) (c := (s.advance dt).ctx o 2) (m := m) hholds harea halign hrow hpair hnone hacc hroom hadmit hopen hplace hnew
  have hlen : ¬([v, ~~~v].isEmpty = true ∨ 256 < [v, ~~~v].length ∨ addr.toNat % 4 ≠ 0) := by simp [halign]
  have hentry := State.entry_ack (s.advance dt) o 2 (some addr.toNat) (fun c s =>
    if [v, ~~~v].isEmpty ∨ 256 < [v, ~~~v].length ∨ addr.toNat % 4 ≠ 0 then nak s St.range else writeWords m c addr.toNat 0 [v, ~~~v] s) 1 true [v, ~~~v] [] m 0
    _ _ hserves (.inr (.inl rfl)) ((if_neg hlen).trans hwrite) rfl
  exact ⟨_, exec_next_of rfl hentry, rfl, rfl, rfl, rfl⟩

theorem exec_jcpRead_complement {a2 : Word} (hserves : s.serves o = true) (halign : a % 4 = 0) (hrow : regRow? a = some r) (hpair : r.pair = true)
    (hro : r.acc ≠ .RO) (hwc : r.acc ≠ .WC) (ha2 : a2.toNat = a + 4) (harea : areaOf a2.toNat = .regs) (hnext : regRow? a2.toNat = none) :
    ∃ t, exec (.jcpRead dt o a2 1) s = .next t ∧
      t.but s = { s.advance dt with
        stg := { s.stg with
          pairFault := if s.regs.getCompl a = ~~~ s.regs.get a ∨ s.stg.pairFault.contains a = true then s.stg.pairFault else s.stg.pairFault ++ [a] }
        cp := (s.advance dt).cpAfter o 1 { status := 0, data := leBytes 4 (s.regs.getCompl a).toNat } } := by
  have hlo : a2.toNat ≠ Reg.TB_NOW_LO := fun h => by
    rw [h] at hnext
    exact absurd hnext (by decide)
  have hhi : a2.toNat ≠ Reg.TB_NOW_HI := fun h => by
    rw [h] at hnext
    exact absurd hnext (by decide)
  have hclass : regClass a2.toNat = .compl r := by
    rw [ha2]
    exact regClass_complement hrow hpair (by rw [← ha2]; exact hnext)
  have hword : (s.advance dt).regWord o a2.toNat = s.regs.getCompl a := by
    unfold State.regWord
    rw [hclass, ha2, Nat.add_sub_cancel]
    rcases hacc : r.acc
    case RO => exact absurd hacc hro
    case WC => exact absurd hacc hwc
    all_goals simp
  have hread : (s.advance dt).readWord o a2.toNat = (s.regs.getCompl a, (s.advance dt).pairCheck a2.toNat) := by
    unfold State.readWord
    rw [harea]
    show (if a2.toNat = Reg.TB_NOW_LO then _ else if a2.toNat = Reg.TB_NOW_HI then _ else _) = _
    rw [if_neg hlo, if_neg hhi, hword]
  have hcheck : (s.advance dt).pairCheck a2.toNat =
      if s.regs.getCompl a = ~~~ s.regs.get a ∨ s.stg.pairFault.contains a = true then s.advance dt
      else (s.advance dt).onStg fun x => { x with pairFault := x.pairFault ++ [a] } := by
    unfold State.pairCheck
    rw [hclass, ha2, Nat.add_sub_cancel]
    rfl
  refine ⟨_, exec_jcpRead_register s dt o a2 _ _ hserves (by omega) harea hread, ?_⟩
  rw [hcheck]
  split <;> rfl

end

/-- Settles O13: a pair is begun, completed or broken, a staged value enters the bank by each of three writes, and a bad pair is found once. -/
theorem pairedAndStagedWrites : Obligations.PairedAndStagedWrites := by
  unfold Obligations.PairedAndStagedWrites
  intro s dt o m addr r hserves hholds harea halign hrow hpair
  refine ⟨fun v hnone hro hri hroom => ?_, fun v a2 hopen hacc ha2 hadmit hfree hplace hnew => ?_, fun v a2 w hopen halign2 hother => exec_pairBroken hserves hopen halign2 hother,
    fun v hnone hacc hadmit hfree => ⟨fun hplace hnew => ?_, fun hold => ?_, fun hplace hnew hroom =>
      exec_jcpWrite_pair hserves hholds harea halign hrow hpair hnone hacc hroom hadmit hfree hplace hnew⟩,
    fun a2 hro hwc ha2 harea2 hnext => exec_jcpRead_complement hserves halign hrow hpair hro hwc ha2 harea2 hnext⟩
  · exact ⟨_, exec_registerWrite_ack hserves (doWrite_value (s := s.advance dt) (c := (s.advance dt).ctx o 2) hholds harea halign hrow hpair hnone hro hri hroom) rfl rfl, rfl⟩
  · have hdo := (doWrite_complement (s := s.advance dt) (c := (s.advance dt).ctx o 2) (m := m) (by omega) hopen ha2 rfl hrow hacc).trans
      (doStage_new (s := (s.advance dt).pairDrop o) (c := (s.advance dt).ctx o 2) hholds hadmit hfree hplace hnew)
    exact ⟨_, exec_registerWrite_ack hserves hdo rfl rfl, rfl⟩
  · exact ⟨_, exec_stagedWrite_ack hserves hnone hrow hacc (doStage_new (s := s.advance dt) (c := (s.advance dt).ctx o 2) hholds hadmit hfree hplace hnew) rfl rfl, rfl⟩
  · exact ⟨_, exec_stagedWrite_ack hserves hnone hrow hacc (doStage_again (s := s.advance dt) (c := (s.advance dt).ctx o 2) hholds hadmit hfree hold) rfl rfl, rfl⟩

end Sys2Proof.Machine
end

section
/-! PROOF. The staging bank and COMMIT (R99, R102, R103, R104): discarded, locked, refused, and put in force whole at a boundary. -/
set_option Elab.async false

namespace Sys2Proof.Machine

section
variable {s : State} {dt : Nat} {o : Origin} {c : Ctx}

theorem needRights_holder {m : Bool} {k : State → Res} (hholds : s.holds c.o = true) : needRights m c s k = k s := by
  unfold needRights
  rw [hholds]
  rfl

/-! ## The bank discarded -/

/-- `s` with its bank empty. -/
def State.bankless (s : State) : State := s.onStg fun x => { x with bank := [] }

theorem doStgDiscard_free (hholds : s.holds c.o = true) (hfree : s.stg.commit = none) :
    doStgDiscard c s 1 = ack (s.bankless.configRec 0x0303 (b2n s.ld.alt) 0 s.stg.bank.length none) := by
  have hempty : s.stgEmpty = s.bankless.configRec 0x0303 (b2n s.ld.alt) 0 s.stg.bank.length none := if_neg (by rw [hfree]; decide)
  rw [doStgDiscard, needRights_holder hholds, hfree, hempty]
  rfl

theorem configRec_wrote {t : State} {code copy reason words : Nat} {addr : Option Nat} (hphase : t.pwr.phase = .running) (hregs : t.regs = s.regs)
    (hrecs : t.recs = s.recs) : ∃ p, Wrote s (t.configRec code copy reason words addr) [recOf t.tb Unit.dev 9 (leBytes 2 code ++ p)] := by
  have hassoc (l1 l2 l3 l4 l5 l6 l7 l8 : List Byte) : l1 ++ l2 ++ l3 ++ l4 ++ l5 ++ l6 ++ l7 ++ l8 = l1 ++ (l2 ++ l3 ++ l4 ++ l5 ++ l6 ++ l7 ++ l8) := by
    simp only [List.append_assoc]
  unfold State.configRec
  rw [hassoc]
  exact ⟨_, Wrote.emit s t _ [] (Wrote.none s t (by rw [hrecs])) hphase hregs _ _ _ _ _ rfl⟩

theorem exec_stgDiscard (hw : s.writes o = true) (hholds : s.holds o = true) (hfree : s.stg.commit = none) :
    ∃ t, exec (.stgDiscard dt o 1) s = .next t ∧
      t.but s = { s.advance dt with stg := { s.stg with bank := [] }, recs := t.recs, cp := (s.advance dt).cpWrote o } ∧
      ∃ p, Wrote s t [recOf (s.tbAt dt) Unit.dev 9 (leBytes 2 0x0303 ++ p)] := by
  have hdo := doStgDiscard_free (s := s.advance dt) (c := (s.advance dt).ctx o 2) hholds hfree
  have F := Frame.configRec (s.advance dt).bankless 0x0303 (b2n (s.advance dt).ld.alt) 0 (s.advance dt).stg.bank.length none
  obtain ⟨p, hwrote⟩ := configRec_wrote (s := s) (t := (s.advance dt).bankless) (code := 0x0303) (copy := b2n (s.advance dt).ld.alt) (reason := 0)
    (words := (s.advance dt).stg.bank.length) (addr := none) (serves_phase (writes_split hw).1) rfl rfl
  generalize (s.advance dt).bankless.configRec 0x0303 (b2n (s.advance dt).ld.alt) 0 (s.advance dt).stg.bank.length none = u at hdo F hwrote
  refine ⟨_, exec_write_ack (c := .stgDiscard dt o 1) rfl hw hdo (F.keep .cp (by decide)) (F.keep .clk (by decide)), ?_, p, hwrote⟩
  rw [F.eq_merge]
  rfl

/-! ## A COMMIT accepted or refused -/

theorem tagOf (tag : BitVec 16) : fld (w32 tag.toNat) 0 16 = tag.toNat := by
  have hlt := tag.isLt
  simp only [fld, w32, BitVec.toNat_ofNat, Nat.shiftRight_zero]
  omega

/-- The modes in which a COMMIT is accepted (R103). -/
def State.commitMode (s : State) : Prop := s.mode.mode = .hold ∨ s.mode.mode = .drive ∨ s.mode.mode = .limp

theorem commitMode_iff : (s.mode.mode == .hold || s.mode.mode == .drive || s.mode.mode == .limp) = true ↔ s.commitMode := by
  simp only [Bool.or_eq_true, beq_iff_eq, State.commitMode, or_assoc]

theorem doCommit_eq {tag : BitVec 16} (hholds : s.holds c.o = true) :
    doCommit c s (w32 tag.toNat) =
      if !(s.mode.mode == .hold || s.mode.mode == .drive || s.mode.mode == .limp) then s.commitRefuse tag.toNat (clsPort c.o.cls).val 0x0402
      else if s.stg.bank.isEmpty then s.commitRefuse tag.toNat (clsPort c.o.cls).val 0x0401
      else if s.stg.commit.isSome then nak s St.state
      else ack (s.onStg fun x => { x with commit := some { tag := tag, port := (clsPort c.o.cls).val, at' := s.tb, verdict := none } }) := by
  rw [doCommit, needRights_holder hholds]
  simp only [tagOf, BitVec.ofNat_toNat, BitVec.setWidth_eq]

theorem doCommit_accepted {tag : BitVec 16} (hholds : s.holds c.o = true) (hmode : s.commitMode) (hbank : s.stg.bank ≠ []) (hfree : s.stg.commit = none) :
    doCommit c s (w32 tag.toNat) =
      ack (s.onStg fun x => { x with commit := some { tag := tag, port := (clsPort c.o.cls).val, at' := s.tb, verdict := none } }) := by
  have hany : s.stg.bank.isEmpty = false := by simpa using hbank
  rw [doCommit_eq hholds, commitMode_iff.2 hmode, hany, hfree]
  rfl

theorem doCommit_refused {tag : BitVec 16} {code : Nat} (hholds : s.holds c.o = true)
    (hcode : code = 0x0402 ∧ ¬s.commitMode ∨ code = 0x0401 ∧ s.commitMode ∧ s.stg.bank = []) :
    doCommit c s (w32 tag.toNat) = s.commitRefuse tag.toNat (clsPort c.o.cls).val code := by
  rw [doCommit_eq hholds]
  rcases hcode with ⟨rfl, hmode⟩ | ⟨rfl, hmode, hbank⟩
  · rw [Bool.eq_false_iff.2 (fun h => hmode (commitMode_iff.1 h))]
    rfl
  · rw [commitMode_iff.2 hmode, hbank]
    rfl

/-- A refused COMMIT concludes at once: the registers of its result, one record, and the reason in the answer. -/
theorem commitRefuse_frame (s : State) (tag : BitVec 16) (port code : Nat) :
    ∃ u, s.commitRefuse tag.toNat port code = nak u St.state code ∧
      Frame [.recs] { s with
        stg := { s.stg with resTag := tag, result := 2, resCode := code, resAddr := none, resTime := s.tb }, freeIx := s.freeIx + 2 } u := by
  refine ⟨_, rfl, ?_⟩
  unfold State.commitEnd
  rw [BitVec.ofNat_toNat, BitVec.setWidth_eq]
  exact Frame.emit ..

theorem exec_commit_refused {tag : BitVec 16} {code : Nat} (hw : s.writes o = true) (hholds : s.holds o = true)
    (hcode : code = 0x0402 ∧ ¬s.commitMode ∨ code = 0x0401 ∧ s.commitMode ∧ s.stg.bank = []) :
    ∃ t, exec (.commit dt o tag) s = .next t ∧
      t.but s = { s.advance dt with
        stg := { s.stg with resTag := tag, result := 2, resCode := code, resAddr := none, resTime := s.tbAt dt }
        freeIx := s.freeIx + 2, cp := t.cp, recs := t.recs } ∧
      t.cp.answers = s.cp.answers ++ [⟨o, 2, { status := St.state, detail := code }⟩] := by
  obtain ⟨hserves, hpair⟩ := writes_split hw
  obtain ⟨u, hrefuse, F⟩ := commitRefuse_frame (s.advance dt) tag (clsPort o.cls).val code
  have hdo := (doCommit_refused (s := s.advance dt) (c := (s.advance dt).ctx o 2) (tag := tag) hholds hcode).trans hrefuse
  have hentry := State.entry_nak (s.advance dt) o 2 (some Reg.DEV_COMMIT) (fun c s => doCommit c s (w32 tag.toNat)) 1 false [w32 tag.toNat] [] false 0 u _ hserves
    (.inr (.inr hpair)) hdo (by decide : St.state ≠ 0)
  have G : Frame [.recs, .cp] u _ := entry_frame (s := s.advance dt) (f := fun c s => doCommit c s (w32 tag.toNat)) (n := 1) (raw := false)
    (ws := [w32 tag.toNat]) (args := []) (maint := false) (age := 0) (addr := some Reg.DEV_COMMIT) hserves (.inr (.inr hpair)) hdo
  refine ⟨_, exec_next_of rfl rfl, (but_of_recs_cp (Frame.next G (by decide) (Frame.next F (by decide) (Frame.refl ..)))).trans rfl, ?_⟩
  show ((s.advance dt).entry o 2 (some Reg.DEV_COMMIT) (fun c s => doCommit c s (w32 tag.toNat)) 1 false [w32 tag.toNat] [] false 0).cp.answers = _
  rw [hentry]
  show (u.settleReply _ _ _).cp.answers ++ _ = _
  rw [settleReply_answers, F.keep .cp (by decide)]
  rfl

/-! ## The boundary -/

/-- What a boundary hands over behind the COMMIT. -/
def State.handOverRest (s : State) : State :=
  (List.finRange 4).foldl (fun (s : State) (x : Fin 4) => if s.auxAlloc x then s.auxBoundary x else s)
    ((List.finRange 6).foldl (fun (s : State) (n : Fin 6) => if s.axAlloc n then s.axisBoundary n else s)
      ((List.finRange 16).foldl (fun (s : State) (g : Fin 16) => s.shareBoundary g true) s.clearTake))

theorem handOver_inTime (h : s.tick.withheld = false) : s.handOver = s.commitTake.handOverRest := by
  unfold State.handOver
  rw [h]
  rfl

theorem Frame.handOverRest (s : State) : Frame [.recs, .regs, .snt, .sns, .ax, .gd, .cmd, .aux, .shr] s s.handOverRest := by
  have hclear := (Frame.refl [.recs, .regs, .snt, .sns, .ax, .gd, .cmd, .aux, .shr] s).frame (Frame.clearTake ..)
  have hshare := hclear.foldlFrom (l := List.finRange 16) (g := fun (s : State) (g : Fin 16) => s.shareBoundary g true) fun _ _ hx => hx.frame (Frame.shareBoundary ..)
  have haxes := hshare.foldlFrom (l := List.finRange 6) (g := fun (s : State) (n : Fin 6) => if s.axAlloc n then s.axisBoundary n else s) fun _ _ hx =>
    Frame.ite (hx.frame (Frame.axisBoundary ..)) hx
  exact haxes.foldlFrom fun _ _ hx => Frame.ite (hx.frame (Frame.auxBoundary ..)) hx

theorem modeBoundary_idle (hmode : s.mode.mode = .hold) (hdrive : s.mode.drivePending = none) : s.modeBoundary = s.boundaryRequests := by
  have hkept := (boundaryRequests_mode s).1
  have hpending := boundaryRequests_hold hmode
  unfold State.modeBoundary
  rw [← State.boundaryRequests]
  generalize s.boundaryRequests = r at *
  dsimp only
  rw [hkept, hmode]
  dsimp only
  rw [hpending, hdrive]

theorem foldl_set_wf (l : List (Nat × Word)) {g : Regs} (h : g.wf = true) : (l.foldl (fun (r : Regs) b => r.set b.1 b.2) g).wf = true := by
  induction l generalizing g with
  | nil => exact h
  | cons b l ih => exact ih (Regs.set_wf _ _ _ h)

/-- Every axis takes the frequency that the staged set gives it. -/
def State.freqCommits (s : State) : State := (List.finRange 10).foldl (fun (s : State) (a : Fin 10) => if s.alloc10 a then s.freqCommit a else s) s

theorem Frame.freqCommits (s : State) : Frame [.snt] s s.freqCommits :=
  (Frame.refl [.snt] s).foldlFrom fun _ _ hx => Frame.ite (hx.frame (Frame.freqCommit ..)) hx

/-- The staged set whole (R104). -/
theorem commitTake_applied {x : CommitPending} (hpend : s.stg.commit = some x) (hgood : x.verdict = some none) : s.commitTake.regs = s.stagedRegs := by
  unfold State.commitTake
  rw [hpend]
  dsimp only
  rw [hgood]
  dsimp only
  rw [← State.freqCommits]
  exact ((Frame.freqCommits _).keep .regs (by decide)).trans ((Frame.commitEnd ..).keep .regs (by decide))

/-- No word of it (R104). -/
theorem commitTake_broken {x : CommitPending} {code addr : Nat} (hpend : s.stg.commit = some x) (hbad : x.verdict = some (some (code, addr))) :
    s.commitTake.regs = s.regs := by
  unfold State.commitTake
  rw [hpend]
  dsimp only
  rw [hbad]
  dsimp only
  exact Frame.keep (K := [.stg, .recs]) (Frame.next (Frame.commitEnd ..) (by decide) (Frame.next (Frame.onStg ..) (by decide) (Frame.refl ..))) .regs (by decide)

/-- A boundary in HOLD met in time, seen as its COMMIT and what is behind it: outside the blocks of the axes the registers are those the COMMIT leaves. -/
theorem boundary_regs {g : Regs} (hmode : s.mode.mode = .hold) (hdrive : s.mode.drivePending = none) (hdone : s.tick.workDone = true)
    (hkept : s.tick.withheld = false) (hg : g.wf = true) (htake : ∀ u : State, u.stg = s.stg → u.regs = s.regs → u.commitTake.regs = g) (a : Nat)
    (ha : ¬(0x10000 ≤ a ∧ a < 0x24000)) : s.boundary.regs.get a = g.get a := by
  have hjudge : s.tickJudge = s := if_pos hdone
  have F := Frame.boundaryRequests s
  have hfront : s.boundaryFront = s.boundaryRequests.commitTake.handOverRest := by
    unfold State.boundaryFront
    rw [hjudge, modeBoundary_idle hmode hdrive]
    exact handOver_inTime ((congrArg TickSt.withheld (F.keep .tick (by decide))).trans hkept)
  have hregs : s.boundaryRequests.commitTake.regs = g := htake _ (F.keep .stg (by decide)) (F.keep .regs (by decide))
  rw [boundary_eq, hfront]
  generalize s.boundaryRequests.commitTake = u at hregs
  have G : Frame [.mode, .stg, .tick, .recs, .regs, .snt, .freeIx, .cp, .fab, .sns, .ax, .gd, .cmd, .aux, .shr, .sip, .saf, .can] u
      u.handOverRest.tickNext.boundaryBehind :=
    (((Frame.refl _ u).frame (Frame.handOverRest ..)).frame (Frame.tickNext ..)).frame (Frame.boundaryBehind ..)
  rw [← hregs]
  exact (G.keep .regsOff (by decide) (by rw [hregs]; exact hg)).2 a ha

end

/-- Settles O15: the bank is discarded, locked or refused, and a boundary in HOLD puts all of its words in force or none. -/
theorem commitIsWhole : Obligations.CommitIsWhole := by
  unfold Obligations.CommitIsWhole
  intro s dt
  refine ⟨fun o hw hholds => ⟨fun hfree => exec_stgDiscard hw hholds hfree, fun tag hmode hbank hfree => ?_, fun tag code hcode => ?_⟩,
    fun c hrun hwf hmode hdrive hdone hkept hb hlater hpend => ⟨fun hgood => ?_, fun code addr hbad => ?_⟩⟩
  · exact ⟨_, exec_write_ack rfl hw (doCommit_accepted (s := s.advance dt) (c := (s.advance dt).ctx o 2) hholds hmode hbank hfree), rfl⟩
  · refine exec_commit_refused hw hholds ?_
    rcases hcode with ⟨rfl, hhold, hdrive, hlimp⟩ | hempty
    · exact .inl ⟨rfl, fun h => h.elim hhold fun h => h.elim hdrive hlimp⟩
    · exact .inr hempty
  · refine ⟨_, exec_outerTickBoundary hrun hb hlater, fun a ha => ?_⟩
    rw [State.settle_regs]
    refine boundary_regs (s := s.advance dt) (g := s.stagedRegs) hmode hdrive hdone hkept (foldl_set_wf s.stg.bank hwf) (fun u hstg hregs => ?_) a ha
    rw [commitTake_applied (s := u) (by rw [hstg]; exact hpend) hgood, State.stagedRegs, hstg, hregs]
    rfl
  · refine ⟨_, exec_outerTickBoundary hrun hb hlater, fun a ha => ?_⟩
    rw [State.settle_regs]
    refine boundary_regs (s := s.advance dt) (g := s.regs) hmode hdrive hdone hkept hwf (fun u hstg hregs => ?_) a ha
    exact (commitTake_broken (s := u) (by rw [hstg]; exact hpend) hbad).trans hregs

end Sys2Proof.Machine
end

section
/-! PROOF. The reactions to missed updates (R47 to R50), the SLACK window, and the change of a PWM frequency (R207). -/
set_option Elab.async false

namespace Sys2Proof.Machine

section
variable {s : State} {dt : Nat} {n : Fin 6} {a : Fin 10}

/-! ## LATE_REACT -/

theorem lateReact_asc (hasc : s.ax[n].state = .asc) : s.lateReact (axis10 n) = s.modSnt (axis10 n) fun q => { q with react := 0 } := by
  unfold State.lateReact
  rw [mainOf_axis10]
  dsimp only
  rw [if_pos (by rw [show s.ax[n].state = .asc from hasc]; rfl)]

/-- The ramp stop, which both reactions may take. -/
def State.lateStop (s : State) (n : Fin 6) : State :=
  ((s.modSnt (axis10 n) fun q => { q with react := 0 }).axStop n (.fault 0x0102 true)).event s.tb (Unit.ax n) 0x0103 2 0

/-- The order of half the frequency. -/
def State.lateHalve (s : State) (n : Fin 6) : State :=
  (s.modSnt (axis10 n) fun q => { q with
    react := 0, halved := true, clearOk := false, clearSince := none, clearMax := 0, freqNext := some (s.regs.AXn_PWM_F n / 2) }).event s.tb
      (Unit.ax n) 0x0103 1 (s.regs.AXn_PWM_F n / 2).floor.toNat

theorem lateReact_ordered (hasc : s.ax[n].state ≠ .asc) (hreact : s.snt[axis10 n].react = 2) : s.lateReact (axis10 n) = s.lateStop n := by
  have hquiet : ¬(s.ax[n].state == AxState.asc) = true := fun h => hasc (beq_iff_eq.1 h)
  unfold State.lateReact
  rw [mainOf_axis10]
  dsimp only
  rw [if_neg hquiet, hreact]
  rfl

theorem lateReact_boundary (hasc : s.ax[n].state ≠ .asc) (hreact : s.snt[axis10 n].react = 1) (hb : s.tb % s.period = 0) :
    s.lateReact (axis10 n) = if s.regs.AXn_PWM_F n / 2 < 1000 then s.lateStop n else s.lateHalve n := by
  have hquiet : ¬(s.ax[n].state == AxState.asc) = true := fun h => hasc (beq_iff_eq.1 h)
  unfold State.lateReact
  rw [mainOf_axis10]
  dsimp only
  rw [if_neg hquiet, hreact]
  exact if_pos hb

theorem lateReact_halve (hasc : s.ax[n].state ≠ .asc) (hreact : s.snt[axis10 n].react = 1) (hb : s.tb % s.period = 0) (hfast : 1000 ≤ s.regs.AXn_PWM_F n / 2) :
    s.lateReact (axis10 n) = s.lateHalve n := by
  rw [lateReact_boundary hasc hreact hb, if_neg (not_lt.2 hfast)]

theorem lateReact_stop (hasc : s.ax[n].state ≠ .asc)
    (hreact : s.snt[axis10 n].react = 2 ∨ s.snt[axis10 n].react = 1 ∧ s.tb % s.period = 0 ∧ s.regs.AXn_PWM_F n / 2 < 1000) :
    s.lateReact (axis10 n) = s.lateStop n := by
  rcases hreact with hreact | ⟨hreact, hb, hslow⟩
  · exact lateReact_ordered hasc hreact
  · rw [lateReact_boundary hasc hreact hb, if_pos hslow]

/-- What the ramp stop leaves: the reaction taken up, the axis as a stop leaves it, one record. -/
theorem lateStop_stops (hphase : s.pwr.phase = .running) :
    (s.lateStop n).snt = vset s.snt (axis10 n) (fun q => { q with react := 0 }) ∧
      (s.lateStop n).ax = ((s.modSnt (axis10 n) fun q => { q with react := 0 }).axStop n (.fault 0x0102 true)).ax ∧
      Wrote s (s.lateStop n) [evtOf s.tb (Unit.ax n) 0x0103 2 0] := by
  have F := Frame.axStop (s.modSnt (axis10 n) fun q => { q with react := 0 }) n (.fault 0x0102 true)
  have hsnt := F.keep .snt (by decide)
  have hrecs := F.keep .recs (by decide)
  have hpwr := F.keep .pwr (by decide)
  have hregs := F.keep .regs (by decide)
  unfold State.lateStop
  generalize (s.modSnt (axis10 n) fun q => { q with react := 0 }).axStop n (.fault 0x0102 true) = u at *
  have G : Frame [.recs] u (u.event s.tb (Unit.ax n) 0x0103 2 0) := Frame.event ..
  exact ⟨(G.keep .snt (by decide)).trans hsnt, G.keep .ax (by decide), Wrote.event_one hphase hrecs hpwr hregs⟩

theorem exec_lateReact {u : State} (hrun : s.running = true) (hu : (s.advance dt).lateReact a = u) : exec (.lateReact dt a) s = .next u.settle :=
  exec_next_of (congrArg done (if_pos hrun)) hu

theorem exec_lateStop (hrun : s.running = true) (hstate : s.ax[n].state = .run)
    (hreact : s.snt[axis10 n].react = 2 ∨ s.snt[axis10 n].react = 1 ∧ s.tbAt dt % s.period = 0 ∧ s.regs.AXn_PWM_F n / 2 < 1000) :
    ∃ t, exec (.lateReact dt (axis10 n)) s = .next t ∧ t.snt = vset s.snt (axis10 n) (fun q => { q with react := 0 }) ∧ t.ax[n].state = .stop ∧
      t.ax[n].stopKind = .fault 0x0102 true ∧ Wrote s t [evtOf (s.tbAt dt) (Unit.ax n) 0x0103 2 0] := by
  have hasc : (s.advance dt).ax[n].state ≠ .asc := by
    rw [State.advance_ax, hstate]
    decide
  obtain ⟨hsnt, hax, hwrote⟩ := lateStop_stops (s := s.advance dt) (n := n) (run_phase hrun)
  obtain ⟨hstop, hkind, -⟩ := State.axStop_fault ((s.advance dt).modSnt (axis10 n) fun q => { q with react := 0 }) n 0x0102 true (.inl hstate)
  refine ⟨_, exec_lateReact hrun (lateReact_stop hasc hreact), hsnt, ?_, ?_, hwrote.settle⟩
  · rw [State.settle_ax, hax]
    exact hstop
  · rw [State.settle_ax, hax]
    exact hkind

/-- A reaction on an axis that stops under BRAKE changes the reason of its HALT and no timer (R261). -/
theorem axStop_lateInBrake {r : Nat} (hstate : s.ax[n].state = .stop) (hmode : s.mode.mode = .brake) :
    (s.axStop n (.fault r true)).ax[n].haltReason = r ∧ (s.axStop n (.fault r true)).ax[n].stopAt = s.ax[n].stopAt ∧
      (s.axStop n (.fault r true)).ax[n].still = s.ax[n].still ∧ (s.ax[n].stopKind = .brake → (s.axStop n (.fault r true)).ax[n].stopFree = true) := by
  have hlate (u : State) (hax : u.ax = s.ax) (hm : u.mode = s.mode) : u.lateInBrake n (.fault r true) = true := by
    simp only [State.lateInBrake, hax, hm, show s.ax[n].state = .stop from hstate, hmode]
    rfl
  unfold State.axStop
  extract_lets x inStop enters keep c s1 s2
  have h1 : s1.ax = s.ax ∧ s1.mode = s.mode := by unfold s1; split <;> exact ⟨rfl, rfl⟩
  have h2 : s2.ax = s.ax ∧ s2.mode = s.mode := by unfold s2; split <;> exact h1
  have hx : x.state = .stop := hstate
  have hin : inStop = true := by
    show (x.state == .stop) = true
    rw [hx]
    rfl
  have hl := hlate s2 h2.1 h2.2
  clear_value s2
  rw [if_neg (by rw [hx]; simp), if_neg (by rw [hin]; simp), State.modAx_self, hl, hin, h2.1]
  refine ⟨rfl, rfl, rfl, fun hkind => ?_⟩
  simp only [show s.ax[n].stopKind = .brake from hkind]
  rfl

theorem exec_lateInBrake (hrun : s.running = true) (hreact : s.snt[axis10 n].react = 2) (hstate : s.ax[n].state = .stop) (hmode : s.mode.mode = .brake) :
    ∃ t, exec (.lateReact dt (axis10 n)) s = .next t ∧ t.ax[n].haltReason = 0x0102 ∧ t.ax[n].stopAt = s.ax[n].stopAt ∧
      t.ax[n].still = s.ax[n].still ∧ (s.ax[n].stopKind = .brake → t.ax[n].stopFree = true) := by
  have hasc : (s.advance dt).ax[n].state ≠ .asc := by
    rw [State.advance_ax, hstate]
    decide
  obtain ⟨-, hax, -⟩ := lateStop_stops (s := s.advance dt) (n := n) (run_phase hrun)
  have hstop := axStop_lateInBrake (s := (s.advance dt).modSnt (axis10 n) fun q => { q with react := 0 }) (n := n) (r := 0x0102) hstate hmode
  refine ⟨_, exec_lateReact hrun (lateReact_stop hasc (.inl hreact)), ?_⟩
  rw [State.settle_ax, hax]
  exact hstop

/-! ## The other events of the sentinel -/

theorem lateBridgeOff_due (height : 8 ≤ s.snt[axis10 n].consec) (hmoving : s.moving10 (axis10 n) = true) (hasc : s.ax[n].state ≠ .asc) :
    s.lateBridgeOff (axis10 n) = ((s.softOff (axis10 n)).halt10 (axis10 n) 0x0102).event s.tb (Unit.axis (axis10 n)) 0x0103 3 0 := by
  have hquiet : (s.ax[n].state == AxState.asc) = false := beq_eq_false_iff_ne.2 hasc
  unfold State.lateBridgeOff
  rw [mainOf_axis10]
  dsimp only
  rw [if_pos ⟨height, hmoving, by rw [hquiet]; rfl⟩]

theorem exec_lateBridgeOff (hrun : s.running = true) (height : 8 ≤ s.snt[axis10 n].consec) (hmoving : s.moving10 (axis10 n) = true)
    (hasc : s.ax[n].state ≠ .asc) :
    ∃ t, exec (.lateBridgeOff dt (axis10 n)) s = .next t ∧ t.ax[n].state = .halt ∧ t.ax[n].haltReason = 0x0102 := by
  have hdue := lateBridgeOff_due (s := s.advance dt) height hmoving hasc
  obtain ⟨hstate, hreason, -⟩ := State.axHaltOff_ax ((s.advance dt).softOff (axis10 n)) n 0x0102
  rw [State.halt10_main] at hdue
  generalize ((s.advance dt).softOff (axis10 n)).axHaltOff n 0x0102 = u at *
  have hax : (u.event (s.advance dt).tb (Unit.axis (axis10 n)) 0x0103 3 0).ax = u.ax := (Frame.event ..).keep .ax (by decide)
  refine ⟨_, exec_next_of (congrArg done (if_pos hrun)) hdue, ?_, ?_⟩
  · rw [State.settle_ax, hax]
    exact hstate
  · rw [State.settle_ax, hax]
    exact hreason

theorem slackClose_due {at' k : Nat} {m : Int} (hwindow : s.snt[a].window = some (at', k, m)) (hover : at' + 100000000 ≤ s.tb) :
    s.slackClose a = (s.modSnt a fun q => { q with window := none }).event at' (Unit.axis a) 0x0101 (min k 65535) (twos 4 m) := by
  unfold State.slackClose
  rw [hwindow]
  exact if_pos hover

theorem exec_slackWindowClose {at' k : Nat} {m : Int} (hrun : s.running = true) (hwindow : s.snt[a].window = some (at', k, m))
    (hover : at' + 100000000 ≤ s.tbAt dt) :
    ∃ t, exec (.slackWindowClose dt a) s = .next t ∧
      t.but s = { s.advance dt with recs := t.recs, snt := vset s.snt a (fun q => { q with window := none }) } ∧
      Wrote s t [evtOf at' (Unit.axis a) 0x0101 (min k 65535) (twos 4 m)] :=
  ⟨_, exec_next_of (congrArg done (if_pos hrun)) (slackClose_due (s := s.advance dt) hwindow hover), (but_event ..).trans rfl,
    (Wrote.event_one (run_phase hrun)).settle⟩

theorem lateClear_due {since : Nat} (hsince : s.snt[axis10 n].clearSince = some since) (hhalved : s.snt[axis10 n].halved = true)
    (hnew : s.snt[axis10 n].clearOk = false) (hover : since + 1000000000 ≤ s.tb) :
    s.lateClear n = (s.modSnt (axis10 n) fun q => { q with clearOk := true }).event s.tb (Unit.ax n) 0x0104 0 s.snt[axis10 n].clearMax := by
  unfold State.lateClear
  dsimp only
  rw [hsince]
  exact if_pos ⟨hhalved, by rw [hnew]; rfl, hover⟩

theorem exec_lateClear {since : Nat} (hrun : s.running = true) (hsince : s.snt[axis10 n].clearSince = some since) (hhalved : s.snt[axis10 n].halved = true)
    (hnew : s.snt[axis10 n].clearOk = false) (hover : since + 1000000000 ≤ s.tbAt dt) :
    ∃ t, exec (.lateClear dt n) s = .next t ∧
      t.but s = { s.advance dt with recs := t.recs, snt := vset s.snt (axis10 n) (fun q => { q with clearOk := true }) } ∧
      Wrote s t [evtOf (s.tbAt dt) (Unit.ax n) 0x0104 0 s.snt[axis10 n].clearMax] :=
  ⟨_, exec_next_of (congrArg done (if_pos hrun)) (lateClear_due (s := s.advance dt) hsince hhalved hnew hover), (but_event ..).trans rfl,
    (Wrote.event_one (run_phase hrun)).settle⟩

/-! ## The carrier -/

/-- The sentinel of an axis whose carrier takes the frequency `f`; `back` where that is the frequency of its configuration. -/
def Sentinel.tuned (q : Sentinel) (f : Rat) (back : Bool) : Sentinel :=
  { q with freq := f, freqNext := none, halved := q.halved && !back, clearOk := q.clearOk && !back, clearSince := none, clearMax := 0 }

theorem pwmChange_valley {f : Rat} {k x : Nat} (hnext : s.snt[a].freqNext = some f) (hextreme : s.extreme a = some (k, x)) (heven : k % 2 = 0) :
    s.pwmChange a = match mainOf a with
      | some n => (s.modSnt a fun q => q.tuned f (f == s.pwmF a)).modAx n fun y => { y with valley := x }
      | none => (s.modSnt a fun q => q.tuned f (f == s.pwmF a)).modAux (auxOf a) fun y => { y with valley := x } := by
  have hvalley : s.atValley a = true := by
    unfold State.atValley
    rw [hextreme]
    exact beq_iff_eq.2 heven
  unfold State.pwmChange
  rw [hnext]
  dsimp only
  rw [if_pos hvalley, hextreme]
  rfl

theorem exec_pwmFrequencyChange {f : Rat} {k x : Nat} (hrun : s.running = true) (hnext : s.snt[a].freqNext = some f)
    (hextreme : (s.advance dt).extreme a = some (k, x)) (heven : k % 2 = 0) :
    ∃ t, exec (.pwmFrequencyChange dt a) s = .next t ∧ t.but s = { s.advance dt with snt := t.snt, ax := t.ax, aux := t.aux } ∧
      t.snt[a].freq = f ∧ t.snt[a].freqNext = none ∧ (∀ n, mainOf a = some n → t.ax[n] = { s.ax[n] with valley := x }) ∧
      (mainOf a = none → t.aux[auxOf a] = { s.aux[auxOf a] with valley := x }) := by
  have hchange := pwmChange_valley (s := s.advance dt) hnext hextreme heven
  have hsnt : (vset s.snt a fun q => q.tuned f (f == (s.advance dt).pwmF a))[a] = s.snt[a].tuned f (f == (s.advance dt).pwmF a) := vset_self ..
  rcases hmain : mainOf a with _ | n
  · rw [hmain] at hchange
    refine ⟨_, exec_next_of (congrArg done (if_pos hrun)) hchange, rfl, (congrArg Sentinel.freq hsnt).trans rfl,
      (congrArg Sentinel.freqNext hsnt).trans rfl, fun n h => ?_, fun _ => vset_self ..⟩
    cases h
  · rw [hmain] at hchange
    refine ⟨_, exec_next_of (congrArg done (if_pos hrun)) hchange, rfl, (congrArg Sentinel.freq hsnt).trans rfl,
      (congrArg Sentinel.freqNext hsnt).trans rfl, fun m h => ?_, fun h => ?_⟩
    · cases h
      exact vset_self ..
    · cases h

end

/-- Settles O9: the reactions to missed updates, the windows they leave, and the new carrier. -/
theorem lateReactionsAndCarrier : Obligations.LateReactionsAndCarrier := by
  unfold Obligations.LateReactionsAndCarrier
  intro s dt
  refine ⟨fun n hrun hasc => ⟨_, exec_lateReact hrun (lateReact_asc (s := s.advance dt) hasc), rfl⟩, fun n hrun hasc hreact hb hfast => ?_,
    fun n hrun hreact hstate => exec_lateStop hrun hstate (.inl hreact), fun n hrun hreact hb hslow hstate => ?_,
    fun n hrun hreact hstate hmode => exec_lateInBrake hrun hreact hstate hmode,
    fun n hrun height hmoving hasc => exec_lateBridgeOff hrun height hmoving hasc, fun a at' k m hrun hwindow hover => exec_slackWindowClose hrun hwindow hover,
    fun n since hrun hsince hhalved hnew hover => exec_lateClear hrun hsince hhalved hnew hover,
    fun a f k x hrun hnext hextreme heven => exec_pwmFrequencyChange hrun hnext hextreme heven⟩
  · exact ⟨_, exec_lateReact hrun (lateReact_halve (s := s.advance dt) hasc hreact hb hfast), (but_event ..).trans rfl, (Wrote.event_one (run_phase hrun)).settle⟩
  · obtain ⟨t, hexec, -, hstop, hkind, hwrote⟩ := exec_lateStop hrun hstate (.inr ⟨hreact, hb, hslow⟩)
    exact ⟨t, hexec, hstop, hkind, hwrote⟩

end Sys2Proof.Machine
end

section
/-! PROOF. The post of an auxiliary axis's set frees the engine, which starts the first update that waits: that may be one that stands before it. -/
set_option Elab.async false

namespace Sys2Proof.Machine

/-- An update whose set has been posted though the engine has not started it. -/
def postedUnstarted : Upd := { sample := 0, edge := 1000000000000, started := false, posted := some 0, pos := 0, spd := 0 }

/-- The update that the engine works on, with no set yet. -/
def workedOn : Upd := { sample := 0, edge := 1000000000000, started := true, posted := none, pos := 0, spd := 0 }

/-- A device in DRIVE whose first auxiliary axis has both. -/
def auxEngineBusy : State :=
  { Tests.rig .drive with snt := vset (Tests.rig .drive).snt 6 (fun q => { q with upds := [postedUnstarted, workedOn], late := [] }) }

/-- Whether the first update of the first auxiliary axis counts as started after a command. -/
def firstStartedAfter (c : Instr) (s : State) : Option Bool :=
  match exec c s with
  | .next t => t.snt[(6 : Fin 10)].upds.head?.map Upd.started
  | _ => none

theorem firstStartedAfter_next {c : Instr} {s t : State} (h : exec c s = .next t) :
    firstStartedAfter c s = t.snt[(6 : Fin 10)].upds.head?.map Upd.started := by
  rw [firstStartedAfter, h]

theorem firstStartedAfter_post : firstStartedAfter (.edgeSetPosted 0 6) auxEngineBusy = some true := by decide +kernel

/-- Refutes O8: the clause on EDGE_SET_POSTED keeps every update before the one posted as it is. On an auxiliary axis the engine that the post frees
starts the first update that has not been started, and the clause asks of those before only that their sets are posted. -/
theorem not_updateRunsToItsInstant : ¬ Obligations.UpdateRunsToItsInstant := by
  intro h
  obtain ⟨-, -, hpost, -⟩ := h auxEngineBusy 0
  obtain ⟨t, hexec, ⟨rest, hupds, -⟩, -⟩ := hpost 6 [postedUnstarted] [] workedOn (by decide +kernel) rfl (by simp [postedUnstarted]) rfl rfl
    (by decide +kernel) (fun n r hmain => by simp [mainOf] at hmain) (by decide +kernel)
  have hstarted := firstStartedAfter_next hexec
  rw [firstStartedAfter_post, hupds] at hstarted
  cases hstarted

end Sys2Proof.Machine
end

section
/-! PROOF. Frames at the ports (R398 to R403, R413, R416): what a port puts out, a frame of two NOPs, a repeat, the SPI instructions, the maintenance
set_option Elab.async false

gap, forwarded replies and the run of a port. -/
namespace Sys2Proof.Machine

section
variable {s u : State} {dt : Nat} {p : Fin 3}

/-! ## What a port puts out -/

/-- `t` is `s` with the frame `b` put out at port `p`: its form says where it stands. -/
structure PutOut (s t : State) (p : Fin 3) (b : List Byte) : Prop where
  frame : Frame [.recs, .cp] s t
  rest : t.cp = { s.cp with ports := t.cp.ports }
  seqRef : t.cp.ports[p].seqRef = s.cp.ports[p].seqRef
  cached : t.cp.ports[p].cached = s.cp.ports[p].cached
  inFlight : t.cp.ports[p].inFlight = s.cp.ports[p].inFlight
  sent : s.portForm p ≠ 2 → t.cp.ports[p].sent = s.cp.ports[p].sent ++ [b]
  queue : s.portForm p = 2 → s.cp.ports[p].queue.length < 16 → t.cp.ports[p].queue = s.cp.ports[p].queue ++ [⟨false, b⟩]

theorem PutOut.of_port {b : List Byte} {f : PortSt → PortSt} (F : Frame [.recs] s u) (href : ∀ q, (f q).seqRef = q.seqRef) (hcached : ∀ q, (f q).cached = q.cached)
    (hflight : ∀ q, (f q).inFlight = q.inFlight) (hsent : s.portForm p ≠ 2 → ∀ q, (f q).sent = q.sent ++ [b])
    (hqueue : s.portForm p = 2 → ∀ q, q.queue.length < 16 → (f q).queue = q.queue ++ [⟨false, b⟩]) : PutOut s (u.modPort p f) p b := by
  have hcp : u.cp = s.cp := F.keep .cp (by decide)
  have hport : (u.modPort p f).cp.ports[p] = f s.cp.ports[p] := by
    rw [← hcp]
    exact vset_self ..
  refine ⟨Frame.next (Frame.modPort ..) (by decide) (Frame.next F (by decide) (Frame.refl ..)), ?_, ?_, ?_, ?_, fun h => ?_, fun h hroom => ?_⟩
  · show ({ u.cp with ports := vset u.cp.ports p f } : CpSt) = { s.cp with ports := vset u.cp.ports p f }
    rw [hcp]
  · rw [hport, href]
  · rw [hport, hcached]
  · rw [hport, hflight]
  · rw [hport, hsent h]
  · rw [hport, hqueue h _ hroom]

/-- What the maintenance port sends stands on its line too. -/
theorem PutOut.mntPut {b x : List Byte} {t : State} (h : PutOut s t 2 b) : PutOut s (t.mntPut x) 2 b := by
  obtain ⟨line, hport⟩ : ∃ l, (t.mntPut x).cp.ports[(2 : Fin 3)] = { t.cp.ports[(2 : Fin 3)] with line := l } := ⟨_, vset_self ..⟩
  refine ⟨Frame.next (Frame.mntPut ..) (by decide) h.frame, ?_, ?_, ?_, ?_, fun hform => ?_, fun hform hroom => ?_⟩
  · show ({ t.cp with ports := (t.mntPut x).cp.ports } : CpSt) = { s.cp with ports := (t.mntPut x).cp.ports }
    rw [h.rest]
  · rw [hport]
    exact h.seqRef
  · rw [hport]
    exact h.cached
  · rw [hport]
    exact h.inFlight
  · rw [hport]
    exact h.sent hform
  · rw [hport]
    exact h.queue hform hroom

theorem portSend_putOut {b : List Byte} (hopen : s.portOpen p = true) : PutOut s (s.portSend p false b) p b := by
  unfold State.portSend
  rw [hopen, if_neg (by decide)]
  by_cases hform : s.portForm p = 2
  · rw [if_pos hform]
    refine PutOut.of_port (Frame.refl ..) (fun _ => rfl) (fun _ => rfl) (fun _ => rfl) (fun h => absurd hform h) fun _ q hroom => ?_
    exact if_neg (by omega)
  · rw [if_neg hform]
    have h : PutOut s ((s.frameCp p true s.tb b).modPort p fun q => { q with sent := q.sent ++ [b] }) p b :=
      PutOut.of_port (Frame.frameCp ..) (fun _ => rfl) (fun _ => rfl) (fun _ => rfl) (fun _ _ => rfl) fun h => absurd h hform
    dsimp only
    split
    · next hmnt =>
      subst hmnt
      exact h.mntPut
    · exact h

/-- A port whose one request is answered. -/
def PortSt.answered (q : PortSt) (seq : Nat) (b : List Byte) : PortSt :=
  { q with inFlight := q.inFlight - 1, cached := if q.seqRef = some seq then some b else q.cached }

/-- `t` is `s` with the reply `b` to the request `seq` put out at port `p`. -/
structure Replied (s t : State) (p : Fin 3) (seq : Nat) (b : List Byte) : Prop where
  frame : Frame [.recs, .cp] s t
  rest : t.cp = { s.cp with ports := t.cp.ports }
  seqRef : t.cp.ports[p].seqRef = s.cp.ports[p].seqRef
  cached : t.cp.ports[p].cached = if s.cp.ports[p].seqRef = some seq then some b else s.cp.ports[p].cached
  inFlight : t.cp.ports[p].inFlight = s.cp.ports[p].inFlight - 1
  sent : s.portForm p ≠ 2 → t.cp.ports[p].sent = s.cp.ports[p].sent ++ [b]
  queue : s.portForm p = 2 → s.cp.ports[p].queue.length < 16 → t.cp.ports[p].queue = s.cp.ports[p].queue ++ [⟨false, b⟩]

theorem portOpen_modPort {f : PortSt → PortSt} (hup : ∀ q, (f q).up = q.up) : (s.modPort p f).portOpen p = s.portOpen p := by
  have hport : (s.modPort p f).cp.ports[p] = f s.cp.ports[p] := vset_self ..
  unfold State.portOpen
  rw [hport, hup]
  rfl

theorem portReply_replied {seq : Nat} {b : List Byte} (hopen : s.portOpen p = true) : Replied s (s.portReply p seq b) p seq b := by
  have hport : (s.modPort p fun q => q.answered seq b).cp.ports[p] = s.cp.ports[p].answered seq b := vset_self ..
  have h : PutOut (s.modPort p fun q => q.answered seq b) (s.portReply p seq b) p b :=
    portSend_putOut ((portOpen_modPort (f := fun q => q.answered seq b) (fun _ => rfl)).trans hopen)
  refine ⟨Frame.next h.frame (by decide) (Frame.next (Frame.modPort ..) (by decide) (Frame.refl ..)), h.rest.trans rfl, ?_, ?_, ?_, fun hform => ?_, fun hform hroom => ?_⟩
  · rw [h.seqRef, hport]
    rfl
  · rw [h.cached, hport]
    rfl
  · rw [h.inFlight, hport]
    rfl
  · rw [h.sent hform, hport]
    rfl
  · rw [h.queue hform (by rw [hport]; exact hroom), hport]
    rfl

/-! ## A frame comes in -/

theorem clsPort_portCls (p : Fin 3) : clsPort (portCls p) = p := by
  fin_cases p <;> rfl

theorem portServes_of_serves {b : List Byte} (hserves : s.serves ⟨portCls p, none⟩ = true) : s.portServes p b = true := by
  have hphase := serves_phase hserves
  have hrun : s.running = true := by
    simp only [State.serves, Bool.and_eq_true] at hserves
    exact hserves.1.1.1.1
  have hmode : (s.mode.mode != .freeze) = true := by
    simp only [State.running, Bool.and_eq_true] at hrun
    exact hrun.2
  have hup : ((p == 2) || s.cp.ports[p].up) = true := by
    simp only [State.serves, Bool.and_eq_true, clsPort_portCls] at hserves
    have h := hserves.1.1.2
    fin_cases p
    · exact h
    · exact h
    · rfl
  unfold State.portServes
  rw [hphase]
  dsimp only
  rw [hmode, hup]
  rfl

/-- What a port notes of a frame that it receives. -/
def State.noted (s : State) (p : Fin 3) (time : Nat) (b : List Byte) : State :=
  (s.modPort p fun q => { q with rx := (q.rx + 1) % 2 ^ 32 }).frameCp p false time b

theorem noted_frame (time : Nat) (b : List Byte) : Frame [.recs] (s.modPort p fun q => { q with rx := (q.rx + 1) % 2 ^ 32 }) (s.noted p time b) :=
  Frame.frameCp ..

/-- What a received frame leaves of a port: all but its count. -/
structure Noted (s t : State) (p : Fin 3) : Prop where
  frame : Frame [.recs, .cp] s t
  rest : t.cp = { s.cp with ports := t.cp.ports }
  port : ∃ rx, t.cp.ports[p] = { s.cp.ports[p] with rx := rx }

theorem noted_noted (time : Nat) (b : List Byte) : Noted s (s.noted p time b) p := by
  have F := noted_frame (s := s) (p := p) time b
  have hcp : (s.noted p time b).cp = (s.modPort p fun q => { q with rx := (q.rx + 1) % 2 ^ 32 }).cp := F.keep .cp (by decide)
  refine ⟨Frame.next F (by decide) (Frame.next (Frame.modPort ..) (by decide) (Frame.refl ..)), ?_, (s.cp.ports[p].rx + 1) % 2 ^ 32, ?_⟩
  · rw [hcp]
    rfl
  · rw [hcp]
    exact vset_self ..

theorem Noted.portOpen {t : State} (h : Noted s t p) : t.portOpen p = s.portOpen p := by
  obtain ⟨rx, hport⟩ := h.port
  have hform : t.portForm p = s.portForm p := by
    unfold State.portForm
    rw [show t.regs = s.regs from h.frame.keep .regs (by decide)]
  unfold State.portOpen
  rw [hform, hport]

theorem frameIn_good {age : Nat} {maint : Bool} {b : List Byte} (hserves : s.portServes p b = true) (hok : frameOk b = true) (hentries : frameEntries b ≠ none)
    (hroom : s.cp.ports[p].inFlight < 8) :
    s.frameIn p age maint b = (s.noted p (s.tb - age) b).frameSeq p (s.portCtx p age b) maint b := by
  obtain ⟨rx, hport⟩ := (noted_noted (s := s) (p := p) (s.tb - age) b).port
  have hgood : ¬(!frameOk b || ((s.noted p (s.tb - age) b).frameHere b && (frameEntries b).isNone)) = true := by
    rw [hok, Option.isNone_eq_false_iff.2 (Option.isSome_iff_ne_none.2 hentries)]
    simp
  unfold State.frameIn
  rw [hserves, if_neg (by decide)]
  dsimp only
  rw [show (s.modPort p fun q => { q with rx := (q.rx + 1) % 2 ^ 32 }).frameCp p false (s.portCtx p age b).stamp b = s.noted p (s.tb - age) b from rfl]
  have hfree : (s.noted p (s.tb - age) b).cp.ports[p].inFlight < 8 := by
    rw [hport]
    exact hroom
  rw [if_neg hgood, if_neg (Nat.not_le.2 hfree)]

theorem mntFrame_ok {b : List Byte} (hok : frameOk b = true) : mntFrame b = b := by
  have hlen : b.length = 16 + leAt b 8 2 := by
    simp only [frameOk, Bool.and_eq_true, decide_eq_true_eq] at hok
    exact hok.1.1.1.1.1.1.1.1.1.1
  unfold mntFrame
  split
  · rw [← hlen, List.take_length]
  · rfl

theorem mntHunt_none {n age : Nat} {maint : Bool} {b : List Byte} (h : preambleAt 0 b = none) : s.mntHunt n age maint b = s := by
  cases n with
  | zero => rfl
  | succ n =>
    unfold State.mntHunt
    rw [h]

theorem mntIn_good {age : Nat} {maint : Bool} {b : List Byte} (hok : frameOk b = true) (hentries : frameEntries b ≠ none) :
    s.mntIn age maint b = s.frameIn 2 age maint b := by
  have hwhole : (frameOk b && !(s.frameHere b && (frameEntries b).isNone)) = true := by
    rw [hok, Option.isNone_eq_false_iff.2 (Option.isSome_iff_ne_none.2 hentries)]
    simp
  unfold State.mntIn
  dsimp only
  rw [mntFrame_ok hok, if_pos hwhole, List.drop_length]
  exact mntHunt_none rfl

theorem exec_requestFrame {age : Nat} {maint : Bool} {b : List Byte} (hok : frameOk b = true) (hentries : frameEntries b ≠ none) :
    exec (.jcpRequestFrame dt (.port p) age maint b) s = done ((s.advance dt).frameIn p age maint b) := by
  show done (if p = 2 then (s.advance dt).mntIn age maint b else (s.advance dt).frameIn p age maint b) = _
  split
  · next h =>
    subst h
    rw [mntIn_good hok hentries]
  · rfl

/-! ## Two NOPs -/

/-- An entry of operation 4 without arguments. -/
def nopEntry : Entry := ⟨4, []⟩

theorem runEntries_nop {f : FrameExec} {rest : List Entry} (hgood : f.done.any (fun d => d.2.status != St.ack) = false)
    (hgate : s.gateIn f.ctx.o 4 0 0 = .serve) (hroom : f.used + 8 ≤ 4080) :
    runEntries (nopEntry :: rest) f s = runEntries rest { f with used := f.used + 8, done := f.done ++ [(4, { status := St.ack })] } s := by
  have hserve : s.gateIn ({ f.ctx with op := nopEntry.op } : Ctx).o nopEntry.op (gateArgs nopEntry).1 (gateArgs nopEntry).2 = .serve := hgate
  have hshort : ¬4080 < f.used + roomOf nopEntry := Nat.not_lt.2 hroom
  rw [runEntries, hgood, if_neg (by decide)]
  dsimp only
  rw [hserve]
  dsimp only
  rw [if_neg hshort, if_neg (by simp [isTokenWait, nopEntry])]
  rfl

/-- A frame of two NOPs that has run. -/
def FrameExec.ranNops (f : FrameExec) : FrameExec :=
  { f with rest := [], used := f.used + 8 + 8, done := [(4, { status := St.ack }), (4, { status := St.ack })] }

theorem runEntries_nops {f : FrameExec} (hdone : f.done = []) (hused : f.used = 0) (hgate : s.gateIn f.ctx.o 4 0 0 = .serve) :
    runEntries [nopEntry, nopEntry] f s = (f.ranNops, s, .finished) := by
  rw [runEntries_nop (by rw [hdone]; rfl) hgate (by omega),
    runEntries_nop (f := { f with used := f.used + 8, done := f.done ++ [(4, { status := St.ack })] }) (by rw [hdone]; rfl) hgate (by show f.used + 8 + 8 ≤ 4080; omega), runEntries]
  unfold FrameExec.ranNops
  rw [hdone]
  rfl

/-- One frame of two NOPs at hand, and no request. -/
theorem pump_nops {f : FrameExec} (hwait : s.cp.token.waiting = []) (hsus : s.cp.suspended = [f]) (hrest : f.rest = [nopEntry, nopEntry]) (hdone : f.done = [])
    (hused : f.used = 0) (hgate : s.gateIn f.ctx.o 4 0 0 = .serve) (hend : (s.frameEnd f.ranNops).cp.token.waiting = [])
    (hleft : (s.frameEnd f.ranNops).cp.suspended = []) : s.pump = s.frameEnd f.ranNops := by
  have hdecide : s.tokenDecide = (s, []) := by
    unfold State.tokenDecide
    dsimp only
    rw [hwait]
    rfl
  have hnext : s.nextFrame = some f := by
    unfold State.nextFrame State.frameWaits
    rw [hsus, hwait, List.find?_cons_of_pos]
    rw [List.takeWhile_cons_of_neg (by simp)]
    rfl
  unfold State.pump
  rw [hsus, hwait, List.foldl_cons, List.foldl_nil, hrest]
  show s.pumpBy (7 + 1) = _
  unfold State.pumpBy
  rw [hdecide]
  simp only [hnext, hrest, runEntries_nops hdone hused hgate, List.isEmpty_nil, if_true]
  exact pumpBy_idle hend hleft 7

/-- What the answer of a frame of two NOPs is. -/
def nopReply (b : List Byte) (own : Nat) : List Byte :=
  let one : List Byte := leBytes 1 0 ++ leBytes 1 4 ++ leBytes 2 0 ++ leBytes 2 0 ++ leBytes 2 0
  jcpFrame 2 (leAt b 2 2) (leAt b 4 2) own 2 (one ++ one)

theorem gateIn_serves {o : Origin} (hserves : s.serves o = true) : s.gateIn o 4 0 0 = .serve := by
  have hgate := State.gate_serves s o 4 0 0 hserves
  unfold State.gate at hgate
  split at hgate
  · cases hgate
  · exact hgate

theorem gateIn_congr {t : State} {o : Origin} {op lo n : Nat} (hpwr : t.pwr = s.pwr) (hmode : t.mode = s.mode) (hquar : t.cp.quar = s.cp.quar) :
    t.gateIn o op lo n = s.gateIn o op lo n := by
  unfold State.gateIn State.quarantined
  rw [hpwr, hmode, hquar]

theorem frameEnd_nops {f : FrameExec} (hwanted : f.wanted = true) (halone : f.alone = false) (hvia : f.via = .port p) :
    s.frameEnd f.ranNops = ((s.onCp fun x => { x with suspended := x.suspended.filter (fun g => g.id != f.id) }).renewLease f.ctx.o).portReply p f.ctx.seq
      (s.replyFrame f.ctx.tag f.ctx.seq [(4, { status := St.ack }), (4, { status := St.ack })]) := by
  unfold State.frameEnd
  dsimp only [FrameExec.ranNops]
  simp only [hwanted, halone, hvia, Bool.not_true, Bool.false_eq_true, if_false]
  rfl

theorem renewLease_parts (o : Origin) : (s.renewLease o).cp = { s.cp with token := (s.renewLease o).cp.token } ∧
    (s.renewLease o).cp.token.waiting = s.cp.token.waiting ∧ (s.renewLease o).cp.token.holder = s.cp.token.holder := by
  refine ⟨rfl, ?_, ?_⟩
  · show (if s.cp.token.holder = some o then { s.cp.token with renewed := s.tb } else s.cp.token).waiting = _
    split <;> rfl
  · show (if s.cp.token.holder = some o then { s.cp.token with renewed := s.tb } else s.cp.token).holder = _
    split <;> rfl

/-- A port that takes a request of the SEQ `seq`. -/
def PortSt.taking (q : PortSt) (seq : Nat) : PortSt := { q with seqRef := some seq, cached := none, inFlight := q.inFlight + 1 }

theorem frameSeq_due {c : Ctx} {maint : Bool} {b : List Byte}
    (hdue : s.cp.ports[p].seqRef = none ∨ ∃ r, s.cp.ports[p].seqRef = some r ∧ c.seq = (r + 1) % 65536 ∧ c.seq ≠ r) :
    s.frameSeq p c maint b = (s.modPort p fun q => q.taking c.seq).frameTake p c maint b := by
  unfold State.frameSeq
  dsimp only
  rcases hdue with href | ⟨r, href, hnext, hother⟩
  · rw [href]
    rfl
  · rw [href]
    dsimp only
    rw [if_neg hother, if_pos hnext]
    rfl

theorem frameSeq_repeat {c : Ctx} {maint : Bool} {b kept : List Byte} (href : s.cp.ports[p].seqRef = some c.seq) (hkept : s.cp.ports[p].cached = some kept) :
    s.frameSeq p c maint b = s.portSend p false kept := by
  unfold State.frameSeq
  dsimp only
  rw [href]
  dsimp only
  rw [if_pos rfl, hkept]

/-- The frame that a request of two NOPs becomes. -/
def State.nopFrame (s : State) (p : Fin 3) (c : Ctx) (maint : Bool) : FrameExec :=
  { id := s.cp.nextId, via := .port p, ctx := c, rest := [nopEntry, nopEntry], done := [], used := 0, maint := maint, wanted := true }

theorem frameTake_nops {c : Ctx} {maint : Bool} {b : List Byte} (hhere : byteAt b 6 = 0x40) (hentries : frameEntries b = some [nopEntry, nopEntry]) :
    s.frameTake p c maint b = (s.onCp fun x => { x with nextId := x.nextId + 1, suspended := x.suspended ++ [s.nopFrame p c maint] }).pump := by
  have hthis : s.frameHere b = true := by
    unfold State.frameHere
    rw [hhere]
    rfl
  unfold State.frameTake
  rw [hthis, if_neg (by decide), hentries]
  rfl

/-- A request of two NOPs at a port where nothing waits is answered there. -/
theorem frameTake_nops_replied {c : Ctx} {maint : Bool} {b : List Byte} (hhere : byteAt b 6 = 0x40) (hentries : frameEntries b = some [nopEntry, nopEntry])
    (hsus : s.cp.suspended = []) (hwait : s.cp.token.waiting = []) (hgate : s.gateIn c.o 4 0 0 = .serve) (hopen : s.portOpen p = true) :
    ∃ v, Frame [.cp] s v ∧ v.cp.ports = s.cp.ports ∧ v.cp.suspended = [] ∧ v.cp.token.holder = s.cp.token.holder ∧ v.cp.answers = s.cp.answers ∧
      Replied v (s.frameTake p c maint b) p c.seq (s.replyFrame c.tag c.seq [(4, { status := St.ack }), (4, { status := St.ack })]) := by
  let f := s.nopFrame p c maint
  let w := s.onCp fun x => { x with nextId := x.nextId + 1, suspended := x.suspended ++ [f] }
  let x := w.onCp fun x => { x with suspended := x.suspended.filter (fun g => g.id != f.id) }
  obtain ⟨hcp, hwaiting, hholder⟩ := renewLease_parts (s := x) c.o
  have hone : w.cp.suspended = [f] := by
    show s.cp.suspended ++ [f] = _
    rw [hsus]
    rfl
  have hnone : x.cp.suspended = [] := by
    show w.cp.suspended.filter (fun g => g.id != f.id) = []
    rw [hone, List.filter_cons_of_neg (by simp), List.filter_nil]
  have hend : w.frameEnd f.ranNops = (x.renewLease c.o).portReply p c.seq
      (s.replyFrame c.tag c.seq [(4, { status := St.ack }), (4, { status := St.ack })]) := frameEnd_nops (f := f) rfl rfl rfl
  have hports : (x.renewLease c.o).cp.ports = s.cp.ports := by
    rw [hcp]
    rfl
  have hreplied : Replied (x.renewLease c.o) (w.frameEnd f.ranNops) p c.seq
      (s.replyFrame c.tag c.seq [(4, { status := St.ack }), (4, { status := St.ack })]) := by
    rw [hend]
    refine portReply_replied ?_
    unfold State.portOpen at hopen ⊢
    rw [hports]
    exact hopen
  refine ⟨x.renewLease c.o, ?_, hports, ?_, hholder, ?_, ?_⟩
  · exact Frame.next (Frame.renewLease ..) (by decide) (Frame.next (Frame.onCp ..) (by decide) (Frame.onCp ..))
  · rw [hcp]
    exact hnone
  · rw [hcp]
    rfl
  · rw [frameTake_nops hhere hentries]
    have hpump : w.pump = w.frameEnd f.ranNops := by
      refine pump_nops (s := w) hwait hone rfl rfl rfl ((gateIn_congr (s := s) rfl rfl rfl).trans hgate) ?_ ?_
      · rw [hreplied.rest]
        exact hwaiting.trans hwait
      · rw [hreplied.rest]
        show (x.renewLease c.o).cp.suspended = []
        rw [hcp]
        exact hnone
    exact hpump ▸ hreplied

theorem replyFrame_nops {b : List Byte} : s.replyFrame (leAt b 2 2) (leAt b 4 2) [(4, { status := St.ack }), (4, { status := St.ack })] =
    nopReply b (s.fab.addr.getD 0x40) := by
  rfl

theorem Noted.replyFrame {t : State} (h : Noted s t p) (tag seq : Nat) (l : List (Nat × Reply)) : t.replyFrame tag seq l = s.replyFrame tag seq l := by
  unfold State.replyFrame State.ownDest
  rw [show t.fab = s.fab from h.frame.keep .fab (by decide)]

theorem portForm_congr {t : State} (h : t.regs = s.regs) : t.portForm p = s.portForm p := by
  unfold State.portForm
  rw [h]

theorem frameIn_nops {age : Nat} {maint : Bool} {b : List Byte} (hserves : s.serves ⟨portCls p, none⟩ = true) (hopen : s.portOpen p = true)
    (hok : frameOk b = true) (hhere : byteAt b 6 = 0x40) (hentries : frameEntries b = some [nopEntry, nopEntry]) (hroom : s.cp.ports[p].inFlight < 8)
    (hsus : s.cp.suspended = []) (hwait : s.cp.token.waiting = [])
    (hdue : s.cp.ports[p].seqRef = none ∨ ∃ r, s.cp.ports[p].seqRef = some r ∧ leAt b 4 2 = (r + 1) % 65536 ∧ leAt b 4 2 ≠ r) :
    ∃ t, s.frameIn p age maint b = t ∧ Frame [.recs, .cp] s t ∧ t.cp.ports[p].seqRef = some (leAt b 4 2) ∧
      t.cp.ports[p].cached = some (nopReply b (s.fab.addr.getD 0x40)) ∧ t.cp.ports[p].inFlight = s.cp.ports[p].inFlight ∧ t.cp.suspended = [] ∧
      (s.portForm p ≠ 2 → t.cp.ports[p].sent = s.cp.ports[p].sent ++ [nopReply b (s.fab.addr.getD 0x40)]) ∧
      (s.portForm p = 2 → s.cp.ports[p].queue.length < 16 → t.cp.ports[p].queue = s.cp.ports[p].queue ++ [⟨false, nopReply b (s.fab.addr.getD 0x40)⟩]) ∧
      t.cp.token.holder = s.cp.token.holder ∧ t.cp.answers = s.cp.answers := by
  have hnoted := noted_noted (s := s) (p := p) (s.tb - age) b
  obtain ⟨rx, hport⟩ := hnoted.port
  refine ⟨_, frameIn_good (portServes_of_serves hserves) hok (by rw [hentries]; simp) hroom, ?_⟩
  rw [frameSeq_due (by rw [hport]; exact hdue)]
  generalize s.noted p (s.tb - age) b = v at hnoted hport
  let u := v.modPort p fun q => q.taking (leAt b 4 2)
  have hu : u.cp.ports[p] = v.cp.ports[p].taking (leAt b 4 2) := vset_self ..
  have Fu : Frame [.recs, .cp] s u := Frame.next (Frame.modPort ..) (by decide) hnoted.frame
  have hrest := hnoted.rest
  have hopen' : u.portOpen p = true :=
    (portOpen_modPort (f := fun q => q.taking (leAt b 4 2)) (fun _ => rfl)).trans (hnoted.portOpen.trans hopen)
  have hgate : u.gateIn (s.portCtx p age b).o 4 0 0 = .serve :=
    (gateIn_congr (Fu.keep .pwr (by decide)) (Fu.keep .mode (by decide)) (by show v.cp.quar = s.cp.quar; rw [hrest])).trans (gateIn_serves hserves)
  obtain ⟨w, Fw, hports, hleft, hholder, hans, R⟩ := frameTake_nops_replied (s := u) (c := s.portCtx p age b) (maint := maint) hhere hentries
    (by show v.cp.suspended = []; rw [hrest]; exact hsus) (by show v.cp.token.waiting = []; rw [hrest]; exact hwait) hgate hopen'
  have hreply : u.replyFrame (s.portCtx p age b).tag (s.portCtx p age b).seq [(4, { status := St.ack }), (4, { status := St.ack })] =
      nopReply b (s.fab.addr.getD 0x40) := by
    rw [← replyFrame_nops (s := s)]
    exact hnoted.replyFrame _ _ _
  rw [hreply] at R
  have F : Frame [.recs, .cp] s w := Frame.next Fw (by decide) Fu
  have hform : w.portForm p = s.portForm p := portForm_congr (F.keep .regs (by decide))
  have hw : w.cp.ports[p] = { s.cp.ports[p] with rx := rx, seqRef := some (leAt b 4 2), cached := none, inFlight := s.cp.ports[p].inFlight + 1 } := by
    rw [hports, hu, hport]
    rfl
  rw [show (v.modPort p fun q => q.taking (s.portCtx p age b).seq) = u from rfl]
  generalize u.frameTake p (s.portCtx p age b) maint b = z at R ⊢
  refine ⟨Frame.next R.frame (by decide) F, ?_, ?_, ?_, ?_, fun h => ?_, fun h hq => ?_, ?_, ?_⟩
  · rw [R.seqRef, hw]
  · rw [R.cached, hw]
    exact if_pos rfl
  · rw [R.inFlight, hw]
    exact Nat.add_sub_cancel ..
  · rw [R.rest]
    exact hleft
  · rw [R.sent (by rw [hform]; exact h), hw]
  · rw [R.queue (by rw [hform]; exact h) (by rw [hw]; exact hq), hw]
  · rw [R.rest]
    refine hholder.trans ?_
    show v.cp.token.holder = s.cp.token.holder
    rw [hrest]
  · rw [R.rest]
    refine hans.trans ?_
    show v.cp.answers = s.cp.answers
    rw [hrest]

theorem frameIn_repeat {age : Nat} {maint : Bool} {b kept : List Byte} (hserves : s.serves ⟨portCls p, none⟩ = true) (hopen : s.portOpen p = true)
    (hok : frameOk b = true) (hentries : frameEntries b ≠ none) (hroom : s.cp.ports[p].inFlight < 8) (href : s.cp.ports[p].seqRef = some (leAt b 4 2))
    (hkept : s.cp.ports[p].cached = some kept) (hform : s.portForm p ≠ 2) :
    ∃ t, s.frameIn p age maint b = t ∧ Frame [.recs, .cp] s t ∧ t.cp.ports[p].sent = s.cp.ports[p].sent ++ [kept] ∧
      t.cp.ports[p].inFlight = s.cp.ports[p].inFlight := by
  have hnoted := noted_noted (s := s) (p := p) (s.tb - age) b
  obtain ⟨rx, hport⟩ := hnoted.port
  refine ⟨_, frameIn_good (portServes_of_serves hserves) hok hentries hroom, ?_⟩
  rw [frameSeq_repeat (by rw [hport]; exact href) (by rw [hport]; exact hkept)]
  have hput := portSend_putOut (b := kept) (hnoted.portOpen.trans hopen)
  refine ⟨Frame.next hput.frame (by decide) hnoted.frame, ?_, ?_⟩
  · rw [hput.sent (by rw [portForm_congr (s := s) (hnoted.frame.keep .regs (by decide))]; exact hform), hport]
  · rw [hput.inFlight, hport]

/-! ## SPI instructions -/

theorem cpPort_ne (p : Fin 2) : cpPort p ≠ 2 := by
  fin_cases p <;> decide

theorem spiOn_form {p : Fin 2} (hrun : s.running = true) (hform : s.portForm (cpPort p) = 2) : s.spiOn p = true := by
  unfold State.spiOn
  rw [hrun, hform]
  rfl

theorem exec_spiWrite {p : Fin 2} {age : Nat} {b : List Byte} (hrun : s.running = true) (hform : s.portForm (cpPort p) = 2) :
    ∃ t, done ((s.advance dt).spiWrite p age b) = .next t ∧ exec (.jcpRequestFrame dt (.port (cpPort p)) age false b) s = .next t := by
  have hport : exec (.jcpRequestFrame dt (.port (cpPort p)) age false b) s = done ((s.advance dt).frameIn (cpPort p) age false b) :=
    congrArg done (if_neg (cpPort_ne p))
  have hspi : (s.advance dt).spiWrite p age b = (s.advance dt).frameIn (cpPort p) age false b := if_pos (spiOn_form (s := s.advance dt) hrun hform)
  exact ⟨_, (congrArg done hspi).trans (done_eq _), hport.trans (done_eq _)⟩

theorem exec_spiReadStatus {p : Fin 2} (hrun : s.running = true) (hform : s.portForm (cpPort p) = 2) :
    exec (.spiReadStatus dt p) s = .next ((s.advance dt).spiAnswer p 0x05
      (leBytes 1 (b2n (!s.cp.ports[cpPort p].queue.isEmpty) + 2 * b2n (decide (8 ≤ s.cp.ports[cpPort p].inFlight))))).settle :=
  exec_next_of rfl (if_pos (spiOn_form (s := s.advance dt) hrun hform))

theorem spiRead_none {p : Fin 2} {op : Nat} (hon : s.spiOn p = true) (hqueue : s.cp.ports[cpPort p].queue = []) :
    s.spiRead p op = s.spiAnswer p op (leBytes 2 0) := by
  unfold State.spiRead
  rw [hon, hqueue]
  rfl

/-- `s` whose oldest queued frame of a port has left it. -/
def State.fetched (s : State) (p : Fin 3) (f : OutFrame) (rest : List OutFrame) : State :=
  s.modPort p fun q => { q with queue := rest, sent := q.sent ++ [f.bytes] }

theorem spiRead_oldest {p : Fin 2} {op : Nat} {f : OutFrame} {rest : List OutFrame} (hon : s.spiOn p = true) (hqueue : s.cp.ports[cpPort p].queue = f :: rest) :
    s.spiRead p op = ((s.fetched (cpPort p) f rest).frameCp (cpPort p) true s.tb f.bytes).spiAnswer p op (leBytes 2 f.bytes.length ++ f.bytes) := by
  unfold State.spiRead
  rw [hon, hqueue]
  rfl

theorem exec_spiRead {c : Instr} {p : Fin 2} {op : Nat} (hrun : s.running = true) (hform : s.portForm (cpPort p) = 2)
    (hc : (c = .spiReadFrame dt p ∧ op = 0x0B) ∨ (c = .spiQuadReadFrame dt p ∧ op = 0x6B)) :
    (s.cp.ports[cpPort p].queue = [] → ∃ t, exec c s = .next t ∧ t.but s = { s.advance dt with
      cp := { s.cp with answers := s.cp.answers ++ [⟨⟨portCls (cpPort p), none⟩, 256 + op, { status := St.ack, data := leBytes 2 0 }⟩] } }) ∧
    (∀ (f : OutFrame) (rest : List OutFrame), s.cp.ports[cpPort p].queue = f :: rest → ∃ t, exec c s = .next t ∧ t.but s = { s.advance dt with
      recs := t.recs
      cp := { s.cp with
        ports := vset s.cp.ports (cpPort p) (fun q => { q with queue := rest, sent := q.sent ++ [f.bytes] })
        answers := s.cp.answers ++ [⟨⟨portCls (cpPort p), none⟩, 256 + op, { status := St.ack, data := leBytes 2 f.bytes.length ++ f.bytes }⟩] } }) := by
  have hexec : exec c s = done ((s.advance dt).spiRead p op) := by
    rcases hc with ⟨rfl, rfl⟩ | ⟨rfl, rfl⟩
    · rfl
    · rfl
  have hon := spiOn_form (s := s.advance dt) hrun hform
  refine ⟨fun hqueue => ⟨_, exec_next_of hexec (spiRead_none hon hqueue), rfl⟩, fun f rest hqueue => ⟨_, exec_next_of hexec (spiRead_oldest hon hqueue), ?_⟩⟩
  have F := Frame.frameCp ((s.advance dt).fetched (cpPort p) f rest) (cpPort p) true (s.advance dt).tb f.bytes
  generalize ((s.advance dt).fetched (cpPort p) f rest).frameCp (cpPort p) true (s.advance dt).tb f.bytes = u at F ⊢
  rw [F.eq_merge]
  rfl

/-! ## The maintenance gap -/

theorem exec_mntGap_short {age gap : Nat} {b : List Byte} (hshort : gap ≤ bitEdge s.mntBaud 100) :
    ∃ t, exec (.mntFrameGap dt age b gap) s = .next t ∧ t.but s = s.advance dt :=
  ⟨_, exec_next_of rfl (if_pos (.inr (by exact hshort))), rfl⟩

/-- The one reply to a frame that is none. -/
def State.malformedReply (s : State) (b : List Byte) : List Byte :=
  jcpFrame 2 (leAt b 2 2) (leAt b 4 2) (s.fab.addr.getD 0x40) 1 (leBytes 1 St.malformed ++ leBytes 1 0 ++ leBytes 2 0 ++ leBytes 2 0 ++ leBytes 2 0)

theorem violation_ports {c : Ctx} {addr : Option Nat} {st detail : Nat} (ho : c.o = ⟨portCls p, none⟩) :
    (s.violation c addr st detail).cp.ports = vset s.cp.ports p (fun q => { q with
      viol := satInc 16 q.viol, malf := if st = St.malformed then satInc 16 q.malf else q.malf }) := by
  unfold State.violation
  extract_lets counts w
  refine (congrArg CpSt.ports ((Frame.emit ..).keep .cp (by decide))).trans ?_
  show (if c.o.dev.isNone then vset s.cp.ports (clsPort c.o.cls) _ else s.cp.ports) = _
  rw [ho, if_pos (by rfl), show clsPort (portCls p) = p from clsPort_portCls p]

/-- A violation at a port counts there, and leaves what the port has sent. -/
theorem settleReply_port {c : Ctx} {addr : Option Nat} {r : Reply} (ho : c.o = ⟨portCls p, none⟩) :
    ∃ viol malf, (s.settleReply c addr r).cp.ports[p] = { s.cp.ports[p] with viol := viol, malf := malf } := by
  by_cases hviol : isViolation r.status = true
  · have hcounts : s.settleReply c addr r = s.violation c addr r.status r.detail := if_pos hviol
    rw [hcounts, violation_ports ho]
    exact ⟨_, _, vset_self ..⟩
  · have hsame : s.settleReply c addr r = s := if_neg hviol
    rw [hsame]
    exact ⟨_, _, rfl⟩

theorem frameMalformed_put {age : Nat} {b : List Byte} (hopen : s.portOpen p = true) :
    (s.frameMalformed p age b).cp.ports[p].seqRef = s.cp.ports[p].seqRef ∧
      (s.portForm p ≠ 2 → (s.frameMalformed p age b).cp.ports[p].sent = s.cp.ports[p].sent ++ [s.malformedReply b]) := by
  obtain ⟨viol, malf, hport⟩ := settleReply_port (s := s) (p := p) (c := s.portCtx p age b) (addr := none) (r := { status := St.malformed }) rfl
  have F := Frame.settleReply s (s.portCtx p age b) none { status := St.malformed }
  unfold State.frameMalformed
  dsimp only
  generalize s.settleReply (s.portCtx p age b) none { status := St.malformed } = u at F hport ⊢
  have hform : u.portForm p = s.portForm p := portForm_congr (F.keep .regs (by decide))
  have hreply : u.replyFrame (s.portCtx p age b).tag (s.portCtx p age b).seq [(0, { status := St.malformed })] = s.malformedReply b := by
    unfold State.replyFrame State.ownDest
    rw [show u.fab = s.fab from F.keep .fab (by decide)]
    rfl
  have hopen' : u.portOpen p = true := by
    unfold State.portOpen at hopen ⊢
    rw [hform, hport]
    exact hopen
  rw [hreply]
  have hput := portSend_putOut (b := s.malformedReply b) hopen'
  refine ⟨?_, fun h => ?_⟩
  · rw [hput.seqRef, hport]
  · rw [hput.sent (by rw [hform]; exact h), hport]

theorem exec_mntGap_long {age gap : Nat} {b : List Byte} (hrun : s.running = true) (hlong : bitEdge s.mntBaud 100 < gap) (hnone : preambleAt 0 b = none) :
    ∃ t, exec (.mntFrameGap dt age b gap) s = .next t ∧ t.but s = { s.advance dt with cp := t.cp, recs := t.recs } ∧
      t.cp.ports[(2 : Fin 3)].sent = s.cp.ports[(2 : Fin 3)].sent ++ [s.malformedReply b] ∧ t.cp.ports[(2 : Fin 3)].seqRef = s.cp.ports[(2 : Fin 3)].seqRef := by
  let v := (s.advance dt).noted 2 ((s.advance dt).tb - age) b
  have hnoted : Noted (s.advance dt) v 2 := noted_noted ..
  obtain ⟨rx, hport⟩ := hnoted.port
  have hgap : (s.advance dt).mntGap age gap b = v.frameMalformed 2 age b := by
    have hmode : (s.mode.mode != .freeze) = true := by
      simp only [State.running, Bool.and_eq_true] at hrun
      exact hrun.2
    unfold State.mntGap
    rw [show (s.advance dt).pwr.phase = .running from run_phase hrun]
    dsimp only
    rw [show (s.advance dt).mode.mode = s.mode.mode from rfl, hmode,
      if_neg (fun h => h.elim (fun h => by cases h) fun h => absurd hlong (Nat.not_lt.2 h))]
    exact mntHunt_none hnone
  obtain ⟨href, hsent⟩ := frameMalformed_put (s := v) (p := 2) (age := age) (b := b) (hnoted.portOpen.trans rfl)
  have hreply : v.malformedReply b = s.malformedReply b := by
    unfold State.malformedReply
    rw [show v.fab = s.fab from hnoted.frame.keep .fab (by decide)]
  have F : Frame [.recs, .cp] (s.advance dt) (v.frameMalformed 2 age b) := Frame.next (Frame.frameMalformed ..) (by decide) hnoted.frame
  refine ⟨_, exec_next_of rfl hgap, but_settle_of_frame F, ?_, ?_⟩
  · exact (hsent (by decide : (3 : Nat) ≠ 2)).trans (by rw [hport, hreply]; rfl)
  · exact href.trans (by rw [hport]; rfl)

/-! ## Forwarded requests -/

theorem forwardTake_found {tag : Nat} {f : Forward} (hfind : s.cp.forwards.find? (fun f => f.port == p && f.tag == tag) = some f) :
    s.forwardTake p tag = some (f, s.onCp fun x => { x with forwards := x.forwards.erase f }) := by
  unfold State.forwardTake
  rw [hfind]
  rfl

/-- A reply of another device goes out at the port where its request entered. -/
theorem forward_replied {f : Forward} {seq : Nat} {b : List Byte} (hopen : s.portOpen p = true) (hform : s.portForm p ≠ 2) :
    let t := (s.onCp fun x => { x with forwards := x.forwards.erase f }).portReply p seq b
    Frame [.recs, .cp] s t ∧ t.cp.forwards = s.cp.forwards.erase f ∧ t.cp.ports[p].sent = s.cp.ports[p].sent ++ [b] ∧
      t.cp.ports[p].inFlight = s.cp.ports[p].inFlight - 1 := by
  intro t
  have hreplied : Replied (s.onCp fun x => { x with forwards := x.forwards.erase f }) t p seq b := portReply_replied hopen
  refine ⟨Frame.next hreplied.frame (by decide) (Frame.next (Frame.onCp ..) (by decide) (Frame.refl ..)), ?_, hreplied.sent hform, hreplied.inFlight⟩
  rw [hreplied.rest]
  rfl

theorem exec_forwardReply {tag : BitVec 16} {f : Forward} {b : List Byte} (hrun : s.running = true)
    (hfind : s.cp.forwards.find? (fun f => f.port == p && f.tag == tag.toNat) = some f) (hopen : s.portOpen p = true) (hform : s.portForm p ≠ 2) :
    ∃ t, exec (.jcpForwardReply dt p tag b) s = .next t ∧ t.but s = { s.advance dt with cp := t.cp, recs := t.recs, freeIx := t.freeIx } ∧
      t.cp.forwards = s.cp.forwards.erase f ∧ t.cp.ports[p].sent = s.cp.ports[p].sent ++ [b] ∧ t.cp.ports[p].inFlight = s.cp.ports[p].inFlight - 1 := by
  let u := (s.advance dt).frameRow none none false ((s.advance dt).fab.addr.getD 0) (f.dest % 64 + 64 * clsCode (portCls p)) 0x10 b.length
  have Fu : Frame [.recs, .freeIx] (s.advance dt) u := Frame.frameRow ..
  have hcp : u.cp = s.cp := Fu.keep .cp (by decide)
  have hrunu : u.running = true := by
    unfold State.running
    rw [show u.pwr = s.pwr from Fu.keep .pwr (by decide), show u.mode = s.mode from Fu.keep .mode (by decide)]
    exact hrun
  have hregs : u.regs = s.regs := Fu.keep .regs (by decide)
  have hfindu : u.cp.forwards.find? (fun f => f.port == p && f.tag == tag.toNat) = some f := by
    rw [hcp]
    exact hfind
  have hreply : u.forwardReply p tag.toNat b = (u.onCp fun x => { x with forwards := x.forwards.erase f }).portReply p f.seq b := by
    unfold State.forwardReply
    rw [hrunu, if_neg (by decide), forwardTake_found hfindu]
  have hexec : exec (.jcpForwardReply dt p tag b) s = done (u.forwardReply p tag.toNat b) := by
    show execJcpForwardReply dt p tag b s = _
    unfold execJcpForwardReply
    dsimp only
    rw [forwardTake_found (s := s.advance dt) hfind]
    dsimp only
    rw [if_pos (by exact hrun)]
  have hopenu : u.portOpen p = true := by
    unfold State.portOpen State.portForm at hopen ⊢
    rw [hregs, hcp]
    exact hopen
  obtain ⟨F, h1, h2, h3⟩ := forward_replied (s := u) (f := f) (seq := f.seq) (b := b) hopenu (by rw [portForm_congr hregs]; exact hform)
  refine ⟨_, exec_next_of hexec hreply, ?_, h1.trans (by rw [hcp]), h2.trans (by rw [hcp]), h3.trans (by rw [hcp])⟩
  exact (but_of_frame (K := [.recs, .cp, .freeIx]) (Frame.next F (by decide) (Frame.next Fu (by decide) (Frame.refl ..)))).trans rfl

theorem exec_forwardTimeout {tag : BitVec 16} {f : Forward} (hrun : s.running = true)
    (hfind : s.cp.forwards.find? (fun f => f.port == p && f.tag == tag.toNat) = some f) (hopen : s.portOpen p = true) (hform : s.portForm p ≠ 2)
    (hlate : f.sentAt + 20000000 ≤ (s.advance dt).now) :
    ∃ t, exec (.jcpForwardTimeout dt p tag) s = .next t ∧ t.but s = { s.advance dt with cp := t.cp, recs := t.recs } ∧
      t.cp.forwards = s.cp.forwards.erase f ∧ t.cp.ports[p].inFlight = s.cp.ports[p].inFlight - 1 ∧
      t.cp.ports[p].sent = s.cp.ports[p].sent ++ [s.replyFrame f.tag f.seq (refusal f.frame St.timeout)] := by
  have hout : (s.advance dt).forwardTimeout p tag.toNat = ((s.advance dt).onCp fun x => { x with forwards := x.forwards.erase f }).portReply p f.seq
      (s.replyFrame f.tag f.seq (refusal f.frame St.timeout)) := by
    unfold State.forwardTimeout
    rw [show (s.advance dt).running = true from hrun, if_neg (by decide), forwardTake_found (s := s.advance dt) hfind]
    exact if_pos hlate
  obtain ⟨F, h1, h2, h3⟩ := forward_replied (s := s.advance dt) (f := f) (seq := f.seq) (b := s.replyFrame f.tag f.seq (refusal f.frame St.timeout)) hopen hform
  exact ⟨_, exec_next_of rfl hout, but_settle_of_frame F, h1, h3, h2⟩

/-! ## The run of a port -/

/-- A port whose exchange comes up, or goes down. -/
def State.portTurned (s : State) (q : Fin 3) (up : Bool) : State :=
  if up then s.modPort q (fun x => { x with up := true, seqRef := none, cached := none })
  else (s.modPort q (fun x => { x with up := false, queue := [], inFlight := 0 })).onCp (fun x => { x with
    forwards := x.forwards.filter (fun f => f.port != q)
    suspended := x.suspended.map (fun f => if f.via = .port q then { f with wanted := false } else f) })

theorem exec_port {p : Fin 2} {up : Bool} (hrun : s.running = true) (hform : s.portForm (cpPort p) = 1) (hold : s.cp.ports[cpPort p].up = !up) :
    ∃ t, exec (.port dt p up) s = .next t ∧
      t.but s = { s.advance dt with cp := t.cp, recs := t.recs } ∧ Wrote s t [evtOf (s.tbAt dt) (Unit.port (cpPort p).val) 0x0F04 (b2n up) 0] ∧
      t.cp.ports[cpPort p].up = up ∧ (up = true → t.cp.ports[cpPort p].seqRef = none) ∧
      (up = false → t.cp.ports[cpPort p].queue = [] ∧ t.cp.ports[cpPort p].inFlight = 0) := by
  let v := (s.advance dt).portTurned (cpPort p) up
  have hgate : ¬(!((s.advance dt).running && (s.advance dt).portForm (cpPort p) == 1 && (s.advance dt).cp.ports[cpPort p].up != up)) = true := by
    rw [show (s.advance dt).running = true from hrun, show (s.advance dt).portForm (cpPort p) = 1 from hform,
      show (s.advance dt).cp.ports[cpPort p].up = !up from hold]
    cases up <;> decide
  have hrun' : (s.advance dt).portRun p up = v.event (s.advance dt).tb (Unit.port (cpPort p).val) 0x0F04 (b2n up) 0 := by
    have hstamp : v.tb = (s.advance dt).tb := by
      unfold v State.portTurned
      split <;> rfl
    unfold State.portRun
    dsimp only
    rw [if_neg hgate]
    show v.event v.tb _ _ _ _ = _
    rw [hstamp]
  have F : Frame [.cp] (s.advance dt) v := by
    unfold v State.portTurned
    exact Frame.ite (Frame.modPort ..) (Frame.next (Frame.onCp ..) (by decide) (Frame.modPort ..))
  have G : Frame [.recs] v (v.event (s.advance dt).tb (Unit.port (cpPort p).val) 0x0F04 (b2n up) 0) := Frame.event ..
  have hcp := G.keep .cp (by decide)
  have hwrote : Wrote s (v.event (s.advance dt).tb (Unit.port (cpPort p).val) 0x0F04 (b2n up) 0) [_] :=
    Wrote.event_one (run_phase hrun) (F.keep .recs (by decide)) (F.keep .pwr (by decide)) (F.keep .regs (by decide))
  generalize v.event (s.advance dt).tb (Unit.port (cpPort p).val) 0x0F04 (b2n up) 0 = t at hrun' G hcp hwrote
  refine ⟨_, exec_next_of (congrArg done hrun') rfl, but_settle_of_frame (Frame.next G (by decide) (Frame.next F (by decide) (Frame.refl ..))), hwrote.settle, ?_⟩
  show t.cp.ports[cpPort p].up = up ∧ (up = true → t.cp.ports[cpPort p].seqRef = none) ∧
    (up = false → t.cp.ports[cpPort p].queue = [] ∧ t.cp.ports[cpPort p].inFlight = 0)
  rw [hcp]
  cases up
  · have hport : v.cp.ports[cpPort p] = { s.cp.ports[cpPort p] with up := false, queue := [], inFlight := 0 } := vset_self ..
    rw [hport]
    exact ⟨rfl, (fun h => by cases h), fun _ => ⟨rfl, rfl⟩⟩
  · have hport : v.cp.ports[cpPort p] = { s.cp.ports[cpPort p] with up := true, seqRef := none, cached := none } := vset_self ..
    rw [hport]
    exact ⟨rfl, fun _ => rfl, (fun h => by cases h)⟩

end

/-- Settles O45: a frame of two NOPs and its repeat, the SPI instructions, the maintenance gap, forwarded requests and the run of a port. -/
theorem framesAtPorts : Obligations.FramesAtPorts := by
  unfold Obligations.FramesAtPorts
  intro s dt hrun
  refine ⟨fun p age maint b hserves hopen hok hhere hentries hroom hsus hwait => ⟨fun hdue => ?_, fun kept href hkept hform => ?_⟩,
    fun p age b hform => ⟨exec_spiWrite hrun hform, exec_spiWrite hrun hform⟩,
    fun p hform => ⟨⟨_, exec_spiReadStatus hrun hform, rfl⟩, fun c op hc => exec_spiRead hrun hform hc⟩,
    fun age gap b hshort => exec_mntGap_short hshort, fun age gap b hlong hnone => exec_mntGap_long hrun hlong hnone,
    fun p tag f hfind hopen hform => ⟨fun b => exec_forwardReply hrun hfind hopen hform, fun hlate => exec_forwardTimeout hrun hfind hopen hform hlate⟩,
    fun p up hform hold => exec_port hrun hform hold⟩
  · obtain ⟨t, hin, F, h⟩ := frameIn_nops (s := s.advance dt) (age := age) (maint := maint) hserves hopen hok hhere hentries hroom hsus hwait hdue
    exact ⟨_, exec_next_of (exec_requestFrame hok (by rw [hentries]; simp)) hin, but_settle_of_frame F, h⟩
  · obtain ⟨t, hin, F, h⟩ := frameIn_repeat (s := s.advance dt) (age := age) (maint := maint) hserves hopen hok (by rw [hentries]; simp) hroom href hkept hform
    exact ⟨_, exec_next_of (exec_requestFrame hok (by rw [hentries]; simp)) hin, but_settle_of_frame F, h⟩

end Sys2Proof.Machine
end

section
/-! PROOF. What a CAN controller makes of a frame it receives, before its message acts: the receive counter and the record (R424, R428, R440). -/
set_option Elab.async false

namespace Sys2Proof.Machine

section
variable {s t u : State} {dt : Nat} {n : Fin 2} {l : List Shown}

/-! ## One controller -/

theorem modCan_self (s : State) (n : Fin 2) (f : CanCtl → CanCtl) : (s.modCan n f).can[n] = f s.can[n] := vset_self ..

theorem modCan_other (s : State) (n m : Fin 2) (f : CanCtl → CanCtl) (h : m ≠ n) : (s.modCan n f).can[m] = s.can[m] := vset_ne _ _ _ _ (Ne.symm h)

/-- `t` is `s` but for the controller `n`, the records and the free values. -/
structure CanOnly (s t : State) (n : Fin 2) : Prop where
  frame : Frame [.recs, .can, .freeIx] s t
  other : ∀ m, m ≠ n → t.can[m] = s.can[m]

namespace CanOnly

theorem refl (s : State) (n : Fin 2) : CanOnly s s n := ⟨Frame.refl .., fun _ _ => rfl⟩

theorem next {K : List StPart} (h : CanOnly s t n) (F : Frame K t u) (hK : K ⊆ [.recs, .can, .freeIx] := by decide) (hcan : .can ∉ K := by decide) :
    CanOnly s u n := by
  refine ⟨Frame.next F hK h.frame, fun m hm => ?_⟩
  rw [show u.can = t.can from F.keep .can hcan]
  exact h.other m hm

theorem modCan (h : CanOnly s t n) (f : CanCtl → CanCtl) : CanOnly s (t.modCan n f) n :=
  ⟨Frame.next (Frame.modCan ..) (by decide) h.frame, fun m hm => (modCan_other t n m f hm).trans (h.other m hm)⟩

theorem regs (h : CanOnly s t n) : t.regs = s.regs := h.frame.keep .regs (by decide)
theorem pwr (h : CanOnly s t n) : t.pwr = s.pwr := h.frame.keep .pwr (by decide)
theorem cmd (h : CanOnly s t n) : t.cmd = s.cmd := h.frame.keep .cmd (by decide)
theorem fab (h : CanOnly s t n) : t.fab = s.fab := h.frame.keep .fab (by decide)
theorem clk (h : CanOnly s t n) : t.clk = s.clk := h.frame.keep .clk (by decide)

theorem settle (h : CanOnly (s.advance dt) t n) : OnlyCan s t.settle dt n := ⟨(but_of_frame h.frame).trans rfl, h.other⟩

end CanOnly

/-- `l` has been written since `s`, where the receive counter is at or below its limit or the controller listens. -/
theorem CanWrote.emit {time typ flags : Nat} {p : List Byte} (h : CanWrote s t n l) (hphase : t.pwr.phase = .running) (hregs : t.regs = s.regs) :
    CanWrote s (t.emit time (Unit.can n) typ flags p) n (l ++ [recOf time (Unit.can n) typ p]) :=
  fun hquiet => Wrote.emit s t _ l (h hquiet) hphase hregs _ _ _ _ _ rfl

theorem CanWrote.next {K : List StPart} (h : CanWrote s t n l) (F : Frame K t u) (hK : .recs ∉ K := by decide) : CanWrote s u n l :=
  fun hquiet => Wrote.next F hK (h hquiet)

/-! ## The receive counter -/

theorem bus_of_rec {x : CanCtl} {r : Nat} (h : 128 ≤ x.rec' ↔ 128 ≤ r) : ({ x with rec' := r } : CanCtl).bus = x.bus := by
  simp only [CanCtl.bus, h]

/-- A count of the receive errors alone: the transmit counter stays, and nothing is sent to bus-off. -/
theorem canCount_rec (s : State) (n : Fin 2) (r : Nat) :
    CanOnly s (s.canCount n s.can[n].tec r) n ∧ (s.canCount n s.can[n].tec r).can[n] = { s.can[n] with rec' := r } ∧
      ((128 ≤ s.can[n].rec' ↔ 128 ≤ r) → s.canCount n s.can[n].tec r = s.modCan n fun x => { x with rec' := r }) := by
  have hno : (decide (s.can[n].tec < 256) && decide (256 ≤ s.can[n].tec) && decide (s.can[n].bus ≤ 1)) = false := by
    by_cases h : s.can[n].tec < 256
    · rw [decide_eq_false (Nat.not_le.2 h), Bool.and_false, Bool.false_and]
    · rw [decide_eq_false h, Bool.false_and, Bool.false_and]
  have hmod : (s.modCan n fun x => { x with tec := s.can[n].tec, rec' := r }) = s.modCan n fun x => { x with rec' := r } := by
    unfold State.modCan State.onCan
    congr 1
  unfold State.canCount
  dsimp only
  rw [hno, if_neg Bool.false_ne_true, hmod, modCan_self]
  have hown := CanOnly.modCan (CanOnly.refl s n) fun x => { x with rec' := r }
  refine ⟨?_, ?_, fun h => if_pos (bus_of_rec h)⟩
  · split
    · exact hown
    · exact hown.next (Frame.canEvent ..)
  · split
    · exact modCan_self ..
    · refine (congrArg (fun v => v[n]) ((Frame.canEvent ..).keep .can (by decide))).trans ?_
      exact modCan_self ..

/-- What a good frame leaves of a controller: its receive counter alone moves. -/
structure Heard (s t : State) (n : Fin 2) (l : List Shown) : Prop where
  only : CanOnly s t n
  ctl : ∃ r, t.can[n] = { s.can[n] with rec' := r }
  wrote : CanWrote s t n l

theorem canGood_heard (s : State) (n : Fin 2) : Heard s (s.canGood n) n [] := by
  have hsame : Heard s s n [] := ⟨CanOnly.refl .., ⟨s.can[n].rec', rfl⟩, fun _ => Wrote.none s s rfl⟩
  unfold State.canGood
  split
  · exact hsame
  · next hlisten =>
    dsimp only
    split
    · exact hsame
    · next hzero =>
      split
      · next hlow =>
        obtain ⟨honly, hctl, hquiet⟩ := canCount_rec s n (s.can[n].rec' - 1)
        refine ⟨honly, ⟨_, hctl⟩, fun _ => ?_⟩
        rw [hquiet (by omega)]
        exact Wrote.none s _ rfl
      · next hhigh =>
        obtain ⟨honly, hctl, -⟩ := canCount_rec s.fresh.2 n (119 + (Config.freeWord s.fresh.1).toNat % 9)
        refine ⟨⟨Frame.trans (Frame.next (Frame.fresh s) (by decide) (Frame.refl ..)) honly.frame, honly.other⟩, ⟨_, hctl⟩, fun hquiet => ?_⟩
        rcases hquiet with h | h
        · exact absurd h hlisten
        · exact absurd h hhigh

/-! ## The record of a frame -/

theorem recordIn_heard {f : CanFrame} {k role stamp : Nat} {rec' : Bool} (h : Heard s t n []) (hphase : t.pwr.phase = .running) :
    ∃ d, (f.rtr = false → d = dlcOf f.data.length) ∧
      Heard s (t.recordIn n f (.filtered k role rec') stamp) n (if rec' then [canIn stamp n k d f] else []) := by
  have hput (u : State) (d : Nat) (hu : Heard s u n []) (hup : u.pwr.phase = .running) :
      Heard s (u.canRecord n false stamp f.id.toNat f.ide f.fdf f.brs f.esi f.rtr k d f.data) n [canIn stamp n k d f] := by
    have F := Frame.canRecord u n false stamp f.id.toNat f.ide f.fdf f.brs f.esi f.rtr k d f.data
    obtain ⟨r, hr⟩ := hu.ctl
    refine ⟨hu.only.next F, ⟨r, ?_⟩, CanWrote.emit hu.wrote hup hu.only.regs⟩
    rw [show State.can _ = u.can from F.keep .can (by decide)]
    exact hr
  cases rec' with
  | false => exact ⟨dlcOf f.data.length, fun _ => rfl, h⟩
  | true =>
    by_cases hrtr : f.rtr = true
    · have F := Frame.onFreeIx t (· + 1)
      refine ⟨(Config.freeWord t.freeIx).toNat % 16, fun hn => ?_, ?_⟩
      · rw [hrtr] at hn
        cases hn
      · show Heard s (if f.rtr then _ else _) n _
        rw [if_pos hrtr]
        exact hput _ _ ⟨h.only.next F, h.ctl, h.wrote.next F⟩ hphase
    · refine ⟨dlcOf f.data.length, fun _ => rfl, ?_⟩
      show Heard s (if f.rtr then _ else _) n _
      rw [if_neg hrtr]
      exact hput _ _ h hphase

/-! ## A frame received -/

theorem canOn_ready (h : s.canReady n) : s.canOn n = true := by
  obtain ⟨hrun, hbus, -⟩ := h
  unfold State.canOn
  rw [hrun, decide_eq_true hbus]
  rfl

theorem canReceive_ready {f : CanFrame} {mine : CanRole → Bool} {act : CanRole → Nat → State → State} (h : s.canReady n)
    (hmine : mine (s.canRole n f) = true) : s.canReceive n f mine act = act (s.canRole n f) (s.tb - f.sofAge) (s.canGood n) := by
  have hdetect : (s.running && s.can[n].started && s.can[n].abd.run) = false := by
    rw [h.2.2, Bool.and_false]
  unfold State.canReceive
  rw [hdetect, if_neg Bool.false_ne_true, canOn_ready h, hmine]
  rfl

/-- A frame of a filter, on a ready controller: what it leaves before its message acts. -/
theorem heard_filtered {f : CanFrame} {k role stamp : Nat} {rec' : Bool} (hphase : s.pwr.phase = .running) :
    ∃ d, (f.rtr = false → d = dlcOf f.data.length) ∧
      Heard s ((s.canGood n).recordIn n f (.filtered k role rec') stamp) n (if rec' then [canIn stamp n k d f] else []) := by
  have h := canGood_heard s n
  exact recordIn_heard h ((congrArg Power.phase h.only.pwr).trans hphase)

end

end Sys2Proof.Machine
end

section
/-! PROOF. Setpoint and heave messages (R429, R431 to R437): what a payload says, and what a message that is accepted, repeated or discarded leaves. -/
set_option Elab.async false

namespace Sys2Proof.Machine

/-! ## Bytes of a payload -/

theorem leBytes_one (x : Nat) : leBytes 1 x = [BitVec.ofNat 8 x] := rfl

theorem leBytes_four (x : Nat) : leBytes 4 x =
    [BitVec.ofNat 8 x, BitVec.ofNat 8 (x / 256), BitVec.ofNat 8 (x / 256 / 256), BitVec.ofNat 8 (x / 256 / 256 / 256)] := rfl

theorem beBytes_two (x : Nat) : beBytes 2 x = [BitVec.ofNat 8 (x / 256), BitVec.ofNat 8 x] := rfl

theorem be16At_beBytes (x : Nat) (hx : x < 65536) (pre post : List Byte) : be16At (pre ++ beBytes 2 x ++ post) pre.length = x := by
  have hhi : byteAt (pre ++ beBytes 2 x ++ post) pre.length = x / 256 := by
    unfold byteAt
    rw [List.append_assoc, List.drop_left, beBytes_two]
    show (BitVec.ofNat 8 (x / 256)).toNat = _
    rw [BitVec.toNat_ofNat]
    omega
  have hlo : byteAt (pre ++ beBytes 2 x ++ post) (pre.length + 1) = x % 256 := by
    unfold byteAt
    rw [List.append_assoc, ← List.drop_drop, List.drop_left, beBytes_two]
    exact BitVec.toNat_ofNat x 8
  unfold be16At
  rw [hhi, hlo]
  omega

theorem leNat_four (x : Nat) (hx : x < 4294967296) : leNat (leBytes 4 x) = x := by
  simp only [leBytes_four, leNat, BitVec.toNat_ofNat]
  omega

theorem leAt_append {pre b post : List Byte} {o k : Nat} (ho : pre.length = o) (hk : b.length = k) : leAt (pre ++ b ++ post) o k = leNat b := by
  subst ho hk
  unfold leAt
  rw [List.append_assoc, List.drop_left, List.take_left]

theorem w32_leBytes (w : Word) : w32 (leNat (leBytes 4 w.toNat)) = w := by
  rw [leNat_four _ w.isLt]
  exact BitVec.ofNat_toNat _ _

theorem msg12_field {raw : Int} {fs : Rat} (hlo : -2047 ≤ raw) (hhi : raw ≤ 2047) : msg12 (raw % 4096).toNat fs = some ((raw : Rat) * fs / 2047) := by
  unfold msg12
  rw [if_neg (by omega)]
  by_cases hneg : raw < 0
  · rw [if_neg (by omega)]
    congr 4
    omega
  · rw [if_pos (by omega)]
    congr 4
    omega

/-- A 4-bit number above a 12-bit field. -/
theorem field_split (k : Nat) (q : Int) : (k * 4096 + (q % 4096).toNat) / 4096 = k ∧ (k * 4096 + (q % 4096).toNat) % 4096 = (q % 4096).toNat := by
  omega

section
variable {s t u w : State} {dt : Nat} {n : Fin 2} {l first : List Shown} {f : CanFrame} {ax : Fin 6} {m cnt size : Nat} {run heave : Bool} {v a : Rat}

/-! ## What a payload says -/

theorem b2n_false : b2n false = 0 := rfl

theorem b2n_true : b2n true = 1 := rfl

theorem b2n_lt (b : Bool) : b2n b ≤ 1 := by
  cases b <;> decide

/-- The flag byte of a native setpoint: mode, RUN and HEAVE. -/
theorem nativeFlags (m : Nat) (run heave : Bool) (hm : m < 8) :
    let x := (BitVec.ofNat 8 (m + 8 * b2n run + 16 * b2n heave)).toNat
    x / 32 = 0 ∧ x % 8 = m ∧ x.testBit 3 = run ∧ x.testBit 4 = heave := by
  have hall : ∀ m : Fin 8, ∀ run heave : Bool, let x := (BitVec.ofNat 8 (m.val + 8 * b2n run + 16 * b2n heave)).toNat
      x / 32 = 0 ∧ x % 8 = m.val ∧ x.testBit 3 = run ∧ x.testBit 4 = heave := by decide
  exact hall ⟨m, hm⟩ run heave

/-- The second word of a heritage setpoint: RUN, the mode, HEAVE and the counter. -/
theorem heritageFlags (m cnt : Nat) (run heave : Bool) (hm : m < 8) (hcnt : cnt < 256) :
    let x := 32768 * b2n run + 4096 * m + 2048 * b2n heave + cnt
    x < 65536 ∧ x / 256 % 8 = 0 ∧ x / 4096 % 8 = m ∧ x.testBit 15 = run ∧ x.testBit 11 = heave ∧ x % 256 = cnt := by
  have hrun := b2n_lt run
  have hheave := b2n_lt heave
  refine ⟨by omega, ?_, by omega, ?_, ?_, by omega⟩
  · cases heave <;> simp only [b2n_false, b2n_true] <;> omega
  · rw [Nat.testBit_eq_decide_div_mod_eq]
    cases run
    · rw [b2n_false]
      exact decide_eq_false (by omega)
    · rw [b2n_true]
      exact decide_eq_true (by omega)
  · rw [Nat.testBit_eq_decide_div_mod_eq]
    cases heave
    · rw [b2n_false]
      exact decide_eq_false (by omega)
    · rw [b2n_true]
      exact decide_eq_true (by omega)

theorem byte_toNat {x : Nat} (hx : x < 256) : (BitVec.ofNat 8 x).toNat = x := by
  rw [BitVec.toNat_ofNat]
  exact Nat.mod_eq_of_lt hx

theorem parseSet_says (h : s.saysSet n f ax m run heave cnt v) :
    s.parseSet n f = some { axis := ax, mode := m, run := run, heave := heave, count := cnt, size := 256, v := some v } ∧
      pairOk (s.regs.CANn_CFG_PROFILE n) f.data = true := by
  obtain ⟨hm, hcnt, hrtr, hlayout⟩ := h
  have hax := ax.isLt
  rcases hlayout with ⟨hprof, hfdf, x, y, hx, rfl, hdata⟩ | ⟨hprof, hfdf, raw, hlo, hhi, rfl, hdata⟩
  · obtain ⟨hhigh, hmode, hrun, hheave⟩ := nativeFlags m run heave hm
    have hlen : f.data.length = 16 := by rw [hdata]; rfl
    have h0 : byteAt f.data 0 = ax := by rw [hdata]; exact byte_toNat (by omega)
    have h1 : byteAt f.data 1 = (BitVec.ofNat 8 (m + 8 * b2n run + 16 * b2n heave)).toNat := by rw [hdata]; rfl
    have h2 : byteAt f.data 2 = cnt := by rw [hdata]; exact byte_toNat hcnt
    have h3 : byteAt f.data 3 = 0 := by rw [hdata]; rfl
    have h4 : msgF32 f.data 4 = some (f32ToRat y) := by
      have hword : leAt f.data 4 4 = leNat (leBytes 4 x.toNat) := by
        rw [hdata]
        exact leAt_append rfl rfl
      unfold msgF32
      rw [hword, w32_leBytes, hx]
      rfl
    refine ⟨?_, ?_⟩
    · simp only [State.parseSet, hprof, hfdf, hrtr, hlen, h0, h1, h2, h3, h4, hhigh, hmode, hrun, hheave, Bool.false_eq_true, if_false, Bool.not_true,
        Bool.false_or, bne_self_eq_false]
    · simp only [pairOk, hprof, Bool.false_eq_true, if_false, hlen]
      rw [hdata]
      exact beq_self_eq_true _
  · obtain ⟨hlt, hzero, hmode, hrun, hheave, hcount⟩ := heritageFlags m cnt run heave hm hcnt
    have hlen : f.data.length = 8 := by rw [hdata]; rfl
    have hw0 : be16At f.data 0 = ax * 4096 + (raw % 4096).toNat := by
      rw [hdata, List.append_assoc]
      exact be16At_beBytes _ (by omega) [] _
    have hw1 : be16At f.data 2 = 32768 * b2n run + 4096 * m + 2048 * b2n heave + cnt := by
      rw [hdata]
      exact be16At_beBytes _ hlt (beBytes 2 _) _
    obtain ⟨haxis, hfield⟩ := field_split ax raw
    refine ⟨?_, ?_⟩
    · simp only [State.parseSet, hprof, hfdf, hrtr, hlen, hw0, hw1, hzero, hmode, hrun, hheave, hcount, haxis, hfield, msg12_field hlo hhi,
        if_true, Bool.false_or, bne_self_eq_false, Bool.false_eq_true, if_false]
    · simp only [pairOk, hprof, if_true]
      rw [hdata]
      exact beq_self_eq_true _

theorem parseHeave_says (h : s.saysHeave n f ax cnt size v a) :
    s.parseHeave n f = some { axis := ax, count := cnt, size := size, v := some v, a := some a } ∧ pairOk (s.regs.CANn_CFG_PROFILE n) f.data = true := by
  obtain ⟨hcnt, hrtr, hlayout⟩ := h
  have hax := ax.isLt
  rcases hlayout with ⟨hprof, rfl, hfdf, x, y, z, q, hx, rfl, hz, rfl, hdata⟩ | ⟨hprof, rfl, hfdf, p, q, hp, hp', hq, hq', rfl, rfl, hdata⟩
  · have hlen : f.data.length = 24 := by rw [hdata]; rfl
    have h0 : byteAt f.data 0 = ax := by rw [hdata]; exact byte_toNat (by omega)
    have h1 : byteAt f.data 1 = 0 := by rw [hdata]; rfl
    have h2 : byteAt f.data 2 = cnt := by rw [hdata]; exact byte_toNat hcnt
    have h3 : byteAt f.data 3 = 0 := by rw [hdata]; rfl
    have h4 : msgF32 f.data 4 = some (f32ToRat y) := by
      have hword : leAt f.data 4 4 = leNat (leBytes 4 x.toNat) := by
        rw [hdata, List.append_assoc]
        exact leAt_append rfl rfl
      unfold msgF32
      rw [hword, w32_leBytes, hx]
      rfl
    have h8 : msgF32 f.data 8 = some (f32ToRat q) := by
      have hword : leAt f.data 8 4 = leNat (leBytes 4 z.toNat) := by
        rw [hdata]
        exact leAt_append rfl rfl
      unfold msgF32
      rw [hword, w32_leBytes, hz]
      rfl
    refine ⟨?_, ?_⟩
    · simp only [State.parseHeave, hprof, hfdf, hrtr, hlen, h0, h1, h2, h3, h4, h8, Bool.false_eq_true, if_false, Bool.not_true, Bool.false_or,
        bne_self_eq_false]
    · simp only [pairOk, hprof, Bool.false_eq_true, if_false, hlen]
      rw [hdata]
      exact beq_self_eq_true _
  · have hlen : f.data.length = 8 := by rw [hdata]; rfl
    have hw0 : be16At f.data 0 = ax * 4096 + (p % 4096).toNat := by
      rw [hdata, List.append_assoc]
      exact be16At_beBytes _ (by omega) [] _
    have hw1 : be16At f.data 2 = cnt * 4096 + (q % 4096).toNat := by
      rw [hdata]
      exact be16At_beBytes _ (by omega) (beBytes 2 _) _
    obtain ⟨haxis, hfield⟩ := field_split ax p
    obtain ⟨hcount, hfield'⟩ := field_split cnt q
    refine ⟨?_, ?_⟩
    · simp only [State.parseHeave, hprof, hfdf, hrtr, hlen, hw0, hw1, haxis, hfield, hcount, hfield', msg12_field hp hp', msg12_field hq hq',
        if_true, Bool.false_or, bne_self_eq_false, Bool.false_eq_true, if_false]
    · simp only [pairOk, hprof, if_true]
      rw [hdata]
      exact beq_self_eq_true _

/-! ## What a message does -/

/-- A message of either kind, read. -/
def State.parseMsg (s : State) (n : Fin 2) (heave : Bool) (f : CanFrame) : Option CanMsg := if heave then s.parseHeave n f else s.parseSet n f

theorem parseMsg_congr (h : t.regs = s.regs) (heave : Bool) : t.parseMsg n heave f = s.parseMsg n heave f := by
  unfold State.parseMsg State.parseHeave State.parseSet State.msgScale
  rw [h]

/-- What a message of the axis `ax` does once its buffer has taken it. -/
def State.messageTaken (b : State) (n : Fin 2) (heave : Bool) (f : CanFrame) (stamp : Nat) (ax : Fin 6) (m : CanMsg) : State :=
  if !(decide (m.mode ≤ 3) && m.v.isSome && m.a.isSome && (heave || b.setOk ax m.mode (m.v.getD 0))) then
    (b.canViolation n f stamp St.range).setCount n heave ax none
  else
    match b.lastCount n heave ax with
    | none => (b.setCount n heave ax (some m.count)).msgAct n heave ax m stamp
    | some q =>
      if (m.count + m.size - q) % m.size = 0 then b
      else if (m.count + m.size - q) % m.size ≤ 3 then (b.setCount n heave ax (some m.count)).msgAct n heave ax m stamp
      else (b.canViolation n f stamp St.sequence).setCount n heave ax none

section
variable {stamp : Nat} {x : CanMsg}

theorem message_quarantined (h : t.can[n].quar ≠ none) : t.message n heave f stamp = t :=
  if_pos (Option.isSome_iff_ne_none.2 h)

theorem message_free (h : t.can[n].quar = none) :
    t.message n heave f stamp = match t.parseMsg n heave f with
      | none => t.canViolation n f stamp St.malformed
      | some m =>
        if !pairOk (t.regs.CANn_CFG_PROFILE n) f.data then t.canViolation n f stamp St.pair
        else if h : m.axis < 6 then
          if t.regs.AXn_CMD_CFG_CAN (⟨m.axis, h⟩ : Fin 6) ≠ n.val + 1 then t.modCan n (fun x => { x with unbound := satInc 16 x.unbound })
          else (t.msgBuffer n heave ⟨m.axis, h⟩).messageTaken n heave f stamp ⟨m.axis, h⟩ m
        else t.modCan n (fun x => { x with unbound := satInc 16 x.unbound }) := by
  refine (if_neg (by rw [h]; decide)).trans ?_
  show (match t.parseMsg n heave f with | none => _ | some m => _) = _
  cases t.parseMsg n heave f <;> rfl

theorem message_malformed (h : t.can[n].quar = none) (hparse : t.parseMsg n heave f = none) :
    t.message n heave f stamp = t.canViolation n f stamp St.malformed := by
  rw [message_free h, hparse]

theorem message_pair (h : t.can[n].quar = none) (hparse : t.parseMsg n heave f = some x) (hpair : pairOk (t.regs.CANn_CFG_PROFILE n) f.data = false) :
    t.message n heave f stamp = t.canViolation n f stamp St.pair := by
  rw [message_free h, hparse]
  dsimp only
  rw [hpair]
  rfl

theorem message_axis (h : t.can[n].quar = none) (hparse : t.parseMsg n heave f = some x) (hpair : pairOk (t.regs.CANn_CFG_PROFILE n) f.data = true)
    (hax : x.axis = ax.val) :
    t.message n heave f stamp = if t.regs.AXn_CMD_CFG_CAN ax ≠ n.val + 1 then t.modCan n (fun x => { x with unbound := satInc 16 x.unbound })
      else (t.msgBuffer n heave ax).messageTaken n heave f stamp ax x := by
  have hlt : x.axis < 6 := by
    rw [hax]
    exact ax.isLt
  obtain rfl : (⟨x.axis, hlt⟩ : Fin 6) = ax := Fin.ext hax
  rw [message_free h, hparse]
  dsimp only
  rw [hpair, if_neg (by decide), dif_pos hlt]

theorem messageTaken_bad (h : (decide (x.mode ≤ 3) && x.v.isSome && x.a.isSome && (heave || t.setOk ax x.mode (x.v.getD 0))) = false) :
    t.messageTaken n heave f stamp ax x = (t.canViolation n f stamp St.range).setCount n heave ax none :=
  if_pos (by rw [h]; rfl)

theorem messageTaken_good (h : (decide (x.mode ≤ 3) && x.v.isSome && x.a.isSome && (heave || t.setOk ax x.mode (x.v.getD 0))) = true)
    (hnew : t.lastCount n heave ax = none ∨ ∃ q, t.lastCount n heave ax = some q ∧ 1 ≤ (x.count + x.size - q) % x.size ∧ (x.count + x.size - q) % x.size ≤ 3) :
    t.messageTaken n heave f stamp ax x = (t.setCount n heave ax (some x.count)).msgAct n heave ax x stamp := by
  refine (if_neg (by rw [h]; decide)).trans ?_
  rcases hnew with hnone | ⟨q, hq, hlo, hhi⟩
  · rw [hnone]
  · rw [hq]
    dsimp only
    rw [if_neg (by omega), if_pos hhi]

theorem messageTaken_same {q : Nat} (h : (decide (x.mode ≤ 3) && x.v.isSome && x.a.isSome && (heave || t.setOk ax x.mode (x.v.getD 0))) = true)
    (hq : t.lastCount n heave ax = some q) (hzero : (x.count + x.size - q) % x.size = 0) : t.messageTaken n heave f stamp ax x = t := by
  refine (if_neg (by rw [h]; decide)).trans ?_
  rw [hq]
  exact if_pos hzero

theorem messageTaken_far {q : Nat} (h : (decide (x.mode ≤ 3) && x.v.isSome && x.a.isSome && (heave || t.setOk ax x.mode (x.v.getD 0))) = true)
    (hq : t.lastCount n heave ax = some q) (hfar : 3 < (x.count + x.size - q) % x.size) :
    t.messageTaken n heave f stamp ax x = (t.canViolation n f stamp St.sequence).setCount n heave ax none := by
  refine (if_neg (by rw [h]; decide)).trans ?_
  rw [hq]
  dsimp only
  rw [if_neg (by omega), if_neg (by omega)]

end

/-! ## The buffer of a message -/

/-- A controller whose buffer of an axis has taken a message. -/
def CanCtl.bufferFull (x : CanCtl) (heave : Bool) (ax : Fin 6) : Bool := if heave then x.hvNew[ax] else x.spNew[ax]

/-- `t` is `s` with a message in its buffer: one that was not read before it counts as an overrun. -/
structure Buffered (s t : State) (n : Fin 2) (heave : Bool) (ax : Fin 6) : Prop where
  only : CanOnly s t n
  ctl : ∃ sp hv, t.can[n] = { s.can[n] with
    overrun := if s.can[n].bufferFull heave ax then satInc 16 s.can[n].overrun else s.can[n].overrun
    spRun := sp, hvRun := hv
    spNew := if heave then s.can[n].spNew else s.can[n].spNew.set ax true
    hvNew := if heave then s.can[n].hvNew.set ax true else s.can[n].hvNew }
  free : s.can[n].bufferFull heave ax = false → t.recs = s.recs

theorem msgBuffer_buffered (s : State) (n : Fin 2) (heave : Bool) (ax : Fin 6) : Buffered s (s.msgBuffer n heave ax) n heave ax := by
  unfold State.msgBuffer
  extract_lets x full r s1 s2
  have hfull : full = s.can[n].bufferFull heave ax := rfl
  clear_value full
  subst hfull
  have h1 : CanOnly s s1 n := CanOnly.modCan (CanOnly.refl s n) _
  have hs1 : s1.can[n] = _ := modCan_self ..
  by_cases hb : s.can[n].bufferFull heave ax = true
  · have F := Frame.overrunRecs s1 n (if heave then 2 else 1) ax r.2
    have hs2 : s2 = s1.overrunRecs n (if heave then 2 else 1) ax r.2 := if_pos hb
    clear_value s2
    subst hs2
    have hcan : (s1.overrunRecs n (if heave then 2 else 1) ax r.2).can[n] = s1.can[n] := by
      rw [show State.can _ = s1.can from F.keep .can (by decide)]
    refine ⟨(h1.next F).modCan _, ⟨if heave then s.can[n].spRun else s.can[n].spRun.set ax r.1,
      if heave then s.can[n].hvRun.set ax r.1 else s.can[n].hvRun, ?_⟩, fun h => ?_⟩
    · rw [modCan_self, hcan, hs1, hb]
      cases heave <;> rfl
    · rw [hb] at h
      cases h
  · have hs2 : s2 = s := if_neg hb
    rw [hs2]
    refine ⟨(CanOnly.refl s n).modCan _, ⟨s.can[n].spRun, s.can[n].hvRun, ?_⟩, fun _ => rfl⟩
    rw [modCan_self, Bool.eq_false_iff.2 hb]
    cases heave <;> rfl

theorem CanOnly.trans (h : CanOnly s t n) (k : CanOnly t u n) : CanOnly s u n :=
  ⟨Frame.trans h.frame k.frame, fun m hm => (k.other m hm).trans (h.other m hm)⟩

/-- `t` is `s` with a message of a heard frame in its buffer. -/
structure InBuffer (s t : State) (n : Fin 2) (heave : Bool) (ax : Fin 6) (l : List Shown) : Prop where
  only : CanOnly s t n
  viols : t.can[n].viols = s.can[n].viols
  spCnt : t.can[n].spCnt = s.can[n].spCnt
  hvCnt : t.can[n].hvCnt = s.can[n].hvCnt
  hvAt : t.can[n].hvAt = s.can[n].hvAt
  spNew : t.can[n].spNew = if heave then s.can[n].spNew else s.can[n].spNew.set ax true
  hvNew : t.can[n].hvNew = if heave then s.can[n].hvNew.set ax true else s.can[n].hvNew
  overrun : t.can[n].overrun = if s.can[n].bufferFull heave ax then satInc 16 s.can[n].overrun else s.can[n].overrun
  wrote : s.can[n].bufferFull heave ax = false → CanWrote s t n l

theorem Heard.inBuffer (h : Heard s w n l) (heave : Bool) (ax : Fin 6) : InBuffer s (w.msgBuffer n heave ax) n heave ax l := by
  have hb := msgBuffer_buffered w n heave ax
  generalize w.msgBuffer n heave ax = b at hb
  obtain ⟨r, hr⟩ := h.ctl
  obtain ⟨sp, hv, hctl⟩ := hb.ctl
  have hfull : w.can[n].bufferFull heave ax = s.can[n].bufferFull heave ax := by
    rw [hr]
    rfl
  rw [hfull, hr] at hctl
  refine ⟨h.only.trans hb.only, ?_, ?_, ?_, ?_, ?_, ?_, ?_, fun hfree hquiet => ?_⟩
  case refine_8 =>
    have hwrote := h.wrote hquiet
    unfold Wrote at hwrote ⊢
    rw [hb.free (hfull.trans hfree)]
    exact hwrote
  all_goals rw [hctl]

theorem lastCount_congr (hcmd : t.cmd = s.cmd) (hregs : t.regs = s.regs) (hclk : t.clk = s.clk) (hsp : t.can[n].spCnt = s.can[n].spCnt)
    (hhv : t.can[n].hvCnt = s.can[n].hvCnt) (hat : t.can[n].hvAt = s.can[n].hvAt) (heave : Bool) : t.lastCount n heave ax = s.lastCount n heave ax := by
  unfold State.lastCount State.canLive State.tb
  simp only [hcmd, hregs, hclk, hsp, hhv, hat]

theorem InBuffer.lastCount (h : InBuffer s t n heave ax l) (heave' : Bool) : t.lastCount n heave' ax = s.lastCount n heave' ax :=
  lastCount_congr h.only.cmd h.only.regs h.only.clk h.spCnt h.hvCnt h.hvAt heave'

/-! ## A message discarded -/

/-- A discarded message is a violation of the controller (R437). -/
theorem canViolation_discarded {stamp st : Nat} (hphase : s.pwr.phase = .running) (honly : CanOnly s t n) (hviols : t.can[n].viols = s.can[n].viols) :
    CanOnly s (t.canViolation n f stamp st) n ∧
      (t.canViolation n f stamp st).can[n] =
        { t.can[n] with viols := s.can[n].viols.filter (fun v => decide (stamp < v + 1000000000)) ++ [stamp] } ∧
      (CanWrote s t n first → CanDiscarded s (t.canViolation n f stamp st) n f stamp st first) := by
  let keep := s.can[n].viols.filter (fun v => decide (stamp < v + 1000000000)) ++ [stamp]
  let b := t.modCan n fun x => { x with viols := keep }
  have hb : b.can[n] = { t.can[n] with viols := keep } := modCan_self ..
  let payload := leBytes 1 st ++ leBytes 1 0 ++ leBytes 2 0 ++ leBytes 2 0 ++ leBytes 1 4 ++
    leBytes 1 (s.fab.addr.getD 0) ++ leBytes 4 (idWord f.id.toNat f.ide) ++ leBytes 2 (s.regs.CANn_CFG_BIND n) ++ leBytes 2 keep.length
  have hviol : t.canViolation n f stamp st = b.emit stamp (Unit.can n) 7 (t.canFlag n) payload := by
    unfold State.canViolation
    dsimp only
    rw [hviols, honly.fab, honly.regs]
  have F := Frame.emit b stamp (Unit.can n) 7 (t.canFlag n) payload
  have honlyb : CanOnly s b n := honly.modCan _
  have hcan : (b.emit stamp (Unit.can n) 7 (t.canFlag n) payload).can = b.can := F.keep .can (by decide)
  rw [hviol]
  refine ⟨honlyb.next F, ?_, fun hwrote => ⟨?_, ?_, ?_⟩⟩
  · rw [hcan]
    exact hb
  · exact (F.keep .cmd (by decide)).trans honlyb.cmd
  · rw [hcan, hb]
  · exact CanWrote.emit (hwrote.next (Frame.modCan t n _)) ((congrArg Power.phase honlyb.pwr).trans hphase) honlyb.regs

theorem CanDiscarded.setCount {stamp st : Nat} {o : Option Nat} (h : CanDiscarded s t n f stamp st first) :
    CanDiscarded s (t.setCount n heave ax o) n f stamp st first := by
  obtain ⟨hcmd, hviols, hwrote⟩ := h
  refine ⟨hcmd, ?_, hwrote.next (Frame.setCount ..)⟩
  have hself : (t.setCount n heave ax o).can[n] = _ := modCan_self ..
  rw [hself, ← hviols]
  cases heave
  · rfl
  · rfl

/-- A message that is discarded once its axis is known: the counter of the axis is open again. -/
theorem discarded_counter {stamp st : Nat} (hphase : s.pwr.phase = .running) (h : InBuffer s t n heave ax first) :
    CanOnly s ((t.canViolation n f stamp st).setCount n heave ax none) n ∧
      ((t.canViolation n f stamp st).setCount n heave ax none).can[n].spCnt = (if heave then s.can[n].spCnt else s.can[n].spCnt.set ax none) ∧
      ((t.canViolation n f stamp st).setCount n heave ax none).can[n].hvCnt = (if heave then s.can[n].hvCnt.set ax none else s.can[n].hvCnt) ∧
      (s.can[n].bufferFull heave ax = false →
        CanDiscarded s ((t.canViolation n f stamp st).setCount n heave ax none) n f stamp st first) := by
  obtain ⟨honly, hctl, hdiscard⟩ := canViolation_discarded (f := f) (stamp := stamp) (st := st) (first := first) hphase h.only h.viols
  generalize t.canViolation n f stamp st = v at honly hctl hdiscard ⊢
  have hself : (v.setCount n heave ax none).can[n] = _ := modCan_self ..
  refine ⟨honly.modCan _, ?_, ?_, fun hfree => (hdiscard (h.wrote hfree)).setCount⟩
  · rw [hself, hctl]
    cases heave
    · exact congrArg (fun v => v.set ax none) h.spCnt
    · exact h.spCnt
  · rw [hself, hctl]
    cases heave
    · exact h.hvCnt
    · exact congrArg (fun v => v.set ax none) h.hvCnt

/-- What stands when a command of the axis has changed beside the controller. -/
theorem CanOnly.but_cmd (h : CanOnly (s.advance dt) t n) (x : CmdSt) : ({ t with cmd := x } : State).settle.but s =
    { s.advance dt with can := t.can, recs := t.recs, freeIx := t.freeIx, cmd := x } := by
  rw [h.frame.eq_merge]
  rfl

/-! ## The two messages -/

theorem exec_canSetpoint {k : Nat} {rec' : Bool} (hready : s.canReady n) (hrole : s.canRole n f = .filtered k 1 rec') :
    ∃ w d, (f.rtr = false → d = dlcOf f.data.length) ∧ Heard (s.advance dt) w n (if rec' then [canIn (s.tbAt dt - f.sofAge) n k d f] else []) ∧
      exec (.canSetpointMessage dt n f) s = done (w.message n false f (s.tbAt dt - f.sofAge)) := by
  obtain ⟨d, hd, hheard⟩ := heard_filtered (s := s.advance dt) (n := n) (f := f) (k := k) (role := 1) (stamp := s.tbAt dt - f.sofAge) (rec' := rec')
    (run_phase hready.1)
  refine ⟨_, d, hd, hheard, congrArg done ?_⟩
  have hrole' : (s.advance dt).canRole n f = .filtered k 1 rec' := hrole
  refine (canReceive_ready (s := s.advance dt) hready (by rw [hrole']; rfl)).trans ?_
  rw [hrole']
  rfl

theorem exec_canHeave {k : Nat} {rec' : Bool} (hready : s.canReady n) (hrole : s.canRole n f = .filtered k 2 rec') :
    ∃ w d, (f.rtr = false → d = dlcOf f.data.length) ∧ Heard (s.advance dt) w n (if rec' then [canIn (s.tbAt dt - f.sofAge) n k d f] else []) ∧
      exec (.canHeaveMessage dt n f) s = done (w.message n true f (s.tbAt dt - f.sofAge)) := by
  obtain ⟨d, hd, hheard⟩ := heard_filtered (s := s.advance dt) (n := n) (f := f) (k := k) (role := 2) (stamp := s.tbAt dt - f.sofAge) (rec' := rec')
    (run_phase hready.1)
  refine ⟨_, d, hd, hheard, congrArg done ?_⟩
  have hrole' : (s.advance dt).canRole n f = .filtered k 2 rec' := hrole
  refine (canReceive_ready (s := s.advance dt) hready (by rw [hrole']; rfl)).trans ?_
  rw [hrole']
  rfl

theorem Heard.quar (h : Heard s t n l) : t.can[n].quar = s.can[n].quar := by
  obtain ⟨r, hr⟩ := h.ctl
  rw [hr]

theorem Heard.viols (h : Heard s t n l) : t.can[n].viols = s.can[n].viols := by
  obtain ⟨r, hr⟩ := h.ctl
  rw [hr]

/-- A message that is discarded before its axis is known. -/
theorem Heard.discarded {st stamp : Nat} (h : Heard s t n l) (hphase : s.pwr.phase = .running) :
    CanOnly s (t.canViolation n f stamp st) n ∧ CanDiscarded s (t.canViolation n f stamp st) n f stamp st l := by
  obtain ⟨honly, -, hdiscard⟩ := canViolation_discarded (f := f) (stamp := stamp) (st := st) (first := l) hphase h.only h.viols
  exact ⟨honly, hdiscard h.wrote⟩

theorem parseSet_none (h : f.rtr = true ∨ f.fdf = s.regs.CANn_CFG_PROFILE n ∨ f.data.length ≠ (if s.regs.CANn_CFG_PROFILE n then 8 else 16)) :
    s.parseSet n f = none := by
  unfold State.parseSet
  dsimp only
  cases hprof : s.regs.CANn_CFG_PROFILE n
  · rw [hprof] at h
    rw [if_neg Bool.false_ne_true, if_pos]
    rcases h with h | h | h
    · simp [h]
    · simp [h]
    · simp [bne_iff_ne.2 (by simpa using h)]
  · rw [hprof] at h
    rw [if_pos rfl, if_pos]
    rcases h with h | h | h
    · simp [h]
    · simp [h]
    · simp [bne_iff_ne.2 (by simpa using h)]

theorem parseHeave_none (h : f.rtr = true ∨ f.fdf = s.regs.CANn_CFG_PROFILE n ∨ f.data.length ≠ (if s.regs.CANn_CFG_PROFILE n then 8 else 24)) :
    s.parseHeave n f = none := by
  unfold State.parseHeave
  dsimp only
  cases hprof : s.regs.CANn_CFG_PROFILE n
  · rw [hprof] at h
    rw [if_neg Bool.false_ne_true, if_pos]
    rcases h with h | h | h
    · simp [h]
    · simp [h]
    · simp [bne_iff_ne.2 (by simpa using h)]
  · rw [hprof] at h
    rw [if_pos rfl, if_pos]
    rcases h with h | h | h
    · simp [h]
    · simp [h]
    · simp [bne_iff_ne.2 (by simpa using h)]

/-- A payload that is read as a setpoint, and whose half is no complement. -/
theorem parseSet_pair (hparse : s.parseSet n f ≠ none) (hpair : f.data.drop (f.data.length / 2) ≠ complBytes (f.data.take (f.data.length / 2))) :
    f.rtr = false ∧ pairOk (s.regs.CANn_CFG_PROFILE n) f.data = false := by
  have hnot : ¬(f.rtr = true ∨ f.fdf = s.regs.CANn_CFG_PROFILE n ∨ f.data.length ≠ (if s.regs.CANn_CFG_PROFILE n then 8 else 16)) :=
    fun h => hparse (parseSet_none h)
  simp only [not_or, not_not, Bool.not_eq_true] at hnot
  obtain ⟨hrtr, -, hlen⟩ := hnot
  refine ⟨hrtr, ?_⟩
  unfold pairOk
  dsimp only
  cases hprof : s.regs.CANn_CFG_PROFILE n
  · rw [if_neg Bool.false_ne_true]
    exact beq_eq_false_iff_ne.2 hpair
  · rw [hprof, if_pos rfl] at hlen
    rw [hlen] at hpair
    rw [if_pos rfl]
    exact beq_eq_false_iff_ne.2 hpair

/-- Whether a setpoint may be taken. -/
theorem setGood_iff (s : State) (ax : Fin 6) (m : Nat) (v : Rat) :
    (decide (m ≤ 3) && (some v).isSome && (some (0 : Rat)).isSome && (false || s.setOk ax m ((some v).getD 0))) = true ↔ m ≤ 3 ∧ s.setOk ax m v = true := by
  simp

theorem setOk_congr (h : t.regs = s.regs) (v : Rat) : t.setOk ax m v = s.setOk ax m v := by
  unfold State.setOk State.setLimit
  rw [h]

/-! ### Setpoints -/

section
variable {k : Nat} {rec' : Bool}

/-- The message of a setpoint that is read: where it goes once its axis is known. -/
theorem setpoint_read (hready : s.canReady n) (hrole : s.canRole n f = .filtered k 1 rec') (hquar : s.can[n].quar = none)
    (hsays : s.saysSet n f ax m run heave cnt v) :
    ∃ w, Heard (s.advance dt) w n (if rec' then [canIn (s.tbAt dt - f.sofAge) n k (dlcOf f.data.length) f] else []) ∧
      exec (.canSetpointMessage dt n f) s = done (
        if s.regs.AXn_CMD_CFG_CAN ax ≠ n.val + 1 then w.modCan n (fun x => { x with unbound := satInc 16 x.unbound })
        else (w.msgBuffer n false ax).messageTaken n false f (s.tbAt dt - f.sofAge) ax
          { axis := ax, mode := m, run := run, heave := heave, count := cnt, size := 256, v := some v }) := by
  obtain ⟨w, d, hd, hheard, hexec⟩ := exec_canSetpoint (dt := dt) hready hrole
  obtain ⟨hparse, hpair⟩ := parseSet_says hsays
  have hregs : w.regs = s.regs := hheard.only.regs
  rw [hd hsays.2.2.1] at hheard
  refine ⟨w, hheard, hexec.trans ?_⟩
  rw [message_axis (hheard.quar.trans hquar) ((parseMsg_congr hregs false).trans hparse) (by rw [hregs]; exact hpair) rfl, hregs]

/-- A bound setpoint, in its buffer. -/
theorem setpoint_bound (hready : s.canReady n) (hrole : s.canRole n f = .filtered k 1 rec') (hquar : s.can[n].quar = none)
    (hsays : s.saysSet n f ax m run heave cnt v) (hbound : s.regs.AXn_CMD_CFG_CAN ax = n.val + 1) :
    ∃ b, InBuffer (s.advance dt) b n false ax (if rec' then [canIn (s.tbAt dt - f.sofAge) n k (dlcOf f.data.length) f] else []) ∧
      exec (.canSetpointMessage dt n f) s = done (b.messageTaken n false f (s.tbAt dt - f.sofAge) ax
        { axis := ax, mode := m, run := run, heave := heave, count := cnt, size := 256, v := some v }) := by
  obtain ⟨w, hheard, hexec⟩ := setpoint_read (dt := dt) hready hrole hquar hsays
  rw [if_neg (not_not.2 hbound)] at hexec
  exact ⟨_, hheard.inBuffer false ax, hexec⟩

theorem canSetpoint_accepted (hready : s.canReady n) (hrole : s.canRole n f = .filtered k 1 rec') (hquar : s.can[n].quar = none)
    (hsays : s.saysSet n f ax m run heave cnt v) (hbound : s.regs.AXn_CMD_CFG_CAN ax = n.val + 1) (hgood : m ≤ 3 ∧ s.setOk ax m v = true)
    (hnew : (s.advance dt).lastCount n false ax = none ∨ ∃ q, (s.advance dt).lastCount n false ax = some q ∧ 1 ≤ (cnt + 256 - q) % 256 ∧ (cnt + 256 - q) % 256 ≤ 3) :
    ∃ t, exec (.canSetpointMessage dt n f) s = .next t ∧
      t.but s = { s.advance dt with
        can := t.can, recs := t.recs, freeIx := t.freeIx
        cmd := { s.cmd with ax := vset s.cmd.ax ax (fun c => { c with can := { c.can with
          lastAt := some (s.tbAt dt - f.sofAge), run := run, mode := m, value := v, heave := heave, armed := c.can.armed || !run, lost := false } }) } } ∧
      t.can[n].spCnt = s.can[n].spCnt.set ax (some cnt) ∧ t.can[n].spNew = s.can[n].spNew.set ax true ∧ t.can[n].viols = s.can[n].viols ∧
      t.can[n].overrun = (if s.can[n].spNew[ax] then satInc 16 s.can[n].overrun else s.can[n].overrun) ∧
      (s.can[n].spNew[ax] = false → CanWrote s t n (if rec' then [canIn (s.tbAt dt - f.sofAge) n k (dlcOf f.data.length) f] else [])) := by
  obtain ⟨b, hb, hexec⟩ := setpoint_bound (dt := dt) hready hrole hquar hsays hbound
  have hok := (setGood_iff b ax m v).2 ⟨hgood.1, (setOk_congr hb.only.regs v).trans hgood.2⟩
  rw [messageTaken_good hok (by rw [hb.lastCount]; exact hnew)] at hexec
  let u := b.setCount n false ax (some cnt)
  have hu : u.can[n] = { b.can[n] with spCnt := b.can[n].spCnt.set ax (some cnt) } := modCan_self ..
  have hcmd : u.cmd = s.cmd := hb.only.cmd
  refine ⟨_, exec_next_of hexec rfl, ?_, ?_, ?_, ?_, ?_, fun hfree => ?_⟩
  · refine ((hb.only.modCan _).but_cmd _).trans ?_
    show ({ s.advance dt with can := u.can, recs := u.recs, freeIx := u.freeIx, cmd := { u.cmd with ax := vset u.cmd.ax ax _ } } : State) = _
    rw [hcmd]
    rfl
  · show u.can[n].spCnt = _
    rw [hu, hb.spCnt]
    rfl
  · show u.can[n].spNew = _
    rw [hu]
    exact hb.spNew
  · show u.can[n].viols = _
    rw [hu]
    exact hb.viols
  · show u.can[n].overrun = _
    rw [hu]
    exact hb.overrun
  · exact hb.wrote hfree

theorem canSetpoint_same (hready : s.canReady n) (hrole : s.canRole n f = .filtered k 1 rec') (hquar : s.can[n].quar = none)
    (hsays : s.saysSet n f ax m run heave cnt v) (hbound : s.regs.AXn_CMD_CFG_CAN ax = n.val + 1) (hgood : m ≤ 3 ∧ s.setOk ax m v = true)
    (hlast : (s.advance dt).lastCount n false ax = some cnt) :
    ∃ t, exec (.canSetpointMessage dt n f) s = .next t ∧ OnlyCan s t dt n ∧ t.can[n].spCnt = s.can[n].spCnt ∧ t.can[n].viols = s.can[n].viols ∧
      (s.can[n].spNew[ax] = false → CanWrote s t n (if rec' then [canIn (s.tbAt dt - f.sofAge) n k (dlcOf f.data.length) f] else [])) := by
  obtain ⟨b, hb, hexec⟩ := setpoint_bound (dt := dt) hready hrole hquar hsays hbound
  have hok := (setGood_iff b ax m v).2 ⟨hgood.1, (setOk_congr hb.only.regs v).trans hgood.2⟩
  rw [messageTaken_same hok ((hb.lastCount false).trans hlast) (by show (cnt + 256 - cnt) % 256 = 0; omega)] at hexec
  exact ⟨_, exec_next_of hexec rfl, hb.only.settle, hb.spCnt, hb.viols, fun hfree => hb.wrote hfree⟩

theorem canSetpoint_far {q : Nat} (hready : s.canReady n) (hrole : s.canRole n f = .filtered k 1 rec') (hquar : s.can[n].quar = none)
    (hsays : s.saysSet n f ax m run heave cnt v) (hbound : s.regs.AXn_CMD_CFG_CAN ax = n.val + 1) (hgood : m ≤ 3 ∧ s.setOk ax m v = true)
    (hlast : (s.advance dt).lastCount n false ax = some q) (hfar : (cnt + 256 - q) % 256 > 3) (hfree : s.can[n].spNew[ax] = false) :
    ∃ t, exec (.canSetpointMessage dt n f) s = .next t ∧ OnlyCan s t dt n ∧
      CanDiscarded s t n f (s.tbAt dt - f.sofAge) St.sequence (if rec' then [canIn (s.tbAt dt - f.sofAge) n k (dlcOf f.data.length) f] else []) ∧
      t.can[n].spCnt = s.can[n].spCnt.set ax none := by
  obtain ⟨b, hb, hexec⟩ := setpoint_bound (dt := dt) hready hrole hquar hsays hbound
  have hok := (setGood_iff b ax m v).2 ⟨hgood.1, (setOk_congr hb.only.regs v).trans hgood.2⟩
  rw [messageTaken_far hok ((hb.lastCount false).trans hlast) hfar] at hexec
  obtain ⟨honly, hcnt, -, hdiscard⟩ := discarded_counter (f := f) (stamp := s.tbAt dt - f.sofAge) (st := St.sequence) (s := s.advance dt) (run_phase hready.1) hb
  exact ⟨_, exec_next_of hexec rfl, honly.settle, hdiscard hfree, hcnt⟩

theorem canSetpoint_range (hready : s.canReady n) (hrole : s.canRole n f = .filtered k 1 rec') (hquar : s.can[n].quar = none)
    (hsays : s.saysSet n f ax m run heave cnt v) (hbound : s.regs.AXn_CMD_CFG_CAN ax = n.val + 1) (hbad : ¬(m ≤ 3 ∧ s.setOk ax m v = true))
    (hfree : s.can[n].spNew[ax] = false) :
    ∃ t, exec (.canSetpointMessage dt n f) s = .next t ∧ OnlyCan s t dt n ∧
      CanDiscarded s t n f (s.tbAt dt - f.sofAge) St.range (if rec' then [canIn (s.tbAt dt - f.sofAge) n k (dlcOf f.data.length) f] else []) ∧
      t.can[n].spCnt = s.can[n].spCnt.set ax none := by
  obtain ⟨b, hb, hexec⟩ := setpoint_bound (dt := dt) hready hrole hquar hsays hbound
  have hbad' : ¬(m ≤ 3 ∧ b.setOk ax m v = true) := by
    rw [setOk_congr (s := s) hb.only.regs]
    exact hbad
  rw [messageTaken_bad (Bool.eq_false_iff.2 fun h => hbad' ((setGood_iff b ax m v).1 h))] at hexec
  obtain ⟨honly, hcnt, -, hdiscard⟩ := discarded_counter (f := f) (stamp := s.tbAt dt - f.sofAge) (st := St.range) (s := s.advance dt) (run_phase hready.1) hb
  exact ⟨_, exec_next_of hexec rfl, honly.settle, hdiscard hfree, hcnt⟩

theorem canSetpoint_unbound (hready : s.canReady n) (hrole : s.canRole n f = .filtered k 1 rec') (hquar : s.can[n].quar = none)
    (hsays : s.saysSet n f ax m run heave cnt v) (hother : s.regs.AXn_CMD_CFG_CAN ax ≠ n.val + 1) :
    ∃ t, exec (.canSetpointMessage dt n f) s = .next t ∧ OnlyCan s t dt n ∧ t.can[n].unbound = satInc 16 s.can[n].unbound ∧
      t.can[n].spNew = s.can[n].spNew ∧ t.can[n].viols = s.can[n].viols ∧
      CanWrote s t n (if rec' then [canIn (s.tbAt dt - f.sofAge) n k (dlcOf f.data.length) f] else []) := by
  obtain ⟨w, hheard, hexec⟩ := setpoint_read (dt := dt) hready hrole hquar hsays
  rw [if_pos hother] at hexec
  obtain ⟨r, hr⟩ := hheard.ctl
  have hself : (w.modCan n fun x => { x with unbound := satInc 16 x.unbound }).can[n] = { w.can[n] with unbound := satInc 16 w.can[n].unbound } := modCan_self ..
  rw [hr] at hself
  refine ⟨_, exec_next_of hexec rfl, (hheard.only.modCan _).settle, ?_, ?_, ?_, hheard.wrote⟩
  · exact (congrArg CanCtl.unbound hself).trans rfl
  · exact (congrArg CanCtl.spNew hself).trans rfl
  · exact (congrArg CanCtl.viols hself).trans rfl

/-! ### Heave messages -/

theorem lastCount_lapsed {since : Nat} (hlast : s.cmd.ax[ax].can.lastAt = some since) (hover : since + s.regs.AXn_CMD_CFG_CAN_TMO ax * 10000000 ≤ s.tb)
    (hold : s.can[n].hvAt[ax] < since + s.regs.AXn_CMD_CFG_CAN_TMO ax * 10000000) : s.lastCount n true ax = none := by
  unfold State.lastCount
  dsimp only
  rw [if_pos rfl, hlast]
  exact if_pos ⟨hover, hold⟩

theorem lastCount_kept (h : ∀ since, ¬(s.cmd.ax[ax].can.lastAt = some since ∧ since + s.regs.AXn_CMD_CFG_CAN_TMO ax * 10000000 ≤ s.tb ∧
    s.can[n].hvAt[ax] < since + s.regs.AXn_CMD_CFG_CAN_TMO ax * 10000000)) : s.lastCount n true ax = s.can[n].hvCnt[ax] := by
  unfold State.lastCount
  dsimp only
  rw [if_pos rfl]
  cases hlast : s.cmd.ax[ax].can.lastAt with
  | none => rfl
  | some since => exact if_neg fun hover => h since ⟨hlast, hover⟩

theorem bindFlag_bound (h : s.regs.AXn_CMD_CFG_CAN ax = n.val + 1) : (s.bindFlag ax != 0) = s.regs.CANn_CFG_PROFILE n := by
  unfold State.bindFlag
  dsimp only
  rw [h, Nat.add_sub_cancel]
  cases s.regs.CANn_CFG_PROFILE n <;> rfl

/-- Whether a heave sample may be taken: always. -/
theorem heaveGood (s : State) (ax : Fin 6) (v a : Rat) :
    (decide (0 ≤ 3) && (some v).isSome && (some a).isSome && (true || s.setOk ax 0 ((some v).getD 0))) = true := by
  simp

theorem heave_bound (hready : s.canReady n) (hrole : s.canRole n f = .filtered k 2 rec') (hquar : s.can[n].quar = none)
    (hsays : s.saysHeave n f ax cnt size v a) (hbound : s.regs.AXn_CMD_CFG_CAN ax = n.val + 1) :
    ∃ b, InBuffer (s.advance dt) b n true ax (if rec' then [canIn (s.tbAt dt - f.sofAge) n k (dlcOf f.data.length) f] else []) ∧
      exec (.canHeaveMessage dt n f) s = done (b.messageTaken n true f (s.tbAt dt - f.sofAge) ax
        { axis := ax, count := cnt, size := size, v := some v, a := some a }) := by
  obtain ⟨w, d, hd, hheard, hexec⟩ := exec_canHeave (dt := dt) hready hrole
  obtain ⟨hparse, hpair⟩ := parseHeave_says hsays
  have hregs : w.regs = s.regs := hheard.only.regs
  rw [hd hsays.2.1] at hheard
  refine ⟨_, hheard.inBuffer true ax, hexec.trans ?_⟩
  rw [message_axis (hheard.quar.trans hquar) ((parseMsg_congr hregs true).trans hparse) (by rw [hregs]; exact hpair) rfl, hregs,
    if_neg (not_not.2 hbound)]

/-- The heave reference of an axis that a sample of the time `at'` reaches. -/
def CmdAx.heaved (c : CmdAx) (at' : Nat) (v a : Rat) (heritage : Bool) : CmdAx :=
  match c.hcRef with
  | some r => if at' ≤ r.1 then c else { c with hcRef := some (at', v, a), hcCan := heritage }
  | none => { c with hcRef := some (at', v, a), hcCan := heritage }

theorem takeHeave_heaved (s : State) (ax : Fin 6) (at' : Nat) (v a : Rat) (heritage : Bool) :
    s.takeHeave ax at' v a heritage = s.modCmd ax fun c => c.heaved at' v a heritage := by
  unfold State.takeHeave
  congr 1
  funext c
  unfold CmdAx.heaved
  rcases c.hcRef with _ | ⟨t, x, y⟩ <;> rfl

theorem canHeave_accepted (hready : s.canReady n) (hrole : s.canRole n f = .filtered k 2 rec') (hquar : s.can[n].quar = none)
    (hsays : s.saysHeave n f ax cnt size v a) (hbound : s.regs.AXn_CMD_CFG_CAN ax = n.val + 1)
    (hnew : (s.advance dt).lastCount n true ax = none ∨
      ∃ q, (s.advance dt).lastCount n true ax = some q ∧ 1 ≤ (cnt + size - q) % size ∧ (cnt + size - q) % size ≤ 3) :
    ∃ t, exec (.canHeaveMessage dt n f) s = .next t ∧
      t.but s = { s.advance dt with
        can := t.can, recs := t.recs, freeIx := t.freeIx
        cmd := { s.cmd with ax := vset s.cmd.ax ax fun c => c.heaved (s.tbAt dt - f.sofAge - nsOf (s.regs.AXn_HC_LAT ax)) v a (s.regs.CANn_CFG_PROFILE n) } } ∧
      t.can[n].hvCnt = s.can[n].hvCnt.set ax (some cnt) ∧ t.can[n].hvAt = s.can[n].hvAt.set ax (s.tbAt dt - f.sofAge) ∧
      t.can[n].hvNew = s.can[n].hvNew.set ax true ∧ t.can[n].viols = s.can[n].viols ∧
      (s.can[n].hvNew[ax] = false → CanWrote s t n (if rec' then [canIn (s.tbAt dt - f.sofAge) n k (dlcOf f.data.length) f] else [])) := by
  obtain ⟨b, hb, hexec⟩ := heave_bound (dt := dt) hready hrole hquar hsays hbound
  rw [messageTaken_good (heaveGood b ax v a) (by rw [hb.lastCount]; exact hnew)] at hexec
  let u := (b.setCount n true ax (some cnt)).modCan n fun x => { x with hvAt := x.hvAt.set ax (s.tbAt dt - f.sofAge) }
  have hu : u.can[n] = { b.can[n] with hvCnt := b.can[n].hvCnt.set ax (some cnt), hvAt := b.can[n].hvAt.set ax (s.tbAt dt - f.sofAge) } := by
    rw [show u.can[n] = _ from modCan_self ..]
    have hset : (b.setCount n true ax (some cnt)).can[n] = { b.can[n] with hvCnt := b.can[n].hvCnt.set ax (some cnt) } := modCan_self ..
    rw [hset]
  have honly : CanOnly (s.advance dt) u n := (hb.only.modCan _).modCan _
  have hcmd : u.cmd = s.cmd := honly.cmd
  have hregs : b.regs = s.regs := hb.only.regs
  have hact : (b.setCount n true ax (some cnt)).msgAct n true ax { axis := ax, count := cnt, size := size, v := some v, a := some a } (s.tbAt dt - f.sofAge) =
      u.modCmd ax fun c => c.heaved (s.tbAt dt - f.sofAge - nsOf (s.regs.AXn_HC_LAT ax)) v a (s.regs.CANn_CFG_PROFILE n) := by
    rw [← takeHeave_heaved, ← bindFlag_bound hbound]
    have hflag : (b.setCount n true ax (some cnt)).bindFlag ax = s.bindFlag ax := by
      unfold State.bindFlag
      rw [show (b.setCount n true ax (some cnt)).regs = s.regs from hregs]
    show u.takeHeave ax (s.tbAt dt - f.sofAge - nsOf (b.regs.AXn_HC_LAT ax)) v a ((b.setCount n true ax (some cnt)).bindFlag ax != 0) = _
    rw [hflag, hregs]
  refine ⟨_, exec_next_of hexec hact, ?_, ?_, ?_, ?_, ?_, fun hfree => ?_⟩
  · refine (honly.but_cmd _).trans ?_
    show ({ s.advance dt with can := u.can, recs := u.recs, freeIx := u.freeIx, cmd := { u.cmd with ax := vset u.cmd.ax ax _ } } : State) = _
    rw [hcmd]
    rfl
  · show u.can[n].hvCnt = _
    rw [hu, hb.hvCnt]
    rfl
  · show u.can[n].hvAt = _
    rw [hu, hb.hvAt]
    rfl
  · show u.can[n].hvNew = _
    rw [hu]
    exact hb.hvNew
  · show u.can[n].viols = _
    rw [hu]
    exact hb.viols
  · exact hb.wrote hfree

theorem canHeave_far {q : Nat} (hready : s.canReady n) (hrole : s.canRole n f = .filtered k 2 rec') (hquar : s.can[n].quar = none)
    (hsays : s.saysHeave n f ax cnt size v a) (hbound : s.regs.AXn_CMD_CFG_CAN ax = n.val + 1)
    (hlast : (s.advance dt).lastCount n true ax = some q) (hfar : (cnt + size - q) % size > 3) (hfree : s.can[n].hvNew[ax] = false) :
    ∃ t, exec (.canHeaveMessage dt n f) s = .next t ∧ OnlyCan s t dt n ∧
      CanDiscarded s t n f (s.tbAt dt - f.sofAge) St.sequence (if rec' then [canIn (s.tbAt dt - f.sofAge) n k (dlcOf f.data.length) f] else []) ∧
      t.can[n].hvCnt = s.can[n].hvCnt.set ax none := by
  obtain ⟨b, hb, hexec⟩ := heave_bound (dt := dt) hready hrole hquar hsays hbound
  rw [messageTaken_far (heaveGood b ax v a) ((hb.lastCount true).trans hlast) hfar] at hexec
  obtain ⟨honly, -, hcnt, hdiscard⟩ := discarded_counter (f := f) (stamp := s.tbAt dt - f.sofAge) (st := St.sequence) (s := s.advance dt) (run_phase hready.1) hb
  exact ⟨_, exec_next_of hexec rfl, honly.settle, hdiscard hfree, hcnt⟩

/-- What a message of either kind leaves of a controller in quarantine. -/
theorem heard_quarantined {t : State} (h : Heard (s.advance dt) t n l) :
    OnlyCan s t.settle dt n ∧ t.settle.can[n].viols = s.can[n].viols ∧ t.settle.can[n].spCnt = s.can[n].spCnt ∧ t.settle.can[n].hvCnt = s.can[n].hvCnt ∧
      CanWrote s t.settle n l := by
  obtain ⟨r, hr⟩ := h.ctl
  refine ⟨h.only.settle, h.viols, ?_, ?_, h.wrote⟩
  · exact (congrArg CanCtl.spCnt hr).trans rfl
  · exact (congrArg CanCtl.hvCnt hr).trans rfl

end

end

/-- Settles O47: a setpoint and a heave message each accepted, repeated or discarded by its cause, and what quarantine leaves of them. -/
theorem canMessages : Obligations.CanMessages := by
  unfold Obligations.CanMessages
  intro s dt n f k rec' hready
  refine ⟨fun hrole => ⟨fun hquar ax m run heave cnt v hsays => ⟨fun hbound hgood hnew => ?_, fun hbound hgood hlast _ => ?_, fun hbound hgood q hlast _ hfar hfree => ?_,
      fun hbound hbad hfree => ?_, fun hother => ?_⟩, fun hquar hbad => ?_, fun hquar hparse hpair => ?_, fun hquar => ?_⟩,
    fun hrole => ⟨fun hquar ax cnt size v a hsays => ⟨?_, ?_, fun hbound => ⟨fun hnew => ?_, fun q hlast _ hfar hfree => ?_⟩⟩, fun hquar hbad => ?_, fun hquar => ?_⟩⟩
  · exact canSetpoint_accepted hready hrole hquar hsays hbound hgood hnew
  · exact canSetpoint_same hready hrole hquar hsays hbound hgood hlast
  · exact canSetpoint_far hready hrole hquar hsays hbound hgood hlast hfar hfree
  · exact canSetpoint_range hready hrole hquar hsays hbound hbad hfree
  · exact canSetpoint_unbound hready hrole hquar hsays hother
  · obtain ⟨w, d, hd, hheard, hexec⟩ := exec_canSetpoint (dt := dt) hready hrole
    have hnone : w.parseMsg n false f = none := (parseMsg_congr hheard.only.regs false).trans (parseSet_none hbad)
    obtain ⟨honly, hdiscard⟩ := hheard.discarded (f := f) (st := St.malformed) (stamp := s.tbAt dt - f.sofAge) (run_phase hready.1)
    exact ⟨_, d, exec_next_of hexec (message_malformed (hheard.quar.trans hquar) hnone), honly.settle, hd, hdiscard⟩
  · obtain ⟨w, d, hd, hheard, hexec⟩ := exec_canSetpoint (dt := dt) hready hrole
    obtain ⟨hrtr, hbad⟩ := parseSet_pair hparse hpair
    obtain ⟨x, hx⟩ := Option.ne_none_iff_exists'.1 hparse
    have hregs : w.regs = s.regs := hheard.only.regs
    rw [hd hrtr] at hheard
    obtain ⟨honly, hdiscard⟩ := hheard.discarded (f := f) (st := St.pair) (stamp := s.tbAt dt - f.sofAge) (run_phase hready.1)
    exact ⟨_, exec_next_of hexec (message_pair (hheard.quar.trans hquar) ((parseMsg_congr hregs false).trans hx) (by rw [hregs]; exact hbad)), honly.settle, hdiscard⟩
  · obtain ⟨w, d, hd, hheard, hexec⟩ := exec_canSetpoint (dt := dt) hready hrole
    obtain ⟨honly, hviols, hcnt, -, hwrote⟩ := heard_quarantined hheard
    exact ⟨_, d, exec_next_of hexec (message_quarantined (by rw [hheard.quar]; exact hquar)), honly, hviols, hcnt, hd, hwrote⟩
  · rintro ⟨since, hlast, hover, hold⟩
    exact lastCount_lapsed (s := s.advance dt) hlast hover hold
  · exact fun h => lastCount_kept (s := s.advance dt) h
  · obtain ⟨t, hexec, hbut, h⟩ := canHeave_accepted (dt := dt) hready hrole hquar hsays hbound hnew
    exact ⟨t, hexec, hbut, h⟩
  · exact canHeave_far hready hrole hquar hsays hbound hlast hfar hfree
  · obtain ⟨w, d, hd, hheard, hexec⟩ := exec_canHeave (dt := dt) hready hrole
    have hnone : w.parseMsg n true f = none := (parseMsg_congr hheard.only.regs true).trans (parseHeave_none hbad)
    obtain ⟨honly, hdiscard⟩ := hheard.discarded (f := f) (st := St.malformed) (stamp := s.tbAt dt - f.sofAge) (run_phase hready.1)
    exact ⟨_, d, exec_next_of hexec (message_malformed (hheard.quar.trans hquar) hnone), honly.settle, hd, hdiscard⟩
  · obtain ⟨w, d, hd, hheard, hexec⟩ := exec_canHeave (dt := dt) hready hrole
    obtain ⟨honly, hviols, -, hcnt, hwrote⟩ := heard_quarantined hheard
    exact ⟨_, d, exec_next_of hexec (message_quarantined (by rw [hheard.quar]; exact hquar)), honly, hviols, hcnt, hd, hwrote⟩

end Sys2Proof.Machine
end

section
/-! PROOF. CAN traffic beside the messages (R424 to R430, R438 to R442): filters, envelopes, records, rate detection, the frames sent and the host slots. -/
set_option Elab.async false

namespace Sys2Proof.Machine

section
variable {s t u : State} {dt : Nat} {n : Fin 2} {l : List Shown} {f : CanFrame}

/-! ## The role of a frame received -/

/-- The first filter that matches decides, where no connection takes the frame. -/
theorem canRole_filtered {k : Nat}
    (hconn : ∀ c : Fin 16, ¬ (s.consumes c = true ∧ s.regs.SAF_CONc_CFG_CH c = 2 + n.val ∧ s.regs.SAF_CONc_ADDR c = f.id.toNat ∧ s.regs.SAF_CONc_CFG_IDE c = f.ide))
    (hk : k < s.regs.CANn_FLT_CNT n)
    (hhit : s.regs.CANn_FLTf_ID_IDE n k = f.ide ∧ (f.id.toNat ^^^ s.regs.CANn_FLTf_ID_ID n k) &&& s.regs.CANn_FLTf_MASK n k = 0)
    (hfirst : ∀ j, j < k → ¬ (s.regs.CANn_FLTf_ID_IDE n j = f.ide ∧ (f.id.toNat ^^^ s.regs.CANn_FLTf_ID_ID n j) &&& s.regs.CANn_FLTf_MASK n j = 0)) :
    s.canRole n f = .filtered k (s.regs.CANn_FLTf_CFG_ROLE n k) (s.regs.CANn_FLTf_CFG_REC n k) := by
  have hnone : (List.finRange 16).find? (fun (c : Fin 16) => s.consumes c && s.regs.SAF_CONc_CFG_CH c == 2 + n.val
      && s.regs.SAF_CONc_ADDR c == f.id.toNat && s.regs.SAF_CONc_CFG_IDE c == f.ide) = none := by
    refine List.find?_eq_none.2 fun c _ h => hconn c ?_
    simpa only [Bool.and_eq_true, beq_iff_eq, and_assoc] using h
  have hsome : (List.range (s.regs.CANn_FLT_CNT n)).find? (fun k => s.regs.CANn_FLTf_ID_IDE n k == f.ide
      && (f.id.toNat ^^^ s.regs.CANn_FLTf_ID_ID n k) &&& s.regs.CANn_FLTf_MASK n k == 0) = some k := by
    refine List.find?_range_eq_some.2 ⟨?_, List.mem_range.2 hk, fun j hj => ?_⟩
    · simpa only [Bool.and_eq_true, beq_iff_eq] using hhit
    · have hmiss := hfirst j hj
      simpa only [Bool.not_eq_true', Bool.and_eq_false_imp, beq_iff_eq, beq_eq_false_iff_ne, ne_eq, not_and] using hmiss
  unfold State.canRole
  dsimp only
  rw [hnone, hsome]

/-! ## An envelope in its buffer -/

theorem canEnvelope_leaves {c : Fin 16} {b : List Byte} {stamp : Nat} (h : Heard s t n []) :
    CanOnly s (t.canEnvelope n c b stamp) n ∧ (t.canEnvelope n c b stamp).can[n].env = s.can[n].env.set c (some (b, stamp)) ∧
      (t.canEnvelope n c b stamp).can[n].overrun = (if s.can[n].env[c].isSome then satInc 16 s.can[n].overrun else s.can[n].overrun) ∧
      (s.can[n].env[c] = none → CanWrote s (t.canEnvelope n c b stamp) n []) := by
  obtain ⟨r, hr⟩ := h.ctl
  have henv : t.can[n].env = s.can[n].env := by rw [hr]
  have hover : t.can[n].overrun = s.can[n].overrun := by rw [hr]
  unfold State.canEnvelope
  rw [henv]
  by_cases hfull : s.can[n].env[c].isSome
  · rw [if_pos hfull]
    dsimp only
    generalize t.can[n].envRun[c].event t.now t.tb = e
    have F := Frame.overrunRecs (t.modCan n fun x => { x with overrun := satInc 16 x.overrun, envRun := x.envRun.set c e.1 }) n 3 c e.2
    have hcan : ((t.modCan n fun x => { x with overrun := satInc 16 x.overrun, envRun := x.envRun.set c e.1 }).overrunRecs n 3 c e.2).can[n]
        = { t.can[n] with overrun := satInc 16 t.can[n].overrun, envRun := t.can[n].envRun.set c e.1 } :=
      (congrArg (fun v => v[n]) (F.keep .can (by decide))).trans (modCan_self ..)
    refine ⟨((h.only.modCan _).next F).modCan _, ?_, ?_, fun hnone => ?_⟩
    · rw [modCan_self, hcan]
      exact congrArg (fun v => Vector.set v c (some (b, stamp))) henv
    · rw [modCan_self, hcan, if_pos hfull]
      exact congrArg (satInc 16) hover
    · rw [hnone] at hfull
      cases hfull
  · rw [if_neg hfull]
    refine ⟨h.only.modCan _, ?_, ?_, fun _ => h.wrote.next (Frame.modCan ..)⟩
    · rw [modCan_self]
      exact congrArg (fun v => Vector.set v c (some (b, stamp))) henv
    · rw [modCan_self, if_neg hfull]
      exact hover

theorem exec_canEnvelope {c : Fin 16} (hready : s.canReady n) (hrole : s.canRole n f = .envelope c) :
    exec (.canEnvelopeFrame dt n f) s = done (((s.advance dt).canGood n).canEnvelope n c f.data (s.tbAt dt - f.sofAge)) := by
  have hrole' : (s.advance dt).canRole n f = .envelope c := hrole
  have htb : (s.advance dt).tb = s.tbAt dt := rfl
  refine congrArg done ((canReceive_ready (s := s.advance dt) hready ?_).trans ?_)
  · rw [hrole']
  · rw [hrole', htb]

/-! ## The record of a frame that no message takes -/

theorem exec_canRecordFrame {k role : Nat} {rec' : Bool} (hready : s.canReady n) (hrole : s.canRole n f = .filtered k role rec') (h1 : role ≠ 1) (h2 : role ≠ 2) :
    exec (.canRecordFrame dt n f) s =
      done (((s.advance dt).canGood n).recordIn n f (.filtered k role rec') (s.tbAt dt - f.sofAge)) := by
  have hrole' : (s.advance dt).canRole n f = .filtered k role rec' := hrole
  have htb : (s.advance dt).tb = s.tbAt dt := rfl
  refine congrArg done ((canReceive_ready (s := s.advance dt) hready ?_).trans ?_)
  · rw [hrole']
    show (role != 1 && role != 2) = true
    rw [bne_iff_ne.2 h1, bne_iff_ne.2 h2]
    rfl
  · rw [hrole', htb]

theorem exec_canRecord_unmatched (hready : s.canReady n) (hrole : s.canRole n f = .unmatched) :
    exec (.canRecordFrame dt n f) s = done ((s.advance dt).canGood n) := by
  have hrole' : (s.advance dt).canRole n f = .unmatched := hrole
  refine congrArg done ((canReceive_ready (s := s.advance dt) hready ?_).trans ?_)
  · rw [hrole']
  · rw [hrole']
    rfl

/-! ## Rate detection -/

theorem canReceive_detects {mine : CanRole → Bool} {act : CanRole → Nat → State → State} (hrun : s.running = true) (hstarted : s.can[n].started = true)
    (hdetect : s.can[n].abd.run = true) : s.canReceive n f mine act = s.abdGood n := by
  unfold State.canReceive
  rw [hrun, hstarted, hdetect]
  rfl

theorem exec_detects {c : Instr} (hrun : s.running = true) (hstarted : s.can[n].started = true) (hdetect : s.can[n].abd.run = true)
    (hc : c = .canSetpointMessage dt n f ∨ c = .canHeaveMessage dt n f ∨ c = .canEnvelopeFrame dt n f ∨ c = .canRecordFrame dt n f) :
    exec c s = done ((s.advance dt).abdGood n) := by
  have h {mine : CanRole → Bool} {act : CanRole → Nat → State → State} : (s.advance dt).canReceive n f mine act = (s.advance dt).abdGood n :=
    canReceive_detects (s := s.advance dt) hrun hstarted hdetect
  obtain rfl | rfl | rfl | rfl := hc
  · exact congrArg done h
  · exact congrArg done h
  · exact congrArg done h
  · exact congrArg done h

theorem modCan_congr {g h : CanCtl → CanCtl} (heq : g s.can[n] = h s.can[n]) : s.modCan n g = s.modCan n h :=
  congrArg (fun v => ({ s with can := v } : State)) (vset_congr heq)

theorem abdGood_first (hok : s.can[n].abd.ok = 0) : s.abdGood n = s.modCan n fun x => { x with abd := { x.abd with ok := 1 } } := by
  have hlt : s.can[n].abd.ok + 1 < 2 := by omega
  have hnext : s.can[n].abd.ok + 1 = 1 := by omega
  unfold State.abdGood
  dsimp only
  rw [if_pos hlt]
  refine modCan_congr ?_
  rw [hnext]

theorem abdGood_second (hok : 1 ≤ s.can[n].abd.ok) : s.abdGood n =
    (s.modCan n fun x => { x with integrating := true, abd := { x.abd with run := false, ok := 0 } }).canEvent n s.tb 0x1004 (1 + s.can[n].cand)
      (s.canRate n s.can[n].cand) := by
  unfold State.abdGood
  dsimp only
  rw [if_neg (by omega)]

/-- What the end of a dwell leaves of a controller: the next candidate, its record where the list begins anew for the first time. -/
theorem abdNext_leaves (hphase : s.pwr.phase = .running) :
    let k := (s.can[n].cand + 1) % max 1 (s.regs.CANn_CFG_ABD_N n)
    let note : Prop := k = 0 ∧ s.can[n].abd.noted = false
    CanOnly s (s.abdNext n) n ∧ (s.abdNext n).can[n].cand = k ∧ (s.abdNext n).can[n].abd.ok = 0 ∧ (s.abdNext n).can[n].abd.since = s.tb ∧
      (s.abdNext n).can[n].abd.run = s.can[n].abd.run ∧
      (note → Wrote s (s.abdNext n) [evtOf s.tb (Unit.can n) 0x1004 0 (s.canRate n k)]) ∧ (¬ note → (s.abdNext n).recs = s.recs) := by
  unfold State.abdNext
  dsimp only
  generalize hk : (s.can[n].cand + 1) % max 1 (s.regs.CANn_CFG_ABD_N n) = k
  generalize hb : (k == 0 && !s.can[n].abd.noted) = note
  have hown := (CanOnly.refl s n).modCan fun x => { x with cand := k, abd := { x.abd with ok := 0, since := s.tb, noted := x.abd.noted || note } }
  have hself := modCan_self s n fun x => { x with cand := k, abd := { x.abd with ok := 0, since := s.tb, noted := x.abd.noted || note } }
  have hnote : (k = 0 ∧ s.can[n].abd.noted = false) ↔ note = true := by
    rw [← hb, Bool.and_eq_true, beq_iff_eq, Bool.not_eq_true']
  rw [hnote]
  cases note with
  | true =>
    rw [if_pos rfl]
    have F := Frame.canEvent (s.modCan n fun x => { x with cand := k, abd := { x.abd with ok := 0, since := s.tb, noted := x.abd.noted || true } }) n s.tb 0x1004 0
      (s.canRate n k) 0
    have hcan := (congrArg (fun v => v[n]) (F.keep .can (by decide))).trans hself
    exact ⟨hown.next F, (congrArg CanCtl.cand hcan).trans rfl, (congrArg (fun x => x.abd.ok) hcan).trans rfl,
      (congrArg (fun x => x.abd.since) hcan).trans rfl, (congrArg (fun x => x.abd.run) hcan).trans rfl,
      fun _ => Wrote.event_one hphase, fun h => absurd rfl h⟩
  | false =>
    rw [if_neg Bool.false_ne_true]
    exact ⟨hown, (congrArg CanCtl.cand hself).trans rfl, (congrArg (fun x => x.abd.ok) hself).trans rfl, (congrArg (fun x => x.abd.since) hself).trans rfl,
      (congrArg (fun x => x.abd.run) hself).trans rfl, fun h => absurd h Bool.false_ne_true, fun _ => rfl⟩

theorem abdDwell_over (hrun : s.running = true) (hdetect : s.can[n].abd.run = true) (hover : s.can[n].abd.since + nsOf (s.regs.CANn_ABD_DWELL n) ≤ s.tb) :
    s.abdDwell n = s.abdNext n := by
  unfold State.abdDwell
  dsimp only
  rw [hrun, hdetect, decide_eq_true hover]
  rfl

/-! ## Integration, the guard and recovery -/

theorem canIntegrated_eq (hrun : s.running = true) (hstarted : s.can[n].started = true) (hint : s.can[n].integrating = true) :
    s.canIntegrated n = s.modCan n fun x => { x with integrating := false, guard := false } := by
  unfold State.canIntegrated
  dsimp only
  rw [hrun, hstarted, hint]
  rfl

theorem txdGuard_eq (hrun : s.running = true) (hstarted : s.can[n].started = true) : s.txdGuard n = s.modCan n fun x => { x with guard := true } := by
  unfold State.txdGuard
  rw [hrun, hstarted]
  rfl

theorem canRecovered_eq (hrun : s.running = true) (hoff : s.can[n].busOff = true) (hrecov : s.can[n].recov = true) : s.canRecovered n =
    (s.modCan n fun x => { x with busOff := false, recov := false, integrating := false, tec := 0, rec' := 0 }).canEvent n s.tb 0x1001 3 0 := by
  unfold State.canRecovered
  rw [hrun, hoff, hrecov]
  rfl

/-! ## The status message of an axis -/

/-- The frame that a periodic slot queues for an axis. -/
def State.statusFrame (s : State) (n : Fin 2) (k : Fin 8) (ax : Fin 6) : TxFrame :=
  ⟨s.regs.CANn_TXPk_ID_ID n k, s.regs.CANn_TXPk_ID_IDE n k, !s.regs.CANn_CFG_PROFILE n, !s.regs.CANn_CFG_PROFILE n && s.regs.CANn_CFG_BRS n,
    s.statusMsg n ax, s.now⟩

theorem canPeriodic_due {k : Fin 8} {ax : Fin 6} (hrun : s.running = true) (hstarted : s.can[n].started = true) (hon : s.can[n].busOff = false)
    (hsends : s.canSends n = true) (hen : s.regs.CANn_TXPk_CFG_EN n k = true) (hax : s.regs.CANn_TXPk_CFG_AXIS n k = ax.val)
    (hper : 0 < nsOf (s.regs.CANn_TXPk_PER n k)) (hdue : s.tb % nsOf (s.regs.CANn_TXPk_PER n k) = 0) :
    s.canPeriodic n k = s.modCan n fun y => { y with txPer := y.txPer.set k (some (s.statusFrame n k ax)) } := by
  have hof : Fin.ofNat 6 ax.val = ax := Fin.ext (Nat.mod_eq_of_lt ax.isLt)
  have hpos : (nsOf (s.regs.CANn_TXPk_PER n k) != 0) = true := bne_iff_ne.2 (by omega)
  unfold State.canPeriodic State.statusFrame
  dsimp only
  rw [hrun, hstarted, hon, hsends, hen, hax, hof, hpos, hdue]
  rfl

theorem canPeriodic_between {k : Fin 8} (h : s.tb % nsOf (s.regs.CANn_TXPk_PER n k) ≠ 0) : s.canPeriodic n k = s := by
  have hoff : (s.tb % nsOf (s.regs.CANn_TXPk_PER n k) == 0) = false := beq_eq_false_iff_ne.2 h
  unfold State.canPeriodic
  dsimp only
  rw [hoff, Bool.and_false, if_neg Bool.false_ne_true]

theorem complBytes_append (a b : List Byte) : complBytes (a ++ b) = complBytes a ++ complBytes b := List.map_append

theorem statusMsg_native {ax : Fin 6} (h : s.regs.CANn_CFG_PROFILE n = false) :
    let d := leBytes 1 ax ++ leBytes 1 s.ax[ax].state.code ++ leBytes 1 s.mode.mode.code ++ leBytes 1 s.cmd.ax[ax].src ++ leBytes 4 (toF32 (s.axSpeed ax)).toNat
    s.statusMsg n ax = d ++ complBytes d := by
  unfold State.statusMsg
  dsimp only
  rw [h, if_neg Bool.false_ne_true]

theorem statusMsg_heritage {ax : Fin 6} (h : s.regs.CANn_CFG_PROFILE n = true) :
    let raw : Rat := clampR (-2047) 2047 ((s.axSpeed ax * 2047 / s.regs.AXn_SPD_MAX ax + 1 / 2).floor)
    let d := beBytes 2 (ax * 4096 + twos 2 raw.floor % 4096) ++ beBytes 2 (s.ax[ax].state.code * 4096 + s.mode.mode.code * 256 + s.cmd.ax[ax].src * 16)
    s.statusMsg n ax = d ++ complBytes d := by
  unfold State.statusMsg
  dsimp only
  rw [h, if_pos rfl, complBytes_append, List.append_assoc]

end

section
variable {s t u : State} {dt : Nat} {n : Fin 2} {slot : TxSlot} {f : TxFrame} {sof : Nat} {after : HostSlot → Nat}

/-! ## The outcome of an attempt -/

/-- A host slot after an attempt that began at `sof`. -/
def HostSlot.tried (q : HostSlot) (sof : Nat) (after : HostSlot → Nat) : HostSlot :=
  { q with attempts := satInc 8 q.attempts, stamp := sof, state := after q, cancel := q.cancel && after q == 1 }

/-- A controller after an attempt of a slot. -/
def CanCtl.tried (x : CanCtl) (sof : Nat) (after : HostSlot → Nat) : TxSlot → CanCtl
  | .host h => { x with host := vset x.host h fun q => q.tried sof after }
  | _ => x

theorem attempt_ctl : (s.attempt n slot sof after).can[n] = s.can[n].tried sof after slot := by
  cases slot with
  | safety c => rfl
  | periodic k => rfl
  | host h => exact modCan_self ..

theorem attempt_only : CanOnly s (s.attempt n slot sof after) n := by
  cases slot with
  | safety c => exact CanOnly.refl ..
  | periodic k => exact CanOnly.refl ..
  | host h => exact (CanOnly.refl s n).modCan _

theorem tried_counts {x : CanCtl} : (x.tried sof after slot).bus = x.bus ∧ (x.tried sof after slot).tec = x.tec ∧ (x.tried sof after slot).rec' = x.rec' ∧
    (x.tried sof after slot).same = x.same ∧ (x.tried sof after slot).busOffs = x.busOffs ∧ (x.tried sof after slot).txSaf = x.txSaf ∧
    (x.tried sof after slot).txPer = x.txPer := by
  cases slot <;> exact ⟨rfl, rfl, rfl, rfl, rfl, rfl, rfl⟩

theorem tried_host {x : CanCtl} (h : Fin 4) : (x.tried sof after (.host h)).host[h] = x.host[h].tried sof after := vset_self ..

theorem sameEnd_none (h : s.sameOf n slot = none) (how : Nat) : s.sameEnd n slot how = s := by
  unfold State.sameEnd
  rw [h]

theorem sameOf_nil (h : s.can[n].same = []) : s.sameOf n slot = none := by
  unfold State.sameOf
  rw [h]
  rfl

/-! ## The counters -/

/-- A count that does not reach bus-off: a record where the state of the bus changes. -/
theorem canCount_below {tec rc : Nat} (h : s.can[n].tec < 256 → tec < 256) :
    CanOnly s (s.canCount n tec rc) n ∧ (s.canCount n tec rc).can[n] = { s.can[n] with tec := tec, rec' := rc } ∧
      s.canCount n tec rc =
        (if ({ s.can[n] with tec := tec, rec' := rc } : CanCtl).bus = s.can[n].bus then s.modCan n fun x => { x with tec := tec, rec' := rc }
        else (s.modCan n fun x => { x with tec := tec, rec' := rc }).canEvent n s.tb 0x1001 ({ s.can[n] with tec := tec, rec' := rc } : CanCtl).bus
          (min tec 255 + min rc 255 * 256)) := by
  have hno : (decide (s.can[n].tec < 256) && decide (256 ≤ tec) && decide (s.can[n].bus ≤ 1)) = false := by
    by_cases hlt : s.can[n].tec < 256
    · rw [decide_eq_false (p := 256 ≤ tec) (Nat.not_le.2 (h hlt)), Bool.and_false, Bool.false_and]
    · rw [decide_eq_false hlt, Bool.false_and, Bool.false_and]
  have heq : s.canCount n tec rc =
        (if ({ s.can[n] with tec := tec, rec' := rc } : CanCtl).bus = s.can[n].bus then s.modCan n fun x => { x with tec := tec, rec' := rc }
        else (s.modCan n fun x => { x with tec := tec, rec' := rc }).canEvent n s.tb 0x1001 ({ s.can[n] with tec := tec, rec' := rc } : CanCtl).bus
          (min tec 255 + min rc 255 * 256)) := by
    unfold State.canCount
    dsimp only
    rw [hno, if_neg Bool.false_ne_true, modCan_self]
    rfl
  have hown := (CanOnly.refl s n).modCan fun x => { x with tec := tec, rec' := rc }
  have hself := modCan_self s n fun x => { x with tec := tec, rec' := rc }
  refine ⟨?_, ?_, heq⟩
  · rw [heq]
    split
    · exact hown
    · exact hown.next (Frame.canEvent ..)
  · rw [heq]
    split
    · exact hself
    · exact (congrArg (fun v => v[n]) ((Frame.canEvent ..).keep .can (by decide))).trans hself

/-- Bus-off: every pending frame ends, with its record. -/
theorem canCount_busOff {tec rc : Nat} (hphase : s.pwr.phase = .running) (hlow : s.can[n].tec < 256) (hhigh : 256 ≤ tec) (hbus : s.can[n].bus ≤ 1)
    (hsame : s.can[n].same = []) :
    CanOnly s (s.canCount n tec rc) n ∧ (s.canCount n tec rc).can[n].busOff = true ∧
      (s.canCount n tec rc).can[n].busOffs = satInc 16 s.can[n].busOffs ∧ (s.canCount n tec rc).can[n].txSaf = Vector.replicate 16 none ∧
      (s.canCount n tec rc).can[n].txPer = Vector.replicate 8 none ∧
      (s.canCount n tec rc).can[n].host = s.can[n].host.map (fun h => if h.state = 1 then { h with state := 6, cancel := false } else h) ∧
      (∀ l : List Shown, ∀ r : State, Wrote r s l → s.regs = r.regs → Wrote r (s.canCount n tec rc) (l ++ [evtOf s.tb (Unit.can n) 0x1001 2 (255 + min rc 255 * 256)])) := by
  have hyes : (decide (s.can[n].tec < 256) && decide (256 ≤ tec) && decide (s.can[n].bus ≤ 1)) = true := by
    rw [decide_eq_true hlow, decide_eq_true hhigh, decide_eq_true hbus]
    rfl
  have hmin : min tec 255 = 255 := by omega
  unfold State.canCount
  dsimp only
  rw [hyes, if_pos rfl, hsame, List.foldl_nil, hmin]
  generalize hu : (s.modCan n fun x => { x with
      tec := tec, rec' := rc, busOff := true, busOffs := satInc 16 x.busOffs, recov := false
      spCnt := Vector.replicate 6 none, hvCnt := Vector.replicate 6 none
      txSaf := Vector.replicate 16 none, txPer := Vector.replicate 8 none
      host := x.host.map (fun h => if h.state = 1 then { h with state := 6, cancel := false } else h) }) = u
  have hown : CanOnly s u n := hu ▸ (CanOnly.refl s n).modCan _
  have hself : u.can[n] = { s.can[n] with
      tec := tec, rec' := rc, busOff := true, busOffs := satInc 16 s.can[n].busOffs, recov := false
      spCnt := Vector.replicate 6 none, hvCnt := Vector.replicate 6 none
      txSaf := Vector.replicate 16 none, txPer := Vector.replicate 8 none
      host := s.can[n].host.map (fun h => if h.state = 1 then { h with state := 6, cancel := false } else h) } := hu ▸ modCan_self s n _
  have htb : u.tb = s.tb := hu ▸ rfl
  have hrecs : u.recs = s.recs := hu ▸ rfl
  have F := Frame.canEvent u n u.tb 0x1001 2 (255 + min rc 255 * 256) 0
  have hcan := (congrArg (fun v => v[n]) (F.keep .can (by decide))).trans hself
  refine ⟨hown.next F, (congrArg CanCtl.busOff hcan).trans rfl, (congrArg CanCtl.busOffs hcan).trans rfl, (congrArg CanCtl.txSaf hcan).trans rfl,
    (congrArg CanCtl.txPer hcan).trans rfl, (congrArg CanCtl.host hcan).trans rfl, fun l r hl hregs => ?_⟩
  rw [← htb]
  have hwrote : Wrote r u l := by
    unfold Wrote
    rw [hrecs]
    exact hl
  exact Wrote.emit r u _ l hwrote ((congrArg Power.phase hown.pwr).trans hphase) (hown.regs.trans hregs) _ _ _ _ _ rfl


/-- The bus state of a controller that takes part in the traffic is a matter of its counters. -/
theorem bus_of_counts {x : CanCtl} (h : x.bus ≤ 1) (tec rc : Nat) :
    ({ x with tec := tec, rec' := rc } : CanCtl).bus = if 128 ≤ tec ∨ 128 ≤ rc then 1 else 0 := by
  unfold CanCtl.bus at *
  dsimp only
  by_cases hoff : x.busOff = true
  · rw [if_pos hoff] at h
    omega
  · rw [if_neg hoff] at h ⊢
    by_cases hint : (!x.started || x.integrating || x.abd.run) = true
    · rw [if_pos hint] at h
      omega
    · rw [if_neg hint]

/-- A frame sent makes a passive controller active where its transmit counter leaves 128, and else changes nothing of the bus state. -/
theorem bus_sent {x : CanCtl} (h : x.bus ≤ 1) :
    ({ x with tec := x.tec - 1, rec' := x.rec' } : CanCtl).bus = (if x.tec = 128 ∧ x.rec' < 128 then 0 else x.bus) ∧ (x.tec = 128 → x.bus = 1) := by
  have hold : x.bus = if 128 ≤ x.tec ∨ 128 ≤ x.rec' then 1 else 0 := bus_of_counts h x.tec x.rec'
  rw [bus_of_counts h, hold]
  refine ⟨?_, fun htec => if_pos (.inl (by omega))⟩
  by_cases hedge : x.tec = 128 ∧ x.rec' < 128
  · rw [if_pos hedge, if_neg (by omega)]
  · rw [if_neg hedge]
    by_cases hlow : 128 ≤ x.tec ∨ 128 ≤ x.rec'
    · rw [if_pos hlow, if_pos (by omega)]
    · rw [if_neg hlow, if_neg (by omega)]

/-! ## A frame sent -/

/-- A controller whose pending frame of a slot has been sent. -/
def CanCtl.sent (x : CanCtl) (sof : Nat) (slot : TxSlot) : CanCtl :=
  match slot with
  | .safety c => { x with txSaf := x.txSaf.set c none }
  | .periodic k => { x with txPer := x.txPer.set k none }
  | .host h => { x with host := vset x.host h fun q => q.tried sof fun q => if q.cancel then 4 else 2 }

theorem sent_counts {x : CanCtl} : (x.sent sof slot).bus = x.bus ∧ (x.sent sof slot).tec = x.tec ∧ (x.sent sof slot).rec' = x.rec' := by
  cases slot <;> exact ⟨rfl, rfl, rfl⟩

/-- The record of a frame sent. -/
def State.recordSent (s : State) (n : Fin 2) (sof : Nat) (f : TxFrame) (passive : Bool) : State :=
  if s.regs.CANn_CFG_REC_TX n then
    s.canRecord n true sof f.id f.ide f.fdf f.brs (passive && f.fdf) false 0xFF (dlcOf f.data.length) f.data
  else s

/-- A frame of a slot that is sent: its slot is free, its record is written, and the transmit counter falls. -/
theorem canSent_eq {age : Nat} (hready : s.canReady n) (hlisten : s.canListen n = false) (hsame : s.can[n].same = []) (hf : s.txFrame n slot = some f)
    (hfirst : s.canFirst n slot f (s.now - age) = true) :
    let v := (s.modCan n fun x => x.sent (s.tb - age) slot).recordSent n (s.tb - age) f (s.can[n].bus == 1)
    s.canSent n slot age = (v.modCan n fun x => { x with guard := false }).canCount n (v.can[n].tec - 1) v.can[n].rec' := by
  unfold State.canSent
  rw [hf]
  dsimp only
  rw [canOn_ready hready, hlisten, hfirst, Bool.not_false, Bool.and_true, Bool.and_true, if_pos rfl, sameEnd_none (sameOf_nil hsame)]
  cases slot <;> rfl

/-- What a frame sent leaves: its slot, the counters, and the records of the frame and of a change of the bus state. -/
theorem canSent_leaves {age : Nat} (hready : s.canReady n) (hlisten : s.canListen n = false) (hsame : s.can[n].same = []) (hf : s.txFrame n slot = some f)
    (hfirst : s.canFirst n slot f (s.now - age) = true) :
    CanOnly s (s.canSent n slot age) n ∧
      (s.canSent n slot age).can[n] = { s.can[n].sent (s.tb - age) slot with guard := false, tec := s.can[n].tec - 1, rec' := s.can[n].rec' } ∧
      Wrote s (s.canSent n slot age) ((if s.regs.CANn_CFG_REC_TX n then
          [canOf (s.tb - age) n true (b2n f.ide + 2 * b2n f.fdf + 4 * b2n f.brs + 8 * b2n (s.can[n].bus == 1 && f.fdf)) f.id 0xFF (dlcOf f.data.length) f.data]
          else []) ++
        (if s.can[n].tec = 128 ∧ s.can[n].rec' < 128 then [evtOf s.tb (Unit.can n) 0x1001 0 (127 + s.can[n].rec' * 256)] else [])) := by
  have hphase := run_phase hready.1
  have hbus := hready.2.1
  rw [canSent_eq hready hlisten hsame hf hfirst]
  dsimp only
  have hu := modCan_self s n fun x => x.sent (s.tb - age) slot
  have hown := (CanOnly.refl s n).modCan fun x => x.sent (s.tb - age) slot
  have hnone : Wrote s (s.modCan n fun x => x.sent (s.tb - age) slot) [] := Wrote.none _ _ rfl
  generalize s.modCan n (fun x => x.sent (s.tb - age) slot) = u at hu hown hnone ⊢
  -- the record of the frame
  have hrec : ∃ v, u.recordSent n (s.tb - age) f (s.can[n].bus == 1) = v ∧ CanOnly s v n ∧ v.can[n] = s.can[n].sent (s.tb - age) slot ∧
      Wrote s v (if s.regs.CANn_CFG_REC_TX n then
          [canOf (s.tb - age) n true (b2n f.ide + 2 * b2n f.fdf + 4 * b2n f.brs + 8 * b2n (s.can[n].bus == 1 && f.fdf)) f.id 0xFF (dlcOf f.data.length) f.data]
          else []) := by
    refine ⟨_, rfl, ?_⟩
    unfold State.recordSent
    rw [hown.regs]
    split
    · have F := Frame.canRecord u n true (s.tb - age) f.id f.ide f.fdf f.brs (s.can[n].bus == 1 && f.fdf) false 0xFF (dlcOf f.data.length) f.data
      exact ⟨hown.next F, (congrArg (fun v => v[n]) (F.keep .can (by decide))).trans hu,
        Wrote.emit s u _ [] hnone ((congrArg Power.phase hown.pwr).trans hphase) hown.regs _ _ _ _ _ rfl⟩
    · exact ⟨hown, hu, hnone⟩
  obtain ⟨v, hv, hvown, hvctl, hvwrote⟩ := hrec
  rw [hv]
  have hgctl := modCan_self v n fun x => { x with guard := false }
  have hgown := hvown.modCan fun x => { x with guard := false }
  have hgwrote := Wrote.next (Frame.modCan v n fun x => { x with guard := false }) (by decide) hvwrote
  generalize v.modCan n (fun x => { x with guard := false }) = g at hgctl hgown hgwrote ⊢
  rw [hvctl] at hgctl ⊢
  obtain ⟨hsbus, hstec, hsrec⟩ := sent_counts (x := s.can[n]) (sof := s.tb - age) (slot := slot)
  have hgbus : g.can[n].bus = s.can[n].bus := by rw [hgctl]; exact hsbus
  have hgtec : g.can[n].tec = s.can[n].tec := by rw [hgctl]; exact hstec
  have hgrec : g.can[n].rec' = s.can[n].rec' := by rw [hgctl]; exact hsrec
  rw [hstec, hsrec]
  obtain ⟨hcown, hcctl, hceq⟩ := canCount_below (s := g) (n := n) (tec := s.can[n].tec - 1) (rc := s.can[n].rec') (by omega)
  refine ⟨hgown.trans hcown, ?_, ?_⟩
  · rw [hcctl, hgctl]
  · obtain ⟨hafter, hedge⟩ := bus_sent (x := g.can[n]) (hgbus ▸ hbus)
    rw [hgtec, hgrec] at hafter
    rw [hgtec] at hedge
    rw [hceq, hafter]
    by_cases hback : s.can[n].tec = 128 ∧ s.can[n].rec' < 128
    · have hone := hedge hback.1
      rw [if_pos hback, if_pos hback, if_neg (by omega), show g.tb = s.tb from congrArg Clock.tb hgown.clk,
        show min (s.can[n].tec - 1) 255 + min s.can[n].rec' 255 * 256 = 127 + s.can[n].rec' * 256 by omega]
      exact Wrote.emit s _ _ _ (Wrote.next (Frame.modCan ..) (by decide) hgwrote) ((congrArg Power.phase hgown.pwr).trans hphase) hgown.regs _ _ _ _ _ rfl
    · rw [if_neg hback, if_neg hback, if_pos rfl, List.append_nil]
      exact Wrote.next (Frame.modCan ..) (by decide) hgwrote

/-! ## A frame that fails -/

/-- A failed attempt leaves the frame pending, or withdrawn where a cancel came. -/
theorem txFrame_failed (hf : s.txFrame n slot = some f) (hregs : t.regs = s.regs)
    (hsaf : t.can[n].txSaf = s.can[n].txSaf) (hper : t.can[n].txPer = s.can[n].txPer)
    (hhost : ∀ h, slot = .host h → t.can[n].host[h] = s.can[n].host[h].tried sof fun q => if q.cancel then 5 else 1) :
    t.txFrame n slot = if s.cancelling n slot then none else some f := by
  cases slot with
  | safety c =>
    show t.can[n].txSaf[c] = some f
    rw [hsaf]
    exact hf
  | periodic k =>
    show t.can[n].txPer[k] = some f
    rw [hper]
    exact hf
  | host h =>
    have hstate : t.can[n].host[h].state = if s.can[n].host[h].cancel then 5 else 1 := congrArg HostSlot.state (hhost h rfl)
    have hsince : t.can[n].host[h].since = s.can[n].host[h].since := (congrArg HostSlot.since (hhost h rfl)).trans rfl
    unfold State.txFrame at hf ⊢
    dsimp only at hf ⊢
    rw [hstate, hsince, hregs]
    show _ = if s.can[n].host[h].cancel then none else some f
    by_cases hcancel : s.can[n].host[h].cancel = true
    · rw [if_pos hcancel, if_pos hcancel]
      exact if_neg (by decide)
    · rw [if_neg hcancel, if_neg hcancel, if_pos rfl, ← hf]
      refine Eq.symm (if_pos ?_)
      by_contra hidle
      rw [if_neg hidle] at hf
      cases hf

/-- What holds where a slot has its frame first in arbitration, on a controller that sends. -/
structure Attempting (s : State) (n : Fin 2) (slot : TxSlot) (f : TxFrame) (age : Nat) : Prop where
  frame : s.txFrame n slot = some f
  ready : s.canReady n
  listen : s.canListen n = false
  same : s.can[n].same = []
  first : s.canFirst n slot f (s.now - age) = true

section
variable {age tec rc : Nat}

theorem Attempting.attempting (h : Attempting s n slot f age) : s.attempting n slot age = true := by
  unfold State.attempting
  rw [h.frame]
  exact h.first

theorem Attempting.guards (h : Attempting s n slot f age) : ¬ (s.running && s.can[n].started && s.can[n].abd.run) = true ∧
    ¬ ((!s.canOn n || s.canListen n) = true) ∧ ¬ ((!s.attempting n slot age) = true) := by
  rw [h.ready.2.2, canOn_ready h.ready, h.listen, h.attempting, Bool.and_false]
  exact ⟨Bool.false_ne_true, Bool.false_ne_true, Bool.false_ne_true⟩

/-- What the next state has of a controller whose attempt failed. -/
structure Failed (s t : State) (n : Fin 2) (slot : TxSlot) (f : TxFrame) : Prop where
  only : CanOnly s t n
  frame : t.txFrame n slot = if s.cancelling n slot then none else some f
  host : ∀ h, slot = .host h → t.can[n].host[h].state = if s.can[n].host[h].cancel then 5 else 1

theorem Failed.of_tried (hf : s.txFrame n slot = some f) (honly : CanOnly s t n) (hsaf : t.can[n].txSaf = s.can[n].txSaf)
    (hper : t.can[n].txPer = s.can[n].txPer)
    (hhost : ∀ h, slot = .host h → t.can[n].host[h] = s.can[n].host[h].tried sof fun q => if q.cancel then 5 else 1) : Failed s t n slot f :=
  ⟨honly, txFrame_failed hf honly.regs hsaf hper hhost, fun h hslot => congrArg HostSlot.state (hhost h hslot)⟩

/-- A failed attempt and its count, short of bus-off. -/
theorem failed_count (hf : s.txFrame n slot = some f) (hu : CanOnly s u n) (hctl : ∃ l, u.can[n] = { s.can[n] with same := l }) (htec : tec < 256) :
    let v := (u.failed n slot sof).canCount n tec rc
    Failed s v n slot f ∧ v.can[n].tec = tec ∧ v.can[n].rec' = rc ∧ v.can[n].same = u.can[n].same := by
  obtain ⟨l, hl⟩ := hctl
  have hactl : (u.failed n slot sof).can[n] = u.can[n].tried sof (fun q => if q.cancel then 5 else 1) slot := attempt_ctl
  have haown : CanOnly s (u.failed n slot sof) n := hu.trans attempt_only
  obtain ⟨hcown, hcctl, -⟩ := canCount_below (s := u.failed n slot sof) (n := n) (tec := tec) (rc := rc) fun _ => htec
  obtain ⟨-, -, -, hsame, -, hsaf, hper⟩ := tried_counts (x := u.can[n]) (sof := sof) (after := fun q => if q.cancel then 5 else 1) (slot := slot)
  dsimp only
  rw [hactl] at hcctl
  generalize (u.failed n slot sof).canCount n tec rc = v at hcown hcctl ⊢
  refine ⟨Failed.of_tried hf (haown.trans hcown) ?_ ?_ (sof := sof) ?_, ?_, ?_, ?_⟩
  · rw [hcctl]
    exact hsaf.trans (by rw [hl])
  · rw [hcctl]
    exact hper.trans (by rw [hl])
  · rintro h rfl
    rw [hcctl]
    refine (tried_host h).trans ?_
    rw [hl]
  · rw [hcctl]
  · rw [hcctl]
  · rw [hcctl]
    exact hsame

theorem canError_failed (h : Attempting s n slot f age) (htec : tec < 256) :
    s.canError n (.tx slot false age) tec rc = (s.failed n slot (s.tb - age)).canCount n tec rc := by
  obtain ⟨hdetect, hon, hatt⟩ := h.guards
  have hlow : ¬ 256 ≤ tec := Nat.not_le.2 htec
  unfold State.canError
  dsimp only
  rw [if_neg hdetect, if_neg hon, if_neg hatt, if_neg Bool.false_ne_true, sameEnd_none (sameOf_nil h.same), ite_self, if_neg hlow]

theorem canError_busOff (h : Attempting s n slot f age) (htec : 256 ≤ tec) :
    s.canError n (.tx slot false age) tec rc = (s.attempt n slot (s.tb - age) fun q => q.state).canCount n tec rc := by
  obtain ⟨hdetect, hon, hatt⟩ := h.guards
  unfold State.canError
  dsimp only
  rw [if_neg hdetect, if_neg hon, if_neg hatt, if_neg Bool.false_ne_true, sameEnd_none (sameOf_nil h.same), ite_self, if_pos htec]

theorem canError_arbLost (h : Attempting s n slot f age) : s.canError n (.arbLost slot age) tec rc = s.failed n slot (s.tb - age) := by
  obtain ⟨hdetect, hon, hatt⟩ := h.guards
  unfold State.canError
  dsimp only
  rw [if_neg hdetect, if_neg hon, if_neg hatt, sameEnd_none (sameOf_nil h.same), ite_self]

theorem canError_collides (h : Attempting s n slot f age) (htec : tec < 256) (hkeep : s.cancelling n slot = false) :
    s.canError n (.tx slot true age) tec rc = ((s.collide n slot (s.tb - age)).failed n slot (s.tb - age)).canCount n tec rc := by
  obtain ⟨hdetect, hon, hatt⟩ := h.guards
  have hlow : ¬ 256 ≤ tec := Nat.not_le.2 htec
  have hgo : ¬ (s.cancelling n slot = true ∧ tec < 256) := fun hstop => Bool.false_ne_true (hkeep.symm.trans hstop.1)
  unfold State.canError
  dsimp only
  rw [if_neg hdetect, if_neg hon, if_neg hatt, if_pos rfl, if_neg hgo, if_neg hlow]

theorem collide_first (h : s.can[n].same = []) : (s.collide n slot sof).can[n] = { s.can[n] with same := [⟨slot, sof, 1⟩] } := by
  unfold State.collide
  dsimp only
  rw [modCan_self, h]
  rfl

theorem arbLost_leaves (h : Attempting s n slot f age) :
    Failed s (s.failed n slot (s.tb - age)) n slot f ∧ (s.failed n slot (s.tb - age)).can[n].tec = s.can[n].tec := by
  have hctl : (s.failed n slot (s.tb - age)).can[n] = s.can[n].tried (s.tb - age) (fun q => if q.cancel then 5 else 1) slot := attempt_ctl
  obtain ⟨-, htec, -, -, -, hsaf, hper⟩ := tried_counts (x := s.can[n]) (sof := s.tb - age) (after := fun q => if q.cancel then 5 else 1) (slot := slot)
  refine ⟨Failed.of_tried h.frame attempt_only ?_ ?_ (sof := s.tb - age) ?_, ?_⟩
  · rw [hctl]
    exact hsaf
  · rw [hctl]
    exact hper
  · rintro k rfl
    rw [hctl]
    exact tried_host k
  · rw [hctl]
    exact htec

theorem bus_busOff {x : CanCtl} (h : x.busOff = true) : x.bus = 2 := if_pos h

theorem busOff_leaves (h : Attempting s n slot f age) (hlow : s.can[n].tec < 256) (hhigh : 256 ≤ tec) :
    let t := (s.attempt n slot (s.tb - age) fun q => q.state).canCount n tec rc
    CanOnly s t n ∧ t.can[n].busOff = true ∧ t.can[n].busOffs = satInc 16 s.can[n].busOffs ∧ t.txFrame n slot = none ∧
      (∀ h : Fin 4, s.can[n].host[h].state = 1 → t.can[n].host[h].state = 6) ∧
      Wrote s t [evtOf s.tb (Unit.can n) 0x1001 2 (255 + min rc 255 * 256)] := by
  have hactl : (s.attempt n slot (s.tb - age) fun q => q.state).can[n] = s.can[n].tried (s.tb - age) (fun q => q.state) slot := attempt_ctl
  have haown : CanOnly s (s.attempt n slot (s.tb - age) fun q => q.state) n := attempt_only
  have hawrote : Wrote s (s.attempt n slot (s.tb - age) fun q => q.state) [] := Wrote.next (Frame.attempt ..) (by decide) (Wrote.none s s rfl)
  obtain ⟨hbus, htec, -, hsame, hoffs, -, -⟩ := tried_counts (x := s.can[n]) (sof := s.tb - age) (after := fun q => q.state) (slot := slot)
  have hstate : ∀ h : Fin 4, (s.can[n].tried (s.tb - age) (fun q => q.state) slot).host[h].state = s.can[n].host[h].state := by
    intro k
    cases slot with
    | safety c => rfl
    | periodic j => rfl
    | host l =>
      by_cases hl : l = k
      · subst hl
        exact (congrArg HostSlot.state (tried_host l)).trans rfl
      · exact congrArg HostSlot.state (vset_ne _ _ _ _ hl)
  generalize (s.attempt n slot (s.tb - age) fun q => q.state) = u at hactl haown hawrote ⊢
  have htb : u.tb = s.tb := congrArg Clock.tb haown.clk
  obtain ⟨hcown, hoff, hcoffs, hsaf, hper, hhost, hwrote⟩ := canCount_busOff (s := u) (n := n) (tec := tec) (rc := rc)
    ((congrArg Power.phase haown.pwr).trans (run_phase h.ready.1)) (by rw [hactl, htec]; exact hlow) hhigh (by rw [hactl, hbus]; exact h.ready.2.1)
    (by rw [hactl, hsame]; exact h.same)
  dsimp only
  have hw := hwrote [] s hawrote haown.regs
  rw [htb] at hw
  have hsix : ∀ k : Fin 4, (u.canCount n tec rc).can[n].host[k].state = if s.can[n].host[k].state = 1 then 6 else s.can[n].host[k].state := by
    intro k
    rw [hhost, Fin.getElem_fin, Vector.getElem_map, hactl]
    have hk : (s.can[n].tried (s.tb - age) (fun q => q.state) slot).host[k.val].state = s.can[n].host[k].state := hstate k
    rw [hk]
    split
    · rfl
    · exact hk
  refine ⟨haown.trans hcown, hoff, hcoffs.trans ?_, ?_, fun k hk => ?_, hw⟩
  · rw [hactl, hoffs]
  · cases slot with
    | safety c =>
      show (u.canCount n tec rc).can[n].txSaf[c] = none
      rw [hsaf]
      exact Vector.getElem_replicate ..
    | periodic k =>
      show (u.canCount n tec rc).can[n].txPer[k] = none
      rw [hper]
      exact Vector.getElem_replicate ..
    | host k =>
      unfold State.txFrame
      dsimp only
      refine if_neg ?_
      rw [hsix]
      split <;> omega
  · rw [hsix, if_pos hk]

end

/-! ## Which frame goes first -/

theorem mem_txSlots (q : TxSlot) : q ∈ txSlots := by
  unfold txSlots
  cases q with
  | safety c => exact List.mem_append_left _ (List.mem_append_left _ (List.mem_map_of_mem (List.mem_finRange c)))
  | periodic k => exact List.mem_append_left _ (List.mem_append_right _ (List.mem_map_of_mem (List.mem_finRange k)))
  | host h => exact List.mem_append_right _ (List.mem_map_of_mem (List.mem_finRange h))

/-- The place of a slot among equal identifiers. -/
def txPlace : TxSlot → Nat
  | .safety c => c
  | .periodic k => 16 + k
  | .host h => 24 + h

theorem idxOf_txSlots (q : TxSlot) : txSlots.idxOf q = txPlace q := by
  have hsaf : ∀ c : Fin 16, txSlots.idxOf (.safety c) = c.val := by decide
  have hper : ∀ k : Fin 8, txSlots.idxOf (.periodic k) = 16 + k.val := by decide
  have hhost : ∀ h : Fin 4, txSlots.idxOf (.host h) = 24 + h.val := by decide
  cases q with
  | safety c => exact hsaf c
  | periodic k => exact hper k
  | host h => exact hhost h

/-- A frame that waits with a lower place in arbitration, or with the same one in an earlier slot, goes first. -/
theorem canFirst_beaten {q : TxSlot} {g : TxFrame} (hg : s.txFrame n q = some g) (hbefore : g.since < sof)
    (hkey : arbKey g.id g.ide < arbKey f.id f.ide ∨ arbKey g.id g.ide = arbKey f.id f.ide ∧ txPlace q < txPlace slot) (hne : q ≠ slot) :
    s.canFirst n slot f sof = false := by
  unfold State.canFirst
  refine List.all_eq_false.2 ⟨q, mem_txSlots q, ?_⟩
  rw [hg]
  simp only [idxOf_txSlots, Bool.or_eq_true, Bool.and_eq_true, beq_iff_eq, decide_eq_true_eq]
  rintro (((h | h) | h) | ⟨h, h'⟩)
  · exact hne h
  · omega
  · omega
  · omega

theorem arbKey_precedes {i j : Nat} {a b : Bool} (h : (a = b ∧ i < j) ∨ (a = false ∧ b = true ∧ i ≤ j / 0x40000) ∨ (a = true ∧ b = false ∧ i / 0x40000 < j)) :
    arbKey i a < arbKey j b := by
  unfold arbKey
  rcases h with ⟨rfl, h⟩ | ⟨rfl, rfl, h⟩ | ⟨rfl, rfl, h⟩
  · cases a <;> simp only [Bool.false_eq_true, if_true, if_false] <;> omega
  · simp only [Bool.false_eq_true, if_true, if_false]
    omega
  · simp only [Bool.false_eq_true, if_true, if_false]
    omega

theorem place_precedes {q : TxSlot} (h : (∃ c d, q = .safety c ∧ slot = .safety d ∧ c < d) ∨ (∃ c k, q = .safety c ∧ slot = .periodic k) ∨
    (∃ k l, q = .periodic k ∧ slot = .periodic l ∧ k < l) ∨ (∃ h, slot = .host h ∧ ∀ l, q = .host l → l < h)) : txPlace q < txPlace slot := by
  rcases h with ⟨c, d, rfl, rfl, hlt⟩ | ⟨c, k, rfl, rfl⟩ | ⟨k, l, rfl, rfl, hlt⟩ | ⟨h, rfl, hlt⟩
  · exact hlt
  · show c.val < 16 + k.val
    omega
  · show 16 + k.val < 16 + l.val
    have : k.val < l.val := hlt
    omega
  · cases q with
    | safety c => show c.val < 24 + h.val; omega
    | periodic k => show 16 + k.val < 24 + h.val; omega
    | host l =>
      have : l.val < h.val := hlt l rfl
      show 24 + l.val < 24 + h.val
      omega

theorem canSent_notFirst {age : Nat} (hf : s.txFrame n slot = some f) (hfirst : s.canFirst n slot f (s.now - age) = false) : s.canSent n slot age = s := by
  unfold State.canSent
  rw [hf]
  dsimp only
  rw [hfirst, Bool.and_false, if_neg Bool.false_ne_true]

theorem canError_notFirst {age tec rc : Nat} {kind : CanErr} (hf : s.txFrame n slot = some f) (hfirst : s.canFirst n slot f (s.now - age) = false)
    (hdetect : s.can[n].abd.run = false) (hkind : (∃ b, kind = .tx slot b age) ∨ kind = .arbLost slot age) : s.canError n kind tec rc = s := by
  have hno : (!s.attempting n slot age) = true := by
    unfold State.attempting
    rw [hf]
    dsimp only
    rw [hfirst]
    rfl
  unfold State.canError
  rw [hdetect, Bool.and_false, if_neg Bool.false_ne_true]
  split
  · rfl
  · obtain ⟨b, rfl⟩ | rfl := hkind
    · exact if_pos hno
    · exact if_pos hno

/-! ## The commands of a host slot and of a controller -/

section
variable {c : Ctx} {h : Fin 4}

theorem bind_of_sends (hsends : s.canSends n = true) : s.regs.CANn_CFG_BIND n ≠ 0 := by
  intro hzero
  unfold State.canSends at hsends
  rw [hzero] at hsends
  cases hsends

theorem doCanHost_send (hholds : s.holds c.o = true) (hidle : s.can[n].host[h].state ≠ 1) (hsends : s.canSends n = true) :
    doCanHost n h c s 1 = ack (s.modCan n fun x => { x with host := x.host.set h { state := 1, since := s.now } }) := by
  have h0 : bit 1 0 = true := by decide
  have h1 : bit 1 1 = false := by decide
  refine (needRights_holder hholds).trans ?_
  dsimp only
  rw [h0, h1, hsends, if_neg (fun hno => hno.elim (bind_of_sends hsends) fun hbusy => hbusy.2.elim hidle (fun hoff => by cases hoff)), Bool.false_and, if_neg Bool.false_ne_true, if_pos rfl]

theorem doCanHost_send_refused (hholds : s.holds c.o = true) (hno : s.can[n].host[h].state = 1 ∨ s.canSends n = false) :
    doCanHost n h c s 1 = nak s St.state := by
  have h0 : bit 1 0 = true := by decide
  refine (needRights_holder hholds).trans (if_pos (.inr ⟨h0, ?_⟩))
  rcases hno with h | h
  · exact .inl h
  · rw [h]
    exact .inr rfl

theorem doCanHost_unbound (hholds : s.holds c.o = true) (hzero : s.regs.CANn_CFG_BIND n = 0) (w : Word) : doCanHost n h c s w = nak s St.state :=
  (needRights_holder hholds).trans (if_pos (.inl hzero))

theorem doCanHost_cancel_idle (hholds : s.holds c.o = true) (hbind : s.regs.CANn_CFG_BIND n ≠ 0) (hidle : s.can[n].host[h].state ≠ 1) :
    doCanHost n h c s 2 = ack s := by
  have h0 : bit 2 0 = false := by decide
  have h1 : bit 2 1 = true := by decide
  refine (needRights_holder hholds).trans ?_
  dsimp only
  rw [h0, h1, if_neg (by simp [hbind]), if_neg Bool.false_ne_true, beq_eq_false_iff_ne.2 hidle, Bool.and_false, if_neg Bool.false_ne_true]

/-- A pending frame is withdrawn, or where its attempt runs already that attempt is its last. -/
theorem doCanHost_cancel_pending (hholds : s.holds c.o = true) (hbind : s.regs.CANn_CFG_BIND n ≠ 0) (hpend : s.can[n].host[h].state = 1)
    (hsame : s.sameOf n (.host h) = none) :
    doCanHost n h c s 2 = ack ((s.onFreeIx (· + 1)).modCan n fun x => { x with host := vset x.host h fun q => { q with state := 3 } }) ∨
    (s.can[n].bus ≤ 1 ∧
      doCanHost n h c s 2 = ack ((s.onFreeIx (· + 1)).modCan n fun x => { x with host := vset x.host h fun q => { q with cancel := true } })) := by
  have h0 : bit 2 0 = false := by decide
  have h1 : bit 2 1 = true := by decide
  have heq : doCanHost n h c s 2 = if Config.freeBool s.freeIx && s.canOn n then
      ack ((s.onFreeIx (· + 1)).modCan n fun x => { x with host := vset x.host h fun q => { q with cancel := true } })
      else ack (((s.onFreeIx (· + 1)).sameEnd n (.host h) 2).modCan n fun x => { x with host := vset x.host h fun q => { q with state := 3 } }) := by
    refine (needRights_holder hholds).trans ?_
    dsimp only
    rw [h0, h1, if_neg (by simp [hbind]), if_neg Bool.false_ne_true, beq_iff_eq.2 hpend, Bool.and_true, if_pos rfl]
    rfl
  have hend : (s.onFreeIx (· + 1)).sameEnd n (.host h) 2 = s.onFreeIx (· + 1) := sameEnd_none (s := s.onFreeIx (· + 1)) hsame 2
  by_cases hrun : (Config.freeBool s.freeIx && s.canOn n) = true
  · rw [if_pos hrun] at heq
    have hon : s.canOn n = true := (Bool.and_eq_true_iff.1 hrun).2
    exact .inr ⟨of_decide_eq_true (Bool.and_eq_true_iff.1 hon).2, heq⟩
  · rw [if_neg hrun, hend] at heq
    exact .inl heq

theorem doCanCmd_recover (hmay : s.may true c.o = true) (hbind : s.regs.CANn_CFG_BIND n ≠ 0) (hoff : s.can[n].busOff = true) :
    doCanCmd n c s 1 = ack (s.modCan n fun x => { x with recov := true }) := by
  have h0 : bit 1 0 = true := by decide
  have h1 : bit 1 1 = false := by decide
  refine (needRights_may' true c s _ hmay).trans ?_
  dsimp only
  rw [h0, h1, hoff, if_neg (by simp [hbind]), if_neg Bool.false_ne_true, if_pos rfl]

theorem doCanCmd_recover_refused (hmay : s.may true c.o = true) (hoff : s.can[n].busOff = false) : doCanCmd n c s 1 = nak s St.state := by
  have h0 : bit 1 0 = true := by decide
  refine (needRights_may' true c s _ hmay).trans (if_pos (.inr ⟨h0, ?_⟩))
  rw [hoff]
  rfl

end

end

section
variable {s : State} {dt : Nat} {n : Fin 2} {slot : TxSlot} {f : TxFrame} {age tec rc : Nat}

/-! ## The commands of the traffic -/

theorem Failed.settle {t : State} (h : Failed (s.advance dt) t n slot f) : OnlyCan s t.settle dt n ∧
    t.settle.txFrame n slot = (if s.cancelling n slot then none else some f) ∧
    (∀ k, slot = .host k → t.settle.can[n].host[k].state = if s.can[n].host[k].cancel then 5 else 1) :=
  ⟨h.only.settle, h.frame, h.host⟩

theorem exec_canFrameSent (h : Attempting (s.advance dt) n slot f age) : ∃ t, exec (.canFrameSent dt n slot age) s = .next t ∧ OnlyCan s t dt n ∧
    t.can[n].tec = s.can[n].tec - 1 ∧
    (∀ h, slot = .host h → t.can[n].host[h].state = (if s.can[n].host[h].cancel then 4 else 2) ∧ t.can[n].host[h].stamp = s.tbAt dt - age ∧
      t.can[n].host[h].attempts = satInc 8 s.can[n].host[h].attempts) ∧
    (∀ c, slot = .safety c → t.can[n].txSaf = s.can[n].txSaf.set c none) ∧ (∀ k, slot = .periodic k → t.can[n].txPer = s.can[n].txPer.set k none) ∧
    Wrote s t ((if s.regs.CANn_CFG_REC_TX n then [canOf (s.tbAt dt - age) n true (b2n f.ide + 2 * b2n f.fdf + 4 * b2n f.brs + 8 * b2n (s.can[n].bus == 1 && f.fdf)) f.id
        0xFF (dlcOf f.data.length) f.data] else []) ++
      (if s.can[n].tec = 128 ∧ s.can[n].rec' < 128 then [evtOf (s.tbAt dt) (Unit.can n) 0x1001 0 (127 + s.can[n].rec' * 256)] else [])) := by
  obtain ⟨honly, hctl, hwrote⟩ := canSent_leaves h.ready h.listen h.same h.frame h.first
  generalize hv : (s.advance dt).canSent n slot age = v at honly hctl hwrote
  refine ⟨v.settle, ?_, honly.settle, ?_, ?_, ?_, ?_, hwrote⟩
  · exact exec_next_of rfl hv
  · show v.can[n].tec = _
    rw [hctl]
    rfl
  · rintro k rfl
    have hhost : v.can[n].host[k] = s.can[n].host[k].tried (s.tbAt dt - age) fun q => if q.cancel then 4 else 2 := by
      rw [hctl]
      exact vset_self ..
    exact ⟨(congrArg HostSlot.state hhost).trans rfl, (congrArg HostSlot.stamp hhost).trans rfl, (congrArg HostSlot.attempts hhost).trans rfl⟩
  · rintro c rfl
    show v.can[n].txSaf = _
    rw [hctl]
    rfl
  · rintro k rfl
    show v.can[n].txPer = _
    rw [hctl]
    rfl

theorem exec_canError_failed (h : Attempting (s.advance dt) n slot f age) (htec : tec < 256) : ∃ t, exec (.canError dt n (.tx slot false age) tec rc) s = .next t ∧
    OnlyCan s t dt n ∧ t.can[n].tec = tec ∧ t.can[n].rec' = rc ∧ t.txFrame n slot = (if s.cancelling n slot then none else some f) ∧
    (∀ h, slot = .host h → t.can[n].host[h].state = (if s.can[n].host[h].cancel then 5 else 1)) := by
  obtain ⟨hfailed, hctec, hcrec, -⟩ := failed_count (s := s.advance dt) (u := s.advance dt) (sof := (s.advance dt).tb - age) (rc := rc) h.frame (CanOnly.refl _ n)
    ⟨_, rfl⟩ htec
  obtain ⟨honly, hframe, hhost⟩ := hfailed.settle
  exact ⟨_, exec_next_of rfl (canError_failed h htec), honly, hctec, hcrec, hframe, hhost⟩

theorem exec_canError_busOff (h : Attempting (s.advance dt) n slot f age) (hlow : s.can[n].tec < 256) (hhigh : 256 ≤ tec) :
    ∃ t, exec (.canError dt n (.tx slot false age) tec rc) s = .next t ∧ OnlyCan s t dt n ∧
      t.can[n].busOff = true ∧ t.can[n].bus = 2 ∧ t.can[n].busOffs = satInc 16 s.can[n].busOffs ∧ t.txFrame n slot = none ∧
      (∀ h : Fin 4, s.can[n].host[h].state = 1 → t.can[n].host[h].state = 6) ∧
      Wrote s t [evtOf (s.tbAt dt) (Unit.can n) 0x1001 2 (255 + min rc 255 * 256)] := by
  obtain ⟨honly, hoff, hoffs, hframe, hhost, hwrote⟩ := busOff_leaves (rc := rc) h hlow hhigh
  exact ⟨_, exec_next_of rfl (canError_busOff h hhigh), honly.settle, hoff, bus_busOff hoff, hoffs, hframe, hhost, hwrote⟩

theorem exec_canError_arbLost (h : Attempting (s.advance dt) n slot f age) : ∃ t, exec (.canError dt n (.arbLost slot age) tec rc) s = .next t ∧ OnlyCan s t dt n ∧
    t.can[n].tec = s.can[n].tec ∧ t.txFrame n slot = (if s.cancelling n slot then none else some f) := by
  obtain ⟨hfailed, hctec⟩ := arbLost_leaves h
  obtain ⟨honly, hframe, -⟩ := hfailed.settle
  exact ⟨_, exec_next_of rfl (canError_arbLost h), honly, hctec, hframe⟩

theorem exec_canError_collides (h : Attempting (s.advance dt) n slot f age) (htec : tec < 256) (hkeep : s.cancelling n slot = false) :
    ∃ t, exec (.canError dt n (.tx slot true age) tec rc) s = .next t ∧ OnlyCan s t dt n ∧ t.can[n].same = [⟨slot, s.tbAt dt - age, 1⟩] := by
  have hctl := collide_first (slot := slot) (sof := (s.advance dt).tb - age) h.same
  have honly : CanOnly (s.advance dt) ((s.advance dt).collide n slot ((s.advance dt).tb - age)) n := (CanOnly.refl _ n).modCan _
  obtain ⟨hfailed, -, -, hsame⟩ := failed_count (s := s.advance dt) (sof := (s.advance dt).tb - age) (rc := rc) h.frame honly ⟨_, hctl⟩ htec
  obtain ⟨honly, -, -⟩ := hfailed.settle
  refine ⟨_, exec_next_of rfl (canError_collides h htec hkeep), honly, hsame.trans ?_⟩
  rw [hctl]
  rfl

theorem exec_can_waits {q : TxSlot} {g : TxFrame} {c : Instr} (hf : s.txFrame n slot = some f) (hg : s.txFrame n q = some g) (hdetect : s.can[n].abd.run = false)
    (hbefore : g.since < (s.advance dt).now - age)
    (hkey : arbKey g.id g.ide < arbKey f.id f.ide ∨ arbKey g.id g.ide = arbKey f.id f.ide ∧ txPlace q < txPlace slot)
    (hc : c = .canFrameSent dt n slot age ∨ (∃ b tec rc, c = .canError dt n (.tx slot b age) tec rc) ∨ (∃ tec rc, c = .canError dt n (.arbLost slot age) tec rc)) :
    exec c s = .next (s.advance dt).settle := by
  have hne : q ≠ slot := by
    rintro rfl
    have hfg : f = g := Option.some.inj (hf.symm.trans hg)
    subst hfg
    omega
  have hfirst : (s.advance dt).canFirst n slot f ((s.advance dt).now - age) = false := canFirst_beaten (s := s.advance dt) hg hbefore hkey hne
  obtain rfl | ⟨b, tec, rc, rfl⟩ | ⟨tec, rc, rfl⟩ := hc
  · exact exec_next_of rfl (canSent_notFirst (s := s.advance dt) hf hfirst)
  · exact exec_next_of rfl (canError_notFirst (s := s.advance dt) hf hfirst hdetect (.inl ⟨b, rfl⟩))
  · exact exec_next_of rfl (canError_notFirst (s := s.advance dt) hf hfirst hdetect (.inr rfl))

theorem exec_canPeriodic {k : Fin 8} {ax : Fin 6} (hrun : s.running = true) (hstarted : s.can[n].started = true) (hon : s.can[n].busOff = false)
    (hsends : s.canSends n = true) (hen : s.regs.CANn_TXPk_CFG_EN n k = true) (hax : s.regs.CANn_TXPk_CFG_AXIS n k = ax.val)
    (hper : 0 < nsOf (s.regs.CANn_TXPk_PER n k)) (hdue : s.tbAt dt % nsOf (s.regs.CANn_TXPk_PER n k) = 0) :
    ∃ t, exec (.canPeriodicTx dt n k) s = .next t ∧
      t.but s = { s.advance dt with can := vset s.can n (fun y => { y with txPer := y.txPer.set k (some ((s.advance dt).statusFrame n k ax)) }) } :=
  ⟨_, exec_next_of rfl (canPeriodic_due (s := s.advance dt) hrun hstarted hon hsends hen hax hper hdue), rfl⟩

end

/-- Settles O48: filters and records, rate detection, the status messages, the frames sent, their order and their failures, and the host slots. -/
theorem canTraffic : Obligations.CanTraffic := by
  unfold Obligations.CanTraffic
  intro s dt n hrun
  have hphase : (s.advance dt).pwr.phase = .running := run_phase hrun
  refine ⟨fun f k hconn hk hhit hfirst => canRole_filtered hconn hk hhit hfirst, fun f hready => ⟨fun c hrole => ?_, fun k role rec' hrole h1 h2 => ?_, fun hrole => ?_⟩,
    fun f c hstarted hdetect hc => ⟨fun hok => ?_, fun hok => ?_⟩, fun hdetect hover => ?_, fun hstarted hint => ?_, fun hstarted => ?_,
    fun k ax hstarted hon hsends hen hax => ⟨fun hper hdue => ?_, fun hoff => ?_⟩, fun slot age f hf hready hlisten hsame hfirst => ?_,
    fun slot q age f g hf hg hdetect hbefore horder c hc => ?_, fun o h hw hholds => ⟨fun hidle hsends => ?_, fun hno => ?_, fun hzero => ?_, fun hbind hidle => ?_,
      fun hbind hpend hsame => ?_⟩, fun o hw hmay => ⟨fun hbind hoff => ?_, fun hoff => ?_⟩, fun hoff hrecov => ?_⟩
  · obtain ⟨honly, henv, hover, hwrote⟩ := canEnvelope_leaves (c := c) (b := f.data) (stamp := s.tbAt dt - f.sofAge) (canGood_heard (s.advance dt) n)
    exact ⟨_, exec_next_of (exec_canEnvelope hready hrole) rfl, honly.settle, henv, hover, hwrote⟩
  · obtain ⟨d, hd, hheard⟩ := heard_filtered (f := f) (k := k) (role := role) (stamp := s.tbAt dt - f.sofAge) (rec' := rec') (n := n) hphase
    obtain ⟨r, hr⟩ := hheard.ctl
    exact ⟨_, d, exec_next_of (exec_canRecordFrame hready hrole h1 h2) rfl, hheard.only.settle, (congrArg CanCtl.env hr).trans rfl, hd, hheard.wrote⟩
  · have hheard := canGood_heard (s.advance dt) n
    obtain ⟨r, hr⟩ := hheard.ctl
    exact ⟨_, exec_next_of (exec_canRecord_unmatched hready hrole) rfl, hheard.only.settle, (congrArg CanCtl.env hr).trans rfl, hheard.wrote⟩
  · exact ⟨_, exec_next_of (exec_detects hrun hstarted hdetect hc) (abdGood_first (s := s.advance dt) hok), rfl⟩
  · exact ⟨_, exec_next_of (exec_detects hrun hstarted hdetect hc) (abdGood_second (s := s.advance dt) hok), (but_event ..).trans rfl,
      (Wrote.event_one hphase).settle⟩
  · obtain ⟨honly, hcand, hok, hsince, hkeep, hnote, hnone⟩ := abdNext_leaves (n := n) hphase
    exact ⟨_, exec_next_of rfl (abdDwell_over (s := s.advance dt) hrun hdetect hover), hcand, hok, hsince, hkeep.trans hdetect, honly.settle, hnote, hnone⟩
  · exact ⟨_, exec_next_of rfl (canIntegrated_eq (s := s.advance dt) hrun hstarted hint), rfl⟩
  · exact ⟨_, exec_next_of rfl (txdGuard_eq (s := s.advance dt) hrun hstarted), rfl⟩
  · obtain ⟨t, hexec, hbut⟩ := exec_canPeriodic (dt := dt) hrun hstarted hon hsends hen hax hper hdue
    refine ⟨t, _, hexec, rfl, hbut, rfl, rfl, rfl, fun hprof => ⟨?_, ?_⟩, fun hprof => ⟨?_, ?_⟩⟩
    · show (!s.regs.CANn_CFG_PROFILE n && s.regs.CANn_CFG_BRS n) = _
      rw [hprof]
      rfl
    · exact statusMsg_native (s := s.advance dt) hprof
    · show (!s.regs.CANn_CFG_PROFILE n && s.regs.CANn_CFG_BRS n) = _
      rw [hprof]
      rfl
    · exact statusMsg_heritage (s := s.advance dt) hprof
  · exact ⟨_, exec_next_of rfl (canPeriodic_between (s := s.advance dt) hoff), rfl⟩
  · have h : Attempting (s.advance dt) n slot f age := ⟨hf, hready, hlisten, hsame, hfirst⟩
    refine ⟨exec_canFrameSent h, ?_, fun tec rc hlow hhigh => exec_canError_busOff h hlow hhigh, fun tec rc => exec_canError_arbLost h,
      fun tec rc htec hkeep => exec_canError_collides h htec hkeep⟩
    rintro tec rc htec c rfl
    exact exec_canError_failed h htec
  · refine ⟨_, exec_can_waits hf hg hdetect hbefore ?_ hc, rfl⟩
    rcases horder with h | h | h | ⟨hide, hid, hplace⟩
    · exact .inl (arbKey_precedes (.inl h))
    · exact .inl (arbKey_precedes (.inr (.inl h)))
    · exact .inl (arbKey_precedes (.inr (.inr h)))
    · refine .inr ⟨?_, place_precedes hplace⟩
      rw [hide, hid]
  · exact ⟨_, exec_write_ack rfl hw (doCanHost_send (s := s.advance dt) (c := (s.advance dt).ctx o 2) hholds hidle hsends), rfl⟩
  · exact exec_write_refused_only rfl hw (doCanHost_send_refused (s := s.advance dt) (c := (s.advance dt).ctx o 2) hholds hno)
  · exact exec_write_refused_only rfl hw (doCanHost_unbound (s := s.advance dt) (c := (s.advance dt).ctx o 2) hholds hzero 2)
  · exact ⟨_, exec_write_ack rfl hw (doCanHost_cancel_idle (s := s.advance dt) (c := (s.advance dt).ctx o 2) hholds hbind hidle), rfl⟩
  · rcases doCanHost_cancel_pending (s := s.advance dt) (c := (s.advance dt).ctx o 2) hholds hbind hpend hsame with hdo | ⟨hbus, hdo⟩
    · exact ⟨_, exec_write_ack rfl hw hdo, .inl rfl⟩
    · exact ⟨_, exec_write_ack rfl hw hdo, .inr ⟨hbus, rfl⟩⟩
  · exact ⟨_, exec_write_ack rfl hw (doCanCmd_recover (s := s.advance dt) (c := (s.advance dt).ctx o 2) hmay hbind hoff), rfl⟩
  · exact exec_write_refused_only rfl hw (doCanCmd_recover_refused (s := s.advance dt) (c := (s.advance dt).ctx o 2) hmay hoff)
  · exact ⟨_, exec_next_of rfl (canRecovered_eq (s := s.advance dt) hrun hoff hrecov), (but_event ..).trans rfl, (Wrote.event_one hphase).settle⟩

end Sys2Proof.Machine
end

section
/-! PROOF. Rings and work SRAM (R448 to R456): a record enters its ring or is lost, writes and reads of work SRAM, FETCH. -/
set_option Elab.async false

namespace Sys2Proof.Machine

section
variable {s t u : State} {dt : Nat} {k : Fin 32}

/-! ## One ring, one channel, the bytes of work SRAM -/

theorem modRing_self (s : State) (k : Fin 32) (f : RingSt → RingSt) : (s.modRing k f).sip.rings[k] = f s.sip.rings[k] := vset_self ..

theorem modRing_other (s : State) {j k : Fin 32} (f : RingSt → RingSt) (h : j ≠ k) : (s.modRing k f).sip.rings[j] = s.sip.rings[j] := vset_ne _ _ _ _ (Ne.symm h)

theorem modCh_self (s : State) (c : Fin 32) (f : ChSt → ChSt) : (s.modCh c f).sip.chs[c] = f s.sip.chs[c] := vset_self ..

theorem modCh_other (s : State) {c d : Fin 32} (f : ChSt → ChSt) (h : d ≠ c) : (s.modCh c f).sip.chs[d] = s.sip.chs[d] := vset_ne _ _ _ _ (Ne.symm h)

theorem sramAt_congr (h : t.sip.sram = s.sip.sram) (a : Nat) : t.sramAt a = s.sramAt a := congrArg (fun m => cellGet (fun _ => 0) m a) h

theorem sramWrite_put (s : State) (a : Nat) (bs : List Byte) : SramPut s (s.sramWrite a bs) a bs := by
  intro i
  refine (cellGet_putRange (fun _ => (0 : Byte)) a bs s.sip.sram i).trans ?_
  rw [List.getD_eq_getElem?_getD]
  rfl

/-! ## Bytes of a ring -/

theorem ringPut_split (s : State) (k : Fin 32) (pos : Nat) (bs : List Byte) :
    ∃ v o n, o = pos % s.ringSize k ∧ n = s.ringSize k - o ∧ SramPut s v ((s.regs.RNG_r_BASE k).toNat + o) (bs.take n) ∧
      SramPut v (s.ringPut k pos bs) (s.regs.RNG_r_BASE k).toNat (bs.drop n) :=
  ⟨s.sramWrite ((s.regs.RNG_r_BASE k).toNat + pos % s.ringSize k) (bs.take (s.ringSize k - pos % s.ringSize k)), _, _, rfl, rfl,
    sramWrite_put _ _ _, sramWrite_put _ _ _⟩

theorem ringSize_pos (s : State) (r : Nat) : 0 < s.ringSize r := Nat.two_pow_pos _

/-- A record that is no longer than the ring lies in it whole, and nothing outside the ring's space changes. -/
theorem ringPut_inRing {pos : Nat} {bs : List Byte} (hlen : bs.length ≤ s.ringSize k) :
    InRing (s.ringPut k pos bs) k pos bs ∧ RingOnly s (s.ringPut k pos bs) k := by
  obtain ⟨v, o, n, ho, hn, hfirst, hrest⟩ := ringPut_split s k pos bs
  have hpos := ringSize_pos s k
  have hlt : o < s.ringSize k := ho ▸ Nat.mod_lt _ hpos
  have htake : (bs.take n).length = min n bs.length := List.length_take
  have hdrop : (bs.drop n).length = bs.length - n := List.length_drop
  refine ⟨fun i hi => ?_, fun a ha => ?_⟩
  · show (s.ringPut k pos bs).sramAt ((s.regs.RNG_r_BASE k).toNat + (pos + i) % s.ringSize k) = bs.getD i 0
    have hmod : (pos + i) % s.ringSize k = if i < n then o + i else o + i - s.ringSize k := by
      rw [Nat.add_mod, ← ho, Nat.mod_eq_of_lt (show i < s.ringSize k by omega)]
      by_cases hin : i < n
      · rw [if_pos hin, Nat.mod_eq_of_lt (by omega)]
      · rw [if_neg hin, Nat.mod_eq_sub_mod (by omega), Nat.mod_eq_of_lt (by omega)]
    rw [hmod, hrest, hfirst, htake, hdrop]
    by_cases hin : i < n
    · rw [if_pos hin, if_neg (by omega), if_pos (by omega), show (s.regs.RNG_r_BASE k).toNat + (o + i) - ((s.regs.RNG_r_BASE k).toNat + o) = i by omega,
        List.getD_eq_getElem?_getD, List.getElem?_take_of_lt hin, ← List.getD_eq_getElem?_getD]
    · rw [if_neg hin, if_pos (by omega), List.getD_eq_getElem?_getD, List.getElem?_drop, ← List.getD_eq_getElem?_getD]
      congr 1
      omega
  · rw [hrest, hfirst, htake, hdrop, if_neg (by omega), if_neg (by omega)]

/-! ## Triggers -/

/-- `t` is `s` but for the states of the channels. -/
def ChannelsOnly (s t : State) : Prop := ∃ chs, t = { s with sip := { s.sip with chs := chs } }

theorem trigger_channels (s : State) (c : Fin 32) (flush : Bool) : ChannelsOnly s (s.trigger c flush) := by
  unfold State.trigger
  split
  · exact ⟨_, rfl⟩
  · exact ⟨_, rfl⟩
  all_goals exact ⟨s.sip.chs, rfl⟩

theorem trigger_other {c d : Fin 32} {flush : Bool} (h : d ≠ c) : (s.trigger c flush).sip.chs[d] = s.sip.chs[d] := by
  unfold State.trigger
  split
  · exact modCh_other s _ h
  · exact modCh_other s _ h
  all_goals rfl

theorem trigger_idle {c : Fin 32} {flush : Bool} (h : s.sip.chs[c].state = .idle) :
    (s.trigger c flush).sip.chs[c] = { s.sip.chs[c] with state := .pending, flush := flush } := by
  unfold State.trigger
  rw [h]
  exact modCh_self ..

namespace ChannelsOnly

theorem refl (s : State) : ChannelsOnly s s := ⟨s.sip.chs, rfl⟩

theorem trans (h : ChannelsOnly s t) (h' : ChannelsOnly t u) : ChannelsOnly s u := by
  obtain ⟨chs, rfl⟩ := h
  obtain ⟨chs', rfl⟩ := h'
  exact ⟨chs', rfl⟩

theorem rings (h : ChannelsOnly s t) : t.sip.rings = s.sip.rings := by
  obtain ⟨chs, rfl⟩ := h
  rfl

theorem sram (h : ChannelsOnly s t) : t.sip.sram = s.sip.sram := by
  obtain ⟨chs, rfl⟩ := h
  rfl

theorem regs (h : ChannelsOnly s t) : t.regs = s.regs := by
  obtain ⟨chs, rfl⟩ := h
  rfl

theorem recs (h : ChannelsOnly s t) : t.recs = s.recs := by
  obtain ⟨chs, rfl⟩ := h
  rfl

end ChannelsOnly

/-- The triggers of one channel that the fill of ring `k` gives. -/
def State.fillTrigger (s : State) (k c : Fin 32) : State :=
  if c.val < 16 then
    if bit (s.regs.SIP_CHc_RMASK c) k.val ∧ s.regs.RNG_r_HI k ≤ ptrSub s.sip.rings[k].wr s.sip.rings[k].rd then s.trigger c false
    else s
  else if s.regs.SIP_CHc_CFG_TRIG_EN c && s.regs.SIP_CHc_CFG_TRIG_RING c == k.val && s.sip.chs[c].started
      && s.regs.SIP_CHc_CFG_OWNER c != 0 && decide (s.regs.RNG_r_HI k ≤ s.chFill c k) then s.trigger c false
  else s

theorem fillTriggers_eq (s : State) (k : Fin 32) : s.fillTriggers k = (List.finRange 32).foldl (fun u c => u.fillTrigger k c) s := rfl

theorem fillTrigger_channels (s : State) (k c : Fin 32) : ChannelsOnly s (s.fillTrigger k c) := by
  unfold State.fillTrigger
  split
  · split
    · exact trigger_channels ..
    · exact ChannelsOnly.refl s
  · split
    · exact trigger_channels ..
    · exact ChannelsOnly.refl s

theorem fillTrigger_other {c d : Fin 32} (h : d ≠ c) : (s.fillTrigger k c).sip.chs[d] = s.sip.chs[d] := by
  unfold State.fillTrigger
  split
  · split
    · exact trigger_other h
    · rfl
  · split
    · exact trigger_other h
    · rfl

theorem fillTriggers_channels (s : State) (k : Fin 32) : ChannelsOnly s (s.fillTriggers k) := by
  rw [fillTriggers_eq]
  generalize List.finRange 32 = l
  induction l generalizing s with
  | nil => exact ChannelsOnly.refl s
  | cons c l ih => exact (fillTrigger_channels s k c).trans (ih _)

/-- Of every other channel a channel keeps what its own trigger gives it. -/
theorem fillTriggers_self (c : Fin 32) : ∃ u, ChannelsOnly s u ∧ u.sip.chs[c] = s.sip.chs[c] ∧ (s.fillTriggers k).sip.chs[c] = (u.fillTrigger k c).sip.chs[c] := by
  rw [fillTriggers_eq]
  refine foldl_reaches (f := fun u c => u.fillTrigger k c) (k := c) (Q := fun v => ChannelsOnly s v ∧ v.sip.chs[c] = s.sip.chs[c])
    (R := fun v => ∃ u, ChannelsOnly s u ∧ u.sip.chs[c] = s.sip.chs[c] ∧ v.sip.chs[c] = (u.fillTrigger k c).sip.chs[c]) ?_ ?_ ?_ (List.nodup_finRange 32)
    (List.mem_finRange c) ⟨ChannelsOnly.refl s, rfl⟩
  · rintro v m hm ⟨hv, hch⟩
    exact ⟨hv.trans (fillTrigger_channels v k m), (fillTrigger_other (Ne.symm hm)).trans hch⟩
  · rintro v ⟨hv, hch⟩
    exact ⟨v, hv, hch, rfl⟩
  · rintro v m hm ⟨u, hu, hch, hv⟩
    exact ⟨u, hu, hch, (fillTrigger_other (Ne.symm hm)).trans hv⟩

/-- An idle device channel of a ring whose mark is reached becomes pending; one that is not of the ring, or below its mark, stays. -/
theorem fillTriggers_device {c : Fin 32} (hc : c.val < 16) :
    (bit (s.regs.SIP_CHc_RMASK c) k.val = true → s.regs.RNG_r_HI k ≤ ptrSub s.sip.rings[k].wr s.sip.rings[k].rd → s.sip.chs[c].state = .idle →
      (s.fillTriggers k).sip.chs[c] = { s.sip.chs[c] with state := .pending, flush := false }) ∧
    (bit (s.regs.SIP_CHc_RMASK c) k.val = false ∨ ptrSub s.sip.rings[k].wr s.sip.rings[k].rd < s.regs.RNG_r_HI k →
      (s.fillTriggers k).sip.chs[c] = s.sip.chs[c]) := by
  obtain ⟨u, hu, hch, hself⟩ := fillTriggers_self (s := s) (k := k) c
  have hown : u.fillTrigger k c =
      if bit (s.regs.SIP_CHc_RMASK c) k.val ∧ s.regs.RNG_r_HI k ≤ ptrSub s.sip.rings[k].wr s.sip.rings[k].rd then u.trigger c false else u := by
    unfold State.fillTrigger
    rw [if_pos hc, hu.regs, hu.rings]
  rw [hself, hown]
  refine ⟨fun hmask hmark hidle => ?_, fun hno => ?_⟩
  · rw [if_pos ⟨hmask, hmark⟩, trigger_idle ((congrArg ChSt.state hch).trans hidle), hch]
  · rw [if_neg fun h => by rcases hno with hno | hno; exacts [Bool.false_ne_true (hno.symm.trans h.1), absurd h.2 (Nat.not_le.2 hno)]]
    exact hch

/-! ## A record lost -/

theorem foldl_events_frame (q : List (Nat × Nat)) (f : Nat × Nat → Nat × Nat × Nat × Nat × Nat) (s : State) :
    Frame [.recs] s (q.foldl (fun s e => s.event (f e).1 (f e).2.1 (f e).2.2.1 (f e).2.2.2.1 (f e).2.2.2.2) s) := by
  induction q generalizing s with
  | nil => exact Frame.refl ..
  | cons e q ih => exact Frame.trans (Frame.event ..) (ih _)

/-- A ring after a record lost, with the run of its cause. -/
def RingSt.loses (x : RingSt) (cause : Fin 5) (run : Run) : RingSt := { x with lost := satInc 16 x.lost, runs := x.runs.set cause run }

/-- What `t` has of ring `k` after a record of it was lost, and of the rest of the Siphon. -/
structure Lost (s t : State) (k : Fin 32) (cause : Fin 5) : Prop where
  frame : Frame [.recs, .sip] s t
  sip : t.sip = { s.sip with rings := t.sip.rings }
  other : ∀ j, j ≠ k → t.sip.rings[j] = s.sip.rings[j]
  ring : ∃ runs, t.sip.rings[k] = { s.sip.rings[k] with lost := satInc 16 s.sip.rings[k].lost, runs := runs }
  quiet : k.val = 25 → t.recs = s.recs
  wrote : k.val ≠ 25 → s.sip.rings[k].runs[cause].isOpen = false → s.pwr.phase = .running →
    Wrote s t [evtOf s.tb Unit.sip 0x1104 (k.val + 256 * cause.val) 1]

theorem run_event_closed {r : Run} (h : r.isOpen = false) (now tb : Nat) : (r.event now tb).2 = [(tb, 1)] := by
  unfold Run.event Run.due Run.note
  simp only [h, Bool.not_false, Bool.true_or, if_true, Bool.false_and, Bool.false_eq_true, if_false, Option.toList, List.nil_append]

theorem ringLoss_lost {cause : Fin 5} (hcause : cause ≠ 4) : Lost s (s.ringLoss k cause) k cause := by
  have F := Frame.ringLoss s k cause
  have hcount : (s.modRing k fun x => if cause = 4 then { x with tapLost := satInc 16 x.tapLost } else { x with lost := satInc 16 x.lost }) =
      s.modRing k fun x => { x with lost := satInc 16 x.lost } := by
    simp only [if_neg hcause]
  have hself := modRing_self s k fun x => { x with lost := satInc 16 x.lost }
  by_cases hk : k = 25
  · have heq : s.ringLoss k cause = s.modRing k fun x => { x with lost := satInc 16 x.lost } := by
      unfold State.ringLoss
      dsimp only
      rw [hcount, if_pos hk]
    rw [heq] at F ⊢
    exact ⟨F, rfl, fun j hj => modRing_other s _ hj, ⟨_, hself⟩, fun _ => rfl, fun hne => absurd (congrArg Fin.val hk) hne⟩
  · generalize hw : (s.modRing k fun x => { x with lost := satInc 16 x.lost }) = w at hself hcount
    have hwother : ∀ j, j ≠ k → w.sip.rings[j] = s.sip.rings[j] := fun j hj => hw ▸ modRing_other s _ hj
    have hwsip : w.sip = { s.sip with rings := w.sip.rings } := hw ▸ rfl
    have hwtb : w.tb = s.tb := hw ▸ rfl
    have hwrecs : w.recs = s.recs := hw ▸ rfl
    have hwpwr : w.pwr = s.pwr := hw ▸ rfl
    have hwregs : w.regs = s.regs := hw ▸ rfl
    generalize hq : w.sip.rings[k].runs[cause].event w.now w.tb = q
    have heq : s.ringLoss k cause = q.2.foldl (fun s e => s.event e.1 Unit.sip 0x1104 (k.val + 256 * cause.val) e.2)
        (w.modRing k fun x => { x with runs := x.runs.set cause q.1 }) := by
      unfold State.ringLoss
      dsimp only
      rw [hcount, if_neg hk, hq]
    have hvself := modRing_self w k fun x => { x with runs := x.runs.set cause q.1 }
    have hvother : ∀ j, j ≠ k → (w.modRing k fun x => { x with runs := x.runs.set cause q.1 }).sip.rings[j] = w.sip.rings[j] := fun j hj => modRing_other w _ hj
    have E := foldl_events_frame q.2 (fun e => (e.1, Unit.sip, 0x1104, k.val + 256 * cause.val, e.2)) (w.modRing k fun x => { x with runs := x.runs.set cause q.1 })
    rw [heq] at F ⊢
    have hsip : State.sip _ = _ := E.keep .sip (by decide)
    refine ⟨F, ?_, fun j hj => ?_, ⟨w.sip.rings[k].runs.set cause q.1, ?_⟩, fun h => absurd (Fin.ext h) hk, fun _ hclosed hphase => ?_⟩
    · rw [hsip]
      show ({ w.sip with rings := _ } : SipSt) = _
      rw [hwsip]
      rfl
    · rw [hsip]
      exact (hvother j hj).trans (hwother j hj)
    · rw [hsip]
      refine hvself.trans ?_
      rw [hself]
    · have hopen : w.sip.rings[k].runs[cause].isOpen = false := by rw [hself]; exact hclosed
      have hone := run_event_closed hopen w.now w.tb
      rw [hq] at hone
      rw [hone, hwtb]
      refine Wrote.event_one hphase ?_ ?_ ?_
      · exact hwrecs
      · exact hwpwr
      · exact hwregs

theorem Lost.kept {cause : Fin 5} (h : Lost s t k cause) : RingKept s t k := by
  obtain ⟨runs, hring⟩ := h.ring
  refine ⟨?_, ?_, ?_, ?_, h.other, ?_, ?_⟩
  · rw [hring]
  · rw [hring]
  · rw [hring]
  · rw [hring]
  · rw [h.sip]
  · rw [h.sip]

theorem Lost.ringLost {cause : Fin 5} (h : Lost (s.advance dt) t k cause) (hphase : s.pwr.phase = .running) : RingLost s t dt k cause := by
  obtain ⟨runs, hring⟩ := h.ring
  refine ⟨?_, h.quiet, fun hk hclosed => h.wrote hk hclosed hphase⟩
  rw [hring]
  rfl

/-! ## A record enters its ring -/

section
variable {bs : List Byte}

/-- A record enters ring `k`, which has room for it. -/
def State.ringEnter (s : State) (k : Fin 32) (bs : List Byte) : State :=
  ((s.ringPut k s.sip.rings[k].wr bs).modRing k fun x => { x with
    wr := ptrAdd s.sip.rings[k].wr bs.length, recs := x.recs ++ [⟨s.sip.rings[k].wr, bs.length, s.tb⟩] }).fillTriggers k

/-- A ring with a record more. -/
def RingSt.entered (x : RingSt) (bs : List Byte) (stamp : Nat) : RingSt :=
  { x with wr := ptrAdd x.wr bs.length, recs := x.recs ++ [⟨x.wr, bs.length, stamp⟩] }

theorem ringEnter_frame (s : State) (k : Fin 32) (bs : List Byte) : Frame [.sip] s (s.ringEnter k bs) :=
  Frame.trans (Frame.trans (Frame.ringPut ..) (Frame.modRing ..)) (Frame.fillTriggers ..)

theorem ringEnter_rings (s : State) (k : Fin 32) (bs : List Byte) :
    (s.ringEnter k bs).sip.rings = vset s.sip.rings k fun x => x.entered bs s.tb := by
  refine (fillTriggers_channels _ k).rings.trans ?_
  show vset s.sip.rings k (fun x => { x with
    wr := ptrAdd s.sip.rings[k].wr bs.length, recs := x.recs ++ [⟨s.sip.rings[k].wr, bs.length, s.tb⟩] }) = _
  exact vset_congr rfl

theorem ringEnter_ring (s : State) (k : Fin 32) (bs : List Byte) : (s.ringEnter k bs).sip.rings[k] = s.sip.rings[k].entered bs s.tb := by
  rw [ringEnter_rings]
  exact vset_self ..

theorem ringEnter_other (s : State) (bs : List Byte) {j : Fin 32} (h : j ≠ k) : (s.ringEnter k bs).sip.rings[j] = s.sip.rings[j] := by
  rw [ringEnter_rings]
  exact vset_ne _ _ _ _ (Ne.symm h)

theorem ringEnter_bytes (hlen : bs.length ≤ s.ringSize k) : InRing (s.ringEnter k bs) k s.sip.rings[k].wr bs ∧ RingOnly s (s.ringEnter k bs) k := by
  obtain ⟨hin, honly⟩ := ringPut_inRing (s := s) (k := k) (pos := s.sip.rings[k].wr) hlen
  have hsram : (s.ringEnter k bs).sip.sram = (s.ringPut k s.sip.rings[k].wr bs).sip.sram := (fillTriggers_channels _ k).sram
  have hregs : (s.ringEnter k bs).regs = (s.ringPut k s.sip.rings[k].wr bs).regs := (fillTriggers_channels _ k).regs
  refine ⟨fun i hi => ?_, fun a ha => (sramAt_congr hsram a).trans (honly a ha)⟩
  unfold State.ringSize
  rw [hregs, sramAt_congr hsram]
  exact hin i hi

theorem ringEnter_channels {c : Fin 32} (hc : c.val < 16) :
    (bit (s.regs.SIP_CHc_RMASK c) k.val = true → s.regs.RNG_r_HI k ≤ ptrSub (ptrAdd s.sip.rings[k].wr bs.length) s.sip.rings[k].rd →
      s.sip.chs[c].state = .idle → (s.ringEnter k bs).sip.chs[c] = { s.sip.chs[c] with state := .pending, flush := false }) ∧
    (bit (s.regs.SIP_CHc_RMASK c) k.val = false ∨ ptrSub (ptrAdd s.sip.rings[k].wr bs.length) s.sip.rings[k].rd < s.regs.RNG_r_HI k →
      (s.ringEnter k bs).sip.chs[c] = s.sip.chs[c]) := by
  have hring := modRing_self (s.ringPut k s.sip.rings[k].wr bs) k fun x => { x with
    wr := ptrAdd s.sip.rings[k].wr bs.length, recs := x.recs ++ [⟨s.sip.rings[k].wr, bs.length, s.tb⟩] }
  have hwr := (congrArg RingSt.wr hring).trans rfl
  have hrd := (congrArg RingSt.rd hring).trans rfl
  have h := fillTriggers_device (s := (s.ringPut k s.sip.rings[k].wr bs).modRing k fun x => { x with
    wr := ptrAdd s.sip.rings[k].wr bs.length, recs := x.recs ++ [⟨s.sip.rings[k].wr, bs.length, s.tb⟩] }) (k := k) hc
  rw [hwr, hrd] at h
  exact h

/-! ## What becomes of a record -/

theorem ringWrite_off (h : s.regs.RNG_r_CFG_EN k = false) :
    s.ringWrite k bs = { s with sip := { s.sip with offDrop := satInc 32 s.sip.offDrop } } := by
  unfold State.ringWrite
  rw [h]
  rfl

theorem ringWrite_long (h : s.regs.RNG_r_CFG_EN k = true) (hlong : s.ringSize k < bs.length) : s.ringWrite k bs = s.ringLoss k 3 := by
  unfold State.ringWrite
  rw [h, Bool.not_true, if_neg Bool.false_ne_true, if_pos hlong]

theorem ringWrite_full (h : s.regs.RNG_r_CFG_EN k = true) (hlen : bs.length ≤ s.ringSize k)
    (hroom : s.ringSize k < bs.length + ptrSub s.sip.rings[k].wr s.sip.rings[k].rd) (hfull : s.regs.RNG_r_CFG_FULL k = true) :
    s.ringWrite k bs = s.ringLoss k 2 := by
  unfold State.ringWrite
  dsimp only
  rw [h, Bool.not_true, if_neg Bool.false_ne_true, if_neg (Nat.not_lt.2 hlen), decide_eq_false (Nat.not_le.2 hroom), hfull]
  rfl

theorem ringWrite_fits (h : s.regs.RNG_r_CFG_EN k = true) (hroom : bs.length + ptrSub s.sip.rings[k].wr s.sip.rings[k].rd ≤ s.ringSize k) :
    s.ringWrite k bs = s.ringEnter k bs := by
  have hlen : bs.length ≤ s.ringSize k := Nat.le_trans (Nat.le_add_right ..) hroom
  unfold State.ringWrite
  dsimp only
  rw [h, Bool.not_true, if_neg Bool.false_ne_true, if_neg (Nat.not_lt.2 hlen), decide_eq_true hroom, Bool.not_true, Bool.false_and, if_neg Bool.false_ne_true, if_pos rfl]
  rfl

/-- RD passes over the oldest record, where no tap follows. -/
theorem rdPass_head {q : RingRec} {more : List RingRec} (hrecs : s.sip.rings[k].recs = q :: more) (htap : s.regs.RNG_r_CFG_TAP_CH k = 0) :
    s.rdPass k = s.modRing k fun x => { x with recs := more, rd := ptrAdd q.pos q.len, tap := ptrAdd q.pos q.len } := by
  have hmissed : (s.sip.rings[k].tap == q.pos && s.regs.RNG_r_CFG_TAP_CH k != 0) = false := by
    rw [htap]
    exact Bool.and_false _
  unfold State.rdPass
  rw [hrecs]
  dsimp only
  rw [hmissed, if_neg Bool.false_ne_true]
  simp only [htap, or_true, if_true]

theorem makeRoom_enough {len : Nat} (h : len + ptrSub s.sip.rings[k].wr s.sip.rings[k].rd ≤ s.ringSize k) (m : Nat) : s.makeRoom k len m = (s, true) := by
  cases m with
  | zero =>
    unfold State.makeRoom
    rw [decide_eq_true h]
  | succ m =>
    unfold State.makeRoom
    dsimp only
    rw [if_pos h]

theorem makeRoom_one {len m : Nat} (h : s.ringSize k < len + ptrSub s.sip.rings[k].wr s.sip.rings[k].rd) (hstill : s.sip.desc = none)
    (hnext : len + ptrSub ((s.rdPass k).ringLoss k 1).sip.rings[k].wr ((s.rdPass k).ringLoss k 1).sip.rings[k].rd ≤ ((s.rdPass k).ringLoss k 1).ringSize k) :
    s.makeRoom k len (m + 1) = ((s.rdPass k).ringLoss k 1, true) := by
  have hmoving : s.moving k = none := by
    unfold State.moving
    rw [hstill]
  unfold State.makeRoom
  dsimp only
  rw [if_neg (Nat.not_le.2 h), hmoving, if_neg (fun h => by cases h), makeRoom_enough hnext]

theorem ringWrite_passes {v : State} {m : Nat} (h : s.regs.RNG_r_CFG_EN k = true) (hlen : bs.length ≤ s.ringSize k)
    (hroom : s.ringSize k < bs.length + ptrSub s.sip.rings[k].wr s.sip.rings[k].rd) (hkeep : s.regs.RNG_r_CFG_FULL k = false) (hstill : s.sip.desc = none)
    (hm : s.sip.rings[k].recs.length = m) (hmake : s.makeRoom k bs.length m = (v, true)) : s.ringWrite k bs = v.ringEnter k bs := by
  have hcan : s.canRoom k bs.length = true := by
    unfold State.canRoom State.moving
    rw [hstill]
  unfold State.ringWrite
  dsimp only
  rw [h, Bool.not_true, if_neg Bool.false_ne_true, if_neg (Nat.not_lt.2 hlen), decide_eq_false (Nat.not_le.2 hroom), hkeep, hcan, Bool.not_true, Bool.or_false,
    Bool.and_false, if_neg Bool.false_ne_true, if_neg Bool.false_ne_true, hm, hmake]
  rfl

/-- The oldest record gives way to a new one. -/
theorem ringWrite_overwrites {q : RingRec} {more : List RingRec} (h : s.regs.RNG_r_CFG_EN k = true) (hrecs : s.sip.rings[k].recs = q :: more)
    (hkeep : s.regs.RNG_r_CFG_FULL k = false) (hstill : s.sip.desc = none) (htap : s.regs.RNG_r_CFG_TAP_CH k = 0) (hlen : bs.length ≤ s.ringSize k)
    (hroom : s.ringSize k < bs.length + ptrSub s.sip.rings[k].wr s.sip.rings[k].rd)
    (hnext : bs.length + ptrSub s.sip.rings[k].wr (ptrAdd q.pos q.len) ≤ s.ringSize k) :
    ∃ v, s.ringWrite k bs = v.ringEnter k bs ∧ Frame [.recs, .sip] s v ∧ v.sip.rings[k].wr = s.sip.rings[k].wr ∧ v.sip.rings[k].rd = ptrAdd q.pos q.len ∧
      v.sip.rings[k].recs = more ∧ (∀ j, j ≠ k → v.sip.rings[j] = s.sip.rings[j]) ∧ v.sip.sram = s.sip.sram ∧
      v.sip.rings[k].lost = satInc 16 s.sip.rings[k].lost ∧ (k.val = 25 → v.recs = s.recs) ∧
      (k.val ≠ 25 → s.sip.rings[k].runs[(1 : Fin 5)].isOpen = false → s.pwr.phase = .running →
        Wrote s v [evtOf s.tb Unit.sip 0x1104 (k.val + 256 * (1 : Fin 5).val) 1]) := by
  have hpass := rdPass_head hrecs htap
  have hself := modRing_self s k fun x => { x with recs := more, rd := ptrAdd q.pos q.len, tap := ptrAdd q.pos q.len }
  have hother : ∀ j, j ≠ k → (s.modRing k fun x => { x with recs := more, rd := ptrAdd q.pos q.len, tap := ptrAdd q.pos q.len }).sip.rings[j] = s.sip.rings[j] :=
    fun j hj => modRing_other s _ hj
  have hl := ringLoss_lost (s := s.rdPass k) (k := k) (cause := 1) (by decide)
  obtain ⟨runs, hring⟩ := hl.ring
  have F := Frame.trans (Frame.rdPass s k) hl.frame
  have hvring : ((s.rdPass k).ringLoss k 1).sip.rings[k] =
      { s.sip.rings[k] with recs := more, rd := ptrAdd q.pos q.len, tap := ptrAdd q.pos q.len, lost := satInc 16 s.sip.rings[k].lost, runs := runs } := by
    rw [hring, hpass, hself]
  have hregs : ((s.rdPass k).ringLoss k 1).regs = s.regs := F.keep .regs (by decide)
  have hsize : ((s.rdPass k).ringLoss k 1).ringSize k = s.ringSize k := by
    unfold State.ringSize
    rw [hregs]
  refine ⟨(s.rdPass k).ringLoss k 1, ringWrite_passes h hlen hroom hkeep hstill (congrArg List.length hrecs)
    (makeRoom_one hroom hstill ?_), F, ?_, ?_, ?_, fun j hj => ?_, ?_, ?_, fun hk => ?_, fun hk hclosed hphase => ?_⟩
  · rw [hvring, hsize]
    exact hnext
  · rw [hvring]
  · rw [hvring]
  · rw [hvring]
  · rw [hl.other j hj, hpass]
    exact hother j hj
  · rw [hl.sip, hpass]
    rfl
  · rw [hvring]
  · rw [hl.quiet hk, hpass]
    rfl
  · have hw := hl.wrote hk
    rw [hpass] at hw ⊢
    have hclosed' : (s.modRing k fun x => { x with recs := more, rd := ptrAdd q.pos q.len, tap := ptrAdd q.pos q.len }).sip.rings[k].runs[(1 : Fin 5)].isOpen = false := by
      rw [hself]
      exact hclosed
    exact hw hclosed' hphase

end

/-! ## RECORD_EMIT -/

theorem exec_recordEmit {r : Record} {rest : List Record} (hrun : s.running = true) (hout : s.recs.outbox = r :: rest) (hk : ringFor r.unit r.typ = some k) :
    exec (.recordEmit dt) s = done ((({ s with recs := { s.recs with outbox := rest } } : State).advance dt).ringWrite k r.bytes) := by
  show execRecordEmit dt s = _
  have hrun' : (s.advance dt).running = true := hrun
  have hout' : (s.advance dt).recs.outbox = r :: rest := hout
  unfold execRecordEmit
  dsimp only
  rw [hrun', hout']
  dsimp only
  rw [hk]
  rfl

theorem exec_recordEmit_dropped {r : Record} {rest : List Record} (hrun : s.running = true) (hout : s.recs.outbox = r :: rest) (hk : ringFor r.unit r.typ = none) :
    exec (.recordEmit dt) s = done ({ ({ s with recs := { s.recs with outbox := rest } } : State).advance dt with
      sip := { s.sip with offDrop := satInc 32 s.sip.offDrop } } : State) := by
  show execRecordEmit dt s = _
  have hrun' : (s.advance dt).running = true := hrun
  have hout' : (s.advance dt).recs.outbox = r :: rest := hout
  unfold execRecordEmit
  dsimp only
  rw [hrun', hout']
  dsimp only
  rw [hk]
  rfl

theorem exec_recordEmit_none (hout : s.recs.outbox = []) : exec (.recordEmit dt) s = done (s.advance dt) := by
  show execRecordEmit dt s = _
  have hout' : (s.advance dt).recs.outbox = [] := hout
  unfold execRecordEmit
  dsimp only
  rw [hout']
  cases (s.advance dt).running <;> rfl

end

section
variable {s : State} {dt : Nat} {k : Fin 32} {o : Origin} {c : Ctx} {a : Nat}

/-! ## Writes of work SRAM -/

theorem areaOf_sram (hlo : 0x1000000 ≤ a) (hhi : a < 0x1400000) : areaOf a = .sram := by
  unfold areaOf
  rw [if_neg (by omega), if_neg (by omega), if_pos ⟨hlo, hhi⟩]

theorem areaOf_not_sram (h : a < 0x1000000 ∨ 0x1400000 ≤ a) : areaOf a ≠ .sram := by
  unfold areaOf
  split
  · exact fun h => by cases h
  · split
    · exact fun h => by cases h
    · rw [if_neg (by omega)]
      exact fun h => by cases h

theorem windowOf_none (h : a < 0x1380000) : windowOf a = none := by
  unfold windowOf
  rw [if_neg (by omega)]

theorem windowOf_some (hk : 16 ≤ k.val) (hlo : windowBase k ≤ a) (hhi : a < windowBase k + 0x8000) : windowOf a = some k := by
  have hlt := k.isLt
  unfold windowBase at hlo hhi
  unfold windowOf
  rw [if_pos (by omega)]
  refine congrArg some (Fin.ext ?_)
  show (16 + (a - 0x1380000) / 0x8000) % 32 = k.val
  omega

/-- A write of work SRAM by the owner of an idle or stopped channel, where no replay fills the place. -/
theorem doSramWrite_owner {w : Word} (hwin : windowOf a = some k)
    (hfree : ¬ (s.car.rpl.state = 1 ∧ windowBase s.car.rpl.ch + s.car.rpl.base ≤ a ∧ a < windowBase s.car.rpl.ch + s.car.rpl.base + s.car.rpl.len))
    (howns : s.ownsCh c.o k.val = true) (hstill : s.sip.chs[k].state = .idle ∨ s.sip.chs[k].state = .stopped) :
    doSramWrite a c s w = ack (s.sramWrite a (leBytes 4 w.toNat)) := by
  unfold doSramWrite
  rw [hwin]
  dsimp only
  rw [if_neg hfree, howns, Bool.not_true, if_neg Bool.false_ne_true, if_pos hstill]

theorem doSramWrite_busy {w : Word} (hwin : windowOf a = some k)
    (h : (s.car.rpl.state = 1 ∧ windowBase s.car.rpl.ch + s.car.rpl.base ≤ a ∧ a < windowBase s.car.rpl.ch + s.car.rpl.base + s.car.rpl.len) ∨
      (s.ownsCh c.o k.val = true ∧ s.sip.chs[k].state ≠ .idle ∧ s.sip.chs[k].state ≠ .stopped)) :
    doSramWrite a c s w = nak s St.state := by
  unfold doSramWrite
  rw [hwin]
  dsimp only
  split
  · rfl
  · next hfree =>
    obtain ⟨howns, hidle, hstopped⟩ := h.resolve_left hfree
    rw [howns, Bool.not_true, if_neg Bool.false_ne_true, if_neg (fun h => h.elim hidle hstopped)]

theorem doSramWrite_other {w : Word} (hwin : windowOf a = some k)
    (hfree : ¬ (s.car.rpl.state = 1 ∧ windowBase s.car.rpl.ch + s.car.rpl.base ≤ a ∧ a < windowBase s.car.rpl.ch + s.car.rpl.base + s.car.rpl.len))
    (hother : s.ownsCh c.o k.val = false) : doSramWrite a c s w = rightsNak c s := by
  unfold doSramWrite
  rw [hwin]
  dsimp only
  rw [if_neg hfree, hother, Bool.not_false, if_pos rfl]

theorem doSramWrite_outside {w : Word} (hwin : windowOf a = none) : doSramWrite a c s w = rightsNak c s := by
  unfold doSramWrite
  rw [hwin]

/-- The handler of a write of work SRAM at an aligned address inside it. -/
theorem sramWrite_handler {addr value : Word} (halign : addr.toNat % 4 = 0) (hlo : 0x1000000 ≤ addr.toNat) (hhi : addr.toNat < 0x1400000) :
    (if addr.toNat % 4 ≠ 0 ∨ areaOf addr.toNat ≠ .sram then nak s St.range else doSramWrite addr.toNat c s value) = doSramWrite addr.toNat c s value :=
  if_neg fun h => h.elim (· halign) (· (areaOf_sram hlo hhi))

/-! ## Reads of work SRAM -/

theorem leBytes_leNat_four {b0 b1 b2 b3 : Byte} : leBytes 4 (w32 (leNat [b0, b1, b2, b3])).toNat = [b0, b1, b2, b3] := by
  have h0 := b0.isLt
  have h1 := b1.isLt
  have h2 := b2.isLt
  have h3 := b3.isLt
  have hnat : leNat [b0, b1, b2, b3] = b0.toNat + 256 * (b1.toNat + 256 * (b2.toNat + 256 * b3.toNat)) := rfl
  have hword : (w32 (leNat [b0, b1, b2, b3])).toNat = b0.toNat + 256 * (b1.toNat + 256 * (b2.toNat + 256 * b3.toNat)) := by
    rw [hnat]
    show (BitVec.ofNat 32 _).toNat = _
    rw [BitVec.toNat_ofNat]
    omega
  rw [hword, leBytes_four]
  congr 1
  · exact BitVec.eq_of_toNat_eq (by rw [BitVec.toNat_ofNat]; omega)
  · congr 1
    · exact BitVec.eq_of_toNat_eq (by rw [BitVec.toNat_ofNat]; omega)
    · congr 1
      · exact BitVec.eq_of_toNat_eq (by rw [BitVec.toNat_ofNat]; omega)
      · congr 1
        exact BitVec.eq_of_toNat_eq (by rw [BitVec.toNat_ofNat]; omega)

theorem sramRead_four (s : State) (a : Nat) : leBytes 4 (w32 (leNat (s.sramRead a 4))).toNat = s.sramRead a 4 :=
  leBytes_leNat_four (b0 := s.sramAt (a + 0)) (b1 := s.sramAt (a + 1)) (b2 := s.sramAt (a + 2)) (b3 := s.sramAt (a + 3))

/-- A read of one word of work SRAM: its bytes, and in the answer whether the word cannot be corrected. -/
theorem doRead_sram (halign : a % 4 = 0) (harea : areaOf a = .sram) : doRead a 1 c s =
    if s.sip.ecc.contains (a, true) then (s.sramMeet a, { status := St.ack, detail := 0x0ECC, index := 0, data := s.sramRead a 4 })
    else ack (s.sramMeet a) (s.sramRead a 4) := by
  have hwords : s.readWords c.o a 0 1 [] = (s.sramMeet a, s.sramRead a 4, none) := by
    unfold State.readWords
    rw [if_neg (by rw [harea]; exact fun h => by cases h)]
    unfold State.readWords State.readWord
    rw [harea]
    dsimp only
    rw [sramRead_four]
    rfl
  have hbad : (List.range 1).find? (fun i => areaOf (a + 4 * i) == .sram && s.sip.ecc.contains (a + 4 * i, true)) =
      if s.sip.ecc.contains (a, true) then some 0 else none := by
    show List.find? _ [0] = _
    rw [List.find?_singleton]
    show (if (areaOf a == .sram && s.sip.ecc.contains (a, true)) = true then _ else _) = _
    rw [harea]
    rfl
  unfold doRead
  rw [if_neg (fun h => h halign)]
  dsimp only
  rw [hwords, hbad]
  by_cases h : s.sip.ecc.contains (a, true) = true
  · rw [if_pos h, if_pos h]
  · rw [if_neg h, if_neg h]

theorem exec_jcpRead_sram {addr : Word} {u : State} {r : Reply} (hs : s.serves o = true)
    (hread : doRead addr.toNat 1 ((s.advance dt).ctx o 1) (s.advance dt) = (u, r)) (hack : r.status = 0) (hcp : u.cp = (s.advance dt).cp)
    (hclk : u.clk = (s.advance dt).clk) :
    exec (.jcpRead dt o addr 1) s = .next ({ u with cp := (s.advance dt).cpAfter o 1 r } : State).settle := by
  have h := State.entry_ack (s.advance dt) o 1 (some addr.toNat) (fun c s => if 1 = 0 ∨ 256 < 1 then nak s St.range else doRead addr.toNat 1 c s) 1 false [] [] false 0 u r
    hs (.inl (by decide)) ((if_neg (by decide)).trans hread) hack
  refine exec_next_of rfl (h.trans ?_)
  rw [cpAfter_congr o 1 r hcp hclk]

/-! ## FETCH -/

theorem takeFit_split {l m : List (List Byte)} {max : Nat} (hfit : (l.map List.length).sum ≤ max)
    (hnext : ∀ q, m.head? = some q → max < (l.map List.length).sum + q.length) : takeFit (l ++ m) max = (l, m) := by
  induction l generalizing max with
  | nil =>
    cases m with
    | nil => rfl
    | cons q m =>
      have hlong := hnext q rfl
      rw [List.map_nil, List.sum_nil, Nat.zero_add] at hlong
      exact if_neg (Nat.not_le.2 hlong)
  | cons r l ih =>
    rw [List.map_cons, List.sum_cons] at hfit hnext
    show (if r.length ≤ max then _ else _) = _
    rw [if_pos (by omega)]
    dsimp only
    have htail : takeFit (l.append m) (max - r.length) = (l, m) := ih (by omega) fun q hq => by have := hnext q hq; omega
    rw [htail]

variable {max : Nat}

theorem doFetch_device (h : k.val < 16) : doFetch k max c s = nak s St.state := if_pos h

theorem doFetch_other (h : 16 ≤ k.val) (howns : s.ownsCh c.o k.val = false) : doFetch k max c s = rightsNak c s := by
  unfold doFetch
  rw [if_neg (Nat.not_lt.2 h), howns, Bool.not_false, if_pos rfl]

theorem doFetch_range (h : 16 ≤ k.val) (howns : s.ownsCh c.o k.val = true) (hmax : max < 16 ∨ 3968 < max) : doFetch k max c s = nak s St.range := by
  unfold doFetch
  rw [if_neg (Nat.not_lt.2 h), howns, Bool.not_true, if_neg Bool.false_ne_true, if_pos hmax]

/-- A fetch of the owner with a good MAX, where something waits or a fetch destination is there: past its tests. -/
theorem doFetch_open (h : 16 ≤ k.val) (howns : s.ownsCh c.o k.val = true) (hlo : 16 ≤ max) (hhi : max ≤ 3968)
    (hopen : s.sip.chs[k].fetch ≠ [] ∨ s.hasFetchDest (s.headOf k) (s.regs.SIP_CHc_VMAX k) = true) :
    ¬ k.val < 16 ∧ ¬ (!s.ownsCh c.o k.val) = true ∧ ¬ (max < 16 ∨ 3968 < max) ∧
      ¬ (s.sip.chs[k].fetch.isEmpty = true ∧ (!s.hasFetchDest (s.headOf k) (s.regs.SIP_CHc_VMAX k)) = true) := by
  refine ⟨Nat.not_lt.2 h, ?_, by omega, ?_⟩
  · rw [howns]
    exact Bool.false_ne_true
  · rintro ⟨hempty, hdest⟩
    rcases hopen with hne | hd
    · exact hne (List.isEmpty_iff.1 hempty)
    · rw [hd] at hdest
      cases hdest

theorem doFetch_taken {l m : List (List Byte)} (h : 16 ≤ k.val) (howns : s.ownsCh c.o k.val = true) (hlo : 16 ≤ max) (hhi : max ≤ 3968)
    (hopen : s.sip.chs[k].fetch ≠ [] ∨ s.hasFetchDest (s.headOf k) (s.regs.SIP_CHc_VMAX k) = true) (htake : takeFit s.sip.chs[k].fetch max = (l, m))
    (hsome : l ≠ [] ∨ m = []) : doFetch k max c s = ack (s.modCh k fun x => { x with fetch := m }) l.flatten := by
  obtain ⟨hch, hown, hmax, hgo⟩ := doFetch_open (c := c) h howns hlo hhi hopen
  unfold doFetch
  rw [if_neg hch, if_neg hown, if_neg hmax, if_neg hgo, htake]
  cases l with
  | nil =>
    obtain rfl := hsome.resolve_left (fun hne => hne rfl)
    rfl
  | cons r l => rfl

theorem doFetch_tooLong {q : List Byte} {m : List (List Byte)} (h : 16 ≤ k.val) (howns : s.ownsCh c.o k.val = true) (hlo : 16 ≤ max) (hhi : max ≤ 3968)
    (hfetch : s.sip.chs[k].fetch = q :: m) (hlong : max < q.length) : doFetch k max c s = (s, { status := St.ack, detail := q.length }) := by
  obtain ⟨hch, hown, hmax, hgo⟩ := doFetch_open (s := s) (k := k) (c := c) h howns hlo hhi (.inl (by rw [hfetch]; exact List.cons_ne_nil _ _))
  have htake : takeFit s.sip.chs[k].fetch max = ([], q :: m) := by
    rw [hfetch]
    exact if_neg (Nat.not_le.2 hlong)
  unfold doFetch
  rw [if_neg hch, if_neg hown, if_neg hmax, if_neg hgo, htake]

theorem doFetch_closed (h : 16 ≤ k.val) (howns : s.ownsCh c.o k.val = true) (hlo : 16 ≤ max) (hhi : max ≤ 3968) (hempty : s.sip.chs[k].fetch = [])
    (hdest : s.hasFetchDest (s.headOf k) (s.regs.SIP_CHc_VMAX k) = false) : doFetch k max c s = nak s St.state := by
  unfold doFetch
  rw [if_neg (Nat.not_lt.2 h), howns, Bool.not_true, if_neg Bool.false_ne_true, if_neg (by omega), hempty, hdest, if_pos ⟨rfl, rfl⟩]

theorem modCh_fetch_same (h : s.sip.chs[k].fetch = []) : (s.modCh k fun x => { x with fetch := [] }) = s := by
  have hid : vset s.sip.chs k (fun x => { x with fetch := [] }) = s.sip.chs := by
    have heq : ({ s.sip.chs[k] with fetch := [] } : ChSt) = s.sip.chs[k] := by rw [← h]
    show s.sip.chs.set k { s.sip.chs[k] with fetch := [] } = s.sip.chs
    rw [heq]
    exact Vector.set_getElem_self ..
  exact congrArg (fun v => ({ s with sip := { s.sip with chs := v } } : State)) hid

theorem exec_fetch_ack {u : State} {r : Reply} (hs : s.serves o = true) (hf : doFetch k max ((s.advance dt).ctx o 5) (s.advance dt) = (u, r)) (hack : r.status = 0)
    (hcp : u.cp = (s.advance dt).cp) (hclk : u.clk = (s.advance dt).clk) :
    exec (.fetch dt o k max) s = .next ({ u with cp := (s.advance dt).cpAfter o 5 r } : State).settle := by
  have h := State.entry_ack (s.advance dt) o 5 none (fun c s => doFetch k max c s) 1 false [] (leBytes 1 k.val ++ leBytes 1 0 ++ leBytes 2 (min max 65535)) false 0 u r
    hs (.inl (by decide)) hf hack
  refine exec_next_of rfl (h.trans ?_)
  rw [cpAfter_congr o 5 r hcp hclk]

theorem exec_fetch_refused {st detail : Nat} (hs : s.serves o = true)
    (hf : doFetch k max ((s.advance dt).ctx o 5) (s.advance dt) = nak (s.advance dt) st detail) (hv : isViolation st = true := by rfl) :
    ∃ t, exec (.fetch dt o k max) s = .next t ∧ t.but s = { s.advance dt with cp := t.cp, recs := t.recs } ∧ Refused s t dt o 5 st detail := by
  obtain ⟨hframe, hrefused⟩ := entry_refused s dt o 5 none (fun c s => doFetch k max c s) 1 false [] (leBytes 1 k.val ++ leBytes 1 0 ++ leBytes 2 (min max 65535)) false
    (s.advance dt) st detail hs (.inl (by decide)) hf hv (serves_phase hs) rfl rfl rfl
  exact ⟨_, exec_next_of rfl rfl, but_settle_of_frame hframe, hrefused⟩

end

/-! ## The three commands -/

section
variable {s : State} {dt : Nat} {k : Fin 32} {o : Origin} {max : Nat}

theorem ecc_filter (s : State) (a : Nat) (w : Word) (q : Nat × Bool) :
    q ∈ (s.sramWrite a (leBytes 4 w.toNat)).sip.ecc ↔ q ∈ s.sip.ecc ∧ (q.1 < a ∨ a < q.1) := by
  show q ∈ s.sip.ecc.filter (fun q => decide (q.1 < a ∨ a + 4 < q.1 + 4)) ↔ _
  rw [List.mem_filter, decide_eq_true_eq, Nat.add_lt_add_iff_right]

theorem recordEmit_enabled {r : Record} {rest : List Record} (hrun : s.running = true) (hout : s.recs.outbox = r :: rest) (hk : ringFor r.unit r.typ = some k)
    (hen : s.regs.RNG_r_CFG_EN k = true) :
    let u : State := { s with recs := { s.recs with outbox := rest } }
    let x : RingSt := s.sip.rings[k]
    let len : Nat := r.bytes.length
    let size : Nat := s.ringSize k
    let new : RingRec := ⟨x.wr, len, s.tbAt dt⟩
    (size < len → ∃ t, exec (.recordEmit dt) s = .next t ∧ RingKept s t k ∧ RingLost u t dt k 3) ∧
    (len ≤ size → size < len + ptrSub x.wr x.rd → s.regs.RNG_r_CFG_FULL k = true → ∃ t, exec (.recordEmit dt) s = .next t ∧
      RingKept s t k ∧ RingLost u t dt k 2) ∧
    (len + ptrSub x.wr x.rd ≤ size → ∃ t, exec (.recordEmit dt) s = .next t ∧ t.recs = u.recs ∧
      t.sip.rings = vset s.sip.rings k (fun x => { x with wr := ptrAdd x.wr len, recs := x.recs ++ [new] }) ∧
      InRing t k x.wr r.bytes ∧ RingOnly s t k ∧
      (∀ c : Fin 32, c.val < 16 →
        (bit (s.regs.SIP_CHc_RMASK c) k.val = true → s.regs.RNG_r_HI k ≤ ptrSub (ptrAdd x.wr len) x.rd → s.sip.chs[c].state = .idle →
          t.sip.chs[c] = { s.sip.chs[c] with state := .pending, flush := false }) ∧
        (bit (s.regs.SIP_CHc_RMASK c) k.val = false ∨ ptrSub (ptrAdd x.wr len) x.rd < s.regs.RNG_r_HI k → t.sip.chs[c] = s.sip.chs[c]))) ∧
    (∀ (q : RingRec) (more : List RingRec), x.recs = q :: more → s.regs.RNG_r_CFG_FULL k = false → s.sip.desc = none → s.regs.RNG_r_CFG_TAP_CH k = 0 →
      len ≤ size → size < len + ptrSub x.wr x.rd → len + ptrSub x.wr (ptrAdd q.pos q.len) ≤ size → ∃ t, exec (.recordEmit dt) s = .next t ∧
      t.sip.rings[k].recs = more ++ [new] ∧ t.sip.rings[k].rd = ptrAdd q.pos q.len ∧ t.sip.rings[k].wr = ptrAdd x.wr len ∧
      (∀ j, j ≠ k → t.sip.rings[j] = s.sip.rings[j]) ∧ InRing t k x.wr r.bytes ∧ RingOnly s t k ∧ RingLost u t dt k 1) := by
  intro u x len size new
  have hphase : u.pwr.phase = .running := run_phase hrun
  have hexec := exec_recordEmit (dt := dt) hrun hout hk
  have hlost {cause : Fin 5} (hcause : cause ≠ 4) (heq : (u.advance dt).ringWrite k r.bytes = (u.advance dt).ringLoss k cause) :
      ∃ t, exec (.recordEmit dt) s = .next t ∧ RingKept s t k ∧ RingLost u t dt k cause := by
    have hl := ringLoss_lost (s := u.advance dt) (k := k) hcause
    have hwrote := hl.ringLost hphase
    exact ⟨_, exec_next_of hexec heq, hl.kept, hwrote⟩
  refine ⟨fun hlong => hlost (by decide) (ringWrite_long (s := u.advance dt) hen hlong),
    fun hlen hroom hfull => hlost (by decide) (ringWrite_full (s := u.advance dt) hen hlen hroom hfull), fun hfits => ?_,
    fun q more hrecs hkeep hstill htap hlen hroom hnext => ?_⟩
  · have F := ringEnter_frame (u.advance dt) k r.bytes
    obtain ⟨hin, honly⟩ := ringEnter_bytes (s := u.advance dt) (k := k) (bs := r.bytes) (Nat.le_trans (Nat.le_add_right ..) hfits)
    exact ⟨_, exec_next_of hexec (ringWrite_fits (s := u.advance dt) hen hfits), F.keep .recs (by decide), ringEnter_rings .., hin, honly,
      fun c hc => ringEnter_channels (s := u.advance dt) hc⟩
  · obtain ⟨v, heq, F, hwr, hrd, hvrecs, hother, hsram, hcount, hquiet, hwrote⟩ :=
      ringWrite_overwrites (s := u.advance dt) hen hrecs hkeep hstill htap hlen hroom hnext
    have hregs : v.regs = s.regs := F.keep .regs (by decide)
    have htb : v.tb = s.tbAt dt := congrArg Clock.tb (F.keep .clk (by decide))
    have E := ringEnter_frame v k r.bytes
    have hsize : v.ringSize k = s.ringSize k := by
      unfold State.ringSize
      rw [hregs]
    obtain ⟨hin, honly⟩ := ringEnter_bytes (s := v) (k := k) (bs := r.bytes) (hsize ▸ hlen)
    have hring := ringEnter_ring v k r.bytes
    refine ⟨_, exec_next_of hexec heq, ?_, ?_, ?_, fun j hj => (ringEnter_other v r.bytes hj).trans (hother j hj), ?_, ?_, ?_, fun hk => ?_, fun hk hclosed => ?_⟩
    · show (v.ringEnter k r.bytes).sip.rings[k].recs = _
      rw [hring]
      show v.sip.rings[k].recs ++ [⟨v.sip.rings[k].wr, r.bytes.length, v.tb⟩] = _
      rw [hvrecs, hwr, htb]
      rfl
    · show (v.ringEnter k r.bytes).sip.rings[k].rd = _
      rw [hring]
      exact hrd
    · show (v.ringEnter k r.bytes).sip.rings[k].wr = _
      rw [hring]
      exact congrArg (fun p => ptrAdd p r.bytes.length) hwr
    · rw [hwr] at hin
      exact hin
    · intro a ha
      rw [← hregs, ← hsize] at ha
      exact (honly a ha).trans (sramAt_congr hsram a)
    · show (v.ringEnter k r.bytes).sip.rings[k].lost = _
      rw [hring]
      exact hcount
    · exact (E.keep .recs (by decide)).trans (hquiet hk)
    · exact (Wrote.next E (by decide) (hwrote hk hclosed hphase)).settle

theorem workSramWrite_refused {addr value : Word} (hw : s.writes o = true) :
    (addr.toNat % 4 ≠ 0 ∨ addr.toNat < 0x1000000 ∨ 0x1400000 ≤ addr.toNat → ∃ t, exec (.workSramWrite dt o addr value) s = .next t ∧
      t.but s = { s.advance dt with cp := t.cp, recs := t.recs } ∧ Refused s t dt o 2 St.range 0) ∧
    (addr.toNat % 4 = 0 → 0x1000000 ≤ addr.toNat → addr.toNat < 0x1380000 → ∃ t d, exec (.workSramWrite dt o addr value) s = .next t ∧
      t.but s = { s.advance dt with cp := t.cp, recs := t.recs } ∧ Refused s t dt o 2 St.rights d) := by
  refine ⟨fun hbad => ?_, fun halign hlo hhi => ?_⟩
  · refine exec_write_refused_only rfl hw (if_pos ?_)
    exact hbad.imp id areaOf_not_sram
  · obtain ⟨t, h⟩ := exec_write_refused_only (c := .workSramWrite dt o addr value) (dt := dt) rfl hw
      ((sramWrite_handler halign hlo (by omega)).trans (doSramWrite_outside (windowOf_none hhi)))
    exact ⟨t, _, h⟩

theorem workSramWrite_window {addr value : Word} (hw : s.writes o = true) (hk : 16 ≤ k.val) (halign : addr.toNat % 4 = 0) (hlo : windowBase k ≤ addr.toNat)
    (hhi : addr.toNat < windowBase k + 0x8000) :
    let a : Nat := addr.toNat
    let filled : Prop := s.car.rpl.state = 1 ∧ windowBase s.car.rpl.ch + s.car.rpl.base ≤ a ∧ a < windowBase s.car.rpl.ch + s.car.rpl.base + s.car.rpl.len
    (¬ filled → s.ownsCh o k.val = true → s.sip.chs[k].state = .idle ∨ s.sip.chs[k].state = .stopped → ∃ t, exec (.workSramWrite dt o addr value) s = .next t ∧
      t.but s = { s.advance dt with sip := { s.sip with sram := t.sip.sram, ecc := t.sip.ecc }, cp := (s.advance dt).cpWrote o } ∧
      (∀ q, q ∈ t.sip.ecc ↔ q ∈ s.sip.ecc ∧ (q.1 < a ∨ a < q.1)) ∧ SramPut s t a (leBytes 4 value.toNat)) ∧
    (filled ∨ (s.ownsCh o k.val = true ∧ s.sip.chs[k].state ≠ .idle ∧ s.sip.chs[k].state ≠ .stopped) → ∃ t, exec (.workSramWrite dt o addr value) s = .next t ∧
      t.but s = { s.advance dt with cp := t.cp, recs := t.recs } ∧ Refused s t dt o 2 St.state 0) ∧
    (¬ filled → s.ownsCh o k.val = false → ∃ t d, exec (.workSramWrite dt o addr value) s = .next t ∧
      t.but s = { s.advance dt with cp := t.cp, recs := t.recs } ∧ Refused s t dt o 2 St.rights d) := by
  intro a filled
  have hwin := windowOf_some hk hlo hhi
  have hlt := k.isLt
  have hin : 0x1000000 ≤ addr.toNat ∧ addr.toNat < 0x1400000 := by
    unfold windowBase at hlo hhi
    omega
  have hhandler {c : Ctx} {v : State} := sramWrite_handler (s := v) (c := c) (value := value) halign hin.1 hin.2
  refine ⟨fun hfree howns hstill => ?_, fun hbusy => ?_, fun hfree hother => ?_⟩
  · exact ⟨_, exec_write_ack rfl hw (hhandler.trans (doSramWrite_owner (s := s.advance dt) (c := (s.advance dt).ctx o 2) hwin hfree howns hstill)), rfl,
      ecc_filter (s.advance dt) a value, sramWrite_put _ _ _⟩
  · exact exec_write_refused_only rfl hw (hhandler.trans (doSramWrite_busy (s := s.advance dt) (c := (s.advance dt).ctx o 2) hwin hbusy))
  · obtain ⟨t, h⟩ := exec_write_refused_only (c := .workSramWrite dt o addr value) (dt := dt) rfl hw
      (hhandler.trans (doSramWrite_other (s := s.advance dt) (c := (s.advance dt).ctx o 2) hwin hfree hother))
    exact ⟨t, _, h⟩

theorem jcpRead_sram {addr : Word} (hs : s.serves o = true) (halign : addr.toNat % 4 = 0) (harea : areaOf addr.toNat = .sram) :
    let a : Nat := addr.toNat
    let read (sip : SipSt) (r : Reply) : Prop := ∃ t, exec (.jcpRead dt o addr 1) s = .next t ∧ t.but s = { s.advance dt with sip := sip, cp := (s.advance dt).cpAfter o 1 r }
    ((∀ q ∈ s.sip.ecc, q.1 ≠ a) → read s.sip { status := St.ack, data := s.sramRead a 4 }) ∧
    (s.sip.ecc.find? (fun q => q.1 == a) = some (a, true) →
      read { s.sip with uncorr := satInc 16 s.sip.uncorr } { status := St.ack, detail := 0x0ECC, index := 0, data := s.sramRead a 4 }) ∧
    (s.sip.ecc.find? (fun q => q.1 == a) = some (a, false) → (a, true) ∉ s.sip.ecc →
      read { s.sip with corr := satInc 16 s.sip.corr } { status := St.ack, data := s.sramRead a 4 }) := by
  intro a read
  have hread := doRead_sram (s := s.advance dt) (c := (s.advance dt).ctx o 1) halign harea
  refine ⟨fun hnone => ?_, fun huncorr => ?_, fun hcorr hno => ?_⟩
  · have hfind : (s.advance dt).sip.ecc.find? (fun q => q.1 == addr.toNat) = none :=
      List.find?_eq_none.2 fun q hq h => hnone q hq (beq_iff_eq.1 h)
    have hmeet : (s.advance dt).sramMeet addr.toNat = s.advance dt := by
      unfold State.sramMeet
      rw [hfind]
    have hno : ¬ (s.advance dt).sip.ecc.contains (addr.toNat, true) = true := fun h => hnone _ (List.contains_iff_mem.1 h) rfl
    rw [hmeet, if_neg hno] at hread
    exact ⟨_, exec_jcpRead_sram hs hread rfl rfl rfl, rfl⟩
  · have hfind : (s.advance dt).sip.ecc.find? (fun q => q.1 == addr.toNat) = some (a, true) := huncorr
    have hmeet : (s.advance dt).sramMeet addr.toNat = (s.advance dt).onSip fun x => { x with uncorr := satInc 16 x.uncorr } := by
      unfold State.sramMeet
      rw [hfind]
    rw [hmeet, if_pos (List.contains_iff_mem.2 (List.mem_of_find?_eq_some hfind))] at hread
    exact ⟨_, exec_jcpRead_sram hs hread rfl rfl rfl, rfl⟩
  · have hfind : (s.advance dt).sip.ecc.find? (fun q => q.1 == addr.toNat) = some (a, false) := hcorr
    have hmeet : (s.advance dt).sramMeet addr.toNat = (s.advance dt).onSip fun x => { x with corr := satInc 16 x.corr } := by
      unfold State.sramMeet
      rw [hfind]
    have hclear : ¬ (s.advance dt).sip.ecc.contains (addr.toNat, true) = true := fun h => hno (List.contains_iff_mem.1 h)
    rw [hmeet, if_neg hclear] at hread
    exact ⟨_, exec_jcpRead_sram hs hread rfl rfl rfl, rfl⟩

theorem hasFetchDest_advance (s : State) (dt a m : Nat) : (s.advance dt).hasFetchDest a m = s.hasFetchDest a m := by
  induction m generalizing a with
  | zero => rfl
  | succ m ih =>
    unfold State.hasFetchDest
    dsimp only
    rw [ih]
    rfl

theorem fetch_owner (hs : s.serves o = true) (hk : 16 ≤ k.val) (howns : s.ownsCh o k.val = true) (hlo : 16 ≤ max) (hhi : max ≤ 3968) :
    (∀ l m : List (List Byte), s.sip.chs[k].fetch = l ++ m → l ≠ [] → (l.map List.length).sum ≤ max →
      (∀ q, m.head? = some q → max < (l.map List.length).sum + q.length) → ∃ t, exec (.fetch dt o k max) s = .next t ∧
      t.but s = { s.advance dt with
        sip := { s.sip with chs := vset s.sip.chs k (fun x => { x with fetch := m }) }
        cp := (s.advance dt).cpAfter o 5 { status := St.ack, data := l.flatten } }) ∧
    (∀ (q : List Byte) (m : List (List Byte)), s.sip.chs[k].fetch = q :: m → max < q.length → ∃ t, exec (.fetch dt o k max) s = .next t ∧
      t.but s = { s.advance dt with cp := (s.advance dt).cpAfter o 5 { status := St.ack, detail := q.length } }) ∧
    (s.sip.chs[k].fetch = [] → let dest : Bool := s.hasFetchDest (s.headOf k) (s.regs.SIP_CHc_VMAX k)
      (dest = true → ∃ t, exec (.fetch dt o k max) s = .next t ∧ t.but s = { s.advance dt with cp := (s.advance dt).cpAfter o 5 { status := St.ack } }) ∧
      (dest = false → ∃ t, exec (.fetch dt o k max) s = .next t ∧ t.but s = { s.advance dt with cp := t.cp, recs := t.recs } ∧ Refused s t dt o 5 St.state 0)) := by
  refine ⟨fun l m hfetch hl hfit hnext => ?_, fun q m hfetch hlong => ?_, fun hempty => ⟨fun hdest => ?_, fun hdest => ?_⟩⟩
  · have hne : s.sip.chs[k].fetch ≠ [] := by
      rw [hfetch]
      exact List.append_ne_nil_of_left_ne_nil hl _
    have htake : takeFit s.sip.chs[k].fetch max = (l, m) := by
      rw [hfetch]
      exact takeFit_split hfit hnext
    exact ⟨_, exec_fetch_ack hs (doFetch_taken (s := s.advance dt) (c := (s.advance dt).ctx o 5) hk howns hlo hhi (.inl hne) htake (.inl hl)) rfl rfl rfl, rfl⟩
  · exact ⟨_, exec_fetch_ack hs (doFetch_tooLong (s := s.advance dt) (c := (s.advance dt).ctx o 5) hk howns hlo hhi hfetch hlong) rfl rfl rfl, rfl⟩
  · have htake : takeFit s.sip.chs[k].fetch max = ([], []) := by
      rw [hempty]
      rfl
    have hf := doFetch_taken (s := s.advance dt) (c := (s.advance dt).ctx o 5) hk howns hlo hhi (.inr ((hasFetchDest_advance ..).trans hdest)) htake (.inr rfl)
    rw [modCh_fetch_same (s := s.advance dt) hempty] at hf
    exact ⟨_, exec_fetch_ack hs hf rfl rfl rfl, rfl⟩
  · exact exec_fetch_refused hs (doFetch_closed (s := s.advance dt) (c := (s.advance dt).ctx o 5) hk howns hlo hhi hempty ((hasFetchDest_advance ..).trans hdest))

end

/-! ## The ring of a source -/

theorem ringFor_axis (n : Fin 6) (typ : Nat) (h8 : typ ≠ 8) (h7 : typ ≠ 7) :
    ringFor (0x10 + n.val) typ = some (if typ = 1 then Fin.ofNat 32 (10 + n.val) else Fin.ofNat 32 (4 + n.val)) ∧ ringFor (0x60 + n.val) typ = some 24 := by
  have hn := n.isLt
  refine ⟨?_, ?_⟩
  · unfold ringFor
    rw [if_neg h8, if_neg h7, if_neg (by omega), if_pos (by omega), Nat.add_sub_cancel_left]
  · unfold ringFor
    rw [if_neg h8, if_neg h7, if_neg (by omega), if_neg (by omega), if_neg (by omega), if_neg (by omega), if_neg (by omega), if_neg (by omega), if_neg (by omega),
      if_pos (by omega)]

theorem ringFor_auxAxis (n : Fin 4) (typ : Nat) (h8 : typ ≠ 8) (h7 : typ ≠ 7) : ringFor (0x20 + n.val) typ = some (Fin.ofNat 32 (16 + n.val)) := by
  have hn := n.isLt
  unfold ringFor
  rw [if_neg h8, if_neg h7, if_neg (by omega), if_neg (by omega), if_pos (by omega), Nat.add_sub_cancel_left]

/-- Settles O49: a record that enters its ring or is lost, the rings of the sources, writes and reads of work SRAM, and FETCH. -/
theorem recordsInRings : Obligations.RecordsInRings := by
  unfold Obligations.RecordsInRings
  intro s dt hrun
  refine ⟨fun hout => ⟨_, exec_next_of (exec_recordEmit_none hout) rfl, rfl⟩,
    fun r rest hout => ⟨fun hnone => ⟨_, exec_next_of (exec_recordEmit_dropped hrun hout hnone) rfl, rfl⟩,
      fun k hk => ⟨fun hoff => ?_, fun hen => recordEmit_enabled hrun hout hk hen⟩⟩,
    fun unit => ⟨rfl, rfl⟩, ringFor_axis, ringFor_auxAxis,
    fun o addr value hw => ⟨(workSramWrite_refused hw).1, (workSramWrite_refused hw).2, fun k hk halign hlo hhi => workSramWrite_window hw hk halign hlo hhi⟩,
    fun o addr hs halign harea => jcpRead_sram hs halign harea,
    fun o k max hs => ⟨fun hk => ?_, fun hk howns => ?_, fun hk howns => ⟨fun hmax => ?_, fun hlo hhi => fetch_owner hs hk howns hlo hhi⟩⟩⟩
  · exact ⟨_, exec_next_of (exec_recordEmit hrun hout hk)
      (ringWrite_off (s := ({ s with recs := { s.recs with outbox := rest } } : State).advance dt) hoff), rfl⟩
  · exact exec_fetch_refused hs (doFetch_device hk)
  · obtain ⟨t, h⟩ := exec_fetch_refused (dt := dt) (max := max) hs (doFetch_other (s := s.advance dt) (c := (s.advance dt).ctx o 5) hk howns)
    exact ⟨t, _, h⟩
  · exact exec_fetch_refused hs (doFetch_range (s := s.advance dt) (c := (s.advance dt).ctx o 5) hk howns hmax)

end Sys2Proof.Machine
end

section
/-! PROOF. The operations of the recorder (R473 to R490): pages, erases, reads, timeouts, scrub, levelling and waits. -/
set_option Elab.async false

namespace Sys2Proof.Machine

/-! ## What the recorder's operations leave alone -/

theorem Frame.newBlk (t : State) (on : Option Nat) (kind : BlkKind) : Frame [.ks, .car] t (State.newBlk t on kind).1 := by
  have h := Frame.refl [.ks, .car] t
  unfold State.newBlk
  extract_lets +onlyGivenNames _ take
  split
  · unfold take
    extract_lets +onlyGivenNames _ _
    dsimp only
    exact ((h.frame (Frame.onCar ..)).frame (Frame.nandErase ..))
  · split
    · unfold take
      extract_lets +onlyGivenNames _ _
      dsimp only
      exact ((h.frame (Frame.onCar ..)).frame (Frame.nandErase ..))
    · exact h

theorem Frame.metaWrite (t : State) : Frame [.ks, .car] t (State.metaWrite t) := by
  have h := Frame.refl [.ks, .car] t
  unfold State.metaWrite
  split
  · exact h
  · extract_lets _ _ _ _ here logs closed q
    have hclosed : Frame [.ks, .car] t closed := h.frame (Frame.onCar ..)
    have hq : Frame [.ks, .car] t q.1 := by
      unfold q
      clear_value here
      split
      · exact h
      · split
        · exact (hclosed.frame (Frame.newBlk ..))
        · split
          · exact ((hclosed.frame (Frame.modBlk ..)).frame (Frame.nandErase ..))
          · exact hclosed
    split
    · exact hq
    · extract_lets written
      have hwritten : Frame [.ks, .car] t written :=
        hq.foldlFrom fun _ _ hx => ((hx.frame (Frame.onCar ..)).frame (Frame.modBlk ..)).frame (Frame.nandPush ..)
      exact hwritten.frame (Frame.onCar ..)

theorem Frame.refresh (t : State) (b : Nat) (reason : Nat) (to' : Option Nat) : Frame [.ks, .car] t (State.refresh t b reason to') := by
  have h := Frame.refl [.ks, .car] t
  unfold State.refresh
  split
  · exact h
  · split
    · exact h
    · extract_lets +onlyGivenNames s1
      have h1 : Frame [.ks, .car] t s1.1 := by
        unfold s1
        split
        · dsimp only
          exact ((h.frame (Frame.onCar ..)).frame (Frame.nandErase ..))
        · exact (h.frame (Frame.newBlk ..))
      split
      · exact h1
      · exact Frame.ite h ((h1.frame (Frame.modBlk ..)).frame (Frame.nandPush ..))

theorem Frame.blkBad (t : State) (b : Nat) (why : Nat) : Frame [.ks, .recs, .car] t (State.blkBad t b why) := by
  have h := Frame.refl [.ks, .recs, .car] t
  unfold State.blkBad
  extract_lets +onlyGivenNames _
  exact ((((h.frame (Frame.onCar ..)).frame (Frame.carRec ..)).frame (Frame.stageEval ..)).frame (Frame.metaWrite ..))

theorem Frame.blkReplace (t : State) (b : Nat) (why : Nat) (lost : Nat) (time : Option Nat) : Frame [.ks, .car] (t.blkBad b why) (State.blkReplace t b why lost time) := by
  have h := Frame.refl [.ks, .car] (t.blkBad b why)
  unfold State.blkReplace
  extract_lets +onlyGivenNames was _
  clear_value was
  split
  · exact h
  · split
    · exact h
    · extract_lets +onlyGivenNames _
      split
      · extract_lets +onlyGivenNames _
        split
        · exact ((h.frame (Frame.newBlk ..)).frame (Frame.onCar ..)).frame (Frame.onCar ..)
        · exact (h.frame (Frame.newBlk ..)).frame (Frame.onCar ..)
      · extract_lets +onlyGivenNames _ _ _
        exact ((((h.frame (Frame.newBlk ..)).frame (Frame.onCar ..)).frame (Frame.modBlk ..)).frame (Frame.metaWrite ..))

theorem Frame.rplWrite (t : State) (n : Nat) : Frame [.sip, .car] t (t.rplWrite n) := by
  induction n generalizing t with
  | zero => exact Frame.refl _ t
  | succ n ih =>
    have h := Frame.refl [.sip, .car] t
    unfold State.rplWrite
    extract_lets
    split
    · exact h
    · extract_lets
      split
      · exact h
      · exact (((h.frame (Frame.sramWrite ..)).frame (Frame.sramWrite ..)).frame (Frame.modRpl ..)).trans (ih _)

theorem Frame.rplRun (t : State) : Frame [.recs, .sip, .car] t (State.rplRun t) := by
  have h := Frame.refl [.recs, .sip, .car] t
  exact (h.frame (Frame.rplWrite ..)).frame (Frame.rplNext ..)

theorem Frame.targetLost (t : State) (target : Fin 4) (cause : Nat) (op : Nat) : Frame [.recs, .sip, .car] t (State.targetLost t target cause op) := by
  have h := Frame.refl [.recs, .sip, .car] t
  unfold State.targetLost
  extract_lets +onlyGivenNames _ _ s1
  have h1 : Frame [.recs, .sip, .car] t s1 := ((h.frame (Frame.onCar ..)).frame (Frame.carRec ..)).frame (Frame.stageEval ..)
  exact Frame.ite (((h1.frame (Frame.rplPass ..)).frame (Frame.rplRun ..))) h1

section
variable {s t u : State} {dt : Nat} {e : Shown} {l : List Shown}

/-! ## Records that come first -/

/-- What has been written since `s` begins with `l`, and what is written yet follows it. -/
structure Begins (s t : State) (l : List Shown) : Prop where
  phase : t.pwr.phase = .running
  regs : t.regs = s.regs
  wrote : ∃ more, Wrote s t (l ++ more)

theorem Begins.of_wrote (hphase : t.pwr.phase = .running) (hregs : t.regs = s.regs) (h : Wrote s t l) : Begins s t l :=
  ⟨hphase, hregs, [], (List.append_nil l).symm ▸ h⟩

theorem Begins.next {K : List StPart} (F : Frame K t u) (h : Begins s t l) (hrecs : .recs ∉ K := by decide) (hregs : .regs ∉ K := by decide)
    (hpwr : .pwr ∉ K := by decide) : Begins s u l := by
  obtain ⟨more, hwrote⟩ := h.wrote
  exact ⟨(congrArg (·.phase) (F.keep .pwr hpwr)).trans h.phase, (F.keep .regs hregs).trans h.regs, more, hwrote.next F hrecs⟩

theorem Begins.carRec {time code detail a b : Nat} (h : Begins s t l) : Begins s (t.carRec time code detail a b) l := by
  obtain ⟨more, hwrote⟩ := h.wrote
  refine ⟨(congrArg (·.phase) ((Frame.carRec t time code detail a b).keep .pwr (by decide))).trans h.phase,
    ((Frame.carRec t time code detail a b).keep .regs (by decide)).trans h.regs, more ++ [carOf time code detail a b], ?_⟩
  rw [← List.append_assoc]
  exact Wrote.emit s t _ _ hwrote h.phase h.regs _ _ _ _ _ rfl

/-- A RECORDER record, where nothing has been written before it. -/
theorem carRec_begins {time code detail a b : Nat} (hphase : t.pwr.phase = .running) (hregs : t.regs = s.regs) (hrecs : t.recs = s.recs) :
    Begins s (t.carRec time code detail a b) [carOf time code detail a b] :=
  .of_wrote (((congrArg (·.phase) ((Frame.carRec t time code detail a b).keep .pwr (by decide)))).trans hphase)
    (((Frame.carRec t time code detail a b).keep .regs (by decide)).trans hregs)
    (Wrote.emit s t _ [] (Wrote.none s t (by rw [hrecs])) hphase hregs _ _ _ _ _ rfl)

/-- A further one behind what has been written so far. -/
theorem carRec_begins_next {time code detail a b : Nat} (hphase : t.pwr.phase = .running) (hregs : t.regs = s.regs) (h : Wrote s t l) :
    Begins s (t.carRec time code detail a b) (l ++ [carOf time code detail a b]) :=
  .of_wrote (((congrArg (·.phase) ((Frame.carRec t time code detail a b).keep .pwr (by decide)))).trans hphase)
    (((Frame.carRec t time code detail a b).keep .regs (by decide)).trans hregs) (Wrote.emit s t _ l h hphase hregs _ _ _ _ _ rfl)

theorem Begins.stageEval (h : Begins s t l) : Begins s t.stageEval l := by
  unfold State.stageEval
  dsimp only
  split
  · exact h
  · exact (h.next (Frame.onCar ..)).carRec

theorem Begins.rplEnd {how : Nat} (h : Begins s t l) : Begins s (t.rplEnd how) l := by
  unfold State.rplEnd
  exact ((h.next (Frame.modRpl ..)).next (Frame.onCar ..)).carRec

theorem Begins.rplNext (h : Begins s t l) : Begins s t.rplNext l := by
  unfold State.rplNext
  extract_lets _ _ _ u
  have hpass : Begins s u l := h.next (Frame.rplPass ..)
  clear_value u
  split
  · exact h
  · split
    · exact hpass.rplEnd
    · split
      · exact hpass.rplEnd
      · exact (hpass.next (Frame.modRpl ..)).next (Frame.nandPush ..)

theorem Begins.rplRun (h : Begins s t l) : Begins s t.rplRun l := (h.next (Frame.rplWrite ..)).rplNext

/-! ## A stream page (R475, R476) -/

variable {k : Fin 4} {since tg : Nat} {x y : Blk} {data : List Byte} {first : Option (Nat × Nat)}

/-- A page for an open block with room behind it. -/
theorem programPage_open (hturn : (s.turns s.car.nextTgt).head? = some tg)
    (hopen : s.car.blks.find? (fun x => x.kind == .ring && x.isOpen && s.targetOf x.b == tg) = some x)
    (hblk : s.carBlk x.b = some y) (hroom : y.pages + 1 < s.carPpb) :
    ∃ f, s.programPage k data first
      = ((s.onCar fun c => { c with seq := c.seq + 1, nextTgt := (tg + 1) % 4 }).modBlk x.b f).nandPushStream x.b
          (.program x.b y.pages (s.pageTag x.b (s.car.seq + 1) 1 k.val data.length (first.getD (0xFFFF, 0)).1 (first.getD (0xFFFF, 0)).2) (s.pageMain data)) := by
  have hfull : decide (s.carPpb ≤ y.pages + 1) = false := decide_eq_false (by omega)
  have hblk' : (s.onCar fun c => { c with seq := c.seq + 1, nextTgt := (tg + 1) % 4 }).carBlk x.b = some y := hblk
  have hppb : (s.onCar fun c => { c with seq := c.seq + 1, nextTgt := (tg + 1) % 4 }).carPpb = s.carPpb := rfl
  unfold State.programPage
  dsimp only
  rw [hturn]
  dsimp only
  rw [hopen]
  dsimp only
  rw [hblk']
  dsimp only
  rw [hppb, hfull]
  exact ⟨_, rfl⟩

/-- The operation programs or erases block `b` (R476). -/
def NandAct.alters (b : Nat) : NandAct → Bool
  | .program c _ _ _ | .erase c => c == b
  | .read .. | .move .. => false

/-- The operation at a place of the queue is one on a target; is one of the maintenance. -/
def State.onTargetAt (s : State) (tg i : Nat) : Bool :=
  match s.car.ops[i]? with
  | some o => s.onTarget o tg
  | none => false
def State.maintAt (s : State) (i : Nat) : Bool :=
  match s.car.ops[i]? with
  | some o => o.act.maint
  | none => false

theorem onTargetAt_of_getElem? {i : Nat} {o : NandOp} (h : s.car.ops[i]? = some o) : s.onTargetAt tg i = s.onTarget o tg := by
  unfold State.onTargetAt
  rw [h]

theorem maintAt_of_getElem? {i : Nat} {o : NandOp} (h : s.car.ops[i]? = some o) : s.maintAt i = o.act.maint := by
  unfold State.maintAt
  rw [h]

theorem streamPlace_eq (s : State) (b : Nat) : s.streamPlace b
    = max (s.car.ops.length - s.car.ops.reverse.findIdx (fun o => o.act.alters b))
        (((((List.range s.car.ops.length).filter (s.onTargetAt (s.targetOf b))).drop 1).find? s.maintAt).getD s.car.ops.length) := rfl

/-- Where a stream page enters the queue of the NAND depends on what waits there. -/
theorem streamPlace_congr {b : Nat} (hops : t.car.ops = s.car.ops) (hregs : t.regs = s.regs) : t.streamPlace b = s.streamPlace b := by
  have hon : t.onTarget = s.onTarget := by
    unfold State.onTarget State.targetOf
    rw [hregs]
  have htarget : t.targetOf = s.targetOf := by
    unfold State.targetOf
    rw [hregs]
  unfold State.streamPlace
  rw [hops, hon, htarget]

/-- Behind everything, where no maintenance waits. -/
theorem streamPlace_last {b : Nat} (h : ∀ m ∈ s.car.ops, m.act.maint = false) : s.car.ops.length ≤ s.streamPlace b := by
  have hnone (l : List Nat) : l.find? s.maintAt = none := by
    refine List.find?_eq_none.2 fun i _ hm => ?_
    cases ho : s.car.ops[i]? with
    | none =>
      unfold State.maintAt at hm
      rw [ho] at hm
      cases hm
    | some o =>
      rw [maintAt_of_getElem? ho, h o (List.mem_of_getElem? ho)] at hm
      cases hm
  rw [streamPlace_eq, hnone]
  exact Nat.le_max_right ..

/-- Of a list that rises, an element that satisfies `p` does not stand before the first one that does. -/
theorem find?_le_of_sorted {l : List Nat} {p : Nat → Bool} {d j : Nat} (hl : l.Pairwise (· < ·)) (hj : j ∈ l) (hp : p j = true) :
    (l.find? p).getD d ≤ j := by
  induction l with
  | nil => cases hj
  | cons a l ih =>
    obtain ⟨hlt, hl⟩ := List.pairwise_cons.1 hl
    by_cases ha : p a = true
    · rw [List.find?_cons_of_pos ha]
      obtain rfl | hj := List.mem_cons.1 hj
      · exact le_refl _
      · exact (hlt j hj).le
    · rw [List.find?_cons_of_neg ha]
      obtain rfl | hj := List.mem_cons.1 hj
      · exact absurd hp ha
      · exact ih hl hj

/-- The later of two elements of a list that rises is not its first one. -/
theorem mem_drop_one_of_lt {l : List Nat} {i j : Nat} (hl : l.Pairwise (· < ·)) (hi : i ∈ l) (hj : j ∈ l) (hlt : i < j) : j ∈ l.drop 1 := by
  cases l with
  | nil => cases hi
  | cons a l =>
    obtain ⟨hless, -⟩ := List.pairwise_cons.1 hl
    obtain rfl | hj := List.mem_cons.1 hj
    · obtain rfl | hi := List.mem_cons.1 hi
      · exact absurd hlt (lt_irrefl _)
      · exact absurd (hless i hi) (by omega)
    · exact hj

/-- Before it, of the maintenance of its target, only what is the target's first operation (R476). -/
theorem streamPlace_before {b : Nat} (hown : ∀ m ∈ s.car.ops, m.act.site.1 ≠ b) {i j : Nat} {m n : NandOp} (hij : i < j) (hj : j < s.streamPlace b)
    (hm : s.car.ops[j]? = some m) (hn : s.car.ops[i]? = some n) (hmaint : m.act.maint = true) (hmt : s.onTarget m (s.targetOf b) = true) :
    s.onTarget n (s.targetOf b) = false := by
  by_contra hnt
  rw [Bool.not_eq_false] at hnt
  have hfind : s.car.ops.reverse.findIdx (fun o => o.act.alters b) = s.car.ops.length := by
    rw [← List.length_reverse]
    refine List.findIdx_eq_length_of_false fun o ho => ?_
    have hsite := hown o (List.mem_reverse.1 ho)
    obtain ⟨act, since, again⟩ := o
    cases act with
    | program c p tag main => exact beq_false_of_ne hsite
    | erase c => exact beq_false_of_ne hsite
    | read c p why => rfl
    | move c d r => rfl
  have hmem {k : Nat} {o : NandOp} (ho : s.car.ops[k]? = some o) (hot : s.onTarget o (s.targetOf b) = true) :
      k ∈ (List.range s.car.ops.length).filter (s.onTargetAt (s.targetOf b)) :=
    List.mem_filter.2 ⟨List.mem_range.2 (List.getElem?_eq_some_iff.1 ho).1, (onTargetAt_of_getElem? ho).trans hot⟩
  have hrise := (List.pairwise_lt_range (n := s.car.ops.length)).filter (s.onTargetAt (s.targetOf b))
  have hplace : s.streamPlace b ≤ j := by
    rw [streamPlace_eq, hfind, Nat.sub_self, Nat.zero_max]
    exact find?_le_of_sorted (hrise.sublist (List.drop_sublist ..)) (mem_drop_one_of_lt hrise (hmem hn hnt) (hmem hm hmt) hij)
      ((maintAt_of_getElem? hm).trans hmaint)
  omega

theorem exec_streamFlush_due (hrun : s.running = true) (hst : s.car.st = 2) (hsince : s.car.streams[k].since = some since)
    (hdue : since + nsOf (s.regs.CAR_STRs_FLUSH k) ≤ s.tbAt dt) (hbuf : s.car.streams[k].buf ≠ []) :
    exec (.streamFlush dt k) s = done (((s.advance dt).programPage k s.car.streams[k].buf s.car.streams[k].first).modStream k fun y =>
      { y with buf := [], first := none, since := none }) := by
  have hsince' : (s.advance dt).car.streams[k].since = some since := hsince
  have hready : ((s.advance dt).carReady && decide (since + nsOf ((s.advance dt).regs.CAR_STRs_FLUSH k) ≤ (s.advance dt).tb)
      && !(s.advance dt).car.streams[k].buf.isEmpty) = true := by
    rw [Bool.and_eq_true, Bool.and_eq_true, Bool.not_eq_true', List.isEmpty_eq_false_iff]
    exact ⟨⟨Bool.and_eq_true_iff.2 ⟨hrun, beq_iff_eq.2 hst⟩, decide_eq_true hdue⟩, hbuf⟩
  show execStreamFlush dt k s = _
  unfold execStreamFlush
  dsimp only
  rw [hsince']
  dsimp only
  rw [hready]
  rfl

theorem exec_streamFlush_early (hsince : s.car.streams[k].since = some since) (hearly : s.tbAt dt < since + nsOf (s.regs.CAR_STRs_FLUSH k)) :
    exec (.streamFlush dt k) s = done (s.advance dt) := by
  have hsince' : (s.advance dt).car.streams[k].since = some since := hsince
  have hready : ((s.advance dt).carReady && decide (since + nsOf ((s.advance dt).regs.CAR_STRs_FLUSH k) ≤ (s.advance dt).tb)
      && !(s.advance dt).car.streams[k].buf.isEmpty) = false := by
    have hlate : decide (since + nsOf ((s.advance dt).regs.CAR_STRs_FLUSH k) ≤ (s.advance dt).tb) = false := decide_eq_false (Nat.not_le.2 hearly)
    rw [hlate, Bool.and_false, Bool.false_and]
  show execStreamFlush dt k s = _
  unfold execStreamFlush
  dsimp only
  rw [hsince']
  dsimp only
  rw [hready]
  rfl

theorem exec_streamFlush_programs (hrun : s.running = true) (hsince : s.car.streams[k].since = some since) (hst : s.car.st = 2)
    (hdue : since + nsOf (s.regs.CAR_STRs_FLUSH k) ≤ s.tbAt dt) (hbuf : s.car.streams[k].buf ≠ []) (hturn : (s.turns s.car.nextTgt).head? = some tg)
    (hopen : s.car.blks.find? (fun x => x.kind == .ring && x.isOpen && s.targetOf x.b == tg) = some x)
    (hblk : s.carBlk x.b = some y) (hroom : y.pages + 1 < s.carPpb) :
    ∃ t, exec (.streamFlush dt k) s = .next t ∧
      (∃ i, t.car.ops = s.car.ops.take i ++ ⟨.program x.b y.pages
          (let at' : Nat × Nat := s.car.streams[k].first.getD (0xFFFF, 0);
            s.pageTag x.b (s.car.seq + 1) 1 k.val s.car.streams[k].buf.length at'.1 at'.2) (s.pageMain s.car.streams[k].buf), s.tbAt dt, false⟩ :: s.car.ops.drop i ∧
        ((∀ m ∈ s.car.ops, m.act.maint = false) → s.car.ops.length ≤ i) ∧
        ((∀ m ∈ s.car.ops, m.act.site.1 ≠ x.b) → ∀ (j j' : Nat) (m m' : NandOp), j' < j → j < i → s.car.ops[j]? = some m → s.car.ops[j']? = some m' → m.act.maint = true →
          s.onTarget m tg = true → s.onTarget m' tg = false)) ∧
      t.car.streams = vset s.car.streams k (fun z => { z with buf := [], first := none, since := none }) ∧
      t.car.seq = s.car.seq + 1 ∧ t.car.nextTgt = (tg + 1) % 4 ∧ t.recs = s.recs ∧ t.sip = s.sip ∧ t.regs = s.regs := by
  obtain ⟨f, hpage⟩ := programPage_open (s := s.advance dt) (k := k) (data := s.car.streams[k].buf) (first := s.car.streams[k].first) hturn hopen hblk hroom
  have htarget : s.targetOf x.b = tg := by
    have hx := List.find?_some hopen
    rw [Bool.and_eq_true, beq_iff_eq] at hx
    exact hx.2
  have hplace : State.streamPlace (((s.advance dt).onCar fun c => { c with seq := c.seq + 1, nextTgt := (tg + 1) % 4 }).modBlk x.b f) x.b = s.streamPlace x.b :=
    streamPlace_congr rfl rfl
  refine ⟨_, (exec_streamFlush_due hrun hst hsince hdue hbuf).trans (congrArg (fun u => done (u.modStream k fun y => { y with buf := [], first := none, since := none })) hpage),
    ⟨s.streamPlace x.b, ?_, streamPlace_last, ?_⟩,
    ?_, ?_, ?_, ?_, ?_, ?_⟩
  · rw [← hplace]
    rfl
  · rw [← htarget]
    exact fun hown j j' m m' hlt hj hm hm' hmaint hon => streamPlace_before hown hlt hj hm hm' hmaint hon
  · rfl
  · rfl
  · rfl
  · rfl
  · rfl
  · rfl

/-! ## The META log (R474) -/

theorem length_flatten_map {α : Type} {f : α → List Byte} {n : Nat} (l : List α) (h : ∀ x, (f x).length = n) : ((l.map f).flatten).length = l.length * n := by
  induction l with
  | nil => exact (Nat.zero_mul n).symm
  | cons x l ih =>
    rw [List.map_cons, List.flatten_cons, List.length_append, ih, h, List.length_cons]
    ring

theorem leBytes_length (n x : Nat) : (leBytes n x).length = n := by
  induction n generalizing x with
  | zero => rfl
  | succ n ih => exact congrArg (· + 1) (ih _)

theorem metaBytes_length (s : State) : s.metaBytes.length = 5208 := by
  unfold State.metaBytes
  extract_lets lists offs pins
  simp only [List.length_append]
  rw [length_flatten_map (n := 32) (List.range 16) fun _ => rfl, length_flatten_map (n := 16) (List.range 4) fun _ => rfl]
  simp only [List.length_map, List.length_range, List.length_take, List.length_replicate, zeros, leBytes_length]
  omega

theorem metaBytes_head (s : State) : s.metaBytes.take 8 = [0x4A, 0x4E, 0x43, 0x46, 1, 0, 0, 0] := by
  unfold State.metaBytes
  simp only [List.append_assoc]
  rfl

/-- What tells the tag of a page: the erase counts of the keep-store. -/
theorem pageTag_congr {b seq area id valid at' time : Nat} (hks : t.ks = s.ks) : t.pageTag b seq area id valid at' time = s.pageTag b seq area id valid at' time := by
  unfold State.pageTag State.ec State.ecOf State.ksRead
  rw [hks]

theorem pageMain_congr (hregs : t.regs = s.regs) : t.pageMain data = s.pageMain data := by
  unfold State.pageMain State.carPage
  rw [hregs]

/-- Page `i` of a META entry, programmed on block `b`. -/
def State.metaPage (b page : Nat) (bytes : List Byte) (s : State) (i : Nat) : State :=
  let p := match s.carBlk b with | some x => x.pages | none => 0
  let part := (bytes.drop (i * page)).take page
  ((s.onCar (fun x => { x with seq := x.seq + 1 })).modBlk b (fun x => { x with seqs := x.seqs ++ [s.car.seq + 1] })).nandPush
    (.program b p (s.pageTag b (s.car.seq + 1) 3 0 part.length (if i = 0 then 0 else 0xFFFF) 0) (s.pageMain part))

theorem metaWrite_open (hst : s.car.st = 2)
    (hopen : s.car.blks.find? (fun x => x.kind == .metaLog && x.isOpen && decide (x.pages + (10416 + s.carPage - 1) / s.carPage ≤ s.carPpb)) = some x) :
    s.metaWrite = ((List.range ((10416 + s.carPage - 1) / s.carPage)).foldl (State.metaPage x.b s.carPage (s.metaBytes ++ complBytes s.metaBytes)) s).onCar
      fun c => { c with metaAt := ((List.range ((10416 + s.carPage - 1) / s.carPage)).foldl (State.metaPage x.b s.carPage (s.metaBytes ++ complBytes s.metaBytes)) s).tb } := by
  have hlen : (s.metaBytes ++ complBytes s.metaBytes).length = 10416 := by rw [List.length_append, complBytes_length, metaBytes_length]
  unfold State.metaWrite
  rw [if_neg (not_not_intro hst)]
  dsimp only
  rw [hlen, hopen]
  rfl

/-- `n` pages of a META entry have been queued since `s`. -/
structure MetaPages (b page : Nat) (bytes : List Byte) (s t : State) (n : Nat) : Prop where
  frame : Frame [.car] s t
  ops : ∃ l : List NandOp, t.car.ops = s.car.ops ++ l ∧ l.length = n ∧ ∀ i, i < n →
    ∃ p, l[i]? = some ⟨.program b p (s.pageTag b (s.car.seq + 1 + i) 3 0 ((bytes.drop (i * page)).take page).length (if i = 0 then 0 else 0xFFFF) 0)
      (s.pageMain ((bytes.drop (i * page)).take page)), s.tb, false⟩
  seq : t.car.seq = s.car.seq + n
  evt : t.car.evt = s.car.evt
  dump : t.car.dump = s.car.dump

theorem metaPages_foldl (b page : Nat) (bytes : List Byte) (s : State) (n : Nat) :
    MetaPages b page bytes s ((List.range n).foldl (State.metaPage b page bytes) s) n := by
  induction n with
  | zero => exact ⟨Frame.refl _ _, ⟨[], (List.append_nil _).symm, rfl, fun i hi => absurd hi (Nat.not_lt_zero i)⟩, rfl, rfl, rfl⟩
  | succ n ih =>
    rw [List.range_succ, List.foldl_append]
    show MetaPages b page bytes s (State.metaPage b page bytes ((List.range n).foldl (State.metaPage b page bytes) s) n) (n + 1)
    generalize (List.range n).foldl (State.metaPage b page bytes) s = t at ih ⊢
    obtain ⟨l, hops, hlen, hl⟩ := ih.ops
    have htb : t.tb = s.tb := congrArg (·.tb) (ih.frame.keep .clk (by decide))
    refine ⟨((ih.frame.frame (Frame.onCar ..)).frame (Frame.modBlk ..)).frame (Frame.nandPush ..),
      ⟨l ++ [_], (congrArg (· ++ _) hops).trans (List.append_assoc ..), by rw [List.length_append, hlen]; rfl, fun i hi => ?_⟩,
      congrArg (· + 1) ih.seq, ih.evt, ih.dump⟩
    obtain hi | rfl := Nat.lt_succ_iff_lt_or_eq.1 hi
    · rw [List.getElem?_append_left (by omega)]
      exact hl i hi
    · refine ⟨match t.carBlk b with | some x => x.pages | none => 0, (List.getElem?_append_right (by omega)).trans ?_⟩
      rw [hlen, Nat.sub_self, List.getElem?_cons_zero]
      show some (⟨.program b _ (t.pageTag b (t.car.seq + 1) 3 0 _ _ 0) (t.pageMain _), t.tb, false⟩ : NandOp) = _
      rw [pageTag_congr (ih.frame.keep .ks (by decide)), pageMain_congr (ih.frame.keep .regs (by decide)), htb, ih.seq, Nat.add_right_comm]

theorem exec_metaCheckpoint_due (hrun : s.running = true) (hst : s.car.st = 2) (hdue : s.car.metaAt + 60000000000 ≤ s.tbAt dt) :
    exec (.metaCheckpoint dt) s = done (s.advance dt).metaWrite := by
  have hready : ((s.advance dt).carReady && decide ((s.advance dt).car.metaAt + 60000000000 ≤ (s.advance dt).tb)) = true :=
    Bool.and_eq_true_iff.2 ⟨Bool.and_eq_true_iff.2 ⟨hrun, beq_iff_eq.2 hst⟩, decide_eq_true hdue⟩
  show execMetaCheckpoint dt s = _
  unfold execMetaCheckpoint
  dsimp only
  rw [hready]
  rfl

theorem exec_metaCheckpoint_early (hearly : s.tbAt dt < s.car.metaAt + 60000000000) : exec (.metaCheckpoint dt) s = done (s.advance dt) := by
  have hready : ((s.advance dt).carReady && decide ((s.advance dt).car.metaAt + 60000000000 ≤ (s.advance dt).tb)) = false := by
    rw [decide_eq_false (p := (s.advance dt).car.metaAt + 60000000000 ≤ (s.advance dt).tb) (Nat.not_le.2 hearly), Bool.and_false]
  show execMetaCheckpoint dt s = _
  unfold execMetaCheckpoint
  dsimp only
  rw [hready]
  rfl

theorem exec_metaCheckpoint_writes (hrun : s.running = true) (hst : s.car.st = 2) (hdue : s.car.metaAt + 60000000000 ≤ s.tbAt dt)
    (hopen : s.car.blks.find? (fun x => x.kind == .metaLog && x.isOpen && decide (x.pages + (10416 + s.carPage - 1) / s.carPage ≤ s.carPpb)) = some x) :
    ∃ (t : State) (l : List NandOp), exec (.metaCheckpoint dt) s = .next t ∧ t.car.ops = s.car.ops ++ l ∧ l.length = (10416 + s.carPage - 1) / s.carPage ∧
      t.car.metaAt = s.tbAt dt ∧ t.car.seq = s.car.seq + (10416 + s.carPage - 1) / s.carPage ∧
      (∀ i, i < (10416 + s.carPage - 1) / s.carPage → let part : List Byte := ((s.metaBytes ++ complBytes s.metaBytes).drop (i * s.carPage)).take s.carPage
        ∃ p, l[i]? = some ⟨.program x.b p (s.pageTag x.b (s.car.seq + 1 + i) 3 0 part.length (if i = 0 then 0 else 0xFFFF) 0) (s.pageMain part), s.tbAt dt, false⟩) ∧
      t.car.evt = s.car.evt ∧ t.car.dump = s.car.dump := by
  have M := metaPages_foldl x.b s.carPage (s.metaBytes ++ complBytes s.metaBytes) (s.advance dt) ((10416 + s.carPage - 1) / s.carPage)
  have hwrite : (s.advance dt).metaWrite
      = ((List.range ((10416 + s.carPage - 1) / s.carPage)).foldl (State.metaPage x.b s.carPage (s.metaBytes ++ complBytes s.metaBytes)) (s.advance dt)).onCar
        fun c => { c with metaAt := ((List.range ((10416 + s.carPage - 1) / s.carPage)).foldl
          (State.metaPage x.b s.carPage (s.metaBytes ++ complBytes s.metaBytes)) (s.advance dt)).tb } := metaWrite_open (s := s.advance dt) hst hopen
  have hexec := (exec_metaCheckpoint_due hrun hst hdue).trans (congrArg done hwrite)
  clear hwrite
  generalize (List.range ((10416 + s.carPage - 1) / s.carPage)).foldl (State.metaPage x.b s.carPage (s.metaBytes ++ complBytes s.metaBytes)) (s.advance dt) = u at M hexec
  have htb : u.tb = s.tbAt dt := congrArg (·.tb) (M.frame.keep .clk (by decide))
  obtain ⟨l, hops, hlen, hl⟩ := M.ops
  exact ⟨_, l, hexec, hops, hlen, htb, M.seq, hl, M.evt, M.dump⟩

/-! ## A block that has failed (R481) -/

variable {b p : Nat} {P : BlkKind → BitVec 16 → Prop}

/-- Block `b` is listed, and with a kind and pins of which `P` speaks alone. -/
structure ListedAs (b : Nat) (P : BlkKind → BitVec 16 → Prop) (s : State) : Prop where
  listed : ∃ x ∈ s.car.blks, x.b = b
  all : ∀ x ∈ s.car.blks, x.b = b → P x.kind x.pins

theorem ListedAs.carBlk (h : ListedAs b P s) : ∃ x, s.carBlk b = some x ∧ P x.kind x.pins := by
  obtain ⟨x, hx, hxb⟩ := h.listed
  unfold State.carBlk
  cases hfind : s.car.blks.find? (fun x => x.b == b) with
  | none => exact absurd (beq_iff_eq.2 hxb) (List.find?_eq_none.1 hfind x hx)
  | some y => exact ⟨y, rfl, h.all y (List.mem_of_find?_eq_some hfind) (beq_iff_eq.1 (List.find?_some (p := fun x : Blk => x.b == b) hfind))⟩

theorem ListedAs.congr (h : ListedAs b P s) (hblks : t.car.blks = s.car.blks) : ListedAs b P t := ⟨hblks ▸ h.listed, hblks ▸ h.all⟩

theorem ListedAs.next {K : List StPart} (F : Frame K s t) (h : ListedAs b P s) (hcar : .car ∉ K := by decide) : ListedAs b P t :=
  h.congr (congrArg CarSt.blks (F.keep .car hcar))

/-- Changes that keep the number, the kind and the pins of every block. -/
theorem ListedAs.map {g : Blk → Blk} (h : ListedAs b P s) (hblks : t.car.blks = s.car.blks.map g) (hb : ∀ x, (g x).b = x.b) (hkind : ∀ x, (g x).kind = x.kind)
    (hpins : ∀ x, (g x).pins = x.pins) : ListedAs b P t := by
  obtain ⟨x, hx, hxb⟩ := h.listed
  constructor
  · exact ⟨g x, hblks ▸ List.mem_map_of_mem hx, (hb x).trans hxb⟩
  · intro z hz hzb
    rw [hblks] at hz
    obtain ⟨y, hy, rfl⟩ := List.mem_map.1 hz
    rw [hkind, hpins]
    exact h.all y hy ((hb y).symm.trans hzb)

theorem ListedAs.modBlk {n : Nat} {f : Blk → Blk} (h : ListedAs b P s) (hb : ∀ x, (f x).b = x.b) (hkind : ∀ x, (f x).kind = x.kind)
    (hpins : ∀ x, (f x).pins = x.pins) : ListedAs b P (s.modBlk n f) := by
  refine h.map (g := fun y => if y.b = n then f y else y) rfl (fun x => ?_) (fun x => ?_) fun x => ?_
  · exact (apply_ite Blk.b _ _ _).trans (ite_eq_right_iff.2 fun _ => hb x)
  · exact (apply_ite Blk.kind _ _ _).trans (ite_eq_right_iff.2 fun _ => hkind x)
  · exact (apply_ite Blk.pins _ _ _).trans (ite_eq_right_iff.2 fun _ => hpins x)

/-- A change of another block. -/
theorem ListedAs.modOther {n : Nat} {f : Blk → Blk} (h : ListedAs b P s) (hne : n ≠ b) (hb : ∀ x, (f x).b = x.b) : ListedAs b P (s.modBlk n f) := by
  obtain ⟨x, hx, hxb⟩ := h.listed
  have hmap : (s.modBlk n f).car.blks = s.car.blks.map fun y => if y.b = n then f y else y := rfl
  constructor
  · exact ⟨x, hmap ▸ List.mem_map.2 ⟨x, hx, if_neg fun heq => hne (heq.symm.trans hxb)⟩, hxb⟩
  · intro z hz hzb
    rw [hmap] at hz
    obtain ⟨y, hy, rfl⟩ := List.mem_map.1 hz
    by_cases hyn : y.b = n
    · rw [if_pos hyn, hb, hyn] at hzb
      exact absurd hzb hne
    · rw [if_neg hyn] at hzb ⊢
      exact h.all y hy hzb

/-- Another block takes a place in the list. -/
theorem ListedAs.taken {n : Nat} {y : Blk} (h : ListedAs b P s) (hne : n ≠ b) (hblks : t.car.blks = s.car.blks.filter (fun x => x.b != n) ++ [y])
    (hy : y.b = n := by rfl) : ListedAs b P t := by
  obtain ⟨x, hx, hxb⟩ := h.listed
  constructor
  · exact ⟨x, hblks ▸ List.mem_append_left _ (List.mem_filter.2 ⟨hx, bne_iff_ne.2 fun heq => hne (heq.symm.trans hxb)⟩), hxb⟩
  · intro z hz hzb
    rw [hblks] at hz
    obtain hz | hz := List.mem_append.1 hz
    · exact h.all z (List.mem_filter.1 hz).1 hzb
    · rw [List.mem_singleton.1 hz] at hzb
      exact absurd (hy.symm.trans hzb) hne

/-- The choice between the best so far and the next of a list. -/
def pick {α : Type} (c : α → α → Prop) [DecidableRel c] (m : Option α) (x : α) : Option α :=
  match m with
  | some y => if c x y then some x else some y
  | none => some x

section
variable {α : Type} {c : α → α → Prop} [DecidableRel c] {z : α}

theorem pick_mem {l : List α} {m : Option α} (h : l.foldl (pick c) m = some z) : m = some z ∨ z ∈ l := by
  induction l generalizing m with
  | nil => exact .inl h
  | cons a l ih =>
    obtain hm | hz := ih h
    · cases m with
      | none => exact .inr (List.mem_cons.2 (.inl (Option.some.inj hm).symm))
      | some y =>
        unfold pick at hm
        dsimp only at hm
        split at hm
        · exact .inr (List.mem_cons.2 (.inl (Option.some.inj hm).symm))
        · exact .inl hm
    · exact .inr (List.mem_cons_of_mem _ hz)

/-- None of a list is better than its choice. -/
theorem pick_best (hasymm : ∀ x y, c x y → ¬ c y x) (hneg : ∀ x y z, c x z → c x y ∨ c y z) {l : List α} {m : Option α} (h : l.foldl (pick c) m = some z) :
    (∀ y, m = some y → ¬ c y z) ∧ ∀ y ∈ l, ¬ c y z := by
  induction l generalizing m with
  | nil => exact ⟨fun y hy hyz => by
      cases hy.symm.trans h
      exact hasymm _ _ hyz hyz, fun y hy => absurd hy List.not_mem_nil⟩
  | cons a l ih =>
    obtain ⟨hm, hl⟩ := ih h
    have ha : (∀ y, m = some y → ¬ c y z) ∧ ¬ c a z := by
      cases m with
      | none => exact ⟨fun y hy => (by cases hy), hm a rfl⟩
      | some y =>
        by_cases hay : c a y
        · have haz := hm a (if_pos hay)
          exact ⟨fun w hw hwz => by
            cases hw
            exact (hneg _ a _ hwz).elim (hasymm _ _ hay) haz, haz⟩
        · have hyz := hm y (if_neg hay)
          exact ⟨fun w hw => Option.some.inj hw ▸ hyz, fun haz => (hneg _ y _ haz).elim hay hyz⟩
    exact ⟨ha.1, List.forall_mem_cons.2 ⟨ha.2, hl⟩⟩

/-- The choice by the least of a key, and by the greatest. -/
theorem pick_least {key : α → Nat} {l : List α} {m : Option α} (h : l.foldl (pick fun x y => key x < key y) m = some z) : ∀ y ∈ l, key z ≤ key y := fun y hy =>
  Nat.not_lt.1 ((pick_best (c := fun x y => key x < key y) (fun _ _ => Nat.lt_asymm) (fun _ _ _ hlt => by omega) h).2 y hy)

theorem pick_most {key : α → Nat} {l : List α} {m : Option α} (h : l.foldl (pick fun x y => key y < key x) m = some z) : ∀ y ∈ l, key y ≤ key z := fun y hy =>
  Nat.not_lt.1 ((pick_best (c := fun x y => key y < key x) (fun _ _ => Nat.lt_asymm) (fun _ _ _ hlt => by omega) h).2 y hy)

theorem pick_some {l : List α} {m : Option α} (h : m ≠ none ∨ l ≠ []) : ∃ z, l.foldl (pick c) m = some z := by
  induction l generalizing m with
  | nil =>
    obtain hm | hl := h
    · exact Option.ne_none_iff_exists'.1 hm
    · exact absurd rfl hl
  | cons a l ih =>
    refine ih (.inl ?_)
    cases m with
    | none => exact Option.some_ne_none a
    | some y =>
      unfold pick
      dsimp only
      split <;> exact Option.some_ne_none _

end

theorem leastFree_eq (s : State) (tg : Nat) :
    s.leastFree tg = (s.freeBlks.filter fun b => s.targetOf b == tg).foldl (pick fun b k => s.ec b < s.ec k) none :=
  congrArg (fun f => List.foldl f none _) (funext fun m => funext fun b => by cases m <;> rfl)

theorem oldestRing_eq (s : State) (on : Option Nat) : s.oldestRing on
    = (s.car.blks.filter fun x => x.kind == .ring && !x.isOpen && x.pins == 0 && (match on with | some k => s.targetOf x.b == k | none => true)).foldl
      (pick fun x y => x.seq < y.seq) none :=
  congrArg (fun f => List.foldl f none _) (funext fun m => funext fun b => by cases m <;> rfl)

theorem leastFree_mem {f : Nat} (h : s.leastFree tg = some f) : f ∈ s.freeBlks ∧ s.targetOf f = tg := by
  rw [leastFree_eq] at h
  have hmem := pick_mem h
  obtain h | h := hmem
  · cases h
  · exact ⟨(List.mem_filter.1 h).1, beq_iff_eq.1 (List.mem_filter.1 h).2⟩

theorem freeBlks_none {f : Nat} (h : f ∈ s.freeBlks) : s.carBlk f = none := Option.isNone_iff_eq_none.1 (List.mem_filter.1 h).2

theorem oldestRing_mem {on : Option Nat} (h : s.oldestRing on = some x) : x ∈ s.car.blks ∧ x.kind = .ring ∧ x.pins = 0 := by
  rw [oldestRing_eq] at h
  have hmem := pick_mem h
  obtain h | h := hmem
  · cases h
  · obtain ⟨hx, hp⟩ := List.mem_filter.1 h
    simp only [Bool.and_eq_true, beq_iff_eq] at hp
    exact ⟨hx, hp.1.1.1, hp.1.2⟩

/-- Neither a free block nor one of the trend log that nothing pins is `b`, where `b` is listed as something else. -/
theorem ListedAs.ne_leastFree (h : ListedAs b P s) {ts : List Nat} {f : Nat} (hf : (ts.filterMap s.leastFree).head? = some f) : f ≠ b := by
  rintro rfl
  obtain ⟨tg, -, hleast⟩ := List.mem_filterMap.1 (List.mem_of_mem_head? hf)
  obtain ⟨x, hx, hxb⟩ := h.listed
  exact List.find?_eq_none.1 (freeBlks_none (leastFree_mem hleast).1) x hx (beq_iff_eq.2 hxb)

theorem ListedAs.ne_oldestRing (h : ListedAs b P s) (hP : ¬ P .ring 0) {on : Option Nat} (hx : s.oldestRing on = some x) : x.b ≠ b := fun heq => by
  obtain ⟨hmem, hkind, hpins⟩ := oldestRing_mem hx
  exact hP (hkind ▸ hpins ▸ h.all x hmem heq)

theorem ListedAs.newBlk {on : Option Nat} {kind : BlkKind} (h : ListedAs b P s) (hP : ¬ P .ring 0) : ListedAs b P (s.newBlk on kind).1 := by
  unfold State.newBlk
  dsimp only
  split
  · next f hf => exact h.taken (h.ne_leastFree hf) rfl
  · split
    · next x hx => exact h.taken (h.ne_oldestRing hP hx) rfl
    · exact h

theorem newBlk_ne {on : Option Nat} {kind : BlkKind} {n : Nat} (h : ListedAs b P s) (hP : ¬ P .ring 0) (hn : (s.newBlk on kind).2 = some n) : n ≠ b := by
  unfold State.newBlk at hn
  dsimp only at hn
  split at hn
  · next f hf => exact Option.some.inj hn ▸ h.ne_leastFree hf
  · split at hn
    · next x hx => exact Option.some.inj hn ▸ h.ne_oldestRing hP hx
    · cases hn

theorem ListedAs.metaPage {n page i : Nat} {bytes : List Byte} (h : ListedAs b P s) : ListedAs b P (s.metaPage n page bytes i) :=
  ((h.congr (t := s.onCar fun x => { x with seq := x.seq + 1 }) rfl).modBlk (n := n) (f := fun x => { x with seqs := x.seqs ++ [s.car.seq + 1] })
    (fun _ => rfl) (fun _ => rfl) fun _ => rfl).congr rfl

theorem ListedAs.metaPages {n page : Nat} {bytes : List Byte} (h : ListedAs b P s) (l : List Nat) : ListedAs b P (l.foldl (State.metaPage n page bytes) s) :=
  List.foldlRecOn l _ h fun _ ht _ _ => ht.metaPage

theorem ListedAs.metaWrite (h : ListedAs b P s) (hP : ¬ P .ring 0) : ListedAs b P s.metaWrite := by
  unfold State.metaWrite
  split
  · exact h
  · extract_lets _ _ _ _ here logs closed q
    have hclosed : ListedAs b P closed := by
      refine h.map (g := fun y => if y.kind = .metaLog then { y with isOpen := false } else y) rfl (fun x => ?_) (fun x => ?_) fun x => ?_
      · exact (apply_ite Blk.b _ _ _).trans (ite_self _)
      · exact (apply_ite Blk.kind _ _ _).trans (ite_self _)
      · exact (apply_ite Blk.pins _ _ _).trans (ite_self _)
    have hq : ListedAs b P q.1 := by
      unfold q
      clear_value here
      split
      · exact h
      · split
        · exact hclosed.newBlk hP
        · split
          · exact (hclosed.modBlk (f := fun y => { y with isOpen := true, seqs := [], seq := _ }) (fun _ => rfl) (fun _ => rfl) fun _ => rfl).congr rfl
          · exact hclosed
    split
    · exact hq
    · exact (hq.metaPages _).congr rfl

theorem ListedAs.stageEval (h : ListedAs b P s) : ListedAs b P s.stageEval := by
  unfold State.stageEval
  dsimp only
  split
  · exact h
  · exact ListedAs.next (Frame.carRec ..) (h.congr rfl)

/-- Block `b` is listed as bad, and as nothing else. -/
def BadBlk (b : Nat) (s : State) : Prop := ListedAs b (fun kind _ => kind = .bad) s

theorem BadBlk.kind (h : BadBlk b s) : (s.carBlk b).map (·.kind) = some .bad := by
  obtain ⟨x, hx, hkind⟩ := h.carBlk
  rw [hx]
  exact congrArg some hkind

theorem blkBad_bad (s : State) (b why : Nat) : BadBlk b (s.blkBad b why) := by
  unfold State.blkBad
  dsimp only
  refine ListedAs.metaWrite (ListedAs.stageEval (ListedAs.next (Frame.carRec ..) ?_)) (fun h => by cases h)
  constructor
  · exact ⟨_, List.mem_append_right _ (List.mem_singleton.2 rfl), rfl⟩
  · intro x hx hxb
    obtain hx | hx := List.mem_append.1 hx
    · exact absurd hxb (bne_iff_ne.1 (List.mem_filter.1 hx).2)
    · rw [List.mem_singleton.1 hx]

theorem blkReplace_bad (s : State) (b why lost : Nat) (time : Option Nat) : BadBlk b (s.blkReplace b why lost time) := by
  have hP : ¬ (fun (kind : BlkKind) (_ : BitVec 16) => kind = .bad) .ring 0 := fun h => by cases h
  unfold State.blkReplace
  extract_lets +onlyGivenNames was u
  have h : ListedAs b (fun kind _ => kind = .bad) u := blkBad_bad s b why
  clear_value was u
  split
  · exact h
  · split
    · exact h
    · extract_lets +onlyGivenNames q
      have hq : ListedAs b (fun kind _ => kind = .bad) q.1 := h.newBlk hP
      have hne : ∀ n, q.2 = some n → n ≠ b := fun n => newBlk_ne h hP
      clear_value q
      split
      · extract_lets +onlyGivenNames v
        have hv : ListedAs b (fun kind _ => kind = .bad) v := hq.congr rfl
        clear_value v
        split
        · exact hv.congr rfl
        · exact hv
      · next n hn =>
        extract_lets +onlyGivenNames _ _ v
        have hv : ListedAs b (fun kind _ => kind = .bad) v := hq.congr rfl
        clear_value v
        exact ListedAs.metaWrite (ListedAs.modOther hv (hne n hn) fun _ => rfl) hP

theorem blkBad_begins {why : Nat} (hphase : s.pwr.phase = .running) : Begins s (s.blkBad b why) [carOf s.tb 0x1204 why (s.blkAddr b) (s.ec b)] :=
  (Begins.stageEval (carRec_begins (s := s) (t := s.onCar _) hphase rfl rfl)).next (Frame.metaWrite ..)

theorem blkReplace_begins {why lost : Nat} {time : Option Nat} (hphase : s.pwr.phase = .running) :
    Begins s (s.blkReplace b why lost time) [carOf s.tb 0x1204 why (s.blkAddr b) (s.ec b)] :=
  (blkBad_begins hphase).next (Frame.blkReplace ..)

/-! ## Operations that end (R476, R481) -/

variable {r l' : List NandOp} {o : NandOp} {q : ReadResult} {f : Nat} {pr : NandAct → Bool}

theorem FirstOp.firstOp (h : FirstOp s pr l' o r) : s.firstOp pr = some o := by
  obtain ⟨hops, ho, hl⟩ := h
  unfold State.firstOp
  rw [hops, List.find?_append, List.find?_eq_none.2 fun q hq hp => Bool.false_ne_true ((hl q hq).symm.trans hp), List.find?_cons_of_pos (p := fun o : NandOp => pr o.act) ho]
  rfl

theorem FirstOp.erase (h : FirstOp s pr l' o r) : s.car.ops.erase o = l' ++ r := by
  obtain ⟨hops, ho, hl⟩ := h
  have hmem : o ∉ l' := fun hmem => Bool.false_ne_true ((hl o hmem).symm.trans ho)
  rw [hops, List.erase_append_right _ hmem, List.erase_cons_head]

/-- The operation is done with. -/
theorem opDone_eq (h : FirstOp s pr l' o r) : s.opDone o b = s.onCar fun c => { c with ops := l' ++ r, tmo := c.tmo.set! (s.targetOf b) 0 } := by
  unfold State.opDone
  rw [← h.erase]
  rfl

theorem exec_nandProgramDone {tag main : List Byte} {ok : Bool} (hrun : s.running = true) (h : FirstOp s NandAct.isWrite l' o r) (hact : o.act = .program b p tag main) :
    exec (.nandProgramDone dt ok) s = if ok then done (((s.advance dt).opDone o b).rateAdd (s.advance dt).carPage) else
      done ((s.advance dt).blkReplace b 1 p (some (leAt tag 12 8))) := by
  have hfirst : (s.advance dt).firstOp (fun a => match a with | .program .. | .move .. => true | _ => false) = some o := by
    have heq : (fun a : NandAct => match a with | .program .. | .move .. => true | _ => false) = NandAct.isWrite := funext fun a => by cases a <;> rfl
    rw [heq]
    exact h.firstOp
  have hrun' : (s.advance dt).running = true := hrun
  show execNandProgramDone dt ok s = _
  unfold execNandProgramDone
  dsimp only
  rw [hrun']
  split
  · next o' _ ho =>
    obtain rfl : o = o' := Option.some.inj (hfirst.symm.trans ho)
    rw [hact]
  · next hnone => exact absurd hfirst (hnone o rfl)

theorem programDone (hrun : s.running = true) {tag main : List Byte} (h : FirstOp s NandAct.isWrite l' o r) (hact : o.act = .program b p tag main) :
    (∃ t, exec (.nandProgramDone dt true) s = .next t ∧ t.but s = { s.advance dt with car := { s.car with
      ops := l' ++ r, tmo := s.car.tmo.set! (s.targetOf b) 0
      rate := s.car.rate.filter (fun q => decide (s.tbAt dt < q.1 + 10000000000)) ++ [(s.tbAt dt, s.carPage)] } }) ∧
    (∃ (t : State) (more : List Shown), exec (.nandProgramDone dt false) s = .next t ∧ (t.carBlk b).map (·.kind) = some .bad ∧
      Wrote s t (carOf (s.tbAt dt) 0x1204 1 (s.blkAddr b) (s.ec b) :: more)) := by
  constructor
  · have h' : FirstOp (s.advance dt) NandAct.isWrite l' o r := h
    exact ⟨_, exec_next_of (exec_nandProgramDone hrun h hact) (congrArg (fun u => u.rateAdd (s.advance dt).carPage) (opDone_eq h')), rfl⟩
  · have hbad := (blkReplace_bad (s.advance dt) b 1 p (some (leAt tag 12 8))).kind
    obtain ⟨more, hwrote⟩ := (blkReplace_begins (s := s.advance dt) (b := b) (why := 1) (lost := p) (time := some (leAt tag 12 8)) (run_phase hrun)).wrote
    exact ⟨_, more, exec_nandProgramDone hrun h hact, hbad, hwrote⟩

theorem exec_nandEraseDone {ok : Bool} (hrun : s.running = true) (h : FirstOp s NandAct.isErase l' o r) (hact : o.act = .erase b) :
    exec (.nandEraseDone dt ok) s = if ok then done ((s.advance dt).opDone o b) else done (((s.advance dt).opDone o b).blkReplace b 2 0 none) := by
  have hfirst : (s.advance dt).firstOp (fun a => match a with | .erase _ => true | _ => false) = some o := by
    have heq : (fun a : NandAct => match a with | .erase _ => true | _ => false) = NandAct.isErase := funext fun a => by cases a <;> rfl
    rw [heq]
    exact h.firstOp
  have hrun' : (s.advance dt).running = true := hrun
  show execNandEraseDone dt ok s = _
  unfold execNandEraseDone
  dsimp only
  rw [hrun']
  split
  · next o' _ ho =>
    obtain rfl : o = o' := Option.some.inj (hfirst.symm.trans ho)
    rw [hact]
  · next hnone => exact absurd hfirst (hnone o rfl)

theorem eraseDone (hrun : s.running = true) (h : FirstOp s NandAct.isErase l' o r) (hact : o.act = .erase b) :
    (∃ t, exec (.nandEraseDone dt true) s = .next t ∧ t.but s = { s.advance dt with car := { s.car with
      ops := l' ++ r, tmo := s.car.tmo.set! (s.targetOf b) 0 } }) ∧
    (∃ (t : State) (more : List Shown), exec (.nandEraseDone dt false) s = .next t ∧ (t.carBlk b).map (·.kind) = some .bad ∧
      Wrote s t (carOf (s.tbAt dt) 0x1204 2 (s.blkAddr b) (s.ec b) :: more)) := by
  constructor
  · have h' : FirstOp (s.advance dt) NandAct.isErase l' o r := h
    exact ⟨_, exec_next_of (exec_nandEraseDone hrun h hact) (opDone_eq h'), rfl⟩
  · have hbad := (blkReplace_bad ((s.advance dt).opDone o b) b 2 0 none).kind
    obtain ⟨more, hwrote⟩ := (blkReplace_begins (s := (s.advance dt).opDone o b) (b := b) (why := 2) (lost := 0) (time := none) (run_phase hrun)).wrote
    exact ⟨_, more, exec_nandEraseDone hrun h hact, hbad, hwrote⟩

/-! ## Reads (R480) -/

theorem exec_nandReadDone_scrub (hrun : s.running = true) (h : FirstOp s NandAct.isRead l' o r) (hact : o.act = .read b p .scrub) :
    exec (.nandReadDone dt q) s = done (((s.advance dt).opDone o b).readCheck b p .scrub q) := by
  have hfirst : (s.advance dt).firstOp (fun a => match a with | .read .. => true | _ => false) = some o := by
    have heq : (fun a : NandAct => match a with | .read .. => true | _ => false) = NandAct.isRead := funext fun a => by cases a <;> rfl
    rw [heq]
    exact h.firstOp
  have hrun' : (s.advance dt).running = true := hrun
  show execNandReadDone dt q s = _
  unfold execNandReadDone
  dsimp only
  rw [hrun']
  split
  · next o' _ ho =>
    obtain rfl : o = o' := Option.some.inj (hfirst.symm.trans ho)
    rw [hact]
    rfl
  · next hnone => exact absurd hfirst (hnone o rfl)

/-- A change of a block that keeps its number. -/
theorem carBlk_modBlk {n c : Nat} {f : Blk → Blk} (hf : ∀ x, (f x).b = x.b) :
    (s.modBlk n f).carBlk c = (s.carBlk c).map fun y => if y.b = n then f y else y := by
  have hcomp : ((fun x : Blk => x.b == c) ∘ fun y => if y.b = n then f y else y) = fun x => x.b == c := funext fun y =>
    congrArg (· == c) ((apply_ite Blk.b _ _ _).trans (ite_eq_right_iff.2 fun _ => hf y))
  unfold State.carBlk
  exact List.find?_map.trans (by rw [hcomp])

theorem carBlk_num {c : Nat} (h : s.carBlk c = some x) : x.b = c := beq_iff_eq.1 (List.find?_some (p := fun x : Blk => x.b == c) h)

/-- What the free blocks are and how worn they are decides which is taken next. -/
theorem leastFree_congr (hregs : t.regs = s.regs) (hks : t.ks = s.ks) (hfree : t.freeBlks = s.freeBlks) (tg : Nat) : t.leastFree tg = s.leastFree tg := by
  unfold State.leastFree State.ec State.ecOf State.ksRead State.targetOf
  rw [hregs, hks, hfree]

theorem freeBlks_modBlk {n : Nat} {f : Blk → Blk} (hf : ∀ x, (f x).b = x.b) : (s.modBlk n f).freeBlks = s.freeBlks := by
  unfold State.freeBlks
  refine List.filter_congr fun c _ => ?_
  rw [carBlk_modBlk hf, Option.isNone_map]

/-- The read is counted. -/
def State.readCounted (s : State) (b : Nat) : State := s.modBlk b fun x => { x with reads := x.reads + 1, scrubAt := s.tb }

theorem carBlk_readCounted (hblk : s.carBlk b = some x) : (s.readCounted b).carBlk b = some { x with reads := x.reads + 1, scrubAt := s.tb } := by
  unfold State.readCounted
  rw [carBlk_modBlk (f := fun x => { x with reads := x.reads + 1, scrubAt := s.tb }) fun _ => rfl, hblk, Option.map_some, if_pos (carBlk_num hblk)]

theorem freeBlks_readCounted : (s.readCounted b).freeBlks = s.freeBlks :=
  freeBlks_modBlk (f := fun x => { x with reads := x.reads + 1, scrubAt := s.tb }) fun _ => rfl

theorem readCheck_good (hblk : s.carBlk b = some x) (hgood : q.uncorrectable = none) :
    s.readCheck b p .scrub q = if s.regs.CAR_ECC_THR_REFRESH ≤ q.corrected then (s.readCounted b).refresh b 3 none
      else if s.regs.CAR_RD_LIMIT.toNat ≤ x.reads + 1 then (s.readCounted b).refresh b 2 none else s.readCounted b := by
  have hblk' := carBlk_readCounted hblk
  unfold State.readCheck
  dsimp only
  rw [hgood]
  change (if s.regs.CAR_ECC_THR_REFRESH ≤ q.corrected then (s.readCounted b).refresh b 3 none
    else if s.regs.CAR_RD_LIMIT.toNat ≤ (match (s.readCounted b).carBlk b with | some x => x.reads | none => 0) then (s.readCounted b).refresh b 2 none
      else s.readCounted b) = _
  rw [hblk']

theorem newBlk_unc {on : Option Nat} {kind : BlkKind} : (s.newBlk on kind).1.car.unc = s.car.unc := by
  unfold State.newBlk
  dsimp only
  split
  · rfl
  · split <;> rfl

theorem refresh_unc {reason : Nat} {to' : Option Nat} : (s.refresh b reason to').car.unc = s.car.unc := by
  unfold State.refresh
  split
  · rfl
  · split
    · rfl
    · extract_lets +onlyGivenNames z
      have hz : z.1.car.unc = s.car.unc := by
        unfold z
        split
        · rfl
        · exact newBlk_unc
      clear_value z
      split
      · exact hz
      · split
        · rfl
        · exact hz

/-- A page that cannot be corrected is counted and recorded (R480). -/
theorem readCheck_uncorrectable {chunk : Nat} (hphase : s.pwr.phase = .running) (hblk : s.carBlk b = some x) (hbad : q.uncorrectable = some chunk) :
    (s.readCheck b p .scrub q).car.unc = satInc 16 s.car.unc ∧
      Wrote s (s.readCheck b p .scrub q) [carOf s.tb 0x1205 chunk (s.blkAddr b) (x.seqs.getD p 0)] := by
  have hblk' := carBlk_readCounted hblk
  unfold State.readCheck
  extract_lets +onlyGivenNames counted _
  split
  · next c hc =>
    obtain rfl : chunk = c := Option.some.inj (hbad.symm.trans hc)
    extract_lets +onlyGivenNames seq
    have hseq : seq = x.seqs.getD p 0 := by
      unfold seq
      change (match (s.readCounted b).carBlk b with | some x => x.seqs.getD p 0 | none => 0) = _
      rw [hblk']
    clear_value seq
    subst hseq
    refine ⟨refresh_unc.trans ?_, Wrote.next (Frame.refresh ..) (by decide) (Wrote.next (Frame.onCar ..) (by decide) ?_)⟩
    · exact congrArg CarSt.unc ((Frame.carRec ..).keep .car (by decide))
    · exact Wrote.emit s (State.onCar counted _) _ [] (Wrote.none _ _ rfl) hphase rfl _ _ _ _ _ rfl
  · next hc => cases hbad.symm.trans hc

/-- A new block from the free ones. -/
theorem newBlk_free {kind : BlkKind} (hfree : ((s.turns s.car.nextBlk).filterMap s.leastFree).head? = some f) :
    (s.newBlk none kind).2 = some f ∧ (s.newBlk none kind).1.car.ops = s.car.ops ++ [⟨.erase f, s.tb, false⟩] := by
  unfold State.newBlk
  dsimp only
  rw [hfree]
  exact ⟨rfl, rfl⟩

/-- A block is moved to a new one, where no move of it waits (R480). -/
theorem refresh_moves {reason : Nat} (hrun : s.running = true) (hst : s.car.st = 2) (hmove : ∀ m ∈ s.car.ops, ∀ n w, m.act ≠ .move b n w)
    (hblk : s.carBlk b = some x) (hfree : ((s.turns s.car.nextBlk).filterMap s.leastFree).head? = some f) :
    (s.refresh b reason none).car.ops = s.car.ops ++ [⟨.erase f, s.tb, false⟩, ⟨.move b f reason, s.tb, false⟩] := by
  obtain ⟨hnew, hops⟩ := newBlk_free (kind := x.kind) hfree
  have hready : s.carReady = true := Bool.and_eq_true_iff.2 ⟨hrun, beq_iff_eq.2 hst⟩
  have hnone : s.car.ops.any (fun o => match o.act with | .move c _ _ => c == b | _ => false) = false := by
    refine List.any_eq_false.2 fun m hm hmv => ?_
    split at hmv
    · next c n w hact => exact hmove m hm n w (hact.trans (by rw [beq_iff_eq.1 hmv]))
    · cases hmv
  have hne : f ≠ b := fun heq => by
    obtain ⟨tg, -, hleast⟩ := List.mem_filterMap.1 (List.mem_of_mem_head? hfree)
    have hnot := freeBlks_none (leastFree_mem hleast).1
    rw [heq, hblk] at hnot
    cases hnot
  have hskip : (!s.carReady || s.car.ops.any (fun o => match o.act with | .move c _ _ => c == b | _ => false)) = false := by
    rw [hready, hnone]
    rfl
  have htb : (s.newBlk none x.kind).1.tb = s.tb := congrArg (·.tb) ((Frame.newBlk s none x.kind).keep .clk (by decide))
  unfold State.refresh
  split
  · next h => exact absurd (hskip.symm.trans h) Bool.false_ne_true
  rw [hblk]
  dsimp only
  rw [hnew]
  dsimp only
  rw [if_neg hne]
  show (s.newBlk none x.kind).1.car.ops ++ [⟨.move b f reason, (s.newBlk none x.kind).1.tb, false⟩] = _
  rw [hops, htb, List.append_assoc]
  rfl

theorem scrubReadDone (hrun : s.running = true) (h : FirstOp s NandAct.isRead l' o r) (hact : o.act = .read b p .scrub) (hblk : s.carBlk b = some x) :
    (q.uncorrectable = none → q.corrected < s.regs.CAR_ECC_THR_REFRESH → x.reads + 1 < s.regs.CAR_RD_LIMIT.toNat → ∃ t, exec (.nandReadDone dt q) s = .next t ∧
      t.but s = { s.advance dt with car := { s.car with
        ops := l' ++ r, tmo := s.car.tmo.set! (s.targetOf b) 0
        blks := s.car.blks.map (fun y => if y.b = b then { y with reads := y.reads + 1, scrubAt := s.tbAt dt } else y) } }) ∧
    (∀ chunk : Nat, q.uncorrectable = some chunk → ∃ t, exec (.nandReadDone dt q) s = .next t ∧ t.car.unc = satInc 16 s.car.unc ∧
      Wrote s t [carOf (s.tbAt dt) 0x1205 chunk (s.blkAddr b) (x.seqs.getD p 0)]) ∧
    (∀ f : Nat, q.uncorrectable = none → s.regs.CAR_ECC_THR_REFRESH ≤ q.corrected → s.car.st = 2 → (∀ m ∈ s.car.ops, ∀ n w, m.act ≠ .move b n w) →
      ((s.turns s.car.nextBlk).filterMap s.leastFree).head? = some f → ∃ t, exec (.nandReadDone dt q) s = .next t ∧
      t.car.ops = l' ++ r ++ [⟨.erase f, s.tbAt dt, false⟩, ⟨.move b f 3, s.tbAt dt, false⟩] ∧ t.recs = s.recs) := by
  have hexec := exec_nandReadDone_scrub (dt := dt) (q := q) hrun h hact
  have hdone : (s.advance dt).opDone o b = (s.advance dt).onCar fun c => { c with ops := l' ++ r, tmo := c.tmo.set! (s.targetOf b) 0 } :=
    opDone_eq (s := s.advance dt) h
  rw [hdone] at hexec
  generalize hu : (s.advance dt).onCar (fun c => { c with ops := l' ++ r, tmo := c.tmo.set! (s.targetOf b) 0 }) = u at hexec
  have hblk' : u.carBlk b = some x := hu ▸ hblk
  have hregs : u.regs = s.regs := hu ▸ rfl
  refine ⟨fun hgood hfew hrd => ⟨_, hexec, ?_⟩, fun chunk hbad => ?_, fun f hgood hmany hst hmove hfree => ?_⟩
  · rw [readCheck_good hblk' hgood, if_neg (by rw [hregs]; omega), if_neg (by rw [hregs]; omega), ← hu]
    rfl
  · obtain ⟨hunc, hwrote⟩ := readCheck_uncorrectable (s := u) (p := p) (hu ▸ run_phase hrun) hblk' hbad
    subst hu
    exact ⟨_, hexec, hunc, hwrote⟩
  · have hleast : (u.readCounted b).leastFree = s.leastFree := funext fun tg =>
      (leastFree_congr (s := u) (t := u.readCounted b) rfl rfl freeBlks_readCounted tg).trans (hu ▸ rfl)
    have hmove' : ∀ m ∈ (u.readCounted b).car.ops, ∀ n w, m.act ≠ .move b n w := by
      subst hu
      exact fun m hm => hmove m (List.mem_of_mem_erase (by rw [h.erase]; exact hm))
    have hfree' : (((u.readCounted b).turns (u.readCounted b).car.nextBlk).filterMap (u.readCounted b).leastFree).head? = some f := by
      rw [hleast]
      subst hu
      exact hfree
    have hops := refresh_moves (s := u.readCounted b) (reason := 3) (hu ▸ hrun) (hu ▸ hst) hmove' (carBlk_readCounted hblk') hfree'
    rw [readCheck_good hblk' hgood, if_pos (by rw [hregs]; exact hmany)] at hexec
    subst hu
    exact ⟨_, hexec, hops, (Frame.refresh ..).keep .recs (by decide)⟩

/-! ## Timeouts (R488) -/

/-- From `s` to `t` the targets that are online stay the same, and nothing that waits is on target `tg`. -/
structure Quiet (tg : Nat) (s t : State) : Prop where
  online : t.car.tgtOn = s.car.tgtOn
  regs : t.regs = s.regs
  ops : ∀ m ∈ t.car.ops, s.targetOf m.act.site.1 ≠ tg

theorem Quiet.sub (h : Quiet tg s t) (honline : u.car.tgtOn = t.car.tgtOn) (hregs : u.regs = t.regs) (hops : ∀ m ∈ u.car.ops, m ∈ t.car.ops) : Quiet tg s u :=
  ⟨honline.trans h.online, hregs.trans h.regs, fun m hm => h.ops m (hops m hm)⟩

theorem Quiet.next {K : List StPart} (F : Frame K t u) (h : Quiet tg s t) (hcar : .car ∉ K := by decide) (hregs : .regs ∉ K := by decide) : Quiet tg s u :=
  h.sub (congrArg CarSt.tgtOn (F.keep .car hcar)) (F.keep .regs hregs) fun _ hm => (congrArg CarSt.ops (F.keep .car hcar)) ▸ hm

theorem Quiet.targetOf (h : Quiet tg s t) (b : Nat) : t.targetOf b = s.targetOf b := by
  unfold State.targetOf
  rw [h.regs]

theorem Quiet.isOnline (h : Quiet tg s t) (m : Nat) : t.online m = s.online m := by
  unfold State.online
  rw [h.online]

theorem Quiet.modRpl {g : Replay → Replay} (h : Quiet tg s t) : Quiet tg s (t.modRpl g) := h.sub rfl rfl fun _ hm => hm

theorem Quiet.stageEval (h : Quiet tg s t) : Quiet tg s t.stageEval := by
  unfold State.stageEval
  dsimp only
  split
  · exact h
  · exact Quiet.next (Frame.carRec ..) (h.sub rfl rfl fun _ hm => hm)

theorem Quiet.rplPass {n : Nat} (h : Quiet tg s t) : Quiet tg s (t.rplPass n) := by
  unfold State.rplPass
  split
  · exact h
  · exact h.modRpl

theorem Quiet.rplEnd {how : Nat} (h : Quiet tg s t) : Quiet tg s (t.rplEnd how) := by
  unfold State.rplEnd
  exact Quiet.next (Frame.carRec ..) (Quiet.sub (t := t.modRpl _) h.modRpl rfl rfl fun _ hm => (List.mem_filter.1 hm).1)

theorem Quiet.rplWrite {n : Nat} (h : Quiet tg s t) : Quiet tg s (t.rplWrite n) := by
  induction n generalizing t with
  | zero => exact h
  | succ n ih =>
    unfold State.rplWrite
    extract_lets
    split
    · exact h
    · extract_lets
      split
      · exact h
      · exact ih (Quiet.modRpl (Quiet.next (Frame.sramWrite ..) (Quiet.next (Frame.sramWrite ..) h)))

theorem dropWhile_head {α : Type} {g : α → Bool} {l v : List α} {z : α} (h : l.dropWhile g = z :: v) : g z = false := by
  have hne : l.dropWhile g ≠ [] := h ▸ List.cons_ne_nil z v
  have hhead := List.head_dropWhile_not g hne
  simp only [h, List.head_cons] at hhead
  exact hhead

/-- A replay reads pages of the targets online alone. -/
theorem Quiet.rplNext (hoff : s.online tg = false) (h : Quiet tg s t) : Quiet tg s t.rplNext := by
  unfold State.rplNext
  extract_lets _ gone _ u
  have hpass : Quiet tg s u := h.rplPass
  have hgone (z : Nat × Nat) (hz : gone z = false) : s.targetOf z.1 ≠ tg := fun heq => by
    have hz' : t.online (t.targetOf z.1) = true := by
      rw [← Bool.not_eq_false']
      exact hz
    rw [h.isOnline, h.targetOf, heq, hoff] at hz'
    cases hz'
  clear_value u
  split
  · exact h
  · split
    · exact hpass.rplEnd
    · next z v hdrop =>
      split
      · exact hpass.rplEnd
      · refine ⟨hpass.online, hpass.regs, fun m hm => ?_⟩
        obtain hm | hm := List.mem_append.1 hm
        · exact hpass.ops m hm
        · rw [List.mem_singleton.1 hm]
          exact hgone z (dropWhile_head hdrop)

theorem Quiet.rplRun (hoff : s.online tg = false) (h : Quiet tg s t) : Quiet tg s t.rplRun := Quiet.rplNext hoff h.rplWrite

theorem getLsbD_clear (v : BitVec 4) (i j : Fin 4) :
    (v &&& ~~~ (BitVec.ofNat 4 (2 ^ i.val))).getLsbD j.val = (v.getLsbD j.val && decide (j ≠ i)) := by
  rw [BitVec.getLsbD_and, BitVec.getLsbD_not, BitVec.getLsbD_ofNat, Nat.testBit_two_pow, decide_eq_true j.isLt, Bool.true_and, Bool.true_and]
  exact congrArg (v.getLsbD j.val && ·) (by
    rw [← decide_not]
    exact decide_eq_decide.2 ⟨fun hne heq => hne (congrArg Fin.val heq).symm, fun hne heq => hne (Fin.ext heq.symm)⟩)

/-- A target that is taken offline: none of its operations waits, and the records begin with its own. -/
theorem targetLost_leaves (hphase : t.pwr.phase = .running) (hregs : t.regs = s.regs) {target : Fin 4} {cause op : Nat} (hwrote : Wrote s t l) :
    (t.targetLost target cause op).online target.val = false ∧ (∀ m, m ≠ target → (t.targetLost target cause op).online m.val = t.online m.val) ∧
      (∀ m ∈ (t.targetLost target cause op).car.ops, t.targetOf m.act.site.1 ≠ target.val) ∧
      Begins s (t.targetLost target cause op) (l ++ [carOf t.tb 0x1203 (target.val + 256 * cause) op 0]) := by
  unfold State.targetLost
  extract_lets reads off lost
  have honline (m : Fin 4) : off.online m.val = (t.online m.val && decide (m ≠ target)) := by
    have hm : ∀ v : State, v.online m.val = v.car.tgtOn.getLsbD m.val := fun v => by
      unfold State.online
      rw [decide_eq_true (p := m.val < 4) m.isLt, Bool.true_and]
    rw [hm, hm]
    exact getLsbD_clear t.car.tgtOn target m
  have hoff : off.online target.val = false := by
    rw [honline, decide_eq_false (not_not_intro rfl), Bool.and_false]
  have hothers (m : Fin 4) (hne : m ≠ target) : off.online m.val = t.online m.val := by
    rw [honline, decide_eq_true hne, Bool.and_true]
  have hquiet : Quiet target.val off off := ⟨rfl, rfl, fun m hm => bne_iff_ne.1 (List.mem_filter.1 hm).2⟩
  have htargets : ∀ b, off.targetOf b = t.targetOf b := fun _ => rfl
  have hbegins : Begins s lost (l ++ [carOf t.tb 0x1203 (target.val + 256 * cause) op 0]) :=
    Begins.stageEval (carRec_begins_next (t := off) hphase hregs (hwrote.next (Frame.onCar ..) (by decide)))
  have hlost : Quiet target.val off lost := Quiet.stageEval (Quiet.next (Frame.carRec ..) hquiet)
  clear_value reads off lost
  have hresult : Quiet target.val off (if reads = true then (lost.rplPass 1).rplRun else lost) ∧
      Begins s (if reads = true then (lost.rplPass 1).rplRun else lost) (l ++ [carOf t.tb 0x1203 (target.val + 256 * cause) op 0]) := by
    split
    · exact ⟨Quiet.rplRun hoff hlost.rplPass, (hbegins.next (Frame.rplPass ..)).rplRun⟩
    · exact ⟨hlost, hbegins⟩
  obtain ⟨hq, hb⟩ := hresult
  exact ⟨(hq.isOnline _).trans hoff, fun m hne => (hq.isOnline _).trans (hothers m hne), fun m hm => htargets _ ▸ hq.ops m hm, hb⟩

/-- One more timeout of a target in a row. -/
def State.timedOut (s : State) (target : Fin 4) : State := s.onCar fun c => { c with tmo := c.tmo.set target (s.car.tmo[target] + 1) }

/-- An operation that is repeated. -/
def State.repeated (s : State) (target : Fin 4) (o : NandOp) : State :=
  ((s.timedOut target).onCar fun c => { c with ops := c.ops.map fun p => if p = o then { p with again := true } else p }).carRec s.tb 0x1203 target.val o.act.site.2 0

theorem exec_nandBusyTimeout {target : Fin 4} {aft : Fin 3} (hrun : s.running = true) (hon : s.online target.val = true)
    (h : FirstOp s (fun a => s.targetOf a.site.1 == target.val) l' o r) :
    exec (.nandBusyTimeout dt target aft) s = if s.car.tmo[target] + 1 < 3 then
        done (match aft with
          | 0 => (s.advance dt).repeated target o
          | 1 => ((s.advance dt).repeated target o).targetLost target 1 0xFF
          | _ => ((s.advance dt).repeated target o).targetLost target 2 0x90)
      else done (((s.advance dt).timedOut target).targetLost target 1 o.act.site.2) := by
  have hfirst : (s.advance dt).car.ops.find? (fun o => (s.advance dt).targetOf o.act.site.1 == target.val) = some o := h.firstOp
  have hready : ((s.advance dt).running && (s.advance dt).online target.val) = true := Bool.and_eq_true_iff.2 ⟨hrun, hon⟩
  show execNandBusyTimeout dt target s aft = _
  unfold execNandBusyTimeout
  extract_lets u
  rw [hready, hfirst]
  rfl

theorem busyTimeout {target : Fin 4} (hrun : s.running = true) (hon : s.online target.val = true)
    (h : FirstOp s (fun a => s.targetOf a.site.1 == target.val) l' o r) :
    (s.car.tmo[target] + 1 < 3 → ∃ t, exec (.nandBusyTimeout dt target) s = .next t ∧ t.car.tmo = s.car.tmo.set target (s.car.tmo[target] + 1) ∧
      t.car.tgtOn = s.car.tgtOn ∧ t.car.blks = s.car.blks ∧ (∃ m ∈ t.car.ops, m = { o with again := true }) ∧
      Wrote s t [carOf (s.tbAt dt) 0x1203 target.val o.act.site.2 0]) ∧
    (3 ≤ s.car.tmo[target] + 1 → ∃ (t : State) (more : List Shown), exec (.nandBusyTimeout dt target) s = .next t ∧ t.online target.val = false ∧
      (∀ m, m ≠ target → t.online m.val = s.online m.val) ∧ (∀ m ∈ t.car.ops, s.targetOf m.act.site.1 ≠ target.val) ∧
      Wrote s t (carOf (s.tbAt dt) 0x1203 (target.val + 0x100) o.act.site.2 0 :: more)) ∧
    (∀ after : Fin 3, after ≠ 0 → s.car.tmo[target] + 1 < 3 → ∃ (t : State) (more : List Shown), exec (.nandBusyTimeout dt target after) s = .next t ∧ t.online target.val = false ∧
      Wrote s t (carOf (s.tbAt dt) 0x1203 target.val o.act.site.2 0 ::
        carOf (s.tbAt dt) 0x1203 (target.val + 256 * after.val) (if after = 1 then 0xFF else 0x90) 0 :: more)) := by
  have hexec (aft : Fin 3) := exec_nandBusyTimeout (dt := dt) (aft := aft) hrun hon h
  have F : Frame [.recs] (((s.advance dt).timedOut target).onCar fun c => { c with ops := c.ops.map fun p => if p = o then { p with again := true } else p })
      ((s.advance dt).repeated target o) := Frame.carRec ..
  have hcar := F.keep .car (by decide)
  have hphase : ((s.advance dt).repeated target o).pwr.phase = .running := (congrArg (·.phase) (F.keep .pwr (by decide))).trans (run_phase hrun)
  have hregs : ((s.advance dt).repeated target o).regs = s.regs := F.keep .regs (by decide)
  have htb : ((s.advance dt).repeated target o).tb = s.tbAt dt := congrArg (·.tb) (F.keep .clk (by decide))
  have hwrote : Wrote s ((s.advance dt).repeated target o) [carOf (s.tbAt dt) 0x1203 target.val o.act.site.2 0] :=
    Wrote.emit s (State.onCar ((s.advance dt).timedOut target) _) _ [] (Wrote.none _ _ rfl) (run_phase hrun) rfl _ _ _ _ _ rfl
  refine ⟨fun hfew => ?_, fun hthird => ?_, fun after hafter hfew => ?_⟩
  · have hmem : o ∈ s.car.ops := h.1 ▸ List.mem_append_right _ List.mem_cons_self
    refine ⟨((s.advance dt).repeated target o).settle, exec_next_of ((hexec 0).trans (if_pos hfew)) rfl, congrArg CarSt.tmo hcar,
      (congrArg CarSt.tgtOn hcar).trans rfl, (congrArg CarSt.blks hcar).trans rfl, ⟨_, ?_, rfl⟩, hwrote⟩
    show { o with again := true } ∈ ((s.advance dt).repeated target o).car.ops
    rw [congrArg CarSt.ops hcar]
    exact List.mem_map.2 ⟨o, hmem, if_pos rfl⟩
  · obtain ⟨hoff, hothers, hops, hbegins⟩ := targetLost_leaves (s := s) (t := (s.advance dt).timedOut target) (target := target) (cause := 1)
      (op := o.act.site.2) (l := []) (run_phase hrun) rfl (Wrote.none _ _ rfl)
    obtain ⟨more, hmore⟩ := hbegins.wrote
    exact ⟨_, more, (hexec 0).trans (if_neg (Nat.not_lt.2 hthird)), hoff, hothers, hops, hmore⟩
  · obtain ⟨cause, op, hact, hcause, hop⟩ : ∃ cause op, exec (.nandBusyTimeout dt target after) s
        = done (((s.advance dt).repeated target o).targetLost target cause op) ∧ cause = after.val ∧ op = if after = 1 then 0xFF else 0x90 := by
      match after with
      | 0 => exact absurd rfl hafter
      | 1 => exact ⟨1, 0xFF, (hexec 1).trans (if_pos hfew), rfl, rfl⟩
      | 2 => exact ⟨2, 0x90, (hexec 2).trans (if_pos hfew), rfl, rfl⟩
    obtain ⟨hoff, -, -, hbegins⟩ := targetLost_leaves (target := target) (cause := cause) (op := op) hphase hregs hwrote
    obtain ⟨more, hmore⟩ := hbegins.wrote
    rw [htb] at hmore
    subst hcause hop
    exact ⟨_, more, hact, hoff, hmore⟩

/-! ## Scrub, levelling and waits (R476, R480, R482) -/

theorem scrubBlk_eq (s : State) : s.scrubBlk
    = (s.car.blks.filter fun x => x.kind != .bad && decide (0 < x.pages)).foldl (pick fun x y => x.scrubAt < y.scrubAt) none :=
  congrArg (fun f => List.foldl f none _) (funext fun m => funext fun b => by cases m <;> rfl)

theorem scrubBlk_oldest (h : s.scrubBlk = some x) :
    x ∈ s.car.blks ∧ x.kind ≠ .bad ∧ 0 < x.pages ∧ ∀ y ∈ s.car.blks, y.kind ≠ .bad → 0 < y.pages → x.scrubAt ≤ y.scrubAt := by
  rw [scrubBlk_eq] at h
  have hin (y : Blk) : y ∈ s.car.blks.filter (fun x => x.kind != .bad && decide (0 < x.pages)) ↔ y ∈ s.car.blks ∧ y.kind ≠ .bad ∧ 0 < y.pages := by
    rw [List.mem_filter, Bool.and_eq_true, bne_iff_ne, decide_eq_true_iff]
  have hbest := pick_least (key := Blk.scrubAt) h
  obtain hnone | hmem := pick_mem h
  · cases hnone
  · obtain ⟨hx, hkind, hpages⟩ := (hin x).1 hmem
    exact ⟨hx, hkind, hpages, fun y hy hk hp => hbest y ((hin y).2 ⟨hy, hk, hp⟩)⟩

theorem foldl_nandPush {α : Type} (g : α → NandAct) (v : List α) (s : State) :
    v.foldl (fun s z => s.nandPush (g z)) s = s.onCar fun c => { c with ops := c.ops ++ v.map fun z => ⟨g z, s.tb, false⟩ } := by
  induction v generalizing s with
  | nil =>
    show s = s.onCar fun c => { c with ops := c.ops ++ [] }
    unfold State.onCar
    dsimp only
    rw [List.append_nil]
  | cons z v ih =>
    rw [List.foldl_cons, ih]
    unfold State.onCar State.nandPush State.onCar
    dsimp only
    rw [List.append_assoc]
    rfl

theorem exec_scrub (h : s.scrubBlk = some x) (hrun : s.running = true) (hst : s.car.st = 2) :
    ∃ t, exec (.scrub dt) s = .next t ∧ t.but s = { s.advance dt with car := { s.car with
      ops := s.car.ops ++ (List.range x.pages).map (fun p => ⟨.read x.b p .scrub, s.tbAt dt, false⟩)
      blks := s.car.blks.map (fun y => if y.b = x.b then { y with scrubAt := s.tbAt dt } else y) } } := by
  have h' : (s.advance dt).scrubBlk = some x := h
  have hready : (s.advance dt).carReady = true := Bool.and_eq_true_iff.2 ⟨hrun, beq_iff_eq.2 hst⟩
  have hexec : exec (.scrub dt) s = done (((List.range x.pages).foldl (fun (s : State) p => s.nandPush (.read x.b p .scrub)) (s.advance dt)).modBlk x.b
      fun y => { y with scrubAt := (s.advance dt).tb }) := by
    show execScrub dt s = _
    unfold execScrub
    dsimp only
    rw [h']
    dsimp only
    rw [hready]
    rfl
  rw [foldl_nandPush (fun p => NandAct.read x.b p .scrub)] at hexec
  exact ⟨_, hexec, rfl⟩

/-- The block's content may be moved by static levelling. -/
def State.stillBlk (s : State) (x : Blk) : Bool :=
  match x.kind with
  | .ring => x.pins != 0
  | .metaLog => !x.isOpen
  | .dump k => let d := s.car.dump.getD k {}; d.state == 2 || d.state == 0
  | .bad => false

theorem stillBlk_iff : s.stillBlk x = true ↔ s.coldBlk x := by
  unfold State.stillBlk State.coldBlk
  cases hkind : x.kind with
  | ring => simp
  | metaLog => simp
  | dump k => simp
  | bad => simp

/-- The most worn free block, and the least worn block that may be moved. -/
def State.hotFree (s : State) : Option Nat := s.freeBlks.foldl (pick fun b k => s.ec k < s.ec b) none
def State.coldest (s : State) : Option Blk := (s.car.blks.filter s.stillBlk).foldl (pick fun x y => s.ec x.b < s.ec y.b) none

theorem hotFree_most (h : s.hotFree = some f) : f ∈ s.freeBlks ∧ ∀ k ∈ s.freeBlks, s.ec k ≤ s.ec f := by
  have hbest := pick_most (key := s.ec) h
  obtain hnone | hmem := pick_mem h
  · cases hnone
  · exact ⟨hmem, hbest⟩

theorem coldest_least (h : s.coldest = some x) : x ∈ s.car.blks ∧ s.coldBlk x ∧ ∀ y ∈ s.car.blks, s.coldBlk y → s.ec x.b ≤ s.ec y.b := by
  have hbest := pick_least (key := fun x : Blk => s.ec x.b) h
  obtain hnone | hmem := pick_mem h
  · cases hnone
  · obtain ⟨hx, hstill⟩ := List.mem_filter.1 hmem
    exact ⟨hx, stillBlk_iff.1 hstill, fun y hy hcold => hbest y (List.mem_filter.2 ⟨hy, stillBlk_iff.2 hcold⟩)⟩

/-- What static levelling does, once it is due. -/
def State.levelled (s : State) : State :=
  match s.hotFree, s.coldest with
  | some h, some x => if s.regs.CAR_WEAR_WL_DELTA + s.ec x.b < s.ec h then s.refresh x.b 4 (some h) else s
  | _, _ => s

theorem exec_staticWearLevel (hrun : s.running = true) (hst : s.car.st = 2) (hdue : s.car.wearAt + 10000000000 ≤ s.tbAt dt) :
    exec (.staticWearLevel dt) s = done ((s.advance dt).onCar fun c => { c with wearAt := (s.advance dt).tb }).levelled := by
  have hready : ((s.advance dt).carReady && decide ((s.advance dt).car.wearAt + 10000000000 ≤ (s.advance dt).tb)) = true :=
    Bool.and_eq_true_iff.2 ⟨Bool.and_eq_true_iff.2 ⟨hrun, beq_iff_eq.2 hst⟩, decide_eq_true hdue⟩
  show execStaticWearLevel dt s = _
  unfold execStaticWearLevel
  dsimp only
  rw [hready, if_pos rfl]
  generalize (s.advance dt).onCar (fun c => { c with wearAt := (s.advance dt).tb }) = u
  have hhot : u.freeBlks.foldl (fun (m : Option Nat) b => match m with | some k => if u.ec k < u.ec b then some b else some k | none => some b) none = u.hotFree :=
    congrArg (fun f => List.foldl f none _) (funext fun m => funext fun b => by cases m <;> rfl)
  have hcold : (u.car.blks.filter u.stillBlk).foldl (fun (m : Option Blk) x => match m with | some y => if u.ec x.b < u.ec y.b then some x else some y | none => some x) none
      = u.coldest := congrArg (fun f => List.foldl f none _) (funext fun m => funext fun b => by cases m <;> rfl)
  split
  · next h x hh hx =>
    unfold State.levelled
    rw [hhot.symm.trans hh, hcold.symm.trans hx]
    dsimp only
    split <;> rfl
  · next hnot =>
    unfold State.levelled
    split
    · next h x hh hx => exact absurd (hcold.trans hx) (hnot h x (hhot.trans hh))
    · rfl

theorem levelled_even (heven : ∀ h ∈ s.freeBlks, ∀ x ∈ s.car.blks, s.coldBlk x → s.ec h ≤ s.regs.CAR_WEAR_WL_DELTA + s.ec x.b) : s.levelled = s := by
  unfold State.levelled
  split
  · next h x hh hx =>
    obtain ⟨hmem, hcold, -⟩ := coldest_least hx
    exact if_neg (Nat.not_lt.2 (heven h (hotFree_most hh).1 x hmem hcold))
  · rfl

/-- A move to a block that is free (R482). -/
theorem refresh_to {reason n : Nat} (hrun : s.running = true) (hst : s.car.st = 2) (hmove : ∀ m ∈ s.car.ops, ∀ c n w, m.act ≠ .move c n w)
    (hblk : s.carBlk b = some x) (hfree : n ∈ s.freeBlks) :
    (s.refresh b reason (some n)).car.ops = s.car.ops ++ [⟨.erase n, s.tb, false⟩, ⟨.move b n reason, s.tb, false⟩] ∧
      (s.refresh b reason (some n)).car.wearAt = s.car.wearAt := by
  have hready : s.carReady = true := Bool.and_eq_true_iff.2 ⟨hrun, beq_iff_eq.2 hst⟩
  have hnone : s.car.ops.any (fun o => match o.act with | .move c _ _ => c == b | _ => false) = false := by
    refine List.any_eq_false.2 fun m hm hmv => ?_
    split at hmv
    · next c n w hact => exact hmove m hm c n w hact
    · cases hmv
  have hskip : (!s.carReady || s.car.ops.any (fun o => match o.act with | .move c _ _ => c == b | _ => false)) = false := by
    rw [hready, hnone]
    rfl
  have hne : n ≠ b := fun heq => by
    have hnot := freeBlks_none hfree
    rw [heq, hblk] at hnot
    cases hnot
  unfold State.refresh
  split
  · next h => exact absurd (hskip.symm.trans h) Bool.false_ne_true
  rw [hblk]
  dsimp only
  rw [if_neg hne]
  exact ⟨List.append_assoc .., rfl⟩

theorem levelled_moves (hrun : s.running = true) (hst : s.car.st = 2) (hmove : ∀ m ∈ s.car.ops, ∀ o n w, m.act ≠ .move o n w)
    (huneven : ∃ h ∈ s.freeBlks, ∃ x ∈ s.car.blks, s.coldBlk x ∧ s.regs.CAR_WEAR_WL_DELTA + s.ec x.b < s.ec h) :
    ∃ (old new : Nat), s.levelled.car.ops = s.car.ops ++ [⟨.erase new, s.tb, false⟩, ⟨.move old new 4, s.tb, false⟩] ∧ s.levelled.car.wearAt = s.car.wearAt ∧
      new ∈ s.freeBlks ∧ (∀ h ∈ s.freeBlks, s.ec h ≤ s.ec new) ∧ (∃ x ∈ s.car.blks, x.b = old ∧ s.coldBlk x) ∧
      (∀ x ∈ s.car.blks, s.coldBlk x → s.ec old ≤ s.ec x.b) := by
  obtain ⟨h, hh, x, hx, hcold, hlt⟩ := huneven
  obtain ⟨new, hnew⟩ : ∃ z, s.hotFree = some z := pick_some (.inr (List.ne_nil_of_mem hh))
  obtain ⟨z, hz⟩ : ∃ z, s.coldest = some z := pick_some (.inr (List.ne_nil_of_mem (List.mem_filter.2 ⟨hx, stillBlk_iff.2 hcold⟩)))
  obtain ⟨hnewmem, hmost⟩ := hotFree_most hnew
  obtain ⟨hzmem, hzcold, hleast⟩ := coldest_least hz
  have hgap : s.regs.CAR_WEAR_WL_DELTA + s.ec z.b < s.ec new := by
    have hmax := hmost h hh
    have hmin := hleast x hx hcold
    omega
  obtain ⟨y, hy⟩ : ∃ y, s.carBlk z.b = some y := Option.isSome_iff_exists.1 (List.find?_isSome.2 ⟨z, hzmem, beq_self_eq_true _⟩)
  have hlev : s.levelled = s.refresh z.b 4 (some new) := by
    unfold State.levelled
    rw [hnew, hz]
    exact if_pos hgap
  obtain ⟨hops, hwear⟩ := refresh_to (reason := 4) hrun hst hmove hy hnewmem
  rw [hlev]
  exact ⟨z.b, new, hops, hwear, hnewmem, hmost, ⟨z, hzmem, rfl, hzcold⟩, hleast⟩

theorem staticWearLevel (hrun : s.running = true) (hst : s.car.st = 2) (hdue : s.car.wearAt + 10000000000 ≤ s.tbAt dt) :
    ((∀ h ∈ s.freeBlks, ∀ x ∈ s.car.blks, s.coldBlk x → s.ec h ≤ s.regs.CAR_WEAR_WL_DELTA + s.ec x.b) → ∃ t, exec (.staticWearLevel dt) s = .next t ∧
      t.but s = { s.advance dt with car := { s.car with wearAt := s.tbAt dt } }) ∧
    ((∀ m ∈ s.car.ops, ∀ o n w, m.act ≠ .move o n w) → (∃ h ∈ s.freeBlks, ∃ x ∈ s.car.blks, s.coldBlk x ∧ s.regs.CAR_WEAR_WL_DELTA + s.ec x.b < s.ec h) →
      ∃ (t : State) (old new : Nat), exec (.staticWearLevel dt) s = .next t ∧
      t.car.ops = s.car.ops ++ [⟨.erase new, s.tbAt dt, false⟩, ⟨.move old new 4, s.tbAt dt, false⟩] ∧ t.car.wearAt = s.tbAt dt ∧
      new ∈ s.freeBlks ∧ (∀ h ∈ s.freeBlks, s.ec h ≤ s.ec new) ∧ (∃ x ∈ s.car.blks, x.b = old ∧ s.coldBlk x) ∧
      (∀ x ∈ s.car.blks, s.coldBlk x → s.ec old ≤ s.ec x.b)) := by
  have hexec := exec_staticWearLevel hrun hst hdue
  constructor
  · intro heven
    have hlev : ((s.advance dt).onCar fun c => { c with wearAt := (s.advance dt).tb }).levelled = (s.advance dt).onCar fun c => { c with wearAt := (s.advance dt).tb } :=
      levelled_even (s := (s.advance dt).onCar fun c => { c with wearAt := (s.advance dt).tb }) heven
    exact ⟨_, exec_next_of hexec hlev, rfl⟩
  · intro hmove huneven
    obtain ⟨old, new, hops, hwear, hrest⟩ := levelled_moves (s := (s.advance dt).onCar fun c => { c with wearAt := (s.advance dt).tb }) hrun hst hmove huneven
    exact ⟨_, old, new, hexec, hops, hwear, hrest⟩

/-- An operation of the maintenance on a target that has waited 10 s. -/
def State.overdueOp (s : State) (target : Nat) (o : NandOp) : Bool :=
  decide (o.since + 10000000000 ≤ s.tb) &&
    (match o.act with
      | .read b _ .scrub | .move b _ _ => s.targetOf b == target
      | _ => false)

theorem overdueOp_iff {target : Nat} : s.overdueOp target o = true ↔ o.since + 10000000000 ≤ s.tb ∧
    ((∃ b p, o.act = .read b p .scrub ∧ s.targetOf b = target) ∨ (∃ b n w, o.act = .move b n w ∧ s.targetOf b = target)) := by
  obtain ⟨act, since, again⟩ := o
  unfold State.overdueOp
  rw [Bool.and_eq_true, decide_eq_true_iff]
  refine and_congr_right fun _ => ?_
  cases act with
  | program b p tag main => simp
  | erase b => simp
  | read b p why => cases why <;> simp
  | move b n w => simp

theorem maintenanceWaitExpiry {target : Fin 4} (hrun : s.running = true) (hops : s.car.ops = l' ++ o :: r) (ho : (s.advance dt).overdueOp target.val o = true)
    (hl : ∀ q ∈ l', (s.advance dt).overdueOp target.val q = false) : ∃ t, exec (.maintenanceWaitExpiry dt target) s = .next t ∧
    t.but s = { s.advance dt with car := { s.car with ops := { o with since := s.tbAt dt } :: (l' ++ r) } } := by
  have hfind : (s.advance dt).car.ops.find? ((s.advance dt).overdueOp target.val) = some o := by
    show s.car.ops.find? _ = _
    rw [hops, List.find?_append, List.find?_eq_none.2 fun q hq hp => Bool.false_ne_true ((hl q hq).symm.trans hp), List.find?_cons_of_pos ho]
    rfl
  have herase : s.car.ops.erase o = l' ++ r := by
    have hmem : o ∉ l' := fun hmem => Bool.false_ne_true ((hl o hmem).symm.trans ho)
    rw [hops, List.erase_append_right _ hmem, List.erase_cons_head]
  have hrun' : (s.advance dt).running = true := hrun
  have hexec : exec (.maintenanceWaitExpiry dt target) s
      = done ((s.advance dt).onCar fun x => { x with ops := { o with since := (s.advance dt).tb } :: x.ops.erase o }) := by
    show execMaintenanceWaitExpiry dt target s = _
    unfold execMaintenanceWaitExpiry
    extract_lets u mine
    rw [hrun']
    split
    · next o' _ ho' =>
      obtain rfl : o = o' := Option.some.inj (hfind.symm.trans ho')
      rfl
    · next hnone => exact absurd hfind (hnone o rfl)
  refine ⟨_, hexec, ?_⟩
  rw [← herase]
  rfl

theorem metaCheckpoint (hrun : s.running = true) : s.metaBytes.length = 5208 ∧ s.metaBytes.take 8 = [0x4A, 0x4E, 0x43, 0x46, 1, 0, 0, 0] ∧
    (s.car.st = 2 → s.car.metaAt + 60000000000 ≤ s.tbAt dt → ∀ x : Blk, let n : Nat := (10416 + s.carPage - 1) / s.carPage
      s.car.blks.find? (fun x => x.kind == .metaLog && x.isOpen && decide (x.pages + n ≤ s.carPpb)) = some x →
      ∃ (t : State) (l : List NandOp), exec (.metaCheckpoint dt) s = .next t ∧ t.car.ops = s.car.ops ++ l ∧ l.length = n ∧ t.car.metaAt = s.tbAt dt ∧ t.car.seq = s.car.seq + n ∧
      (∀ i, i < n → let part : List Byte := ((s.metaBytes ++ complBytes s.metaBytes).drop (i * s.carPage)).take s.carPage
        ∃ p, l[i]? = some ⟨.program x.b p (s.pageTag x.b (s.car.seq + 1 + i) 3 0 part.length (if i = 0 then 0 else 0xFFFF) 0) (s.pageMain part), s.tbAt dt, false⟩) ∧
      t.car.evt = s.car.evt ∧ t.car.dump = s.car.dump) ∧
    (s.tbAt dt < s.car.metaAt + 60000000000 → ∃ t, exec (.metaCheckpoint dt) s = .next t ∧ t.but s = s.advance dt) :=
  ⟨metaBytes_length s, metaBytes_head s, fun hst hdue _ hopen => exec_metaCheckpoint_writes hrun hst hdue hopen,
    fun hearly => ⟨_, exec_metaCheckpoint_early hearly, rfl⟩⟩

end

/-- Settles O51: the pages of a stream and of the META log, the ends of the operations on the NAND, the repeated timeouts and the target taken offline, and what
scrub, levelling and the waits add to what is queued. -/
theorem recorderOperations : Obligations.RecorderOperations := by
  intro s dt hrun
  refine ⟨fun k since hsince => ⟨fun hst hdue hbuf tg x y hturn hopen hblk hroom => ?_, fun hearly => ?_⟩, metaCheckpoint hrun, ?_, ?_, ?_, ?_, ?_, ?_, ?_⟩
  · exact exec_streamFlush_programs hrun hsince hst hdue hbuf hturn hopen hblk hroom
  · exact ⟨_, exec_streamFlush_early hsince hearly, rfl⟩
  · exact fun l r o b p tag main h hact => programDone hrun h hact
  · exact fun l r o b h hact => eraseDone hrun h hact
  · exact fun l r o b p x q h hact hblk => scrubReadDone hrun h hact hblk
  · exact fun target l r o hon h => busyTimeout hrun hon h
  · exact fun x h => ⟨scrubBlk_oldest h, fun hst => exec_scrub h hrun hst⟩
  · exact fun hst hdue => staticWearLevel hrun hst hdue
  · intro target l r o mine hops ho hl
    have hmine (q : NandOp) : (s.advance dt).overdueOp target.val q = true ↔ mine q := overdueOp_iff
    exact maintenanceWaitExpiry hrun hops ((hmine o).2 ho) fun q hq => Bool.eq_false_iff.2 fun h => hl q hq ((hmine q).1 h)

end Sys2Proof.Machine
end

section
/-! PROOF. The slots of the recorder (R478, R479), its mount (R483) and its format (R485). -/
set_option Elab.async false

namespace Sys2Proof.Machine

section
variable {s t u : State} {dt : Nat} {o : Origin} {k : Fin 16} {x : Blk} {maint : Bool} {c : Ctx} {l : List Shown}

/-! ## What work on blocks changes -/

/-- From `s` to `t` blocks, the queue of the NAND and the erase counts change alone, and what is queued stays queued. -/
structure BlkWork (s t : State) : Prop where
  frame : Frame [.ks, .car] s t
  car : ∃ blks more nextBlk seq metaAt, t.car = { s.car with blks := blks, ops := s.car.ops ++ more, nextBlk := nextBlk, seq := seq, metaAt := metaAt }

theorem BlkWork.refl (s : State) : BlkWork s s := ⟨Frame.refl _ _, s.car.blks, [], s.car.nextBlk, s.car.seq, s.car.metaAt, by rw [List.append_nil]⟩

theorem BlkWork.trans (h : BlkWork s t) (k : BlkWork t u) : BlkWork s u := by
  obtain ⟨b1, m1, n1, q1, a1, h1⟩ := h.car
  obtain ⟨b2, m2, n2, q2, a2, h2⟩ := k.car
  refine ⟨h.frame.trans k.frame, b2, m1 ++ m2, n2, q2, a2, ?_⟩
  rw [h2, h1]
  dsimp only
  rw [List.append_assoc]

/-- A change of the list of blocks alone. -/
theorem blkWork_blks (s : State) (g : List Blk → List Blk) : BlkWork s (s.onCar fun c => { c with blks := g c.blks }) :=
  ⟨(Frame.refl _ s).frame (Frame.onCar ..), _, [], _, _, _, by rw [List.append_nil]; rfl⟩

theorem blkWork_modBlk (s : State) (b : Nat) (f : Blk → Blk) : BlkWork s (s.modBlk b f) := blkWork_blks s _

theorem blkWork_nandErase (s : State) (b : Nat) : BlkWork s (s.nandErase b) := ⟨(Frame.refl _ s).frame (Frame.nandErase ..), _, [_], _, _, _, rfl⟩

theorem blkWork_newBlk (s : State) (on : Option Nat) (kind : BlkKind) : BlkWork s (s.newBlk on kind).1 := by
  refine ⟨(Frame.refl _ s).frame (Frame.newBlk ..), ?_⟩
  unfold State.newBlk
  dsimp only
  split
  · exact ⟨_, [_], _, _, _, rfl⟩
  · split
    · exact ⟨_, [_], _, _, _, rfl⟩
    · exact (BlkWork.refl s).car

theorem blkWork_metaPage (n page : Nat) (bytes : List Byte) (s : State) (i : Nat) : BlkWork s (s.metaPage n page bytes i) :=
  ⟨(((Frame.refl _ s).frame (Frame.onCar ..)).frame (Frame.modBlk ..)).frame (Frame.nandPush ..), _, [_], _, _, _, rfl⟩

theorem BlkWork.foldl {α : Type} {g : State → α → State} (hg : ∀ s z, BlkWork s (g s z)) (v : List α) (h : BlkWork s t) : BlkWork s (v.foldl g t) :=
  List.foldlRecOn v g h fun _ hu z _ => hu.trans (hg _ z)

theorem blkWork_metaWrite (s : State) : BlkWork s s.metaWrite := by
  unfold State.metaWrite
  split
  · exact .refl s
  · extract_lets _ _ _ _ here logs closed q
    have hclosed : BlkWork s closed := blkWork_blks s _
    have hq : BlkWork s q.1 := by
      unfold q
      clear_value here closed
      split
      · exact .refl s
      · split
        · exact hclosed.trans (blkWork_newBlk ..)
        · split
          · exact (hclosed.trans (blkWork_modBlk ..)).trans (blkWork_nandErase ..)
          · exact hclosed
    clear_value q
    split
    · exact hq
    · extract_lets written
      have hwritten : BlkWork s written := hq.foldl (blkWork_metaPage _ _ _) _
      exact hwritten.trans ⟨(Frame.refl _ _).frame (Frame.onCar ..), _, [], _, _, _, by rw [List.append_nil]; rfl⟩

section
variable (h : BlkWork s t)
include h

theorem BlkWork.evt : t.car.evt = s.car.evt := by
  obtain ⟨_, _, _, _, _, hcar⟩ := h.car
  rw [hcar]

theorem BlkWork.dump : t.car.dump = s.car.dump := by
  obtain ⟨_, _, _, _, _, hcar⟩ := h.car
  rw [hcar]

theorem BlkWork.st : t.car.st = s.car.st := by
  obtain ⟨_, _, _, _, _, hcar⟩ := h.car
  rw [hcar]

theorem BlkWork.gen : t.car.gen = s.car.gen := by
  obtain ⟨_, _, _, _, _, hcar⟩ := h.car
  rw [hcar]

theorem BlkWork.foreign : t.car.foreign = s.car.foreign := by
  obtain ⟨_, _, _, _, _, hcar⟩ := h.car
  rw [hcar]

theorem BlkWork.mountErr : t.car.mountErr = s.car.mountErr := by
  obtain ⟨_, _, _, _, _, hcar⟩ := h.car
  rw [hcar]

theorem BlkWork.queued {m : NandOp} (hm : m ∈ s.car.ops) : m ∈ t.car.ops := by
  obtain ⟨_, _, _, _, _, hcar⟩ := h.car
  rw [hcar]
  exact List.mem_append_left _ hm

theorem BlkWork.cp : t.cp = s.cp := h.frame.keep .cp (by decide)

theorem BlkWork.clk : t.clk = s.clk := h.frame.keep .clk (by decide)

end

/-! ## The commands of the recorder (R478, R479, R485) -/

theorem exec_carCmd_ack {i : Instr} {cmd arg : Nat} (hexec : exec i s = done ((s.advance dt).carCmd o maint cmd arg)) (hw : s.writes o = true)
    (hf : doCarCmd maint ((s.advance dt).ctx o 2) (s.advance dt) (w32 (cmd + 256 * arg)) = ack u) (hc : u.cp = s.cp) (hk : u.clk = (s.advance dt).clk) :
    exec i s = .next ({ u with cp := (s.advance dt).cpWrote o } : State).settle := by
  obtain ⟨hserves, hpair⟩ := writes_split hw
  refine exec_next_of hexec ((State.entry_ack (s.advance dt) o 2 _ _ _ _ _ _ maint 0 u { status := 0 } hserves (.inr (.inr hpair)) hf rfl).trans ?_)
  congr 1
  exact cpAfter_congr o 2 _ hc hk

theorem exec_carCmd_refused {i : Instr} {cmd arg st detail : Nat} (hexec : exec i s = done ((s.advance dt).carCmd o maint cmd arg)) (hw : s.writes o = true)
    (hf : doCarCmd maint ((s.advance dt).ctx o 2) (s.advance dt) (w32 (cmd + 256 * arg)) = nak (s.advance dt) st detail) (hv : isViolation st = true := by rfl) :
    ∃ t, exec i s = .next t ∧ t.but s = { s.advance dt with cp := t.cp, recs := t.recs } ∧ Refused s t dt o 2 st detail := by
  obtain ⟨hserves, hpair⟩ := writes_split hw
  obtain ⟨hframe, hrefused⟩ := entry_refused s dt o 2 (some Reg.CAR_CMD) (fun c s => doCarCmd maint c s (w32 (cmd + 256 * arg))) 1 false [w32 (cmd + 256 * arg)] [] maint (s.advance dt) st detail hserves (.inr (.inr hpair)) hf hv
    (serves_phase hserves) rfl rfl rfl
  exact ⟨_, exec_next_of hexec rfl, but_settle_of_frame hframe, hrefused⟩

theorem carCmd_code : (∀ k : Fin 16, fld (w32 (2 + 256 * k.val)) 0 4 = 2 ∧ fld (w32 (2 + 256 * k.val)) 8 4 = k.val) ∧
    (∀ k : Fin 16, fld (w32 (3 + 256 * k.val)) 0 4 = 3 ∧ fld (w32 (3 + 256 * k.val)) 8 4 = k.val) := by decide

theorem doCarCmd_capture : doCarCmd maint c s (w32 (1 + 256 * 0)) = needRights true c s fun s =>
    if !s.regs.CAR_CFG_EN then nak s St.state
    else if s.car.st = 2 ∨ s.car.st = 3 then ack (s.capture s.tb 0) else nak s St.state := rfl

theorem doCarCmd_evtRelease : doCarCmd maint c s (w32 (2 + 256 * k.val)) = needRights true c s fun s =>
    if !s.regs.CAR_CFG_EN then nak s St.state else s.evtRelease k.val := by
  obtain ⟨hcmd, harg⟩ := carCmd_code.1 k
  unfold doCarCmd
  rw [hcmd, harg]
  rfl

theorem doCarCmd_dumpRelease : doCarCmd maint c s (w32 (3 + 256 * k.val)) = needRights true c s fun s =>
    if !s.regs.CAR_CFG_EN then nak s St.state else s.dumpRelease k.val := by
  obtain ⟨hcmd, harg⟩ := carCmd_code.2 k
  unfold doCarCmd
  rw [hcmd, harg]
  rfl

theorem doCarCmd_format : doCarCmd maint c s (w32 (6 + 256 * 0)) =
    if c.o.cls ≠ .M then rightsNak c s
    else if s.mode.mode = .hold ∧ maint ∧ ((s.car.st = 4 ∧ s.car.mountErr = 4) ∨ (s.car.st = 3 ∧ s.car.foreign)) then ack s.carFormat
    else nak s St.state := rfl

theorem needRights_not {m : Bool} {f : State → Res} (h : s.may m c.o = false) : needRights m c s f = rightsNak c s := by
  unfold needRights
  unfold State.may at h
  rw [h]
  rfl

/-- Without the rights none of the three commands does anything. -/
theorem carCmd_rights (hw : s.writes o = true) (hmay : s.may true o = false) {i : Instr}
    (hi : i = .captureCommand dt o ∨ i = .eventSlotRelease dt o k ∨ i = .dumpSlotRelease dt o k) :
    ∃ t d, exec i s = .next t ∧ t.but s = { s.advance dt with cp := t.cp, recs := t.recs } ∧ Refused s t dt o 2 St.rights d := by
  have hmay' : (s.advance dt).may true ((s.advance dt).ctx o 2).o = false := hmay
  have hrefused {cmd arg : Nat} (hexec : exec i s = done ((s.advance dt).carCmd o false cmd arg)) {f : State → Res}
      (hf : doCarCmd false ((s.advance dt).ctx o 2) (s.advance dt) (w32 (cmd + 256 * arg)) = needRights true ((s.advance dt).ctx o 2) (s.advance dt) f) :
      ∃ t d, exec i s = .next t ∧ t.but s = { s.advance dt with cp := t.cp, recs := t.recs } ∧ Refused s t dt o 2 St.rights d := by
    obtain ⟨t, ht, hbut, hnak⟩ := exec_carCmd_refused hexec hw (hf.trans (needRights_not hmay'))
    exact ⟨t, _, ht, hbut, hnak⟩
  obtain rfl | rfl | rfl := hi
  · exact hrefused rfl doCarCmd_capture
  · exact hrefused rfl doCarCmd_evtRelease
  · exact hrefused rfl doCarCmd_dumpRelease

/-! ## Captures (R477, R478) -/

theorem doCarCmd_captures (hmay : s.may true c.o = true) (hen : s.regs.CAR_CFG_EN = true) (hst : s.car.st = 2 ∨ s.car.st = 3) :
    doCarCmd maint c s (w32 (1 + 256 * 0)) = ack (s.capture s.tb 0) := by
  rw [doCarCmd_capture, needRights_may' true c s _ hmay, hen, if_neg (show ¬ (!true) = true from Bool.false_ne_true), if_pos hst]

theorem captureCommand_off (hw : s.writes o = true) (hmay : s.may true o = true) (hoff : s.regs.CAR_CFG_EN = false ∨ (s.car.st ≠ 2 ∧ s.car.st ≠ 3)) :
    ∃ t, exec (.captureCommand dt o) s = .next t ∧ t.but s = { s.advance dt with cp := t.cp, recs := t.recs } ∧ Refused s t dt o 2 St.state 0 := by
  refine exec_carCmd_refused (maint := false) (cmd := 1) (arg := 0) rfl hw ?_
  refine doCarCmd_capture.trans ((needRights_may' true _ _ _ hmay).trans ?_)
  obtain hen | ⟨h2, h3⟩ := hoff
  · exact if_pos (show (!s.regs.CAR_CFG_EN) = true by rw [hen]; rfl)
  · split
    · rfl
    · exact if_neg (not_or.2 ⟨h2, h3⟩)

/-- A capture in whose window an instant falls (R478). -/
def State.inWindow (s : State) (t0 : Nat) (k : Fin 16) : Prop :=
  s.car.evt[k].state = 1 ∧ s.car.evt[k].first ≤ t0 + nsOf s.regs.CAR_EVT_PRE ∧ t0 ≤ s.car.evt[k].last + nsOf s.regs.CAR_EVT_POST

/-- The first place of a vector at which a predicate holds. -/
theorem find?_finRange {n : Nat} {p : Fin n → Bool} {k : Fin n} (hk : p k = true) (hfirst : ∀ j, j < k → p j = false) : (List.finRange n).find? p = some k := by
  refine List.find?_eq_some_iff_getElem.2 ⟨hk, k.val, by rw [List.length_finRange]; exact k.isLt, List.getElem_finRange _, fun j hj => ?_⟩
  rw [List.getElem_finRange, hfirst _ hj]
  rfl

/-- The capture that a trigger extends, and the slot that it opens where it extends none. -/
def State.extended (s : State) (t0 : Nat) : Option (Fin 16) := (List.finRange 16).find? fun k =>
  let e := s.car.evt[k]
  e.state == 1 && decide (e.first ≤ t0 + nsOf s.regs.CAR_EVT_PRE) && decide (t0 ≤ e.last + nsOf s.regs.CAR_EVT_POST)
def State.freeSlot (s : State) : Option (Fin 16) := (List.finRange 16).find? fun k => s.car.evt[k].state == 0

theorem inWindow_iff {t0 : Nat} : (s.car.evt[k].state == 1 && decide (s.car.evt[k].first ≤ t0 + nsOf s.regs.CAR_EVT_PRE)
    && decide (t0 ≤ s.car.evt[k].last + nsOf s.regs.CAR_EVT_POST)) = true ↔ s.inWindow t0 k := by
  unfold State.inWindow
  rw [Bool.and_eq_true, Bool.and_eq_true, beq_iff_eq, decide_eq_true_iff, decide_eq_true_iff, and_assoc]

theorem extended_none {t0 : Nat} (h : ∀ j, ¬ s.inWindow t0 j) : s.extended t0 = none := List.find?_eq_none.2 fun j _ hj => h j (inWindow_iff.1 hj)

theorem extended_first {t0 : Nat} (h : s.inWindow t0 k) (hfirst : ∀ j, j < k → ¬ s.inWindow t0 j) : s.extended t0 = some k :=
  find?_finRange (inWindow_iff.2 h) fun j hj => Bool.eq_false_iff.2 fun hin => hfirst j hj (inWindow_iff.1 hin)

theorem freeSlot_first (h : s.car.evt[k].state = 0) (hfirst : ∀ j, j < k → s.car.evt[j].state ≠ 0) : s.freeSlot = some k :=
  find?_finRange (beq_iff_eq.2 h) fun j hj => beq_false_of_ne (hfirst j hj)

theorem freeSlot_none (h : ∀ j : Fin 16, s.car.evt[j].state ≠ 0) : s.freeSlot = none := List.find?_eq_none.2 fun j _ hj => h j (beq_iff_eq.1 hj)

/-- `s` with a trigger counted in a capture that runs, and the blocks of `bs` pinned by a new one. -/
def State.retriggered (s : State) (k : Fin 16) (t0 : Nat) : State := s.modEvt k fun e => { e with trigs := satInc 8 e.trigs, last := max e.last t0 }
def State.pinnedBy (s : State) (k : Fin 16) (bs : List Nat) (t0 : Nat) : State :=
  (s.onCar fun x => { x with blks := x.blks.map fun y => if bs.contains y.b then { y with pins := y.pins ||| BitVec.ofNat 16 (2 ^ k.val) } else y }).modEvt k fun _ =>
    { state := 1, trigs := 1, first := t0, last := t0 }

theorem capture_eq (t0 what : Nat) : s.capture t0 what = match s.extended t0 with
    | some k => (s.retriggered k t0).carRec s.tb 0x1207 (k.val + 0x200) ((s.retriggered k t0).pinned k).length t0
    | none =>
      if 2 ≤ s.car.stage ∨ s.car.st ≠ 2 then s.carRec s.tb 0x1208 2 what t0
      else
        match s.freeSlot with
        | none => s.carRec s.tb 0x1208 1 what t0
        | some k => ((s.pinnedBy k (s.pinsFor t0) t0).metaWrite).carRec s.tb 0x1207 (k.val + 0x100) (s.pinsFor t0).length t0 := rfl

/-- A RECORDER record behind work on blocks. -/
theorem wrote_carRec {time code detail a b : Nat} (hphase : s.pwr.phase = .running) (hpwr : t.pwr = s.pwr) (hregs : t.regs = s.regs) (hrecs : t.recs = s.recs) :
    Wrote s (t.carRec time code detail a b) [carOf time code detail a b] :=
  Wrote.emit s t _ [] (Wrote.none s t (by rw [hrecs])) (hpwr ▸ hphase) hregs _ _ _ _ _ rfl

theorem BlkWork.carRec {time code detail a b : Nat} (h : BlkWork s t) (hphase : s.pwr.phase = .running) :
    Wrote s (t.carRec time code detail a b) [carOf time code detail a b] :=
  wrote_carRec hphase (h.frame.keep .pwr (by decide)) (h.frame.keep .regs (by decide)) (h.frame.keep .recs (by decide))

theorem exec_capture (hw : s.writes o = true) (hmay : s.may true o = true) (hen : s.regs.CAR_CFG_EN = true) (hst : s.car.st = 2 ∨ s.car.st = 3)
    (hu : (s.advance dt).capture (s.tbAt dt) 0 = u) (hcp : u.cp = s.cp) (hclk : u.clk = (s.advance dt).clk) :
    exec (.captureCommand dt o) s = .next ({ u with cp := (s.advance dt).cpWrote o } : State).settle :=
  exec_carCmd_ack (maint := false) (cmd := 1) (arg := 0) rfl hw
    ((doCarCmd_captures (c := (s.advance dt).ctx o 2) (s := s.advance dt) hmay hen hst).trans (congrArg ack hu)) hcp hclk

/-- A record and an answer. -/
theorem carRec_cp {time code detail a b : Nat} {x : CpSt} : Frame [.recs, .cp] t { t.carRec time code detail a b with cp := x } :=
  ((Frame.refl _ t).frame (Frame.carRec ..)).frame (Frame.onCp _ fun _ => x)

theorem captureCommand_extends (hrun : s.running = true) (hw : s.writes o = true) (hmay : s.may true o = true) (hen : s.regs.CAR_CFG_EN = true)
    (hst : s.car.st = 2 ∨ s.car.st = 3) (hk : s.inWindow (s.tbAt dt) k) (hfirst : ∀ j, j < k → ¬ s.inWindow (s.tbAt dt) j) :
    ∃ t, exec (.captureCommand dt o) s = .next t ∧
      t.but s = { s.advance dt with
        car := { s.car with evt := vset s.car.evt k (fun e => { e with trigs := satInc 8 e.trigs, last := max e.last (s.tbAt dt) }) }
        cp := (s.advance dt).cpWrote o, recs := t.recs } ∧
      Wrote s t [carOf (s.tbAt dt) 0x1207 (k.val + 0x200) (s.pinned k).length (s.tbAt dt)] := by
  have hcap : (s.advance dt).capture (s.tbAt dt) 0 = ((s.advance dt).retriggered k (s.tbAt dt)).carRec (s.tbAt dt) 0x1207 (k.val + 0x200) (s.pinned k).length (s.tbAt dt) := by
    rw [capture_eq, extended_first (s := s.advance dt) hk hfirst]
    rfl
  have F : Frame [.recs] ((s.advance dt).retriggered k (s.tbAt dt))
    (((s.advance dt).retriggered k (s.tbAt dt)).carRec (s.tbAt dt) 0x1207 (k.val + 0x200) (s.pinned k).length (s.tbAt dt)) := Frame.carRec ..
  refine ⟨_, exec_capture hw hmay hen hst hcap (F.keep .cp (by decide)) (F.keep .clk (by decide)), ?_,
    wrote_carRec (s := s) (t := (s.advance dt).retriggered k (s.tbAt dt)) (run_phase hrun) rfl rfl rfl⟩
  exact (but_of_recs_cp (u := (s.advance dt).retriggered k (s.tbAt dt)) carRec_cp).trans rfl

theorem captureCommand_refuses {why : Nat} (hrun : s.running = true) (hw : s.writes o = true) (hmay : s.may true o = true) (hen : s.regs.CAR_CFG_EN = true)
    (hnone : ∀ j, ¬ s.inWindow (s.tbAt dt) j)
    (hwhy : (why = 2 ∧ (s.car.st = 3 ∨ (s.car.st = 2 ∧ 2 ≤ s.car.stage))) ∨ (why = 1 ∧ s.car.st = 2 ∧ s.car.stage < 2 ∧ ∀ j : Fin 16, s.car.evt[j].state ≠ 0)) :
    ∃ t, exec (.captureCommand dt o) s = .next t ∧ t.but s = { s.advance dt with cp := (s.advance dt).cpWrote o, recs := t.recs } ∧
      Wrote s t [carOf (s.tbAt dt) 0x1208 why 0 (s.tbAt dt)] := by
  have hcap : (s.advance dt).capture (s.tbAt dt) 0 = (s.advance dt).carRec (s.tbAt dt) 0x1208 why 0 (s.tbAt dt) := by
    rw [capture_eq, extended_none (s := s.advance dt) hnone]
    dsimp only
    obtain ⟨rfl, hro⟩ | ⟨rfl, hst, hstage, hfull⟩ := hwhy
    · refine if_pos ?_
      obtain hst | ⟨-, hstage⟩ := hro
      · exact .inr fun h2 => absurd (hst.symm.trans h2) (by decide)
      · exact .inl hstage
    · refine (if_neg (not_or.2 ⟨Nat.not_le.2 hstage, not_not_intro hst⟩)).trans ?_
      rw [freeSlot_none (s := s.advance dt) hfull]
      rfl
  have hst : s.car.st = 2 ∨ s.car.st = 3 := by
    obtain ⟨-, h3 | ⟨h2, -⟩⟩ | ⟨-, h2, -⟩ := hwhy
    · exact .inr h3
    · exact .inl h2
    · exact .inl h2
  have F : Frame [.recs] (s.advance dt) ((s.advance dt).carRec (s.tbAt dt) 0x1208 why 0 (s.tbAt dt)) := Frame.carRec ..
  exact ⟨_, exec_capture hw hmay hen hst hcap (F.keep .cp (by decide)) (F.keep .clk (by decide)), (but_of_recs_cp (u := s.advance dt) carRec_cp).trans rfl,
    wrote_carRec (s := s) (t := s.advance dt) (run_phase hrun) rfl rfl rfl⟩

/-- A new capture pins its blocks, and every block of its number. -/
theorem pinnedBy_listed {bs : List Nat} {t0 : Nat} (hx : x ∈ s.car.blks) (hbs : x.b ∈ bs) :
    ListedAs x.b (fun _ pins => pins.getLsbD k.val = true) (s.pinnedBy k bs t0) := by
  have hmap : (s.pinnedBy k bs t0).car.blks
      = s.car.blks.map fun y => if bs.contains y.b then { y with pins := y.pins ||| BitVec.ofNat 16 (2 ^ k.val) } else y := rfl
  have hb (y : Blk) : (if bs.contains y.b then { y with pins := y.pins ||| BitVec.ofNat 16 (2 ^ k.val) } else y : Blk).b = y.b :=
    (apply_ite Blk.b _ _ _).trans (ite_self _)
  constructor
  · exact ⟨_, hmap ▸ List.mem_map.2 ⟨x, hx, rfl⟩, hb x⟩
  · intro z hz hzb
    rw [hmap] at hz
    obtain ⟨y, -, rfl⟩ := List.mem_map.1 hz
    have hy : y.b = x.b := (hb y).symm.trans hzb
    rw [if_pos (List.contains_iff_mem.2 (hy ▸ hbs))]
    show (y.pins ||| BitVec.ofNat 16 (2 ^ k.val)).getLsbD k.val = true
    rw [BitVec.getLsbD_or, BitVec.getLsbD_ofNat, Nat.testBit_two_pow_self, decide_eq_true k.isLt, Bool.true_and, Bool.or_true]

theorem captureCommand_opens (hrun : s.running = true) (hw : s.writes o = true) (hmay : s.may true o = true) (hen : s.regs.CAR_CFG_EN = true)
    (hst : s.car.st = 2) (hstage : s.car.stage < 2) (hnone : ∀ j, ¬ s.inWindow (s.tbAt dt) j) (hk : s.car.evt[k].state = 0)
    (hfirst : ∀ j, j < k → s.car.evt[j].state ≠ 0) :
    ∃ t, exec (.captureCommand dt o) s = .next t ∧ t.car.evt = s.car.evt.set k { state := 1, trigs := 1, first := s.tbAt dt, last := s.tbAt dt } ∧
      t.cp = (s.advance dt).cpWrote o ∧ (∀ x ∈ s.car.blks, x.b ∈ s.pinsFor (s.tbAt dt) → ∃ y ∈ t.car.blks, y.b = x.b ∧ y.pins.getLsbD k.val = true) ∧
      (s.pinsFor (s.tbAt dt)).length ≤ s.regs.CAR_AREA_EVT_MAXBLK ∧
      Wrote s t [carOf (s.tbAt dt) 0x1207 (k.val + 0x100) (s.pinsFor (s.tbAt dt)).length (s.tbAt dt)] := by
  have hcap : (s.advance dt).capture (s.tbAt dt) 0
      = ((((s.advance dt).pinnedBy k (s.pinsFor (s.tbAt dt)) (s.tbAt dt)).metaWrite).carRec (s.tbAt dt) 0x1207 (k.val + 0x100) (s.pinsFor (s.tbAt dt)).length (s.tbAt dt)) := by
    rw [capture_eq, extended_none (s := s.advance dt) hnone]
    dsimp only
    refine (if_neg (not_or.2 ⟨Nat.not_le.2 hstage, not_not_intro hst⟩)).trans ?_
    rw [freeSlot_first (s := s.advance dt) hk hfirst]
    rfl
  have hlisted (x : Blk) (hx : x ∈ s.car.blks) (hbs : x.b ∈ s.pinsFor (s.tbAt dt)) :
      ListedAs x.b (fun _ pins => pins.getLsbD k.val = true) ((s.advance dt).pinnedBy k (s.pinsFor (s.tbAt dt)) (s.tbAt dt)).metaWrite :=
    (pinnedBy_listed (s := s.advance dt) hx hbs).metaWrite fun h => Bool.false_ne_true (BitVec.getLsbD_zero.symm.trans h)
  have W := blkWork_metaWrite ((s.advance dt).pinnedBy k (s.pinsFor (s.tbAt dt)) (s.tbAt dt))
  have hevt : ((s.advance dt).pinnedBy k (s.pinsFor (s.tbAt dt)) (s.tbAt dt)).metaWrite.car.evt
      = s.car.evt.set k { state := 1, trigs := 1, first := s.tbAt dt, last := s.tbAt dt } := W.evt
  have hwork : BlkWork ((s.advance dt).modEvt k fun _ => { state := 1, trigs := 1, first := s.tbAt dt, last := s.tbAt dt })
      ((s.advance dt).pinnedBy k (s.pinsFor (s.tbAt dt)) (s.tbAt dt)).metaWrite := (blkWork_blks ((s.advance dt).modEvt k _) _).trans W
  clear W
  generalize ((s.advance dt).pinnedBy k (s.pinsFor (s.tbAt dt)) (s.tbAt dt)).metaWrite = u at *
  have F : Frame [.recs] u (u.carRec (s.tbAt dt) 0x1207 (k.val + 0x100) (s.pinsFor (s.tbAt dt)).length (s.tbAt dt)) := Frame.carRec ..
  have hcar := F.keep .car (by decide)
  refine ⟨_, exec_capture hw hmay hen (.inl hst) hcap ((F.keep .cp (by decide)).trans hwork.cp) ((F.keep .clk (by decide)).trans hwork.clk), ?_, rfl, ?_, ?_, ?_⟩
  · exact (congrArg CarSt.evt hcar).trans hevt
  · intro x hx hbs
    obtain ⟨y, hy, hyb⟩ := (hlisted x hx hbs).listed
    refine ⟨y, ?_, hyb, (hlisted x hx hbs).all y hy hyb⟩
    exact (congrArg CarSt.blks hcar).symm ▸ hy
  · unfold State.pinsFor
    dsimp only
    rw [List.length_drop]
    omega
  · exact wrote_carRec (s := s) (t := u) (run_phase hrun) (hwork.frame.keep .pwr (by decide)) (hwork.frame.keep .regs (by decide)) (hwork.frame.keep .recs (by decide))

/-! ## Released slots (R478, R479) -/

/-- A statement about every block of the list. -/
def AllBlks (Q : Blk → Prop) (s : State) : Prop := ∀ x ∈ s.car.blks, Q x

section
variable {Q : BlkKind → BitVec 16 → Prop}

theorem maskOf_false (n : Nat) : maskOf n (fun _ => false) = 0 := by
  unfold maskOf
  induction n with
  | zero => rfl
  | succ n ih =>
    rw [List.range_succ, List.foldl_append, ih]
    exact (Nat.zero_add _).trans (Nat.zero_mul _)

/-- A new block that is none of the trend log is not pinned. -/
theorem newBlk_all {on : Option Nat} {kind : BlkKind} (h : AllBlks (fun x => Q x.kind x.pins) s) (hkind : kind ≠ .ring) (hQ : Q kind 0) :
    AllBlks (fun x => Q x.kind x.pins) (s.newBlk on kind).1 := by
  have hmask (p : Nat → Bool) : maskOf 16 (fun k => kind == .ring && p k) = 0 := by
    have hfalse : (fun k => kind == .ring && p k) = fun _ => false := funext fun k => by rw [beq_false_of_ne hkind, Bool.false_and]
    rw [hfalse, maskOf_false]
  have htaken {u : State} {b : Nat} {y : Blk} (hblks : u.car.blks = s.car.blks.filter (fun x => x.b != b) ++ [y]) (hy : Q y.kind y.pins) :
      AllBlks (fun x => Q x.kind x.pins) u := fun x hx => by
    rw [hblks] at hx
    obtain hx | hx := List.mem_append.1 hx
    · exact h x (List.mem_filter.1 hx).1
    · rw [List.mem_singleton.1 hx]
      exact hy
  unfold State.newBlk
  simp only [Bool.and_assoc, hmask]
  split
  · exact htaken rfl hQ
  · split
    · exact htaken rfl hQ
    · exact h

theorem AllBlks.modBlk {n : Nat} {f : Blk → Blk} (h : AllBlks (fun x => Q x.kind x.pins) s) (hf : ∀ x, Q x.kind x.pins → Q (f x).kind (f x).pins) :
    AllBlks (fun x => Q x.kind x.pins) (s.modBlk n f) := fun x hx => by
  obtain ⟨y, hy, rfl⟩ := List.mem_map.1 hx
  split
  · exact hf y (h y hy)
  · exact h y hy

theorem metaWrite_all (h : AllBlks (fun x => Q x.kind x.pins) s) (hQ : Q .metaLog 0) : AllBlks (fun x => Q x.kind x.pins) s.metaWrite := by
  unfold State.metaWrite
  split
  · exact h
  · extract_lets _ _ _ _ here logs closed q
    have hclosed : AllBlks (fun x => Q x.kind x.pins) closed := fun x hx => by
      obtain ⟨y, hy, rfl⟩ := List.mem_map.1 hx
      split
      · exact h y hy
      · exact h y hy
    have hq : AllBlks (fun x => Q x.kind x.pins) q.1 := by
      unfold q
      clear_value here closed
      split
      · exact h
      · split
        · exact newBlk_all hclosed (fun h => by cases h) hQ
        · split
          · exact hclosed.modBlk fun _ h => h
          · exact hclosed
    clear_value q
    split
    · exact hq
    · extract_lets written
      have hwritten : AllBlks (fun x => Q x.kind x.pins) written := List.foldlRecOn _ _ hq fun v hv i _ =>
        AllBlks.modBlk (s := v.onCar fun x => { x with seq := x.seq + 1 }) hv fun _ h => h
      exact hwritten

end

theorem pinned_nil (h : AllBlks (fun x => x.pins.getLsbD k.val = false) s) : s.pinned k.val = [] := by
  unfold State.pinned
  rw [List.filter_eq_nil_iff.2 fun x hx hp => Bool.false_ne_true ((h x hx).symm.trans hp)]
  rfl

theorem rplHolds_iff {area : Nat} : s.rplHolds area k.val = true ↔ s.car.rpl.state = 1 ∧ s.car.rpl.area = area ∧ s.car.rpl.slot = k.val := by
  unfold State.rplHolds
  rw [Bool.and_eq_true, Bool.and_eq_true, beq_iff_eq, beq_iff_eq, beq_iff_eq, and_assoc]

/-- A capture slot given free: its blocks are no longer pinned by it. -/
def State.evtFreed (s : State) (k : Fin 16) : State :=
  (s.onCar fun x => { x with blks := x.blks.map fun y => { y with pins := y.pins &&& ~~~ (BitVec.ofNat 16 (2 ^ k.val)) } }).modEvt k fun _ => {}

theorem vector_getD {α : Type} {n : Nat} (v : Vector α n) (i : Fin n) (d : α) : v.getD i.val d = v[i] := by
  simp [Vector.getD]

theorem fin_ofNat {n : Nat} [NeZero n] (i : Fin n) : Fin.ofNat n i.val = i := Fin.ext (Nat.mod_eq_of_lt i.isLt)

theorem evtRelease_eq : s.evtRelease k.val = if s.car.evt[k].state ≠ 2 ∨ s.rplHolds 1 k.val then nak s St.state else
    ack (((s.evtFreed k).carRec s.tb 0x1209 (1 + 256 * k.val) (s.pinned k.val).length 0).metaWrite) := by
  unfold State.evtRelease
  dsimp only
  rw [vector_getD, fin_ofNat]
  rfl

theorem exec_evtRelease {r : Res} (hmay : s.may true o = true) (hen : s.regs.CAR_CFG_EN = true) (hr : (s.advance dt).evtRelease k.val = r) :
    doCarCmd false ((s.advance dt).ctx o 2) (s.advance dt) (w32 (2 + 256 * k.val)) = r := by
  have hen' : (!(s.advance dt).regs.CAR_CFG_EN) = false := by
    show (!s.regs.CAR_CFG_EN) = false
    rw [hen]
    rfl
  refine doCarCmd_evtRelease.trans ((needRights_may' true ((s.advance dt).ctx o 2) (s.advance dt) _ hmay).trans ?_)
  rw [hen']
  exact hr

theorem eventSlotRelease_frees (hrun : s.running = true) (hw : s.writes o = true) (hmay : s.may true o = true) (hen : s.regs.CAR_CFG_EN = true)
    (hheld : s.car.evt[k].state = 2) (hreads : ¬ (s.car.rpl.state = 1 ∧ s.car.rpl.area = 1 ∧ s.car.rpl.slot = k.val)) :
    ∃ t, exec (.eventSlotRelease dt o k) s = .next t ∧ t.car.evt = s.car.evt.set k {} ∧ t.cp = (s.advance dt).cpWrote o ∧ t.pinned k = [] ∧
      Wrote s t [carOf (s.tbAt dt) 0x1209 (1 + 256 * k.val) (s.pinned k).length 0] := by
  have hfree : (s.advance dt).evtRelease k.val = ack ((((s.advance dt).evtFreed k).carRec (s.tbAt dt) 0x1209 (1 + 256 * k.val) (s.pinned k.val).length 0).metaWrite) :=
    evtRelease_eq.trans (if_neg (not_or.2 ⟨not_not_intro hheld, fun h => hreads (rplHolds_iff.1 h)⟩))
  have F : Frame [.recs] ((s.advance dt).evtFreed k) (((s.advance dt).evtFreed k).carRec (s.tbAt dt) 0x1209 (1 + 256 * k.val) (s.pinned k.val).length 0) := Frame.carRec ..
  have hwrote : Wrote s (((s.advance dt).evtFreed k).carRec (s.tbAt dt) 0x1209 (1 + 256 * k.val) (s.pinned k.val).length 0)
      [carOf (s.tbAt dt) 0x1209 (1 + 256 * k.val) (s.pinned k.val).length 0] := wrote_carRec (t := (s.advance dt).evtFreed k) (run_phase hrun) rfl rfl rfl
  have hcar := F.keep .car (by decide)
  have hall : AllBlks (fun x => x.pins.getLsbD k.val = false) (((s.advance dt).evtFreed k).carRec (s.tbAt dt) 0x1209 (1 + 256 * k.val) (s.pinned k.val).length 0) := by
    unfold AllBlks
    rw [congrArg CarSt.blks hcar]
    intro x hx
    obtain ⟨y, -, rfl⟩ := List.mem_map.1 hx
    show (y.pins &&& ~~~ (BitVec.ofNat 16 (2 ^ k.val))).getLsbD k.val = false
    rw [BitVec.getLsbD_and, BitVec.getLsbD_not, BitVec.getLsbD_ofNat, Nat.testBit_two_pow_self, decide_eq_true k.isLt]
    exact Bool.and_false _
  generalize ((s.advance dt).evtFreed k).carRec (s.tbAt dt) 0x1209 (1 + 256 * k.val) (s.pinned k.val).length 0 = u at *
  have W := blkWork_metaWrite u
  have hpins : AllBlks (fun x => x.pins.getLsbD k.val = false) u.metaWrite := metaWrite_all (Q := fun _ pins => pins.getLsbD k.val = false) hall BitVec.getLsbD_zero
  refine ⟨_, exec_carCmd_ack (maint := false) (cmd := 2) (arg := k.val) rfl hw (exec_evtRelease hmay hen hfree) (W.cp.trans (F.keep .cp (by decide)))
    (W.clk.trans (F.keep .clk (by decide))), ?_, rfl, pinned_nil hpins, Wrote.next (u := u.metaWrite) W.frame (by decide) hwrote⟩
  exact (W.evt.trans (congrArg CarSt.evt hcar)).trans rfl

theorem eventSlotRelease_refuses (hw : s.writes o = true) (hmay : s.may true o = true) (hen : s.regs.CAR_CFG_EN = true)
    (h : s.car.evt[k].state ≠ 2 ∨ (s.car.rpl.state = 1 ∧ s.car.rpl.area = 1 ∧ s.car.rpl.slot = k.val)) :
    ∃ t, exec (.eventSlotRelease dt o k) s = .next t ∧ t.but s = { s.advance dt with cp := t.cp, recs := t.recs } ∧ Refused s t dt o 2 St.state 0 :=
  exec_carCmd_refused (maint := false) (cmd := 2) (arg := k.val) rfl hw
    (exec_evtRelease hmay hen (evtRelease_eq.trans (if_pos (h.imp_right fun hreads => rplHolds_iff.2 hreads))))

/-! ## Dump slots -/

/-- The blocks of a dump slot erased. -/
def State.dumpErased (s : State) (bs : List Nat) : State := bs.foldl (fun s b => (s.nandErase b).modBlk b fun x => { x with seqs := [] }) s

theorem blkWork_dumpErased (bs : List Nat) (s : State) : BlkWork s (s.dumpErased bs) :=
  BlkWork.foldl (fun v b => (blkWork_nandErase v b).trans (blkWork_modBlk ..)) bs (.refl s)

/-- Of blocks that are worked on in turn each is queued for its erase. -/
theorem foldl_queues {g : State → Nat → State} (hg : ∀ s b, BlkWork s (g s b)) (hq : ∀ s b, ⟨.erase b, s.tb, false⟩ ∈ (g s b).car.ops) {bs : List Nat} {b : Nat}
    (hb : b ∈ bs) : ∃ m ∈ (bs.foldl g s).car.ops, m.act = .erase b := by
  induction bs generalizing s with
  | nil => cases hb
  | cons a bs ih =>
    obtain rfl | hb := List.mem_cons.1 hb
    · exact ⟨_, ((BlkWork.refl _).foldl hg bs).queued (hq s b), rfl⟩
    · exact ih hb

theorem dumpErased_queues {bs : List Nat} {b : Nat} (hb : b ∈ bs) : ∃ m ∈ (s.dumpErased bs).car.ops, m.act = .erase b :=
  foldl_queues (fun v b => (blkWork_nandErase v b).trans (blkWork_modBlk ..)) (fun _ _ => List.mem_append_right _ (List.mem_singleton.2 rfl)) hb

/-- A dump slot given free, its blocks erased. -/
def State.dumpFreed (s : State) (j : Fin 4) : State :=
  (s.dumpErased ((s.car.blks.filter fun x => x.kind == .dump j.val).map (·.b))).onCar fun x => { x with dump := vset x.dump j fun _ => {} }

theorem dumpRelease_eq {j : Fin 4} (hj : j.val = k.val) : s.dumpRelease k.val = if s.car.dump[j].state ≠ 2 ∨ s.rplHolds 2 k.val ∨ s.car.st ≠ 2 then nak s St.state else
    ack (((s.dumpFreed j).carRec (s.dumpFreed j).tb 0x1209 (2 + 256 * k.val) (s.car.blks.filter fun x => x.kind == .dump k.val).length 0).metaWrite) := by
  have hlt : ¬ 4 ≤ j.val := Nat.not_le.2 j.isLt
  rw [← hj]
  unfold State.dumpRelease
  dsimp only
  rw [vector_getD, fin_ofNat, List.length_map]
  split
  · next h => rw [if_pos (h.resolve_left hlt)]
  · next h =>
    rw [if_neg fun h' => h (.inr h')]
    rfl

theorem exec_dumpRelease {r : Res} (hmay : s.may true o = true) (hen : s.regs.CAR_CFG_EN = true) (hr : (s.advance dt).dumpRelease k.val = r) :
    doCarCmd false ((s.advance dt).ctx o 2) (s.advance dt) (w32 (3 + 256 * k.val)) = r := by
  have hen' : (!(s.advance dt).regs.CAR_CFG_EN) = false := by
    show (!s.regs.CAR_CFG_EN) = false
    rw [hen]
    rfl
  refine doCarCmd_dumpRelease.trans ((needRights_may' true ((s.advance dt).ctx o 2) (s.advance dt) _ hmay).trans ?_)
  rw [hen']
  exact hr

theorem dumpSlotRelease_refuses (hw : s.writes o = true) (hmay : s.may true o = true) (hen : s.regs.CAR_CFG_EN = true)
    (h : 4 ≤ k.val ∨ (∃ j : Fin 4, j.val = k.val ∧ s.car.dump[j].state ≠ 2) ∨ (s.car.rpl.state = 1 ∧ s.car.rpl.area = 2 ∧ s.car.rpl.slot = k.val) ∨ s.car.st ≠ 2) :
    ∃ t, exec (.dumpSlotRelease dt o k) s = .next t ∧ t.but s = { s.advance dt with cp := t.cp, recs := t.recs } ∧ Refused s t dt o 2 St.state 0 := by
  have hnak : (s.advance dt).dumpRelease k.val = nak (s.advance dt) St.state := by
    refine if_pos ?_
    obtain h | ⟨j, hj, hstate⟩ | hreads | hst := h
    · exact .inl h
    · refine .inr (.inl ?_)
      rw [← hj, vector_getD]
      exact hstate
    · exact .inr (.inr (.inl (rplHolds_iff.2 hreads)))
    · exact .inr (.inr (.inr hst))
  exact exec_carCmd_refused (maint := false) (cmd := 3) (arg := k.val) rfl hw (exec_dumpRelease hmay hen hnak)

theorem dumpSlotRelease_frees {j : Fin 4} (hj : j.val = k.val) (hrun : s.running = true) (hw : s.writes o = true) (hmay : s.may true o = true)
    (hen : s.regs.CAR_CFG_EN = true) (hheld : s.car.dump[j].state = 2) (hst : s.car.st = 2)
    (hreads : ¬ (s.car.rpl.state = 1 ∧ s.car.rpl.area = 2 ∧ s.car.rpl.slot = k.val)) :
    ∃ t, exec (.dumpSlotRelease dt o k) s = .next t ∧ t.car.dump = s.car.dump.set j {} ∧ t.cp = (s.advance dt).cpWrote o ∧
      (∀ x ∈ s.car.blks, x.kind = .dump k.val → ∃ m ∈ t.car.ops, m.act = .erase x.b) ∧
      Wrote s t [carOf (s.tbAt dt) 0x1209 (2 + 256 * k.val) (s.car.blks.filter (fun x => x.kind == .dump k.val)).length 0] := by
  have hfree := (dumpRelease_eq (s := s.advance dt) hj).trans
    (if_neg (not_or.2 ⟨not_not_intro hheld, not_or.2 ⟨fun h => hreads (rplHolds_iff.1 h), not_not_intro hst⟩⟩))
  have E := blkWork_dumpErased ((s.car.blks.filter fun x => x.kind == .dump j.val).map (·.b)) (s.advance dt)
  have hdump : ((s.advance dt).dumpFreed j).car.dump = s.car.dump.set j {} := congrArg (fun v => vset v j fun _ => ({} : DumpSlot)) E.dump
  have hqueued (x : Blk) (hx : x ∈ s.car.blks) (hkind : x.kind = .dump k.val) : ∃ m ∈ ((s.advance dt).dumpFreed j).car.ops, m.act = .erase x.b :=
    dumpErased_queues (s := s.advance dt) (List.mem_map.2 ⟨x, List.mem_filter.2 ⟨hx, beq_iff_eq.2 (by rw [hkind, hj])⟩, rfl⟩)
  have E' : Frame [.ks, .car] (s.advance dt) ((s.advance dt).dumpFreed j) := E.frame.frame (Frame.onCar ..)
  generalize (s.advance dt).dumpFreed j = v at *
  have htb : v.tb = s.tbAt dt := congrArg (·.tb) (E'.keep .clk (by decide))
  rw [htb] at hfree
  have F : Frame [.recs] v (v.carRec (s.tbAt dt) 0x1209 (2 + 256 * k.val) (s.car.blks.filter fun x => x.kind == .dump k.val).length 0) := Frame.carRec ..
  have hwrote : Wrote s (v.carRec (s.tbAt dt) 0x1209 (2 + 256 * k.val) (s.car.blks.filter fun x => x.kind == .dump k.val).length 0)
      [carOf (s.tbAt dt) 0x1209 (2 + 256 * k.val) (s.car.blks.filter fun x => x.kind == .dump k.val).length 0] :=
    wrote_carRec (t := v) (run_phase hrun) (E'.keep .pwr (by decide)) (E'.keep .regs (by decide)) (E'.keep .recs (by decide))
  have hcar := F.keep .car (by decide)
  have hcp := (F.keep .cp (by decide)).trans (E'.keep .cp (by decide))
  have hclk := (F.keep .clk (by decide)).trans (E'.keep .clk (by decide))
  have hfree' : (s.advance dt).dumpRelease k.val
      = ack (v.carRec (s.tbAt dt) 0x1209 (2 + 256 * k.val) (s.car.blks.filter fun x => x.kind == .dump k.val).length 0).metaWrite := hfree
  clear hfree F
  generalize v.carRec (s.tbAt dt) 0x1209 (2 + 256 * k.val) (s.car.blks.filter fun x => x.kind == .dump k.val).length 0 = u at *
  have W := blkWork_metaWrite u
  refine ⟨_, exec_carCmd_ack (maint := false) (cmd := 3) (arg := k.val) rfl hw (exec_dumpRelease hmay hen hfree') (W.cp.trans hcp) (W.clk.trans hclk), ?_, rfl,
    fun x hx hkind => ?_, Wrote.next (u := u.metaWrite) W.frame (by decide) hwrote⟩
  · exact (W.dump.trans (congrArg CarSt.dump hcar)).trans hdump
  · obtain ⟨m, hm, hact⟩ := hqueued x hx hkind
    exact ⟨m, W.queued ((congrArg CarSt.ops hcar).symm ▸ hm), hact⟩

/-! ## The format (R485) -/

/-- Work on blocks and dump slots. -/
structure SlotWork (s t : State) : Prop where
  frame : Frame [.ks, .car] s t
  st : t.car.st = s.car.st
  gen : t.car.gen = s.car.gen
  foreign : t.car.foreign = s.car.foreign
  mountErr : t.car.mountErr = s.car.mountErr
  evt : t.car.evt = s.car.evt
  queued : ∀ m ∈ s.car.ops, m ∈ t.car.ops

theorem BlkWork.slot (h : BlkWork s t) : SlotWork s t := ⟨h.frame, h.st, h.gen, h.foreign, h.mountErr, h.evt, fun _ => h.queued⟩

theorem SlotWork.trans (h : SlotWork s t) (k : SlotWork t u) : SlotWork s u :=
  ⟨h.frame.trans k.frame, k.st.trans h.st, k.gen.trans h.gen, k.foreign.trans h.foreign, k.mountErr.trans h.mountErr, k.evt.trans h.evt,
    fun m hm => k.queued m (h.queued m hm)⟩

/-- A dump slot that is given up. -/
theorem slotWork_dump (s : State) (g : Vector DumpSlot 4 → Vector DumpSlot 4) : SlotWork s (s.onCar fun c => { c with dump := g c.dump }) :=
  ⟨(Frame.refl _ s).frame (Frame.onCar ..), rfl, rfl, rfl, rfl, rfl, fun _ hm => hm⟩

theorem slotWork_allocDump (s : State) : SlotWork s s.allocDump := by
  unfold State.allocDump
  refine List.foldlRecOn _ _ (BlkWork.refl s).slot fun u hu k _ => ?_
  extract_lets
  split
  · refine List.foldlRecOn _ _ hu fun v hv i _ => ?_
    have hnew := hv.trans (blkWork_newBlk v none (.dump k)).slot
    extract_lets q
    split
    · exact hnew.trans (blkWork_modBlk ..).slot
    · exact hnew.trans (slotWork_dump q.1 fun d => vset d (Fin.ofNat 4 k) fun d => { d with state := 3 })
  · exact hu

/-- No block is of the trend log, and `n` are bad. -/
structure RingFree (n : Nat) (s : State) : Prop where
  noRing : ∀ x ∈ s.car.blks, x.kind ≠ .ring
  bad : s.badCount = n

theorem RingFree.congr {n : Nat} (h : RingFree n s) (hblks : t.car.blks = s.car.blks) : RingFree n t := by
  refine ⟨hblks ▸ h.noRing, Eq.trans ?_ h.bad⟩
  unfold State.badCount
  rw [hblks]

theorem RingFree.map {n : Nat} {g : Blk → Blk} (h : RingFree n s) (hblks : t.car.blks = s.car.blks.map g) (hg : ∀ x, (g x).kind = x.kind) : RingFree n t := by
  constructor
  · intro x hx
    rw [hblks] at hx
    obtain ⟨y, hy, rfl⟩ := List.mem_map.1 hx
    rw [hg]
    exact h.noRing y hy
  · refine Eq.trans ?_ h.bad
    have hcomp : (fun x : Blk => x.kind == .bad) ∘ g = fun x => x.kind == .bad := funext fun x => congrArg (· == BlkKind.bad) (hg x)
    unfold State.badCount
    rw [hblks, List.filter_map, hcomp, List.length_map]

theorem RingFree.modBlk {n b : Nat} {f : Blk → Blk} (h : RingFree n s) (hf : ∀ x, (f x).kind = x.kind) : RingFree n (s.modBlk b f) :=
  h.map (g := fun y => if y.b = b then f y else y) rfl fun x => (apply_ite Blk.kind _ _ _).trans (ite_eq_right_iff.2 fun _ => hf x)

/-- A block that was not listed yet. -/
theorem RingFree.add {n b : Nat} {y : Blk} (h : RingFree n s) (hfree : s.carBlk b = none) (hblks : t.car.blks = s.car.blks.filter (fun x => x.b != b) ++ [y])
    (hring : y.kind ≠ .ring) (hbad : y.kind ≠ .bad) : RingFree n t := by
  have hkeep : s.car.blks.filter (fun x => x.b != b) = s.car.blks :=
    List.filter_eq_self.2 fun x hx => bne_iff_ne.2 fun heq => List.find?_eq_none.1 hfree x hx (beq_iff_eq.2 heq)
  rw [hkeep] at hblks
  constructor
  · intro x hx
    rw [hblks] at hx
    obtain hx | hx := List.mem_append.1 hx
    · exact h.noRing x hx
    · rw [List.mem_singleton.1 hx]
      exact hring
  · refine Eq.trans ?_ h.bad
    unfold State.badCount
    rw [hblks, List.filter_append, List.filter_singleton, beq_false_of_ne hbad]
    exact congrArg List.length (List.append_nil _)

theorem RingFree.newBlk {n : Nat} {kind : BlkKind} (h : RingFree n s) (hring : kind ≠ .ring) (hbad : kind ≠ .bad) : RingFree n (s.newBlk none kind).1 := by
  unfold State.newBlk
  dsimp only
  split
  · next f hf =>
    obtain ⟨tg, -, hleast⟩ := List.mem_filterMap.1 (List.mem_of_mem_head? hf)
    exact h.add (freeBlks_none (leastFree_mem hleast).1) rfl hring hbad
  · split
    · next x hx =>
      obtain ⟨hmem, hkind, -⟩ := oldestRing_mem hx
      exact absurd hkind (h.noRing x hmem)
    · exact h

theorem RingFree.allocDump {n : Nat} (h : RingFree n s) : RingFree n s.allocDump := by
  unfold State.allocDump
  refine List.foldlRecOn _ _ h fun u hu k _ => ?_
  extract_lets
  split
  · refine List.foldlRecOn _ _ hu fun v hv i _ => ?_
    have hnew : RingFree n (v.newBlk none (.dump k)).1 := hv.newBlk (fun h => by cases h) fun h => by cases h
    extract_lets q
    split
    · exact hnew.modBlk fun _ => rfl
    · exact hnew.congr rfl
  · exact hu

theorem RingFree.metaPage {n b page i : Nat} {bytes : List Byte} (h : RingFree n s) : RingFree n (s.metaPage b page bytes i) :=
  ((h.congr (t := s.onCar fun x => { x with seq := x.seq + 1 }) rfl).modBlk (b := b) (f := fun x => { x with seqs := x.seqs ++ [s.car.seq + 1] }) fun _ => rfl).congr rfl

theorem RingFree.metaWrite {n : Nat} (h : RingFree n s) : RingFree n s.metaWrite := by
  unfold State.metaWrite
  split
  · exact h
  · extract_lets _ _ _ _ here logs closed q
    have hclosed : RingFree n closed :=
      h.map (g := fun y => if y.kind = .metaLog then { y with isOpen := false } else y) rfl fun x => (apply_ite Blk.kind _ _ _).trans (ite_self _)
    have hq : RingFree n q.1 := by
      unfold q
      clear_value here closed
      split
      · exact h
      · split
        · exact hclosed.newBlk (fun h => by cases h) fun h => by cases h
        · split
          · exact (hclosed.modBlk (f := fun y => { y with isOpen := true, seqs := [], seq := _ }) fun _ => rfl).congr rfl
          · exact hclosed
    clear_value q
    split
    · exact hq
    · extract_lets written
      have hwritten : RingFree n written := List.foldlRecOn _ _ hq fun v hv i _ => hv.metaPage
      exact hwritten.congr rfl

theorem stageEval_leaves (s : State) : (s.stageEval.car.st = s.car.st ∨ s.stageEval.car.st = 3) ∧ s.stageEval.car.gen = s.car.gen ∧ s.stageEval.car.foreign = s.car.foreign ∧
    s.stageEval.car.mountErr = s.car.mountErr ∧ s.stageEval.car.evt = s.car.evt ∧ s.stageEval.car.ops = s.car.ops ∧ s.stageEval.car.stage = max s.car.stage s.stageNow := by
  unfold State.stageEval
  dsimp only
  split
  · next h => exact ⟨.inl rfl, rfl, rfl, rfl, rfl, rfl, h.symm⟩
  · generalize hu : (s.onCar fun x => { x with stage := max s.car.stage s.stageNow, st := if max s.car.stage s.stageNow = 3 ∧ x.st = 2 then 3 else x.st }) = u
    have hcar : (u.carRec s.tb 0x120A (max s.car.stage s.stageNow) s.goodCount s.ecMean).car = u.car := (Frame.carRec ..).keep .car (by decide)
    rw [hcar, ← hu]
    refine ⟨?_, rfl, rfl, rfl, rfl, rfl, rfl⟩
    dsimp only [State.onCar]
    split
    · exact .inr rfl
    · exact .inl rfl

/-- What a format leaves. -/
structure Formatted (s t : State) : Prop where
  frame : Frame [.ks, .recs, .car] s t
  st : t.car.st = 2 ∨ t.car.st = 3
  gen : t.car.gen = s.car.gen + 1
  foreign : t.car.foreign = false
  mountErr : t.car.mountErr = 0
  evt : t.car.evt = Vector.replicate 16 {}
  erases : ∀ b, b < s.carTotal → (∀ x ∈ s.car.blks, x.b = b → x.kind ≠ .bad) → ∃ m ∈ t.car.ops, m.act = .erase b
  record : s.pwr.phase = .running → Begins s t [carOf s.tb 0x1202 (s.car.gen + 1) s.badCount 0]

/-- A recorder of a new generation that knows of its bad blocks alone. -/
def State.formatStart (s : State) : State := s.onCar fun x => { x with
  st := 2, stage := 0, mountErr := 0, foreign := false, gen := s.car.gen + 1, ops := []
  blks := x.blks.filter (fun y => y.kind == .bad), evt := Vector.replicate 16 {}, dump := Vector.replicate 4 {} }

theorem ringFree_formatStart (s : State) : RingFree s.badCount s.formatStart := by
  constructor
  · intro x hx hring
    have hkind := (List.mem_filter.1 hx).2
    rw [hring] at hkind
    cases hkind
  · show ((s.car.blks.filter fun y => y.kind == .bad).filter fun y => y.kind == .bad).length = (s.car.blks.filter fun y => y.kind == .bad).length
    rw [List.filter_filter]
    simp only [Bool.and_self]

theorem formatStart_free {b : Nat} (hb : b < s.carTotal) (hgood : ∀ x ∈ s.car.blks, x.b = b → x.kind ≠ .bad) : b ∈ s.formatStart.freeBlks := by
  refine List.mem_filter.2 ⟨List.mem_range.2 hb, Option.isNone_iff_eq_none.2 (List.find?_eq_none.2 fun x hx hxb => ?_)⟩
  obtain ⟨hmem, hkind⟩ := List.mem_filter.1 hx
  exact hgood x hmem (beq_iff_eq.1 hxb) (beq_iff_eq.1 hkind)

/-- Every free block erased. -/
def State.allErased (s : State) : State := s.freeBlks.foldl (fun s b => s.nandErase b) s

theorem blkWork_allErased (s : State) : BlkWork s s.allErased := (BlkWork.refl s).foldl blkWork_nandErase _

theorem allErased_queues {b : Nat} (hb : b ∈ s.freeBlks) : ∃ m ∈ s.allErased.car.ops, m.act = .erase b :=
  foldl_queues blkWork_nandErase (fun _ _ => List.mem_append_right _ (List.mem_singleton.2 rfl)) hb

theorem RingFree.allErased {n : Nat} (h : RingFree n s) : RingFree n s.allErased := List.foldlRecOn _ _ h fun _ hv _ _ => hv.congr rfl

/-- The dump slots and the META log of a new generation. -/
def State.slotsSet (s : State) (gen : Nat) : State :=
  let s := s.ksPair 0xA000 128 (s.wearHeader gen)
  (s.allocDump.metaWrite).onCar (fun x => { x with wearAt := s.tb })

/-- The record of a format, and the stage that it leaves. -/
def State.formatEnd (s : State) (gen : Nat) : State := (s.carRec s.tb 0x1202 gen s.badCount 0).stageEval

theorem slotWork_slotsSet (s : State) (gen : Nat) : SlotWork s (s.slotsSet gen) := by
  have F : Frame [.ks] s (s.ksPair 0xA000 128 (s.wearHeader gen)) := Frame.ksPair ..
  have hcar := F.keep .car (by decide)
  unfold State.slotsSet
  generalize s.ksPair 0xA000 128 (s.wearHeader gen) = u at *
  have W := (slotWork_allocDump u).trans (blkWork_metaWrite _).slot
  dsimp only
  generalize u.allocDump.metaWrite = v at *
  have FW : Frame [.ks, .car] u (v.onCar fun x => { x with wearAt := u.tb }) := W.frame.frame (Frame.onCar ..)
  refine ⟨((Frame.refl _ s).frame F).trans FW, ?_, ?_, ?_, ?_, ?_, fun m hm => W.queued m ((congrArg CarSt.ops hcar).symm ▸ hm)⟩
  · exact W.st.trans (congrArg CarSt.st hcar)
  · exact W.gen.trans (congrArg CarSt.gen hcar)
  · exact W.foreign.trans (congrArg CarSt.foreign hcar)
  · exact W.mountErr.trans (congrArg CarSt.mountErr hcar)
  · exact W.evt.trans (congrArg CarSt.evt hcar)

theorem RingFree.slotsSet {n gen : Nat} (h : RingFree n s) : RingFree n (s.slotsSet gen) := by
  have hcar : (s.ksPair 0xA000 128 (s.wearHeader gen)).car = s.car := (Frame.ksPair ..).keep .car (by decide)
  unfold State.slotsSet
  generalize s.ksPair 0xA000 128 (s.wearHeader gen) = u at *
  dsimp only
  have hu := (h.congr (congrArg CarSt.blks hcar)).allocDump.metaWrite
  generalize u.allocDump.metaWrite = v at *
  exact hu.congr rfl

theorem carFormat_eq (s : State) : s.carFormat = (s.formatStart.allErased.slotsSet (s.car.gen + 1)).formatEnd (s.car.gen + 1) := rfl

theorem carFormat_formatted (s : State) : Formatted s s.carFormat := by
  have F1 : Frame [.ks, .car] s s.formatStart := (Frame.refl _ s).frame (Frame.onCar ..)
  have W2 := (blkWork_allErased s.formatStart).slot.trans (slotWork_slotsSet s.formatStart.allErased (s.car.gen + 1))
  have R := ((ringFree_formatStart s).allErased).slotsSet (gen := s.car.gen + 1)
  have herases (b : Nat) (hb : b < s.carTotal) (hgood : ∀ x ∈ s.car.blks, x.b = b → x.kind ≠ .bad) :
      ∃ m ∈ (s.formatStart.allErased.slotsSet (s.car.gen + 1)).car.ops, m.act = .erase b := by
    obtain ⟨m, hm, hact⟩ := allErased_queues (formatStart_free hb hgood)
    exact ⟨m, (slotWork_slotsSet _ _).queued m hm, hact⟩
  rw [carFormat_eq]
  generalize s.formatStart.allErased.slotsSet (s.car.gen + 1) = u at *
  have F : Frame [.ks, .car] s u := F1.trans W2.frame
  have htb : u.tb = s.tb := congrArg (·.tb) (F.keep .clk (by decide))
  unfold State.formatEnd
  rw [htb, R.bad]
  have hcar : (u.carRec s.tb 0x1202 (s.car.gen + 1) s.badCount 0).car = u.car := (Frame.carRec ..).keep .car (by decide)
  have FR : Frame [.ks, .recs, .car] s (u.carRec s.tb 0x1202 (s.car.gen + 1) s.badCount 0) := ((Frame.refl _ s).frame F).frame (Frame.carRec ..)
  have hbegins (hphase : s.pwr.phase = .running) : Begins s (u.carRec s.tb 0x1202 (s.car.gen + 1) s.badCount 0) [carOf s.tb 0x1202 (s.car.gen + 1) s.badCount 0] :=
    carRec_begins ((congrArg (·.phase) (F.keep .pwr (by decide))).trans hphase) (F.keep .regs (by decide)) (F.keep .recs (by decide))
  generalize u.carRec s.tb 0x1202 (s.car.gen + 1) s.badCount 0 = v at *
  obtain ⟨hst, hgen, hforeign, hmountErr, hevt, hops, -⟩ := stageEval_leaves v
  rw [hcar] at hst hgen hforeign hmountErr hevt hops
  refine ⟨FR.frame (Frame.stageEval ..), ?_, hgen.trans W2.gen, hforeign.trans W2.foreign, hmountErr.trans W2.mountErr, hevt.trans W2.evt, fun b hb hgood => ?_,
    fun hphase => (hbegins hphase).stageEval⟩
  · exact hst.imp_left fun h => h.trans W2.st
  · rw [hops]
    exact herases b hb hgood

theorem format_formats (hrun : s.running = true) (hw : s.writes o = true) (hcls : o.cls = .M)
    (hfit : s.mode.mode = .hold ∧ maint = true ∧ ((s.car.st = 4 ∧ s.car.mountErr = 4) ∨ (s.car.st = 3 ∧ s.car.foreign = true))) :
    ∃ (t : State) (more : List Shown), exec (.format dt o maint) s = .next t ∧ (t.car.st = 2 ∨ t.car.st = 3) ∧ t.car.gen = s.car.gen + 1 ∧ t.car.foreign = false ∧
      t.car.mountErr = 0 ∧ t.car.evt = Vector.replicate 16 {} ∧ (∀ b, b < s.carTotal → (∀ x ∈ s.car.blks, x.b = b → x.kind ≠ .bad) → ∃ m ∈ t.car.ops, m.act = .erase b) ∧
      Wrote s t (carOf (s.tbAt dt) 0x1202 (s.car.gen + 1) s.badCount 0 :: more) := by
  have hf : doCarCmd maint ((s.advance dt).ctx o 2) (s.advance dt) (w32 (6 + 256 * 0)) = ack (s.advance dt).carFormat :=
    doCarCmd_format.trans ((if_neg (show ¬ ((s.advance dt).ctx o 2).o.cls ≠ .M from not_not_intro hcls)).trans (if_pos hfit))
  have F := carFormat_formatted (s.advance dt)
  generalize (s.advance dt).carFormat = u at hf F
  obtain ⟨more, hmore⟩ := (F.record (run_phase hrun)).wrote
  exact ⟨_, more, exec_carCmd_ack (cmd := 6) (arg := 0) rfl hw hf (F.frame.keep .cp (by decide)) (F.frame.keep .clk (by decide)), F.st, F.gen, F.foreign, F.mountErr, F.evt,
    F.erases, hmore⟩

theorem format_refuses_rights (hw : s.writes o = true) (hcls : o.cls ≠ .M) : ∃ t d, exec (.format dt o maint) s = .next t ∧
    t.but s = { s.advance dt with cp := t.cp, recs := t.recs } ∧ Refused s t dt o 2 St.rights d := by
  obtain ⟨t, ht, hbut, hnak⟩ := exec_carCmd_refused (dt := dt) (i := .format dt o maint) (cmd := 6) (arg := 0) rfl hw
    (doCarCmd_format.trans (if_pos (show ((s.advance dt).ctx o 2).o.cls ≠ .M from hcls)))
  exact ⟨t, _, ht, hbut, hnak⟩

theorem format_refuses_state (hw : s.writes o = true) (hcls : o.cls = .M)
    (hfit : ¬ (s.mode.mode = .hold ∧ maint = true ∧ ((s.car.st = 4 ∧ s.car.mountErr = 4) ∨ (s.car.st = 3 ∧ s.car.foreign = true)))) :
    ∃ t, exec (.format dt o maint) s = .next t ∧ t.but s = { s.advance dt with cp := t.cp, recs := t.recs } ∧ Refused s t dt o 2 St.state 0 :=
  exec_carCmd_refused (cmd := 6) (arg := 0) rfl hw
    (doCarCmd_format.trans ((if_neg (show ¬ ((s.advance dt).ctx o 2).o.cls ≠ .M from not_not_intro hcls)).trans (if_neg hfit)))

/-! ## The end of a capture's window (R478) -/

/-- A capture held: its blocks take no further page. -/
def State.evtHeld (s : State) (k : Fin 16) : State :=
  (s.onCar fun x => { x with blks := x.blks.map fun y => if y.pins.getLsbD k.val then { y with isOpen := false } else y }).modEvt k fun e => { e with state := 2 }

theorem pinned_evtHeld : (s.evtHeld k).pinned k.val = s.pinned k.val := by
  have hcomp : (fun x : Blk => x.pins.getLsbD k.val) ∘ (fun y : Blk => if y.pins.getLsbD k.val then { y with isOpen := false } else y) = fun x => x.pins.getLsbD k.val :=
    funext fun y => congrArg (fun v : BitVec 16 => v.getLsbD k.val) ((apply_ite Blk.pins _ _ _).trans (ite_self _))
  show ((s.car.blks.map fun y => if y.pins.getLsbD k.val then { y with isOpen := false } else y).filter fun x => x.pins.getLsbD k.val).map (·.b) = _
  rw [List.filter_map, hcomp, List.map_map]
  exact List.map_congr_left fun y _ => (apply_ite Blk.b _ _ _).trans (ite_self _)

theorem captureWindowEnd_holds {e : EvtSlot} (hrun : s.running = true) (he : s.car.evt[k] = e) (hopen : e.state = 1)
    (hlate : e.last + 2 * nsOf s.regs.CAR_EVT_POST < s.tbAt dt) : ∃ t, exec (.captureWindowEnd dt k) s = .next t ∧
    t.car.evt = s.car.evt.set k { e with state := 2 } ∧ Wrote s t [carOf (s.tbAt dt) 0x1207 (k.val + 0x300) (s.pinned k).length e.first] := by
  have hover : (s.advance dt).windowOver k = true := by
    have hl : decide ((s.advance dt).car.evt[k].last + 2 * nsOf (s.advance dt).regs.CAR_EVT_POST < (s.advance dt).tb) = true := decide_eq_true (he.symm ▸ hlate)
    unfold State.windowOver
    dsimp only
    rw [hl, Bool.or_true, Bool.true_or, Bool.and_true]
    exact beq_iff_eq.2 ((congrArg EvtSlot.state he).trans hopen)
  have hready : ((s.advance dt).running && (s.advance dt).windowOver k) = true := Bool.and_eq_true_iff.2 ⟨hrun, hover⟩
  have hevt : ((s.advance dt).evtHeld k).car.evt = s.car.evt.set k { e with state := 2 } := by
    rw [← he]
    rfl
  have hfirst : ((s.advance dt).evtHeld k).car.evt[k].first = e.first := by
    rw [congrArg (fun v => v[k]) hevt]
    exact (congrArg EvtSlot.first (vset_self s.car.evt k fun _ => { e with state := 2 })).trans rfl
  have hexec : exec (.captureWindowEnd dt k) s = done (((s.advance dt).evtHeld k).metaWrite.carRec (s.tbAt dt) 0x1207 (k.val + 0x300) (s.pinned k.val).length e.first) := by
    have hstep : exec (.captureWindowEnd dt k) s = done (((s.advance dt).evtHeld k).metaWrite.carRec ((s.advance dt).evtHeld k).tb 0x1207 (k.val + 0x300)
        (((s.advance dt).evtHeld k).pinned k.val).length ((s.advance dt).evtHeld k).car.evt[k].first) := if_pos hready
    rw [hstep, pinned_evtHeld, hfirst]
    rfl
  have W := (blkWork_blks ((s.advance dt).modEvt k fun e => { e with state := 2 }) _).trans (blkWork_metaWrite ((s.advance dt).evtHeld k))
  have hevt' := (blkWork_metaWrite ((s.advance dt).evtHeld k)).evt.trans hevt
  generalize ((s.advance dt).evtHeld k).metaWrite = u at *
  refine ⟨_, hexec, ?_, wrote_carRec (t := u) (run_phase hrun) (W.frame.keep .pwr (by decide)) (W.frame.keep .regs (by decide)) (W.frame.keep .recs (by decide))⟩
  exact (congrArg CarSt.evt ((Frame.carRec ..).keep .car (by decide))).trans hevt'

theorem captureWindowEnd_stays {e : EvtSlot} {j : Fin 4} (he : s.car.evt[k] = e) (hearly : s.tbAt dt ≤ e.last + 2 * nsOf s.regs.CAR_EVT_POST)
    (hen : s.regs.CAR_STRs_CFG j = true) (hbehind : s.car.streams[j].lastTime < e.last + nsOf s.regs.CAR_EVT_POST)
    (hroom : (s.pinned k).length < s.regs.CAR_AREA_EVT_MAXBLK) : ∃ t, exec (.captureWindowEnd dt k) s = .next t ∧ t.but s = s.advance dt := by
  have hover : (s.advance dt).windowOver k = false := by
    have hl : decide ((s.advance dt).car.evt[k].last + 2 * nsOf (s.advance dt).regs.CAR_EVT_POST < (s.advance dt).tb) = false :=
      decide_eq_false (Nat.not_lt.2 (he.symm ▸ hearly))
    have hfull : decide ((s.advance dt).regs.CAR_AREA_EVT_MAXBLK ≤ ((s.advance dt).pinned k.val).length) = false := decide_eq_false (Nat.not_le.2 hroom)
    have hall : (List.finRange 4).all (fun j => !(s.advance dt).regs.CAR_STRs_CFG j
        || decide ((s.advance dt).car.evt[k].last + nsOf (s.advance dt).regs.CAR_EVT_POST ≤ (s.advance dt).car.streams[j].lastTime)) = false := by
      refine List.all_eq_false.2 ⟨j, List.mem_finRange j, ?_⟩
      have hen' : (s.advance dt).regs.CAR_STRs_CFG j = true := hen
      rw [hen', decide_eq_false (Nat.not_le.2 (he.symm ▸ hbehind))]
      exact Bool.false_ne_true
    unfold State.windowOver
    dsimp only
    rw [hl, hfull, hall]
    exact Bool.and_false _
  have hready : ((s.advance dt).running && (s.advance dt).windowOver k) = false := by rw [hover, Bool.and_false]
  exact ⟨_, if_neg (Bool.eq_false_iff.1 hready), rfl⟩

/-! ## The mount (R483) -/

variable {f : MountReport} {m : MountMeta}

/-- The targets that answered, each other one recorded. -/
def State.mountTargets (s : State) (f : MountReport) : State :=
  (List.range (s.regs.CAR_CFG_TARGETS + 1)).foldl (fun (s : State) t => if s.online t then s else s.carRec s.tb 0x1203 (t + 0x200) 0x90 0)
    (s.onCar fun x => { x with tgtOn := f.targetsOk &&& BitVec.ofNat 4 (2 ^ (s.regs.CAR_CFG_TARGETS + 1) - 1) })

theorem mountTargets_frame (s : State) (f : MountReport) : Frame [.recs] (s.onCar fun x => { x with
    tgtOn := f.targetsOk &&& BitVec.ofNat 4 (2 ^ (s.regs.CAR_CFG_TARGETS + 1) - 1) }) (s.mountTargets f) :=
  List.foldlRecOn _ _ (Frame.refl _ _) fun u hu t _ => by
    split
    · exact hu
    · exact hu.frame (Frame.carRec ..)

theorem mountTargets_car (s : State) (f : MountReport) :
    (s.mountTargets f).car = { s.car with tgtOn := f.targetsOk &&& BitVec.ofNat 4 (2 ^ (s.regs.CAR_CFG_TARGETS + 1) - 1) } :=
  (mountTargets_frame s f).keep .car (by decide)

theorem mountTargets_mountAt : (s.mountTargets f).car.mountAt = s.car.mountAt := by rw [mountTargets_car]

theorem mountTargets_begins (s : State) (f : MountReport) (hphase : s.pwr.phase = .running) : Begins s (s.mountTargets f) [] :=
  List.foldlRecOn (motive := fun u => Begins s u []) _ _ (Begins.of_wrote (t := s.onCar _) hphase rfl (Wrote.none _ _ rfl)) fun u hu t _ => by
    split
    · exact hu
    · exact hu.carRec

/-- The mount has failed. -/
def State.mountFail (s : State) (code : Nat) : State := (s.onCar fun x => { x with st := 4, mountErr := code }).mountRec code

/-- No META entry was found. -/
def State.mountEmpty (s : State) (f : MountReport) : State :=
  let s := s.onCar fun x => { x with blks := f.bad.map fun b => { b := b, kind := .bad, isOpen := false, seqs := [], seq := 0, time := 0 } }
  if !f.anyTag && s.regs.CAR_CFG_FORMAT_EN then s.carFormat.mountRec 0 else s.mountFail 4

/-- The record of torn pages. -/
def State.lossRec (s : State) (f : MountReport) (shut : Nat) : State := if f.torn = 0 then s else s.carRec s.tb 0x120B f.torn shut f.lastSeq

/-- The record of a dump that was found. -/
def State.dumpRec (s : State) (f : MountReport) : State :=
  match f.dump with
  | some d =>
    s.freezeRec d.time 0x1301 d.cause d.source (if d.failed then 2 else if d.bytes < dumpLen then 1 else 0) d.slot.val d.origin d.time d.late d.bytes
  | none => s

/-- A META entry of another device, and one of its own. -/
def State.mountForeign (s : State) (f : MountReport) (shut : Nat) : State :=
  (((s.onCar fun x => { x with st := 3, foreign := true }).stageEval).mountRec 0).lossRec f shut
def State.mountOwn (s : State) (f : MountReport) (m : MountMeta) (shut : Nat) : State :=
  let s := s.onCar fun x => { x with st := 2, wearAt := s.tb }
  let s := s.ksPair 0xA000 128 (s.wearHeader m.gen)
  (((s.allocDump.metaWrite).stageEval.mountRec 0).lossRec f shut).dumpRec f

/-- A META entry was found. -/
def State.mountEntry (s : State) (f : MountReport) (m : MountMeta) : State :=
  let s := s.mountRestore f m
  let shut := (f.blocks.filter (fun x => decide (x.seqs.length < s.carPpb) || x.seqs.any (fun q => decide (m.checkpoint < q)))).length
  if !m.own then s.mountForeign f shut else s.mountOwn f m shut

theorem mountDone_eq (hrun : s.running = true) (hst : s.car.st = 1) : s.mountDone f = if (s.mountTargets f).car.tgtOn = 0 then (s.mountTargets f).mountFail 1
    else if !f.geometryOk then (s.mountTargets f).mountFail 3
    else match f.entry with
      | none => (s.mountTargets f).mountEmpty f
      | some m => (s.mountTargets f).mountEntry f m := by
  have hgo : (!s.running || s.car.st != 1) = false := by rw [hrun, bne_eq_false_iff_eq.2 hst]; rfl
  unfold State.mountDone
  split
  · next h => exact absurd (hgo.symm.trans h) Bool.false_ne_true
  · rfl

/-- The device's mount has failed with a code. -/
structure MountFailed (s t : State) (now code : Nat) : Prop where
  st : t.car.st = 4
  err : t.car.mountErr = code
  ks : t.ks = s.ks
  record : ∃ l good, Wrote s t (l ++ [carOf now 0x1201 code good (now - s.car.mountAt)])

theorem mountFail_fails {code : Nat} (h : Begins s u []) (hks : u.ks = s.ks) (hclk : u.clk = s.clk) (hat : u.car.mountAt = s.car.mountAt) :
    MountFailed s (u.mountFail code) s.tb code := by
  obtain ⟨more, hmore⟩ := h.wrote
  have htb : u.tb = s.tb := congrArg (·.tb) hclk
  have hcar : (u.mountFail code).car = { u.car with st := 4, mountErr := code } := (Frame.carRec ..).keep .car (by decide)
  refine ⟨congrArg CarSt.st hcar, congrArg CarSt.mountErr hcar, ((Frame.carRec ..).keep .ks (by decide)).trans hks, more, u.goodCount, ?_⟩
  rw [← htb, ← hat]
  exact Wrote.emit s (u.onCar _) _ more hmore h.phase h.regs _ _ _ _ _ rfl

section
variable (hrun : s.running = true) (hst : s.car.st = 1)
include hrun hst

theorem mount_noTarget (hon : (s.mountTargets f).car.tgtOn = 0) : MountFailed s (s.mountDone f) s.tb 1 := by
  have F := mountTargets_frame s f
  rw [mountDone_eq hrun hst, if_pos hon]
  exact mountFail_fails (mountTargets_begins s f (run_phase hrun)) (F.keep .ks (by decide)) (F.keep .clk (by decide))
    mountTargets_mountAt

theorem mount_geometry (hon : (s.mountTargets f).car.tgtOn ≠ 0) (hgeo : f.geometryOk = false) : MountFailed s (s.mountDone f) s.tb 3 := by
  have F := mountTargets_frame s f
  rw [mountDone_eq hrun hst, if_neg hon, hgeo]
  exact mountFail_fails (mountTargets_begins s f (run_phase hrun)) (F.keep .ks (by decide)) (F.keep .clk (by decide))
    mountTargets_mountAt

theorem mount_found (hon : (s.mountTargets f).car.tgtOn ≠ 0) (hgeo : f.geometryOk = true) : s.mountDone f = match f.entry with
    | none => (s.mountTargets f).mountEmpty f
    | some m => (s.mountTargets f).mountEntry f m := by
  rw [mountDone_eq hrun hst, if_neg hon, hgeo]
  rfl

theorem mount_noEntry (hon : (s.mountTargets f).car.tgtOn ≠ 0) (hgeo : f.geometryOk = true) (hentry : f.entry = none)
    (hkeep : f.anyTag = true ∨ s.regs.CAR_CFG_FORMAT_EN = false) : MountFailed s (s.mountDone f) s.tb 4 := by
  have F := mountTargets_frame s f
  have hfound := mount_found hrun hst hon hgeo
  rw [hentry] at hfound
  have hno : (!f.anyTag && (s.mountTargets f).regs.CAR_CFG_FORMAT_EN) = false := by
    rw [F.keep .regs (by decide)]
    obtain htag | hen := hkeep
    · rw [htag]
      rfl
    · exact (congrArg (!f.anyTag && ·) hen).trans (Bool.and_false _)
  have hempty : (s.mountTargets f).mountEmpty f = ((s.mountTargets f).onCar fun x => { x with
      blks := f.bad.map fun b => { b := b, kind := .bad, isOpen := false, seqs := [], seq := 0, time := 0 } }).mountFail 4 :=
    if_neg (Bool.eq_false_iff.1 hno)
  rw [hfound]
  dsimp only
  rw [hempty]
  exact mountFail_fails ((mountTargets_begins s f (run_phase hrun)).next (Frame.onCar ..)) (F.keep .ks (by decide)) (F.keep .clk (by decide))
    mountTargets_mountAt

theorem mount_formats (hon : (s.mountTargets f).car.tgtOn ≠ 0) (hgeo : f.geometryOk = true) (hentry : f.entry = none) (htag : f.anyTag = false)
    (hen : s.regs.CAR_CFG_FORMAT_EN = true) : ((s.mountDone f).car.st = 2 ∨ (s.mountDone f).car.st = 3) ∧ (s.mountDone f).car.gen = s.car.gen + 1 := by
  have F := mountTargets_frame s f
  have hfound := mount_found hrun hst hon hgeo
  rw [hentry] at hfound
  have hyes : (!f.anyTag && (s.mountTargets f).regs.CAR_CFG_FORMAT_EN) = true := by
    rw [F.keep .regs (by decide), htag]
    exact hen
  have hempty : (s.mountTargets f).mountEmpty f = ((s.mountTargets f).onCar fun x => { x with
      blks := f.bad.map fun b => { b := b, kind := .bad, isOpen := false, seqs := [], seq := 0, time := 0 } }).carFormat.mountRec 0 := if_pos hyes
  have hgen : (s.mountTargets f).car.gen = s.car.gen := by rw [mountTargets_car]
  have G := carFormat_formatted ((s.mountTargets f).onCar fun x => { x with
      blks := f.bad.map fun b => { b := b, kind := .bad, isOpen := false, seqs := [], seq := 0, time := 0 } })
  rw [hfound]
  dsimp only
  rw [hempty]
  generalize State.carFormat _ = v at *
  have hcar : (v.mountRec 0).car = v.car := (Frame.carRec ..).keep .car (by decide)
  rw [hcar]
  exact ⟨G.st, G.gen.trans (congrArg (· + 1) hgen)⟩

end

/-! ### A META entry found -/

theorem lossRec_car {shut : Nat} : (s.lossRec f shut).car = s.car := by
  unfold State.lossRec
  split
  · rfl
  · exact (Frame.carRec ..).keep .car (by decide)

theorem dumpRec_car : (s.dumpRec f).car = s.car := by
  unfold State.dumpRec
  split
  · exact (Frame.freezeRec ..).keep .car (by decide)
  · rfl

theorem mountRec_car {code : Nat} : (s.mountRec code).car = s.car := (Frame.carRec ..).keep .car (by decide)

/-- The capture slots of a META entry. -/
def mountSlots (m : MountMeta) : Vector EvtSlot 16 := Vector.ofFn fun k : Fin 16 =>
  match m.event[k.val]? with
  | some (st, n, a, b) => { state := if st = 0 then 0 else 2, trigs := n, first := a, last := b }
  | none => {}

theorem slots_getElem {st n a b : Nat} (h : m.event[k.val]? = some (st, n, a, b)) :
    (mountSlots m)[k] = { state := if st = 0 then 0 else 2, trigs := n, first := a, last := b } := by
  unfold mountSlots
  refine (Vector.getElem_ofFn k.isLt).trans ?_
  rw [h]

/-- What the mount takes over from its META entry. -/
theorem mountRestore_leaves (s : State) (f : MountReport) (m : MountMeta) : (s.mountRestore f m).car.gen = m.gen ∧ (s.mountRestore f m).car.evt = mountSlots m ∧
    (s.mountRestore f m).car.stage = s.car.stage := by
  unfold State.mountRestore
  extract_lets _ _ _ _ _ counted restored
  have hstage : counted.car.stage = s.car.stage := by
    refine List.foldlRecOn (motive := fun u : State => u.car.stage = s.car.stage) _ _ rfl fun u hu b _ => ?_
    split
    · exact hu
    · exact (congrArg CarSt.stage ((Frame.ecSet ..).keep .car (by decide))).trans hu
  clear_value counted
  split
  · exact ⟨rfl, rfl, hstage⟩
  · exact ⟨rfl, rfl, hstage⟩

theorem mountForeign_leaves {shut : Nat} : (s.mountForeign f shut).car.st = 3 ∧ (s.mountForeign f shut).car.foreign = true ∧
    (s.mountForeign f shut).car.stage = max s.car.stage 3 ∧ (s.mountForeign f shut).car.gen = s.car.gen ∧ (s.mountForeign f shut).car.evt = s.car.evt := by
  unfold State.mountForeign
  rw [lossRec_car, mountRec_car]
  obtain ⟨hst, hgen, hforeign, -, hevt, -, hstage⟩ := stageEval_leaves (s.onCar fun x => { x with st := 3, foreign := true })
  have hnow : (s.onCar fun x => { x with st := 3, foreign := true }).stageNow = 3 := if_pos (.inr (.inl rfl))
  rw [hnow] at hstage
  exact ⟨hst.elim id id, hforeign, hstage, hgen, hevt⟩

theorem mountOwn_leaves {shut : Nat} : ((s.mountOwn f m shut).car.st = 2 ∨ (s.mountOwn f m shut).car.st = 3) ∧ (s.mountOwn f m shut).car.gen = s.car.gen ∧
    (s.mountOwn f m shut).car.evt = s.car.evt := by
  unfold State.mountOwn
  extract_lets w v
  have hv : v.car = w.car := (Frame.ksPair ..).keep .car (by decide)
  have W : SlotWork v v.allocDump.metaWrite := (slotWork_allocDump v).trans (blkWork_metaWrite _).slot
  have hw2 : w.car.st = 2 ∧ w.car.gen = s.car.gen ∧ w.car.evt = s.car.evt := ⟨rfl, rfl, rfl⟩
  obtain ⟨hwst, hwgen, hwevt⟩ := hw2
  clear_value v w
  obtain ⟨hst, hgen, -, -, hevt, -, -⟩ := stageEval_leaves v.allocDump.metaWrite
  rw [dumpRec_car, lossRec_car, mountRec_car]
  have hst2 : v.allocDump.metaWrite.car.st = 2 := W.st.trans ((congrArg CarSt.st hv).trans hwst)
  exact ⟨hst.imp_left fun h => h.trans hst2, hgen.trans (W.gen.trans ((congrArg CarSt.gen hv).trans hwgen)),
    hevt.trans (W.evt.trans ((congrArg CarSt.evt hv).trans hwevt))⟩

theorem mountEntry_leaves : (s.mountEntry f m).car.gen = m.gen ∧ (s.mountEntry f m).car.evt = mountSlots m ∧
    (m.own = false → (s.mountEntry f m).car.st = 3 ∧ (s.mountEntry f m).car.foreign = true ∧ (s.mountEntry f m).car.stage = max s.car.stage 3) ∧
    (m.own = true → (s.mountEntry f m).car.st = 2 ∨ (s.mountEntry f m).car.st = 3) := by
  obtain ⟨hgen, hevt, hstage⟩ := mountRestore_leaves s f m
  unfold State.mountEntry
  extract_lets u shut
  have hu : u.car.gen = m.gen ∧ u.car.evt = mountSlots m ∧ u.car.stage = s.car.stage := ⟨hgen, hevt, hstage⟩
  clear_value u shut
  obtain ⟨hgen, hevt, hstage⟩ := hu
  cases hown : m.own with
  | false =>
    obtain ⟨hst, hforeign, hmax, hg, he⟩ := mountForeign_leaves (s := u) (f := f) (shut := shut)
    exact ⟨hg.trans hgen, he.trans hevt, fun _ => ⟨hst, hforeign, hmax.trans (by rw [hstage])⟩, fun h => absurd h Bool.false_ne_true⟩
  | true =>
    obtain ⟨hst, hg, he⟩ := mountOwn_leaves (s := u) (f := f) (m := m) (shut := shut)
    exact ⟨hg.trans hgen, he.trans hevt, fun h => absurd h.symm Bool.false_ne_true, fun _ => hst⟩

theorem mount_entry (hrun : s.running = true) (hst : s.car.st = 1) (hon : (s.mountTargets f).car.tgtOn ≠ 0) (hgeo : f.geometryOk = true) (hentry : f.entry = some m) :
    (s.mountDone f).car.gen = m.gen ∧ (m.own = false → (s.mountDone f).car.st = 3 ∧ (s.mountDone f).car.foreign = true ∧ (s.mountDone f).car.stage = max s.car.stage 3) ∧
    (m.own = true → (s.mountDone f).car.st = 2 ∨ (s.mountDone f).car.st = 3) ∧
    (∀ (k : Fin 16) (st n a b : Nat), m.event[k.val]? = some (st, n, a, b) →
      (s.mountDone f).car.evt[k] = { state := if st = 0 then 0 else 2, trigs := n, first := a, last := b }) := by
  have hfound := mount_found hrun hst hon hgeo
  rw [hentry] at hfound
  obtain ⟨hgen, hevt, hforeign, hown⟩ := mountEntry_leaves (s := s.mountTargets f) (f := f) (m := m)
  have hstage : (s.mountTargets f).car.stage = s.car.stage := by rw [mountTargets_car]
  rw [hfound]
  dsimp only
  refine ⟨hgen, fun h => hstage ▸ hforeign h, hown, fun k st n a b h => ?_⟩
  rw [hevt]
  exact slots_getElem h

theorem mountDone_tgtOn : (s.mountTargets f).car.tgtOn = f.targetsOk &&& BitVec.ofNat 4 (2 ^ (s.regs.CAR_CFG_TARGETS + 1) - 1) := by rw [mountTargets_car]

end

/-! ## The commands together -/

section
variable {s : State} {dt : Nat} {o : Origin}

theorem captureCommand_all (hrun : s.running = true) (hw : s.writes o = true) (hmay : s.may true o = true) (hen : s.regs.CAR_CFG_EN = true) :
    let now : Nat := s.tbAt dt
    let within (k : Fin 16) : Prop := s.car.evt[k].state = 1 ∧ s.car.evt[k].first ≤ now + nsOf s.regs.CAR_EVT_PRE ∧ now ≤ s.car.evt[k].last + nsOf s.regs.CAR_EVT_POST
    (∀ k : Fin 16, s.car.st = 2 → s.car.stage < 2 → (∀ j, ¬ within j) → s.car.evt[k].state = 0 → (∀ j, j < k → s.car.evt[j].state ≠ 0) →
      ∃ t, exec (.captureCommand dt o) s = .next t ∧ t.car.evt = s.car.evt.set k { state := 1, trigs := 1, first := now, last := now } ∧
      t.cp = (s.advance dt).cpWrote o ∧ (∀ x ∈ s.car.blks, x.b ∈ s.pinsFor now → ∃ y ∈ t.car.blks, y.b = x.b ∧ y.pins.getLsbD k.val = true) ∧
      (s.pinsFor now).length ≤ s.regs.CAR_AREA_EVT_MAXBLK ∧
      Wrote s t [carOf now 0x1207 (k.val + 0x100) (s.pinsFor now).length now]) ∧
    (∀ k : Fin 16, s.car.st = 2 ∨ s.car.st = 3 → within k → (∀ j, j < k → ¬ within j) → ∃ t, exec (.captureCommand dt o) s = .next t ∧
      t.but s = { s.advance dt with
        car := { s.car with evt := vset s.car.evt k (fun e => { e with trigs := satInc 8 e.trigs, last := max e.last now }) }
        cp := (s.advance dt).cpWrote o, recs := t.recs } ∧
      Wrote s t [carOf now 0x1207 (k.val + 0x200) (s.pinned k).length now]) ∧
    (∀ why : Nat, (∀ j, ¬ within j) →
      (why = 2 ∧ (s.car.st = 3 ∨ (s.car.st = 2 ∧ 2 ≤ s.car.stage))) ∨ (why = 1 ∧ s.car.st = 2 ∧ s.car.stage < 2 ∧ ∀ j : Fin 16, s.car.evt[j].state ≠ 0) →
      ∃ t, exec (.captureCommand dt o) s = .next t ∧ t.but s = { s.advance dt with cp := (s.advance dt).cpWrote o, recs := t.recs } ∧
      Wrote s t [carOf now 0x1208 why 0 now]) :=
  ⟨fun _ hst hstage hnone hk hfirst => captureCommand_opens hrun hw hmay hen hst hstage hnone hk hfirst,
    fun _ hst hk hfirst => captureCommand_extends hrun hw hmay hen hst hk hfirst,
    fun _ hnone hwhy => captureCommand_refuses hrun hw hmay hen hnone hwhy⟩

end

/-- Settles O52: the commands of the recorder by the rights and the state they find, the end of a capture's window, and the mount by what it finds. -/
theorem recorderSlots : Obligations.RecorderSlots := by
  intro s dt hrun
  refine ⟨fun o hw => ⟨fun hmay c k hc => carCmd_rights hw hmay hc, captureCommand_off hw, captureCommand_all hrun hw, fun hmay hen k => ?_, fun maint => ?_⟩,
    fun k e he hopen => ?_, fun f hst => ?_⟩
  · exact ⟨eventSlotRelease_frees hrun hw hmay hen, eventSlotRelease_refuses hw hmay hen,
      fun j hj hheld hst hreads => dumpSlotRelease_frees hj hrun hw hmay hen hheld hst hreads, dumpSlotRelease_refuses hw hmay hen⟩
  · exact ⟨format_refuses_rights hw, format_refuses_state hw, format_formats hrun hw⟩
  · exact ⟨captureWindowEnd_holds hrun he hopen, fun hearly hbehind hroom => by
      obtain ⟨j, hen, hj⟩ := hbehind
      exact captureWindowEnd_stays he hearly hen hj hroom⟩
  · have hrun' : (s.advance dt).running = true := hrun
    have hst' : (s.advance dt).car.st = 1 := hst
    have hon := mountDone_tgtOn (s := s.advance dt) (f := f)
    have hfailed (code : Nat) (h : MountFailed (s.advance dt) ((s.advance dt).mountDone f) (s.advance dt).tb code) :
        ∃ t, exec (.mount dt f) s = .next t ∧ t.car.st = 4 ∧ t.car.mountErr = code ∧ t.ks = s.ks ∧
          ∃ l good, Wrote s t (l ++ [carOf (s.tbAt dt) 0x1201 code good (s.tbAt dt - s.car.mountAt)]) :=
      ⟨_, rfl, h.st, h.err, h.ks, h.record⟩
    refine ⟨fun h => hfailed 1 (mount_noTarget hrun' hst' (hon.trans h)), fun h hgeo => hfailed 3 (mount_geometry hrun' hst' (fun h0 => h (hon.symm.trans h0)) hgeo),
      fun h hgeo hentry hkeep => hfailed 4 (mount_noEntry hrun' hst' (fun h0 => h (hon.symm.trans h0)) hgeo hentry hkeep),
      fun h hgeo hentry htag hen => ⟨_, rfl, mount_formats hrun' hst' (fun h0 => h (hon.symm.trans h0)) hgeo hentry htag hen⟩,
      fun m h hgeo hentry => ⟨_, rfl, mount_entry hrun' hst' (fun h0 => h (hon.symm.trans h0)) hgeo hentry⟩⟩

end Sys2Proof.Machine
end

section
/-! PROOF. A replay reads a page that cannot be corrected, of a block that a move waits for: the move is marked, so what waits on the NAND is not what waited. -/
set_option Elab.async false

namespace Sys2Proof.Machine

/-- The page that a replay of a dump reads, and a move of its block that waits behind it. -/
def dumpPageRead : NandOp := ⟨.read 0 0 .replay, 0, false⟩
def moveWaiting : NandOp := ⟨.move 0 1 0, 0, false⟩

/-- A read-only recorder that replays a dump of 10,000 bytes: one page is being read and one is left. -/
def dumpReplay : State :=
  let s := Tests.carWith (fun c => { c with
    st := 3, blks := [⟨0, .dump 0, false, [1, 2], 1, 0, 0, 0, 0⟩], ops := [dumpPageRead, moveWaiting] }) (Tests.rig .drive)
  s.modRpl fun x => { x with state := 1, area := 2, len := 4096, left := 10000, out := [], pages := [(0, 1)] }

/-- The read ended with a chunk that cannot be corrected. -/
def uncorrectablePage : ReadResult := ⟨0, some 0, 0, 0, 0, []⟩

/-- What waits on the NAND after a command. -/
def nandOpsAfter (c : Instr) (s : State) : Option (List NandOp) :=
  match exec c s with
  | .next t => some t.car.ops
  | _ => none

theorem nandOpsAfter_next {c : Instr} {s t : State} (h : exec c s = .next t) : nandOpsAfter c s = some t.car.ops := by
  rw [nandOpsAfter, h]

/-- The move is marked: the content of its block is bad (R480). -/
theorem nandOpsAfter_uncorrectable : nandOpsAfter (.nandReadDone 0 uncorrectablePage) dumpReplay
    = some [⟨.move 0 1 16, 0, false⟩, ⟨.read 0 1 .replay, dumpReplay.tbAt 0, false⟩] := by decide +kernel

/-- Refutes O53: where a page of a dump replay cannot be corrected, the statement has the operations that wait stay as they are. A move of the page's block
that waits among them is given the mark of a block whose content is bad. -/
theorem not_replays : ¬ Obligations.Replays := by
  intro h
  obtain ⟨-, -, hread, -⟩ := h dumpReplay 0 (by decide +kernel)
  obtain ⟨hbad, -⟩ := hread [] [moveWaiting] dumpPageRead 0 0 ⟨0, .dump 0, false, [1, 2], 1, 0, 0, 0, 0⟩ uncorrectablePage (0, 1) []
    ⟨rfl, rfl, fun _ hq => absurd hq List.not_mem_nil⟩ rfl rfl rfl rfl rfl rfl
  obtain ⟨t, hexec, -, -, -, hops⟩ := hbad 0 rfl rfl (by decide +kernel) (by decide +kernel)
  have hafter := nandOpsAfter_next hexec
  rw [nandOpsAfter_uncorrectable, hops] at hafter
  cases hafter

end Sys2Proof.Machine
end

section
/-! PROOF. A freeze of a recorder that is ready while its NAND is write protected finds no dump target. -/
set_option Elab.async false

namespace Sys2Proof.Machine

/-- A device in DRIVE whose recorder is ready, its first dump slot free and NF_WP_N low, and for which a freeze waits. -/
def protectedFreeze : State :=
  let s := Tests.carWith (fun c => { c with wp := false }) (Tests.rig .drive)
  s.onFrz fun x => { x with pending := some ⟨0, 0, 0, 0, 0⟩ }

/-- The dump slot of the freeze after a command. -/
def frzSlotAfter (c : Instr) (s : State) : Option Nat :=
  match exec c s with
  | .next t => some t.frz.slot
  | _ => none

theorem frzSlotAfter_next {c : Instr} {s t : State} (h : exec c s = .next t) : frzSlotAfter c s = some t.frz.slot := by
  rw [frzSlotAfter, h]

/-- The self-dump has no slot: a write-protected NAND is no target (R486, R503). -/
theorem frzSlotAfter_protected : frzSlotAfter (.freezeInstant 0) protectedFreeze = some 0xFF := by decide +kernel

/-- Refutes O55: the statement has the freeze take the first free dump slot wherever the recorder is ready. The self-dump asks besides for NF_WP_N high,
and a ready recorder whose NAND is write protected gets no slot. -/
theorem not_frozenDevice : ¬ Obligations.FrozenDevice := by
  intro h
  obtain ⟨hfreeze, -⟩ := h protectedFreeze 0
  obtain ⟨-, hdue⟩ := hfreeze ⟨0, 0, 0, 0, 0⟩ (by decide +kernel) rfl
  obtain ⟨t, f, hexec, hrest⟩ := hdue (Nat.zero_le _)
  obtain ⟨-, -, -, -, -, -, -, -, -, -, -, -, -, -, -, -, -, hslot⟩ := hrest
  have hafter := frzSlotAfter_next hexec
  rw [frzSlotAfter_protected, hslot 0 rfl (by decide +kernel) fun j hj => absurd hj (by omega)] at hafter
  cases hafter

end Sys2Proof.Machine
end

section
/-! PROOF. Short-circuit protection and active short circuit (R136, R146 to R158). -/
set_option Elab.async false

namespace Sys2Proof.Machine

section
variable {s t u : State} {dt : Nat} {a : Fin 10} {n : Fin 6} {k : TripKind}

theorem gdTime_of_ne_freeze (h : s.mode.mode ≠ .freeze) : s.gdTime = s.tb := by
  unfold State.gdTime
  rw [if_neg h]

theorem ne_freeze_of_running (h : s.running = true) : s.mode.mode ≠ .freeze := by
  simp only [State.running, Bool.and_eq_true, bne_iff_ne] at h
  exact h.2

theorem running_of_freeze (h : s.mode.mode = .freeze) : s.running = false := by
  simp [State.running, h]

/-! ## What the protection of one axis keeps -/

/-- The fault bits, the latch with its instant, and the soft turn-off of an axis. -/
def GdAx.prot (g : GdAx) : BitVec 4 × Bool × BitVec 4 × Bool × Nat × Option Nat := (g.desat, g.fast, g.link, g.latched, g.tripAt, g.softAt)

/-- The protection of the axis `a` is as it was. -/
structure ProtKept (a : Fin 10) (s t : State) : Prop where
  prot : t.gd.ax[a].prot = s.gd.ax[a].prot

namespace ProtKept

theorem refl (a : Fin 10) (s : State) : ProtKept a s s := ⟨rfl⟩

theorem trans (h : ProtKept a s t) (j : ProtKept a t u) : ProtKept a s u := ⟨j.prot.trans h.prot⟩

theorem frame {K : List StPart} (h : ProtKept a s t) (F : Frame K t u) (hK : .gd ∉ K := by decide) : ProtKept a s u := by
  have hgd : u.gd = t.gd := F.keep .gd hK
  exact h.trans ⟨by rw [hgd]⟩

theorem modGd (h : ProtKept a s t) (b : Fin 10) (f : GdAx → GdAx) (hf : ∀ g, (f g).prot = g.prot := by intro; rfl) : ProtKept a s (t.modGd b f) := by
  refine h.trans ⟨?_⟩
  by_cases hb : a = b
  · subst hb
    rw [State.modGd_self, hf]
  · rw [State.modGd_other _ _ _ _ hb]

theorem epuStop (h : ProtKept a s t) (b : Fin 10) : ProtKept a s (t.epuStop b) := (h.frame (Frame.modSnt ..)).modGd b _

theorem axHaltOff (h : ProtKept a s t) (n : Fin 6) (r : Nat) : ProtKept a s (t.axHaltOff n r) :=
  (((((h.frame (Frame.crashEnd ..)).epuStop _).frame (Frame.modAx ..)).frame (Frame.modAx ..)).modGd _ _).frame (Frame.resetCommand ..)

theorem auxHalt (h : ProtKept a s t) (x : Fin 4) (r : Nat) : ProtKept a s (t.auxHalt x r) :=
  ((((h.epuStop _).frame (Frame.modAux ..)).frame (Frame.modAux ..)).modGd _ _).frame (Frame.auxResetCommand ..)

theorem halt10 (h : ProtKept a s t) (b : Fin 10) (r : Nat) : ProtKept a s (t.halt10 b r) := by
  unfold State.halt10
  split
  · exact h.axHaltOff _ r
  · exact h.auxHalt _ r

theorem noteShort (h : ProtKept a s t) (b : Fin 10) (v : Nat) : ProtKept a s (t.noteShort b v) := by
  unfold State.noteShort
  dsimp only
  split
  · exact h
  · exact (h.modGd _ _).frame (Frame.event ..)

end ProtKept

/-! ## The bridge turned off -/

/-- A bridge that moves no current, with no test of its comparators under way, is as it was. -/
theorem softOff_rest (hidle : s.gd.test.busy = false) (hmode : s.mode.mode ≠ .freeze) (hrest : s.moving10 a = false) : s.softOff a = s := by
  have hbridge : s.bridged10 a = false := by
    simp [State.bridged10, hrest, hmode]
  have htest : s.desatTest a = none := by
    unfold State.desatTest
    rw [testNow_idle hidle]
  unfold State.softOff
  rw [if_pos (by rw [hbridge, htest]; rfl)]

/-- In link mode a bridge is off at once. -/
theorem softOff_link (hbridge : s.bridged10 a = true) (hlink : s.link10 a = true) :
    (s.softOff a).gd = s.gd ∧ ∀ n, mainOf a = some n → (s.softOff a).ax[n].bridge = .off := by
  unfold State.softOff
  extract_lets at' on high act u
  clear_value u
  rw [if_neg (by rw [hbridge]; exact Bool.false_ne_true), if_pos hlink]
  constructor
  · split <;> rfl
  · intro n hn
    rw [hn]
    exact congrArg AxSt.bridge (State.modAx_self ..)

/-- In direct mode a soft turn-off begins, at this instant. -/
theorem softOff_direct (hbridge : s.bridged10 a = true) (hlink : s.link10 a = false) :
    (s.softOff a).gd.ax[a].prot = { s.gd.ax[a] with softAt := some s.gdTime }.prot ∧
    ∀ n, mainOf a = some n → (s.softOff a).ax[n] = { s.ax[n] with bridge := if s.ax[n].bridge = .off then .off else .soft } := by
  unfold State.softOff
  extract_lets at' on high act u
  have hprot : u.gd.ax[a].prot = { s.gd.ax[a] with softAt := some s.gdTime }.prot := (congrArg GdAx.prot (State.modGd_self ..)).trans rfl
  have hax : u.ax = s.ax := rfl
  clear_value u
  rw [if_neg (by rw [hbridge]; exact Bool.false_ne_true), if_neg (by rw [hlink]; exact Bool.false_ne_true),
    if_neg (by rw [hbridge]; exact Bool.false_ne_true)]
  constructor
  · split <;> exact hprot
  · intro n hn
    rw [hn]
    exact (State.modAx_self ..).trans (by rw [hax])

/-- What a turn-off leaves of the protection: the instant of the soft one that it began, where it did. -/
theorem softOff_prot (hidle : s.gd.test.busy = false) (hmode : s.mode.mode ≠ .freeze) :
    ∃ soft, (s.softOff a).gd.ax[a].prot = { s.gd.ax[a] with softAt := soft }.prot ∧
      (s.moving10 a = true → s.link10 a = false → soft = some s.tb) := by
  cases hmove : s.moving10 a with
  | false => exact ⟨s.gd.ax[a].softAt, by rw [softOff_rest hidle hmode hmove], fun h => absurd h Bool.false_ne_true⟩
  | true =>
    have hbridge : s.bridged10 a = true := by simp [State.bridged10, hmove]
    cases hlink : s.link10 a with
    | true => exact ⟨s.gd.ax[a].softAt, by rw [(softOff_link hbridge hlink).1], fun _ h => absurd h.symm Bool.false_ne_true⟩
    | false => exact ⟨_, (softOff_direct hbridge hlink).1, fun _ _ => by rw [gdTime_of_ne_freeze hmode]⟩

/-! ## A trip -/

/-- The first trip of an axis: its fault bit, the latch and the instant, the turn-off that began, and HALT. -/
structure Tripped (a : Fin 10) (k : TripKind) (s t : State) : Prop where
  latched : t.gd.ax[a].latched = true
  tripAt : t.gd.ax[a].tripAt = s.tb
  desat : t.gd.ax[a].desat = (tripBits k s.gd.ax[a]).desat
  fast : t.gd.ax[a].fast = (tripBits k s.gd.ax[a]).fast
  link : t.gd.ax[a].link = (tripBits k s.gd.ax[a]).link
  soft : s.moving10 a = true → s.link10 a = false → t.gd.ax[a].softAt = some s.tb
  main : ∀ n, mainOf a = some n → t.ax[n].state = .halt ∧ t.ax[n].haltReason = 0x0601 ∧
    (s.moving10 a = true → s.link10 a = true → t.ax[n].bridge = .off)
  aux : mainOf a = none → t.aux[auxOf a].state = .halt ∧ t.aux[auxOf a].haltReason = 0x0601

/-- The latch of an axis set by its first trip. -/
def GdAx.tripFirst (g : GdAx) (k : TripKind) (time : Nat) (due : Option (Nat × Bool × Option Rat)) : GdAx :=
  { tripBits k g with latched := true, tripAt := time, ascDue := due, noted := false }

theorem tripFirst_prot {g g' : GdAx} (h : g.prot = g'.prot) (k : TripKind) (time : Nat) (due : Option (Nat × Bool × Option Rat)) :
    (g.tripFirst k time due).prot = (g'.tripFirst k time due).prot := by
  simp only [GdAx.prot, Prod.mk.injEq] at h
  obtain ⟨hdesat, hfast, hlink, -, -, hsoft⟩ := h
  cases k <;> simp [GdAx.tripFirst, tripBits, GdAx.prot, hdesat, hfast, hlink, hsoft]

theorem testAbort_idle (hidle : s.gd.test.busy = false) (i : Nat) : s.testAbort i = s := by
  unfold State.testAbort
  rw [hidle]
  rfl

/-- The course of a first trip: the turn-off, the latch, HALT, and the record where nothing more is to come. -/
theorem trip_first (hlatched : s.gd.ax[a].latched = false) (hidle : (s.softOff a).gd.test.busy = false)
    (hfollow : ∀ n, mainOf a = some n → s.ax[n].state = .asc → s.ax[n].ascSt.follow = false) :
    ∃ due v, v = ((s.softOff a).modGd a fun g => g.tripFirst k (s.softOff a).tb due).halt10 a 0x0601 ∧
      (s.trip a k = v ∨ s.trip a k = v.noteShort a 0) := by
  have hno : (match mainOf a with | some n => s.ax[n].state == AxState.asc && s.ax[n].ascSt.follow | none => false) = false := by
    split
    · next n hn =>
      rw [Bool.and_eq_false_imp, beq_iff_eq]
      exact hfollow n hn
    · rfl
  refine ⟨if s.moving10 a then (s.softOff a).ascAfter a k else none, _, rfl, ?_⟩
  unfold State.trip
  extract_lets g follow moving v
  have hf : follow = false := hno
  have hg : g.latched = false := hlatched
  have hv : v = s.softOff a := by
    unfold v
    rw [hf, hg, if_neg (by decide), testAbort_idle hidle]
  clear_value v
  subst hv
  rw [hf, hg, if_neg Bool.false_ne_true, if_neg Bool.false_ne_true]
  split
  · exact .inl rfl
  · exact .inr rfl

theorem trip_tripped (hlatched : s.gd.ax[a].latched = false) (hidle : s.gd.test.busy = false) (hmode : s.mode.mode ≠ .freeze)
    (hfollow : ∀ n, mainOf a = some n → s.ax[n].state = .asc → s.ax[n].ascSt.follow = false) : Tripped a k s (s.trip a k) := by
  obtain ⟨due, v, hv, htrip⟩ := trip_first (k := k) hlatched (by rw [(softKept_softOff hmode hidle).test, hidle]) hfollow
  obtain ⟨soft, hsoft, hnow⟩ := softOff_prot (a := a) hidle hmode
  have htb : (s.softOff a).tb = s.tb := State.tb_congr ((Frame.softOff ..).keep .clk (by decide))
  have hprot : v.gd.ax[a].prot = ({ s.gd.ax[a] with softAt := soft }.tripFirst k s.tb due).prot := by
    rw [hv, ((ProtKept.refl ..).halt10 a 0x0601).prot, State.modGd_self, htb]
    exact tripFirst_prot hsoft k s.tb due
  have hv' : ProtKept a v (s.trip a k) ∧ (s.trip a k).ax = v.ax ∧ (s.trip a k).aux = v.aux := by
    rcases htrip with h | h <;> rw [h]
    · exact ⟨.refl .., rfl, rfl⟩
    · exact ⟨(ProtKept.refl ..).noteShort a 0, (Frame.noteShort ..).keep .ax (by decide), (Frame.noteShort ..).keep .aux (by decide)⟩
  obtain ⟨hnote, hax, haux⟩ := hv'
  have hleft := hnote.prot.trans hprot
  simp only [GdAx.prot, Prod.mk.injEq, GdAx.tripFirst] at hleft
  obtain ⟨hdesat, hfast, hlink, hset, hat, hsince⟩ := hleft
  refine ⟨hset, hat, hdesat.trans ?_, hfast.trans ?_, hlink.trans ?_, fun hm hl => hsince.trans ?_, fun n hn => ?_, fun hn => ?_⟩
  · cases k <;> rfl
  · cases k <;> rfl
  · cases k <;> rfl
  · rw [← hnow hm hl]
    cases k <;> rfl
  · obtain ⟨hstate, hreason, hbridge, -⟩ := State.axHaltOff_ax ((s.softOff a).modGd a fun g => g.tripFirst k (s.softOff a).tb due) n 0x0601
    rw [State.halt10, hn] at hv
    rw [hax, hv]
    refine ⟨hstate, hreason, fun hm hl => hbridge.trans ?_⟩
    have hoff := (softOff_link (by simp [State.bridged10, hm]) hl).2 n hn
    exact if_neg fun h => absurd (hoff.symm.trans h) (by decide)
  · obtain ⟨hstate, hreason, -⟩ := State.auxHalt_aux ((s.softOff a).modGd a fun g => g.tripFirst k (s.softOff a).tb due) (auxOf a) 0x0601
    rw [State.halt10, hn] at hv
    rw [haux, hv]
    exact ⟨hstate, hreason⟩

/-- The inputs by which the protection of an axis trips. -/
inductive TripInput (s : State) (dt : Nat) (a : Fin 10) : Instr → TripKind → Prop where
  | desat (leg : Fin 4) (high : Bool) (hdirect : s.link10 a = false) (hleg : leg.val < legs10 a) (hacts : (s.advance dt).desatActs a leg high = true) :
    TripInput s dt a (.desatTrip dt a leg high) (.desat leg high)
  | fast (n : Fin 6) (ha : a = axis10 n) : TripInput s dt a (.fastComparatorTrip dt n) .fast
  | link (leg : Fin 4) (hleg : leg.val < legs10 a) (hwas : s.gd.ax[a].linkLow.getLsbD leg.val = false) (hlink : s.link10 a = true) :
    TripInput s dt a (.linkFaultReturn dt a leg true) (.link leg)

/-- The inputs of the detectors of an axis are no part of its protection. -/
theorem Tripped.of_inputs {f : GdAx → GdAx} (h : Tripped a k ((s.advance dt).modGd a f) t) (hf : ∀ g, (tripBits k (f g)).prot = (tripBits k g).prot) :
    Tripped a k (s.advance dt) t := by
  have hbits := hf s.gd.ax[a]
  simp only [GdAx.prot, Prod.mk.injEq] at hbits
  obtain ⟨hdesat, hfast, hlink, -⟩ := hbits
  have hself : ((s.advance dt).modGd a f).gd.ax[a] = f s.gd.ax[a] := State.modGd_self ..
  exact ⟨h.latched, h.tripAt, h.desat.trans (by rw [hself]; exact hdesat), h.fast.trans (by rw [hself]; exact hfast),
    h.link.trans (by rw [hself]; exact hlink), h.soft, h.main, h.aux⟩

theorem exec_tripInput {c : Instr} (hin : TripInput s dt a c k) (hrun : s.running = true) (halloc : s.alloc10 a = true)
    (hlatched : s.gd.ax[a].latched = false) (hidle : s.gd.test.busy = false)
    (hfollow : ∀ n, mainOf a = some n → s.ax[n].state = .asc → s.ax[n].ascSt.follow = false) :
    ∃ t, exec c s = .next t.settle ∧ Tripped a k (s.advance dt) t := by
  have hmode := ne_freeze_of_running hrun
  have hrun' : (s.advance dt).running = true := hrun
  have hfirst (f : GdAx → GdAx) (hf : ∀ g, (f g).latched = g.latched) : Tripped a k ((s.advance dt).modGd a f) (((s.advance dt).modGd a f).trip a k) :=
    trip_tripped (by rw [State.modGd_self, hf]; exact hlatched) hidle hmode hfollow
  cases hin with
  | desat leg high hdirect hleg hacts =>
    refine ⟨_, exec_next_of (u := (s.advance dt).desatTrip a leg high) rfl ?_, trip_tripped (s := s.advance dt) hlatched hidle hmode hfollow⟩
    unfold State.desatTrip
    rw [if_pos (by rw [show (s.advance dt).alloc10 a = true from halloc, show (s.advance dt).link10 a = false from hdirect, decide_eq_true hleg, hacts]; rfl),
      if_pos hrun']
  | fast n ha =>
    subst ha
    refine ⟨_, exec_next_of (u := (s.advance dt).fastTrip n) rfl ?_, (hfirst (fun g => { g with fastHigh := true }) fun _ => rfl).of_inputs fun _ => rfl⟩
    have halloc' : (s.advance dt).axAlloc n = true := by
      rw [State.alloc10, mainOf_axis10] at halloc
      exact halloc
    unfold State.fastTrip
    rw [testNow_idle (s := s.advance dt) hidle, if_neg (by exact Bool.false_ne_true), if_pos (by rw [hrun', halloc']; rfl)]
  | link leg hleg hwas hlink =>
    refine ⟨_, exec_next_of (u := (s.advance dt).linkReturn a leg true) rfl ?_,
      (hfirst (fun g => { g with linkLow := g.linkLow ||| BitVec.ofNat 4 (2 ^ leg.val) }) fun _ => rfl).of_inputs fun _ => rfl⟩
    unfold State.linkReturn
    extract_lets b was v
    have hwas' : was = false := hwas
    have hidle' : v.testNow = none := testNow_idle hidle
    have hrun'' : v.running = true := hrun
    rw [if_pos hleg, if_pos, if_pos hrun'']
    · rfl
    · rw [hwas', show v.alloc10 a = true from halloc, show v.link10 a = true from hlink, hidle']
      rfl

/-! ## In FREEZE, and the end of a soft turn-off -/

/-- The first trip of an axis in FREEZE: the turn-off and the latch. -/
theorem freezeTrip_first (hfrozen : s.frozenDie = true) (hlatched : s.gd.ax[a].latched = false) :
    ∃ f : GdAx → GdAx, s.freezeTrip a k = (s.softOff a).modGd a f ∧ ∀ g, (f g).latched = true ∧ (f g).softAt = g.softAt := by
  unfold State.freezeTrip
  rw [hfrozen, if_neg (by decide), hlatched, if_neg Bool.false_ne_true]
  exact ⟨_, rfl, fun g => ⟨rfl, by cases k <;> rfl⟩⟩

theorem Frame.softOff_main (s : State) (n : Fin 6) : Frame [.ax, .gd] s (s.softOff (axis10 n)) := by
  unfold State.softOff
  extract_lets at' on high act u
  have hu : Frame [.ax, .gd] s u := Frame.next (Frame.modGd ..) (by decide) (Frame.refl ..)
  clear_value u
  rw [mainOf_axis10]
  split
  · exact Frame.refl ..
  · split
    · exact Frame.next (Frame.modAx ..) (by decide) (Frame.refl ..)
    · split
      · exact hu
      · exact Frame.next (Frame.modAx ..) (by decide) hu

theorem desatTrip_freeze {leg : Fin 4} {high : Bool} (hphase : s.pwr.phase = .running) (hmode : s.mode.mode = .freeze) (halloc : s.axAlloc n = true)
    (hdirect : s.link10 (axis10 n) = false) (hleg : leg.val < 3) (hlatched : s.gd.ax[axis10 n].latched = false)
    (hacts : s.desatActs (axis10 n) leg high = true) :
    ∃ f : GdAx → GdAx, s.desatTrip (axis10 n) leg high = (s.softOff (axis10 n)).modGd (axis10 n) f ∧
      ∀ g, (f g).latched = true ∧ (f g).softAt = g.softAt := by
  have hlegs : leg.val < legs10 (axis10 n) := lt_of_lt_of_eq hleg (if_pos n.isLt).symm
  have halloc' : s.alloc10 (axis10 n) = true := by
    rw [State.alloc10, mainOf_axis10]
    exact halloc
  have hfrozen : s.frozenDie = true := by simp [State.frozenDie, hphase, hmode]
  unfold State.desatTrip
  rw [if_pos (by rw [halloc', hdirect, hacts, decide_eq_true hlegs]; rfl), running_of_freeze hmode, if_neg Bool.false_ne_true]
  exact freezeTrip_first hfrozen hlatched

theorem exec_desatTrip_freeze {leg : Fin 4} {high : Bool} (hphase : s.pwr.phase = .running) (hmode : s.mode.mode = .freeze) (halloc : s.axAlloc n = true)
    (hdirect : s.link10 (axis10 n) = false) (hleg : leg.val < 3) (hlatched : s.gd.ax[axis10 n].latched = false)
    (hacts : (s.advance dt).desatActs (axis10 n) leg high = true) :
    ∃ t, exec (.desatTrip dt (axis10 n) leg high) s = .next t ∧ t.but s = { s.advance dt with gd := t.gd, ax := t.ax } ∧
      t.gd.ax[axis10 n].latched = true ∧ t.gd.ax[axis10 n].softAt = some (s.advance dt).gdTime ∧
      t.ax[n] = { s.ax[n] with bridge := if s.ax[n].bridge = .off then .off else .soft } := by
  have hbridge : (s.advance dt).bridged10 (axis10 n) = true := by
    unfold State.bridged10
    rw [show (s.advance dt).mode.mode = .freeze from hmode]
    exact Bool.or_true _
  obtain ⟨hprot, hax⟩ := softOff_direct (s := s.advance dt) hbridge hdirect
  obtain ⟨f, htrip, hf⟩ := desatTrip_freeze (s := s.advance dt) hphase hmode halloc hdirect hleg hlatched hacts
  have F : Frame [.ax, .gd] (s.advance dt) (((s.advance dt).softOff (axis10 n)).modGd (axis10 n) f) :=
    Frame.next (Frame.modGd ..) (by decide) (Frame.softOff_main ..)
  have hsoft := congrArg (fun p => p.2.2.2.2.2) hprot
  have hself := State.modGd_self ((s.advance dt).softOff (axis10 n)) (axis10 n) f
  exact ⟨_, exec_next_of rfl htrip, (but_of_frame F).trans rfl, (congrArg GdAx.latched hself).trans (hf _).1,
    (congrArg GdAx.softAt hself).trans ((hf _).2.trans hsoft), hax n (mainOf_axis10 n)⟩

/-- The end of a soft turn-off: the soft sink of the axis ends, and the record of the trip may follow. -/
def State.softEnded (s : State) (a : Fin 10) : State :=
  let s := s.modGd a (fun g => { g with softAt := none, softLegs := 0, softHigh := 0, softAct := 0 })
  match mainOf a with
  | some n => s.modAx n (fun x => { x with bridge := if x.bridge = .soft then .off else x.bridge })
  | none => s.modAux (auxOf a) (fun x => { x with soft := false })

theorem softEnd_due {since : Nat} (hsoft : s.gd.ax[a].softAt = some since) (hdue : since + 2000 ≤ s.gdTime) :
    s.softEnd a = s.softEnded a ∨ s.softEnd a = (s.softEnded a).noteShort a 0 := by
  unfold State.softEnd
  rw [hsoft]
  dsimp only
  rw [if_pos hdue]
  by_cases h : ((s.softEnded a).gd.ax[a].ascDue.isSome || (s.softEnded a).frozenDie) = true
  · exact .inl (if_pos h)
  · exact .inr (if_neg h)

theorem softEnded_gd (s : State) (a : Fin 10) : (s.softEnded a).gd.ax[a] = { s.gd.ax[a] with softAt := none, softLegs := 0, softHigh := 0, softAct := 0 } := by
  unfold State.softEnded
  extract_lets u
  split <;> exact State.modGd_self ..

theorem noteShort_fastHigh (s : State) (a : Fin 10) (v : Nat) : (s.noteShort a v).gd.ax[a].fastHigh = s.gd.ax[a].fastHigh := by
  unfold State.noteShort
  dsimp only
  split
  · rfl
  · exact (congrArg (fun g : GdSt => g.ax[a].fastHigh) ((Frame.event ..).keep .gd (by decide))).trans (by rw [State.modGd_self])

theorem exec_softTurnOffEnd {since : Nat} (hsoft : s.gd.ax[a].softAt = some since) (hdue : since + 2000 ≤ (s.advance dt).gdTime) :
    ∃ t, exec (.softTurnOffEnd dt a) s = .next t ∧ t.but s = { s.advance dt with gd := t.gd, ax := t.ax, aux := t.aux, recs := t.recs } ∧
      t.gd.ax[a].softAt = none ∧ t.gd.ax[a].fastHigh = s.gd.ax[a].fastHigh ∧
      (∀ n, mainOf a = some n → t.ax[n] = { s.ax[n] with bridge := if s.ax[n].bridge = .soft then .off else s.ax[n].bridge }) ∧
      (mainOf a = none → t.aux[auxOf a] = { s.aux[auxOf a] with soft := false }) := by
  have hgd := softEnded_gd (s.advance dt) a
  have hleft : ((s.advance dt).softEnd a).gd.ax[a].softAt = none ∧ ((s.advance dt).softEnd a).gd.ax[a].fastHigh = s.gd.ax[a].fastHigh ∧
      ((s.advance dt).softEnd a).ax = ((s.advance dt).softEnded a).ax ∧ ((s.advance dt).softEnd a).aux = ((s.advance dt).softEnded a).aux := by
    rcases softEnd_due (s := s.advance dt) hsoft hdue with h | h <;> rw [h]
    · exact ⟨by rw [hgd], by rw [hgd]; rfl, rfl, rfl⟩
    · refine ⟨?_, by rw [noteShort_fastHigh, hgd]; rfl, (Frame.noteShort ..).keep .ax (by decide), (Frame.noteShort ..).keep .aux (by decide)⟩
      exact (congrArg (fun p => p.2.2.2.2.2) ((ProtKept.refl a ((s.advance dt).softEnded a)).noteShort a 0).prot).trans (by rw [hgd])
  obtain ⟨hnone, hfast, hax, haux⟩ := hleft
  refine ⟨_, exec_next_of rfl rfl, (but_of_frame (Frame.softEnd ..)).trans rfl, hnone, hfast, fun n hn => ?_, fun hn => ?_⟩
  · refine (congrArg (fun v : Vector AxSt 6 => v[n]) hax).trans ?_
    unfold State.softEnded
    rw [hn]
    exact State.modAx_self ..
  · refine (congrArg (fun v : Vector AuxAx 4 => v[auxOf a]) haux).trans ?_
    unfold State.softEnded
    rw [hn]
    exact State.modAux_self ..

/-! ## Active short circuit after a trip -/

/-- What bars an ASC after a trip. -/
def State.shortBarred (s : State) (n : Fin 6) : Bool :=
  s.gd.uv || s.gd.ov || !s.gd.swClosed || s.gd.blocked || s.mode.mode == .freeze || s.ax[n].state != .halt

/-- At its instant an ASC after a trip is entered from HALT, where nothing bars it; the trip has its record either way. -/
theorem shortAsc_due {at' : Nat} {high : Bool} {coast : Option Rat} (hdue : s.gd.ax[axis10 n].ascDue = some (at', high, coast)) (hat : at' ≤ s.tb) :
    (s.shortBarred n = true → s.shortAsc n = s.noteShort (axis10 n) 0) ∧
    (s.shortBarred n = false → ∃ value offAt from', s.shortAsc n = ((s.noteShort (axis10 n) value).ascEnter n 2 high true offAt from').modAx n
        fun x => { x with haltReason := (s.noteShort (axis10 n) value).ax[n].haltReason }) := by
  have hstep : s.shortAsc n =
      let u := s.noteShort (axis10 n) (if s.shortBarred n then 0 else if high then 2 else 1)
      if s.shortBarred n then u
      else (u.ascEnter n 2 high true u.tb (coast.map fun v => (1, v))).modAx n fun x => { x with haltReason := u.ax[n].haltReason } := by
    unfold State.shortAsc
    extract_lets g
    have hg : g.ascDue = some (at', high, coast) := hdue
    rw [hg]
    exact if_neg (Nat.not_lt.2 hat)
  constructor <;> intro h <;> rw [hstep, h]
  · rfl
  · exact ⟨_, _, _, rfl⟩

theorem shortBarred_iff (hmode : s.mode.mode ≠ .freeze) :
    s.shortBarred n = true ↔ (s.gd.uv || s.gd.ov || !s.gd.swClosed || s.gd.blocked) = true ∨ s.ax[n].state ≠ .halt := by
  unfold State.shortBarred
  rw [beq_eq_false_iff_ne.2 hmode, Bool.or_false, Bool.or_eq_true, bne_iff_ne]

theorem exec_shortAscEntry {at' : Nat} {high : Bool} {coast : Option Rat} (hrun : s.running = true)
    (hdue : s.gd.ax[axis10 n].ascDue = some (at', high, coast)) (hat : at' ≤ s.tbAt dt) :
    ((s.gd.uv || s.gd.ov || !s.gd.swClosed || s.gd.blocked) = false → s.ax[n].state = .halt →
      ∃ t, exec (.shortAscEntry dt n) s = .next t ∧ t.ax[n].state = .asc ∧ t.ax[n].bridge = .ascWait ∧
        t.ax[n].haltReason = s.ax[n].haltReason ∧ t.ax[n].ascSt.cause = 2 ∧ t.ax[n].ascSt.high = high ∧ t.ax[n].ascSt.follow = true) ∧
    ((s.gd.uv || s.gd.ov || !s.gd.swClosed || s.gd.blocked) = true ∨ s.ax[n].state ≠ .halt →
      ∃ t, exec (.shortAscEntry dt n) s = .next t ∧ t.but s = { s.advance dt with gd := t.gd, recs := t.recs }) := by
  have hrun' : (s.advance dt).running = true := hrun
  have hstep : exec (.shortAscEntry dt n) s = done ((s.advance dt).shortAsc n) := congrArg done (if_pos hrun')
  have hmode := ne_freeze_of_running hrun
  obtain ⟨hbarred, hfree⟩ := shortAsc_due (s := s.advance dt) hdue hat
  have hbars := shortBarred_iff (s := s.advance dt) (n := n) hmode
  refine ⟨fun hnone hhalt => ?_, fun h => ?_⟩
  · obtain ⟨value, offAt, from', hasc⟩ := hfree (Bool.eq_false_iff.2 fun h => by
      rcases hbars.1 h with h | h
      · exact absurd (hnone.symm.trans h) Bool.false_ne_true
      · exact h hhalt)
    have hkeep : ((s.advance dt).noteShort (axis10 n) value).ax = s.ax := (Frame.noteShort ..).keep .ax (by decide)
    obtain ⟨hstate, hbridge, hcause, hhigh, hfollow, -⟩ := State.ascEnter_ax ((s.advance dt).noteShort (axis10 n) value) n 2 high true offAt from'
    have hself := State.modAx_self (((s.advance dt).noteShort (axis10 n) value).ascEnter n 2 high true offAt from') n
      fun x => { x with haltReason := ((s.advance dt).noteShort (axis10 n) value).ax[n].haltReason }
    exact ⟨_, exec_next_of hstep hasc, (congrArg AxSt.state hself).trans hstate, (congrArg AxSt.bridge hself).trans hbridge,
      (congrArg AxSt.haltReason hself).trans (by rw [hkeep]), (congrArg (fun x => x.ascSt.cause) hself).trans hcause,
      (congrArg (fun x => x.ascSt.high) hself).trans hhigh, (congrArg (fun x => x.ascSt.follow) hself).trans hfollow⟩
  · exact ⟨_, exec_next_of hstep (hbarred (hbars.2 h)), (but_of_frame (Frame.noteShort ..)).trans rfl⟩

/-! ## The switches of a half-bridge -/

theorem hbCmd_interlocked (s : State) (h : Nat) : ((s.hbCmd h).1 && (s.hbCmd h).2) = false := by
  have htest (u : HbUser) : ((s.testPattern u).1 && (s.testPattern u).2) = false := by
    unfold State.testPattern
    split
    · next l high _ => split <;> cases high <;> rfl
    · rfl
    · rfl
  have hengine (u : HbUser) : ((s.engineCmd u).1 && (s.engineCmd u).2) = false := by
    have hleg (o : Option (Bool × Rat)) (x : Bool × Bool)
        (hx : x = match o with | some p => (p.1, !p.1) | none => (false, false)) : (x.1 && x.2) = false := by
      subst hx
      cases o with
      | none => rfl
      | some p => exact Bool.and_not_self p.1
    cases u with
    | chop c => rfl
    | ax n k => exact hleg (s.legOn n k) _ (by unfold State.engineCmd; rfl)
    | aux x k => exact hleg (s.auxLegOn x k) _ (by unfold State.engineCmd; rfl)
  unfold State.hbCmd
  split
  · rfl
  · next u _ =>
    split
    · exact htest u
    · exact hengine u
    · exact hengine u
    · rfl

/-! ## The turn-on of an active short circuit -/

/-- An axis in ASC with the switches of one side on from this instant. -/
def AxSt.ascTurned (x : AxSt) (high : Bool) (time : Nat) : AxSt :=
  { x with
    bridge := if high then .ascHigh else .ascLow
    ascSt := { x.ascSt with high := high, onAt := time, coast := none, side := none, first := some (x.ascSt.first.getD time) } }

/-- The state with one side of an axis turned on; the low sides have then run. -/
def State.ascTurned (s : State) (n : Fin 6) (high : Bool) : State :=
  let u := s.modAx n fun x => x.ascTurned high s.tb
  if high then u else u.modGd (axis10 n) fun g => { g with lowRan := 15 }

/-- The records of a turn-on: the side refused, the side changed, the first turn-on, and the coast that it replaces. -/
def State.ascNotes (s : State) (n : Fin 6) (x : AscSt) (refuse : Bool) (lowest : Nat) : State :=
  let s := if refuse then s.event s.tb (Unit.ax n) 0x0606 0 lowest else s
  let s := match x.side with
    | some mv => s.event s.tb (Unit.ax n) 0x0606 1 mv
    | none => s
  let s := if x.first.isSome then s else s.event s.tb (Unit.ax n) 0x0807 x.cause (rpm10 (s.nAsc n))
  match x.coast with
  | some (d, v) => s.event s.tb (Unit.ax n) 0x0A09 d (rpm10 v)
  | none => s

theorem Frame.ascNotes (s : State) (n : Fin 6) (x : AscSt) (refuse : Bool) (lowest : Nat) : Frame [.recs] s (s.ascNotes n x refuse lowest) := by
  unfold State.ascNotes
  extract_lets u v w
  have hu : Frame [.recs] s u := Frame.ite (Frame.event ..) (Frame.refl ..)
  have hv : Frame [.recs] s v := by
    unfold v
    split
    · exact Frame.next (Frame.event ..) (by decide) hu
    · exact hu
  have hw : Frame [.recs] s w := Frame.ite hv (Frame.next (Frame.event ..) (by decide) hv)
  split
  · exact Frame.next (Frame.event ..) (by decide) hw
  · exact hw

/-- The high side of an axis is refused: in direct mode, but after a trip, with a supply that is not up. -/
def State.highRefused (s : State) (n : Fin 6) (lowest : Nat) : Bool :=
  s.ax[n].ascSt.high && !s.ax[n].ascSt.follow && !s.axLink n && (decide (lowest < 9000) || !s.hsReady (axis10 n))

theorem ascOn_due {lowest : Nat} (hmode : s.mode.mode ≠ .freeze) (hstate : s.ax[n].state = .asc) (hbridge : s.ax[n].bridge = .ascWait)
    (hon : s.ax[n].ascSt.onAt ≤ s.tb) (hoff : s.ax[n].ascSt.offAt + 20 ≤ s.tb) :
    s.ascOn n lowest = (s.ascTurned n (s.ax[n].ascSt.high && !s.highRefused n lowest)).ascNotes n s.ax[n].ascSt (s.highRefused n lowest) lowest := by
  have hoff' : decide (((s.ax[n].ascSt.offAt : Nat) : Rat) + 20 ≤ (s.tb : Nat)) = true := decide_eq_true (by exact_mod_cast hoff)
  have hpass : ∀ high : Bool, ((interlock high (!high) s.ax[n].ascSt.offAt s.ax[n].ascSt.offAt s.tb).1 ||
      (interlock high (!high) s.ax[n].ascSt.offAt s.ax[n].ascSt.offAt s.tb).2) = true := by
    intro high
    unfold interlock
    rw [hoff']
    cases high <;> rfl
  unfold State.ascOn
  dsimp only
  rw [if_pos ⟨hstate, hbridge, hon, hpass _, hmode⟩]
  rfl

theorem Frame.ascTurned (s : State) (n : Fin 6) (high : Bool) : Frame [.ax, .gd] s (s.ascTurned n high) := by
  unfold State.ascTurned
  exact Frame.ite (Frame.next (Frame.modAx ..) (by decide) (Frame.refl ..))
    (Frame.next (Frame.modGd ..) (by decide) (Frame.next (Frame.modAx ..) (by decide) (Frame.refl ..)))

theorem ascTurned_ax (s : State) (n : Fin 6) (high : Bool) : (s.ascTurned n high).ax[n] = s.ax[n].ascTurned high s.tb := by
  unfold State.ascTurned
  cases high <;> exact State.modAx_self ..

theorem ascTurned_gd (s : State) (n : Fin 6) (high : Bool) : (s.ascTurned n high).gd = { s.gd with ax := (s.ascTurned n high).gd.ax } ∧
    ∀ a : Fin 10, (s.ascTurned n high).gd.ax[a] = { s.gd.ax[a] with lowRan := (s.ascTurned n high).gd.ax[a].lowRan } := by
  cases high with
  | true => exact ⟨rfl, fun _ => rfl⟩
  | false =>
    refine ⟨rfl, fun a => ?_⟩
    by_cases h : a = axis10 n
    · subst h
      have hself := State.modGd_self (s.modAx n fun x => x.ascTurned false s.tb) (axis10 n) fun g => { g with lowRan := 15 }
      exact hself.trans (by rw [show (s.ascTurned n false).gd.ax[axis10 n] = _ from hself]; rfl)
    · have hother := State.modGd_other (s.modAx n fun x => x.ascTurned false s.tb) (axis10 n) a (fun g => { g with lowRan := 15 }) h
      exact hother.trans (by rw [show (s.ascTurned n false).gd.ax[a] = _ from hother]; rfl)

/-- What the turn-on leaves, whichever side it is. -/
theorem exec_ascSwitchOn {lowest : Nat} (hrun : s.running = true) (hstate : s.ax[n].state = .asc) (hbridge : s.ax[n].bridge = .ascWait)
    (hon : s.ax[n].ascSt.onAt ≤ s.tbAt dt) (hoff : s.ax[n].ascSt.offAt + 20 ≤ s.tbAt dt) :
    ∃ v w, v = (s.advance dt).ascTurned n (s.ax[n].ascSt.high && !s.highRefused n lowest) ∧
      w = v.ascNotes n s.ax[n].ascSt (s.highRefused n lowest) lowest ∧ exec (.ascSwitchOn dt n lowest) s = .next w.settle ∧
      w.settle.but s = { s.advance dt with gd := { s.gd with ax := w.gd.ax }, ax := w.ax, recs := w.recs } ∧
      (∀ a : Fin 10, w.gd.ax[a] = { s.gd.ax[a] with lowRan := w.gd.ax[a].lowRan }) ∧
      w.ax[n] = s.ax[n].ascTurned (s.ax[n].ascSt.high && !s.highRefused n lowest) (s.tbAt dt) := by
  have hrun' : (s.advance dt).running = true := hrun
  have hself := ascTurned_ax (s.advance dt) n (s.ax[n].ascSt.high && !s.highRefused n lowest)
  obtain ⟨hgd, hran⟩ := ascTurned_gd (s.advance dt) n (s.ax[n].ascSt.high && !s.highRefused n lowest)
  have F := Frame.ascTurned (s.advance dt) n (s.ax[n].ascSt.high && !s.highRefused n lowest)
  refine ⟨_, _, rfl, rfl, exec_next_of (congrArg done (if_pos hrun')) (ascOn_due (s := s.advance dt) (ne_freeze_of_running hrun) hstate hbridge hon hoff), ?_⟩
  generalize (s.advance dt).ascTurned n (s.ax[n].ascSt.high && !s.highRefused n lowest) = v at hself hgd hran F ⊢
  have G := Frame.ascNotes v n s.ax[n].ascSt (s.highRefused n lowest) lowest
  generalize v.ascNotes n s.ax[n].ascSt (s.highRefused n lowest) lowest = w at G ⊢
  have hwgd : w.gd = v.gd := G.keep .gd (by decide)
  have hwax : w.ax = v.ax := G.keep .ax (by decide)
  have hall : Frame [.recs, .ax, .gd] (s.advance dt) w := Frame.next G (by decide) (Frame.next F (by decide) (Frame.refl ..))
  refine ⟨(but_of_frame hall).trans ?_, fun a => by rw [hwgd]; exact hran a, by rw [hwax]; exact hself⟩
  have hrest : w.gd = { s.gd with ax := w.gd.ax } := by
    rw [hwgd]
    exact hgd
  exact congrArg (fun g => { s.advance dt with gd := g, ax := w.ax, recs := w.recs }) hrest

/-- The records of a turn-on of the low side: the first one, and one after a change of side. -/
theorem ascNotes_wrote {v : State} {x : AscSt} {lowest : Nat} (F : Frame [.ax, .gd] (s.advance dt) v) (hphase : s.pwr.phase = .running) (hcoast : x.coast = none) :
    (x.first = none → x.side = none →
      Wrote s (v.ascNotes n x false lowest) [evtOf (s.tbAt dt) (Unit.ax n) 0x0807 x.cause (rpm10 (s.nAsc n))]) ∧
    (∀ mv, x.first.isSome = true → x.side = some mv → Wrote s (v.ascNotes n x false lowest) [evtOf (s.tbAt dt) (Unit.ax n) 0x0606 1 mv]) := by
  have hrecs : v.recs = s.recs := F.keep .recs (by decide)
  have hpwr : v.pwr = s.pwr := F.keep .pwr (by decide)
  have hregs : v.regs = s.regs := F.keep .regs (by decide)
  have hsns : v.sns = s.sns := F.keep .sns (by decide)
  have htb : v.tb = s.tbAt dt := State.tb_congr (F.keep .clk (by decide))
  rw [← htb, ← State.nAsc_congr hregs hsns n]
  unfold State.ascNotes
  rw [hcoast]
  constructor
  · intro hfirst hside
    rw [hfirst, hside]
    exact Wrote.event_one hphase hrecs hpwr hregs
  · intro mv hfirst hside
    rw [hside]
    dsimp only
    rw [if_pos hfirst]
    exact Wrote.event_one hphase hrecs hpwr hregs

end

/-- Settles O19: every first trip takes one course, whichever detector it came from; the later stages act on what it left. -/
theorem shortCircuitProtection : Obligations.ShortCircuitProtection := by
  unfold Obligations.ShortCircuitProtection
  intro s dt
  refine ⟨?_, fun n leg high => exec_desatTrip_freeze, fun a since => exec_softTurnOffEnd, fun n at' high coast => exec_shortAscEntry,
    hbCmd_interlocked s, ?_⟩
  · intro a c hrun halloc hlatched hidle hfollow hinput
    have hkind : ∃ k, TripInput s dt a c k := by
      rcases hinput with ⟨leg, high, rfl, hdirect, hleg, hacts⟩ | ⟨n, ha, rfl⟩ | ⟨leg, rfl, hleg, hwas, hlink⟩
      · exact ⟨_, .desat leg high hdirect hleg hacts⟩
      · exact ⟨_, .fast n ha⟩
      · exact ⟨_, .link leg hleg hwas hlink⟩
    obtain ⟨k, hk⟩ := hkind
    obtain ⟨t, hexec, htrip⟩ := exec_tripInput hk hrun halloc hlatched hidle hfollow
    refine ⟨_, hexec, htrip.latched, htrip.tripAt, fun leg high hc => ?_, fun n hc => ?_, fun leg hc => ?_, htrip.soft, htrip.main, htrip.aux⟩
    · subst hc
      cases hk
      exact htrip.desat
    · subst hc
      cases hk
      exact htrip.fast
    · subst hc
      cases hk
      exact htrip.link
  · intro n lowest hrun hstate hbridge hon hoff
    obtain ⟨v, w, hv, hw, hexec, hbut, hran, hax⟩ := exec_ascSwitchOn (lowest := lowest) hrun hstate hbridge hon hoff
    have hside {high : Bool} (h : (s.ax[n].ascSt.high && !s.highRefused n lowest) = high) :
        w.ax[n].bridge = (if high then .ascHigh else .ascLow) ∧ w.ax[n].ascSt.high = high := by
      rw [hax, h]
      exact ⟨rfl, rfl⟩
    refine ⟨_, hexec, hbut, hran, congrArg (fun x => x.ascSt.first) hax, fun hhigh hready => ?_, fun hhigh hlink hfollow hlow => ?_, fun hlow => ?_⟩
    · have hserved : s.highRefused n lowest = false := by
        unfold State.highRefused
        rcases hready with h | h | ⟨hmv, hup⟩
        · rw [h, Bool.not_true, Bool.and_false, Bool.false_and]
        · rw [h, Bool.not_true, Bool.and_false, Bool.false_and, Bool.false_and]
        · rw [decide_eq_false (Nat.not_lt.2 hmv), hup, Bool.not_true, Bool.or_false, Bool.and_false]
      exact (hside (by rw [hhigh, hserved, Bool.not_false, Bool.and_true])).1
    · have hdown : (decide (lowest < 9000) || !s.hsReady (axis10 n)) = true := by
        rcases hlow with h | h
        · rw [decide_eq_true h, Bool.true_or]
        · rw [h, Bool.not_false, Bool.or_true]
      have hrefused : s.highRefused n lowest = true := by
        unfold State.highRefused
        rw [hhigh, hfollow, hlink, hdown]
        rfl
      exact hside (by rw [hrefused, Bool.not_true, Bool.and_false])
    · have hserved : s.highRefused n lowest = false := by
        unfold State.highRefused
        rw [hlow, Bool.false_and, Bool.false_and, Bool.false_and]
      rw [hserved] at hw
      have F : Frame [.ax, .gd] (s.advance dt) v := hv ▸ Frame.ascTurned ..
      have hwrote (hcoast : s.ax[n].ascSt.coast = none) := ascNotes_wrote (n := n) (lowest := lowest) F (run_phase hrun) hcoast
      refine ⟨(hside (high := false) (by rw [hlow, Bool.false_and])).1, fun hfirst hcoast hnone => ?_, fun mv hfirst hcoast hsome => ?_⟩
      · exact (hw ▸ (hwrote hcoast).1 hfirst hnone :).settle
      · exact (hw ▸ (hwrote hcoast).2 mv hfirst hsome :).settle

end Sys2Proof.Machine
end
